-- ==== Sys2Proof/Word.lean ====
section
/-! DEFINITION. The byte, and the table type that every numbered collection of the model uses. -/

namespace Sys2Proof

/-- One octet of a transfer, of a plane, of a frame or of the flash (R54). -/
abbrev Byte := BitVec 8

/-- A collection of numbered things: pairs of a number and a value, numbers strictly rising. A number that is
not listed stands for the collection's default value (Machine/Tab.lean reads and writes it). -/
abbrev Tab (α : Type) := List (Nat × α)

end Sys2Proof
end

