-- ==== Sys2Proof/Types.lean ====
section
/-! DEFINITION. The plain data that commands and the state share: accessors, modes, frames, results of kick-off steps. -/

namespace Sys2Proof

/-- The accessors of the dictionary (R53, R247). A session is named by its number in State.net, an anonymous
accessor by its IPv4 address and UDP port. `firmware` is ROM 3.2 itself (R92). -/
inductive Accessor where
  | pf0
  | vf (k : Fin 64)
  | partner (n : Fin 2048)
  | session (id : Nat)
  | anon (ip port : Nat)
  | jtag
  | firmware
deriving DecidableEq, Repr

/-- The twelve modes (R38); `Mode.code` in Machine/Bits.lean gives the codes. -/
inductive Mode where
  | kickoff | terp | standby | warmup | ready | rally | runout | calibrate | service | doze | safestop | shutdown
deriving DecidableEq, Repr

/-- Where a received TDP frame came from, and what its envelope says (R206, R207, R249): the port, the source
partner number, on ETH the source address and UDP port, whether it was a classical CAN frame, and on an authenticated
PDU the trailer's sequence and its 16 tag bytes. -/
structure FrameSrc where
  port : Fin 7
  src : Fin 2048
  ip : Nat
  udpPort : Nat
  classical : Bool
  auth : Option (Nat × List Byte)
deriving DecidableEq, Repr

/-- The payload of a received TDP frame that asks for service, field by field (R209). -/
inductive Pdu where
  | read (tid idx sub : Nat)
  | writeExp (tid idx sub : Nat) (data : List Byte)
  | writeSeg (tid idx sub total : Nat)
  | segment (tid : Nat) (last : Bool) (seq : Nat) (data : List Byte)
  | segAck (tid seq : Nat)
  | abort (tid code : Nat)
  | readResponse (tid status : Nat) (data : List Byte)
  | writeResponse (tid status code : Nat)
  | cyclicIn (map cycle : Nat) (data : List Byte)
  | rollcallAnswer (identity dictRev plcaId : Nat)
  | rollcall (round base slots slotLen : Nat)
  | sessionHello (slot : Nat) (nonce : List Byte)
  | sessionClose (slot : Nat)
deriving DecidableEq, Repr

/-- A frame as it leaves a field port (R203 to R207): a CAN frame with its identifier, its format and its data; an Ethernet II frame on T1S;
a UDP datagram on ETH with the address and port it goes to and the port it comes from. -/
inductive Wire where
  | can (ident : Nat) (fd : Bool) (data : List Byte)
  | t1s (dstMac srcMac : List Byte) (etherType : Nat) (data : List Byte)
  | udp (ip dstPort srcPort : Nat) (data : List Byte)
deriving DecidableEq, Repr

/-- What the world outside answers to a step of kick-off (R104): the command KICKOFF_STEP_COMPLETE carries it.
The numbers of the constructors are the steps of the kick-off timeline. -/
inductive KickResult where
  /-- Step 2: the voltages in mV on the twelve strap pins in the first and in the second reading, none for an open pin (R97, R99, R100),
  and the level of TEST_EN (R587). -/
  | straps (first second : List (Option Nat)) (testEn : Bool)
  /-- Step 3: whether a flash answers SFDP, and whether its journal can be read (R122, R132). -/
  | flashReader (answers journalReadable : Bool)
  /-- Step 4: whether the reference is present and within 0.5 % (R104). -/
  | reference (ok : Bool)
  /-- Step 5: the last deadline of the on-sequence has passed (R152). -/
  | railSequence
  /-- Step 6: the core is out of reset; the junction temperature in 0.1 °C, as two's complement (R104). -/
  | coreReset (tj : Int)
  /-- Step 7: the result of the ROM check in lockstep. -/
  | romCheck (ok : Bool)
  /-- Step 8: the result of the SRAM self-test. -/
  | sramTest (ok : Bool)
  /-- Step 9: the image has been read in quad mode. -/
  | imageRead
  /-- Step 10: the dictionary is loaded. -/
  | dictionary
  /-- Step 11: the station DLLs of the present stations have locked after the relock (R104). -/
  | synthesizer
  /-- Step 12: the field ports leave standby. -/
  | fieldPorts
  /-- Step 13: whether each of two trainings succeeds (R289). -/
  | dramTraining (first second : Bool)
  /-- Step 14: the roll-call broadcast is due. -/
  | rollcall
deriving DecidableEq, Repr

/-- The readers of DRAM in the order of the table of R294. -/
inductive DramReader where
  | decoder (st : Fin 6)
  | ingest (tn : Fin 64)
  | patrol
  | firmware
deriving DecidableEq, Repr

/-- What is wrong with a 64-byte beat as it is read from DRAM (R292): the bits that have flipped in each half, 0 to 255 in its 32 bytes and 256 to
271 in its check bits, and whether the beat came from another address. -/
structure BeatErrors where
  low : List (Fin 272) := []
  high : List (Fin 272) := []
  moved : Bool := false
deriving DecidableEq, Repr

/-- One beat of DRAM that is read with errors: its address, the errors of the read, and those of the read again (R294). -/
structure BeatRead where
  addr : Nat
  first : BeatErrors
  again : BeatErrors
deriving DecidableEq, Repr

/-- One 64-bit word of a decoder's input buffer that is read with errors (R317, R319): its byte position in the band, the bits that have flipped, 0
to 63 data and 64 to 71 check bits, and the beat as it is fetched again from DRAM. -/
structure InputWord where
  at_ : Nat
  bits : List (Fin 72)
  refetch : BeatRead
deriving DecidableEq, Repr

/-- One 64-bit word of a station FIFO that a scan reads with errors (R317, R318, R334): line, word in the line, the bits that have flipped as it is
read and as it is read once more. -/
structure FifoWord where
  line : Nat
  word : Nat
  first : List (Fin 72)
  again : List (Fin 72)
deriving DecidableEq, Repr

/-- What a rail's filter has seen (R142): the reading of its VMON, and for how many consecutive samples it has stood so. -/
structure RailSamples where
  reading : Nat
  samples : Nat
deriving DecidableEq, Repr

/-- What a wrong pointer copy read as (R320): the station, the write or the read pointer, the plain or the inverted copy, its value. -/
structure PointerCopy where
  st : Fin 6
  write : Bool
  inverted : Bool
  v : Nat
deriving DecidableEq, Repr

/-- What a dike period has seen (R301, R276, R295): the beats each client asked for, those that ingest asked for by tenant, and the beats that
patrol read with errors. -/
structure DikeWork where
  demand : List Nat
  asks : List Nat
  reads : List BeatRead
deriving DecidableEq, Repr

/-- The buffer of a mailbox access (R261): its length field and its host address. -/
structure MailBuffer where
  len : Nat
  addr : Nat
deriving DecidableEq, Repr

/-- A plane's data as it arrives (R273, R293), and the beats that ingest reads from DRAM meanwhile and that meet errors. -/
structure PlaneData where
  data : List Byte
  reads : List BeatRead
deriving DecidableEq, Repr

/-- An edge of a tooth input: rising or falling, and its time in phases (R101, R427). -/
structure ToothEdge where
  rising : Bool
  t : Nat
deriving DecidableEq, Repr

/-- A sample of a motor's shunt (R464): the motor, and the code of its converter. -/
structure ShuntSample where
  m : Fin 12
  code : Int
deriving DecidableEq, Repr

/-- The supply of a bank of pads (R535): its voltage in mV, and for how many µs it has stood so. -/
structure BankSupply where
  mv : Nat
  held : Nat
deriving DecidableEq, Repr

/-- How an ingest read can end in error (R278). -/
inductive IngestError where
  | poisoned | unsupported | completerAbort | timeout
deriving DecidableEq, Repr

/-- An ingest read that ended in error (R259, R278): how, its host address and its length. -/
structure IngestFail where
  how : IngestError
  addr : Nat
  len : Nat
deriving DecidableEq, Repr

/-- What a mark sensor samples at 1 Msps around one expected edge (R365): the press time of the first sample, the direction that the patch is
expected to show, and the 12-bit codes. -/
structure EdgeSignal where
  start : Nat
  rising : Bool
  codes : List Nat
deriving DecidableEq, Repr

/-- One chevron as it passes under a mark sensor (R366): its sensor, the beam and facet that drew it, the belt position at which its straight edge is
expected and the nominal separation of its edges, both in nm, and the signals of the straight edge and of the 45° edge. -/
structure Chevron where
  sensor : Fin 4
  beam : Fin 16
  facet : Fin 12
  expected : Nat
  nominal : Nat
  straight : EdgeSignal
  slant : EdgeSignal
deriving DecidableEq, Repr

/-- The inputs of an axis (R469). -/
inductive AxisInput where
  | index | flt | home | limN | limP
deriving DecidableEq, Repr

end Sys2Proof
end

