-- ==== Sys2Proof/Syntax.lean ====
section
/-! DEFINITION. The commands of the TZ640: one constructor for each row of spec/opcode_table.json, in the table's order.
The operands say what the event or the access brings with it; instance numbers are bounded by their types (R12). -/

namespace Sys2Proof

/-- The commands, one for each row of the table (spec/opcode_table.json). A command that is a write carries its
accessor and the octets written; a command that is an event carries what the event brings from outside. -/
inductive Instr where
  -- start, stop and rails (03, 04)
  | aonPowerGood
  | kickoffWatchdog
  | warmResetHoldEnd
  | porst
  | brownOut
  | wakeIn
  | pciExpressWake
  | dozeWakeComplete (index : Nat)
  | terpRestart (acc : Accessor) (data : List Byte)
  | ownerKeyWrite (acc : Accessor) (data : List Byte)
  | debugChallenge
  | debugResponse (rs : List Byte)
  | railEnable (r : Fin 16)
  | railGood (r : Fin 16) (x : RailSamples)
  | rampFault (r : Fin 16) (reading : Nat)
  | retryPauseEnd
  | railWarning (r : Fin 16) (x : RailSamples)
  | railFault (r : Fin 16) (x : RailSamples)
  | railResetOffStart
  | railDisable (r : Fin 16)
  | shutdownOffStart
  | shutdownSequenceEnd
  | dozeEnter
  -- modes (01)
  | modeRequest (acc : Accessor) (data : List Byte)
  | safestopEntryComplete
  | safestopAcknowledge (acc : Accessor) (data : List Byte)
  | admissionEnable (acc : Accessor) (data : List Byte)
  | modeRouteStep
  | warmupComplete
  | warmupLimitExpiry
  | standbyIdleExpiry
  | readyIdleExpiry
  | calibrationComplete
  -- dictionary (02)
  | objectWrite (acc : Accessor) (idx sub : Nat) (data : List Byte)
  | thresholdWrite (acc : Accessor) (idx sub : Nat) (data : List Byte)
  | watermarkLatchRead (acc : Accessor) (idx sub : Nat)
  | readToClear (acc : Accessor) (idx sub : Nat)
  | apply (acc : Accessor) (data : List Byte)
  | discardStaging (acc : Accessor) (data : List Byte)
  | deferredGroupTake (g : Fin 21)
  | anonymousAccessorTimeout (ip port : Nat)
  | patronHeartbeat
  -- clocks (05)
  | referenceLoss
  | referenceLossReset
  | relock (acc : Accessor) (data : List Byte)
  | relockLockDetect
  | relockLockTimeout
  | relockSettleEnd (held : Bool)
  | frequencyCheckEnd (count : Nat)
  | stationDllLocked (st : Fin 6)
  | ceilingTrip
  | timebaseLockLoss
  | dllLockLoss (st : Fin 6)
  | dllRelockTimeout (st : Fin 6)
  -- field network (06)
  | read (src : FrameSrc) (tid idx sub : Nat)
  | writeExpedited (src : FrameSrc) (tid idx sub : Nat) (data : List Byte)
  | writeSegmented (src : FrameSrc) (tid idx sub total : Nat)
  | segment (src : FrameSrc) (tid : Nat) (last : Bool) (seq : Nat) (data : List Byte)
  | segmentAck (src : FrameSrc) (tid seq : Nat)
  | abort (src : FrameSrc) (tid code : Nat)
  | readResponse (src : FrameSrc) (tid status : Nat) (data : List Byte)
  | writeResponse (src : FrameSrc) (tid status code : Nat)
  | cyclicIn (src : FrameSrc) (map cycle : Nat) (data : List Byte)
  | rollcallAnswer (src : FrameSrc) (identity dictRev plcaId : Nat)
  | rollcall (src : FrameSrc) (round base slots slotLen : Nat)
  | sessionHello (src : FrameSrc) (slot : Nat) (nonce : List Byte)
  | sessionClose (src : FrameSrc) (slot : Nat)
  | nonTdpFrame (p : Fin 4)
  | invalidTdpFrame (p : Fin 7) (badAuth : Bool)
  | lowerRetryExpiry (n : Fin 2048) (tid : Nat)
  | upperTimeout (n : Fin 2048) (tid : Nat)
  | busOff (p : Fin 4)
  | rollcallBlockEnd (p : Fin 7)
  | rollcallPollTimeout (p : Fin 7)
  | rollCallComplete
  | partnerIdleTimeout (n : Fin 2048)
  | sessionTimeout (id : Nat)
  | portConfigWrite (acc : Accessor) (p : Fin 7) (sub : Nat) (data : List Byte)
  | partnerPortWrite (acc : Accessor) (n : Fin 2048) (data : List Byte)
  | keySlotWrite (acc : Accessor) (sub : Nat) (data : List Byte)
  -- host link and tenants (07)
  | sheetTailDoorbell (t : Fin 64) (index : Nat)
  | completionHeadDoorbell (t : Fin 64) (index : Nat)
  | cancelDoorbell (t : Fin 64) (index : Nat)
  | mailboxRead (fn : Fin 65) (op idx sub : Nat) (buffer : MailBuffer)
  | mailboxWrite (fn : Fin 65) (idx sub len addr : Nat) (data : List Byte)
  | descriptorFetch (t : Fin 64)
  | descriptorReceived (t : Fin 64) (bytes : List Byte)
  | planeFetchStart (t : Fin 64)
  | planeReadCompletion (t : Fin 64) (ring : Nat) (st : Fin 6) (unit : Nat) (plane : PlaneData)
  | ingestReadError (t : Fin 64) (e : IngestFail) (repeatFails : Bool)
  | coalescingTimeout (t : Fin 64)
  | busMasterEnable (t : Fin 64) (on : Bool)
  | functionLevelReset (fn : Fin 65)
  | pePerst
  | tenantResetWrite (acc : Accessor) (t : Fin 64) (data : List Byte)
  | tenantEnable (acc : Accessor) (t : Fin 64) (data : List Byte)
  | tenantDisable (acc : Accessor) (t : Fin 64) (data : List Byte)
  | scrubComplete (t : Fin 64)
  -- memory and admission (08)
  | mr4Read (a b : Fin 8)
  | dramUncorrectableRead (reader : DramReader) (addr : Nat) (errors : BeatErrors × BeatErrors)
  | patrolOverdue
  | dikePeriod (work : DikeWork)
  | admissionPass
  -- raster (09)
  | decoderPlaneStart (st : Fin 6)
  | bandDecode (st : Fin 6) (unit : Nat) (reads : List BeatRead) (words : List InputWord)
  | pointerMismatch (copy : PointerCopy)
  | scanStart (st : Fin 6) (lastLineBytes inputHeld : Nat) (words : List FifoWord)
  | scanUnderrun (st : Fin 6) (pixel : Nat)
  | scanEnd (st : Fin 6)
  -- scan (10)
  | bdEdge (st : Fin 6) (e : ToothEdge)
  | bdWindowClose (st : Fin 6)
  | patchMeasurement (st : Fin 6) (marks : List Chevron)
  -- beam link (11)
  | linkRetrain (acc : Accessor) (st : Fin 6) (data : List Byte)
  | bringUpStepTimeout (st : Fin 6)
  | ldFltSoftError (st : Fin 6)
  | ldFltHardFault (st : Fin 6) (status : Nat)
  | serdesLockLoss (st : Fin 6) (status : Nat)
  | serviceApcWindow (acc : Accessor) (st : Fin 6) (data : List Byte)
  | serviceBdWindowsStart (acc : Accessor) (st : Fin 6) (data : List Byte)
  | serviceBdWindowsStop (acc : Accessor) (st : Fin 6) (data : List Byte)
  | serviceWindow (acc : Accessor) (st : Fin 6) (data : List Byte)
  | ilockOpen
  | ilockClosedHoldEnd
  -- scheduler (12)
  | image (slot : Fin 640) (late : Bool)
  | axisMove (slot : Fin 1024)
  | axisRampedStop (slot : Fin 1024)
  | motorSpeed (slot : Fin 1024)
  | pinSet (slot : Fin 1024)
  | arrivalCheck (slot : Fin 1024) (levels : List (Nat × Bool))
  | loopSetPointBank (slot : Fin 1024)
  | loopOn (slot : Fin 1024)
  | loopOff (slot : Fin 1024)
  | networkCycleStart (skipped : Bool)
  | sheetExit (slot : Fin 1024)
  | logMark (slot : Fin 1024)
  | captureTrigger (slot : Fin 1024)
  | postEvent (acc : Accessor) (data : List Byte)
  | cancelByTag (acc : Accessor) (data : List Byte)
  | encoderEdge (tt : Fin 12) (e : ToothEdge)
  | encoderWindowClose (tt : Fin 12)
  -- motors (13)
  | pwmPeriod (m : Fin 12) (sample1 sample2 : Int)
  | speedCommand (acc : Accessor) (m : Fin 12) (data : List Byte)
  | alignEnd (m : Fin 6)
  | rampEnd (m : Fin 6)
  | zeroCrossing (m : Fin 6) (t : Nat)
  | commutation (m : Fin 12) (t : Nat)
  | hallEdge (m : Fin 12) (code : Fin 8) (t : Nat)
  | overcurrent (x : ShuntSample)
  | stallTimeout (m : Fin 12)
  | backEmfLoss (m : Fin 6)
  | motorRestart (m : Fin 12)
  | brakeEnd (m : Fin 12)
  -- axes (14)
  | axisMoveCommand (acc : Accessor) (a : Fin 16) (data : List Byte)
  | groupMoveCommand (acc : Accessor) (a : Fin 16) (data : List Byte)
  | axisRampedStopCommand (acc : Accessor) (a : Fin 16) (data : List Byte)
  | axisHardStopCommand (acc : Accessor) (a : Fin 16) (data : List Byte)
  | axisResume (acc : Accessor) (a : Fin 16) (data : List Byte)
  | axisHome (acc : Accessor) (a : Fin 16) (data : List Byte)
  | axisEnable (acc : Accessor) (a : Fin 16) (data : List Byte)
  | moveEnd (a : Fin 16)
  | deferredCommandRelease (target : Fin 28)
  | standstillDelayEnd (a : Fin 16)
  | homingLatch (a : Fin 16)
  | homingSearchEnd (a : Fin 16)
  | limitActive (a : Fin 16) (positive : Bool)
  | axisDriverFault (a : Fin 16)
  | axisReenable (a : Fin 16)
  -- loops (15)
  | loopEvaluation (n : Fin 48)
  | loopRestart (n : Fin 48)
  | loopOnCommand (acc : Accessor) (n : Fin 48) (data : List Byte)
  | loopOffCommand (acc : Accessor) (n : Fin 48) (data : List Byte)
  | bankWrite (acc : Accessor) (n : Fin 48) (data : List Byte)
  | conversion (i : Fin 48) (v1 v2 : Nat)
  | zcInEdge
  | zeroCrossTimeout
  | injectionStart (acc : Accessor) (data : List Byte)
  | injectionStop (acc : Accessor) (data : List Byte)
  | captureArm (acc : Accessor) (data : List Byte)
  | captureTriggerWrite (acc : Accessor) (data : List Byte)
  -- pins (16)
  | pinLock (acc : Accessor) (p : Fin 96) (data : List Byte)
  | lockAll (acc : Accessor) (data : List Byte)
  | driveMismatch (p : Fin 96)
  | bankSupplyChange (bank33 : Bool) (x : BankSupply)
  -- umpire, log, thermal (17, 18)
  | lockstepMismatch
  | watchdogExpiry
  | umpireReset
  | safeNMismatch
  | mirrorErase
  | logRead (acc : Accessor)
  | noticeRead (acc : Accessor)
  | tjSample (sensors : List Int)
  | thermalShutdown
  -- completions and releases
  | kickoffStepComplete (r : KickResult)
  | porstRelease
  | pePerstRelease (speed width : Nat)
  | numvfsWrite (n : Nat)
  | bringUpStepComplete (st : Fin 6) (regs : List Nat)
  | busOffRecoveryComplete (p : Fin 4)
  | canErrorFrame (p : Fin 4) (n : Fin 2048)
  | arpRequest (senderIp senderMac targetIp : Nat)
  | icmpEchoRequest (senderIp : Nat) (payload : List Byte)
  | homeActive (a : Fin 16)
  | axisFltInactive (a : Fin 16)
  | safeNMismatchEnd
  | ilockClose
deriving DecidableEq, Repr

end Sys2Proof
end

