-- ==== Sys2Proof/Machine/Bits.lean ====
section
/-! DEFINITION. Bits, byte order, two's complement, CRC-32 and the codes of the modes. -/

namespace Sys2Proof.Machine

/-- Bits [lo+w-1:lo] of n. -/
def field (n lo w : Nat) : Nat := (n >>> lo) % 2 ^ w

/-- Bit i of n as a number. -/
def bitOf (n i : Nat) : Nat := (n >>> i) % 2

/-- n with bit i set. -/
def setBit (n i : Nat) : Nat := n ||| (1 <<< i)

/-- n with bit i clear. -/
def clrBit (n i : Nat) : Nat := if n.testBit i then n - 2 ^ i else n

/-- The positions below w at which n has a 1. -/
def bitsOf (w n : Nat) : List Nat := (List.range w).filter fun i => n.testBit i

/-- 0 or 1. -/
def ofBool (b : Bool) : Nat := if b then 1 else 0

/-- The value of a w-bit image in two's complement (R54). -/
def sInt (w n : Nat) : Int := if n % 2 ^ w < 2 ^ (w - 1) then (n % 2 ^ w : Nat) else (n % 2 ^ w : Nat) - (2 ^ w : Nat)

/-- The w-bit image of an integer in two's complement (R54). -/
def sImg (w : Nat) (i : Int) : Nat := (i % (2 ^ w : Nat)).toNat

/-- i limited to lo and hi. -/
def clamp (lo hi i : Int) : Int := if i < lo then lo else if hi < i then hi else i

/-- n / d rounded up; 0 when d is 0. -/
def ceilDiv (n d : Nat) : Nat := (n + d - 1) / d

/-- n / d to the nearest integer, halves up; 0 when d is 0. -/
def roundDiv (n d : Nat) : Nat := (2 * n + d) / (2 * d)

/-- i / d to the nearest integer, halves up, for a positive d. -/
def roundDivI (i : Int) (d : Nat) : Int := (2 * i + d) / (2 * (d : Int))

/-- The n octets of v, least significant first (R4). -/
def leBytes : Nat → Nat → List Byte
  | 0, _ => []
  | n + 1, v => BitVec.ofNat 8 v :: leBytes n (v / 256)

/-- The value of octets, least significant first (R4). -/
def ofLe : List Byte → Nat
  | [] => 0
  | b :: t => b.toNat + 256 * ofLe t

/-- The value of octets, most significant first (R89, R388). -/
def ofBe (l : List Byte) : Nat := ofLe l.reverse

/-- The n octets of v, most significant first. -/
def beBytes (n v : Nat) : List Byte := (leBytes n v).reverse

/-- len octets from offset o. -/
def slice (l : List Byte) (o len : Nat) : List Byte := (l.drop o).take len

/-- The little-endian value of len octets at offset o. -/
def leAt (l : List Byte) (o len : Nat) : Nat := ofLe (slice l o len)

/-- One bit of the reflected CRC-32 (R115). -/
def crcBit (c : Nat) : Nat := if c % 2 = 1 then (c / 2) ^^^ 0xEDB88320 else c / 2

/-- One octet of the reflected CRC-32 (R115). -/
def crcByte (c b : Nat) : Nat :=
  crcBit (crcBit (crcBit (crcBit (crcBit (crcBit (crcBit (crcBit (c ^^^ b))))))))

/-- The CRC-32 of R115: polynomial 0x04C1_1DB7 reflected, initial value and final XOR all ones. -/
def crc32 (l : List Byte) : Nat := (l.foldl (fun c b => crcByte c b.toNat) 0xFFFFFFFF) ^^^ 0xFFFFFFFF

/-- b follows a in wrap order: (b - a) mod 2^w lies from 1 to 2^(w-1) - 1 (R129, R569). -/
def follows (w a b : Nat) : Bool :=
  let d := (b + 2 ^ w - a % 2 ^ w) % 2 ^ w
  decide (1 ≤ d ∧ d ≤ 2 ^ (w - 1) - 1)

/-- The code of a mode (R38). -/
def modeCode : Mode → Nat
  | .kickoff => 0 | .terp => 1 | .standby => 2 | .warmup => 3 | .ready => 4 | .rally => 5 | .runout => 6
  | .calibrate => 7 | .service => 8 | .doze => 9 | .safestop => 10 | .shutdown => 11

/-- The mode of a code, none for 12 and above (R38). -/
def modeOfCode : Nat → Option Mode
  | 0 => some .kickoff | 1 => some .terp | 2 => some .standby | 3 => some .warmup | 4 => some .ready | 5 => some .rally
  | 6 => some .runout | 7 => some .calibrate | 8 => some .service | 9 => some .doze | 10 => some .safestop
  | 11 => some .shutdown | _ => none

/-- Ticks of press time in µs, ms and s (R9). -/
def ticksUs (n : Nat) : Nat := 1500 * n
def ticksMs (n : Nat) : Nat := 1500000 * n
def ticksS (n : Nat) : Nat := 1500000000 * n

/-- Whether an octet continues a UTF-8 sequence. -/
def utf8Cont (b : Nat) : Bool := decide (128 ≤ b ∧ b < 192)

/-- Whether octets are valid UTF-8 (R54, R55): n continuation octets are still due; lo and hi bound the next one. -/
def utf8Go : List Byte → Nat → Nat → Nat → Bool
  | [], n, _, _ => n == 0
  | b :: t, n + 1, lo, hi => decide (lo ≤ b.toNat ∧ b.toNat ≤ hi) && utf8Cont b.toNat && utf8Go t n 128 191
  | b :: t, 0, _, _ =>
    let v := b.toNat
    if v < 128 then utf8Go t 0 128 191
    else if 0xC2 ≤ v ∧ v ≤ 0xDF then utf8Go t 1 128 191
    else if v = 0xE0 then utf8Go t 2 0xA0 191
    else if v = 0xED then utf8Go t 2 128 0x9F
    else if 0xE1 ≤ v ∧ v ≤ 0xEF then utf8Go t 2 128 191
    else if v = 0xF0 then utf8Go t 3 0x90 191
    else if 0xF1 ≤ v ∧ v ≤ 0xF3 then utf8Go t 3 128 191
    else if v = 0xF4 then utf8Go t 3 128 0x8F
    else false

/-- Whether octets are valid UTF-8 (R55). -/
def utf8Ok (l : List Byte) : Bool := utf8Go l 0 128 191

/-- The octets of a text of ASCII characters. -/
def ascii (t : String) : List Byte := t.toList.map fun c => BitVec.ofNat 8 c.toNat

end Sys2Proof.Machine
end

