-- ==== Sys2Proof/Machine/Crypto.lean ====
section
/-! DEFINITION. The published algorithms that the spec names: SHA-256 and HMAC-SHA-256 (FIPS 180-4, FIPS 198-1) and ECDSA P-256
verification (FIPS 186-5, SP 800-186), for R120, R124, R138, R248 and R249. Their constants are those of the standards (log 127). -/

namespace Sys2Proof.Machine

/-! ## SHA-256 -/

/-- Right rotation and right shift of a 32-bit word. -/
def rotr (n x : Nat) : Nat := (x >>> n) ||| ((x <<< (32 - n)) % 2 ^ 32)

/-- The sum of 32-bit words. -/
def add32 (a b : Nat) : Nat := (a + b) % 2 ^ 32

/-- The mixing functions of the message schedule and of the rounds. -/
def shaSmall (a b c x : Nat) : Nat := rotr a x ^^^ rotr b x ^^^ (x >>> c)
def shaBig (a b c x : Nat) : Nat := rotr a x ^^^ rotr b x ^^^ rotr c x
def shaCh (x y z : Nat) : Nat := (x &&& y) ^^^ ((0xFFFFFFFF - x) &&& z)
def shaMaj (x y z : Nat) : Nat := (x &&& y) ^^^ (x &&& z) ^^^ (y &&& z)

/-- The sixty-four round constants. -/
def shaK : List Nat :=
  [0x428a2f98, 0x71374491, 0xb5c0fbcf, 0xe9b5dba5, 0x3956c25b, 0x59f111f1, 0x923f82a4, 0xab1c5ed5,
   0xd807aa98, 0x12835b01, 0x243185be, 0x550c7dc3, 0x72be5d74, 0x80deb1fe, 0x9bdc06a7, 0xc19bf174] ++
  [0xe49b69c1, 0xefbe4786, 0x0fc19dc6, 0x240ca1cc, 0x2de92c6f, 0x4a7484aa, 0x5cb0a9dc, 0x76f988da,
   0x983e5152, 0xa831c66d, 0xb00327c8, 0xbf597fc7, 0xc6e00bf3, 0xd5a79147, 0x06ca6351, 0x14292967] ++
  [0x27b70a85, 0x2e1b2138, 0x4d2c6dfc, 0x53380d13, 0x650a7354, 0x766a0abb, 0x81c2c92e, 0x92722c85,
   0xa2bfe8a1, 0xa81a664b, 0xc24b8b70, 0xc76c51a3, 0xd192e819, 0xd6990624, 0xf40e3585, 0x106aa070] ++
  [0x19a4c116, 0x1e376c08, 0x2748774c, 0x34b0bcb5, 0x391c0cb3, 0x4ed8aa4a, 0x5b9cca4f, 0x682e6ff3,
   0x748f82ee, 0x78a5636f, 0x84c87814, 0x8cc70208, 0x90befffa, 0xa4506ceb, 0xbef9a3f7, 0xc67178f2]

/-- The initial hash value. -/
def shaH0 : List Nat :=
  [0x6a09e667, 0xbb67ae85, 0x3c6ef372, 0xa54ff53a, 0x510e527f, 0x9b05688c, 0x1f83d9ab, 0x5be0cd19]

/-- One further word of the message schedule before a list that holds the newest word first. -/
def shaNext (l : List Nat) : Nat :=
  add32 (add32 (shaSmall 17 19 10 (l.getD 1 0)) (l.getD 6 0)) (add32 (shaSmall 7 18 3 (l.getD 14 0)) (l.getD 15 0))

/-- The schedule, newest first, with n further words. -/
def shaExtend : Nat → List Nat → List Nat
  | 0, l => l
  | n + 1, l => shaExtend n (shaNext l :: l)

/-- One round on the eight working variables. -/
def shaRound (v : List Nat) (q : Nat × Nat) : List Nat :=
  match v with
  | [a, b, c, d, e, f, g, h] =>
    let t1 := add32 (add32 (add32 h (shaBig 6 11 25 e)) (add32 (shaCh e f g) q.1)) q.2
    let t2 := add32 (shaBig 2 13 22 a) (shaMaj a b c)
    [add32 t1 t2, a, b, c, add32 d t1, e, f, g]
  | _ => v

/-- The big-endian words of octets. -/
def beWords (n : Nat) (l : List Byte) : List Nat := (List.range n).map fun k => ofBe (slice l (4 * k) 4)

/-- The hash value after one block of 64 octets. -/
def shaBlock (h : List Nat) (block : List Byte) : List Nat :=
  let w := (shaExtend 48 (beWords 16 block).reverse).reverse
  (h.zip ((shaK.zip w).foldl shaRound h)).map fun p => add32 p.1 p.2

/-- The octets with the padding of the standard: a one bit, zeros and the length in bits. -/
def shaPad (l : List Byte) : List Byte :=
  l ++ [0x80] ++ List.replicate ((119 - l.length % 64) % 64) 0 ++ beBytes 8 (8 * l.length)

/-- SHA-256 of octets: 32 octets. -/
def sha256 (l : List Byte) : List Byte :=
  let p := shaPad l
  ((List.range (p.length / 64)).foldl (fun h k => shaBlock h (slice p (64 * k) 64)) shaH0).flatMap (beBytes 4)

/-- HMAC-SHA-256 of octets under a key: 32 octets. -/
def hmac (key msg : List Byte) : List Byte :=
  let k := if 64 < key.length then sha256 key else key
  let z := k ++ List.replicate (64 - k.length) 0
  sha256 (z.map (· ^^^ 0x5C) ++ sha256 (z.map (· ^^^ 0x36) ++ msg))

/-! ## ECDSA P-256 -/

/-- The prime, the order, the coefficient b and the base point of P-256. -/
def p256P : Nat := 0xffffffff00000001000000000000000000000000ffffffffffffffffffffffff
def p256N : Nat := 0xffffffff00000000ffffffffffffffffbce6faada7179e84f3b9cac2fc632551
def p256B : Nat := 0x5ac635d8aa3a93e7b3ebbd55769886bc651d06b0cc53b0f63bce3c3e27d2604b
def p256Gx : Nat := 0x6b17d1f2e12c4247f8bce6e563a440f277037d812deb33a0f4a13945d898c296
def p256Gy : Nat := 0x4fe342e2fe1a7f9b8ee7eb4a7c0f9e162bce33576b315ececbb6406837bf51f5

/-- Difference and power in a prime field. -/
def subMod (m a b : Nat) : Nat := (a + (m - b % m)) % m

/-- a to the power of the n lowest bits of e, modulo m; the bits from the highest to the lowest. -/
def powMod (m a e : Nat) : Nat → Nat
  | 0 => 1 % m
  | n + 1 =>
    let r := powMod m a (e / 2) n
    let q := r * r % m
    if e % 2 = 1 then q * a % m else q

/-- The inverse modulo a prime of at most 256 bits. -/
def invMod (m a : Nat) : Nat := powMod m a (m - 2) 256

/-- A point in Jacobian coordinates; the point at infinity has z = 0. -/
structure JPoint where
  x : Nat
  y : Nat
  z : Nat
deriving DecidableEq, Repr

/-- The double of a point (a = -3). -/
def JPoint.double (p : JPoint) : JPoint :=
  let m := p256P
  let d := p.z * p.z % m
  let g := p.y * p.y % m
  let b := p.x * g % m
  let a := 3 * (subMod m p.x d * (p.x + d) % m) % m
  let x := subMod m (a * a) (8 * b)
  { x := x, y := subMod m (a * subMod m (4 * b) x) (8 * (g * g % m)), z := subMod m ((p.y + p.z) * (p.y + p.z)) (g + d) }

/-- The sum of two points. -/
def JPoint.add (p q : JPoint) : JPoint :=
  let m := p256P
  if p.z = 0 then q else if q.z = 0 then p
  else
    let z1 := p.z * p.z % m
    let z2 := q.z * q.z % m
    let u1 := p.x * z2 % m
    let u2 := q.x * z1 % m
    let s1 := p.y * (z2 * q.z % m) % m
    let s2 := q.y * (z1 * p.z % m) % m
    let h := subMod m u2 u1
    let r := subMod m s2 s1
    if h = 0 then (if r = 0 then p.double else { x := 1, y := 1, z := 0 })
    else
      let hh := h * h % m
      let hhh := h * hh % m
      let v := u1 * hh % m
      let x := subMod m (r * r) (hhh + 2 * v)
      { x := x, y := subMod m (r * subMod m v x) (s1 * hhh), z := h * (p.z * q.z % m) % m }

/-- The multiple of a point by the n lowest bits of k. -/
def JPoint.times (p : JPoint) (k : Nat) : Nat → JPoint
  | 0 => { x := 1, y := 1, z := 0 }
  | n + 1 =>
    let q := (p.times (k / 2) n).double
    if k % 2 = 1 then q.add p else q

/-- Whether x, y is a point of the curve. -/
def onCurve (x y : Nat) : Bool :=
  decide (x < p256P ∧ y < p256P) && y * y % p256P == (x * x % p256P * x + (p256P - 3) * x + p256B) % p256P

/-- Whether the signature r ‖ s verifies over a 32-octet hash under the key X ‖ Y; every integer is a big-endian string of 32 octets
(R115). -/
def ecdsaVerify (key sig hash : List Byte) : Bool :=
  let x := ofBe (slice key 0 32)
  let y := ofBe (slice key 32 32)
  let r := ofBe (slice sig 0 32)
  let t := ofBe (slice sig 32 32)
  if decide (1 ≤ r ∧ r < p256N ∧ 1 ≤ t ∧ t < p256N) && onCurve x y then
    let w := invMod p256N t
    let q := (JPoint.times { x := p256Gx, y := p256Gy, z := 1 } (ofBe hash * w % p256N) 256).add
      (JPoint.times { x := x, y := y, z := 1 } (r * w % p256N) 256)
    q.z != 0 && q.x * powMod p256P (invMod p256P q.z) 2 2 % p256P % p256N == r
  else false

end Sys2Proof.Machine
end

