-- ==== Sys2Proof/Config.lean ====
section
/-! DEFINITION. What an implementation fixes and what the spec leaves open: constants without a body, about which nothing
can be proved. A statement that speaks of one holds for every value of it. -/

namespace Sys2Proof.Config

/-- A number that stands behind 1000:06; only `deviceSerial` reads it (R608). -/
opaque rawSerial : Nat

/-- 1000:06: unique to each TZ640, never 0 and never all ones (R608). -/
def deviceSerial : Nat := 1 + rawSerial % (2 ^ 64 - 2)

/-- 5060:01, the vendor ID assigned to Untonik (R257): the spec gives no number. -/
opaque vendorId : Nat

/-- The product code that the TZ640 reports in a ROLLCALL ANSWER of its own (R209, R252): the spec gives no number. -/
opaque productCode : Nat

/-- The n-th fresh random challenge of 128 bits (R138). -/
opaque challenge : Nat → Nat

/-- The n-th fresh nonce of 64 bits (R248). -/
opaque nonce : Nat → Nat

/-- The owner's public key X ‖ Y that belongs to a hash in 2710:02 (R138): the spec does not say where the TZ640 has it from when no signed
image holds it. -/
opaque ownerKey : List Byte → List Byte

/-- The Untonik patch key X ‖ Y held in ROM (R124). -/
opaque patchKey : List Byte

/-- Whether entry offset and length of a patch record lie inside its target table (R124, R125): the spec gives no
layout of the tables. -/
opaque patchInside : Nat → Nat → Nat → Bool

/-- An entry of a constant table after patch records (table, offset, data; ascending level) have changed the table (R94, R125): the
entry's name, the records, the unpatched value. Objects are named by index × 256 + subindex, points of the thermistor tables from 2^24 on. -/
opaque patched : Nat → List (Nat × Nat × List Byte) → Nat → Nat

/-- The two end points of ROM linearisation table 0, j = 0 and j = 64, in 0.1 °C (R510): there the thermistor's law has no finite value. -/
opaque romTherm : Nat → Int

/-- The n-th free value drawn for a value that a rule leaves open. -/
opaque free : Nat → Nat

/-- Sine of an angle in 1/65536 turn, in 1/32768 (R445, R447): the spec states no rounding. -/
opaque sine : Nat → Int

/-- The bus voltage in mV that a conversion x of the bus input means (R440): the board's divider. -/
opaque busMilliVolts : Int → Nat

/-- The speed in 0.1 rpm that an encoder's tooth rate in 0.001 tooth/s means for motor m (R452): the board's gearing. -/
opaque encoderSpeed : Nat → Nat → Int

/-- Link time, in taps, of station n at press time 0 (R376): the spec gives the count no origin. -/
opaque linkOrigin : Nat → Nat

end Sys2Proof.Config
end

