-- ==== Sys2Proof/Machine/Tab.lean ====
section
/-! DEFINITION. Numbered collections: reading, writing and removing entries of a Tab. -/

namespace Sys2Proof.Machine

variable {α : Type}

/-- The entry n of a table, if it is listed. -/
def tabFind : Tab α → Nat → Option α
  | [], _ => none
  | (k, v) :: t, n => if k = n then some v else tabFind t n

/-- The entry n of a table; d stands for an entry that is not listed. -/
def tabGet (d : α) (t : Tab α) (n : Nat) : α := (tabFind t n).getD d

/-- The table with entry n set to v; numbers stay strictly rising. -/
def tabSet : Tab α → Nat → α → Tab α
  | [], n, v => [(n, v)]
  | (k, w) :: t, n, v => if n < k then (n, v) :: (k, w) :: t else if n = k then (n, v) :: t else (k, w) :: tabSet t n v

/-- The table without entry n. -/
def tabDel (t : Tab α) (n : Nat) : Tab α := t.filter fun p => p.1 != n

/-- The table with entry n changed by f; d stands for an entry that is not listed. -/
def tabMod (d : α) (t : Tab α) (n : Nat) (f : α → α) : Tab α := tabSet t n (f (tabGet d t n))

/-- Whether entry n is listed. -/
def tabHas (t : Tab α) (n : Nat) : Bool := (tabFind t n).isSome

/-- The table keeps its numbers strictly rising. -/
def tabSorted : Tab α → Bool
  | [] => true
  | [_] => true
  | (k, _) :: (m, w) :: t => decide (k < m) && tabSorted ((m, w) :: t)

end Sys2Proof.Machine
end

