-- ==== Sys2Proof/Machine/Objects.lean ====
section
/-! DEFINITION. The object tables of the chapters ("Objects owned here") as rows, the lookup of an object's row, its
default, and the consistency group of an index (R605). The types, classes, defaults and bounds are those of the tables. -/

namespace Sys2Proof.Machine

/-- The types of R54; TIME is a U64. -/
inductive Ty where
  | bool | u8 | u16 | u32 | u64 | i8 | i16 | i32 | i64 | str | blob
deriving DecidableEq, Repr

/-- The access classes of R59. -/
inductive Class where
  | const | ro | rw | wo | rws | rwm
deriving DecidableEq, Repr

/-- How the range step of R60 judges a value. -/
inductive Check where
  /-- Below the minimum 0x0301, above the maximum 0x0302 (R609). -/
  | range
  /-- Outside minimum and maximum 0x0303. -/
  | resv
  /-- As `range`, or the one further value. -/
  | orElse (v : Nat)
  /-- As `resv`, or the one further value. -/
  | resvOr (v : Nat)
  /-- Only 0 may be written, else 0x0303 (R85). -/
  | zeroOnly
  /-- One of the values, else 0x0303. -/
  | oneOf (l : List Nat)
  /-- 0 or 1, else 0x0303 (R54, R6). -/
  | bool
  /-- Bits outside the mask give 0x0303. -/
  | mask (m : Nat)
  /-- In range, else 0x0303, and a power of 2, else 0x0303. -/
  | pow2
  /-- In range, then a multiple, else 0x0304. -/
  | mult (n : Nat)
  /-- Judged by its layout (Machine/Checks.lean). -/
  | packed
deriving DecidableEq, Repr

/-- One row of an object table: the indices base + stride × i for i below count, the subindices lo to hi. -/
structure Row where
  base : Nat
  count : Nat
  stride : Nat
  lo : Nat
  hi : Nat
  ty : Ty
  cls : Class
  dflt : Nat
  min : Int
  max : Int
  chk : Check
  rc : Bool
deriving DecidableEq, Repr

/-- Size in bytes of a fixed-size type; 0 for STR and BLOB. -/
def Ty.size : Ty → Nat
  | .bool => 1 | .u8 => 1 | .u16 => 2 | .u32 => 4 | .u64 => 8 | .i8 => 1 | .i16 => 2 | .i32 => 4 | .i64 => 8 | .str => 0 | .blob => 0

/-- Whether values of the type are in two's complement. -/
def Ty.signed : Ty → Bool
  | .i8 => true | .i16 => true | .i32 => true | .i64 => true | _ => false

/-- The integer that an image of the type means. -/
def Ty.value (t : Ty) (n : Nat) : Int := if t.signed then sInt (8 * t.size) n else n

/-- Objects of "The sheet and the twelve modes" (01). -/
def rowsModes : List Row :=
  [
    ⟨0x2000, 1, 1, 0x01, 0x01, .u8, .ro, 0, 0, 11, .range, false⟩,
    ⟨0x2000, 1, 1, 0x02, 0x02, .u8, .wo, 0, 0, 11, .resv, false⟩,
    ⟨0x2000, 1, 1, 0x03, 0x03, .u8, .ro, 255, 0, 11, (.orElse 255), false⟩,
    ⟨0x2000, 1, 1, 0x04, 0x04, .u8, .ro, 0, 0, 11, .range, false⟩,
    ⟨0x2000, 1, 1, 0x05, 0x05, .u8, .ro, 0, 0, 14, .range, false⟩,
    ⟨0x2000, 1, 1, 0x06, 0x06, .u32, .ro, 0, 0, 4294967295, .range, false⟩,
    ⟨0x2000, 1, 1, 0x07, 0x07, .bool, .rw, 1, 0, 1, .bool, false⟩,
    ⟨0x2000, 1, 1, 0x08, 0x08, .u16, .rw, 180, 10, 1800, .range, false⟩,
    ⟨0x2000, 1, 1, 0x09, 0x09, .u16, .rw, 60, 0, 3600, .range, false⟩,
    ⟨0x2000, 1, 1, 0x0a, 0x0a, .u16, .rw, 0, 0, 3600, .range, false⟩,
    ⟨0x2000, 1, 1, 0x0b, 0x0b, .bool, .wo, 0, 0, 1, .bool, false⟩,
    ⟨0x2000, 1, 1, 0x0c, 0x0c, .bool, .rw, 1, 0, 1, .bool, false⟩,
    ⟨0x5040, 1, 1, 0x01, 0x01, .u8, .ro, 0, 0, 16, .range, false⟩,
    ⟨0x5040, 1, 1, 0x02, 0x02, .u8, .ro, 0, 0, 16, .range, false⟩,
    ⟨0x5040, 1, 1, 0x03, 0x03, .u32, .ro, 1, 1, 4294967295, .range, false⟩,
    ⟨0x5040, 1, 1, 0x04, 0x04, .u32, .ro, 0, 0, 4294967295, .range, false⟩,
    ⟨0x5040, 1, 1, 0x05, 0x05, .u32, .ro, 0, 0, 4294967295, .range, false⟩,
    ⟨0x5040, 1, 1, 0x06, 0x06, .u32, .ro, 0, 0, 4294967295, .range, false⟩,
    ⟨0x5040, 1, 1, 0x07, 0x07, .u32, .ro, 0, 0, 4294967295, .range, false⟩,
    ⟨0x5040, 1, 1, 0x08, 0x08, .u32, .ro, 0, 0, 4294967295, .range, false⟩,
    ⟨0x5040, 1, 1, 0x09, 0x09, .u32, .ro, 0, 0, 4294967295, .range, false⟩,
    ⟨0x5050, 1, 1, 0x01, 0x10, .u32, .rws, 0, 0, 4294967295, (.mask 0x0FFFFFFF), false⟩]

/-- Objects of "The object dictionary and the resident firmware" (02). -/
def rowsDictionary : List Row :=
  [
    ⟨0x1000, 1, 1, 0x01, 0x01, .str, .const, 0, 0, 64, .range, false⟩,
    ⟨0x1000, 1, 1, 0x02, 0x02, .str, .const, 0, 0, 64, .range, false⟩,
    ⟨0x1000, 1, 1, 0x03, 0x03, .u8, .const, 0, 0, 255, .range, false⟩,
    ⟨0x1000, 1, 1, 0x04, 0x04, .u16, .const, 770, 0, 65535, .range, false⟩,
    ⟨0x1000, 1, 1, 0x05, 0x05, .u8, .ro, 0, 0, 2, .range, false⟩,
    ⟨0x1000, 1, 1, 0x06, 0x06, .u64, .const, 0, 0, 18446744073709551615, .range, false⟩,
    ⟨0x1000, 1, 1, 0x07, 0x07, .u16, .ro, 0, 0, 65535, .range, false⟩,
    ⟨0x1000, 1, 1, 0x08, 0x08, .u16, .const, 1, 0, 65535, .range, false⟩,
    ⟨0x2700, 1, 1, 0x01, 0x01, .bool, .wo, 0, 0, 1, .bool, false⟩,
    ⟨0x2700, 1, 1, 0x02, 0x02, .u8, .wo, 0, 0, 20, (.resvOr 255), false⟩,
    ⟨0x2700, 1, 1, 0x03, 0x03, .u16, .ro, 0, 0, 65535, .range, false⟩,
    ⟨0x2700, 1, 1, 0x04, 0x04, .u32, .ro, 0, 0, 4294967295, .range, true⟩,
    ⟨0x2700, 1, 1, 0x05, 0x05, .u32, .ro, 0, 0, 4294967295, .range, false⟩,
    ⟨0x2700, 1, 1, 0x06, 0x06, .bool, .rw, 0, 0, 1, .bool, false⟩,
    ⟨0x2700, 1, 1, 0x07, 0x07, .u32, .ro, 0, 0, 4294967295, .range, false⟩,
    ⟨0x2700, 1, 1, 0x08, 0x08, .u32, .ro, 0, 0, 4294967295, .range, false⟩,
    ⟨0x2700, 1, 1, 0x09, 0x09, .u16, .rw, 0, 0, 65535, .zeroOnly, false⟩]

/-- Objects of "Straps, kick-off and terp mode" (03). -/
def rowsKickoff : List Row :=
  [
    ⟨0x2010, 1, 1, 0x01, 0x08, .u8, .ro, 0, 0, 3, .range, false⟩,
    ⟨0x2010, 1, 1, 0x09, 0x0c, .u8, .ro, 0, 0, 255, (.oneOf [0, 1]), false⟩,
    ⟨0x2020, 1, 1, 0x01, 0x01, .u8, .ro, 0, 0, 15, .range, false⟩,
    ⟨0x2020, 1, 1, 0x02, 0x02, .u64, .ro, 0, 0, 18446744073709551615, .range, false⟩,
    ⟨0x2020, 1, 1, 0x03, 0x03, .u8, .ro, 0, 0, 5, .range, false⟩,
    ⟨0x2020, 1, 1, 0x04, 0x04, .u32, .ro, 0, 0, 4294967295, .range, false⟩,
    ⟨0x2020, 1, 1, 0x05, 0x05, .u16, .ro, 0, 0, 65535, .range, false⟩,
    ⟨0x2030, 1, 1, 0x01, 0x01, .u8, .ro, 0, 0, 8, .range, false⟩,
    ⟨0x2030, 1, 1, 0x02, 0x02, .u8, .ro, 3, 0, 255, (.oneOf [2, 3, 5, 8]), false⟩,
    ⟨0x2030, 1, 1, 0x03, 0x0a, .u8, .ro, 0, 0, 255, .range, false⟩,
    ⟨0x2030, 1, 1, 0x0b, 0x0b, .u8, .ro, 0, 0, 2, .range, false⟩,
    ⟨0x2030, 1, 1, 0x0c, 0x0c, .u32, .ro, 0, 0, 4294967295, .range, false⟩,
    ⟨0x2040, 1, 1, 0x01, 0x01, .u8, .ro, 0, 0, 255, .range, false⟩,
    ⟨0x2040, 1, 1, 0x02, 0x02, .bool, .wo, 0, 0, 1, .bool, false⟩,
    ⟨0x2040, 1, 1, 0x03, 0x03, .blob, .rwm, 0, 0, 1040384, .range, false⟩,
    ⟨0x2710, 1, 1, 0x01, 0x01, .u8, .ro, 0, 0, 3, .range, false⟩,
    ⟨0x2710, 1, 1, 0x02, 0x02, .blob, .rwm, 0, 32, 32, (.oneOf [32]), false⟩,
    ⟨0x2710, 1, 1, 0x03, 0x03, .bool, .ro, 0, 0, 1, .bool, false⟩]

/-- Objects of "Rail sequencing and supervision" (04). -/
def rowsPower : List Row :=
  [
    ⟨0x2100, 16, 1, 0x01, 0x01, .u8, .ro, 0, 0, 3, .range, false⟩,
    ⟨0x2100, 16, 1, 0x02, 0x02, .u32, .ro, 0, 0, 36000, .range, false⟩,
    ⟨0x2100, 16, 1, 0x03, 0x03, .u32, .ro, 0, 1, 36000, .range, false⟩,
    ⟨0x2100, 16, 1, 0x04, 0x04, .u32, .rws, 0, 0, 50000, .range, false⟩,
    ⟨0x2100, 16, 1, 0x05, 0x05, .u32, .rws, 0, 0, 4294967295, .packed, false⟩,
    ⟨0x2100, 16, 1, 0x06, 0x06, .u32, .rws, 0, 0, 4294967295, .packed, false⟩,
    ⟨0x2100, 16, 1, 0x07, 0x07, .u8, .rws, 0, 1, 255, .range, false⟩,
    ⟨0x2100, 16, 1, 0x08, 0x08, .u16, .rws, 0, 1, 10000, .range, false⟩,
    ⟨0x2100, 16, 1, 0x09, 0x09, .u8, .rws, 0, 0, 2, .resv, false⟩,
    ⟨0x2100, 16, 1, 0x0a, 0x0a, .u8, .ro, 0, 0, 255, (.mask 3), false⟩,
    ⟨0x2100, 16, 1, 0x0b, 0x0b, .u8, .ro, 0, 0, 6, .range, false⟩,
    ⟨0x2100, 16, 1, 0x0c, 0x0c, .bool, .ro, 0, 0, 1, .bool, true⟩,
    ⟨0x2100, 16, 1, 0x0d, 0x0d, .u16, .rw, 0, 0, 65535, .zeroOnly, false⟩,
    ⟨0x2100, 16, 1, 0x0e, 0x0e, .u16, .rw, 0, 0, 65535, .zeroOnly, false⟩,
    ⟨0x2100, 16, 1, 0x0f, 0x0f, .u16, .ro, 0, 0, 4095, .range, false⟩,
    ⟨0x2100, 16, 1, 0x10, 0x10, .u32, .ro, 0, 0, 4294967295, .range, true⟩,
    ⟨0x2120, 1, 1, 0x01, 0x01, .u8, .ro, 0, 0, 3, .range, false⟩,
    ⟨0x2120, 1, 1, 0x02, 0x02, .u8, .ro, 2, 0, 3, .range, false⟩,
    ⟨0x2120, 1, 1, 0x03, 0x03, .u16, .ro, 50, 10, 200, .range, false⟩,
    ⟨0x2120, 1, 1, 0x04, 0x04, .u8, .ro, 0, 0, 5, .range, false⟩,
    ⟨0x2120, 1, 1, 0x05, 0x05, .u8, .ro, 1, 1, 4, .range, false⟩,
    ⟨0x2120, 1, 1, 0x06, 0x06, .u8, .ro, 255, 0, 15, (.orElse 255), false⟩,
    ⟨0x2120, 1, 1, 0x07, 0x07, .u8, .ro, 0, 0, 3, .range, false⟩,
    ⟨0x2120, 1, 1, 0x08, 0x08, .u64, .ro, 0, 0, 18446744073709551615, .range, false⟩,
    ⟨0x2120, 1, 1, 0x09, 0x09, .u16, .rw, 0, 0, 65535, .zeroOnly, false⟩] ++
  [
    ⟨0x2120, 1, 1, 0x0b, 0x0b, .u16, .rws, 2000, 100, 10000, .range, false⟩]

/-- Objects of "Clock islands, timebase and press time" (05). -/
def rowsClocks : List Row :=
  [
    ⟨0x2200, 1, 1, 0x01, 0x01, .u32, .rws, 1500000, 1350000, 1600000, .range, false⟩,
    ⟨0x2200, 1, 1, 0x02, 0x02, .bool, .rwm, 0, 0, 1, .bool, false⟩,
    ⟨0x2200, 1, 1, 0x03, 0x03, .u8, .ro, 0, 0, 5, .range, false⟩,
    ⟨0x2200, 1, 1, 0x04, 0x04, .u8, .ro, 0, 0, 32, .range, false⟩,
    ⟨0x2200, 1, 1, 0x05, 0x05, .u32, .ro, 0, 0, 4294967295, .range, false⟩,
    ⟨0x2200, 1, 1, 0x06, 0x06, .u32, .ro, 0, 0, 4294967295, .range, false⟩,
    ⟨0x2200, 1, 1, 0x07, 0x07, .u16, .rw, 0, 0, 65535, .zeroOnly, false⟩,
    ⟨0x2200, 1, 1, 0x08, 0x08, .u16, .rw, 0, 0, 65535, .zeroOnly, false⟩,
    ⟨0x2200, 1, 1, 0x09, 0x09, .u32, .ro, 0, 0, 4294967295, .range, false⟩,
    ⟨0x2200, 1, 1, 0x0a, 0x0a, .u32, .ro, 25000000, 0, 4294967295, (.oneOf [25000000, 31104000]), false⟩,
    ⟨0x2200, 1, 1, 0x0b, 0x0b, .u16, .rw, 0, 0, 65535, .zeroOnly, false⟩,
    ⟨0x2210, 1, 1, 0x01, 0x20, .u64, .rws, 0, 0, 18446744073709551615, .packed, false⟩,
    ⟨0x2220, 1, 1, 0x01, 0x01, .u64, .ro, 0, 0, 18446744073709551615, .range, false⟩,
    ⟨0x2220, 1, 1, 0x02, 0x02, .u8, .ro, 0, 0, 2, .range, false⟩,
    ⟨0x2220, 1, 1, 0x03, 0x03, .u64, .ro, 257698037760, 0, 18446744073709551615, .range, false⟩,
    ⟨0x2230, 1, 1, 0x01, 0x06, .u8, .ro, 0, 0, 2, .range, false⟩,
    ⟨0x2230, 1, 1, 0x07, 0x0c, .u16, .rw, 0, 0, 65535, .zeroOnly, false⟩,
    ⟨0x2240, 1, 1, 0x01, 0x01, .u32, .ro, 0, 0, 4294967295, .range, false⟩]

/-- Objects of "Field ports and the partner table" (06). The read-only records of the TZ640 itself (6000) and of the broadcast (67FF) show the
defaults of a partner in their state, identity and port fields (R222; DESIGN CHOICE, log 140). -/
def rowsNetwork : List Row :=
  [
    ⟨0x1100, 1, 1, 0x01, 0x01, .u16, .rws, 1000, 250, 10000, .range, false⟩,
    ⟨0x1100, 1, 1, 0x02, 0x02, .u8, .ro, 0, 0, 255, (.oneOf [0, 1]), false⟩,
    ⟨0x1100, 1, 1, 0x03, 0x03, .u16, .rw, 1, 1, 2046, .range, false⟩,
    ⟨0x1100, 1, 1, 0x04, 0x04, .u16, .rw, 1, 1, 2046, .range, false⟩,
    ⟨0x1100, 1, 1, 0x05, 0x05, .u8, .rwm, 255, 0, 6, (.resvOr 255), false⟩,
    ⟨0x1100, 1, 1, 0x06, 0x06, .u32, .ro, 0, 0, 4294967295, .range, false⟩,
    ⟨0x1100, 1, 1, 0x07, 0x07, .u8, .ro, 0, 0, 4, .range, false⟩,
    ⟨0x1100, 1, 1, 0x08, 0x08, .u64, .ro, 0, 0, 18446744073709551615, .range, false⟩,
    ⟨0x1100, 1, 1, 0x09, 0x09, .u16, .ro, 0, 0, 2046, .range, false⟩,
    ⟨0x1100, 1, 1, 0x0c, 0x0c, .u16, .rw, 0, 0, 65535, .zeroOnly, false⟩,
    ⟨0x1100, 1, 1, 0x0d, 0x0d, .u16, .rw, 0, 0, 65535, .zeroOnly, false⟩,
    ⟨0x1110, 7, 1, 0x01, 0x01, .bool, .rwm, 1, 0, 1, .bool, false⟩,
    ⟨0x1110, 4, 1, 0x02, 0x02, .u32, .rwm, 500000, 0, 4294967295, (.oneOf [125000, 250000, 500000, 1000000]), false⟩,
    ⟨0x1110, 4, 1, 0x03, 0x03, .u32, .rwm, 2000000, 0, 4294967295, (.oneOf [0, 1000000, 2000000, 4000000, 5000000]), false⟩,
    ⟨0x1114, 2, 1, 0x02, 0x02, .u8, .rwm, 8, 2, 32, .range, false⟩,
    ⟨0x1114, 2, 1, 0x03, 0x03, .u8, .rwm, 32, 1, 255, .range, false⟩,
    ⟨0x1114, 2, 1, 0x04, 0x04, .u8, .rwm, 1, 1, 31, .range, false⟩,
    ⟨0x1114, 2, 1, 0x05, 0x05, .u16, .rwm, 34997, 1536, 65535, .range, false⟩,
    ⟨0x1116, 1, 1, 0x02, 0x02, .u32, .rwm, 3232261184, 0, 4294967295, .range, false⟩,
    ⟨0x1116, 1, 1, 0x03, 0x03, .u32, .rwm, 4294967040, 0, 4294967295, .packed, false⟩,
    ⟨0x1116, 1, 1, 0x04, 0x04, .u32, .rwm, 0, 0, 4294967295, .range, false⟩,
    ⟨0x1116, 1, 1, 0x05, 0x05, .u16, .rwm, 45128, 1, 65535, .range, false⟩,
    ⟨0x1116, 1, 1, 0x07, 0x07, .u8, .rwm, 0, 0, 31, .range, false⟩,
    ⟨0x1116, 1, 1, 0x09, 0x09, .u64, .ro, 0, 0, 18446744073709551615, .range, false⟩,
    ⟨0x1110, 7, 1, 0x06, 0x06, .u16, .rwm, 20, 1, 1000, .range, false⟩] ++
  [
    ⟨0x1110, 7, 1, 0x08, 0x08, .u16, .ro, 0, 0, 65535, .range, false⟩,
    ⟨0x1110, 7, 1, 0x10, 0x11, .u32, .ro, 0, 0, 4294967295, .range, false⟩,
    ⟨0x1110, 7, 1, 0x12, 0x18, .u16, .rw, 0, 0, 65535, .zeroOnly, false⟩,
    ⟨0x1110, 7, 1, 0x20, 0x20, .bool, .ro, 0, 0, 1, .range, false⟩,
    ⟨0x1110, 7, 1, 0x21, 0x21, .bool, .ro, 0, 0, 1, .range, true⟩,
    ⟨0x1110, 7, 1, 0x22, 0x22, .u16, .rw, 0, 0, 65535, .zeroOnly, false⟩,
    ⟨0x1110, 7, 1, 0x23, 0x23, .u16, .ro, 0, 0, 256, .range, false⟩,
    ⟨0x1110, 7, 1, 0x24, 0x24, .u16, .rw, 192, 0, 256, .range, false⟩,
    ⟨0x1110, 7, 1, 0x28, 0x28, .bool, .ro, 0, 0, 1, .range, false⟩,
    ⟨0x1110, 7, 1, 0x29, 0x29, .bool, .ro, 0, 0, 1, .range, true⟩,
    ⟨0x1110, 7, 1, 0x2a, 0x2a, .u16, .rw, 0, 0, 65535, .zeroOnly, false⟩,
    ⟨0x1110, 7, 1, 0x2b, 0x2b, .u16, .ro, 0, 0, 256, .range, false⟩,
    ⟨0x1110, 7, 1, 0x2c, 0x2c, .u16, .rw, 192, 0, 256, .range, false⟩,
    ⟨0x1140, 1, 1, 0x01, 0x01, .blob, .rws, 0, 4096, 4096, (.oneOf [4096]), false⟩,
    ⟨0x1200, 128, 1, 0x01, 0x01, .u32, .rws, 0, 0, 4294967295, .packed, false⟩,
    ⟨0x1200, 128, 1, 0x02, 0x11, .u32, .rws, 0, 0, 4294967295, (.mask 0xFFFFFF), false⟩,
    ⟨0x1280, 1, 1, 0x01, 0x40, .u64, .rw, 0, 0, 18446744073709551615, .range, false⟩,
    ⟨0x6000, 2048, 1, 0x01, 0x01, .u8, .ro, 0, 0, 7, .range, false⟩,
    ⟨0x6000, 2048, 1, 0x02, 0x02, .u8, .rw, 255, 0, 6, (.orElse 255), false⟩,
    ⟨0x6000, 2048, 1, 0x03, 0x03, .u32, .rw, 0, 0, 4294967295, .range, false⟩,
    ⟨0x6000, 2048, 1, 0x04, 0x04, .u32, .ro, 0, 0, 4294967295, .range, false⟩,
    ⟨0x6000, 2048, 1, 0x05, 0x05, .u32, .rw, 0, 0, 4294967295, .range, false⟩,
    ⟨0x6000, 2048, 1, 0x06, 0x06, .u8, .rw, 2, 0, 3, .resv, false⟩,
    ⟨0x6000, 2048, 1, 0x07, 0x07, .u8, .rw, 0, 0, 2, .range, false⟩,
    ⟨0x6000, 2048, 1, 0x08, 0x08, .u16, .rw, 0, 0, 60000, .range, false⟩] ++
  [
    ⟨0x6000, 2048, 1, 0x09, 0x09, .u64, .ro, 0, 0, 18446744073709551615, .range, false⟩,
    ⟨0x6000, 2048, 1, 0x0a, 0x0a, .u32, .ro, 0, 0, 4294967295, .range, false⟩,
    ⟨0x6000, 2048, 1, 0x0b, 0x0d, .u16, .rw, 0, 0, 65535, .zeroOnly, false⟩,
    ⟨0x6000, 2048, 1, 0x0e, 0x0e, .u8, .ro, 0, 0, 31, .range, false⟩,
    ⟨0x2700, 1, 1, 0x20, 0x20, .bool, .rw, 0, 0, 1, .bool, false⟩,
    ⟨0x2700, 1, 1, 0x21, 0x24, .blob, .wo, 0, 32, 32, (.oneOf [32]), false⟩,
    ⟨0x2700, 1, 1, 0x25, 0x28, .u8, .rw, 0, 0, 3, .resv, false⟩,
    ⟨0x2700, 1, 1, 0x29, 0x29, .u8, .rw, 1, 0, 2, .packed, false⟩,
    ⟨0x2700, 1, 1, 0x2a, 0x2a, .u16, .rw, 0, 0, 65535, .zeroOnly, false⟩,
    ⟨0x2700, 1, 1, 0x2b, 0x2b, .u8, .ro, 0, 0, 8, .range, false⟩]

/-- Objects of "Host link and the sixty-four tenants" (07). -/
def rowsTenants : List Row :=
  [
    ⟨0x5000, 64, 1, 0x01, 0x01, .u8, .ro, 0, 0, 3, .range, false⟩,
    ⟨0x5000, 64, 1, 0x02, 0x02, .bool, .rw, 0, 0, 1, .bool, false⟩,
    ⟨0x5000, 64, 1, 0x03, 0x03, .bool, .wo, 0, 0, 1, .bool, false⟩,
    ⟨0x5000, 64, 1, 0x04, 0x04, .u64, .rw, 0, 0, 18446744073709551615, (.mult 4096), false⟩,
    ⟨0x5000, 64, 1, 0x05, 0x05, .u16, .rw, 256, 16, 4096, .pow2, false⟩,
    ⟨0x5000, 64, 1, 0x06, 0x06, .u64, .rw, 0, 0, 18446744073709551615, (.mult 4096), false⟩,
    ⟨0x5000, 64, 1, 0x07, 0x07, .u16, .rw, 256, 16, 4096, .pow2, false⟩,
    ⟨0x5000, 64, 1, 0x08, 0x08, .u16, .rw, 0, 0, 944, .range, false⟩,
    ⟨0x5000, 64, 1, 0x09, 0x09, .u16, .rws, 0, 0, 200, .range, false⟩,
    ⟨0x5000, 64, 1, 0x0a, 0x0a, .u8, .rws, 0, 0, 7, .range, false⟩,
    ⟨0x5000, 64, 1, 0x0b, 0x0b, .u8, .rws, 1, 1, 255, .range, false⟩,
    ⟨0x5000, 64, 1, 0x0c, 0x0c, .u8, .rw, 0, 0, 255, (.oneOf [0, 1]), false⟩,
    ⟨0x5000, 64, 1, 0x0d, 0x0d, .u8, .rw, 0, 0, 255, (.oneOf [0, 1]), false⟩,
    ⟨0x5000, 64, 1, 0x0e, 0x0e, .u8, .rw, 1, 0, 255, (.oneOf [0, 1]), false⟩,
    ⟨0x5000, 64, 1, 0x0f, 0x0f, .u8, .rw, 1, 1, 64, .range, false⟩,
    ⟨0x5000, 64, 1, 0x10, 0x10, .u16, .rw, 0, 0, 1000, .range, false⟩,
    ⟨0x5000, 64, 1, 0x11, 0x11, .u16, .ro, 0, 0, 200, .range, false⟩,
    ⟨0x5000, 64, 1, 0x12, 0x12, .u8, .ro, 0, 0, 32, .range, false⟩,
    ⟨0x5000, 64, 1, 0x13, 0x13, .u8, .ro, 0, 0, 3, .range, false⟩,
    ⟨0x5000, 64, 1, 0x14, 0x14, .blob, .ro, 0, 0, 1536, .range, false⟩,
    ⟨0x5000, 64, 1, 0x15, 0x15, .u32, .ro, 0, 0, 4294967295, .range, false⟩,
    ⟨0x5000, 64, 1, 0x16, 0x16, .u64, .ro, 0, 0, 18446744073709551615, .range, false⟩,
    ⟨0x5000, 64, 1, 0x17, 0x17, .u16, .rw, 0, 0, 65535, .zeroOnly, false⟩,
    ⟨0x5000, 64, 1, 0x18, 0x18, .u16, .rw, 0, 0, 65535, .zeroOnly, false⟩,
    ⟨0x5000, 64, 1, 0x19, 0x19, .u16, .rw, 0, 0, 65535, .zeroOnly, false⟩] ++
  [
    ⟨0x5000, 64, 1, 0x1a, 0x1a, .u16, .rw, 0, 0, 65535, .zeroOnly, false⟩,
    ⟨0x5000, 64, 1, 0x1b, 0x1b, .u8, .ro, 0, 0, 5, .range, false⟩,
    ⟨0x5060, 1, 1, 0x01, 0x01, .u16, .const, 0, 0, 65535, .range, false⟩,
    ⟨0x5060, 1, 1, 0x02, 0x02, .u16, .const, 1600, 0, 65535, .range, false⟩,
    ⟨0x5060, 1, 1, 0x03, 0x03, .u16, .const, 1601, 0, 65535, .range, false⟩,
    ⟨0x5060, 1, 1, 0x04, 0x04, .u8, .ro, 0, 0, 3, .range, false⟩,
    ⟨0x5060, 1, 1, 0x05, 0x05, .u8, .ro, 0, 0, 255, (.oneOf [0, 1, 2, 4]), false⟩,
    ⟨0x5060, 1, 1, 0x06, 0x06, .u8, .ro, 0, 0, 64, .range, false⟩,
    ⟨0x5060, 1, 1, 0x07, 0x07, .u16, .ro, 0, 0, 944, .range, false⟩,
    ⟨0x5060, 1, 1, 0x08, 0x08, .u16, .ro, 0, 0, 65535, (.oneOf [0, 224, 464, 944]), false⟩,
    ⟨0x5060, 1, 1, 0x09, 0x09, .u16, .rw, 0, 0, 65535, .zeroOnly, false⟩]

/-- Objects of "Memory, dikes and sheet admission" (08). -/
def rowsMemory : List Row :=
  [
    ⟨0x2300, 1, 1, 0x01, 0x01, .u8, .ro, 0, 0, 3, .range, false⟩,
    ⟨0x2300, 1, 1, 0x02, 0x02, .u16, .ro, 0, 0, 65535, (.oneOf [0, 3733, 4266]), false⟩,
    ⟨0x2300, 1, 1, 0x03, 0x03, .u8, .ro, 1, 0, 255, (.oneOf [1, 2, 4]), false⟩,
    ⟨0x2300, 1, 1, 0x04, 0x04, .u8, .ro, 0, 0, 7, .range, false⟩,
    ⟨0x2300, 1, 1, 0x05, 0x05, .i16, .ro, 0, (-32768), 32767, .range, false⟩,
    ⟨0x2300, 1, 1, 0x07, 0x07, .u8, .rw, 255, 0, 47, (.resvOr 255), false⟩,
    ⟨0x2300, 1, 1, 0x08, 0x08, .i16, .rw, 850, 600, 1250, .range, false⟩,
    ⟨0x2300, 1, 1, 0x09, 0x09, .i16, .rw, 950, 600, 1250, .range, false⟩,
    ⟨0x2300, 1, 1, 0x0a, 0x0a, .u16, .ro, 0, 0, 750, .range, false⟩,
    ⟨0x2300, 1, 1, 0x0b, 0x0b, .u16, .ro, 0, 0, 679, .range, false⟩,
    ⟨0x2300, 1, 1, 0x0c, 0x0c, .u16, .ro, 0, 0, 65535, .range, false⟩,
    ⟨0x2300, 1, 1, 0x0d, 0x0d, .u16, .ro, 4096, 0, 4096, .range, false⟩,
    ⟨0x2300, 1, 1, 0x0e, 0x0e, .u8, .ro, 125, 0, 125, .range, false⟩,
    ⟨0x2300, 1, 1, 0x0f, 0x0f, .u8, .rw, 125, 0, 125, .range, false⟩,
    ⟨0x2300, 1, 1, 0x10, 0x10, .u8, .rw, 50, 10, 100, .range, false⟩,
    ⟨0x2300, 1, 1, 0x11, 0x11, .u16, .rw, 40, 5, 500, .range, false⟩,
    ⟨0x2300, 1, 1, 0x12, 0x12, .u32, .rw, 50000, 10000, 1000000, .range, false⟩,
    ⟨0x2300, 1, 1, 0x13, 0x13, .u32, .ro, 0, 0, 4294967295, .range, false⟩,
    ⟨0x2300, 1, 1, 0x14, 0x14, .u32, .ro, 0, 0, 4294967295, .range, false⟩,
    ⟨0x2300, 1, 1, 0x15, 0x15, .u32, .ro, 0, 0, 4294967295, .range, false⟩,
    ⟨0x2300, 1, 1, 0x16, 0x16, .u8, .ro, 0, 0, 2, .range, false⟩,
    ⟨0x2310, 1, 1, 0x01, 0x01, .u32, .rw, 0, 0, 4294967295, .zeroOnly, false⟩,
    ⟨0x2310, 1, 1, 0x02, 0x02, .u16, .rw, 0, 0, 65535, .zeroOnly, false⟩,
    ⟨0x2310, 1, 1, 0x03, 0x03, .u16, .rw, 0, 0, 65535, .zeroOnly, false⟩,
    ⟨0x2310, 1, 1, 0x04, 0x04, .u64, .ro, 0, 0, 18446744073709551615, .range, false⟩] ++
  [
    ⟨0x2310, 1, 1, 0x05, 0x05, .u16, .rw, 24, 1, 168, .range, false⟩,
    ⟨0x2310, 1, 1, 0x06, 0x06, .u32, .ro, 0, 0, 4294967295, .range, false⟩,
    ⟨0x2310, 1, 1, 0x07, 0x07, .u16, .ro, 0, 0, 65535, .range, false⟩,
    ⟨0x2320, 1, 1, 0x01, 0x0b, .u16, .ro, 0, 0, 65535, .range, false⟩,
    ⟨0x2320, 1, 1, 0x11, 0x1b, .u32, .rw, 0, 0, 4294967295, .zeroOnly, false⟩]

/-- Objects of "Band codec, reservoir and freeboard" (09). -/
def rowsRaster : List Row :=
  [
    ⟨0x3010, 6, 32, 0x01, 0x01, .u8, .rws, 8, 1, 32, .range, false⟩,
    ⟨0x3010, 6, 32, 0x02, 0x02, .u16, .rws, 2048, 8, 16384, (.mult 8), false⟩,
    ⟨0x3010, 6, 32, 0x03, 0x03, .bool, .ro, 0, 0, 1, .bool, false⟩,
    ⟨0x3011, 6, 32, 0x01, 0x01, .bool, .ro, 0, 0, 1, .bool, false⟩,
    ⟨0x3011, 6, 32, 0x02, 0x02, .bool, .ro, 0, 0, 1, .bool, true⟩,
    ⟨0x3011, 6, 32, 0x03, 0x03, .u16, .rw, 0, 0, 65535, .zeroOnly, false⟩,
    ⟨0x3011, 6, 32, 0x04, 0x04, .u16, .ro, 0, 0, 2048, .range, false⟩,
    ⟨0x3011, 6, 32, 0x05, 0x05, .u16, .rw, 2, 0, 64, .range, false⟩,
    ⟨0x3011, 6, 32, 0x06, 0x06, .u16, .ro, 0, 0, 2048, .range, false⟩,
    ⟨0x3012, 6, 32, 0x01, 0x01, .u8, .ro, 0, 0, 5, .range, false⟩,
    ⟨0x3012, 6, 32, 0x02, 0x02, .u8, .ro, 0, 0, 11, .range, false⟩,
    ⟨0x3012, 6, 32, 0x03, 0x03, .u16, .rw, 0, 0, 65535, .zeroOnly, false⟩,
    ⟨0x3012, 6, 32, 0x04, 0x04, .u64, .ro, 0, 0, 18446744073709551615, .range, false⟩,
    ⟨0x3012, 6, 32, 0x05, 0x05, .u32, .ro, 0, 0, 4294967295, .range, false⟩,
    ⟨0x3012, 6, 32, 0x06, 0x06, .u16, .ro, 0, 0, 4095, .range, false⟩,
    ⟨0x3013, 6, 32, 0x01, 0x01, .u32, .rw, 0, 0, 4294967295, .zeroOnly, false⟩,
    ⟨0x3013, 6, 32, 0x02, 0x02, .u16, .rw, 0, 0, 65535, .zeroOnly, false⟩,
    ⟨0x3013, 6, 32, 0x03, 0x03, .u16, .rw, 0, 0, 65535, .zeroOnly, false⟩,
    ⟨0x3013, 6, 32, 0x04, 0x04, .u16, .rw, 0, 0, 65535, .zeroOnly, false⟩,
    ⟨0x3013, 6, 32, 0x05, 0x05, .u16, .rw, 0, 0, 65535, .zeroOnly, false⟩,
    ⟨0x3013, 6, 32, 0x06, 0x06, .u16, .rw, 0, 0, 65535, .zeroOnly, false⟩,
    ⟨0x3013, 6, 32, 0x07, 0x07, .u32, .rw, 0, 0, 4294967295, .zeroOnly, false⟩,
    ⟨0x3013, 6, 32, 0x08, 0x08, .u16, .rw, 0, 0, 65535, .zeroOnly, false⟩,
    ⟨0x3013, 6, 32, 0x09, 0x09, .u16, .rw, 0, 0, 65535, .zeroOnly, false⟩]

/-- Objects of "Beam detect, scan geometry and registration" (10). -/
def rowsScan : List Row :=
  [
    ⟨0x3000, 6, 32, 0x01, 0x01, .u8, .rws, 16, 1, 16, .range, false⟩,
    ⟨0x3000, 6, 32, 0x02, 0x02, .u8, .rws, 8, 4, 12, .range, false⟩,
    ⟨0x3000, 6, 32, 0x03, 0x03, .u16, .rws, 2400, 0, 65535, (.oneOf [600, 1200, 2400]), false⟩,
    ⟨0x3000, 6, 32, 0x04, 0x04, .u16, .rws, 2400, 0, 65535, (.oneOf [600, 1200, 2400]), false⟩,
    ⟨0x3000, 6, 32, 0x05, 0x05, .u32, .rws, 600000, 80000, 800000, .range, false⟩,
    ⟨0x3000, 6, 32, 0x06, 0x06, .u16, .rws, 30236, 64, 32768, .range, false⟩,
    ⟨0x3000, 6, 32, 0x07, 0x07, .u8, .rws, 2, 0, 255, (.oneOf [1, 2, 4]), false⟩,
    ⟨0x3000, 6, 32, 0x08, 0x08, .u32, .rws, 5600, 4000, 60000, .range, false⟩,
    ⟨0x3000, 6, 32, 0x09, 0x09, .u32, .rws, 960000, 0, 8388607, .range, false⟩,
    ⟨0x3000, 6, 32, 0x0a, 0x0a, .u32, .rws, 0, 0, 2000000, .range, false⟩,
    ⟨0x3000, 6, 32, 0x0b, 0x0b, .u8, .rws, 0, 0, 255, (.oneOf [0, 1]), false⟩,
    ⟨0x3000, 6, 32, 0x0c, 0x0c, .u32, .ro, 0, 0, 4294967295, .range, false⟩,
    ⟨0x3000, 6, 32, 0x0d, 0x0d, .u32, .ro, 0, 0, 4294967295, .range, false⟩,
    ⟨0x3000, 6, 32, 0x0e, 0x0e, .u32, .ro, 0, 0, 4294967295, .range, false⟩,
    ⟨0x3001, 6, 32, 0x01, 0x10, .u8, .rws, 0, 0, 255, .packed, false⟩,
    ⟨0x2500, 18, 1, 0x01, 0x01, .u8, .ro, 0, 0, 3, .range, false⟩,
    ⟨0x2500, 18, 1, 0x02, 0x02, .u8, .rw, 15, 2, 50, .range, false⟩,
    ⟨0x2500, 18, 1, 0x03, 0x03, .u8, .rw, 2, 1, 16, .range, false⟩,
    ⟨0x2500, 18, 1, 0x04, 0x04, .u8, .rw, 4, 0, 8, .range, false⟩,
    ⟨0x2500, 18, 1, 0x05, 0x05, .u8, .ro, 0, 0, 11, .range, false⟩,
    ⟨0x2500, 18, 1, 0x06, 0x06, .u64, .ro, 0, 0, 18446744073709551615, .range, false⟩,
    ⟨0x2500, 18, 1, 0x07, 0x07, .u32, .ro, 0, 0, 4294967295, .range, false⟩,
    ⟨0x2500, 18, 1, 0x08, 0x0b, .u16, .rw, 0, 0, 65535, .zeroOnly, false⟩,
    ⟨0x2500, 18, 1, 0x0c, 0x0c, .u32, .rw, 0, 0, 4294967295, .zeroOnly, false⟩,
    ⟨0x2500, 18, 1, 0x0d, 0x0d, .bool, .ro, 1, 0, 1, .bool, false⟩] ++
  [
    ⟨0x2500, 18, 1, 0x10, 0x1b, .u32, .ro, 0, 0, 4294967295, .range, false⟩,
    ⟨0x2500, 18, 1, 0x20, 0x2b, .u32, .rw, 0, 0, 4294967295, .range, false⟩,
    ⟨0x3800, 1, 1, 0x01, 0x04, .u16, .rw, 3000, 0, 32767, .range, false⟩,
    ⟨0x3800, 1, 1, 0x05, 0x05, .u16, .rw, 2048, 1, 4094, .range, false⟩,
    ⟨0x3800, 1, 1, 0x06, 0x06, .u16, .rw, 64, 0, 1024, .range, false⟩,
    ⟨0x3800, 1, 1, 0x07, 0x07, .u8, .rw, 6, 6, 17, .range, false⟩,
    ⟨0x3800, 1, 1, 0x08, 0x08, .bool, .rw, 0, 0, 1, .bool, false⟩,
    ⟨0x3800, 1, 1, 0x09, 0x09, .u16, .rw, 50, 1, 10000, .range, false⟩,
    ⟨0x3800, 1, 1, 0x0a, 0x0a, .u8, .rw, 1, 0, 4, .range, false⟩,
    ⟨0x3800, 1, 1, 0x0b, 0x0b, .u16, .rw, 4, 1, 2047, .range, false⟩,
    ⟨0x3800, 1, 1, 0x0c, 0x0c, .u16, .rw, 60, 1, 3600, .range, false⟩,
    ⟨0x3808, 6, 1, 0x01, 0x01, .i32, .ro, 0, (-2147483648), 2147483647, .range, false⟩,
    ⟨0x3808, 6, 1, 0x02, 0x02, .i32, .ro, 0, (-2147483648), 2147483647, .range, false⟩,
    ⟨0x3808, 6, 1, 0x03, 0x03, .i16, .ro, 0, (-32768), 32767, .range, false⟩,
    ⟨0x3808, 6, 1, 0x04, 0x04, .u32, .ro, 0, 0, 4294967295, .range, false⟩,
    ⟨0x3808, 6, 1, 0x05, 0x05, .u16, .rw, 0, 0, 65535, .zeroOnly, false⟩,
    ⟨0x3808, 6, 1, 0x06, 0x06, .u16, .rw, 0, 0, 65535, .zeroOnly, false⟩,
    ⟨0x3810, 6, 1, 0x01, 0xc0, .i16, .rws, 0, (-2047), 2047, .range, false⟩,
    ⟨0x3818, 6, 1, 0x01, 0x01, .i16, .rws, 0, (-2047), 2047, .range, false⟩,
    ⟨0x3818, 6, 1, 0x02, 0x02, .u8, .rws, 0, 0, 16, .range, false⟩,
    ⟨0x3818, 6, 1, 0x03, 0x03, .u8, .rws, 0, 0, 16, .range, false⟩,
    ⟨0x3818, 6, 1, 0x04, 0x13, .u32, .rws, 0, 0, 4294967295, (.mask 0x1FFFF), false⟩]

/-- Objects of "The beam link to the laser driver" (11). -/
def rowsLink : List Row :=
  [
    ⟨0x3014, 6, 32, 0x01, 0x01, .u8, .ro, 0, 0, 4, .range, false⟩,
    ⟨0x3014, 6, 32, 0x02, 0x02, .bool, .rwm, 0, 0, 1, .bool, false⟩,
    ⟨0x3014, 6, 32, 0x03, 0x03, .u16, .ro, 0, 0, 65535, .range, false⟩,
    ⟨0x3014, 6, 32, 0x04, 0x04, .u16, .ro, 0, 0, 65535, .range, false⟩,
    ⟨0x3014, 6, 32, 0x05, 0x05, .u8, .rw, 10, 1, 12, .range, false⟩,
    ⟨0x3014, 6, 32, 0x06, 0x06, .u8, .rws, 0, 0, 15, .range, false⟩,
    ⟨0x3014, 6, 32, 0x07, 0x07, .u16, .rws, 20, 0, 100, .range, false⟩,
    ⟨0x3014, 6, 32, 0x08, 0x08, .u8, .ro, 0, 0, 5, .range, false⟩,
    ⟨0x3014, 6, 32, 0x09, 0x09, .u32, .wo, 0, 0, 4294967295, .packed, false⟩,
    ⟨0x3015, 6, 32, 0x01, 0x01, .u32, .rw, 0, 0, 4294967295, .zeroOnly, false⟩,
    ⟨0x3015, 6, 32, 0x02, 0x02, .u16, .rw, 0, 0, 65535, .zeroOnly, false⟩,
    ⟨0x3015, 6, 32, 0x03, 0x03, .u16, .rw, 0, 0, 65535, .zeroOnly, false⟩,
    ⟨0x3015, 6, 32, 0x04, 0x04, .u16, .rw, 0, 0, 65535, .zeroOnly, false⟩,
    ⟨0x3015, 6, 32, 0x05, 0x05, .u64, .ro, 0, 0, 18446744073709551615, .range, false⟩,
    ⟨0x3015, 6, 32, 0x06, 0x06, .u32, .ro, 0, 0, 4294967295, .range, false⟩,
    ⟨0x3015, 6, 32, 0x07, 0x07, .u32, .ro, 0, 0, 16777215, .range, false⟩]

/-- Objects of "Event scheduler and tooth trackers" (12). -/
def rowsScheduler : List Row :=
  [
    ⟨0x2520, 1, 1, 0x01, 0x01, .u16, .ro, 0, 0, 1024, .range, false⟩,
    ⟨0x2520, 1, 1, 0x02, 0x02, .bool, .ro, 0, 0, 1, .range, false⟩,
    ⟨0x2520, 1, 1, 0x03, 0x03, .bool, .ro, 0, 0, 1, .range, true⟩,
    ⟨0x2520, 1, 1, 0x04, 0x04, .u16, .rw, 0, 0, 65535, .zeroOnly, false⟩,
    ⟨0x2520, 1, 1, 0x05, 0x05, .u16, .ro, 0, 0, 1024, .range, false⟩,
    ⟨0x2520, 1, 1, 0x06, 0x06, .u16, .rw, 896, 0, 1024, .range, false⟩,
    ⟨0x2521, 1, 1, 0x01, 0x05, .u32, .ro, 0, 0, 4294967295, .range, false⟩,
    ⟨0x2521, 1, 1, 0x06, 0x06, .u16, .rw, 0, 0, 65535, .zeroOnly, false⟩,
    ⟨0x2521, 1, 1, 0x07, 0x07, .u16, .rw, 0, 0, 65535, .zeroOnly, false⟩,
    ⟨0x2521, 1, 1, 0x08, 0x08, .u16, .rw, 0, 0, 65535, .zeroOnly, false⟩,
    ⟨0x2521, 1, 1, 0x09, 0x09, .u16, .rw, 0, 0, 65535, .zeroOnly, false⟩,
    ⟨0x2521, 1, 1, 0x0a, 0x0a, .u16, .rw, 0, 0, 65535, .zeroOnly, false⟩,
    ⟨0x2522, 1, 1, 0x01, 0x01, .u16, .rw, 0, 0, 1023, .range, false⟩,
    ⟨0x2522, 1, 1, 0x02, 0x02, .blob, .ro, 0, 0, 24, (.oneOf [0, 24]), false⟩,
    ⟨0x2523, 1, 1, 0x01, 0x01, .blob, .wo, 0, 16, 16, (.oneOf [16]), false⟩,
    ⟨0x2523, 1, 1, 0x02, 0x02, .u16, .wo, 0, 1, 65535, .range, false⟩,
    ⟨0x2523, 1, 1, 0x03, 0x03, .u16, .ro, 0, 640, 1023, .range, false⟩,
    ⟨0x2524, 1, 1, 0x01, 0x01, .blob, .ro, 0, 0, 24, (.oneOf [0, 24]), false⟩,
    ⟨0x2506, 12, 1, 0x30, 0x30, .u8, .rw, 255, 0, 95, (.orElse 255), false⟩,
    ⟨0x2506, 12, 1, 0x31, 0x31, .u8, .rw, 0, 0, 2, .resv, false⟩,
    ⟨0x2506, 12, 1, 0x32, 0x32, .u8, .rw, 1, 1, 12, .range, false⟩,
    ⟨0x2506, 12, 1, 0x33, 0x33, .u32, .rw, 0, 0, 100000000, .range, false⟩,
    ⟨0x2506, 12, 1, 0x34, 0x34, .u32, .rw, 100000, 122, 1000000, .range, false⟩,
    ⟨0x2506, 12, 1, 0x35, 0x35, .u8, .rw, 255, 0, 255, .packed, false⟩,
    ⟨0x2506, 12, 1, 0x36, 0x36, .u64, .ro, 0, 0, 18446744073709551615, .range, false⟩] ++
  [
    ⟨0x2506, 12, 1, 0x37, 0x37, .u32, .ro, 0, 0, 8192000, .range, false⟩,
    ⟨0x5070, 16, 1, 0x01, 0x22, .u64, .rws, 0, 0, 18446744073709551615, .packed, false⟩]

/-- Objects of "Polygon and drive motors" (13). -/
def rowsMotors : List Row :=
  [
    ⟨0x4800, 12, 1, 0x01, 0x01, .u8, .rws, 2, 0, 4, .resv, false⟩,
    ⟨0x4800, 12, 1, 0x02, 0x02, .u32, .rws, 20000, 16000, 100000, .range, false⟩,
    ⟨0x4800, 12, 1, 0x03, 0x03, .u16, .rws, 200, 20, 2000, (.mult 5), false⟩,
    ⟨0x4800, 12, 1, 0x04, 0x04, .u8, .rws, 0, 0, 255, (.mask 3), false⟩,
    ⟨0x4800, 12, 1, 0x05, 0x05, .u8, .rws, 2, 1, 16, .range, false⟩,
    ⟨0x4800, 12, 1, 0x06, 0x06, .u16, .rws, 2000, 100, 50000, .range, false⟩,
    ⟨0x4800, 12, 1, 0x07, 0x07, .u16, .rws, 10000, 100, 65535, .range, false⟩,
    ⟨0x4800, 12, 1, 0x08, 0x08, .u32, .rws, 1048832, 0, 4294967295, .range, false⟩,
    ⟨0x4800, 12, 1, 0x09, 0x09, .u32, .rws, 16777215, 0, 4294967295, .packed, false⟩,
    ⟨0x4800, 12, 1, 0x0a, 0x0a, .u32, .rws, 16777215, 0, 4294967295, .packed, false⟩,
    ⟨0x4800, 12, 1, 0x0b, 0x0b, .i16, .rws, 0, (-32768), 0, .range, false⟩,
    ⟨0x4800, 12, 1, 0x0c, 0x0c, .u32, .rws, 300000, 1, 2097151, .range, false⟩,
    ⟨0x4800, 12, 1, 0x0e, 0x0e, .u8, .rws, 255, 6, 17, (.orElse 255), false⟩,
    ⟨0x4800, 12, 1, 0x0f, 0x0f, .u16, .rws, 20, 0, 500, .range, false⟩,
    ⟨0x4800, 12, 1, 0x10, 0x10, .u32, .rws, 13108700, 0, 4294967295, .range, false⟩,
    ⟨0x4800, 12, 1, 0x11, 0x11, .u32, .rws, 65537500, 0, 4294967295, .range, false⟩,
    ⟨0x4800, 12, 1, 0x12, 0x12, .u8, .rws, 24, 6, 255, .range, false⟩,
    ⟨0x4800, 12, 1, 0x13, 0x13, .u16, .ro, 0, 0, 65535, .range, false⟩,
    ⟨0x4800, 12, 1, 0x14, 0x14, .u16, .rws, 1000, 0, 50000, .range, false⟩,
    ⟨0x4800, 12, 1, 0x15, 0x15, .u16, .rws, 500, 10, 10000, .range, false⟩,
    ⟨0x4800, 12, 1, 0x16, 0x16, .u16, .rws, 1200, 1200, 5000, .range, false⟩,
    ⟨0x4800, 12, 1, 0x17, 0x17, .u16, .rws, 10, 2, 1000, .range, false⟩,
    ⟨0x4800, 12, 1, 0x18, 0x18, .u8, .wo, 0, 0, 15, .range, false⟩,
    ⟨0x4800, 12, 1, 0x19, 0x19, .u32, .rws, 5000, 1, 100000, .range, false⟩,
    ⟨0x4800, 12, 1, 0x1a, 0x1a, .u16, .rws, 0, 0, 65535, .range, false⟩] ++
  [
    ⟨0x4800, 12, 1, 0x20, 0x2f, .u32, .rw, 0, 0, 4294967295, .range, false⟩,
    ⟨0x4800, 12, 1, 0x30, 0x30, .u8, .ro, 0, 0, 7, .range, false⟩,
    ⟨0x4800, 12, 1, 0x31, 0x31, .i32, .ro, 0, (-2147483648), 2147483647, .range, false⟩,
    ⟨0x4800, 12, 1, 0x32, 0x32, .i32, .ro, 0, (-2147483648), 2147483647, .range, false⟩,
    ⟨0x4800, 12, 1, 0x33, 0x34, .i16, .ro, 0, (-32768), 32767, .range, false⟩,
    ⟨0x4800, 12, 1, 0x35, 0x35, .bool, .ro, 0, 0, 1, .bool, false⟩,
    ⟨0x4800, 12, 1, 0x36, 0x36, .u8, .ro, 0, 0, 8, .range, false⟩,
    ⟨0x4800, 12, 1, 0x37, 0x37, .u16, .rw, 0, 0, 65535, .zeroOnly, false⟩,
    ⟨0x4800, 12, 1, 0x38, 0x38, .u16, .rw, 0, 0, 65535, .zeroOnly, false⟩,
    ⟨0x4800, 12, 1, 0x39, 0x39, .u32, .rw, 0, 0, 4294967295, .zeroOnly, false⟩,
    ⟨0x4800, 12, 1, 0x3a, 0x3a, .u32, .ro, 0, 0, 4294967295, .range, false⟩,
    ⟨0x4800, 12, 1, 0x3b, 0x3b, .i32, .ro, 0, (-2147483648), 2147483647, .range, false⟩,
    ⟨0x4800, 12, 1, 0x3c, 0x3c, .u32, .ro, 0, 0, 4294967295, .range, false⟩,
    ⟨0x4800, 12, 1, 0x3d, 0x3d, .i32, .ro, 0, (-2147483648), 2147483647, .range, false⟩,
    ⟨0x4810, 1, 1, 0x01, 0x01, .u8, .rw, 4, 0, 12, .range, false⟩,
    ⟨0x4810, 1, 1, 0x02, 0x02, .u32, .rw, 2400, 1, 1000000, .range, false⟩,
    ⟨0x4810, 1, 1, 0x03, 0x03, .u8, .rws, 255, 0, 47, (.orElse 255), false⟩,
    ⟨0x4810, 1, 1, 0x04, 0x04, .u16, .rws, 24000, 5000, 60000, .range, false⟩,
    ⟨0x4810, 1, 1, 0x05, 0x05, .u16, .rws, 26400, 5000, 65535, .range, false⟩,
    ⟨0x4810, 1, 1, 0x06, 0x06, .u16, .ro, 0, 0, 65535, .range, false⟩,
    ⟨0x4810, 1, 1, 0x07, 0x07, .u8, .rw, 1, 0, 15, .range, false⟩]

/-- Objects of "Paper-path axes" (14). -/
def rowsAxes : List Row :=
  [
    ⟨0x4900, 16, 1, 0x01, 0x01, .u32, .rw, 4294967295, 0, 4294967295, .packed, false⟩,
    ⟨0x4900, 16, 1, 0x02, 0x02, .u32, .rw, 65535, 0, 4294967295, .packed, false⟩,
    ⟨0x4900, 16, 1, 0x03, 0x03, .u32, .rw, 4294967295, 0, 4294967295, .packed, false⟩,
    ⟨0x4900, 16, 1, 0x04, 0x04, .u16, .rw, 0, 0, 65535, (.mask 1023), false⟩,
    ⟨0x4900, 16, 1, 0x05, 0x05, .u16, .rw, 1000, 100, 10000, (.mult 10), false⟩,
    ⟨0x4900, 16, 1, 0x06, 0x06, .u16, .rw, 1000, 100, 50000, (.mult 10), false⟩,
    ⟨0x4900, 16, 1, 0x07, 0x07, .u16, .rw, 1000, 0, 50000, .range, false⟩,
    ⟨0x4900, 16, 1, 0x08, 0x08, .u16, .rw, 16, 1, 256, .pow2, false⟩,
    ⟨0x4900, 16, 1, 0x09, 0x09, .u32, .rw, 1000, 1, 200000, .range, false⟩,
    ⟨0x4900, 16, 1, 0x0a, 0x0a, .u8, .rw, 2, 0, 2, .resv, false⟩,
    ⟨0x4900, 16, 1, 0x0b, 0x0b, .u16, .rw, 100, 0, 10000, .range, false⟩,
    ⟨0x4900, 16, 1, 0x0c, 0x0c, .u8, .rw, 1, 0, 255, (.oneOf [0, 1]), false⟩,
    ⟨0x4900, 16, 1, 0x0d, 0x0d, .u16, .rw, 100, 0, 10000, .range, false⟩,
    ⟨0x4900, 16, 1, 0x0e, 0x0e, .u8, .rw, 1, 0, 2, .resv, false⟩,
    ⟨0x4900, 16, 1, 0x10, 0x13, .u32, .rw, 20000, 1, 200000, .range, false⟩,
    ⟨0x4900, 16, 1, 0x14, 0x17, .u32, .rw, 200000, 1, 100000000, .range, false⟩,
    ⟨0x4900, 16, 1, 0x18, 0x1b, .u32, .rw, 200000, 1, 100000000, .range, false⟩,
    ⟨0x4900, 16, 1, 0x1c, 0x1f, .u32, .rw, 0, 0, 4294967295, .range, false⟩,
    ⟨0x4900, 16, 1, 0x20, 0x2f, .u64, .rw, 0, 0, 18446744073709551615, (.mask 0x7FFFFFFFF), false⟩,
    ⟨0x4900, 16, 1, 0x30, 0x30, .u8, .ro, 0, 0, 6, .range, false⟩,
    ⟨0x4900, 16, 1, 0x31, 0x31, .i32, .ro, 0, (-2147483648), 2147483647, .range, false⟩,
    ⟨0x4900, 16, 1, 0x32, 0x32, .bool, .ro, 0, 0, 1, .bool, false⟩,
    ⟨0x4900, 16, 1, 0x33, 0x33, .i32, .ro, 0, (-2147483648), 2147483647, .range, false⟩,
    ⟨0x4900, 16, 1, 0x34, 0x34, .i32, .ro, 0, (-2147483648), 2147483647, .range, false⟩,
    ⟨0x4900, 16, 1, 0x35, 0x35, .u8, .ro, 0, 0, 3, .range, false⟩] ++
  [
    ⟨0x4900, 16, 1, 0x36, 0x36, .u16, .rw, 0, 0, 65535, .zeroOnly, false⟩,
    ⟨0x4900, 16, 1, 0x37, 0x37, .u16, .rw, 0, 0, 65535, .zeroOnly, false⟩,
    ⟨0x4900, 16, 1, 0x38, 0x38, .u8, .wo, 0, 0, 255, .packed, false⟩,
    ⟨0x4900, 16, 1, 0x39, 0x39, .u8, .wo, 0, 0, 255, (.oneOf [1, 2]), false⟩,
    ⟨0x4900, 16, 1, 0x3a, 0x3a, .bool, .wo, 0, 0, 1, .bool, false⟩,
    ⟨0x4900, 16, 1, 0x3b, 0x3b, .bool, .wo, 0, 0, 1, .bool, false⟩,
    ⟨0x4900, 16, 1, 0x3c, 0x3c, .bool, .rw, 0, 0, 1, .bool, false⟩,
    ⟨0x4900, 16, 1, 0x3d, 0x3d, .u8, .ro, 0, 0, 4, .range, false⟩,
    ⟨0x4900, 16, 1, 0x3e, 0x3e, .u64, .ro, 0, 0, 18446744073709551615, .range, false⟩,
    ⟨0x4900, 16, 1, 0x3f, 0x3f, .u16, .rw, 0, 0, 65535, .zeroOnly, false⟩,
    ⟨0x4900, 16, 1, 0x40, 0x40, .u8, .rw, 0, 0, 4, .resv, false⟩,
    ⟨0x4900, 16, 1, 0x41, 0x41, .bool, .rw, 0, 0, 1, .bool, false⟩,
    ⟨0x4900, 16, 1, 0x42, 0x42, .u32, .rw, 5000, 1, 200000, .range, false⟩,
    ⟨0x4900, 16, 1, 0x43, 0x43, .u32, .rw, 500, 1, 200000, .range, false⟩,
    ⟨0x4900, 16, 1, 0x44, 0x44, .u32, .rw, 100000, 1, 2147483647, .range, false⟩,
    ⟨0x4900, 16, 1, 0x45, 0x45, .i32, .rw, 0, (-2147483648), 2147483647, .range, false⟩,
    ⟨0x4920, 4, 1, 0x01, 0x01, .u32, .rws, 4294967295, 0, 4294967295, .packed, false⟩,
    ⟨0x4920, 4, 1, 0x02, 0x02, .u8, .ro, 0, 0, 4, .range, false⟩]

/-- Objects of "The loop engine: high voltage, fuser and speed" (15). -/
def rowsLoops : List Row :=
  [
    ⟨0x3900, 48, 1, 0x01, 0x01, .u8, .rws, 0, 0, 255, .packed, false⟩,
    ⟨0x3900, 48, 1, 0x02, 0x02, .u32, .rws, 0, 0, 4294967295, .packed, false⟩,
    ⟨0x3900, 48, 1, 0x03, 0x03, .u32, .rws, 0, 0, 4294967295, .packed, false⟩,
    ⟨0x3900, 48, 1, 0x04, 0x04, .u16, .rws, 20, 2, 65535, .range, false⟩,
    ⟨0x3900, 48, 1, 0x05, 0x05, .u32, .rws, 1048592, 0, 4294967295, .range, false⟩,
    ⟨0x3900, 48, 1, 0x06, 0x06, .u16, .rws, 16, 1, 65535, .range, false⟩,
    ⟨0x3900, 48, 1, 0x07, 0x07, .u64, .rws, 281474976710656, 0, 18446744073709551615, .range, false⟩,
    ⟨0x3900, 48, 1, 0x08, 0x08, .u32, .rws, 0, 0, 4294967295, .range, false⟩,
    ⟨0x3900, 48, 1, 0x09, 0x09, .u32, .rws, 0, 0, 4294967295, .packed, false⟩,
    ⟨0x3900, 48, 1, 0x0a, 0x0a, .u32, .rws, 100, 0, 4294967295, .packed, false⟩,
    ⟨0x3900, 48, 1, 0x0b, 0x0b, .u16, .rws, 0, 0, 60000, .range, false⟩,
    ⟨0x3900, 48, 1, 0x0c, 0x0c, .u16, .rws, 0, 0, 65535, .range, false⟩,
    ⟨0x3900, 48, 1, 0x0d, 0x0d, .u8, .rws, 0, 0, 255, .packed, false⟩,
    ⟨0x3900, 48, 1, 0x0e, 0x0e, .u16, .rws, 1000, 1, 60000, .range, false⟩,
    ⟨0x3900, 48, 1, 0x0f, 0x0f, .u8, .rws, 1, 0, 2, .resv, false⟩,
    ⟨0x3900, 48, 1, 0x10, 0x10, .u16, .rws, 100, 2, 10000, .range, false⟩,
    ⟨0x3900, 48, 1, 0x11, 0x11, .i32, .rws, 0, (-2147483648), 2147483647, .range, false⟩,
    ⟨0x3900, 48, 1, 0x12, 0x12, .i32, .rws, 2147483647, (-2147483648), 2147483647, .range, false⟩,
    ⟨0x3900, 48, 1, 0x18, 0x1f, .i32, .rw, 0, (-2147483648), 2147483647, .range, false⟩,
    ⟨0x3900, 48, 1, 0x20, 0x20, .u8, .rw, 0, 0, 7, .range, false⟩,
    ⟨0x3900, 48, 1, 0x21, 0x21, .u8, .wo, 0, 0, 1, .resv, false⟩,
    ⟨0x3900, 48, 1, 0x30, 0x30, .u8, .ro, 0, 0, 4, .range, false⟩,
    ⟨0x3900, 48, 1, 0x31, 0x31, .i32, .ro, 0, (-2147483648), 2147483647, .range, false⟩,
    ⟨0x3900, 48, 1, 0x32, 0x32, .i32, .ro, 0, (-2147483648), 2147483647, .range, false⟩,
    ⟨0x3900, 48, 1, 0x33, 0x33, .i32, .ro, 0, (-2147483648), 2147483647, .range, false⟩] ++
  [
    ⟨0x3900, 48, 1, 0x34, 0x34, .i32, .ro, 0, (-2147483648), 2147483647, .range, false⟩,
    ⟨0x3900, 48, 1, 0x35, 0x35, .u8, .ro, 0, 0, 255, (.mask 15), false⟩,
    ⟨0x3900, 48, 1, 0x36, 0x36, .u8, .ro, 0, 0, 5, .range, false⟩,
    ⟨0x3900, 48, 1, 0x37, 0x37, .u16, .rw, 0, 0, 65535, .zeroOnly, false⟩,
    ⟨0x3900, 48, 1, 0x38, 0x38, .u64, .ro, 0, 0, 18446744073709551615, .range, false⟩,
    ⟨0x3900, 48, 1, 0x39, 0x39, .u32, .rw, 0, 0, 4294967295, .zeroOnly, false⟩,
    ⟨0x3930, 1, 1, 0x01, 0x01, .u32, .ro, 0, 0, 8000000, .range, false⟩,
    ⟨0x3930, 1, 1, 0x02, 0x02, .u64, .ro, 0, 0, 18446744073709551615, .range, false⟩,
    ⟨0x3930, 1, 1, 0x03, 0x03, .u32, .ro, 0, 0, 4294967295, .range, false⟩,
    ⟨0x3930, 1, 1, 0x04, 0x04, .u16, .rw, 100, 0, 2000, .range, false⟩,
    ⟨0x3930, 1, 1, 0x05, 0x05, .u16, .rw, 200, 10, 2000, .range, false⟩,
    ⟨0x3930, 1, 1, 0x06, 0x06, .u16, .rw, 25, 12, 100, .range, false⟩,
    ⟨0x3930, 1, 1, 0x07, 0x07, .u16, .rw, 0, 0, 65535, .zeroOnly, false⟩,
    ⟨0x3c00, 48, 1, 0x01, 0x01, .u8, .rwm, 0, 0, 2, .resv, false⟩,
    ⟨0x3c00, 48, 1, 0x02, 0x02, .u32, .rwm, 1000, 1, 1000000, .range, false⟩,
    ⟨0x3c00, 48, 1, 0x03, 0x03, .u8, .rwm, 0, 0, 2, .resv, false⟩,
    ⟨0x3c00, 48, 1, 0x04, 0x04, .u32, .rwm, 33000, 100, 1000000, .range, false⟩,
    ⟨0x3c00, 48, 1, 0x05, 0x05, .u8, .rwm, 0, 0, 7, .range, false⟩,
    ⟨0x3c00, 48, 1, 0x06, 0x06, .u16, .ro, 0, 0, 4095, .range, false⟩,
    ⟨0x3c00, 48, 1, 0x07, 0x07, .i32, .ro, 0, (-2147483648), 2147483647, .range, false⟩,
    ⟨0x3c00, 48, 1, 0x08, 0x08, .u8, .ro, 0, 0, 255, (.mask 7), false⟩,
    ⟨0x3c00, 48, 1, 0x09, 0x09, .u32, .ro, 0, 0, 4294967295, .range, false⟩,
    ⟨0x3c00, 48, 1, 0x0a, 0x0a, .u16, .rw, 0, 0, 65535, .zeroOnly, false⟩,
    ⟨0x3c40, 4, 1, 0x01, 0x01, .u32, .ro, 0, 0, 4000000, .range, false⟩,
    ⟨0x3c40, 4, 1, 0x02, 0x02, .u64, .ro, 0, 0, 18446744073709551615, .range, false⟩] ++
  [
    ⟨0x3c48, 8, 1, 0x01, 0x01, .blob, .rw, 0, 130, 130, (.oneOf [130]), false⟩,
    ⟨0x7000, 1, 1, 0x01, 0x01, .u8, .rw, 0, 0, 47, .range, false⟩,
    ⟨0x7000, 1, 1, 0x02, 0x02, .u8, .rw, 0, 0, 1, .resv, false⟩,
    ⟨0x7000, 1, 1, 0x03, 0x03, .u8, .rw, 0, 0, 3, .resv, false⟩,
    ⟨0x7000, 1, 1, 0x04, 0x04, .i32, .rw, 0, (-2147483648), 2147483647, .range, false⟩,
    ⟨0x7000, 1, 1, 0x05, 0x05, .u16, .rw, 1, 1, 65535, .range, false⟩,
    ⟨0x7000, 1, 1, 0x06, 0x06, .u8, .wo, 0, 0, 1, .resv, false⟩,
    ⟨0x7000, 1, 1, 0x10, 0x10, .u8, .rw, 0, 0, 47, .range, false⟩,
    ⟨0x7000, 1, 1, 0x11, 0x11, .u16, .rw, 1, 1, 65535, .range, false⟩,
    ⟨0x7000, 1, 1, 0x12, 0x12, .u16, .rw, 0, 0, 4095, .range, false⟩,
    ⟨0x7000, 1, 1, 0x13, 0x13, .bool, .wo, 0, 0, 1, .bool, false⟩,
    ⟨0x7000, 1, 1, 0x14, 0x14, .bool, .wo, 0, 0, 1, .bool, false⟩,
    ⟨0x7000, 1, 1, 0x15, 0x15, .u8, .ro, 0, 0, 3, .range, false⟩,
    ⟨0x7000, 1, 1, 0x16, 0x16, .blob, .ro, 0, 0, 32768, (.oneOf [0, 32768]), false⟩,
    ⟨0x7000, 1, 1, 0x17, 0x17, .u64, .ro, 0, 0, 18446744073709551615, .range, false⟩]

/-- Objects of "Multiplexed pins" (16). -/
def rowsPins : List Row :=
  [
    ⟨0x2600, 96, 1, 0x01, 0x01, .u8, .rw, 0, 0, 2, .resv, false⟩,
    ⟨0x2600, 96, 1, 0x02, 0x02, .u8, .rw, 1, 0, 2, .resv, false⟩,
    ⟨0x2600, 96, 1, 0x03, 0x03, .bool, .rw, 0, 0, 1, .bool, false⟩,
    ⟨0x2600, 96, 1, 0x04, 0x04, .u8, .rw, 0, 0, 255, (.oneOf [0, 1]), false⟩,
    ⟨0x2600, 96, 1, 0x05, 0x05, .u16, .rw, 65535, 0, 65535, .packed, false⟩,
    ⟨0x2600, 96, 1, 0x06, 0x06, .u8, .rw, 3, 0, 5, .resv, false⟩,
    ⟨0x2600, 96, 1, 0x07, 0x07, .u8, .wo, 0, 0, 255, (.oneOf [0x4C, 0xB3]), false⟩,
    ⟨0x2600, 96, 1, 0x08, 0x08, .bool, .ro, 0, 0, 1, .bool, false⟩,
    ⟨0x2600, 96, 1, 0x09, 0x09, .bool, .ro, 0, 0, 1, .bool, false⟩,
    ⟨0x2600, 96, 1, 0x0a, 0x0a, .u8, .ro, 0, 0, 255, (.mask 63), false⟩,
    ⟨0x2600, 96, 1, 0x0b, 0x0b, .u16, .rw, 0, 0, 65535, .zeroOnly, false⟩,
    ⟨0x2600, 96, 1, 0x0c, 0x0c, .u8, .const, 0, 0, 255, (.mask 3), false⟩,
    ⟨0x2660, 1, 1, 0x01, 0x01, .u8, .wo, 0, 0, 255, (.oneOf [0x4C, 0xB3]), false⟩,
    ⟨0x2660, 1, 1, 0x02, 0x02, .u8, .ro, 0, 0, 96, .range, false⟩,
    ⟨0x2660, 1, 1, 0x03, 0x03, .u64, .ro, 0, 0, 18446744073709551615, .range, false⟩,
    ⟨0x2660, 1, 1, 0x04, 0x04, .u32, .ro, 0, 0, 4294967295, .range, false⟩,
    ⟨0x2660, 1, 1, 0x05, 0x05, .u64, .ro, 0, 0, 18446744073709551615, .range, false⟩,
    ⟨0x2660, 1, 1, 0x06, 0x06, .u32, .ro, 0, 0, 4294967295, .range, false⟩,
    ⟨0x2660, 1, 1, 0x07, 0x07, .u16, .rw, 0, 0, 65535, .zeroOnly, false⟩,
    ⟨0x2660, 1, 1, 0x08, 0x08, .u16, .rw, 0, 0, 65535, .zeroOnly, false⟩,
    ⟨0x2660, 1, 1, 0x09, 0x09, .u16, .rw, 0, 0, 65535, .zeroOnly, false⟩]

/-- Objects of "Second serve, faults, logs and counters" (17). -/
def rowsUmpire : List Row :=
  [
    ⟨0x2400, 1, 1, 0x01, 0x01, .u32, .ro, 0, 0, 4294967295, .range, false⟩,
    ⟨0x2400, 1, 1, 0x02, 0x02, .u32, .ro, 0, 0, 4294967295, .range, false⟩,
    ⟨0x2400, 1, 1, 0x03, 0x03, .u16, .rw, 0, 0, 65535, .zeroOnly, false⟩,
    ⟨0x2400, 1, 1, 0x04, 0x04, .u16, .rw, 0, 0, 65535, .zeroOnly, false⟩,
    ⟨0x2400, 1, 1, 0x05, 0x05, .u16, .rw, 0, 0, 65535, .zeroOnly, false⟩,
    ⟨0x2400, 1, 1, 0x06, 0x06, .u16, .ro, 0, 0, 65535, .range, false⟩,
    ⟨0x2400, 1, 1, 0x07, 0x07, .u8, .ro, 0, 0, 12, .range, false⟩,
    ⟨0x2400, 1, 1, 0x08, 0x08, .u16, .rw, 0, 0, 65535, .zeroOnly, false⟩,
    ⟨0x2400, 1, 1, 0x09, 0x09, .u8, .ro, 0, 0, 5, .range, false⟩,
    ⟨0x2400, 1, 1, 0x0a, 0x0a, .u16, .rw, 0, 0, 65535, .zeroOnly, false⟩,
    ⟨0x2410, 1, 1, 0x01, 0x01, .blob, .ro, 0, 0, 8194, .range, false⟩,
    ⟨0x2410, 1, 1, 0x02, 0x02, .u32, .rw, 0, 0, 4294967295, .range, false⟩,
    ⟨0x2410, 1, 1, 0x03, 0x03, .u32, .ro, 0, 0, 4294967295, .range, false⟩,
    ⟨0x2410, 1, 1, 0x04, 0x04, .u16, .ro, 0, 0, 4096, .range, false⟩,
    ⟨0x2410, 1, 1, 0x05, 0x05, .u32, .rw, 0, 0, 4294967295, .zeroOnly, false⟩,
    ⟨0x2410, 1, 1, 0x06, 0x06, .u32, .rw, 0, 0, 4294967295, .zeroOnly, false⟩,
    ⟨0x2410, 1, 1, 0x08, 0x08, .u8, .rw, 0, 0, 255, (.oneOf [0, 1]), false⟩,
    ⟨0x2418, 1, 1, 0x01, 0x01, .u8, .ro, 0, 0, 2, .range, false⟩,
    ⟨0x2418, 1, 1, 0x02, 0x02, .u8, .ro, 0, 0, 64, .range, false⟩,
    ⟨0x2418, 1, 1, 0x03, 0x03, .u16, .rw, 0, 0, 65535, .zeroOnly, false⟩,
    ⟨0x2418, 1, 1, 0x04, 0x04, .u32, .ro, 0, 0, 4294967295, .range, false⟩,
    ⟨0x2418, 1, 1, 0x05, 0x05, .u64, .ro, 0, 0, 18446744073709551615, .range, false⟩,
    ⟨0x2420, 1, 1, 0x01, 0x01, .blob, .ro, 0, 0, 1026, .range, true⟩,
    ⟨0x2420, 1, 1, 0x02, 0x02, .u16, .rw, 0, 0, 65535, .zeroOnly, false⟩]

/-- Objects of "Electrical, thermal and lifetime figures" (18). -/
def rowsThermal : List Row :=
  [
    ⟨0x7010, 1, 1, 0x01, 0x01, .i16, .ro, 0, (-400), 1650, .range, false⟩,
    ⟨0x7010, 1, 1, 0x02, 0x09, .i16, .ro, 0, (-400), 1650, .range, false⟩,
    ⟨0x7010, 1, 1, 0x0a, 0x0a, .i16, .ro, 0, (-32768), 32767, .range, true⟩,
    ⟨0x7010, 1, 1, 0x0b, 0x0b, .u8, .ro, 0, 0, 3, .range, false⟩,
    ⟨0x7010, 1, 1, 0x0c, 0x0c, .u16, .rw, 0, 0, 65535, .zeroOnly, false⟩,
    ⟨0x7010, 1, 1, 0x10, 0x10, .u32, .ro, 0, 0, 4294967295, .range, false⟩,
    ⟨0x7010, 1, 1, 0x11, 0x11, .u32, .ro, 0, 0, 4294967295, .range, false⟩,
    ⟨0x7010, 1, 1, 0x12, 0x12, .u32, .ro, 0, 0, 4294967295, .range, false⟩,
    ⟨0x7010, 1, 1, 0x13, 0x13, .u32, .ro, 0, 0, 4294967295, .range, false⟩,
    ⟨0x7010, 1, 1, 0x14, 0x14, .u16, .rw, 0, 0, 65535, .zeroOnly, false⟩]

/-- The Patron range's own object 4100 (02_dictionary.md); 4000 and 4010 are views. -/
def rowsPatron : List Row :=
  [
    ⟨0x4100, 1, 1, 0x01, 0x01, .bool, .rw, 1, 0, 1, .bool, false⟩,
    ⟨0x4100, 1, 1, 0x02, 0x02, .u16, .rw, 0x0700, 1, 0x07FF, .range, false⟩,
    ⟨0x4100, 1, 1, 0x03, 0x03, .u8, .ro, 0, 0, 255, .range, false⟩]

/-- Whether a row holds the index. -/
def Row.has (r : Row) (idx : Nat) : Bool :=
  decide (r.base ≤ idx ∧ (idx - r.base) % r.stride = 0 ∧ (idx - r.base) / r.stride < r.count)

/-- The rows among which an index of the standard map lies (R605). -/
def rowsAt (idx : Nat) : List Row :=
  if idx < 0x1100 then rowsDictionary
  else if idx < 0x2000 then rowsNetwork
  else if idx < 0x2010 then rowsModes
  else if idx < 0x2100 then rowsKickoff
  else if idx < 0x2200 then rowsPower
  else if idx < 0x2300 then rowsClocks
  else if idx < 0x2400 then rowsMemory
  else if idx < 0x2500 then rowsUmpire
  else if idx < 0x2520 then rowsScan ++ rowsScheduler
  else if idx < 0x2600 then rowsScheduler
  else if idx < 0x2700 then rowsPins
  else if idx = 0x2700 then rowsDictionary ++ rowsNetwork
  else if idx < 0x3000 then rowsKickoff
  else if idx < 0x3800 then rowsScan ++ rowsRaster ++ rowsLink
  else if idx < 0x3900 then rowsScan
  else if idx < 0x4000 then rowsLoops
  else if idx < 0x4800 then rowsPatron
  else if idx < 0x4900 then rowsMotors
  else if idx < 0x5000 then rowsAxes
  else if idx < 0x5040 then rowsTenants
  else if idx < 0x5060 then rowsModes
  else if idx < 0x5070 then rowsTenants
  else if idx < 0x6000 then rowsScheduler
  else if idx < 0x7000 then rowsNetwork
  else if idx = 0x7000 then rowsLoops
  else if idx = 0x7010 then rowsThermal
  else []

/-- The rows of an index. -/
def rowsOf (idx : Nat) : List Row := (rowsAt idx).filter fun r => r.has idx

/-- The row of an object. -/
def rowOf (idx sub : Nat) : Option Row := (rowsAt idx).find? fun r => r.has idx && decide (r.lo ≤ sub ∧ sub ≤ r.hi)

/-- The highest subindex that the table of an index gives (R51). -/
def topSub (idx : Nat) : Nat := (rowsOf idx).foldl (fun m r => max m r.hi) 0

/-- The consistency group of the RWS objects at an index (R605). -/
def groupOf (idx : Nat) : Nat :=
  if idx < 0x1200 then 19
  else if idx < 0x1300 then 15
  else if idx < 0x2130 then 14
  else if idx < 0x2300 then 13
  else if idx < 0x30C0 then (idx - 0x3000) / 0x20 + 1
  else if idx < 0x3818 then idx - 0x3810 + 7
  else if idx < 0x3820 then idx - 0x3818 + 7
  else if idx < 0x3940 then 17
  else if idx < 0x4820 then 20
  else if idx < 0x4930 then 18
  else if idx < 0x5040 then 16
  else 0

/-- ROM default of pulse table entry v: 0, then centre width 2v, then the full pixel (R364). -/
def romPulse (v : Nat) : Nat := if v = 0 then 0 else if v = 15 then 0x7F else 0x20 + 2 * v

/-- Pad class of MPp: bit 0 an F pad, bit 1 the 1.8 V bank (R534). -/
def padClass (p : Nat) : Nat := (if p < 32 ∨ (64 ≤ p ∧ p < 80) then 1 else 0) + if 64 ≤ p then 2 else 0

/-- Defaults of the loop objects that differ by loop (15_loops.md, Default column). -/
def loopDefault (n sub : Nat) : Option Nat :=
  if sub = 1 then some (if 28 ≤ n ∧ n < 40 then 2 else 0)
  else if sub = 2 then some (if 28 ≤ n ∧ n < 40 then 2 + 256 * (if n < 34 then n - 22 else n - 34) else 0)
  else if sub = 4 then some (if n = 26 ∨ n = 27 then 10000 else if 28 ≤ n ∧ n < 40 then 100 else if 40 ≤ n then 1000 else 20)
  else if sub = 9 then some (if 28 ≤ n ∧ n < 40 then 2 else 0)
  else if sub = 0x0F then some (if 28 ≤ n ∧ n < 40 then 0 else 1)
  else if sub = 0x12 then some (if n = 26 ∨ n = 27 then 2400 else 2 ^ 31 - 1)
  else none

/-- Defaults of the encoder trackers (12_scheduler.md, before its object table). -/
def encoderDefault (sub : Nat) : Option Nat := if sub = 2 then some 50 else if sub = 3 then some 8 else if sub = 4 then some 2 else none

/-- Bands 1 to 8 of the ROM table: edges from 1,340.0 MHz in steps of 35 MHz, coarse codes from 224 down, trim 8 (R179). -/
def romBand (i : Nat) : Nat :=
  if i < 8 then 13400 + 350 * i + (13750 + 350 * i) * 2 ^ 16 + (224 - 32 * i) * 2 ^ 32 + 8 * 2 ^ 40 else 0

/-- Defaults that differ by instance or come from ROM (Default columns; R179, R247, R608). R608 gives the MAC address octet by octet and not how
the six octets lie in the U64 of 1116:09: the first one, 02, takes bits [47:40] (DESIGN CHOICE, log 126). -/
def specialDefault (idx sub : Nat) : Option Nat :=
  if idx = 0x1000 ∧ sub = 6 then some Config.deviceSerial
  else if idx = 0x1116 ∧ sub = 9 then some (0x025444000000 + Config.deviceSerial % 2 ^ 24)
  else if idx = 0x2210 then some (romBand (sub - 1))
  else if 0x3000 ≤ idx ∧ idx < 0x30C0 ∧ (idx - 0x3000) % 0x20 = 0 ∧ sub = 0x0A then some (100000 * ((idx - 0x3000) / 0x20))
  else if 0x3000 ≤ idx ∧ idx < 0x30C0 ∧ (idx - 0x3000) % 0x20 = 1 then some (romPulse (sub - 1))
  else if idx = 0x3800 ∧ sub ≤ 4 then some (3000 + 8000 * (sub - 1))
  else if 0x4800 ≤ idx ∧ idx < 0x4806 ∧ sub = 1 then some 2
  else if 0x4806 ≤ idx ∧ idx < 0x480C ∧ sub = 1 then some 3
  else if 0x3900 ≤ idx ∧ idx < 0x3930 then loopDefault (idx - 0x3900) sub
  else if 0x2506 ≤ idx ∧ idx < 0x2512 then encoderDefault sub
  else if 0x2600 ≤ idx ∧ idx < 0x2660 ∧ sub = 0x0C then some (padClass (idx - 0x2600))
  else none

/-- The value an object has when nothing has set it: its default (Default columns of the object tables). -/
def defaultOf (idx sub : Nat) : Nat :=
  match specialDefault idx sub with
  | some v => v
  | none => match rowOf idx sub with
    | some r => r.dflt
    | none => 0

end Sys2Proof.Machine
end

