-- ==== Sys2Proof/Machine/State.lean ====
section
/-! DEFINITION. The state of the TZ640 as plain data, the stop reasons, and the state at AON power-on.

Dictionary objects that are plain storage live in `State.dict` (log block: `Log.dict`) under index × 256 + subindex; an object
not listed there reads as the default of the object tables (Machine/Objects.lean). Objects that show richer state are
computed from the typed fields below (Machine/Views.lean). -/

namespace Sys2Proof.Machine

/-- The faults a step can stop with: none. The spec gives the block no condition under which it stops taking commands;
its own faults are states of it. -/
inductive Fault where
deriving DecidableEq, Repr

/-- The refusals a step can answer. -/
inductive Refusal where
  /-- Raised by `exec`'s arm of a command that has no meaning yet, by its mnemonic. Safe: the model stops. -/
  | notModelled (mnemonic : String)
deriving DecidableEq, Repr

/-- What the block sends out or does to the outside world, in the order in which `State.out` gains them (newest first). -/
inductive Output where
  /-- The answer to a dictionary access: the abort code (0 for success) and the data read. -/
  | answer (acc : Accessor) (abort : Nat) (data : List Byte)
  /-- A TDP frame sent on a port: type, destination, source, payload (R208, R209), and the frame on the wire with its envelope and the
  trailer of R249 where a session sends it (R206, R207). -/
  | frame (port type dst src : Nat) (payload : List Byte) (wire : Wire)
  /-- A request of the TZ640's own to a partner has ended with an abort code towards its caller (R220). -/
  | callerAbort (partner tid code : Nat)
  /-- The Patron heartbeat, a classical base-identifier frame on CAN0 (R90, R203). -/
  | heartbeat (ident : Nat) (payload : List Byte)
  /-- An MSI-X vector raised: function 0 is PF0, function k is VF k (R258). -/
  | vector (fn vec : Nat)
  /-- One memory write to host memory on behalf of tenant t (64 is PF0), at most one maximum payload (R255, R268, R261). -/
  | hostWrite (tn addr : Nat) (data : List Byte)
  /-- A read request to host memory on behalf of tenant t (64 is PF0), at most one maximum read request (R255, R263, R273). -/
  | hostRead (tn addr len : Nat)
  /-- An error message of AER: the function, and the bit of its uncorrectable error status that has been set (R259). -/
  | aerReport (fn bit : Nat)
  /-- A function-level reset completed to the host (R281). -/
  | resetDone (tn : Nat)
  /-- One multiframe on a lane of a station's beam link: 25 blocks in order, each its sync header in sending order as a number (1 for 01, data; 2 for
  10, control) and its 8 scrambled bytes (R373 to R375). -/
  | lane (st lane : Nat) (blocks : List (Nat × List Byte))
  /-- A control block handed to a station's beam link: type byte and bytes 1 to 7 (R378). -/
  | block (st : Nat) (bytes : List Byte)
  /-- The pixel stream of one scan as it is handed to the link: its scan sequence and its 7-bit pulse words in stream order (R380). -/
  | pixels (st seq : Nat) (words : List Nat)
  /-- One 32-bit sideband SPI frame to a laser driver (R388). -/
  | lspi (st frame : Nat)
  /-- A gate pulse on a fuser zone: delay and width in µs (R522). -/
  | fuserPulse (zone delay width : Nat)
  /-- An ARP reply: target protocol address, target MAC, own address, own MAC (R201). -/
  | arpReply (ip mac ownIp ownMac : Nat)
  /-- An ICMP echo reply (R201). -/
  | echoReply (ip : Nat) (payload : List Byte)
  /-- The contents of a JTAG data register (R138). -/
  | jtag (data : List Byte)
  /-- An erase of the flash sector of 4,096 octets that begins at an address (R114, R131, R573). -/
  | flashErase (addr : Nat)
  /-- Octets written to the flash at an address (R114, R130, R572). -/
  | flashWrite (addr : Nat) (data : List Byte)
  /-- The acknowledgement of a CAN frame received between kick-off step 12 and the roll-call broadcast (R112). -/
  | canAck (port : Nat)
  /-- A configuration request answered with Configuration Request Retry Status (R106). -/
  | configRetry (fn : Nat)
  /-- A corrected beat written back to DRAM by patrol scrub (R293). -/
  | dramWrite (addr : Nat)
  /-- A patch or calibration raster requested from a station's pattern generator (R368): the press time from which it prints, and the beam and facet
  of each chevron under every enabled sensor. -/
  | pattern (st at_ : Nat) (pairs : List (Nat × Nat))
deriving DecidableEq, Repr

/-- The states of a sheet (R17). A sheet that is DONE has left `State.sheets`. -/
inductive SheetState where
  | pending | resident | admitted | committed
deriving DecidableEq, Repr

/-- One plane entry of a descriptor (R265). -/
structure Plane where
  addr : Nat := 0
  len : Nat := 0
  worst : Nat := 0
deriving DecidableEq, Repr

/-- One sheet that is PENDING, RESIDENT, ADMITTED or COMMITTED (R17), with its descriptor (R264), its copied profile and
timetable (R21, R413), its reservations (R303, R304) and what has been flagged on it (R31, R268). -/
structure Sheet where
  /-- The model's own number of the sheet. -/
  uid : Nat
  tenant : Nat
  ringIndex : Nat
  token : Nat
  profile : Nat
  flags : Nat
  depth : Nat
  lines : Nat
  pixels : Nat
  planes : List Plane
  state : SheetState := .pending
  /-- 0 until first admitted (R18). -/
  serial : Nat := 0
  reprint : Bool := false
  /-- A reprint that waits for a place among the 32 queued sheets of its tenant (R20, R35). -/
  waiting : Bool := false
  /-- The sheet finishes in the ghost context (R282, R283). -/
  ghost : Bool := false
  /-- Space allocated and plane reads started (R273). -/
  fetching : Bool := false
  /-- Encoded plane bytes that lie in the polder, by station (R17, R322). -/
  data : Tab (List Byte) := []
  /-- The copied path profile mask and timetable (R21, R413). -/
  mask : Nat := 0
  timetable : List Nat := []
  /-- The first IMAGE event on ST0 as fixed, and by station the IMAGE time I_s, the end E_s, the window start and the
  charge r_s (R303, R304, R308), all in ticks and beats. -/
  i0 : Nat := 0
  imageAt : Tab Nat := []
  endAt : Tab Nat := []
  winAt : Tab Nat := []
  charge : Tab Nat := []
  /-- Stations with cut-through permission (R306), bit s. -/
  cut : Nat := 0
  /-- Stations whose IMAGE event has fired, whose last line has been sent, that have spilled (R33), bit s. -/
  fired : Nat := 0
  imaged : Nat := 0
  spilled : Nat := 0
  /-- Stations that are to spill at their next scan boundary (R33), and stations that hold a decode error found before the sluice (R332). -/
  spillDue : Nat := 0
  held : Nat := 0
  firstSpill : Option Nat := none
  /-- Stations that have decoded the sheet's whole plane or have left it (R330, R332, R341), bit s. -/
  decoded : Nat := 0
  /-- Press time of the sluice; 0 when never committed (R268). -/
  sluice : Nat := 0
  /-- Axes and motors of the copied profile that the trailing edge has left (R28), bits as in R27. -/
  left : Nat := 0
  spoiled : Bool := false
  mistimed : Bool := false
  late : Bool := false
  lineFlagged : Bool := false
  blanked : Bool := false
  safestop : Bool := false
  /-- The medium is missing: no secondary transfer is driven (R34). -/
  noMedium : Bool := false
  /-- The routing, once decided: true is purge (R414, R271). -/
  purged : Option Bool := none
  lateDefect : Bool := false
deriving DecidableEq, Repr

/-- A completion that the ring could not take yet (R270): the 32 bytes less the phase, whether it counts for the vector. -/
structure Held where
  bytes : List Byte
  signal : Bool
deriving DecidableEq, Repr

/-- The states of a tenant (5000+n:01). -/
inductive TenantState where
  | disabled | enabled | ghost | scrubbing
deriving DecidableEq, Repr

/-- What one tenant holds beside its dictionary objects (R260 to R287). -/
structure Tenant where
  state : TenantState := .disabled
  /-- Ring pointers (R260, R262): sheet tail, descriptor head, buffer head, completion head (host) and tail (TZ640). -/
  sheetTail : Nat := 0
  descHead : Nat := 0
  bufHead : Nat := 0
  compHead : Nat := 0
  compTail : Nat := 0
  /-- The phase bit of the pass (R269). -/
  phase : Bool := true
  heldDone : List Held := []
  /-- Completions with flag bit 0 written since vector 0 was last raised (R268). -/
  unsignalled : Nat := 0
  /-- Virtual time v with 16 fractional bits, and whether the tenant was a candidate (R277). -/
  v : Nat := 0
  candidate : Bool := false
  /-- Bus Master Enable (R279). -/
  busMaster : Bool := true
  /-- Polder units held, by number (R273), and the disposition read at the reset's start (R283). -/
  units : List Nat := []
  disposition : Nat := 0
  /-- Mailbox: index, subindex, operation, length, buffer address, status, abort code (R260). -/
  mbIndex : Nat := 0
  mbSub : Nat := 0
  mbOp : Nat := 0
  mbLen : Nat := 0
  mbAddr : Nat := 0
  mbStatus : Nat := 0
  mbAbort : Nat := 0
  mbWindow : List Byte := []
  /-- Descriptors fetched and not yet received; ring slots that a cancel reached before their descriptors came (R271); slots whose
  vector at the passing of the buffer head is due (R264); the buffer head's slot is `bufHead`. -/
  outstanding : Nat := 0
  cancelSlots : List Nat := []
  bufWait : List Nat := []
  /-- The function's uncorrectable error status register of AER (R259). -/
  aer : Nat := 0
deriving DecidableEq, Repr

/-- A line of raster that waits in a station FIFO or in the decoder behind it (R333, R334). -/
structure RasterLine where
  uid : Nat
  line : Nat
  bytes : List Byte
deriving DecidableEq, Repr

/-- A scan under way on a beam link (R338, R356, R358). -/
structure Scan where
  uid : Nat
  index : Nat
  facet : Nat
  /-- Placed from a COAST tooth (R351). -/
  coast : Bool
  /-- Every word is the zero pulse word (R339, R341, R342). -/
  blank : Bool
  /-- The first pixel sent as zero after an underrun (R340); the uncorrectable words, each by its line and its number in the line (R318); whether
  the scan's lines are flagged. -/
  zeroFrom : Option Nat := none
  zeroWord : List (Nat × Nat) := []
  flagged : Bool := false
deriving DecidableEq, Repr

/-- A block that waits for a payload slot of the lanes (R373, R374): a control block or a data block, and its 8 bytes. -/
structure LinkBlock where
  control : Bool
  bytes : List Byte
deriving DecidableEq, Repr

/-- What a station holds: its decoder and FIFO (R316, R330, R336), the scan under way, its beam link (R391, R395). -/
structure Station where
  /-- The sheet whose plane the decoder works on, byte position, next band, next line (R330). -/
  decUid : Option Nat := none
  decPos : Nat := 0
  decBand : Nat := 0
  decLine : Nat := 0
  /-- Decoded lines the FIFO has no space for yet, and the FIFO itself, oldest first; the begun line at which a plane stopped (R294, R332). -/
  backlog : List RasterLine := []
  fifo : List RasterLine := []
  tail : Option RasterLine := none
  /-- The write and the read pointer of the FIFO in words, and their inverted copies (R320). -/
  wr : Nat := 0
  rd : Nat := 0
  wrNot : Nat := 4294967295
  rdNot : Nat := 4294967295
  /-- The sheet imaging on the station, its next scan, the scan under way, the running scan sequence (R358, R378). -/
  imaging : Option Nat := none
  /-- The count of the tooth to which the IMAGE event of the imaging sheet belongs (R358, R426). -/
  fromTooth : Nat := 0
  nextScan : Nat := 0
  scan : Option Scan := none
  scanSeq : Nat := 0
  /-- Cut-through permission of the sheet now imaging (3010:03). -/
  cutNow : Bool := false
  /-- Bring-up: its step, whether it is the repeat, and whether it is the second serve of a hard fault (R392, R393, R401). -/
  linkStep : Nat := 0
  linkRepeat : Bool := false
  linkServe : Bool := false
  /-- A hard fault is outstanding (R395); the times of the soft errors within the last second (R400). -/
  hardFault : Bool := false
  softTimes : List Nat := []
  /-- SERVICE: BD windows commanded, and the press time until which a single window is active (R404, R405). -/
  svcBd : Bool := false
  svcUntil : Nat := 0
  /-- Service light writes that the stopped station island has still to take, oldest first (R172, R173). -/
  svcHeld : List Nat := []
  /-- The beam whose APC turn is next (R386). -/
  apcBeam : Nat := 0
  /-- Measured corrections kept for the next arm: entry subindex and change, process lines, skew in 0.01 lines (R369, R370). -/
  corrections : Tab Int := []
  corrProcess : Int := 0
  corrSkew : Int := 0
  lastArm : Option Nat := none
  /-- The beam and facet pair, as beam × facets + facet, whose turn in a gap patch is next (R368). -/
  pairTurn : Nat := 0
  /-- The press time from which the multiframes of the present link state count (R374). -/
  frameFrom : Nat := 0
  /-- Blocks that wait for payload slots, oldest first; LIGHT blocks that wait for the end of the running scan (R374, R381); the scrambler of each
  lane (R373). -/
  queue : List LinkBlock := []
  lights : List (List Byte) := []
  scramblers : List Nat := [0, 0, 0, 0]
  /-- The end, in phases, of the unbroken BD light of an acquisition (R385); registers 0x03 to 0x06 are to be read back (R390). -/
  bdUntil : Nat := 0
  regsDue : Bool := false
  /-- The sheet and the end of the last scan sent (R400). -/
  lastScan : Option (Nat × Nat) := none
deriving DecidableEq, Repr

/-- A tooth as the tracker remembers it: its count, its time in phases, and whether it was synthesised (R348, R422). -/
structure Tooth where
  count : Nat
  time : Nat
  coast : Bool
deriving DecidableEq, Repr

/-- Where a tracker's acquisition stands (R352). -/
inductive Acquire where
  | idle
  | collecting (edges : List Nat)
  | following (teeth : Nat)
deriving DecidableEq, Repr

/-- What a tooth tracker holds beside its objects (R348, R352, R425). Times are in phases of press time. -/
structure Tracker where
  /-- 0 off, 1 acquiring, 2 TRACKING, 3 LOST (2500+n:01). -/
  state : Nat := 0
  acq : Acquire := .idle
  tLast : Nat := 0
  /-- The facet (pattern position) of the next tooth. -/
  next : Nat := 0
  cand : Option Nat := none
  coasts : Nat := 0
  /-- The last 256 teeth, newest first (R422). -/
  teeth : List Tooth := []
deriving DecidableEq, Repr

/-- An event in a slot of the scheduler (R406, R407). -/
structure Event where
  code : Nat
  target : Nat
  param : Nat
  ref : Nat
  tag : Nat
  status : Nat
  /-- With reference 255 the time in ticks; otherwise tooth count and offset in ticks. -/
  time : Nat := 0
  tooth : Nat := 0
  offset : Int := 0
  /-- The sheet it belongs to, by model number, and its route (R411). -/
  uid : Option Nat := none
  route : Nat := 0
  /-- Lateness in ticks, or error in phases (2522:02). -/
  lateness : Int := 0
deriving DecidableEq, Repr

/-- What one phase's half-bridge drives: neither side, its high side or its low side (R438). -/
inductive Drive where
  | idle | high | low
deriving DecidableEq, Repr

/-- One phase's half-bridge: what it drives, the side turned off last, and the dead time in ns still to pass before the other side (R438). -/
structure Leg where
  drive : Drive := .idle
  was : Drive := .idle
  rest : Nat := 0
deriving DecidableEq, Repr

/-- An edge of one gate in a PWM period: ns from the period's start, the phase, its side, turned on or off (R438, R439). -/
structure GateEdge where
  at_ : Nat
  phase : Nat
  side : Drive
  on : Bool
deriving DecidableEq, Repr

/-- What a motor holds beside its objects (R439 to R467). -/
structure Motor where
  /-- The commanded entry and the command that waits for a committed path (R456, R458). -/
  entry : Nat := 0
  deferred : Option Nat := none
  /-- Every gate is low. -/
  gatesLow : Bool := true
  /-- Duties of U, V, W in 1/65536 and the times of the two sample instants in ns (R439, R448). -/
  duties : List Nat := [0, 0, 0]
  samples : List Nat := []
  /-- Shares of the period in 1/65536 for which six-step holds each low side on (R443, R445). -/
  lows : List Nat := [0, 0, 0]
  /-- The half-bridges of U, V, W at the end of the running period, and the edges of its six gates (R438, R439). -/
  legs : List Leg := [{}, {}, {}]
  edges : List GateEdge := []
  /-- The bridge conducts all three low sides (R467). -/
  lowSides : Bool := false
  /-- Six-step position 0 to 5, the time of the last commutation and the time of the next (R444). -/
  step : Nat := 0
  lastStep : Nat := 0
  stepPeriod : Nat := 0
  nextStep : Option Nat := none
  crossings : Nat := 0
  alignRetry : Bool := false
  /-- Electrical angle in 1/65536 turn, the Hall code and the time of its edge (R446). -/
  angle : Nat := 0
  hall : Nat := 0
  hallTime : Nat := 0
  /-- Current demand from the loop, d-axis demand, PI integrators (R440, R454). -/
  demand : Int := 0
  idRef : Int := 0
  intD : Int := 0
  intQ : Int := 0
  /-- Voltage magnitude at its limit (R454, R455). -/
  vLimit : Bool := false
  holds : Nat := 0
  /-- Braking current in force, in mA (R467). -/
  brake : Nat := 0
  /-- The press time at which the speed came within ±0.5 % (R460). -/
  inBand : Option Nat := none
  /-- Origin of the phase grid in phases, and facets in and out of the window in a row (R462). -/
  grid : Option Nat := none
  inWindow : Nat := 0
  outWindow : Nat := 0
  trim : Int := 0
  /-- The commanded ramp: start speed, start time, ticks it lasts (R453). -/
  rampFrom : Int := 0
  rampAt : Nat := 0
  rampFor : Nat := 0
  target : Int := 0
  /-- The restart of R465 is pending. -/
  restart : Bool := false
  /-- The open-loop ramp: its start, the commutations made in it, and whether the running step has seen its crossing (R444, R460). -/
  openFrom : Nat := 0
  openSteps : Nat := 0
  crossed : Bool := false
  /-- Phase currents of U, V, W as last sampled, in mA (R448, R450). -/
  phases : List Int := [0, 0, 0]
  /-- The angle taken at the last Hall edge, the direction of that edge, electrical turns of the running revolution (R446). -/
  edgeAngle : Nat := 0
  back : Bool := false
  turns : Nat := 0
deriving DecidableEq, Repr

/-- The slowing of a move's lead under a stop (R487): from when, the lead's steps by then, its velocity then in 1/65536 step/s. -/
structure Cut where
  at_ : Nat
  n : Nat
  v : Nat
deriving DecidableEq, Repr

/-- A move of an axis under way (R476, R479): signed distance, profile limits, start position and time. -/
structure Move where
  dist : Int
  v : Nat
  a : Nat
  d : Nat
  j : Nat
  from_ : Int
  at_ : Nat
  /-- The |distance| of the longest axis of the group move, that of the move itself otherwise (R479). -/
  lead : Nat
  /-- The move record's profile set, the group it belongs to (R479), and the committed sheet whose timetable fired it. -/
  set : Nat := 0
  group : Option Nat := none
  /-- The stop that has cut the profile short; its deceleration is `d` (R487). -/
  cut : Option Cut := none
deriving DecidableEq, Repr

/-- The phases of a homing (R482). -/
inductive Homing where
  | search | back | index
deriving DecidableEq, Repr

/-- A command that waits for the committed path to be clear (R490; 4900+a:3D). -/
inductive AxisDeferred where
  | move (v : Nat) | stop (hard : Bool) | resume | home
deriving DecidableEq, Repr

/-- What an axis holds beside its objects (R469 to R496). -/
structure Axis where
  /-- 0 disabled, 1 standstill, 2 moving, 3 stopping, 4 STOPPED, 5 homing, 6 fault (4900+a:30). -/
  state : Nat := 0
  move : Option Move := none
  /-- The one-entry queue: the move record (R478). -/
  queue : Option Nat := none
  deferred : Option AxisDeferred := none
  homing : Option Homing := none
  /-- The stopped move's limits, for the resume (R488). -/
  stopped : Option Move := none
  /-- The direction of the last motion was negative: DIR keeps its level (R469, R471). -/
  back : Bool := false
  /-- Levels of EN, SHORT, IRED, FLT, INDEX, LIMN and LIMP: true is active. -/
  en : Bool := false
  short : Bool := false
  ired : Bool := false
  fltIn : Bool := false
  indexIn : Bool := false
  limN : Bool := false
  limP : Bool := false
  /-- The align move before DOZE (R493), and that it was aligned. -/
  aligning : Bool := false
  aligned : Bool := false
  /-- A re-enable after a driver fault is pending (R495); a limit fault waits for its homing (R486). -/
  reenable : Bool := false
deriving DecidableEq, Repr

/-- What a loop holds beside its objects (R513 to R533). -/
structure Loop where
  /-- 0 off, 1 soft-start, 2 running, 3 restart pause, 4 held off after DOUBLE (3900+n:30). -/
  state : Nat := 0
  /-- The SWITCH state. -/
  on : Bool := false
  x : Int := 0
  sp : Int := 0
  /-- Fraction of the ramp not yet moved, in units × µs (R514). -/
  spFrac : Nat := 0
  u : Int := 0
  y : Int := 0
  settled : Bool := false
  saturated : Bool := false
  satTime : Nat := 0
  broken : Bool := false
  /-- The side of the last excursion (1 above, -1 below), its time, and the count of alternations (R525). -/
  excSide : Int := 0
  excAt : Nat := 0
  excCount : Nat := 0
  excInside : Bool := true
  /-- A bank or command reached the loop in its restart pause (R517). -/
  recorded : Option Bool := none
  evals : Nat := 0
  held : Nat := 0
deriving DecidableEq, Repr

/-- What an analog input holds beside its objects (R503 to R512). -/
structure Ain where
  gain10 : Bool := true
  low : Nat := 0
  discard : Bool := false
  settle : Bool := false
  broken : Bool := false
  raw : Nat := 0
  x : Int := 0
deriving DecidableEq, Repr

/-- What a rail holds beside its objects (R142 to R163). -/
structure Rail where
  /-- 0 unused, 1 off, 2 ramping, 3 good, 4 warning, 5 fault, 6 off by response (2100+n:0B). -/
  state : Nat := 0
  /-- RAIL_EN is driven active. -/
  en : Bool := false
  /-- The rail has been good since it came up: under-voltage sides are unmasked (R151). -/
  wasGood : Bool := false
  /-- RAIL_EN has gone active since S, or S has passed for a rail of use 2: over-voltage sides act (R151, R163). -/
  watched : Bool := false
deriving DecidableEq, Repr

/-- Why an off-sequence runs, and so what follows it (R127, R153, R161, R162, R164, R165, R615). -/
inductive OffReason where
  | none | retry | kickoffFail | warmReset | railReset | shutdown | doze | holdOff
deriving DecidableEq, Repr

/-- Why the block is held until PORST_N or a power cycle (R136, R162, R595). -/
inductive Hold where
  | none | terp | doubleFault | thermal
deriving DecidableEq, Repr

/-- The rail sequencer (R150 to R166; 2120:04). -/
structure Sequencer where
  /-- 0 off, 1 on-sequence, 2 up, 3 off-sequence, 4 retry pause, 5 hold. -/
  state : Nat := 0
  why : OffReason := .none
  attempt : Nat := 1
  /-- The rail whose fault ended the first attempt, while its first retry runs (R154). -/
  firstFail : Option Nat := none
  /-- The on-sequence runs for the DOZE-flagged rails only (R165, R616), or for TERP (R156). -/
  dozeRails : Bool := false
  terp : Bool := false
  /-- Press time of the common start S that runs, and of the first S of the kick-off (R150, R155). -/
  since : Nat := 0
  first : Nat := 0
  /-- The active rail table is known and RAIL_EN pins are driven (R140). -/
  driven : Bool := false
deriving DecidableEq, Repr

/-- A warm reset under way (R615): its RAIL_EN hold has ended, PORST_N is held, it leads to TERP (R127). -/
structure ResetState where
  running : Bool := false
  holdEnded : Bool := false
  porstLow : Bool := false
  toTerp : Bool := false
deriving DecidableEq, Repr

/-- The occasions of a relock (R186). -/
inductive Occasion where
  | kickoff | request | dozeExit | serve
deriving DecidableEq, Repr

/-- A relock under way (R183 to R186). -/
structure Relock where
  occasion : Occasion
  /-- A set was taken from flash or from group 13, and the previous set that a fallback uses. -/
  taken : Bool
  previous : Tab Nat
  /-- 1 first attempt, 2 second, 3 the attempt with the previous or ROM set. -/
  attempt : Nat := 1
  start : Nat
deriving DecidableEq, Repr

/-- The timebase and reference beside their objects (R175 to R200). -/
structure Clocks where
  relock : Option Relock := none
  gateOpen : Bool := false
  /-- The timebase stays off until the next kick-off (R186, R191). -/
  offUntilKickoff : Bool := false
  refLost : Bool := false
  /-- Admission is held until the trackers have reacquired (R181). -/
  admissionHold : Bool := false
  /-- CD0 runs on the reference (R167); the utility PLL is locked. -/
  onReference : Bool := false
  pllLocked : Bool := false
  /-- Press time at which press time last went over to reference interpolation: reads never fall below it (R195, R196). -/
  heldAt : Nat := 0
deriving DecidableEq, Repr

/-- A transaction under way: one in which the TZ640 answers with segments or takes segments (R213), or a request of its own (R211). -/
structure Transfer where
  /-- The peer. -/
  src : FrameSrc
  tid : Nat
  /-- A request of the TZ640's own. -/
  own : Bool := false
  /-- True for a write. -/
  write : Bool
  idx : Nat
  sub : Nat
  /-- The total length given, 0xFFFFFFFF for a stream (R214). -/
  total : Nat
  data : List Byte
  /-- Segments sent or taken so far, and segments acknowledged. -/
  next : Nat := 0
  acked : Nat := 0
  /-- Segments flow; a request of the TZ640's own first waits for its answer. -/
  segmented : Bool := true
  /-- The single repeat has been sent (R219). -/
  repeated : Bool := false
deriving DecidableEq, Repr

/-- A frame that waits for airtime (R241, R243). -/
structure Outgoing where
  type : Nat
  dst : Nat
  payload : List Byte
  /-- On ETH the IPv4 address and UDP port that it goes to, where the partner's record does not give them. -/
  peer : Option (Nat × Nat)
  /-- The authentication trailer of a session's PDU (R249). -/
  trailer : List Byte := []
deriving DecidableEq, Repr

/-- A TDP session (R248 to R250). -/
structure Session where
  id : Nat
  slot : Nat
  ip : Nat
  udpPort : Nat
  key : List Byte
  inSeq : Nat := 0
  outSeq : Nat := 0
deriving DecidableEq, Repr

/-- An answer kept for a repeated request (R216). -/
structure Cached where
  src : FrameSrc
  tid : Nat
  request : Pdu
  type : Nat
  payload : List Byte
  at_ : Nat
deriving DecidableEq, Repr

/-- What a port holds beside its objects (R205, R227, R243). -/
structure Port where
  /-- Frames received and not yet served, oldest first (R112, R242). -/
  rx : List (FrameSrc × Pdu) := []
  /-- Frames that wait for airtime, oldest first (R241, R243). -/
  tx : List Outgoing := []
  /-- Off after a second bus-off (R205); in bus-off recovery. -/
  dead : Bool := false
  recovering : Bool := false
  lastBusOff : Option Nat := none
  /-- Roll-call on the port: 0 none, 1 round 1, 2 round 2, 3 ended; the block 0 to 63; the partner polled (R227, R230). -/
  round : Nat := 0
  block : Nat := 0
  polled : Option Nat := none
  /-- The partner that was polled last (R232). -/
  lastPolled : Nat := 0
  /-- Press time at which the running or the last collection of answers ends (R227, R230); the partners that have answered, each with the end
  of the collection in which it did (R229). -/
  window : Nat := 0
  answered : List (Nat × Nat) := []
  /-- The poll order (R232), the idle partners that are still to be polled (R245), peers that last sent classical frames (R204). -/
  pollOrder : List Nat := []
  toPoll : List Nat := []
  classical : List Nat := []
  /-- The pool of the running cycle in ns (R240, R241). -/
  pool : Int := 0
deriving DecidableEq, Repr

/-- The field network beside its objects (R201 to R254). -/
structure Net where
  ports : Tab Port := []
  transfers : List Transfer := []
  sessions : List Session := []
  nextSession : Nat := 0
  cache : List Cached := []
  /-- Consecutive misses (R238) and airtime credit in ns (R241) by partner. -/
  misses : Tab Nat := []
  credit : Tab Int := []
  /-- Partners whose last frame found credit and pool exhausted, until their credit is positive again (R242). -/
  owing : List Nat := []
  /-- The cyclic maps (1200 to 127F) as the running cycle has taken them (R65 group 15). -/
  maps : Tab Nat := []
  /-- IN maps that have received their frame in the running cycle, and IN maps due in it (R238). -/
  inSeen : List Nat := []
  inDue : List Nat := []
  /-- On an ETH uplink, the address and UDP port of the line manager's last frame (R252). -/
  lineAt : Option (Nat × Nat) := none
  /-- Notices raised since the last cycle start: object, class, count (R244). -/
  noticeQueue : List (Nat × Nat × Nat) := []
  noticeSeq : Nat := 0
deriving DecidableEq, Repr

/-- A log entry before its CRC (R565): the key is index × 256 + subindex of the recording object. -/
structure Entry where
  time : Nat
  seq : Nat
  cls : Nat
  kind : Nat
  source : Nat
  inst : Nat
  key : Nat
  serial : Option Nat
  detail : Nat
deriving DecidableEq, Repr

/-- A second serve as the umpire keeps it (R553, R557): mechanism and instance, the owning code, whether it runs, and the
press time at which the instance was restored. -/
structure Serve where
  mech : Nat
  inst : Nat
  code : Nat
  running : Bool
  done : Option Nat
deriving DecidableEq, Repr

/-- The umpire, the log, the mirror and the notices (R553 to R579), with the objects 2400, 2410, 2418 and 2420 in `dict`. -/
structure Log where
  dict : Tab Nat := []
  /-- The ring, newest first, at most 4,096 (R568); entries held before kick-off step 8 (R570), newest first. -/
  ring : List Entry := []
  early : List Entry := []
  /-- Entries of the sixteen mirror sectors, newest first, by sector; the active sector (R572). -/
  mirror : Tab (List Entry) := []
  active : Nat := 0
  pending : List Entry := []
  /-- The press time from which the hour to the next erase runs (R573). -/
  eraseFrom : Option Nat := none
  /-- Pending notices: key, class, count, oldest first (R578). -/
  notices : List (Nat × Nat × Nat) := []
  serves : List Serve := []
  /-- Instances of SAFESTOP causes that persist: cause and instance (R563). -/
  causes : List (Nat × Nat) := []
  ready : Bool := false
deriving DecidableEq, Repr

/-- The fields of a record of the start-failure journal (R130): kind 1 failure, 2 cleared. -/
structure JRecord where
  kind : Nat
  reason : Nat
  counter : Nat
  step : Nat
  boot : Nat
  detail : Nat
deriving DecidableEq, Repr

/-- The serial flash (R114): whether it answers, the configuration image from offset 0, the 16-octet records in the journal's two sectors,
lowest offset first; the log mirror is in `Log.mirror`. -/
structure Flash where
  fitted : Bool := true
  image : List Byte := []
  journal : List (List (List Byte)) := [[], []]
  journalOk : Bool := true
deriving DecidableEq, Repr

/-- A patch record in use (R124, R125). -/
structure Patch where
  level : Nat
  table : Nat
  offset : Nat
  data : List Byte
deriving DecidableEq, Repr

/-- Kick-off beside its objects (R97 to R139). -/
structure Kick where
  straps : List Nat := []
  patches : List Patch := []
  /-- The reason with which a kick-off that has failed waits for its hold to end (R127). -/
  failed : Option Nat := none
  /-- The kick-off follows a power cycle, and its step 3 has still to come (R129, R569, R618). -/
  cold : Bool := true
  /-- Debug access: the challenge and the invalid responses (R138); the fresh challenges drawn so far. -/
  challenge : Option Nat := none
  badResponses : Nat := 0
  /-- A WAKE_IN held until the off-sequence of SHUTDOWN ends (R164). -/
  wakeHeld : Bool := false
  /-- Entries to be logged after the warm reset: a rail reset by its rail (R161), an umpire event (R560), a thermal shutdown (R595). -/
  railResetLog : Option Nat := none
  safetyLog : Bool := false
  thermalLog : Bool := false
  /-- A supervisor event waits for its warm reset (R560). -/
  umpireRestart : Bool := false
  /-- Press time at which this kick-off started (R104, R155). -/
  startAt : Nat := 0
deriving DecidableEq, Repr

/-- The transition state of the modes (R41 to R47, R561). -/
structure Modes where
  mode : Mode := .kickoff
  previous : Mode := .kickoff
  pending : Option Mode := none
  /-- SAFESTOP entry runs to its step 6; what was accepted meanwhile (R45, R561). -/
  entering : Bool := false
  ackHeld : Bool := false
  /-- DOZE waits for its align moves (R493); a wake runs its on-sequence (R165). -/
  dozing : Bool := false
  dozeCause : Nat := 0
  waking : Bool := false
  /-- SHUTDOWN waits for its off-start, runs its off-sequence, or has ended it (R164). -/
  offStarted : Bool := false
  offEnded : Bool := false
  /-- Press time at which SHUTDOWN was entered (R164 step 4). -/
  shutAt : Nat := 0
  /-- Doorbells held in DOZE until STANDBY is entered (R287): tenant, kind 0 sheet tail, 1 completion head, 2 cancel, index. -/
  bells : List (Nat × Nat × Nat) := []
  /-- The cause of the wake whose on-sequence runs (R44, R165). -/
  wakeCause : Nat := 0
deriving DecidableEq, Repr

/-- Memory and admission beside their objects (R288 to R315). -/
structure Mem where
  trained : Bool := false
  selfRefresh : Bool := false
  /-- Pessimistic capacity is raised to the next multiplier (R299); the admission period doubles (R311). -/
  raised : Bool := false
  doubled : Bool := false
  /-- Mode register 4 is to be read before the next admission pass (R291). -/
  mr4Due : Bool := false
  /-- First IMAGE event and period of the last sheet that became COMMITTED (R308). -/
  lastI0 : Option Nat := none
  lastPeriod : Nat := 0
  /-- Unscrubbed units in the order in which they wait (R275). -/
  scrub : List Nat := []
  unitsFree : List Nat := []
  /-- Credit left to each client in the running dike period, and the pool (R301). -/
  credit : Tab Nat := []
  /-- The beats that ingest was given for each tenant in the last dike period (R276, R301). -/
  given : Tab Nat := []
  /-- Patrol (R295): the next beat, the press time at which its pass began, and whether the pass has raised its WARN. -/
  patrolAt : Nat := 0
  patrolFrom : Nat := 0
  patrolLate : Bool := false
  /-- Sheets admitted since the last gap patch (R368). -/
  patchSheets : Nat := 0
deriving DecidableEq, Repr

/-- The pins of the block that are no MP pins, and the MP pins beside their objects (R535 to R552, R584). -/
structure Pins where
  safeN : Bool := true
  rstLow : Bool := true
  ilockOpen : Bool := false
  safeMismatch : Bool := false
  zcSeen : Option Nat := none
  zcLost : Bool := false
  perstLow : Bool := true
  /-- PCI Express speed and width as last trained (R106; 5060:04, :05). -/
  linkSpeed : Nat := 0
  linkWidth : Nat := 0
  bank33 : Bool := false
  bank18 : Bool := false
  /-- Levels applied from outside to the pads of MP pins (R545, R546). -/
  ext : Tab Nat := []
  locked : List Nat := []
  /-- The first half of a lock sequence: accessor, pin (96 for all), press time (R548). -/
  lockSeq : List (Accessor × Nat × Nat) := []
  /-- Block inputs in conflict by their route code (R543, R544), suppressed output claims as pin × 65536 + claim (R541), pins in
  mismatch (R547). -/
  conflicts : List Nat := []
  suppressed : List Nat := []
  mismatched : Tab Nat := []
  /-- Levels driven on entry to the sleep states, by pin (R551), and the synchronised levels at that moment, bit p (R546). -/
  sleepHeld : Tab Nat := []
  lastSync : Nat := 0
  /-- Group 20 has been applied since AON power-on: the motor gate pins follow the configured polarity (R437). -/
  gatesSet : Bool := false
deriving DecidableEq, Repr

/-- What each accessor has of its own: staging view, log cursor, log source (R79, R571). -/
structure AccState where
  view : Bool := false
  cursor : Nat := 0
  source : Nat := 0
deriving DecidableEq, Repr

/-- Injection and capture (R530 to R532). -/
structure Diag where
  injecting : Bool := false
  injCount : Nat := 0
  injHigh : Bool := true
  lfsr : Nat := 1
  /-- 0 idle, 1 armed, 2 triggered, 3 done; samples newest first; evaluations since the last sample. -/
  capState : Nat := 0
  samples : List (Int × Int) := []
  left : Nat := 0
  skip : Nat := 0
deriving DecidableEq, Repr

/-- The state of the TZ640. -/
structure State where
  /-- Press time in ticks, 64 bits (R11). -/
  time : Nat := 0
  /-- AON power-good has been given (R104, R166). -/
  powered : Bool := false
  md : Modes := {}
  kick : Kick := {}
  hold : Hold := .none
  reset_ : ResetState := {}
  seq : Sequencer := {}
  rails : Tab Rail := []
  clk : Clocks := {}
  net : Net := {}
  flash : Flash := {}
  /-- Dictionary objects that are plain storage, values as unsigned images of their type; STR and BLOB objects. -/
  dict : Tab Nat := []
  blobs : Tab (List Byte) := []
  /-- The staging image (R65), the stager of each group (R76), the armed groups (R71). -/
  staged : Tab Nat := []
  stagedBlobs : Tab (List Byte) := []
  stagers : List (Nat × Accessor) := []
  armed : List Nat := []
  accs : List (Accessor × AccState) := []
  sheets : List Sheet := []
  nextUid : Nat := 0
  tenants : Tab Tenant := []
  coalescing : List Nat := []
  mem : Mem := {}
  stations : Tab Station := []
  trackers : Tab Tracker := []
  slots : Tab Event := []
  motors : Tab Motor := []
  axes : Tab Axis := []
  loops : Tab Loop := []
  ains : Tab Ain := []
  pins : Pins := {}
  diag : Diag := {}
  log : Log := {}
  /-- Ticks that Tj has spent in each band of R597 since kick-off, and the press time from which the running stay counts (R598). -/
  heatTicks : Tab Nat := []
  heatFrom : Nat := 0
  /-- Everything sent out, newest first. -/
  out : List Output := []
  /-- The model's counter of free values drawn (Config). -/
  fresh : Nat := 0
  /-- The commands that wait, first in, first out. -/
  pending : List Instr := []
deriving DecidableEq, Repr

/-- The block at AON power-on, before AON power-good: press time 0, KICKOFF, every object at the default its table gives,
SAFE_N asserted and RST_OUT_N low (R584), nothing queued. -/
def State.reset : State := {}

end Sys2Proof.Machine
end

