-- ==== Sys2Proof/Machine/Ops.lean ====
section
/-! DEFINITION. The named operations over the dictionary store, the counters, the outputs, the log with its mirror and its
notices, and the second serves of the umpire (R553 to R579). -/

namespace Sys2Proof.Machine

/-- The key of an object in the store. -/
def keyOf (idx sub : Nat) : Nat := idx * 256 + sub

/-- Whether an object lives in the log block's own store: 2400, 2410, 2418 and 2420. -/
def isLogIdx (idx : Nat) : Bool := idx == 0x2400 || idx == 0x2410 || idx == 0x2418 || idx == 0x2420

/-- The stored value of an object, as the unsigned image of its type. -/
def get (s : State) (idx sub : Nat) : Nat :=
  match tabFind (if isLogIdx idx then s.log.dict else s.dict) (keyOf idx sub) with
  | some v => v
  | none => defaultOf idx sub

/-- The state with an object outside the log block set. -/
def put (s : State) (idx sub v : Nat) : State := { s with dict := tabSet s.dict (keyOf idx sub) v }

/-- The stored value of a signed object of w bits. -/
def getS (s : State) (w idx sub : Nat) : Int := sInt w (get s idx sub)

/-- Sets a signed object of w bits. -/
def putS (s : State) (w idx sub : Nat) (v : Int) : State := put s idx sub (sImg w v)

/-- Whether a BOOL object is 1. -/
def flag (s : State) (idx sub : Nat) : Bool := get s idx sub != 0

/-- A counter that WRAPs at w bits advances by n (R84). -/
def wrapBy (w : Nat) (s : State) (idx sub n : Nat) : State := put s idx sub ((get s idx sub + n) % 2 ^ w)

/-- A counter that SATURATEs at w bits advances by n (R84). -/
def satBy (w : Nat) (s : State) (idx sub n : Nat) : State := put s idx sub (min (get s idx sub + n) (2 ^ w - 1))

/-- A 32-bit WRAP counter and a 16-bit SATURATE counter advance by one. -/
def bump (s : State) (idx sub : Nat) : State := wrapBy 32 s idx sub 1
def sat (s : State) (idx sub : Nat) : State := satBy 16 s idx sub 1

/-- The stored octets of a STR or BLOB object. -/
def getBlob (s : State) (idx sub : Nat) : List Byte := tabGet [] s.blobs (keyOf idx sub)

/-- Sets a BLOB object. -/
def putBlob (s : State) (idx sub : Nat) (l : List Byte) : State := { s with blobs := tabSet s.blobs (keyOf idx sub) l }

/-- The state with one more thing sent out. -/
def emit (s : State) (o : Output) : State := { s with out := o :: s.out }

/-- The state with several things sent out, in the list's order. -/
def emitAll (s : State) (l : List Output) : State := { s with out := l.reverse ++ s.out }

/-- The state with the record of an instance changed. -/
def setRail (s : State) (n : Nat) (f : Rail → Rail) : State := { s with rails := tabMod {} s.rails n f }
def setStation (s : State) (n : Nat) (f : Station → Station) : State := { s with stations := tabMod {} s.stations n f }
def setTracker (s : State) (n : Nat) (f : Tracker → Tracker) : State := { s with trackers := tabMod {} s.trackers n f }
def setMotor (s : State) (n : Nat) (f : Motor → Motor) : State := { s with motors := tabMod {} s.motors n f }
def setAxis (s : State) (n : Nat) (f : Axis → Axis) : State := { s with axes := tabMod {} s.axes n f }
def setLoop (s : State) (n : Nat) (f : Loop → Loop) : State := { s with loops := tabMod {} s.loops n f }
def setAin (s : State) (n : Nat) (f : Ain → Ain) : State := { s with ains := tabMod {} s.ains n f }
def setTenant (s : State) (n : Nat) (f : Tenant → Tenant) : State := { s with tenants := tabMod {} s.tenants n f }
def setPort (s : State) (n : Nat) (f : Port → Port) : State := { s with net := { s.net with ports := tabMod {} s.net.ports n f } }

/-- The record of an instance. -/
def rail (s : State) (n : Nat) : Rail := tabGet {} s.rails n
def station (s : State) (n : Nat) : Station := tabGet {} s.stations n
def tracker (s : State) (n : Nat) : Tracker := tabGet {} s.trackers n
def motor (s : State) (n : Nat) : Motor := tabGet {} s.motors n
def axis (s : State) (n : Nat) : Axis := tabGet {} s.axes n
def loop (s : State) (n : Nat) : Loop := tabGet {} s.loops n
def ain (s : State) (n : Nat) : Ain := tabGet {} s.ains n
def tenant (s : State) (n : Nat) : Tenant := tabGet {} s.tenants n
def port (s : State) (n : Nat) : Port := tabGet {} s.net.ports n

/-- A fold of state changes over a list of instance numbers. -/
def forEach (l : List Nat) (f : State → Nat → State) (s : State) : State := l.foldl f s

/-- The level of strap k as kick-off step 2 found it (R101); 0 before that. -/
def strap (s : State) (k : Nat) : Nat := s.kick.straps.getD k 0

/-- The number of stations present under STRAP0 (R101, R13). -/
def stationCount (s : State) : Nat :=
  match strap s 0 with
  | 0 => 1
  | 1 => 2
  | 2 => 4
  | _ => 6

/-- Whether station n is present. -/
def present (s : State) (n : Nat) : Bool := decide (n < stationCount s)

/-- The stations present. -/
def stationsPresent (s : State) : List Nat := List.range (stationCount s)

/-- Whether the Patron profile is selected (R139). -/
def patron (s : State) : Bool := strap s 1 == 1 || strap s 1 == 2

/-- An entry of a constant table under the patch records in use for that table (R94, R125): the table's code, the entry's name in
`Config.patched`, the unpatched value. -/
def patchedNum (s : State) (table k d : Nat) : Nat :=
  let l := s.kick.patches.filter fun p => p.table == table
  if l.isEmpty then d else Config.patched k (l.map fun p => (p.table, p.offset, p.data)) d

/-- The reference frequency in Hz (R101; 2200:0A) and the reference increment in 2^-32 tick (R193): 1.5 GHz over it. -/
def refHz (s : State) : Nat := if strap s 1 = 2 ∨ strap s 1 = 3 then 31104000 else 25000000
def refIncrement (s : State) : Nat := roundDiv (1500000000 * 2 ^ 32) (refHz s)

/-- The press time source (R183 step 7, R194 to R197; 2220:02): 0 RC oscillator, 1 timebase resolution, 2 reference interpolation. -/
def timeSource (s : State) : Nat := if !s.clk.onReference then 0 else if s.clk.gateOpen then 1 else 2

/-- The accumulator at the last reference edge (R193, R195). -/
def lastEdge (s : State) : Nat := s.time * 2 ^ 32 / max 1 (refIncrement s) * refIncrement s / 2 ^ 32

/-- Press time as it is read and stamped (R194 to R196): to the tick with timebase resolution; with the gate closed its resolution is one reference
period, and it never steps back. -/
def pressTime (s : State) : Nat := if timeSource s = 2 then max (min s.time s.clk.heldAt) (lastEdge s) else s.time

/-- Press time goes over to reference interpolation (R195, R196). -/
def holdTime (s : State) : State := { s with clk := { s.clk with heldAt := s.time } }

/-- The home port of STRAP3 (R101): CAN0, CAN0, T1S0, ETH. -/
def homePort (s : State) : Nat :=
  match strap s 3 with
  | 2 => 4
  | 3 => 6
  | _ => 0

/-- Whether the resident firmware runs in TERP (R133). -/
def inTerp (s : State) : Bool := s.md.mode == .terp

/-- Whether the endpoint is up (R106, R256): STRAP9 high, PE_PERST_N high, from kick-off step 12 on, not from the off-sequence of SHUTDOWN on. -/
def endpointUp (s : State) : Bool :=
  strap s 9 == 1 && !s.pins.perstLow && (match s.md.mode with
    | .kickoff => decide (12 ≤ get s 0x2020 1)
    | .shutdown => !s.md.offStarted
    | _ => true)

/-- TotalVFs (R256): 0 without memory and in TERP. -/
def totalVfs (s : State) : Nat := if strap s 7 = 3 ∨ inTerp s then 0 else 64

/-- Whether the VF of tenant t exists: below NumVFs (R256). -/
def vfUp (s : State) (t : Nat) : Bool := endpointUp s && decide (t < min (get s 0x5060 6) (totalVfs s))

/-- Whether a function exists: 0 is PF0, k is VF k. -/
def functionUp (s : State) (fn : Nat) : Bool := if fn = 0 then endpointUp s else vfUp s (fn - 1)

/-- The MSI-X vectors of a function (R257): 8 of PF0, 4 of a VF. -/
def vectorsOf (fn : Nat) : Nat := if fn = 0 then 8 else 4

/-- A vector is raised on a function (R257, R258); a function that is absent raises none (R256). -/
def vector (s : State) (fn vec : Nat) : State := if functionUp s fn && decide (vec < vectorsOf fn) then emit s (.vector fn vec) else s

/-- The state with one object of the log block set. -/
def putLog (s : State) (idx sub v : Nat) : State :=
  { s with log := { s.log with dict := tabSet s.log.dict (keyOf idx sub) v } }

/-- Counters of the log block advance: WRAP and SATURATE. -/
def wrapLog (w : Nat) (s : State) (idx sub : Nat) : State := putLog s idx sub ((get s idx sub + 1) % 2 ^ w)
def satLog (w : Nat) (s : State) (idx sub : Nat) : State := putLog s idx sub (min (get s idx sub + 1) (2 ^ w - 1))

/-- Whether the resident firmware and with it the dictionary can be reached from outside: from kick-off step 12 on (R104, R106), not in
a hold state or a warm reset, and not from the off-sequence of SHUTDOWN on (R164). -/
def answering (s : State) : Bool :=
  s.powered && s.hold == .none && !s.reset_.running && (match s.md.mode with
    | .kickoff => decide (12 ≤ get s 0x2020 1)
    | .shutdown => !s.md.offStarted
    | _ => true)

/-- One tick of press time (R9, R11): it runs from AON power-good on. -/
def tick (s : State) : State := if s.powered then { s with time := (s.time + 1) % 2 ^ 64 } else s

/-! ## The log, its mirror and the notices -/

/-- The first 28 bytes of an entry (R565). -/
def Entry.head (e : Entry) : List Byte :=
  leBytes 8 e.time ++ leBytes 4 e.seq ++ leBytes 1 e.cls ++ leBytes 1 e.kind ++ leBytes 1 e.source ++ leBytes 1 e.inst ++
    leBytes 2 (e.key / 256) ++ leBytes 1 (e.key % 256) ++ leBytes 1 (ofBool e.serial.isSome) ++ leBytes 4 (e.serial.getD 0) ++
    leBytes 4 e.detail

/-- The 32 bytes of an entry (R565). -/
def Entry.bytes (e : Entry) : List Byte := e.head ++ leBytes 4 (crc32 e.head)

/-- The flash offset of the log mirror: sixteen sectors of 4,096 octets (R114, R572). -/
def mirrorBase : Nat := 0x00100000

/-- The entries of a mirror sector. -/
def mirrorSector (l : Log) (k : Nat) : List Entry := tabGet [] l.mirror k

/-- An empty mirror sector other than the active one, if there is one (R573). -/
def emptySector (l : Log) : Option Nat := (List.range 16).find? fun k => (mirrorSector l k).isEmpty && k != l.active

/-- Writes an entry to the mirror where that needs no erase; none when an erase is needed (R572, R573). -/
def mirrorPlace (l : Log) (e : Entry) : Option Log :=
  if (mirrorSector l l.active).length < 128 then
    some { l with mirror := tabMod [] l.mirror l.active fun t => e :: t }
  else match emptySector l with
    | some k => some { l with active := k, mirror := tabSet l.mirror k [e] }
    | none => none

/-- The pending queue with one entry more (R574): the queue, and whether something was displaced or dropped. -/
def pendingPush (q : List Entry) (e : Entry) : List Entry × Bool :=
  if q.length < 64 then (q ++ [e], false)
  else if e.cls < 3 then (q, true)
  else match q.find? fun f => f.cls == 2 with
    | some f => (q.erase f ++ [e], true)
    | none => (q, true)

/-- An entry of class FAULT or worse goes to the mirror (R572 to R576). -/
def mirrorWrite (s : State) (e : Entry) : State :=
  if get s 0x2418 1 ≠ 0 then s
  else match (if s.log.pending.isEmpty then mirrorPlace s.log e else none) with
    | some l =>
      let at_ := mirrorBase + 4096 * l.active + 32 * ((mirrorSector l l.active).length - 1)
      emit { s with log := l } (.flashWrite at_ e.bytes)
    | none =>
      let q := pendingPush s.log.pending e
      let t := { s with log := { s.log with pending := q.1 } }
      if q.2 then satLog 16 t 0x2418 3 else t

/-- An entry enters the ring: it takes the next sequence number, and a full ring overwrites its oldest entry (R568, R569).
The logger writes each entry when it receives it, so that its queue of 64 never fills (DESIGN CHOICE, log 159). -/
def ringWrite (s : State) (e : Entry) : State :=
  let e := { e with seq := get s 0x2410 3 }
  let t := if s.log.ring.length < 4096 then s else satLog 32 s 0x2410 5
  let t := { t with log := { t.log with ring := (e :: t.log.ring).take 4096 } }
  let t := putLog t 0x2410 3 ((e.seq + 1) % 2 ^ 32)
  if 2 ≤ e.cls then mirrorWrite t e else t

/-- One pending notice more or merged: the list, and whether the notice found no place (R578). -/
def noticePush : List (Nat × Nat × Nat) → Nat → Nat → List (Nat × Nat × Nat) × Bool
  | [], key, cls => ([(key, cls, 1)], false)
  | (k, c, n) :: t, key, cls =>
    if k = key then ((k, max c cls, min (n + 1) 65535) :: t, false)
    else
      let r := noticePush t key cls
      ((k, c, n) :: r.1, r.2)

/-- A notice: a record in 2420:01, a frame at the next network cycle, and VF vector 3 on a tenant's own object (R577, R578, R244). -/
def notice (s : State) (idx sub cls : Nat) : State :=
  let key := keyOf idx sub
  let known := s.log.notices.any fun r => r.1 == key
  let t :=
    if known || decide (s.log.notices.length < 128) then
      { s with log := { s.log with notices := (noticePush s.log.notices key cls).1 } }
    else satLog 16 s 0x2420 2
  let t := { t with net := { t.net with noticeQueue := t.net.noticeQueue ++ [(key, cls, 1)] } }
  if 0x5000 ≤ idx ∧ idx < 0x5040 then vector t (idx - 0x5000 + 1) 3 else t

/-- A notice that no log entry brings: PF0 vector 1 with it (R578). -/
def noticeAlone (s : State) (idx sub cls : Nat) : State := vector (notice s idx sub cls) 0 1

/-- The PF0 vectors of an entry's class (R558). -/
def classVectors (s : State) (cls : Nat) : State :=
  if 2 ≤ cls then vector (vector s 0 1) 0 3 else if cls = 1 then vector s 0 1 else s

/-- An entry with its own notice decided by the caller (R577): into the ring from kick-off step 8, else held, at most 32 (R570). -/
def logOnly (s : State) (cls kind src inst idx sub : Nat) (serial : Option Nat) (detail : Nat) : State :=
  let e : Entry :=
    { time := pressTime s, seq := 0, cls := cls, kind := kind, source := src, inst := inst % 256, key := keyOf idx sub,
      serial := serial, detail := detail % 2 ^ 32 }
  let t :=
    if s.log.ready then ringWrite s e
    else if s.log.early.length < 32 then { s with log := { s.log with early := e :: s.log.early } }
    else satLog 32 s 0x2410 6
  classVectors t cls

/-- An entry, and its notice when its class is WARN or worse (R558, R577). -/
def log (s : State) (cls kind src inst idx sub : Nat) (serial : Option Nat) (detail : Nat) : State :=
  let t := logOnly s cls kind src inst idx sub serial detail
  if 1 ≤ cls then notice t idx sub cls else t

/-- The classes of R558. -/
def clsNotice : Nat := 0
def clsWarn : Nat := 1
def clsFault : Nat := 2
def clsDouble : Nat := 3
def clsSafety : Nat := 4

/-- An event of a class at an object, whose value after the event is the detail (R566 kind 1). -/
def logEvent (s : State) (cls src inst idx sub : Nat) : State :=
  log s cls 1 src inst idx sub none (get s idx sub)

/-! ## Second serves -/

/-- The mechanisms of R555, in the order of its table. -/
inductive Mech where
  | railKickoff | rail | dramTraining | dramRead | fifoWord | inputBuffer | pointers | relock | timebase | dll | reference
  | canPort | tdpRequest | partnerIdle | ingest | bdTracker | encoderTracker | linkBringUp | link | motor | axisLimit
  | axisDriver | thermistor | loop | zeroCross | sheet | supervisor
deriving DecidableEq, Repr

/-- The number of a mechanism. -/
def Mech.code : Mech → Nat
  | .railKickoff => 0 | .rail => 1 | .dramTraining => 2 | .dramRead => 3 | .fifoWord => 4 | .inputBuffer => 5 | .pointers => 6
  | .relock => 7 | .timebase => 8 | .dll => 9 | .reference => 10 | .canPort => 11 | .tdpRequest => 12 | .partnerIdle => 13
  | .ingest => 14 | .bdTracker => 15 | .encoderTracker => 16 | .linkBringUp => 17 | .link => 18 | .motor => 19
  | .axisLimit => 20 | .axisDriver => 21 | .thermistor => 22 | .loop => 23 | .zeroCross => 24 | .sheet => 25 | .supervisor => 26

/-- Whether a record is that of an instance of a mechanism. -/
def Serve.isOf (m : Mech) (inst : Nat) (r : Serve) : Bool := r.mech == m.code && r.inst == inst

/-- The record of an instance. -/
def serveOf (s : State) (m : Mech) (inst : Nat) : Option Serve := s.log.serves.find? (Serve.isOf m inst)

/-- Whether the second serve of an instance is under way. -/
def serving (s : State) (m : Mech) (inst : Nat) : Bool :=
  match serveOf s m inst with
  | some r => r.running
  | none => false

/-- Whether the second serve of an instance was passed at most w ticks ago (the window of its owning rule). -/
def servedWithin (s : State) (m : Mech) (inst w : Nat) : Bool :=
  match serveOf s m inst with
  | some r => match r.done with
    | some t => !r.running && decide (s.time - t ≤ w)
    | none => false
  | none => false

/-- The records without that of an instance. -/
def serveDrop (s : State) (m : Mech) (inst : Nat) : State :=
  { s with log := { s.log with serves := s.log.serves.filter fun r => !Serve.isOf m inst r } }

/-- A second serve begins: kind 2 with the owning code (R566), 2400:01. -/
def serveBegin (s : State) (m : Mech) (inst code src idx sub : Nat) : State :=
  let t := serveDrop s m inst
  let t := { t with log := { t.log with serves := { mech := m.code, inst := inst, code := code, running := true, done := none } :: t.log.serves } }
  let t := wrapLog 32 t 0x2400 1
  log t clsNotice 2 src inst idx sub none code

/-- A second serve has succeeded: the failure was transient (kind 3, 2400:02), and the owning window runs from now. -/
def servePass (s : State) (m : Mech) (inst src idx sub : Nat) : State :=
  match serveOf s m inst with
  | none => s
  | some r =>
    if r.running then
      let t := serveDrop s m inst
      let t := { t with log := { t.log with serves := { r with running := false, done := some s.time } :: t.log.serves } }
      let t := wrapLog 32 t 0x2400 2
      log t clsNotice 3 src inst idx sub none r.code
    else s

/-- A double fault: one entry of kind 4 in the class given, and 2400:03; the record ends (R553). -/
def doubleFaultAs (cls : Nat) (s : State) (m : Mech) (inst code src idx sub : Nat) : State :=
  let t := serveDrop s m inst
  let t := satLog 16 t 0x2400 3
  log t cls 4 src inst idx sub none code

/-- A double fault with its DOUBLE entry (R553). -/
def doubleFault (s : State) (m : Mech) (inst code src idx sub : Nat) : State := doubleFaultAs clsDouble s m inst code src idx sub

/-- A pending second serve is cancelled, kind 9 (R557). -/
def serveCancel (s : State) (m : Mech) (inst src idx sub : Nat) : State :=
  match serveOf s m inst with
  | none => s
  | some r =>
    if r.running then
      let t := serveDrop s m inst
      let t := satLog 16 t 0x2400 4
      log t clsNotice 9 src inst idx sub none r.code
    else s

/-! ## Watermarks -/

/-- Whether a watched value lies beyond its THRESHOLD (R86). -/
def beyond (high : Bool) (threshold v : Nat) : Bool := if high then decide (threshold < v) else decide (v < threshold)

/-- The watched value of the watermark at subindex sub goes from old to v (R86, R88): STATE, EXTREME, and on a crossing
LATCH, COUNT and the notice. -/
def watch (high : Bool) (s : State) (idx sub old v : Nat) : State :=
  let th := get s idx (sub + 4)
  let ext := if high then max (get s idx (sub + 3)) v else min (get s idx (sub + 3)) v
  let t := put (put s idx sub (ofBool (beyond high th v))) idx (sub + 3) ext
  if !beyond high th old && beyond high th v then
    let u := sat (put t idx (sub + 1) 1) idx (sub + 2)
    if flag s idx (sub + 1) then u else noticeAlone u idx (sub + 1) clsNotice
  else t

/-! ## SAFESTOP causes -/

/-- The causes that persist, as the bit mask of 2400:06 (R563). -/
def causeMask (s : State) : Nat := s.log.causes.foldl (fun m c => if m.testBit c.1 then m else m + 2 ^ c.1) 0

/-- Whether a cause persists. -/
def persists (s : State) (c : Nat) : Bool := s.log.causes.any fun p => p.1 == c

/-- An instance of a cause persists from now on. -/
def causeAdd (s : State) (c inst : Nat) : State :=
  if s.log.causes.contains (c, inst) then s else { s with log := { s.log with causes := (c, inst) :: s.log.causes } }

/-- An instance of a cause no longer persists; with the last one the cause is cleared, kind 7 (R563). -/
def causeEnd (s : State) (c inst : Nat) : State :=
  if s.log.causes.contains (c, inst) then
    let t := { s with log := { s.log with causes := s.log.causes.filter fun p => p != (c, inst) } }
    if persists t c then t else log t clsNotice 7 0 255 0x2400 6 none c
  else s

/-- Every instance of a kind of cause ends; instances are chosen by a test. -/
def causeEndAll (s : State) (p : Nat → Nat → Bool) : State :=
  (s.log.causes.filter fun q => p q.1 q.2).foldl (fun t q => causeEnd t q.1 q.2) s

end Sys2Proof.Machine
end

