-- ==== Sys2Proof/Machine/Sheets.lean ====
section
/-! DEFINITION. Operations on sheets, their event slots and their completions: withdrawal, cancellation, spill, completion,
reprint (R17 to R37, R268 to R271, R282, R284, R406). -/

namespace Sys2Proof.Machine

/-! ## Looking sheets up -/

/-- The sheet with a model number. -/
def sheetOf (s : State) (uid : Nat) : Option Sheet := s.sheets.find? fun sh => sh.uid == uid

/-- The state with the sheet of a model number changed. -/
def modSheet (s : State) (uid : Nat) (f : Sheet → Sheet) : State :=
  { s with sheets := s.sheets.map fun sh => if sh.uid = uid then f sh else sh }

def Sheet.committed (sh : Sheet) : Bool := sh.state == .committed
def Sheet.admitted (sh : Sheet) : Bool := sh.state == .admitted
def Sheet.resident (sh : Sheet) : Bool := sh.state == .resident && !sh.waiting
def Sheet.isPending (sh : Sheet) : Bool := sh.state == .pending

/-- PENDING, RESIDENT or ADMITTED: queued for the limit of R20. -/
def Sheet.queued (sh : Sheet) : Bool := sh.state != .committed && !sh.waiting

/-- The numbers of COMMITTED and of ADMITTED sheets (5040:01, :02). -/
def committedCount (s : State) : Nat := (s.sheets.filter (·.committed)).length
def admittedCount (s : State) : Nat := (s.sheets.filter (·.admitted)).length

/-- Whether some sheet is COMMITTED; ADMITTED; ADMITTED or COMMITTED. -/
def anyCommitted (s : State) : Bool := s.sheets.any (·.committed)
def anyAdmitted (s : State) : Bool := s.sheets.any (·.admitted)
def anyOnPath (s : State) : Bool := s.sheets.any fun sh => sh.committed || sh.admitted

/-- The sheets of a tenant that count against the limit of 32 (R20; 5000+n:12). -/
def queuedOf (s : State) (t : Nat) : Nat := (s.sheets.filter fun sh => sh.queued && sh.tenant == t).length

/-- Whether station st has a plane of the sheet (R265). -/
def Sheet.hasPlane (sh : Sheet) (st : Nat) : Bool := (sh.planes.getD st {}).len != 0

/-- The stations with a plane. -/
def Sheet.stations (sh : Sheet) : List Nat := (List.range 6).filter sh.hasPlane

/-- The time of the sheet's first IMAGE event (R23): the earliest of its stations. -/
def Sheet.firstImage (sh : Sheet) : Nat :=
  match sh.imageAt with
  | [] => sh.i0
  | (_, t) :: r => r.foldl (fun m p => min m p.2) t

/-- Whether the sheet's profile holds the axis or motor bit b in its path and its trailing edge has not left it (R27, R28). -/
def Sheet.holds (sh : Sheet) (b : Nat) : Bool := sh.committed && sh.mask.testBit b && !sh.left.testBit b

/-- Whether a COMMITTED sheet holds the axis or motor of a path-profile bit (R28, R29). -/
def pathHeld (s : State) (b : Nat) : Bool := s.sheets.any fun sh => sh.holds b

/-! ## Event slots -/

/-- The state with the slots changed; the slot watermark follows (R406, R86; 2520:01 to :06). -/
def setSlots (s : State) (l : Tab Event) : State :=
  watch true { s with slots := l } 0x2520 2 s.slots.length l.length

/-- The first free slot from lo below hi. -/
def freeSlot (s : State) (lo hi : Nat) : Option Nat :=
  (List.range (hi - lo)).findSome? fun i => if tabHas s.slots (lo + i) then none else some (lo + i)

/-- Puts an event into the first free slot from lo below hi; unchanged when none is free. -/
def addEvent (s : State) (lo hi : Nat) (e : Event) : State :=
  match freeSlot s lo hi with
  | some k => setSlots s (tabSet s.slots k e)
  | none => s

/-- The state without the slots that a test chooses. -/
def dropEvents (s : State) (p : Event → Bool) : State := setSlots s (s.slots.filter fun q => !p q.2)

/-- The class of an action code (R408): 1 IMAGE, 2 MECH, 3 HV, 4 NET, 5 LOG, 0 for a code not listed. -/
def eventClass (code : Nat) : Nat :=
  if code = 1 then 1 else if 0x10 ≤ code ∧ code ≤ 0x14 then 2 else if 0x20 ≤ code ∧ code ≤ 0x22 then 3
  else if code = 0x30 then 4 else if 0x40 ≤ code ∧ code ≤ 0x42 then 5 else 0

/-- Bit 3 of an event's status: fired (R407). -/
def Event.fired (e : Event) : Bool := e.status.testBit 3

/-! ## Completions -/

/-- The routing: true is purge (R414, R271). -/
def Sheet.routePurge (s : State) (sh : Sheet) : Bool :=
  if sh.spoiled then true
  else match sh.purged with
    | some b => b
    | none => (sh.mistimed || sh.late || sh.lineFlagged) && get s (0x5000 + sh.tenant) 0x0D == 1

/-- Whether the sheet has a defect (R31). -/
def Sheet.defect (sh : Sheet) : Bool := sh.mistimed || sh.late || sh.lineFlagged

/-- A sheet takes a defect (R31); one that comes after its routing is decided is a late one (R271). -/
def Sheet.mark (sh : Sheet) (f : Sheet → Sheet) : Sheet :=
  let n := f sh
  if sh.purged.isSome && !sh.defect then { n with lateDefect := true } else n

/-- The outcome of a sheet that has left its path (R30, R32). -/
def Sheet.outcome (sh : Sheet) : Nat := if sh.spoiled then 2 else if sh.defect then 1 else 0

/-- The flags of a completion (R268); double tells of a reprint that ended SPOILED. -/
def completionFlags (s : State) (sh : Sheet) (outcome : Nat) (double ghost : Bool) : Nat :=
  ofBool sh.reprint + 2 * ofBool double + 4 * ofBool sh.safestop + 8 * ofBool ghost + 16 * ofBool sh.blanked +
    32 * ofBool sh.mistimed + 64 * ofBool sh.late + 128 * ofBool sh.lineFlagged +
    256 * ofBool (outcome ≤ 2 && sh.routePurge s) + 512 * ofBool (sh.lateDefect && outcome == 1)

/-- The 32 bytes of a completion with phase bit 0 (R268). -/
def completionBytes (s : State) (sh : Sheet) (outcome reason flags : Nat) : List Byte :=
  leBytes 4 sh.token ++ leBytes 4 sh.serial ++ leBytes 1 outcome ++ leBytes 1 reason ++ leBytes 2 flags ++
    leBytes 2 sh.ringIndex ++ leBytes 1 (sh.firstSpill.getD 255) ++ leBytes 1 0 ++ leBytes 8 s.time ++ leBytes 8 sh.sluice

/-- The same bytes with the phase bit set. -/
def withPhase (l : List Byte) (phase : Bool) : List Byte := if phase then l.take 15 ++ [1] ++ l.drop 16 else l

/-- Whether the completion ring of a tenant is full (R262, R270). -/
def ringFull (s : State) (t : Nat) : Bool :=
  ((tenant s t).compTail + 1) % get s (0x5000 + t) 7 == (tenant s t).compHead

/-- Whether completions of a tenant must wait: ring full, or Bus Master Enable clear (R270, R279). -/
def mustHold (s : State) (t : Nat) : Bool := ringFull s t || !(tenant s t).busMaster

/-- Writes one entry at the completion tail, advances it and inverts the phase at a wrap (R268, R269). -/
def writeEntry (s : State) (t : Nat) (l : List Byte) : State :=
  let tn := tenant s t
  let size := get s (0x5000 + t) 7
  let s := emit s (.hostWrite t (get s (0x5000 + t) 6 + 32 * tn.compTail) (withPhase l tn.phase))
  setTenant s t fun x => { x with compTail := (x.compTail + 1) % size, phase := if tn.compTail + 1 < size then x.phase else !x.phase }

/-- Counts a written entry for vector 0 (R268): at the coalescing count, or at once with a coalescing time of 0. -/
def signalEntry (s : State) (t : Nat) : State :=
  let n := (tenant s t).unsignalled + 1
  if get s (0x5000 + t) 0x0F ≤ n ∨ get s (0x5000 + t) 0x10 = 0 then
    vector { setTenant s t (fun x => { x with unsignalled := 0 }) with coalescing := s.coalescing.erase t } (t + 1) 0
  else { setTenant s t (fun x => { x with unsignalled := n }) with
    coalescing := if s.coalescing.contains t then s.coalescing else t :: s.coalescing }

/-- Writes one entry and signals it if its descriptor asks for it. -/
def writeSignal (s : State) (t : Nat) (h : Held) : State :=
  let u := writeEntry s t h.bytes
  if h.signal then signalEntry u t else u

/-- Delivers an entry: to the ghost BLOB of a tenant in reset (R282), to the held queue of 64 entries (R270; one more is lost, DESIGN CHOICE, log
18), or to the ring. -/
def deliver (s : State) (t : Nat) (h : Held) : State :=
  if (tenant s t).state != .enabled then
    let b := getBlob s (0x5000 + t) 0x14
    if b.length < 1536 then putBlob s (0x5000 + t) 0x14 (b ++ h.bytes) else s
  else if mustHold s t || !(tenant s t).heldDone.isEmpty then setTenant s t fun x => { x with heldDone := (x.heldDone ++ [h]).take 64 }
  else writeSignal s t h

/-- Writes held entries in order while the ring takes them (R270, R279); at most n. -/
def flushHeld (t : Nat) : Nat → State → State
  | 0, s => s
  | n + 1, s =>
    if mustHold s t then s
    else match (tenant s t).heldDone with
      | [] => s
      | h :: r => flushHeld t n (writeSignal (setTenant s t fun x => { x with heldDone := r }) t h)

/-- The counter of an outcome (5040:04 to :07); REJECTED has none. -/
def countOutcome (s : State) (outcome : Nat) : State := if outcome ≤ 3 then bump s 0x5040 (4 + outcome) else s

/-- A completion of a sheet with an outcome and reason. -/
def completion (s : State) (sh : Sheet) (outcome reason : Nat) (double : Bool) : State :=
  let ghost := (tenant s sh.tenant).state != .enabled
  let l := completionBytes s sh outcome reason (completionFlags s sh outcome double ghost)
  countOutcome (deliver s sh.tenant { bytes := l, signal := sh.flags.testBit 0 }) outcome

/-- The units of a tenant go to the scrub queue and the tenant to SCRUBBING; with no unit it is DISABLED at once (R281, R284). -/
def toScrubbing (s : State) (t : Nat) : State :=
  let u := (tenant s t).units
  let s := { s with mem := { s.mem with scrub := s.mem.scrub ++ u } }
  if u.isEmpty then vector (setTenant s t fun x => { x with state := .disabled }) 0 5
  else setTenant s t fun x => { x with state := .scrubbing }

/-- The last sheet of a GHOST tenant is DONE (R284); one that R23 no longer reaches at the reset counts as COMMITTED. -/
def ghostCheck (s : State) (t : Nat) : State :=
  if (tenant s t).state == .ghost && !(s.sheets.any fun sh => sh.tenant == t) then toScrubbing s t else s

/-- A sheet leaves every state: it is removed, with its slots and its space (R17). -/
def removeSheet (s : State) (uid : Nat) : State :=
  dropEvents { s with sheets := s.sheets.filter fun sh => sh.uid != uid } fun e => e.uid == some uid

/-- The instance number under which the second serve of a reprint is kept. -/
def reprintInst (sh : Sheet) : Nat := sh.uid * 256 + sh.tenant

/-- The reprint of a SPOILED sheet (R35): the same descriptor and planes, RESIDENT, no serial yet. Where its tenant has 32 sheets queued it
waits for a place (R20; log 11). -/
def reprintOf (s : State) (sh : Sheet) : Sheet :=
  { uid := s.nextUid, tenant := sh.tenant, ringIndex := sh.ringIndex, token := sh.token, profile := sh.profile,
    flags := sh.flags, depth := sh.depth, lines := sh.lines, pixels := sh.pixels, planes := sh.planes, state := .resident,
    reprint := true, waiting := decide (32 ≤ queuedOf s sh.tenant), fetching := true, data := sh.data }

/-- Whether a SPOILED sheet is reprinted (R35, R37, R283). -/
def reprints (s : State) (sh : Sheet) : Bool :=
  !sh.reprint && !sh.safestop && (tenant s sh.tenant).state == .enabled && get s (0x5000 + sh.tenant) 0x0E == 1

/-- A reprint enters its tenant's order (R19, R35): before every sheet that has not been printed yet, behind the tenant's earlier reprints. -/
def insertReprint (l : List Sheet) (r : Sheet) : List Sheet :=
  if l.any fun sh => sh.reprint && sh.tenant == r.tenant then
    match l with
    | [] => [r]
    | sh :: t => sh :: insertReprint t r
  else r :: l

/-- Reprints that waited take the places that have come free, oldest first (R20, R35). -/
def enterWaiting (s : State) : State :=
  (s.sheets.filter (·.waiting)).foldl (fun t sh =>
    if queuedOf t sh.tenant < 32 then modSheet t sh.uid fun x => { x with waiting := false } else t) s

/-- A COMMITTED sheet becomes DONE (R17, R26, R35 to R37, R410): completion, release of its space, reprint. -/
def finishSheet (s : State) (sh : Sheet) : State :=
  let o := sh.outcome
  let double := sh.reprint && o == 2 && !sh.safestop
  let s := completion s sh o 0 double
  let s := removeSheet s sh.uid
  let s := if sh.reprint then
      (if double then doubleFaultAs clsFault s .sheet (reprintInst sh) 0 0x0F 0x5040 6
       else if o = 2 then serveDrop s .sheet (reprintInst sh)
       else servePass s .sheet (reprintInst sh) 0x0F 0x5040 8)
    else s
  let s := if o = 2 ∧ reprints s sh then
      let r := reprintOf s sh
      serveBegin (bump { s with sheets := insertReprint s.sheets r, nextUid := s.nextUid + 1 } 0x5040 8) .sheet (reprintInst r) 0 0x0F 0x5040 8
    else s
  ghostCheck s sh.tenant

/-! ## Withdrawal, cancellation, spill -/

/-- Whether a withdrawal or cancel still reaches the sheet: at least 16 ticks before its first IMAGE event (R23). -/
def inTime (s : State) (sh : Sheet) : Bool := decide (s.time + 16 ≤ sh.firstImage)

/-- An ADMITTED sheet goes back to RESIDENT: reservations released, events removed (R22). -/
def withdrawn (sh : Sheet) : Sheet :=
  { sh with state := .resident, mask := 0, timetable := [], i0 := 0, imageAt := [], endAt := [], winAt := [], charge := [],
            cut := 0, fired := 0, held := 0, left := 0, decoded := 0 }

/-- The model numbers of the ADMITTED sheets of the same tenant that stand later in ring order than uid. -/
def laterAdmitted (s : State) (uid : Nat) : List Nat :=
  match sheetOf s uid with
  | none => []
  | some sh => (((s.sheets.dropWhile fun x => x.uid != uid).drop 1).filter fun x => x.tenant == sh.tenant && x.admitted).map (·.uid)

/-- A sheet that a withdrawal no longer reaches is COMMITTED (R23): its sluice opens at its first IMAGE event. -/
def overtaken (s : State) (uid : Nat) : State :=
  modSheet s uid fun sh => { sh with state := .committed, sluice := sh.firstImage }

/-- The mask of stations with a plane that have not sent their last line. -/
def Sheet.toBlank (sh : Sheet) : Nat :=
  (sh.stations.filter fun st => !sh.imaged.testBit st).foldl (fun m st => m + 2 ^ st) 0

/-- The sheet is spoiled; each of its stations spills at its next scan boundary (R33). -/
def Sheet.spill (sh : Sheet) (st : Option Nat) : Sheet :=
  { sh with spoiled := true, spillDue := sh.spillDue ||| sh.toBlank, firstSpill := match sh.firstSpill with
    | some f => some f
    | none => st }

/-- Spills a COMMITTED sheet (R33); st is the station that begins it, none for a cause that is no station. -/
def spillSheet (s : State) (uid : Nat) (st : Option Nat) : State :=
  modSheet s uid fun sh => if sh.committed then sh.spill st else sh

/-- Spills every COMMITTED sheet that a test chooses. -/
def spillWhere (s : State) (p : Sheet → Bool) (st : Option Nat) : State :=
  { s with sheets := s.sheets.map fun sh => if sh.committed && p sh then sh.spill st else sh }

/-- Spills every COMMITTED sheet that has still to print on a station (R33, R401). -/
def spillStation (s : State) (st : Nat) : State :=
  spillWhere s (fun sh => sh.hasPlane st && !sh.imaged.testBit st) (some st)

/-- Spills every COMMITTED sheet whose copied profile includes an axis or motor bit (R465, R485, R495). -/
def spillPath (s : State) (b : Nat) : State := spillWhere s (fun sh => sh.mask.testBit b) none

/-- SAFESTOP entry: every COMMITTED sheet completes SPOILED with the SAFESTOP flag (R37, R561). -/
def spoilAll (s : State) : State :=
  (s.sheets.filter (·.committed)).foldl (fun t sh => finishSheet t { sh with spoiled := true, safestop := true }) s

end Sys2Proof.Machine
end

