-- ==== Sys2Proof/Machine/Geometry.lean ====
section
/-! DEFINITION. Quantities derived from the applied station geometry (R344), and the tests on it (R346). -/

namespace Sys2Proof.Machine

/-- The geometry index of station n (R344). -/
def geoIdx (n : Nat) : Nat := 0x3000 + 0x20 * n

/-- Objects of the applied geometry by name (R344). -/
def beams (s : State) (n : Nat) : Nat := get s (geoIdx n) 1
def facets (s : State) (n : Nat) : Nat := get s (geoIdx n) 2
def processRes (s : State) (n : Nat) : Nat := get s (geoIdx n) 4
def processSpeed (s : State) (n : Nat) : Nat := get s (geoIdx n) 5
def pixelsPerLine (s : State) (n : Nat) : Nat := get s (geoIdx n) 6
def rasterDepth (s : State) (n : Nat) : Nat := get s (geoIdx n) 7
def pixelPeriod (s : State) (n : Nat) : Nat := get s (geoIdx n) 8

/-- Line rate in 0.001 line/s from process speed and resolution (R344). -/
def lineRateOf (speed res : Nat) : Nat := roundDiv (speed * res * 5) 127

/-- Nominal facet period in phases from beams, speed and resolution (R344): 24 × 10⁹ phases per second. -/
def facetPeriodOf (bm speed res : Nat) : Nat := roundDiv (bm * 24000000000 * 25400) (speed * res)

/-- Polygon speed in 0.01 rpm (R344). -/
def polygonSpeedOf (bm fc speed res : Nat) : Nat := roundDiv (6000 * speed * res) (25400 * bm * fc)

/-- The derived quantities of the applied geometry of station n (3000+20h·n:0C to :0E). -/
def lineRate (s : State) (n : Nat) : Nat := lineRateOf (processSpeed s n) (processRes s n)
def facetPeriod (s : State) (n : Nat) : Nat := facetPeriodOf (beams s n) (processSpeed s n) (processRes s n)
def polygonSpeed (s : State) (n : Nat) : Nat := polygonSpeedOf (beams s n) (facets s n) (processSpeed s n) (processRes s n)

/-- Nominal facet period in ticks, rounded to the nearest. -/
def facetTicks (s : State) (n : Nat) : Nat := roundDiv (facetPeriod s n) 16

/-- Ticks in which n lines of a sheet pass at the process speed of station st (R344): lines / λ. -/
def linesTicks (s : State) (st n : Nat) : Nat :=
  roundDiv (n * 1500000000 * 25400) (processSpeed s st * processRes s st)

/-- Active scan in phases: pixels × pixel period (R344); a phase is 1/24 ns. -/
def activeScan (px period : Nat) : Nat := ceilDiv (px * period * 24) 1000

/-- Scans of a sheet on a station: lines reached with line offset, in beams (R356, R361). -/
def scansOf (lines bm : Nat) : Nat := max 1 (ceilDiv lines bm)

/-- Whether process speed and resolution agree among the present stations (R346). -/
def geometryAgrees (s : State) : Bool :=
  (stationsPresent s).all fun n => processSpeed s n == processSpeed s 0 && processRes s n == processRes s 0

end Sys2Proof.Machine
end

