-- ==== Sys2Proof/Machine/MotorOps.lean ====
section
/-! DEFINITION. The motors' operations: gates, commands and ramps, braking, spin-up states, PWM and current control, faults
(R435 to R468). -/

namespace Sys2Proof.Machine

/-- The index of motor m. -/
def motIdx (m : Nat) : Nat := 0x4800 + m

/-- Whether motor m exists: the polygon of an absent station does not (R436). -/
def motorPresent (s : State) (m : Nat) : Bool := if m < 6 then present s m else decide (m < 12)

/-- The state of a motor (4800+m:30) and its codes. -/
def motorState (s : State) (m : Nat) : Nat := get s (motIdx m) 0x30
def setMotorState (s : State) (m v : Nat) : State := put s (motIdx m) 0x30 v

/-- The waveform mode (R442). -/
def waveform (s : State) (m : Nat) : Nat := get s (motIdx m) 1

/-- A half-bridge with both sides turned off: the dead time of `dead` ns runs from now for the other side (R438). -/
def Leg.off (dead : Nat) (l : Leg) : Leg := if l.drive = .idle then l else { drive := .idle, was := l.drive, rest := dead }

/-- A half-bridge over the parts of a period, each from a to b ns with the side it is to drive (R438): the side that is on turns off where
another is wanted, and that one turns on once the dead time since the other's turn-off has passed (log 155). -/
def legRun (dead phase : Nat) : Leg → List (Nat × Nat × Drive) → List GateEdge × Leg
  | l, [] => ([], l)
  | l, (a, b, w) :: parts =>
    let cut := l.drive != .idle && l.drive != w
    let l' := if cut then l.off dead else l
    let wait := if l'.was = w then 0 else l'.rest
    let turn := l'.drive != w && decide (wait < b - a)
    let r := legRun dead phase (if turn then { drive := w, was := w, rest := 0 } else { l' with rest := l'.rest - (b - a) }) parts
    ((if cut then [{ at_ := a, phase := phase, side := l.drive, on := false }] else []) ++
      (if turn then [{ at_ := a + wait, phase := phase, side := w, on := true }] else []) ++ r.1, r.2)

/-- The parts of a period of t ns: `inside` from a to b but within the period, `outside` before and after; empty parts do not count. -/
def pulseParts (t a b : Nat) (inside outside : Drive) : List (Nat × Nat × Drive) :=
  [(0, min a t, outside), (min a t, min b t, inside), (min b t, t, outside)].filter fun p => decide (p.1 < p.2.1)

/-- Every gate of a motor low (R437). -/
def gatesOff (s : State) (m : Nat) : State :=
  setMotor s m fun x => { x with gatesLow := true, duties := [0, 0, 0], lows := [0, 0, 0], samples := [], lowSides := false, edges := [],
                                 legs := x.legs.map (Leg.off (get s (motIdx m) 3)) }

/-- The level of a gate pin of motor m (R437): phase k, its high or low side; logic 0 until group 20 has been applied since AON power-on,
then active high or active low as 4800+m:04 says. -/
def gatePin (s : State) (m k : Nat) (high : Bool) : Bool :=
  let on := (((motor s m).legs[k]?).getD {}).drive == (if high then .high else .low)
  s.pins.gatesSet && (on != (get s (motIdx m) 4).testBit (if high then 0 else 1))

/-- Every gate low and the motor off. -/
def motorOff (s : State) (m : Nat) : State :=
  let t := putS (setMotorState (gatesOff s m) m 0) 32 (motIdx m) 0x31 0
  setMotor t m fun x => { x with brake := 0, nextStep := none, target := 0, rampFrom := 0, rampFor := 0, demand := 0, grid := none,
                                 inWindow := 0, outWindow := 0, trim := 0, inBand := none, deferred := none }

/-- Whether a motor reports standstill. -/
def motorStill (s : State) (m : Nat) : Bool := motorState s m == 0 || motorState s m == 7

/-- The commanded speed at the present press time, on the linear ramp (R453; 4800+m:32). -/
def commandedNow (s : State) (m : Nat) : Int :=
  let x := motor s m
  let el := s.time - x.rampAt
  if x.rampFor ≤ el then x.target else x.rampFrom + (x.target - x.rampFrom) * (el : Int) / (x.rampFor : Int)

/-- Whether the commanded ramp has ended. -/
def rampOver (s : State) (m : Nat) : Bool := decide ((motor s m).rampFor ≤ s.time - (motor s m).rampAt)

/-- The commanded acceleration in rpm/s (R453; 4800+m:3D): the slope while the ramp runs, else 0; speeds in 0.1 rpm, the ramp in ticks. -/
def accelNow (s : State) (m : Nat) : Int :=
  let x := motor s m
  if rampOver s m then 0 else (x.target - x.rampFrom) * 1500000000 / (10 * (x.rampFor : Int))

/-- Starts a ramp of the commanded speed to v over d ticks (R453). -/
def startRamp (s : State) (m : Nat) (v : Int) (d : Nat) : State :=
  let c := commandedNow s m
  setMotor s m fun x => { x with rampFrom := c, rampAt := s.time, rampFor := d, target := v, trim := 0, inBand := none }

/-- The ticks in which the acceleration limit 4800+m:19 changes the speed by d (0.1 rpm). -/
def accelTicks (s : State) (m : Nat) (d : Int) : Nat :=
  d.natAbs * 150000000 / max 1 (get s (motIdx m) 0x19)

/-- Speed of a speed entry in 0.1 rpm, with its direction (R456, R457). -/
def entrySpeed (s : State) (m k : Nat) : Int :=
  if m < 6 then (if k = 1 then (polygonSpeed s m / 10 : Nat) else 0)
  else
    let e := get s (motIdx m) (0x20 + k)
    if e.testBit 21 then -((e % 2 ^ 21 : Nat) : Int) else (e % 2 ^ 21 : Nat)

/-- Ramp time of a speed entry in ticks; a polygon follows its acceleration limit (R456, R457). -/
def entryRamp (s : State) (m k : Nat) : Nat :=
  if m < 6 then accelTicks s m (entrySpeed s m k - commandedNow s m)
  else ticksMs (10 * (get s (motIdx m) (0x20 + k) / 2 ^ 22))

/-- A motor begins to turn from standstill: a polygon aligns, a drive runs from its Hall angle (R460, R465). -/
def spinUp (s : State) (m : Nat) : State :=
  if m < 6 then
    setMotor (setMotorState s m 1) m fun x =>
      { x with gatesLow := false, lowSides := false, alignRetry := false, crossings := 0, step := 0, nextStep := none,
               demand := 0, crossed := false, openSteps := 0, intD := 0, intQ := 0, grid := none, inWindow := 0, outWindow := 0 }
  else setMotor (setMotorState s m 3) m fun x => { x with gatesLow := false, lowSides := false, intD := 0, intQ := 0, demand := 0, idRef := 0 }

/-- A polygon whose commanded speed changes is no longer locked: RUN (R460). -/
def unlock (s : State) (m : Nat) : State :=
  if motorState s m = 4 ∨ motorState s m = 5 then
    setMotor (setMotorState s m 3) m fun x => { x with grid := none, inWindow := 0, outWindow := 0, inBand := none }
  else s

/-- Commands entry k of motor m (R456, R459, R460); in state 7 and in waveform mode 0 it is only recorded. -/
def commandEntry (s : State) (m k : Nat) : State :=
  let v := entrySpeed s m k
  let t := startRamp s m v (entryRamp s m k)
  let t := setMotor (if v = (motor s m).target then t else unlock t m) m fun x => { x with entry := k, deferred := none }
  if waveform s m = 0 ∨ motorState s m = 7 then t
  else if v = 0 then t
  else if motorState s m = 0 ∨ motorState s m = 6 then spinUp t m
  else t

/-- Whether a command of entry k changes the motor's commanded speed (R458). -/
def changesSpeed (s : State) (m k : Nat) : Bool := entrySpeed s m k != (motor s m).target

/-- The refusal of a command by entry, mode aside (R456, R457): 0 when none. -/
def entryCheck (s : State) (m k : Nat) : Nat :=
  if m < 6 ∧ 2 ≤ k then 0x0303
  else if 6 ≤ m ∧ get s (motIdx m) 0x0C < (entrySpeed s m k).natAbs then 0x0302
  else 0

/-- Braked stop (R467): the brake current opposes the motion. -/
def brakeMotor (s : State) (m : Nat) : State :=
  if motorState s m = 0 ∨ motorState s m = 7 then setMotor s m fun x => { x with restart := false, deferred := none }
  else
    setMotor (setMotorState s m 6) m fun x =>
      { x with brake := get s (motIdx m) 0x14, target := 0, rampFrom := 0, rampFor := 0, entry := 0, deferred := none,
               restart := false, nextStep := none, grid := none, lowSides := false }

/-- Ramped stop (R467, R468): to 0 at the entry's ramp time, or at the acceleration limit for a polygon. -/
def rampStop (s : State) (m : Nat) : State :=
  if motorState s m = 0 ∨ motorState s m = 7 then setMotor s m fun x => { x with restart := false, deferred := none, target := 0, rampFrom := 0, rampFor := 0 }
  else
    let t := startRamp s m 0 (if m < 6 then accelTicks s m (commandedNow s m) else entryRamp s m (motor s m).entry)
    setMotor (unlock t m) m fun x => { x with entry := 0, deferred := none, restart := false }

/-- The end of a stop below 2 % of the maximum speed: all three low sides for 500 ms (R467). -/
def shortLowSides (s : State) (m : Nat) : State :=
  setMotor (setMotorState s m 6) m fun x => { x with lowSides := true, gatesLow := false, duties := [0, 0, 0], brake := 0 }

/-- Whether the measured speed is below 2 % of 4800+m:0C (R467). -/
def nearStill (s : State) (m : Nat) : Bool := decide (50 * (getS s 32 (motIdx m) 0x31).natAbs < get s (motIdx m) 0x0C)

/-! ## Speed measured from edges -/

/-- Speed in 0.1 rpm from one of six sectors per electrical turn lasting p ticks (R444, R446, R452). -/
def sectorSpeed (s : State) (m p : Nat) : Nat := if p = 0 then 0 else 150000000000 / (p * max 1 (get s (motIdx m) 5))

/-- Speed in 0.1 rpm of a polygon from a facet period in phases (R460). -/
def facetSpeed (s : State) (m p : Nat) : Nat := if p = 0 then 0 else 14400000000000 / (p * max 1 (facets s m))

/-- Whether v lies within n per mille of c. -/
def withinPerMille (n : Nat) (c v : Int) : Bool := decide (1000 * (v - c).natAbs ≤ n * c.natAbs)

/-! ## PWM, sampling and current control (R439 to R455) -/

/-- The PWM period in ns, counted in steps of 5 ns (R439). -/
def pwmPeriodNs (s : State) (m : Nat) : Nat := 5 * roundDiv 200000000 (max 1 (get s (motIdx m) 2))

/-- Dead time and minimum sample window in ns. -/
def deadNs (s : State) (m : Nat) : Nat := get s (motIdx m) 3
def windowNs (s : State) (m : Nat) : Nat := get s (motIdx m) 0x16

/-- The phases 0 to 2 in falling order of duty; equal duties keep their order (R448). -/
def byDuty (d : List Nat) : List Nat :=
  let u := d.getD 0 0
  let v := d.getD 1 0
  let w := d.getD 2 0
  if v ≤ u then (if w ≤ v then [0, 1, 2] else if w ≤ u then [0, 2, 1] else [2, 0, 1])
  else (if w ≤ u then [1, 0, 2] else if w ≤ v then [1, 2, 0] else [2, 1, 0])

/-- Where a period's sample instants lie, and the starts of the pulses of U, V, W in ns (R448). -/
structure Placement where
  hold : Bool
  shifted : Bool
  sample1 : Int
  sample2 : Int
  starts : List Nat
deriving DecidableEq, Repr

/-- The start of a centred pulse of duty d in a period of t ns, moved by `shift` ns × 131072, at the resolution of 5 ns (R439, R448). -/
def pulseStart (t d : Nat) (shift : Int) : Nat := (((((65536 - d) * t : Nat) : Int) + shift + 327680) / 655360).toNat * 5

/-- The width of a pulse of duty d in ns, at the resolution of 5 ns: no shift changes it (R439, R448). -/
def pulseWidth (t d : Nat) : Nat := 5 * roundDiv (d * (t / 5)) 65536

/-- The placement rule of R448: the aperture of 500 ns ends at the sample instant, after t_min − 500 ns to settle (R449). Duties are in
1/65536; times inside are ns × 131072, results ns rounded down. -/
def placement (t dead win : Nat) (d : List Nat) : Placement :=
  let o := byDuty d
  let da := d.getD (o.getD 0 0) 0
  let db := d.getD (o.getD 1 0) 0
  let dc := d.getD (o.getD 2 0) 0
  let need : Int := ((dead + win) * 131072 : Nat)
  let gapAB : Int := (((da - db) * t : Nat) : Int)
  let gapBC : Int := (((db - dc) * t : Nat) : Int)
  let sa := max 0 (need - gapAB)
  let sc := max 0 (need - gapBC)
  let roomA : Int := (((65536 - da) * t : Nat) : Int)
  let roomB : Int := (((65536 - db) * t : Nat) : Int)
  let roomC : Int := (((65536 - dc) * t : Nat) : Int)
  let settle : Int := (((dead + win) * 131072 : Nat) : Int) - ((500 * 131072 : Nat) : Int)
  let hold := decide (roomA < sa ∨ roomC < sc)
  let shift (k : Nat) : Int := if hold then 0 else if k = o.getD 0 0 then -sa else if k = o.getD 2 0 then sc else 0
  { hold := hold, shifted := decide (0 < sa ∨ 0 < sc),
    sample1 := (roomA - sa + settle) / 131072, sample2 := (roomB + settle) / 131072,
    starts := (List.range 3).map fun k => pulseStart t (d.getD k 0) (shift k) }

/-- The parts of the period of motor m in which phase k is to drive a side (R438, R443, R447, R467): all low sides at the end of a stop; in code
3 the high side for the pulse and the low side beside it; in six-step the sourcing phase's pulse, or the sinking phase's low side. -/
def gateParts (s : State) (m k : Nat) : List (Nat × Nat × Drive) :=
  let x := motor s m
  let t := pwmPeriodNs s m
  if x.lowSides then [(0, t, .low)]
  else if waveform s m = 3 then
    let a := ((placement t (deadNs s m) (windowNs s m) x.duties).starts).getD k 0
    pulseParts t a (a + pulseWidth t (x.duties.getD k 0)) .high .low
  else
    let low := x.lows.getD k 0
    let d := if low = 0 then x.duties.getD k 0 else low
    let a := pulseStart t d 0
    pulseParts t a (a + pulseWidth t d) (if low = 0 then .high else .low) .idle

/-- The gates of the period that starts: their edges, and what the half-bridges drive at its end (R437 to R439). -/
def driveGates (s : State) (m : Nat) : State :=
  if (motor s m).gatesLow then s
  else
    let runs := (List.range 3).map fun k => legRun (deadNs s m) k (((motor s m).legs[k]?).getD {}) (gateParts s m k)
    setMotor s m fun x => { x with edges := runs.flatMap (·.1), legs := runs.map (·.2) }

/-- The current in mA that a code of the shunt converter means (R590, R592): ±250 mV of 12 bits, at which the shunt carries 4800+m:07, rounded
down (log 161). -/
def shuntCurrent (s : State) (m : Nat) (code : Int) : Int := code * (get s (motIdx m) 7 : Int) / 2048

/-- The three phase currents from the two samples of the period that ends (R448): sample 1 reads i[a], sample 2 reads −i[c]. -/
def phaseCurrents (d : List Nat) (s1 s2 : Int) : List Int :=
  let o := byDuty d
  let a := o.getD 0 0
  let c := o.getD 2 0
  let b := o.getD 1 0
  (List.range 3).map fun k => if k = a then s1 else if k = c then -s2 else if k = b then s2 - s1 else 0

/-- Sine of an angle in 1/65536 turn, in 1/32768; its rounding is open (Config). -/
def sinQ (a : Nat) : Int := clamp (-32768) 32768 (Config.sine (a % 65536))
def cosQ (a : Nat) : Int := sinQ (a + 16384)

/-- d and q current from phase currents at an electrical angle (R447), amplitude-invariant. -/
def dqCurrent (i : List Int) (a : Nat) : Int × Int :=
  let al := i.getD 0 0
  let be := (i.getD 1 0 - i.getD 2 0) * 37837 / 65536
  ((al * cosQ a + be * sinQ a) / 32768, (be * cosQ a - al * sinQ a) / 32768)

/-- Voltage demand of one axis by the PI law with gains in 1/256 (R440): error in mA, integral, voltage in mV. -/
def piStep (gains : Nat) (err int : Int) : Int × Int :=
  let int' := int + (gains / 65536 : Nat) * err
  (((gains % 65536 : Nat) * err + int') / 256, int')

/-- The bus voltage in mV (R440): the AIN of 4810:03, or 4810:04 when that object is 255. -/
def busMv (s : State) : Nat :=
  let i := get s 0x4810 3
  if i = 255 then get s 0x4810 4 else Config.busMilliVolts (ain s i).x

/-- A duty in 1/65536 from a phase voltage around half the bus. -/
def dutyOf (bus : Nat) (v : Int) : Nat := (clamp 0 65536 (32768 + v * 65536 / max 1 (bus : Int))).toNat

/-- Dead-time compensation (R441): the dead time's share is added for current out of the bridge, subtracted for current in. -/
def compensate (t dead : Nat) (i : Int) (d : Nat) : Nat :=
  let c := (dead * 65536 / max 1 t : Nat)
  (clamp 0 65536 (if 0 < i then (d : Int) + c else if i < 0 then (d : Int) - c else d)).toNat

/-- A high-side pulse shorter than twice the dead time is suppressed (R441). -/
def suppress (t dead d : Nat) : Nat := if d * t < 2 * dead * 65536 then 0 else d

/-- Sourcing and sinking phase of six-step position p (R443). -/
def sixStep (p : Nat) : Nat × Nat :=
  match p % 6 with
  | 0 => (0, 1)
  | 1 => (0, 2)
  | 2 => (1, 2)
  | 3 => (1, 0)
  | 4 => (2, 0)
  | _ => (2, 1)

/-- The demand the regulator works to, clamped at the current limit: the align current up to RUN, the brake current against the motion, else
the loop's demand (R440, R460, R467). -/
def demandOf (s : State) (m : Nat) : Int :=
  let x := motor s m
  let lim : Int := get s (motIdx m) 6
  let dem : Int :=
    if motorState s m = 1 ∨ motorState s m = 2 then (get s (motIdx m) 0x10 % 65536 : Nat)
    else if motorState s m = 6 then (if 0 ≤ getS s 32 (motIdx m) 0x31 then -(x.brake : Int) else x.brake)
    else x.demand
  clamp (-lim) lim dem

/-- The brake current of the next period: halved while the bus is above 4810:05, down to 1/16 (R467). -/
def nextBrake (s : State) (m : Nat) : Nat :=
  let x := motor s m
  if get s 0x4810 5 < busMv s then max (get s (motIdx m) 0x14 / 16) (x.brake / 2) else x.brake

/-- The share in ticks of a phase's drive at step p (R445), where `drives q` says whether step q drives it: all of 2h, but in the softening
window of half h around a commutation, which the step before or after shares; e ticks have passed since the last commutation and r are left to
the next. -/
def softShare (drives : Nat → Bool) (p h e r : Nat) : Nat :=
  let part (q n : Nat) : Nat := if drives q then n else 0
  if h = 0 then part p 1
  else if e < h then part p (h + e) + part (p + 5) (h - e)
  else if r < h then part p (h + r) + part (p + 1) (h - r)
  else part p (2 * h)

/-- The duty of a phase whose current of i mA flows out of the bridge, or into it (R441): compensated for the dead time, a short pulse
suppressed; a phase without a pulse gets none. -/
def pulseDuty (s : State) (m : Nat) (i : Int) (d : Nat) : Nat :=
  if d = 0 then 0 else suppress (pwmPeriodNs s m) (deadNs s m) (compensate (pwmPeriodNs s m) (deadNs s m) i d)

/-- Duties and controller state of six-step (R443, R445): the shunt current i regulates the sourcing phase's high side, the sinking phase's low
side stays on; a braking demand drives the reversed step (R467). `h` is half the softening time in ticks, 0 where the edges are not softened. -/
def sixStepPwm (s : State) (m : Nat) (i : Int) (h : Nat) : Motor → Motor := fun x =>
  let dem := demandOf s m
  let r := piStep (get s (motIdx m) 8) ((dem.natAbs : Int) - i) x.intQ
  let bus := busMv s
  let d := (clamp 0 65536 (r.1 * 65536 / max 1 (bus : Int))).toNat
  let p := if dem < 0 then x.step + 3 else x.step
  let e := s.time - x.lastStep
  let share (n : Nat) (side : Nat × Nat → Nat) (k : Nat) : Nat :=
    n * softShare (fun q => side (sixStep q) == k) p h e (x.stepPeriod - e) / max 1 (2 * h)
  { x with intQ := r.2, duties := (List.range 3).map (fun k => pulseDuty s m i (share d (·.1) k)),
           lows := (List.range 3).map (share 65536 (·.2)), vLimit := decide (65536 ≤ d) }

/-- The d-axis demand with field weakening (R454): magnitude v against 95 % and 90 % of Vbus / √3, steps of 1/256 of the limit. -/
def weaken (s : State) (m : Nat) (v2 : Nat) (idRef : Int) : Int :=
  let bus := busMv s
  let lim := getS s 16 (motIdx m) 0x0B
  let stp : Int := (get s (motIdx m) 6 / 256 : Nat)
  if 9025 * bus * bus ≤ 30000 * v2 then max lim (idRef - stp)
  else if 30000 * v2 < 8100 * bus * bus then min 0 (idRef + stp)
  else idRef

/-- Integer square root by n halvings of a guess. -/
def isqrtGo : Nat → Nat → Nat → Nat
  | 0, _, g => g
  | n + 1, v, g => isqrtGo n v (if g = 0 then 0 else min g ((g + v / g) / 2))
def isqrt (v : Nat) : Nat := isqrtGo 80 v (if v = 0 then 0 else 2 ^ (Nat.log2 v / 2 + 1))

/-- Field-oriented control of one period (R447, R454, R455): currents to d and q, two PI laws, voltages to three duties. -/
def focPwm (s : State) (m : Nat) (i : List Int) (dq : Int × Int) : Motor → Motor := fun x =>
  let g := get s (motIdx m) 8
  let lim : Int := get s (motIdx m) 6
  let qLim : Int := isqrt ((lim * lim - x.idRef * x.idRef).toNat)
  let rd := piStep g (x.idRef - dq.1) x.intD
  let rq := piStep g (clamp (-qLim) qLim (demandOf s m) - dq.2) x.intQ
  let bus := busMv s
  let v2 := (rd.1 * rd.1 + rq.1 * rq.1).toNat
  let va := (rd.1 * cosQ x.angle - rq.1 * sinQ x.angle) / 32768
  let vb := (rd.1 * sinQ x.angle + rq.1 * cosQ x.angle) / 32768
  let ph : List Int := [va, (-va + vb * 113512 / 65536) / 2, (-va - vb * 113512 / 65536) / 2]
  let mid := (ph.foldl max (ph.getD 0 0) + ph.foldl min (ph.getD 0 0)) / 2
  let t := pwmPeriodNs s m
  let ds := (List.range 3).map fun k =>
    suppress t (deadNs s m) (compensate t (deadNs s m) (i.getD k 0) (dutyOf bus (ph.getD k 0 - mid)))
  { x with intD := rd.2, intQ := rq.2, idRef := weaken s m v2 x.idRef, duties := ds, vLimit := decide (bus * bus ≤ 3 * v2) }

/-! ## Faults (R464 to R466) -/

/-- What every motor fault does except its second serve (R465): gates low, on an overcurrent at once and on any other fault at the next start
of a PWM period; code, count, FAULT entry, spills. -/
def motorFaultRecord (s : State) (m code : Nat) : State :=
  let t := setMotorState (if code = 1 then gatesOff s m else s) m 7
  let t := put t (motIdx m) 0x36 code
  let t := sat t (motIdx m) 0x37
  let t := setMotor t m fun x => { x with nextStep := none, brake := 0, grid := none, inWindow := 0, outWindow := 0 }
  let t := log t clsFault 1 0x0B m (motIdx m) 0x36 none code
  let t := if m < 6 then spillWhere t (fun sh => sh.fired.testBit m && !sh.imaged.testBit m) (some m) else t
  spillPath t (16 + m)

/-- Whether a fault code repeats within the window of R466: during the restart, or within 10 s after the speed was reached. -/
def motorRepeats (s : State) (m code : Nat) : Bool :=
  (serving s .motor m || servedWithin s .motor m (ticksS 10)) && (match serveOf s .motor m with
    | some r => r.code == code
    | none => false)

/-- The motor has reached its commanded speed after a restart: the failure was transient (R553, R466). -/
def motorReached (s : State) (m : Nat) : State := servePass s .motor m 0x0B (motIdx m) 0x38

/-- RUN begins (R460 step 3, R465): the commanded speed starts from the measured speed, at the acceleration limit. -/
def beginRun (s : State) (m : Nat) : State :=
  let v := getS s 32 (motIdx m) 0x31
  setMotor (setMotorState s m 3) m fun x =>
    { x with gatesLow := false, lowSides := false, intQ := 0, rampFrom := v, rampAt := s.time, rampFor := accelTicks s m (x.target - v), inBand := none }

/-- The restart of R465: a drive from its Hall angle, a polygon above 1,500 rpm in RUN and below it from ALIGN; a motor with
nothing commanded goes off. -/
def restartMotor (s : State) (m : Nat) : State :=
  let s := sat (setMotor s m fun x => { x with restart := false }) (motIdx m) 0x38
  if (motor s m).target = 0 ∨ waveform s m = 0 then motorReached (motorOff s m) m
  else if 6 ≤ m then spinUp (setMotor s m fun x => { x with rampFrom := getS s 32 (motIdx m) 0x31, rampAt := s.time }) m
  else if 15000 < (getS s 32 (motIdx m) 0x31).natAbs then beginRun s m
  else spinUp s m

end Sys2Proof.Machine
end

