-- ==== Sys2Proof/Machine/AxisOps.lean ====
section
/-! DEFINITION. The axes' operations: profiles and positions in press time, moves, groups, stops, homing, limits, driver
faults and standstill (R469 to R496). -/

namespace Sys2Proof.Machine

/-- The index of axis a. -/
def axIdx (a : Nat) : Nat := 0x4900 + a

/-- Pins of an axis by object and byte; 255 is absent (R469). -/
def axPin (s : State) (a sub byte : Nat) : Nat := field (get s (axIdx a) sub) (8 * byte) 8
def hasPin (s : State) (a sub byte : Nat) : Bool := axPin s a sub byte != 255

/-- The state of an axis (4900+a:30). -/
def axState (s : State) (a : Nat) : Nat := (axis s a).state

/-- Standstill for R429 and R164: disabled, standstill, STOPPED or fault (R496). -/
def axStill (s : State) (a : Nat) : Bool :=
  let k := axState s a
  k == 0 || k == 1 || k == 4 || k == 6

/-- HOMED (4900+a:32). -/
def homed (s : State) (a : Nat) : Bool := flag s (axIdx a) 0x32
def setHomed (s : State) (a : Nat) (b : Bool) : State := put s (axIdx a) 0x32 (ofBool b)

/-! ## Profiles (R476, R479) -/
/-- Ticks in a second, and the unit of a velocity inside a profile: 1/65536 step/s. -/
def tickRate : Nat := 1500000000
def velUnit : Nat := 65536

/-- Ticks of one jerk segment of a ramp from rest to velocity w under acceleration a and jerk j; 0 without jerk limit (R476): the jerk ends at
the full acceleration, or half-way where w is reached first. -/
def jerkTicks (w a j : Nat) : Nat :=
  if j = 0 then 0 else if a * a * velUnit ≤ w * j then a * tickRate / j else isqrt (w * tickRate * tickRate / (j * velUnit))

/-- Ticks of a ramp from rest to w; its jerk segments are symmetric (R476). -/
def rampTicks (w a j : Nat) : Nat :=
  if j = 0 ∨ a * a * velUnit ≤ w * j then w * tickRate / (max 1 a * velUnit) + jerkTicks w a j else 2 * jerkTicks w a j

/-- Steps × 6 × ticks³ per second³ travelled t ticks after the start of a ramp from rest to w. -/
def rampSteps (w a j t : Nat) : Nat :=
  let tj := jerkTicks w a j
  let tt := rampTicks w a j
  if j = 0 then 3 * tickRate * a * t * t
  else if t ≤ tj then j * t * t * t
  else if t ≤ tt - tj then j * tj * tj * tj + 3 * j * tj * tj * (t - tj) + 3 * j * tj * (t - tj) * (t - tj)
  else 3 * tickRate * tickRate * w * tt / velUnit + j * (tt - t) * (tt - t) * (tt - t) - 6 * tickRate * tickRate * w * (tt - t) / velUnit

/-- Velocity t ticks after the start of a ramp from rest to w, in 1/65536 step/s. -/
def rampVel (w a j t : Nat) : Nat :=
  let tj := jerkTicks w a j
  let tt := rampTicks w a j
  if j = 0 then min w (a * t * velUnit / tickRate)
  else if t ≤ tj then j * t * t * velUnit / (2 * tickRate * tickRate)
  else if t ≤ tt - tj then (j * tj * tj + 2 * j * tj * (t - tj)) * velUnit / (2 * tickRate * tickRate)
  else w - min w (j * (tt - t) * (tt - t) * velUnit / (2 * tickRate * tickRate))

/-- Whether the ramps to w and back to rest fit into d steps. -/
def rampsFit (d w a dec j : Nat) : Bool := decide (w * (rampTicks w a j + rampTicks w dec j) ≤ 2 * tickRate * velUnit * d)

/-- The greatest velocity from lo up to below hi that fits, by n halvings. -/
def peakGo (d a dec j : Nat) : Nat → Nat → Nat → Nat
  | 0, lo, _ => lo
  | n + 1, lo, hi =>
    let mid := (lo + hi) / 2
    if rampsFit d mid a dec j then peakGo d a dec j n mid hi else peakGo d a dec j n lo mid

/-- The peak velocity of the profile over d steps, in 1/65536 step/s (R476): v, or the greatest one whose ramps fit. Under a jerk limit a lower
velocity reaches a lower acceleration only once its ramp is too short for the full one. -/
def peak (d v a dec j : Nat) : Nat := if rampsFit d (v * velUnit) a dec j then v * velUnit else peakGo d a dec j 36 0 (v * velUnit)

/-- The ticks at the peak velocity w between its ramps. -/
def cruiseTicks (d w a dec j : Nat) : Nat :=
  (2 * tickRate * velUnit * d - w * (rampTicks w a j + rampTicks w dec j)) / (2 * max 1 w)

/-- Steps travelled t ticks after the start of the profile over d steps, rounded down, at most d (R476). -/
def profileSteps (d v a dec j t : Nat) : Nat :=
  let w := peak d v a dec j
  let ta := rampTicks w a j
  let tc := cruiseTicks d w a dec j
  let tend := ta + tc + rampTicks w dec j
  let unit := 6 * tickRate * tickRate * tickRate
  if t ≤ ta then min d (rampSteps w a j t / unit)
  else if t ≤ ta + tc then min d (w * (2 * t - ta) / (2 * tickRate * velUnit))
  else if t < tend then d - min d ((rampSteps w dec j (tend - t) + unit - 1) / unit)
  else d

/-- Velocity t ticks after the start of the same profile, in 1/65536 step/s. -/
def profileVel (d v a dec j t : Nat) : Nat :=
  let w := peak d v a dec j
  let ta := rampTicks w a j
  let tc := cruiseTicks d w a dec j
  let tend := ta + tc + rampTicks w dec j
  if t ≤ ta then rampVel w a j t else if t ≤ ta + tc then w else if t < tend then rampVel w dec j (tend - t) else 0

/-- Ticks and steps in which velocity v (1/65536 step/s) slows to rest at dec. -/
def stopTicks (v dec : Nat) : Nat := v * tickRate / (max 1 dec * velUnit)
def stopSteps (v dec : Nat) : Nat := v * v / (2 * max 1 dec * velUnit * velUnit)

/-- The velocity of the lead at press time now, in 1/65536 step/s. -/
def Move.leadVel (m : Move) (now : Nat) : Nat :=
  match m.cut with
  | none => profileVel m.lead m.v m.a m.d m.j (now - m.at_)
  | some c => c.v - min c.v (m.d * (now - c.at_) * velUnit / tickRate)

/-- Steps that the lead of a move has travelled at press time now. -/
def Move.leadSteps (m : Move) (now : Nat) : Nat :=
  match m.cut with
  | none => profileSteps m.lead m.v m.a m.d m.j (now - m.at_)
  | some c =>
    let t := now - c.at_
    if stopTicks c.v m.d ≤ t then m.lead
    else min m.lead (c.n + (2 * c.v * t * tickRate - m.d * t * t * velUnit) / (2 * tickRate * tickRate * velUnit))

/-- Steps that the move itself has travelled: the lead's, in proportion (R479, R480). -/
def Move.steps (m : Move) (now : Nat) : Nat := if m.lead = 0 then 0 else m.leadSteps now * m.dist.natAbs / m.lead

/-- Velocity of the move itself in step/s. -/
def Move.vel (m : Move) (now : Nat) : Nat := if m.lead = 0 then 0 else m.leadVel now * m.dist.natAbs / (m.lead * velUnit)

/-- n steps in the direction of a distance. -/
def along (dist : Int) (n : Nat) : Int := if dist < 0 then -(n : Int) else n

/-- The position of an axis now: that of the running move, else the stored one (4900+a:31). -/
def positionNow (s : State) (a : Nat) : Int :=
  match (axis s a).move with
  | some m => m.from_ + along m.dist (m.steps s.time)
  | none => getS s 32 (axIdx a) 0x31

/-- The velocity now, signed (4900+a:34). -/
def velocityNow (s : State) (a : Nat) : Int :=
  match (axis s a).move with
  | some m => along m.dist (m.vel s.time)
  | none => 0

/-- The remaining distance (4900+a:33). -/
def remainingNow (s : State) (a : Nat) : Int :=
  match (axis s a).move, (axis s a).stopped with
  | some m, none => m.dist - along m.dist (m.steps s.time)
  | _, some m => m.dist
  | none, none => 0

/-- The position is stored and the issued steps counted (4900+a:31, :3E; R473); a limit that the axis has moved away from is
inactive, unless it stands in conflict (R544). -/
def settlePosition (s : State) (a : Nat) (pos : Int) (steps : Nat) : State :=
  let old := getS s 32 (axIdx a) 0x31
  let t := setAxis s a fun x =>
    { x with limN := x.limN && (!decide (old < pos) || s.pins.conflicts.contains (0x1003 + 16 * a)),
             limP := x.limP && (!decide (pos < old) || s.pins.conflicts.contains (0x1004 + 16 * a)) }
  wrapBy 64 (putS t 32 (axIdx a) 0x31 pos) (axIdx a) 0x3E steps

/-! ## Groups (R479) -/

/-- The members of group g: the bytes below 16. -/
def members (s : State) (g : Nat) : List Nat :=
  ((List.range 4).map fun k => field (get s (0x4920 + g) 1) (8 * k) 8).filter fun a => decide (a < 16)

/-- The group of an axis. -/
def groupOfAxis (s : State) (a : Nat) : Option Nat := (List.range 4).find? fun g => (members s g).contains a

/-! ## Starting and ending moves -/

/-- The profile set k of an axis (R474): velocity, acceleration, deceleration, jerk. -/
def profileSet (s : State) (a k : Nat) : Nat × Nat × Nat × Nat :=
  (get s (axIdx a) (0x10 + k), get s (axIdx a) (0x14 + k), get s (axIdx a) (0x18 + k), get s (axIdx a) (0x1C + k))

/-- The distance of move record r (R475). -/
def recordDist (s : State) (a r : Nat) : Int :=
  let e := get s (axIdx a) (0x20 + r)
  let v := sInt 32 (e % 2 ^ 32)
  if e.testBit 32 then sInt 32 (sImg 32 (v - positionNow s a)) else v

/-- The profile set that move record r names (R475). -/
def recordSet (s : State) (a r : Nat) : Nat := field (get s (axIdx a) (0x20 + r)) 33 2

/-- Whether motion over a distance goes toward an active limit (R485). -/
def towardLimit (s : State) (a : Nat) (d : Int) : Bool :=
  decide (0 < d) && (axis s a).limP || decide (d < 0) && (axis s a).limN

/-- The axis comes to standstill: no move, the queue as it stands (R478, R492). -/
def toStandstill (s : State) (a : Nat) : State := setAxis s a fun x => { x with state := 1, move := none, homing := none }

/-- The ticks for which axis a issues no step before a motion over a distance (R471, R492): the settle time where EN turns active or SHORT or
IRED inactive, the setup time where DIR changes. -/
def startWait (s : State) (a : Nat) (dist : Int) : Nat :=
  let x := axis s a
  max (if !x.en || x.short || x.ired then ticksUs (get s (axIdx a) 7) else 0)
    (if x.back = decide (dist < 0) then 0 else (3 * get s (axIdx a) 6 + 1) / 2)

/-- Axis a moves from now on, but for the wait in ticks before its first step (R471, R492). -/
def runMove (s : State) (a : Nat) (m : Move) (wait : Nat) : State :=
  setAxis s a fun x =>
    { x with state := 2, move := some { m with at_ := s.time + wait }, stopped := none, en := true, short := false, ired := false,
             back := if m.dist = 0 then x.back else decide (m.dist < 0) }

/-- The motion of an axis ends before its first step, and nothing remains of an earlier one (R475, R485). -/
def noMove (s : State) (a : Nat) : State := setAxis (toStandstill s a) a fun x => { x with stopped := none }

/-- Starts a move of an axis (R475, R476, R485): a distance of 0, or one toward an active limit, ends at once. -/
def startMove (s : State) (a : Nat) (m : Move) : State :=
  if m.dist = 0 ∨ towardLimit s a m.dist then noMove s a else runMove s a m (startWait s a m.dist)

/-- Starts the moves of a group's members together (R479, R480): their first steps wait for the slowest member, and a limit toward which one
of them would move ends all of them at once (R485). -/
def startGroup (s : State) (l : List (Nat × Move)) : State :=
  if l.all (fun q => q.2.dist == 0) || l.any (fun q => towardLimit s q.1 q.2.dist) then l.foldl (fun t q => noMove t q.1) s
  else
    let wait := (l.map fun q => startWait s q.1 q.2.dist).foldl max 0
    l.foldl (fun t q => runMove t q.1 q.2 wait) s

/-- A single-axis move of record r (R475, R476). -/
def recordMove (s : State) (a r : Nat) : Move :=
  let d := recordDist s a r
  let p := profileSet s a (recordSet s a r)
  { dist := d, v := p.1, a := p.2.1, d := p.2.2.1, j := p.2.2.2, from_ := positionNow s a, at_ := s.time, lead := d.natAbs,
    set := recordSet s a r }

/-- The member of a group with the longest move of record r, the first on a tie (R479). -/
def longest (s : State) (l : List Nat) (r : Nat) : Option Nat :=
  l.foldl (fun b a => match b with
    | none => some a
    | some c => if (recordDist s c r).natAbs < (recordDist s a r).natAbs then some a else some c) none

/-- Why a group move of record r is refused (R481): 0 when it is not. -/
def groupRefusal (s : State) (g r : Nat) : Nat :=
  let l := members s g
  if l.any fun a => !(axState s a == 1 || axState s a == 4) then 0x0405
  else if l.any fun a => !homed s a then 0x0503
  else if l.any fun a => (get s (axIdx a) (0x20 + r)).testBit 32 != (get s (axIdx (l.getD 0 0)) (0x20 + r)).testBit 32 then 0x0501
  else 0

/-- Starts record r on every member of group g, scaled to the longest (R479). -/
def groupMove (s : State) (g r : Nat) : State :=
  match longest s (members s g) r with
  | none => s
  | some c =>
    let p := profileSet s c (recordSet s c r)
    let lead := (recordDist s c r).natAbs
    startGroup s ((members s g).map fun a =>
      (a, { dist := recordDist s a r, v := p.1, a := p.2.1, d := p.2.2.1, j := p.2.2.2, from_ := positionNow s a,
            at_ := s.time, lead := lead, set := recordSet s c r, group := some g }))

/-- A move dropped as an overrun: counted, FAULT (R478). -/
def moveOverrun (s : State) (a : Nat) : State :=
  let t := sat s (axIdx a) 0x37
  logEvent t clsFault 0x0C a (axIdx a) 0x37

/-- A single-axis move fires or is commanded (R478): it starts, waits in the queue, or is an overrun. True tells of the overrun. -/
def fireMove (s : State) (a r : Nat) : State × Bool :=
  let x := axis s a
  if x.state = 2 ∨ x.state = 3 ∨ x.state = 5 then
    match x.queue with
    | none => (setAxis s a fun y => { y with queue := some r }, false)
    | some _ => (moveOverrun s a, true)
  else if x.state = 1 ∨ x.state = 4 then (startMove s a (recordMove s a r), false)
  else (s, false)

/-- The end of a running move, stop included (R478, R487): position and steps stored; a stop leaves STOPPED; a move that was queued, also one that
fired after the stop, starts. -/
def endMove (s : State) (a : Nat) : State :=
  let x := axis s a
  match x.move with
  | none => s
  | some m =>
    let t := settlePosition s a (m.from_ + m.dist) m.dist.natAbs
    let t := setAxis t a fun y => { y with move := none, queue := none }
    match x.queue, x.stopped with
    | some r, _ => let t := toStandstill t a; startMove t a (recordMove t a r)
    | none, some _ => setAxis t a fun y => { y with state := 4 }
    | none, none => toStandstill t a

/-! ## Stops (R484, R487) -/

/-- Hard stop of one axis: no further step; STOPPED with the remaining distance kept, the queue cleared; HOMED lost above the
start-stop rate; a homing ends with nothing to resume. -/
def hardStop (s : State) (a : Nat) : State :=
  let x := axis s a
  match x.move with
  | none => setAxis s a fun y => { y with queue := none }
  | some m =>
    let n := m.steps s.time
    let fast := decide (get s (axIdx a) 9 < m.vel s.time)
    let t := settlePosition s a (m.from_ + along m.dist n) n
    let t := if fast then setHomed t a false else t
    let rest : Option Move := match x.stopped with
      | some r => some { r with dist := r.dist + along m.dist (m.dist.natAbs - n), lead := r.lead + (m.dist.natAbs - n) }
      | none => some { m with dist := m.dist - along m.dist n, lead := m.lead - m.leadSteps s.time, cut := none }
    setAxis t a fun y =>
      { y with state := 4, move := none, queue := none, homing := none, stopped := if x.homing.isSome then none else rest }

/-- Ramped stop of one axis (R487): at the deceleration of the running move, or at another one of its lead, it runs the stopping distance and
keeps what remains. -/
def slowStop (s : State) (a : Nat) (dec : Option Nat) : State :=
  let x := axis s a
  match x.move with
  | none => setAxis s a fun y => { y with queue := none }
  | some m =>
    if x.state ≠ 2 then setAxis s a fun y => { y with queue := none }
    else
      let d := dec.getD m.d
      let n := m.leadSteps s.time
      let v := m.leadVel s.time
      let stop := min (m.lead - n) (stopSteps v d)
      let own := if m.lead = 0 then 0 else (n + stop) * m.dist.natAbs / m.lead
      setAxis s a fun y =>
        { y with state := 3, queue := none,
                 move := some { m with dist := along m.dist own, lead := n + stop, d := d, cut := some { at_ := s.time, n := n, v := v } },
                 stopped := some { m with dist := m.dist - along m.dist own, lead := m.lead - (n + stop), cut := none } }

/-- Ramped stop at the deceleration of the running move's profile set (R487). -/
def rampedStop (s : State) (a : Nat) : State := slowStop s a none

/-- The axes that stop with axis a: its group's members while it runs a group move, else itself (R487). -/
def stopSet (s : State) (a : Nat) : List Nat :=
  match (axis s a).move with
  | some m => match m.group with
    | some g => members s g
    | none => [a]
  | none => [a]

/-- A stop of an axis or its group (R487, R489). -/
def stopAxis (s : State) (a : Nat) (hard : Bool) : State :=
  forEach (stopSet s a) (fun t b => if hard then hardStop t b else rampedStop t b) s

/-- What a resume of axis a works on (R488): the members of its group that stand STOPPED in the same group move, else itself. -/
def resumeSet (s : State) (a : Nat) : List Nat :=
  match (axis s a).stopped with
  | some m => match m.group with
    | some g => (members s g).filter fun b => axState s b == 4 && (axis s b).stopped.any fun r => r.group == some g
    | none => [a]
  | none => [a]

/-- Whether something remains of the motion of a STOPPED axis or of its group (R488). -/
def remains (s : State) (a : Nat) : Bool := axState s a == 4 && (axis s a).stopped.any fun m => m.lead != 0

/-- Why a resume is refused (R488): 0 when it is not. -/
def resumeRefusal (s : State) (a : Nat) : Nat :=
  let l := resumeSet s a
  if !remains s a then 0x0504
  else if l.any fun b => !homed s b then 0x0503
  else 0

/-- The resume (R488): the remaining distance from rest on the stopped move's profile set. -/
def resumeAxis (s : State) (a : Nat) : State :=
  startGroup s ((resumeSet s a).filterMap fun b => (axis s b).stopped.map fun m => (b, { m with from_ := getS s 32 (axIdx b) 0x31 }))

/-- The hard stop of SAFESTOP, R28 notwithstanding; deferred commands fall (R496). -/
def safestopAxis (s : State) (a : Nat) : State := setAxis (hardStop s a) a fun x => { x with deferred := none, aligning := false }

/-! ## Homing (R482, R483) -/

/-- The search direction's sign (4900+a:41). -/
def searchSign (s : State) (a : Nat) : Int := if flag s (axIdx a) 0x41 then 1 else -1

/-- A homing motion of one phase: the maximum search distance in a direction at a velocity, set 0 (R482, R483). -/
def homingMove (s : State) (a : Nat) (sign : Int) (vel : Nat) : Move :=
  let p := profileSet s a 0
  let d := get s (axIdx a) 0x44
  { dist := sign * (d : Int), v := vel, a := p.2.1, d := p.2.2.1, j := 0, from_ := getS s 32 (axIdx a) 0x31, at_ := s.time, lead := d }

/-- A homing has succeeded: HOMED, and the second serve of a limit fault passes (R484, R486). -/
def homingDone (s : State) (a : Nat) : State := servePass (setHomed s a true) .axisLimit a 0x0C (axIdx a) 0x32

/-- Ticks by which a homing phase in a direction begins later: the direction setup (R471). -/
def turnWait (s : State) (a : Nat) (sign : Int) : Nat := if (axis s a).back = decide (sign < 0) then 0 else (3 * get s (axIdx a) 6 + 1) / 2

/-- Begins homing by the method (R482); H0 sets the position at once, H4 takes IRED. -/
def startHoming (s : State) (a : Nat) : State :=
  let k := get s (axIdx a) 0x40
  if k = 0 then homingDone (putS s 32 (axIdx a) 0x31 (getS s 32 (axIdx a) 0x45)) a
  else
    let vel := if k = 4 then get s (axIdx a) 0x43 else get s (axIdx a) 0x42
    let m := homingMove s a (searchSign s a) vel
    setAxis s a fun x => { x with state := 5, homing := some .search, stopped := none, queue := none, en := true, short := false,
                                  ired := k == 4, back := decide (m.dist < 0), move := some { m with at_ := s.time + startWait s a m.dist } }

/-- Why homing is refused (R483): 0 when it is not. -/
def homingRefusal (s : State) (a : Nat) : Nat :=
  let k := get s (axIdx a) 0x40
  let limByte := if flag s (axIdx a) 0x41 then 3 else 2
  if k = 1 ∧ !hasPin s a 3 limByte then 0x0501
  else if (k = 2 ∨ k = 3) ∧ !hasPin s a 3 1 then 0x0501
  else if k = 3 ∧ !hasPin s a 2 1 then 0x0501
  else 0

/-- The axis stands where its motion has come to, the steps counted. -/
def freeze (s : State) (a : Nat) : State :=
  match (axis s a).move with
  | none => s
  | some m => setAxis (settlePosition s a (m.from_ + along m.dist (m.steps s.time)) (m.steps s.time)) a fun x => { x with move := none }

/-- The steps and ticks in which a homing axis stops at the deceleration of set 0 (R482). -/
def homingStop (s : State) (a : Nat) : Nat × Nat :=
  match (axis s a).move with
  | none => (0, 0)
  | some m => (stopSteps (m.leadVel s.time) (profileSet s a 0).2.2.1, stopTicks (m.leadVel s.time) (profileSet s a 0).2.2.1)

/-- The switch of the search is reached: stop, then move back at latch velocity (R482). The steps of the stop are issued before the way back
begins. -/
def homingBack (s : State) (a : Nat) : State :=
  let n := homingStop s a
  let t := freeze s a
  let t := settlePosition t a (getS t 32 (axIdx a) 0x31 + searchSign s a * (n.1 : Int)) n.1
  let m := homingMove t a (-(searchSign t a)) (get t (axIdx a) 0x43)
  setAxis t a fun x => { x with homing := some .back, back := decide (m.dist < 0),
                                move := some { m with at_ := s.time + n.2 + turnWait s a m.dist } }

/-- Past the inactive edge of HOME the axis of H3 goes on in the same direction, for another maximum search distance (R482, R483). -/
def homingOnward (s : State) (a : Nat) : State :=
  setAxis s a fun x => { x with homing := some .index, move := x.move.map fun m =>
    { m with dist := along m.dist (m.steps s.time + get s (axIdx a) 0x44), lead := m.steps s.time + get s (axIdx a) 0x44 } }

/-- The axis comes to rest, and a move that waited starts (R478). -/
def restAxis (s : State) (a : Nat) : State :=
  let t := setAxis (toStandstill s a) a fun x => { x with queue := none, ired := false }
  match (axis s a).queue with
  | some r => startMove t a (recordMove t a r)
  | none => t

/-- The latch edge (R482): the position becomes the offset; the axis decelerates to rest at the deceleration of set 0. -/
def homingLatched (s : State) (a : Nat) : State :=
  let n := (homingStop s a).1
  let t := homingDone (putS (freeze s a) 32 (axIdx a) 0x31 (getS s 32 (axIdx a) 0x45)) a
  match (axis s a).move with
  | none => restAxis t a
  | some m =>
    if n = 0 then restAxis t a
    else setAxis t a fun x =>
      { x with state := 2, homing := none, ired := false,
               move := some { m with dist := along m.dist n, d := (profileSet s a 0).2.2.1, from_ := getS s 32 (axIdx a) 0x45, lead := n,
                                     cut := some { at_ := s.time, n := 0, v := m.leadVel s.time } } }

/-- A homing that fails: fault code 2; after a limit fault it is the double fault (R483, R486). -/
def homingFail (s : State) (a : Nat) : State :=
  let t := setAxis (toStandstill (freeze s a) a) a fun x => { x with ired := false, queue := none }
  let t := sat (put t (axIdx a) 0x35 2) (axIdx a) 0x36
  let t := logEvent t clsFault 0x0C a (axIdx a) 0x35
  if serving t .axisLimit a then doubleFault t .axisLimit a 3 0x0C (axIdx a) 0x35 else t

/-! ## Limits and driver faults -/

/-- The stop of a limit (R485, R487): hard, or at the deceleration of set 0; the other members of a group move keep to its line
(log 156). -/
def limitStop (s : State) (a : Nat) : State :=
  if get s (axIdx a) 0x0C = 0 then stopAxis s a true
  else
    let dec := (axis s a).move.map fun m => (profileSet s a 0).2.2.1 * m.lead / max 1 m.dist.natAbs
    forEach (stopSet s a) (fun t b => slowStop t b dec) s

/-- A limit reached during a move (R485, R486): stop by the limit action, fault code 3, not HOMED, spills, second serve pending. -/
def limitFault (s : State) (a : Nat) : State :=
  let t := limitStop s a
  let t := sat (put t (axIdx a) 0x35 3) (axIdx a) 0x36
  let t := logEvent t clsFault 0x0C a (axIdx a) 0x35
  let t := setHomed (spillPath t a) a false
  serveBegin t .axisLimit a 3 0x0C (axIdx a) 0x35

/-- What a driver fault does besides its second serve (R495). -/
def driverFaultRecord (s : State) (a : Nat) : State :=
  let t := stopAxis s a true
  let t := setAxis t a fun x => { x with state := 6, en := false, homing := none, deferred := none, queue := none }
  let t := sat (put t (axIdx a) 0x35 1) (axIdx a) 0x36
  let t := logEvent t clsFault 0x0C a (axIdx a) 0x35
  setHomed (spillPath t a) a false

/-! ## Enable, standstill, DOZE -/

/-- Disables an axis: EN inactive (R472, R496). -/
def disableAxis (s : State) (a : Nat) : State :=
  setAxis (put (freeze s a) (axIdx a) 0x3C 0) a fun x =>
    { x with state := 0, move := none, queue := none, deferred := none, homing := none, stopped := none, en := false, short := false,
             ired := false, aligning := false, reenable := false }

/-- The standstill option (R492). -/
def takeStandstill (s : State) (a : Nat) : State :=
  let k := get s (axIdx a) 0x0A
  setAxis s a fun x => { x with en := k != 0, short := k == 1, ired := k == 2 }

/-- Enables an axis: standstill, in its standstill option (R472, R496). -/
def enableAxis (s : State) (a : Nat) : State :=
  takeStandstill (setAxis (put s (axIdx a) 0x3C 1) a fun x => { x with state := 1 }) a

/-- The signed distance to the nearest multiple of four full steps; the lower one on a tie (R493). -/
def alignDist (s : State) (a : Nat) : Int :=
  let p := (4 * get s (axIdx a) 8 : Nat)
  let r := getS s 32 (axIdx a) 0x31 % (p : Int)
  if 2 * r ≤ p then -r else p - r

/-- The retention option of an enabled axis before DOZE (R493). -/
def retain (s : State) (a : Nat) : State :=
  if axState s a = 0 then s
  else match get s (axIdx a) 0x0E with
    | 0 => setHomed s a false
    | 1 =>
      let d := alignDist s a
      let p := profileSet s a 0
      let t := setAxis s a fun x => { x with aligned := true, stopped := none }
      if d = 0 then t
      else
        setAxis (runMove t a { dist := d, v := get s (axIdx a) 0x43, a := p.2.2.1, d := p.2.2.1, j := 0,
                               from_ := getS s 32 (axIdx a) 0x31, at_ := s.time, lead := d.natAbs } (startWait t a d)) a
          fun x => { x with aligning := true }
    | _ => s

/-- Leaving DOZE (R494): an aligned axis whose INDEX is inactive loses HOMED. -/
def wakeAxis (s : State) (a : Nat) : State :=
  if !(axis s a).aligned then s
  else
    let t := setAxis s a fun x => { x with aligned := false }
    if !hasPin s a 2 1 || (axis s a).indexIn then t
    else logEvent (sat (setHomed t a false) (axIdx a) 0x3F) clsWarn 0x0C a (axIdx a) 0x3F

/-- Standstill without a fault of the axis for admission (R484): HOMED, enabled, not in fault. -/
def axisReady (s : State) (a : Nat) : Bool := homed s a && axState s a != 0 && axState s a != 6

end Sys2Proof.Machine
end

