-- ==== Sys2Proof/Machine/LoopOps.lean ====
section
/-! DEFINITION. The loop engine's operations: inputs and conversions, the control laws, soft-start, supervision, injection
and capture (R497 to R533). -/

namespace Sys2Proof.Machine

/-- The index of loop n and of analog input i. -/
def loopIdx (n : Nat) : Nat := 0x3900 + n
def ainIdx (i : Nat) : Nat := 0x3C00 + i

/-- The motor of a speed loop (R497): L28 to L33 M6 to M11, L34 to L39 M0 to M5. -/
def loopMotor (n : Nat) : Nat := if n < 34 then n - 22 else n - 34

/-- Whether loop n is a speed loop. -/
def isSpeedLoop (n : Nat) : Bool := decide (28 ≤ n ∧ n < 40)

/-- The station of a station HV loop (R497). -/
def loopStation (n : Nat) : Nat := n / 4

/-- Whether loop n exists: the loops of absent stations do not (R13). -/
def loopPresent (s : State) (n : Nat) : Bool :=
  if n < 24 then present s (n / 4) else if 34 ≤ n ∧ n < 40 then present s (n - 34) else decide (n < 48)

/-- The law (R513): bits [1:0] 0 none, 1 SWITCH, 2 STEP; bit 2 inverse. -/
def law (s : State) (n : Nat) : Nat := get s (loopIdx n) 1 % 4
def inverse (s : State) (n : Nat) : Bool := (get s (loopIdx n) 1).testBit 2

/-- Kind and instance of the input and of the output (3900+n:02, :03). -/
def inKind (s : State) (n : Nat) : Nat := get s (loopIdx n) 2 % 256
def inInst (s : State) (n : Nat) : Nat := field (get s (loopIdx n) 2) 8 8
def outKind (s : State) (n : Nat) : Nat := get s (loopIdx n) 3 % 256
def outInst (s : State) (n : Nat) : Nat := field (get s (loopIdx n) 3) 8 8

/-- Whether the loop reads an AIN. -/
def readsAin (s : State) (n i : Nat) : Bool := law s n != 0 && decide (inKind s n < 2) && inInst s n == i

/-- The measured value (R513): the latest conversion, or the measured speed of the motor. -/
def measured (s : State) (n : Nat) : Int :=
  if inKind s n = 2 then getS s 32 (motIdx (inInst s n)) 0x31 else (ain s (inInst s n)).x

/-- The target (R514, R515): the bank in force, or the commanded speed with its trim. -/
def targetOf (s : State) (n : Nat) : Int :=
  if isSpeedLoop n then commandedNow s (loopMotor n) + (motor s (loopMotor n)).trim
  else getS s 32 (loopIdx n) (0x18 + get s (loopIdx n) 0x20)

/-- Output limits (3900+n:07). -/
def outMin (s : State) (n : Nat) : Int := sInt 32 (get s (loopIdx n) 7 % 2 ^ 32)
def outMax (s : State) (n : Nat) : Int := sInt 32 (get s (loopIdx n) 7 / 2 ^ 32)

/-- The loop's output is off: SWITCH off, u at its initial output, y 0, the motor's demand 0. -/
def outputOff (s : State) (n : Nat) : State :=
  let t := setLoop s n fun l => { l with on := false, y := 0, saturated := false, satTime := 0, excSide := 0, excCount := 0, excInside := true }
  if isSpeedLoop n then setMotor t (loopMotor n) fun m => { m with demand := 0 } else t

/-- The loop goes off (R533). -/
def loopOffNow (s : State) (n : Nat) : State := setLoop (outputOff s n) n fun l => { l with state := 0, recorded := none, broken := false }

/-- Soft-start (R516): sp at the measured x, u at the initial output. -/
def softStart (s : State) (n : Nat) : State :=
  if law s n = 0 then s
  else setLoop (outputOff s n) n fun l =>
    { l with state := 1, sp := measured s n, spFrac := 0, u := getS s 32 (loopIdx n) 0x11, broken := false, recorded := none }

/-- The loop has reached the running state: a restart under response 1 was transient (R528). -/
def loopRunning (s : State) (n : Nat) : State :=
  let t := setLoop s n fun l => { l with state := 2 }
  servePass t .loop n 0x0D (loopIdx n) 0x36

/-- One evaluation's move of sp toward the target (R514, R516, R517). -/
def moveSp (s : State) (n : Nat) : State :=
  let l := loop s n
  let tgt := targetOf s n
  let rate := get s (loopIdx n) 8
  let per := get s (loopIdx n) 4
  let total := rate * per + l.spFrac
  let stp : Int := (total / 1000 : Nat)
  let sp := if rate = 0 then tgt else if l.sp < tgt then min tgt (l.sp + stp) else max tgt (l.sp - stp)
  let t := setLoop s n fun x => { x with sp := sp, spFrac := if sp = tgt then 0 else total % 1000 }
  if sp = tgt ∧ l.state = 1 then loopRunning t n else t

/-- The injection generator's signal at this evaluation (R530). -/
def injection (s : State) : Int :=
  let amp := getS s 32 0x7000 4
  match get s 0x7000 3 with
  | 1 => amp
  | 2 => if s.diag.injHigh then amp else -amp
  | 3 => if s.diag.lfsr % 2 = 1 then amp else -amp
  | _ => 0

/-- The next state of the register x^15 + x^14 + 1 (R530). -/
def lfsrNext (r : Nat) : Nat := (r * 2 + (bitOf r 14 + bitOf r 13) % 2) % 2 ^ 15

/-- The injection generator advances by one evaluation of its loop. -/
def injectionTick (s : State) : State :=
  let c := s.diag.injCount + 1
  if c < get s 0x7000 5 then { s with diag := { s.diag with injCount := c } }
  else { s with diag := { s.diag with injCount := 0, injHigh := !s.diag.injHigh, lfsr := lfsrNext s.diag.lfsr } }

/-- Whether the injection runs on loop n at a point. -/
def injects (s : State) (n p : Nat) : Bool := s.diag.injecting && get s 0x7000 1 == n && get s 0x7000 2 == p

/-- Feed-forward of a STEP output (R519). -/
def feedForward (s : State) (n : Nat) (u : Int) : Int :=
  let f := get s (loopIdx n) 9
  match f % 256 with
  | 1 => u * (get s 0x4810 4 : Int) / max 1 (busMv s : Int)
  | 2 => u + sInt 16 (f / 65536) * accelNow s (loopMotor n) / 256
  | _ => u

/-- The demand of a law (R513): 1 up, -1 down, 0 hold. -/
def lawDemand (s : State) (n : Nat) (x sp : Int) : Int :=
  let band := get s (loopIdx n) 5
  let d : Int := if x < sp - (band % 65536 : Nat) then 1 else if sp + (band / 65536 : Nat) < x then -1 else 0
  if inverse s n then -d else d

/-- The output goes where the loop's output leads (R521): an image word, or the motor's current demand. -/
def sendOutput (s : State) (n : Nat) : State :=
  let y := (loop s n).y
  if isSpeedLoop n then setMotor s (loopMotor n) fun m => { m with demand := y }
  else if outKind s n = 3 then put s 0x1280 (outInst s n + 1) (sImg 64 y)
  else s

/-- Law and output of one evaluation (R513). -/
def runLaw (s : State) (n : Nat) (x : Int) : State × Int :=
  let sp := (loop s n).sp + if injects s n 0 then injection s else 0
  let d := lawDemand s n x sp
  let stp : Int := get s (loopIdx n) 6
  let t := setLoop s n fun l =>
    { l with on := if d = 1 then true else if d = -1 then false else l.on,
             u := if law s n = 2 then clamp (outMin s n) (outMax s n) (l.u + d * stp) else l.u }
  (t, d)

/-- y from the state of the law (R513, R519, R530). -/
def output (s : State) (n : Nat) : State :=
  let l := loop s n
  let u := l.u + if injects s n 1 then injection s else 0
  let y := if law s n = 1 then (if l.on then 1 else 0) else clamp (outMin s n) (outMax s n) (feedForward s n u)
  sendOutput (setLoop s n fun k => { k with y := y }) n

/-- What an HVD pin carries (R498, R520, R529): the period of its carrier and the time it is high, in periods of CD16 of 3.33 ns; low where its loop
has no law, is off or stands under an open ILOCK_N. -/
structure Carrier where
  period : Nat
  high : Nat
deriving DecidableEq, Repr

/-- The carrier of the HVD output of loop n (R519, R520): the duty is y / 65,536, or with a SWITCH law bits [31:16] while y is 1, there scaled by the
bus voltage under feed-forward 1. -/
def loopCarrier (s : State) (n : Nat) : Carrier :=
  let c := get s (loopIdx n) 0x0A
  let period := roundDiv 300000 (max 1 (c % 65536))
  let y := (loop s n).y
  let scaled : Int := (c / 65536 : Nat) * (if get s (loopIdx n) 9 % 256 = 1 then (get s 0x4810 4 : Int) else 1) /
    (if get s (loopIdx n) 9 % 256 = 1 then max 1 (busMv s : Int) else 1)
  let duty : Int := if s.pins.ilockOpen ∨ law s n = 0 ∨ y = 0 then 0 else if law s n = 1 then scaled else y
  { period := period, high := roundDiv (period * (clamp 0 65536 duty).toNat) 65536 }

/-- The carrier on HVD pin h (R497): loops L0 to L25 drive the HVD of their own number, a general loop the one that its output names. -/
def hvdPin (s : State) (h : Nat) : Option Carrier :=
  if h < 26 then some (loopCarrier s h)
  else ((List.range 8).map (· + 40)).find? (fun n => law s n != 0 && outKind s n == 1 && outInst s n == h) |>.map (loopCarrier s)

/-- Whether the loop pushes against a limit after demand d (R524). -/
def pushes (s : State) (n : Nat) (d : Int) : Bool :=
  let l := loop s n
  if law s n = 1 then d != 0
  else d == 1 && l.u == outMax s n || d == -1 && l.u == outMin s n || isSpeedLoop n && flag s (motIdx (loopMotor n)) 0x35

/-- The saturation timer (R524); true at the evaluation in which it reaches 3900+n:0B. -/
def saturation (s : State) (n : Nat) (d : Int) : State × Bool :=
  let l := loop s n
  let p := pushes s n d
  let tm := if p && l.saturated then l.satTime + get s (loopIdx n) 4 else 0
  let lim := get s (loopIdx n) 0x0B
  (setLoop s n fun k => { k with saturated := p, satTime := tm }, p && lim != 0 && decide (1000 * lim ≤ tm) && !(l.saturated && decide (1000 * lim ≤ l.satTime)))

/-- The oscillation detector (R525); true at the excursion with which its count reaches 3900+n:0D. Times are evaluations of the loop. -/
def oscillation (s : State) (n : Nat) (x : Int) : State × Bool :=
  let l := loop s n
  let band := get s (loopIdx n) 5
  let mar : Int := get s (loopIdx n) 0x0C
  let side : Int := if l.sp + (band / 65536 : Nat) + mar < x then 1 else if x < l.sp - (band % 65536 : Nat) - mar then -1 else 0
  if side = 0 then (setLoop s n fun k => { k with excInside := true }, false)
  else if !l.excInside && l.excSide == side then (s, false)
  else
    let near := decide ((l.evals - l.excAt) * get s (loopIdx n) 4 ≤ 1000 * get s (loopIdx n) 0x0E)
    let c := if l.excSide ≠ 0 ∧ l.excSide ≠ side ∧ near then l.excCount + 1 else 0
    let lim := get s (loopIdx n) 0x0D
    (setLoop s n fun k => { k with excSide := side, excAt := l.evals, excCount := c, excInside := false }, lim != 0 && c == lim)

/-- A loop fault is recorded: code and count (3900+n:36, :37). -/
def loopFault (s : State) (n code : Nat) : State := sat (put s (loopIdx n) 0x36 code) (loopIdx n) 0x37

/-- The spills of response 1 (R527). -/
def loopSpills (s : State) (n : Nat) : State :=
  if n < 24 then spillWhere s (fun sh => sh.fired.testBit (loopStation n) && !sh.imaged.testBit (loopStation n)) (some (loopStation n))
  else if n < 28 then spillWhere s (fun _ => true) none
  else if isSpeedLoop n then
    let m := loopMotor n
    let t := if m < 6 then spillWhere s (fun sh => sh.fired.testBit m && !sh.imaged.testBit m) (some m) else s
    spillPath t (16 + m)
  else s

/-- Whether the fault repeats within 10 s of the restart's running state (R528). -/
def loopRepeats (s : State) (n code : Nat) : Bool :=
  (serving s .loop n || servedWithin s .loop n (ticksS 10)) && (match serveOf s .loop n with
    | some r => r.code == code
    | none => false)

/-- Faults 1 and 2 by the fault response (R527, R528): the state, and the SAFESTOP cause that they ask for. -/
def loopRespond (s : State) (n code : Nat) : State × Option Nat :=
  let s := loopFault s n code
  match get s (loopIdx n) 0x0F with
  | 0 => (noticeAlone s (loopIdx n) 0x36 clsNotice, none)
  | 1 =>
    if isSpeedLoop n then (loopSpills (log s clsFault 1 0x0D n (loopIdx n) 0x36 none code) n, none)
    else if loopRepeats s n code then
      let t := doubleFault (setLoop (outputOff s n) n fun l => { l with state := 4 }) .loop n code 0x0D (loopIdx n) 0x36
      (t, if n < 28 then some 7 else none)
    else
      let t := log s clsFault 1 0x0D n (loopIdx n) 0x36 none code
      let t := loopSpills (setLoop (outputOff t n) n fun l => { l with state := 3 }) n
      (serveBegin t .loop n code 0x0D (loopIdx n) 0x36, none)
  | _ => (log s clsFault 1 0x0D n (loopIdx n) 0x36 none code, some 0x0C)

/-- One sample of the capture (R531): x and y; pre-trigger samples are kept, samples after the trigger counted down. -/
def captureSample (s : State) (n : Nat) (x y : Int) : State :=
  let g := s.diag
  if get s 0x7000 0x10 ≠ n ∨ g.capState = 0 ∨ g.capState = 3 then s
  else if g.skip + 1 < get s 0x7000 0x11 then { s with diag := { g with skip := g.skip + 1 } }
  else if g.capState = 1 then { s with diag := { g with skip := 0, samples := ((x, y) :: g.samples).take (get s 0x7000 0x12) } }
  else
    { s with diag := { g with skip := 0, samples := (x, y) :: g.samples, left := g.left - 1, capState := if g.left ≤ 1 then 3 else 2 } }

/-- A trigger of the capture on loop n (R531, R532). -/
def captureTrigger (s : State) (n : Nat) : State :=
  if s.diag.capState = 1 ∧ get s 0x7000 0x10 = n then
    put { s with diag := { s.diag with capState := 2, left := 4096 - get s 0x7000 0x12 } } 0x7000 0x17 (pressTime s)
  else s

/-- A broken input found at an evaluation (R511): output off, fault 3, WARN. -/
def loopBroken (s : State) (n : Nat) : State :=
  if (loop s n).broken then s
  else log (loopFault (setLoop (outputOff s n) n fun l => { l with broken := true }) n 3) clsWarn 1 0x0D n (loopIdx n) 0x36 none 3

/-- A speed loop follows its motor (R533): on while the motor turns under the loop, else off. -/
def followMotor (s : State) (n : Nat) : State :=
  let st := motorState s (loopMotor n)
  if st = 3 ∨ st = 4 ∨ st = 5 then (if (loop s n).state = 0 then softStart s n else s)
  else if (loop s n).state = 0 then s else loopOffNow s n

/-- The counts of one evaluation (3900+n:38, 3930:02). -/
def countEval (s : State) (n : Nat) : State :=
  setLoop (wrapBy 64 (wrapBy 64 s (loopIdx n) 0x38 1) 0x3930 2 1) n fun l => { l with evals := l.evals + 1 }

/-- The supervisors of one evaluation (R524, R525, R526): state and SAFESTOP cause asked for. -/
def supervise (s : State) (n : Nat) (x d : Int) : State × Option Nat :=
  let a := saturation s n d
  let b := oscillation a.1 n x
  let r := if a.2 then loopRespond b.1 n 1 else (b.1, none)
  let q := if b.2 then loopRespond r.1 n 2 else r
  (q.1, match q.2 with
    | some c => some c
    | none => r.2)

/-- One evaluation of a loop that is in soft-start or running (R513); x is its input. -/
def evalRunning (s : State) (n : Nat) (x : Int) : State × Option Nat :=
  if decide (inKind s n < 2) && (ain s (inInst s n)).broken then (loopBroken s n, none)
  else if decide (inKind s n < 2) && (ain s (inInst s n)).settle then
    (output (setLoop (satBy 32 s (loopIdx n) 0x39 1) n fun l => { l with settled := true }) n, none)
  else if getS s 32 (loopIdx n) 0x12 < x then
    (log (loopFault (loopOffNow s n) n 4) clsFault 1 0x0D n (loopIdx n) 0x36 none 4, some 0x0C)
  else
    let t := moveSp (setLoop s n fun l => { l with settled := false }) n
    let r := runLaw t n x
    let u := output r.1 n
    let u := if injects u n 0 || injects u n 1 then injectionTick u else u
    supervise u n x r.2

/-- One evaluation of loop n (R500, R513): the state, and the SAFESTOP cause that it asks for. -/
def evalLoop (s : State) (n : Nat) : State × Option Nat :=
  if law s n = 0 then (s, none)
  else
    let s := countEval (if isSpeedLoop n then followMotor s n else s) n
    let x := measured s n
    let s := setLoop s n fun l => { l with x := x }
    let r := if (loop s n).state = 1 ∨ (loop s n).state = 2 then evalRunning s n x else (s, none)
    (captureSample r.1 n x (loop r.1 n).y, r.2)

/-- A loop-off by HV action, command or mode (R533). -/
def loopCommandOff (s : State) (n : Nat) : State :=
  if (loop s n).state = 3 then setLoop s n fun l => { l with recorded := some false } else loopOffNow s n

/-- A loop-on by HV action or command (R516, R517): in the restart pause it is recorded; a loop on runs on. -/
def loopCommandOn (s : State) (n : Nat) : State :=
  match (loop s n).state with
  | 3 => setLoop s n fun l => { l with recorded := some true }
  | 1 => s
  | 2 => s
  | _ => softStart s n

/-- The end of the restart pause (R517, R528): soft-start, unless a recorded command turned the loop off. -/
def loopRestartNow (s : State) (n : Nat) : State :=
  if (loop s n).recorded = some false then serveDrop (loopOffNow s n) .loop n else softStart s n

/-- Selects a set-point bank (R514, R517). -/
def selectBank (s : State) (n b : Nat) : State := put s (loopIdx n) 0x20 b

/-- SAFESTOP entry: the loop goes off, and a pending restart is cancelled (R533, R557). -/
def safestopLoop (s : State) (n : Nat) : State :=
  let held := (loop s n).state == 4
  let t := serveCancel s .loop n 0x0D (loopIdx n) 0x36
  let t := loopOffNow t n
  if held then setLoop t n fun l => { l with state := 4 } else t

/-! ## Conversions (R503 to R512) -/

/-- Whether AIN i converts at gain ×10 (R505). -/
def gain10 (s : State) (i : Nat) : Bool :=
  match get s (ainIdx i) 3 with
  | 1 => false
  | 2 => true
  | _ => (ain s i).gain10

/-- A code in tenths of 1/65,536 of the ×1 full scale (R503). -/
def tenths (g : Bool) (c : Nat) : Nat := if g then 16 * c else 160 * c

/-- Whether a thermistor conversion is BROKEN (R508, R509): samples in tenths of a unit, pull-up in Ω, VREF_ADC 1.250 V. -/
def brokenPair (g : Bool) (rp v1 v2 : Nat) : Bool :=
  let dv : Int := ((v2 : Int) - v1) * 1000000
  let e := 4 * rp * v1
  decide (97 * 655360 < 100 * v1) || decide (1000 * v1 < 5 * 655360) ||
    decide (e + 16000000 * tenths g 1 < 4 * (dv - e).natAbs)

/-- Points 1 to 63 of ROM table 0 in 0.1 °C (R510): an NTC of 100 kΩ at 25 °C with B = 3,950 K behind 33 kΩ has 33,000 · j / (64 − j) Ω at V1 / F = j / 64,
and with it the temperature 1 / (1 / 298.15 + ln (R / 100,000) / 3,950) − 273.15 °C. DEDUCED: to the nearest 0.1 °C (log 158). -/
def romCurve : List Int :=
  [2208, 1806, 1596, 1457, 1353, 1270, 1202, 1143, 1092, 1047, 1006, 969, 935, 903, 874, 846, 820, 795, 771, 748, 726] ++
  [705, 685, 665, 646, 627, 609, 591, 573, 556, 539, 522, 506, 489, 473, 456, 440, 424, 407, 391, 374, 358] ++
  [341, 324, 307, 289, 271, 252, 233, 213, 193, 172, 149, 125, 100, 73, 43, 10, -27, -71, -125, -195, -306]

/-- Point j of ROM table k (R510): tables 1 to 7 are all zeros. -/
def romPoint (k j : Nat) : Int :=
  if k ≠ 0 then 0 else if j = 0 ∨ 64 ≤ j then Config.romTherm j else romCurve.getD (j - 1) 0

/-- Entry j of linearisation table k in 0.1 °C (R510); the ROM tables under the patch records in use (R94, R124 table 0x03). -/
def thermPoint (s : State) (k j : Nat) : Int :=
  let b := getBlob s (0x3C48 + k) 1
  if b.isEmpty then sInt 16 (patchedNum s 3 (2 ^ 24 + 65 * k + j) (sImg 16 (romPoint k j))) else sInt 16 (leAt b (2 * j) 2)

/-- Temperature by linear interpolation at V1 / F (R510), to the nearest 0.1 °C. -/
def thermValue (s : State) (k v1 : Nat) : Int :=
  let j := v1 / 10240
  let a := thermPoint s k j
  let b := thermPoint s k (j + 1)
  a + roundDivI ((b - a) * (v1 % 10240 : Nat)) 10240

/-- The range decision after a conversion whose first sample is v tenths (R505, R506): gain, count of low ones, switched. -/
def rangeNext (s : State) (i : Nat) (v : Nat) : Ain → Ain := fun a =>
  if get s (ainIdx i) 3 ≠ 0 then { a with low := 0 }
  else if a.gain10 then (if 58982 < v then { a with gain10 := false, discard := true, low := 0 } else { a with low := 0 })
  else if v < 52429 then
    (if 15 ≤ a.low then { a with gain10 := true, discard := true, low := 0 } else { a with low := a.low + 1 })
  else { a with low := 0 }

/-- A conversion that is not BROKEN (R503, R506): x, or SETTLE for the first one after a switch. -/
def goodConversion (s : State) (i v1 : Nat) : State :=
  let g := gain10 s i
  let v := tenths g v1
  let x : Int := if get s (ainIdx i) 1 = 2 then thermValue s (get s (ainIdx i) 5) v else (roundDiv v 10 : Nat)
  let a := ain s i
  let t := setAin s i fun a => rangeNext s i v { a with raw := v1, broken := false, settle := a.discard, discard := false,
                                                        x := if a.discard then a.x else x }
  let t := if (ain t i).gain10 != a.gain10 then bump t (ainIdx i) 9 else t
  if a.discard then t else putS t 32 (ainIdx i) 7 x

/-- A BROKEN conversion (R509, R507): the range stays. -/
def brokenConversion (s : State) (i v1 : Nat) : State :=
  sat (setAin s i fun a => { a with raw := v1, broken := true, settle := false, discard := false }) (ainIdx i) 0x0A

/-- The loops that read an AIN. -/
def loopsOf (s : State) (i : Nat) : List Nat := (List.range 48).filter fun n => readsAin s n i

/-- The instance number of a persisting cause by mechanism (R563). -/
def causeInst (m : Mech) (inst : Nat) : Nat := m.code * 4096 + inst

end Sys2Proof.Machine
end

