-- ==== Sys2Proof/Machine/LinkOps.lean ====
section
/-! DEFINITION. The beam links' operations: link time, control blocks, light windows, sideband SPI, bring-up, laser enable
(R372 to R405). -/

namespace Sys2Proof.Machine

/-- The link and link-count indices of station n. -/
def linkIdx (n : Nat) : Nat := 0x3014 + 0x20 * n
def linkCnt (n : Nat) : Nat := 0x3015 + 0x20 * n

/-- The link state (3014+20h·n:01): 0 off, 1 configuring, 2 training, 3 UP, 4 FAILED. -/
def linkState (s : State) (n : Nat) : Nat := get s (linkIdx n) 1

/-- Whether the lanes of station n run (R374, R392): from step 1 of a bring-up on, while the lane clock does. -/
def lanesRun (s : State) (n : Nat) : Bool := s.clk.gateOpen && decide (1 ≤ linkState s n ∧ linkState s n ≤ 3)

/-- Multiframes sent since the lanes started: 25 blocks of 66 bits at 6.25 Gbaud last 264 ns, 396 ticks (R373, R374). -/
def linkFrames (s : State) (n : Nat) : Nat := if lanesRun s n then (s.time - (station s n).frameFrom) / 396 else 0

/-- The lanes stop, or start afresh: what they have sent is counted (3015+20h·n:05), what waits is dropped. -/
def restLanes (s : State) (n : Nat) : State :=
  setStation (wrapBy 64 s (linkCnt n) 5 (linkFrames s n)) n fun x => { x with frameFrom := s.time, queue := [], lights := [] }

/-- A link takes a state; lanes that run go on. -/
def setLinkState (s : State) (n v : Nat) : State :=
  if lanesRun s n && decide (1 ≤ v ∧ v ≤ 3) then put s (linkIdx n) 1 v else put (restLanes s n) (linkIdx n) 1 v

/-- Modes that permit lasers; SERVICE while a service command is active (R404). -/
def modeLight (s : State) (n : Nat) : Bool :=
  match s.md.mode with
  | .warmup => true | .ready => true | .rally => true | .runout => true | .calibrate => true
  | .service => (station s n).svcBd || decide (s.time < (station s n).svcUntil)
  | _ => false

/-- The level of LDn_EN (R395): mode, link UP, gate open, ILOCK_N closed, no hard fault; low while the umpire holds outputs (R560). -/
def ldEn (s : State) (n : Nat) : Bool :=
  present s n && modeLight s n && linkState s n == 3 && s.clk.gateOpen && !s.pins.ilockOpen && !(station s n).hardFault &&
    !s.kick.umpireRestart

/-- Whether the tracker of station n has light (R371, R404): lasers on, and in SERVICE only while BD windows are commanded. -/
def bdLit (s : State) (n : Nat) : Bool :=
  ldEn s n && (s.md.mode != .service || (station s n).svcBd)

/-! ## Link time (R376) and control blocks (R378) -/

/-- A time in phases of press time as taps of link time, to the nearest tap of the running timebase (R15, R376). -/
def linkTaps (s : State) (n t : Nat) : Nat := Config.linkOrigin n + roundDiv (t * get s 0x2200 1) 1500000

/-- Link time in cycles, modulo 2^24, and the tap, of a time in phases. -/
def linkCycle (s : State) (n t : Nat) : Nat := linkTaps s n t / 64 % 2 ^ 24
def linkTap (s : State) (n t : Nat) : Nat := linkTaps s n t % 64

/-- LINE START of a beam on a facet at a time in phases (R378). -/
def lineStart (s : State) (n beam facet t seq : Nat) : List Byte :=
  leBytes 1 0xD1 ++ leBytes 1 (beam % 16 + 16 * (facet % 16)) ++ leBytes 3 (linkCycle s n t) ++ leBytes 1 (linkTap s n t) ++ leBytes 2 seq

/-- LINE END of a beam (R378); 32,768 words are coded 0. -/
def lineEnd (beam facet seq words : Nat) (blank : Bool) : List Byte :=
  leBytes 1 0xD2 ++ leBytes 1 (beam % 16 + 16 * (facet % 16)) ++ leBytes 2 seq ++ leBytes 2 (words % 32768) ++
    leBytes 1 (ofBool blank) ++ leBytes 1 0

/-- LIGHT of a beam (R378): kind 0 APC, 1 BD, 2 service; duration in forwarded-clock cycles. -/
def lightBlock (s : State) (n beam kind t cycles : Nat) : List Byte :=
  leBytes 1 0xD3 ++ leBytes 1 (beam % 16 + 16 * (kind % 4)) ++ leBytes 3 (linkCycle s n t) ++ leBytes 1 (linkTap s n t) ++ leBytes 2 cycles

/-- The LIGHT blocks of a window of c cycles from time t, split at 65,535 cycles (R384); at most f blocks. -/
def lightBlocks (s : State) (n beam kind : Nat) : Nat → Nat → Nat → List (List Byte)
  | 0, _, _ => []
  | f + 1, t, c =>
    if c = 0 then []
    else if c ≤ 65535 then [lightBlock s n beam kind t c]
    else lightBlock s n beam kind t 65535 ::
      lightBlocks s n beam kind f (t + roundDiv (65535 * 64 * 1500000) (max 1 (get s 0x2200 1))) (c - 65535)

/-- Forwarded-clock cycles of a duration in phases, to the nearest cycle (TBASE / 4, R372). -/
def phaseCycles (s : State) (d : Nat) : Nat := roundDiv (d * get s 0x2200 1) (1500000 * 64)

/-- Blocks go to the lanes of a station that run, behind those that wait (R374). -/
def queueBlocks (s : State) (n : Nat) (l : List LinkBlock) : State :=
  if lanesRun s n then setStation s n fun x => { x with queue := x.queue ++ l } else s

/-- Control blocks are handed to a station's link in order. -/
def sendControl (s : State) (n : Nat) (l : List (List Byte)) : State :=
  queueBlocks (emitAll s (l.map fun b => .block n b)) n (l.map fun b => { control := true, bytes := b })

/-- Sends a light window (R384): start and duration in phases. While a scan is under way its LIGHT blocks wait for the LINE END blocks (R381). -/
def sendLight (s : State) (n beam kind t d : Nat) : State :=
  let l := lightBlocks s n beam kind 64 t (phaseCycles s d)
  if (station s n).scan.isSome then setStation s n fun x => { x with lights := x.lights ++ l } else sendControl s n l

/-- The LIGHT blocks that have waited for the end of a scan go out. -/
def releaseLights (s : State) (n : Nat) : State := sendControl (setStation s n fun x => { x with lights := [] }) n (station s n).lights

/-! ## Lanes (R373 to R375, R380) -/

/-- The 64 payload bits of a block through the scrambler x^58 + x^39 + 1 (R373), least significant bit first: the low n bits of `v`, the register
(its newest bit lowest), the bits sent so far as a number and their count; what is sent and the register after it. -/
def scramble : Nat → Nat → Nat → Nat → Nat → Nat × Nat
  | 0, _, reg, out, _ => (out, reg)
  | n + 1, v, reg, out, k =>
    let bit := (ofBool (v.testBit 0) + ofBool (reg.testBit 38) + ofBool (reg.testBit 57)) % 2
    scramble n (v / 2) ((2 * reg + bit) % 2 ^ 58) (out + bit * 2 ^ k) (k + 1)

/-- A block as it leaves a lane (R373): 01 before a data block, 10 before a control block, and the scrambled payload; the register after it. -/
def laneBlock (reg : Nat) (b : LinkBlock) : (Nat × List Byte) × Nat :=
  let r := scramble 64 (leAt b.bytes 0 8) reg 0 0
  ((if b.control then 2 else 1, leBytes 8 r.1), r.2)

/-- Blocks in order through one lane. -/
def laneBlocks : Nat → List LinkBlock → List (Nat × List Byte) × Nat
  | reg, [] => ([], reg)
  | reg, b :: l =>
    let p := laneBlock reg b
    let r := laneBlocks p.2 l
    (p.1 :: r.1, r.2)

/-- The IDLE, ALIGN and CRC blocks (R375, R378). The CRC is taken over one byte for the kind and the 8 unscrambled bytes of each payload block. -/
def idleBlock : LinkBlock := { control := true, bytes := 0x1E :: List.replicate 7 0 }
def alignBlock (lane count cycle : Nat) : LinkBlock :=
  { control := true, bytes := leBytes 1 0xA1 ++ leBytes 1 lane ++ leBytes 2 count ++ leBytes 3 cycle ++ leBytes 1 0 }
def crcBlock (l : List LinkBlock) : LinkBlock :=
  { control := true,
    bytes := leBytes 1 0xA2 ++ leBytes 4 (crc32 (l.flatMap fun b => leBytes 1 (ofBool b.control) ++ b.bytes)) ++ leBytes 3 0 }

/-- The 25 blocks of a lane in a multiframe (R374): ALIGN, 23 payload slots, CRC. Slots are used by position, and within it by lane. -/
def laneFrame (slots : List LinkBlock) (lane count cycle : Nat) : List LinkBlock :=
  let pay := (List.range 23).map fun p => slots.getD (4 * p + lane) idleBlock
  alignBlock lane count cycle :: pay ++ [crcBlock pay]

/-- The multiframe that ends now goes out on the four lanes (R374, R376): waiting blocks in its next free payload slots, in their order (log 154),
each lane through its own scrambler, whose register starts at 0 (DESIGN CHOICE, log 153). -/
def sendMultiframe (s : State) (n : Nat) : State :=
  let x := station s n
  let count := get s (linkCnt n) 5 + linkFrames s n - 1
  let lanes := (List.range 4).map fun k =>
    laneBlocks (x.scramblers.getD k 0) (laneFrame (x.queue.take 92) k count (linkCycle s n (16 * (s.time - 396))))
  setStation (emitAll s ((List.range 4).map fun k => .lane n k (lanes.getD k ([], 0)).1)) n fun y =>
    { y with queue := y.queue.drop 92, scramblers := lanes.map (·.2) }

/-- Every lane that ends a multiframe at this tick sends it. -/
def linkTick (s : State) : State :=
  forEach (stationsPresent s) (fun t n =>
    if lanesRun t n && decide (0 < linkFrames t n) && (t.time - (station t n).frameFrom) % 396 == 0 then sendMultiframe t n else t) s

/-- 7-bit pulse words, least significant bit first, as bytes (R380): the words, the bits that wait and their count. -/
def packWords : List Nat → Nat → Nat → List Byte
  | [], acc, k => if k = 0 then [] else [BitVec.ofNat 8 acc]
  | w :: l, acc, k =>
    let a := acc + w % 128 * 2 ^ k
    if k + 7 < 8 then packWords l a (k + 7) else BitVec.ofNat 8 a :: packWords l (a / 256) (k - 1)

/-- Bytes in data blocks of 8, the last one padded with zeros; at most f. -/
def dataBlocks : Nat → List Byte → List LinkBlock
  | 0, _ => []
  | _ + 1, [] => []
  | f + 1, d => { control := false, bytes := d.take 8 ++ List.replicate (8 - (d.take 8).length) 0 } :: dataBlocks f (d.drop 8)

/-- The pixel stream of a scan is handed to the link in fresh data blocks (R380). -/
def sendPixels (s : State) (n seq : Nat) (words : List Nat) : State :=
  let d := packWords words 0 0
  queueBlocks (emit s (.pixels n seq words)) n (dataBlocks d.length d)

/-! ## Sideband SPI (R388, R389) -/

/-- A read frame and a write frame of LSPI (R388). -/
def lspiRead (addr : Nat) : Nat := 2 ^ 31 + addr * 2 ^ 24
def lspiWrite (addr v : Nat) : Nat := addr * 2 ^ 24 + v % 65536

/-- The pixel period register: round(pixel period × 256 / tap), the tap 1/16 of the timebase period (R390). -/
def pixelReg (s : State) (n : Nat) : Nat := roundDiv (pixelPeriod s n * 256 * 16 * get s 0x2200 1) 1000000000

/-- The values of registers 0x03 to 0x06 for the applied geometry (R389, R390). -/
def geoRegs (s : State) (n : Nat) : List Nat :=
  [beams s n, pixelsPerLine s n % 32768, pixelReg s n % 65536, pixelReg s n / 65536 % 8]

/-- The frames that write registers 0x03 to 0x06 and read them back (R390, R392). -/
def geoFrames (s : State) (n : Nat) : List Nat :=
  (List.range 4).map (fun k => lspiWrite (3 + k) ((geoRegs s n).getD k 0)) ++ (List.range 4).map fun k => lspiRead (3 + k)

/-- Sends LSPI frames to a station's driver. -/
def sendLspi (s : State) (n : Nat) (l : List Nat) : State := emitAll s (l.map fun f => .lspi n f)

/-! ## Bring-up (R391 to R393) -/

/-- A bring-up starts (R392 step 1): LDn_EN low, state 1, the frames of step 2 sent. -/
def linkBegin (s : State) (n : Nat) (rep serve : Bool) : State :=
  let t := setLinkState s n 1
  let t := sat t (linkCnt n) 3
  let t := setStation t n fun x => { x with linkStep := 2, linkRepeat := rep, linkServe := serve }
  sendLspi t n ([lspiRead 0, lspiWrite 8 0x5A3C, lspiRead 8] ++ geoFrames t n ++ [lspiWrite 2 1])

/-- Brings a link up on an occasion of R391; it waits for the gate, and a running bring-up goes on. -/
def linkUp (s : State) (n : Nat) (serve : Bool) : State :=
  if !present s n then s
  else if !s.clk.gateOpen then setStation s n fun x => { x with linkServe := x.linkServe || serve }
  else if linkState s n = 1 ∨ linkState s n = 2 then s
  else linkBegin (setStation s n fun x => { x with hardFault := x.hardFault && serve }) n false serve

/-- The link off: lanes idle, forwarded clock stopped (R404). -/
def linkOff (s : State) (n : Nat) : State :=
  setStation (setLinkState s n 0) n fun x => { x with linkStep := 0, linkRepeat := false, linkServe := false, hardFault := false, softTimes := [],
                                                      svcBd := false, svcUntil := 0, svcHeld := [], regsDue := false }

/-- A bring-up fails at its step (R393): repeated once, then FAILED with FAULT; true when it was the second serve of a hard fault. -/
def linkFail (s : State) (n : Nat) : State × Bool :=
  let x := station s n
  let t := sat s (linkCnt n) 4
  if !x.linkRepeat then (linkBegin (serveBegin t .linkBringUp n 0 9 (linkIdx n) 8) n true x.linkServe, false)
  else
    let t := put (setLinkState t n 4) (linkIdx n) 8 x.linkStep
    let t := log t clsFault 1 9 n (linkIdx n) 8 none x.linkStep
    let t := doubleFault t .linkBringUp n 0 9 (linkIdx n) 8
    let t := setStation t n fun y => { y with linkStep := 0, linkServe := false }
    if x.linkServe then (doubleFault t .link n 0 9 (linkIdx n) 4, true) else (t, false)

/-- The link is UP (R392 step 5): second serves pass. -/
def linkIsUp (s : State) (n : Nat) : State :=
  let t := setStation (setLinkState s n 3) n fun x => { x with linkStep := 0, hardFault := false, softTimes := [], linkServe := false, regsDue := false }
  let t := servePass t .linkBringUp n 9 (linkIdx n) 8
  let t := servePass t .link n 9 (linkIdx n) 4
  causeEnd t 7 (causeInst .link n)

/-- A bring-up step's transfer comes back (R392): step 2 with ID, Scratch and registers 0x03 to 0x06; steps 3 and 4 with Status. -/
def linkStepDone (s : State) (n : Nat) (regs : List Nat) : State × Bool :=
  match (station s n).linkStep with
  | 2 =>
    let id := regs.getD 0 0
    if id ≠ 0 ∧ id ≠ 0xFFFF ∧ regs.getD 1 0 = 0x5A3C ∧ (regs.drop 2).take 4 = geoRegs s n then
      (setStation (setLinkState (put s (linkIdx n) 3 id) n 2) n fun x => { x with linkStep := 3 }, false)
    else linkFail (put s (linkIdx n) 3 (id % 65536)) n
  | 3 =>
    if (regs.getD 0 0) % 4 = 3 then (sendLspi (setStation s n fun x => { x with linkStep := 4 }) n [lspiWrite 2 5], false) else (s, false)
  | 4 => if (regs.getD 0 0).testBit 2 then (linkIsUp s n, false) else (s, false)
  | _ => (s, false)

/-- A hard fault of a link that is UP (R401): LDn_EN low, spills, Status recorded, FAULT; then the second serve, or the double
fault within 1 s of the return. True tells of the double fault. -/
def linkHardFault (s : State) (n status : Nat) : State × Bool :=
  let t := setStation s n fun x => { x with hardFault := true }
  let t := sat t (linkCnt n) 2
  let t := spillWhere t (fun sh => sh.fired.testBit n && !sh.imaged.testBit n) (some n)
  let t := put (sendLspi t n [lspiRead 1]) (linkIdx n) 4 status
  let t := log t clsFault 1 9 n (linkIdx n) 4 none status
  if servedWithin s .link n (ticksS 1) then
    (doubleFault (setLinkState t n 4) .link n 0 9 (linkIdx n) 4, true)
  else
    let t := serveBegin t .link n 0 9 (linkIdx n) 4
    let t := sendLspi (setLinkState t n 0) n [lspiWrite 2 2]
    (linkUp t n true, false)

end Sys2Proof.Machine
end

