-- ==== Sys2Proof/Machine/RasterOps.lean ====
section
/-! DEFINITION. The Sercor Band Codec, the decoders, the station FIFOs, freeboard, scan starts and the spillway (R316 to R343). -/

namespace Sys2Proof.Machine

/-! ## The band codec (R322 to R329) -/

/-- Bytes of a line (R322). -/
def lineBytes (pixels depth : Nat) : Nat := ceilDiv (pixels * depth) 8

/-- A table of n entries each an output byte, appended in front of the reversed output. -/
def pushCopies (b : Byte) : Nat → List Byte → List Byte
  | 0, out => out
  | n + 1, out => pushCopies b n (b :: out)

/-- COPY-ABOVE (R326): n bytes, each the one L positions earlier in the band's output, 0 in the first line. -/
def pushAbove (l : Nat) : Nat → List Byte → List Byte
  | 0, out => out
  | n + 1, out => pushAbove l n ((out.getD (l - 1) 0) :: out)

/-- The meaning of an opcode byte with the bytes after it (R325): kind, output count, operand bytes before the data.
Kinds: 0 literal, 1 repeat, 2 copy-above, 3 zero run, 4 end of line, 5 end of band, 6 reserved, 7 cut short. -/
def tokenOf (op : Nat) (rest : List Byte) : Nat × Nat × Nat :=
  if op ≤ 0x7F then (0, op + 1, 0)
  else if op ≤ 0x9F then (1, op - 0x80 + 3, 0)
  else if op ≤ 0xBF then (2, op - 0xA0 + 1, 0)
  else if op ≤ 0xDF then (3, op - 0xC0 + 1, 0)
  else if op ≤ 0xE3 then
    (if rest.length < 2 then (7, 0, 0) else if leAt rest 0 2 = 0 then (6, 0, 0) else (op - 0xE0, leAt rest 0 2, 2))
  else if op = 0xE4 then (4, 0, 0)
  else if op = 0xE5 then (5, 0, 0)
  else (6, 0, 0)

/-- Decodes the tokens of a payload (R325 to R328): the output reversed, its length, and the failure code of R329, 0 for none. -/
def tokens (l total : Nat) : Nat → List Byte → List Byte → Nat → List Byte × Nat × Nat
  | 0, _, out, n => (out, n, if n = total then 0 else 10)
  | _ + 1, [], out, n => (out, n, if n = total then 0 else 10)
  | f + 1, op :: rest, out, n =>
    let k := tokenOf op.toNat rest
    let data := rest.drop k.2.2
    match k.1 with
    | 0 =>
      if data.length < k.2.1 ∨ total < n + k.2.1 then (out, n, 9)
      else tokens l total f (data.drop k.2.1) ((data.take k.2.1).reverse ++ out) (n + k.2.1)
    | 1 => match data with
      | [] => (out, n, 9)
      | b :: t => if total < n + k.2.1 then (out, n, 9) else tokens l total f t (pushCopies b k.2.1 out) (n + k.2.1)
    | 2 => if total < n + k.2.1 then (out, n, 9) else tokens l total f data (pushAbove l k.2.1 out) (n + k.2.1)
    | 3 => if total < n + k.2.1 then (out, n, 9) else tokens l total f data (pushCopies 0 k.2.1 out) (n + k.2.1)
    | 4 =>
      let c := l - n % l
      if total < n + c then (out, n, 9) else tokens l total f data (pushCopies 0 c out) (n + c)
    | 5 => (pushCopies 0 (total - n) out, total, if data.isEmpty then 0 else 10)
    | 6 => (out, n, 8)
    | _ => (out, n, 9)

/-- Cuts octets into complete lines of l bytes; at most n. -/
def cutLines (l : Nat) : Nat → List Byte → List (List Byte)
  | 0, _ => []
  | n + 1, d => if d.length < l then [] else d.take l :: cutLines l n (d.drop l)

/-- What one band gives: its complete lines, the begun line after them, the bytes it occupies, the failure code (R329). -/
structure Band where
  lines : List (List Byte) := []
  rest : List Byte := []
  used : Nat := 0
  code : Nat
deriving DecidableEq, Repr

/-- Lines that band k of a plane of n lines must hold (R322). -/
def bandLines (n k : Nat) : Nat := min 256 (n - 256 * k)

/-- Checks 1 to 6 of R329 on a header: band k of a plane of n lines, rest bytes left in the plane, worst band length. -/
def headerCode (h : List Byte) (n k rest worst : Nat) : Nat :=
  let last := decide (n ≤ 256 * (k + 1))
  let flags := leAt h 1 1
  let len := 16 + leAt h 8 4
  if rest < 16 then 6
  else if leAt h 0 1 ≠ 1 then 1
  else if 2 ≤ flags then 2
  else if leAt h 2 2 ≠ bandLines n k then 3
  else if leAt h 4 4 ≠ k then 4
  else if (flags == 1) != last then 5
  else if rest < len ∨ worst < len then 6
  else 0

/-- The output of a payload (R324 to R328): n lines of l bytes at most, the bytes after the last complete line, the failure code. -/
def payloadLines (l n : Nat) (pay : List Byte) : List (List Byte) × List Byte × Nat :=
  let r := tokens l (n * l) (pay.length + 1) pay [] 0
  let out := r.1.reverse
  let whole := cutLines l n out
  (whole, out.drop (whole.length * l), r.2.2)

/-- Decodes one band (R322 to R329): the plane's bytes from the band on, band number, lines of the plane, line bytes, worst length; `cut` is the
byte position of a word that the input buffer has lost (R319): what lies before it is decoded. Checks 1 to 7 come before the first output byte. -/
def decodeBand (d : List Byte) (n k l worst : Nat) (cut : Option Nat) : Band :=
  let c := headerCode d n k d.length worst
  let len := leAt d 8 4
  let pay := slice d 16 len
  if c ≠ 0 then { code := c }
  else if crc32 pay ≠ leAt d 12 4 then { code := 7 }
  else
    let r := payloadLines l (bandLines n k) (pay.take ((cut.getD (16 + len)) - 16))
    let more := decide (n ≤ 256 * (k + 1)) && decide (16 + len < d.length)
    { lines := r.1, rest := r.2.1, used := 16 + len, code := if r.2.2 ≠ 0 then r.2.2 else if more then 11 else 0 }

/-! ## FIFO, freeboard, decoder -/

/-- The indices of FIFO, freeboard, decoder and reservoir counters of station n. -/
def fifoIdx (n : Nat) : Nat := 0x3010 + 0x20 * n
def freeIdx (n : Nat) : Nat := 0x3011 + 0x20 * n
def decIdx (n : Nat) : Nat := 0x3012 + 0x20 * n
def resIdx (n : Nat) : Nat := 0x3013 + 0x20 * n

/-- Words of the FIFO of station n (R334, R316). -/
def fifoWords (s : State) (n : Nat) : Nat := get s (fifoIdx n) 1 * 32768

/-- The areas of the reservoir (R316): the FIFO of station n in station order, its input buffer, the device area with the log ring first. -/
def fifoBase (s : State) (n : Nat) : Nat := (((List.range n).filter (present s)).map fun k => get s (fifoIdx k) 1 * 262144).foldl Nat.add 0
def inputBase (n : Nat) : Nat := 0x01400000 + 262144 * n
def deviceBase : Nat := 0x01580000

/-- A FIFO pointer moved on by w words, and the inverted copy of a pointer (R320). -/
def pointerAfter (cap p w : Nat) : Nat := (p + w) % max 1 cap
def inverted (p : Nat) : Nat := 2 ^ 32 - 1 - p

/-- Words that lines occupy (R334). -/
def wordsOf (l : List RasterLine) : Nat := l.foldl (fun a r => a + ceilDiv r.bytes.length 8) 0

/-- Moves decoded lines into the FIFO while it has space (R330, R334); at most f. -/
def fillFifo (cap : Nat) : Nat → Station → Station
  | 0, x => x
  | f + 1, x => match x.backlog with
    | [] => x
    | r :: t =>
      let w := ceilDiv r.bytes.length 8
      let p := pointerAfter cap x.wr w
      if wordsOf x.fifo + w ≤ cap then fillFifo cap f { x with backlog := t, fifo := x.fifo ++ [r], wr := p, wrNot := inverted p } else x

/-- The lines of the FIFO that a test does not keep leave it; the read pointer passes their words (R335, R341). -/
def Station.keepLines (x : Station) (cap : Nat) (keep : RasterLine → Bool) : Station :=
  let p := pointerAfter cap x.rd (wordsOf (x.fifo.filter fun r => !keep r))
  { x with fifo := x.fifo.filter keep, rd := p, rdNot := inverted p }

/-- Whether the two copies of each pointer agree (R320). -/
def Station.pointersAgree (x : Station) : Bool := x.wrNot == inverted x.wr && x.rdNot == inverted x.rd

/-- The scans of a sheet that lines 0 to hi − 1 complete (R333): the last scan of the plane may hold fewer lines. -/
def completeScans (bm lines hi : Nat) : Nat := if lines ≤ hi then ceilDiv lines (max 1 bm) else hi / max 1 bm

/-- The scans of a sheet whose transmission on a station has started. -/
def startedScans (x : Station) (uid : Nat) : Nat := if x.imaging = some uid then x.nextScan + ofBool x.scan.isSome else 0

/-- The freeboard of station n (R336): complete decoded scans in the FIFO whose transmission has not started. -/
def freeboard (s : State) (n : Nat) : Nat :=
  let x := station s n
  let of_ (sh : Sheet) : Nat :=
    let hi := (x.fifo.filter fun r => r.uid == sh.uid).foldl (fun m r => max m (r.line + 1)) 0
    if hi = 0 then 0 else completeScans (beams s n) sh.lines hi - startedScans x sh.uid
  (s.sheets.map of_).foldl Nat.add 0

/-- The freeboard object and its low-water watermark follow the FIFO (R336, R337). -/
def updateFreeboard (s : State) (n : Nat) : State :=
  let old := get s (freeIdx n) 6
  let v := min 2048 (freeboard s n)
  watch false (put s (freeIdx n) 6 v) (freeIdx n) 1 old v

/-- The decoder's state (3012+20h·n:01). -/
def setDecoder (s : State) (n v : Nat) : State := put s (decIdx n) 1 v

/-- The FIFO takes what it can, and the freeboard follows. -/
def refill (s : State) (n : Nat) : State :=
  let t := setStation s n fun x => fillFifo (fifoWords s n) (x.backlog.length) x
  let t := updateFreeboard t n
  if (station t n).backlog.isEmpty then (if get t (decIdx n) 1 = 2 then setDecoder t n 1 else t) else setDecoder t n 2

/-- The next plane of a decoder (R330): ADMITTED and COMMITTED sheets with a plane not yet decoded, by their first IMAGE events. -/
def nextPlane (s : State) (n : Nat) : Option Sheet :=
  (s.sheets.filter fun sh => (sh.admitted || sh.committed) && sh.hasPlane n && !sh.decoded.testBit n).foldl
    (fun b sh => match b with
      | none => some sh
      | some c => if sh.firstImage < c.firstImage then some sh else some c) none

/-- The decoder starts a plane (R330). -/
def startPlane (s : State) (n : Nat) (sh : Sheet) : State :=
  let t := setStation s n fun x => { x with decUid := some sh.uid, decPos := 0, decBand := 0, decLine := 0 }
  put (put (setDecoder t n 1) (decIdx n) 5 sh.serial) (decIdx n) 6 0

/-- The decoder is free of its plane. -/
def dropPlane (s : State) (n state : Nat) : State :=
  setDecoder (setStation s n fun x => { x with decUid := none, decPos := 0, decBand := 0, decLine := 0 }) n state

/-- The plane of a sheet on station n is done with: decoded, in error, or spilled. -/
def planeDone (s : State) (n uid state : Nat) : State :=
  let t := modSheet s uid fun sh => { sh with decoded := setBit sh.decoded n }
  if (station t n).decUid = some uid then dropPlane t n state else t

/-- The station's decoded data of a sheet are discarded (R341). -/
def discardData (s : State) (n uid : Nat) : State :=
  setStation s n fun x => { x.keepLines (fifoWords s n) (fun r => r.uid != uid) with
    backlog := x.backlog.filter (fun r => r.uid != uid), tail := x.tail.filter fun r => r.uid != uid }

/-- The station spills a sheet now (R341): counted, recorded, data discarded, decoder moved on. -/
def spillNow (s : State) (n uid : Nat) : State :=
  let t := modSheet s uid fun sh =>
    { sh with spilled := setBit sh.spilled n, spillDue := clrBit sh.spillDue n, spoiled := true,
              firstSpill := match sh.firstSpill with
                | some f => some f
                | none => some n }
  let t := sat t (resIdx n) 8
  let t := planeDone (discardData t n uid) n uid 4
  refill t n

/-- A station spills a COMMITTED sheet at once, and every other station at its next scan boundary (R33). -/
def spillHere (s : State) (n uid : Nat) : State := spillNow (spillSheet s uid (some n)) n uid

/-- Lines of a scan flagged (R31, R318, R339, R340, R351; 3013+20h·n:07). -/
def flagLines (s : State) (n uid : Nat) : State :=
  satBy 32 (modSheet s uid fun sh => sh.mark fun x => { x with lineFlagged := true }) (resIdx n) 7 (beams s n)

/-- The plane of a sheet stops before its end (R294, R332): a COMMITTED sheet lacks its data from here on and spills at the first word that is
missing, an ADMITTED one holds the fault until its first scan; the decoder is free for the next plane. -/
def planeLost (s : State) (n uid : Nat) : State :=
  planeDone (modSheet s uid fun sh => if sh.committed then sh else { sh with held := setBit sh.held n }) n uid 5

/-- A decode error (R332): code, count, WARN, and the plane stops. -/
def decodeError (s : State) (n uid code : Nat) : State :=
  let t := sat (put s (decIdx n) 2 code) (decIdx n) 3
  planeLost (log t clsWarn 1 7 n (decIdx n) 2 ((sheetOf s uid).map (·.serial)) code) n uid

/-- Whether station n has the whole of scan j of a sheet in its FIFO (R338): every line below min(N, (j+1)·beams + ahead). -/
def scanReady (s : State) (n : Nat) (sh : Sheet) (upTo : Nat) : Bool :=
  let hi := min sh.lines upTo
  hi == 0 || (station s n).fifo.any fun r => r.uid == sh.uid && decide (hi ≤ r.line + 1)

/-- Whether cut-through may start the scan (R338): all but the last line complete, D of its L bytes decoded, input held. -/
def cutThrough (s : State) (n : Nat) (sh : Sheet) (upTo d held : Nat) : Bool :=
  let l := lineBytes sh.pixels sh.depth
  let x := station s n
  let rest := (tabGet [] sh.data n).length - x.decPos
  sh.cut.testBit n && scanReady s n sh (min sh.lines upTo - 1) && decide (get s (fifoIdx n) 2 ≤ d) && decide (d ≤ l) &&
    decide (min (4 * (l - d)) rest ≤ held)

/-- Empties a FIFO and resets its pointers (R320, R343). -/
def emptyFifo (s : State) (n : Nat) : State :=
  updateFreeboard (setStation s n fun x =>
    { x with fifo := [], backlog := [], tail := none, wr := 0, rd := 0, wrNot := inverted 0, rdNot := inverted 0 }) n

/-- Decoder and FIFO of a station stop on SAFESTOP entry and in the modes without raster (R343); no spill is counted. -/
def stopRaster (s : State) (n : Nat) : State :=
  let t := dropPlane (emptyFifo s n) n 0
  setStation t n fun x => { x with imaging := none, nextScan := 0, scan := none, cutNow := false, lights := [] }

/-- The uids with data in a station's FIFO or decoder. -/
def dataUids (s : State) (n : Nat) : List Nat := ((station s n).fifo ++ (station s n).backlog ++ (station s n).tail.toList).map (·.uid)

/-! ## Withdrawal and cancellation (R22 to R24, R330) -/

/-- One station forgets a sheet that is no longer ADMITTED: the decoder leaves its plane, and its lines leave the FIFO (R330). -/
def forgetAt (s : State) (uid n : Nat) : State :=
  let mine := (station s n).decUid == some uid
  if mine || (dataUids s n).contains uid then
    let t := discardData s n uid
    refill (if mine then dropPlane t n 0 else t) n
  else s

/-- Every station forgets a sheet. -/
def forgetRaster (s : State) (uid : Nat) : State := forEach (List.range 6) (fun t n => forgetAt t uid n) s

/-- Withdraws one ADMITTED sheet, counted in 5040:09 (R22). -/
def withdrawOne (s : State) (uid : Nat) : State :=
  bump (dropEvents (modSheet (forgetRaster s uid) uid withdrawn) fun e => e.uid == some uid) 0x5040 9

/-- Withdraws an ADMITTED sheet and, with it, the later ADMITTED sheets of its tenant (R22), whatever R23 says of it. -/
def withdrawForced (s : State) (uid : Nat) : State :=
  let later := laterAdmitted s uid
  later.foldl (fun t u => match sheetOf t u with
    | some sh => if inTime t sh then withdrawOne t u else t
    | none => t) (withdrawOne s uid)

/-- Withdraws every ADMITTED sheet that R23 still reaches (R22). -/
def withdrawAll (s : State) : State :=
  (s.sheets.filter fun sh => sh.admitted && inTime s sh).foldl (fun t sh => withdrawOne t sh.uid) s

/-- Cancels a sheet that is not COMMITTED: it completes WITHDRAWN (R24, R271); one that R23 no longer reaches counts as COMMITTED. -/
def cancelSheet (s : State) (sh : Sheet) : State :=
  if sh.committed then s
  else if sh.admitted && !inTime s sh then overtaken s sh.uid
  else
    let t := removeSheet (completion (forgetRaster s sh.uid) sh 3 0 false) sh.uid
    if sh.reprint then serveDrop t .sheet (reprintInst sh) else t

end Sys2Proof.Machine
end

