-- ==== Sys2Proof/Machine/ScanOps.lean ====
section
/-! DEFINITION. Tooth trackers, facet identity, polygon phase lock, line placement, the pixel stream and the registration
loop (R344 to R371, R380 to R386, R422 to R432, R460 to R462). -/

namespace Sys2Proof.Machine

/-! ## Trackers -/

/-- The index of tracker k. -/
def trkIdx (k : Nat) : Nat := 0x2500 + k

/-- Whether tracker k exists: the BD tracker of an absent station does not (R13). -/
def trackerPresent (s : State) (k : Nat) : Bool := if k < 6 then present s k else decide (k < 18)

/-- Facets of a BD tracker, pattern positions of an encoder tracker (R427, R428). -/
def toothCycle (s : State) (k : Nat) : Nat := max 1 (if k < 6 then facets s k else get s (trkIdx k) 0x32)

/-- The period table entry of position f, in phases (R348). -/
def periodOf (s : State) (k f : Nat) : Nat := get s (trkIdx k) (0x10 + f)

/-- The predicted time of the next tooth, in phases (R348). -/
def predicted (s : State) (k : Nat) : Nat := (tracker s k).tLast + periodOf s k (tracker s k).next

/-- The acceptance window W in phases: a fraction of the nominal facet period, or of the predicted period (R348, R427). -/
def windowOf (s : State) (k : Nat) : Nat :=
  get s (trkIdx k) 2 * (if k < 6 then facetPeriod s k else periodOf s k (tracker s k).next) / 1000

/-- Whether the mode runs encoder trackers (R434). -/
def encoderMode (s : State) : Bool :=
  match s.md.mode with
  | .kickoff => false | .terp => false | .doze => false | .shutdown => false | _ => true

/-- Whether a motor is commanded to standstill (R459). -/
def motorToStandstill (s : State) (m : Nat) : Bool := (motor s m).target == 0 || waveform s m == 0

/-- Whether an axis is commanded to standstill: it has no motion under way (R429, R496). -/
def axisToStandstill (s : State) (a : Nat) : Bool := axStill s a

/-- Whether the motion source of an encoder tracker is commanded to standstill (R429). -/
def sourceStill (s : State) (k : Nat) : Bool :=
  let m := get s (trkIdx k) 0x35
  if m < 12 then motorToStandstill s m else if 16 ≤ m ∧ m < 32 then axisToStandstill s (m - 16) else false

/-- Whether tracker k takes edges: BD light and polygon lock (R352, R371), or an input pin and a mode that tracks (R427, R434). -/
def trackerLit (s : State) (k : Nat) : Bool :=
  if k < 6 then bdLit s k else encoderMode s && get s (trkIdx k) 0x30 != 255

/-- Whether an acquisition of tracker k may begin (R352, R429). -/
def mayAcquire (s : State) (k : Nat) : Bool :=
  trackerLit s k && if k < 6 then motorState s k == 4 || motorState s k == 5 else !sourceStill s k

/-- The tracker state that 2500+k:01 shows (R350, R371, R429): held off shows 0, or LOST. -/
def trackerShown (s : State) (k : Nat) : Nat :=
  let st := (tracker s k).state
  if !trackerLit s k then (if st = 3 then 3 else 0)
  else if st = 0 ∨ st = 3 then (if mayAcquire s k then 1 else st)
  else st

/-- Whether tracker k is TRACKING. -/
def tracking (s : State) (k : Nat) : Bool := trackerShown s k == 2

/-- A polygon whose tracker no longer tracks leaves PHASE-LOCKED (R460, R462): LOCKED, WARN. -/
def phaseLost (s : State) (k : Nat) : State :=
  if k < 6 ∧ motorState s k = 5 then
    logEvent (setMotor (setMotorState s k 4) k fun x => { x with grid := none, inWindow := 0, outWindow := 0, trim := 0 }) clsWarn 0x0B k (motIdx k) 0x30
  else s

/-- A tracker is held off: LOST stays, every other state becomes 0; period table and signature are kept (R371). -/
def holdOff (s : State) (k : Nat) : State :=
  setTracker (phaseLost s k) k fun x => { x with state := if x.state = 3 then 3 else 0, acq := .idle, cand := none, coasts := 0 }

/-- Every tracker without light or out of its modes is held off (R371, R434). -/
def holdUnlit (s : State) : State :=
  forEach (List.range 18) (fun t k => if trackerLit t k then t else holdOff t k) s

/-- Acquisition begins (R352). -/
def beginAcquire (s : State) (k : Nat) : State :=
  setTracker s k fun x => { x with state := 1, acq := .collecting [], cand := none, coasts := 0 }

/-- Distance of two times. -/
def gap (a b : Nat) : Nat := max a b - min a b

/-- Whether an edge at t continues a run of acquisition edges (newest first): spaced within W of the nominal facet period, or of
the spacing before (R352, R428). -/
def spacedOk (s : State) (k : Nat) (edges : List Nat) (t : Nat) : Bool :=
  match edges with
  | [] => true
  | a :: r =>
    let d := t - a
    if k < 6 then decide (gap d (facetPeriod s k) ≤ get s (trkIdx k) 2 * facetPeriod s k / 1000)
    else decide (d ≤ 24000 * get s (trkIdx k) 0x34) && (match r with
      | [] => true
      | b :: _ => decide (gap d (a - b) ≤ get s (trkIdx k) 2 * (a - b) / 1000))

/-- Fills the period table of c positions from the run of edges, newest first: position f of the newest spacings (R352). -/
def fillPeriods (s : State) (k c : Nat) (edges : List Nat) : State :=
  forEach (List.range c) (fun t i => put t (trkIdx k) (0x10 + (c - 1 - i)) (edges.getD i 0 - edges.getD (i + 1) 0)) s

/-- One edge of acquisition step 1 (R352): the run grows, starts afresh, or is complete. -/
def collectEdge (s : State) (k t : Nat) (edges : List Nat) : State :=
  let c := toothCycle s k
  let run := if spacedOk s k edges t then t :: edges else [t]
  if run.length < max 2 (2 * c) then setTracker s k fun x => { x with acq := .collecting run }
  else setTracker (fillPeriods s k c run) k fun x => { x with acq := .following 0, tLast := t, next := 0, cand := none, coasts := 0 }

/-- A counter of tracker k: 8 NOISE, 9 COAST, 0A NOISE_DOUBLE, 0B LOST. -/
def trackerCount (s : State) (k sub : Nat) : State := sat s (trkIdx k) sub

/-- An edge while the tracker predicts teeth (R348): ignored before the window, candidate or double within it. True tells that a
double edge has re-timed the tooth. -/
def windowEdge (s : State) (k t : Nat) : State × Bool :=
  let p := predicted s k
  if t + windowOf s k < p then (trackerCount s k 8, false)
  else match (tracker s k).cand with
    | none => (setTracker s k fun x => { x with cand := some t }, false)
    | some c =>
      let u := trackerCount s k 0x0A
      if gap t p < gap c p then (setTracker u k fun x => { x with cand := some t }, true) else (u, false)

/-- The position after f in a cycle of c. -/
def nextPos (c f : Nat) : Nat := if f + 1 < c then f + 1 else 0

/-- The tooth at the close of its window (R348): the candidate with the filtered period, or a synthesised COAST tooth at the
prediction. The tooth count, the last position and the last 256 teeth follow. -/
def fixTooth (s : State) (k : Nat) : State :=
  let x := tracker s k
  let f := x.next
  let p := periodOf s k f
  let coast := x.cand.isNone
  let time := x.cand.getD (x.tLast + p)
  let sh : Int := ((2 ^ get s (trkIdx k) 4 : Nat) : Int)
  let p' := if coast then p else ((p : Int) + ((time : Int) - x.tLast - p) / sh).toNat
  let n := (get s (trkIdx k) 7 + 1) % 2 ^ 32
  let t := put (put (put s (trkIdx k) (0x10 + f) p') (trkIdx k) 7 n) (trkIdx k) 5 f
  let t := if coast then trackerCount t k 9 else t
  let t := setTracker t k fun y =>
    { y with tLast := time, next := nextPos (toothCycle s k) f, cand := none, coasts := if coast then y.coasts + 1 else 0,
             teeth := ({ count := n, time := time, coast := coast } :: y.teeth).take 256 }
  if k < 6 then t else wrapBy 64 t (trkIdx k) 0x36 (get s (trkIdx k) 0x33)

/-! ### Identity (R353, R354) -/

/-- A list rotated left by r. -/
def rotate (l : List Nat) (r : Nat) : List Nat := l.drop r ++ l.take r

/-- The sum of absolute differences of the deviations from the means of two lists of one length, times that length. -/
def deviation (a b : List Nat) : Nat :=
  let n := a.length
  let sa : Nat := a.foldl Nat.add 0
  let sb : Nat := b.foldl Nat.add 0
  ((a.zip b).map fun p => (((n * p.1 : Nat) : Int) - (sa : Nat) - (((n * p.2 : Nat) : Int) - (sb : Nat))).natAbs).foldl Nat.add 0

/-- The rotation with the smallest deviation, if that is at most half of the second smallest (R353). -/
def matchRotation (p sig : List Nat) : Option Nat :=
  let d := (List.range p.length).map fun r => deviation (rotate p r) sig
  let best := d.foldl min (d.getD 0 0)
  match d.findIdx? fun v => v == best with
  | none => none
  | some r =>
    let rest := d.take r ++ d.drop (r + 1)
    if rest.all fun v => decide (2 * best ≤ v) then some r else none

/-- The table of tracker k from a subindex on, as many entries as its cycle. -/
def tableOf (s : State) (k sub : Nat) : List Nat := (List.range (toothCycle s k)).map fun f => get s (trkIdx k) (sub + f)

/-- Writes a table to tracker k. -/
def writeTable (s : State) (k sub : Nat) (l : List Nat) : State :=
  forEach (List.range l.length) (fun t f => put t (trkIdx k) (sub + f) (l.getD f 0)) s

/-- Makes position r facet 0 (R353, R354). -/
def relabel (s : State) (k r : Nat) : State :=
  let c := toothCycle s k
  setTracker (writeTable s k 0x10 (rotate (tableOf s k 0x10) r)) k fun x => { x with next := (x.next + c - r) % c }

/-- The end of acquisition (R352 to R354): identity is fixed, the state is TRACKING, the second serve has passed. -/
def identify (s : State) (k : Nat) : State :=
  let sig := tableOf s k 0x20
  let r := if sig.all (· == 0) then none else matchRotation (tableOf s k 0x10) sig
  let t := match r with
    | some r => put (relabel s k r) (trkIdx k) 0x0D 0
    | none => put (relabel s k (tracker s k).next) (trkIdx k) 0x0D 1
  let t := setTracker t k fun x => { x with state := 2, acq := .idle }
  servePass t (if k < 6 then .bdTracker else .encoderTracker) k (if k < 6 then 8 else 0x0A) (trkIdx k) 1

/-! ### LOST (R350, R431) -/

/-- Committed sheets with a pending event that refers to tracker k. -/
def refersTo (s : State) (k : Nat) (sh : Sheet) : Bool :=
  s.slots.any fun p => p.2.uid == some sh.uid && p.2.ref == k && !p.2.fired

/-- What LOST spills: the station's committed sheets in RALLY and RUNOUT, or the sheets that refer to the encoder (R350, R431). -/
def lostSpills (s : State) (k : Nat) : State :=
  if k < 6 then
    (if s.md.mode == .rally || s.md.mode == .runout then
      logEvent (spillWhere s (fun sh => sh.hasPlane k && !sh.imaged.testBit k) (some k)) clsFault 8 k (trkIdx k) 0x0B
    else s)
  else logEvent (spillWhere s (refersTo s k) none) clsFault 0x0A k (trkIdx k) 0x0B

/-- The tracker is LOST (R350, R431): counted, spills; acquisition as second serve, or the double fault within 10 s of the
reacquisition. True tells of the double fault. -/
def trackerLost (s : State) (k : Nat) : State × Bool :=
  let m : Mech := if k < 6 then .bdTracker else .encoderTracker
  let src := if k < 6 then 8 else 0x0A
  let t := setTracker (trackerCount (phaseLost s k) k 0x0B) k fun x => { x with state := 3, acq := .idle, coasts := 0 }
  let t := lostSpills t k
  if servedWithin t m k (ticksS 10) then (doubleFault t m k 0 src (trkIdx k) 0x0B, true)
  else
    let t := serveBegin t m k 0 src (trkIdx k) 0x0B
    (if mayAcquire t k then beginAcquire t k else t, false)

/-! ## Polygon lock (R460 to R462) -/

/-- The electrical angle by back-EMF in 1/65536 turn: the step and the fraction of it (R444). -/
def emfAngle (x : Motor) (now : Nat) : Nat :=
  (x.step * 65536 / 6 + (if x.stepPeriod = 0 then 0 else min x.stepPeriod (now - x.lastStep) * 65536 / (6 * x.stepPeriod))) % 65536

/-- The angle by BD without its offset, in 1/65536 electrical turn, d phases after the tooth of facet f, p phases a facet (R445). -/
def bdAngle (s : State) (m f d p : Nat) : Nat := 65536 * get s (motIdx m) 5 * (f * max 1 p + min d p) / (max 1 (facets s m) * max 1 p) % 65536

/-- The electrical angle by BD at press time t (R445): pole pairs times the facet and the fraction of its period, plus the offset. -/
def bdElectrical (s : State) (m t : Nat) : Nat :=
  let x := tracker s m
  (bdAngle s m (get s (trkIdx m) 5) (16 * t - x.tLast) (periodOf s m x.next) + get s (motIdx m) 0x13) % 65536

/-- The transition to TRACKING of station m (R461, R445): in waveform mode 2 the electrical offset makes both angles equal. -/
def polygonTracks (s : State) (m : Nat) : State :=
  if waveform s m = 2 then
    put s (motIdx m) 0x13 ((emfAngle (motor s m) s.time + 65536 - bdAngle s m (get s (trkIdx m) 5) 0 1) % 65536)
  else s

/-- The phase error of a tooth time against a grid (R462): to the nearest point, halves up. -/
def phaseError (t grid per : Nat) : Int :=
  let d := ((t : Int) - grid) % (max 1 per : Nat)
  if 2 * d < (max 1 per : Nat) then d else d - (max 1 per : Nat)

/-- The trim of the commanded speed, in its unit, limited to 0.1 % (R462). -/
def phaseTrim (err : Int) (g : Nat) (cmd : Int) : Int :=
  let lim : Int := cmd.natAbs / 1000
  clamp (-lim) lim (-(err / ((2 ^ g : Nat) : Int)))

/-- One fixed tooth moves the phase lock of a polygon that is LOCKED or PHASE-LOCKED (R460, R462). -/
def phaseLock (s : State) (m t : Nat) : State :=
  if motorState s m ≠ 4 ∧ motorState s m ≠ 5 then s
  else match (motor s m).grid with
    | none => setMotor s m fun x => { x with grid := some t, inWindow := 0, outWindow := 0 }
    | some g =>
      if (tracker s m).state ≠ 2 then s
      else
        let e := phaseError t g (facetPeriod s m)
        let inside := decide (e.natAbs ≤ get s 0x4810 2)
        let u := putS s 32 (motIdx m) 0x3B e
        let u := setMotor u m fun x =>
          { x with trim := phaseTrim e (get s 0x4810 1) x.target, inWindow := if inside then x.inWindow + 1 else 0,
                   outWindow := if inside then 0 else x.outWindow + 1 }
        if motorState u m = 4 ∧ 256 ≤ (motor u m).inWindow then setMotorState u m 5
        else if motorState u m = 5 ∧ 16 ≤ (motor u m).outWindow then logEvent (setMotorState u m 4) clsWarn 0x0B m (motIdx m) 0x30
        else u

/-- What a fixed tooth of a BD tracker means to its polygon (R460, R462): measured speed, revolutions, phase lock. -/
def polygonTooth (s : State) (m t per : Nat) (coast : Bool) : State :=
  let s := if get s (trkIdx m) 5 = 0 then wrapBy 32 s (motIdx m) 0x3C 1 else s
  if coast then s
  else phaseLock (if (tracker s m).state = 2 then putS s 32 (motIdx m) 0x31 (facetSpeed s m per) else s) m t

/-! ## The close of a window -/

/-- The close of a window of tracker k (R348, R350, R352, R431): the tooth is fixed, an acquisition moves on, K coasts lose the
tracker. True tells of the double fault. -/
def closeWindow (s : State) (k : Nat) : State × Bool :=
  let x := tracker s k
  let t := fixTooth s k
  let y := tracker t k
  let t := if k < 6 then polygonTooth t k y.tLast (y.tLast - x.tLast) x.cand.isNone else t
  let lost := decide (get s (trkIdx k) 3 ≤ y.coasts)
  match x.acq with
  | .following n =>
    if lost then (beginAcquire t k, false)
    else if n + 1 < 16 * toothCycle s k then (setTracker t k fun z => { z with acq := .following (n + 1) }, false)
    else
      let u := identify t k
      (if k < 6 then polygonTracks u k else u, false)
  | _ => if lost then trackerLost t k else (t, false)

/-- The position of an encoder at press time, in nm: the last tooth's, plus the interpolated part (R430). -/
def encoderPosition (s : State) (k : Nat) : Nat :=
  let x := tracker s k
  let p := periodOf s k x.next
  let d := 16 * s.time - x.tLast
  (get s (trkIdx k) 0x36 + (if x.state = 2 ∧ p ≠ 0 then get s (trkIdx k) 0x33 * min d p / p else 0)) % 2 ^ 64

/-- The tooth rate in 0.001 tooth/s on the current period (2500+k:37). -/
def toothRate (s : State) (k : Nat) : Nat :=
  let p := periodOf s k (tracker s k).next
  if (tracker s k).state < 2 ∨ p = 0 then 0 else min 8192000 (24000000000000 / p)

/-- The time of tooth count n of tracker k in phases: recorded, or extrapolated backward with the period table (R422); none when
the tooth has not been counted. A count lies ahead when (n − last) mod 2^32 is from 1 to 2^31 − 1 (R423). -/
def toothTime (s : State) (k n : Nat) : Option (Nat × Bool) :=
  let last := get s (trkIdx k) 7
  if follows 32 last n then none
  else match (tracker s k).teeth.find? fun t => t.count == n with
    | some t => some (t.time, t.coast)
    | none => some ((tracker s k).tLast - ((last + 2 ^ 32 - n) % 2 ^ 32) * periodOf s k (tracker s k).next, false)

/-! ## Line placement (R356 to R360) -/

/-- Facet identity is provisional (R354). -/
def provisional (s : State) (n : Nat) : Bool := flag s (trkIdx n) 0x0D

/-- Registration entry of beam b and facet f, in phases (R357). -/
def regEntry (s : State) (n b f : Nat) : Int := getS s 16 (0x3810 + n) (1 + 12 * b + f)

/-- The entry in force: while identity is provisional the mean over the applied facets, to the nearest phase (R354). -/
def regInForce (s : State) (n b f : Nat) : Int :=
  if provisional s n then
    roundDivI (((List.range (facets s n)).map fun g => regEntry s n b g).foldl (· + ·) 0) (max 1 (facets s n))
  else regEntry s n b f

/-- Process correction c, whole scans k = ⌈c / beams⌉ and read-ahead u = k × beams − c (R359). -/
def processC (s : State) (n : Nat) : Int := getS s 16 (0x3818 + n) 1
def wholeScans (s : State) (n : Nat) : Int := -((-(processC s n)) / (max 1 (beams s n) : Nat))
def readAhead (s : State) (n : Nat) : Nat := (wholeScans s n * (beams s n : Nat) - processC s n).toNat

/-- The shift points in use: pixel and direction (R360). -/
def shiftPoints (s : State) (n : Nat) : List (Nat × Int) :=
  (List.range (get s (0x3818 + n) 3)).map fun i =>
    let v := get s (0x3818 + n) (4 + i)
    (v % 65536, if v.testBit 16 then -1 else 1)

/-- The line offset o of pixel p: read-ahead plus the skew offset there (R360). -/
def lineOffset (s : State) (n p : Nat) : Nat :=
  ((shiftPoints s n).foldl (fun (a : Int) q => if q.1 ≤ p then a + q.2 else a) ((readAhead s n + get s (0x3818 + n) 2 : Nat) : Int)).toNat

/-- The largest line offset of the scan (R362): at pixel 0 and at every shift point. -/
def maxOffset (s : State) (n : Nat) : Nat := ((shiftPoints s n).map fun q => lineOffset s n q.1).foldl max (lineOffset s n 0)

/-- The line start of beam b on facet f after a BD tooth at t, in phases (R357). -/
def lineStartAt (s : State) (n b f t : Nat) : Nat := (((t + get s (geoIdx n) 9 : Nat) : Int) + regInForce s n b f).toNat

/-! ## The pixel stream (R363, R380) -/

/-- Pixel p of a line at depth d: pixel 0 in the most significant bits of byte 0 (R324). -/
def pixelOf (l : List Byte) (d p : Nat) : Nat := field (l.getD (p * d / 8) 0).toNat (8 - d - p * d % 8) d

/-- The pulse word of value v at depth d (R363). -/
def pulseOf (s : State) (n d v : Nat) : Nat := get s (geoIdx n + 1) (1 + v * 15 / (2 ^ d - 1)) % 128

/-- The line of physical beam b in scan j at line offset o (R356). -/
def lineAt (s : State) (n j b o : Nat) : Nat :=
  beams s n * j + (if get s (geoIdx n) 0x0B = 1 then beams s n - 1 - b else b) + o

/-- The bytes of a line of a sheet in the FIFO of station n or behind it, or those of a line that was begun; none when it is not there. -/
def lineBytesOf (s : State) (n uid line : Nat) : Option (List Byte) :=
  (((station s n).fifo ++ (station s n).backlog ++ (station s n).tail.toList).find? fun r => r.uid == uid && r.line == line).map (·.bytes)

/-- Whether a scan sends zero from an earlier pixel on, or for the FIFO word of line l that holds pixel p (R318, R334, R340). -/
def zeroAt (c : Scan) (depth l p : Nat) : Bool :=
  c.blank || c.zeroFrom.any (fun z => decide (z ≤ p)) || c.zeroWord.contains (l, p * depth / 64)

/-- The words of pixel p of a scan, in beam order (R380): zero beyond the sheet's lines (R356), for a line not decoded, and where the scan
has been blanked (R318, R340); beyond the sheet's pixels the word of raster value 0 (R267). -/
def pixelWords (s : State) (n : Nat) (sh : Sheet) (c : Scan) (p : Nat) : List Nat :=
  let o := lineOffset s n p
  (List.range (beams s n)).map fun b =>
    let l := lineAt s n c.index b o
    if zeroAt c sh.depth l p || decide (sh.lines ≤ l) then 0
    else match lineBytesOf s n sh.uid l with
      | some y => pulseOf s n sh.depth (if p < sh.pixels then pixelOf y sh.depth p else 0)
      | none => 0

/-- The pixel stream of a scan (R380). -/
def pixelStream (s : State) (n : Nat) (sh : Sheet) (c : Scan) : List Nat :=
  (List.range (pixelsPerLine s n)).flatMap fun p => pixelWords s n sh c p

/-! ## Light windows (R385, R386) -/

/-- The BD window of the next facet: from the prediction less W less 0.5 µs to the prediction plus W (R385). -/
def bdWindow (s : State) (n : Nat) : State :=
  if !bdLit s n then s
  else
    let w := windowOf s n
    sendLight s n (get s (linkIdx n) 6) 1 (predicted s n - w - 12000) (2 * w + 12000)

/-- Whether step 1 of an acquisition of station n runs, or waits for its first edge (R352, R385). -/
def litStep (s : State) (n : Nat) : Bool :=
  bdLit s n && mayAcquire s n && (match (tracker s n).state, (tracker s n).acq with
    | 1, .collecting _ => true
    | 1, _ => false
    | 2, _ => false
    | _, _ => true)

/-- During step 1 of acquisition the BD beam stays lit without a break (R385): the next 10 µs of light are sent 700 ns before the last ones end
(log 152). -/
def keepLit (s : State) (n : Nat) : State :=
  let now := 16 * s.time
  if litStep s n && decide ((station s n).bdUntil ≤ now + 16800) then
    let from_ := max (station s n).bdUntil (now + 16800)
    sendLight (setStation s n fun x => { x with bdUntil := from_ + 240000 }) n (get s (linkIdx n) 6) 1 from_ 240000
  else s

/-- What goes out with a tick of press time on the beam links (R374, R385). -/
def idleTick (s : State) : State :=
  let t := tick s
  if t.clk.gateOpen then linkTick (forEach (stationsPresent t) keepLit t) else t

/-- The APC window of a facet whose tooth is at t: one beam, in ascending turn (R386). -/
def apcWindow (s : State) (n t : Nat) : State :=
  let d := get s (linkIdx n) 7
  if !ldEn s n || s.md.mode == .service || d == 0 then s
  else
    let b := (station s n).apcBeam % max 1 (beams s n)
    let u := setStation s n fun x => { x with apcBeam := (b + 1) % max 1 (beams s n) }
    sendLight u n b 0 (t + get s (geoIdx n) 9 + 2047 + activeScan (pixelsPerLine s n) (pixelPeriod s n) + 48000) (24 * d)

/-! ## The registration loop (R366 to R370) -/

/-- Pixel pitch in 0.001 µm per pixel: 25,400 µm / resolution (R369). -/
def scanRes (s : State) (n : Nat) : Nat := get s (geoIdx n) 3

/-- A scan error in 0.01 µm as phases (R369): one phase is pixel pitch × 41.67 ps / pixel period. Numerator and denominator. -/
def scanPhases (s : State) (n : Nat) (e : Int) : Int × Nat :=
  (e * 24 * (pixelPeriod s n : Nat) * (scanRes s n : Nat), 100 * 1000 * 25400)

/-- The nearest integer of a quotient, halves away from zero. -/
def roundQ (a : Int) (d : Nat) : Int := if 0 ≤ a then (2 * a + d) / (2 * d) else -((2 * (-a) + d) / (2 * d))

/-- The value that entry [b][f] of station n would take: what the loop keeps, else what is in force. -/
def keptEntry (s : State) (n sub : Nat) : Int :=
  match tabFind (station s n).corrections sub with
  | some v => v
  | none => getS s 16 (0x3810 + n) sub

/-! ### Readback (R365 to R367) -/

/-- The position before a tooth at pos, in nm, with pitch p (R422, R430): between two recorded teeth, newest first. -/
def positionBack (p : Int) (t : Nat) : List Tooth → Int → Option Int
  | a :: b :: l, pos =>
    if b.time ≤ t then some (pos - p + p * (t - b.time : Nat) / max 1 (a.time - b.time : Nat)) else positionBack p t (b :: l) (pos - p)
  | _, _ => none

/-- The position of an encoder tracker at a time in phases, in nm (R430): on the current period after its last tooth, between recorded teeth before
it, and before those extrapolated with the period table. -/
def positionAt (s : State) (k t : Nat) : Int :=
  let x := tracker s k
  let p : Int := (get s (trkIdx k) 0x33 : Nat)
  let last : Int := (get s (trkIdx k) 0x36 : Nat)
  let per := max 1 (periodOf s k x.next)
  if x.tLast ≤ t then last + p * min (t - x.tLast) per / per
  else match positionBack p t x.teeth last with
    | some v => v
    | none => last - p * (x.tLast - t : Nat) / per

/-- The crossings of a rising signal in phases after its first sample (R365): an edge lies between two samples around the threshold, once the signal
has been below the threshold by the hysteresis since the edge before (log 150); linear between the two samples. -/
def crossings (th h : Nat) : Bool → Nat → Nat → List Nat → List Nat
  | _, _, _, [] => []
  | armed, i, prev, v :: l =>
    let a := armed || decide (prev + h ≤ th ∧ prev < th)
    if a && decide (prev < th ∧ th ≤ v) then (24000 * i + roundDiv (24000 * (th - prev)) (v - prev)) :: crossings th h false (i + 1) v l
    else crossings th h a (i + 1) v l

/-- The times in phases of the edges that a signal shows in its expected direction. -/
def edgeTimes (th h : Nat) (e : EdgeSignal) : List Nat :=
  let m (v : Nat) : Nat := if e.rising then v else 4095 - v
  match e.codes.map m with
  | [] => []
  | v :: l => (crossings (m th) h false 0 v l).map fun d => 16 * e.start + d

/-- The one edge within 1 mm of an expected belt position, in nm; none where there is no edge or more than one (R367). -/
def foundEdge (s : State) (e : EdgeSignal) (expected : Int) : Option Int :=
  let at_ := (edgeTimes (get s 0x3800 5) (get s 0x3800 6) e).map (positionAt s (get s 0x3800 7))
  match at_.filter fun x => decide ((x - expected).natAbs ≤ 1000000) with
  | [x] => some x
  | _ => none

/-- What a chevron gives (R366): the process error and the scan error in 0.01 µm. -/
structure Reading where
  sensor : Nat
  beam : Nat
  facet : Nat
  process : Int
  scan : Int
deriving DecidableEq, Repr

/-- The reading of a chevron (R366); none where it is discarded (R367). -/
def readingOf (s : State) (c : Chevron) : Option Reading :=
  match foundEdge s c.straight c.expected, foundEdge s c.slant ((c.expected + c.nominal : Nat) : Int) with
  | some a, some b =>
    some { sensor := c.sensor.val, beam := c.beam.val, facet := c.facet.val, process := roundQ (a - c.expected) 10, scan := roundQ (b - a - c.nominal) 10 }
  | _, _ => none

/-- One chevron's scan correction, kept for the next arm (R369): clipped at ±2,047 with WARN. -/
def keepScan (s : State) (n : Nat) (c : Reading) : State :=
  let q := scanPhases s n c.scan
  let g := get s 0x3800 0x0A
  let sub := 1 + 12 * c.beam + c.facet
  let v := keptEntry s n sub - roundQ q.1 (q.2 * 2 ^ g)
  let w := clamp (-2047) 2047 v
  let t := setStation s n fun x => { x with corrections := tabSet x.corrections sub w }
  if v = w then t else log t clsWarn 1 8 n (0x3810 + n) sub none (sImg 32 w)

/-- The mean of integers, to the nearest. -/
def meanI (l : List Int) : Int := if l.isEmpty then 0 else roundQ (l.foldl (· + ·) 0) l.length

/-- Enabled sensors by rising position (3800:01 to :04). -/
def sensorPos (s : State) (k : Nat) : Nat := get s 0x3800 (1 + k)
def sensorOn (s : State) (k : Nat) : Bool := sensorPos s k != 65535

/-- The mean process error of one sensor in 0.01 µm. -/
def sensorProcess (l : List Reading) (k : Nat) : Int := meanI ((l.filter fun c => c.sensor == k).map (·.process))

/-- The sensors with readings, and the two outermost ones. -/
def readSensors (s : State) (l : List Reading) : List Nat :=
  (List.range 4).filter fun k => sensorOn s k && l.any fun c => c.sensor == k
def leftmost (s : State) (l : List Nat) : Nat := l.foldl (fun b k => if sensorPos s k < sensorPos s b then k else b) (l.getD 0 0)
def rightmost (s : State) (l : List Nat) : Nat := l.foldl (fun b k => if sensorPos s b < sensorPos s k then k else b) (l.getD 0 0)

/-- Total skew across the scan width in 0.01 lines from the outermost enabled sensors (R369). -/
def skewOf (s : State) (n : Nat) (l : List Reading) : Int :=
  let ks := readSensors s l
  let a := leftmost s ks
  let b := rightmost s ks
  let dp := sensorPos s b - sensorPos s a
  if dp = 0 then 0
  else roundQ ((sensorProcess l b - sensorProcess l a) * (pixelsPerLine s n : Nat) * (processRes s n : Nat)) (dp * 25400)

/-- The process correction in lines (R369): mean error in 0.01 µm over the line pitch 25,400 µm / resolution. -/
def processLines (s : State) (n : Nat) (mean : Int) : Int := roundQ (mean * (processRes s n : Nat)) (100 * 25400 * 2 ^ get s 0x3800 0x0A)

/-- The objects 3808+n of a measurement (R366, R369). -/
def showMeasurement (s : State) (n : Nat) (l : List Reading) (mean skew : Int) : State :=
  let big := (l.map fun c => roundQ (scanPhases s n c.scan).1 (scanPhases s n c.scan).2).foldl (fun a e => if a.natAbs < e.natAbs then e else a) 0
  putS (putS (putS (bump s (0x3808 + n) 4) 32 (0x3808 + n) 1 mean) 32 (0x3808 + n) 2 skew) 16 (0x3808 + n) 3 (clamp (-32768) 32767 big)

/-- The measurements of one patch become kept corrections (R366, R367, R369). -/
def keepPatch (s : State) (n : Nat) (marks : List Chevron) : State :=
  let seen := marks.filter fun c => sensorOn s c.sensor.val
  let good := seen.filterMap (readingOf s)
  let t := satBy 16 s (0x3808 + n) 5 (seen.length - good.length)
  if good.isEmpty then t
  else
    let ks := readSensors t good
    let mean := meanI (ks.map fun k => sensorProcess good k)
    let skew := skewOf t n good
    let t := showMeasurement t n good mean skew
    let t := good.foldl (fun u c => keepScan u n c) t
    setStation t n fun x => { x with corrProcess := -(processLines t n mean), corrSkew := skew }

/-- The skew set that opposes a skew in 0.01 lines: base, count and shift points (R369). -/
def skewSet (s : State) (n : Nat) (skew : Int) : Nat × List Nat :=
  let c := min 16 (roundDiv skew.natAbs 100)
  let down := decide (0 < skew)
  (if down then c else 0,
    (List.range c).map fun i => roundDiv ((2 * i + 1) * pixelsPerLine s n) (2 * c) % 65536 + if down then 65536 else 0)

/-- Objects of group 7 + n that the kept corrections give: index, subindex, image (R369). -/
def regWrites (s : State) (n : Nat) : List (Nat × Nat) :=
  let x := station s n
  let sk := skewSet s n x.corrSkew
  x.corrections.map (fun p => (keyOf (0x3810 + n) p.1, sImg 16 p.2)) ++
    [(keyOf (0x3818 + n) 1, sImg 16 (clamp (-2047) 2047 (processC s n + x.corrProcess))), (keyOf (0x3818 + n) 2, sk.1),
     (keyOf (0x3818 + n) 3, sk.2.length)] ++
    (List.range sk.2.length).map fun i => (keyOf (0x3818 + n) (4 + i), sk.2.getD i 0)

/-- A correction of so many lines in phases of scan error: a line pitch over the length of one phase (R369; log 80). -/
def linePhases (s : State) (n lines : Nat) : Nat :=
  lines * 25400000 * 24 * pixelPeriod s n * scanRes s n / (max 1 (processRes s n) * 25400 * 1000000)

/-- Whether a kept correction reaches the dead band in phases (R370): an entry's change, or a change of process or skew. -/
def beyondDeadBand (s : State) (n : Nat) : Bool :=
  let x := station s n
  let d := get s 0x3800 0x0B
  x.corrections.any (fun p => decide (d ≤ (p.2 - getS s 16 (0x3810 + n) p.1).natAbs)) ||
    decide (d ≤ linePhases s n (max x.corrProcess.natAbs (roundDiv x.corrSkew.natAbs 100)))

/-- Discards what a station's registration has measured (R371). -/
def dropCorrections (s : State) (n : Nat) : State := setStation s n fun x => { x with corrections := [], corrProcess := 0, corrSkew := 0 }

/-- The firmware stages the kept corrections into group 7 + n and arms it (R370), or counts a skipped update; an armed group takes no
staging write (R71). -/
def stageRegistration (s : State) (n : Nat) : State :=
  if s.armed.contains (7 + n) then s
  else if s.stagers.any fun p => p.1 == 7 + n then sat s (0x3808 + n) 6
  else
    let t := { s with staged := (regWrites s n).foldl (fun m p => tabSet m p.1 p.2) s.staged, armed := (7 + n) :: s.armed }
    setStation (dropCorrections t n) n fun x => { x with lastArm := some s.time }

/-- Whether RALLY arms now (R370): dead band reached and the interval passed. -/
def rallyArms (s : State) (n : Nat) : Bool :=
  s.md.mode == .rally && beyondDeadBand s n && (match (station s n).lastArm with
    | none => true
    | some t => decide (ticksS (get s 0x3800 0x0C) ≤ s.time - t))

/-- A calibration raster: one chevron for every applied beam and facet of the station (R368). -/
def calibrationPattern (s : State) (n : Nat) : State :=
  emit s (.pattern n s.time ((List.range (beams s n)).flatMap fun b => (List.range (facets s n)).map fun f => (b, f)))

/-- A gap patch on a station: the next two beam and facet pairs in turn (R368). -/
def gapPattern (s : State) (n at_ : Nat) : State :=
  let c := max 1 (beams s n * facets s n)
  let k := (station s n).pairTurn % c
  let pair (j : Nat) : Nat × Nat := (j % c / max 1 (facets s n), j % c % max 1 (facets s n))
  setStation (emit s (.pattern n at_ [pair k, pair (k + 1)])) n fun x => { x with pairTurn := (k + 2) % c }

/-- The calibration pass stores the period table as the facet signature (R353, R368). -/
def storeSignature (s : State) (n : Nat) : State :=
  put (writeTable s n 0x20 (tableOf s n 0x10)) (trkIdx n) 0x0D 0

end Sys2Proof.Machine
end

