-- ==== Sys2Proof/Machine/PinOps.lean ====
section
/-! DEFINITION. The multiplexed pins: claims, direction, driven and read levels, routes and conflicts, sleep states, locks
(R534 to R552). -/

namespace Sys2Proof.Machine

/-- The index of pin p. -/
def pinIdx (p : Nat) : Nat := 0x2600 + p

/-- The step of the kick-off timeline completed last (2020:01). -/
def kickStep (s : State) : Nat := get s 0x2020 1

/-- Whether the pin's bank is good (R535): MP0 to MP63 3.3 V, MP64 to MP95 1.8 V. -/
def bankGood (s : State) (p : Nat) : Bool := if p < 64 then s.pins.bank33 else s.pins.bank18

/-- Whether the pin's pad is the fast one (R534). -/
def fastPad (p : Nat) : Bool := (padClass p).testBit 0

/-- Whether output claims decide the pin's direction (R534). -/
def outputFirst (p : Nat) : Bool := decide (p < 64)

/-- Whether configuration and claims act (R537, R552): from kick-off step 10 on, and not in TERP. -/
def pinsConfigured (s : State) : Bool :=
  match s.md.mode with
  | .kickoff => decide (10 ≤ kickStep s)
  | .terp => false
  | _ => true

/-- Whether the pins are in their sleep states (R552): in DOZE, and in SHUTDOWN from the common off start on. -/
def pinsAsleep (s : State) : Bool := s.md.mode == .doze || (s.md.mode == .shutdown && s.md.offStarted)

/-- Whether CD18, the clock of the pin island, runs (R170, R546). -/
def cd18Runs (s : State) : Bool :=
  match s.md.mode with
  | .kickoff => decide (6 ≤ kickStep s)
  | .doze => false
  | .shutdown => !s.md.offStarted
  | _ => true

/-! ## Claims (R539) -/

/-- Bit n of an axis's polarity: signal n is active low (R470). -/
def activeLow (s : State) (a n : Nat) : Bool := (get s (axIdx a) 4).testBit n

/-- The pad level that an axis requests for signal n of level `on`. -/
def axisLevel (s : State) (a n : Nat) (on : Bool) : Nat := ofBool (on != activeLow s a n)

/-- Whether STEP is active (R471): a step has been issued within the last pulse width. -/
def stepActive (s : State) (a : Nat) : Bool :=
  match (axis s a).move with
  | some m => m.steps (s.time - 3 * get s (axIdx a) 5 / 2) != m.steps s.time
  | none => false

/-- The five outputs of axis a in the order of its polarity bits: pin, level asked for (R469, R471, R539); DIR is active for the negative
direction. -/
def axisOutputs (s : State) (a : Nat) : List (Nat × Nat) :=
  let x := axis s a
  [(axPin s a 1 0, axisLevel s a 0 (stepActive s a)), (axPin s a 1 1, axisLevel s a 1 x.back), (axPin s a 1 2, axisLevel s a 2 x.en),
   (axPin s a 1 3, axisLevel s a 3 x.short), (axPin s a 2 0, axisLevel s a 4 x.ired)]

/-- Every output claim: claim number, pin, level asked for (R539). Claims are 8a + n for axes, 0x1000 + n for loops. -/
def outputClaims (s : State) : List (Nat × Nat × Nat) :=
  (List.range 16).flatMap (fun a => (axisOutputs s a).mapIdx fun n q => (8 * a + n, q.1, q.2)) ++
    (List.range 48).filterMap fun n =>
      if law s n ≠ 0 ∧ outKind s n = 2 then some (0x1000 + n, outInst s n, ofBool ((loop s n).y != 0)) else none

/-- The output claims on pin p. -/
def outputsOn (s : State) (p : Nat) : List (Nat × Nat × Nat) := (outputClaims s).filter fun q => q.2.1 == p

/-- The five inputs of axis a: route code and the pin its objects name (R469, R543). -/
def axisInputs (s : State) (a : Nat) : List (Nat × Nat) :=
  [(0x1000 + 16 * a, axPin s a 2 1), (0x1001 + 16 * a, axPin s a 3 0), (0x1002 + 16 * a, axPin s a 3 1), (0x1003 + 16 * a, axPin s a 3 2),
   (0x1004 + 16 * a, axPin s a 3 3)]

/-- Every source of a block input: route code and pin, named by block objects and by routes (R539, R543, R544). -/
def inputSources (s : State) : List (Nat × Nat) :=
  ((List.range 16).flatMap (axisInputs s) ++
    ((List.range 12).map fun k => (0x2006 + k, get s (trkIdx (6 + k)) 0x30)) ++
    ((List.range 6).flatMap fun k => (List.range 3).map fun h => (0x3000 + 4 * (6 + k) + h, field (get s (motIdx (6 + k)) 9) (8 * h) 8)) ++
    ((List.range 96).map fun p => (get s (pinIdx p) 5, p))).filter fun q => decide (q.1 < 0xFFFF ∧ q.2 < 96)

/-- The block inputs that read pin p. -/
def inputsOn (s : State) (p : Nat) : List Nat := ((inputSources s).filter fun q => q.2 == p).map (·.1)

/-- The distinct pins that feed an input. -/
def pinsOf (l : List (Nat × Nat)) (c : Nat) : List Nat := (((l.filter fun q => q.1 == c).map (·.2))).eraseDups

/-- The inputs with two or more distinct source pins (R544). -/
def conflictsNow (s : State) : List Nat :=
  let l := inputSources s
  ((l.map (·.1)).eraseDups).filter fun c => decide (2 ≤ (pinsOf l c).length)

/-- Whether a block input stands in conflict (R544). -/
def inConflict (s : State) (c : Nat) : Bool := s.pins.conflicts.contains c

/-- The output claims that an input claim suppresses, as pin × 65536 + claim (R541). -/
def suppressedNow (s : State) : List Nat :=
  let ins := (inputSources s).map (·.2)
  ((outputClaims s).filter fun q => decide (64 ≤ q.2.1 ∧ q.2.1 < 96) && ins.contains q.2.1).map fun q => q.2.1 * 65536 + q.1

/-- Whether any claim is active on pin p (R540). -/
def claimed (s : State) (p : Nat) : Bool := !(outputsOn s p).isEmpty || !(inputsOn s p).isEmpty

/-! ## Levels -/

/-- A level on a pad in mode m (R538, R542): open-drain is released for 1. -/
def padDrive (m v : Nat) : Option Nat := if m = 2 ∧ v = 1 then none else some v

/-- The level that the configuration and the claims drive on the pad; none when it is not driven (R538 to R542). -/
def configuredLevel (s : State) (p : Nat) : Option Nat :=
  let m := get s (pinIdx p) 1
  let outs := outputsOn s p
  let ins := inputsOn s p
  if !outs.isEmpty && (outputFirst p || ins.isEmpty) then padDrive m (ofBool (outs.any fun q => q.2.2 == 1))
  else if !ins.isEmpty then none
  else if m = 0 then none
  else padDrive m (get s (pinIdx p) 3)

/-- The level driven in the sleep state (R551, R493): the outputs of axes with retention option 2 stay driven in DOZE. -/
def sleepLevel (s : State) (p : Nat) : Option Nat :=
  if s.md.mode == .doze && (outputsOn s p).any (fun q => decide (q.1 < 0x1000) && get s (axIdx (q.1 / 8)) 0x0E == 2) then configuredLevel s p
  else match get s (pinIdx p) 6 with
    | 0 => tabFind s.pins.sleepHeld p
    | 1 => some 0
    | 2 => some 1
    | _ => none

/-- The level that the TZ640 drives on the pad of pin p; none when it drives nothing (R535, R537, R552). -/
def driven (s : State) (p : Nat) : Option Nat :=
  if !bankGood s p || !pinsConfigured s then none
  else if pinsAsleep s then sleepLevel s p
  else configuredLevel s p

/-- The level of an undriven pad that nothing outside drives: its pull (R537, R538, R551). -/
def pullLevel (s : State) (p : Nat) : Nat :=
  if !pinsConfigured s then 0
  else if pinsAsleep s && get s (pinIdx p) 6 != 0 then ofBool (get s (pinIdx p) 6 == 4)
  else ofBool (get s (pinIdx p) 2 == 2)

/-- The pad level of a driven pin: what forces it from outside wins (R547). -/
def forcedLevel (s : State) (p v : Nat) : Nat := tabGet v s.pins.mismatched p

/-- Whether a mismatch stands: the pad is driven, and a level that was found forced on it differs (R547). -/
def mismatchNow (s : State) (p : Nat) : Bool :=
  match driven s p with
  | some v => forcedLevel s p v != v
  | none => false

/-- The pad level (R535, R546): the driven level unless another one is forced on it, else the level from outside. -/
def padLevel (s : State) (p : Nat) : Nat :=
  if !bankGood s p then 0
  else match driven s p with
    | some v => forcedLevel s p v
    | none => tabGet (pullLevel s p) s.pins.ext p

/-- The synchronised level (R545, R546): the pad level, held while CD18 is stopped. -/
def syncLevel (s : State) (p : Nat) : Nat :=
  if !bankGood s p then 0 else if cd18Runs s then padLevel s p else bitOf s.pins.lastSync p

/-- A mask of levels of pins lo to lo + n − 1. -/
def levelMask (f : Nat → Nat) (lo n : Nat) : Nat := (List.range n).foldl (fun m i => m + f (lo + i) % 2 * 2 ^ i) 0

/-- The outside world puts a level on a pin's pad; 255 is no pin. -/
def setExternal (s : State) (p v : Nat) : State :=
  if p < 96 then { s with pins := { s.pins with ext := tabSet s.pins.ext p v } } else s

/-- The level driven by configuration and claims on a pin whose bank is good. -/
def awakeLevel (s : State) (p : Nat) : Option Nat := if bankGood s p then configuredLevel s p else none

/-- The pad level before the pins go to sleep. -/
def awakePad (s : State) (p : Nat) : Nat :=
  match awakeLevel s p with
  | some v => forcedLevel s p v
  | none => if bankGood s p then tabGet (ofBool (get s (pinIdx p) 2 == 2)) s.pins.ext p else 0

/-- Entry to the sleep states: the driven levels and the synchronised levels are kept (R546, R551). -/
def pinsToSleep (s : State) : State :=
  let held := (List.range 96).filterMap fun p => (awakeLevel s p).map fun v => (p, v)
  { s with pins := { s.pins with sleepHeld := held, lastSync := levelMask (awakePad s) 0 96 } }

/-- Pin status (2600+p:0A): the bits of its row. -/
def pinStatus (s : State) (p : Nat) : Nat :=
  let src := inputSources s
  ofBool (!(outputsOn s p).isEmpty) + 2 * ofBool (!(inputsOn s p).isEmpty) + 4 * ofBool (s.pins.suppressed.any fun k => k / 65536 == p) +
    8 * ofBool (s.pins.conflicts.any fun c => (pinsOf src c).contains p) + 16 * ofBool (s.pins.locked.contains p) +
    32 * ofBool (mismatchNow s p)

/-! ## Conflicts and suppressions after a change of claims (R541, R544) -/

/-- One new conflict: counted once, WARN and notice. -/
def newConflict (s : State) (c : Nat) : State :=
  let p := (pinsOf (inputSources s) c).foldl min 95
  logEvent (sat s 0x2660 7) clsWarn 0x0E p (pinIdx p) 0x0A

/-- One new suppression: counted, WARN and notice. -/
def newSuppression (s : State) (k : Nat) : State := logEvent (sat s 0x2660 8) clsWarn 0x0E (k / 65536) (pinIdx (k / 65536)) 0x0A

/-- The claims have changed: conflicts and suppressions that begin are counted and reported, those that end go (R541, R544). -/
def claimsChanged (s : State) : State :=
  let c := conflictsNow s
  let k := suppressedNow s
  let t := { s with pins := { s.pins with conflicts := c, suppressed := k } }
  let t := (c.filter fun x => !s.pins.conflicts.contains x).foldl newConflict t
  (k.filter fun x => !s.pins.suppressed.contains x).foldl newSuppression t

/-! ## Locks (R549) -/

/-- The bytes below 96 among the n low bytes of v. -/
def namedBytes (v n : Nat) : List Nat := ((List.range n).map fun k => field v (8 * k) 8).filter fun p => decide (p < 96)

/-- The pins that value v of an object names (R539, R549). -/
def pinsNamed (idx sub v : Nat) : List Nat :=
  if 0x4900 ≤ idx ∧ idx < 0x4910 then (if sub = 1 ∨ sub = 3 then namedBytes v 4 else if sub = 2 then namedBytes v 2 else [])
  else if 0x2506 ≤ idx ∧ idx < 0x2512 ∧ sub = 0x30 then namedBytes v 1
  else if 0x4800 ≤ idx ∧ idx < 0x480C ∧ sub = 9 then namedBytes v 3
  else if 0x3900 ≤ idx ∧ idx < 0x3930 ∧ sub = 3 then (if v % 256 = 2 then namedBytes (v / 256) 1 else [])
  else []

/-- Whether a write would name a locked pin or stop naming it, or would change a locked pin's own configuration (R549). -/
def lockRefuses (s : State) (idx sub old v : Nat) : Bool :=
  if 0x2600 ≤ idx ∧ idx < 0x2660 ∧ 1 ≤ sub ∧ sub ≤ 6 then s.pins.locked.contains (idx - 0x2600)
  else s.pins.locked.any fun p => (pinsNamed idx sub old).contains p != (pinsNamed idx sub v).contains p

/-- MECH action 0x13 (R538, R540, R549): the stored output value; on a locked pin nothing, on a claimed pin without effect. -/
def pinSetValue (s : State) (p v : Nat) : State :=
  if s.pins.locked.contains p then sat s 0x2660 9
  else
    let t := put s (pinIdx p) 3 v
    if claimed s p then sat t 0x2660 9 else t

end Sys2Proof.Machine
end

