-- ==== Sys2Proof/Machine/MemOps.lean ====
section
/-! DEFINITION. Memory capacity, reservations, the shrink order and the admission test (R288 to R315). -/

namespace Sys2Proof.Machine

/-- Junction temperature in 0.1 °C (7010:01). -/
def tj (s : State) : Int := getS s 16 0x7010 1

/-- Capacity C in beats at a refresh multiplier (R296); 0 without memory. -/
def capacity (s : State) (mult : Nat) : Nat :=
  match get s 0x2300 2 with
  | 4266 => if mult = 4 then 625 else if mult = 2 then 700 else 750
  | 3733 => if mult = 4 then 547 else if mult = 2 then 612 else 656
  | _ => 0

/-- The beats of DRAM (R288): 4, 8 or 16 GiB in beats of 64 bytes. -/
def dramBeats (s : State) : Nat := 2 ^ (26 + strap s 7)

/-- The admission guard ⌈0.075 × C⌉ and the budget B = C − guard − 14 (R296). -/
def guardOf (c : Nat) : Nat := ceilDiv (75 * c) 1000
def budgetOf (c : Nat) : Nat := c - guardOf c - 14

/-- The refresh multiplier applied (2300:03), and the next higher one. -/
def refresh (s : State) : Nat := get s 0x2300 3
def nextRefresh (m : Nat) : Nat := if m = 1 then 2 else 4

/-- DRAM temperature T in 0.1 °C (R298). -/
def dramTemp (s : State) : Int :=
  let i := get s 0x2300 7
  if i = 255 ∨ (ain s i).broken then tj s else (ain s i).x

/-- The threshold of the next higher multiplier (R299); none at 4×. -/
def threshold (s : State) : Option Int :=
  match refresh s with
  | 1 => some (getS s 16 0x2300 8)
  | 2 => some (getS s 16 0x2300 9)
  | _ => none

/-- The hysteresis of the pessimistic capacity follows the temperature (R299). -/
def followHeat (s : State) : State :=
  match threshold s with
  | none => { s with mem := { s.mem with raised := false } }
  | some th =>
    let t := dramTemp s
    { s with mem := { s.mem with raised := if th - 50 ≤ t then true else if t < th - 70 then false else s.mem.raised } }

/-- Pessimistic capacity Cp and its budget (R299; 2300:0A, :0B). -/
def pessimistic (s : State) : Nat := capacity s (if s.mem.raised then nextRefresh (refresh s) else refresh s)
def budget (s : State) : Nat := budgetOf (pessimistic s)

/-! ## Reservations (R303 to R305, R313) -/

/-- Beats that station st of a sheet holds at press time t: its charge from admission to E_s (R305; log 30). -/
def Sheet.holdsAt (sh : Sheet) (t st : Nat) : Nat := if t < tabGet 0 sh.endAt st then tabGet 0 sh.charge st else 0

/-- Beats that a sheet holds at press time t, over all stations. -/
def Sheet.heldAt (sh : Sheet) (t : Nat) : Nat :=
  if sh.admitted || sh.committed then ((List.range 6).map fun st => sh.holdsAt t st).foldl Nat.add 0 else 0

/-- The held station total at press time t (2300:0C at present). -/
def heldBeats (s : State) (t : Nat) : Nat := (s.sheets.map fun sh => sh.heldAt t).foldl Nat.add 0
def heldNow (s : State) : Nat := heldBeats s s.time

/-- The sum of configured guarantees of ENABLED tenants (R308). -/
def guarantees (s : State) : Nat :=
  ((List.range 64).map fun n => if (tenant s n).state == .enabled then get s (0x5000 + n) 9 else 0).foldl Nat.add 0

/-- The beats left for guarantees and scrub: A = B − H_now, none when that is negative (R313). -/
def leftBeats (s : State) : Nat := budget s - heldNow s

/-- Whether held reservations exceed the budget (R314). -/
def overBudget (s : State) : Bool := decide (budget s < heldNow s)

/-- The ingest factor f as a fraction of G: min(1, A / G), 1 without guarantees (R313), 0 over the budget (R314). Numerator and denominator. -/
def ingestFactor (s : State) : Nat × Nat :=
  let g := guarantees s
  if overBudget s then (0, 1) else if g = 0 then (1, 1) else (min (leftBeats s) g, g)

/-- Effective guarantee of tenant n (5000+n:11). -/
def effective (s : State) (n : Nat) : Nat :=
  let f := ingestFactor s
  if (tenant s n).state == .enabled then get s (0x5000 + n) 9 * f.1 / f.2 else 0

/-- The scrub share (2300:0E). -/
def scrubShare (s : State) : Nat := min (get s 0x2300 0x0F) (leftBeats s - guarantees s * (ingestFactor s).1 / (ingestFactor s).2)

/-- Reservation in force of client c (R300; 2320:01 to :0B). -/
def reservation (s : State) (c : Nat) : Nat :=
  if c < 6 then (s.sheets.map fun sh => if sh.admitted || sh.committed then sh.holdsAt s.time c else 0).foldl Nat.add 0
  else if c = 6 then ((List.range 64).map (effective s)).foldl Nat.add 0
  else if c = 7 then scrubShare s
  else if c = 8 then 8 else if c = 9 then 2 else 4

/-- Held reservations that come to exceed the budget, by the one or by the other, are a WARN (R314). -/
def watchBudget (old s : State) : State :=
  if overBudget s && !overBudget old then log s clsWarn 1 6 255 0x2300 0x0B none (budget s) else s

/-- The capacity follows temperature and refresh (R299, R314). -/
def capacityFrom (old s : State) : State := watchBudget old (followHeat s)

/-- An input that stands for the DRAM temperature and is BROKEN raises a WARN (R298). -/
def brokenInput (s : State) (i : Nat) : State :=
  if get s 0x2300 7 = i ∧ i ≠ 255 ∧ (ain s i).broken then log s clsWarn 1 6 255 0x2300 7 none i else s

/-! ## The admission test (R304, R306, R308) -/

/-- The charge of station st for a worst band length (R303): ⌈W × λ / 4,096,000,000⌉. -/
def chargeOf (s : State) (st w : Nat) : Nat := ceilDiv (w * processSpeed s st * processRes s st) (25400 * 4096000000)

/-- The admission lead in ticks (R304): the larger of 2300:11 and the time of 256 lines plus 1 ms. -/
def admissionLead (s : State) : Nat := max (ticksMs (get s 0x2300 0x11)) (linesTicks s 0 256 + ticksMs 1)

/-- offset[s] in ticks (R359): image-start offset at the process speed plus k nominal facet periods. -/
def stationOffset (s : State) (st : Nat) : Int :=
  ((roundDiv (get s (geoIdx st) 0x0A * 1500000000) (max 1 (processSpeed s st)) : Nat) : Int) + wholeScans s st * (facetPeriod s st : Nat) / 16

/-- The sheet period in ticks (R307): lines / λ plus the minimum gap at the process speed. -/
def sheetPeriod (s : State) (lines : Nat) : Nat :=
  linesTicks s 0 lines + roundDiv (get s 0x2300 0x12 * 1500000000) (max 1 (processSpeed s 0))

/-- The previous sheet of R307 and R308, the last one fixed and not withdrawn: its first IMAGE event on ST0 and its period. -/
def previousSheet (s : State) : Option (Nat × Nat) :=
  (s.sheets.filter fun sh => sh.admitted || sh.committed).foldl (fun b sh => match b with
    | none => some (sh.i0, sheetPeriod s sh.lines)
    | some q => if q.1 < sh.i0 then some (sh.i0, sheetPeriod s sh.lines) else b) (s.mem.lastI0.map fun i => (i, s.mem.lastPeriod))

/-- P of R308: at least 312.5 ms, doubled by heat (R311, R312). -/
def leastPeriod (s : State) (period : Nat) : Nat :=
  let p := max period 468750000
  if s.mem.doubled then 2 * p else p

/-- A sheet's IMAGE times, windows and charges from I0 (R303, R304, R308). -/
structure Plan where
  i0 : Nat
  imageAt : Tab Nat
  endAt : Tab Nat
  winAt : Tab Nat
  charge : Tab Nat
deriving DecidableEq, Repr

/-- The plan of a sheet whose first IMAGE event on ST0 is at i0. -/
def planOf (s : State) (sh : Sheet) (i0 : Nat) : Plan :=
  let at_ (st : Nat) : Nat := ((i0 : Int) + stationOffset s st).toNat
  { i0 := i0, imageAt := (stationsPresent s).map fun st => (st, at_ st),
    endAt := sh.stations.map fun st => (st, at_ st + linesTicks s st sh.lines),
    winAt := sh.stations.map fun st => (st, at_ st - admissionLead s),
    charge := sh.stations.map fun st => (st, chargeOf s st (sh.planes.getD st {}).worst) }

/-- Beats that a plan holds at t. -/
def Plan.heldAt (p : Plan) (t : Nat) : Nat :=
  (p.charge.map fun c => if tabGet 0 p.winAt c.1 ≤ t ∧ t < tabGet 0 p.endAt c.1 then c.2 else 0).foldl Nat.add 0

/-- Peak H over the plan's windows of held reservations and the plan's own (R308). What other sheets hold only falls with time (R305), so that the
peak is reached where a window of the plan begins, and moving I0 later never raises it (R309). -/
def peakBeats (s : State) (p : Plan) : Nat := ((p.winAt.map (·.2)).map fun t => heldBeats s t + p.heldAt t).foldl max 0

/-- Cut-through permission of a station (R306): 2 × beams × depth / (8 × pixel period) at most 2.4 GB/s. -/
def mayCutThrough (s : State) (st : Nat) : Bool := decide (20000 * beams s st * rasterDepth s st ≤ 192 * pixelPeriod s st)

/-- A station's cut-through mask for a sheet. -/
def cutMask (s : State) (sh : Sheet) : Nat := (sh.stations.filter fun st => mayCutThrough s st).foldl (fun m st => m + 2 ^ st) 0

end Sys2Proof.Machine
end

