-- ==== Sys2Proof/Machine/NetOps.lean ====
section
/-! DEFINITION. Field ports: airtime, slots, frames sent, partner states, roll-call blocks and polls, MODE and NOTICE frames,
sessions (R201 to R254). -/

namespace Sys2Proof.Machine

/-- The index of port p and of partner n. -/
def portIdx (p : Nat) : Nat := 0x1110 + p
def partnerIdx (n : Nat) : Nat := 0x6000 + n

/-- The node-only role (R253). -/
def nodeOnly (s : State) : Bool := strap s 10 == 1

/-- The uplink port (1100:05); 255 none. -/
def uplink (s : State) : Nat := if nodeOnly s then homePort s else get s 0x1100 5

/-- Whether port p is enabled (1110+p:01), not left off after a bus-off (R205), and in the role's set (R253). -/
def portEnabled (s : State) (p : Nat) : Bool :=
  decide (p < 7) && flag s (portIdx p) 1 && !(port s p).dead && (!nodeOnly s || p == homePort s)

/-- Whether the mode keeps port p awake (R49, R111, R170, R254). -/
def portAwake (s : State) (p : Nat) : Bool :=
  match s.md.mode with
  | .kickoff => decide (12 ≤ get s 0x2020 1) && !s.reset_.running
  | .terp => p == homePort s
  | .doze => p == homePort s || p == 6
  | .shutdown => false
  | _ => true

/-- Whether port p serves and sends. -/
def portLive (s : State) (p : Nat) : Bool := portEnabled s p && portAwake s p && !(port s p).recovering

/-- Whether the TZ640 manages port p: not the uplink (R252). -/
def managed (s : State) (p : Nat) : Bool := !nodeOnly s && p != uplink s

/-- Whether port p runs classical CAN (1110+p:03). -/
def classicalPort (s : State) (p : Nat) : Bool := decide (p < 4) && get s (portIdx p) 3 == 0

/-- Whether the partner n on port p is answered in classical frames (R204): the port is classical, or its last frame was. -/
def classicalTo (s : State) (p n : Nat) : Bool := classicalPort s p || decide (p < 4) && (port s p).classical.contains n

/-- The level of CANn_STB (R202): high for standby, low for normal operation, that is on an enabled port that the mode keeps awake (R111; log 142). -/
def canStb (s : State) (p : Nat) : Bool := !(portEnabled s p && portAwake s p)

/-! ## Limits of the carriers (R206, R212) -/

/-- Maximum payload in bytes, expedited read and write limits, data bytes of a segment. -/
def payloadMax (p : Nat) (classical : Bool) : Nat := if classical then 8 else if p < 4 then 64 else 1032
def expRead (p : Nat) (classical : Bool) : Nat := if classical then 5 else if p < 4 then 61 else 240
def expWrite (p : Nat) (classical : Bool) : Nat := if classical then 2 else if p < 4 then 58 else 240
def segMax (p : Nat) (classical : Bool) : Nat := if classical then 2 else if p < 4 then 58 else 1024

/-- The next DLC size of CAN FD (R206). -/
def dlcSize (l : Nat) : Nat :=
  if l ≤ 8 then l else if l ≤ 12 then 12 else if l ≤ 16 then 16 else if l ≤ 20 then 20 else if l ≤ 24 then 24
  else if l ≤ 32 then 32 else if l ≤ 48 then 48 else 64

/-- Airtime of a frame with L payload bytes on port p, in a classical frame or in the port's own format, in ns (R239). T1S runs at 10 Mbit/s; ETH
is reckoned at 1 Gbit/s. -/
def airtime (s : State) (p : Nat) (classical : Bool) (l : Nat) : Nat :=
  let nom := max 1 (get s (portIdx p) 2)
  let data := if classical then 0 else get s (portIdx p) 3
  if p < 4 then
    (if data = 0 then ceilDiv ((80 + 10 * l) * 1000000000) nom
     else ceilDiv (60 * 1000000000) nom + ceilDiv ((40 + 10 * dlcSize l) * 1000000000) data)
  else if p < 6 then (max 64 (14 + 8 + l + 4) + 20) * 800
  else (max 64 (14 + 28 + 8 + l + 4) + 20) * 8

/-- Slot length of port p in µs (R226): airtime of an 8-byte answer plus 40 µs, rounded up to 10 µs; 20 µs on ETH, 0 on T1S. -/
def slotUs (s : State) (p : Nat) : Nat :=
  if p < 4 then 10 * ceilDiv (airtime s p false 8 + 40000) 10000 else if p = 6 then 20 else 0

/-! ## Partners -/

/-- The state of partner n (6000+n:01). -/
def partnerState (s : State) (n : Nat) : Nat := get s (partnerIdx n) 1

/-- Partners 1 to 2046 whose record names port p, ascending (6000+n:02): only listed objects can name one. -/
def assigned (s : State) (p : Nat) : List Nat :=
  s.dict.filterMap fun q =>
    if 0x6001 ≤ q.1 / 256 ∧ q.1 / 256 ≤ 0x67FE ∧ q.1 % 256 = 2 ∧ q.2 = p then some (q.1 / 256 - 0x6000) else none

/-- Partners in state v, ascending. -/
def partnersIn (s : State) (v : Nat) : List Nat :=
  s.dict.filterMap fun q =>
    if 0x6001 ≤ q.1 / 256 ∧ q.1 / 256 ≤ 0x67FE ∧ q.1 % 256 = 1 ∧ q.2 = v then some (q.1 / 256 - 0x6000) else none

/-- The members of block j of port p (R227). -/
def blockOf (s : State) (p j : Nat) : List Nat := (assigned s p).filter fun n => (n - 1) / 32 == j

/-- B and K of block j (R227). -/
def blockRange (l : List Nat) : Nat × Nat := (l.foldl min 2046, l.foldl max 0 - l.foldl min 2046 + 1)

/-- The first block from j on that is not empty; none when round 1 is over. -/
def nextBlock (s : State) (p j : Nat) : Option Nat := (List.range 64).find? fun k => decide (j ≤ k) && !(blockOf s p k).isEmpty

/-- Round-1 duration D in µs (R231) of a set of assigned partners under a slot length. -/
def roundOf (l : List Nat) (slot : Nat) : Nat :=
  ((List.range 64).map fun j =>
    let b := l.filter fun n => (n - 1) / 32 == j
    if b.isEmpty then 0 else ((blockRange b).2 + 1) * slot).foldl Nat.add 0

/-- D of port p in µs. -/
def roundUs (s : State) (p : Nat) : Nat := if p = 4 ∨ p = 5 then 5000 else roundOf (assigned s p) (slotUs s p)

/-! ## Sending -/

/-- The source number of the TZ640 on port p: the node number of 1100:03 on the uplink, else 0 (R252). -/
def ownNumber (s : State) (p : Nat) : Nat := if p = uplink s then get s 0x1100 3 else 0

/-- The priority of a message type (R208). -/
def typePriority (type : Nat) : Nat :=
  if type = 0x0A ∨ type = 0x0F then 0 else if type = 8 ∨ type = 9 then 1 else if 0x0B ≤ type ∧ type ≤ 0x0D then 2 else 3

/-- The extended identifier of a TDP frame on CAN (R206). -/
def canIdent (type dst src : Nat) : Nat := typePriority type * 2 ^ 27 + type * 2 ^ 22 + dst * 2 ^ 11 + src

/-- The 8-byte header of a PDU on T1S and ETH (R207): version, type with priority and the authenticated bit, destination, source, length. -/
def pduHeader (type dst src len : Nat) (auth : Bool) : List Byte :=
  [1] ++ leBytes 1 (type + 32 * typePriority type + 128 * ofBool auth) ++ leBytes 2 dst ++ leBytes 2 src ++ leBytes 2 len

/-- The MAC address of partner n (R207). -/
def macOf (n : Nat) : List Byte := if n = 2047 then List.replicate 6 0xFF else [0x02, 0x54, 0x44, 0x50] ++ beBytes 2 n

/-- The message types that answer a partner (R204, R208): responses, ABORT, SEGMENT and SEGMENT ACK. -/
def answerType (type : Nat) : Bool := type == 2 || decide (4 ≤ type ∧ type ≤ 7)

/-- Whether a frame to partner n leaves port p as a classical frame (R204). -/
def classicalFrame (s : State) (p type n : Nat) : Bool := if answerType type then classicalTo s p n else classicalPort s p

/-- Octets padded with zeros up to a length. -/
def padTo (n : Nat) (l : List Byte) : List Byte := l ++ List.replicate (n - l.length) 0

/-- Where a datagram to partner n goes on ETH (R207): to the peer that is answered, to everyone, to the line manager's address, or to
the record's IPv4 address at the UDP port of 1116:05. -/
def udpPeer (s : State) (n : Nat) (peer : Option (Nat × Nat)) : Nat × Nat :=
  match peer with
  | some q => q
  | none => if n = 2047 then (0xFFFFFFFF, get s 0x1116 5)
    else if n = 0 then s.net.lineAt.getD (get s (partnerIdx 0) 5, get s 0x1116 5) else (get s (partnerIdx n) 5, get s 0x1116 5)

/-- A TDP frame as it leaves port p (R206, R207). -/
def wireOf (s : State) (p : Nat) (o : Outgoing) : Wire :=
  let src := ownNumber s p
  let body := pduHeader o.type o.dst src o.payload.length (!o.trailer.isEmpty) ++ o.payload ++ o.trailer
  if p < 4 then
    (if classicalFrame s p o.type o.dst then .can (canIdent o.type o.dst src) false o.payload
     else .can (canIdent o.type o.dst src) true (padTo (dlcSize o.payload.length) o.payload))
  else if p < 6 then .t1s (macOf o.dst) (macOf src) (get s (portIdx p) 5) body
  else
    let q := udpPeer s o.dst o.peer
    .udp q.1 q.2 (get s 0x1116 5) body

/-- A TDP frame leaves port p: counted in 1110+p:11. A port that is off sends nothing. -/
def putFrame (s : State) (p : Nat) (o : Outgoing) : State :=
  if portEnabled s p then
    emit (bump s (portIdx p) 0x11) (.frame p o.type o.dst (ownNumber s p) o.payload (wireOf s p o))
  else s

/-- A frame that no airtime dike holds back. -/
def sendFrame (s : State) (p type dst : Nat) (payload : List Byte) : State :=
  putFrame s p { type := type, dst := dst, payload := payload, peer := none }

/-- A broadcast on several ports. -/
def broadcast (s : State) (ports : List Nat) (type : Nat) (payload : List Byte) : State :=
  ports.foldl (fun t p => sendFrame t p type 2047 payload) s

/-- The payload of ABORT, of WRITE RESPONSE and of READ RESPONSE with an abort (R209). -/
def abortPayload (tid code : Nat) : List Byte := leBytes 1 tid ++ [0] ++ leBytes 2 code
def writeResponse (tid status code : Nat) : List Byte := leBytes 1 tid ++ leBytes 1 status ++ leBytes 2 code
def readAbort (tid code : Nat) : List Byte := leBytes 1 tid ++ [2] ++ leBytes 2 code

/-- Expedited and segmented READ RESPONSE (R209). -/
def readExpedited (tid : Nat) (d : List Byte) : List Byte := leBytes 1 tid ++ [0] ++ leBytes 1 d.length ++ d
def readSegmented (tid total : Nat) : List Byte := leBytes 1 tid ++ [1, 0] ++ leBytes 4 total

/-- SEGMENT and SEGMENT ACK (R209). -/
def segmentPayload (tid : Nat) (last : Bool) (seq : Nat) (d : List Byte) : List Byte :=
  leBytes 1 tid ++ leBytes 1 (ofBool last) ++ leBytes 2 seq ++ leBytes 2 d.length ++ d
def ackPayload (tid seq : Nat) : List Byte := leBytes 1 tid ++ [0] ++ leBytes 2 seq

/-- ROLLCALL (R209). -/
def rollcallPayload (round b k slot : Nat) : List Byte := leBytes 1 round ++ [0] ++ leBytes 2 b ++ leBytes 2 k ++ leBytes 2 slot

/-- The MODE frames of a mode change (R254): none for an entry to KICKOFF; the ports awake in the mode reached, and on the way
to SHUTDOWN those that were awake. -/
def modeFrames (s : State) (new old : Mode) (cause : Nat) (awake : List Nat) : State :=
  if new = .kickoff then s else broadcast s awake 0x0F (leBytes 1 (modeCode new) ++ leBytes 1 (modeCode old) ++ leBytes 1 cause ++ [0])

/-- The live ports. -/
def livePorts (s : State) : List Nat := (List.range 7).filter (portLive s)

/-! ## Partner states (R223, R225) -/

/-- Sets the state of a partner. -/
def setPartner (s : State) (n v : Nat) : State := put s (partnerIdx n) 1 v

/-- The loss response of a PRESENT partner that becomes LOST or ABSENT (R225): true asks for SAFESTOP with cause 0x0C. -/
def lossResponse (s : State) (n : Nat) : State × Bool :=
  match get s (partnerIdx n) 7 with
  | 0 => (noticeAlone s (partnerIdx n) 1 clsNotice, false)
  | 1 => (logEvent s clsFault 4 n (partnerIdx n) 1, false)
  | _ => (logEvent s clsFault 4 n (partnerIdx n) 1, true)

/-- The instance number of a lost partner as a persisting cause (R563). -/
def partnerCause (n : Nat) : Nat := 200000 + n

/-- A partner goes to a state: leaving PRESENT for LOST or ABSENT acts the loss response; coming back to PRESENT ends its cause. -/
def partnerTo (s : State) (n v : Nat) : State × Bool :=
  let old := partnerState s n
  let t := setPartner s n v
  if v = 2 then (causeEnd t 0x0C (partnerCause n), false)
  else if old = 2 ∧ (v = 3 ∨ v = 4) then lossResponse t n
  else (t, false)

/-- Whether the identity that a partner reports is the expected one (R224). -/
def identityOk (s : State) (n id : Nat) : Bool := get s (partnerIdx n) 3 == 0 || get s (partnerIdx n) 3 == id

/-! ## The object that an access names -/

/-- The object behind a view of the Patron range (R89), and whether its octets run the other way round: in all of 4000 to 47FF (R4). -/
def viewOf (idx : Nat) : Nat × Bool :=
  (if idx = 0x4000 then 0x2000 else if idx = 0x4010 then 0x5040 else idx, decide (0x4000 ≤ idx ∧ idx < 0x4800))

/-- Whether an index belongs to an absent station, its loops, its link or its tracker (R13). -/
def absent (s : State) (idx : Nat) : Bool :=
  if 0x3000 ≤ idx ∧ idx < 0x30C0 then !present s ((idx - 0x3000) / 0x20)
  else if 0x2500 ≤ idx ∧ idx < 0x2512 then !trackerPresent s (idx - 0x2500)
  else if 0x3808 ≤ idx ∧ idx < 0x3820 then !present s (idx % 8)
  else if 0x3900 ≤ idx ∧ idx < 0x3930 then !loopPresent s (idx - 0x3900)
  else if 0x4800 ≤ idx ∧ idx < 0x480C then !motorPresent s (idx - 0x4800)
  else false

/-- Whether a subindex of an index belongs to an absent station (R13): the DLL objects of 2230. -/
def absentSub (s : State) (idx sub : Nat) : Bool := idx == 0x2230 && decide (1 ≤ sub ∧ sub ≤ 12) && !present s ((sub - 1) % 6)

/-- Why an object cannot be named (R51, R52, R13, R139): 0 when it can. -/
def nameCode (s : State) (idx sub : Nat) : Nat :=
  let i := (viewOf idx).1
  if 0x4000 ≤ idx ∧ idx < 0x4800 ∧ !patron s then 0x0101
  else if (rowsOf i).isEmpty ∨ absent s i then 0x0101
  else if sub = 0 then 0
  else if absentSub s i sub then 0x0101
  else if (rowOf i sub).isNone then 0x0102
  else 0

/-! ## Airtime dikes (R239 to R242) -/

/-- The share of partner n (1140:01). -/
def shareOf (s : State) (n : Nat) : Nat := leAt (getBlob s 0x1140 1) (2 * n) 2

/-- The size in bytes of a map's data (R236): its entries' types. -/
def mapEntries (s : State) (m : Nat) : List Nat := (List.range (get s (0x1200 + m) 1 / 2 ^ 24)).map fun k => get s (0x1200 + m) (2 + k)

/-- Index and subindex of a map entry. -/
def entryIdx (e : Nat) : Nat := e % 65536
def entrySub (e : Nat) : Nat := field e 16 8

/-- Size of a mapped object, if it is of fixed size, behind the Patron views as well (R89, R235); subindex 00 is a U8 (R51). -/
def entrySize (e : Nat) : Nat :=
  if entrySub e = 0 then 1
  else match rowOf (viewOf (entryIdx e)).1 (entrySub e) with
    | some r => r.ty.size
    | none => 0

/-- Bytes of mapped data. -/
def mapBytes (s : State) (m : Nat) : Nat := ((mapEntries s m).map entrySize).foldl Nat.add 0

/-- Header fields of map m (R235). -/
def mapPartner (s : State) (m : Nat) : Nat := get s (0x1200 + m) 1 % 2048
def mapIn (s : State) (m : Nat) : Bool := (get s (0x1200 + m) 1).testBit 11
def mapDivider (s : State) (m : Nat) : Nat := field (get s (0x1200 + m) 1) 16 8

/-- Whether a store key is that of a map. -/
def isMapKey (k : Nat) : Bool := decide (0x1200 ≤ k / 256 ∧ k / 256 < 0x1280)

/-- The state with the maps that the running cycle has taken, for the reading of maps only (R65 group 15). -/
def cycleMaps (s : State) : State := { s with dict := s.net.maps }

/-- The maps in use, ascending: divider not 0. Only listed headers can be. -/
def mapsInUse (s : State) : List Nat :=
  s.dict.filterMap fun q => if 0x1200 ≤ q.1 / 256 ∧ q.1 / 256 < 0x1280 ∧ q.1 % 256 = 1 ∧ field q.2 16 8 ≠ 0 then some (q.1 / 256 - 0x1200) else none

/-- The ports on which a map runs: the partner's port, or every managed port for the broadcast address. -/
def mapPorts (s : State) (m : Nat) : List Nat :=
  if mapPartner s m = 2047 then (List.range 7).filter fun p => portEnabled s p && managed s p
  else (List.range 7).filter fun p => get s (partnerIdx (mapPartner s m)) 2 == p

/-- The cyclic phase C of port p in ns (R239): SYNC and every map frame. -/
def cyclicNs (s : State) (p : Nat) : Nat :=
  airtime s p false (if classicalPort s p then 8 else 12) +
    (((mapsInUse s).filter fun m => (mapPorts s m).contains p).map fun m => airtime s p false (2 + mapBytes s m)).foldl Nat.add 0

/-- The acyclic airtime A of port p in ns (R239): 0.9 × cycle − C. -/
def acyclicNs (s : State) (p : Nat) : Int := ((get s 0x1100 1 * 900 : Nat) : Int) - (cyclicNs s p : Nat)

/-- Credit of a partner in ns, and the debit of a frame's airtime from credit, else from the port's pool (R241). -/
def creditOf (s : State) (n : Nat) : Int := tabGet 0 s.net.credit n
def debit (s : State) (p n ns : Nat) : State :=
  if (ns : Int) ≤ creditOf s n then { s with net := { s.net with credit := tabSet s.net.credit n (creditOf s n - ns) } }
  else setPort s p fun x => { x with pool := x.pool - ns }

/-- Whether a frame from a partner finds credit and pool exhausted (R242). -/
def overruns (s : State) (p n ns : Nat) : Bool := decide (creditOf s n < ns) && decide ((port s p).pool < ns)

/-- The credits of a cycle start: share × A / 65,536 per partner, capped at 64 cycles; the pool is what no share reserves (R240, R241). A partner
with share 0 never has a positive credit; after an overrun it is served again from the next cycle start (DESIGN CHOICE, log 137). -/
def creditCycle (s : State) (p : Nat) : State :=
  let a := acyclicNs s p
  let sh := (assigned s p).map fun n => (n, shareOf s n)
  let c := sh.foldl (fun (t : Tab Int) q =>
    let e := (q.2 : Int) * a / 65536
    tabSet t q.1 (min (64 * e) (tabGet 0 t q.1 + e))) s.net.credit
  let used := (sh.map (·.2)).foldl Nat.add 0
  let owing := s.net.owing.filter fun n => !(sh.any fun q => q.1 == n && (q.2 == 0 || decide (0 < tabGet 0 c n)))
  setPort { s with net := { s.net with credit := c, owing := owing } } p fun x => { x with pool := a * (65536 - (used : Nat)) / 65536 }

/-! ## Acyclic frames and their queues (R241, R243) -/

/-- Whether network cycles run in the mode (R434, R254). -/
def cyclesRun (s : State) : Bool :=
  match s.md.mode with
  | .kickoff => decide (12 ≤ get s 0x2020 1) && !s.reset_.running
  | .terp => false | .doze => false | .shutdown => false
  | _ => true

/-- Whether the airtime dikes hold on port p: after roll-call (06_field_network.md, "A partner floods a port before roll-call"). -/
def dikeOn (s : State) (p : Nat) : Bool := cyclesRun s && s.md.mode != .kickoff && managed s p

/-- Whether credit or pool covers a frame to or from partner n (R241). -/
def covers (s : State) (p n ns : Nat) : Bool := !dikeOn s p || !overruns s p n ns

/-- The airtime of a frame that waits, or goes out, in ns (R239). -/
def frameNs (s : State) (p : Nat) (o : Outgoing) : Nat :=
  airtime s p (classicalFrame s p o.type o.dst) (o.payload.length + o.trailer.length)

/-- A frame goes out at once: debited where the dikes hold. -/
def sendOut (s : State) (p : Nat) (o : Outgoing) : State := putFrame (if dikeOn s p then debit s p o.dst (frameNs s p o) else s) p o

/-- The queues of port p take a new content; their watermarks follow (R243). -/
def setTx (s : State) (p : Nat) (l : List Outgoing) : State :=
  watch true (setPort s p fun x => { x with tx := l }) (portIdx p) 0x28 (port s p).tx.length l.length
def setRx (s : State) (p : Nat) (l : List (FrameSrc × Pdu)) : State :=
  watch true (setPort s p fun y => { y with rx := l }) (portIdx p) 0x20 (port s p).rx.length l.length

/-- Whether the transmit queue of port p is full (R243). -/
def txFull (s : State) (p : Nat) : Bool := decide (256 ≤ (port s p).tx.length)

/-- An acyclic frame is sent, or waits in queue order until credit or pool covers it; a full queue drops it (R241, R243). -/
def queueOut (s : State) (p : Nat) (o : Outgoing) : State :=
  let q := (port s p).tx
  if covers s p o.dst (frameNs s p o) && !(q.any fun f => f.dst == o.dst) then sendOut s p o
  else if txFull s p then sat s (portIdx p) 0x17
  else setTx s p (q ++ [o])

/-- An acyclic frame without authentication. -/
def sendAcyclic (s : State) (p type dst : Nat) (payload : List Byte) (peer : Option (Nat × Nat)) : State :=
  queueOut s p { type := type, dst := dst, payload := payload, peer := peer }

/-- The waiting frames of port p go out in queue order as credit and pool cover them. -/
def drainTx (s : State) (p : Nat) : State :=
  let r := (port s p).tx.foldl (fun (a : State × List Outgoing) o =>
    if covers a.1 p o.dst (frameNs a.1 p o) && !(a.2.any fun f => f.dst == o.dst) then (sendOut a.1 p o, a.2) else (a.1, a.2 ++ [o])) (s, [])
  setTx r.1 p r.2

/-! ## Roll-call (R227, R230) -/

/-- Press time in ticks at which the collection of answers to a ROLLCALL sent now ends (R227, R230): slots × slot length after the frame; 5 ms on T1S. -/
def windowEnd (s : State) (p slots : Nat) : Nat :=
  if p = 4 ∨ p = 5 then s.time + ticksMs 5 else s.time + ceilDiv (airtime s p false 8 * 3) 2 + ticksUs (slots * slotUs s p)

/-- Starts the next block of round 1 on port p from block j on, or ends the round; T1S asks all numbers at once. -/
def startBlock (s : State) (p j : Nat) : State :=
  if p = 4 ∨ p = 5 then
    if j = 0 then
      sendFrame (setPort s p fun x => { x with round := 1, block := 0, window := windowEnd s p 2046 }) p 0x0B 2047 (rollcallPayload 1 1 2046 0)
    else setPort s p fun x => { x with round := 2, polled := none }
  else match nextBlock s p j with
    | some k =>
      let r := blockRange (blockOf s p k)
      sendFrame (setPort s p fun x => { x with round := 1, block := k, window := windowEnd s p r.2 }) p 0x0B 2047
        (rollcallPayload 1 r.1 r.2 (slotUs s p))
    | none => setPort s p fun x => { x with round := 2, polled := none }

/-- The ROLLCALL of round 2 to one partner (R230). -/
def pollFrame (s : State) (p n : Nat) : Outgoing := { type := 0x0B, dst := n, payload := rollcallPayload 2 n 1 (slotUs s p), peer := none }

/-- Polls one partner (R230). -/
def poll (s : State) (p n : Nat) : State :=
  let t := setPort s p fun x =>
    { x with polled := some n, lastPolled := n, window := windowEnd s p 4, pollOrder := x.pollOrder.filter fun m => m != n }
  queueOut t p (pollFrame s p n)

/-- Polls the first of the idle partners that wait for it, when no poll is open on the port and credit or pool covers it (R241, R245). -/
def pollIdle (s : State) (p : Nat) : State :=
  if (port s p).polled.isSome then s
  else match (port s p).toPoll with
    | [] => s
    | n :: l => if covers s p n (frameNs s p (pollFrame s p n)) then poll (setPort s p fun x => { x with toPoll := l }) p n else s

/-- The next poll of round 2: the lowest partner of the port that is still EXPECTED; with none, round 2 has ended (R230). -/
def nextPoll (s : State) (p : Nat) : State :=
  match (assigned s p).find? fun n => partnerState s n == 1 with
  | some n => poll s p n
  | none => pollIdle (setPort s p fun x => { x with round := 3, polled := none }) p

/-- The ports that take part in the roll-call: enabled and not the uplink (R227). -/
def rollcallPorts (s : State) : List Nat := (List.range 7).filter fun p => portLive s p && managed s p

/-- Whether round 2 has ended on every port of the roll-call (R230). -/
def rollcallOver (s : State) : Bool := (rollcallPorts s).all fun p => (port s p).round == 3

/-! ## Restart of a port and poll order (R231, R232, R205) -/

/-- The port restarts with empty queues (06_field_network.md, objects); a write of its enable ends the off state of R205. -/
def restartPort (s : State) (p : Nat) (enable : Bool) : State :=
  setPort (setRx (setTx s p []) p []) p fun x => { x with dead := x.dead && !enable, recovering := false, classical := [], pool := 0 }

/-- A partner goes to the front of the poll order of the port that its record names (R232). -/
def pollFirst (s : State) (n : Nat) : State :=
  if get s (partnerIdx n) 2 < 7 then setPort s (get s (partnerIdx n) 2) fun x => { x with pollOrder := n :: x.pollOrder.filter fun m => m != n }
  else s

/-- The poll order of a port: partners moved to the front, then the others that are ABSENT or still EXPECTED, ascending, after the last polled one (R232). -/
def absentOrder (s : State) (p : Nat) : List Nat :=
  let abs := (assigned s p).filter fun n => partnerState s n == 3 || partnerState s n == 1
  let front := (port s p).pollOrder.filter fun n => abs.contains n
  let rest := abs.filter fun n => !front.contains n
  let last := (port s p).lastPolled
  front ++ rest.filter (fun n => decide (last < n)) ++ rest.filter fun n => decide (n ≤ last)

/-! ## Notices (R244) -/

/-- Merges the notices of one object, keeping order: counts add, the class is the highest; the number of merges. -/
def mergeNotices : List (Nat × Nat × Nat) → List (Nat × Nat × Nat) × Nat
  | [] => ([], 0)
  | (k, c, n) :: t =>
    let r := mergeNotices t
    match r.1.find? fun q => q.1 == k with
    | some q => ((k, max c q.2.1, min (n + q.2.2) 65535) :: r.1.filter (fun p => p.1 != k), r.2 + 1)
    | none => ((k, c, n) :: r.1, r.2)

/-- One NOTICE frame (R209, R244): to the notice sink, and to partner 0 on the uplink (R252). -/
def sendNotice (s : State) (q : Nat × Nat × Nat) : State :=
  let sink := get s 0x1100 4
  let p := get s (partnerIdx sink) 2
  let pay := leBytes 1 s.net.noticeSeq ++ leBytes 1 q.2.1 ++ leBytes 2 (q.1 / 256) ++ leBytes 1 (q.1 % 256) ++ [0] ++ leBytes 2 q.2.2
  let t := if portLive s p then sendAcyclic s p 0x0D sink pay none else s
  let t := if portLive t (uplink t) then sendAcyclic t (uplink t) 0x0D 0 pay none else t
  { t with net := { t.net with noticeSeq := (t.net.noticeSeq + 1) % 256 } }

/-- The NOTICE frames of a network cycle (R244): of what was raised before it; a notice that the sending raises waits for the next cycle. -/
def sendNotices (s : State) : State :=
  let r := mergeNotices s.net.noticeQueue
  r.1.foldl sendNotice (satBy 16 { s with net := { s.net with noticeQueue := [] } } 0x1100 0x0C r.2)

/-! ## Sessions (R248 to R250) -/

/-- The session at an address and UDP port. -/
def sessionAt (s : State) (ip udp : Nat) : Option Session := s.net.sessions.find? fun x => x.ip == ip && x.udpPort == udp
def sessionOf (s : State) (id : Nat) : Option Session := s.net.sessions.find? fun x => x.id == id

/-- An authentication drop is counted (2700:2A). -/
def authDrop (s : State) : State := sat s 0x2700 0x2A

/-- A notice-less reset of what an accessor has of its own: staging view, log cursor, log source (R79, R571). -/
def dropAcc (s : State) (a : Accessor) : State := { s with accs := s.accs.filter fun p => p.1 != a }

/-- A stager's hold ends (R78): every group that it stages and that is not armed is discarded, each with a NOTICE entry. -/
def releaseStager (s : State) (a : Accessor) : State :=
  let gs := ((s.stagers.filter fun p => p.2 == a).map (·.1)).filter fun g => !s.armed.contains g
  let t := { s with stagers := s.stagers.filter fun p => p.2 != a,
                    staged := s.staged.filter (fun q => !gs.contains (groupOf (q.1 / 256))),
                    stagedBlobs := s.stagedBlobs.filter fun q => !gs.contains (groupOf (q.1 / 256)) }
  gs.foldl (fun u g => log u clsNotice 1 0x10 255 0x2700 7 none g) t

/-- The session ends (R250, R78, R79), and with it its transactions (log 138). -/
def endSession (s : State) (id : Nat) : State :=
  let mine (f : Transfer) : Bool := f.src.auth.isSome && s.net.sessions.any fun x => x.id == id && x.ip == f.src.ip && x.udpPort == f.src.udpPort
  let t := { s with net := { s.net with sessions := s.net.sessions.filter fun x => x.id != id,
                                        transfers := s.net.transfers.filter fun f => !mine f } }
  dropAcc (releaseStager t (.session id)) (.session id)

end Sys2Proof.Machine
end

