-- ==== Sys2Proof/Machine/TenantOps.lean ====
section
/-! DEFINITION. Host link and tenants: doorbells, descriptors and their validation, plane space, tenant reset and enable, the
choice of the tenant offered for admission (R256 to R287). -/

namespace Sys2Proof.Machine

/-! ## The endpoint (R255, R257, R259) -/

/-- Maximum payload and maximum read request in bytes (R255): the values that PCI Express gives Device Control at reset, which no command of the
table changes (PRESUMED, log 144). -/
def maxPayload : Nat := 128
def maxReadRequest : Nat := 512

/-- An access to host memory cut into pieces of at most z bytes, none across a multiple of z: address and length of each. -/
def pieces (z : Nat) : Nat → Nat → Nat → List (Nat × Nat)
  | 0, _, _ => []
  | f + 1, addr, len =>
    if len = 0 then [] else
      let k := min len (z - addr % z)
      (addr, k) :: pieces z f (addr + k) (len - k)

/-- The read requests of a read of host memory, and the memory writes of a write to it (R255, R259). -/
def hostReads (tn addr len : Nat) : List Output :=
  (pieces maxReadRequest (len / maxReadRequest + 2) addr len).map fun p => .hostRead tn p.1 p.2
def hostWrites (tn addr : Nat) (d : List Byte) : List Output :=
  (pieces maxPayload (d.length / maxPayload + 2) addr d.length).map fun p => .hostWrite tn p.1 (slice d (p.1 - addr) p.2)

/-- The class code of every function, the sizes of BAR0 and BAR2, and where BAR2 holds the MSI-X table and the PBA (R257). -/
def classCode : Nat := 0x0B4000
def bar0Size : Nat := 0x2000
def bar2Size : Nat := 0x1000
def msixTable : Nat := 0x000
def msixPba : Nat := 0x800

/-- The device ID of a function (R257; 5060:02, :03). -/
def deviceId (fn : Nat) : Nat := if fn = 0 then 0x0640 else 0x0641

/-- The key under which a function's record is kept: that of its tenant, 64 for PF0. -/
def functionKey (fn : Nat) : Nat := if fn = 0 then 64 else fn - 1

/-- The bit of the uncorrectable error status that an ingest error sets at the requester (PRESUMED from the Base Specification, log 145): Poisoned
TLP Received or Completion Timeout; the completer reports the errors of the other two. -/
def aerBit : IngestError → Option Nat
  | .poisoned => some 12
  | .timeout => some 14
  | _ => none

/-- An endpoint error is reported through AER (R259): the status bit, and the error message. -/
def aerError (s : State) (fn : Nat) (e : IngestError) : State :=
  match aerBit e with
  | some b => emit (setTenant s (functionKey fn) fun x => { x with aer := setBit x.aer b }) (.aerReport fn b)
  | none => s

/-- The index of tenant t. -/
def tenIdx (t : Nat) : Nat := 0x5000 + t

/-- The polder units that STRAP7 gives the pool (R272; 5060:08). -/
def poolTotal (s : State) : Nat :=
  match strap s 7 with
  | 0 => 224
  | 1 => 464
  | 2 => 944
  | _ => 0

/-- Whether ingest runs in the mode (R49, R287). -/
def ingestMode (s : State) : Bool :=
  match s.md.mode with
  | .kickoff => false | .terp => false | .doze => false | .shutdown => false | _ => true

/-- Whether the tenant's fetches run (R279, R281, R287). -/
def mayFetch (s : State) (t : Nat) : Bool :=
  (tenant s t).state == .enabled && (tenant s t).busMaster && ingestMode s

/-- Ring sizes (5000+n:05, :07). -/
def sheetRing (s : State) (t : Nat) : Nat := max 1 (get s (tenIdx t) 5)
def compRing (s : State) (t : Nat) : Nat := max 1 (get s (tenIdx t) 7)

/-- Slots from a to b in a ring of n. -/
def ringDist (n a b : Nat) : Nat := (b + n - a % n) % n

/-! ## The buffer head (R260, R264) -/

/-- The buffer head: the slot of the first descriptor whose host buffers are still in use. -/
def bufferHead (s : State) (t : Nat) : Nat :=
  let n := sheetRing s t
  match s.sheets.find? fun sh => sh.tenant == t && sh.isPending with
  | some sh => sh.ringIndex
  | none => ((tenant s t).descHead + n - (tenant s t).outstanding % n) % n

/-- The buffer head advances; each passed descriptor with flag bit 1 raises VF vector 0. -/
def moveBufHead (s : State) (t : Nat) : State :=
  let x := tenant s t
  let n := sheetRing s t
  let b := bufferHead s t
  let d := ringDist n x.bufHead b
  let hit := x.bufWait.filter fun k => decide (ringDist n x.bufHead k < d)
  let u := setTenant s t fun y => { y with bufHead := b, bufWait := y.bufWait.filter fun k => decide (d ≤ ringDist n x.bufHead k) }
  hit.foldl (fun v _ => vector v (t + 1) 0) u

/-! ## BAR0 (R260) -/

/-- The offset of a doorbell in BAR0 of a VF (R260): kind 0 sheet tail, 1 completion head, 2 cancel. -/
def doorbellOffset (kind : Nat) : Nat := 4 * kind

/-- What BAR0 of a function holds from an offset on (R260): its fields by their first offset, little-endian; none where the layout has none or the
field is only written. -/
def bar0Field (s : State) (fn off : Nat) : Option (List Byte) :=
  let x := tenant s (functionKey fn)
  if fn = 0 ∧ off < 0x20 then some (leBytes 4 0)
  else match off with
    | 0x10 => some (leBytes 4 x.descHead)
    | 0x14 => some (leBytes 4 x.compTail)
    | 0x18 => some (leBytes 4 x.bufHead)
    | 0x1000 => some (leBytes 2 x.mbIndex)
    | 0x1002 => some (leBytes 1 x.mbSub)
    | 0x1003 => some (leBytes 1 x.mbOp)
    | 0x1004 => some (leBytes 4 x.mbLen)
    | 0x1008 => some (leBytes 8 x.mbAddr)
    | 0x1014 => some (leBytes 4 x.mbStatus)
    | 0x1018 => some (leBytes 2 x.mbAbort)
    | 0x1040 => some x.mbWindow
    | _ => none

/-! ## Doorbells (R262, R271) -/

/-- An invalid doorbell or mailbox write is counted, with VF vector 2 for a doorbell (R262). -/
def bellError (s : State) (t : Nat) : State := vector (sat s (tenIdx t) 0x18) (t + 1) 2

/-- The sheet tail doorbell (R262): valid below the ring size and within the free space. -/
def tailBell (s : State) (t i : Nat) : State :=
  let x := tenant s t
  let n := sheetRing s t
  if i < n ∧ ringDist n x.sheetTail i ≤ n - 1 - ringDist n x.descHead x.sheetTail then setTenant s t fun y => { y with sheetTail := i }
  else bellError s t

/-- The completion head doorbell (R262, R270): valid within the written entries; held completions then go out. -/
def headBell (s : State) (t i : Nat) : State :=
  let x := tenant s t
  let n := compRing s t
  if i < n ∧ ringDist n x.compHead i ≤ ringDist n x.compHead x.compTail then
    let u := setTenant s t fun y => { y with compHead := i }
    flushHeld t (x.heldDone.length) u
  else bellError s t

/-- The ring index of the oldest descriptor not completed: that of the tenant's first sheet, else the oldest one not received. -/
def oldestSlot (s : State) (t : Nat) : Nat :=
  let n := sheetRing s t
  match s.sheets.find? fun sh => sh.tenant == t with
  | some sh => sh.ringIndex
  | none => ((tenant s t).descHead + n - (tenant s t).outstanding % n) % n

/-- The cancel doorbell (R271): every sheet from ring index i on that is not COMMITTED, and every slot from i on whose
descriptor has still to come. -/
def cancelBell (s : State) (t i : Nat) : State :=
  let x := tenant s t
  let n := sheetRing s t
  let o := oldestSlot s t
  let len := ringDist n o x.sheetTail
  if n ≤ i ∨ len ≤ ringDist n o i then bellError s t
  else
    let from_ := ringDist n o i
    let hit := s.sheets.filter fun sh => sh.tenant == t && !sh.committed && decide (from_ ≤ ringDist n o sh.ringIndex)
    let first := (x.descHead + n - x.outstanding % n) % n
    let coming := ((List.range (x.outstanding + ringDist n x.descHead x.sheetTail)).map fun k => (first + k) % n).filter fun k =>
      decide (from_ ≤ ringDist n o k)
    let u := setTenant s t fun y => { y with cancelSlots := y.cancelSlots.filter (fun k => !coming.contains k) ++ coming }
    moveBufHead (hit.foldl cancelSheet u) t

/-- A doorbell acts (R262, R271, R281 step 1): kind 0 sheet tail, 1 completion head, 2 cancel; ignored unless the tenant is ENABLED. -/
def ringBell (s : State) (t kind i : Nat) : State :=
  if (tenant s t).state != .enabled then s
  else if kind = 0 then tailBell s t i
  else if kind = 1 then headBell s t i
  else cancelBell s t i

/-! ## Descriptors (R263 to R266) -/

/-- Descriptors that one burst fetches: at most 8, at most those before the sheet tail, none beyond 32 sheets (R263, R20). -/
def burstLength (s : State) (t : Nat) : Nat :=
  let x := tenant s t
  min (min 8 (ringDist (sheetRing s t) x.descHead x.sheetTail)) (32 - queuedOf s t - x.outstanding)

/-- One burst: reads of 128 bytes, and the descriptor head passes their slots (R263). -/
def fetchBurst (s : State) (t : Nat) : State :=
  let x := tenant s t
  let n := sheetRing s t
  let k := burstLength s t
  let u := emitAll s ((List.range k).map fun j => .hostRead t (get s (tenIdx t) 4 + 128 * ((x.descHead + j) % n)) 128)
  setTenant u t fun y => { y with descHead := (y.descHead + k) % n, outstanding := y.outstanding + k }

/-- The plane entry of station st in a descriptor (R265). -/
def planeAt (d : List Byte) (st : Nat) : Plane :=
  { addr := leAt d (16 + 16 * st) 8, len := leAt d (24 + 16 * st) 4, worst := leAt d (28 + 16 * st) 4 }

/-- The sheet that a descriptor describes (R264). -/
def sheetFrom (uid t ring : Nat) (d : List Byte) : Sheet :=
  { uid := uid, tenant := t, ringIndex := ring, token := leAt d 0 4, profile := leAt d 5 1, flags := leAt d 6 1, depth := leAt d 7 1,
    lines := leAt d 8 4, pixels := leAt d 12 2, planes := (List.range 6).map (planeAt d) }

/-- Whether a reserved field or bit is nonzero (R266 code 0x02): flags [7:2], 0x0E, 0x70 on, and entries with plane length 0. -/
def reservedSet (d : List Byte) : Bool :=
  decide (4 ≤ leAt d 6 1) || decide (leAt d 14 2 ≠ 0) || decide (leAt d 0x70 16 ≠ 0) ||
    (List.range 6).any fun st => (planeAt d st).len == 0 && ((planeAt d st).addr != 0 || (planeAt d st).worst != 0)

/-- Whether a plane entry breaks its limits (R265, R266 code 0x0A); l is the line's bytes. -/
def planeTooLong (lines l : Nat) (p : Plane) : Bool :=
  decide (lines * l * 129 + 2048 * lines < 128 * p.len) || p.worst == 0 || decide (p.len < p.worst) || decide (258 * l + 16 < p.worst)

/-- Bytes of a plane rounded up to 64. -/
def roundedLen (p : Plane) : Nat := 64 * ceilDiv p.len 64

/-- Space that a sheet's planes take in the polder (R266, R273), and the bytes of a polder of n units. -/
def Sheet.space (sh : Sheet) : Nat := (sh.planes.map roundedLen).foldl Nat.add 0
def polderBytes (s : State) (t : Nat) : Nat := get s (tenIdx t) 8 * 2 ^ 24

/-- The rejection reason of a descriptor: the first failing check of R266, 0 for none. -/
def rejection (s : State) (sh : Sheet) (d : List Byte) : Nat :=
  let used := (List.range 6).filter sh.hasPlane
  let l := lineBytes sh.pixels sh.depth
  let plane (st : Nat) : Plane := sh.planes.getD st {}
  if leAt d 4 1 ≠ 1 then 1
  else if reservedSet d then 2
  else if 15 < sh.profile ∨ get s 0x5050 (1 + sh.profile) = 0 then 3
  else if sh.lines = 0 ∨ 1048575 < sh.lines then 4
  else if sh.pixels < 64 ∨ 32768 < sh.pixels then 5
  else if sh.depth ≠ 1 ∧ sh.depth ≠ 2 ∧ sh.depth ≠ 4 then 6
  else if used.isEmpty then 7
  else if used.any fun st => !present s st then 8
  else if used.any fun st => decide ((plane st).addr % 64 ≠ 0) || decide (2 ^ 64 < (plane st).addr + (plane st).len) then 9
  else if used.any fun st => planeTooLong sh.lines l (plane st) then 0x0A
  else if polderBytes s sh.tenant < sh.space then 0x0B
  else if used.any fun st => rasterDepth s st != sh.depth || pixelsPerLine s st != sh.pixels then 0x0C
  else 0

/-- A received descriptor (R266, R271): PENDING, or completed REJECTED or, when cancelled before it came, WITHDRAWN. -/
def takeDescriptor (s : State) (t : Nat) (d : List Byte) : State :=
  let x := tenant s t
  let n := sheetRing s t
  let ring := (x.descHead + n - x.outstanding % n) % n
  let sh := sheetFrom s.nextUid t ring d
  let u := setTenant s t fun y => { y with outstanding := y.outstanding - 1, cancelSlots := y.cancelSlots.filter (· != ring),
                                           bufWait := if sh.flags.testBit 1 then y.bufWait ++ [ring] else y.bufWait }
  let u := bump { u with nextUid := u.nextUid + 1 } (tenIdx t) 0x15
  let r := rejection u sh d
  let u := if x.cancelSlots.contains ring then completion u sh 3 0 false
    else if r ≠ 0 then completion u sh 4 r false
    else { u with sheets := u.sheets ++ [sh] }
  moveBufHead u t

/-! ## Planes (R273, R274) -/

/-- Polder bytes that sheets of tenant t hold; a reprint holds the planes of its first print (R17). -/
def spaceUsed (s : State) (t : Nat) : Nat :=
  ((s.sheets.filter fun sh => sh.tenant == t && sh.fetching).map Sheet.space).foldl Nat.add 0

/-- The next sheet of tenant t whose plane space has still to be allocated. -/
def nextFetch (s : State) (t : Nat) : Option Sheet := s.sheets.find? fun sh => sh.tenant == t && sh.isPending && !sh.fetching

/-- Whether its space is short (R273; blocked reason 3). -/
def spaceShort (s : State) (t : Nat) : Bool :=
  match nextFetch s t with
  | some sh => decide (polderBytes s t < spaceUsed s t + sh.space)
  | none => false

/-- Plane space is allocated and the plane reads go out (R273). -/
def startFetch (s : State) (t : Nat) : State :=
  match nextFetch s t with
  | none => s
  | some sh =>
    if spaceShort s t then s
    else emitAll (modSheet s sh.uid fun x => { x with fetching := true })
      (sh.stations.flatMap fun st => hostReads t (sh.planes.getD st {}).addr (sh.planes.getD st {}).len)

/-- Whether a sheet's every plane lies in the polder. -/
def Sheet.allHere (sh : Sheet) : Bool := sh.stations.all fun st => tabHas sh.data st

/-! ## Blocked tenants and the tenant choice (R267, R270, R277) -/

/-- Whether geometry blocks a sheet (R267): another depth, or more pixels than a station's count. -/
def geometryBlocks (s : State) (sh : Sheet) : Bool :=
  sh.stations.any fun st => rasterDepth s st != sh.depth || decide (pixelsPerLine s st < sh.pixels)

/-- The next sheet in ring order that is not yet admitted. -/
def nextSheet (s : State) (t : Nat) : Option Sheet := s.sheets.find? fun sh => sh.tenant == t && !sh.admitted && !sh.committed && !sh.waiting

/-- The blocked reason (5000+n:13): completions held before geometry before polder. -/
def blockedReason (s : State) (t : Nat) : Nat :=
  if !(tenant s t).heldDone.isEmpty then 2
  else if (match nextSheet s t with
    | some sh => geometryBlocks s sh
    | none => false) then 1
  else if spaceShort s t then 3 else 0

/-- Whether tenant t is a candidate (R277). -/
def isCandidate (s : State) (t : Nat) : Bool :=
  (tenant s t).state == .enabled && (tenant s t).heldDone.isEmpty && (match nextSheet s t with
    | some sh => sh.resident && !geometryBlocks s sh
    | none => false)

/-- The candidates, ascending. -/
def candidates (s : State) : List Nat := (List.range 64).filter (isCandidate s)

/-- The lowest v of some tenants. -/
def lowestV (s : State) (l : List Nat) : Nat :=
  match l with
  | [] => 0
  | a :: r => r.foldl (fun m n => min m (tenant s n).v) (tenant s a).v

/-- A tenant that becomes a candidate after having none takes at least the lowest v of the others (R277). -/
def refreshCandidates (s : State) : State :=
  let c := candidates s
  let old := c.filter fun n => (tenant s n).candidate
  let low := lowestV s old
  forEach (List.range 64) (fun u n =>
    if c.contains n then
      (if (tenant u n).candidate then u else setTenant u n fun x => { x with candidate := true, v := max x.v low })
    else if (tenant u n).candidate then setTenant u n fun x => { x with candidate := false } else u) s

/-- The tenant whose sheet is offered (R277): highest priority, then lowest v, then lowest number. -/
def chosen (s : State) : Option Nat :=
  (candidates s).foldl (fun b n => match b with
    | none => some n
    | some m =>
      let pn := get s (tenIdx n) 0x0A
      let pm := get s (tenIdx m) 0x0A
      if pm < pn ∨ pn = pm ∧ (tenant s n).v < (tenant s m).v then some n else some m) none

/-- The v of a tenant after an admission of so many lines, and the common reduction above 2^40 (R277). -/
def advanceV (s : State) (t lines : Nat) : State :=
  let u := setTenant s t fun x => { x with v := min (2 ^ 64 - 1) (x.v + lines * 65536 / max 1 (get s (tenIdx t) 0x0B)) }
  let en := (List.range 64).filter fun n => (tenant u n).state == .enabled
  let low := lowestV u en
  if 2 ^ 56 < low then forEach en (fun w n => setTenant w n fun x => { x with v := x.v - low }) u else u

/-! ## Tenant reset, enable (R280 to R286) -/

/-- The rings and pointers at their reset values (R281 step 5). -/
def clearRings (s : State) (t : Nat) : State :=
  let u := put (put (put (put s (tenIdx t) 4 0) (tenIdx t) 6 0) (tenIdx t) 5 256) (tenIdx t) 7 256
  setTenant u t fun x =>
    { x with sheetTail := 0, descHead := 0, bufHead := 0, compHead := 0, compTail := 0, phase := true, heldDone := [], unsignalled := 0,
             busMaster := true, outstanding := 0, cancelSlots := [], bufWait := [], mbIndex := 0, mbSub := 0, mbOp := 0, mbLen := 0,
             mbAddr := 0, mbStatus := 0, mbAbort := 0, mbWindow := [] }

/-- The reset completes to the host: PF0 vector 4. -/
def resetComplete (s : State) (t : Nat) : State :=
  vector (emit (clearRings { s with coalescing := s.coalescing.erase t } t) (.resetDone t)) 0 4

/-- A tenant reset with a cause (R280, R281, R283, R285). -/
def tenantReset (s : State) (t cause : Nat) : State :=
  let s := put (sat s (tenIdx t) 0x1A) (tenIdx t) 0x1B cause
  let s := if cause = 4 ∨ cause = 5 then vector s (t + 1) 2 else s
  if (tenant s t).state != .enabled then resetComplete s t
  else
    let disp := get s (tenIdx t) 0x0C
    let u := setTenant s t fun x => { x with state := .ghost, disposition := disp, heldDone := [], candidate := false }
    let u := (u.sheets.filter fun sh => sh.tenant == t && !sh.committed).foldl cancelSheet u
    let u := { u with sheets := u.sheets.map fun sh =>
      if sh.tenant = t then (if disp = 1 then { sh.spill none with ghost := true, blanked := true } else { sh with ghost := true }) else sh }
    ghostCheck (resetComplete u t) t

/-- Every tenant is reset (R280 cause 3). -/
def resetAllTenants (s : State) : State := forEach (List.range 64) (fun u t => tenantReset u t 3) s

/-- The accessor's own state of a function ends with its reset (R78, R79). -/
def functionEnds (s : State) (fn : Nat) : State :=
  if h : 1 ≤ fn ∧ fn ≤ 64 then
    let a : Accessor := .vf ⟨fn - 1, by omega⟩
    dropAcc (releaseStager s a) a
  else dropAcc (releaseStager s .pf0) .pf0

/-- Why an enable is refused (R286, R273, R256): 0 when it is not. -/
def enableRefusal (s : State) (t : Nat) : Nat :=
  if (tenant s t).state != .disabled then 0x0705
  else if get s (tenIdx t) 4 = 0 ∨ get s (tenIdx t) 6 = 0 ∨ get s 0x5060 6 ≤ t then 0x0501
  else if s.mem.unitsFree.length < get s (tenIdx t) 8 then 0x0704
  else 0

/-- The enable (R286): units allocated, first-pass pointers, ghost completions cleared. -/
def enableTenant (s : State) (t : Nat) : State :=
  let k := get s (tenIdx t) 8
  let u := { s with mem := { s.mem with unitsFree := s.mem.unitsFree.drop k } }
  setTenant (putBlob u (tenIdx t) 0x14 []) t fun x =>
    { x with state := .enabled, units := s.mem.unitsFree.take k, sheetTail := 0, descHead := 0, bufHead := 0, compHead := 0, compTail := 0,
             phase := true, outstanding := 0, cancelSlots := [], bufWait := [], heldDone := [], unsignalled := 0, v := 0, candidate := false }

/-- Every unit of a SCRUBBING tenant has been scrubbed and returned: DISABLED, PF0 vector 5 (R275, R284). -/
def scrubDone (s : State) (t : Nat) : State :=
  let u := (tenant s t).units
  let w := { s with mem := { s.mem with scrub := s.mem.scrub.filter (fun k => !u.contains k), unitsFree := s.mem.unitsFree ++ u } }
  vector (setTenant w t fun x => { x with units := [], state := .disabled }) 0 5

/-- The reset of a fence violation (R274): counted, FAULT, cause 5. -/
def fenceViolation (s : State) (t : Nat) : State :=
  tenantReset (logEvent (sat s (tenIdx t) 0x19) clsFault 5 t (tenIdx t) 0x19) t 5

end Sys2Proof.Machine
end

