-- ==== Sys2Proof/Machine/Checks.lean ====
section
/-! DEFINITION. The range step of a write (R60, R609), the packed layouts, and the checks of the consistency groups (R65). -/

namespace Sys2Proof.Machine

/-! ## Packed layouts -/

/-- Reserved bits: 0x0303 when v has a bit at lo or above. -/
def resvAbove (lo v : Nat) : Nat := if v < 2 ^ lo then 0 else 0x0303

/-- Pin bytes of an object: each 0 to 95 or 255, else 0x0302. -/
def pinBytes (n v : Nat) : Nat :=
  if (List.range n).all fun k => decide (field v (8 * k) 8 < 96) || field v (8 * k) 8 == 255 then 0 else 0x0302

/-- AIN bytes of an object: each 0 to 47 or 255, else 0x0302. -/
def ainBytes (n v : Nat) : Nat :=
  if (List.range n).all fun k => decide (field v (8 * k) 8 < 48) || field v (8 * k) 8 == 255 then 0 else 0x0302

/-- First of two abort codes that is not 0. -/
def orCode (a b : Nat) : Nat := if a = 0 then b else a

/-- A band entry (R176, R177). -/
def bandCode (v : Nat) : Nat :=
  let lo := v % 65536
  let hi := field v 16 16
  if 2 ^ 48 ≤ v ∨ 16 ≤ field v 40 8 then 0x0303
  else if lo = 0 ∧ hi = 0 then 0
  else if lo < 13000 ∨ hi < 13000 then 0x0301
  else if 17000 < lo ∨ 17000 < hi then 0x0302
  else 0

/-- A netmask: ones, then zeros (1116:03). -/
def maskCode (v : Nat) : Nat := if (List.range 33).any fun k => v == 2 ^ 32 - 2 ^ k then 0 else 0x0303

/-- A map header (R235). -/
def headerWord (v : Nat) : Nat :=
  if v = 0 then 0
  else if field v 12 4 ≠ 0 then 0x0303
  else if v % 2048 = 0 then 0x0301
  else if v % 2048 = 2047 ∧ v.testBit 11 then 0x0303
  else if 16 < v / 2 ^ 24 then 0x0302
  else 0

/-- A pulse word (R363): bit 7 reserved, justification 3 only with the full pixel. -/
def pulseCode (v : Nat) : Nat := if 128 ≤ v ∨ field v 5 2 = 3 ∧ v % 32 ≠ 31 then 0x0303 else 0

/-- A timetable entry's reserved bit (R411, R6); its reserved codes are left to group 0 (R412). -/
def entryCode (v : Nat) : Nat := if v.testBit 63 then 0x0303 else 0

/-- A pin route (R543): reserved codes. -/
def routeCode (v : Nat) : Nat :=
  if v = 0xFFFF then 0
  else if 0x1000 ≤ v ∧ v < 0x1100 then (if v % 16 < 5 then 0 else 0x0303)
  else if 0x2006 ≤ v ∧ v ≤ 0x2011 then 0
  else if 0x3018 ≤ v ∧ v ≤ 0x302F then (if v % 4 < 3 then 0 else 0x0303)
  else 0x0303

/-- The packed objects by their layouts. -/
def packedCode (idx sub v : Nat) : Nat :=
  if 0x2100 ≤ idx ∧ idx < 0x2110 then (if 4095 < v % 65536 ∨ 4095 < v / 65536 then 0x0302 else 0)
  else if idx = 0x2210 then bandCode v
  else if idx = 0x1116 then maskCode v
  else if 0x1200 ≤ idx ∧ idx < 0x1280 then headerWord v
  else if 0x3000 ≤ idx ∧ idx < 0x30C0 ∧ idx % 32 = 1 then pulseCode v
  else if 0x3000 ≤ idx ∧ idx < 0x30C0 ∧ idx % 32 = 0x14 then (if field v 4 2 = 3 ∨ field v 6 10 ≠ 0 then 0x0303 else 0)
  else if 0x2506 ≤ idx ∧ idx < 0x2512 then (if v < 12 ∨ 16 ≤ v ∧ v < 32 ∨ v = 255 then 0 else 0x0303)
  else if 0x5070 ≤ idx ∧ idx < 0x5080 then entryCode v
  else if 0x4800 ≤ idx ∧ idx < 0x480C then orCode (resvAbove 24 v) (if sub = 9 then pinBytes 3 v else ainBytes 3 v)
  else if 0x4900 ≤ idx ∧ idx < 0x4910 then
    (if sub = 0x38 then resvAbove 5 v else if sub = 2 then orCode (resvAbove 16 v) (pinBytes 2 v) else pinBytes 4 v)
  else if 0x4920 ≤ idx ∧ idx < 0x4924 then
    (if (List.range 4).all fun k => decide (field v (8 * k) 8 < 16) || field v (8 * k) 8 == 255 then 0 else 0x0302)
  else if 0x3900 ≤ idx ∧ idx < 0x3930 then
    (match sub with
      | 1 => if v % 4 = 3 ∨ 8 ≤ v then 0x0303 else 0
      | 2 => if 3 ≤ v % 256 ∨ 65536 ≤ v then 0x0303 else 0
      | 3 => if 4 ≤ v % 256 ∨ 65536 ≤ v then 0x0303 else 0
      | 9 => if 3 ≤ v % 256 ∨ field v 8 8 ≠ 0 then 0x0303 else 0
      | 0x0A => if v % 65536 < 20 then 0x0301 else if 500 < v % 65536 then 0x0302 else 0
      | _ => if v = 1 then 0x0301 else 0)
  else if 0x2600 ≤ idx ∧ idx < 0x2660 then routeCode v
  else if idx = 0x2700 then (if v < 3 then 0 else if v = 3 then 0x0302 else 0x0303)
  else 0

/-- The range step of a write by the object's row (R60, R609, R6): v is the unsigned image. -/
def rangeCode (r : Row) (idx sub v : Nat) : Nat :=
  let i := r.ty.value v
  let out : Nat := if i < r.min then 0x0301 else if r.max < i then 0x0302 else 0
  let outResv : Nat := if i < r.min ∨ r.max < i then 0x0303 else 0
  match r.chk with
  | .range => out
  | .resv => outResv
  | .orElse w => if v = w then 0 else out
  | .resvOr w => if v = w then 0 else outResv
  | .zeroOnly => if v = 0 then 0 else 0x0303
  | .oneOf l => if l.contains v then 0 else 0x0303
  | .bool => if v ≤ 1 then (if i < r.min then 0x0303 else 0) else 0x0303
  | .mask m => if v &&& m = v then 0 else 0x0303
  | .pow2 => if outResv = 0 ∧ (List.range 64).any (fun k => v == 2 ^ k) then 0 else 0x0303
  | .mult n => if out ≠ 0 then out else if v % n = 0 then 0 else 0x0304
  | .packed => packedCode idx sub v

/-! ## The staged set of a group -/

/-- Whether a store key belongs to group g: an RWS object of that group. -/
def inGroup (g key : Nat) : Bool := groupOf (key / 256) == g

/-- The staged values of a group laid over the applied ones, by table. -/
def overlay {α : Type} (g : Nat) (d st : Tab α) : Tab α := (st.filter fun p => inGroup g p.1).foldl (fun t p => tabSet t p.1 p.2) d

/-- The state as it would be with group g taken (R67). -/
def merged (s : State) (g : Nat) : State := { s with dict := overlay g s.dict s.staged, blobs := overlay g s.blobs s.stagedBlobs }

/-- Whether a group has staged changes. -/
def hasStaged (s : State) (g : Nat) : Bool := s.staged.any (fun p => inGroup g p.1) || s.stagedBlobs.any fun p => inGroup g p.1

/-- A group's staging image, stager and arming end. -/
def dropStaged (s : State) (g : Nat) : State :=
  { s with staged := s.staged.filter (fun p => !inGroup g p.1), stagedBlobs := s.stagedBlobs.filter (fun p => !inGroup g p.1),
           stagers := s.stagers.filter (fun p => p.1 != g), armed := s.armed.filter (· != g) }

/-- The values of a group take effect: its staged values become the applied ones; 2700:08 counts. -/
def copyGroup (s : State) (g : Nat) : State := bump (dropStaged (merged s g) g) 0x2700 8

/-! ## Checks by group (R65): t is the state with the group taken, s the one before -/

/-- 0x0501 unless a condition holds. -/
def need (b : Bool) : Nat := if b then 0 else 0x0501

/-- Action, target, parameter, route and tracker of a timetable entry (R411). -/
def entAction (e : Nat) : Nat := field e 32 8
def entTarget (e : Nat) : Nat := field e 40 8
def entParam (e : Nat) : Nat := field e 48 8
def entRoute (e : Nat) : Nat := field e 56 2
def entTracker (e : Nat) : Nat := field e 58 5
def entOffset (e : Nat) : Int := sInt 32 (e % 2 ^ 32)

/-- Whether an action's parameter is reserved for its target, or the target is absent (R408, R433, R456, R457, R477, R514). -/
def paramBad (t : State) (code target param : Nat) : Bool :=
  if code = 0x10 then decide (32 ≤ param) || param.testBit 4 && (groupOfAxis t target).isNone
  else if code = 0x11 then param != 0
  else if code = 0x12 then decide (target < 6 ∧ 2 ≤ param) || decide (16 ≤ param)
  else if code = 0x13 then decide (2 ≤ param)
  else if code = 0x14 then decide (param < 2)
  else if code = 0x20 then decide (8 ≤ param) || isSpeedLoop target
  else if code = 0x21 ∨ code = 0x22 then param != 0 || isSpeedLoop target
  else if code = 0x40 ∨ code = 0x42 then param != 0
  else false

/-- Whether the target of an action exists (R408, R433): 0x0101 of a post. -/
def targetOk (t : State) (code target : Nat) : Bool :=
  if code = 1 then present t target
  else if code = 0x10 ∨ code = 0x11 then decide (target < 16)
  else if code = 0x12 then motorPresent t target
  else if code = 0x13 ∨ code = 0x14 then decide (target < 96)
  else if code = 0x20 ∨ code = 0x21 ∨ code = 0x22 ∨ code = 0x42 then loopPresent t target
  else if code = 0x30 then decide (target < 7)
  else if code = 0x40 ∨ code = 0x41 then target == 0
  else false

/-- Whether a timetable entry in use is refused (R412, R457, R477, R514). -/
def entryBad (t : State) (e : Nat) : Bool :=
  let c := entAction e
  let k := eventClass c
  !(k == 2 || k == 3 || k == 5) || decide (entOffset e < 0) || !targetOk t c (entTarget e) || paramBad t c (entTarget e) (entParam e) ||
    entRoute e == 3 || (entTracker e != 0 && (decide (entTracker e < 6 ∨ 18 ≤ entTracker e) || get t (trkIdx (entTracker e)) 0x33 == 0))

/-- The entries in use of profile p. -/
def entriesOf (t : State) (p : Nat) : List Nat :=
  ((List.range 34).map fun k => get t (0x5070 + p) (k + 1)).filter fun e => entAction e != 0

/-- The checks of one profile in use (R65, R412). -/
def profileOk (t : State) (p : Nat) : Bool :=
  let m := get t 0x5050 (p + 1)
  let es := entriesOf t p
  let exits := es.filter fun e => entAction e == 0x40
  m == 0 ||
    (decide (m < 2 ^ 28) && ((List.range 16).all fun a => !m.testBit a || flag t (axIdx a) 0x3C) &&
      ((List.range 12).all fun k => !m.testBit (16 + k) || waveform t k != 0) && es.all (fun e => !entryBad t e) && !exits.isEmpty &&
      decide ((exits.filter fun e => entRoute e != 2).length ≤ 1) && decide ((exits.filter fun e => entRoute e != 1).length ≤ 1))

/-- Group 0 (R65, R412). -/
def check0 (t : State) : Nat := need ((List.range 16).all (profileOk t))

/-- Words of one scan (R334). -/
def scanWords (t : State) (n : Nat) : Nat := beams t n * ceilDiv (lineBytes (pixelsPerLine t n) (rasterDepth t n)) 8

/-- Groups 1 to 6: geometry of station n (R65, R334, R345, R387). -/
def checkGeometry (t : State) (n : Nat) : Nat :=
  let fp := facetPeriod t n
  let act := activeScan (pixelsPerLine t n) (pixelPeriod t n)
  let so := get t (geoIdx n) 9
  let w := get t (trkIdx n) 2
  let sizes := ((stationsPresent t).map fun k => get t (fifoIdx k) 1).foldl Nat.add 0
  need (decide (beams t n * 70000 ≤ 223 * pixelPeriod t n) && decide (act < fp) &&
    decide (4 * scanWords t n ≤ fifoWords t n) && decide (sizes ≤ 80) &&
    (processRes t n != 2400 || decide (processSpeed t n ≤ 600000)) &&
    decide (processSpeed t n * processRes t n ≤ 8000 * 25400 * beams t n) &&
    (n != 0 || get t (geoIdx n) 0x0A == 0) && decide (2 * (w * fp / 1000) + 24000 ≤ so) &&
    decide (1000 * (so + 2047 + act) ≤ (1000 - w) * fp) &&
    decide ((4 + ceilDiv (beams t n + 15) (max 1 (beams t n))) * scanWords t n ≤ fifoWords t n) &&
    ((List.range 16).all fun b => (List.range 12).all fun f => decide (b < beams t n ∧ f < facets t n) || regEntry t n b f == 0) &&
    decide (so + 2047 + act + 48000 + 24 * get t (linkIdx n) 7 + w * fp / 1000 + 12000 ≤ fp) &&
    decide (get t (linkIdx n) 6 < beams t n))

/-- The skew offsets after each shift point. -/
def skewPath (t : State) (n : Nat) : List Int :=
  ((shiftPoints t n).foldl (fun (a : Int × List Int) q => (a.1 + q.2, (a.1 + q.2) :: a.2)) ((get t (0x3818 + n) 2 : Nat), [])).2

/-- Whether positions rise strictly. -/
def rising : List Nat → Bool
  | [] => true
  | [_] => true
  | a :: b :: t => decide (a < b) && rising (b :: t)

/-- Groups 7 to 12: registration of station n (R65, R360). -/
def checkRegistration (t : State) (n : Nat) : Nat :=
  let ps := (shiftPoints t n).map (·.1)
  need (((List.range 16).all fun b => (List.range 12).all fun f =>
      decide ((regEntry t n b f).natAbs ≤ 2047) && (decide (f < facets t n) || regEntry t n b f == 0)) &&
    rising ps && ps.all (fun p => decide (p < pixelsPerLine t n)) && (skewPath t n).all fun v => decide (0 ≤ v ∧ v ≤ 16))

/-- The band table's entries: low edge, high edge. -/
def bandOf (t : State) (k : Nat) : Nat × Nat := (get t 0x2210 (k + 1) % 65536, field (get t 0x2210 (k + 1)) 16 16)

/-- Whether an entry of the band table is used (R177). -/
def bandUsed (t : State) (k : Nat) : Bool := (bandOf t k).1 != 0 || (bandOf t k).2 != 0

/-- Whether the target lies in band k, edges included (R178). -/
def bandHits (t : State) (k : Nat) : Bool :=
  bandUsed t k && decide ((bandOf t k).1 * 100 ≤ get t 0x2200 1 ∧ get t 0x2200 1 ≤ (bandOf t k).2 * 100)

/-- Group 13 (R65, R177). -/
def check13 (t : State) : Nat :=
  need (((List.range 32).all fun k => !bandUsed t k || (decide ((bandOf t k).1 < (bandOf t k).2) && (k == 0 || bandUsed t (k - 1)) &&
      (k == 31 || !bandUsed t (k + 1) || decide ((bandOf t k).2 ≤ (bandOf t (k + 1)).1)))) &&
    decide (1350000 ≤ get t 0x2200 1 ∧ get t 0x2200 1 ≤ 1600000) && (List.range 32).any (bandHits t))

/-- Use code of rail r (2100+r:01), and whether it is sequenced (1, 3), monitored (1, 2). -/
def railUse (t : State) (r : Nat) : Nat := get t (0x2100 + r) 1
def railSequenced (t : State) (r : Nat) : Bool := railUse t r == 1 || railUse t r == 3
def railMonitored (t : State) (r : Nat) : Bool := railUse t r == 1 || railUse t r == 2

/-- The windows of a monitored rail nest (R145). -/
def windowsNest (t : State) (r : Nat) : Bool :=
  let f := get t (0x2100 + r) 5
  let w := get t (0x2100 + r) 6
  !railMonitored t r || decide (f % 65536 < w % 65536 ∧ w % 65536 < w / 65536 ∧ w / 65536 < f / 65536)

/-- Off-delays stand in the reverse order of on-delays (R145). -/
def offOrder (t : State) : Bool :=
  (List.range 16).all fun i => (List.range 16).all fun j =>
    !(railSequenced t i && railSequenced t j && decide (get t (0x2100 + i) 2 < get t (0x2100 + j) 2)) ||
      decide (get t (0x2100 + j) 4 ≤ get t (0x2100 + i) 4)

/-- Deadlines of R145: none later than the next larger on-delay of the rails in use, none later than 36,000 µs. -/
def deadlinesOk (t : State) : Bool :=
  let used := (List.range 16).filter fun r => railUse t r != 0
  used.all fun i =>
    let d := get t (0x2100 + i) 2 + get t (0x2100 + i) 3
    decide (d ≤ 36000) && used.all fun j => decide (get t (0x2100 + j) 2 ≤ get t (0x2100 + i) 2) || decide (d ≤ get t (0x2100 + j) 2)

/-- Group 14 (R65, R145). -/
def check14 (t : State) : Nat := need ((List.range 16).all (windowsNest t) && offOrder t && deadlinesOk t)

/-- Whether a map entry names an object of fixed size that exists (R13, R51, R89) and can be read (OUT) or written (IN). -/
def mapEntryOk (t : State) (inp : Bool) (e : Nat) : Bool :=
  nameCode t (entryIdx e) (entrySub e) == 0 &&
    if entrySub e = 0 then !inp
    else match rowOf (viewOf (entryIdx e)).1 (entrySub e) with
      | none => false
      | some r => decide (0 < r.ty.size) &&
        if inp then (match r.cls with
          | .rw => true | .rwm => true | .rws => true | .wo => true | _ => false) else r.cls != .wo

/-- Payload of the carrier of a port, classical CAN where the data rate is 0 (R206). -/
def carrierPayload (t : State) (p : Nat) : Nat := payloadMax p (classicalPort t p)

/-- The cyclic phase stays within 0.6 of the cycle on every port (R239). -/
def cyclicFits (t : State) : Bool := (List.range 7).all fun p => decide (cyclicNs t p ≤ 600 * get t 0x1100 1)

/-- Group 15 (R65, R235, R236). -/
def check15 (t : State) : Nat :=
  orCode (need ((mapsInUse t).all fun m => (mapEntries t m).all (mapEntryOk t (mapIn t m)) &&
      (mapPorts t m).all fun p => decide (mapBytes t m + 2 ≤ carrierPayload t p)))
    (if cyclicFits t then 0 else 0x0703)

/-- Group 16 (R65, R315). -/
def check16 (t : State) : Nat :=
  let g := ((List.range 64).map fun n => get t (tenIdx n) 9).foldl Nat.add 0
  if 200 < g ∨ budget t < heldNow t + g then 0x0701 else 0

/-- Whether loop n keeps its row of R497; loops without a law are not bound. -/
def loopRowOk (t : State) (n : Nat) : Bool :=
  let l := law t n
  l == 0 ||
    (if n < 26 then inKind t n == 0
    else if n < 28 then l == 1 && inKind t n == 1
    else if n < 40 then l == 2 && inKind t n == 2 && inInst t n == loopMotor n
    else (match outKind t n with
      | 1 => decide (26 ≤ outInst t n ∧ outInst t n < 32)
      | 2 => l == 1 && decide (outInst t n < 96)
      | 3 => l == 2 && decide (outInst t n < 32)
      | _ => false) && (inKind t n != 2 || decide (inInst t n < 12)))

/-- Whether the AIN of a loop is in the mode of its input kind (R501). -/
def loopAinOk (t : State) (n : Nat) : Bool :=
  law t n == 0 || inKind t n == 2 || (decide (inInst t n < 48) && get t (ainIdx (inInst t n)) 1 == inKind t n + 1)

/-- Whether a loop drives an HVD (R497). -/
def drivesHvd (t : State) (n : Nat) : Bool := decide (n < 26) || outKind t n == 1

/-- The output that a loop with a law of L40 to L47 names. -/
def namedOutputs (t : State) : List Nat :=
  ((List.range 8).map (· + 40)).filterMap fun n => if law t n ≠ 0 ∧ outKind t n ≠ 0 then some (256 * outKind t n + outInst t n) else none

/-- Sum of loop rates (R499; 3930:01). -/
def loopRate (t : State) : Nat :=
  ((List.range 48).map fun n => if law t n = 0 then 0 else ceilDiv 1000000 (get t (loopIdx n) 4)).foldl Nat.add 0

/-- The consistency checks of one loop (R501, R520). -/
def loopSetOk (t : State) (n : Nat) : Bool :=
  loopRowOk t n && (decide (40 ≤ n) || outKind t n == 0) && loopAinOk t n &&
    (get t (loopIdx n) 9 % 256 != 2 || isSpeedLoop n) && (!drivesHvd t n || decide (outMax t n ≤ 65536)) &&
    decide (outMin t n ≤ outMax t n) && (law t n != 2 || !drivesHvd t n || decide (get t (loopIdx n) 0x0A < 65536))

/-- Group 17 (R65, R499, R501). -/
def check17 (t : State) : Nat :=
  orCode (need ((List.range 48).all (loopSetOk t) && (namedOutputs t).length == (namedOutputs t).eraseDups.length))
    (if 8000000 < loopRate t then 0x0702 else 0)

/-- Group 18 (R65): members disjoint and none in motion. -/
def check18 (t : State) : Nat :=
  let l := (List.range 4).flatMap (members t)
  need (l.length == l.eraseDups.length && l.all fun a => axStill t a)

/-- Group 19 (R65, R239, R240). -/
def check19 (t : State) : Nat :=
  orCode (need (shareOf t 0 == 0 && shareOf t 2047 == 0))
    (if cyclicFits t && (List.range 7).all (fun p => decide (((assigned t p).map (shareOf t)).foldl Nat.add 0 ≤ 65536)) then 0 else 0x0703)

/-- Whether motor m's objects change. -/
def motorChanged (s t : State) (m : Nat) : Bool :=
  (List.range 0x30).any fun k => get s (motIdx m) k != get t (motIdx m) k

/-- Group 20 (R65, R442, R451, R609). -/
def check20 (s t : State) : Nat :=
  need ((List.range 12).all fun m =>
    (!motorChanged s t m || (motorState s m == 0 || motorState s m == 7) && (motor s m).gatesLow) &&
      (if m < 6 then decide (waveform t m ≤ 2) else waveform t m == 0 || decide (3 ≤ waveform t m)) &&
      decide (8 * (deadNs t m + windowNs t m) ≤ pwmPeriodNs t m) &&
      decide (-(get t (motIdx m) 6 : Int) ≤ getS t 16 (motIdx m) 0x0B))

/-- The checks of group g: the abort code, 0 when it passes. -/
def groupCheck (s : State) (g : Nat) : Nat :=
  let t := merged s g
  if g = 0 then check0 t
  else if g ≤ 6 then check t (g - 1)
  else if g ≤ 12 then checkRegistration t (g - 7)
  else match g with
    | 13 => check13 t
    | 14 => check14 t
    | 15 => check15 t
    | 16 => check16 t
    | 17 => check17 t
    | 18 => check18 t
    | 19 => check19 t
    | _ => check20 s t
where
  /-- The geometry groups of absent stations cannot be staged; their checks are those of the others. -/
  check (t : State) (n : Nat) : Nat := checkGeometry t n

end Sys2Proof.Machine
end

