-- ==== Sys2Proof/Machine/Modes.lean ====
section
/-! DEFINITION. The modes: the record of a change, what each block does on entry, SAFESTOP and its causes, requests, routes, and the
automatic rows that close every command (R38 to R50, R557, R561 to R564, R612, R614, R616). -/

namespace Sys2Proof.Machine

/-! ## Relock start (R182, R183) -/

/-- Whether a store key is a value of group 13 (R65): the target or an entry of the band table. -/
def bandKey (k : Nat) : Bool := k == keyOf 0x2200 1 || k / 256 == 0x2210

/-- The applied values of group 13, as listed in the store. -/
def bandSet (s : State) : Tab Nat := s.dict.filter fun p => bandKey p.1

/-- The ROM value of an object under the patch records in use (R94, R125). -/
def romValue (s : State) (k : Nat) : Nat := patchedNum s 1 k (defaultOf (k / 256) (k % 256))

/-- The ROM target and band table (2200:01, 2210:01 to :20), where patch records are in use. -/
def romBands (s : State) : Tab Nat :=
  if s.kick.patches.isEmpty then []
  else (keyOf 0x2200 1 :: (List.range 32).map fun k => keyOf 0x2210 (k + 1)).map fun k => (k, romValue s k)

/-- Puts a set of group 13 back. -/
def restoreBands (s : State) (l : Tab Nat) : State :=
  { s with dict := l.foldl (fun t p => tabSet t p.1 p.2) (s.dict.filter fun p => !bandKey p.1) }

/-- A group is rejected (R68, R72): its bit, the count, WARN; it is no longer armed. -/
def rejectGroup (s : State) (g : Nat) : State :=
  let t := { s with armed := s.armed.filter (· != g) }
  let t := sat (put t 0x2700 4 (setBit (get t 0x2700 4) g)) 0x2700 9
  log t clsWarn 1 0x10 255 0x2700 4 none (get t 0x2700 4)

/-- The band selected for the target (R178): its number from 1, 0 for none. -/
def selectBand (s : State) : Nat :=
  match (List.range 32).find? (bandHits s) with
  | some k => k + 1
  | none => 0

/-- Every station DLL of a present station takes a state (2230:01 to :06). -/
def setDlls (s : State) (v : Nat) : State := forEach (stationsPresent s) (fun t n => put t 0x2230 (n + 1) v) s

/-- The timebase gate closes (R183 step 2): LDn_EN low, trackers held off, station DLLs off. -/
def closeGate (s : State) : State :=
  let t := if s.clk.gateOpen then forEach (stationsPresent s) restLanes (holdTime s) else s
  holdUnlit (setDlls { t with clk := { t.clk with gateOpen := false } } 0)

/-- One attempt begins (R183 step 3). -/
def relockAttempt (s : State) : State := put (put s 0x2200 3 1) 0x2200 4 (selectBand s)

/-- A relock starts on an occasion (R182, R183): an armed group 13 is taken, except by the second serve of a timebase fault. After a reference
loss the control values of the PLLs are held, and none starts (R175). -/
def startRelock (s : State) (occ : Occasion) : State :=
  if s.clk.refLost then s else
  let prev := if occ == .kickoff then romBands s else bandSet s
  let armed := s.armed.contains 13 && occ != .serve
  let ok := armed && groupCheck s 13 == 0
  let t := if ok then copyGroup s 13 else if armed then rejectGroup s 13 else s
  let t := { t with clk := { t.clk with relock := some { occasion := occ, taken := ok, previous := prev, start := s.time } } }
  relockAttempt (closeGate (bump t 0x2200 6))

/-- The timebase is off: DOZE and the off-sequence of SHUTDOWN (R170). -/
def stopTimebase (s : State) : State :=
  if s.clk.relock.isSome then s else put (closeGate s) 0x2200 3 0

/-! ## The record of a mode change -/

/-- A mode change is recorded: 2000:01 and :04 to :06, the kind-5 entry, PF0 vector 2 (R44, R258, R566); leaving SERVICE
stops the injection (R530). -/
def recordMode (s : State) (new : Mode) (cause : Nat) : State :=
  let old := s.md.mode
  let t := { s with md := { s.md with mode := new, previous := old, dozing := false, waking := false },
                    diag := if old = .service then { s.diag with injecting := false } else s.diag }
  let t := wrapBy 32 (put t 0x2000 5 cause) 0x2000 6 1
  vector (log t clsNotice 5 0x0F 255 0x2000 1 none (modeCode new + 256 * modeCode old + 65536 * cause)) 0 2

/-- The MODE frames of the change that has just been recorded (R254). -/
def sayMode (s : State) (ports : List Nat) : State := modeFrames s s.md.mode s.md.previous (get s 0x2000 5) ports

/-! ## Block actions on entry -/

/-- Loops with a high-voltage or general output (R533). -/
def hvLoops : List Nat := List.range 26 ++ (List.range 8).map (· + 40)

/-- A loop goes off with the mode; one that is held off stays so (R533). -/
def loopModeOff (s : State) (n : Nat) : State :=
  if (loop s n).state = 0 ∨ (loop s n).state = 4 then s else serveDrop (loopOffNow s n) .loop n

/-- A loop with a nonzero law runs on a bank, starting by soft-start when it was off (R533). -/
def loopModeOn (s : State) (b n : Nat) : State :=
  if law s n = 0 ∨ !loopPresent s n then s
  else
    let t := selectBank s n b
    if (loop t n).state = 0 then softStart t n else t

/-- Every motor stops on its ramp (R468); every moving axis on its ramp, a homing at once (R496). -/
def rampMotors (s : State) : State := forEach (List.range 12) rampStop s
def rampAxes (s : State) : State := forEach (List.range 16) (fun t a => if axState t a = 5 then hardStop t a else rampedStop t a) s

/-- No raster work outside READY, RALLY and RUNOUT (R343). -/
def rasterOff (s : State) : State := forEach (List.range 6) stopRaster s

/-- Service light of every station ends (R404). -/
def serviceOff (s : State) : State := forEach (List.range 6) (fun t n => setStation t n fun x => { x with svcBd := false, svcUntil := 0 }) s

/-- The doorbells held in DOZE act (R287). -/
def ringBells (s : State) : State :=
  s.md.bells.foldl (fun t b => ringBell t b.1 b.2.1 b.2.2) { s with md := { s.md with bells := [] } }

/-- The on-sequence of the rails with flag bit 1 begins (R165, R616). -/
def dozeRailsOn (s : State) : State := { s with seq := { s.seq with state := 1, why := .none, dozeRails := true, since := s.time } }

/-- What comes back when DOZE is left for an operating mode: the DRAM, the timebase, the doorbells (R170, R287, R616). -/
def leaveDoze (s : State) : State :=
  let t := { s with mem := { s.mem with selfRefresh := false, mr4Due := s.mem.trained } }
  let t := if t.clk.offUntilKickoff || t.clk.relock.isSome then t else startRelock t .dozeExit
  t

/-- Entry to STANDBY (R49, R391, R404, R468, R496, R533, R564, R584). -/
def intoStandby (s : State) (old : Mode) : State :=
  let t := { s with pins := { s.pins with safeN := false } }
  let t := serviceOff (rasterOff (rampAxes (rampMotors t)))
  let t := forEach [26, 27] (fun u n => loopModeOn u 1 n) (forEach hvLoops loopModeOff t)
  let t := if old = .kickoff then forEach (stationsPresent t) (fun u n => linkUp u n false) t else t
  if old = .doze then ringBells (leaveDoze t) else t

/-- Entry to WARMUP (R468, R533). -/
def intoWarmup (s : State) : State :=
  let t := forEach ((List.range 6).filter (motorPresent s)) (fun u m => commandEntry u m 1) s
  let t := forEach ((List.range 6).map (· + 6)) (fun u m => commandEntry u m (get u 0x4810 7)) t
  forEach (hvLoops ++ [26, 27]) (fun u n => loopModeOn u 0 n) t

/-- Entry to DOZE (R165, R170, R343, R404, R434, R468, R546). -/
def intoDoze (s : State) : State :=
  let t := forEach (List.range 48) loopModeOff s
  let t := forEach (List.range 12) motorOff (rasterOff t)
  let t := forEach (List.range 6) linkOff t
  let t := dropEvents t fun e => !(eventClass e.code == 5 || e.ref == 255)
  let t := stopTimebase { t with mem := { t.mem with selfRefresh := t.mem.trained } }
  let off := (List.range 16).any fun r => (rail t r).en && (get t (0x2100 + r) 0x0A).testBit 1
  pinsToSleep (if off then { t with seq := { t.seq with state := 3, why := .doze } } else t)

/-- Entry to SHUTDOWN (R164 steps 1 to 3, R22, R434); an on-sequence under way ends, with no further rail enabled (R616). -/
def intoShutdown (s : State) : State :=
  let t := forEach (List.range 48) loopModeOff (withdrawAll s)
  let t := rampAxes (rampMotors (rasterOff t))
  let t := forEach (List.range 6) linkOff t
  let t := if t.seq.state = 1 then { t with seq := { t.seq with state := 2, dozeRails := false } } else t
  { setSlots t [] with md := { t.md with offStarted := false, offEnded := false, shutAt := t.time } }

/-- The block actions of an entry, the mode already recorded. -/
def modeActions (s : State) (old : Mode) : State :=
  match s.md.mode with
  | .kickoff => s
  | .terp => s
  | .standby => intoStandby s old
  | .warmup => intoWarmup s
  | .ready => s
  | .rally => s
  | .runout => withdrawAll s
  | .calibrate => (stationsPresent s).foldl calibrationPattern (rasterOff (withdrawAll s))
  | .service => s
  | .doze => intoDoze s
  | .safestop => s
  | .shutdown => intoShutdown s

/-! ## Rows and routes (R40 to R46) -/

/-- The modes that a request row of the transition table leads to, in the order of their codes (R44). -/
def requestRows : Mode → List Mode
  | .kickoff => []
  | .terp => [.shutdown]
  | .standby => [.warmup, .service, .doze, .shutdown]
  | .warmup => [.standby]
  | .ready => [.standby, .calibrate, .shutdown]
  | .rally => [.runout]
  | .runout => []
  | .calibrate => [.ready, .shutdown]
  | .service => [.standby, .shutdown]
  | .doze => [.standby, .shutdown]
  | .safestop => [.shutdown]
  | .shutdown => []

/-- The first step of the shortest route of request rows, the lower code on a tie (R46). -/
def routeStep (m p : Mode) : Option Mode :=
  let r := requestRows m
  if r.contains p then some p
  else match r.find? fun a => (requestRows a).contains p with
    | some a => some a
    | none => r.find? fun a => (requestRows a).any fun b => (requestRows b).contains p

/-- The pending target after the mode has been reached (R41, R46): reached, kept, or dropped with a NOTICE. -/
def settlePending (s : State) : State :=
  match s.md.pending with
  | none => s
  | some p =>
    if s.md.mode = p then { s with md := { s.md with pending := none } }
    else if s.md.mode = .runout then s
    else if (routeStep s.md.mode p).isSome then s
    else log { s with md := { s.md with pending := none } } clsNotice 1 0x0F 255 0x2000 3 none 255

/-- Enters a mode other than KICKOFF and SAFESTOP (R44, R49, R254). -/
def enterMode (s : State) (new : Mode) (cause : Nat) : State :=
  let old := s.md.mode
  let awake := livePorts s
  let t := modeActions (recordMode s new cause) old
  let t := sayMode t (if new = .shutdown then awake else livePorts t)
  settlePending (holdUnlit t)

/-! ## SAFESTOP (R47, R48, R557, R561, R614) -/

/-- The instance under which the cause of an entry stands until the entry is complete. -/
def entryInst : Nat := 16777215

/-- The cause of a trigger is recorded (2400:07). -/
def recordCause (s : State) (cause : Nat) : State := putLog s 0x2400 7 cause

/-- A motor at SAFESTOP: a pending restart is cancelled, braked stop (R468, R557). -/
def safestopMotor (s : State) (m : Nat) : State := brakeMotor (serveCancel s .motor m 0x0B (motIdx m) 0x36) m

/-- An axis at SAFESTOP: a pending re-enable is cancelled, hard stop (R496, R557). -/
def safestopAxisAll (s : State) (a : Nat) : State :=
  safestopAxis (setAxis (serveCancel s .axisDriver a 0x0C (axIdx a) 0x35) a fun x => { x with reenable := false }) a

/-- SAFESTOP entry and the ADMITTED sheets (R22, R23): those that the withdrawal reaches go back to RESIDENT; the others count as COMMITTED,
and end SPOILED with the sheets on the path (R37). -/
def withdrawEvery (s : State) : State :=
  (s.sheets.filter (·.admitted)).foldl (fun t sh => if inTime s sh then withdrawOne t sh.uid else overtaken t sh.uid) s

/-- The way out of DOZE that ends in SAFESTOP (R616): the on-sequence of the DOZE rails, DRAM, relock. -/
def dozeToSafestop (s : State) : State := leaveDoze (dozeRailsOn s)

/-- SAFESTOP is entered with a cause: steps 1 to 4 of R561; steps 5 and 6 come with the completion of the entry. -/
def safestopEnter (s : State) (cause : Nat) : State :=
  let old := s.md.mode
  let t := satLog 16 (if cause = 1 then recordCause s cause else causeAdd (recordCause s cause) cause entryInst) 0x2400 5
  let t := recordMode { t with md := { t.md with pending := none, entering := true, ackHeld := false },
                               pins := { t.pins with safeN := true } } .safestop cause
  let t := dropEvents t fun e => eventClass e.code == 1 || eventClass e.code == 2 || eventClass e.code == 3
  let t := withdrawEvery (forEach (List.range 16) safestopAxisAll t)
  let t := forEach (List.range 48) safestopLoop (forEach (List.range 12) safestopMotor t)
  let t := forEach (List.range 6) (fun u n => dropCorrections u n) (serviceOff (rasterOff t))
  holdUnlit (if old = .doze then dozeToSafestop t else t)

/-- A SAFESTOP trigger (R47, R48, R614): it enters SAFESTOP, or is recorded where it starts no entry. -/
def safestop (s : State) (cause : Nat) : State :=
  match s.md.mode with
  | .kickoff => recordCause s cause
  | .terp => recordCause s cause
  | .safestop => recordCause s cause
  | .shutdown => recordCause s cause
  | _ => safestopEnter s cause

/-- An accepted request for SAFESTOP acts at once as a trigger with cause 0x01 (R42); in SAFESTOP it is recorded and logged, kind 1 (R614). -/
def safestopRequest (s : State) : State :=
  if s.md.mode = .safestop then log (safestop s 1) clsNotice 1 0x0F 255 0x2400 7 none 1 else safestop s 1

/-- A trigger whose cause persists by an instance (R563). -/
def safestopBy (s : State) (cause inst : Nat) : State := safestop (causeAdd s cause inst) cause

/-- A double fault in a safety group, when there was one: cause 0x07. -/
def onDouble (r : State × Bool) : State := if r.2 then safestop r.1 7 else r.1

/-- The same, persisting by an instance. -/
def onDoubleBy (inst : Nat) (r : State × Bool) : State := if r.2 then safestopBy r.1 7 inst else r.1

/-- A SAFESTOP cause asked for by an operation, when there was one. -/
def onCause (r : State × Option Nat) : State :=
  match r.2 with
  | some c => safestop r.1 c
  | none => r.1

/-- The loss of a partner with response 2: cause 0x0C until the partner is PRESENT (R225, R563). -/
def onPartner (n : Nat) (r : State × Bool) : State := if r.2 then safestopBy r.1 0x0C (partnerCause n) else r.1

/-- An accepted acknowledgement takes effect (R564, R44). -/
def acknowledge (s : State) : State :=
  let t := forEach (List.range 48) (fun u n => if (loop u n).state = 4 then setLoop u n fun l => { l with state := 0 } else u) s
  let t := forEach (List.range 12) (fun u m => if motorState u m = 7 then motorOff u m else u) t
  let t := forEach (List.range 16) (fun u a => if axState u a = 6 then disableAxis u a else u) t
  enterMode t .standby 0x0D

/-- The SAFESTOP entry is complete (R561 steps 5 and 6): MODE frames, PF0 vector 7, completions; what was held takes effect. -/
def safestopDone (s : State) : State :=
  let t := vector (sayMode s (livePorts s)) 0 7
  let t := spoilAll { t with md := { t.md with entering := false, ackHeld := false } }
  let t := causeEndAll t fun _ i => i == entryInst
  if s.md.pending = some .shutdown then enterMode t .shutdown 1 else if s.md.ackHeld then acknowledge t else t

/-! ## Requests (R39 to R43) -/

/-- Whether an accepted request of p is possible in the current mode (R40, R42, R43). -/
def mayRequest (m p : Mode) : Bool :=
  match p with
  | .kickoff => false
  | .terp => false
  | .rally => false
  | .safestop => m != .kickoff && m != .terp && m != .shutdown
  | _ =>
    if m = .rally ∨ m = .runout then p != .warmup
    else (requestRows m).contains p

/-- The abort code of a mode request (R38 to R42); 0 when it is accepted. A reserved code is left to the range step. -/
def requestCode (s : State) (v : Nat) : Nat :=
  if inTerp s ∧ v ≠ 11 then 0x0403
  else match modeOfCode v with
    | none => 0
    | some p => if mayRequest s.md.mode p then 0 else 0x0401

/-- DOZE is entered, or its align moves begin (R493). While they run, 2000:03 shows DOZE as the pending target, also where the idle time and
no request leads to DOZE: R41 does not say so of that case (DESIGN CHOICE, log 9). -/
def beginDoze (s : State) (cause : Nat) : State :=
  let t := forEach (List.range 16) retain s
  if (List.range 16).any fun a => (axis t a).aligning then
    { t with md := { t.md with dozing := true, dozeCause := cause, pending := some .doze } }
  else enterMode t .doze cause

/-- The on-sequence of a wake from DOZE begins (R165, R44). -/
def beginWake (s : State) (cause : Nat) : State :=
  if s.md.mode = .doze ∧ !s.md.waking then
    dozeRailsOn { s with md := { s.md with waking := true, wakeCause := cause } }
  else s

/-- One step to a mode by a request row (cause 0x01). -/
def stepTo (s : State) (p : Mode) : State :=
  if p = .doze then beginDoze s 1
  else if s.md.mode = .doze ∧ p = .standby then beginWake s 1
  else enterMode s p 1

/-- The pending target is set, unless SHUTDOWN is pending (R41). -/
def setPending (s : State) (p : Mode) : State :=
  if s.md.pending = some .shutdown then s else { s with md := { s.md with pending := some p } }

/-- An accepted request of p (R41 to R43, R561). -/
def doRequest (s : State) (p : Mode) : State :=
  if p = .safestop then safestopRequest s
  else if s.md.mode = .rally then
    (if p = .runout then enterMode { s with md := { s.md with pending := none } } .runout 1
    else enterMode { s with md := { s.md with pending := some p } } .runout 1)
  else if s.md.mode = .runout then
    (if p = .runout then (if s.md.pending = some .shutdown then s else { s with md := { s.md with pending := none } }) else setPending s p)
  else if s.md.entering then setPending s p
  else if s.md.waking ∨ s.md.pending.isSome ∧ !s.md.dozing then setPending s p
  else stepTo { s with md := { s.md with pending := none, dozing := false } } p

/-! ## The automatic rows -/

/-- The modes that RUNOUT reaches directly as a pending target (R44, R46). -/
def fromRunout (p : Mode) : Bool := p == .standby || p == .calibrate || p == .shutdown

/-- The row that the sheets ask for (R44): READY to RALLY on an admission, RALLY and RUNOUT left when no sheet is left on its way. A
sheet that R23 no longer reaches counts as COMMITTED. -/
def sheetRow (s : State) : Option (Mode × Nat) :=
  match s.md.mode with
  | .ready => if anyAdmitted s then some (.rally, 3) else none
  | .rally => if anyOnPath s then none else some (.ready, 2)
  | .runout =>
    if anyOnPath s then none
    else match s.md.pending with
      | some p => if fromRunout p then some (p, 2) else some (.ready, 2)
      | none => some (.ready, 2)
  | _ => none

/-- Every command ends with the places that have come free taken (R20), and in the automatic row that its effect calls for. -/
def settle (s : State) : State :=
  let t := enterWaiting s
  match sheetRow t with
  | some r => enterMode t r.1 r.2
  | none => t

/-- The outcome of a command that ends in state s. -/
def done (s : State) : Host.Outcome State Fault Refusal := .next (settle s)

end Sys2Proof.Machine
end

