-- ==== Sys2Proof/Machine/FlashImage.lean ====
section
/-! DEFINITION. The flash configuration image: header, sections, object and patch records, the checks of kick-off, and the rail tables
A, B, C and flash (R114 to R125, R144 to R149). -/

namespace Sys2Proof.Machine

/-! ## The image (R114 to R123) -/

/-- n octets of the flash at an offset: unwritten octets read 0xFF. -/
def flashBytes (img : List Byte) (o n : Nat) : List Byte :=
  let l := slice img o n
  l ++ List.replicate (n - l.length) 0xFF

/-- There is no image (R122): no flash answers, or its first 64 octets are all 0xFF. -/
def noImage (f : Flash) : Bool := !f.fitted || (flashBytes f.image 0 64).all (· == 0xFF)

/-- One entry of the section table (R117). -/
structure ImgSection where
  type : Nat
  flags : Nat
  reserved : Nat
  off : Nat
  len : Nat
  crc : Nat
deriving DecidableEq, Repr

/-- Header fields (R116). -/
def imageLen (img : List Byte) : Nat := leAt img 8 4
def imageSigned (img : List Byte) : Bool := leAt img 0x0E 2 % 2 == 1
def imageSerial (img : List Byte) : Nat := leAt img 0x10 4
def imageCount (img : List Byte) : Nat := leAt img 0x0C 2

/-- Check 1 of R121: magic, version, header length, reserved fields, header CRC. -/
def check1 (img : List Byte) : Bool :=
  leAt img 0 4 == 0x34365A54 && leAt img 4 2 == 1 && leAt img 6 2 == 64 && decide (leAt img 0x0E 2 < 2) &&
    (slice img 0x18 36).all (· == 0) && leAt img 0x3C 4 == crc32 (slice img 0 0x3C)

/-- The section table. -/
def sections (img : List Byte) : List ImgSection :=
  (List.range (imageCount img)).map fun k =>
    let o := 64 + 16 * k
    { type := leAt img o 1, flags := leAt img (o + 1) 1, reserved := leAt img (o + 2) 2, off := leAt img (o + 4) 4,
      len := leAt img (o + 8) 4, crc := leAt img (o + 12) 4 }

/-- The end of the sections: the image length, less the signature block of a signed image. -/
def sectionsEnd (img : List Byte) : Nat := if imageSigned img then imageLen img - 128 else imageLen img

/-- Check 2 of R121: image length, section count, types, reserved fields, bounds; at most one rail table section (R117, R118). -/
def check2 (img : List Byte) : Bool :=
  decide (64 ≤ imageLen img ∧ imageLen img ≤ 1040384) && decide (imageCount img ≤ 64) &&
    decide (64 + 16 * imageCount img ≤ sectionsEnd img) &&
    ((sections img).all fun x => decide (1 ≤ x.type ∧ x.type ≤ 3) && x.flags == 0 && x.reserved == 0 && x.off % 4 == 0 &&
      decide (64 + 16 * imageCount img ≤ x.off ∧ x.off + x.len ≤ sectionsEnd img)) &&
    decide (((sections img).filter fun x => x.type == 2).length ≤ 1)

/-- The octets of a section. -/
def sectionBytes (img : List Byte) (x : ImgSection) : List Byte := flashBytes img x.off x.len

/-- Check 3 of R121: every section CRC. -/
def check3 (img : List Byte) : Bool := (sections img).all fun x => crc32 (sectionBytes img x) == x.crc

/-- Check 4 of R121: dictionary revision and minimum ROM revision. -/
def check4 (img : List Byte) : Bool := leAt img 0x14 2 == 1 && decide (leAt img 0x16 2 ≤ 0x0302)

/-- The sections of a type, in the table's order. -/
def sectionsOf (img : List Byte) (ty : Nat) : List ImgSection := (sections img).filter fun x => x.type == ty

/-- Check 5 of R121: the signature over the octets before its block, by the owner key (R120). -/
def check5 (hash img : List Byte) : Bool :=
  let n := imageLen img
  let x := flashBytes img (n - 128) 32
  let y := flashBytes img (n - 96) 32
  imageSigned img && !hash.isEmpty && sha256 (x ++ y) == hash &&
    ecdsaVerify (x ++ y) (flashBytes img (n - 64) 64) (sha256 (flashBytes img 0 (n - 128)))

/-! ## Object records (R118) -/

/-- The records of an object-record section: index, subindex, data; none where the run breaks its layout. The first argument bounds the
number of records. -/
def objectRecords : Nat → List Byte → Option (List (Nat × Nat × List Byte))
  | 0, l => if l.isEmpty then some [] else none
  | k + 1, l =>
    if l.isEmpty then some []
    else
      let n := leAt l 4 4
      let z := (n + 3) / 4 * 4
      if l.length < 8 + z ∨ leAt l 3 1 ≠ 0 ∨ 16777216 < n ∨ !(slice l (8 + n) (z - n)).all (· == 0) then none
      else (objectRecords k (l.drop (8 + z))).map fun t => (leAt l 0 2, leAt l 2 1, slice l 8 n) :: t

/-- The object records of an image, section by section; none where a run breaks its layout. -/
def imageObjects (img : List Byte) : Option (List (Nat × Nat × List Byte)) :=
  (sectionsOf img 1).foldl (fun a x => match a, objectRecords (x.len / 8 + 1) (sectionBytes img x) with
    | some l, some m => some (l ++ m)
    | _, _ => none) (some [])

/-! ## Patch records (R124, R125) -/

/-- Whether a patch record's signature verifies under the Untonik patch key (R124): over the SHA-256 of the record before its signature
(DEDUCED, log 127). -/
def patchOk (record sig : List Byte) : Bool := ecdsaVerify Config.patchKey sig (sha256 record)

/-- The patch records of a section: each that verifies and reaches an entry of its table; and how many are skipped. A run that breaks its
layout ends with one skipped record. -/
def patchRecords : Nat → List Byte → List Patch × Nat
  | 0, l => ([], if l.isEmpty then 0 else 1)
  | k + 1, l =>
    if l.isEmpty then ([], 0)
    else
      let n := leAt l 8 4
      let z := (n + 3) / 4 * 4
      if l.length < 76 + z ∨ n = 0 ∨ 4096 < n then ([], 1)
      else
        let r := patchRecords k (l.drop (76 + z))
        let p : Patch := { level := leAt l 0 2, table := leAt l 2 1, offset := leAt l 4 4, data := slice l 12 n }
        if 1 ≤ p.level ∧ 1 ≤ p.table ∧ p.table ≤ 4 ∧ leAt l 3 1 = 0 ∧ patchOk (slice l 0 (12 + z)) (slice l (12 + z) 64) ∧
            Config.patchInside p.table p.offset n then (p :: r.1, r.2)
        else (r.1, r.2 + 1)

/-- A patch inserted in ascending level; of equal levels the later record comes later. -/
def insertPatch (p : Patch) : List Patch → List Patch
  | [] => [p]
  | q :: t => if q.level ≤ p.level then q :: insertPatch p t else p :: q :: t

/-- The patch records of an image in ascending level, and the number skipped (R125). -/
def imagePatches (img : List Byte) : List Patch × Nat :=
  let r := (sectionsOf img 3).foldl (fun (a : List Patch × Nat) x =>
    let q := patchRecords (x.len / 76 + 1) (sectionBytes img x)
    (a.1 ++ q.1, a.2 + q.2)) ([], 0)
  (r.1.foldl (fun l p => insertPatch p l) [], r.2)

/-! ## Rail tables (R144 to R149) -/

/-- The parameters of a rail (R144), as 2100+r:01 to :0A hold them. -/
structure RailRow where
  use : Nat := 0
  on : Nat := 0
  ramp : Nat := 1
  off : Nat := 0
  fault : Nat := 0
  warn : Nat := 0
  faultFilter : Nat := 1
  warnFilter : Nat := 1
  resp : Nat := 0
  flags : Nat := 0
deriving DecidableEq, Repr

/-- A window of ±p % of a nominal pin voltage in mV, each edge coded to the nearest 0.3 mV (R141, R146). -/
def railWindow (pin p : Nat) : Nat := roundDiv (pin * (100 - p)) 30 + 65536 * roundDiv (pin * (100 + p)) 30

/-- A rail of table A (R146): nominal pin voltage in mV, use, on-delay, ramp limit and off-delay in 0.1 ms, response, flags. The "—" that
the table gives as the off-delay of rail 0 reads 0 (DESIGN CHOICE, log 86). -/
def railA (pin use on ramp off resp flags : Nat) : RailRow :=
  { use := use, on := 100 * on, ramp := 100 * ramp, off := 100 * off, fault := railWindow pin 8, warn := railWindow pin 4, faultFilter := 4,
    warnFilter := 100, resp := resp, flags := flags }

/-- Table A (R146): its filters hold for every rail; rails 14 and 15 are unused. -/
def tableA : List RailRow :=
  [railA 960 2 0 5 0 0 0, railA 1000 1 5 10 120 2 0, railA 825 1 15 10 110 2 0, railA 900 1 25 10 100 2 0, railA 900 1 25 10 100 2 0,
   railA 900 1 35 10 90 2 0, railA 1100 1 45 10 80 2 0, railA 600 1 55 10 70 2 0, railA 800 1 65 10 60 2 0, railA 850 1 75 10 50 2 0,
   railA 900 1 85 15 40 2 0, railA 960 1 100 10 30 1 2, railA 1000 1 110 10 20 1 2, railA 960 1 120 30 10 1 2,
   { faultFilter := 4, warnFilter := 100 }, { faultFilter := 4, warnFilter := 100 }]

/-- Table B: rails 4 and 5 unused (R147). -/
def tableB : List RailRow := (tableA.set 4 { (tableA.getD 4 {}) with use := 0 }).set 5 { (tableA.getD 5 {}) with use := 0 }

/-- Table C: every on-delay, ramp limit and off-delay doubled (R147). -/
def tableC : List RailRow :=
  tableA.map fun x => if x.use = 0 then x else { x with on := 2 * x.on, ramp := 2 * x.ramp, off := 2 * x.off }

/-- One rail record of the flash section (R148): rail number and parameters; none where a field is outside its range or reserved. -/
def railRecord (l : List Byte) : Option (Nat × RailRow) :=
  let x : RailRow :=
    { use := leAt l 1 1, flags := leAt l 2 1, resp := leAt l 3 1, on := leAt l 4 4, off := leAt l 8 4, ramp := leAt l 12 2,
      faultFilter := leAt l 14 1, fault := leAt l 16 4, warn := leAt l 20 4, warnFilter := leAt l 24 2 }
  if leAt l 0 1 < 16 ∧ x.use < 4 ∧ x.flags < 4 ∧ x.resp < 3 ∧ x.on ≤ 36000 ∧ x.off ≤ 50000 ∧ 1 ≤ x.ramp ∧ x.ramp ≤ 36000 ∧
      1 ≤ x.faultFilter ∧ 1 ≤ x.warnFilter ∧ x.warnFilter ≤ 10000 ∧ x.fault % 65536 ≤ 4095 ∧ x.fault / 65536 ≤ 4095 ∧
      x.warn % 65536 ≤ 4095 ∧ x.warn / 65536 ≤ 4095 ∧ leAt l 15 1 = 0 ∧ (slice l 26 6).all (· == 0)
  then some (leAt l 0 1, x) else none

/-- The records of the flash section: none where one is refused or a rail number repeats (R149). -/
def railRecords : Nat → List Byte → Option (Tab RailRow)
  | 0, _ => some []
  | k + 1, l => match railRecord (l.take 32), railRecords k (l.drop 32) with
    | some r, some t => if tabHas t r.1 then none else some (tabSet t r.1 r.2)
    | _, _ => none

/-- The flash rail table (R148, R149): retry count, retry pause, rails; none where the section is refused but for R145. -/
def flashRails (d : List Byte) : Option (Nat × Nat × List RailRow) :=
  let n := leAt d 1 1
  if 8 ≤ d.length ∧ leAt d 0 1 = 1 ∧ 1 ≤ n ∧ n ≤ 16 ∧ leAt d 2 1 ≤ 3 ∧ leAt d 3 1 = 0 ∧ 10 ≤ leAt d 4 2 ∧ leAt d 4 2 ≤ 200 ∧ leAt d 6 2 = 0 ∧
      d.length = 8 + 32 * n then
    (railRecords n (d.drop 8)).map fun t => (leAt d 2 1, leAt d 4 2, (List.range 16).map fun r => tabGet {} t r)
  else none

/-- The rail section of the flash image as step 3 reads it (R104, R109, R149): header, section table, the section's own CRC. -/
def imageRails (f : Flash) : Option (Nat × Nat × List RailRow) :=
  if noImage f || !check1 f.image || !check2 f.image then none
  else match (sectionsOf f.image 2).head? with
    | some x => if crc32 (sectionBytes f.image x) = x.crc then flashRails (sectionBytes f.image x) else none
    | none => none

/-- The parameters of rail r become objects 2100+r:01 to :0A. -/
def putRail (s : State) (r : Nat) (x : RailRow) : State :=
  let i := 0x2100 + r
  let t := put (put (put (put (put s i 1 x.use) i 2 x.on) i 3 x.ramp) i 4 x.off) i 5 x.fault
  put (put (put (put (put t i 6 x.warn) i 7 x.faultFilter) i 8 x.warnFilter) i 9 x.resp) i 0x0A x.flags

/-- A rail table becomes the active one (2120:01 to :03). -/
def putTable (s : State) (code retry pause : Nat) (l : List RailRow) : State :=
  let t := forEach (List.range 16) (fun u r => putRail u r (l.getD r {})) s
  put (put (put t 0x2120 1 code) 0x2120 2 retry) 0x2120 3 pause

/-- The active rail table by STRAP2 (R101, R146 to R149, R153): none where the flash section is refused. -/
def selectTable (s : State) : Option State :=
  let retry := if patron s then 3 else 2
  match strap s 2 with
  | 0 => some (putTable s 0 retry 50 tableA)
  | 1 => some (putTable s 1 retry 50 tableB)
  | 2 => some (putTable s 2 retry 50 tableC)
  | _ => match imageRails s.flash with
    | some q =>
      let t := putTable s 3 q.1 q.2.1 q.2.2
      if check14 t = 0 then some t else none
    | none => none

end Sys2Proof.Machine
end

