-- ==== Sys2Proof/Machine/Reset.lean ====
section
/-! DEFINITION. Start-failure journal, off-sequence, warm reset, kick-off start and failure, entry to TERP, hold states (R104, R127
to R136, R153 to R166, R595, R615, R618). -/

namespace Sys2Proof.Machine

/-! ## The journal (R129 to R132) -/

/-- The flash offset of the start-failure journal: two sectors of 4,096 octets (R114). -/
def journalBase : Nat := 0x000FE000

/-- The 16 octets of a journal record (R130): its fields, little-endian, and the CRC over them (R115). -/
def JRecord.head (r : JRecord) : List Byte :=
  leBytes 1 r.kind ++ leBytes 1 r.reason ++ leBytes 1 r.counter ++ leBytes 1 r.step ++ leBytes 4 r.boot ++ leBytes 4 r.detail
def JRecord.bytes (r : JRecord) : List Byte := r.head ++ leBytes 4 (crc32 r.head)

/-- The record that 16 octets hold: none where the CRC is invalid or the kind is 0xFF, unwritten, or reserved (R129, R130). -/
def readRecord (l : List Byte) : Option JRecord :=
  if l.length = 16 ∧ leAt l 12 4 = crc32 (l.take 12) ∧ (leAt l 0 1 = 1 ∨ leAt l 0 1 = 2) then
    some { kind := leAt l 0 1, reason := leAt l 1 1, counter := leAt l 2 1, step := leAt l 3 1, boot := leAt l 4 4, detail := leAt l 8 4 }
  else none

/-- The octets of journal sector k, record by record, and its valid records, lowest offset first. -/
def journalSector (f : Flash) (k : Nat) : List (List Byte) := f.journal.getD k []
def validRecords (f : Flash) (k : Nat) : List JRecord := (journalSector f k).filterMap readRecord

/-- Whether sector a was begun before sector b (R129): the first record of b carries the later boot count, or an equal one while b is not
full. Invalid records at a sector's start are passed over (DEDUCED, log 128). -/
def sectorBefore (f : Flash) (a b : Nat) : Bool :=
  match validRecords f a, validRecords f b with
  | x :: _, y :: _ => follows 32 x.boot y.boot || x.boot == y.boot && decide ((journalSector f b).length < 256)
  | [], _ => true
  | _, [] => false

/-- The sector that was begun last: the active one. -/
def activeSector (f : Flash) : Nat :=
  if (validRecords f 0).isEmpty && (validRecords f 1).isEmpty then (if (journalSector f 0).length < 256 then 0 else 1)
  else if sectorBefore f 0 1 then 1 else 0

/-- The valid records of the two sectors in the order in which they were written (R129). -/
def journalList (f : Flash) : List JRecord := validRecords f (1 - activeSector f) ++ validRecords f (activeSector f)

/-- Reads the records in the order written: the latest record so far with the reasons after the last cleared record up to it, newest first,
and the reasons up to the record just read (R129). Later boot counts win, and the later written on a tie. -/
def journalFold (a : Option (JRecord × List Nat) × List Nat) (r : JRecord) : Option (JRecord × List Nat) × List Nat :=
  let reasons := if r.kind = 2 then [] else r.reason :: a.2
  match a.1 with
  | none => (some (r, reasons), reasons)
  | some c => (if c.1.boot = r.boot ∨ follows 32 c.1.boot r.boot then some (r, reasons) else some c, reasons)

/-- The latest record and the reasons up to it (R129). -/
def latestRecord (f : Flash) : Option (JRecord × List Nat) := ((journalList f).foldl journalFold (none, [])).1

/-- A record is programmed into slot n of sector k (R114, R130). -/
def programRecord (s : State) (k : Nat) (l : List (List Byte)) (r : JRecord) : State :=
  emit { s with flash := { s.flash with journal := s.flash.journal.set k (l ++ [r.bytes]) } }
    (.flashWrite (journalBase + 4096 * k + 16 * l.length) r.bytes)

/-- Writes a record (R131, R132): where the active sector is full the other one is erased and takes the record first. -/
def writeJournal (s : State) (r : JRecord) : State :=
  let k := activeSector s.flash
  if !s.flash.fitted then put s 0x2030 0x0B 1
  else if !s.flash.journalOk then put s 0x2030 0x0B 2
  else if (journalSector s.flash k).length < 256 then programRecord s k (journalSector s.flash k) r
  else programRecord (emit s (.flashErase (journalBase + 4096 * (1 - k)))) (1 - k) [] r

/-- The retained counter, the list of reasons, the threshold of STRAP4, the boot count. -/
def failures (s : State) : Nat := get s 0x2030 1
def reasonList (s : State) : List Nat := (List.range 8).map fun k => get s 0x2030 (3 + k)
def failThreshold (s : State) : Nat :=
  match strap s 4 with
  | 0 => 2
  | 1 => 3
  | 2 => 5
  | _ => 8
def bootCount (s : State) : Nat := get s 0x2030 0x0C

/-- Sets the list of reasons. -/
def putReasons (s : State) (l : List Nat) : State := forEach (List.range 8) (fun t k => put t 0x2030 (3 + k) (l.getD k 0)) s

/-- Counter and list are cleared; a cleared record is written only when the counter was nonzero (R128, R131). -/
def clearFailures (s : State) : State :=
  let t := if failures s = 0 then s else
    writeJournal s { kind := 2, reason := 0, counter := 0, step := 0, boot := bootCount s, detail := 0 }
  putReasons (put t 0x2030 1 0) []

/-! ## Rails and sequences -/

/-- The indices of rail r. -/
def railIdx (r : Nat) : Nat := 0x2100 + r

/-- Whether some RAIL_EN is active. -/
def anyRailOn (s : State) : Bool := s.rails.any fun p => p.2.en

/-- Drives the RAIL_EN of a rail inactive: state 1, or 6 by a response (R160, R163). -/
def railOff (s : State) (r st : Nat) : State :=
  setRail s r fun x => { x with en := false, wasGood := false, state := if railUse s r = 0 then 0 else st }

/-- Every RAIL_EN inactive at once (R166, R595). -/
def allRailsOff (s : State) : State := forEach (List.range 16) (fun t r => if (rail t r).en then railOff t r 1 else t) s

/-- The level that the RAIL_EN pin of rail r drives (R140): none, high-impedance, until the active rail table is known at kick-off step 3;
then high when the rail's turn has come, inverted by flag bit 0. -/
def railEnPin (s : State) (r : Nat) : Option Bool :=
  if s.seq.driven then some ((rail s r).en != (get s (railIdx r) 0x0A).testBit 0) else none

/-- The bit of a rail's flags that turns it off in DOZE (R144, R165). -/
def dozeRail (s : State) (r : Nat) : Bool := (get s (railIdx r) 0x0A).testBit 1

/-- The off-sequence begins for a reason; RST_OUT_N and SAFE_N follow their own rules (R153, R161, R163, R615). -/
def beginOff (s : State) (why : OffReason) : State := { s with seq := { s.seq with state := 3, why := why } }

/-! ## What a warm reset keeps (R128, R161, R162, R560, R595, R615) -/

/-- Objects that keep their values over a warm reset: 2000:04 to :06, 2030:01 and :03 to :0A, :0C, 2120:06 to :09, 2200:0B,
7010:0C; the rail table with 2120:01 to :05 stays in force for the off-sequence, and 2040:01 for a TERP that is attempted again; 2710:01
until kick-off starts (R138). -/
def keptKey (k : Nat) : Bool :=
  let i := k / 256
  let j := k % 256
  (i == 0x2000 && decide (4 ≤ j ∧ j ≤ 6)) || (i == 0x2030 && j != 2 && j != 0x0B) || (i == 0x2120 && decide (1 ≤ j ∧ j ≤ 9)) || (i == 0x2040 && j == 1) ||
    (i == 0x2200 && j == 0x0B) || (i == 0x7010 && j == 0x0C) || (i == 0x2710 && j == 1) || (decide (0x2100 ≤ i ∧ i < 0x2110) && decide (j ≤ 0x0A))

/-- Log objects that keep their values: SAFETY events and kind, and the next sequence (R560, R569). -/
def keptLogKey (k : Nat) : Bool := k == keyOf 0x2400 8 || k == keyOf 0x2400 9 || k == keyOf 0x2410 3

/-- Objects that no reset clears: the owner key hash (03_kickoff.md, 2710:02). -/
def keptBlob (k : Nat) : Bool := k == keyOf 0x2710 2

/-- The mechanisms whose second serve is a warm reset (R555). -/
def keptServe (r : Serve) : Bool := r.mech == Mech.rail.code || r.mech == Mech.reference.code || r.mech == Mech.supervisor.code

/-- Holds of stagers end with the entry to KICKOFF: each discarded group is logged (R78). R78 says that an armed group stays armed when a hold
ends, R62 that every object takes its default at kick-off: armed groups are dropped with it, without an entry (DESIGN CHOICE, log 129). -/
def discardAllStaged (s : State) : State :=
  let gs := (s.stagers.map (·.1)).filter fun g => !s.armed.contains g
  gs.foldl (fun t g => log t clsNotice 1 0x10 255 0x2700 7 none g) { s with stagers := [], staged := [], stagedBlobs := [], armed := [] }

/-- The log over a warm reset: the ring, the mirror and the entries held in AON stay. -/
def keptLog (l : Log) : Log :=
  { dict := l.dict.filter fun p => keptLogKey p.1, ring := l.ring, early := l.early, mirror := l.mirror, active := l.active,
    pending := l.pending, serves := l.serves.filter keptServe }

/-- The pins over a warm reset: what is outside stays; SAFE_N asserted, RST_OUT_N low. -/
def keptPins (p : Pins) : Pins :=
  { safeN := true, rstLow := true, ilockOpen := p.ilockOpen, perstLow := p.perstLow, linkSpeed := p.linkSpeed, linkWidth := p.linkWidth,
    ext := p.ext, bank33 := p.bank33, bank18 := p.bank18, gatesSet := p.gatesSet }

/-- Kick-off's own memory over a warm reset. -/
def keptKick (k : Kick) : Kick :=
  { straps := k.straps, cold := k.cold, challenge := k.challenge, badResponses := k.badResponses, railResetLog := k.railResetLog, safetyLog := k.safetyLog,
    thermalLog := k.thermalLog }

/-- The state that a warm reset leaves of a state, in its mode and with its rails. -/
def warmKept (s : State) : State :=
  { time := s.time, powered := true, heatFrom := s.time, md := { mode := s.md.mode, previous := s.md.previous }, kick := keptKick s.kick,
    hold := .none, reset_ := s.reset_,
    seq := { state := s.seq.state, why := s.seq.why, driven := s.seq.driven },
    rails := s.rails, flash := s.flash, dict := s.dict.filter (fun p => keptKey p.1), blobs := s.blobs.filter (fun p => keptBlob p.1),
    nextUid := s.nextUid, pins := keptPins s.pins, log := keptLog s.log, out := s.out, fresh := s.fresh, pending := s.pending }

/-- The first entry after every kick-off (R569): kind 8; its detail is the boot count, known from step 3 on. -/
def logStart (s : State) : State := log s clsNotice 8 1 255 0x2030 0x0C none (bootCount s)

/-- ILOCK_N open persists over every reset (R563, R108). -/
def keepIlock (s : State) : State := if s.pins.ilockOpen then recordCause (causeAdd s 8 0) 8 else s

/-- The block is cleared for a kick-off; sheets on the path complete first, and the change to KICKOFF is logged (R615, R26). -/
def clearBlock (s : State) (cause : Nat) : State :=
  let t := discardAllStaged (spoilAll s)
  let t := logStart (warmKept t)
  let t := recordMode t .kickoff cause
  keepIlock t

/-! ## Kick-off -/

/-- The latest sequence number in the mirror, in wrap-around order (R569, R570); none where the mirror is empty. -/
def latestSeq (l : Log) : Option Nat :=
  ((l.mirror.flatMap (·.2)).map (·.seq)).foldl (fun (b : Option Nat) q => match b with
    | none => some q
    | some c => if follows 32 c q then some q else some c) none

/-- The ring runs from now on, and the entries held in the AON island move into it (R570). After a power cycle the sequence continues
from the latest one in the flash mirror (R569); without a flash the mirror is out of use (R576). -/
def ringStart (s : State) : State :=
  if s.log.ready then s
  else
    let latest := if s.flash.fitted then latestSeq s.log else none
    let t := match (if s.log.ring.isEmpty ∧ get s 0x2410 3 = 0 then latest else none) with
      | some q => putLog s 0x2410 3 ((q + 1) % 2 ^ 32)
      | none => s
    let t := if s.flash.fitted then t else putLog t 0x2418 1 1
    t.log.early.reverse.foldl ringWrite { t with log := { t.log with ready := true, early := [] } }

/-- The objects of the kick-off timeline stay to be read in TERP (2020). -/
def keepKickObjects (old s : State) : State :=
  { s with dict := (old.dict.filter fun p => p.1 / 256 == 0x2020).foldl (fun t p => tabSet t p.1 p.2) s.dict }

/-- A hold state (R136, R162, R595): the sheets on the path complete, every block stops, and every RAIL_EN goes inactive by the
off-sequence where one is active. Nothing answers any more: the model shows SHUTDOWN and keeps the mode that was left beside it. -/
def enterHold (s : State) (h : Hold) : State :=
  let t := warmKept (spoilAll s)
  let t := { t with hold := h, reset_ := {}, md := { mode := .shutdown, previous := s.md.mode, offStarted := true } }
  if anyRailOn t then
    beginOff (if h = .doubleFault then { t with pins := { t.pins with safeN := s.pins.safeN, rstLow := s.pins.rstLow } } else t) .holdOff
  else { t with seq := { t.seq with state := 5, why := .none } }

/-- The start of an on-sequence (R150): S is now; rails of use 2 are watched from S on (R151). -/
def startOn (s : State) (terp : Bool) : State :=
  let t := forEach (List.range 16) (fun u r => if railUse u r = 0 then setRail u r fun _ => {} else
    setRail u r fun _ => { state := if railUse u r = 2 then 2 else 1, watched := railUse u r == 2 }) s
  { t with seq := { t.seq with state := 1, why := .none, dozeRails := false, terp := terp, since := s.time, driven := true } }

/-- The STRAP defaults of R101: the DRAM of STRAP7, the bit rates of STRAP3. -/
def strapDefaults (s : State) : State :=
  let t := put s 0x2300 2 (match strap s 7 with
    | 0 => 3733 | 1 => 4266 | 2 => 4266 | _ => 0)
  if strap s 3 = 1 then put (put t (portIdx 0) 2 1000000) (portIdx 0) 3 5000000 else t

/-- Debug access of a kick-off or of TERP that finds none decided yet: closed where STRAP8 is high (R137). -/
def debugStart (s : State) : State := if get s 0x2710 1 = 0 then put s 0x2710 1 (strap s 8) else s

/-- TERP is entered (R127, R133, R156): CD0 runs on the reference unless the reference has failed kick-off (log 134); literal, ROM and STRAP
defaults only, the supervisor cores run on the utility PLL, the log runs, and the on-sequence runs once. TERP after a failed kick-off is no warm reset: what debug access has become stays (R138; log 130). -/
def enterTerp (s : State) (reason : Nat) : State :=
  let t := keepKickObjects s (warmKept (spoilAll s))
  let t := debugStart (strapDefaults { t with clk := { t.clk with pllLocked := true, onReference := reason != 0x0C } })
  let t := keepIlock (recordMode t .terp 0x0A)
  let t := put { t with reset_ := {} } 0x2040 1 reason
  let t := sayMode (ringStart t) (livePorts t)
  match selectTable t with
  | some u => startOn u true
  | none => enterHold t .terp

/-- Kick-off starts (R104): step 1 is done, the straps still to be read; or TERP is attempted again (R136). Debug access is closed or locked no
longer (R138); 2120:05 counts the attempts of this kick-off. -/
def kickoffStart (s : State) : State :=
  let t := { s with seq := { driven := s.seq.driven }, rails := [],
                    kick := { s.kick with failed := none, challenge := none, badResponses := 0, startAt := s.time },
                    pins := { s.pins with rstLow := true, safeN := true, gatesSet := false } }
  let t := put (put t 0x2710 1 0) 0x2120 5 1
  if s.reset_.toTerp && !s.kick.cold then enterTerp t (get s 0x2040 1) else put { t with reset_ := { toTerp := s.reset_.toTerp } } 0x2020 1 1

/-- A warm reset (R615) with the cause of its row: where a rail is enabled, the off-sequence and the hold of 200 ms come first. `ran` says
that its own rule has already run both. -/
def warmReset (s : State) (cause : Nat) (ran : Bool) : State :=
  let t := clearBlock s cause
  if ran || !anyRailOn t then kickoffStart { t with reset_ := {} } else beginOff { t with reset_ := { running := true } } .warmReset

/-- The step of a failure as its journal record names it (R130): step 5 for a rail fault of the on-sequence, else the step that runs. -/
def failStep (s : State) (reason : Nat) : Nat := if reason = 2 ∧ s.seq.state = 1 then 5 else min 15 (kickStep s + 1)

/-- Kick-off fails (R127 steps 1 to 3): counter, reasons, journal, off-sequence and hold. The journal detail is 0 but for reason 02. A failure at
step 2 after a power cycle comes before step 3 has restored the journal: its record has counter 1 and boot count 0, and step 3 of the retry
restores as after the power cycle (DESIGN CHOICE, log 131). -/
def failKickoff (s : State) (reason detail : Nat) : State :=
  if s.md.mode ≠ .kickoff ∨ s.kick.failed.isSome ∨ s.reset_.running then s
  else
    let n := min 8 (failures s + 1)
    let t := putReasons (put s 0x2030 1 n) (reason :: reasonList s)
    let t := log t clsFault 1 1 255 0x2030 3 none reason
    let t := writeJournal t { kind := 1, reason := reason, counter := n, step := failStep s reason, boot := bootCount s, detail := detail }
    let t := { t with kick := { t.kick with failed := some reason }, clk := { t.clk with relock := none }, reset_ := { running := true } }
    if anyRailOn t then beginOff t .kickoffFail else { t with seq := { t.seq with state := 0, why := .none } }

/-- The 200 ms after the off-sequence have passed (R127 step 4, R161 step 4, R615): the next kick-off, or TERP. -/
def holdEnded (s : State) : State :=
  match s.kick.failed with
  | some reason => if failures s < failThreshold s then warmReset s 0x0A true else enterTerp s reason
  | none =>
    if s.seq.why = .railReset then warmReset s 0x0C true
    else if s.reset_.porstLow then { s with reset_ := { s.reset_ with holdEnded := true } }
    else kickoffStart s

/-- PORST_N acts as a warm reset in any mode (R126, R615); from the hold state of TERP it leads to TERP again (R136). The row out of
SHUTDOWN whose off-sequence has ended carries cause 0x05 (R44). -/
def porst (s : State) : State :=
  let terp := s.hold == .terp || s.reset_.toTerp
  let held := s.reset_.running && !s.reset_.holdEnded
  let u := if s.hold = .none then s else { s with md := { s.md with mode := s.md.previous, offStarted := false } }
  let t := clearBlock { u with kick := { u.kick with failed := none } } (if s.md.mode = .shutdown ∧ s.md.offEnded then 0x05 else 0x0E)
  if anyRailOn t then beginOff { t with reset_ := { running := true, porstLow := true, toTerp := terp } } .warmReset
  else { t with reset_ := { running := true, holdEnded := !held, porstLow := true, toTerp := terp }, seq := {} }

/-- PORST_N is released (R615): kick-off starts when the hold has ended. -/
def porstReleased (s : State) : State :=
  if !s.reset_.porstLow then s
  else if s.reset_.holdEnded then kickoffStart s
  else { s with reset_ := { s.reset_ with porstLow := false } }

/-- The pins over a power cycle: what lies outside stays. -/
def poweredPins (p : Pins) : Pins :=
  { ilockOpen := p.ilockOpen, ext := p.ext, perstLow := p.perstLow, linkSpeed := p.linkSpeed, linkWidth := p.linkWidth }

/-- AON power is lost (R166): everything but the flash, its mirror, the owner key hash, what lies outside, and that TERP could not
start (R136). -/
def powerLost (s : State) : State :=
  { State.reset with
    reset_ := { State.reset.reset_ with toTerp := s.hold == .terp || s.reset_.toTerp },
    flash := s.flash, blobs := s.blobs.filter (fun p => keptBlob p.1), log := { State.reset.log with mirror := s.log.mirror, active := s.log.active },
    pins := poweredPins s.pins,
    out := s.out, fresh := s.fresh, nextUid := s.nextUid, pending := s.pending }

/-! ## The end of kick-off -/

/-- Mirroring resumes after a kick-off (R611): what the mirror lacks is copied from the ring in sequence order; entries that the ring no
longer holds are lost and counted. -/
def resumeMirror (s : State) : State :=
  let lost := (s.log.pending.filter fun e => !s.log.ring.contains e).length
  let todo := s.log.ring.reverse.filter fun e => decide (2 ≤ e.cls) && (match latestSeq s.log with
    | some q => follows 32 q e.seq
    | none => true)
  let t := { s with log := { s.log with pending := [] } }
  let t := putLog t 0x2418 3 (min (get t 0x2418 3 + lost) 65535)
  if get t 0x2418 1 ≠ 0 then t else todo.foldl mirrorWrite t

/-- Entries that a warm reset has put off until after kick-off (R161, R560, R595). -/
def lateEntries (s : State) : State :=
  let t := match s.kick.railResetLog with
    | some r => log s clsFault 1 2 r 0x2120 6 none r
    | none => s
  let t := if s.kick.safetyLog then log t clsSafety 1 0 255 0x2400 9 none (get t 0x2400 9) else t
  let t := if s.kick.safetyLog then wrapLog 32 (log t clsNotice 2 0 255 0x2400 9 none (get t 0x2400 9)) 0x2400 1 else t
  let t := if s.kick.thermalLog then log t clsFault 1 0 255 0x7010 0x0C none (get t 0x7010 0x0C) else t
  { t with kick := { t.kick with railResetLog := none, safetyLog := false, thermalLog := false } }

/-- The second serves that were warm resets have succeeded with STANDBY (R162, R560). -/
def passResets (s : State) : State :=
  servePass (forEach (List.range 16) (fun t r => servePass t .rail r 2 0x2120 6) s) .supervisor 255 0 0x2400 9

/-- The causes that persist as kick-off ends lead from STANDBY to SAFESTOP at once (R48, R108). -/
def causesAtEnd (s : State) : State :=
  if s.log.causes.isEmpty then s
  else if persists s 8 then safestop s 8
  else if persists s (get s 0x2400 7) then safestop s (get s 0x2400 7)
  else safestop s ((s.log.causes.map (·.1)).foldl min 255)

/-- The earliest press time of step 15 of R104: 1,000 ms, 1,500 ms in the Patron profile, and later by the time from the first S to the last
(R155). -/
def rollcallEnd (s : State) : Nat := s.kick.startAt + ticksMs (if patron s then 1500 else 1000) + (s.seq.since - s.seq.first)

/-- Kick-off has reached STANDBY (R104 step 15, R128, R48, R573). -/
def finishKickoff (s : State) : State :=
  let t := put (put s 0x2020 1 15) 0x2020 2 (pressTime s)
  let t := clearFailures t
  let t := resumeMirror { t with log := { t.log with eraseFrom := some s.time } }
  let t := enterMode t .standby 2
  causesAtEnd (lateEntries (passResets t))

end Sys2Proof.Machine
end

