-- ==== Sys2Proof/Machine/Operands.lean ====
section
/-! DEFINITION. The operands of a dictionary access: the accessor and its rights, the object it names, and the octets of a write as a
value of the object's type (R51 to R55, R60, R89, R139, R246, R247). -/

namespace Sys2Proof.Machine

/-! ## Accessors and rights -/

/-- The rights of a TDP accessor (R223, R246, R247, R252): 6000+n:06 of a partner within what its state leaves, 2 of the uplink's
partner 0, the key slot's for a session, 2700:29 of an anonymous one; 3 stands for no limit. TERP serves every source with
rights 2 (R254). -/
def rightsOf (s : State) (a : Accessor) : Nat :=
  if inTerp s then (match a with
    | .partner _ => 2 | .session _ => 2 | .anon _ _ => 2 | _ => 3)
  else match a with
  | .partner n => if n.val = 0 then 2 else match partnerState s n.val with
    | 2 => get s (partnerIdx n.val) 6
    | 4 => get s (partnerIdx n.val) 6
    | 5 => min 1 (get s (partnerIdx n.val) 6)
    | 6 => min 1 (get s (partnerIdx n.val) 6)
    | _ => 0
  | .session id => match sessionOf s id with
    | some x => get s 0x2700 (0x25 + x.slot)
    | none => 0
  | .anon _ _ => get s 0x2700 0x29
  | _ => 3

/-- Whether an object is a security object (R246): 2700:20 to 2700:3F and 2710. -/
def security (idx sub : Nat) : Bool := idx == 0x2710 || (idx == 0x2700 && decide (0x20 ≤ sub ∧ sub ≤ 0x3F))

/-- Whether debug access is open (R138): the JTAG accessor then reaches what PF0 reaches. -/
def debugOpen (s : State) : Bool := get s 0x2710 1 == 2

/-- Whether an accessor reaches an object for a read or a write (R53, R246). -/
def reaches (s : State) (a : Accessor) (wr : Bool) (idx sub : Nat) : Bool :=
  match a with
  | .pf0 => true
  | .firmware => true
  | .jtag => debugOpen s
  | .vf k => idx == 0x5000 + k.val || (!wr && (decide (0x1000 ≤ idx ∧ idx < 0x1100) || idx == 0x5040))
  | _ =>
    let r := rightsOf s a
    if wr then r == 3 || (r == 2 && !security idx sub) else decide (1 ≤ r)

/-- The reach step of an access (R53, R60): 0 when it passes. -/
def reachCode (s : State) (a : Accessor) (wr : Bool) (idx sub : Nat) : Nat :=
  let c := nameCode s idx sub
  if c ≠ 0 then c else if reaches s a wr (viewOf idx).1 sub then 0 else 0x0105

/-! ## The octets of a write -/

/-- The largest length of a STR or BLOB object in bytes. -/
def maxLength (r : Row) : Nat := if r.ty == .str then 64 else r.max.toNat

/-- The length step of a write (R55, R60); a BLOB whose length is fixed is refused with 0x0201 when it is shorter (log 61). -/
def lengthCode (r : Row) (d : List Byte) : Nat :=
  if r.ty == .str || r.ty == .blob then
    (if maxLength r < d.length then 0x0202 else if r.ty == .blob && decide (d.length < r.min.toNat) then 0x0201
     else if r.ty == .str && !utf8Ok d then 0x0203 else 0)
  else if d.length < r.ty.size then 0x0201
  else if r.ty.size < d.length then 0x0202
  else 0

/-- The value that octets spell as an unsigned image: least significant first, or first through a Patron view (R4, R89). -/
def operandValue (be : Bool) (d : List Byte) : Nat := if be then ofBe d else ofLe d

/-- The octets of a value of a size, in the order that the accessor sees (R4, R89). -/
def operandBytes (be : Bool) (size v : Nat) : List Byte := if be then beBytes size v else leBytes size v

/-! ## What an accessor has of its own (R79, R571) -/

/-- The record of an accessor. -/
def accOf (s : State) (a : Accessor) : AccState :=
  match s.accs.find? fun p => p.1 == a with
  | some p => p.2
  | none => {}

/-- The record of an accessor changed. -/
def setAcc (s : State) (a : Accessor) (f : AccState → AccState) : State :=
  { s with accs := (a, f (accOf s a)) :: s.accs.filter fun p => p.1 != a }

end Sys2Proof.Machine
end

