-- ==== Sys2Proof/Machine/Flags.lean ====
section
/-! DEFINITION. The flag words that objects show: bit masks and small codes computed from the state (the Notes of the object tables). -/

namespace Sys2Proof.Machine

/-- A mask of the numbers below n that a test chooses. -/
def maskOf (n : Nat) (p : Nat → Bool) : Nat := (List.range n).foldl (fun m i => if p i then m + 2 ^ i else m) 0

/-- Armed groups and staged groups (2700:05, :07). -/
def armedMask (s : State) : Nat := maskOf 21 fun g => s.armed.contains g
def stagedMask (s : State) : Nat := maskOf 21 (hasStaged s)

/-- Motors running (4810:06): neither off nor in fault. -/
def runningMask (s : State) : Nat := maskOf 12 fun m => motorState s m != 0 && motorState s m != 7

/-- Flags of loop n (3900+n:35): SETTLE held, saturated, input BROKEN, injection. -/
def loopFlags (s : State) (n : Nat) : Nat :=
  let l := loop s n
  ofBool l.settled + 2 * ofBool l.saturated + 4 * ofBool l.broken + 8 * ofBool (injects s n 0 || injects s n 1)

/-- Status of AIN i (3C00+i:08): gain ×10, SETTLE, BROKEN. -/
def ainStatus (s : State) (i : Nat) : Nat := ofBool (gain10 s i) + 2 * ofBool (ain s i).settle + 4 * ofBool (ain s i).broken

/-- The state of group g (4920+g:02): that of its first member, as codes 0 to 4; a homing or a fault of a member shows as 0. -/
def groupState (s : State) (g : Nat) : Nat :=
  match members s g with
  | a :: _ => if axState s a ≤ 4 then axState s a else 0
  | [] => 0

/-- The conversion period of AIN i in µs: its default is 10,000 in thermistor mode (3C00+i:02). -/
def ainPeriod (s : State) (i : Nat) : Nat :=
  match tabFind s.dict (keyOf (ainIdx i) 2) with
  | some v => max 1 v
  | none => if get s (ainIdx i) 1 = 2 then 10000 else 1000

/-- Slots per second of converter c (R504; 3C40+c:01). -/
def converterLoad (s : State) (c : Nat) : Nat :=
  ((List.range 12).map fun k =>
    let i := 12 * c + k
    let m := get s (ainIdx i) 1
    if m = 0 then 0 else (if m = 2 then 2 else 1) * ceilDiv 1000000 (ainPeriod s i)).foldl Nat.add 0

/-- Code of a deferred command (4900+a:3D). -/
def deferredCode (s : State) (a : Nat) : Nat :=
  match (axis s a).deferred with
  | none => 0
  | some (.move _) => 1
  | some (.stop _) => 2
  | some .resume => 3
  | some .home => 4

/-- Code of a tenant's state (5000+n:01). -/
def tenantCode (t : TenantState) : Nat :=
  match t with
  | .disabled => 0 | .enabled => 1 | .ghost => 2 | .scrubbing => 3

/-- Whether clock domain k runs in a mode other than SHUTDOWN (R170): CD2 runs while the gate is open, CD9 to CD15 from step 8 of R183 on. CD19,
which R104 does not name, starts with the field ports at kick-off step 12 (DESIGN CHOICE, log 134). -/
def domainRunsIn (s : State) (m : Mode) (k : Nat) : Bool :=
  let core := k == 3 || k == 4 || k == 8 || k == 16 || k == 17 || k == 18 || k == 23
  let base := s.clk.gateOpen && (k == 2 || decide (9 ≤ k ∧ k ≤ 15) && s.clk.relock.isNone)
  let dram := k == 5 || k == 6
  let home := (k == 20 && homePort s == 0) || (k == 21 && homePort s == 4) || (k == 22 && homePort s == 6)
  let port := decide (19 ≤ k ∧ k ≤ 22)
  match m with
  | .kickoff =>
    let st := kickStep s
    core && decide (6 ≤ st) || base || dram && decide (13 ≤ st) || k == 7 && strap s 9 == 1 && decide (6 ≤ st) || port && decide (12 ≤ st)
  | .terp => core || k == 7 && strap s 9 == 1 || home
  | .doze => k == 3 || k == 4 || k == 23 || dram || k == 7 || k == 22 || home
  | .shutdown => false
  | _ => core || base || dram || k == 7 || port

/-- Whether clock domain k runs (R167, R170; 2240:01): CD0 and CD1 stand outside the mode table. In SHUTDOWN the domains that ran in the mode left
run until the off-sequence, CD20 to CD22 until the shutdown notice. -/
def domainRuns (s : State) (k : Nat) : Bool :=
  if !s.powered || k == 24 then false
  else if k = 0 then true
  else if k = 1 then s.clk.onReference
  else if s.md.mode = .shutdown then !s.md.offStarted && !decide (20 ≤ k ∧ k ≤ 22) && domainRunsIn s s.md.previous k
  else domainRunsIn s s.md.mode k

/-- Running domains (2240:01). -/
def domainMask (s : State) : Nat := maskOf 25 (domainRuns s)

end Sys2Proof.Machine
end

