-- ==== Sys2Proof/Machine/Views.lean ====
section
/-! DEFINITION. The value that a read of an object returns: computed for the objects that show richer state, stored for the rest. -/

namespace Sys2Proof.Machine

/-- Objects 2000 and 5040 (01_sheet_and_modes.md). -/
def viewModes (s : State) (idx sub : Nat) : Option Nat :=
  if idx = 0x2000 then
    (match sub with
      | 1 => some (modeCode s.md.mode)
      | 3 => some (match s.md.pending with
        | some p => modeCode p
        | none => 255)
      | 4 => some (modeCode s.md.previous)
      | _ => none)
  else if idx = 0x5040 then
    (match sub with
      | 1 => some (committedCount s)
      | 2 => some (admittedCount s)
      | _ => none)
  else none

/-- Objects 1000, 2010 to 2040, 2120, 2200 to 2240, 2700, 2710 (02, 03, 04, 05). -/
def viewSystem (s : State) (acc : Accessor) (idx sub : Nat) : Option Nat :=
  if idx = 0x1000 then
    (match sub with
      | 5 => some (if strap s 1 = 1 then 1 else if strap s 1 = 2 then 2 else 0)
      | 7 => some ((s.kick.patches.map (·.level)).foldl max 0)
      | _ => none)
  else if idx = 0x2010 then some (strap s (sub - 1))
  else if idx = 0x2030 ∧ sub = 2 then some (failThreshold s)
  else if idx = 0x2710 ∧ sub = 3 then some (ofBool !(getBlob s 0x2710 2).isEmpty)
  else if idx = 0x2120 ∧ sub = 4 then some s.seq.state
  else if 0x2100 ≤ idx ∧ idx < 0x2110 ∧ sub = 0x0B then some (rail s (idx - 0x2100)).state
  else if idx = 0x2200 ∧ sub = 2 then some (ofBool s.clk.relock.isSome)
  else if idx = 0x2200 ∧ sub = 0x0A then some (refHz s)
  else if idx = 0x2220 then
    (match sub with
      | 1 => some (pressTime s)
      | 2 => some (timeSource s)
      | 3 => some (patchedNum s 1 (keyOf 0x2220 3) (refIncrement s))
      | _ => none)
  else if idx = 0x2240 ∧ sub = 1 then some (domainMask s)
  else if idx = 0x2700 then
    (match sub with
      | 5 => some (armedMask s)
      | 6 => some (ofBool (accOf s acc).view)
      | 7 => some (stagedMask s)
      | 0x2B => some s.net.sessions.length
      | _ => none)
  else none

/-- Objects 1100 to 1116 and 6000 on (06_field_network.md). -/
def viewNet (s : State) (idx sub : Nat) : Option Nat :=
  if idx = 0x1100 then
    (match sub with
      | 2 => some (ofBool (nodeOnly s))
      | 5 => some (uplink s)
      | 9 => some (partnersIn s 2).length
      | _ => none)
  else if 0x1110 ≤ idx ∧ idx < 0x1117 ∧ sub = 8 then some (slotUs s (idx - 0x1110))
  else none

/-- Whether the PCI Express link is trained (R106): STRAP9 high, PE_PERST_N high, the core out of reset. -/
def coreLink (s : State) : Bool :=
  strap s 9 == 1 && !s.pins.perstLow && (match s.md.mode with
    | .kickoff => decide (6 ≤ get s 0x2020 1)
    | .shutdown => !s.md.offStarted
    | _ => true)

/-- The signal groups of R584; the lanes and the clock of a beam link by station. -/
inductive PinGroup where
  | railEn | safeN | rstOut | motorGates | outputs | beamLanes (station : Nat) | mp | can | eth | flashCs | flashClock | pcieTx | dram
deriving DecidableEq, Repr

/-- What a group holds before its step. -/
inductive PinRest where
  | highZ | low | high | idle
deriving DecidableEq, Repr

/-- The state in which a signal group is held (R584), from AON power-on and again from the start of the kick-off after a warm reset; none once the
step of its row has handed it over to its block. -/
def restState (s : State) (g : PinGroup) : Option PinRest :=
  let before (k : Nat) : Bool := s.md.mode == .kickoff && decide (kickStep s < k)
  let hold (b : Bool) (r : PinRest) : Option PinRest := if b then some r else none
  match g with
  | .railEn => hold (!s.seq.driven) .highZ
  | .safeN => hold s.pins.safeN .low
  | .rstOut => hold s.pins.rstLow .low
  | .motorGates => hold (!s.pins.gatesSet) .low
  | .outputs => hold (s.md.mode == .kickoff) .low
  | .beamLanes n => hold (linkState s n == 0) .idle
  | .mp => hold (!pinsConfigured s) .highZ
  | .can => hold (before 12) .high
  | .eth => hold (before 12) .low
  | .flashCs => hold (before 3) .high
  | .flashClock => hold (before 3) .low
  | .pcieTx => hold (!coreLink s) .idle
  | .dram => hold (before 13) .low

/-- Objects 5000 on and 5060 (07_tenants.md), 2300 and 2320 (08_memory_dikes.md). -/
def viewHost (s : State) (idx sub : Nat) : Option Nat :=
  if 0x5000 ≤ idx ∧ idx < 0x5040 then
    (match sub with
      | 1 => some (tenantCode (tenant s (idx - 0x5000)).state)
      | 0x11 => some (effective s (idx - 0x5000))
      | 0x12 => some (queuedOf s (idx - 0x5000))
      | 0x13 => some (blockedReason s (idx - 0x5000))
      | _ => none)
  else if idx = 0x5060 then
    (match sub with
      | 1 => some (Config.vendorId % 65536)
      | 4 => some (if coreLink s then s.pins.linkSpeed else 0)
      | 5 => some (if coreLink s then s.pins.linkWidth else 0)
      | 7 => some s.mem.unitsFree.length
      | 8 => some (poolTotal s)
      | _ => none)
  else if idx = 0x2300 then
    (match sub with
      | 1 => some (strap s 7)
      | 5 => some (sImg 16 (dramTemp s))
      | 0x0A => some (pessimistic s)
      | 0x0B => some (budget s)
      | 0x0C => some (heldNow s)
      | 0x0D => some (4096 * (ingestFactor s).1 / (ingestFactor s).2)
      | 0x0E => some (scrubShare s)
      | _ => none)
  else if idx = 0x2310 ∧ sub = 7 then some (s.mem.patrolAt * 65536 / dramBeats s)
  else if idx = 0x2320 ∧ 1 ≤ sub ∧ sub ≤ 11 then some (reservation s (sub - 1))
  else none

/-- Objects of stations and trackers (09, 10, 11, 12). -/
def viewStation (s : State) (idx sub : Nat) : Option Nat :=
  if 0x3000 ≤ idx ∧ idx < 0x30C0 then
    let n := (idx - 0x3000) / 0x20
    (match idx % 0x20, sub with
      | 0, 0x0C => some (lineRate s n)
      | 0, 0x0D => some (facetPeriod s n)
      | 0, 0x0E => some (polygonSpeed s n)
      | 0x10, 3 => some (ofBool (station s n).cutNow)
      | 0x15, 5 => some ((get s idx 5 + linkFrames s n) % 2 ^ 64)
      | 0x15, 7 => some (linkCycle s n (16 * s.time))
      | _, _ => none)
  else if 0x2500 ≤ idx ∧ idx < 0x2512 then
    let k := idx - 0x2500
    (match sub with
      | 1 => some (trackerShown s k)
      | 6 => some ((tracker s k).tLast / 16)
      | 0x36 => some (encoderPosition s k)
      | 0x37 => some (toothRate s k)
      | _ => none)
  else if idx = 0x2520 ∧ sub = 1 then some s.slots.length
  else none

/-- Objects of motors, axes and loops (13, 14, 15). -/
def viewMotion (s : State) (idx sub : Nat) : Option Nat :=
  if 0x4800 ≤ idx ∧ idx < 0x480C ∧ sub = 0x32 then some (sImg 32 (commandedNow s (idx - 0x4800)))
  else if 0x4800 ≤ idx ∧ idx < 0x480C ∧ sub = 0x3D then some (sImg 32 (accelNow s (idx - 0x4800)))
  else if idx = 0x4810 ∧ sub = 6 then some (runningMask s)
  else if 0x4900 ≤ idx ∧ idx < 0x4910 then
    let a := idx - 0x4900
    (match sub with
      | 0x30 => some (axState s a)
      | 0x31 => some (sImg 32 (positionNow s a))
      | 0x33 => some (sImg 32 (remainingNow s a))
      | 0x34 => some (sImg 32 (velocityNow s a))
      | 0x3D => some (deferredCode s a)
      | _ => none)
  else if 0x4920 ≤ idx ∧ idx < 0x4924 ∧ sub = 2 then some (groupState s (idx - 0x4920))
  else if 0x3900 ≤ idx ∧ idx < 0x3930 then
    let l := loop s (idx - 0x3900)
    (match sub with
      | 0x30 => some l.state
      | 0x31 => some (sImg 32 l.x)
      | 0x32 => some (sImg 32 l.sp)
      | 0x33 => some (sImg 32 l.u)
      | 0x34 => some (sImg 32 l.y)
      | 0x35 => some (loopFlags s (idx - 0x3900))
      | _ => none)
  else if idx = 0x3930 ∧ sub = 1 then some (loopRate s)
  else if 0x3C40 ≤ idx ∧ idx < 0x3C44 ∧ sub = 1 then some (converterLoad s (idx - 0x3C40))
  else if 0x3C00 ≤ idx ∧ idx < 0x3C30 then
    (match sub with
      | 2 => some (ainPeriod s (idx - 0x3C00))
      | 6 => some (ain s (idx - 0x3C00)).raw
      | 8 => some (ainStatus s (idx - 0x3C00))
      | _ => none)
  else if idx = 0x7000 ∧ sub = 0x15 then some s.diag.capState
  else none

/-- Objects of pins and of the log block (16, 17). -/
def viewPins (s : State) (acc : Accessor) (idx sub : Nat) : Option Nat :=
  if 0x2600 ≤ idx ∧ idx < 0x2660 then
    let p := idx - 0x2600
    (match sub with
      | 8 => some (syncLevel s p)
      | 9 => some (padLevel s p)
      | 0x0A => some (pinStatus s p)
      | _ => none)
  else if idx = 0x2660 then
    (match sub with
      | 2 => some s.pins.locked.length
      | 3 => some (levelMask (syncLevel s) 0 64)
      | 4 => some (levelMask (syncLevel s) 64 32)
      | 5 => some (levelMask (padLevel s) 0 64)
      | 6 => some (levelMask (padLevel s) 64 32)
      | _ => none)
  else if idx = 0x2400 ∧ sub = 6 then some (causeMask s)
  else if idx = 0x2410 then
    (match sub with
      | 2 => some (accOf s acc).cursor
      | 4 => some s.log.ring.length
      | 8 => some (accOf s acc).source
      | _ => none)
  else if idx = 0x2418 ∧ sub = 2 then some s.log.pending.length
  else none

/-- The first of several views that shows an object. -/
def firstView : List (Option Nat) → Option Nat
  | [] => none
  | some v :: _ => some v
  | none :: t => firstView t

/-- The number that an object of fixed size shows. -/
def readNum (s : State) (acc : Accessor) (idx sub : Nat) : Nat :=
  match firstView [viewModes s idx sub, viewSystem s acc idx sub, viewNet s idx sub, viewHost s idx sub, viewStation s idx sub,
      viewMotion s idx sub, viewPins s acc idx sub] with
  | some v => v
  | none => get s idx sub

/-! ## Objects of octets -/

/-- The 16 octets of an event record (R407). -/
def Event.bytes (e : Event) : List Byte :=
  leBytes 1 e.code ++ leBytes 1 e.target ++ leBytes 1 e.param ++ leBytes 1 e.ref ++ leBytes 2 e.tag ++ leBytes 1 e.status ++ [0] ++
    (if e.ref = 255 then leBytes 8 e.time else leBytes 4 e.tooth ++ leBytes 4 (sImg 32 e.offset))

/-- The serial of an event's sheet, 0 for none. -/
def eventSerial (s : State) (e : Event) : Nat :=
  match e.uid with
  | some u => match sheetOf s u with
    | some sh => sh.serial
    | none => 0
  | none => 0

/-- The 24 octets of a slot view or of the last flagged event (2522:02, 2524:01). -/
def eventView (s : State) (e : Event) : List Byte := e.bytes ++ leBytes 4 (eventSerial s e) ++ leBytes 4 (sImg 32 e.lateness)

/-- The entries of the source of an accessor, oldest first: the ring or the flash mirror (R571). -/
def logSource (s : State) (acc : Accessor) : List Entry :=
  if (accOf s acc).source = 1 then
    ((List.range 16).flatMap fun k => (mirrorSector s.log ((s.log.active + 1 + k) % 16)).reverse)
  else s.log.ring.reverse

/-- Whether sequence q lies at or after the cursor c in wrap order (R571). -/
def atOrAfter (c q : Nat) : Bool := decide ((q + 2 ^ 32 - c % 2 ^ 32) % 2 ^ 32 < 2 ^ 31)

/-- The entries that a log read returns (R571). -/
def logEntries (s : State) (acc : Accessor) : List Entry :=
  let l := logSource s acc
  let c := (accOf s acc).cursor
  match l.getLast? with
  | none => []
  | some n =>
    if follows 32 n.seq c then []
    else
      let from_ := l.dropWhile fun e => !atOrAfter c e.seq
      (if from_.isEmpty then l else from_).take 256

/-- The octets of a log read: count and entries (R571). -/
def logData (s : State) (acc : Accessor) : List Byte :=
  let l := logEntries s acc
  leBytes 2 l.length ++ l.flatMap Entry.bytes

/-- The octets of 2420:01: count and records of 8 bytes (R578). -/
def noticeData (s : State) : List Byte :=
  leBytes 2 s.log.notices.length ++ s.log.notices.flatMap fun r =>
    leBytes 2 (r.1 / 256) ++ leBytes 1 (r.1 % 256) ++ leBytes 1 r.2.1 ++ leBytes 2 r.2.2 ++ [0, 0]

/-- The octets of the capture (7000:16): 4,096 pairs of x and y, oldest first; once done. Samples before the trigger that were never
taken are free. -/
def captureData (s : State) : List Byte :=
  if s.diag.capState ≠ 3 then []
  else
    ((List.range (4096 - s.diag.samples.length)).flatMap fun k => leBytes 8 (Config.free (s.fresh + k))) ++
      s.diag.samples.reverse.flatMap fun p => leBytes 4 (sImg 32 p.1) ++ leBytes 4 (sImg 32 p.2)

/-- The octets that a STR or BLOB object shows. One that nothing has written shows its default: 4,096 zeros for the airtime shares (R240), the
ROM table for a linearisation table (R510), none for the others. -/
def readBytes (s : State) (acc : Accessor) (idx sub : Nat) : List Byte :=
  if idx = 0x1000 then (if sub = 1 then ascii "Untonik" else ascii "TZ640-FB900-G0")
  else if idx = 0x2040 ∧ sub = 3 then (if s.flash.fitted then s.flash.image else [])
  else if idx = 0x2410 then logData s acc
  else if idx = 0x2420 then noticeData s
  else if idx = 0x2522 then (match tabFind s.slots (get s 0x2522 1) with
    | some e => eventView s e
    | none => [])
  else if idx = 0x7000 then captureData s
  else if !(getBlob s idx sub).isEmpty then getBlob s idx sub
  else if idx = 0x1140 then List.replicate 4096 0
  else if 0x3C48 ≤ idx ∧ idx < 0x3C50 then (List.range 65).flatMap fun j => leBytes 2 (sImg 16 (thermPoint s (idx - 0x3C48) j))
  else []

/-! ## The value of a read -/

/-- The highest subindex present at an index (R51, R13): of 2230 that of the last station present. -/
def topSubOf (s : State) (idx : Nat) : Nat := if idx = 0x2230 then 6 + stationCount s else topSub idx

/-- Whether a read of an RWS object shows the staging image (R79). -/
def readsStaged (s : State) (acc : Accessor) (r : Row) : Bool := r.cls == .rws && (accOf s acc).view

/-- The octets that an accessor reads from an object (R54, R79, R89). -/
def readData (s : State) (acc : Accessor) (be : Bool) (idx sub : Nat) : List Byte :=
  if sub = 0 then leBytes 1 (topSubOf s idx)
  else match rowOf idx sub with
    | none => []
    | some r =>
      let k := keyOf idx sub
      if r.ty == .str || r.ty == .blob then
        (match (if readsStaged s acc r then tabFind s.stagedBlobs k else none) with
          | some l => l
          | none => readBytes s acc idx sub)
      else operandBytes be r.ty.size (match (if readsStaged s acc r then tabFind s.staged k else none) with
          | some v => v
          | none => readNum s acc idx sub)

end Sys2Proof.Machine
end

