-- ==== Sys2Proof/Machine/Actions.lean ====
section
/-! DEFINITION. The commands of motors, axes and loops as dictionary writes, posted events and timetables give them: refusals, deferral,
effect (R456 to R459, R472 to R496, R514 to R518, R533). -/

namespace Sys2Proof.Machine

/-! ## Motors -/

/-- The refusal of a speed command by the mode (R49, R468): 0 when there is none. -/
def motorModeCode (s : State) : Nat :=
  match s.md.mode with
  | .safestop => 0x0404
  | .terp => 0x0403
  | .kickoff => 0x0402 | .standby => 0x0402 | .doze => 0x0402 | .shutdown => 0x0402
  | _ => 0

/-- The refusal of a command of entry k (R456, R457). -/
def speedRange (s : State) (m k : Nat) : Nat := if 16 ≤ k then 0x0302 else entryCheck s m k

/-- A command of entry k (R458): deferred where it changes the speed of a motor on a committed path, unless a timetable gives it. -/
def speedNow (s : State) (m k : Nat) (own : Bool) : State :=
  if !own && changesSpeed s m k && pathHeld s (16 + m) then setMotor s m fun x => { x with deferred := some k } else commandEntry s m k

/-- A motor fault (R465): recorded; its restart is the second serve; the same code within the window of R466 is a double fault, which
enters SAFESTOP. In SAFESTOP no restart is made (R468). -/
def motorFault (s : State) (m code : Nat) : State :=
  let t := motorFaultRecord s m code
  if motorRepeats s m code then
    safestop (doubleFault (setMotor t m fun x => { x with restart := false }) .motor m code 0x0B (motIdx m) 0x36) 7
  else if s.md.mode = .safestop then t
  else setMotor (serveBegin t .motor m code 0x0B (motIdx m) 0x36) m fun x => { x with restart := true }

/-- Whether the bridge of motor m is driven. -/
def bridgeOn (s : State) (m : Nat) : Bool := motorPresent s m && !(motor s m).gatesLow && motorState s m != 0 && motorState s m != 7

/-- The sector of a Hall code (R446): the codes in the order in which one bit changes at a time. PRESUMED: the first sector and the direction. -/
def hallSector : Nat → Option Nat
  | 1 => some 0 | 3 => some 1 | 2 => some 2 | 6 => some 3 | 4 => some 4 | 5 => some 5
  | _ => none

/-- The speed that a Hall sector period gives, where the drive has no encoder tracker (R452). -/
def hallSpeed (s : State) (m : Nat) (back : Bool) (p : Nat) : State :=
  if get s (motIdx m) 0x0E ≠ 255 then s
  else putS s 32 (motIdx m) 0x31 (if back then -(sectorSpeed s m p : Int) else sectorSpeed s m p)

/-- A revolution is complete after as many electrical turns as pole pairs (4800+m:3C). -/
def countTurn (s : State) (m : Nat) : State :=
  if get s (motIdx m) 5 ≤ (motor s m).turns + 1 then bump (setMotor s m fun x => { x with turns := 0 }) (motIdx m) 0x3C
  else setMotor s m fun x => { x with turns := x.turns + 1 }

/-- The drive enters sector k at press time t, from below or, backward, from above (R446): the angle is the boundary's plus the offset. -/
def enterSector (s : State) (m code k t : Nat) (back : Bool) : State :=
  let a := ((if back then k + 1 else k) * 65536 / 6 + get s (motIdx m) 0x1A) % 65536
  let p := t - (motor s m).hallTime
  let u := setMotor s m fun x => { x with hall := code, hallTime := t, edgeAngle := a, back := back, stepPeriod := p, step := k, angle := a }
  let u := hallSpeed u m back p
  if k = 0 ∧ !back ∨ k = 5 ∧ back then countTurn u m else u

/-- A Hall fault of a driven motor; a motor that is not driven has none. -/
def hallFault (s : State) (m : Nat) : State := if bridgeOn s m then motorFault s m 3 else s

/-- The Hall code of motor m as the block takes it (R544): an input in conflict is low; bit 0 is U, bit 1 V, bit 2 W. -/
def hallMasked (s : State) (m code : Nat) : Nat :=
  (List.range 3).foldl (fun c h => c + (if code.testBit h && !inConflict s (0x3000 + 4 * m + h) then 2 ^ h else 0)) 0

/-- The Hall inputs of a drive show a code at press time t (R446). The first valid code only places the rotor. -/
def hallEdge (s : State) (n code t : Nat) : State :=
  if waveform s n = 3 ∨ waveform s n = 4 then
    match hallSector code, hallSector (motor s n).hall with
    | none, _ => hallFault s n
    | some k, none => setMotor s n fun x => { x with hall := code, hallTime := t, edgeAngle := k * 65536 / 6, stepPeriod := 0, step := k, angle := k * 65536 / 6 }
    | some k, some j =>
      if k = j then s
      else if k = (j + 1) % 6 then enterSector s n code k t false
      else if k = (j + 5) % 6 then enterSector s n code k t true
      else hallFault s n
  else s

/-! ## Axes -/

/-- Kinds of axis commands (R496). -/
inductive AxisCmd where
  | enable (on : Bool) | stop | home | move
deriving DecidableEq, Repr

/-- The refusal of an axis command by the mode (R496). -/
def axisModeCode (s : State) (c : AxisCmd) : Nat :=
  match s.md.mode with
  | .safestop => if c = .enable false then 0 else 0x0404
  | .standby => match c with
    | .enable _ => 0
    | .stop => 0
    | _ => 0x0402
  | .warmup => if c = .move then 0x0402 else 0
  | .ready => 0 | .calibrate => 0 | .rally => 0 | .runout => 0 | .service => 0
  | _ => 0x0402

/-- A command waits for the committed path (R490): a deferred stop gives way to a hard stop only. -/
def deferAxis (s : State) (a : Nat) (c : AxisDeferred) : State :=
  match (axis s a).deferred, c with
  | some (.stop _), .stop true => setAxis s a fun x => { x with deferred := some c }
  | some (.stop _), _ => s
  | _, _ => setAxis s a fun x => { x with deferred := some c }

/-- The refusal of a move command of value v by the axis's state (R472, R481, R495). -/
def moveRefusal (s : State) (a v : Nat) : Nat :=
  if v.testBit 4 then (match groupOfAxis s a with
    | some g => groupRefusal s g (v % 16)
    | none => 0x0303)
  else if axState s a = 0 ∨ axState s a = 6 then 0x0405
  else 0

/-- A move of value v (R477 to R481): its effect, and whether it was dropped (R478, R481). -/
def moveNow (s : State) (a v : Nat) : State × Bool :=
  if v.testBit 4 then (match groupOfAxis s a with
    | some g => if groupRefusal s g (v % 16) = 0 then (groupMove s g (v % 16), false) else (moveOverrun s a, true)
    | none => (moveOverrun s a, true))
  else fireMove s a (v % 16)

/-- The axes that a move of value v runs (R477, R479). -/
def moveSet (s : State) (a v : Nat) : List Nat :=
  match (if v.testBit 4 then groupOfAxis s a else none) with
  | some g => members s g
  | none => [a]

/-- The axis that holds back a command for axis a and the axes of its group (R490): itself, else the first one on a committed path (log 156). -/
def heldOf (s : State) (a : Nat) (l : List Nat) : Option Nat := (a :: l).find? (pathHeld s)

/-- A move command from the dictionary, a partner or a posted event (R490). -/
def moveCommand (s : State) (a v : Nat) : State :=
  match heldOf s a (moveSet s a v) with
  | some b => deferAxis s b (.move v)
  | none => (moveNow s a v).1

/-- A stop command (R484, R489, R490). -/
def stopCommand (s : State) (a : Nat) (hard : Bool) : State :=
  match heldOf s a (stopSet s a) with
  | some b => deferAxis s b (.stop hard)
  | none => stopAxis s a hard

/-- A resume command (R488, R490). -/
def resumeCommand (s : State) (a : Nat) : State :=
  match heldOf s a (resumeSet s a) with
  | some b => deferAxis s b .resume
  | none => resumeAxis s a

/-- The refusal of a homing command by the axis's state (R483, R484). -/
def homeRefusal (s : State) (a : Nat) : Nat :=
  if axState s a ≠ 1 ∧ axState s a ≠ 4 then 0x0405 else homingRefusal s a

/-- A homing command (R482, R490). -/
def homeCommand (s : State) (a : Nat) : State := if pathHeld s a then deferAxis s a .home else startHoming s a

/-- The refusal of a write to the enable (R472, R495). -/
def enableCode (s : State) (a v : Nat) : Nat :=
  let k := axState s a
  if v = 0 then (if k = 2 ∨ k = 3 ∨ k = 5 then 0x0405 else 0)
  else if k = 6 then 0x0405 else 0

/-- The double fault of an axis driver (R495, R563): SAFESTOP, persisting while FLT is active. -/
def driverDouble (s : State) (a : Nat) : State :=
  safestopBy (doubleFault (setAxis s a fun x => { x with reenable := false }) .axisDriver a 1 0x0C (axIdx a) 0x35) 7 (causeInst .axisDriver a)

/-- A driver fault (R495): recorded; the re-enable after 100 ms is the second serve; again within 10 s of it a double fault. In SAFESTOP
no re-enable is made (R496, R557). -/
def driverFault (s : State) (a : Nat) : State :=
  let t := driverFaultRecord s a
  if servedWithin s .axisDriver a (ticksS 10) then driverDouble t a
  else if s.md.mode = .safestop then t
  else setAxis (serveBegin t .axisDriver a 1 0x0C (axIdx a) 0x35) a fun x => { x with reenable := true }

/-- FLT turns active (R495); it acts on an enabled axis. -/
def fltActive (s : State) (a : Nat) : State :=
  let t := setAxis s a fun x => { x with fltIn := true }
  if (axis s a).fltIn || axState s a == 0 || axState s a == 6 then t else driverFault t a

/-- FLT turns inactive (R563): the instance of cause 0x07 ends. -/
def fltInactive (s : State) (a : Nat) : State := causeEnd (setAxis s a fun x => { x with fltIn := false }) 7 (causeInst .axisDriver a)

/-- A limit that is reached during a homing (R483): in the search of H1 on its own side it turns the axis back, else it fails the homing. -/
def homingLimit (s : State) (a : Nat) (positive : Bool) : State :=
  if get s (axIdx a) 0x40 = 1 ∧ (axis s a).homing = some .search ∧ flag s (axIdx a) 0x41 = positive then homingBack s a else homingFail s a

/-- A limit turns active (R485): it acts on motion toward its side. -/
def limitActive (s : State) (a : Nat) (positive : Bool) : State :=
  let t := setAxis s a fun x => if positive then { x with limP := true } else { x with limN := true }
  match (axis s a).move with
  | some m =>
    if !(if positive then decide (0 < m.dist) else decide (m.dist < 0)) then t
    else if axState s a = 5 then homingLimit t a positive
    else limitFault (setAxis t a fun x => { x with aligning := false }) a
  | none => t

/-! ## Inputs in conflict (R544) -/

/-- A block input takes its default as a conflict of it begins (R544): FLT and the limits active, a Hall phase low. -/
def conflictBegins (s : State) (c : Nat) : State :=
  if 0x3000 ≤ c then
    let m := (c - 0x3000) / 4
    let code := hallMasked s m (motor s m).hall
    if code = (motor s m).hall then s else hallEdge s m code s.time
  else if 0x2000 ≤ c then s
  else
    let a := (c - 0x1000) / 16
    match c % 16 with
    | 1 => fltActive s a
    | 3 => limitActive s a false
    | 4 => limitActive s a true
    | _ => s

/-- The default ends with the conflict: the input is inactive until its block hears of it again (log 157). -/
def conflictEnds (s : State) (c : Nat) : State :=
  let a := (c - 0x1000) / 16
  if c < 0x1000 ∨ 0x2000 ≤ c then s
  else match c % 16 with
  | 1 => fltInactive s a
  | 3 => setAxis s a fun x => { x with limN := false }
  | 4 => setAxis s a fun x => { x with limP := false }
  | _ => s

/-- The claims have changed (R541, R544): conflicts and suppressions are reported, and the block inputs take or leave their defaults. -/
def claimsTaken (s : State) : State :=
  let t := claimsChanged s
  let u := (s.pins.conflicts.filter fun c => !t.pins.conflicts.contains c).foldl conflictEnds t
  (t.pins.conflicts.filter fun c => !s.pins.conflicts.contains c).foldl conflictBegins u

/-- A write to the enable (R472); a driver whose FLT is active then faults (R495). -/
def enableNow (s : State) (a v : Nat) : State :=
  if v = 0 then disableAxis s a
  else if axState s a = 0 then (let t := enableAxis s a; if (axis t a).fltIn then driverFault t a else t)
  else put s (axIdx a) 0x3C 1

/-! ## Loops -/

/-- The refusal of a loop command by the mode (R515, R518, R533). -/
def loopModeCode (s : State) (n : Nat) (on : Bool) : Nat :=
  match s.md.mode with
  | .safestop => 0x0404
  | .kickoff => 0x0402 | .terp => 0x0402 | .doze => 0x0402 | .shutdown => 0x0402
  | .rally => if n < 28 then 0x0402 else 0
  | .runout => if n < 28 then 0x0402 else 0
  | .standby => if on && (decide (n < 26) || decide (40 ≤ n)) then 0x0402 else 0
  | _ => 0

/-- Whether the mode lets HV actions act (R533). -/
def hvActs (s : State) : Bool :=
  match s.md.mode with
  | .ready => true | .rally => true | .runout => true | .calibrate => true | .service => true | _ => false

/-- Whether a bank write is refused by the mode (R518). -/
def bankModeCode (s : State) (n : Nat) : Nat := if n < 28 ∧ (s.md.mode = .rally ∨ s.md.mode = .runout) then 0x0402 else 0

/-! ## Injection and capture (R530 to R532) -/

/-- Starts the injection generator (R530). -/
def injectionStart (s : State) : State := { s with diag := { s.diag with injecting := true, injCount := 0, injHigh := true, lfsr := 1 } }

/-- Stops it. -/
def injectionStop (s : State) : State := { s with diag := { s.diag with injecting := false } }

/-- Arms the capture (R531). -/
def captureArm (s : State) : State := { s with diag := { s.diag with capState := 1, samples := [], left := 0, skip := 0 } }

end Sys2Proof.Machine
end

