-- ==== Sys2Proof/Machine/Fire.lean ====
section
/-! DEFINITION. The firing of events: when an event is due, in which order events fire, their flags, routes and actions (R408 to R426). -/

namespace Sys2Proof.Machine

/-- When an event is due: its time in ticks, whether its tooth is a COAST tooth, whether the time comes from a candidate whose window
has still to close (R422 to R425). -/
structure Due where
  time : Int
  coast : Bool := false
  candidate : Bool := false
deriving DecidableEq, Repr

/-- Whether a tracker entry of a timetable has been placed on its tooth: from the sluice on (R413). -/
def placed (s : State) (e : Event) : Bool :=
  e.ref == 255 || match e.uid with
    | some u => match sheetOf s u with
      | some sh => sh.committed && decide (sh.sluice ≤ s.time)
      | none => false
    | none => true

/-- When an IMAGE event is due (R424 to R426): at the candidate of the first tooth of its station that is predicted at or after its time, or at that
tooth once it is fixed. -/
def imageDue (s : State) (e : Event) : Option Due :=
  let k := e.target
  let x := tracker s k
  if 16 * e.time ≤ x.tLast then some { time := (x.tLast / 16 : Nat), coast := (x.teeth.head?).any (·.coast) }
  else if predicted s k < 16 * e.time then none
  else x.cand.map fun c => { time := (c / 16 : Nat), candidate := true }

/-- The due time of an event; none while its tooth has not been seen (R422 to R425). A LOST encoder goes on with synthesised teeth on
its last period table until it has acquired again (R431). -/
def eventDue (s : State) (e : Event) : Option Due :=
  if !placed s e then none
  else if e.code = 1 then imageDue s e
  else if e.ref = 255 then some { time := e.time }
  else match toothTime s e.ref e.tooth with
    | some t => some { time := (t.1 / 16 : Nat) + e.offset, coast := t.2 }
    | none =>
      if (get s (trkIdx e.ref) 7 + 1) % 2 ^ 32 = e.tooth then
        (match (tracker s e.ref).cand with
          | some c => some { time := (c / 16 : Nat) + e.offset, candidate := true }
          | none => none)
      else if 6 ≤ e.ref ∧ serving s .encoderTracker e.ref then
        some { time := (((tracker s e.ref).tLast + (e.tooth + 2 ^ 32 - get s (trkIdx e.ref) 7) % 2 ^ 32 * periodOf s e.ref (tracker s e.ref).next) / 16 : Nat)
                       + e.offset, coast := true }
      else none

/-- The press time by which events fire: while CD2 is gated, that of the last reference edge (R188). -/
def firingTime (s : State) : Nat := if timeSource s = 2 then lastEdge s else s.time

/-- Whether an event's time has come. -/
def eventReady (s : State) (e : Event) : Bool :=
  match eventDue s e with
  | some d => decide (d.time ≤ firingTime s)
  | none => false

/-- Whether the scheduler fires an event in the present mode (R434). -/
def modeFires (s : State) (e : Event) : Bool :=
  match s.md.mode with
  | .kickoff => decide (12 ≤ get s 0x2020 1) && decide (4 ≤ eventClass e.code)
  | .terp => false
  | .shutdown => false
  | .doze => eventClass e.code == 5 || e.uid.isNone && e.ref == 255
  | .safestop => decide (4 ≤ eventClass e.code)
  | _ => true

/-- The rank of a class at one tick (R417): IMAGE, HV, MECH, NET, LOG. -/
def classRank (code : Nat) : Nat :=
  match eventClass code with
  | 1 => 0 | 3 => 1 | 2 => 2 | 4 => 3 | _ => 4

/-- Whether event f fires before event e at one tick (R417): by class, then sheet events by serial, then posted events by slot. -/
def firesBefore (s : State) (kf : Nat) (f : Event) (ke : Nat) (e : Event) : Bool :=
  if classRank f.code ≠ classRank e.code then decide (classRank f.code < classRank e.code)
  else match f.uid, e.uid with
    | some _, none => true
    | none, some _ => false
    | none, none => decide (kf < ke)
    | some _, some _ => decide (eventSerial s f < eventSerial s e)

/-- Whether another event due at the same tick has still to fire first (R417). -/
def outranked (s : State) (k : Nat) (e : Event) : Bool :=
  s.slots.any fun p => p.1 != k && !p.2.fired && (match eventDue s p.2, eventDue s e with
    | some a, some b => a.time == b.time && firesBefore s p.1 p.2 k e
    | _, _ => false)

/-- The event of a slot, when it holds that action and its turn has come. -/
def readyEvent (s : State) (k code : Nat) : Option Event :=
  match tabFind s.slots k with
  | some e => if e.code = code ∧ !e.fired ∧ modeFires s e ∧ eventReady s e ∧ !outranked s k e then some e else none
  | none => none

/-! ## Flags and counts (R420, R421, R424 to R426) -/

/-- The flagged record (2524:01), the NOTICE entry and the counts of the flags (2521:06 to :08). -/
def flagEvent (s : State) (e : Event) : State :=
  let t := if e.status.testBit 0 then sat s 0x2521 6 else s
  let t := if e.status.testBit 2 then sat t 0x2521 7 else t
  let t := if e.status.testBit 1 then sat t 0x2521 8 else t
  if e.status % 8 = 0 then t
  else log (putBlob t 0x2524 1 (eventView t e)) clsNotice 1 0x0A e.target 0x2524 1 (e.uid.map fun _ => eventSerial t e) (e.status % 8)

/-- An event fires with a status: the slot keeps a sheet's event, and one that fired on a candidate until its window closes; the class is
counted (2521:01 to :05); a sheet's LATE MECH or HV event, and its IMAGE event on a COAST tooth, are defects (R31). -/
def markFired (s : State) (k : Nat) (e : Event) (late : Bool) : State :=
  let d := eventDue s e
  let coast := (d.map (·.coast)).getD false
  let cand := (d.map (·.candidate)).getD false
  let lateness : Int := if late || coast then (s.time : Int) - (d.map (·.time)).getD 0 else 0
  let f : Event := { e with status := 8 + ofBool late + 2 * ofBool coast, lateness := lateness }
  let t := if e.uid.isSome || cand then { s with slots := tabSet s.slots k f } else setSlots s (tabDel s.slots k)
  let t := match e.uid with
    | some u =>
      if e.code = 1 ∧ coast then modSheet t u fun sh => sh.mark fun x => { x with mistimed := true }
      else if late ∧ (eventClass e.code = 2 ∨ eventClass e.code = 3) then modSheet t u fun sh => sh.mark fun x => { x with late := true }
      else t
    | none => t
  flagEvent (if eventClass e.code = 0 then t else bump t 0x2521 (eventClass e.code)) f

/-- The events of a tooth that fired on its candidate are MISTIMED when a double edge re-times it (R424): the error in phases. -/
def mistime (s : State) (k old new : Nat) : State :=
  let n := (get s (trkIdx k) 7 + 1) % 2 ^ 32
  let hit := s.slots.filter fun p => p.2.ref == k && p.2.tooth == n && p.2.fired && !p.2.status.testBit 2
  hit.foldl (fun t p =>
    let f : Event := { p.2 with status := setBit p.2.status 2, lateness := (new : Int) - old }
    let u := flagEvent { t with slots := tabSet t.slots p.1 f } { f with status := 4 }
    match p.2.uid with
    | some uid => if p.2.code = 1 then modSheet u uid fun sh => sh.mark fun x => { x with mistimed := true } else u
    | none => u) s

/-- Posted events that fired on a candidate leave their slots when its window closes. -/
def freeFired (s : State) : State := dropEvents s fun e => e.fired && e.uid.isNone

/-! ## Routes (R414) -/

/-- The routing of a sheet is decided when its trailing edge leaves the secondary transfer nip (R271). No object or event gives that moment; the model
decides it at the sheet's first routed event or its exit (R414; DESIGN CHOICE, log 143). -/
def decideRoute (s : State) (uid : Nat) : State :=
  modSheet s uid fun sh => { sh with purged := some (match sh.purged with
    | some b => b
    | none => sh.routePurge s) }

/-- Whether an event's route matches its sheet's. -/
def routeFits (s : State) (e : Event) : Bool :=
  match e.uid with
  | none => true
  | some u => match sheetOf s u with
    | none => false
    | some sh => if e.route = 1 then !sh.routePurge s else if e.route = 2 then sh.routePurge s else true

/-- An event whose route does not match is dropped without a flag. -/
def dropEvent (s : State) (k : Nat) : State := setSlots s (tabDel s.slots k)

/-! ## The medium that does not arrive (R34, R409, R478) -/

/-- The sheet's medium is missing: SPOILED, its remaining MECH events cancelled, no secondary transfer by L24; an arrival check cancels
every HV event. -/
def missMedium (s : State) (uid : Nat) (allHv : Bool) : State :=
  let t := modSheet s uid fun sh => { sh with spoiled := true, noMedium := true }
  dropEvents t fun e => e.uid == some uid && !e.fired && (eventClass e.code == 2 || eventClass e.code == 3 && (allHv || e.target == 24))

/-- A dropped action of a COMMITTED sheet misses its medium (R478). -/
def dropped (e : Event) (r : State × Bool) : State :=
  match r.2, e.uid with
  | true, some u => missMedium r.1 u false
  | _, _ => r.1

/-! ## Actions (R408) -/

/-- Action 0x10: a timetable's move acts at once, a posted one as a command (R477, R478, R490). -/
def actMove (s : State) (e : Event) : State :=
  if e.uid.isSome then dropped e (moveNow s e.target e.param)
  else if axisModeCode s .move = 0 ∧ ((heldOf s e.target (moveSet s e.target e.param)).isSome ∨ moveRefusal s e.target e.param = 0) then moveCommand s e.target e.param
  else if e.param.testBit 4 then moveOverrun s e.target else s

/-- Action 0x11: a ramped stop (R489, R419). -/
def actStop (s : State) (e : Event) : State :=
  if e.uid.isSome then stopAxis s e.target false else if axisModeCode s .stop = 0 then stopCommand s e.target false else s

/-- Action 0x12: a motor speed (R456, R458, R419). -/
def actSpeed (s : State) (e : Event) : State :=
  if e.uid.isNone ∧ motorModeCode s ≠ 0 ∨ speedRange s e.target e.param ≠ 0 then s else speedNow s e.target e.param e.uid.isSome

/-- Action 0x13: a pin set. -/
def actPin (s : State) (e : Event) : State := pinSetValue s e.target (e.param % 2)

/-- Action 0x14: an arrival check (R409); a posted one has no sheet and no effect. -/
def actArrival (s : State) (e : Event) (seen : Bool) : State :=
  match e.uid with
  | some u => if seen then s else missMedium s u true
  | none => s

/-- Actions 0x20 to 0x22 on loops (R514 to R518, R533). -/
def actBank (s : State) (e : Event) : State := if hvActs s then selectBank s e.target (e.param % 8) else s
def actLoopOn (s : State) (e : Event) : State := if hvActs s then loopCommandOn s e.target else s
def actLoopOff (s : State) (e : Event) : State := if hvActs s then loopCommandOff s e.target else s

/-- Action 0x40: the sheet has left its path (R410, R17). -/
def actExit (s : State) (e : Event) : State :=
  match e.uid with
  | none => s
  | some u => match sheetOf (decideRoute s u) u with
    | some sh => if sh.committed then finishSheet (decideRoute s u) sh else s
    | none => s

/-- Action 0x41: a log mark, NOTICE entry of kind 6 with the parameter (R408, R566). -/
def actMark (s : State) (e : Event) : State := log s clsNotice 6 0x0A 255 0x2521 5 (e.uid.map fun _ => eventSerial s e) e.param

/-- Action 0x42: a capture trigger (R531, R532). -/
def actCapture (s : State) (e : Event) : State := captureTrigger s e.target

/-- The action of an event that is no IMAGE or NET event. -/
def act (s : State) (e : Event) (seen : Bool) : State :=
  match e.code with
  | 0x10 => actMove s e
  | 0x11 => actStop s e
  | 0x12 => actSpeed s e
  | 0x13 => actPin s e
  | 0x14 => actArrival s e seen
  | 0x20 => actBank s e
  | 0x21 => actLoopOn s e
  | 0x22 => actLoopOff s e
  | 0x40 => actExit s e
  | 0x41 => actMark s e
  | 0x42 => actCapture s e
  | _ => s

/-- An event of a slot fires: its route is decided and checked, it is marked, it acts. -/
def fire (s : State) (k : Nat) (e : Event) (late seen : Bool) : State :=
  let t := if e.route = 0 then s else match e.uid with
    | some u => decideRoute s u
    | none => s
  if routeFits t e then act (markFired t k e late) e seen else dropEvent t k

/-- The command that an event of a given action fires from its slot; nothing happens when its turn has not come. -/
def fireSlot (s : State) (k code : Nat) (seen : Bool) : State :=
  match readyEvent s k code with
  | some e => fire s k e false seen
  | none => s

/-- An event that has already passed when it enters its slot (R420): MECH and HV fire at once with LATE, LOG fires at once. -/
def enterEvent (s : State) (k : Nat) (e : Event) : State :=
  let t := setSlots s (tabSet s.slots k e)
  match eventDue t e with
  | some d =>
    if d.candidate ∨ (t.time : Int) + 16 < d.time ∨ !modeFires t e then t
    else if e.ref ≠ 255 ∧ follows 32 (get t (trkIdx e.ref) 7) e.tooth then t
    else fire t k e (eventClass e.code != 5) false
  | none => t

/-! ## Resolution of tracker entries at the sluice (R413) -/

/-- A tracker entry's tooth and offset from the tracker's tooth count N0. -/
def resolveTooth (s : State) (k off : Nat) : Nat × Int :=
  let pitch := max 1 (get s (trkIdx k) 0x33)
  let nm := off * 1000
  ((get s (trkIdx k) 7 + nm / pitch) % 2 ^ 32, ((nm % pitch * periodOf s k (tracker s k).next / (16 * pitch) : Nat) : Int))

/-- The events of a sheet that wait for the sluice are placed on their teeth. Until then their `time` holds the offset in µm. -/
def resolveEvents (s : State) (uid : Nat) : State :=
  (s.slots.filter fun p => p.2.uid == some uid && p.2.ref != 255 && p.2.code != 1 && !p.2.fired).foldl (fun t p =>
    let r := resolveTooth t p.2.ref p.2.time
    enterEvent t p.1 { p.2 with tooth := r.1, offset := r.2, time := 0 }) s

end Sys2Proof.Machine
end

