-- ==== Sys2Proof/Machine/Apply.lean ====
section
/-! DEFINITION. Apply, discard and take of consistency groups with what a new set does to its block (R63 to R79, R347, R390, R502). -/

namespace Sys2Proof.Machine

/-- What a new geometry of station n does (R347, R390): a changed facet count clears the signature; registers 0x03 to 0x06 are
rewritten and read back on a link that is UP. -/
def geometryTaken (old s : State) (n : Nat) : State :=
  let t := if facets old n = facets s n then s else forEach (List.range 12) (fun u f => put u (trkIdx n) (0x20 + f) 0) s
  updateFreeboard (if linkState t n = 3 then sendLspi (setStation t n fun x => { x with regsDue := true }) n (geoFrames t n) else t) n

/-- What a new loop configuration does (R502): a changed law, input or output restarts the loop by soft-start. -/
def loopTaken (old s : State) (n : Nat) : State :=
  let same := (List.range 3).all fun k => get old (loopIdx n) (k + 1) == get s (loopIdx n) (k + 1)
  let st := (loop s n).state
  if same then s
  else if law s n = 0 then (if st = 0 ∨ st = 4 then s else loopOffNow s n)
  else if st = 1 ∨ st = 2 then softStart s n else s

/-- A group's values have been copied: what its block does at once. -/
def groupTaken (old s : State) (g : Nat) : State :=
  if 1 ≤ g ∧ g ≤ 6 then geometryTaken old s (g - 1)
  else if g = 17 then claimsTaken (forEach (List.range 48) (fun t n => loopTaken old t n) s)
  else if g = 20 then claimsTaken s
  else s

/-- A group takes effect (R67, R72). -/
def takeGroup (s : State) (g : Nat) : State := groupTaken s (copyGroup s g) g

/-- Whether a group is deferred (R65). -/
def deferredGroup (g : Nat) : Bool := decide (1 ≤ g ∧ g ≤ 13)

/-- A group is armed (R71): its stager's hold ends. -/
def armGroup (s : State) (g : Nat) : State := { s with armed := g :: s.armed.filter (· != g), stagers := s.stagers.filter fun p => p.1 != g }

/-- Whether an armed station group is at its apply point (R73): no sheet on its way has still to send lines on the station, zero lines of a
sheet that has no plane there or has spilled among them (R341, R342). -/
def atBoundary (s : State) (n : Nat) : Bool := s.sheets.all fun sh => !(sh.admitted || sh.committed) || sh.imaged.testBit n

/-- The station of a station group. -/
def groupStation (g : Nat) : Nat := if g ≤ 6 then g - 1 else g - 7

/-- A group rejected at an apply (R68, R69). -/
def refuseGroup (s : State) (g : Nat) : State := sat (put s 0x2700 4 (setBit (get s 0x2700 4) g)) 0x2700 9

/-- One group of an apply (R66 to R73): the state, and the abort of a rejection; `passed` are the groups that the same apply has armed. -/
def applyGroup (s : State) (passed : List Nat) (g : Nat) : State × Nat :=
  let c := groupCheck (passed.foldl merged s) g
  if c ≠ 0 then (refuseGroup s g, c)
  else if !deferredGroup g then (takeGroup s g, 0)
  else
    let t := armGroup s g
    (if g ≤ 12 ∧ !anyOnPath t then takeGroup t g else t, 0)

/-- The groups that an apply by an accessor takes (R66): those it stages, for PF0 every one; an armed group is not taken again. -/
def applyGroups (s : State) (acc : Accessor) : List Nat :=
  (List.range 21).filter fun g => hasStaged s g && !s.armed.contains g && (acc == .pf0 || s.stagers.contains (g, acc))

/-- The next group of an apply: `p` holds the state, the abort so far, and the groups that this apply has armed; they count as applied in
the checks of the groups that follow (R67). -/
def applyNext (p : State × Nat × List Nat) (g : Nat) : State × Nat × List Nat :=
  let q := applyGroup p.1 p.2.2 g
  (q.1, orCode p.2.1 q.2, if q.1.armed.contains g then p.2.2 ++ [g] else p.2.2)

/-- The apply (R66 to R70): the state and the abort of the lowest-numbered rejected group; with no group to take nothing changes. -/
def applyAll (s : State) (acc : Accessor) : State × Nat :=
  match applyGroups s acc with
  | [] => (s, 0)
  | l =>
    let r := l.foldl applyNext (s, 0, [])
    (put r.1 0x2700 3 r.2.1, r.2.1)

/-- The stager of a group. -/
def stagerOf (s : State) (g : Nat) : Option Accessor := (s.stagers.find? fun p => p.1 == g).map (·.2)

/-- Why a discard is refused (R77): 0 when it is not. -/
def discardCode (s : State) (acc : Accessor) (g : Nat) : Nat :=
  if g = 255 then 0
  else if s.armed.contains g then 0x0502
  else match stagerOf s g with
    | some a => if a = acc ∨ acc = .pf0 then 0 else 0x0603
    | none => 0

/-- A discard (R77). -/
def discard (s : State) (acc : Accessor) (g : Nat) : State :=
  if g = 255 then ((s.stagers.filter fun p => p.2 == acc).map (·.1)).foldl (fun t k => if s.armed.contains k then t else dropStaged t k) s
  else if (stagerOf s g).isSome then dropStaged s g else s

/-- The lock and staging step of a write to an RWS object (R60, R71, R76). -/
def stagingCode (s : State) (acc : Accessor) (g : Nat) : Nat :=
  if s.armed.contains g then 0x0502
  else match stagerOf s g with
    | some a => if a = acc then 0 else 0x0603
    | none => 0

/-- A staging write makes its accessor the group's stager (R76). -/
def stageBy (s : State) (acc : Accessor) (g : Nat) : State :=
  if (stagerOf s g).isSome then s else { s with stagers := (g, acc) :: s.stagers }

/-- A staging write of a number and of octets (R65). -/
def stageNum (s : State) (acc : Accessor) (idx sub v : Nat) : State :=
  let t := stageBy s acc (groupOf idx)
  { t with staged := tabSet t.staged (keyOf idx sub) v }
def stageBlob (s : State) (acc : Accessor) (idx sub : Nat) (l : List Byte) : State :=
  let t := stageBy s acc (groupOf idx)
  { t with stagedBlobs := tabSet t.stagedBlobs (keyOf idx sub) l }

/-- The apply point of an armed group has come (R72): the new set, or the rejection with its WARN entry. -/
def takeArmed (s : State) (g : Nat) : State := if groupCheck s g = 0 then takeGroup s g else rejectGroup s g

end Sys2Proof.Machine
end

