-- ==== Sys2Proof/Machine/Write.lean ====
section
/-! DEFINITION. A write of the dictionary: its checks in the order of R60 and its effect, the commands that are writes included. -/

namespace Sys2Proof.Machine

/-! ## The class step -/

/-- Whether every write to an object is refused by its class (R51, R59, R222). -/
def readOnly (idx sub : Nat) (r : Row) : Bool := sub == 0 || r.cls == .const || r.cls == .ro || idx == 0x6000 || idx == 0x67FF

/-- The row under which sub 0 is judged: a U8 RO object (R51). -/
def countRow : Row := ⟨0, 1, 1, 0, 0, .u8, .ro, 0, 0, 255, .range, false⟩

/-- The row of a write. -/
def writeRow (idx sub : Nat) : Row := if sub = 0 then countRow else (rowOf idx sub).getD countRow

/-- Whether an object is for PF0 and the network only, not for its VF (07_tenants.md: "PF0"), or for PF0 alone (2710:02); and writing 3
needs rights 3. -/
def ownerCode (s : State) (acc : Accessor) (idx sub v : Nat) : Nat :=
  match acc with
  | .pf0 => 0
  | .vf _ => if 0x5000 ≤ idx ∧ idx < 0x5040 ∧ 8 ≤ sub ∧ sub ≤ 0x0C then 0x0105 else 0
  | _ =>
    if idx = 0x2710 ∧ sub = 2 then 0x0105 else if 0x6000 ≤ idx ∧ idx < 0x6800 ∧ sub = 6 ∧ v = 3 ∧ rightsOf s acc ≠ 3 then 0x0105 else 0

/-! ## The mode step -/

/-- 0x0402 unless the mode is one of a list. -/
def inModes (s : State) (l : List Mode) : Nat := if l.contains s.md.mode then 0 else 0x0402

/-- The objects that TERP leaves reachable (R134). -/
def terpReach (idx : Nat) : Bool :=
  decide (0x1000 ≤ idx ∧ idx < 0x1100) || decide (0x2000 ≤ idx ∧ idx < 0x2100) || isLogIdx idx || idx == 0x2710

/-- The refusal of an access in TERP (R134). -/
def terpCode (s : State) (idx : Nat) : Nat := if inTerp s && !terpReach idx then 0x0403 else 0

/-- The modes of the RWM objects (Notes of the object tables). -/
def rwmCode (s : State) (idx sub v : Nat) : Nat :=
  if idx = 0x2040 then inModes s [.terp, .standby, .service]
  else if idx = 0x2710 then
    (if inModes s [.service] ≠ 0 then 0x0402 else if !(getBlob s 0x2710 2).isEmpty then 0x0604 else 0)
  else if idx = 0x2200 then
    (if inModes s [.standby, .warmup, .ready, .service, .safestop] ≠ 0 then 0x0402
    else if s.md.mode = .ready ∧ anyAdmitted s then 0x0402
    else if v = 1 ∧ s.clk.offUntilKickoff then 0x0404 else 0)
  else if 0x3000 ≤ idx ∧ idx < 0x30C0 then inModes s [.standby, .warmup, .ready, .service, .safestop]
  else if sub = 0 then 0
  else inModes s [.standby, .service]

/-- Whether a SAFESTOP cause persists beside the entry that has still to complete (R45, R561, R563). -/
def anyCause (s : State) : Bool := s.log.causes.any fun p => p.2 != entryInst

/-- The refusal of a post by the mode (R434). -/
def postModeCode (s : State) (d : List Byte) : Nat :=
  let k := eventClass (leAt d 0 1)
  match s.md.mode with
  | .shutdown => 0x0402
  | .kickoff => if k = 5 then 0 else 0x0402
  | .doze => if k = 5 ∨ leAt d 3 1 = 255 then 0 else 0x0402
  | .safestop => if k = 2 ∨ k = 3 then 0x0404 else 0
  | _ => 0

/-- The state refusals of the system objects (02, 03, 01). -/
def modeSystem (s : State) (idx sub v : Nat) : Nat :=
  if idx = 0x2000 ∧ sub = 2 then requestCode s v
  else if idx = 0x2000 ∧ sub = 0x0B then (if s.md.mode ≠ .safestop then 0x0401 else if anyCause s then 0x0404 else 0)
  else if idx = 0x2040 ∧ sub = 2 then (if inTerp s then 0 else 0x0401)
  else 0

/-- The state refusals of tenants (R286). -/
def modeTenant (s : State) (idx sub v : Nat) : Nat :=
  if 4 ≤ sub ∧ sub ≤ 8 then (if (tenant s (idx - 0x5000)).state == .disabled then 0 else 0x0705)
  else if sub = 2 ∧ v = 1 then (if (tenant s (idx - 0x5000)).state == .disabled then 0 else 0x0705)
  else 0

/-- The state refusals of axes (R472, R483, R484, R488, R496). -/
def modeAxis (s : State) (idx sub v : Nat) : Nat :=
  let a := idx - 0x4900
  if 1 ≤ sub ∧ sub ≤ 0x1F ∨ 0x40 ≤ sub ∧ sub ≤ 0x46 then (if axState s a = 0 ∨ axState s a = 1 then 0 else 0x0405)
  else if sub = 0x38 then orCode (axisModeCode s .move) (if (heldOf s a (moveSet s a v)).isSome then 0 else moveRefusal s a v)
  else if sub = 0x39 then axisModeCode s .stop
  else if sub = 0x3A then orCode (axisModeCode s .move) (if (heldOf s a (resumeSet s a)).isSome then 0 else resumeRefusal s a)
  else if sub = 0x3B then orCode (axisModeCode s .home) (if pathHeld s a then 0 else homeRefusal s a)
  else if sub = 0x3C then orCode (axisModeCode s (.enable (v != 0))) (enableCode s a v)
  else 0

/-- The state refusals of loops, injection and capture (R518, R530, R533). -/
def modeLoop (s : State) (idx sub v : Nat) : Nat :=
  if idx = 0x7000 then (if sub = 6 then inModes s [.service] else 0)
  else if sub = 0x21 then loopModeCode s (idx - 0x3900) (v != 0)
  else if 0x18 ≤ sub ∧ sub ≤ 0x20 then bankModeCode s (idx - 0x3900)
  else 0

/-- The mode step of a write (R60): RWM modes, and the refusals that Notes name for the state. -/
def modeCodeOf (s : State) (r : Row) (idx sub v : Nat) (d : List Byte) : Nat :=
  let t := terpCode s idx
  if t ≠ 0 then t
  else if r.cls = .rwm then rwmCode s idx sub v
  else if idx < 0x2100 then modeSystem s idx sub v
  else if 0x5000 ≤ idx ∧ idx < 0x5040 then modeTenant s idx sub v
  else if 0x4900 ≤ idx ∧ idx < 0x4910 then modeAxis s idx sub v
  else if idx = 0x7000 ∨ 0x3900 ≤ idx ∧ idx < 0x3930 then modeLoop s idx sub v
  else if 0x4800 ≤ idx ∧ idx < 0x480C ∧ sub = 0x18 then motorModeCode s
  else if idx % 0x20 = 0x14 ∧ 0x3000 ≤ idx ∧ idx < 0x30C0 ∧ sub = 9 then inModes s [.service]
  else if idx = 0x2523 ∧ sub = 1 then postModeCode s d
  else 0

/-! ## The lock and staging step -/

/-- The value of an object that a write would replace. -/
def oldValue (s : State) (r : Row) (idx sub : Nat) : Nat :=
  if r.cls = .rws then (tabFind s.staged (keyOf idx sub)).getD (get s idx sub) else get s idx sub

/-- The lock and staging step (R60, R71, R76, R77, R549; 0x0605 of 1110+p:01). -/
def lockCode (s : State) (acc : Accessor) (r : Row) (idx sub v : Nat) : Nat :=
  if lockRefuses s idx sub (oldValue s r idx sub) v then 0x0601
  else if 0x1110 ≤ idx ∧ idx < 0x1117 ∧ sub = 1 ∧ v = 0 ∧ idx = portIdx (homePort s) then 0x0605
  else if r.cls = .rws then stagingCode s acc (groupOf idx)
  else if idx = 0x2700 ∧ sub = 2 ∧ (v ≤ 20 ∨ v = 255) then discardCode s acc v
  else 0

/-! ## The range step -/

/-- Whether a linearisation table is strictly monotonic, or all zeros (R510). -/
def tableOk (d : List Byte) : Bool :=
  let l := (List.range 65).map fun j => sInt 16 (leAt d (2 * j) 2)
  l.all (· == 0) || ((l.zip (l.drop 1)).all fun p => decide (p.1 < p.2)) || ((l.zip (l.drop 1)).all fun p => decide (p.2 < p.1))

/-- Whether a linearisation table is unused (R510). -/
def tableUnused (s : State) (k : Nat) : Bool := k != 0 && (getBlob s (0x3C48 + k) 1).all (· == 0)

/-- The checks of AIN objects beyond their bounds (R504, R510). -/
def rangeAin (s : State) (idx sub v : Nat) : Nat :=
  let i := idx - 0x3C00
  let t := put s idx sub v
  if sub = 1 ∧ (List.range 48).any (fun n => readsAin s n i && decide (v ≠ inKind s n + 1)) then 0x0501
  else if sub = 2 ∧ get s idx 1 = 2 ∧ v < 1000 then 0x0301
  else if (sub = 1 ∨ sub = 2) ∧ 4000000 < converterLoad t (i / 12) then 0x0706
  else if sub = 5 ∧ tableUnused s v then 0x0501
  else 0

/-- The checks of axis objects beyond their bounds (R472, R474, R477, R492, R536). -/
def rangeAxis (s : State) (idx sub v : Nat) : Nat :=
  let a := idx - 0x4900
  if 0x10 ≤ sub ∧ sub ≤ 0x13 ∧ 1000000000 < 2 * v * get s idx 5 then 0x0302
  else if sub = 1 ∧ v % 256 < 96 ∧ !fastPad (v % 256) then 0x0501
  else if sub = 0x0A ∧ (v = 1 ∧ !hasPin s a 1 3 ∨ v = 2 ∧ !hasPin s a 2 0) then 0x0501
  else if sub = 0x38 ∧ v.testBit 4 ∧ (groupOfAxis s a).isNone then 0x0303
  else if sub = 0x3C ∧ v = 1 ∧ (!hasPin s a 1 0 ∨ !hasPin s a 1 1) then 0x0501
  else 0

/-- The round-1 duration of every port fits under a changed state (R231). -/
def roundsFit (t : State) : Bool := (List.range 7).all fun p => decide (roundUs t p ≤ 500000)

/-- The checks of network objects beyond their bounds (R231, 06_field_network.md). -/
def rangeNet (s : State) (idx sub v : Nat) : Nat :=
  if 0x1110 ≤ idx ∧ idx < 0x1114 ∧ (sub = 2 ∨ sub = 3) then
    (if sub = 3 ∧ v ≠ 0 ∧ v < get s idx 2 then 0x0301 else if roundsFit (put s idx sub v) then 0 else 0x0703)
  else if 0x6000 ≤ idx ∧ idx < 0x6800 ∧ sub = 2 then (if roundsFit (put s idx sub v) then 0 else 0x0703)
  else 0

/-- The record of a post (R407). -/
def eventOf (d : List Byte) : Event :=
  let ref := leAt d 3 1
  { code := leAt d 0 1, target := leAt d 1 1, param := leAt d 2 1, ref := ref, tag := leAt d 4 2, status := leAt d 6 1,
    time := if ref = 255 then leAt d 8 8 else 0, tooth := if ref = 255 then 0 else leAt d 8 4,
    offset := if ref = 255 then 0 else sInt 32 (leAt d 12 4) }

/-- The checks of a posted record (R433). -/
def postCode (s : State) (d : List Byte) : Nat :=
  let e := eventOf d
  let k := eventClass e.code
  if (k ≠ 2 ∧ k ≠ 3 ∧ k ≠ 5) ∨ (18 ≤ e.ref ∧ e.ref ≠ 255) ∨ e.status ≠ 0 ∨ leAt d 7 1 ≠ 0 ∨ e.tag = 0 then 0x0303
  else if !targetOk s e.code e.target ∨ (e.ref ≠ 255 ∧ !trackerPresent s e.ref) then 0x0101
  else if paramBad s e.code e.target e.param then 0x0303
  else if (freeSlot s 640 1024).isNone then 0x0704
  else 0

/-- Objects of one command value: 0 is refused with 0x0303 (Notes of the object tables). -/
def oneOnly (r : Row) (idx sub : Nat) : Bool :=
  (r.ty == .bool && r.cls == .wo) || (idx == 0x2200 && sub == 2) || (idx % 0x20 == 0x14 && decide (0x3000 ≤ idx ∧ idx < 0x30C0) && sub == 2) ||
    (idx == 0x2523 && sub == 2)

/-- The further checks that Notes name, by object (R315, R456, R609); bits [31:16] of the carrier are reserved under the STEP law of the set that
the write joins (R6, R520). -/
def rangeMore (s : State) (idx sub v : Nat) (d : List Byte) : Nat :=
  if 0x3C00 ≤ idx ∧ idx < 0x3C30 then rangeAin s idx sub v
  else if 0x3900 ≤ idx ∧ idx < 0x3930 ∧ sub = 0x0A then
    (if 65536 ≤ v ∧ (tabFind s.staged (keyOf idx 1)).getD (get s idx 1) % 4 = 2 then 0x0303 else 0)
  else if 0x3C48 ≤ idx ∧ idx < 0x3C50 then (if tableOk d then 0 else 0x0501)
  else if 0x4900 ≤ idx ∧ idx < 0x4910 then rangeAxis s idx sub v
  else if 0x1110 ≤ idx ∧ idx < 0x1117 ∨ 0x6000 ≤ idx ∧ idx < 0x6800 then rangeNet s idx sub v
  else if idx = 0x2523 ∧ sub = 1 then postCode s d
  else if 0x4800 ≤ idx ∧ idx < 0x480C then
    (if sub = 0x18 then speedRange s (idx - 0x4800) v
    else if 0x20 ≤ sub ∧ sub ≤ 0x2F ∧ get s idx 0x0C < v % 2 ^ 21 then 0x0302 else 0)
  else if idx = 0x2300 then
    (if sub = 8 ∧ getS s 16 0x2300 9 ≤ sInt 16 v then 0x0501
    else if sub = 0x0F ∧ budget s < heldNow s + guarantees s + v then 0x0701 else 0)
  else if 0x5000 ≤ idx ∧ idx < 0x5040 then
    (if sub = 8 ∧ poolTotal s < v then 0x0302 else if sub = 2 ∧ v = 1 then enableRefusal s (idx - 0x5000) else 0)
  else 0

/-- The range step of a write (R60). -/
def rangeStep (s : State) (r : Row) (idx sub v : Nat) (d : List Byte) : Nat :=
  if r.ty == .str then 0
  else if r.ty == .blob then rangeMore s idx sub 0 d
  else if oneOnly r idx sub && v == 0 then 0x0303
  else orCode (rangeCode r idx sub v) (rangeMore s idx sub v d)

/-! ## All checks in order (R60) -/

/-- The first check that refuses a write; 0 when all pass. -/
def writeCode (s : State) (acc : Accessor) (idx sub : Nat) (d : List Byte) : Nat :=
  let i := (viewOf idx).1
  let c := reachCode s acc true idx sub
  if c ≠ 0 then c
  else
    let r := writeRow i sub
    let v := operandValue (viewOf idx).2 d
    let o := ownerCode s acc i sub v
    if o ≠ 0 then o
    else if lengthCode r d ≠ 0 then lengthCode r d
    else if readOnly i sub r then 0x0103
    else
      let m := modeCodeOf s r i sub v d
      if m ≠ 0 then m
      else
        let k := lockCode s acc r i sub v
        if k ≠ 0 then k else rangeStep s r i sub v d

/-! ## Effects -/

/-- Plain storage of a value. -/
def store (s : State) (idx sub v : Nat) : State := if isLogIdx idx then putLog s idx sub v else put s idx sub v

/-- The low-water or high-water watermark whose THRESHOLD is an object: base subindex and direction (R86). -/
def thresholdOf (idx sub : Nat) : Option (Nat × Bool) :=
  if idx = 0x2520 ∧ sub = 6 then some (2, true)
  else if 0x1110 ≤ idx ∧ idx < 0x1117 ∧ sub = 0x24 then some (0x20, true)
  else if 0x1110 ≤ idx ∧ idx < 0x1117 ∧ sub = 0x2C then some (0x28, true)
  else if 0x3000 ≤ idx ∧ idx < 0x30C0 ∧ idx % 0x20 = 0x11 ∧ sub = 5 then some (1, false)
  else none

/-- The watched value of a watermark. -/
def watched (s : State) (idx base : Nat) : Nat :=
  if idx = 0x2520 then s.slots.length
  else if idx < 0x2000 then (if base = 0x20 then (port s (idx - 0x1110)).rx.length else (port s (idx - 0x1110)).tx.length)
  else get s idx 6

/-- A THRESHOLD is written: STATE follows at once, no crossing is counted (R607). -/
def thresholdWrite (s : State) (idx sub v : Nat) : State :=
  match thresholdOf idx sub with
  | some w => put (put s idx sub v) idx w.1 (ofBool (beyond w.2 v (watched s idx w.1)))
  | none => put s idx sub v

/-- A pin's lock sequence (R548): 0x4C and then 0xB3 within 1 ms from one accessor; 96 stands for all pins. -/
def lockWrite (s : State) (acc : Accessor) (p v : Nat) : State :=
  let seq := s.pins.lockSeq
  let hit := seq.any fun q => q.1 == acc && q.2.1 == p && decide (s.time - q.2.2 ≤ ticksMs 1)
  let rest := seq.filter fun q => q.1 != acc
  if v = 0x4C then { s with pins := { s.pins with lockSeq := (acc, p, s.time) :: rest } }
  else if hit then
    let l := if p = 96 then List.range 96 else if s.pins.locked.contains p then s.pins.locked else p :: s.pins.locked
    { s with pins := { s.pins with lockSeq := rest, locked := l } }
  else { s with pins := { s.pins with lockSeq := rest } }

/-- Any other write of an accessor breaks its lock sequence (R548). -/
def breakLock (s : State) (acc : Accessor) (idx sub : Nat) : State :=
  if 0x2600 ≤ idx ∧ idx < 0x2660 ∧ sub = 7 ∨ idx = 0x2660 ∧ sub = 1 then s
  else { s with pins := { s.pins with lockSeq := s.pins.lockSeq.filter fun q => q.1 != acc } }

/-- The stager's hold of a partner ends, and what it has of its own (R78). -/
def partnerHoldEnds (s : State) (n : Nat) : State :=
  if h : n < 2048 then releaseStager s (.partner ⟨n, h⟩) else s

/-- 6000+n:02 is written (R223, R231 to R233): UNASSIGNED, or EXPECTED on its port, to be polled. -/
def partnerPort (s : State) (n v : Nat) : State :=
  let t := put (partnerHoldEnds s n) (partnerIdx n) 2 v
  let r := partnerTo t n (if v < 7 then 1 else 0)
  let t := if r.2 then safestopBy r.1 0x0C (partnerCause n) else r.1
  if v < 7 then pollFirst t n else t

/-- The sessions of a key slot end (R250). -/
def endSlotSessions (s : State) (slot : Nat) : State :=
  (s.net.sessions.filter fun x => x.slot == slot).foldl (fun t x => endSession t x.id) s

/-- A relock is requested (R180, R181): one that runs goes on; in READY admission is held until the trackers have reacquired. -/
def relockWrite (s : State) : State :=
  if s.clk.relock.isSome then s
  else
    let t := if s.md.mode = .ready then { s with clk := { s.clk with admissionHold := true } } else s
    startRelock t .request

/-- Whether the lasers of a station may light for a service command (R395, R404, R405). -/
def serviceLit (s : State) (n : Nat) : Bool :=
  linkState s n == 3 && s.clk.gateOpen && !s.pins.ilockOpen && !(station s n).hardFault

/-- A service light write (R404, R405): kinds 0 and 2 send one window, kind 1 starts or stops BD windows. While the station's clocks stand, the
write is held (R172, R173). -/
def serviceLight (s : State) (n v : Nat) : State :=
  let kind := field v 4 2
  let us := v / 65536
  if kind = 1 then
    holdUnlit (setStation s n fun x => { x with svcBd := us != 0 })
  else if !(s.clk.gateOpen && s.clk.relock.isNone) then setStation s n fun x => { x with svcHeld := x.svcHeld ++ [v] }
  else if serviceLit s n then
    sendLight (setStation s n fun x => { x with svcUntil := max x.svcUntil (s.time + 750 + 1500 * us) }) n (v % 16) kind (16 * s.time + 12000) (24000 * us)
  else s

/-- The station island restarts (R172, R173, R183 step 8): it takes the service light writes that it has been held from, in their order. -/
def takeHeldLight (s : State) (n : Nat) : State :=
  (station s n).svcHeld.foldl (fun t v => serviceLight t n v) (setStation s n fun x => { x with svcHeld := [] })

/-- A post (R433): the first free slot from 640; an event already past fires at once (R420). -/
def postEvent (s : State) (d : List Byte) : State :=
  match freeSlot s 640 1024 with
  | some k => enterEvent (put s 0x2523 3 k) k (eventOf d)
  | none => s

/-- Whether a cancel still reaches a posted event: at least 16 ticks before its time (R418). -/
def cancellable (s : State) (e : Event) : Bool :=
  !e.fired && match eventDue s e with
    | some d => decide ((s.time : Int) + 16 ≤ d.time)
    | none => true

/-- A cancel by tag (R418, R433). -/
def cancelTag (s : State) (tag : Nat) : State := dropEvents s fun e => e.uid.isNone && e.tag == tag && cancellable s e

/-- TERP restart (R135): counter cleared, cleared record written, warm reset with the cause of its row. -/
def terpRestart (s : State) : State := warmReset (clearFailures s) 0x01 false

/-- Writes to 2000, 2040, 2700 and 2200 that act. -/
def effectSystem (s : State) (acc : Accessor) (idx sub v : Nat) (d : List Byte) : State × Nat :=
  if idx = 0x2000 then
    (match sub with
      | 2 => (match modeOfCode v with
        | some p => (doRequest s p, 0)
        | none => (s, 0))
      | 0x0B => (if s.md.entering then { s with md := { s.md with ackHeld := true } } else acknowledge s, 0)
      | 0x0C => (if v = 0 then withdrawAll (put s idx sub v) else put s idx sub v, 0)
      | _ => (put s idx sub v, 0))
  else if idx = 0x2040 then (if sub = 2 then terpRestart s else if s.flash.fitted then { s with flash := { s.flash with image := d } } else s, 0)
  else if idx = 0x2200 ∧ sub = 2 then (relockWrite s, 0)
  else if idx = 0x2700 then
    (match sub with
      | 1 => applyAll s acc
      | 2 => (discard s acc v, 0)
      | 6 => (setAcc s acc fun x => { x with view := v != 0 }, 0)
      | _ =>
        if 0x21 ≤ sub ∧ sub ≤ 0x24 then (endSlotSessions (putBlob s idx sub d) (sub - 0x21), 0)
        else if 0x25 ≤ sub ∧ sub ≤ 0x28 then (endSlotSessions (put s idx sub v) (sub - 0x25), 0)
        else (put s idx sub v, 0))
  else if idx = 0x2300 then
    (let t := put s idx sub v
     capacityFrom s (if sub = 7 then brokenInput t v else t), 0)
  else if idx = 0x2410 ∧ sub = 2 then (setAcc s acc fun x => { x with cursor := v }, 0)
  else if idx = 0x2410 ∧ sub = 8 then (setAcc s acc fun x => { x with source := v }, 0)
  else (store s idx sub v, 0)

/-- Writes to tenants, links and the scheduler that act. -/
def effectHost (s : State) (idx sub v : Nat) (d : List Byte) : State :=
  if 0x5000 ≤ idx ∧ idx < 0x5040 then
    let t := idx - 0x5000
    (match sub with
      | 2 => if v = 1 then enableTenant (put s idx sub 1) t
        else if (tenant s t).state == .enabled then tenantReset (put s idx sub 0) t 2 else put s idx sub 0
      | 3 => tenantReset s t 2
      | _ => put s idx sub v)
  else if 0x3000 ≤ idx ∧ idx < 0x30C0 ∧ idx % 0x20 = 0x14 then
    let n := (idx - 0x3000) / 0x20
    (match sub with
      | 2 => linkUp s n false
      | 9 => serviceLight s n v
      | _ => put s idx sub v)
  else if idx = 0x2523 then (if sub = 1 then postEvent s d else cancelTag s v)
  else put s idx sub v

/-- Writes to motors and axes that act. -/
def effectMotion (s : State) (idx sub v : Nat) : State :=
  if 0x4800 ≤ idx ∧ idx < 0x480C ∧ sub = 0x18 then speedNow s (idx - 0x4800) v false
  else if 0x4900 ≤ idx ∧ idx < 0x4910 then
    let a := idx - 0x4900
    (match sub with
      | 0x38 => moveCommand s a v
      | 0x39 => stopCommand s a (v == 2)
      | 0x3A => resumeCommand s a
      | 0x3B => homeCommand s a
      | 0x3C => enableNow s a v
      | _ => claimsTaken (put s idx sub v))
  else put s idx sub v

/-- Writes to loops, inputs, injection and capture that act. -/
def effectLoop (s : State) (idx sub v : Nat) : State :=
  if idx = 0x7000 then
    (match sub with
      | 6 => if v = 1 then captureTrigger (injectionStart s) (get s 0x7000 1) else injectionStop s
      | 0x13 => captureArm s
      | 0x14 => captureTrigger s (get s 0x7000 0x10)
      | _ => put s idx sub v)
  else if 0x3C00 ≤ idx ∧ idx < 0x3C30 then
    (if sub = 1 then put (setAin s (idx - 0x3C00) fun _ => {}) idx sub v else put s idx sub v)
  else match sub with
    | 0x20 => selectBank s (idx - 0x3900) v
    | 0x21 => if isSpeedLoop (idx - 0x3900) then s else if v = 1 then loopCommandOn s (idx - 0x3900) else loopCommandOff s (idx - 0x3900)
    | _ => put s idx sub v

/-- Writes to pins and trackers that act. -/
def effectPins (s : State) (acc : Accessor) (idx sub v : Nat) : State :=
  if idx = 0x2660 ∧ sub = 1 then lockWrite s acc 96 v
  else if 0x2600 ≤ idx ∧ idx < 0x2660 then
    (if sub = 7 then lockWrite s acc (idx - 0x2600) v
    else if sub = 3 then
      let t := put s idx sub v
      if claimed t (idx - 0x2600) then sat t 0x2660 9 else t
    else claimsTaken (put s idx sub v))
  else holdUnlit (claimsTaken (put s idx sub v))

/-- Writes to the network's objects that act. -/
def effectNet (s : State) (idx sub v : Nat) (d : List Byte) : State :=
  if 0x6000 ≤ idx then (if sub = 2 then partnerPort s (idx - 0x6000) v else put (partnerHoldEnds s (idx - 0x6000)) idx sub v)
  else if 0x1110 ≤ idx ∧ idx < 0x1117 then
    (match thresholdOf idx sub with
      | some _ => thresholdWrite s idx sub v
      | none => if sub ≤ 7 then restartPort (put s idx sub v) (idx - 0x1110) (sub == 1) else put s idx sub v)
  else if idx = 0x1100 ∧ sub = 5 then put s idx sub v
  else if d.isEmpty then s else put s idx sub v

/-- The effect of a write that has passed every check (R59). -/
def writeEffect (s : State) (acc : Accessor) (r : Row) (idx sub v : Nat) (d : List Byte) : State × Nat :=
  if r.cls = .rws then (if r.ty = .blob then stageBlob s acc idx sub d else stageNum s acc idx sub v, 0)
  else if idx < 0x2000 ∨ 0x6000 ≤ idx ∧ idx < 0x7000 then (effectNet s idx sub v d, 0)
  else if (thresholdOf idx sub).isSome then (thresholdWrite s idx sub v, 0)
  else if idx < 0x2500 ∨ idx = 0x2700 then effectSystem s acc idx sub v d
  else if 0x2500 ≤ idx ∧ idx < 0x2512 ∨ 0x2600 ≤ idx ∧ idx ≤ 0x2660 then (effectPins s acc idx sub v, 0)
  else if r.ty = .blob ∧ idx ≠ 0x2523 then (putBlob s idx sub d, 0)
  else if 0x4800 ≤ idx ∧ idx < 0x5000 then (effectMotion s idx sub v, 0)
  else if idx = 0x7000 ∨ 0x3900 ≤ idx ∧ idx < 0x4000 then (effectLoop s idx sub v, 0)
  else (effectHost s idx sub v d, 0)

/-- A write: refused with its abort code and no effect, or done (R58, R60). -/
def writeDict (acc : Accessor) (idx sub : Nat) (d : List Byte) (s : State) : State × Nat :=
  let c := writeCode s acc idx sub d
  let i := (viewOf idx).1
  if c ≠ 0 then (s, c) else writeEffect (breakLock s acc i sub) acc (writeRow i sub) i sub (operandValue (viewOf idx).2 d) d

/-- A write by an accessor, answered (R59). -/
def writeCommand (acc : Accessor) (idx sub : Nat) (d : List Byte) (s : State) : State :=
  if answering s then
    let r := writeDict acc idx sub d s
    emit r.1 (.answer acc r.2 [])
  else s

/-! ## Reads -/

/-- The first check that refuses a read; 0 when all pass (R51 to R53, R59, R134). -/
def readCode (s : State) (acc : Accessor) (idx sub : Nat) : Nat :=
  let i := (viewOf idx).1
  let c := reachCode s acc false idx sub
  if c ≠ 0 then c
  else if sub ≠ 0 ∧ (writeRow i sub).cls = .wo then 0x0104
  else terpCode s i

/-- The watermark whose LATCH is an object: base subindex (R86, R87). -/
def latchOf (idx sub : Nat) : Option Nat :=
  if idx = 0x2520 ∧ sub = 3 then some 2
  else if 0x1110 ≤ idx ∧ idx < 0x1117 ∧ (sub = 0x21 ∨ sub = 0x29) then some (sub - 1)
  else if 0x3000 ≤ idx ∧ idx < 0x30C0 ∧ idx % 0x20 = 0x11 ∧ sub = 2 then some 1
  else none

/-- What a read clears (R61, R87, R571, R578): LATCH with EXTREME, RC objects, the log cursor, the notices. -/
def readEffect (s : State) (acc : Accessor) (idx sub : Nat) : State :=
  match latchOf idx sub with
  | some b => put (put s idx sub 0) idx (b + 3) (watched s idx b)
  | none =>
    if idx = 0x2410 ∧ sub = 1 then
      (match (logEntries s acc).getLast? with
        | some e => setAcc s acc fun x => { x with cursor := (e.seq + 1) % 2 ^ 32 }
        | none => s)
    else if idx = 0x2420 ∧ sub = 1 then { s with log := { s.log with notices := [] } }
    else if sub ≠ 0 ∧ (writeRow idx sub).rc then
      (if 0x2100 ≤ idx ∧ idx < 0x2110 ∧ sub = 0x10 then put s idx sub (get s idx 0x0F * 65537)
      else if idx = 0x7010 then put s idx sub (get s 0x7010 1)
      else store s idx sub 0)
    else s

/-- A read: the state, the abort code, the octets. -/
def readDict (acc : Accessor) (idx sub : Nat) (s : State) : State × Nat × List Byte :=
  let c := readCode s acc idx sub
  let i := (viewOf idx).1
  if c ≠ 0 then (s, c, []) else (readEffect s acc i sub, 0, readData s acc (viewOf idx).2 i sub)

/-- A read by an accessor, answered. -/
def readCommand (acc : Accessor) (idx sub : Nat) (s : State) : State :=
  if answering s then
    let r := readDict acc idx sub s
    emit r.1 (.answer acc r.2.1 r.2.2)
  else s

end Sys2Proof.Machine
end

