-- ==== Sys2Proof/Machine/NetServe.lean ====
section
/-! DEFINITION. What the TZ640 does with received TDP frames: the receive queue, sessions, service of requests, segments, roll-call
answers, cyclic data (R112, R203 to R252). -/

namespace Sys2Proof

/-- The port and the partner number of a frame. -/
def FrameSrc.p (x : FrameSrc) : Nat := x.port.val
def FrameSrc.n (x : FrameSrc) : Nat := x.src.val

/-- The message type of a PDU (R208). -/
def Pdu.type : Pdu → Nat
  | .read _ _ _ => 1
  | .readResponse _ _ _ => 2
  | .writeExp _ _ _ _ => 3
  | .writeSeg _ _ _ _ => 3
  | .writeResponse _ _ _ => 4
  | .abort _ _ => 5
  | .segment _ _ _ _ => 6
  | .segAck _ _ => 7
  | .cyclicIn _ _ _ => 9
  | .rollcall _ _ _ _ => 0x0B
  | .rollcallAnswer _ _ _ => 0x0C
  | .sessionHello _ _ => 0x0E
  | .sessionClose _ => 0x0E

/-- The payload of a PDU (R209). The data of a READ RESPONSE are its value, its total length or its abort code. -/
def Pdu.payload : Pdu → List Byte
  | .read tid idx sub => Machine.leBytes 1 tid ++ [0] ++ Machine.leBytes 2 idx ++ Machine.leBytes 1 sub ++ [0]
  | .readResponse tid status d =>
    Machine.leBytes 1 tid ++ Machine.leBytes 1 status ++ (if status = 0 then Machine.leBytes 1 d.length else if status = 1 then [0] else []) ++ d
  | .writeExp tid idx sub d =>
    Machine.leBytes 1 tid ++ [0] ++ Machine.leBytes 2 idx ++ Machine.leBytes 1 sub ++ Machine.leBytes 1 d.length ++ d
  | .writeSeg tid idx sub total =>
    Machine.leBytes 1 tid ++ [1] ++ Machine.leBytes 2 idx ++ Machine.leBytes 1 sub ++ [0] ++ Machine.leBytes 4 total
  | .writeResponse tid status code => Machine.writeResponse tid status code
  | .abort tid code => Machine.abortPayload tid code
  | .segment tid last seq d => Machine.segmentPayload tid last seq d
  | .segAck tid seq => Machine.ackPayload tid seq
  | .cyclicIn m cycle d => Machine.leBytes 1 m ++ Machine.leBytes 1 cycle ++ d
  | .rollcall round base slots slotLen => Machine.rollcallPayload round base slots slotLen
  | .rollcallAnswer identity rev plca => Machine.leBytes 4 identity ++ Machine.leBytes 2 rev ++ Machine.leBytes 1 plca ++ [0]
  | .sessionHello slot nonce => [1] ++ Machine.leBytes 1 slot ++ nonce
  | .sessionClose slot => [3] ++ Machine.leBytes 1 slot ++ List.replicate 8 0

/-- Length of a PDU's payload in bytes (R209). -/
def Pdu.length (u : Pdu) : Nat := u.payload.length

/-- The TID of a request that the TZ640 answers as the responder (R211). -/
def Pdu.requestTid : Pdu → Option Nat
  | .read tid _ _ => some tid
  | .writeExp tid _ _ _ => some tid
  | .writeSeg tid _ _ _ => some tid
  | _ => none

/-- Whether a PDU asks for service: a request, or the hello of a session (R242). -/
def Pdu.asks : Pdu → Bool
  | .sessionHello _ _ => true
  | u => u.requestTid.isSome

/-- Whether a PDU opens a session. -/
def Pdu.isHello : Pdu → Bool
  | .sessionHello _ _ => true
  | _ => false

/-- Whether a PDU is one of the SESSION type (R208). -/
def Pdu.isSession : Pdu → Bool
  | .sessionHello _ _ => true
  | .sessionClose _ => true
  | _ => false

/-- Whether a PDU belongs to the cyclic phase. -/
def Pdu.cyclic : Pdu → Bool
  | .cyclicIn _ _ _ => true
  | _ => false

/-- Whether a PDU is a ROLLCALL ANSWER. -/
def Pdu.answersRollcall : Pdu → Bool
  | .rollcallAnswer _ _ _ => true
  | _ => false

end Sys2Proof

namespace Sys2Proof.Machine

/-! ## Requesters and accessors (R211, R247) -/

/-- Whether two frames come from one requester. -/
def sameRequester (a b : FrameSrc) : Bool := a.port == b.port && a.src == b.src && a.ip == b.ip && a.udpPort == b.udpPort

/-- The lowest partner whose record holds an IPv4 address (R247). -/
def partnerByIp (s : State) (ip : Nat) : Option Nat :=
  if ip = 0 then none
  else (s.dict.find? fun q => decide (0x6001 ≤ q.1 / 256 ∧ q.1 / 256 ≤ 0x67FE) && q.1 % 256 == 5 && q.2 == ip).map fun q => q.1 / 256 - 0x6000

/-- The accessor of a frame (R247); on an ETH uplink partner 0 is the line manager (R252). -/
def accessorOf (s : State) (x : FrameSrc) : Accessor :=
  if x.p ≠ 6 then .partner x.src
  else match (if x.auth.isSome then sessionAt s x.ip x.udpPort else none) with
    | some y => .session y.id
    | none =>
      if x.n = 0 ∧ uplink s = 6 then .partner x.src
      else match partnerByIp s x.ip with
        | some n => if h : n < 2048 then .partner ⟨n, h⟩ else .anon x.ip x.udpPort
        | none => .anon x.ip x.udpPort

/-- Whether the requests of an accessor are answered with ABORT 0x0105 by the partner's state (R223), or come under number 0 on a port
where the TZ640 is P0 itself. -/
def barred (s : State) (x : FrameSrc) (a : Accessor) : Bool :=
  !inTerp s && (match a with
    | .partner n =>
      if n.val = 0 then x.p != uplink s
      else match partnerState s n.val with
        | 0 => true | 1 => true | 3 => true | 7 => true | _ => false
    | _ => false)

/-! ## Sessions (R248 to R251) -/

/-- The record of a session changed. -/
def setSession (s : State) (id : Nat) (f : Session → Session) : State :=
  { s with net := { s.net with sessions := s.net.sessions.map fun y => if y.id = id then f y else y } }

/-- The trailer of an authenticated PDU (R249): the sequence, and the first 16 bytes of the HMAC over header, payload and sequence. -/
def authTrailer (key : List Byte) (type dst src seq : Nat) (payload : List Byte) : List Byte :=
  leBytes 4 seq ++ (hmac key (pduHeader type dst src payload.length true ++ payload ++ leBytes 4 seq)).take 16

/-- The destination that a received PDU names: everyone in round 1 of a roll-call, else the TZ640 (R227, R230). -/
def pduDst (s : State) (p : Nat) (u : Pdu) : Nat :=
  match u with
  | .rollcall 1 _ _ _ => 2047
  | _ => ownNumber s p

/-- Whether the trailer of a received PDU of a session is right and new (R249). -/
def authentic (s : State) (x : FrameSrc) (u : Pdu) (y : Session) (q : Nat) (tag : List Byte) : Bool :=
  leBytes 4 q ++ tag == authTrailer y.key u.type (pduDst s x.p u) x.n q u.payload && decide (y.inSeq < q)

/-- The authentication of a received PDU on ETH (R249, R251): dropped and counted, or taken. -/
def authGate (s : State) (x : FrameSrc) (u : Pdu) : State × Bool :=
  if x.p ≠ 6 then (s, true)
  else match sessionAt s x.ip x.udpPort, x.auth with
    | some y, some (q, tag) =>
      if authentic s x u y q tag then (setSession s y.id fun z => { z with inSeq := q }, true) else (authDrop s, false)
    | some _, none => (authDrop s, false)
    | none, some _ => (authDrop s, false)
    | none, none => if flag s 0x2700 0x20 && !u.isHello then (authDrop s, false) else (s, true)

/-- A session whose last accepted sequence is 0xFFFF_FFFF ends (R250). -/
def expireSession (s : State) (x : FrameSrc) : State :=
  match sessionAt s x.ip x.udpPort with
  | some y => if 0xFFFFFFFF ≤ y.inSeq then endSession s y.id else s
  | none => s

/-- A PDU of a session: it gets its sequence and its trailer (R249); the sequence 0xFFFF_FFFF ends the session (R250). -/
def sendSigned (s : State) (x : FrameSrc) (y : Session) (type : Nat) (payload : List Byte) : State :=
  let q := y.outSeq + 1
  let t := queueOut (setSession s y.id fun z => { z with outSeq := q }) 6
    { type := type, dst := x.n, payload := payload, peer := some (x.ip, x.udpPort),
      trailer := authTrailer y.key type x.n (ownNumber s 6) q payload }
  if 0xFFFFFFFF ≤ q then endSession t y.id else t

/-- A PDU to a peer. What belongs to a session that has ended is not sent any more (log 138). -/
def sendTo (s : State) (x : FrameSrc) (type : Nat) (payload : List Byte) : State :=
  if x.p ≠ 6 then sendAcyclic s x.p type x.n payload none
  else if x.auth.isNone then sendAcyclic s 6 type x.n payload (some (x.ip, x.udpPort))
  else match sessionAt s x.ip x.udpPort with
    | none => s
    | some y => sendSigned s x y type payload

/-! ## Partners -/

/-- A partner goes to a state: its stager's hold ends where it becomes ABSENT, LOST or CONFLICT (R78), and its loss acts (R225). -/
def partnerGoes (s : State) (n v : Nat) : State :=
  onPartner n (partnerTo (if v = 3 ∨ v = 4 ∨ v = 7 then partnerHoldEnds s n else s) n v)

/-- The state of the roll-call as 1100:07 shows it, from the rounds of its ports. -/
def rollcallState (s : State) : State :=
  if get s 0x1100 7 = 4 then s
  else put s 0x1100 7 (if (rollcallPorts s).any fun p => (port s p).round == 1 then 2 else 3)

/-- After a change of a port's round: the polls begin with the end of round 1 (R230). -/
def afterBlock (s : State) (p : Nat) : State :=
  rollcallState (if (port s p).round = 2 ∧ (port s p).polled.isNone then nextPoll s p else s)

/-- Round 1 begins on every port of the roll-call (R227). -/
def startRollcall (s : State) : State := forEach (rollcallPorts s) (fun t p => afterBlock (startBlock t p 0) p) s

/-! ## Transfers (R211 to R217) -/

/-- The transfer of a requester and TID in which the TZ640 takes segments, or sends them. -/
def takes (f : Transfer) : Bool := f.write != f.own
def transferOf (s : State) (x : FrameSrc) (tid : Nat) (taking : Bool) : Option Transfer :=
  s.net.transfers.find? fun f => sameRequester f.src x && f.tid == tid && f.segmented && takes f == taking

/-- A request of the TZ640's own to a partner. -/
def ownOf (s : State) (x : FrameSrc) (tid : Nat) (write : Bool) : Option Transfer :=
  s.net.transfers.find? fun f => f.own && f.src.src == x.src && f.src.port == x.port && f.tid == tid && f.write == write

/-- The transfers without those of a peer under a TID. -/
def dropTransfer (s : State) (x : FrameSrc) (tid : Nat) (own : Bool) : State :=
  { s with net := { s.net with transfers := s.net.transfers.filter fun f => !(sameRequester f.src x && f.tid == tid && f.own == own) } }

/-- A transfer in its new state. -/
def keepTransfer (s : State) (f : Transfer) : State :=
  let l := s.net.transfers.map fun g => if sameRequester g.src f.src && g.tid == f.tid && g.own == f.own then f else g
  { s with net := { s.net with transfers := l } }

/-- The data bytes of one segment towards a peer (R212), and how many segments the data take. -/
def segmentSize (s : State) (f : Transfer) : Nat := segMax f.src.p (classicalTo s f.src.p f.src.n)
def segmentCount (s : State) (f : Transfer) : Nat := max 1 (ceilDiv f.data.length (segmentSize s f))

/-- Segment k of a transfer is sent. -/
def sendSegment (s : State) (f : Transfer) (k : Nat) : State :=
  let z := segmentSize s f
  sendTo s f.src 6 (segmentPayload f.tid (k + 1 == segmentCount s f) (k % 65536) (slice f.data (k * z) z))

/-- The segments from k on, at most 16 ahead of the acknowledged ones (R213). -/
def sendBlock (s : State) (f : Transfer) (k : Nat) : State :=
  let last := min (segmentCount s f) (f.acked + 16)
  let t := ((List.range 16).map (· + k)).foldl (fun u j => if j < last then sendSegment u f j else u) s
  keepTransfer t { f with next := max last f.acked, repeated := false }

/-- Whether a frame that waits for airtime is the answer to another request of a requester than that of a TID. -/
def owesAnswer (x : FrameSrc) (tid : Nat) (o : Outgoing) : Bool :=
  answerType o.type && o.dst == x.n && o.payload.head? != some (BitVec.ofNat 8 tid) &&
    match o.peer with
    | some q => q.1 == x.ip && q.2 == x.udpPort
    | none => x.p != 6

/-- The outstanding transactions of a requester beside that of a TID (R215): segmented transfers, and answers that an airtime dike defers. -/
def openOf (s : State) (x : FrameSrc) (tid : Nat) : Nat :=
  let l := s.net.transfers.filter fun f => !f.own && sameRequester f.src x && f.tid != tid
  l.length + (((port s x.p).tx.filter fun o => owesAnswer x tid o && !(l.any fun f => o.payload.head? == some (BitVec.ofNat 8 f.tid))).length)

/-- The upper timeout of a port in ticks (R218). -/
def upperTicks (s : State) (p : Nat) : Nat := ticksMs (get s (portIdx p) 6)

/-- An answer is sent and kept for a repeat of its request (R216). -/
def answer (s : State) (x : FrameSrc) (tid : Nat) (req : Pdu) (type : Nat) (payload : List Byte) : State :=
  let keep := s.net.cache.filter fun c =>
    decide (s.time - c.at_ ≤ upperTicks s c.src.p) && !(sameRequester c.src x && c.tid == tid)
  let c : Cached := { src := { x with auth := none }, tid := tid, request := req, type := type, payload := payload, at_ := s.time }
  sendTo { s with net := { s.net with cache := c :: keep } } x type payload

/-- The kept answer to a request that repeats requester, TID and payload within the port's upper timeout (R216). -/
def cachedAnswer (s : State) (x : FrameSrc) (tid : Nat) (req : Pdu) : Option Cached :=
  s.net.cache.find? fun c => sameRequester c.src x && c.tid == tid && c.request == req && decide (s.time - c.at_ ≤ upperTicks s x.p)

/-- The requests that a partner has been served are counted (6000+n:0A). -/
def countServed (s : State) (a : Accessor) : State :=
  match a with
  | .partner n => bump s (partnerIdx n.val) 0x0A
  | _ => s

/-! ## Requests -/

/-- READ (R209, R212, R213, R217): expedited, segmented or an abort. -/
def serveRead (s : State) (x : FrameSrc) (tid idx sub : Nat) (req : Pdu) : State :=
  let a := accessorOf s x
  let r := readDict a idx sub s
  let t := countServed r.1 a
  if r.2.1 ≠ 0 then answer t x tid req 2 (readAbort tid r.2.1)
  else if r.2.2.length ≤ expRead x.p (classicalTo s x.p x.n) then answer t x tid req 2 (readExpedited tid r.2.2)
  else
    let f : Transfer := { src := x, tid := tid, write := false, idx := idx, sub := sub, total := r.2.2.length, data := r.2.2 }
    let t := answer t x tid req 2 (readSegmented tid r.2.2.length)
    sendBlock { t with net := { t.net with transfers := f :: t.net.transfers } } f 0

/-- The answer to a write (R209): done, or an abort. -/
def writeAnswer (tid code : Nat) : List Byte := if code = 0 then writeResponse tid 0 0 else writeResponse tid 2 code

/-- WRITE in mode 0. -/
def serveWrite (s : State) (x : FrameSrc) (tid idx sub : Nat) (d : List Byte) (req : Pdu) : State :=
  let a := accessorOf s x
  let r := writeDict a idx sub d s
  answer (countServed r.1 a) x tid req 4 (writeAnswer tid r.2)

/-- The objectMax value of an object in bytes (R214). -/
def objectMax (idx sub : Nat) : Nat :=
  let r := writeRow (viewOf idx).1 sub
  if r.ty == .str || r.ty == .blob then maxLength r else r.ty.size

/-- Why a segmented write is refused at its start (R214): its name and reach, a total length above the object's maximum. -/
def startCode (s : State) (a : Accessor) (idx sub total : Nat) : Nat :=
  let c := reachCode s a true idx sub
  if c ≠ 0 then c else if total ≠ 0xFFFFFFFF ∧ objectMax idx sub < total then 0x0202 else 0

/-- WRITE in mode 1. -/
def serveWriteSeg (s : State) (x : FrameSrc) (tid idx sub total : Nat) (req : Pdu) : State :=
  let a := accessorOf s x
  let c := startCode s a idx sub total
  if c ≠ 0 then answer (countServed s a) x tid req 4 (writeResponse tid 2 c)
  else
    let f : Transfer := { src := x, tid := tid, write := true, idx := idx, sub := sub, total := total, data := [] }
    answer { s with net := { s.net with transfers := f :: s.net.transfers } } x tid req 4 (writeResponse tid 1 0)

/-- A request before which `ahead` others of its requester waited: its repeat, the refusal of its partner's state, the fifth transaction or a full
transmit queue, or its service (R215, R216, R223, R243). -/
def request (s : State) (x : FrameSrc) (ahead tid : Nat) (req : Pdu) (serve : State → State) : State :=
  match cachedAnswer s x tid req with
  | some c => sendTo s x c.type c.payload
  | none =>
    if barred s x (accessorOf s x) then answer s x tid req 5 (abortPayload tid 0x0105)
    else if 4 ≤ ahead + openOf s x tid ∨ txFull s x.p then answer s x tid req 5 (abortPayload tid 0x0704)
    else serve (dropTransfer s x tid false)

/-! ## Segments -/

/-- The acknowledgement of the highest segment in order (R213): before the first one, sequence 65,535 stands for none. -/
def ackOf (f : Transfer) : List Byte := ackPayload f.tid ((f.next + 65535) % 65536)

/-- A complete transfer of segments to the TZ640: a write takes effect, a read of its own has ended (R57, R214). -/
def finishTaking (s : State) (f : Transfer) (short : Bool) : State :=
  let t := dropTransfer s f.src f.tid f.own
  if f.own then serveDropOwn t f
  else
    let a := accessorOf t f.src
    let r := if short then (t, 0x0201) else writeDict a f.idx f.sub f.data t
    sendTo (countServed r.1 a) f.src 4 (writeAnswer f.tid r.2)
where
  /-- The answer to a request of the TZ640's own is complete: a lower retry has passed (R555). -/
  serveDropOwn (t : State) (f : Transfer) : State := servePass t .tdpRequest f.src.n 4 (partnerIdx f.src.n) 0x0B

/-- A segment in order (R213, R214). -/
def takeSegment (s : State) (f : Transfer) (last : Bool) (d : List Byte) : State :=
  let g : Transfer := { f with data := f.data ++ d, next := f.next + 1 }
  let limit := if f.total = 0xFFFFFFFF then objectMax f.idx f.sub else f.total
  if limit < g.data.length then
    sendTo (dropTransfer s f.src f.tid f.own) f.src (if last && !f.own then 4 else 5)
      (if last && !f.own then writeResponse f.tid 2 0x0202 else abortPayload f.tid 0x0202)
  else
    let t := keepTransfer s g
    let t := if g.next % 16 = 0 ∨ last then sendTo t g.src 7 (ackOf g) else t
    if last then finishTaking t g (f.total != 0xFFFFFFFF && decide (g.data.length < f.total)) else t

/-- SEGMENT (R213): out of order it is discarded, and the highest segment in order is acknowledged. -/
def serveSegment (s : State) (x : FrameSrc) (tid : Nat) (last : Bool) (seq : Nat) (d : List Byte) : State :=
  match transferOf s x tid true with
  | none => s
  | some f => if seq = f.next % 65536 then takeSegment s f last d else sendTo s x 7 (ackOf f)

/-- An answer that belongs to no open request has come too late (R221). -/
def lateAnswer (s : State) (x : FrameSrc) : State := sat s (portIdx x.p) 0x13

/-- SEGMENT ACK (R213, R221): the next block, or the end of the transfer; one for a transfer that has ended is a late answer. -/
def serveAck (s : State) (x : FrameSrc) (tid seq : Nat) : State :=
  match transferOf s x tid false with
  | none => lateAnswer s x
  | some f =>
    let d := (seq + 1 + 65536 - f.acked % 65536) % 65536
    if f.next < f.acked + d then s
    else
      let g : Transfer := { f with acked := f.acked + d }
      let t := if g.repeated then servePass s .tdpRequest x.n 4 (partnerIdx x.n) 0x0B else s
      if segmentCount s g ≤ g.acked ∧ !g.own then dropTransfer t f.src tid false
      else sendBlock t g g.acked

/-- ABORT (R209): the named transaction ends. -/
def serveAbort (s : State) (x : FrameSrc) (tid : Nat) : State := dropTransfer (dropTransfer s x tid false) x tid true

/-- READ RESPONSE to a request of the TZ640's own (R211, R213, R221). -/
def serveReadResponse (s : State) (x : FrameSrc) (tid status : Nat) (d : List Byte) : State :=
  match ownOf s x tid false with
  | none => lateAnswer s x
  | some f =>
    let t := servePass s .tdpRequest x.n 4 (partnerIdx x.n) 0x0B
    if status = 1 then keepTransfer t { f with segmented := true, total := ofLe d } else dropTransfer t f.src tid true

/-- WRITE RESPONSE to a request of the TZ640's own. -/
def serveWriteResponse (s : State) (x : FrameSrc) (tid status : Nat) : State :=
  match ownOf s x tid true with
  | none => lateAnswer s x
  | some f =>
    let t := servePass s .tdpRequest x.n 4 (partnerIdx x.n) 0x0B
    if status = 1 then sendBlock t { f with segmented := true } 0 else dropTransfer t f.src tid true

/-! ## Cyclic data (R237, R238) -/

/-- The entries of a map written in order from the octets received; an entry that fails is skipped and counted. -/
def writeEntries (s : State) (a : Accessor) : List Nat → List Byte → State
  | [], _ => s
  | e :: l, d =>
    let n := entrySize e
    let r := if d.length < n then (s, 0x0201) else writeDict a (entryIdx e) (entrySub e) (d.take n) s
    writeEntries (if r.2 = 0 then r.1 else sat r.1 0x1100 0x0D) a l (d.drop n)

/-- CYCLIC IN (R237, R238) on a managed port (R252): from a PRESENT partner, or from a LOST one that thereby is PRESENT again. Misses are counted
for the partner, so a frame of any of its maps ends their run (DEDUCED, log 136). -/
def serveCyclic (s : State) (x : FrameSrc) (m : Nat) (d : List Byte) : State :=
  let st := partnerState s x.n
  let c := cycleMaps s
  if (mapsInUse c).contains m && managed s x.p then
    if mapIn c m && mapPartner c m == x.n && (st == 2 || st == 4) then
      let t := { s with net := { s.net with inSeen := m :: s.net.inSeen, misses := tabSet s.net.misses x.n 0 } }
      let t := if st = 4 then noticeAlone (partnerGoes t x.n 2) (partnerIdx x.n) 1 clsNotice else t
      writeEntries t (accessorOf t x) (mapEntries c m) d
    else s
  else s

/-! ## Roll-call answers (R224, R229, R230, R252) -/

/-- Whether partner n has answered on port p in a collection of answers that still runs (R229). -/
def answeredNow (s : State) (p n : Nat) : Bool := (port s p).answered.any fun q => q.1 == n && decide (s.time ≤ q.2)

/-- The answer of partner n on port p is classified. Two answers are those of one collection of answers (DEDUCED, log 135). -/
def classify (s : State) (p n identity plca : Nat) : State :=
  let t := put (put s (partnerIdx n) 4 identity) (partnerIdx n) 0x0E plca
  if partnerState s n = 7 then t
  else if answeredNow s p n then partnerGoes t n 7
  else if get s (partnerIdx n) 2 ≠ p then partnerGoes t n 6
  else if identityOk s n identity then partnerGoes t n 2 else partnerGoes t n 5

/-- An answer in a running collection is remembered until the collection ends. -/
def rememberAnswer (s : State) (p n : Nat) : State :=
  if s.time ≤ (port s p).window then
    setPort s p fun y => { y with answered := (n, y.window) :: y.answered.filter fun q => q.1 != n && decide (s.time ≤ q.2) }
  else s

/-- The poll of port p has ended: in round 2 the next one follows, later an idle partner that waits for its poll (R230, R245). -/
def pollOver (s : State) (p : Nat) : State :=
  let t := setPort s p fun y => { y with polled := none }
  if (port t p).round = 2 then rollcallState (nextPoll t p) else pollIdle t p

/-- ROLLCALL ANSWER on a managed port: it is classified and remembered, and a poll that it answers has ended. TERP has no roll-call (R254). -/
def serveAnswer (s : State) (x : FrameSrc) (identity plca : Nat) : State :=
  if !managed s x.p ∨ x.n = 0 ∨ x.n = 2047 ∨ inTerp s then s
  else
    let t := rememberAnswer (classify s x.p x.n identity plca) x.p x.n
    if (port s x.p).polled ≠ some x.n then t
    else pollOver (servePass t .partnerIdle x.n 4 (partnerIdx x.n) 1) x.p

/-- What the TZ640 reports of itself: identity, dictionary revision, PLCA node ID (R209). -/
def ownAnswer (s : State) (p : Nat) : List Byte :=
  leBytes 4 (Config.vendorId % 65536 * 65536 + Config.productCode % 65536) ++ leBytes 2 1 ++
    leBytes 1 (if p = 4 ∨ p = 5 then get s (portIdx p) 4 else 0) ++ [0]

/-- Kick-off step 15 ends with roll-call complete (R104, R107, R230). -/
def rollcallDone (s : State) : State := finishKickoff (put (put s 0x1100 7 4) 0x1100 8 (pressTime s))

/-- ROLLCALL of the line manager on the uplink (R252): answered in the own slot. In the node-only role the answer ends kick-off step 15 (R107). -/
def serveRollcall (s : State) (x : FrameSrc) (base slots : Nat) : State :=
  let n := get s 0x1100 3
  if x.p = uplink s ∧ x.n = 0 ∧ base ≤ n ∧ n < base + slots then
    let t := sendTo s x 0x0C (ownAnswer s x.p)
    if nodeOnly t ∧ t.md.mode = .kickoff ∧ kickStep t = 14 then rollcallDone t else t
  else s

/-- SESSION close (R250). -/
def serveClose (s : State) (x : FrameSrc) : State :=
  match sessionAt s x.ip x.udpPort with
  | some y => endSession s y.id
  | none => s

/-- SESSION hello (R248): nonce, key, accept. An unused slot, or a ninth session, drops the hello; a peer's hello replaces its own session. -/
def serveHello (s : State) (x : FrameSrc) (slot : Nat) (nonce : List Byte) : State :=
  let key := getBlob s 0x2700 (0x21 + slot)
  let others := s.net.sessions.filter fun y => !(y.ip == x.ip && y.udpPort == x.udpPort)
  if 4 ≤ slot ∨ get s 0x2700 (0x25 + slot) = 0 ∨ key.isEmpty ∨ 8 ≤ others.length then authDrop s
  else
    let s := match sessionAt s x.ip x.udpPort with
      | some y => endSession s y.id
      | none => s
    let nt := leBytes 8 (Config.nonce s.fresh)
    let y : Session := { id := s.net.nextSession, slot := slot, ip := x.ip, udpPort := x.udpPort,
                         key := hmac key (ascii "TDP1" ++ nonce ++ nt) }
    let t := { s with fresh := s.fresh + 1, net := { s.net with sessions := y :: s.net.sessions, nextSession := s.net.nextSession + 1 } }
    sendAcyclic t 6 0x0E x.n ([2] ++ leBytes 1 slot ++ nt) (some (x.ip, x.udpPort))

/-! ## Service in arrival order -/

/-- The service of one PDU, before which `ahead` requests of its requester waited. -/
def servePdu (s : State) (x : FrameSrc) (ahead : Nat) (u : Pdu) : State :=
  match u with
  | .read tid idx sub => request s x ahead tid u fun t => serveRead t x tid idx sub u
  | .writeExp tid idx sub d => request s x ahead tid u fun t => serveWrite t x tid idx sub d u
  | .writeSeg tid idx sub total => request s x ahead tid u fun t => serveWriteSeg t x tid idx sub total u
  | .segment tid last seq d => serveSegment s x tid last seq d
  | .segAck tid seq => serveAck s x tid seq
  | .abort tid _ => serveAbort s x tid
  | .readResponse tid status d => serveReadResponse s x tid status d
  | .writeResponse tid status _ => serveWriteResponse s x tid status
  | .cyclicIn m _ d => serveCyclic s x m d
  | .rollcallAnswer identity _ plca => serveAnswer s x identity plca
  | .rollcall _ base slots _ => serveRollcall s x base slots
  | .sessionHello slot nonce => serveHello s x slot nonce
  | .sessionClose _ => serveClose s x

/-- Whether the mode and the step let received frames be served: not before roll-call begins (R112), not in DOZE (R254). -/
def serves (s : State) : Bool :=
  match s.md.mode with
  | .kickoff => decide (14 ≤ get s 0x2020 1)
  | .doze => false | .shutdown => false
  | _ => true

/-- One frame is served: authentication, service, end of an exhausted session. -/
def serveOne (s : State) (x : FrameSrc) (ahead : Nat) (u : Pdu) : State :=
  let g := authGate s x u
  if g.2 then expireSession (servePdu g.1 x ahead u) x else g.1

/-- Whether the service of a frame waits for its partner's credit (R242): a request of one that has overrun, and whose credit is not positive again. -/
def waits (s : State) (x : FrameSrc) (u : Pdu) : Bool := u.asks && dikeOn s x.p && s.net.owing.contains x.n

/-- The requests of a frame's requester that stand in a queue under other TIDs (R215). -/
def aheadOf (q : List (FrameSrc × Pdu)) (y : FrameSrc × Pdu) : Nat :=
  (q.filter fun z => sameRequester z.1 y.1 && z.2.requestTid.isSome && z.2.requestTid != y.2.requestTid).length

/-- Serves frames in order; `before` are those that came before them. -/
def serveQueue : List (FrameSrc × Pdu) → List (FrameSrc × Pdu) → State → State
  | _, [], s => s
  | before, y :: l, s => serveQueue (y :: before) l (serveOne s y.1 (aheadOf before y) y.2)

/-- The queued frames of port p are served in arrival order; requests of a partner whose credit is exhausted stay (R112, R242). -/
def drainRx (s : State) (p : Nat) : State :=
  if !serves s || !portLive s p then s
  else
    let q := (port s p).rx
    serveQueue [] (q.filter fun y => !waits s y.1 y.2) (setRx s p (q.filter fun y => waits s y.1 y.2))

/-- Every queue is served. -/
def drainAll (s : State) : State := forEach (List.range 7) drainRx s

/-- What is kept of a frame's sender: classical frames on an FD port (R204), the time it was heard, its place in the poll order (R232). -/
def heard (s : State) (x : FrameSrc) (answer : Bool) : State :=
  let t := bump s (portIdx x.p) 0x10
  let t := if x.p < 4 then setPort t x.p fun y =>
    { y with classical := if x.classical then (if y.classical.contains x.n then y.classical else x.n :: y.classical)
                          else y.classical.filter fun k => k != x.n } else t
  let t := if x.n = 0 ∧ x.p = 6 ∧ uplink t = 6 then { t with net := { t.net with lineAt := some (x.ip, x.udpPort) } } else t
  if x.n = 0 ∨ 2047 ≤ x.n then t
  else
    let t := put t (partnerIdx x.n) 9 (pressTime t)
    if !answer ∧ (partnerState s x.n = 1 ∨ partnerState s x.n = 3) then pollFirst t x.n else t

/-- The airtime of a received frame in ns (R239), with the 20 bytes of a trailer (R249). -/
def receivedNs (s : State) (x : FrameSrc) (u : Pdu) : Nat :=
  airtime s x.p (decide (x.p < 4) && x.classical) (u.length + if x.auth.isSome then 20 else 0)

/-- A received acyclic frame is debited; beyond credit and pool it is an overrun (R241, R242). -/
def debitReceived (s : State) (x : FrameSrc) (u : Pdu) : State :=
  let ns := receivedNs s x u
  if !dikeOn s x.p then s
  else if overruns s x.p x.n ns then
    let t := sat s (partnerIdx x.n) 0x0D
    let t := { t with net := { t.net with owing := if t.net.owing.contains x.n then t.net.owing else x.n :: t.net.owing } }
    if shareOf s x.n = 0 then debit t x.p x.n ns
    else { t with net := { t.net with credit := tabSet t.net.credit x.n (creditOf t x.n - ns) } }
  else debit s x.p x.n ns

/-- Whether a received frame keeps its carrier and its layout (R209, R210, R212): else it is discarded. The data of CYCLIC IN are those of
its map; on CAN FD they may be padded to the next DLC size (R206). A WRITE of mode 1 is longer than a classical frame (log 139). -/
def fits (s : State) (x : FrameSrc) (u : Pdu) : Bool :=
  let cl := classicalPort s x.p || decide (x.p < 4) && x.classical
  (x.auth.isNone || x.p == 6) && decide (u.length ≤ payloadMax x.p cl) &&
    match u with
    | .writeExp _ _ _ d => decide (d.length ≤ expWrite x.p cl)
    | .readResponse _ status d => if status = 0 then decide (d.length ≤ expRead x.p cl) else d.length == (if status = 1 then 4 else 2)
    | .segment _ last _ d => decide (d.length ≤ segMax x.p cl) && (last || !d.isEmpty)
    | .cyclicIn m _ _ =>
      let l := 2 + mapBytes (cycleMaps s) m
      !(mapsInUse (cycleMaps s)).contains m || decide (u.length ≤ if x.p < 4 ∧ !cl then dlcSize l else l)
    | .rollcall round _ slots _ => (round == 1 || round == 2) && decide (1 ≤ slots ∧ slots ≤ 2046)
    | .sessionHello _ _ => x.p == 6
    | .sessionClose _ => x.p == 6
    | _ => true

/-- Between kick-off step 12 and the roll-call broadcast a CAN port acknowledges what it receives (R112). -/
def acknowledgeCan (s : State) (p : Nat) : State :=
  if p < 4 ∧ s.md.mode = .kickoff ∧ get s 0x2020 1 < 14 then emit s (.canAck p) else s

/-- A frame is discarded and counted, without an answer (R203, R210). -/
def discardFrame (s : State) (p : Nat) : State := sat (bump (acknowledgeCan s p) (portIdx p) 0x10) (portIdx p) 0x18

/-- A TDP frame is received (R112, R210, R242, R243, R254): into the receive queue, which is then served; in DOZE it wakes the TZ640. -/
def receive (s : State) (x : FrameSrc) (u : Pdu) : State :=
  if !portLive s x.p then s
  else if !fits s x u then discardFrame s x.p
  else
    let t := heard (acknowledgeCan s x.p) x u.answersRollcall
    let t := if u.cyclic then t else debitReceived t x u
    let q := (port t x.p).rx
    if 256 ≤ q.length then sat t (portIdx x.p) 0x12
    else
      let t := setRx t x.p (q ++ [(x, u)])
      if t.md.mode = .doze then beginWake t 5 else drainRx t x.p

end Sys2Proof.Machine
end

