-- ==== Sys2Proof/Machine/Dictionary.lean ====
section
/-! DEFINITION. The commands that are reads and writes of the dictionary, and the stagers' and Patron's own events (01 to 17). -/

namespace Sys2Proof.Machine

/-- OBJECT_WRITE (R60). -/
def execObjectWrite (acc : Accessor) (idx sub : Nat) (data : List Byte) (s : State) : Host.Outcome State Fault Refusal :=
  done (writeCommand acc idx sub data s)

/-- THRESHOLD_WRITE (R86, R607). -/
def execThresholdWrite (acc : Accessor) (idx sub : Nat) (data : List Byte) (s : State) : Host.Outcome State Fault Refusal :=
  done (writeCommand acc idx sub data s)

/-- WATERMARK_LATCH_READ (R87). -/
def execWatermarkLatchRead (acc : Accessor) (idx sub : Nat) (s : State) : Host.Outcome State Fault Refusal :=
  done (readCommand acc idx sub s)

/-- READ_TO_CLEAR (R61). -/
def execReadToClear (acc : Accessor) (idx sub : Nat) (s : State) : Host.Outcome State Fault Refusal :=
  done (readCommand acc idx sub s)

/-- APPLY: a write to 2700:01 (R66). -/
def execApply (acc : Accessor) (data : List Byte) (s : State) : Host.Outcome State Fault Refusal :=
  done (writeCommand acc 0x2700 1 data s)

/-- DISCARD_STAGING: a write to 2700:02 (R77). -/
def execDiscardStaging (acc : Accessor) (data : List Byte) (s : State) : Host.Outcome State Fault Refusal :=
  done (writeCommand acc 0x2700 2 data s)

/-- DEFERRED_GROUP_TAKE (R72, R73): an armed station group at its station's boundary. Group 13 waits for its relock (R75). -/
def execDeferredGroupTake (g : Fin 21) (s : State) : Host.Outcome State Fault Refusal :=
  if s.armed.contains g.val && decide (1 ≤ g.val ∧ g.val ≤ 12) && atBoundary s (groupStation g.val) then done (takeArmed s g.val) else done s

/-- ANONYMOUS_ACCESSOR_TIMEOUT (R78). -/
def execAnonymousAccessorTimeout (ip port : Nat) (s : State) : Host.Outcome State Fault Refusal :=
  done (dropAcc (releaseStager s (.anon ip port)) (.anon ip port))

/-- PATRON_HEARTBEAT (R90, R139): on CAN0 in the Patron profile, when enabled, from the roll-call broadcast on; TERP has none (R254). -/
def execPatronHeartbeat (s : State) : Host.Outcome State Fault Refusal :=
  if patron s && flag s 0x4100 1 && portLive s 0 && !inTerp s && (s.md.mode != .kickoff || decide (14 ≤ get s 0x2020 1)) then
    done (wrapBy 8 (emit (bump s (portIdx 0) 0x11) (.heartbeat (get s 0x4100 2) (leBytes 1 (get s 0x4100 3) ++ leBytes 1 (modeCode s.md.mode)))) 0x4100 3 1)
  else done s

/-- TERP_RESTART: a write to 2040:02 (R135). -/
def execTerpRestart (acc : Accessor) (data : List Byte) (s : State) : Host.Outcome State Fault Refusal :=
  done (writeCommand acc 0x2040 2 data s)

/-- OWNER_KEY_WRITE: a write to 2710:02 (R138). -/
def execOwnerKeyWrite (acc : Accessor) (data : List Byte) (s : State) : Host.Outcome State Fault Refusal :=
  done (writeCommand acc 0x2710 2 data s)

/-- MODE_REQUEST: a write to 2000:02 (R39). -/
def execModeRequest (acc : Accessor) (data : List Byte) (s : State) : Host.Outcome State Fault Refusal :=
  done (writeCommand acc 0x2000 2 data s)

/-- SAFESTOP_ACKNOWLEDGE: a write to 2000:0B (R45). -/
def execSafestopAcknowledge (acc : Accessor) (data : List Byte) (s : State) : Host.Outcome State Fault Refusal :=
  done (writeCommand acc 0x2000 0x0B data s)

/-- ADMISSION_ENABLE: a write to 2000:0C (R22). -/
def execAdmissionEnable (acc : Accessor) (data : List Byte) (s : State) : Host.Outcome State Fault Refusal :=
  done (writeCommand acc 0x2000 0x0C data s)

/-- RELOCK: a write to 2200:02 (R180). -/
def execRelock (acc : Accessor) (data : List Byte) (s : State) : Host.Outcome State Fault Refusal :=
  done (writeCommand acc 0x2200 2 data s)

/-- PORT_CONFIG_WRITE: a write to an object of port p (R231). -/
def execPortConfigWrite (acc : Accessor) (p : Fin 7) (sub : Nat) (data : List Byte) (s : State) : Host.Outcome State Fault Refusal :=
  done (writeCommand acc (portIdx p.val) sub data s)

/-- PARTNER_PORT_WRITE: a write to 6000+n:02 (R231, R233). -/
def execPartnerPortWrite (acc : Accessor) (n : Fin 2048) (data : List Byte) (s : State) : Host.Outcome State Fault Refusal :=
  done (writeCommand acc (partnerIdx n.val) 2 data s)

/-- KEY_SLOT_WRITE: a write to 2700:21 to :28 (R250). -/
def execKeySlotWrite (acc : Accessor) (sub : Nat) (data : List Byte) (s : State) : Host.Outcome State Fault Refusal :=
  done (writeCommand acc 0x2700 sub data s)

/-- TENANT_RESET_WRITE: a write to 5000+n:03 (R280). -/
def execTenantResetWrite (acc : Accessor) (t : Fin 64) (data : List Byte) (s : State) : Host.Outcome State Fault Refusal :=
  done (writeCommand acc (tenIdx t.val) 3 data s)

/-- TENANT_ENABLE: a write to 5000+n:02 (R286). -/
def execTenantEnable (acc : Accessor) (t : Fin 64) (data : List Byte) (s : State) : Host.Outcome State Fault Refusal :=
  done (writeCommand acc (tenIdx t.val) 2 data s)

/-- TENANT_DISABLE: a write to 5000+n:02 (R286, R281). -/
def execTenantDisable (acc : Accessor) (t : Fin 64) (data : List Byte) (s : State) : Host.Outcome State Fault Refusal :=
  done (writeCommand acc (tenIdx t.val) 2 data s)

/-- LINK_RETRAIN: a write to 3014+20h·n:02 (R391). -/
def execLinkRetrain (acc : Accessor) (st : Fin 6) (data : List Byte) (s : State) : Host.Outcome State Fault Refusal :=
  done (writeCommand acc (linkIdx st.val) 2 data s)

/-- SERVICE_APC_WINDOW: a service light write of kind 0 (R405). -/
def execServiceApcWindow (acc : Accessor) (st : Fin 6) (data : List Byte) (s : State) : Host.Outcome State Fault Refusal :=
  done (writeCommand acc (linkIdx st.val) 9 data s)

/-- SERVICE_BD_WINDOWS_START: a service light write of kind 1 with a duration (R405). -/
def execServiceBdWindowsStart (acc : Accessor) (st : Fin 6) (data : List Byte) (s : State) : Host.Outcome State Fault Refusal :=
  done (writeCommand acc (linkIdx st.val) 9 data s)

/-- SERVICE_BD_WINDOWS_STOP: a service light write of kind 1 with duration 0 (R405). -/
def execServiceBdWindowsStop (acc : Accessor) (st : Fin 6) (data : List Byte) (s : State) : Host.Outcome State Fault Refusal :=
  done (writeCommand acc (linkIdx st.val) 9 data s)

/-- SERVICE_WINDOW: a service light write of kind 2 (R405). -/
def execServiceWindow (acc : Accessor) (st : Fin 6) (data : List Byte) (s : State) : Host.Outcome State Fault Refusal :=
  done (writeCommand acc (linkIdx st.val) 9 data s)

/-- POST_EVENT: a write to 2523:01 (R433). -/
def execPostEvent (acc : Accessor) (data : List Byte) (s : State) : Host.Outcome State Fault Refusal :=
  done (writeCommand acc 0x2523 1 data s)

/-- CANCEL_BY_TAG: a write to 2523:02 (R418). -/
def execCancelByTag (acc : Accessor) (data : List Byte) (s : State) : Host.Outcome State Fault Refusal :=
  done (writeCommand acc 0x2523 2 data s)

/-- SPEED_COMMAND: a write to 4800+m:18 (R456). -/
def execSpeedCommand (acc : Accessor) (m : Fin 12) (data : List Byte) (s : State) : Host.Outcome State Fault Refusal :=
  done (writeCommand acc (motIdx m.val) 0x18 data s)

/-- AXIS_MOVE_COMMAND: a write to 4900+a:38 (R477). -/
def execAxisMoveCommand (acc : Accessor) (a : Fin 16) (data : List Byte) (s : State) : Host.Outcome State Fault Refusal :=
  done (writeCommand acc (axIdx a.val) 0x38 data s)

/-- GROUP_MOVE_COMMAND: a write to 4900+a:38 with bit 4 set (R477, R479). -/
def execGroupMoveCommand (acc : Accessor) (a : Fin 16) (data : List Byte) (s : State) : Host.Outcome State Fault Refusal :=
  done (writeCommand acc (axIdx a.val) 0x38 data s)

/-- AXIS_RAMPED_STOP_COMMAND: a write of 1 to 4900+a:39 (R487, R489). -/
def execAxisRampedStopCommand (acc : Accessor) (a : Fin 16) (data : List Byte) (s : State) : Host.Outcome State Fault Refusal :=
  done (writeCommand acc (axIdx a.val) 0x39 data s)

/-- AXIS_HARD_STOP_COMMAND: a write of 2 to 4900+a:39 (R487, R489). -/
def execAxisHardStopCommand (acc : Accessor) (a : Fin 16) (data : List Byte) (s : State) : Host.Outcome State Fault Refusal :=
  done (writeCommand acc (axIdx a.val) 0x39 data s)

/-- AXIS_RESUME: a write to 4900+a:3A (R488). -/
def execAxisResume (acc : Accessor) (a : Fin 16) (data : List Byte) (s : State) : Host.Outcome State Fault Refusal :=
  done (writeCommand acc (axIdx a.val) 0x3A data s)

/-- AXIS_HOME: a write to 4900+a:3B (R482). -/
def execAxisHome (acc : Accessor) (a : Fin 16) (data : List Byte) (s : State) : Host.Outcome State Fault Refusal :=
  done (writeCommand acc (axIdx a.val) 0x3B data s)

/-- AXIS_ENABLE: a write to 4900+a:3C (R472). -/
def execAxisEnable (acc : Accessor) (a : Fin 16) (data : List Byte) (s : State) : Host.Outcome State Fault Refusal :=
  done (writeCommand acc (axIdx a.val) 0x3C data s)

/-- LOOP_ON_COMMAND: a write of 1 to 3900+n:21 (R533). -/
def execLoopOnCommand (acc : Accessor) (n : Fin 48) (data : List Byte) (s : State) : Host.Outcome State Fault Refusal :=
  done (writeCommand acc (loopIdx n.val) 0x21 data s)

/-- LOOP_OFF_COMMAND: a write of 0 to 3900+n:21 (R533). -/
def execLoopOffCommand (acc : Accessor) (n : Fin 48) (data : List Byte) (s : State) : Host.Outcome State Fault Refusal :=
  done (writeCommand acc (loopIdx n.val) 0x21 data s)

/-- BANK_WRITE: a write to 3900+n:20 (R517, R518). -/
def execBankWrite (acc : Accessor) (n : Fin 48) (data : List Byte) (s : State) : Host.Outcome State Fault Refusal :=
  done (writeCommand acc (loopIdx n.val) 0x20 data s)

/-- INJECTION_START: a write of 1 to 7000:06 (R530). -/
def execInjectionStart (acc : Accessor) (data : List Byte) (s : State) : Host.Outcome State Fault Refusal :=
  done (writeCommand acc 0x7000 6 data s)

/-- INJECTION_STOP: a write of 0 to 7000:06 (R530). -/
def execInjectionStop (acc : Accessor) (data : List Byte) (s : State) : Host.Outcome State Fault Refusal :=
  done (writeCommand acc 0x7000 6 data s)

/-- CAPTURE_ARM: a write to 7000:13 (R531). -/
def execCaptureArm (acc : Accessor) (data : List Byte) (s : State) : Host.Outcome State Fault Refusal :=
  done (writeCommand acc 0x7000 0x13 data s)

/-- CAPTURE_TRIGGER_WRITE: a write to 7000:14 (R531). -/
def execCaptureTriggerWrite (acc : Accessor) (data : List Byte) (s : State) : Host.Outcome State Fault Refusal :=
  done (writeCommand acc 0x7000 0x14 data s)

/-- PIN_LOCK: a write to 2600+p:07 (R548). -/
def execPinLock (acc : Accessor) (p : Fin 96) (data : List Byte) (s : State) : Host.Outcome State Fault Refusal :=
  done (writeCommand acc (pinIdx p.val) 7 data s)

/-- LOCK_ALL: a write to 2660:01 (R548). -/
def execLockAll (acc : Accessor) (data : List Byte) (s : State) : Host.Outcome State Fault Refusal :=
  done (writeCommand acc 0x2660 1 data s)

/-- LOG_READ: a read of 2410:01 (R571). -/
def execLogRead (acc : Accessor) (s : State) : Host.Outcome State Fault Refusal :=
  done (readCommand acc 0x2410 1 s)

/-- NOTICE_READ: a read of 2420:01 (R578). -/
def execNoticeRead (acc : Accessor) (s : State) : Host.Outcome State Fault Refusal :=
  done (readCommand acc 0x2420 1 s)

end Sys2Proof.Machine
end

