-- ==== Sys2Proof/Machine/Scheduler.lean ====
section
/-! DEFINITION. The commands of the scheduler: IMAGE events, the other events of the slots, encoder edges and windows (12_scheduler.md). -/

namespace Sys2Proof.Machine

/-! ## IMAGE events (R25, R358, R420) -/

/-- A sheet becomes COMMITTED at its sluice (R25, R268, R413): its tracker entries are placed on their teeth. -/
def commitSheet (s : State) (uid : Nat) : State :=
  let s := match sheetOf s uid with
    | some sh => { s with mem := { s.mem with lastI0 := some sh.i0, lastPeriod := sheetPeriod s sh.lines } }
    | none => s
  resolveEvents (modSheet s uid fun sh => { sh with state := .committed, sluice := s.time }) uid

/-- A station begins to image a sheet at its IMAGE event, from a tooth on (R306, R358, R426). -/
def beginImage (s : State) (st uid tooth : Nat) : State :=
  let cut := match sheetOf s uid with
    | some sh => sh.cut.testBit st
    | none => false
  setStation (modSheet s uid fun sh => { sh with fired := setBit sh.fired st }) st fun x =>
    { x with imaging := some uid, fromTooth := tooth, nextScan := 0, scan := none, cutNow := cut }

/-- Whether the last fixed tooth of station st is a COAST tooth. -/
def lastCoast (s : State) (st : Nat) : Bool :=
  match (tracker s st).teeth with
  | t :: _ => t.coast
  | [] => false

/-- An IMAGE event fires on a tooth of its station: it is marked with the tooth's COAST flag, and on a candidate with the tooth that may still be
re-timed (R424, R426); the first one commits the sheet (R25, R31). -/
def fireImage (s : State) (k : Nat) (e : Event) (uid : Nat) (d : Due) : State :=
  let coast := d.coast
  let n := get s (trkIdx e.target) 7
  let f : Event := { e with status := 8 + 2 * ofBool coast, ref := e.target, tooth := (if d.candidate then n + 1 else n) % 2 ^ 32,
                            lateness := if coast then (s.time : Int) - d.time else 0 }
  let t := { s with slots := tabSet s.slots k f }
  let t := if coast then modSheet t uid fun sh => sh.mark fun x => { x with mistimed := true } else t
  let t := flagEvent (bump t 0x2521 1) f
  let t := match sheetOf t uid with
    | some sh => if sh.committed && sh.fired != 0 then t else commitSheet t uid
    | none => t
  beginImage t e.target uid f.tooth

/-- An IMAGE event that has already passed (R420): the first one withdraws the sheet, a later one spills the station. -/
def lateImage (s : State) (k : Nat) (e : Event) (sh : Sheet) : State :=
  if sh.committed then
    let t := { s with slots := tabSet s.slots k { e with status := 9 } }
    spillHere (beginImage t e.target sh.uid (get s (trkIdx e.target) 7)) e.target sh.uid
  else sat (withdrawForced s sh.uid) 0x2521 0x0A

/-- The IMAGE event of a slot and its sheet, still to fire. -/
def imageEvent (s : State) (k : Nat) : Option (Event × Sheet) :=
  match tabFind s.slots k with
  | some e =>
    if e.code = 1 ∧ !e.fired then (match e.uid with
      | some u => (sheetOf s u).map fun sh => (e, sh)
      | none => none) else none
  | none => none

/-- IMAGE (R25, R358, R420, R426): fires on a tooth of a station that is TRACKING; `late` says that its time had passed when it was fixed. -/
def execImage (slot : Fin 640) (late : Bool) (s : State) : Host.Outcome State Fault Refusal :=
  match imageEvent s slot.val with
  | some p =>
    if late then (if p.1.time ≤ s.time + 16 then done (lateImage s slot.val p.1 p.2) else done s)
    else match eventDue s p.1 with
      | some d =>
        if modeFires s p.1 ∧ d.time ≤ firingTime s ∧ tracking s p.1.target ∧ !outranked s slot.val p.1 then done (fireImage s slot.val p.1 p.2.uid d)
        else done s
      | none => done s
  | none => done s

/-! ## MECH, HV and LOG events -/

/-- AXIS_MOVE, action 0x10 (R477). -/
def execAxisMove (slot : Fin 1024) (s : State) : Host.Outcome State Fault Refusal := done (fireSlot s slot.val 0x10 false)

/-- AXIS_RAMPED_STOP, action 0x11 (R489). -/
def execAxisRampedStop (slot : Fin 1024) (s : State) : Host.Outcome State Fault Refusal := done (fireSlot s slot.val 0x11 false)

/-- MOTOR_SPEED, action 0x12 (R456). -/
def execMotorSpeed (slot : Fin 1024) (s : State) : Host.Outcome State Fault Refusal := done (fireSlot s slot.val 0x12 false)

/-- PIN_SET, action 0x13 (R538). -/
def execPinSet (slot : Fin 1024) (s : State) : Host.Outcome State Fault Refusal := done (fireSlot s slot.val 0x13 false)

/-- Whether a pin has shown a level within `back` ticks (R409). Its levels come newest first, each with the ticks since it began; one held until
the level `newer` ticks old began. -/
def shownWithin (back : Nat) (want : Bool) : Nat → List (Nat × Bool) → Bool
  | _, [] => false
  | newer, (age, level) :: rest => (level == want && decide (newer ≤ back)) || shownWithin back want age rest

/-- Whether the arrival check of slot k passes (R408, R409): bit 0 of its parameter is the expected level, bits [7:1] the look-back in ms; where no
history of the pin is given, its synchronised level counts (R545). -/
def arrivalSeen (s : State) (k : Nat) (levels : List (Nat × Bool)) : Bool :=
  match tabFind s.slots k with
  | none => false
  | some e => shownWithin (ticksMs (e.param / 2 % 128)) (e.param.testBit 0) 0
      (if levels.isEmpty then [(0, syncLevel s e.target == 1)] else levels)

/-- ARRIVAL_CHECK, action 0x14 (R409), with the levels that the pin has shown. -/
def execArrivalCheck (slot : Fin 1024) (levels : List (Nat × Bool)) (s : State) : Host.Outcome State Fault Refusal :=
  done (fireSlot s slot.val 0x14 (arrivalSeen s slot.val levels))

/-- LOOP_SET_POINT_BANK, action 0x20 (R514). -/
def execLoopSetPointBank (slot : Fin 1024) (s : State) : Host.Outcome State Fault Refusal := done (fireSlot s slot.val 0x20 false)

/-- LOOP_ON, action 0x21 (R516). -/
def execLoopOn (slot : Fin 1024) (s : State) : Host.Outcome State Fault Refusal := done (fireSlot s slot.val 0x21 false)

/-- LOOP_OFF, action 0x22 (R533). -/
def execLoopOff (slot : Fin 1024) (s : State) : Host.Outcome State Fault Refusal := done (fireSlot s slot.val 0x22 false)

/-- SHEET_EXIT, action 0x40 (R410). -/
def execSheetExit (slot : Fin 1024) (s : State) : Host.Outcome State Fault Refusal := done (fireSlot s slot.val 0x40 false)

/-- LOG_MARK, action 0x41 (R408). -/
def execLogMark (slot : Fin 1024) (s : State) : Host.Outcome State Fault Refusal := done (fireSlot s slot.val 0x41 false)

/-- CAPTURE_TRIGGER, action 0x42 (R531). -/
def execCaptureTrigger (slot : Fin 1024) (s : State) : Host.Outcome State Fault Refusal := done (fireSlot s slot.val 0x42 false)

/-! ## Encoder trackers (R427 to R432) -/

/-- The time of the last accepted edge of tracker k: the newest edge of an acquisition, or the last tooth with an edge. The candidate of an
open window does not blank a second edge of that window, which is NOISE_DOUBLE (R348 and the worked case on the belt). -/
def lastAccepted (s : State) (k : Nat) : Option Nat :=
  let x := tracker s k
  match x.acq with
  | .collecting (a :: _) => some a
  | _ => (x.teeth.find? fun y => !y.coast).map (·.time)

/-- Whether an edge comes less than 61 µs after the last accepted one (R427). -/
def blanked (s : State) (k t : Nat) : Bool :=
  match lastAccepted s k with
  | some a => decide (t < a + 1464000)
  | none => false

/-- An edge of tracker k that takes edges (R348, R352): acquisition, or the window of the next tooth. -/
def takeEdge (s : State) (k t : Nat) : State :=
  match (tracker s k).acq with
  | .collecting l => collectEdge s k t l
  | _ =>
    let old := (tracker s k).cand
    let r := windowEdge s k t
    if r.2 then mistime r.1 k (old.getD 0) t else r.1

/-- Whether tracker k has a window to close. -/
def hasWindow (s : State) (k : Nat) : Bool :=
  match (tracker s k).acq with
  | .collecting _ => false
  | .following _ => true
  | .idle => (tracker s k).state == 2

/-- Admission held for a relock in READY goes on when every present BD tracker is TRACKING again (R181). -/
def releaseHold (s : State) : State :=
  if s.clk.admissionHold && (stationsPresent s).all (tracking s) then { s with clk := { s.clk with admissionHold := false } } else s

/-- After the close of a BD window: the APC window of a TRACKING tracker's facet and the BD window of the next one (R385, R386). -/
def afterBdWindow (s : State) (n : Nat) : State :=
  let t := if (tracker s n).state = 2 then apcWindow s n (tracker s n).tLast else s
  releaseHold (if hasWindow t n then bdWindow t n else t)

/-- The window of tracker k closes (R348): what follows a double fault of LOST, the posted events that fired on the candidate, and for
a BD tracker the next light windows. -/
def closeTracker (s : State) (k : Nat) : State :=
  let t := freeFired (onDouble (closeWindow s k))
  if k < 6 then afterBdWindow t k else t

/-- The windows that close before an edge at t, in order; at most f of them (R348). -/
def closeBefore (k t : Nat) : Nat → State → State
  | 0, s => s
  | f + 1, s =>
    match (tracker s k).acq with
    | .collecting _ => s
    | _ =>
      if (tracker s k).state = 0 ∨ (tracker s k).state = 3 then s
      else if predicted s k + windowOf s k < t then
        closeBefore k t f (closeTracker s k)
      else s

/-- An edge of a tracker: acquisition begins where it may, windows that have passed close first (R348, R352, R427). -/
def edgeOf (s : State) (k t : Nat) : State :=
  let st := (tracker s k).state
  let s := if (st = 0 ∨ st = 3) ∧ mayAcquire s k then beginAcquire s k else s
  if (tracker s k).state = 0 ∨ (tracker s k).state = 3 then s
  else
    let u := closeBefore k t 17 s
    if (tracker u k).state = 0 ∨ (tracker u k).state = 3 then u else takeEdge u k t

/-- Whether an edge of an encoder input is one that 2500+k:31 selects (R427): 0 rising, 1 falling, 2 both. -/
def edgeSelected (s : State) (k : Nat) (rising : Bool) : Bool :=
  match get s (trkIdx k) 0x31 with
  | 0 => rising
  | 1 => !rising
  | _ => true

/-- ENCODER_EDGE (R427): an edge of TT6 to TT17 at a time in phases; an input in conflict has none (R544). -/
def execEncoderEdge (tt : Fin 12) (e : ToothEdge) (s : State) : Host.Outcome State Fault Refusal :=
  let k := 6 + tt.val
  if !trackerLit s k || !edgeSelected s k e.rising || inConflict s (0x2000 + k) then done s
  else if blanked s k e.t then done (trackerCount s k 8)
  else done (edgeOf s k e.t)

/-- ENCODER_WINDOW_CLOSE (R348, R430, R431). A standstill of the motion source holds the tracker off instead of losing it (R429). -/
def execEncoderWindowClose (tt : Fin 12) (s : State) : Host.Outcome State Fault Refusal :=
  let k := 6 + tt.val
  if !(trackerLit s k && hasWindow s k) then done s
  else if sourceStill s k && (tracker s k).cand.isNone then done (holdOff s k)
  else done (closeTracker s k)

end Sys2Proof.Machine
end

