-- ==== Sys2Proof/Machine/Dram.lean ====
section
/-! DEFINITION. Reads of DRAM that meet errors: correction, the re-read, what each reader does after a double fault, and the words of the
reservoir (R292 to R294, R317 to R319). -/

namespace Sys2Proof.Machine

/-- Whether the DRAM runs and can be read (R290, R291). -/
def dramRuns (s : State) : Bool :=
  s.mem.trained && !s.mem.selfRefresh && (match s.md.mode with
    | .terp => false
    | .shutdown => !s.md.offStarted
    | _ => true)

/-- What the check bits say of a code word: it is clean, it is corrected, or it is uncorrectable (R292, R317). -/
inductive Ecc where
  | clean | corrected | bad
deriving DecidableEq, Repr

/-- A code word with so many wrong bits: one is corrected, two are detected. -/
def eccOf (wrong : Nat) : Ecc := if wrong = 0 then .clean else if wrong = 1 then .corrected else .bad

/-- The worse of two. -/
def Ecc.join : Ecc → Ecc → Ecc
  | .bad, _ => .bad
  | _, .bad => .bad
  | .clean, e => e
  | .corrected, _ => .corrected

/-- A beat (R292): one wrong bit in a half is corrected, two in one half are detected, and a beat from the wrong address is uncorrectable. -/
def beatEcc (e : BeatErrors) : Ecc := if e.moved then .bad else (eccOf e.low.length).join (eccOf e.high.length)

/-- The code of a reader, its row of R294 (R566). -/
def readerCode : DramReader → Nat
  | .decoder _ => 0
  | .ingest _ => 1
  | .patrol => 2
  | .firmware => 3

/-- The number of a reader among the second serves: its row and, in the low byte, its instance, 255 for none. -/
def readerInst (r : DramReader) : Nat :=
  256 * readerCode r + match r with
    | .decoder st => st.val
    | .ingest tn => tn.val
    | .patrol => 255
    | .firmware => 255

/-- The second failure of a read by its reader (R294): counted, its address recorded, then the reader's row of the table. -/
def dramDouble (s : State) (r : DramReader) (addr : Nat) : State :=
  let t := sat (put s 0x2310 4 addr) 0x2310 3
  let fault := doubleFaultAs clsFault t .dramRead (readerInst r) (readerCode r) 6 0x2310 4
  match r with
  | .decoder st => match (station fault st.val).decUid with
    | some uid => planeLost fault st.val uid
    | none => fault
  | .ingest tn => tenantReset fault tn.val 4
  | .patrol => fault
  | .firmware => safestopBy (doubleFault t .dramRead (readerInst r) 3 6 0x2310 4) 7 (causeInst .dramRead (readerInst r))

/-- A corrected beat is counted (R293); patrol scrub writes it back. -/
def beatCorrected (s : State) (r : DramReader) (addr : Nat) : State :=
  let t := satBy 32 s 0x2310 1 1
  match r with
  | .patrol => emit t (.dramWrite addr)
  | _ => t

/-- A beat that is used: counted when it was corrected. -/
def beatUsed (s : State) (r : DramReader) (addr : Nat) (e : Ecc) : State := if e = .corrected then beatCorrected s r addr else s

/-- A reader reads a beat (R292 to R294); true tells that the beat can be used. -/
def dramRead (s : State) (r : DramReader) (b : BeatRead) : State × Bool :=
  let e := beatEcc b.first
  if e ≠ .bad then (beatUsed s r b.addr e, true)
  else
    let t := serveBegin s .dramRead (readerInst r) (readerCode r) 6 0x2310 2
    let f := beatEcc b.again
    if f ≠ .bad then (beatUsed (servePass (sat t 0x2310 2) .dramRead (readerInst r) 6 0x2310 2) r b.addr f, true)
    else (dramDouble t r b.addr, false)

/-- The beats in which a reader meets errors, in order, up to the first that it cannot use. -/
def dramReads (r : DramReader) : List BeatRead → State → State × Bool
  | [], s => (s, true)
  | b :: l, s =>
    let q := dramRead s r b
    if q.2 then dramReads r l q.1 else q

/-- A word of the input buffer of a decoder (R317, R319): corrected and counted, or its beat fetched again; true tells that it can be used. A
fetch that is uncorrectable too ends as a second failure of R294. -/
def inputWord (s : State) (st : Fin 6) (w : InputWord) : State × Bool :=
  let n := st.val
  match eccOf w.bits.length with
  | .clean => (s, true)
  | .corrected => (satBy 32 s (resIdx n) 1 1, true)
  | .bad =>
    let t := serveBegin (sat s (resIdx n) 9) .inputBuffer n 0 7 (resIdx n) 9
    let e := beatEcc w.refetch.first
    if e = .bad then (serveDrop t .inputBuffer n, false)
    else (beatUsed (servePass t .inputBuffer n 7 (resIdx n) 9) (.decoder st) w.refetch.addr e, true)

/-- The words of the input buffer in order; the first that cannot be had ends them. -/
def inputWords (st : Fin 6) : List InputWord → State → State × Option InputWord
  | [], s => (s, none)
  | w :: l, s =>
    let q := inputWord s st w
    if q.2 then inputWords st l q.1 else (q.1, some w)

/-- A word of a station FIFO that a scan reads (R317, R318): corrected and counted; or read once more as second serve, and then a WARN entry. True
tells that its pixels are sent. -/
def fifoWord (s : State) (n : Nat) (w : FifoWord) : State × Bool :=
  match eccOf w.first.length with
  | .clean => (s, true)
  | .corrected => (satBy 32 s (resIdx n) 1 1, true)
  | .bad =>
    if eccOf w.again.length = .bad then
      (doubleFaultAs clsWarn (sat (serveBegin s .fifoWord n 0 7 (resIdx n) 3) (resIdx n) 3) .fifoWord n 0 7 (resIdx n) 3, false)
    else
      let t := servePass (serveBegin (sat s (resIdx n) 2) .fifoWord n 0 7 (resIdx n) 2) .fifoWord n 7 (resIdx n) 2
      (if eccOf w.again.length = .corrected then satBy 32 t (resIdx n) 1 1 else t, true)

/-- The words that a scan reads, in order: the state, and the line and number of each word that is lost. -/
def readWords (n : Nat) : List FifoWord → State → State × List (Nat × Nat)
  | [], s => (s, [])
  | w :: l, s =>
    let q := fifoWord s n w
    let r := readWords n l q.1
    (r.1, if q.2 then r.2 else (w.line, w.word) :: r.2)

end Sys2Proof.Machine
end

