-- ==== Sys2Proof/Machine/Raster.lean ====
section
/-! DEFINITION. The commands of the decoders, the station FIFOs and the scans (09_raster.md, 11_beam_link.md). -/

namespace Sys2Proof.Machine

/-- The modes in which decoders and FIFOs run (R343). -/
def rasterMode (s : State) : Bool :=
  match s.md.mode with
  | .ready => true | .rally => true | .runout => true | _ => false

/-! ## Decoder -/

/-- DECODER_PLANE_START (R330): the next plane, from the start of its reservation window on. -/
def execDecoderPlaneStart (st : Fin 6) (s : State) : Host.Outcome State Fault Refusal :=
  if rasterMode s && (station s st.val).decUid.isNone then
    (match nextPlane s st.val with
      | some sh => if tabGet 0 sh.winAt st.val ≤ s.time then done (startPlane s st.val sh) else done s
      | none => done s)
  else done s

/-- The lines of a band enter the station (R330, R333), and with them the begun line after which the plane stops. -/
def bandLinesIn (s : State) (n uid : Nat) (b : Band) : State :=
  let first := (station s n).decLine
  let new := b.lines.mapIdx fun i l => ({ uid := uid, line := first + i, bytes := l } : RasterLine)
  let t := wrapBy 64 s (decIdx n) 4 b.lines.length
  let rest := if b.rest.isEmpty then (station s n).tail else some { uid := uid, line := first + b.lines.length, bytes := b.rest }
  setStation t n fun x => { x with backlog := x.backlog ++ new, decLine := first + b.lines.length, tail := rest }

/-- The band at which a decoder stands, as far as its bytes can be had (R329, R319). -/
def nextBand (s : State) (n : Nat) (sh : Sheet) (cut : Option Nat) : Band :=
  let x := station s n
  decodeBand ((tabGet [] sh.data n).drop x.decPos) sh.lines x.decBand (lineBytes sh.pixels sh.depth) (sh.planes.getD n {}).worst cut

/-- A band of the plane has been read from DRAM: checked and decoded (R322 to R332). -/
def decodeNext (s : State) (n : Nat) (sh : Sheet) : State :=
  let x := station s n
  let b := nextBand s n sh none
  let t := bandLinesIn s n sh.uid b
  if b.code ≠ 0 then refill (decodeError t n sh.uid b.code) n
  else
    let t := setStation t n fun y => { y with decPos := x.decPos + b.used, decBand := x.decBand + 1 }
    let t := put t (decIdx n) 6 (x.decBand + 1)
    refill (if (station t n).decLine < sh.lines then t else planeDone t n sh.uid 0) n

/-- The band ends at a word that the input buffer has lost for good (R319): what comes before it is delivered, then the second failure of R294. -/
def decodeCut (s : State) (st : Fin 6) (sh : Sheet) (w : InputWord) : State :=
  let t := bandLinesIn s st.val sh.uid (nextBand s st.val sh (some w.at_))
  refill (dramDouble t (.decoder st) w.refetch.addr) st.val

/-- A band read under the fence (R274, R294, R319): `reads` are the beats that met errors on the way from DRAM, `words` the words of the input
buffer that did. -/
def readBand (s : State) (st : Fin 6) (sh : Sheet) (reads : List BeatRead) (words : List InputWord) : State :=
  let q := dramReads (.decoder st) reads s
  if q.2 then
    let r := inputWords st words q.1
    match r.2 with
    | none => decodeNext r.1 st.val sh
    | some w => decodeCut r.1 st sh w
  else q.1

/-- BAND_DECODE (R329, R319, R274): `unit` is the polder unit that the decoder reads from. -/
def execBandDecode (st : Fin 6) (unit : Nat) (reads : List BeatRead) (words : List InputWord) (s : State) : Host.Outcome State Fault Refusal :=
  let n := st.val
  if !rasterMode s || !(station s n).backlog.isEmpty then done s
  else match (station s n).decUid with
    | none => done s
    | some uid => match sheetOf s uid with
      | none => done (dropPlane s n 0)
      | some sh =>
        if !(tenant s sh.tenant).units.contains unit then done (fenceViolation s sh.tenant)
        else done (readBand s st sh reads words)

/-- What a pointer mismatch classifies as (R321): the reset is the second serve, a second mismatch within 1 s the double fault. -/
def pointerServe (s : State) (n : Nat) : State :=
  if servedWithin s .pointers n (ticksS 1) then safestop (doubleFault s .pointers n 0 7 (resIdx n) 4) 7
  else servePass (serveBegin s .pointers n 0 7 (resIdx n) 4) .pointers n 7 (resIdx n) 4

/-- One copy of a FIFO pointer reads as v: the write or the read pointer, the true or the inverted copy (R320). -/
def pointerReads (x : Station) (write inv : Bool) (v : Nat) : Station :=
  if write then (if inv then { x with wrNot := v } else { x with wr := v }) else if inv then { x with rdNot := v } else { x with rd := v }

/-- The answer to a pointer mismatch (R320): counted and logged; the COMMITTED sheets with data in the FIFO or imaging on the station spill, and
their planes are not decoded again; the FIFO is empty; the ADMITTED sheets are decoded from band 0. -/
def pointerFault (s : State) (n : Nat) : State :=
  let t := logEvent (sat s (resIdx n) 4) clsFault 7 n (resIdx n) 4
  let ids := dataUids t n
  let img := (station t n).imaging
  let struck (sh : Sheet) : Bool := sh.committed && (ids.contains sh.uid || img == some sh.uid)
  let t := emptyFifo (spillWhere t struck (some n)) n
  let redo (sh : Sheet) : Sheet :=
    if struck sh then { sh with decoded := setBit sh.decoded n } else if sh.admitted then { sh with decoded := clrBit sh.decoded n } else sh
  let t := { t with sheets := t.sheets.map redo }
  match (station t n).decUid with
  | some uid => if (sheetOf t uid).any (fun sh => sh.admitted || sh.decoded.testBit n) then dropPlane t n 0 else t
  | none => t

/-- POINTER_MISMATCH (R320, R321): at a station clock a copy of a pointer reads as v; it acts when the copies then disagree. -/
def execPointerMismatch (copy : PointerCopy) (s : State) : Host.Outcome State Fault Refusal :=
  let n := copy.st.val
  let t := setStation s n fun x => pointerReads x copy.write copy.inverted copy.v
  if !present s n || (station t n).pointersAgree then done s else done (pointerServe (pointerFault t n) n)

/-! ## Scans -/

/-- The first line index beyond scan j with its offsets, and the end of scan j. -/
def scanNeeds (s : State) (n j : Nat) : Nat := beams s n * (j + 1) + maxOffset s n

/-- How a scan goes out: blank or with data, its uncorrectable words, whether its lines are flagged whatever its tooth. -/
structure ScanForm where
  blank : Bool
  lost : List (Nat × Nat) := []
  flag : Bool := false
  /-- A tooth that is a COAST flags the lines (R351); on a station without a plane nothing is flagged (R342). -/
  coasts : Bool := true
deriving DecidableEq, Repr

/-- A scan starts: LINE START blocks for every beam, its sequence, its count (R357, R378); its lines are flagged once (R31). -/
def beginScan (s : State) (n uid : Nat) (g : ScanForm) : State :=
  let x := station s n
  let f := get s (trkIdx n) 5
  let coast := lastCoast s n
  let flagged := g.flag || coast && g.coasts
  let t := sendControl s n ((List.range (beams s n)).map fun b => lineStart s n b f (lineStartAt s n b f (tracker s n).tLast) x.scanSeq)
  let t := setStation (bump t (linkCnt n) 6) n fun y =>
    { y with scan := some { uid := uid, index := y.nextScan, facet := f, coast := coast, blank := g.blank, zeroWord := g.lost, flagged := flagged } }
  let t := if coast && g.coasts then satBy 32 t (trkIdx n) 0x0C (beams s n) else t
  updateFreeboard (if flagged then flagLines t n uid else t) n

/-- A scan of a station with data (R318, R338, R339): it starts, or it is blanked and the station spills. -/
def startScan (s : State) (n : Nat) (sh : Sheet) (d held : Nat) (words : List FifoWord) : State :=
  let j := (station s n).nextScan
  if scanReady s n sh (scanNeeds s n j) || cutThrough s n sh (scanNeeds s n j) d held then
    let r := readWords n words s
    beginScan r.1 n sh.uid { blank := false, lost := r.2, flag := !r.2.isEmpty }
  else spillHere (beginScan (sat s (resIdx n) 5) n sh.uid { blank := true, flag := true }) n sh.uid

/-- What falls due at a scan boundary of a station (R33, R332): the spill that another station or a held error has asked for. -/
def atScanBoundary (s : State) (n uid : Nat) : State :=
  match sheetOf s uid with
  | none => s
  | some sh =>
    if sh.held.testBit n then spillHere (modSheet s uid fun x => { x with held := clrBit x.held n }) n uid
    else if sh.spillDue.testBit n then spillNow s n uid
    else s

/-- SCAN_START (R338, R342, R358): the next scan of the sheet imaging on the station, at the last fixed tooth; not while driver registers are to be
read back (R390). -/
def execScanStart (st : Fin 6) (lastLineBytes inputHeld : Nat) (words : List FifoWord) (s : State) : Host.Outcome State Fault Refusal :=
  let n := st.val
  if (station s n).regsDue then done s
  else match (station s n).imaging, (station s n).scan with
  | some uid, none =>
    let t := atScanBoundary s n uid
    (match sheetOf t uid with
      | none => done t
      | some sh =>
        if follows 32 (get t (trkIdx n) 7) (station t n).fromTooth then done s
        else if !sh.hasPlane n || sh.spilled.testBit n then done (beginScan t n uid { blank := true, coasts := sh.hasPlane n })
        else done (startScan t n sh lastLineBytes inputHeld words))
  | _, _ => done s

/-- SCAN_UNDERRUN (R340): zero words from a pixel to the end of the scan; the station spills. -/
def execScanUnderrun (st : Fin 6) (pixel : Nat) (s : State) : Host.Outcome State Fault Refusal :=
  let n := st.val
  match (station s n).scan with
  | none => done s
  | some c =>
    if c.blank then done s
    else
      let t := setStation s n fun x => { x with scan := some { c with zeroFrom := some pixel, flagged := true } }
      done (spillSheet (sat (if c.flagged then t else flagLines t n c.uid) (resIdx n) 6) c.uid (some n))

/-- Whether every word of a beam's line is the zero pulse word (R378: BLANK). -/
def beamDark (s : State) (n : Nat) (c : Scan) (b : Nat) : Bool :=
  match sheetOf s c.uid with
  | some sh => c.blank || (List.range (pixelsPerLine s n)).all fun p => (pixelWords s n sh c p).getD b 0 == 0
  | none => true

/-- The words and blocks of a scan that ends (R378, R380, R381). -/
def sendScan (s : State) (n : Nat) (c : Scan) : State :=
  let seq := (station s n).scanSeq
  let words := match sheetOf s c.uid with
    | some sh => pixelStream s n sh c
    | none => List.replicate (pixelsPerLine s n * beams s n) 0
  releaseLights (sendControl (sendPixels s n seq words) n
    ((List.range (beams s n)).map fun b => lineEnd b c.facet seq (pixelsPerLine s n) (beamDark s n c b))) n

/-- SCAN_END (R335): the words have gone out, the scan's lines leave the FIFO, and after the last scan the station has imaged the sheet. -/
def execScanEnd (st : Fin 6) (s : State) : Host.Outcome State Fault Refusal :=
  let n := st.val
  match (station s n).scan with
  | none => done s
  | some c =>
    let lines := match sheetOf s c.uid with
      | some sh => sh.lines
      | none => 0
    let last := decide (scansOf lines (beams s n) ≤ c.index + 1)
    let t := sendScan s n c
    let t := setStation t n fun x =>
      { x.keepLines (fifoWords s n) (fun r => r.uid != c.uid || (!last && decide (beams s n * (c.index + 1) ≤ r.line))) with
        scan := none, lastScan := if c.flagged then none else some (c.uid, s.time), nextScan := c.index + 1, scanSeq := (x.scanSeq + 1) % 65536 }
    let t := atScanBoundary t n c.uid
    let t := if last then setStation (modSheet t c.uid fun sh => { sh with imaged := setBit sh.imaged n }) n fun x => { x with imaging := none, cutNow := false } else t
    done (refill t n)

end Sys2Proof.Machine
end

