-- ==== Sys2Proof/Machine/Scan.lean ====
section
/-! DEFINITION. The commands of the BD trackers and of the registration loop (10_scan_registration.md). -/

namespace Sys2Proof.Machine

/-- Whether the rising edge of the BD inputs is the active one (R101: STRAP6, LVDS or LVCMOS, rising or falling). -/
def bdRising (s : State) : Bool := strap s 6 % 2 == 0

/-- BD_EDGE (R101, R348, R352): an edge of the BD input of station st at a time in phases; the edge that STRAP6 does not select is none, and a
tracker held off takes none (R371). -/
def execBdEdge (st : Fin 6) (e : ToothEdge) (s : State) : Host.Outcome State Fault Refusal :=
  if trackerLit s st.val && e.rising == bdRising s then done (edgeOf s st.val e.t) else done s

/-- BD_WINDOW_CLOSE (R348, R350, R385, R386). -/
def execBdWindowClose (st : Fin 6) (s : State) : Host.Outcome State Fault Refusal :=
  if trackerLit s st.val && hasWindow s st.val then done (closeTracker s st.val) else done s

/-- The firmware arms group 7 + n (R370); with no sheet ADMITTED or COMMITTED the group takes effect at once (R73). -/
def armRegistration (s : State) (n : Nat) : State :=
  let t := stageRegistration s n
  if t.armed.contains (7 + n) && !anyOnPath t then takeArmed t (7 + n) else t

/-- PATCH_MEASUREMENT (R366 to R371): the chevrons of a patch. In RALLY gap patches are enabled by 3800:08, and a correction may arm;
RUNOUT measures and does not arm. -/
def execPatchMeasurement (st : Fin 6) (marks : List Chevron) (s : State) : Host.Outcome State Fault Refusal :=
  let n := st.val
  if !present s n then done s
  else match s.md.mode with
    | .calibrate => done (keepPatch s n marks)
    | .rally =>
      if flag s 0x3800 8 then
        let t := keepPatch s n marks
        done (if rallyArms t n then armRegistration t n else t)
      else done s
    | .runout => done (keepPatch s n marks)
    | _ => done s

end Sys2Proof.Machine
end

