-- ==== Sys2Proof/Machine/ModeCommands.lean ====
section
/-! DEFINITION. The commands by which modes are left and entered without a write (01_sheet_and_modes.md, R165, R493, R561, R612, R613). -/

namespace Sys2Proof.Machine

/-! ## Conditions of WARMUP's end (R612) -/

/-- A fuser zone with a law stands at its set-point. -/
def fuserReady (s : State) (n : Nat) : Bool :=
  let l := loop s n
  let band := get s (loopIdx n) 5
  law s n == 0 || (l.state == 2 && decide (l.sp - (band % 65536 : Nat) ≤ l.x ∧ l.x ≤ l.sp + (band / 65536 : Nat)))

/-- An HV or general loop with a law is past soft-start. -/
def hvReady (s : State) (n : Nat) : Bool := law s n == 0 || !loopPresent s n || (loop s n).state == 2

/-- A drive motor in use is at speed, or off when commanded to 0. -/
def driveReady (s : State) (m : Nat) : Bool :=
  let x := motor s m
  waveform s m == 0 ||
    (if x.target = 0 then motorState s m == 0
    else decide (x.rampFor ≤ s.time - x.rampAt) && withinPerMille 5 x.target (getS s 32 (motIdx m) 0x31))

/-- All of R612 holds at once. -/
def warmedUp (s : State) : Bool :=
  [26, 27].all (fuserReady s) && hvLoops.all (hvReady s) && (stationsPresent s).all (fun m => motorState s m == 5) &&
    (List.range 6).all fun k => driveReady s (k + 6)

/-- WARMUP_COMPLETE (R44, R612). -/
def execWarmupComplete (s : State) : Host.Outcome State Fault Refusal :=
  if s.md.mode == .warmup && warmedUp s then done (enterMode s .ready 2) else done s

/-- WARMUP_LIMIT_EXPIRY (R44): the warm-up limit is exceeded; FAULT. -/
def execWarmupLimitExpiry (s : State) : Host.Outcome State Fault Refusal :=
  if s.md.mode == .warmup then done (enterMode (logEvent s clsFault 0x0F 255 0x2000 8) .standby 0x0B) else done s

/-! ## Idle times (R44, R613) -/

/-- STANDBY_IDLE_EXPIRY: no sheet PENDING, RESIDENT or ADMITTED; a time of 0 never elapses. -/
def execStandbyIdleExpiry (s : State) : Host.Outcome State Fault Refusal :=
  if s.md.mode == .standby && !s.md.dozing && s.md.pending.isNone && get s 0x2000 0x0A != 0 && !(s.sheets.any (·.queued)) then done (beginDoze s 4)
  else done s

/-- READY_IDLE_EXPIRY: no sheet RESIDENT or ADMITTED; a time of 0 never elapses. -/
def execReadyIdleExpiry (s : State) : Host.Outcome State Fault Refusal :=
  if s.md.mode == .ready && s.md.pending.isNone && get s 0x2000 9 != 0 && !(s.sheets.any fun sh => sh.resident || sh.admitted) then
    done (enterMode s .standby 4)
  else done s

/-! ## DOZE (R165, R493, R494, R616) -/

/-- An axis whose align move has not ended when DOZE is entered stops where it stands and is no longer HOMED (R493: at most 100 ms). -/
def endAlign (s : State) (a : Nat) : State :=
  if (axis s a).aligning then
    setAxis (setHomed (toStandstill (freeze s a) a) a false) a fun x => { x with aligning := false, aligned := false }
  else s

/-- DOZE_ENTER (R165, R493). -/
def execDozeEnter (s : State) : Host.Outcome State Fault Refusal :=
  if s.md.dozing && s.md.mode == .standby then done (enterMode (forEach (List.range 16) endAlign s) .doze s.md.dozeCause) else done s

/-- Whether the DOZE-flagged rails have come up. -/
def dozeRailsUp (s : State) : Bool :=
  (List.range 16).all fun r =>
    !(dozeRail s r && railSequenced s r) || (rail s r).state == 6 ||
      (rail s r).en && (!railMonitored s r || (rail s r).state == 3 || (rail s r).state == 4)

/-- The axes on leaving DOZE, bit a of `index` being the INDEX input of axis a after its settle time (R494). -/
def wakeAxes (s : State) (index : Nat) : State :=
  forEach (List.range 16) (fun t a =>
    if hasPin t a 2 1 then
      let t := setExternal (setAxis t a fun x => { x with indexIn := index.testBit a && !inConflict t (0x1000 + 16 * a) }) (axPin t a 2 1)
        (axisLevel t a 5 (index.testBit a))
      wakeAxis t a
    else wakeAxis t a) s

/-- DOZE_WAKE_COMPLETE (R165, R616, R254): the on-sequence of the DOZE-flagged rails has ended; a wake enters STANDBY, SAFESTOP stays;
frames received meanwhile are answered. -/
def execDozeWakeComplete (index : Nat) (s : State) : Host.Outcome State Fault Refusal :=
  if !(s.seq.state == 1 && s.seq.dozeRails && dozeRailsUp s) then done s
  else
    let t := { s with seq := { s.seq with state := 2, dozeRails := false } }
    if s.md.mode == .doze && s.md.waking then done (drainAll (wakeAxes (enterMode t .standby s.md.wakeCause) index))
    else done (drainAll (wakeAxes t index))

/-! ## Routes, SAFESTOP entry, calibration -/

/-- MODE_ROUTE_STEP (R46): the next request row toward the pending target. -/
def execModeRouteStep (s : State) : Host.Outcome State Fault Refusal :=
  match s.md.pending with
  | none => done s
  | some p =>
    if s.md.mode == .rally || s.md.mode == .runout || s.md.dozing || s.md.waking || s.md.entering then done s
    else match routeStep s.md.mode p with
      | some q => done (stepTo s q)
      | none => done s

/-- SAFESTOP_ENTRY_COMPLETE (R561). -/
def execSafestopEntryComplete (s : State) : Host.Outcome State Fault Refusal :=
  if s.md.mode == .safestop && s.md.entering then done (safestopDone s) else done s

/-- CALIBRATION_COMPLETE (R353, R368, R370): the signatures are stored, the registration groups armed, READY entered. -/
def execCalibrationComplete (s : State) : Host.Outcome State Fault Refusal :=
  if s.md.mode == .calibrate then
    done (enterMode (forEach (stationsPresent s) (fun t n => armRegistration (storeSignature t n) n) s) .ready 2)
  else done s

end Sys2Proof.Machine
end

