-- ==== Sys2Proof/Machine/Memory.lean ====
section
/-! DEFINITION. The commands of the DRAM and of sheet admission (08_memory_dikes.md). -/

namespace Sys2Proof.Machine

/-! ## Mode register 4 (R297) -/

/-- The multiplier that a mode register 4 code applies. -/
def mr4Refresh (code : Nat) : Nat := if code ≤ 3 then 1 else if code = 4 then 2 else 4

/-- The code that counts of the two channels: the higher one. -/
def mr4Code (v : Nat) : Nat := max (v % 8) (v / 8)

/-- The instance of mode register 4 among the thermal causes (R563). -/
def mr4Cause : Nat := 1

/-- What a change of the code asks for: WARN at 110, FAULT and SAFESTOP with cause 0x09 at 111 while it lasts. -/
def mr4Act (s : State) (old code : Nat) : State :=
  if code = 7 ∧ old ≠ 7 then safestopBy (logEvent s clsFault 6 255 0x2300 4) 9 mr4Cause
  else
    let t := if code = 7 then s else causeEnd s 9 mr4Cause
    if code = 6 ∧ old ≠ 6 then logEvent t clsWarn 6 255 0x2300 4 else t

/-- MR4_READ (R290, R297, R299): the codes of channels A and B. -/
def execMr4Read (a b : Fin 8) (s : State) : Host.Outcome State Fault Refusal :=
  if dramRuns s then
    let v := a.val + 8 * b.val
    let m := mr4Refresh (mr4Code v)
    let t := put (put { s with mem := { s.mem with mr4Due := false, raised := s.mem.raised && refresh s == m } } 0x2300 4 v) 0x2300 3 m
    done (mr4Act (capacityFrom s t) (mr4Code (get s 0x2300 4)) (mr4Code v))
  else done s

/-! ## Errors (R292 to R294) -/

/-- DRAM_UNCORRECTABLE_READ (R294): a reader reads a beat; errors that the check bits correct are corrected (R293). -/
def execDramUncorrectableRead (reader : DramReader) (addr : Nat) (errors : BeatErrors × BeatErrors) (s : State) : Host.Outcome State Fault Refusal :=
  if dramRuns s then done (dramRead s reader { addr := addr, first := errors.1, again := errors.2 }).1 else done s

/-! ## Patrol scrub (R295) -/

/-- The patrol period in ticks (2310:05). -/
def patrolPeriod (s : State) : Nat := ticksS (3600 * get s 0x2310 5)

/-- The beats that a pass has to have read by now so that it reads every beat once per patrol period, at a steady pace (log 147). -/
def patrolDue (s : State) : Nat := min (dramBeats s) (dramBeats s * (s.time - s.mem.patrolFrom) / max 1 (patrolPeriod s))

/-- The beats that patrol may take in the period that ends: the credit of the scrub client, ahead of zeroing; with no scrub share, pool beats that
no other client has asked for. -/
def patrolShare (s : State) (poolLeft : Nat) : Nat := if tabGet 0 s.mem.credit 7 = 0 then poolLeft else tabGet 0 s.mem.credit 7

/-- Patrol reads its beats of a period, the errors among them in `reads`; a pass that is complete is counted, and the next one begins. -/
def patrolRun (s : State) (poolLeft : Nat) (reads : List BeatRead) : State :=
  let a := s.mem.patrolAt
  let b := a + min (patrolDue s - a) (patrolShare s poolLeft)
  let t := (reads.filter fun r => decide (64 * a ≤ r.addr ∧ r.addr < 64 * b)).foldl (fun u r => (dramRead u .patrol r).1) s
  if b < dramBeats s then { t with mem := { t.mem with patrolAt := b } }
  else wrapBy 32 { t with mem := { t.mem with patrolAt := 0, patrolFrom := t.time, patrolLate := false } } 0x2310 6 1

/-- PATROL_OVERDUE (R295): a pass that has not finished in twice the patrol period raises a WARN, once. -/
def execPatrolOverdue (s : State) : Host.Outcome State Fault Refusal :=
  if dramRuns s && !s.mem.patrolLate && decide (2 * patrolPeriod s ≤ s.time - s.mem.patrolFrom) then
    done (logEvent { s with mem := { s.mem with patrolLate := true } } clsWarn 6 255 0x2310 7)
  else done s

/-! ## Dike periods (R300 to R302) -/

/-- The order in which clients take pool beats: decoders, ingest, scrub, the fixed clients. -/
def poolOrder : List Nat := List.range 11

/-- What a client asked for beyond its credit. -/
def beyondCredit (s : State) (demand : List Nat) (c : Nat) : Nat := demand.getD c 0 - tabGet 0 s.mem.credit c

/-- The pool goes to the clients in their order (R301): what is left of it, and the clients that end the period with requests pending, credit and
pool used up (R302). -/
def sharePool (s : State) (demand : List Nat) (order : List Nat) : Nat × List Nat :=
  order.foldl (fun (a : Nat × List Nat) c =>
    let n := beyondCredit s demand c
    (a.1 - n, if a.1 < n then a.2 ++ [c] else a.2)) (tabGet 0 s.mem.credit 11, [])
def shortClients (s : State) (demand : List Nat) : List Nat := (sharePool s demand poolOrder).2

/-- The tenant that gets the next pool beat (R276, R301): of those that still ask, the one with the fewest beats for its weight; the lower number on
a tie (log 148). Entries: tenant, weight, beats asked for, beats given. -/
def nextByWeight (l : List (Nat × Nat × Nat × Nat)) : Option Nat :=
  ((l.filter fun e => decide (e.2.2.2 < e.2.2.1)).foldl (fun b e => match b with
    | none => some e
    | some c => if e.2.2.2 * c.2.1 < c.2.2.2 * e.2.1 then some e else some c) none).map (·.1)

/-- n pool beats shared by weight. -/
def shareByWeight : Nat → List (Nat × Nat × Nat × Nat) → List (Nat × Nat × Nat × Nat)
  | 0, l => l
  | n + 1, l => match nextByWeight l with
    | none => l
    | some t => shareByWeight n (l.map fun e => if e.1 = t then (e.1, e.2.1, e.2.2.1, e.2.2.2 + 1) else e)

/-- The beats that ingest was given for each tenant in the period that ends (R276, R301): its effective guarantee first, then by weight the pool
beats that the decoders left. `asks` is what each tenant's fetches asked for. -/
def ingestGiven (s : State) (demand asks : List Nat) : Tab Nat :=
  let own := (List.range 64).map fun n => (n, min (asks.getD n 0) (effective s n))
  let beyond := (List.range 64).map fun n => (n, get s (tenIdx n) 0x0B, asks.getD n 0 - effective s n, 0)
  let pool := (sharePool s demand (List.range 6)).1
  let extra := shareByWeight pool (beyond.filter fun e => e.2.2.1 != 0)
  (own.map fun p => (p.1, p.2 + ((extra.find? fun e => e.1 == p.1).map (·.2.2.2)).getD 0)).filter fun p => p.2 != 0

/-- The credits of a new period and its pool, under entry 11 (R301). -/
def newCredit (s : State) : Tab Nat :=
  let l := poolOrder.map fun c => (c, reservation s c)
  l ++ [(11, capacity s (refresh s) - (l.map (·.2)).foldl Nat.add 0)]

/-- The period that ends (R301, R302): shortfalls, what ingest gave each tenant, what patrol read. -/
def endPeriod (s : State) (demand asks : List Nat) (reads : List BeatRead) : State :=
  let t := forEach (shortClients s demand) (fun u c => satBy 32 u 0x2320 (0x11 + c) 1) s
  patrolRun { t with mem := { t.mem with given := ingestGiven s demand asks } } (sharePool s demand poolOrder).1 reads

/-- DIKE_PERIOD (R301, R302): a period ends with its demand, and the next one gets its credit. -/
def execDikePeriod (work : DikeWork) (s : State) : Host.Outcome State Fault Refusal :=
  if dramRuns s then
    let t := if s.mem.credit.isEmpty then s else endPeriod s work.demand work.asks work.reads
    done { t with mem := { t.mem with credit := newCredit t } }
  else done s

/-! ## Admission (R307 to R314) -/

/-- Whether nothing defers admission (R20, R74, R103, R181, R307, R314, R346, R355, R394, R463). -/
def admissionOpen (s : State) : Bool :=
  (s.md.mode == .ready || s.md.mode == .rally) && flag s 0x2000 0x0C && strap s 7 != 3 && !s.mem.mr4Due && !s.clk.admissionHold &&
    decide (admittedCount s + committedCount s < 16) && !(s.armed.any fun g => decide (1 ≤ g ∧ g ≤ 12)) && !overBudget s &&
    geometryAgrees s && (stationsPresent s).all fun n => tracking s n && linkState s n == 3 && motorState s n == 5

/-- Whether a pass is due (R307). -/
def admissionDue (s : State) : Bool :=
  !anyOnPath s || (match previousSheet s with
    | some q => decide (q.1 + q.2 ≤ s.time + admissionLead s)
    | none => true)

/-- Whether axes and trackers of a sheet's profile are ready (R415, R484). -/
def profileReady (s : State) (sh : Sheet) : Bool :=
  let m := get s 0x5050 (sh.profile + 1)
  (List.range 16).all (fun a => !m.testBit a || axisReady s a) &&
    (entriesOf s sh.profile).all fun e => entTracker e == 0 || tracking s (entTracker e)

/-- The beats that the peak leaves for guarantees, and I0 widened by f below 1 (R308, R313 step 3): P / f, rounded up. -/
def widenedI0 (s : State) (p : Plan) (left g : Nat) : Nat :=
  match previousSheet s with
  | some q => if left < g then max p.i0 (q.1 + ceilDiv (leastPeriod s q.2 * g) (max 1 left)) else p.i0
  | none => p.i0

/-- I0 before widening (R308). -/
def firstI0 (s : State) : Nat :=
  match previousSheet s with
  | some q => max (s.time + admissionLead s) (q.1 + leastPeriod s q.2)
  | none => s.time + admissionLead s

/-- A failed pass (R310). -/
def admissionFail (s : State) (reason : Nat) : State := put (bump s 0x2300 0x14) 0x2300 0x16 reason

/-- The IMAGE events of an admitted sheet, one on each present station (R358, R406). -/
def imageEvents (sh : Sheet) : List Event :=
  sh.imageAt.map fun q => { code := 1, target := q.1, param := 0, ref := 255, tag := 0, status := 0, time := q.2, uid := some sh.uid }

/-- A timetable entry as an event (R413): a time entry at I0 plus its offset, a tracker entry with its offset in µm. -/
def entryEvent (sh : Sheet) (e : Nat) : Event :=
  { code := entAction e, target := entTarget e, param := entParam e, ref := if entTracker e = 0 then 255 else entTracker e, tag := 0, status := 0,
    time := if entTracker e = 0 then sh.i0 + 1500 * (entOffset e).toNat else (entOffset e).toNat, uid := some sh.uid, route := entRoute e }

/-- The next serial after n: 1 follows 2^32 − 1 (R18). -/
def nextSerial (n : Nat) : Nat := if 2 ^ 32 - 1 ≤ n then 1 else n + 1

/-- The sheet as admitted with a plan (R17, R18, R21, R306). -/
def admittedSheet (s : State) (sh : Sheet) (p : Plan) : Sheet :=
  { sh with state := .admitted, serial := if sh.serial = 0 then get s 0x5040 3 else sh.serial, mask := get s 0x5050 (sh.profile + 1),
            timetable := entriesOf s sh.profile, i0 := p.i0, imageAt := p.imageAt, endAt := p.endAt, winAt := p.winAt, charge := p.charge,
            cut := cutMask s sh }

/-- The sheet admitted last before this one, if it is still on its way. -/
def sheetBefore (s : State) (uid : Nat) : Option Sheet :=
  (s.sheets.filter fun sh => (sh.admitted || sh.committed) && sh.uid != uid).foldl (fun b sh => match b with
    | none => some sh
    | some c => if c.i0 < sh.i0 then some sh else some c) none

/-- The gap patch before a sheet (R368): with 3800:08 at 1 and a gap of at least 40 mm, every 3800:09 sheets, in the middle 30 mm of the gap. It
is fixed when the later sheet is admitted (log 151). -/
def gapPatch (s : State) (a : Sheet) : State :=
  let t := { s with mem := { s.mem with patchSheets := s.mem.patchSheets + 1 } }
  match sheetBefore s a.uid with
  | none => t
  | some b =>
    let end_ := b.i0 + linesTicks s 0 b.lines
    let gapTicks := a.i0 - end_
    let v := max 1 (processSpeed s 0)
    if flag s 0x3800 8 && decide (40000 * 1500000000 ≤ gapTicks * v) && decide (get s 0x3800 9 ≤ t.mem.patchSheets) then
      let from_ := end_ + (gapTicks - roundDiv (30000 * 1500000000) v) / 2
      forEach (stationsPresent s) (fun u n => gapPattern u n ((from_ : Int) + stationOffset s n).toNat)
        { t with mem := { t.mem with patchSheets := 0 } }
    else t

/-- The sheet is ADMITTED (R308): serial, reservations, events, the tenant's v. -/
def admitSheet (s : State) (sh : Sheet) (p : Plan) : State :=
  let a := admittedSheet s sh p
  let t := if sh.serial = 0 then put s 0x5040 3 (nextSerial (get s 0x5040 3)) else s
  let t := modSheet t sh.uid fun _ => a
  let t := (imageEvents a ++ a.timetable.map (entryEvent a)).foldl (fun u e => addEvent u 0 640 e) t
  watchBudget s (gapPatch (advanceV t sh.tenant sh.lines) a)

/-- One pass over the sheet offered (R308). -/
def admissionTest (s : State) (sh : Sheet) : State :=
  let s := bump s 0x2300 0x13
  let p := planOf s sh (firstI0 s)
  let h := peakBeats s p
  let b := budget s
  let g := guarantees s
  if b < h then admissionFail s 1
  else if 100 * (b - h) < get s 0x2300 0x10 * g then admissionFail s 2
  else
    let i := widenedI0 s p (b - h) g
    let wide := (previousSheet s).isSome && (decide (b - h < g) || s.mem.doubled)
    admitSheet (if wide then bump s 0x2300 0x15 else s) sh (planOf s sh i)

/-- ADMISSION_PASS (R277, R307, R308). -/
def execAdmissionPass (s : State) : Host.Outcome State Fault Refusal :=
  if admissionOpen s && admissionDue s then
    let t := refreshCandidates s
    match chosen t with
    | none => done t
    | some n => match nextSheet t n with
      | some sh => if profileReady t sh then done (admissionTest t sh) else done t
      | none => done t
  else done s

end Sys2Proof.Machine
end

