-- ==== Sys2Proof/Machine/Clocks.lean ====
section
/-! DEFINITION. The commands of the reference, the synthesizer and the station DLLs (05_clocks.md). -/

namespace Sys2Proof.Machine

/-! ## The end of a relock (R183 to R187) -/

/-- A link retrains at step 9 of a relock (R183, R391), in the modes that keep it UP (R404). -/
def relockLink (s : State) (n : Nat) : State :=
  match s.md.mode with
  | .kickoff => s | .terp => s | .doze => s | .shutdown => s
  | _ => linkBegin (setStation s n fun x => { x with hardFault := false }) n false (station s n).linkServe

/-- The relock record ends; its duration is kept (2200:09). -/
def endRelock (s : State) : State :=
  match s.clk.relock with
  | none => s
  | some r => put { s with clk := { s.clk with relock := none } } 0x2200 9 ((s.time - r.start) % 2 ^ 32)

/-- The instance of a timebase fault among the causes (R563). -/
def timebaseCause : Nat := causeInst .timebase 255

/-- Every station DLL has locked (R183 steps 8 and 9): the timebase runs, second serves pass, links retrain; in DOZE, and in SHUTDOWN
from the off-sequence on, the synthesizer goes off (R187). -/
def relockDone (s : State) : State :=
  let t := put (endRelock s) 0x2200 3 4
  let t := servePass t .relock 255 3 0x2200 7
  let t := causeEnd (servePass t .timebase 255 3 0x2200 7) 0x0C timebaseCause
  let t := forEach (stationsPresent t) relockLink (forEach (stationsPresent t) takeHeldLight t)
  if t.md.mode == .doze || (t.md.mode == .shutdown && t.md.offStarted) then stopTimebase t else t

/-- The timebase stays off until the next kick-off (R186): one DOUBLE entry, SAFESTOP with cause 0x0C. -/
def relockFailed (s : State) : State :=
  let t := put (endRelock s) 0x2200 3 5
  let t := doubleFault { t with clk := { t.clk with offUntilKickoff := true } } .relock 255 7 3 0x2200 7
  safestopBy (serveDrop t .timebase 255) 0x0C timebaseCause

/-- The relock of kick-off step 11 fails: reason 07 (R186). -/
def relockKickoff (s : State) : State :=
  failKickoff (put (endRelock (doubleFault s .relock 255 7 3 0x2200 7)) 0x2200 3 5) 7 0

/-- The next attempt of a relock. -/
def relockAgain (s : State) (r : Relock) (n : Nat) : State :=
  relockAttempt { s with clk := { s.clk with relock := some { r with attempt := n } } }

/-- An attempt fails (R185, R186): a second one with the same set, then one with the previous or ROM set, then the outcome by occasion. -/
def attemptFails (s : State) : State :=
  let t := closeGate (sat s 0x2200 7)
  match s.clk.relock with
  | none => t
  | some r =>
    if r.attempt = 1 then relockAgain (serveBegin t .relock 255 7 3 0x2200 7) r 2
    else if r.attempt = 2 ∧ r.taken then relockAgain (restoreBands (rejectGroup t 13) r.previous) r 3
    else if r.occasion = .kickoff then relockKickoff t
    else relockFailed t

/-! ## The steps of a relock -/

/-- Whether a relock runs and stands at a state of 2200:03; after a reference loss the PLLs are held and it goes on no further (R175). -/
def relockAt (s : State) (v : Nat) : Bool := s.clk.relock.isSome && !s.clk.refLost && get s 0x2200 3 == v

/-- RELOCK_LOCK_DETECT (R183 step 4). -/
def execRelockLockDetect (s : State) : Host.Outcome State Fault Refusal :=
  if relockAt s 1 then done (put s 0x2200 3 2) else done s

/-- RELOCK_LOCK_TIMEOUT (R185). -/
def execRelockLockTimeout (s : State) : Host.Outcome State Fault Refusal :=
  if relockAt s 1 then done (attemptFails s) else done s

/-- RELOCK_SETTLE_END (R183 step 5): `held` says that lock held throughout. -/
def execRelockSettleEnd (held : Bool) (s : State) : Host.Outcome State Fault Refusal :=
  if relockAt s 2 then (if held then done (put s 0x2200 3 3) else done (attemptFails s)) else done s

/-- Reference periods of the frequency check (R184). -/
def checkPeriods (s : State) : Nat := if refHz s = 25000000 then 500 else 622

/-- Whether a count of timebase cycles lies within ±200 ppm of the target (R183 step 6). -/
def countFits (s : State) (count : Nat) : Bool :=
  let want := get s 0x2200 1 * 1000 * checkPeriods s
  decide (5000 * gap (count * refHz s) want ≤ want)

/-- The gate opens (R183 step 7): the DLLs of the present stations start to lock. -/
def openGate (s : State) : State :=
  setDlls (forEach (stationsPresent s) restLanes { s with clk := { s.clk with gateOpen := true } }) 1

/-- FREQUENCY_CHECK_END (R183 steps 6 and 7, R184): the count of timebase cycles. -/
def execFrequencyCheckEnd (count : Nat) (s : State) : Host.Outcome State Fault Refusal :=
  if relockAt s 3 && !s.clk.gateOpen then
    let t := put s 0x2200 5 (roundDiv (count * refHz s) (1000 * checkPeriods s) % 2 ^ 32)
    if countFits s count then done (openGate t) else done (attemptFails t)
  else done s

/-! ## Station DLLs (R198, R200) -/

/-- Whether the DLL of every present station is locked. -/
def dllsLocked (s : State) : Bool := (stationsPresent s).all fun n => get s 0x2230 (n + 1) == 2

/-- STATION_DLL_LOCKED (R183 step 8, R198, R200). -/
def execStationDllLocked (st : Fin 6) (s : State) : Host.Outcome State Fault Refusal :=
  if present s st.val && s.clk.gateOpen && get s 0x2230 (st.val + 1) == 1 then
    let t := servePass (put s 0x2230 (st.val + 1) 2) .dll st.val 3 0x2230 (st.val + 7)
    let t := causeEnd t 7 (causeInst .dll st.val)
    done (if t.clk.relock.isSome && dllsLocked t then relockDone t else t)
  else done s

/-- The double fault of a station DLL (R200). -/
def dllDouble (s : State) (n : Nat) : State := safestopBy (doubleFault s .dll n 0 3 0x2230 (n + 7)) 7 (causeInst .dll n)

/-- DLL_LOCK_LOSS (R200). -/
def execDllLockLoss (st : Fin 6) (s : State) : Host.Outcome State Fault Refusal :=
  let n := st.val
  if present s n && get s 0x2230 (n + 1) == 2 then
    let t := put (sat (spillStation s n) 0x2230 (n + 7)) 0x2230 (n + 1) 1
    done (if servedWithin s .dll n (ticksS 1) then dllDouble t n else serveBegin t .dll n 0 3 0x2230 (n + 7))
  else done s

/-- DLL_RELOCK_TIMEOUT (R200): not locked 4 µs after the loss. -/
def execDllRelockTimeout (st : Fin 6) (s : State) : Host.Outcome State Fault Refusal :=
  if serving s .dll st.val && get s 0x2230 (st.val + 1) == 1 then done (dllDouble s st.val) else done s

/-! ## Timebase faults (R189 to R192) -/

/-- A timebase fault, counted at 2200:sub (R191): SAFESTOP, and a relock as the second serve; the double fault while that runs or within 600 s of
it. A relock that was between steps 7 and 8 of R183 ends with it (log 75). -/
def timebaseFault (s : State) (sub : Nat) : State :=
  let t := logEvent (closeGate (sat (endRelock s) 0x2200 sub)) clsFault 3 255 0x2200 sub
  if serving s .timebase 255 || servedWithin s .timebase 255 (ticksS 600) then
    let t := doubleFault { t with clk := { t.clk with offUntilKickoff := true } } .timebase 255 0 3 0x2200 sub
    safestopBy (put t 0x2200 3 0) 0x0C timebaseCause
  else startRelock (safestopBy (serveBegin t .timebase 255 0 3 0x2200 sub) 0x0C timebaseCause) .serve

/-- CEILING_TRIP (R189, R191, R192): within a relock it fails the attempt. A timebase that is off has no cycles to count. -/
def execCeilingTrip (s : State) : Host.Outcome State Fault Refusal :=
  if s.clk.refLost then done s
  else if s.clk.relock.isSome then done (attemptFails (sat s 0x2200 8))
  else if get s 0x2200 3 == 4 then done (timebaseFault s 8)
  else done s

/-- TIMEBASE_LOCK_LOSS (R190, R191): with the gate open it is a timebase fault, between steps 7 and 8 of a relock too; at kick-off, where no
SAFESTOP is entered and reason 07 is the outcome (R186), it fails the attempt. -/
def execTimebaseLockLoss (s : State) : Host.Outcome State Fault Refusal :=
  if !s.clk.gateOpen then done s
  else if s.clk.relock.isSome && s.md.mode == .kickoff then done (attemptFails s)
  else done (timebaseFault s 7)

/-! ## The reference (R175) -/

/-- Whether the reference is watched: from kick-off step 4 on, until SHUTDOWN's off-sequence has ended. -/
def refWatched (s : State) : Bool :=
  s.powered && s.hold == .none && !s.reset_.running && (match s.md.mode with
    | .kickoff => decide (4 ≤ kickStep s)
    | .shutdown => !s.md.offEnded
    | _ => true)

/-- REFERENCE_LOSS (R175 steps 1 to 3). -/
def execReferenceLoss (s : State) : Host.Outcome State Fault Refusal :=
  if refWatched s && !s.clk.refLost then
    let t := closeGate { s with clk := { s.clk with refLost := true, onReference := false } }
    let t := logEvent (sat t 0x2200 0x0B) clsFault 3 255 0x2200 0x0B
    done (safestopBy (serveBegin t .reference 255 0 3 0x2200 0x0B) 0x0C (causeInst .reference 255))
  else done s

/-- REFERENCE_LOSS_RESET (R175 step 4). -/
def execReferenceLossReset (s : State) : Host.Outcome State Fault Refusal :=
  if s.clk.refLost && !s.reset_.running then done (warmReset s 0x0C false) else done s

end Sys2Proof.Machine
end

