-- ==== Sys2Proof/Machine/Link.lean ====
section
/-! DEFINITION. The commands of the beam links and of ILOCK_N (11_beam_link.md, R562, R563). -/

namespace Sys2Proof.Machine

/-- A hard fault, SAFESTOP when it is the double fault. -/
def hardFault (s : State) (n status : Nat) : State := onDoubleBy (causeInst .link n) (linkHardFault s n (status % 65536))

/-! ## Bring-up (R392, R393) -/

/-- Whether a bring-up of station n runs. -/
def bringingUp (s : State) (n : Nat) : Bool := linkState s n == 1 || linkState s n == 2

/-- BRING_UP_STEP_TIMEOUT (R393): the step under way is late. -/
def execBringUpStepTimeout (st : Fin 6) (s : State) : Host.Outcome State Fault Refusal :=
  if bringingUp s st.val then done (onDoubleBy (causeInst .link st.val) (linkFail s st.val)) else done s

/-- The registers 0x03 to 0x06 come back after a new geometry (R390): a mismatch is a hard fault; the fifth register read is its Status. -/
def regsBack (s : State) (n : Nat) (regs : List Nat) : State :=
  let t := setStation s n fun x => { x with regsDue := false }
  if regs.take 4 = geoRegs s n then t else hardFault t n (regs.getD 4 0)

/-- BRING_UP_STEP_COMPLETE (R392): the registers that the step has read back; on a link that is UP, those that a new geometry has had written. -/
def execBringUpStepComplete (st : Fin 6) (regs : List Nat) (s : State) : Host.Outcome State Fault Refusal :=
  if (station s st.val).regsDue && linkState s st.val == 3 then done (regsBack s st.val regs)
  else if bringingUp s st.val then done (onDoubleBy (causeInst .link st.val) (linkStepDone s st.val regs)) else done s

/-! ## Errors of a link that is UP (R398 to R402) -/

/-- The lines of the scans whose blocks went out in the 3 µs before a soft error are flagged, each scan once (R400). -/
def softFlags (s : State) (n : Nat) : State :=
  let t := match (station s n).scan with
    | some c => if c.flagged then s else flagLines (setStation s n fun x => { x with scan := some { c with flagged := true } }) n c.uid
    | none => s
  match (station s n).lastScan with
  | some q => if s.time ≤ q.2 + 4500 then flagLines (setStation t n fun x => { x with lastScan := none }) n q.1 else t
  | none => t

/-- LD_FLT_SOFT_ERROR (R400): more than 64 within 1 s count as a hard fault, whose Status read is a value from outside. -/
def execLdFltSoftError (st : Fin 6) (s : State) : Host.Outcome State Fault Refusal :=
  let n := st.val
  if linkState s n = 3 then
    let times := s.time :: (station s n).softTimes.filter fun t => decide (s.time - t < ticksS 1)
    let t := setStation (softFlags (satBy 32 s (linkCnt n) 1 1) n) n fun x => { x with softTimes := times.take 65 }
    done (if 64 < times.length then hardFault { t with fresh := t.fresh + 1 } n (Config.free t.fresh) else t)
  else done s

/-- LD_FLT_HARD_FAULT (R401): `status` is what the Status register reads. -/
def execLdFltHardFault (st : Fin 6) (status : Nat) (s : State) : Host.Outcome State Fault Refusal :=
  if linkState s st.val = 3 then done (hardFault s st.val status) else done s

/-- SERDES_LOCK_LOSS (R401): the serdes PLL of the TZ640 loses lock. -/
def execSerdesLockLoss (st : Fin 6) (status : Nat) (s : State) : Host.Outcome State Fault Refusal :=
  if linkState s st.val = 3 then done (hardFault s st.val status) else done s

/-! ## The interlock (R396, R559, R562, R563) -/

/-- A SAFETY event of a kind: counted and kept (2400:08, :09), and its entry (R559, R560). -/
def safetyEvent (s : State) (kind : Nat) : State :=
  log (putLog (satLog 16 s 0x2400 8) 0x2400 9 kind) clsSafety 1 0 255 0x2400 9 none kind

/-- The interlock's hardware path (R491, R529, R562, R614), in every mode: no further step on any axis, SAFE_N asserted. LDn_EN, HVD and FUS_G follow
ILOCK_N itself; where no SAFESTOP entry follows, their loops are off already (R533). -/
def interlockPath (s : State) : State := forEach (List.range 16) hardStop { s with pins := { s.pins with ilockOpen := true, safeN := true } }

/-- ILOCK_OPEN (R562): every LDn_EN goes low, the outputs stop, SAFESTOP with cause 0x08. -/
def execIlockOpen (s : State) : Host.Outcome State Fault Refusal :=
  if s.pins.ilockOpen || !s.powered then done { s with pins := { s.pins with ilockOpen := true } }
  else done (holdUnlit (safestopBy (safetyEvent (satLog 16 (interlockPath s) 0x2400 0x0A) 1) 8 0))

/-- ILOCK_CLOSE (R563): the 10 ms of closed hold begin. -/
def execIlockClose (s : State) : Host.Outcome State Fault Refusal := done { s with pins := { s.pins with ilockOpen := false } }

/-- ILOCK_CLOSED_HOLD_END (R563): closed for 10 ms. -/
def execIlockClosedHoldEnd (s : State) : Host.Outcome State Fault Refusal := if s.pins.ilockOpen then done s else done (causeEnd s 8 0)

end Sys2Proof.Machine
end

