-- ==== Sys2Proof/Machine/Umpire.lean ====
section
/-! DEFINITION. The commands of the umpire, the flash mirror and the junction temperature (17_faults.md, 18_electrical.md). -/

namespace Sys2Proof.Machine

/-! ## Supervisor events (R559, R560) -/

/-- Whether the supervisor cores run: from the core reset's release on, until the off-sequence of SHUTDOWN. -/
def supervisorRuns (s : State) : Bool :=
  s.powered && s.hold == .none && !s.reset_.running && (match s.md.mode with
    | .kickoff => decide (6 ≤ kickStep s)
    | .shutdown => !s.md.offStarted
    | _ => true)

/-- The umpire hardware path (R560): SAFE_N asserted, motor gates low, no further step; LDn_EN, HVD and FUS_G follow `umpireRestart`
and the loops that are off. -/
def umpireOutputs (s : State) : State :=
  let t := { s with pins := { s.pins with safeN := true } }
  let t := forEach (List.range 16) hardStop (forEach (List.range 12) gatesOff t)
  forEach (List.range 48) (fun u n => if (loop u n).state = 0 then u else loopOffNow u n) t

/-- The second serve of a supervisor event is noted; its entry comes after the kick-off. -/
def superviseServe (s : State) (kind : Nat) : State :=
  { serveDrop s .supervisor 255 with
    log := { (serveDrop s .supervisor 255).log with
      serves := { mech := Mech.code .supervisor, inst := 255, code := kind, running := true, done := none } :: (serveDrop s .supervisor 255).log.serves } }

/-- A supervisor event of a kind (R560): kept in 2400:08 and :09; the warm reset follows, or the hold state of R162 when it is the second
one before or within 600 s of the following STANDBY. -/
def supervisorEvent (s : State) (kind : Nat) : State :=
  let t := umpireOutputs (putLog (satLog 16 s 0x2400 8) 0x2400 9 kind)
  if serving s .supervisor 255 || servedWithin s .supervisor 255 (ticksS 600) then
    enterHold (doubleFault t .supervisor 255 kind 0 0x2400 9) .doubleFault
  else
    let t := superviseServe (umpireOutputs (safestopBy t 6 (causeInst .supervisor 255))) kind
    { t with kick := { t.kick with umpireRestart := true, safetyLog := true } }

/-- LOCKSTEP_MISMATCH (R559, R560). -/
def execLockstepMismatch (s : State) : Host.Outcome State Fault Refusal :=
  if supervisorRuns s && !s.kick.umpireRestart then done (supervisorEvent s 3) else done s

/-- WATCHDOG_EXPIRY (R559, R560). -/
def execWatchdogExpiry (s : State) : Host.Outcome State Fault Refusal :=
  if supervisorRuns s && !s.kick.umpireRestart then done (supervisorEvent s 4) else done s

/-- UMPIRE_RESET (R560, R615): the warm reset 2 ms after the event. -/
def execUmpireReset (s : State) : Host.Outcome State Fault Refusal :=
  if s.kick.umpireRestart then done (warmReset s 6 false) else done s

/-! ## SAFE_N (R559, R563) -/

/-- SAFE_N_MISMATCH: the pad has differed from its driven level for more than 10 µs. -/
def execSafeNMismatch (s : State) : Host.Outcome State Fault Refusal :=
  if s.powered && !s.pins.safeMismatch then
    done (safestopBy (safetyEvent { s with pins := { s.pins with safeMismatch := true } } 5) 6 5)
  else done s

/-- SAFE_N_MISMATCH_END. -/
def execSafeNMismatchEnd (s : State) : Host.Outcome State Fault Refusal :=
  done (causeEnd { s with pins := { s.pins with safeMismatch := false } } 6 5)

/-! ## The flash mirror (R572 to R574) -/

/-- The sequence of the oldest entry of a sector. -/
def oldestSeq (l : Log) (k : Nat) : Nat :=
  match (mirrorSector l k).getLast? with
  | some e => e.seq
  | none => 0

/-- The sector that holds the oldest entries. -/
def oldestSector (l : Log) : Nat := (List.range 16).foldl (fun b k => if follows 32 (oldestSeq l k) (oldestSeq l b) then k else b) 0

/-- Writes pending entries while they need no erase; at most n. -/
def drainPending : Nat → Log → Log
  | 0, l => l
  | n + 1, l => match l.pending with
    | [] => l
    | e :: r => match mirrorPlace l e with
      | some m => drainPending n { m with pending := r }
      | none => l

/-- Whether an erase may run: entries pending, no sector free, and an hour since the last erase or the end of kick-off. -/
def mayErase (s : State) : Bool :=
  !s.log.pending.isEmpty && get s 0x2418 1 == 0 && (emptySector s.log).isNone && (match s.log.eraseFrom with
    | some t => decide (t + ticksS 3600 ≤ s.time)
    | none => false)

/-- MIRROR_ERASE (R573): the sector with the oldest entries is erased, and pending entries are written. -/
def execMirrorErase (s : State) : Host.Outcome State Fault Refusal :=
  if mayErase s then
    let k := oldestSector s.log
    let l := drainPending 64 { s.log with active := k, mirror := tabDel s.log.mirror k, eraseFrom := some s.time }
    done (emit (putLog (wrapLog 32 { s with log := l } 0x2418 4) 0x2418 5 (pressTime s)) (.flashErase (mirrorBase + 4096 * k)))
  else done s

/-! ## Junction temperature (R593 to R598) -/

/-- The list with an integer inserted in rising order. -/
def insertRising (v : Int) : List Int → List Int
  | [] => [v]
  | a :: t => if v ≤ a then v :: a :: t else a :: insertRising v t

/-- Twice the median of eight readings: the sum of the fourth and the fifth in rising order. -/
def median2 (l : List Int) : Int :=
  let r := l.foldl (fun a v => insertRising v a) []
  r.getD 3 0 + r.getD 4 0

/-- A sensor more than 10 °C from the median: counted, WARN (R593). -/
def sensorCheck (l : List Int) (s : State) (k : Nat) : State :=
  if 200 < (2 * l.getD k 0 - median2 l).natAbs then logEvent (sat s 0x7010 0x14) clsWarn 0 k 0x7010 0x14 else s

/-- The band of R597 of a temperature: 0 above 125 °C, 1 above 105 °C, 2 above 85 °C, 3 at 85 °C or less. -/
def heatBand (t : Int) : Nat := if 1250 < t then 0 else if 1050 < t then 1 else if 850 < t then 2 else 3

/-- The time since the last reading counts for the band of the old reading (R598). -/
def countHeat (s : State) : State :=
  let b := heatBand (tj s)
  let n := tabGet 0 s.heatTicks b + (s.time - s.heatFrom)
  put { s with heatTicks := tabSet s.heatTicks b n, heatFrom := s.time } 0x7010 (0x10 + b) (n / 1500000000 % 2 ^ 32)

/-- The readings as objects: Tj, the sensors, the highest Tj (R593). -/
def storeTj (s : State) (l : List Int) (v : Int) : State :=
  let t := putS s 16 0x7010 1 v
  let t := forEach (List.range 8) (fun u k => putS u 16 0x7010 (2 + k) (l.getD k 0)) t
  let t := putS t 16 0x7010 0x0A (max (getS s 16 0x7010 0x0A) v)
  put t 0x7010 0x0B (if 1550 ≤ v then 3 else if 1500 ≤ v then 2 else if 1400 < v ∨ (s.mem.doubled ∧ 1380 ≤ v) then 1 else 0)

/-- The doubling of the admission period follows Tj (R308, R311). -/
def slowAdmission (s : State) (v : Int) : State :=
  { s with mem := { s.mem with doubled := if 1400 < v then true else if v < 1380 then false else s.mem.doubled } }

/-- The responses to Tj (R594): cause 0x09 persists at 150 °C and above; at 155 °C the SAFETY event and SAFESTOP. In KICKOFF after step 6
that fails kick-off with reason 0A (R48). -/
def tjRespond (s : State) (old v : Int) : State :=
  let t := if 1500 ≤ v then causeAdd s 9 0 else causeEnd s 9 0
  if 1550 ≤ v ∧ old < 1550 then
    let u := safestop (safetyEvent t 2) 9
    if u.md.mode = .kickoff then failKickoff u 0x0A 0 else u
  else t

/-- TJ_SAMPLE (R593, R594): the eight sensors in 0.1 °C. -/
def execTjSample (sensors : List Int) (s : State) : Host.Outcome State Fault Refusal :=
  if supervisorRuns s then
    let v := sensors.foldl max (sensors.getD 0 0)
    let t := forEach (List.range 8) (sensorCheck sensors) (storeTj (countHeat s) sensors v)
    done (tjRespond (capacityFrom s (slowAdmission t v)) (tj s) v)
  else done s

/-- THERMAL_SHUTDOWN (R595): every RAIL_EN inactive without off-delays; held until PORST_N or a power cycle. In the hold state of R136 or R162 it takes
that hold's place: R136 and R595 name different ways out, and R595's is the one that stands (DESIGN CHOICE, log 160). -/
def execThermalShutdown (s : State) : Host.Outcome State Fault Refusal :=
  if s.powered && s.hold != .thermal then
    let t := { allRailsOff (sat s 0x7010 0x0C) with hold := .none }
    done (enterHold { t with kick := { t.kick with thermalLog := true }, md := if s.hold = .none then t.md else { t.md with mode := s.md.previous } } .thermal)
  else done s

end Sys2Proof.Machine
end

