-- ==== Sys2Proof/Machine/Network.lean ====
section
/-! DEFINITION. The commands of the field network: frames received, their timeouts, roll-call windows, the network cycle
(06_field_network.md). -/

namespace Sys2Proof.Machine

/-! ## Received TDP frames -/

/-- READ (R209, R212). -/
def execRead (src : FrameSrc) (tid idx sub : Nat) (s : State) : Host.Outcome State Fault Refusal := done (receive s src (.read tid idx sub))

/-- WRITE_EXPEDITED (R209, R212). -/
def execWriteExpedited (src : FrameSrc) (tid idx sub : Nat) (data : List Byte) (s : State) : Host.Outcome State Fault Refusal :=
  done (receive s src (.writeExp tid idx sub data))

/-- WRITE_SEGMENTED (R213, R214). -/
def execWriteSegmented (src : FrameSrc) (tid idx sub total : Nat) (s : State) : Host.Outcome State Fault Refusal :=
  done (receive s src (.writeSeg tid idx sub total))

/-- SEGMENT (R213, R214). -/
def execSegment (src : FrameSrc) (tid : Nat) (last : Bool) (seq : Nat) (data : List Byte) (s : State) : Host.Outcome State Fault Refusal :=
  done (receive s src (.segment tid last seq data))

/-- SEGMENT_ACK (R213). -/
def execSegmentAck (src : FrameSrc) (tid seq : Nat) (s : State) : Host.Outcome State Fault Refusal := done (receive s src (.segAck tid seq))

/-- ABORT (R209). -/
def execAbort (src : FrameSrc) (tid code : Nat) (s : State) : Host.Outcome State Fault Refusal := done (receive s src (.abort tid code))

/-- READ_RESPONSE (R211, R221). -/
def execReadResponse (src : FrameSrc) (tid status : Nat) (data : List Byte) (s : State) : Host.Outcome State Fault Refusal :=
  done (receive s src (.readResponse tid status data))

/-- WRITE_RESPONSE (R211, R221). -/
def execWriteResponse (src : FrameSrc) (tid status code : Nat) (s : State) : Host.Outcome State Fault Refusal :=
  done (receive s src (.writeResponse tid status code))

/-- CYCLIC_IN (R237, R238). -/
def execCyclicIn (src : FrameSrc) (map cycle : Nat) (data : List Byte) (s : State) : Host.Outcome State Fault Refusal :=
  done (receive s src (.cyclicIn map cycle data))

/-- ROLLCALL_ANSWER (R224, R229, R232). -/
def execRollcallAnswer (src : FrameSrc) (identity dictRev plcaId : Nat) (s : State) : Host.Outcome State Fault Refusal :=
  done (receive s src (.rollcallAnswer identity dictRev plcaId))

/-- ROLLCALL of the line manager (R252, R107). -/
def execRollcall (src : FrameSrc) (round base slots slotLen : Nat) (s : State) : Host.Outcome State Fault Refusal :=
  done (receive s src (.rollcall round base slots slotLen))

/-- SESSION_CLOSE (R250). -/
def execSessionClose (src : FrameSrc) (slot : Nat) (s : State) : Host.Outcome State Fault Refusal := done (receive s src (.sessionClose slot))

/-- SESSION_HELLO (R248, R210, R254). -/
def execSessionHello (src : FrameSrc) (slot : Nat) (nonce : List Byte) (s : State) : Host.Outcome State Fault Refusal :=
  done (receive s src (.sessionHello slot nonce))

/-! ## Frames that are discarded (R203, R210) -/

/-- NON_TDP_FRAME (R203). -/
def execNonTdpFrame (p : Fin 4) (s : State) : Host.Outcome State Fault Refusal :=
  if portLive s p.val then done (discardFrame s p.val) else done s

/-- INVALID_TDP_FRAME (R210, R249). -/
def execInvalidTdpFrame (p : Fin 7) (badAuth : Bool) (s : State) : Host.Outcome State Fault Refusal :=
  if portLive s p.val then
    done (if badAuth then authDrop (bump s (portIdx p.val) 0x10) else discardFrame s p.val)
  else done s

/-! ## Timeouts (R219, R220, R245, R250) -/

/-- A transaction with a partner in which the TZ640 waits for an answer: a request of its own, or a block of segments sent. -/
def waitingFor (s : State) (n tid : Nat) : Option Transfer :=
  s.net.transfers.find? fun f => f.src.n == n && f.tid == tid && (f.own && !f.segmented || f.segmented && !takes f && decide (f.acked < f.next))

/-- The request frame of a request of the TZ640's own (R209). -/
def ownFrame (f : Transfer) : Nat × List Byte :=
  let head (m : Nat) : List Byte := leBytes 1 f.tid ++ leBytes 1 m ++ leBytes 2 f.idx ++ leBytes 1 f.sub
  if !f.write then (1, head 0 ++ [0])
  else if f.data.length ≤ 240 then (3, head 0 ++ leBytes 1 f.data.length ++ f.data)
  else (3, head 1 ++ [0] ++ leBytes 4 f.total)

/-- The single repeat on T1S and ETH (R219): the request frame, or the segments not yet acknowledged. -/
def repeatFrame (s : State) (f : Transfer) : State :=
  if !f.segmented then sendTo s f.src (ownFrame f).1 (ownFrame f).2
  else ((List.range 16).map (· + f.acked)).foldl (fun u j => if j < f.next then sendSegment u f j else u) s

/-- LOWER_RETRY_EXPIRY (R219, R555): W has passed without an answer; the lower retry is the second serve. -/
def execLowerRetryExpiry (n : Fin 2048) (tid : Nat) (s : State) : Host.Outcome State Fault Refusal :=
  match waitingFor s n.val tid with
  | none => done s
  | some f =>
    if f.repeated then done s
    else
      let t := keepTransfer (serveBegin s .tdpRequest n.val 0 4 (partnerIdx n.val) 0x0B) { f with repeated := true }
      done (if 4 ≤ f.src.p then repeatFrame t f else t)

/-- UPPER_TIMEOUT (R220, R555). -/
def execUpperTimeout (n : Fin 2048) (tid : Nat) (s : State) : Host.Outcome State Fault Refusal :=
  match waitingFor s n.val tid with
  | none => done s
  | some f =>
    let t := sat (sat (dropTransfer s f.src tid f.own) (portIdx f.src.p) 0x14) (partnerIdx n.val) 0x0B
    let t := if f.own then emit t (.callerAbort n.val tid 0x0801) else t
    let t := if f.segmented then sendTo t f.src 5 (abortPayload tid 0x0801) else t
    done (if serving t .tdpRequest n.val then doubleFault t .tdpRequest n.val 0 4 (partnerIdx n.val) 0x0B else t)

/-- PARTNER_IDLE_TIMEOUT (R245): one poll, the second serve; while another poll of the port is open, or no airtime covers it, it waits. -/
def execPartnerIdleTimeout (n : Fin 2048) (s : State) : Host.Outcome State Fault Refusal :=
  let p := get s (partnerIdx n.val) 2
  if partnerState s n.val == 2 && get s (partnerIdx n.val) 8 != 0 && portLive s p && managed s p && !serving s .partnerIdle n.val then
    done (pollIdle (setPort (serveBegin s .partnerIdle n.val 0 4 (partnerIdx n.val) 1) p fun x => { x with toPoll := x.toPoll ++ [n.val] }) p)
  else done s

/-- SESSION_TIMEOUT (R250). -/
def execSessionTimeout (id : Nat) (s : State) : Host.Outcome State Fault Refusal :=
  if (sessionOf s id).isSome then done (endSession s id) else done s

/-! ## Bus-off (R205) -/

/-- A port stays off: its polls end, those of idle partners are cancelled (R557), and its PRESENT partners become ABSENT under their loss
responses. -/
def portDies (s : State) (p : Nat) : State :=
  let t := ((assigned s p).filter fun n => serving s .partnerIdle n).foldl (fun u n => serveCancel u .partnerIdle n 4 (partnerIdx n) 1) s
  let t := setPort (setRx (setTx t p []) p []) p fun x => { x with dead := true, recovering := false, polled := none, toPoll := [] }
  ((assigned t p).filter fun n => partnerState t n == 2).foldl (fun u n => partnerGoes u n 3) t

/-- BUS_OFF (R205). -/
def execBusOff (p : Fin 4) (s : State) : Host.Outcome State Fault Refusal :=
  let i := p.val
  if !portLive s i then done s
  else
    let again := match (port s i).lastBusOff with
      | some t => decide (s.time - t ≤ ticksS 10)
      | none => false
    let t := setPort (sat s (portIdx i) 0x16) i fun x => { x with lastBusOff := some s.time, recovering := true }
    done (if again then portDies (doubleFault t .canPort i 0 4 (portIdx i) 0x16) i else serveBegin t .canPort i 0 4 (portIdx i) 0x16)

/-- BUS_OFF_RECOVERY_COMPLETE (R205). -/
def execBusOffRecoveryComplete (p : Fin 4) (s : State) : Host.Outcome State Fault Refusal :=
  if (port s p.val).recovering then
    done (servePass (setPort s p.val fun x => { x with recovering := false }) .canPort p.val 4 (portIdx p.val) 0x16)
  else done s

/-! ## Roll-call windows (R227, R229, R230) -/

/-- Whether partner n's slot lies in the running window of port p: a member of the block of round 1, or the partner polled. -/
def inWindow (s : State) (p n : Nat) : Bool :=
  let x := port s p
  (x.round == 1 && (blockOf s p x.block).contains n) || x.polled == some n

/-- CAN_ERROR_FRAME (R229): an error frame; inside a roll-call slot the slot's partner is in CONFLICT. -/
def execCanErrorFrame (p : Fin 4) (n : Fin 2048) (s : State) : Host.Outcome State Fault Refusal :=
  if !portLive s p.val then done s
  else
    let t := sat s (portIdx p.val) 0x15
    done (if managed s p.val && inWindow s p.val n.val then partnerGoes t n.val 7 else t)

/-- ROLLCALL_BLOCK_END (R227): the next block, or the polls of round 2. -/
def execRollcallBlockEnd (p : Fin 7) (s : State) : Host.Outcome State Fault Refusal :=
  if (port s p.val).round = 1 then done (afterBlock (startBlock s p.val ((port s p.val).block + 1)) p.val) else done s

/-- A partner becomes ABSENT; one that was still EXPECTED raises a notice (06_field_network.md, worked case). -/
def absentNow (s : State) (n : Nat) : State :=
  if partnerState s n = 1 then noticeAlone (partnerGoes s n 3) (partnerIdx n) 1 clsNotice else partnerGoes s n 3

/-- The polled partner has not answered (R230, R245). -/
def pollMissed (s : State) (n : Nat) : State :=
  let t := if serving s .partnerIdle n then doubleFault s .partnerIdle n 0 4 (partnerIdx n) 1 else s
  if partnerState t n = 1 ∨ partnerState t n = 2 then absentNow t n else t

/-- ROLLCALL_POLL_TIMEOUT (R230, R232, R245). -/
def execRollcallPollTimeout (p : Fin 7) (s : State) : Host.Outcome State Fault Refusal :=
  match (port s p.val).polled with
  | none => done s
  | some n =>
    done (pollOver (pollMissed s n) p.val)

/-! ## The network cycle (R234 to R244, R232, R421) -/

/-- SYNC on a port (R209, R234). -/
def sendSync (s : State) (p : Nat) : State :=
  let n := if classicalPort s p then 4 else 8
  sendFrame s p 0x0A 2047 (leBytes 4 (get s 0x1100 6) ++ leBytes n s.time)

/-- Whether a map is due in the running cycle (R235). -/
def mapDue (s : State) (m : Nat) : Bool := get s 0x1100 6 % mapDivider s m == 0

/-- The octets of the mapped values (R237), as a view of the Patron range shows them (R89). -/
def mapData (s : State) (m : Nat) : List Byte :=
  (mapEntries s m).flatMap fun e => readData s .firmware (viewOf (entryIdx e)).2 (viewOf (entryIdx e)).1 (entrySub e)

/-- Whether the partner of an OUT map lets it run (R223): PRESENT and LOST; P2047 always. -/
def mapRuns (s : State) (m : Nat) : Bool :=
  mapPartner s m == 2047 || partnerState s (mapPartner s m) == 2 || partnerState s (mapPartner s m) == 4

/-- CYCLIC OUT of a map on its ports (R237); a full transmit queue drops it (R243). -/
def sendMap (s : State) (m : Nat) : State :=
  let pay := leBytes 1 m ++ leBytes 1 (get s 0x1100 6) ++ mapData s m
  ((mapPorts s m).filter fun p => portLive s p && managed s p).foldl (fun t p =>
    if txFull t p then sat t (portIdx p) 0x17 else sendFrame t p 8 (mapPartner s m) pay) s

/-- The misses of the cycle that ends (R238): counted; the second in a row makes a PRESENT partner LOST. Misses in a row are counted for the
partner, over all its IN maps (DEDUCED, log 136). -/
def countMiss (s : State) (m : Nat) : State :=
  let n := mapPartner (cycleMaps s) m
  if s.net.inSeen.contains m ∨ partnerState s n ≠ 2 then s
  else
    let k := tabGet 0 s.net.misses n + 1
    let t := sat { s with net := { s.net with misses := tabSet s.net.misses n k } } (partnerIdx n) 0x0C
    if 2 ≤ k then partnerGoes t n 4 else t

/-- The cyclic phase of a cycle that is not skipped: SYNC, CYCLIC OUT, the IN maps that fall due. -/
def cyclicPhase (s : State) : State :=
  let t := forEach ((List.range 7).filter fun p => portLive s p && managed s p) sendSync s
  let due := (mapsInUse t).filter (mapDue t)
  let t := (due.filter fun m => !mapIn t m && mapRuns t m).foldl sendMap t
  { t with net := { t.net with inSeen := [], inDue := due.filter fun m => mapIn t m && partnerState t (mapPartner t m) == 2 } }

/-- One poll of an ABSENT partner on a port (R232), after roll-call, when credit or pool covers it (R241). -/
def pollAbsent (s : State) (p : Nat) : State :=
  if (port s p).round ≠ 3 ∨ (port s p).polled.isSome then s
  else match (absentOrder s p).head? with
    | some n => if covers s p n (frameNs s p (pollFrame s p n)) then poll s p n else s
    | none => s

/-- The acyclic phase: credits, frames that wait, notices, polls, requests that waited for credit (R232, R241, R242, R244). -/
def acyclicPhase (s : State) : State :=
  let ps := (List.range 7).filter fun p => portLive s p && managed s p
  let t := forEach ps drainTx (forEach ps creditCycle s)
  drainAll (forEach ps pollAbsent (forEach ps pollIdle (sendNotices t)))

/-- NETWORK_CYCLE_START (R234, R237, R421): the count advances; a skipped start sends no SYNC and no CYCLIC OUT, and counts no miss of the
maps that fall due in it. -/
def execNetworkCycleStart (skipped : Bool) (s : State) : Host.Outcome State Fault Refusal :=
  if !cyclesRun s then done s
  else
    let t := s.net.inDue.foldl countMiss s
    let maps := t.dict.filter fun q => isMapKey q.1
    let t := bump { t with net := { t.net with inDue := [], inSeen := [], maps := maps } } 0x1100 6
    done (acyclicPhase (if skipped then sat t 0x2521 9 else cyclicPhase (bump t 0x2521 4)))

/-! ## IPv4 (R201) -/

/-- ARP_REQUEST: answered on ETH for its own address. -/
def execArpRequest (senderIp senderMac targetIp : Nat) (s : State) : Host.Outcome State Fault Refusal :=
  if portLive s 6 && targetIp == get s 0x1116 2 then
    done (emit s (.arpReply senderIp senderMac (get s 0x1116 2) (get s 0x1116 9)))
  else done s

/-- ICMP_ECHO_REQUEST. -/
def execIcmpEchoRequest (senderIp : Nat) (payload : List Byte) (s : State) : Host.Outcome State Fault Refusal :=
  if portLive s 6 then done (emit s (.echoReply senderIp payload)) else done s

end Sys2Proof.Machine
end

