-- ==== Sys2Proof/Machine/Rails.lean ====
section
/-! DEFINITION. The commands of the rails: on-sequence, warnings and faults, rail reset, off-sequences (04_power.md). -/

namespace Sys2Proof.Machine

/-! ## The on-sequence (R150 to R156, R165) -/

/-- Whether rail r takes part in the running on-sequence: the DOZE-flagged rails on a wake; a rail off by response stays off (R160). -/
def inSequence (s : State) (r : Nat) : Bool :=
  railSequenced s r && (!s.seq.dozeRails || dozeRail s r) && (rail s r).state != 6

/-- Whether every rail of the running on-sequence is up, and every rail of use 1 or 2 good (R152); one in its warning window's outside is not
good. -/
def sequenceDone (s : State) : Bool :=
  (List.range 16).all fun r => (!inSequence s r || (rail s r).en) && (!railMonitored s r || (rail s r).state == 3 || (rail s r).state == 6)

/-- The latest deadline of the rails in µs from S (R144, R152). -/
def lastDeadline (s : State) : Nat :=
  (List.range 16).foldl (fun m r => if railUse s r = 0 then m else max m (get s (railIdx r) 2 + get s (railIdx r) 3)) 0

/-- Whether every deadline has passed by press time. -/
def deadlinesPassed (s : State) : Bool := decide (s.seq.since + ticksUs (lastDeadline s) ≤ s.time)

/-- The on-sequence of a kick-off or of TERP is complete (R152, R154) when every rail is good and every deadline has passed, by press time or
by the command's own word (`passed`): step 5 ends when step 4 has ended. -/
def endOn (s : State) (passed : Bool) : State :=
  if s.seq.state = 1 ∧ !s.seq.dozeRails ∧ sequenceDone s ∧ (passed || deadlinesPassed s) then
    let t := { s with seq := { s.seq with state := 2, terp := false } }
    if t.md.mode = .kickoff ∧ kickStep t = 4 then put t 0x2020 1 5 else t
  else s

/-- RAIL_ENABLE (R150): the rail's turn has come; rails with smaller on-delays are enabled before it. -/
def execRailEnable (r : Fin 16) (s : State) : Host.Outcome State Fault Refusal :=
  let n := r.val
  let turn := (List.range 16).all fun k => !inSequence s k || decide (get s (railIdx n) 2 ≤ get s (railIdx k) 2) || (rail s k).en
  if s.seq.state == 1 && inSequence s n && !(rail s n).en && turn then
    done (endOn (setRail s n fun x => { x with en := true, watched := true, state := if railMonitored s n then 2 else 3 }) false)
  else done s

/-! ## Readings (R142) -/

/-- A reading, and the extremes since the last clear (2100+n:0F, :10); the VMON of an unused rail is ignored (R144). -/
def putReading (s : State) (r v : Nat) : State :=
  if railUse s r = 0 then s else
  let e := get s (railIdx r) 0x10
  let fresh := e = 0 ∧ get s (railIdx r) 0x0F = 0
  put (put s (railIdx r) 0x0F v) (railIdx r) 0x10 (if fresh then 65537 * v else min (e % 65536) v + 65536 * max (e / 65536) v)

/-- The instance of a rail among the causes: while it lies outside its warning window, or until kick-off (R563). -/
def railCause (r : Nat) : Nat := causeInst .rail r
def railOffCause (r : Nat) : Nat := causeInst .rail (r + 16)

/-- Whether the comparators of a rail that can become good are watched. -/
def railUp (s : State) (r : Nat) : Bool :=
  railMonitored s r && ((rail s r).en || railUse s r == 2) && decide (s.seq.state = 1 ∨ s.seq.state = 2 ∨ (s.seq.state = 3 ∧ s.seq.why = .doze)) &&
    s.seq.why != .railReset

/-- Whether a reading lies inside a window of rail r, the low level in bits [15:0], the high one in bits [31:16] (R142, R144). -/
def railInside (s : State) (r sub v : Nat) : Bool :=
  let w := get s (railIdx r) sub
  decide (w % 65536 ≤ v ∧ v ≤ w / 65536)

/-- RAIL_GOOD (R143, R152, R154, R563): the rail's VMON has stood at a reading for a number of consecutive samples; inside the warning window for
16 of them it is good. Any other reading is only reported (R142). -/
def execRailGood (r : Fin 16) (v : RailSamples) (s : State) : Host.Outcome State Fault Refusal :=
  let n := r.val
  let x := rail s n
  if railUp s n && (x.state == 2 || x.state == 4 || x.state == 5) && railInside s n 6 v.reading && decide (16 ≤ v.samples) then
    let t := putReading (setRail s n fun y => { y with state := 3, wasGood := true }) n v.reading
    let t := if s.seq.attempt = 2 ∧ s.seq.firstFail = some n then servePass t .railKickoff n 2 0x2120 6 else t
    done (endOn (causeEnd t 0x0C (railCause n)) false)
  else done (putReading s n v.reading)

/-! ## Faults (R151 to R162, R617) -/

/-- The side of a window on which a reading lies (2120:07): 1 under, 2 over, 0 inside. -/
def windowSide (s : State) (r sub v : Nat) : Nat :=
  let w := get s (railIdx r) sub
  if v < w % 65536 then 1 else if w / 65536 < v then 2 else 0

/-- Whether the side of a comparator acts (R151, R163): the under-voltage side from the rail's first good on and until its RAIL_EN goes
inactive, the over-voltage side from its enable (S for use 2) on, and still after its RAIL_EN has gone inactive. -/
def sideActs (s : State) (r side : Nat) : Bool :=
  let x := rail s r
  railMonitored s r && s.hold != .thermal && (if side = 1 then (x.en || railUse s r == 2) && x.wasGood else side == 2 && x.watched)

/-- What a rail fault leaves: count, last fault, state (2100+n:0E, 2120:06 to :08). From a rail reset on the last fault stays that of the
reset until kick-off has started (R161, R617). -/
def recordFault (s : State) (r kind : Nat) : State :=
  let t := sat s (railIdx r) 0x0E
  let t := if t.seq.why = .railReset ∨ t.reset_.running then t else put (put (put t 0x2120 6 r) 0x2120 7 kind) 0x2120 8 (pressTime s)
  setRail t r fun x => { x with state := if x.en || railUse s r == 2 then 5 else x.state }

/-- What follows an off-sequence whose last rail has gone inactive. -/
def offOver (s : State) : State :=
  match s.seq.why with
  | .retry => { s with seq := { s.seq with state := 4 } }
  | .doze => { s with seq := { s.seq with state := 2, why := .none } }
  | .holdOff => { s with seq := { s.seq with state := 5, why := .none }, pins := { s.pins with rstLow := true, safeN := true } }
  | .railReset => { s with seq := { s.seq with state := 0 } }
  | .shutdown => s
  | _ => { s with seq := { s.seq with state := 0, why := .none } }

/-- Whether rail r takes part in the running off-sequence. -/
def inOff (s : State) (r : Nat) : Bool := (rail s r).en && (s.seq.why != .doze || dozeRail s r)

/-- A rail goes inactive; with the last one of an off-sequence under way that sequence is over. -/
def railGone (s : State) (r st : Nat) : State :=
  let t := railOff s r st
  if t.seq.state != 3 || (List.range 16).any (inOff t) then t else offOver t

/-- A rail of response 1 goes off at once, without its off-delay, until the next kick-off (R160). -/
def responseOff (s : State) (r : Nat) : State := if get s (railIdx r) 9 = 1 ∧ (rail s r).en then railGone s r 6 else s

/-- The entry of a rail fault. -/
def logFault (s : State) (r : Nat) : State := logEvent s clsFault 2 r (railIdx r) 0x0E

/-- The on-sequence of kick-off is broken off (R153): off-sequence, pause, and a new S. -/
def breakOff (s : State) : State := if anyRailOn s then beginOff s .retry else { s with seq := { s.seq with state := 4, why := .retry } }

/-- A fault during the on-sequence of kick-off (R153, R154): the first retry is the second serve; with the retries used up kick-off fails
with reason 02. -/
def sequenceFault (s : State) (r : Nat) : State :=
  let t :=
    if s.seq.attempt = 1 ∧ get s 0x2120 2 = 0 then s
    else if s.seq.attempt = 1 then
      let u := serveBegin s .railKickoff r 2 2 0x2120 6
      { u with seq := { u.seq with firstFail := some r } }
    else if s.seq.attempt = 2 then
      let u := match s.seq.firstFail with
        | some q => if q = r then doubleFault s .railKickoff r 2 2 0x2120 6 else if serving s .railKickoff q then serveDrop s .railKickoff q else s
        | none => s
      { u with seq := { u.seq with firstFail := none } }
    else s
  if get s 0x2120 2 < s.seq.attempt then failKickoff t 2 r else breakOff t

/-- A rail reset (R161, R162): the second serve of a rail fault in operation. A further one before its off-sequence joins the first. -/
def railReset (s : State) (r : Nat) : State :=
  let t := if s.seq.why = .railReset then s else sat s 0x2120 9
  let t := safestopBy (serveBegin t .rail r 0 2 0x2120 6) 0x0C (railCause r)
  { t with seq := { t.seq with why := .railReset }, kick := { t.kick with railResetLog := some (t.kick.railResetLog.getD r) } }

/-- A rail fault in an operating mode, SAFESTOP and DOZE included (R159, R160, R162). -/
def operatingFault (s : State) (r : Nat) : State :=
  let resp := get s (railIdx r) 9
  if servedWithin s .rail r (ticksS 600) then enterHold (doubleFault s .rail r 0 2 0x2120 6) .doubleFault
  else if resp = 2 then railReset s r
  else if resp = 1 then responseOff (safestopBy (logFault s r) 0x0C (railOffCause r)) r
  else safestopBy (logFault s r) 0x0C (railCause r)

/-- Whether a fault is logged only (R163, R617): the rail is already inactive, or an off-sequence other than that of DOZE, a retry pause,
a hold or a rail reset from its step 2 on is under way. -/
def faultLoggedOnly (s : State) (r : Nat) : Bool :=
  (!(rail s r).en && railUse s r != 2) || s.hold != .none || s.reset_.running || s.seq.state == 4 || (s.seq.state == 3 && s.seq.why != .doze) ||
    (s.seq.state == 0)

/-- Whether a rail of response 1 is still turned off by a fault that is logged only: in the retry pause and in a rail reset (R617). -/
def offThough (s : State) : Bool := s.seq.why == .railReset || s.seq.state == 4

/-- A rail fault of a kind acts (R159). -/
def railFault (s : State) (r kind : Nat) : State :=
  let only := faultLoggedOnly s r
  let t := recordFault s r kind
  if only then (if offThough s then responseOff (logFault t r) r else logFault t r)
  else match s.md.mode with
    | .kickoff => if s.seq.state = 1 then sequenceFault (logFault t r) r else failKickoff (logFault t r) 2 r
    | .terp =>
      if s.seq.state = 1 ∨ get s (railIdx r) 9 = 2 then enterHold (logFault t r) .terp else responseOff (logFault t r) r
    | .shutdown => logFault t r
    | _ => operatingFault t r

/-- RAIL_FAULT (R142, R159): the rail's VMON has stood at a reading for a number of consecutive samples. The fault filter acts when as many
samples as it has µs lie outside the fault window; a shorter excursion is only reported. -/
def execRailFault (r : Fin 16) (v : RailSamples) (s : State) : Host.Outcome State Fault Refusal :=
  let k := windowSide s r.val 5 v.reading
  let t := putReading s r.val v.reading
  if sideActs s r.val k && decide (get s (railIdx r.val) 7 ≤ v.samples) then done (railFault t r.val k) else done t

/-- RAMP_FAULT (R151): a rail in its ramp is not good by its deadline. -/
def execRampFault (r : Fin 16) (reading : Nat) (s : State) : Host.Outcome State Fault Refusal :=
  if s.seq.state == 1 && railMonitored s r.val && (rail s r.val).state == 2 then done (railFault (putReading s r.val reading) r.val 3) else done s

/-- RETRY_PAUSE_END (R153): the on-sequence starts again from a new S. -/
def execRetryPauseEnd (s : State) : Host.Outcome State Fault Refusal :=
  if s.seq.state == 4 then
    let t := startOn s false
    done (put { t with seq := { t.seq with attempt := s.seq.attempt + 1 } } 0x2120 5 (s.seq.attempt + 1))
  else done s

/-- RAIL_WARNING (R142, R158): the warning filter acts when as many samples as it has µs lie outside the warning window: latch, count, a WARN
entry; a notice only where the latch was 0. A shorter excursion is only reported. -/
def execRailWarning (r : Fin 16) (v : RailSamples) (s : State) : Host.Outcome State Fault Refusal :=
  let n := r.val
  if sideActs s n (windowSide s n 6 v.reading) && decide (get s (railIdx n) 8 ≤ v.samples) then
    let was := flag s (railIdx n) 0x0C
    let t := putReading (setRail s n fun x => { x with state := if x.state = 3 then 4 else x.state }) n v.reading
    let t := sat (put t (railIdx n) 0x0C 1) (railIdx n) 0x0D
    let t := logOnly t clsWarn 1 2 n (railIdx n) 0x0C none 1
    done (if was then t else notice t (railIdx n) 0x0C clsWarn)
  else done (putReading s n v.reading)

/-! ## Off-sequences (R153, R161, R163 to R165, R615) -/

/-- RAIL_DISABLE (R163): the rail's off-delay from O has passed; rails with smaller off-delays have gone before it. -/
def execRailDisable (r : Fin 16) (s : State) : Host.Outcome State Fault Refusal :=
  let n := r.val
  let turn := (List.range 16).all fun k => !inOff s k || decide (get s (railIdx n) 4 ≤ get s (railIdx k) 4)
  if s.seq.state == 3 && inOff s n && turn then
    done (railGone s n 1)
  else done s

/-- RAIL_RESET_OFF_START (R161 step 2). -/
def execRailResetOffStart (s : State) : Host.Outcome State Fault Refusal :=
  if s.seq.why == .railReset && s.seq.state != 3 && s.seq.state != 0 && !s.reset_.running then
    done (if anyRailOn s then beginOff s .railReset else { s with seq := { s.seq with state := 0 } })
  else done s

/-- Whether O may be set in SHUTDOWN (R164 step 4): every motor and axis reports standstill, or 2120:0B ms have passed since the entry. -/
def mayStartOff (s : State) : Bool :=
  ((List.range 12).all (motorStill s) && (List.range 16).all (axStill s)) || decide (s.md.shutAt + ticksMs (get s 0x2120 0x0B) ≤ s.time)

/-- SHUTDOWN_OFF_START (R164 steps 4 and 5, R170, R287, R551): the off-sequence begins; clocks and pins follow it. -/
def execShutdownOffStart (s : State) : Host.Outcome State Fault Refusal :=
  if s.md.mode == .shutdown && s.hold == .none && !s.md.offStarted && mayStartOff s then
    let t := stopTimebase (forEach (List.range 12) motorOff (forEach (List.range 16) disableAxis s))
    let t := pinsToSleep { t with md := { t.md with offStarted := true } }
    done { t with seq := { t.seq with state := 3, why := .shutdown } }
  else done s

/-- SHUTDOWN is left for kick-off by a wake (R44, R164): no rail is on any more. -/
def wakeFromShutdown (s : State) : State := warmReset s 5 true

/-- SHUTDOWN_SEQUENCE_END (R164 step 6): RST_OUT_N low; a WAKE_IN held until now starts kick-off. -/
def execShutdownSequenceEnd (s : State) : Host.Outcome State Fault Refusal :=
  if s.md.mode == .shutdown && s.md.offStarted && s.hold == .none && !anyRailOn s then
    let t := { s with md := { s.md with offEnded := true }, pins := { s.pins with rstLow := true }, seq := { s.seq with state := 0, why := .none } }
    done (if s.kick.wakeHeld then wakeFromShutdown t else t)
  else done s

/-- WAKE_IN (R44, R164): DOZE is left for STANDBY; in SHUTDOWN kick-off starts, or the event is held until the off-sequence has ended. -/
def execWakeIn (s : State) : Host.Outcome State Fault Refusal :=
  match s.md.mode with
  | .doze => done (beginWake s 5)
  | .shutdown =>
    if s.hold != .none then done s
    else if s.md.offEnded then done (wakeFromShutdown s)
    else done { s with kick := { s.kick with wakeHeld := true } }
  | _ => done s

/-- PCI_EXPRESS_WAKE (R44). -/
def execPciExpressWake (s : State) : Host.Outcome State Fault Refusal := if endpointUp s then done (beginWake s 5) else done s

end Sys2Proof.Machine
end

