-- ==== Sys2Proof/Machine/Kickoff.lean ====
section
/-! DEFINITION. The commands of start and stop: AON power, PORST_N, the steps of kick-off, roll-call's end, debug access
(03_kickoff.md, 04_power.md). -/

namespace Sys2Proof.Machine

/-! ## AON power and warm resets (R104, R166, R615) -/

/-- AON_POWER_GOOD (R104 step 1, R11, R166): press time 0; kick-off starts as after a power cycle. -/
def execAonPowerGood (s : State) : Host.Outcome State Fault Refusal :=
  if s.powered then done s
  else
    let t := { s with powered := true, time := 0, kick := { s.kick with cold := true } }
    done (kickoffStart (keepIlock (logStart t)))

/-- BROWN_OUT (R166). -/
def execBrownOut (s : State) : Host.Outcome State Fault Refusal := if s.powered then done (powerLost s) else done s

/-- PORST (R615, R126). -/
def execPorst (s : State) : Host.Outcome State Fault Refusal := if s.powered then done (porst s) else done s

/-- PORST_RELEASE (R615). -/
def execPorstRelease (s : State) : Host.Outcome State Fault Refusal := done (porstReleased s)

/-- WARM_RESET_HOLD_END (R615, R127, R161): every RAIL_EN has been inactive for 200 ms. -/
def execWarmResetHoldEnd (s : State) : Host.Outcome State Fault Refusal :=
  if s.powered && !anyRailOn s && ((s.reset_.running && !s.reset_.holdEnded) || (s.seq.why == .railReset && s.seq.state == 0)) then
    done (holdEnded s)
  else done s

/-- KICKOFF_WATCHDOG (R105). -/
def execKickoffWatchdog (s : State) : Host.Outcome State Fault Refusal := if s.powered then done (failKickoff s 9 0) else done s

/-! ## The steps (R104) -/

/-- The level of a four-level strap (R97) by its pin voltage in mV; an open pin stands at the source's compliance limit. At 1.00 V, which the
table gives to L1 and to L2, it is a free value of the two. -/
def quadLevel (n : Nat) : Option Nat → Nat
  | none => 3
  | some v => if v < 200 then 0 else if v < 1000 then 1 else if v = 1000 then 1 + Config.free n % 2 else if v ≤ 2500 then 2 else 3

/-- The level of a binary strap (R99): high above 2.0 V, low below 0.8 V and on an open pin, a free value between. -/
def binaryLevel (n : Nat) : Option Nat → Nat
  | none => 0
  | some v => if 2000 < v then 1 else if v < 800 then 0 else Config.free n % 2

/-- The levels of the twelve straps in one reading, with the free values from number n on. -/
def strapLevels (n : Nat) (l : List (Option Nat)) : List Nat :=
  l.zipIdx.map fun q => if q.2 < 8 then quadLevel (n + q.2) q.1 else binaryLevel (n + q.2) q.1

/-- Step 2: straps (R97, R99 to R102, R587). The levels of the second reading stand. -/
def stepStraps (s : State) (v1 v2 : List (Option Nat)) (testEn : Bool) : State :=
  let first := strapLevels s.fresh v1
  let second := strapLevels (s.fresh + 12) v2
  let t := { s with fresh := s.fresh + 24, kick := { s.kick with straps := second } }
  if first ≠ second then failKickoff t 0x0B 0
  else if strap t 1 = 3 ∨ strap t 5 = 3 ∨ strap t 11 = 1 ∨ testEn then failKickoff t 1 0
  else
    put { debugStart t with mem := { t.mem with unitsFree := List.range (poolTotal t) } } 0x2020 1 2

/-- The journal after a power cycle (R129, R618): counter, reasons and boot count of its latest record. -/
def restoreJournal (s : State) : State :=
  match (if s.flash.fitted && s.flash.journalOk then latestRecord s.flash else none) with
  | some r => put (putReasons (put s 0x2030 1 (min 8 r.1.counter)) (r.2.take (min 8 r.1.counter))) 0x2030 0x0C r.1.boot
  | none => put (putReasons (put s 0x2030 1 0) []) 0x2030 0x0C 0

/-- The log start entry of this kick-off carries the boot count (R566, R569). -/
def stampStart : List Entry → Nat → List Entry
  | [], _ => []
  | e :: t, n => if e.kind = 8 then { e with detail := n } :: t else e :: stampStart t n

/-- Step 3: flash, journal, boot count, rail table, and the start of the on-sequence (R104, R122, R129, R132, R149, R150, R618); after a
power cycle out of the hold state of TERP, TERP again (R136). -/
def stepFlash (s : State) (answers journalReadable : Bool) : State :=
  let t := { s with flash := { s.flash with fitted := answers, journalOk := journalReadable } }
  let t := put t 0x2030 0x0B (if !answers then 1 else if !journalReadable then 2 else 0)
  let t := if s.kick.cold then restoreJournal t else t
  let t := bump { t with kick := { t.kick with cold := false } } 0x2030 0x0C
  let t := { t with log := { t.log with early := stampStart t.log.early (bootCount t) } }
  if s.reset_.toTerp then enterTerp { t with reset_ := {} } (get t 0x2030 3)
  else match selectTable t with
    | some u =>
      let u := startOn u false
      put { u with seq := { u.seq with first := u.seq.since } } 0x2020 1 3
    | none => failKickoff t 5 0

/-- Step 4: the reference (R104, R175): CD0 moves to it. -/
def stepReference (s : State) (ok : Bool) : State :=
  if ok then
    let t := servePass (holdTime { s with clk := { s.clk with onReference := true, refLost := false } }) .reference 255 3 0x2200 0x0B
    put t 0x2020 1 (if t.seq.state = 2 then 5 else 4)
  else
    let t := if serving s .reference 255 then doubleFault s .reference 255 0x0C 3 0x2200 0x0B else s
    failKickoff t 0x0C 0

/-- Step 6: the core out of reset, the utility PLL, Tj (R104, R584). -/
def stepCore (s : State) (tj : Int) : State :=
  let t := { s with pins := { s.pins with rstLow := false }, clk := { s.clk with pllLocked := true }, heatFrom := s.time }
  let t := putS (putS t 16 0x7010 1 tj) 16 0x7010 0x0A tj
  if 1500 < tj then failKickoff t 0x0A 0 else put t 0x2020 1 6

/-- The image's status and patch records at step 9 (R121 to R125): the state, and the reason of a refusal, 0 for none. With no image 2020:03
shows 0 under STRAP5 L0, and, where the spec does not say whether "none" holds too, 4 under L1 and 5 under L2 (DESIGN CHOICE, log 132). -/
def takeImage (s : State) : State × Nat :=
  let img := s.flash.image
  let s5 := strap s 5
  let sound := check1 img && check2 img && check3 img && check4 img
  let use (u : State) (status : Nat) : State :=
    let r := imagePatches img
    let u := { put u 0x2020 3 status with kick := { u.kick with patches := r.1 } }
    let u := satBy 16 u 0x2020 5 r.2
    forEach (List.range r.2) (fun v _ => log v clsWarn 1 1 255 0x2020 5 none (get v 0x2020 5)) u
  if noImage s.flash then
    (if s5 = 0 then (logEvent (put s 0x2020 3 0) clsNotice 1 255 0x2020 3, 0) else if s5 = 1 then (put s 0x2020 3 4, 6) else (put s 0x2020 3 5, 0))
  else if s5 = 2 then (if sound then (use s 5, 0) else (put s 0x2020 3 5, 0))
  else if !sound || (imageObjects img).isNone then (put s 0x2020 3 3, 5)
  else if s5 = 1 ∧ !check5 (getBlob s 0x2710 2) img then (put s 0x2020 3 4, 6)
  else (put (use s (if s5 = 1 then 2 else 1)) 0x2020 4 (imageSerial img), 0)

/-- Step 9: the image (R121 to R125). -/
def stepImage (s : State) : State :=
  let r := takeImage s
  if r.2 = 0 then put r.1 0x2020 1 9 else failKickoff r.1 r.2 0

/-! ## The dictionary load (R62, R63, R119, R157, R610) -/

/-- The objects whose default is a ROM constant table (R94): target and bands, pulse tables of the stations. -/
def romObjects (s : State) : List Nat :=
  keyOf 0x2200 1 :: (List.range 32).map (fun k => keyOf 0x2210 (k + 1)) ++
    (stationsPresent s).flatMap fun n => (List.range 16).map fun k => keyOf (0x3001 + 0x20 * n) (k + 1)

/-- A parameter of the built-in rail tables under the patch records (R94): fault windows are never patched. -/
def patchedRail (s : State) (k : Nat) : Nat :=
  let d := get s (k / 256) (k % 256)
  if strap s 2 = 3 then d else patchedNum s 2 k d

/-- The ROM and STRAP defaults (R62 steps 1 and 2, R101, R157). -/
def loadDefaults (s : State) : State :=
  let t := if s.kick.patches.isEmpty then s else (romObjects s).foldl (fun u k => put u (k / 256) (k % 256) (romValue s k)) s
  let t := forEach (List.range 16) (fun u r => [4, 6, 7, 8, 9].foldl (fun v j => put v (railIdx r) j (patchedRail s (keyOf (railIdx r) j))) u) t
  strapDefaults t

/-- The checks of a record (R60, R610): those of a write by the resident firmware, without the modes of RWM objects except for the flash
image and the owner key. -/
def recordCode (s : State) (idx sub : Nat) (d : List Byte) : Nat :=
  let c := nameCode s idx sub
  if c ≠ 0 then c
  else
    let i := (viewOf idx).1
    let r := writeRow i sub
    let v := operandValue (viewOf idx).2 d
    if lengthCode r d ≠ 0 then lengthCode r d
    else if readOnly i sub r then 0x0103
    else
      let m := if r.cls = .rwm then (if i = 0x2040 ∨ i = 0x2710 then 0x0402 else 0) else modeCodeOf s r i sub v d
      if m ≠ 0 then m
      else
        let k := lockCode s .firmware r i sub v
        if k ≠ 0 then k else rangeStep s r i sub v d

/-- One object record (R63, R118, R119): the groups of which a record was refused go with the state. -/
def loadRecord (a : State × List Nat) (q : Nat × Nat × List Byte) : State × List Nat :=
  let s := a.1
  let c := recordCode s q.1 q.2.1 q.2.2
  let i := (viewOf q.1).1
  let r := writeRow i q.2.1
  if c = 0 then ((writeEffect s .firmware r i q.2.1 (operandValue (viewOf q.1).2 q.2.2) q.2.2).1, a.2)
  else if r.cls = .rws ∧ nameCode s q.1 q.2.1 = 0 then (s, groupOf i :: a.2)
  else (log (sat s 0x2020 5) clsWarn 1 1 255 q.1 q.2.1 none c, a.2)

/-- The image's records as staged writes and one apply (R63): a group with a refused record is rejected. -/
def loadImage (s : State) (l : List (Nat × Nat × List Byte)) : State :=
  let r := l.foldl loadRecord (s, [])
  let t := r.2.eraseDups.foldl (fun u g => refuseGroup (dropStaged u g) g) r.1
  let t := (applyAll t .firmware).1
  ((t.stagers.filter fun p => p.2 == .firmware).map (·.1)).foldl (fun u g => if u.armed.contains g then u else dropStaged u g) t

/-- Step 10: the dictionary (R62, R63, R157, R437, R537); step 11 begins with the relock of kick-off (R182). -/
def stepDictionary (s : State) : State :=
  let t := loadDefaults s
  let t := if get s 0x2020 3 = 1 ∨ get s 0x2020 3 = 2 then loadImage t ((imageObjects s.flash.image).getD []) else t
  startRelock (claimsTaken (put { t with pins := { t.pins with gatesSet := true } } 0x2020 1 10)) .kickoff

/-! ## DRAM, roll-call -/

/-- Step 13: DRAM training (R289); skipped under STRAP7 "none" (R103). -/
def stepDram (s : State) (first second : Bool) : State :=
  let trained (u : State) : State := put { u with mem := { u.mem with trained := true, mr4Due := true, patrolFrom := u.time } } 0x2020 1 13
  if strap s 7 = 3 then put s 0x2020 1 13
  else if first then trained s
  else
    let t := serveBegin s .dramTraining 255 8 6 0x2300 1
    if second then trained (servePass t .dramTraining 255 6 0x2300 1) else failKickoff (doubleFault t .dramTraining 255 8 6 0x2300 1) 8 0

/-- Step 14: the roll-call broadcast (R227), but for the node-only role (R107); queued frames are served from here on (R112). -/
def stepRollcall (s : State) : State :=
  let t := put s 0x2020 1 14
  drainAll (if nodeOnly t then t else startRollcall t)

/-- The number of the step that a result belongs to. -/
def stepOf : KickResult → Nat
  | .straps _ _ _ => 2
  | .flashReader _ _ => 3
  | .reference _ => 4
  | .railSequence => 5
  | .coreReset _ => 6
  | .romCheck _ => 7
  | .sramTest _ => 8
  | .imageRead => 9
  | .dictionary => 10
  | .synthesizer => 11
  | .fieldPorts => 12
  | .dramTraining _ _ => 13
  | .rollcall => 14

/-- A step's own operation has ended. -/
def stepDone (s : State) (r : KickResult) : State :=
  match r with
  | .straps a b e => stepStraps s a b e
  | .flashReader a j => stepFlash s a j
  | .reference ok => stepReference s ok
  | .railSequence => endOn s true
  | .coreReset tj => stepCore s tj
  | .romCheck ok => if ok then put s 0x2020 1 7 else failKickoff s 3 0
  | .sramTest ok => if ok then ringStart (put s 0x2020 1 8) else failKickoff s 4 0
  | .imageRead => stepImage s
  | .dictionary => stepDictionary s
  | .synthesizer => if get s 0x2200 3 = 4 then put s 0x2020 1 11 else s
  | .fieldPorts => put (put s 0x2020 1 12) 0x1100 7 1
  | .dramTraining a b => stepDram s a b
  | .rollcall => stepRollcall s

/-- KICKOFF_STEP_COMPLETE (R104): the step that is due, in the order of the table; step 5 runs beside step 4, and its sequence in TERP too
(R152, R156). -/
def execKickoffStepComplete (r : KickResult) (s : State) : Host.Outcome State Fault Refusal :=
  let due := s.md.mode == .kickoff && kickStep s + 1 == stepOf r || r == .railSequence
  if s.powered && s.hold == .none && !s.reset_.running && due then done (stepDone s r) else done s

/-! ## The end of kick-off -/

/-- ROLL_CALL_COMPLETE (R230, R107, R104 step 15): partners still EXPECTED become ABSENT; STANDBY. In the node-only role, where no roll-call of
the manager has been answered, step 15 ends at its time. -/
def execRollCallComplete (s : State) : Host.Outcome State Fault Refusal :=
  if s.md.mode == .kickoff && kickStep s == 14 && !s.reset_.running && s.hold == .none && (!nodeOnly s || decide (rollcallEnd s ≤ s.time)) then
    let t := if nodeOnly s then s else (partnersIn s 1).foldl absentNow s
    let t := forEach (List.range 7) (fun u p => setPort u p fun x => { x with round := 3, polled := none }) t
    done (rollcallDone t)
  else done s

/-! ## Debug access (R137, R138) -/

/-- DEBUG_CHALLENGE (R138): a fresh random challenge of 128 bits. -/
def execDebugChallenge (s : State) : Host.Outcome State Fault Refusal :=
  if answering s then
    let c := Config.challenge s.fresh % 2 ^ 128
    done (emit { s with fresh := s.fresh + 1, kick := { s.kick with challenge := some c } } (.jtag (leBytes 16 c)))
  else done s

/-- Whether a response r ‖ s answers the challenge (R138, R608): ECDSA P-256 over the SHA-256 of the challenge followed by 1000:06, by the owner
key whose hash is in 2710:02. The challenge enters the hash with its low octet first, as R608 says it of 1000:06 and of the challenge does not
say (DESIGN CHOICE, log 133). -/
def responseValid (s : State) (rs : List Byte) : Bool :=
  match s.kick.challenge with
  | some c =>
    let hash := getBlob s 0x2710 2
    let key := Config.ownerKey hash
    !hash.isEmpty && sha256 key == hash && ecdsaVerify key rs (sha256 (leBytes 16 c ++ leBytes 8 (get s 0x1000 6)))
  | none => false

/-- DEBUG_RESPONSE (R138): opens debug access; the third invalid one locks it until the next kick-off. -/
def execDebugResponse (rs : List Byte) (s : State) : Host.Outcome State Fault Refusal :=
  if answering s && (get s 0x2710 1 == 1 || get s 0x2710 1 == 2) then
    if responseValid s rs then done (put s 0x2710 1 2)
    else
      let t := { s with kick := { s.kick with badResponses := s.kick.badResponses + 1 } }
      done (if 3 ≤ t.kick.badResponses then put t 0x2710 1 3 else t)
  else done s

end Sys2Proof.Machine
end

