-- ==== Sys2Proof/Machine/Tenants.lean ====
section
/-! DEFINITION. The commands of the host link and the tenants: doorbells, mailbox, descriptors, planes, resets (07_tenants.md). -/

namespace Sys2Proof.Machine

/-! ## Doorbells (R44, R262, R271, R287) -/

/-- A doorbell command: in DOZE it wakes the TZ640 and is held until STANDBY; on a VF that is absent it does nothing. -/
def bellCommand (s : State) (t kind i : Nat) : State :=
  if !(answering s && vfUp s t) then s
  else if s.md.mode == .doze then beginWake { s with md := { s.md with bells := s.md.bells ++ [(t, kind, i)] } } 5
  else ringBell s t kind i

/-- SHEET_TAIL_DOORBELL (R262). -/
def execSheetTailDoorbell (t : Fin 64) (index : Nat) (s : State) : Host.Outcome State Fault Refusal := done (bellCommand s t.val 0 index)

/-- COMPLETION_HEAD_DOORBELL (R262, R270). -/
def execCompletionHeadDoorbell (t : Fin 64) (index : Nat) (s : State) : Host.Outcome State Fault Refusal := done (bellCommand s t.val 1 index)

/-- CANCEL_DOORBELL (R271). -/
def execCancelDoorbell (t : Fin 64) (index : Nat) (s : State) : Host.Outcome State Fault Refusal := done (bellCommand s t.val 2 index)

/-! ## The mailbox (R260, R261) -/

/-- The record that holds the mailbox of a function: that of its tenant, 64 for PF0. -/
def mailboxKey (fn : Fin 65) : Nat := functionKey fn.val

/-- The accessor of a function (R53). -/
def functionAccessor (fn : Fin 65) : Accessor := if h : fn.val = 0 then .pf0 else .vf ⟨fn.val - 1, by omega⟩

/-- Whether the mailbox of a function takes a go: its function is there, and its tenant is not in reset (R281 step 1). -/
def mailboxOpen (s : State) (fn : Fin 65) : Bool :=
  answering s && functionUp s fn.val && (fn.val == 0 || !((tenant s (fn.val - 1)).state == .ghost || (tenant s (fn.val - 1)).state == .scrubbing))

/-- The access starts: the fields at that moment, status busy (R260, R261). -/
def mailboxStart (s : State) (fn : Fin 65) (op idx sub len addr : Nat) : State :=
  setTenant s (mailboxKey fn) fun x =>
    { x with mbIndex := idx, mbSub := sub, mbOp := op, mbLen := len, mbAddr := addr, mbStatus := 1, mbAbort := 0 }

/-- The access ends: status done or aborted, the code, the mailbox vector (R258, R261); an access that has reset its own function
finds the mailbox at its reset values (R281 step 5). -/
def mailboxEnd (s : State) (fn : Fin 65) (code : Nat) : State :=
  if (tenant s (mailboxKey fn)).mbStatus ≠ 1 then s
  else vector (setTenant s (mailboxKey fn) fun x => { x with mbStatus := if code = 0 then 2 else 3, mbAbort := code }) fn.val (if fn.val = 0 then 0 else 1)

/-- A go while the status is busy is ignored and counted (R261): 5000+n:18, on PF0 5060:09. -/
def mailboxBusy (s : State) (fn : Fin 65) : State := if fn.val = 0 then sat s 0x5060 9 else sat s (tenIdx (fn.val - 1)) 0x18

/-- What the fields themselves refuse (R260, R261): a reserved operation, a length, an address. -/
def mailboxCode (op len addr : Nat) : Nat :=
  if op ≠ 1 ∧ op ≠ 2 then 0x0303
  else if addr = 0 ∧ 4032 < len ∨ 16777216 < len then 0x0202 else if addr % 64 ≠ 0 then 0x0304 else 0

/-- The value read goes into the data window or by DMA into the host buffer, and the length field takes its size. -/
def mailboxDeliver (s : State) (fn : Fin 65) (addr : Nat) (d : List Byte) : State :=
  let t := setTenant s (mailboxKey fn) fun x => { x with mbLen := d.length }
  if addr = 0 then setTenant t (mailboxKey fn) fun x => { x with mbWindow := d ++ x.mbWindow.drop d.length }
  else emitAll t (hostWrites (mailboxKey fn) addr d)

/-- MAILBOX_READ (R261): a go with an operation other than 2: one dictionary read with operation 1, else it is reserved. -/
def execMailboxRead (fn : Fin 65) (op idx sub : Nat) (buffer : MailBuffer) (s : State) : Host.Outcome State Fault Refusal :=
  if mailboxOpen s fn then
    if (tenant s (mailboxKey fn)).mbStatus = 1 then done (mailboxBusy s fn) else
    let t := mailboxStart s fn op idx sub buffer.len buffer.addr
    let c := mailboxCode op buffer.len buffer.addr
    if c ≠ 0 then done (mailboxEnd t fn c)
    else
      let r := readDict (functionAccessor fn) idx sub t
      if r.2.1 ≠ 0 then done (mailboxEnd r.1 fn r.2.1)
      else if (if buffer.addr = 0 then 4032 else buffer.len) < r.2.2.length then done (mailboxEnd t fn 0x0202)
      else done (mailboxEnd (mailboxDeliver r.1 fn buffer.addr r.2.2) fn 0)
  else done s

/-- MAILBOX_WRITE (R261): one dictionary write; `data` is what the data window or the host buffer holds. -/
def execMailboxWrite (fn : Fin 65) (idx sub len addr : Nat) (data : List Byte) (s : State) : Host.Outcome State Fault Refusal :=
  if mailboxOpen s fn then
    if (tenant s (mailboxKey fn)).mbStatus = 1 then done (mailboxBusy s fn) else
    let t := mailboxStart s fn 2 idx sub len addr
    let c := mailboxCode 2 len addr
    if c ≠ 0 then done (mailboxEnd t fn c)
    else
      let d := data.take len
      let u := if addr = 0 then setTenant t (mailboxKey fn) fun x => { x with mbWindow := d ++ x.mbWindow.drop d.length }
        else emitAll t (hostReads (mailboxKey fn) addr len)
      let r := writeDict (functionAccessor fn) idx sub d u
      done (mailboxEnd r.1 fn r.2)
  else done s

/-! ## Descriptors and planes (R263 to R274, R278) -/

/-- DESCRIPTOR_FETCH (R263). -/
def execDescriptorFetch (t : Fin 64) (s : State) : Host.Outcome State Fault Refusal :=
  if answering s && mayFetch s t.val && burstLength s t.val != 0 then done (fetchBurst s t.val) else done s

/-- DESCRIPTOR_RECEIVED (R266): what arrives after the tenant's reset began is discarded (R281 step 2). -/
def execDescriptorReceived (t : Fin 64) (bytes : List Byte) (s : State) : Host.Outcome State Fault Refusal :=
  if answering s && (tenant s t.val).state == .enabled && (tenant s t.val).outstanding != 0 then done (takeDescriptor s t.val bytes) else done s

/-- PLANE_FETCH_START (R273). -/
def execPlaneFetchStart (t : Fin 64) (s : State) : Host.Outcome State Fault Refusal :=
  if answering s && mayFetch s t.val then done (startFetch s t.val) else done s

/-- The sheet whose plane for a station a read brings: PENDING, its fetch started, from this ring slot. -/
def planeSheet (s : State) (t ring st : Nat) : Option Sheet :=
  s.sheets.find? fun sh => sh.tenant == t && sh.ringIndex == ring && sh.isPending && sh.fetching && sh.hasPlane st && !tabHas sh.data st

/-- The last plane is in the polder (R17, R264): RESIDENT, and the buffer head may pass. In STANDBY that starts WARMUP while
2000:07 is 1 (R44). -/
def becomeResident (s : State) (uid : Nat) : State :=
  match sheetOf s uid with
  | none => s
  | some sh =>
    let t := moveBufHead (modSheet s uid fun x => { x with state := .resident }) sh.tenant
    if t.md.mode == .standby && flag t 0x2000 7 then enterMode t .warmup 3 else t

/-- A plane arrives: its bytes lie in the polder and are counted (R17). -/
def takePlane (s : State) (sh : Sheet) (st : Nat) (data : List Byte) : State :=
  let t := wrapBy 64 (modSheet s sh.uid fun x => { x with data := tabSet x.data st data }) (tenIdx sh.tenant) 0x16 data.length
  if ({ sh with data := tabSet sh.data st data } : Sheet).allHere then becomeResident t sh.uid else t

/-- PLANE_READ_COMPLETION (R17, R274, R293, R294; log 149): `unit` is the polder unit that the access touches; outside the tenant's table it is blocked.
The plane brings with it the beats that ingest reads from DRAM meanwhile and that meet errors. -/
def execPlaneReadCompletion (t : Fin 64) (ring : Nat) (st : Fin 6) (unit : Nat) (plane : PlaneData) (s : State) :
    Host.Outcome State Fault Refusal :=
  if answering s && (tenant s t.val).state == .enabled then
    match planeSheet s t.val ring st.val with
    | some sh =>
      if !(tenant s t.val).units.contains unit then done (fenceViolation s t.val)
      else
        let q := dramReads (.ingest t) plane.reads s
        if q.2 then done (takePlane q.1 sh st.val plane.data) else done q.1
    | none => done s
  else done s

/-- The host memory that the outstanding reads of tenant t cover, as address and length: descriptors not received, planes not arrived. -/
def ingestReads (s : State) (t : Nat) : List (Nat × Nat) :=
  let x := tenant s t
  let n := sheetRing s t
  ((List.range x.outstanding).map fun k => (get s (tenIdx t) 4 + 128 * ((x.descHead + n - (k + 1) % n) % n), 128)) ++
    (s.sheets.filter fun sh => sh.tenant == t && sh.isPending && sh.fetching).flatMap fun sh =>
      (sh.stations.filter fun st => !tabHas sh.data st).map fun st => ((sh.planes.getD st {}).addr, (sh.planes.getD st {}).len)

/-- Whether an ingest read of tenant t is outstanding that a request of an address and length belongs to. -/
def ingestBusy (s : State) (t addr len : Nat) : Bool :=
  (tenant s t).state == .enabled && (ingestReads s t).any fun q => decide (q.1 ≤ addr ∧ addr + len ≤ q.1 + q.2)

/-- INGEST_READ_ERROR (R259, R278): reported, counted, and that read repeated once; when the repeat fails too, DOUBLE and reset with cause 4. -/
def execIngestReadError (t : Fin 64) (e : IngestFail) (repeatFails : Bool) (s : State) : Host.Outcome State Fault Refusal :=
  if answering s && ingestBusy s t.val e.addr e.len then
    let n := t.val
    let u := vector (vector (sat (aerError s (n + 1) e.how) (tenIdx n) 0x17) (n + 1) 2) 0 6
    let u := emitAll (serveBegin u .ingest n 0 5 (tenIdx n) 0x17) (hostReads n e.addr e.len)
    if repeatFails then done (tenantReset (doubleFault u .ingest n 0 5 (tenIdx n) 0x17) n 4)
    else done (servePass u .ingest n 5 (tenIdx n) 0x17)
  else done s

/-- COALESCING_TIMEOUT (R268). -/
def execCoalescingTimeout (t : Fin 64) (s : State) : Host.Outcome State Fault Refusal :=
  if answering s && s.coalescing.contains t.val then
    done (vector (setTenant { s with coalescing := s.coalescing.erase t.val } t.val fun x => { x with unsignalled := 0 }) (t.val + 1) 0)
  else done s

/-! ## Bus master, function resets, NumVFs, PE_PERST_N (R106, R256, R279, R280) -/

/-- A configuration request (R106): from the training of the link until kick-off step 12 it is answered with Configuration Request Retry Status. -/
def configRequest (s : State) (fn : Nat) : State :=
  if s.md.mode = .kickoff ∧ coreLink s = true ∧ get s 0x2020 1 < 12 then emit s (.configRetry fn) else s

/-- BUS_MASTER_ENABLE (R279): fetches and completions are suspended or resumed. -/
def execBusMasterEnable (t : Fin 64) (on : Bool) (s : State) : Host.Outcome State Fault Refusal :=
  if answering s && vfUp s t.val then
    let u := setTenant s t.val fun x => { x with busMaster := on }
    done (flushHeld t.val (tenant u t.val).heldDone.length u)
  else done (configRequest s (t.val + 1))

/-- PF0 is reset (R280 cause 3, R78): every tenant, every function's accessor, PF0's mailbox; NumVFs returns to 0. -/
def resetPf0 (s : State) : State :=
  let t := forEach (List.range 65) functionEnds (resetAllTenants s)
  put (setTenant t 64 fun _ => {}) 0x5060 6 0

/-- FUNCTION_LEVEL_RESET (R280). -/
def execFunctionLevelReset (fn : Fin 65) (s : State) : Host.Outcome State Fault Refusal :=
  if answering s && functionUp s fn.val then
    done (if fn.val = 0 then resetPf0 s else functionEnds (tenantReset s (fn.val - 1) 1) fn.val)
  else done (configRequest s fn.val)

/-- PE_PERST (R280, R78): the pin goes low; every tenant is reset. -/
def execPePerst (s : State) : Host.Outcome State Fault Refusal :=
  let t := if answering s && endpointUp s then resetPf0 s else s
  done { t with pins := { t.pins with perstLow := true, linkSpeed := 0, linkWidth := 0 } }

/-- PE_PERST_RELEASE (R106): the pin goes high and the link trains, at the speed and width that come out of it. -/
def execPePerstRelease (speed width : Nat) (s : State) : Host.Outcome State Fault Refusal :=
  if s.pins.perstLow then done { s with pins := { s.pins with perstLow := false, linkSpeed := speed, linkWidth := width } } else done s

/-- NUMVFS_WRITE (R256): at most TotalVFs; the tenants of the VFs that go are reset as by their Function Level Reset. -/
def execNumvfsWrite (n : Nat) (s : State) : Host.Outcome State Fault Refusal :=
  if answering s && endpointUp s && decide (n ≤ totalVfs s) then
    let old := get s 0x5060 6
    let gone := (List.range (old - n)).map (· + n)
    done (put (forEach gone (fun u t => functionEnds (tenantReset u t 1) (t + 1)) s) 0x5060 6 n)
  else done (configRequest s 0)

/-- SCRUB_COMPLETE (R275, R284). -/
def execScrubComplete (t : Fin 64) (s : State) : Host.Outcome State Fault Refusal :=
  if answering s && dramRuns s && (tenant s t.val).state == .scrubbing then done (scrubDone s t.val) else done s

end Sys2Proof.Machine
end

