-- ==== Sys2Proof/Machine/Motors.lean ====
section
/-! DEFINITION. The commands of the motors: PWM periods, commutation, Hall edges, spin-up, faults and restarts (13_motors.md). -/

namespace Sys2Proof.Machine

/-! ## The PWM period (R439 to R455, R460, R467) -/

/-- Whether commutation follows the BD tracker (R445, R461). -/
def bdDriven (s : State) (m : Nat) : Bool :=
  waveform s m == 2 && tracking s m && (motorState s m == 4 || motorState s m == 5)

/-- The Hall angle at press time (R446): it advances at the rate of the last sector and stops at the next boundary. -/
def hallAngle (x : Motor) (now : Nat) : Nat :=
  let d := if x.stepPeriod = 0 then 0 else min x.stepPeriod (now - x.hallTime) * 65536 / (6 * x.stepPeriod)
  (if x.back then x.edgeAngle + 65536 - d else x.edgeAngle + d) % 65536

/-- The speed of a drive that an encoder tracker measures (R452). -/
def encoderMeasured (s : State) (m : Nat) : State :=
  let k := get s (motIdx m) 0x0E
  if 6 ≤ m ∧ k ≠ 255 then putS s 32 (motIdx m) 0x31 (Config.encoderSpeed m (toothRate s k)) else s

/-- The sample instants of the next period (R448): none in a held period; a shift counts. -/
def placeSamples (s : State) (m : Nat) : State :=
  let p := placement (pwmPeriodNs s m) (deadNs s m) (windowNs s m) (motor s m).duties
  let t := setMotor s m fun x => { x with samples := if p.hold then [] else [p.sample1.toNat, p.sample2.toNat] }
  if p.shifted && !p.hold then bump t (motIdx m) 0x3A else t

/-- The currents of the period that ends in code 3 (R447, R448, R450): a held period keeps the last ones. -/
def takeCurrents (s : State) (m : Nat) (s1 s2 : Int) : State :=
  let x := motor s m
  if (placement (pwmPeriodNs s m) (deadNs s m) (windowNs s m) x.duties).hold then
    satBy 32 (setMotor s m fun y => { y with holds := y.holds + 1 }) (motIdx m) 0x39 1
  else
    let i := phaseCurrents x.duties s1 s2
    let dq := dqCurrent i x.angle
    putS (putS (setMotor s m fun y => { y with holds := 0, phases := i }) 16 (motIdx m) 0x33 dq.1) 16 (motIdx m) 0x34 dq.2

/-- CAPPED (R455; 4800+m:35). -/
def cappedNow (s : State) (m : Nat) : Bool :=
  let x := motor s m
  if waveform s m = 3 then x.vLimit && decide (x.idRef ≤ getS s 16 (motIdx m) 0x0B) else waveform s m == 4 && x.vLimit

/-- Current control of one period: field-oriented in code 3, six-step in the others (R443, R445, R447). -/
def controlPeriod (s : State) (m : Nat) (s1 s2 : Int) : State :=
  if (motor s m).lowSides then s
  else
    let t :=
      if waveform s m = 3 then
        let u := setMotor (takeCurrents s m s1 s2) m fun x => { x with angle := hallAngle x s.time }
        let dq := (getS u 16 (motIdx m) 0x33, getS u 16 (motIdx m) 0x34)
        placeSamples (setMotor u m (focPwm u m (motor u m).phases dq)) m
      else setMotor s m (sixStepPwm s m s1 (if bdDriven s m then ticksUs (get s (motIdx m) 0x0F) / 2 else 0))
    put t (motIdx m) 0x35 (ofBool (cappedNow t m))

/-- A running motor against its commanded speed (R460 step 4, R553): the serve passes at speed; a polygon within 0.5 % for 100 ms locks. -/
def speedProgress (s : State) (m : Nat) : State :=
  let x := motor s m
  let near := withinPerMille 5 x.target (getS s 32 (motIdx m) 0x31)
  let t := if near && rampOver s m then motorReached s m else s
  if 6 ≤ m ∨ motorState s m ≠ 3 then t
  else if !near then setMotor t m fun y => { y with inBand := none }
  else match x.inBand with
    | none => setMotor t m fun y => { y with inBand := some s.time }
    | some b =>
      if b + ticksMs 100 ≤ s.time then
        setMotor (setMotorState t m 4) m fun y => { y with grid := none, inWindow := 0, outWindow := 0 }
      else t

/-- What a period's end finds (R450, R460, R464, R467): the faults that show there, the progress of a stop, lock. -/
def periodEnd (s : State) (m : Nat) : State :=
  let x := motor s m
  let st := motorState s m
  let v := getS s 32 (motIdx m) 0x31
  if 16 ≤ x.holds then motorFault (setMotor s m fun y => { y with holds := 0 }) m 5
  else if 110 * get s (motIdx m) 0x0C < 100 * v.natAbs then motorFault s m 6
  else if (st = 4 ∨ st = 5) ∧ !withinPerMille 20 (commandedNow s m) v then motorFault s m 8
  else if st = 6 then
    (if x.lowSides then s else if nearStill s m then shortLowSides s m else setMotor s m fun y => { y with brake := nextBrake s m })
  else if x.target = 0 ∧ rampOver s m ∧ nearStill s m then shortLowSides s m
  else if 3 ≤ st then speedProgress s m
  else s

/-- The gates at the start of a period (R437, R438, R465): low where the motor has stopped on a fault, else as the new duties say. -/
def startGates (s : State) (m : Nat) : State :=
  if motorState s m = 7 then (if (motor s m).gatesLow then s else gatesOff s m) else driveGates s m

/-- PWM_PERIOD (R439): the start of a period; the samples are the shunt converter's codes of the period that ends. -/
def execPwmPeriod (m : Fin 12) (sample1 sample2 : Int) (s : State) : Host.Outcome State Fault Refusal :=
  let i (c : Int) : Int := shuntCurrent s m.val c
  let t := if bridgeOn s m.val then periodEnd (controlPeriod (encoderMeasured s m.val) m.val (i sample1) (i sample2)) m.val else s
  done (startGates t m.val)

/-! ## Spin-up of a polygon (R460) -/

/-- The time of the n-th open-loop commutation after the ramp's start, in ticks (R460 step 2): linear acceleration to the end speed, then that
speed; none where the end speed is 0. -/
def openStepAt (s : State) (m n : Nat) : Option Nat :=
  let e := get s (motIdx m) 5 * (get s (motIdx m) 0x11 % 65536)
  let d := ticksMs (get s (motIdx m) 0x11 / 65536)
  if e = 0 then none
  else
    let r := isqrt (20 * d * n * 1500000000 / e)
    some (if r ≤ d then r else d / 2 + 15000000000 * n / e)

/-- ALIGN_END (R460): the open-loop ramp begins. -/
def execAlignEnd (m : Fin 6) (s : State) : Host.Outcome State Fault Refusal :=
  if bridgeOn s m.val && motorState s m.val == 1 then
    done (setMotor (setMotorState s m.val 2) m.val fun x =>
      { x with openFrom := s.time, openSteps := 0, crossings := 0, crossed := true, lastStep := s.time, stepPeriod := 0, step := 0,
               nextStep := (openStepAt s m.val 1).map (· + s.time) })
  else done s

/-- RAMP_END (R460): RUN after enough crossings; else ALIGN once more, and then a start fault. -/
def execRampEnd (m : Fin 6) (s : State) : Host.Outcome State Fault Refusal :=
  let n := m.val
  if bridgeOn s n && motorState s n == 2 then
    if get s (motIdx n) 0x12 ≤ (motor s n).crossings then done (beginRun s n)
    else if (motor s n).alignRetry then done (motorFault s n 7)
    else done (setMotor (spinUp s n) n fun x => { x with alignRetry := true })
  else done s

/-! ## Commutation (R444 to R447) -/

/-- Whether motor m commutates on back-EMF or open loop. -/
def emfDriven (s : State) (m : Nat) : Bool :=
  bridgeOn s m && !(motor s m).lowSides && (waveform s m == 1 || waveform s m == 2) && decide (2 ≤ motorState s m) && !bdDriven s m

/-- ZERO_CROSSING (R444, R460): at press time t; the next commutation falls half a step period later, in RAMP it is only counted. -/
def execZeroCrossing (m : Fin 6) (t : Nat) (s : State) : Host.Outcome State Fault Refusal :=
  let n := m.val
  if emfDriven s n && !(motor s n).crossed then
    if motorState s n = 2 then done (setMotor s n fun x => { x with crossed := true, crossings := x.crossings + 1 })
    else done (setMotor s n fun x => { x with crossed := true, nextStep := some (t + x.stepPeriod / 2) })
  else done s

/-- The next step of a polygon at press time t: period and speed follow; in RAMP a step without a crossing breaks the count. -/
def commutate (s : State) (m t : Nat) : State :=
  let ramp := motorState s m == 2
  let u := setMotor s m fun x =>
    { x with step := (x.step + 1) % 6, stepPeriod := t - x.lastStep, lastStep := t, crossed := false,
             crossings := if ramp && !x.crossed then 0 else x.crossings, openSteps := x.openSteps + 1,
             nextStep := if ramp then (openStepAt s m (x.openSteps + 2)).map (· + x.openFrom) else none }
  if tracking s m && (motorState s m == 4 || motorState s m == 5) then u
  else putS u 32 (motIdx m) 0x31 (sectorSpeed u m (motor u m).stepPeriod)

/-- Whether the scheduled commutation is due at t. -/
def stepDue (s : State) (m t : Nat) : Bool :=
  match (motor s m).nextStep with
  | some d => decide (d ≤ t)
  | none => false

/-- Whether the electrical angle by BD at press time t has reached the next of the six sectors (R445). -/
def bdStepDue (s : State) (m t : Nat) : Bool := bdElectrical s m t * 6 / 65536 == ((motor s m).step + 1) % 6

/-- COMMUTATION (R444, R445): at press time t, as scheduled, or where the BD angle says so. A drive commutates on its Hall edges. -/
def execCommutation (m : Fin 12) (t : Nat) (s : State) : Host.Outcome State Fault Refusal :=
  let n := m.val
  if decide ((motor s n).lastStep ≤ t) && (emfDriven s n && stepDue s n t || bridgeOn s n && bdDriven s n && bdStepDue s n t) then done (commutate s n t) else done s

/-- HALL_EDGE (R446): the code of the three Hall inputs after the edge, at press time t; an input in conflict is low (R544). -/
def execHallEdge (m : Fin 12) (code : Fin 8) (t : Nat) (s : State) : Host.Outcome State Fault Refusal :=
  done (hallEdge s m.val (hallMasked s m.val code.val) t)

/-! ## Faults, restart, end of a stop -/

/-- Whether a shunt current trips the comparator (R464): above 1.25 × the current limit. -/
def overCurrent (s : State) (m : Nat) (code : Int) : Bool := decide (5 * get s (motIdx m) 6 < 4 * (shuntCurrent s m code).natAbs)

/-- OVERCURRENT (R464, R465): the shunt carries a current, as the code of its converter. -/
def execOvercurrent (x : ShuntSample) (s : State) : Host.Outcome State Fault Refusal :=
  if bridgeOn s x.m.val && overCurrent s x.m.val x.code then done (motorFault s x.m.val 1) else done s

/-- Whether the demand stands at the current limit with the speed below 10 % of the command (R464). -/
def stalled (s : State) (m : Nat) : Bool :=
  let st := motorState s m
  (st == 3 || st == 4 || st == 5) && decide (get s (motIdx m) 6 ≤ (motor s m).demand.natAbs) &&
    decide (10 * (getS s 32 (motIdx m) 0x31).natAbs < (commandedNow s m).natAbs)

/-- STALL_TIMEOUT (R464). -/
def execStallTimeout (m : Fin 12) (s : State) : Host.Outcome State Fault Refusal :=
  if bridgeOn s m.val && stalled s m.val then done (motorFault s m.val 2) else done s

/-- BACK_EMF_LOSS (R464): in RUN, no crossing since the last commutation. -/
def execBackEmfLoss (m : Fin 6) (s : State) : Host.Outcome State Fault Refusal :=
  if emfDriven s m.val && motorState s m.val == 3 && !(motor s m.val).crossed then done (motorFault s m.val 4) else done s

/-- MOTOR_RESTART (R465, R468). -/
def execMotorRestart (m : Fin 12) (s : State) : Host.Outcome State Fault Refusal :=
  if (motor s m.val).restart && motorState s m.val == 7 && s.md.mode != .safestop then done (restartMotor s m.val) else done s

/-- BRAKE_END (R467): the three low sides have conducted for 500 ms. -/
def execBrakeEnd (m : Fin 12) (s : State) : Host.Outcome State Fault Refusal :=
  if motorState s m.val == 6 && (motor s m.val).lowSides then done (motorOff s m.val) else done s

end Sys2Proof.Machine
end

