-- ==== Sys2Proof/Machine/Axes.lean ====
section
/-! DEFINITION. The commands of the axes: ends of moves, homing, limits, driver faults, and the release of what waits for the committed
path (14_axes.md; R28, R29 for motors as well). -/

namespace Sys2Proof.Machine

/-- MOVE_END (R478, R487, R493): the last step of the running move, of a stop or of an align move. -/
def execMoveEnd (a : Fin 16) (s : State) : Host.Outcome State Fault Refusal :=
  let n := a.val
  if axState s n = 2 ∨ axState s n = 3 then done (setAxis (endMove s n) n fun x => { x with aligning := false }) else done s

/-! ## Deferred commands (R28, R29, R458, R490) -/

/-- The last trailing edge has left an axis or motor: every COMMITTED sheet that holds it leaves it (R28). -/
def leavePath (s : State) (b : Nat) : State :=
  { s with sheets := s.sheets.map fun sh => if sh.holds b then { sh with left := setBit sh.left b } else sh }

/-- The deferred command of an axis acts, or waits on for another member of its group (R490). -/
def releaseAxis (s : State) (a : Nat) : State :=
  let t := setAxis s a fun x => { x with deferred := none }
  match (axis s a).deferred with
  | none => s
  | some (.move v) => if axisModeCode s .move = 0 ∧ ((heldOf t a (moveSet t a v)).isSome ∨ moveRefusal t a v = 0) then moveCommand t a v else t
  | some (.stop hard) => stopCommand t a hard
  | some .resume => if axisModeCode s .move = 0 ∧ ((heldOf t a (resumeSet t a)).isSome ∨ resumeRefusal t a = 0) then resumeCommand t a else t
  | some .home => if axisModeCode s .home = 0 ∧ homeRefusal t a = 0 then startHoming t a else t

/-- The deferred command of a motor acts. -/
def releaseMotor (s : State) (m : Nat) : State :=
  match (motor s m).deferred with
  | none => s
  | some k => if motorModeCode s = 0 ∧ entryCheck s m k = 0 then commandEntry s m k else setMotor s m fun x => { x with deferred := none }

/-- DEFERRED_COMMAND_RELEASE (R28): bits 0 to 15 are axes, 16 to 27 motors, as in a path profile (R27). -/
def execDeferredCommandRelease (target : Fin 28) (s : State) : Host.Outcome State Fault Refusal :=
  let t := leavePath s target.val
  done (if target.val < 16 then releaseAxis t target.val else releaseMotor t (target.val - 16))

/-! ## Standstill and homing (R482, R483, R492) -/

/-- STANDSTILL_DELAY_END (R492). -/
def execStandstillDelayEnd (a : Fin 16) (s : State) : Host.Outcome State Fault Refusal :=
  if axState s a.val = 1 ∨ axState s a.val = 4 then done (takeStandstill s a.val) else done s

/-- The input whose edge a homing waits for to latch, by its route code (R482, R543). -/
def latchInput (s : State) (a : Nat) : Nat :=
  if (axis s a).homing = some .index then 0x1000 + 16 * a
  else if get s (axIdx a) 0x40 = 1 then (if flag s (axIdx a) 0x41 then 0x1004 else 0x1003) + 16 * a
  else 0x1002 + 16 * a

/-- HOMING_LATCH (R482): the inactive edge of the switch on the way back, or the active edge of INDEX; H3 goes on to INDEX first. An input in
conflict has no edge (R544). -/
def execHomingLatch (a : Fin 16) (s : State) : Host.Outcome State Fault Refusal :=
  let n := a.val
  if inConflict s (latchInput s n) then done s
  else match (axis s n).homing with
  | some .back => done (if get s (axIdx n) 0x40 = 3 then homingOnward s n else homingLatched s n)
  | some .index => done (homingLatched (setAxis s n fun x => { x with indexIn := true }) n)
  | _ => done s

/-- The end of the search of H4 (R482): the position becomes the offset. -/
def hardStopFound (s : State) (a : Nat) : State :=
  let t := match (axis s a).move with
    | some m => settlePosition s a (m.from_ + m.dist) m.dist.natAbs
    | none => s
  restAxis (homingDone (putS t 32 (axIdx a) 0x31 (getS s 32 (axIdx a) 0x45)) a) a

/-- HOMING_SEARCH_END (R482, R483): the maximum search distance is travelled. -/
def execHomingSearchEnd (a : Fin 16) (s : State) : Host.Outcome State Fault Refusal :=
  let n := a.val
  if axState s n = 5 then done (if get s (axIdx n) 0x40 = 4 then hardStopFound s n else homingFail s n) else done s

/-- HOME_ACTIVE (R482): in the search of H2 and H3 the axis turns back. -/
def execHomeActive (a : Fin 16) (s : State) : Host.Outcome State Fault Refusal :=
  let n := a.val
  let k := get s (axIdx n) 0x40
  if (axis s n).homing = some .search ∧ (k = 2 ∨ k = 3) ∧ !inConflict s (0x1002 + 16 * n) then done (homingBack s n) else done s

/-! ## Limits (R483, R485, R486) -/

/-- LIMIT_ACTIVE (R485): it acts on motion toward its side. -/
def execLimitActive (a : Fin 16) (positive : Bool) (s : State) : Host.Outcome State Fault Refusal :=
  done (limitActive s a.val positive)

/-! ## Driver faults (R495, R563) -/

/-- AXIS_DRIVER_FAULT (R495): FLT turns active; it acts on an enabled axis. -/
def execAxisDriverFault (a : Fin 16) (s : State) : Host.Outcome State Fault Refusal :=
  done (fltActive s a.val)

/-- AXIS_REENABLE (R495): the driver is enabled again; FLT that is still active has persisted through the second serve. -/
def execAxisReenable (a : Fin 16) (s : State) : Host.Outcome State Fault Refusal :=
  let n := a.val
  if (axis s n).reenable && axState s n == 6 && s.md.mode != .safestop then
    if (axis s n).fltIn then done (driverDouble s n)
    else
      let t := setAxis s n fun x => { x with reenable := false, state := 1, en := true }
      done (servePass t .axisDriver n 0x0C (axIdx n) 0x35)
  else done s

/-- AXIS_FLT_INACTIVE (R563): the instance of cause 0x07 ends; an input in conflict stays active (R544). -/
def execAxisFltInactive (a : Fin 16) (s : State) : Host.Outcome State Fault Refusal :=
  done (if inConflict s (0x1001 + 16 * a.val) then s else fltInactive s a.val)

end Sys2Proof.Machine
end

