-- ==== Sys2Proof/Machine/Loops.lean ====
section
/-! DEFINITION. The commands of the loop engine: evaluations, restarts, conversions and the fuser's zero cross (15_loops.md). -/

namespace Sys2Proof.Machine

/-- Whether the loop engine and the converters run: CD16 and CD19 run in the mode (R170, R533). -/
def engineRuns (s : State) : Bool :=
  match s.md.mode with
  | .kickoff => false | .terp => false | .doze => false
  | .shutdown => !s.md.offStarted
  | _ => true

/-! ## Evaluations (R500, R513, R526, R563) -/

/-- The SAFESTOP cause that an evaluation asks for: a trip persists while x stands at or above the trip level (R526, R563). -/
def evaluationCause (s : State) (n : Nat) (c : Option Nat) : State :=
  match c with
  | some 0x0C => if get s (loopIdx n) 0x36 = 4 then safestopBy s 0x0C (causeInst .loop n) else safestop s 0x0C
  | some c => safestop s c
  | none => s

/-- The trip of a loop no longer persists once x lies below its trip level. -/
def tripEnds (s : State) (n : Nat) : State :=
  if measured s n < getS s 32 (loopIdx n) 0x12 then causeEnd s 0x0C (causeInst .loop n) else s

/-- LOOP_EVALUATION (R513). -/
def execLoopEvaluation (n : Fin 48) (s : State) : Host.Outcome State Fault Refusal :=
  if engineRuns s && loopPresent s n.val && law s n.val != 0 then
    let r := evalLoop (tripEnds s n.val) n.val
    done (evaluationCause r.1 n.val r.2)
  else done s

/-- LOOP_RESTART (R517, R528): the restart pause has passed. -/
def execLoopRestart (n : Fin 48) (s : State) : Host.Outcome State Fault Refusal :=
  if (loop s n.val).state == 3 then done (loopRestartNow s n.val) else done s

/-! ## Conversions (R503 to R512, R298) -/

/-- Whether a loop is in soft-start or running. -/
def loopUp (s : State) (n : Nat) : Bool := (loop s n).state == 1 || (loop s n).state == 2

/-- The fuser loops that read AIN i have their gates held low at once (R511); other loops find the input at their next evaluation. -/
def fuserBroken (s : State) (i : Nat) : State :=
  forEach ((loopsOf s i).filter fun n => (n == 26 || n == 27) && loopUp s n) loopBroken s

/-- The second BROKEN conversion in a row (R512): DOUBLE; SAFESTOP for loops of L0 to L27, off until a command for L40 to L47. -/
def brokenTwice (s : State) (i : Nat) : State :=
  let t := doubleFault s .thermistor i 0 0x0D (ainIdx i) 0x0A
  let t := forEach ((loopsOf t i).filter fun n => decide (40 ≤ n) && loopUp t n) loopOffNow t
  if (loopsOf t i).any fun n => decide (n < 28) then safestopBy t 7 (causeInst .thermistor i) else t

/-- A BROKEN conversion of AIN i (R298, R509, R511, R512). -/
def takeBroken (s : State) (i v1 : Nat) : State :=
  let t := brokenConversion s i v1
  let t := brokenInput t i
  if serving s .thermistor i then brokenTwice t i
  else if (ain s i).broken then t
  else fuserBroken (serveBegin t .thermistor i 0 0x0D (ainIdx i) 0x0A) i

/-- A conversion that is not BROKEN (R503, R512): a broken input was transient, and its loops restart by soft-start. -/
def takeGood (s : State) (i v1 : Nat) : State :=
  let t := goodConversion s i v1
  let t := causeEnd (servePass t .thermistor i 0x0D (ainIdx i) 0x0A) 7 (causeInst .thermistor i)
  forEach ((loopsOf t i).filter fun n => (loop t n).broken && loopUp t n) softStart t

/-- CONVERSION (R503, R508): the codes of the samples V1 and, in thermistor mode, V2. -/
def execConversion (i : Fin 48) (v1 v2 : Nat) (s : State) : Host.Outcome State Fault Refusal :=
  let n := i.val
  let mode := get s (ainIdx n) 1
  if engineRuns s && mode != 0 then
    let g := gain10 s n
    let t := if mode = 2 ∧ brokenPair g (get s (ainIdx n) 4) (tenths g v1) (tenths g v2) then takeBroken s n v1 else takeGood s n v1
    let t := wrapBy 64 t (0x3C40 + n / 12) 2 1
    done (if get s 0x2300 7 = n then capacityFrom s t else t)
  else done s

/-! ## The fuser's zero cross (R522, R523) -/

/-- The gate pulse of zone z at an edge (R522): when its loop's output is 1. -/
def zonePulse (s : State) (z : Nat) : State :=
  let l := loop s (26 + z)
  if loopUp s (26 + z) && !l.broken && l.y == 1 && !s.pins.ilockOpen then emit s (.fuserPulse z (get s 0x3930 4) (get s 0x3930 5)) else s

/-- The return of edges after a loss is the second serve: both loops restart by soft-start, and the cause no longer persists (R523, R563). -/
def edgesBack (s : State) : State :=
  if !s.pins.zcLost then s
  else
    let t := { s with pins := { s.pins with zcLost := false } }
    let t := forEach ([26, 27].filter (loopUp t)) softStart t
    causeEnd (servePass t .zeroCross 255 0x0D 0x3930 7) 7 (causeInst .zeroCross 255)

/-- Whether an edge of ZC_IN is accepted (R586): not less than 2 ms after the previous accepted one. -/
def zcAccepted (s : State) : Bool :=
  match s.pins.zcSeen with
  | some a => decide (a + ticksMs 2 ≤ s.time)
  | none => true

/-- ZC_IN_EDGE (R522, R586): the half-period is measured, and each zone whose output is on fires. -/
def execZcInEdge (s : State) : Host.Outcome State Fault Refusal :=
  if engineRuns s && zcAccepted s then
    let t := match s.pins.zcSeen with
      | some a => put s 0x3930 3 ((s.time - a) / 1500 % 2 ^ 32)
      | none => s
    let t := if s.pins.zcLost then t else zonePulse (zonePulse t 0) 1
    done (edgesBack { t with pins := { t.pins with zcSeen := some s.time } })
  else done s

/-- ZERO_CROSS_TIMEOUT (R523): both gates low, fault 5, FAULT; within 10 s of the last restart a double fault. -/
def execZeroCrossTimeout (s : State) : Host.Outcome State Fault Refusal :=
  if engineRuns s && !s.pins.zcLost then
    let t := loopFault (loopFault (sat s 0x3930 7) 26 5) 27 5
    let t := logEvent { t with pins := { t.pins with zcLost := true, zcSeen := none } } clsFault 0x0D 255 0x3930 7
    let t := forEach ([26, 27].filter (loopUp t)) outputOff t
    if servedWithin s .zeroCross 255 (ticksS 10) then done (safestopBy (doubleFault t .zeroCross 255 5 0x0D 0x3930 7) 7 (causeInst .zeroCross 255))
    else done (serveBegin t .zeroCross 255 5 0x0D 0x3930 7)
  else done s

end Sys2Proof.Machine
end

