-- ==== Sys2Proof/Machine/PinCommands.lean ====
section
/-! DEFINITION. The commands of the multiplexed pins that no access brings: drive mismatches and bank supplies (16_pins.md). -/

namespace Sys2Proof.Machine

/-- DRIVE_MISMATCH (R547): a driven pad shows the other level. -/
def execDriveMismatch (p : Fin 96) (s : State) : Host.Outcome State Fault Refusal :=
  match driven s p.val with
  | some v =>
    let t := { s with pins := { s.pins with mismatched := tabSet s.pins.mismatched p.val (1 - v) } }
    done (sat t (pinIdx p.val) 0x0B)
  | none => done s

/-- Whether a bank is good at a supply of mv mV, of a nominal n mV, that it has held for `held` µs (R535): above 90 % for 10 µs it becomes good,
below 85 % it stops being good. -/
def bankLevel (was : Bool) (n mv held : Nat) : Bool :=
  if 90 * n < 100 * mv then was || decide (10 ≤ held) else if 100 * mv < 85 * n then false else was

/-- BANK_SUPPLY_CHANGE (R535): the supply of VDDIO33 or VDDIO18 as sensed at its balls. -/
def execBankSupplyChange (bank33 : Bool) (x : BankSupply) (s : State) : Host.Outcome State Fault Refusal :=
  done { s with pins := if bank33 then { s.pins with bank33 := bankLevel s.pins.bank33 3300 x.mv x.held }
                        else { s.pins with bank18 := bankLevel s.pins.bank18 1800 x.mv x.held } }

end Sys2Proof.Machine
end

