-- ==== Sys2Proof/Machine/Dispatch.lean ====
section
/-! DEFINITION. The dispatch of commands to their meanings: one arm for each constructor of Instr. -/

namespace Sys2Proof.Machine

def exec (i : Instr) (s : State) : Host.Outcome State Fault Refusal :=
  match i with
  | .aonPowerGood => Sys2Proof.Machine.execAonPowerGood s
  | .kickoffWatchdog => Sys2Proof.Machine.execKickoffWatchdog s
  | .warmResetHoldEnd => Sys2Proof.Machine.execWarmResetHoldEnd s
  | .porst => Sys2Proof.Machine.execPorst s
  | .brownOut => Sys2Proof.Machine.execBrownOut s
  | .wakeIn => Sys2Proof.Machine.execWakeIn s
  | .pciExpressWake => Sys2Proof.Machine.execPciExpressWake s
  | .dozeWakeComplete index => Sys2Proof.Machine.execDozeWakeComplete index s
  | .terpRestart acc data => Sys2Proof.Machine.execTerpRestart acc data s
  | .ownerKeyWrite acc data => Sys2Proof.Machine.execOwnerKeyWrite acc data s
  | .debugChallenge => Sys2Proof.Machine.execDebugChallenge s
  | .debugResponse rs => Sys2Proof.Machine.execDebugResponse rs s
  | .railEnable r => Sys2Proof.Machine.execRailEnable r s
  | .railGood r x => Sys2Proof.Machine.execRailGood r x s
  | .rampFault r reading => Sys2Proof.Machine.execRampFault r reading s
  | .retryPauseEnd => Sys2Proof.Machine.execRetryPauseEnd s
  | .railWarning r x => Sys2Proof.Machine.execRailWarning r x s
  | .railFault r x => Sys2Proof.Machine.execRailFault r x s
  | .railResetOffStart => Sys2Proof.Machine.execRailResetOffStart s
  | .railDisable r => Sys2Proof.Machine.execRailDisable r s
  | .shutdownOffStart => Sys2Proof.Machine.execShutdownOffStart s
  | .shutdownSequenceEnd => Sys2Proof.Machine.execShutdownSequenceEnd s
  | .dozeEnter => Sys2Proof.Machine.execDozeEnter s
  | .modeRequest acc data => Sys2Proof.Machine.execModeRequest acc data s
  | .safestopEntryComplete => Sys2Proof.Machine.execSafestopEntryComplete s
  | .safestopAcknowledge acc data => Sys2Proof.Machine.execSafestopAcknowledge acc data s
  | .admissionEnable acc data => Sys2Proof.Machine.execAdmissionEnable acc data s
  | .modeRouteStep => Sys2Proof.Machine.execModeRouteStep s
  | .warmupComplete => Sys2Proof.Machine.execWarmupComplete s
  | .warmupLimitExpiry => Sys2Proof.Machine.execWarmupLimitExpiry s
  | .standbyIdleExpiry => Sys2Proof.Machine.execStandbyIdleExpiry s
  | .readyIdleExpiry => Sys2Proof.Machine.execReadyIdleExpiry s
  | .calibrationComplete => Sys2Proof.Machine.execCalibrationComplete s
  | .objectWrite acc idx sub data => Sys2Proof.Machine.execObjectWrite acc idx sub data s
  | .thresholdWrite acc idx sub data => Sys2Proof.Machine.execThresholdWrite acc idx sub data s
  | .watermarkLatchRead acc idx sub => Sys2Proof.Machine.execWatermarkLatchRead acc idx sub s
  | .readToClear acc idx sub => Sys2Proof.Machine.execReadToClear acc idx sub s
  | .apply acc data => Sys2Proof.Machine.execApply acc data s
  | .discardStaging acc data => Sys2Proof.Machine.execDiscardStaging acc data s
  | .deferredGroupTake g => Sys2Proof.Machine.execDeferredGroupTake g s
  | .anonymousAccessorTimeout ip port => Sys2Proof.Machine.execAnonymousAccessorTimeout ip port s
  | .patronHeartbeat => Sys2Proof.Machine.execPatronHeartbeat s
  | .referenceLoss => Sys2Proof.Machine.execReferenceLoss s
  | .referenceLossReset => Sys2Proof.Machine.execReferenceLossReset s
  | .relock acc data => Sys2Proof.Machine.execRelock acc data s
  | .relockLockDetect => Sys2Proof.Machine.execRelockLockDetect s
  | .relockLockTimeout => Sys2Proof.Machine.execRelockLockTimeout s
  | .relockSettleEnd held => Sys2Proof.Machine.execRelockSettleEnd held s
  | .frequencyCheckEnd count => Sys2Proof.Machine.execFrequencyCheckEnd count s
  | .stationDllLocked st => Sys2Proof.Machine.execStationDllLocked st s
  | .ceilingTrip => Sys2Proof.Machine.execCeilingTrip s
  | .timebaseLockLoss => Sys2Proof.Machine.execTimebaseLockLoss s
  | .dllLockLoss st => Sys2Proof.Machine.execDllLockLoss st s
  | .dllRelockTimeout st => Sys2Proof.Machine.execDllRelockTimeout st s
  | .read src tid idx sub => Sys2Proof.Machine.execRead src tid idx sub s
  | .writeExpedited src tid idx sub data => Sys2Proof.Machine.execWriteExpedited src tid idx sub data s
  | .writeSegmented src tid idx sub total => Sys2Proof.Machine.execWriteSegmented src tid idx sub total s
  | .segment src tid last seq data => Sys2Proof.Machine.execSegment src tid last seq data s
  | .segmentAck src tid seq => Sys2Proof.Machine.execSegmentAck src tid seq s
  | .abort src tid code => Sys2Proof.Machine.execAbort src tid code s
  | .readResponse src tid status data => Sys2Proof.Machine.execReadResponse src tid status data s
  | .writeResponse src tid status code => Sys2Proof.Machine.execWriteResponse src tid status code s
  | .cyclicIn src map cycle data => Sys2Proof.Machine.execCyclicIn src map cycle data s
  | .rollcallAnswer src identity dictRev plcaId => Sys2Proof.Machine.execRollcallAnswer src identity dictRev plcaId s
  | .rollcall src round base slots slotLen => Sys2Proof.Machine.execRollcall src round base slots slotLen s
  | .sessionHello src slot nonce => Sys2Proof.Machine.execSessionHello src slot nonce s
  | .sessionClose src slot => Sys2Proof.Machine.execSessionClose src slot s
  | .nonTdpFrame p => Sys2Proof.Machine.execNonTdpFrame p s
  | .invalidTdpFrame p badAuth => Sys2Proof.Machine.execInvalidTdpFrame p badAuth s
  | .lowerRetryExpiry n tid => Sys2Proof.Machine.execLowerRetryExpiry n tid s
  | .upperTimeout n tid => Sys2Proof.Machine.execUpperTimeout n tid s
  | .busOff p => Sys2Proof.Machine.execBusOff p s
  | .rollcallBlockEnd p => Sys2Proof.Machine.execRollcallBlockEnd p s
  | .rollcallPollTimeout p => Sys2Proof.Machine.execRollcallPollTimeout p s
  | .rollCallComplete => Sys2Proof.Machine.execRollCallComplete s
  | .partnerIdleTimeout n => Sys2Proof.Machine.execPartnerIdleTimeout n s
  | .sessionTimeout id => Sys2Proof.Machine.execSessionTimeout id s
  | .portConfigWrite acc p sub data => Sys2Proof.Machine.execPortConfigWrite acc p sub data s
  | .partnerPortWrite acc n data => Sys2Proof.Machine.execPartnerPortWrite acc n data s
  | .keySlotWrite acc sub data => Sys2Proof.Machine.execKeySlotWrite acc sub data s
  | .sheetTailDoorbell t index => Sys2Proof.Machine.execSheetTailDoorbell t index s
  | .completionHeadDoorbell t index => Sys2Proof.Machine.execCompletionHeadDoorbell t index s
  | .cancelDoorbell t index => Sys2Proof.Machine.execCancelDoorbell t index s
  | .mailboxRead fn op idx sub buffer => Sys2Proof.Machine.execMailboxRead fn op idx sub buffer s
  | .mailboxWrite fn idx sub len addr data => Sys2Proof.Machine.execMailboxWrite fn idx sub len addr data s
  | .descriptorFetch t => Sys2Proof.Machine.execDescriptorFetch t s
  | .descriptorReceived t bytes => Sys2Proof.Machine.execDescriptorReceived t bytes s
  | .planeFetchStart t => Sys2Proof.Machine.execPlaneFetchStart t s
  | .planeReadCompletion t ring st unit plane => Sys2Proof.Machine.execPlaneReadCompletion t ring st unit plane s
  | .ingestReadError t e repeatFails => Sys2Proof.Machine.execIngestReadError t e repeatFails s
  | .coalescingTimeout t => Sys2Proof.Machine.execCoalescingTimeout t s
  | .busMasterEnable t on => Sys2Proof.Machine.execBusMasterEnable t on s
  | .functionLevelReset fn => Sys2Proof.Machine.execFunctionLevelReset fn s
  | .pePerst => Sys2Proof.Machine.execPePerst s
  | .tenantResetWrite acc t data => Sys2Proof.Machine.execTenantResetWrite acc t data s
  | .tenantEnable acc t data => Sys2Proof.Machine.execTenantEnable acc t data s
  | .tenantDisable acc t data => Sys2Proof.Machine.execTenantDisable acc t data s
  | .scrubComplete t => Sys2Proof.Machine.execScrubComplete t s
  | .mr4Read a b => Sys2Proof.Machine.execMr4Read a b s
  | .dramUncorrectableRead reader addr errors => Sys2Proof.Machine.execDramUncorrectableRead reader addr errors s
  | .patrolOverdue => Sys2Proof.Machine.execPatrolOverdue s
  | .dikePeriod work => Sys2Proof.Machine.execDikePeriod work s
  | .admissionPass => Sys2Proof.Machine.execAdmissionPass s
  | .decoderPlaneStart st => Sys2Proof.Machine.execDecoderPlaneStart st s
  | .bandDecode st unit reads words => Sys2Proof.Machine.execBandDecode st unit reads words s
  | .pointerMismatch copy => Sys2Proof.Machine.execPointerMismatch copy s
  | .scanStart st lastLineBytes inputHeld words => Sys2Proof.Machine.execScanStart st lastLineBytes inputHeld words s
  | .scanUnderrun st pixel => Sys2Proof.Machine.execScanUnderrun st pixel s
  | .scanEnd st => Sys2Proof.Machine.execScanEnd st s
  | .bdEdge st e => Sys2Proof.Machine.execBdEdge st e s
  | .bdWindowClose st => Sys2Proof.Machine.execBdWindowClose st s
  | .patchMeasurement st marks => Sys2Proof.Machine.execPatchMeasurement st marks s
  | .linkRetrain acc st data => Sys2Proof.Machine.execLinkRetrain acc st data s
  | .bringUpStepTimeout st => Sys2Proof.Machine.execBringUpStepTimeout st s
  | .ldFltSoftError st => Sys2Proof.Machine.execLdFltSoftError st s
  | .ldFltHardFault st status => Sys2Proof.Machine.execLdFltHardFault st status s
  | .serdesLockLoss st status => Sys2Proof.Machine.execSerdesLockLoss st status s
  | .serviceApcWindow acc st data => Sys2Proof.Machine.execServiceApcWindow acc st data s
  | .serviceBdWindowsStart acc st data => Sys2Proof.Machine.execServiceBdWindowsStart acc st data s
  | .serviceBdWindowsStop acc st data => Sys2Proof.Machine.execServiceBdWindowsStop acc st data s
  | .serviceWindow acc st data => Sys2Proof.Machine.execServiceWindow acc st data s
  | .ilockOpen => Sys2Proof.Machine.execIlockOpen s
  | .ilockClosedHoldEnd => Sys2Proof.Machine.execIlockClosedHoldEnd s
  | .image slot late => Sys2Proof.Machine.execImage slot late s
  | .axisMove slot => Sys2Proof.Machine.execAxisMove slot s
  | .axisRampedStop slot => Sys2Proof.Machine.execAxisRampedStop slot s
  | .motorSpeed slot => Sys2Proof.Machine.execMotorSpeed slot s
  | .pinSet slot => Sys2Proof.Machine.execPinSet slot s
  | .arrivalCheck slot levels => Sys2Proof.Machine.execArrivalCheck slot levels s
  | .loopSetPointBank slot => Sys2Proof.Machine.execLoopSetPointBank slot s
  | .loopOn slot => Sys2Proof.Machine.execLoopOn slot s
  | .loopOff slot => Sys2Proof.Machine.execLoopOff slot s
  | .networkCycleStart skipped => Sys2Proof.Machine.execNetworkCycleStart skipped s
  | .sheetExit slot => Sys2Proof.Machine.execSheetExit slot s
  | .logMark slot => Sys2Proof.Machine.execLogMark slot s
  | .captureTrigger slot => Sys2Proof.Machine.execCaptureTrigger slot s
  | .postEvent acc data => Sys2Proof.Machine.execPostEvent acc data s
  | .cancelByTag acc data => Sys2Proof.Machine.execCancelByTag acc data s
  | .encoderEdge tt e => Sys2Proof.Machine.execEncoderEdge tt e s
  | .encoderWindowClose tt => Sys2Proof.Machine.execEncoderWindowClose tt s
  | .pwmPeriod m sample1 sample2 => Sys2Proof.Machine.execPwmPeriod m sample1 sample2 s
  | .speedCommand acc m data => Sys2Proof.Machine.execSpeedCommand acc m data s
  | .alignEnd m => Sys2Proof.Machine.execAlignEnd m s
  | .rampEnd m => Sys2Proof.Machine.execRampEnd m s
  | .zeroCrossing m t => Sys2Proof.Machine.execZeroCrossing m t s
  | .commutation m t => Sys2Proof.Machine.execCommutation m t s
  | .hallEdge m code t => Sys2Proof.Machine.execHallEdge m code t s
  | .overcurrent x => Sys2Proof.Machine.execOvercurrent x s
  | .stallTimeout m => Sys2Proof.Machine.execStallTimeout m s
  | .backEmfLoss m => Sys2Proof.Machine.execBackEmfLoss m s
  | .motorRestart m => Sys2Proof.Machine.execMotorRestart m s
  | .brakeEnd m => Sys2Proof.Machine.execBrakeEnd m s
  | .axisMoveCommand acc a data => Sys2Proof.Machine.execAxisMoveCommand acc a data s
  | .groupMoveCommand acc a data => Sys2Proof.Machine.execGroupMoveCommand acc a data s
  | .axisRampedStopCommand acc a data => Sys2Proof.Machine.execAxisRampedStopCommand acc a data s
  | .axisHardStopCommand acc a data => Sys2Proof.Machine.execAxisHardStopCommand acc a data s
  | .axisResume acc a data => Sys2Proof.Machine.execAxisResume acc a data s
  | .axisHome acc a data => Sys2Proof.Machine.execAxisHome acc a data s
  | .axisEnable acc a data => Sys2Proof.Machine.execAxisEnable acc a data s
  | .moveEnd a => Sys2Proof.Machine.execMoveEnd a s
  | .deferredCommandRelease target => Sys2Proof.Machine.execDeferredCommandRelease target s
  | .standstillDelayEnd a => Sys2Proof.Machine.execStandstillDelayEnd a s
  | .homingLatch a => Sys2Proof.Machine.execHomingLatch a s
  | .homingSearchEnd a => Sys2Proof.Machine.execHomingSearchEnd a s
  | .limitActive a positive => Sys2Proof.Machine.execLimitActive a positive s
  | .axisDriverFault a => Sys2Proof.Machine.execAxisDriverFault a s
  | .axisReenable a => Sys2Proof.Machine.execAxisReenable a s
  | .loopEvaluation n => Sys2Proof.Machine.execLoopEvaluation n s
  | .loopRestart n => Sys2Proof.Machine.execLoopRestart n s
  | .loopOnCommand acc n data => Sys2Proof.Machine.execLoopOnCommand acc n data s
  | .loopOffCommand acc n data => Sys2Proof.Machine.execLoopOffCommand acc n data s
  | .bankWrite acc n data => Sys2Proof.Machine.execBankWrite acc n data s
  | .conversion n v1 v2 => Sys2Proof.Machine.execConversion n v1 v2 s
  | .zcInEdge => Sys2Proof.Machine.execZcInEdge s
  | .zeroCrossTimeout => Sys2Proof.Machine.execZeroCrossTimeout s
  | .injectionStart acc data => Sys2Proof.Machine.execInjectionStart acc data s
  | .injectionStop acc data => Sys2Proof.Machine.execInjectionStop acc data s
  | .captureArm acc data => Sys2Proof.Machine.execCaptureArm acc data s
  | .captureTriggerWrite acc data => Sys2Proof.Machine.execCaptureTriggerWrite acc data s
  | .pinLock acc p data => Sys2Proof.Machine.execPinLock acc p data s
  | .lockAll acc data => Sys2Proof.Machine.execLockAll acc data s
  | .driveMismatch p => Sys2Proof.Machine.execDriveMismatch p s
  | .bankSupplyChange bank33 x => Sys2Proof.Machine.execBankSupplyChange bank33 x s
  | .lockstepMismatch => Sys2Proof.Machine.execLockstepMismatch s
  | .watchdogExpiry => Sys2Proof.Machine.execWatchdogExpiry s
  | .umpireReset => Sys2Proof.Machine.execUmpireReset s
  | .safeNMismatch => Sys2Proof.Machine.execSafeNMismatch s
  | .mirrorErase => Sys2Proof.Machine.execMirrorErase s
  | .logRead acc => Sys2Proof.Machine.execLogRead acc s
  | .noticeRead acc => Sys2Proof.Machine.execNoticeRead acc s
  | .tjSample sensors => Sys2Proof.Machine.execTjSample sensors s
  | .thermalShutdown => Sys2Proof.Machine.execThermalShutdown s
  | .kickoffStepComplete r => Sys2Proof.Machine.execKickoffStepComplete r s
  | .porstRelease => Sys2Proof.Machine.execPorstRelease s
  | .pePerstRelease speed width => Sys2Proof.Machine.execPePerstRelease speed width s
  | .numvfsWrite n => Sys2Proof.Machine.execNumvfsWrite n s
  | .bringUpStepComplete st regs => Sys2Proof.Machine.execBringUpStepComplete st regs s
  | .busOffRecoveryComplete p => Sys2Proof.Machine.execBusOffRecoveryComplete p s
  | .canErrorFrame p n => Sys2Proof.Machine.execCanErrorFrame p n s
  | .arpRequest senderIp senderMac targetIp => Sys2Proof.Machine.execArpRequest senderIp senderMac targetIp s
  | .icmpEchoRequest senderIp payload => Sys2Proof.Machine.execIcmpEchoRequest senderIp payload s
  | .homeActive a => Sys2Proof.Machine.execHomeActive a s
  | .axisFltInactive a => Sys2Proof.Machine.execAxisFltInactive a s
  | .safeNMismatchEnd => Sys2Proof.Machine.execSafeNMismatchEnd s
  | .ilockClose => Sys2Proof.Machine.execIlockClose s

end Sys2Proof.Machine
end

