-- ==== Sys2Proof/Safety.lean ====
section
/-! DEFINITION. The terms in which claims speak: how a command ends, what it leaves alone, and the rows of the modes that every
command keeps (R44). -/

namespace Sys2Proof.Machine

/-- The command c runs in state s and ends, its automatic row included (R44), from a state of which P holds. `t` is the state that the
command's own effect leaves; `settle` then takes the row that the sheets ask for. -/
def Completes (c : Instr) (s : State) (P : State → Prop) : Prop := ∃ t, exec c s = .next (settle t) ∧ P t

/-- The modes in which the block works (R38): SAFESTOP can be entered out of each of them. -/
def operating : List Mode := [.standby, .warmup, .ready, .rally, .runout, .calibrate, .service]

/-- No automatic row is due: in READY no sheet is ADMITTED, in RALLY and RUNOUT some sheet is ADMITTED or COMMITTED (R44). -/
def Settled (s : State) : Prop := sheetRow s = none

/-- Nothing but the log block, the network's queues and what has been sent out differs. -/
def SameButLog (s t : State) : Prop := t = { s with log := t.log, net := t.net, out := t.out }

/-- Nothing but the objects with these keys, the log block, the network's queues and what has been sent out differs. -/
def SameButObjects (ks : List Nat) (s t : State) : Prop :=
  t = { s with dict := t.dict, log := t.log, net := t.net, out := t.out } ∧ ∀ k, k ∉ ks → tabFind t.dict k = tabFind s.dict k

/-- The objects of a store other than those with these keys are as before. -/
def KeepsObjects (ks : List Nat) (s t : State) : Prop := ∀ k, k ∉ ks → tabFind t.dict k = tabFind s.dict k

/-- An entry of the ring tells of class, kind, source, object and detail (R565, R566). -/
def Entry.tells (e : Entry) (cls kind src idx sub detail : Nat) : Prop :=
  e.cls = cls ∧ e.kind = kind ∧ e.source = src ∧ e.key = keyOf idx sub ∧ e.detail = detail

/-- A write of these octets to an object passes every check of R60, and the block answers accessors at all. -/
def Accepted (s : State) (acc : Accessor) (idx sub : Nat) (data : List Byte) : Prop :=
  answering s = true ∧ writeCode s acc idx sub data = 0

/-- The write is answered to its accessor with success, after whatever else has been sent out (R59). -/
def Answered (acc : Accessor) (t : State) : Prop := t.out.head? = some (.answer acc 0 [])

/-- The bounds of the log block: 4,096 entries in the ring (R568), 32 held before kick-off step 8 (R570), 64 waiting for the mirror
(R574), 128 pending notices (R578). -/
def LogBounds (s : State) : Prop :=
  s.log.ring.length ≤ 4096 ∧ s.log.early.length ≤ 32 ∧ s.log.pending.length ≤ 64 ∧ s.log.notices.length ≤ 128

/-- Commands whose own effect leaves the mode: those of the beam, the decoders, the scheduler's actions, the axes' and motors' own clocks,
the host rings, the rails' turns, and reads. The row of R44 that sheets bring may follow them all the same. -/
def keepsMode : Instr → Bool
  | .kickoffWatchdog => true
  | .pciExpressWake => true
  | .debugChallenge => true
  | .debugResponse _ => true
  | .railEnable _ => true
  | .railGood _ _ => true
  | .retryPauseEnd => true
  | .railWarning _ _ => true
  | .railResetOffStart => true
  | .railDisable _ => true
  | .shutdownOffStart => true
  | .watermarkLatchRead _ _ _ => true
  | .readToClear _ _ _ => true
  | .deferredGroupTake _ => true
  | .anonymousAccessorTimeout _ _ => true
  | .patronHeartbeat => true
  | .relockLockDetect => true
  | .stationDllLocked _ => true
  | .sessionHello _ _ _ => true
  | .nonTdpFrame _ => true
  | .invalidTdpFrame _ _ => true
  | .lowerRetryExpiry _ _ => true
  | .upperTimeout _ _ => true
  | .rollcallBlockEnd _ => true
  | .partnerIdleTimeout _ => true
  | .sessionTimeout _ => true
  | .sheetTailDoorbell _ _ => true
  | .completionHeadDoorbell _ _ => true
  | .cancelDoorbell _ _ => true
  | .mailboxRead _ _ _ _ _ => true
  | .descriptorFetch _ => true
  | .descriptorReceived _ _ => true
  | .planeFetchStart _ => true
  | .ingestReadError _ _ _ => true
  | .coalescingTimeout _ => true
  | .busMasterEnable _ _ => true
  | .functionLevelReset _ => true
  | .pePerst => true
  | .scrubComplete _ => true
  | .patrolOverdue => true
  | .dikePeriod _ => true
  | .admissionPass => true
  | .decoderPlaneStart _ => true
  | .bandDecode _ _ _ _ => true
  | .scanStart _ _ _ _ => true
  | .scanUnderrun _ _ => true
  | .scanEnd _ => true
  | .patchMeasurement _ _ => true
  | .ilockClosedHoldEnd => true
  | .image _ _ => true
  | .axisMove _ => true
  | .axisRampedStop _ => true
  | .motorSpeed _ => true
  | .pinSet _ => true
  | .arrivalCheck _ _ => true
  | .loopSetPointBank _ => true
  | .loopOn _ => true
  | .loopOff _ => true
  | .sheetExit _ => true
  | .logMark _ => true
  | .captureTrigger _ => true
  | .alignEnd _ => true
  | .zeroCrossing _ _ => true
  | .commutation _ _ => true
  | .motorRestart _ => true
  | .brakeEnd _ => true
  | .moveEnd _ => true
  | .deferredCommandRelease _ => true
  | .standstillDelayEnd _ => true
  | .homingLatch _ => true
  | .homingSearchEnd _ => true
  | .limitActive _ _ => true
  | .loopRestart _ => true
  | .zcInEdge => true
  | .driveMismatch _ => true
  | .bankSupplyChange _ _ => true
  | .mirrorErase => true
  | .logRead _ => true
  | .noticeRead _ => true
  | .pePerstRelease _ _ => true
  | .numvfsWrite _ => true
  | .busOffRecoveryComplete _ => true
  | .arpRequest _ _ _ => true
  | .icmpEchoRequest _ _ => true
  | .homeActive _ => true
  | .axisFltInactive _ => true
  | .safeNMismatchEnd => true
  | .ilockClose => true
  | _ => false

/-- The object that a command writes: its accessor, index, subindex and octets; none for a command that is no write. -/
def writeOf : Instr → Option (Accessor × Nat × Nat × List Byte)
  | .terpRestart acc d => some (acc, 0x2040, 2, d)
  | .ownerKeyWrite acc d => some (acc, 0x2710, 2, d)
  | .modeRequest acc d => some (acc, 0x2000, 2, d)
  | .safestopAcknowledge acc d => some (acc, 0x2000, 0x0B, d)
  | .admissionEnable acc d => some (acc, 0x2000, 0x0C, d)
  | .objectWrite acc i j d => some (acc, i, j, d)
  | .thresholdWrite acc i j d => some (acc, i, j, d)
  | .apply acc d => some (acc, 0x2700, 1, d)
  | .discardStaging acc d => some (acc, 0x2700, 2, d)
  | .relock acc d => some (acc, 0x2200, 2, d)
  | .portConfigWrite acc p j d => some (acc, 0x1110 + p.val, j, d)
  | .partnerPortWrite acc n d => some (acc, 0x6000 + n.val, 2, d)
  | .keySlotWrite acc j d => some (acc, 0x2700, j, d)
  | .tenantResetWrite acc t d => some (acc, 0x5000 + t.val, 3, d)
  | .tenantEnable acc t d => some (acc, 0x5000 + t.val, 2, d)
  | .tenantDisable acc t d => some (acc, 0x5000 + t.val, 2, d)
  | .linkRetrain acc n d => some (acc, linkIdx n.val, 2, d)
  | .serviceApcWindow acc n d => some (acc, linkIdx n.val, 9, d)
  | .serviceBdWindowsStart acc n d => some (acc, linkIdx n.val, 9, d)
  | .serviceBdWindowsStop acc n d => some (acc, linkIdx n.val, 9, d)
  | .serviceWindow acc n d => some (acc, linkIdx n.val, 9, d)
  | .postEvent acc d => some (acc, 0x2523, 1, d)
  | .cancelByTag acc d => some (acc, 0x2523, 2, d)
  | .speedCommand acc m d => some (acc, 0x4800 + m.val, 0x18, d)
  | .axisMoveCommand acc a d => some (acc, 0x4900 + a.val, 0x38, d)
  | .groupMoveCommand acc a d => some (acc, 0x4900 + a.val, 0x38, d)
  | .axisRampedStopCommand acc a d => some (acc, 0x4900 + a.val, 0x39, d)
  | .axisHardStopCommand acc a d => some (acc, 0x4900 + a.val, 0x39, d)
  | .axisResume acc a d => some (acc, 0x4900 + a.val, 0x3A, d)
  | .axisHome acc a d => some (acc, 0x4900 + a.val, 0x3B, d)
  | .axisEnable acc a d => some (acc, 0x4900 + a.val, 0x3C, d)
  | .loopOnCommand acc n d => some (acc, 0x3900 + n.val, 0x21, d)
  | .loopOffCommand acc n d => some (acc, 0x3900 + n.val, 0x21, d)
  | .bankWrite acc n d => some (acc, 0x3900 + n.val, 0x20, d)
  | .injectionStart acc d => some (acc, 0x7000, 6, d)
  | .injectionStop acc d => some (acc, 0x7000, 6, d)
  | .captureArm acc d => some (acc, 0x7000, 0x13, d)
  | .captureTriggerWrite acc d => some (acc, 0x7000, 0x14, d)
  | .pinLock acc p d => some (acc, 0x2600 + p.val, 7, d)
  | .lockAll acc d => some (acc, 0x2660, 1, d)
  | _ => none

/-- The sender and the PDU of a command that is a received frame. -/
def pduOf : Instr → Option (FrameSrc × Pdu)
  | .read x tid i j => some (x, .read tid i j)
  | .writeExpedited x tid i j d => some (x, .writeExp tid i j d)
  | .writeSegmented x tid i j n => some (x, .writeSeg tid i j n)
  | .segment x tid last q d => some (x, .segment tid last q d)
  | .segmentAck x tid q => some (x, .segAck tid q)
  | .abort x tid k => some (x, .abort tid k)
  | .readResponse x tid k d => some (x, .readResponse tid k d)
  | .writeResponse x tid k c => some (x, .writeResponse tid k c)
  | .cyclicIn x m q d => some (x, .cyclicIn m q d)
  | .rollcallAnswer x i r q => some (x, .rollcallAnswer i r q)
  | .rollcall x r b k l => some (x, .rollcall r b k l)
  | .sessionHello x k nonce => some (x, .sessionHello k nonce)
  | .sessionClose x k => some (x, .sessionClose k)
  | _ => none

/-- A frame that keeps its layout has arrived: acknowledged, counted, its sender noted, an acyclic one debited (R241, R242). -/
def arrived (s : State) (x : FrameSrc) (u : Pdu) : State :=
  let t := heard (acknowledgeCan s x.p) x u.answersRollcall
  if u.cyclic then t else debitReceived t x u

/-- The frame has passed through the receive queue, which is empty again. -/
def taken (s : State) (x : FrameSrc) (u : Pdu) : State := setRx (setRx (arrived s x u) x.p [(x, u)]) x.p []

/-- The block serves a frame of x as soon as it comes: it keeps its layout, the port is live, the queue empty, the sender owes no airtime, and no session is
open at its address nor asked for. -/
def ServedAtOnce (s : State) (x : FrameSrc) (u : Pdu) : Prop :=
  fits s x u = true ∧ portLive s x.p = true ∧ serves s = true ∧ (port s x.p).rx = [] ∧ waits (arrived s x u) x u = false ∧
    sessionAt s x.ip x.udpPort = none ∧ (x.p = 6 → x.auth = none ∧ get s 0x2700 0x20 = 0)

/-- An answer of this type and payload to the request u of x is kept for its repeat, as the newest (R216). -/
def Replied (t : State) (x : FrameSrc) (tid : Nat) (u : Pdu) (type : Nat) (payload : List Byte) : Prop :=
  ∃ c l, t.net.cache = c :: l ∧ sameRequester c.src x = true ∧ c.tid = tid ∧ c.request = u ∧ c.type = type ∧ c.payload = payload

/-- The last thing sent out is a frame of this type to this partner on port p, with this payload. -/
def Sent (t : State) (p type dst : Nat) (payload : List Byte) : Prop :=
  ∃ own peer, t.out.head? = some (.frame p type dst own payload peer)

/-- The edge that a command brings reaches its tracker: the tracker takes edges, and the edge is of the selected direction (R101, R427), on an input
that is not in conflict (R544). -/
def edgeSeen (s : State) : Instr → Bool
  | .bdEdge st e => trackerLit s st.val && e.rising == bdRising s
  | .encoderEdge tt e => trackerLit s (6 + tt.val) && edgeSelected s (6 + tt.val) e.rising && !inConflict s (0x2000 + (6 + tt.val))
  | _ => false

/-- A run of k steps that meets no stop. -/
inductive Runs : Nat → State → State → Prop where
  | zero (s : State) : Runs 0 s s
  | succ {k : Nat} {s t u : State} (h : step s = .next t) (r : Runs k t u) : Runs (k + 1) s u

end Sys2Proof.Machine
end

