-- ==== Sys2Proof/Certificates/Slice0/Obligations.lean ====
section
/-! DEFINITION. The statements for the provers. A statement "c completes in s with P" says that exec answers a next state and that P holds of
the state t that the command's own effect leaves; the automatic row of R44 (`settle`) closes every command. -/

open Sys2Proof Sys2Proof.Machine

/-! ## The block as a whole -/

/-- A step takes the command at the front of the queue and executes it on the state with the queue's rest. -/
def Obligations.StepRunsFront : Prop :=
  ∀ (c : Instr) (rest : List Instr) (s : State), s.pending = c :: rest → step s = exec c { s with pending := rest }

/-- On an empty queue a step is one tick of press time, which runs from AON power-good on, as an unsigned 64-bit count (R11). With the tick the
beam links send (R374, R385), and nothing else of them changes but the stations' queues and what has been sent out; with the timebase gate
closed they send nothing.
It rests on the model's choices of log 2, 152, 154. -/
def Obligations.EmptyQueueTicks : Prop :=
  ∀ s : State, s.pending = [] →
    (s.clk.gateOpen = false → s.powered = true → step s = .next { s with time := (s.time + 1) % 2 ^ 64 }) ∧
      (s.clk.gateOpen = false → s.powered = false → step s = .next s) ∧
      ∃ t, step s = .next t ∧ t.time = (if s.powered = true then (s.time + 1) % 2 ^ 64 else s.time) ∧
        t = { s with time := t.time, stations := t.stations, out := t.out }

/-- What stands before AON power-good: press time 0, KICKOFF, SAFE_N asserted and RST_OUT_N low (R584), no command waiting, no sheet
(so that no automatic row is due), the log within its bounds.
It rests on the model's choices of log 125. -/
def Obligations.ResetState : Prop :=
  State.reset.powered = false ∧ State.reset.time = 0 ∧ State.reset.md.mode = .kickoff ∧ State.reset.pins.safeN = true ∧
    State.reset.pins.rstLow = true ∧ State.reset.pending = [] ∧ State.reset.sheets = [] ∧ Settled State.reset ∧ LogBounds State.reset

/-- No command stops the block and none touches the queue: each ends in a state from which the automatic row (R44) is taken.
It rests on the model's choices of log 3, 8. -/
def Obligations.EveryCommandEnds : Prop :=
  ∀ (c : Instr) (s : State), ∃ t, exec c s = .next (settle t) ∧ t.pending = s.pending

/-- A queue of n commands is served in n steps, none of which stops.
It rests on the model's choices of log 1, 3. -/
def Obligations.QueueIsServed : Prop :=
  ∀ s : State, ∃ t, Runs s.pending.length s t ∧ t.pending = []

/-- Every step keeps the modes in accord with the sheets (R44): in READY no sheet is ADMITTED, in RALLY and RUNOUT some sheet is ADMITTED
or COMMITTED.
It rests on the model's choices of log 8. -/
def Obligations.ModesFollowSheets : Prop :=
  ∀ s t : State, Settled s → step s = .next t → Settled t

/-- Every step keeps the log block within its bounds (R568, R570, R574, R578).
It rests on the model's choices of log 6, 21, 47. -/
def Obligations.LogStaysBounded : Prop :=
  ∀ s t : State, LogBounds s → step s = .next t → LogBounds t

/-- Outside the rows of R44 that sheets bring (the row that closes the command), commands of the beam, the scheduler, the decoders, the
loops' and motors' own clocks, and reads leave the mode alone: their effect t is in the mode in which it began.
It rests on the model's choices of log 3, 8. -/
def Obligations.ModeKept : Prop :=
  ∀ (c : Instr) (s : State), keepsMode c = true → ∃ t, exec c s = .next (settle t) ∧ t.md.mode = s.md.mode

/-! ## Start, stop and rails -/

/-- AON_POWER_GOOD (R104 step 1, R11, R584): press time 0, kick-off at its step 1, every RAIL_EN inactive, SAFE_N asserted and RST_OUT_N
low; the kick-off counts as one after a power cycle. Nothing else changes but the log.

BROWN_OUT (R166): every RAIL_EN inactive, RST_OUT_N low, SAFE_N asserted; press time, the retained counter and all state are lost, but
for the flash with its mirror.
It rests on the model's choices of log 8, 125. -/
def Obligations.PowerCycle : Prop :=
  (∀ s : State, s.powered = false →
    Completes .aonPowerGood s fun t =>
      t.powered = true ∧ t.time = 0 ∧ get t 0x2020 1 = 1 ∧ t.kick.cold = true ∧ t.rails = [] ∧ t.pins.safeN = true ∧
      t.pins.rstLow = true ∧ KeepsObjects [keyOf 0x2020 1, keyOf 0x2710 1, keyOf 0x2120 5] s t ∧
      t = { s with powered := true, time := 0, kick := t.kick, rails := [], pins := t.pins, seq := t.seq, reset_ := t.reset_,
                   dict := t.dict, log := t.log, net := t.net, out := t.out }) ∧
  (∀ s : State, s.powered = true →
    Completes .brownOut s fun t =>
      t.powered = false ∧ t.time = 0 ∧ t.md = {} ∧ t.rails = [] ∧ t.pins.safeN = true ∧ t.pins.rstLow = true ∧ t.dict = [] ∧
      t.sheets = [] ∧ t.tenants = [] ∧ t.motors = [] ∧ t.axes = [] ∧ t.loops = [] ∧ t.stations = [] ∧ t.trackers = [] ∧ t.slots = [] ∧
      t.log.ring = [] ∧ t.flash = s.flash ∧ t.log.mirror = s.log.mirror)

/-- PORST (R615, R44): a warm reset in any mode out of which no rule of its own leads. KICKOFF follows with the mode that was left in
2000:04, the cause of its row in 2000:05; SAFE_N is asserted, RST_OUT_N low; the sheets, motors, axes, loops, stations and tenants are
as at power-on, and PORST_N is held.

PORST_RELEASE (R615): kick-off starts when the hold has ended, and later otherwise.

WARM_RESET_HOLD_END (R615, R127 step 4): with every RAIL_EN inactive for 200 ms, kick-off starts unless PORST_N is still held.
It rests on the model's choices of log 8, 48, 52, 82. -/
def Obligations.WarmResets : Prop :=
  (∀ s : State, s.powered = true → s.hold = .none →
    Completes .porst s fun t =>
      t.md.mode = .kickoff ∧ t.md.previous = s.md.mode ∧ get t 0x2000 5 = (if s.md.mode = .shutdown ∧ s.md.offEnded = true then 5 else 0x0E) ∧
      t.pins.safeN = true ∧ t.pins.rstLow = true ∧ t.reset_.running = true ∧ t.reset_.porstLow = true ∧
      t.sheets = [] ∧ t.motors = [] ∧ t.axes = [] ∧ t.loops = [] ∧ t.stations = [] ∧ t.trackers = [] ∧ t.tenants = [] ∧ t.slots = [] ∧
      t.time = s.time ∧ t.rails = s.rails ∧ (anyRailOn s = true → t.seq.state = 3 ∧ t.seq.why = .warmReset)) ∧
  (∀ s : State, s.reset_.porstLow = true → s.reset_.toTerp = false →
    Completes .porstRelease s fun t =>
      if s.reset_.holdEnded = true then get t 0x2020 1 = 1 ∧ t.reset_.running = false ∧ t.pins.safeN = true ∧ t.pins.rstLow = true ∧
        KeepsObjects [keyOf 0x2020 1, keyOf 0x2710 1, keyOf 0x2120 5] s t
      else t = { s with reset_ := { s.reset_ with porstLow := false } }) ∧
  (∀ s : State, s.powered = true → anyRailOn s = false → s.reset_.running = true → s.reset_.holdEnded = false → s.reset_.toTerp = false →
    s.kick.failed = none → s.seq.why ≠ .railReset →
    Completes .warmResetHoldEnd s fun t =>
      if s.reset_.porstLow = true then t = { s with reset_ := { s.reset_ with holdEnded := true } }
      else get t 0x2020 1 = 1 ∧ t.reset_.running = false ∧ t.pins.safeN = true ∧ t.pins.rstLow = true ∧
        KeepsObjects [keyOf 0x2020 1, keyOf 0x2710 1, keyOf 0x2120 5] s t)

/-- KICKOFF_WATCHDOG (R105, R127 steps 1 to 3): its own effect is that kick-off fails. The counter goes up by one, to 8 at most, the reason heads
the list of the last eight, and the off-sequence or the hold begins. A step whose check fails does the same (R126), shown for the ROM check and
the SRAM test.

KICKOFF_STEP_COMPLETE (R104): a step that is due and whose check passes makes 2020:01 its own number; a step that is not due changes nothing,
but for the on-sequence's end, which runs beside step 4 (R152). Shown for the straps, the reference, the rails, the core reset, the ROM check, the
SRAM test, the image where there is none, the synthesizer, the ports and the DRAM.

ROLL_CALL_COMPLETE (R104 step 15, R48, R107): kick-off reaches STANDBY with cause 0x02, in the node-only role not before the time of step 15; a
SAFESTOP cause that persists leads on to SAFESTOP at once.
It rests on the model's choices of log 3, 8, 124, 132. -/
def Obligations.KickoffCourse : Prop :=
  (∀ s : State, s.powered = true → s.md.mode = .kickoff → s.kick.failed = none → s.reset_.running = false → s.hold = .none →
    let fails := fun (reason : Nat) (t : State) =>
      get t 0x2030 1 = min 8 (get s 0x2030 1 + 1) ∧ get t 0x2030 3 = reason ∧ (∀ k, k < 7 → get t 0x2030 (4 + k) = get s 0x2030 (3 + k)) ∧
        t.kick.failed = some reason ∧ t.reset_.running = true ∧ (anyRailOn s = true → t.seq.state = 3 ∧ t.seq.why = .kickoffFail) ∧
        t.md = s.md ∧ t.rails = s.rails ∧ t.sheets = s.sheets
    Completes .kickoffWatchdog s (fails 9) ∧
      (get s 0x2020 1 = 6 → Completes (.kickoffStepComplete (.romCheck false)) s (fails 3)) ∧
      (get s 0x2020 1 = 7 → Completes (.kickoffStepComplete (.sramTest false)) s (fails 4))) ∧
  (∀ s : State, s.powered = true → s.md.mode = .kickoff → s.reset_.running = false → s.hold = .none →
    let gives := fun (n : Nat) (t : State) => get t 0x2020 1 = n ∧ t.md = s.md ∧ t.sheets = s.sheets ∧ t.rails = s.rails
    (get s 0x2020 1 = 3 → Completes (.kickoffStepComplete (.reference true)) s (gives (if s.seq.state = 2 then 5 else 4))) ∧
      (get s 0x2020 1 = 5 → ∀ tj : Int, -32768 ≤ tj → tj ≤ 1500 →
        Completes (.kickoffStepComplete (.coreReset tj)) s fun t => gives 6 t ∧ t.pins.rstLow = false ∧ getS t 16 0x7010 1 = tj) ∧
      (get s 0x2020 1 = 6 → Completes (.kickoffStepComplete (.romCheck true)) s (gives 7)) ∧
      (get s 0x2020 1 = 7 → Completes (.kickoffStepComplete (.sramTest true)) s fun t => gives 8 t ∧ t.log.ready = true) ∧
      (get s 0x2020 1 = 10 → get s 0x2200 3 = 4 → Completes (.kickoffStepComplete .synthesizer) s (gives 11)) ∧
      (get s 0x2020 1 = 11 → Completes (.kickoffStepComplete .fieldPorts) s (gives 12)) ∧
      (get s 0x2020 1 = 12 → strap s 7 ≠ 3 → Completes (.kickoffStepComplete (.dramTraining true false)) s fun t => gives 13 t ∧ t.mem.trained = true) ∧
      (∀ v1 v2 : List (Option Nat),
        let found := strapLevels (s.fresh + 12) v2
        get s 0x2020 1 = 1 → strapLevels s.fresh v1 = found → found.getD 1 0 ≠ 3 → found.getD 5 0 ≠ 3 → found.getD 11 0 ≠ 1 →
          Completes (.kickoffStepComplete (.straps v1 v2 false)) s fun t => gives 2 t ∧ t.kick.straps = found) ∧
      (get s 0x2020 1 = 4 → s.seq.state = 1 → s.seq.dozeRails = false → sequenceDone s = true →
        Completes (.kickoffStepComplete .railSequence) s fun t => gives 5 t ∧ t.seq.state = 2) ∧
      (get s 0x2020 1 = 8 → noImage s.flash = true → strap s 5 = 0 → Completes (.kickoffStepComplete .imageRead) s fun t =>
        gives 9 t ∧ get t 0x2020 3 = 0) ∧
      (∀ r : KickResult, r ≠ .railSequence → get s 0x2020 1 + 1 ≠ stepOf r → exec (.kickoffStepComplete r) s = .next (settle s))) ∧
  (∀ s : State, s.md.mode = .kickoff → get s 0x2020 1 = 14 → s.reset_.running = false → s.hold = .none →
    (nodeOnly s = true → rollcallEnd s ≤ s.time) →
    Completes .rollCallComplete s fun t =>
      (t.md.mode = .standby ∨ t.md.mode = .safestop) ∧
      (s.log.causes = [] → partnersIn s 1 = [] → t.md.mode = .standby ∧ t.md.previous = .kickoff ∧ get t 0x2000 5 = 2 ∧ t.pins.safeN = false))

/-- The rails' turns (R150, R152, R163, R153): RAIL_ENABLE drives RAIL_EN active once every rail of a smaller on-delay has gone before,
RAIL_DISABLE inactive once every rail of a smaller off-delay has, RAIL_GOOD makes a ramping rail good on 16 samples inside the warning window
(R143), and RETRY_PAUSE_END begins a new on-sequence with the next attempt. Only the rail named changes.

RAMP_FAULT (R151, R153, R154): a rail that is not good by its deadline in the first on-sequence of kick-off is counted with fault kind 3;
the sequence is broken off, and the first retry is the second serve.

RAIL_FAULT (R142, R159 to R161), where its filter acts, the first within its window, in an operating mode: SAFESTOP with cause 0x0C. With response 1
the rail goes off at once, with response 2 the rail reset begins (R161 step 1). Where the filter does not act, the reading is shown.
It rests on the model's choices of log 3, 8, 84, 85. -/
def Obligations.RailsChange : Prop :=
  (∀ (s : State) (r : Fin 16),
    let others := fun (t : State) => ∀ k, k ≠ r.val → rail t k = rail s k
    (s.seq.state = 1 → s.seq.dozeRails = false → railSequenced s r.val = true → (rail s r.val).en = false → (rail s r.val).state ≠ 6 →
        (∀ k, k < 16 → (rail s k).en = true ∨ get s (0x2100 + r.val) 2 ≤ get s (0x2100 + k) 2) →
        Completes (.railEnable r) s fun t =>
          (rail t r.val).en = true ∧ (rail t r.val).state = (if railMonitored s r.val = true then 2 else 3) ∧ others t ∧
          KeepsObjects [keyOf 0x2020 1] s t ∧ t = { s with rails := t.rails, seq := t.seq, dict := t.dict }) ∧
      (s.seq.state = 3 → s.seq.why ≠ .doze → (rail s r.val).en = true →
        (∀ k, k < 16 → (rail s k).en = false ∨ get s (0x2100 + r.val) 4 ≤ get s (0x2100 + k) 4) →
        Completes (.railDisable r) s fun t =>
          (rail t r.val).en = false ∧ others t ∧ t = { s with rails := t.rails, seq := t.seq, pins := t.pins }) ∧
      (∀ v samples : Nat,
        (s.seq.state = 1 → s.seq.why = .none → railMonitored s r.val = true → (rail s r.val).en = true → (rail s r.val).state = 2 →
          railInside s r.val 6 v = true → 16 ≤ samples →
          Completes (.railGood r ⟨v, samples⟩) s fun t => (rail t r.val).state = 3 ∧ (rail t r.val).en = true ∧ get t (0x2100 + r.val) 0x0F = v ∧ others t) ∧
        (railInside s r.val 6 v = false ∨ samples < 16 → Completes (.railGood r ⟨v, samples⟩) s fun t => t = putReading s r.val v)) ∧
      (s.seq.state = 4 → Completes .retryPauseEnd s fun t =>
        t.seq.state = 1 ∧ t.seq.attempt = s.seq.attempt + 1 ∧ get t 0x2120 5 = s.seq.attempt + 1 ∧ KeepsObjects [keyOf 0x2120 5] s t ∧
        t = { s with rails := t.rails, seq := t.seq, dict := t.dict })) ∧
  (∀ (s : State) (r : Fin 16) (v : Nat), s.seq.state = 1 → s.seq.attempt = 1 → railMonitored s r.val = true → (rail s r.val).state = 2 →
    (rail s r.val).en = true → s.hold = .none → s.reset_.running = false → s.md.mode = .kickoff → s.seq.why ≠ .railReset → 1 ≤ get s 0x2120 2 →
    Completes (.rampFault r v) s fun t =>
      get t 0x2120 6 = r.val ∧ get t 0x2120 7 = 3 ∧ get t 0x2120 8 = pressTime s ∧ get t (0x2100 + r.val) 0x0E = min (get s (0x2100 + r.val) 0x0E + 1) 65535 ∧
      t.seq.state = 3 ∧ t.seq.why = .retry ∧ t.seq.firstFail = some r.val ∧ serving t .railKickoff r.val = true ∧ t.md = s.md) ∧
  (∀ (s : State) (r : Fin 16) (v samples : Nat),
    let k := windowSide s r.val 5 v
    let resp := get s (0x2100 + r.val) 9
    (sideActs s r.val k = true → get s (0x2100 + r.val) 7 ≤ samples → faultLoggedOnly s r.val = false → (rail s r.val).en = true →
      s.md.mode ∈ operating → servedWithin s .rail r.val (ticksS 600) = false →
      Completes (.railFault r ⟨v, samples⟩) s fun t =>
        t.md.mode = .safestop ∧ get t 0x2000 5 = 0x0C ∧ t.pins.safeN = true ∧ (resp = 2 → t.seq.why = .railReset) ∧
        (resp = 1 → (rail t r.val).en = false ∧ (rail t r.val).state = 6) ∧ (resp ≠ 1 → resp ≠ 2 → t.seq.why = s.seq.why)) ∧
      (sideActs s r.val k = false ∨ samples < get s (0x2100 + r.val) 7 →
        Completes (.railFault r ⟨v, samples⟩) s fun t => t = putReading s r.val v))

/-- RAIL_WARNING (R158): when a rail's warning filter acts, which is when as many samples as it has µs lie outside the window, the warning latch is
set, the warning count advanced and a WARN entry logged; a notice is raised only when the latch changes from 0 to 1. It changes nothing else but the
state that shows it (4 where it was 3) and the monitor's reading with its extremes. The automatic row that may close the command is that of log 8.
-/
def Obligations.RailWarningLogged : Prop :=
  ∀ (s : State) (r : Fin 16) (v samples : Nat), sideActs s r.val (windowSide s r.val 6 v) = true → get s (0x2100 + r.val) 8 ≤ samples →
    Completes (.railWarning r ⟨v, samples⟩) s fun t =>
      get t (0x2100 + r.val) 0x0C = 1 ∧ get t (0x2100 + r.val) 0x0D = min (get s (0x2100 + r.val) 0x0D + 1) 65535 ∧
      (s.log.ready = true → ∃ e, t.log.ring.head? = some e ∧ e.tells 1 1 2 (0x2100 + r.val) 0x0C 1) ∧
      (get s (0x2100 + r.val) 0x0C ≠ 0 → t.log.notices = s.log.notices ∧ t.net = s.net) ∧
      (get s (0x2100 + r.val) 0x0C = 0 → t.net.noticeQueue = s.net.noticeQueue ++ [(keyOf (0x2100 + r.val) 0x0C, 1, 1)]) ∧
      (∀ k, k ≠ r.val → rail t k = rail s k) ∧ rail t r.val = { rail s r.val with state := if (rail s r.val).state = 3 then 4 else (rail s r.val).state } ∧
      KeepsObjects [keyOf (0x2100 + r.val) 0x0C, keyOf (0x2100 + r.val) 0x0D, keyOf (0x2100 + r.val) 0x0F, keyOf (0x2100 + r.val) 0x10] s t ∧
      t = { s with rails := t.rails, dict := t.dict, log := t.log, net := t.net, out := t.out }

/-- RAIL_RESET_OFF_START (R161 step 2), SHUTDOWN_OFF_START (R164 steps 4 and 5) and SHUTDOWN_SEQUENCE_END (R164 step 6): the off-sequence
begins, in SHUTDOWN once everything stands or the time of 2120:0B has passed; at its end RST_OUT_N is low. WAKE_IN before that end is held.

DOZE (R165, R493, R616): DOZE_ENTER enters it when the align moves have ended; WAKE_IN, and PCI_EXPRESS_WAKE where the endpoint is up,
begin the on-sequence of the DOZE rails; DOZE_WAKE_COMPLETE enters STANDBY with the wake's cause.
It rests on the model's choices of log 3, 8, 67, 68. -/
def Obligations.OffAndDoze : Prop :=
  (∀ s : State,
    (s.seq.why = .railReset → s.seq.state ≠ 0 → s.seq.state ≠ 3 → s.reset_.running = false →
      Completes .railResetOffStart s fun t => t = { s with seq := { s.seq with state := if anyRailOn s = true then 3 else 0 } }) ∧
      (s.md.mode = .shutdown → s.hold = .none → s.md.offStarted = false → mayStartOff s = true →
        Completes .shutdownOffStart s fun t =>
          t.seq.state = 3 ∧ t.seq.why = .shutdown ∧ t.md = { s.md with offStarted := true } ∧ t.rails = s.rails ∧ t.sheets = s.sheets ∧
          (∀ m, m < 12 → motorState t m = 0)) ∧
      (mayStartOff s = false → Completes .shutdownOffStart s fun t => t = s) ∧
      (s.md.mode = .shutdown → s.hold = .none → s.md.offStarted = true → anyRailOn s = false → s.kick.wakeHeld = false →
        Completes .shutdownSequenceEnd s fun t =>
          t = { s with md := { s.md with offEnded := true }, pins := { s.pins with rstLow := true }, seq := { s.seq with state := 0, why := .none } }) ∧
      (s.md.mode = .shutdown → s.hold = .none → s.md.offEnded = false →
        Completes .wakeIn s fun t => t = { s with kick := { s.kick with wakeHeld := true } })) ∧
  (∀ s : State,
    (s.md.dozing = true → s.md.mode = .standby → Completes .dozeEnter s fun t =>
        t.md.mode = .doze ∧ t.md.previous = .standby ∧ get t 0x2000 5 = s.md.dozeCause) ∧
      (s.md.mode = .doze → s.md.waking = false →
        let wakes := fun (t : State) => t = { s with md := { s.md with waking := true, wakeCause := 5 }, seq := { s.seq with state := 1, why := .none, dozeRails := true, since := s.time } }
        Completes .wakeIn s wakes ∧ (endpointUp s = true → Completes .pciExpressWake s wakes)) ∧
      (∀ index : Nat, s.md.mode = .doze → s.md.waking = true → s.seq.state = 1 → s.seq.dozeRails = true → dozeRailsUp s = true →
        (∀ p, p < 7 → (port s p).rx = []) →
        Completes (.dozeWakeComplete index) s fun t => t.md.mode = .standby ∧ t.md.previous = .doze ∧ get t 0x2000 5 = s.md.wakeCause))

/-- TERP_RESTART (R135) and OWNER_KEY_WRITE (R138): a write of 1 to 2040:02 in TERP clears the failure counter and its list and warm-resets into
KICKOFF with cause 0x01; a key that is accepted is kept as written.

Debug access (R138): a DEBUG_CHALLENGE is fresh and shown over JTAG; a valid DEBUG_RESPONSE opens debug access, an invalid one is counted, and the
third locks it.
It rests on the model's choices of log 8, 123, 127, 133. -/
def Obligations.TerpAndDebug : Prop :=
  (∀ (acc : Accessor) (d : List Byte) (s : State),
    (Accepted s acc 0x2040 2 d → s.md.mode = .terp → Completes (.terpRestart acc d) s fun t =>
        t.md.mode = .kickoff ∧ t.md.previous = .terp ∧ get t 0x2000 5 = 1 ∧ get t 0x2030 1 = 0 ∧ Answered acc t ∧ t.pins.safeN = true) ∧
      (Accepted s acc 0x2710 2 d → Completes (.ownerKeyWrite acc d) s fun t =>
        getBlob t 0x2710 2 = d ∧ Answered acc t ∧ t = { s with blobs := t.blobs, pins := t.pins, out := t.out } ∧
        (∀ k, k ≠ keyOf 0x2710 2 → tabFind t.blobs k = tabFind s.blobs k))) ∧
  (∀ (s : State) (rs : List Byte), answering s = true →
    (∃ c, Completes .debugChallenge s fun t =>
        c < 2 ^ 128 ∧ t = { s with fresh := s.fresh + 1, kick := { s.kick with challenge := some c }, out := .jtag (leBytes 16 c) :: s.out }) ∧
      (get s 0x2710 1 = 1 ∨ get s 0x2710 1 = 2 → Completes (.debugResponse rs) s fun t =>
        if responseValid s rs = true then t = put s 0x2710 1 2
        else t.kick = { s.kick with badResponses := s.kick.badResponses + 1 } ∧
          get t 0x2710 1 = (if 3 ≤ s.kick.badResponses + 1 then 3 else get s 0x2710 1) ∧
          KeepsObjects [keyOf 0x2710 1] s t ∧ t = { s with kick := t.kick, dict := t.dict }))

/-! ## Modes -/

/-- The rows of R44 that sheets bring: READY to RALLY with cause 0x03 on an admission, RALLY to READY with cause 0x02 when no sheet is ADMITTED
or COMMITTED, RUNOUT to its pending target or to READY; nothing when no row is due but that reprints that wait take free places (R20).

The rows of R44 that a completion or a time brings, with their causes: WARMUP_COMPLETE (R612), WARMUP_LIMIT_EXPIRY, READY_IDLE_EXPIRY and
STANDBY_IDLE_EXPIRY (R613), CALIBRATION_COMPLETE, and MODE_ROUTE_STEP, the next request row of a route (R46).
It rests on the model's choices of log 2, 8, 9. -/
def Obligations.ModeRows : Prop :=
  (∀ s : State,
    (s.md.mode = .ready → anyAdmitted s = true →
        (settle s).md.mode = .rally ∧ (settle s).md.previous = .ready ∧ get (settle s) 0x2000 5 = 3 ∧ (settle s).sheets = (enterWaiting s).sheets) ∧
      (s.md.mode = .rally → anyOnPath s = false →
        (settle s).md.mode = .ready ∧ (settle s).md.previous = .rally ∧ get (settle s) 0x2000 5 = 2 ∧ (settle s).sheets = (enterWaiting s).sheets) ∧
      (s.md.mode = .runout → anyOnPath s = false →
        (settle s).md.previous = .runout ∧ get (settle s) 0x2000 5 = 2 ∧
        (settle s).md.mode = (match s.md.pending with
          | some .standby => .standby | some .calibrate => .calibrate | some .shutdown => .shutdown | _ => .ready)) ∧
      (Settled s → settle s = enterWaiting s) ∧
      (enterWaiting s = { s with sheets := (enterWaiting s).sheets }) ∧
      ((∀ sh ∈ s.sheets, sh.waiting = false) → enterWaiting s = s)) ∧
  (∀ s : State,
    let enters := fun (m : Mode) (cause : Nat) (t : State) => t.md.mode = m ∧ t.md.previous = s.md.mode ∧ get t 0x2000 5 = cause
    (s.md.mode = .warmup → warmedUp s = true → Completes .warmupComplete s (enters .ready 2)) ∧
      (s.md.mode = .warmup → Completes .warmupLimitExpiry s (enters .standby 0x0B)) ∧
      (s.md.mode = .ready → s.md.pending = none → get s 0x2000 9 ≠ 0 → (∀ sh ∈ s.sheets, sh.resident = false ∧ sh.admitted = false) →
        Completes .readyIdleExpiry s (enters .standby 4)) ∧
      (s.md.mode = .standby → s.md.dozing = false → s.md.pending = none → get s 0x2000 0x0A ≠ 0 → (∀ sh ∈ s.sheets, sh.queued = false) →
        Completes .standbyIdleExpiry s fun t => enters .doze 4 t ∨ (t.md.mode = .standby ∧ t.md.dozing = true ∧ t.md.dozeCause = 4)) ∧
      (s.md.mode = .calibrate → Completes .calibrationComplete s (enters .ready 2)) ∧
      (∀ p q : Mode, s.md.pending = some p → s.md.mode ≠ .rally → s.md.mode ≠ .runout → s.md.dozing = false → s.md.waking = false → s.md.entering = false →
        routeStep s.md.mode p = some q → q ≠ .doze → s.md.mode ≠ .doze → Completes .modeRouteStep s (enters q 1)))

/-- An accepted MODE_REQUEST (R39 to R44): SAFESTOP at once; out of RALLY by way of RUNOUT with the target pending (R43); held while a SAFESTOP entry
runs (R561); in any other mode the row to the target with cause 0x01, DOZE by way of its align moves where axes have to align (R493).

ADMISSION_ENABLE (R22, R23): a write of 1 to 2000:0C admits again and touches no sheet; a write of 0 withdraws every ADMITTED sheet that still has at
least 16 ticks to its first IMAGE event, and leaves every other sheet.
It rests on the model's choices of log 8, 9. -/
def Obligations.ModesAsked : Prop :=
  (∀ (acc : Accessor) (d : List Byte) (p : Mode) (s : State), Accepted s acc 0x2000 2 d → modeOfCode (ofLe d) = some p →
    (p = .safestop → s.md.mode ∉ [Mode.kickoff, .terp, .shutdown] → Completes (.modeRequest acc d) s fun t => t.md.mode = .safestop ∧ Answered acc t) ∧
      (s.md.mode = .rally → p ≠ .safestop → Completes (.modeRequest acc d) s fun t =>
        t.md.mode = .runout ∧ get t 0x2000 5 = 1 ∧ t.md.pending = (if p = .runout then none else some p) ∧ Answered acc t) ∧
      (s.md.mode = .safestop → s.md.entering = true → p ≠ .safestop → Completes (.modeRequest acc d) s fun t =>
        t.md = { s.md with pending := some .shutdown } ∧ Answered acc t) ∧
      (s.md.mode ∉ [Mode.rally, .runout, .doze] → s.md.entering = false → s.md.waking = false → s.md.pending = none → p ≠ .safestop → p ≠ .doze →
        Completes (.modeRequest acc d) s fun t =>
          t.md.mode = p ∧ t.md.previous = s.md.mode ∧ get t 0x2000 5 = 1 ∧ Answered acc t) ∧
      (s.md.mode = .standby → s.md.entering = false → s.md.waking = false → s.md.pending = none → p = .doze →
        Completes (.modeRequest acc d) s fun t =>
          (t.md.mode = .doze ∧ get t 0x2000 5 = 1 ∨ t.md.mode = .standby ∧ t.md.dozing = true ∧ t.md.pending = some .doze) ∧ Answered acc t) ∧
      (s.md.mode = .doze → s.md.waking = false → s.md.entering = false → s.md.pending = none → p = .standby →
        Completes (.modeRequest acc d) s fun t => t.md.mode = .doze ∧ t.md.waking = true ∧ t.md.wakeCause = 1 ∧ t.seq.state = 1 ∧ Answered acc t)) ∧
  (∀ (acc : Accessor) (d : List Byte) (s : State), Accepted s acc 0x2000 0x0C d →
    Completes (.admissionEnable acc d) s fun t =>
      Answered acc t ∧ get t 0x2000 0x0C = ofLe d ∧ t.md = s.md ∧ (ofLe d ≠ 0 → t.sheets = s.sheets ∧ t.slots = s.slots) ∧
      (ofLe d = 0 → t.sheets = s.sheets.map fun sh => if (s.sheets.any fun x => x.uid == sh.uid && x.admitted && inTime s x) = true then withdrawn sh else sh))

/-- SAFESTOP_ACKNOWLEDGE (R45), written by an accessor that reaches it: refused with 0x0401 outside SAFESTOP and with 0x0404 while a cause persists,
whatever its value; with no cause persisting 0 is refused with 0x0303 and 1 is accepted, at once or, while the entry still runs, once it is
complete. The automatic row that may close the command is that of log 8. -/
def Obligations.SafestopAcknowledged : Prop :=
  ∀ (acc : Accessor) (b : Byte) (s : State), answering s = true → reachCode s acc true 0x2000 0x0B = 0 →
    let refused := fun (k : Nat) => exec (.safestopAcknowledge acc [b]) s = .next (settle (emit s (.answer acc k [])))
    (s.md.mode ≠ .safestop → refused 0x0401) ∧
      (s.md.mode = .safestop → anyCause s = true → refused 0x0404) ∧
      (s.md.mode = .safestop → anyCause s = false → b = 0 → refused 0x0303) ∧
      (s.md.mode = .safestop → anyCause s = false → b = 1 → Completes (.safestopAcknowledge acc [b]) s fun t =>
        Answered acc t ∧
        (s.md.entering = false → t.md.mode = .standby ∧ t.md.previous = .safestop ∧ get t 0x2000 5 = 0x0D ∧ t.pins.safeN = false) ∧
        (s.md.entering = true → t.md = { s.md with ackHeld := true })) ∧
      (s.md.mode = .safestop → s.md.entering = true → s.md.ackHeld = true → s.md.pending ≠ some .shutdown →
        Completes .safestopEntryComplete s fun t => t.md.mode = .standby ∧ get t 0x2000 5 = 0x0D ∧ t.pins.safeN = false)

/-- In KICKOFF, TERP, SAFESTOP and SHUTDOWN a SAFESTOP trigger changes no mode; its cause is recorded and its hardware actions act (R48, R614), shown
for ILOCK_OPEN: SAFE_N is asserted and no axis moves (R491, R562).

A SAFESTOP trigger out of the operating modes (R47, R561 steps 1 to 4), shown for ILOCK_OPEN (R562) and for SAFE_N_MISMATCH (R559):
SAFESTOP is entered with the trigger's cause, SAFE_N is asserted, no target stays pending, no sheet is ADMITTED, no IMAGE, MECH or HV event
waits, no axis moves, every motor is off, braking or held, and every loop is off or held.

SAFESTOP_ENTRY_COMPLETE (R561 steps 5 and 6, R37): the entry is over, no sheet is COMMITTED any more; with nothing held the mode stays.
It rests on the model's choices of log 3, 8, 9, 50. -/
def Obligations.SafestopWorks : Prop :=
  (∀ s : State, s.powered = true → s.pins.ilockOpen = false → s.md.mode ∈ [Mode.kickoff, .terp, .safestop, .shutdown] →
    Completes .ilockOpen s fun t =>
      t.md = s.md ∧ t.pins.ilockOpen = true ∧ get t 0x2400 7 = 8 ∧ persists t 8 = true ∧ t.sheets = s.sheets ∧
      t.pins.safeN = true ∧ (∀ a, a < 16 → (axis t a).move = none) ∧ t.loops = s.loops ∧ t.slots = s.slots ∧
      ∀ m, m < 12 → motorState t m = motorState s m ∨ motorState s m = 5 ∧ motorState t m = 4) ∧
  (∀ s : State, s.powered = true → s.md.mode ∈ [Mode.standby, .warmup, .ready, .rally, .runout, .calibrate, .service, .doze] →
    let stops := fun (cause : Nat) (t : State) =>
      t.md.mode = .safestop ∧ t.md.previous = s.md.mode ∧ get t 0x2000 5 = cause ∧ t.md.entering = true ∧ t.md.pending = none ∧
        t.pins.safeN = true ∧ (∀ sh ∈ t.sheets, sh.admitted = false) ∧ (∀ q ∈ t.slots, eventClass q.2.code = 4 ∨ eventClass q.2.code = 5 ∨ eventClass q.2.code = 0) ∧
        (∀ a, a < 16 → (axis t a).move = none) ∧ (∀ m, m < 12 → motorState t m = 0 ∨ motorState t m = 6 ∨ motorState t m = 7) ∧
        (∀ n, n < 48 → (loop t n).state = 0 ∨ (loop t n).state = 4)
    (s.pins.ilockOpen = false → Completes .ilockOpen s fun t => stops 8 t ∧ t.pins.ilockOpen = true) ∧
      (s.pins.safeMismatch = false → Completes .safeNMismatch s fun t => stops 6 t ∧ t.pins.safeMismatch = true)) ∧
  (∀ s : State, s.md.mode = .safestop → s.md.entering = true → s.md.ackHeld = false → s.md.pending ≠ some .shutdown →
    Completes .safestopEntryComplete s fun t =>
      t.md.mode = .safestop ∧ t.md.entering = false ∧ (∀ sh ∈ t.sheets, sh.committed = false) ∧ t.pins.safeN = s.pins.safeN)

/-! ## The dictionary -/

/-- A write that a check of R60 refuses, by any command that is a write, has no effect but its answer with the abort code; where the block answers
nobody it has none at all. A write that passes every check is answered with success, but for an apply, which answers the abort of its groups (R59).

OBJECT_WRITE: the accepted write of a plain value, of the mode block or of a tenant, stores it in its object and changes no other (R59).

A write to a number that belongs to a consistency group goes to the staging image (R65, R76): the applied value, and every other staged
value, stays as it was; the writer becomes the group's stager unless it is that already.

READ_TO_CLEAR (R61): a read is answered with its value, or refused with its code and no effect. Of a read-to-clear object outside the log block the
extremes restart from the present reading, and any other is cleared; nothing else changes.
It rests on the model's choices of log 5, 8, 19. -/
def Obligations.AccessesAct : Prop :=
  (∀ (c : Instr) (acc : Accessor) (idx sub : Nat) (d : List Byte) (s : State), writeOf c = some (acc, idx, sub, d) →
    (answering s = true → writeCode s acc idx sub d ≠ 0 → exec c s = .next (settle (emit s (.answer acc (writeCode s acc idx sub d) [])))) ∧
      (answering s = false → exec c s = .next (settle s)) ∧
      (Accepted s acc idx sub d → idx ≠ 0x2700 ∨ sub ≠ 1 → Completes c s (Answered acc))) ∧
  (∀ (acc : Accessor) (idx sub : Nat) (d : List Byte) (s : State), Accepted s acc idx sub d →
    idx = 0x2000 ∧ sub ∉ [2, 0x0B, 0x0C] ∨ 0x5000 ≤ idx ∧ idx < 0x5040 ∧ sub ∉ [2, 3] →
    (writeRow idx sub).cls ≠ .rws → (writeRow idx sub).ty ≠ .blob →
    Completes (.objectWrite acc idx sub d) s fun t =>
      get t idx sub = ofLe d ∧ Answered acc t ∧ KeepsObjects [keyOf idx sub] s t ∧ t = { s with dict := t.dict, pins := t.pins, out := t.out }) ∧
  (∀ (acc : Accessor) (idx sub : Nat) (d : List Byte) (s : State), Accepted s acc idx sub d →
    (viewOf idx) = (idx, false) → (writeRow idx sub).cls = .rws → (writeRow idx sub).ty ≠ .blob →
    Completes (.objectWrite acc idx sub d) s fun t =>
      tabFind t.staged (keyOf idx sub) = some (ofLe d) ∧ (∀ k, k ≠ keyOf idx sub → tabFind t.staged k = tabFind s.staged k) ∧ Answered acc t ∧
      (∃ a, stagerOf t (groupOf idx) = some a ∧ (stagerOf s (groupOf idx) = none → a = acc)) ∧
      t = { s with staged := t.staged, stagers := t.stagers, pins := t.pins, out := t.out }) ∧
  (∀ (acc : Accessor) (idx sub : Nat) (s : State), answering s = true →
    Completes (.readToClear acc idx sub) s fun t => (∃ l, t.out = .answer acc (readCode s acc idx sub) l :: s.out) ∧
      (readCode s acc idx sub ≠ 0 → t = emit s (.answer acc (readCode s acc idx sub) []))) ∧
  (∀ (acc : Accessor) (idx sub : Nat) (s : State), answering s = true → readCode s acc idx sub = 0 → (viewOf idx) = (idx, false) →
    latchOf idx sub = none → idx ≠ 0x2410 → idx ≠ 0x2420 → isLogIdx idx = false → sub ≠ 0 → (writeRow idx sub).rc = true →
    Completes (.readToClear acc idx sub) s fun t =>
      get t idx sub = (if 0x2100 ≤ idx ∧ idx < 0x2110 ∧ sub = 0x10 then get s idx 0x0F * 65537 else if idx = 0x7010 then get s 0x7010 1 else 0) ∧
      (∃ l, t.out = .answer acc 0 l :: s.out) ∧ KeepsObjects [keyOf idx sub] s t ∧ t = { s with dict := t.dict, out := t.out })

/-- A write of THRESHOLD (R607), THRESHOLD_WRITE, takes effect at once for STATE, which then shows whether the present value lies beyond the new
THRESHOLD. It is no crossing: LATCH, COUNT and EXTREME stay, no notice is raised; where the present value already lies beyond it, no further change
counts as one until the value has been back. The automatic row that may close the command is that of log 8. -/
def Obligations.ThresholdWritten : Prop :=
  ∀ (acc : Accessor) (idx sub : Nat) (d : List Byte) (s : State) (b : Nat) (high : Bool), Accepted s acc idx sub d →
    thresholdOf idx sub = some (b, high) →
    Completes (.thresholdWrite acc idx sub d) s fun t =>
      get t idx sub = ofLe d ∧ get t idx b = ofBool (beyond high (ofLe d) (watched s idx b)) ∧ Answered acc t ∧
      (beyond high (ofLe d) (watched s idx b) = true → ∀ v, let u := watch high t idx b (watched s idx b) v
        get u idx (b + 1) = get t idx (b + 1) ∧ get u idx (b + 2) = get t idx (b + 2)) ∧
      KeepsObjects [keyOf idx sub, keyOf idx b] s t ∧ t = { s with dict := t.dict, pins := t.pins, out := t.out }

/-- A read of LATCH (R87), WATERMARK_LATCH_READ, answers its value, clears it, and in the same step restarts EXTREME from the watched value at that
moment. The automatic row that may close the command is that of log 8. -/
def Obligations.LatchReadClears : Prop :=
  ∀ (acc : Accessor) (idx sub b : Nat) (s : State), answering s = true → readCode s acc idx sub = 0 → latchOf idx sub = some b →
    Completes (.watermarkLatchRead acc idx sub) s fun t =>
      get t idx (b + 1) = 0 ∧ get t idx (b + 3) = watched s idx b ∧ t.out = .answer acc 0 (leBytes 1 (get s idx (b + 1))) :: s.out ∧
      KeepsObjects [keyOf idx (b + 1), keyOf idx (b + 3)] s t ∧ t = { s with dict := t.dict, out := t.out }

/-- LOG_READ and NOTICE_READ (R571, R578): a read of 2410:01 advances the reader's own cursor past the entries it
answers and leaves the ring; a read of 2420:01 clears the pending notices.

MIRROR_ERASE (R573): while entries wait, no sector is free and an hour has passed, the sector of the oldest entries is erased and takes what
waited; else nothing is erased.
It rests on the model's choices of log 8, 21. -/
def Obligations.LogKept : Prop :=
  (∀ (acc : Accessor) (s : State), answering s = true →
    (readCode s acc 0x2410 1 = 0 → Completes (.logRead acc) s fun t =>
        t.log = s.log ∧ (∃ l, t.out = .answer acc 0 l :: s.out) ∧ t = { s with accs := t.accs, out := t.out } ∧
        (∀ a, a ≠ acc → accOf t a = accOf s a) ∧ (∀ e, (logEntries s acc).getLast? = some e → (accOf t acc).cursor = (e.seq + 1) % 2 ^ 32)) ∧
      (readCode s acc 0x2420 1 = 0 → Completes (.noticeRead acc) s fun t =>
        t.log.notices = [] ∧ (∃ l, t.out = .answer acc 0 l :: s.out) ∧ t = { s with log := { s.log with notices := [] }, out := t.out })) ∧
  (∀ s : State,
    (mayErase s = false → Completes .mirrorErase s fun u => u = s) ∧
      (mayErase s = true → s.log.pending.length ≤ 64 → Completes .mirrorErase s fun u =>
        get u 0x2418 4 = (get s 0x2418 4 + 1) % 2 ^ 32 ∧ get u 0x2418 5 = pressTime s ∧ u.log.active = oldestSector s.log ∧ u.log.pending = [] ∧
        mirrorSector u.log (oldestSector s.log) = s.log.pending.reverse ∧
        (∀ k, k ≠ oldestSector s.log → mirrorSector u.log k = mirrorSector s.log k) ∧ u.log.eraseFrom = some s.time ∧
        Output.flashErase (mirrorBase + 4096 * oldestSector s.log) ∈ u.out ∧ u.dict = s.dict ∧ u.md = s.md))

/-- APPLY (R66, R67): of one staged group that is immediate, its staging image ends and 2700:03 reads 0; where the group has no action of its own,
its staged values become the applied ones and nothing else acts. A deferred group (R71, R72) is armed with its image kept, or taken at once where no
sheet is on the path. A group that fails its checks (R68) keeps its applied set and its staging image. With no group to take the apply succeeds and
changes nothing (R70). Of several groups the answer is that of the lowest-numbered rejected one, which 2700:03 shows, and groups that the apply does
not take keep their images. DISCARD_STAGING (R77): with a group number the group's staging image ends and its stager's hold with it; where nobody
stages the group the write succeeds and changes nothing. With 255 the images and holds of all groups end that the accessor stages and that are not
armed. The applied values stay. DEFERRED_GROUP_TAKE, the apply point of an armed station group (R72, R73): with checks that pass the new set takes
effect and the group is no longer armed; with a check that fails the group is rejected, its bit in 2700:04 is set, a WARN entry is logged, and the
applied values stay. ANONYMOUS_ACCESSOR_TIMEOUT: an anonymous accessor that has been silent for 60 s (R78): its hold on every group ends, the images
of the groups that are not armed are discarded, and what the accessor has of its own goes; applied values and armed groups stay. It rests on the
model's choices of log 8, 46, 80. -/
def Obligations.GroupsAct : Prop :=
  (∀ (acc : Accessor) (d : List Byte) (s : State), Accepted s acc 0x2700 1 d →
    (∀ g : Nat, g ≤ 20 → applyGroups s acc = [g] →
      (groupCheck s g = 0 → deferredGroup g = false → Completes (.apply acc d) s fun t =>
          Answered acc t ∧ hasStaged t g = false ∧ get t 0x2700 3 = 0 ∧
          (g ∈ [0, 14, 15, 16, 18, 19] → get t 0x2700 8 = (get s 0x2700 8 + 1) % 2 ^ 32 ∧ t.md = s.md ∧ t.sheets = s.sheets ∧ t.rails = s.rails ∧
            ∀ k v, inGroup g k = true → tabFind s.staged k = some v → tabSorted s.staged = true → tabFind t.dict k = some v)) ∧
        (groupCheck s g = 0 → deferredGroup g = true → Completes (.apply acc d) s fun t =>
          Answered acc t ∧ get t 0x2700 3 = 0 ∧ t.md = s.md ∧ t.sheets = s.sheets ∧
          (g = 13 ∨ anyOnPath s = true → g ∈ t.armed ∧ t.staged = s.staged ∧ (∀ p ∈ t.stagers, p.1 ≠ g)) ∧
          (g ≠ 13 → anyOnPath s = false → g ∉ t.armed ∧ hasStaged t g = false)) ∧
        (groupCheck s g ≠ 0 → Completes (.apply acc d) s fun t =>
          t.out = .answer acc (groupCheck s g) [] :: s.out ∧ t.staged = s.staged ∧ t.stagers = s.stagers ∧ get t 0x2700 3 = groupCheck s g ∧
          (get t 0x2700 4).testBit g = true ∧ (∀ k, inGroup g k = true → k / 256 ≠ 0x2700 → tabFind t.dict k = tabFind s.dict k))) ∧
      (applyGroups s acc = [] → Completes (.apply acc d) s fun t => Answered acc t ∧ t = { s with pins := t.pins, out := t.out }) ∧
      (applyGroups s acc ≠ [] → Completes (.apply acc d) s fun t =>
        t.out.head? = some (.answer acc (get t 0x2700 3) []) ∧ ∀ g, g ≤ 20 → g ∉ applyGroups s acc → hasStaged t g = hasStaged s g)) ∧
  (∀ (acc : Accessor) (d : List Byte) (s : State), Accepted s acc 0x2700 2 d → ofLe d ≤ 20 →
    Completes (.discardStaging acc d) s fun t =>
      Answered acc t ∧ t.dict = s.dict ∧ stagerOf t (ofLe d) = none ∧
      ((stagerOf s (ofLe d)).isSome = true → hasStaged t (ofLe d) = false) ∧ (stagerOf s (ofLe d) = none → t.staged = s.staged ∧ t.armed = s.armed) ∧
      t = { s with staged := t.staged, stagedBlobs := t.stagedBlobs, stagers := t.stagers, armed := t.armed, pins := t.pins, out := t.out }) ∧
  (∀ (acc : Accessor) (d : List Byte) (s : State), Accepted s acc 0x2700 2 d → ofLe d = 255 →
    Completes (.discardStaging acc d) s fun t =>
      Answered acc t ∧ t.dict = s.dict ∧ t.armed = s.armed ∧
      (∀ g, (g, acc) ∈ s.stagers → s.armed.contains g = false → hasStaged t g = false ∧ ∀ p ∈ t.stagers, p.1 ≠ g) ∧
      t = { s with staged := t.staged, stagedBlobs := t.stagedBlobs, stagers := t.stagers, pins := t.pins, out := t.out }) ∧
  (∀ (g : Fin 21) (s : State), s.armed.contains g.val = false ∨ g.val = 0 ∨ 12 < g.val ∨ atBoundary s (groupStation g.val) = false →
    Completes (.deferredGroupTake g) s fun t => t = s) ∧
  (∀ (g : Fin 21) (s : State), s.armed.contains g.val = true → 1 ≤ g.val → g.val ≤ 12 → atBoundary s (groupStation g.val) = true →
    (groupCheck s g.val = 0 → Completes (.deferredGroupTake g) s fun t => g.val ∉ t.armed ∧ hasStaged t g.val = false ∧ t.md = s.md) ∧
      (groupCheck s g.val ≠ 0 → Completes (.deferredGroupTake g) s fun t =>
        g.val ∉ t.armed ∧ (get t 0x2700 4).testBit g.val = true ∧ t.staged = s.staged ∧ (∀ k, inGroup g.val k = true → k / 256 ≠ 0x2700 → tabFind t.dict k = tabFind s.dict k) ∧
        (s.log.ready = true → ∃ e, t.log.ring.head? = some e ∧ e.cls = 1 ∧ e.key = keyOf 0x2700 4))) ∧
  (∀ (ip port : Nat) (s : State),
    Completes (.anonymousAccessorTimeout ip port) s fun t =>
      (∀ p ∈ t.stagers, p.2 ≠ .anon ip port) ∧ (∀ p ∈ t.accs, p.1 ≠ .anon ip port) ∧ t.dict = s.dict ∧ t.armed = s.armed ∧
      (∀ g, (g, Accessor.anon ip port) ∈ s.stagers → s.armed.contains g = false → ∀ k, groupOf (k / 256) = g → tabFind t.staged k = none) ∧
      t = { s with stagers := t.stagers, staged := t.staged, stagedBlobs := t.stagedBlobs, accs := t.accs, log := t.log, net := t.net, out := t.out })

/-! ## Clocks -/

/-- A relock that runs through (R180 to R184, R198), by RELOCK, RELOCK_LOCK_DETECT, RELOCK_SETTLE_END, FREQUENCY_CHECK_END and STATION_DLL_LOCKED:
the request, while none runs, closes the gate, takes the DLLs off and begins attempt 1 at state 1, counted in 2200:06, and holds admission in READY;
while one runs it changes nothing. Lock detection leads to state 2, the settling with lock held to 3, a frequency check that fits opens the gate,
and each DLL that locks takes state 2; with the last one the relock ends. A relock whose first attempt fails (R185, R189): by RELOCK_LOCK_TIMEOUT,
lock lost while settling, a count that does not fit, CEILING_TRIP, or TIMEBASE_LOCK_LOSS with the gate open at kick-off. It is counted in 2200:07,
the gate closes, and the second attempt begins as the second serve. When a second attempt with no new set or the third fails outside kick-off
(R186), the timebase stays off until the next kick-off and SAFESTOP follows with cause 0x0C. It rests on the model's choices of log 3, 8, 75, 76. -/
def Obligations.Relocks : Prop :=
  (∀ s : State,
    (∀ (acc : Accessor) (d : List Byte), Accepted s acc 0x2200 2 d →
        (s.clk.relock = none → s.clk.refLost = false → Completes (.relock acc d) s fun t =>
          Answered acc t ∧ t.clk.gateOpen = false ∧ get t 0x2200 3 = 1 ∧ (∀ n, n < stationCount s → get t 0x2230 (n + 1) = 0) ∧ t.md = s.md ∧
          (∃ r, t.clk.relock = some r ∧ r.occasion = .request ∧ r.attempt = 1 ∧ r.start = s.time) ∧
          (s.armed.contains 13 = false → get t 0x2200 6 = (get s 0x2200 6 + 1) % 2 ^ 32) ∧ (s.md.mode = .ready → t.clk.admissionHold = true)) ∧
        (s.clk.relock.isSome = true → Completes (.relock acc d) s fun t => Answered acc t ∧ t = { s with pins := t.pins, out := t.out }) ∧
        (s.clk.refLost = true → Completes (.relock acc d) s fun t => Answered acc t ∧ t.clk.relock = s.clk.relock ∧ t.dict = s.dict)) ∧
      (s.clk.refLost = true → Completes .relockLockDetect s fun t => t = s) ∧
      (s.clk.refLost = false → s.clk.relock.isSome = true → get s 0x2200 3 = 1 → Completes .relockLockDetect s fun t => t = put s 0x2200 3 2) ∧
      (s.clk.refLost = false → s.clk.relock.isSome = true → get s 0x2200 3 = 2 → Completes (.relockSettleEnd true) s fun t => t = put s 0x2200 3 3) ∧
      (∀ count : Nat, s.clk.refLost = false → s.clk.relock.isSome = true → get s 0x2200 3 = 3 → s.clk.gateOpen = false → countFits s count = true →
        Completes (.frequencyCheckEnd count) s fun t =>
          t.clk = { s.clk with gateOpen := true } ∧ (∀ n, n < stationCount s → get t 0x2230 (n + 1) = 1) ∧
          get t 0x2200 5 = roundDiv (count * refHz s) (1000 * checkPeriods s) % 2 ^ 32 ∧ t = { s with clk := t.clk, dict := t.dict, stations := t.stations }) ∧
      (∀ n : Fin 6, present s n.val = true → s.clk.gateOpen = true → get s 0x2230 (n.val + 1) = 1 → s.md.mode ∉ [Mode.doze, .shutdown] →
        Completes (.stationDllLocked n) s fun t =>
          get t 0x2230 (n.val + 1) = 2 ∧ t.md = s.md ∧ t.sheets = s.sheets ∧
          (∀ r, s.clk.relock = some r → (∀ k, k < stationCount s → k ≠ n.val → get s 0x2230 (k + 1) = 2) →
            t.clk = { s.clk with relock := none } ∧ get t 0x2200 3 = 4 ∧ get t 0x2200 9 = (s.time - r.start) % 2 ^ 32) ∧
          (s.clk.relock = none → t.clk = s.clk ∧ get t 0x2200 3 = get s 0x2200 3))) ∧
  (∀ (s : State) (r : Relock), s.clk.relock = some r → s.clk.refLost = false →
    (r.attempt = 1 →
        let again := fun (t : State) =>
          t.clk = { s.clk with relock := some { r with attempt := 2 }, gateOpen := false, heldAt := t.clk.heldAt } ∧ get t 0x2200 3 = 1 ∧ t.md = s.md ∧
          get t 0x2200 7 = min (get s 0x2200 7 + 1) 65535 ∧ serving t .relock 255 = true ∧ (∀ n, n < stationCount s → get t 0x2230 (n + 1) = 0)
        (get s 0x2200 3 = 1 → Completes .relockLockTimeout s again) ∧
          (get s 0x2200 3 = 2 → Completes (.relockSettleEnd false) s again) ∧
          (∀ count : Nat, get s 0x2200 3 = 3 → s.clk.gateOpen = false → countFits s count = false → Completes (.frequencyCheckEnd count) s again) ∧
          (Completes .ceilingTrip s fun t => again t ∧ get t 0x2200 8 = min (get s 0x2200 8 + 1) 65535) ∧
          (s.clk.gateOpen = true → s.md.mode = .kickoff → Completes .timebaseLockLoss s again)) ∧
      (r.attempt = 2 → r.taken = true → get s 0x2200 3 = 1 → (∀ p ∈ r.previous, bandKey p.1 = true) → Completes .relockLockTimeout s fun t =>
        t.clk.relock = some { r with attempt := 3 } ∧ get t 0x2200 3 = 1 ∧ (get t 0x2700 4).testBit 13 = true ∧ t.md = s.md) ∧
      (r.attempt = 2 ∧ r.taken = false ∨ r.attempt = 3 → r.occasion ≠ .kickoff → get s 0x2200 3 = 1 → Completes .relockLockTimeout s fun t =>
        t.clk.relock = none ∧ t.clk.offUntilKickoff = true ∧ t.clk.gateOpen = false ∧ persists t 0x0C = true ∧
        (s.md.mode ∈ operating → t.md.mode = .safestop ∧ get t 0x2000 5 = 0x0C)))

/-- Faults of the running timebase and of the reference (R175, R189 to R192): SAFESTOP with cause 0x0C, the gate closed and the fault counted. The
first timebase fault relocks as its second serve, also where a relock has the gate open already; one while that runs or within 600 s of it leaves
the timebase off. The loss of the reference (REFERENCE_LOSS) ends in a warm
reset with the same cause (REFERENCE_LOSS_RESET).

DLL_LOCK_LOSS (R200): counted, the DLL relocks as its second serve; not locked 4 µs later (DLL_RELOCK_TIMEOUT), or lost again within 1 s of the
serve, is a double fault: SAFESTOP with cause 0x07.
It rests on the model's choices of log 8, 75. -/
def Obligations.ClockFaults : Prop :=
  (∀ s : State,
    let stops := fun (sub : Nat) (t : State) =>
      t.md.mode = .safestop ∧ t.md.previous = s.md.mode ∧ get t 0x2000 5 = 0x0C ∧ t.pins.safeN = true ∧ t.clk.gateOpen = false ∧
        get t 0x2200 sub = min (get s 0x2200 sub + 1) 65535
    let serves := fun (sub : Nat) (t : State) =>
      stops sub t ∧ (∃ r, t.clk.relock = some r ∧ r.occasion = .serve ∧ r.attempt = 1 ∧ r.start = s.time) ∧ get t 0x2200 3 = 1 ∧ serving t .timebase 255 = true
    let ends := fun (sub : Nat) (t : State) => stops sub t ∧ t.clk.offUntilKickoff = true ∧ t.clk.relock = none ∧ get t 0x2200 3 = 0
    let again := serving s .timebase 255 || servedWithin s .timebase 255 (ticksS 600)
    (s.md.mode ∈ operating → s.clk.refLost = false →
        (s.clk.relock = none → get s 0x2200 3 = 4 →
            (again = false → Completes .ceilingTrip s (serves 8)) ∧ (again = true → Completes .ceilingTrip s (ends 8))) ∧
          (s.clk.gateOpen = true →
            (again = false → Completes .timebaseLockLoss s (serves 7)) ∧ (again = true → Completes .timebaseLockLoss s (ends 7)))) ∧
      (s.md.mode ∈ operating → refWatched s = true → s.clk.refLost = false → Completes .referenceLoss s fun t =>
        stops 0x0B t ∧ t.clk.refLost = true ∧ t.clk.onReference = false ∧ serving t .reference 255 = true) ∧
      (s.clk.refLost = true → s.reset_.running = false → Completes .referenceLossReset s fun t =>
        t.md.mode = .kickoff ∧ t.md.previous = s.md.mode ∧ get t 0x2000 5 = 0x0C ∧ t.pins.safeN = true ∧ t.pins.rstLow = true ∧ t.sheets = [] ∧
        t.clk = {} ∧ t.time = s.time ∧ t.flash.image = s.flash.image)) ∧
  (∀ (s : State) (n : Fin 6),
    (present s n.val = true → get s 0x2230 (n.val + 1) = 2 →
        (servedWithin s .dll n.val (ticksS 1) = false → Completes (.dllLockLoss n) s fun t =>
          get t 0x2230 (n.val + 1) = 1 ∧ get t 0x2230 (n.val + 7) = min (get s 0x2230 (n.val + 7) + 1) 65535 ∧ serving t .dll n.val = true ∧
          t.md = s.md ∧ t.clk = s.clk) ∧
        (servedWithin s .dll n.val (ticksS 1) = true → s.md.mode ∈ operating → Completes (.dllLockLoss n) s fun t =>
          t.md.mode = .safestop ∧ get t 0x2000 5 = 7 ∧ get t 0x2230 (n.val + 1) = 1)) ∧
      (serving s .dll n.val = true → get s 0x2230 (n.val + 1) = 1 → s.md.mode ∈ operating → Completes (.dllRelockTimeout n) s fun t =>
        t.md.mode = .safestop ∧ get t 0x2000 5 = 7 ∧ serving t .dll n.val = false ∧ get t 0x2400 3 = min (get s 0x2400 3 + 1) 65535))

/-! ## Field network -/

/-- A received frame of any type, READ to SESSION_HELLO (R112, R210, R242, R243, R254): on a port that does not serve it has no effect; one that
does not keep its layout is discarded and counted; a receive queue of 256 drops and counts it; in DOZE it is queued and wakes the block with cause
5; where nothing else waits it is served at once, unless it is a request whose sender owes airtime, when it stays queued. SEGMENT, SEGMENT_ACK,
ABORT (R210, R213, R214): a segment in order that is neither last nor the sixteenth is added to its transfer, one out of order is discarded and the
highest in order acknowledged; an acknowledgement of every segment ends a transfer; ABORT ends the named transactions. It rests on the model's
choices of log 6, 8, 93, 139, 141. -/
def Obligations.FramesTaken : Prop :=
  (∀ (c : Instr) (x : FrameSrc) (u : Pdu) (s : State), pduOf c = some (x, u) →
    (portLive s x.p = false → exec c s = .next (settle s)) ∧
      (portLive s x.p = true → fits s x u = false → exec c s = .next (settle (discardFrame s x.p))) ∧
      (portLive s x.p = true → fits s x u = true → 256 ≤ (port s x.p).rx.length → exec c s = .next (settle (sat (arrived s x u) (portIdx x.p) 0x12))) ∧
      (portLive s x.p = true → fits s x u = true → (port s x.p).rx.length < 256 → s.md.mode = .doze → s.md.waking = false → Completes c s fun t =>
        (port t x.p).rx = (port s x.p).rx ++ [(x, u)] ∧ t.md = { s.md with waking := true, wakeCause := 5 } ∧ t.seq.state = 1 ∧ t.seq.dozeRails = true ∧
        t.sheets = s.sheets ∧ t.clk = s.clk) ∧
      (portLive s x.p = true → fits s x u = true → serves s = true → (port s x.p).rx = [] →
        (waits (arrived s x u) x u = false → exec c s = .next (settle (serveOne (taken s x u) x 0 u))) ∧
          (waits (arrived s x u) x u = true → Completes c s fun t =>
            (port t x.p).rx = [(x, u)] ∧ t.md = s.md ∧ t.sheets = s.sheets ∧ t.staged = s.staged ∧ t.net.cache = s.net.cache))) ∧
  (∀ (x : FrameSrc) (tid seq : Nat) (d : List Byte) (s : State),
    (∀ (f : Transfer) (u : Pdu), u = .segment tid false seq d → ServedAtOnce s x u →
        transferOf (taken s x u) x tid true = some f →
        (seq = f.next % 65536 → f.total ≠ 0xFFFFFFFF → f.data.length + d.length ≤ f.total → (f.next + 1) % 16 ≠ 0 →
          Completes (.segment x tid false seq d) s fun t => t = keepTransfer (taken s x u) { f with data := f.data ++ d, next := f.next + 1 }) ∧
        (seq ≠ f.next % 65536 → Completes (.segment x tid false seq d) s fun t => t = sendTo (taken s x u) x 7 (ackPayload tid ((f.next + 65535) % 65536)))) ∧
      (∀ (f : Transfer) (u : Pdu), u = .segAck tid seq → ServedAtOnce s x u → transferOf (taken s x u) x tid false = some f → f.own = false → f.repeated = false →
        f.acked < f.next → f.next ≤ f.acked + 16 → f.next ≤ 65535 → seq = f.next - 1 → segmentCount (taken s x u) f ≤ f.next →
        Completes (.segmentAck x tid seq) s fun t => t = dropTransfer (taken s x u) f.src tid false) ∧
      (∀ code : Nat, ServedAtOnce s x (.abort tid code) → Completes (.abort x tid code) s fun t =>
        t = dropTransfer (dropTransfer (taken s x (.abort tid code)) x tid false) x tid true ∧
        (∀ f ∈ t.net.transfers, sameRequester f.src x = true → f.tid ≠ tid)))

/-- READ, WRITE_EXPEDITED, WRITE_SEGMENTED (R209, R212 to R217, R223, R243): a read is answered expedited or segmented by its length, a write with its
result, a segmented write is opened or refused at its start; a request of a partner whose state bars it gets ABORT 0x0105, a fifth transaction or one
that meets a full transmit queue ABORT 0x0704; a repeat within the upper timeout gets the kept answer and acts no more.
It rests on the model's choices of log 8, 93, 139, 141. -/
def Obligations.RequestsAnswered : Prop :=
  ∀ (x : FrameSrc) (tid idx sub total : Nat) (d : List Byte) (s : State),
    let fresh := fun (u : Pdu) => ServedAtOnce s x u ∧ cachedAnswer s x tid u = none
    let free := fun (u : Pdu) => fresh u ∧ barred (taken s x u) x (accessorOf (taken s x u) x) = false ∧ openOf (taken s x u) x tid < 4 ∧
      txFull (taken s x u) x.p = false
    let base := fun (u : Pdu) => dropTransfer (taken s x u) x tid false
    let rd := readDict (accessorOf (base (.read tid idx sub)) x) idx sub (base (.read tid idx sub))
    let wr := writeDict (accessorOf (base (.writeExp tid idx sub d)) x) idx sub d (base (.writeExp tid idx sub d))
    let st := startCode (base (.writeSeg tid idx sub total)) (accessorOf (base (.writeSeg tid idx sub total)) x) idx sub total
    (free (.read tid idx sub) → Completes (.read x tid idx sub) s fun t =>
        (rd.2.1 ≠ 0 → Replied t x tid (.read tid idx sub) 2 (readAbort tid rd.2.1)) ∧
        (rd.2.1 = 0 → rd.2.2.length ≤ expRead x.p (classicalTo (base (.read tid idx sub)) x.p x.n) → Replied t x tid (.read tid idx sub) 2 (readExpedited tid rd.2.2)) ∧
        (rd.2.1 = 0 → expRead x.p (classicalTo (base (.read tid idx sub)) x.p x.n) < rd.2.2.length → Replied t x tid (.read tid idx sub) 2 (readSegmented tid rd.2.2.length) ∧
          ∃ f ∈ t.net.transfers, f.src = x ∧ f.tid = tid ∧ f.data = rd.2.2 ∧ f.next ≤ 16)) ∧
      (free (.writeExp tid idx sub d) → Completes (.writeExpedited x tid idx sub d) s fun t => Replied t x tid (.writeExp tid idx sub d) 4 (writeAnswer tid wr.2)) ∧
      (free (.writeSeg tid idx sub total) → Completes (.writeSegmented x tid idx sub total) s fun t =>
        (st ≠ 0 → Replied t x tid (.writeSeg tid idx sub total) 4 (writeResponse tid 2 st)) ∧
        (st = 0 → Replied t x tid (.writeSeg tid idx sub total) 4 (writeResponse tid 1 0) ∧
          ∃ f ∈ t.net.transfers, f.src = x ∧ f.tid = tid ∧ f.write = true ∧ f.total = total ∧ f.data = [] ∧ f.next = 0)) ∧
      (∀ (u : Pdu) (c : Instr), pduOf c = some (x, u) → u.requestTid = some tid →
        (fresh u → barred (taken s x u) x (accessorOf (taken s x u) x) = true →
          Completes c s fun t => Replied t x tid u 5 (abortPayload tid 0x0105) ∧ t.sheets = s.sheets ∧ t.md = s.md) ∧
        (fresh u → barred (taken s x u) x (accessorOf (taken s x u) x) = false → 4 ≤ openOf (taken s x u) x tid ∨ txFull (taken s x u) x.p = true →
          Completes c s fun t => Replied t x tid u 5 (abortPayload tid 0x0704))) ∧
      (∀ (k : Cached) (u : Pdu) (c : Instr), pduOf c = some (x, u) → u.requestTid = some tid → ServedAtOnce s x u → dikeOn s x.p = false → (port s x.p).tx = [] → cachedAnswer s x tid u = some k → Completes c s fun t =>
          Sent t x.p k.type x.n k.payload ∧ t.net.cache = s.net.cache ∧ t.md = s.md ∧ t.sheets = s.sheets ∧ t.staged = s.staged ∧
          KeepsObjects [keyOf (portIdx x.p) 0x10, keyOf (portIdx x.p) 0x11, keyOf (portIdx x.p) 0x20, keyOf (portIdx x.p) 0x21, keyOf (portIdx x.p) 0x22,
            keyOf (portIdx x.p) 0x23, keyOf (partnerIdx x.n) 9] s t)

/-- Partners (R107, R224, R229, R230, R238, R252): ROLLCALL_ANSWER makes its partner PRESENT, MISMATCH, UNEXPECTED or CONFLICT and keeps the identity
reported; ROLLCALL on the uplink is answered in the own slot, and in the node-only role that answer ends kick-off; CYCLIC_IN of a PRESENT partner is
counted as seen and its values written in order; ROLLCALL_BLOCK_END starts the next block or ends round 1; ROLLCALL_POLL_TIMEOUT makes an EXPECTED
partner ABSENT.

NETWORK_CYCLE_START (R234, R237, R238, R421): where cycles run, 1100:06 advances; a skipped start is counted in 2521:09 and makes no miss of its own;
an IN map that fell due and was not seen counts a miss, and the second in a row makes its partner LOST. PATRON_HEARTBEAT (R90) sends 4100:03
followed by the mode as a frame on CAN0 and advances it.
It rests on the model's choices of log 8, 92, 96, 115, 135, 136. -/
def Obligations.NetworkCycles : Prop :=
  (∀ (x : FrameSrc) (s : State),
    (∀ (id rev plca : Nat), ServedAtOnce s x (.rollcallAnswer id rev plca) → managed s x.p = true → inTerp s = false → x.n ≠ 0 → x.n ≠ 2047 →
        partnerState s x.n ≠ 7 →
        Completes (.rollcallAnswer x id rev plca) s fun t =>
          get t (partnerIdx x.n) 4 = id ∧ get t (partnerIdx x.n) 0x0E = plca ∧
          partnerState t x.n = (if answeredNow s x.p x.n = true then 7 else if get s (partnerIdx x.n) 2 ≠ x.p then 6
            else if get s (partnerIdx x.n) 3 = 0 ∨ get s (partnerIdx x.n) 3 = id then 2 else 5)) ∧
      (∀ (round b k len : Nat), ServedAtOnce s x (.rollcall round b k len) → x.p = uplink s → x.n = 0 → b ≤ get s 0x1100 3 → get s 0x1100 3 < b + k →
        (port s x.p).tx = [] →
        ((nodeOnly s = false ∨ s.md.mode ≠ .kickoff) → Completes (.rollcall x round b k len) s fun t => Sent t x.p 0x0C 0 (ownAnswer s x.p) ∧ t.md = s.md) ∧
        (nodeOnly s = true → s.md.mode = .kickoff → get s 0x2020 1 = 14 → Completes (.rollcall x round b k len) s fun t =>
          t.md.mode = .standby ∨ t.md.mode = .safestop)) ∧
      (∀ (m cycle : Nat) (d : List Byte), ServedAtOnce s x (.cyclicIn m cycle d) → managed s x.p = true → (mapsInUse (cycleMaps s)).contains m = true → mapIn (cycleMaps s) m = true →
        mapPartner (cycleMaps s) m = x.n → partnerState s x.n = 2 →
        Completes (.cyclicIn x m cycle d) s fun t =>
          let b := taken s x (.cyclicIn m cycle d)
          let b := { b with net := { b.net with inSeen := m :: b.net.inSeen, misses := tabSet b.net.misses x.n 0 } }
          t = expireSession (writeEntries b (accessorOf b x) (mapEntries (cycleMaps s) m) d) x) ∧
      (∀ p : Fin 7, (port s p.val).round ≠ 1 → exec (.rollcallBlockEnd p) s = .next (settle s)) ∧
      (∀ p : Fin 7, (port s p.val).round = 1 →
        (∀ k, p.val ≠ 4 → p.val ≠ 5 → nextBlock s p.val ((port s p.val).block + 1) = some k → Completes (.rollcallBlockEnd p) s fun t =>
          (port t p.val).round = 1 ∧ (port t p.val).block = k ∧ t.md = s.md) ∧
        (p.val = 4 ∨ p.val = 5 ∨ nextBlock s p.val ((port s p.val).block + 1) = none → Completes (.rollcallBlockEnd p) s fun t =>
          t.md = s.md ∧ ((∀ n ∈ assigned s p.val, partnerState s n ≠ 1) → (port t p.val).round = 3) ∧
          ((∃ n ∈ assigned s p.val, partnerState s n = 1) → (port t p.val).round = 2 ∧ ∃ n ∈ assigned s p.val, (port t p.val).polled = some n))) ∧
      (∀ p : Fin 7, (port s p.val).polled = none → exec (.rollcallPollTimeout p) s = .next (settle s)) ∧
      (∀ (p : Fin 7) (n : Nat), (port s p.val).polled = some n → partnerState s n = 1 → Completes (.rollcallPollTimeout p) s fun t =>
        partnerState t n = 3 ∧ t.md = s.md ∧ t.sheets = s.sheets)) ∧
  (∀ s : State,
    (cyclesRun s = true → s.net.inDue = [] → (∀ p, p < 7 → (port s p).rx = []) →
        (Completes (.networkCycleStart true) s fun t =>
          get t 0x1100 6 = (get s 0x1100 6 + 1) % 2 ^ 32 ∧ get t 0x2521 9 = min (get s 0x2521 9 + 1) 65535 ∧ get t 0x2521 4 = get s 0x2521 4 ∧ t.md = s.md) ∧
        (Completes (.networkCycleStart false) s fun t =>
          get t 0x1100 6 = (get s 0x1100 6 + 1) % 2 ^ 32 ∧ get t 0x2521 4 = (get s 0x2521 4 + 1) % 2 ^ 32 ∧ get t 0x2521 9 = get s 0x2521 9 ∧ t.md = s.md)) ∧
      (∀ m : Nat, cyclesRun s = true → s.net.inDue = [m] → m ∉ s.net.inSeen → (∀ p, p < 7 → (port s p).rx = []) →
        let n := mapPartner (cycleMaps s) m
        partnerState s n = 2 → get s (partnerIdx n) 7 < 2 → Completes (.networkCycleStart true) s fun t =>
          get t (partnerIdx n) 0x0C = min (get s (partnerIdx n) 0x0C + 1) 65535 ∧ tabGet 0 t.net.misses n = tabGet 0 s.net.misses n + 1 ∧
          partnerState t n = (if 1 ≤ tabGet 0 s.net.misses n then 4 else 2)) ∧
      (patron s = true → get s 0x4100 1 ≠ 0 → portLive s 0 = true → inTerp s = false → (s.md.mode = .kickoff → 14 ≤ get s 0x2020 1) → Completes .patronHeartbeat s fun t =>
        t.out = .heartbeat (get s 0x4100 2) (leBytes 1 (get s 0x4100 3) ++ leBytes 1 (modeCode s.md.mode)) :: s.out ∧
        get t 0x4100 3 = (get s 0x4100 3 + 1) % 256 ∧ get t 0x1110 0x11 = (get s 0x1110 0x11 + 1) % 2 ^ 32 ∧
        KeepsObjects [keyOf 0x4100 3, keyOf 0x1110 0x11] s t ∧ t = { s with dict := t.dict, out := t.out }))

/-- Requests of the block's own and partners gone silent (R211, R219 to R221, R241, R245): READ_RESPONSE and WRITE_RESPONSE end the request they
answer, and one that belongs to no request is counted in 1110+p:13; LOWER_RETRY_EXPIRY begins the lower retry as second serve; UPPER_TIMEOUT ends the
transaction, counted in 1110+p:14 and 6000+n:0B, and a request's caller gets 0x0801; PARTNER_IDLE_TIMEOUT has an idle PRESENT partner polled once,
after the poll that is open on its port.
It rests on the model's choices of log 8, 94, 138. -/
def Obligations.OwnRequests : Prop :=
  ∀ (x : FrameSrc) (tid : Nat) (s : State),
    (∀ (status : Nat) (d : List Byte), ServedAtOnce s x (.readResponse tid status d) → ownOf s x tid false = none →
        Completes (.readResponse x tid status d) s fun t => t = sat (taken s x (.readResponse tid status d)) (portIdx x.p) 0x13) ∧
      (∀ (status code : Nat), ServedAtOnce s x (.writeResponse tid status code) → ownOf s x tid true = none →
        Completes (.writeResponse x tid status code) s fun t => t = sat (taken s x (.writeResponse tid status code)) (portIdx x.p) 0x13) ∧
      (∀ (f : Transfer) (d : List Byte), ServedAtOnce s x (.readResponse tid 0 d) → ownOf s x tid false = some f →
        Completes (.readResponse x tid 0 d) s fun t => serving t .tdpRequest x.n = false ∧ (∀ g ∈ t.net.transfers, g ≠ f)) ∧
      (∀ (f : Transfer) (code : Nat), ServedAtOnce s x (.writeResponse tid 0 code) → ownOf s x tid true = some f →
        Completes (.writeResponse x tid 0 code) s fun t => serving t .tdpRequest x.n = false ∧ (∀ g ∈ t.net.transfers, g ≠ f)) ∧
      (∀ (n : Fin 2048) (f : Transfer), waitingFor s n.val tid = some f → f.repeated = false → Completes (.lowerRetryExpiry n tid) s fun t =>
        serving t .tdpRequest n.val = true ∧ (f.src.p ≠ 6 ∨ f.src.auth = none → { f with repeated := true } ∈ t.net.transfers) ∧ t.md = s.md ∧
        t.sheets = s.sheets) ∧
      (∀ (n : Fin 2048) (f : Transfer), waitingFor s n.val tid = some f → Completes (.upperTimeout n tid) s fun t =>
        f ∉ t.net.transfers ∧ serving t .tdpRequest n.val = false ∧ get t (portIdx f.src.p) 0x14 = min (get s (portIdx f.src.p) 0x14 + 1) 65535 ∧
        get t (partnerIdx n.val) 0x0B = min (get s (partnerIdx n.val) 0x0B + 1) 65535 ∧ t.md = s.md ∧
        (f.own = true → Output.callerAbort n.val tid 0x0801 ∈ t.out) ∧
        (serving s .tdpRequest n.val = true → get t 0x2400 3 = min (get s 0x2400 3 + 1) 65535)) ∧
      (∀ n : Fin 2048, partnerState s n.val = 2 → get s (partnerIdx n.val) 8 ≠ 0 → portLive s (get s (partnerIdx n.val) 2) = true →
        managed s (get s (partnerIdx n.val) 2) = true → serving s .partnerIdle n.val = false → Completes (.partnerIdleTimeout n) s fun t =>
          let p := get s (partnerIdx n.val) 2
          serving t .partnerIdle n.val = true ∧ t.md = s.md ∧
          ((port s p).polled ≠ none → (port t p).polled = (port s p).polled ∧ (port t p).toPoll = (port s p).toPoll ++ [n.val]) ∧
          ((port s p).polled = none → (port s p).toPoll = [] → (port s p).tx = [] → covers s p n.val (frameNs s p (pollFrame s p n.val)) = true →
            (port t p).polled = some n.val ∧ Sent t p 0x0B n.val (rollcallPayload 2 n.val 1 (slotUs s p))))

/-- What a port does with errors and with frames that are not TDP (R201, R202, R203, R205, R210, R229, R249): BUS_OFF begins recovery as second serve
and BUS_OFF_RECOVERY_COMPLETE ends it, the port off after a second within 10 s; CAN_ERROR_FRAME in a partner's slot is a CONFLICT; NON_TDP_FRAME and
INVALID_TDP_FRAME are counted; ARP_REQUEST and ICMP_ECHO_REQUEST are answered. CANn_STB is low where the port is enabled and awake, else high.

Sessions and the network's own objects (R205, R223, R231, R232, R248, R249, R250): SESSION_HELLO on ETH opens a session under its slot's key, or is
dropped and counted; SESSION_CLOSE under a right trailer, SESSION_TIMEOUT and KEY_SLOT_WRITE end sessions; PORT_CONFIG_WRITE gives a port object its
value, and the queues begin afresh when it configures the port; PARTNER_PORT_WRITE makes its partner EXPECTED or UNASSIGNED.
It rests on the model's choices of log 8, 95, 99, 141, 142. -/
def Obligations.PortsAndSessions : Prop :=
  (∀ s : State,
    (∀ p : Fin 4, portLive s p.val = true →
        ((∀ b, (port s p.val).lastBusOff = some b → ticksS 10 < s.time - b) → Completes (.busOff p) s fun t =>
          (port t p.val).recovering = true ∧ (port t p.val).lastBusOff = some s.time ∧ serving t .canPort p.val = true ∧
          get t (portIdx p.val) 0x16 = min (get s (portIdx p.val) 0x16 + 1) 65535 ∧ t.md = s.md) ∧
        (∀ b, (port s p.val).lastBusOff = some b → s.time - b ≤ ticksS 10 → Completes (.busOff p) s fun t =>
          (port t p.val).dead = true ∧ (port t p.val).rx = [] ∧ (port t p.val).tx = [] ∧ portEnabled t p.val = false) ∧
        (∀ n : Fin 2048, (managed s p.val && inWindow s p.val n.val) = false →
          Completes (.canErrorFrame p n) s fun t => t = sat s (portIdx p.val) 0x15) ∧
        (∀ n : Fin 2048, managed s p.val = true → inWindow s p.val n.val = true → Completes (.canErrorFrame p n) s fun t =>
          partnerState t n.val = 7 ∧ get t (portIdx p.val) 0x15 = min (get s (portIdx p.val) 0x15 + 1) 65535 ∧ t.md = s.md) ∧
        (Completes (.nonTdpFrame p) s fun t =>
          get t (portIdx p.val) 0x18 = min (get s (portIdx p.val) 0x18 + 1) 65535 ∧ get t (portIdx p.val) 0x10 = (get s (portIdx p.val) 0x10 + 1) % 2 ^ 32 ∧
          KeepsObjects [keyOf (portIdx p.val) 0x10, keyOf (portIdx p.val) 0x18] s t ∧ t = { s with dict := t.dict, out := t.out })) ∧
      (∀ p : Fin 4, (port s p.val).recovering = true → Completes (.busOffRecoveryComplete p) s fun t =>
        (port t p.val).recovering = false ∧ serving t .canPort p.val = false ∧ t.md = s.md) ∧
      (∀ p : Fin 7, portLive s p.val = true →
        (Completes (.invalidTdpFrame p false) s fun t => t = sat (bump (acknowledgeCan s p.val) (portIdx p.val) 0x10) (portIdx p.val) 0x18) ∧
        (Completes (.invalidTdpFrame p true) s fun t => t = sat (bump s (portIdx p.val) 0x10) 0x2700 0x2A)) ∧
      (∀ ip mac : Nat, portLive s 6 = true → Completes (.arpRequest ip mac (get s 0x1116 2)) s fun t =>
        t = emit s (.arpReply ip mac (get s 0x1116 2) (get s 0x1116 9))) ∧
      (∀ p : Nat, canStb s p = false ↔ portEnabled s p = true ∧ portAwake s p = true) ∧
      (∀ (ip : Nat) (d : List Byte), portLive s 6 = true → Completes (.icmpEchoRequest ip d) s fun t => t = emit s (.echoReply ip d))) ∧
  (∀ s : State,
    (∀ (x : FrameSrc) (slot : Nat) (nonce : List Byte), x.p = 6 → fits s x (.sessionHello slot nonce) = true → portLive s 6 = true → serves s = true →
        (port s 6).rx = [] → waits (arrived s x (.sessionHello slot nonce)) x (.sessionHello slot nonce) = false → sessionAt s x.ip x.udpPort = none → x.auth = none →
        (slot < 4 → get s 0x2700 (0x25 + slot) ≠ 0 → getBlob s 0x2700 (0x21 + slot) ≠ [] → s.net.sessions.length < 8 →
          Completes (.sessionHello x slot nonce) s fun t =>
            ∃ y, t.net.sessions = y :: s.net.sessions ∧ y.id = s.net.nextSession ∧ y.slot = slot ∧ y.ip = x.ip ∧ y.udpPort = x.udpPort ∧ y.inSeq = 0 ∧
              t.md = s.md ∧ t.net.nextSession = s.net.nextSession + 1) ∧
        (4 ≤ slot ∨ get s 0x2700 (0x25 + slot) = 0 ∨ getBlob s 0x2700 (0x21 + slot) = [] ∨ 8 ≤ s.net.sessions.length →
          Completes (.sessionHello x slot nonce) s fun t => t.net.sessions = s.net.sessions ∧ get t 0x2700 0x2A = min (get s 0x2700 0x2A + 1) 65535)) ∧
      (∀ (x : FrameSrc) (slot q : Nat) (tag : List Byte) (y : Session), x.p = 6 → portLive s 6 = true → serves s = true → (port s 6).rx = [] →
        fits s x (.sessionClose slot) = true → sessionAt s x.ip x.udpPort = some y → x.auth = some (q, tag) →
        authentic s x (.sessionClose slot) y q tag = true → Completes (.sessionClose x slot) s fun t =>
          (∀ z ∈ t.net.sessions, z.id ≠ y.id) ∧ (∀ p ∈ t.stagers, p.2 ≠ .session y.id) ∧ t.md = s.md) ∧
      (∀ id : Nat, (sessionOf s id).isSome = true → Completes (.sessionTimeout id) s fun t =>
        (∀ z ∈ t.net.sessions, z.id ≠ id) ∧ (∀ p ∈ t.stagers, p.2 ≠ .session id) ∧ (∀ p ∈ t.accs, p.1 ≠ .session id) ∧ t.dict = s.dict ∧ t.md = s.md) ∧
      (∀ (acc : Accessor) (sub : Nat) (d : List Byte), Accepted s acc 0x2700 sub d → Completes (.keySlotWrite acc sub d) s fun t =>
        (0x21 ≤ sub → sub ≤ 0x24 → getBlob t 0x2700 sub = d ∧ ∀ z ∈ t.net.sessions, z.slot ≠ sub - 0x21) ∧
        (0x25 ≤ sub → sub ≤ 0x28 → get t 0x2700 sub = ofLe d ∧ ∀ z ∈ t.net.sessions, z.slot ≠ sub - 0x25)) ∧
      (∀ (acc : Accessor) (p : Fin 7) (sub : Nat) (d : List Byte), Accepted s acc (0x1110 + p.val) sub d → Completes (.portConfigWrite acc p sub d) s fun t =>
        get t (0x1110 + p.val) sub = ofLe d ∧ Answered acc t ∧ t.md = s.md ∧ t.sheets = s.sheets ∧
        (sub = 1 → (port t p.val).dead = false) ∧
        (sub ≤ 7 → (port t p.val).rx = [] ∧ (port t p.val).tx = [] ∧
          KeepsObjects (keyOf (0x1110 + p.val) sub :: [0x20, 0x23, 0x28, 0x2B].map (keyOf (0x1110 + p.val))) s t)) ∧
      (∀ (acc : Accessor) (n : Fin 2048) (d : List Byte), Accepted s acc (0x6000 + n.val) 2 d → Completes (.partnerPortWrite acc n d) s fun t =>
        get t (0x6000 + n.val) 2 = ofLe d ∧ partnerState t n.val = (if ofLe d < 7 then 1 else 0) ∧ Answered acc t ∧ t.md = s.md ∧
        (ofLe d < 7 → (port t (ofLe d)).pollOrder.head? = some n.val)))

/-! ## Host link and tenants -/

/-- SHEET_TAIL_DOORBELL, COMPLETION_HEAD_DOORBELL, CANCEL_DOORBELL (R262, R270, R271, R287): on an absent VF they do nothing; in DOZE they are held and
wake the block; an invalid one is counted in 5000+n:18. A sheet tail and a completion head take their pointer; a cancel removes every sheet of the
tenant from its ring slot on that is PENDING or RESIDENT, and no sheet of another tenant.
It rests on the model's choices of log 8, 37, 39. -/
def Obligations.DoorbellsRing : Prop :=
  ∀ (t : Fin 64) (i : Nat) (s : State),
    (answering s = false ∨ vfUp s t.val = false → ∀ c ∈ [Instr.sheetTailDoorbell t i, .completionHeadDoorbell t i, .cancelDoorbell t i],
        exec c s = .next (settle s)) ∧
      (answering s = true → vfUp s t.val = true →
        (s.md.mode = .doze → s.md.waking = false →
          ∀ q ∈ [(Instr.sheetTailDoorbell t i, 0), (.completionHeadDoorbell t i, 1), (.cancelDoorbell t i, 2)], Completes q.1 s fun u =>
            u.md = { s.md with bells := s.md.bells ++ [(t.val, q.2, i)], waking := true, wakeCause := 5 } ∧ u.seq.state = 1 ∧ u.tenants = s.tenants) ∧
        (s.md.mode ≠ .doze → (tenant s t.val).state = .enabled →
          let x := tenant s t.val
          let n := sheetRing s t.val
          let m := compRing s t.val
          let from_ := ringDist n (oldestSlot s t.val) i
          let refused := fun (u : State) => get u (0x5000 + t.val) 0x18 = min (get s (0x5000 + t.val) 0x18 + 1) 65535 ∧ u.tenants = s.tenants ∧
            u.sheets = s.sheets ∧ KeepsObjects [keyOf (0x5000 + t.val) 0x18] s u
          (i < n → ringDist n x.sheetTail i ≤ n - 1 - ringDist n x.descHead x.sheetTail → Completes (.sheetTailDoorbell t i) s fun u =>
              tenant u t.val = { x with sheetTail := i } ∧ (∀ k, k ≠ t.val → tenant u k = tenant s k) ∧ u = { s with tenants := u.tenants }) ∧
            (n ≤ i ∨ n - 1 - ringDist n x.descHead x.sheetTail < ringDist n x.sheetTail i → Completes (.sheetTailDoorbell t i) s refused) ∧
            (i < m → ringDist m x.compHead i ≤ ringDist m x.compHead x.compTail → Completes (.completionHeadDoorbell t i) s fun u =>
              (tenant u t.val).compHead = i ∧ u.sheets = s.sheets ∧ u.md = s.md ∧ (x.heldDone = [] → tenant u t.val = { x with compHead := i } ∧ u.out = s.out)) ∧
            (m ≤ i ∨ ringDist m x.compHead x.compTail < ringDist m x.compHead i → Completes (.completionHeadDoorbell t i) s refused) ∧
            (i < n → from_ < ringDist n (oldestSlot s t.val) x.sheetTail → Completes (.cancelDoorbell t i) s fun u =>
              (∀ sh ∈ u.sheets, sh.tenant = t.val → sh.state = .pending ∨ sh.state = .resident → ringDist n (oldestSlot s t.val) sh.ringIndex < from_) ∧
              (∀ sh ∈ s.sheets, (∀ y ∈ s.sheets, y.uid = sh.uid → y.tenant ≠ t.val) → sh ∈ u.sheets) ∧ u.md = s.md) ∧
            (n ≤ i ∨ ringDist n (oldestSlot s t.val) x.sheetTail ≤ from_ → Completes (.cancelDoorbell t i) s refused)))

/-- MAILBOX_READ and MAILBOX_WRITE (R260, R261): one dictionary access, answered in its status: 2 when done, 3 with the abort code; a value read goes
into the data window, or by DMA into the host buffer, and the length field takes its size. A reserved operation aborts with 0x0303; a go while the
status is busy is counted and nothing else. A function that is absent or in reset has no mailbox.
It rests on the model's choices of log 8, 103. -/
def Obligations.MailboxAccess : Prop :=
  ∀ (fn : Fin 65) (op idx sub len addr : Nat) (data : List Byte) (s : State),
    (mailboxOpen s fn = false → exec (.mailboxRead fn op idx sub ⟨len, addr⟩) s = .next (settle s) ∧
        exec (.mailboxWrite fn idx sub len addr data) s = .next (settle s)) ∧
      (mailboxOpen s fn = true → (tenant s (mailboxKey fn)).mbStatus = 1 →
        ∀ c ∈ [Instr.mailboxRead fn op idx sub ⟨len, addr⟩, .mailboxWrite fn idx sub len addr data],
          Completes c s fun u => u = if fn.val = 0 then sat s 0x5060 9 else sat s (0x5000 + (fn.val - 1)) 0x18) ∧
      (mailboxOpen s fn = true → (tenant s (mailboxKey fn)).mbStatus ≠ 1 →
        let r := readDict (functionAccessor fn) idx sub (mailboxStart s fn op idx sub len addr)
        let failed := fun (code : Nat) (u : State) => (tenant u (mailboxKey fn)).mbStatus = 3 ∧ (tenant u (mailboxKey fn)).mbAbort = code ∧
          u = { s with tenants := u.tenants, out := u.out }
        (op ≠ 1 → op ≠ 2 → Completes (.mailboxRead fn op idx sub ⟨len, addr⟩) s (failed 0x0303)) ∧
          (mailboxCode op len addr ≠ 0 → Completes (.mailboxRead fn op idx sub ⟨len, addr⟩) s (failed (mailboxCode op len addr))) ∧
          (mailboxCode 2 len addr ≠ 0 → Completes (.mailboxWrite fn idx sub len addr data) s (failed (mailboxCode 2 len addr))) ∧
          (mailboxCode op len addr = 0 → r.2.1 ≠ 0 → Completes (.mailboxRead fn op idx sub ⟨len, addr⟩) s (failed r.2.1)) ∧
          (mailboxCode op len addr = 0 → r.2.1 = 0 → (if addr = 0 then 4032 else len) < r.2.2.length →
            Completes (.mailboxRead fn op idx sub ⟨len, addr⟩) s (failed 0x0202)) ∧
          (mailboxCode op len addr = 0 → r.2.1 = 0 → r.2.2.length ≤ (if addr = 0 then 4032 else len) →
           Completes (.mailboxRead fn op idx sub ⟨len, addr⟩) s fun u =>
            let x := tenant u (mailboxKey fn)
            x.mbStatus = 2 ∧ x.mbAbort = 0 ∧ x.mbLen = r.2.2.length ∧ (addr = 0 → x.mbWindow.take r.2.2.length = r.2.2) ∧
            (addr ≠ 0 → ∀ o ∈ hostWrites (mailboxKey fn) addr r.2.2, o ∈ u.out) ∧ u.dict = r.1.dict ∧ u.md = s.md ∧ u.sheets = s.sheets) ∧
          (mailboxCode 2 len addr = 0 →
            let b := mailboxStart s fn 2 idx sub len addr
            let b := if addr = 0 then setTenant b (mailboxKey fn) (fun x => { x with mbWindow := data.take len ++ x.mbWindow.drop (data.take len).length })
              else emitAll b (hostReads (mailboxKey fn) addr len)
            let w := writeDict (functionAccessor fn) idx sub (data.take len) b
            (tenant w.1 (mailboxKey fn)).mbStatus = 1 → Completes (.mailboxWrite fn idx sub len addr data) s fun u =>
              (tenant u (mailboxKey fn)).mbStatus = (if w.2 = 0 then 2 else 3) ∧ (tenant u (mailboxKey fn)).mbAbort = w.2 ∧ u.dict = w.1.dict ∧ u.md = w.1.md ∧
              u.sheets = w.1.sheets))

/-- Ingest (R17, R255, R259, R263, R266, R273, R274, R278, R294): DESCRIPTOR_FETCH reads a burst of descriptors and passes their slots;
DESCRIPTOR_RECEIVED makes a descriptor that passes every check PENDING and completes any other REJECTED with its reason; PLANE_FETCH_START sends the
reads of a sheet's planes where there is space; PLANE_READ_COMPLETION of the last plane makes the sheet RESIDENT; INGEST_READ_ERROR is reported and
counted and its read sent again. An access outside the tenant's units, a DRAM read of ingest that fails twice, and a read error whose repeat fails,
reset the tenant.
It rests on the model's choices of log 8, 35, 36, 44, 144, 145, 149. -/
def Obligations.IngestWorks : Prop :=
  ∀ (t : Fin 64) (s : State), answering s = true →
    let x := tenant s t.val
    let n := sheetRing s t.val
    let k := burstLength s t.val
    let others := fun (u : State) => ∀ j, j ≠ t.val → tenant u j = tenant s j
    (mayFetch s t.val = true → k ≠ 0 → Completes (.descriptorFetch t) s fun u =>
        tenant u t.val = { x with descHead := (x.descHead + k) % n, outstanding := x.outstanding + k } ∧ others u ∧
        u.out.length = s.out.length + k ∧ u = { s with tenants := u.tenants, out := u.out }) ∧
      (∀ bytes : List Byte,
        let ring := (x.descHead + n - x.outstanding % n) % n
        let sh := sheetFrom s.nextUid t.val ring bytes
        x.state = .enabled → x.outstanding ≠ 0 → ring ∉ x.cancelSlots → Completes (.descriptorReceived t bytes) s fun u =>
          (tenant u t.val).outstanding = x.outstanding - 1 ∧ get u (0x5000 + t.val) 0x15 = (get s (0x5000 + t.val) 0x15 + 1) % 2 ^ 32 ∧ u.md = s.md ∧ others u ∧
          (rejection s sh bytes = 0 → u.sheets = s.sheets ++ [sh]) ∧
          (rejection s sh bytes ≠ 0 → u.sheets = s.sheets ∧ (x.heldDone = [] → mustHold s t.val = false →
            ∃ l, Output.hostWrite t.val (get s (0x5000 + t.val) 6 + 32 * x.compTail) l ∈ u.out ∧ l.getD 8 0 = 4 ∧
              l.getD 9 0 = BitVec.ofNat 8 (rejection s sh bytes)))) ∧
      (∀ sh : Sheet, mayFetch s t.val = true → nextFetch s t.val = some sh →
        (spaceShort s t.val = false → Completes (.planeFetchStart t) s fun u =>
          u.sheets = s.sheets.map (fun y => if y.uid = sh.uid then { y with fetching := true } else y) ∧ u = { s with sheets := u.sheets, out := u.out } ∧
          (∀ st, st < 6 → sh.hasPlane st = true → ∀ o ∈ hostReads t.val (sh.planes.getD st {}).addr (sh.planes.getD st {}).len, o ∈ u.out)) ∧
        (spaceShort s t.val = true → Completes (.planeFetchStart t) s fun u => u = s)) ∧
      (∀ (ring unit : Nat) (st : Fin 6) (data : List Byte) (reads : List BeatRead) (sh : Sheet), x.state = .enabled →
        planeSheet s t.val ring st.val = some sh →
        (unit ∈ x.units → (dramReads (.ingest t) reads s).2 = true → Completes (.planeReadCompletion t ring st unit ⟨data, reads⟩) s fun u =>
          let last := (List.range 6).all fun j => !sh.hasPlane j || j == st.val || tabHas sh.data j
          (∃ y ∈ u.sheets, y.uid = sh.uid ∧ tabFind y.data st.val = some data ∧ y.state = (if last = true then .resident else .pending)) ∧
          get u (0x5000 + t.val) 0x16 = (get s (0x5000 + t.val) 0x16 + data.length) % 2 ^ 64 ∧
          (last = false ∨ s.md.mode ≠ .standby ∨ get s 0x2000 7 = 0 → u.md = s.md) ∧
          (last = true → s.md.mode = .standby → get s 0x2000 7 ≠ 0 → u.md.mode = .warmup ∧ get u 0x2000 5 = 3)) ∧
        (unit ∈ x.units → (dramReads (.ingest t) reads s).2 = false → Completes (.planeReadCompletion t ring st unit ⟨data, reads⟩) s fun u =>
          (tenant u t.val).state ≠ .enabled ∧ get u (0x5000 + t.val) 0x1B = 4) ∧
        (unit ∉ x.units → Completes (.planeReadCompletion t ring st unit ⟨data, reads⟩) s fun u =>
          (tenant u t.val).state ≠ .enabled ∧ get u (0x5000 + t.val) 0x1B = 5 ∧ get u (0x5000 + t.val) 0x19 = min (get s (0x5000 + t.val) 0x19 + 1) 65535 ∧
          u.md = s.md)) ∧
      (∀ (e : IngestError) (addr len : Nat), ingestBusy s t.val addr len = true →
        (Completes (.ingestReadError t ⟨e, addr, len⟩ false) s fun u =>
          get u (0x5000 + t.val) 0x17 = min (get s (0x5000 + t.val) 0x17 + 1) 65535 ∧ serving u .ingest t.val = false ∧ others u ∧
          (aerBit e = none → tenant u t.val = x) ∧ (∀ b, aerBit e = some b → tenant u t.val = { x with aer := setBit x.aer b }) ∧
          (∀ o ∈ hostReads t.val addr len, o ∈ u.out) ∧ u.sheets = s.sheets ∧ u.md = s.md) ∧
        (Completes (.ingestReadError t ⟨e, addr, len⟩ true) s fun u =>
          get u (0x5000 + t.val) 0x17 = min (get s (0x5000 + t.val) 0x17 + 1) 65535 ∧ (tenant u t.val).state ≠ .enabled ∧
          get u (0x5000 + t.val) 0x1B = 4 ∧ u.md = s.md))

/-- Tenants enabled and reset (R106, R255, R256, R268, R275, R279 to R286): TENANT_ENABLE allocates the units and starts the rings; every reset
(TENANT_DISABLE, TENANT_RESET_WRITE, FUNCTION_LEVEL_RESET, NUMVFS_WRITE) is counted with its cause, leaves the tenant in another state than ENABLED and
its remaining sheets as ghosts; PF0's reset and PE_PERST reset all tenants, PE_PERST_RELEASE trains the link; SCRUB_COMPLETE returns the units;
BUS_MASTER_ENABLE and COALESCING_TIMEOUT act on completions alone. Before kick-off step 12 a configuration request is answered with a retry status.
It rests on the model's choices of log 8, 40, 41, 42, 45. -/
def Obligations.TenantsChange : Prop :=
  ∀ (t : Fin 64) (s : State),
    let x := tenant s t.val
    let i := 0x5000 + t.val
    let reset := fun (cause : Nat) (u : State) => get u i 0x1B = cause ∧ get u i 0x1A = min (get s i 0x1A + 1) 65535 ∧ u.md = s.md ∧
      (x.state = .enabled → (tenant u t.val).state ≠ .enabled ∧ ∀ sh ∈ u.sheets, sh.tenant = t.val → sh.ghost = true)
    let allReset := fun (u : State) => get u 0x5060 6 = 0 ∧ (∀ n, n < 64 → (tenant u n).state ≠ .enabled) ∧ u.md = s.md
    (∀ (acc : Accessor) (d : List Byte), Accepted s acc i 2 d → ofLe d = 1 → Completes (.tenantEnable acc t d) s fun u =>
        (tenant u t.val).state = .enabled ∧ (tenant u t.val).units = s.mem.unitsFree.take (get s i 8) ∧ u.mem.unitsFree = s.mem.unitsFree.drop (get s i 8) ∧
        (tenant u t.val).sheetTail = 0 ∧ (tenant u t.val).compTail = 0 ∧ (tenant u t.val).phase = true ∧ get u i 2 = 1 ∧ Answered acc u ∧
        (∀ j, j ≠ t.val → tenant u j = tenant s j) ∧ u.sheets = s.sheets) ∧
      (∀ (acc : Accessor) (d : List Byte), Accepted s acc i 2 d → ofLe d = 0 → Completes (.tenantDisable acc t d) s fun u =>
        get u i 2 = 0 ∧ Answered acc u ∧ (x.state = .enabled → reset 2 u) ∧ (x.state ≠ .enabled → u.tenants = s.tenants ∧ u.sheets = s.sheets)) ∧
      (∀ (acc : Accessor) (d : List Byte), Accepted s acc i 3 d → Completes (.tenantResetWrite acc t d) s fun u => reset 2 u ∧ Answered acc u) ∧
      (answering s = true →
        (∀ fn : Fin 65, fn.val = t.val + 1 → vfUp s t.val = true → Completes (.functionLevelReset fn) s (reset 1)) ∧
        (∀ fn : Fin 65, fn.val = 0 → endpointUp s = true → Completes (.functionLevelReset fn) s allReset) ∧
        (endpointUp s = true → Completes .pePerst s fun u => allReset u ∧ u.pins.perstLow = true ∧ u.pins.linkSpeed = 0) ∧
        (∀ n : Nat, endpointUp s = true → n ≤ totalVfs s → Completes (.numvfsWrite n) s fun u =>
          get u 0x5060 6 = n ∧ (∀ j, n ≤ j → j < get s 0x5060 6 → (tenant u j).state ≠ .enabled) ∧ u.md = s.md ∧ (get s 0x5060 6 ≤ n → u = put s 0x5060 6 n)) ∧
        (dramRuns s = true → x.state = .scrubbing → Completes (.scrubComplete t) s fun u =>
          (tenant u t.val).state = .disabled ∧ (tenant u t.val).units = [] ∧ u.mem.unitsFree = s.mem.unitsFree ++ x.units ∧ u.sheets = s.sheets ∧
          (∀ k ∈ u.mem.scrub, k ∉ x.units)) ∧
        (∀ on : Bool, vfUp s t.val = true → Completes (.busMasterEnable t on) s fun u =>
          (tenant u t.val).busMaster = on ∧ (∀ j, j ≠ t.val → tenant u j = tenant s j) ∧ u.sheets = s.sheets ∧ u.md = s.md ∧
          (on = false ∨ x.heldDone = [] → u = setTenant s t.val fun y => { y with busMaster := on })) ∧
        (t.val ∈ s.coalescing → Completes (.coalescingTimeout t) s fun u =>
          tenant u t.val = { x with unsignalled := 0 } ∧ u.coalescing = s.coalescing.erase t.val ∧ u = { s with tenants := u.tenants, coalescing := u.coalescing, out := u.out } ∧
          (vfUp s t.val = true → u.out = .vector (t.val + 1) 0 :: s.out))) ∧
      (answering s = false ∨ endpointUp s = false → Completes .pePerst s fun u =>
        u = { s with pins := { s.pins with perstLow := true, linkSpeed := 0, linkWidth := 0 } }) ∧
      (s.md.mode = .kickoff → coreLink s = true → get s 0x2020 1 < 12 →
        (∀ fn : Fin 65, Completes (.functionLevelReset fn) s fun u => u = emit s (.configRetry fn.val)) ∧
        (∀ n : Nat, Completes (.numvfsWrite n) s fun u => u = emit s (.configRetry 0)) ∧
        (∀ on : Bool, Completes (.busMasterEnable t on) s fun u => u = emit s (.configRetry (t.val + 1)))) ∧
      (∀ speed width : Nat, s.pins.perstLow = true → Completes (.pePerstRelease speed width) s fun u =>
        u = { s with pins := { s.pins with perstLow := false, linkSpeed := speed, linkWidth := width } })

/-! ## Memory, admission, raster -/

/-- The DRAM's own commands (R290, R292 to R295, R297, R300 to R302): MR4_READ sets the refresh multiplier, its code 6 is a WARN and its code 7
SAFESTOP with cause 0x09; DRAM_UNCORRECTABLE_READ corrects what the check bits can and counts it, counts what they cannot and, when the repeat fails
too, records it and serves it by its reader's row; PATROL_OVERDUE is a WARN, once for each pass; DIKE_PERIOD counts the short clients, lets patrol read
on, shares out ingest's beats, and gives every client its reservation and the pool the rest.
It rests on the model's choices of log 8, 69, 72, 146, 147, 148. -/
def Obligations.MemoryServed : Prop :=
  ∀ s : State,
    (dramRuns s = false → (∀ a b, Completes (.mr4Read a b) s fun u => u = s) ∧
        (∀ r a e, Completes (.dramUncorrectableRead r a e) s fun u => u = s) ∧ (Completes .patrolOverdue s fun u => u = s) ∧
        (∀ demand asks reads, Completes (.dikePeriod ⟨demand, asks, reads⟩) s fun u => u = s)) ∧
      (dramRuns s = true →
        (∀ a b : Fin 8,
          let v := a.val + 8 * b.val
          let code := max a.val b.val
          let old := mr4Code (get s 0x2300 4)
          (code ≠ 7 ∨ old = 7 → Completes (.mr4Read a b) s fun u =>
              get u 0x2300 4 = v ∧ get u 0x2300 3 = (if code ≤ 3 then 1 else if code = 4 then 2 else 4) ∧ u.mem.mr4Due = false ∧ u.md = s.md ∧
              u.sheets = s.sheets ∧ KeepsObjects [keyOf 0x2300 4, keyOf 0x2300 3] s u ∧
              (code = 6 → old ≠ 6 → s.log.ready = true → ∃ e, u.log.ring.head? = some e ∧ e.tells 1 1 6 0x2300 4 v)) ∧
            (code = 7 → old ≠ 7 → s.md.mode ∈ operating → Completes (.mr4Read a b) s fun u => u.md.mode = .safestop ∧ get u 0x2000 5 = 9)) ∧
          (∀ (r : DramReader) (e : BeatRead),
            let right := fun (u : State) (c : Ecc) => get u 0x2310 1 = (if c = .corrected then min (get s 0x2310 1 + 1) (2 ^ 32 - 1) else get s 0x2310 1) ∧
              (c = .corrected → r = .patrol → u.out.head? = some (.dramWrite e.addr))
            (beatEcc e.first = .clean → Completes (.dramUncorrectableRead r e.addr (e.first, e.again)) s fun u => u = s) ∧
            (beatEcc e.first = .corrected → Completes (.dramUncorrectableRead r e.addr (e.first, e.again)) s fun u => right u .corrected ∧ SameButObjects [keyOf 0x2310 1] s u) ∧
            (beatEcc e.first = .bad → beatEcc e.again ≠ .bad → Completes (.dramUncorrectableRead r e.addr (e.first, e.again)) s fun u =>
              right u (beatEcc e.again) ∧ get u 0x2310 2 = min (get s 0x2310 2 + 1) 65535 ∧ serving u .dramRead (readerInst r) = false ∧
              SameButObjects [keyOf 0x2310 1, keyOf 0x2310 2] s u) ∧
            (beatEcc e.first = .bad → beatEcc e.again = .bad → r ≠ .firmware → Completes (.dramUncorrectableRead r e.addr (e.first, e.again)) s fun u =>
              get u 0x2310 4 = e.addr ∧ get u 0x2310 3 = min (get s 0x2310 3 + 1) 65535 ∧ serving u .dramRead (readerInst r) = false ∧
              u.md = s.md ∧ ∀ t : Fin 64, r = .ingest t → get u (0x5000 + t.val) 0x1B = 4) ∧
            (beatEcc e.first = .bad → beatEcc e.again = .bad → r = .firmware → s.md.mode ∈ operating → Completes (.dramUncorrectableRead r e.addr (e.first, e.again)) s fun u =>
              u.md.mode = .safestop ∧ get u 0x2000 5 = 7)) ∧
          (s.mem.patrolLate = true ∨ s.time - s.mem.patrolFrom < 2 * patrolPeriod s → Completes .patrolOverdue s fun u => u = s) ∧
          (s.mem.patrolLate = false → 2 * patrolPeriod s ≤ s.time - s.mem.patrolFrom → Completes .patrolOverdue s fun u =>
            SameButLog { s with mem := { s.mem with patrolLate := true } } u ∧
            (s.log.ready = true → ∃ e, u.log.ring.head? = some e ∧ e.tells 1 1 6 0x2310 7 (get s 0x2310 7 % 2 ^ 32))) ∧
          (∀ (demand asks : List Nat) (reads : List BeatRead), Completes (.dikePeriod ⟨demand, asks, reads⟩) s fun u =>
            let pool := (sharePool s demand poolOrder).1
            let upTo := s.mem.patrolAt + min (patrolDue s - s.mem.patrolAt) (patrolShare s pool)
            (∀ c, c < 11 → tabGet 0 u.mem.credit c = reservation u c) ∧
            tabGet 0 u.mem.credit 11 = capacity u (refresh u) - ((List.range 11).map (reservation u)).foldl Nat.add 0 ∧
            (∀ c, c < 11 → get u 0x2320 (0x11 + c) = (if s.mem.credit ≠ [] ∧ c ∈ shortClients s demand then min (get s 0x2320 (0x11 + c) + 1) (2 ^ 32 - 1)
              else get s 0x2320 (0x11 + c))) ∧
            (s.mem.credit ≠ [] → u.mem.given = ingestGiven s demand asks ∧
              (upTo < dramBeats s → u.mem.patrolAt = upTo ∧ get u 0x2310 6 = get s 0x2310 6) ∧
              (dramBeats s ≤ upTo → u.mem.patrolAt = 0 ∧ u.mem.patrolFrom = s.time ∧ get u 0x2310 6 = (get s 0x2310 6 + 1) % 2 ^ 32)) ∧
            KeepsObjects (((List.range 11).map fun c => keyOf 0x2320 (0x11 + c)) ++ [1, 2, 3, 4, 6].map (keyOf 0x2310)) s u ∧
            u = { s with dict := u.dict, mem := u.mem, log := u.log, net := u.net, out := u.out }))

/-- ADMISSION_PASS (R18, R277, R303 to R310): nothing while it is deferred or not due; a pass whose peak exceeds the budget fails with reason 1, one
that leaves too little for the guarantees with reason 2, and both leave the sheets alone; any other admits the sheet, with its serial, at the
IMAGE times, windows and charges of its plan.
It rests on the model's choices of log 8, 30, 43, 70, 71, 151. -/
def Obligations.AdmissionWorks : Prop :=
  ∀ s : State,
    let b := refreshCandidates s
    (admissionOpen s = false ∨ admissionDue s = false → Completes .admissionPass s fun u => u = s) ∧
      (admissionOpen s = true → admissionDue s = true →
        (chosen b = none → Completes .admissionPass s fun u => u = b) ∧
        (∀ (n : Nat) (sh : Sheet), chosen b = some n → nextSheet b n = some sh →
          let t := bump b 0x2300 0x13
          let p := planOf t sh (firstI0 t)
          let left := budget t - peakBeats t p
          let i := widenedI0 t p left (guarantees t)
          let wide := (previousSheet t).isSome && (decide (left < guarantees t) || t.mem.doubled)
          let q := planOf (if wide then bump t 0x2300 0x15 else t) sh i
          let failed := fun (reason : Nat) (u : State) => get u 0x2300 0x13 = (get s 0x2300 0x13 + 1) % 2 ^ 32 ∧
            get u 0x2300 0x14 = (get s 0x2300 0x14 + 1) % 2 ^ 32 ∧ get u 0x2300 0x16 = reason ∧ u.sheets = s.sheets ∧ u.slots = s.slots ∧ u.md = s.md ∧
            KeepsObjects [keyOf 0x2300 0x13, keyOf 0x2300 0x14, keyOf 0x2300 0x16] s u
          (profileReady b sh = false → Completes .admissionPass s fun u => u = b) ∧
            (profileReady b sh = true → budget t < peakBeats t p → Completes .admissionPass s (failed 1)) ∧
            (profileReady b sh = true → peakBeats t p ≤ budget t → 100 * left < get t 0x2300 0x10 * guarantees t →
              Completes .admissionPass s (failed 2)) ∧
            (profileReady b sh = true → peakBeats t p ≤ budget t → get t 0x2300 0x10 * guarantees t ≤ 100 * left →
              Completes .admissionPass s fun u =>
                (∃ a ∈ u.sheets, a.uid = sh.uid ∧ a.state = .admitted ∧ a.serial = (if sh.serial = 0 then get s 0x5040 3 else sh.serial) ∧ a.i0 = i ∧
                  a.imageAt = q.imageAt ∧ a.endAt = q.endAt ∧ a.winAt = q.winAt ∧ a.charge = q.charge) ∧
                get u 0x5040 3 = (if sh.serial = 0 then nextSerial (get s 0x5040 3) else get s 0x5040 3) ∧
                get u 0x2300 0x13 = (get s 0x2300 0x13 + 1) % 2 ^ 32 ∧ (∀ y ∈ s.sheets, y.uid ≠ sh.uid → y ∈ u.sheets) ∧ u.md = s.md)))

/-- The decoders (R294, R317, R319 to R321, R329 to R332): DECODER_PLANE_START takes a plane when its reservation window opens; BAND_DECODE puts the
lines of a band behind those that wait, and advances the plane; a failing band is counted with its code and ends the plane; a word or a beat that is
lost for good ends the plane as a DRAM fault, after the lines before it; POINTER_MISMATCH, where the copies of a pointer disagree, empties the FIFO, and
a second one within a second is SAFESTOP.
It rests on the model's choices of log 8, 30, 58, 146. -/
def Obligations.DecodersWork : Prop :=
  ∀ (st : Fin 6) (s : State),
    let n := st.val
    let x := station s n
    let others := fun (u : State) => ∀ k, k ≠ n → station u k = station s k
    (∀ sh : Sheet, rasterMode s = true → x.decUid = none → nextPlane s n = some sh → tabGet 0 sh.winAt n ≤ s.time →
        Completes (.decoderPlaneStart st) s fun u =>
          station u n = { x with decUid := some sh.uid, decPos := 0, decBand := 0, decLine := 0 } ∧ get u (decIdx n) 1 = 1 ∧ get u (decIdx n) 5 = sh.serial ∧
          get u (decIdx n) 6 = 0 ∧ others u ∧ KeepsObjects [keyOf (decIdx n) 1, keyOf (decIdx n) 5, keyOf (decIdx n) 6] s u ∧
          u = { s with stations := u.stations, dict := u.dict }) ∧
      (rasterMode s = false ∨ x.decUid ≠ none ∨ nextPlane s n = none ∨ (∃ sh, nextPlane s n = some sh ∧ s.time < tabGet 0 sh.winAt n) →
        Completes (.decoderPlaneStart st) s fun u => u = s) ∧
      (∀ (unit : Nat) (reads : List BeatRead) (words : List InputWord),
        (rasterMode s = false ∨ x.backlog ≠ [] ∨ x.decUid = none → Completes (.bandDecode st unit reads words) s fun u => u = s) ∧
        (∀ (uid : Nat) (sh : Sheet), rasterMode s = true → x.backlog = [] → x.decUid = some uid → sheetOf s uid = some sh →
          let ends := fun (band : Band) (u : State) =>
            (station u n).fifo ++ (station u n).backlog =
              x.fifo ++ band.lines.mapIdx (fun i l => ({ uid := uid, line := x.decLine + i, bytes := l } : RasterLine)) ∧
            get u (decIdx n) 4 = (get s (decIdx n) 4 + band.lines.length) % 2 ^ 64 ∧ others u ∧ u.md = s.md
          let stops := fun (u : State) => (station u n).decUid = none ∧
            ∃ y ∈ u.sheets, y.uid = uid ∧ y.decoded.testBit n = true ∧ (sh.committed = false → y.held.testBit n = true)
          let doubled := fun (addr : Nat) (u : State) => get u 0x2310 3 = min (get s 0x2310 3 + 1) 65535 ∧ get u 0x2310 4 = addr ∧ stops u
          let q := dramReads (.decoder st) reads s
          let r := inputWords st words q.1
          (unit ∉ (tenant s sh.tenant).units → (tenant s sh.tenant).state = .enabled → Completes (.bandDecode st unit reads words) s fun u =>
              (tenant u sh.tenant).state ≠ .enabled ∧ get u (0x5000 + sh.tenant) 0x1B = 5 ∧ u.md = s.md) ∧
            (unit ∈ (tenant s sh.tenant).units → q.2 = true → r.2 = none → Completes (.bandDecode st unit reads words) s fun u =>
              let band := nextBand s n sh none
              let line := x.decLine + band.lines.length
              ends band u ∧ (∀ i ∈ [1, 2, 3, 9], get u (resIdx n) i = get r.1 (resIdx n) i) ∧
              (band.code ≠ 0 → get u (decIdx n) 2 = band.code ∧ get u (decIdx n) 3 = min (get s (decIdx n) 3 + 1) 65535 ∧ stops u) ∧
              (band.code = 0 → line < sh.lines → (station u n).decUid = some uid ∧ (station u n).decPos = x.decPos + band.used ∧
                (station u n).decBand = x.decBand + 1 ∧ (station u n).decLine = line ∧ get u (decIdx n) 6 = x.decBand + 1) ∧
              (band.code = 0 → sh.lines ≤ line → (station u n).decUid = none ∧ ∃ y ∈ u.sheets, y.uid = uid ∧ y.decoded.testBit n = true)) ∧
            (∀ w : InputWord, unit ∈ (tenant s sh.tenant).units → q.2 = true → r.2 = some w → Completes (.bandDecode st unit reads words) s fun u =>
              ends (nextBand s n sh (some w.at_)) u ∧ doubled w.refetch.addr u) ∧
            (unit ∈ (tenant s sh.tenant).units → q.2 = false → Completes (.bandDecode st unit reads words) s fun u =>
              ∃ e ∈ reads, doubled e.addr u ∧ (station u n).fifo = x.fifo ∧ others u ∧ u.md = s.md))) ∧
      (∀ (write inv : Bool) (v : Nat),
        let agrees := (pointerReads x write inv v).pointersAgree
        (present s n = false ∨ agrees = true → Completes (.pointerMismatch ⟨st, write, inv, v⟩) s fun u => u = s) ∧
        (present s n = true → agrees = false → servedWithin s .pointers n (ticksS 1) = false → Completes (.pointerMismatch ⟨st, write, inv, v⟩) s fun u =>
          get u (resIdx n) 4 = min (get s (resIdx n) 4 + 1) 65535 ∧ (station u n).fifo = [] ∧ (station u n).backlog = [] ∧
          (station u n).pointersAgree = true ∧ others u ∧ u.md = s.md ∧
          (∀ sh, x.decUid = some sh.uid → sheetOf s sh.uid = some sh → sh.admitted = true → (station u n).decUid = none) ∧
          (∀ y ∈ u.sheets, y.admitted = true → y.decoded.testBit n = false) ∧
          (∀ sh ∈ s.sheets, sh.committed = true → sh.uid ∈ dataUids s n → ∃ y ∈ u.sheets, y.uid = sh.uid ∧ y.spoiled = true ∧ y.decoded.testBit n = true)) ∧
        (present s n = true → agrees = false → servedWithin s .pointers n (ticksS 1) = true → s.md.mode ∈ operating →
          Completes (.pointerMismatch ⟨st, write, inv, v⟩) s fun u => u.md.mode = .safestop ∧ get u 0x2000 5 = 7))

/-- Scans (R318, R335, R338 to R341, R351, R358, R378, R380, R390): SCAN_START begins a scan with its LINE START blocks once its lines are in the
FIFO; a blanked or spilled sheet's scan carries zero words; a word that cannot be read goes out as zeros and flags the lines; a scan whose lines are
missing is blanked, counted and spills the sheet; SCAN_UNDERRUN zeroes the rest; SCAN_END has sent the scan's words, and the last one has imaged the
sheet. It rests on the model's choices of log 8, 58, 146. -/
def Obligations.ScansRun : Prop :=
  ∀ (st : Fin 6) (s : State),
    let n := st.val
    let x := station s n
    (∀ (d held : Nat) (words : List FifoWord),
      (x.regsDue = true ∨ x.imaging = none ∨ x.scan ≠ none → Completes (.scanStart st d held words) s fun u => u = s) ∧
      (∀ (uid : Nat) (sh : Sheet), x.regsDue = false → x.imaging = some uid → x.scan = none → sheetOf s uid = some sh →
        sh.held.testBit n = false → sh.spillDue.testBit n = false →
        let started := fun (blank flag : Bool) (lost : List (Nat × Nat)) (u : State) => (∃ c, (station u n).scan = some c ∧ c.uid = uid ∧ c.index = x.nextScan ∧
          c.facet = get s (trkIdx n) 5 ∧ c.blank = blank ∧ c.zeroWord = lost ∧ c.flagged = flag) ∧
          get u (linkCnt n) 6 = (get s (linkCnt n) 6 + 1) % 2 ^ 32 ∧ u.md = s.md ∧ (∀ k, k ≠ n → station u k = station s k) ∧
          (∀ b, b < beams s n → Output.block n (lineStart s n b (get s (trkIdx n) 5)
            (lineStartAt s n b (get s (trkIdx n) 5) (tracker s n).tLast) x.scanSeq) ∈ u.out)
        let upTo := beams s n * (x.nextScan + 1) + maxOffset s n
        let early := follows 32 (get s (trkIdx n) 7) x.fromTooth
        (early = true → Completes (.scanStart st d held words) s fun u => u = s) ∧
          (early = false →
            (sh.hasPlane n = false → Completes (.scanStart st d held words) s (started true false [])) ∧
            (sh.hasPlane n = true → sh.spilled.testBit n = true → Completes (.scanStart st d held words) s (started true (lastCoast s n) [])) ∧
            (sh.hasPlane n = true → sh.spilled.testBit n = false →
              let lost := (readWords n words s).2
              (scanReady s n sh upTo = true ∨ cutThrough s n sh upTo d held = true → Completes (.scanStart st d held words) s fun u =>
                started false (decide (lost ≠ []) || lastCoast s n) lost u ∧ get u (resIdx n) 5 = get s (resIdx n) 5) ∧
              (scanReady s n sh upTo = false → cutThrough s n sh upTo d held = false → Completes (.scanStart st d held words) s fun u =>
                started true true [] u ∧ get u (resIdx n) 5 = min (get s (resIdx n) 5 + 1) 65535 ∧
                ∃ y ∈ u.sheets, y.uid = uid ∧ y.spoiled = true ∧ y.spilled.testBit n = true))))) ∧
      (∀ (pixel : Nat) (c : Scan), x.scan = some c → c.blank = false → Completes (.scanUnderrun st pixel) s fun u =>
        station u n = { x with scan := some { c with zeroFrom := some pixel, flagged := true } } ∧ get u (resIdx n) 6 = min (get s (resIdx n) 6 + 1) 65535 ∧
        get u (resIdx n) 7 = (if c.flagged = true then get s (resIdx n) 7 else min (get s (resIdx n) 7 + beams s n) (2 ^ 32 - 1)) ∧ u.md = s.md ∧
        ∀ y ∈ u.sheets, y.uid = c.uid → (c.flagged = false → y.lineFlagged = true) ∧ (y.committed = true → y.spoiled = true)) ∧
      (∀ pixel : Nat, x.scan = none ∨ (∃ c, x.scan = some c ∧ c.blank = true) → Completes (.scanUnderrun st pixel) s fun u => u = s) ∧
      (x.scan = none → Completes (.scanEnd st) s fun u => u = s) ∧
      (∀ (c : Scan) (sh : Sheet), x.scan = some c → sheetOf s c.uid = some sh → Completes (.scanEnd st) s fun u =>
        let last := decide (scansOf sh.lines (beams s n) ≤ c.index + 1)
        (station u n).scan = none ∧ (station u n).nextScan = c.index + 1 ∧ (station u n).scanSeq = (x.scanSeq + 1) % 65536 ∧
        (station u n).lastScan = (if c.flagged = true then none else some (c.uid, s.time)) ∧
        Output.pixels n x.scanSeq (pixelStream s n sh c) ∈ u.out ∧ u.md = s.md ∧
        (∀ b, b < beams s n → Output.block n (lineEnd b c.facet x.scanSeq (pixelsPerLine s n) (beamDark s n c b)) ∈ u.out) ∧
        (last = true → (station u n).imaging = none ∧ ∀ y ∈ u.sheets, y.uid = c.uid → y.imaged.testBit n = true) ∧
        (last = false → (station u n).imaging = x.imaging))

/-! ## Trackers, registration, beam links -/

/-- BD_EDGE and ENCODER_EDGE (R101, R348, R352, R371, R427 to R429, R544): a tracker without light or input, or on an input in conflict, takes none,
nor one of the direction that is not selected, and an encoder's edge within 61 µs of the last is noise; a tracker that is off begins to acquire
where it may; acquisition collects edges until two cycles stand; an edge of a predicted tooth is noise before the window, the candidate in it, and
one that comes second counts as double and stays if it lies nearer. It rests on the model's choices of log 8, 23, 24, 25, 27, 157. -/
def Obligations.EdgesTaken : Prop :=
  ∀ (st : Fin 6) (tt : Fin 12) (rising : Bool) (t : Nat) (s : State),
    ∀ q ∈ [(Instr.bdEdge st ⟨rising, t⟩, st.val), (.encoderEdge tt ⟨rising, t⟩, 6 + tt.val)],
    let c := q.1
    let k := q.2
    let x := tracker s k
    let others := fun (u : State) => ∀ j, j ≠ k → tracker u j = tracker s j
    let counted := fun (sub : Nat) (u : State) => get u (trkIdx k) sub = min (get s (trkIdx k) sub + 1) 65535
    (edgeSeen s c = false → Completes c s fun u => u = s) ∧
      (edgeSeen s c = true → 6 ≤ k → blanked s k t = true → Completes c s fun u => counted 8 u ∧ SameButObjects [keyOf (trkIdx k) 8] s u) ∧
      (edgeSeen s c = true → k < 6 ∨ blanked s k t = false →
        (x.state = 0 ∨ x.state = 3 → mayAcquire s k = false → Completes c s fun u => u = s) ∧
        (x.state = 0 ∨ x.state = 3 → mayAcquire s k = true → Completes c s fun u =>
          tracker u k = { x with state := 1, acq := .collecting [t], cand := none, coasts := 0 } ∧ others u ∧ u = { s with trackers := u.trackers }) ∧
        (∀ l : List Nat, x.state ≠ 0 → x.state ≠ 3 → x.acq = .collecting l →
          let run := if spacedOk s k l t then t :: l else [t]
          let n := toothCycle s k
          (run.length < max 2 (2 * n) → Completes c s fun u => tracker u k = { x with acq := .collecting run } ∧ others u ∧
              u = { s with trackers := u.trackers }) ∧
            (max 2 (2 * n) ≤ run.length → Completes c s fun u =>
              tracker u k = { x with acq := .following 0, tLast := t, next := 0, cand := none, coasts := 0 } ∧ others u ∧ u.md = s.md ∧
              (∀ i, i < n → get u (trkIdx k) (0x10 + (n - 1 - i)) = run.getD i 0 - run.getD (i + 1) 0))) ∧
        (x.state ≠ 0 → x.state ≠ 3 → (x.acq matches .collecting _) = false → t ≤ predicted s k + windowOf s k →
          (t + windowOf s k < predicted s k → Completes c s fun u => counted 8 u ∧ SameButObjects [keyOf (trkIdx k) 8] s u) ∧
          (predicted s k ≤ t + windowOf s k →
            (x.cand = none → Completes c s fun u => tracker u k = { x with cand := some t } ∧ others u ∧ u = { s with trackers := u.trackers }) ∧
            (∀ a, x.cand = some a → gap a (predicted s k) ≤ gap t (predicted s k) → Completes c s fun u =>
              counted 0x0A u ∧ SameButObjects [keyOf (trkIdx k) 0x0A] s u) ∧
            (∀ a, x.cand = some a → gap t (predicted s k) < gap a (predicted s k) → Completes c s fun u =>
              counted 0x0A u ∧ tracker u k = { x with cand := some t } ∧ others u ∧ u.md = s.md))))

/-- BD_WINDOW_CLOSE and ENCODER_WINDOW_CLOSE (R348, R350, R352 to R354, R429 to R431): the candidate or a synthesised COAST tooth is fixed, counted and
remembered; sixteen cycles of teeth end an acquisition in TRACKING and pass its second serve; K coasts start an acquisition again, or lose the
tracker, which is SAFESTOP when it was reacquired within the last 10 s. An encoder whose source is to stand still is held off instead.
It rests on the model's choices of log 8, 24, 25. -/
def Obligations.WindowsClose : Prop :=
  ∀ (st : Fin 6) (tt : Fin 12) (s : State), ∀ q ∈ [(Instr.bdWindowClose st, st.val), (.encoderWindowClose tt, 6 + tt.val)],
    let c := q.1
    let k := q.2
    let x := tracker s k
    let coast := x.cand.isNone
    let coasts := if coast then x.coasts + 1 else 0
    let lost := decide (get s (trkIdx k) 3 ≤ coasts)
    let time := x.cand.getD (x.tLast + periodOf s k x.next)
    let n := (get s (trkIdx k) 7 + 1) % 2 ^ 32
    let m : Mech := if k < 6 then .bdTracker else .encoderTracker
    let open_ := trackerLit s k && hasWindow s k
    let held := decide (6 ≤ k) && sourceStill s k && coast
    let fixed := fun (u : State) => get u (trkIdx k) 7 = n ∧ get u (trkIdx k) 5 = x.next ∧
      get u (trkIdx k) 9 = (if coast then min (get s (trkIdx k) 9 + 1) 65535 else get s (trkIdx k) 9) ∧ (tracker u k).tLast = time ∧ (tracker u k).cand = none ∧
      (tracker u k).teeth.head? = some { count := n, time := time, coast := coast } ∧ (∀ j, j ≠ k → tracker u j = tracker s j) ∧
      (6 ≤ k → x.next < 12 → toothCycle s k ≤ 12 → get u (trkIdx k) 0x36 = (get s (trkIdx k) 0x36 + get s (trkIdx k) 0x33) % 2 ^ 64) ∧ u.md = s.md
    (open_ = false → Completes c s fun u => u = s) ∧
      (open_ = true → held = true → Completes c s fun u =>
        tracker u k = { x with state := if x.state = 3 then 3 else 0, acq := .idle, cand := none, coasts := 0 } ∧ u = { s with trackers := u.trackers }) ∧
      (open_ = true → held = false →
        (∀ f : Nat, x.acq = .following f →
          (lost = true → Completes c s fun u => fixed u ∧ (tracker u k).state = 1 ∧ (tracker u k).acq = .collecting []) ∧
          (lost = false → f + 1 < 16 * toothCycle s k → Completes c s fun u => fixed u ∧ (tracker u k).state = x.state ∧
            (tracker u k).acq = .following (f + 1) ∧ (tracker u k).coasts = coasts) ∧
          (lost = false → 16 * toothCycle s k ≤ f + 1 → Completes c s fun u => fixed u ∧ (tracker u k).state = 2 ∧ (tracker u k).acq = .idle ∧
            serving u m k = false)) ∧
        (x.acq = .idle →
          (lost = false → Completes c s fun u => fixed u ∧ (tracker u k).state = x.state ∧ (tracker u k).coasts = coasts) ∧
          (lost = true → servedWithin s m k (ticksS 10) = false → Completes c s fun u => fixed u ∧ serving u m k = true ∧
            ((tracker u k).state = 3 ∨ (tracker u k).state = 1 ∧ (tracker u k).acq = .collecting []) ∧
            get u (trkIdx k) 0x0B = min (get s (trkIdx k) 0x0B + 1) 65535) ∧
          (lost = true → servedWithin s m k (ticksS 10) = true → s.md.mode ∈ operating → Completes c s fun u =>
            u.md.mode = .safestop ∧ get u 0x2000 5 = 7)))

/-- PATCH_MEASUREMENT (R365 to R370): in CALIBRATE and RUNOUT, and in RALLY with gap patches enabled, chevrons without exactly one edge in each window
are counted and the others become kept corrections; in RALLY these arm the station's registration group when they pass the dead band.
It rests on the model's choices of log 8, 80, 150. -/
def Obligations.PatchesMeasured : Prop :=
  ∀ (st : Fin 6) (marks : List Chevron) (s : State),
    let n := st.val
    let i := 0x3808 + n
    let seen := marks.filter fun c => sensorOn s c.sensor.val
    let good := seen.filterMap (readingOf s)
    let bad := seen.length - good.length
    let runs := present s n && (s.md.mode == .calibrate || s.md.mode == .runout || s.md.mode == .rally && flag s 0x3800 8)
    let mean := meanI ((readSensors s good).map fun k => sensorProcess good k)
    let kept := fun (u : State) => get u i 5 = min (get s i 5 + bad) 65535 ∧ get u i 4 = (if good = [] then get s i 4 else (get s i 4 + 1) % 2 ^ 32) ∧
      KeepsObjects [keyOf i 1, keyOf i 2, keyOf i 3, keyOf i 4, keyOf i 5] s u ∧ (∀ k, k ≠ n → station u k = station s k) ∧ u.md = s.md ∧ u.sheets = s.sheets ∧
      (good = [] → u.stations = s.stations) ∧
      (good ≠ [] → getS u 32 i 1 = sInt 32 (sImg 32 mean) ∧ (station u n).corrProcess = -(processLines s n mean) ∧
        (station u n).corrSkew = skewOf s n good) ∧
      ∀ c, good = [c] → tabFind (station u n).corrections (1 + 12 * c.beam + c.facet) = some (clamp (-2047) 2047
        (keptEntry s n (1 + 12 * c.beam + c.facet) - roundQ (scanPhases s n c.scan).1 ((scanPhases s n c.scan).2 * 2 ^ get s 0x3800 0x0A)))
    (runs = false → Completes (.patchMeasurement st marks) s fun u => u = s) ∧
      (runs = true → s.md.mode ≠ .rally ∨ rallyArms (keepPatch s n marks) n = false → Completes (.patchMeasurement st marks) s kept) ∧
      (runs = true → s.md.mode = .rally → rallyArms (keepPatch s n marks) n = true → 7 + n ∉ s.armed → (∀ p ∈ s.stagers, p.1 ≠ 7 + n) →
        Completes (.patchMeasurement st marks) s fun u => (station u n).lastArm = some s.time ∧ (station u n).corrections = [] ∧
          (anyOnPath s = true → 7 + n ∈ u.armed) ∧ u.md = s.md)

/-- Bring-up of a beam link (R390 to R393): LINK_RETRAIN starts it while the gate is open and none runs; by BRING_UP_STEP_COMPLETE the driver is
identified, configured, trained and UP; a step that fails, or is late by BRING_UP_STEP_TIMEOUT, repeats the bring-up once and then fails the link, which
is SAFESTOP when it served a hard fault. On a link that is UP the registers of a new geometry come back, and a mismatch is a hard fault.
It rests on the model's choices of log 3, 8, 17. -/
def Obligations.LinksComeUp : Prop :=
  ∀ (st : Fin 6) (s : State),
    let n := st.val
    let x := station s n
    let cfg := fun (sub : Nat) (u : State) => get u (linkCnt n) sub = min (get s (linkCnt n) sub + 1) 65535
    let others := fun (u : State) => ∀ k, k ≠ n → station u k = station s k
    let failed := fun (c : Instr) =>
      (x.linkRepeat = false → Completes c s fun u => cfg 4 u ∧ cfg 3 u ∧ linkState u n = 1 ∧ (station u n).linkStep = 2 ∧ (station u n).linkRepeat = true ∧
          serving u .linkBringUp n = true ∧ others u ∧ u.md = s.md) ∧
        (x.linkRepeat = true → x.linkServe = false → Completes c s fun u => cfg 4 u ∧ linkState u n = 4 ∧ get u (linkIdx n) 8 = x.linkStep ∧
          serving u .linkBringUp n = false ∧ others u ∧ u.md = s.md) ∧
        (x.linkRepeat = true → x.linkServe = true → s.md.mode ∈ operating → Completes c s fun u => u.md.mode = .safestop ∧ get u 0x2000 5 = 7)
    (∀ (acc : Accessor) (d : List Byte), Accepted s acc (linkIdx n) 2 d →
        (present s n = true → s.clk.gateOpen = true → linkState s n ≠ 1 → linkState s n ≠ 2 → Completes (.linkRetrain acc st d) s fun u =>
          linkState u n = 1 ∧ (station u n).linkStep = 2 ∧ (station u n).linkRepeat = false ∧ (station u n).hardFault = false ∧ cfg 3 u ∧ Answered acc u ∧
          others u ∧ u.md = s.md ∧ KeepsObjects [keyOf (linkIdx n) 1, keyOf (linkCnt n) 3, keyOf (linkCnt n) 5] s u) ∧
        (s.clk.gateOpen = false ∨ linkState s n = 1 ∨ linkState s n = 2 → Completes (.linkRetrain acc st d) s fun u =>
          Answered acc u ∧ u.dict = s.dict ∧ (∀ k, station u k = station s k) ∧ u.md = s.md)) ∧
      (bringingUp s n = false → (Completes (.bringUpStepTimeout st) s fun u => u = s) ∧
        (x.regsDue = false ∨ linkState s n ≠ 3 → ∀ regs, Completes (.bringUpStepComplete st regs) s fun u => u = s)) ∧
      (x.regsDue = true → linkState s n = 3 → ∀ regs : List Nat,
        (regs.take 4 = geoRegs s n → Completes (.bringUpStepComplete st regs) s fun u =>
          station u n = { x with regsDue := false } ∧ others u ∧ u = { s with stations := u.stations }) ∧
        (regs.take 4 ≠ geoRegs s n → servedWithin s .link n (ticksS 1) = false → Completes (.bringUpStepComplete st regs) s fun u =>
          cfg 2 u ∧ (station u n).hardFault = true ∧ get u (linkIdx n) 4 = regs.getD 4 0 % 65536 ∧ serving u .link n = true ∧ others u ∧ u.md = s.md) ∧
        (regs.take 4 ≠ geoRegs s n → servedWithin s .link n (ticksS 1) = true → s.md.mode ∈ operating → Completes (.bringUpStepComplete st regs) s fun u =>
          u.md.mode = .safestop ∧ get u 0x2000 5 = 7)) ∧
      (bringingUp s n = true → failed (.bringUpStepTimeout st) ∧ ∀ regs : List Nat,
        let id := regs.getD 0 0
        let good := id ≠ 0 ∧ id ≠ 0xFFFF ∧ regs.getD 1 0 = 0x5A3C ∧ (regs.drop 2).take 4 = geoRegs s n
        (x.linkStep = 2 → good → Completes (.bringUpStepComplete st regs) s fun u => linkState u n = 2 ∧ (station u n).linkStep = 3 ∧
            get u (linkIdx n) 3 = id ∧ others u ∧ u.md = s.md) ∧
          (x.linkStep = 2 → ¬good → failed (.bringUpStepComplete st regs)) ∧
          (x.linkStep = 3 → id % 4 = 3 → Completes (.bringUpStepComplete st regs) s fun u => station u n = { x with linkStep := 4 } ∧ others u ∧
            u = { s with stations := u.stations, out := Output.lspi n (lspiWrite 2 5) :: s.out }) ∧
          (x.linkStep = 4 → id.testBit 2 = true → Completes (.bringUpStepComplete st regs) s fun u => linkState u n = 3 ∧ (station u n).linkStep = 0 ∧
            (station u n).hardFault = false ∧ serving u .linkBringUp n = false ∧ serving u .link n = false ∧ (7, causeInst .link n) ∉ u.log.causes ∧
            others u ∧ u.md = s.md) ∧
          (x.linkStep = 3 ∧ id % 4 ≠ 3 ∨ x.linkStep = 4 ∧ id.testBit 2 = false ∨ x.linkStep ∉ [2, 3, 4] → Completes (.bringUpStepComplete st regs) s fun u => u = s))

/-- Faults of a beam link that is UP (R395, R400, R401): LD_FLT_SOFT_ERROR is counted, and more than 64 within a second are a hard fault;
LD_FLT_HARD_FAULT and SERDES_LOCK_LOSS darken the station, spill its sheets in print, record the Status and begin a second serve, and within a second of
the last one it is SAFESTOP.

Light for service and the interlock (R172, R405, R562, R563): a service write (SERVICE_APC_WINDOW, SERVICE_BD_WINDOWS_START, SERVICE_BD_WINDOWS_STOP,
SERVICE_WINDOW) of kind 1 turns BD windows on or off, any other sends its LIGHT blocks where the lasers may light, and waits while the station's clocks
stand; after ILOCK_CLOSE the interlock's cause ends only with ILOCK_CLOSED_HOLD_END.
It rests on the model's choices of log 8, 17, 65, 77. -/
def Obligations.LinksFail : Prop :=
  (∀ (st : Fin 6) (s : State),
    let n := st.val
    let times := s.time :: (station s n).softTimes.filter fun t => decide (s.time - t < ticksS 1)
    let dark := fun (u : State) => get u (linkCnt n) 2 = min (get s (linkCnt n) 2 + 1) 65535 ∧ (station u n).hardFault = true ∧ ldEn u n = false ∧
      serving u .link n = true ∧ u.md = s.md ∧ (∀ k, k ≠ n → station u k = station s k) ∧
      ∀ sh ∈ s.sheets, sh.committed = true → sh.fired.testBit n = true → sh.imaged.testBit n = false → ∃ y ∈ u.sheets, y.uid = sh.uid ∧ y.spoiled = true
    let stopped := fun (u : State) => u.md.mode = .safestop ∧ get u 0x2000 5 = 7
    (linkState s n ≠ 3 → (Completes (.ldFltSoftError st) s fun u => u = s) ∧
        ∀ v, (Completes (.ldFltHardFault st v) s fun u => u = s) ∧ Completes (.serdesLockLoss st v) s fun u => u = s) ∧
      (linkState s n = 3 →
        (times.length ≤ 64 → Completes (.ldFltSoftError st) s fun u => get u (linkCnt n) 1 = min (get s (linkCnt n) 1 + 1) (2 ^ 32 - 1) ∧
          (station u n).softTimes = times ∧ linkState u n = 3 ∧ u.md = s.md) ∧
        (64 < times.length → servedWithin s .link n (ticksS 1) = false → Completes (.ldFltSoftError st) s dark) ∧
        (64 < times.length → servedWithin s .link n (ticksS 1) = true → s.md.mode ∈ operating → Completes (.ldFltSoftError st) s stopped) ∧
        (∀ v : Nat, ∀ c ∈ [Instr.ldFltHardFault st v, .serdesLockLoss st v],
          (servedWithin s .link n (ticksS 1) = false → Completes c s fun u => dark u ∧ get u (linkIdx n) 4 = v % 65536) ∧
          (servedWithin s .link n (ticksS 1) = true → s.md.mode ∈ operating → Completes c s stopped)))) ∧
  (∀ s : State,
    (∀ (acc : Accessor) (st : Fin 6) (d : List Byte), Accepted s acc (linkIdx st.val) 9 d →
      ∀ c ∈ [Instr.serviceApcWindow acc st d, .serviceBdWindowsStart acc st d, .serviceBdWindowsStop acc st d, .serviceWindow acc st d],
        let n := st.val
        let v := ofLe d
        (field v 4 2 = 1 → Completes c s fun u => station u n = { station s n with svcBd := v / 65536 != 0 } ∧ Answered acc u ∧
            (∀ k, k ≠ n → station u k = station s k) ∧ u.md = s.md) ∧
          (field v 4 2 ≠ 1 → s.clk.gateOpen = true → s.clk.relock = none →
            (serviceLit s n = true → (station s n).scan = none → Completes c s fun u => Answered acc u ∧ u.dict = s.dict ∧ u.md = s.md ∧
              (station u n).svcUntil = max (station s n).svcUntil (s.time + 750 + 1500 * (v / 65536)) ∧ (∀ k, k ≠ n → station u k = station s k) ∧
              ∀ l ∈ lightBlocks s n (v % 16) (field v 4 2) 64 (16 * s.time + 12000) (phaseCycles s (24000 * (v / 65536))), Output.block n l ∈ u.out) ∧
            (serviceLit s n = false → Completes c s fun u => Answered acc u ∧ u.dict = s.dict ∧ u.stations = s.stations ∧ u.md = s.md)) ∧
          (field v 4 2 ≠ 1 → s.clk.gateOpen = false ∨ s.clk.relock ≠ none → Completes c s fun u =>
            station u n = { station s n with svcHeld := (station s n).svcHeld ++ [v] } ∧ (∀ k, k ≠ n → station u k = station s k) ∧ Answered acc u ∧
            u.dict = s.dict ∧ u.md = s.md)) ∧
      (Completes .ilockClose s fun u => u = { s with pins := { s.pins with ilockOpen := false } }) ∧
      (s.pins.ilockOpen = true → Completes .ilockClosedHoldEnd s fun u => u = s) ∧
      (s.pins.ilockOpen = false → Completes .ilockClosedHoldEnd s fun u => (8, 0) ∉ u.log.causes ∧ SameButLog s u))

/-! ## The scheduler -/

/-- IMAGE (R22, R25, R33, R358, R420, R424, R434): one that is due on a tooth of a TRACKING station fires, begins the station's image and, as the
first of its sheet, commits it; one whose time had passed withdraws the sheet when it is the first, and spills its station when it is a later one.
Events posted and cancelled (R406, R407, R418, R420, R433): POST_EVENT takes the first free slot of the posted range and waits for its time; a mark
whose time is past is logged at once; CANCEL_BY_TAG removes the posted events of the tag that it still reaches. It rests on the model's choices of
log 8, 33, 56. -/
def Obligations.EventsAct : Prop :=
  (∀ (slot : Fin 640) (s : State),
    (imageEvent s slot.val = none → ∀ late, Completes (.image slot late) s fun u => u = s) ∧
      (∀ (e : Event) (sh : Sheet), imageEvent s slot.val = some (e, sh) →
        let n := e.target
        let image := fun (u : State) => (station u n).imaging = some sh.uid ∧ (station u n).nextScan = 0 ∧ (∀ k, k ≠ n → station u k = station s k) ∧ u.md = s.md
        (eventDue s e = none → Completes (.image slot false) s fun u => u = s) ∧
          (∀ d, eventDue s e = some d → firingTime s < d.time ∨ modeFires s e = false ∨ tracking s n = false ∨ outranked s slot.val e = true →
            Completes (.image slot false) s fun u => u = s) ∧
          (∀ d, eventDue s e = some d → d.time ≤ firingTime s → modeFires s e = true → tracking s n = true → outranked s slot.val e = false →
            (s.slots.filter fun p => p.2.uid == some sh.uid && p.2.ref != 255 && p.2.code != 1 && !p.2.fired) = [] →
            Completes (.image slot false) s fun u => image u ∧ (station u n).scan = none ∧
              (∃ f, tabFind u.slots slot.val = some f ∧ f.status = (if d.coast = true then 10 else 8) ∧ f.target = n ∧ f.uid = e.uid) ∧
              get u 0x2521 1 = (get s 0x2521 1 + 1) % 2 ^ 32 ∧
              ∃ y ∈ u.sheets, y.uid = sh.uid ∧ y.fired.testBit n = true ∧ (d.coast = true → y.mistimed = true) ∧
                (sh.committed = true → sh.fired ≠ 0 → y.state = .committed ∧ y.sluice = sh.sluice) ∧
                (sh.committed = false ∨ sh.fired = 0 → y.state = .committed ∧ y.sluice = s.time ∧ u.mem.lastI0 = some sh.i0)) ∧
          (s.time + 16 < e.time → Completes (.image slot true) s fun u => u = s) ∧
          (e.time ≤ s.time + 16 → sh.committed = false → Completes (.image slot true) s fun u =>
            get u 0x2521 0x0A = min (get s 0x2521 0x0A + 1) 65535 ∧ u.md = s.md ∧ ∃ y ∈ u.sheets, y.uid = sh.uid ∧ y.state = .resident) ∧
          (e.time ≤ s.time + 16 → sh.committed = true → Completes (.image slot true) s fun u => image u ∧
            (∃ f, tabFind u.slots slot.val = some f ∧ f.status = 9) ∧ ∃ y ∈ u.sheets, y.uid = sh.uid ∧ y.spoiled = true ∧ y.spilled.testBit n = true))) ∧
  (∀ (acc : Accessor) (d : List Byte) (s : State),
    (∀ k : Nat, Accepted s acc 0x2523 1 d → freeSlot s 640 1024 = some k → (eventOf d).ref = 255 →
        (s.time + 16 < (eventOf d).time → Completes (.postEvent acc d) s fun u =>
          u.slots = tabSet s.slots k (eventOf d) ∧ get u 0x2523 3 = k ∧ Answered acc u ∧ u.md = s.md ∧ u.sheets = s.sheets) ∧
        ((eventOf d).time ≤ s.time + 16 → (eventOf d).code = 0x41 → modeFires s (eventOf d) = true → Completes (.postEvent acc d) s fun u =>
          tabFind u.slots k = none ∧ get u 0x2523 3 = k ∧ Answered acc u ∧ u.md = s.md ∧ u.sheets = s.sheets ∧
          (s.log.ready = true → ∃ y, u.log.ring.head? = some y ∧ y.tells 0 6 0x0A 0x2521 5 ((eventOf d).param % 2 ^ 32)))) ∧
      (Accepted s acc 0x2523 2 d → Completes (.cancelByTag acc d) s fun u =>
        u.slots = s.slots.filter (fun q => !(q.2.uid.isNone && q.2.tag == ofLe d && cancellable s q.2)) ∧ Answered acc u ∧ u.md = s.md ∧ u.sheets = s.sheets))

/-- The other events of the slots (R408 to R414, R417, R422, R424), that is AXIS_MOVE, AXIS_RAMPED_STOP, MOTOR_SPEED, PIN_SET, ARRIVAL_CHECK,
LOOP_SET_POINT_BANK, LOOP_ON, LOOP_OFF, SHEET_EXIT, LOG_MARK and CAPTURE_TRIGGER: an event whose turn has not come does nothing; one whose route
does not match its sheet's is dropped; any other is counted in its class, leaves its slot or shows as fired, flagged where its tooth was a COAST
tooth, and its action acts. An arrival that is missed spoils the sheet and cancels its mechanics and high voltage; an exit ends the sheet; a mark is
logged. It rests on the model's choices of log 3, 8, 12, 57, 59, 60, 143. -/
def Obligations.SlotsFire : Prop :=
  ∀ (slot : Fin 1024) (levels : List (Nat × Bool)) (s : State),
    ∀ q ∈ [(Instr.axisMove slot, 0x10), (.axisRampedStop slot, 0x11), (.motorSpeed slot, 0x12), (.pinSet slot, 0x13), (.arrivalCheck slot levels, 0x14),
           (.loopSetPointBank slot, 0x20), (.loopOn slot, 0x21), (.loopOff slot, 0x22), (.sheetExit slot, 0x40), (.logMark slot, 0x41),
           (.captureTrigger slot, 0x42)],
    let c := q.1
    let k := slot.val
    let code := q.2
    let seen := decide (code = 0x14) && arrivalSeen s k levels
    (readyEvent s k code = none → Completes c s fun u => u = s) ∧
      (∀ e : Event, readyEvent s k code = some e →
        let r := match e.uid with
          | some v => if e.route = 0 then s else decideRoute s v
          | none => s
        let b := markFired r k e false
        let due := (eventDue r e).getD { time := 0 }
        (routeFits r e = false → Completes c s fun u => tabFind u.slots k = none ∧ u.sheets = r.sheets ∧ u.md = s.md ∧
            get u 0x2521 (eventClass code) = get s 0x2521 (eventClass code)) ∧
          (routeFits r e = true →
            (get b 0x2521 (eventClass code) = (get s 0x2521 (eventClass code) + 1) % 2 ^ 32 ∧ b.sheets = r.sheets ∧ b.md = s.md ∧
              get b 0x2521 8 = (if due.coast = true then min (get s 0x2521 8 + 1) 65535 else get s 0x2521 8) ∧
              (e.uid ≠ none ∨ due.candidate = true → ∃ f, tabFind b.slots k = some f ∧ f.status = (if due.coast = true then 10 else 8)) ∧
              (e.uid = none → due.candidate = false → tabFind b.slots k = none)) ∧
            (Completes c s fun u => u = act b e seen) ∧
            (code = 0x14 → seen = true ∨ e.uid = none → Completes c s fun u => u = b) ∧
            (∀ v, code = 0x14 → seen = false → e.uid = some v → Completes c s fun u => (∀ y ∈ u.sheets, y.uid = v → y.spoiled = true ∧ y.noMedium = true) ∧
              (∀ q ∈ u.slots, q.2.uid = some v → q.2.fired = true ∨ eventClass q.2.code ≠ 2 ∧ eventClass q.2.code ≠ 3) ∧ u.md = s.md) ∧
            (∀ (v : Nat) (sh : Sheet), code = 0x40 → e.uid = some v → sheetOf s v = some sh → sh.committed = true → sh.spoiled = false → Completes c s fun u =>
              (∀ y ∈ u.sheets, y.uid ≠ v) ∧ (∀ y ∈ s.sheets, y.uid ≠ v → y ∈ u.sheets) ∧ u.md = s.md ∧
              get u 0x5040 (4 + sh.outcome) = (get s 0x5040 (4 + sh.outcome) + 1) % 2 ^ 32) ∧
            (code = 0x41 → Completes c s fun u => SameButLog b u ∧
              (s.log.ready = true → ∃ y, u.log.ring.head? = some y ∧ y.tells 0 6 0x0A 0x2521 5 (e.param % 2 ^ 32))) ∧
            (code ∈ [0x20, 0x21, 0x22] → hvActs s = false → Completes c s fun u => u = b)))

/-! ## Motors -/

/-- Speed commands and the course of a motor (R456 to R460, R465, R467): SPEED_COMMAND ramps from the present speed to the entry's, or waits where a
committed path holds the motor; a standing motor begins to turn; ALIGN_END, RAMP_END, MOTOR_RESTART and BRAKE_END lead on as the table of states says.
It rests on the model's choices of log 3, 8, 10, 16. -/
def Obligations.MotorsRun : Prop :=
  ∀ (m : Fin 12) (s : State),
    let n := m.val
    let x := motor s n
    let v := getS s 32 (motIdx n) 0x31
    let others := fun (u : State) => (∀ k, k ≠ n → motor u k = motor s k) ∧ u.md = s.md
    (∀ (acc : Accessor) (d : List Byte), Accepted s acc (0x4800 + n) 0x18 d →
        let k := ofLe d
        (changesSpeed s n k = true → pathHeld s (16 + n) = true → Completes (.speedCommand acc m d) s fun u =>
            motor u n = { x with deferred := some k } ∧ u.dict = s.dict ∧ others u ∧ Answered acc u) ∧
          (changesSpeed s n k = false ∨ pathHeld s (16 + n) = false → Completes (.speedCommand acc m d) s fun u =>
            (motor u n).target = entrySpeed s n k ∧ (motor u n).entry = k ∧ (motor u n).deferred = none ∧ (motor u n).rampFrom = commandedNow s n ∧
            (motor u n).rampAt = s.time ∧ (motor u n).rampFor = entryRamp s n k ∧ others u ∧ Answered acc u ∧
            KeepsObjects [keyOf (motIdx n) 0x30] s u ∧
            (waveform s n ≠ 0 → entrySpeed s n k ≠ 0 → motorState s n = 0 ∨ motorState s n = 6 →
              motorState u n = (if n < 6 then 1 else 3) ∧ (motor u n).gatesLow = false) ∧
            (motorState s n = 4 ∨ motorState s n = 5 → changesSpeed s n k = true → motorState u n = 3) ∧
            (waveform s n = 0 → motorState s n ≠ 4 → motorState s n ≠ 5 → motorState u n = motorState s n) ∧
            (motorState s n ∈ [1, 2, 3, 7] → motorState u n = motorState s n))) ∧
      (∀ p : Fin 6, p.val = n →
        (bridgeOn s n = true → motorState s n = 1 → Completes (.alignEnd p) s fun u => motorState u n = 2 ∧ (motor u n).openFrom = s.time ∧
          (motor u n).crossings = 0 ∧ (motor u n).nextStep = (openStepAt s n 1).map (· + s.time) ∧ others u ∧ KeepsObjects [keyOf (motIdx n) 0x30] s u) ∧
        (bridgeOn s n = false ∨ motorState s n ≠ 1 → Completes (.alignEnd p) s fun u => u = s) ∧
        (bridgeOn s n = true → motorState s n = 2 → get s (motIdx n) 0x12 ≤ x.crossings → Completes (.rampEnd p) s fun u => motorState u n = 3 ∧
          (motor u n).rampFrom = v ∧ (motor u n).rampAt = s.time ∧ (motor u n).rampFor = accelTicks s n (x.target - v) ∧ (motor u n).target = x.target ∧
          others u ∧ KeepsObjects [keyOf (motIdx n) 0x30] s u) ∧
        (bridgeOn s n = true → motorState s n = 2 → x.crossings < get s (motIdx n) 0x12 → x.alignRetry = false → Completes (.rampEnd p) s fun u =>
          motorState u n = 1 ∧ (motor u n).alignRetry = true ∧ others u ∧ KeepsObjects [keyOf (motIdx n) 0x30] s u) ∧
        (bridgeOn s n = false ∨ motorState s n ≠ 2 → Completes (.rampEnd p) s fun u => u = s)) ∧
      (x.restart = true → motorState s n = 7 → s.md.mode ≠ .safestop → Completes (.motorRestart m) s fun u =>
        get u (motIdx n) 0x38 = min (get s (motIdx n) 0x38 + 1) 65535 ∧ (motor u n).restart = false ∧ others u ∧
        (x.target = 0 ∨ waveform s n = 0 → motorState u n = 0 ∧ serving u .motor n = false) ∧
        (x.target ≠ 0 → waveform s n ≠ 0 → motorState u n = (if 6 ≤ n ∨ 15000 < v.natAbs then 3 else 1) ∧ (motor u n).gatesLow = false)) ∧
      (x.restart = false ∨ motorState s n ≠ 7 ∨ s.md.mode = .safestop → Completes (.motorRestart m) s fun u => u = s) ∧
      (motorState s n = 6 → x.lowSides = true → Completes (.brakeEnd m) s fun u => motorState u n = 0 ∧ (motor u n).gatesLow = true ∧
        getS u 32 (motIdx n) 0x31 = 0 ∧ (motor u n).target = 0 ∧ others u ∧ KeepsObjects [keyOf (motIdx n) 0x30, keyOf (motIdx n) 0x31] s u) ∧
      (motorState s n ≠ 6 ∨ x.lowSides = false → Completes (.brakeEnd m) s fun u => u = s)

/-- Commutation (R444 to R446): ZERO_CROSSING schedules the next commutation half a step period later, and in the open-loop ramp is counted;
COMMUTATION, as scheduled or where the angle by BD reaches the next sector, advances the step and, where no tracker measures it, the speed;
HALL_EDGE moves the drive into the next or the previous sector. It rests on the model's choices of log 8, 15, 106, 107. -/
def Obligations.MotorsCommutate : Prop :=
  ∀ (m : Fin 12) (s : State),
    let n := m.val
    let x := motor s n
    let others := fun (u : State) => (∀ k, k ≠ n → motor u k = motor s k) ∧ u.md = s.md ∧ u.log = s.log
    (∀ (p : Fin 6) (t : Nat), p.val = n →
        (emfDriven s n = true → x.crossed = false → Completes (.zeroCrossing p t) s fun u => others u ∧ u.dict = s.dict ∧
          motor u n = (if motorState s n = 2 then { x with crossed := true, crossings := x.crossings + 1 }
            else { x with crossed := true, nextStep := some (t + x.stepPeriod / 2) })) ∧
        (emfDriven s n = false ∨ x.crossed = true → Completes (.zeroCrossing p t) s fun u => u = s)) ∧
      (∀ t : Nat,
        let ready := decide (x.lastStep ≤ t) && (emfDriven s n && stepDue s n t || bridgeOn s n && bdDriven s n && bdStepDue s n t)
        let measured := tracking s n && (motorState s n == 4 || motorState s n == 5)
        (ready = false → Completes (.commutation m t) s fun u => u = s) ∧
          (ready = true → Completes (.commutation m t) s fun u => others u ∧ (motor u n).step = (x.step + 1) % 6 ∧ (motor u n).stepPeriod = t - x.lastStep ∧
            (motor u n).lastStep = t ∧ (motor u n).crossed = false ∧ (motorState s n ≠ 2 → (motor u n).nextStep = none) ∧
            (motorState s n = 2 → (motor u n).nextStep = (openStepAt s n (x.openSteps + 2)).map (· + x.openFrom)) ∧
            (measured = true → u.dict = s.dict) ∧
            (measured = false → get u (motIdx n) 0x31 = sImg 32 (sectorSpeed s n (t - x.lastStep) : Nat) ∧ KeepsObjects [keyOf (motIdx n) 0x31] s u))) ∧
      (∀ (code : Fin 8) (t : Nat),
        let c := hallMasked s n code.val
        (waveform s n ≠ 3 → waveform s n ≠ 4 → Completes (.hallEdge m code t) s fun u => u = s) ∧
          (∀ k : Nat, waveform s n = 3 ∨ waveform s n = 4 → hallSector c = some k →
            (hallSector x.hall = none → Completes (.hallEdge m code t) s fun u => others u ∧ u.dict = s.dict ∧
              motor u n = { x with hall := c, hallTime := t, edgeAngle := k * 65536 / 6, stepPeriod := 0, step := k, angle := k * 65536 / 6 }) ∧
            (hallSector x.hall = some k → Completes (.hallEdge m code t) s fun u => u = s) ∧
            (∀ (j : Nat) (back : Bool), hallSector x.hall = some j → k = (if back then (j + 5) % 6 else (j + 1) % 6) →
              Completes (.hallEdge m code t) s fun u =>
                let a := ((if back then k + 1 else k) * 65536 / 6 + get s (motIdx n) 0x1A) % 65536
                others u ∧ (motor u n).hall = c ∧ (motor u n).hallTime = t ∧ (motor u n).edgeAngle = a ∧ (motor u n).angle = a ∧ (motor u n).back = back ∧
                (motor u n).step = k ∧ (motor u n).stepPeriod = t - x.hallTime ∧ KeepsObjects [keyOf (motIdx n) 0x31, keyOf (motIdx n) 0x3C] s u ∧
                (get s (motIdx n) 0x0E = 255 → get u (motIdx n) 0x31 =
                  sImg 32 (if back then -(sectorSpeed s n (t - x.hallTime) : Int) else sectorSpeed s n (t - x.hallTime))))))

/-- PWM_PERIOD (R437 to R439, R443, R447, R448, R450, R460, R467): gates that are low stay so, and those of a motor in state 7 go low; the duties
follow the six-step or the field-oriented control; currents are taken at the placed samples, and a held period keeps them and is counted; a stop
halves its brake current or ends in three low sides; a polygon that has held its speed for 100 ms is LOCKED. Within a period a side of a half-bridge
turns on only when the dead time has passed since the other side turned off. It rests on the model's choices of log 8, 15, 104, 105, 109, 155, 161.
-/
def Obligations.PwmPeriods : Prop :=
  ∀ (m : Fin 12) (s1 s2 : Int) (s : State),
    let n := m.val
    let x := motor s n
    let st := motorState s n
    let v := getS s 32 (motIdx n) 0x31
    let held := (placement (pwmPeriodNs s n) (deadNs s n) (windowNs s n) x.duties).hold
    let stops := decide (x.target = 0) && rampOver s n && nearStill s n
    let sound := 100 * v.natAbs ≤ 110 * get s (motIdx n) 0x0C ∧ (st = 4 ∨ st = 5 → withinPerMille 20 (commandedNow s n) v = true)
    let calm := sound ∧ st ≠ 6 ∧ stops = false
    let others := fun (u : State) => (∀ k, k ≠ n → motor u k = motor s k) ∧ u.md = s.md
    let half := if bdDriven s n then ticksUs (get s (motIdx n) 0x0F) / 2 else 0
    let i1 := shuntCurrent s n s1
    let i2 := shuntCurrent s n s2
    (x.gatesLow = true → Completes (.pwmPeriod m s1 s2) s fun u => u = s) ∧
      (x.gatesLow = false → st = 7 → Completes (.pwmPeriod m s1 s2) s fun u => (motor u n).gatesLow = true ∧ (motor u n).edges = [] ∧ others u ∧
        u = { s with motors := u.motors }) ∧
      (∀ (dead k t a b : Nat) (l : Leg) (inside outside : Drive), a ≤ b →
        ∀ e ∈ (legRun dead k l (pulseParts t a b inside outside)).1, ∀ f ∈ (legRun dead k l (pulseParts t a b inside outside)).1,
          e.on = false → f.on = true → e.side ≠ f.side → e.at_ ≤ f.at_ → e.at_ + dead ≤ f.at_) ∧
      (bridgeOn s n = true → n < 6 ∨ get s (motIdx n) 0x0E = 255 →
        (waveform s n ≠ 3 → x.lowSides = false → x.holds < 16 → calm → Completes (.pwmPeriod m s1 s2) s fun u => others u ∧
            (motor u n).duties = (sixStepPwm s n i1 half x).duties ∧ (motor u n).intQ = (sixStepPwm s n i1 half x).intQ ∧
            (motor u n).vLimit = (sixStepPwm s n i1 half x).vLimit ∧ get u (motIdx n) 0x35 = ofBool (waveform s n == 4 && (motor u n).vLimit)) ∧
          (waveform s n = 3 → x.lowSides = false → calm → held = false → Completes (.pwmPeriod m s1 s2) s fun u => others u ∧ (motor u n).holds = 0 ∧
            (motor u n).phases = phaseCurrents x.duties i1 i2 ∧ (motor u n).angle = hallAngle x s.time ∧
            get u (motIdx n) 0x33 = sImg 16 (dqCurrent (phaseCurrents x.duties i1 i2) x.angle).1 ∧
            get u (motIdx n) 0x34 = sImg 16 (dqCurrent (phaseCurrents x.duties i1 i2) x.angle).2) ∧
          (waveform s n = 3 → x.lowSides = false → calm → held = true → x.holds < 15 → Completes (.pwmPeriod m s1 s2) s fun u => others u ∧
            (motor u n).holds = x.holds + 1 ∧ (motor u n).phases = x.phases ∧ get u (motIdx n) 0x39 = min (get s (motIdx n) 0x39 + 1) (2 ^ 32 - 1)) ∧
          (waveform s n ≠ 3 ∨ x.lowSides = true → x.holds < 16 → sound →
            (st = 6 → x.lowSides = false → nearStill s n = false → Completes (.pwmPeriod m s1 s2) s fun u => others u ∧
              (motor u n).brake = nextBrake s n ∧ motorState u n = 6) ∧
            (x.lowSides = false → st = 6 ∧ nearStill s n = true ∨ st ≠ 6 ∧ stops = true → Completes (.pwmPeriod m s1 s2) s fun u => others u ∧
              motorState u n = 6 ∧ (motor u n).lowSides = true ∧ (motor u n).duties = [0, 0, 0]) ∧
            (n < 6 → st = 3 → stops = false → withinPerMille 5 x.target v = true →
              (x.inBand = none → Completes (.pwmPeriod m s1 s2) s fun u => others u ∧ (motor u n).inBand = some s.time ∧ motorState u n = 3) ∧
              (∀ b, x.inBand = some b → b + ticksMs 100 ≤ s.time → Completes (.pwmPeriod m s1 s2) s fun u => others u ∧ motorState u n = 4))))

/-- Motor faults (R446, R450, R460, R464 to R466): OVERCURRENT, STALL_TIMEOUT, BACK_EMF_LOSS, RAMP_END after a second alignment, HALL_EDGE and
PWM_PERIOD put the state to 7 and the fault's code on record, spill the sheets that need the motor and ask for a restart as its second serve; the
gates go low on an overcurrent at once and on any other fault with the next period; the same code again in its window is SAFESTOP with cause 0x07.
It rests on the model's choices of log 8, 105, 161. -/
def Obligations.MotorFaults : Prop :=
  ∀ (m : Fin 12) (s : State), bridgeOn s m.val = true →
    let n := m.val
    let x := motor s n
    let v := getS s 32 (motIdx n) 0x31
    let st := motorState s n
    let faults := fun (c : Instr) (code : Nat) (low : Bool) =>
      (motorRepeats s n code = false → Completes c s fun u => motorState u n = 7 ∧ (motor u n).gatesLow = low ∧ get u (motIdx n) 0x36 = code ∧
          get u (motIdx n) 0x37 = min (get s (motIdx n) 0x37 + 1) 65535 ∧ u.md = s.md ∧ (∀ k, k ≠ n → motor u k = motor s k) ∧
          (s.md.mode ≠ .safestop → (motor u n).restart = true ∧ serving u .motor n = true) ∧
          ∀ sh ∈ s.sheets, sh.committed = true → sh.mask.testBit (16 + n) = true → ∃ y ∈ u.sheets, y.uid = sh.uid ∧ y.spoiled = true) ∧
        (motorRepeats s n code = true → s.md.mode ∈ operating → Completes c s fun u => u.md.mode = .safestop ∧ get u 0x2000 5 = 7)
    (∀ code : Int, (overCurrent s n code = true → faults (.overcurrent ⟨m, code⟩) 1 true) ∧
        (overCurrent s n code = false → Completes (.overcurrent ⟨m, code⟩) s fun u => u = s)) ∧
      (stalled s n = true → faults (.stallTimeout m) 2 false) ∧ (stalled s n = false → Completes (.stallTimeout m) s fun u => u = s) ∧
      (∀ p : Fin 6, p.val = n →
        (emfDriven s n = true → st = 3 → x.crossed = false → faults (.backEmfLoss p) 4 false) ∧
        (emfDriven s n = false ∨ st ≠ 3 ∨ x.crossed = true → Completes (.backEmfLoss p) s fun u => u = s) ∧
        (st = 2 → x.crossings < get s (motIdx n) 0x12 → x.alignRetry = true → faults (.rampEnd p) 7 false)) ∧
      (∀ (code : Fin 8) (t : Nat), waveform s n = 3 ∨ waveform s n = 4 →
        (hallSector (hallMasked s n code.val)).all (fun k => (hallSector x.hall).any fun j => k != j && k != (j + 1) % 6 && k != (j + 5) % 6) = true →
          faults (.hallEdge m code t) 3 false) ∧
      (n < 6 ∨ get s (motIdx n) 0x0E = 255 → ∀ s1 s2 : Int,
        (waveform s n = 3 → x.lowSides = false → 15 ≤ x.holds →
          (placement (pwmPeriodNs s n) (deadNs s n) (windowNs s n) x.duties).hold = true → faults (.pwmPeriod m s1 s2) 5 true) ∧
        (waveform s n ≠ 3 ∨ x.lowSides = true → x.holds < 16 →
          (110 * get s (motIdx n) 0x0C < 100 * v.natAbs → faults (.pwmPeriod m s1 s2) 6 true) ∧
          (100 * v.natAbs ≤ 110 * get s (motIdx n) 0x0C → st = 4 ∨ st = 5 → withinPerMille 20 (commandedNow s n) v = false →
            faults (.pwmPeriod m s1 s2) 8 true)))

/-! ## Axes -/

/-- Commands to axes (R471, R472, R475, R478, R479, R482, R487 to R490, R492). AXIS_MOVE_COMMAND, GROUP_MOVE_COMMAND, AXIS_RAMPED_STOP_COMMAND,
AXIS_HARD_STOP_COMMAND, AXIS_RESUME and AXIS_HOME wait at the first axis of theirs that stands on a committed path, and a waiting stop gives way
to a hard stop only; else a move starts after its setup time or takes the queue's one place, a group's record starts on every member at once with
the profile of the longest, a stop ends or ramps the motion, a resume goes on with what remains, a homing searches, and AXIS_ENABLE switches the
axis. It rests on the model's choices of log 8, 10, 14, 156. -/
def Obligations.AxisCommands : Prop :=
  ∀ (acc : Accessor) (a : Fin 16) (d : List Byte) (s : State),
    let n := a.val
    let x := axis s n
    let i := axIdx n
    let v := ofLe d
    let r := v % 16
    let ended := fun (u : State) => Answered acc u ∧ u.md = s.md ∧ u.sheets = s.sheets
    let others := fun (u : State) => ∀ k, k ≠ n → axis u k = axis s k
    let waits := fun (c : Instr) (set : List Nat) (w : AxisDeferred) => ∀ b, heldOf s n set = some b →
      ((∀ h, (axis s b).deferred ≠ some (.stop h)) ∨ w = .stop true → Completes c s fun u => ended u ∧ axis u b = { axis s b with deferred := some w } ∧
        (∀ k, k ≠ b → axis u k = axis s k) ∧ u.dict = s.dict) ∧
      ((∃ h, (axis s b).deferred = some (.stop h)) → w ≠ .stop true → Completes c s fun u => ended u ∧ u.axes = s.axes ∧ u.dict = s.dict)
    let begun := fun (u : State) (b : Nat) (w : Move) => (axis u b).state = 2 ∧ (axis u b).move = some w ∧ (axis u b).stopped = none ∧
      (axis u b).en = true ∧ (axis u b).short = false ∧ (axis u b).ired = false
    let slowest := fun (l : List (Nat × Int)) => (l.map fun q => startWait s q.1 q.2).foldl max 0
    (Accepted s acc i 0x38 d → ∀ c ∈ [Instr.axisMoveCommand acc a d, .groupMoveCommand acc a d],
        waits c (moveSet s n v) (.move v) ∧
          (heldOf s n (moveSet s n v) = none → v.testBit 4 = false →
            (x.state = 1 ∨ x.state = 4 → recordDist s n r ≠ 0 → towardLimit s n (recordDist s n r) = false → Completes c s fun u => ended u ∧
              begun u n { recordMove s n r with at_ := s.time + startWait s n (recordDist s n r) } ∧ others u ∧ u.dict = s.dict) ∧
            (x.state = 1 ∨ x.state = 4 → recordDist s n r = 0 ∨ towardLimit s n (recordDist s n r) = true → Completes c s fun u => ended u ∧
              (axis u n).state = 1 ∧ (axis u n).move = none ∧ (axis u n).stopped = none ∧ others u ∧ u.dict = s.dict) ∧
            (x.state = 2 ∨ x.state = 3 ∨ x.state = 5 → x.queue = none → Completes c s fun u => ended u ∧ axis u n = { x with queue := some r } ∧ others u ∧
              u.dict = s.dict) ∧
            (x.state = 2 ∨ x.state = 3 ∨ x.state = 5 → x.queue ≠ none → Completes c s fun u => ended u ∧ u.axes = s.axes ∧
              get u i 0x37 = min (get s i 0x37 + 1) 65535 ∧ KeepsObjects [keyOf i 0x37] s u)) ∧
          (∀ g k : Nat, heldOf s n (moveSet s n v) = none → v.testBit 4 = true → groupOfAxis s n = some g → groupRefusal s g r = 0 →
            longest s (members s g) r = some k →
            ((∃ b ∈ members s g, recordDist s b r ≠ 0) → (∀ b ∈ members s g, towardLimit s b (recordDist s b r) = false) →
              Completes c s fun u => ended u ∧ u.dict = s.dict ∧ (∀ b, b ∉ members s g → axis u b = axis s b) ∧
                ∀ b ∈ members s g,
                  let p := profileSet s k (recordSet s k r)
                  begun u b { dist := recordDist s b r, v := p.1, a := p.2.1, d := p.2.2.1, j := p.2.2.2, from_ := positionNow s b,
                              at_ := s.time + slowest ((members s g).map fun e => (e, recordDist s e r)), lead := (recordDist s k r).natAbs,
                              set := recordSet s k r, group := some g }) ∧
            ((∀ b ∈ members s g, recordDist s b r = 0) ∨ (∃ b ∈ members s g, towardLimit s b (recordDist s b r) = true) →
              Completes c s fun u => ended u ∧ u.dict = s.dict ∧ (∀ b, b ∉ members s g → axis u b = axis s b) ∧
                ∀ b ∈ members s g, (axis u b).state = 1 ∧ (axis u b).move = none ∧ (axis u b).stopped = none))) ∧
      (Accepted s acc i 0x39 d → ∀ c ∈ [Instr.axisRampedStopCommand acc a d, .axisHardStopCommand acc a d],
        waits c (stopSet s n) (.stop (v == 2)) ∧
          (heldOf s n (stopSet s n) = none → Completes c s fun u => ended u ∧ (∀ b, b ∉ stopSet s n → axis u b = axis s b) ∧ (∀ b ∈ stopSet s n, (axis u b).queue = none) ∧
            (v = 2 → ∀ b ∈ stopSet s n, (axis s b).move ≠ none → (axis u b).state = 4 ∧ (axis u b).move = none ∧ (axis u b).homing = none) ∧
            (v ≠ 2 → u.dict = s.dict ∧ ∀ b ∈ stopSet s n, (axis s b).move ≠ none → (axis s b).state = 2 → (axis u b).state = 3 ∧ (axis u b).stopped ≠ none) ∧
            (∀ w : Move, x.move = some w → w.group = none → v = 2 → get u i 0x31 = sImg 32 (w.from_ + along w.dist (w.steps s.time)) ∧
              (get s i 9 < w.vel s.time → get u i 0x32 = 0) ∧ (w.vel s.time ≤ get s i 9 → get u i 0x32 = get s i 0x32)))) ∧
      (Accepted s acc i 0x3A d → waits (.axisResume acc a d) (resumeSet s n) .resume ∧
        (heldOf s n (resumeSet s n) = none →
          let l := (resumeSet s n).filterMap fun b => (axis s b).stopped.map fun w => (b, w.dist)
          (∃ q ∈ l, q.2 ≠ 0) → (∀ q ∈ l, towardLimit s q.1 q.2 = false) →
            Completes (.axisResume acc a d) s fun u => ended u ∧ u.dict = s.dict ∧ (∀ b, b ∉ resumeSet s n → axis u b = axis s b) ∧
              ∀ b ∈ resumeSet s n, ∀ w : Move, (axis s b).stopped = some w →
                begun u b { w with from_ := getS s 32 (axIdx b) 0x31, at_ := s.time + slowest l })) ∧
      (Accepted s acc i 0x3B d → waits (.axisHome acc a d) [n] .home ∧
        (pathHeld s n = false → get s i 0x40 = 0 → Completes (.axisHome acc a d) s fun u => ended u ∧ u.axes = s.axes ∧
          get u i 0x31 = sImg 32 (getS s 32 i 0x45) ∧ get u i 0x32 = 1 ∧ serving u .axisLimit n = false) ∧
        (pathHeld s n = false → get s i 0x40 ≠ 0 → Completes (.axisHome acc a d) s fun u => ended u ∧ u.dict = s.dict ∧ others u ∧ (axis u n).state = 5 ∧
          (axis u n).homing = some .search ∧ (axis u n).queue = none ∧ (axis u n).stopped = none ∧ (axis u n).ired = (get s i 0x40 == 4) ∧
          let w := homingMove s n (searchSign s n) (get s i (if get s i 0x40 = 4 then 0x43 else 0x42))
          (axis u n).move = some { w with at_ := s.time + startWait s n w.dist })) ∧
      (Accepted s acc i 0x3C d →
        (v = 0 → Completes (.axisEnable acc a d) s fun u => ended u ∧ get u i 0x3C = 0 ∧ (axis u n).state = 0 ∧ (axis u n).en = false ∧ (axis u n).move = none ∧
          (axis u n).deferred = none ∧ others u) ∧
        (v ≠ 0 → x.state = 0 → x.fltIn = false → Completes (.axisEnable acc a d) s fun u => ended u ∧ get u i 0x3C = 1 ∧ others u ∧
          axis u n = { x with state := 1, en := get s i 0x0A != 0, short := get s i 0x0A == 1, ired := get s i 0x0A == 2 }) ∧
        (v ≠ 0 → x.state ≠ 0 → Completes (.axisEnable acc a d) s fun u => ended u ∧ get u i 0x3C = 1 ∧ u.axes = s.axes) ∧
        (v ≠ 0 → x.state = 0 → x.fltIn = true → servedWithin s .axisDriver n (ticksS 10) = false → s.md.mode ≠ .safestop →
          Completes (.axisEnable acc a d) s fun u => Answered acc u ∧ u.md = s.md ∧ (axis u n).state = 6 ∧ get u i 0x35 = 1 ∧ (axis u n).reenable = true))

/-- Homing on its way (R482, R483, R544): HOME_ACTIVE, or LIMIT_ACTIVE on the own side, turns the search back once it has stopped; HOMING_LATCH sets
the position and HOMED and the axis decelerates, by way of INDEX in H3; HOMING_SEARCH_END is the position in H4 and a failure in the others. An input
in conflict has no edge. It rests on the model's choices of log 3, 8, 14, 110, 156, 157. -/
def Obligations.AxesHome : Prop :=
  ∀ (a : Fin 16) (s : State),
    let n := a.val
    let x := axis s n
    let i := axIdx n
    let k := get s i 0x40
    let others := fun (u : State) => (∀ b, b ≠ n → axis u b = axis s b) ∧ u.md = s.md ∧ u.sheets = s.sheets
    let stop := homingStop s n
    let turned := fun (u : State) => others u ∧ (axis u n).homing = some .back ∧ (axis u n).state = x.state ∧
      get u i 0x31 = sImg 32 (positionNow s n + searchSign s n * (stop.1 : Int)) ∧
      let w := homingMove u n (-(searchSign s n)) (get s i 0x43)
      (axis u n).move = some { w with at_ := s.time + stop.2 + turnWait s n w.dist }
    let found := fun (u : State) => others u ∧ (axis u n).homing = none ∧ get u i 0x31 = sImg 32 (getS s 32 i 0x45) ∧ get u i 0x32 = 1 ∧
      serving u .axisLimit n = false ∧ (axis u n).ired = false
    let rests := fun (u : State) => x.queue = none → (axis u n).state = 1 ∧ (axis u n).move = none
    let latched := fun (u : State) => found u ∧ (x.move = none ∨ stop.1 = 0 → rests u) ∧
      ∀ w : Move, x.move = some w → stop.1 ≠ 0 → (axis u n).state = 2 ∧
        (axis u n).move = some { w with dist := along w.dist stop.1, d := (profileSet s n 0).2.2.1, from_ := getS s 32 i 0x45, lead := stop.1,
                                        cut := some { at_ := s.time, n := 0, v := w.leadVel s.time } }
    let lost := fun (u : State) => others u ∧ (axis u n).homing = none ∧ (axis u n).state = 1 ∧ (axis u n).move = none ∧ get u i 0x35 = 2 ∧
      get u i 0x36 = min (get s i 0x36 + 1) 65535 ∧ serving u .axisLimit n = false
    let clear := fun (c : Nat) => inConflict s (c + 16 * n) = false
    (x.homing = some .search → k = 2 ∨ k = 3 → clear 0x1002 → Completes (.homeActive a) s turned) ∧
      (x.homing ≠ some .search ∨ k ≠ 2 ∧ k ≠ 3 ∨ ¬clear 0x1002 → Completes (.homeActive a) s fun u => u = s) ∧
      (x.homing = some .back → k = 3 → clear 0x1002 → Completes (.homingLatch a) s fun u => others u ∧ u.dict = s.dict ∧
        (axis u n).homing = some .index ∧ (axis u n).state = x.state ∧
        ∀ w : Move, x.move = some w → (axis u n).move = some
          { w with dist := along w.dist (w.steps s.time + get s i 0x44), lead := w.steps s.time + get s i 0x44 }) ∧
      (x.homing = some .back → k = 1 → clear (if flag s i 0x41 then 0x1004 else 0x1003) → Completes (.homingLatch a) s latched) ∧
      (x.homing = some .back → k ≠ 1 → k ≠ 3 → clear 0x1002 → Completes (.homingLatch a) s latched) ∧
      (x.homing = some .index → clear 0x1000 → Completes (.homingLatch a) s fun u => latched u ∧ (axis u n).indexIn = true) ∧
      (x.homing = none ∨ x.homing = some .search → Completes (.homingLatch a) s fun u => u = s) ∧
      (x.homing = some .index → ¬clear 0x1000 → Completes (.homingLatch a) s fun u => u = s) ∧
      (x.state = 5 → k = 4 → Completes (.homingSearchEnd a) s fun u => found u ∧ rests u) ∧
      (x.state = 5 → k ≠ 4 → Completes (.homingSearchEnd a) s lost) ∧
      (x.state ≠ 5 → Completes (.homingSearchEnd a) s fun u => u = s) ∧
      (∀ (positive : Bool) (w : Move), x.state = 5 → x.move = some w → (if positive then 0 < w.dist else w.dist < 0) →
        (k = 1 → x.homing = some .search → flag s i 0x41 = positive → Completes (.limitActive a positive) s turned) ∧
        (k ≠ 1 ∨ x.homing ≠ some .search ∨ flag s i 0x41 ≠ positive → Completes (.limitActive a positive) s lost))

/-- What ends a motion, and what waited for it (R28, R478, R485, R486, R487, R490, R492): MOVE_END stores the position and counts the steps, and a
queued move starts, a stop leaves STOPPED, else the axis stands; STANDSTILL_DELAY_END takes the standstill option; LIMIT_ACTIVE stops a move toward
it, and the group it is one of, with fault 3 and without HOMED; at DEFERRED_COMMAND_RELEASE the sheets leave the path and the deferred command acts.
It rests on the model's choices of log 3, 8, 10, 28, 156. -/
def Obligations.AxisMotionEnds : Prop :=
  ∀ (a : Fin 16) (s : State),
    let n := a.val
    let x := axis s n
    let i := axIdx n
    let others := fun (u : State) => (∀ b, b ≠ n → axis u b = axis s b) ∧ u.md = s.md
    (∀ w : Move, x.state = 2 ∨ x.state = 3 → x.move = some w → Completes (.moveEnd a) s fun u => others u ∧ u.sheets = s.sheets ∧
        get u i 0x31 = sImg 32 (w.from_ + w.dist) ∧ get u i 0x3E = (get s i 0x3E + w.dist.natAbs) % 2 ^ 64 ∧ (axis u n).queue = none ∧ (axis u n).aligning = false ∧
        (x.stopped ≠ none → x.queue = none → (axis u n).state = 4 ∧ (axis u n).move = none ∧ (axis u n).stopped = x.stopped) ∧
        (x.stopped = none → x.queue = none → (axis u n).state = 1 ∧ (axis u n).move = none) ∧
        (∀ r, x.queue = some r → (axis u n).stopped = none ∧ ((axis u n).state = 1 ∧ (axis u n).move = none ∨
          (axis u n).state = 2 ∧ ∃ y, (axis u n).move = some y ∧ y.set = recordSet u n r ∧ y.from_ = getS u 32 i 0x31 ∧ s.time ≤ y.at_))) ∧
      (x.state ≠ 2 → x.state ≠ 3 → Completes (.moveEnd a) s fun u => u = s) ∧
      (x.state = 1 ∨ x.state = 4 → Completes (.standstillDelayEnd a) s fun u => others u ∧ u = { s with axes := u.axes } ∧
        axis u n = { x with en := get s i 0x0A != 0, short := get s i 0x0A == 1, ired := get s i 0x0A == 2 }) ∧
      (x.state ≠ 1 → x.state ≠ 4 → Completes (.standstillDelayEnd a) s fun u => u = s) ∧
      (∀ positive : Bool,
        let reached := if positive then { x with limP := true } else { x with limN := true }
        (x.move = none ∨ (∃ w, x.move = some w ∧ ¬(if positive then 0 < w.dist else w.dist < 0)) → Completes (.limitActive a positive) s fun u =>
            axis u n = reached ∧ others u ∧ u = { s with axes := u.axes }) ∧
          (∀ (w : Move) (g : Nat), x.move = some w → w.group = some g → (if positive then 0 < w.dist else w.dist < 0) → x.state ≠ 5 → get s i 0x0C = 0 →
            Completes (.limitActive a positive) s fun u => u.md = s.md ∧ get u i 0x35 = 3 ∧ get u i 0x32 = 0 ∧
              ∀ b ∈ members s g, (axis s b).move ≠ none → (axis u b).state = 4 ∧ (axis u b).move = none) ∧
          (∀ w : Move, x.move = some w → w.group = none → (if positive then 0 < w.dist else w.dist < 0) → x.state ≠ 5 →
            Completes (.limitActive a positive) s fun u => others u ∧ get u i 0x35 = 3 ∧ get u i 0x36 = min (get s i 0x36 + 1) 65535 ∧ get u i 0x32 = 0 ∧
              serving u .axisLimit n = true ∧ (get s i 0x0C = 0 → (axis u n).state = 4 ∧ (axis u n).move = none) ∧
              (get s i 0x0C ≠ 0 → x.state = 2 → (axis u n).state = 3 ∧ (axis u n).stopped ≠ none) ∧
              ∀ sh ∈ s.sheets, sh.committed = true → sh.mask.testBit n = true → ∃ y ∈ u.sheets, y.uid = sh.uid ∧ y.spoiled = true)) ∧
      (∀ t : Fin 28, Completes (.deferredCommandRelease t) s fun u => u.md = s.md ∧ (∀ y ∈ u.sheets, y.holds t.val = false) ∧
        (∀ y ∈ s.sheets, y.holds t.val = false → y ∈ u.sheets) ∧
        (t.val = n → (axis u n).deferred = none ∧ (x.deferred = none → u.axes = s.axes ∧ u.dict = s.dict) ∧
          (∀ (h : Bool) (w : Move), x.deferred = some (.stop h) → x.move = some w → w.group = none → x.state = 2 → (axis u n).state = (if h then 4 else 3)) ∧
          (∀ v : Nat, x.deferred = some (.move v) → axisModeCode s .move = 0 → v.testBit 4 = false → x.state = 1 ∨ x.state = 4 → recordDist s n (v % 16) ≠ 0 →
            towardLimit s n (recordDist s n (v % 16)) = false → (axis u n).state = 2 ∧
            (axis u n).move = some { recordMove s n (v % 16) with at_ := s.time + startWait s n (recordDist s n (v % 16)) }) ∧
          (x.deferred = some .home → axisModeCode s .home = 0 → homeRefusal s n = 0 → get s i 0x40 ≠ 0 → (axis u n).state = 5 ∧
            (axis u n).homing = some .search)) ∧
        (∀ m k : Nat, t.val = 16 + m → (motor u m).deferred = none ∧ u.axes = s.axes ∧
          ((motor s m).deferred = some k → motorModeCode s = 0 → entryCheck s m k = 0 → (motor u m).target = entrySpeed s m k ∧ (motor u m).entry = k)))

/-- Driver faults (R495, R496, R544, R563): AXIS_DRIVER_FAULT acts on an enabled axis: hard stop, fault 1, not HOMED, the sheets that need the axis
spilled, and AXIS_REENABLE as second serve, which passes while FLT is inactive; a fault within 10 s of it, or FLT that persists, is SAFESTOP until
AXIS_FLT_INACTIVE; an FLT in conflict stays active. It rests on the model's choices of log 8, 110, 157. -/
def Obligations.AxisDrivers : Prop :=
  ∀ (a : Fin 16) (s : State),
    let n := a.val
    let x := axis s n
    let i := axIdx n
    let stopped := fun (u : State) => u.md.mode = .safestop ∧ get u 0x2000 5 = 7
    (x.fltIn = true ∨ x.state = 0 ∨ x.state = 6 → Completes (.axisDriverFault a) s fun u => axis u n = { x with fltIn := true } ∧
        (∀ b, b ≠ n → axis u b = axis s b) ∧ u = { s with axes := u.axes }) ∧
      (x.fltIn = false → x.state ≠ 0 → x.state ≠ 6 →
        (servedWithin s .axisDriver n (ticksS 10) = false → s.md.mode ≠ .safestop → Completes (.axisDriverFault a) s fun u => (axis u n).fltIn = true ∧
          (axis u n).state = 6 ∧ (axis u n).en = false ∧ (axis u n).reenable = true ∧ serving u .axisDriver n = true ∧ get u i 0x35 = 1 ∧
          get u i 0x36 = min (get s i 0x36 + 1) 65535 ∧ get u i 0x32 = 0 ∧ u.md = s.md ∧
          ∀ sh ∈ s.sheets, sh.committed = true → sh.mask.testBit n = true → ∃ y ∈ u.sheets, y.uid = sh.uid ∧ y.spoiled = true) ∧
        (servedWithin s .axisDriver n (ticksS 10) = true → s.md.mode ∈ operating → Completes (.axisDriverFault a) s stopped)) ∧
      (x.reenable = true → x.state = 6 → s.md.mode ≠ .safestop → x.fltIn = false → Completes (.axisReenable a) s fun u =>
        axis u n = { x with reenable := false, state := 1, en := true } ∧ (∀ b, b ≠ n → axis u b = axis s b) ∧ serving u .axisDriver n = false ∧
        u.dict = s.dict ∧ u.md = s.md) ∧
      (x.reenable = true → x.state = 6 → s.md.mode ∈ operating → x.fltIn = true → Completes (.axisReenable a) s stopped) ∧
      (x.reenable = false ∨ x.state ≠ 6 ∨ s.md.mode = .safestop → Completes (.axisReenable a) s fun u => u = s) ∧
      (inConflict s (0x1001 + 16 * n) = true → Completes (.axisFltInactive a) s fun u => u = s) ∧
      (inConflict s (0x1001 + 16 * n) = false → Completes (.axisFltInactive a) s fun u => axis u n = { x with fltIn := false } ∧
        (∀ b, b ≠ n → axis u b = axis s b) ∧ (7, causeInst .axisDriver n) ∉ u.log.causes ∧ u.dict = s.dict ∧ u.md = s.md)

/-! ## Loops, conversions, capture -/

/-- LOOP_EVALUATION (R513, R514, R516, R511, R506, R519, R524, R526 to R528): it is counted and reads its input; off, it does no more; on a
BROKEN input its output goes off with fault 3, on one that settles it holds, above the trip level it ends in SAFESTOP; else the set-point ramps
to the target, the law demands a step or a switch, and the output follows; one that has now pushed its limit for its time responds as its fault
response says.
It rests on the model's choices of log 8, 13, 111. -/
def Obligations.LoopsEvaluate : Prop :=
  ∀ (m : Fin 48) (s : State),
    let n := m.val
    let i := loopIdx n
    let l := loop s n
    let x := measured s n
    let c := Instr.loopEvaluation m
    let runs := engineRuns s && loopPresent s n && law s n != 0
    let follows := isSpeedLoop n = true → l.state ≠ 0 ∧ (motorState s (loopMotor n) = 3 ∨ motorState s (loopMotor n) = 4 ∨ motorState s (loopMotor n) = 5)
    let counted := fun (u : State) => get u i 0x38 = (get s i 0x38 + 1) % 2 ^ 64 ∧ get u 0x3930 2 = (get s 0x3930 2 + 1) % 2 ^ 64 ∧
      (loop u n).evals = l.evals + 1 ∧ (loop u n).x = x ∧ ∀ k, k ≠ n → loop u k = loop s k
    let ain_ := decide (inKind s n < 2)
    let broken := ain_ && (ain s (inInst s n)).broken
    let settles := ain_ && (ain s (inInst s n)).settle
    let trips := decide (getS s 32 i 0x12 < x)
    let total := get s i 8 * get s i 4 + l.spFrac
    let target := targetOf s n
    let sp := if get s i 8 = 0 then target else if l.sp < target then min target (l.sp + (total / 1000 : Nat)) else max target (l.sp - (total / 1000 : Nat))
    let d := lawDemand s n x sp
    let on := if d = 1 then true else if d = -1 then false else l.on
    let w := if law s n = 2 then clamp (outMin s n) (outMax s n) (l.u + d * (get s i 6 : Nat)) else l.u
    let y := if law s n = 1 then (if on = true then 1 else 0) else clamp (outMin s n) (outMax s n) (feedForward s n w)
    let pastLimit := get s i 0x0B ≠ 0 ∧ l.satTime < 1000 * get s i 0x0B ∧ 1000 * get s i 0x0B ≤ l.satTime + get s i 4
    (runs = false → Completes c s fun u => u = s) ∧
      (runs = true → follows →
        (l.state ≠ 1 → l.state ≠ 2 → Completes c s fun u => counted u ∧ loop u n = { l with evals := l.evals + 1, x := x } ∧ u.md = s.md ∧
          KeepsObjects [keyOf i 0x38, keyOf 0x3930 2] s u) ∧
        (l.state = 1 ∨ l.state = 2 →
          (broken = true → l.broken = false → Completes c s fun u => counted u ∧ (loop u n).y = 0 ∧ (loop u n).on = false ∧ (loop u n).broken = true ∧
            (loop u n).state = l.state ∧ get u i 0x36 = 3 ∧ get u i 0x37 = min (get s i 0x37 + 1) 65535 ∧ u.md = s.md) ∧
          (broken = true → l.broken = true → Completes c s fun u => counted u ∧ loop u n = { l with evals := l.evals + 1, x := x } ∧ u.md = s.md) ∧
          (broken = false → settles = true → Completes c s fun u => counted u ∧ (loop u n).settled = true ∧ (loop u n).u = l.u ∧ (loop u n).sp = l.sp ∧
            (loop u n).state = l.state ∧ get u i 0x39 = min (get s i 0x39 + 1) (2 ^ 32 - 1) ∧ u.md = s.md) ∧
          (broken = false → settles = false → trips = true → s.md.mode ∈ operating → Completes c s fun u => u.md.mode = .safestop ∧ get u 0x2000 5 = 0x0C ∧
            (0x0C, causeInst .loop n) ∈ u.log.causes) ∧
          (broken = false → settles = false → trips = false → s.diag.injecting = false →
            (get s i 0x0B = 0 → get s i 0x0D = 0 → Completes c s fun u => counted u ∧ (loop u n).sp = sp ∧ (loop u n).on = on ∧ (loop u n).u = w ∧
              (loop u n).y = y ∧ (loop u n).state = (if sp = target then 2 else l.state) ∧ (sp = target → l.state = 1 → serving u .loop n = false) ∧
              (isSpeedLoop n = true → (motor u (loopMotor n)).demand = y) ∧
              (isSpeedLoop n = false → outKind s n = 3 → get u 0x1280 (outInst s n + 1) = sImg 64 y) ∧ u.md = s.md) ∧
            (law s n = 1 → l.state = 2 → isSpeedLoop n = false → l.saturated = true → d ≠ 0 → pastLimit → get s i 0x0D = 0 →
              (get s i 0x0F = 0 → Completes c s fun u => counted u ∧ get u i 0x36 = 1 ∧ get u i 0x37 = min (get s i 0x37 + 1) 65535 ∧ (loop u n).y = y ∧
                (loop u n).state = 2 ∧ u.md = s.md) ∧
              (get s i 0x0F = 1 → loopRepeats s n 1 = false → Completes c s fun u => counted u ∧ get u i 0x36 = 1 ∧ (loop u n).state = 3 ∧ (loop u n).y = 0 ∧
                serving u .loop n = true ∧ u.md = s.md) ∧
              (get s i 0x0F = 1 → loopRepeats s n 1 = true → n < 28 → s.md.mode ∈ operating → Completes c s fun u => u.md.mode = .safestop ∧
                get u 0x2000 5 = 7) ∧
              (2 ≤ get s i 0x0F → s.md.mode ∈ operating → Completes c s fun u => u.md.mode = .safestop ∧ get u 0x2000 5 = 0x0C)))))

/-- Commands to loops, the injection and the capture (R498, R514, R516, R517, R520, R528, R530, R531, R533): LOOP_ON_COMMAND goes on by soft-start and
LOOP_OFF_COMMAND off at once, in the restart pause the command is kept for LOOP_RESTART; a speed loop follows its motor and takes neither; BANK_WRITE
selects a bank; INJECTION_START, INJECTION_STOP, CAPTURE_ARM and CAPTURE_TRIGGER_WRITE start and stop the generator and the capture. While ILOCK is
open every HVD carrier stays low.
It rests on the model's choices of log 8, 62, 121. -/
def Obligations.LoopCommands : Prop :=
  ∀ (acc : Accessor) (m : Fin 48) (d : List Byte) (s : State),
    let n := m.val
    let i := loopIdx n
    let l := loop s n
    let v := ofLe d
    let others := fun (u : State) => (∀ k, k ≠ n → loop u k = loop s k) ∧ u.md = s.md
    (s.pins.ilockOpen = true → ∀ (h : Nat) (q : Carrier), hvdPin s h = some q → q.high = 0) ∧
    let soft := fun (u : State) => (loop u n).state = 1 ∧ (loop u n).sp = measured s n ∧ (loop u n).u = getS s 32 i 0x11 ∧ (loop u n).y = 0
    (Accepted s acc i 0x21 d → ∀ c ∈ [Instr.loopOnCommand acc m d, .loopOffCommand acc m d],
        (isSpeedLoop n = true → Completes c s fun u => Answered acc u ∧ u.loops = s.loops ∧ u.dict = s.dict ∧ u.md = s.md) ∧
          (isSpeedLoop n = false → l.state = 3 → Completes c s fun u => Answered acc u ∧ others u ∧ loop u n = { l with recorded := some (v == 1) }) ∧
          (isSpeedLoop n = false → v = 1 → l.state = 1 ∨ l.state = 2 ∨ law s n = 0 ∧ l.state ≠ 3 → Completes c s fun u => Answered acc u ∧ u.loops = s.loops ∧
            u.md = s.md) ∧
          (isSpeedLoop n = false → v = 1 → l.state ∉ [1, 2, 3] → law s n ≠ 0 → Completes c s fun u => Answered acc u ∧ others u ∧ soft u) ∧
          (isSpeedLoop n = false → v ≠ 1 → l.state ≠ 3 → Completes c s fun u => Answered acc u ∧ others u ∧ (loop u n).state = 0 ∧ (loop u n).on = false ∧
            (loop u n).y = 0)) ∧
      (Accepted s acc i 0x20 d → Completes (.bankWrite acc m d) s fun u => Answered acc u ∧ get u i 0x20 = v ∧ u.loops = s.loops ∧ u.md = s.md ∧
        KeepsObjects [keyOf i 0x20] s u) ∧
      (l.state = 3 → l.recorded = some false → Completes (.loopRestart m) s fun u => others u ∧ (loop u n).state = 0 ∧ serving u .loop n = false) ∧
      (l.state = 3 → l.recorded ≠ some false → law s n ≠ 0 → Completes (.loopRestart m) s fun u => others u ∧ soft u) ∧
      (l.state ≠ 3 → Completes (.loopRestart m) s fun u => u = s) ∧
      (Accepted s acc 0x7000 6 d → ∀ c ∈ [Instr.injectionStart acc d, .injectionStop acc d],
        (v = 1 → Completes c s fun u => Answered acc u ∧ u.diag.injecting = true ∧ u.diag.injCount = 0 ∧ u.diag.injHigh = true ∧ u.diag.lfsr = 1 ∧ u.md = s.md) ∧
        (v ≠ 1 → Completes c s fun u => Answered acc u ∧ u.diag = { s.diag with injecting := false } ∧ u.dict = s.dict ∧ u.md = s.md)) ∧
      (Accepted s acc 0x7000 0x13 d → Completes (.captureArm acc d) s fun u => Answered acc u ∧ u.diag.capState = 1 ∧ u.diag.samples = [] ∧ u.dict = s.dict ∧
        u.md = s.md) ∧
      (Accepted s acc 0x7000 0x14 d →
        (s.diag.capState = 1 → Completes (.captureTriggerWrite acc d) s fun u => Answered acc u ∧ get u 0x7000 0x17 = pressTime s ∧ u.md = s.md ∧
          u.diag = { s.diag with capState := 2, left := 4096 - get s 0x7000 0x12 } ∧ KeepsObjects [keyOf 0x7000 0x17] s u) ∧
        (s.diag.capState ≠ 1 → Completes (.captureTriggerWrite acc d) s fun u => Answered acc u ∧ u.diag = s.diag ∧ u.dict = s.dict ∧ u.md = s.md))

/-- Conversions and the fuser's zero cross (R503, R505, R506, R509, R511, R512, R522, R523, R586): a good CONVERSION gives x, or settles after a change
of range; a BROKEN one is counted and served, and a second in a row is SAFESTOP for the loops of L0 to L27; a ZC_IN_EDGE 2 ms or more after the last
one fires the zones whose output is on, ZERO_CROSS_TIMEOUT is served by the edges' return, and a second loss within 10 s is SAFESTOP.
It rests on the model's choices of log 8, 112, 113. -/
def Obligations.InputsConvert : Prop :=
  ∀ s : State,
    (engineRuns s = false → (∀ i a b, Completes (.conversion i a b) s fun u => u = s) ∧ (Completes .zcInEdge s fun u => u = s) ∧
        Completes .zeroCrossTimeout s fun u => u = s) ∧
      (engineRuns s = true →
        (∀ (i : Fin 48) (v1 v2 : Nat),
          let n := i.val
          let a := ain s n
          let mode := get s (ainIdx n) 1
          let v := tenths (gain10 s n) v1
          let bad := mode = 2 ∧ brokenPair (gain10 s n) (get s (ainIdx n) 4) v (tenths (gain10 s n) v2) = true
          let x : Int := if mode = 2 then thermValue s (get s (ainIdx n) 5) v else (roundDiv v 10 : Nat)
          let counted := fun (u : State) => get u (0x3C40 + n / 12) 2 = (get s (0x3C40 + n / 12) 2 + 1) % 2 ^ 64 ∧ ∀ k, k ≠ n → ain u k = ain s k
          (mode = 0 → Completes (.conversion i v1 v2) s fun u => u = s) ∧
            (mode ≠ 0 → ¬bad → Completes (.conversion i v1 v2) s fun u => counted u ∧ serving u .thermistor n = false ∧
              ain u n = rangeNext s n v { a with raw := v1, broken := false, settle := a.discard, discard := false, x := if a.discard then a.x else x } ∧
              (a.discard = false → get u (ainIdx n) 7 = sImg 32 x) ∧ u.md = s.md) ∧
            (bad → serving s .thermistor n = false → a.broken = false → Completes (.conversion i v1 v2) s fun u => counted u ∧
              ain u n = { a with raw := v1, broken := true, settle := false, discard := false } ∧ get u (ainIdx n) 0x0A = min (get s (ainIdx n) 0x0A + 1) 65535 ∧
              serving u .thermistor n = true ∧ u.md = s.md) ∧
            (bad → serving s .thermistor n = true → (loopsOf s n).any (fun k => decide (k < 28)) = true → s.md.mode ∈ operating →
              Completes (.conversion i v1 v2) s fun u => u.md.mode = .safestop ∧ get u 0x2000 5 = 7)) ∧
          (zcAccepted s = false → Completes .zcInEdge s fun u => u = s) ∧
          (zcAccepted s = true → Completes .zcInEdge s fun u => u.pins.zcSeen = some s.time ∧ u.pins.zcLost = false ∧ u.md = s.md ∧
            (∀ t, s.pins.zcSeen = some t → get u 0x3930 3 = (s.time - t) / 1500 % 2 ^ 32) ∧
            (s.pins.zcLost = false → u.loops = s.loops ∧ ∀ z, z < 2 → loopUp s (26 + z) = true → (loop s (26 + z)).broken = false → (loop s (26 + z)).y = 1 →
              s.pins.ilockOpen = false → Output.fuserPulse z (get s 0x3930 4) (get s 0x3930 5) ∈ u.out) ∧
            (s.pins.zcLost = true → serving u .zeroCross 255 = false ∧ ∀ z, z < 2 → loopUp s (26 + z) = true → law s (26 + z) ≠ 0 →
              (loop u (26 + z)).state = 1)) ∧
          (s.pins.zcLost = true → Completes .zeroCrossTimeout s fun u => u = s) ∧
          (s.pins.zcLost = false → servedWithin s .zeroCross 255 (ticksS 10) = false → Completes .zeroCrossTimeout s fun u => u.pins.zcLost = true ∧ u.pins.zcSeen = none ∧
            get u 0x3930 7 = min (get s 0x3930 7 + 1) 65535 ∧ get u (loopIdx 26) 0x36 = 5 ∧ get u (loopIdx 27) 0x36 = 5 ∧ serving u .zeroCross 255 = true ∧
            (∀ z, z < 2 → loopUp s (26 + z) = true → (loop u (26 + z)).y = 0) ∧ u.md = s.md) ∧
          (s.pins.zcLost = false → servedWithin s .zeroCross 255 (ticksS 10) = true → s.md.mode ∈ operating → Completes .zeroCrossTimeout s fun u =>
            u.md.mode = .safestop ∧ get u 0x2000 5 = 7))

/-! ## Pins, umpire, temperature -/

/-- Pins (R535, R547 to R549): by PIN_LOCK and LOCK_ALL the value 0x4C opens a sequence, and 0xB3 from the same accessor within 1 ms locks the pin, or
all of them; a DRIVE_MISMATCH is counted and stands on the pad; by BANK_SUPPLY_CHANGE a bank is good above 90 % of its nominal held for 10 µs, and
no longer below 85 %.
It rests on the model's choices of log 8, 114. -/
def Obligations.PinsChange : Prop :=
  ∀ s : State,
    (∀ (acc : Accessor) (d : List Byte),
        let locks := fun (c : Instr) (p : Nat) =>
          let rest := s.pins.lockSeq.filter fun q => q.1 != acc
          let hit := s.pins.lockSeq.any fun q => q.1 == acc && q.2.1 == p && decide (s.time - q.2.2 ≤ ticksMs 1)
          (ofLe d = 0x4C → Completes c s fun u => Answered acc u ∧ u = { s with pins := { s.pins with lockSeq := (acc, p, s.time) :: rest }, out := u.out }) ∧
            (ofLe d ≠ 0x4C → hit = true → Completes c s fun u => Answered acc u ∧ (∀ k, k < 96 → k = p ∨ p = 96 → k ∈ u.pins.locked) ∧
              (∀ k, k ∈ s.pins.locked → k < 96 → k ∈ u.pins.locked) ∧ (p < 96 → ∀ k ∈ u.pins.locked, k = p ∨ k ∈ s.pins.locked) ∧
              u = { s with pins := { s.pins with lockSeq := rest, locked := u.pins.locked }, out := u.out }) ∧
            (ofLe d ≠ 0x4C → hit = false → Completes c s fun u => Answered acc u ∧ u = { s with pins := { s.pins with lockSeq := rest }, out := u.out })
        (∀ q : Fin 96, Accepted s acc (pinIdx q.val) 7 d → locks (.pinLock acc q d) q.val) ∧
          (Accepted s acc 0x2660 1 d → locks (.lockAll acc d) 96)) ∧
      (∀ (p : Fin 96) (v : Nat), driven s p.val = some v → Completes (.driveMismatch p) s fun u =>
        get u (pinIdx p.val) 0x0B = min (get s (pinIdx p.val) 0x0B + 1) 65535 ∧ KeepsObjects [keyOf (pinIdx p.val) 0x0B] s u ∧
        u = { s with dict := u.dict, pins := { s.pins with mismatched := tabSet s.pins.mismatched p.val (1 - v) } }) ∧
      (∀ p : Fin 96, driven s p.val = none → Completes (.driveMismatch p) s fun u => u = s) ∧
      (∀ mv held : Nat,
        let good := fun (was : Bool) (top low : Nat) => if top < mv then was || decide (10 ≤ held) else if mv < low then false else was
        (Completes (.bankSupplyChange true ⟨mv, held⟩) s fun u => u = { s with pins := { s.pins with bank33 := good s.pins.bank33 2970 2805 } }) ∧
          Completes (.bankSupplyChange false ⟨mv, held⟩) s fun u => u = { s with pins := { s.pins with bank18 := good s.pins.bank18 1620 1530 } })

/-- Supervisor events (R555, R559, R560, R162, R615): the first LOCKSTEP_MISMATCH or WATCHDOG_EXPIRY is kept with its kind, drives the safe outputs,
enters SAFESTOP with cause 0x06 and asks for the umpire's reset; one before that has been served for 600 s is the hold of a double fault;
UMPIRE_RESET is a warm reset with cause 0x06; SAFE_N_MISMATCH_END ends its instance of the cause. It rests on the model's choices of log 8, 79. -/
def Obligations.SupervisorEvents : Prop :=
  ∀ s : State,
    let acts := supervisorRuns s && !s.kick.umpireRestart
    let again := serving s .supervisor 255 || servedWithin s .supervisor 255 (ticksS 600)
    (∀ p ∈ [(Instr.lockstepMismatch, 3), (.watchdogExpiry, 4)],
        (acts = false → Completes p.1 s fun u => u = s) ∧
          (acts = true → again = false → Completes p.1 s fun u => get u 0x2400 9 = p.2 ∧ get u 0x2400 8 = min (get s 0x2400 8 + 1) 65535 ∧ u.pins.safeN = true ∧
            u.kick.umpireRestart = true ∧ serving u .supervisor 255 = true ∧ (∀ m, m < 12 → (motor u m).gatesLow = true) ∧
            (s.md.mode ∈ operating → u.md.mode = .safestop ∧ get u 0x2000 5 = 6)) ∧
          (acts = true → again = true → Completes p.1 s fun u => u.hold = .doubleFault ∧ u.md.mode = .shutdown ∧ u.sheets = [])) ∧
      (s.kick.umpireRestart = false → Completes .umpireReset s fun u => u = s) ∧
      (s.kick.umpireRestart = true → Completes .umpireReset s fun u => u.md.mode = .kickoff ∧ u.md.previous = s.md.mode ∧ get u 0x2000 5 = 6 ∧
        u.pins.safeN = true ∧ u.pins.rstLow = true ∧ u.sheets = [] ∧ u.slots = [] ∧ u.time = s.time ∧
        (anyRailOn s = true → u.seq.state = 3 ∧ u.seq.why = .warmReset)) ∧
      (Completes .safeNMismatchEnd s fun u => u.pins = { s.pins with safeMismatch := false } ∧ (6, 5) ∉ u.log.causes ∧ u.dict = s.dict ∧ u.md = s.md)

/-- The junction temperature (R308, R563, R593 to R598): a TJ_SAMPLE is the highest of the sensors; from 150 °C on cause 0x09 persists; above 140 °C
admission is slowed, below 138 °C no longer; 155 °C is a SAFETY event and SAFESTOP, or the end of kick-off; THERMAL_SHUTDOWN puts every rail off
until PORST_N, in another hold state too. It rests on the model's choices of log 8, 78, 160. -/
def Obligations.HeatActs : Prop :=
  ∀ s : State,
    (∀ sensors : List Int,
      let v := sensors.foldl max (sensors.getD 0 0)
      let c := Instr.tjSample sensors
      (supervisorRuns s = false → Completes c s fun u => u = s) ∧
        (supervisorRuns s = true → v < 1550 ∨ 1550 ≤ tj s → Completes c s fun u =>
          get u 0x7010 1 = sImg 16 v ∧ (∀ k, k < 8 → get u 0x7010 (2 + k) = sImg 16 (sensors.getD k 0)) ∧
          get u 0x7010 0x0A = sImg 16 (max (getS s 16 0x7010 0x0A) v) ∧ u.mem.doubled = (if 1400 < v then true else if v < 1380 then false else s.mem.doubled) ∧
          tabGet 0 u.heatTicks (heatBand (tj s)) = tabGet 0 s.heatTicks (heatBand (tj s)) + (s.time - s.heatFrom) ∧ u.heatFrom = s.time ∧
          (1500 ≤ v → (9, 0) ∈ u.log.causes) ∧ (v < 1500 → (9, 0) ∉ u.log.causes) ∧ u.md = s.md ∧ u.sheets = s.sheets) ∧
        (supervisorRuns s = true → 1550 ≤ v → tj s < 1550 →
          (s.md.mode ∈ operating → Completes c s fun u => u.md.mode = .safestop ∧ get u 0x2000 5 = 9 ∧ get u 0x2400 9 = 2 ∧ (9, 0) ∈ u.log.causes) ∧
          (s.md.mode = .kickoff → s.kick.failed = none → Completes c s fun u => u.kick.failed = some 0x0A ∧ get u 0x2030 3 = 0x0A ∧ u.md = s.md))) ∧
      (s.powered = false ∨ s.hold = .thermal → Completes .thermalShutdown s fun u => u = s) ∧
      (s.powered = true → s.hold ≠ .thermal → Completes .thermalShutdown s fun u => u.hold = .thermal ∧ u.md.mode = .shutdown ∧
        u.pins.safeN = true ∧ u.pins.rstLow = true ∧ (∀ r, r < 16 → (rail u r).en = false) ∧ u.sheets = [] ∧
        get u 0x7010 0x0C = min (get s 0x7010 0x0C + 1) 65535)
end

