-- ==== Sys2Proof/Laws/Tab.lean ====
section
/-! SUPPORT. Laws of numbered collections: reading after setting, and the rising order of the numbers. -/

namespace Sys2Proof.Machine

variable {α : Type}

@[simp] theorem tabFind_nil (n : Nat) : tabFind ([] : Tab α) n = none := rfl

/-- Reading the entry just set. -/
@[simp] theorem tabFind_tabSet_same (t : Tab α) (n : Nat) (v : α) : tabFind (tabSet t n v) n = some v := by
  induction t with
  | nil => simp [tabSet, tabFind]
  | cons p r ih =>
    obtain ⟨k, w⟩ := p
    simp only [tabSet]
    split
    · simp [tabFind]
    · split
      · simp [tabFind]
      · next h => simp [tabFind, ih, Ne.symm h]

/-- Setting an entry leaves every other one. -/
theorem tabFind_tabSet_other (t : Tab α) {n m : Nat} (v : α) (h : m ≠ n) : tabFind (tabSet t n v) m = tabFind t m := by
  induction t with
  | nil => simp [tabSet, tabFind, Ne.symm h]
  | cons p r ih =>
    obtain ⟨k, w⟩ := p
    simp only [tabSet]
    split
    · simp [tabFind, Ne.symm h]
    · split
      · next hk => simp [tabFind, ← hk, Ne.symm h]
      · simp [tabFind, ih]

/-- Reading after setting, by the two numbers. -/
theorem tabFind_tabSet (t : Tab α) (n m : Nat) (v : α) : tabFind (tabSet t n v) m = if m = n then some v else tabFind t m := by
  split
  · next h => subst h; simp
  · next h => exact tabFind_tabSet_other t v h

@[simp] theorem tabGet_tabSet_same (d : α) (t : Tab α) (n : Nat) (v : α) : tabGet d (tabSet t n v) n = v := by simp [tabGet]

theorem tabGet_tabSet_other (d : α) (t : Tab α) {n m : Nat} (v : α) (h : m ≠ n) : tabGet d (tabSet t n v) m = tabGet d t m := by
  simp [tabGet, tabFind_tabSet_other t v h]

theorem tabGet_tabSet (d : α) (t : Tab α) (n m : Nat) (v : α) : tabGet d (tabSet t n v) m = if m = n then v else tabGet d t m := by
  simp only [tabGet, tabFind_tabSet]
  split <;> rfl

@[simp] theorem tabGet_tabMod_same (d : α) (t : Tab α) (n : Nat) (f : α → α) : tabGet d (tabMod d t n f) n = f (tabGet d t n) := by
  simp [tabMod]

theorem tabGet_tabMod_other (d : α) (t : Tab α) {n m : Nat} (f : α → α) (h : m ≠ n) : tabGet d (tabMod d t n f) m = tabGet d t m := by
  simp [tabMod, tabGet_tabSet_other d t _ h]

theorem tabGet_tabMod (d : α) (t : Tab α) (n m : Nat) (f : α → α) :
    tabGet d (tabMod d t n f) m = if m = n then f (tabGet d t n) else tabGet d t m := by
  simp [tabMod, tabGet_tabSet]

/-- Setting an entry keeps the numbers strictly rising. -/
theorem tabSorted_tabSet (t : Tab α) (n : Nat) (v : α) (h : tabSorted t = true) : tabSorted (tabSet t n v) = true := by
  induction t with
  | nil => simp [tabSet, tabSorted]
  | cons p r ih =>
    obtain ⟨k, w⟩ := p
    cases r with
    | nil =>
      simp only [tabSet]
      split
      · next hk => simp [tabSorted, hk]
      · split
        · simp [tabSorted]
        · next h1 h2 => simp [tabSorted]; omega
    | cons q r =>
      obtain ⟨m, x⟩ := q
      simp only [tabSorted, Bool.and_eq_true, decide_eq_true_eq] at h
      have ih := ih h.2
      rw [tabSet]
      split
      · next hk => simp [tabSorted, hk, h]
      · split
        · next h1 h2 => subst h2; simp [tabSorted, h]
        · next h1 h2 =>
          rw [tabSet] at ih ⊢
          split
          · next h3 => simp [tabSorted, h, h3]; omega
          · next h3 =>
            split
            · next h4 =>
              subst h4
              rw [if_neg h3, if_pos rfl] at ih
              simp [tabSorted, ih, h]
            · next h4 =>
              rw [if_neg h3, if_neg h4] at ih
              simp [tabSorted, ih, h]

end Sys2Proof.Machine
end

