-- ==== Sys2Proof/Laws/State.lean ====
section
/-! SUPPORT. One lemma per field per update of the state: what each named update leaves, and what it reads as. -/

namespace Sys2Proof.Machine

/-! ## put -/

@[simp] theorem put_time (s : State) (i j v : Nat) : (put s i j v).time = s.time := (rfl)
@[simp] theorem put_powered (s : State) (i j v : Nat) : (put s i j v).powered = s.powered := (rfl)
@[simp] theorem put_md (s : State) (i j v : Nat) : (put s i j v).md = s.md := (rfl)
@[simp] theorem put_kick (s : State) (i j v : Nat) : (put s i j v).kick = s.kick := (rfl)
@[simp] theorem put_hold (s : State) (i j v : Nat) : (put s i j v).hold = s.hold := (rfl)
@[simp] theorem put_reset (s : State) (i j v : Nat) : (put s i j v).reset_ = s.reset_ := (rfl)
@[simp] theorem put_seq (s : State) (i j v : Nat) : (put s i j v).seq = s.seq := (rfl)
@[simp] theorem put_rails (s : State) (i j v : Nat) : (put s i j v).rails = s.rails := (rfl)
@[simp] theorem put_clk (s : State) (i j v : Nat) : (put s i j v).clk = s.clk := (rfl)
@[simp] theorem put_net (s : State) (i j v : Nat) : (put s i j v).net = s.net := (rfl)
@[simp] theorem put_flash (s : State) (i j v : Nat) : (put s i j v).flash = s.flash := (rfl)
@[simp] theorem put_blobs (s : State) (i j v : Nat) : (put s i j v).blobs = s.blobs := (rfl)
@[simp] theorem put_staged (s : State) (i j v : Nat) : (put s i j v).staged = s.staged := (rfl)
@[simp] theorem put_stagedBlobs (s : State) (i j v : Nat) : (put s i j v).stagedBlobs = s.stagedBlobs := (rfl)
@[simp] theorem put_stagers (s : State) (i j v : Nat) : (put s i j v).stagers = s.stagers := (rfl)
@[simp] theorem put_armed (s : State) (i j v : Nat) : (put s i j v).armed = s.armed := (rfl)
@[simp] theorem put_accs (s : State) (i j v : Nat) : (put s i j v).accs = s.accs := (rfl)
@[simp] theorem put_sheets (s : State) (i j v : Nat) : (put s i j v).sheets = s.sheets := (rfl)
@[simp] theorem put_nextUid (s : State) (i j v : Nat) : (put s i j v).nextUid = s.nextUid := (rfl)
@[simp] theorem put_tenants (s : State) (i j v : Nat) : (put s i j v).tenants = s.tenants := (rfl)
@[simp] theorem put_coalescing (s : State) (i j v : Nat) : (put s i j v).coalescing = s.coalescing := (rfl)
@[simp] theorem put_mem (s : State) (i j v : Nat) : (put s i j v).mem = s.mem := (rfl)
@[simp] theorem put_stations (s : State) (i j v : Nat) : (put s i j v).stations = s.stations := (rfl)
@[simp] theorem put_trackers (s : State) (i j v : Nat) : (put s i j v).trackers = s.trackers := (rfl)
@[simp] theorem put_slots (s : State) (i j v : Nat) : (put s i j v).slots = s.slots := (rfl)
@[simp] theorem put_motors (s : State) (i j v : Nat) : (put s i j v).motors = s.motors := (rfl)
@[simp] theorem put_axes (s : State) (i j v : Nat) : (put s i j v).axes = s.axes := (rfl)
@[simp] theorem put_loops (s : State) (i j v : Nat) : (put s i j v).loops = s.loops := (rfl)
@[simp] theorem put_ains (s : State) (i j v : Nat) : (put s i j v).ains = s.ains := (rfl)
@[simp] theorem put_pins (s : State) (i j v : Nat) : (put s i j v).pins = s.pins := (rfl)
@[simp] theorem put_diag (s : State) (i j v : Nat) : (put s i j v).diag = s.diag := (rfl)
@[simp] theorem put_log (s : State) (i j v : Nat) : (put s i j v).log = s.log := (rfl)
@[simp] theorem put_heatTicks (s : State) (i j v : Nat) : (put s i j v).heatTicks = s.heatTicks := (rfl)
@[simp] theorem put_heatFrom (s : State) (i j v : Nat) : (put s i j v).heatFrom = s.heatFrom := (rfl)
@[simp] theorem put_out (s : State) (i j v : Nat) : (put s i j v).out = s.out := (rfl)
@[simp] theorem put_fresh (s : State) (i j v : Nat) : (put s i j v).fresh = s.fresh := (rfl)
@[simp] theorem put_pending (s : State) (i j v : Nat) : (put s i j v).pending = s.pending := (rfl)

/-! ## putBlob -/

@[simp] theorem putBlob_time (s : State) (i j : Nat) (l : List Byte) : (putBlob s i j l).time = s.time := (rfl)
@[simp] theorem putBlob_powered (s : State) (i j : Nat) (l : List Byte) : (putBlob s i j l).powered = s.powered := (rfl)
@[simp] theorem putBlob_md (s : State) (i j : Nat) (l : List Byte) : (putBlob s i j l).md = s.md := (rfl)
@[simp] theorem putBlob_kick (s : State) (i j : Nat) (l : List Byte) : (putBlob s i j l).kick = s.kick := (rfl)
@[simp] theorem putBlob_hold (s : State) (i j : Nat) (l : List Byte) : (putBlob s i j l).hold = s.hold := (rfl)
@[simp] theorem putBlob_reset (s : State) (i j : Nat) (l : List Byte) : (putBlob s i j l).reset_ = s.reset_ := (rfl)
@[simp] theorem putBlob_seq (s : State) (i j : Nat) (l : List Byte) : (putBlob s i j l).seq = s.seq := (rfl)
@[simp] theorem putBlob_rails (s : State) (i j : Nat) (l : List Byte) : (putBlob s i j l).rails = s.rails := (rfl)
@[simp] theorem putBlob_clk (s : State) (i j : Nat) (l : List Byte) : (putBlob s i j l).clk = s.clk := (rfl)
@[simp] theorem putBlob_net (s : State) (i j : Nat) (l : List Byte) : (putBlob s i j l).net = s.net := (rfl)
@[simp] theorem putBlob_flash (s : State) (i j : Nat) (l : List Byte) : (putBlob s i j l).flash = s.flash := (rfl)
@[simp] theorem putBlob_dict (s : State) (i j : Nat) (l : List Byte) : (putBlob s i j l).dict = s.dict := (rfl)
@[simp] theorem putBlob_staged (s : State) (i j : Nat) (l : List Byte) : (putBlob s i j l).staged = s.staged := (rfl)
@[simp] theorem putBlob_stagedBlobs (s : State) (i j : Nat) (l : List Byte) : (putBlob s i j l).stagedBlobs = s.stagedBlobs := (rfl)
@[simp] theorem putBlob_stagers (s : State) (i j : Nat) (l : List Byte) : (putBlob s i j l).stagers = s.stagers := (rfl)
@[simp] theorem putBlob_armed (s : State) (i j : Nat) (l : List Byte) : (putBlob s i j l).armed = s.armed := (rfl)
@[simp] theorem putBlob_accs (s : State) (i j : Nat) (l : List Byte) : (putBlob s i j l).accs = s.accs := (rfl)
@[simp] theorem putBlob_sheets (s : State) (i j : Nat) (l : List Byte) : (putBlob s i j l).sheets = s.sheets := (rfl)
@[simp] theorem putBlob_nextUid (s : State) (i j : Nat) (l : List Byte) : (putBlob s i j l).nextUid = s.nextUid := (rfl)
@[simp] theorem putBlob_tenants (s : State) (i j : Nat) (l : List Byte) : (putBlob s i j l).tenants = s.tenants := (rfl)
@[simp] theorem putBlob_coalescing (s : State) (i j : Nat) (l : List Byte) : (putBlob s i j l).coalescing = s.coalescing := (rfl)
@[simp] theorem putBlob_mem (s : State) (i j : Nat) (l : List Byte) : (putBlob s i j l).mem = s.mem := (rfl)
@[simp] theorem putBlob_stations (s : State) (i j : Nat) (l : List Byte) : (putBlob s i j l).stations = s.stations := (rfl)
@[simp] theorem putBlob_trackers (s : State) (i j : Nat) (l : List Byte) : (putBlob s i j l).trackers = s.trackers := (rfl)
@[simp] theorem putBlob_slots (s : State) (i j : Nat) (l : List Byte) : (putBlob s i j l).slots = s.slots := (rfl)
@[simp] theorem putBlob_motors (s : State) (i j : Nat) (l : List Byte) : (putBlob s i j l).motors = s.motors := (rfl)
@[simp] theorem putBlob_axes (s : State) (i j : Nat) (l : List Byte) : (putBlob s i j l).axes = s.axes := (rfl)
@[simp] theorem putBlob_loops (s : State) (i j : Nat) (l : List Byte) : (putBlob s i j l).loops = s.loops := (rfl)
@[simp] theorem putBlob_ains (s : State) (i j : Nat) (l : List Byte) : (putBlob s i j l).ains = s.ains := (rfl)
@[simp] theorem putBlob_pins (s : State) (i j : Nat) (l : List Byte) : (putBlob s i j l).pins = s.pins := (rfl)
@[simp] theorem putBlob_diag (s : State) (i j : Nat) (l : List Byte) : (putBlob s i j l).diag = s.diag := (rfl)
@[simp] theorem putBlob_log (s : State) (i j : Nat) (l : List Byte) : (putBlob s i j l).log = s.log := (rfl)
@[simp] theorem putBlob_heatTicks (s : State) (i j : Nat) (l : List Byte) : (putBlob s i j l).heatTicks = s.heatTicks := (rfl)
@[simp] theorem putBlob_heatFrom (s : State) (i j : Nat) (l : List Byte) : (putBlob s i j l).heatFrom = s.heatFrom := (rfl)
@[simp] theorem putBlob_out (s : State) (i j : Nat) (l : List Byte) : (putBlob s i j l).out = s.out := (rfl)
@[simp] theorem putBlob_fresh (s : State) (i j : Nat) (l : List Byte) : (putBlob s i j l).fresh = s.fresh := (rfl)
@[simp] theorem putBlob_pending (s : State) (i j : Nat) (l : List Byte) : (putBlob s i j l).pending = s.pending := (rfl)

/-! ## putLog -/

@[simp] theorem putLog_time (s : State) (i j v : Nat) : (putLog s i j v).time = s.time := (rfl)
@[simp] theorem putLog_powered (s : State) (i j v : Nat) : (putLog s i j v).powered = s.powered := (rfl)
@[simp] theorem putLog_md (s : State) (i j v : Nat) : (putLog s i j v).md = s.md := (rfl)
@[simp] theorem putLog_kick (s : State) (i j v : Nat) : (putLog s i j v).kick = s.kick := (rfl)
@[simp] theorem putLog_hold (s : State) (i j v : Nat) : (putLog s i j v).hold = s.hold := (rfl)
@[simp] theorem putLog_reset (s : State) (i j v : Nat) : (putLog s i j v).reset_ = s.reset_ := (rfl)
@[simp] theorem putLog_seq (s : State) (i j v : Nat) : (putLog s i j v).seq = s.seq := (rfl)
@[simp] theorem putLog_rails (s : State) (i j v : Nat) : (putLog s i j v).rails = s.rails := (rfl)
@[simp] theorem putLog_clk (s : State) (i j v : Nat) : (putLog s i j v).clk = s.clk := (rfl)
@[simp] theorem putLog_net (s : State) (i j v : Nat) : (putLog s i j v).net = s.net := (rfl)
@[simp] theorem putLog_flash (s : State) (i j v : Nat) : (putLog s i j v).flash = s.flash := (rfl)
@[simp] theorem putLog_dict (s : State) (i j v : Nat) : (putLog s i j v).dict = s.dict := (rfl)
@[simp] theorem putLog_blobs (s : State) (i j v : Nat) : (putLog s i j v).blobs = s.blobs := (rfl)
@[simp] theorem putLog_staged (s : State) (i j v : Nat) : (putLog s i j v).staged = s.staged := (rfl)
@[simp] theorem putLog_stagedBlobs (s : State) (i j v : Nat) : (putLog s i j v).stagedBlobs = s.stagedBlobs := (rfl)
@[simp] theorem putLog_stagers (s : State) (i j v : Nat) : (putLog s i j v).stagers = s.stagers := (rfl)
@[simp] theorem putLog_armed (s : State) (i j v : Nat) : (putLog s i j v).armed = s.armed := (rfl)
@[simp] theorem putLog_accs (s : State) (i j v : Nat) : (putLog s i j v).accs = s.accs := (rfl)
@[simp] theorem putLog_sheets (s : State) (i j v : Nat) : (putLog s i j v).sheets = s.sheets := (rfl)
@[simp] theorem putLog_nextUid (s : State) (i j v : Nat) : (putLog s i j v).nextUid = s.nextUid := (rfl)
@[simp] theorem putLog_tenants (s : State) (i j v : Nat) : (putLog s i j v).tenants = s.tenants := (rfl)
@[simp] theorem putLog_coalescing (s : State) (i j v : Nat) : (putLog s i j v).coalescing = s.coalescing := (rfl)
@[simp] theorem putLog_mem (s : State) (i j v : Nat) : (putLog s i j v).mem = s.mem := (rfl)
@[simp] theorem putLog_stations (s : State) (i j v : Nat) : (putLog s i j v).stations = s.stations := (rfl)
@[simp] theorem putLog_trackers (s : State) (i j v : Nat) : (putLog s i j v).trackers = s.trackers := (rfl)
@[simp] theorem putLog_slots (s : State) (i j v : Nat) : (putLog s i j v).slots = s.slots := (rfl)
@[simp] theorem putLog_motors (s : State) (i j v : Nat) : (putLog s i j v).motors = s.motors := (rfl)
@[simp] theorem putLog_axes (s : State) (i j v : Nat) : (putLog s i j v).axes = s.axes := (rfl)
@[simp] theorem putLog_loops (s : State) (i j v : Nat) : (putLog s i j v).loops = s.loops := (rfl)
@[simp] theorem putLog_ains (s : State) (i j v : Nat) : (putLog s i j v).ains = s.ains := (rfl)
@[simp] theorem putLog_pins (s : State) (i j v : Nat) : (putLog s i j v).pins = s.pins := (rfl)
@[simp] theorem putLog_diag (s : State) (i j v : Nat) : (putLog s i j v).diag = s.diag := (rfl)
@[simp] theorem putLog_heatTicks (s : State) (i j v : Nat) : (putLog s i j v).heatTicks = s.heatTicks := (rfl)
@[simp] theorem putLog_heatFrom (s : State) (i j v : Nat) : (putLog s i j v).heatFrom = s.heatFrom := (rfl)
@[simp] theorem putLog_out (s : State) (i j v : Nat) : (putLog s i j v).out = s.out := (rfl)
@[simp] theorem putLog_fresh (s : State) (i j v : Nat) : (putLog s i j v).fresh = s.fresh := (rfl)
@[simp] theorem putLog_pending (s : State) (i j v : Nat) : (putLog s i j v).pending = s.pending := (rfl)

/-! ## emit -/

@[simp] theorem emit_time (s : State) (o : Output) : (emit s o).time = s.time := (rfl)
@[simp] theorem emit_powered (s : State) (o : Output) : (emit s o).powered = s.powered := (rfl)
@[simp] theorem emit_md (s : State) (o : Output) : (emit s o).md = s.md := (rfl)
@[simp] theorem emit_kick (s : State) (o : Output) : (emit s o).kick = s.kick := (rfl)
@[simp] theorem emit_hold (s : State) (o : Output) : (emit s o).hold = s.hold := (rfl)
@[simp] theorem emit_reset (s : State) (o : Output) : (emit s o).reset_ = s.reset_ := (rfl)
@[simp] theorem emit_seq (s : State) (o : Output) : (emit s o).seq = s.seq := (rfl)
@[simp] theorem emit_rails (s : State) (o : Output) : (emit s o).rails = s.rails := (rfl)
@[simp] theorem emit_clk (s : State) (o : Output) : (emit s o).clk = s.clk := (rfl)
@[simp] theorem emit_net (s : State) (o : Output) : (emit s o).net = s.net := (rfl)
@[simp] theorem emit_flash (s : State) (o : Output) : (emit s o).flash = s.flash := (rfl)
@[simp] theorem emit_dict (s : State) (o : Output) : (emit s o).dict = s.dict := (rfl)
@[simp] theorem emit_blobs (s : State) (o : Output) : (emit s o).blobs = s.blobs := (rfl)
@[simp] theorem emit_staged (s : State) (o : Output) : (emit s o).staged = s.staged := (rfl)
@[simp] theorem emit_stagedBlobs (s : State) (o : Output) : (emit s o).stagedBlobs = s.stagedBlobs := (rfl)
@[simp] theorem emit_stagers (s : State) (o : Output) : (emit s o).stagers = s.stagers := (rfl)
@[simp] theorem emit_armed (s : State) (o : Output) : (emit s o).armed = s.armed := (rfl)
@[simp] theorem emit_accs (s : State) (o : Output) : (emit s o).accs = s.accs := (rfl)
@[simp] theorem emit_sheets (s : State) (o : Output) : (emit s o).sheets = s.sheets := (rfl)
@[simp] theorem emit_nextUid (s : State) (o : Output) : (emit s o).nextUid = s.nextUid := (rfl)
@[simp] theorem emit_tenants (s : State) (o : Output) : (emit s o).tenants = s.tenants := (rfl)
@[simp] theorem emit_coalescing (s : State) (o : Output) : (emit s o).coalescing = s.coalescing := (rfl)
@[simp] theorem emit_mem (s : State) (o : Output) : (emit s o).mem = s.mem := (rfl)
@[simp] theorem emit_stations (s : State) (o : Output) : (emit s o).stations = s.stations := (rfl)
@[simp] theorem emit_trackers (s : State) (o : Output) : (emit s o).trackers = s.trackers := (rfl)
@[simp] theorem emit_slots (s : State) (o : Output) : (emit s o).slots = s.slots := (rfl)
@[simp] theorem emit_motors (s : State) (o : Output) : (emit s o).motors = s.motors := (rfl)
@[simp] theorem emit_axes (s : State) (o : Output) : (emit s o).axes = s.axes := (rfl)
@[simp] theorem emit_loops (s : State) (o : Output) : (emit s o).loops = s.loops := (rfl)
@[simp] theorem emit_ains (s : State) (o : Output) : (emit s o).ains = s.ains := (rfl)
@[simp] theorem emit_pins (s : State) (o : Output) : (emit s o).pins = s.pins := (rfl)
@[simp] theorem emit_diag (s : State) (o : Output) : (emit s o).diag = s.diag := (rfl)
@[simp] theorem emit_log (s : State) (o : Output) : (emit s o).log = s.log := (rfl)
@[simp] theorem emit_heatTicks (s : State) (o : Output) : (emit s o).heatTicks = s.heatTicks := (rfl)
@[simp] theorem emit_heatFrom (s : State) (o : Output) : (emit s o).heatFrom = s.heatFrom := (rfl)
@[simp] theorem emit_fresh (s : State) (o : Output) : (emit s o).fresh = s.fresh := (rfl)
@[simp] theorem emit_pending (s : State) (o : Output) : (emit s o).pending = s.pending := (rfl)

/-! ## emitAll -/

@[simp] theorem emitAll_time (s : State) (l : List Output) : (emitAll s l).time = s.time := (rfl)
@[simp] theorem emitAll_powered (s : State) (l : List Output) : (emitAll s l).powered = s.powered := (rfl)
@[simp] theorem emitAll_md (s : State) (l : List Output) : (emitAll s l).md = s.md := (rfl)
@[simp] theorem emitAll_kick (s : State) (l : List Output) : (emitAll s l).kick = s.kick := (rfl)
@[simp] theorem emitAll_hold (s : State) (l : List Output) : (emitAll s l).hold = s.hold := (rfl)
@[simp] theorem emitAll_reset (s : State) (l : List Output) : (emitAll s l).reset_ = s.reset_ := (rfl)
@[simp] theorem emitAll_seq (s : State) (l : List Output) : (emitAll s l).seq = s.seq := (rfl)
@[simp] theorem emitAll_rails (s : State) (l : List Output) : (emitAll s l).rails = s.rails := (rfl)
@[simp] theorem emitAll_clk (s : State) (l : List Output) : (emitAll s l).clk = s.clk := (rfl)
@[simp] theorem emitAll_net (s : State) (l : List Output) : (emitAll s l).net = s.net := (rfl)
@[simp] theorem emitAll_flash (s : State) (l : List Output) : (emitAll s l).flash = s.flash := (rfl)
@[simp] theorem emitAll_dict (s : State) (l : List Output) : (emitAll s l).dict = s.dict := (rfl)
@[simp] theorem emitAll_blobs (s : State) (l : List Output) : (emitAll s l).blobs = s.blobs := (rfl)
@[simp] theorem emitAll_staged (s : State) (l : List Output) : (emitAll s l).staged = s.staged := (rfl)
@[simp] theorem emitAll_stagedBlobs (s : State) (l : List Output) : (emitAll s l).stagedBlobs = s.stagedBlobs := (rfl)
@[simp] theorem emitAll_stagers (s : State) (l : List Output) : (emitAll s l).stagers = s.stagers := (rfl)
@[simp] theorem emitAll_armed (s : State) (l : List Output) : (emitAll s l).armed = s.armed := (rfl)
@[simp] theorem emitAll_accs (s : State) (l : List Output) : (emitAll s l).accs = s.accs := (rfl)
@[simp] theorem emitAll_sheets (s : State) (l : List Output) : (emitAll s l).sheets = s.sheets := (rfl)
@[simp] theorem emitAll_nextUid (s : State) (l : List Output) : (emitAll s l).nextUid = s.nextUid := (rfl)
@[simp] theorem emitAll_tenants (s : State) (l : List Output) : (emitAll s l).tenants = s.tenants := (rfl)
@[simp] theorem emitAll_coalescing (s : State) (l : List Output) : (emitAll s l).coalescing = s.coalescing := (rfl)
@[simp] theorem emitAll_mem (s : State) (l : List Output) : (emitAll s l).mem = s.mem := (rfl)
@[simp] theorem emitAll_stations (s : State) (l : List Output) : (emitAll s l).stations = s.stations := (rfl)
@[simp] theorem emitAll_trackers (s : State) (l : List Output) : (emitAll s l).trackers = s.trackers := (rfl)
@[simp] theorem emitAll_slots (s : State) (l : List Output) : (emitAll s l).slots = s.slots := (rfl)
@[simp] theorem emitAll_motors (s : State) (l : List Output) : (emitAll s l).motors = s.motors := (rfl)
@[simp] theorem emitAll_axes (s : State) (l : List Output) : (emitAll s l).axes = s.axes := (rfl)
@[simp] theorem emitAll_loops (s : State) (l : List Output) : (emitAll s l).loops = s.loops := (rfl)
@[simp] theorem emitAll_ains (s : State) (l : List Output) : (emitAll s l).ains = s.ains := (rfl)
@[simp] theorem emitAll_pins (s : State) (l : List Output) : (emitAll s l).pins = s.pins := (rfl)
@[simp] theorem emitAll_diag (s : State) (l : List Output) : (emitAll s l).diag = s.diag := (rfl)
@[simp] theorem emitAll_log (s : State) (l : List Output) : (emitAll s l).log = s.log := (rfl)
@[simp] theorem emitAll_heatTicks (s : State) (l : List Output) : (emitAll s l).heatTicks = s.heatTicks := (rfl)
@[simp] theorem emitAll_heatFrom (s : State) (l : List Output) : (emitAll s l).heatFrom = s.heatFrom := (rfl)
@[simp] theorem emitAll_fresh (s : State) (l : List Output) : (emitAll s l).fresh = s.fresh := (rfl)
@[simp] theorem emitAll_pending (s : State) (l : List Output) : (emitAll s l).pending = s.pending := (rfl)

/-! ## modSheet -/

@[simp] theorem modSheet_time (s : State) (u : Nat) (f : Sheet → Sheet) : (modSheet s u f).time = s.time := (rfl)
@[simp] theorem modSheet_powered (s : State) (u : Nat) (f : Sheet → Sheet) : (modSheet s u f).powered = s.powered := (rfl)
@[simp] theorem modSheet_md (s : State) (u : Nat) (f : Sheet → Sheet) : (modSheet s u f).md = s.md := (rfl)
@[simp] theorem modSheet_kick (s : State) (u : Nat) (f : Sheet → Sheet) : (modSheet s u f).kick = s.kick := (rfl)
@[simp] theorem modSheet_hold (s : State) (u : Nat) (f : Sheet → Sheet) : (modSheet s u f).hold = s.hold := (rfl)
@[simp] theorem modSheet_reset (s : State) (u : Nat) (f : Sheet → Sheet) : (modSheet s u f).reset_ = s.reset_ := (rfl)
@[simp] theorem modSheet_seq (s : State) (u : Nat) (f : Sheet → Sheet) : (modSheet s u f).seq = s.seq := (rfl)
@[simp] theorem modSheet_rails (s : State) (u : Nat) (f : Sheet → Sheet) : (modSheet s u f).rails = s.rails := (rfl)
@[simp] theorem modSheet_clk (s : State) (u : Nat) (f : Sheet → Sheet) : (modSheet s u f).clk = s.clk := (rfl)
@[simp] theorem modSheet_net (s : State) (u : Nat) (f : Sheet → Sheet) : (modSheet s u f).net = s.net := (rfl)
@[simp] theorem modSheet_flash (s : State) (u : Nat) (f : Sheet → Sheet) : (modSheet s u f).flash = s.flash := (rfl)
@[simp] theorem modSheet_dict (s : State) (u : Nat) (f : Sheet → Sheet) : (modSheet s u f).dict = s.dict := (rfl)
@[simp] theorem modSheet_blobs (s : State) (u : Nat) (f : Sheet → Sheet) : (modSheet s u f).blobs = s.blobs := (rfl)
@[simp] theorem modSheet_staged (s : State) (u : Nat) (f : Sheet → Sheet) : (modSheet s u f).staged = s.staged := (rfl)
@[simp] theorem modSheet_stagedBlobs (s : State) (u : Nat) (f : Sheet → Sheet) : (modSheet s u f).stagedBlobs = s.stagedBlobs := (rfl)
@[simp] theorem modSheet_stagers (s : State) (u : Nat) (f : Sheet → Sheet) : (modSheet s u f).stagers = s.stagers := (rfl)
@[simp] theorem modSheet_armed (s : State) (u : Nat) (f : Sheet → Sheet) : (modSheet s u f).armed = s.armed := (rfl)
@[simp] theorem modSheet_accs (s : State) (u : Nat) (f : Sheet → Sheet) : (modSheet s u f).accs = s.accs := (rfl)
@[simp] theorem modSheet_nextUid (s : State) (u : Nat) (f : Sheet → Sheet) : (modSheet s u f).nextUid = s.nextUid := (rfl)
@[simp] theorem modSheet_tenants (s : State) (u : Nat) (f : Sheet → Sheet) : (modSheet s u f).tenants = s.tenants := (rfl)
@[simp] theorem modSheet_coalescing (s : State) (u : Nat) (f : Sheet → Sheet) : (modSheet s u f).coalescing = s.coalescing := (rfl)
@[simp] theorem modSheet_mem (s : State) (u : Nat) (f : Sheet → Sheet) : (modSheet s u f).mem = s.mem := (rfl)
@[simp] theorem modSheet_stations (s : State) (u : Nat) (f : Sheet → Sheet) : (modSheet s u f).stations = s.stations := (rfl)
@[simp] theorem modSheet_trackers (s : State) (u : Nat) (f : Sheet → Sheet) : (modSheet s u f).trackers = s.trackers := (rfl)
@[simp] theorem modSheet_slots (s : State) (u : Nat) (f : Sheet → Sheet) : (modSheet s u f).slots = s.slots := (rfl)
@[simp] theorem modSheet_motors (s : State) (u : Nat) (f : Sheet → Sheet) : (modSheet s u f).motors = s.motors := (rfl)
@[simp] theorem modSheet_axes (s : State) (u : Nat) (f : Sheet → Sheet) : (modSheet s u f).axes = s.axes := (rfl)
@[simp] theorem modSheet_loops (s : State) (u : Nat) (f : Sheet → Sheet) : (modSheet s u f).loops = s.loops := (rfl)
@[simp] theorem modSheet_ains (s : State) (u : Nat) (f : Sheet → Sheet) : (modSheet s u f).ains = s.ains := (rfl)
@[simp] theorem modSheet_pins (s : State) (u : Nat) (f : Sheet → Sheet) : (modSheet s u f).pins = s.pins := (rfl)
@[simp] theorem modSheet_diag (s : State) (u : Nat) (f : Sheet → Sheet) : (modSheet s u f).diag = s.diag := (rfl)
@[simp] theorem modSheet_log (s : State) (u : Nat) (f : Sheet → Sheet) : (modSheet s u f).log = s.log := (rfl)
@[simp] theorem modSheet_heatTicks (s : State) (u : Nat) (f : Sheet → Sheet) : (modSheet s u f).heatTicks = s.heatTicks := (rfl)
@[simp] theorem modSheet_heatFrom (s : State) (u : Nat) (f : Sheet → Sheet) : (modSheet s u f).heatFrom = s.heatFrom := (rfl)
@[simp] theorem modSheet_out (s : State) (u : Nat) (f : Sheet → Sheet) : (modSheet s u f).out = s.out := (rfl)
@[simp] theorem modSheet_fresh (s : State) (u : Nat) (f : Sheet → Sheet) : (modSheet s u f).fresh = s.fresh := (rfl)
@[simp] theorem modSheet_pending (s : State) (u : Nat) (f : Sheet → Sheet) : (modSheet s u f).pending = s.pending := (rfl)

/-! ## setRail -/

@[simp] theorem setRail_time (s : State) (n : Nat) (f : Rail → Rail) : (setRail s n f).time = s.time := (rfl)
@[simp] theorem setRail_powered (s : State) (n : Nat) (f : Rail → Rail) : (setRail s n f).powered = s.powered := (rfl)
@[simp] theorem setRail_md (s : State) (n : Nat) (f : Rail → Rail) : (setRail s n f).md = s.md := (rfl)
@[simp] theorem setRail_kick (s : State) (n : Nat) (f : Rail → Rail) : (setRail s n f).kick = s.kick := (rfl)
@[simp] theorem setRail_hold (s : State) (n : Nat) (f : Rail → Rail) : (setRail s n f).hold = s.hold := (rfl)
@[simp] theorem setRail_reset (s : State) (n : Nat) (f : Rail → Rail) : (setRail s n f).reset_ = s.reset_ := (rfl)
@[simp] theorem setRail_seq (s : State) (n : Nat) (f : Rail → Rail) : (setRail s n f).seq = s.seq := (rfl)
@[simp] theorem setRail_clk (s : State) (n : Nat) (f : Rail → Rail) : (setRail s n f).clk = s.clk := (rfl)
@[simp] theorem setRail_net (s : State) (n : Nat) (f : Rail → Rail) : (setRail s n f).net = s.net := (rfl)
@[simp] theorem setRail_flash (s : State) (n : Nat) (f : Rail → Rail) : (setRail s n f).flash = s.flash := (rfl)
@[simp] theorem setRail_dict (s : State) (n : Nat) (f : Rail → Rail) : (setRail s n f).dict = s.dict := (rfl)
@[simp] theorem setRail_blobs (s : State) (n : Nat) (f : Rail → Rail) : (setRail s n f).blobs = s.blobs := (rfl)
@[simp] theorem setRail_staged (s : State) (n : Nat) (f : Rail → Rail) : (setRail s n f).staged = s.staged := (rfl)
@[simp] theorem setRail_stagedBlobs (s : State) (n : Nat) (f : Rail → Rail) : (setRail s n f).stagedBlobs = s.stagedBlobs := (rfl)
@[simp] theorem setRail_stagers (s : State) (n : Nat) (f : Rail → Rail) : (setRail s n f).stagers = s.stagers := (rfl)
@[simp] theorem setRail_armed (s : State) (n : Nat) (f : Rail → Rail) : (setRail s n f).armed = s.armed := (rfl)
@[simp] theorem setRail_accs (s : State) (n : Nat) (f : Rail → Rail) : (setRail s n f).accs = s.accs := (rfl)
@[simp] theorem setRail_sheets (s : State) (n : Nat) (f : Rail → Rail) : (setRail s n f).sheets = s.sheets := (rfl)
@[simp] theorem setRail_nextUid (s : State) (n : Nat) (f : Rail → Rail) : (setRail s n f).nextUid = s.nextUid := (rfl)
@[simp] theorem setRail_tenants (s : State) (n : Nat) (f : Rail → Rail) : (setRail s n f).tenants = s.tenants := (rfl)
@[simp] theorem setRail_coalescing (s : State) (n : Nat) (f : Rail → Rail) : (setRail s n f).coalescing = s.coalescing := (rfl)
@[simp] theorem setRail_mem (s : State) (n : Nat) (f : Rail → Rail) : (setRail s n f).mem = s.mem := (rfl)
@[simp] theorem setRail_stations (s : State) (n : Nat) (f : Rail → Rail) : (setRail s n f).stations = s.stations := (rfl)
@[simp] theorem setRail_trackers (s : State) (n : Nat) (f : Rail → Rail) : (setRail s n f).trackers = s.trackers := (rfl)
@[simp] theorem setRail_slots (s : State) (n : Nat) (f : Rail → Rail) : (setRail s n f).slots = s.slots := (rfl)
@[simp] theorem setRail_motors (s : State) (n : Nat) (f : Rail → Rail) : (setRail s n f).motors = s.motors := (rfl)
@[simp] theorem setRail_axes (s : State) (n : Nat) (f : Rail → Rail) : (setRail s n f).axes = s.axes := (rfl)
@[simp] theorem setRail_loops (s : State) (n : Nat) (f : Rail → Rail) : (setRail s n f).loops = s.loops := (rfl)
@[simp] theorem setRail_ains (s : State) (n : Nat) (f : Rail → Rail) : (setRail s n f).ains = s.ains := (rfl)
@[simp] theorem setRail_pins (s : State) (n : Nat) (f : Rail → Rail) : (setRail s n f).pins = s.pins := (rfl)
@[simp] theorem setRail_diag (s : State) (n : Nat) (f : Rail → Rail) : (setRail s n f).diag = s.diag := (rfl)
@[simp] theorem setRail_log (s : State) (n : Nat) (f : Rail → Rail) : (setRail s n f).log = s.log := (rfl)
@[simp] theorem setRail_heatTicks (s : State) (n : Nat) (f : Rail → Rail) : (setRail s n f).heatTicks = s.heatTicks := (rfl)
@[simp] theorem setRail_heatFrom (s : State) (n : Nat) (f : Rail → Rail) : (setRail s n f).heatFrom = s.heatFrom := (rfl)
@[simp] theorem setRail_out (s : State) (n : Nat) (f : Rail → Rail) : (setRail s n f).out = s.out := (rfl)
@[simp] theorem setRail_fresh (s : State) (n : Nat) (f : Rail → Rail) : (setRail s n f).fresh = s.fresh := (rfl)
@[simp] theorem setRail_pending (s : State) (n : Nat) (f : Rail → Rail) : (setRail s n f).pending = s.pending := (rfl)

/-! ## setStation -/

@[simp] theorem setStation_time (s : State) (n : Nat) (f : Station → Station) : (setStation s n f).time = s.time := (rfl)
@[simp] theorem setStation_powered (s : State) (n : Nat) (f : Station → Station) : (setStation s n f).powered = s.powered := (rfl)
@[simp] theorem setStation_md (s : State) (n : Nat) (f : Station → Station) : (setStation s n f).md = s.md := (rfl)
@[simp] theorem setStation_kick (s : State) (n : Nat) (f : Station → Station) : (setStation s n f).kick = s.kick := (rfl)
@[simp] theorem setStation_hold (s : State) (n : Nat) (f : Station → Station) : (setStation s n f).hold = s.hold := (rfl)
@[simp] theorem setStation_reset (s : State) (n : Nat) (f : Station → Station) : (setStation s n f).reset_ = s.reset_ := (rfl)
@[simp] theorem setStation_seq (s : State) (n : Nat) (f : Station → Station) : (setStation s n f).seq = s.seq := (rfl)
@[simp] theorem setStation_rails (s : State) (n : Nat) (f : Station → Station) : (setStation s n f).rails = s.rails := (rfl)
@[simp] theorem setStation_clk (s : State) (n : Nat) (f : Station → Station) : (setStation s n f).clk = s.clk := (rfl)
@[simp] theorem setStation_net (s : State) (n : Nat) (f : Station → Station) : (setStation s n f).net = s.net := (rfl)
@[simp] theorem setStation_flash (s : State) (n : Nat) (f : Station → Station) : (setStation s n f).flash = s.flash := (rfl)
@[simp] theorem setStation_dict (s : State) (n : Nat) (f : Station → Station) : (setStation s n f).dict = s.dict := (rfl)
@[simp] theorem setStation_blobs (s : State) (n : Nat) (f : Station → Station) : (setStation s n f).blobs = s.blobs := (rfl)
@[simp] theorem setStation_staged (s : State) (n : Nat) (f : Station → Station) : (setStation s n f).staged = s.staged := (rfl)
@[simp] theorem setStation_stagedBlobs (s : State) (n : Nat) (f : Station → Station) : (setStation s n f).stagedBlobs = s.stagedBlobs := (rfl)
@[simp] theorem setStation_stagers (s : State) (n : Nat) (f : Station → Station) : (setStation s n f).stagers = s.stagers := (rfl)
@[simp] theorem setStation_armed (s : State) (n : Nat) (f : Station → Station) : (setStation s n f).armed = s.armed := (rfl)
@[simp] theorem setStation_accs (s : State) (n : Nat) (f : Station → Station) : (setStation s n f).accs = s.accs := (rfl)
@[simp] theorem setStation_sheets (s : State) (n : Nat) (f : Station → Station) : (setStation s n f).sheets = s.sheets := (rfl)
@[simp] theorem setStation_nextUid (s : State) (n : Nat) (f : Station → Station) : (setStation s n f).nextUid = s.nextUid := (rfl)
@[simp] theorem setStation_tenants (s : State) (n : Nat) (f : Station → Station) : (setStation s n f).tenants = s.tenants := (rfl)
@[simp] theorem setStation_coalescing (s : State) (n : Nat) (f : Station → Station) : (setStation s n f).coalescing = s.coalescing := (rfl)
@[simp] theorem setStation_mem (s : State) (n : Nat) (f : Station → Station) : (setStation s n f).mem = s.mem := (rfl)
@[simp] theorem setStation_trackers (s : State) (n : Nat) (f : Station → Station) : (setStation s n f).trackers = s.trackers := (rfl)
@[simp] theorem setStation_slots (s : State) (n : Nat) (f : Station → Station) : (setStation s n f).slots = s.slots := (rfl)
@[simp] theorem setStation_motors (s : State) (n : Nat) (f : Station → Station) : (setStation s n f).motors = s.motors := (rfl)
@[simp] theorem setStation_axes (s : State) (n : Nat) (f : Station → Station) : (setStation s n f).axes = s.axes := (rfl)
@[simp] theorem setStation_loops (s : State) (n : Nat) (f : Station → Station) : (setStation s n f).loops = s.loops := (rfl)
@[simp] theorem setStation_ains (s : State) (n : Nat) (f : Station → Station) : (setStation s n f).ains = s.ains := (rfl)
@[simp] theorem setStation_pins (s : State) (n : Nat) (f : Station → Station) : (setStation s n f).pins = s.pins := (rfl)
@[simp] theorem setStation_diag (s : State) (n : Nat) (f : Station → Station) : (setStation s n f).diag = s.diag := (rfl)
@[simp] theorem setStation_log (s : State) (n : Nat) (f : Station → Station) : (setStation s n f).log = s.log := (rfl)
@[simp] theorem setStation_heatTicks (s : State) (n : Nat) (f : Station → Station) : (setStation s n f).heatTicks = s.heatTicks := (rfl)
@[simp] theorem setStation_heatFrom (s : State) (n : Nat) (f : Station → Station) : (setStation s n f).heatFrom = s.heatFrom := (rfl)
@[simp] theorem setStation_out (s : State) (n : Nat) (f : Station → Station) : (setStation s n f).out = s.out := (rfl)
@[simp] theorem setStation_fresh (s : State) (n : Nat) (f : Station → Station) : (setStation s n f).fresh = s.fresh := (rfl)
@[simp] theorem setStation_pending (s : State) (n : Nat) (f : Station → Station) : (setStation s n f).pending = s.pending := (rfl)

/-! ## setTracker -/

@[simp] theorem setTracker_time (s : State) (n : Nat) (f : Tracker → Tracker) : (setTracker s n f).time = s.time := (rfl)
@[simp] theorem setTracker_powered (s : State) (n : Nat) (f : Tracker → Tracker) : (setTracker s n f).powered = s.powered := (rfl)
@[simp] theorem setTracker_md (s : State) (n : Nat) (f : Tracker → Tracker) : (setTracker s n f).md = s.md := (rfl)
@[simp] theorem setTracker_kick (s : State) (n : Nat) (f : Tracker → Tracker) : (setTracker s n f).kick = s.kick := (rfl)
@[simp] theorem setTracker_hold (s : State) (n : Nat) (f : Tracker → Tracker) : (setTracker s n f).hold = s.hold := (rfl)
@[simp] theorem setTracker_reset (s : State) (n : Nat) (f : Tracker → Tracker) : (setTracker s n f).reset_ = s.reset_ := (rfl)
@[simp] theorem setTracker_seq (s : State) (n : Nat) (f : Tracker → Tracker) : (setTracker s n f).seq = s.seq := (rfl)
@[simp] theorem setTracker_rails (s : State) (n : Nat) (f : Tracker → Tracker) : (setTracker s n f).rails = s.rails := (rfl)
@[simp] theorem setTracker_clk (s : State) (n : Nat) (f : Tracker → Tracker) : (setTracker s n f).clk = s.clk := (rfl)
@[simp] theorem setTracker_net (s : State) (n : Nat) (f : Tracker → Tracker) : (setTracker s n f).net = s.net := (rfl)
@[simp] theorem setTracker_flash (s : State) (n : Nat) (f : Tracker → Tracker) : (setTracker s n f).flash = s.flash := (rfl)
@[simp] theorem setTracker_dict (s : State) (n : Nat) (f : Tracker → Tracker) : (setTracker s n f).dict = s.dict := (rfl)
@[simp] theorem setTracker_blobs (s : State) (n : Nat) (f : Tracker → Tracker) : (setTracker s n f).blobs = s.blobs := (rfl)
@[simp] theorem setTracker_staged (s : State) (n : Nat) (f : Tracker → Tracker) : (setTracker s n f).staged = s.staged := (rfl)
@[simp] theorem setTracker_stagedBlobs (s : State) (n : Nat) (f : Tracker → Tracker) : (setTracker s n f).stagedBlobs = s.stagedBlobs := (rfl)
@[simp] theorem setTracker_stagers (s : State) (n : Nat) (f : Tracker → Tracker) : (setTracker s n f).stagers = s.stagers := (rfl)
@[simp] theorem setTracker_armed (s : State) (n : Nat) (f : Tracker → Tracker) : (setTracker s n f).armed = s.armed := (rfl)
@[simp] theorem setTracker_accs (s : State) (n : Nat) (f : Tracker → Tracker) : (setTracker s n f).accs = s.accs := (rfl)
@[simp] theorem setTracker_sheets (s : State) (n : Nat) (f : Tracker → Tracker) : (setTracker s n f).sheets = s.sheets := (rfl)
@[simp] theorem setTracker_nextUid (s : State) (n : Nat) (f : Tracker → Tracker) : (setTracker s n f).nextUid = s.nextUid := (rfl)
@[simp] theorem setTracker_tenants (s : State) (n : Nat) (f : Tracker → Tracker) : (setTracker s n f).tenants = s.tenants := (rfl)
@[simp] theorem setTracker_coalescing (s : State) (n : Nat) (f : Tracker → Tracker) : (setTracker s n f).coalescing = s.coalescing := (rfl)
@[simp] theorem setTracker_mem (s : State) (n : Nat) (f : Tracker → Tracker) : (setTracker s n f).mem = s.mem := (rfl)
@[simp] theorem setTracker_stations (s : State) (n : Nat) (f : Tracker → Tracker) : (setTracker s n f).stations = s.stations := (rfl)
@[simp] theorem setTracker_slots (s : State) (n : Nat) (f : Tracker → Tracker) : (setTracker s n f).slots = s.slots := (rfl)
@[simp] theorem setTracker_motors (s : State) (n : Nat) (f : Tracker → Tracker) : (setTracker s n f).motors = s.motors := (rfl)
@[simp] theorem setTracker_axes (s : State) (n : Nat) (f : Tracker → Tracker) : (setTracker s n f).axes = s.axes := (rfl)
@[simp] theorem setTracker_loops (s : State) (n : Nat) (f : Tracker → Tracker) : (setTracker s n f).loops = s.loops := (rfl)
@[simp] theorem setTracker_ains (s : State) (n : Nat) (f : Tracker → Tracker) : (setTracker s n f).ains = s.ains := (rfl)
@[simp] theorem setTracker_pins (s : State) (n : Nat) (f : Tracker → Tracker) : (setTracker s n f).pins = s.pins := (rfl)
@[simp] theorem setTracker_diag (s : State) (n : Nat) (f : Tracker → Tracker) : (setTracker s n f).diag = s.diag := (rfl)
@[simp] theorem setTracker_log (s : State) (n : Nat) (f : Tracker → Tracker) : (setTracker s n f).log = s.log := (rfl)
@[simp] theorem setTracker_heatTicks (s : State) (n : Nat) (f : Tracker → Tracker) : (setTracker s n f).heatTicks = s.heatTicks := (rfl)
@[simp] theorem setTracker_heatFrom (s : State) (n : Nat) (f : Tracker → Tracker) : (setTracker s n f).heatFrom = s.heatFrom := (rfl)
@[simp] theorem setTracker_out (s : State) (n : Nat) (f : Tracker → Tracker) : (setTracker s n f).out = s.out := (rfl)
@[simp] theorem setTracker_fresh (s : State) (n : Nat) (f : Tracker → Tracker) : (setTracker s n f).fresh = s.fresh := (rfl)
@[simp] theorem setTracker_pending (s : State) (n : Nat) (f : Tracker → Tracker) : (setTracker s n f).pending = s.pending := (rfl)

/-! ## setMotor -/

@[simp] theorem setMotor_time (s : State) (n : Nat) (f : Motor → Motor) : (setMotor s n f).time = s.time := (rfl)
@[simp] theorem setMotor_powered (s : State) (n : Nat) (f : Motor → Motor) : (setMotor s n f).powered = s.powered := (rfl)
@[simp] theorem setMotor_md (s : State) (n : Nat) (f : Motor → Motor) : (setMotor s n f).md = s.md := (rfl)
@[simp] theorem setMotor_kick (s : State) (n : Nat) (f : Motor → Motor) : (setMotor s n f).kick = s.kick := (rfl)
@[simp] theorem setMotor_hold (s : State) (n : Nat) (f : Motor → Motor) : (setMotor s n f).hold = s.hold := (rfl)
@[simp] theorem setMotor_reset (s : State) (n : Nat) (f : Motor → Motor) : (setMotor s n f).reset_ = s.reset_ := (rfl)
@[simp] theorem setMotor_seq (s : State) (n : Nat) (f : Motor → Motor) : (setMotor s n f).seq = s.seq := (rfl)
@[simp] theorem setMotor_rails (s : State) (n : Nat) (f : Motor → Motor) : (setMotor s n f).rails = s.rails := (rfl)
@[simp] theorem setMotor_clk (s : State) (n : Nat) (f : Motor → Motor) : (setMotor s n f).clk = s.clk := (rfl)
@[simp] theorem setMotor_net (s : State) (n : Nat) (f : Motor → Motor) : (setMotor s n f).net = s.net := (rfl)
@[simp] theorem setMotor_flash (s : State) (n : Nat) (f : Motor → Motor) : (setMotor s n f).flash = s.flash := (rfl)
@[simp] theorem setMotor_dict (s : State) (n : Nat) (f : Motor → Motor) : (setMotor s n f).dict = s.dict := (rfl)
@[simp] theorem setMotor_blobs (s : State) (n : Nat) (f : Motor → Motor) : (setMotor s n f).blobs = s.blobs := (rfl)
@[simp] theorem setMotor_staged (s : State) (n : Nat) (f : Motor → Motor) : (setMotor s n f).staged = s.staged := (rfl)
@[simp] theorem setMotor_stagedBlobs (s : State) (n : Nat) (f : Motor → Motor) : (setMotor s n f).stagedBlobs = s.stagedBlobs := (rfl)
@[simp] theorem setMotor_stagers (s : State) (n : Nat) (f : Motor → Motor) : (setMotor s n f).stagers = s.stagers := (rfl)
@[simp] theorem setMotor_armed (s : State) (n : Nat) (f : Motor → Motor) : (setMotor s n f).armed = s.armed := (rfl)
@[simp] theorem setMotor_accs (s : State) (n : Nat) (f : Motor → Motor) : (setMotor s n f).accs = s.accs := (rfl)
@[simp] theorem setMotor_sheets (s : State) (n : Nat) (f : Motor → Motor) : (setMotor s n f).sheets = s.sheets := (rfl)
@[simp] theorem setMotor_nextUid (s : State) (n : Nat) (f : Motor → Motor) : (setMotor s n f).nextUid = s.nextUid := (rfl)
@[simp] theorem setMotor_tenants (s : State) (n : Nat) (f : Motor → Motor) : (setMotor s n f).tenants = s.tenants := (rfl)
@[simp] theorem setMotor_coalescing (s : State) (n : Nat) (f : Motor → Motor) : (setMotor s n f).coalescing = s.coalescing := (rfl)
@[simp] theorem setMotor_mem (s : State) (n : Nat) (f : Motor → Motor) : (setMotor s n f).mem = s.mem := (rfl)
@[simp] theorem setMotor_stations (s : State) (n : Nat) (f : Motor → Motor) : (setMotor s n f).stations = s.stations := (rfl)
@[simp] theorem setMotor_trackers (s : State) (n : Nat) (f : Motor → Motor) : (setMotor s n f).trackers = s.trackers := (rfl)
@[simp] theorem setMotor_slots (s : State) (n : Nat) (f : Motor → Motor) : (setMotor s n f).slots = s.slots := (rfl)
@[simp] theorem setMotor_axes (s : State) (n : Nat) (f : Motor → Motor) : (setMotor s n f).axes = s.axes := (rfl)
@[simp] theorem setMotor_loops (s : State) (n : Nat) (f : Motor → Motor) : (setMotor s n f).loops = s.loops := (rfl)
@[simp] theorem setMotor_ains (s : State) (n : Nat) (f : Motor → Motor) : (setMotor s n f).ains = s.ains := (rfl)
@[simp] theorem setMotor_pins (s : State) (n : Nat) (f : Motor → Motor) : (setMotor s n f).pins = s.pins := (rfl)
@[simp] theorem setMotor_diag (s : State) (n : Nat) (f : Motor → Motor) : (setMotor s n f).diag = s.diag := (rfl)
@[simp] theorem setMotor_log (s : State) (n : Nat) (f : Motor → Motor) : (setMotor s n f).log = s.log := (rfl)
@[simp] theorem setMotor_heatTicks (s : State) (n : Nat) (f : Motor → Motor) : (setMotor s n f).heatTicks = s.heatTicks := (rfl)
@[simp] theorem setMotor_heatFrom (s : State) (n : Nat) (f : Motor → Motor) : (setMotor s n f).heatFrom = s.heatFrom := (rfl)
@[simp] theorem setMotor_out (s : State) (n : Nat) (f : Motor → Motor) : (setMotor s n f).out = s.out := (rfl)
@[simp] theorem setMotor_fresh (s : State) (n : Nat) (f : Motor → Motor) : (setMotor s n f).fresh = s.fresh := (rfl)
@[simp] theorem setMotor_pending (s : State) (n : Nat) (f : Motor → Motor) : (setMotor s n f).pending = s.pending := (rfl)

/-! ## setAxis -/

@[simp] theorem setAxis_time (s : State) (n : Nat) (f : Axis → Axis) : (setAxis s n f).time = s.time := (rfl)
@[simp] theorem setAxis_powered (s : State) (n : Nat) (f : Axis → Axis) : (setAxis s n f).powered = s.powered := (rfl)
@[simp] theorem setAxis_md (s : State) (n : Nat) (f : Axis → Axis) : (setAxis s n f).md = s.md := (rfl)
@[simp] theorem setAxis_kick (s : State) (n : Nat) (f : Axis → Axis) : (setAxis s n f).kick = s.kick := (rfl)
@[simp] theorem setAxis_hold (s : State) (n : Nat) (f : Axis → Axis) : (setAxis s n f).hold = s.hold := (rfl)
@[simp] theorem setAxis_reset (s : State) (n : Nat) (f : Axis → Axis) : (setAxis s n f).reset_ = s.reset_ := (rfl)
@[simp] theorem setAxis_seq (s : State) (n : Nat) (f : Axis → Axis) : (setAxis s n f).seq = s.seq := (rfl)
@[simp] theorem setAxis_rails (s : State) (n : Nat) (f : Axis → Axis) : (setAxis s n f).rails = s.rails := (rfl)
@[simp] theorem setAxis_clk (s : State) (n : Nat) (f : Axis → Axis) : (setAxis s n f).clk = s.clk := (rfl)
@[simp] theorem setAxis_net (s : State) (n : Nat) (f : Axis → Axis) : (setAxis s n f).net = s.net := (rfl)
@[simp] theorem setAxis_flash (s : State) (n : Nat) (f : Axis → Axis) : (setAxis s n f).flash = s.flash := (rfl)
@[simp] theorem setAxis_dict (s : State) (n : Nat) (f : Axis → Axis) : (setAxis s n f).dict = s.dict := (rfl)
@[simp] theorem setAxis_blobs (s : State) (n : Nat) (f : Axis → Axis) : (setAxis s n f).blobs = s.blobs := (rfl)
@[simp] theorem setAxis_staged (s : State) (n : Nat) (f : Axis → Axis) : (setAxis s n f).staged = s.staged := (rfl)
@[simp] theorem setAxis_stagedBlobs (s : State) (n : Nat) (f : Axis → Axis) : (setAxis s n f).stagedBlobs = s.stagedBlobs := (rfl)
@[simp] theorem setAxis_stagers (s : State) (n : Nat) (f : Axis → Axis) : (setAxis s n f).stagers = s.stagers := (rfl)
@[simp] theorem setAxis_armed (s : State) (n : Nat) (f : Axis → Axis) : (setAxis s n f).armed = s.armed := (rfl)
@[simp] theorem setAxis_accs (s : State) (n : Nat) (f : Axis → Axis) : (setAxis s n f).accs = s.accs := (rfl)
@[simp] theorem setAxis_sheets (s : State) (n : Nat) (f : Axis → Axis) : (setAxis s n f).sheets = s.sheets := (rfl)
@[simp] theorem setAxis_nextUid (s : State) (n : Nat) (f : Axis → Axis) : (setAxis s n f).nextUid = s.nextUid := (rfl)
@[simp] theorem setAxis_tenants (s : State) (n : Nat) (f : Axis → Axis) : (setAxis s n f).tenants = s.tenants := (rfl)
@[simp] theorem setAxis_coalescing (s : State) (n : Nat) (f : Axis → Axis) : (setAxis s n f).coalescing = s.coalescing := (rfl)
@[simp] theorem setAxis_mem (s : State) (n : Nat) (f : Axis → Axis) : (setAxis s n f).mem = s.mem := (rfl)
@[simp] theorem setAxis_stations (s : State) (n : Nat) (f : Axis → Axis) : (setAxis s n f).stations = s.stations := (rfl)
@[simp] theorem setAxis_trackers (s : State) (n : Nat) (f : Axis → Axis) : (setAxis s n f).trackers = s.trackers := (rfl)
@[simp] theorem setAxis_slots (s : State) (n : Nat) (f : Axis → Axis) : (setAxis s n f).slots = s.slots := (rfl)
@[simp] theorem setAxis_motors (s : State) (n : Nat) (f : Axis → Axis) : (setAxis s n f).motors = s.motors := (rfl)
@[simp] theorem setAxis_loops (s : State) (n : Nat) (f : Axis → Axis) : (setAxis s n f).loops = s.loops := (rfl)
@[simp] theorem setAxis_ains (s : State) (n : Nat) (f : Axis → Axis) : (setAxis s n f).ains = s.ains := (rfl)
@[simp] theorem setAxis_pins (s : State) (n : Nat) (f : Axis → Axis) : (setAxis s n f).pins = s.pins := (rfl)
@[simp] theorem setAxis_diag (s : State) (n : Nat) (f : Axis → Axis) : (setAxis s n f).diag = s.diag := (rfl)
@[simp] theorem setAxis_log (s : State) (n : Nat) (f : Axis → Axis) : (setAxis s n f).log = s.log := (rfl)
@[simp] theorem setAxis_heatTicks (s : State) (n : Nat) (f : Axis → Axis) : (setAxis s n f).heatTicks = s.heatTicks := (rfl)
@[simp] theorem setAxis_heatFrom (s : State) (n : Nat) (f : Axis → Axis) : (setAxis s n f).heatFrom = s.heatFrom := (rfl)
@[simp] theorem setAxis_out (s : State) (n : Nat) (f : Axis → Axis) : (setAxis s n f).out = s.out := (rfl)
@[simp] theorem setAxis_fresh (s : State) (n : Nat) (f : Axis → Axis) : (setAxis s n f).fresh = s.fresh := (rfl)
@[simp] theorem setAxis_pending (s : State) (n : Nat) (f : Axis → Axis) : (setAxis s n f).pending = s.pending := (rfl)

/-! ## setLoop -/

@[simp] theorem setLoop_time (s : State) (n : Nat) (f : Loop → Loop) : (setLoop s n f).time = s.time := (rfl)
@[simp] theorem setLoop_powered (s : State) (n : Nat) (f : Loop → Loop) : (setLoop s n f).powered = s.powered := (rfl)
@[simp] theorem setLoop_md (s : State) (n : Nat) (f : Loop → Loop) : (setLoop s n f).md = s.md := (rfl)
@[simp] theorem setLoop_kick (s : State) (n : Nat) (f : Loop → Loop) : (setLoop s n f).kick = s.kick := (rfl)
@[simp] theorem setLoop_hold (s : State) (n : Nat) (f : Loop → Loop) : (setLoop s n f).hold = s.hold := (rfl)
@[simp] theorem setLoop_reset (s : State) (n : Nat) (f : Loop → Loop) : (setLoop s n f).reset_ = s.reset_ := (rfl)
@[simp] theorem setLoop_seq (s : State) (n : Nat) (f : Loop → Loop) : (setLoop s n f).seq = s.seq := (rfl)
@[simp] theorem setLoop_rails (s : State) (n : Nat) (f : Loop → Loop) : (setLoop s n f).rails = s.rails := (rfl)
@[simp] theorem setLoop_clk (s : State) (n : Nat) (f : Loop → Loop) : (setLoop s n f).clk = s.clk := (rfl)
@[simp] theorem setLoop_net (s : State) (n : Nat) (f : Loop → Loop) : (setLoop s n f).net = s.net := (rfl)
@[simp] theorem setLoop_flash (s : State) (n : Nat) (f : Loop → Loop) : (setLoop s n f).flash = s.flash := (rfl)
@[simp] theorem setLoop_dict (s : State) (n : Nat) (f : Loop → Loop) : (setLoop s n f).dict = s.dict := (rfl)
@[simp] theorem setLoop_blobs (s : State) (n : Nat) (f : Loop → Loop) : (setLoop s n f).blobs = s.blobs := (rfl)
@[simp] theorem setLoop_staged (s : State) (n : Nat) (f : Loop → Loop) : (setLoop s n f).staged = s.staged := (rfl)
@[simp] theorem setLoop_stagedBlobs (s : State) (n : Nat) (f : Loop → Loop) : (setLoop s n f).stagedBlobs = s.stagedBlobs := (rfl)
@[simp] theorem setLoop_stagers (s : State) (n : Nat) (f : Loop → Loop) : (setLoop s n f).stagers = s.stagers := (rfl)
@[simp] theorem setLoop_armed (s : State) (n : Nat) (f : Loop → Loop) : (setLoop s n f).armed = s.armed := (rfl)
@[simp] theorem setLoop_accs (s : State) (n : Nat) (f : Loop → Loop) : (setLoop s n f).accs = s.accs := (rfl)
@[simp] theorem setLoop_sheets (s : State) (n : Nat) (f : Loop → Loop) : (setLoop s n f).sheets = s.sheets := (rfl)
@[simp] theorem setLoop_nextUid (s : State) (n : Nat) (f : Loop → Loop) : (setLoop s n f).nextUid = s.nextUid := (rfl)
@[simp] theorem setLoop_tenants (s : State) (n : Nat) (f : Loop → Loop) : (setLoop s n f).tenants = s.tenants := (rfl)
@[simp] theorem setLoop_coalescing (s : State) (n : Nat) (f : Loop → Loop) : (setLoop s n f).coalescing = s.coalescing := (rfl)
@[simp] theorem setLoop_mem (s : State) (n : Nat) (f : Loop → Loop) : (setLoop s n f).mem = s.mem := (rfl)
@[simp] theorem setLoop_stations (s : State) (n : Nat) (f : Loop → Loop) : (setLoop s n f).stations = s.stations := (rfl)
@[simp] theorem setLoop_trackers (s : State) (n : Nat) (f : Loop → Loop) : (setLoop s n f).trackers = s.trackers := (rfl)
@[simp] theorem setLoop_slots (s : State) (n : Nat) (f : Loop → Loop) : (setLoop s n f).slots = s.slots := (rfl)
@[simp] theorem setLoop_motors (s : State) (n : Nat) (f : Loop → Loop) : (setLoop s n f).motors = s.motors := (rfl)
@[simp] theorem setLoop_axes (s : State) (n : Nat) (f : Loop → Loop) : (setLoop s n f).axes = s.axes := (rfl)
@[simp] theorem setLoop_ains (s : State) (n : Nat) (f : Loop → Loop) : (setLoop s n f).ains = s.ains := (rfl)
@[simp] theorem setLoop_pins (s : State) (n : Nat) (f : Loop → Loop) : (setLoop s n f).pins = s.pins := (rfl)
@[simp] theorem setLoop_diag (s : State) (n : Nat) (f : Loop → Loop) : (setLoop s n f).diag = s.diag := (rfl)
@[simp] theorem setLoop_log (s : State) (n : Nat) (f : Loop → Loop) : (setLoop s n f).log = s.log := (rfl)
@[simp] theorem setLoop_heatTicks (s : State) (n : Nat) (f : Loop → Loop) : (setLoop s n f).heatTicks = s.heatTicks := (rfl)
@[simp] theorem setLoop_heatFrom (s : State) (n : Nat) (f : Loop → Loop) : (setLoop s n f).heatFrom = s.heatFrom := (rfl)
@[simp] theorem setLoop_out (s : State) (n : Nat) (f : Loop → Loop) : (setLoop s n f).out = s.out := (rfl)
@[simp] theorem setLoop_fresh (s : State) (n : Nat) (f : Loop → Loop) : (setLoop s n f).fresh = s.fresh := (rfl)
@[simp] theorem setLoop_pending (s : State) (n : Nat) (f : Loop → Loop) : (setLoop s n f).pending = s.pending := (rfl)

/-! ## setAin -/

@[simp] theorem setAin_time (s : State) (n : Nat) (f : Ain → Ain) : (setAin s n f).time = s.time := (rfl)
@[simp] theorem setAin_powered (s : State) (n : Nat) (f : Ain → Ain) : (setAin s n f).powered = s.powered := (rfl)
@[simp] theorem setAin_md (s : State) (n : Nat) (f : Ain → Ain) : (setAin s n f).md = s.md := (rfl)
@[simp] theorem setAin_kick (s : State) (n : Nat) (f : Ain → Ain) : (setAin s n f).kick = s.kick := (rfl)
@[simp] theorem setAin_hold (s : State) (n : Nat) (f : Ain → Ain) : (setAin s n f).hold = s.hold := (rfl)
@[simp] theorem setAin_reset (s : State) (n : Nat) (f : Ain → Ain) : (setAin s n f).reset_ = s.reset_ := (rfl)
@[simp] theorem setAin_seq (s : State) (n : Nat) (f : Ain → Ain) : (setAin s n f).seq = s.seq := (rfl)
@[simp] theorem setAin_rails (s : State) (n : Nat) (f : Ain → Ain) : (setAin s n f).rails = s.rails := (rfl)
@[simp] theorem setAin_clk (s : State) (n : Nat) (f : Ain → Ain) : (setAin s n f).clk = s.clk := (rfl)
@[simp] theorem setAin_net (s : State) (n : Nat) (f : Ain → Ain) : (setAin s n f).net = s.net := (rfl)
@[simp] theorem setAin_flash (s : State) (n : Nat) (f : Ain → Ain) : (setAin s n f).flash = s.flash := (rfl)
@[simp] theorem setAin_dict (s : State) (n : Nat) (f : Ain → Ain) : (setAin s n f).dict = s.dict := (rfl)
@[simp] theorem setAin_blobs (s : State) (n : Nat) (f : Ain → Ain) : (setAin s n f).blobs = s.blobs := (rfl)
@[simp] theorem setAin_staged (s : State) (n : Nat) (f : Ain → Ain) : (setAin s n f).staged = s.staged := (rfl)
@[simp] theorem setAin_stagedBlobs (s : State) (n : Nat) (f : Ain → Ain) : (setAin s n f).stagedBlobs = s.stagedBlobs := (rfl)
@[simp] theorem setAin_stagers (s : State) (n : Nat) (f : Ain → Ain) : (setAin s n f).stagers = s.stagers := (rfl)
@[simp] theorem setAin_armed (s : State) (n : Nat) (f : Ain → Ain) : (setAin s n f).armed = s.armed := (rfl)
@[simp] theorem setAin_accs (s : State) (n : Nat) (f : Ain → Ain) : (setAin s n f).accs = s.accs := (rfl)
@[simp] theorem setAin_sheets (s : State) (n : Nat) (f : Ain → Ain) : (setAin s n f).sheets = s.sheets := (rfl)
@[simp] theorem setAin_nextUid (s : State) (n : Nat) (f : Ain → Ain) : (setAin s n f).nextUid = s.nextUid := (rfl)
@[simp] theorem setAin_tenants (s : State) (n : Nat) (f : Ain → Ain) : (setAin s n f).tenants = s.tenants := (rfl)
@[simp] theorem setAin_coalescing (s : State) (n : Nat) (f : Ain → Ain) : (setAin s n f).coalescing = s.coalescing := (rfl)
@[simp] theorem setAin_mem (s : State) (n : Nat) (f : Ain → Ain) : (setAin s n f).mem = s.mem := (rfl)
@[simp] theorem setAin_stations (s : State) (n : Nat) (f : Ain → Ain) : (setAin s n f).stations = s.stations := (rfl)
@[simp] theorem setAin_trackers (s : State) (n : Nat) (f : Ain → Ain) : (setAin s n f).trackers = s.trackers := (rfl)
@[simp] theorem setAin_slots (s : State) (n : Nat) (f : Ain → Ain) : (setAin s n f).slots = s.slots := (rfl)
@[simp] theorem setAin_motors (s : State) (n : Nat) (f : Ain → Ain) : (setAin s n f).motors = s.motors := (rfl)
@[simp] theorem setAin_axes (s : State) (n : Nat) (f : Ain → Ain) : (setAin s n f).axes = s.axes := (rfl)
@[simp] theorem setAin_loops (s : State) (n : Nat) (f : Ain → Ain) : (setAin s n f).loops = s.loops := (rfl)
@[simp] theorem setAin_pins (s : State) (n : Nat) (f : Ain → Ain) : (setAin s n f).pins = s.pins := (rfl)
@[simp] theorem setAin_diag (s : State) (n : Nat) (f : Ain → Ain) : (setAin s n f).diag = s.diag := (rfl)
@[simp] theorem setAin_log (s : State) (n : Nat) (f : Ain → Ain) : (setAin s n f).log = s.log := (rfl)
@[simp] theorem setAin_heatTicks (s : State) (n : Nat) (f : Ain → Ain) : (setAin s n f).heatTicks = s.heatTicks := (rfl)
@[simp] theorem setAin_heatFrom (s : State) (n : Nat) (f : Ain → Ain) : (setAin s n f).heatFrom = s.heatFrom := (rfl)
@[simp] theorem setAin_out (s : State) (n : Nat) (f : Ain → Ain) : (setAin s n f).out = s.out := (rfl)
@[simp] theorem setAin_fresh (s : State) (n : Nat) (f : Ain → Ain) : (setAin s n f).fresh = s.fresh := (rfl)
@[simp] theorem setAin_pending (s : State) (n : Nat) (f : Ain → Ain) : (setAin s n f).pending = s.pending := (rfl)

/-! ## setTenant -/

@[simp] theorem setTenant_time (s : State) (n : Nat) (f : Tenant → Tenant) : (setTenant s n f).time = s.time := (rfl)
@[simp] theorem setTenant_powered (s : State) (n : Nat) (f : Tenant → Tenant) : (setTenant s n f).powered = s.powered := (rfl)
@[simp] theorem setTenant_md (s : State) (n : Nat) (f : Tenant → Tenant) : (setTenant s n f).md = s.md := (rfl)
@[simp] theorem setTenant_kick (s : State) (n : Nat) (f : Tenant → Tenant) : (setTenant s n f).kick = s.kick := (rfl)
@[simp] theorem setTenant_hold (s : State) (n : Nat) (f : Tenant → Tenant) : (setTenant s n f).hold = s.hold := (rfl)
@[simp] theorem setTenant_reset (s : State) (n : Nat) (f : Tenant → Tenant) : (setTenant s n f).reset_ = s.reset_ := (rfl)
@[simp] theorem setTenant_seq (s : State) (n : Nat) (f : Tenant → Tenant) : (setTenant s n f).seq = s.seq := (rfl)
@[simp] theorem setTenant_rails (s : State) (n : Nat) (f : Tenant → Tenant) : (setTenant s n f).rails = s.rails := (rfl)
@[simp] theorem setTenant_clk (s : State) (n : Nat) (f : Tenant → Tenant) : (setTenant s n f).clk = s.clk := (rfl)
@[simp] theorem setTenant_net (s : State) (n : Nat) (f : Tenant → Tenant) : (setTenant s n f).net = s.net := (rfl)
@[simp] theorem setTenant_flash (s : State) (n : Nat) (f : Tenant → Tenant) : (setTenant s n f).flash = s.flash := (rfl)
@[simp] theorem setTenant_dict (s : State) (n : Nat) (f : Tenant → Tenant) : (setTenant s n f).dict = s.dict := (rfl)
@[simp] theorem setTenant_blobs (s : State) (n : Nat) (f : Tenant → Tenant) : (setTenant s n f).blobs = s.blobs := (rfl)
@[simp] theorem setTenant_staged (s : State) (n : Nat) (f : Tenant → Tenant) : (setTenant s n f).staged = s.staged := (rfl)
@[simp] theorem setTenant_stagedBlobs (s : State) (n : Nat) (f : Tenant → Tenant) : (setTenant s n f).stagedBlobs = s.stagedBlobs := (rfl)
@[simp] theorem setTenant_stagers (s : State) (n : Nat) (f : Tenant → Tenant) : (setTenant s n f).stagers = s.stagers := (rfl)
@[simp] theorem setTenant_armed (s : State) (n : Nat) (f : Tenant → Tenant) : (setTenant s n f).armed = s.armed := (rfl)
@[simp] theorem setTenant_accs (s : State) (n : Nat) (f : Tenant → Tenant) : (setTenant s n f).accs = s.accs := (rfl)
@[simp] theorem setTenant_sheets (s : State) (n : Nat) (f : Tenant → Tenant) : (setTenant s n f).sheets = s.sheets := (rfl)
@[simp] theorem setTenant_nextUid (s : State) (n : Nat) (f : Tenant → Tenant) : (setTenant s n f).nextUid = s.nextUid := (rfl)
@[simp] theorem setTenant_coalescing (s : State) (n : Nat) (f : Tenant → Tenant) : (setTenant s n f).coalescing = s.coalescing := (rfl)
@[simp] theorem setTenant_mem (s : State) (n : Nat) (f : Tenant → Tenant) : (setTenant s n f).mem = s.mem := (rfl)
@[simp] theorem setTenant_stations (s : State) (n : Nat) (f : Tenant → Tenant) : (setTenant s n f).stations = s.stations := (rfl)
@[simp] theorem setTenant_trackers (s : State) (n : Nat) (f : Tenant → Tenant) : (setTenant s n f).trackers = s.trackers := (rfl)
@[simp] theorem setTenant_slots (s : State) (n : Nat) (f : Tenant → Tenant) : (setTenant s n f).slots = s.slots := (rfl)
@[simp] theorem setTenant_motors (s : State) (n : Nat) (f : Tenant → Tenant) : (setTenant s n f).motors = s.motors := (rfl)
@[simp] theorem setTenant_axes (s : State) (n : Nat) (f : Tenant → Tenant) : (setTenant s n f).axes = s.axes := (rfl)
@[simp] theorem setTenant_loops (s : State) (n : Nat) (f : Tenant → Tenant) : (setTenant s n f).loops = s.loops := (rfl)
@[simp] theorem setTenant_ains (s : State) (n : Nat) (f : Tenant → Tenant) : (setTenant s n f).ains = s.ains := (rfl)
@[simp] theorem setTenant_pins (s : State) (n : Nat) (f : Tenant → Tenant) : (setTenant s n f).pins = s.pins := (rfl)
@[simp] theorem setTenant_diag (s : State) (n : Nat) (f : Tenant → Tenant) : (setTenant s n f).diag = s.diag := (rfl)
@[simp] theorem setTenant_log (s : State) (n : Nat) (f : Tenant → Tenant) : (setTenant s n f).log = s.log := (rfl)
@[simp] theorem setTenant_heatTicks (s : State) (n : Nat) (f : Tenant → Tenant) : (setTenant s n f).heatTicks = s.heatTicks := (rfl)
@[simp] theorem setTenant_heatFrom (s : State) (n : Nat) (f : Tenant → Tenant) : (setTenant s n f).heatFrom = s.heatFrom := (rfl)
@[simp] theorem setTenant_out (s : State) (n : Nat) (f : Tenant → Tenant) : (setTenant s n f).out = s.out := (rfl)
@[simp] theorem setTenant_fresh (s : State) (n : Nat) (f : Tenant → Tenant) : (setTenant s n f).fresh = s.fresh := (rfl)
@[simp] theorem setTenant_pending (s : State) (n : Nat) (f : Tenant → Tenant) : (setTenant s n f).pending = s.pending := (rfl)

/-! ## setPort -/

@[simp] theorem setPort_time (s : State) (n : Nat) (f : Port → Port) : (setPort s n f).time = s.time := (rfl)
@[simp] theorem setPort_powered (s : State) (n : Nat) (f : Port → Port) : (setPort s n f).powered = s.powered := (rfl)
@[simp] theorem setPort_md (s : State) (n : Nat) (f : Port → Port) : (setPort s n f).md = s.md := (rfl)
@[simp] theorem setPort_kick (s : State) (n : Nat) (f : Port → Port) : (setPort s n f).kick = s.kick := (rfl)
@[simp] theorem setPort_hold (s : State) (n : Nat) (f : Port → Port) : (setPort s n f).hold = s.hold := (rfl)
@[simp] theorem setPort_reset (s : State) (n : Nat) (f : Port → Port) : (setPort s n f).reset_ = s.reset_ := (rfl)
@[simp] theorem setPort_seq (s : State) (n : Nat) (f : Port → Port) : (setPort s n f).seq = s.seq := (rfl)
@[simp] theorem setPort_rails (s : State) (n : Nat) (f : Port → Port) : (setPort s n f).rails = s.rails := (rfl)
@[simp] theorem setPort_clk (s : State) (n : Nat) (f : Port → Port) : (setPort s n f).clk = s.clk := (rfl)
@[simp] theorem setPort_flash (s : State) (n : Nat) (f : Port → Port) : (setPort s n f).flash = s.flash := (rfl)
@[simp] theorem setPort_dict (s : State) (n : Nat) (f : Port → Port) : (setPort s n f).dict = s.dict := (rfl)
@[simp] theorem setPort_blobs (s : State) (n : Nat) (f : Port → Port) : (setPort s n f).blobs = s.blobs := (rfl)
@[simp] theorem setPort_staged (s : State) (n : Nat) (f : Port → Port) : (setPort s n f).staged = s.staged := (rfl)
@[simp] theorem setPort_stagedBlobs (s : State) (n : Nat) (f : Port → Port) : (setPort s n f).stagedBlobs = s.stagedBlobs := (rfl)
@[simp] theorem setPort_stagers (s : State) (n : Nat) (f : Port → Port) : (setPort s n f).stagers = s.stagers := (rfl)
@[simp] theorem setPort_armed (s : State) (n : Nat) (f : Port → Port) : (setPort s n f).armed = s.armed := (rfl)
@[simp] theorem setPort_accs (s : State) (n : Nat) (f : Port → Port) : (setPort s n f).accs = s.accs := (rfl)
@[simp] theorem setPort_sheets (s : State) (n : Nat) (f : Port → Port) : (setPort s n f).sheets = s.sheets := (rfl)
@[simp] theorem setPort_nextUid (s : State) (n : Nat) (f : Port → Port) : (setPort s n f).nextUid = s.nextUid := (rfl)
@[simp] theorem setPort_tenants (s : State) (n : Nat) (f : Port → Port) : (setPort s n f).tenants = s.tenants := (rfl)
@[simp] theorem setPort_coalescing (s : State) (n : Nat) (f : Port → Port) : (setPort s n f).coalescing = s.coalescing := (rfl)
@[simp] theorem setPort_mem (s : State) (n : Nat) (f : Port → Port) : (setPort s n f).mem = s.mem := (rfl)
@[simp] theorem setPort_stations (s : State) (n : Nat) (f : Port → Port) : (setPort s n f).stations = s.stations := (rfl)
@[simp] theorem setPort_trackers (s : State) (n : Nat) (f : Port → Port) : (setPort s n f).trackers = s.trackers := (rfl)
@[simp] theorem setPort_slots (s : State) (n : Nat) (f : Port → Port) : (setPort s n f).slots = s.slots := (rfl)
@[simp] theorem setPort_motors (s : State) (n : Nat) (f : Port → Port) : (setPort s n f).motors = s.motors := (rfl)
@[simp] theorem setPort_axes (s : State) (n : Nat) (f : Port → Port) : (setPort s n f).axes = s.axes := (rfl)
@[simp] theorem setPort_loops (s : State) (n : Nat) (f : Port → Port) : (setPort s n f).loops = s.loops := (rfl)
@[simp] theorem setPort_ains (s : State) (n : Nat) (f : Port → Port) : (setPort s n f).ains = s.ains := (rfl)
@[simp] theorem setPort_pins (s : State) (n : Nat) (f : Port → Port) : (setPort s n f).pins = s.pins := (rfl)
@[simp] theorem setPort_diag (s : State) (n : Nat) (f : Port → Port) : (setPort s n f).diag = s.diag := (rfl)
@[simp] theorem setPort_log (s : State) (n : Nat) (f : Port → Port) : (setPort s n f).log = s.log := (rfl)
@[simp] theorem setPort_heatTicks (s : State) (n : Nat) (f : Port → Port) : (setPort s n f).heatTicks = s.heatTicks := (rfl)
@[simp] theorem setPort_heatFrom (s : State) (n : Nat) (f : Port → Port) : (setPort s n f).heatFrom = s.heatFrom := (rfl)
@[simp] theorem setPort_out (s : State) (n : Nat) (f : Port → Port) : (setPort s n f).out = s.out := (rfl)
@[simp] theorem setPort_fresh (s : State) (n : Nat) (f : Port → Port) : (setPort s n f).fresh = s.fresh := (rfl)
@[simp] theorem setPort_pending (s : State) (n : Nat) (f : Port → Port) : (setPort s n f).pending = s.pending := (rfl)

/-! ## Reading objects -/

/-- An object outside the log block reads from the store. -/
theorem get_dict (s : State) {i : Nat} (j : Nat) (h : isLogIdx i = false) : get s i j = (tabFind s.dict (keyOf i j)).getD (defaultOf i j) := by
  unfold get
  rw [h]
  cases h' : tabFind s.dict (keyOf i j) <;> simp [h']

/-- Two states with the same store read the same objects outside the log block. -/
theorem get_congr {s t : State} (h : t.dict = s.dict) {i : Nat} (j : Nat) (hi : isLogIdx i = false) : get t i j = get s i j := by
  rw [get_dict t j hi, get_dict s j hi, h]

/-- The object just set. -/
theorem get_put_same (s : State) {i : Nat} (j v : Nat) (h : isLogIdx i = false) : get (put s i j v) i j = v := by
  rw [get_dict _ j h]
  simp [put]

/-- Setting an object leaves every other one. -/
theorem get_put_other (s : State) {i j i' j' : Nat} (v : Nat) (h : keyOf i' j' ≠ keyOf i j) : get (put s i j v) i' j' = get s i' j' := by
  cases hl : isLogIdx i' <;> simp [get, put, hl, tabFind_tabSet_other _ _ h]

/-- An object of the log block is not touched by the store. -/
@[simp] theorem get_put_log (s : State) (i j v i' j' : Nat) (h : isLogIdx i' = true) : get (put s i j v) i' j' = get s i' j' := by
  simp [get, h]

/-- The log block's object just set. -/
theorem get_putLog_same (s : State) {i : Nat} (j v : Nat) (h : isLogIdx i = true) : get (putLog s i j v) i j = v := by
  simp [get, putLog, h]

theorem get_putLog_other (s : State) {i j i' j' : Nat} (v : Nat) (h : keyOf i' j' ≠ keyOf i j) : get (putLog s i j v) i' j' = get s i' j' := by
  cases hl : isLogIdx i' <;> simp [get, putLog, hl, tabFind_tabSet_other _ _ h]

@[simp] theorem get_putLog_dict (s : State) (i j v i' j' : Nat) (h : isLogIdx i' = false) : get (putLog s i j v) i' j' = get s i' j' := by
  simp [get, h]

/-! ## Reading records -/

@[simp] theorem rail_setRail_same (s : State) (n : Nat) (f : Rail → Rail) : rail (setRail s n f) n = f (rail s n) := by simp [rail, setRail]
theorem rail_setRail_other (s : State) {n m : Nat} (f : Rail → Rail) (h : m ≠ n) : rail (setRail s n f) m = rail s m := by simp [rail, setRail, tabGet_tabMod_other _ _ _ h]
@[simp] theorem station_setStation_same (s : State) (n : Nat) (f : Station → Station) : station (setStation s n f) n = f (station s n) := by simp [station, setStation]
theorem station_setStation_other (s : State) {n m : Nat} (f : Station → Station) (h : m ≠ n) : station (setStation s n f) m = station s m := by simp [station, setStation, tabGet_tabMod_other _ _ _ h]
@[simp] theorem tracker_setTracker_same (s : State) (n : Nat) (f : Tracker → Tracker) : tracker (setTracker s n f) n = f (tracker s n) := by simp [tracker, setTracker]
theorem tracker_setTracker_other (s : State) {n m : Nat} (f : Tracker → Tracker) (h : m ≠ n) : tracker (setTracker s n f) m = tracker s m := by simp [tracker, setTracker, tabGet_tabMod_other _ _ _ h]
@[simp] theorem motor_setMotor_same (s : State) (n : Nat) (f : Motor → Motor) : motor (setMotor s n f) n = f (motor s n) := by simp [motor, setMotor]
theorem motor_setMotor_other (s : State) {n m : Nat} (f : Motor → Motor) (h : m ≠ n) : motor (setMotor s n f) m = motor s m := by simp [motor, setMotor, tabGet_tabMod_other _ _ _ h]
@[simp] theorem axis_setAxis_same (s : State) (n : Nat) (f : Axis → Axis) : axis (setAxis s n f) n = f (axis s n) := by simp [axis, setAxis]
theorem axis_setAxis_other (s : State) {n m : Nat} (f : Axis → Axis) (h : m ≠ n) : axis (setAxis s n f) m = axis s m := by simp [axis, setAxis, tabGet_tabMod_other _ _ _ h]
@[simp] theorem loop_setLoop_same (s : State) (n : Nat) (f : Loop → Loop) : loop (setLoop s n f) n = f (loop s n) := by simp [loop, setLoop]
theorem loop_setLoop_other (s : State) {n m : Nat} (f : Loop → Loop) (h : m ≠ n) : loop (setLoop s n f) m = loop s m := by simp [loop, setLoop, tabGet_tabMod_other _ _ _ h]
@[simp] theorem ain_setAin_same (s : State) (n : Nat) (f : Ain → Ain) : ain (setAin s n f) n = f (ain s n) := by simp [ain, setAin]
theorem ain_setAin_other (s : State) {n m : Nat} (f : Ain → Ain) (h : m ≠ n) : ain (setAin s n f) m = ain s m := by simp [ain, setAin, tabGet_tabMod_other _ _ _ h]
@[simp] theorem tenant_setTenant_same (s : State) (n : Nat) (f : Tenant → Tenant) : tenant (setTenant s n f) n = f (tenant s n) := by simp [tenant, setTenant]
theorem tenant_setTenant_other (s : State) {n m : Nat} (f : Tenant → Tenant) (h : m ≠ n) : tenant (setTenant s n f) m = tenant s m := by simp [tenant, setTenant, tabGet_tabMod_other _ _ _ h]
@[simp] theorem port_setPort_same (s : State) (n : Nat) (f : Port → Port) : port (setPort s n f) n = f (port s n) := by simp [port, setPort]
theorem port_setPort_other (s : State) {n m : Nat} (f : Port → Port) (h : m ≠ n) : port (setPort s n f) m = port s m := by simp [port, setPort, tabGet_tabMod_other _ _ _ h]

@[simp] theorem get_putBlob (s : State) (i j : Nat) (l : List Byte) (i' j' : Nat) : get (putBlob s i j l) i' j' = get s i' j' := (rfl)
@[simp] theorem get_emit (s : State) (o : Output) (i' j' : Nat) : get (emit s o) i' j' = get s i' j' := (rfl)
@[simp] theorem get_emitAll (s : State) (l : List Output) (i' j' : Nat) : get (emitAll s l) i' j' = get s i' j' := (rfl)
@[simp] theorem get_modSheet (s : State) (u : Nat) (f : Sheet → Sheet) (i' j' : Nat) : get (modSheet s u f) i' j' = get s i' j' := (rfl)
@[simp] theorem get_setRail (s : State) (n : Nat) (f : Rail → Rail) (i' j' : Nat) : get (setRail s n f) i' j' = get s i' j' := (rfl)
@[simp] theorem get_setStation (s : State) (n : Nat) (f : Station → Station) (i' j' : Nat) : get (setStation s n f) i' j' = get s i' j' := (rfl)
@[simp] theorem get_setTracker (s : State) (n : Nat) (f : Tracker → Tracker) (i' j' : Nat) : get (setTracker s n f) i' j' = get s i' j' := (rfl)
@[simp] theorem get_setMotor (s : State) (n : Nat) (f : Motor → Motor) (i' j' : Nat) : get (setMotor s n f) i' j' = get s i' j' := (rfl)
@[simp] theorem get_setAxis (s : State) (n : Nat) (f : Axis → Axis) (i' j' : Nat) : get (setAxis s n f) i' j' = get s i' j' := (rfl)
@[simp] theorem get_setLoop (s : State) (n : Nat) (f : Loop → Loop) (i' j' : Nat) : get (setLoop s n f) i' j' = get s i' j' := (rfl)
@[simp] theorem get_setAin (s : State) (n : Nat) (f : Ain → Ain) (i' j' : Nat) : get (setAin s n f) i' j' = get s i' j' := (rfl)
@[simp] theorem get_setTenant (s : State) (n : Nat) (f : Tenant → Tenant) (i' j' : Nat) : get (setTenant s n f) i' j' = get s i' j' := (rfl)
@[simp] theorem get_setPort (s : State) (n : Nat) (f : Port → Port) (i' j' : Nat) : get (setPort s n f) i' j' = get s i' j' := (rfl)

end Sys2Proof.Machine
end

