-- ==== Sys2Proof/Laws/Ops.lean ====
section
/-! SUPPORT. Laws of the shared operations over the log, the notices, the vectors, the second serves and the SAFESTOP causes: each says
once what the operation can change. -/

namespace Sys2Proof.Machine

/-! ## SameButLog -/

theorem SameButLog.refl (s : State) : SameButLog s s := rfl

/-- What a record update of log, network and output leaves. -/
theorem sameButLog_mk (s : State) (l : Log) (n : Net) (o : List Output) : SameButLog s { s with log := l, net := n, out := o } := rfl

theorem SameButLog.trans {s t u : State} (h : SameButLog s t) (k : SameButLog t u) : SameButLog s u := by
  unfold SameButLog at *
  rw [k, h]

theorem SameButLog.time {s t : State} (h : SameButLog s t) : t.time = s.time := by rw [h]
theorem SameButLog.powered {s t : State} (h : SameButLog s t) : t.powered = s.powered := by rw [h]
theorem SameButLog.md {s t : State} (h : SameButLog s t) : t.md = s.md := by rw [h]
theorem SameButLog.kick {s t : State} (h : SameButLog s t) : t.kick = s.kick := by rw [h]
theorem SameButLog.hold {s t : State} (h : SameButLog s t) : t.hold = s.hold := by rw [h]
theorem SameButLog.reset {s t : State} (h : SameButLog s t) : t.reset_ = s.reset_ := by rw [h]
theorem SameButLog.seq {s t : State} (h : SameButLog s t) : t.seq = s.seq := by rw [h]
theorem SameButLog.rails {s t : State} (h : SameButLog s t) : t.rails = s.rails := by rw [h]
theorem SameButLog.clk {s t : State} (h : SameButLog s t) : t.clk = s.clk := by rw [h]
theorem SameButLog.flash {s t : State} (h : SameButLog s t) : t.flash = s.flash := by rw [h]
theorem SameButLog.dict {s t : State} (h : SameButLog s t) : t.dict = s.dict := by rw [h]
theorem SameButLog.blobs {s t : State} (h : SameButLog s t) : t.blobs = s.blobs := by rw [h]
theorem SameButLog.staged {s t : State} (h : SameButLog s t) : t.staged = s.staged := by rw [h]
theorem SameButLog.stagedBlobs {s t : State} (h : SameButLog s t) : t.stagedBlobs = s.stagedBlobs := by rw [h]
theorem SameButLog.stagers {s t : State} (h : SameButLog s t) : t.stagers = s.stagers := by rw [h]
theorem SameButLog.armed {s t : State} (h : SameButLog s t) : t.armed = s.armed := by rw [h]
theorem SameButLog.accs {s t : State} (h : SameButLog s t) : t.accs = s.accs := by rw [h]
theorem SameButLog.sheets {s t : State} (h : SameButLog s t) : t.sheets = s.sheets := by rw [h]
theorem SameButLog.nextUid {s t : State} (h : SameButLog s t) : t.nextUid = s.nextUid := by rw [h]
theorem SameButLog.tenants {s t : State} (h : SameButLog s t) : t.tenants = s.tenants := by rw [h]
theorem SameButLog.coalescing {s t : State} (h : SameButLog s t) : t.coalescing = s.coalescing := by rw [h]
theorem SameButLog.mem {s t : State} (h : SameButLog s t) : t.mem = s.mem := by rw [h]
theorem SameButLog.stations {s t : State} (h : SameButLog s t) : t.stations = s.stations := by rw [h]
theorem SameButLog.trackers {s t : State} (h : SameButLog s t) : t.trackers = s.trackers := by rw [h]
theorem SameButLog.slots {s t : State} (h : SameButLog s t) : t.slots = s.slots := by rw [h]
theorem SameButLog.motors {s t : State} (h : SameButLog s t) : t.motors = s.motors := by rw [h]
theorem SameButLog.axes {s t : State} (h : SameButLog s t) : t.axes = s.axes := by rw [h]
theorem SameButLog.loops {s t : State} (h : SameButLog s t) : t.loops = s.loops := by rw [h]
theorem SameButLog.ains {s t : State} (h : SameButLog s t) : t.ains = s.ains := by rw [h]
theorem SameButLog.pins {s t : State} (h : SameButLog s t) : t.pins = s.pins := by rw [h]
theorem SameButLog.diag {s t : State} (h : SameButLog s t) : t.diag = s.diag := by rw [h]
theorem SameButLog.heatTicks {s t : State} (h : SameButLog s t) : t.heatTicks = s.heatTicks := by rw [h]
theorem SameButLog.heatFrom {s t : State} (h : SameButLog s t) : t.heatFrom = s.heatFrom := by rw [h]
theorem SameButLog.fresh {s t : State} (h : SameButLog s t) : t.fresh = s.fresh := by rw [h]
theorem SameButLog.pending {s t : State} (h : SameButLog s t) : t.pending = s.pending := by rw [h]

/-- An object outside the log block reads as before. -/
theorem SameButLog.get {s t : State} (h : SameButLog s t) {i : Nat} (j : Nat) (hi : isLogIdx i = false) :
    Machine.get t i j = Machine.get s i j := get_congr h.dict j hi

theorem putLog_sameButLog (s : State) (i j v : Nat) : SameButLog s (putLog s i j v) := rfl
theorem emit_sameButLog (s : State) (o : Output) : SameButLog s (emit s o) := rfl
theorem emitAll_sameButLog (s : State) (l : List Output) : SameButLog s (emitAll s l) := rfl
theorem wrapLog_sameButLog (w : Nat) (s : State) (i j : Nat) : SameButLog s (wrapLog w s i j) := rfl
theorem satLog_sameButLog (w : Nat) (s : State) (i j : Nat) : SameButLog s (satLog w s i j) := rfl

theorem vector_sameButLog (s : State) (f v : Nat) : SameButLog s (vector s f v) := by
  unfold vector
  split
  · exact emit_sameButLog _ _
  · exact .refl s

theorem mirrorWrite_sameButLog (s : State) (e : Entry) : SameButLog s (mirrorWrite s e) := by
  unfold mirrorWrite
  split
  · exact .refl s
  · split
    · exact .trans (sameButLog_mk s _ s.net s.out) (emit_sameButLog _ _)
    · simp only
      split
      · exact .trans (sameButLog_mk s _ s.net s.out) (satLog_sameButLog _ _ _ _)
      · exact sameButLog_mk s _ s.net s.out

theorem ringWrite_sameButLog (s : State) (e : Entry) : SameButLog s (ringWrite s e) := by
  unfold ringWrite
  have h : SameButLog s (if s.log.ring.length < 4096 then s else satLog 32 s 0x2410 5) := by
    split
    · exact .refl s
    · exact satLog_sameButLog _ _ _ _
  simp only
  generalize (if s.log.ring.length < 4096 then s else satLog 32 s 0x2410 5) = u at h ⊢
  have k (l : Log) (i j v : Nat) : SameButLog s (putLog { u with log := l } i j v) :=
    .trans h (.trans (sameButLog_mk u l u.net u.out) (putLog_sameButLog _ _ _ _))
  split
  · exact .trans (k _ _ _ _) (mirrorWrite_sameButLog _ _)
  · exact k _ _ _ _

theorem notice_sameButLog (s : State) (i j c : Nat) : SameButLog s (notice s i j c) := by
  unfold notice
  have k (u : State) (h : SameButLog s u) (n : Net) : SameButLog s { u with net := n } := .trans h (sameButLog_mk u u.log n u.out)
  have h (b : Bool) : SameButLog s (if b then { s with log := { s.log with notices := (noticePush s.log.notices (keyOf i j) c).1 } } else satLog 16 s 0x2420 2) := by
    split
    · exact sameButLog_mk s _ s.net s.out
    · exact satLog_sameButLog _ _ _ _
  simp only
  split
  · exact .trans (k _ (h _) _) (vector_sameButLog _ _ _)
  · exact k _ (h _) _

theorem noticeAlone_sameButLog (s : State) (i j c : Nat) : SameButLog s (noticeAlone s i j c) :=
  .trans (notice_sameButLog _ _ _ _) (vector_sameButLog _ _ _)

theorem classVectors_sameButLog (s : State) (c : Nat) : SameButLog s (classVectors s c) := by
  unfold classVectors
  split
  · exact .trans (vector_sameButLog _ _ _) (vector_sameButLog _ _ _)
  · split
    · exact vector_sameButLog _ _ _
    · exact .refl s

theorem logOnly_sameButLog (s : State) (cls kind src inst i j : Nat) (ser : Option Nat) (d : Nat) :
    SameButLog s (logOnly s cls kind src inst i j ser d) := by
  unfold logOnly
  refine .trans ?_ (classVectors_sameButLog _ _)
  simp only
  split
  · exact ringWrite_sameButLog _ _
  · split
    · exact sameButLog_mk s _ s.net s.out
    · exact satLog_sameButLog _ _ _ _

/-- A log entry changes the log block, the waiting notices and the vectors sent, nothing else (R558, R577). -/
theorem log_sameButLog (s : State) (cls kind src inst i j : Nat) (ser : Option Nat) (d : Nat) :
    SameButLog s (log s cls kind src inst i j ser d) := by
  unfold log
  simp only
  split
  · exact .trans (logOnly_sameButLog _ _ _ _ _ _ _ _ _) (notice_sameButLog _ _ _ _)
  · exact logOnly_sameButLog _ _ _ _ _ _ _ _ _

theorem logEvent_sameButLog (s : State) (cls src inst i j : Nat) : SameButLog s (logEvent s cls src inst i j) := log_sameButLog _ _ _ _ _ _ _ _ _

theorem serveDrop_sameButLog (s : State) (m : Mech) (n : Nat) : SameButLog s (serveDrop s m n) := sameButLog_mk s _ s.net s.out

/-- The list of second serves replaced. -/
theorem serves_sameButLog (s : State) (l : List Serve) : SameButLog s { s with log := { s.log with serves := l } } := sameButLog_mk s _ s.net s.out

theorem serveBegin_sameButLog (s : State) (m : Mech) (n code src i j : Nat) : SameButLog s (serveBegin s m n code src i j) := by
  unfold serveBegin
  refine .trans ?_ (log_sameButLog _ _ _ _ _ _ _ _ _)
  exact .trans (serveDrop_sameButLog s m n) (.trans (serves_sameButLog _ _) (wrapLog_sameButLog _ _ _ _))

theorem servePass_sameButLog (s : State) (m : Mech) (n src i j : Nat) : SameButLog s (servePass s m n src i j) := by
  unfold servePass
  split
  · exact .refl s
  · split
    · refine .trans ?_ (log_sameButLog _ _ _ _ _ _ _ _ _)
      exact .trans (serveDrop_sameButLog s m n) (.trans (serves_sameButLog _ _) (wrapLog_sameButLog _ _ _ _))
    · exact .refl s

theorem doubleFaultAs_sameButLog (c : Nat) (s : State) (m : Mech) (n code src i j : Nat) :
    SameButLog s (doubleFaultAs c s m n code src i j) := by
  unfold doubleFaultAs
  refine .trans ?_ (log_sameButLog _ _ _ _ _ _ _ _ _)
  exact .trans (serveDrop_sameButLog s m n) (satLog_sameButLog _ _ _ _)

theorem doubleFault_sameButLog (s : State) (m : Mech) (n code src i j : Nat) : SameButLog s (doubleFault s m n code src i j) :=
  doubleFaultAs_sameButLog _ _ _ _ _ _ _ _

theorem serveCancel_sameButLog (s : State) (m : Mech) (n src i j : Nat) : SameButLog s (serveCancel s m n src i j) := by
  unfold serveCancel
  split
  · exact .refl s
  · split
    · refine .trans ?_ (log_sameButLog _ _ _ _ _ _ _ _ _)
      exact .trans (serveDrop_sameButLog s m n) (satLog_sameButLog _ _ _ _)
    · exact .refl s

theorem causeAdd_sameButLog (s : State) (c n : Nat) : SameButLog s (causeAdd s c n) := by
  unfold causeAdd
  split
  · exact .refl s
  · exact sameButLog_mk s _ s.net s.out

theorem causeEnd_sameButLog (s : State) (c n : Nat) : SameButLog s (causeEnd s c n) := by
  unfold causeEnd
  split
  · simp only
    split
    · exact sameButLog_mk s _ s.net s.out
    · exact .trans (sameButLog_mk s _ s.net s.out) (log_sameButLog _ _ _ _ _ _ _ _ _)
  · exact .refl s

theorem causeEndAll_sameButLog (s : State) (p : Nat → Nat → Bool) : SameButLog s (causeEndAll s p) := by
  unfold causeEndAll
  generalize s.log.causes.filter (fun q => p q.1 q.2) = l
  have h : ∀ (l : List (Nat × Nat)) (u : State), SameButLog s u → SameButLog s (l.foldl (fun t q => causeEnd t q.1 q.2) u) := by
    intro l
    induction l with
    | nil => exact fun _ hu => hu
    | cons q r ih => exact fun u hu => ih _ (.trans hu (causeEnd_sameButLog _ _ _))
  exact h l s (.refl s)

end Sys2Proof.Machine
end

