-- ==== Sys2Proof/Laws/LogBounds.lean ====
section
/-! SUPPORT. Every operation and every meaning keeps the log block within its bounds (R568, R570, R574, R578): one lemma per operation and per
meaning. -/

namespace Sys2Proof.Machine

/-! ## Choices and folds -/

/-- The bounds of `LogBounds`, said of the log alone, so that one lemma serves every state that has it. -/
def LogBound (l : Log) : Prop := l.ring.length ≤ 4096 ∧ l.early.length ≤ 32 ∧ l.pending.length ≤ 64 ∧ l.notices.length ≤ 128
@[simp] theorem logBound_mk (d r e m a p f n v c z) : LogBound ⟨d, r, e, m, a, p, f, n, v, c, z⟩ ↔
    r.length ≤ 4096 ∧ e.length ≤ 32 ∧ p.length ≤ 64 ∧ n.length ≤ 128 := Iff.rfl
@[simp] theorem LogBound.ring_len {l : Log} (h : LogBound l) : l.ring.length ≤ 4096 := h.1
@[simp] theorem LogBound.early_len {l : Log} (h : LogBound l) : l.early.length ≤ 32 := h.2.1
@[simp] theorem LogBound.pending_len {l : Log} (h : LogBound l) : l.pending.length ≤ 64 := h.2.2.1
@[simp] theorem LogBound.notices_len {l : Log} (h : LogBound l) : l.notices.length ≤ 128 := h.2.2.2

@[simp] theorem ite_logBound (c : Prop) [Decidable c] (a b : State) :
  LogBound (if c then a else b).log ↔ if c then LogBound a.log else LogBound b.log := by
  split <;> rfl
@[simp] theorem ite_logBound1 {α : Type} (c : Prop) [Decidable c] (a b : State × α) :
    LogBound (if c then a else b).1.log ↔ if c then LogBound a.1.log else LogBound b.1.log := by split <;> rfl
@[simp] theorem foldl_logBound {α : Type} (l : List α) (f : State → α → State) (s : State) (hf : ∀ u x, LogBound u.log → LogBound (f u x).log)
    (h : LogBound s.log) : LogBound (l.foldl f s).log := by
  induction l generalizing s with
  | nil => exact h
  | cons a r ih => exact ih _ (hf _ _ h)
@[simp] theorem foldl_logBound1 {α β : Type} (l : List α) (f : State × β → α → State × β) (s : State × β)
    (hf : ∀ u x, LogBound u.1.log → LogBound (f u x).1.log) (h : LogBound s.1.log) : LogBound (l.foldl f s).1.log := by
  induction l generalizing s with
  | nil => exact h
  | cons a r ih => exact ih _ (hf _ _ h)
@[simp] theorem foldr_logBound {α : Type} (l : List α) (f : α → State → State) (s : State) (hf : ∀ u x, LogBound u.log → LogBound (f x u).log)
    (h : LogBound s.log) : LogBound (l.foldr f s).log := by
  induction l with
  | nil => exact h
  | cons a r ih => exact hf _ _ ih
@[simp] theorem forEach_logBound (l : List Nat) (f : State → Nat → State) (s : State) (hf : ∀ u x, LogBound u.log → LogBound (f u x).log)
    (h : LogBound s.log) : LogBound (forEach l f s).log := foldl_logBound l f s hf h

/-! ## Ops -/

@[simp] theorem put_logBound (s : State) (idx sub v : Nat) (hlog : LogBound s.log) : LogBound (put s idx sub v).log := hlog
@[simp] theorem putS_logBound (s : State) (w idx sub : Nat) (v : Int) (hlog : LogBound s.log) : LogBound (putS s w idx sub v).log := hlog
@[simp] theorem wrapBy_logBound (w : Nat) (s : State) (idx sub n : Nat) (hlog : LogBound s.log) : LogBound (wrapBy w s idx sub n).log := hlog
@[simp] theorem satBy_logBound (w : Nat) (s : State) (idx sub n : Nat) (hlog : LogBound s.log) : LogBound (satBy w s idx sub n).log := hlog
@[simp] theorem bump_logBound (s : State) (idx sub : Nat) (hlog : LogBound s.log) : LogBound (bump s idx sub).log := hlog
@[simp] theorem sat_logBound (s : State) (idx sub : Nat) (hlog : LogBound s.log) : LogBound (sat s idx sub).log := hlog
@[simp] theorem putBlob_logBound (s : State) (idx sub : Nat) (l : List Byte) (hlog : LogBound s.log) : LogBound (putBlob s idx sub l).log := hlog
@[simp] theorem emit_logBound (s : State) (o : Output) (hlog : LogBound s.log) : LogBound (emit s o).log := hlog
@[simp] theorem emitAll_logBound (s : State) (l : List Output) (hlog : LogBound s.log) : LogBound (emitAll s l).log := hlog
@[simp] theorem setRail_logBound (s : State) (n : Nat) (f : Rail → Rail) (hlog : LogBound s.log) : LogBound (setRail s n f).log := hlog
@[simp] theorem setStation_logBound (s : State) (n : Nat) (f : Station → Station) (hlog : LogBound s.log) : LogBound (setStation s n f).log := hlog
@[simp] theorem setTracker_logBound (s : State) (n : Nat) (f : Tracker → Tracker) (hlog : LogBound s.log) : LogBound (setTracker s n f).log := hlog
@[simp] theorem setMotor_logBound (s : State) (n : Nat) (f : Motor → Motor) (hlog : LogBound s.log) : LogBound (setMotor s n f).log := hlog
@[simp] theorem setAxis_logBound (s : State) (n : Nat) (f : Axis → Axis) (hlog : LogBound s.log) : LogBound (setAxis s n f).log := hlog
@[simp] theorem setLoop_logBound (s : State) (n : Nat) (f : Loop → Loop) (hlog : LogBound s.log) : LogBound (setLoop s n f).log := hlog
@[simp] theorem setAin_logBound (s : State) (n : Nat) (f : Ain → Ain) (hlog : LogBound s.log) : LogBound (setAin s n f).log := hlog
@[simp] theorem setTenant_logBound (s : State) (n : Nat) (f : Tenant → Tenant) (hlog : LogBound s.log) : LogBound (setTenant s n f).log := hlog
@[simp] theorem setPort_logBound (s : State) (n : Nat) (f : Port → Port) (hlog : LogBound s.log) : LogBound (setPort s n f).log := hlog
@[simp] theorem holdTime_logBound (s : State) (hlog : LogBound s.log) : LogBound (holdTime s).log := hlog
@[simp] theorem vector_logBound (s : State) (fn vec : Nat) (hlog : LogBound s.log) : LogBound (vector s fn vec).log := by
  unfold vector; simp (maxDischargeDepth := 60) +contextual [hlog]
@[simp] theorem putLog_logBound (s : State) (idx sub v : Nat) (hlog : LogBound s.log) : LogBound (putLog s idx sub v).log := hlog
@[simp] theorem wrapLog_logBound (w : Nat) (s : State) (idx sub : Nat) (hlog : LogBound s.log) : LogBound (wrapLog w s idx sub).log := hlog
@[simp] theorem satLog_logBound (w : Nat) (s : State) (idx sub : Nat) (hlog : LogBound s.log) : LogBound (satLog w s idx sub).log := hlog
@[simp] theorem tick_logBound (s : State) (hlog : LogBound s.log) : LogBound (tick s).log := by
  unfold tick; simp (maxDischargeDepth := 60) +contextual [hlog]
theorem mirrorPlace_logBound (l m : Log) (e : Entry) (h : LogBound l) (k : mirrorPlace l e = some m) : LogBound m := by
  unfold mirrorPlace at k
  (repeat' split at k) <;> cases k <;> exact h
@[simp] theorem pendingPush_len (q : List Entry) (e : Entry) (h : q.length ≤ 64) : (pendingPush q e).1.length ≤ 64 := by
  unfold pendingPush
  split
  · simp; omega
  · split
    · exact h
    · split
      · rename_i f hf
        have hm := List.mem_of_find?_eq_some hf
        have := List.length_erase_of_mem hm
        have hp : 0 < q.length := List.length_pos_of_mem hm
        simp; omega
      · exact h
@[simp] theorem mirrorWrite_logBound (s : State) (e : Entry) (hlog : LogBound s.log) : LogBound (mirrorWrite s e).log := by
  unfold mirrorWrite
  split
  · exact hlog
  · split
    · rename_i l hl
      split at hl
      · exact mirrorPlace_logBound _ _ _ hlog hl
      · cases hl
    · simp only
      split <;> simp (maxDischargeDepth := 60) +contextual [hlog]
@[simp] theorem ringWrite_logBound (s : State) (e : Entry) (hlog : LogBound s.log) : LogBound (ringWrite s e).log := by
  have hs : LogBound (if s.log.ring.length < 4096 then s else satLog 32 s 0x2410 5).log := by simp [hlog]
  unfold ringWrite
  simp only
  generalize (if s.log.ring.length < 4096 then s else satLog 32 s 0x2410 5) = u at hs ⊢
  have k (x : Entry) (v : Nat) : LogBound (putLog { u with log := { u.log with ring := (x :: u.log.ring).take 4096 } } 0x2410 3 v).log :=
    putLog_logBound _ _ _ _ ⟨List.length_take_le _ _, hs.2⟩
  split
  · exact mirrorWrite_logBound _ _ (k _ _)
  · exact k _ _
theorem noticePush_len (l : List (Nat × Nat × Nat)) (k c : Nat) :
    (noticePush l k c).1.length ≤ l.length + 1 ∧ ((l.any fun r => r.1 == k) = true → (noticePush l k c).1.length = l.length) := by
  induction l with
  | nil => simp [noticePush]
  | cons a t ih =>
    obtain ⟨k', c', n⟩ := a
    unfold noticePush
    split
    · simp
    · rename_i hne
      simp [hne] at ih ⊢
      exact ih
@[simp] theorem notice_logBound (s : State) (idx sub cls : Nat) (hlog : LogBound s.log) : LogBound (notice s idx sub cls).log := by
  have hl := noticePush_len s.log.notices (keyOf idx sub) cls
  have h4 := hlog.2.2.2
  have hn : LogBound (if s.log.notices.any (fun r => r.1 == keyOf idx sub) || decide (s.log.notices.length < 128) then
      { s with log := { s.log with notices := (noticePush s.log.notices (keyOf idx sub) cls).1 } } else satLog 16 s 0x2420 2).log := by
    split
    · rename_i hc
      refine ⟨hlog.1, hlog.2.1, hlog.2.2.1, ?_⟩
      rcases Bool.or_eq_true _ _ ▸ hc with hc | hc
      · exact Nat.le_trans (Nat.le_of_eq (hl.2 hc)) h4
      · have := of_decide_eq_true hc
        exact Nat.le_trans hl.1 this
    · simp [hlog]
  unfold notice
  simp only
  split <;> simp [hn]
@[simp] theorem noticeAlone_logBound (s : State) (idx sub cls : Nat) (hlog : LogBound s.log) : LogBound (noticeAlone s idx sub cls).log := by
  unfold noticeAlone; simp (maxDischargeDepth := 60) +contextual [hlog]
@[simp] theorem classVectors_logBound (s : State) (cls : Nat) (hlog : LogBound s.log) : LogBound (classVectors s cls).log := by
  unfold classVectors; simp (maxDischargeDepth := 60) +contextual [hlog]
@[simp] theorem logOnly_logBound (s : State) (cls kind src inst idx sub : Nat) (serial : Option Nat) (detail : Nat) (hlog : LogBound s.log) :
    LogBound (logOnly s cls kind src inst idx sub serial detail).log := by
  unfold logOnly
  simp only
  apply classVectors_logBound
  (repeat' split) <;> simp (maxDischargeDepth := 60) +contextual [hlog]
  omega
@[simp] theorem log_logBound (s : State) (cls kind src inst idx sub : Nat) (serial : Option Nat) (detail : Nat) (hlog : LogBound s.log) :
  LogBound (log s cls kind src inst idx sub serial detail).log := by unfold log; simp (maxDischargeDepth := 60) +contextual [hlog]
@[simp] theorem logEvent_logBound (s : State) (cls src inst idx sub : Nat) (hlog : LogBound s.log) :
  LogBound (logEvent s cls src inst idx sub).log := by unfold logEvent; simp (maxDischargeDepth := 60) +contextual [hlog]
@[simp] theorem serveDrop_logBound (s : State) (m : Mech) (inst : Nat) (hlog : LogBound s.log) : LogBound (serveDrop s m inst).log := hlog
@[simp] theorem serveBegin_logBound (s : State) (m : Mech) (inst code src idx sub : Nat) (hlog : LogBound s.log) :
  LogBound (serveBegin s m inst code src idx sub).log := by unfold serveBegin; simp (maxDischargeDepth := 60) +contextual [hlog]
@[simp] theorem servePass_logBound (s : State) (m : Mech) (inst src idx sub : Nat) (hlog : LogBound s.log) :
  LogBound (servePass s m inst src idx sub).log := by unfold servePass; split <;> simp (maxDischargeDepth := 60) +contextual [hlog]
@[simp] theorem doubleFaultAs_logBound (cls : Nat) (s : State) (m : Mech) (inst code src idx sub : Nat) (hlog : LogBound s.log) :
  LogBound (doubleFaultAs cls s m inst code src idx sub).log := by unfold doubleFaultAs; simp (maxDischargeDepth := 60) +contextual [hlog]
@[simp] theorem doubleFault_logBound (s : State) (m : Mech) (inst code src idx sub : Nat) (hlog : LogBound s.log) :
  LogBound (doubleFault s m inst code src idx sub).log := by unfold doubleFault; simp (maxDischargeDepth := 60) +contextual [hlog]
@[simp] theorem serveCancel_logBound (s : State) (m : Mech) (inst src idx sub : Nat) (hlog : LogBound s.log) :
  LogBound (serveCancel s m inst src idx sub).log := by unfold serveCancel; split <;> simp (maxDischargeDepth := 60) +contextual [hlog]
@[simp] theorem watch_logBound (high : Bool) (s : State) (idx sub old v : Nat) (hlog : LogBound s.log) :
  LogBound (watch high s idx sub old v).log := by unfold watch; simp (maxDischargeDepth := 60) +contextual [hlog]
@[simp] theorem causeAdd_logBound (s : State) (c inst : Nat) (hlog : LogBound s.log) : LogBound (causeAdd s c inst).log := by
  unfold causeAdd; simp (maxDischargeDepth := 60) +contextual [hlog]
@[simp] theorem causeEnd_logBound (s : State) (c inst : Nat) (hlog : LogBound s.log) : LogBound (causeEnd s c inst).log := by
  unfold causeEnd; simp (maxDischargeDepth := 60) +contextual [hlog]
@[simp] theorem causeEndAll_logBound (s : State) (p : Nat → Nat → Bool) (hlog : LogBound s.log) : LogBound (causeEndAll s p).log := by
  unfold causeEndAll; simp (maxDischargeDepth := 60) +contextual [hlog]

/-! ## Sheets -/

@[simp] theorem modSheet_logBound (s : State) (uid : Nat) (f : Sheet → Sheet) (hlog : LogBound s.log) : LogBound (modSheet s uid f).log := hlog
@[simp] theorem setSlots_logBound (s : State) (l : Tab Event) (hlog : LogBound s.log) : LogBound (setSlots s l).log := by
  unfold setSlots; simp (maxDischargeDepth := 60) +contextual [hlog]
@[simp] theorem addEvent_logBound (s : State) (lo hi : Nat) (e : Event) (hlog : LogBound s.log) : LogBound (addEvent s lo hi e).log := by
  unfold addEvent; split <;> simp (maxDischargeDepth := 60) +contextual [hlog]
@[simp] theorem dropEvents_logBound (s : State) (p : Event → Bool) (hlog : LogBound s.log) : LogBound (dropEvents s p).log := by
  unfold dropEvents; simp (maxDischargeDepth := 60) +contextual [hlog]
@[simp] theorem writeEntry_logBound (s : State) (t : Nat) (l : List Byte) (hlog : LogBound s.log) : LogBound (writeEntry s t l).log := hlog
@[simp] theorem signalEntry_logBound (s : State) (t : Nat) (hlog : LogBound s.log) : LogBound (signalEntry s t).log := by
  unfold signalEntry; simp (maxDischargeDepth := 60) +contextual [hlog]
@[simp] theorem writeSignal_logBound (s : State) (t : Nat) (h : Held) (hlog : LogBound s.log) : LogBound (writeSignal s t h).log := by
  unfold writeSignal; simp (maxDischargeDepth := 60) +contextual [hlog]
@[simp] theorem deliver_logBound (s : State) (t : Nat) (h : Held) (hlog : LogBound s.log) : LogBound (deliver s t h).log := by
  unfold deliver; simp (maxDischargeDepth := 60) +contextual [hlog]
@[simp] theorem flushHeld_logBound (t a : Nat) (a1 : State) (hlog : LogBound a1.log) : LogBound (flushHeld t a a1).log := by
  fun_induction flushHeld t a a1 <;> simp (maxDischargeDepth := 60) +contextual [*]
@[simp] theorem countOutcome_logBound (s : State) (outcome : Nat) (hlog : LogBound s.log) : LogBound (countOutcome s outcome).log := by
  unfold countOutcome; simp (maxDischargeDepth := 60) +contextual [hlog]
@[simp] theorem completion_logBound (s : State) (sh : Sheet) (outcome reason : Nat) (double : Bool) (hlog : LogBound s.log) :
  LogBound (completion s sh outcome reason double).log := by unfold completion; simp (maxDischargeDepth := 60) +contextual [hlog]
@[simp] theorem toScrubbing_logBound (s : State) (t : Nat) (hlog : LogBound s.log) : LogBound (toScrubbing s t).log := by
  unfold toScrubbing; simp (maxDischargeDepth := 60) +contextual [hlog]
@[simp] theorem ghostCheck_logBound (s : State) (t : Nat) (hlog : LogBound s.log) : LogBound (ghostCheck s t).log := by
  unfold ghostCheck; simp (maxDischargeDepth := 60) +contextual [hlog]
@[simp] theorem removeSheet_logBound (s : State) (uid : Nat) (hlog : LogBound s.log) : LogBound (removeSheet s uid).log := by
  unfold removeSheet; simp (maxDischargeDepth := 60) +contextual [hlog]
@[simp] theorem enterWaiting_logBound (s : State) (hlog : LogBound s.log) : LogBound (enterWaiting s).log := by
  unfold enterWaiting; simp (maxDischargeDepth := 60) +contextual [hlog]
@[simp] theorem finishSheet_logBound (s : State) (sh : Sheet) (hlog : LogBound s.log) : LogBound (finishSheet s sh).log := by
  unfold finishSheet; simp (maxDischargeDepth := 60) +contextual [hlog]
@[simp] theorem overtaken_logBound (s : State) (uid : Nat) (hlog : LogBound s.log) : LogBound (overtaken s uid).log := hlog
@[simp] theorem spillSheet_logBound (s : State) (uid : Nat) (st : Option Nat) (hlog : LogBound s.log) : LogBound (spillSheet s uid st).log := hlog
@[simp] theorem spillWhere_logBound (s : State) (p : Sheet → Bool) (st : Option Nat) (hlog : LogBound s.log) :
  LogBound (spillWhere s p st).log := hlog
@[simp] theorem spillStation_logBound (s : State) (st : Nat) (hlog : LogBound s.log) : LogBound (spillStation s st).log := hlog
@[simp] theorem spillPath_logBound (s : State) (b : Nat) (hlog : LogBound s.log) : LogBound (spillPath s b).log := hlog
@[simp] theorem spoilAll_logBound (s : State) (hlog : LogBound s.log) : LogBound (spoilAll s).log := by
  unfold spoilAll; simp (maxDischargeDepth := 60) +contextual [hlog]

/-! ## MotorOps -/

@[simp] theorem setMotorState_logBound (s : State) (m v : Nat) (hlog : LogBound s.log) : LogBound (setMotorState s m v).log := hlog
@[simp] theorem gatesOff_logBound (s : State) (m : Nat) (hlog : LogBound s.log) : LogBound (gatesOff s m).log := hlog
@[simp] theorem motorOff_logBound (s : State) (m : Nat) (hlog : LogBound s.log) : LogBound (motorOff s m).log := hlog
@[simp] theorem startRamp_logBound (s : State) (m : Nat) (v : Int) (d : Nat) (hlog : LogBound s.log) : LogBound (startRamp s m v d).log := hlog
@[simp] theorem spinUp_logBound (s : State) (m : Nat) (hlog : LogBound s.log) : LogBound (spinUp s m).log := by
  unfold spinUp; simp (maxDischargeDepth := 60) +contextual [hlog]
@[simp] theorem unlock_logBound (s : State) (m : Nat) (hlog : LogBound s.log) : LogBound (unlock s m).log := by
  unfold unlock; simp (maxDischargeDepth := 60) +contextual [hlog]
@[simp] theorem commandEntry_logBound (s : State) (m k : Nat) (hlog : LogBound s.log) : LogBound (commandEntry s m k).log := by
  unfold commandEntry; simp (maxDischargeDepth := 60) +contextual [hlog]
@[simp] theorem brakeMotor_logBound (s : State) (m : Nat) (hlog : LogBound s.log) : LogBound (brakeMotor s m).log := by
  unfold brakeMotor; simp (maxDischargeDepth := 60) +contextual [hlog]
@[simp] theorem rampStop_logBound (s : State) (m : Nat) (hlog : LogBound s.log) : LogBound (rampStop s m).log := by
  unfold rampStop; simp (maxDischargeDepth := 60) +contextual [hlog]
@[simp] theorem shortLowSides_logBound (s : State) (m : Nat) (hlog : LogBound s.log) : LogBound (shortLowSides s m).log := hlog
@[simp] theorem driveGates_logBound (s : State) (m : Nat) (hlog : LogBound s.log) : LogBound (driveGates s m).log := by
  unfold driveGates; simp (maxDischargeDepth := 60) +contextual [hlog]
@[simp] theorem motorFaultRecord_logBound (s : State) (m code : Nat) (hlog : LogBound s.log) : LogBound (motorFaultRecord s m code).log := by
  unfold motorFaultRecord; simp (maxDischargeDepth := 60) +contextual [hlog]
@[simp] theorem motorReached_logBound (s : State) (m : Nat) (hlog : LogBound s.log) : LogBound (motorReached s m).log := by
  unfold motorReached; simp (maxDischargeDepth := 60) +contextual [hlog]
@[simp] theorem beginRun_logBound (s : State) (m : Nat) (hlog : LogBound s.log) : LogBound (beginRun s m).log := hlog
@[simp] theorem restartMotor_logBound (s : State) (m : Nat) (hlog : LogBound s.log) : LogBound (restartMotor s m).log := by
  unfold restartMotor; simp (maxDischargeDepth := 60) +contextual [hlog]

/-! ## AxisOps -/

@[simp] theorem setHomed_logBound (s : State) (a : Nat) (b : Bool) (hlog : LogBound s.log) : LogBound (setHomed s a b).log := hlog
@[simp] theorem settlePosition_logBound (s : State) (a : Nat) (pos : Int) (steps : Nat) (hlog : LogBound s.log) :
  LogBound (settlePosition s a pos steps).log := hlog
@[simp] theorem toStandstill_logBound (s : State) (a : Nat) (hlog : LogBound s.log) : LogBound (toStandstill s a).log := hlog
@[simp] theorem runMove_logBound (s : State) (a : Nat) (m : Move) (wait : Nat) (hlog : LogBound s.log) : LogBound (runMove s a m wait).log := hlog
@[simp] theorem noMove_logBound (s : State) (a : Nat) (hlog : LogBound s.log) : LogBound (noMove s a).log := hlog
@[simp] theorem startMove_logBound (s : State) (a : Nat) (m : Move) (hlog : LogBound s.log) : LogBound (startMove s a m).log := by
  unfold startMove; simp (maxDischargeDepth := 60) +contextual [hlog]
@[simp] theorem startGroup_logBound (s : State) (l : List (Nat × Move)) (hlog : LogBound s.log) : LogBound (startGroup s l).log := by
  unfold startGroup; simp (maxDischargeDepth := 60) +contextual [hlog]
@[simp] theorem groupMove_logBound (s : State) (g r : Nat) (hlog : LogBound s.log) : LogBound (groupMove s g r).log := by
  unfold groupMove; split <;> simp (maxDischargeDepth := 60) +contextual [hlog]
@[simp] theorem moveOverrun_logBound (s : State) (a : Nat) (hlog : LogBound s.log) : LogBound (moveOverrun s a).log := by
  unfold moveOverrun; simp (maxDischargeDepth := 60) +contextual [hlog]
@[simp] theorem fireMove_logBound (s : State) (a r : Nat) (hlog : LogBound s.log) : LogBound (fireMove s a r).1.log := by
  unfold fireMove; simp only; (repeat' split) <;> simp (maxDischargeDepth := 60) +contextual [hlog]
@[simp] theorem endMove_logBound (s : State) (a : Nat) (hlog : LogBound s.log) : LogBound (endMove s a).log := by
  unfold endMove; simp only; (repeat' split) <;> simp (maxDischargeDepth := 60) +contextual [hlog]
@[simp] theorem hardStop_logBound (s : State) (a : Nat) (hlog : LogBound s.log) : LogBound (hardStop s a).log := by
  unfold hardStop; simp only; (repeat' split) <;> simp (maxDischargeDepth := 60) +contextual [hlog]
@[simp] theorem slowStop_logBound (s : State) (a : Nat) (dec : Option Nat) (hlog : LogBound s.log) : LogBound (slowStop s a dec).log := by
  unfold slowStop; simp only; (repeat' split) <;> simp (maxDischargeDepth := 60) +contextual [hlog]
@[simp] theorem rampedStop_logBound (s : State) (a : Nat) (hlog : LogBound s.log) : LogBound (rampedStop s a).log := by
  unfold rampedStop; simp (maxDischargeDepth := 60) +contextual [hlog]
@[simp] theorem stopAxis_logBound (s : State) (a : Nat) (hard : Bool) (hlog : LogBound s.log) : LogBound (stopAxis s a hard).log := by
  unfold stopAxis; simp (maxDischargeDepth := 60) +contextual [hlog]
@[simp] theorem resumeAxis_logBound (s : State) (a : Nat) (hlog : LogBound s.log) : LogBound (resumeAxis s a).log := by
  unfold resumeAxis; simp (maxDischargeDepth := 60) +contextual [hlog]
@[simp] theorem safestopAxis_logBound (s : State) (a : Nat) (hlog : LogBound s.log) : LogBound (safestopAxis s a).log := by
  unfold safestopAxis; simp (maxDischargeDepth := 60) +contextual [hlog]
@[simp] theorem homingDone_logBound (s : State) (a : Nat) (hlog : LogBound s.log) : LogBound (homingDone s a).log := by
  unfold homingDone; simp (maxDischargeDepth := 60) +contextual [hlog]
@[simp] theorem startHoming_logBound (s : State) (a : Nat) (hlog : LogBound s.log) : LogBound (startHoming s a).log := by
  unfold startHoming; simp (maxDischargeDepth := 60) +contextual [hlog]
@[simp] theorem freeze_logBound (s : State) (a : Nat) (hlog : LogBound s.log) : LogBound (freeze s a).log := by
  unfold freeze; split <;> simp (maxDischargeDepth := 60) +contextual [hlog]
@[simp] theorem homingBack_logBound (s : State) (a : Nat) (hlog : LogBound s.log) : LogBound (homingBack s a).log := by
  unfold homingBack; simp (maxDischargeDepth := 60) +contextual [hlog]
@[simp] theorem homingOnward_logBound (s : State) (a : Nat) (hlog : LogBound s.log) : LogBound (homingOnward s a).log := hlog
@[simp] theorem restAxis_logBound (s : State) (a : Nat) (hlog : LogBound s.log) : LogBound (restAxis s a).log := by
  unfold restAxis; split <;> simp (maxDischargeDepth := 60) +contextual [hlog]
@[simp] theorem homingLatched_logBound (s : State) (a : Nat) (hlog : LogBound s.log) : LogBound (homingLatched s a).log := by
  unfold homingLatched; split <;> simp (maxDischargeDepth := 60) +contextual [hlog]
@[simp] theorem homingFail_logBound (s : State) (a : Nat) (hlog : LogBound s.log) : LogBound (homingFail s a).log := by
  unfold homingFail; simp (maxDischargeDepth := 60) +contextual [hlog]
@[simp] theorem limitStop_logBound (s : State) (a : Nat) (hlog : LogBound s.log) : LogBound (limitStop s a).log := by
  unfold limitStop; simp (maxDischargeDepth := 60) +contextual [hlog]
@[simp] theorem limitFault_logBound (s : State) (a : Nat) (hlog : LogBound s.log) : LogBound (limitFault s a).log := by
  unfold limitFault; simp (maxDischargeDepth := 60) +contextual [hlog]
@[simp] theorem driverFaultRecord_logBound (s : State) (a : Nat) (hlog : LogBound s.log) : LogBound (driverFaultRecord s a).log := by
  unfold driverFaultRecord; simp (maxDischargeDepth := 60) +contextual [hlog]
@[simp] theorem disableAxis_logBound (s : State) (a : Nat) (hlog : LogBound s.log) : LogBound (disableAxis s a).log := by
  unfold disableAxis; simp (maxDischargeDepth := 60) +contextual [hlog]
@[simp] theorem takeStandstill_logBound (s : State) (a : Nat) (hlog : LogBound s.log) : LogBound (takeStandstill s a).log := hlog
@[simp] theorem enableAxis_logBound (s : State) (a : Nat) (hlog : LogBound s.log) : LogBound (enableAxis s a).log := hlog
@[simp] theorem retain_logBound (s : State) (a : Nat) (hlog : LogBound s.log) : LogBound (retain s a).log := by
  unfold retain; (repeat' split) <;> simp (maxDischargeDepth := 60) +contextual [hlog]
@[simp] theorem wakeAxis_logBound (s : State) (a : Nat) (hlog : LogBound s.log) : LogBound (wakeAxis s a).log := by
  unfold wakeAxis; simp (maxDischargeDepth := 60) +contextual [hlog]

/-! ## LoopOps -/

@[simp] theorem outputOff_logBound (s : State) (n : Nat) (hlog : LogBound s.log) : LogBound (outputOff s n).log := by
  unfold outputOff; simp (maxDischargeDepth := 60) +contextual [hlog]
@[simp] theorem loopOffNow_logBound (s : State) (n : Nat) (hlog : LogBound s.log) : LogBound (loopOffNow s n).log := by
  unfold loopOffNow; simp (maxDischargeDepth := 60) +contextual [hlog]
@[simp] theorem softStart_logBound (s : State) (n : Nat) (hlog : LogBound s.log) : LogBound (softStart s n).log := by
  unfold softStart; simp (maxDischargeDepth := 60) +contextual [hlog]
@[simp] theorem loopRunning_logBound (s : State) (n : Nat) (hlog : LogBound s.log) : LogBound (loopRunning s n).log := by
  unfold loopRunning; simp (maxDischargeDepth := 60) +contextual [hlog]
@[simp] theorem moveSp_logBound (s : State) (n : Nat) (hlog : LogBound s.log) : LogBound (moveSp s n).log := by
  unfold moveSp; simp (maxDischargeDepth := 60) +contextual [hlog]
@[simp] theorem injectionTick_logBound (s : State) (hlog : LogBound s.log) : LogBound (injectionTick s).log := by
  unfold injectionTick; simp (maxDischargeDepth := 60) +contextual [hlog]
@[simp] theorem sendOutput_logBound (s : State) (n : Nat) (hlog : LogBound s.log) : LogBound (sendOutput s n).log := by
  unfold sendOutput; simp (maxDischargeDepth := 60) +contextual [hlog]
@[simp] theorem runLaw_logBound (s : State) (n : Nat) (x : Int) (hlog : LogBound s.log) : LogBound (runLaw s n x).1.log := hlog
@[simp] theorem output_logBound (s : State) (n : Nat) (hlog : LogBound s.log) : LogBound (output s n).log := by
  unfold output; simp (maxDischargeDepth := 60) +contextual [hlog]
@[simp] theorem saturation_logBound (s : State) (n : Nat) (d : Int) (hlog : LogBound s.log) : LogBound (saturation s n d).1.log := hlog
@[simp] theorem oscillation_logBound (s : State) (n : Nat) (x : Int) (hlog : LogBound s.log) : LogBound (oscillation s n x).1.log := by
  unfold oscillation; simp (maxDischargeDepth := 60) +contextual [hlog]
@[simp] theorem loopFault_logBound (s : State) (n code : Nat) (hlog : LogBound s.log) : LogBound (loopFault s n code).log := hlog
@[simp] theorem loopSpills_logBound (s : State) (n : Nat) (hlog : LogBound s.log) : LogBound (loopSpills s n).log := by
  unfold loopSpills; simp (maxDischargeDepth := 60) +contextual [hlog]
@[simp] theorem loopRespond_logBound (s : State) (n code : Nat) (hlog : LogBound s.log) : LogBound (loopRespond s n code).1.log := by
  unfold loopRespond; simp only; (repeat' split) <;> simp (maxDischargeDepth := 60) +contextual [hlog]
@[simp] theorem captureSample_logBound (s : State) (n : Nat) (x y : Int) (hlog : LogBound s.log) : LogBound (captureSample s n x y).log := by
  unfold captureSample; simp (maxDischargeDepth := 60) +contextual [hlog]
@[simp] theorem captureTrigger_logBound (s : State) (n : Nat) (hlog : LogBound s.log) : LogBound (captureTrigger s n).log := by
  unfold captureTrigger; simp (maxDischargeDepth := 60) +contextual [hlog]
@[simp] theorem loopBroken_logBound (s : State) (n : Nat) (hlog : LogBound s.log) : LogBound (loopBroken s n).log := by
  unfold loopBroken; simp (maxDischargeDepth := 60) +contextual [hlog]
@[simp] theorem followMotor_logBound (s : State) (n : Nat) (hlog : LogBound s.log) : LogBound (followMotor s n).log := by
  unfold followMotor; simp (maxDischargeDepth := 60) +contextual [hlog]
@[simp] theorem countEval_logBound (s : State) (n : Nat) (hlog : LogBound s.log) : LogBound (countEval s n).log := hlog
@[simp] theorem supervise_logBound (s : State) (n : Nat) (x d : Int) (hlog : LogBound s.log) : LogBound (supervise s n x d).1.log := by
  unfold supervise; simp (maxDischargeDepth := 60) +contextual [hlog]
@[simp] theorem evalRunning_logBound (s : State) (n : Nat) (x : Int) (hlog : LogBound s.log) : LogBound (evalRunning s n x).1.log := by
  unfold evalRunning; simp (maxDischargeDepth := 60) +contextual [hlog]
@[simp] theorem evalLoop_logBound (s : State) (n : Nat) (hlog : LogBound s.log) : LogBound (evalLoop s n).1.log := by
  unfold evalLoop; simp (maxDischargeDepth := 60) +contextual [hlog]
@[simp] theorem loopCommandOff_logBound (s : State) (n : Nat) (hlog : LogBound s.log) : LogBound (loopCommandOff s n).log := by
  unfold loopCommandOff; simp (maxDischargeDepth := 60) +contextual [hlog]
@[simp] theorem loopCommandOn_logBound (s : State) (n : Nat) (hlog : LogBound s.log) : LogBound (loopCommandOn s n).log := by
  unfold loopCommandOn; split <;> simp (maxDischargeDepth := 60) +contextual [hlog]
@[simp] theorem loopRestartNow_logBound (s : State) (n : Nat) (hlog : LogBound s.log) : LogBound (loopRestartNow s n).log := by
  unfold loopRestartNow; simp (maxDischargeDepth := 60) +contextual [hlog]
@[simp] theorem selectBank_logBound (s : State) (n b : Nat) (hlog : LogBound s.log) : LogBound (selectBank s n b).log := hlog
@[simp] theorem safestopLoop_logBound (s : State) (n : Nat) (hlog : LogBound s.log) : LogBound (safestopLoop s n).log := by
  unfold safestopLoop; simp (maxDischargeDepth := 60) +contextual [hlog]
@[simp] theorem goodConversion_logBound (s : State) (i v1 : Nat) (hlog : LogBound s.log) : LogBound (goodConversion s i v1).log := by
  unfold goodConversion; simp (maxDischargeDepth := 60) +contextual [hlog]
@[simp] theorem brokenConversion_logBound (s : State) (i v1 : Nat) (hlog : LogBound s.log) : LogBound (brokenConversion s i v1).log := hlog

/-! ## LinkOps -/

@[simp] theorem restLanes_logBound (s : State) (n : Nat) (hlog : LogBound s.log) : LogBound (restLanes s n).log := hlog
@[simp] theorem setLinkState_logBound (s : State) (n v : Nat) (hlog : LogBound s.log) : LogBound (setLinkState s n v).log := by
  unfold setLinkState; simp (maxDischargeDepth := 60) +contextual [hlog]
@[simp] theorem queueBlocks_logBound (s : State) (n : Nat) (l : List LinkBlock) (hlog : LogBound s.log) : LogBound (queueBlocks s n l).log := by
  unfold queueBlocks; simp (maxDischargeDepth := 60) +contextual [hlog]
@[simp] theorem sendControl_logBound (s : State) (n : Nat) (l : List (List Byte)) (hlog : LogBound s.log) : LogBound (sendControl s n l).log := by
  unfold sendControl; simp (maxDischargeDepth := 60) +contextual [hlog]
@[simp] theorem sendLight_logBound (s : State) (n beam kind t d : Nat) (hlog : LogBound s.log) : LogBound (sendLight s n beam kind t d).log := by
  unfold sendLight; simp (maxDischargeDepth := 60) +contextual [hlog]
@[simp] theorem releaseLights_logBound (s : State) (n : Nat) (hlog : LogBound s.log) : LogBound (releaseLights s n).log := by
  unfold releaseLights; simp (maxDischargeDepth := 60) +contextual [hlog]
@[simp] theorem sendMultiframe_logBound (s : State) (n : Nat) (hlog : LogBound s.log) : LogBound (sendMultiframe s n).log := hlog
@[simp] theorem linkTick_logBound (s : State) (hlog : LogBound s.log) : LogBound (linkTick s).log := by
  unfold linkTick; simp (maxDischargeDepth := 60) +contextual [hlog]
@[simp] theorem sendPixels_logBound (s : State) (n seq : Nat) (words : List Nat) (hlog : LogBound s.log) :
  LogBound (sendPixels s n seq words).log := by unfold sendPixels; simp (maxDischargeDepth := 60) +contextual [hlog]
@[simp] theorem sendLspi_logBound (s : State) (n : Nat) (l : List Nat) (hlog : LogBound s.log) : LogBound (sendLspi s n l).log := hlog
@[simp] theorem linkBegin_logBound (s : State) (n : Nat) (rep serve : Bool) (hlog : LogBound s.log) : LogBound (linkBegin s n rep serve).log := by
  unfold linkBegin; simp (maxDischargeDepth := 60) +contextual [hlog]
@[simp] theorem linkUp_logBound (s : State) (n : Nat) (serve : Bool) (hlog : LogBound s.log) : LogBound (linkUp s n serve).log := by
  unfold linkUp; simp (maxDischargeDepth := 60) +contextual [hlog]
@[simp] theorem linkOff_logBound (s : State) (n : Nat) (hlog : LogBound s.log) : LogBound (linkOff s n).log := by
  unfold linkOff; simp (maxDischargeDepth := 60) +contextual [hlog]
@[simp] theorem linkFail_logBound (s : State) (n : Nat) (hlog : LogBound s.log) : LogBound (linkFail s n).1.log := by
  unfold linkFail; simp (maxDischargeDepth := 60) +contextual [hlog]
@[simp] theorem linkIsUp_logBound (s : State) (n : Nat) (hlog : LogBound s.log) : LogBound (linkIsUp s n).log := by
  unfold linkIsUp; simp (maxDischargeDepth := 60) +contextual [hlog]
@[simp] theorem linkStepDone_logBound (s : State) (n : Nat) (regs : List Nat) (hlog : LogBound s.log) : LogBound (linkStepDone s n regs).1.log := by
  unfold linkStepDone; split <;> simp (maxDischargeDepth := 60) +contextual [hlog]
@[simp] theorem linkHardFault_logBound (s : State) (n status : Nat) (hlog : LogBound s.log) : LogBound (linkHardFault s n status).1.log := by
  unfold linkHardFault; simp (maxDischargeDepth := 60) +contextual [hlog]

/-! ## RasterOps -/

@[simp] theorem updateFreeboard_logBound (s : State) (n : Nat) (hlog : LogBound s.log) : LogBound (updateFreeboard s n).log := by
  unfold updateFreeboard; simp (maxDischargeDepth := 60) +contextual [hlog]
@[simp] theorem setDecoder_logBound (s : State) (n v : Nat) (hlog : LogBound s.log) : LogBound (setDecoder s n v).log := hlog
@[simp] theorem refill_logBound (s : State) (n : Nat) (hlog : LogBound s.log) : LogBound (refill s n).log := by
  unfold refill; simp (maxDischargeDepth := 60) +contextual [hlog]
@[simp] theorem startPlane_logBound (s : State) (n : Nat) (sh : Sheet) (hlog : LogBound s.log) : LogBound (startPlane s n sh).log := hlog
@[simp] theorem dropPlane_logBound (s : State) (n state : Nat) (hlog : LogBound s.log) : LogBound (dropPlane s n state).log := hlog
@[simp] theorem planeDone_logBound (s : State) (n uid state : Nat) (hlog : LogBound s.log) : LogBound (planeDone s n uid state).log := by
  unfold planeDone; simp (maxDischargeDepth := 60) +contextual [hlog]
@[simp] theorem discardData_logBound (s : State) (n uid : Nat) (hlog : LogBound s.log) : LogBound (discardData s n uid).log := hlog
@[simp] theorem spillNow_logBound (s : State) (n uid : Nat) (hlog : LogBound s.log) : LogBound (spillNow s n uid).log := by
  unfold spillNow; simp (maxDischargeDepth := 60) +contextual [hlog]
@[simp] theorem spillHere_logBound (s : State) (n uid : Nat) (hlog : LogBound s.log) : LogBound (spillHere s n uid).log := by
  unfold spillHere; simp (maxDischargeDepth := 60) +contextual [hlog]
@[simp] theorem flagLines_logBound (s : State) (n uid : Nat) (hlog : LogBound s.log) : LogBound (flagLines s n uid).log := hlog
@[simp] theorem planeLost_logBound (s : State) (n uid : Nat) (hlog : LogBound s.log) : LogBound (planeLost s n uid).log := by
  unfold planeLost; simp (maxDischargeDepth := 60) +contextual [hlog]
@[simp] theorem decodeError_logBound (s : State) (n uid code : Nat) (hlog : LogBound s.log) : LogBound (decodeError s n uid code).log := by
  unfold decodeError; simp (maxDischargeDepth := 60) +contextual [hlog]
@[simp] theorem emptyFifo_logBound (s : State) (n : Nat) (hlog : LogBound s.log) : LogBound (emptyFifo s n).log := by
  unfold emptyFifo; simp (maxDischargeDepth := 60) +contextual [hlog]
@[simp] theorem stopRaster_logBound (s : State) (n : Nat) (hlog : LogBound s.log) : LogBound (stopRaster s n).log := by
  unfold stopRaster; simp (maxDischargeDepth := 60) +contextual [hlog]
@[simp] theorem forgetAt_logBound (s : State) (uid n : Nat) (hlog : LogBound s.log) : LogBound (forgetAt s uid n).log := by
  unfold forgetAt; simp (maxDischargeDepth := 60) +contextual [hlog]
@[simp] theorem forgetRaster_logBound (s : State) (uid : Nat) (hlog : LogBound s.log) : LogBound (forgetRaster s uid).log := by
  unfold forgetRaster; simp (maxDischargeDepth := 60) +contextual [hlog]
@[simp] theorem withdrawOne_logBound (s : State) (uid : Nat) (hlog : LogBound s.log) : LogBound (withdrawOne s uid).log := by
  unfold withdrawOne; simp (maxDischargeDepth := 60) +contextual [hlog]
@[simp] theorem withdrawForced_logBound (s : State) (uid : Nat) (hlog : LogBound s.log) : LogBound (withdrawForced s uid).log := by
  unfold withdrawForced
  exact foldl_logBound _ _ _ (fun u x hu => by (repeat' split) <;> simp [hu]) (withdrawOne_logBound _ _ hlog)
@[simp] theorem withdrawAll_logBound (s : State) (hlog : LogBound s.log) : LogBound (withdrawAll s).log := by
  unfold withdrawAll; simp (maxDischargeDepth := 60) +contextual [hlog]
@[simp] theorem cancelSheet_logBound (s : State) (sh : Sheet) (hlog : LogBound s.log) : LogBound (cancelSheet s sh).log := by
  unfold cancelSheet; simp (maxDischargeDepth := 60) +contextual [hlog]

/-! ## ScanOps -/

@[simp] theorem phaseLost_logBound (s : State) (k : Nat) (hlog : LogBound s.log) : LogBound (phaseLost s k).log := by
  unfold phaseLost; simp (maxDischargeDepth := 60) +contextual [hlog]
@[simp] theorem holdOff_logBound (s : State) (k : Nat) (hlog : LogBound s.log) : LogBound (holdOff s k).log := by
  unfold holdOff; simp (maxDischargeDepth := 60) +contextual [hlog]
@[simp] theorem holdUnlit_logBound (s : State) (hlog : LogBound s.log) : LogBound (holdUnlit s).log := by
  unfold holdUnlit; simp (maxDischargeDepth := 60) +contextual [hlog]
@[simp] theorem beginAcquire_logBound (s : State) (k : Nat) (hlog : LogBound s.log) : LogBound (beginAcquire s k).log := hlog
@[simp] theorem fillPeriods_logBound (s : State) (k c : Nat) (edges : List Nat) (hlog : LogBound s.log) :
  LogBound (fillPeriods s k c edges).log := by unfold fillPeriods; simp (maxDischargeDepth := 60) +contextual [hlog]
@[simp] theorem collectEdge_logBound (s : State) (k t : Nat) (edges : List Nat) (hlog : LogBound s.log) :
  LogBound (collectEdge s k t edges).log := by unfold collectEdge; simp (maxDischargeDepth := 60) +contextual [hlog]
@[simp] theorem trackerCount_logBound (s : State) (k sub : Nat) (hlog : LogBound s.log) : LogBound (trackerCount s k sub).log := hlog
@[simp] theorem windowEdge_logBound (s : State) (k t : Nat) (hlog : LogBound s.log) : LogBound (windowEdge s k t).1.log := by
  unfold windowEdge; split <;> simp (maxDischargeDepth := 60) +contextual [hlog]
@[simp] theorem fixTooth_logBound (s : State) (k : Nat) (hlog : LogBound s.log) : LogBound (fixTooth s k).log := by
  unfold fixTooth; simp (maxDischargeDepth := 60) +contextual [hlog]
@[simp] theorem writeTable_logBound (s : State) (k sub : Nat) (l : List Nat) (hlog : LogBound s.log) : LogBound (writeTable s k sub l).log := by
  unfold writeTable; simp (maxDischargeDepth := 60) +contextual [hlog]
@[simp] theorem relabel_logBound (s : State) (k r : Nat) (hlog : LogBound s.log) : LogBound (relabel s k r).log := by
  unfold relabel; simp (maxDischargeDepth := 60) +contextual [hlog]
@[simp] theorem identify_logBound (s : State) (k : Nat) (hlog : LogBound s.log) : LogBound (identify s k).log := by
  unfold identify; simp only; (repeat' split) <;> simp (maxDischargeDepth := 60) +contextual [hlog]
@[simp] theorem lostSpills_logBound (s : State) (k : Nat) (hlog : LogBound s.log) : LogBound (lostSpills s k).log := by
  unfold lostSpills; simp (maxDischargeDepth := 60) +contextual [hlog]
@[simp] theorem trackerLost_logBound (s : State) (k : Nat) (hlog : LogBound s.log) : LogBound (trackerLost s k).1.log := by
  unfold trackerLost; simp (maxDischargeDepth := 60) +contextual [hlog]
@[simp] theorem polygonTracks_logBound (s : State) (m : Nat) (hlog : LogBound s.log) : LogBound (polygonTracks s m).log := by
  unfold polygonTracks; simp (maxDischargeDepth := 60) +contextual [hlog]
@[simp] theorem phaseLock_logBound (s : State) (m t : Nat) (hlog : LogBound s.log) : LogBound (phaseLock s m t).log := by
  unfold phaseLock; (repeat' split) <;> simp (maxDischargeDepth := 60) +contextual [hlog]
@[simp] theorem polygonTooth_logBound (s : State) (m t per : Nat) (coast : Bool) (hlog : LogBound s.log) :
  LogBound (polygonTooth s m t per coast).log := by unfold polygonTooth; simp (maxDischargeDepth := 60) +contextual [hlog]
@[simp] theorem closeWindow_logBound (s : State) (k : Nat) (hlog : LogBound s.log) : LogBound (closeWindow s k).1.log := by
  unfold closeWindow; simp only; (repeat' split) <;> simp (maxDischargeDepth := 60) +contextual [hlog]
@[simp] theorem bdWindow_logBound (s : State) (n : Nat) (hlog : LogBound s.log) : LogBound (bdWindow s n).log := by
  unfold bdWindow; simp (maxDischargeDepth := 60) +contextual [hlog]
@[simp] theorem keepLit_logBound (s : State) (n : Nat) (hlog : LogBound s.log) : LogBound (keepLit s n).log := by
  unfold keepLit; simp (maxDischargeDepth := 60) +contextual [hlog]
@[simp] theorem idleTick_logBound (s : State) (hlog : LogBound s.log) : LogBound (idleTick s).log := by
  unfold idleTick; simp (maxDischargeDepth := 60) +contextual [hlog]
@[simp] theorem apcWindow_logBound (s : State) (n t : Nat) (hlog : LogBound s.log) : LogBound (apcWindow s n t).log := by
  unfold apcWindow; simp (maxDischargeDepth := 60) +contextual [hlog]
@[simp] theorem keepScan_logBound (s : State) (n : Nat) (c : Reading) (hlog : LogBound s.log) : LogBound (keepScan s n c).log := by
  unfold keepScan; simp only; (repeat' split) <;> simp (maxDischargeDepth := 60) +contextual [hlog]
@[simp] theorem showMeasurement_logBound (s : State) (n : Nat) (l : List Reading) (mean skew : Int) (hlog : LogBound s.log) :
  LogBound (showMeasurement s n l mean skew).log := hlog
@[simp] theorem keepPatch_logBound (s : State) (n : Nat) (marks : List Chevron) (hlog : LogBound s.log) : LogBound (keepPatch s n marks).log := by
  unfold keepPatch; simp (maxDischargeDepth := 60) +contextual [hlog]
@[simp] theorem dropCorrections_logBound (s : State) (n : Nat) (hlog : LogBound s.log) : LogBound (dropCorrections s n).log := hlog
@[simp] theorem stageRegistration_logBound (s : State) (n : Nat) (hlog : LogBound s.log) : LogBound (stageRegistration s n).log := by
  unfold stageRegistration; simp (maxDischargeDepth := 60) +contextual [hlog]
@[simp] theorem calibrationPattern_logBound (s : State) (n : Nat) (hlog : LogBound s.log) : LogBound (calibrationPattern s n).log := hlog
@[simp] theorem gapPattern_logBound (s : State) (n at_ : Nat) (hlog : LogBound s.log) : LogBound (gapPattern s n at_).log := hlog
@[simp] theorem storeSignature_logBound (s : State) (n : Nat) (hlog : LogBound s.log) : LogBound (storeSignature s n).log := by
  unfold storeSignature; simp (maxDischargeDepth := 60) +contextual [hlog]

/-! ## PinOps -/

@[simp] theorem setExternal_logBound (s : State) (p v : Nat) (hlog : LogBound s.log) : LogBound (setExternal s p v).log := by
  unfold setExternal; simp (maxDischargeDepth := 60) +contextual [hlog]
@[simp] theorem pinsToSleep_logBound (s : State) (hlog : LogBound s.log) : LogBound (pinsToSleep s).log := hlog
@[simp] theorem newConflict_logBound (s : State) (c : Nat) (hlog : LogBound s.log) : LogBound (newConflict s c).log := by
  unfold newConflict; simp (maxDischargeDepth := 60) +contextual [hlog]
@[simp] theorem newSuppression_logBound (s : State) (k : Nat) (hlog : LogBound s.log) : LogBound (newSuppression s k).log := by
  unfold newSuppression; simp (maxDischargeDepth := 60) +contextual [hlog]
@[simp] theorem claimsChanged_logBound (s : State) (hlog : LogBound s.log) : LogBound (claimsChanged s).log := by
  unfold claimsChanged; simp (maxDischargeDepth := 60) +contextual [hlog]
@[simp] theorem pinSetValue_logBound (s : State) (p v : Nat) (hlog : LogBound s.log) : LogBound (pinSetValue s p v).log := by
  unfold pinSetValue; simp (maxDischargeDepth := 60) +contextual [hlog]

/-! ## MemOps -/

@[simp] theorem followHeat_logBound (s : State) (hlog : LogBound s.log) : LogBound (followHeat s).log := by
  unfold followHeat; split <;> simp (maxDischargeDepth := 60) +contextual [hlog]
@[simp] theorem watchBudget_logBound (old s : State) (hlog : LogBound s.log) : LogBound (watchBudget old s).log := by
  unfold watchBudget; simp (maxDischargeDepth := 60) +contextual [hlog]
@[simp] theorem capacityFrom_logBound (old s : State) (hlog : LogBound s.log) : LogBound (capacityFrom old s).log := by
  unfold capacityFrom; simp (maxDischargeDepth := 60) +contextual [hlog]
@[simp] theorem brokenInput_logBound (s : State) (i : Nat) (hlog : LogBound s.log) : LogBound (brokenInput s i).log := by
  unfold brokenInput; simp (maxDischargeDepth := 60) +contextual [hlog]

/-! ## NetOps -/

@[simp] theorem putFrame_logBound (s : State) (p : Nat) (o : Outgoing) (hlog : LogBound s.log) : LogBound (putFrame s p o).log := by
  unfold putFrame; simp (maxDischargeDepth := 60) +contextual [hlog]
@[simp] theorem sendFrame_logBound (s : State) (p type dst : Nat) (payload : List Byte) (hlog : LogBound s.log) :
  LogBound (sendFrame s p type dst payload).log := by unfold sendFrame; simp (maxDischargeDepth := 60) +contextual [hlog]
@[simp] theorem broadcast_logBound (s : State) (ports : List Nat) (type : Nat) (payload : List Byte) (hlog : LogBound s.log) :
  LogBound (broadcast s ports type payload).log := by unfold broadcast; simp (maxDischargeDepth := 60) +contextual [hlog]
@[simp] theorem modeFrames_logBound (s : State) (new old : Mode) (cause : Nat) (awake : List Nat) (hlog : LogBound s.log) :
  LogBound (modeFrames s new old cause awake).log := by unfold modeFrames; simp (maxDischargeDepth := 60) +contextual [hlog]
@[simp] theorem setPartner_logBound (s : State) (n v : Nat) (hlog : LogBound s.log) : LogBound (setPartner s n v).log := hlog
@[simp] theorem lossResponse_logBound (s : State) (n : Nat) (hlog : LogBound s.log) : LogBound (lossResponse s n).1.log := by
  unfold lossResponse; split <;> simp (maxDischargeDepth := 60) +contextual [hlog]
@[simp] theorem partnerTo_logBound (s : State) (n v : Nat) (hlog : LogBound s.log) : LogBound (partnerTo s n v).1.log := by
  unfold partnerTo; simp (maxDischargeDepth := 60) +contextual [hlog]
@[simp] theorem cycleMaps_logBound (s : State) (hlog : LogBound s.log) : LogBound (cycleMaps s).log := hlog
@[simp] theorem debit_logBound (s : State) (p n ns : Nat) (hlog : LogBound s.log) : LogBound (debit s p n ns).log := by
  unfold debit; simp (maxDischargeDepth := 60) +contextual [hlog]
@[simp] theorem creditCycle_logBound (s : State) (p : Nat) (hlog : LogBound s.log) : LogBound (creditCycle s p).log := hlog
@[simp] theorem sendOut_logBound (s : State) (p : Nat) (o : Outgoing) (hlog : LogBound s.log) : LogBound (sendOut s p o).log := by
  unfold sendOut; simp (maxDischargeDepth := 60) +contextual [hlog]
@[simp] theorem setTx_logBound (s : State) (p : Nat) (l : List Outgoing) (hlog : LogBound s.log) : LogBound (setTx s p l).log := by
  unfold setTx; simp (maxDischargeDepth := 60) +contextual [hlog]
@[simp] theorem setRx_logBound (s : State) (p : Nat) (l : List (FrameSrc × Pdu)) (hlog : LogBound s.log) : LogBound (setRx s p l).log := by
  unfold setRx; simp (maxDischargeDepth := 60) +contextual [hlog]
@[simp] theorem queueOut_logBound (s : State) (p : Nat) (o : Outgoing) (hlog : LogBound s.log) : LogBound (queueOut s p o).log := by
  unfold queueOut; simp (maxDischargeDepth := 60) +contextual [hlog]
@[simp] theorem sendAcyclic_logBound (s : State) (p type dst : Nat) (payload : List Byte) (peer : Option (Nat × Nat)) (hlog : LogBound s.log) :
  LogBound (sendAcyclic s p type dst payload peer).log := by unfold sendAcyclic; simp (maxDischargeDepth := 60) +contextual [hlog]
@[simp] theorem drainTx_logBound (s : State) (p : Nat) (hlog : LogBound s.log) : LogBound (drainTx s p).log := by
  unfold drainTx; simp (maxDischargeDepth := 60) +contextual [hlog]
@[simp] theorem startBlock_logBound (s : State) (p j : Nat) (hlog : LogBound s.log) : LogBound (startBlock s p j).log := by
  unfold startBlock; (repeat' split) <;> simp (maxDischargeDepth := 60) +contextual [hlog]
@[simp] theorem poll_logBound (s : State) (p n : Nat) (hlog : LogBound s.log) : LogBound (poll s p n).log := by
  unfold poll; simp (maxDischargeDepth := 60) +contextual [hlog]
@[simp] theorem pollIdle_logBound (s : State) (p : Nat) (hlog : LogBound s.log) : LogBound (pollIdle s p).log := by
  unfold pollIdle; (repeat' split) <;> simp (maxDischargeDepth := 60) +contextual [hlog]
@[simp] theorem nextPoll_logBound (s : State) (p : Nat) (hlog : LogBound s.log) : LogBound (nextPoll s p).log := by
  unfold nextPoll; split <;> simp (maxDischargeDepth := 60) +contextual [hlog]
@[simp] theorem restartPort_logBound (s : State) (p : Nat) (enable : Bool) (hlog : LogBound s.log) : LogBound (restartPort s p enable).log := by
  unfold restartPort; simp (maxDischargeDepth := 60) +contextual [hlog]
@[simp] theorem pollFirst_logBound (s : State) (n : Nat) (hlog : LogBound s.log) : LogBound (pollFirst s n).log := by
  unfold pollFirst; simp (maxDischargeDepth := 60) +contextual [hlog]
@[simp] theorem sendNotice_logBound (s : State) (q : Nat × Nat × Nat) (hlog : LogBound s.log) : LogBound (sendNotice s q).log := by
  unfold sendNotice; simp (maxDischargeDepth := 60) +contextual [hlog]
@[simp] theorem sendNotices_logBound (s : State) (hlog : LogBound s.log) : LogBound (sendNotices s).log := by
  unfold sendNotices; simp (maxDischargeDepth := 60) +contextual [hlog]
@[simp] theorem authDrop_logBound (s : State) (hlog : LogBound s.log) : LogBound (authDrop s).log := hlog
@[simp] theorem dropAcc_logBound (s : State) (a : Accessor) (hlog : LogBound s.log) : LogBound (dropAcc s a).log := hlog
@[simp] theorem releaseStager_logBound (s : State) (a : Accessor) (hlog : LogBound s.log) : LogBound (releaseStager s a).log := by
  unfold releaseStager; simp (maxDischargeDepth := 60) +contextual [hlog]
@[simp] theorem endSession_logBound (s : State) (id : Nat) (hlog : LogBound s.log) : LogBound (endSession s id).log := by
  unfold endSession; simp (maxDischargeDepth := 60) +contextual [hlog]

/-! ## TenantOps -/

@[simp] theorem aerError_logBound (s : State) (fn : Nat) (e : IngestError) (hlog : LogBound s.log) : LogBound (aerError s fn e).log := by
  unfold aerError; split <;> simp (maxDischargeDepth := 60) +contextual [hlog]
@[simp] theorem moveBufHead_logBound (s : State) (t : Nat) (hlog : LogBound s.log) : LogBound (moveBufHead s t).log := by
  unfold moveBufHead; simp (maxDischargeDepth := 60) +contextual [hlog]
@[simp] theorem bellError_logBound (s : State) (t : Nat) (hlog : LogBound s.log) : LogBound (bellError s t).log := by
  unfold bellError; simp (maxDischargeDepth := 60) +contextual [hlog]
@[simp] theorem tailBell_logBound (s : State) (t i : Nat) (hlog : LogBound s.log) : LogBound (tailBell s t i).log := by
  unfold tailBell; simp (maxDischargeDepth := 60) +contextual [hlog]
@[simp] theorem headBell_logBound (s : State) (t i : Nat) (hlog : LogBound s.log) : LogBound (headBell s t i).log := by
  unfold headBell; simp (maxDischargeDepth := 60) +contextual [hlog]
@[simp] theorem cancelBell_logBound (s : State) (t i : Nat) (hlog : LogBound s.log) : LogBound (cancelBell s t i).log := by
  unfold cancelBell; simp (maxDischargeDepth := 60) +contextual [hlog]
@[simp] theorem ringBell_logBound (s : State) (t kind i : Nat) (hlog : LogBound s.log) : LogBound (ringBell s t kind i).log := by
  unfold ringBell; simp (maxDischargeDepth := 60) +contextual [hlog]
@[simp] theorem fetchBurst_logBound (s : State) (t : Nat) (hlog : LogBound s.log) : LogBound (fetchBurst s t).log := hlog
@[simp] theorem takeDescriptor_logBound (s : State) (t : Nat) (d : List Byte) (hlog : LogBound s.log) : LogBound (takeDescriptor s t d).log := by
  unfold takeDescriptor; simp (maxDischargeDepth := 60) +contextual [hlog]
@[simp] theorem startFetch_logBound (s : State) (t : Nat) (hlog : LogBound s.log) : LogBound (startFetch s t).log := by
  unfold startFetch; split <;> simp (maxDischargeDepth := 60) +contextual [hlog]
@[simp] theorem refreshCandidates_logBound (s : State) (hlog : LogBound s.log) : LogBound (refreshCandidates s).log := by
  unfold refreshCandidates; simp (maxDischargeDepth := 60) +contextual [hlog]
@[simp] theorem advanceV_logBound (s : State) (t lines : Nat) (hlog : LogBound s.log) : LogBound (advanceV s t lines).log := by
  unfold advanceV; simp (maxDischargeDepth := 60) +contextual [hlog]
@[simp] theorem clearRings_logBound (s : State) (t : Nat) (hlog : LogBound s.log) : LogBound (clearRings s t).log := hlog
@[simp] theorem resetComplete_logBound (s : State) (t : Nat) (hlog : LogBound s.log) : LogBound (resetComplete s t).log := by
  unfold resetComplete; simp (maxDischargeDepth := 60) +contextual [hlog]
@[simp] theorem tenantReset_logBound (s : State) (t cause : Nat) (hlog : LogBound s.log) : LogBound (tenantReset s t cause).log := by
  unfold tenantReset; simp (maxDischargeDepth := 60) +contextual [hlog]
@[simp] theorem resetAllTenants_logBound (s : State) (hlog : LogBound s.log) : LogBound (resetAllTenants s).log := by
  unfold resetAllTenants; simp (maxDischargeDepth := 60) +contextual [hlog]
@[simp] theorem functionEnds_logBound (s : State) (fn : Nat) (hlog : LogBound s.log) : LogBound (functionEnds s fn).log := by
  unfold functionEnds; split <;> simp (maxDischargeDepth := 60) +contextual [hlog]
@[simp] theorem enableTenant_logBound (s : State) (t : Nat) (hlog : LogBound s.log) : LogBound (enableTenant s t).log := hlog
@[simp] theorem scrubDone_logBound (s : State) (t : Nat) (hlog : LogBound s.log) : LogBound (scrubDone s t).log := by
  unfold scrubDone; simp (maxDischargeDepth := 60) +contextual [hlog]
@[simp] theorem fenceViolation_logBound (s : State) (t : Nat) (hlog : LogBound s.log) : LogBound (fenceViolation s t).log := by
  unfold fenceViolation; simp (maxDischargeDepth := 60) +contextual [hlog]

/-! ## Checks -/

@[simp] theorem merged_logBound (s : State) (g : Nat) (hlog : LogBound s.log) : LogBound (merged s g).log := hlog
@[simp] theorem dropStaged_logBound (s : State) (g : Nat) (hlog : LogBound s.log) : LogBound (dropStaged s g).log := hlog
@[simp] theorem copyGroup_logBound (s : State) (g : Nat) (hlog : LogBound s.log) : LogBound (copyGroup s g).log := hlog

/-! ## Modes -/

@[simp] theorem restoreBands_logBound (s : State) (l : Tab Nat) (hlog : LogBound s.log) : LogBound (restoreBands s l).log := hlog
@[simp] theorem rejectGroup_logBound (s : State) (g : Nat) (hlog : LogBound s.log) : LogBound (rejectGroup s g).log := by
  unfold rejectGroup; simp (maxDischargeDepth := 60) +contextual [hlog]
@[simp] theorem setDlls_logBound (s : State) (v : Nat) (hlog : LogBound s.log) : LogBound (setDlls s v).log := by
  unfold setDlls; simp (maxDischargeDepth := 60) +contextual [hlog]
@[simp] theorem closeGate_logBound (s : State) (hlog : LogBound s.log) : LogBound (closeGate s).log := by
  unfold closeGate; simp (maxDischargeDepth := 60) +contextual [hlog]
@[simp] theorem relockAttempt_logBound (s : State) (hlog : LogBound s.log) : LogBound (relockAttempt s).log := hlog
@[simp] theorem startRelock_logBound (s : State) (occ : Occasion) (hlog : LogBound s.log) : LogBound (startRelock s occ).log := by
  unfold startRelock; simp (maxDischargeDepth := 60) +contextual [hlog]
@[simp] theorem stopTimebase_logBound (s : State) (hlog : LogBound s.log) : LogBound (stopTimebase s).log := by
  unfold stopTimebase; simp (maxDischargeDepth := 60) +contextual [hlog]
@[simp] theorem recordMode_logBound (s : State) (new : Mode) (cause : Nat) (hlog : LogBound s.log) : LogBound (recordMode s new cause).log := by
  unfold recordMode; simp (maxDischargeDepth := 60) +contextual [hlog]
@[simp] theorem sayMode_logBound (s : State) (ports : List Nat) (hlog : LogBound s.log) : LogBound (sayMode s ports).log := by
  unfold sayMode; simp (maxDischargeDepth := 60) +contextual [hlog]
@[simp] theorem loopModeOff_logBound (s : State) (n : Nat) (hlog : LogBound s.log) : LogBound (loopModeOff s n).log := by
  unfold loopModeOff; simp (maxDischargeDepth := 60) +contextual [hlog]
@[simp] theorem loopModeOn_logBound (s : State) (b n : Nat) (hlog : LogBound s.log) : LogBound (loopModeOn s b n).log := by
  unfold loopModeOn; simp (maxDischargeDepth := 60) +contextual [hlog]
@[simp] theorem rampMotors_logBound (s : State) (hlog : LogBound s.log) : LogBound (rampMotors s).log := by
  unfold rampMotors; simp (maxDischargeDepth := 60) +contextual [hlog]
@[simp] theorem rampAxes_logBound (s : State) (hlog : LogBound s.log) : LogBound (rampAxes s).log := by
  unfold rampAxes; simp (maxDischargeDepth := 60) +contextual [hlog]
@[simp] theorem rasterOff_logBound (s : State) (hlog : LogBound s.log) : LogBound (rasterOff s).log := by
  unfold rasterOff; simp (maxDischargeDepth := 60) +contextual [hlog]
@[simp] theorem serviceOff_logBound (s : State) (hlog : LogBound s.log) : LogBound (serviceOff s).log := by
  unfold serviceOff; simp (maxDischargeDepth := 60) +contextual [hlog]
@[simp] theorem ringBells_logBound (s : State) (hlog : LogBound s.log) : LogBound (ringBells s).log := by
  unfold ringBells; simp (maxDischargeDepth := 60) +contextual [hlog]
@[simp] theorem dozeRailsOn_logBound (s : State) (hlog : LogBound s.log) : LogBound (dozeRailsOn s).log := hlog
@[simp] theorem leaveDoze_logBound (s : State) (hlog : LogBound s.log) : LogBound (leaveDoze s).log := by
  unfold leaveDoze; simp (maxDischargeDepth := 60) +contextual [hlog]
@[simp] theorem intoStandby_logBound (s : State) (old : Mode) (hlog : LogBound s.log) : LogBound (intoStandby s old).log := by
  unfold intoStandby; simp (maxDischargeDepth := 60) +contextual [hlog]
@[simp] theorem intoWarmup_logBound (s : State) (hlog : LogBound s.log) : LogBound (intoWarmup s).log := by
  unfold intoWarmup; simp (maxDischargeDepth := 60) +contextual [hlog]
@[simp] theorem intoDoze_logBound (s : State) (hlog : LogBound s.log) : LogBound (intoDoze s).log := by
  unfold intoDoze; simp (maxDischargeDepth := 60) +contextual [hlog]
@[simp] theorem intoShutdown_logBound (s : State) (hlog : LogBound s.log) : LogBound (intoShutdown s).log := by
  unfold intoShutdown; simp (maxDischargeDepth := 60) +contextual [hlog]
@[simp] theorem modeActions_logBound (s : State) (old : Mode) (hlog : LogBound s.log) : LogBound (modeActions s old).log := by
  unfold modeActions; split <;> simp (maxDischargeDepth := 60) +contextual [hlog]
@[simp] theorem settlePending_logBound (s : State) (hlog : LogBound s.log) : LogBound (settlePending s).log := by
  unfold settlePending; split <;> simp (maxDischargeDepth := 60) +contextual [hlog]
@[simp] theorem enterMode_logBound (s : State) (new : Mode) (cause : Nat) (hlog : LogBound s.log) : LogBound (enterMode s new cause).log := by
  unfold enterMode; simp (maxDischargeDepth := 60) +contextual [hlog]
@[simp] theorem recordCause_logBound (s : State) (cause : Nat) (hlog : LogBound s.log) : LogBound (recordCause s cause).log := hlog
@[simp] theorem safestopMotor_logBound (s : State) (m : Nat) (hlog : LogBound s.log) : LogBound (safestopMotor s m).log := by
  unfold safestopMotor; simp (maxDischargeDepth := 60) +contextual [hlog]
@[simp] theorem safestopAxisAll_logBound (s : State) (a : Nat) (hlog : LogBound s.log) : LogBound (safestopAxisAll s a).log := by
  unfold safestopAxisAll; simp (maxDischargeDepth := 60) +contextual [hlog]
@[simp] theorem withdrawEvery_logBound (s : State) (hlog : LogBound s.log) : LogBound (withdrawEvery s).log := by
  unfold withdrawEvery; simp (maxDischargeDepth := 60) +contextual [hlog]
@[simp] theorem dozeToSafestop_logBound (s : State) (hlog : LogBound s.log) : LogBound (dozeToSafestop s).log := by
  unfold dozeToSafestop; simp (maxDischargeDepth := 60) +contextual [hlog]
@[simp] theorem safestopEnter_logBound (s : State) (cause : Nat) (hlog : LogBound s.log) : LogBound (safestopEnter s cause).log := by
  unfold safestopEnter; simp (maxDischargeDepth := 60) +contextual [hlog]
@[simp] theorem safestop_logBound (s : State) (cause : Nat) (hlog : LogBound s.log) : LogBound (safestop s cause).log := by
  unfold safestop; split <;> simp (maxDischargeDepth := 60) +contextual [hlog]
@[simp] theorem safestopRequest_logBound (s : State) (hlog : LogBound s.log) : LogBound (safestopRequest s).log := by
  unfold safestopRequest; simp (maxDischargeDepth := 60) +contextual [hlog]
@[simp] theorem safestopBy_logBound (s : State) (cause inst : Nat) (hlog : LogBound s.log) : LogBound (safestopBy s cause inst).log := by
  unfold safestopBy; simp (maxDischargeDepth := 60) +contextual [hlog]
@[simp] theorem onDouble_logBound (r : State × Bool) (hlog : LogBound r.1.log) : LogBound (onDouble r).log := by
  unfold onDouble; simp (maxDischargeDepth := 60) +contextual [hlog]
@[simp] theorem onDoubleBy_logBound (inst : Nat) (r : State × Bool) (hlog : LogBound r.1.log) : LogBound (onDoubleBy inst r).log := by
  unfold onDoubleBy; simp (maxDischargeDepth := 60) +contextual [hlog]
@[simp] theorem onCause_logBound (r : State × Option Nat) (hlog : LogBound r.1.log) : LogBound (onCause r).log := by
  unfold onCause; split <;> simp (maxDischargeDepth := 60) +contextual [hlog]
@[simp] theorem onPartner_logBound (n : Nat) (r : State × Bool) (hlog : LogBound r.1.log) : LogBound (onPartner n r).log := by
  unfold onPartner; simp (maxDischargeDepth := 60) +contextual [hlog]
@[simp] theorem acknowledge_logBound (s : State) (hlog : LogBound s.log) : LogBound (acknowledge s).log := by
  unfold acknowledge; simp (maxDischargeDepth := 60) +contextual [hlog]
@[simp] theorem safestopDone_logBound (s : State) (hlog : LogBound s.log) : LogBound (safestopDone s).log := by
  unfold safestopDone; simp (maxDischargeDepth := 60) +contextual [hlog]
@[simp] theorem beginDoze_logBound (s : State) (cause : Nat) (hlog : LogBound s.log) : LogBound (beginDoze s cause).log := by
  unfold beginDoze; simp (maxDischargeDepth := 60) +contextual [hlog]
@[simp] theorem beginWake_logBound (s : State) (cause : Nat) (hlog : LogBound s.log) : LogBound (beginWake s cause).log := by
  unfold beginWake; simp (maxDischargeDepth := 60) +contextual [hlog]
@[simp] theorem stepTo_logBound (s : State) (p : Mode) (hlog : LogBound s.log) : LogBound (stepTo s p).log := by
  unfold stepTo; simp (maxDischargeDepth := 60) +contextual [hlog]
@[simp] theorem setPending_logBound (s : State) (p : Mode) (hlog : LogBound s.log) : LogBound (setPending s p).log := by
  unfold setPending; simp (maxDischargeDepth := 60) +contextual [hlog]
@[simp] theorem doRequest_logBound (s : State) (p : Mode) (hlog : LogBound s.log) : LogBound (doRequest s p).log := by
  unfold doRequest; simp (maxDischargeDepth := 60) +contextual [hlog]
@[simp] theorem settle_logBound (s : State) (hlog : LogBound s.log) : LogBound (settle s).log := by
  unfold settle; simp only; (repeat' split) <;> simp (maxDischargeDepth := 60) +contextual [hlog]
theorem done_logBound (s : State) (hlog : LogBound s.log) : ∃ w, done s = .next (settle w) ∧ LogBound w.log := by
  unfold done; exact ⟨_, rfl, by simp (maxDischargeDepth := 60) +contextual [hlog]⟩

/-! ## FlashImage -/

@[simp] theorem putRail_logBound (s : State) (r : Nat) (x : RailRow) (hlog : LogBound s.log) : LogBound (putRail s r x).log := by
  unfold putRail; simp (maxDischargeDepth := 60) +contextual [hlog]
@[simp] theorem putTable_logBound (s : State) (code retry pause : Nat) (l : List RailRow) (hlog : LogBound s.log) :
  LogBound (putTable s code retry pause l).log := by unfold putTable; simp (maxDischargeDepth := 60) +contextual [hlog]
theorem selectTable_logBound (s t : State) (h : selectTable s = some t) (hlog : LogBound s.log) : LogBound t.log := by
  unfold selectTable at h
  simp only at h
  (repeat' split at h) <;> simp_all <;> (rw [← h]; simp [hlog])

/-! ## Reset -/

@[simp] theorem programRecord_logBound (s : State) (k : Nat) (l : List (List Byte)) (r : JRecord) (hlog : LogBound s.log) :
  LogBound (programRecord s k l r).log := hlog
@[simp] theorem writeJournal_logBound (s : State) (r : JRecord) (hlog : LogBound s.log) : LogBound (writeJournal s r).log := by
  unfold writeJournal; simp (maxDischargeDepth := 60) +contextual [hlog]
@[simp] theorem putReasons_logBound (s : State) (l : List Nat) (hlog : LogBound s.log) : LogBound (putReasons s l).log := by
  unfold putReasons; simp (maxDischargeDepth := 60) +contextual [hlog]
@[simp] theorem clearFailures_logBound (s : State) (hlog : LogBound s.log) : LogBound (clearFailures s).log := by
  unfold clearFailures; simp (maxDischargeDepth := 60) +contextual [hlog]
@[simp] theorem railOff_logBound (s : State) (r st : Nat) (hlog : LogBound s.log) : LogBound (railOff s r st).log := hlog
@[simp] theorem allRailsOff_logBound (s : State) (hlog : LogBound s.log) : LogBound (allRailsOff s).log := by
  unfold allRailsOff; simp (maxDischargeDepth := 60) +contextual [hlog]
@[simp] theorem beginOff_logBound (s : State) (why : OffReason) (hlog : LogBound s.log) : LogBound (beginOff s why).log := hlog
@[simp] theorem discardAllStaged_logBound (s : State) (hlog : LogBound s.log) : LogBound (discardAllStaged s).log := by
  unfold discardAllStaged; simp (maxDischargeDepth := 60) +contextual [hlog]
@[simp] theorem keptLog_bound (l : Log) (h : LogBound l) : LogBound (keptLog l) := ⟨h.1, h.2.1, h.2.2.1, Nat.zero_le _⟩
@[simp] theorem warmKept_logBound (s : State) (hlog : LogBound s.log) : LogBound (warmKept s).log := keptLog_bound _ hlog
@[simp] theorem logStart_logBound (s : State) (hlog : LogBound s.log) : LogBound (logStart s).log := by
  unfold logStart; simp (maxDischargeDepth := 60) +contextual [hlog]
@[simp] theorem keepIlock_logBound (s : State) (hlog : LogBound s.log) : LogBound (keepIlock s).log := by
  unfold keepIlock; simp (maxDischargeDepth := 60) +contextual [hlog]
@[simp] theorem clearBlock_logBound (s : State) (cause : Nat) (hlog : LogBound s.log) : LogBound (clearBlock s cause).log := by
  unfold clearBlock; simp (maxDischargeDepth := 60) +contextual [hlog]
@[simp] theorem ringStart_logBound (s : State) (hlog : LogBound s.log) : LogBound (ringStart s).log := by
  unfold ringStart
  split
  · exact hlog
  · simp only
    refine foldl_logBound _ _ _ (fun _ _ hu => ringWrite_logBound _ _ hu) ?_
    (repeat' split) <;> simp (maxDischargeDepth := 60) +contextual [hlog]
@[simp] theorem keepKickObjects_logBound (old s : State) (hlog : LogBound s.log) : LogBound (keepKickObjects old s).log := hlog
@[simp] theorem enterHold_logBound (s : State) (h : Hold) (hlog : LogBound s.log) : LogBound (enterHold s h).log := by
  unfold enterHold; simp (maxDischargeDepth := 60) +contextual [hlog]
@[simp] theorem startOn_logBound (s : State) (terp : Bool) (hlog : LogBound s.log) : LogBound (startOn s terp).log := by
  unfold startOn; simp (maxDischargeDepth := 60) +contextual [hlog]
@[simp] theorem strapDefaults_logBound (s : State) (hlog : LogBound s.log) : LogBound (strapDefaults s).log := by
  unfold strapDefaults; simp (maxDischargeDepth := 60) +contextual [hlog]
@[simp] theorem debugStart_logBound (s : State) (hlog : LogBound s.log) : LogBound (debugStart s).log := by
  unfold debugStart; simp (maxDischargeDepth := 60) +contextual [hlog]
@[simp] theorem enterTerp_logBound (s : State) (reason : Nat) (hlog : LogBound s.log) : LogBound (enterTerp s reason).log := by
  unfold enterTerp
  simp only
  split
  · rename_i h
    exact startOn_logBound _ _ (selectTable_logBound _ _ h (by simp (maxDischargeDepth := 60) +contextual [hlog]))
  · simp (maxDischargeDepth := 60) +contextual [hlog]
@[simp] theorem kickoffStart_logBound (s : State) (hlog : LogBound s.log) : LogBound (kickoffStart s).log := by
  unfold kickoffStart; simp (maxDischargeDepth := 60) +contextual [hlog]
@[simp] theorem warmReset_logBound (s : State) (cause : Nat) (ran : Bool) (hlog : LogBound s.log) : LogBound (warmReset s cause ran).log := by
  unfold warmReset; simp (maxDischargeDepth := 60) +contextual [hlog]
@[simp] theorem failKickoff_logBound (s : State) (reason detail : Nat) (hlog : LogBound s.log) : LogBound (failKickoff s reason detail).log := by
  unfold failKickoff; simp (maxDischargeDepth := 60) +contextual [hlog]
@[simp] theorem holdEnded_logBound (s : State) (hlog : LogBound s.log) : LogBound (holdEnded s).log := by
  unfold holdEnded; split <;> simp (maxDischargeDepth := 60) +contextual [hlog]
@[simp] theorem porst_logBound (s : State) (hlog : LogBound s.log) : LogBound (porst s).log := by
  unfold porst; simp (maxDischargeDepth := 60) +contextual [hlog]
@[simp] theorem porstReleased_logBound (s : State) (hlog : LogBound s.log) : LogBound (porstReleased s).log := by
  unfold porstReleased; simp (maxDischargeDepth := 60) +contextual [hlog]
@[simp] theorem powerLost_logBound (s : State) : LogBound (powerLost s).log := by
  unfold powerLost LogBound State.reset; simp
@[simp] theorem resumeMirror_logBound (s : State) (hlog : LogBound s.log) : LogBound (resumeMirror s).log := by
  unfold resumeMirror; simp (maxDischargeDepth := 60) +contextual [hlog]
@[simp] theorem lateEntries_logBound (s : State) (hlog : LogBound s.log) : LogBound (lateEntries s).log := by
  unfold lateEntries; split <;> simp (maxDischargeDepth := 60) +contextual [hlog]
@[simp] theorem passResets_logBound (s : State) (hlog : LogBound s.log) : LogBound (passResets s).log := by
  unfold passResets; simp (maxDischargeDepth := 60) +contextual [hlog]
@[simp] theorem causesAtEnd_logBound (s : State) (hlog : LogBound s.log) : LogBound (causesAtEnd s).log := by
  unfold causesAtEnd; simp (maxDischargeDepth := 60) +contextual [hlog]
@[simp] theorem finishKickoff_logBound (s : State) (hlog : LogBound s.log) : LogBound (finishKickoff s).log := by
  unfold finishKickoff; simp (maxDischargeDepth := 60) +contextual [hlog]

/-! ## Operands -/

@[simp] theorem setAcc_logBound (s : State) (a : Accessor) (f : AccState → AccState) (hlog : LogBound s.log) : LogBound (setAcc s a f).log := hlog

/-! ## Actions -/

@[simp] theorem speedNow_logBound (s : State) (m k : Nat) (own : Bool) (hlog : LogBound s.log) : LogBound (speedNow s m k own).log := by
  unfold speedNow; simp (maxDischargeDepth := 60) +contextual [hlog]
@[simp] theorem motorFault_logBound (s : State) (m code : Nat) (hlog : LogBound s.log) : LogBound (motorFault s m code).log := by
  unfold motorFault; simp (maxDischargeDepth := 60) +contextual [hlog]
@[simp] theorem hallSpeed_logBound (s : State) (m : Nat) (back : Bool) (p : Nat) (hlog : LogBound s.log) : LogBound (hallSpeed s m back p).log := by
  unfold hallSpeed; simp (maxDischargeDepth := 60) +contextual [hlog]
@[simp] theorem countTurn_logBound (s : State) (m : Nat) (hlog : LogBound s.log) : LogBound (countTurn s m).log := by
  unfold countTurn; simp (maxDischargeDepth := 60) +contextual [hlog]
@[simp] theorem enterSector_logBound (s : State) (m code k t : Nat) (back : Bool) (hlog : LogBound s.log) :
  LogBound (enterSector s m code k t back).log := by unfold enterSector; simp (maxDischargeDepth := 60) +contextual [hlog]
@[simp] theorem hallFault_logBound (s : State) (m : Nat) (hlog : LogBound s.log) : LogBound (hallFault s m).log := by
  unfold hallFault; simp (maxDischargeDepth := 60) +contextual [hlog]
@[simp] theorem hallEdge_logBound (s : State) (n code t : Nat) (hlog : LogBound s.log) : LogBound (hallEdge s n code t).log := by
  unfold hallEdge; (repeat' split) <;> simp (maxDischargeDepth := 60) +contextual [hlog]
@[simp] theorem deferAxis_logBound (s : State) (a : Nat) (c : AxisDeferred) (hlog : LogBound s.log) : LogBound (deferAxis s a c).log := by
  unfold deferAxis; split <;> simp (maxDischargeDepth := 60) +contextual [hlog]
@[simp] theorem moveNow_logBound (s : State) (a v : Nat) (hlog : LogBound s.log) : LogBound (moveNow s a v).1.log := by
  unfold moveNow; (repeat' split) <;> simp (maxDischargeDepth := 60) +contextual [hlog]
@[simp] theorem moveCommand_logBound (s : State) (a v : Nat) (hlog : LogBound s.log) : LogBound (moveCommand s a v).log := by
  unfold moveCommand; split <;> simp (maxDischargeDepth := 60) +contextual [hlog]
@[simp] theorem stopCommand_logBound (s : State) (a : Nat) (hard : Bool) (hlog : LogBound s.log) : LogBound (stopCommand s a hard).log := by
  unfold stopCommand; split <;> simp (maxDischargeDepth := 60) +contextual [hlog]
@[simp] theorem resumeCommand_logBound (s : State) (a : Nat) (hlog : LogBound s.log) : LogBound (resumeCommand s a).log := by
  unfold resumeCommand; split <;> simp (maxDischargeDepth := 60) +contextual [hlog]
@[simp] theorem homeCommand_logBound (s : State) (a : Nat) (hlog : LogBound s.log) : LogBound (homeCommand s a).log := by
  unfold homeCommand; simp (maxDischargeDepth := 60) +contextual [hlog]
@[simp] theorem driverDouble_logBound (s : State) (a : Nat) (hlog : LogBound s.log) : LogBound (driverDouble s a).log := by
  unfold driverDouble; simp (maxDischargeDepth := 60) +contextual [hlog]
@[simp] theorem driverFault_logBound (s : State) (a : Nat) (hlog : LogBound s.log) : LogBound (driverFault s a).log := by
  unfold driverFault; simp (maxDischargeDepth := 60) +contextual [hlog]
@[simp] theorem fltActive_logBound (s : State) (a : Nat) (hlog : LogBound s.log) : LogBound (fltActive s a).log := by
  unfold fltActive; simp (maxDischargeDepth := 60) +contextual [hlog]
@[simp] theorem fltInactive_logBound (s : State) (a : Nat) (hlog : LogBound s.log) : LogBound (fltInactive s a).log := by
  unfold fltInactive; simp (maxDischargeDepth := 60) +contextual [hlog]
@[simp] theorem homingLimit_logBound (s : State) (a : Nat) (positive : Bool) (hlog : LogBound s.log) : LogBound (homingLimit s a positive).log := by
  unfold homingLimit; simp (maxDischargeDepth := 60) +contextual [hlog]
@[simp] theorem limitActive_logBound (s : State) (a : Nat) (positive : Bool) (hlog : LogBound s.log) : LogBound (limitActive s a positive).log := by
  unfold limitActive; (repeat' split) <;> simp (maxDischargeDepth := 60) +contextual [hlog]
@[simp] theorem conflictBegins_logBound (s : State) (c : Nat) (hlog : LogBound s.log) : LogBound (conflictBegins s c).log := by
  unfold conflictBegins; (repeat' split) <;> simp (maxDischargeDepth := 60) +contextual [hlog]
@[simp] theorem conflictEnds_logBound (s : State) (c : Nat) (hlog : LogBound s.log) : LogBound (conflictEnds s c).log := by
  unfold conflictEnds; (repeat' split) <;> simp (maxDischargeDepth := 60) +contextual [hlog]
@[simp] theorem claimsTaken_logBound (s : State) (hlog : LogBound s.log) : LogBound (claimsTaken s).log := by
  unfold claimsTaken; simp (maxDischargeDepth := 60) +contextual [hlog]
@[simp] theorem enableNow_logBound (s : State) (a v : Nat) (hlog : LogBound s.log) : LogBound (enableNow s a v).log := by
  unfold enableNow; simp (maxDischargeDepth := 60) +contextual [hlog]
@[simp] theorem injectionStart_logBound (s : State) (hlog : LogBound s.log) : LogBound (injectionStart s).log := hlog
@[simp] theorem injectionStop_logBound (s : State) (hlog : LogBound s.log) : LogBound (injectionStop s).log := hlog
@[simp] theorem captureArm_logBound (s : State) (hlog : LogBound s.log) : LogBound (captureArm s).log := hlog

/-! ## Fire -/

@[simp] theorem flagEvent_logBound (s : State) (e : Event) (hlog : LogBound s.log) : LogBound (flagEvent s e).log := by
  unfold flagEvent; simp (maxDischargeDepth := 60) +contextual [hlog]
@[simp] theorem markFired_logBound (s : State) (k : Nat) (e : Event) (late : Bool) (hlog : LogBound s.log) :
  LogBound (markFired s k e late).log := by unfold markFired; split <;> simp (maxDischargeDepth := 60) +contextual [hlog]
@[simp] theorem mistime_logBound (s : State) (k old new : Nat) (hlog : LogBound s.log) : LogBound (mistime s k old new).log := by
  unfold mistime
  simp only
  refine foldl_logBound _ _ _ ?_ hlog
  intro u p hu
  (repeat' split) <;> simp (maxDischargeDepth := 60) +contextual [hu]
@[simp] theorem freeFired_logBound (s : State) (hlog : LogBound s.log) : LogBound (freeFired s).log := by
  unfold freeFired; simp (maxDischargeDepth := 60) +contextual [hlog]
@[simp] theorem decideRoute_logBound (s : State) (uid : Nat) (hlog : LogBound s.log) : LogBound (decideRoute s uid).log := hlog
@[simp] theorem dropEvent_logBound (s : State) (k : Nat) (hlog : LogBound s.log) : LogBound (dropEvent s k).log := by
  unfold dropEvent; simp (maxDischargeDepth := 60) +contextual [hlog]
@[simp] theorem missMedium_logBound (s : State) (uid : Nat) (allHv : Bool) (hlog : LogBound s.log) : LogBound (missMedium s uid allHv).log := by
  unfold missMedium; simp (maxDischargeDepth := 60) +contextual [hlog]
@[simp] theorem dropped_logBound (e : Event) (r : State × Bool) (hlog : LogBound r.1.log) : LogBound (dropped e r).log := by
  unfold dropped; split <;> simp (maxDischargeDepth := 60) +contextual [hlog]
@[simp] theorem actMove_logBound (s : State) (e : Event) (hlog : LogBound s.log) : LogBound (actMove s e).log := by
  unfold actMove; simp (maxDischargeDepth := 60) +contextual [hlog]
@[simp] theorem actStop_logBound (s : State) (e : Event) (hlog : LogBound s.log) : LogBound (actStop s e).log := by
  unfold actStop; simp (maxDischargeDepth := 60) +contextual [hlog]
@[simp] theorem actSpeed_logBound (s : State) (e : Event) (hlog : LogBound s.log) : LogBound (actSpeed s e).log := by
  unfold actSpeed; simp (maxDischargeDepth := 60) +contextual [hlog]
@[simp] theorem actPin_logBound (s : State) (e : Event) (hlog : LogBound s.log) : LogBound (actPin s e).log := by
  unfold actPin; simp (maxDischargeDepth := 60) +contextual [hlog]
@[simp] theorem actArrival_logBound (s : State) (e : Event) (seen : Bool) (hlog : LogBound s.log) : LogBound (actArrival s e seen).log := by
  unfold actArrival; split <;> simp (maxDischargeDepth := 60) +contextual [hlog]
@[simp] theorem actBank_logBound (s : State) (e : Event) (hlog : LogBound s.log) : LogBound (actBank s e).log := by
  unfold actBank; simp (maxDischargeDepth := 60) +contextual [hlog]
@[simp] theorem actLoopOn_logBound (s : State) (e : Event) (hlog : LogBound s.log) : LogBound (actLoopOn s e).log := by
  unfold actLoopOn; simp (maxDischargeDepth := 60) +contextual [hlog]
@[simp] theorem actLoopOff_logBound (s : State) (e : Event) (hlog : LogBound s.log) : LogBound (actLoopOff s e).log := by
  unfold actLoopOff; simp (maxDischargeDepth := 60) +contextual [hlog]
@[simp] theorem actExit_logBound (s : State) (e : Event) (hlog : LogBound s.log) : LogBound (actExit s e).log := by
  unfold actExit; (repeat' split) <;> simp (maxDischargeDepth := 60) +contextual [hlog]
@[simp] theorem actMark_logBound (s : State) (e : Event) (hlog : LogBound s.log) : LogBound (actMark s e).log := by
  unfold actMark; simp (maxDischargeDepth := 60) +contextual [hlog]
@[simp] theorem actCapture_logBound (s : State) (e : Event) (hlog : LogBound s.log) : LogBound (actCapture s e).log := by
  unfold actCapture; simp (maxDischargeDepth := 60) +contextual [hlog]
@[simp] theorem act_logBound (s : State) (e : Event) (seen : Bool) (hlog : LogBound s.log) : LogBound (act s e seen).log := by
  unfold act; split <;> simp (maxDischargeDepth := 60) +contextual [hlog]
@[simp] theorem fire_logBound (s : State) (k : Nat) (e : Event) (late seen : Bool) (hlog : LogBound s.log) : LogBound (fire s k e late seen).log := by
  unfold fire; (repeat' split) <;> simp (maxDischargeDepth := 60) +contextual [hlog]
@[simp] theorem fireSlot_logBound (s : State) (k code : Nat) (seen : Bool) (hlog : LogBound s.log) : LogBound (fireSlot s k code seen).log := by
  unfold fireSlot; split <;> simp (maxDischargeDepth := 60) +contextual [hlog]
@[simp] theorem enterEvent_logBound (s : State) (k : Nat) (e : Event) (hlog : LogBound s.log) : LogBound (enterEvent s k e).log := by
  unfold enterEvent; simp only; (repeat' split) <;> simp (maxDischargeDepth := 60) +contextual [hlog]
@[simp] theorem resolveEvents_logBound (s : State) (uid : Nat) (hlog : LogBound s.log) : LogBound (resolveEvents s uid).log := by
  unfold resolveEvents; simp (maxDischargeDepth := 60) +contextual [hlog]

/-! ## Apply -/

@[simp] theorem geometryTaken_logBound (old s : State) (n : Nat) (hlog : LogBound s.log) : LogBound (geometryTaken old s n).log := by
  unfold geometryTaken; simp (maxDischargeDepth := 60) +contextual [hlog]
@[simp] theorem loopTaken_logBound (old s : State) (n : Nat) (hlog : LogBound s.log) : LogBound (loopTaken old s n).log := by
  unfold loopTaken; simp (maxDischargeDepth := 60) +contextual [hlog]
@[simp] theorem groupTaken_logBound (old s : State) (g : Nat) (hlog : LogBound s.log) : LogBound (groupTaken old s g).log := by
  unfold groupTaken; simp (maxDischargeDepth := 60) +contextual [hlog]
@[simp] theorem takeGroup_logBound (s : State) (g : Nat) (hlog : LogBound s.log) : LogBound (takeGroup s g).log := by
  unfold takeGroup; simp (maxDischargeDepth := 60) +contextual [hlog]
@[simp] theorem armGroup_logBound (s : State) (g : Nat) (hlog : LogBound s.log) : LogBound (armGroup s g).log := hlog
@[simp] theorem refuseGroup_logBound (s : State) (g : Nat) (hlog : LogBound s.log) : LogBound (refuseGroup s g).log := hlog
@[simp] theorem applyGroup_logBound (s : State) (passed : List Nat) (g : Nat) (hlog : LogBound s.log) : LogBound (applyGroup s passed g).1.log := by
  unfold applyGroup; simp (maxDischargeDepth := 60) +contextual [hlog]
@[simp] theorem applyNext_logBound (p : State × Nat × List Nat) (g : Nat) (hlog : LogBound p.1.log) : LogBound (applyNext p g).1.log := by
  unfold applyNext; simp (maxDischargeDepth := 60) +contextual [hlog]
@[simp] theorem applyAll_logBound (s : State) (acc : Accessor) (hlog : LogBound s.log) : LogBound (applyAll s acc).1.log := by
  unfold applyAll; split <;> simp (maxDischargeDepth := 60) +contextual [hlog]
@[simp] theorem discard_logBound (s : State) (acc : Accessor) (g : Nat) (hlog : LogBound s.log) : LogBound (discard s acc g).log := by
  unfold discard; simp (maxDischargeDepth := 60) +contextual [hlog]
@[simp] theorem stageBy_logBound (s : State) (acc : Accessor) (g : Nat) (hlog : LogBound s.log) : LogBound (stageBy s acc g).log := by
  unfold stageBy; simp (maxDischargeDepth := 60) +contextual [hlog]
@[simp] theorem stageNum_logBound (s : State) (acc : Accessor) (idx sub v : Nat) (hlog : LogBound s.log) :
  LogBound (stageNum s acc idx sub v).log := by unfold stageNum; simp (maxDischargeDepth := 60) +contextual [hlog]
@[simp] theorem stageBlob_logBound (s : State) (acc : Accessor) (idx sub : Nat) (l : List Byte) (hlog : LogBound s.log) :
  LogBound (stageBlob s acc idx sub l).log := by unfold stageBlob; simp (maxDischargeDepth := 60) +contextual [hlog]
@[simp] theorem takeArmed_logBound (s : State) (g : Nat) (hlog : LogBound s.log) : LogBound (takeArmed s g).log := by
  unfold takeArmed; simp (maxDischargeDepth := 60) +contextual [hlog]

/-! ## Write -/

@[simp] theorem store_logBound (s : State) (idx sub v : Nat) (hlog : LogBound s.log) : LogBound (store s idx sub v).log := by
  unfold store; simp (maxDischargeDepth := 60) +contextual [hlog]
@[simp] theorem thresholdWrite_logBound (s : State) (idx sub v : Nat) (hlog : LogBound s.log) : LogBound (thresholdWrite s idx sub v).log := by
  unfold thresholdWrite; split <;> simp (maxDischargeDepth := 60) +contextual [hlog]
@[simp] theorem lockWrite_logBound (s : State) (acc : Accessor) (p v : Nat) (hlog : LogBound s.log) : LogBound (lockWrite s acc p v).log := by
  unfold lockWrite; simp (maxDischargeDepth := 60) +contextual [hlog]
@[simp] theorem breakLock_logBound (s : State) (acc : Accessor) (idx sub : Nat) (hlog : LogBound s.log) :
  LogBound (breakLock s acc idx sub).log := by unfold breakLock; simp (maxDischargeDepth := 60) +contextual [hlog]
@[simp] theorem partnerHoldEnds_logBound (s : State) (n : Nat) (hlog : LogBound s.log) : LogBound (partnerHoldEnds s n).log := by
  unfold partnerHoldEnds; split <;> simp (maxDischargeDepth := 60) +contextual [hlog]
@[simp] theorem partnerPort_logBound (s : State) (n v : Nat) (hlog : LogBound s.log) : LogBound (partnerPort s n v).log := by
  unfold partnerPort; simp (maxDischargeDepth := 60) +contextual [hlog]
@[simp] theorem endSlotSessions_logBound (s : State) (slot : Nat) (hlog : LogBound s.log) : LogBound (endSlotSessions s slot).log := by
  unfold endSlotSessions; simp (maxDischargeDepth := 60) +contextual [hlog]
@[simp] theorem relockWrite_logBound (s : State) (hlog : LogBound s.log) : LogBound (relockWrite s).log := by
  unfold relockWrite; simp (maxDischargeDepth := 60) +contextual [hlog]
@[simp] theorem serviceLight_logBound (s : State) (n v : Nat) (hlog : LogBound s.log) : LogBound (serviceLight s n v).log := by
  unfold serviceLight; simp (maxDischargeDepth := 60) +contextual [hlog]
@[simp] theorem takeHeldLight_logBound (s : State) (n : Nat) (hlog : LogBound s.log) : LogBound (takeHeldLight s n).log := by
  unfold takeHeldLight; simp (maxDischargeDepth := 60) +contextual [hlog]
@[simp] theorem postEvent_logBound (s : State) (d : List Byte) (hlog : LogBound s.log) : LogBound (postEvent s d).log := by
  unfold postEvent; split <;> simp (maxDischargeDepth := 60) +contextual [hlog]
@[simp] theorem cancelTag_logBound (s : State) (tag : Nat) (hlog : LogBound s.log) : LogBound (cancelTag s tag).log := by
  unfold cancelTag; simp (maxDischargeDepth := 60) +contextual [hlog]
@[simp] theorem terpRestart_logBound (s : State) (hlog : LogBound s.log) : LogBound (terpRestart s).log := by
  unfold terpRestart; simp (maxDischargeDepth := 60) +contextual [hlog]
@[simp] theorem effectSystem_logBound (s : State) (acc : Accessor) (idx sub v : Nat) (d : List Byte) (hlog : LogBound s.log) :
  LogBound (effectSystem s acc idx sub v d).1.log := by
  unfold effectSystem; (repeat' split) <;> simp (maxDischargeDepth := 60) +contextual [hlog]
@[simp] theorem effectHost_logBound (s : State) (idx sub v : Nat) (d : List Byte) (hlog : LogBound s.log) :
  LogBound (effectHost s idx sub v d).log := by
  unfold effectHost; simp only; (repeat' split) <;> simp (maxDischargeDepth := 60) +contextual [hlog]
@[simp] theorem effectMotion_logBound (s : State) (idx sub v : Nat) (hlog : LogBound s.log) : LogBound (effectMotion s idx sub v).log := by
  unfold effectMotion; (repeat' split) <;> simp (maxDischargeDepth := 60) +contextual [hlog]
@[simp] theorem effectLoop_logBound (s : State) (idx sub v : Nat) (hlog : LogBound s.log) : LogBound (effectLoop s idx sub v).log := by
  unfold effectLoop; (repeat' split) <;> simp (maxDischargeDepth := 60) +contextual [hlog]
@[simp] theorem effectPins_logBound (s : State) (acc : Accessor) (idx sub v : Nat) (hlog : LogBound s.log) :
  LogBound (effectPins s acc idx sub v).log := by unfold effectPins; simp (maxDischargeDepth := 60) +contextual [hlog]
@[simp] theorem effectNet_logBound (s : State) (idx sub v : Nat) (d : List Byte) (hlog : LogBound s.log) :
  LogBound (effectNet s idx sub v d).log := by
  unfold effectNet; (repeat' split) <;> simp (maxDischargeDepth := 60) +contextual [hlog]
@[simp] theorem writeEffect_logBound (s : State) (acc : Accessor) (r : Row) (idx sub v : Nat) (d : List Byte) (hlog : LogBound s.log) :
  LogBound (writeEffect s acc r idx sub v d).1.log := by unfold writeEffect; simp (maxDischargeDepth := 60) +contextual [hlog]
@[simp] theorem writeDict_logBound (acc : Accessor) (idx sub : Nat) (d : List Byte) (s : State) (hlog : LogBound s.log) :
  LogBound (writeDict acc idx sub d s).1.log := by unfold writeDict; simp (maxDischargeDepth := 60) +contextual [hlog]
@[simp] theorem writeCommand_logBound (acc : Accessor) (idx sub : Nat) (d : List Byte) (s : State) (hlog : LogBound s.log) :
  LogBound (writeCommand acc idx sub d s).log := by unfold writeCommand; simp (maxDischargeDepth := 60) +contextual [hlog]
@[simp] theorem readEffect_logBound (s : State) (acc : Accessor) (idx sub : Nat) (hlog : LogBound s.log) :
  LogBound (readEffect s acc idx sub).log := by
  unfold readEffect; (repeat' split) <;> simp (maxDischargeDepth := 60) +contextual [hlog]
@[simp] theorem readDict_logBound (acc : Accessor) (idx sub : Nat) (s : State) (hlog : LogBound s.log) :
  LogBound (readDict acc idx sub s).1.log := by unfold readDict; simp (maxDischargeDepth := 60) +contextual [hlog]
@[simp] theorem readCommand_logBound (acc : Accessor) (idx sub : Nat) (s : State) (hlog : LogBound s.log) :
  LogBound (readCommand acc idx sub s).log := by unfold readCommand; simp (maxDischargeDepth := 60) +contextual [hlog]

/-! ## NetServe -/

@[simp] theorem setSession_logBound (s : State) (id : Nat) (f : Session → Session) (hlog : LogBound s.log) : LogBound (setSession s id f).log := hlog
@[simp] theorem authGate_logBound (s : State) (x : FrameSrc) (u : Pdu) (hlog : LogBound s.log) : LogBound (authGate s x u).1.log := by
  unfold authGate; (repeat' split) <;> simp (maxDischargeDepth := 60) +contextual [hlog]
@[simp] theorem expireSession_logBound (s : State) (x : FrameSrc) (hlog : LogBound s.log) : LogBound (expireSession s x).log := by
  unfold expireSession; split <;> simp (maxDischargeDepth := 60) +contextual [hlog]
@[simp] theorem sendSigned_logBound (s : State) (x : FrameSrc) (y : Session) (type : Nat) (payload : List Byte) (hlog : LogBound s.log) :
  LogBound (sendSigned s x y type payload).log := by unfold sendSigned; simp (maxDischargeDepth := 60) +contextual [hlog]
@[simp] theorem sendTo_logBound (s : State) (x : FrameSrc) (type : Nat) (payload : List Byte) (hlog : LogBound s.log) :
  LogBound (sendTo s x type payload).log := by
  unfold sendTo; (repeat' split) <;> simp (maxDischargeDepth := 60) +contextual [hlog]
@[simp] theorem partnerGoes_logBound (s : State) (n v : Nat) (hlog : LogBound s.log) : LogBound (partnerGoes s n v).log := by
  unfold partnerGoes; simp (maxDischargeDepth := 60) +contextual [hlog]
@[simp] theorem rollcallState_logBound (s : State) (hlog : LogBound s.log) : LogBound (rollcallState s).log := by
  unfold rollcallState; simp (maxDischargeDepth := 60) +contextual [hlog]
@[simp] theorem afterBlock_logBound (s : State) (p : Nat) (hlog : LogBound s.log) : LogBound (afterBlock s p).log := by
  unfold afterBlock; simp (maxDischargeDepth := 60) +contextual [hlog]
@[simp] theorem startRollcall_logBound (s : State) (hlog : LogBound s.log) : LogBound (startRollcall s).log := by
  unfold startRollcall; simp (maxDischargeDepth := 60) +contextual [hlog]
@[simp] theorem dropTransfer_logBound (s : State) (x : FrameSrc) (tid : Nat) (own : Bool) (hlog : LogBound s.log) :
  LogBound (dropTransfer s x tid own).log := hlog
@[simp] theorem keepTransfer_logBound (s : State) (f : Transfer) (hlog : LogBound s.log) : LogBound (keepTransfer s f).log := hlog
@[simp] theorem sendSegment_logBound (s : State) (f : Transfer) (k : Nat) (hlog : LogBound s.log) : LogBound (sendSegment s f k).log := by
  unfold sendSegment; simp (maxDischargeDepth := 60) +contextual [hlog]
@[simp] theorem sendBlock_logBound (s : State) (f : Transfer) (k : Nat) (hlog : LogBound s.log) : LogBound (sendBlock s f k).log := by
  unfold sendBlock; simp (maxDischargeDepth := 60) +contextual [hlog]
@[simp] theorem answer_logBound (s : State) (x : FrameSrc) (tid : Nat) (req : Pdu) (type : Nat) (payload : List Byte) (hlog : LogBound s.log) :
  LogBound (answer s x tid req type payload).log := by unfold answer; simp (maxDischargeDepth := 60) +contextual [hlog]
@[simp] theorem countServed_logBound (s : State) (a : Accessor) (hlog : LogBound s.log) : LogBound (countServed s a).log := by
  unfold countServed; split <;> simp (maxDischargeDepth := 60) +contextual [hlog]
@[simp] theorem serveRead_logBound (s : State) (x : FrameSrc) (tid idx sub : Nat) (req : Pdu) (hlog : LogBound s.log) :
  LogBound (serveRead s x tid idx sub req).log := by unfold serveRead; simp (maxDischargeDepth := 60) +contextual [hlog]
@[simp] theorem serveWrite_logBound (s : State) (x : FrameSrc) (tid idx sub : Nat) (d : List Byte) (req : Pdu) (hlog : LogBound s.log) :
  LogBound (serveWrite s x tid idx sub d req).log := by unfold serveWrite; simp (maxDischargeDepth := 60) +contextual [hlog]
@[simp] theorem serveWriteSeg_logBound (s : State) (x : FrameSrc) (tid idx sub total : Nat) (req : Pdu) (hlog : LogBound s.log) :
  LogBound (serveWriteSeg s x tid idx sub total req).log := by unfold serveWriteSeg; simp (maxDischargeDepth := 60) +contextual [hlog]
@[simp] theorem request_logBound (s : State) (x : FrameSrc) (ahead tid : Nat) (req : Pdu) (serve : State → State)
    (h : ∀ u, LogBound u.log → LogBound (serve u).log) (hlog : LogBound s.log) : LogBound (request s x ahead tid req serve).log := by
  unfold request; (repeat' split) <;> simp (maxDischargeDepth := 60) +contextual [hlog, h]
@[simp] theorem finishTaking.serveDropOwn_logBound (t : State) (f : Transfer) (hlog : LogBound t.log) :
    LogBound (finishTaking.serveDropOwn t f).log := by
  unfold finishTaking.serveDropOwn; simp [hlog]
@[simp] theorem finishTaking_logBound (s : State) (f : Transfer) (short : Bool) (hlog : LogBound s.log) : LogBound (finishTaking s f short).log := by
  unfold finishTaking; simp only; (repeat' split) <;> simp (maxDischargeDepth := 60) +contextual [hlog]
@[simp] theorem takeSegment_logBound (s : State) (f : Transfer) (last : Bool) (d : List Byte) (hlog : LogBound s.log) :
  LogBound (takeSegment s f last d).log := by unfold takeSegment; simp (maxDischargeDepth := 60) +contextual [hlog]
@[simp] theorem serveSegment_logBound (s : State) (x : FrameSrc) (tid : Nat) (last : Bool) (seq : Nat) (d : List Byte) (hlog : LogBound s.log) :
  LogBound (serveSegment s x tid last seq d).log := by unfold serveSegment; split <;> simp (maxDischargeDepth := 60) +contextual [hlog]
@[simp] theorem lateAnswer_logBound (s : State) (x : FrameSrc) (hlog : LogBound s.log) : LogBound (lateAnswer s x).log := hlog
@[simp] theorem serveAck_logBound (s : State) (x : FrameSrc) (tid seq : Nat) (hlog : LogBound s.log) : LogBound (serveAck s x tid seq).log := by
  unfold serveAck; split <;> simp (maxDischargeDepth := 60) +contextual [hlog]
@[simp] theorem serveAbort_logBound (s : State) (x : FrameSrc) (tid : Nat) (hlog : LogBound s.log) : LogBound (serveAbort s x tid).log := hlog
@[simp] theorem serveReadResponse_logBound (s : State) (x : FrameSrc) (tid status : Nat) (d : List Byte) (hlog : LogBound s.log) :
  LogBound (serveReadResponse s x tid status d).log := by unfold serveReadResponse; split <;> simp (maxDischargeDepth := 60) +contextual [hlog]
@[simp] theorem serveWriteResponse_logBound (s : State) (x : FrameSrc) (tid status : Nat) (hlog : LogBound s.log) :
  LogBound (serveWriteResponse s x tid status).log := by unfold serveWriteResponse; split <;> simp (maxDischargeDepth := 60) +contextual [hlog]
@[simp] theorem writeEntries_logBound (s : State) (a : Accessor) (a1 : List Nat) (a2 : List Byte) (hlog : LogBound s.log) :
  LogBound (writeEntries s a a1 a2).log := by
  fun_induction writeEntries s a a1 a2 <;> simp +zetaDelta [*]
@[simp] theorem serveCyclic_logBound (s : State) (x : FrameSrc) (m : Nat) (d : List Byte) (hlog : LogBound s.log) :
  LogBound (serveCyclic s x m d).log := by unfold serveCyclic; simp (maxDischargeDepth := 60) +contextual [hlog]
@[simp] theorem classify_logBound (s : State) (p n identity plca : Nat) (hlog : LogBound s.log) : LogBound (classify s p n identity plca).log := by
  unfold classify; simp (maxDischargeDepth := 60) +contextual [hlog]
@[simp] theorem rememberAnswer_logBound (s : State) (p n : Nat) (hlog : LogBound s.log) : LogBound (rememberAnswer s p n).log := by
  unfold rememberAnswer; simp (maxDischargeDepth := 60) +contextual [hlog]
@[simp] theorem pollOver_logBound (s : State) (p : Nat) (hlog : LogBound s.log) : LogBound (pollOver s p).log := by
  unfold pollOver; simp (maxDischargeDepth := 60) +contextual [hlog]
@[simp] theorem serveAnswer_logBound (s : State) (x : FrameSrc) (identity plca : Nat) (hlog : LogBound s.log) :
  LogBound (serveAnswer s x identity plca).log := by unfold serveAnswer; simp (maxDischargeDepth := 60) +contextual [hlog]
@[simp] theorem rollcallDone_logBound (s : State) (hlog : LogBound s.log) : LogBound (rollcallDone s).log := by
  unfold rollcallDone; simp (maxDischargeDepth := 60) +contextual [hlog]
@[simp] theorem serveRollcall_logBound (s : State) (x : FrameSrc) (base slots : Nat) (hlog : LogBound s.log) :
  LogBound (serveRollcall s x base slots).log := by unfold serveRollcall; simp (maxDischargeDepth := 60) +contextual [hlog]
@[simp] theorem serveClose_logBound (s : State) (x : FrameSrc) (hlog : LogBound s.log) : LogBound (serveClose s x).log := by
  unfold serveClose; split <;> simp (maxDischargeDepth := 60) +contextual [hlog]
@[simp] theorem serveHello_logBound (s : State) (x : FrameSrc) (slot : Nat) (nonce : List Byte) (hlog : LogBound s.log) :
  LogBound (serveHello s x slot nonce).log := by unfold serveHello; split <;> simp (maxDischargeDepth := 60) +contextual [hlog]
@[simp] theorem servePdu_logBound (s : State) (x : FrameSrc) (ahead : Nat) (u : Pdu) (hlog : LogBound s.log) :
    LogBound (servePdu s x ahead u).log := by
  cases u <;> simp (maxDischargeDepth := 60) +contextual [servePdu, hlog]
@[simp] theorem serveOne_logBound (s : State) (x : FrameSrc) (ahead : Nat) (u : Pdu) (hlog : LogBound s.log) :
  LogBound (serveOne s x ahead u).log := by unfold serveOne; simp (maxDischargeDepth := 60) +contextual [hlog]
@[simp] theorem serveQueue_logBound (b l : List (FrameSrc × Pdu)) (s : State) (hlog : LogBound s.log) : LogBound (serveQueue b l s).log := by
  induction l generalizing b s with
  | nil => exact hlog
  | cons y l ih => exact ih _ _ (serveOne_logBound _ _ _ _ hlog)
@[simp] theorem drainRx_logBound (s : State) (p : Nat) (hlog : LogBound s.log) : LogBound (drainRx s p).log := by
  unfold drainRx; simp (maxDischargeDepth := 60) +contextual [hlog]
@[simp] theorem drainAll_logBound (s : State) (hlog : LogBound s.log) : LogBound (drainAll s).log := by
  unfold drainAll; simp (maxDischargeDepth := 60) +contextual [hlog]
@[simp] theorem heard_logBound (s : State) (x : FrameSrc) (answer : Bool) (hlog : LogBound s.log) : LogBound (heard s x answer).log := by
  unfold heard; simp (maxDischargeDepth := 60) +contextual [hlog]
@[simp] theorem debitReceived_logBound (s : State) (x : FrameSrc) (u : Pdu) (hlog : LogBound s.log) : LogBound (debitReceived s x u).log := by
  unfold debitReceived; simp (maxDischargeDepth := 60) +contextual [hlog]
@[simp] theorem acknowledgeCan_logBound (s : State) (p : Nat) (hlog : LogBound s.log) : LogBound (acknowledgeCan s p).log := by
  unfold acknowledgeCan; simp (maxDischargeDepth := 60) +contextual [hlog]
@[simp] theorem discardFrame_logBound (s : State) (p : Nat) (hlog : LogBound s.log) : LogBound (discardFrame s p).log := by
  unfold discardFrame; simp (maxDischargeDepth := 60) +contextual [hlog]
@[simp] theorem receive_logBound (s : State) (x : FrameSrc) (u : Pdu) (hlog : LogBound s.log) : LogBound (receive s x u).log := by
  unfold receive; simp (maxDischargeDepth := 60) +contextual [hlog]

/-! ## Dictionary -/

theorem execObjectWrite_logBound (acc : Accessor) (idx sub : Nat) (data : List Byte) (s : State) (hlog : LogBound s.log) :
  ∃ w, execObjectWrite acc idx sub data s = .next (settle w) ∧ LogBound w.log := by
  unfold execObjectWrite; exact ⟨_, rfl, by simp (maxDischargeDepth := 60) +contextual [hlog]⟩
theorem execThresholdWrite_logBound (acc : Accessor) (idx sub : Nat) (data : List Byte) (s : State) (hlog : LogBound s.log) :
  ∃ w, execThresholdWrite acc idx sub data s = .next (settle w) ∧ LogBound w.log := by
  unfold execThresholdWrite; exact ⟨_, rfl, by simp (maxDischargeDepth := 60) +contextual [hlog]⟩
theorem execWatermarkLatchRead_logBound (acc : Accessor) (idx sub : Nat) (s : State) (hlog : LogBound s.log) :
  ∃ w, execWatermarkLatchRead acc idx sub s = .next (settle w) ∧ LogBound w.log := by
  unfold execWatermarkLatchRead; exact ⟨_, rfl, by simp (maxDischargeDepth := 60) +contextual [hlog]⟩
theorem execReadToClear_logBound (acc : Accessor) (idx sub : Nat) (s : State) (hlog : LogBound s.log) :
  ∃ w, execReadToClear acc idx sub s = .next (settle w) ∧ LogBound w.log := by
  unfold execReadToClear; exact ⟨_, rfl, by simp (maxDischargeDepth := 60) +contextual [hlog]⟩
theorem execApply_logBound (acc : Accessor) (data : List Byte) (s : State) (hlog : LogBound s.log) :
  ∃ w, execApply acc data s = .next (settle w) ∧ LogBound w.log := by
  unfold execApply; exact ⟨_, rfl, by simp (maxDischargeDepth := 60) +contextual [hlog]⟩
theorem execDiscardStaging_logBound (acc : Accessor) (data : List Byte) (s : State) (hlog : LogBound s.log) :
  ∃ w, execDiscardStaging acc data s = .next (settle w) ∧ LogBound w.log := by
  unfold execDiscardStaging; exact ⟨_, rfl, by simp (maxDischargeDepth := 60) +contextual [hlog]⟩
theorem execDeferredGroupTake_logBound (g : Fin 21) (s : State) (hlog : LogBound s.log) :
  ∃ w, execDeferredGroupTake g s = .next (settle w) ∧ LogBound w.log := by
  unfold execDeferredGroupTake; (repeat' split) <;> exact ⟨_, rfl, by simp (maxDischargeDepth := 60) +contextual [hlog]⟩
theorem execAnonymousAccessorTimeout_logBound (ip port : Nat) (s : State) (hlog : LogBound s.log) :
  ∃ w, execAnonymousAccessorTimeout ip port s = .next (settle w) ∧ LogBound w.log := by
  unfold execAnonymousAccessorTimeout; exact ⟨_, rfl, by simp (maxDischargeDepth := 60) +contextual [hlog]⟩
theorem execPatronHeartbeat_logBound (s : State) (hlog : LogBound s.log) : ∃ w, execPatronHeartbeat s = .next (settle w) ∧ LogBound w.log := by
  unfold execPatronHeartbeat; (repeat' split) <;> exact ⟨_, rfl, by simp (maxDischargeDepth := 60) +contextual [hlog]⟩
theorem execTerpRestart_logBound (acc : Accessor) (data : List Byte) (s : State) (hlog : LogBound s.log) :
  ∃ w, execTerpRestart acc data s = .next (settle w) ∧ LogBound w.log := by
  unfold execTerpRestart; exact ⟨_, rfl, by simp (maxDischargeDepth := 60) +contextual [hlog]⟩
theorem execOwnerKeyWrite_logBound (acc : Accessor) (data : List Byte) (s : State) (hlog : LogBound s.log) :
  ∃ w, execOwnerKeyWrite acc data s = .next (settle w) ∧ LogBound w.log := by
  unfold execOwnerKeyWrite; exact ⟨_, rfl, by simp (maxDischargeDepth := 60) +contextual [hlog]⟩
theorem execModeRequest_logBound (acc : Accessor) (data : List Byte) (s : State) (hlog : LogBound s.log) :
  ∃ w, execModeRequest acc data s = .next (settle w) ∧ LogBound w.log := by
  unfold execModeRequest; exact ⟨_, rfl, by simp (maxDischargeDepth := 60) +contextual [hlog]⟩
theorem execSafestopAcknowledge_logBound (acc : Accessor) (data : List Byte) (s : State) (hlog : LogBound s.log) :
  ∃ w, execSafestopAcknowledge acc data s = .next (settle w) ∧ LogBound w.log := by
  unfold execSafestopAcknowledge; exact ⟨_, rfl, by simp (maxDischargeDepth := 60) +contextual [hlog]⟩
theorem execAdmissionEnable_logBound (acc : Accessor) (data : List Byte) (s : State) (hlog : LogBound s.log) :
  ∃ w, execAdmissionEnable acc data s = .next (settle w) ∧ LogBound w.log := by
  unfold execAdmissionEnable; exact ⟨_, rfl, by simp (maxDischargeDepth := 60) +contextual [hlog]⟩
theorem execRelock_logBound (acc : Accessor) (data : List Byte) (s : State) (hlog : LogBound s.log) :
  ∃ w, execRelock acc data s = .next (settle w) ∧ LogBound w.log := by
  unfold execRelock; exact ⟨_, rfl, by simp (maxDischargeDepth := 60) +contextual [hlog]⟩
theorem execPortConfigWrite_logBound (acc : Accessor) (p : Fin 7) (sub : Nat) (data : List Byte) (s : State) (hlog : LogBound s.log) :
  ∃ w, execPortConfigWrite acc p sub data s = .next (settle w) ∧ LogBound w.log := by
  unfold execPortConfigWrite; exact ⟨_, rfl, by simp (maxDischargeDepth := 60) +contextual [hlog]⟩
theorem execPartnerPortWrite_logBound (acc : Accessor) (n : Fin 2048) (data : List Byte) (s : State) (hlog : LogBound s.log) :
  ∃ w, execPartnerPortWrite acc n data s = .next (settle w) ∧ LogBound w.log := by
  unfold execPartnerPortWrite; exact ⟨_, rfl, by simp (maxDischargeDepth := 60) +contextual [hlog]⟩
theorem execKeySlotWrite_logBound (acc : Accessor) (sub : Nat) (data : List Byte) (s : State) (hlog : LogBound s.log) :
  ∃ w, execKeySlotWrite acc sub data s = .next (settle w) ∧ LogBound w.log := by
  unfold execKeySlotWrite; exact ⟨_, rfl, by simp (maxDischargeDepth := 60) +contextual [hlog]⟩
theorem execTenantResetWrite_logBound (acc : Accessor) (t : Fin 64) (data : List Byte) (s : State) (hlog : LogBound s.log) :
  ∃ w, execTenantResetWrite acc t data s = .next (settle w) ∧ LogBound w.log := by
  unfold execTenantResetWrite; exact ⟨_, rfl, by simp (maxDischargeDepth := 60) +contextual [hlog]⟩
theorem execTenantEnable_logBound (acc : Accessor) (t : Fin 64) (data : List Byte) (s : State) (hlog : LogBound s.log) :
  ∃ w, execTenantEnable acc t data s = .next (settle w) ∧ LogBound w.log := by
  unfold execTenantEnable; exact ⟨_, rfl, by simp (maxDischargeDepth := 60) +contextual [hlog]⟩
theorem execTenantDisable_logBound (acc : Accessor) (t : Fin 64) (data : List Byte) (s : State) (hlog : LogBound s.log) :
  ∃ w, execTenantDisable acc t data s = .next (settle w) ∧ LogBound w.log := by
  unfold execTenantDisable; exact ⟨_, rfl, by simp (maxDischargeDepth := 60) +contextual [hlog]⟩
theorem execLinkRetrain_logBound (acc : Accessor) (st : Fin 6) (data : List Byte) (s : State) (hlog : LogBound s.log) :
  ∃ w, execLinkRetrain acc st data s = .next (settle w) ∧ LogBound w.log := by
  unfold execLinkRetrain; exact ⟨_, rfl, by simp (maxDischargeDepth := 60) +contextual [hlog]⟩
theorem execServiceApcWindow_logBound (acc : Accessor) (st : Fin 6) (data : List Byte) (s : State) (hlog : LogBound s.log) :
  ∃ w, execServiceApcWindow acc st data s = .next (settle w) ∧ LogBound w.log := by
  unfold execServiceApcWindow; exact ⟨_, rfl, by simp (maxDischargeDepth := 60) +contextual [hlog]⟩
theorem execServiceBdWindowsStart_logBound (acc : Accessor) (st : Fin 6) (data : List Byte) (s : State) (hlog : LogBound s.log) :
  ∃ w, execServiceBdWindowsStart acc st data s = .next (settle w) ∧ LogBound w.log := by
  unfold execServiceBdWindowsStart; exact ⟨_, rfl, by simp (maxDischargeDepth := 60) +contextual [hlog]⟩
theorem execServiceBdWindowsStop_logBound (acc : Accessor) (st : Fin 6) (data : List Byte) (s : State) (hlog : LogBound s.log) :
  ∃ w, execServiceBdWindowsStop acc st data s = .next (settle w) ∧ LogBound w.log := by
  unfold execServiceBdWindowsStop; exact ⟨_, rfl, by simp (maxDischargeDepth := 60) +contextual [hlog]⟩
theorem execServiceWindow_logBound (acc : Accessor) (st : Fin 6) (data : List Byte) (s : State) (hlog : LogBound s.log) :
  ∃ w, execServiceWindow acc st data s = .next (settle w) ∧ LogBound w.log := by
  unfold execServiceWindow; exact ⟨_, rfl, by simp (maxDischargeDepth := 60) +contextual [hlog]⟩
theorem execPostEvent_logBound (acc : Accessor) (data : List Byte) (s : State) (hlog : LogBound s.log) :
  ∃ w, execPostEvent acc data s = .next (settle w) ∧ LogBound w.log := by
  unfold execPostEvent; exact ⟨_, rfl, by simp (maxDischargeDepth := 60) +contextual [hlog]⟩
theorem execCancelByTag_logBound (acc : Accessor) (data : List Byte) (s : State) (hlog : LogBound s.log) :
  ∃ w, execCancelByTag acc data s = .next (settle w) ∧ LogBound w.log := by
  unfold execCancelByTag; exact ⟨_, rfl, by simp (maxDischargeDepth := 60) +contextual [hlog]⟩
theorem execSpeedCommand_logBound (acc : Accessor) (m : Fin 12) (data : List Byte) (s : State) (hlog : LogBound s.log) :
  ∃ w, execSpeedCommand acc m data s = .next (settle w) ∧ LogBound w.log := by
  unfold execSpeedCommand; exact ⟨_, rfl, by simp (maxDischargeDepth := 60) +contextual [hlog]⟩
theorem execAxisMoveCommand_logBound (acc : Accessor) (a : Fin 16) (data : List Byte) (s : State) (hlog : LogBound s.log) :
  ∃ w, execAxisMoveCommand acc a data s = .next (settle w) ∧ LogBound w.log := by
  unfold execAxisMoveCommand; exact ⟨_, rfl, by simp (maxDischargeDepth := 60) +contextual [hlog]⟩
theorem execGroupMoveCommand_logBound (acc : Accessor) (a : Fin 16) (data : List Byte) (s : State) (hlog : LogBound s.log) :
  ∃ w, execGroupMoveCommand acc a data s = .next (settle w) ∧ LogBound w.log := by
  unfold execGroupMoveCommand; exact ⟨_, rfl, by simp (maxDischargeDepth := 60) +contextual [hlog]⟩
theorem execAxisRampedStopCommand_logBound (acc : Accessor) (a : Fin 16) (data : List Byte) (s : State) (hlog : LogBound s.log) :
  ∃ w, execAxisRampedStopCommand acc a data s = .next (settle w) ∧ LogBound w.log := by
  unfold execAxisRampedStopCommand; exact ⟨_, rfl, by simp (maxDischargeDepth := 60) +contextual [hlog]⟩
theorem execAxisHardStopCommand_logBound (acc : Accessor) (a : Fin 16) (data : List Byte) (s : State) (hlog : LogBound s.log) :
  ∃ w, execAxisHardStopCommand acc a data s = .next (settle w) ∧ LogBound w.log := by
  unfold execAxisHardStopCommand; exact ⟨_, rfl, by simp (maxDischargeDepth := 60) +contextual [hlog]⟩
theorem execAxisResume_logBound (acc : Accessor) (a : Fin 16) (data : List Byte) (s : State) (hlog : LogBound s.log) :
  ∃ w, execAxisResume acc a data s = .next (settle w) ∧ LogBound w.log := by
  unfold execAxisResume; exact ⟨_, rfl, by simp (maxDischargeDepth := 60) +contextual [hlog]⟩
theorem execAxisHome_logBound (acc : Accessor) (a : Fin 16) (data : List Byte) (s : State) (hlog : LogBound s.log) :
  ∃ w, execAxisHome acc a data s = .next (settle w) ∧ LogBound w.log := by
  unfold execAxisHome; exact ⟨_, rfl, by simp (maxDischargeDepth := 60) +contextual [hlog]⟩
theorem execAxisEnable_logBound (acc : Accessor) (a : Fin 16) (data : List Byte) (s : State) (hlog : LogBound s.log) :
  ∃ w, execAxisEnable acc a data s = .next (settle w) ∧ LogBound w.log := by
  unfold execAxisEnable; exact ⟨_, rfl, by simp (maxDischargeDepth := 60) +contextual [hlog]⟩
theorem execLoopOnCommand_logBound (acc : Accessor) (n : Fin 48) (data : List Byte) (s : State) (hlog : LogBound s.log) :
  ∃ w, execLoopOnCommand acc n data s = .next (settle w) ∧ LogBound w.log := by
  unfold execLoopOnCommand; exact ⟨_, rfl, by simp (maxDischargeDepth := 60) +contextual [hlog]⟩
theorem execLoopOffCommand_logBound (acc : Accessor) (n : Fin 48) (data : List Byte) (s : State) (hlog : LogBound s.log) :
  ∃ w, execLoopOffCommand acc n data s = .next (settle w) ∧ LogBound w.log := by
  unfold execLoopOffCommand; exact ⟨_, rfl, by simp (maxDischargeDepth := 60) +contextual [hlog]⟩
theorem execBankWrite_logBound (acc : Accessor) (n : Fin 48) (data : List Byte) (s : State) (hlog : LogBound s.log) :
  ∃ w, execBankWrite acc n data s = .next (settle w) ∧ LogBound w.log := by
  unfold execBankWrite; exact ⟨_, rfl, by simp (maxDischargeDepth := 60) +contextual [hlog]⟩
theorem execInjectionStart_logBound (acc : Accessor) (data : List Byte) (s : State) (hlog : LogBound s.log) :
  ∃ w, execInjectionStart acc data s = .next (settle w) ∧ LogBound w.log := by
  unfold execInjectionStart; exact ⟨_, rfl, by simp (maxDischargeDepth := 60) +contextual [hlog]⟩
theorem execInjectionStop_logBound (acc : Accessor) (data : List Byte) (s : State) (hlog : LogBound s.log) :
  ∃ w, execInjectionStop acc data s = .next (settle w) ∧ LogBound w.log := by
  unfold execInjectionStop; exact ⟨_, rfl, by simp (maxDischargeDepth := 60) +contextual [hlog]⟩
theorem execCaptureArm_logBound (acc : Accessor) (data : List Byte) (s : State) (hlog : LogBound s.log) :
  ∃ w, execCaptureArm acc data s = .next (settle w) ∧ LogBound w.log := by
  unfold execCaptureArm; exact ⟨_, rfl, by simp (maxDischargeDepth := 60) +contextual [hlog]⟩
theorem execCaptureTriggerWrite_logBound (acc : Accessor) (data : List Byte) (s : State) (hlog : LogBound s.log) :
  ∃ w, execCaptureTriggerWrite acc data s = .next (settle w) ∧ LogBound w.log := by
  unfold execCaptureTriggerWrite; exact ⟨_, rfl, by simp (maxDischargeDepth := 60) +contextual [hlog]⟩
theorem execPinLock_logBound (acc : Accessor) (p : Fin 96) (data : List Byte) (s : State) (hlog : LogBound s.log) :
  ∃ w, execPinLock acc p data s = .next (settle w) ∧ LogBound w.log := by
  unfold execPinLock; exact ⟨_, rfl, by simp (maxDischargeDepth := 60) +contextual [hlog]⟩
theorem execLockAll_logBound (acc : Accessor) (data : List Byte) (s : State) (hlog : LogBound s.log) :
  ∃ w, execLockAll acc data s = .next (settle w) ∧ LogBound w.log := by
  unfold execLockAll; exact ⟨_, rfl, by simp (maxDischargeDepth := 60) +contextual [hlog]⟩
theorem execLogRead_logBound (acc : Accessor) (s : State) (hlog : LogBound s.log) : ∃ w, execLogRead acc s = .next (settle w) ∧ LogBound w.log := by
  unfold execLogRead; exact ⟨_, rfl, by simp (maxDischargeDepth := 60) +contextual [hlog]⟩
theorem execNoticeRead_logBound (acc : Accessor) (s : State) (hlog : LogBound s.log) :
  ∃ w, execNoticeRead acc s = .next (settle w) ∧ LogBound w.log := by
  unfold execNoticeRead; exact ⟨_, rfl, by simp (maxDischargeDepth := 60) +contextual [hlog]⟩

/-! ## Scheduler -/

@[simp] theorem commitSheet_logBound (s : State) (uid : Nat) (hlog : LogBound s.log) : LogBound (commitSheet s uid).log := by
  unfold commitSheet; split <;> simp (maxDischargeDepth := 60) +contextual [hlog]
@[simp] theorem beginImage_logBound (s : State) (st uid tooth : Nat) (hlog : LogBound s.log) : LogBound (beginImage s st uid tooth).log := hlog
@[simp] theorem fireImage_logBound (s : State) (k : Nat) (e : Event) (uid : Nat) (d : Due) (hlog : LogBound s.log) :
  LogBound (fireImage s k e uid d).log := by
  unfold fireImage; simp only; (repeat' split) <;> simp (maxDischargeDepth := 60) +contextual [hlog]
@[simp] theorem lateImage_logBound (s : State) (k : Nat) (e : Event) (sh : Sheet) (hlog : LogBound s.log) : LogBound (lateImage s k e sh).log := by
  unfold lateImage; simp (maxDischargeDepth := 60) +contextual [hlog]
theorem execImage_logBound (slot : Fin 640) (late : Bool) (s : State) (hlog : LogBound s.log) :
  ∃ w, execImage slot late s = .next (settle w) ∧ LogBound w.log := by
  unfold execImage; (repeat' split) <;> exact ⟨_, rfl, by simp (maxDischargeDepth := 60) +contextual [hlog]⟩
theorem execAxisMove_logBound (slot : Fin 1024) (s : State) (hlog : LogBound s.log) :
  ∃ w, execAxisMove slot s = .next (settle w) ∧ LogBound w.log := by
  unfold execAxisMove; exact ⟨_, rfl, by simp (maxDischargeDepth := 60) +contextual [hlog]⟩
theorem execAxisRampedStop_logBound (slot : Fin 1024) (s : State) (hlog : LogBound s.log) :
  ∃ w, execAxisRampedStop slot s = .next (settle w) ∧ LogBound w.log := by
  unfold execAxisRampedStop; exact ⟨_, rfl, by simp (maxDischargeDepth := 60) +contextual [hlog]⟩
theorem execMotorSpeed_logBound (slot : Fin 1024) (s : State) (hlog : LogBound s.log) :
  ∃ w, execMotorSpeed slot s = .next (settle w) ∧ LogBound w.log := by
  unfold execMotorSpeed; exact ⟨_, rfl, by simp (maxDischargeDepth := 60) +contextual [hlog]⟩
theorem execPinSet_logBound (slot : Fin 1024) (s : State) (hlog : LogBound s.log) : ∃ w, execPinSet slot s = .next (settle w) ∧ LogBound w.log := by
  unfold execPinSet; exact ⟨_, rfl, by simp (maxDischargeDepth := 60) +contextual [hlog]⟩
theorem execArrivalCheck_logBound (slot : Fin 1024) (levels : List (Nat × Bool)) (s : State) (hlog : LogBound s.log) :
  ∃ w, execArrivalCheck slot levels s = .next (settle w) ∧ LogBound w.log := by
  unfold execArrivalCheck; exact ⟨_, rfl, by simp (maxDischargeDepth := 60) +contextual [hlog]⟩
theorem execLoopSetPointBank_logBound (slot : Fin 1024) (s : State) (hlog : LogBound s.log) :
  ∃ w, execLoopSetPointBank slot s = .next (settle w) ∧ LogBound w.log := by
  unfold execLoopSetPointBank; exact ⟨_, rfl, by simp (maxDischargeDepth := 60) +contextual [hlog]⟩
theorem execLoopOn_logBound (slot : Fin 1024) (s : State) (hlog : LogBound s.log) : ∃ w, execLoopOn slot s = .next (settle w) ∧ LogBound w.log := by
  unfold execLoopOn; exact ⟨_, rfl, by simp (maxDischargeDepth := 60) +contextual [hlog]⟩
theorem execLoopOff_logBound (slot : Fin 1024) (s : State) (hlog : LogBound s.log) : ∃ w, execLoopOff slot s = .next (settle w) ∧ LogBound w.log := by
  unfold execLoopOff; exact ⟨_, rfl, by simp (maxDischargeDepth := 60) +contextual [hlog]⟩
theorem execSheetExit_logBound (slot : Fin 1024) (s : State) (hlog : LogBound s.log) :
  ∃ w, execSheetExit slot s = .next (settle w) ∧ LogBound w.log := by
  unfold execSheetExit; exact ⟨_, rfl, by simp (maxDischargeDepth := 60) +contextual [hlog]⟩
theorem execLogMark_logBound (slot : Fin 1024) (s : State) (hlog : LogBound s.log) : ∃ w, execLogMark slot s = .next (settle w) ∧ LogBound w.log := by
  unfold execLogMark; exact ⟨_, rfl, by simp (maxDischargeDepth := 60) +contextual [hlog]⟩
theorem execCaptureTrigger_logBound (slot : Fin 1024) (s : State) (hlog : LogBound s.log) :
  ∃ w, execCaptureTrigger slot s = .next (settle w) ∧ LogBound w.log := by
  unfold execCaptureTrigger; exact ⟨_, rfl, by simp (maxDischargeDepth := 60) +contextual [hlog]⟩
@[simp] theorem takeEdge_logBound (s : State) (k t : Nat) (hlog : LogBound s.log) : LogBound (takeEdge s k t).log := by
  unfold takeEdge; split <;> simp (maxDischargeDepth := 60) +contextual [hlog]
@[simp] theorem releaseHold_logBound (s : State) (hlog : LogBound s.log) : LogBound (releaseHold s).log := by
  unfold releaseHold; simp (maxDischargeDepth := 60) +contextual [hlog]
@[simp] theorem afterBdWindow_logBound (s : State) (n : Nat) (hlog : LogBound s.log) : LogBound (afterBdWindow s n).log := by
  unfold afterBdWindow; simp (maxDischargeDepth := 60) +contextual [hlog]
@[simp] theorem closeTracker_logBound (s : State) (k : Nat) (hlog : LogBound s.log) : LogBound (closeTracker s k).log := by
  unfold closeTracker; simp (maxDischargeDepth := 60) +contextual [hlog]
@[simp] theorem closeBefore_logBound (k t a : Nat) (a1 : State) (hlog : LogBound a1.log) : LogBound (closeBefore k t a a1).log := by
  fun_induction closeBefore k t a a1 <;> simp (maxDischargeDepth := 60) +contextual [*]
@[simp] theorem edgeOf_logBound (s : State) (k t : Nat) (hlog : LogBound s.log) : LogBound (edgeOf s k t).log := by
  unfold edgeOf; simp (maxDischargeDepth := 60) +contextual [hlog]
theorem execEncoderEdge_logBound (tt : Fin 12) (e : ToothEdge) (s : State) (hlog : LogBound s.log) :
  ∃ w, execEncoderEdge tt e s = .next (settle w) ∧ LogBound w.log := by
  unfold execEncoderEdge; simp only; (repeat' split) <;> exact ⟨_, rfl, by simp (maxDischargeDepth := 60) +contextual [hlog]⟩
theorem execEncoderWindowClose_logBound (tt : Fin 12) (s : State) (hlog : LogBound s.log) :
  ∃ w, execEncoderWindowClose tt s = .next (settle w) ∧ LogBound w.log := by
  unfold execEncoderWindowClose; simp only; (repeat' split) <;> exact ⟨_, rfl, by simp (maxDischargeDepth := 60) +contextual [hlog]⟩

/-! ## Dram -/

@[simp] theorem dramDouble_logBound (s : State) (r : DramReader) (addr : Nat) (hlog : LogBound s.log) : LogBound (dramDouble s r addr).log := by
  unfold dramDouble; simp only; (repeat' split) <;> simp (maxDischargeDepth := 60) +contextual [hlog]
@[simp] theorem beatCorrected_logBound (s : State) (r : DramReader) (addr : Nat) (hlog : LogBound s.log) :
  LogBound (beatCorrected s r addr).log := by unfold beatCorrected; split <;> simp (maxDischargeDepth := 60) +contextual [hlog]
@[simp] theorem beatUsed_logBound (s : State) (r : DramReader) (addr : Nat) (e : Ecc) (hlog : LogBound s.log) :
  LogBound (beatUsed s r addr e).log := by unfold beatUsed; simp (maxDischargeDepth := 60) +contextual [hlog]
@[simp] theorem dramRead_logBound (s : State) (r : DramReader) (b : BeatRead) (hlog : LogBound s.log) : LogBound (dramRead s r b).1.log := by
  unfold dramRead; simp (maxDischargeDepth := 60) +contextual [hlog]
@[simp] theorem dramReads_logBound (r : DramReader) (a : List BeatRead) (a1 : State) (hlog : LogBound a1.log) :
  LogBound (dramReads r a a1).1.log := by
  fun_induction dramReads r a a1 <;> simp +zetaDelta [*]
@[simp] theorem inputWord_logBound (s : State) (st : Fin 6) (w : InputWord) (hlog : LogBound s.log) : LogBound (inputWord s st w).1.log := by
  unfold inputWord; split <;> simp (maxDischargeDepth := 60) +contextual [hlog]
@[simp] theorem inputWords_logBound (st : Fin 6) (a : List InputWord) (a1 : State) (hlog : LogBound a1.log) :
  LogBound (inputWords st a a1).1.log := by
  fun_induction inputWords st a a1 <;> simp +zetaDelta [*]
@[simp] theorem fifoWord_logBound (s : State) (n : Nat) (w : FifoWord) (hlog : LogBound s.log) : LogBound (fifoWord s n w).1.log := by
  unfold fifoWord; split <;> simp (maxDischargeDepth := 60) +contextual [hlog]
@[simp] theorem readWords_logBound (n : Nat) (a : List FifoWord) (a1 : State) (hlog : LogBound a1.log) : LogBound (readWords n a a1).1.log := by
  fun_induction readWords n a a1 <;> simp +zetaDelta [*]

/-! ## Raster -/

theorem execDecoderPlaneStart_logBound (st : Fin 6) (s : State) (hlog : LogBound s.log) :
  ∃ w, execDecoderPlaneStart st s = .next (settle w) ∧ LogBound w.log := by
  unfold execDecoderPlaneStart; (repeat' split) <;> exact ⟨_, rfl, by simp (maxDischargeDepth := 60) +contextual [hlog]⟩
@[simp] theorem bandLinesIn_logBound (s : State) (n uid : Nat) (b : Band) (hlog : LogBound s.log) : LogBound (bandLinesIn s n uid b).log := hlog
@[simp] theorem decodeNext_logBound (s : State) (n : Nat) (sh : Sheet) (hlog : LogBound s.log) : LogBound (decodeNext s n sh).log := by
  unfold decodeNext; simp (maxDischargeDepth := 60) +contextual [hlog]
@[simp] theorem decodeCut_logBound (s : State) (st : Fin 6) (sh : Sheet) (w : InputWord) (hlog : LogBound s.log) :
  LogBound (decodeCut s st sh w).log := by unfold decodeCut; simp (maxDischargeDepth := 60) +contextual [hlog]
@[simp] theorem readBand_logBound (s : State) (st : Fin 6) (sh : Sheet) (reads : List BeatRead) (words : List InputWord) (hlog : LogBound s.log) :
  LogBound (readBand s st sh reads words).log := by
  unfold readBand; simp only; (repeat' split) <;> simp (maxDischargeDepth := 60) +contextual [hlog]
theorem execBandDecode_logBound (st : Fin 6) (unit : Nat) (reads : List BeatRead) (words : List InputWord) (s : State) (hlog : LogBound s.log) :
  ∃ w, execBandDecode st unit reads words s = .next (settle w) ∧ LogBound w.log := by
  unfold execBandDecode; simp only; (repeat' split) <;> exact ⟨_, rfl, by simp (maxDischargeDepth := 60) +contextual [hlog]⟩
@[simp] theorem pointerServe_logBound (s : State) (n : Nat) (hlog : LogBound s.log) : LogBound (pointerServe s n).log := by
  unfold pointerServe; simp (maxDischargeDepth := 60) +contextual [hlog]
@[simp] theorem pointerFault_logBound (s : State) (n : Nat) (hlog : LogBound s.log) : LogBound (pointerFault s n).log := by
  unfold pointerFault; simp only; (repeat' split) <;> simp (maxDischargeDepth := 60) +contextual [hlog]
theorem execPointerMismatch_logBound (copy : PointerCopy) (s : State) (hlog : LogBound s.log) :
  ∃ w, execPointerMismatch copy s = .next (settle w) ∧ LogBound w.log := by
  unfold execPointerMismatch; simp only; (repeat' split) <;> exact ⟨_, rfl, by simp (maxDischargeDepth := 60) +contextual [hlog]⟩
@[simp] theorem beginScan_logBound (s : State) (n uid : Nat) (g : ScanForm) (hlog : LogBound s.log) : LogBound (beginScan s n uid g).log := by
  unfold beginScan; simp (maxDischargeDepth := 60) +contextual [hlog]
@[simp] theorem startScan_logBound (s : State) (n : Nat) (sh : Sheet) (d held : Nat) (words : List FifoWord) (hlog : LogBound s.log) :
  LogBound (startScan s n sh d held words).log := by unfold startScan; simp (maxDischargeDepth := 60) +contextual [hlog]
@[simp] theorem atScanBoundary_logBound (s : State) (n uid : Nat) (hlog : LogBound s.log) : LogBound (atScanBoundary s n uid).log := by
  unfold atScanBoundary; split <;> simp (maxDischargeDepth := 60) +contextual [hlog]
theorem execScanStart_logBound (st : Fin 6) (lastLineBytes inputHeld : Nat) (words : List FifoWord) (s : State) (hlog : LogBound s.log) :
  ∃ w, execScanStart st lastLineBytes inputHeld words s = .next (settle w) ∧ LogBound w.log := by
  unfold execScanStart; simp only; (repeat' split) <;> exact ⟨_, rfl, by simp (maxDischargeDepth := 60) +contextual [hlog]⟩
theorem execScanUnderrun_logBound (st : Fin 6) (pixel : Nat) (s : State) (hlog : LogBound s.log) :
  ∃ w, execScanUnderrun st pixel s = .next (settle w) ∧ LogBound w.log := by
  unfold execScanUnderrun; simp only; (repeat' split) <;> exact ⟨_, rfl, by simp (maxDischargeDepth := 60) +contextual [hlog]⟩
@[simp] theorem sendScan_logBound (s : State) (n : Nat) (c : Scan) (hlog : LogBound s.log) : LogBound (sendScan s n c).log := by
  unfold sendScan; simp (maxDischargeDepth := 60) +contextual [hlog]
theorem execScanEnd_logBound (st : Fin 6) (s : State) (hlog : LogBound s.log) : ∃ w, execScanEnd st s = .next (settle w) ∧ LogBound w.log := by
  unfold execScanEnd; simp only; (repeat' split) <;> exact ⟨_, rfl, by simp (maxDischargeDepth := 60) +contextual [hlog]⟩

/-! ## Scan -/

theorem execBdEdge_logBound (st : Fin 6) (e : ToothEdge) (s : State) (hlog : LogBound s.log) :
  ∃ w, execBdEdge st e s = .next (settle w) ∧ LogBound w.log := by
  unfold execBdEdge; (repeat' split) <;> exact ⟨_, rfl, by simp (maxDischargeDepth := 60) +contextual [hlog]⟩
theorem execBdWindowClose_logBound (st : Fin 6) (s : State) (hlog : LogBound s.log) :
  ∃ w, execBdWindowClose st s = .next (settle w) ∧ LogBound w.log := by
  unfold execBdWindowClose; (repeat' split) <;> exact ⟨_, rfl, by simp (maxDischargeDepth := 60) +contextual [hlog]⟩
@[simp] theorem armRegistration_logBound (s : State) (n : Nat) (hlog : LogBound s.log) : LogBound (armRegistration s n).log := by
  unfold armRegistration; simp (maxDischargeDepth := 60) +contextual [hlog]
theorem execPatchMeasurement_logBound (st : Fin 6) (marks : List Chevron) (s : State) (hlog : LogBound s.log) :
  ∃ w, execPatchMeasurement st marks s = .next (settle w) ∧ LogBound w.log := by
  unfold execPatchMeasurement; simp only; (repeat' split) <;> exact ⟨_, rfl, by simp (maxDischargeDepth := 60) +contextual [hlog]⟩

/-! ## ModeCommands -/

theorem execWarmupComplete_logBound (s : State) (hlog : LogBound s.log) : ∃ w, execWarmupComplete s = .next (settle w) ∧ LogBound w.log := by
  unfold execWarmupComplete; (repeat' split) <;> exact ⟨_, rfl, by simp (maxDischargeDepth := 60) +contextual [hlog]⟩
theorem execWarmupLimitExpiry_logBound (s : State) (hlog : LogBound s.log) : ∃ w, execWarmupLimitExpiry s = .next (settle w) ∧ LogBound w.log := by
  unfold execWarmupLimitExpiry; (repeat' split) <;> exact ⟨_, rfl, by simp (maxDischargeDepth := 60) +contextual [hlog]⟩
theorem execStandbyIdleExpiry_logBound (s : State) (hlog : LogBound s.log) : ∃ w, execStandbyIdleExpiry s = .next (settle w) ∧ LogBound w.log := by
  unfold execStandbyIdleExpiry; (repeat' split) <;> exact ⟨_, rfl, by simp (maxDischargeDepth := 60) +contextual [hlog]⟩
theorem execReadyIdleExpiry_logBound (s : State) (hlog : LogBound s.log) : ∃ w, execReadyIdleExpiry s = .next (settle w) ∧ LogBound w.log := by
  unfold execReadyIdleExpiry; (repeat' split) <;> exact ⟨_, rfl, by simp (maxDischargeDepth := 60) +contextual [hlog]⟩
@[simp] theorem endAlign_logBound (s : State) (a : Nat) (hlog : LogBound s.log) : LogBound (endAlign s a).log := by
  unfold endAlign; simp (maxDischargeDepth := 60) +contextual [hlog]
theorem execDozeEnter_logBound (s : State) (hlog : LogBound s.log) : ∃ w, execDozeEnter s = .next (settle w) ∧ LogBound w.log := by
  unfold execDozeEnter; (repeat' split) <;> exact ⟨_, rfl, by simp (maxDischargeDepth := 60) +contextual [hlog]⟩
@[simp] theorem wakeAxes_logBound (s : State) (index : Nat) (hlog : LogBound s.log) : LogBound (wakeAxes s index).log := by
  unfold wakeAxes; simp (maxDischargeDepth := 60) +contextual [hlog]
theorem execDozeWakeComplete_logBound (index : Nat) (s : State) (hlog : LogBound s.log) :
  ∃ w, execDozeWakeComplete index s = .next (settle w) ∧ LogBound w.log := by
  unfold execDozeWakeComplete; (repeat' split) <;> exact ⟨_, rfl, by simp (maxDischargeDepth := 60) +contextual [hlog]⟩
theorem execModeRouteStep_logBound (s : State) (hlog : LogBound s.log) : ∃ w, execModeRouteStep s = .next (settle w) ∧ LogBound w.log := by
  unfold execModeRouteStep; (repeat' split) <;> exact ⟨_, rfl, by simp (maxDischargeDepth := 60) +contextual [hlog]⟩
theorem execSafestopEntryComplete_logBound (s : State) (hlog : LogBound s.log) :
  ∃ w, execSafestopEntryComplete s = .next (settle w) ∧ LogBound w.log := by
  unfold execSafestopEntryComplete; (repeat' split) <;> exact ⟨_, rfl, by simp (maxDischargeDepth := 60) +contextual [hlog]⟩
theorem execCalibrationComplete_logBound (s : State) (hlog : LogBound s.log) :
  ∃ w, execCalibrationComplete s = .next (settle w) ∧ LogBound w.log := by
  unfold execCalibrationComplete; (repeat' split) <;> exact ⟨_, rfl, by simp (maxDischargeDepth := 60) +contextual [hlog]⟩

/-! ## Memory -/

@[simp] theorem mr4Act_logBound (s : State) (old code : Nat) (hlog : LogBound s.log) : LogBound (mr4Act s old code).log := by
  unfold mr4Act; simp (maxDischargeDepth := 60) +contextual [hlog]
theorem execMr4Read_logBound (a b : Fin 8) (s : State) (hlog : LogBound s.log) : ∃ w, execMr4Read a b s = .next (settle w) ∧ LogBound w.log := by
  unfold execMr4Read; (repeat' split) <;> exact ⟨_, rfl, by simp (maxDischargeDepth := 60) +contextual [hlog]⟩
theorem execDramUncorrectableRead_logBound (reader : DramReader) (addr : Nat) (errors : BeatErrors × BeatErrors) (s : State) (hlog :
  LogBound s.log) : ∃ w, execDramUncorrectableRead reader addr errors s = .next (settle w) ∧ LogBound w.log := by
  unfold execDramUncorrectableRead; (repeat' split) <;> exact ⟨_, rfl, by simp (maxDischargeDepth := 60) +contextual [hlog]⟩
@[simp] theorem patrolRun_logBound (s : State) (poolLeft : Nat) (reads : List BeatRead) (hlog : LogBound s.log) :
  LogBound (patrolRun s poolLeft reads).log := by unfold patrolRun; simp (maxDischargeDepth := 60) +contextual [hlog]
theorem execPatrolOverdue_logBound (s : State) (hlog : LogBound s.log) : ∃ w, execPatrolOverdue s = .next (settle w) ∧ LogBound w.log := by
  unfold execPatrolOverdue; (repeat' split) <;> exact ⟨_, rfl, by simp (maxDischargeDepth := 60) +contextual [hlog]⟩
@[simp] theorem endPeriod_logBound (s : State) (demand asks : List Nat) (reads : List BeatRead) (hlog : LogBound s.log) :
  LogBound (endPeriod s demand asks reads).log := by unfold endPeriod; simp (maxDischargeDepth := 60) +contextual [hlog]
theorem execDikePeriod_logBound (work : DikeWork) (s : State) (hlog : LogBound s.log) :
  ∃ w, execDikePeriod work s = .next (settle w) ∧ LogBound w.log := by
  unfold execDikePeriod; (repeat' split) <;> exact ⟨_, rfl, by simp (maxDischargeDepth := 60) +contextual [hlog]⟩
@[simp] theorem admissionFail_logBound (s : State) (reason : Nat) (hlog : LogBound s.log) : LogBound (admissionFail s reason).log := hlog
@[simp] theorem gapPatch_logBound (s : State) (a : Sheet) (hlog : LogBound s.log) : LogBound (gapPatch s a).log := by
  unfold gapPatch; split <;> simp (maxDischargeDepth := 60) +contextual [hlog]
@[simp] theorem admitSheet_logBound (s : State) (sh : Sheet) (p : Plan) (hlog : LogBound s.log) : LogBound (admitSheet s sh p).log := by
  unfold admitSheet; simp (maxDischargeDepth := 60) +contextual [hlog]
@[simp] theorem admissionTest_logBound (s : State) (sh : Sheet) (hlog : LogBound s.log) : LogBound (admissionTest s sh).log := by
  unfold admissionTest; simp (maxDischargeDepth := 60) +contextual [hlog]
theorem execAdmissionPass_logBound (s : State) (hlog : LogBound s.log) : ∃ w, execAdmissionPass s = .next (settle w) ∧ LogBound w.log := by
  unfold execAdmissionPass; simp only; (repeat' split) <;> exact ⟨_, rfl, by simp (maxDischargeDepth := 60) +contextual [hlog]⟩

/-! ## Clocks -/

@[simp] theorem relockLink_logBound (s : State) (n : Nat) (hlog : LogBound s.log) : LogBound (relockLink s n).log := by
  unfold relockLink; split <;> simp (maxDischargeDepth := 60) +contextual [hlog]
@[simp] theorem endRelock_logBound (s : State) (hlog : LogBound s.log) : LogBound (endRelock s).log := by
  unfold endRelock; split <;> simp (maxDischargeDepth := 60) +contextual [hlog]
@[simp] theorem relockDone_logBound (s : State) (hlog : LogBound s.log) : LogBound (relockDone s).log := by
  unfold relockDone; simp (maxDischargeDepth := 60) +contextual [hlog]
@[simp] theorem relockFailed_logBound (s : State) (hlog : LogBound s.log) : LogBound (relockFailed s).log := by
  unfold relockFailed; simp (maxDischargeDepth := 60) +contextual [hlog]
@[simp] theorem relockKickoff_logBound (s : State) (hlog : LogBound s.log) : LogBound (relockKickoff s).log := by
  unfold relockKickoff; simp (maxDischargeDepth := 60) +contextual [hlog]
@[simp] theorem relockAgain_logBound (s : State) (r : Relock) (n : Nat) (hlog : LogBound s.log) : LogBound (relockAgain s r n).log := hlog
@[simp] theorem attemptFails_logBound (s : State) (hlog : LogBound s.log) : LogBound (attemptFails s).log := by
  unfold attemptFails; split <;> simp (maxDischargeDepth := 60) +contextual [hlog]
theorem execRelockLockDetect_logBound (s : State) (hlog : LogBound s.log) : ∃ w, execRelockLockDetect s = .next (settle w) ∧ LogBound w.log := by
  unfold execRelockLockDetect; (repeat' split) <;> exact ⟨_, rfl, by simp (maxDischargeDepth := 60) +contextual [hlog]⟩
theorem execRelockLockTimeout_logBound (s : State) (hlog : LogBound s.log) : ∃ w, execRelockLockTimeout s = .next (settle w) ∧ LogBound w.log := by
  unfold execRelockLockTimeout; (repeat' split) <;> exact ⟨_, rfl, by simp (maxDischargeDepth := 60) +contextual [hlog]⟩
theorem execRelockSettleEnd_logBound (held : Bool) (s : State) (hlog : LogBound s.log) :
  ∃ w, execRelockSettleEnd held s = .next (settle w) ∧ LogBound w.log := by
  unfold execRelockSettleEnd; (repeat' split) <;> exact ⟨_, rfl, by simp (maxDischargeDepth := 60) +contextual [hlog]⟩
@[simp] theorem openGate_logBound (s : State) (hlog : LogBound s.log) : LogBound (openGate s).log := by
  unfold openGate; simp (maxDischargeDepth := 60) +contextual [hlog]
theorem execFrequencyCheckEnd_logBound (count : Nat) (s : State) (hlog : LogBound s.log) :
  ∃ w, execFrequencyCheckEnd count s = .next (settle w) ∧ LogBound w.log := by
  unfold execFrequencyCheckEnd; (repeat' split) <;> exact ⟨_, rfl, by simp (maxDischargeDepth := 60) +contextual [hlog]⟩
theorem execStationDllLocked_logBound (st : Fin 6) (s : State) (hlog : LogBound s.log) :
  ∃ w, execStationDllLocked st s = .next (settle w) ∧ LogBound w.log := by
  unfold execStationDllLocked; (repeat' split) <;> exact ⟨_, rfl, by simp (maxDischargeDepth := 60) +contextual [hlog]⟩
@[simp] theorem dllDouble_logBound (s : State) (n : Nat) (hlog : LogBound s.log) : LogBound (dllDouble s n).log := by
  unfold dllDouble; simp (maxDischargeDepth := 60) +contextual [hlog]
theorem execDllLockLoss_logBound (st : Fin 6) (s : State) (hlog : LogBound s.log) :
  ∃ w, execDllLockLoss st s = .next (settle w) ∧ LogBound w.log := by
  unfold execDllLockLoss; simp only; (repeat' split) <;> exact ⟨_, rfl, by simp (maxDischargeDepth := 60) +contextual [hlog]⟩
theorem execDllRelockTimeout_logBound (st : Fin 6) (s : State) (hlog : LogBound s.log) :
  ∃ w, execDllRelockTimeout st s = .next (settle w) ∧ LogBound w.log := by
  unfold execDllRelockTimeout; (repeat' split) <;> exact ⟨_, rfl, by simp (maxDischargeDepth := 60) +contextual [hlog]⟩
@[simp] theorem timebaseFault_logBound (s : State) (sub : Nat) (hlog : LogBound s.log) : LogBound (timebaseFault s sub).log := by
  unfold timebaseFault; simp (maxDischargeDepth := 60) +contextual [hlog]
theorem execCeilingTrip_logBound (s : State) (hlog : LogBound s.log) : ∃ w, execCeilingTrip s = .next (settle w) ∧ LogBound w.log := by
  unfold execCeilingTrip; (repeat' split) <;> exact ⟨_, rfl, by simp (maxDischargeDepth := 60) +contextual [hlog]⟩
theorem execTimebaseLockLoss_logBound (s : State) (hlog : LogBound s.log) : ∃ w, execTimebaseLockLoss s = .next (settle w) ∧ LogBound w.log := by
  unfold execTimebaseLockLoss; (repeat' split) <;> exact ⟨_, rfl, by simp (maxDischargeDepth := 60) +contextual [hlog]⟩
theorem execReferenceLoss_logBound (s : State) (hlog : LogBound s.log) : ∃ w, execReferenceLoss s = .next (settle w) ∧ LogBound w.log := by
  unfold execReferenceLoss; (repeat' split) <;> exact ⟨_, rfl, by simp (maxDischargeDepth := 60) +contextual [hlog]⟩
theorem execReferenceLossReset_logBound (s : State) (hlog : LogBound s.log) : ∃ w, execReferenceLossReset s = .next (settle w) ∧ LogBound w.log := by
  unfold execReferenceLossReset; (repeat' split) <;> exact ⟨_, rfl, by simp (maxDischargeDepth := 60) +contextual [hlog]⟩

/-! ## Link -/

@[simp] theorem hardFault_logBound (s : State) (n status : Nat) (hlog : LogBound s.log) : LogBound (hardFault s n status).log := by
  unfold hardFault; simp (maxDischargeDepth := 60) +contextual [hlog]
theorem execBringUpStepTimeout_logBound (st : Fin 6) (s : State) (hlog : LogBound s.log) :
  ∃ w, execBringUpStepTimeout st s = .next (settle w) ∧ LogBound w.log := by
  unfold execBringUpStepTimeout; (repeat' split) <;> exact ⟨_, rfl, by simp (maxDischargeDepth := 60) +contextual [hlog]⟩
@[simp] theorem regsBack_logBound (s : State) (n : Nat) (regs : List Nat) (hlog : LogBound s.log) : LogBound (regsBack s n regs).log := by
  unfold regsBack; simp (maxDischargeDepth := 60) +contextual [hlog]
theorem execBringUpStepComplete_logBound (st : Fin 6) (regs : List Nat) (s : State) (hlog : LogBound s.log) :
  ∃ w, execBringUpStepComplete st regs s = .next (settle w) ∧ LogBound w.log := by
  unfold execBringUpStepComplete; (repeat' split) <;> exact ⟨_, rfl, by simp (maxDischargeDepth := 60) +contextual [hlog]⟩
@[simp] theorem softFlags_logBound (s : State) (n : Nat) (hlog : LogBound s.log) : LogBound (softFlags s n).log := by
  unfold softFlags; (repeat' split) <;> simp (maxDischargeDepth := 60) +contextual [hlog]
theorem execLdFltSoftError_logBound (st : Fin 6) (s : State) (hlog : LogBound s.log) :
  ∃ w, execLdFltSoftError st s = .next (settle w) ∧ LogBound w.log := by
  unfold execLdFltSoftError; simp only; (repeat' split) <;> exact ⟨_, rfl, by simp (maxDischargeDepth := 60) +contextual [hlog]⟩
theorem execLdFltHardFault_logBound (st : Fin 6) (status : Nat) (s : State) (hlog : LogBound s.log) :
  ∃ w, execLdFltHardFault st status s = .next (settle w) ∧ LogBound w.log := by
  unfold execLdFltHardFault; (repeat' split) <;> exact ⟨_, rfl, by simp (maxDischargeDepth := 60) +contextual [hlog]⟩
theorem execSerdesLockLoss_logBound (st : Fin 6) (status : Nat) (s : State) (hlog : LogBound s.log) :
  ∃ w, execSerdesLockLoss st status s = .next (settle w) ∧ LogBound w.log := by
  unfold execSerdesLockLoss; (repeat' split) <;> exact ⟨_, rfl, by simp (maxDischargeDepth := 60) +contextual [hlog]⟩
@[simp] theorem safetyEvent_logBound (s : State) (kind : Nat) (hlog : LogBound s.log) : LogBound (safetyEvent s kind).log := by
  unfold safetyEvent; simp (maxDischargeDepth := 60) +contextual [hlog]
@[simp] theorem interlockPath_logBound (s : State) (hlog : LogBound s.log) : LogBound (interlockPath s).log := by
  unfold interlockPath; simp (maxDischargeDepth := 60) +contextual [hlog]
theorem execIlockOpen_logBound (s : State) (hlog : LogBound s.log) : ∃ w, execIlockOpen s = .next (settle w) ∧ LogBound w.log := by
  unfold execIlockOpen; (repeat' split) <;> exact ⟨_, rfl, by simp (maxDischargeDepth := 60) +contextual [hlog]⟩
theorem execIlockClose_logBound (s : State) (hlog : LogBound s.log) : ∃ w, execIlockClose s = .next (settle w) ∧ LogBound w.log := by
  unfold execIlockClose; exact ⟨_, rfl, by simp (maxDischargeDepth := 60) +contextual [hlog]⟩
theorem execIlockClosedHoldEnd_logBound (s : State) (hlog : LogBound s.log) : ∃ w, execIlockClosedHoldEnd s = .next (settle w) ∧ LogBound w.log := by
  unfold execIlockClosedHoldEnd; (repeat' split) <;> exact ⟨_, rfl, by simp (maxDischargeDepth := 60) +contextual [hlog]⟩

/-! ## Umpire -/

@[simp] theorem umpireOutputs_logBound (s : State) (hlog : LogBound s.log) : LogBound (umpireOutputs s).log := by
  unfold umpireOutputs; simp (maxDischargeDepth := 60) +contextual [hlog]
@[simp] theorem superviseServe_logBound (s : State) (kind : Nat) (hlog : LogBound s.log) : LogBound (superviseServe s kind).log := hlog
@[simp] theorem supervisorEvent_logBound (s : State) (kind : Nat) (hlog : LogBound s.log) : LogBound (supervisorEvent s kind).log := by
  unfold supervisorEvent; simp (maxDischargeDepth := 60) +contextual [hlog]
theorem execLockstepMismatch_logBound (s : State) (hlog : LogBound s.log) : ∃ w, execLockstepMismatch s = .next (settle w) ∧ LogBound w.log := by
  unfold execLockstepMismatch; (repeat' split) <;> exact ⟨_, rfl, by simp (maxDischargeDepth := 60) +contextual [hlog]⟩
theorem execWatchdogExpiry_logBound (s : State) (hlog : LogBound s.log) : ∃ w, execWatchdogExpiry s = .next (settle w) ∧ LogBound w.log := by
  unfold execWatchdogExpiry; (repeat' split) <;> exact ⟨_, rfl, by simp (maxDischargeDepth := 60) +contextual [hlog]⟩
theorem execUmpireReset_logBound (s : State) (hlog : LogBound s.log) : ∃ w, execUmpireReset s = .next (settle w) ∧ LogBound w.log := by
  unfold execUmpireReset; (repeat' split) <;> exact ⟨_, rfl, by simp (maxDischargeDepth := 60) +contextual [hlog]⟩
theorem execSafeNMismatch_logBound (s : State) (hlog : LogBound s.log) : ∃ w, execSafeNMismatch s = .next (settle w) ∧ LogBound w.log := by
  unfold execSafeNMismatch; (repeat' split) <;> exact ⟨_, rfl, by simp (maxDischargeDepth := 60) +contextual [hlog]⟩
theorem execSafeNMismatchEnd_logBound (s : State) (hlog : LogBound s.log) : ∃ w, execSafeNMismatchEnd s = .next (settle w) ∧ LogBound w.log := by
  unfold execSafeNMismatchEnd; exact ⟨_, rfl, by simp (maxDischargeDepth := 60) +contextual [hlog]⟩
@[simp] theorem drainPending_bound (n : Nat) (l : Log) (h : LogBound l) : LogBound (drainPending n l) := by
  induction n generalizing l with
  | zero => exact h
  | succ n ih =>
    unfold drainPending
    (repeat' split)
    · exact h
    · rename_i e r hp q m hm
      have hb := mirrorPlace_logBound _ _ _ h hm
      refine ih _ ⟨hb.1, hb.2.1, ?_, hb.2.2.2⟩
      have := h.2.2.1
      rw [hp] at this
      exact Nat.le_of_succ_le this
    · exact h
theorem execMirrorErase_logBound (s : State) (hlog : LogBound s.log) : ∃ w, execMirrorErase s = .next (settle w) ∧ LogBound w.log := by
  unfold execMirrorErase; (repeat' split) <;> exact ⟨_, rfl, by simp (maxDischargeDepth := 60) +contextual [hlog]⟩
@[simp] theorem sensorCheck_logBound (l : List Int) (s : State) (k : Nat) (hlog : LogBound s.log) : LogBound (sensorCheck l s k).log := by
  unfold sensorCheck; simp (maxDischargeDepth := 60) +contextual [hlog]
@[simp] theorem countHeat_logBound (s : State) (hlog : LogBound s.log) : LogBound (countHeat s).log := hlog
@[simp] theorem storeTj_logBound (s : State) (l : List Int) (v : Int) (hlog : LogBound s.log) : LogBound (storeTj s l v).log := by
  unfold storeTj; simp (maxDischargeDepth := 60) +contextual [hlog]
@[simp] theorem slowAdmission_logBound (s : State) (v : Int) (hlog : LogBound s.log) : LogBound (slowAdmission s v).log := hlog
@[simp] theorem tjRespond_logBound (s : State) (old v : Int) (hlog : LogBound s.log) : LogBound (tjRespond s old v).log := by
  unfold tjRespond; simp (maxDischargeDepth := 60) +contextual [hlog]
theorem execTjSample_logBound (sensors : List Int) (s : State) (hlog : LogBound s.log) :
  ∃ w, execTjSample sensors s = .next (settle w) ∧ LogBound w.log := by
  unfold execTjSample; (repeat' split) <;> exact ⟨_, rfl, by simp (maxDischargeDepth := 60) +contextual [hlog]⟩
theorem execThermalShutdown_logBound (s : State) (hlog : LogBound s.log) : ∃ w, execThermalShutdown s = .next (settle w) ∧ LogBound w.log := by
  unfold execThermalShutdown; (repeat' split) <;> exact ⟨_, rfl, by simp (maxDischargeDepth := 60) +contextual [hlog]⟩

/-! ## Network -/

theorem execRead_logBound (src : FrameSrc) (tid idx sub : Nat) (s : State) (hlog : LogBound s.log) :
  ∃ w, execRead src tid idx sub s = .next (settle w) ∧ LogBound w.log := by
  unfold execRead; exact ⟨_, rfl, by simp (maxDischargeDepth := 60) +contextual [hlog]⟩
theorem execWriteExpedited_logBound (src : FrameSrc) (tid idx sub : Nat) (data : List Byte) (s : State) (hlog : LogBound s.log) :
  ∃ w, execWriteExpedited src tid idx sub data s = .next (settle w) ∧ LogBound w.log := by
  unfold execWriteExpedited; exact ⟨_, rfl, by simp (maxDischargeDepth := 60) +contextual [hlog]⟩
theorem execWriteSegmented_logBound (src : FrameSrc) (tid idx sub total : Nat) (s : State) (hlog : LogBound s.log) :
  ∃ w, execWriteSegmented src tid idx sub total s = .next (settle w) ∧ LogBound w.log := by
  unfold execWriteSegmented; exact ⟨_, rfl, by simp (maxDischargeDepth := 60) +contextual [hlog]⟩
theorem execSegment_logBound (src : FrameSrc) (tid : Nat) (last : Bool) (seq : Nat) (data : List Byte) (s : State) (hlog : LogBound s.log) :
  ∃ w, execSegment src tid last seq data s = .next (settle w) ∧ LogBound w.log := by
  unfold execSegment; exact ⟨_, rfl, by simp (maxDischargeDepth := 60) +contextual [hlog]⟩
theorem execSegmentAck_logBound (src : FrameSrc) (tid seq : Nat) (s : State) (hlog : LogBound s.log) :
  ∃ w, execSegmentAck src tid seq s = .next (settle w) ∧ LogBound w.log := by
  unfold execSegmentAck; exact ⟨_, rfl, by simp (maxDischargeDepth := 60) +contextual [hlog]⟩
theorem execAbort_logBound (src : FrameSrc) (tid code : Nat) (s : State) (hlog : LogBound s.log) :
  ∃ w, execAbort src tid code s = .next (settle w) ∧ LogBound w.log := by
  unfold execAbort; exact ⟨_, rfl, by simp (maxDischargeDepth := 60) +contextual [hlog]⟩
theorem execReadResponse_logBound (src : FrameSrc) (tid status : Nat) (data : List Byte) (s : State) (hlog : LogBound s.log) :
  ∃ w, execReadResponse src tid status data s = .next (settle w) ∧ LogBound w.log := by
  unfold execReadResponse; exact ⟨_, rfl, by simp (maxDischargeDepth := 60) +contextual [hlog]⟩
theorem execWriteResponse_logBound (src : FrameSrc) (tid status code : Nat) (s : State) (hlog : LogBound s.log) :
  ∃ w, execWriteResponse src tid status code s = .next (settle w) ∧ LogBound w.log := by
  unfold execWriteResponse; exact ⟨_, rfl, by simp (maxDischargeDepth := 60) +contextual [hlog]⟩
theorem execCyclicIn_logBound (src : FrameSrc) (map cycle : Nat) (data : List Byte) (s : State) (hlog : LogBound s.log) :
  ∃ w, execCyclicIn src map cycle data s = .next (settle w) ∧ LogBound w.log := by
  unfold execCyclicIn; exact ⟨_, rfl, by simp (maxDischargeDepth := 60) +contextual [hlog]⟩
theorem execRollcallAnswer_logBound (src : FrameSrc) (identity dictRev plcaId : Nat) (s : State) (hlog : LogBound s.log) :
  ∃ w, execRollcallAnswer src identity dictRev plcaId s = .next (settle w) ∧ LogBound w.log := by
  unfold execRollcallAnswer; exact ⟨_, rfl, by simp (maxDischargeDepth := 60) +contextual [hlog]⟩
theorem execRollcall_logBound (src : FrameSrc) (round base slots slotLen : Nat) (s : State) (hlog : LogBound s.log) :
  ∃ w, execRollcall src round base slots slotLen s = .next (settle w) ∧ LogBound w.log := by
  unfold execRollcall; exact ⟨_, rfl, by simp (maxDischargeDepth := 60) +contextual [hlog]⟩
theorem execSessionClose_logBound (src : FrameSrc) (slot : Nat) (s : State) (hlog : LogBound s.log) :
  ∃ w, execSessionClose src slot s = .next (settle w) ∧ LogBound w.log := by
  unfold execSessionClose; exact ⟨_, rfl, by simp (maxDischargeDepth := 60) +contextual [hlog]⟩
theorem execSessionHello_logBound (src : FrameSrc) (slot : Nat) (nonce : List Byte) (s : State) (hlog : LogBound s.log) :
  ∃ w, execSessionHello src slot nonce s = .next (settle w) ∧ LogBound w.log := by
  unfold execSessionHello; exact ⟨_, rfl, by simp (maxDischargeDepth := 60) +contextual [hlog]⟩
theorem execNonTdpFrame_logBound (p : Fin 4) (s : State) (hlog : LogBound s.log) : ∃ w, execNonTdpFrame p s = .next (settle w) ∧ LogBound w.log := by
  unfold execNonTdpFrame; (repeat' split) <;> exact ⟨_, rfl, by simp (maxDischargeDepth := 60) +contextual [hlog]⟩
theorem execInvalidTdpFrame_logBound (p : Fin 7) (badAuth : Bool) (s : State) (hlog : LogBound s.log) :
  ∃ w, execInvalidTdpFrame p badAuth s = .next (settle w) ∧ LogBound w.log := by
  unfold execInvalidTdpFrame; (repeat' split) <;> exact ⟨_, rfl, by simp (maxDischargeDepth := 60) +contextual [hlog]⟩
@[simp] theorem repeatFrame_logBound (s : State) (f : Transfer) (hlog : LogBound s.log) : LogBound (repeatFrame s f).log := by
  unfold repeatFrame; simp (maxDischargeDepth := 60) +contextual [hlog]
theorem execLowerRetryExpiry_logBound (n : Fin 2048) (tid : Nat) (s : State) (hlog : LogBound s.log) :
  ∃ w, execLowerRetryExpiry n tid s = .next (settle w) ∧ LogBound w.log := by
  unfold execLowerRetryExpiry; (repeat' split) <;> exact ⟨_, rfl, by simp (maxDischargeDepth := 60) +contextual [hlog]⟩
theorem execUpperTimeout_logBound (n : Fin 2048) (tid : Nat) (s : State) (hlog : LogBound s.log) :
  ∃ w, execUpperTimeout n tid s = .next (settle w) ∧ LogBound w.log := by
  unfold execUpperTimeout; (repeat' split) <;> exact ⟨_, rfl, by simp (maxDischargeDepth := 60) +contextual [hlog]⟩
theorem execPartnerIdleTimeout_logBound (n : Fin 2048) (s : State) (hlog : LogBound s.log) :
  ∃ w, execPartnerIdleTimeout n s = .next (settle w) ∧ LogBound w.log := by
  unfold execPartnerIdleTimeout; simp only; (repeat' split) <;> exact ⟨_, rfl, by simp (maxDischargeDepth := 60) +contextual [hlog]⟩
theorem execSessionTimeout_logBound (id : Nat) (s : State) (hlog : LogBound s.log) :
  ∃ w, execSessionTimeout id s = .next (settle w) ∧ LogBound w.log := by
  unfold execSessionTimeout; (repeat' split) <;> exact ⟨_, rfl, by simp (maxDischargeDepth := 60) +contextual [hlog]⟩
@[simp] theorem portDies_logBound (s : State) (p : Nat) (hlog : LogBound s.log) : LogBound (portDies s p).log := by
  unfold portDies; simp (maxDischargeDepth := 60) +contextual [hlog]
theorem execBusOff_logBound (p : Fin 4) (s : State) (hlog : LogBound s.log) : ∃ w, execBusOff p s = .next (settle w) ∧ LogBound w.log := by
  unfold execBusOff; simp only; (repeat' split) <;> exact ⟨_, rfl, by simp (maxDischargeDepth := 60) +contextual [hlog]⟩
theorem execBusOffRecoveryComplete_logBound (p : Fin 4) (s : State) (hlog : LogBound s.log) :
  ∃ w, execBusOffRecoveryComplete p s = .next (settle w) ∧ LogBound w.log := by
  unfold execBusOffRecoveryComplete; (repeat' split) <;> exact ⟨_, rfl, by simp (maxDischargeDepth := 60) +contextual [hlog]⟩
theorem execCanErrorFrame_logBound (p : Fin 4) (n : Fin 2048) (s : State) (hlog : LogBound s.log) :
  ∃ w, execCanErrorFrame p n s = .next (settle w) ∧ LogBound w.log := by
  unfold execCanErrorFrame; (repeat' split) <;> exact ⟨_, rfl, by simp (maxDischargeDepth := 60) +contextual [hlog]⟩
theorem execRollcallBlockEnd_logBound (p : Fin 7) (s : State) (hlog : LogBound s.log) :
  ∃ w, execRollcallBlockEnd p s = .next (settle w) ∧ LogBound w.log := by
  unfold execRollcallBlockEnd; (repeat' split) <;> exact ⟨_, rfl, by simp (maxDischargeDepth := 60) +contextual [hlog]⟩
@[simp] theorem absentNow_logBound (s : State) (n : Nat) (hlog : LogBound s.log) : LogBound (absentNow s n).log := by
  unfold absentNow; simp (maxDischargeDepth := 60) +contextual [hlog]
@[simp] theorem pollMissed_logBound (s : State) (n : Nat) (hlog : LogBound s.log) : LogBound (pollMissed s n).log := by
  unfold pollMissed; simp (maxDischargeDepth := 60) +contextual [hlog]
theorem execRollcallPollTimeout_logBound (p : Fin 7) (s : State) (hlog : LogBound s.log) :
  ∃ w, execRollcallPollTimeout p s = .next (settle w) ∧ LogBound w.log := by
  unfold execRollcallPollTimeout; (repeat' split) <;> exact ⟨_, rfl, by simp (maxDischargeDepth := 60) +contextual [hlog]⟩
@[simp] theorem sendSync_logBound (s : State) (p : Nat) (hlog : LogBound s.log) : LogBound (sendSync s p).log := by
  unfold sendSync; simp (maxDischargeDepth := 60) +contextual [hlog]
@[simp] theorem sendMap_logBound (s : State) (m : Nat) (hlog : LogBound s.log) : LogBound (sendMap s m).log := by
  unfold sendMap; simp (maxDischargeDepth := 60) +contextual [hlog]
@[simp] theorem countMiss_logBound (s : State) (m : Nat) (hlog : LogBound s.log) : LogBound (countMiss s m).log := by
  unfold countMiss; simp (maxDischargeDepth := 60) +contextual [hlog]
@[simp] theorem cyclicPhase_logBound (s : State) (hlog : LogBound s.log) : LogBound (cyclicPhase s).log := by
  unfold cyclicPhase; simp (maxDischargeDepth := 60) +contextual [hlog]
@[simp] theorem pollAbsent_logBound (s : State) (p : Nat) (hlog : LogBound s.log) : LogBound (pollAbsent s p).log := by
  unfold pollAbsent; (repeat' split) <;> simp (maxDischargeDepth := 60) +contextual [hlog]
@[simp] theorem acyclicPhase_logBound (s : State) (hlog : LogBound s.log) : LogBound (acyclicPhase s).log := by
  unfold acyclicPhase; simp (maxDischargeDepth := 60) +contextual [hlog]
theorem execNetworkCycleStart_logBound (skipped : Bool) (s : State) (hlog : LogBound s.log) :
  ∃ w, execNetworkCycleStart skipped s = .next (settle w) ∧ LogBound w.log := by
  unfold execNetworkCycleStart; (repeat' split) <;> exact ⟨_, rfl, by simp (maxDischargeDepth := 60) +contextual [hlog]⟩
theorem execArpRequest_logBound (senderIp senderMac targetIp : Nat) (s : State) (hlog : LogBound s.log) :
  ∃ w, execArpRequest senderIp senderMac targetIp s = .next (settle w) ∧ LogBound w.log := by
  unfold execArpRequest; (repeat' split) <;> exact ⟨_, rfl, by simp (maxDischargeDepth := 60) +contextual [hlog]⟩
theorem execIcmpEchoRequest_logBound (senderIp : Nat) (payload : List Byte) (s : State) (hlog : LogBound s.log) :
  ∃ w, execIcmpEchoRequest senderIp payload s = .next (settle w) ∧ LogBound w.log := by
  unfold execIcmpEchoRequest; (repeat' split) <;> exact ⟨_, rfl, by simp (maxDischargeDepth := 60) +contextual [hlog]⟩

/-! ## Rails -/

@[simp] theorem endOn_logBound (s : State) (passed : Bool) (hlog : LogBound s.log) : LogBound (endOn s passed).log := by
  unfold endOn; simp (maxDischargeDepth := 60) +contextual [hlog]
theorem execRailEnable_logBound (r : Fin 16) (s : State) (hlog : LogBound s.log) : ∃ w, execRailEnable r s = .next (settle w) ∧ LogBound w.log := by
  unfold execRailEnable; simp only; (repeat' split) <;> exact ⟨_, rfl, by simp (maxDischargeDepth := 60) +contextual [hlog]⟩
@[simp] theorem putReading_logBound (s : State) (r v : Nat) (hlog : LogBound s.log) : LogBound (putReading s r v).log := by
  unfold putReading; simp (maxDischargeDepth := 60) +contextual [hlog]
theorem execRailGood_logBound (r : Fin 16) (v : RailSamples) (s : State) (hlog : LogBound s.log) :
  ∃ w, execRailGood r v s = .next (settle w) ∧ LogBound w.log := by
  unfold execRailGood; simp only; (repeat' split) <;> exact ⟨_, rfl, by simp (maxDischargeDepth := 60) +contextual [hlog]⟩
@[simp] theorem recordFault_logBound (s : State) (r kind : Nat) (hlog : LogBound s.log) : LogBound (recordFault s r kind).log := by
  unfold recordFault; simp (maxDischargeDepth := 60) +contextual [hlog]
@[simp] theorem offOver_logBound (s : State) (hlog : LogBound s.log) : LogBound (offOver s).log := by
  unfold offOver; split <;> simp (maxDischargeDepth := 60) +contextual [hlog]
@[simp] theorem railGone_logBound (s : State) (r st : Nat) (hlog : LogBound s.log) : LogBound (railGone s r st).log := by
  unfold railGone; simp (maxDischargeDepth := 60) +contextual [hlog]
@[simp] theorem responseOff_logBound (s : State) (r : Nat) (hlog : LogBound s.log) : LogBound (responseOff s r).log := by
  unfold responseOff; simp (maxDischargeDepth := 60) +contextual [hlog]
@[simp] theorem logFault_logBound (s : State) (r : Nat) (hlog : LogBound s.log) : LogBound (logFault s r).log := by
  unfold logFault; simp (maxDischargeDepth := 60) +contextual [hlog]
@[simp] theorem breakOff_logBound (s : State) (hlog : LogBound s.log) : LogBound (breakOff s).log := by
  unfold breakOff; simp (maxDischargeDepth := 60) +contextual [hlog]
@[simp] theorem sequenceFault_logBound (s : State) (r : Nat) (hlog : LogBound s.log) : LogBound (sequenceFault s r).log := by
  unfold sequenceFault; (repeat' split) <;> simp (maxDischargeDepth := 60) +contextual [hlog]
@[simp] theorem railReset_logBound (s : State) (r : Nat) (hlog : LogBound s.log) : LogBound (railReset s r).log := by
  unfold railReset; simp (maxDischargeDepth := 60) +contextual [hlog]
@[simp] theorem operatingFault_logBound (s : State) (r : Nat) (hlog : LogBound s.log) : LogBound (operatingFault s r).log := by
  unfold operatingFault; simp (maxDischargeDepth := 60) +contextual [hlog]
@[simp] theorem railFault_logBound (s : State) (r kind : Nat) (hlog : LogBound s.log) : LogBound (railFault s r kind).log := by
  unfold railFault; (repeat' split) <;> simp (maxDischargeDepth := 60) +contextual [hlog]
theorem execRailFault_logBound (r : Fin 16) (v : RailSamples) (s : State) (hlog : LogBound s.log) :
  ∃ w, execRailFault r v s = .next (settle w) ∧ LogBound w.log := by
  unfold execRailFault; simp only; (repeat' split) <;> exact ⟨_, rfl, by simp (maxDischargeDepth := 60) +contextual [hlog]⟩
theorem execRampFault_logBound (r : Fin 16) (reading : Nat) (s : State) (hlog : LogBound s.log) :
  ∃ w, execRampFault r reading s = .next (settle w) ∧ LogBound w.log := by
  unfold execRampFault; (repeat' split) <;> exact ⟨_, rfl, by simp (maxDischargeDepth := 60) +contextual [hlog]⟩
theorem execRetryPauseEnd_logBound (s : State) (hlog : LogBound s.log) : ∃ w, execRetryPauseEnd s = .next (settle w) ∧ LogBound w.log := by
  unfold execRetryPauseEnd; (repeat' split) <;> exact ⟨_, rfl, by simp (maxDischargeDepth := 60) +contextual [hlog]⟩
theorem execRailWarning_logBound (r : Fin 16) (v : RailSamples) (s : State) (hlog : LogBound s.log) :
  ∃ w, execRailWarning r v s = .next (settle w) ∧ LogBound w.log := by
  unfold execRailWarning; simp only; (repeat' split) <;> exact ⟨_, rfl, by simp (maxDischargeDepth := 60) +contextual [hlog]⟩
theorem execRailDisable_logBound (r : Fin 16) (s : State) (hlog : LogBound s.log) : ∃ w, execRailDisable r s = .next (settle w) ∧ LogBound w.log := by
  unfold execRailDisable; simp only; (repeat' split) <;> exact ⟨_, rfl, by simp (maxDischargeDepth := 60) +contextual [hlog]⟩
theorem execRailResetOffStart_logBound (s : State) (hlog : LogBound s.log) : ∃ w, execRailResetOffStart s = .next (settle w) ∧ LogBound w.log := by
  unfold execRailResetOffStart; (repeat' split) <;> exact ⟨_, rfl, by simp (maxDischargeDepth := 60) +contextual [hlog]⟩
theorem execShutdownOffStart_logBound (s : State) (hlog : LogBound s.log) : ∃ w, execShutdownOffStart s = .next (settle w) ∧ LogBound w.log := by
  unfold execShutdownOffStart; (repeat' split) <;> exact ⟨_, rfl, by simp (maxDischargeDepth := 60) +contextual [hlog]⟩
@[simp] theorem wakeFromShutdown_logBound (s : State) (hlog : LogBound s.log) : LogBound (wakeFromShutdown s).log := by
  unfold wakeFromShutdown; simp (maxDischargeDepth := 60) +contextual [hlog]
theorem execShutdownSequenceEnd_logBound (s : State) (hlog : LogBound s.log) :
  ∃ w, execShutdownSequenceEnd s = .next (settle w) ∧ LogBound w.log := by
  unfold execShutdownSequenceEnd; (repeat' split) <;> exact ⟨_, rfl, by simp (maxDischargeDepth := 60) +contextual [hlog]⟩
theorem execWakeIn_logBound (s : State) (hlog : LogBound s.log) : ∃ w, execWakeIn s = .next (settle w) ∧ LogBound w.log := by
  unfold execWakeIn; (repeat' split) <;> exact ⟨_, rfl, by simp (maxDischargeDepth := 60) +contextual [hlog]⟩
theorem execPciExpressWake_logBound (s : State) (hlog : LogBound s.log) : ∃ w, execPciExpressWake s = .next (settle w) ∧ LogBound w.log := by
  unfold execPciExpressWake; (repeat' split) <;> exact ⟨_, rfl, by simp (maxDischargeDepth := 60) +contextual [hlog]⟩

/-! ## Kickoff -/

theorem execAonPowerGood_logBound (s : State) (hlog : LogBound s.log) : ∃ w, execAonPowerGood s = .next (settle w) ∧ LogBound w.log := by
  unfold execAonPowerGood; (repeat' split) <;> exact ⟨_, rfl, by simp (maxDischargeDepth := 60) +contextual [hlog]⟩
theorem execBrownOut_logBound (s : State) (hlog : LogBound s.log) : ∃ w, execBrownOut s = .next (settle w) ∧ LogBound w.log := by
  unfold execBrownOut; (repeat' split) <;> exact ⟨_, rfl, by simp (maxDischargeDepth := 60) +contextual [hlog]⟩
theorem execPorst_logBound (s : State) (hlog : LogBound s.log) : ∃ w, execPorst s = .next (settle w) ∧ LogBound w.log := by
  unfold execPorst; (repeat' split) <;> exact ⟨_, rfl, by simp (maxDischargeDepth := 60) +contextual [hlog]⟩
theorem execPorstRelease_logBound (s : State) (hlog : LogBound s.log) : ∃ w, execPorstRelease s = .next (settle w) ∧ LogBound w.log := by
  unfold execPorstRelease; exact ⟨_, rfl, by simp (maxDischargeDepth := 60) +contextual [hlog]⟩
theorem execWarmResetHoldEnd_logBound (s : State) (hlog : LogBound s.log) : ∃ w, execWarmResetHoldEnd s = .next (settle w) ∧ LogBound w.log := by
  unfold execWarmResetHoldEnd; (repeat' split) <;> exact ⟨_, rfl, by simp (maxDischargeDepth := 60) +contextual [hlog]⟩
theorem execKickoffWatchdog_logBound (s : State) (hlog : LogBound s.log) : ∃ w, execKickoffWatchdog s = .next (settle w) ∧ LogBound w.log := by
  unfold execKickoffWatchdog; (repeat' split) <;> exact ⟨_, rfl, by simp (maxDischargeDepth := 60) +contextual [hlog]⟩
@[simp] theorem stepStraps_logBound (s : State) (v1 v2 : List (Option Nat)) (testEn : Bool) (hlog : LogBound s.log) :
  LogBound (stepStraps s v1 v2 testEn).log := by unfold stepStraps; simp (maxDischargeDepth := 60) +contextual [hlog]
@[simp] theorem restoreJournal_logBound (s : State) (hlog : LogBound s.log) : LogBound (restoreJournal s).log := by
  unfold restoreJournal; split <;> simp (maxDischargeDepth := 60) +contextual [hlog]
@[simp] theorem stampStart_len (l : List Entry) (n : Nat) : (stampStart l n).length = l.length := by
  induction l with
  | nil => rfl
  | cons e t ih => unfold stampStart; split <;> simp [ih]
theorem early_logBound {l : Log} (h : LogBound l) (x : List Entry) (hx : x.length = l.early.length) : LogBound { l with early := x } :=
  ⟨h.1, Nat.le_trans (Nat.le_of_eq hx) h.2.1, h.2.2⟩
@[simp] theorem stepFlash_logBound (s : State) (answers journalReadable : Bool) (hlog : LogBound s.log) :
    LogBound (stepFlash s answers journalReadable).log := by
  unfold stepFlash
  simp only
  generalize hv : bump _ 0x2030 0x0C = v
  have hb : LogBound v.log := by rw [← hv]; (repeat' split) <;> simp (maxDischargeDepth := 60) +contextual [hlog]
  have hw : LogBound { v.log with early := stampStart v.log.early (bootCount v) } := early_logBound hb _ (stampStart_len _ _)
  split
  · exact enterTerp_logBound _ _ hw
  · split
    · rename_i u hu
      have hl : LogBound u.log := selectTable_logBound _ _ hu hw
      have hs := startOn_logBound u false hl
      simp [hs]
    · exact failKickoff_logBound _ _ _ hw
@[simp] theorem stepReference_logBound (s : State) (ok : Bool) (hlog : LogBound s.log) : LogBound (stepReference s ok).log := by
  unfold stepReference; simp (maxDischargeDepth := 60) +contextual [hlog]
@[simp] theorem stepCore_logBound (s : State) (tj : Int) (hlog : LogBound s.log) : LogBound (stepCore s tj).log := by
  unfold stepCore; simp (maxDischargeDepth := 60) +contextual [hlog]
@[simp] theorem takeImage_logBound (s : State) (hlog : LogBound s.log) : LogBound (takeImage s).1.log := by
  unfold takeImage; simp (maxDischargeDepth := 60) +contextual [hlog]
@[simp] theorem stepImage_logBound (s : State) (hlog : LogBound s.log) : LogBound (stepImage s).log := by
  unfold stepImage; simp (maxDischargeDepth := 60) +contextual [hlog]
@[simp] theorem loadDefaults_logBound (s : State) (hlog : LogBound s.log) : LogBound (loadDefaults s).log := by
  unfold loadDefaults; simp (maxDischargeDepth := 60) +contextual [hlog]
@[simp] theorem loadRecord_logBound (a : State × List Nat) (q : Nat × Nat × List Byte) (hlog : LogBound a.1.log) :
  LogBound (loadRecord a q).1.log := by unfold loadRecord; simp (maxDischargeDepth := 60) +contextual [hlog]
@[simp] theorem loadImage_logBound (s : State) (l : List (Nat × Nat × List Byte)) (hlog : LogBound s.log) : LogBound (loadImage s l).log := by
  unfold loadImage; simp (maxDischargeDepth := 60) +contextual [hlog]
@[simp] theorem stepDictionary_logBound (s : State) (hlog : LogBound s.log) : LogBound (stepDictionary s).log := by
  unfold stepDictionary; simp (maxDischargeDepth := 60) +contextual [hlog]
@[simp] theorem stepDram_logBound (s : State) (first second : Bool) (hlog : LogBound s.log) : LogBound (stepDram s first second).log := by
  unfold stepDram; simp (maxDischargeDepth := 60) +contextual [hlog]
@[simp] theorem stepRollcall_logBound (s : State) (hlog : LogBound s.log) : LogBound (stepRollcall s).log := by
  unfold stepRollcall; simp (maxDischargeDepth := 60) +contextual [hlog]
@[simp] theorem stepDone_logBound (s : State) (r : KickResult) (hlog : LogBound s.log) : LogBound (stepDone s r).log := by
  unfold stepDone; split <;> simp (maxDischargeDepth := 60) +contextual [hlog]
theorem execKickoffStepComplete_logBound (r : KickResult) (s : State) (hlog : LogBound s.log) :
  ∃ w, execKickoffStepComplete r s = .next (settle w) ∧ LogBound w.log := by
  unfold execKickoffStepComplete; simp only; (repeat' split) <;> exact ⟨_, rfl, by simp (maxDischargeDepth := 60) +contextual [hlog]⟩
theorem execRollCallComplete_logBound (s : State) (hlog : LogBound s.log) : ∃ w, execRollCallComplete s = .next (settle w) ∧ LogBound w.log := by
  unfold execRollCallComplete; (repeat' split) <;> exact ⟨_, rfl, by simp (maxDischargeDepth := 60) +contextual [hlog]⟩
theorem execDebugChallenge_logBound (s : State) (hlog : LogBound s.log) : ∃ w, execDebugChallenge s = .next (settle w) ∧ LogBound w.log := by
  unfold execDebugChallenge; (repeat' split) <;> exact ⟨_, rfl, by simp (maxDischargeDepth := 60) +contextual [hlog]⟩
theorem execDebugResponse_logBound (rs : List Byte) (s : State) (hlog : LogBound s.log) :
  ∃ w, execDebugResponse rs s = .next (settle w) ∧ LogBound w.log := by
  unfold execDebugResponse; (repeat' split) <;> exact ⟨_, rfl, by simp (maxDischargeDepth := 60) +contextual [hlog]⟩

/-! ## Tenants -/

@[simp] theorem bellCommand_logBound (s : State) (t kind i : Nat) (hlog : LogBound s.log) : LogBound (bellCommand s t kind i).log := by
  unfold bellCommand; simp (maxDischargeDepth := 60) +contextual [hlog]
theorem execSheetTailDoorbell_logBound (t : Fin 64) (index : Nat) (s : State) (hlog : LogBound s.log) :
  ∃ w, execSheetTailDoorbell t index s = .next (settle w) ∧ LogBound w.log := by
  unfold execSheetTailDoorbell; exact ⟨_, rfl, by simp (maxDischargeDepth := 60) +contextual [hlog]⟩
theorem execCompletionHeadDoorbell_logBound (t : Fin 64) (index : Nat) (s : State) (hlog : LogBound s.log) :
  ∃ w, execCompletionHeadDoorbell t index s = .next (settle w) ∧ LogBound w.log := by
  unfold execCompletionHeadDoorbell; exact ⟨_, rfl, by simp (maxDischargeDepth := 60) +contextual [hlog]⟩
theorem execCancelDoorbell_logBound (t : Fin 64) (index : Nat) (s : State) (hlog : LogBound s.log) :
  ∃ w, execCancelDoorbell t index s = .next (settle w) ∧ LogBound w.log := by
  unfold execCancelDoorbell; exact ⟨_, rfl, by simp (maxDischargeDepth := 60) +contextual [hlog]⟩
@[simp] theorem mailboxStart_logBound (s : State) (fn : Fin 65) (op idx sub len addr : Nat) (hlog : LogBound s.log) :
  LogBound (mailboxStart s fn op idx sub len addr).log := hlog
@[simp] theorem mailboxEnd_logBound (s : State) (fn : Fin 65) (code : Nat) (hlog : LogBound s.log) : LogBound (mailboxEnd s fn code).log := by
  unfold mailboxEnd; simp (maxDischargeDepth := 60) +contextual [hlog]
@[simp] theorem mailboxBusy_logBound (s : State) (fn : Fin 65) (hlog : LogBound s.log) : LogBound (mailboxBusy s fn).log := by
  unfold mailboxBusy; simp (maxDischargeDepth := 60) +contextual [hlog]
@[simp] theorem mailboxDeliver_logBound (s : State) (fn : Fin 65) (addr : Nat) (d : List Byte) (hlog : LogBound s.log) :
  LogBound (mailboxDeliver s fn addr d).log := by unfold mailboxDeliver; simp (maxDischargeDepth := 60) +contextual [hlog]
theorem execMailboxRead_logBound (fn : Fin 65) (op idx sub : Nat) (buffer : MailBuffer) (s : State) (hlog : LogBound s.log) :
  ∃ w, execMailboxRead fn op idx sub buffer s = .next (settle w) ∧ LogBound w.log := by
  unfold execMailboxRead; simp only; (repeat' split) <;> exact ⟨_, rfl, by simp (maxDischargeDepth := 60) +contextual [hlog]⟩
theorem execMailboxWrite_logBound (fn : Fin 65) (idx sub len addr : Nat) (data : List Byte) (s : State) (hlog : LogBound s.log) :
  ∃ w, execMailboxWrite fn idx sub len addr data s = .next (settle w) ∧ LogBound w.log := by
  unfold execMailboxWrite; simp only; (repeat' split) <;> exact ⟨_, rfl, by simp (maxDischargeDepth := 60) +contextual [hlog]⟩
theorem execDescriptorFetch_logBound (t : Fin 64) (s : State) (hlog : LogBound s.log) :
  ∃ w, execDescriptorFetch t s = .next (settle w) ∧ LogBound w.log := by
  unfold execDescriptorFetch; (repeat' split) <;> exact ⟨_, rfl, by simp (maxDischargeDepth := 60) +contextual [hlog]⟩
theorem execDescriptorReceived_logBound (t : Fin 64) (bytes : List Byte) (s : State) (hlog : LogBound s.log) :
  ∃ w, execDescriptorReceived t bytes s = .next (settle w) ∧ LogBound w.log := by
  unfold execDescriptorReceived; (repeat' split) <;> exact ⟨_, rfl, by simp (maxDischargeDepth := 60) +contextual [hlog]⟩
theorem execPlaneFetchStart_logBound (t : Fin 64) (s : State) (hlog : LogBound s.log) :
  ∃ w, execPlaneFetchStart t s = .next (settle w) ∧ LogBound w.log := by
  unfold execPlaneFetchStart; (repeat' split) <;> exact ⟨_, rfl, by simp (maxDischargeDepth := 60) +contextual [hlog]⟩
@[simp] theorem becomeResident_logBound (s : State) (uid : Nat) (hlog : LogBound s.log) : LogBound (becomeResident s uid).log := by
  unfold becomeResident; split <;> simp (maxDischargeDepth := 60) +contextual [hlog]
@[simp] theorem takePlane_logBound (s : State) (sh : Sheet) (st : Nat) (data : List Byte) (hlog : LogBound s.log) :
  LogBound (takePlane s sh st data).log := by unfold takePlane; simp (maxDischargeDepth := 60) +contextual [hlog]
theorem execPlaneReadCompletion_logBound (t : Fin 64) (ring : Nat) (st : Fin 6) (unit : Nat) (plane : PlaneData) (s : State) (hlog :
  LogBound s.log) : ∃ w, execPlaneReadCompletion t ring st unit plane s = .next (settle w) ∧ LogBound w.log := by
  unfold execPlaneReadCompletion; simp only; (repeat' split) <;> exact ⟨_, rfl, by simp (maxDischargeDepth := 60) +contextual [hlog]⟩
theorem execIngestReadError_logBound (t : Fin 64) (e : IngestFail) (repeatFails : Bool) (s : State) (hlog : LogBound s.log) :
  ∃ w, execIngestReadError t e repeatFails s = .next (settle w) ∧ LogBound w.log := by
  unfold execIngestReadError; (repeat' split) <;> exact ⟨_, rfl, by simp (maxDischargeDepth := 60) +contextual [hlog]⟩
theorem execCoalescingTimeout_logBound (t : Fin 64) (s : State) (hlog : LogBound s.log) :
  ∃ w, execCoalescingTimeout t s = .next (settle w) ∧ LogBound w.log := by
  unfold execCoalescingTimeout; (repeat' split) <;> exact ⟨_, rfl, by simp (maxDischargeDepth := 60) +contextual [hlog]⟩
@[simp] theorem configRequest_logBound (s : State) (fn : Nat) (hlog : LogBound s.log) : LogBound (configRequest s fn).log := by
  unfold configRequest; simp (maxDischargeDepth := 60) +contextual [hlog]
theorem execBusMasterEnable_logBound (t : Fin 64) (on : Bool) (s : State) (hlog : LogBound s.log) :
  ∃ w, execBusMasterEnable t on s = .next (settle w) ∧ LogBound w.log := by
  unfold execBusMasterEnable; (repeat' split) <;> exact ⟨_, rfl, by simp (maxDischargeDepth := 60) +contextual [hlog]⟩
@[simp] theorem resetPf0_logBound (s : State) (hlog : LogBound s.log) : LogBound (resetPf0 s).log := by
  unfold resetPf0; simp (maxDischargeDepth := 60) +contextual [hlog]
theorem execFunctionLevelReset_logBound (fn : Fin 65) (s : State) (hlog : LogBound s.log) :
  ∃ w, execFunctionLevelReset fn s = .next (settle w) ∧ LogBound w.log := by
  unfold execFunctionLevelReset; (repeat' split) <;> exact ⟨_, rfl, by simp (maxDischargeDepth := 60) +contextual [hlog]⟩
theorem execPePerst_logBound (s : State) (hlog : LogBound s.log) : ∃ w, execPePerst s = .next (settle w) ∧ LogBound w.log := by
  unfold execPePerst; (repeat' split) <;> exact ⟨_, rfl, by simp (maxDischargeDepth := 60) +contextual [hlog]⟩
theorem execPePerstRelease_logBound (speed width : Nat) (s : State) (hlog : LogBound s.log) :
  ∃ w, execPePerstRelease speed width s = .next (settle w) ∧ LogBound w.log := by
  unfold execPePerstRelease; (repeat' split) <;> exact ⟨_, rfl, by simp (maxDischargeDepth := 60) +contextual [hlog]⟩
theorem execNumvfsWrite_logBound (n : Nat) (s : State) (hlog : LogBound s.log) : ∃ w, execNumvfsWrite n s = .next (settle w) ∧ LogBound w.log := by
  unfold execNumvfsWrite; (repeat' split) <;> exact ⟨_, rfl, by simp (maxDischargeDepth := 60) +contextual [hlog]⟩
theorem execScrubComplete_logBound (t : Fin 64) (s : State) (hlog : LogBound s.log) :
  ∃ w, execScrubComplete t s = .next (settle w) ∧ LogBound w.log := by
  unfold execScrubComplete; (repeat' split) <;> exact ⟨_, rfl, by simp (maxDischargeDepth := 60) +contextual [hlog]⟩

/-! ## Motors -/

@[simp] theorem encoderMeasured_logBound (s : State) (m : Nat) (hlog : LogBound s.log) : LogBound (encoderMeasured s m).log := by
  unfold encoderMeasured; simp (maxDischargeDepth := 60) +contextual [hlog]
@[simp] theorem placeSamples_logBound (s : State) (m : Nat) (hlog : LogBound s.log) : LogBound (placeSamples s m).log := by
  unfold placeSamples; simp (maxDischargeDepth := 60) +contextual [hlog]
@[simp] theorem takeCurrents_logBound (s : State) (m : Nat) (s1 s2 : Int) (hlog : LogBound s.log) : LogBound (takeCurrents s m s1 s2).log := by
  unfold takeCurrents; simp (maxDischargeDepth := 60) +contextual [hlog]
@[simp] theorem controlPeriod_logBound (s : State) (m : Nat) (s1 s2 : Int) (hlog : LogBound s.log) : LogBound (controlPeriod s m s1 s2).log := by
  unfold controlPeriod; simp (maxDischargeDepth := 60) +contextual [hlog]
@[simp] theorem speedProgress_logBound (s : State) (m : Nat) (hlog : LogBound s.log) : LogBound (speedProgress s m).log := by
  unfold speedProgress; simp only; (repeat' split) <;> simp (maxDischargeDepth := 60) +contextual [hlog]
@[simp] theorem periodEnd_logBound (s : State) (m : Nat) (hlog : LogBound s.log) : LogBound (periodEnd s m).log := by
  unfold periodEnd; simp (maxDischargeDepth := 60) +contextual [hlog]
@[simp] theorem startGates_logBound (s : State) (m : Nat) (hlog : LogBound s.log) : LogBound (startGates s m).log := by
  unfold startGates; simp (maxDischargeDepth := 60) +contextual [hlog]
theorem execPwmPeriod_logBound (m : Fin 12) (sample1 sample2 : Int) (s : State) (hlog : LogBound s.log) :
  ∃ w, execPwmPeriod m sample1 sample2 s = .next (settle w) ∧ LogBound w.log := by
  unfold execPwmPeriod; (repeat' split) <;> exact ⟨_, rfl, by simp (maxDischargeDepth := 60) +contextual [hlog]⟩
theorem execAlignEnd_logBound (m : Fin 6) (s : State) (hlog : LogBound s.log) : ∃ w, execAlignEnd m s = .next (settle w) ∧ LogBound w.log := by
  unfold execAlignEnd; (repeat' split) <;> exact ⟨_, rfl, by simp (maxDischargeDepth := 60) +contextual [hlog]⟩
theorem execRampEnd_logBound (m : Fin 6) (s : State) (hlog : LogBound s.log) : ∃ w, execRampEnd m s = .next (settle w) ∧ LogBound w.log := by
  unfold execRampEnd; simp only; (repeat' split) <;> exact ⟨_, rfl, by simp (maxDischargeDepth := 60) +contextual [hlog]⟩
theorem execZeroCrossing_logBound (m : Fin 6) (t : Nat) (s : State) (hlog : LogBound s.log) :
  ∃ w, execZeroCrossing m t s = .next (settle w) ∧ LogBound w.log := by
  unfold execZeroCrossing; simp only; (repeat' split) <;> exact ⟨_, rfl, by simp (maxDischargeDepth := 60) +contextual [hlog]⟩
@[simp] theorem commutate_logBound (s : State) (m t : Nat) (hlog : LogBound s.log) : LogBound (commutate s m t).log := by
  unfold commutate; simp (maxDischargeDepth := 60) +contextual [hlog]
theorem execCommutation_logBound (m : Fin 12) (t : Nat) (s : State) (hlog : LogBound s.log) :
  ∃ w, execCommutation m t s = .next (settle w) ∧ LogBound w.log := by
  unfold execCommutation; simp only; (repeat' split) <;> exact ⟨_, rfl, by simp (maxDischargeDepth := 60) +contextual [hlog]⟩
theorem execHallEdge_logBound (m : Fin 12) (code : Fin 8) (t : Nat) (s : State) (hlog : LogBound s.log) :
  ∃ w, execHallEdge m code t s = .next (settle w) ∧ LogBound w.log := by
  unfold execHallEdge; exact ⟨_, rfl, by simp (maxDischargeDepth := 60) +contextual [hlog]⟩
theorem execOvercurrent_logBound (x : ShuntSample) (s : State) (hlog : LogBound s.log) :
  ∃ w, execOvercurrent x s = .next (settle w) ∧ LogBound w.log := by
  unfold execOvercurrent; (repeat' split) <;> exact ⟨_, rfl, by simp (maxDischargeDepth := 60) +contextual [hlog]⟩
theorem execStallTimeout_logBound (m : Fin 12) (s : State) (hlog : LogBound s.log) :
  ∃ w, execStallTimeout m s = .next (settle w) ∧ LogBound w.log := by
  unfold execStallTimeout; (repeat' split) <;> exact ⟨_, rfl, by simp (maxDischargeDepth := 60) +contextual [hlog]⟩
theorem execBackEmfLoss_logBound (m : Fin 6) (s : State) (hlog : LogBound s.log) : ∃ w, execBackEmfLoss m s = .next (settle w) ∧ LogBound w.log := by
  unfold execBackEmfLoss; (repeat' split) <;> exact ⟨_, rfl, by simp (maxDischargeDepth := 60) +contextual [hlog]⟩
theorem execMotorRestart_logBound (m : Fin 12) (s : State) (hlog : LogBound s.log) :
  ∃ w, execMotorRestart m s = .next (settle w) ∧ LogBound w.log := by
  unfold execMotorRestart; (repeat' split) <;> exact ⟨_, rfl, by simp (maxDischargeDepth := 60) +contextual [hlog]⟩
theorem execBrakeEnd_logBound (m : Fin 12) (s : State) (hlog : LogBound s.log) : ∃ w, execBrakeEnd m s = .next (settle w) ∧ LogBound w.log := by
  unfold execBrakeEnd; (repeat' split) <;> exact ⟨_, rfl, by simp (maxDischargeDepth := 60) +contextual [hlog]⟩

/-! ## Axes -/

theorem execMoveEnd_logBound (a : Fin 16) (s : State) (hlog : LogBound s.log) : ∃ w, execMoveEnd a s = .next (settle w) ∧ LogBound w.log := by
  unfold execMoveEnd; simp only; (repeat' split) <;> exact ⟨_, rfl, by simp (maxDischargeDepth := 60) +contextual [hlog]⟩
@[simp] theorem leavePath_logBound (s : State) (b : Nat) (hlog : LogBound s.log) : LogBound (leavePath s b).log := hlog
@[simp] theorem releaseAxis_logBound (s : State) (a : Nat) (hlog : LogBound s.log) : LogBound (releaseAxis s a).log := by
  unfold releaseAxis; split <;> simp (maxDischargeDepth := 60) +contextual [hlog]
@[simp] theorem releaseMotor_logBound (s : State) (m : Nat) (hlog : LogBound s.log) : LogBound (releaseMotor s m).log := by
  unfold releaseMotor; split <;> simp (maxDischargeDepth := 60) +contextual [hlog]
theorem execDeferredCommandRelease_logBound (target : Fin 28) (s : State) (hlog : LogBound s.log) :
  ∃ w, execDeferredCommandRelease target s = .next (settle w) ∧ LogBound w.log := by
  unfold execDeferredCommandRelease; (repeat' split) <;> exact ⟨_, rfl, by simp (maxDischargeDepth := 60) +contextual [hlog]⟩
theorem execStandstillDelayEnd_logBound (a : Fin 16) (s : State) (hlog : LogBound s.log) :
  ∃ w, execStandstillDelayEnd a s = .next (settle w) ∧ LogBound w.log := by
  unfold execStandstillDelayEnd; (repeat' split) <;> exact ⟨_, rfl, by simp (maxDischargeDepth := 60) +contextual [hlog]⟩
theorem execHomingLatch_logBound (a : Fin 16) (s : State) (hlog : LogBound s.log) : ∃ w, execHomingLatch a s = .next (settle w) ∧ LogBound w.log := by
  unfold execHomingLatch; simp only; (repeat' split) <;> exact ⟨_, rfl, by simp (maxDischargeDepth := 60) +contextual [hlog]⟩
@[simp] theorem hardStopFound_logBound (s : State) (a : Nat) (hlog : LogBound s.log) : LogBound (hardStopFound s a).log := by
  unfold hardStopFound; split <;> simp (maxDischargeDepth := 60) +contextual [hlog]
theorem execHomingSearchEnd_logBound (a : Fin 16) (s : State) (hlog : LogBound s.log) :
  ∃ w, execHomingSearchEnd a s = .next (settle w) ∧ LogBound w.log := by
  unfold execHomingSearchEnd; simp only; (repeat' split) <;> exact ⟨_, rfl, by simp (maxDischargeDepth := 60) +contextual [hlog]⟩
theorem execHomeActive_logBound (a : Fin 16) (s : State) (hlog : LogBound s.log) : ∃ w, execHomeActive a s = .next (settle w) ∧ LogBound w.log := by
  unfold execHomeActive; simp only; (repeat' split) <;> exact ⟨_, rfl, by simp (maxDischargeDepth := 60) +contextual [hlog]⟩
theorem execLimitActive_logBound (a : Fin 16) (positive : Bool) (s : State) (hlog : LogBound s.log) :
  ∃ w, execLimitActive a positive s = .next (settle w) ∧ LogBound w.log := by
  unfold execLimitActive; exact ⟨_, rfl, by simp (maxDischargeDepth := 60) +contextual [hlog]⟩
theorem execAxisDriverFault_logBound (a : Fin 16) (s : State) (hlog : LogBound s.log) :
  ∃ w, execAxisDriverFault a s = .next (settle w) ∧ LogBound w.log := by
  unfold execAxisDriverFault; exact ⟨_, rfl, by simp (maxDischargeDepth := 60) +contextual [hlog]⟩
theorem execAxisReenable_logBound (a : Fin 16) (s : State) (hlog : LogBound s.log) :
  ∃ w, execAxisReenable a s = .next (settle w) ∧ LogBound w.log := by
  unfold execAxisReenable; simp only; (repeat' split) <;> exact ⟨_, rfl, by simp (maxDischargeDepth := 60) +contextual [hlog]⟩
theorem execAxisFltInactive_logBound (a : Fin 16) (s : State) (hlog : LogBound s.log) :
  ∃ w, execAxisFltInactive a s = .next (settle w) ∧ LogBound w.log := by
  unfold execAxisFltInactive; (repeat' split) <;> exact ⟨_, rfl, by simp (maxDischargeDepth := 60) +contextual [hlog]⟩

/-! ## Loops -/

@[simp] theorem evaluationCause_logBound (s : State) (n : Nat) (c : Option Nat) (hlog : LogBound s.log) : LogBound (evaluationCause s n c).log := by
  unfold evaluationCause; split <;> simp (maxDischargeDepth := 60) +contextual [hlog]
@[simp] theorem tripEnds_logBound (s : State) (n : Nat) (hlog : LogBound s.log) : LogBound (tripEnds s n).log := by
  unfold tripEnds; simp (maxDischargeDepth := 60) +contextual [hlog]
theorem execLoopEvaluation_logBound (n : Fin 48) (s : State) (hlog : LogBound s.log) :
  ∃ w, execLoopEvaluation n s = .next (settle w) ∧ LogBound w.log := by
  unfold execLoopEvaluation; (repeat' split) <;> exact ⟨_, rfl, by simp (maxDischargeDepth := 60) +contextual [hlog]⟩
theorem execLoopRestart_logBound (n : Fin 48) (s : State) (hlog : LogBound s.log) : ∃ w, execLoopRestart n s = .next (settle w) ∧ LogBound w.log := by
  unfold execLoopRestart; (repeat' split) <;> exact ⟨_, rfl, by simp (maxDischargeDepth := 60) +contextual [hlog]⟩
@[simp] theorem fuserBroken_logBound (s : State) (i : Nat) (hlog : LogBound s.log) : LogBound (fuserBroken s i).log := by
  unfold fuserBroken; simp (maxDischargeDepth := 60) +contextual [hlog]
@[simp] theorem brokenTwice_logBound (s : State) (i : Nat) (hlog : LogBound s.log) : LogBound (brokenTwice s i).log := by
  unfold brokenTwice; simp (maxDischargeDepth := 60) +contextual [hlog]
@[simp] theorem takeBroken_logBound (s : State) (i v1 : Nat) (hlog : LogBound s.log) : LogBound (takeBroken s i v1).log := by
  unfold takeBroken; simp (maxDischargeDepth := 60) +contextual [hlog]
@[simp] theorem takeGood_logBound (s : State) (i v1 : Nat) (hlog : LogBound s.log) : LogBound (takeGood s i v1).log := by
  unfold takeGood; simp (maxDischargeDepth := 60) +contextual [hlog]
theorem execConversion_logBound (i : Fin 48) (v1 v2 : Nat) (s : State) (hlog : LogBound s.log) :
  ∃ w, execConversion i v1 v2 s = .next (settle w) ∧ LogBound w.log := by
  unfold execConversion; simp only; (repeat' split) <;> exact ⟨_, rfl, by simp (maxDischargeDepth := 60) +contextual [hlog]⟩
@[simp] theorem zonePulse_logBound (s : State) (z : Nat) (hlog : LogBound s.log) : LogBound (zonePulse s z).log := by
  unfold zonePulse; simp (maxDischargeDepth := 60) +contextual [hlog]
@[simp] theorem edgesBack_logBound (s : State) (hlog : LogBound s.log) : LogBound (edgesBack s).log := by
  unfold edgesBack; simp (maxDischargeDepth := 60) +contextual [hlog]
theorem execZcInEdge_logBound (s : State) (hlog : LogBound s.log) : ∃ w, execZcInEdge s = .next (settle w) ∧ LogBound w.log := by
  unfold execZcInEdge; (repeat' split) <;> exact ⟨_, rfl, by simp (maxDischargeDepth := 60) +contextual [hlog]⟩
theorem execZeroCrossTimeout_logBound (s : State) (hlog : LogBound s.log) : ∃ w, execZeroCrossTimeout s = .next (settle w) ∧ LogBound w.log := by
  unfold execZeroCrossTimeout; (repeat' split) <;> exact ⟨_, rfl, by simp (maxDischargeDepth := 60) +contextual [hlog]⟩

/-! ## PinCommands -/

theorem execDriveMismatch_logBound (p : Fin 96) (s : State) (hlog : LogBound s.log) :
  ∃ w, execDriveMismatch p s = .next (settle w) ∧ LogBound w.log := by
  unfold execDriveMismatch; (repeat' split) <;> exact ⟨_, rfl, by simp (maxDischargeDepth := 60) +contextual [hlog]⟩
theorem execBankSupplyChange_logBound (bank33 : Bool) (x : BankSupply) (s : State) (hlog : LogBound s.log) :
  ∃ w, execBankSupplyChange bank33 x s = .next (settle w) ∧ LogBound w.log := by
  unfold execBankSupplyChange; (repeat' split) <;> exact ⟨_, rfl, by simp (maxDischargeDepth := 60) +contextual [hlog]⟩

/-! ## Step -/

@[simp] theorem State.withFetchWord_logBound (s : State) (nbits w : Nat) (hlog : LogBound s.log) :
  LogBound (State.withFetchWord s nbits w).log := hlog

end Sys2Proof.Machine
end

