-- ==== Sys2Proof/Laws/Mode.lean ====
section
/-! SUPPORT. The operations that leave the operating mode as it is (R27 to R43): one lemma per operation. -/

namespace Sys2Proof.Machine

/-! ## Choices and folds -/

@[simp] theorem ite_mode (c : Prop) [Decidable c] (a b : State) :
  (if c then a else b).md.mode = if c then a.md.mode else b.md.mode := apply_ite (·.md.mode) c a b
@[simp] theorem ite_mode1 {α : Type} (c : Prop) [Decidable c] (a b : State × α) :
  (if c then a else b).1.md.mode = if c then a.1.md.mode else b.1.md.mode :=
  apply_ite (·.1.md.mode) c a b
@[simp] theorem foldl_mode {α : Type} (l : List α) (f : State → α → State) (s : State) (h : ∀ u x, (f u x).md.mode = u.md.mode) :
  (l.foldl f s).md.mode = s.md.mode := by
  induction l generalizing s with
  | nil => rfl
  | cons a r ih => exact (ih _).trans (h _ _)
@[simp] theorem foldl_mode1 {α β : Type} (l : List α) (f : State × β → α → State × β) (s : State × β) (h : ∀ u x, (f u x).1.md.mode = u.1.md.mode) :
    (l.foldl f s).1.md.mode = s.1.md.mode := by
  induction l generalizing s with
  | nil => rfl
  | cons a r ih => exact (ih _).trans (h _ _)
@[simp] theorem foldr_mode {α : Type} (l : List α) (f : α → State → State) (s : State) (h : ∀ u x, (f x u).md.mode = u.md.mode) :
  (l.foldr f s).md.mode = s.md.mode := by
  induction l with
  | nil => rfl
  | cons a r ih => exact (h _ _).trans ih
@[simp] theorem forEach_mode (l : List Nat) (f : State → Nat → State) (s : State) (h : ∀ u x, (f u x).md.mode = u.md.mode) :
    (forEach l f s).md.mode = s.md.mode := foldl_mode l f s h

/-! ## Ops -/

@[simp] theorem put_mode (s : State) (idx sub v : Nat) : (put s idx sub v).md.mode = s.md.mode := (rfl)
@[simp] theorem putS_mode (s : State) (w idx sub : Nat) (v : Int) : (putS s w idx sub v).md.mode = s.md.mode := (rfl)
@[simp] theorem wrapBy_mode (w : Nat) (s : State) (idx sub n : Nat) : (wrapBy w s idx sub n).md.mode = s.md.mode := (rfl)
@[simp] theorem satBy_mode (w : Nat) (s : State) (idx sub n : Nat) : (satBy w s idx sub n).md.mode = s.md.mode := (rfl)
@[simp] theorem bump_mode (s : State) (idx sub : Nat) : (bump s idx sub).md.mode = s.md.mode := (rfl)
@[simp] theorem sat_mode (s : State) (idx sub : Nat) : (sat s idx sub).md.mode = s.md.mode := (rfl)
@[simp] theorem putBlob_mode (s : State) (idx sub : Nat) (l : List Byte) : (putBlob s idx sub l).md.mode = s.md.mode := (rfl)
@[simp] theorem emit_mode (s : State) (o : Output) : (emit s o).md.mode = s.md.mode := (rfl)
@[simp] theorem emitAll_mode (s : State) (l : List Output) : (emitAll s l).md.mode = s.md.mode := (rfl)
@[simp] theorem setRail_mode (s : State) (n : Nat) (f : Rail → Rail) : (setRail s n f).md.mode = s.md.mode := (rfl)
@[simp] theorem setStation_mode (s : State) (n : Nat) (f : Station → Station) : (setStation s n f).md.mode = s.md.mode := (rfl)
@[simp] theorem setTracker_mode (s : State) (n : Nat) (f : Tracker → Tracker) : (setTracker s n f).md.mode = s.md.mode := (rfl)
@[simp] theorem setMotor_mode (s : State) (n : Nat) (f : Motor → Motor) : (setMotor s n f).md.mode = s.md.mode := (rfl)
@[simp] theorem setAxis_mode (s : State) (n : Nat) (f : Axis → Axis) : (setAxis s n f).md.mode = s.md.mode := (rfl)
@[simp] theorem setLoop_mode (s : State) (n : Nat) (f : Loop → Loop) : (setLoop s n f).md.mode = s.md.mode := (rfl)
@[simp] theorem setAin_mode (s : State) (n : Nat) (f : Ain → Ain) : (setAin s n f).md.mode = s.md.mode := (rfl)
@[simp] theorem setTenant_mode (s : State) (n : Nat) (f : Tenant → Tenant) : (setTenant s n f).md.mode = s.md.mode := (rfl)
@[simp] theorem setPort_mode (s : State) (n : Nat) (f : Port → Port) : (setPort s n f).md.mode = s.md.mode := (rfl)
@[simp] theorem holdTime_mode (s : State) : (holdTime s).md.mode = s.md.mode := (rfl)
@[simp] theorem vector_mode (s : State) (fn vec : Nat) : (vector s fn vec).md.mode = s.md.mode := by unfold vector; simp
@[simp] theorem putLog_mode (s : State) (idx sub v : Nat) : (putLog s idx sub v).md.mode = s.md.mode := (rfl)
@[simp] theorem wrapLog_mode (w : Nat) (s : State) (idx sub : Nat) : (wrapLog w s idx sub).md.mode = s.md.mode := (rfl)
@[simp] theorem satLog_mode (w : Nat) (s : State) (idx sub : Nat) : (satLog w s idx sub).md.mode = s.md.mode := (rfl)
@[simp] theorem tick_mode (s : State) : (tick s).md.mode = s.md.mode := by unfold tick; simp
@[simp] theorem mirrorWrite_mode (s : State) (e : Entry) : (mirrorWrite s e).md.mode = s.md.mode := by
  unfold mirrorWrite; (repeat' split) <;> simp
@[simp] theorem ringWrite_mode (s : State) (e : Entry) : (ringWrite s e).md.mode = s.md.mode := by unfold ringWrite; simp
@[simp] theorem notice_mode (s : State) (idx sub cls : Nat) : (notice s idx sub cls).md.mode = s.md.mode := by unfold notice; simp
@[simp] theorem noticeAlone_mode (s : State) (idx sub cls : Nat) : (noticeAlone s idx sub cls).md.mode = s.md.mode := by unfold noticeAlone; simp
@[simp] theorem classVectors_mode (s : State) (cls : Nat) : (classVectors s cls).md.mode = s.md.mode := by unfold classVectors; simp
@[simp] theorem logOnly_mode (s : State) (cls kind src inst idx sub : Nat) (serial : Option Nat) (detail : Nat) :
  (logOnly s cls kind src inst idx sub serial detail).md.mode = s.md.mode := by unfold logOnly; simp
@[simp] theorem log_mode (s : State) (cls kind src inst idx sub : Nat) (serial : Option Nat) (detail : Nat) :
  (log s cls kind src inst idx sub serial detail).md.mode = s.md.mode := by unfold log; simp
@[simp] theorem logEvent_mode (s : State) (cls src inst idx sub : Nat) : (logEvent s cls src inst idx sub).md.mode = s.md.mode := by
  unfold logEvent; simp
@[simp] theorem serveDrop_mode (s : State) (m : Mech) (inst : Nat) : (serveDrop s m inst).md.mode = s.md.mode := (rfl)
@[simp] theorem serveBegin_mode (s : State) (m : Mech) (inst code src idx sub : Nat) :
  (serveBegin s m inst code src idx sub).md.mode = s.md.mode := by unfold serveBegin; simp
@[simp] theorem servePass_mode (s : State) (m : Mech) (inst src idx sub : Nat) : (servePass s m inst src idx sub).md.mode = s.md.mode := by
  unfold servePass; split <;> simp
@[simp] theorem doubleFaultAs_mode (cls : Nat) (s : State) (m : Mech) (inst code src idx sub : Nat) :
  (doubleFaultAs cls s m inst code src idx sub).md.mode = s.md.mode := by unfold doubleFaultAs; simp
@[simp] theorem doubleFault_mode (s : State) (m : Mech) (inst code src idx sub : Nat) :
  (doubleFault s m inst code src idx sub).md.mode = s.md.mode := by unfold doubleFault; simp
@[simp] theorem serveCancel_mode (s : State) (m : Mech) (inst src idx sub : Nat) : (serveCancel s m inst src idx sub).md.mode = s.md.mode := by
  unfold serveCancel; split <;> simp
@[simp] theorem watch_mode (high : Bool) (s : State) (idx sub old v : Nat) : (watch high s idx sub old v).md.mode = s.md.mode := by unfold watch; simp
@[simp] theorem causeAdd_mode (s : State) (c inst : Nat) : (causeAdd s c inst).md.mode = s.md.mode := by unfold causeAdd; simp
@[simp] theorem causeEnd_mode (s : State) (c inst : Nat) : (causeEnd s c inst).md.mode = s.md.mode := by unfold causeEnd; simp
@[simp] theorem causeEndAll_mode (s : State) (p : Nat → Nat → Bool) : (causeEndAll s p).md.mode = s.md.mode := by unfold causeEndAll; simp

/-! ## Sheets -/

@[simp] theorem modSheet_mode (s : State) (uid : Nat) (f : Sheet → Sheet) : (modSheet s uid f).md.mode = s.md.mode := (rfl)
@[simp] theorem setSlots_mode (s : State) (l : Tab Event) : (setSlots s l).md.mode = s.md.mode := by unfold setSlots; simp
@[simp] theorem addEvent_mode (s : State) (lo hi : Nat) (e : Event) : (addEvent s lo hi e).md.mode = s.md.mode := by unfold addEvent; split <;> simp
@[simp] theorem dropEvents_mode (s : State) (p : Event → Bool) : (dropEvents s p).md.mode = s.md.mode := by unfold dropEvents; simp
@[simp] theorem writeEntry_mode (s : State) (t : Nat) (l : List Byte) : (writeEntry s t l).md.mode = s.md.mode := (rfl)
@[simp] theorem signalEntry_mode (s : State) (t : Nat) : (signalEntry s t).md.mode = s.md.mode := by unfold signalEntry; simp
@[simp] theorem writeSignal_mode (s : State) (t : Nat) (h : Held) : (writeSignal s t h).md.mode = s.md.mode := by unfold writeSignal; simp
@[simp] theorem deliver_mode (s : State) (t : Nat) (h : Held) : (deliver s t h).md.mode = s.md.mode := by unfold deliver; simp
@[simp] theorem flushHeld_mode (t a : Nat) (a1 : State) : (flushHeld t a a1).md.mode = a1.md.mode := by
  fun_induction flushHeld t a a1 <;> simp [*]
@[simp] theorem countOutcome_mode (s : State) (outcome : Nat) : (countOutcome s outcome).md.mode = s.md.mode := by unfold countOutcome; simp
@[simp] theorem completion_mode (s : State) (sh : Sheet) (outcome reason : Nat) (double : Bool) :
  (completion s sh outcome reason double).md.mode = s.md.mode := by unfold completion; simp
@[simp] theorem toScrubbing_mode (s : State) (t : Nat) : (toScrubbing s t).md.mode = s.md.mode := by unfold toScrubbing; simp
@[simp] theorem ghostCheck_mode (s : State) (t : Nat) : (ghostCheck s t).md.mode = s.md.mode := by unfold ghostCheck; simp
@[simp] theorem removeSheet_mode (s : State) (uid : Nat) : (removeSheet s uid).md.mode = s.md.mode := by unfold removeSheet; simp
@[simp] theorem enterWaiting_mode (s : State) : (enterWaiting s).md.mode = s.md.mode := by unfold enterWaiting; simp
@[simp] theorem finishSheet_mode (s : State) (sh : Sheet) : (finishSheet s sh).md.mode = s.md.mode := by unfold finishSheet; simp
@[simp] theorem overtaken_mode (s : State) (uid : Nat) : (overtaken s uid).md.mode = s.md.mode := (rfl)
@[simp] theorem spillSheet_mode (s : State) (uid : Nat) (st : Option Nat) : (spillSheet s uid st).md.mode = s.md.mode := (rfl)
@[simp] theorem spillWhere_mode (s : State) (p : Sheet → Bool) (st : Option Nat) : (spillWhere s p st).md.mode = s.md.mode := (rfl)
@[simp] theorem spillStation_mode (s : State) (st : Nat) : (spillStation s st).md.mode = s.md.mode := (rfl)
@[simp] theorem spillPath_mode (s : State) (b : Nat) : (spillPath s b).md.mode = s.md.mode := (rfl)
@[simp] theorem spoilAll_mode (s : State) : (spoilAll s).md.mode = s.md.mode := by unfold spoilAll; simp

/-! ## MotorOps -/

@[simp] theorem setMotorState_mode (s : State) (m v : Nat) : (setMotorState s m v).md.mode = s.md.mode := (rfl)
@[simp] theorem gatesOff_mode (s : State) (m : Nat) : (gatesOff s m).md.mode = s.md.mode := (rfl)
@[simp] theorem motorOff_mode (s : State) (m : Nat) : (motorOff s m).md.mode = s.md.mode := (rfl)
@[simp] theorem startRamp_mode (s : State) (m : Nat) (v : Int) (d : Nat) : (startRamp s m v d).md.mode = s.md.mode := (rfl)
@[simp] theorem spinUp_mode (s : State) (m : Nat) : (spinUp s m).md.mode = s.md.mode := by unfold spinUp; simp
@[simp] theorem unlock_mode (s : State) (m : Nat) : (unlock s m).md.mode = s.md.mode := by unfold unlock; simp
@[simp] theorem commandEntry_mode (s : State) (m k : Nat) : (commandEntry s m k).md.mode = s.md.mode := by unfold commandEntry; simp
@[simp] theorem brakeMotor_mode (s : State) (m : Nat) : (brakeMotor s m).md.mode = s.md.mode := by unfold brakeMotor; simp
@[simp] theorem rampStop_mode (s : State) (m : Nat) : (rampStop s m).md.mode = s.md.mode := by unfold rampStop; simp
@[simp] theorem shortLowSides_mode (s : State) (m : Nat) : (shortLowSides s m).md.mode = s.md.mode := (rfl)
@[simp] theorem driveGates_mode (s : State) (m : Nat) : (driveGates s m).md.mode = s.md.mode := by unfold driveGates; simp
@[simp] theorem motorFaultRecord_mode (s : State) (m code : Nat) : (motorFaultRecord s m code).md.mode = s.md.mode := by unfold motorFaultRecord; simp
@[simp] theorem motorReached_mode (s : State) (m : Nat) : (motorReached s m).md.mode = s.md.mode := by unfold motorReached; simp
@[simp] theorem beginRun_mode (s : State) (m : Nat) : (beginRun s m).md.mode = s.md.mode := (rfl)
@[simp] theorem restartMotor_mode (s : State) (m : Nat) : (restartMotor s m).md.mode = s.md.mode := by unfold restartMotor; simp

/-! ## AxisOps -/

@[simp] theorem setHomed_mode (s : State) (a : Nat) (b : Bool) : (setHomed s a b).md.mode = s.md.mode := (rfl)
@[simp] theorem settlePosition_mode (s : State) (a : Nat) (pos : Int) (steps : Nat) : (settlePosition s a pos steps).md.mode = s.md.mode := (rfl)
@[simp] theorem toStandstill_mode (s : State) (a : Nat) : (toStandstill s a).md.mode = s.md.mode := (rfl)
@[simp] theorem runMove_mode (s : State) (a : Nat) (m : Move) (wait : Nat) : (runMove s a m wait).md.mode = s.md.mode := (rfl)
@[simp] theorem noMove_mode (s : State) (a : Nat) : (noMove s a).md.mode = s.md.mode := (rfl)
@[simp] theorem startMove_mode (s : State) (a : Nat) (m : Move) : (startMove s a m).md.mode = s.md.mode := by unfold startMove; simp
@[simp] theorem startGroup_mode (s : State) (l : List (Nat × Move)) : (startGroup s l).md.mode = s.md.mode := by unfold startGroup; simp
@[simp] theorem groupMove_mode (s : State) (g r : Nat) : (groupMove s g r).md.mode = s.md.mode := by unfold groupMove; split <;> simp
@[simp] theorem moveOverrun_mode (s : State) (a : Nat) : (moveOverrun s a).md.mode = s.md.mode := by unfold moveOverrun; simp
@[simp] theorem fireMove_mode (s : State) (a r : Nat) : (fireMove s a r).1.md.mode = s.md.mode := by
  unfold fireMove; simp only; (repeat' split) <;> simp
@[simp] theorem endMove_mode (s : State) (a : Nat) : (endMove s a).md.mode = s.md.mode := by
  unfold endMove; simp only; (repeat' split) <;> simp
@[simp] theorem hardStop_mode (s : State) (a : Nat) : (hardStop s a).md.mode = s.md.mode := by
  unfold hardStop; simp only; (repeat' split) <;> simp
@[simp] theorem slowStop_mode (s : State) (a : Nat) (dec : Option Nat) : (slowStop s a dec).md.mode = s.md.mode := by
  unfold slowStop; simp only; (repeat' split) <;> simp
@[simp] theorem rampedStop_mode (s : State) (a : Nat) : (rampedStop s a).md.mode = s.md.mode := by unfold rampedStop; simp
@[simp] theorem stopAxis_mode (s : State) (a : Nat) (hard : Bool) : (stopAxis s a hard).md.mode = s.md.mode := by unfold stopAxis; simp
@[simp] theorem resumeAxis_mode (s : State) (a : Nat) : (resumeAxis s a).md.mode = s.md.mode := by unfold resumeAxis; simp
@[simp] theorem safestopAxis_mode (s : State) (a : Nat) : (safestopAxis s a).md.mode = s.md.mode := by unfold safestopAxis; simp
@[simp] theorem homingDone_mode (s : State) (a : Nat) : (homingDone s a).md.mode = s.md.mode := by unfold homingDone; simp
@[simp] theorem startHoming_mode (s : State) (a : Nat) : (startHoming s a).md.mode = s.md.mode := by unfold startHoming; simp
@[simp] theorem freeze_mode (s : State) (a : Nat) : (freeze s a).md.mode = s.md.mode := by unfold freeze; split <;> simp
@[simp] theorem homingBack_mode (s : State) (a : Nat) : (homingBack s a).md.mode = s.md.mode := by unfold homingBack; simp
@[simp] theorem homingOnward_mode (s : State) (a : Nat) : (homingOnward s a).md.mode = s.md.mode := (rfl)
@[simp] theorem restAxis_mode (s : State) (a : Nat) : (restAxis s a).md.mode = s.md.mode := by unfold restAxis; split <;> simp
@[simp] theorem homingLatched_mode (s : State) (a : Nat) : (homingLatched s a).md.mode = s.md.mode := by unfold homingLatched; split <;> simp
@[simp] theorem homingFail_mode (s : State) (a : Nat) : (homingFail s a).md.mode = s.md.mode := by unfold homingFail; simp
@[simp] theorem limitStop_mode (s : State) (a : Nat) : (limitStop s a).md.mode = s.md.mode := by unfold limitStop; simp
@[simp] theorem limitFault_mode (s : State) (a : Nat) : (limitFault s a).md.mode = s.md.mode := by unfold limitFault; simp
@[simp] theorem driverFaultRecord_mode (s : State) (a : Nat) : (driverFaultRecord s a).md.mode = s.md.mode := by unfold driverFaultRecord; simp
@[simp] theorem disableAxis_mode (s : State) (a : Nat) : (disableAxis s a).md.mode = s.md.mode := by unfold disableAxis; simp
@[simp] theorem takeStandstill_mode (s : State) (a : Nat) : (takeStandstill s a).md.mode = s.md.mode := (rfl)
@[simp] theorem enableAxis_mode (s : State) (a : Nat) : (enableAxis s a).md.mode = s.md.mode := (rfl)
@[simp] theorem retain_mode (s : State) (a : Nat) : (retain s a).md.mode = s.md.mode := by
  unfold retain; (repeat' split) <;> simp
@[simp] theorem wakeAxis_mode (s : State) (a : Nat) : (wakeAxis s a).md.mode = s.md.mode := by unfold wakeAxis; simp

/-! ## LoopOps -/

@[simp] theorem outputOff_mode (s : State) (n : Nat) : (outputOff s n).md.mode = s.md.mode := by unfold outputOff; simp
@[simp] theorem loopOffNow_mode (s : State) (n : Nat) : (loopOffNow s n).md.mode = s.md.mode := by unfold loopOffNow; simp
@[simp] theorem softStart_mode (s : State) (n : Nat) : (softStart s n).md.mode = s.md.mode := by unfold softStart; simp
@[simp] theorem loopRunning_mode (s : State) (n : Nat) : (loopRunning s n).md.mode = s.md.mode := by unfold loopRunning; simp
@[simp] theorem moveSp_mode (s : State) (n : Nat) : (moveSp s n).md.mode = s.md.mode := by unfold moveSp; simp
@[simp] theorem injectionTick_mode (s : State) : (injectionTick s).md.mode = s.md.mode := by unfold injectionTick; simp
@[simp] theorem sendOutput_mode (s : State) (n : Nat) : (sendOutput s n).md.mode = s.md.mode := by unfold sendOutput; simp
@[simp] theorem runLaw_mode (s : State) (n : Nat) (x : Int) : (runLaw s n x).1.md.mode = s.md.mode := (rfl)
@[simp] theorem output_mode (s : State) (n : Nat) : (output s n).md.mode = s.md.mode := by unfold output; simp
@[simp] theorem saturation_mode (s : State) (n : Nat) (d : Int) : (saturation s n d).1.md.mode = s.md.mode := (rfl)
@[simp] theorem oscillation_mode (s : State) (n : Nat) (x : Int) : (oscillation s n x).1.md.mode = s.md.mode := by unfold oscillation; simp
@[simp] theorem loopFault_mode (s : State) (n code : Nat) : (loopFault s n code).md.mode = s.md.mode := (rfl)
@[simp] theorem loopSpills_mode (s : State) (n : Nat) : (loopSpills s n).md.mode = s.md.mode := by unfold loopSpills; simp
@[simp] theorem loopRespond_mode (s : State) (n code : Nat) : (loopRespond s n code).1.md.mode = s.md.mode := by
  unfold loopRespond; simp only; (repeat' split) <;> simp
@[simp] theorem captureSample_mode (s : State) (n : Nat) (x y : Int) : (captureSample s n x y).md.mode = s.md.mode := by unfold captureSample; simp
@[simp] theorem captureTrigger_mode (s : State) (n : Nat) : (captureTrigger s n).md.mode = s.md.mode := by unfold captureTrigger; simp
@[simp] theorem loopBroken_mode (s : State) (n : Nat) : (loopBroken s n).md.mode = s.md.mode := by unfold loopBroken; simp
@[simp] theorem followMotor_mode (s : State) (n : Nat) : (followMotor s n).md.mode = s.md.mode := by unfold followMotor; simp
@[simp] theorem countEval_mode (s : State) (n : Nat) : (countEval s n).md.mode = s.md.mode := (rfl)
@[simp] theorem supervise_mode (s : State) (n : Nat) (x d : Int) : (supervise s n x d).1.md.mode = s.md.mode := by unfold supervise; simp
@[simp] theorem evalRunning_mode (s : State) (n : Nat) (x : Int) : (evalRunning s n x).1.md.mode = s.md.mode := by unfold evalRunning; simp
@[simp] theorem evalLoop_mode (s : State) (n : Nat) : (evalLoop s n).1.md.mode = s.md.mode := by unfold evalLoop; simp
@[simp] theorem loopCommandOff_mode (s : State) (n : Nat) : (loopCommandOff s n).md.mode = s.md.mode := by unfold loopCommandOff; simp
@[simp] theorem loopCommandOn_mode (s : State) (n : Nat) : (loopCommandOn s n).md.mode = s.md.mode := by unfold loopCommandOn; split <;> simp
@[simp] theorem loopRestartNow_mode (s : State) (n : Nat) : (loopRestartNow s n).md.mode = s.md.mode := by unfold loopRestartNow; simp
@[simp] theorem selectBank_mode (s : State) (n b : Nat) : (selectBank s n b).md.mode = s.md.mode := (rfl)
@[simp] theorem safestopLoop_mode (s : State) (n : Nat) : (safestopLoop s n).md.mode = s.md.mode := by unfold safestopLoop; simp
@[simp] theorem goodConversion_mode (s : State) (i v1 : Nat) : (goodConversion s i v1).md.mode = s.md.mode := by unfold goodConversion; simp
@[simp] theorem brokenConversion_mode (s : State) (i v1 : Nat) : (brokenConversion s i v1).md.mode = s.md.mode := (rfl)

/-! ## LinkOps -/

@[simp] theorem restLanes_mode (s : State) (n : Nat) : (restLanes s n).md.mode = s.md.mode := (rfl)
@[simp] theorem setLinkState_mode (s : State) (n v : Nat) : (setLinkState s n v).md.mode = s.md.mode := by unfold setLinkState; simp
@[simp] theorem queueBlocks_mode (s : State) (n : Nat) (l : List LinkBlock) : (queueBlocks s n l).md.mode = s.md.mode := by unfold queueBlocks; simp
@[simp] theorem sendControl_mode (s : State) (n : Nat) (l : List (List Byte)) : (sendControl s n l).md.mode = s.md.mode := by unfold sendControl; simp
@[simp] theorem sendLight_mode (s : State) (n beam kind t d : Nat) : (sendLight s n beam kind t d).md.mode = s.md.mode := by unfold sendLight; simp
@[simp] theorem releaseLights_mode (s : State) (n : Nat) : (releaseLights s n).md.mode = s.md.mode := by unfold releaseLights; simp
@[simp] theorem sendMultiframe_mode (s : State) (n : Nat) : (sendMultiframe s n).md.mode = s.md.mode := (rfl)
@[simp] theorem linkTick_mode (s : State) : (linkTick s).md.mode = s.md.mode := by unfold linkTick; simp
@[simp] theorem sendPixels_mode (s : State) (n seq : Nat) (words : List Nat) : (sendPixels s n seq words).md.mode = s.md.mode := by
  unfold sendPixels; simp
@[simp] theorem sendLspi_mode (s : State) (n : Nat) (l : List Nat) : (sendLspi s n l).md.mode = s.md.mode := (rfl)
@[simp] theorem linkBegin_mode (s : State) (n : Nat) (rep serve : Bool) : (linkBegin s n rep serve).md.mode = s.md.mode := by unfold linkBegin; simp
@[simp] theorem linkUp_mode (s : State) (n : Nat) (serve : Bool) : (linkUp s n serve).md.mode = s.md.mode := by unfold linkUp; simp
@[simp] theorem linkOff_mode (s : State) (n : Nat) : (linkOff s n).md.mode = s.md.mode := by unfold linkOff; simp
@[simp] theorem linkFail_mode (s : State) (n : Nat) : (linkFail s n).1.md.mode = s.md.mode := by unfold linkFail; simp
@[simp] theorem linkIsUp_mode (s : State) (n : Nat) : (linkIsUp s n).md.mode = s.md.mode := by unfold linkIsUp; simp
@[simp] theorem linkStepDone_mode (s : State) (n : Nat) (regs : List Nat) : (linkStepDone s n regs).1.md.mode = s.md.mode := by
  unfold linkStepDone; split <;> simp
@[simp] theorem linkHardFault_mode (s : State) (n status : Nat) : (linkHardFault s n status).1.md.mode = s.md.mode := by unfold linkHardFault; simp

/-! ## RasterOps -/

@[simp] theorem updateFreeboard_mode (s : State) (n : Nat) : (updateFreeboard s n).md.mode = s.md.mode := by unfold updateFreeboard; simp
@[simp] theorem setDecoder_mode (s : State) (n v : Nat) : (setDecoder s n v).md.mode = s.md.mode := (rfl)
@[simp] theorem refill_mode (s : State) (n : Nat) : (refill s n).md.mode = s.md.mode := by unfold refill; simp
@[simp] theorem startPlane_mode (s : State) (n : Nat) (sh : Sheet) : (startPlane s n sh).md.mode = s.md.mode := (rfl)
@[simp] theorem dropPlane_mode (s : State) (n state : Nat) : (dropPlane s n state).md.mode = s.md.mode := (rfl)
@[simp] theorem planeDone_mode (s : State) (n uid state : Nat) : (planeDone s n uid state).md.mode = s.md.mode := by unfold planeDone; simp
@[simp] theorem discardData_mode (s : State) (n uid : Nat) : (discardData s n uid).md.mode = s.md.mode := (rfl)
@[simp] theorem spillNow_mode (s : State) (n uid : Nat) : (spillNow s n uid).md.mode = s.md.mode := by unfold spillNow; simp
@[simp] theorem spillHere_mode (s : State) (n uid : Nat) : (spillHere s n uid).md.mode = s.md.mode := by unfold spillHere; simp
@[simp] theorem flagLines_mode (s : State) (n uid : Nat) : (flagLines s n uid).md.mode = s.md.mode := (rfl)
@[simp] theorem planeLost_mode (s : State) (n uid : Nat) : (planeLost s n uid).md.mode = s.md.mode := by unfold planeLost; simp
@[simp] theorem decodeError_mode (s : State) (n uid code : Nat) : (decodeError s n uid code).md.mode = s.md.mode := by unfold decodeError; simp
@[simp] theorem emptyFifo_mode (s : State) (n : Nat) : (emptyFifo s n).md.mode = s.md.mode := by unfold emptyFifo; simp
@[simp] theorem stopRaster_mode (s : State) (n : Nat) : (stopRaster s n).md.mode = s.md.mode := by unfold stopRaster; simp
@[simp] theorem forgetAt_mode (s : State) (uid n : Nat) : (forgetAt s uid n).md.mode = s.md.mode := by unfold forgetAt; simp
@[simp] theorem forgetRaster_mode (s : State) (uid : Nat) : (forgetRaster s uid).md.mode = s.md.mode := by unfold forgetRaster; simp
@[simp] theorem withdrawOne_mode (s : State) (uid : Nat) : (withdrawOne s uid).md.mode = s.md.mode := by unfold withdrawOne; simp
@[simp] theorem withdrawForced_mode (s : State) (uid : Nat) : (withdrawForced s uid).md.mode = s.md.mode := by
  unfold withdrawForced; refine (foldl_mode _ _ _ fun u x => ?_).trans ?_ <;> (repeat' split) <;> simp
@[simp] theorem withdrawAll_mode (s : State) : (withdrawAll s).md.mode = s.md.mode := by unfold withdrawAll; simp
@[simp] theorem cancelSheet_mode (s : State) (sh : Sheet) : (cancelSheet s sh).md.mode = s.md.mode := by unfold cancelSheet; simp

/-! ## ScanOps -/

@[simp] theorem phaseLost_mode (s : State) (k : Nat) : (phaseLost s k).md.mode = s.md.mode := by unfold phaseLost; simp
@[simp] theorem holdOff_mode (s : State) (k : Nat) : (holdOff s k).md.mode = s.md.mode := by unfold holdOff; simp
@[simp] theorem holdUnlit_mode (s : State) : (holdUnlit s).md.mode = s.md.mode := by unfold holdUnlit; simp
@[simp] theorem beginAcquire_mode (s : State) (k : Nat) : (beginAcquire s k).md.mode = s.md.mode := (rfl)
@[simp] theorem fillPeriods_mode (s : State) (k c : Nat) (edges : List Nat) : (fillPeriods s k c edges).md.mode = s.md.mode := by
  unfold fillPeriods; simp
@[simp] theorem collectEdge_mode (s : State) (k t : Nat) (edges : List Nat) : (collectEdge s k t edges).md.mode = s.md.mode := by
  unfold collectEdge; simp
@[simp] theorem trackerCount_mode (s : State) (k sub : Nat) : (trackerCount s k sub).md.mode = s.md.mode := (rfl)
@[simp] theorem windowEdge_mode (s : State) (k t : Nat) : (windowEdge s k t).1.md.mode = s.md.mode := by unfold windowEdge; split <;> simp
@[simp] theorem fixTooth_mode (s : State) (k : Nat) : (fixTooth s k).md.mode = s.md.mode := by unfold fixTooth; simp
@[simp] theorem writeTable_mode (s : State) (k sub : Nat) (l : List Nat) : (writeTable s k sub l).md.mode = s.md.mode := by unfold writeTable; simp
@[simp] theorem relabel_mode (s : State) (k r : Nat) : (relabel s k r).md.mode = s.md.mode := by unfold relabel; simp
@[simp] theorem identify_mode (s : State) (k : Nat) : (identify s k).md.mode = s.md.mode := by
  unfold identify; simp only; (repeat' split) <;> simp
@[simp] theorem lostSpills_mode (s : State) (k : Nat) : (lostSpills s k).md.mode = s.md.mode := by unfold lostSpills; simp
@[simp] theorem trackerLost_mode (s : State) (k : Nat) : (trackerLost s k).1.md.mode = s.md.mode := by unfold trackerLost; simp
@[simp] theorem polygonTracks_mode (s : State) (m : Nat) : (polygonTracks s m).md.mode = s.md.mode := by unfold polygonTracks; simp
@[simp] theorem phaseLock_mode (s : State) (m t : Nat) : (phaseLock s m t).md.mode = s.md.mode := by
  unfold phaseLock; (repeat' split) <;> simp
@[simp] theorem polygonTooth_mode (s : State) (m t per : Nat) (coast : Bool) : (polygonTooth s m t per coast).md.mode = s.md.mode := by
  unfold polygonTooth; simp
@[simp] theorem closeWindow_mode (s : State) (k : Nat) : (closeWindow s k).1.md.mode = s.md.mode := by
  unfold closeWindow; simp only; (repeat' split) <;> simp
@[simp] theorem bdWindow_mode (s : State) (n : Nat) : (bdWindow s n).md.mode = s.md.mode := by unfold bdWindow; simp
@[simp] theorem keepLit_mode (s : State) (n : Nat) : (keepLit s n).md.mode = s.md.mode := by unfold keepLit; simp
@[simp] theorem idleTick_mode (s : State) : (idleTick s).md.mode = s.md.mode := by unfold idleTick; simp
@[simp] theorem apcWindow_mode (s : State) (n t : Nat) : (apcWindow s n t).md.mode = s.md.mode := by unfold apcWindow; simp
@[simp] theorem keepScan_mode (s : State) (n : Nat) (c : Reading) : (keepScan s n c).md.mode = s.md.mode := by unfold keepScan; simp
@[simp] theorem showMeasurement_mode (s : State) (n : Nat) (l : List Reading) (mean skew : Int) :
  (showMeasurement s n l mean skew).md.mode = s.md.mode := (rfl)
@[simp] theorem keepPatch_mode (s : State) (n : Nat) (marks : List Chevron) : (keepPatch s n marks).md.mode = s.md.mode := by unfold keepPatch; simp
@[simp] theorem dropCorrections_mode (s : State) (n : Nat) : (dropCorrections s n).md.mode = s.md.mode := (rfl)
@[simp] theorem stageRegistration_mode (s : State) (n : Nat) : (stageRegistration s n).md.mode = s.md.mode := by unfold stageRegistration; simp
@[simp] theorem calibrationPattern_mode (s : State) (n : Nat) : (calibrationPattern s n).md.mode = s.md.mode := (rfl)
@[simp] theorem gapPattern_mode (s : State) (n at_ : Nat) : (gapPattern s n at_).md.mode = s.md.mode := (rfl)
@[simp] theorem storeSignature_mode (s : State) (n : Nat) : (storeSignature s n).md.mode = s.md.mode := by unfold storeSignature; simp

/-! ## PinOps -/

@[simp] theorem setExternal_mode (s : State) (p v : Nat) : (setExternal s p v).md.mode = s.md.mode := by unfold setExternal; simp
@[simp] theorem pinsToSleep_mode (s : State) : (pinsToSleep s).md.mode = s.md.mode := (rfl)
@[simp] theorem newConflict_mode (s : State) (c : Nat) : (newConflict s c).md.mode = s.md.mode := by unfold newConflict; simp
@[simp] theorem newSuppression_mode (s : State) (k : Nat) : (newSuppression s k).md.mode = s.md.mode := by unfold newSuppression; simp
@[simp] theorem claimsChanged_mode (s : State) : (claimsChanged s).md.mode = s.md.mode := by unfold claimsChanged; simp
@[simp] theorem pinSetValue_mode (s : State) (p v : Nat) : (pinSetValue s p v).md.mode = s.md.mode := by unfold pinSetValue; simp

/-! ## MemOps -/

@[simp] theorem followHeat_mode (s : State) : (followHeat s).md.mode = s.md.mode := by unfold followHeat; split <;> simp
@[simp] theorem watchBudget_mode (old s : State) : (watchBudget old s).md.mode = s.md.mode := by unfold watchBudget; simp
@[simp] theorem capacityFrom_mode (old s : State) : (capacityFrom old s).md.mode = s.md.mode := by unfold capacityFrom; simp
@[simp] theorem brokenInput_mode (s : State) (i : Nat) : (brokenInput s i).md.mode = s.md.mode := by unfold brokenInput; simp

/-! ## NetOps -/

@[simp] theorem putFrame_mode (s : State) (p : Nat) (o : Outgoing) : (putFrame s p o).md.mode = s.md.mode := by unfold putFrame; simp
@[simp] theorem sendFrame_mode (s : State) (p type dst : Nat) (payload : List Byte) : (sendFrame s p type dst payload).md.mode = s.md.mode := by
  unfold sendFrame; simp
@[simp] theorem broadcast_mode (s : State) (ports : List Nat) (type : Nat) (payload : List Byte) :
  (broadcast s ports type payload).md.mode = s.md.mode := by unfold broadcast; simp
@[simp] theorem modeFrames_mode (s : State) (new old : Mode) (cause : Nat) (awake : List Nat) :
  (modeFrames s new old cause awake).md.mode = s.md.mode := by unfold modeFrames; simp
@[simp] theorem setPartner_mode (s : State) (n v : Nat) : (setPartner s n v).md.mode = s.md.mode := (rfl)
@[simp] theorem lossResponse_mode (s : State) (n : Nat) : (lossResponse s n).1.md.mode = s.md.mode := by unfold lossResponse; split <;> simp
@[simp] theorem partnerTo_mode (s : State) (n v : Nat) : (partnerTo s n v).1.md.mode = s.md.mode := by unfold partnerTo; simp
@[simp] theorem cycleMaps_mode (s : State) : (cycleMaps s).md.mode = s.md.mode := (rfl)
@[simp] theorem debit_mode (s : State) (p n ns : Nat) : (debit s p n ns).md.mode = s.md.mode := by unfold debit; simp
@[simp] theorem creditCycle_mode (s : State) (p : Nat) : (creditCycle s p).md.mode = s.md.mode := (rfl)
@[simp] theorem sendOut_mode (s : State) (p : Nat) (o : Outgoing) : (sendOut s p o).md.mode = s.md.mode := by unfold sendOut; simp
@[simp] theorem setTx_mode (s : State) (p : Nat) (l : List Outgoing) : (setTx s p l).md.mode = s.md.mode := by unfold setTx; simp
@[simp] theorem setRx_mode (s : State) (p : Nat) (l : List (FrameSrc × Pdu)) : (setRx s p l).md.mode = s.md.mode := by unfold setRx; simp
@[simp] theorem queueOut_mode (s : State) (p : Nat) (o : Outgoing) : (queueOut s p o).md.mode = s.md.mode := by unfold queueOut; simp
@[simp] theorem sendAcyclic_mode (s : State) (p type dst : Nat) (payload : List Byte) (peer : Option (Nat × Nat)) :
  (sendAcyclic s p type dst payload peer).md.mode = s.md.mode := by unfold sendAcyclic; simp
@[simp] theorem drainTx_mode (s : State) (p : Nat) : (drainTx s p).md.mode = s.md.mode := by unfold drainTx; simp
@[simp] theorem startBlock_mode (s : State) (p j : Nat) : (startBlock s p j).md.mode = s.md.mode := by
  unfold startBlock; (repeat' split) <;> simp
@[simp] theorem poll_mode (s : State) (p n : Nat) : (poll s p n).md.mode = s.md.mode := by unfold poll; simp
@[simp] theorem pollIdle_mode (s : State) (p : Nat) : (pollIdle s p).md.mode = s.md.mode := by
  unfold pollIdle; (repeat' split) <;> simp
@[simp] theorem nextPoll_mode (s : State) (p : Nat) : (nextPoll s p).md.mode = s.md.mode := by unfold nextPoll; split <;> simp
@[simp] theorem restartPort_mode (s : State) (p : Nat) (enable : Bool) : (restartPort s p enable).md.mode = s.md.mode := by unfold restartPort; simp
@[simp] theorem pollFirst_mode (s : State) (n : Nat) : (pollFirst s n).md.mode = s.md.mode := by unfold pollFirst; simp
@[simp] theorem sendNotice_mode (s : State) (q : Nat × Nat × Nat) : (sendNotice s q).md.mode = s.md.mode := by unfold sendNotice; simp
@[simp] theorem sendNotices_mode (s : State) : (sendNotices s).md.mode = s.md.mode := by unfold sendNotices; simp
@[simp] theorem authDrop_mode (s : State) : (authDrop s).md.mode = s.md.mode := (rfl)
@[simp] theorem dropAcc_mode (s : State) (a : Accessor) : (dropAcc s a).md.mode = s.md.mode := (rfl)
@[simp] theorem releaseStager_mode (s : State) (a : Accessor) : (releaseStager s a).md.mode = s.md.mode := by unfold releaseStager; simp
@[simp] theorem endSession_mode (s : State) (id : Nat) : (endSession s id).md.mode = s.md.mode := by unfold endSession; simp

/-! ## TenantOps -/

@[simp] theorem aerError_mode (s : State) (fn : Nat) (e : IngestError) : (aerError s fn e).md.mode = s.md.mode := by unfold aerError; split <;> simp
@[simp] theorem moveBufHead_mode (s : State) (t : Nat) : (moveBufHead s t).md.mode = s.md.mode := by unfold moveBufHead; simp
@[simp] theorem bellError_mode (s : State) (t : Nat) : (bellError s t).md.mode = s.md.mode := by unfold bellError; simp
@[simp] theorem tailBell_mode (s : State) (t i : Nat) : (tailBell s t i).md.mode = s.md.mode := by unfold tailBell; simp
@[simp] theorem headBell_mode (s : State) (t i : Nat) : (headBell s t i).md.mode = s.md.mode := by unfold headBell; simp
@[simp] theorem cancelBell_mode (s : State) (t i : Nat) : (cancelBell s t i).md.mode = s.md.mode := by unfold cancelBell; simp
@[simp] theorem ringBell_mode (s : State) (t kind i : Nat) : (ringBell s t kind i).md.mode = s.md.mode := by unfold ringBell; simp
@[simp] theorem fetchBurst_mode (s : State) (t : Nat) : (fetchBurst s t).md.mode = s.md.mode := (rfl)
@[simp] theorem takeDescriptor_mode (s : State) (t : Nat) (d : List Byte) : (takeDescriptor s t d).md.mode = s.md.mode := by
  unfold takeDescriptor; simp
@[simp] theorem startFetch_mode (s : State) (t : Nat) : (startFetch s t).md.mode = s.md.mode := by unfold startFetch; split <;> simp
@[simp] theorem refreshCandidates_mode (s : State) : (refreshCandidates s).md.mode = s.md.mode := by unfold refreshCandidates; simp
@[simp] theorem advanceV_mode (s : State) (t lines : Nat) : (advanceV s t lines).md.mode = s.md.mode := by unfold advanceV; simp
@[simp] theorem clearRings_mode (s : State) (t : Nat) : (clearRings s t).md.mode = s.md.mode := (rfl)
@[simp] theorem resetComplete_mode (s : State) (t : Nat) : (resetComplete s t).md.mode = s.md.mode := by unfold resetComplete; simp
@[simp] theorem tenantReset_mode (s : State) (t cause : Nat) : (tenantReset s t cause).md.mode = s.md.mode := by unfold tenantReset; simp
@[simp] theorem resetAllTenants_mode (s : State) : (resetAllTenants s).md.mode = s.md.mode := by unfold resetAllTenants; simp
@[simp] theorem functionEnds_mode (s : State) (fn : Nat) : (functionEnds s fn).md.mode = s.md.mode := by unfold functionEnds; split <;> simp
@[simp] theorem enableTenant_mode (s : State) (t : Nat) : (enableTenant s t).md.mode = s.md.mode := (rfl)
@[simp] theorem scrubDone_mode (s : State) (t : Nat) : (scrubDone s t).md.mode = s.md.mode := by unfold scrubDone; simp
@[simp] theorem fenceViolation_mode (s : State) (t : Nat) : (fenceViolation s t).md.mode = s.md.mode := by unfold fenceViolation; simp

/-! ## Checks -/

@[simp] theorem merged_mode (s : State) (g : Nat) : (merged s g).md.mode = s.md.mode := (rfl)
@[simp] theorem dropStaged_mode (s : State) (g : Nat) : (dropStaged s g).md.mode = s.md.mode := (rfl)
@[simp] theorem copyGroup_mode (s : State) (g : Nat) : (copyGroup s g).md.mode = s.md.mode := (rfl)

/-! ## Modes -/

@[simp] theorem restoreBands_mode (s : State) (l : Tab Nat) : (restoreBands s l).md.mode = s.md.mode := (rfl)
@[simp] theorem rejectGroup_mode (s : State) (g : Nat) : (rejectGroup s g).md.mode = s.md.mode := by unfold rejectGroup; simp
@[simp] theorem setDlls_mode (s : State) (v : Nat) : (setDlls s v).md.mode = s.md.mode := by unfold setDlls; simp
@[simp] theorem closeGate_mode (s : State) : (closeGate s).md.mode = s.md.mode := by unfold closeGate; simp
@[simp] theorem relockAttempt_mode (s : State) : (relockAttempt s).md.mode = s.md.mode := (rfl)
@[simp] theorem startRelock_mode (s : State) (occ : Occasion) : (startRelock s occ).md.mode = s.md.mode := by unfold startRelock; simp
@[simp] theorem stopTimebase_mode (s : State) : (stopTimebase s).md.mode = s.md.mode := by unfold stopTimebase; simp
@[simp] theorem sayMode_mode (s : State) (ports : List Nat) : (sayMode s ports).md.mode = s.md.mode := by unfold sayMode; simp
@[simp] theorem loopModeOff_mode (s : State) (n : Nat) : (loopModeOff s n).md.mode = s.md.mode := by unfold loopModeOff; simp
@[simp] theorem loopModeOn_mode (s : State) (b n : Nat) : (loopModeOn s b n).md.mode = s.md.mode := by unfold loopModeOn; simp
@[simp] theorem rampMotors_mode (s : State) : (rampMotors s).md.mode = s.md.mode := by unfold rampMotors; simp
@[simp] theorem rampAxes_mode (s : State) : (rampAxes s).md.mode = s.md.mode := by unfold rampAxes; simp
@[simp] theorem rasterOff_mode (s : State) : (rasterOff s).md.mode = s.md.mode := by unfold rasterOff; simp
@[simp] theorem serviceOff_mode (s : State) : (serviceOff s).md.mode = s.md.mode := (rfl)
@[simp] theorem ringBells_mode (s : State) : (ringBells s).md.mode = s.md.mode := by unfold ringBells; simp
@[simp] theorem dozeRailsOn_mode (s : State) : (dozeRailsOn s).md.mode = s.md.mode := (rfl)
@[simp] theorem leaveDoze_mode (s : State) : (leaveDoze s).md.mode = s.md.mode := by unfold leaveDoze; simp
@[simp] theorem intoStandby_mode (s : State) (old : Mode) : (intoStandby s old).md.mode = s.md.mode := by unfold intoStandby; simp
@[simp] theorem intoWarmup_mode (s : State) : (intoWarmup s).md.mode = s.md.mode := by unfold intoWarmup; simp
@[simp] theorem intoDoze_mode (s : State) : (intoDoze s).md.mode = s.md.mode := by unfold intoDoze; simp
@[simp] theorem intoShutdown_mode (s : State) : (intoShutdown s).md.mode = s.md.mode := by unfold intoShutdown; simp
@[simp] theorem modeActions_mode (s : State) (old : Mode) : (modeActions s old).md.mode = s.md.mode := by unfold modeActions; split <;> simp
@[simp] theorem settlePending_mode (s : State) : (settlePending s).md.mode = s.md.mode := by unfold settlePending; split <;> simp
@[simp] theorem recordCause_mode (s : State) (cause : Nat) : (recordCause s cause).md.mode = s.md.mode := (rfl)
@[simp] theorem safestopMotor_mode (s : State) (m : Nat) : (safestopMotor s m).md.mode = s.md.mode := by unfold safestopMotor; simp
@[simp] theorem safestopAxisAll_mode (s : State) (a : Nat) : (safestopAxisAll s a).md.mode = s.md.mode := by unfold safestopAxisAll; simp
@[simp] theorem withdrawEvery_mode (s : State) : (withdrawEvery s).md.mode = s.md.mode := by unfold withdrawEvery; simp
@[simp] theorem dozeToSafestop_mode (s : State) : (dozeToSafestop s).md.mode = s.md.mode := by unfold dozeToSafestop; simp
@[simp] theorem beginWake_mode (s : State) (cause : Nat) : (beginWake s cause).md.mode = s.md.mode := by unfold beginWake; simp
@[simp] theorem setPending_mode (s : State) (p : Mode) : (setPending s p).md.mode = s.md.mode := by unfold setPending; simp
theorem done_mode (s : State) : ∃ w, done s = .next (settle w) ∧ w.md.mode = s.md.mode := by
  unfold done; exact ⟨_, rfl, by simp⟩

/-! ## FlashImage -/

@[simp] theorem putRail_mode (s : State) (r : Nat) (x : RailRow) : (putRail s r x).md.mode = s.md.mode := (rfl)
@[simp] theorem putTable_mode (s : State) (code retry pause : Nat) (l : List RailRow) : (putTable s code retry pause l).md.mode = s.md.mode := (rfl)

/-! ## Reset -/

@[simp] theorem programRecord_mode (s : State) (k : Nat) (l : List (List Byte)) (r : JRecord) : (programRecord s k l r).md.mode = s.md.mode := (rfl)
@[simp] theorem writeJournal_mode (s : State) (r : JRecord) : (writeJournal s r).md.mode = s.md.mode := by unfold writeJournal; simp
@[simp] theorem putReasons_mode (s : State) (l : List Nat) : (putReasons s l).md.mode = s.md.mode := (rfl)
@[simp] theorem clearFailures_mode (s : State) : (clearFailures s).md.mode = s.md.mode := by unfold clearFailures; simp
@[simp] theorem railOff_mode (s : State) (r st : Nat) : (railOff s r st).md.mode = s.md.mode := (rfl)
@[simp] theorem allRailsOff_mode (s : State) : (allRailsOff s).md.mode = s.md.mode := by unfold allRailsOff; simp
@[simp] theorem beginOff_mode (s : State) (why : OffReason) : (beginOff s why).md.mode = s.md.mode := (rfl)
@[simp] theorem discardAllStaged_mode (s : State) : (discardAllStaged s).md.mode = s.md.mode := by unfold discardAllStaged; simp
@[simp] theorem warmKept_mode (s : State) : (warmKept s).md.mode = s.md.mode := (rfl)
@[simp] theorem logStart_mode (s : State) : (logStart s).md.mode = s.md.mode := by unfold logStart; simp
@[simp] theorem keepIlock_mode (s : State) : (keepIlock s).md.mode = s.md.mode := by unfold keepIlock; simp
@[simp] theorem ringStart_mode (s : State) : (ringStart s).md.mode = s.md.mode := by
  unfold ringStart; simp only; (repeat' split) <;> simp
@[simp] theorem keepKickObjects_mode (old s : State) : (keepKickObjects old s).md.mode = s.md.mode := (rfl)
@[simp] theorem startOn_mode (s : State) (terp : Bool) : (startOn s terp).md.mode = s.md.mode := by unfold startOn; simp
@[simp] theorem strapDefaults_mode (s : State) : (strapDefaults s).md.mode = s.md.mode := by unfold strapDefaults; simp
@[simp] theorem debugStart_mode (s : State) : (debugStart s).md.mode = s.md.mode := by unfold debugStart; simp
@[simp] theorem failKickoff_mode (s : State) (reason detail : Nat) : (failKickoff s reason detail).md.mode = s.md.mode := by unfold failKickoff; simp
@[simp] theorem resumeMirror_mode (s : State) : (resumeMirror s).md.mode = s.md.mode := by unfold resumeMirror; simp
@[simp] theorem lateEntries_mode (s : State) : (lateEntries s).md.mode = s.md.mode := by unfold lateEntries; split <;> simp
@[simp] theorem passResets_mode (s : State) : (passResets s).md.mode = s.md.mode := by unfold passResets; simp

/-! ## Operands -/

@[simp] theorem setAcc_mode (s : State) (a : Accessor) (f : AccState → AccState) : (setAcc s a f).md.mode = s.md.mode := (rfl)

/-! ## Actions -/

@[simp] theorem speedNow_mode (s : State) (m k : Nat) (own : Bool) : (speedNow s m k own).md.mode = s.md.mode := by unfold speedNow; simp
@[simp] theorem hallSpeed_mode (s : State) (m : Nat) (back : Bool) (p : Nat) : (hallSpeed s m back p).md.mode = s.md.mode := by unfold hallSpeed; simp
@[simp] theorem countTurn_mode (s : State) (m : Nat) : (countTurn s m).md.mode = s.md.mode := by unfold countTurn; simp
@[simp] theorem enterSector_mode (s : State) (m code k t : Nat) (back : Bool) : (enterSector s m code k t back).md.mode = s.md.mode := by
  unfold enterSector; simp
@[simp] theorem deferAxis_mode (s : State) (a : Nat) (c : AxisDeferred) : (deferAxis s a c).md.mode = s.md.mode := by unfold deferAxis; split <;> simp
@[simp] theorem moveNow_mode (s : State) (a v : Nat) : (moveNow s a v).1.md.mode = s.md.mode := by
  unfold moveNow; (repeat' split) <;> simp
@[simp] theorem moveCommand_mode (s : State) (a v : Nat) : (moveCommand s a v).md.mode = s.md.mode := by unfold moveCommand; split <;> simp
@[simp] theorem stopCommand_mode (s : State) (a : Nat) (hard : Bool) : (stopCommand s a hard).md.mode = s.md.mode := by
  unfold stopCommand; split <;> simp
@[simp] theorem resumeCommand_mode (s : State) (a : Nat) : (resumeCommand s a).md.mode = s.md.mode := by unfold resumeCommand; split <;> simp
@[simp] theorem homeCommand_mode (s : State) (a : Nat) : (homeCommand s a).md.mode = s.md.mode := by unfold homeCommand; simp
@[simp] theorem fltInactive_mode (s : State) (a : Nat) : (fltInactive s a).md.mode = s.md.mode := by unfold fltInactive; simp
@[simp] theorem homingLimit_mode (s : State) (a : Nat) (positive : Bool) : (homingLimit s a positive).md.mode = s.md.mode := by
  unfold homingLimit; simp
@[simp] theorem limitActive_mode (s : State) (a : Nat) (positive : Bool) : (limitActive s a positive).md.mode = s.md.mode := by
  unfold limitActive; (repeat' split) <;> simp
@[simp] theorem conflictEnds_mode (s : State) (c : Nat) : (conflictEnds s c).md.mode = s.md.mode := by
  unfold conflictEnds; (repeat' split) <;> simp
@[simp] theorem injectionStart_mode (s : State) : (injectionStart s).md.mode = s.md.mode := (rfl)
@[simp] theorem injectionStop_mode (s : State) : (injectionStop s).md.mode = s.md.mode := (rfl)
@[simp] theorem captureArm_mode (s : State) : (captureArm s).md.mode = s.md.mode := (rfl)

/-! ## Fire -/

@[simp] theorem flagEvent_mode (s : State) (e : Event) : (flagEvent s e).md.mode = s.md.mode := by unfold flagEvent; simp
@[simp] theorem markFired_mode (s : State) (k : Nat) (e : Event) (late : Bool) : (markFired s k e late).md.mode = s.md.mode := by
  unfold markFired; split <;> simp
@[simp] theorem mistime_mode (s : State) (k old new : Nat) : (mistime s k old new).md.mode = s.md.mode := by
  unfold mistime; refine (foldl_mode _ _ _ fun u x => ?_).trans ?_ <;> (repeat' split) <;> simp
@[simp] theorem freeFired_mode (s : State) : (freeFired s).md.mode = s.md.mode := by unfold freeFired; simp
@[simp] theorem decideRoute_mode (s : State) (uid : Nat) : (decideRoute s uid).md.mode = s.md.mode := (rfl)
@[simp] theorem dropEvent_mode (s : State) (k : Nat) : (dropEvent s k).md.mode = s.md.mode := by unfold dropEvent; simp
@[simp] theorem missMedium_mode (s : State) (uid : Nat) (allHv : Bool) : (missMedium s uid allHv).md.mode = s.md.mode := by unfold missMedium; simp
@[simp] theorem dropped_mode (e : Event) (r : State × Bool) : (dropped e r).md.mode = r.1.md.mode := by unfold dropped; split <;> simp
@[simp] theorem actMove_mode (s : State) (e : Event) : (actMove s e).md.mode = s.md.mode := by unfold actMove; simp
@[simp] theorem actStop_mode (s : State) (e : Event) : (actStop s e).md.mode = s.md.mode := by unfold actStop; simp
@[simp] theorem actSpeed_mode (s : State) (e : Event) : (actSpeed s e).md.mode = s.md.mode := by unfold actSpeed; simp
@[simp] theorem actPin_mode (s : State) (e : Event) : (actPin s e).md.mode = s.md.mode := by unfold actPin; simp
@[simp] theorem actArrival_mode (s : State) (e : Event) (seen : Bool) : (actArrival s e seen).md.mode = s.md.mode := by
  unfold actArrival; split <;> simp
@[simp] theorem actBank_mode (s : State) (e : Event) : (actBank s e).md.mode = s.md.mode := by unfold actBank; simp
@[simp] theorem actLoopOn_mode (s : State) (e : Event) : (actLoopOn s e).md.mode = s.md.mode := by unfold actLoopOn; simp
@[simp] theorem actLoopOff_mode (s : State) (e : Event) : (actLoopOff s e).md.mode = s.md.mode := by unfold actLoopOff; simp
@[simp] theorem actExit_mode (s : State) (e : Event) : (actExit s e).md.mode = s.md.mode := by
  unfold actExit; (repeat' split) <;> simp
@[simp] theorem actMark_mode (s : State) (e : Event) : (actMark s e).md.mode = s.md.mode := by unfold actMark; simp
@[simp] theorem actCapture_mode (s : State) (e : Event) : (actCapture s e).md.mode = s.md.mode := by unfold actCapture; simp
@[simp] theorem act_mode (s : State) (e : Event) (seen : Bool) : (act s e seen).md.mode = s.md.mode := by unfold act; split <;> simp
@[simp] theorem fire_mode (s : State) (k : Nat) (e : Event) (late seen : Bool) : (fire s k e late seen).md.mode = s.md.mode := by
  unfold fire; (repeat' split) <;> simp
@[simp] theorem fireSlot_mode (s : State) (k code : Nat) (seen : Bool) : (fireSlot s k code seen).md.mode = s.md.mode := by
  unfold fireSlot; split <;> simp
@[simp] theorem enterEvent_mode (s : State) (k : Nat) (e : Event) : (enterEvent s k e).md.mode = s.md.mode := by
  unfold enterEvent; simp only; (repeat' split) <;> simp
@[simp] theorem resolveEvents_mode (s : State) (uid : Nat) : (resolveEvents s uid).md.mode = s.md.mode := by unfold resolveEvents; simp

/-! ## Apply -/

@[simp] theorem geometryTaken_mode (old s : State) (n : Nat) : (geometryTaken old s n).md.mode = s.md.mode := by unfold geometryTaken; simp
@[simp] theorem loopTaken_mode (old s : State) (n : Nat) : (loopTaken old s n).md.mode = s.md.mode := by unfold loopTaken; simp
@[simp] theorem armGroup_mode (s : State) (g : Nat) : (armGroup s g).md.mode = s.md.mode := (rfl)
@[simp] theorem refuseGroup_mode (s : State) (g : Nat) : (refuseGroup s g).md.mode = s.md.mode := (rfl)
@[simp] theorem discard_mode (s : State) (acc : Accessor) (g : Nat) : (discard s acc g).md.mode = s.md.mode := by unfold discard; simp
@[simp] theorem stageBy_mode (s : State) (acc : Accessor) (g : Nat) : (stageBy s acc g).md.mode = s.md.mode := by unfold stageBy; simp
@[simp] theorem stageNum_mode (s : State) (acc : Accessor) (idx sub v : Nat) : (stageNum s acc idx sub v).md.mode = s.md.mode := by
  unfold stageNum; simp
@[simp] theorem stageBlob_mode (s : State) (acc : Accessor) (idx sub : Nat) (l : List Byte) : (stageBlob s acc idx sub l).md.mode = s.md.mode := by
  unfold stageBlob; simp

/-! ## Write -/

@[simp] theorem store_mode (s : State) (idx sub v : Nat) : (store s idx sub v).md.mode = s.md.mode := by unfold store; simp
@[simp] theorem thresholdWrite_mode (s : State) (idx sub v : Nat) : (thresholdWrite s idx sub v).md.mode = s.md.mode := by
  unfold thresholdWrite; split <;> simp
@[simp] theorem lockWrite_mode (s : State) (acc : Accessor) (p v : Nat) : (lockWrite s acc p v).md.mode = s.md.mode := by unfold lockWrite; simp
@[simp] theorem breakLock_mode (s : State) (acc : Accessor) (idx sub : Nat) : (breakLock s acc idx sub).md.mode = s.md.mode := by
  unfold breakLock; simp
@[simp] theorem partnerHoldEnds_mode (s : State) (n : Nat) : (partnerHoldEnds s n).md.mode = s.md.mode := by unfold partnerHoldEnds; split <;> simp
@[simp] theorem endSlotSessions_mode (s : State) (slot : Nat) : (endSlotSessions s slot).md.mode = s.md.mode := by unfold endSlotSessions; simp
@[simp] theorem relockWrite_mode (s : State) : (relockWrite s).md.mode = s.md.mode := by unfold relockWrite; simp
@[simp] theorem serviceLight_mode (s : State) (n v : Nat) : (serviceLight s n v).md.mode = s.md.mode := by unfold serviceLight; simp
@[simp] theorem takeHeldLight_mode (s : State) (n : Nat) : (takeHeldLight s n).md.mode = s.md.mode := by unfold takeHeldLight; simp
@[simp] theorem postEvent_mode (s : State) (d : List Byte) : (postEvent s d).md.mode = s.md.mode := by unfold postEvent; split <;> simp
@[simp] theorem cancelTag_mode (s : State) (tag : Nat) : (cancelTag s tag).md.mode = s.md.mode := by unfold cancelTag; simp
@[simp] theorem effectHost_mode (s : State) (idx sub v : Nat) (d : List Byte) : (effectHost s idx sub v d).md.mode = s.md.mode := by
  unfold effectHost; simp only; (repeat' split) <;> simp
@[simp] theorem effectLoop_mode (s : State) (idx sub v : Nat) : (effectLoop s idx sub v).md.mode = s.md.mode := by
  unfold effectLoop; (repeat' split) <;> simp
@[simp] theorem readEffect_mode (s : State) (acc : Accessor) (idx sub : Nat) : (readEffect s acc idx sub).md.mode = s.md.mode := by
  unfold readEffect; (repeat' split) <;> simp
@[simp] theorem readDict_mode (acc : Accessor) (idx sub : Nat) (s : State) : (readDict acc idx sub s).1.md.mode = s.md.mode := by
  unfold readDict; simp
@[simp] theorem readCommand_mode (acc : Accessor) (idx sub : Nat) (s : State) : (readCommand acc idx sub s).md.mode = s.md.mode := by
  unfold readCommand; simp

/-! ## NetServe -/

@[simp] theorem setSession_mode (s : State) (id : Nat) (f : Session → Session) : (setSession s id f).md.mode = s.md.mode := (rfl)
@[simp] theorem authGate_mode (s : State) (x : FrameSrc) (u : Pdu) : (authGate s x u).1.md.mode = s.md.mode := by
  unfold authGate; (repeat' split) <;> simp
@[simp] theorem expireSession_mode (s : State) (x : FrameSrc) : (expireSession s x).md.mode = s.md.mode := by unfold expireSession; split <;> simp
@[simp] theorem sendSigned_mode (s : State) (x : FrameSrc) (y : Session) (type : Nat) (payload : List Byte) :
  (sendSigned s x y type payload).md.mode = s.md.mode := by unfold sendSigned; simp
@[simp] theorem sendTo_mode (s : State) (x : FrameSrc) (type : Nat) (payload : List Byte) : (sendTo s x type payload).md.mode = s.md.mode := by
  unfold sendTo; (repeat' split) <;> simp
@[simp] theorem rollcallState_mode (s : State) : (rollcallState s).md.mode = s.md.mode := by unfold rollcallState; simp
@[simp] theorem afterBlock_mode (s : State) (p : Nat) : (afterBlock s p).md.mode = s.md.mode := by unfold afterBlock; simp
@[simp] theorem startRollcall_mode (s : State) : (startRollcall s).md.mode = s.md.mode := by unfold startRollcall; simp
@[simp] theorem dropTransfer_mode (s : State) (x : FrameSrc) (tid : Nat) (own : Bool) : (dropTransfer s x tid own).md.mode = s.md.mode := (rfl)
@[simp] theorem keepTransfer_mode (s : State) (f : Transfer) : (keepTransfer s f).md.mode = s.md.mode := (rfl)
@[simp] theorem sendSegment_mode (s : State) (f : Transfer) (k : Nat) : (sendSegment s f k).md.mode = s.md.mode := by unfold sendSegment; simp
@[simp] theorem sendBlock_mode (s : State) (f : Transfer) (k : Nat) : (sendBlock s f k).md.mode = s.md.mode := by unfold sendBlock; simp
@[simp] theorem answer_mode (s : State) (x : FrameSrc) (tid : Nat) (req : Pdu) (type : Nat) (payload : List Byte) :
  (answer s x tid req type payload).md.mode = s.md.mode := by unfold answer; simp
@[simp] theorem countServed_mode (s : State) (a : Accessor) : (countServed s a).md.mode = s.md.mode := by unfold countServed; split <;> simp
@[simp] theorem serveRead_mode (s : State) (x : FrameSrc) (tid idx sub : Nat) (req : Pdu) : (serveRead s x tid idx sub req).md.mode = s.md.mode := by
  unfold serveRead; simp
@[simp] theorem serveWriteSeg_mode (s : State) (x : FrameSrc) (tid idx sub total : Nat) (req : Pdu) :
  (serveWriteSeg s x tid idx sub total req).md.mode = s.md.mode := by unfold serveWriteSeg; simp
@[simp] theorem finishTaking.serveDropOwn_mode (t : State) (f : Transfer) : (finishTaking.serveDropOwn t f).md.mode = t.md.mode := by
  unfold finishTaking.serveDropOwn; simp
@[simp] theorem lateAnswer_mode (s : State) (x : FrameSrc) : (lateAnswer s x).md.mode = s.md.mode := (rfl)
@[simp] theorem serveAck_mode (s : State) (x : FrameSrc) (tid seq : Nat) : (serveAck s x tid seq).md.mode = s.md.mode := by
  unfold serveAck; split <;> simp
@[simp] theorem serveAbort_mode (s : State) (x : FrameSrc) (tid : Nat) : (serveAbort s x tid).md.mode = s.md.mode := (rfl)
@[simp] theorem serveReadResponse_mode (s : State) (x : FrameSrc) (tid status : Nat) (d : List Byte) :
  (serveReadResponse s x tid status d).md.mode = s.md.mode := by unfold serveReadResponse; split <;> simp
@[simp] theorem serveWriteResponse_mode (s : State) (x : FrameSrc) (tid status : Nat) : (serveWriteResponse s x tid status).md.mode = s.md.mode := by
  unfold serveWriteResponse; split <;> simp
@[simp] theorem rememberAnswer_mode (s : State) (p n : Nat) : (rememberAnswer s p n).md.mode = s.md.mode := by unfold rememberAnswer; simp
@[simp] theorem pollOver_mode (s : State) (p : Nat) : (pollOver s p).md.mode = s.md.mode := by unfold pollOver; simp
@[simp] theorem serveClose_mode (s : State) (x : FrameSrc) : (serveClose s x).md.mode = s.md.mode := by unfold serveClose; split <;> simp
@[simp] theorem serveHello_mode (s : State) (x : FrameSrc) (slot : Nat) (nonce : List Byte) : (serveHello s x slot nonce).md.mode = s.md.mode := by
  unfold serveHello; split <;> simp
@[simp] theorem heard_mode (s : State) (x : FrameSrc) (answer : Bool) : (heard s x answer).md.mode = s.md.mode := by unfold heard; simp
@[simp] theorem debitReceived_mode (s : State) (x : FrameSrc) (u : Pdu) : (debitReceived s x u).md.mode = s.md.mode := by unfold debitReceived; simp
@[simp] theorem acknowledgeCan_mode (s : State) (p : Nat) : (acknowledgeCan s p).md.mode = s.md.mode := by unfold acknowledgeCan; simp
@[simp] theorem discardFrame_mode (s : State) (p : Nat) : (discardFrame s p).md.mode = s.md.mode := by unfold discardFrame; simp

/-! ## Dictionary -/

theorem execWatermarkLatchRead_mode (acc : Accessor) (idx sub : Nat) (s : State) :
  ∃ w, execWatermarkLatchRead acc idx sub s = .next (settle w) ∧ w.md.mode = s.md.mode := by
  unfold execWatermarkLatchRead; exact ⟨_, rfl, by simp⟩
theorem execReadToClear_mode (acc : Accessor) (idx sub : Nat) (s : State) :
  ∃ w, execReadToClear acc idx sub s = .next (settle w) ∧ w.md.mode = s.md.mode := by
  unfold execReadToClear; exact ⟨_, rfl, by simp⟩
theorem execAnonymousAccessorTimeout_mode (ip port : Nat) (s : State) :
  ∃ w, execAnonymousAccessorTimeout ip port s = .next (settle w) ∧ w.md.mode = s.md.mode := by
  unfold execAnonymousAccessorTimeout; exact ⟨_, rfl, by simp⟩
theorem execPatronHeartbeat_mode (s : State) : ∃ w, execPatronHeartbeat s = .next (settle w) ∧ w.md.mode = s.md.mode := by
  unfold execPatronHeartbeat; (repeat' split) <;> exact ⟨_, rfl, by simp⟩
theorem execLogRead_mode (acc : Accessor) (s : State) : ∃ w, execLogRead acc s = .next (settle w) ∧ w.md.mode = s.md.mode := by
  unfold execLogRead; exact ⟨_, rfl, by simp⟩
theorem execNoticeRead_mode (acc : Accessor) (s : State) : ∃ w, execNoticeRead acc s = .next (settle w) ∧ w.md.mode = s.md.mode := by
  unfold execNoticeRead; exact ⟨_, rfl, by simp⟩

/-! ## Scheduler -/

@[simp] theorem commitSheet_mode (s : State) (uid : Nat) : (commitSheet s uid).md.mode = s.md.mode := by unfold commitSheet; split <;> simp
@[simp] theorem beginImage_mode (s : State) (st uid tooth : Nat) : (beginImage s st uid tooth).md.mode = s.md.mode := (rfl)
@[simp] theorem fireImage_mode (s : State) (k : Nat) (e : Event) (uid : Nat) (d : Due) : (fireImage s k e uid d).md.mode = s.md.mode := by
  unfold fireImage; simp only; (repeat' split) <;> simp
@[simp] theorem lateImage_mode (s : State) (k : Nat) (e : Event) (sh : Sheet) : (lateImage s k e sh).md.mode = s.md.mode := by unfold lateImage; simp
theorem execImage_mode (slot : Fin 640) (late : Bool) (s : State) : ∃ w, execImage slot late s = .next (settle w) ∧ w.md.mode = s.md.mode := by
  unfold execImage; (repeat' split) <;> exact ⟨_, rfl, by simp⟩
theorem execAxisMove_mode (slot : Fin 1024) (s : State) : ∃ w, execAxisMove slot s = .next (settle w) ∧ w.md.mode = s.md.mode := by
  unfold execAxisMove; exact ⟨_, rfl, by simp⟩
theorem execAxisRampedStop_mode (slot : Fin 1024) (s : State) : ∃ w, execAxisRampedStop slot s = .next (settle w) ∧ w.md.mode = s.md.mode := by
  unfold execAxisRampedStop; exact ⟨_, rfl, by simp⟩
theorem execMotorSpeed_mode (slot : Fin 1024) (s : State) : ∃ w, execMotorSpeed slot s = .next (settle w) ∧ w.md.mode = s.md.mode := by
  unfold execMotorSpeed; exact ⟨_, rfl, by simp⟩
theorem execPinSet_mode (slot : Fin 1024) (s : State) : ∃ w, execPinSet slot s = .next (settle w) ∧ w.md.mode = s.md.mode := by
  unfold execPinSet; exact ⟨_, rfl, by simp⟩
theorem execArrivalCheck_mode (slot : Fin 1024) (levels : List (Nat × Bool)) (s : State) :
  ∃ w, execArrivalCheck slot levels s = .next (settle w) ∧ w.md.mode = s.md.mode := by
  unfold execArrivalCheck; exact ⟨_, rfl, by simp⟩
theorem execLoopSetPointBank_mode (slot : Fin 1024) (s : State) : ∃ w, execLoopSetPointBank slot s = .next (settle w) ∧ w.md.mode = s.md.mode := by
  unfold execLoopSetPointBank; exact ⟨_, rfl, by simp⟩
theorem execLoopOn_mode (slot : Fin 1024) (s : State) : ∃ w, execLoopOn slot s = .next (settle w) ∧ w.md.mode = s.md.mode := by
  unfold execLoopOn; exact ⟨_, rfl, by simp⟩
theorem execLoopOff_mode (slot : Fin 1024) (s : State) : ∃ w, execLoopOff slot s = .next (settle w) ∧ w.md.mode = s.md.mode := by
  unfold execLoopOff; exact ⟨_, rfl, by simp⟩
theorem execSheetExit_mode (slot : Fin 1024) (s : State) : ∃ w, execSheetExit slot s = .next (settle w) ∧ w.md.mode = s.md.mode := by
  unfold execSheetExit; exact ⟨_, rfl, by simp⟩
theorem execLogMark_mode (slot : Fin 1024) (s : State) : ∃ w, execLogMark slot s = .next (settle w) ∧ w.md.mode = s.md.mode := by
  unfold execLogMark; exact ⟨_, rfl, by simp⟩
theorem execCaptureTrigger_mode (slot : Fin 1024) (s : State) : ∃ w, execCaptureTrigger slot s = .next (settle w) ∧ w.md.mode = s.md.mode := by
  unfold execCaptureTrigger; exact ⟨_, rfl, by simp⟩
@[simp] theorem takeEdge_mode (s : State) (k t : Nat) : (takeEdge s k t).md.mode = s.md.mode := by unfold takeEdge; split <;> simp
@[simp] theorem releaseHold_mode (s : State) : (releaseHold s).md.mode = s.md.mode := by unfold releaseHold; simp
@[simp] theorem afterBdWindow_mode (s : State) (n : Nat) : (afterBdWindow s n).md.mode = s.md.mode := by unfold afterBdWindow; simp

/-! ## Dram -/

@[simp] theorem beatCorrected_mode (s : State) (r : DramReader) (addr : Nat) : (beatCorrected s r addr).md.mode = s.md.mode := by
  unfold beatCorrected; split <;> simp
@[simp] theorem beatUsed_mode (s : State) (r : DramReader) (addr : Nat) (e : Ecc) : (beatUsed s r addr e).md.mode = s.md.mode := by
  unfold beatUsed; simp
@[simp] theorem inputWord_mode (s : State) (st : Fin 6) (w : InputWord) : (inputWord s st w).1.md.mode = s.md.mode := by
  unfold inputWord; split <;> simp
@[simp] theorem inputWords_mode (st : Fin 6) (a : List InputWord) (a1 : State) : (inputWords st a a1).1.md.mode = a1.md.mode := by
  fun_induction inputWords st a a1 <;> simp +zetaDelta [*]
@[simp] theorem fifoWord_mode (s : State) (n : Nat) (w : FifoWord) : (fifoWord s n w).1.md.mode = s.md.mode := by unfold fifoWord; split <;> simp
@[simp] theorem readWords_mode (n : Nat) (a : List FifoWord) (a1 : State) : (readWords n a a1).1.md.mode = a1.md.mode := by
  fun_induction readWords n a a1 <;> simp +zetaDelta [*]

/-! ## Raster -/

theorem execDecoderPlaneStart_mode (st : Fin 6) (s : State) : ∃ w, execDecoderPlaneStart st s = .next (settle w) ∧ w.md.mode = s.md.mode := by
  unfold execDecoderPlaneStart; (repeat' split) <;> exact ⟨_, rfl, by simp⟩
@[simp] theorem bandLinesIn_mode (s : State) (n uid : Nat) (b : Band) : (bandLinesIn s n uid b).md.mode = s.md.mode := (rfl)
@[simp] theorem decodeNext_mode (s : State) (n : Nat) (sh : Sheet) : (decodeNext s n sh).md.mode = s.md.mode := by unfold decodeNext; simp
@[simp] theorem pointerFault_mode (s : State) (n : Nat) : (pointerFault s n).md.mode = s.md.mode := by
  unfold pointerFault; simp only; (repeat' split) <;> simp
@[simp] theorem beginScan_mode (s : State) (n uid : Nat) (g : ScanForm) : (beginScan s n uid g).md.mode = s.md.mode := by unfold beginScan; simp
@[simp] theorem startScan_mode (s : State) (n : Nat) (sh : Sheet) (d held : Nat) (words : List FifoWord) :
  (startScan s n sh d held words).md.mode = s.md.mode := by unfold startScan; simp
@[simp] theorem atScanBoundary_mode (s : State) (n uid : Nat) : (atScanBoundary s n uid).md.mode = s.md.mode := by
  unfold atScanBoundary; split <;> simp
theorem execScanStart_mode (st : Fin 6) (lastLineBytes inputHeld : Nat) (words : List FifoWord) (s : State) :
  ∃ w, execScanStart st lastLineBytes inputHeld words s = .next (settle w) ∧ w.md.mode = s.md.mode := by
  unfold execScanStart; simp only; (repeat' split) <;> exact ⟨_, rfl, by simp⟩
theorem execScanUnderrun_mode (st : Fin 6) (pixel : Nat) (s : State) :
  ∃ w, execScanUnderrun st pixel s = .next (settle w) ∧ w.md.mode = s.md.mode := by
  unfold execScanUnderrun; simp only; (repeat' split) <;> exact ⟨_, rfl, by simp⟩
@[simp] theorem sendScan_mode (s : State) (n : Nat) (c : Scan) : (sendScan s n c).md.mode = s.md.mode := by unfold sendScan; simp
theorem execScanEnd_mode (st : Fin 6) (s : State) : ∃ w, execScanEnd st s = .next (settle w) ∧ w.md.mode = s.md.mode := by
  unfold execScanEnd; simp only; (repeat' split) <;> exact ⟨_, rfl, by simp⟩

/-! ## ModeCommands -/

@[simp] theorem endAlign_mode (s : State) (a : Nat) : (endAlign s a).md.mode = s.md.mode := by unfold endAlign; simp
@[simp] theorem wakeAxes_mode (s : State) (index : Nat) : (wakeAxes s index).md.mode = s.md.mode := by unfold wakeAxes; simp

/-! ## Memory -/

theorem execPatrolOverdue_mode (s : State) : ∃ w, execPatrolOverdue s = .next (settle w) ∧ w.md.mode = s.md.mode := by
  unfold execPatrolOverdue; (repeat' split) <;> exact ⟨_, rfl, by simp⟩
@[simp] theorem admissionFail_mode (s : State) (reason : Nat) : (admissionFail s reason).md.mode = s.md.mode := (rfl)
@[simp] theorem gapPatch_mode (s : State) (a : Sheet) : (gapPatch s a).md.mode = s.md.mode := by unfold gapPatch; split <;> simp
@[simp] theorem admitSheet_mode (s : State) (sh : Sheet) (p : Plan) : (admitSheet s sh p).md.mode = s.md.mode := by unfold admitSheet; simp
@[simp] theorem admissionTest_mode (s : State) (sh : Sheet) : (admissionTest s sh).md.mode = s.md.mode := by unfold admissionTest; simp
theorem execAdmissionPass_mode (s : State) : ∃ w, execAdmissionPass s = .next (settle w) ∧ w.md.mode = s.md.mode := by
  unfold execAdmissionPass; simp only; (repeat' split) <;> exact ⟨_, rfl, by simp⟩

/-! ## Clocks -/

@[simp] theorem relockLink_mode (s : State) (n : Nat) : (relockLink s n).md.mode = s.md.mode := by unfold relockLink; split <;> simp
@[simp] theorem endRelock_mode (s : State) : (endRelock s).md.mode = s.md.mode := by unfold endRelock; split <;> simp
@[simp] theorem relockDone_mode (s : State) : (relockDone s).md.mode = s.md.mode := by unfold relockDone; simp
@[simp] theorem relockKickoff_mode (s : State) : (relockKickoff s).md.mode = s.md.mode := by unfold relockKickoff; simp
@[simp] theorem relockAgain_mode (s : State) (r : Relock) (n : Nat) : (relockAgain s r n).md.mode = s.md.mode := (rfl)
theorem execRelockLockDetect_mode (s : State) : ∃ w, execRelockLockDetect s = .next (settle w) ∧ w.md.mode = s.md.mode := by
  unfold execRelockLockDetect; (repeat' split) <;> exact ⟨_, rfl, by simp⟩
@[simp] theorem openGate_mode (s : State) : (openGate s).md.mode = s.md.mode := by unfold openGate; simp
theorem execStationDllLocked_mode (st : Fin 6) (s : State) : ∃ w, execStationDllLocked st s = .next (settle w) ∧ w.md.mode = s.md.mode := by
  unfold execStationDllLocked; (repeat' split) <;> exact ⟨_, rfl, by simp⟩

/-! ## Link -/

@[simp] theorem softFlags_mode (s : State) (n : Nat) : (softFlags s n).md.mode = s.md.mode := by
  unfold softFlags; (repeat' split) <;> simp
@[simp] theorem safetyEvent_mode (s : State) (kind : Nat) : (safetyEvent s kind).md.mode = s.md.mode := by unfold safetyEvent; simp
@[simp] theorem interlockPath_mode (s : State) : (interlockPath s).md.mode = s.md.mode := by unfold interlockPath; simp
theorem execIlockClose_mode (s : State) : ∃ w, execIlockClose s = .next (settle w) ∧ w.md.mode = s.md.mode := by
  unfold execIlockClose; exact ⟨_, rfl, by simp⟩
theorem execIlockClosedHoldEnd_mode (s : State) : ∃ w, execIlockClosedHoldEnd s = .next (settle w) ∧ w.md.mode = s.md.mode := by
  unfold execIlockClosedHoldEnd; (repeat' split) <;> exact ⟨_, rfl, by simp⟩

/-! ## Umpire -/

@[simp] theorem umpireOutputs_mode (s : State) : (umpireOutputs s).md.mode = s.md.mode := by unfold umpireOutputs; simp
@[simp] theorem superviseServe_mode (s : State) (kind : Nat) : (superviseServe s kind).md.mode = s.md.mode := (rfl)
theorem execSafeNMismatchEnd_mode (s : State) : ∃ w, execSafeNMismatchEnd s = .next (settle w) ∧ w.md.mode = s.md.mode := by
  unfold execSafeNMismatchEnd; exact ⟨_, rfl, by simp⟩
theorem execMirrorErase_mode (s : State) : ∃ w, execMirrorErase s = .next (settle w) ∧ w.md.mode = s.md.mode := by
  unfold execMirrorErase; (repeat' split) <;> exact ⟨_, rfl, by simp⟩
@[simp] theorem sensorCheck_mode (l : List Int) (s : State) (k : Nat) : (sensorCheck l s k).md.mode = s.md.mode := by unfold sensorCheck; simp
@[simp] theorem countHeat_mode (s : State) : (countHeat s).md.mode = s.md.mode := (rfl)
@[simp] theorem storeTj_mode (s : State) (l : List Int) (v : Int) : (storeTj s l v).md.mode = s.md.mode := (rfl)
@[simp] theorem slowAdmission_mode (s : State) (v : Int) : (slowAdmission s v).md.mode = s.md.mode := (rfl)

/-! ## Network -/

theorem execNonTdpFrame_mode (p : Fin 4) (s : State) : ∃ w, execNonTdpFrame p s = .next (settle w) ∧ w.md.mode = s.md.mode := by
  unfold execNonTdpFrame; (repeat' split) <;> exact ⟨_, rfl, by simp⟩
theorem execInvalidTdpFrame_mode (p : Fin 7) (badAuth : Bool) (s : State) :
  ∃ w, execInvalidTdpFrame p badAuth s = .next (settle w) ∧ w.md.mode = s.md.mode := by
  unfold execInvalidTdpFrame; (repeat' split) <;> exact ⟨_, rfl, by simp⟩
@[simp] theorem repeatFrame_mode (s : State) (f : Transfer) : (repeatFrame s f).md.mode = s.md.mode := by unfold repeatFrame; simp
theorem execLowerRetryExpiry_mode (n : Fin 2048) (tid : Nat) (s : State) :
  ∃ w, execLowerRetryExpiry n tid s = .next (settle w) ∧ w.md.mode = s.md.mode := by
  unfold execLowerRetryExpiry; (repeat' split) <;> exact ⟨_, rfl, by simp⟩
theorem execUpperTimeout_mode (n : Fin 2048) (tid : Nat) (s : State) : ∃ w, execUpperTimeout n tid s = .next (settle w) ∧ w.md.mode = s.md.mode := by
  unfold execUpperTimeout; (repeat' split) <;> exact ⟨_, rfl, by simp⟩
theorem execPartnerIdleTimeout_mode (n : Fin 2048) (s : State) : ∃ w, execPartnerIdleTimeout n s = .next (settle w) ∧ w.md.mode = s.md.mode := by
  unfold execPartnerIdleTimeout; simp only; (repeat' split) <;> exact ⟨_, rfl, by simp⟩
theorem execSessionTimeout_mode (id : Nat) (s : State) : ∃ w, execSessionTimeout id s = .next (settle w) ∧ w.md.mode = s.md.mode := by
  unfold execSessionTimeout; (repeat' split) <;> exact ⟨_, rfl, by simp⟩
theorem execBusOffRecoveryComplete_mode (p : Fin 4) (s : State) : ∃ w, execBusOffRecoveryComplete p s = .next (settle w) ∧ w.md.mode = s.md.mode := by
  unfold execBusOffRecoveryComplete; (repeat' split) <;> exact ⟨_, rfl, by simp⟩
theorem execRollcallBlockEnd_mode (p : Fin 7) (s : State) : ∃ w, execRollcallBlockEnd p s = .next (settle w) ∧ w.md.mode = s.md.mode := by
  unfold execRollcallBlockEnd; (repeat' split) <;> exact ⟨_, rfl, by simp⟩
@[simp] theorem sendSync_mode (s : State) (p : Nat) : (sendSync s p).md.mode = s.md.mode := by unfold sendSync; simp
@[simp] theorem sendMap_mode (s : State) (m : Nat) : (sendMap s m).md.mode = s.md.mode := by unfold sendMap; simp
@[simp] theorem cyclicPhase_mode (s : State) : (cyclicPhase s).md.mode = s.md.mode := by unfold cyclicPhase; simp
@[simp] theorem pollAbsent_mode (s : State) (p : Nat) : (pollAbsent s p).md.mode = s.md.mode := by
  unfold pollAbsent; (repeat' split) <;> simp
theorem execArpRequest_mode (senderIp senderMac targetIp : Nat) (s : State) :
  ∃ w, execArpRequest senderIp senderMac targetIp s = .next (settle w) ∧ w.md.mode = s.md.mode := by
  unfold execArpRequest; (repeat' split) <;> exact ⟨_, rfl, by simp⟩
theorem execIcmpEchoRequest_mode (senderIp : Nat) (payload : List Byte) (s : State) :
  ∃ w, execIcmpEchoRequest senderIp payload s = .next (settle w) ∧ w.md.mode = s.md.mode := by
  unfold execIcmpEchoRequest; (repeat' split) <;> exact ⟨_, rfl, by simp⟩

/-! ## Rails -/

@[simp] theorem endOn_mode (s : State) (passed : Bool) : (endOn s passed).md.mode = s.md.mode := by unfold endOn; simp
theorem execRailEnable_mode (r : Fin 16) (s : State) : ∃ w, execRailEnable r s = .next (settle w) ∧ w.md.mode = s.md.mode := by
  unfold execRailEnable; simp only; (repeat' split) <;> exact ⟨_, rfl, by simp⟩
@[simp] theorem putReading_mode (s : State) (r v : Nat) : (putReading s r v).md.mode = s.md.mode := by unfold putReading; simp
theorem execRailGood_mode (r : Fin 16) (v : RailSamples) (s : State) : ∃ w, execRailGood r v s = .next (settle w) ∧ w.md.mode = s.md.mode := by
  unfold execRailGood; simp only; (repeat' split) <;> exact ⟨_, rfl, by simp⟩
@[simp] theorem recordFault_mode (s : State) (r kind : Nat) : (recordFault s r kind).md.mode = s.md.mode := by unfold recordFault; simp
@[simp] theorem offOver_mode (s : State) : (offOver s).md.mode = s.md.mode := by unfold offOver; split <;> simp
@[simp] theorem railGone_mode (s : State) (r st : Nat) : (railGone s r st).md.mode = s.md.mode := by unfold railGone; simp
@[simp] theorem responseOff_mode (s : State) (r : Nat) : (responseOff s r).md.mode = s.md.mode := by unfold responseOff; simp
@[simp] theorem logFault_mode (s : State) (r : Nat) : (logFault s r).md.mode = s.md.mode := by unfold logFault; simp
@[simp] theorem breakOff_mode (s : State) : (breakOff s).md.mode = s.md.mode := by unfold breakOff; simp
@[simp] theorem sequenceFault_mode (s : State) (r : Nat) : (sequenceFault s r).md.mode = s.md.mode := by
  unfold sequenceFault; (repeat' split) <;> simp
theorem execRetryPauseEnd_mode (s : State) : ∃ w, execRetryPauseEnd s = .next (settle w) ∧ w.md.mode = s.md.mode := by
  unfold execRetryPauseEnd; (repeat' split) <;> exact ⟨_, rfl, by simp⟩
theorem execRailWarning_mode (r : Fin 16) (v : RailSamples) (s : State) : ∃ w, execRailWarning r v s = .next (settle w) ∧ w.md.mode = s.md.mode := by
  unfold execRailWarning; simp only; (repeat' split) <;> exact ⟨_, rfl, by simp⟩
theorem execRailDisable_mode (r : Fin 16) (s : State) : ∃ w, execRailDisable r s = .next (settle w) ∧ w.md.mode = s.md.mode := by
  unfold execRailDisable; simp only; (repeat' split) <;> exact ⟨_, rfl, by simp⟩
theorem execRailResetOffStart_mode (s : State) : ∃ w, execRailResetOffStart s = .next (settle w) ∧ w.md.mode = s.md.mode := by
  unfold execRailResetOffStart; (repeat' split) <;> exact ⟨_, rfl, by simp⟩
theorem execShutdownOffStart_mode (s : State) : ∃ w, execShutdownOffStart s = .next (settle w) ∧ w.md.mode = s.md.mode := by
  unfold execShutdownOffStart; (repeat' split) <;> exact ⟨_, rfl, by simp⟩
theorem execPciExpressWake_mode (s : State) : ∃ w, execPciExpressWake s = .next (settle w) ∧ w.md.mode = s.md.mode := by
  unfold execPciExpressWake; (repeat' split) <;> exact ⟨_, rfl, by simp⟩

/-! ## Kickoff -/

theorem execKickoffWatchdog_mode (s : State) : ∃ w, execKickoffWatchdog s = .next (settle w) ∧ w.md.mode = s.md.mode := by
  unfold execKickoffWatchdog; (repeat' split) <;> exact ⟨_, rfl, by simp⟩
@[simp] theorem stepStraps_mode (s : State) (v1 v2 : List (Option Nat)) (testEn : Bool) : (stepStraps s v1 v2 testEn).md.mode = s.md.mode := by
  unfold stepStraps; simp
@[simp] theorem restoreJournal_mode (s : State) : (restoreJournal s).md.mode = s.md.mode := by unfold restoreJournal; split <;> simp
@[simp] theorem stepReference_mode (s : State) (ok : Bool) : (stepReference s ok).md.mode = s.md.mode := by unfold stepReference; simp
@[simp] theorem stepCore_mode (s : State) (tj : Int) : (stepCore s tj).md.mode = s.md.mode := by unfold stepCore; simp
@[simp] theorem takeImage_mode (s : State) : (takeImage s).1.md.mode = s.md.mode := by unfold takeImage; simp
@[simp] theorem stepImage_mode (s : State) : (stepImage s).md.mode = s.md.mode := by unfold stepImage; simp
@[simp] theorem loadDefaults_mode (s : State) : (loadDefaults s).md.mode = s.md.mode := by unfold loadDefaults; simp
@[simp] theorem stepDram_mode (s : State) (first second : Bool) : (stepDram s first second).md.mode = s.md.mode := by unfold stepDram; simp
theorem execDebugChallenge_mode (s : State) : ∃ w, execDebugChallenge s = .next (settle w) ∧ w.md.mode = s.md.mode := by
  unfold execDebugChallenge; (repeat' split) <;> exact ⟨_, rfl, by simp⟩
theorem execDebugResponse_mode (rs : List Byte) (s : State) : ∃ w, execDebugResponse rs s = .next (settle w) ∧ w.md.mode = s.md.mode := by
  unfold execDebugResponse; (repeat' split) <;> exact ⟨_, rfl, by simp⟩

/-! ## Tenants -/

@[simp] theorem bellCommand_mode (s : State) (t kind i : Nat) : (bellCommand s t kind i).md.mode = s.md.mode := by unfold bellCommand; simp
theorem execSheetTailDoorbell_mode (t : Fin 64) (index : Nat) (s : State) :
  ∃ w, execSheetTailDoorbell t index s = .next (settle w) ∧ w.md.mode = s.md.mode := by
  unfold execSheetTailDoorbell; exact ⟨_, rfl, by simp⟩
theorem execCompletionHeadDoorbell_mode (t : Fin 64) (index : Nat) (s : State) :
  ∃ w, execCompletionHeadDoorbell t index s = .next (settle w) ∧ w.md.mode = s.md.mode := by
  unfold execCompletionHeadDoorbell; exact ⟨_, rfl, by simp⟩
theorem execCancelDoorbell_mode (t : Fin 64) (index : Nat) (s : State) :
  ∃ w, execCancelDoorbell t index s = .next (settle w) ∧ w.md.mode = s.md.mode := by
  unfold execCancelDoorbell; exact ⟨_, rfl, by simp⟩
@[simp] theorem mailboxStart_mode (s : State) (fn : Fin 65) (op idx sub len addr : Nat) :
  (mailboxStart s fn op idx sub len addr).md.mode = s.md.mode := (rfl)
@[simp] theorem mailboxEnd_mode (s : State) (fn : Fin 65) (code : Nat) : (mailboxEnd s fn code).md.mode = s.md.mode := by unfold mailboxEnd; simp
@[simp] theorem mailboxBusy_mode (s : State) (fn : Fin 65) : (mailboxBusy s fn).md.mode = s.md.mode := by unfold mailboxBusy; simp
@[simp] theorem mailboxDeliver_mode (s : State) (fn : Fin 65) (addr : Nat) (d : List Byte) : (mailboxDeliver s fn addr d).md.mode = s.md.mode := by
  unfold mailboxDeliver; simp
theorem execMailboxRead_mode (fn : Fin 65) (op idx sub : Nat) (buffer : MailBuffer) (s : State) :
  ∃ w, execMailboxRead fn op idx sub buffer s = .next (settle w) ∧ w.md.mode = s.md.mode := by
  unfold execMailboxRead; simp only; (repeat' split) <;> exact ⟨_, rfl, by simp⟩
theorem execDescriptorFetch_mode (t : Fin 64) (s : State) : ∃ w, execDescriptorFetch t s = .next (settle w) ∧ w.md.mode = s.md.mode := by
  unfold execDescriptorFetch; (repeat' split) <;> exact ⟨_, rfl, by simp⟩
theorem execDescriptorReceived_mode (t : Fin 64) (bytes : List Byte) (s : State) :
  ∃ w, execDescriptorReceived t bytes s = .next (settle w) ∧ w.md.mode = s.md.mode := by
  unfold execDescriptorReceived; (repeat' split) <;> exact ⟨_, rfl, by simp⟩
theorem execPlaneFetchStart_mode (t : Fin 64) (s : State) : ∃ w, execPlaneFetchStart t s = .next (settle w) ∧ w.md.mode = s.md.mode := by
  unfold execPlaneFetchStart; (repeat' split) <;> exact ⟨_, rfl, by simp⟩
theorem execIngestReadError_mode (t : Fin 64) (e : IngestFail) (repeatFails : Bool) (s : State) :
  ∃ w, execIngestReadError t e repeatFails s = .next (settle w) ∧ w.md.mode = s.md.mode := by
  unfold execIngestReadError; (repeat' split) <;> exact ⟨_, rfl, by simp⟩
theorem execCoalescingTimeout_mode (t : Fin 64) (s : State) : ∃ w, execCoalescingTimeout t s = .next (settle w) ∧ w.md.mode = s.md.mode := by
  unfold execCoalescingTimeout; (repeat' split) <;> exact ⟨_, rfl, by simp⟩
@[simp] theorem configRequest_mode (s : State) (fn : Nat) : (configRequest s fn).md.mode = s.md.mode := by unfold configRequest; simp
theorem execBusMasterEnable_mode (t : Fin 64) (on : Bool) (s : State) :
  ∃ w, execBusMasterEnable t on s = .next (settle w) ∧ w.md.mode = s.md.mode := by
  unfold execBusMasterEnable; (repeat' split) <;> exact ⟨_, rfl, by simp⟩
@[simp] theorem resetPf0_mode (s : State) : (resetPf0 s).md.mode = s.md.mode := by unfold resetPf0; simp
theorem execFunctionLevelReset_mode (fn : Fin 65) (s : State) : ∃ w, execFunctionLevelReset fn s = .next (settle w) ∧ w.md.mode = s.md.mode := by
  unfold execFunctionLevelReset; (repeat' split) <;> exact ⟨_, rfl, by simp⟩
theorem execPePerst_mode (s : State) : ∃ w, execPePerst s = .next (settle w) ∧ w.md.mode = s.md.mode := by
  unfold execPePerst; (repeat' split) <;> exact ⟨_, rfl, by simp⟩
theorem execPePerstRelease_mode (speed width : Nat) (s : State) :
  ∃ w, execPePerstRelease speed width s = .next (settle w) ∧ w.md.mode = s.md.mode := by
  unfold execPePerstRelease; (repeat' split) <;> exact ⟨_, rfl, by simp⟩
theorem execNumvfsWrite_mode (n : Nat) (s : State) : ∃ w, execNumvfsWrite n s = .next (settle w) ∧ w.md.mode = s.md.mode := by
  unfold execNumvfsWrite; (repeat' split) <;> exact ⟨_, rfl, by simp⟩
theorem execScrubComplete_mode (t : Fin 64) (s : State) : ∃ w, execScrubComplete t s = .next (settle w) ∧ w.md.mode = s.md.mode := by
  unfold execScrubComplete; (repeat' split) <;> exact ⟨_, rfl, by simp⟩

/-! ## Motors -/

@[simp] theorem encoderMeasured_mode (s : State) (m : Nat) : (encoderMeasured s m).md.mode = s.md.mode := by unfold encoderMeasured; simp
@[simp] theorem placeSamples_mode (s : State) (m : Nat) : (placeSamples s m).md.mode = s.md.mode := by unfold placeSamples; simp
@[simp] theorem takeCurrents_mode (s : State) (m : Nat) (s1 s2 : Int) : (takeCurrents s m s1 s2).md.mode = s.md.mode := by unfold takeCurrents; simp
@[simp] theorem controlPeriod_mode (s : State) (m : Nat) (s1 s2 : Int) : (controlPeriod s m s1 s2).md.mode = s.md.mode := by
  unfold controlPeriod; simp
@[simp] theorem speedProgress_mode (s : State) (m : Nat) : (speedProgress s m).md.mode = s.md.mode := by
  unfold speedProgress; simp only; (repeat' split) <;> simp
@[simp] theorem startGates_mode (s : State) (m : Nat) : (startGates s m).md.mode = s.md.mode := by unfold startGates; simp
theorem execAlignEnd_mode (m : Fin 6) (s : State) : ∃ w, execAlignEnd m s = .next (settle w) ∧ w.md.mode = s.md.mode := by
  unfold execAlignEnd; (repeat' split) <;> exact ⟨_, rfl, by simp⟩
theorem execZeroCrossing_mode (m : Fin 6) (t : Nat) (s : State) : ∃ w, execZeroCrossing m t s = .next (settle w) ∧ w.md.mode = s.md.mode := by
  unfold execZeroCrossing; simp only; (repeat' split) <;> exact ⟨_, rfl, by simp⟩
@[simp] theorem commutate_mode (s : State) (m t : Nat) : (commutate s m t).md.mode = s.md.mode := by unfold commutate; simp
theorem execCommutation_mode (m : Fin 12) (t : Nat) (s : State) : ∃ w, execCommutation m t s = .next (settle w) ∧ w.md.mode = s.md.mode := by
  unfold execCommutation; simp only; (repeat' split) <;> exact ⟨_, rfl, by simp⟩
theorem execMotorRestart_mode (m : Fin 12) (s : State) : ∃ w, execMotorRestart m s = .next (settle w) ∧ w.md.mode = s.md.mode := by
  unfold execMotorRestart; (repeat' split) <;> exact ⟨_, rfl, by simp⟩
theorem execBrakeEnd_mode (m : Fin 12) (s : State) : ∃ w, execBrakeEnd m s = .next (settle w) ∧ w.md.mode = s.md.mode := by
  unfold execBrakeEnd; (repeat' split) <;> exact ⟨_, rfl, by simp⟩

/-! ## Axes -/

theorem execMoveEnd_mode (a : Fin 16) (s : State) : ∃ w, execMoveEnd a s = .next (settle w) ∧ w.md.mode = s.md.mode := by
  unfold execMoveEnd; simp only; (repeat' split) <;> exact ⟨_, rfl, by simp⟩
@[simp] theorem leavePath_mode (s : State) (b : Nat) : (leavePath s b).md.mode = s.md.mode := (rfl)
@[simp] theorem releaseAxis_mode (s : State) (a : Nat) : (releaseAxis s a).md.mode = s.md.mode := by unfold releaseAxis; split <;> simp
@[simp] theorem releaseMotor_mode (s : State) (m : Nat) : (releaseMotor s m).md.mode = s.md.mode := by unfold releaseMotor; split <;> simp
theorem execDeferredCommandRelease_mode (target : Fin 28) (s : State) :
  ∃ w, execDeferredCommandRelease target s = .next (settle w) ∧ w.md.mode = s.md.mode := by
  unfold execDeferredCommandRelease; (repeat' split) <;> exact ⟨_, rfl, by simp⟩
theorem execStandstillDelayEnd_mode (a : Fin 16) (s : State) : ∃ w, execStandstillDelayEnd a s = .next (settle w) ∧ w.md.mode = s.md.mode := by
  unfold execStandstillDelayEnd; (repeat' split) <;> exact ⟨_, rfl, by simp⟩
theorem execHomingLatch_mode (a : Fin 16) (s : State) : ∃ w, execHomingLatch a s = .next (settle w) ∧ w.md.mode = s.md.mode := by
  unfold execHomingLatch; simp only; (repeat' split) <;> exact ⟨_, rfl, by simp⟩
@[simp] theorem hardStopFound_mode (s : State) (a : Nat) : (hardStopFound s a).md.mode = s.md.mode := by unfold hardStopFound; split <;> simp
theorem execHomingSearchEnd_mode (a : Fin 16) (s : State) : ∃ w, execHomingSearchEnd a s = .next (settle w) ∧ w.md.mode = s.md.mode := by
  unfold execHomingSearchEnd; simp only; (repeat' split) <;> exact ⟨_, rfl, by simp⟩
theorem execHomeActive_mode (a : Fin 16) (s : State) : ∃ w, execHomeActive a s = .next (settle w) ∧ w.md.mode = s.md.mode := by
  unfold execHomeActive; simp only; (repeat' split) <;> exact ⟨_, rfl, by simp⟩
theorem execLimitActive_mode (a : Fin 16) (positive : Bool) (s : State) :
  ∃ w, execLimitActive a positive s = .next (settle w) ∧ w.md.mode = s.md.mode := by
  unfold execLimitActive; exact ⟨_, rfl, by simp⟩
theorem execAxisFltInactive_mode (a : Fin 16) (s : State) : ∃ w, execAxisFltInactive a s = .next (settle w) ∧ w.md.mode = s.md.mode := by
  unfold execAxisFltInactive; (repeat' split) <;> exact ⟨_, rfl, by simp⟩

/-! ## Loops -/

@[simp] theorem tripEnds_mode (s : State) (n : Nat) : (tripEnds s n).md.mode = s.md.mode := by unfold tripEnds; simp
theorem execLoopRestart_mode (n : Fin 48) (s : State) : ∃ w, execLoopRestart n s = .next (settle w) ∧ w.md.mode = s.md.mode := by
  unfold execLoopRestart; (repeat' split) <;> exact ⟨_, rfl, by simp⟩
@[simp] theorem fuserBroken_mode (s : State) (i : Nat) : (fuserBroken s i).md.mode = s.md.mode := by unfold fuserBroken; simp
@[simp] theorem takeGood_mode (s : State) (i v1 : Nat) : (takeGood s i v1).md.mode = s.md.mode := by unfold takeGood; simp
@[simp] theorem zonePulse_mode (s : State) (z : Nat) : (zonePulse s z).md.mode = s.md.mode := by unfold zonePulse; simp
@[simp] theorem edgesBack_mode (s : State) : (edgesBack s).md.mode = s.md.mode := by unfold edgesBack; simp
theorem execZcInEdge_mode (s : State) : ∃ w, execZcInEdge s = .next (settle w) ∧ w.md.mode = s.md.mode := by
  unfold execZcInEdge; (repeat' split) <;> exact ⟨_, rfl, by simp⟩

/-! ## PinCommands -/

theorem execDriveMismatch_mode (p : Fin 96) (s : State) : ∃ w, execDriveMismatch p s = .next (settle w) ∧ w.md.mode = s.md.mode := by
  unfold execDriveMismatch; (repeat' split) <;> exact ⟨_, rfl, by simp⟩
theorem execBankSupplyChange_mode (bank33 : Bool) (x : BankSupply) (s : State) :
  ∃ w, execBankSupplyChange bank33 x s = .next (settle w) ∧ w.md.mode = s.md.mode := by
  unfold execBankSupplyChange; (repeat' split) <;> exact ⟨_, rfl, by simp⟩

/-! ## Step -/

@[simp] theorem State.withFetchWord_mode (s : State) (nbits w : Nat) : (State.withFetchWord s nbits w).md.mode = s.md.mode := (rfl)

end Sys2Proof.Machine
end

