-- ==== Sys2Proof/Laws/Queue.lean ====
section
/-! SUPPORT. Every operation and every meaning leaves the queue of waiting commands as it is: one lemma per operation and per meaning. -/

namespace Sys2Proof.Machine

/-! ## Choices and folds -/

@[simp] theorem ite_pending (c : Prop) [Decidable c] (a b : State) :
  (if c then a else b).pending = if c then a.pending else b.pending := apply_ite (·.pending) c a b
@[simp] theorem ite_pending1 {α : Type} (c : Prop) [Decidable c] (a b : State × α) :
  (if c then a else b).1.pending = if c then a.1.pending else b.1.pending :=
  apply_ite (·.1.pending) c a b
@[simp] theorem foldl_pending {α : Type} (l : List α) (f : State → α → State) (s : State) (h : ∀ u x, (f u x).pending = u.pending) :
  (l.foldl f s).pending = s.pending := by
  induction l generalizing s with
  | nil => rfl
  | cons a r ih => exact (ih _).trans (h _ _)
@[simp] theorem foldl_pending1 {α β : Type} (l : List α) (f : State × β → α → State × β) (s : State × β) (h :
  ∀ u x, (f u x).1.pending = u.1.pending) :
    (l.foldl f s).1.pending = s.1.pending := by
  induction l generalizing s with
  | nil => rfl
  | cons a r ih => exact (ih _).trans (h _ _)
@[simp] theorem foldr_pending {α : Type} (l : List α) (f : α → State → State) (s : State) (h : ∀ u x, (f x u).pending = u.pending) :
  (l.foldr f s).pending = s.pending := by
  induction l with
  | nil => rfl
  | cons a r ih => exact (h _ _).trans ih
@[simp] theorem forEach_pending (l : List Nat) (f : State → Nat → State) (s : State) (h : ∀ u x, (f u x).pending = u.pending) :
    (forEach l f s).pending = s.pending := foldl_pending l f s h

/-! ## Ops -/

@[simp] theorem putS_pending (s : State) (w idx sub : Nat) (v : Int) : (putS s w idx sub v).pending = s.pending := (rfl)
@[simp] theorem wrapBy_pending (w : Nat) (s : State) (idx sub n : Nat) : (wrapBy w s idx sub n).pending = s.pending := (rfl)
@[simp] theorem satBy_pending (w : Nat) (s : State) (idx sub n : Nat) : (satBy w s idx sub n).pending = s.pending := (rfl)
@[simp] theorem bump_pending (s : State) (idx sub : Nat) : (bump s idx sub).pending = s.pending := (rfl)
@[simp] theorem sat_pending (s : State) (idx sub : Nat) : (sat s idx sub).pending = s.pending := (rfl)
@[simp] theorem holdTime_pending (s : State) : (holdTime s).pending = s.pending := (rfl)
@[simp] theorem vector_pending (s : State) (fn vec : Nat) : (vector s fn vec).pending = s.pending := by unfold vector; simp
@[simp] theorem wrapLog_pending (w : Nat) (s : State) (idx sub : Nat) : (wrapLog w s idx sub).pending = s.pending := (rfl)
@[simp] theorem satLog_pending (w : Nat) (s : State) (idx sub : Nat) : (satLog w s idx sub).pending = s.pending := (rfl)
@[simp] theorem tick_pending (s : State) : (tick s).pending = s.pending := by unfold tick; simp
@[simp] theorem mirrorWrite_pending (s : State) (e : Entry) : (mirrorWrite s e).pending = s.pending := by
  unfold mirrorWrite; (repeat' split) <;> simp
@[simp] theorem ringWrite_pending (s : State) (e : Entry) : (ringWrite s e).pending = s.pending := by unfold ringWrite; simp
@[simp] theorem notice_pending (s : State) (idx sub cls : Nat) : (notice s idx sub cls).pending = s.pending := by unfold notice; simp
@[simp] theorem noticeAlone_pending (s : State) (idx sub cls : Nat) : (noticeAlone s idx sub cls).pending = s.pending := by unfold noticeAlone; simp
@[simp] theorem classVectors_pending (s : State) (cls : Nat) : (classVectors s cls).pending = s.pending := by unfold classVectors; simp
@[simp] theorem logOnly_pending (s : State) (cls kind src inst idx sub : Nat) (serial : Option Nat) (detail : Nat) :
  (logOnly s cls kind src inst idx sub serial detail).pending = s.pending := by unfold logOnly; simp
@[simp] theorem log_pending (s : State) (cls kind src inst idx sub : Nat) (serial : Option Nat) (detail : Nat) :
  (log s cls kind src inst idx sub serial detail).pending = s.pending := by unfold log; simp
@[simp] theorem logEvent_pending (s : State) (cls src inst idx sub : Nat) : (logEvent s cls src inst idx sub).pending = s.pending := by
  unfold logEvent; simp
@[simp] theorem serveDrop_pending (s : State) (m : Mech) (inst : Nat) : (serveDrop s m inst).pending = s.pending := (rfl)
@[simp] theorem serveBegin_pending (s : State) (m : Mech) (inst code src idx sub : Nat) :
  (serveBegin s m inst code src idx sub).pending = s.pending := by unfold serveBegin; simp
@[simp] theorem servePass_pending (s : State) (m : Mech) (inst src idx sub : Nat) : (servePass s m inst src idx sub).pending = s.pending := by
  unfold servePass; split <;> simp
@[simp] theorem doubleFaultAs_pending (cls : Nat) (s : State) (m : Mech) (inst code src idx sub : Nat) :
  (doubleFaultAs cls s m inst code src idx sub).pending = s.pending := by unfold doubleFaultAs; simp
@[simp] theorem doubleFault_pending (s : State) (m : Mech) (inst code src idx sub : Nat) :
  (doubleFault s m inst code src idx sub).pending = s.pending := by unfold doubleFault; simp
@[simp] theorem serveCancel_pending (s : State) (m : Mech) (inst src idx sub : Nat) : (serveCancel s m inst src idx sub).pending = s.pending := by
  unfold serveCancel; split <;> simp
@[simp] theorem watch_pending (high : Bool) (s : State) (idx sub old v : Nat) : (watch high s idx sub old v).pending = s.pending := by
  unfold watch; simp
@[simp] theorem causeAdd_pending (s : State) (c inst : Nat) : (causeAdd s c inst).pending = s.pending := by unfold causeAdd; simp
@[simp] theorem causeEnd_pending (s : State) (c inst : Nat) : (causeEnd s c inst).pending = s.pending := by unfold causeEnd; simp
@[simp] theorem causeEndAll_pending (s : State) (p : Nat → Nat → Bool) : (causeEndAll s p).pending = s.pending := by unfold causeEndAll; simp

/-! ## Sheets -/

@[simp] theorem setSlots_pending (s : State) (l : Tab Event) : (setSlots s l).pending = s.pending := by unfold setSlots; simp
@[simp] theorem addEvent_pending (s : State) (lo hi : Nat) (e : Event) : (addEvent s lo hi e).pending = s.pending := by
  unfold addEvent; split <;> simp
@[simp] theorem dropEvents_pending (s : State) (p : Event → Bool) : (dropEvents s p).pending = s.pending := by unfold dropEvents; simp
@[simp] theorem writeEntry_pending (s : State) (t : Nat) (l : List Byte) : (writeEntry s t l).pending = s.pending := (rfl)
@[simp] theorem signalEntry_pending (s : State) (t : Nat) : (signalEntry s t).pending = s.pending := by unfold signalEntry; simp
@[simp] theorem writeSignal_pending (s : State) (t : Nat) (h : Held) : (writeSignal s t h).pending = s.pending := by unfold writeSignal; simp
@[simp] theorem deliver_pending (s : State) (t : Nat) (h : Held) : (deliver s t h).pending = s.pending := by unfold deliver; simp
@[simp] theorem flushHeld_pending (t a : Nat) (a1 : State) : (flushHeld t a a1).pending = a1.pending := by
  fun_induction flushHeld t a a1 <;> simp [*]
@[simp] theorem countOutcome_pending (s : State) (outcome : Nat) : (countOutcome s outcome).pending = s.pending := by unfold countOutcome; simp
@[simp] theorem completion_pending (s : State) (sh : Sheet) (outcome reason : Nat) (double : Bool) :
  (completion s sh outcome reason double).pending = s.pending := by unfold completion; simp
@[simp] theorem toScrubbing_pending (s : State) (t : Nat) : (toScrubbing s t).pending = s.pending := by unfold toScrubbing; simp
@[simp] theorem ghostCheck_pending (s : State) (t : Nat) : (ghostCheck s t).pending = s.pending := by unfold ghostCheck; simp
@[simp] theorem removeSheet_pending (s : State) (uid : Nat) : (removeSheet s uid).pending = s.pending := by unfold removeSheet; simp
@[simp] theorem enterWaiting_pending (s : State) : (enterWaiting s).pending = s.pending := by unfold enterWaiting; simp
@[simp] theorem finishSheet_pending (s : State) (sh : Sheet) : (finishSheet s sh).pending = s.pending := by unfold finishSheet; simp
@[simp] theorem overtaken_pending (s : State) (uid : Nat) : (overtaken s uid).pending = s.pending := (rfl)
@[simp] theorem spillSheet_pending (s : State) (uid : Nat) (st : Option Nat) : (spillSheet s uid st).pending = s.pending := (rfl)
@[simp] theorem spillWhere_pending (s : State) (p : Sheet → Bool) (st : Option Nat) : (spillWhere s p st).pending = s.pending := (rfl)
@[simp] theorem spillStation_pending (s : State) (st : Nat) : (spillStation s st).pending = s.pending := (rfl)
@[simp] theorem spillPath_pending (s : State) (b : Nat) : (spillPath s b).pending = s.pending := (rfl)
@[simp] theorem spoilAll_pending (s : State) : (spoilAll s).pending = s.pending := by unfold spoilAll; simp

/-! ## MotorOps -/

@[simp] theorem setMotorState_pending (s : State) (m v : Nat) : (setMotorState s m v).pending = s.pending := (rfl)
@[simp] theorem gatesOff_pending (s : State) (m : Nat) : (gatesOff s m).pending = s.pending := (rfl)
@[simp] theorem motorOff_pending (s : State) (m : Nat) : (motorOff s m).pending = s.pending := (rfl)
@[simp] theorem startRamp_pending (s : State) (m : Nat) (v : Int) (d : Nat) : (startRamp s m v d).pending = s.pending := (rfl)
@[simp] theorem spinUp_pending (s : State) (m : Nat) : (spinUp s m).pending = s.pending := by unfold spinUp; simp
@[simp] theorem unlock_pending (s : State) (m : Nat) : (unlock s m).pending = s.pending := by unfold unlock; simp
@[simp] theorem commandEntry_pending (s : State) (m k : Nat) : (commandEntry s m k).pending = s.pending := by unfold commandEntry; simp
@[simp] theorem brakeMotor_pending (s : State) (m : Nat) : (brakeMotor s m).pending = s.pending := by unfold brakeMotor; simp
@[simp] theorem rampStop_pending (s : State) (m : Nat) : (rampStop s m).pending = s.pending := by unfold rampStop; simp
@[simp] theorem shortLowSides_pending (s : State) (m : Nat) : (shortLowSides s m).pending = s.pending := (rfl)
@[simp] theorem driveGates_pending (s : State) (m : Nat) : (driveGates s m).pending = s.pending := by unfold driveGates; simp
@[simp] theorem motorFaultRecord_pending (s : State) (m code : Nat) : (motorFaultRecord s m code).pending = s.pending := by
  unfold motorFaultRecord; simp
@[simp] theorem motorReached_pending (s : State) (m : Nat) : (motorReached s m).pending = s.pending := by unfold motorReached; simp
@[simp] theorem beginRun_pending (s : State) (m : Nat) : (beginRun s m).pending = s.pending := (rfl)
@[simp] theorem restartMotor_pending (s : State) (m : Nat) : (restartMotor s m).pending = s.pending := by unfold restartMotor; simp

/-! ## AxisOps -/

@[simp] theorem setHomed_pending (s : State) (a : Nat) (b : Bool) : (setHomed s a b).pending = s.pending := (rfl)
@[simp] theorem settlePosition_pending (s : State) (a : Nat) (pos : Int) (steps : Nat) : (settlePosition s a pos steps).pending = s.pending := (rfl)
@[simp] theorem toStandstill_pending (s : State) (a : Nat) : (toStandstill s a).pending = s.pending := (rfl)
@[simp] theorem runMove_pending (s : State) (a : Nat) (m : Move) (wait : Nat) : (runMove s a m wait).pending = s.pending := (rfl)
@[simp] theorem noMove_pending (s : State) (a : Nat) : (noMove s a).pending = s.pending := (rfl)
@[simp] theorem startMove_pending (s : State) (a : Nat) (m : Move) : (startMove s a m).pending = s.pending := by unfold startMove; simp
@[simp] theorem startGroup_pending (s : State) (l : List (Nat × Move)) : (startGroup s l).pending = s.pending := by unfold startGroup; simp
@[simp] theorem groupMove_pending (s : State) (g r : Nat) : (groupMove s g r).pending = s.pending := by unfold groupMove; split <;> simp
@[simp] theorem moveOverrun_pending (s : State) (a : Nat) : (moveOverrun s a).pending = s.pending := by unfold moveOverrun; simp
@[simp] theorem fireMove_pending (s : State) (a r : Nat) : (fireMove s a r).1.pending = s.pending := by
  unfold fireMove; simp only; (repeat' split) <;> simp
@[simp] theorem endMove_pending (s : State) (a : Nat) : (endMove s a).pending = s.pending := by
  unfold endMove; simp only; (repeat' split) <;> simp
@[simp] theorem hardStop_pending (s : State) (a : Nat) : (hardStop s a).pending = s.pending := by
  unfold hardStop; simp only; (repeat' split) <;> simp
@[simp] theorem slowStop_pending (s : State) (a : Nat) (dec : Option Nat) : (slowStop s a dec).pending = s.pending := by
  unfold slowStop; simp only; (repeat' split) <;> simp
@[simp] theorem rampedStop_pending (s : State) (a : Nat) : (rampedStop s a).pending = s.pending := by unfold rampedStop; simp
@[simp] theorem stopAxis_pending (s : State) (a : Nat) (hard : Bool) : (stopAxis s a hard).pending = s.pending := by unfold stopAxis; simp
@[simp] theorem resumeAxis_pending (s : State) (a : Nat) : (resumeAxis s a).pending = s.pending := by unfold resumeAxis; simp
@[simp] theorem safestopAxis_pending (s : State) (a : Nat) : (safestopAxis s a).pending = s.pending := by unfold safestopAxis; simp
@[simp] theorem homingDone_pending (s : State) (a : Nat) : (homingDone s a).pending = s.pending := by unfold homingDone; simp
@[simp] theorem startHoming_pending (s : State) (a : Nat) : (startHoming s a).pending = s.pending := by unfold startHoming; simp
@[simp] theorem freeze_pending (s : State) (a : Nat) : (freeze s a).pending = s.pending := by unfold freeze; split <;> simp
@[simp] theorem homingBack_pending (s : State) (a : Nat) : (homingBack s a).pending = s.pending := by unfold homingBack; simp
@[simp] theorem homingOnward_pending (s : State) (a : Nat) : (homingOnward s a).pending = s.pending := (rfl)
@[simp] theorem restAxis_pending (s : State) (a : Nat) : (restAxis s a).pending = s.pending := by unfold restAxis; split <;> simp
@[simp] theorem homingLatched_pending (s : State) (a : Nat) : (homingLatched s a).pending = s.pending := by unfold homingLatched; split <;> simp
@[simp] theorem homingFail_pending (s : State) (a : Nat) : (homingFail s a).pending = s.pending := by unfold homingFail; simp
@[simp] theorem limitStop_pending (s : State) (a : Nat) : (limitStop s a).pending = s.pending := by unfold limitStop; simp
@[simp] theorem limitFault_pending (s : State) (a : Nat) : (limitFault s a).pending = s.pending := by unfold limitFault; simp
@[simp] theorem driverFaultRecord_pending (s : State) (a : Nat) : (driverFaultRecord s a).pending = s.pending := by unfold driverFaultRecord; simp
@[simp] theorem disableAxis_pending (s : State) (a : Nat) : (disableAxis s a).pending = s.pending := by unfold disableAxis; simp
@[simp] theorem takeStandstill_pending (s : State) (a : Nat) : (takeStandstill s a).pending = s.pending := (rfl)
@[simp] theorem enableAxis_pending (s : State) (a : Nat) : (enableAxis s a).pending = s.pending := (rfl)
@[simp] theorem retain_pending (s : State) (a : Nat) : (retain s a).pending = s.pending := by
  unfold retain; (repeat' split) <;> simp
@[simp] theorem wakeAxis_pending (s : State) (a : Nat) : (wakeAxis s a).pending = s.pending := by unfold wakeAxis; simp

/-! ## LoopOps -/

@[simp] theorem outputOff_pending (s : State) (n : Nat) : (outputOff s n).pending = s.pending := by unfold outputOff; simp
@[simp] theorem loopOffNow_pending (s : State) (n : Nat) : (loopOffNow s n).pending = s.pending := by unfold loopOffNow; simp
@[simp] theorem softStart_pending (s : State) (n : Nat) : (softStart s n).pending = s.pending := by unfold softStart; simp
@[simp] theorem loopRunning_pending (s : State) (n : Nat) : (loopRunning s n).pending = s.pending := by unfold loopRunning; simp
@[simp] theorem moveSp_pending (s : State) (n : Nat) : (moveSp s n).pending = s.pending := by unfold moveSp; simp
@[simp] theorem injectionTick_pending (s : State) : (injectionTick s).pending = s.pending := by unfold injectionTick; simp
@[simp] theorem sendOutput_pending (s : State) (n : Nat) : (sendOutput s n).pending = s.pending := by unfold sendOutput; simp
@[simp] theorem runLaw_pending (s : State) (n : Nat) (x : Int) : (runLaw s n x).1.pending = s.pending := (rfl)
@[simp] theorem output_pending (s : State) (n : Nat) : (output s n).pending = s.pending := by unfold output; simp
@[simp] theorem saturation_pending (s : State) (n : Nat) (d : Int) : (saturation s n d).1.pending = s.pending := (rfl)
@[simp] theorem oscillation_pending (s : State) (n : Nat) (x : Int) : (oscillation s n x).1.pending = s.pending := by unfold oscillation; simp
@[simp] theorem loopFault_pending (s : State) (n code : Nat) : (loopFault s n code).pending = s.pending := (rfl)
@[simp] theorem loopSpills_pending (s : State) (n : Nat) : (loopSpills s n).pending = s.pending := by unfold loopSpills; simp
@[simp] theorem loopRespond_pending (s : State) (n code : Nat) : (loopRespond s n code).1.pending = s.pending := by
  unfold loopRespond; simp only; (repeat' split) <;> simp
@[simp] theorem captureSample_pending (s : State) (n : Nat) (x y : Int) : (captureSample s n x y).pending = s.pending := by unfold captureSample; simp
@[simp] theorem captureTrigger_pending (s : State) (n : Nat) : (captureTrigger s n).pending = s.pending := by unfold captureTrigger; simp
@[simp] theorem loopBroken_pending (s : State) (n : Nat) : (loopBroken s n).pending = s.pending := by unfold loopBroken; simp
@[simp] theorem followMotor_pending (s : State) (n : Nat) : (followMotor s n).pending = s.pending := by unfold followMotor; simp
@[simp] theorem countEval_pending (s : State) (n : Nat) : (countEval s n).pending = s.pending := (rfl)
@[simp] theorem supervise_pending (s : State) (n : Nat) (x d : Int) : (supervise s n x d).1.pending = s.pending := by unfold supervise; simp
@[simp] theorem evalRunning_pending (s : State) (n : Nat) (x : Int) : (evalRunning s n x).1.pending = s.pending := by unfold evalRunning; simp
@[simp] theorem evalLoop_pending (s : State) (n : Nat) : (evalLoop s n).1.pending = s.pending := by unfold evalLoop; simp
@[simp] theorem loopCommandOff_pending (s : State) (n : Nat) : (loopCommandOff s n).pending = s.pending := by unfold loopCommandOff; simp
@[simp] theorem loopCommandOn_pending (s : State) (n : Nat) : (loopCommandOn s n).pending = s.pending := by unfold loopCommandOn; split <;> simp
@[simp] theorem loopRestartNow_pending (s : State) (n : Nat) : (loopRestartNow s n).pending = s.pending := by unfold loopRestartNow; simp
@[simp] theorem selectBank_pending (s : State) (n b : Nat) : (selectBank s n b).pending = s.pending := (rfl)
@[simp] theorem safestopLoop_pending (s : State) (n : Nat) : (safestopLoop s n).pending = s.pending := by unfold safestopLoop; simp
@[simp] theorem goodConversion_pending (s : State) (i v1 : Nat) : (goodConversion s i v1).pending = s.pending := by unfold goodConversion; simp
@[simp] theorem brokenConversion_pending (s : State) (i v1 : Nat) : (brokenConversion s i v1).pending = s.pending := (rfl)

/-! ## LinkOps -/

@[simp] theorem restLanes_pending (s : State) (n : Nat) : (restLanes s n).pending = s.pending := (rfl)
@[simp] theorem setLinkState_pending (s : State) (n v : Nat) : (setLinkState s n v).pending = s.pending := by unfold setLinkState; simp
@[simp] theorem queueBlocks_pending (s : State) (n : Nat) (l : List LinkBlock) : (queueBlocks s n l).pending = s.pending := by
  unfold queueBlocks; simp
@[simp] theorem sendControl_pending (s : State) (n : Nat) (l : List (List Byte)) : (sendControl s n l).pending = s.pending := by
  unfold sendControl; simp
@[simp] theorem sendLight_pending (s : State) (n beam kind t d : Nat) : (sendLight s n beam kind t d).pending = s.pending := by unfold sendLight; simp
@[simp] theorem releaseLights_pending (s : State) (n : Nat) : (releaseLights s n).pending = s.pending := by unfold releaseLights; simp
@[simp] theorem sendMultiframe_pending (s : State) (n : Nat) : (sendMultiframe s n).pending = s.pending := (rfl)
@[simp] theorem linkTick_pending (s : State) : (linkTick s).pending = s.pending := by unfold linkTick; simp
@[simp] theorem sendPixels_pending (s : State) (n seq : Nat) (words : List Nat) : (sendPixels s n seq words).pending = s.pending := by
  unfold sendPixels; simp
@[simp] theorem sendLspi_pending (s : State) (n : Nat) (l : List Nat) : (sendLspi s n l).pending = s.pending := (rfl)
@[simp] theorem linkBegin_pending (s : State) (n : Nat) (rep serve : Bool) : (linkBegin s n rep serve).pending = s.pending := by
  unfold linkBegin; simp
@[simp] theorem linkUp_pending (s : State) (n : Nat) (serve : Bool) : (linkUp s n serve).pending = s.pending := by unfold linkUp; simp
@[simp] theorem linkOff_pending (s : State) (n : Nat) : (linkOff s n).pending = s.pending := by unfold linkOff; simp
@[simp] theorem linkFail_pending (s : State) (n : Nat) : (linkFail s n).1.pending = s.pending := by unfold linkFail; simp
@[simp] theorem linkIsUp_pending (s : State) (n : Nat) : (linkIsUp s n).pending = s.pending := by unfold linkIsUp; simp
@[simp] theorem linkStepDone_pending (s : State) (n : Nat) (regs : List Nat) : (linkStepDone s n regs).1.pending = s.pending := by
  unfold linkStepDone; split <;> simp
@[simp] theorem linkHardFault_pending (s : State) (n status : Nat) : (linkHardFault s n status).1.pending = s.pending := by unfold linkHardFault; simp

/-! ## RasterOps -/

@[simp] theorem updateFreeboard_pending (s : State) (n : Nat) : (updateFreeboard s n).pending = s.pending := by unfold updateFreeboard; simp
@[simp] theorem setDecoder_pending (s : State) (n v : Nat) : (setDecoder s n v).pending = s.pending := (rfl)
@[simp] theorem refill_pending (s : State) (n : Nat) : (refill s n).pending = s.pending := by unfold refill; simp
@[simp] theorem startPlane_pending (s : State) (n : Nat) (sh : Sheet) : (startPlane s n sh).pending = s.pending := (rfl)
@[simp] theorem dropPlane_pending (s : State) (n state : Nat) : (dropPlane s n state).pending = s.pending := (rfl)
@[simp] theorem planeDone_pending (s : State) (n uid state : Nat) : (planeDone s n uid state).pending = s.pending := by unfold planeDone; simp
@[simp] theorem discardData_pending (s : State) (n uid : Nat) : (discardData s n uid).pending = s.pending := (rfl)
@[simp] theorem spillNow_pending (s : State) (n uid : Nat) : (spillNow s n uid).pending = s.pending := by unfold spillNow; simp
@[simp] theorem spillHere_pending (s : State) (n uid : Nat) : (spillHere s n uid).pending = s.pending := by unfold spillHere; simp
@[simp] theorem flagLines_pending (s : State) (n uid : Nat) : (flagLines s n uid).pending = s.pending := (rfl)
@[simp] theorem planeLost_pending (s : State) (n uid : Nat) : (planeLost s n uid).pending = s.pending := by unfold planeLost; simp
@[simp] theorem decodeError_pending (s : State) (n uid code : Nat) : (decodeError s n uid code).pending = s.pending := by unfold decodeError; simp
@[simp] theorem emptyFifo_pending (s : State) (n : Nat) : (emptyFifo s n).pending = s.pending := by unfold emptyFifo; simp
@[simp] theorem stopRaster_pending (s : State) (n : Nat) : (stopRaster s n).pending = s.pending := by unfold stopRaster; simp
@[simp] theorem forgetAt_pending (s : State) (uid n : Nat) : (forgetAt s uid n).pending = s.pending := by unfold forgetAt; simp
@[simp] theorem forgetRaster_pending (s : State) (uid : Nat) : (forgetRaster s uid).pending = s.pending := by unfold forgetRaster; simp
@[simp] theorem withdrawOne_pending (s : State) (uid : Nat) : (withdrawOne s uid).pending = s.pending := by unfold withdrawOne; simp
@[simp] theorem withdrawForced_pending (s : State) (uid : Nat) : (withdrawForced s uid).pending = s.pending := by
  unfold withdrawForced; refine (foldl_pending _ _ _ fun u x => ?_).trans ?_ <;> (repeat' split) <;> simp
@[simp] theorem withdrawAll_pending (s : State) : (withdrawAll s).pending = s.pending := by unfold withdrawAll; simp
@[simp] theorem cancelSheet_pending (s : State) (sh : Sheet) : (cancelSheet s sh).pending = s.pending := by unfold cancelSheet; simp

/-! ## ScanOps -/

@[simp] theorem phaseLost_pending (s : State) (k : Nat) : (phaseLost s k).pending = s.pending := by unfold phaseLost; simp
@[simp] theorem holdOff_pending (s : State) (k : Nat) : (holdOff s k).pending = s.pending := by unfold holdOff; simp
@[simp] theorem holdUnlit_pending (s : State) : (holdUnlit s).pending = s.pending := by unfold holdUnlit; simp
@[simp] theorem beginAcquire_pending (s : State) (k : Nat) : (beginAcquire s k).pending = s.pending := (rfl)
@[simp] theorem fillPeriods_pending (s : State) (k c : Nat) (edges : List Nat) : (fillPeriods s k c edges).pending = s.pending := by
  unfold fillPeriods; simp
@[simp] theorem collectEdge_pending (s : State) (k t : Nat) (edges : List Nat) : (collectEdge s k t edges).pending = s.pending := by
  unfold collectEdge; simp
@[simp] theorem trackerCount_pending (s : State) (k sub : Nat) : (trackerCount s k sub).pending = s.pending := (rfl)
@[simp] theorem windowEdge_pending (s : State) (k t : Nat) : (windowEdge s k t).1.pending = s.pending := by unfold windowEdge; split <;> simp
@[simp] theorem fixTooth_pending (s : State) (k : Nat) : (fixTooth s k).pending = s.pending := by unfold fixTooth; simp
@[simp] theorem writeTable_pending (s : State) (k sub : Nat) (l : List Nat) : (writeTable s k sub l).pending = s.pending := by unfold writeTable; simp
@[simp] theorem relabel_pending (s : State) (k r : Nat) : (relabel s k r).pending = s.pending := by unfold relabel; simp
@[simp] theorem identify_pending (s : State) (k : Nat) : (identify s k).pending = s.pending := by
  unfold identify; simp only; (repeat' split) <;> simp
@[simp] theorem lostSpills_pending (s : State) (k : Nat) : (lostSpills s k).pending = s.pending := by unfold lostSpills; simp
@[simp] theorem trackerLost_pending (s : State) (k : Nat) : (trackerLost s k).1.pending = s.pending := by unfold trackerLost; simp
@[simp] theorem polygonTracks_pending (s : State) (m : Nat) : (polygonTracks s m).pending = s.pending := by unfold polygonTracks; simp
@[simp] theorem phaseLock_pending (s : State) (m t : Nat) : (phaseLock s m t).pending = s.pending := by
  unfold phaseLock; (repeat' split) <;> simp
@[simp] theorem polygonTooth_pending (s : State) (m t per : Nat) (coast : Bool) : (polygonTooth s m t per coast).pending = s.pending := by
  unfold polygonTooth; simp
@[simp] theorem closeWindow_pending (s : State) (k : Nat) : (closeWindow s k).1.pending = s.pending := by
  unfold closeWindow; simp only; (repeat' split) <;> simp
@[simp] theorem bdWindow_pending (s : State) (n : Nat) : (bdWindow s n).pending = s.pending := by unfold bdWindow; simp
@[simp] theorem keepLit_pending (s : State) (n : Nat) : (keepLit s n).pending = s.pending := by unfold keepLit; simp
@[simp] theorem idleTick_pending (s : State) : (idleTick s).pending = s.pending := by unfold idleTick; simp
@[simp] theorem apcWindow_pending (s : State) (n t : Nat) : (apcWindow s n t).pending = s.pending := by unfold apcWindow; simp
@[simp] theorem keepScan_pending (s : State) (n : Nat) (c : Reading) : (keepScan s n c).pending = s.pending := by unfold keepScan; simp
@[simp] theorem showMeasurement_pending (s : State) (n : Nat) (l : List Reading) (mean skew : Int) :
  (showMeasurement s n l mean skew).pending = s.pending := (rfl)
@[simp] theorem keepPatch_pending (s : State) (n : Nat) (marks : List Chevron) : (keepPatch s n marks).pending = s.pending := by
  unfold keepPatch; simp
@[simp] theorem dropCorrections_pending (s : State) (n : Nat) : (dropCorrections s n).pending = s.pending := (rfl)
@[simp] theorem stageRegistration_pending (s : State) (n : Nat) : (stageRegistration s n).pending = s.pending := by unfold stageRegistration; simp
@[simp] theorem calibrationPattern_pending (s : State) (n : Nat) : (calibrationPattern s n).pending = s.pending := (rfl)
@[simp] theorem gapPattern_pending (s : State) (n at_ : Nat) : (gapPattern s n at_).pending = s.pending := (rfl)
@[simp] theorem storeSignature_pending (s : State) (n : Nat) : (storeSignature s n).pending = s.pending := by unfold storeSignature; simp

/-! ## PinOps -/

@[simp] theorem setExternal_pending (s : State) (p v : Nat) : (setExternal s p v).pending = s.pending := by unfold setExternal; simp
@[simp] theorem pinsToSleep_pending (s : State) : (pinsToSleep s).pending = s.pending := (rfl)
@[simp] theorem newConflict_pending (s : State) (c : Nat) : (newConflict s c).pending = s.pending := by unfold newConflict; simp
@[simp] theorem newSuppression_pending (s : State) (k : Nat) : (newSuppression s k).pending = s.pending := by unfold newSuppression; simp
@[simp] theorem claimsChanged_pending (s : State) : (claimsChanged s).pending = s.pending := by unfold claimsChanged; simp
@[simp] theorem pinSetValue_pending (s : State) (p v : Nat) : (pinSetValue s p v).pending = s.pending := by unfold pinSetValue; simp

/-! ## MemOps -/

@[simp] theorem followHeat_pending (s : State) : (followHeat s).pending = s.pending := by unfold followHeat; split <;> simp
@[simp] theorem watchBudget_pending (old s : State) : (watchBudget old s).pending = s.pending := by unfold watchBudget; simp
@[simp] theorem capacityFrom_pending (old s : State) : (capacityFrom old s).pending = s.pending := by unfold capacityFrom; simp
@[simp] theorem brokenInput_pending (s : State) (i : Nat) : (brokenInput s i).pending = s.pending := by unfold brokenInput; simp

/-! ## NetOps -/

@[simp] theorem putFrame_pending (s : State) (p : Nat) (o : Outgoing) : (putFrame s p o).pending = s.pending := by unfold putFrame; simp
@[simp] theorem sendFrame_pending (s : State) (p type dst : Nat) (payload : List Byte) : (sendFrame s p type dst payload).pending = s.pending := by
  unfold sendFrame; simp
@[simp] theorem broadcast_pending (s : State) (ports : List Nat) (type : Nat) (payload : List Byte) :
  (broadcast s ports type payload).pending = s.pending := by unfold broadcast; simp
@[simp] theorem modeFrames_pending (s : State) (new old : Mode) (cause : Nat) (awake : List Nat) :
  (modeFrames s new old cause awake).pending = s.pending := by unfold modeFrames; simp
@[simp] theorem setPartner_pending (s : State) (n v : Nat) : (setPartner s n v).pending = s.pending := (rfl)
@[simp] theorem lossResponse_pending (s : State) (n : Nat) : (lossResponse s n).1.pending = s.pending := by unfold lossResponse; split <;> simp
@[simp] theorem partnerTo_pending (s : State) (n v : Nat) : (partnerTo s n v).1.pending = s.pending := by unfold partnerTo; simp
@[simp] theorem cycleMaps_pending (s : State) : (cycleMaps s).pending = s.pending := (rfl)
@[simp] theorem debit_pending (s : State) (p n ns : Nat) : (debit s p n ns).pending = s.pending := by unfold debit; simp
@[simp] theorem creditCycle_pending (s : State) (p : Nat) : (creditCycle s p).pending = s.pending := (rfl)
@[simp] theorem sendOut_pending (s : State) (p : Nat) (o : Outgoing) : (sendOut s p o).pending = s.pending := by unfold sendOut; simp
@[simp] theorem setTx_pending (s : State) (p : Nat) (l : List Outgoing) : (setTx s p l).pending = s.pending := by unfold setTx; simp
@[simp] theorem setRx_pending (s : State) (p : Nat) (l : List (FrameSrc × Pdu)) : (setRx s p l).pending = s.pending := by unfold setRx; simp
@[simp] theorem queueOut_pending (s : State) (p : Nat) (o : Outgoing) : (queueOut s p o).pending = s.pending := by unfold queueOut; simp
@[simp] theorem sendAcyclic_pending (s : State) (p type dst : Nat) (payload : List Byte) (peer : Option (Nat × Nat)) :
  (sendAcyclic s p type dst payload peer).pending = s.pending := by unfold sendAcyclic; simp
@[simp] theorem drainTx_pending (s : State) (p : Nat) : (drainTx s p).pending = s.pending := by unfold drainTx; simp
@[simp] theorem startBlock_pending (s : State) (p j : Nat) : (startBlock s p j).pending = s.pending := by
  unfold startBlock; (repeat' split) <;> simp
@[simp] theorem poll_pending (s : State) (p n : Nat) : (poll s p n).pending = s.pending := by unfold poll; simp
@[simp] theorem pollIdle_pending (s : State) (p : Nat) : (pollIdle s p).pending = s.pending := by
  unfold pollIdle; (repeat' split) <;> simp
@[simp] theorem nextPoll_pending (s : State) (p : Nat) : (nextPoll s p).pending = s.pending := by unfold nextPoll; split <;> simp
@[simp] theorem restartPort_pending (s : State) (p : Nat) (enable : Bool) : (restartPort s p enable).pending = s.pending := by
  unfold restartPort; simp
@[simp] theorem pollFirst_pending (s : State) (n : Nat) : (pollFirst s n).pending = s.pending := by unfold pollFirst; simp
@[simp] theorem sendNotice_pending (s : State) (q : Nat × Nat × Nat) : (sendNotice s q).pending = s.pending := by unfold sendNotice; simp
@[simp] theorem sendNotices_pending (s : State) : (sendNotices s).pending = s.pending := by unfold sendNotices; simp
@[simp] theorem authDrop_pending (s : State) : (authDrop s).pending = s.pending := (rfl)
@[simp] theorem dropAcc_pending (s : State) (a : Accessor) : (dropAcc s a).pending = s.pending := (rfl)
@[simp] theorem releaseStager_pending (s : State) (a : Accessor) : (releaseStager s a).pending = s.pending := by unfold releaseStager; simp
@[simp] theorem endSession_pending (s : State) (id : Nat) : (endSession s id).pending = s.pending := by unfold endSession; simp

/-! ## TenantOps -/

@[simp] theorem aerError_pending (s : State) (fn : Nat) (e : IngestError) : (aerError s fn e).pending = s.pending := by
  unfold aerError; split <;> simp
@[simp] theorem moveBufHead_pending (s : State) (t : Nat) : (moveBufHead s t).pending = s.pending := by unfold moveBufHead; simp
@[simp] theorem bellError_pending (s : State) (t : Nat) : (bellError s t).pending = s.pending := by unfold bellError; simp
@[simp] theorem tailBell_pending (s : State) (t i : Nat) : (tailBell s t i).pending = s.pending := by unfold tailBell; simp
@[simp] theorem headBell_pending (s : State) (t i : Nat) : (headBell s t i).pending = s.pending := by unfold headBell; simp
@[simp] theorem cancelBell_pending (s : State) (t i : Nat) : (cancelBell s t i).pending = s.pending := by unfold cancelBell; simp
@[simp] theorem ringBell_pending (s : State) (t kind i : Nat) : (ringBell s t kind i).pending = s.pending := by unfold ringBell; simp
@[simp] theorem fetchBurst_pending (s : State) (t : Nat) : (fetchBurst s t).pending = s.pending := (rfl)
@[simp] theorem takeDescriptor_pending (s : State) (t : Nat) (d : List Byte) : (takeDescriptor s t d).pending = s.pending := by
  unfold takeDescriptor; simp
@[simp] theorem startFetch_pending (s : State) (t : Nat) : (startFetch s t).pending = s.pending := by unfold startFetch; split <;> simp
@[simp] theorem refreshCandidates_pending (s : State) : (refreshCandidates s).pending = s.pending := by unfold refreshCandidates; simp
@[simp] theorem advanceV_pending (s : State) (t lines : Nat) : (advanceV s t lines).pending = s.pending := by unfold advanceV; simp
@[simp] theorem clearRings_pending (s : State) (t : Nat) : (clearRings s t).pending = s.pending := (rfl)
@[simp] theorem resetComplete_pending (s : State) (t : Nat) : (resetComplete s t).pending = s.pending := by unfold resetComplete; simp
@[simp] theorem tenantReset_pending (s : State) (t cause : Nat) : (tenantReset s t cause).pending = s.pending := by unfold tenantReset; simp
@[simp] theorem resetAllTenants_pending (s : State) : (resetAllTenants s).pending = s.pending := by unfold resetAllTenants; simp
@[simp] theorem functionEnds_pending (s : State) (fn : Nat) : (functionEnds s fn).pending = s.pending := by unfold functionEnds; split <;> simp
@[simp] theorem enableTenant_pending (s : State) (t : Nat) : (enableTenant s t).pending = s.pending := (rfl)
@[simp] theorem scrubDone_pending (s : State) (t : Nat) : (scrubDone s t).pending = s.pending := by unfold scrubDone; simp
@[simp] theorem fenceViolation_pending (s : State) (t : Nat) : (fenceViolation s t).pending = s.pending := by unfold fenceViolation; simp

/-! ## Checks -/

@[simp] theorem merged_pending (s : State) (g : Nat) : (merged s g).pending = s.pending := (rfl)
@[simp] theorem dropStaged_pending (s : State) (g : Nat) : (dropStaged s g).pending = s.pending := (rfl)
@[simp] theorem copyGroup_pending (s : State) (g : Nat) : (copyGroup s g).pending = s.pending := (rfl)

/-! ## Modes -/

@[simp] theorem restoreBands_pending (s : State) (l : Tab Nat) : (restoreBands s l).pending = s.pending := (rfl)
@[simp] theorem rejectGroup_pending (s : State) (g : Nat) : (rejectGroup s g).pending = s.pending := by unfold rejectGroup; simp
@[simp] theorem setDlls_pending (s : State) (v : Nat) : (setDlls s v).pending = s.pending := by unfold setDlls; simp
@[simp] theorem closeGate_pending (s : State) : (closeGate s).pending = s.pending := by unfold closeGate; simp
@[simp] theorem relockAttempt_pending (s : State) : (relockAttempt s).pending = s.pending := (rfl)
@[simp] theorem startRelock_pending (s : State) (occ : Occasion) : (startRelock s occ).pending = s.pending := by unfold startRelock; simp
@[simp] theorem stopTimebase_pending (s : State) : (stopTimebase s).pending = s.pending := by unfold stopTimebase; simp
@[simp] theorem recordMode_pending (s : State) (new : Mode) (cause : Nat) : (recordMode s new cause).pending = s.pending := by unfold recordMode; simp
@[simp] theorem sayMode_pending (s : State) (ports : List Nat) : (sayMode s ports).pending = s.pending := by unfold sayMode; simp
@[simp] theorem loopModeOff_pending (s : State) (n : Nat) : (loopModeOff s n).pending = s.pending := by unfold loopModeOff; simp
@[simp] theorem loopModeOn_pending (s : State) (b n : Nat) : (loopModeOn s b n).pending = s.pending := by unfold loopModeOn; simp
@[simp] theorem rampMotors_pending (s : State) : (rampMotors s).pending = s.pending := by unfold rampMotors; simp
@[simp] theorem rampAxes_pending (s : State) : (rampAxes s).pending = s.pending := by unfold rampAxes; simp
@[simp] theorem rasterOff_pending (s : State) : (rasterOff s).pending = s.pending := by unfold rasterOff; simp
@[simp] theorem serviceOff_pending (s : State) : (serviceOff s).pending = s.pending := by unfold serviceOff; simp
@[simp] theorem ringBells_pending (s : State) : (ringBells s).pending = s.pending := by unfold ringBells; simp
@[simp] theorem dozeRailsOn_pending (s : State) : (dozeRailsOn s).pending = s.pending := (rfl)
@[simp] theorem leaveDoze_pending (s : State) : (leaveDoze s).pending = s.pending := by unfold leaveDoze; simp
@[simp] theorem intoStandby_pending (s : State) (old : Mode) : (intoStandby s old).pending = s.pending := by unfold intoStandby; simp
@[simp] theorem intoWarmup_pending (s : State) : (intoWarmup s).pending = s.pending := by unfold intoWarmup; simp
@[simp] theorem intoDoze_pending (s : State) : (intoDoze s).pending = s.pending := by unfold intoDoze; simp
@[simp] theorem intoShutdown_pending (s : State) : (intoShutdown s).pending = s.pending := by unfold intoShutdown; simp
@[simp] theorem modeActions_pending (s : State) (old : Mode) : (modeActions s old).pending = s.pending := by unfold modeActions; split <;> simp
@[simp] theorem settlePending_pending (s : State) : (settlePending s).pending = s.pending := by unfold settlePending; split <;> simp
@[simp] theorem enterMode_pending (s : State) (new : Mode) (cause : Nat) : (enterMode s new cause).pending = s.pending := by unfold enterMode; simp
@[simp] theorem recordCause_pending (s : State) (cause : Nat) : (recordCause s cause).pending = s.pending := (rfl)
@[simp] theorem safestopMotor_pending (s : State) (m : Nat) : (safestopMotor s m).pending = s.pending := by unfold safestopMotor; simp
@[simp] theorem safestopAxisAll_pending (s : State) (a : Nat) : (safestopAxisAll s a).pending = s.pending := by unfold safestopAxisAll; simp
@[simp] theorem withdrawEvery_pending (s : State) : (withdrawEvery s).pending = s.pending := by unfold withdrawEvery; simp
@[simp] theorem dozeToSafestop_pending (s : State) : (dozeToSafestop s).pending = s.pending := by unfold dozeToSafestop; simp
@[simp] theorem safestopEnter_pending (s : State) (cause : Nat) : (safestopEnter s cause).pending = s.pending := by unfold safestopEnter; simp
@[simp] theorem safestop_pending (s : State) (cause : Nat) : (safestop s cause).pending = s.pending := by unfold safestop; split <;> simp
@[simp] theorem safestopRequest_pending (s : State) : (safestopRequest s).pending = s.pending := by unfold safestopRequest; simp
@[simp] theorem safestopBy_pending (s : State) (cause inst : Nat) : (safestopBy s cause inst).pending = s.pending := by unfold safestopBy; simp
@[simp] theorem onDouble_pending (r : State × Bool) : (onDouble r).pending = r.1.pending := by unfold onDouble; simp
@[simp] theorem onDoubleBy_pending (inst : Nat) (r : State × Bool) : (onDoubleBy inst r).pending = r.1.pending := by unfold onDoubleBy; simp
@[simp] theorem onCause_pending (r : State × Option Nat) : (onCause r).pending = r.1.pending := by unfold onCause; split <;> simp
@[simp] theorem onPartner_pending (n : Nat) (r : State × Bool) : (onPartner n r).pending = r.1.pending := by unfold onPartner; simp
@[simp] theorem acknowledge_pending (s : State) : (acknowledge s).pending = s.pending := by unfold acknowledge; simp
@[simp] theorem safestopDone_pending (s : State) : (safestopDone s).pending = s.pending := by unfold safestopDone; simp
@[simp] theorem beginDoze_pending (s : State) (cause : Nat) : (beginDoze s cause).pending = s.pending := by unfold beginDoze; simp
@[simp] theorem beginWake_pending (s : State) (cause : Nat) : (beginWake s cause).pending = s.pending := by unfold beginWake; simp
@[simp] theorem stepTo_pending (s : State) (p : Mode) : (stepTo s p).pending = s.pending := by unfold stepTo; simp
@[simp] theorem setPending_pending (s : State) (p : Mode) : (setPending s p).pending = s.pending := by unfold setPending; simp
@[simp] theorem doRequest_pending (s : State) (p : Mode) : (doRequest s p).pending = s.pending := by unfold doRequest; simp
@[simp] theorem settle_pending (s : State) : (settle s).pending = s.pending := by
  unfold settle; simp only; (repeat' split) <;> simp
theorem done_pending (s : State) : ∃ w, done s = .next (settle w) ∧ w.pending = s.pending := by
  unfold done; exact ⟨_, rfl, by simp⟩

/-! ## FlashImage -/

@[simp] theorem putRail_pending (s : State) (r : Nat) (x : RailRow) : (putRail s r x).pending = s.pending := by unfold putRail; simp
@[simp] theorem putTable_pending (s : State) (code retry pause : Nat) (l : List RailRow) : (putTable s code retry pause l).pending = s.pending := by
  unfold putTable; simp
theorem selectTable_pending (s t : State) (h : selectTable s = some t) : t.pending = s.pending := by
  unfold selectTable at h
  simp only at h
  (repeat' split at h) <;> simp_all <;> (rw [← h]; simp)

/-! ## Reset -/

@[simp] theorem programRecord_pending (s : State) (k : Nat) (l : List (List Byte)) (r : JRecord) :
  (programRecord s k l r).pending = s.pending := (rfl)
@[simp] theorem writeJournal_pending (s : State) (r : JRecord) : (writeJournal s r).pending = s.pending := by unfold writeJournal; simp
@[simp] theorem putReasons_pending (s : State) (l : List Nat) : (putReasons s l).pending = s.pending := by unfold putReasons; simp
@[simp] theorem clearFailures_pending (s : State) : (clearFailures s).pending = s.pending := by unfold clearFailures; simp
@[simp] theorem railOff_pending (s : State) (r st : Nat) : (railOff s r st).pending = s.pending := (rfl)
@[simp] theorem allRailsOff_pending (s : State) : (allRailsOff s).pending = s.pending := by unfold allRailsOff; simp
@[simp] theorem beginOff_pending (s : State) (why : OffReason) : (beginOff s why).pending = s.pending := (rfl)
@[simp] theorem discardAllStaged_pending (s : State) : (discardAllStaged s).pending = s.pending := by unfold discardAllStaged; simp
@[simp] theorem warmKept_pending (s : State) : (warmKept s).pending = s.pending := (rfl)
@[simp] theorem logStart_pending (s : State) : (logStart s).pending = s.pending := by unfold logStart; simp
@[simp] theorem keepIlock_pending (s : State) : (keepIlock s).pending = s.pending := by unfold keepIlock; simp
@[simp] theorem clearBlock_pending (s : State) (cause : Nat) : (clearBlock s cause).pending = s.pending := by unfold clearBlock; simp
@[simp] theorem ringStart_pending (s : State) : (ringStart s).pending = s.pending := by
  unfold ringStart; simp only; (repeat' split) <;> simp
@[simp] theorem keepKickObjects_pending (old s : State) : (keepKickObjects old s).pending = s.pending := (rfl)
@[simp] theorem enterHold_pending (s : State) (h : Hold) : (enterHold s h).pending = s.pending := by unfold enterHold; simp
@[simp] theorem startOn_pending (s : State) (terp : Bool) : (startOn s terp).pending = s.pending := by unfold startOn; simp
@[simp] theorem strapDefaults_pending (s : State) : (strapDefaults s).pending = s.pending := by unfold strapDefaults; simp
@[simp] theorem debugStart_pending (s : State) : (debugStart s).pending = s.pending := by unfold debugStart; simp
@[simp] theorem enterTerp_pending (s : State) (reason : Nat) : (enterTerp s reason).pending = s.pending := by
  unfold enterTerp
  simp only
  split
  · rename_i h
    simp [selectTable_pending _ _ h]
  · simp
@[simp] theorem kickoffStart_pending (s : State) : (kickoffStart s).pending = s.pending := by unfold kickoffStart; simp
@[simp] theorem warmReset_pending (s : State) (cause : Nat) (ran : Bool) : (warmReset s cause ran).pending = s.pending := by unfold warmReset; simp
@[simp] theorem failKickoff_pending (s : State) (reason detail : Nat) : (failKickoff s reason detail).pending = s.pending := by
  unfold failKickoff; simp
@[simp] theorem holdEnded_pending (s : State) : (holdEnded s).pending = s.pending := by unfold holdEnded; split <;> simp
@[simp] theorem porst_pending (s : State) : (porst s).pending = s.pending := by unfold porst; simp
@[simp] theorem porstReleased_pending (s : State) : (porstReleased s).pending = s.pending := by unfold porstReleased; simp
@[simp] theorem powerLost_pending (s : State) : (powerLost s).pending = s.pending := (rfl)
@[simp] theorem resumeMirror_pending (s : State) : (resumeMirror s).pending = s.pending := by unfold resumeMirror; simp
@[simp] theorem lateEntries_pending (s : State) : (lateEntries s).pending = s.pending := by unfold lateEntries; split <;> simp
@[simp] theorem passResets_pending (s : State) : (passResets s).pending = s.pending := by unfold passResets; simp
@[simp] theorem causesAtEnd_pending (s : State) : (causesAtEnd s).pending = s.pending := by unfold causesAtEnd; simp
@[simp] theorem finishKickoff_pending (s : State) : (finishKickoff s).pending = s.pending := by unfold finishKickoff; simp

/-! ## Operands -/

@[simp] theorem setAcc_pending (s : State) (a : Accessor) (f : AccState → AccState) : (setAcc s a f).pending = s.pending := (rfl)

/-! ## Actions -/

@[simp] theorem speedNow_pending (s : State) (m k : Nat) (own : Bool) : (speedNow s m k own).pending = s.pending := by unfold speedNow; simp
@[simp] theorem motorFault_pending (s : State) (m code : Nat) : (motorFault s m code).pending = s.pending := by unfold motorFault; simp
@[simp] theorem hallSpeed_pending (s : State) (m : Nat) (back : Bool) (p : Nat) : (hallSpeed s m back p).pending = s.pending := by
  unfold hallSpeed; simp
@[simp] theorem countTurn_pending (s : State) (m : Nat) : (countTurn s m).pending = s.pending := by unfold countTurn; simp
@[simp] theorem enterSector_pending (s : State) (m code k t : Nat) (back : Bool) : (enterSector s m code k t back).pending = s.pending := by
  unfold enterSector; simp
@[simp] theorem hallFault_pending (s : State) (m : Nat) : (hallFault s m).pending = s.pending := by unfold hallFault; simp
@[simp] theorem hallEdge_pending (s : State) (n code t : Nat) : (hallEdge s n code t).pending = s.pending := by
  unfold hallEdge; (repeat' split) <;> simp
@[simp] theorem deferAxis_pending (s : State) (a : Nat) (c : AxisDeferred) : (deferAxis s a c).pending = s.pending := by
  unfold deferAxis; split <;> simp
@[simp] theorem moveNow_pending (s : State) (a v : Nat) : (moveNow s a v).1.pending = s.pending := by
  unfold moveNow; (repeat' split) <;> simp
@[simp] theorem moveCommand_pending (s : State) (a v : Nat) : (moveCommand s a v).pending = s.pending := by unfold moveCommand; split <;> simp
@[simp] theorem stopCommand_pending (s : State) (a : Nat) (hard : Bool) : (stopCommand s a hard).pending = s.pending := by
  unfold stopCommand; split <;> simp
@[simp] theorem resumeCommand_pending (s : State) (a : Nat) : (resumeCommand s a).pending = s.pending := by unfold resumeCommand; split <;> simp
@[simp] theorem homeCommand_pending (s : State) (a : Nat) : (homeCommand s a).pending = s.pending := by unfold homeCommand; simp
@[simp] theorem driverDouble_pending (s : State) (a : Nat) : (driverDouble s a).pending = s.pending := by unfold driverDouble; simp
@[simp] theorem driverFault_pending (s : State) (a : Nat) : (driverFault s a).pending = s.pending := by unfold driverFault; simp
@[simp] theorem fltActive_pending (s : State) (a : Nat) : (fltActive s a).pending = s.pending := by unfold fltActive; simp
@[simp] theorem fltInactive_pending (s : State) (a : Nat) : (fltInactive s a).pending = s.pending := by unfold fltInactive; simp
@[simp] theorem homingLimit_pending (s : State) (a : Nat) (positive : Bool) : (homingLimit s a positive).pending = s.pending := by
  unfold homingLimit; simp
@[simp] theorem limitActive_pending (s : State) (a : Nat) (positive : Bool) : (limitActive s a positive).pending = s.pending := by
  unfold limitActive; (repeat' split) <;> simp
@[simp] theorem conflictBegins_pending (s : State) (c : Nat) : (conflictBegins s c).pending = s.pending := by
  unfold conflictBegins; (repeat' split) <;> simp
@[simp] theorem conflictEnds_pending (s : State) (c : Nat) : (conflictEnds s c).pending = s.pending := by
  unfold conflictEnds; (repeat' split) <;> simp
@[simp] theorem claimsTaken_pending (s : State) : (claimsTaken s).pending = s.pending := by unfold claimsTaken; simp
@[simp] theorem enableNow_pending (s : State) (a v : Nat) : (enableNow s a v).pending = s.pending := by unfold enableNow; simp
@[simp] theorem injectionStart_pending (s : State) : (injectionStart s).pending = s.pending := (rfl)
@[simp] theorem injectionStop_pending (s : State) : (injectionStop s).pending = s.pending := (rfl)
@[simp] theorem captureArm_pending (s : State) : (captureArm s).pending = s.pending := (rfl)

/-! ## Fire -/

@[simp] theorem flagEvent_pending (s : State) (e : Event) : (flagEvent s e).pending = s.pending := by unfold flagEvent; simp
@[simp] theorem markFired_pending (s : State) (k : Nat) (e : Event) (late : Bool) : (markFired s k e late).pending = s.pending := by
  unfold markFired; split <;> simp
@[simp] theorem mistime_pending (s : State) (k old new : Nat) : (mistime s k old new).pending = s.pending := by
  unfold mistime; refine (foldl_pending _ _ _ fun u x => ?_).trans ?_ <;> (repeat' split) <;> simp
@[simp] theorem freeFired_pending (s : State) : (freeFired s).pending = s.pending := by unfold freeFired; simp
@[simp] theorem decideRoute_pending (s : State) (uid : Nat) : (decideRoute s uid).pending = s.pending := (rfl)
@[simp] theorem dropEvent_pending (s : State) (k : Nat) : (dropEvent s k).pending = s.pending := by unfold dropEvent; simp
@[simp] theorem missMedium_pending (s : State) (uid : Nat) (allHv : Bool) : (missMedium s uid allHv).pending = s.pending := by unfold missMedium; simp
@[simp] theorem dropped_pending (e : Event) (r : State × Bool) : (dropped e r).pending = r.1.pending := by unfold dropped; split <;> simp
@[simp] theorem actMove_pending (s : State) (e : Event) : (actMove s e).pending = s.pending := by unfold actMove; simp
@[simp] theorem actStop_pending (s : State) (e : Event) : (actStop s e).pending = s.pending := by unfold actStop; simp
@[simp] theorem actSpeed_pending (s : State) (e : Event) : (actSpeed s e).pending = s.pending := by unfold actSpeed; simp
@[simp] theorem actPin_pending (s : State) (e : Event) : (actPin s e).pending = s.pending := by unfold actPin; simp
@[simp] theorem actArrival_pending (s : State) (e : Event) (seen : Bool) : (actArrival s e seen).pending = s.pending := by
  unfold actArrival; split <;> simp
@[simp] theorem actBank_pending (s : State) (e : Event) : (actBank s e).pending = s.pending := by unfold actBank; simp
@[simp] theorem actLoopOn_pending (s : State) (e : Event) : (actLoopOn s e).pending = s.pending := by unfold actLoopOn; simp
@[simp] theorem actLoopOff_pending (s : State) (e : Event) : (actLoopOff s e).pending = s.pending := by unfold actLoopOff; simp
@[simp] theorem actExit_pending (s : State) (e : Event) : (actExit s e).pending = s.pending := by
  unfold actExit; (repeat' split) <;> simp
@[simp] theorem actMark_pending (s : State) (e : Event) : (actMark s e).pending = s.pending := by unfold actMark; simp
@[simp] theorem actCapture_pending (s : State) (e : Event) : (actCapture s e).pending = s.pending := by unfold actCapture; simp
@[simp] theorem act_pending (s : State) (e : Event) (seen : Bool) : (act s e seen).pending = s.pending := by unfold act; split <;> simp
@[simp] theorem fire_pending (s : State) (k : Nat) (e : Event) (late seen : Bool) : (fire s k e late seen).pending = s.pending := by
  unfold fire; (repeat' split) <;> simp
@[simp] theorem fireSlot_pending (s : State) (k code : Nat) (seen : Bool) : (fireSlot s k code seen).pending = s.pending := by
  unfold fireSlot; split <;> simp
@[simp] theorem enterEvent_pending (s : State) (k : Nat) (e : Event) : (enterEvent s k e).pending = s.pending := by
  unfold enterEvent; simp only; (repeat' split) <;> simp
@[simp] theorem resolveEvents_pending (s : State) (uid : Nat) : (resolveEvents s uid).pending = s.pending := by unfold resolveEvents; simp

/-! ## Apply -/

@[simp] theorem geometryTaken_pending (old s : State) (n : Nat) : (geometryTaken old s n).pending = s.pending := by unfold geometryTaken; simp
@[simp] theorem loopTaken_pending (old s : State) (n : Nat) : (loopTaken old s n).pending = s.pending := by unfold loopTaken; simp
@[simp] theorem groupTaken_pending (old s : State) (g : Nat) : (groupTaken old s g).pending = s.pending := by unfold groupTaken; simp
@[simp] theorem takeGroup_pending (s : State) (g : Nat) : (takeGroup s g).pending = s.pending := by unfold takeGroup; simp
@[simp] theorem armGroup_pending (s : State) (g : Nat) : (armGroup s g).pending = s.pending := (rfl)
@[simp] theorem refuseGroup_pending (s : State) (g : Nat) : (refuseGroup s g).pending = s.pending := (rfl)
@[simp] theorem applyGroup_pending (s : State) (passed : List Nat) (g : Nat) : (applyGroup s passed g).1.pending = s.pending := by
  unfold applyGroup; simp
@[simp] theorem applyNext_pending (p : State × Nat × List Nat) (g : Nat) : (applyNext p g).1.pending = p.1.pending := by unfold applyNext; simp
@[simp] theorem applyAll_pending (s : State) (acc : Accessor) : (applyAll s acc).1.pending = s.pending := by unfold applyAll; split <;> simp
@[simp] theorem discard_pending (s : State) (acc : Accessor) (g : Nat) : (discard s acc g).pending = s.pending := by unfold discard; simp
@[simp] theorem stageBy_pending (s : State) (acc : Accessor) (g : Nat) : (stageBy s acc g).pending = s.pending := by unfold stageBy; simp
@[simp] theorem stageNum_pending (s : State) (acc : Accessor) (idx sub v : Nat) : (stageNum s acc idx sub v).pending = s.pending := by
  unfold stageNum; simp
@[simp] theorem stageBlob_pending (s : State) (acc : Accessor) (idx sub : Nat) (l : List Byte) :
  (stageBlob s acc idx sub l).pending = s.pending := by unfold stageBlob; simp
@[simp] theorem takeArmed_pending (s : State) (g : Nat) : (takeArmed s g).pending = s.pending := by unfold takeArmed; simp

/-! ## Write -/

@[simp] theorem store_pending (s : State) (idx sub v : Nat) : (store s idx sub v).pending = s.pending := by unfold store; simp
@[simp] theorem thresholdWrite_pending (s : State) (idx sub v : Nat) : (thresholdWrite s idx sub v).pending = s.pending := by
  unfold thresholdWrite; split <;> simp
@[simp] theorem lockWrite_pending (s : State) (acc : Accessor) (p v : Nat) : (lockWrite s acc p v).pending = s.pending := by unfold lockWrite; simp
@[simp] theorem breakLock_pending (s : State) (acc : Accessor) (idx sub : Nat) : (breakLock s acc idx sub).pending = s.pending := by
  unfold breakLock; simp
@[simp] theorem partnerHoldEnds_pending (s : State) (n : Nat) : (partnerHoldEnds s n).pending = s.pending := by unfold partnerHoldEnds; split <;> simp
@[simp] theorem partnerPort_pending (s : State) (n v : Nat) : (partnerPort s n v).pending = s.pending := by unfold partnerPort; simp
@[simp] theorem endSlotSessions_pending (s : State) (slot : Nat) : (endSlotSessions s slot).pending = s.pending := by unfold endSlotSessions; simp
@[simp] theorem relockWrite_pending (s : State) : (relockWrite s).pending = s.pending := by unfold relockWrite; simp
@[simp] theorem serviceLight_pending (s : State) (n v : Nat) : (serviceLight s n v).pending = s.pending := by unfold serviceLight; simp
@[simp] theorem takeHeldLight_pending (s : State) (n : Nat) : (takeHeldLight s n).pending = s.pending := by unfold takeHeldLight; simp
@[simp] theorem postEvent_pending (s : State) (d : List Byte) : (postEvent s d).pending = s.pending := by unfold postEvent; split <;> simp
@[simp] theorem cancelTag_pending (s : State) (tag : Nat) : (cancelTag s tag).pending = s.pending := by unfold cancelTag; simp
@[simp] theorem terpRestart_pending (s : State) : (terpRestart s).pending = s.pending := by unfold terpRestart; simp
@[simp] theorem effectSystem_pending (s : State) (acc : Accessor) (idx sub v : Nat) (d : List Byte) :
  (effectSystem s acc idx sub v d).1.pending = s.pending := by
  unfold effectSystem; (repeat' split) <;> simp
@[simp] theorem effectHost_pending (s : State) (idx sub v : Nat) (d : List Byte) : (effectHost s idx sub v d).pending = s.pending := by
  unfold effectHost; simp only; (repeat' split) <;> simp
@[simp] theorem effectMotion_pending (s : State) (idx sub v : Nat) : (effectMotion s idx sub v).pending = s.pending := by
  unfold effectMotion; (repeat' split) <;> simp
@[simp] theorem effectLoop_pending (s : State) (idx sub v : Nat) : (effectLoop s idx sub v).pending = s.pending := by
  unfold effectLoop; (repeat' split) <;> simp
@[simp] theorem effectPins_pending (s : State) (acc : Accessor) (idx sub v : Nat) : (effectPins s acc idx sub v).pending = s.pending := by
  unfold effectPins; simp
@[simp] theorem effectNet_pending (s : State) (idx sub v : Nat) (d : List Byte) : (effectNet s idx sub v d).pending = s.pending := by
  unfold effectNet; (repeat' split) <;> simp
@[simp] theorem writeEffect_pending (s : State) (acc : Accessor) (r : Row) (idx sub v : Nat) (d : List Byte) :
  (writeEffect s acc r idx sub v d).1.pending = s.pending := by unfold writeEffect; simp
@[simp] theorem writeDict_pending (acc : Accessor) (idx sub : Nat) (d : List Byte) (s : State) :
  (writeDict acc idx sub d s).1.pending = s.pending := by unfold writeDict; simp
@[simp] theorem writeCommand_pending (acc : Accessor) (idx sub : Nat) (d : List Byte) (s : State) :
  (writeCommand acc idx sub d s).pending = s.pending := by unfold writeCommand; simp
@[simp] theorem readEffect_pending (s : State) (acc : Accessor) (idx sub : Nat) : (readEffect s acc idx sub).pending = s.pending := by
  unfold readEffect; (repeat' split) <;> simp
@[simp] theorem readDict_pending (acc : Accessor) (idx sub : Nat) (s : State) : (readDict acc idx sub s).1.pending = s.pending := by
  unfold readDict; simp
@[simp] theorem readCommand_pending (acc : Accessor) (idx sub : Nat) (s : State) : (readCommand acc idx sub s).pending = s.pending := by
  unfold readCommand; simp

/-! ## NetServe -/

@[simp] theorem setSession_pending (s : State) (id : Nat) (f : Session → Session) : (setSession s id f).pending = s.pending := (rfl)
@[simp] theorem authGate_pending (s : State) (x : FrameSrc) (u : Pdu) : (authGate s x u).1.pending = s.pending := by
  unfold authGate; (repeat' split) <;> simp
@[simp] theorem expireSession_pending (s : State) (x : FrameSrc) : (expireSession s x).pending = s.pending := by unfold expireSession; split <;> simp
@[simp] theorem sendSigned_pending (s : State) (x : FrameSrc) (y : Session) (type : Nat) (payload : List Byte) :
  (sendSigned s x y type payload).pending = s.pending := by unfold sendSigned; simp
@[simp] theorem sendTo_pending (s : State) (x : FrameSrc) (type : Nat) (payload : List Byte) : (sendTo s x type payload).pending = s.pending := by
  unfold sendTo; (repeat' split) <;> simp
@[simp] theorem partnerGoes_pending (s : State) (n v : Nat) : (partnerGoes s n v).pending = s.pending := by unfold partnerGoes; simp
@[simp] theorem rollcallState_pending (s : State) : (rollcallState s).pending = s.pending := by unfold rollcallState; simp
@[simp] theorem afterBlock_pending (s : State) (p : Nat) : (afterBlock s p).pending = s.pending := by unfold afterBlock; simp
@[simp] theorem startRollcall_pending (s : State) : (startRollcall s).pending = s.pending := by unfold startRollcall; simp
@[simp] theorem dropTransfer_pending (s : State) (x : FrameSrc) (tid : Nat) (own : Bool) : (dropTransfer s x tid own).pending = s.pending := (rfl)
@[simp] theorem keepTransfer_pending (s : State) (f : Transfer) : (keepTransfer s f).pending = s.pending := (rfl)
@[simp] theorem sendSegment_pending (s : State) (f : Transfer) (k : Nat) : (sendSegment s f k).pending = s.pending := by unfold sendSegment; simp
@[simp] theorem sendBlock_pending (s : State) (f : Transfer) (k : Nat) : (sendBlock s f k).pending = s.pending := by unfold sendBlock; simp
@[simp] theorem answer_pending (s : State) (x : FrameSrc) (tid : Nat) (req : Pdu) (type : Nat) (payload : List Byte) :
  (answer s x tid req type payload).pending = s.pending := by unfold answer; simp
@[simp] theorem countServed_pending (s : State) (a : Accessor) : (countServed s a).pending = s.pending := by unfold countServed; split <;> simp
@[simp] theorem serveRead_pending (s : State) (x : FrameSrc) (tid idx sub : Nat) (req : Pdu) :
  (serveRead s x tid idx sub req).pending = s.pending := by unfold serveRead; simp
@[simp] theorem serveWrite_pending (s : State) (x : FrameSrc) (tid idx sub : Nat) (d : List Byte) (req : Pdu) :
  (serveWrite s x tid idx sub d req).pending = s.pending := by unfold serveWrite; simp
@[simp] theorem serveWriteSeg_pending (s : State) (x : FrameSrc) (tid idx sub total : Nat) (req : Pdu) :
  (serveWriteSeg s x tid idx sub total req).pending = s.pending := by unfold serveWriteSeg; simp
@[simp] theorem request_pending (s : State) (x : FrameSrc) (ahead tid : Nat) (req : Pdu) (serve : State → State)
    (h : ∀ u, (serve u).pending = u.pending) : (request s x ahead tid req serve).pending = s.pending := by
  unfold request; (repeat' split) <;> simp [h]
@[simp] theorem finishTaking.serveDropOwn_pending (t : State) (f : Transfer) : (finishTaking.serveDropOwn t f).pending = t.pending := by
  unfold finishTaking.serveDropOwn; simp
@[simp] theorem finishTaking_pending (s : State) (f : Transfer) (short : Bool) : (finishTaking s f short).pending = s.pending := by
  unfold finishTaking; simp only; (repeat' split) <;> simp
@[simp] theorem takeSegment_pending (s : State) (f : Transfer) (last : Bool) (d : List Byte) : (takeSegment s f last d).pending = s.pending := by
  unfold takeSegment; simp
@[simp] theorem serveSegment_pending (s : State) (x : FrameSrc) (tid : Nat) (last : Bool) (seq : Nat) (d : List Byte) :
  (serveSegment s x tid last seq d).pending = s.pending := by unfold serveSegment; split <;> simp
@[simp] theorem lateAnswer_pending (s : State) (x : FrameSrc) : (lateAnswer s x).pending = s.pending := (rfl)
@[simp] theorem serveAck_pending (s : State) (x : FrameSrc) (tid seq : Nat) : (serveAck s x tid seq).pending = s.pending := by
  unfold serveAck; split <;> simp
@[simp] theorem serveAbort_pending (s : State) (x : FrameSrc) (tid : Nat) : (serveAbort s x tid).pending = s.pending := (rfl)
@[simp] theorem serveReadResponse_pending (s : State) (x : FrameSrc) (tid status : Nat) (d : List Byte) :
  (serveReadResponse s x tid status d).pending = s.pending := by unfold serveReadResponse; split <;> simp
@[simp] theorem serveWriteResponse_pending (s : State) (x : FrameSrc) (tid status : Nat) :
  (serveWriteResponse s x tid status).pending = s.pending := by unfold serveWriteResponse; split <;> simp
@[simp] theorem writeEntries_pending (s : State) (a : Accessor) (a1 : List Nat) (a2 : List Byte) : (writeEntries s a a1 a2).pending = s.pending := by
  fun_induction writeEntries s a a1 a2 <;> simp +zetaDelta [*]
@[simp] theorem serveCyclic_pending (s : State) (x : FrameSrc) (m : Nat) (d : List Byte) : (serveCyclic s x m d).pending = s.pending := by
  unfold serveCyclic; simp
@[simp] theorem classify_pending (s : State) (p n identity plca : Nat) : (classify s p n identity plca).pending = s.pending := by
  unfold classify; simp
@[simp] theorem rememberAnswer_pending (s : State) (p n : Nat) : (rememberAnswer s p n).pending = s.pending := by unfold rememberAnswer; simp
@[simp] theorem pollOver_pending (s : State) (p : Nat) : (pollOver s p).pending = s.pending := by unfold pollOver; simp
@[simp] theorem serveAnswer_pending (s : State) (x : FrameSrc) (identity plca : Nat) : (serveAnswer s x identity plca).pending = s.pending := by
  unfold serveAnswer; simp
@[simp] theorem rollcallDone_pending (s : State) : (rollcallDone s).pending = s.pending := by unfold rollcallDone; simp
@[simp] theorem serveRollcall_pending (s : State) (x : FrameSrc) (base slots : Nat) : (serveRollcall s x base slots).pending = s.pending := by
  unfold serveRollcall; simp
@[simp] theorem serveClose_pending (s : State) (x : FrameSrc) : (serveClose s x).pending = s.pending := by unfold serveClose; split <;> simp
@[simp] theorem serveHello_pending (s : State) (x : FrameSrc) (slot : Nat) (nonce : List Byte) :
  (serveHello s x slot nonce).pending = s.pending := by unfold serveHello; split <;> simp
@[simp] theorem servePdu_pending (s : State) (x : FrameSrc) (ahead : Nat) (u : Pdu) : (servePdu s x ahead u).pending = s.pending := by
  cases u <;> simp [servePdu]
@[simp] theorem serveOne_pending (s : State) (x : FrameSrc) (ahead : Nat) (u : Pdu) : (serveOne s x ahead u).pending = s.pending := by
  unfold serveOne; simp
@[simp] theorem serveQueue_pending (b l : List (FrameSrc × Pdu)) (s : State) : (serveQueue b l s).pending = s.pending := by
  induction l generalizing b s with
  | nil => rfl
  | cons y l ih => simp [serveQueue, ih]
@[simp] theorem drainRx_pending (s : State) (p : Nat) : (drainRx s p).pending = s.pending := by unfold drainRx; simp
@[simp] theorem drainAll_pending (s : State) : (drainAll s).pending = s.pending := by unfold drainAll; simp
@[simp] theorem heard_pending (s : State) (x : FrameSrc) (answer : Bool) : (heard s x answer).pending = s.pending := by unfold heard; simp
@[simp] theorem debitReceived_pending (s : State) (x : FrameSrc) (u : Pdu) : (debitReceived s x u).pending = s.pending := by
  unfold debitReceived; simp
@[simp] theorem acknowledgeCan_pending (s : State) (p : Nat) : (acknowledgeCan s p).pending = s.pending := by unfold acknowledgeCan; simp
@[simp] theorem discardFrame_pending (s : State) (p : Nat) : (discardFrame s p).pending = s.pending := by unfold discardFrame; simp
@[simp] theorem receive_pending (s : State) (x : FrameSrc) (u : Pdu) : (receive s x u).pending = s.pending := by unfold receive; simp

/-! ## Dictionary -/

theorem execObjectWrite_pending (acc : Accessor) (idx sub : Nat) (data : List Byte) (s : State) :
  ∃ w, execObjectWrite acc idx sub data s = .next (settle w) ∧ w.pending = s.pending := by
  unfold execObjectWrite; exact ⟨_, rfl, by simp⟩
theorem execThresholdWrite_pending (acc : Accessor) (idx sub : Nat) (data : List Byte) (s : State) :
  ∃ w, execThresholdWrite acc idx sub data s = .next (settle w) ∧ w.pending = s.pending := by
  unfold execThresholdWrite; exact ⟨_, rfl, by simp⟩
theorem execWatermarkLatchRead_pending (acc : Accessor) (idx sub : Nat) (s : State) :
  ∃ w, execWatermarkLatchRead acc idx sub s = .next (settle w) ∧ w.pending = s.pending := by
  unfold execWatermarkLatchRead; exact ⟨_, rfl, by simp⟩
theorem execReadToClear_pending (acc : Accessor) (idx sub : Nat) (s : State) :
  ∃ w, execReadToClear acc idx sub s = .next (settle w) ∧ w.pending = s.pending := by
  unfold execReadToClear; exact ⟨_, rfl, by simp⟩
theorem execApply_pending (acc : Accessor) (data : List Byte) (s : State) : ∃ w, execApply acc data s = .next (settle w) ∧ w.pending = s.pending := by
  unfold execApply; exact ⟨_, rfl, by simp⟩
theorem execDiscardStaging_pending (acc : Accessor) (data : List Byte) (s : State) :
  ∃ w, execDiscardStaging acc data s = .next (settle w) ∧ w.pending = s.pending := by
  unfold execDiscardStaging; exact ⟨_, rfl, by simp⟩
theorem execDeferredGroupTake_pending (g : Fin 21) (s : State) : ∃ w, execDeferredGroupTake g s = .next (settle w) ∧ w.pending = s.pending := by
  unfold execDeferredGroupTake; (repeat' split) <;> exact ⟨_, rfl, by simp⟩
theorem execAnonymousAccessorTimeout_pending (ip port : Nat) (s : State) :
  ∃ w, execAnonymousAccessorTimeout ip port s = .next (settle w) ∧ w.pending = s.pending := by
  unfold execAnonymousAccessorTimeout; exact ⟨_, rfl, by simp⟩
theorem execPatronHeartbeat_pending (s : State) : ∃ w, execPatronHeartbeat s = .next (settle w) ∧ w.pending = s.pending := by
  unfold execPatronHeartbeat; (repeat' split) <;> exact ⟨_, rfl, by simp⟩
theorem execTerpRestart_pending (acc : Accessor) (data : List Byte) (s : State) :
  ∃ w, execTerpRestart acc data s = .next (settle w) ∧ w.pending = s.pending := by
  unfold execTerpRestart; exact ⟨_, rfl, by simp⟩
theorem execOwnerKeyWrite_pending (acc : Accessor) (data : List Byte) (s : State) :
  ∃ w, execOwnerKeyWrite acc data s = .next (settle w) ∧ w.pending = s.pending := by
  unfold execOwnerKeyWrite; exact ⟨_, rfl, by simp⟩
theorem execModeRequest_pending (acc : Accessor) (data : List Byte) (s : State) :
  ∃ w, execModeRequest acc data s = .next (settle w) ∧ w.pending = s.pending := by
  unfold execModeRequest; exact ⟨_, rfl, by simp⟩
theorem execSafestopAcknowledge_pending (acc : Accessor) (data : List Byte) (s : State) :
  ∃ w, execSafestopAcknowledge acc data s = .next (settle w) ∧ w.pending = s.pending := by
  unfold execSafestopAcknowledge; exact ⟨_, rfl, by simp⟩
theorem execAdmissionEnable_pending (acc : Accessor) (data : List Byte) (s : State) :
  ∃ w, execAdmissionEnable acc data s = .next (settle w) ∧ w.pending = s.pending := by
  unfold execAdmissionEnable; exact ⟨_, rfl, by simp⟩
theorem execRelock_pending (acc : Accessor) (data : List Byte) (s : State) :
  ∃ w, execRelock acc data s = .next (settle w) ∧ w.pending = s.pending := by
  unfold execRelock; exact ⟨_, rfl, by simp⟩
theorem execPortConfigWrite_pending (acc : Accessor) (p : Fin 7) (sub : Nat) (data : List Byte) (s : State) :
  ∃ w, execPortConfigWrite acc p sub data s = .next (settle w) ∧ w.pending = s.pending := by
  unfold execPortConfigWrite; exact ⟨_, rfl, by simp⟩
theorem execPartnerPortWrite_pending (acc : Accessor) (n : Fin 2048) (data : List Byte) (s : State) :
  ∃ w, execPartnerPortWrite acc n data s = .next (settle w) ∧ w.pending = s.pending := by
  unfold execPartnerPortWrite; exact ⟨_, rfl, by simp⟩
theorem execKeySlotWrite_pending (acc : Accessor) (sub : Nat) (data : List Byte) (s : State) :
  ∃ w, execKeySlotWrite acc sub data s = .next (settle w) ∧ w.pending = s.pending := by
  unfold execKeySlotWrite; exact ⟨_, rfl, by simp⟩
theorem execTenantResetWrite_pending (acc : Accessor) (t : Fin 64) (data : List Byte) (s : State) :
  ∃ w, execTenantResetWrite acc t data s = .next (settle w) ∧ w.pending = s.pending := by
  unfold execTenantResetWrite; exact ⟨_, rfl, by simp⟩
theorem execTenantEnable_pending (acc : Accessor) (t : Fin 64) (data : List Byte) (s : State) :
  ∃ w, execTenantEnable acc t data s = .next (settle w) ∧ w.pending = s.pending := by
  unfold execTenantEnable; exact ⟨_, rfl, by simp⟩
theorem execTenantDisable_pending (acc : Accessor) (t : Fin 64) (data : List Byte) (s : State) :
  ∃ w, execTenantDisable acc t data s = .next (settle w) ∧ w.pending = s.pending := by
  unfold execTenantDisable; exact ⟨_, rfl, by simp⟩
theorem execLinkRetrain_pending (acc : Accessor) (st : Fin 6) (data : List Byte) (s : State) :
  ∃ w, execLinkRetrain acc st data s = .next (settle w) ∧ w.pending = s.pending := by
  unfold execLinkRetrain; exact ⟨_, rfl, by simp⟩
theorem execServiceApcWindow_pending (acc : Accessor) (st : Fin 6) (data : List Byte) (s : State) :
  ∃ w, execServiceApcWindow acc st data s = .next (settle w) ∧ w.pending = s.pending := by
  unfold execServiceApcWindow; exact ⟨_, rfl, by simp⟩
theorem execServiceBdWindowsStart_pending (acc : Accessor) (st : Fin 6) (data : List Byte) (s : State) :
  ∃ w, execServiceBdWindowsStart acc st data s = .next (settle w) ∧ w.pending = s.pending := by
  unfold execServiceBdWindowsStart; exact ⟨_, rfl, by simp⟩
theorem execServiceBdWindowsStop_pending (acc : Accessor) (st : Fin 6) (data : List Byte) (s : State) :
  ∃ w, execServiceBdWindowsStop acc st data s = .next (settle w) ∧ w.pending = s.pending := by
  unfold execServiceBdWindowsStop; exact ⟨_, rfl, by simp⟩
theorem execServiceWindow_pending (acc : Accessor) (st : Fin 6) (data : List Byte) (s : State) :
  ∃ w, execServiceWindow acc st data s = .next (settle w) ∧ w.pending = s.pending := by
  unfold execServiceWindow; exact ⟨_, rfl, by simp⟩
theorem execPostEvent_pending (acc : Accessor) (data : List Byte) (s : State) :
  ∃ w, execPostEvent acc data s = .next (settle w) ∧ w.pending = s.pending := by
  unfold execPostEvent; exact ⟨_, rfl, by simp⟩
theorem execCancelByTag_pending (acc : Accessor) (data : List Byte) (s : State) :
  ∃ w, execCancelByTag acc data s = .next (settle w) ∧ w.pending = s.pending := by
  unfold execCancelByTag; exact ⟨_, rfl, by simp⟩
theorem execSpeedCommand_pending (acc : Accessor) (m : Fin 12) (data : List Byte) (s : State) :
  ∃ w, execSpeedCommand acc m data s = .next (settle w) ∧ w.pending = s.pending := by
  unfold execSpeedCommand; exact ⟨_, rfl, by simp⟩
theorem execAxisMoveCommand_pending (acc : Accessor) (a : Fin 16) (data : List Byte) (s : State) :
  ∃ w, execAxisMoveCommand acc a data s = .next (settle w) ∧ w.pending = s.pending := by
  unfold execAxisMoveCommand; exact ⟨_, rfl, by simp⟩
theorem execGroupMoveCommand_pending (acc : Accessor) (a : Fin 16) (data : List Byte) (s : State) :
  ∃ w, execGroupMoveCommand acc a data s = .next (settle w) ∧ w.pending = s.pending := by
  unfold execGroupMoveCommand; exact ⟨_, rfl, by simp⟩
theorem execAxisRampedStopCommand_pending (acc : Accessor) (a : Fin 16) (data : List Byte) (s : State) :
  ∃ w, execAxisRampedStopCommand acc a data s = .next (settle w) ∧ w.pending = s.pending := by
  unfold execAxisRampedStopCommand; exact ⟨_, rfl, by simp⟩
theorem execAxisHardStopCommand_pending (acc : Accessor) (a : Fin 16) (data : List Byte) (s : State) :
  ∃ w, execAxisHardStopCommand acc a data s = .next (settle w) ∧ w.pending = s.pending := by
  unfold execAxisHardStopCommand; exact ⟨_, rfl, by simp⟩
theorem execAxisResume_pending (acc : Accessor) (a : Fin 16) (data : List Byte) (s : State) :
  ∃ w, execAxisResume acc a data s = .next (settle w) ∧ w.pending = s.pending := by
  unfold execAxisResume; exact ⟨_, rfl, by simp⟩
theorem execAxisHome_pending (acc : Accessor) (a : Fin 16) (data : List Byte) (s : State) :
  ∃ w, execAxisHome acc a data s = .next (settle w) ∧ w.pending = s.pending := by
  unfold execAxisHome; exact ⟨_, rfl, by simp⟩
theorem execAxisEnable_pending (acc : Accessor) (a : Fin 16) (data : List Byte) (s : State) :
  ∃ w, execAxisEnable acc a data s = .next (settle w) ∧ w.pending = s.pending := by
  unfold execAxisEnable; exact ⟨_, rfl, by simp⟩
theorem execLoopOnCommand_pending (acc : Accessor) (n : Fin 48) (data : List Byte) (s : State) :
  ∃ w, execLoopOnCommand acc n data s = .next (settle w) ∧ w.pending = s.pending := by
  unfold execLoopOnCommand; exact ⟨_, rfl, by simp⟩
theorem execLoopOffCommand_pending (acc : Accessor) (n : Fin 48) (data : List Byte) (s : State) :
  ∃ w, execLoopOffCommand acc n data s = .next (settle w) ∧ w.pending = s.pending := by
  unfold execLoopOffCommand; exact ⟨_, rfl, by simp⟩
theorem execBankWrite_pending (acc : Accessor) (n : Fin 48) (data : List Byte) (s : State) :
  ∃ w, execBankWrite acc n data s = .next (settle w) ∧ w.pending = s.pending := by
  unfold execBankWrite; exact ⟨_, rfl, by simp⟩
theorem execInjectionStart_pending (acc : Accessor) (data : List Byte) (s : State) :
  ∃ w, execInjectionStart acc data s = .next (settle w) ∧ w.pending = s.pending := by
  unfold execInjectionStart; exact ⟨_, rfl, by simp⟩
theorem execInjectionStop_pending (acc : Accessor) (data : List Byte) (s : State) :
  ∃ w, execInjectionStop acc data s = .next (settle w) ∧ w.pending = s.pending := by
  unfold execInjectionStop; exact ⟨_, rfl, by simp⟩
theorem execCaptureArm_pending (acc : Accessor) (data : List Byte) (s : State) :
  ∃ w, execCaptureArm acc data s = .next (settle w) ∧ w.pending = s.pending := by
  unfold execCaptureArm; exact ⟨_, rfl, by simp⟩
theorem execCaptureTriggerWrite_pending (acc : Accessor) (data : List Byte) (s : State) :
  ∃ w, execCaptureTriggerWrite acc data s = .next (settle w) ∧ w.pending = s.pending := by
  unfold execCaptureTriggerWrite; exact ⟨_, rfl, by simp⟩
theorem execPinLock_pending (acc : Accessor) (p : Fin 96) (data : List Byte) (s : State) :
  ∃ w, execPinLock acc p data s = .next (settle w) ∧ w.pending = s.pending := by
  unfold execPinLock; exact ⟨_, rfl, by simp⟩
theorem execLockAll_pending (acc : Accessor) (data : List Byte) (s : State) :
  ∃ w, execLockAll acc data s = .next (settle w) ∧ w.pending = s.pending := by
  unfold execLockAll; exact ⟨_, rfl, by simp⟩
theorem execLogRead_pending (acc : Accessor) (s : State) : ∃ w, execLogRead acc s = .next (settle w) ∧ w.pending = s.pending := by
  unfold execLogRead; exact ⟨_, rfl, by simp⟩
theorem execNoticeRead_pending (acc : Accessor) (s : State) : ∃ w, execNoticeRead acc s = .next (settle w) ∧ w.pending = s.pending := by
  unfold execNoticeRead; exact ⟨_, rfl, by simp⟩

/-! ## Scheduler -/

@[simp] theorem commitSheet_pending (s : State) (uid : Nat) : (commitSheet s uid).pending = s.pending := by unfold commitSheet; split <;> simp
@[simp] theorem beginImage_pending (s : State) (st uid tooth : Nat) : (beginImage s st uid tooth).pending = s.pending := (rfl)
@[simp] theorem fireImage_pending (s : State) (k : Nat) (e : Event) (uid : Nat) (d : Due) : (fireImage s k e uid d).pending = s.pending := by
  unfold fireImage; simp only; (repeat' split) <;> simp
@[simp] theorem lateImage_pending (s : State) (k : Nat) (e : Event) (sh : Sheet) : (lateImage s k e sh).pending = s.pending := by
  unfold lateImage; simp
theorem execImage_pending (slot : Fin 640) (late : Bool) (s : State) : ∃ w, execImage slot late s = .next (settle w) ∧ w.pending = s.pending := by
  unfold execImage; (repeat' split) <;> exact ⟨_, rfl, by simp⟩
theorem execAxisMove_pending (slot : Fin 1024) (s : State) : ∃ w, execAxisMove slot s = .next (settle w) ∧ w.pending = s.pending := by
  unfold execAxisMove; exact ⟨_, rfl, by simp⟩
theorem execAxisRampedStop_pending (slot : Fin 1024) (s : State) : ∃ w, execAxisRampedStop slot s = .next (settle w) ∧ w.pending = s.pending := by
  unfold execAxisRampedStop; exact ⟨_, rfl, by simp⟩
theorem execMotorSpeed_pending (slot : Fin 1024) (s : State) : ∃ w, execMotorSpeed slot s = .next (settle w) ∧ w.pending = s.pending := by
  unfold execMotorSpeed; exact ⟨_, rfl, by simp⟩
theorem execPinSet_pending (slot : Fin 1024) (s : State) : ∃ w, execPinSet slot s = .next (settle w) ∧ w.pending = s.pending := by
  unfold execPinSet; exact ⟨_, rfl, by simp⟩
theorem execArrivalCheck_pending (slot : Fin 1024) (levels : List (Nat × Bool)) (s : State) :
  ∃ w, execArrivalCheck slot levels s = .next (settle w) ∧ w.pending = s.pending := by
  unfold execArrivalCheck; exact ⟨_, rfl, by simp⟩
theorem execLoopSetPointBank_pending (slot : Fin 1024) (s : State) : ∃ w, execLoopSetPointBank slot s = .next (settle w) ∧ w.pending = s.pending := by
  unfold execLoopSetPointBank; exact ⟨_, rfl, by simp⟩
theorem execLoopOn_pending (slot : Fin 1024) (s : State) : ∃ w, execLoopOn slot s = .next (settle w) ∧ w.pending = s.pending := by
  unfold execLoopOn; exact ⟨_, rfl, by simp⟩
theorem execLoopOff_pending (slot : Fin 1024) (s : State) : ∃ w, execLoopOff slot s = .next (settle w) ∧ w.pending = s.pending := by
  unfold execLoopOff; exact ⟨_, rfl, by simp⟩
theorem execSheetExit_pending (slot : Fin 1024) (s : State) : ∃ w, execSheetExit slot s = .next (settle w) ∧ w.pending = s.pending := by
  unfold execSheetExit; exact ⟨_, rfl, by simp⟩
theorem execLogMark_pending (slot : Fin 1024) (s : State) : ∃ w, execLogMark slot s = .next (settle w) ∧ w.pending = s.pending := by
  unfold execLogMark; exact ⟨_, rfl, by simp⟩
theorem execCaptureTrigger_pending (slot : Fin 1024) (s : State) : ∃ w, execCaptureTrigger slot s = .next (settle w) ∧ w.pending = s.pending := by
  unfold execCaptureTrigger; exact ⟨_, rfl, by simp⟩
@[simp] theorem takeEdge_pending (s : State) (k t : Nat) : (takeEdge s k t).pending = s.pending := by unfold takeEdge; split <;> simp
@[simp] theorem releaseHold_pending (s : State) : (releaseHold s).pending = s.pending := by unfold releaseHold; simp
@[simp] theorem afterBdWindow_pending (s : State) (n : Nat) : (afterBdWindow s n).pending = s.pending := by unfold afterBdWindow; simp
@[simp] theorem closeTracker_pending (s : State) (k : Nat) : (closeTracker s k).pending = s.pending := by unfold closeTracker; simp
@[simp] theorem closeBefore_pending (k t a : Nat) (a1 : State) : (closeBefore k t a a1).pending = a1.pending := by
  fun_induction closeBefore k t a a1 <;> simp [*]
@[simp] theorem edgeOf_pending (s : State) (k t : Nat) : (edgeOf s k t).pending = s.pending := by unfold edgeOf; simp
theorem execEncoderEdge_pending (tt : Fin 12) (e : ToothEdge) (s : State) :
  ∃ w, execEncoderEdge tt e s = .next (settle w) ∧ w.pending = s.pending := by
  unfold execEncoderEdge; simp only; (repeat' split) <;> exact ⟨_, rfl, by simp⟩
theorem execEncoderWindowClose_pending (tt : Fin 12) (s : State) : ∃ w, execEncoderWindowClose tt s = .next (settle w) ∧ w.pending = s.pending := by
  unfold execEncoderWindowClose; simp only; (repeat' split) <;> exact ⟨_, rfl, by simp⟩

/-! ## Dram -/

@[simp] theorem dramDouble_pending (s : State) (r : DramReader) (addr : Nat) : (dramDouble s r addr).pending = s.pending := by
  unfold dramDouble; simp only; (repeat' split) <;> simp
@[simp] theorem beatCorrected_pending (s : State) (r : DramReader) (addr : Nat) : (beatCorrected s r addr).pending = s.pending := by
  unfold beatCorrected; split <;> simp
@[simp] theorem beatUsed_pending (s : State) (r : DramReader) (addr : Nat) (e : Ecc) : (beatUsed s r addr e).pending = s.pending := by
  unfold beatUsed; simp
@[simp] theorem dramRead_pending (s : State) (r : DramReader) (b : BeatRead) : (dramRead s r b).1.pending = s.pending := by unfold dramRead; simp
@[simp] theorem dramReads_pending (r : DramReader) (a : List BeatRead) (a1 : State) : (dramReads r a a1).1.pending = a1.pending := by
  fun_induction dramReads r a a1 <;> simp +zetaDelta [*]
@[simp] theorem inputWord_pending (s : State) (st : Fin 6) (w : InputWord) : (inputWord s st w).1.pending = s.pending := by
  unfold inputWord; split <;> simp
@[simp] theorem inputWords_pending (st : Fin 6) (a : List InputWord) (a1 : State) : (inputWords st a a1).1.pending = a1.pending := by
  fun_induction inputWords st a a1 <;> simp +zetaDelta [*]
@[simp] theorem fifoWord_pending (s : State) (n : Nat) (w : FifoWord) : (fifoWord s n w).1.pending = s.pending := by unfold fifoWord; split <;> simp
@[simp] theorem readWords_pending (n : Nat) (a : List FifoWord) (a1 : State) : (readWords n a a1).1.pending = a1.pending := by
  fun_induction readWords n a a1 <;> simp +zetaDelta [*]

/-! ## Raster -/

theorem execDecoderPlaneStart_pending (st : Fin 6) (s : State) : ∃ w, execDecoderPlaneStart st s = .next (settle w) ∧ w.pending = s.pending := by
  unfold execDecoderPlaneStart; (repeat' split) <;> exact ⟨_, rfl, by simp⟩
@[simp] theorem bandLinesIn_pending (s : State) (n uid : Nat) (b : Band) : (bandLinesIn s n uid b).pending = s.pending := (rfl)
@[simp] theorem decodeNext_pending (s : State) (n : Nat) (sh : Sheet) : (decodeNext s n sh).pending = s.pending := by unfold decodeNext; simp
@[simp] theorem decodeCut_pending (s : State) (st : Fin 6) (sh : Sheet) (w : InputWord) : (decodeCut s st sh w).pending = s.pending := by
  unfold decodeCut; simp
@[simp] theorem readBand_pending (s : State) (st : Fin 6) (sh : Sheet) (reads : List BeatRead) (words : List InputWord) :
  (readBand s st sh reads words).pending = s.pending := by
  unfold readBand; simp only; (repeat' split) <;> simp
theorem execBandDecode_pending (st : Fin 6) (unit : Nat) (reads : List BeatRead) (words : List InputWord) (s : State) :
  ∃ w, execBandDecode st unit reads words s = .next (settle w) ∧ w.pending = s.pending := by
  unfold execBandDecode; simp only; (repeat' split) <;> exact ⟨_, rfl, by simp⟩
@[simp] theorem pointerServe_pending (s : State) (n : Nat) : (pointerServe s n).pending = s.pending := by unfold pointerServe; simp
@[simp] theorem pointerFault_pending (s : State) (n : Nat) : (pointerFault s n).pending = s.pending := by
  unfold pointerFault; simp only; (repeat' split) <;> simp
theorem execPointerMismatch_pending (copy : PointerCopy) (s : State) :
  ∃ w, execPointerMismatch copy s = .next (settle w) ∧ w.pending = s.pending := by
  unfold execPointerMismatch; simp only; (repeat' split) <;> exact ⟨_, rfl, by simp⟩
@[simp] theorem beginScan_pending (s : State) (n uid : Nat) (g : ScanForm) : (beginScan s n uid g).pending = s.pending := by unfold beginScan; simp
@[simp] theorem startScan_pending (s : State) (n : Nat) (sh : Sheet) (d held : Nat) (words : List FifoWord) :
  (startScan s n sh d held words).pending = s.pending := by unfold startScan; simp
@[simp] theorem atScanBoundary_pending (s : State) (n uid : Nat) : (atScanBoundary s n uid).pending = s.pending := by
  unfold atScanBoundary; split <;> simp
theorem execScanStart_pending (st : Fin 6) (lastLineBytes inputHeld : Nat) (words : List FifoWord) (s : State) :
  ∃ w, execScanStart st lastLineBytes inputHeld words s = .next (settle w) ∧ w.pending = s.pending := by
  unfold execScanStart; simp only; (repeat' split) <;> exact ⟨_, rfl, by simp⟩
theorem execScanUnderrun_pending (st : Fin 6) (pixel : Nat) (s : State) :
  ∃ w, execScanUnderrun st pixel s = .next (settle w) ∧ w.pending = s.pending := by
  unfold execScanUnderrun; simp only; (repeat' split) <;> exact ⟨_, rfl, by simp⟩
@[simp] theorem sendScan_pending (s : State) (n : Nat) (c : Scan) : (sendScan s n c).pending = s.pending := by unfold sendScan; simp
theorem execScanEnd_pending (st : Fin 6) (s : State) : ∃ w, execScanEnd st s = .next (settle w) ∧ w.pending = s.pending := by
  unfold execScanEnd; simp only; (repeat' split) <;> exact ⟨_, rfl, by simp⟩

/-! ## Scan -/

theorem execBdEdge_pending (st : Fin 6) (e : ToothEdge) (s : State) : ∃ w, execBdEdge st e s = .next (settle w) ∧ w.pending = s.pending := by
  unfold execBdEdge; (repeat' split) <;> exact ⟨_, rfl, by simp⟩
theorem execBdWindowClose_pending (st : Fin 6) (s : State) : ∃ w, execBdWindowClose st s = .next (settle w) ∧ w.pending = s.pending := by
  unfold execBdWindowClose; (repeat' split) <;> exact ⟨_, rfl, by simp⟩
@[simp] theorem armRegistration_pending (s : State) (n : Nat) : (armRegistration s n).pending = s.pending := by unfold armRegistration; simp
theorem execPatchMeasurement_pending (st : Fin 6) (marks : List Chevron) (s : State) :
  ∃ w, execPatchMeasurement st marks s = .next (settle w) ∧ w.pending = s.pending := by
  unfold execPatchMeasurement; simp only; (repeat' split) <;> exact ⟨_, rfl, by simp⟩

/-! ## ModeCommands -/

theorem execWarmupComplete_pending (s : State) : ∃ w, execWarmupComplete s = .next (settle w) ∧ w.pending = s.pending := by
  unfold execWarmupComplete; (repeat' split) <;> exact ⟨_, rfl, by simp⟩
theorem execWarmupLimitExpiry_pending (s : State) : ∃ w, execWarmupLimitExpiry s = .next (settle w) ∧ w.pending = s.pending := by
  unfold execWarmupLimitExpiry; (repeat' split) <;> exact ⟨_, rfl, by simp⟩
theorem execStandbyIdleExpiry_pending (s : State) : ∃ w, execStandbyIdleExpiry s = .next (settle w) ∧ w.pending = s.pending := by
  unfold execStandbyIdleExpiry; (repeat' split) <;> exact ⟨_, rfl, by simp⟩
theorem execReadyIdleExpiry_pending (s : State) : ∃ w, execReadyIdleExpiry s = .next (settle w) ∧ w.pending = s.pending := by
  unfold execReadyIdleExpiry; (repeat' split) <;> exact ⟨_, rfl, by simp⟩
@[simp] theorem endAlign_pending (s : State) (a : Nat) : (endAlign s a).pending = s.pending := by unfold endAlign; simp
theorem execDozeEnter_pending (s : State) : ∃ w, execDozeEnter s = .next (settle w) ∧ w.pending = s.pending := by
  unfold execDozeEnter; (repeat' split) <;> exact ⟨_, rfl, by simp⟩
@[simp] theorem wakeAxes_pending (s : State) (index : Nat) : (wakeAxes s index).pending = s.pending := by unfold wakeAxes; simp
theorem execDozeWakeComplete_pending (index : Nat) (s : State) : ∃ w, execDozeWakeComplete index s = .next (settle w) ∧ w.pending = s.pending := by
  unfold execDozeWakeComplete; (repeat' split) <;> exact ⟨_, rfl, by simp⟩
theorem execModeRouteStep_pending (s : State) : ∃ w, execModeRouteStep s = .next (settle w) ∧ w.pending = s.pending := by
  unfold execModeRouteStep; (repeat' split) <;> exact ⟨_, rfl, by simp⟩
theorem execSafestopEntryComplete_pending (s : State) : ∃ w, execSafestopEntryComplete s = .next (settle w) ∧ w.pending = s.pending := by
  unfold execSafestopEntryComplete; (repeat' split) <;> exact ⟨_, rfl, by simp⟩
theorem execCalibrationComplete_pending (s : State) : ∃ w, execCalibrationComplete s = .next (settle w) ∧ w.pending = s.pending := by
  unfold execCalibrationComplete; (repeat' split) <;> exact ⟨_, rfl, by simp⟩

/-! ## Memory -/

@[simp] theorem mr4Act_pending (s : State) (old code : Nat) : (mr4Act s old code).pending = s.pending := by unfold mr4Act; simp
theorem execMr4Read_pending (a b : Fin 8) (s : State) : ∃ w, execMr4Read a b s = .next (settle w) ∧ w.pending = s.pending := by
  unfold execMr4Read; (repeat' split) <;> exact ⟨_, rfl, by simp⟩
theorem execDramUncorrectableRead_pending (reader : DramReader) (addr : Nat) (errors : BeatErrors × BeatErrors) (s : State) :
  ∃ w, execDramUncorrectableRead reader addr errors s = .next (settle w) ∧ w.pending = s.pending := by
  unfold execDramUncorrectableRead; (repeat' split) <;> exact ⟨_, rfl, by simp⟩
@[simp] theorem patrolRun_pending (s : State) (poolLeft : Nat) (reads : List BeatRead) : (patrolRun s poolLeft reads).pending = s.pending := by
  unfold patrolRun; simp
theorem execPatrolOverdue_pending (s : State) : ∃ w, execPatrolOverdue s = .next (settle w) ∧ w.pending = s.pending := by
  unfold execPatrolOverdue; (repeat' split) <;> exact ⟨_, rfl, by simp⟩
@[simp] theorem endPeriod_pending (s : State) (demand asks : List Nat) (reads : List BeatRead) :
  (endPeriod s demand asks reads).pending = s.pending := by unfold endPeriod; simp
theorem execDikePeriod_pending (work : DikeWork) (s : State) : ∃ w, execDikePeriod work s = .next (settle w) ∧ w.pending = s.pending := by
  unfold execDikePeriod; (repeat' split) <;> exact ⟨_, rfl, by simp⟩
@[simp] theorem admissionFail_pending (s : State) (reason : Nat) : (admissionFail s reason).pending = s.pending := (rfl)
@[simp] theorem gapPatch_pending (s : State) (a : Sheet) : (gapPatch s a).pending = s.pending := by unfold gapPatch; split <;> simp
@[simp] theorem admitSheet_pending (s : State) (sh : Sheet) (p : Plan) : (admitSheet s sh p).pending = s.pending := by unfold admitSheet; simp
@[simp] theorem admissionTest_pending (s : State) (sh : Sheet) : (admissionTest s sh).pending = s.pending := by unfold admissionTest; simp
theorem execAdmissionPass_pending (s : State) : ∃ w, execAdmissionPass s = .next (settle w) ∧ w.pending = s.pending := by
  unfold execAdmissionPass; simp only; (repeat' split) <;> exact ⟨_, rfl, by simp⟩

/-! ## Clocks -/

@[simp] theorem relockLink_pending (s : State) (n : Nat) : (relockLink s n).pending = s.pending := by unfold relockLink; split <;> simp
@[simp] theorem endRelock_pending (s : State) : (endRelock s).pending = s.pending := by unfold endRelock; split <;> simp
@[simp] theorem relockDone_pending (s : State) : (relockDone s).pending = s.pending := by unfold relockDone; simp
@[simp] theorem relockFailed_pending (s : State) : (relockFailed s).pending = s.pending := by unfold relockFailed; simp
@[simp] theorem relockKickoff_pending (s : State) : (relockKickoff s).pending = s.pending := by unfold relockKickoff; simp
@[simp] theorem relockAgain_pending (s : State) (r : Relock) (n : Nat) : (relockAgain s r n).pending = s.pending := (rfl)
@[simp] theorem attemptFails_pending (s : State) : (attemptFails s).pending = s.pending := by unfold attemptFails; split <;> simp
theorem execRelockLockDetect_pending (s : State) : ∃ w, execRelockLockDetect s = .next (settle w) ∧ w.pending = s.pending := by
  unfold execRelockLockDetect; (repeat' split) <;> exact ⟨_, rfl, by simp⟩
theorem execRelockLockTimeout_pending (s : State) : ∃ w, execRelockLockTimeout s = .next (settle w) ∧ w.pending = s.pending := by
  unfold execRelockLockTimeout; (repeat' split) <;> exact ⟨_, rfl, by simp⟩
theorem execRelockSettleEnd_pending (held : Bool) (s : State) : ∃ w, execRelockSettleEnd held s = .next (settle w) ∧ w.pending = s.pending := by
  unfold execRelockSettleEnd; (repeat' split) <;> exact ⟨_, rfl, by simp⟩
@[simp] theorem openGate_pending (s : State) : (openGate s).pending = s.pending := by unfold openGate; simp
theorem execFrequencyCheckEnd_pending (count : Nat) (s : State) : ∃ w, execFrequencyCheckEnd count s = .next (settle w) ∧ w.pending = s.pending := by
  unfold execFrequencyCheckEnd; (repeat' split) <;> exact ⟨_, rfl, by simp⟩
theorem execStationDllLocked_pending (st : Fin 6) (s : State) : ∃ w, execStationDllLocked st s = .next (settle w) ∧ w.pending = s.pending := by
  unfold execStationDllLocked; (repeat' split) <;> exact ⟨_, rfl, by simp⟩
@[simp] theorem dllDouble_pending (s : State) (n : Nat) : (dllDouble s n).pending = s.pending := by unfold dllDouble; simp
theorem execDllLockLoss_pending (st : Fin 6) (s : State) : ∃ w, execDllLockLoss st s = .next (settle w) ∧ w.pending = s.pending := by
  unfold execDllLockLoss; simp only; (repeat' split) <;> exact ⟨_, rfl, by simp⟩
theorem execDllRelockTimeout_pending (st : Fin 6) (s : State) : ∃ w, execDllRelockTimeout st s = .next (settle w) ∧ w.pending = s.pending := by
  unfold execDllRelockTimeout; (repeat' split) <;> exact ⟨_, rfl, by simp⟩
@[simp] theorem timebaseFault_pending (s : State) (sub : Nat) : (timebaseFault s sub).pending = s.pending := by unfold timebaseFault; simp
theorem execCeilingTrip_pending (s : State) : ∃ w, execCeilingTrip s = .next (settle w) ∧ w.pending = s.pending := by
  unfold execCeilingTrip; (repeat' split) <;> exact ⟨_, rfl, by simp⟩
theorem execTimebaseLockLoss_pending (s : State) : ∃ w, execTimebaseLockLoss s = .next (settle w) ∧ w.pending = s.pending := by
  unfold execTimebaseLockLoss; (repeat' split) <;> exact ⟨_, rfl, by simp⟩
theorem execReferenceLoss_pending (s : State) : ∃ w, execReferenceLoss s = .next (settle w) ∧ w.pending = s.pending := by
  unfold execReferenceLoss; (repeat' split) <;> exact ⟨_, rfl, by simp⟩
theorem execReferenceLossReset_pending (s : State) : ∃ w, execReferenceLossReset s = .next (settle w) ∧ w.pending = s.pending := by
  unfold execReferenceLossReset; (repeat' split) <;> exact ⟨_, rfl, by simp⟩

/-! ## Link -/

@[simp] theorem hardFault_pending (s : State) (n status : Nat) : (hardFault s n status).pending = s.pending := by unfold hardFault; simp
theorem execBringUpStepTimeout_pending (st : Fin 6) (s : State) : ∃ w, execBringUpStepTimeout st s = .next (settle w) ∧ w.pending = s.pending := by
  unfold execBringUpStepTimeout; (repeat' split) <;> exact ⟨_, rfl, by simp⟩
@[simp] theorem regsBack_pending (s : State) (n : Nat) (regs : List Nat) : (regsBack s n regs).pending = s.pending := by unfold regsBack; simp
theorem execBringUpStepComplete_pending (st : Fin 6) (regs : List Nat) (s : State) :
  ∃ w, execBringUpStepComplete st regs s = .next (settle w) ∧ w.pending = s.pending := by
  unfold execBringUpStepComplete; (repeat' split) <;> exact ⟨_, rfl, by simp⟩
@[simp] theorem softFlags_pending (s : State) (n : Nat) : (softFlags s n).pending = s.pending := by
  unfold softFlags; (repeat' split) <;> simp
theorem execLdFltSoftError_pending (st : Fin 6) (s : State) : ∃ w, execLdFltSoftError st s = .next (settle w) ∧ w.pending = s.pending := by
  unfold execLdFltSoftError; simp only; (repeat' split) <;> exact ⟨_, rfl, by simp⟩
theorem execLdFltHardFault_pending (st : Fin 6) (status : Nat) (s : State) :
  ∃ w, execLdFltHardFault st status s = .next (settle w) ∧ w.pending = s.pending := by
  unfold execLdFltHardFault; (repeat' split) <;> exact ⟨_, rfl, by simp⟩
theorem execSerdesLockLoss_pending (st : Fin 6) (status : Nat) (s : State) :
  ∃ w, execSerdesLockLoss st status s = .next (settle w) ∧ w.pending = s.pending := by
  unfold execSerdesLockLoss; (repeat' split) <;> exact ⟨_, rfl, by simp⟩
@[simp] theorem safetyEvent_pending (s : State) (kind : Nat) : (safetyEvent s kind).pending = s.pending := by unfold safetyEvent; simp
@[simp] theorem interlockPath_pending (s : State) : (interlockPath s).pending = s.pending := by unfold interlockPath; simp
theorem execIlockOpen_pending (s : State) : ∃ w, execIlockOpen s = .next (settle w) ∧ w.pending = s.pending := by
  unfold execIlockOpen; (repeat' split) <;> exact ⟨_, rfl, by simp⟩
theorem execIlockClose_pending (s : State) : ∃ w, execIlockClose s = .next (settle w) ∧ w.pending = s.pending := by
  unfold execIlockClose; exact ⟨_, rfl, by simp⟩
theorem execIlockClosedHoldEnd_pending (s : State) : ∃ w, execIlockClosedHoldEnd s = .next (settle w) ∧ w.pending = s.pending := by
  unfold execIlockClosedHoldEnd; (repeat' split) <;> exact ⟨_, rfl, by simp⟩

/-! ## Umpire -/

@[simp] theorem umpireOutputs_pending (s : State) : (umpireOutputs s).pending = s.pending := by unfold umpireOutputs; simp
@[simp] theorem superviseServe_pending (s : State) (kind : Nat) : (superviseServe s kind).pending = s.pending := (rfl)
@[simp] theorem supervisorEvent_pending (s : State) (kind : Nat) : (supervisorEvent s kind).pending = s.pending := by unfold supervisorEvent; simp
theorem execLockstepMismatch_pending (s : State) : ∃ w, execLockstepMismatch s = .next (settle w) ∧ w.pending = s.pending := by
  unfold execLockstepMismatch; (repeat' split) <;> exact ⟨_, rfl, by simp⟩
theorem execWatchdogExpiry_pending (s : State) : ∃ w, execWatchdogExpiry s = .next (settle w) ∧ w.pending = s.pending := by
  unfold execWatchdogExpiry; (repeat' split) <;> exact ⟨_, rfl, by simp⟩
theorem execUmpireReset_pending (s : State) : ∃ w, execUmpireReset s = .next (settle w) ∧ w.pending = s.pending := by
  unfold execUmpireReset; (repeat' split) <;> exact ⟨_, rfl, by simp⟩
theorem execSafeNMismatch_pending (s : State) : ∃ w, execSafeNMismatch s = .next (settle w) ∧ w.pending = s.pending := by
  unfold execSafeNMismatch; (repeat' split) <;> exact ⟨_, rfl, by simp⟩
theorem execSafeNMismatchEnd_pending (s : State) : ∃ w, execSafeNMismatchEnd s = .next (settle w) ∧ w.pending = s.pending := by
  unfold execSafeNMismatchEnd; exact ⟨_, rfl, by simp⟩
theorem execMirrorErase_pending (s : State) : ∃ w, execMirrorErase s = .next (settle w) ∧ w.pending = s.pending := by
  unfold execMirrorErase; (repeat' split) <;> exact ⟨_, rfl, by simp⟩
@[simp] theorem sensorCheck_pending (l : List Int) (s : State) (k : Nat) : (sensorCheck l s k).pending = s.pending := by unfold sensorCheck; simp
@[simp] theorem countHeat_pending (s : State) : (countHeat s).pending = s.pending := (rfl)
@[simp] theorem storeTj_pending (s : State) (l : List Int) (v : Int) : (storeTj s l v).pending = s.pending := by unfold storeTj; simp
@[simp] theorem slowAdmission_pending (s : State) (v : Int) : (slowAdmission s v).pending = s.pending := (rfl)
@[simp] theorem tjRespond_pending (s : State) (old v : Int) : (tjRespond s old v).pending = s.pending := by unfold tjRespond; simp
theorem execTjSample_pending (sensors : List Int) (s : State) : ∃ w, execTjSample sensors s = .next (settle w) ∧ w.pending = s.pending := by
  unfold execTjSample; (repeat' split) <;> exact ⟨_, rfl, by simp⟩
theorem execThermalShutdown_pending (s : State) : ∃ w, execThermalShutdown s = .next (settle w) ∧ w.pending = s.pending := by
  unfold execThermalShutdown; (repeat' split) <;> exact ⟨_, rfl, by simp⟩

/-! ## Network -/

theorem execRead_pending (src : FrameSrc) (tid idx sub : Nat) (s : State) :
  ∃ w, execRead src tid idx sub s = .next (settle w) ∧ w.pending = s.pending := by
  unfold execRead; exact ⟨_, rfl, by simp⟩
theorem execWriteExpedited_pending (src : FrameSrc) (tid idx sub : Nat) (data : List Byte) (s : State) :
  ∃ w, execWriteExpedited src tid idx sub data s = .next (settle w) ∧ w.pending = s.pending := by
  unfold execWriteExpedited; exact ⟨_, rfl, by simp⟩
theorem execWriteSegmented_pending (src : FrameSrc) (tid idx sub total : Nat) (s : State) :
  ∃ w, execWriteSegmented src tid idx sub total s = .next (settle w) ∧ w.pending = s.pending := by
  unfold execWriteSegmented; exact ⟨_, rfl, by simp⟩
theorem execSegment_pending (src : FrameSrc) (tid : Nat) (last : Bool) (seq : Nat) (data : List Byte) (s : State) :
  ∃ w, execSegment src tid last seq data s = .next (settle w) ∧ w.pending = s.pending := by
  unfold execSegment; exact ⟨_, rfl, by simp⟩
theorem execSegmentAck_pending (src : FrameSrc) (tid seq : Nat) (s : State) :
  ∃ w, execSegmentAck src tid seq s = .next (settle w) ∧ w.pending = s.pending := by
  unfold execSegmentAck; exact ⟨_, rfl, by simp⟩
theorem execAbort_pending (src : FrameSrc) (tid code : Nat) (s : State) :
  ∃ w, execAbort src tid code s = .next (settle w) ∧ w.pending = s.pending := by
  unfold execAbort; exact ⟨_, rfl, by simp⟩
theorem execReadResponse_pending (src : FrameSrc) (tid status : Nat) (data : List Byte) (s : State) :
  ∃ w, execReadResponse src tid status data s = .next (settle w) ∧ w.pending = s.pending := by
  unfold execReadResponse; exact ⟨_, rfl, by simp⟩
theorem execWriteResponse_pending (src : FrameSrc) (tid status code : Nat) (s : State) :
  ∃ w, execWriteResponse src tid status code s = .next (settle w) ∧ w.pending = s.pending := by
  unfold execWriteResponse; exact ⟨_, rfl, by simp⟩
theorem execCyclicIn_pending (src : FrameSrc) (map cycle : Nat) (data : List Byte) (s : State) :
  ∃ w, execCyclicIn src map cycle data s = .next (settle w) ∧ w.pending = s.pending := by
  unfold execCyclicIn; exact ⟨_, rfl, by simp⟩
theorem execRollcallAnswer_pending (src : FrameSrc) (identity dictRev plcaId : Nat) (s : State) :
  ∃ w, execRollcallAnswer src identity dictRev plcaId s = .next (settle w) ∧ w.pending = s.pending := by
  unfold execRollcallAnswer; exact ⟨_, rfl, by simp⟩
theorem execRollcall_pending (src : FrameSrc) (round base slots slotLen : Nat) (s : State) :
  ∃ w, execRollcall src round base slots slotLen s = .next (settle w) ∧ w.pending = s.pending := by
  unfold execRollcall; exact ⟨_, rfl, by simp⟩
theorem execSessionClose_pending (src : FrameSrc) (slot : Nat) (s : State) :
  ∃ w, execSessionClose src slot s = .next (settle w) ∧ w.pending = s.pending := by
  unfold execSessionClose; exact ⟨_, rfl, by simp⟩
theorem execSessionHello_pending (src : FrameSrc) (slot : Nat) (nonce : List Byte) (s : State) :
  ∃ w, execSessionHello src slot nonce s = .next (settle w) ∧ w.pending = s.pending := by
  unfold execSessionHello; exact ⟨_, rfl, by simp⟩
theorem execNonTdpFrame_pending (p : Fin 4) (s : State) : ∃ w, execNonTdpFrame p s = .next (settle w) ∧ w.pending = s.pending := by
  unfold execNonTdpFrame; (repeat' split) <;> exact ⟨_, rfl, by simp⟩
theorem execInvalidTdpFrame_pending (p : Fin 7) (badAuth : Bool) (s : State) :
  ∃ w, execInvalidTdpFrame p badAuth s = .next (settle w) ∧ w.pending = s.pending := by
  unfold execInvalidTdpFrame; (repeat' split) <;> exact ⟨_, rfl, by simp⟩
@[simp] theorem repeatFrame_pending (s : State) (f : Transfer) : (repeatFrame s f).pending = s.pending := by unfold repeatFrame; simp
theorem execLowerRetryExpiry_pending (n : Fin 2048) (tid : Nat) (s : State) :
  ∃ w, execLowerRetryExpiry n tid s = .next (settle w) ∧ w.pending = s.pending := by
  unfold execLowerRetryExpiry; (repeat' split) <;> exact ⟨_, rfl, by simp⟩
theorem execUpperTimeout_pending (n : Fin 2048) (tid : Nat) (s : State) :
  ∃ w, execUpperTimeout n tid s = .next (settle w) ∧ w.pending = s.pending := by
  unfold execUpperTimeout; (repeat' split) <;> exact ⟨_, rfl, by simp⟩
theorem execPartnerIdleTimeout_pending (n : Fin 2048) (s : State) : ∃ w, execPartnerIdleTimeout n s = .next (settle w) ∧ w.pending = s.pending := by
  unfold execPartnerIdleTimeout; simp only; (repeat' split) <;> exact ⟨_, rfl, by simp⟩
theorem execSessionTimeout_pending (id : Nat) (s : State) : ∃ w, execSessionTimeout id s = .next (settle w) ∧ w.pending = s.pending := by
  unfold execSessionTimeout; (repeat' split) <;> exact ⟨_, rfl, by simp⟩
@[simp] theorem portDies_pending (s : State) (p : Nat) : (portDies s p).pending = s.pending := by unfold portDies; simp
theorem execBusOff_pending (p : Fin 4) (s : State) : ∃ w, execBusOff p s = .next (settle w) ∧ w.pending = s.pending := by
  unfold execBusOff; simp only; (repeat' split) <;> exact ⟨_, rfl, by simp⟩
theorem execBusOffRecoveryComplete_pending (p : Fin 4) (s : State) :
  ∃ w, execBusOffRecoveryComplete p s = .next (settle w) ∧ w.pending = s.pending := by
  unfold execBusOffRecoveryComplete; (repeat' split) <;> exact ⟨_, rfl, by simp⟩
theorem execCanErrorFrame_pending (p : Fin 4) (n : Fin 2048) (s : State) :
  ∃ w, execCanErrorFrame p n s = .next (settle w) ∧ w.pending = s.pending := by
  unfold execCanErrorFrame; (repeat' split) <;> exact ⟨_, rfl, by simp⟩
theorem execRollcallBlockEnd_pending (p : Fin 7) (s : State) : ∃ w, execRollcallBlockEnd p s = .next (settle w) ∧ w.pending = s.pending := by
  unfold execRollcallBlockEnd; (repeat' split) <;> exact ⟨_, rfl, by simp⟩
@[simp] theorem absentNow_pending (s : State) (n : Nat) : (absentNow s n).pending = s.pending := by unfold absentNow; simp
@[simp] theorem pollMissed_pending (s : State) (n : Nat) : (pollMissed s n).pending = s.pending := by unfold pollMissed; simp
theorem execRollcallPollTimeout_pending (p : Fin 7) (s : State) : ∃ w, execRollcallPollTimeout p s = .next (settle w) ∧ w.pending = s.pending := by
  unfold execRollcallPollTimeout; (repeat' split) <;> exact ⟨_, rfl, by simp⟩
@[simp] theorem sendSync_pending (s : State) (p : Nat) : (sendSync s p).pending = s.pending := by unfold sendSync; simp
@[simp] theorem sendMap_pending (s : State) (m : Nat) : (sendMap s m).pending = s.pending := by unfold sendMap; simp
@[simp] theorem countMiss_pending (s : State) (m : Nat) : (countMiss s m).pending = s.pending := by unfold countMiss; simp
@[simp] theorem cyclicPhase_pending (s : State) : (cyclicPhase s).pending = s.pending := by unfold cyclicPhase; simp
@[simp] theorem pollAbsent_pending (s : State) (p : Nat) : (pollAbsent s p).pending = s.pending := by
  unfold pollAbsent; (repeat' split) <;> simp
@[simp] theorem acyclicPhase_pending (s : State) : (acyclicPhase s).pending = s.pending := by unfold acyclicPhase; simp
theorem execNetworkCycleStart_pending (skipped : Bool) (s : State) :
  ∃ w, execNetworkCycleStart skipped s = .next (settle w) ∧ w.pending = s.pending := by
  unfold execNetworkCycleStart; (repeat' split) <;> exact ⟨_, rfl, by simp⟩
theorem execArpRequest_pending (senderIp senderMac targetIp : Nat) (s : State) :
  ∃ w, execArpRequest senderIp senderMac targetIp s = .next (settle w) ∧ w.pending = s.pending := by
  unfold execArpRequest; (repeat' split) <;> exact ⟨_, rfl, by simp⟩
theorem execIcmpEchoRequest_pending (senderIp : Nat) (payload : List Byte) (s : State) :
  ∃ w, execIcmpEchoRequest senderIp payload s = .next (settle w) ∧ w.pending = s.pending := by
  unfold execIcmpEchoRequest; (repeat' split) <;> exact ⟨_, rfl, by simp⟩

/-! ## Rails -/

@[simp] theorem endOn_pending (s : State) (passed : Bool) : (endOn s passed).pending = s.pending := by unfold endOn; simp
theorem execRailEnable_pending (r : Fin 16) (s : State) : ∃ w, execRailEnable r s = .next (settle w) ∧ w.pending = s.pending := by
  unfold execRailEnable; simp only; (repeat' split) <;> exact ⟨_, rfl, by simp⟩
@[simp] theorem putReading_pending (s : State) (r v : Nat) : (putReading s r v).pending = s.pending := by unfold putReading; simp
theorem execRailGood_pending (r : Fin 16) (v : RailSamples) (s : State) : ∃ w, execRailGood r v s = .next (settle w) ∧ w.pending = s.pending := by
  unfold execRailGood; simp only; (repeat' split) <;> exact ⟨_, rfl, by simp⟩
@[simp] theorem recordFault_pending (s : State) (r kind : Nat) : (recordFault s r kind).pending = s.pending := by unfold recordFault; simp
@[simp] theorem offOver_pending (s : State) : (offOver s).pending = s.pending := by unfold offOver; split <;> simp
@[simp] theorem railGone_pending (s : State) (r st : Nat) : (railGone s r st).pending = s.pending := by unfold railGone; simp
@[simp] theorem responseOff_pending (s : State) (r : Nat) : (responseOff s r).pending = s.pending := by unfold responseOff; simp
@[simp] theorem logFault_pending (s : State) (r : Nat) : (logFault s r).pending = s.pending := by unfold logFault; simp
@[simp] theorem breakOff_pending (s : State) : (breakOff s).pending = s.pending := by unfold breakOff; simp
@[simp] theorem sequenceFault_pending (s : State) (r : Nat) : (sequenceFault s r).pending = s.pending := by
  unfold sequenceFault; (repeat' split) <;> simp
@[simp] theorem railReset_pending (s : State) (r : Nat) : (railReset s r).pending = s.pending := by unfold railReset; simp
@[simp] theorem operatingFault_pending (s : State) (r : Nat) : (operatingFault s r).pending = s.pending := by unfold operatingFault; simp
@[simp] theorem railFault_pending (s : State) (r kind : Nat) : (railFault s r kind).pending = s.pending := by
  unfold railFault; (repeat' split) <;> simp
theorem execRailFault_pending (r : Fin 16) (v : RailSamples) (s : State) : ∃ w, execRailFault r v s = .next (settle w) ∧ w.pending = s.pending := by
  unfold execRailFault; simp only; (repeat' split) <;> exact ⟨_, rfl, by simp⟩
theorem execRampFault_pending (r : Fin 16) (reading : Nat) (s : State) :
  ∃ w, execRampFault r reading s = .next (settle w) ∧ w.pending = s.pending := by
  unfold execRampFault; (repeat' split) <;> exact ⟨_, rfl, by simp⟩
theorem execRetryPauseEnd_pending (s : State) : ∃ w, execRetryPauseEnd s = .next (settle w) ∧ w.pending = s.pending := by
  unfold execRetryPauseEnd; (repeat' split) <;> exact ⟨_, rfl, by simp⟩
theorem execRailWarning_pending (r : Fin 16) (v : RailSamples) (s : State) :
  ∃ w, execRailWarning r v s = .next (settle w) ∧ w.pending = s.pending := by
  unfold execRailWarning; simp only; (repeat' split) <;> exact ⟨_, rfl, by simp⟩
theorem execRailDisable_pending (r : Fin 16) (s : State) : ∃ w, execRailDisable r s = .next (settle w) ∧ w.pending = s.pending := by
  unfold execRailDisable; simp only; (repeat' split) <;> exact ⟨_, rfl, by simp⟩
theorem execRailResetOffStart_pending (s : State) : ∃ w, execRailResetOffStart s = .next (settle w) ∧ w.pending = s.pending := by
  unfold execRailResetOffStart; (repeat' split) <;> exact ⟨_, rfl, by simp⟩
theorem execShutdownOffStart_pending (s : State) : ∃ w, execShutdownOffStart s = .next (settle w) ∧ w.pending = s.pending := by
  unfold execShutdownOffStart; (repeat' split) <;> exact ⟨_, rfl, by simp⟩
@[simp] theorem wakeFromShutdown_pending (s : State) : (wakeFromShutdown s).pending = s.pending := by unfold wakeFromShutdown; simp
theorem execShutdownSequenceEnd_pending (s : State) : ∃ w, execShutdownSequenceEnd s = .next (settle w) ∧ w.pending = s.pending := by
  unfold execShutdownSequenceEnd; (repeat' split) <;> exact ⟨_, rfl, by simp⟩
theorem execWakeIn_pending (s : State) : ∃ w, execWakeIn s = .next (settle w) ∧ w.pending = s.pending := by
  unfold execWakeIn; (repeat' split) <;> exact ⟨_, rfl, by simp⟩
theorem execPciExpressWake_pending (s : State) : ∃ w, execPciExpressWake s = .next (settle w) ∧ w.pending = s.pending := by
  unfold execPciExpressWake; (repeat' split) <;> exact ⟨_, rfl, by simp⟩

/-! ## Kickoff -/

theorem execAonPowerGood_pending (s : State) : ∃ w, execAonPowerGood s = .next (settle w) ∧ w.pending = s.pending := by
  unfold execAonPowerGood; (repeat' split) <;> exact ⟨_, rfl, by simp⟩
theorem execBrownOut_pending (s : State) : ∃ w, execBrownOut s = .next (settle w) ∧ w.pending = s.pending := by
  unfold execBrownOut; (repeat' split) <;> exact ⟨_, rfl, by simp⟩
theorem execPorst_pending (s : State) : ∃ w, execPorst s = .next (settle w) ∧ w.pending = s.pending := by
  unfold execPorst; (repeat' split) <;> exact ⟨_, rfl, by simp⟩
theorem execPorstRelease_pending (s : State) : ∃ w, execPorstRelease s = .next (settle w) ∧ w.pending = s.pending := by
  unfold execPorstRelease; exact ⟨_, rfl, by simp⟩
theorem execWarmResetHoldEnd_pending (s : State) : ∃ w, execWarmResetHoldEnd s = .next (settle w) ∧ w.pending = s.pending := by
  unfold execWarmResetHoldEnd; (repeat' split) <;> exact ⟨_, rfl, by simp⟩
theorem execKickoffWatchdog_pending (s : State) : ∃ w, execKickoffWatchdog s = .next (settle w) ∧ w.pending = s.pending := by
  unfold execKickoffWatchdog; (repeat' split) <;> exact ⟨_, rfl, by simp⟩
@[simp] theorem stepStraps_pending (s : State) (v1 v2 : List (Option Nat)) (testEn : Bool) : (stepStraps s v1 v2 testEn).pending = s.pending := by
  unfold stepStraps; simp
@[simp] theorem restoreJournal_pending (s : State) : (restoreJournal s).pending = s.pending := by unfold restoreJournal; split <;> simp
@[simp] theorem stepFlash_pending (s : State) (answers journalReadable : Bool) : (stepFlash s answers journalReadable).pending = s.pending := by
  unfold stepFlash
  simp only
  (repeat' split) <;> (try (rename_i h; simp [selectTable_pending _ _ h])) <;> simp
@[simp] theorem stepReference_pending (s : State) (ok : Bool) : (stepReference s ok).pending = s.pending := by unfold stepReference; simp
@[simp] theorem stepCore_pending (s : State) (tj : Int) : (stepCore s tj).pending = s.pending := by unfold stepCore; simp
@[simp] theorem takeImage_pending (s : State) : (takeImage s).1.pending = s.pending := by unfold takeImage; simp
@[simp] theorem stepImage_pending (s : State) : (stepImage s).pending = s.pending := by unfold stepImage; simp
@[simp] theorem loadDefaults_pending (s : State) : (loadDefaults s).pending = s.pending := by unfold loadDefaults; simp
@[simp] theorem loadRecord_pending (a : State × List Nat) (q : Nat × Nat × List Byte) : (loadRecord a q).1.pending = a.1.pending := by
  unfold loadRecord; simp
@[simp] theorem loadImage_pending (s : State) (l : List (Nat × Nat × List Byte)) : (loadImage s l).pending = s.pending := by unfold loadImage; simp
@[simp] theorem stepDictionary_pending (s : State) : (stepDictionary s).pending = s.pending := by unfold stepDictionary; simp
@[simp] theorem stepDram_pending (s : State) (first second : Bool) : (stepDram s first second).pending = s.pending := by unfold stepDram; simp
@[simp] theorem stepRollcall_pending (s : State) : (stepRollcall s).pending = s.pending := by unfold stepRollcall; simp
@[simp] theorem stepDone_pending (s : State) (r : KickResult) : (stepDone s r).pending = s.pending := by unfold stepDone; split <;> simp
theorem execKickoffStepComplete_pending (r : KickResult) (s : State) :
  ∃ w, execKickoffStepComplete r s = .next (settle w) ∧ w.pending = s.pending := by
  unfold execKickoffStepComplete; simp only; (repeat' split) <;> exact ⟨_, rfl, by simp⟩
theorem execRollCallComplete_pending (s : State) : ∃ w, execRollCallComplete s = .next (settle w) ∧ w.pending = s.pending := by
  unfold execRollCallComplete; (repeat' split) <;> exact ⟨_, rfl, by simp⟩
theorem execDebugChallenge_pending (s : State) : ∃ w, execDebugChallenge s = .next (settle w) ∧ w.pending = s.pending := by
  unfold execDebugChallenge; (repeat' split) <;> exact ⟨_, rfl, by simp⟩
theorem execDebugResponse_pending (rs : List Byte) (s : State) : ∃ w, execDebugResponse rs s = .next (settle w) ∧ w.pending = s.pending := by
  unfold execDebugResponse; (repeat' split) <;> exact ⟨_, rfl, by simp⟩

/-! ## Tenants -/

@[simp] theorem bellCommand_pending (s : State) (t kind i : Nat) : (bellCommand s t kind i).pending = s.pending := by unfold bellCommand; simp
theorem execSheetTailDoorbell_pending (t : Fin 64) (index : Nat) (s : State) :
  ∃ w, execSheetTailDoorbell t index s = .next (settle w) ∧ w.pending = s.pending := by
  unfold execSheetTailDoorbell; exact ⟨_, rfl, by simp⟩
theorem execCompletionHeadDoorbell_pending (t : Fin 64) (index : Nat) (s : State) :
  ∃ w, execCompletionHeadDoorbell t index s = .next (settle w) ∧ w.pending = s.pending := by
  unfold execCompletionHeadDoorbell; exact ⟨_, rfl, by simp⟩
theorem execCancelDoorbell_pending (t : Fin 64) (index : Nat) (s : State) :
  ∃ w, execCancelDoorbell t index s = .next (settle w) ∧ w.pending = s.pending := by
  unfold execCancelDoorbell; exact ⟨_, rfl, by simp⟩
@[simp] theorem mailboxStart_pending (s : State) (fn : Fin 65) (op idx sub len addr : Nat) :
  (mailboxStart s fn op idx sub len addr).pending = s.pending := (rfl)
@[simp] theorem mailboxEnd_pending (s : State) (fn : Fin 65) (code : Nat) : (mailboxEnd s fn code).pending = s.pending := by unfold mailboxEnd; simp
@[simp] theorem mailboxBusy_pending (s : State) (fn : Fin 65) : (mailboxBusy s fn).pending = s.pending := by unfold mailboxBusy; simp
@[simp] theorem mailboxDeliver_pending (s : State) (fn : Fin 65) (addr : Nat) (d : List Byte) :
  (mailboxDeliver s fn addr d).pending = s.pending := by unfold mailboxDeliver; simp
theorem execMailboxRead_pending (fn : Fin 65) (op idx sub : Nat) (buffer : MailBuffer) (s : State) :
  ∃ w, execMailboxRead fn op idx sub buffer s = .next (settle w) ∧ w.pending = s.pending := by
  unfold execMailboxRead; simp only; (repeat' split) <;> exact ⟨_, rfl, by simp⟩
theorem execMailboxWrite_pending (fn : Fin 65) (idx sub len addr : Nat) (data : List Byte) (s : State) :
  ∃ w, execMailboxWrite fn idx sub len addr data s = .next (settle w) ∧ w.pending = s.pending := by
  unfold execMailboxWrite; simp only; (repeat' split) <;> exact ⟨_, rfl, by simp⟩
theorem execDescriptorFetch_pending (t : Fin 64) (s : State) : ∃ w, execDescriptorFetch t s = .next (settle w) ∧ w.pending = s.pending := by
  unfold execDescriptorFetch; (repeat' split) <;> exact ⟨_, rfl, by simp⟩
theorem execDescriptorReceived_pending (t : Fin 64) (bytes : List Byte) (s : State) :
  ∃ w, execDescriptorReceived t bytes s = .next (settle w) ∧ w.pending = s.pending := by
  unfold execDescriptorReceived; (repeat' split) <;> exact ⟨_, rfl, by simp⟩
theorem execPlaneFetchStart_pending (t : Fin 64) (s : State) : ∃ w, execPlaneFetchStart t s = .next (settle w) ∧ w.pending = s.pending := by
  unfold execPlaneFetchStart; (repeat' split) <;> exact ⟨_, rfl, by simp⟩
@[simp] theorem becomeResident_pending (s : State) (uid : Nat) : (becomeResident s uid).pending = s.pending := by
  unfold becomeResident; split <;> simp
@[simp] theorem takePlane_pending (s : State) (sh : Sheet) (st : Nat) (data : List Byte) : (takePlane s sh st data).pending = s.pending := by
  unfold takePlane; simp
theorem execPlaneReadCompletion_pending (t : Fin 64) (ring : Nat) (st : Fin 6) (unit : Nat) (plane : PlaneData) (s : State) :
  ∃ w, execPlaneReadCompletion t ring st unit plane s = .next (settle w) ∧ w.pending = s.pending := by
  unfold execPlaneReadCompletion; simp only; (repeat' split) <;> exact ⟨_, rfl, by simp⟩
theorem execIngestReadError_pending (t : Fin 64) (e : IngestFail) (repeatFails : Bool) (s : State) :
  ∃ w, execIngestReadError t e repeatFails s = .next (settle w) ∧ w.pending = s.pending := by
  unfold execIngestReadError; (repeat' split) <;> exact ⟨_, rfl, by simp⟩
theorem execCoalescingTimeout_pending (t : Fin 64) (s : State) : ∃ w, execCoalescingTimeout t s = .next (settle w) ∧ w.pending = s.pending := by
  unfold execCoalescingTimeout; (repeat' split) <;> exact ⟨_, rfl, by simp⟩
@[simp] theorem configRequest_pending (s : State) (fn : Nat) : (configRequest s fn).pending = s.pending := by unfold configRequest; simp
theorem execBusMasterEnable_pending (t : Fin 64) (on : Bool) (s : State) :
  ∃ w, execBusMasterEnable t on s = .next (settle w) ∧ w.pending = s.pending := by
  unfold execBusMasterEnable; (repeat' split) <;> exact ⟨_, rfl, by simp⟩
@[simp] theorem resetPf0_pending (s : State) : (resetPf0 s).pending = s.pending := by unfold resetPf0; simp
theorem execFunctionLevelReset_pending (fn : Fin 65) (s : State) : ∃ w, execFunctionLevelReset fn s = .next (settle w) ∧ w.pending = s.pending := by
  unfold execFunctionLevelReset; (repeat' split) <;> exact ⟨_, rfl, by simp⟩
theorem execPePerst_pending (s : State) : ∃ w, execPePerst s = .next (settle w) ∧ w.pending = s.pending := by
  unfold execPePerst; (repeat' split) <;> exact ⟨_, rfl, by simp⟩
theorem execPePerstRelease_pending (speed width : Nat) (s : State) :
  ∃ w, execPePerstRelease speed width s = .next (settle w) ∧ w.pending = s.pending := by
  unfold execPePerstRelease; (repeat' split) <;> exact ⟨_, rfl, by simp⟩
theorem execNumvfsWrite_pending (n : Nat) (s : State) : ∃ w, execNumvfsWrite n s = .next (settle w) ∧ w.pending = s.pending := by
  unfold execNumvfsWrite; (repeat' split) <;> exact ⟨_, rfl, by simp⟩
theorem execScrubComplete_pending (t : Fin 64) (s : State) : ∃ w, execScrubComplete t s = .next (settle w) ∧ w.pending = s.pending := by
  unfold execScrubComplete; (repeat' split) <;> exact ⟨_, rfl, by simp⟩

/-! ## Motors -/

@[simp] theorem encoderMeasured_pending (s : State) (m : Nat) : (encoderMeasured s m).pending = s.pending := by unfold encoderMeasured; simp
@[simp] theorem placeSamples_pending (s : State) (m : Nat) : (placeSamples s m).pending = s.pending := by unfold placeSamples; simp
@[simp] theorem takeCurrents_pending (s : State) (m : Nat) (s1 s2 : Int) : (takeCurrents s m s1 s2).pending = s.pending := by
  unfold takeCurrents; simp
@[simp] theorem controlPeriod_pending (s : State) (m : Nat) (s1 s2 : Int) : (controlPeriod s m s1 s2).pending = s.pending := by
  unfold controlPeriod; simp
@[simp] theorem speedProgress_pending (s : State) (m : Nat) : (speedProgress s m).pending = s.pending := by
  unfold speedProgress; simp only; (repeat' split) <;> simp
@[simp] theorem periodEnd_pending (s : State) (m : Nat) : (periodEnd s m).pending = s.pending := by unfold periodEnd; simp
@[simp] theorem startGates_pending (s : State) (m : Nat) : (startGates s m).pending = s.pending := by unfold startGates; simp
theorem execPwmPeriod_pending (m : Fin 12) (sample1 sample2 : Int) (s : State) :
  ∃ w, execPwmPeriod m sample1 sample2 s = .next (settle w) ∧ w.pending = s.pending := by
  unfold execPwmPeriod; (repeat' split) <;> exact ⟨_, rfl, by simp⟩
theorem execAlignEnd_pending (m : Fin 6) (s : State) : ∃ w, execAlignEnd m s = .next (settle w) ∧ w.pending = s.pending := by
  unfold execAlignEnd; (repeat' split) <;> exact ⟨_, rfl, by simp⟩
theorem execRampEnd_pending (m : Fin 6) (s : State) : ∃ w, execRampEnd m s = .next (settle w) ∧ w.pending = s.pending := by
  unfold execRampEnd; simp only; (repeat' split) <;> exact ⟨_, rfl, by simp⟩
theorem execZeroCrossing_pending (m : Fin 6) (t : Nat) (s : State) : ∃ w, execZeroCrossing m t s = .next (settle w) ∧ w.pending = s.pending := by
  unfold execZeroCrossing; simp only; (repeat' split) <;> exact ⟨_, rfl, by simp⟩
@[simp] theorem commutate_pending (s : State) (m t : Nat) : (commutate s m t).pending = s.pending := by unfold commutate; simp
theorem execCommutation_pending (m : Fin 12) (t : Nat) (s : State) : ∃ w, execCommutation m t s = .next (settle w) ∧ w.pending = s.pending := by
  unfold execCommutation; simp only; (repeat' split) <;> exact ⟨_, rfl, by simp⟩
theorem execHallEdge_pending (m : Fin 12) (code : Fin 8) (t : Nat) (s : State) :
  ∃ w, execHallEdge m code t s = .next (settle w) ∧ w.pending = s.pending := by
  unfold execHallEdge; exact ⟨_, rfl, by simp⟩
theorem execOvercurrent_pending (x : ShuntSample) (s : State) : ∃ w, execOvercurrent x s = .next (settle w) ∧ w.pending = s.pending := by
  unfold execOvercurrent; (repeat' split) <;> exact ⟨_, rfl, by simp⟩
theorem execStallTimeout_pending (m : Fin 12) (s : State) : ∃ w, execStallTimeout m s = .next (settle w) ∧ w.pending = s.pending := by
  unfold execStallTimeout; (repeat' split) <;> exact ⟨_, rfl, by simp⟩
theorem execBackEmfLoss_pending (m : Fin 6) (s : State) : ∃ w, execBackEmfLoss m s = .next (settle w) ∧ w.pending = s.pending := by
  unfold execBackEmfLoss; (repeat' split) <;> exact ⟨_, rfl, by simp⟩
theorem execMotorRestart_pending (m : Fin 12) (s : State) : ∃ w, execMotorRestart m s = .next (settle w) ∧ w.pending = s.pending := by
  unfold execMotorRestart; (repeat' split) <;> exact ⟨_, rfl, by simp⟩
theorem execBrakeEnd_pending (m : Fin 12) (s : State) : ∃ w, execBrakeEnd m s = .next (settle w) ∧ w.pending = s.pending := by
  unfold execBrakeEnd; (repeat' split) <;> exact ⟨_, rfl, by simp⟩

/-! ## Axes -/

theorem execMoveEnd_pending (a : Fin 16) (s : State) : ∃ w, execMoveEnd a s = .next (settle w) ∧ w.pending = s.pending := by
  unfold execMoveEnd; simp only; (repeat' split) <;> exact ⟨_, rfl, by simp⟩
@[simp] theorem leavePath_pending (s : State) (b : Nat) : (leavePath s b).pending = s.pending := (rfl)
@[simp] theorem releaseAxis_pending (s : State) (a : Nat) : (releaseAxis s a).pending = s.pending := by unfold releaseAxis; split <;> simp
@[simp] theorem releaseMotor_pending (s : State) (m : Nat) : (releaseMotor s m).pending = s.pending := by unfold releaseMotor; split <;> simp
theorem execDeferredCommandRelease_pending (target : Fin 28) (s : State) :
  ∃ w, execDeferredCommandRelease target s = .next (settle w) ∧ w.pending = s.pending := by
  unfold execDeferredCommandRelease; (repeat' split) <;> exact ⟨_, rfl, by simp⟩
theorem execStandstillDelayEnd_pending (a : Fin 16) (s : State) : ∃ w, execStandstillDelayEnd a s = .next (settle w) ∧ w.pending = s.pending := by
  unfold execStandstillDelayEnd; (repeat' split) <;> exact ⟨_, rfl, by simp⟩
theorem execHomingLatch_pending (a : Fin 16) (s : State) : ∃ w, execHomingLatch a s = .next (settle w) ∧ w.pending = s.pending := by
  unfold execHomingLatch; simp only; (repeat' split) <;> exact ⟨_, rfl, by simp⟩
@[simp] theorem hardStopFound_pending (s : State) (a : Nat) : (hardStopFound s a).pending = s.pending := by unfold hardStopFound; split <;> simp
theorem execHomingSearchEnd_pending (a : Fin 16) (s : State) : ∃ w, execHomingSearchEnd a s = .next (settle w) ∧ w.pending = s.pending := by
  unfold execHomingSearchEnd; simp only; (repeat' split) <;> exact ⟨_, rfl, by simp⟩
theorem execHomeActive_pending (a : Fin 16) (s : State) : ∃ w, execHomeActive a s = .next (settle w) ∧ w.pending = s.pending := by
  unfold execHomeActive; simp only; (repeat' split) <;> exact ⟨_, rfl, by simp⟩
theorem execLimitActive_pending (a : Fin 16) (positive : Bool) (s : State) :
  ∃ w, execLimitActive a positive s = .next (settle w) ∧ w.pending = s.pending := by
  unfold execLimitActive; exact ⟨_, rfl, by simp⟩
theorem execAxisDriverFault_pending (a : Fin 16) (s : State) : ∃ w, execAxisDriverFault a s = .next (settle w) ∧ w.pending = s.pending := by
  unfold execAxisDriverFault; exact ⟨_, rfl, by simp⟩
theorem execAxisReenable_pending (a : Fin 16) (s : State) : ∃ w, execAxisReenable a s = .next (settle w) ∧ w.pending = s.pending := by
  unfold execAxisReenable; simp only; (repeat' split) <;> exact ⟨_, rfl, by simp⟩
theorem execAxisFltInactive_pending (a : Fin 16) (s : State) : ∃ w, execAxisFltInactive a s = .next (settle w) ∧ w.pending = s.pending := by
  unfold execAxisFltInactive; (repeat' split) <;> exact ⟨_, rfl, by simp⟩

/-! ## Loops -/

@[simp] theorem evaluationCause_pending (s : State) (n : Nat) (c : Option Nat) : (evaluationCause s n c).pending = s.pending := by
  unfold evaluationCause; split <;> simp
@[simp] theorem tripEnds_pending (s : State) (n : Nat) : (tripEnds s n).pending = s.pending := by unfold tripEnds; simp
theorem execLoopEvaluation_pending (n : Fin 48) (s : State) : ∃ w, execLoopEvaluation n s = .next (settle w) ∧ w.pending = s.pending := by
  unfold execLoopEvaluation; (repeat' split) <;> exact ⟨_, rfl, by simp⟩
theorem execLoopRestart_pending (n : Fin 48) (s : State) : ∃ w, execLoopRestart n s = .next (settle w) ∧ w.pending = s.pending := by
  unfold execLoopRestart; (repeat' split) <;> exact ⟨_, rfl, by simp⟩
@[simp] theorem fuserBroken_pending (s : State) (i : Nat) : (fuserBroken s i).pending = s.pending := by unfold fuserBroken; simp
@[simp] theorem brokenTwice_pending (s : State) (i : Nat) : (brokenTwice s i).pending = s.pending := by unfold brokenTwice; simp
@[simp] theorem takeBroken_pending (s : State) (i v1 : Nat) : (takeBroken s i v1).pending = s.pending := by unfold takeBroken; simp
@[simp] theorem takeGood_pending (s : State) (i v1 : Nat) : (takeGood s i v1).pending = s.pending := by unfold takeGood; simp
theorem execConversion_pending (i : Fin 48) (v1 v2 : Nat) (s : State) : ∃ w, execConversion i v1 v2 s = .next (settle w) ∧ w.pending = s.pending := by
  unfold execConversion; simp only; (repeat' split) <;> exact ⟨_, rfl, by simp⟩
@[simp] theorem zonePulse_pending (s : State) (z : Nat) : (zonePulse s z).pending = s.pending := by unfold zonePulse; simp
@[simp] theorem edgesBack_pending (s : State) : (edgesBack s).pending = s.pending := by unfold edgesBack; simp
theorem execZcInEdge_pending (s : State) : ∃ w, execZcInEdge s = .next (settle w) ∧ w.pending = s.pending := by
  unfold execZcInEdge; (repeat' split) <;> exact ⟨_, rfl, by simp⟩
theorem execZeroCrossTimeout_pending (s : State) : ∃ w, execZeroCrossTimeout s = .next (settle w) ∧ w.pending = s.pending := by
  unfold execZeroCrossTimeout; (repeat' split) <;> exact ⟨_, rfl, by simp⟩

/-! ## PinCommands -/

theorem execDriveMismatch_pending (p : Fin 96) (s : State) : ∃ w, execDriveMismatch p s = .next (settle w) ∧ w.pending = s.pending := by
  unfold execDriveMismatch; (repeat' split) <;> exact ⟨_, rfl, by simp⟩
theorem execBankSupplyChange_pending (bank33 : Bool) (x : BankSupply) (s : State) :
  ∃ w, execBankSupplyChange bank33 x s = .next (settle w) ∧ w.pending = s.pending := by
  unfold execBankSupplyChange; (repeat' split) <;> exact ⟨_, rfl, by simp⟩

/-! ## Step -/

@[simp] theorem State.withFetchWord_pending (s : State) (nbits w : Nat) : (State.withFetchWord s nbits w).pending = s.pending := (rfl)

end Sys2Proof.Machine
end

