-- ==== Sys2Proof/Laws/SheetFrames.lean ====
section
/-! SUPPORT. The operations that leave the list of sheets as it is: one lemma per operation. -/

namespace Sys2Proof.Machine

/-! ## Choices and folds -/

@[simp] theorem ite_sheets (c : Prop) [Decidable c] (a b : State) :
  (if c then a else b).sheets = if c then a.sheets else b.sheets := apply_ite (·.sheets) c a b
@[simp] theorem ite_sheets1 {α : Type} (c : Prop) [Decidable c] (a b : State × α) :
  (if c then a else b).1.sheets = if c then a.1.sheets else b.1.sheets :=
  apply_ite (·.1.sheets) c a b
@[simp] theorem foldl_sheets {α : Type} (l : List α) (f : State → α → State) (s : State) (h : ∀ u x, (f u x).sheets = u.sheets) :
  (l.foldl f s).sheets = s.sheets := by
  induction l generalizing s with
  | nil => rfl
  | cons a r ih => exact (ih _).trans (h _ _)
@[simp] theorem foldl_sheets1 {α β : Type} (l : List α) (f : State × β → α → State × β) (s : State × β) (h : ∀ u x, (f u x).1.sheets = u.1.sheets) :
    (l.foldl f s).1.sheets = s.1.sheets := by
  induction l generalizing s with
  | nil => rfl
  | cons a r ih => exact (ih _).trans (h _ _)
@[simp] theorem foldr_sheets {α : Type} (l : List α) (f : α → State → State) (s : State) (h : ∀ u x, (f x u).sheets = u.sheets) :
  (l.foldr f s).sheets = s.sheets := by
  induction l with
  | nil => rfl
  | cons a r ih => exact (h _ _).trans ih
@[simp] theorem forEach_sheets (l : List Nat) (f : State → Nat → State) (s : State) (h : ∀ u x, (f u x).sheets = u.sheets) :
    (forEach l f s).sheets = s.sheets := foldl_sheets l f s h

/-! ## Ops -/

@[simp] theorem putS_sheets (s : State) (w idx sub : Nat) (v : Int) : (putS s w idx sub v).sheets = s.sheets := (rfl)
@[simp] theorem wrapBy_sheets (w : Nat) (s : State) (idx sub n : Nat) : (wrapBy w s idx sub n).sheets = s.sheets := (rfl)
@[simp] theorem satBy_sheets (w : Nat) (s : State) (idx sub n : Nat) : (satBy w s idx sub n).sheets = s.sheets := (rfl)
@[simp] theorem bump_sheets (s : State) (idx sub : Nat) : (bump s idx sub).sheets = s.sheets := (rfl)
@[simp] theorem sat_sheets (s : State) (idx sub : Nat) : (sat s idx sub).sheets = s.sheets := (rfl)
@[simp] theorem holdTime_sheets (s : State) : (holdTime s).sheets = s.sheets := (rfl)
@[simp] theorem vector_sheets (s : State) (fn vec : Nat) : (vector s fn vec).sheets = s.sheets := by unfold vector; simp
@[simp] theorem wrapLog_sheets (w : Nat) (s : State) (idx sub : Nat) : (wrapLog w s idx sub).sheets = s.sheets := (rfl)
@[simp] theorem satLog_sheets (w : Nat) (s : State) (idx sub : Nat) : (satLog w s idx sub).sheets = s.sheets := (rfl)
@[simp] theorem tick_sheets (s : State) : (tick s).sheets = s.sheets := by unfold tick; simp
@[simp] theorem mirrorWrite_sheets (s : State) (e : Entry) : (mirrorWrite s e).sheets = s.sheets := by
  unfold mirrorWrite; (repeat' split) <;> simp
@[simp] theorem ringWrite_sheets (s : State) (e : Entry) : (ringWrite s e).sheets = s.sheets := by unfold ringWrite; simp
@[simp] theorem notice_sheets (s : State) (idx sub cls : Nat) : (notice s idx sub cls).sheets = s.sheets := by unfold notice; simp
@[simp] theorem noticeAlone_sheets (s : State) (idx sub cls : Nat) : (noticeAlone s idx sub cls).sheets = s.sheets := by unfold noticeAlone; simp
@[simp] theorem classVectors_sheets (s : State) (cls : Nat) : (classVectors s cls).sheets = s.sheets := by unfold classVectors; simp
@[simp] theorem logOnly_sheets (s : State) (cls kind src inst idx sub : Nat) (serial : Option Nat) (detail : Nat) :
  (logOnly s cls kind src inst idx sub serial detail).sheets = s.sheets := by unfold logOnly; simp
@[simp] theorem log_sheets (s : State) (cls kind src inst idx sub : Nat) (serial : Option Nat) (detail : Nat) :
  (log s cls kind src inst idx sub serial detail).sheets = s.sheets := by unfold log; simp
@[simp] theorem logEvent_sheets (s : State) (cls src inst idx sub : Nat) : (logEvent s cls src inst idx sub).sheets = s.sheets := by
  unfold logEvent; simp
@[simp] theorem serveDrop_sheets (s : State) (m : Mech) (inst : Nat) : (serveDrop s m inst).sheets = s.sheets := (rfl)
@[simp] theorem serveBegin_sheets (s : State) (m : Mech) (inst code src idx sub : Nat) :
  (serveBegin s m inst code src idx sub).sheets = s.sheets := by unfold serveBegin; simp
@[simp] theorem servePass_sheets (s : State) (m : Mech) (inst src idx sub : Nat) : (servePass s m inst src idx sub).sheets = s.sheets := by
  unfold servePass; split <;> simp
@[simp] theorem doubleFaultAs_sheets (cls : Nat) (s : State) (m : Mech) (inst code src idx sub : Nat) :
  (doubleFaultAs cls s m inst code src idx sub).sheets = s.sheets := by unfold doubleFaultAs; simp
@[simp] theorem doubleFault_sheets (s : State) (m : Mech) (inst code src idx sub : Nat) :
  (doubleFault s m inst code src idx sub).sheets = s.sheets := by unfold doubleFault; simp
@[simp] theorem serveCancel_sheets (s : State) (m : Mech) (inst src idx sub : Nat) : (serveCancel s m inst src idx sub).sheets = s.sheets := by
  unfold serveCancel; split <;> simp
@[simp] theorem watch_sheets (high : Bool) (s : State) (idx sub old v : Nat) : (watch high s idx sub old v).sheets = s.sheets := by unfold watch; simp
@[simp] theorem causeAdd_sheets (s : State) (c inst : Nat) : (causeAdd s c inst).sheets = s.sheets := by unfold causeAdd; simp
@[simp] theorem causeEnd_sheets (s : State) (c inst : Nat) : (causeEnd s c inst).sheets = s.sheets := by unfold causeEnd; simp
@[simp] theorem causeEndAll_sheets (s : State) (p : Nat → Nat → Bool) : (causeEndAll s p).sheets = s.sheets := by unfold causeEndAll; simp

/-! ## Sheets -/

@[simp] theorem setSlots_sheets (s : State) (l : Tab Event) : (setSlots s l).sheets = s.sheets := by unfold setSlots; simp
@[simp] theorem addEvent_sheets (s : State) (lo hi : Nat) (e : Event) : (addEvent s lo hi e).sheets = s.sheets := by unfold addEvent; split <;> simp
@[simp] theorem dropEvents_sheets (s : State) (p : Event → Bool) : (dropEvents s p).sheets = s.sheets := by unfold dropEvents; simp
@[simp] theorem writeEntry_sheets (s : State) (t : Nat) (l : List Byte) : (writeEntry s t l).sheets = s.sheets := (rfl)
@[simp] theorem signalEntry_sheets (s : State) (t : Nat) : (signalEntry s t).sheets = s.sheets := by unfold signalEntry; simp
@[simp] theorem writeSignal_sheets (s : State) (t : Nat) (h : Held) : (writeSignal s t h).sheets = s.sheets := by unfold writeSignal; simp
@[simp] theorem deliver_sheets (s : State) (t : Nat) (h : Held) : (deliver s t h).sheets = s.sheets := by unfold deliver; simp
@[simp] theorem flushHeld_sheets (t a : Nat) (a1 : State) : (flushHeld t a a1).sheets = a1.sheets := by
  fun_induction flushHeld t a a1 <;> simp [*]
@[simp] theorem countOutcome_sheets (s : State) (outcome : Nat) : (countOutcome s outcome).sheets = s.sheets := by unfold countOutcome; simp
@[simp] theorem completion_sheets (s : State) (sh : Sheet) (outcome reason : Nat) (double : Bool) :
  (completion s sh outcome reason double).sheets = s.sheets := by unfold completion; simp
@[simp] theorem toScrubbing_sheets (s : State) (t : Nat) : (toScrubbing s t).sheets = s.sheets := by unfold toScrubbing; simp
@[simp] theorem ghostCheck_sheets (s : State) (t : Nat) : (ghostCheck s t).sheets = s.sheets := by unfold ghostCheck; simp

/-! ## MotorOps -/

@[simp] theorem setMotorState_sheets (s : State) (m v : Nat) : (setMotorState s m v).sheets = s.sheets := (rfl)
@[simp] theorem gatesOff_sheets (s : State) (m : Nat) : (gatesOff s m).sheets = s.sheets := (rfl)
@[simp] theorem motorOff_sheets (s : State) (m : Nat) : (motorOff s m).sheets = s.sheets := (rfl)
@[simp] theorem startRamp_sheets (s : State) (m : Nat) (v : Int) (d : Nat) : (startRamp s m v d).sheets = s.sheets := (rfl)
@[simp] theorem spinUp_sheets (s : State) (m : Nat) : (spinUp s m).sheets = s.sheets := by unfold spinUp; simp
@[simp] theorem unlock_sheets (s : State) (m : Nat) : (unlock s m).sheets = s.sheets := by unfold unlock; simp
@[simp] theorem commandEntry_sheets (s : State) (m k : Nat) : (commandEntry s m k).sheets = s.sheets := by unfold commandEntry; simp
@[simp] theorem brakeMotor_sheets (s : State) (m : Nat) : (brakeMotor s m).sheets = s.sheets := by unfold brakeMotor; simp
@[simp] theorem rampStop_sheets (s : State) (m : Nat) : (rampStop s m).sheets = s.sheets := by unfold rampStop; simp
@[simp] theorem shortLowSides_sheets (s : State) (m : Nat) : (shortLowSides s m).sheets = s.sheets := (rfl)
@[simp] theorem driveGates_sheets (s : State) (m : Nat) : (driveGates s m).sheets = s.sheets := by unfold driveGates; simp
@[simp] theorem motorReached_sheets (s : State) (m : Nat) : (motorReached s m).sheets = s.sheets := by unfold motorReached; simp
@[simp] theorem beginRun_sheets (s : State) (m : Nat) : (beginRun s m).sheets = s.sheets := (rfl)
@[simp] theorem restartMotor_sheets (s : State) (m : Nat) : (restartMotor s m).sheets = s.sheets := by unfold restartMotor; simp

/-! ## AxisOps -/

@[simp] theorem setHomed_sheets (s : State) (a : Nat) (b : Bool) : (setHomed s a b).sheets = s.sheets := (rfl)
@[simp] theorem settlePosition_sheets (s : State) (a : Nat) (pos : Int) (steps : Nat) : (settlePosition s a pos steps).sheets = s.sheets := (rfl)
@[simp] theorem toStandstill_sheets (s : State) (a : Nat) : (toStandstill s a).sheets = s.sheets := (rfl)
@[simp] theorem runMove_sheets (s : State) (a : Nat) (m : Move) (wait : Nat) : (runMove s a m wait).sheets = s.sheets := (rfl)
@[simp] theorem noMove_sheets (s : State) (a : Nat) : (noMove s a).sheets = s.sheets := (rfl)
@[simp] theorem startMove_sheets (s : State) (a : Nat) (m : Move) : (startMove s a m).sheets = s.sheets := by unfold startMove; simp
@[simp] theorem startGroup_sheets (s : State) (l : List (Nat × Move)) : (startGroup s l).sheets = s.sheets := by unfold startGroup; simp
@[simp] theorem groupMove_sheets (s : State) (g r : Nat) : (groupMove s g r).sheets = s.sheets := by unfold groupMove; split <;> simp
@[simp] theorem moveOverrun_sheets (s : State) (a : Nat) : (moveOverrun s a).sheets = s.sheets := by unfold moveOverrun; simp
@[simp] theorem fireMove_sheets (s : State) (a r : Nat) : (fireMove s a r).1.sheets = s.sheets := by
  unfold fireMove; simp only; (repeat' split) <;> simp
@[simp] theorem endMove_sheets (s : State) (a : Nat) : (endMove s a).sheets = s.sheets := by
  unfold endMove; simp only; (repeat' split) <;> simp
@[simp] theorem hardStop_sheets (s : State) (a : Nat) : (hardStop s a).sheets = s.sheets := by
  unfold hardStop; simp only; (repeat' split) <;> simp
@[simp] theorem slowStop_sheets (s : State) (a : Nat) (dec : Option Nat) : (slowStop s a dec).sheets = s.sheets := by
  unfold slowStop; simp only; (repeat' split) <;> simp
@[simp] theorem rampedStop_sheets (s : State) (a : Nat) : (rampedStop s a).sheets = s.sheets := by unfold rampedStop; simp
@[simp] theorem stopAxis_sheets (s : State) (a : Nat) (hard : Bool) : (stopAxis s a hard).sheets = s.sheets := by unfold stopAxis; simp
@[simp] theorem resumeAxis_sheets (s : State) (a : Nat) : (resumeAxis s a).sheets = s.sheets := by unfold resumeAxis; simp
@[simp] theorem safestopAxis_sheets (s : State) (a : Nat) : (safestopAxis s a).sheets = s.sheets := by unfold safestopAxis; simp
@[simp] theorem homingDone_sheets (s : State) (a : Nat) : (homingDone s a).sheets = s.sheets := by unfold homingDone; simp
@[simp] theorem startHoming_sheets (s : State) (a : Nat) : (startHoming s a).sheets = s.sheets := by unfold startHoming; simp
@[simp] theorem freeze_sheets (s : State) (a : Nat) : (freeze s a).sheets = s.sheets := by unfold freeze; split <;> simp
@[simp] theorem homingBack_sheets (s : State) (a : Nat) : (homingBack s a).sheets = s.sheets := by unfold homingBack; simp
@[simp] theorem homingOnward_sheets (s : State) (a : Nat) : (homingOnward s a).sheets = s.sheets := (rfl)
@[simp] theorem restAxis_sheets (s : State) (a : Nat) : (restAxis s a).sheets = s.sheets := by unfold restAxis; split <;> simp
@[simp] theorem homingLatched_sheets (s : State) (a : Nat) : (homingLatched s a).sheets = s.sheets := by unfold homingLatched; split <;> simp
@[simp] theorem homingFail_sheets (s : State) (a : Nat) : (homingFail s a).sheets = s.sheets := by unfold homingFail; simp
@[simp] theorem limitStop_sheets (s : State) (a : Nat) : (limitStop s a).sheets = s.sheets := by unfold limitStop; simp
@[simp] theorem disableAxis_sheets (s : State) (a : Nat) : (disableAxis s a).sheets = s.sheets := by unfold disableAxis; simp
@[simp] theorem takeStandstill_sheets (s : State) (a : Nat) : (takeStandstill s a).sheets = s.sheets := (rfl)
@[simp] theorem enableAxis_sheets (s : State) (a : Nat) : (enableAxis s a).sheets = s.sheets := (rfl)
@[simp] theorem retain_sheets (s : State) (a : Nat) : (retain s a).sheets = s.sheets := by
  unfold retain; (repeat' split) <;> simp
@[simp] theorem wakeAxis_sheets (s : State) (a : Nat) : (wakeAxis s a).sheets = s.sheets := by unfold wakeAxis; simp

/-! ## LoopOps -/

@[simp] theorem outputOff_sheets (s : State) (n : Nat) : (outputOff s n).sheets = s.sheets := by unfold outputOff; simp
@[simp] theorem loopOffNow_sheets (s : State) (n : Nat) : (loopOffNow s n).sheets = s.sheets := by unfold loopOffNow; simp
@[simp] theorem softStart_sheets (s : State) (n : Nat) : (softStart s n).sheets = s.sheets := by unfold softStart; simp
@[simp] theorem loopRunning_sheets (s : State) (n : Nat) : (loopRunning s n).sheets = s.sheets := by unfold loopRunning; simp
@[simp] theorem moveSp_sheets (s : State) (n : Nat) : (moveSp s n).sheets = s.sheets := by unfold moveSp; simp
@[simp] theorem injectionTick_sheets (s : State) : (injectionTick s).sheets = s.sheets := by unfold injectionTick; simp
@[simp] theorem sendOutput_sheets (s : State) (n : Nat) : (sendOutput s n).sheets = s.sheets := by unfold sendOutput; simp
@[simp] theorem runLaw_sheets (s : State) (n : Nat) (x : Int) : (runLaw s n x).1.sheets = s.sheets := (rfl)
@[simp] theorem output_sheets (s : State) (n : Nat) : (output s n).sheets = s.sheets := by unfold output; simp
@[simp] theorem saturation_sheets (s : State) (n : Nat) (d : Int) : (saturation s n d).1.sheets = s.sheets := (rfl)
@[simp] theorem oscillation_sheets (s : State) (n : Nat) (x : Int) : (oscillation s n x).1.sheets = s.sheets := by unfold oscillation; simp
@[simp] theorem loopFault_sheets (s : State) (n code : Nat) : (loopFault s n code).sheets = s.sheets := (rfl)
@[simp] theorem captureSample_sheets (s : State) (n : Nat) (x y : Int) : (captureSample s n x y).sheets = s.sheets := by unfold captureSample; simp
@[simp] theorem captureTrigger_sheets (s : State) (n : Nat) : (captureTrigger s n).sheets = s.sheets := by unfold captureTrigger; simp
@[simp] theorem loopBroken_sheets (s : State) (n : Nat) : (loopBroken s n).sheets = s.sheets := by unfold loopBroken; simp
@[simp] theorem followMotor_sheets (s : State) (n : Nat) : (followMotor s n).sheets = s.sheets := by unfold followMotor; simp
@[simp] theorem countEval_sheets (s : State) (n : Nat) : (countEval s n).sheets = s.sheets := (rfl)
@[simp] theorem loopCommandOff_sheets (s : State) (n : Nat) : (loopCommandOff s n).sheets = s.sheets := by unfold loopCommandOff; simp
@[simp] theorem loopCommandOn_sheets (s : State) (n : Nat) : (loopCommandOn s n).sheets = s.sheets := by unfold loopCommandOn; split <;> simp
@[simp] theorem loopRestartNow_sheets (s : State) (n : Nat) : (loopRestartNow s n).sheets = s.sheets := by unfold loopRestartNow; simp
@[simp] theorem selectBank_sheets (s : State) (n b : Nat) : (selectBank s n b).sheets = s.sheets := (rfl)
@[simp] theorem safestopLoop_sheets (s : State) (n : Nat) : (safestopLoop s n).sheets = s.sheets := by unfold safestopLoop; simp
@[simp] theorem goodConversion_sheets (s : State) (i v1 : Nat) : (goodConversion s i v1).sheets = s.sheets := by unfold goodConversion; simp
@[simp] theorem brokenConversion_sheets (s : State) (i v1 : Nat) : (brokenConversion s i v1).sheets = s.sheets := (rfl)

/-! ## LinkOps -/

@[simp] theorem restLanes_sheets (s : State) (n : Nat) : (restLanes s n).sheets = s.sheets := (rfl)
@[simp] theorem setLinkState_sheets (s : State) (n v : Nat) : (setLinkState s n v).sheets = s.sheets := by unfold setLinkState; simp
@[simp] theorem queueBlocks_sheets (s : State) (n : Nat) (l : List LinkBlock) : (queueBlocks s n l).sheets = s.sheets := by unfold queueBlocks; simp
@[simp] theorem sendControl_sheets (s : State) (n : Nat) (l : List (List Byte)) : (sendControl s n l).sheets = s.sheets := by unfold sendControl; simp
@[simp] theorem sendLight_sheets (s : State) (n beam kind t d : Nat) : (sendLight s n beam kind t d).sheets = s.sheets := by unfold sendLight; simp
@[simp] theorem releaseLights_sheets (s : State) (n : Nat) : (releaseLights s n).sheets = s.sheets := by unfold releaseLights; simp
@[simp] theorem sendMultiframe_sheets (s : State) (n : Nat) : (sendMultiframe s n).sheets = s.sheets := (rfl)
@[simp] theorem linkTick_sheets (s : State) : (linkTick s).sheets = s.sheets := by unfold linkTick; simp
@[simp] theorem sendPixels_sheets (s : State) (n seq : Nat) (words : List Nat) : (sendPixels s n seq words).sheets = s.sheets := by
  unfold sendPixels; simp
@[simp] theorem sendLspi_sheets (s : State) (n : Nat) (l : List Nat) : (sendLspi s n l).sheets = s.sheets := (rfl)
@[simp] theorem linkBegin_sheets (s : State) (n : Nat) (rep serve : Bool) : (linkBegin s n rep serve).sheets = s.sheets := by unfold linkBegin; simp
@[simp] theorem linkUp_sheets (s : State) (n : Nat) (serve : Bool) : (linkUp s n serve).sheets = s.sheets := by unfold linkUp; simp
@[simp] theorem linkOff_sheets (s : State) (n : Nat) : (linkOff s n).sheets = s.sheets := by unfold linkOff; simp
@[simp] theorem linkFail_sheets (s : State) (n : Nat) : (linkFail s n).1.sheets = s.sheets := by unfold linkFail; simp
@[simp] theorem linkIsUp_sheets (s : State) (n : Nat) : (linkIsUp s n).sheets = s.sheets := by unfold linkIsUp; simp
@[simp] theorem linkStepDone_sheets (s : State) (n : Nat) (regs : List Nat) : (linkStepDone s n regs).1.sheets = s.sheets := by
  unfold linkStepDone; split <;> simp

/-! ## RasterOps -/

@[simp] theorem updateFreeboard_sheets (s : State) (n : Nat) : (updateFreeboard s n).sheets = s.sheets := by unfold updateFreeboard; simp
@[simp] theorem setDecoder_sheets (s : State) (n v : Nat) : (setDecoder s n v).sheets = s.sheets := (rfl)
@[simp] theorem refill_sheets (s : State) (n : Nat) : (refill s n).sheets = s.sheets := by unfold refill; simp
@[simp] theorem startPlane_sheets (s : State) (n : Nat) (sh : Sheet) : (startPlane s n sh).sheets = s.sheets := (rfl)
@[simp] theorem dropPlane_sheets (s : State) (n state : Nat) : (dropPlane s n state).sheets = s.sheets := (rfl)
@[simp] theorem discardData_sheets (s : State) (n uid : Nat) : (discardData s n uid).sheets = s.sheets := (rfl)
@[simp] theorem emptyFifo_sheets (s : State) (n : Nat) : (emptyFifo s n).sheets = s.sheets := by unfold emptyFifo; simp
@[simp] theorem stopRaster_sheets (s : State) (n : Nat) : (stopRaster s n).sheets = s.sheets := by unfold stopRaster; simp
@[simp] theorem forgetAt_sheets (s : State) (uid n : Nat) : (forgetAt s uid n).sheets = s.sheets := by unfold forgetAt; simp
@[simp] theorem forgetRaster_sheets (s : State) (uid : Nat) : (forgetRaster s uid).sheets = s.sheets := by unfold forgetRaster; simp

/-! ## ScanOps -/

@[simp] theorem phaseLost_sheets (s : State) (k : Nat) : (phaseLost s k).sheets = s.sheets := by unfold phaseLost; simp
@[simp] theorem holdOff_sheets (s : State) (k : Nat) : (holdOff s k).sheets = s.sheets := by unfold holdOff; simp
@[simp] theorem holdUnlit_sheets (s : State) : (holdUnlit s).sheets = s.sheets := by unfold holdUnlit; simp
@[simp] theorem beginAcquire_sheets (s : State) (k : Nat) : (beginAcquire s k).sheets = s.sheets := (rfl)
@[simp] theorem fillPeriods_sheets (s : State) (k c : Nat) (edges : List Nat) : (fillPeriods s k c edges).sheets = s.sheets := by
  unfold fillPeriods; simp
@[simp] theorem collectEdge_sheets (s : State) (k t : Nat) (edges : List Nat) : (collectEdge s k t edges).sheets = s.sheets := by
  unfold collectEdge; simp
@[simp] theorem trackerCount_sheets (s : State) (k sub : Nat) : (trackerCount s k sub).sheets = s.sheets := (rfl)
@[simp] theorem windowEdge_sheets (s : State) (k t : Nat) : (windowEdge s k t).1.sheets = s.sheets := by unfold windowEdge; split <;> simp
@[simp] theorem fixTooth_sheets (s : State) (k : Nat) : (fixTooth s k).sheets = s.sheets := by unfold fixTooth; simp
@[simp] theorem writeTable_sheets (s : State) (k sub : Nat) (l : List Nat) : (writeTable s k sub l).sheets = s.sheets := by unfold writeTable; simp
@[simp] theorem relabel_sheets (s : State) (k r : Nat) : (relabel s k r).sheets = s.sheets := by unfold relabel; simp
@[simp] theorem identify_sheets (s : State) (k : Nat) : (identify s k).sheets = s.sheets := by
  unfold identify; simp only; (repeat' split) <;> simp
@[simp] theorem polygonTracks_sheets (s : State) (m : Nat) : (polygonTracks s m).sheets = s.sheets := by unfold polygonTracks; simp
@[simp] theorem phaseLock_sheets (s : State) (m t : Nat) : (phaseLock s m t).sheets = s.sheets := by
  unfold phaseLock; (repeat' split) <;> simp
@[simp] theorem polygonTooth_sheets (s : State) (m t per : Nat) (coast : Bool) : (polygonTooth s m t per coast).sheets = s.sheets := by
  unfold polygonTooth; simp
@[simp] theorem bdWindow_sheets (s : State) (n : Nat) : (bdWindow s n).sheets = s.sheets := by unfold bdWindow; simp
@[simp] theorem keepLit_sheets (s : State) (n : Nat) : (keepLit s n).sheets = s.sheets := by unfold keepLit; simp
@[simp] theorem idleTick_sheets (s : State) : (idleTick s).sheets = s.sheets := by unfold idleTick; simp
@[simp] theorem apcWindow_sheets (s : State) (n t : Nat) : (apcWindow s n t).sheets = s.sheets := by unfold apcWindow; simp
@[simp] theorem keepScan_sheets (s : State) (n : Nat) (c : Reading) : (keepScan s n c).sheets = s.sheets := by unfold keepScan; simp
@[simp] theorem showMeasurement_sheets (s : State) (n : Nat) (l : List Reading) (mean skew : Int) :
  (showMeasurement s n l mean skew).sheets = s.sheets := (rfl)
@[simp] theorem keepPatch_sheets (s : State) (n : Nat) (marks : List Chevron) : (keepPatch s n marks).sheets = s.sheets := by unfold keepPatch; simp
@[simp] theorem dropCorrections_sheets (s : State) (n : Nat) : (dropCorrections s n).sheets = s.sheets := (rfl)
@[simp] theorem stageRegistration_sheets (s : State) (n : Nat) : (stageRegistration s n).sheets = s.sheets := by unfold stageRegistration; simp
@[simp] theorem calibrationPattern_sheets (s : State) (n : Nat) : (calibrationPattern s n).sheets = s.sheets := (rfl)
@[simp] theorem gapPattern_sheets (s : State) (n at_ : Nat) : (gapPattern s n at_).sheets = s.sheets := (rfl)
@[simp] theorem storeSignature_sheets (s : State) (n : Nat) : (storeSignature s n).sheets = s.sheets := by unfold storeSignature; simp

/-! ## PinOps -/

@[simp] theorem setExternal_sheets (s : State) (p v : Nat) : (setExternal s p v).sheets = s.sheets := by unfold setExternal; simp
@[simp] theorem pinsToSleep_sheets (s : State) : (pinsToSleep s).sheets = s.sheets := (rfl)
@[simp] theorem newConflict_sheets (s : State) (c : Nat) : (newConflict s c).sheets = s.sheets := by unfold newConflict; simp
@[simp] theorem newSuppression_sheets (s : State) (k : Nat) : (newSuppression s k).sheets = s.sheets := by unfold newSuppression; simp
@[simp] theorem claimsChanged_sheets (s : State) : (claimsChanged s).sheets = s.sheets := by unfold claimsChanged; simp
@[simp] theorem pinSetValue_sheets (s : State) (p v : Nat) : (pinSetValue s p v).sheets = s.sheets := by unfold pinSetValue; simp

/-! ## MemOps -/

@[simp] theorem followHeat_sheets (s : State) : (followHeat s).sheets = s.sheets := by unfold followHeat; split <;> simp
@[simp] theorem watchBudget_sheets (old s : State) : (watchBudget old s).sheets = s.sheets := by unfold watchBudget; simp
@[simp] theorem capacityFrom_sheets (old s : State) : (capacityFrom old s).sheets = s.sheets := by unfold capacityFrom; simp
@[simp] theorem brokenInput_sheets (s : State) (i : Nat) : (brokenInput s i).sheets = s.sheets := by unfold brokenInput; simp

/-! ## NetOps -/

@[simp] theorem putFrame_sheets (s : State) (p : Nat) (o : Outgoing) : (putFrame s p o).sheets = s.sheets := by unfold putFrame; simp
@[simp] theorem sendFrame_sheets (s : State) (p type dst : Nat) (payload : List Byte) : (sendFrame s p type dst payload).sheets = s.sheets := by
  unfold sendFrame; simp
@[simp] theorem broadcast_sheets (s : State) (ports : List Nat) (type : Nat) (payload : List Byte) :
  (broadcast s ports type payload).sheets = s.sheets := by unfold broadcast; simp
@[simp] theorem modeFrames_sheets (s : State) (new old : Mode) (cause : Nat) (awake : List Nat) :
  (modeFrames s new old cause awake).sheets = s.sheets := by unfold modeFrames; simp
@[simp] theorem setPartner_sheets (s : State) (n v : Nat) : (setPartner s n v).sheets = s.sheets := (rfl)
@[simp] theorem lossResponse_sheets (s : State) (n : Nat) : (lossResponse s n).1.sheets = s.sheets := by unfold lossResponse; split <;> simp
@[simp] theorem partnerTo_sheets (s : State) (n v : Nat) : (partnerTo s n v).1.sheets = s.sheets := by unfold partnerTo; simp
@[simp] theorem cycleMaps_sheets (s : State) : (cycleMaps s).sheets = s.sheets := (rfl)
@[simp] theorem debit_sheets (s : State) (p n ns : Nat) : (debit s p n ns).sheets = s.sheets := by unfold debit; simp
@[simp] theorem creditCycle_sheets (s : State) (p : Nat) : (creditCycle s p).sheets = s.sheets := (rfl)
@[simp] theorem sendOut_sheets (s : State) (p : Nat) (o : Outgoing) : (sendOut s p o).sheets = s.sheets := by unfold sendOut; simp
@[simp] theorem setTx_sheets (s : State) (p : Nat) (l : List Outgoing) : (setTx s p l).sheets = s.sheets := by unfold setTx; simp
@[simp] theorem setRx_sheets (s : State) (p : Nat) (l : List (FrameSrc × Pdu)) : (setRx s p l).sheets = s.sheets := by unfold setRx; simp
@[simp] theorem queueOut_sheets (s : State) (p : Nat) (o : Outgoing) : (queueOut s p o).sheets = s.sheets := by unfold queueOut; simp
@[simp] theorem sendAcyclic_sheets (s : State) (p type dst : Nat) (payload : List Byte) (peer : Option (Nat × Nat)) :
  (sendAcyclic s p type dst payload peer).sheets = s.sheets := by unfold sendAcyclic; simp
@[simp] theorem drainTx_sheets (s : State) (p : Nat) : (drainTx s p).sheets = s.sheets := by unfold drainTx; simp
@[simp] theorem startBlock_sheets (s : State) (p j : Nat) : (startBlock s p j).sheets = s.sheets := by
  unfold startBlock; (repeat' split) <;> simp
@[simp] theorem poll_sheets (s : State) (p n : Nat) : (poll s p n).sheets = s.sheets := by unfold poll; simp
@[simp] theorem pollIdle_sheets (s : State) (p : Nat) : (pollIdle s p).sheets = s.sheets := by
  unfold pollIdle; (repeat' split) <;> simp
@[simp] theorem nextPoll_sheets (s : State) (p : Nat) : (nextPoll s p).sheets = s.sheets := by unfold nextPoll; split <;> simp
@[simp] theorem restartPort_sheets (s : State) (p : Nat) (enable : Bool) : (restartPort s p enable).sheets = s.sheets := by unfold restartPort; simp
@[simp] theorem pollFirst_sheets (s : State) (n : Nat) : (pollFirst s n).sheets = s.sheets := by unfold pollFirst; simp
@[simp] theorem sendNotice_sheets (s : State) (q : Nat × Nat × Nat) : (sendNotice s q).sheets = s.sheets := by unfold sendNotice; simp
@[simp] theorem sendNotices_sheets (s : State) : (sendNotices s).sheets = s.sheets := by unfold sendNotices; simp
@[simp] theorem authDrop_sheets (s : State) : (authDrop s).sheets = s.sheets := (rfl)
@[simp] theorem dropAcc_sheets (s : State) (a : Accessor) : (dropAcc s a).sheets = s.sheets := (rfl)
@[simp] theorem releaseStager_sheets (s : State) (a : Accessor) : (releaseStager s a).sheets = s.sheets := by unfold releaseStager; simp
@[simp] theorem endSession_sheets (s : State) (id : Nat) : (endSession s id).sheets = s.sheets := by unfold endSession; simp

/-! ## TenantOps -/

@[simp] theorem aerError_sheets (s : State) (fn : Nat) (e : IngestError) : (aerError s fn e).sheets = s.sheets := by unfold aerError; split <;> simp
@[simp] theorem moveBufHead_sheets (s : State) (t : Nat) : (moveBufHead s t).sheets = s.sheets := by unfold moveBufHead; simp
@[simp] theorem bellError_sheets (s : State) (t : Nat) : (bellError s t).sheets = s.sheets := by unfold bellError; simp
@[simp] theorem tailBell_sheets (s : State) (t i : Nat) : (tailBell s t i).sheets = s.sheets := by unfold tailBell; simp
@[simp] theorem headBell_sheets (s : State) (t i : Nat) : (headBell s t i).sheets = s.sheets := by unfold headBell; simp
@[simp] theorem fetchBurst_sheets (s : State) (t : Nat) : (fetchBurst s t).sheets = s.sheets := (rfl)
@[simp] theorem refreshCandidates_sheets (s : State) : (refreshCandidates s).sheets = s.sheets := by unfold refreshCandidates; simp
@[simp] theorem advanceV_sheets (s : State) (t lines : Nat) : (advanceV s t lines).sheets = s.sheets := by unfold advanceV; simp
@[simp] theorem clearRings_sheets (s : State) (t : Nat) : (clearRings s t).sheets = s.sheets := (rfl)
@[simp] theorem resetComplete_sheets (s : State) (t : Nat) : (resetComplete s t).sheets = s.sheets := by unfold resetComplete; simp
@[simp] theorem functionEnds_sheets (s : State) (fn : Nat) : (functionEnds s fn).sheets = s.sheets := by unfold functionEnds; split <;> simp
@[simp] theorem enableTenant_sheets (s : State) (t : Nat) : (enableTenant s t).sheets = s.sheets := (rfl)
@[simp] theorem scrubDone_sheets (s : State) (t : Nat) : (scrubDone s t).sheets = s.sheets := by unfold scrubDone; simp

/-! ## Checks -/

@[simp] theorem merged_sheets (s : State) (g : Nat) : (merged s g).sheets = s.sheets := (rfl)
@[simp] theorem dropStaged_sheets (s : State) (g : Nat) : (dropStaged s g).sheets = s.sheets := (rfl)
@[simp] theorem copyGroup_sheets (s : State) (g : Nat) : (copyGroup s g).sheets = s.sheets := (rfl)

/-! ## Modes -/

@[simp] theorem restoreBands_sheets (s : State) (l : Tab Nat) : (restoreBands s l).sheets = s.sheets := (rfl)
@[simp] theorem rejectGroup_sheets (s : State) (g : Nat) : (rejectGroup s g).sheets = s.sheets := by unfold rejectGroup; simp
@[simp] theorem setDlls_sheets (s : State) (v : Nat) : (setDlls s v).sheets = s.sheets := by unfold setDlls; simp
@[simp] theorem closeGate_sheets (s : State) : (closeGate s).sheets = s.sheets := by unfold closeGate; simp
@[simp] theorem relockAttempt_sheets (s : State) : (relockAttempt s).sheets = s.sheets := (rfl)
@[simp] theorem startRelock_sheets (s : State) (occ : Occasion) : (startRelock s occ).sheets = s.sheets := by unfold startRelock; simp
@[simp] theorem stopTimebase_sheets (s : State) : (stopTimebase s).sheets = s.sheets := by unfold stopTimebase; simp
@[simp] theorem recordMode_sheets (s : State) (new : Mode) (cause : Nat) : (recordMode s new cause).sheets = s.sheets := by unfold recordMode; simp
@[simp] theorem sayMode_sheets (s : State) (ports : List Nat) : (sayMode s ports).sheets = s.sheets := by unfold sayMode; simp
@[simp] theorem loopModeOff_sheets (s : State) (n : Nat) : (loopModeOff s n).sheets = s.sheets := by unfold loopModeOff; simp
@[simp] theorem loopModeOn_sheets (s : State) (b n : Nat) : (loopModeOn s b n).sheets = s.sheets := by unfold loopModeOn; simp
@[simp] theorem rampMotors_sheets (s : State) : (rampMotors s).sheets = s.sheets := by unfold rampMotors; simp
@[simp] theorem rampAxes_sheets (s : State) : (rampAxes s).sheets = s.sheets := by unfold rampAxes; simp
@[simp] theorem rasterOff_sheets (s : State) : (rasterOff s).sheets = s.sheets := by unfold rasterOff; simp
@[simp] theorem serviceOff_sheets (s : State) : (serviceOff s).sheets = s.sheets := by unfold serviceOff; simp
@[simp] theorem dozeRailsOn_sheets (s : State) : (dozeRailsOn s).sheets = s.sheets := (rfl)
@[simp] theorem leaveDoze_sheets (s : State) : (leaveDoze s).sheets = s.sheets := by unfold leaveDoze; simp
@[simp] theorem intoWarmup_sheets (s : State) : (intoWarmup s).sheets = s.sheets := by unfold intoWarmup; simp
@[simp] theorem intoDoze_sheets (s : State) : (intoDoze s).sheets = s.sheets := by unfold intoDoze; simp
@[simp] theorem settlePending_sheets (s : State) : (settlePending s).sheets = s.sheets := by unfold settlePending; split <;> simp
@[simp] theorem recordCause_sheets (s : State) (cause : Nat) : (recordCause s cause).sheets = s.sheets := (rfl)
@[simp] theorem safestopMotor_sheets (s : State) (m : Nat) : (safestopMotor s m).sheets = s.sheets := by unfold safestopMotor; simp
@[simp] theorem safestopAxisAll_sheets (s : State) (a : Nat) : (safestopAxisAll s a).sheets = s.sheets := by unfold safestopAxisAll; simp
@[simp] theorem dozeToSafestop_sheets (s : State) : (dozeToSafestop s).sheets = s.sheets := by unfold dozeToSafestop; simp
@[simp] theorem beginWake_sheets (s : State) (cause : Nat) : (beginWake s cause).sheets = s.sheets := by unfold beginWake; simp
@[simp] theorem setPending_sheets (s : State) (p : Mode) : (setPending s p).sheets = s.sheets := by unfold setPending; simp

/-! ## FlashImage -/

@[simp] theorem putRail_sheets (s : State) (r : Nat) (x : RailRow) : (putRail s r x).sheets = s.sheets := by unfold putRail; simp
@[simp] theorem putTable_sheets (s : State) (code retry pause : Nat) (l : List RailRow) : (putTable s code retry pause l).sheets = s.sheets := by
  unfold putTable; simp

/-! ## Reset -/

@[simp] theorem programRecord_sheets (s : State) (k : Nat) (l : List (List Byte)) (r : JRecord) : (programRecord s k l r).sheets = s.sheets := (rfl)
@[simp] theorem writeJournal_sheets (s : State) (r : JRecord) : (writeJournal s r).sheets = s.sheets := by unfold writeJournal; simp
@[simp] theorem putReasons_sheets (s : State) (l : List Nat) : (putReasons s l).sheets = s.sheets := by unfold putReasons; simp
@[simp] theorem clearFailures_sheets (s : State) : (clearFailures s).sheets = s.sheets := by unfold clearFailures; simp
@[simp] theorem railOff_sheets (s : State) (r st : Nat) : (railOff s r st).sheets = s.sheets := (rfl)
@[simp] theorem allRailsOff_sheets (s : State) : (allRailsOff s).sheets = s.sheets := by unfold allRailsOff; simp
@[simp] theorem beginOff_sheets (s : State) (why : OffReason) : (beginOff s why).sheets = s.sheets := (rfl)
@[simp] theorem discardAllStaged_sheets (s : State) : (discardAllStaged s).sheets = s.sheets := by unfold discardAllStaged; simp
@[simp] theorem logStart_sheets (s : State) : (logStart s).sheets = s.sheets := by unfold logStart; simp
@[simp] theorem keepIlock_sheets (s : State) : (keepIlock s).sheets = s.sheets := by unfold keepIlock; simp
@[simp] theorem ringStart_sheets (s : State) : (ringStart s).sheets = s.sheets := by
  unfold ringStart; simp only; (repeat' split) <;> simp
@[simp] theorem keepKickObjects_sheets (old s : State) : (keepKickObjects old s).sheets = s.sheets := (rfl)
@[simp] theorem startOn_sheets (s : State) (terp : Bool) : (startOn s terp).sheets = s.sheets := by unfold startOn; simp
@[simp] theorem strapDefaults_sheets (s : State) : (strapDefaults s).sheets = s.sheets := by unfold strapDefaults; simp
@[simp] theorem debugStart_sheets (s : State) : (debugStart s).sheets = s.sheets := by unfold debugStart; simp
@[simp] theorem failKickoff_sheets (s : State) (reason detail : Nat) : (failKickoff s reason detail).sheets = s.sheets := by unfold failKickoff; simp
@[simp] theorem resumeMirror_sheets (s : State) : (resumeMirror s).sheets = s.sheets := by unfold resumeMirror; simp
@[simp] theorem lateEntries_sheets (s : State) : (lateEntries s).sheets = s.sheets := by unfold lateEntries; split <;> simp
@[simp] theorem passResets_sheets (s : State) : (passResets s).sheets = s.sheets := by unfold passResets; simp

/-! ## Operands -/

@[simp] theorem setAcc_sheets (s : State) (a : Accessor) (f : AccState → AccState) : (setAcc s a f).sheets = s.sheets := (rfl)

/-! ## Actions -/

@[simp] theorem speedNow_sheets (s : State) (m k : Nat) (own : Bool) : (speedNow s m k own).sheets = s.sheets := by unfold speedNow; simp
@[simp] theorem hallSpeed_sheets (s : State) (m : Nat) (back : Bool) (p : Nat) : (hallSpeed s m back p).sheets = s.sheets := by unfold hallSpeed; simp
@[simp] theorem countTurn_sheets (s : State) (m : Nat) : (countTurn s m).sheets = s.sheets := by unfold countTurn; simp
@[simp] theorem enterSector_sheets (s : State) (m code k t : Nat) (back : Bool) : (enterSector s m code k t back).sheets = s.sheets := by
  unfold enterSector; simp
@[simp] theorem deferAxis_sheets (s : State) (a : Nat) (c : AxisDeferred) : (deferAxis s a c).sheets = s.sheets := by unfold deferAxis; split <;> simp
@[simp] theorem moveNow_sheets (s : State) (a v : Nat) : (moveNow s a v).1.sheets = s.sheets := by
  unfold moveNow; (repeat' split) <;> simp
@[simp] theorem moveCommand_sheets (s : State) (a v : Nat) : (moveCommand s a v).sheets = s.sheets := by unfold moveCommand; split <;> simp
@[simp] theorem stopCommand_sheets (s : State) (a : Nat) (hard : Bool) : (stopCommand s a hard).sheets = s.sheets := by
  unfold stopCommand; split <;> simp
@[simp] theorem resumeCommand_sheets (s : State) (a : Nat) : (resumeCommand s a).sheets = s.sheets := by unfold resumeCommand; split <;> simp
@[simp] theorem homeCommand_sheets (s : State) (a : Nat) : (homeCommand s a).sheets = s.sheets := by unfold homeCommand; simp
@[simp] theorem fltInactive_sheets (s : State) (a : Nat) : (fltInactive s a).sheets = s.sheets := by unfold fltInactive; simp
@[simp] theorem homingLimit_sheets (s : State) (a : Nat) (positive : Bool) : (homingLimit s a positive).sheets = s.sheets := by
  unfold homingLimit; simp
@[simp] theorem conflictEnds_sheets (s : State) (c : Nat) : (conflictEnds s c).sheets = s.sheets := by
  unfold conflictEnds; (repeat' split) <;> simp
@[simp] theorem injectionStart_sheets (s : State) : (injectionStart s).sheets = s.sheets := (rfl)
@[simp] theorem injectionStop_sheets (s : State) : (injectionStop s).sheets = s.sheets := (rfl)
@[simp] theorem captureArm_sheets (s : State) : (captureArm s).sheets = s.sheets := (rfl)

/-! ## Fire -/

@[simp] theorem flagEvent_sheets (s : State) (e : Event) : (flagEvent s e).sheets = s.sheets := by unfold flagEvent; simp
@[simp] theorem freeFired_sheets (s : State) : (freeFired s).sheets = s.sheets := by unfold freeFired; simp
@[simp] theorem dropEvent_sheets (s : State) (k : Nat) : (dropEvent s k).sheets = s.sheets := by unfold dropEvent; simp
@[simp] theorem actStop_sheets (s : State) (e : Event) : (actStop s e).sheets = s.sheets := by unfold actStop; simp
@[simp] theorem actSpeed_sheets (s : State) (e : Event) : (actSpeed s e).sheets = s.sheets := by unfold actSpeed; simp
@[simp] theorem actPin_sheets (s : State) (e : Event) : (actPin s e).sheets = s.sheets := by unfold actPin; simp
@[simp] theorem actBank_sheets (s : State) (e : Event) : (actBank s e).sheets = s.sheets := by unfold actBank; simp
@[simp] theorem actLoopOn_sheets (s : State) (e : Event) : (actLoopOn s e).sheets = s.sheets := by unfold actLoopOn; simp
@[simp] theorem actLoopOff_sheets (s : State) (e : Event) : (actLoopOff s e).sheets = s.sheets := by unfold actLoopOff; simp
@[simp] theorem actMark_sheets (s : State) (e : Event) : (actMark s e).sheets = s.sheets := by unfold actMark; simp
@[simp] theorem actCapture_sheets (s : State) (e : Event) : (actCapture s e).sheets = s.sheets := by unfold actCapture; simp

/-! ## Apply -/

@[simp] theorem geometryTaken_sheets (old s : State) (n : Nat) : (geometryTaken old s n).sheets = s.sheets := by unfold geometryTaken; simp
@[simp] theorem loopTaken_sheets (old s : State) (n : Nat) : (loopTaken old s n).sheets = s.sheets := by unfold loopTaken; simp
@[simp] theorem armGroup_sheets (s : State) (g : Nat) : (armGroup s g).sheets = s.sheets := (rfl)
@[simp] theorem refuseGroup_sheets (s : State) (g : Nat) : (refuseGroup s g).sheets = s.sheets := (rfl)
@[simp] theorem discard_sheets (s : State) (acc : Accessor) (g : Nat) : (discard s acc g).sheets = s.sheets := by unfold discard; simp
@[simp] theorem stageBy_sheets (s : State) (acc : Accessor) (g : Nat) : (stageBy s acc g).sheets = s.sheets := by unfold stageBy; simp
@[simp] theorem stageNum_sheets (s : State) (acc : Accessor) (idx sub v : Nat) : (stageNum s acc idx sub v).sheets = s.sheets := by
  unfold stageNum; simp
@[simp] theorem stageBlob_sheets (s : State) (acc : Accessor) (idx sub : Nat) (l : List Byte) : (stageBlob s acc idx sub l).sheets = s.sheets := by
  unfold stageBlob; simp

/-! ## Write -/

@[simp] theorem store_sheets (s : State) (idx sub v : Nat) : (store s idx sub v).sheets = s.sheets := by unfold store; simp
@[simp] theorem thresholdWrite_sheets (s : State) (idx sub v : Nat) : (thresholdWrite s idx sub v).sheets = s.sheets := by
  unfold thresholdWrite; split <;> simp
@[simp] theorem lockWrite_sheets (s : State) (acc : Accessor) (p v : Nat) : (lockWrite s acc p v).sheets = s.sheets := by unfold lockWrite; simp
@[simp] theorem breakLock_sheets (s : State) (acc : Accessor) (idx sub : Nat) : (breakLock s acc idx sub).sheets = s.sheets := by
  unfold breakLock; simp
@[simp] theorem partnerHoldEnds_sheets (s : State) (n : Nat) : (partnerHoldEnds s n).sheets = s.sheets := by unfold partnerHoldEnds; split <;> simp
@[simp] theorem endSlotSessions_sheets (s : State) (slot : Nat) : (endSlotSessions s slot).sheets = s.sheets := by unfold endSlotSessions; simp
@[simp] theorem relockWrite_sheets (s : State) : (relockWrite s).sheets = s.sheets := by unfold relockWrite; simp
@[simp] theorem serviceLight_sheets (s : State) (n v : Nat) : (serviceLight s n v).sheets = s.sheets := by unfold serviceLight; simp
@[simp] theorem takeHeldLight_sheets (s : State) (n : Nat) : (takeHeldLight s n).sheets = s.sheets := by unfold takeHeldLight; simp
@[simp] theorem cancelTag_sheets (s : State) (tag : Nat) : (cancelTag s tag).sheets = s.sheets := by unfold cancelTag; simp
@[simp] theorem effectLoop_sheets (s : State) (idx sub v : Nat) : (effectLoop s idx sub v).sheets = s.sheets := by
  unfold effectLoop; (repeat' split) <;> simp
@[simp] theorem readEffect_sheets (s : State) (acc : Accessor) (idx sub : Nat) : (readEffect s acc idx sub).sheets = s.sheets := by
  unfold readEffect; (repeat' split) <;> simp
@[simp] theorem readDict_sheets (acc : Accessor) (idx sub : Nat) (s : State) : (readDict acc idx sub s).1.sheets = s.sheets := by
  unfold readDict; simp
@[simp] theorem readCommand_sheets (acc : Accessor) (idx sub : Nat) (s : State) : (readCommand acc idx sub s).sheets = s.sheets := by
  unfold readCommand; simp

/-! ## NetServe -/

@[simp] theorem setSession_sheets (s : State) (id : Nat) (f : Session → Session) : (setSession s id f).sheets = s.sheets := (rfl)
@[simp] theorem authGate_sheets (s : State) (x : FrameSrc) (u : Pdu) : (authGate s x u).1.sheets = s.sheets := by
  unfold authGate; (repeat' split) <;> simp
@[simp] theorem expireSession_sheets (s : State) (x : FrameSrc) : (expireSession s x).sheets = s.sheets := by unfold expireSession; split <;> simp
@[simp] theorem sendSigned_sheets (s : State) (x : FrameSrc) (y : Session) (type : Nat) (payload : List Byte) :
  (sendSigned s x y type payload).sheets = s.sheets := by unfold sendSigned; simp
@[simp] theorem sendTo_sheets (s : State) (x : FrameSrc) (type : Nat) (payload : List Byte) : (sendTo s x type payload).sheets = s.sheets := by
  unfold sendTo; (repeat' split) <;> simp
@[simp] theorem rollcallState_sheets (s : State) : (rollcallState s).sheets = s.sheets := by unfold rollcallState; simp
@[simp] theorem afterBlock_sheets (s : State) (p : Nat) : (afterBlock s p).sheets = s.sheets := by unfold afterBlock; simp
@[simp] theorem startRollcall_sheets (s : State) : (startRollcall s).sheets = s.sheets := by unfold startRollcall; simp
@[simp] theorem dropTransfer_sheets (s : State) (x : FrameSrc) (tid : Nat) (own : Bool) : (dropTransfer s x tid own).sheets = s.sheets := (rfl)
@[simp] theorem keepTransfer_sheets (s : State) (f : Transfer) : (keepTransfer s f).sheets = s.sheets := (rfl)
@[simp] theorem sendSegment_sheets (s : State) (f : Transfer) (k : Nat) : (sendSegment s f k).sheets = s.sheets := by unfold sendSegment; simp
@[simp] theorem sendBlock_sheets (s : State) (f : Transfer) (k : Nat) : (sendBlock s f k).sheets = s.sheets := by unfold sendBlock; simp
@[simp] theorem answer_sheets (s : State) (x : FrameSrc) (tid : Nat) (req : Pdu) (type : Nat) (payload : List Byte) :
  (answer s x tid req type payload).sheets = s.sheets := by unfold answer; simp
@[simp] theorem countServed_sheets (s : State) (a : Accessor) : (countServed s a).sheets = s.sheets := by unfold countServed; split <;> simp
@[simp] theorem serveRead_sheets (s : State) (x : FrameSrc) (tid idx sub : Nat) (req : Pdu) : (serveRead s x tid idx sub req).sheets = s.sheets := by
  unfold serveRead; simp
@[simp] theorem serveWriteSeg_sheets (s : State) (x : FrameSrc) (tid idx sub total : Nat) (req : Pdu) :
  (serveWriteSeg s x tid idx sub total req).sheets = s.sheets := by unfold serveWriteSeg; simp
@[simp] theorem finishTaking.serveDropOwn_sheets (t : State) (f : Transfer) : (finishTaking.serveDropOwn t f).sheets = t.sheets := by
  unfold finishTaking.serveDropOwn; simp
@[simp] theorem lateAnswer_sheets (s : State) (x : FrameSrc) : (lateAnswer s x).sheets = s.sheets := (rfl)
@[simp] theorem serveAck_sheets (s : State) (x : FrameSrc) (tid seq : Nat) : (serveAck s x tid seq).sheets = s.sheets := by
  unfold serveAck; split <;> simp
@[simp] theorem serveAbort_sheets (s : State) (x : FrameSrc) (tid : Nat) : (serveAbort s x tid).sheets = s.sheets := (rfl)
@[simp] theorem serveReadResponse_sheets (s : State) (x : FrameSrc) (tid status : Nat) (d : List Byte) :
  (serveReadResponse s x tid status d).sheets = s.sheets := by unfold serveReadResponse; split <;> simp
@[simp] theorem serveWriteResponse_sheets (s : State) (x : FrameSrc) (tid status : Nat) : (serveWriteResponse s x tid status).sheets = s.sheets := by
  unfold serveWriteResponse; split <;> simp
@[simp] theorem rememberAnswer_sheets (s : State) (p n : Nat) : (rememberAnswer s p n).sheets = s.sheets := by unfold rememberAnswer; simp
@[simp] theorem pollOver_sheets (s : State) (p : Nat) : (pollOver s p).sheets = s.sheets := by unfold pollOver; simp
@[simp] theorem serveClose_sheets (s : State) (x : FrameSrc) : (serveClose s x).sheets = s.sheets := by unfold serveClose; split <;> simp
@[simp] theorem serveHello_sheets (s : State) (x : FrameSrc) (slot : Nat) (nonce : List Byte) : (serveHello s x slot nonce).sheets = s.sheets := by
  unfold serveHello; split <;> simp
@[simp] theorem heard_sheets (s : State) (x : FrameSrc) (answer : Bool) : (heard s x answer).sheets = s.sheets := by unfold heard; simp
@[simp] theorem debitReceived_sheets (s : State) (x : FrameSrc) (u : Pdu) : (debitReceived s x u).sheets = s.sheets := by unfold debitReceived; simp
@[simp] theorem acknowledgeCan_sheets (s : State) (p : Nat) : (acknowledgeCan s p).sheets = s.sheets := by unfold acknowledgeCan; simp
@[simp] theorem discardFrame_sheets (s : State) (p : Nat) : (discardFrame s p).sheets = s.sheets := by unfold discardFrame; simp

/-! ## Scheduler -/

@[simp] theorem releaseHold_sheets (s : State) : (releaseHold s).sheets = s.sheets := by unfold releaseHold; simp
@[simp] theorem afterBdWindow_sheets (s : State) (n : Nat) : (afterBdWindow s n).sheets = s.sheets := by unfold afterBdWindow; simp

/-! ## Dram -/

@[simp] theorem beatCorrected_sheets (s : State) (r : DramReader) (addr : Nat) : (beatCorrected s r addr).sheets = s.sheets := by
  unfold beatCorrected; split <;> simp
@[simp] theorem beatUsed_sheets (s : State) (r : DramReader) (addr : Nat) (e : Ecc) : (beatUsed s r addr e).sheets = s.sheets := by
  unfold beatUsed; simp
@[simp] theorem inputWord_sheets (s : State) (st : Fin 6) (w : InputWord) : (inputWord s st w).1.sheets = s.sheets := by
  unfold inputWord; split <;> simp
@[simp] theorem inputWords_sheets (st : Fin 6) (a : List InputWord) (a1 : State) : (inputWords st a a1).1.sheets = a1.sheets := by
  fun_induction inputWords st a a1 <;> simp +zetaDelta [*]
@[simp] theorem fifoWord_sheets (s : State) (n : Nat) (w : FifoWord) : (fifoWord s n w).1.sheets = s.sheets := by unfold fifoWord; split <;> simp
@[simp] theorem readWords_sheets (n : Nat) (a : List FifoWord) (a1 : State) : (readWords n a a1).1.sheets = a1.sheets := by
  fun_induction readWords n a a1 <;> simp +zetaDelta [*]

/-! ## Raster -/

@[simp] theorem bandLinesIn_sheets (s : State) (n uid : Nat) (b : Band) : (bandLinesIn s n uid b).sheets = s.sheets := (rfl)
@[simp] theorem sendScan_sheets (s : State) (n : Nat) (c : Scan) : (sendScan s n c).sheets = s.sheets := by unfold sendScan; simp

/-! ## ModeCommands -/

@[simp] theorem endAlign_sheets (s : State) (a : Nat) : (endAlign s a).sheets = s.sheets := by unfold endAlign; simp
@[simp] theorem wakeAxes_sheets (s : State) (index : Nat) : (wakeAxes s index).sheets = s.sheets := by unfold wakeAxes; simp

/-! ## Memory -/

@[simp] theorem admissionFail_sheets (s : State) (reason : Nat) : (admissionFail s reason).sheets = s.sheets := (rfl)
@[simp] theorem gapPatch_sheets (s : State) (a : Sheet) : (gapPatch s a).sheets = s.sheets := by unfold gapPatch; split <;> simp

/-! ## Clocks -/

@[simp] theorem relockLink_sheets (s : State) (n : Nat) : (relockLink s n).sheets = s.sheets := by unfold relockLink; split <;> simp
@[simp] theorem endRelock_sheets (s : State) : (endRelock s).sheets = s.sheets := by unfold endRelock; split <;> simp
@[simp] theorem relockDone_sheets (s : State) : (relockDone s).sheets = s.sheets := by unfold relockDone; simp
@[simp] theorem relockKickoff_sheets (s : State) : (relockKickoff s).sheets = s.sheets := by unfold relockKickoff; simp
@[simp] theorem relockAgain_sheets (s : State) (r : Relock) (n : Nat) : (relockAgain s r n).sheets = s.sheets := (rfl)
@[simp] theorem openGate_sheets (s : State) : (openGate s).sheets = s.sheets := by unfold openGate; simp

/-! ## Link -/

@[simp] theorem safetyEvent_sheets (s : State) (kind : Nat) : (safetyEvent s kind).sheets = s.sheets := by unfold safetyEvent; simp
@[simp] theorem interlockPath_sheets (s : State) : (interlockPath s).sheets = s.sheets := by unfold interlockPath; simp

/-! ## Umpire -/

@[simp] theorem umpireOutputs_sheets (s : State) : (umpireOutputs s).sheets = s.sheets := by unfold umpireOutputs; simp
@[simp] theorem superviseServe_sheets (s : State) (kind : Nat) : (superviseServe s kind).sheets = s.sheets := (rfl)
@[simp] theorem sensorCheck_sheets (l : List Int) (s : State) (k : Nat) : (sensorCheck l s k).sheets = s.sheets := by unfold sensorCheck; simp
@[simp] theorem countHeat_sheets (s : State) : (countHeat s).sheets = s.sheets := (rfl)
@[simp] theorem storeTj_sheets (s : State) (l : List Int) (v : Int) : (storeTj s l v).sheets = s.sheets := by unfold storeTj; simp
@[simp] theorem slowAdmission_sheets (s : State) (v : Int) : (slowAdmission s v).sheets = s.sheets := (rfl)

/-! ## Network -/

@[simp] theorem repeatFrame_sheets (s : State) (f : Transfer) : (repeatFrame s f).sheets = s.sheets := by unfold repeatFrame; simp
@[simp] theorem sendSync_sheets (s : State) (p : Nat) : (sendSync s p).sheets = s.sheets := by unfold sendSync; simp
@[simp] theorem sendMap_sheets (s : State) (m : Nat) : (sendMap s m).sheets = s.sheets := by unfold sendMap; simp
@[simp] theorem cyclicPhase_sheets (s : State) : (cyclicPhase s).sheets = s.sheets := by unfold cyclicPhase; simp
@[simp] theorem pollAbsent_sheets (s : State) (p : Nat) : (pollAbsent s p).sheets = s.sheets := by
  unfold pollAbsent; (repeat' split) <;> simp

/-! ## Rails -/

@[simp] theorem endOn_sheets (s : State) (passed : Bool) : (endOn s passed).sheets = s.sheets := by unfold endOn; simp
@[simp] theorem putReading_sheets (s : State) (r v : Nat) : (putReading s r v).sheets = s.sheets := by unfold putReading; simp
@[simp] theorem recordFault_sheets (s : State) (r kind : Nat) : (recordFault s r kind).sheets = s.sheets := by unfold recordFault; simp
@[simp] theorem offOver_sheets (s : State) : (offOver s).sheets = s.sheets := by unfold offOver; split <;> simp
@[simp] theorem railGone_sheets (s : State) (r st : Nat) : (railGone s r st).sheets = s.sheets := by unfold railGone; simp
@[simp] theorem responseOff_sheets (s : State) (r : Nat) : (responseOff s r).sheets = s.sheets := by unfold responseOff; simp
@[simp] theorem logFault_sheets (s : State) (r : Nat) : (logFault s r).sheets = s.sheets := by unfold logFault; simp
@[simp] theorem breakOff_sheets (s : State) : (breakOff s).sheets = s.sheets := by unfold breakOff; simp
@[simp] theorem sequenceFault_sheets (s : State) (r : Nat) : (sequenceFault s r).sheets = s.sheets := by
  unfold sequenceFault; (repeat' split) <;> simp

/-! ## Kickoff -/

@[simp] theorem stepStraps_sheets (s : State) (v1 v2 : List (Option Nat)) (testEn : Bool) : (stepStraps s v1 v2 testEn).sheets = s.sheets := by
  unfold stepStraps; simp
@[simp] theorem restoreJournal_sheets (s : State) : (restoreJournal s).sheets = s.sheets := by unfold restoreJournal; split <;> simp
@[simp] theorem stepReference_sheets (s : State) (ok : Bool) : (stepReference s ok).sheets = s.sheets := by unfold stepReference; simp
@[simp] theorem stepCore_sheets (s : State) (tj : Int) : (stepCore s tj).sheets = s.sheets := by unfold stepCore; simp
@[simp] theorem takeImage_sheets (s : State) : (takeImage s).1.sheets = s.sheets := by unfold takeImage; simp
@[simp] theorem stepImage_sheets (s : State) : (stepImage s).sheets = s.sheets := by unfold stepImage; simp
@[simp] theorem loadDefaults_sheets (s : State) : (loadDefaults s).sheets = s.sheets := by unfold loadDefaults; simp
@[simp] theorem stepDram_sheets (s : State) (first second : Bool) : (stepDram s first second).sheets = s.sheets := by unfold stepDram; simp

/-! ## Tenants -/

@[simp] theorem mailboxStart_sheets (s : State) (fn : Fin 65) (op idx sub len addr : Nat) :
  (mailboxStart s fn op idx sub len addr).sheets = s.sheets := (rfl)
@[simp] theorem mailboxEnd_sheets (s : State) (fn : Fin 65) (code : Nat) : (mailboxEnd s fn code).sheets = s.sheets := by unfold mailboxEnd; simp
@[simp] theorem mailboxBusy_sheets (s : State) (fn : Fin 65) : (mailboxBusy s fn).sheets = s.sheets := by unfold mailboxBusy; simp
@[simp] theorem mailboxDeliver_sheets (s : State) (fn : Fin 65) (addr : Nat) (d : List Byte) : (mailboxDeliver s fn addr d).sheets = s.sheets := by
  unfold mailboxDeliver; simp
@[simp] theorem configRequest_sheets (s : State) (fn : Nat) : (configRequest s fn).sheets = s.sheets := by unfold configRequest; simp

/-! ## Motors -/

@[simp] theorem encoderMeasured_sheets (s : State) (m : Nat) : (encoderMeasured s m).sheets = s.sheets := by unfold encoderMeasured; simp
@[simp] theorem placeSamples_sheets (s : State) (m : Nat) : (placeSamples s m).sheets = s.sheets := by unfold placeSamples; simp
@[simp] theorem takeCurrents_sheets (s : State) (m : Nat) (s1 s2 : Int) : (takeCurrents s m s1 s2).sheets = s.sheets := by unfold takeCurrents; simp
@[simp] theorem controlPeriod_sheets (s : State) (m : Nat) (s1 s2 : Int) : (controlPeriod s m s1 s2).sheets = s.sheets := by
  unfold controlPeriod; simp
@[simp] theorem speedProgress_sheets (s : State) (m : Nat) : (speedProgress s m).sheets = s.sheets := by
  unfold speedProgress; simp only; (repeat' split) <;> simp
@[simp] theorem startGates_sheets (s : State) (m : Nat) : (startGates s m).sheets = s.sheets := by unfold startGates; simp
@[simp] theorem commutate_sheets (s : State) (m t : Nat) : (commutate s m t).sheets = s.sheets := by unfold commutate; simp

/-! ## Axes -/

@[simp] theorem releaseAxis_sheets (s : State) (a : Nat) : (releaseAxis s a).sheets = s.sheets := by unfold releaseAxis; split <;> simp
@[simp] theorem releaseMotor_sheets (s : State) (m : Nat) : (releaseMotor s m).sheets = s.sheets := by unfold releaseMotor; split <;> simp
@[simp] theorem hardStopFound_sheets (s : State) (a : Nat) : (hardStopFound s a).sheets = s.sheets := by unfold hardStopFound; split <;> simp

/-! ## Loops -/

@[simp] theorem tripEnds_sheets (s : State) (n : Nat) : (tripEnds s n).sheets = s.sheets := by unfold tripEnds; simp
@[simp] theorem fuserBroken_sheets (s : State) (i : Nat) : (fuserBroken s i).sheets = s.sheets := by unfold fuserBroken; simp
@[simp] theorem takeGood_sheets (s : State) (i v1 : Nat) : (takeGood s i v1).sheets = s.sheets := by unfold takeGood; simp
@[simp] theorem zonePulse_sheets (s : State) (z : Nat) : (zonePulse s z).sheets = s.sheets := by unfold zonePulse; simp
@[simp] theorem edgesBack_sheets (s : State) : (edgesBack s).sheets = s.sheets := by unfold edgesBack; simp

/-! ## Step -/

@[simp] theorem State.withFetchWord_sheets (s : State) (nbits w : Nat) : (State.withFetchWord s nbits w).sheets = s.sheets := (rfl)

end Sys2Proof.Machine
end

