-- ==== Sys2Proof/WellFormed.lean ====
section
/-! DEFINITION. Which commands are well formed: every operand within the field that carries it (R4, R51, R209, R260, R264 and the tables
of the commands' chapters). A register number or an instance is bounded by its type already. -/

namespace Sys2Proof

/-- Widths. -/
def u8 (n : Nat) : Bool := decide (n < 256)
def u12 (n : Nat) : Bool := decide (n < 4096)
def u16 (n : Nat) : Bool := decide (n < 65536)
def u32 (n : Nat) : Bool := decide (n < 4294967296)
def u48 (n : Nat) : Bool := decide (n < 281474976710656)
def u64 (n : Nat) : Bool := decide (n < 18446744073709551616)

/-- Lengths of lists. -/
def lenIs {α : Type} (n : Nat) (l : List α) : Bool := l.length == n
def atMost {α : Type} (n : Nat) (l : List α) : Bool := decide (l.length ≤ n)

/-- The octets of a write: at most the 16,777,216 of the largest BLOB (R54, R260). -/
def dataOk (d : List Byte) : Bool := atMost 16777216 d

/-- An accessor: IPv4 address and UDP port of an anonymous one. -/
def accOk : Accessor → Bool
  | .anon ip port => u32 ip && u16 port
  | _ => true

/-- The envelope of a received frame: address, UDP port, and an authentication trailer of a U32 and 16 octets (R207, R249). -/
def srcOk (s : FrameSrc) : Bool :=
  u32 s.ip && u16 s.udpPort && match s.auth with
    | some a => u32 a.1 && lenIs 16 a.2
    | none => true

/-- Errors of memory (R292, R317): at most two bits of a code word, since the spec says nothing of more (DESIGN CHOICE, log 146); the address of a
beat, a byte position in a band of at most 4,227,088 octets (R265), a line and a word of it (R1, R264). -/
def beatErrorsOk (e : BeatErrors) : Bool := atMost 2 e.low && atMost 2 e.high
def beatOk (b : BeatRead) : Bool := u64 b.addr && beatErrorsOk b.first && beatErrorsOk b.again
def inputWordOk (w : InputWord) : Bool := decide (w.at_ < 4227088) && atMost 2 w.bits && beatOk w.refetch
def fifoWordOk (w : FifoWord) : Bool := decide (w.line < 1048576) && decide (w.word < 2048) && atMost 2 w.first && atMost 2 w.again

/-- What a decoder's input buffer holds, and the bytes of a line decoded (R316, R338): at most 256 KiB, at most 16,384. -/
def inputOk (n : Nat) : Bool := decide (n ≤ 262144)
def lastLineOk (n : Nat) : Bool := decide (n ≤ 16384)

/-- The signal of a mark sensor and a chevron (R365, R366). -/
def signalOk (e : EdgeSignal) : Bool := u64 e.start && atMost 65536 e.codes && e.codes.all u12
def chevronOk (c : Chevron) : Bool := u64 c.expected && u64 c.nominal && signalOk c.straight && signalOk c.slant

/-- A code of a shunt converter of 12 bits, a temperature in 0.1 °C as an I16, registers of 16 bits. -/
def codeOk (i : Int) : Bool := decide (-2048 ≤ i ∧ i < 2048)
def tempOk (i : Int) : Bool := decide (-32768 ≤ i ∧ i ≤ 32767)
def sensorsOk (l : List Int) : Bool := l.length == 8 && l.all tempOk
def u16s (l : List Nat) : Bool := l.all u16

/-- PCI Express speed and width as trained (R255). -/
def speedOk (n : Nat) : Bool := decide (1 ≤ n ∧ n ≤ 3)
def widthOk (n : Nat) : Bool := n == 1 || n == 2 || n == 4

/-- The voltage on a strap pin in mV. -/
def pinOk : Option Nat → Bool
  | some v => u16 v
  | none => true

/-- The results of kick-off steps (R100, R104): twelve strap pins in each reading. -/
def kickOk : KickResult → Bool
  | .straps a b _ => lenIs 12 a && lenIs 12 b && a.all pinOk && b.all pinOk
  | .coreReset tj => tempOk tj
  | _ => true

/-- A well-formed command: one arm for each constructor. -/
def wellFormed : Instr → Bool
  | .aonPowerGood => true
  | .kickoffWatchdog => true
  | .warmResetHoldEnd => true
  | .porst => true
  | .brownOut => true
  | .wakeIn => true
  | .pciExpressWake => true
  | .dozeWakeComplete index => u16 index
  | .terpRestart acc data => accOk acc && dataOk data
  | .ownerKeyWrite acc data => accOk acc && dataOk data
  | .debugChallenge => true
  | .debugResponse rs => lenIs 64 rs
  | .railEnable _ => true
  | .railGood _ x => u12 x.reading && u32 x.samples
  | .rampFault _ reading => u12 reading
  | .retryPauseEnd => true
  | .railWarning _ x => u12 x.reading && u32 x.samples
  | .railFault _ x => u12 x.reading && u32 x.samples
  | .railResetOffStart => true
  | .railDisable _ => true
  | .shutdownOffStart => true
  | .shutdownSequenceEnd => true
  | .dozeEnter => true
  | .modeRequest acc data => accOk acc && dataOk data
  | .safestopEntryComplete => true
  | .safestopAcknowledge acc data => accOk acc && dataOk data
  | .admissionEnable acc data => accOk acc && dataOk data
  | .modeRouteStep => true
  | .warmupComplete => true
  | .warmupLimitExpiry => true
  | .standbyIdleExpiry => true
  | .readyIdleExpiry => true
  | .calibrationComplete => true
  | .objectWrite acc idx sub data => accOk acc && u16 idx && u8 sub && dataOk data
  | .thresholdWrite acc idx sub data => accOk acc && u16 idx && u8 sub && dataOk data
  | .watermarkLatchRead acc idx sub => accOk acc && u16 idx && u8 sub
  | .readToClear acc idx sub => accOk acc && u16 idx && u8 sub
  | .apply acc data => accOk acc && dataOk data
  | .discardStaging acc data => accOk acc && dataOk data
  | .deferredGroupTake _ => true
  | .anonymousAccessorTimeout ip port => u32 ip && u16 port
  | .patronHeartbeat => true
  | .referenceLoss => true
  | .referenceLossReset => true
  | .relock acc data => accOk acc && dataOk data
  | .relockLockDetect => true
  | .relockLockTimeout => true
  | .relockSettleEnd _ => true
  | .frequencyCheckEnd count => u32 count
  | .stationDllLocked _ => true
  | .ceilingTrip => true
  | .timebaseLockLoss => true
  | .dllLockLoss _ => true
  | .dllRelockTimeout _ => true
  | .read src tid idx sub => srcOk src && u8 tid && u16 idx && u8 sub
  | .writeExpedited src tid idx sub data => srcOk src && u8 tid && u16 idx && u8 sub && atMost 255 data
  | .writeSegmented src tid idx sub total => srcOk src && u8 tid && u16 idx && u8 sub && u32 total
  | .segment src tid _ seq data => srcOk src && u8 tid && u16 seq && atMost 1026 data
  | .segmentAck src tid seq => srcOk src && u8 tid && u16 seq
  | .abort src tid code => srcOk src && u8 tid && u16 code
  | .readResponse src tid status data => srcOk src && u8 tid && decide (status < 3) && atMost 255 data
  | .writeResponse src tid status code => srcOk src && u8 tid && decide (status < 3) && u16 code
  | .cyclicIn src map cycle data => srcOk src && decide (map < 128) && u8 cycle && atMost 1030 data
  | .rollcallAnswer src identity dictRev plcaId => srcOk src && u32 identity && u16 dictRev && u8 plcaId
  | .rollcall src round base slots slotLen => srcOk src && u8 round && u16 base && u16 slots && u16 slotLen
  | .sessionHello src slot nonce => srcOk src && u8 slot && lenIs 8 nonce
  | .sessionClose src slot => srcOk src && u8 slot
  | .nonTdpFrame _ => true
  | .invalidTdpFrame _ _ => true
  | .lowerRetryExpiry _ tid => u8 tid
  | .upperTimeout _ tid => u8 tid
  | .busOff _ => true
  | .rollcallBlockEnd _ => true
  | .rollcallPollTimeout _ => true
  | .rollCallComplete => true
  | .partnerIdleTimeout _ => true
  | .sessionTimeout _ => true
  | .portConfigWrite acc _ sub data => accOk acc && u8 sub && dataOk data
  | .partnerPortWrite acc _ data => accOk acc && dataOk data
  | .keySlotWrite acc sub data => accOk acc && u8 sub && dataOk data
  | .sheetTailDoorbell _ index => u32 index
  | .completionHeadDoorbell _ index => u32 index
  | .cancelDoorbell _ index => u32 index
  | .mailboxRead _ op idx sub b => u8 op && op != 2 && u16 idx && u8 sub && u32 b.len && u64 b.addr
  | .mailboxWrite _ idx sub len addr data => u16 idx && u8 sub && u32 len && u64 addr && dataOk data
  | .descriptorFetch _ => true
  | .descriptorReceived _ bytes => lenIs 128 bytes
  | .planeFetchStart _ => true
  | .planeReadCompletion _ ring _ unit p => u16 ring && u16 unit && p.reads.all beatOk && dataOk p.data
  | .ingestReadError _ e _ => u64 e.addr && decide (1 ≤ e.len ∧ e.len ≤ 512)
  | .coalescingTimeout _ => true
  | .busMasterEnable _ _ => true
  | .functionLevelReset _ => true
  | .pePerst => true
  | .tenantResetWrite acc _ data => accOk acc && dataOk data
  | .tenantEnable acc _ data => accOk acc && dataOk data
  | .tenantDisable acc _ data => accOk acc && dataOk data
  | .scrubComplete _ => true
  | .mr4Read _ _ => true
  | .dramUncorrectableRead _ addr e => beatOk { addr := addr, first := e.1, again := e.2 }
  | .patrolOverdue => true
  | .dikePeriod w => lenIs 11 w.demand && lenIs 64 w.asks && w.reads.all beatOk
  | .admissionPass => true
  | .decoderPlaneStart _ => true
  | .bandDecode _ unit reads words => u16 unit && reads.all beatOk && words.all inputWordOk
  | .pointerMismatch c => u32 c.v
  | .scanStart _ lastLineBytes inputHeld words => lastLineOk lastLineBytes && inputOk inputHeld && words.all fifoWordOk
  | .scanUnderrun _ pixel => u16 pixel
  | .scanEnd _ => true
  | .bdEdge _ e => u64 (e.t / 16)
  | .bdWindowClose _ => true
  | .patchMeasurement _ marks => atMost 4096 marks && marks.all chevronOk
  | .linkRetrain acc _ data => accOk acc && dataOk data
  | .bringUpStepTimeout _ => true
  | .ldFltSoftError _ => true
  | .ldFltHardFault _ status => u16 status
  | .serdesLockLoss _ status => u16 status
  | .serviceApcWindow acc _ data => accOk acc && dataOk data
  | .serviceBdWindowsStart acc _ data => accOk acc && dataOk data
  | .serviceBdWindowsStop acc _ data => accOk acc && dataOk data
  | .serviceWindow acc _ data => accOk acc && dataOk data
  | .ilockOpen => true
  | .ilockClosedHoldEnd => true
  | .image _ _ => true
  | .axisMove _ => true
  | .axisRampedStop _ => true
  | .motorSpeed _ => true
  | .pinSet _ => true
  | .arrivalCheck _ _ => true
  | .loopSetPointBank _ => true
  | .loopOn _ => true
  | .loopOff _ => true
  | .networkCycleStart _ => true
  | .sheetExit _ => true
  | .logMark _ => true
  | .captureTrigger _ => true
  | .postEvent acc data => accOk acc && dataOk data
  | .cancelByTag acc data => accOk acc && dataOk data
  | .encoderEdge _ e => u64 (e.t / 16)
  | .encoderWindowClose _ => true
  | .pwmPeriod _ sample1 sample2 => codeOk sample1 && codeOk sample2
  | .speedCommand acc _ data => accOk acc && dataOk data
  | .alignEnd _ => true
  | .rampEnd _ => true
  | .zeroCrossing _ t => u64 t
  | .commutation _ t => u64 t
  | .hallEdge _ _ t => u64 t
  | .overcurrent x => codeOk x.code
  | .stallTimeout _ => true
  | .backEmfLoss _ => true
  | .motorRestart _ => true
  | .brakeEnd _ => true
  | .axisMoveCommand acc _ data => accOk acc && dataOk data
  | .groupMoveCommand acc _ data => accOk acc && dataOk data
  | .axisRampedStopCommand acc _ data => accOk acc && dataOk data
  | .axisHardStopCommand acc _ data => accOk acc && dataOk data
  | .axisResume acc _ data => accOk acc && dataOk data
  | .axisHome acc _ data => accOk acc && dataOk data
  | .axisEnable acc _ data => accOk acc && dataOk data
  | .moveEnd _ => true
  | .deferredCommandRelease _ => true
  | .standstillDelayEnd _ => true
  | .homingLatch _ => true
  | .homingSearchEnd _ => true
  | .limitActive _ _ => true
  | .axisDriverFault _ => true
  | .axisReenable _ => true
  | .loopEvaluation _ => true
  | .loopRestart _ => true
  | .loopOnCommand acc _ data => accOk acc && dataOk data
  | .loopOffCommand acc _ data => accOk acc && dataOk data
  | .bankWrite acc _ data => accOk acc && dataOk data
  | .conversion _ v1 v2 => u12 v1 && u12 v2
  | .zcInEdge => true
  | .zeroCrossTimeout => true
  | .injectionStart acc data => accOk acc && dataOk data
  | .injectionStop acc data => accOk acc && dataOk data
  | .captureArm acc data => accOk acc && dataOk data
  | .captureTriggerWrite acc data => accOk acc && dataOk data
  | .pinLock acc _ data => accOk acc && dataOk data
  | .lockAll acc data => accOk acc && dataOk data
  | .driveMismatch _ => true
  | .bankSupplyChange _ _ => true
  | .lockstepMismatch => true
  | .watchdogExpiry => true
  | .umpireReset => true
  | .safeNMismatch => true
  | .mirrorErase => true
  | .logRead acc => accOk acc
  | .noticeRead acc => accOk acc
  | .tjSample sensors => sensorsOk sensors
  | .thermalShutdown => true
  | .kickoffStepComplete r => kickOk r
  | .porstRelease => true
  | .pePerstRelease speed width => speedOk speed && widthOk width
  | .numvfsWrite n => u16 n
  | .bringUpStepComplete _ regs => u16s regs
  | .busOffRecoveryComplete _ => true
  | .canErrorFrame _ _ => true
  | .arpRequest senderIp senderMac targetIp => u32 senderIp && u48 senderMac && u32 targetIp
  | .icmpEchoRequest senderIp payload => u32 senderIp && atMost 1472 payload
  | .homeActive _ => true
  | .axisFltInactive _ => true
  | .safeNMismatchEnd => true
  | .ilockClose => true

end Sys2Proof
end

