-- ==== Sys2Proof/Tests/Slice0.lean ====
section
/-! SUPPORT. Tests of the model: ill-formed terms that WellFormed refuses, small tests of single commands with results taken from the spec, and for
every statement states and operands that meet the hypotheses of each of its clauses. -/

namespace Sys2Proof.Tests

open Sys2Proof Sys2Proof.Machine

set_option Elab.async false

/-! ## Small states

Each list holds states of one area of the block, built by the helpers before it; `st n` is the n-th, `ex n` the n-th of the further ones. -/

def modeS : List Mode := [.kickoff, .terp, .standby, .warmup, .ready, .rally, .runout, .calibrate, .service, .doze, .safestop, .shutdown]
def live (m : Mode) : State := { powered := true, time := 5000000000, md := { mode := m, previous := .standby }, log := { ready := true }, pins := { perstLow := false, safeN := m == .kickoff || m == .safestop, rstLow := false }, kick := { straps := [3,0,0,0,0,0,0,0,0,1,0,0] }, seq := { state := 2 }, clk := { gateOpen := true, onReference := true, pllLocked := true }, mem := { trained := true } }
def wo (s : State) (l : List (Nat × Nat × Nat)) : State := l.foldl (fun s p => put s p.1 p.2.1 p.2.2) s
def mkSheet (uid tn : Nat) (st : SheetState) : Sheet := { uid := uid, tenant := tn, ringIndex := uid, token := 0x1000 + uid, profile := 0, flags := 0, depth := 1, lines := 2, pixels := 16, planes := [{ addr := 4096, len := 64, worst := 8 }, {}, {}, {}, {}, {}], state := st, data := [(0, List.replicate 64 0)], serial := if st = .pending ∨ st = .resident then 0 else uid, i0 := 5002000000, imageAt := [(0, 5002000000)], endAt := [(0, 5003000000)], winAt := [(0, 5000000100)] , charge := [(0, 10)], fetching := true }
def shts : List Sheet := [mkSheet 1 0 .committed, mkSheet 2 0 .admitted, mkSheet 3 1 .resident, mkSheet 4 0 .pending]
def onPath (m : Mode) : State := { live m with sheets := shts, nextUid := 5, tenants := [(0, { state := .enabled, sheetTail := 5, descHead := 5, units := [0,1,2] }), (1, { state := .enabled, sheetTail := 4, descHead := 4, units := [3] })] }
def rich : List State := modeS.map live ++ [.ready, .rally, .runout, .safestop, .standby].map onPath

/-! ### States of start, stop and rails -/

namespace B
def live (m : Mode) : State := { powered := true, time := 5000000, md := { mode := m, previous := .standby }, log := { ready := true }, kick := { straps := [0,0,0,0,0,0,0,0,0,0,0,0] } }
def kicks (n : Nat) : State := { live .kickoff with dict := [(keyOf 0x2020 1, n)] }
def allModes : List Mode := modeS
def states : List State :=
  [State.reset, { State.reset with flash := { image := [1,2,3] } }] ++ allModes.map live ++ (List.range 15).map kicks ++
   [ { live .shutdown with md := { mode := .shutdown, offStarted := true, offEnded := true } },
     { live .shutdown with md := { mode := .shutdown, offStarted := true } },
     { live .kickoff with reset_ := { running := true, porstLow := true } },
     { live .kickoff with reset_ := { running := true, porstLow := true, holdEnded := true } },
     { live .kickoff with reset_ := { running := true } },
     { live .ready with rails := [(0, { state := 3, en := true, wasGood := true })], seq := { state := 2 } },
     { live .kickoff with rails := [(0, { state := 3, en := true, wasGood := true })], seq := { state := 2 } },
     { (kicks 6) with rails := [(0, { state := 3, en := true, wasGood := true })], seq := { state := 2 } },
     { (kicks 3) with seq := { state := 2 } },
     { kicks 10 with dict := [(keyOf 0x2020 1, 10), (keyOf 0x2200 3, 4)] },
     { kicks 14 with log := { ready := true, causes := [(0x09, 0)] } },
     { live .standby with md := { mode := .standby, dozing := true, dozeCause := 0x11 } },
     { live .doze with md := { mode := .doze, waking := true, wakeCause := 5 }, seq := { state := 1, dozeRails := true } },
     { live .doze with pins := { perstLow := false } },
     { live .standby with dict := [(keyOf 0x2710 1, 1)] }, { live .standby with dict := [(keyOf 0x2710 1, 1)], kick := { badResponses := 2 } } ] ++
   -- rails: sequencing
   ([1,3].flatMap fun st => [0,2,3].flatMap fun rs => [true,false].map fun en => { live .kickoff with seq := { state := st }, rails := [(0, { state := rs, en := en }), (1, {state := 3, en := true})] , dict := [(keyOf 0x2100 1, 1), (keyOf 0x2101 1, 1), (keyOf 0x2020 1, 1)] }) ++
   ([.standby, .warmup, .ready].flatMap fun m => [0,1,2].flatMap fun resp => [0, 1].map fun w => { live m with seq := { state := 2 }, rails := [(0, { state := 3, en := true, wasGood := true })], dict := [(keyOf 0x2100 1, 1), (keyOf 0x2100 9, resp), (keyOf 0x2100 0x0C, w), (keyOf 0x2100 5, 100 + 65536 * 3000), (keyOf 0x2100 6, 200 + 65536 * 2500), (keyOf 0x2100 7, 300), (keyOf 0x2100 8, 400)] }) ++
   [{ live .kickoff with seq := { state := 4 } }, { live .standby with seq := { state := 2, why := .railReset } }]
def st (n : Nat) : State := states.getD n State.reset
def extras : List State :=
  [{ kicks 7 with rails := [(0, { state := 3, en := true, wasGood := true })], seq := { state := 2 } },
    { kicks 4 with seq := { state := 1 }, rails := (List.range 16).map fun r => (r, { state := 3, en := true, wasGood := true }) },
    { live .shutdown with md := { mode := .shutdown, shutAt := 5000000 }, axes := [(0, { state := 2 })] }]
def ex (n : Nat) : State := extras.getD n State.reset
end B

/-! ### States of modes and the dictionary -/

namespace C
def warmed : State := { live .warmup with kick := { straps := [0,0,0,0,0,0,0,0,0,1,0,0] }, dict := [] }
def states : List State :=
  rich ++ [warmed, { live .standby with md := { mode := .standby, pending := some .ready } }, { live .ready with md := { mode := .ready, pending := some .standby } },
     { onPath .runout with md := { mode := .runout, pending := some .calibrate }, sheets := [] }, { live .safestop with md := { mode := .safestop, entering := true } }, { live .safestop with md := { mode := .safestop, entering := true, ackHeld := true } },
     { live .safestop with log := { ready := true, causes := [(9, 0)] } }, { live .doze with net := {} }, wo (live .ready) [(0x2000, 9, 10), (0x2000, 0x0A, 10)], wo (live .standby) [(0x2000, 9, 10), (0x2000, 0x0A, 10)],
     { live .terp with md := { mode := .terp } }, { live .service with md := { mode := .service } },
     { live .standby with staged := [(keyOf 0x2100 5, 77)], stagers := [(14, .pf0)] }, { live .standby with staged := [(keyOf 0x2100 1, 1)], stagers := [(14, .pf0)] },
     { live .standby with staged := [(keyOf 0x2100 1, 1)], stagers := [(14, .anon 5 7), (15, .anon 5 6)] },
     { live .ready with armed := [1, 7, 9, 5], staged := [(keyOf 0x3000 1, 1)], stagers := [(1, .pf0), (14, .anon 5 7)] },
     { live .ready with armed := [1, 7, 9, 5], staged := [(keyOf 0x3000 1, 65000), (keyOf 0x3000 2, 0), (keyOf 0x3818 1, 9999)], stagers := [(1, .pf0)] },
     { live .ready with log := { ready := true, ring := [{ time := 5, seq := 3, cls := 1, kind := 1, source := 0, inst := 0, key := 5, serial := none, detail := 0 }], notices := [(5, 1, 1)] } },
     { live .ready with kick := { straps := [3,1,0,0,0,0,0,0,0,1,0,0] }, dict := [(keyOf 0x4100 1, 5), (keyOf 0x4100 2, 0x123)] } ]
def st (n : Nat) : State := states.getD n State.reset
def extras : List State :=
  [{ wo (live .warmup) [(motIdx 0, 0x30, 5)] with kick := { straps := [0,0,0,0,0,0,0,0,0,1,0,0] }, loops := [26, 27].map fun n => (n, { state := 2, sp := 0, x := 0 }) },
    { live .standby with staged := [(keyOf 0x2100 5, 77)], stagers := [(14, .pf0)] }, { live .standby with staged := [(keyOf 0x2100 1, 1)], stagers := [(14, .pf0)] },
    { live .standby with staged := [(keyOf 0x2100 1, 1)], stagers := [(14, .anon 5 7), (15, .anon 5 6)] },
    { live .ready with armed := [1, 7, 9, 5], staged := [(keyOf 0x3000 1, 65000), (keyOf 0x3000 2, 0), (keyOf 0x3818 1, 9999)], stagers := [(1, .pf0)] },
    { live .standby with staged := [(keyOf 0x3000 1, 16)], stagers := [(1, .pf0)] },
    { onPath .rally with staged := [(keyOf 0x3000 1, 16)], stagers := [(1, .pf0)] }]
def ex (n : Nat) : State := extras.getD n State.reset
end C

/-! ### States of clocks -/

namespace D
def rl (a : Nat) (t : Bool) (o : Occasion) : Relock := { occasion := o, taken := t, previous := [(keyOf 0x2200 1, 1)], attempt := a, start := 100 }
def srv (m : Mech) (i : Nat) (run : Bool) (d : Option Nat) : Log := { ready := true, serves := [{ mech := m.code, inst := i, code := 0, running := run, done := d }] }
def states : List State :=
  (rich.take 8) ++ ([1,2,3,4].flatMap fun st => [(1,false),(2,true),(2,false),(3,true)].flatMap fun a => [true,false].map fun g => { live .ready with clk := { relock := some (rl a.1 a.2 .request), gateOpen := g }, dict := [(keyOf 0x2200 3, st), (keyOf 0x2230 1, 1), (keyOf 0x2230 2, 2), (keyOf 0x2230 3, 2), (keyOf 0x2230 4, 2), (keyOf 0x2230 5, 2), (keyOf 0x2230 6, 2)] }) ++
    ([Mode.standby, .ready, .rally, .doze, .kickoff].flatMap fun m => [some 4990000000, none].map fun d => { live m with dict := [(keyOf 0x2200 3, 4), (keyOf 0x2230 1, 2), (keyOf 0x2230 2, 2)], log := { srv .timebase 255 false d with serves := (srv .timebase 255 false d).serves ++ (srv .dll 0 false d).serves } }) ++
    [{ live .ready with clk := { refLost := true } }, { live .ready with dict := [(keyOf 0x2230 1, 1)], log := srv .dll 0 true none },
     { live .standby with dict := [(keyOf 0x2200 3, 0)] } ]
def st (n : Nat) : State := states.getD n State.reset
def extras : List State :=
  [{ live .kickoff with clk := { relock := some (rl 1 false .kickoff), gateOpen := true } }]
def ex (n : Nat) : State := extras.getD n State.reset
end D

/-! ### States of the field network -/

namespace E
def src0 : FrameSrc := { port := 0, src := 5, ip := 0, udpPort := 0, classical := false, auth := none }
def src6 : FrameSrc := { port := 6, src := 9, ip := 77, udpPort := 88, classical := false, auth := none }
def srcU : FrameSrc := { port := 0, src := 0, ip := 0, udpPort := 0, classical := false, auth := none }
def srcA : FrameSrc := { src6 with auth := some (7, [2]) }
def prt (m : Mode) : State := wo (live m) [(0x6005, 2, 0), (0x6005, 1, 2), (0x6005, 6, 3), (0x6005, 8, 100), (0x6009, 2, 6), (0x6009, 1, 2), (0x6009, 6, 1)]
def tr (own seg wr : Bool) (n : Nat) : Transfer := { src := src0, tid := 1, own := own, write := wr, idx := 0x2000, sub := 1, total := 20, data := [1,2,3], next := n, acked := 0, segmented := seg }
def e0 (n : Net) : State := { prt .ready with net := { n with credit := [(5, 1000000000), (9, 1000000000)] } }
/-- A session's source whose tag over SESSION_CLOSE of slot 1 is right under key [1]. -/
def srcS : FrameSrc :=
  let u : Pdu := .sessionClose 1
  { src6 with auth := some (7, (authTrailer [1] u.type (pduDst (live .ready) 6 u) 9 7 u.payload).drop 4) }
def states : List State :=
  [prt .ready, e0 {}, wo (e0 {}) [(0x6005, 1, 1)], prt .standby, prt .doze, prt .terp, live .ready, wo (live .ready) [(0x1100, 5, 0), (0x1100, 3, 1)], wo (prt .ready) [(0x6005, 1, 1)], wo (prt .ready) [(0x6005, 3, 2)],
    e0 { ports := [(0, { rx := [(src0, .segAck 0 0)] })] }, e0 { ports := [(0, { rx := List.replicate 256 (src0, .segAck 0 0) })] }, e0 { owing := [5] },
    e0 { transfers := [tr false true true 1] }, e0 { transfers := [tr false true false 1] }, e0 { transfers := [tr false true false 2] }, e0 { transfers := [tr true false false 0] }, e0 { transfers := [tr true false true 0] },
    e0 { transfers := [tr false true true 1, { tr false true false 1 with tid := 10 }, { tr false true false 1 with tid := 11 }, { tr false true false 1 with tid := 12 }, { tr false true false 1 with tid := 13 }] },
    e0 { cache := [{ src := src0, tid := 1, request := .read 1 0x2000 1, type := 2, payload := [9], at_ := 4999999990 }] },
    { wo (e0 { cache := [{ src := src0, tid := 1, request := .read 1 0x2000 1, type := 2, payload := [9], at_ := 4999999990 }] }) [(0x1100, 5, 0)] with md := { mode := .ready } },
    e0 { ports := [(0, { round := 1, block := 0 })] }, e0 { ports := [(0, { round := 2, polled := some 5 })] }, { wo (e0 { ports := [(0, { round := 1, block := 0 })] }) [(0x6005, 1, 1)] with time := 5000000000 },
    { wo (e0 { ports := [(0, { round := 2, polled := some 5 })] }) [(0x6005, 1, 1)] with time := 5000000000 },
    e0 { ports := [(0, { round := 1, block := 0 })] }, e0 { maps := [(keyOf 0x1201 1, 5 + 2048 + 65536 + 2^24), (keyOf 0x1201 2, 0x2000 + 65536 * 9 )], inDue := [1] },
    e0 { maps := [(keyOf 0x1201 1, 5 + 2048 + 65536 + 2^24), (keyOf 0x1201 2, 0x2000 + 65536 * 9 )], inDue := [1], misses := [(5, 1)] },
    { e0 {} with kick := { straps := [3,1,0,0,0,0,0,0,0,1,0,0] }, dict := [(keyOf 0x4100 1, 5), (keyOf 0x4100 2, 0x123)] },
    e0 { ports := [(0, { recovering := true, lastBusOff := some 4999999990 })] }, e0 { ports := [(0, { lastBusOff := some 4999999990 })] }, e0 { ports := [(1, { lastBusOff := some 0 })] },
    e0 { sessions := [{ id := 0, slot := 1, ip := 77, udpPort := 88, key := [1] }], nextSession := 1 },
    e0 { sessions := (List.range 8).map fun k => { id := k, slot := 1, ip := 7, udpPort := k, key := [1] }, nextSession := 9 },
    { prt .ready with dict := (prt .ready).dict ++ [], blobs := [(keyOf 0x2700 0x22, [1,2,3])] }, { wo (prt .ready) [(0x2700, 0x26, 2)] with blobs := [(keyOf 0x2700 0x22, [1,2,3])] },
    prt .service, { prt .service with blobs := [(keyOf 0x2700 0x22, [1,2,3])] } ]
def st (n : Nat) : State := states.getD n State.reset
def extras : List State :=
  [wo (e0 { ports := [(0, { round := 1, block := 0 })] }) [(0x6005, 1, 1)], { e0 { transfers := [tr true false false 0] } with log := { ready := true, serves := [{ mech := Mech.tdpRequest.code, inst := 5, code := 0, running := true, done := none }] } }, { e0 {} with blobs := [(keyOf 0x1140 1, List.replicate 100 1)] },
    wo (e0 { ports := [(0, { round := 1, block := 0 })] }) [(0x6028, 2, 0)],
    { wo (live .kickoff) [(0x2020, 1, 14), (0x1100, 3, 1), (0x1110, 1, 1)] with kick := { straps := [3,0,0,0,0,0,0,0,0,1,1,0] }, net := { credit := [(0, 1000000000)] } },
    { wo (e0 {}) [(0x2700, 0x26, 2)] with blobs := [(keyOf 0x2700 0x22, [1, 2, 3])] },
    { e0 { sessions := [{ id := 0, slot := 1, ip := 77, udpPort := 88, key := [1] }], nextSession := 1 } with net := { (e0 { sessions := [{ id := 0, slot := 1, ip := 77, udpPort := 88, key := [1] }], nextSession := 1 }).net with nextSession := 1 } }]
def ex (n : Nat) : State := extras.getD n State.reset
end E

/-! ### States of the host link and the tenants -/

namespace F
def host (m : Mode) : State := wo (live m) ([(0x5060, 6, 4)] ++ (List.range 3).flatMap fun k => [(0x5000 + k, 4, 0x10000), (0x5000 + k, 5, 16), (0x5000 + k, 6, 0x20000), (0x5000 + k, 7, 16), (0x5000 + k, 8, 3), (0x5000 + k, 2, 1)])
def ten (m : Mode) (x : Tenant) (l : List Sheet) : State := { host m with tenants := [(0, x), (1, { state := .enabled, units := [9] }), (2, { state := .scrubbing, units := [7,8] })], sheets := l, nextUid := 9, mem := { trained := true, unitsFree := [20,21,22,23,24], scrub := [7, 8] } }
def en : Tenant := { state := .enabled, sheetTail := 5, descHead := 3, compHead := 0, compTail := 2, units := [0,1,2] }
def pend (f : Bool) : Sheet := { mkSheet 4 0 .pending with data := [], fetching := f, ringIndex := 2, pixels := 64 }
def pend2 : Sheet := { pend true with planes := [{ addr := 4096, len := 64, worst := 8 }, { addr := 8192, len := 64, worst := 8 }, {}, {}, {}, {}] }
def desc : List Byte := leBytes 4 0x77 ++ [1, 0, 0, 1] ++ leBytes 4 5 ++ leBytes 2 64 ++ leBytes 2 0 ++ leBytes 8 4096 ++ leBytes 4 64 ++ leBytes 4 8 ++ List.replicate 96 0
def states : List State :=
  [live .ready, host .ready, host .standby, host .doze, host .kickoff, ten .ready en [], ten .ready en [pend false], ten .ready en [pend true], ten .standby en [pend true], wo (ten .standby en [pend true]) [(0x2000, 7, 1)], ten .ready en [pend2, mkSheet 1 0 .committed, mkSheet 2 0 .admitted, mkSheet 3 1 .resident],
    ten .ready { en with units := [] } [pend false], ten .ready { en with outstanding := 2, descHead := 5 } [], ten .ready { en with outstanding := 2, descHead := 5, heldDone := [{ bytes := [1], signal := true }] } [], wo (ten .ready { en with outstanding := 2, descHead := 5 } []) [(0x5050, 1, 1)],
    ten .ready { en with busMaster := false, heldDone := [{ bytes := [1], signal := true }] } [], { ten .ready { en with unsignalled := 3 } [] with coalescing := [0, 1] }, ten .ready { state := .disabled } [], ten .service { state := .disabled } [], ten .standby { state := .disabled } [], ten .ready { state := .scrubbing, units := [0,1] } [],
    ten .ready { state := .ghost, units := [0,1] } [{ mkSheet 1 0 .committed with ghost := true }], ten .doze en [], { ten .ready en [] with pins := {} }, { ten .ready en [] with reset_ := { running := true } } ]
def st (n : Nat) : State := states.getD n State.reset
def extras : List State :=
  [wo (ten .ready en [pend false]) [(0x5000, 8, 0)], wo { ten .ready { en with outstanding := 2, descHead := 5 } [pend false] with stations := [(0, {})] } [(0x5050, 1, 1), (0x3000, 6, 64), (0x3000, 7, 1)],
    ten .ready { en with mbStatus := 1 } [],
    { wo (live .kickoff) [(0x2020, 1, 8)] with pins := { perstLow := false } }]
def ex (n : Nat) : State := extras.getD n State.reset
end F

/-! ### States of memory, admission and raster -/

namespace G
def rdy (m : Mode) : State := { wo (live m) [(linkIdx 0, 1, 3), (motIdx 0, 0x30, 5), (0x2300, 2, 4266), (0x2300, 3, 1), (0x5060, 6, 4), (0x5000, 8, 10), (0x5001, 8, 10), (0x5000, 9, 10), (0x5050, 1, 65536), (0x5000, 5, 16), (0x5000, 7, 16)] with kick := { straps := [0,0,0,0,0,0,0,0,0,1,0,0] }, trackers := [(0, { state := 2, tLast := 16 * 5002000001 })], stations := [(0, {})], tenants := [(0, { state := .enabled, units := [0,1,2], sheetTail := 5, descHead := 5 })] }
def res1 : Sheet := { mkSheet 3 0 .resident with lines := 1000, pixels := 1000, depth := 2, data := [(0, [1,2,3])] }
def band (n k : Nat) : List Byte := [1, if n ≤ 256 * (k + 1) then 1 else 0] ++ leBytes 2 (min 256 (n - 256 * k)) ++ leBytes 4 k ++ leBytes 4 1 ++ leBytes 4 (crc32 [0xE5]) ++ [0xE5]
def pl (n : Nat) (d : List Byte) (st : SheetState) : Sheet := { mkSheet 1 0 st with lines := n, pixels := 64, depth := 1, data := [(0, d)], planes := [{ addr := 4096, len := 64, worst := 100 }, {}, {}, {}, {}, {}], winAt := [(0, 4000000000)] }
def dec (m : Mode) (sh : Sheet) : State := { rdy m with sheets := [sh], stations := [(0, { decUid := some 1 })] }
def scn (sh : Sheet) (x : Station) : State := { rdy .rally with sheets := [sh], stations := [(0, x)], trackers := [(0, { state := 2, tLast := 16 * 5002000001 })] }
def srv (m : Mech) (i : Nat) (run : Bool) (d : Option Nat) : Log := { ready := true, serves := [{ mech := m.code, inst := i, code := 0, running := run, done := d }] }
def sc0 (b : Bool) : Scan := { uid := 1, index := 0, facet := 0, coast := false, blank := b }
def states : List State :=
  [live .ready, { live .ready with mem := {} }, live .doze, rdy .ready, { rdy .ready with sheets := [res1] }, wo { rdy .ready with sheets := [res1] } [(0x2300, 0x10, 60000)], wo { rdy .ready with sheets := [res1] } [(0x2300, 2, 0)], { rdy .rally with sheets := [pl 2 [] .committed, res1] }, { rdy .rally with sheets := [pl 2 [] .committed, { res1 with serial := 5 }], mem := { trained := true, doubled := true } }, wo { rdy .ready with sheets := [res1] } [(0x5050, 1, 1)],
    wo { rdy .ready with sheets := [{ res1 with planes := [{ addr := 4096, len := 64, worst := 60000 }, {}, {}, {}, {}, {}] }] } [(0x5000, 9, 600)], { rdy .ready with sheets := [{ res1 with planes := [{ addr := 4096, len := 64, worst := 600000000 }, {}, {}, {}, {}, {}] }] },
    wo (rdy .ready) [(0x2300, 4, 7)], wo (rdy .standby) [(0x2300, 4, 9)], { rdy .ready with mem := { trained := true, credit := [(0, 5), (1, 7)] } },
    { rdy .rally with sheets := [pl 2 (band 2 0) .admitted] }, { rdy .rally with sheets := [{ pl 2 (band 2 0) .admitted with winAt := [(0, 9000000000)] }] },
    dec .rally (pl 2 (band 2 0) .committed), dec .rally (pl 2 (band 2 0) .admitted), dec .rally (pl 300 (band 300 0) .admitted), dec .rally (pl 2 [] .admitted), dec .rally (pl 2 (band 3 0) .committed), { dec .rally (pl 2 (band 3 0) .committed) with log := srv .pointers 0 false (some 4999999990) },
    scn (pl 2 [] .committed) {}, scn (pl 2 [] .committed) { imaging := some 1 }, scn (pl 2 [] .committed) { imaging := some 1, fifo := [{ uid := 1, line := 0, bytes := [1,2,3,4,5,6,7,8] }, { uid := 1, line := 1, bytes := [1,2,3,4,5,6,7,8] }] }, scn { pl 2 [] .committed with spilled := 1 } { imaging := some 1 },
    { scn (pl 2 [] .committed) { imaging := some 1 } with trackers := [(0, { state := 2 })] }, scn (pl 2 [] .committed) { imaging := some 1, scan := some (sc0 false) }, scn (pl 2 [] .committed) { imaging := some 1, scan := some (sc0 true) }, scn (pl 200 [] .committed) { imaging := some 1, scan := some (sc0 false) } ]
def st (n : Nat) : State := states.getD n State.reset
def extras : List State :=
  [{ rdy .ready with sheets := [res1, mkSheet 9 1 .pending] },
    wo { rdy .ready with time := 20000000000000 } [(0x2310, 5, 1)],
    wo { rdy .ready with time := 20000000000000, mem := { trained := true, credit := [(0, 5), (1, 7), (7, 4000000000)] } } [(0x2310, 5, 1), (0x2300, 1, 1)],
    scn (pl 2 [] .committed) { imaging := some 1, fromTooth := 5 },
    scn { pl 2 [] .committed with planes := [{}, {}, {}, {}, {}, {}] } { imaging := some 1 }]
def ex (n : Nat) : State := extras.getD n State.reset
end G

/-! ### States of trackers, registration and beam links -/

namespace H
def P : Nat := 6773333
def rdy (m : Mode) : State := { wo (live m) [(linkIdx 0, 1, 3), (motIdx 0, 0x30, 5), (0x2300, 2, 4266), (0x2300, 3, 1), (trkIdx 6, 0x30, 0), (trkIdx 6, 0x35, 6), (trkIdx 6, 0x34, 1000), (motIdx 6, 1, 1)] with trackers := [(0, { state := 2, tLast := 70000000000 })], motors := [(6, { target := 1000 })] }
def trk (m : Mode) (k : Nat) (x : Tracker) : State := { wo (rdy m) (((List.range 8).map fun i => (trkIdx 0, 0x10 + i, P)) ++ (List.range 8).map fun i => (trkIdx 6, 0x10 + i, P)) with trackers := [(k, x)] }
def tkk (c : Nat) (a : Acquire) : State := trk .ready 0 { state := 1, acq := a, coasts := c, tLast := 70000000000 }
def tk (st : Nat) (a : Acquire) (c : Option Nat) : Tracker := { state := st, acq := a, cand := c, tLast := 70000000000, next := 0, coasts := 0 }
def srv (m : Mech) (i : Nat) (run : Bool) (d : Option Nat) : Log := { ready := true, serves := [{ mech := m.code, inst := i, code := 0, running := run, done := d }] }
/-- A chevron of beam b and facet f whose edges stand a and c µs after their windows open. -/
def chv (b f a c : Nat) : Chevron :=
  let e : Nat → EdgeSignal := fun n => { start := 5000000000, rising := true, codes := List.replicate n 0 ++ List.replicate (400 - n) 4095 }
  { sensor := 0, beam := ⟨b % 16, by omega⟩, facet := ⟨f % 12, by omega⟩, expected := 0, nominal := 0, straight := e a, slant := e c }
def reg (m : Mode) : State := { wo (rdy m) [(0x3800, 8, 1), (0x3801, 1, 1000)] with sheets := [mkSheet 1 0 .committed] }
def lnk (m : Mode) (st : Nat) (x : Station) : State := { wo (live m) [(linkIdx 0, 1, st)] with stations := [(0, x)] }
def big : List Nat := [70000000000 + P, 70000000000 + P + 10, 70000000000 + P - 10, 70000000000 + P / 2, 70000000000 + P + P / 2, 70000000000 + P * 2, 70100000000]
def states : List State :=
  [live .ready, rdy .ready, { trk .ready 0 (tk 3 .idle none) with pins := { ilockOpen := true } }, wo (trk .ready 0 (tk 3 .idle none)) [(motIdx 0, 0x30, 3)], trk .ready 6 { tk 2 .idle none with teeth := [{ count := 1, time := 70000000000, coast := false }] }, { trk .ready 6 (tk 2 .idle none) with motors := [] }, trk .ready 0 { tk 2 .idle none with tLast := 71000000000 }, rdy .service, rdy .standby] ++ ([0, 3, 1, 2].flatMap fun st => [Acquire.idle, .collecting [], .collecting [70000000000], .collecting ((List.range 18).map fun i => 70000000000 - i * P), .following 0, .following 127].flatMap fun a => [0, 6].map fun k => trk .ready k (tk st a none)) ++
    ([some (70000000000 + P + 20), some (70000000000 + P), none].flatMap fun c => [Acquire.idle, .following 3, .following 127].map fun a => trk .ready 0 (tk 2 a c)) ++
    [{ trk .ready 0 { tk 2 .idle none with coasts := 20 } with log := srv .bdTracker 0 false (some 4999999990) }, trk .ready 0 { tk 2 .idle none with coasts := 20 }, trk .ready 6 { tk 2 .idle none with coasts := 20 },  trk .ready 0 { tk 1 (.following 3) none with coasts := 200 }, wo (tkk 200 (.following 3)) [(trkIdx 0, 3, 2)], trk .ready 0 { state := 1, acq := .following 127, cand := some 70006773333, tLast := 70000000000 }, trk .ready 6 { state := 1, acq := .following 127, cand := some 70006773333, tLast := 70000000000 }, trk .ready 0 (tk 1 (.following 127) (some 70000000100)), { trk .ready 6 (tk 2 .idle none) with motors := [] }, { trk .ready 6 (tk 2 .idle (some 70000000100)) with motors := [] }] ++
    [reg .calibrate, reg .runout, reg .rally, reg .ready] ++
    ([1, 2, 3, 4, 0].flatMap fun l => [2, 3, 4].flatMap fun st => [(false, false), (true, false), (true, true)].map fun b => lnk .ready l { linkStep := st, linkRepeat := b.1, linkServe := b.2 }) ++
    [lnk .ready 3 { softTimes := List.replicate 64 4999999999 }, { lnk .ready 3 { softTimes := List.replicate 64 4999999999 } with log := srv .link 0 false (some 4999999990) }, { lnk .ready 3 {} with sheets := [{ mkSheet 1 0 .committed with fired := 1 }] }, { live .ready with pins := { ilockOpen := true } }, { lnk .service 3 {} with sheets := [] }, lnk .service 1 {}]
def st (n : Nat) : State := states.getD n State.reset
def extras : List State :=
  [wo (trk .ready 6 { state := 1, acq := .following 3, coasts := 200, next := 0, tLast := 70000000000 }) [(trkIdx 6, 3, 2)], reg .calibrate, { lnk .ready 3 { softTimes := List.replicate 64 4999999999 } with sheets := [{ mkSheet 1 0 .committed with fired := 1 }] }, lnk .service 3 {}, trk .ready 6 { tk 2 .idle none with teeth := [{ count := 1, time := 70000000000, coast := false }] }, trk .ready 6 { tk 2 .idle (some 70006773333) with teeth := [{ count := 1, time := 70000000000, coast := false }] },
    wo (reg .rally) [(0x3800, 0x0B, 1)],
    { wo (reg .rally) [(0x3800, 0x0B, 1)] with sheets := [] },
    lnk .ready 3 { regsDue := true },
    { lnk .ready 3 { regsDue := true } with log := srv .link 0 false (some 4999999990) },
    { lnk .service 3 {} with clk := { gateOpen := false, onReference := true } },
    { wo (reg .rally) ([(0x3800, 0x0B, 1), (0x3800, 5, 2000), (0x3800, 7, 6), (trkIdx 6, 0x33, 1000000)] ++ (List.range 8).map fun i => (trkIdx 6, 0x10 + i, P)) with trackers := [(6, { state := 2, tLast := 80000000000 })] },
    { wo (reg .rally) ([(0x3800, 0x0B, 1), (0x3800, 5, 2000), (0x3800, 7, 6), (trkIdx 6, 0x33, 1000000)] ++ (List.range 8).map fun i => (trkIdx 6, 0x10 + i, P)) with trackers := [(6, { state := 2, tLast := 80000000000 })], sheets := [] }]
def ex (n : Nat) : State := extras.getD n State.reset
end H

/-! ### States of the scheduler -/

namespace I
def rdy (m : Mode) : State := { wo (live m) [(linkIdx 0, 1, 3), (motIdx 0, 0x30, 5), (linkIdx 1, 1, 3), (motIdx 1, 0x30, 5)] with trackers := [(0, { state := 2, tLast := 70000000000 }), (1, { state := 2, tLast := 70000000000 })] }
def img (u st t : Nat) : Event := { code := 1, target := st, param := 0, ref := 255, tag := 0, status := 0, time := t, uid := some u }
def T0 : Nat := 5000000000
def ev (code u t : Nat) : Event := { code := code, target := 0, param := 3, ref := 255, tag := 7, status := 0, time := t, uid := if u = 0 then none else some u }
def two (stt : SheetState) : Sheet := { mkSheet 1 0 stt with planes := [{ addr := 4096, len := 64, worst := 8 }, { addr := 4096, len := 64, worst := 8 }, {}, {}, {}, {}] }
def sl (l : Tab Event) (sh : List Sheet) : State := { rdy .rally with slots := l, sheets := sh }
def codes : List Nat := [0x10, 0x11, 0x12, 0x13, 0x14, 0x20, 0x21, 0x22, 0x40, 0x41, 0x42]
def tt (code : Nat) : Event := { ev code 0 0 with ref := 0, tooth := 100, offset := 0 }
def states : List State :=
  [live .ready, rdy .ready, sl [(0, img 1 0 T0)] [mkSheet 1 0 .admitted], sl [(0, img 1 0 (T0 + 5))] [mkSheet 1 0 .admitted], sl [(0, img 1 0 (T0 - 5))] [two .admitted, mkSheet 2 0 .resident], sl [(0, img 1 0 (T0 - 5)), (1, img 1 1 (T0 - 4))] [two .admitted], sl [(0, img 1 1 (T0 - 5)), (1, img 1 0 (T0 - 4))] [two .committed],
     sl [(0, img 1 0 (T0 - 5)), (5, { ev 0x13 1 0 with ref := 0, tooth := 4 })] [two .admitted],
     wo (sl [] []) [(0x2520, 5, 3)], { rdy .ready with slots := (List.range 4).map fun k => (640 + k, { ev 0x13 0 (T0 + 900) with tag := k + 1 }) }] ++
    (codes.flatMap fun c => [0, 1].flatMap fun u => [T0 - 3, T0 + 9].map fun t => sl [(0, ev c u t)] [two .committed, mkSheet 2 0 .committed]) ++
    (codes.flatMap fun c => [0, 1, 2].flatMap fun r => [two .committed, { two .committed with spoiled := true }, { two .committed with late := true }].map fun sh => sl [(0, { ev c 1 (T0 - 3) with route := r }), (1, ev 0x13 1 (T0 + 100)), (2, { ev 0x10 1 (T0 + 100) with status := 8 })] [sh, mkSheet 2 0 .committed]) ++
    (codes.flatMap fun c => [0, 1].flatMap fun u => [true, false].map fun co => { wo (sl [(0, { tt c with uid := if u = 0 then none else some 1 })] [two .committed]) [(trkIdx 0, 7, 100)] with trackers := [(0, { state := 2, tLast := 79000000000, teeth := [{ count := 100, time := 79000000000, coast := co }] })] }) ++
    (codes.map fun c => { wo (sl [(0, tt c)] [two .committed]) [(trkIdx 0, 7, 99)] with trackers := [(0, { state := 2, tLast := 79000000000, cand := some 79900000000, teeth := [{ count := 99, time := 79000000000, coast := false }] })] }) ++
    [{ sl [(0, ev 0x20 0 (T0 - 3))] [] with md := { mode := .safestop } }]
def st (n : Nat) : State := states.getD n State.reset
def extras : List State :=
  [{ sl [(0, ev 0x20 0 (T0 - 3))] [] with md := { mode := .standby } },
    { sl [(0, img 1 0 (T0 - 5))] [mkSheet 1 0 .admitted] with trackers := [(0, { state := 2, tLast := 16 * T0 })] },
    { sl [(0, img 1 0 (T0 - 5))] [mkSheet 1 0 .admitted] with trackers := [(0, { state := 2, tLast := 16 * T0 })], md := { mode := .safestop } },
    sl [(0, img 1 0 (T0 + 100))] [mkSheet 1 0 .admitted]]
def ex (n : Nat) : State := extras.getD n State.reset
end I

/-! ### States of motors -/

namespace J
def mtr (m : Mode) (n st wf : Nat) (sp : Int) (x : Motor) : State := { wo (live m) [(linkIdx 0, 1, 3), (motIdx n, 0x30, st), (motIdx n, 1, wf), (motIdx n, 2, 20000), (motIdx n, 0x31, sImg 32 sp), (motIdx n, 0x0C, 30000), (motIdx n, 5, 4), (motIdx n, 6, 1000), (motIdx n, 0x0E, 255), (motIdx n, 0x12, 6), (motIdx n, 0x21, 20000 + 1000 * 2 ^ 21), (motIdx n, 0x16, 1000), (motIdx n, 3, 500)] with motors := [(n, x)], trackers := [(0, { state := 2, tLast := 70000000000 })] }
def mo : Motor := { gatesLow := false, target := 20000, rampAt := 4000000000, rampFor := 100, lastStep := 3, stepPeriod := 10, nextStep := some 5 }
def srv (m : Mech) (i code : Nat) (run : Bool) (d : Option Nat) : Log := { ready := true, serves := [{ mech := m.code, inst := i, code := code, running := run, done := d }] }
def held (n : Nat) : Sheet := { mkSheet 1 0 .committed with mask := 2 ^ (16 + n) }
def base : List State := [0, 6].flatMap fun n => [0, 1, 2, 3, 4, 5, 6, 7].flatMap fun st => [0, 1, 2, 3, 4].map fun wf => mtr .ready n st wf 20000 mo
def var : List Motor := [mo, { mo with crossed := true }, { mo with crossings := 7 }, { mo with crossings := 2, alignRetry := true }, { mo with restart := true }, { mo with restart := true, target := 0 }, { mo with lowSides := true }, { mo with hall := 1, hallTime := 2 }, { mo with hall := 3 }, { mo with holds := 15 }, { mo with target := 0 }, { mo with inBand := some 5 }, { mo with demand := 5000, target := 29000 }, { mo with phases := [5, 6, 7], duties := [40000, 20000, 100] }, { mo with phases := [5, 6, 7], duties := [40000, 20000, 100], hall := 1 }, { mo with duties := [65535, 65535, 65535] }]
def states : List State :=
  live .ready :: base ++ (var.flatMap fun x => [0, 6].flatMap fun n => [2, 3, 4, 5, 6, 7].flatMap fun st => [1, 2, 3].flatMap fun wf => [20000, 100, 29000].map fun sp => mtr .ready n st wf sp x) ++
    ([0, 6].flatMap fun n => [1, 2, 3, 4, 5, 6, 7, 8].flatMap fun c => [true, false].map fun r => { mtr .ready n 3 1 20000 mo with log := srv .motor n c r (if r then none else some 4999999990), sheets := [held n] }) ++
    ([0, 6].flatMap fun n => [3, 4].flatMap fun st => [{ mtr .rally n st 1 20000 { mo with entry := 0 } with sheets := [held n] }, mtr .safestop n 7 1 20000 { mo with restart := true }])
def st (n : Nat) : State := states.getD n State.reset
def extras : List State :=
  [mtr .ready 0 3 3 20000 { mo with holds := 15, duties := [65535, 65535, 65535] }, mtr .ready 0 3 1 40000 mo] ++
    ([none, some 2, some 3, some 5, some 6, some 7, some 8].flatMap fun c => [(3, 1, 40000, mo), (2, 1, 20000, { mo with alignRetry := true }), (3, 1, 100, { mo with demand := 5000 }), (4, 1, 20000, mo), (5, 1, 100, mo), (3, 3, 20000, { mo with holds := 15, duties := [65535, 65535, 65535] }), (4, 3, 20000, { mo with hall := 1 }), (2, 1, 100, mo), (2, 2, 0, mo), (3, 2, 0, mo), (4, 2, 0, mo)].map fun q =>
      { mtr .ready 0 q.1 q.2.1 q.2.2.1 q.2.2.2 with log := { ready := true, serves := match c with | some k => [{ mech := Mech.motor.code, inst := 0, code := k, running := false, done := some 4999999990 }] | none => [] }, sheets := [held 0] })
def ex (n : Nat) : State := extras.getD n State.reset
end J

/-! ### States of axes -/

namespace K
def mv (d : Int) (g : Option Nat) : Move := { dist := d, v := 1000, a := 5000, d := 5000, j := 0, from_ := 10, at_ := 4990000000, lead := d.natAbs, group := g }
def ax (m : Mode) (k : Nat) (x : Axis) : State := { wo (live m) [(axIdx 0, 1, 0x0100), (axIdx 0, 2, 0), (axIdx 0, 0x32, 1), (axIdx 1, 0x32, 1), (axIdx 0, 0x40, k), (axIdx 0, 0x42, 500), (axIdx 0, 0x43, 100), (axIdx 0, 0x44, 4000), (axIdx 0, 0x45, 7), (axIdx 0, 0x10, 1000), (axIdx 0, 0x14, 5000), (axIdx 0, 0x18, 5000), (axIdx 0, 0x20, 900), (axIdx 0, 0x21, 2 ^ 32 - 300), (axIdx 0, 0x22, 0), (axIdx 1, 0x20, 1200), (axIdx 1, 0x10, 1000), (axIdx 1, 0x14, 5000), (axIdx 1, 0x18, 5000), (axIdx 0, 5, 10), (axIdx 0, 9, 50)] with axes := [(0, x), (1, { state := x.state })] }
def srv (m : Mech) (i : Nat) (run : Bool) (d : Option Nat) : Log := { ready := true, serves := [{ mech := m.code, inst := i, code := 0, running := run, done := d }] }
def hld : Sheet := { mkSheet 1 0 .committed with mask := 1 }
def grp (s : State) : State := wo s [(0x4920, 1, 0xFFFF0100), (0x4920, 2, 0)]
def base : List State := [0, 1, 2, 3, 4, 5, 6].flatMap fun st => [0, 1, 2, 3, 4].flatMap fun k =>
   ([{ state := st }, { state := st, move := some (mv 5000 none) }, { state := st, move := some (mv (-5000) none), queue := some 1 }, { state := st, stopped := some (mv 600 none) }, { state := st, move := some (mv 5000 none), stopped := some (mv 600 none) }, { state := st, homing := some .search, move := some (mv 5000 none) }, { state := st, homing := some .back, move := some (mv (-5000) none) },
    { state := st, homing := some .index }, { state := st, limP := true }, { state := st, fltIn := true }, { state := st, reenable := true }, { state := st, reenable := true, fltIn := true }] : List Axis).map fun x => ax .ready k x
def defs : List AxisDeferred := [.move 0, .move 16, .stop true, .stop false, .resume, .home]
def extra : List State := (defs.flatMap fun d => [1, 2, 4].map fun st => { ax .rally 2 { state := st, deferred := some d, move := if st = 2 then some (mv 5000 none) else none, stopped := if st = 4 then some (mv 600 none) else none } with sheets := [hld] }) ++
   ([1, 2, 4, 0].map fun st => { ax .rally 2 { state := st, move := if st = 2 then some (mv 5000 none) else none } with sheets := [hld] }) ++
   ([1, 4].map fun st => grp (ax .ready 2 { state := st })) ++ [grp { ax .ready 2 { state := 2, move := some (mv 5000 (some 0)) } with axes := [(0, { state := 2, move := some (mv 5000 (some 0)) }), (1, { state := 2, move := some (mv 500 (some 0)) })] }, wo (ax .ready 2 { state := 4, stopped := some (mv 600 none) }) [], wo (ax .ready 1 { state := 5, homing := some .search, move := some (mv 5000 none) }) [(axIdx 0, 0x41, 1)], wo (ax .ready 1 { state := 2, move := some (mv 5000 none) }) [(axIdx 0, 0x0C, 1)]] ++
   ([0, 2, 5].flatMap fun st => [Mode.ready, .safestop].map fun m => { ax m 2 { state := st, fltIn := st == 0, move := if st = 2 then some (mv 5000 none) else none } with log := srv .axisDriver 0 false (some 4999999990) }) ++ [{ ax .ready 2 { state := 2, move := some (mv 5000 none) } with log := srv .axisLimit 0 false (some 4999999990) }] ++
   ([wo { ax .rally 2 { state := 1 } with sheets := [{ hld with mask := 2 ^ 17 }], motors := [(1, { deferred := some 1 })] } [], { ax .rally 2 { state := 1 } with sheets := [{ hld with mask := 2 ^ 17 }], motors := [(1, { deferred := some 0 })] }])
def states : List State :=
  live .ready :: base ++ extra
def st (n : Nat) : State := states.getD n State.reset
def extras : List State :=
  [wo (ax .ready 2 { state := 2, move := some (mv 5000 none) }) [(axIdx 0, 0x0C, 0)], { ax .ready 2 { state := 1 } with sheets := [], motors := [(1, { deferred := some 1 })] }, { ax .rally 2 { state := 1 } with sheets := [{ hld with mask := 2 ^ 17 }], motors := [(1, { deferred := some 0 }), (6, { deferred := some 3 })] }, { ax .ready 2 { state := 2, move := some { mv 5000 none with at_ := 4999000000, lead := 5000 } } with time := 4999000000 + 300000000 }, wo (ax .ready 2 { state := 2, move := some (mv 5000 none) }) [(axIdx 0, 0x0C, 1)],
    ax .ready 2 { state := 2, move := some { mv 5000 none with at_ := 4000000000 } },
    ax .ready 1 { state := 5, homing := some .back, move := some { mv 5000 none with at_ := 4000000000 } },
    ax .ready 2 { state := 5, homing := some .back, move := some { mv 5000 none with at_ := 4000000000 } },
    ax .ready 3 { state := 5, homing := some .index, move := some { mv 5000 none with at_ := 4000000000 } },
    { ax .ready 3 { state := 5, homing := some .index, move := some (mv 5000 none) } with pins := { conflicts := [4096, 4097] } },
    ax .ready 2 { state := 6, reenable := true, fltIn := true },
    grp (ax .ready 2 { state := 1 }),
    wo (grp { ax .ready 2 { state := 2 } with axes := [(0, { state := 2, move := some (mv 5000 (some 0)) }), (1, { state := 2, move := some (mv 500 (some 0)) })] }) [(axIdx 0, 0x0C, 0)],
    ax .ready 2 { state := 1, deferred := some .home },
    ax .ready 4 { state := 1, deferred := some .home }]
def ex (n : Nat) : State := extras.getD n State.reset
end K

/-! ### States of loops and inputs -/

namespace L
def srv (m : Mech) (i code : Nat) (run : Bool) (d : Option Nat) : Log := { ready := true, serves := [{ mech := m.code, inst := i, code := code, running := run, done := d }] }
def lp (m : Mode) (n : Nat) (lw : Nat) (x : Loop) (o : List (Nat × Nat)) : State := { wo (live m) ([(loopIdx n, 1, lw), (loopIdx n, 4, 1000), (loopIdx n, 6, 5), (loopIdx n, 8, 0), (loopIdx n, 0x12, 100000), (loopIdx n, 0x18, 700), (ainIdx 0, 1, 1), (ainIdx 1, 1, 2)] ++ o.map fun p => (loopIdx n, p.1, p.2)) with loops := [(n, x)], ains := [(0, { x := 500 }), (1, { x := 600 })] }
def ls : List (Nat × Nat) := [(26, 1), (26, 2), (0, 1), (0, 2), (30, 1), (30, 2), (40, 2), (28, 2)]
def stl : List Loop := [0, 1, 2, 3, 4].flatMap fun st => [{ state := st, sp := 300, x := 100, u := 50, y := 1 }, { state := st, sp := 300, saturated := true, satTime := 5000000, on := true }, { state := st, broken := true }, { state := st, recorded := some false }, { state := st, recorded := some true }]
def withA (s : State) (a : Ain) : State := { s with ains := [(0, a), (1, a)] }
def pl (s : State) : List State := [s, withA s { broken := true }, withA s { settle := true }, withA s { x := 300000000 }]
def states : List State :=
  live .ready :: live .doze :: (ls.flatMap fun p => stl.flatMap fun x => pl (lp .ready p.1 p.2 x [])) ++
    (ls.flatMap fun p => [0, 1, 2, 3].flatMap fun fr => [true, false].map fun r => { lp .ready p.1 p.2 { state := 2, saturated := true, satTime := 50000000, sp := 300, on := true } [(0x0B, 1), (0x0F, fr)] with log := srv .loop p.1 1 r (if r then none else some 4999999990) }) ++
    (ls.flatMap fun p => [0, 1, 2, 3].map fun fr => { lp .ready p.1 p.2 { state := 2, saturated := true, satTime := 50000000, sp := 300, on := true } [(0x0B, 1), (0x0F, fr)] with log := { ready := true } }) ++
    [lp .service 26 2 { state := 2 } [], { lp .service 26 2 { state := 2 } [] with diag := { capState := 1 } }, { lp .ready 26 2 { state := 2, y := 1 } [] with pins := { zcSeen := some 4999000000 } }, { lp .ready 26 2 { state := 2, y := 1 } [] with pins := { zcLost := true } },
     { lp .ready 26 2 { state := 2, y := 1 } [] with log := srv .zeroCross 255 0 false (some 4999999990) }, { wo (live .ready) [(ainIdx 1, 1, 2), (ainIdx 1, 4, 500)] with log := srv .thermistor 1 0 true none }, wo (live .ready) [(ainIdx 1, 1, 2)], { wo (live .ready) [(ainIdx 1, 1, 2)] with ains := [(1, { discard := true })] },
     { wo (live .ready) [(ainIdx 1, 1, 2), (loopIdx 26, 1, 2), (loopIdx 26, 2, 256)] with log := srv .thermistor 1 0 true none }, { wo (live .ready) [(ainIdx 0, 1, 2), (loopIdx 26, 1, 2)] with log := srv .thermistor 0 0 true none }]
def st (n : Nat) : State := states.getD n State.reset
def extras : List State :=
  (([28, 34].flatMap fun n => [1, 2].map fun lw => { wo (lp .ready n lw { state := 2, sp := 300, x := 100 } [(3, 2 + 256 * (n - 22)), (0x0D, 0), (0x0B, 0)]) [(motIdx 6, 0x30, 3), (motIdx 0, 0x30, 3)] with loops := [(n, { state := 2, sp := 300, x := 100 })] }) ++
    ([1, 2].map fun lw => lp .ready 26 lw { state := 2, sp := 300, x := 100 } [(3, 3), (0x0D, 0), (0x0B, 0)])) ++
    ([0, 1, 2].flatMap fun fr => [{ ready := true }, srv .loop 26 1 false (some 4999999990)].map fun g => { lp .ready 26 1 { state := 2, saturated := true, satTime := 500, sp := 300, on := true } [(0x0B, 1), (0x0F, fr), (0x0D, 0), (3, 3)] with log := g }) ++
    [{ live .ready with pins := { zcSeen := some 4990000000 } }, { live .ready with pins := { ilockOpen := true } }]
def ex (n : Nat) : State := extras.getD n State.reset
end L

/-! ### States of pins, umpire and temperature -/

namespace M
def srv (m : Mech) (i code : Nat) (run : Bool) (d : Option Nat) : Log := { ready := true, serves := [{ mech := m.code, inst := i, code := code, running := run, done := d }] }
def en1 (k : Nat) : Entry := { time := 5, seq := k, cls := 1, kind := 1, source := 0, inst := 0, key := 5, serial := none, detail := 0 }
def states : List State :=
  rich ++ [{ live .ready with pins := { lockSeq := [(.pf0, 3, 4999999990), (.partner 5, 3, 1)] } }, { live .ready with pins := { lockSeq := [(.pf0, 96, 4999999990)], locked := [5, 9] } }, { live .ready with pins := { lockSeq := [(.pf0, 2, 4999999990)], locked := [5, 9] } }, { live .ready with pins := { lockSeq := [(.pf0, 2, 4)], locked := [5, 9] } },
     { live .ready with log := srv .supervisor 255 0 true none }, { live .ready with log := srv .supervisor 255 0 false (some 4999990000) }, { live .safestop with kick := { straps := [3,0,0,0,0,0,0,0,0,1,0,0], umpireRestart := true } }, { onPath .rally with kick := { straps := [3,0,0,0,0,0,0,0,0,1,0,0], umpireRestart := true }, rails := [(0, { state := 3, en := true })] },
     { live .ready with log := { ready := true, pending := [en1 9, en1 8], eraseFrom := some 0, mirror := (List.range 16).map fun k => (k, List.replicate 256 (en1 k)) }, time := 9000000000000 }, { live .ready with log := { ready := true, pending := [en1 9, en1 8], eraseFrom := none, mirror := (List.range 16).map fun k => (k, List.replicate 256 (en1 k)) }, time := 9000000000000 }, { live .ready with log := { ready := true, pending := [], mirror := [] } },
     wo (live .ready) [(0x7010, 1, 1560)], wo (live .kickoff) [(0x2020, 1, 9)], { live .ready with log := { ready := true, causes := [(9, 0), (8, 0)] }, mem := { trained := true, doubled := true }, heatFrom := 4000000000 }, { live .shutdown with hold := .thermal }, wo (live .ready) [(pinIdx 2, 1, 3), (pinIdx 2, 2, 1), (pinIdx 2, 3, 1)] ] ++
     ((List.range 8).map fun r => wo (live .ready) [(pinIdx 2, 1, r), (pinIdx 2, 2, 1), (pinIdx 2, 4, 1), (pinIdx 2, 3, 1), (0x2602, 6, 1)])
def st (n : Nat) : State := states.getD n State.reset
def extras : List State :=
  [wo { live .ready with pins := { perstLow := false, rstLow := false, safeN := false, bank33 := true, bank18 := true } } [(pinIdx 0, 1, 1), (pinIdx 0, 3, 1)], { live .ready with pins := { locked := [5], lockSeq := [(.pf0, 3, 4999999990)] } }]
def ex (n : Nat) : State := extras.getD n State.reset
end M

/-! ## Well-formedness

One ill-formed term for each check of each command's arm is refused; a term whose operands are at the values below passes. -/

def zeros {α : Type} [OfNat α 0] (n : Nat) : List α := List.replicate n 0

def anySrc : FrameSrc := { port := 0, src := 0, ip := 0, udpPort := 0, classical := false, auth := none }

/-- A beat read without an error. -/
def clean : BeatRead := { addr := 0, first := {}, again := {} }
def dramRow (r : DramReader) (e : BeatRead) : Instr := .dramUncorrectableRead r e.addr (e.first, e.again)

def wellFormedTerms1 : List Instr := [
    .aonPowerGood, .kickoffWatchdog, .warmResetHoldEnd, .porst, .brownOut, .wakeIn, .pciExpressWake, .dozeWakeComplete 0, .terpRestart .pf0 [],
    .ownerKeyWrite .pf0 [], .debugChallenge, .debugResponse (zeros 64), .railEnable 0, .railGood 0 ⟨0, 0⟩, .rampFault 0 0, .retryPauseEnd,
    .railWarning 0 ⟨0, 0⟩, .railFault 0 ⟨0, 0⟩, .railResetOffStart, .railDisable 0, .shutdownOffStart, .shutdownSequenceEnd, .dozeEnter,
    .modeRequest .pf0 [], .safestopEntryComplete, .safestopAcknowledge .pf0 [], .admissionEnable .pf0 [], .modeRouteStep, .warmupComplete,
    .warmupLimitExpiry, .standbyIdleExpiry, .readyIdleExpiry, .calibrationComplete, .objectWrite .pf0 0 0 [], .thresholdWrite .pf0 0 0 [],
    .watermarkLatchRead .pf0 0 0, .readToClear .pf0 0 0, .apply .pf0 [], .discardStaging .pf0 [], .deferredGroupTake 0,
    .anonymousAccessorTimeout 0 0, .patronHeartbeat, .referenceLoss, .referenceLossReset, .relock .pf0 [], .relockLockDetect, .relockLockTimeout,
    .relockSettleEnd false, .frequencyCheckEnd 0, .stationDllLocked 0, .ceilingTrip, .timebaseLockLoss, .dllLockLoss 0, .dllRelockTimeout 0,
    .read anySrc 0 0 0, .writeExpedited anySrc 0 0 0 [], .writeSegmented anySrc 0 0 0 0, .segment anySrc 0 false 0 [], .segmentAck anySrc 0 0,
    .abort anySrc 0 0]

def wellFormedTerms2 : List Instr := [
    .readResponse anySrc 0 0 [], .writeResponse anySrc 0 0 0, .cyclicIn anySrc 0 0 [], .rollcallAnswer anySrc 0 0 0, .rollcall anySrc 0 0 0 0,
    .sessionHello anySrc 0 (zeros 8), .sessionClose anySrc 0, .nonTdpFrame 0, .invalidTdpFrame 0 false, .lowerRetryExpiry 0 0, .upperTimeout 0 0,
    .busOff 0, .rollcallBlockEnd 0, .rollcallPollTimeout 0, .rollCallComplete, .partnerIdleTimeout 0, .sessionTimeout 0,
    .portConfigWrite .pf0 0 0 [], .partnerPortWrite .pf0 0 [], .keySlotWrite .pf0 0 [], .sheetTailDoorbell 0 0, .completionHeadDoorbell 0 0,
    .cancelDoorbell 0 0, .mailboxRead 0 1 0 0 ⟨0, 0⟩, .mailboxWrite 0 0 0 0 0 [], .descriptorFetch 0, .descriptorReceived 0 (zeros 128),
    .planeFetchStart 0, .planeReadCompletion 0 0 0 0 ⟨[], []⟩, .ingestReadError 0 ⟨.poisoned, 0, 1⟩ false, .coalescingTimeout 0, .busMasterEnable 0 false,
    .functionLevelReset 0, .pePerst, .tenantResetWrite .pf0 0 [], .tenantEnable .pf0 0 [], .tenantDisable .pf0 0 [], .scrubComplete 0,
    .mr4Read 0 0, dramRow (.decoder 0) clean, .patrolOverdue, .dikePeriod ⟨(zeros 11), (zeros 64), []⟩, .admissionPass, .decoderPlaneStart 0,
    .bandDecode 0 0 [] [], .pointerMismatch ⟨0, false, false, 0⟩, .scanStart 0 0 0 [], .scanUnderrun 0 0, .scanEnd 0, .bdEdge 0 ⟨false, 0⟩, .bdWindowClose 0,
    .patchMeasurement 0 [], .linkRetrain .pf0 0 [], .bringUpStepTimeout 0, .ldFltSoftError 0, .ldFltHardFault 0 0, .serdesLockLoss 0 0,
    .serviceApcWindow .pf0 0 [], .serviceBdWindowsStart .pf0 0 [], .serviceBdWindowsStop .pf0 0 []]

def wellFormedTerms3 : List Instr := [
    .serviceWindow .pf0 0 [], .ilockOpen, .ilockClosedHoldEnd, .image 0 false, .axisMove 0, .axisRampedStop 0, .motorSpeed 0, .pinSet 0,
    .arrivalCheck 0 [], .loopSetPointBank 0, .loopOn 0, .loopOff 0, .networkCycleStart false, .sheetExit 0, .logMark 0, .captureTrigger 0,
    .postEvent .pf0 [], .cancelByTag .pf0 [], .encoderEdge 0 ⟨false, 0⟩, .encoderWindowClose 0, .pwmPeriod 0 0 0, .speedCommand .pf0 0 [], .alignEnd 0,
    .rampEnd 0, .zeroCrossing 0 0, .commutation 0 0, .hallEdge 0 0 0, .overcurrent ⟨0, 0⟩, .stallTimeout 0, .backEmfLoss 0, .motorRestart 0,
    .brakeEnd 0, .axisMoveCommand .pf0 0 [], .groupMoveCommand .pf0 0 [], .axisRampedStopCommand .pf0 0 [], .axisHardStopCommand .pf0 0 [],
    .axisResume .pf0 0 [], .axisHome .pf0 0 [], .axisEnable .pf0 0 [], .moveEnd 0, .deferredCommandRelease 0, .standstillDelayEnd 0,
    .homingLatch 0, .homingSearchEnd 0, .limitActive 0 false, .axisDriverFault 0, .axisReenable 0, .loopEvaluation 0, .loopRestart 0,
    .loopOnCommand .pf0 0 [], .loopOffCommand .pf0 0 [], .bankWrite .pf0 0 [], .conversion 0 0 0, .zcInEdge, .zeroCrossTimeout,
    .injectionStart .pf0 [], .injectionStop .pf0 [], .captureArm .pf0 [], .captureTriggerWrite .pf0 [], .pinLock .pf0 0 []]

def wellFormedTerms4 : List Instr := [
    .lockAll .pf0 [], .driveMismatch 0, .bankSupplyChange false ⟨0, 0⟩, .lockstepMismatch, .watchdogExpiry, .umpireReset, .safeNMismatch,
    .mirrorErase, .logRead .pf0, .noticeRead .pf0, .tjSample [0, 0, 0, 0, 0, 0, 0, 0], .thermalShutdown,
    .kickoffStepComplete (.straps (List.replicate 12 none) (List.replicate 12 (some 0)) false), .porstRelease, .pePerstRelease 1 1, .numvfsWrite 0,
    .bringUpStepComplete 0 [], .busOffRecoveryComplete 0, .canErrorFrame 0 0, .arpRequest 0 0 0, .icmpEchoRequest 0 [], .homeActive 0,
    .axisFltInactive 0, .safeNMismatchEnd, .ilockClose]

theorem test_wellFormedTerms : (wellFormedTerms1 ++ wellFormedTerms2 ++ wellFormedTerms3 ++ wellFormedTerms4).all wellFormed = true := by decide +kernel

/-- A beat whose address no bus carries, and a chevron without a signal. -/
def farBeat : BeatRead := { clean with addr := 18446744073709551616 }
def noMark : Chevron :=
  let e : EdgeSignal := { start := 0, rising := true, codes := [] }
  { sensor := 0, beam := 0, facet := 0, expected := 0, nominal := 0, straight := e, slant := e }

def illFormed1 : List Instr := [
    .dozeWakeComplete 65536, .terpRestart (.anon 4294967296 0) [], .terpRestart (.anon 0 65536) [], .ownerKeyWrite (.anon 4294967296 0) [],
    .ownerKeyWrite (.anon 0 65536) [], .debugResponse (zeros 63), .debugResponse (zeros 65), .railGood 0 ⟨4096, 0⟩, .railGood 0 ⟨0, 4294967296⟩, .rampFault 0 4096,
    .railWarning 0 ⟨4096, 0⟩, .railWarning 0 ⟨0, 4294967296⟩, .railFault 0 ⟨4096, 0⟩, .railFault 0 ⟨0, 4294967296⟩, .modeRequest (.anon 4294967296 0) [], .modeRequest (.anon 0 65536) [],
    .safestopAcknowledge (.anon 4294967296 0) [], .safestopAcknowledge (.anon 0 65536) [], .admissionEnable (.anon 4294967296 0) [],
    .admissionEnable (.anon 0 65536) [], .objectWrite (.anon 4294967296 0) 0 0 [], .objectWrite (.anon 0 65536) 0 0 [],
    .objectWrite .pf0 65536 0 [], .objectWrite .pf0 0 256 [], .thresholdWrite (.anon 4294967296 0) 0 0 [],
    .thresholdWrite (.anon 0 65536) 0 0 [], .thresholdWrite .pf0 65536 0 [], .thresholdWrite .pf0 0 256 [],
    .watermarkLatchRead (.anon 4294967296 0) 0 0, .watermarkLatchRead (.anon 0 65536) 0 0, .watermarkLatchRead .pf0 65536 0,
    .watermarkLatchRead .pf0 0 256, .readToClear (.anon 4294967296 0) 0 0, .readToClear (.anon 0 65536) 0 0, .readToClear .pf0 65536 0,
    .readToClear .pf0 0 256, .apply (.anon 4294967296 0) [], .apply (.anon 0 65536) [], .discardStaging (.anon 4294967296 0) [],
    .discardStaging (.anon 0 65536) [], .anonymousAccessorTimeout 4294967296 0, .anonymousAccessorTimeout 0 65536,
    .relock (.anon 4294967296 0) [], .relock (.anon 0 65536) [], .frequencyCheckEnd 4294967296, .read { anySrc with ip := 4294967296 } 0 0 0,
    .read { anySrc with udpPort := 65536 } 0 0 0, .read { anySrc with auth := some (4294967296, zeros 16) } 0 0 0,
    .read { anySrc with auth := some (0, zeros 15) } 0 0 0, .read anySrc 256 0 0, .read anySrc 0 65536 0, .read anySrc 0 0 256,
    .writeExpedited { anySrc with ip := 4294967296 } 0 0 0 [], .writeExpedited { anySrc with udpPort := 65536 } 0 0 0 [],
    .writeExpedited { anySrc with auth := some (4294967296, zeros 16) } 0 0 0 [],
    .writeExpedited { anySrc with auth := some (0, zeros 15) } 0 0 0 [], .writeExpedited anySrc 256 0 0 [],
    .writeExpedited anySrc 0 65536 0 [], .writeExpedited anySrc 0 0 256 [], .writeExpedited anySrc 0 0 0 (zeros 256),
    .writeSegmented { anySrc with ip := 4294967296 } 0 0 0 0, .writeSegmented { anySrc with udpPort := 65536 } 0 0 0 0,
    .writeSegmented { anySrc with auth := some (4294967296, zeros 16) } 0 0 0 0]

def illFormed2 : List Instr := [
    .writeSegmented { anySrc with auth := some (0, zeros 15) } 0 0 0 0, .writeSegmented anySrc 256 0 0 0, .writeSegmented anySrc 0 65536 0 0,
    .writeSegmented anySrc 0 0 256 0, .writeSegmented anySrc 0 0 0 4294967296, .segment { anySrc with ip := 4294967296 } 0 false 0 [],
    .segment { anySrc with udpPort := 65536 } 0 false 0 [], .segment { anySrc with auth := some (4294967296, zeros 16) } 0 false 0 [],
    .segment { anySrc with auth := some (0, zeros 15) } 0 false 0 [], .segment anySrc 256 false 0 [], .segment anySrc 0 false 65536 [],
    .segment anySrc 0 false 0 (zeros 1027), .segmentAck { anySrc with ip := 4294967296 } 0 0, .segmentAck { anySrc with udpPort := 65536 } 0 0,
    .segmentAck { anySrc with auth := some (4294967296, zeros 16) } 0 0, .segmentAck { anySrc with auth := some (0, zeros 15) } 0 0,
    .segmentAck anySrc 256 0, .segmentAck anySrc 0 65536, .abort { anySrc with ip := 4294967296 } 0 0,
    .abort { anySrc with udpPort := 65536 } 0 0, .abort { anySrc with auth := some (4294967296, zeros 16) } 0 0,
    .abort { anySrc with auth := some (0, zeros 15) } 0 0, .abort anySrc 256 0, .abort anySrc 0 65536,
    .readResponse { anySrc with ip := 4294967296 } 0 0 [], .readResponse { anySrc with udpPort := 65536 } 0 0 [],
    .readResponse { anySrc with auth := some (4294967296, zeros 16) } 0 0 [],
    .readResponse { anySrc with auth := some (0, zeros 15) } 0 0 [], .readResponse anySrc 256 0 [], .readResponse anySrc 0 3 [],
    .readResponse anySrc 0 0 (zeros 256), .writeResponse { anySrc with ip := 4294967296 } 0 0 0,
    .writeResponse { anySrc with udpPort := 65536 } 0 0 0, .writeResponse { anySrc with auth := some (4294967296, zeros 16) } 0 0 0,
    .writeResponse { anySrc with auth := some (0, zeros 15) } 0 0 0, .writeResponse anySrc 256 0 0, .writeResponse anySrc 0 3 0,
    .writeResponse anySrc 0 0 65536, .cyclicIn { anySrc with ip := 4294967296 } 0 0 [], .cyclicIn { anySrc with udpPort := 65536 } 0 0 [],
    .cyclicIn { anySrc with auth := some (4294967296, zeros 16) } 0 0 [], .cyclicIn { anySrc with auth := some (0, zeros 15) } 0 0 [],
    .cyclicIn anySrc 128 0 [], .cyclicIn anySrc 0 256 [], .cyclicIn anySrc 0 0 (zeros 1031),
    .rollcallAnswer { anySrc with ip := 4294967296 } 0 0 0, .rollcallAnswer { anySrc with udpPort := 65536 } 0 0 0,
    .rollcallAnswer { anySrc with auth := some (4294967296, zeros 16) } 0 0 0,
    .rollcallAnswer { anySrc with auth := some (0, zeros 15) } 0 0 0, .rollcallAnswer anySrc 4294967296 0 0,
    .rollcallAnswer anySrc 0 65536 0, .rollcallAnswer anySrc 0 0 256, .rollcall { anySrc with ip := 4294967296 } 0 0 0 0,
    .rollcall { anySrc with udpPort := 65536 } 0 0 0 0, .rollcall { anySrc with auth := some (4294967296, zeros 16) } 0 0 0 0,
    .rollcall { anySrc with auth := some (0, zeros 15) } 0 0 0 0, .rollcall anySrc 256 0 0 0, .rollcall anySrc 0 65536 0 0,
    .rollcall anySrc 0 0 65536 0, .rollcall anySrc 0 0 0 65536]

def illFormed3 : List Instr := [
    .sessionHello { anySrc with ip := 4294967296 } 0 (zeros 8), .sessionHello { anySrc with udpPort := 65536 } 0 (zeros 8),
    .sessionHello { anySrc with auth := some (4294967296, zeros 16) } 0 (zeros 8),
    .sessionHello { anySrc with auth := some (0, zeros 15) } 0 (zeros 8), .sessionHello anySrc 256 (zeros 8),
    .sessionHello anySrc 0 (zeros 7), .sessionHello anySrc 0 (zeros 9), .sessionClose { anySrc with ip := 4294967296 } 0,
    .sessionClose { anySrc with udpPort := 65536 } 0, .sessionClose { anySrc with auth := some (4294967296, zeros 16) } 0,
    .sessionClose { anySrc with auth := some (0, zeros 15) } 0, .sessionClose anySrc 256, .lowerRetryExpiry 0 256, .upperTimeout 0 256,
    .portConfigWrite (.anon 4294967296 0) 0 0 [], .portConfigWrite (.anon 0 65536) 0 0 [], .portConfigWrite .pf0 0 256 [],
    .partnerPortWrite (.anon 4294967296 0) 0 [], .partnerPortWrite (.anon 0 65536) 0 [], .keySlotWrite (.anon 4294967296 0) 0 [],
    .keySlotWrite (.anon 0 65536) 0 [], .keySlotWrite .pf0 256 [], .sheetTailDoorbell 0 4294967296, .completionHeadDoorbell 0 4294967296,
    .cancelDoorbell 0 4294967296, .mailboxRead 0 256 0 0 ⟨0, 0⟩, .mailboxRead 0 2 0 0 ⟨0, 0⟩, .mailboxRead 0 1 65536 0 ⟨0, 0⟩, .mailboxRead 0 1 0 256 ⟨0, 0⟩,
    .mailboxRead 0 1 0 0 ⟨4294967296, 0⟩, .mailboxRead 0 1 0 0 ⟨0, 18446744073709551616⟩, .mailboxWrite 0 65536 0 0 0 [], .mailboxWrite 0 0 256 0 0 [], .mailboxWrite 0 0 0 4294967296 0 [],
    .mailboxWrite 0 0 0 0 18446744073709551616 [], .descriptorReceived 0 (zeros 127), .descriptorReceived 0 (zeros 129),
    .planeReadCompletion 0 65536 0 0 ⟨[], []⟩, .planeReadCompletion 0 0 0 65536 ⟨[], []⟩, .planeReadCompletion 0 0 0 0 ⟨[], [farBeat]⟩,
    .ingestReadError 0 ⟨.poisoned, 18446744073709551616, 1⟩ false, .ingestReadError 0 ⟨.poisoned, 0, 0⟩ false, .ingestReadError 0 ⟨.poisoned, 0, 513⟩ false, .tenantResetWrite (.anon 4294967296 0) 0 [],
    .tenantResetWrite (.anon 0 65536) 0 [], .tenantEnable (.anon 4294967296 0) 0 [], .tenantEnable (.anon 0 65536) 0 [],
    .tenantDisable (.anon 4294967296 0) 0 [], .tenantDisable (.anon 0 65536) 0 [],
    dramRow (.decoder 0) farBeat, dramRow .patrol { clean with first := { low := [0, 1, 2] } },
    dramRow .patrol { clean with first := { high := [0, 1, 2] } }, dramRow .patrol { clean with again := { low := [0, 1, 2] } },
    .dikePeriod ⟨(zeros 10), (zeros 64), []⟩, .dikePeriod ⟨(zeros 12), (zeros 64), []⟩, .dikePeriod ⟨(zeros 11), (zeros 63), []⟩,
    .dikePeriod ⟨(zeros 11), (zeros 64), [farBeat]⟩,
    .bandDecode 0 65536 [] [], .bandDecode 0 0 [farBeat] [], .bandDecode 0 0 [] [{ at_ := 4227088, bits := [], refetch := clean }],
    .bandDecode 0 0 [] [{ at_ := 0, bits := [0, 1, 2], refetch := clean }], .bandDecode 0 0 [] [{ at_ := 0, bits := [], refetch := farBeat }],
    .pointerMismatch ⟨0, false, false, 4294967296⟩, .scanStart 0 16385 0 [], .scanStart 0 0 262145 [],
    .scanStart 0 0 0 [{ line := 1048576, word := 0, first := [], again := [] }], .scanStart 0 0 0 [{ line := 0, word := 2048, first := [], again := [] }],
    .scanStart 0 0 0 [{ line := 0, word := 0, first := [0, 1, 2], again := [] }], .scanStart 0 0 0 [{ line := 0, word := 0, first := [], again := [0, 1, 2] }],
    .scanUnderrun 0 65536, .bdEdge 0 ⟨false, 295147905179352825856⟩, .patchMeasurement 0 (List.replicate 4097 noMark), .patchMeasurement 0 [{ noMark with expected := 2 ^ 64 }],
    .patchMeasurement 0 [{ noMark with nominal := 2 ^ 64 }], .patchMeasurement 0 [{ noMark with straight := { start := 2 ^ 64, rising := true, codes := [] } }],
    .patchMeasurement 0 [{ noMark with slant := { start := 0, rising := true, codes := [4096] } }],
    .linkRetrain (.anon 4294967296 0) 0 [], .linkRetrain (.anon 0 65536) 0 [], .ldFltHardFault 0 65536, .serdesLockLoss 0 65536,
    .serviceApcWindow (.anon 4294967296 0) 0 [], .serviceApcWindow (.anon 0 65536) 0 [], .serviceBdWindowsStart (.anon 4294967296 0) 0 []]

def illFormed4 : List Instr := [
    .serviceBdWindowsStart (.anon 0 65536) 0 [], .serviceBdWindowsStop (.anon 4294967296 0) 0 [], .serviceBdWindowsStop (.anon 0 65536) 0 [],
    .serviceWindow (.anon 4294967296 0) 0 [], .serviceWindow (.anon 0 65536) 0 [], .postEvent (.anon 4294967296 0) [],
    .postEvent (.anon 0 65536) [], .cancelByTag (.anon 4294967296 0) [], .cancelByTag (.anon 0 65536) [], .encoderEdge 0 ⟨false, 295147905179352825856⟩,
    .pwmPeriod 0 2048 0, .pwmPeriod 0 (-2049) 0, .pwmPeriod 0 0 2048, .pwmPeriod 0 0 (-2049), .overcurrent ⟨0, 2048⟩, .overcurrent ⟨0, (-2049)⟩,
    .speedCommand (.anon 4294967296 0) 0 [], .speedCommand (.anon 0 65536) 0 [], .zeroCrossing 0 18446744073709551616,
    .commutation 0 18446744073709551616, .hallEdge 0 0 18446744073709551616, .axisMoveCommand (.anon 4294967296 0) 0 [],
    .axisMoveCommand (.anon 0 65536) 0 [], .groupMoveCommand (.anon 4294967296 0) 0 [], .groupMoveCommand (.anon 0 65536) 0 [],
    .axisRampedStopCommand (.anon 4294967296 0) 0 [], .axisRampedStopCommand (.anon 0 65536) 0 [],
    .axisHardStopCommand (.anon 4294967296 0) 0 [], .axisHardStopCommand (.anon 0 65536) 0 [], .axisResume (.anon 4294967296 0) 0 [],
    .axisResume (.anon 0 65536) 0 [], .axisHome (.anon 4294967296 0) 0 [], .axisHome (.anon 0 65536) 0 [], .axisEnable (.anon 4294967296 0) 0 [],
    .axisEnable (.anon 0 65536) 0 [], .loopOnCommand (.anon 4294967296 0) 0 [], .loopOnCommand (.anon 0 65536) 0 [],
    .loopOffCommand (.anon 4294967296 0) 0 [], .loopOffCommand (.anon 0 65536) 0 [], .bankWrite (.anon 4294967296 0) 0 [],
    .bankWrite (.anon 0 65536) 0 [], .conversion 0 4096 0, .conversion 0 0 4096, .injectionStart (.anon 4294967296 0) [],
    .injectionStart (.anon 0 65536) [], .injectionStop (.anon 4294967296 0) [], .injectionStop (.anon 0 65536) [],
    .captureArm (.anon 4294967296 0) [], .captureArm (.anon 0 65536) [], .captureTriggerWrite (.anon 4294967296 0) [],
    .captureTriggerWrite (.anon 0 65536) [], .pinLock (.anon 4294967296 0) 0 [], .pinLock (.anon 0 65536) 0 [], .lockAll (.anon 4294967296 0) [],
    .lockAll (.anon 0 65536) [], .logRead (.anon 4294967296 0), .logRead (.anon 0 65536), .noticeRead (.anon 4294967296 0),
    .noticeRead (.anon 0 65536), .tjSample [0, 0, 0, 0, 0, 0, 0], .tjSample [0, 0, 0, 0, 0, 0, 0, 32768], .tjSample [0, 0, 0, 0, 0, 0, 0, -32769]]

def illFormed5 : List Instr := [
    .kickoffStepComplete (.straps (List.replicate 11 none) (List.replicate 12 none) false),
    .kickoffStepComplete (.straps (List.replicate 12 none) (List.replicate 11 none) false),
    .kickoffStepComplete (.straps (some 65536 :: List.replicate 11 none) (List.replicate 12 none) false),
    .kickoffStepComplete (.straps (List.replicate 12 none) (some 65536 :: List.replicate 11 none) false), .kickoffStepComplete (.coreReset 32768),
    .pePerstRelease 0 1, .pePerstRelease 4 1, .pePerstRelease 1 3, .numvfsWrite 65536, .bringUpStepComplete 0 [0, 65536],
    .arpRequest 4294967296 0 0, .arpRequest 0 281474976710656 0, .arpRequest 0 0 4294967296, .icmpEchoRequest 4294967296 [],
    .icmpEchoRequest 0 (zeros 1473)]

theorem test_illFormed : (illFormed1 ++ illFormed2 ++ illFormed3 ++ illFormed4 ++ illFormed5).all (fun c => !wellFormed c) = true := by decide +kernel

/-- Every command that carries the octets of a write, with all its other operands at 0. -/
def writesOf (d : List Byte) : List Instr := [
    .terpRestart .pf0 d, .ownerKeyWrite .pf0 d, .modeRequest .pf0 d, .safestopAcknowledge .pf0 d, .admissionEnable .pf0 d,
    .objectWrite .pf0 0 0 d, .thresholdWrite .pf0 0 0 d, .apply .pf0 d, .discardStaging .pf0 d, .relock .pf0 d, .portConfigWrite .pf0 0 0 d,
    .partnerPortWrite .pf0 0 d, .keySlotWrite .pf0 0 d, .mailboxWrite 0 0 0 0 0 d, .planeReadCompletion 0 0 0 0 ⟨d, []⟩, .tenantResetWrite .pf0 0 d,
    .tenantEnable .pf0 0 d, .tenantDisable .pf0 0 d, .linkRetrain .pf0 0 d, .serviceApcWindow .pf0 0 d, .serviceBdWindowsStart .pf0 0 d,
    .serviceBdWindowsStop .pf0 0 d, .serviceWindow .pf0 0 d, .postEvent .pf0 d, .cancelByTag .pf0 d, .speedCommand .pf0 0 d,
    .axisMoveCommand .pf0 0 d, .groupMoveCommand .pf0 0 d, .axisRampedStopCommand .pf0 0 d, .axisHardStopCommand .pf0 0 d, .axisResume .pf0 0 d,
    .axisHome .pf0 0 d, .axisEnable .pf0 0 d, .loopOnCommand .pf0 0 d, .loopOffCommand .pf0 0 d, .bankWrite .pf0 0 d, .injectionStart .pf0 d,
    .injectionStop .pf0 d, .captureArm .pf0 d, .captureTriggerWrite .pf0 d, .pinLock .pf0 0 d, .lockAll .pf0 d]

/-- A write of more octets than the largest BLOB holds is refused, by every command that carries one. -/
theorem test_illFormedData (d : List Byte) (h : 16777216 < d.length) : (writesOf d).map wellFormed = List.replicate 42 false := by
  have hd : dataOk d = false := by simp [dataOk, atMost]; omega
  have hw : (writesOf d).map wellFormed = List.replicate 42 (dataOk d) := rfl
  rw [hw, hd]

/-! ## Decoding: the table gives no bits, so no word spells a command -/

theorem test_decodeTableWord : decodeTableWord 0 0 = none ∧ decodeTableWord 32 0x12345678 = none := by decide

/-! ## Single commands and operations

Expected values are those of the spec's worked cases and tables; the comment names the place. -/

/-- The state that a command leaves. -/
def after (c : Instr) (s : State) : State :=
  match exec c s with
  | .next t => t
  | _ => s

-- R104 step 1, R11
theorem test_aonPowerGood : (after .aonPowerGood State.reset).powered = true ∧ get (after .aonPowerGood State.reset) 0x2020 1 = 1 := by decide +kernel

-- R615: PORST is a warm reset into KICKOFF
theorem test_porst : (after .porst (live .ready)).md.mode = .kickoff ∧ (after .porst (live .ready)).pins.rstLow = true := by decide +kernel

-- "Rail sequencing and supervision", worked case VDD_CORE in table A: windows 2,453, 2,560, 2,773 and 2,880
theorem test_vddCore : (tableA.getD 8 {}).fault = 2453 + 65536 * 2880 ∧ (tableA.getD 8 {}).warn = 2560 + 65536 * 2773 := by decide +kernel

-- R158: the warning latch and its count
theorem test_railWarning : get (after (.railWarning 0 ⟨150, 400⟩) (B.st 57)) 0x2100 0x0C = 1 ∧ get (after (.railWarning 0 ⟨150, 400⟩) (B.st 57)) 0x2100 0x0D = 1 := by
  decide +kernel

-- R44: a request for WARMUP in STANDBY has cause 0x01
theorem test_modeRequest :
    (after (.modeRequest .pf0 [3]) (live .standby)).md.mode = .warmup ∧ get (after (.modeRequest .pf0 [3]) (live .standby)) 0x2000 5 = 1 := by decide +kernel

-- R562, R44: ILOCK_N open enters SAFESTOP with cause 0x08
theorem test_ilockOpen : (after .ilockOpen (live .ready)).md.mode = .safestop ∧ get (after .ilockOpen (live .ready)) 0x2000 5 = 8 := by decide +kernel

-- R45: refused with 0x0404 while a cause persists
theorem test_safestopAcknowledge :
    (after (.safestopAcknowledge .pf0 [1]) { live .safestop with log := { ready := true, causes := [(9, 0)] } }).out.head? = some (.answer .pf0 0x0404 []) := by
  decide +kernel

-- R52: an undefined index is 0x0101
theorem test_objectWrite_undefined : (after (.objectWrite .pf0 0x2F00 1 [0]) (live .ready)).out.head? = some (.answer .pf0 0x0101 []) := by decide +kernel

-- R59: a write to an RO object is 0x0103
theorem test_objectWrite_readOnly : (after (.objectWrite .pf0 0x2000 1 [0]) (live .ready)).out.head? = some (.answer .pf0 0x0103 []) := by decide +kernel

-- R87: a read of LATCH clears it
theorem test_watermarkLatchRead :
    get (after (.watermarkLatchRead .pf0 0x2520 3) (wo (live .ready) [(0x2520, 3, 1)])) 0x2520 3 = 0 := by decide +kernel

-- "Clock islands": 31,000 counts at 1.550 GHz, within 6.2 cycles
theorem test_countFits :
    countFits (wo (live .standby) [(0x2200, 1, 1550000)]) 31006 = true ∧ countFits (wo (live .standby) [(0x2200, 1, 1550000)]) 31007 = false ∧
      countFits (wo (live .standby) [(0x2200, 1, 1550000)]) 30994 = true ∧ countFits (wo (live .standby) [(0x2200, 1, 1550000)]) 30993 = false := by
  decide +kernel

-- R240: slot lengths of 220 µs on CAN0 at 500 kbit/s and 2 Mbit/s, 130 µs on CAN1 at 1 Mbit/s and 5 Mbit/s, 20 µs on ETH
theorem test_slots :
    slotUs (wo (live .ready) [(portIdx 0, 2, 500000), (portIdx 0, 3, 2000000)]) 0 = 220 ∧
      slotUs (wo (live .ready) [(portIdx 1, 2, 1000000), (portIdx 1, 3, 5000000)]) 1 = 130 ∧ slotUs (live .ready) 6 = 20 := by decide +kernel

-- "Host link": an absent VF's doorbell does nothing
theorem test_doorbell_absent : (after (.sheetTailDoorbell 3 5) (live .ready)).tenants = [] := by decide +kernel

-- "Memory", worked cases: charges of 36 beats at 800 mm/s and 1200 dpi, and of 9 beats on the reference press
theorem test_charge :
    chargeOf (wo (live .ready) [(0x3000, 4, 1200), (0x3000, 5, 800000)]) 0 3900460 = 36 ∧
      chargeOf (wo (live .ready) [(0x3000, 4, 2400), (0x3000, 5, 600000)]) 0 600000 = 9 := by decide +kernel

-- "Memory", worked case heat on a slower part: Cp 656, 612 and 547, B 592, 552 and 491
theorem test_budget :
    let s := wo (live .ready) [(0x2300, 2, 3733)]
    (capacity s 1, capacity s 2, capacity s 4) = (656, 612, 547) ∧ (budgetOf 656, budgetOf 612, budgetOf 547) = (592, 552, 491) := by decide +kernel

/-- The band of "Band codec", worked case decoding a band. -/
def workedBand : List Byte :=
  let p : List Byte := [0xC3, 0x83, 0x55, 0x01, 0x1B, 0x6C, 0xE4, 0xA9, 0x00, 0xFF, 0xA4, 0xE5]
  [1, 1, 3, 0, 0, 0, 0, 0, 0x0C, 0, 0, 0] ++ leBytes 4 (crc32 p) ++ p

theorem test_decodeBand :
    (decodeBand workedBand 3 0 16 28 none).code = 0 ∧ (decodeBand workedBand 3 0 16 28 none).used = 28 ∧
      (decodeBand workedBand 3 0 16 28 none).lines.flatten = List.replicate 4 0 ++ List.replicate 6 0x55 ++ [0x1B, 0x6C, 0, 0, 0, 0] ++
        List.replicate 4 0 ++ List.replicate 6 0x55 ++ [0xFF, 0x6C, 0, 0, 0, 0] ++ List.replicate 16 0 := by decide +kernel

-- "The beam link", worked case: register 0x05 is 0x8666
theorem test_pixelReg : pixelReg (wo (live .ready) [(0x3000, 8, 5600), (0x2200, 1, 1500000)]) 0 = 0x8666 := by decide +kernel

/-- TT6 on the belt, tooth N−1 fixed at the origin: 125.00 µs of 24,000 phases. -/
def belt (c : Option Nat) : State :=
  { wo (live .ready) [(trkIdx 6, 0x10, 3000000), (trkIdx 6, 2, 50), (trkIdx 6, 3, 2), (trkIdx 6, 0x30, 20), (trkIdx 6, 0x32, 1), (trkIdx 6, 0x35, 6), (motIdx 6, 1, 1)] with
    trackers := [(6, { state := 2, tLast := 24000000000, cand := c })], motors := [(6, { target := 1000 })] }

-- "Event scheduler", worked case on the belt: noise at 110.00 µs, the candidate at 119.50, and the nearer one at 124.80
theorem test_encoderEdge :
    (tracker (after (.encoderEdge 0 ⟨true, (24000000000 + 2640000)⟩) (belt none)) 6).cand = none ∧
      (tracker (after (.encoderEdge 0 ⟨true, (24000000000 + 2868000)⟩) (belt none)) 6).cand = some (24000000000 + 2868000) := by decide +kernel

theorem test_encoderEdge_double :
    (tracker (after (.encoderEdge 0 ⟨true, (24000000000 + 2995200)⟩) (belt (some (24000000000 + 2868000)))) 6).cand = some (24000000000 + 2995200) := by decide +kernel

-- the window closes: period 124.95 µs
theorem test_encoderWindowClose :
    periodOf (after (.encoderWindowClose 0) (belt (some (24000000000 + 2995200)))) 6 0 = 2998800 ∧
      (tracker (after (.encoderWindowClose 0) (belt (some (24000000000 + 2995200)))) 6).tLast = 24000000000 + 2995200 := by decide +kernel

-- a missed tooth: COAST at 124.95 µs after the last
theorem test_encoderWindowClose_coast :
    (tracker (after (.encoderWindowClose 0) (wo (belt none) [(trkIdx 6, 0x10, 2998800)])) 6).tLast = 24000000000 + 2998800 ∧
      (tracker (after (.encoderWindowClose 0) (wo (belt none) [(trkIdx 6, 0x10, 2998800)])) 6).coasts = 1 := by decide +kernel

-- "Polygon and drive motors", worked case: samples at 12.0 and 13.4 µs, one edge shifted
theorem test_placement :
    let p := placement 50000 200 1200 [34079, 32768, 19661]
    p.hold = false ∧ p.shifted = true ∧ p.sample1 = 12000 ∧ p.sample2 = 13400 := by decide +kernel

-- "Stepper and servo axes", worked case: 900 steps and 30,000 step/s after 60 ms, 5,000 steps after 200 ms, the resumed peak of 40,000
theorem test_profile :
    profileSteps 5000 50000 500000 500000 0 90000000 = 900 ∧ profileVel 5000 50000 500000 500000 0 90000000 = 30000 * velUnit ∧
      profileSteps 5000 50000 500000 500000 0 300000000 = 5000 ∧ peak 3200 50000 500000 500000 0 = 40000 * velUnit := by decide +kernel

-- "Multiplexed pins", worked case a shared enable line: MP20 low only while both axes enable it
def shared (a b : Bool) : State :=
  { wo (live .ready) [(axIdx 4, 1, 0xFF14FFFF), (axIdx 5, 1, 0xFF14FFFF), (axIdx 4, 4, 4), (axIdx 5, 4, 4)] with
    axes := [(4, { en := a, state := 1 }), (5, { en := b, state := 1 })], pins := { perstLow := false, safeN := false, rstLow := false, bank33 := true, bank18 := true } }

theorem test_sharedEnable :
    padLevel (shared true true) 20 = 0 ∧ padLevel (shared true false) 20 = 1 ∧ padLevel (shared false true) 20 = 1 ∧ padLevel (shared false false) 20 = 1 := by
  decide +kernel

/-- AIN26 in thermistor mode feeds L26. -/
def fuser : State := wo (live .ready) [(ainIdx 26, 1, 2), (loopIdx 26, 1, 2), (loopIdx 26, 2, 26 * 256)]

-- "The loop engine", worked case a fuser thermistor breaks: the first BROKEN conversion begins the serve, the second is SAFESTOP with cause 0x07
theorem test_conversion_broken :
    serving (after (.conversion 26 4095 4095) fuser) .thermistor 26 = true ∧ (after (.conversion 26 4095 4095) fuser).md.mode = .ready := by decide +kernel

theorem test_conversion_broken_twice :
    (after (.conversion 26 4095 4095) { fuser with log := { ready := true, serves := [{ mech := Mech.thermistor.code, inst := 26, code := 0, running := true, done := none }] } }).md.mode = .safestop ∧
      get (after (.conversion 26 4095 4095) { fuser with log := { ready := true, serves := [{ mech := Mech.thermistor.code, inst := 26, code := 0, running := true, done := none }] } }) 0x2000 5 = 7 := by
  decide +kernel

-- "Event scheduler", worked case late posted events: a pin set for tick now + 10 is LATE, a log mark of the past is not flagged, a pin set for now + 17 waits
def posted (code : Nat) (t : Nat) : List Byte := leBytes 1 code ++ [0, 1, 255] ++ leBytes 2 7 ++ [0, 0] ++ leBytes 8 t

theorem test_postEvent_late :
    get (after (.postEvent .pf0 (posted 0x13 5000000010)) (live .ready)) 0x2521 6 = 1 ∧
      get (after (.postEvent .pf0 (posted 0x41 4999997000)) (live .ready)) 0x2521 6 = 0 := by decide +kernel

theorem test_postEvent_waits :
    (after (.postEvent .pf0 (posted 0x13 5000000017)) (live .ready)).slots.map (·.1) = [640] ∧
      get (after (.postEvent .pf0 (posted 0x13 5000000017)) (live .ready)) 0x2521 6 = 0 := by decide +kernel

-- R548: the second half of a lock in time locks the pin
theorem test_pinLock : (after (.pinLock .pf0 3 [0xB3]) (M.ex 1)).pins.locked = [3, 5] := by decide +kernel

-- R594: 150 °C is cause 0x09
theorem test_tjSample : persists (after (.tjSample (List.replicate 8 1500)) (live .ready)) 9 = true := by decide +kernel

/-! ## The hypotheses of the statements can be met

For each statement, a state and operands that meet the hypotheses of each of its clauses; where a clause names what a list or a table holds, the
hypothesis on it is written over the elements of that list. -/

theorem witness_StepRunsFront : ({ live .ready with pending := [.porst, .wakeIn] } : State).pending = .porst :: [.wakeIn] := by decide

theorem witness_EmptyQueueTicks :
  (∃ (s : Machine.State), (s.pending = []) ∧ (s.clk.gateOpen = false) ∧ (s.powered = true)) ∧
  (∃ (s : Machine.State), (s.pending = []) ∧ (s.clk.gateOpen = false) ∧ (s.powered = false)) :=
  ⟨⟨B.st 2, by decide +kernel⟩,
   ⟨State.reset, by decide +kernel⟩⟩

theorem witness_ModesFollowSheets : Settled (onPath .rally) ∧ ∃ t, step (onPath .rally) = .next t := by
  refine ⟨?_, _, rfl⟩
  unfold Settled
  decide +kernel

theorem witness_LogStaysBounded : LogBounds (C.st 34) ∧ (C.st 34).log.ring ≠ [] ∧ ∃ t, step (C.st 34) = .next t := by
  refine ⟨?_, by decide +kernel, _, rfl⟩
  unfold LogBounds
  decide +kernel

theorem witness_ModeKept : keepsMode .kickoffWatchdog = true := by decide

theorem witness_PowerCycle :
  (∃ (s : Machine.State), (s.powered = false)) ∧
  (∃ (s : Machine.State), (s.powered = true)) :=
  ⟨⟨State.reset, by decide +kernel⟩,
   ⟨B.st 2, by decide +kernel⟩⟩

theorem witness_WarmResets :
  (∃ (s : Machine.State), (s.powered = true) ∧ (s.hold = Hold.none) ∧ (anyRailOn s = true)) ∧
  (∃ (s : Machine.State), (s.reset_.porstLow = true) ∧ (s.reset_.toTerp = false)) ∧
  (∃ (s : Machine.State), (s.powered = true) ∧ (anyRailOn s = false) ∧ (s.reset_.running = true) ∧ (s.reset_.holdEnded = false) ∧
    (s.reset_.toTerp = false) ∧ (s.kick.failed = none) ∧ (s.seq.why ≠ OffReason.railReset)) :=
  ⟨⟨B.st 34, by decide +kernel⟩,
   ⟨B.st 31, by decide +kernel⟩,
   ⟨B.st 31, by decide +kernel⟩⟩

theorem witness_KickoffCourse :
  (∃ (s : Machine.State), (s.powered = true) ∧ (s.md.mode = Mode.kickoff) ∧ (s.kick.failed = none) ∧ (s.reset_.running = false) ∧ (s.hold = Hold.none) ∧
    (Machine.get s 8224 1 = 6)) ∧
  (∃ (s : Machine.State), (s.powered = true) ∧ (s.md.mode = Mode.kickoff) ∧ (s.kick.failed = none) ∧ (s.reset_.running = false) ∧ (s.hold = Hold.none) ∧
    (Machine.get s 8224 1 = 7)) ∧
  (∃ (s : Machine.State), (s.powered = true) ∧ (s.md.mode = Mode.kickoff) ∧ (s.reset_.running = false) ∧ (s.hold = Hold.none) ∧
    (Machine.get s 8224 1 = 3)) ∧
  (∃ (s : Machine.State) (tj : Int), (s.powered = true) ∧ (s.md.mode = Mode.kickoff) ∧ (s.reset_.running = false) ∧ (s.hold = Hold.none) ∧
    (Machine.get s 8224 1 = 5) ∧ (-32768 ≤ tj) ∧ (tj ≤ 1500)) ∧
  (∃ (s : Machine.State), (s.powered = true) ∧ (s.md.mode = Mode.kickoff) ∧ (s.reset_.running = false) ∧ (s.hold = Hold.none) ∧
    (Machine.get s 8224 1 = 10) ∧ (Machine.get s 8704 3 = 4)) ∧
  (∃ (s : Machine.State), (s.powered = true) ∧ (s.md.mode = Mode.kickoff) ∧ (s.reset_.running = false) ∧ (s.hold = Hold.none) ∧
    (Machine.get s 8224 1 = 11)) ∧
  (∃ (s : Machine.State), (s.powered = true) ∧ (s.md.mode = Mode.kickoff) ∧ (s.reset_.running = false) ∧ (s.hold = Hold.none) ∧
    (Machine.get s 8224 1 = 12) ∧ (strap s 7 ≠ 3)) ∧
  (∃ (s : Machine.State) (v1 : List (Option Nat)) (v2 : List (Option Nat)), (s.powered = true) ∧ (s.md.mode = Mode.kickoff) ∧
    (s.reset_.running = false) ∧ (s.hold = Hold.none) ∧ (Machine.get s 8224 1 = 1) ∧ (strapLevels s.fresh v1 = strapLevels (s.fresh + 12) v2) ∧
    ((strapLevels (s.fresh + 12) v2).getD 1 0 ≠ 3) ∧ ((strapLevels (s.fresh + 12) v2).getD 5 0 ≠ 3) ∧ ((strapLevels (s.fresh + 12) v2).getD 11 0 ≠ 1)) ∧
  (∃ (s : Machine.State), (s.powered = true) ∧ (s.md.mode = Mode.kickoff) ∧ (s.reset_.running = false) ∧ (s.hold = Hold.none) ∧
    (Machine.get s 8224 1 = 4) ∧ (s.seq.state = 1) ∧ (s.seq.dozeRails = false) ∧ (sequenceDone s = true)) ∧
  (∃ (s : Machine.State), (s.powered = true) ∧ (s.md.mode = Mode.kickoff) ∧ (s.reset_.running = false) ∧ (s.hold = Hold.none) ∧
    (Machine.get s 8224 1 = 8) ∧ (noImage s.flash = true) ∧ (strap s 5 = 0)) ∧
  (∃ (s : Machine.State) (r : KickResult), (s.powered = true) ∧ (s.md.mode = Mode.kickoff) ∧ (s.reset_.running = false) ∧ (s.hold = Hold.none) ∧
    (r ≠ KickResult.railSequence) ∧ (Machine.get s 8224 1 + 1 ≠ stepOf r)) ∧
  (∃ (s : Machine.State), (s.md.mode = Mode.kickoff) ∧ (Machine.get s 8224 1 = 14) ∧ (s.reset_.running = false) ∧ (s.hold = Hold.none) ∧
    (nodeOnly s = true → rollcallEnd s ≤ s.time) ∧ (s.log.causes = []) ∧ (partnersIn s 1 = [])) :=
  ⟨⟨B.st 20, by decide +kernel⟩,
   ⟨B.st 21, by decide +kernel⟩,
   ⟨B.st 17, by decide +kernel⟩,
   ⟨B.st 19, 0, by decide +kernel⟩,
   ⟨B.st 38, by decide +kernel⟩,
   ⟨B.st 25, by decide +kernel⟩,
   ⟨B.st 26, by decide +kernel⟩,
   ⟨B.st 15, List.replicate 12 (some 0), List.replicate 12 (some 0), by decide +kernel⟩,
   ⟨B.ex 1, by decide +kernel⟩,
   ⟨B.st 22, by decide +kernel⟩,
   ⟨B.st 2, .reference true, by decide +kernel⟩,
   ⟨B.st 28, by decide +kernel⟩⟩

theorem witness_RailsChange :
  (∃ (s : Machine.State) (r : Fin 16) (k : Nat), (s.seq.state = 1) ∧ (s.seq.dozeRails = false) ∧ (railSequenced s r.val = true) ∧
    ((rail s r.val).en = false) ∧ ((rail s r.val).state ≠ 6) ∧
    (∀ (k : Nat), k < 16 → (rail s k).en = true ∨ Machine.get s (8448 + r.val) 2 ≤ Machine.get s (8448 + k) 2) ∧ (k ≠ r.val)) ∧
  (∃ (s : Machine.State) (r : Fin 16) (k : Nat), (s.seq.state = 3) ∧ (s.seq.why ≠ OffReason.doze) ∧ ((rail s r.val).en = true) ∧
    (∀ (k : Nat), k < 16 → (rail s k).en = false ∨ Machine.get s (8448 + r.val) 4 ≤ Machine.get s (8448 + k) 4) ∧ (k ≠ r.val)) ∧
  (∃ (s : Machine.State) (r : Fin 16) (v : Nat) (samples : Nat) (k : Nat), (s.seq.state = 1) ∧ (s.seq.why = OffReason.none) ∧
    (railMonitored s r.val = true) ∧ ((rail s r.val).en = true) ∧ ((rail s r.val).state = 2) ∧ (railInside s (r.val) 6 v = true) ∧ (16 ≤ samples) ∧
    (k ≠ r.val)) ∧
  (∃ (s : Machine.State) (r : Fin 16) (v : Nat) (samples : Nat), (railInside s (r.val) 6 v = false ∨ samples < 16)) ∧
  (∃ (s : Machine.State), (s.seq.state = 4)) ∧
  (∃ (s : Machine.State) (r : Fin 16), (s.seq.state = 1) ∧ (s.seq.attempt = 1) ∧ (s.hold = Hold.none) ∧ (s.reset_.running = false) ∧
    (s.md.mode = Mode.kickoff) ∧ (s.seq.why ≠ OffReason.railReset) ∧ (1 ≤ Machine.get s 8480 2) ∧ (railMonitored s r.val = true) ∧
    ((rail s r.val).state = 2) ∧ ((rail s r.val).en = true)) ∧
  (∃ (s : Machine.State) (r : Fin 16) (v : Nat) (samples : Nat), (s.md.mode ∈ operating) ∧ (faultLoggedOnly s r.val = false) ∧
    ((rail s r.val).en = true) ∧ (servedWithin s Mech.rail (r.val) (ticksS 600) = false) ∧ (Machine.get s (8448 + r.val) 9 = 2) ∧
    (sideActs s (r.val) (windowSide s (r.val) 5 v) = true) ∧ (Machine.get s (8448 + r.val) 7 ≤ samples)) ∧
  (∃ (s : Machine.State) (r : Fin 16) (v : Nat) (samples : Nat), (s.md.mode ∈ operating) ∧ (faultLoggedOnly s r.val = false) ∧
    ((rail s r.val).en = true) ∧ (servedWithin s Mech.rail (r.val) (ticksS 600) = false) ∧ (Machine.get s (8448 + r.val) 9 = 1) ∧
    (sideActs s (r.val) (windowSide s (r.val) 5 v) = true) ∧ (Machine.get s (8448 + r.val) 7 ≤ samples)) ∧
  (∃ (s : Machine.State) (r : Fin 16) (v : Nat) (samples : Nat), (s.md.mode ∈ operating) ∧ (faultLoggedOnly s r.val = false) ∧
    ((rail s r.val).en = true) ∧ (servedWithin s Mech.rail (r.val) (ticksS 600) = false) ∧ (Machine.get s (8448 + r.val) 9 ≠ 1) ∧
    (Machine.get s (8448 + r.val) 9 ≠ 2) ∧ (sideActs s (r.val) (windowSide s (r.val) 5 v) = true) ∧ (Machine.get s (8448 + r.val) 7 ≤ samples)) ∧
  (∃ (s : Machine.State) (r : Fin 16) (v : Nat) (samples : Nat), (sideActs s (r.val) (windowSide s (r.val) 5 v) = false ∨ samples < Machine.get s (8448 + r.val) 7)) :=
  ⟨⟨B.st 46, 0, 1, by decide +kernel⟩,
   ⟨B.st 51, 0, 1, by decide +kernel⟩,
   ⟨B.st 47, 0, 0, 16, 1, by decide +kernel⟩,
   ⟨B.st 0, 0, 0, 0, by decide +kernel⟩,
   ⟨B.st 75, by decide +kernel⟩,
   ⟨B.st 47, 0, by decide +kernel⟩,
   ⟨B.st 61, 0, 0, 300, by decide +kernel⟩,
   ⟨B.st 59, 0, 0, 300, by decide +kernel⟩,
   ⟨B.st 57, 0, 0, 300, by decide +kernel⟩,
   ⟨B.st 0, 0, 0, 0, by decide +kernel⟩⟩

theorem witness_RailWarningLogged :
  (∃ (s : Machine.State) (r : Fin 16) (v : Nat) (samples : Nat), (s.log.ready = true) ∧ (sideActs s (r.val) (windowSide s (r.val) 6 v) = true) ∧
    (Machine.get s (8448 + r.val) 8 ≤ samples)) ∧
  (∃ (s : Machine.State) (r : Fin 16) (v : Nat) (samples : Nat), (Machine.get s (8448 + r.val) 12 ≠ 0) ∧
    (sideActs s (r.val) (windowSide s (r.val) 6 v) = true) ∧ (Machine.get s (8448 + r.val) 8 ≤ samples)) ∧
  (∃ (s : Machine.State) (r : Fin 16) (v : Nat) (samples : Nat), (Machine.get s (8448 + r.val) 12 = 0) ∧
    (sideActs s (r.val) (windowSide s (r.val) 6 v) = true) ∧ (Machine.get s (8448 + r.val) 8 ≤ samples)) ∧
  (∃ (s : Machine.State) (r : Fin 16) (v : Nat) (samples : Nat) (k : Nat), (sideActs s (r.val) (windowSide s (r.val) 6 v) = true) ∧
    (Machine.get s (8448 + r.val) 8 ≤ samples) ∧ (k ≠ r.val)) :=
  ⟨⟨B.st 57, 0, 0, (400), by decide +kernel⟩,
   ⟨B.st 58, 0, 0, (400), by decide +kernel⟩,
   ⟨B.st 57, 0, 0, (400), by decide +kernel⟩,
   ⟨B.st 57, 0, 0, (400), 1, by decide +kernel⟩⟩

theorem witness_OffAndDoze :
  (∃ (s : Machine.State), (s.seq.why = OffReason.railReset) ∧ (s.seq.state ≠ 0) ∧ (s.seq.state ≠ 3) ∧ (s.reset_.running = false)) ∧
  (∃ (s : Machine.State) (m : Nat), (s.md.mode = Mode.shutdown) ∧ (s.hold = Hold.none) ∧ (s.md.offStarted = false) ∧ (mayStartOff s = true) ∧
    (m < 12)) ∧
  (∃ (s : Machine.State), (mayStartOff s = false)) ∧
  (∃ (s : Machine.State), (s.md.mode = Mode.shutdown) ∧ (s.hold = Hold.none) ∧ (s.md.offStarted = true) ∧ (anyRailOn s = false) ∧
    (s.kick.wakeHeld = false)) ∧
  (∃ (s : Machine.State), (s.md.mode = Mode.shutdown) ∧ (s.hold = Hold.none) ∧ (s.md.offEnded = false)) ∧
  (∃ (s : Machine.State), (s.md.dozing = true) ∧ (s.md.mode = Mode.standby)) ∧
  (∃ (s : Machine.State), (s.md.mode = Mode.doze) ∧ (s.md.waking = false) ∧ (endpointUp s = true)) ∧
  (∃ (s : Machine.State), (s.md.mode = Mode.doze) ∧ (s.md.waking = true) ∧ (s.seq.state = 1) ∧ (s.seq.dozeRails = true) ∧ (dozeRailsUp s = true) ∧
    (∀ (p : Nat), p < 7 → (port s p).rx = [])) :=
  ⟨⟨B.st 76, by decide +kernel⟩,
   ⟨B.st 13, 0, by decide +kernel⟩,
   ⟨B.ex 2, by decide +kernel⟩,
   ⟨B.st 29, by decide +kernel⟩,
   ⟨B.st 13, by decide +kernel⟩,
   ⟨B.st 40, by decide +kernel⟩,
   ⟨C.st 9, by decide +kernel⟩,
   ⟨B.st 41, by decide +kernel⟩⟩

theorem witness_TerpAndDebug :
  (∃ (s : Machine.State) (acc : Accessor) (d : List Byte), (answering s = true) ∧ (s.md.mode = Mode.terp) ∧ (writeCode s acc 8256 2 d = 0)) ∧
  (∃ (s : Machine.State) (acc : Accessor) (d : List Byte) (k : Nat), (answering s = true) ∧ (writeCode s acc 10000 2 d = 0) ∧ (k ≠ keyOf 10000 2)) ∧
  (∃ (s : Machine.State), (answering s = true) ∧ (Machine.get s 10000 1 = 1 ∨ Machine.get s 10000 1 = 2)) :=
  ⟨⟨B.st 3, .pf0, ([1]), by decide +kernel⟩,
   ⟨B.st 10, .pf0, (List.replicate 32 7), 0, by decide +kernel⟩,
   ⟨B.st 43, by decide +kernel⟩⟩

theorem witness_ModeRows :
  (∃ (s : Machine.State), (s.md.mode = Mode.ready) ∧ (anyAdmitted s = true)) ∧
  (∃ (s : Machine.State), (s.md.mode = Mode.rally) ∧ (anyOnPath s = false)) ∧
  (∃ (s : Machine.State), (s.md.mode = Mode.runout) ∧ (anyOnPath s = false)) ∧
  (∃ (s : Machine.State), (sheetRow s = none)) ∧
  (∃ (s : Machine.State), (∀ (sh : Sheet), sh ∈ s.sheets → sh.waiting = false)) ∧
  (∃ (s : Machine.State), (s.md.mode = Mode.warmup) ∧ (warmedUp s = true)) ∧
  (∃ (s : Machine.State), (s.md.mode = Mode.ready) ∧ (s.md.pending = none) ∧ (Machine.get s 8192 9 ≠ 0) ∧
    (∀ (sh : Sheet), sh ∈ s.sheets → sh.resident = false ∧ sh.admitted = false)) ∧
  (∃ (s : Machine.State), (s.md.mode = Mode.standby) ∧ (s.md.dozing = false) ∧ (s.md.pending = none) ∧ (Machine.get s 8192 10 ≠ 0) ∧
    (∀ (sh : Sheet), sh ∈ s.sheets → sh.queued = false)) ∧
  (∃ (s : Machine.State), (s.md.mode = Mode.calibrate)) ∧
  (∃ (s : Machine.State), (s.md.mode ≠ Mode.rally) ∧ (s.md.mode ≠ Mode.runout) ∧ (s.md.dozing = false) ∧ (s.md.waking = false) ∧
    (s.md.entering = false) ∧ (s.md.mode ≠ Mode.doze) ∧
    (s.md.pending).any (fun p => decide ((routeStep s.md.mode p).any (fun q => decide ((q ≠ Mode.doze))) = true)) = true) :=
  ⟨⟨C.st 12, by decide +kernel⟩,
   ⟨C.st 5, by decide +kernel⟩,
   ⟨C.st 6, by decide +kernel⟩,
   ⟨C.st 0, by decide +kernel⟩,
   ⟨C.st 0, by decide +kernel⟩,
   ⟨C.ex 0, by decide +kernel⟩,
   ⟨C.st 4, by decide +kernel⟩,
   ⟨C.st 26, by decide +kernel⟩,
   ⟨C.st 7, by decide +kernel⟩,
   ⟨C.st 19, by decide +kernel⟩⟩

theorem witness_ModesAsked :
  (∃ (s : Machine.State) (acc : Accessor) (d : List Byte), (answering s = true) ∧ (¬s.md.mode ∈ [Mode.kickoff, Mode.terp, Mode.shutdown]) ∧
    (writeCode s acc 8192 2 d = 0) ∧ (modeOfCode (ofLe d)).any (fun p => decide ((p = Mode.safestop))) = true) ∧
  (∃ (s : Machine.State) (acc : Accessor) (d : List Byte), (answering s = true) ∧ (s.md.mode = Mode.rally) ∧ (writeCode s acc 8192 2 d = 0) ∧
    (modeOfCode (ofLe d)).any (fun p => decide ((p ≠ Mode.safestop))) = true) ∧
  (∃ (s : Machine.State) (acc : Accessor) (d : List Byte), (answering s = true) ∧ (s.md.mode = Mode.safestop) ∧ (s.md.entering = true) ∧
    (writeCode s acc 8192 2 d = 0) ∧ (modeOfCode (ofLe d)).any (fun p => decide ((p ≠ Mode.safestop))) = true) ∧
  (∃ (s : Machine.State) (acc : Accessor) (d : List Byte), (answering s = true) ∧ (¬s.md.mode ∈ [Mode.rally, Mode.runout, Mode.doze]) ∧
    (s.md.entering = false) ∧ (s.md.waking = false) ∧ (s.md.pending = none) ∧ (writeCode s acc 8192 2 d = 0) ∧
    (modeOfCode (ofLe d)).any (fun p => decide ((p ≠ Mode.safestop) ∧ (p ≠ Mode.doze))) = true) ∧
  (∃ (s : Machine.State) (acc : Accessor) (d : List Byte), (answering s = true) ∧ (s.md.mode = Mode.standby) ∧ (s.md.entering = false) ∧
    (s.md.waking = false) ∧ (s.md.pending = none) ∧ (writeCode s acc 8192 2 d = 0) ∧
    (modeOfCode (ofLe d)).any (fun p => decide ((p = Mode.doze))) = true) ∧
  (∃ (s : Machine.State) (acc : Accessor) (d : List Byte), (answering s = true) ∧ (s.md.mode = Mode.doze) ∧ (s.md.waking = false) ∧
    (s.md.entering = false) ∧ (s.md.pending = none) ∧ (writeCode s acc 8192 2 d = 0) ∧
    (modeOfCode (ofLe d)).any (fun p => decide ((p = Mode.standby))) = true) ∧
  (∃ (s : Machine.State) (acc : Accessor) (d : List Byte), (answering s = true) ∧ (writeCode s acc 8192 12 d = 0) ∧ (ofLe d ≠ 0)) ∧
  (∃ (s : Machine.State) (acc : Accessor) (d : List Byte), (answering s = true) ∧ (writeCode s acc 8192 12 d = 0) ∧ (ofLe d = 0)) :=
  ⟨⟨C.st 2, .pf0, [10], by decide +kernel⟩,
   ⟨C.st 5, .pf0, [2], by decide +kernel⟩,
   ⟨C.st 21, .pf0, [11], by decide +kernel⟩,
   ⟨C.st 1, .pf0, [11], by decide +kernel⟩,
   ⟨C.st 2, .pf0, [9], by decide +kernel⟩,
   ⟨C.st 9, .pf0, [2], by decide +kernel⟩,
   ⟨C.st 1, .pf0, [1], by decide +kernel⟩,
   ⟨C.st 1, .pf0, [0], by decide +kernel⟩⟩

theorem witness_SafestopAcknowledged :
  (∃ (s : Machine.State) (acc : Accessor), (answering s = true) ∧ (s.md.mode ≠ Mode.safestop) ∧ (reachCode s acc true 8192 11 = 0)) ∧
  (∃ (s : Machine.State) (acc : Accessor), (answering s = true) ∧ (s.md.mode = Mode.safestop) ∧ (anyCause s = true) ∧
    (reachCode s acc true 8192 11 = 0)) ∧
  (∃ (s : Machine.State) (acc : Accessor), (answering s = true) ∧ (s.md.mode = Mode.safestop) ∧ (anyCause s = false) ∧ (s.md.entering = false) ∧
    (reachCode s acc true 8192 11 = 0)) ∧
  (∃ (s : Machine.State) (acc : Accessor), (answering s = true) ∧ (s.md.mode = Mode.safestop) ∧ (anyCause s = false) ∧ (s.md.entering = true) ∧
    (reachCode s acc true 8192 11 = 0)) ∧
  (∃ (s : Machine.State) (acc : Accessor), (answering s = true) ∧ (s.md.mode = Mode.safestop) ∧ (s.md.entering = true) ∧ (s.md.ackHeld = true) ∧
    (s.md.pending ≠ some Mode.shutdown) ∧ (reachCode s acc true 8192 11 = 0)) :=
  ⟨⟨C.st 1, .pf0, by decide +kernel⟩,
   ⟨C.st 23, .pf0, by decide +kernel⟩,
   ⟨C.st 10, .pf0, by decide +kernel⟩,
   ⟨C.st 21, .pf0, by decide +kernel⟩,
   ⟨C.st 22, .pf0, by decide +kernel⟩⟩

theorem witness_SafestopWorks :
  (∃ (s : Machine.State) (a : Nat), (s.powered = true) ∧ (s.pins.ilockOpen = false) ∧
    (s.md.mode ∈ [Mode.kickoff, Mode.terp, Mode.safestop, Mode.shutdown]) ∧ (a < 16)) ∧
  (∃ (s : Machine.State) (m : Nat), (s.powered = true) ∧ (s.pins.ilockOpen = false) ∧
    (s.md.mode ∈ [Mode.kickoff, Mode.terp, Mode.safestop, Mode.shutdown]) ∧ (m < 12)) ∧
  (∃ (s : Machine.State) (a : Nat), (s.powered = true) ∧
    (s.md.mode ∈ [Mode.standby, Mode.warmup, Mode.ready, Mode.rally, Mode.runout, Mode.calibrate, Mode.service, Mode.doze]) ∧
    (s.pins.ilockOpen = false) ∧ (a < 16)) ∧
  (∃ (s : Machine.State) (m : Nat), (s.powered = true) ∧
    (s.md.mode ∈ [Mode.standby, Mode.warmup, Mode.ready, Mode.rally, Mode.runout, Mode.calibrate, Mode.service, Mode.doze]) ∧
    (s.pins.ilockOpen = false) ∧ (m < 12)) ∧
  (∃ (s : Machine.State) (n : Nat), (s.powered = true) ∧
    (s.md.mode ∈ [Mode.standby, Mode.warmup, Mode.ready, Mode.rally, Mode.runout, Mode.calibrate, Mode.service, Mode.doze]) ∧
    (s.pins.ilockOpen = false) ∧ (n < 48)) ∧
  (∃ (s : Machine.State) (a : Nat), (s.powered = true) ∧
    (s.md.mode ∈ [Mode.standby, Mode.warmup, Mode.ready, Mode.rally, Mode.runout, Mode.calibrate, Mode.service, Mode.doze]) ∧
    (s.pins.safeMismatch = false) ∧ (a < 16)) ∧
  (∃ (s : Machine.State) (m : Nat), (s.powered = true) ∧
    (s.md.mode ∈ [Mode.standby, Mode.warmup, Mode.ready, Mode.rally, Mode.runout, Mode.calibrate, Mode.service, Mode.doze]) ∧
    (s.pins.safeMismatch = false) ∧ (m < 12)) ∧
  (∃ (s : Machine.State) (n : Nat), (s.powered = true) ∧
    (s.md.mode ∈ [Mode.standby, Mode.warmup, Mode.ready, Mode.rally, Mode.runout, Mode.calibrate, Mode.service, Mode.doze]) ∧
    (s.pins.safeMismatch = false) ∧ (n < 48)) ∧
  (∃ (s : Machine.State), (s.md.mode = Mode.safestop) ∧ (s.md.entering = true) ∧ (s.md.ackHeld = false) ∧ (s.md.pending ≠ some Mode.shutdown)) :=
  ⟨⟨C.st 0, 15, by decide +kernel⟩, ⟨C.st 0, 11, by decide +kernel⟩,
   by refine ⟨C.st 2, 15, ?_⟩; decide +kernel, by refine ⟨C.st 2, 11, ?_⟩; decide +kernel,
   ⟨C.st 2, 47, by decide +kernel⟩, ⟨C.st 2, 0, by decide +kernel⟩,
   by refine ⟨C.st 2, 0, ?_⟩; decide +kernel, ⟨C.st 2, 24, by decide +kernel⟩,
   ⟨C.st 21, by decide +kernel⟩⟩

theorem witness_AccessesAct :
  (∃ (s : Machine.State) (c : Instr) (acc : Accessor) (idx : Nat) (sub : Nat) (d : List Byte), (answering s = true) ∧
    (writeOf c = some (acc, idx, sub, d)) ∧ (writeCode s acc idx sub d ≠ 0)) ∧
  (∃ (s : Machine.State) (c : Instr) (acc : Accessor) (idx : Nat) (sub : Nat) (d : List Byte), (answering s = false) ∧
    (writeOf c = some (acc, idx, sub, d))) ∧
  (∃ (s : Machine.State) (c : Instr) (acc : Accessor) (idx : Nat) (sub : Nat) (d : List Byte), (answering s = true) ∧ (idx ≠ 9984 ∨ sub ≠ 1) ∧
    (writeOf c = some (acc, idx, sub, d)) ∧ (writeCode s acc idx sub d = 0)) ∧
  (∃ (s : Machine.State) (acc : Accessor) (idx : Nat) (sub : Nat) (d : List Byte), (answering s = true) ∧ (idx = 8192 ∧
    ¬sub ∈ [2, 11, 12] ∨ 20480 ≤ idx ∧ idx < 20544 ∧ ¬sub ∈ [2, 3]) ∧ ((writeRow idx sub).cls ≠ Class.rws) ∧ ((writeRow idx sub).ty ≠ Ty.blob) ∧
    (writeCode s acc idx sub d = 0)) ∧
  (∃ (s : Machine.State) (acc : Accessor) (idx : Nat) (sub : Nat) (d : List Byte) (k : Nat), (answering s = true) ∧ (viewOf idx = (idx, false)) ∧
    ((writeRow idx sub).cls = Class.rws) ∧ ((writeRow idx sub).ty ≠ Ty.blob) ∧ (writeCode s acc idx sub d = 0) ∧ (k ≠ keyOf idx sub)) ∧
  (∃ (s : Machine.State) (acc : Accessor) (idx : Nat) (sub : Nat), (answering s = true) ∧ (readCode s acc idx sub ≠ 0)) ∧
  (∃ (s : Machine.State) (acc : Accessor) (idx : Nat) (sub : Nat), (answering s = true) ∧ (viewOf idx = (idx, false)) ∧ (idx ≠ 9232) ∧ (idx ≠ 9248) ∧
    (isLogIdx idx = false) ∧ (readCode s acc idx sub = 0) ∧ (latchOf idx sub = none) ∧ (sub ≠ 0) ∧ ((writeRow idx sub).rc = true)) :=
  ⟨⟨C.st 1, (.modeRequest .pf0 [1]), .pf0, (0x2000), (2), ([1]), by decide +kernel⟩,
   ⟨C.st 0, (.modeRequest .pf0 [1]), .pf0, (0x2000), (2), ([1]), by decide +kernel⟩,
   ⟨C.st 1, (.objectWrite .pf0 0x2000 9 [5, 0]), .pf0, (0x2000), (9), ([5, 0]), by decide +kernel⟩,
   ⟨C.st 1, .pf0, (0x2000), (9), ([5, 0]), by decide +kernel⟩,
   ⟨C.st 2, .pf0, (0x2100), (4), ([5, 0, 0, 0]), 0, by decide +kernel⟩,
   ⟨C.st 1, .pf0, (0x2000), (2), by decide +kernel⟩,
   ⟨C.st 2, .pf0, (0x2100), (16), by decide +kernel⟩⟩

theorem witness_ThresholdWritten :
  (∃ (s : Machine.State) (acc : Accessor) (idx : Nat) (sub : Nat) (d : List Byte), (answering s = true) ∧ (writeCode s acc idx sub d = 0) ∧
    (thresholdOf idx sub).any (fun p => decide ((beyond p.snd (ofLe d) (watched s idx p.fst) = true))) = true) := ⟨C.st 2, .pf0, (0x3011), (5), ([1, 0]), by decide +kernel⟩

theorem witness_LatchReadClears :
  (∃ (s : Machine.State) (acc : Accessor) (idx : Nat) (sub : Nat), (answering s = true) ∧ (readCode s acc idx sub = 0) ∧
    (latchOf idx sub).any (fun _ => true) = true) := ⟨C.st 2, .pf0, (0x2520), (3), by decide +kernel⟩

theorem witness_LogKept :
  (∃ (s : Machine.State) (acc : Accessor) (a : Accessor), (answering s = true) ∧ (readCode s acc 9232 1 = 0) ∧ (a ≠ acc)) ∧
  (∃ (s : Machine.State) (acc : Accessor), (answering s = true) ∧ (readCode s acc 9232 1 = 0) ∧
    ((logEntries s acc).getLast?).any (fun _ => true) = true) ∧
  (∃ (s : Machine.State) (acc : Accessor), (answering s = true) ∧ (readCode s acc 9248 1 = 0)) ∧
  (∃ (s : Machine.State), (mayErase s = false)) ∧
  (∃ (s : Machine.State) (k : Nat), (mayErase s = true) ∧ (s.log.pending.length ≤ 64) ∧ (k ≠ oldestSector s.log)) :=
  ⟨⟨C.st 1, .pf0, .partner 5, by decide +kernel⟩,
   ⟨C.st 34, .pf0, by decide +kernel⟩,
   ⟨C.st 1, .pf0, by decide +kernel⟩,
   ⟨C.st 0, by decide +kernel⟩,
   ⟨M.st 25, 1, by decide +kernel⟩⟩

theorem witness_GroupsAct :
  (∃ (s : Machine.State) (acc : Accessor) (d : List Byte), (answering s = true) ∧ ((applyGroups s acc).length = 1) ∧ (writeCode s acc 9984 1 d = 0) ∧
    (applyGroups s acc).any (fun g => decide ((g ≤ 20) ∧ (groupCheck s g = 0) ∧ (deferredGroup g = false) ∧ (g ∈ [0, 14, 15, 16, 18, 19]))) = true) ∧
  (∃ (s : Machine.State) (acc : Accessor) (d : List Byte) (k : Nat), (answering s = true) ∧ (tabSorted s.staged = true) ∧
    ((applyGroups s acc).length = 1) ∧ (writeCode s acc 9984 1 d = 0) ∧ (applyGroups s acc).any (fun g => decide ((g ≤ 20) ∧ (groupCheck s g = 0) ∧
    (deferredGroup g = false) ∧ (g ∈ [0, 14, 15, 16, 18, 19]) ∧ (inGroup g k = true) ∧ (tabFind s.staged k).any (fun _ => true) = true)) = true) ∧
  (∃ (s : Machine.State) (acc : Accessor) (d : List Byte), (answering s = true) ∧ ((applyGroups s acc).length = 1) ∧ (writeCode s acc 9984 1 d = 0) ∧
    (applyGroups s acc).any (fun g => decide ((g ≤ 20) ∧ (groupCheck s g = 0) ∧ (deferredGroup g = true) ∧ (g = 13 ∨ anyOnPath s = true))) = true) ∧
  (∃ (s : Machine.State) (acc : Accessor) (d : List Byte), (answering s = true) ∧ (anyOnPath s = false) ∧ ((applyGroups s acc).length = 1) ∧
    (writeCode s acc 9984 1 d = 0) ∧ (applyGroups s acc).any (fun g => decide ((g ≤ 20) ∧ (groupCheck s g = 0) ∧ (deferredGroup g = true) ∧
    (g ≠ 13))) = true) ∧
  (∃ (s : Machine.State) (acc : Accessor) (d : List Byte) (k : Nat), (answering s = true) ∧ ((applyGroups s acc).length = 1) ∧
    (writeCode s acc 9984 1 d = 0) ∧ (applyGroups s acc).any (fun g => decide ((g ≤ 20) ∧ (groupCheck s g ≠ 0) ∧ (inGroup g k = true) ∧
    (k / 256 ≠ 9984))) = true) ∧
  (∃ (s : Machine.State) (acc : Accessor) (d : List Byte), (answering s = true) ∧ (applyGroups s acc = []) ∧ (writeCode s acc 9984 1 d = 0)) ∧
  (∃ (s : Machine.State) (acc : Accessor) (d : List Byte) (g : Nat), (answering s = true) ∧ (applyGroups s acc ≠ []) ∧ (writeCode s acc 9984 1 d = 0) ∧
    (g ≤ 20) ∧ (¬g ∈ applyGroups s acc)) ∧
  (∃ (s : Machine.State) (acc : Accessor) (d : List Byte), (answering s = true) ∧ (writeCode s acc 9984 2 d = 0) ∧ (ofLe d ≤ 20) ∧
    ((stagerOf s (ofLe d)).isSome = true)) ∧
  (∃ (s : Machine.State) (acc : Accessor) (d : List Byte), (answering s = true) ∧ (writeCode s acc 9984 2 d = 0) ∧ (ofLe d ≤ 20) ∧
    (stagerOf s (ofLe d) = none)) ∧
  (∃ (s : Machine.State) (acc : Accessor) (d : List Byte) (g : Nat), (answering s = true) ∧ (writeCode s acc 9984 2 d = 0) ∧ (ofLe d = 255) ∧
    ((g, acc) ∈ s.stagers) ∧ (s.armed.contains g = false)) ∧
  (∃ (s : Machine.State) (g : Fin 21), (s.armed.contains g.val = false ∨ g.val = 0 ∨ 12 < g.val ∨ atBoundary s (groupStation g.val) = false)) ∧
  (∃ (s : Machine.State) (g : Fin 21), (s.armed.contains g.val = true) ∧ (1 ≤ g.val) ∧ (g.val ≤ 12) ∧ (atBoundary s (groupStation g.val) = true) ∧
    (groupCheck s g.val = 0)) ∧
  (∃ (s : Machine.State) (g : Fin 21) (k : Nat), (s.armed.contains g.val = true) ∧ (1 ≤ g.val) ∧ (g.val ≤ 12) ∧
    (atBoundary s (groupStation g.val) = true) ∧ (groupCheck s g.val ≠ 0) ∧ (inGroup (g.val) k = true) ∧ (k / 256 ≠ 9984)) ∧
  (∃ (s : Machine.State) (g : Fin 21), (s.log.ready = true) ∧ (s.armed.contains g.val = true) ∧ (1 ≤ g.val) ∧ (g.val ≤ 12) ∧
    (atBoundary s (groupStation g.val) = true) ∧ (groupCheck s g.val ≠ 0)) ∧
  (∃ (s : Machine.State) (ip : Nat) (port : Nat) (g : Nat) (k : Nat), ((g, Accessor.anon ip port) ∈ s.stagers) ∧ (s.armed.contains g = false) ∧
    (groupOf (k / 256) = g)) :=
  ⟨⟨C.st 29, (.pf0), ([1]), by decide +kernel⟩,
   ⟨C.st 29, (.pf0), ([1]), (keyOf 0x2100 5), by decide +kernel⟩,
   ⟨C.ex 6, (.pf0), ([1]), by decide +kernel⟩,
   ⟨C.ex 5, (.pf0), ([1]), by decide +kernel⟩,
   ⟨C.st 30, (.pf0), ([1]), (keyOf 0x2100 5), by decide +kernel⟩,
   ⟨C.st 2, (.pf0), ([1]), by decide +kernel⟩,
   ⟨C.st 29, (.pf0), ([1]), (0), by decide +kernel⟩,
   ⟨C.st 29, (.pf0), ([14]), by decide +kernel⟩,
   ⟨C.st 2, (.pf0), ([1]), by decide +kernel⟩,
   ⟨C.st 29, (.pf0), ([255]), (14), by decide +kernel⟩,
   ⟨C.st 0, 0, by decide +kernel⟩,
   ⟨C.st 32, 5, by decide +kernel⟩,
   ⟨C.st 32, 1, (keyOf 0x3000 1), by decide +kernel⟩,
   ⟨C.st 32, 1, by decide +kernel⟩,
   ⟨C.st 31, (5), (7), (14), (keyOf 0x2100 5), by decide +kernel⟩⟩

theorem witness_Relocks :
  (∃ (s : Machine.State) (acc : Accessor) (d : List Byte) (n : Nat), (answering s = true) ∧ (s.clk.relock = none) ∧ (s.clk.refLost = false) ∧
    (writeCode s acc 8704 2 d = 0) ∧ (n < stationCount s)) ∧
  (∃ (s : Machine.State) (acc : Accessor) (d : List Byte), (answering s = true) ∧ (s.clk.relock = none) ∧ (s.clk.refLost = false) ∧
    (s.armed.contains 13 = false) ∧ (writeCode s acc 8704 2 d = 0)) ∧
  (∃ (s : Machine.State) (acc : Accessor) (d : List Byte), (answering s = true) ∧ (s.clk.relock = none) ∧ (s.clk.refLost = false) ∧
    (s.md.mode = Mode.ready) ∧ (writeCode s acc 8704 2 d = 0)) ∧
  (∃ (s : Machine.State) (acc : Accessor) (d : List Byte), (answering s = true) ∧ (s.clk.relock.isSome = true) ∧ (writeCode s acc 8704 2 d = 0)) ∧
  (∃ (s : Machine.State) (acc : Accessor) (d : List Byte), (answering s = true) ∧ (s.clk.refLost = true) ∧ (writeCode s acc 8704 2 d = 0)) ∧
  (∃ (s : Machine.State), (s.clk.refLost = false) ∧ (s.clk.relock.isSome = true) ∧ (Machine.get s 8704 3 = 1)) ∧
  (∃ (s : Machine.State), (s.clk.refLost = false) ∧ (s.clk.relock.isSome = true) ∧ (Machine.get s 8704 3 = 2)) ∧
  (∃ (s : Machine.State) (count : Nat) (n : Nat), (s.clk.refLost = false) ∧ (s.clk.relock.isSome = true) ∧ (Machine.get s 8704 3 = 3) ∧
    (s.clk.gateOpen = false) ∧ (countFits s count = true) ∧ (n < stationCount s)) ∧
  (∃ (s : Machine.State) (n : Fin 6), (s.clk.gateOpen = true) ∧ (¬s.md.mode ∈ [Mode.doze, Mode.shutdown]) ∧ (present s n.val = true) ∧
    (Machine.get s 8752 (n.val + 1) = 1) ∧ (∀ (k : Nat), k < stationCount s → k ≠ n.val → Machine.get s 8752 (k + 1) = 2) ∧
    (s.clk.relock).any (fun _ => true) = true) ∧
  (∃ (s : Machine.State) (n : Fin 6), (s.clk.gateOpen = true) ∧ (¬s.md.mode ∈ [Mode.doze, Mode.shutdown]) ∧ (s.clk.relock = none) ∧
    (present s n.val = true) ∧ (Machine.get s 8752 (n.val + 1) = 1)) ∧
  (∃ (s : Machine.State) (n : Nat), (s.clk.refLost = false) ∧ (Machine.get s 8704 3 = 1) ∧ (s.clk.relock).any (fun r => decide ((r.attempt = 1) ∧
    (n < stationCount s))) = true) ∧
  (∃ (s : Machine.State) (n : Nat), (s.clk.refLost = false) ∧ (Machine.get s 8704 3 = 2) ∧ (s.clk.relock).any (fun r => decide ((r.attempt = 1) ∧
    (n < stationCount s))) = true) ∧
  (∃ (s : Machine.State) (count : Nat) (n : Nat), (s.clk.refLost = false) ∧ (Machine.get s 8704 3 = 3) ∧ (s.clk.gateOpen = false) ∧
    (s.clk.relock).any (fun r => decide ((r.attempt = 1) ∧ (countFits s count = false) ∧ (n < stationCount s))) = true) ∧
  (∃ (s : Machine.State) (n : Nat), (s.clk.refLost = false) ∧ (s.clk.gateOpen = true) ∧ (s.md.mode = Mode.kickoff) ∧
    (s.clk.relock).any (fun r => decide ((r.attempt = 1) ∧ (n < stationCount s))) = true) ∧
  (∃ (s : Machine.State), (s.clk.refLost = false) ∧ (Machine.get s 8704 3 = 1) ∧ (s.clk.relock).any (fun r => decide ((r.attempt = 2) ∧
    (r.taken = true) ∧ (∀ (p : Nat × Nat), p ∈ r.previous → bandKey p.fst = true))) = true) ∧
  (∃ (s : Machine.State), (s.clk.refLost = false) ∧ (Machine.get s 8704 3 = 1) ∧ (s.md.mode ∈ operating) ∧
    (s.clk.relock).any (fun r => decide ((r.attempt = 2 ∧ r.taken = false ∨ r.attempt = 3) ∧ (r.occasion ≠ Occasion.kickoff))) = true) :=
  ⟨⟨D.st 2, .pf0, [1], 0, by decide +kernel⟩,
   ⟨D.st 2, .pf0, [1], by decide +kernel⟩,
   ⟨D.st 4, .pf0, [1], by decide +kernel⟩,
   ⟨D.st 8, .pf0, [1], by decide +kernel⟩,
   ⟨D.st 50, .pf0, [1], by decide +kernel⟩,
   ⟨D.st 8, by decide +kernel⟩,
   ⟨D.st 16, by decide +kernel⟩,
   ⟨D.st 25, (30000), 0, by decide +kernel⟩,
   ⟨D.st 8, 0, by decide +kernel⟩,
   ⟨D.st 51, 0, by decide +kernel⟩,
   ⟨D.st 8, 0, by decide +kernel⟩,
   ⟨D.st 16, 0, by decide +kernel⟩,
   ⟨D.st 25, (0), 0, by decide +kernel⟩,
   ⟨D.ex 0, 0, by decide +kernel⟩,
   ⟨D.st 10, by decide +kernel⟩,
   ⟨D.st 12, by decide +kernel⟩⟩

theorem witness_ClockFaults :
  (∃ (s : Machine.State), (s.md.mode ∈ operating) ∧ (s.clk.refLost = false) ∧ (s.clk.relock = none) ∧ (Machine.get s 8704 3 = 4) ∧
    ((serving s Mech.timebase 255 || servedWithin s Mech.timebase 255 (ticksS 600)) = false)) ∧
  (∃ (s : Machine.State), (s.md.mode ∈ operating) ∧ (s.clk.refLost = false) ∧ (s.clk.relock = none) ∧ (Machine.get s 8704 3 = 4) ∧
    ((serving s Mech.timebase 255 || servedWithin s Mech.timebase 255 (ticksS 600)) = true)) ∧
  (∃ (s : Machine.State), (s.md.mode ∈ operating) ∧ (s.clk.refLost = false) ∧ (s.clk.gateOpen = true) ∧
    ((serving s Mech.timebase 255 || servedWithin s Mech.timebase 255 (ticksS 600)) = false)) ∧
  (∃ (s : Machine.State), (s.md.mode ∈ operating) ∧ (s.clk.refLost = false) ∧ (s.clk.gateOpen = true) ∧
    ((serving s Mech.timebase 255 || servedWithin s Mech.timebase 255 (ticksS 600)) = true)) ∧
  (∃ (s : Machine.State), (s.md.mode ∈ operating) ∧ (refWatched s = true) ∧ (s.clk.refLost = false)) ∧
  (∃ (s : Machine.State), (s.clk.refLost = true) ∧ (s.reset_.running = false)) ∧
  (∃ (s : Machine.State) (n : Fin 6), (present s n.val = true) ∧ (Machine.get s 8752 (n.val + 1) = 2) ∧
    (servedWithin s Mech.dll (n.val) (ticksS 1) = false)) ∧
  (∃ (s : Machine.State) (n : Fin 6), (s.md.mode ∈ operating) ∧ (present s n.val = true) ∧ (Machine.get s 8752 (n.val + 1) = 2) ∧
    (servedWithin s Mech.dll (n.val) (ticksS 1) = true)) ∧
  (∃ (s : Machine.State) (n : Fin 6), (s.md.mode ∈ operating) ∧ (serving s Mech.dll n.val = true) ∧ (Machine.get s 8752 (n.val + 1) = 1)) :=
  ⟨⟨D.st 41, by decide +kernel⟩,
   ⟨D.st 40, by decide +kernel⟩,
   ⟨D.st 2, by decide +kernel⟩,
   ⟨D.st 40, by decide +kernel⟩,
   ⟨D.st 2, by decide +kernel⟩,
   ⟨D.st 50, by decide +kernel⟩,
   ⟨D.st 8, 1, by decide +kernel⟩,
   ⟨D.st 40, 0, by decide +kernel⟩,
   ⟨D.st 51, 0, by decide +kernel⟩⟩

theorem witness_FramesTaken :
  (∃ (s : Machine.State) (c : Instr), (pduOf c).any (fun p => decide ((portLive s p.fst.p = false))) = true) ∧
  (∃ (s : Machine.State) (c : Instr), (pduOf c).any (fun p => decide ((portLive s p.fst.p = true) ∧ (fits s p.fst p.snd = false))) = true) ∧
  (∃ (s : Machine.State) (c : Instr), (pduOf c).any (fun p => decide ((portLive s p.fst.p = true) ∧ (fits s p.fst p.snd = true) ∧
    (256 ≤ (port s p.fst.p).rx.length))) = true) ∧
  (∃ (s : Machine.State) (c : Instr), (s.md.mode = Mode.doze) ∧ (s.md.waking = false) ∧ (pduOf c).any (fun p => decide ((portLive s p.fst.p = true) ∧
    (fits s p.fst p.snd = true) ∧ ((port s p.fst.p).rx.length < 256))) = true) ∧
  (∃ (s : Machine.State) (c : Instr), (serves s = true) ∧ (pduOf c).any (fun p => decide ((portLive s p.fst.p = true) ∧ (fits s p.fst p.snd = true) ∧
    ((port s p.fst.p).rx = []) ∧ (waits (arrived s p.fst p.snd) p.fst p.snd = false))) = true) ∧
  (∃ (s : Machine.State) (c : Instr), (serves s = true) ∧ (pduOf c).any (fun p => decide ((portLive s p.fst.p = true) ∧ (fits s p.fst p.snd = true) ∧
    ((port s p.fst.p).rx = []) ∧ (waits (arrived s p.fst p.snd) p.fst p.snd = true))) = true) ∧
  (∃ (s : Machine.State) (x : FrameSrc) (tid : Nat) (seq : Nat) (d : List Byte), (serves s = true) ∧ (portLive s x.p = true) ∧ ((port s x.p).rx = []) ∧
    (sessionAt s x.ip x.udpPort = none) ∧ (x.p = 6 → x.auth = none ∧ Machine.get s 9984 32 = 0) ∧ (fits s x (Pdu.segment tid false seq d) = true) ∧
    (waits (arrived s x (Pdu.segment tid false seq d)) x (Pdu.segment tid false seq d) = false) ∧
    (transferOf (taken s x (Pdu.segment tid false seq d)) x tid true).any (fun f => decide ((seq = f.next % 65536) ∧ (f.total ≠ 4294967295) ∧
    (f.data.length + d.length ≤ f.total) ∧ ((f.next + 1) % 16 ≠ 0))) = true) ∧
  (∃ (s : Machine.State) (x : FrameSrc) (tid : Nat) (seq : Nat) (d : List Byte), (serves s = true) ∧ (portLive s x.p = true) ∧ ((port s x.p).rx = []) ∧
    (sessionAt s x.ip x.udpPort = none) ∧ (x.p = 6 → x.auth = none ∧ Machine.get s 9984 32 = 0) ∧ (fits s x (Pdu.segment tid false seq d) = true) ∧
    (waits (arrived s x (Pdu.segment tid false seq d)) x (Pdu.segment tid false seq d) = false) ∧
    (transferOf (taken s x (Pdu.segment tid false seq d)) x tid true).any (fun f => decide ((seq ≠ f.next % 65536))) = true) ∧
  (∃ (s : Machine.State) (x : FrameSrc) (tid : Nat) (seq : Nat), (serves s = true) ∧ (portLive s x.p = true) ∧ ((port s x.p).rx = []) ∧
    (sessionAt s x.ip x.udpPort = none) ∧ (x.p = 6 → x.auth = none ∧ Machine.get s 9984 32 = 0) ∧ (fits s x (Pdu.segAck tid seq) = true) ∧
    (waits (arrived s x (Pdu.segAck tid seq)) x (Pdu.segAck tid seq) = false) ∧
    (transferOf (taken s x (Pdu.segAck tid seq)) x tid false).any (fun f => decide ((f.own = false) ∧ (f.repeated = false) ∧ (f.acked < f.next) ∧
    (f.next ≤ f.acked + 16) ∧ (f.next ≤ 65535) ∧ (seq = f.next - 1) ∧ (segmentCount (taken s x (Pdu.segAck tid seq)) f ≤ f.next))) = true) ∧
  (∃ (s : Machine.State) (x : FrameSrc) (tid : Nat) (code : Nat), (serves s = true) ∧ (portLive s x.p = true) ∧ ((port s x.p).rx = []) ∧
    (sessionAt s x.ip x.udpPort = none) ∧ (x.p = 6 → x.auth = none ∧ Machine.get s 9984 32 = 0) ∧ (fits s x (Pdu.abort tid code) = true) ∧
    (waits (arrived s x (Pdu.abort tid code)) x (Pdu.abort tid code) = false)) :=
  ⟨⟨E.st 29, (.read E.src0 1 0x2000 1), by decide +kernel⟩,
   ⟨E.st 0, (.writeExpedited E.src0 1 0x2000 9 (List.replicate 70 1)), by decide +kernel⟩,
   ⟨E.st 11, (.read E.src0 1 0x2000 1), by decide +kernel⟩,
   ⟨E.st 4, (.read E.src0 1 0x2000 1), by decide +kernel⟩,
   ⟨E.st 1, (.read E.src0 1 0x2000 1), by decide +kernel⟩,
   ⟨E.st 0, (.read E.src0 1 0x2000 1), by decide +kernel⟩,
   ⟨E.st 13, (E.src0), (1), (1), ([1, 2]), by decide +kernel⟩,
   ⟨E.st 13, (E.src0), (1), (0), ([1, 2]), by decide +kernel⟩,
   ⟨E.st 14, (E.src0), (1), (0), by decide +kernel⟩,
   ⟨E.st 0, (E.src0), (1), (0x0801), by decide +kernel⟩⟩

theorem witness_RequestsAnswered :
  (∃ (s : Machine.State) (x : FrameSrc) (tid : Nat) (idx : Nat) (sub : Nat), (serves s = true) ∧ (portLive s x.p = true) ∧ ((port s x.p).rx = []) ∧
    (sessionAt s x.ip x.udpPort = none) ∧ (x.p = 6 → x.auth = none ∧ Machine.get s 9984 32 = 0) ∧ (fits s x (Pdu.read tid idx sub) = true) ∧
    (waits (arrived s x (Pdu.read tid idx sub)) x (Pdu.read tid idx sub) = false) ∧ (cachedAnswer s x tid (Pdu.read tid idx sub) = none) ∧
    (barred (taken s x (Pdu.read tid idx sub)) x (accessorOf (taken s x (Pdu.read tid idx sub)) x) = false) ∧
    (openOf (taken s x (Pdu.read tid idx sub)) x tid < 4) ∧ (txFull (taken s x (Pdu.read tid idx sub)) x.p = false) ∧
    ((readDict (accessorOf (dropTransfer (taken s x (Pdu.read tid idx sub)) x tid false) x) idx sub (dropTransfer (taken s x (Pdu.read tid idx sub)) x tid false)).snd.fst ≠ 0)) ∧
  (∃ (s : Machine.State) (x : FrameSrc) (tid : Nat) (idx : Nat) (sub : Nat), (serves s = true) ∧ (portLive s x.p = true) ∧ ((port s x.p).rx = []) ∧
    (sessionAt s x.ip x.udpPort = none) ∧ (x.p = 6 → x.auth = none ∧ Machine.get s 9984 32 = 0) ∧ (fits s x (Pdu.read tid idx sub) = true) ∧
    (waits (arrived s x (Pdu.read tid idx sub)) x (Pdu.read tid idx sub) = false) ∧ (cachedAnswer s x tid (Pdu.read tid idx sub) = none) ∧
    (barred (taken s x (Pdu.read tid idx sub)) x (accessorOf (taken s x (Pdu.read tid idx sub)) x) = false) ∧
    (openOf (taken s x (Pdu.read tid idx sub)) x tid < 4) ∧ (txFull (taken s x (Pdu.read tid idx sub)) x.p = false) ∧
    ((readDict (accessorOf (dropTransfer (taken s x (Pdu.read tid idx sub)) x tid false) x) idx sub (dropTransfer (taken s x (Pdu.read tid idx sub)) x tid false)).snd.fst = 0) ∧
    ((readDict (accessorOf (dropTransfer (taken s x (Pdu.read tid idx sub)) x tid false) x) idx sub (dropTransfer (taken s x (Pdu.read tid idx sub)) x tid false)).snd.snd.length ≤ expRead x.p (classicalTo (dropTransfer (taken s x (Pdu.read tid idx sub)) x tid false) x.p x.n))) ∧
  (∃ (s : Machine.State) (x : FrameSrc) (tid : Nat) (idx : Nat) (sub : Nat), (serves s = true) ∧ (portLive s x.p = true) ∧ ((port s x.p).rx = []) ∧
    (sessionAt s x.ip x.udpPort = none) ∧ (x.p = 6 → x.auth = none ∧ Machine.get s 9984 32 = 0) ∧ (fits s x (Pdu.read tid idx sub) = true) ∧
    (waits (arrived s x (Pdu.read tid idx sub)) x (Pdu.read tid idx sub) = false) ∧ (cachedAnswer s x tid (Pdu.read tid idx sub) = none) ∧
    (barred (taken s x (Pdu.read tid idx sub)) x (accessorOf (taken s x (Pdu.read tid idx sub)) x) = false) ∧
    (openOf (taken s x (Pdu.read tid idx sub)) x tid < 4) ∧ (txFull (taken s x (Pdu.read tid idx sub)) x.p = false) ∧
    ((readDict (accessorOf (dropTransfer (taken s x (Pdu.read tid idx sub)) x tid false) x) idx sub (dropTransfer (taken s x (Pdu.read tid idx sub)) x tid false)).snd.fst = 0) ∧
    (expRead x.p (classicalTo (dropTransfer (taken s x (Pdu.read tid idx sub)) x tid false) x.p x.n) < (readDict (accessorOf (dropTransfer (taken s x (Pdu.read tid idx sub)) x tid false) x) idx sub (dropTransfer (taken s x (Pdu.read tid idx sub)) x tid false)).snd.snd.length)) ∧
  (∃ (s : Machine.State) (x : FrameSrc) (tid : Nat) (idx : Nat) (sub : Nat) (d : List Byte), (serves s = true) ∧ (portLive s x.p = true) ∧
    ((port s x.p).rx = []) ∧ (sessionAt s x.ip x.udpPort = none) ∧ (x.p = 6 → x.auth = none ∧ Machine.get s 9984 32 = 0) ∧
    (fits s x (Pdu.writeExp tid idx sub d) = true) ∧ (waits (arrived s x (Pdu.writeExp tid idx sub d)) x (Pdu.writeExp tid idx sub d) = false) ∧
    (cachedAnswer s x tid (Pdu.writeExp tid idx sub d) = none) ∧
    (barred (taken s x (Pdu.writeExp tid idx sub d)) x (accessorOf (taken s x (Pdu.writeExp tid idx sub d)) x) = false) ∧
    (openOf (taken s x (Pdu.writeExp tid idx sub d)) x tid < 4) ∧ (txFull (taken s x (Pdu.writeExp tid idx sub d)) x.p = false)) ∧
  (∃ (s : Machine.State) (x : FrameSrc) (tid : Nat) (idx : Nat) (sub : Nat) (total : Nat), (serves s = true) ∧ (portLive s x.p = true) ∧
    ((port s x.p).rx = []) ∧ (sessionAt s x.ip x.udpPort = none) ∧ (x.p = 6 → x.auth = none ∧ Machine.get s 9984 32 = 0) ∧
    (fits s x (Pdu.writeSeg tid idx sub total) = true) ∧
    (waits (arrived s x (Pdu.writeSeg tid idx sub total)) x (Pdu.writeSeg tid idx sub total) = false) ∧
    (cachedAnswer s x tid (Pdu.writeSeg tid idx sub total) = none) ∧
    (barred (taken s x (Pdu.writeSeg tid idx sub total)) x (accessorOf (taken s x (Pdu.writeSeg tid idx sub total)) x) = false) ∧
    (openOf (taken s x (Pdu.writeSeg tid idx sub total)) x tid < 4) ∧ (txFull (taken s x (Pdu.writeSeg tid idx sub total)) x.p = false) ∧
    (startCode (dropTransfer (taken s x (Pdu.writeSeg tid idx sub total)) x tid false) (accessorOf (dropTransfer (taken s x (Pdu.writeSeg tid idx sub total)) x tid false) x) idx sub total ≠ 0)) ∧
  (∃ (s : Machine.State) (x : FrameSrc) (tid : Nat) (idx : Nat) (sub : Nat) (total : Nat), (serves s = true) ∧ (portLive s x.p = true) ∧
    ((port s x.p).rx = []) ∧ (sessionAt s x.ip x.udpPort = none) ∧ (x.p = 6 → x.auth = none ∧ Machine.get s 9984 32 = 0) ∧
    (fits s x (Pdu.writeSeg tid idx sub total) = true) ∧
    (waits (arrived s x (Pdu.writeSeg tid idx sub total)) x (Pdu.writeSeg tid idx sub total) = false) ∧
    (cachedAnswer s x tid (Pdu.writeSeg tid idx sub total) = none) ∧
    (barred (taken s x (Pdu.writeSeg tid idx sub total)) x (accessorOf (taken s x (Pdu.writeSeg tid idx sub total)) x) = false) ∧
    (openOf (taken s x (Pdu.writeSeg tid idx sub total)) x tid < 4) ∧ (txFull (taken s x (Pdu.writeSeg tid idx sub total)) x.p = false) ∧
    (startCode (dropTransfer (taken s x (Pdu.writeSeg tid idx sub total)) x tid false) (accessorOf (dropTransfer (taken s x (Pdu.writeSeg tid idx sub total)) x tid false) x) idx sub total = 0)) ∧
  (∃ (s : Machine.State) (c : Instr), (serves s = true) ∧ (pduOf c).any (fun p => decide ((fits s p.fst p.snd = true) ∧ (portLive s p.fst.p = true) ∧
    ((port s p.fst.p).rx = []) ∧ (waits (arrived s p.fst p.snd) p.fst p.snd = false) ∧ (sessionAt s p.fst.ip p.fst.udpPort = none) ∧
    (p.fst.p = 6 → p.fst.auth = none ∧ Machine.get s 9984 32 = 0) ∧
    (barred (taken s p.fst p.snd) p.fst (accessorOf (taken s p.fst p.snd) p.fst) = true) ∧
    (p.snd.requestTid).any (fun tid => decide ((cachedAnswer s p.fst tid p.snd = none))) = true)) = true) ∧
  (∃ (s : Machine.State) (c : Instr), (serves s = true) ∧ (pduOf c).any (fun p => decide ((fits s p.fst p.snd = true) ∧ (portLive s p.fst.p = true) ∧
    ((port s p.fst.p).rx = []) ∧ (waits (arrived s p.fst p.snd) p.fst p.snd = false) ∧ (sessionAt s p.fst.ip p.fst.udpPort = none) ∧
    (p.fst.p = 6 → p.fst.auth = none ∧ Machine.get s 9984 32 = 0) ∧
    (barred (taken s p.fst p.snd) p.fst (accessorOf (taken s p.fst p.snd) p.fst) = false) ∧
    (p.snd.requestTid).any (fun tid => decide ((cachedAnswer s p.fst tid p.snd = none) ∧
    (4 ≤ openOf (taken s p.fst p.snd) p.fst tid ∨ txFull (taken s p.fst p.snd) p.fst.p = true))) = true)) = true) ∧
  (∃ (s : Machine.State) (c : Instr), (serves s = true) ∧ (pduOf c).any (fun p => decide ((fits s p.fst p.snd = true) ∧ (portLive s p.fst.p = true) ∧
    ((port s p.fst.p).rx = []) ∧ (waits (arrived s p.fst p.snd) p.fst p.snd = false) ∧ (sessionAt s p.fst.ip p.fst.udpPort = none) ∧
    (p.fst.p = 6 → p.fst.auth = none ∧ Machine.get s 9984 32 = 0) ∧ (dikeOn s p.fst.p = false) ∧ ((port s p.fst.p).tx = []) ∧
    (p.snd.requestTid).any (fun tid => decide ((cachedAnswer s p.fst tid p.snd).any (fun _ => true) = true)) = true)) = true) :=
  ⟨⟨E.st 1, (E.src0), (1), (0x1140), (9), by decide +kernel⟩,
   ⟨E.st 1, (E.src0), (1), (0x2000), (1), by decide +kernel⟩,
   ⟨E.st 1, (E.src0), (1), (0x1140), (1), by decide +kernel⟩,
   ⟨E.st 1, (E.src0), (1), (0x2000), (1), ([1]), by decide +kernel⟩,
   ⟨E.st 1, (E.src0), (1), (0x2000), (1), (20), by decide +kernel⟩,
   ⟨E.st 1, (E.src0), (1), (0x2000), (1), (0), by decide +kernel⟩,
   ⟨E.st 2, (.read E.src0 1 0x2000 1), by decide +kernel⟩,
   ⟨E.st 18, (.read E.src0 1 0x2000 1), by decide +kernel⟩,
   ⟨E.st 20, (.read E.src0 1 0x2000 1), by decide +kernel⟩⟩

theorem witness_NetworkCycles :
  (∃ (s : Machine.State) (x : FrameSrc) (id : Nat) (rev : Nat) (plca : Nat), (serves s = true) ∧ (inTerp s = false) ∧ (portLive s x.p = true) ∧
    ((port s x.p).rx = []) ∧ (sessionAt s x.ip x.udpPort = none) ∧ (x.p = 6 → x.auth = none ∧ Machine.get s 9984 32 = 0) ∧ (managed s x.p = true) ∧
    (x.n ≠ 0) ∧ (x.n ≠ 2047) ∧ (partnerState s x.n ≠ 7) ∧ (fits s x (Pdu.rollcallAnswer id rev plca) = true) ∧
    (waits (arrived s x (Pdu.rollcallAnswer id rev plca)) x (Pdu.rollcallAnswer id rev plca) = false)) ∧
  (∃ (s : Machine.State) (x : FrameSrc) (round : Nat) (b : Nat) (k : Nat) (len : Nat), (serves s = true) ∧
    (nodeOnly s = false ∨ s.md.mode ≠ Mode.kickoff) ∧ (portLive s x.p = true) ∧ ((port s x.p).rx = []) ∧ (sessionAt s x.ip x.udpPort = none) ∧
    (x.p = 6 → x.auth = none ∧ Machine.get s 9984 32 = 0) ∧ (x.p = uplink s) ∧ (x.n = 0) ∧ ((port s x.p).tx = []) ∧ (b ≤ Machine.get s 4352 3) ∧
    (Machine.get s 4352 3 < b + k) ∧ (fits s x (Pdu.rollcall round b k len) = true) ∧
    (waits (arrived s x (Pdu.rollcall round b k len)) x (Pdu.rollcall round b k len) = false)) ∧
  (∃ (s : Machine.State) (x : FrameSrc) (round : Nat) (b : Nat) (k : Nat) (len : Nat), (serves s = true) ∧ (nodeOnly s = true) ∧
    (s.md.mode = Mode.kickoff) ∧ (Machine.get s 8224 1 = 14) ∧ (portLive s x.p = true) ∧ ((port s x.p).rx = []) ∧ (sessionAt s x.ip x.udpPort = none) ∧
    (x.p = 6 → x.auth = none ∧ Machine.get s 9984 32 = 0) ∧ (x.p = uplink s) ∧ (x.n = 0) ∧ ((port s x.p).tx = []) ∧ (b ≤ Machine.get s 4352 3) ∧
    (Machine.get s 4352 3 < b + k) ∧ (fits s x (Pdu.rollcall round b k len) = true) ∧
    (waits (arrived s x (Pdu.rollcall round b k len)) x (Pdu.rollcall round b k len) = false)) ∧
  (∃ (s : Machine.State) (x : FrameSrc) (m : Nat) (cycle : Nat) (d : List Byte), (serves s = true) ∧ (portLive s x.p = true) ∧ ((port s x.p).rx = []) ∧
    (sessionAt s x.ip x.udpPort = none) ∧ (x.p = 6 → x.auth = none ∧ Machine.get s 9984 32 = 0) ∧ (managed s x.p = true) ∧ (partnerState s x.n = 2) ∧
    ((mapsInUse (cycleMaps s)).contains m = true) ∧ (mapIn (cycleMaps s) m = true) ∧ (mapPartner (cycleMaps s) m = x.n) ∧
    (fits s x (Pdu.cyclicIn m cycle d) = true) ∧ (waits (arrived s x (Pdu.cyclicIn m cycle d)) x (Pdu.cyclicIn m cycle d) = false)) ∧
  (∃ (s : Machine.State) (p : Fin 7), ((port s p.val).round ≠ 1)) ∧
  (∃ (s : Machine.State) (p : Fin 7), ((port s p.val).round = 1) ∧ (p.val ≠ 4) ∧ (p.val ≠ 5) ∧
    (nextBlock s (p.val) ((port s p.val).block + 1)).any (fun _ => true) = true) ∧
  (∃ (s : Machine.State) (p : Fin 7), ((port s p.val).round = 1) ∧ (p.val = 4 ∨ p.val = 5 ∨ nextBlock s (p.val) ((port s p.val).block + 1) = none) ∧
    (∀ (n : Nat), n ∈ assigned s p.val → partnerState s n ≠ 1)) ∧
  (∃ (s : Machine.State) (p : Fin 7), ((port s p.val).round = 1) ∧ (p.val = 4 ∨ p.val = 5 ∨ nextBlock s (p.val) ((port s p.val).block + 1) = none) ∧
    (∃ n, n ∈ assigned s p.val ∧ partnerState s n = 1)) ∧
  (∃ (s : Machine.State) (p : Fin 7), ((port s p.val).polled = none)) ∧
  (∃ (s : Machine.State) (p : Fin 7), ((port s p.val).polled).any (fun n => decide ((partnerState s n = 1))) = true) ∧
  (∃ (s : Machine.State), (cyclesRun s = true) ∧ (s.net.inDue = []) ∧ (∀ (p : Nat), p < 7 → (port s p).rx = [])) ∧
  (∃ (s : Machine.State), (cyclesRun s = true) ∧ (s.net.inDue.length = 1) ∧ (∀ (p : Nat), p < 7 → (port s p).rx = []) ∧
    (s.net.inDue).any (fun m => decide ((¬m ∈ s.net.inSeen) ∧ (partnerState s (mapPartner (cycleMaps s) m) = 2) ∧
    (Machine.get s (partnerIdx (mapPartner (cycleMaps s) m)) 7 < 2))) = true) ∧
  (∃ (s : Machine.State), (patron s = true) ∧ (Machine.get s 16640 1 ≠ 0) ∧ (portLive s 0 = true) ∧ (inTerp s = false) ∧
    (s.md.mode = Mode.kickoff → 14 ≤ Machine.get s 8224 1)) :=
  ⟨⟨E.st 0, (E.src0), (2), (0), (0), by decide +kernel⟩,
   ⟨E.st 7, (E.srcU), (1), (0), (8), (220), by decide +kernel⟩,
   ⟨E.ex 4, (E.srcU), (1), (0), (8), (220), by decide +kernel⟩,
   ⟨E.st 26, (E.src0), (1), (0), ([1]), by decide +kernel⟩,
   ⟨E.st 0, 0, by decide +kernel⟩,
   ⟨E.ex 3, 0, by decide +kernel⟩,
   ⟨E.st 21, 0, by decide +kernel⟩,
   ⟨E.st 23, 0, by decide +kernel⟩,
   ⟨E.st 0, 0, by decide +kernel⟩,
   ⟨E.st 24, 0, by decide +kernel⟩,
   ⟨E.st 0, by decide +kernel⟩,
   ⟨E.st 26, by decide +kernel⟩,
   ⟨E.st 28, by decide +kernel⟩⟩

theorem witness_OwnRequests :
  (∃ (s : Machine.State) (x : FrameSrc) (tid : Nat) (status : Nat) (d : List Byte), (serves s = true) ∧ (portLive s x.p = true) ∧
    ((port s x.p).rx = []) ∧ (sessionAt s x.ip x.udpPort = none) ∧ (x.p = 6 → x.auth = none ∧ Machine.get s 9984 32 = 0) ∧
    (ownOf s x tid false = none) ∧ (fits s x (Pdu.readResponse tid status d) = true) ∧
    (waits (arrived s x (Pdu.readResponse tid status d)) x (Pdu.readResponse tid status d) = false)) ∧
  (∃ (s : Machine.State) (x : FrameSrc) (tid : Nat) (status : Nat) (code : Nat), (serves s = true) ∧ (portLive s x.p = true) ∧ ((port s x.p).rx = []) ∧
    (sessionAt s x.ip x.udpPort = none) ∧ (x.p = 6 → x.auth = none ∧ Machine.get s 9984 32 = 0) ∧ (ownOf s x tid true = none) ∧
    (fits s x (Pdu.writeResponse tid status code) = true) ∧
    (waits (arrived s x (Pdu.writeResponse tid status code)) x (Pdu.writeResponse tid status code) = false)) ∧
  (∃ (s : Machine.State) (x : FrameSrc) (tid : Nat) (d : List Byte), (serves s = true) ∧ (portLive s x.p = true) ∧ ((port s x.p).rx = []) ∧
    (sessionAt s x.ip x.udpPort = none) ∧ (x.p = 6 → x.auth = none ∧ Machine.get s 9984 32 = 0) ∧ (fits s x (Pdu.readResponse tid 0 d) = true) ∧
    (waits (arrived s x (Pdu.readResponse tid 0 d)) x (Pdu.readResponse tid 0 d) = false) ∧ (ownOf s x tid false).any (fun _ => true) = true) ∧
  (∃ (s : Machine.State) (x : FrameSrc) (tid : Nat) (code : Nat), (serves s = true) ∧ (portLive s x.p = true) ∧ ((port s x.p).rx = []) ∧
    (sessionAt s x.ip x.udpPort = none) ∧ (x.p = 6 → x.auth = none ∧ Machine.get s 9984 32 = 0) ∧ (fits s x (Pdu.writeResponse tid 0 code) = true) ∧
    (waits (arrived s x (Pdu.writeResponse tid 0 code)) x (Pdu.writeResponse tid 0 code) = false) ∧ (ownOf s x tid true).any (fun _ => true) = true) ∧
  (∃ (s : Machine.State) (tid : Nat) (n : Fin 2048), (waitingFor s (n.val) tid).any (fun f => decide ((f.repeated = false) ∧
    (f.src.p ≠ 6 ∨ f.src.auth = none))) = true) ∧
  (∃ (s : Machine.State) (tid : Nat) (n : Fin 2048), (waitingFor s (n.val) tid).any (fun f => decide ((f.own = true))) = true) ∧
  (∃ (s : Machine.State) (tid : Nat) (n : Fin 2048), (serving s Mech.tdpRequest n.val = true) ∧ (waitingFor s (n.val) tid).any (fun _ => true) = true) ∧
  (∃ (s : Machine.State) (n : Fin 2048), (partnerState s n.val = 2) ∧ (Machine.get s (partnerIdx n.val) 8 ≠ 0) ∧
    (portLive s (Machine.get s (partnerIdx n.val) 2) = true) ∧ (managed s (Machine.get s (partnerIdx n.val) 2) = true) ∧
    (serving s Mech.partnerIdle n.val = false) ∧ ((port s (Machine.get s (partnerIdx n.val) 2)).polled ≠ none)) ∧
  (∃ (s : Machine.State) (n : Fin 2048), (partnerState s n.val = 2) ∧ (Machine.get s (partnerIdx n.val) 8 ≠ 0) ∧
    (portLive s (Machine.get s (partnerIdx n.val) 2) = true) ∧ (managed s (Machine.get s (partnerIdx n.val) 2) = true) ∧
    (serving s Mech.partnerIdle n.val = false) ∧ ((port s (Machine.get s (partnerIdx n.val) 2)).polled = none) ∧
    ((port s (Machine.get s (partnerIdx n.val) 2)).toPoll = []) ∧ ((port s (Machine.get s (partnerIdx n.val) 2)).tx = []) ∧
    (covers s (Machine.get s (partnerIdx n.val) 2) (n.val) (frameNs s (Machine.get s (partnerIdx n.val) 2) (pollFrame s (Machine.get s (partnerIdx n.val) 2) n.val)) = true)) :=
  ⟨⟨E.st 0, (E.src0), (1), (0), ([1]), by decide +kernel⟩,
   ⟨E.st 0, (E.src0), (1), (0), (0), by decide +kernel⟩,
   ⟨E.st 16, (E.src0), (1), ([1]), by decide +kernel⟩,
   ⟨E.st 17, (E.src0), (1), (0), by decide +kernel⟩,
   ⟨E.st 14, (1), 5, by decide +kernel⟩,
   ⟨E.st 16, (1), 5, by decide +kernel⟩,
   ⟨E.ex 1, (1), 5, by decide +kernel⟩,
   ⟨E.st 22, 5, by decide +kernel⟩,
   ⟨E.st 1, 5, by decide +kernel⟩⟩

theorem witness_PortsAndSessions :
  (∃ (s : Machine.State) (p : Fin 4), (portLive s p.val = true) ∧ (∀ (b : Nat), (port s p.val).lastBusOff = some b → ticksS 10 < s.time - b)) ∧
  (∃ (s : Machine.State) (p : Fin 4), (portLive s p.val = true) ∧ ((port s p.val).lastBusOff).any (fun b => decide ((s.time - b ≤ ticksS 10))) = true) ∧
  (∃ (s : Machine.State) (p : Fin 4) (n : Fin 2048), (portLive s p.val = true) ∧ ((managed s p.val && inWindow s p.val n.val) = false)) ∧
  (∃ (s : Machine.State) (p : Fin 4) (n : Fin 2048), (portLive s p.val = true) ∧ (managed s p.val = true) ∧ (inWindow s p.val n.val = true)) ∧
  (∃ (s : Machine.State) (p : Fin 4), ((port s p.val).recovering = true)) ∧
  (∃ (s : Machine.State) (x : FrameSrc) (slot : Nat) (nonce : List Byte), (portLive s 6 = true) ∧ (serves s = true) ∧ ((port s 6).rx = []) ∧
    (s.net.sessions.length < 8) ∧ (x.p = 6) ∧ (sessionAt s x.ip x.udpPort = none) ∧ (x.auth = none) ∧ (slot < 4) ∧
    (Machine.get s 9984 (37 + slot) ≠ 0) ∧ (getBlob s 9984 (33 + slot) ≠ []) ∧ (fits s x (Pdu.sessionHello slot nonce) = true) ∧
    (waits (arrived s x (Pdu.sessionHello slot nonce)) x (Pdu.sessionHello slot nonce) = false)) ∧
  (∃ (s : Machine.State) (x : FrameSrc) (slot : Nat) (nonce : List Byte), (portLive s 6 = true) ∧ (serves s = true) ∧ ((port s 6).rx = []) ∧ (x.p = 6) ∧
    (sessionAt s x.ip x.udpPort = none) ∧ (x.auth = none) ∧
    (4 ≤ slot ∨ Machine.get s 9984 (37 + slot) = 0 ∨ getBlob s 9984 (33 + slot) = [] ∨ 8 ≤ s.net.sessions.length) ∧
    (fits s x (Pdu.sessionHello slot nonce) = true) ∧ (waits (arrived s x (Pdu.sessionHello slot nonce)) x (Pdu.sessionHello slot nonce) = false)) ∧
  (∃ (s : Machine.State) (x : FrameSrc) (slot : Nat), (portLive s 6 = true) ∧ (serves s = true) ∧ ((port s 6).rx = []) ∧ (x.p = 6) ∧
    (fits s x (Pdu.sessionClose slot) = true) ∧
    (sessionAt s x.ip x.udpPort).any (fun y => decide ((x.auth).any (fun p => decide ((authentic s x (Pdu.sessionClose slot) y p.fst p.snd = true))) = true)) = true) ∧
  (∃ (s : Machine.State) (id : Nat), ((sessionOf s id).isSome = true)) ∧
  (∃ (s : Machine.State) (acc : Accessor) (sub : Nat) (d : List Byte), (answering s = true) ∧ (33 ≤ sub) ∧ (sub ≤ 36) ∧
    (writeCode s acc 9984 sub d = 0)) ∧
  (∃ (s : Machine.State) (acc : Accessor) (sub : Nat) (d : List Byte), (answering s = true) ∧ (37 ≤ sub) ∧ (sub ≤ 40) ∧
    (writeCode s acc 9984 sub d = 0)) ∧
  (∃ (s : Machine.State) (acc : Accessor) (p : Fin 7) (sub : Nat) (d : List Byte), (answering s = true) ∧ (sub = 1) ∧
    (writeCode s acc (4368 + p.val) sub d = 0)) ∧
  (∃ (s : Machine.State) (acc : Accessor) (p : Fin 7) (sub : Nat) (d : List Byte), (answering s = true) ∧ (sub ≤ 7) ∧
    (writeCode s acc (4368 + p.val) sub d = 0)) ∧
  (∃ (s : Machine.State) (acc : Accessor) (n : Fin 2048) (d : List Byte), (answering s = true) ∧ (writeCode s acc (24576 + n.val) 2 d = 0) ∧
    (ofLe d < 7)) :=
  ⟨⟨E.st 0, 0, by decide +kernel⟩,
   ⟨E.st 30, 0, by decide +kernel⟩,
   ⟨E.st 0, 0, 0, by decide +kernel⟩,
   ⟨E.st 21, 0, 5, by decide +kernel⟩,
   ⟨E.st 29, 0, by decide +kernel⟩,
   ⟨E.ex 5, (E.src6), (1), (List.replicate 8 0), by decide +kernel⟩,
   ⟨E.st 1, (E.src6), (1), (List.replicate 8 0), by decide +kernel⟩,
   ⟨E.st 32, (E.srcS), (1), by decide +kernel⟩,
   ⟨E.st 32, (0), by decide +kernel⟩,
   ⟨E.st 0, (.pf0), (0x22), (List.replicate 32 5), by decide +kernel⟩,
   ⟨E.st 0, (.pf0), (0x26), ([2]), by decide +kernel⟩,
   ⟨E.st 3, (.pf0), 0, (1), ([1]), by decide +kernel⟩,
   ⟨E.st 3, (.pf0), 0, (1), ([1]), by decide +kernel⟩,
   ⟨E.st 0, (.pf0), 1, ([2]), by decide +kernel⟩⟩

theorem witness_DoorbellsRing :
  (∃ (s : Machine.State) (t : Fin 64) (i : Nat), (answering s = false ∨ vfUp s t.val = false) ∧
    ([Instr.sheetTailDoorbell t i, Instr.completionHeadDoorbell t i, Instr.cancelDoorbell t i]).any (fun _ => true) = true) ∧
  (∃ (s : Machine.State) (t : Fin 64) (i : Nat), (answering s = true) ∧ (s.md.mode = Mode.doze) ∧ (s.md.waking = false) ∧ (vfUp s t.val = true) ∧
    ([(Instr.sheetTailDoorbell t i, 0), (Instr.completionHeadDoorbell t i, 1), (Instr.cancelDoorbell t i, 2)]).any (fun _ => true) = true) ∧
  (∃ (s : Machine.State) (t : Fin 64) (i : Nat) (k : Nat), (answering s = true) ∧ (s.md.mode ≠ Mode.doze) ∧ (vfUp s t.val = true) ∧
    ((tenant s t.val).state = TenantState.enabled) ∧ (i < sheetRing s t.val) ∧
    (ringDist (sheetRing s t.val) (tenant s t.val).sheetTail i ≤ sheetRing s t.val - 1 - ringDist (sheetRing s t.val) (tenant s t.val).descHead (tenant s t.val).sheetTail) ∧
    (k ≠ t.val)) ∧
  (∃ (s : Machine.State) (t : Fin 64) (i : Nat), (answering s = true) ∧ (s.md.mode ≠ Mode.doze) ∧ (vfUp s t.val = true) ∧
    ((tenant s t.val).state = TenantState.enabled) ∧
    (sheetRing s t.val ≤ i ∨ sheetRing s t.val - 1 - ringDist (sheetRing s t.val) (tenant s t.val).descHead (tenant s t.val).sheetTail < ringDist (sheetRing s t.val) (tenant s t.val).sheetTail i)) ∧
  (∃ (s : Machine.State) (t : Fin 64) (i : Nat), (answering s = true) ∧ (s.md.mode ≠ Mode.doze) ∧ (vfUp s t.val = true) ∧
    ((tenant s t.val).state = TenantState.enabled) ∧ ((tenant s t.val).heldDone = []) ∧ (i < compRing s t.val) ∧
    (ringDist (compRing s t.val) (tenant s t.val).compHead i ≤ ringDist (compRing s t.val) (tenant s t.val).compHead (tenant s t.val).compTail)) ∧
  (∃ (s : Machine.State) (t : Fin 64) (i : Nat), (answering s = true) ∧ (s.md.mode ≠ Mode.doze) ∧ (vfUp s t.val = true) ∧
    ((tenant s t.val).state = TenantState.enabled) ∧
    (compRing s t.val ≤ i ∨ ringDist (compRing s t.val) (tenant s t.val).compHead (tenant s t.val).compTail < ringDist (compRing s t.val) (tenant s t.val).compHead i)) ∧
  (∃ (s : Machine.State) (t : Fin 64) (i : Nat), (answering s = true) ∧ (s.md.mode ≠ Mode.doze) ∧ (vfUp s t.val = true) ∧
    ((tenant s t.val).state = TenantState.enabled) ∧ (i < sheetRing s t.val) ∧
    (ringDist (sheetRing s t.val) (oldestSlot s t.val) i < ringDist (sheetRing s t.val) (oldestSlot s t.val) (tenant s t.val).sheetTail) ∧
    (s.sheets).any (fun sh => decide ((∀ (y : Sheet), y ∈ s.sheets → y.uid = sh.uid → y.tenant ≠ t.val))) = true) ∧
  (∃ (s : Machine.State) (t : Fin 64) (i : Nat), (answering s = true) ∧ (s.md.mode ≠ Mode.doze) ∧ (vfUp s t.val = true) ∧
    ((tenant s t.val).state = TenantState.enabled) ∧
    (sheetRing s t.val ≤ i ∨ ringDist (sheetRing s t.val) (oldestSlot s t.val) (tenant s t.val).sheetTail ≤ ringDist (sheetRing s t.val) (oldestSlot s t.val) i)) :=
  ⟨⟨F.st 0, 0, 0, by decide +kernel⟩,
   ⟨F.st 3, 0, 0, by decide +kernel⟩,
   ⟨F.st 5, 0, 0, 1, by decide +kernel⟩,
   ⟨F.st 5, 0, 3, by decide +kernel⟩,
   ⟨F.st 5, 0, 0, by decide +kernel⟩,
   ⟨F.st 5, 0, 3, by decide +kernel⟩,
   ⟨F.st 10, 0, 2, by decide +kernel⟩,
   ⟨F.st 5, 0, 0, by decide +kernel⟩⟩

theorem witness_MailboxAccess :
  (∃ (s : Machine.State) (fn : Fin 65), (mailboxOpen s fn = false)) ∧
  (∃ (s : Machine.State) (fn : Fin 65) (op : Nat) (idx : Nat) (sub : Nat) (len : Nat) (addr : Nat) (data : List Byte), (mailboxOpen s fn = true) ∧
    ((tenant s (mailboxKey fn)).mbStatus = 1) ∧
    ([Instr.mailboxRead fn op idx sub ⟨len, addr⟩, Instr.mailboxWrite fn idx sub len addr data]).any (fun _ => true) = true) ∧
  (∃ (s : Machine.State) (fn : Fin 65) (op : Nat), (mailboxOpen s fn = true) ∧ ((tenant s (mailboxKey fn)).mbStatus ≠ 1) ∧ (op ≠ 1) ∧ (op ≠ 2)) ∧
  (∃ (s : Machine.State) (fn : Fin 65) (op : Nat) (len : Nat) (addr : Nat), (mailboxOpen s fn = true) ∧ ((tenant s (mailboxKey fn)).mbStatus ≠ 1) ∧
    (mailboxCode op len addr ≠ 0)) ∧
  (∃ (s : Machine.State) (fn : Fin 65) (len : Nat) (addr : Nat), (mailboxOpen s fn = true) ∧ ((tenant s (mailboxKey fn)).mbStatus ≠ 1) ∧
    (mailboxCode 2 len addr ≠ 0)) ∧
  (∃ (s : Machine.State) (fn : Fin 65) (op : Nat) (idx : Nat) (sub : Nat) (len : Nat) (addr : Nat), (mailboxOpen s fn = true) ∧
    ((tenant s (mailboxKey fn)).mbStatus ≠ 1) ∧ (mailboxCode op len addr = 0) ∧
    ((readDict (functionAccessor fn) idx sub (mailboxStart s fn op idx sub len addr)).snd.fst ≠ 0)) ∧
  (∃ (s : Machine.State) (fn : Fin 65) (op : Nat) (idx : Nat) (sub : Nat) (len : Nat) (addr : Nat), (mailboxOpen s fn = true) ∧
    ((tenant s (mailboxKey fn)).mbStatus ≠ 1) ∧ (mailboxCode op len addr = 0) ∧
    ((readDict (functionAccessor fn) idx sub (mailboxStart s fn op idx sub len addr)).snd.fst = 0) ∧
    ((if addr = 0 then 4032 else len) < (readDict (functionAccessor fn) idx sub (mailboxStart s fn op idx sub len addr)).snd.snd.length)) ∧
  (∃ (s : Machine.State) (fn : Fin 65) (op : Nat) (idx : Nat) (sub : Nat) (len : Nat) (addr : Nat), (mailboxOpen s fn = true) ∧
    ((tenant s (mailboxKey fn)).mbStatus ≠ 1) ∧ (mailboxCode op len addr = 0) ∧
    ((readDict (functionAccessor fn) idx sub (mailboxStart s fn op idx sub len addr)).snd.fst = 0) ∧
    ((readDict (functionAccessor fn) idx sub (mailboxStart s fn op idx sub len addr)).snd.snd.length ≤ if addr = 0 then 4032 else len) ∧ (addr = 0)) ∧
  (∃ (s : Machine.State) (fn : Fin 65) (op : Nat) (idx : Nat) (sub : Nat) (len : Nat) (addr : Nat), (mailboxOpen s fn = true) ∧
    ((tenant s (mailboxKey fn)).mbStatus ≠ 1) ∧ (mailboxCode op len addr = 0) ∧
    ((readDict (functionAccessor fn) idx sub (mailboxStart s fn op idx sub len addr)).snd.fst = 0) ∧
    ((readDict (functionAccessor fn) idx sub (mailboxStart s fn op idx sub len addr)).snd.snd.length ≤ if addr = 0 then 4032 else len) ∧ (addr ≠ 0) ∧
    (hostWrites (mailboxKey fn) addr (readDict (functionAccessor fn) idx sub (mailboxStart s fn op idx sub len addr)).snd.snd).any (fun _ => true) = true) ∧
  (∃ (s : Machine.State) (fn : Fin 65) (idx : Nat) (sub : Nat) (len : Nat) (addr : Nat) (data : List Byte), (mailboxOpen s fn = true) ∧
    ((tenant s (mailboxKey fn)).mbStatus ≠ 1) ∧ (mailboxCode 2 len addr = 0) ∧
    ((tenant (writeDict (functionAccessor fn) idx sub (List.take len data) (if addr = 0 then setTenant (mailboxStart s fn 2 idx sub len addr) (mailboxKey fn) fun x => { state := x.state, sheetTail := x.sheetTail, descHead := x.descHead, bufHead := x.bufHead, compHead := x.compHead, compTail := x.compTail, phase := x.phase, heldDone := x.heldDone, unsignalled := x.unsignalled, v := x.v, candidate := x.candidate, busMaster := x.busMaster, units := x.units, disposition := x.disposition, mbIndex := x.mbIndex, mbSub := x.mbSub, mbOp := x.mbOp, mbLen := x.mbLen, mbAddr := x.mbAddr, mbStatus := x.mbStatus, mbAbort := x.mbAbort, mbWindow := List.take len data ++ List.drop (List.take len data).length x.mbWindow, outstanding := x.outstanding, cancelSlots := x.cancelSlots, bufWait := x.bufWait, aer := x.aer } else emitAll (mailboxStart s fn 2 idx sub len addr) (hostReads (mailboxKey fn) addr len))).fst (mailboxKey fn)).mbStatus = 1)) :=
  ⟨⟨F.st 0, (1), by decide +kernel⟩,
   ⟨F.ex 2, (1), (1), (0x2000), (1), (8), (0), ([1, 0, 0, 0, 0, 0, 0, 0]), by decide +kernel⟩,
   ⟨F.st 0, (0), (0), by decide +kernel⟩,
   ⟨F.st 0, (0), (1), (5000), (0), by decide +kernel⟩,
   ⟨F.st 0, (0), (5000), (0), by decide +kernel⟩,
   ⟨F.st 0, (0), (1), (0x2FFF), (1), (8), (0), by decide +kernel⟩,
   ⟨F.st 0, (0), (1), (0x2000), (1), (0), (4096), by decide +kernel⟩,
   ⟨F.st 0, (0), (1), (0x2000), (1), (8), (0), by decide +kernel⟩,
   ⟨F.st 0, (0), (1), (0x2000), (1), (8), (4096), by decide +kernel⟩,
   ⟨F.st 0, (0), (0x2000), (1), (8), (0), ([1, 0, 0, 0, 0, 0, 0, 0]), by decide +kernel⟩⟩

theorem witness_IngestWorks :
  (∃ (s : Machine.State) (t : Fin 64) (j : Nat), (answering s = true) ∧ (mayFetch s t.val = true) ∧ (burstLength s t.val ≠ 0) ∧ (j ≠ t.val)) ∧
  (∃ (s : Machine.State) (t : Fin 64) (j : Nat), (answering s = true) ∧ ((tenant s t.val).state = TenantState.enabled) ∧
    ((tenant s t.val).outstanding ≠ 0) ∧
    (¬((tenant s t.val).descHead + sheetRing s t.val - (tenant s t.val).outstanding % sheetRing s t.val) % sheetRing s t.val ∈ (tenant s t.val).cancelSlots) ∧
    (j ≠ t.val)) ∧
  (∃ (s : Machine.State) (t : Fin 64) (bytes : List Byte), (answering s = true) ∧ ((tenant s t.val).state = TenantState.enabled) ∧
    ((tenant s t.val).outstanding ≠ 0) ∧
    (¬((tenant s t.val).descHead + sheetRing s t.val - (tenant s t.val).outstanding % sheetRing s t.val) % sheetRing s t.val ∈ (tenant s t.val).cancelSlots) ∧
    (rejection s (sheetFrom s.nextUid (t.val) (((tenant s t.val).descHead + sheetRing s t.val - (tenant s t.val).outstanding % sheetRing s t.val) % sheetRing s t.val) bytes) bytes = 0)) ∧
  (∃ (s : Machine.State) (t : Fin 64) (bytes : List Byte), (answering s = true) ∧ ((tenant s t.val).state = TenantState.enabled) ∧
    ((tenant s t.val).outstanding ≠ 0) ∧
    (¬((tenant s t.val).descHead + sheetRing s t.val - (tenant s t.val).outstanding % sheetRing s t.val) % sheetRing s t.val ∈ (tenant s t.val).cancelSlots) ∧
    ((tenant s t.val).heldDone = []) ∧ (mustHold s t.val = false) ∧
    (rejection s (sheetFrom s.nextUid (t.val) (((tenant s t.val).descHead + sheetRing s t.val - (tenant s t.val).outstanding % sheetRing s t.val) % sheetRing s t.val) bytes) bytes ≠ 0)) ∧
  (∃ (s : Machine.State) (t : Fin 64) (st : Nat), (answering s = true) ∧ (mayFetch s t.val = true) ∧ (spaceShort s t.val = false) ∧
    (nextFetch s t.val).any (fun sh => decide ((st < 6) ∧ (sh.hasPlane st = true) ∧
    (hostReads (t.val) (sh.planes.getD st { }).addr (sh.planes.getD st { }).len).any (fun _ => true) = true)) = true) ∧
  (∃ (s : Machine.State) (t : Fin 64), (answering s = true) ∧ (mayFetch s t.val = true) ∧ (spaceShort s t.val = true) ∧
    (nextFetch s t.val).any (fun _ => true) = true) ∧
  (∃ (s : Machine.State) (t : Fin 64) (ring : Nat) (st : Fin 6) (reads : List BeatRead), (answering s = true) ∧
    ((tenant s t.val).state = TenantState.enabled) ∧ ((dramReads (DramReader.ingest t) reads s).snd = true) ∧
    (planeSheet s (t.val) ring st.val).any (fun sh => decide ((((List.range 6).all fun j => !sh.hasPlane j || j == st.val || tabHas sh.data j) = false ∨ s.md.mode ≠ Mode.standby ∨ Machine.get s 8192 7 = 0) ∧
    ((tenant s t.val).units).any (fun _ => true) = true)) = true) ∧
  (∃ (s : Machine.State) (t : Fin 64) (ring : Nat) (st : Fin 6) (reads : List BeatRead), (answering s = true) ∧ (s.md.mode = Mode.standby) ∧
    (Machine.get s 8192 7 ≠ 0) ∧ ((tenant s t.val).state = TenantState.enabled) ∧ ((dramReads (DramReader.ingest t) reads s).snd = true) ∧
    (planeSheet s (t.val) ring st.val).any (fun sh => decide ((((List.range 6).all fun j => !sh.hasPlane j || j == st.val || tabHas sh.data j) = true) ∧
    ((tenant s t.val).units).any (fun _ => true) = true)) = true) ∧
  (∃ (s : Machine.State) (t : Fin 64) (ring : Nat) (st : Fin 6) (reads : List BeatRead), (answering s = true) ∧
    ((tenant s t.val).state = TenantState.enabled) ∧ ((dramReads (DramReader.ingest t) reads s).snd = false) ∧
    (planeSheet s (t.val) ring st.val).any (fun _ => decide (((tenant s t.val).units).any (fun _ => true) = true)) = true) ∧
  (∃ (s : Machine.State) (t : Fin 64) (ring : Nat) (unit : Nat) (st : Fin 6), (answering s = true) ∧ ((tenant s t.val).state = TenantState.enabled) ∧
    (¬unit ∈ (tenant s t.val).units) ∧ (planeSheet s (t.val) ring st.val).any (fun _ => true) = true) ∧
  (∃ (s : Machine.State) (t : Fin 64) (addr : Nat) (len : Nat) (j : Nat), (answering s = true) ∧ (ingestBusy s (t.val) addr len = true) ∧ (j ≠ t.val)) ∧
  (∃ (s : Machine.State) (t : Fin 64) (e : IngestError) (addr : Nat) (len : Nat), (answering s = true) ∧ (aerBit e = none) ∧
    (ingestBusy s (t.val) addr len = true)) ∧
  (∃ (s : Machine.State) (t : Fin 64) (e : IngestError) (addr : Nat) (len : Nat), (answering s = true) ∧ (ingestBusy s (t.val) addr len = true) ∧
    (aerBit e).any (fun _ => true) = true) ∧
  (∃ (s : Machine.State) (t : Fin 64) (addr : Nat) (len : Nat), (answering s = true) ∧ (ingestBusy s (t.val) addr len = true) ∧
    (hostReads (t.val) addr len).any (fun _ => true) = true) :=
  ⟨⟨F.st 5, (0), 1, by decide +kernel⟩,
   ⟨F.st 12, (0), 1, by decide +kernel⟩,
   ⟨F.ex 1, (0), (F.desc), by decide +kernel⟩,
   ⟨F.st 12, (0), (F.desc), by decide +kernel⟩,
   ⟨F.st 6, (0), 0, by decide +kernel⟩,
   ⟨F.ex 0, (0), by decide +kernel⟩,
   ⟨F.st 7, (0), (2), (0), ([]), by decide +kernel⟩,
   ⟨F.st 8, (0), (2), (0), ([]), by decide +kernel⟩,
   ⟨F.st 7, (0), (2), (0), ([{ addr := 0, first := { low := [0, 1] }, again := { low := [0, 1] } }]), by decide +kernel⟩,
   ⟨F.st 7, (0), (2), (9), (0), by decide +kernel⟩,
   ⟨F.st 7, (0), (4096), (64), 1, by decide +kernel⟩,
   ⟨F.st 7, (0), (.unsupported), (4096), (64), by decide +kernel⟩,
   ⟨F.st 7, (0), (.poisoned), (4096), (64), by decide +kernel⟩,
   ⟨F.st 7, (0), (4096), (64), by decide +kernel⟩⟩

theorem witness_TenantsChange :
  (∃ (s : Machine.State) (t : Fin 64) (acc : Accessor) (d : List Byte) (j : Nat), (answering s = true) ∧ (writeCode s acc (20480 + t.val) 2 d = 0) ∧
    (ofLe d = 1) ∧ (j ≠ t.val)) ∧
  (∃ (s : Machine.State) (t : Fin 64) (acc : Accessor) (d : List Byte), (answering s = true) ∧ ((tenant s t.val).state = TenantState.enabled) ∧
    (writeCode s acc (20480 + t.val) 2 d = 0) ∧ (ofLe d = 0)) ∧
  (∃ (s : Machine.State) (t : Fin 64) (acc : Accessor) (d : List Byte), (answering s = true) ∧ ((tenant s t.val).state = TenantState.enabled) ∧
    ((tenant s t.val).state = TenantState.enabled) ∧ (writeCode s acc (20480 + t.val) 2 d = 0) ∧ (ofLe d = 0)) ∧
  (∃ (s : Machine.State) (t : Fin 64) (acc : Accessor) (d : List Byte), (answering s = true) ∧ ((tenant s t.val).state ≠ TenantState.enabled) ∧
    (writeCode s acc (20480 + t.val) 2 d = 0) ∧ (ofLe d = 0)) ∧
  (∃ (s : Machine.State) (t : Fin 64) (acc : Accessor) (d : List Byte), (answering s = true) ∧ ((tenant s t.val).state = TenantState.enabled) ∧
    (writeCode s acc (20480 + t.val) 3 d = 0)) ∧
  (∃ (s : Machine.State) (t : Fin 64) (fn : Fin 65), (answering s = true) ∧ (vfUp s t.val = true) ∧ (fn.val = t.val + 1)) ∧
  (∃ (s : Machine.State) (fn : Fin 65) (n : Nat), (answering s = true) ∧ (endpointUp s = true) ∧ (fn.val = 0) ∧ (n < 64)) ∧
  (∃ (s : Machine.State) (n : Nat) (j : Nat), (answering s = true) ∧ (endpointUp s = true) ∧ (n ≤ totalVfs s) ∧ (n ≤ j) ∧ (j < Machine.get s 20576 6)) ∧
  (∃ (s : Machine.State) (n : Nat), (answering s = true) ∧ (endpointUp s = true) ∧ (n ≤ totalVfs s) ∧ (Machine.get s 20576 6 ≤ n)) ∧
  (∃ (s : Machine.State) (t : Fin 64), (answering s = true) ∧ (dramRuns s = true) ∧ ((tenant s t.val).state = TenantState.scrubbing)) ∧
  (∃ (s : Machine.State) (t : Fin 64) (j : Nat), (answering s = true) ∧ (vfUp s t.val = true) ∧ (j ≠ t.val)) ∧
  (∃ (s : Machine.State) (t : Fin 64) (on : Bool), (answering s = true) ∧ (vfUp s t.val = true) ∧ (on = false ∨ (tenant s t.val).heldDone = [])) ∧
  (∃ (s : Machine.State) (t : Fin 64), (answering s = true) ∧ (t.val ∈ s.coalescing) ∧ (vfUp s t.val = true)) ∧
  (∃ (s : Machine.State), (answering s = false ∨ endpointUp s = false)) ∧
  (∃ (s : Machine.State), (s.md.mode = Mode.kickoff) ∧ (coreLink s = true) ∧ (Machine.get s 8224 1 < 12)) ∧
  (∃ (s : Machine.State), (s.pins.perstLow = true)) :=
  ⟨⟨F.st 17, (0), .pf0, [1], 1, by decide +kernel⟩,
   ⟨F.st 5, (0), .pf0, [0], by decide +kernel⟩,
   ⟨F.st 5, (0), .pf0, [0], by decide +kernel⟩,
   ⟨F.st 0, (0), .pf0, [0], by decide +kernel⟩,
   ⟨F.st 5, (0), .pf0, [1], by decide +kernel⟩,
   ⟨F.st 1, (0), 1, by decide +kernel⟩,
   ⟨F.st 0, 0, 0, by decide +kernel⟩,
   ⟨F.st 1, 0, 0, by decide +kernel⟩,
   ⟨F.st 0, 0, by decide +kernel⟩,
   ⟨F.st 5, (2), by decide +kernel⟩,
   ⟨F.st 1, (0), 1, by decide +kernel⟩,
   ⟨F.st 1, (0), false, by decide +kernel⟩,
   ⟨F.st 16, (0), by decide +kernel⟩,
   ⟨F.st 4, by decide +kernel⟩,
   ⟨F.ex 3, by decide +kernel⟩,
   ⟨F.st 23, by decide +kernel⟩⟩

theorem witness_MemoryServed :
  (∃ (s : Machine.State), (dramRuns s = false)) ∧
  (∃ (s : Machine.State) (a : Fin 8) (b : Fin 8), (dramRuns s = true) ∧ (mr4Code (Machine.get s 8960 4) ≠ 6) ∧ (s.log.ready = true) ∧
    (max a.val b.val ≠ 7 ∨ mr4Code (Machine.get s 8960 4) = 7) ∧ (max a.val b.val = 6)) ∧
  (∃ (s : Machine.State) (a : Fin 8) (b : Fin 8), (dramRuns s = true) ∧ (mr4Code (Machine.get s 8960 4) ≠ 7) ∧ (s.md.mode ∈ operating) ∧
    (max a.val b.val = 7)) ∧
  (∃ (s : Machine.State) (e : BeatRead), (dramRuns s = true) ∧ (beatEcc e.first = Ecc.clean)) ∧
  (∃ (s : Machine.State) (e : BeatRead), (dramRuns s = true) ∧ (Ecc.corrected = Ecc.corrected) ∧ (beatEcc e.first = Ecc.corrected)) ∧
  (∃ (s : Machine.State) (e : BeatRead), (dramRuns s = true) ∧ (beatEcc e.first = Ecc.bad) ∧ (beatEcc e.again ≠ Ecc.bad) ∧
    (beatEcc e.again = Ecc.corrected)) ∧
  (∃ (s : Machine.State) (r : DramReader) (e : BeatRead) (t : Fin 64), (dramRuns s = true) ∧ (r ≠ DramReader.firmware) ∧ (beatEcc e.first = Ecc.bad) ∧
    (beatEcc e.again = Ecc.bad) ∧ (r = DramReader.ingest t)) ∧
  (∃ (s : Machine.State) (e : BeatRead), (dramRuns s = true) ∧ (s.md.mode ∈ operating) ∧ (beatEcc e.first = Ecc.bad) ∧ (beatEcc e.again = Ecc.bad)) ∧
  (∃ (s : Machine.State), (dramRuns s = true) ∧ (s.mem.patrolLate = true ∨ s.time - s.mem.patrolFrom < 2 * patrolPeriod s)) ∧
  (∃ (s : Machine.State), (dramRuns s = true) ∧ (s.mem.patrolLate = false) ∧ (2 * patrolPeriod s ≤ s.time - s.mem.patrolFrom) ∧ (s.log.ready = true)) ∧
  (∃ (s : Machine.State) (c : Nat), (dramRuns s = true) ∧ (c < 11)) ∧
  (∃ (s : Machine.State) (demand : List Nat), (dramRuns s = true) ∧ (s.mem.credit ≠ []) ∧
    (s.mem.patrolAt + min (patrolDue s - s.mem.patrolAt) (patrolShare s (sharePool s demand poolOrder).fst) < dramBeats s)) ∧
  (∃ (s : Machine.State) (demand : List Nat), (dramRuns s = true) ∧ (s.mem.credit ≠ []) ∧
    (dramBeats s ≤ s.mem.patrolAt + min (patrolDue s - s.mem.patrolAt) (patrolShare s (sharePool s demand poolOrder).fst))) :=
  ⟨⟨G.st 1, by decide +kernel⟩,
   ⟨G.st 0, 0, 6, by decide +kernel⟩,
   ⟨G.st 0, 0, 7, by decide +kernel⟩,
   ⟨G.st 0, { addr := 64, first := {}, again := {} }, by decide +kernel⟩,
   ⟨G.st 0, { addr := 64, first := { low := [3] }, again := {} }, by decide +kernel⟩,
   ⟨G.st 0, { addr := 64, first := { low := [0, 1] }, again := { low := [3] } }, by decide +kernel⟩,
   ⟨G.st 0, .ingest 1, { addr := 64, first := { low := [0, 1] }, again := { low := [0, 1] } }, 1, by decide +kernel⟩,
   ⟨G.st 0, { addr := 64, first := { low := [0, 1] }, again := { low := [0, 1] } }, by decide +kernel⟩,
   ⟨G.st 0, by decide +kernel⟩,
   ⟨G.ex 1, by decide +kernel⟩,
   ⟨G.st 0, 0, by decide +kernel⟩,
   ⟨G.st 14, [], by decide +kernel⟩,
   ⟨G.ex 2, [], by decide +kernel⟩⟩

theorem witness_AdmissionWorks :
  (∃ (s : Machine.State), (admissionOpen s = false ∨ admissionDue s = false)) ∧
  (∃ (s : Machine.State), (admissionOpen s = true) ∧ (admissionDue s = true) ∧ (chosen (refreshCandidates s) = none)) ∧
  (∃ (s : Machine.State), (admissionOpen s = true) ∧ (admissionDue s = true) ∧
    (chosen (refreshCandidates s)).any (fun n => decide ((nextSheet (refreshCandidates s) n).any (fun sh => decide ((profileReady (refreshCandidates s) sh = false))) = true)) = true) ∧
  (∃ (s : Machine.State), (admissionOpen s = true) ∧ (admissionDue s = true) ∧
    (chosen (refreshCandidates s)).any (fun n => decide ((nextSheet (refreshCandidates s) n).any (fun sh => decide ((profileReady (refreshCandidates s) sh = true) ∧
    (budget (bump (refreshCandidates s) 8960 19) < peakBeats (bump (refreshCandidates s) 8960 19) (planOf (bump (refreshCandidates s) 8960 19) sh (firstI0 (bump (refreshCandidates s) 8960 19)))))) = true)) = true) ∧
  (∃ (s : Machine.State), (admissionOpen s = true) ∧ (admissionDue s = true) ∧
    (chosen (refreshCandidates s)).any (fun n => decide ((nextSheet (refreshCandidates s) n).any (fun sh => decide ((profileReady (refreshCandidates s) sh = true) ∧
    (peakBeats (bump (refreshCandidates s) 8960 19) (planOf (bump (refreshCandidates s) 8960 19) sh (firstI0 (bump (refreshCandidates s) 8960 19))) ≤ budget (bump (refreshCandidates s) 8960 19)) ∧
    (100 * (budget (bump (refreshCandidates s) 8960 19) - peakBeats (bump (refreshCandidates s) 8960 19) (planOf (bump (refreshCandidates s) 8960 19) sh (firstI0 (bump (refreshCandidates s) 8960 19)))) < Machine.get (bump (refreshCandidates s) 8960 19) 8960 16 * guarantees (bump (refreshCandidates s) 8960 19)))) = true)) = true) ∧
  (∃ (s : Machine.State), (admissionOpen s = true) ∧ (admissionDue s = true) ∧
    (chosen (refreshCandidates s)).any (fun n => decide ((nextSheet (refreshCandidates s) n).any (fun sh => decide ((profileReady (refreshCandidates s) sh = true) ∧
    (peakBeats (bump (refreshCandidates s) 8960 19) (planOf (bump (refreshCandidates s) 8960 19) sh (firstI0 (bump (refreshCandidates s) 8960 19))) ≤ budget (bump (refreshCandidates s) 8960 19)) ∧
    (Machine.get (bump (refreshCandidates s) 8960 19) 8960 16 * guarantees (bump (refreshCandidates s) 8960 19) ≤ 100 * (budget (bump (refreshCandidates s) 8960 19) - peakBeats (bump (refreshCandidates s) 8960 19) (planOf (bump (refreshCandidates s) 8960 19) sh (firstI0 (bump (refreshCandidates s) 8960 19))))) ∧
    (s.sheets).any (fun y => decide ((y.uid ≠ sh.uid))) = true)) = true)) = true) :=
  ⟨⟨G.st 0, by decide +kernel⟩,
   ⟨G.st 3, by decide +kernel⟩,
   ⟨G.st 9, by decide +kernel⟩,
   ⟨G.st 6, by decide +kernel⟩,
   ⟨G.st 5, by decide +kernel⟩,
   ⟨G.ex 0, by decide +kernel⟩⟩

theorem witness_DecodersWork :
  (∃ (s : Machine.State) (st : Fin 6) (k : Nat), (rasterMode s = true) ∧ ((station s st.val).decUid = none) ∧
    (nextPlane s st.val).any (fun sh => decide ((tabGet 0 sh.winAt st.val ≤ s.time) ∧ (k ≠ st.val))) = true) ∧
  (∃ (s : Machine.State) (st : Fin 6), (rasterMode s = false ∨ (station s st.val).decUid ≠ none ∨ nextPlane s st.val = none ∨ ∃ sh, nextPlane s st.val = some sh ∧
    s.time < tabGet 0 sh.winAt st.val)) ∧
  (∃ (s : Machine.State) (st : Fin 6), (rasterMode s = false ∨ (station s st.val).backlog ≠ [] ∨ (station s st.val).decUid = none)) ∧
  (∃ (s : Machine.State) (st : Fin 6) (unit : Nat), (rasterMode s = true) ∧ ((station s st.val).backlog = []) ∧
    ((station s st.val).decUid).any (fun uid => decide ((sheetOf s uid).any (fun sh => decide ((¬unit ∈ (tenant s sh.tenant).units) ∧
    ((tenant s sh.tenant).state = TenantState.enabled))) = true)) = true) ∧
  (∃ (s : Machine.State) (st : Fin 6) (reads : List BeatRead) (words : List InputWord) (k : Nat), (rasterMode s = true) ∧
    ((station s st.val).backlog = []) ∧ ((dramReads (DramReader.decoder st) reads s).snd = true) ∧
    ((inputWords st words (dramReads (DramReader.decoder st) reads s).fst).snd = none) ∧
    ((station s st.val).decUid).any (fun uid => decide ((sheetOf s uid).any (fun sh => decide (((tenant s sh.tenant).units).any (fun _ => decide ((k ≠ st.val))) = true)) = true)) = true) ∧
  (∃ (s : Machine.State) (st : Fin 6) (reads : List BeatRead) (words : List InputWord), (rasterMode s = true) ∧ ((station s st.val).backlog = []) ∧
    ((dramReads (DramReader.decoder st) reads s).snd = true) ∧ ((inputWords st words (dramReads (DramReader.decoder st) reads s).fst).snd = none) ∧
    ((station s st.val).decUid).any (fun uid => decide ((sheetOf s uid).any (fun sh => decide (((tenant s sh.tenant).units).any (fun _ => decide (([1, 2, 3, 9]).any (fun _ => true) = true)) = true)) = true)) = true) ∧
  (∃ (s : Machine.State) (st : Fin 6) (reads : List BeatRead) (words : List InputWord), (rasterMode s = true) ∧ ((station s st.val).backlog = []) ∧
    ((dramReads (DramReader.decoder st) reads s).snd = true) ∧ ((inputWords st words (dramReads (DramReader.decoder st) reads s).fst).snd = none) ∧
    ((station s st.val).decUid).any (fun uid => decide ((sheetOf s uid).any (fun sh => decide (((nextBand s (st.val) sh none).code ≠ 0) ∧
    ((tenant s sh.tenant).units).any (fun _ => true) = true)) = true)) = true) ∧
  (∃ (s : Machine.State) (st : Fin 6) (reads : List BeatRead) (words : List InputWord), (rasterMode s = true) ∧ ((station s st.val).backlog = []) ∧
    ((dramReads (DramReader.decoder st) reads s).snd = true) ∧ ((inputWords st words (dramReads (DramReader.decoder st) reads s).fst).snd = none) ∧
    ((station s st.val).decUid).any (fun uid => decide ((sheetOf s uid).any (fun sh => decide (((nextBand s (st.val) sh none).code = 0) ∧
    ((station s st.val).decLine + (nextBand s (st.val) sh none).lines.length < sh.lines) ∧
    ((tenant s sh.tenant).units).any (fun _ => true) = true)) = true)) = true) ∧
  (∃ (s : Machine.State) (st : Fin 6) (reads : List BeatRead) (words : List InputWord), (rasterMode s = true) ∧ ((station s st.val).backlog = []) ∧
    ((dramReads (DramReader.decoder st) reads s).snd = true) ∧ ((inputWords st words (dramReads (DramReader.decoder st) reads s).fst).snd = none) ∧
    ((station s st.val).decUid).any (fun uid => decide ((sheetOf s uid).any (fun sh => decide (((nextBand s (st.val) sh none).code = 0) ∧
    (sh.lines ≤ (station s st.val).decLine + (nextBand s (st.val) sh none).lines.length) ∧
    ((tenant s sh.tenant).units).any (fun _ => true) = true)) = true)) = true) ∧
  (∃ (s : Machine.State) (st : Fin 6) (reads : List BeatRead) (words : List InputWord) (k : Nat), (rasterMode s = true) ∧
    ((station s st.val).backlog = []) ∧ ((dramReads (DramReader.decoder st) reads s).snd = true) ∧
    ((station s st.val).decUid).any (fun uid => decide ((sheetOf s uid).any (fun sh => decide (((tenant s sh.tenant).units).any (fun _ => decide (((inputWords st words (dramReads (DramReader.decoder st) reads s).fst).snd).any (fun _ => decide ((k ≠ st.val))) = true)) = true)) = true)) = true) ∧
  (∃ (s : Machine.State) (st : Fin 6) (reads : List BeatRead), (rasterMode s = true) ∧ ((station s st.val).backlog = []) ∧
    ((dramReads (DramReader.decoder st) reads s).snd = false) ∧
    ((station s st.val).decUid).any (fun uid => decide ((sheetOf s uid).any (fun sh => decide (((tenant s sh.tenant).units).any (fun _ => true) = true)) = true)) = true) ∧
  (∃ (s : Machine.State) (st : Fin 6) (write : Bool) (inv : Bool) (v : Nat), (present s st.val = false ∨ (pointerReads (station s st.val) write inv v).pointersAgree = true)) ∧
  (∃ (s : Machine.State) (st : Fin 6) (write : Bool) (inv : Bool) (v : Nat) (k : Nat), (present s st.val = true) ∧
    (servedWithin s Mech.pointers (st.val) (ticksS 1) = false) ∧ ((pointerReads (station s st.val) write inv v).pointersAgree = false) ∧ (k ≠ st.val)) ∧
  (∃ (s : Machine.State) (st : Fin 6) (write : Bool) (inv : Bool) (v : Nat) (sh : Sheet), (present s st.val = true) ∧
    (servedWithin s Mech.pointers (st.val) (ticksS 1) = false) ∧ ((pointerReads (station s st.val) write inv v).pointersAgree = false) ∧
    ((station s st.val).decUid = some sh.uid) ∧ (sheetOf s sh.uid = some sh) ∧ (sh.admitted = true)) ∧
  (∃ (s : Machine.State) (st : Fin 6) (write : Bool) (inv : Bool) (v : Nat), (present s st.val = true) ∧
    (servedWithin s Mech.pointers (st.val) (ticksS 1) = false) ∧ ((pointerReads (station s st.val) write inv v).pointersAgree = false) ∧
    (s.sheets).any (fun sh => decide ((sh.committed = true) ∧ (sh.uid ∈ dataUids s st.val))) = true) ∧
  (∃ (s : Machine.State) (st : Fin 6) (write : Bool) (inv : Bool) (v : Nat), (s.md.mode ∈ operating) ∧ (present s st.val = true) ∧
    (servedWithin s Mech.pointers (st.val) (ticksS 1) = true) ∧ ((pointerReads (station s st.val) write inv v).pointersAgree = false)) :=
  ⟨⟨G.st 7, 0, 1, by decide +kernel⟩,
   ⟨G.st 0, 0, by decide +kernel⟩,
   ⟨G.st 0, 0, by decide +kernel⟩,
   ⟨G.st 17, 0, 3, by decide +kernel⟩,
   ⟨G.st 17, 0, [], [], 1, by decide +kernel⟩,
   ⟨G.st 17, 0, [], [], by decide +kernel⟩,
   ⟨G.st 20, 0, [], [], by decide +kernel⟩,
   ⟨G.st 19, 0, [], [], by decide +kernel⟩,
   ⟨G.st 17, 0, [], [], by decide +kernel⟩,
   ⟨G.st 17, 0, [], [{ at_ := 0, bits := [0, 1], refetch := { addr := 64, first := { low := [0, 1] }, again := { low := [0, 1] } } }], 1, by decide +kernel⟩,
   ⟨G.st 17, 0, [{ addr := 0, first := { low := [0, 1] }, again := { low := [0, 1] } }], by decide +kernel⟩,
   ⟨G.st 0, 0, false, false, 0, by decide +kernel⟩,
   ⟨G.st 0, 0, false, false, 1, 1, by decide +kernel⟩,
   ⟨G.st 18, 0, false, false, 1, G.pl 2 (G.band 2 0) .admitted, by decide +kernel⟩,
   ⟨G.st 25, 0, false, false, 1, by decide +kernel⟩,
   ⟨G.st 22, 0, false, false, 1, by decide +kernel⟩⟩

theorem witness_ScansRun :
  (∃ (s : Machine.State) (st : Fin 6), ((station s st.val).regsDue = true ∨ (station s st.val).imaging = none ∨ (station s st.val).scan ≠ none)) ∧
  (∃ (s : Machine.State) (st : Fin 6), ((station s st.val).regsDue = false) ∧ ((station s st.val).scan = none) ∧
    (follows 32 (Machine.get s (trkIdx st.val) 7) (station s st.val).fromTooth = true) ∧
    ((station s st.val).imaging).any (fun uid => decide ((sheetOf s uid).any (fun sh => decide ((sh.held.testBit st.val = false) ∧
    (sh.spillDue.testBit st.val = false))) = true)) = true) ∧
  (∃ (s : Machine.State) (st : Fin 6), ((station s st.val).regsDue = false) ∧ ((station s st.val).scan = none) ∧
    (follows 32 (Machine.get s (trkIdx st.val) 7) (station s st.val).fromTooth = false) ∧
    ((station s st.val).imaging).any (fun uid => decide ((sheetOf s uid).any (fun sh => decide ((sh.held.testBit st.val = false) ∧
    (sh.spillDue.testBit st.val = false) ∧ (sh.hasPlane st.val = false))) = true)) = true) ∧
  (∃ (s : Machine.State) (st : Fin 6), ((station s st.val).regsDue = false) ∧ ((station s st.val).scan = none) ∧
    (follows 32 (Machine.get s (trkIdx st.val) 7) (station s st.val).fromTooth = false) ∧
    ((station s st.val).imaging).any (fun uid => decide ((sheetOf s uid).any (fun sh => decide ((sh.held.testBit st.val = false) ∧
    (sh.spillDue.testBit st.val = false) ∧ (sh.hasPlane st.val = true) ∧ (sh.spilled.testBit st.val = true))) = true)) = true) ∧
  (∃ (s : Machine.State) (st : Fin 6) (d : Nat) (held : Nat) (k : Nat), ((station s st.val).regsDue = false) ∧ ((station s st.val).scan = none) ∧
    (follows 32 (Machine.get s (trkIdx st.val) 7) (station s st.val).fromTooth = false) ∧
    ((station s st.val).imaging).any (fun uid => decide ((sheetOf s uid).any (fun sh => decide ((sh.held.testBit st.val = false) ∧
    (sh.spillDue.testBit st.val = false) ∧ (sh.hasPlane st.val = true) ∧ (sh.spilled.testBit st.val = false) ∧
    (scanReady s (st.val) sh (beams s st.val * ((station s st.val).nextScan + 1) + maxOffset s st.val) = true ∨ cutThrough s (st.val) sh (beams s st.val * ((station s st.val).nextScan + 1) + maxOffset s st.val) d held = true) ∧
    (k ≠ st.val))) = true)) = true) ∧
  (∃ (s : Machine.State) (st : Fin 6) (d : Nat) (held : Nat) (b : Nat), ((station s st.val).regsDue = false) ∧ ((station s st.val).scan = none) ∧
    (follows 32 (Machine.get s (trkIdx st.val) 7) (station s st.val).fromTooth = false) ∧
    ((station s st.val).imaging).any (fun uid => decide ((sheetOf s uid).any (fun sh => decide ((sh.held.testBit st.val = false) ∧
    (sh.spillDue.testBit st.val = false) ∧ (sh.hasPlane st.val = true) ∧ (sh.spilled.testBit st.val = false) ∧
    (scanReady s (st.val) sh (beams s st.val * ((station s st.val).nextScan + 1) + maxOffset s st.val) = true ∨ cutThrough s (st.val) sh (beams s st.val * ((station s st.val).nextScan + 1) + maxOffset s st.val) d held = true) ∧
    (b < beams s st.val))) = true)) = true) ∧
  (∃ (s : Machine.State) (st : Fin 6) (d : Nat) (held : Nat) (k : Nat), ((station s st.val).regsDue = false) ∧ ((station s st.val).scan = none) ∧
    (follows 32 (Machine.get s (trkIdx st.val) 7) (station s st.val).fromTooth = false) ∧
    ((station s st.val).imaging).any (fun uid => decide ((sheetOf s uid).any (fun sh => decide ((sh.held.testBit st.val = false) ∧
    (sh.spillDue.testBit st.val = false) ∧ (sh.hasPlane st.val = true) ∧ (sh.spilled.testBit st.val = false) ∧
    (scanReady s (st.val) sh (beams s st.val * ((station s st.val).nextScan + 1) + maxOffset s st.val) = false) ∧
    (cutThrough s (st.val) sh (beams s st.val * ((station s st.val).nextScan + 1) + maxOffset s st.val) d held = false) ∧
    (k ≠ st.val))) = true)) = true) ∧
  (∃ (s : Machine.State) (st : Fin 6) (d : Nat) (held : Nat) (b : Nat), ((station s st.val).regsDue = false) ∧ ((station s st.val).scan = none) ∧
    (follows 32 (Machine.get s (trkIdx st.val) 7) (station s st.val).fromTooth = false) ∧
    ((station s st.val).imaging).any (fun uid => decide ((sheetOf s uid).any (fun sh => decide ((sh.held.testBit st.val = false) ∧
    (sh.spillDue.testBit st.val = false) ∧ (sh.hasPlane st.val = true) ∧ (sh.spilled.testBit st.val = false) ∧
    (scanReady s (st.val) sh (beams s st.val * ((station s st.val).nextScan + 1) + maxOffset s st.val) = false) ∧
    (cutThrough s (st.val) sh (beams s st.val * ((station s st.val).nextScan + 1) + maxOffset s st.val) d held = false) ∧
    (b < beams s st.val))) = true)) = true) ∧
  (∃ (s : Machine.State) (st : Fin 6), ((station s st.val).scan).any (fun c => decide ((c.blank = false))) = true) ∧
  (∃ (s : Machine.State) (st : Fin 6), ((station s st.val).scan = none ∨ ∃ c, (station s st.val).scan = some c ∧ c.blank = true)) ∧
  (∃ (s : Machine.State) (st : Fin 6) (b : Nat), ((station s st.val).scan).any (fun c => decide ((sheetOf s c.uid).any (fun _ => decide ((b < beams s st.val))) = true)) = true) ∧
  (∃ (s : Machine.State) (st : Fin 6), ((station s st.val).scan).any (fun c => decide ((sheetOf s c.uid).any (fun sh => decide ((decide (scansOf sh.lines (beams s st.val) ≤ c.index + 1) = true))) = true)) = true) ∧
  (∃ (s : Machine.State) (st : Fin 6), ((station s st.val).scan).any (fun c => decide ((sheetOf s c.uid).any (fun sh => decide ((decide (scansOf sh.lines (beams s st.val) ≤ c.index + 1) = false))) = true)) = true) :=
  ⟨⟨G.st 0, 0, by decide +kernel⟩,
   ⟨G.ex 3, 0, by decide +kernel⟩,
   ⟨G.ex 4, 0, by decide +kernel⟩,
   ⟨G.st 26, 0, by decide +kernel⟩,
   ⟨G.st 25, 0, 0, 0, 1, by decide +kernel⟩,
   ⟨G.st 25, 0, 0, 0, 0, by decide +kernel⟩,
   ⟨G.st 24, 0, 0, 0, 1, by decide +kernel⟩,
   ⟨G.st 24, 0, 0, 0, 0, by decide +kernel⟩,
   ⟨G.st 28, 0, by decide +kernel⟩,
   ⟨G.st 0, 0, by decide +kernel⟩,
   ⟨G.st 28, 0, 0, by decide +kernel⟩,
   ⟨G.st 28, 0, by decide +kernel⟩,
   ⟨G.st 30, 0, by decide +kernel⟩⟩

theorem witness_EdgesTaken :
  (∃ (s : Machine.State) (st : Fin 6) (tt : Fin 12) (rising : Bool) (t : Nat), ([(Instr.bdEdge st { rising := rising, t := t }, st.val), (Instr.encoderEdge tt { rising := rising, t := t }, 6 + tt.val)]).any (fun q => decide ((edgeSeen s q.fst = false))) = true) ∧
  (∃ (s : Machine.State) (st : Fin 6) (tt : Fin 12) (rising : Bool) (t : Nat), ([(Instr.bdEdge st { rising := rising, t := t }, st.val), (Instr.encoderEdge tt { rising := rising, t := t }, 6 + tt.val)]).any (fun q => decide ((edgeSeen s q.fst = true) ∧
    (6 ≤ q.snd) ∧ (blanked s q.snd t = true))) = true) ∧
  (∃ (s : Machine.State) (st : Fin 6) (tt : Fin 12) (rising : Bool) (t : Nat), ([(Instr.bdEdge st { rising := rising, t := t }, st.val), (Instr.encoderEdge tt { rising := rising, t := t }, 6 + tt.val)]).any (fun q => decide ((edgeSeen s q.fst = true) ∧
    (q.snd < 6 ∨ blanked s q.snd t = false) ∧ ((tracker s q.snd).state = 0 ∨ (tracker s q.snd).state = 3) ∧ (mayAcquire s q.snd = false))) = true) ∧
  (∃ (s : Machine.State) (st : Fin 6) (tt : Fin 12) (rising : Bool) (t : Nat) (j : Nat), ([(Instr.bdEdge st { rising := rising, t := t }, st.val), (Instr.encoderEdge tt { rising := rising, t := t }, 6 + tt.val)]).any (fun q => decide ((edgeSeen s q.fst = true) ∧
    (q.snd < 6 ∨ blanked s q.snd t = false) ∧ ((tracker s q.snd).state = 0 ∨ (tracker s q.snd).state = 3) ∧ (mayAcquire s q.snd = true) ∧
    (j ≠ q.snd))) = true) ∧
  (∃ (s : Machine.State) (st : Fin 6) (tt : Fin 12) (rising : Bool) (t : Nat) (l : List Nat) (j : Nat), ([(Instr.bdEdge st { rising := rising, t := t }, st.val), (Instr.encoderEdge tt { rising := rising, t := t }, 6 + tt.val)]).any (fun q => decide ((edgeSeen s q.fst = true) ∧
    (q.snd < 6 ∨ blanked s q.snd t = false) ∧ ((tracker s q.snd).state ≠ 0) ∧ ((tracker s q.snd).state ≠ 3) ∧
    ((tracker s q.snd).acq = Acquire.collecting l) ∧ ((if spacedOk s q.snd l t = true then t :: l else [t]).length < max 2 (2 * toothCycle s q.snd)) ∧
    (j ≠ q.snd))) = true) ∧
  (∃ (s : Machine.State) (st : Fin 6) (tt : Fin 12) (rising : Bool) (t : Nat) (l : List Nat) (j : Nat), ([(Instr.bdEdge st { rising := rising, t := t }, st.val), (Instr.encoderEdge tt { rising := rising, t := t }, 6 + tt.val)]).any (fun q => decide ((edgeSeen s q.fst = true) ∧
    (q.snd < 6 ∨ blanked s q.snd t = false) ∧ ((tracker s q.snd).state ≠ 0) ∧ ((tracker s q.snd).state ≠ 3) ∧
    ((tracker s q.snd).acq = Acquire.collecting l) ∧ (max 2 (2 * toothCycle s q.snd) ≤ (if spacedOk s q.snd l t = true then t :: l else [t]).length) ∧
    (j ≠ q.snd))) = true) ∧
  (∃ (s : Machine.State) (st : Fin 6) (tt : Fin 12) (rising : Bool) (t : Nat) (l : List Nat) (i : Nat), ([(Instr.bdEdge st { rising := rising, t := t }, st.val), (Instr.encoderEdge tt { rising := rising, t := t }, 6 + tt.val)]).any (fun q => decide ((edgeSeen s q.fst = true) ∧
    (q.snd < 6 ∨ blanked s q.snd t = false) ∧ ((tracker s q.snd).state ≠ 0) ∧ ((tracker s q.snd).state ≠ 3) ∧
    ((tracker s q.snd).acq = Acquire.collecting l) ∧ (max 2 (2 * toothCycle s q.snd) ≤ (if spacedOk s q.snd l t = true then t :: l else [t]).length) ∧
    (i < toothCycle s q.snd))) = true) ∧
  (∃ (s : Machine.State) (st : Fin 6) (tt : Fin 12) (rising : Bool) (t : Nat), ([(Instr.bdEdge st { rising := rising, t := t }, st.val), (Instr.encoderEdge tt { rising := rising, t := t }, 6 + tt.val)]).any (fun q => decide ((edgeSeen s q.fst = true) ∧
    (q.snd < 6 ∨ blanked s q.snd t = false) ∧ ((tracker s q.snd).state ≠ 0) ∧ ((tracker s q.snd).state ≠ 3) ∧
    ((match (tracker s q.snd).acq with | Acquire.collecting _ => true | _ => false) = false) ∧ (t ≤ predicted s q.snd + windowOf s q.snd) ∧
    (t + windowOf s q.snd < predicted s q.snd))) = true) ∧
  (∃ (s : Machine.State) (st : Fin 6) (tt : Fin 12) (rising : Bool) (t : Nat) (j : Nat), ([(Instr.bdEdge st { rising := rising, t := t }, st.val), (Instr.encoderEdge tt { rising := rising, t := t }, 6 + tt.val)]).any (fun q => decide ((edgeSeen s q.fst = true) ∧
    (q.snd < 6 ∨ blanked s q.snd t = false) ∧ ((tracker s q.snd).state ≠ 0) ∧ ((tracker s q.snd).state ≠ 3) ∧
    ((match (tracker s q.snd).acq with | Acquire.collecting _ => true | _ => false) = false) ∧ (t ≤ predicted s q.snd + windowOf s q.snd) ∧
    (predicted s q.snd ≤ t + windowOf s q.snd) ∧ ((tracker s q.snd).cand = none) ∧ (j ≠ q.snd))) = true) ∧
  (∃ (s : Machine.State) (st : Fin 6) (tt : Fin 12) (rising : Bool) (t : Nat), ([(Instr.bdEdge st { rising := rising, t := t }, st.val), (Instr.encoderEdge tt { rising := rising, t := t }, 6 + tt.val)]).any (fun q => decide ((edgeSeen s q.fst = true) ∧
    (q.snd < 6 ∨ blanked s q.snd t = false) ∧ ((tracker s q.snd).state ≠ 0) ∧ ((tracker s q.snd).state ≠ 3) ∧
    ((match (tracker s q.snd).acq with | Acquire.collecting _ => true | _ => false) = false) ∧ (t ≤ predicted s q.snd + windowOf s q.snd) ∧
    (predicted s q.snd ≤ t + windowOf s q.snd) ∧
    ((tracker s q.snd).cand).any (fun a => decide ((gap a (predicted s q.snd) ≤ gap t (predicted s q.snd)))) = true)) = true) ∧
  (∃ (s : Machine.State) (st : Fin 6) (tt : Fin 12) (rising : Bool) (t : Nat) (j : Nat), ([(Instr.bdEdge st { rising := rising, t := t }, st.val), (Instr.encoderEdge tt { rising := rising, t := t }, 6 + tt.val)]).any (fun q => decide ((edgeSeen s q.fst = true) ∧
    (q.snd < 6 ∨ blanked s q.snd t = false) ∧ ((tracker s q.snd).state ≠ 0) ∧ ((tracker s q.snd).state ≠ 3) ∧
    ((match (tracker s q.snd).acq with | Acquire.collecting _ => true | _ => false) = false) ∧ (t ≤ predicted s q.snd + windowOf s q.snd) ∧
    (predicted s q.snd ≤ t + windowOf s q.snd) ∧
    ((tracker s q.snd).cand).any (fun a => decide ((gap t (predicted s q.snd) < gap a (predicted s q.snd)) ∧ (j ≠ q.snd))) = true)) = true) :=
  ⟨⟨H.st 0, 0, 0, false, (70000000000 + H.P), by decide +kernel⟩,
   ⟨H.st 4, 0, 0, true, (70000000000), by decide +kernel⟩,
   ⟨H.st 3, 0, 0, true, (70000000000 + H.P), by decide +kernel⟩,
   ⟨H.st 1, 0, 0, true, (70000000000 + H.P), 0, by decide +kernel⟩,
   ⟨H.st 35, 0, 0, true, (70000000000 + H.P), ([]), 1, by decide +kernel⟩,
   ⟨H.st 38, 0, 0, true, (70000000000 + H.P), ([70000000000]), 0, by decide +kernel⟩,
   ⟨H.st 38, 0, 0, true, (70000000000 + H.P), ([70000000000]), 0, by decide +kernel⟩,
   ⟨H.st 4, 0, 0, true, (70000000000 + H.P / 2), by decide +kernel⟩,
   ⟨H.st 1, 0, 0, true, (70000000000), 1, by decide +kernel⟩,
   ⟨H.st 60, 0, 0, true, (70000000000 + H.P), by decide +kernel⟩,
   ⟨H.st 57, 0, 0, true, (70000000000 + H.P), 1, by decide +kernel⟩⟩

theorem witness_WindowsClose :
  (∃ (s : Machine.State) (st : Fin 6) (tt : Fin 12), ([(Instr.bdWindowClose st, st.val), (Instr.encoderWindowClose tt, 6 + tt.val)]).any (fun q => decide (((trackerLit s q.snd && hasWindow s q.snd) = false))) = true) ∧
  (∃ (s : Machine.State) (st : Fin 6) (tt : Fin 12), ([(Instr.bdWindowClose st, st.val), (Instr.encoderWindowClose tt, 6 + tt.val)]).any (fun q => decide (((trackerLit s q.snd && hasWindow s q.snd) = true) ∧
    ((decide (6 ≤ q.snd) && sourceStill s q.snd && (tracker s q.snd).cand.isNone) = true))) = true) ∧
  (∃ (s : Machine.State) (st : Fin 6) (tt : Fin 12) (f : Nat) (j : Nat), ([(Instr.bdWindowClose st, st.val), (Instr.encoderWindowClose tt, 6 + tt.val)]).any (fun q => decide (((trackerLit s q.snd && hasWindow s q.snd) = true) ∧
    ((decide (6 ≤ q.snd) && sourceStill s q.snd && (tracker s q.snd).cand.isNone) = false) ∧
    (decide (Machine.get s (trkIdx q.snd) 3 ≤ if (tracker s q.snd).cand.isNone = true then (tracker s q.snd).coasts + 1 else 0) = true) ∧
    ((tracker s q.snd).acq = Acquire.following f) ∧ (j ≠ q.snd))) = true) ∧
  (∃ (s : Machine.State) (st : Fin 6) (tt : Fin 12) (f : Nat), ([(Instr.bdWindowClose st, st.val), (Instr.encoderWindowClose tt, 6 + tt.val)]).any (fun q => decide (((trackerLit s q.snd && hasWindow s q.snd) = true) ∧
    ((decide (6 ≤ q.snd) && sourceStill s q.snd && (tracker s q.snd).cand.isNone) = false) ∧
    (decide (Machine.get s (trkIdx q.snd) 3 ≤ if (tracker s q.snd).cand.isNone = true then (tracker s q.snd).coasts + 1 else 0) = true) ∧ (6 ≤ q.snd) ∧
    ((tracker s q.snd).next < 12) ∧ (toothCycle s q.snd ≤ 12) ∧ ((tracker s q.snd).acq = Acquire.following f))) = true) ∧
  (∃ (s : Machine.State) (st : Fin 6) (tt : Fin 12) (f : Nat) (j : Nat), ([(Instr.bdWindowClose st, st.val), (Instr.encoderWindowClose tt, 6 + tt.val)]).any (fun q => decide (((trackerLit s q.snd && hasWindow s q.snd) = true) ∧
    ((decide (6 ≤ q.snd) && sourceStill s q.snd && (tracker s q.snd).cand.isNone) = false) ∧
    (decide (Machine.get s (trkIdx q.snd) 3 ≤ if (tracker s q.snd).cand.isNone = true then (tracker s q.snd).coasts + 1 else 0) = false) ∧
    ((tracker s q.snd).acq = Acquire.following f) ∧ (f + 1 < 16 * toothCycle s q.snd) ∧ (j ≠ q.snd))) = true) ∧
  (∃ (s : Machine.State) (st : Fin 6) (tt : Fin 12) (f : Nat), ([(Instr.bdWindowClose st, st.val), (Instr.encoderWindowClose tt, 6 + tt.val)]).any (fun q => decide (((trackerLit s q.snd && hasWindow s q.snd) = true) ∧
    ((decide (6 ≤ q.snd) && sourceStill s q.snd && (tracker s q.snd).cand.isNone) = false) ∧
    (decide (Machine.get s (trkIdx q.snd) 3 ≤ if (tracker s q.snd).cand.isNone = true then (tracker s q.snd).coasts + 1 else 0) = false) ∧ (6 ≤ q.snd) ∧
    ((tracker s q.snd).next < 12) ∧ (toothCycle s q.snd ≤ 12) ∧ ((tracker s q.snd).acq = Acquire.following f) ∧
    (f + 1 < 16 * toothCycle s q.snd))) = true) ∧
  (∃ (s : Machine.State) (st : Fin 6) (tt : Fin 12) (f : Nat) (j : Nat), ([(Instr.bdWindowClose st, st.val), (Instr.encoderWindowClose tt, 6 + tt.val)]).any (fun q => decide (((trackerLit s q.snd && hasWindow s q.snd) = true) ∧
    ((decide (6 ≤ q.snd) && sourceStill s q.snd && (tracker s q.snd).cand.isNone) = false) ∧
    (decide (Machine.get s (trkIdx q.snd) 3 ≤ if (tracker s q.snd).cand.isNone = true then (tracker s q.snd).coasts + 1 else 0) = false) ∧
    ((tracker s q.snd).acq = Acquire.following f) ∧ (16 * toothCycle s q.snd ≤ f + 1) ∧ (j ≠ q.snd))) = true) ∧
  (∃ (s : Machine.State) (st : Fin 6) (tt : Fin 12) (f : Nat), ([(Instr.bdWindowClose st, st.val), (Instr.encoderWindowClose tt, 6 + tt.val)]).any (fun q => decide (((trackerLit s q.snd && hasWindow s q.snd) = true) ∧
    ((decide (6 ≤ q.snd) && sourceStill s q.snd && (tracker s q.snd).cand.isNone) = false) ∧
    (decide (Machine.get s (trkIdx q.snd) 3 ≤ if (tracker s q.snd).cand.isNone = true then (tracker s q.snd).coasts + 1 else 0) = false) ∧ (6 ≤ q.snd) ∧
    ((tracker s q.snd).next < 12) ∧ (toothCycle s q.snd ≤ 12) ∧ ((tracker s q.snd).acq = Acquire.following f) ∧
    (16 * toothCycle s q.snd ≤ f + 1))) = true) ∧
  (∃ (s : Machine.State) (st : Fin 6) (tt : Fin 12) (j : Nat), ([(Instr.bdWindowClose st, st.val), (Instr.encoderWindowClose tt, 6 + tt.val)]).any (fun q => decide (((trackerLit s q.snd && hasWindow s q.snd) = true) ∧
    ((decide (6 ≤ q.snd) && sourceStill s q.snd && (tracker s q.snd).cand.isNone) = false) ∧ ((tracker s q.snd).acq = Acquire.idle) ∧
    (decide (Machine.get s (trkIdx q.snd) 3 ≤ if (tracker s q.snd).cand.isNone = true then (tracker s q.snd).coasts + 1 else 0) = false) ∧
    (j ≠ q.snd))) = true) ∧
  (∃ (s : Machine.State) (st : Fin 6) (tt : Fin 12), ([(Instr.bdWindowClose st, st.val), (Instr.encoderWindowClose tt, 6 + tt.val)]).any (fun q => decide (((trackerLit s q.snd && hasWindow s q.snd) = true) ∧
    ((decide (6 ≤ q.snd) && sourceStill s q.snd && (tracker s q.snd).cand.isNone) = false) ∧ ((tracker s q.snd).acq = Acquire.idle) ∧
    (decide (Machine.get s (trkIdx q.snd) 3 ≤ if (tracker s q.snd).cand.isNone = true then (tracker s q.snd).coasts + 1 else 0) = false) ∧ (6 ≤ q.snd) ∧
    ((tracker s q.snd).next < 12) ∧ (toothCycle s q.snd ≤ 12))) = true) ∧
  (∃ (s : Machine.State) (st : Fin 6) (tt : Fin 12) (j : Nat), ([(Instr.bdWindowClose st, st.val), (Instr.encoderWindowClose tt, 6 + tt.val)]).any (fun q => decide (((trackerLit s q.snd && hasWindow s q.snd) = true) ∧
    ((decide (6 ≤ q.snd) && sourceStill s q.snd && (tracker s q.snd).cand.isNone) = false) ∧ ((tracker s q.snd).acq = Acquire.idle) ∧
    (decide (Machine.get s (trkIdx q.snd) 3 ≤ if (tracker s q.snd).cand.isNone = true then (tracker s q.snd).coasts + 1 else 0) = true) ∧
    (servedWithin s (if q.snd < 6 then Mech.bdTracker else Mech.encoderTracker) q.snd (ticksS 10) = false) ∧ (j ≠ q.snd))) = true) ∧
  (∃ (s : Machine.State) (st : Fin 6) (tt : Fin 12), ([(Instr.bdWindowClose st, st.val), (Instr.encoderWindowClose tt, 6 + tt.val)]).any (fun q => decide (((trackerLit s q.snd && hasWindow s q.snd) = true) ∧
    ((decide (6 ≤ q.snd) && sourceStill s q.snd && (tracker s q.snd).cand.isNone) = false) ∧ ((tracker s q.snd).acq = Acquire.idle) ∧
    (decide (Machine.get s (trkIdx q.snd) 3 ≤ if (tracker s q.snd).cand.isNone = true then (tracker s q.snd).coasts + 1 else 0) = true) ∧
    (servedWithin s (if q.snd < 6 then Mech.bdTracker else Mech.encoderTracker) q.snd (ticksS 10) = false) ∧ (6 ≤ q.snd) ∧
    ((tracker s q.snd).next < 12) ∧ (toothCycle s q.snd ≤ 12))) = true) ∧
  (∃ (s : Machine.State) (st : Fin 6) (tt : Fin 12), (s.md.mode ∈ operating) ∧
    ([(Instr.bdWindowClose st, st.val), (Instr.encoderWindowClose tt, 6 + tt.val)]).any (fun q => decide (((trackerLit s q.snd && hasWindow s q.snd) = true) ∧
    ((decide (6 ≤ q.snd) && sourceStill s q.snd && (tracker s q.snd).cand.isNone) = false) ∧ ((tracker s q.snd).acq = Acquire.idle) ∧
    (decide (Machine.get s (trkIdx q.snd) 3 ≤ if (tracker s q.snd).cand.isNone = true then (tracker s q.snd).coasts + 1 else 0) = true) ∧
    (servedWithin s (if q.snd < 6 then Mech.bdTracker else Mech.encoderTracker) q.snd (ticksS 10) = true))) = true) :=
  ⟨⟨H.st 0, 0, 0, by decide +kernel⟩,
   ⟨H.st 5, 0, 0, by decide +kernel⟩,
   ⟨H.st 69, 0, 0, (3), 1, by decide +kernel⟩,
   ⟨H.ex 0, 0, 0, (3), by decide +kernel⟩,
   ⟨H.st 17, 0, 0, (0), 1, by decide +kernel⟩,
   ⟨H.st 18, 0, 0, (0), by decide +kernel⟩,
   ⟨H.st 19, 0, 0, (127), 1, by decide +kernel⟩,
   ⟨H.st 20, 0, 0, (127), by decide +kernel⟩,
   ⟨H.st 1, 0, 0, 1, by decide +kernel⟩,
   ⟨H.st 4, 0, 0, by decide +kernel⟩,
   ⟨H.st 67, 0, 0, 1, by decide +kernel⟩,
   ⟨H.st 68, 0, 0, by decide +kernel⟩,
   ⟨H.st 66, 0, 0, by decide +kernel⟩⟩

theorem witness_PatchesMeasured :
  (∃ (s : Machine.State) (st : Fin 6), ((present s st.val && (s.md.mode == Mode.calibrate || s.md.mode == Mode.runout || s.md.mode == Mode.rally && flag s 14336 8)) = false)) ∧
  (∃ (s : Machine.State) (st : Fin 6) (marks : List Chevron) (k : Nat), ((present s st.val && (s.md.mode == Mode.calibrate || s.md.mode == Mode.runout || s.md.mode == Mode.rally && flag s 14336 8)) = true) ∧
    (s.md.mode ≠ Mode.rally ∨ rallyArms (keepPatch s (st.val) marks) st.val = false) ∧ (k ≠ st.val)) ∧
  (∃ (s : Machine.State) (st : Fin 6) (marks : List Chevron), ((present s st.val && (s.md.mode == Mode.calibrate || s.md.mode == Mode.runout || s.md.mode == Mode.rally && flag s 14336 8)) = true) ∧
    (s.md.mode ≠ Mode.rally ∨ rallyArms (keepPatch s (st.val) marks) st.val = false) ∧
    (List.filterMap (readingOf s) (List.filter (fun c => sensorOn s c.sensor.val) marks) = [])) ∧
  (∃ (s : Machine.State) (st : Fin 6) (marks : List Chevron), ((present s st.val && (s.md.mode == Mode.calibrate || s.md.mode == Mode.runout || s.md.mode == Mode.rally && flag s 14336 8)) = true) ∧
    (s.md.mode ≠ Mode.rally ∨ rallyArms (keepPatch s (st.val) marks) st.val = false) ∧
    (List.filterMap (readingOf s) (List.filter (fun c => sensorOn s c.sensor.val) marks) ≠ [])) ∧
  (∃ (s : Machine.State) (st : Fin 6) (marks : List Chevron), ((present s st.val && (s.md.mode == Mode.calibrate || s.md.mode == Mode.runout || s.md.mode == Mode.rally && flag s 14336 8)) = true) ∧
    (s.md.mode ≠ Mode.rally ∨ rallyArms (keepPatch s (st.val) marks) st.val = false) ∧
    ((List.filterMap (readingOf s) (List.filter (fun c => sensorOn s c.sensor.val) marks)).length = 1) ∧
    (List.filterMap (readingOf s) (List.filter (fun c => sensorOn s c.sensor.val) marks)).any (fun _ => true) = true) ∧
  (∃ (s : Machine.State) (st : Fin 6) (marks : List Chevron), (s.md.mode = Mode.rally) ∧ (anyOnPath s = true) ∧
    ((present s st.val && (s.md.mode == Mode.calibrate || s.md.mode == Mode.runout || s.md.mode == Mode.rally && flag s 14336 8)) = true) ∧
    (¬7 + st.val ∈ s.armed) ∧ (∀ (p : Nat × Accessor), p ∈ s.stagers → p.fst ≠ 7 + st.val) ∧ (rallyArms (keepPatch s (st.val) marks) st.val = true)) :=
  ⟨⟨H.st 0, 0, by decide +kernel⟩,
   ⟨H.st 76, 0, [], 1, by decide +kernel⟩,
   ⟨H.st 76, 0, [], by decide +kernel⟩,
   ⟨H.st 76, 0, [H.chv 0 0 100 100], by decide +kernel⟩,
   ⟨H.st 76, 0, [H.chv 0 0 100 100], by decide +kernel⟩,
   ⟨H.ex 11, 0, [H.chv 0 0 100 100], by decide +kernel⟩⟩

theorem witness_LinksComeUp :
  (∃ (s : Machine.State) (st : Fin 6) (acc : Accessor) (d : List Byte) (k : Nat), (answering s = true) ∧ (s.clk.gateOpen = true) ∧
    (present s st.val = true) ∧ (linkState s st.val ≠ 1) ∧ (linkState s st.val ≠ 2) ∧ (writeCode s acc (linkIdx st.val) 2 d = 0) ∧ (k ≠ st.val)) ∧
  (∃ (s : Machine.State) (st : Fin 6) (acc : Accessor) (d : List Byte), (answering s = true) ∧
    (s.clk.gateOpen = false ∨ linkState s st.val = 1 ∨ linkState s st.val = 2) ∧ (writeCode s acc (linkIdx st.val) 2 d = 0)) ∧
  (∃ (s : Machine.State) (st : Fin 6), (bringingUp s st.val = false) ∧ ((station s st.val).regsDue = false ∨ linkState s st.val ≠ 3)) ∧
  (∃ (s : Machine.State) (st : Fin 6) (regs : List Nat) (k : Nat), ((station s st.val).regsDue = true) ∧ (linkState s st.val = 3) ∧
    (List.take 4 regs = geoRegs s st.val) ∧ (k ≠ st.val)) ∧
  (∃ (s : Machine.State) (st : Fin 6) (regs : List Nat) (k : Nat), ((station s st.val).regsDue = true) ∧ (linkState s st.val = 3) ∧
    (servedWithin s Mech.link (st.val) (ticksS 1) = false) ∧ (List.take 4 regs ≠ geoRegs s st.val) ∧ (k ≠ st.val)) ∧
  (∃ (s : Machine.State) (st : Fin 6) (regs : List Nat), (s.md.mode ∈ operating) ∧ ((station s st.val).regsDue = true) ∧ (linkState s st.val = 3) ∧
    (servedWithin s Mech.link (st.val) (ticksS 1) = true) ∧ (List.take 4 regs ≠ geoRegs s st.val)) ∧
  (∃ (s : Machine.State) (st : Fin 6) (regs : List Nat) (k : Nat), (bringingUp s st.val = true) ∧ ((station s st.val).linkStep = 2) ∧
    (regs.getD 0 0 ≠ 0) ∧ (regs.getD 0 0 ≠ 65535) ∧ (regs.getD 1 0 = 23100) ∧ (List.take 4 (List.drop 2 regs) = geoRegs s st.val) ∧ (k ≠ st.val)) ∧
  (∃ (s : Machine.State) (st : Fin 6) (regs : List Nat) (k : Nat), (bringingUp s st.val = true) ∧ ((station s st.val).linkStep = 2) ∧
    ((station s st.val).linkRepeat = false) ∧ (¬(regs.getD 0 0 ≠ 0 ∧ regs.getD 0 0 ≠ 65535 ∧ regs.getD 1 0 = 23100 ∧
    List.take 4 (List.drop 2 regs) = geoRegs s st.val)) ∧ (k ≠ st.val)) ∧
  (∃ (s : Machine.State) (st : Fin 6) (regs : List Nat) (k : Nat), (bringingUp s st.val = true) ∧ ((station s st.val).linkStep = 2) ∧
    ((station s st.val).linkRepeat = true) ∧ ((station s st.val).linkServe = false) ∧ (¬(regs.getD 0 0 ≠ 0 ∧ regs.getD 0 0 ≠ 65535 ∧
    regs.getD 1 0 = 23100 ∧ List.take 4 (List.drop 2 regs) = geoRegs s st.val)) ∧ (k ≠ st.val)) ∧
  (∃ (s : Machine.State) (st : Fin 6) (regs : List Nat), (s.md.mode ∈ operating) ∧ (bringingUp s st.val = true) ∧ ((station s st.val).linkStep = 2) ∧
    ((station s st.val).linkRepeat = true) ∧ ((station s st.val).linkServe = true) ∧ (¬(regs.getD 0 0 ≠ 0 ∧ regs.getD 0 0 ≠ 65535 ∧
    regs.getD 1 0 = 23100 ∧ List.take 4 (List.drop 2 regs) = geoRegs s st.val))) ∧
  (∃ (s : Machine.State) (st : Fin 6) (regs : List Nat) (k : Nat), (bringingUp s st.val = true) ∧ ((station s st.val).linkStep = 3) ∧
    (regs.getD 0 0 % 4 = 3) ∧ (k ≠ st.val)) ∧
  (∃ (s : Machine.State) (st : Fin 6) (regs : List Nat) (k : Nat), (bringingUp s st.val = true) ∧ ((station s st.val).linkStep = 4) ∧
    ((regs.getD 0 0).testBit 2 = true) ∧ (k ≠ st.val)) ∧
  (∃ (s : Machine.State) (st : Fin 6) (regs : List Nat), (bringingUp s st.val = true) ∧ ((station s st.val).linkStep = 3 ∧
    regs.getD 0 0 % 4 ≠ 3 ∨ (station s st.val).linkStep = 4 ∧ (regs.getD 0 0).testBit 2 = false ∨ ¬(station s st.val).linkStep ∈ [2, 3, 4])) :=
  ⟨⟨H.st 0, 0, .pf0, [1], 1, by decide +kernel⟩,
   ⟨H.st 80, 0, .pf0, [1], by decide +kernel⟩,
   ⟨H.st 0, 0, by decide +kernel⟩,
   ⟨H.ex 8, 0, [16, 30236, 34406, 0], 1, by decide +kernel⟩,
   ⟨H.ex 8, 0, [], 1, by decide +kernel⟩,
   ⟨H.ex 9, 0, [], by decide +kernel⟩,
   ⟨H.st 80, 0, [7, 23100, 16, 30236, 34406, 0], 1, by decide +kernel⟩,
   ⟨H.st 80, 0, [], 1, by decide +kernel⟩,
   ⟨H.st 81, 0, [], 1, by decide +kernel⟩,
   ⟨H.st 82, 0, [], by decide +kernel⟩,
   ⟨H.st 83, 0, [3], 1, by decide +kernel⟩,
   ⟨H.st 86, 0, [7], 1, by decide +kernel⟩,
   ⟨H.st 83, 0, [], by decide +kernel⟩⟩

theorem witness_LinksFail :
  (∃ (s : Machine.State) (st : Fin 6), (linkState s st.val ≠ 3)) ∧
  (∃ (s : Machine.State) (st : Fin 6), (linkState s st.val = 3) ∧
    ((s.time :: List.filter (fun t => decide (s.time - t < ticksS 1)) (station s st.val).softTimes).length ≤ 64)) ∧
  (∃ (s : Machine.State) (st : Fin 6) (k : Nat), (linkState s st.val = 3) ∧
    (64 < (s.time :: List.filter (fun t => decide (s.time - t < ticksS 1)) (station s st.val).softTimes).length) ∧
    (servedWithin s Mech.link (st.val) (ticksS 1) = false) ∧ (k ≠ st.val)) ∧
  (∃ (s : Machine.State) (st : Fin 6), (linkState s st.val = 3) ∧
    (64 < (s.time :: List.filter (fun t => decide (s.time - t < ticksS 1)) (station s st.val).softTimes).length) ∧
    (servedWithin s Mech.link (st.val) (ticksS 1) = false) ∧ (s.sheets).any (fun sh => decide ((sh.committed = true) ∧
    (sh.fired.testBit st.val = true) ∧ (sh.imaged.testBit st.val = false))) = true) ∧
  (∃ (s : Machine.State) (st : Fin 6), (s.md.mode ∈ operating) ∧ (linkState s st.val = 3) ∧
    (64 < (s.time :: List.filter (fun t => decide (s.time - t < ticksS 1)) (station s st.val).softTimes).length) ∧
    (servedWithin s Mech.link (st.val) (ticksS 1) = true)) ∧
  (∃ (s : Machine.State) (st : Fin 6) (v : Nat) (k : Nat), (linkState s st.val = 3) ∧ (servedWithin s Mech.link (st.val) (ticksS 1) = false) ∧
    ([Instr.ldFltHardFault st v, Instr.serdesLockLoss st v]).any (fun _ => decide ((k ≠ st.val))) = true) ∧
  (∃ (s : Machine.State) (st : Fin 6) (v : Nat), (linkState s st.val = 3) ∧ (servedWithin s Mech.link (st.val) (ticksS 1) = false) ∧
    ([Instr.ldFltHardFault st v, Instr.serdesLockLoss st v]).any (fun _ => decide ((s.sheets).any (fun sh => decide ((sh.committed = true) ∧
    (sh.fired.testBit st.val = true) ∧ (sh.imaged.testBit st.val = false))) = true)) = true) ∧
  (∃ (s : Machine.State) (st : Fin 6) (v : Nat), (s.md.mode ∈ operating) ∧ (linkState s st.val = 3) ∧
    (servedWithin s Mech.link (st.val) (ticksS 1) = true) ∧ ([Instr.ldFltHardFault st v, Instr.serdesLockLoss st v]).any (fun _ => true) = true) ∧
  (∃ (s : Machine.State) (acc : Accessor) (st : Fin 6) (d : List Byte) (k : Nat), (answering s = true) ∧ (writeCode s acc (linkIdx st.val) 9 d = 0) ∧
    (field (ofLe d) 4 2 = 1) ∧
    ([Instr.serviceApcWindow acc st d, Instr.serviceBdWindowsStart acc st d, Instr.serviceBdWindowsStop acc st d, Instr.serviceWindow acc st d]).any (fun _ => decide ((k ≠ st.val))) = true) ∧
  (∃ (s : Machine.State) (acc : Accessor) (st : Fin 6) (d : List Byte) (k : Nat), (answering s = true) ∧ (s.clk.gateOpen = true) ∧
    (s.clk.relock = none) ∧ (serviceLit s st.val = true) ∧ ((station s st.val).scan = none) ∧ (writeCode s acc (linkIdx st.val) 9 d = 0) ∧
    (field (ofLe d) 4 2 ≠ 1) ∧
    ([Instr.serviceApcWindow acc st d, Instr.serviceBdWindowsStart acc st d, Instr.serviceBdWindowsStop acc st d, Instr.serviceWindow acc st d]).any (fun _ => decide ((k ≠ st.val))) = true) ∧
  (∃ (s : Machine.State) (acc : Accessor) (st : Fin 6) (d : List Byte), (answering s = true) ∧ (s.clk.gateOpen = true) ∧ (s.clk.relock = none) ∧
    (serviceLit s st.val = true) ∧ ((station s st.val).scan = none) ∧ (writeCode s acc (linkIdx st.val) 9 d = 0) ∧ (field (ofLe d) 4 2 ≠ 1) ∧
    ([Instr.serviceApcWindow acc st d, Instr.serviceBdWindowsStart acc st d, Instr.serviceBdWindowsStop acc st d, Instr.serviceWindow acc st d]).any (fun _ => decide ((lightBlocks s (st.val) (ofLe d % 16) (field (ofLe d) 4 2) 64 (16 * s.time + 12000) (phaseCycles s (24000 * (ofLe d / 65536)))).any (fun _ => true) = true)) = true) ∧
  (∃ (s : Machine.State) (acc : Accessor) (st : Fin 6) (d : List Byte), (answering s = true) ∧ (s.clk.gateOpen = true) ∧ (s.clk.relock = none) ∧
    (serviceLit s st.val = false) ∧ (writeCode s acc (linkIdx st.val) 9 d = 0) ∧ (field (ofLe d) 4 2 ≠ 1) ∧
    ([Instr.serviceApcWindow acc st d, Instr.serviceBdWindowsStart acc st d, Instr.serviceBdWindowsStop acc st d, Instr.serviceWindow acc st d]).any (fun _ => true) = true) ∧
  (∃ (s : Machine.State) (acc : Accessor) (st : Fin 6) (d : List Byte) (k : Nat), (answering s = true) ∧
    (s.clk.gateOpen = false ∨ s.clk.relock ≠ none) ∧ (writeCode s acc (linkIdx st.val) 9 d = 0) ∧ (field (ofLe d) 4 2 ≠ 1) ∧
    ([Instr.serviceApcWindow acc st d, Instr.serviceBdWindowsStart acc st d, Instr.serviceBdWindowsStop acc st d, Instr.serviceWindow acc st d]).any (fun _ => decide ((k ≠ st.val))) = true) ∧
  (∃ (s : Machine.State), (s.pins.ilockOpen = true)) ∧
  (∃ (s : Machine.State), (s.pins.ilockOpen = false)) :=
  ⟨⟨H.st 0, 0, by decide +kernel⟩,
   ⟨H.st 1, 0, by decide +kernel⟩,
   ⟨H.st 125, 0, 1, by decide +kernel⟩,
   ⟨H.ex 2, 0, by decide +kernel⟩,
   ⟨H.st 126, 0, by decide +kernel⟩,
   ⟨H.st 1, 0, 0, 1, by decide +kernel⟩,
   ⟨H.st 127, 0, 0, by decide +kernel⟩,
   ⟨H.st 126, 0, 0, by decide +kernel⟩,
   ⟨H.st 7, .pf0, 0, [16, 0, 1, 0], 1, by decide +kernel⟩,
   ⟨H.st 7, .pf0, 0, [0, 0, 0, 0], 1, by decide +kernel⟩,
   ⟨H.st 7, .pf0, 0, [0, 0, 100, 0], by decide +kernel⟩,
   ⟨H.st 7, .pf0, 1, [0, 0, 0, 0], by decide +kernel⟩,
   ⟨H.ex 10, .pf0, 0, [0, 0, 0, 0], 1, by decide +kernel⟩,
   ⟨H.st 2, by decide +kernel⟩,
   ⟨H.st 0, by decide +kernel⟩⟩

theorem witness_EventsAct :
  (∃ (s : Machine.State) (slot : Fin 640), (imageEvent s slot.val = none)) ∧
  (∃ (s : Machine.State) (slot : Fin 640), (imageEvent s slot.val).any (fun p => decide ((eventDue s p.fst = none))) = true) ∧
  (∃ (s : Machine.State) (slot : Fin 640), (imageEvent s slot.val).any (fun p => decide ((eventDue s p.fst).any (fun d => decide ((↑(firingTime s) < d.time ∨ modeFires s p.fst = false ∨ tracking s p.fst.target = false ∨ outranked s (slot.val) p.fst = true))) = true)) = true) ∧
  (∃ (s : Machine.State) (slot : Fin 640) (k : Nat), (imageEvent s slot.val).any (fun p => decide ((modeFires s p.fst = true) ∧
    (tracking s p.fst.target = true) ∧ (outranked s (slot.val) p.fst = false) ∧
    (List.filter (fun p_1 => p_1.snd.uid == some p.snd.uid && p_1.snd.ref != 255 && p_1.snd.code != 1 && !p_1.snd.fired) s.slots = []) ∧
    (eventDue s p.fst).any (fun d => decide ((d.time ≤ ↑(firingTime s)) ∧ (k ≠ p.fst.target))) = true)) = true) ∧
  (∃ (s : Machine.State) (slot : Fin 640), (imageEvent s slot.val).any (fun p => decide ((s.time + 16 < p.fst.time))) = true) ∧
  (∃ (s : Machine.State) (slot : Fin 640), (imageEvent s slot.val).any (fun p => decide ((p.fst.time ≤ s.time + 16) ∧
    (p.snd.committed = false))) = true) ∧
  (∃ (s : Machine.State) (slot : Fin 640) (k : Nat), (imageEvent s slot.val).any (fun p => decide ((p.fst.time ≤ s.time + 16) ∧
    (p.snd.committed = true) ∧ (k ≠ p.fst.target))) = true) ∧
  (∃ (s : Machine.State) (acc : Accessor) (d : List Byte), (answering s = true) ∧ (writeCode s acc 9507 1 d = 0) ∧ ((eventOf d).ref = 255) ∧
    (s.time + 16 < (eventOf d).time) ∧ (freeSlot s 640 1024).any (fun _ => true) = true) ∧
  (∃ (s : Machine.State) (acc : Accessor) (d : List Byte), (answering s = true) ∧ (s.log.ready = true) ∧ (writeCode s acc 9507 1 d = 0) ∧
    ((eventOf d).ref = 255) ∧ ((eventOf d).time ≤ s.time + 16) ∧ ((eventOf d).code = 65) ∧ (modeFires s (eventOf d) = true) ∧
    (freeSlot s 640 1024).any (fun _ => true) = true) ∧
  (∃ (s : Machine.State) (acc : Accessor) (d : List Byte), (answering s = true) ∧ (writeCode s acc 9507 2 d = 0)) :=
  ⟨⟨I.st 0, 0, by decide +kernel⟩,
   ⟨I.st 2, 0, by decide +kernel⟩,
   ⟨I.ex 2, 0, by decide +kernel⟩,
   ⟨I.ex 1, 0, 1, by decide +kernel⟩,
   ⟨I.ex 3, 0, by decide +kernel⟩,
   ⟨I.st 2, 0, by decide +kernel⟩,
   ⟨I.st 6, 0, 0, by decide +kernel⟩,
   ⟨I.st 0, .pf0, [65, 0, 5, 255, 9, 0, 0, 0, 244, 243, 5, 42, 1, 0, 0, 0], by decide +kernel⟩,
   ⟨I.st 0, .pf0, [65, 0, 5, 255, 9, 0, 0, 0, 251, 241, 5, 42, 1, 0, 0, 0], by decide +kernel⟩,
   ⟨I.st 0, .pf0, [1, 0], by decide +kernel⟩⟩

theorem witness_SlotsFire :
  (∃ (s : Machine.State) (slot : Fin 1024) (levels : List (Nat × Bool)), ([(Instr.axisMove slot, 16), (Instr.axisRampedStop slot, 17), (Instr.motorSpeed slot, 18), (Instr.pinSet slot, 19), (Instr.arrivalCheck slot levels, 20), (Instr.loopSetPointBank slot, 32), (Instr.loopOn slot, 33), (Instr.loopOff slot, 34), (Instr.sheetExit slot, 64), (Instr.logMark slot, 65), (Instr.captureTrigger slot, 66)]).any (fun q => decide ((readyEvent s (slot.val) q.snd = none))) = true) ∧
  (∃ (s : Machine.State) (slot : Fin 1024) (levels : List (Nat × Bool)), ([(Instr.axisMove slot, 16), (Instr.axisRampedStop slot, 17), (Instr.motorSpeed slot, 18), (Instr.pinSet slot, 19), (Instr.arrivalCheck slot levels, 20), (Instr.loopSetPointBank slot, 32), (Instr.loopOn slot, 33), (Instr.loopOff slot, 34), (Instr.sheetExit slot, 64), (Instr.logMark slot, 65), (Instr.captureTrigger slot, 66)]).any (fun q => decide ((readyEvent s (slot.val) q.snd).any (fun e => decide ((routeFits (match e.uid with | some v => if e.route = 0 then s else decideRoute s v | none => s) e = false))) = true)) = true) ∧
  (∃ (s : Machine.State) (slot : Fin 1024) (levels : List (Nat × Bool)), ([(Instr.axisMove slot, 16), (Instr.axisRampedStop slot, 17), (Instr.motorSpeed slot, 18), (Instr.pinSet slot, 19), (Instr.arrivalCheck slot levels, 20), (Instr.loopSetPointBank slot, 32), (Instr.loopOn slot, 33), (Instr.loopOff slot, 34), (Instr.sheetExit slot, 64), (Instr.logMark slot, 65), (Instr.captureTrigger slot, 66)]).any (fun q => decide ((readyEvent s (slot.val) q.snd).any (fun e => decide ((routeFits (match e.uid with | some v => if e.route = 0 then s else decideRoute s v | none => s) e = true))) = true)) = true) ∧
  (∃ (s : Machine.State) (slot : Fin 1024) (levels : List (Nat × Bool)), ([(Instr.axisMove slot, 16), (Instr.axisRampedStop slot, 17), (Instr.motorSpeed slot, 18), (Instr.pinSet slot, 19), (Instr.arrivalCheck slot levels, 20), (Instr.loopSetPointBank slot, 32), (Instr.loopOn slot, 33), (Instr.loopOff slot, 34), (Instr.sheetExit slot, 64), (Instr.logMark slot, 65), (Instr.captureTrigger slot, 66)]).any (fun q => decide ((readyEvent s (slot.val) q.snd).any (fun e => decide ((routeFits (match e.uid with | some v => if e.route = 0 then s else decideRoute s v | none => s) e = true) ∧
    (e.uid ≠ none ∨ ((eventDue (match e.uid with | some v => if e.route = 0 then s else decideRoute s v | none => s) e).getD { time := 0 }).candidate = true))) = true)) = true) ∧
  (∃ (s : Machine.State) (slot : Fin 1024) (levels : List (Nat × Bool)), ([(Instr.axisMove slot, 16), (Instr.axisRampedStop slot, 17), (Instr.motorSpeed slot, 18), (Instr.pinSet slot, 19), (Instr.arrivalCheck slot levels, 20), (Instr.loopSetPointBank slot, 32), (Instr.loopOn slot, 33), (Instr.loopOff slot, 34), (Instr.sheetExit slot, 64), (Instr.logMark slot, 65), (Instr.captureTrigger slot, 66)]).any (fun q => decide ((readyEvent s (slot.val) q.snd).any (fun e => decide ((routeFits (match e.uid with | some v => if e.route = 0 then s else decideRoute s v | none => s) e = true) ∧
    (e.uid = none) ∧
    (((eventDue (match e.uid with | some v => if e.route = 0 then s else decideRoute s v | none => s) e).getD { time := 0 }).candidate = false))) = true)) = true) ∧
  (∃ (s : Machine.State) (slot : Fin 1024) (levels : List (Nat × Bool)), ([(Instr.axisMove slot, 16), (Instr.axisRampedStop slot, 17), (Instr.motorSpeed slot, 18), (Instr.pinSet slot, 19), (Instr.arrivalCheck slot levels, 20), (Instr.loopSetPointBank slot, 32), (Instr.loopOn slot, 33), (Instr.loopOff slot, 34), (Instr.sheetExit slot, 64), (Instr.logMark slot, 65), (Instr.captureTrigger slot, 66)]).any (fun q => decide ((q.snd = 20) ∧
    (readyEvent s (slot.val) q.snd).any (fun e => decide ((routeFits (match e.uid with | some v => if e.route = 0 then s else decideRoute s v | none => s) e = true) ∧
    ((decide (q.snd = 20) && arrivalSeen s (slot.val) levels) = true ∨ e.uid = none))) = true)) = true) ∧
  (∃ (s : Machine.State) (slot : Fin 1024) (levels : List (Nat × Bool)), ([(Instr.axisMove slot, 16), (Instr.axisRampedStop slot, 17), (Instr.motorSpeed slot, 18), (Instr.pinSet slot, 19), (Instr.arrivalCheck slot levels, 20), (Instr.loopSetPointBank slot, 32), (Instr.loopOn slot, 33), (Instr.loopOff slot, 34), (Instr.sheetExit slot, 64), (Instr.logMark slot, 65), (Instr.captureTrigger slot, 66)]).any (fun q => decide ((q.snd = 20) ∧
    ((decide (q.snd = 20) && arrivalSeen s (slot.val) levels) = false) ∧
    (readyEvent s (slot.val) q.snd).any (fun e => decide ((routeFits (match e.uid with | some v => if e.route = 0 then s else decideRoute s v | none => s) e = true) ∧
    (e.uid).any (fun _ => true) = true)) = true)) = true) ∧
  (∃ (s : Machine.State) (slot : Fin 1024) (levels : List (Nat × Bool)), ([(Instr.axisMove slot, 16), (Instr.axisRampedStop slot, 17), (Instr.motorSpeed slot, 18), (Instr.pinSet slot, 19), (Instr.arrivalCheck slot levels, 20), (Instr.loopSetPointBank slot, 32), (Instr.loopOn slot, 33), (Instr.loopOff slot, 34), (Instr.sheetExit slot, 64), (Instr.logMark slot, 65), (Instr.captureTrigger slot, 66)]).any (fun q => decide ((q.snd = 64) ∧
    (readyEvent s (slot.val) q.snd).any (fun e => decide ((routeFits (match e.uid with | some v => if e.route = 0 then s else decideRoute s v | none => s) e = true) ∧
    (e.uid).any (fun v => decide ((sheetOf s v).any (fun sh => decide ((sh.committed = true) ∧ (sh.spoiled = false) ∧
    (s.sheets).any (fun y => decide ((y.uid ≠ v))) = true)) = true)) = true)) = true)) = true) ∧
  (∃ (s : Machine.State) (slot : Fin 1024) (levels : List (Nat × Bool)), (s.log.ready = true) ∧
    ([(Instr.axisMove slot, 16), (Instr.axisRampedStop slot, 17), (Instr.motorSpeed slot, 18), (Instr.pinSet slot, 19), (Instr.arrivalCheck slot levels, 20), (Instr.loopSetPointBank slot, 32), (Instr.loopOn slot, 33), (Instr.loopOff slot, 34), (Instr.sheetExit slot, 64), (Instr.logMark slot, 65), (Instr.captureTrigger slot, 66)]).any (fun q => decide ((q.snd = 65) ∧
    (readyEvent s (slot.val) q.snd).any (fun e => decide ((routeFits (match e.uid with | some v => if e.route = 0 then s else decideRoute s v | none => s) e = true))) = true)) = true) ∧
  (∃ (s : Machine.State) (slot : Fin 1024) (levels : List (Nat × Bool)), (hvActs s = false) ∧
    ([(Instr.axisMove slot, 16), (Instr.axisRampedStop slot, 17), (Instr.motorSpeed slot, 18), (Instr.pinSet slot, 19), (Instr.arrivalCheck slot levels, 20), (Instr.loopSetPointBank slot, 32), (Instr.loopOn slot, 33), (Instr.loopOff slot, 34), (Instr.sheetExit slot, 64), (Instr.logMark slot, 65), (Instr.captureTrigger slot, 66)]).any (fun q => decide ((q.snd ∈ [32, 33, 34]) ∧
    (readyEvent s (slot.val) q.snd).any (fun e => decide ((routeFits (match e.uid with | some v => if e.route = 0 then s else decideRoute s v | none => s) e = true))) = true)) = true) :=
  ⟨⟨I.st 0, 0, [], by decide +kernel⟩,
   ⟨I.st 58, 0, [], by decide +kernel⟩,
   ⟨I.st 10, 0, [], by decide +kernel⟩,
   ⟨I.st 12, 0, [], by decide +kernel⟩,
   ⟨I.st 10, 0, [], by decide +kernel⟩,
   ⟨I.st 26, 0, [], by decide +kernel⟩,
   ⟨I.st 28, 0, [], by decide +kernel⟩,
   ⟨I.st 44, 0, [], by decide +kernel⟩,
   ⟨I.st 46, 0, [], by decide +kernel⟩,
   ⟨I.ex 0, 0, [], by decide +kernel⟩⟩

theorem witness_MotorsRun :
  (∃ (s : Machine.State) (m : Fin 12) (acc : Accessor) (d : List Byte) (k : Nat), (answering s = true) ∧ (pathHeld s (16 + m.val) = true) ∧
    (writeCode s acc (18432 + m.val) 24 d = 0) ∧ (changesSpeed s (m.val) (ofLe d) = true) ∧ (k ≠ m.val)) ∧
  (∃ (s : Machine.State) (m : Fin 12) (acc : Accessor) (d : List Byte) (k : Nat), (answering s = true) ∧ (writeCode s acc (18432 + m.val) 24 d = 0) ∧
    (changesSpeed s (m.val) (ofLe d) = false ∨ pathHeld s (16 + m.val) = false) ∧ (k ≠ m.val)) ∧
  (∃ (s : Machine.State) (m : Fin 12) (acc : Accessor) (d : List Byte), (answering s = true) ∧ (waveform s m.val ≠ 0) ∧
    (motorState s m.val = 0 ∨ motorState s m.val = 6) ∧ (writeCode s acc (18432 + m.val) 24 d = 0) ∧
    (changesSpeed s (m.val) (ofLe d) = false ∨ pathHeld s (16 + m.val) = false) ∧ (entrySpeed s (m.val) (ofLe d) ≠ 0)) ∧
  (∃ (s : Machine.State) (m : Fin 12) (acc : Accessor) (d : List Byte), (answering s = true) ∧ (motorState s m.val = 4 ∨ motorState s m.val = 5) ∧
    (writeCode s acc (18432 + m.val) 24 d = 0) ∧ (changesSpeed s (m.val) (ofLe d) = false ∨ pathHeld s (16 + m.val) = false) ∧
    (changesSpeed s (m.val) (ofLe d) = true)) ∧
  (∃ (s : Machine.State) (m : Fin 12) (acc : Accessor) (d : List Byte), (answering s = true) ∧ (waveform s m.val = 0) ∧ (motorState s m.val ≠ 4) ∧
    (motorState s m.val ≠ 5) ∧ (writeCode s acc (18432 + m.val) 24 d = 0) ∧
    (changesSpeed s (m.val) (ofLe d) = false ∨ pathHeld s (16 + m.val) = false)) ∧
  (∃ (s : Machine.State) (m : Fin 12) (acc : Accessor) (d : List Byte), (answering s = true) ∧ (motorState s m.val ∈ [1, 2, 3, 7]) ∧
    (writeCode s acc (18432 + m.val) 24 d = 0) ∧ (changesSpeed s (m.val) (ofLe d) = false ∨ pathHeld s (16 + m.val) = false)) ∧
  (∃ (s : Machine.State) (m : Fin 12) (p : Fin 6) (k : Nat), (bridgeOn s m.val = true) ∧ (motorState s m.val = 1) ∧ (p.val = m.val) ∧ (k ≠ m.val)) ∧
  (∃ (s : Machine.State) (m : Fin 12) (p : Fin 6), (bridgeOn s m.val = false ∨ motorState s m.val ≠ 1) ∧ (p.val = m.val)) ∧
  (∃ (s : Machine.State) (m : Fin 12) (p : Fin 6) (k : Nat), (bridgeOn s m.val = true) ∧ (motorState s m.val = 2) ∧
    (Machine.get s (motIdx m.val) 18 ≤ (motor s m.val).crossings) ∧ (p.val = m.val) ∧ (k ≠ m.val)) ∧
  (∃ (s : Machine.State) (m : Fin 12) (p : Fin 6) (k : Nat), (bridgeOn s m.val = true) ∧ (motorState s m.val = 2) ∧
    ((motor s m.val).crossings < Machine.get s (motIdx m.val) 18) ∧ ((motor s m.val).alignRetry = false) ∧ (p.val = m.val) ∧ (k ≠ m.val)) ∧
  (∃ (s : Machine.State) (m : Fin 12) (p : Fin 6), (bridgeOn s m.val = false ∨ motorState s m.val ≠ 2) ∧ (p.val = m.val)) ∧
  (∃ (s : Machine.State) (m : Fin 12) (k : Nat), (s.md.mode ≠ Mode.safestop) ∧ ((motor s m.val).restart = true) ∧ (motorState s m.val = 7) ∧
    (k ≠ m.val)) ∧
  (∃ (s : Machine.State) (m : Fin 12), (s.md.mode ≠ Mode.safestop) ∧ ((motor s m.val).restart = true) ∧ (motorState s m.val = 7) ∧
    ((motor s m.val).target = 0 ∨ waveform s m.val = 0)) ∧
  (∃ (s : Machine.State) (m : Fin 12), (s.md.mode ≠ Mode.safestop) ∧ ((motor s m.val).restart = true) ∧ (motorState s m.val = 7) ∧
    ((motor s m.val).target ≠ 0) ∧ (waveform s m.val ≠ 0)) ∧
  (∃ (s : Machine.State) (m : Fin 12), ((motor s m.val).restart = false ∨ motorState s m.val ≠ 7 ∨ s.md.mode = Mode.safestop)) ∧
  (∃ (s : Machine.State) (m : Fin 12) (k : Nat), (motorState s m.val = 6) ∧ ((motor s m.val).lowSides = true) ∧ (k ≠ m.val)) ∧
  (∃ (s : Machine.State) (m : Fin 12), (motorState s m.val ≠ 6 ∨ (motor s m.val).lowSides = false)) :=
  ⟨⟨J.st 1810, (0), .pf0, [0], (3), by decide +kernel⟩,
   ⟨J.st 0, (0), .pf0, [0], (3), by decide +kernel⟩,
   ⟨J.st 0, (0), .pf0, [1], by decide +kernel⟩,
   ⟨J.st 21, (0), .pf0, [0], by decide +kernel⟩,
   ⟨J.st 1, (0), .pf0, [0], by decide +kernel⟩,
   ⟨J.st 6, (0), .pf0, [0], by decide +kernel⟩,
   ⟨J.st 6, (0), (0), (3), by decide +kernel⟩,
   ⟨J.st 0, (0), (0), by decide +kernel⟩,
   ⟨J.st 297, (0), (0), (3), by decide +kernel⟩,
   ⟨J.st 11, (0), (0), (3), by decide +kernel⟩,
   ⟨J.st 0, (0), (0), by decide +kernel⟩,
   ⟨J.st 559, (0), (3), by decide +kernel⟩,
   ⟨J.st 667, (0), by decide +kernel⟩,
   ⟨J.st 559, (0), by decide +kernel⟩,
   ⟨J.st 0, (0), by decide +kernel⟩,
   ⟨J.st 765, (0), (3), by decide +kernel⟩,
   ⟨J.st 0, (0), by decide +kernel⟩⟩

theorem witness_MotorsCommutate :
  (∃ (s : Machine.State) (m : Fin 12) (p : Fin 6) (k : Nat), (emfDriven s m.val = true) ∧ ((motor s m.val).crossed = false) ∧ (p.val = m.val) ∧
    (k ≠ m.val)) ∧
  (∃ (s : Machine.State) (m : Fin 12) (p : Fin 6), (emfDriven s m.val = false ∨ (motor s m.val).crossed = true) ∧ (p.val = m.val)) ∧
  (∃ (s : Machine.State) (m : Fin 12) (t : Nat), ((decide ((motor s m.val).lastStep ≤ t) && (emfDriven s m.val && stepDue s (m.val) t || bridgeOn s m.val && bdDriven s m.val && bdStepDue s (m.val) t)) = false)) ∧
  (∃ (s : Machine.State) (m : Fin 12) (t : Nat) (k : Nat), ((decide ((motor s m.val).lastStep ≤ t) && (emfDriven s m.val && stepDue s (m.val) t || bridgeOn s m.val && bdDriven s m.val && bdStepDue s (m.val) t)) = true) ∧
    (k ≠ m.val)) ∧
  (∃ (s : Machine.State) (m : Fin 12) (t : Nat), (motorState s m.val ≠ 2) ∧
    ((decide ((motor s m.val).lastStep ≤ t) && (emfDriven s m.val && stepDue s (m.val) t || bridgeOn s m.val && bdDriven s m.val && bdStepDue s (m.val) t)) = true)) ∧
  (∃ (s : Machine.State) (m : Fin 12) (t : Nat), (motorState s m.val = 2) ∧
    ((decide ((motor s m.val).lastStep ≤ t) && (emfDriven s m.val && stepDue s (m.val) t || bridgeOn s m.val && bdDriven s m.val && bdStepDue s (m.val) t)) = true)) ∧
  (∃ (s : Machine.State) (m : Fin 12) (t : Nat), ((tracking s m.val && (motorState s m.val == 4 || motorState s m.val == 5)) = true) ∧
    ((decide ((motor s m.val).lastStep ≤ t) && (emfDriven s m.val && stepDue s (m.val) t || bridgeOn s m.val && bdDriven s m.val && bdStepDue s (m.val) t)) = true)) ∧
  (∃ (s : Machine.State) (m : Fin 12) (t : Nat), ((tracking s m.val && (motorState s m.val == 4 || motorState s m.val == 5)) = false) ∧
    ((decide ((motor s m.val).lastStep ≤ t) && (emfDriven s m.val && stepDue s (m.val) t || bridgeOn s m.val && bdDriven s m.val && bdStepDue s (m.val) t)) = true)) ∧
  (∃ (s : Machine.State) (m : Fin 12), (waveform s m.val ≠ 3) ∧ (waveform s m.val ≠ 4)) ∧
  (∃ (s : Machine.State) (m : Fin 12) (code : Fin 8) (k1 : Nat), (waveform s m.val = 3 ∨ waveform s m.val = 4) ∧
    (hallSector (motor s m.val).hall = none) ∧ (hallSector (hallMasked s m.val code.val)).any (fun _ => decide ((k1 ≠ m.val))) = true) ∧
  (∃ (s : Machine.State) (m : Fin 12) (code : Fin 8), (waveform s m.val = 3 ∨ waveform s m.val = 4) ∧
    (hallSector (hallMasked s m.val code.val)).any (fun k => decide ((hallSector (motor s m.val).hall = some k))) = true) ∧
  (∃ (s : Machine.State) (m : Fin 12) (code : Fin 8) (back : Bool) (k1 : Nat), (waveform s m.val = 3 ∨ waveform s m.val = 4) ∧
    (hallSector (hallMasked s m.val code.val)).any (fun k => decide ((hallSector (motor s m.val).hall).any (fun j => decide ((k = if back = true then (j + 5) % 6 else (j + 1) % 6) ∧
    (k1 ≠ m.val))) = true)) = true) ∧
  (∃ (s : Machine.State) (m : Fin 12) (code : Fin 8) (back : Bool), (waveform s m.val = 3 ∨ waveform s m.val = 4) ∧
    (Machine.get s (motIdx m.val) 14 = 255) ∧
    (hallSector (hallMasked s m.val code.val)).any (fun k => decide ((hallSector (motor s m.val).hall).any (fun j => decide ((k = if back = true then (j + 5) % 6 else (j + 1) % 6))) = true)) = true) :=
  ⟨⟨J.st 12, 0, 0, 1, by decide +kernel⟩,
   ⟨J.st 0, 0, 0, by decide +kernel⟩,
   ⟨J.st 0, 0, 0, by decide +kernel⟩,
   ⟨J.st 12, 0, 5, 1, by decide +kernel⟩,
   ⟨J.st 17, 0, 5, by decide +kernel⟩,
   ⟨J.st 12, 0, 5, by decide +kernel⟩,
   ⟨J.st 22, 0, 5, by decide +kernel⟩,
   ⟨J.st 12, 0, 5, by decide +kernel⟩,
   ⟨J.st 0, 0, by decide +kernel⟩,
   ⟨J.st 0, 6, 1, 0, by decide +kernel⟩,
   ⟨J.st 843, 0, 1, by decide +kernel⟩,
   ⟨J.st 843, 0, 3, false, 1, by decide +kernel⟩,
   ⟨J.st 843, 0, 3, false, by decide +kernel⟩⟩

theorem witness_PwmPeriods :
  (∃ (s : Machine.State) (m : Fin 12), ((motor s m.val).gatesLow = true)) ∧
  (∃ (s : Machine.State) (m : Fin 12) (k : Nat), ((motor s m.val).gatesLow = false) ∧ (motorState s m.val = 7) ∧ (k ≠ m.val)) ∧
  (∃ (dead : Nat) (k : Nat) (t : Nat) (a : Nat) (b : Nat) (l : Leg) (inside : Drive) (outside : Drive), (a ≤ b) ∧
    ((legRun dead k l (pulseParts t a b inside outside)).fst).any (fun e => decide ((e.on = false) ∧
    ((legRun dead k l (pulseParts t a b inside outside)).fst).any (fun f => decide ((f.on = true) ∧ (e.side ≠ f.side) ∧
    (e.at_ ≤ f.at_))) = true)) = true) ∧
  (∃ (s : Machine.State) (m : Fin 12) (k : Nat), (bridgeOn s m.val = true) ∧ (m.val < 6 ∨ Machine.get s (motIdx m.val) 14 = 255) ∧
    (waveform s m.val ≠ 3) ∧ ((motor s m.val).lowSides = false) ∧ ((motor s m.val).holds < 16) ∧
    (100 * (getS s 32 (motIdx m.val) 49).natAbs ≤ 110 * Machine.get s (motIdx m.val) 12) ∧
    (motorState s m.val = 4 ∨ motorState s m.val = 5 → withinPerMille 20 (commandedNow s m.val) (getS s 32 (motIdx m.val) 49) = true) ∧
    (motorState s m.val ≠ 6) ∧ ((decide ((motor s m.val).target = 0) && rampOver s m.val && nearStill s m.val) = false) ∧ (k ≠ m.val)) ∧
  (∃ (s : Machine.State) (m : Fin 12) (k : Nat), (bridgeOn s m.val = true) ∧ (m.val < 6 ∨ Machine.get s (motIdx m.val) 14 = 255) ∧
    (waveform s m.val = 3) ∧ ((motor s m.val).lowSides = false) ∧ (100 * (getS s 32 (motIdx m.val) 49).natAbs ≤ 110 * Machine.get s (motIdx m.val) 12) ∧
    (motorState s m.val = 4 ∨ motorState s m.val = 5 → withinPerMille 20 (commandedNow s m.val) (getS s 32 (motIdx m.val) 49) = true) ∧
    (motorState s m.val ≠ 6) ∧ ((decide ((motor s m.val).target = 0) && rampOver s m.val && nearStill s m.val) = false) ∧
    ((placement (pwmPeriodNs s m.val) (deadNs s m.val) (windowNs s m.val) (motor s m.val).duties).hold = false) ∧ (k ≠ m.val)) ∧
  (∃ (s : Machine.State) (m : Fin 12) (k : Nat), (bridgeOn s m.val = true) ∧ (m.val < 6 ∨ Machine.get s (motIdx m.val) 14 = 255) ∧
    (waveform s m.val = 3) ∧ ((motor s m.val).lowSides = false) ∧ (100 * (getS s 32 (motIdx m.val) 49).natAbs ≤ 110 * Machine.get s (motIdx m.val) 12) ∧
    (motorState s m.val = 4 ∨ motorState s m.val = 5 → withinPerMille 20 (commandedNow s m.val) (getS s 32 (motIdx m.val) 49) = true) ∧
    (motorState s m.val ≠ 6) ∧ ((decide ((motor s m.val).target = 0) && rampOver s m.val && nearStill s m.val) = false) ∧
    ((placement (pwmPeriodNs s m.val) (deadNs s m.val) (windowNs s m.val) (motor s m.val).duties).hold = true) ∧ ((motor s m.val).holds < 15) ∧
    (k ≠ m.val)) ∧
  (∃ (s : Machine.State) (m : Fin 12) (k : Nat), (bridgeOn s m.val = true) ∧ (m.val < 6 ∨ Machine.get s (motIdx m.val) 14 = 255) ∧
    (waveform s m.val ≠ 3 ∨ (motor s m.val).lowSides = true) ∧ ((motor s m.val).holds < 16) ∧
    (100 * (getS s 32 (motIdx m.val) 49).natAbs ≤ 110 * Machine.get s (motIdx m.val) 12) ∧
    (motorState s m.val = 4 ∨ motorState s m.val = 5 → withinPerMille 20 (commandedNow s m.val) (getS s 32 (motIdx m.val) 49) = true) ∧
    (motorState s m.val = 6) ∧ ((motor s m.val).lowSides = false) ∧ (nearStill s m.val = false) ∧ (k ≠ m.val)) ∧
  (∃ (s : Machine.State) (m : Fin 12) (k : Nat), (bridgeOn s m.val = true) ∧ (m.val < 6 ∨ Machine.get s (motIdx m.val) 14 = 255) ∧
    (waveform s m.val ≠ 3 ∨ (motor s m.val).lowSides = true) ∧ ((motor s m.val).holds < 16) ∧
    (100 * (getS s 32 (motIdx m.val) 49).natAbs ≤ 110 * Machine.get s (motIdx m.val) 12) ∧
    (motorState s m.val = 4 ∨ motorState s m.val = 5 → withinPerMille 20 (commandedNow s m.val) (getS s 32 (motIdx m.val) 49) = true) ∧
    ((motor s m.val).lowSides = false) ∧ (motorState s m.val = 6 ∧ nearStill s m.val = true ∨ motorState s m.val ≠ 6 ∧
    (decide ((motor s m.val).target = 0) && rampOver s m.val && nearStill s m.val) = true) ∧ (k ≠ m.val)) ∧
  (∃ (s : Machine.State) (m : Fin 12) (k : Nat), (bridgeOn s m.val = true) ∧ (m.val < 6 ∨ Machine.get s (motIdx m.val) 14 = 255) ∧
    (waveform s m.val ≠ 3 ∨ (motor s m.val).lowSides = true) ∧ ((motor s m.val).holds < 16) ∧
    (100 * (getS s 32 (motIdx m.val) 49).natAbs ≤ 110 * Machine.get s (motIdx m.val) 12) ∧
    (motorState s m.val = 4 ∨ motorState s m.val = 5 → withinPerMille 20 (commandedNow s m.val) (getS s 32 (motIdx m.val) 49) = true) ∧ (m.val < 6) ∧
    (motorState s m.val = 3) ∧ ((decide ((motor s m.val).target = 0) && rampOver s m.val && nearStill s m.val) = false) ∧
    (withinPerMille 5 (motor s m.val).target (getS s 32 (motIdx m.val) 49) = true) ∧ ((motor s m.val).inBand = none) ∧ (k ≠ m.val)) ∧
  (∃ (s : Machine.State) (m : Fin 12) (k : Nat), (bridgeOn s m.val = true) ∧ (m.val < 6 ∨ Machine.get s (motIdx m.val) 14 = 255) ∧
    (waveform s m.val ≠ 3 ∨ (motor s m.val).lowSides = true) ∧ ((motor s m.val).holds < 16) ∧
    (100 * (getS s 32 (motIdx m.val) 49).natAbs ≤ 110 * Machine.get s (motIdx m.val) 12) ∧
    (motorState s m.val = 4 ∨ motorState s m.val = 5 → withinPerMille 20 (commandedNow s m.val) (getS s 32 (motIdx m.val) 49) = true) ∧ (m.val < 6) ∧
    (motorState s m.val = 3) ∧ ((decide ((motor s m.val).target = 0) && rampOver s m.val && nearStill s m.val) = false) ∧
    (withinPerMille 5 (motor s m.val).target (getS s 32 (motIdx m.val) 49) = true) ∧
    ((motor s m.val).inBand).any (fun b => decide ((b + ticksMs 100 ≤ s.time) ∧ (k ≠ m.val))) = true) :=
  ⟨⟨J.st 0, (0), by decide +kernel⟩,
   ⟨J.st 36, (0), (3), by decide +kernel⟩,
   ⟨(100), (0), (1000), (100), (600), {}, .high, .low, by decide +kernel⟩,
   ⟨J.st 6, (0), (3), by decide +kernel⟩,
   ⟨J.st 9, (0), (3), by decide +kernel⟩,
   ⟨J.st 1707, (0), (3), by decide +kernel⟩,
   ⟨J.st 31, (0), (3), by decide +kernel⟩,
   ⟨J.st 118, (0), (3), by decide +kernel⟩,
   ⟨J.st 16, (0), (3), by decide +kernel⟩,
   ⟨J.st 1278, (0), (3), by decide +kernel⟩⟩

theorem witness_MotorFaults :
  (∃ (s : Machine.State) (m : Fin 12) (code : Int) (k : Nat), (bridgeOn s m.val = true) ∧ (motorRepeats s (m.val) 1 = false) ∧
    (overCurrent s (m.val) code = true) ∧ (k ≠ m.val)) ∧
  (∃ (s : Machine.State) (m : Fin 12) (code : Int), (s.md.mode ≠ Mode.safestop) ∧ (bridgeOn s m.val = true) ∧ (motorRepeats s (m.val) 1 = false) ∧
    (overCurrent s (m.val) code = true)) ∧
  (∃ (s : Machine.State) (m : Fin 12) (code : Int), (bridgeOn s m.val = true) ∧ (motorRepeats s (m.val) 1 = false) ∧
    (overCurrent s (m.val) code = true) ∧ (s.sheets).any (fun sh => decide ((sh.committed = true) ∧ (sh.mask.testBit (16 + m.val) = true))) = true) ∧
  (∃ (s : Machine.State) (m : Fin 12) (code : Int), (s.md.mode ∈ operating) ∧ (bridgeOn s m.val = true) ∧ (motorRepeats s (m.val) 1 = true) ∧
    (overCurrent s (m.val) code = true)) ∧
  (∃ (s : Machine.State) (m : Fin 12) (code : Int), (bridgeOn s m.val = true) ∧ (overCurrent s (m.val) code = false)) ∧
  (∃ (s : Machine.State) (m : Fin 12) (k : Nat), (bridgeOn s m.val = true) ∧ (stalled s m.val = true) ∧ (motorRepeats s (m.val) 2 = false) ∧
    (k ≠ m.val)) ∧
  (∃ (s : Machine.State) (m : Fin 12), (s.md.mode ≠ Mode.safestop) ∧ (bridgeOn s m.val = true) ∧ (stalled s m.val = true) ∧
    (motorRepeats s (m.val) 2 = false)) ∧
  (∃ (s : Machine.State) (m : Fin 12), (bridgeOn s m.val = true) ∧ (stalled s m.val = true) ∧ (motorRepeats s (m.val) 2 = false) ∧
    (s.sheets).any (fun sh => decide ((sh.committed = true) ∧ (sh.mask.testBit (16 + m.val) = true))) = true) ∧
  (∃ (s : Machine.State) (m : Fin 12), (s.md.mode ∈ operating) ∧ (bridgeOn s m.val = true) ∧ (stalled s m.val = true) ∧
    (motorRepeats s (m.val) 2 = true)) ∧
  (∃ (s : Machine.State) (m : Fin 12), (bridgeOn s m.val = true) ∧ (stalled s m.val = false)) ∧
  (∃ (s : Machine.State) (m : Fin 12) (p : Fin 6) (k : Nat), (bridgeOn s m.val = true) ∧ (emfDriven s m.val = true) ∧ (motorState s m.val = 3) ∧
    ((motor s m.val).crossed = false) ∧ (motorRepeats s (m.val) 4 = false) ∧ (p.val = m.val) ∧ (k ≠ m.val)) ∧
  (∃ (s : Machine.State) (m : Fin 12) (p : Fin 6), (s.md.mode ≠ Mode.safestop) ∧ (bridgeOn s m.val = true) ∧ (emfDriven s m.val = true) ∧
    (motorState s m.val = 3) ∧ ((motor s m.val).crossed = false) ∧ (motorRepeats s (m.val) 4 = false) ∧ (p.val = m.val)) ∧
  (∃ (s : Machine.State) (m : Fin 12) (p : Fin 6), (bridgeOn s m.val = true) ∧ (emfDriven s m.val = true) ∧ (motorState s m.val = 3) ∧
    ((motor s m.val).crossed = false) ∧ (motorRepeats s (m.val) 4 = false) ∧ (p.val = m.val) ∧ (s.sheets).any (fun sh => decide ((sh.committed = true) ∧
    (sh.mask.testBit (16 + m.val) = true))) = true) ∧
  (∃ (s : Machine.State) (m : Fin 12) (p : Fin 6), (s.md.mode ∈ operating) ∧ (bridgeOn s m.val = true) ∧ (emfDriven s m.val = true) ∧
    (motorState s m.val = 3) ∧ ((motor s m.val).crossed = false) ∧ (motorRepeats s (m.val) 4 = true) ∧ (p.val = m.val)) ∧
  (∃ (s : Machine.State) (m : Fin 12) (p : Fin 6), (bridgeOn s m.val = true) ∧
    (emfDriven s m.val = false ∨ motorState s m.val ≠ 3 ∨ (motor s m.val).crossed = true) ∧ (p.val = m.val)) ∧
  (∃ (s : Machine.State) (m : Fin 12) (p : Fin 6) (k : Nat), (bridgeOn s m.val = true) ∧ (motorState s m.val = 2) ∧
    ((motor s m.val).crossings < Machine.get s (motIdx m.val) 18) ∧ ((motor s m.val).alignRetry = true) ∧ (motorRepeats s (m.val) 7 = false) ∧
    (p.val = m.val) ∧ (k ≠ m.val)) ∧
  (∃ (s : Machine.State) (m : Fin 12) (p : Fin 6), (s.md.mode ≠ Mode.safestop) ∧ (bridgeOn s m.val = true) ∧ (motorState s m.val = 2) ∧
    ((motor s m.val).crossings < Machine.get s (motIdx m.val) 18) ∧ ((motor s m.val).alignRetry = true) ∧ (motorRepeats s (m.val) 7 = false) ∧
    (p.val = m.val)) ∧
  (∃ (s : Machine.State) (m : Fin 12) (p : Fin 6), (bridgeOn s m.val = true) ∧ (motorState s m.val = 2) ∧
    ((motor s m.val).crossings < Machine.get s (motIdx m.val) 18) ∧ ((motor s m.val).alignRetry = true) ∧ (motorRepeats s (m.val) 7 = false) ∧
    (p.val = m.val) ∧ (s.sheets).any (fun sh => decide ((sh.committed = true) ∧ (sh.mask.testBit (16 + m.val) = true))) = true) ∧
  (∃ (s : Machine.State) (m : Fin 12) (p : Fin 6), (s.md.mode ∈ operating) ∧ (bridgeOn s m.val = true) ∧ (motorState s m.val = 2) ∧
    ((motor s m.val).crossings < Machine.get s (motIdx m.val) 18) ∧ ((motor s m.val).alignRetry = true) ∧ (motorRepeats s (m.val) 7 = true) ∧
    (p.val = m.val)) ∧
  (∃ (s : Machine.State) (m : Fin 12) (code : Fin 8) (k : Nat), (bridgeOn s m.val = true) ∧ (waveform s m.val = 3 ∨ waveform s m.val = 4) ∧
    (motorRepeats s (m.val) 3 = false) ∧
    (Option.all (fun k => Option.any (fun j => k != j && k != (j + 1) % 6 && k != (j + 5) % 6) (hallSector (motor s m.val).hall)) (hallSector (hallMasked s m.val code.val)) = true) ∧
    (k ≠ m.val)) ∧
  (∃ (s : Machine.State) (m : Fin 12) (code : Fin 8), (s.md.mode ≠ Mode.safestop) ∧ (bridgeOn s m.val = true) ∧
    (waveform s m.val = 3 ∨ waveform s m.val = 4) ∧ (motorRepeats s (m.val) 3 = false) ∧
    (Option.all (fun k => Option.any (fun j => k != j && k != (j + 1) % 6 && k != (j + 5) % 6) (hallSector (motor s m.val).hall)) (hallSector (hallMasked s m.val code.val)) = true)) ∧
  (∃ (s : Machine.State) (m : Fin 12) (code : Fin 8), (bridgeOn s m.val = true) ∧ (waveform s m.val = 3 ∨ waveform s m.val = 4) ∧
    (motorRepeats s (m.val) 3 = false) ∧
    (Option.all (fun k => Option.any (fun j => k != j && k != (j + 1) % 6 && k != (j + 5) % 6) (hallSector (motor s m.val).hall)) (hallSector (hallMasked s m.val code.val)) = true) ∧
    (s.sheets).any (fun sh => decide ((sh.committed = true) ∧ (sh.mask.testBit (16 + m.val) = true))) = true) ∧
  (∃ (s : Machine.State) (m : Fin 12) (code : Fin 8), (s.md.mode ∈ operating) ∧ (bridgeOn s m.val = true) ∧
    (waveform s m.val = 3 ∨ waveform s m.val = 4) ∧ (motorRepeats s (m.val) 3 = true) ∧
    (Option.all (fun k => Option.any (fun j => k != j && k != (j + 1) % 6 && k != (j + 5) % 6) (hallSector (motor s m.val).hall)) (hallSector (hallMasked s m.val code.val)) = true)) ∧
  (∃ (s : Machine.State) (m : Fin 12) (k : Nat), (bridgeOn s m.val = true) ∧ (m.val < 6 ∨ Machine.get s (motIdx m.val) 14 = 255) ∧
    (waveform s m.val = 3) ∧ ((motor s m.val).lowSides = false) ∧ (15 ≤ (motor s m.val).holds) ∧
    ((placement (pwmPeriodNs s m.val) (deadNs s m.val) (windowNs s m.val) (motor s m.val).duties).hold = true) ∧ (motorRepeats s (m.val) 5 = false) ∧
    (k ≠ m.val)) ∧
  (∃ (s : Machine.State) (m : Fin 12), (s.md.mode ≠ Mode.safestop) ∧ (bridgeOn s m.val = true) ∧ (m.val < 6 ∨ Machine.get s (motIdx m.val) 14 = 255) ∧
    (waveform s m.val = 3) ∧ ((motor s m.val).lowSides = false) ∧ (15 ≤ (motor s m.val).holds) ∧
    ((placement (pwmPeriodNs s m.val) (deadNs s m.val) (windowNs s m.val) (motor s m.val).duties).hold = true) ∧ (motorRepeats s (m.val) 5 = false)) ∧
  (∃ (s : Machine.State) (m : Fin 12), (bridgeOn s m.val = true) ∧ (m.val < 6 ∨ Machine.get s (motIdx m.val) 14 = 255) ∧ (waveform s m.val = 3) ∧
    ((motor s m.val).lowSides = false) ∧ (15 ≤ (motor s m.val).holds) ∧
    ((placement (pwmPeriodNs s m.val) (deadNs s m.val) (windowNs s m.val) (motor s m.val).duties).hold = true) ∧ (motorRepeats s (m.val) 5 = false) ∧
    (s.sheets).any (fun sh => decide ((sh.committed = true) ∧ (sh.mask.testBit (16 + m.val) = true))) = true) ∧
  (∃ (s : Machine.State) (m : Fin 12), (s.md.mode ∈ operating) ∧ (bridgeOn s m.val = true) ∧ (m.val < 6 ∨ Machine.get s (motIdx m.val) 14 = 255) ∧
    (waveform s m.val = 3) ∧ ((motor s m.val).lowSides = false) ∧ (15 ≤ (motor s m.val).holds) ∧
    ((placement (pwmPeriodNs s m.val) (deadNs s m.val) (windowNs s m.val) (motor s m.val).duties).hold = true) ∧ (motorRepeats s (m.val) 5 = true)) ∧
  (∃ (s : Machine.State) (m : Fin 12) (k : Nat), (bridgeOn s m.val = true) ∧ (m.val < 6 ∨ Machine.get s (motIdx m.val) 14 = 255) ∧
    (waveform s m.val ≠ 3 ∨ (motor s m.val).lowSides = true) ∧ ((motor s m.val).holds < 16) ∧
    (110 * Machine.get s (motIdx m.val) 12 < 100 * (getS s 32 (motIdx m.val) 49).natAbs) ∧ (motorRepeats s (m.val) 6 = false) ∧ (k ≠ m.val)) ∧
  (∃ (s : Machine.State) (m : Fin 12), (s.md.mode ≠ Mode.safestop) ∧ (bridgeOn s m.val = true) ∧ (m.val < 6 ∨ Machine.get s (motIdx m.val) 14 = 255) ∧
    (waveform s m.val ≠ 3 ∨ (motor s m.val).lowSides = true) ∧ ((motor s m.val).holds < 16) ∧
    (110 * Machine.get s (motIdx m.val) 12 < 100 * (getS s 32 (motIdx m.val) 49).natAbs) ∧ (motorRepeats s (m.val) 6 = false)) ∧
  (∃ (s : Machine.State) (m : Fin 12), (bridgeOn s m.val = true) ∧ (m.val < 6 ∨ Machine.get s (motIdx m.val) 14 = 255) ∧
    (waveform s m.val ≠ 3 ∨ (motor s m.val).lowSides = true) ∧ ((motor s m.val).holds < 16) ∧
    (110 * Machine.get s (motIdx m.val) 12 < 100 * (getS s 32 (motIdx m.val) 49).natAbs) ∧ (motorRepeats s (m.val) 6 = false) ∧
    (s.sheets).any (fun sh => decide ((sh.committed = true) ∧ (sh.mask.testBit (16 + m.val) = true))) = true) ∧
  (∃ (s : Machine.State) (m : Fin 12), (s.md.mode ∈ operating) ∧ (bridgeOn s m.val = true) ∧ (m.val < 6 ∨ Machine.get s (motIdx m.val) 14 = 255) ∧
    (waveform s m.val ≠ 3 ∨ (motor s m.val).lowSides = true) ∧ ((motor s m.val).holds < 16) ∧
    (110 * Machine.get s (motIdx m.val) 12 < 100 * (getS s 32 (motIdx m.val) 49).natAbs) ∧ (motorRepeats s (m.val) 6 = true)) ∧
  (∃ (s : Machine.State) (m : Fin 12) (k : Nat), (bridgeOn s m.val = true) ∧ (m.val < 6 ∨ Machine.get s (motIdx m.val) 14 = 255) ∧
    (waveform s m.val ≠ 3 ∨ (motor s m.val).lowSides = true) ∧ ((motor s m.val).holds < 16) ∧
    (100 * (getS s 32 (motIdx m.val) 49).natAbs ≤ 110 * Machine.get s (motIdx m.val) 12) ∧ (motorState s m.val = 4 ∨ motorState s m.val = 5) ∧
    (withinPerMille 20 (commandedNow s m.val) (getS s 32 (motIdx m.val) 49) = false) ∧ (motorRepeats s (m.val) 8 = false) ∧ (k ≠ m.val)) ∧
  (∃ (s : Machine.State) (m : Fin 12), (s.md.mode ≠ Mode.safestop) ∧ (bridgeOn s m.val = true) ∧ (m.val < 6 ∨ Machine.get s (motIdx m.val) 14 = 255) ∧
    (waveform s m.val ≠ 3 ∨ (motor s m.val).lowSides = true) ∧ ((motor s m.val).holds < 16) ∧
    (100 * (getS s 32 (motIdx m.val) 49).natAbs ≤ 110 * Machine.get s (motIdx m.val) 12) ∧ (motorState s m.val = 4 ∨ motorState s m.val = 5) ∧
    (withinPerMille 20 (commandedNow s m.val) (getS s 32 (motIdx m.val) 49) = false) ∧ (motorRepeats s (m.val) 8 = false)) ∧
  (∃ (s : Machine.State) (m : Fin 12), (bridgeOn s m.val = true) ∧ (m.val < 6 ∨ Machine.get s (motIdx m.val) 14 = 255) ∧
    (waveform s m.val ≠ 3 ∨ (motor s m.val).lowSides = true) ∧ ((motor s m.val).holds < 16) ∧
    (100 * (getS s 32 (motIdx m.val) 49).natAbs ≤ 110 * Machine.get s (motIdx m.val) 12) ∧ (motorState s m.val = 4 ∨ motorState s m.val = 5) ∧
    (withinPerMille 20 (commandedNow s m.val) (getS s 32 (motIdx m.val) 49) = false) ∧ (motorRepeats s (m.val) 8 = false) ∧
    (s.sheets).any (fun sh => decide ((sh.committed = true) ∧ (sh.mask.testBit (16 + m.val) = true))) = true) ∧
  (∃ (s : Machine.State) (m : Fin 12), (s.md.mode ∈ operating) ∧ (bridgeOn s m.val = true) ∧ (m.val < 6 ∨ Machine.get s (motIdx m.val) 14 = 255) ∧
    (waveform s m.val ≠ 3 ∨ (motor s m.val).lowSides = true) ∧ ((motor s m.val).holds < 16) ∧
    (100 * (getS s 32 (motIdx m.val) 49).natAbs ≤ 110 * Machine.get s (motIdx m.val) 12) ∧ (motorState s m.val = 4 ∨ motorState s m.val = 5) ∧
    (withinPerMille 20 (commandedNow s m.val) (getS s 32 (motIdx m.val) 49) = false) ∧ (motorRepeats s (m.val) 8 = true)) :=
  ⟨⟨J.ex 0, (0), 1500, (3), by decide +kernel⟩,
   ⟨J.ex 0, (0), 1500, by decide +kernel⟩,
   ⟨J.ex 2, (0), 1500, by decide +kernel⟩,
   ⟨J.st 1809, (0), 1500, by decide +kernel⟩,
   ⟨J.ex 0, (0), 0, by decide +kernel⟩,
   ⟨J.ex 4, (0), (3), by decide +kernel⟩,
   ⟨J.ex 4, (0), by decide +kernel⟩,
   ⟨J.ex 4, (0), by decide +kernel⟩,
   ⟨J.ex 15, (0), by decide +kernel⟩,
   ⟨J.ex 0, (0), by decide +kernel⟩,
   ⟨J.ex 1, (0), (0), (3), by decide +kernel⟩,
   ⟨J.ex 1, (0), (0), by decide +kernel⟩,
   ⟨J.ex 2, (0), (0), by decide +kernel⟩,
   ⟨J.st 1816, (0), (0), by decide +kernel⟩,
   ⟨J.ex 0, (0), (0), by decide +kernel⟩,
   ⟨J.ex 3, (0), (0), (3), by decide +kernel⟩,
   ⟨J.ex 3, (0), (0), by decide +kernel⟩,
   ⟨J.ex 3, (0), (0), by decide +kernel⟩,
   ⟨J.ex 58, (0), (0), by decide +kernel⟩,
   ⟨J.ex 0, (0), 0, (3), by decide +kernel⟩,
   ⟨J.ex 0, (0), 0, by decide +kernel⟩,
   ⟨J.ex 7, (0), 0, by decide +kernel⟩,
   ⟨J.ex 29, (0), 0, by decide +kernel⟩,
   ⟨J.ex 0, (0), (3), by decide +kernel⟩,
   ⟨J.ex 0, (0), by decide +kernel⟩,
   ⟨J.ex 7, (0), by decide +kernel⟩,
   ⟨J.ex 40, (0), by decide +kernel⟩,
   ⟨J.ex 1, (0), (3), by decide +kernel⟩,
   ⟨J.ex 1, (0), by decide +kernel⟩,
   ⟨J.ex 2, (0), by decide +kernel⟩,
   ⟨J.ex 46, (0), by decide +kernel⟩,
   ⟨J.ex 6, (0), (3), by decide +kernel⟩,
   ⟨J.ex 6, (0), by decide +kernel⟩,
   ⟨J.ex 6, (0), by decide +kernel⟩,
   ⟨J.ex 72, (0), by decide +kernel⟩⟩

theorem witness_AxisCommands :
  (∃ (s : Machine.State) (acc : Accessor) (a : Fin 16) (d : List Byte) (k : Nat), (answering s = true) ∧ (writeCode s acc (axIdx a.val) 56 d = 0) ∧
    ([Instr.axisMoveCommand acc a d, Instr.groupMoveCommand acc a d]).any (fun _ => decide ((heldOf s (a.val) (moveSet s (a.val) (ofLe d))).any (fun b => decide (((∀ (h : Bool), (axis s b).deferred ≠ some (AxisDeferred.stop h)) ∨ AxisDeferred.move (ofLe d) = AxisDeferred.stop true) ∧
    (k ≠ b))) = true)) = true) ∧
  (∃ (s : Machine.State) (acc : Accessor) (a : Fin 16) (d : List Byte), (answering s = true) ∧ (writeCode s acc (axIdx a.val) 56 d = 0) ∧
    (AxisDeferred.move (ofLe d) ≠ AxisDeferred.stop true) ∧
    ([Instr.axisMoveCommand acc a d, Instr.groupMoveCommand acc a d]).any (fun _ => decide ((heldOf s (a.val) (moveSet s (a.val) (ofLe d))).any (fun b => decide ((∃ h, (axis s b).deferred = some (AxisDeferred.stop h)))) = true)) = true) ∧
  (∃ (s : Machine.State) (acc : Accessor) (a : Fin 16) (d : List Byte) (k : Nat), (answering s = true) ∧
    ((axis s a.val).state = 1 ∨ (axis s a.val).state = 4) ∧ (writeCode s acc (axIdx a.val) 56 d = 0) ∧
    (heldOf s (a.val) (moveSet s (a.val) (ofLe d)) = none) ∧ ((ofLe d).testBit 4 = false) ∧ (recordDist s (a.val) (ofLe d % 16) ≠ 0) ∧
    (towardLimit s (a.val) (recordDist s (a.val) (ofLe d % 16)) = false) ∧
    ([Instr.axisMoveCommand acc a d, Instr.groupMoveCommand acc a d]).any (fun _ => decide ((k ≠ a.val))) = true) ∧
  (∃ (s : Machine.State) (acc : Accessor) (a : Fin 16) (d : List Byte) (k : Nat), (answering s = true) ∧
    ((axis s a.val).state = 1 ∨ (axis s a.val).state = 4) ∧ (writeCode s acc (axIdx a.val) 56 d = 0) ∧
    (heldOf s (a.val) (moveSet s (a.val) (ofLe d)) = none) ∧ ((ofLe d).testBit 4 = false) ∧
    (recordDist s (a.val) (ofLe d % 16) = 0 ∨ towardLimit s (a.val) (recordDist s (a.val) (ofLe d % 16)) = true) ∧
    ([Instr.axisMoveCommand acc a d, Instr.groupMoveCommand acc a d]).any (fun _ => decide ((k ≠ a.val))) = true) ∧
  (∃ (s : Machine.State) (acc : Accessor) (a : Fin 16) (d : List Byte) (k : Nat), (answering s = true) ∧
    ((axis s a.val).state = 2 ∨ (axis s a.val).state = 3 ∨ (axis s a.val).state = 5) ∧ ((axis s a.val).queue = none) ∧
    (writeCode s acc (axIdx a.val) 56 d = 0) ∧ (heldOf s (a.val) (moveSet s (a.val) (ofLe d)) = none) ∧ ((ofLe d).testBit 4 = false) ∧
    ([Instr.axisMoveCommand acc a d, Instr.groupMoveCommand acc a d]).any (fun _ => decide ((k ≠ a.val))) = true) ∧
  (∃ (s : Machine.State) (acc : Accessor) (a : Fin 16) (d : List Byte), (answering s = true) ∧
    ((axis s a.val).state = 2 ∨ (axis s a.val).state = 3 ∨ (axis s a.val).state = 5) ∧ ((axis s a.val).queue ≠ none) ∧
    (writeCode s acc (axIdx a.val) 56 d = 0) ∧ (heldOf s (a.val) (moveSet s (a.val) (ofLe d)) = none) ∧ ((ofLe d).testBit 4 = false) ∧
    ([Instr.axisMoveCommand acc a d, Instr.groupMoveCommand acc a d]).any (fun _ => true) = true) ∧
  (∃ (s : Machine.State) (acc : Accessor) (a : Fin 16) (d : List Byte) (b : Nat), (answering s = true) ∧ (writeCode s acc (axIdx a.val) 56 d = 0) ∧
    (heldOf s (a.val) (moveSet s (a.val) (ofLe d)) = none) ∧ ((ofLe d).testBit 4 = true) ∧
    ([Instr.axisMoveCommand acc a d, Instr.groupMoveCommand acc a d]).any (fun _ => decide ((groupOfAxis s a.val).any (fun g => decide ((groupRefusal s g (ofLe d % 16) = 0) ∧
    (∃ b, b ∈ members s g ∧ recordDist s b (ofLe d % 16) ≠ 0) ∧
    (∀ (b : Nat), b ∈ members s g → towardLimit s b (recordDist s b (ofLe d % 16)) = false) ∧
    (longest s (members s g) (ofLe d % 16)).any (fun _ => decide ((¬b ∈ members s g))) = true)) = true)) = true) ∧
  (∃ (s : Machine.State) (acc : Accessor) (a : Fin 16) (d : List Byte), (answering s = true) ∧ (writeCode s acc (axIdx a.val) 56 d = 0) ∧
    (heldOf s (a.val) (moveSet s (a.val) (ofLe d)) = none) ∧ ((ofLe d).testBit 4 = true) ∧
    ([Instr.axisMoveCommand acc a d, Instr.groupMoveCommand acc a d]).any (fun _ => decide ((groupOfAxis s a.val).any (fun g => decide ((groupRefusal s g (ofLe d % 16) = 0) ∧
    (∃ b, b ∈ members s g ∧ recordDist s b (ofLe d % 16) ≠ 0) ∧
    (∀ (b : Nat), b ∈ members s g → towardLimit s b (recordDist s b (ofLe d % 16)) = false) ∧
    (longest s (members s g) (ofLe d % 16)).any (fun _ => decide ((members s g).any (fun _ => true) = true)) = true)) = true)) = true) ∧
  (∃ (s : Machine.State) (acc : Accessor) (a : Fin 16) (d : List Byte) (b : Nat), (answering s = true) ∧ (writeCode s acc (axIdx a.val) 56 d = 0) ∧
    (heldOf s (a.val) (moveSet s (a.val) (ofLe d)) = none) ∧ ((ofLe d).testBit 4 = true) ∧
    ([Instr.axisMoveCommand acc a d, Instr.groupMoveCommand acc a d]).any (fun _ => decide ((groupOfAxis s a.val).any (fun g => decide ((groupRefusal s g (ofLe d % 16) = 0) ∧
    ((∀ (b : Nat), b ∈ members s g → recordDist s b (ofLe d % 16) = 0) ∨ ∃ b, b ∈ members s g ∧ towardLimit s b (recordDist s b (ofLe d % 16)) = true) ∧
    (longest s (members s g) (ofLe d % 16)).any (fun _ => decide ((¬b ∈ members s g))) = true)) = true)) = true) ∧
  (∃ (s : Machine.State) (acc : Accessor) (a : Fin 16) (d : List Byte), (answering s = true) ∧ (writeCode s acc (axIdx a.val) 56 d = 0) ∧
    (heldOf s (a.val) (moveSet s (a.val) (ofLe d)) = none) ∧ ((ofLe d).testBit 4 = true) ∧
    ([Instr.axisMoveCommand acc a d, Instr.groupMoveCommand acc a d]).any (fun _ => decide ((groupOfAxis s a.val).any (fun g => decide ((groupRefusal s g (ofLe d % 16) = 0) ∧
    ((∀ (b : Nat), b ∈ members s g → recordDist s b (ofLe d % 16) = 0) ∨ ∃ b, b ∈ members s g ∧ towardLimit s b (recordDist s b (ofLe d % 16)) = true) ∧
    (longest s (members s g) (ofLe d % 16)).any (fun _ => decide ((members s g).any (fun _ => true) = true)) = true)) = true)) = true) ∧
  (∃ (s : Machine.State) (acc : Accessor) (a : Fin 16) (d : List Byte) (k : Nat), (answering s = true) ∧ (writeCode s acc (axIdx a.val) 57 d = 0) ∧
    ([Instr.axisRampedStopCommand acc a d, Instr.axisHardStopCommand acc a d]).any (fun _ => decide ((heldOf s (a.val) (stopSet s a.val)).any (fun b => decide (((∀ (h : Bool), (axis s b).deferred ≠ some (AxisDeferred.stop h)) ∨ AxisDeferred.stop (ofLe d == 2) = AxisDeferred.stop true) ∧
    (k ≠ b))) = true)) = true) ∧
  (∃ (s : Machine.State) (acc : Accessor) (a : Fin 16) (d : List Byte), (answering s = true) ∧ (writeCode s acc (axIdx a.val) 57 d = 0) ∧
    (AxisDeferred.stop (ofLe d == 2) ≠ AxisDeferred.stop true) ∧
    ([Instr.axisRampedStopCommand acc a d, Instr.axisHardStopCommand acc a d]).any (fun _ => decide ((heldOf s (a.val) (stopSet s a.val)).any (fun b => decide ((∃ h, (axis s b).deferred = some (AxisDeferred.stop h)))) = true)) = true) ∧
  (∃ (s : Machine.State) (acc : Accessor) (a : Fin 16) (d : List Byte) (b : Nat), (answering s = true) ∧ (heldOf s (a.val) (stopSet s a.val) = none) ∧
    (writeCode s acc (axIdx a.val) 57 d = 0) ∧
    ([Instr.axisRampedStopCommand acc a d, Instr.axisHardStopCommand acc a d]).any (fun _ => decide ((¬b ∈ stopSet s a.val))) = true) ∧
  (∃ (s : Machine.State) (acc : Accessor) (a : Fin 16) (d : List Byte), (answering s = true) ∧ (heldOf s (a.val) (stopSet s a.val) = none) ∧
    (writeCode s acc (axIdx a.val) 57 d = 0) ∧
    ([Instr.axisRampedStopCommand acc a d, Instr.axisHardStopCommand acc a d]).any (fun _ => decide ((stopSet s a.val).any (fun _ => true) = true)) = true) ∧
  (∃ (s : Machine.State) (acc : Accessor) (a : Fin 16) (d : List Byte), (answering s = true) ∧ (heldOf s (a.val) (stopSet s a.val) = none) ∧
    (writeCode s acc (axIdx a.val) 57 d = 0) ∧ (ofLe d = 2) ∧
    ([Instr.axisRampedStopCommand acc a d, Instr.axisHardStopCommand acc a d]).any (fun _ => decide ((stopSet s a.val).any (fun b => decide (((axis s b).move ≠ none))) = true)) = true) ∧
  (∃ (s : Machine.State) (acc : Accessor) (a : Fin 16) (d : List Byte), (answering s = true) ∧ (heldOf s (a.val) (stopSet s a.val) = none) ∧
    (writeCode s acc (axIdx a.val) 57 d = 0) ∧ (ofLe d ≠ 2) ∧
    ([Instr.axisRampedStopCommand acc a d, Instr.axisHardStopCommand acc a d]).any (fun _ => true) = true) ∧
  (∃ (s : Machine.State) (acc : Accessor) (a : Fin 16) (d : List Byte), (answering s = true) ∧ (heldOf s (a.val) (stopSet s a.val) = none) ∧
    (writeCode s acc (axIdx a.val) 57 d = 0) ∧ (ofLe d ≠ 2) ∧
    ([Instr.axisRampedStopCommand acc a d, Instr.axisHardStopCommand acc a d]).any (fun _ => decide ((stopSet s a.val).any (fun b => decide (((axis s b).move ≠ none) ∧
    ((axis s b).state = 2))) = true)) = true) ∧
  (∃ (s : Machine.State) (acc : Accessor) (a : Fin 16) (d : List Byte), (answering s = true) ∧ (heldOf s (a.val) (stopSet s a.val) = none) ∧
    (writeCode s acc (axIdx a.val) 57 d = 0) ∧ (ofLe d = 2) ∧
    ([Instr.axisRampedStopCommand acc a d, Instr.axisHardStopCommand acc a d]).any (fun _ => decide (((axis s a.val).move).any (fun w => decide ((w.group = none))) = true)) = true) ∧
  (∃ (s : Machine.State) (acc : Accessor) (a : Fin 16) (d : List Byte), (answering s = true) ∧ (heldOf s (a.val) (stopSet s a.val) = none) ∧
    (writeCode s acc (axIdx a.val) 57 d = 0) ∧ (ofLe d = 2) ∧
    ([Instr.axisRampedStopCommand acc a d, Instr.axisHardStopCommand acc a d]).any (fun _ => decide (((axis s a.val).move).any (fun w => decide ((w.group = none) ∧
    (Machine.get s (axIdx a.val) 9 < w.vel s.time))) = true)) = true) ∧
  (∃ (s : Machine.State) (acc : Accessor) (a : Fin 16) (d : List Byte), (answering s = true) ∧ (heldOf s (a.val) (stopSet s a.val) = none) ∧
    (writeCode s acc (axIdx a.val) 57 d = 0) ∧ (ofLe d = 2) ∧
    ([Instr.axisRampedStopCommand acc a d, Instr.axisHardStopCommand acc a d]).any (fun _ => decide (((axis s a.val).move).any (fun w => decide ((w.group = none) ∧
    (w.vel s.time ≤ Machine.get s (axIdx a.val) 9))) = true)) = true) ∧
  (∃ (s : Machine.State) (acc : Accessor) (a : Fin 16) (d : List Byte) (k : Nat), (answering s = true) ∧ (writeCode s acc (axIdx a.val) 58 d = 0) ∧
    (heldOf s (a.val) (resumeSet s a.val)).any (fun b => decide (((∀ (h : Bool), (axis s b).deferred ≠ some (AxisDeferred.stop h)) ∨ AxisDeferred.resume = AxisDeferred.stop true) ∧
    (k ≠ b))) = true) ∧
  (∃ (s : Machine.State) (acc : Accessor) (a : Fin 16) (d : List Byte), (answering s = true) ∧ (AxisDeferred.resume ≠ AxisDeferred.stop true) ∧
    (writeCode s acc (axIdx a.val) 58 d = 0) ∧
    (heldOf s (a.val) (resumeSet s a.val)).any (fun b => decide ((∃ h, (axis s b).deferred = some (AxisDeferred.stop h)))) = true) ∧
  (∃ (s : Machine.State) (acc : Accessor) (a : Fin 16) (d : List Byte) (b : Nat), (answering s = true) ∧ (heldOf s (a.val) (resumeSet s a.val) = none) ∧
    (∃ q, q ∈ List.filterMap (fun b => Option.map (fun w => (b, w.dist)) (axis s b).stopped) (resumeSet s a.val) ∧ q.snd ≠ 0) ∧
    (∀ (q : Nat × Int), q ∈ List.filterMap (fun b => Option.map (fun w => (b, w.dist)) (axis s b).stopped) (resumeSet s a.val) → towardLimit s q.fst q.snd = false) ∧
    (writeCode s acc (axIdx a.val) 58 d = 0) ∧ (¬b ∈ resumeSet s a.val)) ∧
  (∃ (s : Machine.State) (acc : Accessor) (a : Fin 16) (d : List Byte), (answering s = true) ∧ (heldOf s (a.val) (resumeSet s a.val) = none) ∧
    (∃ q, q ∈ List.filterMap (fun b => Option.map (fun w => (b, w.dist)) (axis s b).stopped) (resumeSet s a.val) ∧ q.snd ≠ 0) ∧
    (∀ (q : Nat × Int), q ∈ List.filterMap (fun b => Option.map (fun w => (b, w.dist)) (axis s b).stopped) (resumeSet s a.val) → towardLimit s q.fst q.snd = false) ∧
    (writeCode s acc (axIdx a.val) 58 d = 0) ∧ (resumeSet s a.val).any (fun b => decide (((axis s b).stopped).any (fun _ => true) = true)) = true) ∧
  (∃ (s : Machine.State) (acc : Accessor) (a : Fin 16) (d : List Byte) (k : Nat), (answering s = true) ∧ (writeCode s acc (axIdx a.val) 59 d = 0) ∧
    (heldOf s a.val [a.val]).any (fun b => decide (((∀ (h : Bool), (axis s b).deferred ≠ some (AxisDeferred.stop h)) ∨ AxisDeferred.home = AxisDeferred.stop true) ∧
    (k ≠ b))) = true) ∧
  (∃ (s : Machine.State) (acc : Accessor) (a : Fin 16) (d : List Byte), (answering s = true) ∧ (AxisDeferred.home ≠ AxisDeferred.stop true) ∧
    (writeCode s acc (axIdx a.val) 59 d = 0) ∧
    (heldOf s a.val [a.val]).any (fun b => decide ((∃ h, (axis s b).deferred = some (AxisDeferred.stop h)))) = true) ∧
  (∃ (s : Machine.State) (acc : Accessor) (a : Fin 16) (d : List Byte), (answering s = true) ∧ (pathHeld s a.val = false) ∧
    (Machine.get s (axIdx a.val) 64 = 0) ∧ (writeCode s acc (axIdx a.val) 59 d = 0)) ∧
  (∃ (s : Machine.State) (acc : Accessor) (a : Fin 16) (d : List Byte) (k : Nat), (answering s = true) ∧ (pathHeld s a.val = false) ∧
    (Machine.get s (axIdx a.val) 64 ≠ 0) ∧ (writeCode s acc (axIdx a.val) 59 d = 0) ∧ (k ≠ a.val)) ∧
  (∃ (s : Machine.State) (acc : Accessor) (a : Fin 16) (d : List Byte) (k : Nat), (answering s = true) ∧ (writeCode s acc (axIdx a.val) 60 d = 0) ∧
    (ofLe d = 0) ∧ (k ≠ a.val)) ∧
  (∃ (s : Machine.State) (acc : Accessor) (a : Fin 16) (d : List Byte) (k : Nat), (answering s = true) ∧ ((axis s a.val).state = 0) ∧
    ((axis s a.val).fltIn = false) ∧ (writeCode s acc (axIdx a.val) 60 d = 0) ∧ (ofLe d ≠ 0) ∧ (k ≠ a.val)) ∧
  (∃ (s : Machine.State) (acc : Accessor) (a : Fin 16) (d : List Byte), (answering s = true) ∧ ((axis s a.val).state ≠ 0) ∧
    (writeCode s acc (axIdx a.val) 60 d = 0) ∧ (ofLe d ≠ 0)) ∧
  (∃ (s : Machine.State) (acc : Accessor) (a : Fin 16) (d : List Byte), (answering s = true) ∧ (s.md.mode ≠ Mode.safestop) ∧
    ((axis s a.val).state = 0) ∧ ((axis s a.val).fltIn = true) ∧ (servedWithin s Mech.axisDriver (a.val) (ticksS 10) = false) ∧
    (writeCode s acc (axIdx a.val) 60 d = 0) ∧ (ofLe d ≠ 0)) :=
  ⟨⟨K.st 421, (.pf0), (0), ([0]), 1, by decide +kernel⟩,
   ⟨K.st 427, (.pf0), (0), ([0]), by decide +kernel⟩,
   ⟨K.ex 1, (.pf0), (0), ([0]), 1, by decide +kernel⟩,
   ⟨K.ex 1, (.pf0), (0), ([2]), 1, by decide +kernel⟩,
   ⟨K.ex 0, (.pf0), (0), ([0]), 1, by decide +kernel⟩,
   ⟨K.st 123, (.pf0), (0), ([0]), by decide +kernel⟩,
   ⟨K.ex 11, (.pf0), (0), ([16]), (3), by decide +kernel⟩,
   ⟨K.ex 11, (.pf0), (0), ([16]), by decide +kernel⟩,
   ⟨K.ex 11, (.pf0), (0), ([18]), (3), by decide +kernel⟩,
   ⟨K.ex 11, (.pf0), (0), ([18]), by decide +kernel⟩,
   ⟨K.st 421, (.pf0), (0), ([1]), 1, by decide +kernel⟩,
   ⟨K.st 427, (.pf0), (0), ([1]), by decide +kernel⟩,
   ⟨K.ex 0, (.pf0), (0), ([1]), (3), by decide +kernel⟩,
   ⟨K.ex 0, (.pf0), (0), ([1]), by decide +kernel⟩,
   ⟨K.ex 0, (.pf0), (0), ([2]), by decide +kernel⟩,
   ⟨K.ex 0, (.pf0), (0), ([1]), by decide +kernel⟩,
   ⟨K.ex 0, (.pf0), (0), ([1]), by decide +kernel⟩,
   ⟨K.ex 0, (.pf0), (0), ([2]), by decide +kernel⟩,
   ⟨K.ex 3, (.pf0), (0), ([2]), by decide +kernel⟩,
   ⟨K.ex 0, (.pf0), (0), ([2]), by decide +kernel⟩,
   ⟨K.st 421, (.pf0), (0), ([1]), 1, by decide +kernel⟩,
   ⟨K.st 427, (.pf0), (0), ([1]), by decide +kernel⟩,
   ⟨K.st 244, (.pf0), (0), ([1]), (3), by decide +kernel⟩,
   ⟨K.st 244, (.pf0), (0), ([1]), by decide +kernel⟩,
   ⟨K.st 421, (.pf0), (0), ([1]), 1, by decide +kernel⟩,
   ⟨K.st 427, (.pf0), (0), ([1]), by decide +kernel⟩,
   ⟨K.st 61, (.pf0), (0), ([1]), by decide +kernel⟩,
   ⟨K.ex 14, (.pf0), (0), ([1]), 1, by decide +kernel⟩,
   ⟨K.ex 1, (.pf0), (0), ([0]), 1, by decide +kernel⟩,
   ⟨K.st 1, (.pf0), (0), ([1]), 1, by decide +kernel⟩,
   ⟨K.ex 0, (.pf0), (0), ([1]), by decide +kernel⟩,
   ⟨K.st 10, (.pf0), (0), ([1]), by decide +kernel⟩⟩

theorem witness_AxesHome :
  (∃ (s : Machine.State) (a : Fin 16) (b : Nat), ((axis s a.val).homing = some Homing.search) ∧
    (Machine.get s (axIdx a.val) 64 = 2 ∨ Machine.get s (axIdx a.val) 64 = 3) ∧ (inConflict s (4098 + 16 * a.val) = false) ∧ (b ≠ a.val)) ∧
  (∃ (s : Machine.State) (a : Fin 16), ((axis s a.val).homing ≠ some Homing.search ∨ Machine.get s (axIdx a.val) 64 ≠ 2 ∧
    Machine.get s (axIdx a.val) 64 ≠ 3 ∨ ¬inConflict s (4098 + 16 * a.val) = false)) ∧
  (∃ (s : Machine.State) (a : Fin 16) (b : Nat), ((axis s a.val).homing = some Homing.back) ∧ (Machine.get s (axIdx a.val) 64 = 3) ∧
    (inConflict s (4098 + 16 * a.val) = false) ∧ (b ≠ a.val)) ∧
  (∃ (s : Machine.State) (a : Fin 16), ((axis s a.val).homing = some Homing.back) ∧ (Machine.get s (axIdx a.val) 64 = 3) ∧
    (inConflict s (4098 + 16 * a.val) = false) ∧ ((axis s a.val).move).any (fun _ => true) = true) ∧
  (∃ (s : Machine.State) (a : Fin 16) (b : Nat), ((axis s a.val).homing = some Homing.back) ∧ (Machine.get s (axIdx a.val) 64 = 1) ∧
    (inConflict s ((if flag s (axIdx a.val) 65 = true then 4100 else 4099) + 16 * a.val) = false) ∧ (b ≠ a.val)) ∧
  (∃ (s : Machine.State) (a : Fin 16), ((axis s a.val).homing = some Homing.back) ∧ (Machine.get s (axIdx a.val) 64 = 1) ∧
    (inConflict s ((if flag s (axIdx a.val) 65 = true then 4100 else 4099) + 16 * a.val) = false) ∧
    ((axis s a.val).move = none ∨ (homingStop s a.val).fst = 0) ∧ ((axis s a.val).queue = none)) ∧
  (∃ (s : Machine.State) (a : Fin 16), ((axis s a.val).homing = some Homing.back) ∧ (Machine.get s (axIdx a.val) 64 = 1) ∧
    (inConflict s ((if flag s (axIdx a.val) 65 = true then 4100 else 4099) + 16 * a.val) = false) ∧ ((homingStop s a.val).fst ≠ 0) ∧
    ((axis s a.val).move).any (fun _ => true) = true) ∧
  (∃ (s : Machine.State) (a : Fin 16) (b : Nat), ((axis s a.val).homing = some Homing.back) ∧ (Machine.get s (axIdx a.val) 64 ≠ 1) ∧
    (Machine.get s (axIdx a.val) 64 ≠ 3) ∧ (inConflict s (4098 + 16 * a.val) = false) ∧ (b ≠ a.val)) ∧
  (∃ (s : Machine.State) (a : Fin 16), ((axis s a.val).homing = some Homing.back) ∧ (Machine.get s (axIdx a.val) 64 ≠ 1) ∧
    (Machine.get s (axIdx a.val) 64 ≠ 3) ∧ (inConflict s (4098 + 16 * a.val) = false) ∧ ((axis s a.val).move = none ∨ (homingStop s a.val).fst = 0) ∧
    ((axis s a.val).queue = none)) ∧
  (∃ (s : Machine.State) (a : Fin 16), ((axis s a.val).homing = some Homing.back) ∧ (Machine.get s (axIdx a.val) 64 ≠ 1) ∧
    (Machine.get s (axIdx a.val) 64 ≠ 3) ∧ (inConflict s (4098 + 16 * a.val) = false) ∧ ((homingStop s a.val).fst ≠ 0) ∧
    ((axis s a.val).move).any (fun _ => true) = true) ∧
  (∃ (s : Machine.State) (a : Fin 16) (b : Nat), ((axis s a.val).homing = some Homing.index) ∧ (inConflict s (4096 + 16 * a.val) = false) ∧
    (b ≠ a.val)) ∧
  (∃ (s : Machine.State) (a : Fin 16), ((axis s a.val).homing = some Homing.index) ∧ (inConflict s (4096 + 16 * a.val) = false) ∧
    ((axis s a.val).move = none ∨ (homingStop s a.val).fst = 0) ∧ ((axis s a.val).queue = none)) ∧
  (∃ (s : Machine.State) (a : Fin 16), ((axis s a.val).homing = some Homing.index) ∧ (inConflict s (4096 + 16 * a.val) = false) ∧
    ((homingStop s a.val).fst ≠ 0) ∧ ((axis s a.val).move).any (fun _ => true) = true) ∧
  (∃ (s : Machine.State) (a : Fin 16), ((axis s a.val).homing = none ∨ (axis s a.val).homing = some Homing.search)) ∧
  (∃ (s : Machine.State) (a : Fin 16), ((axis s a.val).homing = some Homing.index) ∧ (¬inConflict s (4096 + 16 * a.val) = false)) ∧
  (∃ (s : Machine.State) (a : Fin 16) (b : Nat), ((axis s a.val).state = 5) ∧ (Machine.get s (axIdx a.val) 64 = 4) ∧ (b ≠ a.val)) ∧
  (∃ (s : Machine.State) (a : Fin 16), ((axis s a.val).state = 5) ∧ (Machine.get s (axIdx a.val) 64 = 4) ∧ ((axis s a.val).queue = none)) ∧
  (∃ (s : Machine.State) (a : Fin 16) (b : Nat), ((axis s a.val).state = 5) ∧ (Machine.get s (axIdx a.val) 64 ≠ 4) ∧ (b ≠ a.val)) ∧
  (∃ (s : Machine.State) (a : Fin 16), ((axis s a.val).state ≠ 5)) ∧
  (∃ (s : Machine.State) (a : Fin 16) (positive : Bool) (b : Nat), ((axis s a.val).state = 5) ∧ (Machine.get s (axIdx a.val) 64 = 1) ∧
    ((axis s a.val).homing = some Homing.search) ∧ (flag s (axIdx a.val) 65 = positive) ∧
    ((axis s a.val).move).any (fun w => decide ((if positive = true then 0 < w.dist else w.dist < 0) ∧ (b ≠ a.val))) = true) ∧
  (∃ (s : Machine.State) (a : Fin 16) (positive : Bool) (b : Nat), ((axis s a.val).state = 5) ∧
    (Machine.get s (axIdx a.val) 64 ≠ 1 ∨ (axis s a.val).homing ≠ some Homing.search ∨ flag s (axIdx a.val) 65 ≠ positive) ∧
    ((axis s a.val).move).any (fun w => decide ((if positive = true then 0 < w.dist else w.dist < 0) ∧ (b ≠ a.val))) = true) :=
  ⟨⟨K.st 30, 0, 1, by decide +kernel⟩,
   ⟨K.st 0, 0, by decide +kernel⟩,
   ⟨K.st 43, 0, 1, by decide +kernel⟩,
   ⟨K.st 43, 0, by decide +kernel⟩,
   ⟨K.st 19, 0, 1, by decide +kernel⟩,
   ⟨K.st 19, 0, by decide +kernel⟩,
   ⟨K.ex 6, 0, by decide +kernel⟩,
   ⟨K.st 7, 0, 1, by decide +kernel⟩,
   ⟨K.st 7, 0, by decide +kernel⟩,
   ⟨K.ex 7, 0, by decide +kernel⟩,
   ⟨K.st 8, 0, 1, by decide +kernel⟩,
   ⟨K.st 8, 0, by decide +kernel⟩,
   ⟨K.ex 8, 0, by decide +kernel⟩,
   ⟨K.st 0, 0, by decide +kernel⟩,
   ⟨K.ex 9, 0, by decide +kernel⟩,
   ⟨K.st 349, 0, 1, by decide +kernel⟩,
   ⟨K.st 349, 0, by decide +kernel⟩,
   ⟨K.st 301, 0, 1, by decide +kernel⟩,
   ⟨K.st 0, 0, by decide +kernel⟩,
   ⟨K.st 447, 0, true, 1, by decide +kernel⟩,
   ⟨K.st 302, 0, true, 1, by decide +kernel⟩⟩

theorem witness_AxisMotionEnds :
  (∃ (s : Machine.State) (a : Fin 16) (b : Nat), ((axis s a.val).state = 2 ∨ (axis s a.val).state = 3) ∧
    ((axis s a.val).move).any (fun _ => decide ((b ≠ a.val))) = true) ∧
  (∃ (s : Machine.State) (a : Fin 16), ((axis s a.val).state = 2 ∨ (axis s a.val).state = 3) ∧ ((axis s a.val).stopped ≠ none) ∧
    ((axis s a.val).queue = none) ∧ ((axis s a.val).move).any (fun _ => true) = true) ∧
  (∃ (s : Machine.State) (a : Fin 16), ((axis s a.val).state = 2 ∨ (axis s a.val).state = 3) ∧ ((axis s a.val).stopped = none) ∧
    ((axis s a.val).queue = none) ∧ ((axis s a.val).move).any (fun _ => true) = true) ∧
  (∃ (s : Machine.State) (a : Fin 16), ((axis s a.val).state = 2 ∨ (axis s a.val).state = 3) ∧
    ((axis s a.val).move).any (fun _ => decide (((axis s a.val).queue).any (fun _ => true) = true)) = true) ∧
  (∃ (s : Machine.State) (a : Fin 16), ((axis s a.val).state ≠ 2) ∧ ((axis s a.val).state ≠ 3)) ∧
  (∃ (s : Machine.State) (a : Fin 16) (b : Nat), ((axis s a.val).state = 1 ∨ (axis s a.val).state = 4) ∧ (b ≠ a.val)) ∧
  (∃ (s : Machine.State) (a : Fin 16), ((axis s a.val).state ≠ 1) ∧ ((axis s a.val).state ≠ 4)) ∧
  (∃ (s : Machine.State) (a : Fin 16) (positive : Bool) (b : Nat), ((axis s a.val).move = none ∨ ∃ w, (axis s a.val).move = some w ∧
    ¬if positive = true then 0 < w.dist else w.dist < 0) ∧ (b ≠ a.val)) ∧
  (∃ (s : Machine.State) (a : Fin 16) (positive : Bool), ((axis s a.val).state ≠ 5) ∧ (Machine.get s (axIdx a.val) 12 = 0) ∧
    ((axis s a.val).move).any (fun w => decide ((if positive = true then 0 < w.dist else w.dist < 0) ∧
    (w.group).any (fun g => decide ((members s g).any (fun b => decide (((axis s b).move ≠ none))) = true)) = true)) = true) ∧
  (∃ (s : Machine.State) (a : Fin 16) (positive : Bool) (b : Nat), ((axis s a.val).state ≠ 5) ∧
    ((axis s a.val).move).any (fun w => decide ((w.group = none) ∧ (if positive = true then 0 < w.dist else w.dist < 0) ∧ (b ≠ a.val))) = true) ∧
  (∃ (s : Machine.State) (a : Fin 16) (positive : Bool), ((axis s a.val).state ≠ 5) ∧ (Machine.get s (axIdx a.val) 12 = 0) ∧
    ((axis s a.val).move).any (fun w => decide ((w.group = none) ∧ (if positive = true then 0 < w.dist else w.dist < 0))) = true) ∧
  (∃ (s : Machine.State) (a : Fin 16) (positive : Bool), ((axis s a.val).state ≠ 5) ∧ (Machine.get s (axIdx a.val) 12 ≠ 0) ∧
    ((axis s a.val).state = 2) ∧ ((axis s a.val).move).any (fun w => decide ((w.group = none) ∧
    (if positive = true then 0 < w.dist else w.dist < 0))) = true) ∧
  (∃ (s : Machine.State) (a : Fin 16) (positive : Bool), ((axis s a.val).state ≠ 5) ∧ ((axis s a.val).move).any (fun w => decide ((w.group = none) ∧
    (if positive = true then 0 < w.dist else w.dist < 0) ∧ (s.sheets).any (fun sh => decide ((sh.committed = true) ∧
    (sh.mask.testBit a.val = true))) = true)) = true) ∧
  (∃ (s : Machine.State) (t : Fin 28), (s.sheets).any (fun y => decide ((y.holds t.val = false))) = true) ∧
  (∃ (s : Machine.State) (a : Fin 16) (t : Fin 28), ((axis s a.val).deferred = none) ∧ (t.val = a.val)) ∧
  (∃ (s : Machine.State) (a : Fin 16) (t : Fin 28) (h : Bool), ((axis s a.val).state = 2) ∧ (t.val = a.val) ∧
    ((axis s a.val).deferred = some (AxisDeferred.stop h)) ∧ ((axis s a.val).move).any (fun w => decide ((w.group = none))) = true) ∧
  (∃ (s : Machine.State) (a : Fin 16) (t : Fin 28) (v : Nat), (axisModeCode s AxisCmd.move = 0) ∧
    ((axis s a.val).state = 1 ∨ (axis s a.val).state = 4) ∧ (t.val = a.val) ∧ ((axis s a.val).deferred = some (AxisDeferred.move v)) ∧
    (v.testBit 4 = false) ∧ (recordDist s (a.val) (v % 16) ≠ 0) ∧ (towardLimit s (a.val) (recordDist s (a.val) (v % 16)) = false)) ∧
  (∃ (s : Machine.State) (a : Fin 16) (t : Fin 28), (axisModeCode s AxisCmd.home = 0) ∧ ((axis s a.val).deferred = some AxisDeferred.home) ∧
    (homeRefusal s a.val = 0) ∧ (Machine.get s (axIdx a.val) 64 ≠ 0) ∧ (t.val = a.val)) ∧
  (∃ (s : Machine.State) (t : Fin 28) (m : Nat), (motorModeCode s = 0) ∧ (t.val = 16 + m) ∧
    ((motor s m).deferred).any (fun k => decide ((entryCheck s m k = 0))) = true) :=
  ⟨⟨K.ex 0, 0, 1, by decide +kernel⟩,
   ⟨K.st 125, 0, by decide +kernel⟩,
   ⟨K.ex 0, 0, by decide +kernel⟩,
   ⟨K.st 123, 0, by decide +kernel⟩,
   ⟨K.ex 0, 2, by decide +kernel⟩,
   ⟨K.ex 1, 0, 1, by decide +kernel⟩,
   ⟨K.ex 0, 0, by decide +kernel⟩,
   ⟨K.ex 0, 0, false, 1, by decide +kernel⟩,
   ⟨K.ex 12, 0, true, by decide +kernel⟩,
   ⟨K.ex 0, 0, true, 1, by decide +kernel⟩,
   ⟨K.ex 0, 0, true, by decide +kernel⟩,
   ⟨K.ex 3, 0, true, by decide +kernel⟩,
   ⟨K.st 422, 0, true, by decide +kernel⟩,
   ⟨K.ex 2, 0, by decide +kernel⟩,
   ⟨K.ex 0, 0, 0, by decide +kernel⟩,
   ⟨K.st 428, 0, 0, true, by decide +kernel⟩,
   ⟨K.st 421, 0, 0, 0, by decide +kernel⟩,
   ⟨K.ex 14, 0, 0, by decide +kernel⟩,
   ⟨K.ex 1, 17, 1, by decide +kernel⟩⟩

theorem witness_AxisDrivers :
  (∃ (s : Machine.State) (a : Fin 16) (b : Nat), ((axis s a.val).fltIn = true ∨ (axis s a.val).state = 0 ∨ (axis s a.val).state = 6) ∧ (b ≠ a.val)) ∧
  (∃ (s : Machine.State) (a : Fin 16), (s.md.mode ≠ Mode.safestop) ∧ ((axis s a.val).fltIn = false) ∧ ((axis s a.val).state ≠ 0) ∧
    ((axis s a.val).state ≠ 6) ∧ (servedWithin s Mech.axisDriver (a.val) (ticksS 10) = false) ∧
    (s.sheets).any (fun sh => decide ((sh.committed = true) ∧ (sh.mask.testBit a.val = true))) = true) ∧
  (∃ (s : Machine.State) (a : Fin 16), (s.md.mode ∈ operating) ∧ ((axis s a.val).fltIn = false) ∧ ((axis s a.val).state ≠ 0) ∧
    ((axis s a.val).state ≠ 6) ∧ (servedWithin s Mech.axisDriver (a.val) (ticksS 10) = true)) ∧
  (∃ (s : Machine.State) (a : Fin 16) (b : Nat), (s.md.mode ≠ Mode.safestop) ∧ ((axis s a.val).reenable = true) ∧ ((axis s a.val).state = 6) ∧
    ((axis s a.val).fltIn = false) ∧ (b ≠ a.val)) ∧
  (∃ (s : Machine.State) (a : Fin 16), (s.md.mode ∈ operating) ∧ ((axis s a.val).reenable = true) ∧ ((axis s a.val).state = 6) ∧
    ((axis s a.val).fltIn = true)) ∧
  (∃ (s : Machine.State) (a : Fin 16), ((axis s a.val).reenable = false ∨ (axis s a.val).state ≠ 6 ∨ s.md.mode = Mode.safestop)) ∧
  (∃ (s : Machine.State) (a : Fin 16), (inConflict s (4097 + 16 * a.val) = true)) ∧
  (∃ (s : Machine.State) (a : Fin 16) (b : Nat), (inConflict s (4097 + 16 * a.val) = false) ∧ (b ≠ a.val)) :=
  ⟨⟨K.st 0, 0, 1, by decide +kernel⟩,
   ⟨K.st 421, 0, by decide +kernel⟩,
   ⟨K.st 451, 0, by decide +kernel⟩,
   ⟨K.st 371, 0, 1, by decide +kernel⟩,
   ⟨K.st 372, 0, by decide +kernel⟩,
   ⟨K.st 0, 0, by decide +kernel⟩,
   ⟨K.ex 9, 0, by decide +kernel⟩,
   ⟨K.st 0, 0, 1, by decide +kernel⟩⟩

theorem witness_LoopsEvaluate :
  (∃ (s : Machine.State) (m : Fin 48), ((engineRuns s && loopPresent s m.val && law s m.val != 0) = false)) ∧
  (∃ (s : Machine.State) (m : Fin 48) (k : Nat), ((engineRuns s && loopPresent s m.val && law s m.val != 0) = true) ∧
    (isSpeedLoop m.val = true → (loop s m.val).state ≠ 0 ∧
    (motorState s (loopMotor m.val) = 3 ∨ motorState s (loopMotor m.val) = 4 ∨ motorState s (loopMotor m.val) = 5)) ∧ ((loop s m.val).state ≠ 1) ∧
    ((loop s m.val).state ≠ 2) ∧ (k ≠ m.val)) ∧
  (∃ (s : Machine.State) (m : Fin 48) (k : Nat), ((engineRuns s && loopPresent s m.val && law s m.val != 0) = true) ∧
    (isSpeedLoop m.val = true → (loop s m.val).state ≠ 0 ∧
    (motorState s (loopMotor m.val) = 3 ∨ motorState s (loopMotor m.val) = 4 ∨ motorState s (loopMotor m.val) = 5)) ∧
    ((loop s m.val).state = 1 ∨ (loop s m.val).state = 2) ∧ ((decide (inKind s m.val < 2) && (ain s (inInst s m.val)).broken) = true) ∧
    ((loop s m.val).broken = false) ∧ (k ≠ m.val)) ∧
  (∃ (s : Machine.State) (m : Fin 48) (k : Nat), ((engineRuns s && loopPresent s m.val && law s m.val != 0) = true) ∧
    (isSpeedLoop m.val = true → (loop s m.val).state ≠ 0 ∧
    (motorState s (loopMotor m.val) = 3 ∨ motorState s (loopMotor m.val) = 4 ∨ motorState s (loopMotor m.val) = 5)) ∧
    ((loop s m.val).state = 1 ∨ (loop s m.val).state = 2) ∧ ((decide (inKind s m.val < 2) && (ain s (inInst s m.val)).broken) = true) ∧
    ((loop s m.val).broken = true) ∧ (k ≠ m.val)) ∧
  (∃ (s : Machine.State) (m : Fin 48) (k : Nat), ((engineRuns s && loopPresent s m.val && law s m.val != 0) = true) ∧
    (isSpeedLoop m.val = true → (loop s m.val).state ≠ 0 ∧
    (motorState s (loopMotor m.val) = 3 ∨ motorState s (loopMotor m.val) = 4 ∨ motorState s (loopMotor m.val) = 5)) ∧
    ((loop s m.val).state = 1 ∨ (loop s m.val).state = 2) ∧ ((decide (inKind s m.val < 2) && (ain s (inInst s m.val)).broken) = false) ∧
    ((decide (inKind s m.val < 2) && (ain s (inInst s m.val)).settle) = true) ∧ (k ≠ m.val)) ∧
  (∃ (s : Machine.State) (m : Fin 48), (s.md.mode ∈ operating) ∧ ((engineRuns s && loopPresent s m.val && law s m.val != 0) = true) ∧
    (isSpeedLoop m.val = true → (loop s m.val).state ≠ 0 ∧
    (motorState s (loopMotor m.val) = 3 ∨ motorState s (loopMotor m.val) = 4 ∨ motorState s (loopMotor m.val) = 5)) ∧
    ((loop s m.val).state = 1 ∨ (loop s m.val).state = 2) ∧ ((decide (inKind s m.val < 2) && (ain s (inInst s m.val)).broken) = false) ∧
    ((decide (inKind s m.val < 2) && (ain s (inInst s m.val)).settle) = false) ∧ (decide (getS s 32 (loopIdx m.val) 18 < measured s m.val) = true)) ∧
  (∃ (s : Machine.State) (m : Fin 48) (k : Nat), (s.diag.injecting = false) ∧ ((engineRuns s && loopPresent s m.val && law s m.val != 0) = true) ∧
    (isSpeedLoop m.val = true → (loop s m.val).state ≠ 0 ∧
    (motorState s (loopMotor m.val) = 3 ∨ motorState s (loopMotor m.val) = 4 ∨ motorState s (loopMotor m.val) = 5)) ∧
    ((loop s m.val).state = 1 ∨ (loop s m.val).state = 2) ∧ ((decide (inKind s m.val < 2) && (ain s (inInst s m.val)).broken) = false) ∧
    ((decide (inKind s m.val < 2) && (ain s (inInst s m.val)).settle) = false) ∧ (decide (getS s 32 (loopIdx m.val) 18 < measured s m.val) = false) ∧
    (Machine.get s (loopIdx m.val) 11 = 0) ∧ (Machine.get s (loopIdx m.val) 13 = 0) ∧ (k ≠ m.val)) ∧
  (∃ (s : Machine.State) (m : Fin 48), (s.diag.injecting = false) ∧ ((engineRuns s && loopPresent s m.val && law s m.val != 0) = true) ∧
    (isSpeedLoop m.val = true → (loop s m.val).state ≠ 0 ∧
    (motorState s (loopMotor m.val) = 3 ∨ motorState s (loopMotor m.val) = 4 ∨ motorState s (loopMotor m.val) = 5)) ∧
    ((loop s m.val).state = 1 ∨ (loop s m.val).state = 2) ∧ ((decide (inKind s m.val < 2) && (ain s (inInst s m.val)).broken) = false) ∧
    ((decide (inKind s m.val < 2) && (ain s (inInst s m.val)).settle) = false) ∧ (decide (getS s 32 (loopIdx m.val) 18 < measured s m.val) = false) ∧
    (Machine.get s (loopIdx m.val) 11 = 0) ∧ (Machine.get s (loopIdx m.val) 13 = 0) ∧
    ((if Machine.get s (loopIdx m.val) 8 = 0 then targetOf s m.val else if (loop s m.val).sp < targetOf s m.val then min (targetOf s m.val) ((loop s m.val).sp + ↑((Machine.get s (loopIdx m.val) 8 * Machine.get s (loopIdx m.val) 4 + (loop s m.val).spFrac) / 1000)) else max (targetOf s m.val) ((loop s m.val).sp - ↑((Machine.get s (loopIdx m.val) 8 * Machine.get s (loopIdx m.val) 4 + (loop s m.val).spFrac) / 1000))) = targetOf s m.val) ∧
    ((loop s m.val).state = 1)) ∧
  (∃ (s : Machine.State) (m : Fin 48), (s.diag.injecting = false) ∧ ((engineRuns s && loopPresent s m.val && law s m.val != 0) = true) ∧
    (isSpeedLoop m.val = true → (loop s m.val).state ≠ 0 ∧
    (motorState s (loopMotor m.val) = 3 ∨ motorState s (loopMotor m.val) = 4 ∨ motorState s (loopMotor m.val) = 5)) ∧
    ((loop s m.val).state = 1 ∨ (loop s m.val).state = 2) ∧ ((decide (inKind s m.val < 2) && (ain s (inInst s m.val)).broken) = false) ∧
    ((decide (inKind s m.val < 2) && (ain s (inInst s m.val)).settle) = false) ∧ (decide (getS s 32 (loopIdx m.val) 18 < measured s m.val) = false) ∧
    (Machine.get s (loopIdx m.val) 11 = 0) ∧ (Machine.get s (loopIdx m.val) 13 = 0) ∧ (isSpeedLoop m.val = true)) ∧
  (∃ (s : Machine.State) (m : Fin 48), (s.diag.injecting = false) ∧ ((engineRuns s && loopPresent s m.val && law s m.val != 0) = true) ∧
    (isSpeedLoop m.val = true → (loop s m.val).state ≠ 0 ∧
    (motorState s (loopMotor m.val) = 3 ∨ motorState s (loopMotor m.val) = 4 ∨ motorState s (loopMotor m.val) = 5)) ∧
    ((loop s m.val).state = 1 ∨ (loop s m.val).state = 2) ∧ ((decide (inKind s m.val < 2) && (ain s (inInst s m.val)).broken) = false) ∧
    ((decide (inKind s m.val < 2) && (ain s (inInst s m.val)).settle) = false) ∧ (decide (getS s 32 (loopIdx m.val) 18 < measured s m.val) = false) ∧
    (Machine.get s (loopIdx m.val) 11 = 0) ∧ (Machine.get s (loopIdx m.val) 13 = 0) ∧ (isSpeedLoop m.val = false) ∧ (outKind s m.val = 3)) ∧
  (∃ (s : Machine.State) (m : Fin 48) (k : Nat), (s.diag.injecting = false) ∧ ((engineRuns s && loopPresent s m.val && law s m.val != 0) = true) ∧
    (isSpeedLoop m.val = true → (loop s m.val).state ≠ 0 ∧
    (motorState s (loopMotor m.val) = 3 ∨ motorState s (loopMotor m.val) = 4 ∨ motorState s (loopMotor m.val) = 5)) ∧
    ((loop s m.val).state = 1 ∨ (loop s m.val).state = 2) ∧ ((decide (inKind s m.val < 2) && (ain s (inInst s m.val)).broken) = false) ∧
    ((decide (inKind s m.val < 2) && (ain s (inInst s m.val)).settle) = false) ∧ (decide (getS s 32 (loopIdx m.val) 18 < measured s m.val) = false) ∧
    (law s m.val = 1) ∧ ((loop s m.val).state = 2) ∧ (isSpeedLoop m.val = false) ∧ ((loop s m.val).saturated = true) ∧
    (lawDemand s (m.val) (measured s m.val) (if Machine.get s (loopIdx m.val) 8 = 0 then targetOf s m.val else if (loop s m.val).sp < targetOf s m.val then min (targetOf s m.val) ((loop s m.val).sp + ↑((Machine.get s (loopIdx m.val) 8 * Machine.get s (loopIdx m.val) 4 + (loop s m.val).spFrac) / 1000)) else max (targetOf s m.val) ((loop s m.val).sp - ↑((Machine.get s (loopIdx m.val) 8 * Machine.get s (loopIdx m.val) 4 + (loop s m.val).spFrac) / 1000))) ≠ 0) ∧
    (Machine.get s (loopIdx m.val) 11 ≠ 0) ∧ ((loop s m.val).satTime < 1000 * Machine.get s (loopIdx m.val) 11) ∧
    (1000 * Machine.get s (loopIdx m.val) 11 ≤ (loop s m.val).satTime + Machine.get s (loopIdx m.val) 4) ∧ (Machine.get s (loopIdx m.val) 13 = 0) ∧
    (Machine.get s (loopIdx m.val) 15 = 0) ∧ (k ≠ m.val)) ∧
  (∃ (s : Machine.State) (m : Fin 48) (k : Nat), (s.diag.injecting = false) ∧ ((engineRuns s && loopPresent s m.val && law s m.val != 0) = true) ∧
    (isSpeedLoop m.val = true → (loop s m.val).state ≠ 0 ∧
    (motorState s (loopMotor m.val) = 3 ∨ motorState s (loopMotor m.val) = 4 ∨ motorState s (loopMotor m.val) = 5)) ∧
    ((loop s m.val).state = 1 ∨ (loop s m.val).state = 2) ∧ ((decide (inKind s m.val < 2) && (ain s (inInst s m.val)).broken) = false) ∧
    ((decide (inKind s m.val < 2) && (ain s (inInst s m.val)).settle) = false) ∧ (decide (getS s 32 (loopIdx m.val) 18 < measured s m.val) = false) ∧
    (law s m.val = 1) ∧ ((loop s m.val).state = 2) ∧ (isSpeedLoop m.val = false) ∧ ((loop s m.val).saturated = true) ∧
    (lawDemand s (m.val) (measured s m.val) (if Machine.get s (loopIdx m.val) 8 = 0 then targetOf s m.val else if (loop s m.val).sp < targetOf s m.val then min (targetOf s m.val) ((loop s m.val).sp + ↑((Machine.get s (loopIdx m.val) 8 * Machine.get s (loopIdx m.val) 4 + (loop s m.val).spFrac) / 1000)) else max (targetOf s m.val) ((loop s m.val).sp - ↑((Machine.get s (loopIdx m.val) 8 * Machine.get s (loopIdx m.val) 4 + (loop s m.val).spFrac) / 1000))) ≠ 0) ∧
    (Machine.get s (loopIdx m.val) 11 ≠ 0) ∧ ((loop s m.val).satTime < 1000 * Machine.get s (loopIdx m.val) 11) ∧
    (1000 * Machine.get s (loopIdx m.val) 11 ≤ (loop s m.val).satTime + Machine.get s (loopIdx m.val) 4) ∧ (Machine.get s (loopIdx m.val) 13 = 0) ∧
    (Machine.get s (loopIdx m.val) 15 = 1) ∧ (loopRepeats s (m.val) 1 = false) ∧ (k ≠ m.val)) ∧
  (∃ (s : Machine.State) (m : Fin 48), (s.diag.injecting = false) ∧ (s.md.mode ∈ operating) ∧
    ((engineRuns s && loopPresent s m.val && law s m.val != 0) = true) ∧ (isSpeedLoop m.val = true → (loop s m.val).state ≠ 0 ∧
    (motorState s (loopMotor m.val) = 3 ∨ motorState s (loopMotor m.val) = 4 ∨ motorState s (loopMotor m.val) = 5)) ∧
    ((loop s m.val).state = 1 ∨ (loop s m.val).state = 2) ∧ ((decide (inKind s m.val < 2) && (ain s (inInst s m.val)).broken) = false) ∧
    ((decide (inKind s m.val < 2) && (ain s (inInst s m.val)).settle) = false) ∧ (decide (getS s 32 (loopIdx m.val) 18 < measured s m.val) = false) ∧
    (law s m.val = 1) ∧ ((loop s m.val).state = 2) ∧ (isSpeedLoop m.val = false) ∧ ((loop s m.val).saturated = true) ∧
    (lawDemand s (m.val) (measured s m.val) (if Machine.get s (loopIdx m.val) 8 = 0 then targetOf s m.val else if (loop s m.val).sp < targetOf s m.val then min (targetOf s m.val) ((loop s m.val).sp + ↑((Machine.get s (loopIdx m.val) 8 * Machine.get s (loopIdx m.val) 4 + (loop s m.val).spFrac) / 1000)) else max (targetOf s m.val) ((loop s m.val).sp - ↑((Machine.get s (loopIdx m.val) 8 * Machine.get s (loopIdx m.val) 4 + (loop s m.val).spFrac) / 1000))) ≠ 0) ∧
    (Machine.get s (loopIdx m.val) 11 ≠ 0) ∧ ((loop s m.val).satTime < 1000 * Machine.get s (loopIdx m.val) 11) ∧
    (1000 * Machine.get s (loopIdx m.val) 11 ≤ (loop s m.val).satTime + Machine.get s (loopIdx m.val) 4) ∧ (Machine.get s (loopIdx m.val) 13 = 0) ∧
    (Machine.get s (loopIdx m.val) 15 = 1) ∧ (loopRepeats s (m.val) 1 = true) ∧ (m.val < 28)) ∧
  (∃ (s : Machine.State) (m : Fin 48), (s.diag.injecting = false) ∧ (s.md.mode ∈ operating) ∧
    ((engineRuns s && loopPresent s m.val && law s m.val != 0) = true) ∧ (isSpeedLoop m.val = true → (loop s m.val).state ≠ 0 ∧
    (motorState s (loopMotor m.val) = 3 ∨ motorState s (loopMotor m.val) = 4 ∨ motorState s (loopMotor m.val) = 5)) ∧
    ((loop s m.val).state = 1 ∨ (loop s m.val).state = 2) ∧ ((decide (inKind s m.val < 2) && (ain s (inInst s m.val)).broken) = false) ∧
    ((decide (inKind s m.val < 2) && (ain s (inInst s m.val)).settle) = false) ∧ (decide (getS s 32 (loopIdx m.val) 18 < measured s m.val) = false) ∧
    (law s m.val = 1) ∧ ((loop s m.val).state = 2) ∧ (isSpeedLoop m.val = false) ∧ ((loop s m.val).saturated = true) ∧
    (lawDemand s (m.val) (measured s m.val) (if Machine.get s (loopIdx m.val) 8 = 0 then targetOf s m.val else if (loop s m.val).sp < targetOf s m.val then min (targetOf s m.val) ((loop s m.val).sp + ↑((Machine.get s (loopIdx m.val) 8 * Machine.get s (loopIdx m.val) 4 + (loop s m.val).spFrac) / 1000)) else max (targetOf s m.val) ((loop s m.val).sp - ↑((Machine.get s (loopIdx m.val) 8 * Machine.get s (loopIdx m.val) 4 + (loop s m.val).spFrac) / 1000))) ≠ 0) ∧
    (Machine.get s (loopIdx m.val) 11 ≠ 0) ∧ ((loop s m.val).satTime < 1000 * Machine.get s (loopIdx m.val) 11) ∧
    (1000 * Machine.get s (loopIdx m.val) 11 ≤ (loop s m.val).satTime + Machine.get s (loopIdx m.val) 4) ∧ (Machine.get s (loopIdx m.val) 13 = 0) ∧
    (2 ≤ Machine.get s (loopIdx m.val) 15)) :=
  ⟨⟨L.ex 0, 0, by decide +kernel⟩,
   ⟨L.st 2, 26, 0, by decide +kernel⟩,
   ⟨L.st 23, 26, 0, by decide +kernel⟩,
   ⟨L.st 31, 26, 0, by decide +kernel⟩,
   ⟨L.st 24, 26, 0, by decide +kernel⟩,
   ⟨L.st 25, 26, by decide +kernel⟩,
   ⟨L.ex 0, 28, 0, by decide +kernel⟩,
   ⟨L.st 22, 26, by decide +kernel⟩,
   ⟨L.ex 0, 28, by decide +kernel⟩,
   ⟨L.ex 4, 26, by decide +kernel⟩,
   ⟨L.ex 6, 26, 0, by decide +kernel⟩,
   ⟨L.ex 8, 26, 0, by decide +kernel⟩,
   ⟨L.ex 9, 26, by decide +kernel⟩,
   ⟨L.ex 10, 26, by decide +kernel⟩⟩

theorem witness_LoopCommands :
  (∃ (s : Machine.State) (h : Nat), (s.pins.ilockOpen = true) ∧ (hvdPin s h).any (fun _ => true) = true) ∧
  (∃ (s : Machine.State) (acc : Accessor) (m : Fin 48) (d : List Byte), (answering s = true) ∧ (isSpeedLoop m.val = true) ∧
    (writeCode s acc (loopIdx m.val) 33 d = 0) ∧ ([Instr.loopOnCommand acc m d, Instr.loopOffCommand acc m d]).any (fun _ => true) = true) ∧
  (∃ (s : Machine.State) (acc : Accessor) (m : Fin 48) (d : List Byte) (k : Nat), (answering s = true) ∧ (isSpeedLoop m.val = false) ∧
    ((loop s m.val).state = 3) ∧ (writeCode s acc (loopIdx m.val) 33 d = 0) ∧
    ([Instr.loopOnCommand acc m d, Instr.loopOffCommand acc m d]).any (fun _ => decide ((k ≠ m.val))) = true) ∧
  (∃ (s : Machine.State) (acc : Accessor) (m : Fin 48) (d : List Byte), (answering s = true) ∧ (isSpeedLoop m.val = false) ∧
    ((loop s m.val).state = 1 ∨ (loop s m.val).state = 2 ∨ law s m.val = 0 ∧ (loop s m.val).state ≠ 3) ∧ (writeCode s acc (loopIdx m.val) 33 d = 0) ∧
    (ofLe d = 1) ∧ ([Instr.loopOnCommand acc m d, Instr.loopOffCommand acc m d]).any (fun _ => true) = true) ∧
  (∃ (s : Machine.State) (acc : Accessor) (m : Fin 48) (d : List Byte) (k : Nat), (answering s = true) ∧ (isSpeedLoop m.val = false) ∧
    (¬(loop s m.val).state ∈ [1, 2, 3]) ∧ (law s m.val ≠ 0) ∧ (writeCode s acc (loopIdx m.val) 33 d = 0) ∧ (ofLe d = 1) ∧
    ([Instr.loopOnCommand acc m d, Instr.loopOffCommand acc m d]).any (fun _ => decide ((k ≠ m.val))) = true) ∧
  (∃ (s : Machine.State) (acc : Accessor) (m : Fin 48) (d : List Byte) (k : Nat), (answering s = true) ∧ (isSpeedLoop m.val = false) ∧
    ((loop s m.val).state ≠ 3) ∧ (writeCode s acc (loopIdx m.val) 33 d = 0) ∧ (ofLe d ≠ 1) ∧
    ([Instr.loopOnCommand acc m d, Instr.loopOffCommand acc m d]).any (fun _ => decide ((k ≠ m.val))) = true) ∧
  (∃ (s : Machine.State) (acc : Accessor) (m : Fin 48) (d : List Byte), (answering s = true) ∧ (writeCode s acc (loopIdx m.val) 32 d = 0)) ∧
  (∃ (s : Machine.State) (m : Fin 48) (k : Nat), ((loop s m.val).state = 3) ∧ ((loop s m.val).recorded = some false) ∧ (k ≠ m.val)) ∧
  (∃ (s : Machine.State) (m : Fin 48) (k : Nat), ((loop s m.val).state = 3) ∧ ((loop s m.val).recorded ≠ some false) ∧ (law s m.val ≠ 0) ∧
    (k ≠ m.val)) ∧
  (∃ (s : Machine.State) (acc : Accessor) (d : List Byte), (answering s = true) ∧ (writeCode s acc 28672 6 d = 0) ∧ (ofLe d = 1) ∧
    ([Instr.injectionStart acc d, Instr.injectionStop acc d]).any (fun _ => true) = true) ∧
  (∃ (s : Machine.State) (acc : Accessor) (d : List Byte), (answering s = true) ∧ (writeCode s acc 28672 6 d = 0) ∧ (ofLe d ≠ 1) ∧
    ([Instr.injectionStart acc d, Instr.injectionStop acc d]).any (fun _ => true) = true) ∧
  (∃ (s : Machine.State) (acc : Accessor) (d : List Byte), (answering s = true) ∧ (writeCode s acc 28672 19 d = 0)) ∧
  (∃ (s : Machine.State) (acc : Accessor) (d : List Byte), (answering s = true) ∧ (s.diag.capState = 1) ∧ (writeCode s acc 28672 20 d = 0)) ∧
  (∃ (s : Machine.State) (acc : Accessor) (d : List Byte), (answering s = true) ∧ (s.diag.capState ≠ 1) ∧ (writeCode s acc 28672 20 d = 0)) :=
  ⟨⟨L.ex 13, 0, by decide +kernel⟩,
   ⟨L.st 0, .pf0, 28, [0], by decide +kernel⟩,
   ⟨L.st 62, .pf0, 26, [0], 0, by decide +kernel⟩,
   ⟨L.st 0, .pf0, 0, [1], by decide +kernel⟩,
   ⟨L.st 2, .pf0, 26, [1], 0, by decide +kernel⟩,
   ⟨L.st 0, .pf0, 0, [0], 1, by decide +kernel⟩,
   ⟨L.st 0, .pf0, 0, [0], by decide +kernel⟩,
   ⟨L.st 74, 26, 0, by decide +kernel⟩,
   ⟨L.st 62, 26, 0, by decide +kernel⟩,
   ⟨L.st 898, .pf0, [1], by decide +kernel⟩,
   ⟨L.st 898, .pf0, [0], by decide +kernel⟩,
   ⟨L.st 0, .pf0, [1], by decide +kernel⟩,
   ⟨L.st 899, .pf0, [1], by decide +kernel⟩,
   ⟨L.st 0, .pf0, [1], by decide +kernel⟩⟩

theorem witness_InputsConvert :
  (∃ (s : Machine.State), (engineRuns s = false)) ∧
  (∃ (s : Machine.State) (i : Fin 48), (engineRuns s = true) ∧ (Machine.get s (ainIdx i.val) 1 = 0)) ∧
  (∃ (s : Machine.State) (i : Fin 48) (v1 : Nat) (v2 : Nat) (k : Nat), (engineRuns s = true) ∧ (Machine.get s (ainIdx i.val) 1 ≠ 0) ∧
    (¬(Machine.get s (ainIdx i.val) 1 = 2 ∧
    brokenPair (gain10 s i.val) (Machine.get s (ainIdx i.val) 4) (tenths (gain10 s i.val) v1) (tenths (gain10 s i.val) v2) = true)) ∧ (k ≠ i.val)) ∧
  (∃ (s : Machine.State) (i : Fin 48) (v1 : Nat) (v2 : Nat), (engineRuns s = true) ∧ (Machine.get s (ainIdx i.val) 1 ≠ 0) ∧
    ((ain s i.val).discard = false) ∧ (¬(Machine.get s (ainIdx i.val) 1 = 2 ∧
    brokenPair (gain10 s i.val) (Machine.get s (ainIdx i.val) 4) (tenths (gain10 s i.val) v1) (tenths (gain10 s i.val) v2) = true))) ∧
  (∃ (s : Machine.State) (i : Fin 48) (v1 : Nat) (v2 : Nat) (k : Nat), (engineRuns s = true) ∧ (Machine.get s (ainIdx i.val) 1 = 2) ∧
    (serving s Mech.thermistor i.val = false) ∧ ((ain s i.val).broken = false) ∧
    (brokenPair (gain10 s i.val) (Machine.get s (ainIdx i.val) 4) (tenths (gain10 s i.val) v1) (tenths (gain10 s i.val) v2) = true) ∧ (k ≠ i.val)) ∧
  (∃ (s : Machine.State) (i : Fin 48) (v1 : Nat) (v2 : Nat), (engineRuns s = true) ∧ (s.md.mode ∈ operating) ∧ (Machine.get s (ainIdx i.val) 1 = 2) ∧
    (serving s Mech.thermistor i.val = true) ∧ (((loopsOf s i.val).any fun k => decide (k < 28)) = true) ∧
    (brokenPair (gain10 s i.val) (Machine.get s (ainIdx i.val) 4) (tenths (gain10 s i.val) v1) (tenths (gain10 s i.val) v2) = true)) ∧
  (∃ (s : Machine.State), (engineRuns s = true) ∧ (zcAccepted s = false)) ∧
  (∃ (s : Machine.State), (engineRuns s = true) ∧ (zcAccepted s = true) ∧ (s.pins.zcSeen).any (fun _ => true) = true) ∧
  (∃ (s : Machine.State) (z : Nat), (engineRuns s = true) ∧ (zcAccepted s = true) ∧ (s.pins.zcLost = false) ∧ (s.pins.ilockOpen = false) ∧ (z < 2) ∧
    (loopUp s (26 + z) = true) ∧ ((loop s (26 + z)).broken = false) ∧ ((loop s (26 + z)).y = 1)) ∧
  (∃ (s : Machine.State) (z : Nat), (engineRuns s = true) ∧ (zcAccepted s = true) ∧ (s.pins.zcLost = true) ∧ (z < 2) ∧ (loopUp s (26 + z) = true) ∧
    (law s (26 + z) ≠ 0)) ∧
  (∃ (s : Machine.State) (z : Nat), (engineRuns s = true) ∧ (s.pins.zcLost = false) ∧ (servedWithin s Mech.zeroCross 255 (ticksS 10) = false) ∧
    (z < 2) ∧ (loopUp s (26 + z) = true)) ∧
  (∃ (s : Machine.State), (engineRuns s = true) ∧ (s.pins.zcLost = false) ∧ (servedWithin s Mech.zeroCross 255 (ticksS 10) = true) ∧
    (s.md.mode ∈ operating)) :=
  ⟨⟨L.st 1, by decide +kernel⟩,
   ⟨L.st 0, 0, by decide +kernel⟩,
   ⟨L.st 2, 0, 0, 0, 1, by decide +kernel⟩,
   ⟨L.st 2, 0, 0, 0, by decide +kernel⟩,
   ⟨L.st 2, 1, 0, 0, 0, by decide +kernel⟩,
   ⟨L.st 906, 1, 0, 0, by decide +kernel⟩,
   ⟨L.st 900, by decide +kernel⟩,
   ⟨L.ex 12, by decide +kernel⟩,
   ⟨L.st 22, 0, by decide +kernel⟩,
   ⟨L.st 901, 0, by decide +kernel⟩,
   ⟨L.st 22, 0, by decide +kernel⟩,
   ⟨L.st 902, by decide +kernel⟩⟩

theorem witness_PinsChange :
  (∃ (s : Machine.State) (acc : Accessor) (d : List Byte) (q : Fin 96), (answering s = true) ∧ (ofLe d = 76) ∧
    (writeCode s acc (pinIdx q.val) 7 d = 0)) ∧
  (∃ (s : Machine.State) (acc : Accessor) (d : List Byte) (q : Fin 96) (k : Nat), (answering s = true) ∧ (ofLe d ≠ 76) ∧
    (writeCode s acc (pinIdx q.val) 7 d = 0) ∧
    ((s.pins.lockSeq.any fun q_1 => q_1.fst == acc && q_1.snd.fst == q.val && decide (s.time - q_1.snd.snd ≤ ticksMs 1)) = true) ∧ (k < 96) ∧
    (k = q.val ∨ q.val = 96)) ∧
  (∃ (s : Machine.State) (acc : Accessor) (d : List Byte) (q : Fin 96), (answering s = true) ∧ (ofLe d ≠ 76) ∧
    (writeCode s acc (pinIdx q.val) 7 d = 0) ∧
    ((s.pins.lockSeq.any fun q_1 => q_1.fst == acc && q_1.snd.fst == q.val && decide (s.time - q_1.snd.snd ≤ ticksMs 1)) = true) ∧
    (s.pins.locked).any (fun k => decide ((k < 96))) = true) ∧
  (∃ (s : Machine.State) (acc : Accessor) (d : List Byte) (q : Fin 96), (answering s = true) ∧ (ofLe d ≠ 76) ∧
    (writeCode s acc (pinIdx q.val) 7 d = 0) ∧
    ((s.pins.lockSeq.any fun q_1 => q_1.fst == acc && q_1.snd.fst == q.val && decide (s.time - q_1.snd.snd ≤ ticksMs 1)) = false)) ∧
  (∃ (s : Machine.State) (acc : Accessor) (d : List Byte), (answering s = true) ∧ (writeCode s acc 9824 1 d = 0) ∧ (ofLe d = 76)) ∧
  (∃ (s : Machine.State) (acc : Accessor) (d : List Byte) (k : Nat), (answering s = true) ∧
    ((s.pins.lockSeq.any fun q => q.fst == acc && q.snd.fst == 96 && decide (s.time - q.snd.snd ≤ ticksMs 1)) = true) ∧ (writeCode s acc 9824 1 d = 0) ∧
    (ofLe d ≠ 76) ∧ (k < 96) ∧ (k = 96 ∨ 96 = 96)) ∧
  (∃ (s : Machine.State) (acc : Accessor) (d : List Byte), (answering s = true) ∧
    ((s.pins.lockSeq.any fun q => q.fst == acc && q.snd.fst == 96 && decide (s.time - q.snd.snd ≤ ticksMs 1)) = true) ∧ (writeCode s acc 9824 1 d = 0) ∧
    (ofLe d ≠ 76) ∧ (s.pins.locked).any (fun k => decide ((k < 96))) = true) ∧
  (∃ (s : Machine.State) (acc : Accessor) (d : List Byte), (answering s = true) ∧
    ((s.pins.lockSeq.any fun q => q.fst == acc && q.snd.fst == 96 && decide (s.time - q.snd.snd ≤ ticksMs 1)) = false) ∧
    (writeCode s acc 9824 1 d = 0) ∧ (ofLe d ≠ 76)) ∧
  (∃ (s : Machine.State) (p : Fin 96), (driven s p.val).any (fun _ => true) = true) ∧
  (∃ (s : Machine.State) (p : Fin 96), (driven s p.val = none)) :=
  ⟨⟨M.st 2, .pf0, ([0x4C]), 0, by decide +kernel⟩,
   ⟨M.st 17, .pf0, ([0xB3]), 3, 3, by decide +kernel⟩,
   ⟨M.st 19, .pf0, ([0xB3]), 2, by decide +kernel⟩,
   ⟨M.st 2, .pf0, ([0xB3]), 0, by decide +kernel⟩,
   ⟨M.st 2, .pf0, ([0x4C]), by decide +kernel⟩,
   ⟨M.st 18, .pf0, ([0xB3]), 0, by decide +kernel⟩,
   ⟨M.st 18, .pf0, ([0xB3]), by decide +kernel⟩,
   ⟨M.st 2, .pf0, ([0xB3]), by decide +kernel⟩,
   ⟨M.ex 0, 0, by decide +kernel⟩,
   ⟨M.st 0, 0, by decide +kernel⟩⟩

theorem witness_SupervisorEvents :
  (∃ (s : Machine.State), ((supervisorRuns s && !s.kick.umpireRestart) = false) ∧
    ([(Instr.lockstepMismatch, 3), (Instr.watchdogExpiry, 4)]).any (fun _ => true) = true) ∧
  (∃ (s : Machine.State) (m : Nat), ((supervisorRuns s && !s.kick.umpireRestart) = true) ∧
    ((serving s Mech.supervisor 255 || servedWithin s Mech.supervisor 255 (ticksS 600)) = false) ∧
    ([(Instr.lockstepMismatch, 3), (Instr.watchdogExpiry, 4)]).any (fun _ => decide ((m < 12))) = true) ∧
  (∃ (s : Machine.State), ((supervisorRuns s && !s.kick.umpireRestart) = true) ∧
    ((serving s Mech.supervisor 255 || servedWithin s Mech.supervisor 255 (ticksS 600)) = false) ∧ (s.md.mode ∈ operating) ∧
    ([(Instr.lockstepMismatch, 3), (Instr.watchdogExpiry, 4)]).any (fun _ => true) = true) ∧
  (∃ (s : Machine.State), ((supervisorRuns s && !s.kick.umpireRestart) = true) ∧
    ((serving s Mech.supervisor 255 || servedWithin s Mech.supervisor 255 (ticksS 600)) = true) ∧
    ([(Instr.lockstepMismatch, 3), (Instr.watchdogExpiry, 4)]).any (fun _ => true) = true) ∧
  (∃ (s : Machine.State), (s.kick.umpireRestart = false)) ∧
  (∃ (s : Machine.State), (s.kick.umpireRestart = true) ∧ (anyRailOn s = true)) :=
  ⟨⟨State.reset, by decide +kernel⟩,
   ⟨B.st 3, 0, by decide +kernel⟩,
   ⟨B.st 4, by decide +kernel⟩,
   ⟨M.st 21, by decide +kernel⟩,
   ⟨State.reset, by decide +kernel⟩,
   ⟨M.st 24, by decide +kernel⟩⟩

theorem witness_HeatActs :
  (∃ (s : Machine.State), (supervisorRuns s = false)) ∧
  (∃ (s : Machine.State) (sensors : List Int) (k : Nat), (supervisorRuns s = true) ∧ (List.foldl max (sensors.getD 0 0) sensors < 1550 ∨ 1550 ≤ tj s) ∧
    (k < 8)) ∧
  (∃ (s : Machine.State) (sensors : List Int), (supervisorRuns s = true) ∧ (List.foldl max (sensors.getD 0 0) sensors < 1550 ∨ 1550 ≤ tj s) ∧
    (1500 ≤ List.foldl max (sensors.getD 0 0) sensors)) ∧
  (∃ (s : Machine.State) (sensors : List Int), (supervisorRuns s = true) ∧ (List.foldl max (sensors.getD 0 0) sensors < 1550 ∨ 1550 ≤ tj s) ∧
    (List.foldl max (sensors.getD 0 0) sensors < 1500)) ∧
  (∃ (s : Machine.State) (sensors : List Int), (supervisorRuns s = true) ∧ (tj s < 1550) ∧ (s.md.mode ∈ operating) ∧
    (1550 ≤ List.foldl max (sensors.getD 0 0) sensors)) ∧
  (∃ (s : Machine.State) (sensors : List Int), (supervisorRuns s = true) ∧ (tj s < 1550) ∧ (s.md.mode = Mode.kickoff) ∧ (s.kick.failed = none) ∧
    (1550 ≤ List.foldl max (sensors.getD 0 0) sensors)) ∧
  (∃ (s : Machine.State), (s.powered = false ∨ s.hold = Hold.thermal)) ∧
  (∃ (s : Machine.State) (r : Nat), (s.powered = true) ∧ (s.hold ≠ Hold.thermal) ∧ (r < 16)) :=
  ⟨⟨M.st 0, by decide +kernel⟩,
   ⟨M.st 1, List.replicate 8 0, 0, by decide +kernel⟩,
   ⟨M.st 1, List.replicate 8 1520, by decide +kernel⟩,
   ⟨M.st 1, List.replicate 8 0, by decide +kernel⟩,
   ⟨M.st 2, List.replicate 8 1600, by decide +kernel⟩,
   ⟨M.st 29, List.replicate 8 1600, by decide +kernel⟩,
   ⟨M.st 31, by decide +kernel⟩,
   ⟨M.st 0, 0, by decide +kernel⟩⟩

end Sys2Proof.Tests
end

/-! # The acknowledgement of SAFESTOP (R45)

Two halves: what the checks of R60 answer to a write of 2000:0B, and what an entry to STANDBY leaves of the mode block, SAFE_N and the cause. -/

namespace Sys2Proof.Machine

/-! ## The checks of a write to 2000:0B, in the order of R60 -/

theorem writeRow_acknowledge : writeRow 0x2000 0x0B = ⟨0x2000, 1, 1, 0x0B, 0x0B, .bool, .wo, 0, 0, 1, .bool, false⟩ := by decide

theorem viewOf_modeBlock : viewOf 0x2000 = (0x2000, false) := by decide

theorem ownerCode_acknowledge (s : State) (acc : Accessor) (v : Nat) : ownerCode s acc 0x2000 0x0B v = 0 := by
  cases acc <;> simp [ownerCode]

theorem modeCodeOf_acknowledge (s : State) (v : Nat) (d : List Byte) :
    modeCodeOf s (writeRow 0x2000 0x0B) 0x2000 0x0B v d =
      if s.md.mode ≠ .safestop then 0x0401 else if anyCause s then 0x0404 else 0 := by
  have terp : terpCode s 0x2000 = 0 := by simp [terpCode, terpReach]
  simp [modeCodeOf, terp, writeRow_acknowledge, modeSystem]

theorem lockCode_acknowledge (s : State) (acc : Accessor) (v : Nat) : lockCode s acc (writeRow 0x2000 0x0B) 0x2000 0x0B v = 0 := by
  have named (w : Nat) : pinsNamed 0x2000 0x0B w = [] := by simp [pinsNamed]
  simp [lockCode, lockRefuses, writeRow_acknowledge, named]

theorem rangeCode_acknowledge (v : Nat) : rangeCode (writeRow 0x2000 0x0B) 0x2000 0x0B v = if v ≤ 1 then 0 else 0x0303 := by
  have bound : ¬((v : Int) < 0) := by omega
  simp [rangeCode, writeRow_acknowledge, Ty.value, Ty.signed, bound]

/-- Of the values of the BOOL, 0 falls to the command's own check and the reserved ones to the bounds. -/
theorem rangeStep_acknowledge (s : State) (b : Byte) :
    rangeStep s (writeRow 0x2000 0x0B) 0x2000 0x0B b.toNat [b] = if b = 1 then 0 else 0x0303 := by
  have octet : b = 1 ↔ b.toNat = 1 := by bv_omega
  have more : rangeMore s 0x2000 0x0B b.toNat [b] = 0 := by simp [rangeMore]
  rw [if_congr octet rfl rfl]
  simp only [rangeStep, rangeCode_acknowledge, more, orCode]
  obtain zero | one | reserved : b.toNat = 0 ∨ b.toNat = 1 ∨ 1 < b.toNat := by omega
  · simp [writeRow_acknowledge, oneOnly, zero]
  · simp [writeRow_acknowledge, one]
  · simp [writeRow_acknowledge, oneOnly, Nat.not_le.2 reserved, show b.toNat ≠ 0 by omega, show b.toNat ≠ 1 by omega]

theorem writeCode_acknowledge {s : State} {acc : Accessor} (b : Byte) (hreach : reachCode s acc true 0x2000 0x0B = 0) :
    writeCode s acc 0x2000 0x0B [b] =
      if s.md.mode ≠ .safestop then 0x0401 else if anyCause s then 0x0404 else if b = 1 then 0 else 0x0303 := by
  have length : lengthCode (writeRow 0x2000 0x0B) [b] = 0 := by simp [lengthCode, writeRow_acknowledge, Ty.size]
  have writable : readOnly 0x2000 0x0B (writeRow 0x2000 0x0B) = false := by decide
  have operand : operandValue false [b] = b.toNat := by simp [operandValue, ofLe]
  simp only [writeCode, hreach, viewOf_modeBlock, ownerCode_acknowledge, length, writable, operand, modeCodeOf_acknowledge,
    lockCode_acknowledge, rangeStep_acknowledge]
  by_cases mode : s.md.mode = .safestop <;> by_cases cause : anyCause s <;> simp [mode, cause]

/-! ## The write itself -/

theorem writeCommand_refused {s : State} {acc : Accessor} {i j k : Nat} {d : List Byte} (hans : answering s = true)
    (hcode : writeCode s acc i j d = k) (hk : k ≠ 0) : writeCommand acc i j d s = emit s (.answer acc k []) := by
  simp [writeCommand, writeDict, hans, hcode, hk]

theorem effectSystem_acknowledge (s : State) (acc : Accessor) (v : Nat) (d : List Byte) : effectSystem s acc 0x2000 0x0B v d =
    (if s.md.entering then { s with md := { s.md with ackHeld := true } } else acknowledge s, 0) := by
  unfold effectSystem
  rfl

theorem breakLock_md (s : State) (acc : Accessor) (i j : Nat) : (breakLock s acc i j).md = s.md := by
  unfold breakLock
  split <;> rfl

/-- An accepted acknowledgement is held while the entry runs, and acts at once otherwise. -/
theorem writeCommand_acknowledge {s : State} {acc : Accessor} {d : List Byte} (hans : answering s = true)
    (hcode : writeCode s acc 0x2000 0x0B d = 0) :
    let u := breakLock s acc 0x2000 0x0B
    writeCommand acc 0x2000 0x0B d s =
      emit (if u.md.entering then { u with md := { u.md with ackHeld := true } } else acknowledge u) (.answer acc 0 []) := by
  simp only [writeCommand, writeDict, hans, hcode, viewOf_modeBlock]
  simp [writeEffect, writeRow_acknowledge, effectSystem_acknowledge, thresholdOf]

/-! ## What the mode shows -/

/-- What a mode change is seen by: the mode block, SAFE_N and the cause of the last transition (2000:05). -/
def modeView (s : State) : Modes × Bool × Nat := (s.md, s.pins.safeN, get s 0x2000 5)

theorem modeView_eq_iff {s : State} {m : Modes} {safe : Bool} {cause : Nat} :
    modeView s = (m, safe, cause) ↔ s.md = m ∧ s.pins.safeN = safe ∧ get s 0x2000 5 = cause := by simp [modeView]

theorem md_of_modeView {s t : State} (h : modeView t = modeView s) : t.md = s.md := congrArg Prod.fst h

theorem SameButLog.modeView {s t : State} (h : SameButLog s t) : Machine.modeView t = Machine.modeView s := by
  simp [Machine.modeView, h.md, h.pins, h.get 5 (i := 0x2000) rfl]

@[simp] theorem ite_modeView (c : Prop) [Decidable c] (a b : State) :
    modeView (if c then a else b) = if c then modeView a else modeView b := apply_ite modeView c a b

@[simp] theorem foldl_modeView {α : Type} (l : List α) (f : State → α → State) (s : State) (h : ∀ u x, modeView (f u x) = modeView u) :
    modeView (l.foldl f s) = modeView s := by
  induction l generalizing s with
  | nil => rfl
  | cons a r ih => exact (ih _).trans (h _ _)

@[simp] theorem forEach_modeView (l : List Nat) (f : State → Nat → State) (s : State) (h : ∀ u n, modeView (f u n) = modeView u) :
    modeView (forEach l f s) = modeView s := foldl_modeView l f s h

/-- An object of any other subindex than that of 2000:05 may be set. -/
@[simp] theorem put_modeView (s : State) (i j v : Nat) (h : j % 256 ≠ 5) : modeView (put s i j v) = modeView s := by
  have key : keyOf 0x2000 5 ≠ keyOf i j := by unfold keyOf; omega
  simp [modeView, get_put_other s v key]

@[simp] theorem putS_modeView (s : State) (w i j : Nat) (v : Int) (h : j % 256 ≠ 5) : modeView (putS s w i j v) = modeView s :=
  put_modeView s i j _ h
@[simp] theorem wrapBy_modeView (w : Nat) (s : State) (i j n : Nat) (h : j % 256 ≠ 5) : modeView (wrapBy w s i j n) = modeView s :=
  put_modeView s i j _ h
@[simp] theorem bump_modeView (s : State) (i j : Nat) (h : j % 256 ≠ 5) : modeView (bump s i j) = modeView s := put_modeView s i j _ h
@[simp] theorem sat_modeView (s : State) (i j : Nat) (h : j % 256 ≠ 5) : modeView (sat s i j) = modeView s := put_modeView s i j _ h

@[simp] theorem setStation_modeView (s : State) (n : Nat) (f : Station → Station) : modeView (setStation s n f) = modeView s := (rfl)
@[simp] theorem setTracker_modeView (s : State) (n : Nat) (f : Tracker → Tracker) : modeView (setTracker s n f) = modeView s := (rfl)
@[simp] theorem setMotor_modeView (s : State) (n : Nat) (f : Motor → Motor) : modeView (setMotor s n f) = modeView s := (rfl)
@[simp] theorem setAxis_modeView (s : State) (n : Nat) (f : Axis → Axis) : modeView (setAxis s n f) = modeView s := (rfl)
@[simp] theorem setLoop_modeView (s : State) (n : Nat) (f : Loop → Loop) : modeView (setLoop s n f) = modeView s := (rfl)
@[simp] theorem emit_modeView (s : State) (o : Output) : modeView (emit s o) = modeView s := (rfl)

@[simp] theorem vector_modeView (s : State) (f v : Nat) : modeView (vector s f v) = modeView s := (vector_sameButLog s f v).modeView
@[simp] theorem noticeAlone_modeView (s : State) (i j c : Nat) : modeView (noticeAlone s i j c) = modeView s :=
  (noticeAlone_sameButLog s i j c).modeView
@[simp] theorem log_modeView (s : State) (cls kind src inst i j : Nat) (ser : Option Nat) (d : Nat) :
    modeView (log s cls kind src inst i j ser d) = modeView s := (log_sameButLog s cls kind src inst i j ser d).modeView
@[simp] theorem logEvent_modeView (s : State) (cls src inst i j : Nat) : modeView (logEvent s cls src inst i j) = modeView s :=
  (logEvent_sameButLog s cls src inst i j).modeView
@[simp] theorem serveDrop_modeView (s : State) (m : Mech) (n : Nat) : modeView (serveDrop s m n) = modeView s :=
  (serveDrop_sameButLog s m n).modeView

/-! ### Motors, axes and loops -/

@[simp] theorem motorOff_modeView (s : State) (m : Nat) : modeView (motorOff s m) = modeView s := by
  simp [motorOff, setMotorState, gatesOff]
@[simp] theorem unlock_modeView (s : State) (m : Nat) : modeView (unlock s m) = modeView s := by simp [unlock, setMotorState]
@[simp] theorem rampStop_modeView (s : State) (m : Nat) : modeView (rampStop s m) = modeView s := by simp [rampStop, startRamp]
@[simp] theorem rampMotors_modeView (s : State) : modeView (rampMotors s) = modeView s := by simp [rampMotors]

@[simp] theorem settlePosition_modeView (s : State) (a : Nat) (pos : Int) (n : Nat) : modeView (settlePosition s a pos n) = modeView s := by
  simp [settlePosition]
@[simp] theorem hardStop_modeView (s : State) (a : Nat) : modeView (hardStop s a) = modeView s := by
  unfold hardStop
  simp only
  split <;> simp [setHomed]
@[simp] theorem rampedStop_modeView (s : State) (a : Nat) : modeView (rampedStop s a) = modeView s := by
  unfold rampedStop slowStop
  simp only
  split
  · simp
  · split <;> simp
@[simp] theorem disableAxis_modeView (s : State) (a : Nat) : modeView (disableAxis s a) = modeView s := by
  unfold disableAxis freeze
  split <;> simp
@[simp] theorem rampAxes_modeView (s : State) : modeView (rampAxes s) = modeView s := by simp [rampAxes]

@[simp] theorem outputOff_modeView (s : State) (n : Nat) : modeView (outputOff s n) = modeView s := by simp [outputOff]
@[simp] theorem loopModeOff_modeView (s : State) (n : Nat) : modeView (loopModeOff s n) = modeView s := by simp [loopModeOff, loopOffNow]
@[simp] theorem softStart_modeView (s : State) (n : Nat) : modeView (softStart s n) = modeView s := by simp [softStart]
@[simp] theorem loopModeOn_modeView (s : State) (b n : Nat) : modeView (loopModeOn s b n) = modeView s := by
  unfold loopModeOn selectBank
  split
  · rfl
  · simp only
    split <;> simp

/-! ### Raster, service light, trackers and MODE frames -/

@[simp] theorem rasterOff_modeView (s : State) : modeView (rasterOff s) = modeView s := by
  simp [rasterOff, stopRaster, dropPlane, setDecoder, emptyFifo, updateFreeboard, watch]
@[simp] theorem serviceOff_modeView (s : State) : modeView (serviceOff s) = modeView s := by simp [serviceOff]
@[simp] theorem holdUnlit_modeView (s : State) : modeView (holdUnlit s) = modeView s := by
  simp [holdUnlit, holdOff, phaseLost, setMotorState]
@[simp] theorem sayMode_modeView (s : State) (ports : List Nat) : modeView (sayMode s ports) = modeView s := by
  simp [sayMode, modeFrames, broadcast, sendFrame, putFrame]

/-! ## The entry to STANDBY (R44, R49) -/

theorem recordMode_modeView (s : State) (new : Mode) (cause : Nat) : modeView (recordMode s new cause) =
    ({ s.md with mode := new, previous := s.md.mode, dozing := false, waking := false }, s.pins.safeN, cause) := by
  simp only [recordMode, vector_modeView, log_modeView]
  rw [wrapBy_modeView _ _ _ _ _ (by decide)]
  exact Prod.ext rfl (Prod.ext rfl (get_put_same _ _ _ rfl))

/-- The block actions of STANDBY release SAFE_N; only out of KICKOFF and DOZE do they start more. -/
theorem intoStandby_modeView {s : State} {old : Mode} (hk : old ≠ .kickoff) (hd : old ≠ .doze) :
    modeView (intoStandby s old) = ((modeView s).1, false, (modeView s).2.2) := by
  have released : modeView { s with pins := { s.pins with safeN := false } } = ((modeView s).1, false, (modeView s).2.2) := rfl
  simp [intoStandby, hk, hd, released]

theorem modeActions_standby {s : State} (h : s.md.mode = .standby) (old : Mode) : modeActions s old = intoStandby s old := by
  simp [modeActions, h]

theorem settlePending_modeView (s : State) :
    ∃ p, modeView (settlePending s) = ({ (modeView s).1 with pending := p }, (modeView s).2) := by
  unfold settlePending
  split
  · exact ⟨s.md.pending, rfl⟩
  · split
    · exact ⟨none, rfl⟩
    · split
      · exact ⟨s.md.pending, rfl⟩
      · split
        · exact ⟨s.md.pending, rfl⟩
        · exact ⟨none, by rw [log_modeView]; rfl⟩

theorem enterMode_standby_modeView {s : State} (cause : Nat) (hk : s.md.mode ≠ .kickoff) (hd : s.md.mode ≠ .doze) :
    ∃ p, modeView (enterMode s .standby cause) =
      ({ s.md with mode := .standby, previous := s.md.mode, pending := p, dozing := false, waking := false }, false, cause) := by
  have recorded := recordMode_modeView s .standby cause
  have mode : (recordMode s .standby cause).md.mode = .standby := by rw [(modeView_eq_iff.1 recorded).1]
  unfold enterMode
  simp only [modeActions_standby mode]
  obtain ⟨p, hp⟩ := settlePending_modeView (holdUnlit (sayMode (intoStandby (recordMode s .standby cause) s.md.mode)
    (livePorts (intoStandby (recordMode s .standby cause) s.md.mode))))
  exact ⟨p, by simpa [intoStandby_modeView hk hd, recorded] using hp⟩

/-! ## The acknowledgement takes effect (R45, R564) -/

/-- What the acknowledgement lets go before STANDBY is entered: the loops, motors and axes that SAFESTOP holds (R564). -/
def releaseHeld (s : State) : State :=
  let t := forEach (List.range 48) (fun u n => if (loop u n).state = 4 then setLoop u n fun l => { l with state := 0 } else u) s
  let t := forEach (List.range 12) (fun u m => if motorState u m = 7 then motorOff u m else u) t
  forEach (List.range 16) (fun u a => if axState u a = 6 then disableAxis u a else u) t

theorem acknowledge_eq (s : State) : acknowledge s = enterMode (releaseHeld s) .standby 0x0D := by
  unfold acknowledge releaseHeld
  rfl

theorem releaseHeld_modeView (s : State) : modeView (releaseHeld s) = modeView s := by simp [releaseHeld]

theorem acknowledge_enters_standby {s : State} (h : s.md.mode = .safestop) :
    (acknowledge s).md.mode = .standby ∧ (acknowledge s).md.previous = .safestop ∧ get (acknowledge s) 0x2000 5 = 0x0D ∧
      (acknowledge s).pins.safeN = false := by
  have held : (releaseHeld s).md.mode = .safestop := by rw [md_of_modeView (releaseHeld_modeView s), h]
  obtain ⟨p, hp⟩ := enterMode_standby_modeView (s := releaseHeld s) 0x0D (by simp [held]) (by simp [held])
  obtain ⟨md, safe, cause⟩ := modeView_eq_iff.1 hp
  simp [acknowledge_eq, md, safe, cause, held]

/-- An entry that ends with an acknowledgement held, and no SHUTDOWN pending, takes it (R45, R561 step 6). -/
theorem safestopDone_takes_acknowledgement {s : State} (hmode : s.md.mode = .safestop) (hheld : s.md.ackHeld = true)
    (hpend : s.md.pending ≠ some .shutdown) : ∃ t, t.md.mode = .safestop ∧ safestopDone s = acknowledge t := by
  simp only [safestopDone, hheld, hpend, if_true, if_false]
  exact ⟨_, by simp [hmode], rfl⟩

/-- Settles O18: the checks of R60 give the codes in the order of R45, and an accepted acknowledgement enters STANDBY from SAFESTOP, at once or
when the entry that holds it is complete. -/
theorem safestopAcknowledged : Obligations.SafestopAcknowledged := by
  unfold Obligations.SafestopAcknowledged
  intro acc b s hans hreach
  have code := writeCode_acknowledge b hreach
  have refused {k : Nat} (h : writeCode s acc 0x2000 0x0B [b] = k) (hk : k ≠ 0) :
      exec (.safestopAcknowledge acc [b]) s = .next (settle (emit s (.answer acc k []))) :=
    congrArg (fun t => Host.Outcome.next (settle t)) (writeCommand_refused hans h hk)
  refine ⟨fun hmode => ?_, fun hmode hcause => ?_, fun hmode hcause hb => ?_, fun hmode hcause hb => ?_, fun hmode hent hheld hpend => ?_⟩
  · exact refused (by simp [code, hmode]) (by decide)
  · exact refused (by simp [code, hmode, hcause]) (by decide)
  · exact refused (by rw [code]; simp [hmode, hcause, hb]) (by decide)
  · have accepted := writeCommand_acknowledge hans (by rw [code]; simp [hmode, hcause, hb])
    have md := breakLock_md s acc 0x2000 0x0B
    refine ⟨_, congrArg (fun t => Host.Outcome.next (settle t)) accepted, rfl, fun hent => ?_, fun hent => ?_⟩
    · simpa [md, hent] using acknowledge_enters_standby (s := breakLock s acc 0x2000 0x0B) (by rw [md, hmode])
    · simp [md, hent]
  · obtain ⟨t, ht, hdone⟩ := safestopDone_takes_acknowledgement hmode hheld hpend
    obtain ⟨hstandby, -, hcause, hsafe⟩ := acknowledge_enters_standby ht
    have complete : exec .safestopEntryComplete s = execSafestopEntryComplete s := rfl
    exact ⟨acknowledge t, by simp [complete, execSafestopEntryComplete, hmode, hent, hdone, done], hstandby, hcause, hsafe⟩

end Sys2Proof.Machine

/-! # Watermarks (R86, R87, R607)

A watermark is a run of five subindices: STATE at its base, then LATCH, COUNT, EXTREME and THRESHOLD. The facts about where the watermarks lie are
read off their list; a write of THRESHOLD and a read of LATCH are each said once as the state that they leave. -/

namespace Sys2Proof.Machine

/-! ## Where they lie -/

/-- The index, base subindex and direction of each watermark whose THRESHOLD and LATCH are objects; true stands for high-water. -/
def watermarks : List (Nat × Nat × Bool) :=
  (0x2520, 2, true) :: ((List.range 7).flatMap fun p => [(portIdx p, 0x20, true), (portIdx p, 0x28, true)]) ++
    (List.range 6).map fun n => (freeIdx n, 1, false)

theorem scheduler_mem_watermarks : (0x2520, 2, true) ∈ watermarks := by decide

theorem port_mem_watermarks {idx b : Nat} (hlo : 0x1110 ≤ idx) (hhi : idx < 0x1117) (hb : b = 0x20 ∨ b = 0x28) :
    (idx, b, true) ∈ watermarks := by
  obtain ⟨p, rfl⟩ := Nat.exists_eq_add_of_le hlo
  have hp : p < 7 := by omega
  have hpair : (0x1110 + p, b, true) ∈ [(portIdx p, 0x20, true), (portIdx p, 0x28, true)] := by
    rcases hb with rfl | rfl <;> simp [portIdx]
  exact List.mem_append_left _ (List.mem_cons_of_mem _ (List.mem_flatMap.2 ⟨p, List.mem_range.2 hp, hpair⟩))

theorem freeboard_mem_watermarks {idx : Nat} (hlo : 0x3000 ≤ idx) (hhi : idx < 0x30C0) (hmod : idx % 0x20 = 0x11) :
    (idx, 1, false) ∈ watermarks := by
  have hn : (idx - 0x3011) / 0x20 < 6 := by omega
  have hidx : freeIdx ((idx - 0x3011) / 0x20) = idx := by unfold freeIdx; omega
  exact List.mem_append_right _ (List.mem_map.2 ⟨_, List.mem_range.2 hn, by rw [hidx]⟩)

theorem mem_watermarks_of_thresholdOf {idx sub b : Nat} {high : Bool} (h : thresholdOf idx sub = some (b, high)) :
    (idx, b, high) ∈ watermarks ∧ sub = b + 4 := by
  unfold thresholdOf at h
  split at h
  · next hc => obtain ⟨rfl, rfl⟩ := hc; cases h; exact ⟨scheduler_mem_watermarks, rfl⟩
  split at h
  · next hc => obtain ⟨hlo, hhi, rfl⟩ := hc; cases h; exact ⟨port_mem_watermarks hlo hhi (.inl rfl), rfl⟩
  split at h
  · next hc => obtain ⟨hlo, hhi, rfl⟩ := hc; cases h; exact ⟨port_mem_watermarks hlo hhi (.inr rfl), rfl⟩
  split at h
  · next hc => obtain ⟨hlo, hhi, hmod, rfl⟩ := hc; cases h; exact ⟨freeboard_mem_watermarks hlo hhi hmod, rfl⟩
  · cases h

theorem mem_watermarks_of_latchOf {idx sub b : Nat} (h : latchOf idx sub = some b) :
    ∃ high, (idx, b, high) ∈ watermarks ∧ sub = b + 1 := by
  unfold latchOf at h
  split at h
  · next hc => obtain ⟨rfl, rfl⟩ := hc; cases h; exact ⟨true, scheduler_mem_watermarks, rfl⟩
  split at h
  · next hc =>
    obtain ⟨hlo, hhi, rfl | rfl⟩ := hc
    · cases h; exact ⟨true, port_mem_watermarks hlo hhi (.inl rfl), rfl⟩
    · cases h; exact ⟨true, port_mem_watermarks hlo hhi (.inr rfl), rfl⟩
  split at h
  · next hc => obtain ⟨hlo, hhi, hmod, rfl⟩ := hc; cases h; exact ⟨false, freeboard_mem_watermarks hlo hhi hmod, rfl⟩
  · cases h

/-! ## Their objects -/

/-- No watermark lies in the log block. -/
theorem isLogIdx_watermark : ∀ w ∈ watermarks, isLogIdx w.1 = false := by decide

/-- No watermark is an object of the Patron range, so its octets are not reversed (R4). -/
theorem viewOf_watermark : ∀ w ∈ watermarks, viewOf w.1 = (w.1, false) := by decide

/-- THRESHOLD takes effect with its write: it belongs to no consistency group. -/
theorem threshold_not_staged : ∀ w ∈ watermarks, (writeRow w.1 (w.2.1 + 4)).cls ≠ .rws := by decide

/-- LATCH is one octet, read-only. -/
theorem rowOf_latch : ∀ w ∈ watermarks, (rowOf w.1 (w.2.1 + 1)).map (fun r => (r.ty, r.cls)) = some (.bool, .ro) := by decide

/-- A watermark below 0x2000 is that of a port, and none lies among the partners. -/
theorem range_of_mem_watermarks : ∀ w ∈ watermarks, (w.1 < 0x2000 → 0x1110 ≤ w.1 ∧ w.1 < 0x1117) ∧ w.1 < 0x6000 := by decide

/-! ## The value watched and the objects kept -/

theorem breakLock_eq (s : State) (acc : Accessor) (i j : Nat) : breakLock s acc i j = { s with pins := (breakLock s acc i j).pins } := by
  unfold breakLock
  split <;> rfl

theorem watched_breakLock (s : State) (acc : Accessor) (i j idx b : Nat) : watched (breakLock s acc i j) idx b = watched s idx b := by
  rw [breakLock_eq]
  rfl

theorem keyOf_ne_of_sub_ne (i : Nat) {j k : Nat} (h : j ≠ k) : keyOf i j ≠ keyOf i k := by
  unfold keyOf
  omega

theorem keepsObjects_put_put {s u : State} (hu : u.dict = s.dict) (i j v k w : Nat) :
    KeepsObjects [keyOf i j, keyOf i k] s (put (put u i j v) i k w) := by
  intro key hkey
  simp only [List.mem_cons, List.not_mem_nil, or_false, not_or] at hkey
  obtain ⟨hj, hk⟩ := hkey
  simp [put, tabFind_tabSet_other _ _ hj, tabFind_tabSet_other _ _ hk, hu]

/-- A change of a value that lies beyond THRESHOLD already is no crossing: it sets STATE and EXTREME alone. -/
theorem get_watch_of_beyond {high : Bool} {s : State} {idx b old v j : Nat} (hbeyond : beyond high (get s idx (b + 4)) old = true)
    (hstate : j ≠ b) (hextreme : j ≠ b + 3) : get (watch high s idx b old v) idx j = get s idx j := by
  simp [watch, hbeyond, get_put_other _ _ (keyOf_ne_of_sub_ne idx hstate), get_put_other _ _ (keyOf_ne_of_sub_ne idx hextreme)]

/-! ## A write of THRESHOLD -/

theorem writeEffect_threshold {s : State} {acc : Accessor} {r : Row} {idx sub v b : Nat} {d : List Byte} {high : Bool} (hr : r.cls ≠ .rws)
    (h : thresholdOf idx sub = some (b, high)) :
    writeEffect s acc r idx sub v d = (put (put s idx sub v) idx b (ofBool (beyond high v (watched s idx b))), 0) := by
  obtain ⟨hport, hlow⟩ := range_of_mem_watermarks _ (mem_watermarks_of_thresholdOf h).1
  have hwrite : thresholdWrite s idx sub v = put (put s idx sub v) idx b (ofBool (beyond high v (watched s idx b))) := by
    simp [thresholdWrite, h]
  have hpartner : ¬0x6000 ≤ idx := Nat.not_le.2 hlow
  by_cases hnet : idx < 0x2000
  · simp [writeEffect, effectNet, hr, hnet, hpartner, hport hnet, h, hwrite]
  · simp [writeEffect, hr, hnet, hpartner, h, hwrite]

theorem writeCommand_threshold {s : State} {acc : Accessor} {idx sub b : Nat} {d : List Byte} {high : Bool} (hacc : Accepted s acc idx sub d)
    (h : thresholdOf idx sub = some (b, high)) :
    writeCommand acc idx sub d s = emit (put (put (breakLock s acc idx sub) idx sub (ofLe d)) idx b
      (ofBool (beyond high (ofLe d) (watched s idx b)))) (.answer acc 0 []) := by
  obtain ⟨hans, hcode⟩ := hacc
  obtain ⟨hmem, rfl⟩ := mem_watermarks_of_thresholdOf h
  have hview : viewOf idx = (idx, false) := viewOf_watermark _ hmem
  have hcls : (writeRow idx (b + 4)).cls ≠ .rws := threshold_not_staged _ hmem
  simp [writeCommand, writeDict, hans, hcode, hview, writeEffect_threshold hcls h, watched_breakLock, operandValue]

/-- Settles O21: the accepted write leaves THRESHOLD and STATE set and every other object as it was, and the next change of a value that lies
beyond the new THRESHOLD reaches neither LATCH nor COUNT. -/
theorem thresholdWritten : Obligations.ThresholdWritten := by
  unfold Obligations.ThresholdWritten
  intro acc idx sub d s b high hacc h
  obtain ⟨hmem, rfl⟩ := mem_watermarks_of_thresholdOf h
  have hlog : isLogIdx idx = false := isLogIdx_watermark _ hmem
  refine ⟨writeCommand acc idx (b + 4) d s, rfl, ?_⟩
  rw [writeCommand_threshold hacc h, breakLock_eq]
  generalize (breakLock s acc idx (b + 4)).pins = pins
  have hthreshold (v : Nat) (u : State) : get (put (put u idx (b + 4) (ofLe d)) idx b v) idx (b + 4) = ofLe d := by
    rw [get_put_other _ _ (keyOf_ne_of_sub_ne idx (by omega)), get_put_same _ _ _ hlog]
  refine ⟨hthreshold _ _, get_put_same _ _ _ hlog, rfl, fun hbeyond v => ?_, keepsObjects_put_put rfl _ _ _ _ _, rfl⟩
  have hold (w : Nat) (u : State) :
      beyond high (get (emit (put (put u idx (b + 4) (ofLe d)) idx b w) (.answer acc 0 [])) idx (b + 4)) (watched s idx b) = true := by
    rw [get_emit, hthreshold, hbeyond]
  exact ⟨get_watch_of_beyond (hold _ _) (by omega) (by omega), get_watch_of_beyond (hold _ _) (by omega) (by omega)⟩

/-! ## A read of LATCH -/

/-- A watermark shows no number that is computed at the read: LATCH shows what its object holds. -/
theorem readNum_latch (s : State) (acc : Accessor) {idx b : Nat} {high : Bool} (h : (idx, b, high) ∈ watermarks) :
    readNum s acc idx (b + 1) = get s idx (b + 1) := by
  simp only [watermarks, List.mem_append, List.mem_cons, List.mem_flatMap, List.mem_map, List.mem_range, List.not_mem_nil, or_false,
    Prod.mk.injEq, portIdx, freeIdx] at h
  obtain (⟨rfl, rfl, -⟩ | ⟨p, hp, ⟨rfl, rfl, -⟩ | ⟨rfl, rfl, -⟩⟩) | ⟨n, hn, rfl, rfl, -⟩ := h
  · rfl
  · interval_cases p <;> rfl
  · interval_cases p <;> rfl
  · interval_cases n <;> rfl

theorem readData_latch (s : State) (acc : Accessor) {idx b : Nat} {high : Bool} (h : (idx, b, high) ∈ watermarks) :
    readData s acc false idx (b + 1) = leBytes 1 (get s idx (b + 1)) := by
  obtain ⟨r, hrow, hr⟩ := Option.map_eq_some_iff.1 (rowOf_latch _ h)
  obtain ⟨hty, hcls⟩ := Prod.mk.inj hr
  simp [readData, hrow, readsStaged, hty, hcls, operandBytes, Ty.size, readNum_latch s acc h]

theorem readCommand_latch {s : State} {acc : Accessor} {idx sub b : Nat} (hans : answering s = true) (hcode : readCode s acc idx sub = 0)
    (h : latchOf idx sub = some b) :
    readCommand acc idx sub s =
      emit (put (put s idx (b + 1) 0) idx (b + 3) (watched s idx b)) (.answer acc 0 (leBytes 1 (get s idx (b + 1)))) := by
  obtain ⟨high, hmem, rfl⟩ := mem_watermarks_of_latchOf h
  have hview : viewOf idx = (idx, false) := viewOf_watermark _ hmem
  simp [readCommand, readDict, readEffect, hans, hcode, hview, h, readData_latch s acc hmem]

/-- Settles O22: the read answers the value of LATCH, and the state it leaves differs in LATCH and EXTREME alone. -/
theorem latchReadClears : Obligations.LatchReadClears := by
  unfold Obligations.LatchReadClears
  intro acc idx sub b s hans hcode h
  obtain ⟨high, hmem, -⟩ := mem_watermarks_of_latchOf h
  have hlog : isLogIdx idx = false := isLogIdx_watermark _ hmem
  refine ⟨readCommand acc idx sub s, rfl, ?_⟩
  rw [readCommand_latch hans hcode h]
  refine ⟨?_, get_put_same _ _ _ hlog, rfl, keepsObjects_put_put rfl _ _ _ _ _, rfl⟩
  rw [get_emit, get_put_other _ _ (keyOf_ne_of_sub_ne idx (by omega)), get_put_same _ _ _ hlog]

end Sys2Proof.Machine

/-! # Rail warnings (R142, R158)

A warning first sets the rail's own objects and its state (`railWarned`), then enters the log, then gives its notice where the latch was 0. What the
entry and the notice leave of the ring, of the pending notices and of the network is said once per operation of the log, as `logView`. -/

namespace Sys2Proof.Machine

/-! ## What an entry and a notice leave -/

/-- What entries and notices are seen by: the ring, the pending notices and the network with its queue of notices. -/
def logView (s : State) : List Entry × List (Nat × Nat × Nat) × Net := (s.log.ring, s.log.notices, s.net)

theorem logView_eq_iff {s : State} {ring : List Entry} {notices : List (Nat × Nat × Nat)} {n : Net} :
    logView s = (ring, notices, n) ↔ s.log.ring = ring ∧ s.log.notices = notices ∧ s.net = n := by simp [logView]

@[simp] theorem putLog_logView (s : State) (i j v : Nat) : logView (putLog s i j v) = logView s := (rfl)
@[simp] theorem satLog_logView (w : Nat) (s : State) (i j : Nat) : logView (satLog w s i j) = logView s := (rfl)
@[simp] theorem emit_logView (s : State) (o : Output) : logView (emit s o) = logView s := (rfl)

@[simp] theorem vector_logView (s : State) (fn vec : Nat) : logView (vector s fn vec) = logView s := by
  unfold vector
  split
  · exact emit_logView _ _
  · rfl

@[simp] theorem classVectors_logView (s : State) (cls : Nat) : logView (classVectors s cls) = logView s := by
  unfold classVectors
  split
  · simp
  · split <;> simp

theorem mirrorPlace_ring_notices {l m : Log} {e : Entry} (h : mirrorPlace l e = some m) : m.ring = l.ring ∧ m.notices = l.notices := by
  unfold mirrorPlace at h
  split at h
  · cases h; exact ⟨rfl, rfl⟩
  · split at h
    · cases h; exact ⟨rfl, rfl⟩
    · cases h

@[simp] theorem mirrorWrite_logView (s : State) (e : Entry) : logView (mirrorWrite s e) = logView s := by
  unfold mirrorWrite
  split
  · rfl
  · split
    · next l hl =>
      split at hl
      · obtain ⟨hring, hnotices⟩ := mirrorPlace_ring_notices hl
        simp [logView, emit, hring, hnotices]
      · cases hl
    · simp only
      split <;> rfl

/-- An entry comes first in the ring, under the next sequence number (R568, R569). -/
theorem ringWrite_logView (s : State) (e : Entry) :
    logView (ringWrite s e) = (({ e with seq := get s 0x2410 3 } :: s.log.ring).take 4096, s.log.notices, s.net) := by
  have hfull : logView (if s.log.ring.length < 4096 then s else satLog 32 s 0x2410 5) = (s.log.ring, s.log.notices, s.net) := by
    split <;> rfl
  unfold ringWrite
  simp only
  generalize (if s.log.ring.length < 4096 then s else satLog 32 s 0x2410 5) = u at hfull ⊢
  obtain ⟨hring, hnotices, hnet⟩ := logView_eq_iff.1 hfull
  have hentry (x : Entry) (v : Nat) : logView (putLog { u with log := { u.log with ring := (x :: u.log.ring).take 4096 } } 0x2410 3 v) =
      ((x :: s.log.ring).take 4096, s.log.notices, s.net) := by simp [logView, putLog, hring, hnotices, hnet]
  split
  · exact (mirrorWrite_logView _ _).trans (hentry _ _)
  · exact hentry _ _

theorem ringWrite_head (s : State) (e : Entry) : (ringWrite s e).log.ring.head? = some { e with seq := get s 0x2410 3 } := by
  obtain ⟨hring, -, -⟩ := logView_eq_iff.1 (ringWrite_logView s e)
  rw [hring, List.take_succ_cons, List.head?_cons]

/-- Where the ring is ready, the entry just logged is its newest (R568). -/
theorem logOnly_head {s : State} (cls kind src inst i j : Nat) (ser : Option Nat) (d : Nat) (hready : s.log.ready = true) :
    ∃ e, (logOnly s cls kind src inst i j ser d).log.ring.head? = some e ∧ e.tells cls kind src i j (d % 2 ^ 32) := by
  unfold logOnly
  simp only [hready, if_true]
  obtain ⟨hring, -, -⟩ := logView_eq_iff.1 (classVectors_logView (ringWrite s
    { time := pressTime s, seq := 0, cls := cls, kind := kind, source := src, inst := inst % 256, key := keyOf i j, serial := ser,
      detail := d % 2 ^ 32 }) cls)
  exact ⟨_, by rw [hring, ringWrite_head], rfl, rfl, rfl, rfl, rfl⟩

/-- An entry alone raises no notice. -/
theorem logOnly_notices_net (s : State) (cls kind src inst i j : Nat) (ser : Option Nat) (d : Nat) :
    (logOnly s cls kind src inst i j ser d).log.notices = s.log.notices ∧ (logOnly s cls kind src inst i j ser d).net = s.net := by
  have hview (u : State) (ring : List Entry) (hu : logView u = (ring, s.log.notices, s.net)) :
      (classVectors u cls).log.notices = s.log.notices ∧ (classVectors u cls).net = s.net :=
    (logView_eq_iff.1 ((classVectors_logView u cls).trans hu)).2
  unfold logOnly
  simp only
  split
  · exact hview _ _ (ringWrite_logView _ _)
  · split
    · exact hview _ s.log.ring rfl
    · exact hview _ s.log.ring rfl

/-- A notice leaves the ring and joins those that wait for the next network cycle (R577, R578). -/
theorem notice_ring_noticeQueue (s : State) (i j cls : Nat) :
    (notice s i j cls).log.ring = s.log.ring ∧ (notice s i j cls).net.noticeQueue = s.net.noticeQueue ++ [(keyOf i j, cls, 1)] := by
  have hvector (u : State) (fn : Nat) : (vector u fn 3).log.ring = u.log.ring ∧ (vector u fn 3).net = u.net := by
    obtain ⟨hring, -, hnet⟩ := logView_eq_iff.1 (vector_logView u fn 3)
    exact ⟨hring, hnet⟩
  unfold notice
  simp only
  split
  · simp only [hvector]
    split <;> exact ⟨rfl, rfl⟩
  · split <;> exact ⟨rfl, rfl⟩

/-! ## The monitor's reading -/

theorem keepsObjects_trans {ks : List Nat} {s t u : State} (h : KeepsObjects ks s t) (k : KeepsObjects ks t u) : KeepsObjects ks s u :=
  fun key hkey => (k key hkey).trans (h key hkey)

theorem keepsObjects_of_dict_eq {ks : List Nat} {s t : State} (h : t.dict = s.dict) : KeepsObjects ks s t := fun key _ => by rw [h]

theorem putReading_eq (s : State) (n v : Nat) : putReading s n v = { s with dict := (putReading s n v).dict } := by
  unfold putReading
  split <;> rfl

/-- A reading changes the reading and the extremes alone (R142). -/
theorem putReading_keepsObjects (s : State) (n v : Nat) :
    KeepsObjects [keyOf (railIdx n) 0x0F, keyOf (railIdx n) 0x10] s (putReading s n v) := by
  unfold putReading
  split
  · exact keepsObjects_of_dict_eq rfl
  · exact keepsObjects_put_put rfl _ _ _ _ _

theorem isLogIdx_railIdx (r : Fin 16) : isLogIdx (railIdx r.val) = false := by decide +revert

/-! ## The rail's own part of a warning -/

/-- The state of a good rail shows that it lies outside its warning window. -/
def outsideWarning (x : Rail) : Rail := { x with state := if x.state = 3 then 4 else x.state }

/-- What a warning makes of the rail and its objects, before its entry: state, reading, latch and count. -/
def railWarned (s : State) (n v : Nat) : State :=
  sat (put (putReading (setRail s n outsideWarning) n v) (railIdx n) 0x0C 1) (railIdx n) 0x0D

/-- All that a warning does: the rail's own part, the entry, and the notice where the latch was 0. -/
def railWarning (s : State) (n v : Nat) : State :=
  let t := logOnly (railWarned s n v) clsWarn 1 2 n (railIdx n) 0x0C none 1
  if flag s (railIdx n) 0x0C then t else notice t (railIdx n) 0x0C clsWarn

theorem exec_railWarning {s : State} {r : Fin 16} {v samples : Nat} (hacts : sideActs s r.val (windowSide s r.val 6 v) = true)
    (hlong : get s (0x2100 + r.val) 8 ≤ samples) : exec (.railWarning r ⟨v, samples⟩) s = .next (settle (railWarning s r.val v)) := by
  have hexec : exec (.railWarning r ⟨v, samples⟩) s = execRailWarning r ⟨v, samples⟩ s := rfl
  have hfilter : (sideActs s r.val (windowSide s r.val 6 v) && decide (get s (railIdx r.val) 8 ≤ samples)) = true := by
    simp [hacts, railIdx, hlong]
  simp only [hexec, execRailWarning, hfilter, if_true]
  rfl

theorem railWarned_eq (s : State) (n v : Nat) :
    railWarned s n v = { s with rails := tabMod {} s.rails n outsideWarning, dict := (railWarned s n v).dict } := by
  unfold railWarned
  rw [putReading_eq]
  rfl

theorem rail_railWarned_same (s : State) (n v : Nat) : rail (railWarned s n v) n = outsideWarning (rail s n) := by
  rw [railWarned_eq]
  exact rail_setRail_same s n outsideWarning

theorem rail_railWarned_other (s : State) {n k : Nat} (v : Nat) (h : k ≠ n) : rail (railWarned s n v) k = rail s k := by
  rw [railWarned_eq]
  exact rail_setRail_other s outsideWarning h

theorem railWarned_keepsObjects (s : State) (n v : Nat) :
    KeepsObjects [keyOf (railIdx n) 0x0C, keyOf (railIdx n) 0x0D, keyOf (railIdx n) 0x0F, keyOf (railIdx n) 0x10] s (railWarned s n v) := by
  intro key hkey
  simp only [List.mem_cons, List.not_mem_nil, or_false, not_or] at hkey
  obtain ⟨hlatch, hcount, hreading, hextremes⟩ := hkey
  calc tabFind (railWarned s n v).dict key
      = tabFind (putReading (setRail s n outsideWarning) n v).dict key :=
        keepsObjects_put_put rfl _ _ _ _ _ key (by simp [hlatch, hcount])
    _ = tabFind s.dict key := putReading_keepsObjects (setRail s n outsideWarning) n v key (by simp [hreading, hextremes])

theorem get_railWarned_latch (s : State) (r : Fin 16) (v : Nat) : get (railWarned s r.val v) (railIdx r.val) 0x0C = 1 := by
  unfold railWarned sat satBy
  rw [get_put_other _ _ (keyOf_ne_of_sub_ne _ (by omega)), get_put_same _ _ _ (isLogIdx_railIdx r)]

theorem get_railWarned_count (s : State) (r : Fin 16) (v : Nat) :
    get (railWarned s r.val v) (railIdx r.val) 0x0D = min (get s (railIdx r.val) 0x0D + 1) 65535 := by
  have hreading : get (putReading (setRail s r.val outsideWarning) r.val v) (railIdx r.val) 0x0D = get s (railIdx r.val) 0x0D := by
    rw [get_dict _ _ (isLogIdx_railIdx r), get_dict _ _ (isLogIdx_railIdx r), putReading_keepsObjects _ _ _ _ (by simp [keyOf])]
    rfl
  unfold railWarned sat satBy
  rw [get_put_same _ _ _ (isLogIdx_railIdx r), get_put_other _ _ (keyOf_ne_of_sub_ne _ (by omega)), hreading]
  rfl

/-! ## The whole warning -/

theorem railWarning_of_latch_set {s : State} {n : Nat} (v : Nat) (h : get s (railIdx n) 0x0C ≠ 0) :
    railWarning s n v = logOnly (railWarned s n v) clsWarn 1 2 n (railIdx n) 0x0C none 1 := by
  simp [railWarning, flag, h]

theorem railWarning_of_latch_clear {s : State} {n : Nat} (v : Nat) (h : get s (railIdx n) 0x0C = 0) :
    railWarning s n v = notice (logOnly (railWarned s n v) clsWarn 1 2 n (railIdx n) 0x0C none 1) (railIdx n) 0x0C clsWarn := by
  simp [railWarning, flag, h]

theorem railWarning_sameButLog (s : State) (n v : Nat) : SameButLog (railWarned s n v) (railWarning s n v) := by
  have hentry := logOnly_sameButLog (railWarned s n v) clsWarn 1 2 n (railIdx n) 0x0C none 1
  by_cases hlatch : get s (railIdx n) 0x0C = 0
  · rw [railWarning_of_latch_clear v hlatch]
    exact hentry.trans (notice_sameButLog _ _ _ _)
  · rw [railWarning_of_latch_set v hlatch]
    exact hentry

theorem railWarning_ring (s : State) (n v : Nat) :
    (railWarning s n v).log.ring = (logOnly (railWarned s n v) clsWarn 1 2 n (railIdx n) 0x0C none 1).log.ring := by
  by_cases hlatch : get s (railIdx n) 0x0C = 0
  · rw [railWarning_of_latch_clear v hlatch]
    exact (notice_ring_noticeQueue _ _ _ _).1
  · rw [railWarning_of_latch_set v hlatch]

theorem railWarned_log_net (s : State) (n v : Nat) : (railWarned s n v).log = s.log ∧ (railWarned s n v).net = s.net := by
  rw [railWarned_eq]
  exact ⟨rfl, rfl⟩

theorem railWarning_eq (s : State) (n v : Nat) : railWarning s n v =
    { s with rails := (railWarning s n v).rails, dict := (railWarning s n v).dict, log := (railWarning s n v).log,
             net := (railWarning s n v).net, out := (railWarning s n v).out } := by
  have hsame := railWarning_sameButLog s n v
  have hwarned := railWarned_eq s n v
  unfold SameButLog at hsame
  rw [hsame, hwarned]

/-- Settles O13: the rail's own part of a warning changes its state, reading, latch and count; the entry and the notice are seen in the log block,
the network and the output alone. -/
theorem railWarningLogged : Obligations.RailWarningLogged := by
  unfold Obligations.RailWarningLogged
  intro s r v samples hacts hlong
  have hsame := railWarning_sameButLog s r.val v
  obtain ⟨hlog, hnet⟩ := railWarned_log_net s r.val v
  obtain ⟨hnotices, hquiet⟩ := logOnly_notices_net (railWarned s r.val v) clsWarn 1 2 r.val (railIdx r.val) 0x0C none 1
  have hrail (k : Nat) : rail (railWarning s r.val v) k = rail (railWarned s r.val v) k := by rw [rail, rail, hsame.rails]
  refine ⟨railWarning s r.val v, exec_railWarning hacts hlong, ?latch, ?count, ?entry, ?known, ?first, ?others, ?own, ?objects,
    railWarning_eq s r.val v⟩
  case latch => exact (hsame.get _ (isLogIdx_railIdx r)).trans (get_railWarned_latch s r v)
  case count => exact (hsame.get _ (isLogIdx_railIdx r)).trans (get_railWarned_count s r v)
  case entry =>
    intro hready
    rw [railWarning_ring]
    exact logOnly_head _ _ _ _ _ _ _ _ (hlog ▸ hready)
  case known =>
    intro hlatch
    rw [railWarning_of_latch_set v hlatch]
    exact ⟨hnotices.trans (congrArg _ hlog), hquiet.trans hnet⟩
  case first =>
    intro hlatch
    rw [railWarning_of_latch_clear v hlatch, (notice_ring_noticeQueue _ _ _ _).2, hquiet, hnet]
    rfl
  case others => exact fun k hk => (hrail k).trans (rail_railWarned_other s v hk)
  case own => exact (hrail _).trans (rail_railWarned_same s r.val v)
  case objects => exact keepsObjects_trans (railWarned_keepsObjects s r.val v) (keepsObjects_of_dict_eq hsame.dict)

end Sys2Proof.Machine

/-! # The block as a whole (R20, R44)

What every command has in common: it ends in a settled state, leaves the queue, and keeps the log block within its bounds. The laws say so of each
meaning; the dispatch collects them command by command. -/

namespace Sys2Proof.Machine

/-! ## The dispatch -/

theorem exec_ends : ∀ (c : Instr) (s : State), ∃ t, exec c s = .next (settle t) ∧ t.pending = s.pending
  | .aonPowerGood, s => execAonPowerGood_pending s
  | .kickoffWatchdog, s => execKickoffWatchdog_pending s
  | .warmResetHoldEnd, s => execWarmResetHoldEnd_pending s
  | .porst, s => execPorst_pending s
  | .brownOut, s => execBrownOut_pending s
  | .wakeIn, s => execWakeIn_pending s
  | .pciExpressWake, s => execPciExpressWake_pending s
  | .dozeWakeComplete index, s => execDozeWakeComplete_pending index s
  | .terpRestart acc data, s => execTerpRestart_pending acc data s
  | .ownerKeyWrite acc data, s => execOwnerKeyWrite_pending acc data s
  | .debugChallenge, s => execDebugChallenge_pending s
  | .debugResponse rs, s => execDebugResponse_pending rs s
  | .railEnable r, s => execRailEnable_pending r s
  | .railGood r x, s => execRailGood_pending r x s
  | .rampFault r reading, s => execRampFault_pending r reading s
  | .retryPauseEnd, s => execRetryPauseEnd_pending s
  | .railWarning r x, s => execRailWarning_pending r x s
  | .railFault r x, s => execRailFault_pending r x s
  | .railResetOffStart, s => execRailResetOffStart_pending s
  | .railDisable r, s => execRailDisable_pending r s
  | .shutdownOffStart, s => execShutdownOffStart_pending s
  | .shutdownSequenceEnd, s => execShutdownSequenceEnd_pending s
  | .dozeEnter, s => execDozeEnter_pending s
  | .modeRequest acc data, s => execModeRequest_pending acc data s
  | .safestopEntryComplete, s => execSafestopEntryComplete_pending s
  | .safestopAcknowledge acc data, s => execSafestopAcknowledge_pending acc data s
  | .admissionEnable acc data, s => execAdmissionEnable_pending acc data s
  | .modeRouteStep, s => execModeRouteStep_pending s
  | .warmupComplete, s => execWarmupComplete_pending s
  | .warmupLimitExpiry, s => execWarmupLimitExpiry_pending s
  | .standbyIdleExpiry, s => execStandbyIdleExpiry_pending s
  | .readyIdleExpiry, s => execReadyIdleExpiry_pending s
  | .calibrationComplete, s => execCalibrationComplete_pending s
  | .objectWrite acc idx sub data, s => execObjectWrite_pending acc idx sub data s
  | .thresholdWrite acc idx sub data, s => execThresholdWrite_pending acc idx sub data s
  | .watermarkLatchRead acc idx sub, s => execWatermarkLatchRead_pending acc idx sub s
  | .readToClear acc idx sub, s => execReadToClear_pending acc idx sub s
  | .apply acc data, s => execApply_pending acc data s
  | .discardStaging acc data, s => execDiscardStaging_pending acc data s
  | .deferredGroupTake g, s => execDeferredGroupTake_pending g s
  | .anonymousAccessorTimeout ip port, s => execAnonymousAccessorTimeout_pending ip port s
  | .patronHeartbeat, s => execPatronHeartbeat_pending s
  | .referenceLoss, s => execReferenceLoss_pending s
  | .referenceLossReset, s => execReferenceLossReset_pending s
  | .relock acc data, s => execRelock_pending acc data s
  | .relockLockDetect, s => execRelockLockDetect_pending s
  | .relockLockTimeout, s => execRelockLockTimeout_pending s
  | .relockSettleEnd held, s => execRelockSettleEnd_pending held s
  | .frequencyCheckEnd count, s => execFrequencyCheckEnd_pending count s
  | .stationDllLocked st, s => execStationDllLocked_pending st s
  | .ceilingTrip, s => execCeilingTrip_pending s
  | .timebaseLockLoss, s => execTimebaseLockLoss_pending s
  | .dllLockLoss st, s => execDllLockLoss_pending st s
  | .dllRelockTimeout st, s => execDllRelockTimeout_pending st s
  | .read src tid idx sub, s => execRead_pending src tid idx sub s
  | .writeExpedited src tid idx sub data, s => execWriteExpedited_pending src tid idx sub data s
  | .writeSegmented src tid idx sub total, s => execWriteSegmented_pending src tid idx sub total s
  | .segment src tid last seq data, s => execSegment_pending src tid last seq data s
  | .segmentAck src tid seq, s => execSegmentAck_pending src tid seq s
  | .abort src tid code, s => execAbort_pending src tid code s
  | .readResponse src tid status data, s => execReadResponse_pending src tid status data s
  | .writeResponse src tid status code, s => execWriteResponse_pending src tid status code s
  | .cyclicIn src map cycle data, s => execCyclicIn_pending src map cycle data s
  | .rollcallAnswer src identity dictRev plcaId, s => execRollcallAnswer_pending src identity dictRev plcaId s
  | .rollcall src round base slots slotLen, s => execRollcall_pending src round base slots slotLen s
  | .sessionHello src slot nonce, s => execSessionHello_pending src slot nonce s
  | .sessionClose src slot, s => execSessionClose_pending src slot s
  | .nonTdpFrame p, s => execNonTdpFrame_pending p s
  | .invalidTdpFrame p badAuth, s => execInvalidTdpFrame_pending p badAuth s
  | .lowerRetryExpiry n tid, s => execLowerRetryExpiry_pending n tid s
  | .upperTimeout n tid, s => execUpperTimeout_pending n tid s
  | .busOff p, s => execBusOff_pending p s
  | .rollcallBlockEnd p, s => execRollcallBlockEnd_pending p s
  | .rollcallPollTimeout p, s => execRollcallPollTimeout_pending p s
  | .rollCallComplete, s => execRollCallComplete_pending s
  | .partnerIdleTimeout n, s => execPartnerIdleTimeout_pending n s
  | .sessionTimeout id, s => execSessionTimeout_pending id s
  | .portConfigWrite acc p sub data, s => execPortConfigWrite_pending acc p sub data s
  | .partnerPortWrite acc n data, s => execPartnerPortWrite_pending acc n data s
  | .keySlotWrite acc sub data, s => execKeySlotWrite_pending acc sub data s
  | .sheetTailDoorbell t index, s => execSheetTailDoorbell_pending t index s
  | .completionHeadDoorbell t index, s => execCompletionHeadDoorbell_pending t index s
  | .cancelDoorbell t index, s => execCancelDoorbell_pending t index s
  | .mailboxRead fn op idx sub buffer, s => execMailboxRead_pending fn op idx sub buffer s
  | .mailboxWrite fn idx sub len addr data, s => execMailboxWrite_pending fn idx sub len addr data s
  | .descriptorFetch t, s => execDescriptorFetch_pending t s
  | .descriptorReceived t bytes, s => execDescriptorReceived_pending t bytes s
  | .planeFetchStart t, s => execPlaneFetchStart_pending t s
  | .planeReadCompletion t ring st unit plane, s => execPlaneReadCompletion_pending t ring st unit plane s
  | .ingestReadError t e repeatFails, s => execIngestReadError_pending t e repeatFails s
  | .coalescingTimeout t, s => execCoalescingTimeout_pending t s
  | .busMasterEnable t on, s => execBusMasterEnable_pending t on s
  | .functionLevelReset fn, s => execFunctionLevelReset_pending fn s
  | .pePerst, s => execPePerst_pending s
  | .tenantResetWrite acc t data, s => execTenantResetWrite_pending acc t data s
  | .tenantEnable acc t data, s => execTenantEnable_pending acc t data s
  | .tenantDisable acc t data, s => execTenantDisable_pending acc t data s
  | .scrubComplete t, s => execScrubComplete_pending t s
  | .mr4Read a b, s => execMr4Read_pending a b s
  | .dramUncorrectableRead reader addr errors, s => execDramUncorrectableRead_pending reader addr errors s
  | .patrolOverdue, s => execPatrolOverdue_pending s
  | .dikePeriod work, s => execDikePeriod_pending work s
  | .admissionPass, s => execAdmissionPass_pending s
  | .decoderPlaneStart st, s => execDecoderPlaneStart_pending st s
  | .bandDecode st unit reads words, s => execBandDecode_pending st unit reads words s
  | .pointerMismatch copy, s => execPointerMismatch_pending copy s
  | .scanStart st lastLineBytes inputHeld words, s => execScanStart_pending st lastLineBytes inputHeld words s
  | .scanUnderrun st pixel, s => execScanUnderrun_pending st pixel s
  | .scanEnd st, s => execScanEnd_pending st s
  | .bdEdge st e, s => execBdEdge_pending st e s
  | .bdWindowClose st, s => execBdWindowClose_pending st s
  | .patchMeasurement st marks, s => execPatchMeasurement_pending st marks s
  | .linkRetrain acc st data, s => execLinkRetrain_pending acc st data s
  | .bringUpStepTimeout st, s => execBringUpStepTimeout_pending st s
  | .ldFltSoftError st, s => execLdFltSoftError_pending st s
  | .ldFltHardFault st status, s => execLdFltHardFault_pending st status s
  | .serdesLockLoss st status, s => execSerdesLockLoss_pending st status s
  | .serviceApcWindow acc st data, s => execServiceApcWindow_pending acc st data s
  | .serviceBdWindowsStart acc st data, s => execServiceBdWindowsStart_pending acc st data s
  | .serviceBdWindowsStop acc st data, s => execServiceBdWindowsStop_pending acc st data s
  | .serviceWindow acc st data, s => execServiceWindow_pending acc st data s
  | .ilockOpen, s => execIlockOpen_pending s
  | .ilockClosedHoldEnd, s => execIlockClosedHoldEnd_pending s
  | .image slot late, s => execImage_pending slot late s
  | .axisMove slot, s => execAxisMove_pending slot s
  | .axisRampedStop slot, s => execAxisRampedStop_pending slot s
  | .motorSpeed slot, s => execMotorSpeed_pending slot s
  | .pinSet slot, s => execPinSet_pending slot s
  | .arrivalCheck slot levels, s => execArrivalCheck_pending slot levels s
  | .loopSetPointBank slot, s => execLoopSetPointBank_pending slot s
  | .loopOn slot, s => execLoopOn_pending slot s
  | .loopOff slot, s => execLoopOff_pending slot s
  | .networkCycleStart skipped, s => execNetworkCycleStart_pending skipped s
  | .sheetExit slot, s => execSheetExit_pending slot s
  | .logMark slot, s => execLogMark_pending slot s
  | .captureTrigger slot, s => execCaptureTrigger_pending slot s
  | .postEvent acc data, s => execPostEvent_pending acc data s
  | .cancelByTag acc data, s => execCancelByTag_pending acc data s
  | .encoderEdge tt e, s => execEncoderEdge_pending tt e s
  | .encoderWindowClose tt, s => execEncoderWindowClose_pending tt s
  | .pwmPeriod m sample1 sample2, s => execPwmPeriod_pending m sample1 sample2 s
  | .speedCommand acc m data, s => execSpeedCommand_pending acc m data s
  | .alignEnd m, s => execAlignEnd_pending m s
  | .rampEnd m, s => execRampEnd_pending m s
  | .zeroCrossing m t, s => execZeroCrossing_pending m t s
  | .commutation m t, s => execCommutation_pending m t s
  | .hallEdge m code t, s => execHallEdge_pending m code t s
  | .overcurrent x, s => execOvercurrent_pending x s
  | .stallTimeout m, s => execStallTimeout_pending m s
  | .backEmfLoss m, s => execBackEmfLoss_pending m s
  | .motorRestart m, s => execMotorRestart_pending m s
  | .brakeEnd m, s => execBrakeEnd_pending m s
  | .axisMoveCommand acc a data, s => execAxisMoveCommand_pending acc a data s
  | .groupMoveCommand acc a data, s => execGroupMoveCommand_pending acc a data s
  | .axisRampedStopCommand acc a data, s => execAxisRampedStopCommand_pending acc a data s
  | .axisHardStopCommand acc a data, s => execAxisHardStopCommand_pending acc a data s
  | .axisResume acc a data, s => execAxisResume_pending acc a data s
  | .axisHome acc a data, s => execAxisHome_pending acc a data s
  | .axisEnable acc a data, s => execAxisEnable_pending acc a data s
  | .moveEnd a, s => execMoveEnd_pending a s
  | .deferredCommandRelease target, s => execDeferredCommandRelease_pending target s
  | .standstillDelayEnd a, s => execStandstillDelayEnd_pending a s
  | .homingLatch a, s => execHomingLatch_pending a s
  | .homingSearchEnd a, s => execHomingSearchEnd_pending a s
  | .limitActive a positive, s => execLimitActive_pending a positive s
  | .axisDriverFault a, s => execAxisDriverFault_pending a s
  | .axisReenable a, s => execAxisReenable_pending a s
  | .loopEvaluation n, s => execLoopEvaluation_pending n s
  | .loopRestart n, s => execLoopRestart_pending n s
  | .loopOnCommand acc n data, s => execLoopOnCommand_pending acc n data s
  | .loopOffCommand acc n data, s => execLoopOffCommand_pending acc n data s
  | .bankWrite acc n data, s => execBankWrite_pending acc n data s
  | .conversion n v1 v2, s => execConversion_pending n v1 v2 s
  | .zcInEdge, s => execZcInEdge_pending s
  | .zeroCrossTimeout, s => execZeroCrossTimeout_pending s
  | .injectionStart acc data, s => execInjectionStart_pending acc data s
  | .injectionStop acc data, s => execInjectionStop_pending acc data s
  | .captureArm acc data, s => execCaptureArm_pending acc data s
  | .captureTriggerWrite acc data, s => execCaptureTriggerWrite_pending acc data s
  | .pinLock acc p data, s => execPinLock_pending acc p data s
  | .lockAll acc data, s => execLockAll_pending acc data s
  | .driveMismatch p, s => execDriveMismatch_pending p s
  | .bankSupplyChange bank33 x, s => execBankSupplyChange_pending bank33 x s
  | .lockstepMismatch, s => execLockstepMismatch_pending s
  | .watchdogExpiry, s => execWatchdogExpiry_pending s
  | .umpireReset, s => execUmpireReset_pending s
  | .safeNMismatch, s => execSafeNMismatch_pending s
  | .mirrorErase, s => execMirrorErase_pending s
  | .logRead acc, s => execLogRead_pending acc s
  | .noticeRead acc, s => execNoticeRead_pending acc s
  | .tjSample sensors, s => execTjSample_pending sensors s
  | .thermalShutdown, s => execThermalShutdown_pending s
  | .kickoffStepComplete r, s => execKickoffStepComplete_pending r s
  | .porstRelease, s => execPorstRelease_pending s
  | .pePerstRelease speed width, s => execPePerstRelease_pending speed width s
  | .numvfsWrite n, s => execNumvfsWrite_pending n s
  | .bringUpStepComplete st regs, s => execBringUpStepComplete_pending st regs s
  | .busOffRecoveryComplete p, s => execBusOffRecoveryComplete_pending p s
  | .canErrorFrame p n, s => execCanErrorFrame_pending p n s
  | .arpRequest senderIp senderMac targetIp, s => execArpRequest_pending senderIp senderMac targetIp s
  | .icmpEchoRequest senderIp payload, s => execIcmpEchoRequest_pending senderIp payload s
  | .homeActive a, s => execHomeActive_pending a s
  | .axisFltInactive a, s => execAxisFltInactive_pending a s
  | .safeNMismatchEnd, s => execSafeNMismatchEnd_pending s
  | .ilockClose, s => execIlockClose_pending s

theorem exec_logBound : ∀ (c : Instr) (s : State), LogBound s.log → ∃ t, exec c s = .next (settle t) ∧ LogBound t.log
  | .aonPowerGood, s, h => execAonPowerGood_logBound s h
  | .kickoffWatchdog, s, h => execKickoffWatchdog_logBound s h
  | .warmResetHoldEnd, s, h => execWarmResetHoldEnd_logBound s h
  | .porst, s, h => execPorst_logBound s h
  | .brownOut, s, h => execBrownOut_logBound s h
  | .wakeIn, s, h => execWakeIn_logBound s h
  | .pciExpressWake, s, h => execPciExpressWake_logBound s h
  | .dozeWakeComplete index, s, h => execDozeWakeComplete_logBound index s h
  | .terpRestart acc data, s, h => execTerpRestart_logBound acc data s h
  | .ownerKeyWrite acc data, s, h => execOwnerKeyWrite_logBound acc data s h
  | .debugChallenge, s, h => execDebugChallenge_logBound s h
  | .debugResponse rs, s, h => execDebugResponse_logBound rs s h
  | .railEnable r, s, h => execRailEnable_logBound r s h
  | .railGood r x, s, h => execRailGood_logBound r x s h
  | .rampFault r reading, s, h => execRampFault_logBound r reading s h
  | .retryPauseEnd, s, h => execRetryPauseEnd_logBound s h
  | .railWarning r x, s, h => execRailWarning_logBound r x s h
  | .railFault r x, s, h => execRailFault_logBound r x s h
  | .railResetOffStart, s, h => execRailResetOffStart_logBound s h
  | .railDisable r, s, h => execRailDisable_logBound r s h
  | .shutdownOffStart, s, h => execShutdownOffStart_logBound s h
  | .shutdownSequenceEnd, s, h => execShutdownSequenceEnd_logBound s h
  | .dozeEnter, s, h => execDozeEnter_logBound s h
  | .modeRequest acc data, s, h => execModeRequest_logBound acc data s h
  | .safestopEntryComplete, s, h => execSafestopEntryComplete_logBound s h
  | .safestopAcknowledge acc data, s, h => execSafestopAcknowledge_logBound acc data s h
  | .admissionEnable acc data, s, h => execAdmissionEnable_logBound acc data s h
  | .modeRouteStep, s, h => execModeRouteStep_logBound s h
  | .warmupComplete, s, h => execWarmupComplete_logBound s h
  | .warmupLimitExpiry, s, h => execWarmupLimitExpiry_logBound s h
  | .standbyIdleExpiry, s, h => execStandbyIdleExpiry_logBound s h
  | .readyIdleExpiry, s, h => execReadyIdleExpiry_logBound s h
  | .calibrationComplete, s, h => execCalibrationComplete_logBound s h
  | .objectWrite acc idx sub data, s, h => execObjectWrite_logBound acc idx sub data s h
  | .thresholdWrite acc idx sub data, s, h => execThresholdWrite_logBound acc idx sub data s h
  | .watermarkLatchRead acc idx sub, s, h => execWatermarkLatchRead_logBound acc idx sub s h
  | .readToClear acc idx sub, s, h => execReadToClear_logBound acc idx sub s h
  | .apply acc data, s, h => execApply_logBound acc data s h
  | .discardStaging acc data, s, h => execDiscardStaging_logBound acc data s h
  | .deferredGroupTake g, s, h => execDeferredGroupTake_logBound g s h
  | .anonymousAccessorTimeout ip port, s, h => execAnonymousAccessorTimeout_logBound ip port s h
  | .patronHeartbeat, s, h => execPatronHeartbeat_logBound s h
  | .referenceLoss, s, h => execReferenceLoss_logBound s h
  | .referenceLossReset, s, h => execReferenceLossReset_logBound s h
  | .relock acc data, s, h => execRelock_logBound acc data s h
  | .relockLockDetect, s, h => execRelockLockDetect_logBound s h
  | .relockLockTimeout, s, h => execRelockLockTimeout_logBound s h
  | .relockSettleEnd held, s, h => execRelockSettleEnd_logBound held s h
  | .frequencyCheckEnd count, s, h => execFrequencyCheckEnd_logBound count s h
  | .stationDllLocked st, s, h => execStationDllLocked_logBound st s h
  | .ceilingTrip, s, h => execCeilingTrip_logBound s h
  | .timebaseLockLoss, s, h => execTimebaseLockLoss_logBound s h
  | .dllLockLoss st, s, h => execDllLockLoss_logBound st s h
  | .dllRelockTimeout st, s, h => execDllRelockTimeout_logBound st s h
  | .read src tid idx sub, s, h => execRead_logBound src tid idx sub s h
  | .writeExpedited src tid idx sub data, s, h => execWriteExpedited_logBound src tid idx sub data s h
  | .writeSegmented src tid idx sub total, s, h => execWriteSegmented_logBound src tid idx sub total s h
  | .segment src tid last seq data, s, h => execSegment_logBound src tid last seq data s h
  | .segmentAck src tid seq, s, h => execSegmentAck_logBound src tid seq s h
  | .abort src tid code, s, h => execAbort_logBound src tid code s h
  | .readResponse src tid status data, s, h => execReadResponse_logBound src tid status data s h
  | .writeResponse src tid status code, s, h => execWriteResponse_logBound src tid status code s h
  | .cyclicIn src map cycle data, s, h => execCyclicIn_logBound src map cycle data s h
  | .rollcallAnswer src identity dictRev plcaId, s, h => execRollcallAnswer_logBound src identity dictRev plcaId s h
  | .rollcall src round base slots slotLen, s, h => execRollcall_logBound src round base slots slotLen s h
  | .sessionHello src slot nonce, s, h => execSessionHello_logBound src slot nonce s h
  | .sessionClose src slot, s, h => execSessionClose_logBound src slot s h
  | .nonTdpFrame p, s, h => execNonTdpFrame_logBound p s h
  | .invalidTdpFrame p badAuth, s, h => execInvalidTdpFrame_logBound p badAuth s h
  | .lowerRetryExpiry n tid, s, h => execLowerRetryExpiry_logBound n tid s h
  | .upperTimeout n tid, s, h => execUpperTimeout_logBound n tid s h
  | .busOff p, s, h => execBusOff_logBound p s h
  | .rollcallBlockEnd p, s, h => execRollcallBlockEnd_logBound p s h
  | .rollcallPollTimeout p, s, h => execRollcallPollTimeout_logBound p s h
  | .rollCallComplete, s, h => execRollCallComplete_logBound s h
  | .partnerIdleTimeout n, s, h => execPartnerIdleTimeout_logBound n s h
  | .sessionTimeout id, s, h => execSessionTimeout_logBound id s h
  | .portConfigWrite acc p sub data, s, h => execPortConfigWrite_logBound acc p sub data s h
  | .partnerPortWrite acc n data, s, h => execPartnerPortWrite_logBound acc n data s h
  | .keySlotWrite acc sub data, s, h => execKeySlotWrite_logBound acc sub data s h
  | .sheetTailDoorbell t index, s, h => execSheetTailDoorbell_logBound t index s h
  | .completionHeadDoorbell t index, s, h => execCompletionHeadDoorbell_logBound t index s h
  | .cancelDoorbell t index, s, h => execCancelDoorbell_logBound t index s h
  | .mailboxRead fn op idx sub buffer, s, h => execMailboxRead_logBound fn op idx sub buffer s h
  | .mailboxWrite fn idx sub len addr data, s, h => execMailboxWrite_logBound fn idx sub len addr data s h
  | .descriptorFetch t, s, h => execDescriptorFetch_logBound t s h
  | .descriptorReceived t bytes, s, h => execDescriptorReceived_logBound t bytes s h
  | .planeFetchStart t, s, h => execPlaneFetchStart_logBound t s h
  | .planeReadCompletion t ring st unit plane, s, h => execPlaneReadCompletion_logBound t ring st unit plane s h
  | .ingestReadError t e repeatFails, s, h => execIngestReadError_logBound t e repeatFails s h
  | .coalescingTimeout t, s, h => execCoalescingTimeout_logBound t s h
  | .busMasterEnable t on, s, h => execBusMasterEnable_logBound t on s h
  | .functionLevelReset fn, s, h => execFunctionLevelReset_logBound fn s h
  | .pePerst, s, h => execPePerst_logBound s h
  | .tenantResetWrite acc t data, s, h => execTenantResetWrite_logBound acc t data s h
  | .tenantEnable acc t data, s, h => execTenantEnable_logBound acc t data s h
  | .tenantDisable acc t data, s, h => execTenantDisable_logBound acc t data s h
  | .scrubComplete t, s, h => execScrubComplete_logBound t s h
  | .mr4Read a b, s, h => execMr4Read_logBound a b s h
  | .dramUncorrectableRead reader addr errors, s, h => execDramUncorrectableRead_logBound reader addr errors s h
  | .patrolOverdue, s, h => execPatrolOverdue_logBound s h
  | .dikePeriod work, s, h => execDikePeriod_logBound work s h
  | .admissionPass, s, h => execAdmissionPass_logBound s h
  | .decoderPlaneStart st, s, h => execDecoderPlaneStart_logBound st s h
  | .bandDecode st unit reads words, s, h => execBandDecode_logBound st unit reads words s h
  | .pointerMismatch copy, s, h => execPointerMismatch_logBound copy s h
  | .scanStart st lastLineBytes inputHeld words, s, h => execScanStart_logBound st lastLineBytes inputHeld words s h
  | .scanUnderrun st pixel, s, h => execScanUnderrun_logBound st pixel s h
  | .scanEnd st, s, h => execScanEnd_logBound st s h
  | .bdEdge st e, s, h => execBdEdge_logBound st e s h
  | .bdWindowClose st, s, h => execBdWindowClose_logBound st s h
  | .patchMeasurement st marks, s, h => execPatchMeasurement_logBound st marks s h
  | .linkRetrain acc st data, s, h => execLinkRetrain_logBound acc st data s h
  | .bringUpStepTimeout st, s, h => execBringUpStepTimeout_logBound st s h
  | .ldFltSoftError st, s, h => execLdFltSoftError_logBound st s h
  | .ldFltHardFault st status, s, h => execLdFltHardFault_logBound st status s h
  | .serdesLockLoss st status, s, h => execSerdesLockLoss_logBound st status s h
  | .serviceApcWindow acc st data, s, h => execServiceApcWindow_logBound acc st data s h
  | .serviceBdWindowsStart acc st data, s, h => execServiceBdWindowsStart_logBound acc st data s h
  | .serviceBdWindowsStop acc st data, s, h => execServiceBdWindowsStop_logBound acc st data s h
  | .serviceWindow acc st data, s, h => execServiceWindow_logBound acc st data s h
  | .ilockOpen, s, h => execIlockOpen_logBound s h
  | .ilockClosedHoldEnd, s, h => execIlockClosedHoldEnd_logBound s h
  | .image slot late, s, h => execImage_logBound slot late s h
  | .axisMove slot, s, h => execAxisMove_logBound slot s h
  | .axisRampedStop slot, s, h => execAxisRampedStop_logBound slot s h
  | .motorSpeed slot, s, h => execMotorSpeed_logBound slot s h
  | .pinSet slot, s, h => execPinSet_logBound slot s h
  | .arrivalCheck slot levels, s, h => execArrivalCheck_logBound slot levels s h
  | .loopSetPointBank slot, s, h => execLoopSetPointBank_logBound slot s h
  | .loopOn slot, s, h => execLoopOn_logBound slot s h
  | .loopOff slot, s, h => execLoopOff_logBound slot s h
  | .networkCycleStart skipped, s, h => execNetworkCycleStart_logBound skipped s h
  | .sheetExit slot, s, h => execSheetExit_logBound slot s h
  | .logMark slot, s, h => execLogMark_logBound slot s h
  | .captureTrigger slot, s, h => execCaptureTrigger_logBound slot s h
  | .postEvent acc data, s, h => execPostEvent_logBound acc data s h
  | .cancelByTag acc data, s, h => execCancelByTag_logBound acc data s h
  | .encoderEdge tt e, s, h => execEncoderEdge_logBound tt e s h
  | .encoderWindowClose tt, s, h => execEncoderWindowClose_logBound tt s h
  | .pwmPeriod m sample1 sample2, s, h => execPwmPeriod_logBound m sample1 sample2 s h
  | .speedCommand acc m data, s, h => execSpeedCommand_logBound acc m data s h
  | .alignEnd m, s, h => execAlignEnd_logBound m s h
  | .rampEnd m, s, h => execRampEnd_logBound m s h
  | .zeroCrossing m t, s, h => execZeroCrossing_logBound m t s h
  | .commutation m t, s, h => execCommutation_logBound m t s h
  | .hallEdge m code t, s, h => execHallEdge_logBound m code t s h
  | .overcurrent x, s, h => execOvercurrent_logBound x s h
  | .stallTimeout m, s, h => execStallTimeout_logBound m s h
  | .backEmfLoss m, s, h => execBackEmfLoss_logBound m s h
  | .motorRestart m, s, h => execMotorRestart_logBound m s h
  | .brakeEnd m, s, h => execBrakeEnd_logBound m s h
  | .axisMoveCommand acc a data, s, h => execAxisMoveCommand_logBound acc a data s h
  | .groupMoveCommand acc a data, s, h => execGroupMoveCommand_logBound acc a data s h
  | .axisRampedStopCommand acc a data, s, h => execAxisRampedStopCommand_logBound acc a data s h
  | .axisHardStopCommand acc a data, s, h => execAxisHardStopCommand_logBound acc a data s h
  | .axisResume acc a data, s, h => execAxisResume_logBound acc a data s h
  | .axisHome acc a data, s, h => execAxisHome_logBound acc a data s h
  | .axisEnable acc a data, s, h => execAxisEnable_logBound acc a data s h
  | .moveEnd a, s, h => execMoveEnd_logBound a s h
  | .deferredCommandRelease target, s, h => execDeferredCommandRelease_logBound target s h
  | .standstillDelayEnd a, s, h => execStandstillDelayEnd_logBound a s h
  | .homingLatch a, s, h => execHomingLatch_logBound a s h
  | .homingSearchEnd a, s, h => execHomingSearchEnd_logBound a s h
  | .limitActive a positive, s, h => execLimitActive_logBound a positive s h
  | .axisDriverFault a, s, h => execAxisDriverFault_logBound a s h
  | .axisReenable a, s, h => execAxisReenable_logBound a s h
  | .loopEvaluation n, s, h => execLoopEvaluation_logBound n s h
  | .loopRestart n, s, h => execLoopRestart_logBound n s h
  | .loopOnCommand acc n data, s, h => execLoopOnCommand_logBound acc n data s h
  | .loopOffCommand acc n data, s, h => execLoopOffCommand_logBound acc n data s h
  | .bankWrite acc n data, s, h => execBankWrite_logBound acc n data s h
  | .conversion n v1 v2, s, h => execConversion_logBound n v1 v2 s h
  | .zcInEdge, s, h => execZcInEdge_logBound s h
  | .zeroCrossTimeout, s, h => execZeroCrossTimeout_logBound s h
  | .injectionStart acc data, s, h => execInjectionStart_logBound acc data s h
  | .injectionStop acc data, s, h => execInjectionStop_logBound acc data s h
  | .captureArm acc data, s, h => execCaptureArm_logBound acc data s h
  | .captureTriggerWrite acc data, s, h => execCaptureTriggerWrite_logBound acc data s h
  | .pinLock acc p data, s, h => execPinLock_logBound acc p data s h
  | .lockAll acc data, s, h => execLockAll_logBound acc data s h
  | .driveMismatch p, s, h => execDriveMismatch_logBound p s h
  | .bankSupplyChange bank33 x, s, h => execBankSupplyChange_logBound bank33 x s h
  | .lockstepMismatch, s, h => execLockstepMismatch_logBound s h
  | .watchdogExpiry, s, h => execWatchdogExpiry_logBound s h
  | .umpireReset, s, h => execUmpireReset_logBound s h
  | .safeNMismatch, s, h => execSafeNMismatch_logBound s h
  | .mirrorErase, s, h => execMirrorErase_logBound s h
  | .logRead acc, s, h => execLogRead_logBound acc s h
  | .noticeRead acc, s, h => execNoticeRead_logBound acc s h
  | .tjSample sensors, s, h => execTjSample_logBound sensors s h
  | .thermalShutdown, s, h => execThermalShutdown_logBound s h
  | .kickoffStepComplete r, s, h => execKickoffStepComplete_logBound r s h
  | .porstRelease, s, h => execPorstRelease_logBound s h
  | .pePerstRelease speed width, s, h => execPePerstRelease_logBound speed width s h
  | .numvfsWrite n, s, h => execNumvfsWrite_logBound n s h
  | .bringUpStepComplete st regs, s, h => execBringUpStepComplete_logBound st regs s h
  | .busOffRecoveryComplete p, s, h => execBusOffRecoveryComplete_logBound p s h
  | .canErrorFrame p n, s, h => execCanErrorFrame_logBound p n s h
  | .arpRequest senderIp senderMac targetIp, s, h => execArpRequest_logBound senderIp senderMac targetIp s h
  | .icmpEchoRequest senderIp payload, s, h => execIcmpEchoRequest_logBound senderIp payload s h
  | .homeActive a, s, h => execHomeActive_logBound a s h
  | .axisFltInactive a, s, h => execAxisFltInactive_logBound a s h
  | .safeNMismatchEnd, s, h => execSafeNMismatchEnd_logBound s h
  | .ilockClose, s, h => execIlockClose_logBound s h

/-- A step answers a next state in every state. -/
theorem step_next (s : State) : ∃ t, step s = .next t ∧ t.pending = s.pending.tail := by
  cases h : s.pending with
  | nil => exact ⟨idleTick s, by simp [step, h], by simp [h]⟩
  | cons c rest =>
    obtain ⟨t, ht, hp⟩ := exec_ends c { s with pending := rest }
    exact ⟨settle t, by simp [step, h, ht], by simp [hp]⟩

/-- What a step leaves is a settled state, but for the tick of an empty queue. -/
theorem step_eq {s t : State} (h : step s = .next t) : t = idleTick s ∨ ∃ u, t = settle u := by
  unfold step at h
  split at h
  · next c rest _ =>
    obtain ⟨u, hu, -⟩ := exec_ends c { s with pending := rest }
    exact .inr ⟨u, by simpa [hu] using h.symm⟩
  · exact .inl (by simpa using h.symm)

/-- Settles O1: by the definition of a step. -/
theorem stepRunsFront : Obligations.StepRunsFront := by
  unfold Obligations.StepRunsFront
  intro c rest s h
  simp [step, h]

/-- Settles O3: by evaluation of the reset state. -/
theorem resetState : Obligations.ResetState := by
  unfold Obligations.ResetState Settled LogBounds
  decide

/-- Settles O4: by the laws of the queue, command by command. -/
theorem everyCommandEnds : Obligations.EveryCommandEnds := by
  unfold Obligations.EveryCommandEnds
  exact exec_ends

/-- Settles O5, by induction on the length of the queue. -/
theorem queueIsServed : Obligations.QueueIsServed := by
  unfold Obligations.QueueIsServed
  intro s
  induction hn : s.pending.length generalizing s with
  | zero => exact ⟨s, .zero s, List.length_eq_zero_iff.1 hn⟩
  | succ n ih =>
    obtain ⟨u, hstep, hu⟩ := step_next s
    obtain ⟨t, runs, ht⟩ := ih u (by simp [hu, hn])
    exact ⟨t, .succ hstep runs, ht⟩

/-- Settles O7: by the laws of the log block, command by command. -/
theorem logStaysBounded : Obligations.LogStaysBounded := by
  unfold Obligations.LogStaysBounded
  intro s t hs h
  have hlog : LogBound s.log := hs
  unfold step at h
  split at h
  · next c rest _ =>
    obtain ⟨u, hu, hbound⟩ := exec_logBound c { s with pending := rest } hlog
    obtain rfl : settle u = t := by simpa [hu] using h
    exact settle_logBound u hbound
  · obtain rfl : idleTick s = t := by simpa using h
    exact idleTick_logBound s hlog

/-! ## The rows that sheets bring -/

theorem sheetRow_congr {s t : State} (hmd : t.md = s.md) (hsheets : t.sheets = s.sheets) : sheetRow t = sheetRow s := by
  simp [sheetRow, anyAdmitted, anyOnPath, hmd, hsheets]

/-- The mode that RUNOUT leads to once no sheet is on the path: its pending target where RUNOUT reaches it, else READY (R44). -/
def runoutTarget (s : State) : Mode :=
  match s.md.pending with
  | some p => if fromRunout p then p else .ready
  | none => .ready

theorem sheetRow_ready {s : State} (h : s.md.mode = .ready) : sheetRow s = if anyAdmitted s then some (.rally, 3) else none := by
  simp [sheetRow, h]

theorem sheetRow_rally {s : State} (h : s.md.mode = .rally) : sheetRow s = if anyOnPath s then none else some (.ready, 2) := by
  simp [sheetRow, h]

theorem sheetRow_runout {s : State} (h : s.md.mode = .runout) :
    sheetRow s = if anyOnPath s then none else some (runoutTarget s, 2) := by
  unfold sheetRow runoutTarget
  simp only [h]
  split
  · rfl
  · cases s.md.pending with
    | none => rfl
    | some p => by_cases hp : fromRunout p = true <;> simp [hp]

theorem sheetRow_other {s : State} (hready : s.md.mode ≠ .ready) (hrally : s.md.mode ≠ .rally) (hrunout : s.md.mode ≠ .runout) :
    sheetRow s = none := by
  unfold sheetRow
  split <;> simp_all

theorem settle_of_none {s : State} (h : sheetRow (enterWaiting s) = none) : settle s = enterWaiting s := by simp [settle, h]

theorem settle_of_some {s : State} {m : Mode} {c : Nat} (h : sheetRow (enterWaiting s) = some (m, c)) :
    settle s = enterMode (enterWaiting s) m c := by simp [settle, h]

@[simp] theorem enterMode_mode (s : State) (m : Mode) (c : Nat) : (enterMode s m c).md.mode = m := by
  simp [enterMode, (modeView_eq_iff.1 (recordMode_modeView s m c)).1]

/-- READY and RALLY have no block actions, so no sheet changes on their entry. -/
theorem enterMode_sheets {s : State} {m : Mode} (c : Nat) (h : m = .ready ∨ m = .rally) : (enterMode s m c).sheets = s.sheets := by
  have hmode : (recordMode s m c).md.mode = m := by rw [(modeView_eq_iff.1 (recordMode_modeView s m c)).1]
  have hactions (old : Mode) : modeActions (recordMode s m c) old = recordMode s m c := by
    rcases h with rfl | rfl <;> simp [modeActions, hmode]
  simp [enterMode, hactions]

theorem anyAdmitted_of_not_onPath {s : State} (h : anyOnPath s = false) : anyAdmitted s = false := by
  simp_all [anyOnPath, anyAdmitted]

theorem onPath_of_anyAdmitted {s : State} (h : anyAdmitted s = true) : anyOnPath s = true := by
  obtain ⟨sh, hsh, hadm⟩ := List.any_eq_true.1 h
  exact List.any_eq_true.2 ⟨sh, hsh, by simp [hadm]⟩

theorem runoutTarget_cases (s : State) :
    runoutTarget s = .ready ∨ runoutTarget s = .standby ∨ runoutTarget s = .calibrate ∨ runoutTarget s = .shutdown := by
  unfold runoutTarget
  split
  · next p _ => cases p <;> simp [fromRunout]
  · exact .inl rfl

/-- Entering READY with no sheet on the path, RALLY with an admitted one, or a mode that has no such row, leaves no row due. -/
theorem settled_enterMode {s : State} {m : Mode} (c : Nat) (hready : m = .ready → anyAdmitted s = false)
    (hrally : m = .rally → anyOnPath s = true) (hrunout : m ≠ .runout) : Settled (enterMode s m c) := by
  unfold Settled
  by_cases h : m = .ready ∨ m = .rally
  · have hsheets := enterMode_sheets (s := s) c h
    rcases h with rfl | rfl
    · have : anyAdmitted (enterMode s .ready c) = false := by simpa [anyAdmitted, hsheets] using hready rfl
      simp [sheetRow_ready, this]
    · have : anyOnPath (enterMode s .rally c) = true := by simpa [anyOnPath, hsheets] using hrally rfl
      simp [sheetRow_rally, this]
  · rw [not_or] at h
    exact sheetRow_other (by simp [h.1]) (by simp [h.2]) (by simp [hrunout])

/-- The row that closes a command leaves none due (R44). -/
theorem settled_settle (s : State) : Settled (settle s) := by
  cases hrow : sheetRow (enterWaiting s) with
  | none => rw [Settled, settle_of_none hrow, hrow]
  | some r =>
    obtain ⟨m, c⟩ := r
    rw [settle_of_some hrow]
    by_cases hready : (enterWaiting s).md.mode = .ready
    · rw [sheetRow_ready hready] at hrow
      split at hrow
      · next hadm =>
        cases hrow
        exact settled_enterMode _ nofun (fun _ => onPath_of_anyAdmitted hadm) nofun
      · cases hrow
    by_cases hrally : (enterWaiting s).md.mode = .rally
    · rw [sheetRow_rally hrally] at hrow
      split at hrow
      · cases hrow
      · next hpath =>
        cases hrow
        exact settled_enterMode _ (fun _ => anyAdmitted_of_not_onPath (by simpa using hpath)) nofun nofun
    by_cases hrunout : (enterWaiting s).md.mode = .runout
    · rw [sheetRow_runout hrunout] at hrow
      split at hrow
      · cases hrow
      · next hpath =>
        cases hrow
        refine settled_enterMode _ (fun _ => anyAdmitted_of_not_onPath (by simpa using hpath)) (fun h => ?_) (fun h => ?_)
        · rcases runoutTarget_cases (enterWaiting s) with k | k | k | k <;> simp [k] at h
        · rcases runoutTarget_cases (enterWaiting s) with k | k | k | k <;> simp [k] at h
    · rw [sheetRow_other hready hrally hrunout] at hrow
      cases hrow

end Sys2Proof.Machine

/-! # The mode's view

What a mode change is seen by (`modeView`: the mode block, SAFE_N and 2000:05) under every operation that is not itself a mode change. -/

namespace Sys2Proof.Machine

/-! ## Keys of the store -/

theorem keyOf_inj {i j i' j' : Nat} (hj : j < 256) (hj' : j' < 256) : keyOf i j = keyOf i' j' ↔ i = i' ∧ j = j' := by
  unfold keyOf
  omega

@[simp] theorem geoIdx_gt_modeBlock (n : Nat) : 0x2000 < geoIdx n := by unfold geoIdx; omega
@[simp] theorem motIdx_gt_modeBlock (m : Nat) : 0x2000 < motIdx m := by unfold motIdx; omega
@[simp] theorem axIdx_gt_modeBlock (a : Nat) : 0x2000 < axIdx a := by unfold axIdx; omega
@[simp] theorem loopIdx_gt_modeBlock (n : Nat) : 0x2000 < loopIdx n := by unfold loopIdx; omega
@[simp] theorem ainIdx_gt_modeBlock (i : Nat) : 0x2000 < ainIdx i := by unfold ainIdx; omega
@[simp] theorem linkIdx_gt_modeBlock (n : Nat) : 0x2000 < linkIdx n := by unfold linkIdx; omega
@[simp] theorem fifoIdx_gt_modeBlock (n : Nat) : 0x2000 < fifoIdx n := by unfold fifoIdx; omega
@[simp] theorem freeIdx_gt_modeBlock (n : Nat) : 0x2000 < freeIdx n := by unfold freeIdx; omega
@[simp] theorem decIdx_gt_modeBlock (n : Nat) : 0x2000 < decIdx n := by unfold decIdx; omega
@[simp] theorem resIdx_gt_modeBlock (n : Nat) : 0x2000 < resIdx n := by unfold resIdx; omega
@[simp] theorem trkIdx_gt_modeBlock (k : Nat) : 0x2000 < trkIdx k := by unfold trkIdx; omega
@[simp] theorem pinIdx_gt_modeBlock (p : Nat) : 0x2000 < pinIdx p := by unfold pinIdx; omega
@[simp] theorem partnerIdx_gt_modeBlock (n : Nat) : 0x2000 < partnerIdx n := by unfold partnerIdx; omega
@[simp] theorem tenIdx_gt_modeBlock (t : Nat) : 0x2000 < tenIdx t := by unfold tenIdx; omega
@[simp] theorem linkCnt_gt_modeBlock (n : Nat) : 0x2000 < linkCnt n := by unfold linkCnt; omega
@[simp] theorem railIdx_gt_modeBlock (r : Nat) : 0x2000 < railIdx r := by unfold railIdx; omega

/-- An object behind the mode block may be set. -/
@[simp] theorem put_modeView_above (s : State) (i j v : Nat) (h : 0x2000 < i) : modeView (put s i j v) = modeView s := by
  have key : keyOf 0x2000 5 ≠ keyOf i j := by unfold keyOf; omega
  simp [modeView, get_put_other s v key]
@[simp] theorem putS_modeView_above (s : State) (w i j : Nat) (v : Int) (h : 0x2000 < i) : modeView (putS s w i j v) = modeView s :=
  put_modeView_above s i j _ h
@[simp] theorem wrapBy_modeView_above (w : Nat) (s : State) (i j n : Nat) (h : 0x2000 < i) : modeView (wrapBy w s i j n) = modeView s :=
  put_modeView_above s i j _ h
@[simp] theorem satBy_modeView_above (w : Nat) (s : State) (i j n : Nat) (h : 0x2000 < i) : modeView (satBy w s i j n) = modeView s :=
  put_modeView_above s i j _ h
@[simp] theorem bump_modeView_above (s : State) (i j : Nat) (h : 0x2000 < i) : modeView (bump s i j) = modeView s := put_modeView_above s i j _ h
@[simp] theorem sat_modeView_above (s : State) (i j : Nat) (h : 0x2000 < i) : modeView (sat s i j) = modeView s := put_modeView_above s i j _ h
@[simp] theorem satBy_modeView (w : Nat) (s : State) (i j n : Nat) (h : j % 256 ≠ 5) : modeView (satBy w s i j n) = modeView s :=
  put_modeView s i j _ h

/-! ## Choices and folds -/

def modeParts (md : Modes) (safe : Bool) (dict : Tab Nat) : Modes × Bool × Nat :=
  (md, safe, match tabFind dict (keyOf 0x2000 5) with | some v => v | none => defaultOf 0x2000 5)
@[simp] theorem modeView_mk (time powered md kick hold reset_ seq rails clk net flash dict blobs staged stagedBlobs stagers armed accs sheets nextUid tenants coalescing mem stations trackers slots motors axes loops ains pins diag log heatTicks heatFrom out fresh pending) : modeView ⟨time, powered, md, kick, hold, reset_, seq, rails, clk, net, flash, dict, blobs, staged, stagedBlobs, stagers, armed, accs, sheets, nextUid, tenants, coalescing, mem, stations, trackers, slots, motors, axes, loops, ains, pins, diag, log, heatTicks, heatFrom, out, fresh, pending⟩ = modeParts md pins.safeN dict := rfl
@[simp] theorem modeParts_self (s : State) : modeParts s.md s.pins.safeN s.dict = modeView s := rfl
@[simp] theorem ite_modeView1 {α : Type} (c : Prop) [Decidable c] (a b : State × α) :
  modeView (if c then a else b).1 = if c then modeView a.1 else modeView b.1 := apply_ite (fun x : State × α => modeView x.1) c a b
@[simp] theorem foldl_modeView1 {α β : Type} (l : List α) (f : State × β → α → State × β) (s : State × β) (h : ∀ u x, modeView (f u x).1 = modeView u.1) :
    modeView (l.foldl f s).1 = modeView s.1 := by
  induction l generalizing s with
  | nil => rfl
  | cons a r ih => exact (ih _).trans (h _ _)
@[simp] theorem foldr_modeView {α : Type} (l : List α) (f : α → State → State) (s : State) (h : ∀ u x, modeView (f x u) = modeView u) :
  modeView (l.foldr f s) = modeView s := by
  induction l with
  | nil => rfl
  | cons a r ih => exact (h _ _).trans ih
@[simp] theorem putBlob_modeView (s : State) (idx sub : Nat) (l : List Byte) : modeView (putBlob s idx sub l) = modeView s := (rfl)
@[simp] theorem emitAll_modeView (s : State) (l : List Output) : modeView (emitAll s l) = modeView s := (rfl)
@[simp] theorem setRail_modeView (s : State) (n : Nat) (f : Rail → Rail) : modeView (setRail s n f) = modeView s := (rfl)
@[simp] theorem setAin_modeView (s : State) (n : Nat) (f : Ain → Ain) : modeView (setAin s n f) = modeView s := (rfl)
@[simp] theorem setTenant_modeView (s : State) (n : Nat) (f : Tenant → Tenant) : modeView (setTenant s n f) = modeView s := (rfl)
@[simp] theorem setPort_modeView (s : State) (n : Nat) (f : Port → Port) : modeView (setPort s n f) = modeView s := (rfl)
@[simp] theorem putLog_modeView (s : State) (idx sub v : Nat) : modeView (putLog s idx sub v) = modeView s := (rfl)
@[simp] theorem wrapLog_modeView (w : Nat) (s : State) (idx sub : Nat) : modeView (wrapLog w s idx sub) = modeView s := (rfl)
@[simp] theorem satLog_modeView (w : Nat) (s : State) (idx sub : Nat) : modeView (satLog w s idx sub) = modeView s := (rfl)
@[simp] theorem modSheet_modeView (s : State) (uid : Nat) (f : Sheet → Sheet) : modeView (modSheet s uid f) = modeView s := (rfl)
@[simp] theorem setAcc_modeView (s : State) (a : Accessor) (f : AccState → AccState) : modeView (setAcc s a f) = modeView s := (rfl)
@[simp] theorem setSession_modeView (s : State) (id : Nat) (f : Session → Session) : modeView (setSession s id f) = modeView s := (rfl)

theorem put_modeView_key (s : State) {i j : Nat} (v : Nat) (h : keyOf i j ≠ keyOf 0x2000 5) : modeView (put s i j v) = modeView s := by
  simp [modeView, get_put_other s v h.symm]
theorem watch_modeView_key (high : Bool) (s : State) (idx sub old v : Nat) (h : ∀ k < 4, keyOf idx (sub + k) ≠ keyOf 0x2000 5) :
    modeView (watch high s idx sub old v) = modeView s := by
  have at_ (u : State) (k w : Nat) (hk : k < 4) : modeView (put u idx (sub + k) w) = modeView u := put_modeView_key u w (h k hk)
  unfold watch sat satBy
  simp only
  split
  · split <;> simp [at_, show ∀ u w, modeView (put u idx sub w) = modeView u from fun u w => at_ u 0 w (by omega)]
  · simp [at_, show ∀ u w, modeView (put u idx sub w) = modeView u from fun u w => at_ u 0 w (by omega)]
@[simp] theorem watch_modeView_above (high : Bool) (s : State) (idx sub old v : Nat) (h : 0x2000 < idx) :
    modeView (watch high s idx sub old v) = modeView s := watch_modeView_key _ _ _ _ _ _ fun k _ => by unfold keyOf; omega
@[simp] theorem watch_modeView (high : Bool) (s : State) (idx sub old v : Nat) (h : 5 < sub) (h' : sub < 250) :
    modeView (watch high s idx sub old v) = modeView s := watch_modeView_key _ _ _ _ _ _ fun k hk => by unfold keyOf; omega

/-! ## The operations -/

@[simp] theorem holdTime_modeView (s : State) : modeView (holdTime s) = modeView s := (rfl)
@[simp] theorem tick_modeView (s : State) : modeView (tick s) = modeView s := by unfold tick; simp
@[simp] theorem mirrorWrite_modeView (s : State) (e : Entry) : modeView (mirrorWrite s e) = modeView s := by
  unfold mirrorWrite; (repeat' split) <;> simp
@[simp] theorem ringWrite_modeView (s : State) (e : Entry) : modeView (ringWrite s e) = modeView s := by unfold ringWrite; simp
@[simp] theorem notice_modeView (s : State) (idx sub cls : Nat) : modeView (notice s idx sub cls) = modeView s := by unfold notice; simp
@[simp] theorem classVectors_modeView (s : State) (cls : Nat) : modeView (classVectors s cls) = modeView s := by unfold classVectors; simp
@[simp] theorem logOnly_modeView (s : State) (cls kind src inst idx sub : Nat) (serial : Option Nat) (detail : Nat) :
  modeView (logOnly s cls kind src inst idx sub serial detail) = modeView s := by
  unfold logOnly; simp
@[simp] theorem serveBegin_modeView (s : State) (m : Mech) (inst code src idx sub : Nat) :
  modeView (serveBegin s m inst code src idx sub) = modeView s := by
  unfold serveBegin; simp
@[simp] theorem servePass_modeView (s : State) (m : Mech) (inst src idx sub : Nat) : modeView (servePass s m inst src idx sub) = modeView s := by
  unfold servePass; split <;> simp
@[simp] theorem doubleFaultAs_modeView (cls : Nat) (s : State) (m : Mech) (inst code src idx sub : Nat) :
  modeView (doubleFaultAs cls s m inst code src idx sub) = modeView s := by
  unfold doubleFaultAs; simp
@[simp] theorem doubleFault_modeView (s : State) (m : Mech) (inst code src idx sub : Nat) :
  modeView (doubleFault s m inst code src idx sub) = modeView s := by
  unfold doubleFault; simp
@[simp] theorem serveCancel_modeView (s : State) (m : Mech) (inst src idx sub : Nat) : modeView (serveCancel s m inst src idx sub) = modeView s := by
  unfold serveCancel; split <;> simp
@[simp] theorem causeAdd_modeView (s : State) (c inst : Nat) : modeView (causeAdd s c inst) = modeView s := by unfold causeAdd; simp
@[simp] theorem causeEnd_modeView (s : State) (c inst : Nat) : modeView (causeEnd s c inst) = modeView s := by unfold causeEnd; simp
@[simp] theorem causeEndAll_modeView (s : State) (p : Nat → Nat → Bool) : modeView (causeEndAll s p) = modeView s := by unfold causeEndAll; simp
@[simp] theorem setSlots_modeView (s : State) (l : Tab Event) : modeView (setSlots s l) = modeView s := by unfold setSlots; simp
@[simp] theorem addEvent_modeView (s : State) (lo hi : Nat) (e : Event) : modeView (addEvent s lo hi e) = modeView s := by
  unfold addEvent; split <;> simp
@[simp] theorem dropEvents_modeView (s : State) (p : Event → Bool) : modeView (dropEvents s p) = modeView s := by unfold dropEvents; simp
@[simp] theorem writeEntry_modeView (s : State) (t : Nat) (l : List Byte) : modeView (writeEntry s t l) = modeView s := (rfl)
@[simp] theorem signalEntry_modeView (s : State) (t : Nat) : modeView (signalEntry s t) = modeView s := by unfold signalEntry; simp
@[simp] theorem writeSignal_modeView (s : State) (t : Nat) (h : Held) : modeView (writeSignal s t h) = modeView s := by unfold writeSignal; simp
@[simp] theorem deliver_modeView (s : State) (t : Nat) (h : Held) : modeView (deliver s t h) = modeView s := by unfold deliver; simp
@[simp] theorem flushHeld_modeView (t a : Nat) (a1 : State) : modeView (flushHeld t a a1) = modeView a1 := by
  fun_induction flushHeld t a a1 <;> simp [*]
@[simp] theorem countOutcome_modeView (s : State) (outcome : Nat) : modeView (countOutcome s outcome) = modeView s := by unfold countOutcome; simp
@[simp] theorem completion_modeView (s : State) (sh : Sheet) (outcome reason : Nat) (double : Bool) :
  modeView (completion s sh outcome reason double) = modeView s := by
  unfold completion; simp
@[simp] theorem toScrubbing_modeView (s : State) (t : Nat) : modeView (toScrubbing s t) = modeView s := by unfold toScrubbing; simp
@[simp] theorem ghostCheck_modeView (s : State) (t : Nat) : modeView (ghostCheck s t) = modeView s := by unfold ghostCheck; simp
@[simp] theorem removeSheet_modeView (s : State) (uid : Nat) : modeView (removeSheet s uid) = modeView s := by unfold removeSheet; simp
@[simp] theorem enterWaiting_modeView (s : State) : modeView (enterWaiting s) = modeView s := by unfold enterWaiting; simp
@[simp] theorem finishSheet_modeView (s : State) (sh : Sheet) : modeView (finishSheet s sh) = modeView s := by unfold finishSheet; simp
@[simp] theorem overtaken_modeView (s : State) (uid : Nat) : modeView (overtaken s uid) = modeView s := (rfl)
@[simp] theorem spillSheet_modeView (s : State) (uid : Nat) (st : Option Nat) : modeView (spillSheet s uid st) = modeView s := (rfl)
@[simp] theorem spillWhere_modeView (s : State) (p : Sheet → Bool) (st : Option Nat) : modeView (spillWhere s p st) = modeView s := (rfl)
@[simp] theorem spillStation_modeView (s : State) (st : Nat) : modeView (spillStation s st) = modeView s := (rfl)
@[simp] theorem spillPath_modeView (s : State) (b : Nat) : modeView (spillPath s b) = modeView s := (rfl)
@[simp] theorem spoilAll_modeView (s : State) : modeView (spoilAll s) = modeView s := by unfold spoilAll; simp
@[simp] theorem setMotorState_modeView (s : State) (m v : Nat) : modeView (setMotorState s m v) = modeView s := by simp [setMotorState]
@[simp] theorem gatesOff_modeView (s : State) (m : Nat) : modeView (gatesOff s m) = modeView s := (rfl)
@[simp] theorem startRamp_modeView (s : State) (m : Nat) (v : Int) (d : Nat) : modeView (startRamp s m v d) = modeView s := (rfl)
@[simp] theorem spinUp_modeView (s : State) (m : Nat) : modeView (spinUp s m) = modeView s := by unfold spinUp; simp
@[simp] theorem commandEntry_modeView (s : State) (m k : Nat) : modeView (commandEntry s m k) = modeView s := by unfold commandEntry; simp
@[simp] theorem brakeMotor_modeView (s : State) (m : Nat) : modeView (brakeMotor s m) = modeView s := by unfold brakeMotor; simp
@[simp] theorem shortLowSides_modeView (s : State) (m : Nat) : modeView (shortLowSides s m) = modeView s := by simp [shortLowSides]
@[simp] theorem driveGates_modeView (s : State) (m : Nat) : modeView (driveGates s m) = modeView s := by unfold driveGates; simp
@[simp] theorem motorFaultRecord_modeView (s : State) (m code : Nat) : modeView (motorFaultRecord s m code) = modeView s := by
  unfold motorFaultRecord; simp
@[simp] theorem motorReached_modeView (s : State) (m : Nat) : modeView (motorReached s m) = modeView s := by unfold motorReached; simp
@[simp] theorem beginRun_modeView (s : State) (m : Nat) : modeView (beginRun s m) = modeView s := by simp [beginRun]
@[simp] theorem restartMotor_modeView (s : State) (m : Nat) : modeView (restartMotor s m) = modeView s := by unfold restartMotor; simp
@[simp] theorem setHomed_modeView (s : State) (a : Nat) (b : Bool) : modeView (setHomed s a b) = modeView s := by simp [setHomed]
@[simp] theorem toStandstill_modeView (s : State) (a : Nat) : modeView (toStandstill s a) = modeView s := (rfl)
@[simp] theorem runMove_modeView (s : State) (a : Nat) (m : Move) (wait : Nat) : modeView (runMove s a m wait) = modeView s := (rfl)
@[simp] theorem noMove_modeView (s : State) (a : Nat) : modeView (noMove s a) = modeView s := (rfl)
@[simp] theorem startMove_modeView (s : State) (a : Nat) (m : Move) : modeView (startMove s a m) = modeView s := by unfold startMove; simp
@[simp] theorem startGroup_modeView (s : State) (l : List (Nat × Move)) : modeView (startGroup s l) = modeView s := by unfold startGroup; simp
@[simp] theorem groupMove_modeView (s : State) (g r : Nat) : modeView (groupMove s g r) = modeView s := by unfold groupMove; split <;> simp
@[simp] theorem moveOverrun_modeView (s : State) (a : Nat) : modeView (moveOverrun s a) = modeView s := by unfold moveOverrun; simp
@[simp] theorem fireMove_modeView (s : State) (a r : Nat) : modeView (fireMove s a r).1 = modeView s := by
  unfold fireMove; simp only; (repeat' split) <;> simp
@[simp] theorem endMove_modeView (s : State) (a : Nat) : modeView (endMove s a) = modeView s := by
  unfold endMove; simp only; (repeat' split) <;> simp
@[simp] theorem slowStop_modeView (s : State) (a : Nat) (dec : Option Nat) : modeView (slowStop s a dec) = modeView s := by
  unfold slowStop; simp only; (repeat' split) <;> simp
@[simp] theorem stopAxis_modeView (s : State) (a : Nat) (hard : Bool) : modeView (stopAxis s a hard) = modeView s := by unfold stopAxis; simp
@[simp] theorem resumeAxis_modeView (s : State) (a : Nat) : modeView (resumeAxis s a) = modeView s := by unfold resumeAxis; simp
@[simp] theorem safestopAxis_modeView (s : State) (a : Nat) : modeView (safestopAxis s a) = modeView s := by unfold safestopAxis; simp
@[simp] theorem homingDone_modeView (s : State) (a : Nat) : modeView (homingDone s a) = modeView s := by unfold homingDone; simp
@[simp] theorem startHoming_modeView (s : State) (a : Nat) : modeView (startHoming s a) = modeView s := by unfold startHoming; simp
@[simp] theorem freeze_modeView (s : State) (a : Nat) : modeView (freeze s a) = modeView s := by unfold freeze; split <;> simp
@[simp] theorem homingBack_modeView (s : State) (a : Nat) : modeView (homingBack s a) = modeView s := by unfold homingBack; simp
@[simp] theorem homingOnward_modeView (s : State) (a : Nat) : modeView (homingOnward s a) = modeView s := (rfl)
@[simp] theorem restAxis_modeView (s : State) (a : Nat) : modeView (restAxis s a) = modeView s := by unfold restAxis; split <;> simp
@[simp] theorem homingLatched_modeView (s : State) (a : Nat) : modeView (homingLatched s a) = modeView s := by unfold homingLatched; split <;> simp
@[simp] theorem homingFail_modeView (s : State) (a : Nat) : modeView (homingFail s a) = modeView s := by unfold homingFail; simp
@[simp] theorem limitStop_modeView (s : State) (a : Nat) : modeView (limitStop s a) = modeView s := by unfold limitStop; simp
@[simp] theorem limitFault_modeView (s : State) (a : Nat) : modeView (limitFault s a) = modeView s := by unfold limitFault; simp
@[simp] theorem driverFaultRecord_modeView (s : State) (a : Nat) : modeView (driverFaultRecord s a) = modeView s := by
  unfold driverFaultRecord; simp
@[simp] theorem takeStandstill_modeView (s : State) (a : Nat) : modeView (takeStandstill s a) = modeView s := (rfl)
@[simp] theorem enableAxis_modeView (s : State) (a : Nat) : modeView (enableAxis s a) = modeView s := by simp [enableAxis]
@[simp] theorem retain_modeView (s : State) (a : Nat) : modeView (retain s a) = modeView s := by unfold retain; (repeat' split) <;> simp
@[simp] theorem wakeAxis_modeView (s : State) (a : Nat) : modeView (wakeAxis s a) = modeView s := by unfold wakeAxis; simp
@[simp] theorem loopOffNow_modeView (s : State) (n : Nat) : modeView (loopOffNow s n) = modeView s := by unfold loopOffNow; simp
@[simp] theorem loopRunning_modeView (s : State) (n : Nat) : modeView (loopRunning s n) = modeView s := by unfold loopRunning; simp
@[simp] theorem moveSp_modeView (s : State) (n : Nat) : modeView (moveSp s n) = modeView s := by unfold moveSp; simp
@[simp] theorem injectionTick_modeView (s : State) : modeView (injectionTick s) = modeView s := by unfold injectionTick; simp
@[simp] theorem sendOutput_modeView (s : State) (n : Nat) : modeView (sendOutput s n) = modeView s := by
  have key : keyOf 0x1280 (outInst s n + 1) ≠ keyOf 0x2000 5 := by
    have : outInst s n < 256 := Nat.mod_lt _ (by decide)
    unfold keyOf
    omega
  unfold sendOutput
  simp only
  split
  · simp
  · split
    · exact put_modeView_key _ _ key
    · rfl
@[simp] theorem runLaw_modeView (s : State) (n : Nat) (x : Int) : modeView (runLaw s n x).1 = modeView s := (rfl)
@[simp] theorem output_modeView (s : State) (n : Nat) : modeView (output s n) = modeView s := by unfold output; simp
@[simp] theorem saturation_modeView (s : State) (n : Nat) (d : Int) : modeView (saturation s n d).1 = modeView s := (rfl)
@[simp] theorem oscillation_modeView (s : State) (n : Nat) (x : Int) : modeView (oscillation s n x).1 = modeView s := by unfold oscillation; simp
@[simp] theorem loopFault_modeView (s : State) (n code : Nat) : modeView (loopFault s n code) = modeView s := by simp [loopFault]
@[simp] theorem loopSpills_modeView (s : State) (n : Nat) : modeView (loopSpills s n) = modeView s := by unfold loopSpills; simp
@[simp] theorem loopRespond_modeView (s : State) (n code : Nat) : modeView (loopRespond s n code).1 = modeView s := by
  unfold loopRespond; simp only; (repeat' split) <;> simp
@[simp] theorem captureSample_modeView (s : State) (n : Nat) (x y : Int) : modeView (captureSample s n x y) = modeView s := by
  unfold captureSample; simp
@[simp] theorem captureTrigger_modeView (s : State) (n : Nat) : modeView (captureTrigger s n) = modeView s := by unfold captureTrigger; simp
@[simp] theorem loopBroken_modeView (s : State) (n : Nat) : modeView (loopBroken s n) = modeView s := by unfold loopBroken; simp
@[simp] theorem followMotor_modeView (s : State) (n : Nat) : modeView (followMotor s n) = modeView s := by unfold followMotor; simp
@[simp] theorem countEval_modeView (s : State) (n : Nat) : modeView (countEval s n) = modeView s := by simp [countEval]
@[simp] theorem supervise_modeView (s : State) (n : Nat) (x d : Int) : modeView (supervise s n x d).1 = modeView s := by unfold supervise; simp
@[simp] theorem evalRunning_modeView (s : State) (n : Nat) (x : Int) : modeView (evalRunning s n x).1 = modeView s := by unfold evalRunning; simp
@[simp] theorem evalLoop_modeView (s : State) (n : Nat) : modeView (evalLoop s n).1 = modeView s := by unfold evalLoop; simp
@[simp] theorem loopCommandOff_modeView (s : State) (n : Nat) : modeView (loopCommandOff s n) = modeView s := by unfold loopCommandOff; simp
@[simp] theorem loopCommandOn_modeView (s : State) (n : Nat) : modeView (loopCommandOn s n) = modeView s := by unfold loopCommandOn; split <;> simp
@[simp] theorem loopRestartNow_modeView (s : State) (n : Nat) : modeView (loopRestartNow s n) = modeView s := by unfold loopRestartNow; simp
@[simp] theorem selectBank_modeView (s : State) (n b : Nat) : modeView (selectBank s n b) = modeView s := by simp [selectBank]
@[simp] theorem safestopLoop_modeView (s : State) (n : Nat) : modeView (safestopLoop s n) = modeView s := by unfold safestopLoop; simp
@[simp] theorem goodConversion_modeView (s : State) (i v1 : Nat) : modeView (goodConversion s i v1) = modeView s := by unfold goodConversion; simp
@[simp] theorem brokenConversion_modeView (s : State) (i v1 : Nat) : modeView (brokenConversion s i v1) = modeView s := by simp [brokenConversion]
@[simp] theorem restLanes_modeView (s : State) (n : Nat) : modeView (restLanes s n) = modeView s := by simp [restLanes]
@[simp] theorem setLinkState_modeView (s : State) (n v : Nat) : modeView (setLinkState s n v) = modeView s := by unfold setLinkState; simp
@[simp] theorem queueBlocks_modeView (s : State) (n : Nat) (l : List LinkBlock) : modeView (queueBlocks s n l) = modeView s := by
  unfold queueBlocks; simp
@[simp] theorem sendControl_modeView (s : State) (n : Nat) (l : List (List Byte)) : modeView (sendControl s n l) = modeView s := by
  unfold sendControl; simp
@[simp] theorem sendLight_modeView (s : State) (n beam kind t d : Nat) : modeView (sendLight s n beam kind t d) = modeView s := by
  unfold sendLight; simp
@[simp] theorem releaseLights_modeView (s : State) (n : Nat) : modeView (releaseLights s n) = modeView s := by unfold releaseLights; simp
@[simp] theorem sendMultiframe_modeView (s : State) (n : Nat) : modeView (sendMultiframe s n) = modeView s := (rfl)
@[simp] theorem linkTick_modeView (s : State) : modeView (linkTick s) = modeView s := by unfold linkTick; simp
@[simp] theorem sendPixels_modeView (s : State) (n seq : Nat) (words : List Nat) : modeView (sendPixels s n seq words) = modeView s := by
  unfold sendPixels; simp
@[simp] theorem sendLspi_modeView (s : State) (n : Nat) (l : List Nat) : modeView (sendLspi s n l) = modeView s := (rfl)
@[simp] theorem linkBegin_modeView (s : State) (n : Nat) (rep serve : Bool) : modeView (linkBegin s n rep serve) = modeView s := by
  unfold linkBegin; simp
@[simp] theorem linkUp_modeView (s : State) (n : Nat) (serve : Bool) : modeView (linkUp s n serve) = modeView s := by unfold linkUp; simp
@[simp] theorem linkOff_modeView (s : State) (n : Nat) : modeView (linkOff s n) = modeView s := by unfold linkOff; simp
@[simp] theorem linkFail_modeView (s : State) (n : Nat) : modeView (linkFail s n).1 = modeView s := by unfold linkFail; simp
@[simp] theorem linkIsUp_modeView (s : State) (n : Nat) : modeView (linkIsUp s n) = modeView s := by unfold linkIsUp; simp
@[simp] theorem linkStepDone_modeView (s : State) (n : Nat) (regs : List Nat) : modeView (linkStepDone s n regs).1 = modeView s := by
  unfold linkStepDone; split <;> simp
@[simp] theorem linkHardFault_modeView (s : State) (n status : Nat) : modeView (linkHardFault s n status).1 = modeView s := by
  unfold linkHardFault; simp
@[simp] theorem updateFreeboard_modeView (s : State) (n : Nat) : modeView (updateFreeboard s n) = modeView s := by unfold updateFreeboard; simp
@[simp] theorem setDecoder_modeView (s : State) (n v : Nat) : modeView (setDecoder s n v) = modeView s := by simp [setDecoder]
@[simp] theorem refill_modeView (s : State) (n : Nat) : modeView (refill s n) = modeView s := by unfold refill; simp
@[simp] theorem startPlane_modeView (s : State) (n : Nat) (sh : Sheet) : modeView (startPlane s n sh) = modeView s := by simp [startPlane]
@[simp] theorem dropPlane_modeView (s : State) (n state : Nat) : modeView (dropPlane s n state) = modeView s := by simp [dropPlane]
@[simp] theorem planeDone_modeView (s : State) (n uid state : Nat) : modeView (planeDone s n uid state) = modeView s := by unfold planeDone; simp
@[simp] theorem discardData_modeView (s : State) (n uid : Nat) : modeView (discardData s n uid) = modeView s := (rfl)
@[simp] theorem spillNow_modeView (s : State) (n uid : Nat) : modeView (spillNow s n uid) = modeView s := by unfold spillNow; simp
@[simp] theorem spillHere_modeView (s : State) (n uid : Nat) : modeView (spillHere s n uid) = modeView s := by unfold spillHere; simp
@[simp] theorem flagLines_modeView (s : State) (n uid : Nat) : modeView (flagLines s n uid) = modeView s := by simp [flagLines]
@[simp] theorem planeLost_modeView (s : State) (n uid : Nat) : modeView (planeLost s n uid) = modeView s := by unfold planeLost; simp
@[simp] theorem decodeError_modeView (s : State) (n uid code : Nat) : modeView (decodeError s n uid code) = modeView s := by
  unfold decodeError; simp
@[simp] theorem emptyFifo_modeView (s : State) (n : Nat) : modeView (emptyFifo s n) = modeView s := by unfold emptyFifo; simp
@[simp] theorem stopRaster_modeView (s : State) (n : Nat) : modeView (stopRaster s n) = modeView s := by unfold stopRaster; simp
@[simp] theorem forgetAt_modeView (s : State) (uid n : Nat) : modeView (forgetAt s uid n) = modeView s := by unfold forgetAt; simp
@[simp] theorem forgetRaster_modeView (s : State) (uid : Nat) : modeView (forgetRaster s uid) = modeView s := by unfold forgetRaster; simp
@[simp] theorem withdrawOne_modeView (s : State) (uid : Nat) : modeView (withdrawOne s uid) = modeView s := by unfold withdrawOne; simp
@[simp] theorem withdrawForced_modeView (s : State) (uid : Nat) : modeView (withdrawForced s uid) = modeView s := by
  unfold withdrawForced; refine (foldl_modeView _ _ _ fun u x => ?_).trans ?_ <;> (repeat' split) <;> simp
@[simp] theorem withdrawAll_modeView (s : State) : modeView (withdrawAll s) = modeView s := by unfold withdrawAll; simp
@[simp] theorem cancelSheet_modeView (s : State) (sh : Sheet) : modeView (cancelSheet s sh) = modeView s := by unfold cancelSheet; simp
@[simp] theorem phaseLost_modeView (s : State) (k : Nat) : modeView (phaseLost s k) = modeView s := by unfold phaseLost; simp
@[simp] theorem holdOff_modeView (s : State) (k : Nat) : modeView (holdOff s k) = modeView s := by unfold holdOff; simp
@[simp] theorem beginAcquire_modeView (s : State) (k : Nat) : modeView (beginAcquire s k) = modeView s := (rfl)
@[simp] theorem fillPeriods_modeView (s : State) (k c : Nat) (edges : List Nat) : modeView (fillPeriods s k c edges) = modeView s := by
  unfold fillPeriods; simp
@[simp] theorem collectEdge_modeView (s : State) (k t : Nat) (edges : List Nat) : modeView (collectEdge s k t edges) = modeView s := by
  unfold collectEdge; simp
@[simp] theorem trackerCount_modeView (s : State) (k sub : Nat) : modeView (trackerCount s k sub) = modeView s := by simp [trackerCount]
@[simp] theorem windowEdge_modeView (s : State) (k t : Nat) : modeView (windowEdge s k t).1 = modeView s := by unfold windowEdge; split <;> simp
@[simp] theorem fixTooth_modeView (s : State) (k : Nat) : modeView (fixTooth s k) = modeView s := by unfold fixTooth; simp
@[simp] theorem writeTable_modeView (s : State) (k sub : Nat) (l : List Nat) : modeView (writeTable s k sub l) = modeView s := by
  unfold writeTable; simp
@[simp] theorem relabel_modeView (s : State) (k r : Nat) : modeView (relabel s k r) = modeView s := by unfold relabel; simp
@[simp] theorem identify_modeView (s : State) (k : Nat) : modeView (identify s k) = modeView s := by
  unfold identify; simp only; (repeat' split) <;> simp
@[simp] theorem lostSpills_modeView (s : State) (k : Nat) : modeView (lostSpills s k) = modeView s := by unfold lostSpills; simp
@[simp] theorem trackerLost_modeView (s : State) (k : Nat) : modeView (trackerLost s k).1 = modeView s := by unfold trackerLost; simp
@[simp] theorem polygonTracks_modeView (s : State) (m : Nat) : modeView (polygonTracks s m) = modeView s := by unfold polygonTracks; simp
@[simp] theorem phaseLock_modeView (s : State) (m t : Nat) : modeView (phaseLock s m t) = modeView s := by
  unfold phaseLock; (repeat' split) <;> simp
@[simp] theorem polygonTooth_modeView (s : State) (m t per : Nat) (coast : Bool) : modeView (polygonTooth s m t per coast) = modeView s := by
  unfold polygonTooth; simp
@[simp] theorem closeWindow_modeView (s : State) (k : Nat) : modeView (closeWindow s k).1 = modeView s := by
  unfold closeWindow; simp only; (repeat' split) <;> simp
@[simp] theorem bdWindow_modeView (s : State) (n : Nat) : modeView (bdWindow s n) = modeView s := by unfold bdWindow; simp
@[simp] theorem keepLit_modeView (s : State) (n : Nat) : modeView (keepLit s n) = modeView s := by unfold keepLit; simp
@[simp] theorem idleTick_modeView (s : State) : modeView (idleTick s) = modeView s := by unfold idleTick; simp
@[simp] theorem apcWindow_modeView (s : State) (n t : Nat) : modeView (apcWindow s n t) = modeView s := by unfold apcWindow; simp
@[simp] theorem keepScan_modeView (s : State) (n : Nat) (c : Reading) : modeView (keepScan s n c) = modeView s := by unfold keepScan; simp
@[simp] theorem showMeasurement_modeView (s : State) (n : Nat) (l : List Reading) (mean skew : Int) :
  modeView (showMeasurement s n l mean skew) = modeView s := by
  simp [showMeasurement]
@[simp] theorem dropCorrections_modeView (s : State) (n : Nat) : modeView (dropCorrections s n) = modeView s := (rfl)
@[simp] theorem stageRegistration_modeView (s : State) (n : Nat) : modeView (stageRegistration s n) = modeView s := by
  unfold stageRegistration; simp
@[simp] theorem calibrationPattern_modeView (s : State) (n : Nat) : modeView (calibrationPattern s n) = modeView s := (rfl)
@[simp] theorem gapPattern_modeView (s : State) (n at_ : Nat) : modeView (gapPattern s n at_) = modeView s := (rfl)
@[simp] theorem storeSignature_modeView (s : State) (n : Nat) : modeView (storeSignature s n) = modeView s := by unfold storeSignature; simp
@[simp] theorem setExternal_modeView (s : State) (p v : Nat) : modeView (setExternal s p v) = modeView s := by unfold setExternal; split <;> rfl
@[simp] theorem pinsToSleep_modeView (s : State) : modeView (pinsToSleep s) = modeView s := (rfl)
@[simp] theorem newConflict_modeView (s : State) (c : Nat) : modeView (newConflict s c) = modeView s := by unfold newConflict; simp
@[simp] theorem newSuppression_modeView (s : State) (k : Nat) : modeView (newSuppression s k) = modeView s := by unfold newSuppression; simp
@[simp] theorem claimsChanged_modeView (s : State) : modeView (claimsChanged s) = modeView s := by
  have h (u : State) (c k : List Nat) : modeView { u with pins := { u.pins with conflicts := c, suppressed := k } } = modeView u := rfl
  simp [claimsChanged, h]
@[simp] theorem pinSetValue_modeView (s : State) (p v : Nat) : modeView (pinSetValue s p v) = modeView s := by unfold pinSetValue; simp
@[simp] theorem followHeat_modeView (s : State) : modeView (followHeat s) = modeView s := by unfold followHeat; split <;> simp
@[simp] theorem watchBudget_modeView (old s : State) : modeView (watchBudget old s) = modeView s := by unfold watchBudget; simp
@[simp] theorem capacityFrom_modeView (old s : State) : modeView (capacityFrom old s) = modeView s := by unfold capacityFrom; simp
@[simp] theorem brokenInput_modeView (s : State) (i : Nat) : modeView (brokenInput s i) = modeView s := by unfold brokenInput; simp
@[simp] theorem putFrame_modeView (s : State) (p : Nat) (o : Outgoing) : modeView (putFrame s p o) = modeView s := by unfold putFrame; simp
@[simp] theorem sendFrame_modeView (s : State) (p type dst : Nat) (payload : List Byte) : modeView (sendFrame s p type dst payload) = modeView s := by
  unfold sendFrame; simp
@[simp] theorem broadcast_modeView (s : State) (ports : List Nat) (type : Nat) (payload : List Byte) :
  modeView (broadcast s ports type payload) = modeView s := by
  unfold broadcast; simp
@[simp] theorem modeFrames_modeView (s : State) (new old : Mode) (cause : Nat) (awake : List Nat) :
  modeView (modeFrames s new old cause awake) = modeView s := by
  unfold modeFrames; simp
@[simp] theorem setPartner_modeView (s : State) (n v : Nat) : modeView (setPartner s n v) = modeView s := by simp [setPartner]
@[simp] theorem lossResponse_modeView (s : State) (n : Nat) : modeView (lossResponse s n).1 = modeView s := by unfold lossResponse; split <;> simp
@[simp] theorem partnerTo_modeView (s : State) (n v : Nat) : modeView (partnerTo s n v).1 = modeView s := by unfold partnerTo; simp
@[simp] theorem debit_modeView (s : State) (p n ns : Nat) : modeView (debit s p n ns) = modeView s := by unfold debit; simp
@[simp] theorem creditCycle_modeView (s : State) (p : Nat) : modeView (creditCycle s p) = modeView s := (rfl)
@[simp] theorem sendOut_modeView (s : State) (p : Nat) (o : Outgoing) : modeView (sendOut s p o) = modeView s := by unfold sendOut; simp
@[simp] theorem setTx_modeView (s : State) (p : Nat) (l : List Outgoing) : modeView (setTx s p l) = modeView s := by unfold setTx; simp
@[simp] theorem setRx_modeView (s : State) (p : Nat) (l : List (FrameSrc × Pdu)) : modeView (setRx s p l) = modeView s := by unfold setRx; simp
@[simp] theorem queueOut_modeView (s : State) (p : Nat) (o : Outgoing) : modeView (queueOut s p o) = modeView s := by unfold queueOut; simp
@[simp] theorem sendAcyclic_modeView (s : State) (p type dst : Nat) (payload : List Byte) (peer : Option (Nat × Nat)) :
  modeView (sendAcyclic s p type dst payload peer) = modeView s := by
  unfold sendAcyclic; simp
@[simp] theorem drainTx_modeView (s : State) (p : Nat) : modeView (drainTx s p) = modeView s := by unfold drainTx; simp
@[simp] theorem startBlock_modeView (s : State) (p j : Nat) : modeView (startBlock s p j) = modeView s := by
  unfold startBlock; (repeat' split) <;> simp
@[simp] theorem poll_modeView (s : State) (p n : Nat) : modeView (poll s p n) = modeView s := by unfold poll; simp
@[simp] theorem pollIdle_modeView (s : State) (p : Nat) : modeView (pollIdle s p) = modeView s := by unfold pollIdle; (repeat' split) <;> simp
@[simp] theorem nextPoll_modeView (s : State) (p : Nat) : modeView (nextPoll s p) = modeView s := by unfold nextPoll; split <;> simp
@[simp] theorem restartPort_modeView (s : State) (p : Nat) (enable : Bool) : modeView (restartPort s p enable) = modeView s := by
  unfold restartPort; simp
@[simp] theorem pollFirst_modeView (s : State) (n : Nat) : modeView (pollFirst s n) = modeView s := by unfold pollFirst; simp
@[simp] theorem sendNotice_modeView (s : State) (q : Nat × Nat × Nat) : modeView (sendNotice s q) = modeView s := by unfold sendNotice; simp
@[simp] theorem sendNotices_modeView (s : State) : modeView (sendNotices s) = modeView s := by unfold sendNotices; simp
@[simp] theorem authDrop_modeView (s : State) : modeView (authDrop s) = modeView s := by simp [authDrop]
@[simp] theorem dropAcc_modeView (s : State) (a : Accessor) : modeView (dropAcc s a) = modeView s := (rfl)
@[simp] theorem releaseStager_modeView (s : State) (a : Accessor) : modeView (releaseStager s a) = modeView s := by unfold releaseStager; simp
@[simp] theorem endSession_modeView (s : State) (id : Nat) : modeView (endSession s id) = modeView s := by unfold endSession; simp
@[simp] theorem aerError_modeView (s : State) (fn : Nat) (e : IngestError) : modeView (aerError s fn e) = modeView s := by
  unfold aerError; split <;> simp
@[simp] theorem moveBufHead_modeView (s : State) (t : Nat) : modeView (moveBufHead s t) = modeView s := by unfold moveBufHead; simp
@[simp] theorem bellError_modeView (s : State) (t : Nat) : modeView (bellError s t) = modeView s := by unfold bellError; simp
@[simp] theorem tailBell_modeView (s : State) (t i : Nat) : modeView (tailBell s t i) = modeView s := by unfold tailBell; simp
@[simp] theorem headBell_modeView (s : State) (t i : Nat) : modeView (headBell s t i) = modeView s := by unfold headBell; simp
@[simp] theorem cancelBell_modeView (s : State) (t i : Nat) : modeView (cancelBell s t i) = modeView s := by unfold cancelBell; simp
@[simp] theorem ringBell_modeView (s : State) (t kind i : Nat) : modeView (ringBell s t kind i) = modeView s := by unfold ringBell; simp
@[simp] theorem fetchBurst_modeView (s : State) (t : Nat) : modeView (fetchBurst s t) = modeView s := (rfl)
@[simp] theorem takeDescriptor_modeView (s : State) (t : Nat) (d : List Byte) : modeView (takeDescriptor s t d) = modeView s := by
  unfold takeDescriptor; simp
@[simp] theorem startFetch_modeView (s : State) (t : Nat) : modeView (startFetch s t) = modeView s := by unfold startFetch; split <;> simp
@[simp] theorem refreshCandidates_modeView (s : State) : modeView (refreshCandidates s) = modeView s := by unfold refreshCandidates; simp
@[simp] theorem advanceV_modeView (s : State) (t lines : Nat) : modeView (advanceV s t lines) = modeView s := by unfold advanceV; simp
@[simp] theorem clearRings_modeView (s : State) (t : Nat) : modeView (clearRings s t) = modeView s := by unfold clearRings; simp
@[simp] theorem resetComplete_modeView (s : State) (t : Nat) : modeView (resetComplete s t) = modeView s := by unfold resetComplete; simp
@[simp] theorem tenantReset_modeView (s : State) (t cause : Nat) : modeView (tenantReset s t cause) = modeView s := by unfold tenantReset; simp
@[simp] theorem resetAllTenants_modeView (s : State) : modeView (resetAllTenants s) = modeView s := by unfold resetAllTenants; simp
@[simp] theorem functionEnds_modeView (s : State) (fn : Nat) : modeView (functionEnds s fn) = modeView s := by unfold functionEnds; split <;> simp
@[simp] theorem enableTenant_modeView (s : State) (t : Nat) : modeView (enableTenant s t) = modeView s := (rfl)
@[simp] theorem scrubDone_modeView (s : State) (t : Nat) : modeView (scrubDone s t) = modeView s := by unfold scrubDone; simp
@[simp] theorem fenceViolation_modeView (s : State) (t : Nat) : modeView (fenceViolation s t) = modeView s := by unfold fenceViolation; simp
/-- The groups other than the one whose range holds the mode block. -/
@[simp] theorem merged_modeView (s : State) (g : Nat) (h : g ≠ 14) : modeView (merged s g) = modeView s := by
  have hkeys : ∀ (l : Tab Nat) (d : Tab Nat), (∀ p ∈ l, inGroup g p.1 = true) →
      tabFind (l.foldl (fun t p => tabSet t p.1 p.2) d) (keyOf 0x2000 5) = tabFind d (keyOf 0x2000 5) := by
    intro l
    induction l with
    | nil => intros; rfl
    | cons p r ih =>
      intro d hl
      have hp : keyOf 0x2000 5 ≠ p.1 := by
        intro hk
        have hin := hl p (by simp)
        rw [← hk, inGroup, show groupOf (keyOf 0x2000 5 / 256) = 14 from rfl] at hin
        exact h (beq_iff_eq.1 hin).symm
      rw [List.foldl_cons, ih _ fun q hq => hl q (by simp [hq]), tabFind_tabSet_other _ _ hp]
  have hdict : tabFind (merged s g).dict (keyOf 0x2000 5) = tabFind s.dict (keyOf 0x2000 5) :=
    hkeys _ _ fun p hp => (List.mem_filter.1 hp).2
  simp [modeView, get_dict _ _ (show isLogIdx 0x2000 = false from rfl), hdict]
  exact ⟨rfl, rfl⟩
@[simp] theorem dropStaged_modeView (s : State) (g : Nat) : modeView (dropStaged s g) = modeView s := (rfl)
@[simp] theorem copyGroup_modeView (s : State) (g : Nat) (h : g ≠ 14) : modeView (copyGroup s g) = modeView s := by
  simp [copyGroup, dropStaged, h]
@[simp] theorem rejectGroup_modeView (s : State) (g : Nat) : modeView (rejectGroup s g) = modeView s := by unfold rejectGroup; simp
@[simp] theorem setDlls_modeView (s : State) (v : Nat) : modeView (setDlls s v) = modeView s := by unfold setDlls; simp
@[simp] theorem closeGate_modeView (s : State) : modeView (closeGate s) = modeView s := by unfold closeGate; simp
@[simp] theorem relockAttempt_modeView (s : State) : modeView (relockAttempt s) = modeView s := by simp [relockAttempt]
@[simp] theorem startRelock_modeView (s : State) (occ : Occasion) : modeView (startRelock s occ) = modeView s := by unfold startRelock; simp
@[simp] theorem stopTimebase_modeView (s : State) : modeView (stopTimebase s) = modeView s := by unfold stopTimebase; simp
@[simp] theorem dozeRailsOn_modeView (s : State) : modeView (dozeRailsOn s) = modeView s := (rfl)
@[simp] theorem leaveDoze_modeView (s : State) : modeView (leaveDoze s) = modeView s := by unfold leaveDoze; simp
@[simp] theorem intoWarmup_modeView (s : State) : modeView (intoWarmup s) = modeView s := by unfold intoWarmup; simp
@[simp] theorem intoDoze_modeView (s : State) : modeView (intoDoze s) = modeView s := by unfold intoDoze; simp
@[simp] theorem recordCause_modeView (s : State) (cause : Nat) : modeView (recordCause s cause) = modeView s := (rfl)
@[simp] theorem safestopMotor_modeView (s : State) (m : Nat) : modeView (safestopMotor s m) = modeView s := by unfold safestopMotor; simp
@[simp] theorem safestopAxisAll_modeView (s : State) (a : Nat) : modeView (safestopAxisAll s a) = modeView s := by unfold safestopAxisAll; simp
@[simp] theorem withdrawEvery_modeView (s : State) : modeView (withdrawEvery s) = modeView s := by unfold withdrawEvery; simp
@[simp] theorem programRecord_modeView (s : State) (k : Nat) (l : List (List Byte)) (r : JRecord) :
  modeView (programRecord s k l r) = modeView s := (rfl)
@[simp] theorem writeJournal_modeView (s : State) (r : JRecord) : modeView (writeJournal s r) = modeView s := by unfold writeJournal; simp
@[simp] theorem putReasons_modeView (s : State) (l : List Nat) : modeView (putReasons s l) = modeView s := by unfold putReasons; simp
@[simp] theorem clearFailures_modeView (s : State) : modeView (clearFailures s) = modeView s := by unfold clearFailures; simp
@[simp] theorem railOff_modeView (s : State) (r st : Nat) : modeView (railOff s r st) = modeView s := (rfl)
@[simp] theorem allRailsOff_modeView (s : State) : modeView (allRailsOff s) = modeView s := by unfold allRailsOff; simp
@[simp] theorem beginOff_modeView (s : State) (why : OffReason) : modeView (beginOff s why) = modeView s := (rfl)
@[simp] theorem discardAllStaged_modeView (s : State) : modeView (discardAllStaged s) = modeView s := by unfold discardAllStaged; simp
@[simp] theorem logStart_modeView (s : State) : modeView (logStart s) = modeView s := by unfold logStart; simp
@[simp] theorem keepIlock_modeView (s : State) : modeView (keepIlock s) = modeView s := by unfold keepIlock; simp
@[simp] theorem ringStart_modeView (s : State) : modeView (ringStart s) = modeView s := by unfold ringStart; simp only; (repeat' split) <;> simp
@[simp] theorem startOn_modeView (s : State) (terp : Bool) : modeView (startOn s terp) = modeView s := by unfold startOn; simp
@[simp] theorem strapDefaults_modeView (s : State) : modeView (strapDefaults s) = modeView s := by unfold strapDefaults; simp
@[simp] theorem debugStart_modeView (s : State) : modeView (debugStart s) = modeView s := by unfold debugStart; simp
@[simp] theorem failKickoff_modeView (s : State) (reason detail : Nat) : modeView (failKickoff s reason detail) = modeView s := by
  unfold failKickoff; simp
@[simp] theorem resumeMirror_modeView (s : State) : modeView (resumeMirror s) = modeView s := by unfold resumeMirror; simp
@[simp] theorem lateEntries_modeView (s : State) : modeView (lateEntries s) = modeView s := by unfold lateEntries; split <;> simp
@[simp] theorem passResets_modeView (s : State) : modeView (passResets s) = modeView s := by unfold passResets; simp
@[simp] theorem speedNow_modeView (s : State) (m k : Nat) (own : Bool) : modeView (speedNow s m k own) = modeView s := by unfold speedNow; simp
@[simp] theorem hallSpeed_modeView (s : State) (m : Nat) (back : Bool) (p : Nat) : modeView (hallSpeed s m back p) = modeView s := by
  unfold hallSpeed; simp
@[simp] theorem countTurn_modeView (s : State) (m : Nat) : modeView (countTurn s m) = modeView s := by unfold countTurn; simp
@[simp] theorem enterSector_modeView (s : State) (m code k t : Nat) (back : Bool) : modeView (enterSector s m code k t back) = modeView s := by
  unfold enterSector; simp
@[simp] theorem deferAxis_modeView (s : State) (a : Nat) (c : AxisDeferred) : modeView (deferAxis s a c) = modeView s := by
  unfold deferAxis; split <;> simp
@[simp] theorem moveNow_modeView (s : State) (a v : Nat) : modeView (moveNow s a v).1 = modeView s := by unfold moveNow; (repeat' split) <;> simp
@[simp] theorem moveCommand_modeView (s : State) (a v : Nat) : modeView (moveCommand s a v) = modeView s := by unfold moveCommand; split <;> simp
@[simp] theorem stopCommand_modeView (s : State) (a : Nat) (hard : Bool) : modeView (stopCommand s a hard) = modeView s := by
  unfold stopCommand; split <;> simp
@[simp] theorem resumeCommand_modeView (s : State) (a : Nat) : modeView (resumeCommand s a) = modeView s := by unfold resumeCommand; split <;> simp
@[simp] theorem homeCommand_modeView (s : State) (a : Nat) : modeView (homeCommand s a) = modeView s := by unfold homeCommand; simp
@[simp] theorem fltInactive_modeView (s : State) (a : Nat) : modeView (fltInactive s a) = modeView s := by unfold fltInactive; simp
@[simp] theorem homingLimit_modeView (s : State) (a : Nat) (positive : Bool) : modeView (homingLimit s a positive) = modeView s := by
  unfold homingLimit; simp
@[simp] theorem limitActive_modeView (s : State) (a : Nat) (positive : Bool) : modeView (limitActive s a positive) = modeView s := by
  unfold limitActive; (repeat' split) <;> simp
@[simp] theorem conflictEnds_modeView (s : State) (c : Nat) : modeView (conflictEnds s c) = modeView s := by
  unfold conflictEnds; (repeat' split) <;> simp
@[simp] theorem injectionStart_modeView (s : State) : modeView (injectionStart s) = modeView s := (rfl)
@[simp] theorem injectionStop_modeView (s : State) : modeView (injectionStop s) = modeView s := (rfl)
@[simp] theorem captureArm_modeView (s : State) : modeView (captureArm s) = modeView s := (rfl)
@[simp] theorem flagEvent_modeView (s : State) (e : Event) : modeView (flagEvent s e) = modeView s := by unfold flagEvent; simp
@[simp] theorem markFired_modeView (s : State) (k : Nat) (e : Event) (late : Bool) : modeView (markFired s k e late) = modeView s := by
  unfold markFired; split <;> simp
@[simp] theorem mistime_modeView (s : State) (k old new : Nat) : modeView (mistime s k old new) = modeView s := by
  unfold mistime; refine (foldl_modeView _ _ _ fun u x => ?_).trans ?_ <;> (repeat' split) <;> simp
@[simp] theorem freeFired_modeView (s : State) : modeView (freeFired s) = modeView s := by unfold freeFired; simp
@[simp] theorem decideRoute_modeView (s : State) (uid : Nat) : modeView (decideRoute s uid) = modeView s := (rfl)
@[simp] theorem dropEvent_modeView (s : State) (k : Nat) : modeView (dropEvent s k) = modeView s := by unfold dropEvent; simp
@[simp] theorem missMedium_modeView (s : State) (uid : Nat) (allHv : Bool) : modeView (missMedium s uid allHv) = modeView s := by
  unfold missMedium; simp
@[simp] theorem dropped_modeView (e : Event) (r : State × Bool) : modeView (dropped e r) = modeView r.1 := by unfold dropped; split <;> simp
@[simp] theorem actMove_modeView (s : State) (e : Event) : modeView (actMove s e) = modeView s := by unfold actMove; simp
@[simp] theorem actStop_modeView (s : State) (e : Event) : modeView (actStop s e) = modeView s := by unfold actStop; simp
@[simp] theorem actSpeed_modeView (s : State) (e : Event) : modeView (actSpeed s e) = modeView s := by unfold actSpeed; simp
@[simp] theorem actPin_modeView (s : State) (e : Event) : modeView (actPin s e) = modeView s := by unfold actPin; simp
@[simp] theorem actArrival_modeView (s : State) (e : Event) (seen : Bool) : modeView (actArrival s e seen) = modeView s := by
  unfold actArrival; split <;> simp
@[simp] theorem actBank_modeView (s : State) (e : Event) : modeView (actBank s e) = modeView s := by unfold actBank; simp
@[simp] theorem actLoopOn_modeView (s : State) (e : Event) : modeView (actLoopOn s e) = modeView s := by unfold actLoopOn; simp
@[simp] theorem actLoopOff_modeView (s : State) (e : Event) : modeView (actLoopOff s e) = modeView s := by unfold actLoopOff; simp
@[simp] theorem actExit_modeView (s : State) (e : Event) : modeView (actExit s e) = modeView s := by unfold actExit; (repeat' split) <;> simp
@[simp] theorem actMark_modeView (s : State) (e : Event) : modeView (actMark s e) = modeView s := by unfold actMark; simp
@[simp] theorem actCapture_modeView (s : State) (e : Event) : modeView (actCapture s e) = modeView s := by unfold actCapture; simp
@[simp] theorem act_modeView (s : State) (e : Event) (seen : Bool) : modeView (act s e seen) = modeView s := by unfold act; split <;> simp
@[simp] theorem fire_modeView (s : State) (k : Nat) (e : Event) (late seen : Bool) : modeView (fire s k e late seen) = modeView s := by
  unfold fire; (repeat' split) <;> simp
@[simp] theorem fireSlot_modeView (s : State) (k code : Nat) (seen : Bool) : modeView (fireSlot s k code seen) = modeView s := by
  unfold fireSlot; split <;> simp
@[simp] theorem enterEvent_modeView (s : State) (k : Nat) (e : Event) : modeView (enterEvent s k e) = modeView s := by
  unfold enterEvent; simp only; (repeat' split) <;> simp
@[simp] theorem resolveEvents_modeView (s : State) (uid : Nat) : modeView (resolveEvents s uid) = modeView s := by unfold resolveEvents; simp
@[simp] theorem geometryTaken_modeView (old s : State) (n : Nat) : modeView (geometryTaken old s n) = modeView s := by unfold geometryTaken; simp
@[simp] theorem loopTaken_modeView (old s : State) (n : Nat) : modeView (loopTaken old s n) = modeView s := by unfold loopTaken; simp
@[simp] theorem armGroup_modeView (s : State) (g : Nat) : modeView (armGroup s g) = modeView s := (rfl)
@[simp] theorem refuseGroup_modeView (s : State) (g : Nat) : modeView (refuseGroup s g) = modeView s := by simp [refuseGroup]
@[simp] theorem discard_modeView (s : State) (acc : Accessor) (g : Nat) : modeView (discard s acc g) = modeView s := by unfold discard; simp
@[simp] theorem stageBy_modeView (s : State) (acc : Accessor) (g : Nat) : modeView (stageBy s acc g) = modeView s := by unfold stageBy; simp
@[simp] theorem stageNum_modeView (s : State) (acc : Accessor) (idx sub v : Nat) : modeView (stageNum s acc idx sub v) = modeView s := by
  unfold stageNum; simp
@[simp] theorem stageBlob_modeView (s : State) (acc : Accessor) (idx sub : Nat) (l : List Byte) :
  modeView (stageBlob s acc idx sub l) = modeView s := by
  unfold stageBlob; simp
@[simp] theorem lockWrite_modeView (s : State) (acc : Accessor) (p v : Nat) : modeView (lockWrite s acc p v) = modeView s := by
  unfold lockWrite; simp only; (repeat' split) <;> rfl
@[simp] theorem breakLock_modeView (s : State) (acc : Accessor) (i j : Nat) : modeView (breakLock s acc i j) = modeView s := by
  unfold breakLock; split <;> rfl
@[simp] theorem partnerHoldEnds_modeView (s : State) (n : Nat) : modeView (partnerHoldEnds s n) = modeView s := by
  unfold partnerHoldEnds; split <;> simp
@[simp] theorem endSlotSessions_modeView (s : State) (slot : Nat) : modeView (endSlotSessions s slot) = modeView s := by
  unfold endSlotSessions; simp
@[simp] theorem serviceLight_modeView (s : State) (n v : Nat) : modeView (serviceLight s n v) = modeView s := by unfold serviceLight; simp
@[simp] theorem takeHeldLight_modeView (s : State) (n : Nat) : modeView (takeHeldLight s n) = modeView s := by unfold takeHeldLight; simp
@[simp] theorem postEvent_modeView (s : State) (d : List Byte) : modeView (postEvent s d) = modeView s := by unfold postEvent; split <;> simp
@[simp] theorem cancelTag_modeView (s : State) (tag : Nat) : modeView (cancelTag s tag) = modeView s := by unfold cancelTag; simp
@[simp] theorem authGate_modeView (s : State) (x : FrameSrc) (u : Pdu) : modeView (authGate s x u).1 = modeView s := by
  unfold authGate; (repeat' split) <;> simp
@[simp] theorem expireSession_modeView (s : State) (x : FrameSrc) : modeView (expireSession s x) = modeView s := by
  unfold expireSession; split <;> simp
@[simp] theorem sendSigned_modeView (s : State) (x : FrameSrc) (y : Session) (type : Nat) (payload : List Byte) :
  modeView (sendSigned s x y type payload) = modeView s := by
  unfold sendSigned; simp
@[simp] theorem sendTo_modeView (s : State) (x : FrameSrc) (type : Nat) (payload : List Byte) : modeView (sendTo s x type payload) = modeView s := by
  unfold sendTo; (repeat' split) <;> simp
@[simp] theorem rollcallState_modeView (s : State) : modeView (rollcallState s) = modeView s := by unfold rollcallState; simp
@[simp] theorem afterBlock_modeView (s : State) (p : Nat) : modeView (afterBlock s p) = modeView s := by unfold afterBlock; simp
@[simp] theorem startRollcall_modeView (s : State) : modeView (startRollcall s) = modeView s := by unfold startRollcall; simp
@[simp] theorem dropTransfer_modeView (s : State) (x : FrameSrc) (tid : Nat) (own : Bool) : modeView (dropTransfer s x tid own) = modeView s := (rfl)
@[simp] theorem keepTransfer_modeView (s : State) (f : Transfer) : modeView (keepTransfer s f) = modeView s := (rfl)
@[simp] theorem sendSegment_modeView (s : State) (f : Transfer) (k : Nat) : modeView (sendSegment s f k) = modeView s := by unfold sendSegment; simp
@[simp] theorem sendBlock_modeView (s : State) (f : Transfer) (k : Nat) : modeView (sendBlock s f k) = modeView s := by unfold sendBlock; simp
@[simp] theorem answer_modeView (s : State) (x : FrameSrc) (tid : Nat) (req : Pdu) (type : Nat) (payload : List Byte) :
  modeView (answer s x tid req type payload) = modeView s := by
  unfold answer; simp
@[simp] theorem countServed_modeView (s : State) (a : Accessor) : modeView (countServed s a) = modeView s := by unfold countServed; split <;> simp
@[simp] theorem serveWriteSeg_modeView (s : State) (x : FrameSrc) (tid idx sub total : Nat) (req : Pdu) :
  modeView (serveWriteSeg s x tid idx sub total req) = modeView s := by
  unfold serveWriteSeg; simp
@[simp] theorem finishTaking.serveDropOwn_modeView (t : State) (f : Transfer) : modeView (finishTaking.serveDropOwn t f) = modeView t := by
  unfold finishTaking.serveDropOwn; simp
@[simp] theorem lateAnswer_modeView (s : State) (x : FrameSrc) : modeView (lateAnswer s x) = modeView s := by simp [lateAnswer]
@[simp] theorem serveAck_modeView (s : State) (x : FrameSrc) (tid seq : Nat) : modeView (serveAck s x tid seq) = modeView s := by
  unfold serveAck; split <;> simp
@[simp] theorem serveAbort_modeView (s : State) (x : FrameSrc) (tid : Nat) : modeView (serveAbort s x tid) = modeView s := (rfl)
@[simp] theorem serveReadResponse_modeView (s : State) (x : FrameSrc) (tid status : Nat) (d : List Byte) :
  modeView (serveReadResponse s x tid status d) = modeView s := by
  unfold serveReadResponse; split <;> simp
@[simp] theorem serveWriteResponse_modeView (s : State) (x : FrameSrc) (tid status : Nat) :
  modeView (serveWriteResponse s x tid status) = modeView s := by
  unfold serveWriteResponse; split <;> simp
@[simp] theorem rememberAnswer_modeView (s : State) (p n : Nat) : modeView (rememberAnswer s p n) = modeView s := by unfold rememberAnswer; simp
@[simp] theorem pollOver_modeView (s : State) (p : Nat) : modeView (pollOver s p) = modeView s := by unfold pollOver; simp
@[simp] theorem serveClose_modeView (s : State) (x : FrameSrc) : modeView (serveClose s x) = modeView s := by unfold serveClose; split <;> simp
@[simp] theorem serveHello_modeView (s : State) (x : FrameSrc) (slot : Nat) (nonce : List Byte) :
  modeView (serveHello s x slot nonce) = modeView s := by
  unfold serveHello; split <;> simp
@[simp] theorem heard_modeView (s : State) (x : FrameSrc) (answer : Bool) : modeView (heard s x answer) = modeView s := by unfold heard; simp
@[simp] theorem debitReceived_modeView (s : State) (x : FrameSrc) (u : Pdu) : modeView (debitReceived s x u) = modeView s := by
  unfold debitReceived; simp
@[simp] theorem acknowledgeCan_modeView (s : State) (p : Nat) : modeView (acknowledgeCan s p) = modeView s := by unfold acknowledgeCan; simp
@[simp] theorem discardFrame_modeView (s : State) (p : Nat) : modeView (discardFrame s p) = modeView s := by unfold discardFrame; simp
@[simp] theorem commitSheet_modeView (s : State) (uid : Nat) : modeView (commitSheet s uid) = modeView s := by unfold commitSheet; split <;> simp
@[simp] theorem beginImage_modeView (s : State) (st uid tooth : Nat) : modeView (beginImage s st uid tooth) = modeView s := (rfl)
@[simp] theorem fireImage_modeView (s : State) (k : Nat) (e : Event) (uid : Nat) (d : Due) : modeView (fireImage s k e uid d) = modeView s := by
  unfold fireImage; simp only; (repeat' split) <;> simp
@[simp] theorem lateImage_modeView (s : State) (k : Nat) (e : Event) (sh : Sheet) : modeView (lateImage s k e sh) = modeView s := by
  unfold lateImage; simp
@[simp] theorem takeEdge_modeView (s : State) (k t : Nat) : modeView (takeEdge s k t) = modeView s := by unfold takeEdge; split <;> simp
@[simp] theorem releaseHold_modeView (s : State) : modeView (releaseHold s) = modeView s := by unfold releaseHold; simp
@[simp] theorem afterBdWindow_modeView (s : State) (n : Nat) : modeView (afterBdWindow s n) = modeView s := by unfold afterBdWindow; simp
@[simp] theorem beatCorrected_modeView (s : State) (r : DramReader) (addr : Nat) : modeView (beatCorrected s r addr) = modeView s := by
  unfold beatCorrected; split <;> simp
@[simp] theorem beatUsed_modeView (s : State) (r : DramReader) (addr : Nat) (e : Ecc) : modeView (beatUsed s r addr e) = modeView s := by
  unfold beatUsed; simp
@[simp] theorem inputWord_modeView (s : State) (st : Fin 6) (w : InputWord) : modeView (inputWord s st w).1 = modeView s := by
  unfold inputWord; split <;> simp
@[simp] theorem inputWords_modeView (st : Fin 6) (a : List InputWord) (a1 : State) : modeView (inputWords st a a1).1 = modeView a1 := by
  fun_induction inputWords st a a1 <;> simp +zetaDelta [*]
@[simp] theorem fifoWord_modeView (s : State) (n : Nat) (w : FifoWord) : modeView (fifoWord s n w).1 = modeView s := by
  unfold fifoWord; split <;> simp
@[simp] theorem readWords_modeView (n : Nat) (a : List FifoWord) (a1 : State) : modeView (readWords n a a1).1 = modeView a1 := by
  fun_induction readWords n a a1 <;> simp +zetaDelta [*]
@[simp] theorem bandLinesIn_modeView (s : State) (n uid : Nat) (b : Band) : modeView (bandLinesIn s n uid b) = modeView s := by simp [bandLinesIn]
@[simp] theorem decodeNext_modeView (s : State) (n : Nat) (sh : Sheet) : modeView (decodeNext s n sh) = modeView s := by unfold decodeNext; simp
@[simp] theorem pointerFault_modeView (s : State) (n : Nat) : modeView (pointerFault s n) = modeView s := by
  unfold pointerFault; simp only; (repeat' split) <;> simp
@[simp] theorem beginScan_modeView (s : State) (n uid : Nat) (g : ScanForm) : modeView (beginScan s n uid g) = modeView s := by
  unfold beginScan; simp
@[simp] theorem startScan_modeView (s : State) (n : Nat) (sh : Sheet) (d held : Nat) (words : List FifoWord) :
  modeView (startScan s n sh d held words) = modeView s := by
  unfold startScan; simp
@[simp] theorem atScanBoundary_modeView (s : State) (n uid : Nat) : modeView (atScanBoundary s n uid) = modeView s := by
  unfold atScanBoundary; split <;> simp
@[simp] theorem sendScan_modeView (s : State) (n : Nat) (c : Scan) : modeView (sendScan s n c) = modeView s := by unfold sendScan; simp
@[simp] theorem endAlign_modeView (s : State) (a : Nat) : modeView (endAlign s a) = modeView s := by unfold endAlign; simp
@[simp] theorem wakeAxes_modeView (s : State) (index : Nat) : modeView (wakeAxes s index) = modeView s := by unfold wakeAxes; simp
@[simp] theorem admissionFail_modeView (s : State) (reason : Nat) : modeView (admissionFail s reason) = modeView s := by simp [admissionFail]
@[simp] theorem gapPatch_modeView (s : State) (a : Sheet) : modeView (gapPatch s a) = modeView s := by unfold gapPatch; split <;> simp
@[simp] theorem admitSheet_modeView (s : State) (sh : Sheet) (p : Plan) : modeView (admitSheet s sh p) = modeView s := by unfold admitSheet; simp
@[simp] theorem admissionTest_modeView (s : State) (sh : Sheet) : modeView (admissionTest s sh) = modeView s := by unfold admissionTest; simp
@[simp] theorem relockLink_modeView (s : State) (n : Nat) : modeView (relockLink s n) = modeView s := by unfold relockLink; split <;> simp
@[simp] theorem endRelock_modeView (s : State) : modeView (endRelock s) = modeView s := by unfold endRelock; split <;> simp
@[simp] theorem relockDone_modeView (s : State) : modeView (relockDone s) = modeView s := by unfold relockDone; simp
@[simp] theorem relockKickoff_modeView (s : State) : modeView (relockKickoff s) = modeView s := by unfold relockKickoff; simp
@[simp] theorem relockAgain_modeView (s : State) (r : Relock) (n : Nat) : modeView (relockAgain s r n) = modeView s := by simp [relockAgain]
@[simp] theorem openGate_modeView (s : State) : modeView (openGate s) = modeView s := by unfold openGate; simp
@[simp] theorem softFlags_modeView (s : State) (n : Nat) : modeView (softFlags s n) = modeView s := by unfold softFlags; (repeat' split) <;> simp
@[simp] theorem safetyEvent_modeView (s : State) (kind : Nat) : modeView (safetyEvent s kind) = modeView s := by unfold safetyEvent; simp
@[simp] theorem superviseServe_modeView (s : State) (kind : Nat) : modeView (superviseServe s kind) = modeView s := (rfl)
@[simp] theorem sensorCheck_modeView (l : List Int) (s : State) (k : Nat) : modeView (sensorCheck l s k) = modeView s := by unfold sensorCheck; simp
@[simp] theorem countHeat_modeView (s : State) : modeView (countHeat s) = modeView s := by simp [countHeat]
@[simp] theorem storeTj_modeView (s : State) (l : List Int) (v : Int) : modeView (storeTj s l v) = modeView s := by unfold storeTj; simp
@[simp] theorem slowAdmission_modeView (s : State) (v : Int) : modeView (slowAdmission s v) = modeView s := (rfl)
@[simp] theorem repeatFrame_modeView (s : State) (f : Transfer) : modeView (repeatFrame s f) = modeView s := by unfold repeatFrame; simp
@[simp] theorem sendSync_modeView (s : State) (p : Nat) : modeView (sendSync s p) = modeView s := by unfold sendSync; simp
@[simp] theorem sendMap_modeView (s : State) (m : Nat) : modeView (sendMap s m) = modeView s := by unfold sendMap; simp
@[simp] theorem cyclicPhase_modeView (s : State) : modeView (cyclicPhase s) = modeView s := by unfold cyclicPhase; simp
@[simp] theorem pollAbsent_modeView (s : State) (p : Nat) : modeView (pollAbsent s p) = modeView s := by unfold pollAbsent; (repeat' split) <;> simp
@[simp] theorem endOn_modeView (s : State) (passed : Bool) : modeView (endOn s passed) = modeView s := by unfold endOn; simp
@[simp] theorem putReading_modeView (s : State) (r v : Nat) : modeView (putReading s r v) = modeView s := by unfold putReading; simp
@[simp] theorem recordFault_modeView (s : State) (r kind : Nat) : modeView (recordFault s r kind) = modeView s := by unfold recordFault; simp
@[simp] theorem logFault_modeView (s : State) (r : Nat) : modeView (logFault s r) = modeView s := by unfold logFault; simp
@[simp] theorem breakOff_modeView (s : State) : modeView (breakOff s) = modeView s := by unfold breakOff; simp
@[simp] theorem sequenceFault_modeView (s : State) (r : Nat) : modeView (sequenceFault s r) = modeView s := by
  unfold sequenceFault; (repeat' split) <;> simp
@[simp] theorem stepStraps_modeView (s : State) (v1 v2 : List (Option Nat)) (testEn : Bool) : modeView (stepStraps s v1 v2 testEn) = modeView s := by
  unfold stepStraps; simp
@[simp] theorem restoreJournal_modeView (s : State) : modeView (restoreJournal s) = modeView s := by unfold restoreJournal; split <;> simp
@[simp] theorem stepReference_modeView (s : State) (ok : Bool) : modeView (stepReference s ok) = modeView s := by unfold stepReference; simp
@[simp] theorem stepCore_modeView (s : State) (tj : Int) : modeView (stepCore s tj) = modeView s := by unfold stepCore; simp
@[simp] theorem stepDram_modeView (s : State) (first second : Bool) : modeView (stepDram s first second) = modeView s := by unfold stepDram; simp
@[simp] theorem mailboxStart_modeView (s : State) (fn : Fin 65) (op idx sub len addr : Nat) :
  modeView (mailboxStart s fn op idx sub len addr) = modeView s := (rfl)
@[simp] theorem mailboxEnd_modeView (s : State) (fn : Fin 65) (code : Nat) : modeView (mailboxEnd s fn code) = modeView s := by
  unfold mailboxEnd; simp
@[simp] theorem mailboxBusy_modeView (s : State) (fn : Fin 65) : modeView (mailboxBusy s fn) = modeView s := by unfold mailboxBusy; simp
@[simp] theorem mailboxDeliver_modeView (s : State) (fn : Fin 65) (addr : Nat) (d : List Byte) :
  modeView (mailboxDeliver s fn addr d) = modeView s := by
  unfold mailboxDeliver; simp
@[simp] theorem configRequest_modeView (s : State) (fn : Nat) : modeView (configRequest s fn) = modeView s := by unfold configRequest; simp
@[simp] theorem resetPf0_modeView (s : State) : modeView (resetPf0 s) = modeView s := by unfold resetPf0; simp
@[simp] theorem encoderMeasured_modeView (s : State) (m : Nat) : modeView (encoderMeasured s m) = modeView s := by unfold encoderMeasured; simp
@[simp] theorem placeSamples_modeView (s : State) (m : Nat) : modeView (placeSamples s m) = modeView s := by unfold placeSamples; simp
@[simp] theorem takeCurrents_modeView (s : State) (m : Nat) (s1 s2 : Int) : modeView (takeCurrents s m s1 s2) = modeView s := by
  unfold takeCurrents; simp
@[simp] theorem controlPeriod_modeView (s : State) (m : Nat) (s1 s2 : Int) : modeView (controlPeriod s m s1 s2) = modeView s := by
  unfold controlPeriod; simp
@[simp] theorem speedProgress_modeView (s : State) (m : Nat) : modeView (speedProgress s m) = modeView s := by
  unfold speedProgress; simp only; (repeat' split) <;> simp
@[simp] theorem startGates_modeView (s : State) (m : Nat) : modeView (startGates s m) = modeView s := by unfold startGates; simp
@[simp] theorem commutate_modeView (s : State) (m t : Nat) : modeView (commutate s m t) = modeView s := by unfold commutate; simp
@[simp] theorem leavePath_modeView (s : State) (b : Nat) : modeView (leavePath s b) = modeView s := (rfl)
@[simp] theorem releaseAxis_modeView (s : State) (a : Nat) : modeView (releaseAxis s a) = modeView s := by unfold releaseAxis; split <;> simp
@[simp] theorem releaseMotor_modeView (s : State) (m : Nat) : modeView (releaseMotor s m) = modeView s := by unfold releaseMotor; split <;> simp
@[simp] theorem hardStopFound_modeView (s : State) (a : Nat) : modeView (hardStopFound s a) = modeView s := by unfold hardStopFound; split <;> simp
@[simp] theorem tripEnds_modeView (s : State) (n : Nat) : modeView (tripEnds s n) = modeView s := by unfold tripEnds; simp
@[simp] theorem fuserBroken_modeView (s : State) (i : Nat) : modeView (fuserBroken s i) = modeView s := by unfold fuserBroken; simp
@[simp] theorem takeGood_modeView (s : State) (i v1 : Nat) : modeView (takeGood s i v1) = modeView s := by unfold takeGood; simp
@[simp] theorem zonePulse_modeView (s : State) (z : Nat) : modeView (zonePulse s z) = modeView s := by unfold zonePulse; simp
@[simp] theorem edgesBack_modeView (s : State) : modeView (edgesBack s) = modeView s := by
  have h (u : State) (b : Bool) : modeView { u with pins := { u.pins with zcLost := b } } = modeView u := rfl
  unfold edgesBack; split <;> simp [h]

end Sys2Proof.Machine

/-! # The rows of the modes (R41 to R46) -/

namespace Sys2Proof.Machine

theorem idleTick_md (s : State) : (idleTick s).md = s.md := md_of_modeView (idleTick_modeView s)

/-- Settles O6: every command ends settled, and a tick of press time touches neither modes nor sheets. -/
theorem modesFollowSheets : Obligations.ModesFollowSheets := by
  unfold Obligations.ModesFollowSheets
  intro s t hs h
  rcases step_eq h with rfl | ⟨u, rfl⟩
  · rw [Settled, sheetRow_congr (idleTick_md s) (idleTick_sheets s), hs]
  · exact settled_settle u

/-! ## A frame that waits in the receive queue -/

theorem settle_mode_of_other {s : State} (hready : s.md.mode ≠ .ready) (hrally : s.md.mode ≠ .rally) (hrunout : s.md.mode ≠ .runout) :
    (settle s).md.mode = s.md.mode := by
  have row : sheetRow (enterWaiting s) = none := sheetRow_other (by simpa) (by simpa) (by simpa)
  rw [settle_of_none row, enterWaiting_mode]

/-- The line manager of a node on ETH. -/
def lineManager : FrameSrc := { port := 6, src := 0, ip := 77, udpPort := 88, classical := false, auth := none }

/-- A node-only block in STANDBY in whose receive queue of ETH a request of WARMUP waits. -/
def warmupQueued : State :=
  { powered := true, md := { mode := .standby }, kick := { straps := [0, 0, 0, 3, 0, 0, 0, 0, 0, 0, 1, 0] },
    net := { ports := [(6, { rx := [(lineManager, .writeExp 1 0x2000 2 [3])] })] } }

/-- The hello of a session, which a SESSION_HELLO brings. -/
def someHello : Instr := .sessionHello lineManager 0 (List.replicate 8 0)

/-- The mode in which a command ends. -/
def modeAfter (c : Instr) (s : State) : Option Mode :=
  match exec c s with
  | .next u => some u.md.mode
  | _ => none

theorem modeAfter_someHello : modeAfter someHello warmupQueued = some .warmup := by decide +kernel

/-- Refutes O8: a SESSION_HELLO has the receive queue of its port served, so that a mode request that waits there acts with it. -/
theorem not_modeKept : ¬ Obligations.ModeKept := by
  unfold Obligations.ModeKept
  intro h
  obtain ⟨t, hexec, hmode⟩ := h someHello warmupQueued rfl
  have hstandby : t.md.mode = .standby := hmode
  have hend : (settle t).md.mode = .standby := by rw [settle_mode_of_other] <;> simp [hstandby]
  have hafter := modeAfter_someHello
  simp [modeAfter, hexec, hend] at hafter

/-! ## What a change of mode shows: its row -/

/-- The row of a mode change: 2000:01, 2000:04 and 2000:05. -/
def rowView (s : State) : Mode × Mode × Nat := ((modeView s).1.mode, (modeView s).1.previous, (modeView s).2.2)

theorem rowView_eq_iff {s : State} {m p : Mode} {c : Nat} :
    rowView s = (m, p, c) ↔ s.md.mode = m ∧ s.md.previous = p ∧ get s 0x2000 5 = c := by simp [rowView, modeView]

theorem rowView_of_modeView {s t : State} (h : modeView t = modeView s) : rowView t = rowView s := by simp [rowView, h]

theorem recordMode_rowView (s : State) (new : Mode) (cause : Nat) : rowView (recordMode s new cause) = (new, s.md.mode, cause) := by
  simp [rowView, recordMode_modeView]

@[simp] theorem ite_rowView (c : Prop) [Decidable c] (a b : State) :
    rowView (if c then a else b) = if c then rowView a else rowView b := apply_ite rowView c a b

@[simp] theorem modeView_md (s : State) : (modeView s).1 = s.md := rfl
@[simp] theorem modeParts_md (m : Modes) (b : Bool) (d : Tab Nat) : (modeParts m b d).1 = m := rfl
@[simp] theorem modeParts_cause (s : State) (m : Modes) (b : Bool) : (modeParts m b s.dict).2.2 = (modeView s).2.2 := rfl

theorem ringBells_rowView (s : State) : rowView (ringBells s) = rowView s := by
  unfold ringBells
  rw [rowView_of_modeView (foldl_modeView s.md.bells _ _ fun u b => ringBell_modeView u b.1 b.2.1 b.2.2)]
  rfl

/-- The block actions of STANDBY release SAFE_N and ring the bells held in DOZE. -/
theorem intoStandby_rowView (s : State) (old : Mode) : rowView (intoStandby s old) = rowView s := by
  unfold intoStandby
  simp only
  split
  · rw [ringBells_rowView]
    simp [rowView]
  · simp [rowView]

theorem rowView_set_md {s t : State} {m : Modes} (h : modeView t = modeView s) (hmode : m.mode = s.md.mode) (hprev : m.previous = s.md.previous) :
    rowView { t with md := m } = rowView s := by
  simp [rowView, h, hmode, hprev]

theorem intoShutdown_rowView (s : State) : rowView (intoShutdown s) = rowView s := by
  unfold intoShutdown
  extract_lets t₁ t₂ t₃ _ t₄
  have quiet : modeView t₄ = modeView s := by simp [t₄, t₃, t₂, t₁]
  clear_value t₄
  have hmode : t₄.md.mode = s.md.mode := by rw [md_of_modeView quiet]
  have hprev : t₄.md.previous = s.md.previous := by rw [md_of_modeView quiet]
  exact rowView_set_md (t := setSlots t₄ []) (by simp [quiet]) hmode hprev

theorem intoWarmup_rowView (s : State) : rowView (intoWarmup s) = rowView s := by simp [rowView]
theorem intoDoze_rowView (s : State) : rowView (intoDoze s) = rowView s := by simp [rowView]

/-- The block actions of an entry leave its row (R44). -/
theorem modeActions_rowView (s : State) (old : Mode) : rowView (modeActions s old) = rowView s := by
  unfold modeActions
  split
  case h_3 => exact intoStandby_rowView s old
  case h_12 => exact intoShutdown_rowView s
  all_goals simp [rowView]

theorem settlePending_rowView (s : State) : rowView (settlePending s) = rowView s := by
  obtain ⟨p, hp⟩ := settlePending_modeView s
  simp [rowView, hp]

/-- The row of an entry: the mode entered, the mode left and the cause (R44). -/
theorem enterMode_rowView (s : State) (new : Mode) (cause : Nat) : rowView (enterMode s new cause) = (new, s.md.mode, cause) := by
  unfold enterMode
  simp only
  rw [settlePending_rowView, rowView_of_modeView (holdUnlit_modeView _), rowView_of_modeView (sayMode_modeView _ _), modeActions_rowView,
    recordMode_rowView]

theorem enterMode_row (s : State) (m : Mode) (c : Nat) :
    (enterMode s m c).md.mode = m ∧ (enterMode s m c).md.previous = s.md.mode ∧ get (enterMode s m c) 0x2000 5 = c :=
  rowView_eq_iff.1 (enterMode_rowView s m c)

/-! ## The automatic rows -/

/-- What a fold leaves, seen by any view of the state. -/
theorem foldl_view {α β : Type} (V : State → β) (l : List α) (f : State → α → State) (s : State)
    (h : ∀ u, ∀ x ∈ l, V (f u x) = V u) : V (l.foldl f s) = V s := by
  induction l generalizing s with
  | nil => rfl
  | cons a r ih => exact (ih _ fun u x hx => h u x (List.mem_cons_of_mem a hx)).trans (h s a List.mem_cons_self)

/-- The state but for its sheets. -/
def sansSheets (s : State) : State := { s with sheets := [] }

theorem eq_of_sansSheets {s t : State} (h : sansSheets t = sansSheets s) : t = { s with sheets := t.sheets } :=
  congrArg (fun u : State => { u with sheets := t.sheets }) h

theorem enterWaiting_eq (s : State) : enterWaiting s = { s with sheets := (enterWaiting s).sheets } := by
  refine eq_of_sansSheets (foldl_view sansSheets _ _ _ fun u sh _ => ?_)
  split <;> rfl

theorem enterWaiting_of_none_waiting {s : State} (h : ∀ sh ∈ s.sheets, sh.waiting = false) : enterWaiting s = s := by
  have none : s.sheets.filter (·.waiting) = [] := List.filter_eq_nil_iff.2 fun sh hsh => by simp [h sh hsh]
  simp [enterWaiting, none]

/-- A test of sheets that does not look at whether they wait. -/
theorem any_enterWaiting (s : State) (p : Sheet → Bool) (h : ∀ sh, p { sh with waiting := false } = p sh) :
    (enterWaiting s).sheets.any p = s.sheets.any p := by
  refine foldl_view (fun u => u.sheets.any p) _ _ _ fun u sh _ => ?_
  split
  · have same : (p ∘ fun x : Sheet => if x.uid = sh.uid then { x with waiting := false } else x) = p := by
      funext x
      simp only [Function.comp_apply]
      split
      · exact h x
      · rfl
    simp only [modSheet, List.any_map, same]
  · rfl

theorem anyAdmitted_enterWaiting (s : State) : anyAdmitted (enterWaiting s) = anyAdmitted s := any_enterWaiting s _ fun _ => rfl

theorem anyOnPath_enterWaiting (s : State) : anyOnPath (enterWaiting s) = anyOnPath s := any_enterWaiting s _ fun _ => rfl

theorem enterWaiting_md (s : State) : (enterWaiting s).md = s.md := by rw [enterWaiting_eq]

theorem sheetRow_enterWaiting (s : State) : sheetRow (enterWaiting s) = sheetRow s := by
  simp [sheetRow, anyAdmitted_enterWaiting, anyOnPath_enterWaiting, enterWaiting_md]

/-- A settled state only lets reprints that wait take free places (R20). -/
theorem settle_of_settled {s : State} (h : Settled s) : settle s = enterWaiting s := settle_of_none ((sheetRow_enterWaiting s).trans h)

theorem settle_of_row {s : State} {m : Mode} {c : Nat} (h : sheetRow s = some (m, c)) : settle s = enterMode (enterWaiting s) m c :=
  settle_of_some ((sheetRow_enterWaiting s).trans h)

theorem runoutTarget_eq (s : State) : runoutTarget s = (match s.md.pending with
    | some .standby => .standby | some .calibrate => .calibrate | some .shutdown => .shutdown | _ => .ready) := by
  unfold runoutTarget
  cases s.md.pending with
  | none => rfl
  | some p => cases p <;> rfl

/-- The row of an entry that closes a command in mode s.md.mode. -/
theorem settle_row {s : State} {m : Mode} {c : Nat} (h : sheetRow s = some (m, c)) :
    (settle s).md.mode = m ∧ (settle s).md.previous = s.md.mode ∧ get (settle s) 0x2000 5 = c := by
  rw [settle_of_row h]
  simpa [enterWaiting_md] using enterMode_row (enterWaiting s) m c

theorem settle_row_sheets {s : State} {m : Mode} {c : Nat} (h : sheetRow s = some (m, c)) (hm : m = .ready ∨ m = .rally) :
    (settle s).sheets = (enterWaiting s).sheets := by
  rw [settle_of_row h, enterMode_sheets c hm]

/-! ## The rows that completions and times bring -/

/-- Completion of a command whose effect is an entry to a mode. -/
theorem completes_enterMode {c : Instr} {s u : State} {m : Mode} {cause : Nat} (h : exec c s = .next (settle (enterMode u m cause)))
    (hu : u.md.mode = s.md.mode) :
    Completes c s fun t => t.md.mode = m ∧ t.md.previous = s.md.mode ∧ get t 0x2000 5 = cause :=
  ⟨_, h, hu ▸ enterMode_row u m cause⟩

/-- DOZE is entered with its cause, or waits for its align moves in the mode that was (R493). -/
theorem beginDoze_row (s : State) (cause : Nat) :
    ((beginDoze s cause).md.mode = .doze ∧ (beginDoze s cause).md.previous = s.md.mode ∧ get (beginDoze s cause) 0x2000 5 = cause) ∨
      ((beginDoze s cause).md = { s.md with dozing := true, dozeCause := cause, pending := some .doze }) := by
  have hmd : (forEach (List.range 16) retain s).md = s.md := md_of_modeView (by simp)
  unfold beginDoze
  simp only
  split
  · exact .inr (by simp [hmd])
  · exact .inl (by simpa [hmd] using enterMode_row (forEach (List.range 16) retain s) .doze cause)

theorem stepTo_of_ne_doze {s : State} {p : Mode} (hp : p ≠ .doze) (hs : s.md.mode ≠ .doze) : stepTo s p = enterMode s p 1 := by
  simp [stepTo, hp, hs]

theorem mem_stationsPresent {s : State} {n : Nat} (h : n ∈ stationsPresent s) : n < 6 := by
  have hn : n < stationCount s := List.mem_range.1 h
  have hcount : stationCount s ≤ 6 := by unfold stationCount; split <;> decide
  omega

/-- The registration groups that CALIBRATE arms touch no row (R370). -/
theorem armRegistration_modeView (s : State) {n : Nat} (hn : n < 6) : modeView (armRegistration s n) = modeView s := by
  have hquiet (u : State) : groupTaken u (copyGroup u (7 + n)) (7 + n) = copyGroup u (7 + n) := by
    unfold groupTaken
    rw [if_neg (by omega), if_neg (by omega), if_neg (by omega)]
  unfold armRegistration
  simp only
  split
  · unfold takeArmed takeGroup
    split
    · rw [hquiet, copyGroup_modeView _ _ (by omega)]
      simp
    · simp
  · simp

/-- Settles O16: every row is an entry whose row `enterMode_row` says; the sheets' rows follow from `sheetRow`. -/
theorem modeRows : Obligations.ModeRows := by
  unfold Obligations.ModeRows
  refine ⟨fun s => ⟨fun hmode hadm => ?ready, fun hmode hpath => ?rally, fun hmode hpath => ?runout, settle_of_settled, enterWaiting_eq s,
    enterWaiting_of_none_waiting⟩, fun s => ?_⟩
  case ready =>
    have row : sheetRow s = some (.rally, 3) := by simp [sheetRow_ready hmode, hadm]
    obtain ⟨h, hprev, hcause⟩ := settle_row row
    exact ⟨h, hprev.trans hmode, hcause, settle_row_sheets row (.inr rfl)⟩
  case rally =>
    have row : sheetRow s = some (.ready, 2) := by simp [sheetRow_rally hmode, hpath]
    obtain ⟨h, hprev, hcause⟩ := settle_row row
    exact ⟨h, hprev.trans hmode, hcause, settle_row_sheets row (.inl rfl)⟩
  case runout =>
    have row : sheetRow s = some (runoutTarget s, 2) := by simp [sheetRow_runout hmode, hpath]
    obtain ⟨h, hprev, hcause⟩ := settle_row row
    exact ⟨hprev.trans hmode, hcause, h.trans (runoutTarget_eq s)⟩
  refine ⟨fun hmode hwarm => ?_, fun hmode => ?_, fun hmode hpend hidle hsheets => ?_, fun hmode hdoz hpend hidle hsheets => ?_, fun hmode => ?_,
    fun p q hpend hrally hrunout hdoz hwak hent hroute hq hdoze => ?_⟩
  · refine completes_enterMode (u := s) ?_ rfl
    simp [exec, execWarmupComplete, hmode, hwarm, done]
  · refine completes_enterMode (u := logEvent s clsFault 0x0F 255 0x2000 8) ?_ (by simp)
    simp [exec, execWarmupLimitExpiry, hmode, done]
  · refine completes_enterMode (u := s) ?_ rfl
    have none : (s.sheets.any fun sh => sh.resident || sh.admitted) = false := List.any_eq_false.2 fun sh hsh => by simp [hsheets sh hsh]
    simp [exec, execReadyIdleExpiry, hmode, hpend, hidle, none, done]
  · have none : s.sheets.any (·.queued) = false := List.any_eq_false.2 fun sh hsh => by simp [hsheets sh hsh]
    refine ⟨beginDoze s 4, by simp [exec, execStandbyIdleExpiry, hmode, hdoz, hpend, hidle, none, done], ?_⟩
    rcases beginDoze_row s 4 with h | h
    · exact .inl h
    · exact .inr (by simp [h, hmode])
  · refine completes_enterMode (u := forEach (stationsPresent s) (fun t n => armRegistration (storeSignature t n) n) s) ?_ ?_
    · simp [exec, execCalibrationComplete, hmode, done]
    · exact congrArg Modes.mode (md_of_modeView (foldl_view modeView _ _ _ fun u n hn =>
        (armRegistration_modeView _ (mem_stationsPresent hn)).trans (storeSignature_modeView u n)))
  · refine completes_enterMode (u := s) ?_ rfl
    simp [exec, execModeRouteStep, hpend, hrally, hrunout, hdoz, hwak, hent, hroute, stepTo_of_ne_doze hq hdoze, done]

end Sys2Proof.Machine

/-! # Kick-off: power, warm resets, the steps (R104, R127, R166, R615) -/

namespace Sys2Proof.Machine

/-! ## Frames of the objects -/

theorem keepsObjects_put {ks : List Nat} (s : State) (i j v : Nat) (h : keyOf i j ∈ ks) : KeepsObjects ks s (put s i j v) :=
  fun _ hk => tabFind_tabSet_other _ v fun e => hk (e ▸ h)

theorem SameButLog.keepsObjects {s t : State} (h : SameButLog s t) (ks : List Nat) : KeepsObjects ks s t := keepsObjects_of_dict_eq h.dict

/-! ## What sheets that are spoilt leave -/

/-- What press time, the modes, kick-off, the rails, the clocks, the flash and the pins are. -/
structure PowerView where
  time : Nat
  powered : Bool
  md : Modes
  kick : Kick
  hold : Hold
  reset_ : ResetState
  seq : Sequencer
  rails : Tab Rail
  clk : Clocks
  flash : Flash
  pins : Pins

def powerView (s : State) : PowerView :=
  ⟨s.time, s.powered, s.md, s.kick, s.hold, s.reset_, s.seq, s.rails, s.clk, s.flash, s.pins⟩

@[simp] theorem powerView_mk (time powered md kick hold reset_ seq rails clk net flash dict blobs staged stagedBlobs stagers armed accs sheets
    nextUid tenants coalescing mem stations trackers slots motors axes loops ains pins diag log heatTicks heatFrom out fresh pending) :
    powerView ⟨time, powered, md, kick, hold, reset_, seq, rails, clk, net, flash, dict, blobs, staged, stagedBlobs, stagers, armed, accs,
    sheets, nextUid, tenants, coalescing, mem, stations, trackers, slots, motors, axes, loops, ains, pins, diag, log, heatTicks, heatFrom, out,
    fresh, pending⟩ = ⟨time, powered, md, kick, hold, reset_, seq, rails, clk, flash, pins⟩ := rfl
@[simp] theorem powerView_self (s : State) :
    PowerView.mk s.time s.powered s.md s.kick s.hold s.reset_ s.seq s.rails s.clk s.flash s.pins = powerView s := rfl

@[simp] theorem ite_powerView (c : Prop) [Decidable c] (a b : State) :
    powerView (if c then a else b) = if c then powerView a else powerView b := apply_ite powerView c a b
@[simp] theorem ite_powerView1 {α : Type} (c : Prop) [Decidable c] (a b : State × α) :
    powerView (if c then a else b).1 = if c then powerView a.1 else powerView b.1 := apply_ite (fun x : State × α => powerView x.1) c a b
@[simp] theorem foldl_powerView {α : Type} (l : List α) (f : State → α → State) (s : State)
    (h : ∀ u x, powerView (f u x) = powerView u) :
    powerView (l.foldl f s) = powerView s := foldl_view powerView l f s fun u x _ => h u x
@[simp] theorem forEach_powerView (l : List Nat) (f : State → Nat → State) (s : State)
    (h : ∀ u x, powerView (f u x) = powerView u) :
    powerView (forEach l f s) = powerView s := foldl_powerView l f s h
@[simp] theorem put_powerView (s : State) (i j v : Nat) : powerView (put s i j v) = powerView s := (rfl)
@[simp] theorem putS_powerView (s : State) (w i j : Nat) (v : Int) : powerView (putS s w i j v) = powerView s := (rfl)
@[simp] theorem wrapBy_powerView (w : Nat) (s : State) (i j n : Nat) : powerView (wrapBy w s i j n) = powerView s := (rfl)
@[simp] theorem satBy_powerView (w : Nat) (s : State) (i j n : Nat) : powerView (satBy w s i j n) = powerView s := (rfl)
@[simp] theorem bump_powerView (s : State) (i j : Nat) : powerView (bump s i j) = powerView s := (rfl)
@[simp] theorem sat_powerView (s : State) (i j : Nat) : powerView (sat s i j) = powerView s := (rfl)
@[simp] theorem putBlob_powerView (s : State) (i j : Nat) (l : List Byte) : powerView (putBlob s i j l) = powerView s := (rfl)
@[simp] theorem putLog_powerView (s : State) (i j v : Nat) : powerView (putLog s i j v) = powerView s := (rfl)
@[simp] theorem wrapLog_powerView (w : Nat) (s : State) (i j : Nat) : powerView (wrapLog w s i j) = powerView s := (rfl)
@[simp] theorem satLog_powerView (w : Nat) (s : State) (i j : Nat) : powerView (satLog w s i j) = powerView s := (rfl)
@[simp] theorem emit_powerView (s : State) (o : Output) : powerView (emit s o) = powerView s := (rfl)
@[simp] theorem emitAll_powerView (s : State) (l : List Output) : powerView (emitAll s l) = powerView s := (rfl)
@[simp] theorem setStation_powerView (s : State) (n : Nat) (f : Station → Station) : powerView (setStation s n f) = powerView s := (rfl)
@[simp] theorem setTracker_powerView (s : State) (n : Nat) (f : Tracker → Tracker) : powerView (setTracker s n f) = powerView s := (rfl)
@[simp] theorem setMotor_powerView (s : State) (n : Nat) (f : Motor → Motor) : powerView (setMotor s n f) = powerView s := (rfl)
@[simp] theorem setAxis_powerView (s : State) (n : Nat) (f : Axis → Axis) : powerView (setAxis s n f) = powerView s := (rfl)
@[simp] theorem setLoop_powerView (s : State) (n : Nat) (f : Loop → Loop) : powerView (setLoop s n f) = powerView s := (rfl)
@[simp] theorem setAin_powerView (s : State) (n : Nat) (f : Ain → Ain) : powerView (setAin s n f) = powerView s := (rfl)
@[simp] theorem setTenant_powerView (s : State) (n : Nat) (f : Tenant → Tenant) : powerView (setTenant s n f) = powerView s := (rfl)
@[simp] theorem setPort_powerView (s : State) (n : Nat) (f : Port → Port) : powerView (setPort s n f) = powerView s := (rfl)
@[simp] theorem modSheet_powerView (s : State) (uid : Nat) (f : Sheet → Sheet) : powerView (modSheet s uid f) = powerView s := (rfl)

@[simp] theorem vector_powerView (s : State) (fn vec : Nat) : powerView (vector s fn vec) = powerView s := by unfold vector; simp
@[simp] theorem mirrorWrite_powerView (s : State) (e : Entry) : powerView (mirrorWrite s e) = powerView s := by
  unfold mirrorWrite; (repeat' split) <;> simp
@[simp] theorem ringWrite_powerView (s : State) (e : Entry) : powerView (ringWrite s e) = powerView s := by unfold ringWrite; simp
@[simp] theorem notice_powerView (s : State) (idx sub cls : Nat) : powerView (notice s idx sub cls) = powerView s := by unfold notice; simp
@[simp] theorem noticeAlone_powerView (s : State) (idx sub cls : Nat) : powerView (noticeAlone s idx sub cls) = powerView s := by
  unfold noticeAlone; simp
@[simp] theorem classVectors_powerView (s : State) (cls : Nat) : powerView (classVectors s cls) = powerView s := by unfold classVectors; simp
@[simp] theorem logOnly_powerView (s : State) (cls kind src inst idx sub : Nat) (serial : Option Nat) (detail : Nat) :
  powerView (logOnly s cls kind src inst idx sub serial detail) = powerView s := by
  unfold logOnly; simp
@[simp] theorem log_powerView (s : State) (cls kind src inst idx sub : Nat) (serial : Option Nat) (detail : Nat) :
  powerView (log s cls kind src inst idx sub serial detail) = powerView s := by
  unfold log; simp
@[simp] theorem serveDrop_powerView (s : State) (m : Mech) (inst : Nat) : powerView (serveDrop s m inst) = powerView s := (rfl)
@[simp] theorem serveBegin_powerView (s : State) (m : Mech) (inst code src idx sub : Nat) :
  powerView (serveBegin s m inst code src idx sub) = powerView s := by
  unfold serveBegin; simp
@[simp] theorem servePass_powerView (s : State) (m : Mech) (inst src idx sub : Nat) : powerView (servePass s m inst src idx sub) = powerView s
    := by
  unfold servePass; split <;> simp
@[simp] theorem doubleFaultAs_powerView (cls : Nat) (s : State) (m : Mech) (inst code src idx sub : Nat) :
  powerView (doubleFaultAs cls s m inst code src idx sub) = powerView s := by
  unfold doubleFaultAs; simp
@[simp] theorem watch_powerView (high : Bool) (s : State) (idx sub old v : Nat) : powerView (watch high s idx sub old v) = powerView s := by
  unfold watch; simp
@[simp] theorem setSlots_powerView (s : State) (l : Tab Event) : powerView (setSlots s l) = powerView s := by unfold setSlots; simp
@[simp] theorem dropEvents_powerView (s : State) (p : Event → Bool) : powerView (dropEvents s p) = powerView s := by unfold dropEvents; simp
@[simp] theorem writeEntry_powerView (s : State) (t : Nat) (l : List Byte) : powerView (writeEntry s t l) = powerView s := (rfl)
@[simp] theorem signalEntry_powerView (s : State) (t : Nat) : powerView (signalEntry s t) = powerView s := by unfold signalEntry; simp
@[simp] theorem writeSignal_powerView (s : State) (t : Nat) (h : Held) : powerView (writeSignal s t h) = powerView s := by unfold writeSignal; simp
@[simp] theorem deliver_powerView (s : State) (t : Nat) (h : Held) : powerView (deliver s t h) = powerView s := by unfold deliver; simp
@[simp] theorem countOutcome_powerView (s : State) (outcome : Nat) : powerView (countOutcome s outcome) = powerView s := by
  unfold countOutcome; simp
@[simp] theorem completion_powerView (s : State) (sh : Sheet) (outcome reason : Nat) (double : Bool) :
  powerView (completion s sh outcome reason double) = powerView s := by
  unfold completion; simp
@[simp] theorem toScrubbing_powerView (s : State) (t : Nat) : powerView (toScrubbing s t) = powerView s := by unfold toScrubbing; simp
@[simp] theorem ghostCheck_powerView (s : State) (t : Nat) : powerView (ghostCheck s t) = powerView s := by unfold ghostCheck; simp
@[simp] theorem removeSheet_powerView (s : State) (uid : Nat) : powerView (removeSheet s uid) = powerView s := by unfold removeSheet; simp
@[simp] theorem finishSheet_powerView (s : State) (sh : Sheet) : powerView (finishSheet s sh) = powerView s := by unfold finishSheet; simp
@[simp] theorem spoilAll_powerView (s : State) : powerView (spoilAll s) = powerView s := by unfold spoilAll; simp
@[simp] theorem discardAllStaged_powerView (s : State) : powerView (discardAllStaged s) = powerView s := by unfold discardAllStaged; simp

/-! ## Logging alone -/

theorem logStart_sameButLog (s : State) : SameButLog s (logStart s) := log_sameButLog _ _ _ _ _ _ _ _ _

theorem recordCause_sameButLog (s : State) (c : Nat) : SameButLog s (recordCause s c) := by
  unfold recordCause
  exact putLog_sameButLog _ _ _ _

theorem keepIlock_sameButLog (s : State) : SameButLog s (keepIlock s) := by
  unfold keepIlock
  split
  · exact .trans (causeAdd_sameButLog s 8 0) (recordCause_sameButLog _ _)
  · exact .refl s

/-! ## The start of kick-off (R104, R615) -/

/-- The block as kick-off starts: no rail, no step, the safe outputs driven. -/
def kickStarted (s : State) : State :=
  { s with seq := { driven := s.seq.driven }, rails := [],
           kick := { s.kick with failed := none, challenge := none, badResponses := 0, startAt := s.time },
           pins := { s.pins with rstLow := true, safeN := true, gatesSet := false },
           reset_ := { toTerp := s.reset_.toTerp } }

/-- Kick-off at its step 1, but where TERP is attempted again. -/
theorem kickoffStart_eq {s : State} (h : (s.reset_.toTerp && !s.kick.cold) = false) :
    kickoffStart s = put (put (put (kickStarted s) 0x2710 1 0) 0x2120 5 1) 0x2020 1 1 := by
  simp [kickoffStart, h, kickStarted, put]

theorem kickoffStart_keepsObjects {s : State} (h : (s.reset_.toTerp && !s.kick.cold) = false) :
    KeepsObjects [keyOf 0x2020 1, keyOf 0x2710 1, keyOf 0x2120 5] s (kickoffStart s) := by
  rw [kickoffStart_eq h]
  have locked := keepsObjects_put (ks := [keyOf 0x2020 1, keyOf 0x2710 1, keyOf 0x2120 5]) (kickStarted s) 0x2710 1 0 (by simp)
  have counted := keepsObjects_put (ks := [keyOf 0x2020 1, keyOf 0x2710 1, keyOf 0x2120 5]) (put (kickStarted s) 0x2710 1 0) 0x2120 5 1 (by simp)
  have started := keepsObjects_put (ks := [keyOf 0x2020 1, keyOf 0x2710 1, keyOf 0x2120 5])
    (put (put (kickStarted s) 0x2710 1 0) 0x2120 5 1) 0x2020 1 1 (by simp)
  exact keepsObjects_trans (keepsObjects_trans locked counted) started

/-- The block at power-good, before its log runs. -/
def poweredUp (s : State) : State := { s with powered := true, time := 0, kick := { s.kick with cold := true } }

theorem aonPowerGood_sameButLog (s : State) : SameButLog (poweredUp s) (keepIlock (logStart (poweredUp s))) :=
  .trans (logStart_sameButLog _) (keepIlock_sameButLog _)

/-- Settles O9: kick-off starts from a block of which only the log has changed, and a brown-out leaves the constants of `powerLost`. -/
theorem powerCycle : Obligations.PowerCycle := by
  unfold Obligations.PowerCycle
  refine ⟨fun s hoff => ?_, fun s hon => ⟨powerLost s, by simp [exec, execBrownOut, hon, done], by simp [powerLost, State.reset, poweredPins]⟩⟩
  have logged := aonPowerGood_sameButLog s
  refine ⟨kickoffStart (keepIlock (logStart (poweredUp s))), by simp [exec, execAonPowerGood, hoff, done, poweredUp], ?_⟩
  generalize keepIlock (logStart (poweredUp s)) = u at logged
  have hcold : u.kick.cold = true := by rw [logged.kick]; rfl
  have hterp : (u.reset_.toTerp && !u.kick.cold) = false := by simp [hcold]
  have keeps : KeepsObjects [keyOf 0x2020 1, keyOf 0x2710 1, keyOf 0x2120 5] s (kickoffStart u) :=
    keepsObjects_trans (keepsObjects_of_dict_eq logged.dict) (kickoffStart_keepsObjects hterp)
  have heq := kickoffStart_eq hterp
  generalize kickoffStart u = t at heq keeps
  subst heq
  refine ⟨?_, ?_, get_put_same _ _ _ rfl, ?_, rfl, rfl, rfl, keeps, ?_⟩
  · exact logged.powered
  · exact logged.time
  · exact hcold
  · rw [SameButLog] at logged
    clear keeps hcold hterp
    rw [logged]
    rfl

/-! ## The warm reset (R615) -/

/-- The record of a mode change, before its entry is logged (R44). -/
def modeRecorded (s : State) (new : Mode) (cause : Nat) : State :=
  wrapBy 32 (put { s with md := { s.md with mode := new, previous := s.md.mode, dozing := false, waking := false },
                          diag := if s.md.mode = .service then { s.diag with injecting := false } else s.diag } 0x2000 5 cause) 0x2000 6 1

theorem recordMode_sameButLog (s : State) (new : Mode) (cause : Nat) : SameButLog (modeRecorded s new cause) (recordMode s new cause) :=
  .trans (log_sameButLog _ _ _ _ _ _ _ _ _) (vector_sameButLog _ _ _)

theorem SameButLog.modeRecorded {s t : State} (h : SameButLog s t) (new : Mode) (cause : Nat) :
    SameButLog (Machine.modeRecorded s new cause) (Machine.modeRecorded t new cause) := by
  unfold SameButLog at h
  rw [h]
  rfl

theorem modeRecorded_cause (s : State) (new : Mode) (cause : Nat) : get (modeRecorded s new cause) 0x2000 5 = cause := by
  unfold modeRecorded wrapBy
  rw [get_put_other _ _ (by decide), get_put_same _ _ _ rfl]

/-- What stands of the block when it is cleared. -/
def cleared (s : State) : State := warmKept (discardAllStaged (spoilAll s))

theorem discarded_powerView (s : State) : powerView (discardAllStaged (spoilAll s)) = powerView s := by simp

theorem cleared_mode (s : State) : (cleared s).md.mode = s.md.mode :=
  congrArg (fun v : PowerView => v.md.mode) (discarded_powerView s)

theorem cleared_time (s : State) : (cleared s).time = s.time := congrArg PowerView.time (discarded_powerView s)

theorem cleared_rails (s : State) : (cleared s).rails = s.rails := congrArg PowerView.rails (discarded_powerView s)

/-- A clearance is the row to KICKOFF on what stands, and entries of the log. -/
theorem clearBlock_sameButLog (s : State) (c : Nat) : SameButLog (modeRecorded (cleared s) .kickoff c) (clearBlock s c) :=
  .trans ((logStart_sameButLog _).modeRecorded _ _) (.trans (recordMode_sameButLog _ _ _) (keepIlock_sameButLog _))

theorem anyRailOn_congr {s t : State} (h : t.rails = s.rails) : anyRailOn t = anyRailOn s := by simp [anyRailOn, h]

theorem clearBlock_rails (s : State) (c : Nat) : (clearBlock s c).rails = s.rails :=
  (clearBlock_sameButLog s c).rails.trans (cleared_rails s)

/-- What PORST clears the block to (R615). -/
def porstCleared (s : State) : State :=
  clearBlock { s with kick := { s.kick with failed := none } } (if s.md.mode = .shutdown ∧ s.md.offEnded then 0x05 else 0x0E)

/-- PORST out of no hold state: the cleared block, whose rails go off in sequence where one is on. -/
theorem porst_eq {s : State} (h : s.hold = .none) :
    porst s =
      if anyRailOn s then
        beginOff { porstCleared s with reset_ := { running := true, porstLow := true, toTerp := s.reset_.toTerp } } .warmReset
      else { porstCleared s with
        reset_ := { running := true, holdEnded := !(s.reset_.running && !s.reset_.holdEnded), porstLow := true, toTerp := s.reset_.toTerp },
        seq := {} } := by
  unfold porst
  extract_lets terp held _ u kick t
  have hterp : terp = s.reset_.toTerp := by simp [terp, h]
  have hu : u = s := if_pos h
  have ht : t = porstCleared s := by simp only [t, kick, hu, porstCleared]
  have hany : anyRailOn (porstCleared s) = anyRailOn s := anyRailOn_congr (clearBlock_rails _ _)
  rw [ht, hterp, hany]

/-- What a clearance leaves of the mode block, the parts, the pins, the rails and press time (R615). -/
theorem porstCleared_frame (s : State) :
    let t := porstCleared s
    (t.md.mode = .kickoff ∧ t.md.previous = s.md.mode ∧ get t 0x2000 5 = if s.md.mode = .shutdown ∧ s.md.offEnded = true then 5 else 0x0E) ∧
      (t.pins.safeN = true ∧ t.pins.rstLow = true) ∧
      (t.sheets = [] ∧ t.motors = [] ∧ t.axes = [] ∧ t.loops = [] ∧ t.stations = [] ∧ t.trackers = [] ∧ t.tenants = [] ∧ t.slots = []) ∧
      t.time = s.time ∧ t.rails = s.rails := by
  extract_lets t
  have same := clearBlock_sameButLog { s with kick := { s.kick with failed := none } } (if s.md.mode = .shutdown ∧ s.md.offEnded then 0x05 else 0x0E)
  have hmode := cleared_mode { s with kick := { s.kick with failed := none } }
  have htime := cleared_time { s with kick := { s.kick with failed := none } }
  refine ⟨⟨?_, ?_, ?_⟩, ⟨?_, ?_⟩, ⟨same.sheets, same.motors, same.axes, same.loops, same.stations, same.trackers, same.tenants, same.slots⟩,
    same.time.trans htime, clearBlock_rails _ _⟩
  · exact congrArg Modes.mode same.md
  · exact (congrArg Modes.previous same.md).trans hmode
  · exact (same.get 5 rfl).trans (modeRecorded_cause _ _ _)
  · exact congrArg Pins.safeN same.pins
  · exact congrArg Pins.rstLow same.pins

/-- What the start of kick-off shows where TERP is not to be attempted. -/
theorem kickoffStart_frame {s : State} (h : s.reset_.toTerp = false) :
    get (kickoffStart s) 0x2020 1 = 1 ∧ (kickoffStart s).reset_.running = false ∧ (kickoffStart s).pins.safeN = true ∧
      (kickoffStart s).pins.rstLow = true ∧ KeepsObjects [keyOf 0x2020 1, keyOf 0x2710 1, keyOf 0x2120 5] s (kickoffStart s) := by
  have hterp : (s.reset_.toTerp && !s.kick.cold) = false := by simp [h]
  refine ⟨?_, ?_, ?_, ?_, kickoffStart_keepsObjects hterp⟩ <;> rw [kickoffStart_eq hterp]
  · exact get_put_same _ _ _ rfl
  all_goals rfl

/-- Settles O10: a warm reset is a clearance and its off-sequence; the releases start kick-off by its own equation. -/
theorem warmResets : Obligations.WarmResets := by
  unfold Obligations.WarmResets
  refine ⟨fun s hon hhold => ⟨porst s, by simp [exec, execPorst, hon, done], ?_⟩, fun s hlow hterp => ⟨porstReleased s, rfl, ?_⟩,
    fun s hon hrails hrun hend hterp hfail hwhy => ⟨holdEnded s, by simp [exec, execWarmResetHoldEnd, hon, hrails, hrun, hend, done], ?_⟩⟩
  · obtain ⟨⟨hmode, hprev, hcause⟩, ⟨hsafe, hrst⟩, ⟨hsheets, hmotors, haxes, hloops, hstations, htrackers, htenants, hslots⟩, htime, hkept⟩ :=
      porstCleared_frame s
    rw [porst_eq hhold]
    generalize porstCleared s = t at *
    split
    · exact ⟨hmode, hprev, hcause, hsafe, hrst, rfl, rfl, hsheets, hmotors, haxes, hloops, hstations, htrackers, htenants, hslots, htime, hkept,
        fun _ => ⟨rfl, rfl⟩⟩
    · exact ⟨hmode, hprev, hcause, hsafe, hrst, rfl, rfl, hsheets, hmotors, haxes, hloops, hstations, htrackers, htenants, hslots, htime, hkept,
        fun hany => absurd hany ‹_›⟩
  · by_cases hended : s.reset_.holdEnded = true
    · simpa [porstReleased, hlow, hended] using kickoffStart_frame hterp
    · simp [porstReleased, hlow, hended]
  · by_cases hporst : s.reset_.porstLow = true
    · simp [holdEnded, hfail, hwhy, hporst]
    · simpa [holdEnded, hfail, hwhy, hporst] using kickoffStart_frame hterp

end Sys2Proof.Machine

/-! # The course of kick-off (R104, R126, R127) -/

namespace Sys2Proof.Machine

/-! ## What of the log block a mode change leaves -/

/-- Of the log block: the causes that persist and whether the ring runs (R563, R570). -/
structure LogState where
  log_causes : List (Nat × Nat)
  log_ready : Bool

def logState (s : State) : LogState :=
  ⟨s.log.causes, s.log.ready⟩

@[simp] theorem logState_mk (time powered md kick hold reset_ seq rails clk net flash dict blobs staged stagedBlobs stagers armed accs sheets
    nextUid tenants coalescing mem stations trackers slots motors axes loops ains pins diag log heatTicks heatFrom out fresh pending) :
    logState ⟨time, powered, md, kick, hold, reset_, seq, rails, clk, net, flash, dict, blobs, staged, stagedBlobs, stagers, armed, accs,
    sheets, nextUid, tenants, coalescing, mem, stations, trackers, slots, motors, axes, loops, ains, pins, diag, log, heatTicks, heatFrom, out,
    fresh, pending⟩ = ⟨log.causes, log.ready⟩ := rfl
@[simp] theorem logState_self (s : State) :
    LogState.mk s.log.causes s.log.ready = logState s := rfl

@[simp] theorem ite_logState (c : Prop) [Decidable c] (a b : State) :
    logState (if c then a else b) = if c then logState a else logState b := apply_ite logState c a b
@[simp] theorem ite_logState1 {α : Type} (c : Prop) [Decidable c] (a b : State × α) :
    logState (if c then a else b).1 = if c then logState a.1 else logState b.1 := apply_ite (fun x : State × α => logState x.1) c a b
@[simp] theorem foldl_logState {α : Type} (l : List α) (f : State → α → State) (s : State)
    (h : ∀ u x, logState (f u x) = logState u) :
    logState (l.foldl f s) = logState s := foldl_view logState l f s fun u x _ => h u x
@[simp] theorem forEach_logState (l : List Nat) (f : State → Nat → State) (s : State)
    (h : ∀ u x, logState (f u x) = logState u) :
    logState (forEach l f s) = logState s := foldl_logState l f s h
@[simp] theorem put_logState (s : State) (i j v : Nat) : logState (put s i j v) = logState s := (rfl)
@[simp] theorem putS_logState (s : State) (w i j : Nat) (v : Int) : logState (putS s w i j v) = logState s := (rfl)
@[simp] theorem wrapBy_logState (w : Nat) (s : State) (i j n : Nat) : logState (wrapBy w s i j n) = logState s := (rfl)
@[simp] theorem satBy_logState (w : Nat) (s : State) (i j n : Nat) : logState (satBy w s i j n) = logState s := (rfl)
@[simp] theorem bump_logState (s : State) (i j : Nat) : logState (bump s i j) = logState s := (rfl)
@[simp] theorem sat_logState (s : State) (i j : Nat) : logState (sat s i j) = logState s := (rfl)
@[simp] theorem putBlob_logState (s : State) (i j : Nat) (l : List Byte) : logState (putBlob s i j l) = logState s := (rfl)
@[simp] theorem putLog_logState (s : State) (i j v : Nat) : logState (putLog s i j v) = logState s := (rfl)
@[simp] theorem wrapLog_logState (w : Nat) (s : State) (i j : Nat) : logState (wrapLog w s i j) = logState s := (rfl)
@[simp] theorem satLog_logState (w : Nat) (s : State) (i j : Nat) : logState (satLog w s i j) = logState s := (rfl)
@[simp] theorem emit_logState (s : State) (o : Output) : logState (emit s o) = logState s := (rfl)
@[simp] theorem emitAll_logState (s : State) (l : List Output) : logState (emitAll s l) = logState s := (rfl)
@[simp] theorem setRail_logState (s : State) (n : Nat) (f : Rail → Rail) : logState (setRail s n f) = logState s := (rfl)
@[simp] theorem setStation_logState (s : State) (n : Nat) (f : Station → Station) : logState (setStation s n f) = logState s := (rfl)
@[simp] theorem setTracker_logState (s : State) (n : Nat) (f : Tracker → Tracker) : logState (setTracker s n f) = logState s := (rfl)
@[simp] theorem setMotor_logState (s : State) (n : Nat) (f : Motor → Motor) : logState (setMotor s n f) = logState s := (rfl)
@[simp] theorem setAxis_logState (s : State) (n : Nat) (f : Axis → Axis) : logState (setAxis s n f) = logState s := (rfl)
@[simp] theorem setLoop_logState (s : State) (n : Nat) (f : Loop → Loop) : logState (setLoop s n f) = logState s := (rfl)
@[simp] theorem setAin_logState (s : State) (n : Nat) (f : Ain → Ain) : logState (setAin s n f) = logState s := (rfl)
@[simp] theorem setTenant_logState (s : State) (n : Nat) (f : Tenant → Tenant) : logState (setTenant s n f) = logState s := (rfl)
@[simp] theorem setPort_logState (s : State) (n : Nat) (f : Port → Port) : logState (setPort s n f) = logState s := (rfl)
@[simp] theorem modSheet_logState (s : State) (uid : Nat) (f : Sheet → Sheet) : logState (modSheet s uid f) = logState s := (rfl)

@[simp] theorem vector_logState (s : State) (fn vec : Nat) : logState (vector s fn vec) = logState s := by unfold vector; simp
theorem mirrorPlace_logState {l l' : Log} {e : Entry} (h : mirrorPlace l e = some l') : l'.causes = l.causes ∧ l'.ready = l.ready := by
  unfold mirrorPlace at h
  split at h
  · obtain rfl := Option.some.inj h
    exact ⟨rfl, rfl⟩
  · split at h
    · obtain rfl := Option.some.inj h
      exact ⟨rfl, rfl⟩
    · simp at h
@[simp] theorem mirrorWrite_logState (s : State) (e : Entry) : logState (mirrorWrite s e) = logState s := by
  unfold mirrorWrite
  split
  · rfl
  · split
    next l hl =>
      obtain ⟨hcauses, hready⟩ : l.causes = s.log.causes ∧ l.ready = s.log.ready := by
        split at hl
        · exact mirrorPlace_logState hl
        · simp at hl
      exact congrArg₂ LogState.mk hcauses hready
    · simp
@[simp] theorem ringWrite_logState (s : State) (e : Entry) : logState (ringWrite s e) = logState s := by unfold ringWrite; simp
@[simp] theorem notice_logState (s : State) (idx sub cls : Nat) : logState (notice s idx sub cls) = logState s := by unfold notice; simp
@[simp] theorem noticeAlone_logState (s : State) (idx sub cls : Nat) : logState (noticeAlone s idx sub cls) = logState s := by
  unfold noticeAlone; simp
@[simp] theorem classVectors_logState (s : State) (cls : Nat) : logState (classVectors s cls) = logState s := by unfold classVectors; simp
@[simp] theorem logOnly_logState (s : State) (cls kind src inst idx sub : Nat) (serial : Option Nat) (detail : Nat) :
  logState (logOnly s cls kind src inst idx sub serial detail) = logState s := by
  unfold logOnly; simp
@[simp] theorem log_logState (s : State) (cls kind src inst idx sub : Nat) (serial : Option Nat) (detail : Nat) :
  logState (log s cls kind src inst idx sub serial detail) = logState s := by
  unfold log; simp
@[simp] theorem logEvent_logState (s : State) (cls src inst idx sub : Nat) : logState (logEvent s cls src inst idx sub) = logState s := by
  unfold logEvent; simp
@[simp] theorem serveDrop_logState (s : State) (m : Mech) (inst : Nat) : logState (serveDrop s m inst) = logState s := (rfl)
@[simp] theorem servePass_logState (s : State) (m : Mech) (inst src idx sub : Nat) : logState (servePass s m inst src idx sub) = logState s := by
  unfold servePass; split <;> simp
@[simp] theorem watch_logState (high : Bool) (s : State) (idx sub old v : Nat) : logState (watch high s idx sub old v) = logState s := by
  unfold watch; simp
@[simp] theorem setMotorState_logState (s : State) (m v : Nat) : logState (setMotorState s m v) = logState s := (rfl)
@[simp] theorem startRamp_logState (s : State) (m : Nat) (v : Int) (d : Nat) : logState (startRamp s m v d) = logState s := (rfl)
@[simp] theorem unlock_logState (s : State) (m : Nat) : logState (unlock s m) = logState s := by unfold unlock; simp
@[simp] theorem rampStop_logState (s : State) (m : Nat) : logState (rampStop s m) = logState s := by unfold rampStop; simp
@[simp] theorem setHomed_logState (s : State) (a : Nat) (b : Bool) : logState (setHomed s a b) = logState s := (rfl)
@[simp] theorem settlePosition_logState (s : State) (a : Nat) (pos : Int) (steps : Nat) : logState (settlePosition s a pos steps) = logState s
    := (rfl)
@[simp] theorem hardStop_logState (s : State) (a : Nat) : logState (hardStop s a) = logState s := by
  unfold hardStop; simp only; (repeat' split) <;> simp
@[simp] theorem slowStop_logState (s : State) (a : Nat) (dec : Option Nat) : logState (slowStop s a dec) = logState s := by
  unfold slowStop; simp only; (repeat' split) <;> simp
@[simp] theorem rampedStop_logState (s : State) (a : Nat) : logState (rampedStop s a) = logState s := by unfold rampedStop; simp
@[simp] theorem outputOff_logState (s : State) (n : Nat) : logState (outputOff s n) = logState s := by unfold outputOff; simp
@[simp] theorem loopOffNow_logState (s : State) (n : Nat) : logState (loopOffNow s n) = logState s := by unfold loopOffNow; simp
@[simp] theorem softStart_logState (s : State) (n : Nat) : logState (softStart s n) = logState s := by unfold softStart; simp
@[simp] theorem selectBank_logState (s : State) (n b : Nat) : logState (selectBank s n b) = logState s := (rfl)
@[simp] theorem restLanes_logState (s : State) (n : Nat) : logState (restLanes s n) = logState s := (rfl)
@[simp] theorem setLinkState_logState (s : State) (n v : Nat) : logState (setLinkState s n v) = logState s := by unfold setLinkState; simp
@[simp] theorem sendLspi_logState (s : State) (n : Nat) (l : List Nat) : logState (sendLspi s n l) = logState s := (rfl)
@[simp] theorem linkBegin_logState (s : State) (n : Nat) (rep serve : Bool) : logState (linkBegin s n rep serve) = logState s := by
  unfold linkBegin; simp
@[simp] theorem linkUp_logState (s : State) (n : Nat) (serve : Bool) : logState (linkUp s n serve) = logState s := by unfold linkUp; simp
@[simp] theorem updateFreeboard_logState (s : State) (n : Nat) : logState (updateFreeboard s n) = logState s := by unfold updateFreeboard; simp
@[simp] theorem setDecoder_logState (s : State) (n v : Nat) : logState (setDecoder s n v) = logState s := (rfl)
@[simp] theorem dropPlane_logState (s : State) (n state : Nat) : logState (dropPlane s n state) = logState s := (rfl)
@[simp] theorem emptyFifo_logState (s : State) (n : Nat) : logState (emptyFifo s n) = logState s := by unfold emptyFifo; simp
@[simp] theorem stopRaster_logState (s : State) (n : Nat) : logState (stopRaster s n) = logState s := by unfold stopRaster; simp
@[simp] theorem phaseLost_logState (s : State) (k : Nat) : logState (phaseLost s k) = logState s := by unfold phaseLost; simp
@[simp] theorem holdOff_logState (s : State) (k : Nat) : logState (holdOff s k) = logState s := by unfold holdOff; simp
@[simp] theorem holdUnlit_logState (s : State) : logState (holdUnlit s) = logState s := by unfold holdUnlit; simp
@[simp] theorem putFrame_logState (s : State) (p : Nat) (o : Outgoing) : logState (putFrame s p o) = logState s := by unfold putFrame; simp
@[simp] theorem sendFrame_logState (s : State) (p type dst : Nat) (payload : List Byte) : logState (sendFrame s p type dst payload) = logState s
    := by
  unfold sendFrame; simp
@[simp] theorem broadcast_logState (s : State) (ports : List Nat) (type : Nat) (payload : List Byte) :
  logState (broadcast s ports type payload) = logState s := by
  unfold broadcast; simp
@[simp] theorem modeFrames_logState (s : State) (new old : Mode) (cause : Nat) (awake : List Nat) :
  logState (modeFrames s new old cause awake) = logState s := by
  unfold modeFrames; simp
@[simp] theorem recordMode_logState (s : State) (new : Mode) (cause : Nat) : logState (recordMode s new cause) = logState s := by
  unfold recordMode; simp
@[simp] theorem sayMode_logState (s : State) (ports : List Nat) : logState (sayMode s ports) = logState s := by unfold sayMode; simp
@[simp] theorem loopModeOff_logState (s : State) (n : Nat) : logState (loopModeOff s n) = logState s := by unfold loopModeOff; simp
@[simp] theorem loopModeOn_logState (s : State) (b n : Nat) : logState (loopModeOn s b n) = logState s := by unfold loopModeOn; simp
@[simp] theorem rampMotors_logState (s : State) : logState (rampMotors s) = logState s := by unfold rampMotors; simp
@[simp] theorem rampAxes_logState (s : State) : logState (rampAxes s) = logState s := by unfold rampAxes; simp
@[simp] theorem rasterOff_logState (s : State) : logState (rasterOff s) = logState s := by unfold rasterOff; simp
@[simp] theorem serviceOff_logState (s : State) : logState (serviceOff s) = logState s := by unfold serviceOff; simp
theorem intoStandby_logState (s : State) {old : Mode} (h : old ≠ .doze) : logState (intoStandby s old) = logState s := by
  simp [intoStandby, h]
@[simp] theorem settlePending_logState (s : State) : logState (settlePending s) = logState s := by unfold settlePending; split <;> simp
@[simp] theorem programRecord_logState (s : State) (k : Nat) (l : List (List Byte)) (r : JRecord) :
  logState (programRecord s k l r) = logState s := (rfl)
@[simp] theorem writeJournal_logState (s : State) (r : JRecord) : logState (writeJournal s r) = logState s := by unfold writeJournal; simp
@[simp] theorem putReasons_logState (s : State) (l : List Nat) : logState (putReasons s l) = logState s := by unfold putReasons; simp
@[simp] theorem clearFailures_logState (s : State) : logState (clearFailures s) = logState s := by unfold clearFailures; simp
@[simp] theorem resumeMirror_logState (s : State) : logState (resumeMirror s) = logState s := by
  unfold resumeMirror
  simp only
  split
  · rfl
  · exact (foldl_logState _ _ _ mirrorWrite_logState).trans rfl
@[simp] theorem lateEntries_logState (s : State) : logState (lateEntries s) = logState s := by unfold lateEntries; split <;> simp
@[simp] theorem passResets_logState (s : State) : logState (passResets s) = logState s := by unfold passResets; simp

theorem causes_of_logState {s t : State} (h : logState t = logState s) : t.log.causes = s.log.causes := congrArg LogState.log_causes h

theorem ready_of_logState {s t : State} (h : logState t = logState s) : t.log.ready = s.log.ready := congrArg LogState.log_ready h

/-! ## The entry to SAFESTOP (R47, R561) -/

@[simp] theorem dozeToSafestop_modeView (s : State) : modeView (dozeToSafestop s) = modeView s := by simp [dozeToSafestop, dozeRailsOn]

/-- The row of the entry, with SAFE_N asserted, no target pending and the entry under way. -/
theorem safestopEnter_modeView (s : State) (c : Nat) : modeView (safestopEnter s c) =
    ({ s.md with pending := none, entering := true, ackHeld := false, mode := .safestop, previous := s.md.mode, dozing := false, waking := false },
      true, c) := by
  have quiet : (satLog 16 (if c = 1 then recordCause s c else causeAdd (recordCause s c) c entryInst) 0x2400 5).md = s.md := by
    apply md_of_modeView
    split <;> simp
  simp [safestopEnter, recordMode_modeView, quiet]

theorem safestopEnter_row (s : State) (c : Nat) : (safestopEnter s c).md.mode = .safestop := by
  rw [(modeView_eq_iff.1 (safestopEnter_modeView s c)).1]

/-- Where a trigger starts an entry (R48). -/
theorem safestop_of_operating {s : State} (hk : s.md.mode ≠ .kickoff) (ht : s.md.mode ≠ .terp) (hs : s.md.mode ≠ .safestop)
    (hd : s.md.mode ≠ .shutdown) (c : Nat) : safestop s c = safestopEnter s c := by
  unfold safestop
  split <;> simp_all

/-- Where a trigger is only recorded (R48). -/
theorem safestop_of_masked {s : State} (h : s.md.mode = .kickoff ∨ s.md.mode = .terp ∨ s.md.mode = .safestop ∨ s.md.mode = .shutdown) (c : Nat) :
    safestop s c = recordCause s c := by
  rcases h with h | h | h | h <;> simp [safestop, h]

/-! ## A kick-off that fails (R127) -/

/-- The list of reasons is set place by place. -/
theorem get_putReasons (s : State) (l : List Nat) {k : Nat} (h : k < 8) : get (putReasons s l) 0x2030 (3 + k) = l.getD k 0 := by
  unfold putReasons forEach
  interval_cases k <;> simp (disch := decide) [List.range_succ, get_put_other, get_put_same]

theorem get_putReasons_counter (s : State) (l : List Nat) : get (putReasons s l) 0x2030 1 = get s 0x2030 1 := by
  simp (disch := decide) [putReasons, forEach, List.range_succ, get_put_other]

/-- The journal's state is all that a record shows in the objects. -/
theorem get_writeJournal (s : State) (r : JRecord) {j : Nat} (h : keyOf 0x2030 j ≠ keyOf 0x2030 0x0B) :
    get (writeJournal s r) 0x2030 j = get s 0x2030 j := by
  unfold writeJournal
  simp only
  split
  · exact get_put_other s _ h
  split
  · exact get_put_other s _ h
  split <;> rfl

/-- Nothing but the objects, the flash, the log block, the network's queues and what has been sent out differs. -/
def SameButRecords (s t : State) : Prop := t = { s with dict := t.dict, flash := t.flash, log := t.log, net := t.net, out := t.out }

theorem SameButRecords.trans {s t u : State} (h : SameButRecords s t) (k : SameButRecords t u) : SameButRecords s u := by
  unfold SameButRecords at *
  rw [k, h]

theorem SameButLog.records {s t : State} (h : SameButLog s t) : SameButRecords s t := by
  unfold SameButLog at h
  unfold SameButRecords
  rw [h]

theorem put_sameButRecords (s : State) (i j v : Nat) : SameButRecords s (put s i j v) := rfl

theorem SameButRecords.foldl {α : Type} (l : List α) (f : State → α → State) (h : ∀ u x, SameButRecords u (f u x)) (s : State) :
    SameButRecords s (l.foldl f s) := by
  induction l generalizing s with
  | nil => rfl
  | cons a r ih => exact .trans (h s a) (ih (f s a))

theorem putReasons_sameButRecords (s : State) (l : List Nat) : SameButRecords s (putReasons s l) :=
  .foldl _ _ (fun u k => put_sameButRecords u 0x2030 (3 + k) (l.getD k 0)) s

theorem writeJournal_sameButRecords (s : State) (r : JRecord) : SameButRecords s (writeJournal s r) := by
  unfold writeJournal
  simp only
  split
  · rfl
  split
  · rfl
  split <;> rfl

/-- What a failure writes down before the off-sequence: counter, reasons, log, journal. -/
def failNoted (s : State) (reason detail : Nat) : State :=
  writeJournal (log (putReasons (put s 0x2030 1 (min 8 (failures s + 1))) (reason :: reasonList s)) clsFault 1 1 255 0x2030 3 none reason)
    { kind := 1, reason := reason, counter := min 8 (failures s + 1), step := failStep s reason, boot := bootCount s, detail := detail }

theorem failKickoff_eq {s : State} (hmode : s.md.mode = .kickoff) (hfail : s.kick.failed = none) (hrun : s.reset_.running = false)
    (reason detail : Nat) :
    failKickoff s reason detail =
      let t := failNoted s reason detail
      let u := { t with kick := { t.kick with failed := some reason }, clk := { t.clk with relock := none }, reset_ := { running := true } }
      if anyRailOn u then beginOff u .kickoffFail else { u with seq := { u.seq with state := 0, why := .none } } := by
  unfold failKickoff
  rw [if_neg (by simp [hmode, hfail, hrun])]
  rfl

theorem failNoted_counter (s : State) (reason detail : Nat) : get (failNoted s reason detail) 0x2030 1 = min 8 (get s 0x2030 1 + 1) := by
  rw [failNoted, get_writeJournal _ _ (by decide), (log_sameButLog _ _ _ _ _ _ _ _ _).get 1 rfl, get_putReasons_counter, get_put_same _ _ _ rfl]
  rfl

theorem failNoted_reason (s : State) (reason detail : Nat) {k : Nat} (h : k < 8) :
    get (failNoted s reason detail) 0x2030 (3 + k) = (reason :: reasonList s).getD k 0 := by
  rw [failNoted, get_writeJournal _ _ (by unfold keyOf; omega), (log_sameButLog _ _ _ _ _ _ _ _ _).get _ rfl, get_putReasons _ _ h]

theorem failNoted_sameButRecords (s : State) (reason detail : Nat) : SameButRecords s (failNoted s reason detail) :=
  .trans (put_sameButRecords s _ _ _) (.trans (putReasons_sameButRecords _ _)
    (.trans (log_sameButLog _ _ _ _ _ _ _ _ _).records (writeJournal_sameButRecords _ _)))

/-- What a failure of kick-off shows (R127): the counter, the reasons, the off-sequence, and the mode, the rails and the sheets as they were. -/
def FailShown (reason : Nat) (s t : State) : Prop :=
  get t 0x2030 1 = min 8 (get s 0x2030 1 + 1) ∧ get t 0x2030 3 = reason ∧ (∀ k, k < 7 → get t 0x2030 (4 + k) = get s 0x2030 (3 + k)) ∧
    t.kick.failed = some reason ∧ t.reset_.running = true ∧ (anyRailOn s = true → t.seq.state = 3 ∧ t.seq.why = .kickoffFail) ∧
    t.md = s.md ∧ t.rails = s.rails ∧ t.sheets = s.sheets

theorem failKickoff_shows {s : State} (hmode : s.md.mode = .kickoff) (hfail : s.kick.failed = none) (hrun : s.reset_.running = false)
    (reason detail : Nat) : FailShown reason s (failKickoff s reason detail) := by
  have hcounter := failNoted_counter s reason detail
  have hreasons := fun k => failNoted_reason s reason detail (k := k)
  have hframe := failNoted_sameButRecords s reason detail
  rw [failKickoff_eq hmode hfail hrun]
  generalize failNoted s reason detail = t at hcounter hreasons hframe
  have hrails : t.rails = s.rails := by rw [hframe]
  have hmd : t.md = s.md := by rw [hframe]
  have hsheets : t.sheets = s.sheets := by rw [hframe]
  have hshift (k : Nat) (hk : k < 7) : get t 0x2030 (4 + k) = get s 0x2030 (3 + k) := by
    have := hreasons (k + 1) (by omega)
    rw [show 3 + (k + 1) = 4 + k by omega] at this
    rw [this]
    have : k < 8 := by omega
    simp [reasonList, this]
  have hany : anyRailOn t = anyRailOn s := anyRailOn_congr hrails
  clear hframe
  extract_lets _ u
  split
  next h => exact ⟨hcounter, hreasons 0 (by omega), hshift, rfl, rfl, fun _ => ⟨rfl, rfl⟩, hmd, hrails, hsheets⟩
  next h => exact ⟨hcounter, hreasons 0 (by omega), hshift, rfl, rfl, fun hs => absurd (hany.trans hs) h, hmd, hrails, hsheets⟩

/-! ## The ring (R570) -/

theorem SameButLog.foldl {α : Type} (l : List α) (f : State → α → State) (h : ∀ u x, SameButLog u (f u x)) (s : State) :
    SameButLog s (l.foldl f s) := by
  induction l generalizing s with
  | nil => exact .refl s
  | cons a r ih => exact .trans (h s a) (ih (f s a))

/-- The ring starts on a log block of which only the next sequence and the mirror's state may have been set. -/
theorem ringStart_eq (s : State) (h : s.log.ready = false) : ∃ t : State, SameButLog s t ∧
    ringStart s = t.log.early.reverse.foldl ringWrite { t with log := { t.log with ready := true, early := [] } } := by
  unfold ringStart
  rw [if_neg (by simp [h])]
  extract_lets latest t u
  have ht : SameButLog s t := by
    simp only [t]
    split
    · exact putLog_sameButLog _ _ _ _
    · exact .refl s
  refine ⟨u, ?_, rfl⟩
  simp only [u]
  split
  · exact ht
  · exact .trans ht (putLog_sameButLog _ _ _ _)

theorem ringStart_sameButLog (s : State) : SameButLog s (ringStart s) := by
  cases h : s.log.ready
  · obtain ⟨t, ht, heq⟩ := ringStart_eq s h
    rw [heq]
    exact .trans (.trans ht (sameButLog_mk t _ t.net t.out)) (.foldl _ _ ringWrite_sameButLog _)
  · simp [ringStart, h, SameButLog.refl]

theorem ringStart_ready (s : State) : (ringStart s).log.ready = true := by
  cases h : s.log.ready
  · obtain ⟨t, _, heq⟩ := ringStart_eq s h
    rw [heq]
    have kept := foldl_logState t.log.early.reverse ringWrite { t with log := { t.log with ready := true, early := [] } } ringWrite_logState
    exact ready_of_logState kept
  · simp [ringStart, h]

/-! ## The end of kick-off (R104 step 15) -/

theorem intoStandby_kickoff_modeView (s : State) : modeView (intoStandby s .kickoff) = (s.md, false, (modeView s).2.2) := by
  have released : modeView { s with pins := { s.pins with safeN := false } } = (s.md, false, (modeView s).2.2) := rfl
  simp [intoStandby, released]

/-- The entry to STANDBY out of KICKOFF with no target pending beyond it. -/
theorem enterMode_standby_kickoff {s : State} (h : s.md.mode = .kickoff) (c : Nat) :
    (enterMode s .standby c).md.mode = .standby ∧ (enterMode s .standby c).md.previous = .kickoff ∧ get (enterMode s .standby c) 0x2000 5 = c ∧
      (enterMode s .standby c).pins.safeN = false ∧ logState (enterMode s .standby c) = logState s := by
  obtain ⟨hmode, hprev, hcause⟩ := enterMode_row s .standby c
  refine ⟨hmode, hprev.trans h, hcause, ?_, ?_⟩
  · have hrec : (recordMode s .standby c).md.mode = .standby := by rw [(modeView_eq_iff.1 (recordMode_modeView s .standby c)).1]
    have hview : modeView (modeActions (recordMode s .standby c) s.md.mode) = ((recordMode s .standby c).md, false, c) := by
      rw [modeActions_standby hrec, h, intoStandby_kickoff_modeView]
      simp [recordMode_modeView]
    have heq : enterMode s .standby c = settlePending (holdUnlit (sayMode (modeActions (recordMode s .standby c) s.md.mode)
      (livePorts (modeActions (recordMode s .standby c) s.md.mode)))) := by simp [enterMode]
    obtain ⟨p, hp⟩ := settlePending_modeView (holdUnlit (sayMode (modeActions (recordMode s .standby c) s.md.mode)
      (livePorts (modeActions (recordMode s .standby c) s.md.mode))))
    rw [holdUnlit_modeView, sayMode_modeView, hview, ← heq] at hp
    exact (modeView_eq_iff.1 hp).2.1
  · have hrec : (recordMode s .standby c).md.mode = .standby := by rw [(modeView_eq_iff.1 (recordMode_modeView s .standby c)).1]
    simp [enterMode, modeActions_standby hrec, intoStandby_logState _ (show s.md.mode ≠ .doze by simp [h])]

theorem causesAtEnd_of_none {s : State} (h : s.log.causes = []) : causesAtEnd s = s := by simp [causesAtEnd, h]

/-- A trigger in STANDBY enters SAFESTOP. -/
theorem safestop_standby_mode {s : State} (h : s.md.mode = .standby) (c : Nat) : (safestop s c).md.mode = .safestop := by
  rw [safestop_of_operating (by simp [h]) (by simp [h]) (by simp [h]) (by simp [h]), safestopEnter_row]

theorem causesAtEnd_mode {s : State} (h : s.md.mode = .standby) : (causesAtEnd s).md.mode = .standby ∨ (causesAtEnd s).md.mode = .safestop := by
  unfold causesAtEnd
  split
  · exact .inl h
  split
  · exact .inr (safestop_standby_mode h _)
  split <;> exact .inr (safestop_standby_mode h _)

/-- The work of step 15 before STANDBY is entered. -/
def kickoffEnded (s : State) : State :=
  let t := clearFailures (put (put s 0x2020 1 15) 0x2020 2 (pressTime s))
  resumeMirror { t with log := { t.log with eraseFrom := some s.time } }

theorem finishKickoff_eq (s : State) : finishKickoff s = causesAtEnd (lateEntries (passResets (enterMode (kickoffEnded s) .standby 2))) := rfl

theorem kickoffEnded_modeView (s : State) : modeView (kickoffEnded s) = modeView s := by simp [kickoffEnded]

theorem kickoffEnded_logState (s : State) : logState (kickoffEnded s) = logState s := by simp [kickoffEnded]

/-- Kick-off ends in STANDBY, or, where a cause persists, in SAFESTOP behind it. -/
theorem finishKickoff_shows {s : State} (h : s.md.mode = .kickoff) :
    ((finishKickoff s).md.mode = .standby ∨ (finishKickoff s).md.mode = .safestop) ∧
      (s.log.causes = [] → (finishKickoff s).md.mode = .standby ∧ (finishKickoff s).md.previous = .kickoff ∧
        get (finishKickoff s) 0x2000 5 = 2 ∧ (finishKickoff s).pins.safeN = false) := by
  rw [finishKickoff_eq]
  have hmode : (kickoffEnded s).md.mode = .kickoff := by rw [md_of_modeView (kickoffEnded_modeView s), h]
  obtain ⟨hrow, hprev, hcause, hsafe, hlog⟩ := enterMode_standby_kickoff hmode 2
  generalize enterMode (kickoffEnded s) .standby 2 = u at *
  have hend : modeView (lateEntries (passResets u)) = (u.md, false, 2) := by
    have quiet : modeView (lateEntries (passResets u)) = modeView u := by simp
    rw [quiet, modeView_eq_iff]
    exact ⟨rfl, hsafe, hcause⟩
  have hlogs : logState (lateEntries (passResets u)) = logState s := by
    have quiet : logState (lateEntries (passResets u)) = logState u := by simp
    rw [quiet, hlog, kickoffEnded_logState]
  obtain ⟨hmd, hsafe', hcause'⟩ := modeView_eq_iff.1 hend
  generalize lateEntries (passResets u) = w at *
  refine ⟨causesAtEnd_mode (by rw [hmd, hrow]), fun hnone => ?_⟩
  have hcauses : w.log.causes = [] := (causes_of_logState hlogs).trans hnone
  rw [causesAtEnd_of_none hcauses, hmd]
  exact ⟨hrow, hprev, hcause', hsafe'⟩

/-! ## The obligation -/

/-- The press as step 15 finds it where no partner is still EXPECTED. -/
theorem rollcallDone_shows {s : State} (h : s.md.mode = .kickoff) :
    ((rollcallDone s).md.mode = .standby ∨ (rollcallDone s).md.mode = .safestop) ∧
      (s.log.causes = [] → (rollcallDone s).md.mode = .standby ∧ (rollcallDone s).md.previous = .kickoff ∧
        get (rollcallDone s) 0x2000 5 = 2 ∧ (rollcallDone s).pins.safeN = false) := by
  unfold rollcallDone
  exact finishKickoff_shows (s := put (put s 0x1100 7 4) 0x1100 8 (pressTime s)) h

/-- A trigger that is only recorded changes no mode. -/
theorem safestop_masked_modeView {s : State} (h : s.md.mode = .kickoff ∨ s.md.mode = .terp ∨ s.md.mode = .safestop ∨ s.md.mode = .shutdown) (c : Nat) :
    modeView (safestop s c) = modeView s := by
  rw [safestop_of_masked h, recordCause_modeView]

/-- A partner that becomes ABSENT during kick-off is a cause at most. -/
theorem absentNow_kickoff {s : State} (h : s.md.mode = .kickoff) (n : Nat) : (absentNow s n).md.mode = .kickoff := by
  have goes : (partnerGoes s n 3).md.mode = .kickoff := by
    have quiet : modeView (partnerTo (partnerHoldEnds s n) n 3).1 = modeView s := by simp
    have hmode : (partnerTo (partnerHoldEnds s n) n 3).1.md.mode = .kickoff := by rw [md_of_modeView quiet, h]
    simp only [partnerGoes, true_or, if_true, onPartner]
    generalize partnerTo (partnerHoldEnds s n) n 3 = r at hmode
    split
    · have hcause : (causeAdd r.1 0x0C (partnerCause n)).md.mode = .kickoff := by rw [md_of_modeView (causeAdd_modeView _ _ _), hmode]
      rw [safestopBy, md_of_modeView (safestop_masked_modeView (.inl hcause) _), hcause]
    · exact hmode
  unfold absentNow
  split
  · rw [md_of_modeView (noticeAlone_modeView _ _ _ _), goes]
  · exact goes

theorem foldl_absentNow_kickoff (l : List Nat) {s : State} (h : s.md.mode = .kickoff) : (l.foldl absentNow s).md.mode = .kickoff := by
  induction l generalizing s with
  | nil => exact h
  | cons a r ih => exact ih (absentNow_kickoff h a)

/-- The roll-call's rounds are over on every port. -/
def roundsOver (s : State) : State := forEach (List.range 7) (fun u p => setPort u p fun x => { x with round := 3, polled := none }) s

theorem roundsOver_modeView (s : State) : modeView (roundsOver s) = modeView s := by simp [roundsOver]

theorem roundsOver_logState (s : State) : logState (roundsOver s) = logState s := by simp [roundsOver]

/-- KICKOFF_STEP_COMPLETE of the step that is due. -/
theorem exec_kickoffStep {s : State} (hon : s.powered = true) (hmode : s.md.mode = .kickoff) (hrun : s.reset_.running = false) (hhold : s.hold = .none)
    {r : KickResult} (hdue : get s 0x2020 1 + 1 = stepOf r) : exec (.kickoffStepComplete r) s = .next (settle (stepDone s r)) := by
  simp [exec, execKickoffStepComplete, hon, hmode, hrun, hhold, kickStep, hdue, done]

/-- The step made is n, and mode, sheets and rails are as they were. -/
def Gives (s : State) (n : Nat) (t : State) : Prop := get t 0x2020 1 = n ∧ t.md = s.md ∧ t.sheets = s.sheets ∧ t.rails = s.rails

theorem gives_put {s t : State} (n : Nat) (hmd : t.md = s.md) (hsheets : t.sheets = s.sheets) (hrails : t.rails = s.rails) :
    Gives s n (put t 0x2020 1 n) := ⟨get_put_same _ _ _ rfl, hmd, hsheets, hrails⟩

theorem SameButLog.gives_put {s t : State} (h : SameButLog s t) (n : Nat) : Gives s n (put t 0x2020 1 n) :=
  Machine.gives_put n h.md h.sheets h.rails

theorem Gives.sameButLog {s t u : State} {n : Nat} (h : Gives s n t) (k : SameButLog t u) : Gives s n u := by
  obtain ⟨hstep, hmd, hsheets, hrails⟩ := h
  exact ⟨(k.get 1 rfl).trans hstep, k.md.trans hmd, k.sheets.trans hsheets, k.rails.trans hrails⟩

theorem stepReference_shows (s : State) : Gives s (if s.seq.state = 2 then 5 else 4) (stepReference s true) := by
  have passed := servePass_sameButLog (holdTime { s with clk := { s.clk with onReference := true, refLost := false } }) .reference 255 3 0x2200 0x0B
  unfold stepReference
  rw [if_pos rfl]
  extract_lets _ t
  have hseq : t.seq = s.seq := passed.seq
  rw [hseq]
  exact gives_put _ passed.md passed.sheets passed.rails

/-- A signed value that fits is read back as it was set (R54). -/
theorem sInt_sImg {w : Nat} {v : Int} (hlow : -2 ^ w ≤ v) (hhigh : v < 2 ^ w) : sInt (w + 1) (sImg (w + 1) v) = v := by
  have hpow : (2 : Int) ^ (w + 1) = 2 * 2 ^ w := by ring
  have hcast : ((2 ^ (w + 1) : Nat) : Int) = 2 * 2 ^ w := by push_cast; exact hpow
  have himg : (sImg (w + 1) v : Int) = v % (2 * 2 ^ w) := by
    unfold sImg
    rw [hcast, Int.toNat_of_nonneg (Int.emod_nonneg _ (by positivity))]
  have hmod : ((sImg (w + 1) v % 2 ^ (w + 1) : Nat) : Int) = v % (2 * 2 ^ w) := by
    rw [Int.natCast_mod, himg, hcast, Int.emod_emod]
  have hlt : (sImg (w + 1) v % 2 ^ (w + 1) < 2 ^ (w + 1 - 1)) ↔ v % (2 * 2 ^ w) < 2 ^ w := by
    rw [← hmod, Nat.add_sub_cancel]
    exact_mod_cast Iff.rfl
  unfold sInt
  rw [hcast, hmod]
  simp only [hlt]
  rcases lt_or_ge v 0 with hneg | hpos
  · have hwrap : v % (2 * 2 ^ w) = v + 2 * 2 ^ w := by
      rw [← Int.add_emod_right, Int.emod_eq_of_lt (by omega) (by omega)]
    rw [hwrap, if_neg (by omega)]
    omega
  · have hsame : v % (2 * 2 ^ w) = v := Int.emod_eq_of_lt hpos (by omega)
    rw [hsame, if_pos hhigh]

theorem stepCore_shows (s : State) {tj : Int} (hlow : -32768 ≤ tj) (hhigh : tj ≤ 1500) :
    Gives s 6 (stepCore s tj) ∧ (stepCore s tj).pins.rstLow = false ∧ getS (stepCore s tj) 16 0x7010 1 = tj := by
  unfold stepCore
  rw [if_neg (by omega)]
  refine ⟨gives_put 6 rfl rfl rfl, rfl, ?_⟩
  simp (disch := decide) only [getS, putS, get_put_other, get_put_same]
  exact sInt_sImg (w := 15) hlow (by omega)

theorem stepDram_shows {s : State} (h : strap s 7 ≠ 3) (second : Bool) :
    Gives s 13 (stepDram s true second) ∧ (stepDram s true second).mem.trained = true := by
  unfold stepDram
  rw [if_neg h, if_pos rfl]
  exact ⟨gives_put 13 rfl rfl rfl, rfl⟩

theorem stepStraps_shows {s : State} {v1 v2 : List (Option Nat)} (hsame : strapLevels s.fresh v1 = strapLevels (s.fresh + 12) v2)
    (h1 : (strapLevels (s.fresh + 12) v2).getD 1 0 ≠ 3) (h5 : (strapLevels (s.fresh + 12) v2).getD 5 0 ≠ 3)
    (h11 : (strapLevels (s.fresh + 12) v2).getD 11 0 ≠ 1) :
    Gives s 2 (stepStraps s v1 v2 false) ∧ (stepStraps s v1 v2 false).kick.straps = strapLevels (s.fresh + 12) v2 := by
  unfold stepStraps
  extract_lets first second _ t u _
  have hstraps (k : Nat) : strap t k = second.getD k 0 := rfl
  have hlevels : ¬(strap t 1 = 3 ∨ strap t 5 = 3 ∨ strap t 11 = 1 ∨ false = true) := by
    rw [hstraps, hstraps, hstraps]
    rintro (h | h | h | h)
    · exact h1 h
    · exact h5 h
    · exact h11 h
    · exact Bool.noConfusion h
  have hopen : u.md = s.md ∧ u.sheets = s.sheets ∧ u.rails = s.rails ∧ u.kick.straps = second := by
    simp only [u, debugStart]
    split <;> exact ⟨rfl, rfl, rfl, rfl⟩
  obtain ⟨hmd, hsheets, hrails, hkick⟩ := hopen
  rw [if_neg (fun h : first ≠ second => h hsame), if_neg hlevels]
  exact ⟨gives_put 2 hmd hsheets hrails, hkick⟩

theorem endOn_shows {s : State} (hmode : s.md.mode = .kickoff) (hstep : get s 0x2020 1 = 4) (hstate : s.seq.state = 1) (hdoze : s.seq.dozeRails = false)
    (hdone : sequenceDone s = true) : Gives s 5 (endOn s true) ∧ (endOn s true).seq.state = 2 := by
  unfold endOn
  rw [if_pos ⟨hstate, by simp [hdoze], hdone, rfl⟩]
  extract_lets t
  rw [if_pos ⟨hmode, hstep⟩]
  exact ⟨gives_put 5 rfl rfl rfl, rfl⟩

theorem stepImage_shows {s : State} (hnone : noImage s.flash = true) (hstrap : strap s 5 = 0) :
    Gives s 9 (stepImage s) ∧ get (stepImage s) 0x2020 3 = 0 := by
  have logged := logEvent_sameButLog (put s 0x2020 3 0) clsNotice 1 255 0x2020 3
  have heq : takeImage s = (logEvent (put s 0x2020 3 0) clsNotice 1 255 0x2020 3, 0) := by
    unfold takeImage
    simp [hnone, hstrap]
  rw [stepImage, heq]
  refine ⟨gives_put 9 logged.md logged.sheets logged.rails, ?_⟩
  rw [if_pos rfl, get_put_other _ _ (by decide), logged.get 3 rfl, get_put_same _ _ _ rfl]

/-- Settles O11: a failure is `failKickoff_shows`, each step its own lemma, and the end `rollcallDone_shows`. -/
theorem kickoffCourse : Obligations.KickoffCourse := by
  unfold Obligations.KickoffCourse
  refine ⟨fun s hon hmode hfail hrun hhold => ⟨?_, fun hstep => ?_, fun hstep => ?_⟩, fun s hon hmode hrun hhold => ?_,
    fun s hmode hstep hrun hhold htime => ?_⟩
  · exact ⟨_, by simp [exec, execKickoffWatchdog, hon, done], failKickoff_shows hmode hfail hrun 9 0⟩
  · exact ⟨_, exec_kickoffStep hon hmode hrun hhold (by simp [hstep, stepOf]), failKickoff_shows hmode hfail hrun 3 0⟩
  · exact ⟨_, exec_kickoffStep hon hmode hrun hhold (by simp [hstep, stepOf]), failKickoff_shows hmode hfail hrun 4 0⟩
  · have due {r : KickResult} {k : Nat} (hstep : get s 0x2020 1 = k) (hk : k + 1 = stepOf r) :
        exec (.kickoffStepComplete r) s = .next (settle (stepDone s r)) := exec_kickoffStep hon hmode hrun hhold (hstep ▸ hk)
    refine ⟨fun hstep => ⟨_, due hstep rfl, stepReference_shows s⟩, fun hstep tj hlow hhigh => ⟨_, due hstep rfl, stepCore_shows s hlow hhigh⟩,
      fun hstep => ⟨_, due hstep rfl, gives_put 7 rfl rfl rfl⟩, fun hstep => ⟨_, due hstep rfl, ?_⟩, fun hstep hlock => ⟨_, due hstep rfl, ?_⟩,
      fun hstep => ⟨_, due hstep rfl, ?_⟩, fun hstep h7 => ⟨_, due hstep rfl, stepDram_shows h7 false⟩,
      fun v1 v2 => fun hstep hsame h1 h5 h11 => ⟨_, due hstep rfl, stepStraps_shows hsame h1 h5 h11⟩,
      fun hstep hstate hdoze hdone => ⟨_, due hstep rfl, endOn_shows hmode hstep hstate hdoze hdone⟩,
      fun hstep hnone h5 => ⟨_, due hstep rfl, stepImage_shows hnone h5⟩, fun r hr hother => ?_⟩
    · exact ⟨(gives_put 8 rfl rfl rfl).sameButLog (ringStart_sameButLog _), ringStart_ready _⟩
    · simp only [stepDone, hlock, if_true]
      exact gives_put 11 rfl rfl rfl
    · exact ⟨by simp (disch := decide) [stepDone, get_put_other, get_put_same], rfl, rfl, rfl⟩
    · simp [exec, execKickoffStepComplete, kickStep, hr, hother, done]
  · have hexec : exec .rollCallComplete s = .next (settle (rollcallDone (roundsOver (if nodeOnly s then s else (partnersIn s 1).foldl absentNow s)))) := by
      have hdue : (!nodeOnly s || decide (rollcallEnd s ≤ s.time)) = true := by
        cases hrole : nodeOnly s
        · rfl
        · simpa using htime hrole
      simp [exec, execRollCallComplete, hmode, kickStep, hstep, hrun, hhold, hdue, roundsOver, done]
    have habsent : (if nodeOnly s then s else (partnersIn s 1).foldl absentNow s).md.mode = .kickoff := by
      split
      · exact hmode
      · exact foldl_absentNow_kickoff _ hmode
    have hnone (h : partnersIn s 1 = []) : (if nodeOnly s then s else (partnersIn s 1).foldl absentNow s) = s := by simp [h]
    generalize (if nodeOnly s then s else (partnersIn s 1).foldl absentNow s) = t at hexec habsent hnone
    obtain ⟨hend, hquiet⟩ := rollcallDone_shows (s := roundsOver t) (by rw [md_of_modeView (roundsOver_modeView t), habsent])
    exact ⟨_, hexec, hend, fun hcauses hpartners => hquiet (by rw [causes_of_logState (roundsOver_logState t), hnone hpartners, hcauses])⟩

end Sys2Proof.Machine

/-! # The rails (R142 to R165) -/

namespace Sys2Proof.Machine

/-! ## What an entry to SAFESTOP leaves of the rails -/

/-- The store's part that kick-off, rails, clocks and memory have: keys of 2000:07 to 23FF. -/
def lowDict (d : Tab Nat) : Nat → Option Nat := fun k => if 0x200007 ≤ k ∧ k < 0x240000 then tabFind d k else none

theorem lowDict_tabSet (d : Tab Nat) {k : Nat} (v : Nat) (h : k < 0x200007 ∨ 0x240000 ≤ k) : lowDict (tabSet d k v) = lowDict d := by
  funext k'
  unfold lowDict
  split
  next hk => exact tabFind_tabSet_other d v (by omega)
  next => rfl

theorem get_of_lowDict {s t : State} (h : lowDict t.dict = lowDict s.dict) {i j : Nat} (hlow : 0x2001 ≤ i) (hhigh : i < 0x2400) (hj : j < 256) :
    get t i j = get s i j := by
  have hk : 0x200007 ≤ keyOf i j ∧ keyOf i j < 0x240000 := by unfold keyOf; omega
  have hlog : isLogIdx i = false := by simp [isLogIdx]; omega
  have hfind := congrFun h (keyOf i j)
  simp only [lowDict, hk, and_self, if_true] at hfind
  simp [get, hlog, hfind]

theorem get_modeBlock_of_lowDict {s t : State} (h : lowDict t.dict = lowDict s.dict) {j : Nat} (hlow : 7 ≤ j) (hj : j < 256) :
    get t 0x2000 j = get s 0x2000 j := by
  have hk : 0x200007 ≤ keyOf 0x2000 j ∧ keyOf 0x2000 j < 0x240000 := by unfold keyOf; omega
  have hfind := congrFun h (keyOf 0x2000 j)
  simp only [lowDict, hk, and_self, if_true] at hfind
  rw [get_dict _ _ rfl, get_dict _ _ rfl, hfind]

@[simp] theorem motIdx_above (m : Nat) : 0x2400 ≤ motIdx m := by unfold motIdx; omega
@[simp] theorem axIdx_above (a : Nat) : 0x2400 ≤ axIdx a := by unfold axIdx; omega
@[simp] theorem loopIdx_above (n : Nat) : 0x2400 ≤ loopIdx n := by unfold loopIdx; omega
@[simp] theorem ainIdx_above (n : Nat) : 0x2400 ≤ ainIdx n := by unfold ainIdx; omega
@[simp] theorem geoIdx_above (n : Nat) : 0x2400 ≤ geoIdx n := by unfold geoIdx; omega
@[simp] theorem linkIdx_above (n : Nat) : 0x2400 ≤ linkIdx n := by unfold linkIdx; omega
@[simp] theorem fifoIdx_above (n : Nat) : 0x2400 ≤ fifoIdx n := by unfold fifoIdx; omega
@[simp] theorem freeIdx_above (n : Nat) : 0x2400 ≤ freeIdx n := by unfold freeIdx; omega
@[simp] theorem decIdx_above (n : Nat) : 0x2400 ≤ decIdx n := by unfold decIdx; omega
@[simp] theorem resIdx_above (n : Nat) : 0x2400 ≤ resIdx n := by unfold resIdx; omega
@[simp] theorem trkIdx_above (n : Nat) : 0x2400 ≤ trkIdx n := by unfold trkIdx; omega
@[simp] theorem pinIdx_above (n : Nat) : 0x2400 ≤ pinIdx n := by unfold pinIdx; omega
@[simp] theorem tenIdx_above (n : Nat) : 0x2400 ≤ tenIdx n := by unfold tenIdx; omega

/-- What rails, kick-off, the flash and the low objects are. -/
structure PressView where
  rails : Tab Rail
  seq : Sequencer
  hold : Hold
  reset_ : ResetState
  kick : Kick
  flash : Flash
  lowDict : Nat → Option Nat

def pressView (s : State) : PressView :=
  ⟨s.rails, s.seq, s.hold, s.reset_, s.kick, s.flash, (lowDict s.dict)⟩

@[simp] theorem pressView_mk (time powered md kick hold reset_ seq rails clk net flash dict blobs staged stagedBlobs stagers armed accs sheets
    nextUid tenants coalescing mem stations trackers slots motors axes loops ains pins diag log heatTicks heatFrom out fresh pending) :
    pressView ⟨time, powered, md, kick, hold, reset_, seq, rails, clk, net, flash, dict, blobs, staged, stagedBlobs, stagers, armed, accs,
    sheets, nextUid, tenants, coalescing, mem, stations, trackers, slots, motors, axes, loops, ains, pins, diag, log, heatTicks, heatFrom, out,
    fresh, pending⟩ = ⟨rails, seq, hold, reset_, kick, flash, (lowDict dict)⟩ := rfl
@[simp] theorem pressView_self (s : State) :
    PressView.mk s.rails s.seq s.hold s.reset_ s.kick s.flash (lowDict s.dict) = pressView s := rfl

@[simp] theorem ite_pressView (c : Prop) [Decidable c] (a b : State) :
    pressView (if c then a else b) = if c then pressView a else pressView b := apply_ite pressView c a b
@[simp] theorem ite_pressView1 {α : Type} (c : Prop) [Decidable c] (a b : State × α) :
    pressView (if c then a else b).1 = if c then pressView a.1 else pressView b.1 := apply_ite (fun x : State × α => pressView x.1) c a b
@[simp] theorem foldl_pressView {α : Type} (l : List α) (f : State → α → State) (s : State)
    (h : ∀ u x, pressView (f u x) = pressView u) :
    pressView (l.foldl f s) = pressView s := foldl_view pressView l f s fun u x _ => h u x
@[simp] theorem forEach_pressView (l : List Nat) (f : State → Nat → State) (s : State)
    (h : ∀ u x, pressView (f u x) = pressView u) :
    pressView (forEach l f s) = pressView s := foldl_pressView l f s h
@[simp] theorem put_pressView (s : State) (i j v : Nat) (h : 0x2400 ≤ i) : pressView (put s i j v) = pressView s := by
  have hd : lowDict (put s i j v).dict = lowDict s.dict := lowDict_tabSet _ v (.inr (by unfold keyOf; omega))
  simp only [pressView, hd]
  rfl
@[simp] theorem put_pressView_first (s : State) (i j v : Nat) (h : i ≤ 0x2000) (hj : j ≤ 6) : pressView (put s i j v) = pressView s := by
  have hd : lowDict (put s i j v).dict = lowDict s.dict := lowDict_tabSet _ v (.inl (by unfold keyOf; omega))
  simp only [pressView, hd]
  rfl
@[simp] theorem putS_pressView (s : State) (w i j : Nat) (v : Int) (h : 0x2400 ≤ i) : pressView (putS s w i j v) = pressView s := put_pressView s i j _ h
@[simp] theorem putS_pressView_first (s : State) (w i j : Nat) (v : Int) (h : i ≤ 0x2000) (hj : j ≤ 6) : pressView (putS s w i j v) = pressView s := put_pressView_first s i j _ h hj
@[simp] theorem wrapBy_pressView (w : Nat) (s : State) (i j n : Nat) (h : 0x2400 ≤ i) : pressView (wrapBy w s i j n) = pressView s := put_pressView s i j _ h
@[simp] theorem wrapBy_pressView_first (w : Nat) (s : State) (i j n : Nat) (h : i ≤ 0x2000) (hj : j ≤ 6) : pressView (wrapBy w s i j n) = pressView s := put_pressView_first s i j _ h hj
@[simp] theorem satBy_pressView (w : Nat) (s : State) (i j n : Nat) (h : 0x2400 ≤ i) : pressView (satBy w s i j n) = pressView s := put_pressView s i j _ h
@[simp] theorem satBy_pressView_first (w : Nat) (s : State) (i j n : Nat) (h : i ≤ 0x2000) (hj : j ≤ 6) : pressView (satBy w s i j n) = pressView s := put_pressView_first s i j _ h hj
@[simp] theorem bump_pressView (s : State) (i j : Nat) (h : 0x2400 ≤ i) : pressView (bump s i j) = pressView s := put_pressView s i j _ h
@[simp] theorem bump_pressView_first (s : State) (i j : Nat) (h : i ≤ 0x2000) (hj : j ≤ 6) : pressView (bump s i j) = pressView s := put_pressView_first s i j _ h hj
@[simp] theorem sat_pressView (s : State) (i j : Nat) (h : 0x2400 ≤ i) : pressView (sat s i j) = pressView s := put_pressView s i j _ h
@[simp] theorem sat_pressView_first (s : State) (i j : Nat) (h : i ≤ 0x2000) (hj : j ≤ 6) : pressView (sat s i j) = pressView s := put_pressView_first s i j _ h hj
@[simp] theorem putBlob_pressView (s : State) (i j : Nat) (l : List Byte) : pressView (putBlob s i j l) = pressView s := (rfl)
@[simp] theorem putLog_pressView (s : State) (i j v : Nat) : pressView (putLog s i j v) = pressView s := (rfl)
@[simp] theorem wrapLog_pressView (w : Nat) (s : State) (i j : Nat) : pressView (wrapLog w s i j) = pressView s := (rfl)
@[simp] theorem satLog_pressView (w : Nat) (s : State) (i j : Nat) : pressView (satLog w s i j) = pressView s := (rfl)
@[simp] theorem emit_pressView (s : State) (o : Output) : pressView (emit s o) = pressView s := (rfl)
@[simp] theorem setStation_pressView (s : State) (n : Nat) (f : Station → Station) : pressView (setStation s n f) = pressView s := (rfl)
@[simp] theorem setTracker_pressView (s : State) (n : Nat) (f : Tracker → Tracker) : pressView (setTracker s n f) = pressView s := (rfl)
@[simp] theorem setMotor_pressView (s : State) (n : Nat) (f : Motor → Motor) : pressView (setMotor s n f) = pressView s := (rfl)
@[simp] theorem setAxis_pressView (s : State) (n : Nat) (f : Axis → Axis) : pressView (setAxis s n f) = pressView s := (rfl)
@[simp] theorem setLoop_pressView (s : State) (n : Nat) (f : Loop → Loop) : pressView (setLoop s n f) = pressView s := (rfl)
@[simp] theorem setTenant_pressView (s : State) (n : Nat) (f : Tenant → Tenant) : pressView (setTenant s n f) = pressView s := (rfl)
@[simp] theorem modSheet_pressView (s : State) (uid : Nat) (f : Sheet → Sheet) : pressView (modSheet s uid f) = pressView s := (rfl)

@[simp] theorem vector_pressView (s : State) (fn vec : Nat) : pressView (vector s fn vec) = pressView s := by unfold vector; simp
@[simp] theorem mirrorWrite_pressView (s : State) (e : Entry) : pressView (mirrorWrite s e) = pressView s := by
  unfold mirrorWrite; (repeat' split) <;> simp
@[simp] theorem ringWrite_pressView (s : State) (e : Entry) : pressView (ringWrite s e) = pressView s := by unfold ringWrite; simp
@[simp] theorem notice_pressView (s : State) (idx sub cls : Nat) : pressView (notice s idx sub cls) = pressView s := by unfold notice; simp
@[simp] theorem noticeAlone_pressView (s : State) (idx sub cls : Nat) : pressView (noticeAlone s idx sub cls) = pressView s := by
  unfold noticeAlone; simp
@[simp] theorem classVectors_pressView (s : State) (cls : Nat) : pressView (classVectors s cls) = pressView s := by unfold classVectors; simp
@[simp] theorem logOnly_pressView (s : State) (cls kind src inst idx sub : Nat) (serial : Option Nat) (detail : Nat) :
  pressView (logOnly s cls kind src inst idx sub serial detail) = pressView s := by
  unfold logOnly; simp
@[simp] theorem log_pressView (s : State) (cls kind src inst idx sub : Nat) (serial : Option Nat) (detail : Nat) :
  pressView (log s cls kind src inst idx sub serial detail) = pressView s := by
  unfold log; simp
@[simp] theorem logEvent_pressView (s : State) (cls src inst idx sub : Nat) : pressView (logEvent s cls src inst idx sub) = pressView s := by
  unfold logEvent; simp
@[simp] theorem serveDrop_pressView (s : State) (m : Mech) (inst : Nat) : pressView (serveDrop s m inst) = pressView s := (rfl)
@[simp] theorem serveBegin_pressView (s : State) (m : Mech) (inst code src idx sub : Nat) :
  pressView (serveBegin s m inst code src idx sub) = pressView s := by
  unfold serveBegin; simp
@[simp] theorem servePass_pressView (s : State) (m : Mech) (inst src idx sub : Nat) : pressView (servePass s m inst src idx sub) = pressView s
    := by
  unfold servePass; split <;> simp
@[simp] theorem doubleFaultAs_pressView (cls : Nat) (s : State) (m : Mech) (inst code src idx sub : Nat) :
  pressView (doubleFaultAs cls s m inst code src idx sub) = pressView s := by
  unfold doubleFaultAs; simp
@[simp] theorem serveCancel_pressView (s : State) (m : Mech) (inst src idx sub : Nat) : pressView (serveCancel s m inst src idx sub) = pressView
    s := by
  unfold serveCancel; split <;> simp
@[simp] theorem watch_pressView (high : Bool) (s : State) (idx sub old v : Nat) (h : 0x2400 ≤ idx) :
    pressView (watch high s idx sub old v) = pressView s := by
  simp [watch, h]
@[simp] theorem causeAdd_pressView (s : State) (c inst : Nat) : pressView (causeAdd s c inst) = pressView s := by unfold causeAdd; simp
@[simp] theorem setSlots_pressView (s : State) (l : Tab Event) : pressView (setSlots s l) = pressView s := by unfold setSlots; simp
@[simp] theorem dropEvents_pressView (s : State) (p : Event → Bool) : pressView (dropEvents s p) = pressView s := by unfold dropEvents; simp
@[simp] theorem writeEntry_pressView (s : State) (t : Nat) (l : List Byte) : pressView (writeEntry s t l) = pressView s := (rfl)
@[simp] theorem signalEntry_pressView (s : State) (t : Nat) : pressView (signalEntry s t) = pressView s := by unfold signalEntry; simp
@[simp] theorem writeSignal_pressView (s : State) (t : Nat) (h : Held) : pressView (writeSignal s t h) = pressView s := by unfold writeSignal; simp
@[simp] theorem deliver_pressView (s : State) (t : Nat) (h : Held) : pressView (deliver s t h) = pressView s := by unfold deliver; simp
@[simp] theorem countOutcome_pressView (s : State) (outcome : Nat) : pressView (countOutcome s outcome) = pressView s := by
  unfold countOutcome; simp
@[simp] theorem completion_pressView (s : State) (sh : Sheet) (outcome reason : Nat) (double : Bool) :
  pressView (completion s sh outcome reason double) = pressView s := by
  unfold completion; simp
@[simp] theorem toScrubbing_pressView (s : State) (t : Nat) : pressView (toScrubbing s t) = pressView s := by unfold toScrubbing; simp
@[simp] theorem ghostCheck_pressView (s : State) (t : Nat) : pressView (ghostCheck s t) = pressView s := by unfold ghostCheck; simp
@[simp] theorem removeSheet_pressView (s : State) (uid : Nat) : pressView (removeSheet s uid) = pressView s := by unfold removeSheet; simp
@[simp] theorem finishSheet_pressView (s : State) (sh : Sheet) : pressView (finishSheet s sh) = pressView s := by unfold finishSheet; simp
@[simp] theorem overtaken_pressView (s : State) (uid : Nat) : pressView (overtaken s uid) = pressView s := (rfl)
@[simp] theorem spoilAll_pressView (s : State) : pressView (spoilAll s) = pressView s := by unfold spoilAll; simp
@[simp] theorem setMotorState_pressView (s : State) (m v : Nat) : pressView (setMotorState s m v) = pressView s := by simp [setMotorState]
@[simp] theorem startRamp_pressView (s : State) (m : Nat) (v : Int) (d : Nat) : pressView (startRamp s m v d) = pressView s := (rfl)
@[simp] theorem spinUp_pressView (s : State) (m : Nat) : pressView (spinUp s m) = pressView s := by unfold spinUp; simp
@[simp] theorem unlock_pressView (s : State) (m : Nat) : pressView (unlock s m) = pressView s := by unfold unlock; simp
@[simp] theorem commandEntry_pressView (s : State) (m k : Nat) : pressView (commandEntry s m k) = pressView s := by unfold commandEntry; simp
@[simp] theorem brakeMotor_pressView (s : State) (m : Nat) : pressView (brakeMotor s m) = pressView s := by unfold brakeMotor; simp
@[simp] theorem setHomed_pressView (s : State) (a : Nat) (b : Bool) : pressView (setHomed s a b) = pressView s := by simp [setHomed]
@[simp] theorem settlePosition_pressView (s : State) (a : Nat) (pos : Int) (steps : Nat) : pressView (settlePosition s a pos steps) = pressView
    s := by
  simp [settlePosition]
@[simp] theorem toStandstill_pressView (s : State) (a : Nat) : pressView (toStandstill s a) = pressView s := (rfl)
@[simp] theorem runMove_pressView (s : State) (a : Nat) (m : Move) (wait : Nat) : pressView (runMove s a m wait) = pressView s := (rfl)
@[simp] theorem noMove_pressView (s : State) (a : Nat) : pressView (noMove s a) = pressView s := (rfl)
@[simp] theorem startMove_pressView (s : State) (a : Nat) (m : Move) : pressView (startMove s a m) = pressView s := by unfold startMove; simp
@[simp] theorem startGroup_pressView (s : State) (l : List (Nat × Move)) : pressView (startGroup s l) = pressView s := by unfold startGroup; simp
@[simp] theorem groupMove_pressView (s : State) (g r : Nat) : pressView (groupMove s g r) = pressView s := by unfold groupMove; split <;> simp
@[simp] theorem moveOverrun_pressView (s : State) (a : Nat) : pressView (moveOverrun s a) = pressView s := by unfold moveOverrun; simp
@[simp] theorem fireMove_pressView (s : State) (a r : Nat) : pressView (fireMove s a r).1 = pressView s := by
  unfold fireMove; simp only; (repeat' split) <;> simp
@[simp] theorem hardStop_pressView (s : State) (a : Nat) : pressView (hardStop s a) = pressView s := by
  unfold hardStop; simp only; (repeat' split) <;> simp
@[simp] theorem slowStop_pressView (s : State) (a : Nat) (dec : Option Nat) : pressView (slowStop s a dec) = pressView s := by
  unfold slowStop; simp only; (repeat' split) <;> simp
@[simp] theorem rampedStop_pressView (s : State) (a : Nat) : pressView (rampedStop s a) = pressView s := by unfold rampedStop; simp
@[simp] theorem stopAxis_pressView (s : State) (a : Nat) (hard : Bool) : pressView (stopAxis s a hard) = pressView s := by unfold stopAxis; simp
@[simp] theorem safestopAxis_pressView (s : State) (a : Nat) : pressView (safestopAxis s a) = pressView s := by unfold safestopAxis; simp
@[simp] theorem outputOff_pressView (s : State) (n : Nat) : pressView (outputOff s n) = pressView s := by unfold outputOff; simp
@[simp] theorem loopOffNow_pressView (s : State) (n : Nat) : pressView (loopOffNow s n) = pressView s := by unfold loopOffNow; simp
@[simp] theorem softStart_pressView (s : State) (n : Nat) : pressView (softStart s n) = pressView s := by unfold softStart; simp
@[simp] theorem captureTrigger_pressView (s : State) (n : Nat) : pressView (captureTrigger s n) = pressView s := by unfold captureTrigger; simp
@[simp] theorem loopCommandOff_pressView (s : State) (n : Nat) : pressView (loopCommandOff s n) = pressView s := by unfold loopCommandOff; simp
@[simp] theorem loopCommandOn_pressView (s : State) (n : Nat) : pressView (loopCommandOn s n) = pressView s := by
  unfold loopCommandOn; split <;> simp
@[simp] theorem selectBank_pressView (s : State) (n b : Nat) : pressView (selectBank s n b) = pressView s := by simp [selectBank]
@[simp] theorem safestopLoop_pressView (s : State) (n : Nat) : pressView (safestopLoop s n) = pressView s := by unfold safestopLoop; simp
@[simp] theorem updateFreeboard_pressView (s : State) (n : Nat) : pressView (updateFreeboard s n) = pressView s := by unfold updateFreeboard; simp
@[simp] theorem setDecoder_pressView (s : State) (n v : Nat) : pressView (setDecoder s n v) = pressView s := by simp [setDecoder]
@[simp] theorem refill_pressView (s : State) (n : Nat) : pressView (refill s n) = pressView s := by unfold refill; simp
@[simp] theorem dropPlane_pressView (s : State) (n state : Nat) : pressView (dropPlane s n state) = pressView s := by simp [dropPlane]
@[simp] theorem discardData_pressView (s : State) (n uid : Nat) : pressView (discardData s n uid) = pressView s := (rfl)
@[simp] theorem emptyFifo_pressView (s : State) (n : Nat) : pressView (emptyFifo s n) = pressView s := by unfold emptyFifo; simp
@[simp] theorem stopRaster_pressView (s : State) (n : Nat) : pressView (stopRaster s n) = pressView s := by unfold stopRaster; simp
@[simp] theorem forgetAt_pressView (s : State) (uid n : Nat) : pressView (forgetAt s uid n) = pressView s := by unfold forgetAt; simp
@[simp] theorem forgetRaster_pressView (s : State) (uid : Nat) : pressView (forgetRaster s uid) = pressView s := by unfold forgetRaster; simp
@[simp] theorem withdrawOne_pressView (s : State) (uid : Nat) : pressView (withdrawOne s uid) = pressView s := by unfold withdrawOne; simp
@[simp] theorem phaseLost_pressView (s : State) (k : Nat) : pressView (phaseLost s k) = pressView s := by unfold phaseLost; simp
@[simp] theorem holdOff_pressView (s : State) (k : Nat) : pressView (holdOff s k) = pressView s := by unfold holdOff; simp
@[simp] theorem holdUnlit_pressView (s : State) : pressView (holdUnlit s) = pressView s := by unfold holdUnlit; simp
@[simp] theorem dropCorrections_pressView (s : State) (n : Nat) : pressView (dropCorrections s n) = pressView s := (rfl)
@[simp] theorem pinSetValue_pressView (s : State) (p v : Nat) : pressView (pinSetValue s p v) = pressView s := by unfold pinSetValue; simp
@[simp] theorem recordMode_pressView (s : State) (new : Mode) (cause : Nat) : pressView (recordMode s new cause) = pressView s := by
  unfold recordMode; simp
@[simp] theorem rasterOff_pressView (s : State) : pressView (rasterOff s) = pressView s := by unfold rasterOff; simp
@[simp] theorem serviceOff_pressView (s : State) : pressView (serviceOff s) = pressView s := by unfold serviceOff; simp
@[simp] theorem recordCause_pressView (s : State) (cause : Nat) : pressView (recordCause s cause) = pressView s := (rfl)
@[simp] theorem safestopMotor_pressView (s : State) (m : Nat) : pressView (safestopMotor s m) = pressView s := by unfold safestopMotor; simp
@[simp] theorem safestopAxisAll_pressView (s : State) (a : Nat) : pressView (safestopAxisAll s a) = pressView s := by unfold safestopAxisAll; simp
@[simp] theorem withdrawEvery_pressView (s : State) : pressView (withdrawEvery s) = pressView s := by unfold withdrawEvery; simp
theorem safestopEnter_pressView {s : State} (h : s.md.mode ≠ .doze) (c : Nat) : pressView (safestopEnter s c) = pressView s := by
  have quiet : pressView (satLog 16 (if c = 1 then recordCause s c else causeAdd (recordCause s c) c entryInst) 0x2400 5) = pressView s := by
    split <;> simp
  simp [safestopEnter, h, quiet]
@[simp] theorem discardAllStaged_pressView (s : State) : pressView (discardAllStaged s) = pressView s := by unfold discardAllStaged; simp
@[simp] theorem speedNow_pressView (s : State) (m k : Nat) (own : Bool) : pressView (speedNow s m k own) = pressView s := by unfold speedNow; simp
@[simp] theorem deferAxis_pressView (s : State) (a : Nat) (c : AxisDeferred) : pressView (deferAxis s a c) = pressView s := by
  unfold deferAxis; split <;> simp
@[simp] theorem moveNow_pressView (s : State) (a v : Nat) : pressView (moveNow s a v).1 = pressView s := by unfold moveNow; (repeat' split) <;> simp
@[simp] theorem moveCommand_pressView (s : State) (a v : Nat) : pressView (moveCommand s a v) = pressView s := by unfold moveCommand; split <;> simp
@[simp] theorem stopCommand_pressView (s : State) (a : Nat) (hard : Bool) : pressView (stopCommand s a hard) = pressView s := by
  unfold stopCommand; split <;> simp
@[simp] theorem flagEvent_pressView (s : State) (e : Event) : pressView (flagEvent s e) = pressView s := by unfold flagEvent; simp
@[simp] theorem markFired_pressView (s : State) (k : Nat) (e : Event) (late : Bool) : pressView (markFired s k e late) = pressView s := by
  unfold markFired; split <;> simp
@[simp] theorem mistime_pressView (s : State) (k old new : Nat) : pressView (mistime s k old new) = pressView s := by
  unfold mistime; refine (foldl_pressView _ _ _ fun u x => ?_).trans ?_ <;> (repeat' split) <;> simp
@[simp] theorem decideRoute_pressView (s : State) (uid : Nat) : pressView (decideRoute s uid) = pressView s := (rfl)
@[simp] theorem dropEvent_pressView (s : State) (k : Nat) : pressView (dropEvent s k) = pressView s := by unfold dropEvent; simp
@[simp] theorem missMedium_pressView (s : State) (uid : Nat) (allHv : Bool) : pressView (missMedium s uid allHv) = pressView s := by
  unfold missMedium; simp
@[simp] theorem dropped_pressView (e : Event) (r : State × Bool) : pressView (dropped e r) = pressView r.1 := by unfold dropped; split <;> simp
@[simp] theorem actMove_pressView (s : State) (e : Event) : pressView (actMove s e) = pressView s := by unfold actMove; simp
@[simp] theorem actStop_pressView (s : State) (e : Event) : pressView (actStop s e) = pressView s := by unfold actStop; simp
@[simp] theorem actSpeed_pressView (s : State) (e : Event) : pressView (actSpeed s e) = pressView s := by unfold actSpeed; simp
@[simp] theorem actPin_pressView (s : State) (e : Event) : pressView (actPin s e) = pressView s := by unfold actPin; simp
@[simp] theorem actArrival_pressView (s : State) (e : Event) (seen : Bool) : pressView (actArrival s e seen) = pressView s := by
  unfold actArrival; split <;> simp
@[simp] theorem actBank_pressView (s : State) (e : Event) : pressView (actBank s e) = pressView s := by unfold actBank; simp
@[simp] theorem actLoopOn_pressView (s : State) (e : Event) : pressView (actLoopOn s e) = pressView s := by unfold actLoopOn; simp
@[simp] theorem actLoopOff_pressView (s : State) (e : Event) : pressView (actLoopOff s e) = pressView s := by unfold actLoopOff; simp
@[simp] theorem actExit_pressView (s : State) (e : Event) : pressView (actExit s e) = pressView s := by unfold actExit; (repeat' split) <;> simp
@[simp] theorem actMark_pressView (s : State) (e : Event) : pressView (actMark s e) = pressView s := by unfold actMark; simp
@[simp] theorem actCapture_pressView (s : State) (e : Event) : pressView (actCapture s e) = pressView s := by unfold actCapture; simp
@[simp] theorem act_pressView (s : State) (e : Event) (seen : Bool) : pressView (act s e seen) = pressView s := by unfold act; split <;> simp
@[simp] theorem fire_pressView (s : State) (k : Nat) (e : Event) (late seen : Bool) : pressView (fire s k e late seen) = pressView s := by
  unfold fire; (repeat' split) <;> simp
@[simp] theorem logFault_pressView (s : State) (r : Nat) : pressView (logFault s r) = pressView s := by unfold logFault; simp
/-- The second serves on record (R555). -/
structure ServeList where
  serves : List Serve

def serveList (s : State) : ServeList :=
  ⟨s.log.serves⟩

@[simp] theorem serveList_mk (time powered md kick hold reset_ seq rails clk net flash dict blobs staged stagedBlobs stagers armed accs sheets
    nextUid tenants coalescing mem stations trackers slots motors axes loops ains pins diag log heatTicks heatFrom out fresh pending) :
    serveList ⟨time, powered, md, kick, hold, reset_, seq, rails, clk, net, flash, dict, blobs, staged, stagedBlobs, stagers, armed, accs,
    sheets, nextUid, tenants, coalescing, mem, stations, trackers, slots, motors, axes, loops, ains, pins, diag, log, heatTicks, heatFrom, out,
    fresh, pending⟩ = ⟨log.serves⟩ := rfl
@[simp] theorem serveList_self (s : State) :
    ServeList.mk s.log.serves = serveList s := rfl

@[simp] theorem ite_serveList (c : Prop) [Decidable c] (a b : State) :
    serveList (if c then a else b) = if c then serveList a else serveList b := apply_ite serveList c a b
@[simp] theorem ite_serveList1 {α : Type} (c : Prop) [Decidable c] (a b : State × α) :
    serveList (if c then a else b).1 = if c then serveList a.1 else serveList b.1 := apply_ite (fun x : State × α => serveList x.1) c a b
@[simp] theorem foldl_serveList {α : Type} (l : List α) (f : State → α → State) (s : State)
    (h : ∀ u x, serveList (f u x) = serveList u) :
    serveList (l.foldl f s) = serveList s := foldl_view serveList l f s fun u x _ => h u x
@[simp] theorem forEach_serveList (l : List Nat) (f : State → Nat → State) (s : State)
    (h : ∀ u x, serveList (f u x) = serveList u) :
    serveList (forEach l f s) = serveList s := foldl_serveList l f s h
@[simp] theorem put_serveList (s : State) (i j v : Nat) : serveList (put s i j v) = serveList s := (rfl)
@[simp] theorem putLog_serveList (s : State) (i j v : Nat) : serveList (putLog s i j v) = serveList s := (rfl)
@[simp] theorem wrapLog_serveList (w : Nat) (s : State) (i j : Nat) : serveList (wrapLog w s i j) = serveList s := (rfl)
@[simp] theorem satLog_serveList (w : Nat) (s : State) (i j : Nat) : serveList (satLog w s i j) = serveList s := (rfl)
@[simp] theorem emit_serveList (s : State) (o : Output) : serveList (emit s o) = serveList s := (rfl)

@[simp] theorem vector_serveList (s : State) (fn vec : Nat) : serveList (vector s fn vec) = serveList s := by unfold vector; simp
theorem mirrorPlace_serves {l l' : Log} {e : Entry} (h : mirrorPlace l e = some l') : l'.serves = l.serves := by
  unfold mirrorPlace at h
  split at h
  · obtain rfl := Option.some.inj h
    rfl
  · split at h
    · obtain rfl := Option.some.inj h
      rfl
    · simp at h
@[simp] theorem mirrorWrite_serveList (s : State) (e : Entry) : serveList (mirrorWrite s e) = serveList s := by
  unfold mirrorWrite
  split
  · rfl
  · split
    next l hl =>
      have hserves : l.serves = s.log.serves := by
        split at hl
        · exact mirrorPlace_serves hl
        · simp at hl
      exact congrArg ServeList.mk hserves
    · simp
@[simp] theorem ringWrite_serveList (s : State) (e : Entry) : serveList (ringWrite s e) = serveList s := by unfold ringWrite; simp
@[simp] theorem notice_serveList (s : State) (idx sub cls : Nat) : serveList (notice s idx sub cls) = serveList s := by unfold notice; simp
@[simp] theorem noticeAlone_serveList (s : State) (idx sub cls : Nat) : serveList (noticeAlone s idx sub cls) = serveList s := by
  unfold noticeAlone; simp
@[simp] theorem classVectors_serveList (s : State) (cls : Nat) : serveList (classVectors s cls) = serveList s := by unfold classVectors; simp
@[simp] theorem logOnly_serveList (s : State) (cls kind src inst idx sub : Nat) (serial : Option Nat) (detail : Nat) :
  serveList (logOnly s cls kind src inst idx sub serial detail) = serveList s := by
  unfold logOnly; simp
@[simp] theorem log_serveList (s : State) (cls kind src inst idx sub : Nat) (serial : Option Nat) (detail : Nat) :
  serveList (log s cls kind src inst idx sub serial detail) = serveList s := by
  unfold log; simp
@[simp] theorem logEvent_serveList (s : State) (cls src inst idx sub : Nat) : serveList (logEvent s cls src inst idx sub) = serveList s := by
  unfold logEvent; simp
@[simp] theorem causeAdd_serveList (s : State) (c inst : Nat) : serveList (causeAdd s c inst) = serveList s := by unfold causeAdd; simp
@[simp] theorem causeEnd_serveList (s : State) (c inst : Nat) : serveList (causeEnd s c inst) = serveList s := by
  unfold causeEnd
  split
  · simp only
    split
    · rfl
    · rw [log_serveList]
      rfl
  · rfl
@[simp] theorem recordCause_serveList (s : State) (cause : Nat) : serveList (recordCause s cause) = serveList s := (rfl)

/-! ## Rails and their objects -/

theorem KeepsObjects.get {ks : List Nat} {s t : State} (h : KeepsObjects ks s t) {i j : Nat} (hk : keyOf i j ∉ ks) (hi : isLogIdx i = false) :
    Machine.get t i j = Machine.get s i j := by simp [Machine.get, hi, h _ hk]

theorem rail_congr {s t : State} (h : t.rails = s.rails) (k : Nat) : rail t k = rail s k := by simp [rail, h]

/-- The end of an on-sequence shows in the sequencer and in 2020:01 (R152). -/
theorem endOn_eq (s : State) (passed : Bool) : endOn s passed = { s with seq := (endOn s passed).seq, dict := (endOn s passed).dict } := by
  unfold endOn
  split
  · simp only
    split <;> rfl
  · rfl

theorem endOn_keepsObjects (s : State) (passed : Bool) : KeepsObjects [keyOf 0x2020 1] s (endOn s passed) := by
  unfold endOn
  split
  · simp only
    split
    · exact keepsObjects_put _ 0x2020 1 5 (by simp)
    · exact keepsObjects_of_dict_eq rfl
  · exact keepsObjects_of_dict_eq rfl

theorem offOver_eq (s : State) : offOver s = { s with seq := (offOver s).seq, pins := (offOver s).pins } := by
  unfold offOver
  split <;> rfl

/-- A rail that goes off shows in its record, the sequencer and the pins (R163). -/
theorem railGone_eq (s : State) (n st : Nat) :
    railGone s n st = { railOff s n st with seq := (railGone s n st).seq, pins := (railGone s n st).pins } := by
  unfold railGone
  simp only
  split
  · rfl
  · exact offOver_eq _

theorem railGone_rails (s : State) (n st : Nat) : (railGone s n st).rails = (railOff s n st).rails := by rw [railGone_eq]

theorem railOff_same (s : State) (n st : Nat) :
    rail (railOff s n st) n = { rail s n with en := false, wasGood := false, state := if railUse s n = 0 then 0 else st } := rail_setRail_same _ _ _

theorem railOff_other (s : State) {n k : Nat} (st : Nat) (h : k ≠ n) : rail (railOff s n st) k = rail s k := rail_setRail_other _ _ h


/-! ## The obligations' clauses -/

theorem mem_of_tabFind {α : Type} {t : Tab α} {n : Nat} {v : α} (h : tabFind t n = some v) : (n, v) ∈ t := by
  induction t with
  | nil => simp at h
  | cons p r ih =>
    obtain ⟨k, w⟩ := p
    unfold tabFind at h
    split at h
    next hk => simp_all
    next => exact List.mem_cons_of_mem _ (ih h)

/-- RAIL_ENABLE of the rail whose turn has come. -/
theorem exec_railEnable {s : State} {r : Fin 16} (hstate : s.seq.state = 1) (hdoze : s.seq.dozeRails = false) (hseq : railSequenced s r.val = true)
    (hoff : (rail s r.val).en = false) (hresp : (rail s r.val).state ≠ 6)
    (hturn : ∀ k, k < 16 → (rail s k).en = true ∨ get s (0x2100 + r.val) 2 ≤ get s (0x2100 + k) 2) :
    exec (.railEnable r) s = .next (settle (endOn (setRail s r.val fun x =>
      { x with en := true, watched := true, state := if railMonitored s r.val then 2 else 3 }) false)) := by
  have hin : inSequence s r.val = true := by simp [inSequence, hseq, hdoze, hresp]
  have hfirst : ((List.range 16).all fun k => !inSequence s k || decide (get s (railIdx r.val) 2 ≤ get s (railIdx k) 2) || (rail s k).en) = true := by
    refine List.all_eq_true.2 fun k hk => ?_
    rcases hturn k (List.mem_range.1 hk) with h | h
    · simp [h]
    · simp [railIdx, h]
  simp [exec, execRailEnable, hstate, hin, hoff, hfirst, done]

/-- RAIL_DISABLE of the rail whose turn has come. -/
theorem exec_railDisable {s : State} {r : Fin 16} (hstate : s.seq.state = 3) (hwhy : s.seq.why ≠ .doze) (hon : (rail s r.val).en = true)
    (hturn : ∀ k, k < 16 → (rail s k).en = false ∨ get s (0x2100 + r.val) 4 ≤ get s (0x2100 + k) 4) :
    exec (.railDisable r) s = .next (settle (railGone s r.val 1)) := by
  have hin : inOff s r.val = true := by simp [inOff, hon, hwhy]
  have hfirst : ((List.range 16).all fun k => !inOff s k || decide (get s (railIdx r.val) 4 ≤ get s (railIdx k) 4)) = true := by
    refine List.all_eq_true.2 fun k hk => ?_
    rcases hturn k (List.mem_range.1 hk) with h | h
    · simp [inOff, h]
    · simp [railIdx, h]
  simp [exec, execRailDisable, hstate, hin, hfirst, done]

/-- A rail that has become good (R143), before the on-sequence is asked whether it is complete. -/
def railGood (s : State) (n v : Nat) : State :=
  let t := putReading (setRail s n fun y => { y with state := 3, wasGood := true }) n v
  let t := if s.seq.attempt = 2 ∧ s.seq.firstFail = some n then servePass t .railKickoff n 2 0x2120 6 else t
  causeEnd t 0x0C (railCause n)

theorem railGood_sameButLog (s : State) (n v : Nat) :
    SameButLog (putReading (setRail s n fun y => { y with state := 3, wasGood := true }) n v) (railGood s n v) := by
  unfold railGood
  extract_lets t u
  refine .trans ?_ (causeEnd_sameButLog u _ _)
  simp only [u]
  split
  · exact servePass_sameButLog _ _ _ _ _ _
  · exact .refl _

theorem exec_railGood {s : State} {r : Fin 16} {v samples : Nat} (hstate : s.seq.state = 1) (hwhy : s.seq.why = .none) (hmon : railMonitored s r.val = true)
    (hon : (rail s r.val).en = true) (hramp : (rail s r.val).state = 2) (hin : railInside s r.val 6 v = true) (hlong : 16 ≤ samples) :
    exec (.railGood r ⟨v, samples⟩) s = .next (settle (endOn (railGood s r.val v) false)) := by
  have hup : railUp s r.val = true := by simp [railUp, hmon, hon, hstate, hwhy]
  simp [exec, execRailGood, hup, hramp, hin, hlong, done, railGood]

theorem railUse_ne_zero {s : State} {n : Nat} (h : railMonitored s n = true) : railUse s n ≠ 0 := by
  intro h0
  simp [railMonitored, h0] at h

/-- A reading of a rail in use is kept (R142). -/
theorem get_putReading {s : State} {n : Nat} (v : Nat) (h : railUse s n ≠ 0) (hlog : isLogIdx (railIdx n) = false) :
    get (putReading s n v) (railIdx n) 0x0F = v := by
  unfold putReading
  rw [if_neg h, get_put_other _ _ (by unfold keyOf; omega), get_put_same _ _ _ hlog]

/-- The state but for its rails. -/
def sansRails (s : State) : State := { s with rails := [] }

theorem eq_of_sansRails {s t : State} (h : sansRails t = sansRails s) : t = { s with rails := t.rails } :=
  congrArg (fun u : State => { u with rails := t.rails }) h

/-- What an on-sequence makes of the rails at S (R150, R151). -/
def railsAtS (s : State) : State :=
  forEach (List.range 16) (fun u r => if railUse u r = 0 then setRail u r fun _ => {} else
    setRail u r fun _ => { state := if railUse u r = 2 then 2 else 1, watched := railUse u r == 2 }) s

theorem railsAtS_eq (s : State) : railsAtS s = { s with rails := (railsAtS s).rails } := by
  refine eq_of_sansRails (foldl_view sansRails _ _ _ fun u r _ => ?_)
  split <;> rfl

theorem startOn_eq (s : State) (terp : Bool) : startOn s terp =
    { s with rails := (railsAtS s).rails, seq := { s.seq with state := 1, why := .none, dozeRails := false, terp := terp, since := s.time, driven := true } } := by
  have hrails := railsAtS_eq s
  have h : startOn s terp = { railsAtS s with
      seq := { (railsAtS s).seq with state := 1, why := .none, dozeRails := false, terp := terp, since := s.time, driven := true } } := by
    simp only [startOn, railsAtS]
  generalize railsAtS s = t at hrails h
  rw [h, hrails]

/-- The on-sequence of a retry, with the count of its attempt (R153). -/
def retryOn (s : State) : State :=
  put { startOn s false with seq := { (startOn s false).seq with attempt := s.seq.attempt + 1 } } 0x2120 5 (s.seq.attempt + 1)

theorem exec_retryPauseEnd {s : State} (h : s.seq.state = 4) : exec .retryPauseEnd s = .next (settle (retryOn s)) := by
  simp [exec, execRetryPauseEnd, h, done, retryOn]

theorem retryOn_shows (s : State) :
    (retryOn s).seq.state = 1 ∧ (retryOn s).seq.attempt = s.seq.attempt + 1 ∧ get (retryOn s) 0x2120 5 = s.seq.attempt + 1 ∧
      KeepsObjects [keyOf 0x2120 5] s (retryOn s) ∧
      retryOn s = { s with rails := (retryOn s).rails, seq := (retryOn s).seq, dict := (retryOn s).dict } := by
  have hstart := startOn_eq s false
  unfold retryOn
  generalize startOn s false = t, (railsAtS s).rails = rails at hstart
  subst hstart
  exact ⟨rfl, rfl, get_put_same _ _ _ rfl, keepsObjects_trans (keepsObjects_of_dict_eq rfl) (keepsObjects_put _ _ _ _ (by simp)), rfl⟩

/-! ### A ramp that fails (R151, R153) -/

/-- The objects of a fault outside a rail reset: the rail's count, the last fault, its kind and its time (R617). -/
def faultNoted (s : State) (n kind : Nat) : State :=
  put (put (put (sat s (railIdx n) 0x0E) 0x2120 6 n) 0x2120 7 kind) 0x2120 8 (pressTime s)

theorem recordFault_eq {s : State} (hwhy : s.seq.why ≠ .railReset) (hrun : s.reset_.running = false) (n kind : Nat) :
    recordFault s n kind = setRail (faultNoted s n kind) n fun x => { x with state := if x.en || railUse s n == 2 then 5 else x.state } := by
  have hcount : ¬((sat s (railIdx n) 0x0E).seq.why = .railReset ∨ (sat s (railIdx n) 0x0E).reset_.running = true) := by
    rintro (h | h)
    · exact hwhy h
    · exact absurd (hrun.symm.trans h) (by simp)
  simp only [recordFault, if_neg hcount, faultNoted]

/-- What has just begun its second serve is being served. -/
theorem serving_serveBegin (s : State) (m : Mech) (n code src i j : Nat) : serving (serveBegin s m n code src i j) m n = true := by
  have hlist : (serveBegin s m n code src i j).log.serves =
      { mech := m.code, inst := n, code := code, running := true, done := none } :: (serveDrop s m n).log.serves := by
    have h : serveList (serveBegin s m n code src i j) =
        ⟨{ mech := m.code, inst := n, code := code, running := true, done := none } :: (serveDrop s m n).log.serves⟩ := by simp [serveBegin]
    exact congrArg ServeList.serves h
  simp [serving, serveOf, hlist, Serve.isOf]

theorem serving_congr {s t : State} (h : t.log.serves = s.log.serves) (m : Mech) (n : Nat) : serving t m n = serving s m n := by
  simp [serving, serveOf, h]

/-- A fault of a rail that is on, in the on-sequence of a kick-off that runs, acts (R159, R617). -/
theorem faultLoggedOnly_onSequence {s : State} {n : Nat} (hon : (rail s n).en = true) (hstate : s.seq.state = 1) (hhold : s.hold = .none)
    (hrun : s.reset_.running = false) : faultLoggedOnly s n = false := by
  simp [faultLoggedOnly, hon, hstate, hhold, hrun]

/-- The first fault of the on-sequence: a second serve begins and the sequence is broken off (R153, R154). -/
theorem sequenceFault_first {s : State} {n : Nat} (hattempt : s.seq.attempt = 1) (hretries : 1 ≤ get s 0x2120 2) :
    sequenceFault s n =
      breakOff { serveBegin s .railKickoff n 2 2 0x2120 6 with
        seq := { (serveBegin s .railKickoff n 2 2 0x2120 6).seq with firstFail := some n } } := by
  have hsome : ¬(get s 0x2120 2 = 0) := by omega
  have hleft : ¬(get s 0x2120 2 < 1) := by omega
  simp [sequenceFault, hattempt, hsome, hleft]

theorem anyRailOn_of_en {s : State} {n : Nat} (h : (rail s n).en = true) : anyRailOn s = true := by
  cases hfind : tabFind s.rails n with
  | none => simp [rail, tabGet, hfind] at h
  | some x =>
    have hx : x.en = true := by simpa [rail, tabGet, hfind] using h
    exact List.any_eq_true.2 ⟨(n, x), mem_of_tabFind hfind, hx⟩

/-- The keys of the objects that a ramp fault records. -/
theorem railIdx_lt (r : Fin 16) : railIdx r.val < 0x2110 := by unfold railIdx; omega

theorem faultNoted_last (s : State) (n kind : Nat) :
    get (faultNoted s n kind) 0x2120 6 = n ∧ get (faultNoted s n kind) 0x2120 7 = kind ∧ get (faultNoted s n kind) 0x2120 8 = pressTime s := by
  simp (disch := decide) only [faultNoted, get_put_other, get_put_same, and_self]

theorem faultNoted_count (s : State) (r : Fin 16) (kind : Nat) :
    get (faultNoted s r.val kind) (railIdx r.val) 0x0E = min (get s (railIdx r.val) 0x0E + 1) 65535 := by
  have hidx := railIdx_lt r
  have hkeys (j : Nat) (hj : j < 256) : keyOf (railIdx r.val) 0x0E ≠ keyOf 0x2120 j := by unfold keyOf; omega
  rw [faultNoted, get_put_other _ _ (hkeys 8 (by omega)), get_put_other _ _ (hkeys 7 (by omega)), get_put_other _ _ (hkeys 6 (by omega))]
  exact get_put_same _ _ _ (isLogIdx_railIdx r)

theorem faultNoted_keepsObjects (s : State) (n kind : Nat) :
    KeepsObjects [keyOf (railIdx n) 0x0E, keyOf 0x2120 6, keyOf 0x2120 7, keyOf 0x2120 8] s (faultNoted s n kind) :=
  keepsObjects_trans (keepsObjects_put s (railIdx n) 0x0E _ List.mem_cons_self) (keepsObjects_trans (keepsObjects_put _ 0x2120 6 n (by simp))
    (keepsObjects_trans (keepsObjects_put _ 0x2120 7 kind (by simp)) (keepsObjects_put _ 0x2120 8 (pressTime s) (by simp))))

/-- What a fault outside a rail reset records: the count, the last fault, and the state of a rail that is on. -/
theorem recordFault_shows {s : State} {r : Fin 16} (hwhy : s.seq.why ≠ .railReset) (hrun : s.reset_.running = false) (kind : Nat) :
    let t := recordFault s r.val kind
    (get t 0x2120 6 = r.val ∧ get t 0x2120 7 = kind ∧ get t 0x2120 8 = pressTime s) ∧
      get t (railIdx r.val) 0x0E = min (get s (railIdx r.val) 0x0E + 1) 65535 ∧
      KeepsObjects [keyOf (railIdx r.val) 0x0E, keyOf 0x2120 6, keyOf 0x2120 7, keyOf 0x2120 8] s t ∧
      (rail t r.val).en = (rail s r.val).en ∧ t = { s with rails := t.rails, dict := t.dict } := by
  have hlast := faultNoted_last s r.val kind
  have hcount := faultNoted_count s r kind
  have hkeeps := faultNoted_keepsObjects s r.val kind
  have heq : faultNoted s r.val kind = { s with dict := (faultNoted s r.val kind).dict } := rfl
  rw [recordFault_eq hwhy hrun]
  generalize faultNoted s r.val kind = u at *
  refine ⟨hlast, hcount, hkeeps, ?_, ?_⟩
  · rw [rail_setRail_same, rail_congr (s := s) (by rw [heq])]
  · rw [heq]
    rfl

/-- What any fault leaves: all but the rail and the records of the fault. -/
theorem recordFault_frame (s : State) (r : Fin 16) (kind : Nat) :
    let t := recordFault s r.val kind
    KeepsObjects [keyOf (railIdx r.val) 0x0E, keyOf 0x2120 6, keyOf 0x2120 7, keyOf 0x2120 8] s t ∧
      (rail t r.val).en = (rail s r.val).en ∧ t = { s with rails := t.rails, dict := t.dict } := by
  by_cases hlate : s.seq.why = .railReset ∨ s.reset_.running = true
  · have heq : recordFault s r.val kind = setRail (sat s (railIdx r.val) 0x0E) r.val fun x =>
        { x with state := if x.en || railUse s r.val == 2 then 5 else x.state } := by
      have hlate' : (sat s (railIdx r.val) 0x0E).seq.why = .railReset ∨ (sat s (railIdx r.val) 0x0E).reset_.running = true := hlate
      simp only [recordFault, if_pos hlate']
    rw [heq]
    exact ⟨keepsObjects_put s (railIdx r.val) 0x0E _ List.mem_cons_self, by rw [rail_setRail_same]; rfl, rfl⟩
  · obtain ⟨_, _, hkeeps, hen, heq⟩ := recordFault_shows (s := s) (r := r) (fun h => hlate (.inl h)) (by simpa using fun h => hlate (.inr h)) kind
    exact ⟨hkeeps, hen, heq⟩

theorem breakOff_of_en {s : State} {n : Nat} (h : (rail s n).en = true) : breakOff s = beginOff s .retry := by
  rw [breakOff, if_pos (anyRailOn_of_en h)]

/-- RAMP_FAULT in the first on-sequence of kick-off (R151, R153, R154). -/
theorem rampFault_shows {s : State} {r : Fin 16} (hstate : s.seq.state = 1) (hattempt : s.seq.attempt = 1) (hon : (rail s r.val).en = true)
    (hhold : s.hold = .none) (hrun : s.reset_.running = false) (hmode : s.md.mode = .kickoff) (hwhy : s.seq.why ≠ .railReset)
    (hretries : 1 ≤ get s 0x2120 2) :
    let t := railFault s r.val 3
    get t 0x2120 6 = r.val ∧ get t 0x2120 7 = 3 ∧ get t 0x2120 8 = pressTime s ∧ get t (railIdx r.val) 0x0E = min (get s (railIdx r.val) 0x0E + 1) 65535 ∧
      t.seq.state = 3 ∧ t.seq.why = .retry ∧ t.seq.firstFail = some r.val ∧ serving t .railKickoff r.val = true ∧ t.md = s.md := by
  have hfault : railFault s r.val 3 = sequenceFault (logFault (recordFault s r.val 3) r.val) r.val := by
    unfold railFault
    simp [faultLoggedOnly_onSequence hon hstate hhold hrun, hmode, hstate]
  obtain ⟨⟨hrail, hkind, htime⟩, hcount, hkeeps, hen, heq⟩ := recordFault_shows (r := r) hwhy hrun 3
  have hlog : SameButLog (recordFault s r.val 3) (logFault (recordFault s r.val 3) r.val) := logEvent_sameButLog _ _ _ _ _ _
  have hidx := railIdx_lt r
  have hretry : get (recordFault s r.val 3) 0x2120 2 = get s 0x2120 2 := hkeeps.get (by simp [keyOf]; omega) rfl
  generalize recordFault s r.val 3 = u at *
  generalize logFault u r.val = v at *
  have hserve := serveBegin_sameButLog v .railKickoff r.val 2 2 0x2120 6
  have hserving := serving_serveBegin v .railKickoff r.val 2 2 0x2120 6
  have hseq : u.seq = s.seq := by rw [heq]
  have hmd : u.md = s.md := by rw [heq]
  have hfirst := sequenceFault_first (s := v) (n := r.val) (by rw [hlog.seq, hseq, hattempt]) (by rw [hlog.get 2 rfl, hretry]; exact hretries)
  generalize serveBegin v .railKickoff r.val 2 2 0x2120 6 = w at *
  have hw : SameButLog u w := .trans hlog hserve
  have hwon : (rail w r.val).en = true := by rw [rail_congr hw.rails, hen, hon]
  rw [hfault.trans (hfirst.trans (breakOff_of_en (n := r.val) hwon))]
  exact ⟨(hw.get 6 rfl).trans hrail, (hw.get 7 rfl).trans hkind, (hw.get 8 rfl).trans htime, (hw.get _ (isLogIdx_railIdx r)).trans hcount, rfl, rfl, rfl,
    hserving, hw.md.trans hmd⟩

/-! ### A fault in operation (R159 to R161) -/

theorem ne_of_operating {m : Mode} (h : m ∈ operating) : m ≠ .kickoff ∧ m ≠ .terp ∧ m ≠ .safestop ∧ m ≠ .shutdown ∧ m ≠ .doze := by
  revert h
  cases m <;> decide

/-- A trigger whose cause persists, out of an operating mode: SAFESTOP with its cause, SAFE_N asserted (R47, R561). -/
theorem safestopBy_operating {s : State} (h : s.md.mode ∈ operating) (c n : Nat) :
    (safestopBy s c n).md.mode = .safestop ∧ get (safestopBy s c n) 0x2000 5 = c ∧ (safestopBy s c n).pins.safeN = true ∧
      pressView (safestopBy s c n) = pressView s := by
  have hmode : (causeAdd s c n).md.mode ∈ operating := by rwa [md_of_modeView (causeAdd_modeView s c n)]
  obtain ⟨hk, ht, hs, hd, hz⟩ := ne_of_operating hmode
  rw [safestopBy, safestop_of_operating hk ht hs hd]
  obtain ⟨hmd, hsafe, hcause⟩ := modeView_eq_iff.1 (safestopEnter_modeView (causeAdd s c n) c)
  refine ⟨by rw [hmd], hcause, hsafe, ?_⟩
  rw [safestopEnter_pressView hz, causeAdd_pressView]

theorem railFault_operating {s : State} {n kind : Nat} (h : s.md.mode ∈ operating) (honly : faultLoggedOnly s n = false) :
    railFault s n kind = operatingFault (recordFault s n kind) n := by
  obtain ⟨hk, ht, _, hd, _⟩ := ne_of_operating h
  unfold railFault
  rw [honly]
  cases hmode : s.md.mode <;> simp_all

theorem logFault_sameButLog (s : State) (n : Nat) : SameButLog s (logFault s n) := logEvent_sameButLog _ _ _ _ _ _

/-- A fault with a cause that persists, out of an operating mode, but for the rail's own response. -/
theorem faultStop_shows {s u : State} (h : s.md.mode ∈ operating) (hu : SameButLog s u) (n : Nat) :
    let t := safestopBy u 0x0C n
    t.md.mode = .safestop ∧ get t 0x2000 5 = 0x0C ∧ t.pins.safeN = true ∧ t.rails = s.rails ∧ t.seq = s.seq ∧ lowDict t.dict = lowDict s.dict := by
  obtain ⟨hmode, hcause, hsafe, hpress⟩ := safestopBy_operating (s := u) (by rwa [hu.md]) 0x0C n
  exact ⟨hmode, hcause, hsafe, (congrArg PressView.rails hpress).trans hu.rails, (congrArg PressView.seq hpress).trans hu.seq,
    (congrArg PressView.lowDict hpress).trans (congrArg Machine.lowDict hu.dict)⟩

theorem get_rail_of_lowDict {s t : State} (h : lowDict t.dict = lowDict s.dict) (r : Fin 16) {j : Nat} (hj : j < 256) :
    get t (railIdx r.val) j = get s (railIdx r.val) j :=
  get_of_lowDict h (by unfold railIdx; omega) (by unfold railIdx; omega) hj

/-- With response 2 the rail reset begins (R161 step 1). -/
theorem railReset_shows {s : State} {n : Nat} (h : s.md.mode ∈ operating) :
    let t := railReset s n
    t.md.mode = .safestop ∧ get t 0x2000 5 = 0x0C ∧ t.pins.safeN = true ∧ t.seq.why = .railReset := by
  have hcounted : (if s.seq.why = .railReset then s else sat s 0x2120 9).md = s.md := by split <;> rfl
  unfold railReset
  generalize (if s.seq.why = .railReset then s else sat s 0x2120 9) = u at hcounted
  obtain ⟨hmode, hcause, hsafe, _⟩ := faultStop_shows (s := u) (by rwa [hcounted]) (serveBegin_sameButLog u .rail n 0 2 0x2120 6) (railCause n)
  exact ⟨hmode, hcause, hsafe, rfl⟩

/-- With response 1 the rail goes off at once (R160). -/
theorem responseOff_shows {s : State} {r : Fin 16} (hresp : get s (railIdx r.val) 9 = 1) (hon : (rail s r.val).en = true) (huse : railUse s r.val ≠ 0) :
    let t := responseOff s r.val
    (rail t r.val).en = false ∧ (rail t r.val).state = 6 ∧ t.md = s.md ∧ t.dict = s.dict ∧ (s.pins.safeN = true → t.pins.safeN = true) := by
  have hgone : responseOff s r.val = railGone s r.val 6 := by rw [responseOff, if_pos ⟨hresp, hon⟩]
  have hrails := railGone_rails s r.val 6
  have heq := railGone_eq s r.val 6
  have hsafe : s.pins.safeN = true → (railGone s r.val 6).pins.safeN = true := by
    intro hs
    unfold railGone
    simp only
    split
    · exact hs
    · unfold offOver
      split
      · exact hs
      · exact hs
      · rfl
      · exact hs
      · exact hs
      · exact hs
  rw [hgone]
  generalize railGone s r.val 6 = t at *
  refine ⟨?_, ?_, by rw [heq]; rfl, by rw [heq]; rfl, hsafe⟩ <;> rw [rail_congr hrails, railOff_same]
  simp [huse]

/-- What a rail fault in operation shows, by the rail's response. -/
theorem operatingFault_shows {s : State} {r : Fin 16} (h : s.md.mode ∈ operating) (hon : (rail s r.val).en = true)
    (hfirst : servedWithin s .rail r.val (ticksS 600) = false) (huse : railUse s r.val ≠ 0) :
    let t := operatingFault s r.val
    let resp := get s (railIdx r.val) 9
    t.md.mode = .safestop ∧ get t 0x2000 5 = 0x0C ∧ t.pins.safeN = true ∧ (resp = 2 → t.seq.why = .railReset) ∧
      (resp = 1 → (rail t r.val).en = false ∧ (rail t r.val).state = 6) ∧ (resp ≠ 1 → resp ≠ 2 → t.seq.why = s.seq.why) := by
  intro t resp
  have ht : t = if resp = 2 then railReset s r.val else if resp = 1 then responseOff (safestopBy (logFault s r.val) 0x0C (railOffCause r.val)) r.val
      else safestopBy (logFault s r.val) 0x0C (railCause r.val) := by simp [t, operatingFault, hfirst, resp]
  have hlogged := logFault_sameButLog s r.val
  clear_value t
  subst ht
  by_cases h2 : resp = 2
  · obtain ⟨hmode, hcause, hsafe, hwhy⟩ := railReset_shows (n := r.val) h
    simp only [h2, if_true]
    exact ⟨hmode, hcause, hsafe, fun _ => hwhy, fun h => absurd h (by decide), fun _ h => absurd rfl h⟩
  by_cases h1 : resp = 1
  · obtain ⟨hmode, hcause, hsafe, hrails, hseq, hlow⟩ := faultStop_shows h hlogged (railOffCause r.val)
    generalize safestopBy (logFault s r.val) 0x0C (railOffCause r.val) = u at *
    obtain ⟨hoff, hstate, hmd, hdict, hpin⟩ := responseOff_shows (s := u) (r := r) ((get_rail_of_lowDict hlow r (by omega)).trans h1)
      (by rw [rail_congr hrails, hon]) (fun h0 => huse ((get_rail_of_lowDict hlow r (by omega)).symm.trans h0))
    simp only [h1, if_true, show ¬((1 : Nat) = 2) by decide, if_false]
    refine ⟨by rw [hmd, hmode], ?_, hpin hsafe, fun h => absurd h (by decide), fun _ => ⟨hoff, hstate⟩, fun h => absurd rfl h⟩
    rw [get_dict _ _ rfl, hdict, ← get_dict _ _ rfl, hcause]
  · obtain ⟨hmode, hcause, hsafe, _, hseq, _⟩ := faultStop_shows h hlogged (railCause r.val)
    rw [if_neg h2, if_neg h1]
    exact ⟨hmode, hcause, hsafe, fun h => absurd h h2, fun h => absurd h h1, fun _ _ => by rw [hseq]⟩

/-! ## The obligation -/

theorem railEnable_completes {s : State} {r : Fin 16} (hstate : s.seq.state = 1) (hdoze : s.seq.dozeRails = false) (hseq : railSequenced s r.val = true)
    (hoff : (rail s r.val).en = false) (hresp : (rail s r.val).state ≠ 6)
    (hturn : ∀ k, k < 16 → (rail s k).en = true ∨ get s (0x2100 + r.val) 2 ≤ get s (0x2100 + k) 2) :
    Completes (.railEnable r) s fun t =>
      (rail t r.val).en = true ∧ (rail t r.val).state = (if railMonitored s r.val = true then 2 else 3) ∧ (∀ k, k ≠ r.val → rail t k = rail s k) ∧
      KeepsObjects [keyOf 0x2020 1] s t ∧ t = { s with rails := t.rails, seq := t.seq, dict := t.dict } := by
  refine ⟨_, exec_railEnable hstate hdoze hseq hoff hresp hturn, ?_⟩
  have heq := endOn_eq (setRail s r.val fun x => { x with en := true, watched := true, state := if railMonitored s r.val then 2 else 3 }) false
  have hkeeps := endOn_keepsObjects (setRail s r.val fun x => { x with en := true, watched := true, state := if railMonitored s r.val then 2 else 3 }) false
  generalize endOn (setRail s r.val fun x => { x with en := true, watched := true, state := if railMonitored s r.val then 2 else 3 }) false = t at *
  have hrails : t.rails = (setRail s r.val fun x => { x with en := true, watched := true, state := if railMonitored s r.val then 2 else 3 }).rails := by
    rw [heq]
  refine ⟨?_, ?_, fun k hk => ?_, hkeeps, by rw [heq]; rfl⟩ <;> rw [rail_congr hrails]
  · rw [rail_setRail_same]
  · rw [rail_setRail_same]
  · exact rail_setRail_other s _ hk

theorem railDisable_completes {s : State} {r : Fin 16} (hstate : s.seq.state = 3) (hwhy : s.seq.why ≠ .doze) (hon : (rail s r.val).en = true)
    (hturn : ∀ k, k < 16 → (rail s k).en = false ∨ get s (0x2100 + r.val) 4 ≤ get s (0x2100 + k) 4) :
    Completes (.railDisable r) s fun t =>
      (rail t r.val).en = false ∧ (∀ k, k ≠ r.val → rail t k = rail s k) ∧ t = { s with rails := t.rails, seq := t.seq, pins := t.pins } := by
  refine ⟨_, exec_railDisable hstate hwhy hon hturn, ?_⟩
  have hrails := railGone_rails s r.val 1
  have heq := railGone_eq s r.val 1
  generalize railGone s r.val 1 = t at *
  refine ⟨?_, fun k hk => ?_, by rw [heq]; rfl⟩ <;> rw [rail_congr hrails]
  · rw [railOff_same]
  · exact railOff_other s 1 hk

theorem railGood_completes {s : State} {r : Fin 16} {v samples : Nat} (hstate : s.seq.state = 1) (hwhy : s.seq.why = .none)
    (hmon : railMonitored s r.val = true) (hon : (rail s r.val).en = true) (hramp : (rail s r.val).state = 2) (hin : railInside s r.val 6 v = true)
    (hlong : 16 ≤ samples) :
    Completes (.railGood r ⟨v, samples⟩) s fun t => (rail t r.val).state = 3 ∧ (rail t r.val).en = true ∧ get t (0x2100 + r.val) 0x0F = v ∧
      (∀ k, k ≠ r.val → rail t k = rail s k) := by
  refine ⟨_, exec_railGood hstate hwhy hmon hon hramp hin hlong, ?_⟩
  have hgood := railGood_sameButLog s r.val v
  have heq := endOn_eq (railGood s r.val v) false
  have hkeeps := endOn_keepsObjects (railGood s r.val v) false
  have hread := putReading_eq (setRail s r.val fun y => { y with state := 3, wasGood := true }) r.val v
  have hval := get_putReading (s := setRail s r.val fun y => { y with state := 3, wasGood := true }) v (railUse_ne_zero hmon) (isLogIdx_railIdx r)
  generalize railGood s r.val v = u at *
  generalize endOn u false = t at *
  generalize putReading (setRail s r.val fun y => { y with state := 3, wasGood := true }) r.val v = w at *
  have hrails : t.rails = (setRail s r.val fun y => { y with state := 3, wasGood := true }).rails := by
    rw [heq]
    exact hgood.rails.trans (by rw [hread])
  have hidx := railIdx_lt r
  refine ⟨?_, ?_, ?_, fun k hk => ?_⟩
  · rw [rail_congr hrails, rail_setRail_same]
  · rw [rail_congr hrails, rail_setRail_same]
    exact hon
  · exact (hkeeps.get (i := railIdx r.val) (by simp [keyOf, railIdx]; omega) (isLogIdx_railIdx r)).trans ((hgood.get _ (isLogIdx_railIdx r)).trans hval)
  · rw [rail_congr hrails]
    exact rail_setRail_other s _ hk

/-- Settles O12: the rails' turns rest on the frames of `endOn` and `railGone`, their faults on `rampFault_shows` and `operatingFault_shows`. -/
theorem railsChange : Obligations.RailsChange := by
  unfold Obligations.RailsChange
  refine ⟨fun s r => ⟨railEnable_completes, railDisable_completes, fun v samples => ⟨railGood_completes, fun hno => ⟨putReading s r.val v, ?_, rfl⟩⟩,
    fun h => ⟨_, exec_retryPauseEnd h, retryOn_shows s⟩⟩,
    fun s r v hstate hattempt hmon hramp hon hhold hrun hmode hwhy hretries => ?_, fun s r v samples => ⟨fun hacts hlong honly hon hmode hfirst => ?_, fun hno => ?_⟩⟩
  · have hcond : (railUp s r.val && ((rail s r.val).state == 2 || (rail s r.val).state == 4 || (rail s r.val).state == 5) && railInside s r.val 6 v &&
        decide (16 ≤ samples)) = false := by
      rcases hno with h | h
      · simp [h]
      · simp; omega
    simp [exec, execRailGood, hcond, done]
  · have hread := putReading_eq s r.val v
    have hkeeps := putReading_keepsObjects s r.val v
    refine ⟨railFault (putReading s r.val v) r.val 3, by simp [exec, execRampFault, hstate, hmon, hramp, done], ?_⟩
    have hreadings (i j : Nat) (hi : isLogIdx i = false) (hk : keyOf i j ≠ keyOf (railIdx r.val) 0x0F ∧ keyOf i j ≠ keyOf (railIdx r.val) 0x10) :
        get (putReading s r.val v) i j = get s i j := hkeeps.get (by simpa using hk) hi
    have hidx := railIdx_lt r
    have hcount : get (putReading s r.val v) (railIdx r.val) 0x0E = get s (0x2100 + r.val) 0x0E :=
      hreadings _ _ (isLogIdx_railIdx r) (by unfold keyOf; omega)
    have hretry : get (putReading s r.val v) 0x2120 2 = get s 0x2120 2 := hreadings _ _ rfl (by unfold keyOf; omega)
    generalize putReading s r.val v = p at *
    have htime : pressTime p = pressTime s := by rw [hread]; rfl
    obtain ⟨hlast, hkind, hat, hnumber, hstate', hwhy', hfail, hserving, hmd⟩ := rampFault_shows (s := p) (r := r) (by rw [hread]; exact hstate) (by rw [hread]; exact hattempt)
      (by rw [rail_congr (s := s) (by rw [hread]), hon]) (by rw [hread]; exact hhold) (by rw [hread]; exact hrun) (by rw [hread]; exact hmode) (by rw [hread]; exact hwhy)
      (by rw [hretry]; exact hretries)
    exact ⟨hlast, hkind, hat.trans htime, hnumber.trans (by rw [hcount]), hstate', hwhy', hfail, hserving, hmd.trans (by rw [hread])⟩
  · have hread := putReading_eq s r.val v
    have hkeeps := putReading_keepsObjects s r.val v
    have hcond : (sideActs s r.val (windowSide s r.val 5 v) && decide (get s (railIdx r.val) 7 ≤ samples)) = true := by simp [hacts, railIdx, hlong]
    have hmon : railMonitored s r.val = true := by
      unfold sideActs at hacts
      simp only [Bool.and_eq_true] at hacts
      exact hacts.1.1
    refine ⟨railFault (putReading s r.val v) r.val (windowSide s r.val 5 v), by simp [exec, execRailFault, hcond, done], ?_⟩
    generalize windowSide s r.val 5 v = kind
    have hidx := railIdx_lt r
    have hobjects (j : Nat) (hj : j < 0x0E) : get (recordFault (putReading s r.val v) r.val kind) (railIdx r.val) j = get s (railIdx r.val) j :=
      ((recordFault_frame (putReading s r.val v) r kind).1.get (by simp [keyOf, railIdx]; omega) (isLogIdx_railIdx r)).trans
        (hkeeps.get (by simp [keyOf]; omega) (isLogIdx_railIdx r))
    obtain ⟨_, hen, hfault⟩ := recordFault_frame (putReading s r.val v) r kind
    have honly' : faultLoggedOnly (putReading s r.val v) r.val = false := by
      have huse : railUse (putReading s r.val v) r.val = railUse s r.val := hkeeps.get (by simp [keyOf, railIdx]) (isLogIdx_railIdx r)
      rw [← honly]
      unfold faultLoggedOnly
      rw [huse, hread]
      rfl
    have hen' : (rail (recordFault (putReading s r.val v) r.val kind) r.val).en = true := by
      rw [hen, rail_congr (s := s) (by rw [hread]), hon]
    rw [railFault_operating (by rw [hread]; exact hmode) honly']
    generalize putReading s r.val v = p at *
    generalize recordFault p r.val kind = u at *
    have hup : u = { s with rails := u.rails, dict := u.dict } := by rw [hfault, hread]
    have shows := operatingFault_shows (s := u) (r := r) (by rw [hup]; exact hmode) hen' (by rw [hup]; exact hfirst)
      (by rw [railUse, ← railIdx, hobjects 1 (by omega)]; exact railUse_ne_zero hmon)
    have hseq : u.seq = s.seq := by rw [hup]
    rw [hobjects 9 (by omega), hseq] at shows
    exact shows
  · refine ⟨putReading s r.val v, ?_, rfl⟩
    have hcond : (sideActs s r.val (windowSide s r.val 5 v) && decide (get s (railIdx r.val) 7 ≤ samples)) = false := by
      rcases hno with h | h
      · simp [h]
      · simp [show ¬get s (railIdx r.val) 7 ≤ samples from Nat.not_le.2 h]
    simp [exec, execRailFault, hcond, done]

end Sys2Proof.Machine

/-! # Off-sequences, DOZE and wake (R161, R164, R165) -/

namespace Sys2Proof.Machine

/-! ## What mode changes leave of the receive queues and the rails -/

/-- The frames that wait in the receive queue of each port. -/
def rxTable (ports : Tab Port) : Nat → List (FrameSrc × Pdu) := fun p => (tabGet {} ports p).rx

theorem rxTable_setPort (s : State) (n : Nat) (f : Port → Port) (h : ∀ x, (f x).rx = x.rx) : rxTable (setPort s n f).net.ports = rxTable s.net.ports := by
  funext p
  unfold rxTable setPort
  simp only
  by_cases hp : p = n
  · subst hp
    rw [tabGet_tabMod_same, h]
  · rw [tabGet_tabMod_other _ _ _ hp]

/-- What waits to be served. -/
structure RxView where
  rxTable : Nat → List (FrameSrc × Pdu)

def rxView (s : State) : RxView :=
  ⟨(rxTable s.net.ports)⟩

@[simp] theorem rxView_mk (time powered md kick hold reset_ seq rails clk net flash dict blobs staged stagedBlobs stagers armed accs sheets
    nextUid tenants coalescing mem stations trackers slots motors axes loops ains pins diag log heatTicks heatFrom out fresh pending) :
    rxView ⟨time, powered, md, kick, hold, reset_, seq, rails, clk, net, flash, dict, blobs, staged, stagedBlobs, stagers, armed, accs, sheets,
    nextUid, tenants, coalescing, mem, stations, trackers, slots, motors, axes, loops, ains, pins, diag, log, heatTicks, heatFrom, out, fresh,
    pending⟩ = ⟨(rxTable net.ports)⟩ := rfl
@[simp] theorem rxView_self (s : State) :
    RxView.mk (rxTable s.net.ports) = rxView s := rfl

@[simp] theorem ite_rxView (c : Prop) [Decidable c] (a b : State) :
    rxView (if c then a else b) = if c then rxView a else rxView b := apply_ite rxView c a b
@[simp] theorem ite_rxView1 {α : Type} (c : Prop) [Decidable c] (a b : State × α) :
    rxView (if c then a else b).1 = if c then rxView a.1 else rxView b.1 := apply_ite (fun x : State × α => rxView x.1) c a b
@[simp] theorem foldl_rxView {α : Type} (l : List α) (f : State → α → State) (s : State)
    (h : ∀ u x, rxView (f u x) = rxView u) :
    rxView (l.foldl f s) = rxView s := foldl_view rxView l f s fun u x _ => h u x
@[simp] theorem forEach_rxView (l : List Nat) (f : State → Nat → State) (s : State)
    (h : ∀ u x, rxView (f u x) = rxView u) :
    rxView (forEach l f s) = rxView s := foldl_rxView l f s h
@[simp] theorem put_rxView (s : State) (i j v : Nat) : rxView (put s i j v) = rxView s := (rfl)
@[simp] theorem putS_rxView (s : State) (w i j : Nat) (v : Int) : rxView (putS s w i j v) = rxView s := (rfl)
@[simp] theorem wrapBy_rxView (w : Nat) (s : State) (i j n : Nat) : rxView (wrapBy w s i j n) = rxView s := (rfl)
@[simp] theorem satBy_rxView (w : Nat) (s : State) (i j n : Nat) : rxView (satBy w s i j n) = rxView s := (rfl)
@[simp] theorem bump_rxView (s : State) (i j : Nat) : rxView (bump s i j) = rxView s := (rfl)
@[simp] theorem sat_rxView (s : State) (i j : Nat) : rxView (sat s i j) = rxView s := (rfl)
@[simp] theorem putBlob_rxView (s : State) (i j : Nat) (l : List Byte) : rxView (putBlob s i j l) = rxView s := (rfl)
@[simp] theorem putLog_rxView (s : State) (i j v : Nat) : rxView (putLog s i j v) = rxView s := (rfl)
@[simp] theorem satLog_rxView (w : Nat) (s : State) (i j : Nat) : rxView (satLog w s i j) = rxView s := (rfl)
@[simp] theorem emit_rxView (s : State) (o : Output) : rxView (emit s o) = rxView s := (rfl)
@[simp] theorem emitAll_rxView (s : State) (l : List Output) : rxView (emitAll s l) = rxView s := (rfl)
@[simp] theorem setStation_rxView (s : State) (n : Nat) (f : Station → Station) : rxView (setStation s n f) = rxView s := (rfl)
@[simp] theorem setTracker_rxView (s : State) (n : Nat) (f : Tracker → Tracker) : rxView (setTracker s n f) = rxView s := (rfl)
@[simp] theorem setMotor_rxView (s : State) (n : Nat) (f : Motor → Motor) : rxView (setMotor s n f) = rxView s := (rfl)
@[simp] theorem setAxis_rxView (s : State) (n : Nat) (f : Axis → Axis) : rxView (setAxis s n f) = rxView s := (rfl)
@[simp] theorem setLoop_rxView (s : State) (n : Nat) (f : Loop → Loop) : rxView (setLoop s n f) = rxView s := (rfl)
@[simp] theorem setTenant_rxView (s : State) (n : Nat) (f : Tenant → Tenant) : rxView (setTenant s n f) = rxView s := (rfl)
@[simp] theorem modSheet_rxView (s : State) (uid : Nat) (f : Sheet → Sheet) : rxView (modSheet s uid f) = rxView s := (rfl)
@[simp] theorem setPort_rxView (s : State) (n : Nat) (f : Port → Port) (h : ∀ x, (f x).rx = x.rx) : rxView (setPort s n f) = rxView s :=
  congrArg RxView.mk (rxTable_setPort s n f h)

@[simp] theorem holdTime_rxView (s : State) : rxView (holdTime s) = rxView s := (rfl)
@[simp] theorem vector_rxView (s : State) (fn vec : Nat) : rxView (vector s fn vec) = rxView s := by unfold vector; simp
@[simp] theorem mirrorWrite_rxView (s : State) (e : Entry) : rxView (mirrorWrite s e) = rxView s := by unfold mirrorWrite; (repeat' split) <;> simp
@[simp] theorem ringWrite_rxView (s : State) (e : Entry) : rxView (ringWrite s e) = rxView s := by unfold ringWrite; simp
@[simp] theorem notice_rxView (s : State) (idx sub cls : Nat) : rxView (notice s idx sub cls) = rxView s := by unfold notice; simp
@[simp] theorem noticeAlone_rxView (s : State) (idx sub cls : Nat) : rxView (noticeAlone s idx sub cls) = rxView s := by unfold noticeAlone; simp
@[simp] theorem classVectors_rxView (s : State) (cls : Nat) : rxView (classVectors s cls) = rxView s := by unfold classVectors; simp
@[simp] theorem logOnly_rxView (s : State) (cls kind src inst idx sub : Nat) (serial : Option Nat) (detail : Nat) :
  rxView (logOnly s cls kind src inst idx sub serial detail) = rxView s := by
  unfold logOnly; simp
@[simp] theorem log_rxView (s : State) (cls kind src inst idx sub : Nat) (serial : Option Nat) (detail : Nat) :
  rxView (log s cls kind src inst idx sub serial detail) = rxView s := by
  unfold log; simp
@[simp] theorem logEvent_rxView (s : State) (cls src inst idx sub : Nat) : rxView (logEvent s cls src inst idx sub) = rxView s := by
  unfold logEvent; simp
@[simp] theorem serveDrop_rxView (s : State) (m : Mech) (inst : Nat) : rxView (serveDrop s m inst) = rxView s := (rfl)
@[simp] theorem watch_rxView (high : Bool) (s : State) (idx sub old v : Nat) : rxView (watch high s idx sub old v) = rxView s := by
  unfold watch; simp
@[simp] theorem setSlots_rxView (s : State) (l : Tab Event) : rxView (setSlots s l) = rxView s := by unfold setSlots; simp
@[simp] theorem dropEvents_rxView (s : State) (p : Event → Bool) : rxView (dropEvents s p) = rxView s := by unfold dropEvents; simp
@[simp] theorem writeEntry_rxView (s : State) (t : Nat) (l : List Byte) : rxView (writeEntry s t l) = rxView s := (rfl)
@[simp] theorem signalEntry_rxView (s : State) (t : Nat) : rxView (signalEntry s t) = rxView s := by unfold signalEntry; simp
@[simp] theorem writeSignal_rxView (s : State) (t : Nat) (h : Held) : rxView (writeSignal s t h) = rxView s := by unfold writeSignal; simp
@[simp] theorem deliver_rxView (s : State) (t : Nat) (h : Held) : rxView (deliver s t h) = rxView s := by unfold deliver; simp
@[simp] theorem flushHeld_rxView (t a : Nat) (a1 : State) : rxView (flushHeld t a a1) = rxView a1 := by fun_induction flushHeld t a a1 <;> simp [*]
@[simp] theorem countOutcome_rxView (s : State) (outcome : Nat) : rxView (countOutcome s outcome) = rxView s := by unfold countOutcome; simp
@[simp] theorem completion_rxView (s : State) (sh : Sheet) (outcome reason : Nat) (double : Bool) :
  rxView (completion s sh outcome reason double) = rxView s := by
  unfold completion; simp
@[simp] theorem removeSheet_rxView (s : State) (uid : Nat) : rxView (removeSheet s uid) = rxView s := by unfold removeSheet; simp
@[simp] theorem overtaken_rxView (s : State) (uid : Nat) : rxView (overtaken s uid) = rxView s := (rfl)
@[simp] theorem setMotorState_rxView (s : State) (m v : Nat) : rxView (setMotorState s m v) = rxView s := (rfl)
@[simp] theorem startRamp_rxView (s : State) (m : Nat) (v : Int) (d : Nat) : rxView (startRamp s m v d) = rxView s := (rfl)
@[simp] theorem unlock_rxView (s : State) (m : Nat) : rxView (unlock s m) = rxView s := by unfold unlock; simp
@[simp] theorem rampStop_rxView (s : State) (m : Nat) : rxView (rampStop s m) = rxView s := by unfold rampStop; simp
@[simp] theorem setHomed_rxView (s : State) (a : Nat) (b : Bool) : rxView (setHomed s a b) = rxView s := (rfl)
@[simp] theorem settlePosition_rxView (s : State) (a : Nat) (pos : Int) (steps : Nat) : rxView (settlePosition s a pos steps) = rxView s := (rfl)
@[simp] theorem hardStop_rxView (s : State) (a : Nat) : rxView (hardStop s a) = rxView s := by unfold hardStop; simp only; (repeat' split) <;> simp
@[simp] theorem slowStop_rxView (s : State) (a : Nat) (dec : Option Nat) : rxView (slowStop s a dec) = rxView s := by
  unfold slowStop; simp only; (repeat' split) <;> simp
@[simp] theorem rampedStop_rxView (s : State) (a : Nat) : rxView (rampedStop s a) = rxView s := by unfold rampedStop; simp
@[simp] theorem wakeAxis_rxView (s : State) (a : Nat) : rxView (wakeAxis s a) = rxView s := by unfold wakeAxis; simp
@[simp] theorem outputOff_rxView (s : State) (n : Nat) : rxView (outputOff s n) = rxView s := by unfold outputOff; simp
@[simp] theorem loopOffNow_rxView (s : State) (n : Nat) : rxView (loopOffNow s n) = rxView s := by unfold loopOffNow; simp
@[simp] theorem softStart_rxView (s : State) (n : Nat) : rxView (softStart s n) = rxView s := by unfold softStart; simp
@[simp] theorem selectBank_rxView (s : State) (n b : Nat) : rxView (selectBank s n b) = rxView s := (rfl)
@[simp] theorem restLanes_rxView (s : State) (n : Nat) : rxView (restLanes s n) = rxView s := (rfl)
@[simp] theorem setLinkState_rxView (s : State) (n v : Nat) : rxView (setLinkState s n v) = rxView s := by unfold setLinkState; simp
@[simp] theorem sendLspi_rxView (s : State) (n : Nat) (l : List Nat) : rxView (sendLspi s n l) = rxView s := (rfl)
@[simp] theorem linkBegin_rxView (s : State) (n : Nat) (rep serve : Bool) : rxView (linkBegin s n rep serve) = rxView s := by unfold linkBegin; simp
@[simp] theorem linkUp_rxView (s : State) (n : Nat) (serve : Bool) : rxView (linkUp s n serve) = rxView s := by unfold linkUp; simp
@[simp] theorem updateFreeboard_rxView (s : State) (n : Nat) : rxView (updateFreeboard s n) = rxView s := by unfold updateFreeboard; simp
@[simp] theorem setDecoder_rxView (s : State) (n v : Nat) : rxView (setDecoder s n v) = rxView s := (rfl)
@[simp] theorem refill_rxView (s : State) (n : Nat) : rxView (refill s n) = rxView s := by unfold refill; simp
@[simp] theorem dropPlane_rxView (s : State) (n state : Nat) : rxView (dropPlane s n state) = rxView s := (rfl)
@[simp] theorem discardData_rxView (s : State) (n uid : Nat) : rxView (discardData s n uid) = rxView s := (rfl)
@[simp] theorem emptyFifo_rxView (s : State) (n : Nat) : rxView (emptyFifo s n) = rxView s := by unfold emptyFifo; simp
@[simp] theorem stopRaster_rxView (s : State) (n : Nat) : rxView (stopRaster s n) = rxView s := by unfold stopRaster; simp
@[simp] theorem forgetAt_rxView (s : State) (uid n : Nat) : rxView (forgetAt s uid n) = rxView s := by unfold forgetAt; simp
@[simp] theorem forgetRaster_rxView (s : State) (uid : Nat) : rxView (forgetRaster s uid) = rxView s := by unfold forgetRaster; simp
@[simp] theorem cancelSheet_rxView (s : State) (sh : Sheet) : rxView (cancelSheet s sh) = rxView s := by unfold cancelSheet; simp
@[simp] theorem phaseLost_rxView (s : State) (k : Nat) : rxView (phaseLost s k) = rxView s := by unfold phaseLost; simp
@[simp] theorem holdOff_rxView (s : State) (k : Nat) : rxView (holdOff s k) = rxView s := by unfold holdOff; simp
@[simp] theorem holdUnlit_rxView (s : State) : rxView (holdUnlit s) = rxView s := by unfold holdUnlit; simp
@[simp] theorem setExternal_rxView (s : State) (p v : Nat) : rxView (setExternal s p v) = rxView s := by unfold setExternal; simp
@[simp] theorem putFrame_rxView (s : State) (p : Nat) (o : Outgoing) : rxView (putFrame s p o) = rxView s := by unfold putFrame; simp
@[simp] theorem sendFrame_rxView (s : State) (p type dst : Nat) (payload : List Byte) : rxView (sendFrame s p type dst payload) = rxView s := by
  unfold sendFrame; simp
@[simp] theorem broadcast_rxView (s : State) (ports : List Nat) (type : Nat) (payload : List Byte) :
  rxView (broadcast s ports type payload) = rxView s := by
  unfold broadcast; simp
@[simp] theorem modeFrames_rxView (s : State) (new old : Mode) (cause : Nat) (awake : List Nat) :
  rxView (modeFrames s new old cause awake) = rxView s := by
  unfold modeFrames; simp
@[simp] theorem moveBufHead_rxView (s : State) (t : Nat) : rxView (moveBufHead s t) = rxView s := by unfold moveBufHead; simp
@[simp] theorem bellError_rxView (s : State) (t : Nat) : rxView (bellError s t) = rxView s := by unfold bellError; simp
@[simp] theorem tailBell_rxView (s : State) (t i : Nat) : rxView (tailBell s t i) = rxView s := by unfold tailBell; simp
@[simp] theorem headBell_rxView (s : State) (t i : Nat) : rxView (headBell s t i) = rxView s := by unfold headBell; simp
@[simp] theorem cancelBell_rxView (s : State) (t i : Nat) : rxView (cancelBell s t i) = rxView s := by unfold cancelBell; simp
@[simp] theorem ringBell_rxView (s : State) (t kind i : Nat) : rxView (ringBell s t kind i) = rxView s := by unfold ringBell; simp
@[simp] theorem merged_rxView (s : State) (g : Nat) : rxView (merged s g) = rxView s := (rfl)
@[simp] theorem dropStaged_rxView (s : State) (g : Nat) : rxView (dropStaged s g) = rxView s := (rfl)
@[simp] theorem copyGroup_rxView (s : State) (g : Nat) : rxView (copyGroup s g) = rxView s := (rfl)
@[simp] theorem rejectGroup_rxView (s : State) (g : Nat) : rxView (rejectGroup s g) = rxView s := by unfold rejectGroup; simp
@[simp] theorem setDlls_rxView (s : State) (v : Nat) : rxView (setDlls s v) = rxView s := by unfold setDlls; simp
@[simp] theorem closeGate_rxView (s : State) : rxView (closeGate s) = rxView s := by unfold closeGate; simp
@[simp] theorem relockAttempt_rxView (s : State) : rxView (relockAttempt s) = rxView s := (rfl)
@[simp] theorem startRelock_rxView (s : State) (occ : Occasion) : rxView (startRelock s occ) = rxView s := by unfold startRelock; simp
@[simp] theorem recordMode_rxView (s : State) (new : Mode) (cause : Nat) : rxView (recordMode s new cause) = rxView s := by unfold recordMode; simp
@[simp] theorem sayMode_rxView (s : State) (ports : List Nat) : rxView (sayMode s ports) = rxView s := by unfold sayMode; simp
@[simp] theorem loopModeOff_rxView (s : State) (n : Nat) : rxView (loopModeOff s n) = rxView s := by unfold loopModeOff; simp
@[simp] theorem loopModeOn_rxView (s : State) (b n : Nat) : rxView (loopModeOn s b n) = rxView s := by unfold loopModeOn; simp
@[simp] theorem rampMotors_rxView (s : State) : rxView (rampMotors s) = rxView s := by unfold rampMotors; simp
@[simp] theorem rampAxes_rxView (s : State) : rxView (rampAxes s) = rxView s := by unfold rampAxes; simp
@[simp] theorem rasterOff_rxView (s : State) : rxView (rasterOff s) = rxView s := by unfold rasterOff; simp
@[simp] theorem serviceOff_rxView (s : State) : rxView (serviceOff s) = rxView s := by unfold serviceOff; simp
@[simp] theorem ringBells_rxView (s : State) : rxView (ringBells s) = rxView s := by unfold ringBells; simp
@[simp] theorem leaveDoze_rxView (s : State) : rxView (leaveDoze s) = rxView s := by unfold leaveDoze; simp
@[simp] theorem intoStandby_rxView (s : State) (old : Mode) : rxView (intoStandby s old) = rxView s := by unfold intoStandby; simp
@[simp] theorem settlePending_rxView (s : State) : rxView (settlePending s) = rxView s := by unfold settlePending; split <;> simp
@[simp] theorem wakeAxes_rxView (s : State) (index : Nat) : rxView (wakeAxes s index) = rxView s := by unfold wakeAxes; simp
/-- The rails alone. -/
structure RailTable where
  rails : Tab Rail

def railTable (s : State) : RailTable :=
  ⟨s.rails⟩

@[simp] theorem railTable_mk (time powered md kick hold reset_ seq rails clk net flash dict blobs staged stagedBlobs stagers armed accs sheets
    nextUid tenants coalescing mem stations trackers slots motors axes loops ains pins diag log heatTicks heatFrom out fresh pending) :
    railTable ⟨time, powered, md, kick, hold, reset_, seq, rails, clk, net, flash, dict, blobs, staged, stagedBlobs, stagers, armed, accs,
    sheets, nextUid, tenants, coalescing, mem, stations, trackers, slots, motors, axes, loops, ains, pins, diag, log, heatTicks, heatFrom, out,
    fresh, pending⟩ = ⟨rails⟩ := rfl
@[simp] theorem railTable_self (s : State) :
    RailTable.mk s.rails = railTable s := rfl

@[simp] theorem ite_railTable (c : Prop) [Decidable c] (a b : State) :
    railTable (if c then a else b) = if c then railTable a else railTable b := apply_ite railTable c a b
@[simp] theorem ite_railTable1 {α : Type} (c : Prop) [Decidable c] (a b : State × α) :
    railTable (if c then a else b).1 = if c then railTable a.1 else railTable b.1 := apply_ite (fun x : State × α => railTable x.1) c a b
@[simp] theorem foldl_railTable {α : Type} (l : List α) (f : State → α → State) (s : State)
    (h : ∀ u x, railTable (f u x) = railTable u) :
    railTable (l.foldl f s) = railTable s := foldl_view railTable l f s fun u x _ => h u x
@[simp] theorem forEach_railTable (l : List Nat) (f : State → Nat → State) (s : State)
    (h : ∀ u x, railTable (f u x) = railTable u) :
    railTable (forEach l f s) = railTable s := foldl_railTable l f s h
@[simp] theorem put_railTable (s : State) (i j v : Nat) : railTable (put s i j v) = railTable s := (rfl)
@[simp] theorem putS_railTable (s : State) (w i j : Nat) (v : Int) : railTable (putS s w i j v) = railTable s := (rfl)
@[simp] theorem wrapBy_railTable (w : Nat) (s : State) (i j n : Nat) : railTable (wrapBy w s i j n) = railTable s := (rfl)
@[simp] theorem putLog_railTable (s : State) (i j v : Nat) : railTable (putLog s i j v) = railTable s := (rfl)
@[simp] theorem satLog_railTable (w : Nat) (s : State) (i j : Nat) : railTable (satLog w s i j) = railTable s := (rfl)
@[simp] theorem emit_railTable (s : State) (o : Output) : railTable (emit s o) = railTable s := (rfl)
@[simp] theorem setStation_railTable (s : State) (n : Nat) (f : Station → Station) : railTable (setStation s n f) = railTable s := (rfl)
@[simp] theorem setTracker_railTable (s : State) (n : Nat) (f : Tracker → Tracker) : railTable (setTracker s n f) = railTable s := (rfl)
@[simp] theorem setMotor_railTable (s : State) (n : Nat) (f : Motor → Motor) : railTable (setMotor s n f) = railTable s := (rfl)
@[simp] theorem setAxis_railTable (s : State) (n : Nat) (f : Axis → Axis) : railTable (setAxis s n f) = railTable s := (rfl)

@[simp] theorem holdTime_railTable (s : State) : railTable (holdTime s) = railTable s := (rfl)
@[simp] theorem vector_railTable (s : State) (fn vec : Nat) : railTable (vector s fn vec) = railTable s := by unfold vector; simp
@[simp] theorem mirrorWrite_railTable (s : State) (e : Entry) : railTable (mirrorWrite s e) = railTable s := by
  unfold mirrorWrite; (repeat' split) <;> simp
@[simp] theorem ringWrite_railTable (s : State) (e : Entry) : railTable (ringWrite s e) = railTable s := by unfold ringWrite; simp
@[simp] theorem notice_railTable (s : State) (idx sub cls : Nat) : railTable (notice s idx sub cls) = railTable s := by unfold notice; simp
@[simp] theorem classVectors_railTable (s : State) (cls : Nat) : railTable (classVectors s cls) = railTable s := by unfold classVectors; simp
@[simp] theorem logOnly_railTable (s : State) (cls kind src inst idx sub : Nat) (serial : Option Nat) (detail : Nat) :
  railTable (logOnly s cls kind src inst idx sub serial detail) = railTable s := by
  unfold logOnly; simp
@[simp] theorem log_railTable (s : State) (cls kind src inst idx sub : Nat) (serial : Option Nat) (detail : Nat) :
  railTable (log s cls kind src inst idx sub serial detail) = railTable s := by
  unfold log; simp
@[simp] theorem logEvent_railTable (s : State) (cls src inst idx sub : Nat) : railTable (logEvent s cls src inst idx sub) = railTable s := by
  unfold logEvent; simp
@[simp] theorem setMotorState_railTable (s : State) (m v : Nat) : railTable (setMotorState s m v) = railTable s := (rfl)
@[simp] theorem gatesOff_railTable (s : State) (m : Nat) : railTable (gatesOff s m) = railTable s := (rfl)
@[simp] theorem motorOff_railTable (s : State) (m : Nat) : railTable (motorOff s m) = railTable s := (rfl)
@[simp] theorem settlePosition_railTable (s : State) (a : Nat) (pos : Int) (steps : Nat) : railTable (settlePosition s a pos steps) = railTable
    s := (rfl)
@[simp] theorem freeze_railTable (s : State) (a : Nat) : railTable (freeze s a) = railTable s := by unfold freeze; split <;> simp
@[simp] theorem disableAxis_railTable (s : State) (a : Nat) : railTable (disableAxis s a) = railTable s := by unfold disableAxis; simp
@[simp] theorem restLanes_railTable (s : State) (n : Nat) : railTable (restLanes s n) = railTable s := (rfl)
@[simp] theorem phaseLost_railTable (s : State) (k : Nat) : railTable (phaseLost s k) = railTable s := by unfold phaseLost; simp
@[simp] theorem holdOff_railTable (s : State) (k : Nat) : railTable (holdOff s k) = railTable s := by unfold holdOff; simp
@[simp] theorem holdUnlit_railTable (s : State) : railTable (holdUnlit s) = railTable s := by unfold holdUnlit; simp
@[simp] theorem pinsToSleep_railTable (s : State) : railTable (pinsToSleep s) = railTable s := (rfl)
@[simp] theorem setDlls_railTable (s : State) (v : Nat) : railTable (setDlls s v) = railTable s := by unfold setDlls; simp
@[simp] theorem closeGate_railTable (s : State) : railTable (closeGate s) = railTable s := by unfold closeGate; simp
@[simp] theorem stopTimebase_railTable (s : State) : railTable (stopTimebase s) = railTable s := by unfold stopTimebase; simp

/-! ## Folds -/

/-- What every step of a fold keeps, the fold keeps. -/
theorem foldl_keeps {α : Type} (P : State → Prop) (l : List α) (f : State → α → State) (s : State) (h : ∀ u, ∀ x ∈ l, P u → P (f u x)) (hs : P s) :
    P (l.foldl f s) := by
  induction l generalizing s with
  | nil => exact hs
  | cons a r ih => exact ih _ (fun u x hx => h u x (List.mem_cons_of_mem a hx)) (h s a List.mem_cons_self hs)

/-! ## The off-sequence of SHUTDOWN (R164) -/

/-- Every motor is in a state of a kind. -/
def MotorsIn (p : Nat → Prop) (s : State) : Prop := ∀ m, m < 12 → p (motorState s m)

theorem motorsIn_congr {p : Nat → Prop} {s t : State} (h : ∀ m, m < 12 → get t (motIdx m) 0x30 = get s (motIdx m) 0x30) (hs : MotorsIn p s) :
    MotorsIn p t := fun m hm => by
  have hstate : motorState t m = motorState s m := h m hm
  rw [hstate]
  exact hs m hm

theorem isLogIdx_motIdx (m : Nat) : isLogIdx (motIdx m) = false := by simp [isLogIdx, motIdx]; omega

theorem motorState_motorOff (s : State) (m k : Nat) : motorState (motorOff s m) k = if k = m then 0 else motorState s k := by
  have hspeed : keyOf (motIdx k) 0x30 ≠ keyOf (motIdx m) 0x31 := by unfold keyOf motIdx; omega
  unfold motorState motorOff
  simp only [get_setMotor, putS, get_put_other _ _ hspeed, setMotorState]
  split
  next h => rw [h, get_put_same _ _ _ (isLogIdx_motIdx m)]
  next h => rw [get_put_other _ _ (by unfold keyOf motIdx; omega)]; rfl

theorem motorState_foldl_motorOff (l : List Nat) (s : State) (k : Nat) :
    motorState (l.foldl motorOff s) k = if k ∈ l then 0 else motorState s k := by
  induction l generalizing s with
  | nil => simp
  | cons a r ih =>
    rw [List.foldl_cons, ih, motorState_motorOff]
    by_cases hr : k ∈ r <;> by_cases ha : k = a <;> simp [hr, ha]

theorem motorsOff_all (s : State) : MotorsIn (· = 0) (forEach (List.range 12) motorOff s) := fun m hm => by
  rw [forEach, motorState_foldl_motorOff, if_pos (List.mem_range.2 hm)]

section
variable {p : Nat → Prop} (h5 : ¬p 5) {s : State} (h : MotorsIn p s)
include h5 h

/-- A tracker that is held off takes a motor out of PHASE-LOCKED only. -/
theorem holdOff_motorsIn (k : Nat) : MotorsIn p (holdOff s k) := by
  have hkeep : phaseLost s k = s := by
    unfold phaseLost
    refine if_neg fun ⟨hk, hlocked⟩ => ?_
    have hp := h k (by omega)
    rw [hlocked] at hp
    exact h5 hp
  rw [holdOff, hkeep]
  exact h

theorem holdUnlit_motorsIn : MotorsIn p (holdUnlit s) := by
  refine foldl_keeps (MotorsIn p) _ _ s (fun u k _ hu => ?_) h
  split
  · exact hu
  · exact holdOff_motorsIn h5 hu k

omit h5 in
theorem put_motorsIn {i j v : Nat} (hk : ∀ m, m < 12 → keyOf (motIdx m) 0x30 ≠ keyOf i j) : MotorsIn p (put s i j v) :=
  motorsIn_congr (fun m hm => get_put_other s v (hk m hm)) h

theorem closeGate_motorsIn : MotorsIn p (closeGate s) := by
  unfold closeGate
  extract_lets t
  have ht : MotorsIn p t := by
    simp only [t]
    split
    · refine foldl_keeps (MotorsIn p) _ _ _ (fun u n _ hu => ?_) h
      exact put_motorsIn hu fun m hm => by unfold keyOf motIdx linkCnt; omega
    · exact h
  refine holdUnlit_motorsIn h5 (foldl_keeps (MotorsIn p) _ _ _ (fun u n hn hu => ?_) ht)
  have hn' : n < 6 := mem_stationsPresent hn
  exact put_motorsIn hu fun m hm => by unfold keyOf motIdx; omega

theorem stopTimebase_motorsIn : MotorsIn p (stopTimebase s) := by
  unfold stopTimebase
  split
  · exact h
  · exact put_motorsIn (closeGate_motorsIn h5 h) fun m hm => by unfold keyOf motIdx; omega

end

/-- The off-sequence of SHUTDOWN, as it begins. -/
def shutdownOff (s : State) : State :=
  let t := stopTimebase (forEach (List.range 12) motorOff (forEach (List.range 16) disableAxis s))
  let t := pinsToSleep { t with md := { t.md with offStarted := true } }
  { t with seq := { t.seq with state := 3, why := .shutdown } }

theorem shutdownOff_shows (s : State) :
    (shutdownOff s).seq.state = 3 ∧ (shutdownOff s).seq.why = .shutdown ∧ (shutdownOff s).md = { s.md with offStarted := true } ∧
      (shutdownOff s).rails = s.rails ∧ (shutdownOff s).sheets = s.sheets ∧ MotorsIn (· = 0) (shutdownOff s) := by
  have hmd : modeView (stopTimebase (forEach (List.range 12) motorOff (forEach (List.range 16) disableAxis s))) = modeView s := by simp
  have hrails : railTable (stopTimebase (forEach (List.range 12) motorOff (forEach (List.range 16) disableAxis s))) = railTable s := by simp
  have hsheets : (stopTimebase (forEach (List.range 12) motorOff (forEach (List.range 16) disableAxis s))).sheets = s.sheets := by simp
  have hoff := stopTimebase_motorsIn (p := (· = 0)) (by decide) (motorsOff_all (forEach (List.range 16) disableAxis s))
  unfold shutdownOff
  generalize stopTimebase (forEach (List.range 12) motorOff (forEach (List.range 16) disableAxis s)) = t at *
  exact ⟨rfl, rfl, by rw [← md_of_modeView hmd]; rfl, congrArg RailTable.rails hrails, hsheets, hoff⟩

/-! ## DOZE and wake (R165, R616) -/

/-- No frame waits on a port. -/
def RxEmpty (s : State) : Prop := ∀ p, p < 7 → (port s p).rx = []

theorem rxEmpty_of_rxView {s t : State} (h : rxView t = rxView s) (hs : RxEmpty s) : RxEmpty t :=
  fun p hp => (congrFun (congrArg RxView.rxTable h) p).trans (hs p hp)

theorem rxTable_setRx_nil (s : State) (p k : Nat) (h : (port s k).rx = []) : (port (setRx s p []) k).rx = [] := by
  have hwatch : rxView (setRx s p []) = rxView (setPort s p fun y => { y with rx := [] }) := by simp [setRx]
  have hport : (port (setRx s p []) k).rx = (port (setPort s p fun y => { y with rx := [] }) k).rx := congrFun (congrArg RxView.rxTable hwatch) k
  rw [hport]
  by_cases hk : k = p
  · subst hk
    rw [port_setPort_same]
  · rw [port_setPort_other _ _ hk, h]

/-- A port where nothing waits serves nothing. -/
theorem drainRx_of_empty {s : State} {p : Nat} (h : (port s p).rx = []) : drainRx s p = s ∨ drainRx s p = setRx s p [] := by
  unfold drainRx
  split
  · exact .inl rfl
  · right
    simp [h, serveQueue]

theorem drainAll_of_empty {s : State} (h : RxEmpty s) : modeView (drainAll s) = modeView s := by
  have keeps : RxEmpty (drainAll s) ∧ modeView (drainAll s) = modeView s := by
    refine foldl_keeps (fun u => RxEmpty u ∧ modeView u = modeView s) _ _ s (fun u p hp hu => ?_) ⟨h, rfl⟩
    obtain ⟨hempty, hview⟩ := hu
    rcases drainRx_of_empty (hempty p (List.mem_range.1 hp)) with heq | heq
    · rw [heq]
      exact ⟨hempty, hview⟩
    · rw [heq, setRx_modeView]
      exact ⟨fun k hk => rxTable_setRx_nil u p k (hempty k hk), hview⟩
  exact keeps.2

theorem enterMode_standby_rxView (s : State) (c : Nat) : rxView (enterMode s .standby c) = rxView s := by
  have hrec : (recordMode s .standby c).md.mode = .standby := by rw [(modeView_eq_iff.1 (recordMode_modeView s .standby c)).1]
  simp [enterMode, modeActions_standby hrec]

/-- The wake of DOZE ends in STANDBY, and where no frame waits nothing more happens to the mode. -/
theorem wokenAxes_row {s : State} (h : RxEmpty s) (c index : Nat) :
    let t := drainAll (wakeAxes (enterMode s .standby c) index)
    t.md.mode = .standby ∧ t.md.previous = s.md.mode ∧ get t 0x2000 5 = c := by
  have hempty : RxEmpty (wakeAxes (enterMode s .standby c) index) :=
    rxEmpty_of_rxView (s := s) (by rw [wakeAxes_rxView, enterMode_standby_rxView]) h
  have hrow : rowView (drainAll (wakeAxes (enterMode s .standby c) index)) = (.standby, s.md.mode, c) := by
    rw [rowView_of_modeView (drainAll_of_empty hempty), rowView_of_modeView (wakeAxes_modeView _ _), enterMode_rowView]
  exact rowView_eq_iff.1 hrow

/-- The wake begins: the on-sequence of the DOZE rails (R165, R616). -/
theorem beginWake_eq {s : State} (hmode : s.md.mode = .doze) (hwake : s.md.waking = false) (c : Nat) :
    beginWake s c = { s with md := { s.md with waking := true, wakeCause := c },
                             seq := { s.seq with state := 1, why := .none, dozeRails := true, since := s.time } } := by
  simp [beginWake, hmode, hwake, dozeRailsOn]

theorem railResetOff_eq {s : State} (h : s.seq.why = .railReset) :
    (if anyRailOn s then beginOff s .railReset else { s with seq := { s.seq with state := 0 } }) =
      { s with seq := { s.seq with state := if anyRailOn s = true then 3 else 0 } } := by
  split <;> simp [beginOff, ← h]

/-- Settles O14: each command is its own equation; the mode rows are `enterMode_row` and `wokenAxes_row`. -/
theorem offAndDoze : Obligations.OffAndDoze := by
  unfold Obligations.OffAndDoze
  refine ⟨fun s => ⟨fun hwhy h0 h3 hrun => ⟨_, ?_, railResetOff_eq hwhy⟩, fun hmode hhold hoff hmay => ⟨shutdownOff s, ?_, shutdownOff_shows s⟩,
    fun hmay => ⟨s, ?_, rfl⟩, fun hmode hhold hoff hrails hwake => ⟨_, ?_, rfl⟩, fun hmode hhold hend => ⟨_, ?_, rfl⟩⟩,
    fun s => ⟨fun hdozing hmode => ⟨enterMode (forEach (List.range 16) endAlign s) .doze s.md.dozeCause, ?_, ?_⟩, fun hmode hwake => ?_,
      fun index hmode hwake hstate hdoze hup hempty => ?_⟩⟩
  · simp [exec, execRailResetOffStart, hwhy, h0, h3, hrun, done]
  · simp [exec, execShutdownOffStart, hmode, hhold, hoff, hmay, done, shutdownOff]
  · simp [exec, execShutdownOffStart, hmay, done]
  · simp [exec, execShutdownSequenceEnd, hmode, hhold, hoff, hrails, hwake, done]
  · simp [exec, execWakeIn, hmode, hhold, hend, done]
  · simp [exec, execDozeEnter, hdozing, hmode, done]
  · have hmd : (forEach (List.range 16) endAlign s).md = s.md := md_of_modeView (by simp)
    obtain ⟨hrow, hprev, hcause⟩ := enterMode_row (forEach (List.range 16) endAlign s) .doze s.md.dozeCause
    exact ⟨hrow, by rw [hprev, hmd, hmode], hcause⟩
  · exact ⟨⟨_, by simp [exec, execWakeIn, hmode, done], beginWake_eq hmode hwake 5⟩,
      fun hup => ⟨_, by simp [exec, execPciExpressWake, hup, done], beginWake_eq hmode hwake 5⟩⟩
  · obtain ⟨hrow, hprev, hcause⟩ := wokenAxes_row (s := { s with seq := { s.seq with state := 2, dozeRails := false } }) hempty s.md.wakeCause index
    exact ⟨_, by simp [exec, execDozeWakeComplete, hmode, hwake, hstate, hdoze, hup, done], hrow, hprev.trans hmode, hcause⟩

end Sys2Proof.Machine

/-! # TERP restart, owner key, debug access (R135, R138) -/

namespace Sys2Proof.Machine

/-! ## An accepted write (R59) -/

theorem writeCommand_accepted {s : State} {acc : Accessor} {i j : Nat} {d : List Byte} (h : Accepted s acc i j d) (hview : viewOf i = (i, false)) :
    writeCommand acc i j d s =
      let r := writeEffect (breakLock s acc i j) acc (writeRow i j) i j (ofLe d) d
      emit r.1 (.answer acc r.2 []) := by
  obtain ⟨hans, hcode⟩ := h
  simp [writeCommand, writeDict, hans, hcode, hview, operandValue]

theorem answered_emit (acc : Accessor) (s : State) : Answered acc (emit s (.answer acc 0 [])) := rfl

/-! ## TERP restart (R135) -/

theorem writeEffect_terpRestart (s : State) (acc : Accessor) (v : Nat) (d : List Byte) :
    writeEffect s acc (writeRow 0x2040 2) 0x2040 2 v d = (terpRestart s, 0) := by
  have hcls : (writeRow 0x2040 2).cls ≠ .rws := by decide
  have heffect : effectSystem s acc 0x2040 2 v d = (terpRestart s, 0) := by
    unfold effectSystem
    rw [if_neg (by decide), if_pos rfl, if_pos rfl]
  simp [writeEffect, hcls, thresholdOf, heffect]

theorem tabFind_filter_key {α : Type} (t : Tab α) (p : Nat → Bool) (k : Nat) (h : p k = true) :
    tabFind (t.filter fun q => p q.1) k = tabFind t k := by
  induction t with
  | nil => rfl
  | cons a r ih =>
    obtain ⟨n, v⟩ := a
    by_cases hn : p n = true
    · simp [hn, tabFind, ih]
    · have hne : n ≠ k := fun e => hn (e ▸ h)
      simp [hn, tabFind, hne, ih]

/-- What a warm reset keeps of the objects (R615). -/
theorem get_warmKept (s : State) {i j : Nat} (h : keptKey (keyOf i j) = true) (hi : isLogIdx i = false) : get (warmKept s) i j = get s i j := by
  rw [get_dict _ _ hi, get_dict _ _ hi]
  exact congrArg (Option.getD · _) (tabFind_filter_key s.dict keptKey _ h)

theorem discarded_pressView (s : State) : pressView (discardAllStaged (spoilAll s)) = pressView s := by simp

theorem get_cleared (s : State) {i j : Nat} (h : keptKey (keyOf i j) = true) (hlow : 0x2001 ≤ i) (hhigh : i < 0x2400) (hj : j < 256) :
    get (cleared s) i j = get s i j := by
  have hi : isLogIdx i = false := by simp [isLogIdx]; omega
  rw [cleared, get_warmKept _ h hi]
  exact get_of_lowDict (congrArg PressView.lowDict (discarded_pressView s)) hlow hhigh hj

/-- A warm reset that no rule of its own has led to: the row to KICKOFF, the safe outputs, and the retained counter (R128, R615). -/
theorem warmReset_shows (s : State) (c : Nat) :
    let t := warmReset s c false
    t.md.mode = .kickoff ∧ t.md.previous = s.md.mode ∧ get t 0x2000 5 = c ∧ get t 0x2030 1 = get s 0x2030 1 ∧ t.pins.safeN = true := by
  have same := clearBlock_sameButLog s c
  have hcounter : get (clearBlock s c) 0x2030 1 = get s 0x2030 1 := by
    rw [same.get 1 rfl, modeRecorded, wrapBy, get_put_other _ _ (by decide), get_put_other _ _ (by decide)]
    exact get_cleared s (by decide) (by decide) (by decide) (by decide)
  have hmode : (clearBlock s c).md.mode = .kickoff := congrArg Modes.mode same.md
  have hprev : (clearBlock s c).md.previous = s.md.mode := (congrArg Modes.previous same.md).trans (cleared_mode s)
  have hcause : get (clearBlock s c) 0x2000 5 = c := (same.get 5 rfl).trans (modeRecorded_cause _ _ _)
  have hsafe : (clearBlock s c).pins.safeN = true := congrArg Pins.safeN same.pins
  unfold warmReset
  generalize clearBlock s c = t at *
  simp only [Bool.false_or]
  split
  · rw [kickoffStart_eq rfl]
    refine ⟨hmode, hprev, ?_, ?_, rfl⟩ <;> simp (disch := decide) only [get_put_other]
    · exact hcause
    · exact hcounter
  · exact ⟨hmode, hprev, hcause, hcounter, hsafe⟩

theorem clearFailures_counter (s : State) : get (clearFailures s) 0x2030 1 = 0 := by
  unfold clearFailures
  simp only
  rw [get_putReasons_counter, get_put_same _ _ _ rfl]

/-! ## The owner key (R138) -/

theorem writeEffect_ownerKey (s : State) (acc : Accessor) (v : Nat) (d : List Byte) :
    writeEffect s acc (writeRow 0x2710 2) 0x2710 2 v d = (putBlob s 0x2710 2 d, 0) := by
  have hcls : (writeRow 0x2710 2).cls ≠ .rws := by decide
  have hty : (writeRow 0x2710 2).ty = .blob := by decide
  simp [writeEffect, hcls, hty, thresholdOf]

/-! ## The obligation -/

/-- Settles O15: the restart is a warm reset with its counter cleared; the rest are the commands' own equations. -/
theorem terpAndDebug : Obligations.TerpAndDebug := by
  unfold Obligations.TerpAndDebug
  refine ⟨fun acc d s => ⟨fun hacc hmode => ⟨_, rfl, ?_⟩, fun hacc => ⟨_, rfl, ?_⟩⟩, fun s rs hans => ⟨⟨Config.challenge s.fresh % 2 ^ 128, _, ?_,
    Nat.mod_lt _ (by decide), rfl⟩, fun hdebug => ?_⟩⟩
  · rw [writeCommand_accepted hacc (by decide), writeEffect_terpRestart, terpRestart]
    have hterp : (clearFailures (breakLock s acc 0x2040 2)).md.mode = .terp := by rw [clearFailures_mode, breakLock_md, hmode]
    have hzero := clearFailures_counter (breakLock s acc 0x2040 2)
    generalize clearFailures (breakLock s acc 0x2040 2) = u at *
    obtain ⟨hrow, hprev, hcause, hcounter, hsafe⟩ := warmReset_shows u 1
    generalize warmReset u 1 false = t at *
    exact ⟨hrow, hprev.trans hterp, hcause, hcounter.trans hzero, answered_emit acc _, hsafe⟩
  · rw [writeCommand_accepted hacc (by decide), writeEffect_ownerKey, breakLock_eq]
    exact ⟨by simp [getBlob, putBlob, emit], answered_emit acc _, rfl, fun k hk => tabFind_tabSet_other _ _ hk⟩
  · simp [exec, execDebugChallenge, hans, done, emit]
  · by_cases hvalid : responseValid s rs = true
    · refine ⟨put s 0x2710 1 2, ?_, by simp [hvalid]⟩
      rcases hdebug with h | h <;> simp [exec, execDebugResponse, hans, h, hvalid, done]
    · refine ⟨(if 3 ≤ s.kick.badResponses + 1 then put { s with kick := { s.kick with badResponses := s.kick.badResponses + 1 } } 0x2710 1 3
        else { s with kick := { s.kick with badResponses := s.kick.badResponses + 1 } }), ?_, ?_⟩
      · rcases hdebug with h | h <;> simp [exec, execDebugResponse, hans, h, hvalid, done]
      · beta_reduce
        rw [if_neg hvalid]
        split
        · exact ⟨rfl, get_put_same _ _ _ rfl, keepsObjects_put { s with kick := { s.kick with badResponses := s.kick.badResponses + 1 } } _ _ _ (by simp),
            rfl⟩
        · exact ⟨rfl, rfl, keepsObjects_of_dict_eq rfl, rfl⟩

end Sys2Proof.Machine

/-! # Mode requests and the admission switch (R22, R23, R39 to R46) -/

namespace Sys2Proof.Machine

/-! ## The write of 2000:02 -/

/-- The checks that a write of the mode block has passed. -/
theorem mode_of_writeCode {s : State} {acc : Accessor} {i j : Nat} {d : List Byte} (h : writeCode s acc i j d = 0) (hview : viewOf i = (i, false)) :
    modeCodeOf s (writeRow i j) i j (ofLe d) d = 0 := by
  simp only [writeCode, hview, operandValue] at h
  split_ifs at h <;> simp_all

theorem modeCodeOf_request (s : State) (v : Nat) (d : List Byte) : modeCodeOf s (writeRow 0x2000 2) 0x2000 2 v d = requestCode s v := by
  have hterp : terpCode s 0x2000 = 0 := by simp [terpCode, terpReach]
  have hcls : (writeRow 0x2000 2).cls ≠ .rwm := by decide
  simp [modeCodeOf, hterp, hcls, modeSystem]

/-- An accepted request is one that the mode allows (R40). -/
theorem mayRequest_of_accepted {s : State} {acc : Accessor} {d : List Byte} {p : Mode} (h : Accepted s acc 0x2000 2 d) (hp : modeOfCode (ofLe d) = some p) :
    mayRequest s.md.mode p = true := by
  have hcode := mode_of_writeCode h.2 viewOf_modeBlock
  rw [modeCodeOf_request] at hcode
  unfold requestCode at hcode
  simp only [hp] at hcode
  split_ifs at hcode with h1 h2
  exact h2

theorem writeEffect_modeRequest {s : State} {acc : Accessor} {v : Nat} {d : List Byte} {p : Mode} (hp : modeOfCode v = some p) :
    writeEffect s acc (writeRow 0x2000 2) 0x2000 2 v d = (doRequest s p, 0) := by
  have hcls : (writeRow 0x2000 2).cls ≠ .rws := by decide
  have heffect : effectSystem s acc 0x2000 2 v d = (doRequest s p, 0) := by
    unfold effectSystem
    rw [if_pos rfl]
    simp [hp]
  simp [writeEffect, hcls, thresholdOf, heffect]

/-- An accepted request acts on the modes as they are. -/
theorem completes_modeRequest {s : State} {acc : Accessor} {d : List Byte} {p : Mode} {P : State → Prop} (h : Accepted s acc 0x2000 2 d)
    (hp : modeOfCode (ofLe d) = some p) (hP : ∀ u, u.md = s.md → P (emit (doRequest u p) (.answer acc 0 []))) : Completes (.modeRequest acc d) s P := by
  refine ⟨writeCommand acc 0x2000 2 d s, rfl, ?_⟩
  rw [writeCommand_accepted h viewOf_modeBlock, writeEffect_modeRequest hp]
  exact hP _ (breakLock_md s acc 0x2000 2)

/-! ## What a request does (R41 to R43, R561) -/

theorem safestopRequest_mode {s : State} (hk : s.md.mode ≠ .kickoff) (ht : s.md.mode ≠ .terp) (hd : s.md.mode ≠ .shutdown) :
    (safestopRequest s).md.mode = .safestop := by
  unfold safestopRequest
  by_cases hs : s.md.mode = .safestop
  · rw [if_pos hs, log_mode, safestop_of_masked (.inr (.inr (.inl hs))), md_of_modeView (recordCause_modeView s 1), hs]
  · rw [if_neg hs, safestop_of_operating hk ht hs hd, safestopEnter_row]

theorem enterMode_runout_pending (s : State) (c : Nat) :
    (enterMode s .runout c).md.pending = if s.md.pending = some .runout then none else s.md.pending := by
  have hrec := (modeView_eq_iff.1 (recordMode_modeView s .runout c)).1
  have hmode : (recordMode s .runout c).md.mode = .runout := by rw [hrec]
  have hactions : modeActions (recordMode s .runout c) s.md.mode = withdrawAll (recordMode s .runout c) := by simp [modeActions, hmode]
  have hquiet : modeView (holdUnlit (sayMode (withdrawAll (recordMode s .runout c)) (livePorts (withdrawAll (recordMode s .runout c))))) =
      modeView (recordMode s .runout c) := by simp
  have heq : enterMode s .runout c =
      settlePending (holdUnlit (sayMode (withdrawAll (recordMode s .runout c)) (livePorts (withdrawAll (recordMode s .runout c))))) := by
    simp [enterMode, hactions]
  have hmd := (md_of_modeView hquiet).trans hrec
  rw [heq]
  generalize holdUnlit (sayMode (withdrawAll (recordMode s .runout c)) (livePorts (withdrawAll (recordMode s .runout c)))) = t at hmd
  have hpend : t.md.pending = s.md.pending := by rw [hmd]
  have hrun : t.md.mode = .runout := by rw [hmd]
  rw [← hpend]
  unfold settlePending
  cases h : t.md.pending with
  | none => simpa using h
  | some q =>
    by_cases hq : q = .runout
    · simp [hrun, hq]
    · simp [hrun, hq, Ne.symm hq, h]

theorem doRequest_rally {s : State} {p : Mode} (h : s.md.mode = .rally) (hp : p ≠ .safestop) :
    (doRequest s p).md.mode = .runout ∧ get (doRequest s p) 0x2000 5 = 1 ∧ (doRequest s p).md.pending = (if p = .runout then none else some p) := by
  have heq : doRequest s p = enterMode { s with md := { s.md with pending := if p = .runout then none else some p } } .runout 1 := by
    unfold doRequest
    rw [if_neg hp, if_pos h]
    split <;> rfl
  rw [heq]
  obtain ⟨hmode, _, hcause⟩ := enterMode_row { s with md := { s.md with pending := if p = .runout then none else some p } } .runout 1
  refine ⟨hmode, hcause, ?_⟩
  rw [enterMode_runout_pending]
  by_cases hr : p = .runout <;> simp [hr]

/-- The block without a pending target. -/
def unasked (s : State) : State := { s with md := { s.md with pending := none, dozing := false } }

/-- Out of the modes that no request waits in. -/
theorem doRequest_direct {s : State} {p : Mode} (hs : p ≠ .safestop) (hrally : s.md.mode ≠ .rally) (hrunout : s.md.mode ≠ .runout)
    (hent : s.md.entering = false) (hwak : s.md.waking = false) (hpend : s.md.pending = none) :
    doRequest s p = stepTo (unasked s) p := by
  simp [doRequest, unasked, hs, hrally, hrunout, hent, hwak, hpend]

theorem doRequest_entering {s : State} {p : Mode} (hs : p ≠ .safestop) (hmode : s.md.mode = .safestop) (hent : s.md.entering = true) :
    doRequest s p = setPending s p := by
  simp [doRequest, hs, hmode, hent]

/-- The row to the target, with the request's cause. -/
theorem doRequest_row {s : State} {p : Mode} (hs : p ≠ .safestop) (hd : p ≠ .doze) (hdoze : s.md.mode ≠ .doze) (hrally : s.md.mode ≠ .rally)
    (hrunout : s.md.mode ≠ .runout) (hent : s.md.entering = false) (hwak : s.md.waking = false) (hpend : s.md.pending = none) :
    (doRequest s p).md.mode = p ∧ (doRequest s p).md.previous = s.md.mode ∧ get (doRequest s p) 0x2000 5 = 1 := by
  rw [doRequest_direct hs hrally hrunout hent hwak hpend, stepTo_of_ne_doze (s := unasked s) hd hdoze]
  exact enterMode_row (unasked s) p 1

/-- DOZE by way of its align moves (R493). -/
theorem doRequest_doze {s : State} (hmode : s.md.mode = .standby) (hent : s.md.entering = false) (hwak : s.md.waking = false) (hpend : s.md.pending = none) :
    (doRequest s .doze).md.mode = .doze ∧ get (doRequest s .doze) 0x2000 5 = 1 ∨
      (doRequest s .doze).md.mode = .standby ∧ (doRequest s .doze).md.dozing = true ∧ (doRequest s .doze).md.pending = some .doze := by
  have heq : doRequest s .doze = beginDoze (unasked s) 1 := by
    rw [doRequest_direct (by decide) (by simp [hmode]) (by simp [hmode]) hent hwak hpend]
    simp [stepTo]
  rw [heq]
  rcases beginDoze_row (unasked s) 1 with ⟨hrow, _, hcause⟩ | hmd
  · exact .inl ⟨hrow, hcause⟩
  · right
    rw [hmd]
    exact ⟨hmode, rfl, rfl⟩

/-- Out of DOZE the wake begins (R165). -/
theorem doRequest_wake {s : State} (hmode : s.md.mode = .doze) (hent : s.md.entering = false) (hwak : s.md.waking = false) (hpend : s.md.pending = none) :
    (doRequest s .standby).md.mode = .doze ∧ (doRequest s .standby).md.waking = true ∧ (doRequest s .standby).md.wakeCause = 1 ∧
      (doRequest s .standby).seq.state = 1 := by
  rw [doRequest_direct (by decide) (by simp [hmode]) (by simp [hmode]) hent hwak hpend]
  have heq : stepTo (unasked s) .standby =
      beginWake (unasked s) 1 := by simp [stepTo, unasked, hmode]
  rw [heq, beginWake_eq (s := (unasked s)) hmode hwak]
  exact ⟨hmode, rfl, rfl, rfl⟩

/-- In SAFESTOP only SHUTDOWN is asked for (R42). -/
theorem shutdown_of_mayRequest {p : Mode} (h : mayRequest .safestop p = true) (hp : p ≠ .safestop) : p = .shutdown := by
  revert h hp
  cases p <;> simp [mayRequest, requestRows]

/-! ## The admission switch (R22, R23) -/

theorem writeEffect_admission (s : State) (acc : Accessor) (v : Nat) (d : List Byte) :
    writeEffect s acc (writeRow 0x2000 0x0C) 0x2000 0x0C v d = (if v = 0 then withdrawAll (put s 0x2000 0x0C v) else put s 0x2000 0x0C v, 0) := by
  have hcls : (writeRow 0x2000 0x0C).cls ≠ .rws := by decide
  have heffect : effectSystem s acc 0x2000 0x0C v d = (if v = 0 then withdrawAll (put s 0x2000 0x0C v) else put s 0x2000 0x0C v, 0) := by
    unfold effectSystem
    rfl
  simp [writeEffect, hcls, thresholdOf, heffect]

theorem withdrawOne_sheets (s : State) (uid : Nat) :
    (withdrawOne s uid).sheets = s.sheets.map fun sh => if sh.uid = uid then withdrawn sh else sh := by
  simp [withdrawOne, modSheet]

/-- Withdrawing by numbers, one after the other, withdraws every sheet that bears one of them. -/
theorem foldl_withdrawOne_sheets (l : List Sheet) (s : State) :
    (l.foldl (fun t sh => withdrawOne t sh.uid) s).sheets =
      s.sheets.map fun sh => if (l.any fun x => x.uid == sh.uid) = true then withdrawn sh else sh := by
  induction l generalizing s with
  | nil => simp
  | cons a r ih =>
    rw [List.foldl_cons, ih, withdrawOne_sheets, List.map_map]
    refine List.map_congr_left fun sh _ => ?_
    by_cases ha : sh.uid = a.uid
    · have hsame : (withdrawn sh).uid = sh.uid := rfl
      have htwice : withdrawn (withdrawn sh) = withdrawn sh := rfl
      simp [ha, hsame, htwice]
    · simp [ha, Ne.symm ha]

theorem withdrawAll_sheets (s : State) : (withdrawAll s).sheets =
    s.sheets.map fun sh => if (s.sheets.any fun x => x.uid == sh.uid && x.admitted && inTime s x) = true then withdrawn sh else sh := by
  have hany (sh : Sheet) : ((s.sheets.filter fun x => x.admitted && inTime s x).any fun x => x.uid == sh.uid) =
      s.sheets.any fun x => x.uid == sh.uid && x.admitted && inTime s x := by
    rw [List.any_filter]
    congr
    funext x
    rw [Bool.and_comm, Bool.and_assoc]
  rw [withdrawAll, foldl_withdrawOne_sheets]
  simp only [hany]

theorem withdrawAll_pressView (s : State) : pressView (withdrawAll s) = pressView s :=
  foldl_pressView _ _ _ fun u sh => withdrawOne_pressView u sh.uid

/-- Settles O17: a request is `doRequest` in the modes as they are; the switch withdraws as `withdrawAll_sheets` says. -/
theorem modesAsked : Obligations.ModesAsked := by
  unfold Obligations.ModesAsked
  refine ⟨fun acc d p s hacc hp => ⟨fun hps hmode => ?_, fun hmode hps => ?_, fun hmode hent hps => ?_, fun hmode hent hwak hpend hps hpd => ?_,
    fun hmode hent hwak hpend hpd => ?_, fun hmode hwak hent hpend hpd => ?_⟩, fun acc d s hacc => ?_⟩
  · simp only [List.mem_cons, List.not_mem_nil, or_false, not_or] at hmode
    obtain ⟨hk, ht, hd⟩ := hmode
    refine completes_modeRequest hacc hp fun u hu => ⟨?_, answered_emit acc _⟩
    subst hps
    exact safestopRequest_mode (by rwa [hu]) (by rwa [hu]) (by rwa [hu])
  · refine completes_modeRequest hacc hp fun u hu => ?_
    obtain ⟨hrow, hcause, hpending⟩ := doRequest_rally (s := u) (p := p) (by rw [hu, hmode]) hps
    generalize doRequest u p = t at *
    exact ⟨hrow, hcause, hpending, answered_emit acc _⟩
  · have hshut : p = .shutdown := shutdown_of_mayRequest (hmode ▸ mayRequest_of_accepted hacc hp) hps
    refine completes_modeRequest hacc hp fun u hu => ⟨?_, answered_emit acc _⟩
    rw [doRequest_entering hps (by rw [hu, hmode]) (by rw [hu, hent]), hshut, setPending, hu]
    split
    next h => rw [← h, ← hu]; rfl
    next => rfl
  · simp only [List.mem_cons, List.not_mem_nil, or_false, not_or] at hmode
    obtain ⟨hrally, hrunout, hdoze⟩ := hmode
    refine completes_modeRequest hacc hp fun u hu => ?_
    obtain ⟨hrow, hprev, hcause⟩ := doRequest_row (s := u) hps hpd (by rwa [hu]) (by rwa [hu]) (by rwa [hu]) (by rwa [hu]) (by rwa [hu]) (by rwa [hu])
    generalize doRequest u p = t at *
    exact ⟨hrow, hprev.trans (by rw [hu]), hcause, answered_emit acc _⟩
  · refine completes_modeRequest hacc hp fun u hu => ⟨?_, answered_emit acc _⟩
    have hrow := doRequest_doze (s := u) (by rwa [hu]) (by rwa [hu]) (by rwa [hu]) (by rwa [hu])
    rw [hpd]
    exact hrow
  · refine completes_modeRequest hacc hp fun u hu => ?_
    obtain ⟨hrow, hwake, hcause, hseq⟩ := doRequest_wake (s := u) (by rwa [hu]) (by rwa [hu]) (by rwa [hu]) (by rwa [hu])
    rw [hpd]
    exact ⟨hrow, hwake, hcause, hseq, answered_emit acc _⟩
  · refine ⟨writeCommand acc 0x2000 0x0C d s, rfl, ?_⟩
    rw [writeCommand_accepted hacc viewOf_modeBlock, writeEffect_admission, breakLock_eq]
    by_cases hv : ofLe d = 0
    · rw [if_pos hv, hv]
      have hmd : modeView (withdrawAll (put { s with pins := (breakLock s acc 0x2000 0x0C).pins } 0x2000 0x0C 0)) = _ := withdrawAll_modeView _
      have hview : pressView (withdrawAll (put { s with pins := (breakLock s acc 0x2000 0x0C).pins } 0x2000 0x0C 0)) = _ := withdrawAll_pressView _
      have hsheets := withdrawAll_sheets (put { s with pins := (breakLock s acc 0x2000 0x0C).pins } 0x2000 0x0C 0)
      generalize withdrawAll (put { s with pins := (breakLock s acc 0x2000 0x0C).pins } 0x2000 0x0C 0) = t at *
      refine ⟨answered_emit acc _, ?_, (md_of_modeView hmd : t.md = _), fun h => absurd rfl h, fun _ => hsheets⟩
      exact (get_modeBlock_of_lowDict (congrArg PressView.lowDict hview) (by decide) (by decide)).trans (get_put_same _ _ _ rfl)
    · rw [if_neg hv]
      refine ⟨answered_emit acc _, ?_, rfl, fun _ => ⟨rfl, rfl⟩, fun h => absurd h hv⟩
      rw [get_emit, get_put_same _ _ _ rfl]

end Sys2Proof.Machine

/-! # SAFESTOP: triggers, entry and its end (R47, R48, R559 to R564) -/

namespace Sys2Proof.Machine

/-! ## What the steps of an entry leave of axes, loops, slots and motors -/

/-- Axes, loops and slots. -/
structure PartsView where
  axes : Tab Axis
  loops : Tab Loop
  slots : Tab Event

def partsView (s : State) : PartsView :=
  ⟨s.axes, s.loops, s.slots⟩

@[simp] theorem partsView_mk (time powered md kick hold reset_ seq rails clk net flash dict blobs staged stagedBlobs stagers armed accs sheets
    nextUid tenants coalescing mem stations trackers slots motors axes loops ains pins diag log heatTicks heatFrom out fresh pending) :
    partsView ⟨time, powered, md, kick, hold, reset_, seq, rails, clk, net, flash, dict, blobs, staged, stagedBlobs, stagers, armed, accs,
    sheets, nextUid, tenants, coalescing, mem, stations, trackers, slots, motors, axes, loops, ains, pins, diag, log, heatTicks, heatFrom, out,
    fresh, pending⟩ = ⟨axes, loops, slots⟩ := rfl
@[simp] theorem partsView_self (s : State) :
    PartsView.mk s.axes s.loops s.slots = partsView s := rfl

@[simp] theorem ite_partsView (c : Prop) [Decidable c] (a b : State) :
    partsView (if c then a else b) = if c then partsView a else partsView b := apply_ite partsView c a b
@[simp] theorem ite_partsView1 {α : Type} (c : Prop) [Decidable c] (a b : State × α) :
    partsView (if c then a else b).1 = if c then partsView a.1 else partsView b.1 := apply_ite (fun x : State × α => partsView x.1) c a b
@[simp] theorem foldl_partsView {α : Type} (l : List α) (f : State → α → State) (s : State)
    (h : ∀ u x, partsView (f u x) = partsView u) :
    partsView (l.foldl f s) = partsView s := foldl_view partsView l f s fun u x _ => h u x
@[simp] theorem forEach_partsView (l : List Nat) (f : State → Nat → State) (s : State)
    (h : ∀ u x, partsView (f u x) = partsView u) :
    partsView (forEach l f s) = partsView s := foldl_partsView l f s h
@[simp] theorem put_partsView (s : State) (i j v : Nat) : partsView (put s i j v) = partsView s := (rfl)
@[simp] theorem wrapBy_partsView (w : Nat) (s : State) (i j n : Nat) : partsView (wrapBy w s i j n) = partsView s := (rfl)
@[simp] theorem satBy_partsView (w : Nat) (s : State) (i j n : Nat) : partsView (satBy w s i j n) = partsView s := (rfl)
@[simp] theorem bump_partsView (s : State) (i j : Nat) : partsView (bump s i j) = partsView s := (rfl)
@[simp] theorem sat_partsView (s : State) (i j : Nat) : partsView (sat s i j) = partsView s := (rfl)
@[simp] theorem putLog_partsView (s : State) (i j v : Nat) : partsView (putLog s i j v) = partsView s := (rfl)
@[simp] theorem satLog_partsView (w : Nat) (s : State) (i j : Nat) : partsView (satLog w s i j) = partsView s := (rfl)
@[simp] theorem emit_partsView (s : State) (o : Output) : partsView (emit s o) = partsView s := (rfl)
@[simp] theorem setStation_partsView (s : State) (n : Nat) (f : Station → Station) : partsView (setStation s n f) = partsView s := (rfl)
@[simp] theorem setTracker_partsView (s : State) (n : Nat) (f : Tracker → Tracker) : partsView (setTracker s n f) = partsView s := (rfl)
@[simp] theorem setMotor_partsView (s : State) (n : Nat) (f : Motor → Motor) : partsView (setMotor s n f) = partsView s := (rfl)

@[simp] theorem holdTime_partsView (s : State) : partsView (holdTime s) = partsView s := (rfl)
@[simp] theorem vector_partsView (s : State) (fn vec : Nat) : partsView (vector s fn vec) = partsView s := by unfold vector; simp
@[simp] theorem mirrorWrite_partsView (s : State) (e : Entry) : partsView (mirrorWrite s e) = partsView s := by
  unfold mirrorWrite; (repeat' split) <;> simp
@[simp] theorem ringWrite_partsView (s : State) (e : Entry) : partsView (ringWrite s e) = partsView s := by unfold ringWrite; simp
@[simp] theorem notice_partsView (s : State) (idx sub cls : Nat) : partsView (notice s idx sub cls) = partsView s := by unfold notice; simp
@[simp] theorem noticeAlone_partsView (s : State) (idx sub cls : Nat) : partsView (noticeAlone s idx sub cls) = partsView s := by
  unfold noticeAlone; simp
@[simp] theorem classVectors_partsView (s : State) (cls : Nat) : partsView (classVectors s cls) = partsView s := by unfold classVectors; simp
@[simp] theorem logOnly_partsView (s : State) (cls kind src inst idx sub : Nat) (serial : Option Nat) (detail : Nat) :
  partsView (logOnly s cls kind src inst idx sub serial detail) = partsView s := by
  unfold logOnly; simp
@[simp] theorem log_partsView (s : State) (cls kind src inst idx sub : Nat) (serial : Option Nat) (detail : Nat) :
  partsView (log s cls kind src inst idx sub serial detail) = partsView s := by
  unfold log; simp
@[simp] theorem logEvent_partsView (s : State) (cls src inst idx sub : Nat) : partsView (logEvent s cls src inst idx sub) = partsView s := by
  unfold logEvent; simp
@[simp] theorem serveDrop_partsView (s : State) (m : Mech) (inst : Nat) : partsView (serveDrop s m inst) = partsView s := (rfl)
@[simp] theorem serveCancel_partsView (s : State) (m : Mech) (inst src idx sub : Nat) : partsView (serveCancel s m inst src idx sub) = partsView
    s := by
  unfold serveCancel; split <;> simp
@[simp] theorem watch_partsView (high : Bool) (s : State) (idx sub old v : Nat) : partsView (watch high s idx sub old v) = partsView s := by
  unfold watch; simp
@[simp] theorem causeAdd_partsView (s : State) (c inst : Nat) : partsView (causeAdd s c inst) = partsView s := by unfold causeAdd; simp
@[simp] theorem causeEnd_partsView (s : State) (c inst : Nat) : partsView (causeEnd s c inst) = partsView s := by unfold causeEnd; simp
@[simp] theorem setMotorState_partsView (s : State) (m v : Nat) : partsView (setMotorState s m v) = partsView s := (rfl)
@[simp] theorem brakeMotor_partsView (s : State) (m : Nat) : partsView (brakeMotor s m) = partsView s := by unfold brakeMotor; simp
@[simp] theorem restLanes_partsView (s : State) (n : Nat) : partsView (restLanes s n) = partsView s := (rfl)
@[simp] theorem updateFreeboard_partsView (s : State) (n : Nat) : partsView (updateFreeboard s n) = partsView s := by unfold updateFreeboard; simp
@[simp] theorem setDecoder_partsView (s : State) (n v : Nat) : partsView (setDecoder s n v) = partsView s := (rfl)
@[simp] theorem dropPlane_partsView (s : State) (n state : Nat) : partsView (dropPlane s n state) = partsView s := (rfl)
@[simp] theorem emptyFifo_partsView (s : State) (n : Nat) : partsView (emptyFifo s n) = partsView s := by unfold emptyFifo; simp
@[simp] theorem stopRaster_partsView (s : State) (n : Nat) : partsView (stopRaster s n) = partsView s := by unfold stopRaster; simp
@[simp] theorem phaseLost_partsView (s : State) (k : Nat) : partsView (phaseLost s k) = partsView s := by unfold phaseLost; simp
@[simp] theorem holdOff_partsView (s : State) (k : Nat) : partsView (holdOff s k) = partsView s := by unfold holdOff; simp
@[simp] theorem holdUnlit_partsView (s : State) : partsView (holdUnlit s) = partsView s := by unfold holdUnlit; simp
@[simp] theorem dropCorrections_partsView (s : State) (n : Nat) : partsView (dropCorrections s n) = partsView s := (rfl)
@[simp] theorem merged_partsView (s : State) (g : Nat) : partsView (merged s g) = partsView s := (rfl)
@[simp] theorem dropStaged_partsView (s : State) (g : Nat) : partsView (dropStaged s g) = partsView s := (rfl)
@[simp] theorem copyGroup_partsView (s : State) (g : Nat) : partsView (copyGroup s g) = partsView s := (rfl)
@[simp] theorem rejectGroup_partsView (s : State) (g : Nat) : partsView (rejectGroup s g) = partsView s := by unfold rejectGroup; simp
@[simp] theorem setDlls_partsView (s : State) (v : Nat) : partsView (setDlls s v) = partsView s := by unfold setDlls; simp
@[simp] theorem closeGate_partsView (s : State) : partsView (closeGate s) = partsView s := by unfold closeGate; simp
@[simp] theorem relockAttempt_partsView (s : State) : partsView (relockAttempt s) = partsView s := (rfl)
@[simp] theorem startRelock_partsView (s : State) (occ : Occasion) : partsView (startRelock s occ) = partsView s := by unfold startRelock; simp
@[simp] theorem recordMode_partsView (s : State) (new : Mode) (cause : Nat) : partsView (recordMode s new cause) = partsView s := by
  unfold recordMode; simp
@[simp] theorem rasterOff_partsView (s : State) : partsView (rasterOff s) = partsView s := by unfold rasterOff; simp
@[simp] theorem serviceOff_partsView (s : State) : partsView (serviceOff s) = partsView s := by unfold serviceOff; simp
@[simp] theorem dozeRailsOn_partsView (s : State) : partsView (dozeRailsOn s) = partsView s := (rfl)
@[simp] theorem leaveDoze_partsView (s : State) : partsView (leaveDoze s) = partsView s := by unfold leaveDoze; simp
@[simp] theorem recordCause_partsView (s : State) (cause : Nat) : partsView (recordCause s cause) = partsView s := (rfl)
@[simp] theorem safestopMotor_partsView (s : State) (m : Nat) : partsView (safestopMotor s m) = partsView s := by unfold safestopMotor; simp
@[simp] theorem dozeToSafestop_partsView (s : State) : partsView (dozeToSafestop s) = partsView s := by unfold dozeToSafestop; simp
@[simp] theorem safetyEvent_partsView (s : State) (kind : Nat) : partsView (safetyEvent s kind) = partsView s := by unfold safetyEvent; simp
/-- The slots alone. -/
structure SlotTable where
  slots : Tab Event

def slotTable (s : State) : SlotTable :=
  ⟨s.slots⟩

@[simp] theorem slotTable_mk (time powered md kick hold reset_ seq rails clk net flash dict blobs staged stagedBlobs stagers armed accs sheets
    nextUid tenants coalescing mem stations trackers slots motors axes loops ains pins diag log heatTicks heatFrom out fresh pending) :
    slotTable ⟨time, powered, md, kick, hold, reset_, seq, rails, clk, net, flash, dict, blobs, staged, stagedBlobs, stagers, armed, accs,
    sheets, nextUid, tenants, coalescing, mem, stations, trackers, slots, motors, axes, loops, ains, pins, diag, log, heatTicks, heatFrom, out,
    fresh, pending⟩ = ⟨slots⟩ := rfl
@[simp] theorem slotTable_self (s : State) :
    SlotTable.mk s.slots = slotTable s := rfl

@[simp] theorem ite_slotTable (c : Prop) [Decidable c] (a b : State) :
    slotTable (if c then a else b) = if c then slotTable a else slotTable b := apply_ite slotTable c a b
@[simp] theorem ite_slotTable1 {α : Type} (c : Prop) [Decidable c] (a b : State × α) :
    slotTable (if c then a else b).1 = if c then slotTable a.1 else slotTable b.1 := apply_ite (fun x : State × α => slotTable x.1) c a b
@[simp] theorem foldl_slotTable {α : Type} (l : List α) (f : State → α → State) (s : State)
    (h : ∀ u x, slotTable (f u x) = slotTable u) :
    slotTable (l.foldl f s) = slotTable s := foldl_view slotTable l f s fun u x _ => h u x
@[simp] theorem forEach_slotTable (l : List Nat) (f : State → Nat → State) (s : State)
    (h : ∀ u x, slotTable (f u x) = slotTable u) :
    slotTable (forEach l f s) = slotTable s := foldl_slotTable l f s h
@[simp] theorem put_slotTable (s : State) (i j v : Nat) : slotTable (put s i j v) = slotTable s := (rfl)
@[simp] theorem putS_slotTable (s : State) (w i j : Nat) (v : Int) : slotTable (putS s w i j v) = slotTable s := (rfl)
@[simp] theorem wrapBy_slotTable (w : Nat) (s : State) (i j n : Nat) : slotTable (wrapBy w s i j n) = slotTable s := (rfl)
@[simp] theorem satBy_slotTable (w : Nat) (s : State) (i j n : Nat) : slotTable (satBy w s i j n) = slotTable s := (rfl)
@[simp] theorem sat_slotTable (s : State) (i j : Nat) : slotTable (sat s i j) = slotTable s := (rfl)
@[simp] theorem putLog_slotTable (s : State) (i j v : Nat) : slotTable (putLog s i j v) = slotTable s := (rfl)
@[simp] theorem satLog_slotTable (w : Nat) (s : State) (i j : Nat) : slotTable (satLog w s i j) = slotTable s := (rfl)
@[simp] theorem emit_slotTable (s : State) (o : Output) : slotTable (emit s o) = slotTable s := (rfl)
@[simp] theorem setStation_slotTable (s : State) (n : Nat) (f : Station → Station) : slotTable (setStation s n f) = slotTable s := (rfl)
@[simp] theorem setMotor_slotTable (s : State) (n : Nat) (f : Motor → Motor) : slotTable (setMotor s n f) = slotTable s := (rfl)
@[simp] theorem setAxis_slotTable (s : State) (n : Nat) (f : Axis → Axis) : slotTable (setAxis s n f) = slotTable s := (rfl)
@[simp] theorem setLoop_slotTable (s : State) (n : Nat) (f : Loop → Loop) : slotTable (setLoop s n f) = slotTable s := (rfl)
@[simp] theorem modSheet_slotTable (s : State) (uid : Nat) (f : Sheet → Sheet) : slotTable (modSheet s uid f) = slotTable s := (rfl)

@[simp] theorem vector_slotTable (s : State) (fn vec : Nat) : slotTable (vector s fn vec) = slotTable s := by unfold vector; simp
@[simp] theorem mirrorWrite_slotTable (s : State) (e : Entry) : slotTable (mirrorWrite s e) = slotTable s := by
  unfold mirrorWrite; (repeat' split) <;> simp
@[simp] theorem ringWrite_slotTable (s : State) (e : Entry) : slotTable (ringWrite s e) = slotTable s := by unfold ringWrite; simp
@[simp] theorem notice_slotTable (s : State) (idx sub cls : Nat) : slotTable (notice s idx sub cls) = slotTable s := by unfold notice; simp
@[simp] theorem noticeAlone_slotTable (s : State) (idx sub cls : Nat) : slotTable (noticeAlone s idx sub cls) = slotTable s := by
  unfold noticeAlone; simp
@[simp] theorem classVectors_slotTable (s : State) (cls : Nat) : slotTable (classVectors s cls) = slotTable s := by unfold classVectors; simp
@[simp] theorem logOnly_slotTable (s : State) (cls kind src inst idx sub : Nat) (serial : Option Nat) (detail : Nat) :
  slotTable (logOnly s cls kind src inst idx sub serial detail) = slotTable s := by
  unfold logOnly; simp
@[simp] theorem log_slotTable (s : State) (cls kind src inst idx sub : Nat) (serial : Option Nat) (detail : Nat) :
  slotTable (log s cls kind src inst idx sub serial detail) = slotTable s := by
  unfold log; simp
@[simp] theorem serveDrop_slotTable (s : State) (m : Mech) (inst : Nat) : slotTable (serveDrop s m inst) = slotTable s := (rfl)
@[simp] theorem serveCancel_slotTable (s : State) (m : Mech) (inst src idx sub : Nat) : slotTable (serveCancel s m inst src idx sub) = slotTable
    s := by
  unfold serveCancel; split <;> simp
@[simp] theorem watch_slotTable (high : Bool) (s : State) (idx sub old v : Nat) : slotTable (watch high s idx sub old v) = slotTable s := by
  unfold watch; simp
@[simp] theorem setHomed_slotTable (s : State) (a : Nat) (b : Bool) : slotTable (setHomed s a b) = slotTable s := (rfl)
@[simp] theorem settlePosition_slotTable (s : State) (a : Nat) (pos : Int) (steps : Nat) : slotTable (settlePosition s a pos steps) = slotTable
    s := (rfl)
@[simp] theorem hardStop_slotTable (s : State) (a : Nat) : slotTable (hardStop s a) = slotTable s := by
  unfold hardStop; simp only; (repeat' split) <;> simp
@[simp] theorem safestopAxis_slotTable (s : State) (a : Nat) : slotTable (safestopAxis s a) = slotTable s := by unfold safestopAxis; simp
@[simp] theorem outputOff_slotTable (s : State) (n : Nat) : slotTable (outputOff s n) = slotTable s := by unfold outputOff; simp
@[simp] theorem loopOffNow_slotTable (s : State) (n : Nat) : slotTable (loopOffNow s n) = slotTable s := by unfold loopOffNow; simp
@[simp] theorem safestopLoop_slotTable (s : State) (n : Nat) : slotTable (safestopLoop s n) = slotTable s := by unfold safestopLoop; simp
@[simp] theorem updateFreeboard_slotTable (s : State) (n : Nat) : slotTable (updateFreeboard s n) = slotTable s := by unfold updateFreeboard; simp
@[simp] theorem setDecoder_slotTable (s : State) (n v : Nat) : slotTable (setDecoder s n v) = slotTable s := (rfl)
@[simp] theorem refill_slotTable (s : State) (n : Nat) : slotTable (refill s n) = slotTable s := by unfold refill; simp
@[simp] theorem dropPlane_slotTable (s : State) (n state : Nat) : slotTable (dropPlane s n state) = slotTable s := (rfl)
@[simp] theorem discardData_slotTable (s : State) (n uid : Nat) : slotTable (discardData s n uid) = slotTable s := (rfl)
@[simp] theorem forgetAt_slotTable (s : State) (uid n : Nat) : slotTable (forgetAt s uid n) = slotTable s := by unfold forgetAt; simp
@[simp] theorem forgetRaster_slotTable (s : State) (uid : Nat) : slotTable (forgetRaster s uid) = slotTable s := by unfold forgetRaster; simp
@[simp] theorem safestopAxisAll_slotTable (s : State) (a : Nat) : slotTable (safestopAxisAll s a) = slotTable s := by unfold safestopAxisAll; simp
/-- The axes alone. -/
structure AxisTable where
  axes : Tab Axis

def axisTable (s : State) : AxisTable :=
  ⟨s.axes⟩

@[simp] theorem axisTable_mk (time powered md kick hold reset_ seq rails clk net flash dict blobs staged stagedBlobs stagers armed accs sheets
    nextUid tenants coalescing mem stations trackers slots motors axes loops ains pins diag log heatTicks heatFrom out fresh pending) :
    axisTable ⟨time, powered, md, kick, hold, reset_, seq, rails, clk, net, flash, dict, blobs, staged, stagedBlobs, stagers, armed, accs,
    sheets, nextUid, tenants, coalescing, mem, stations, trackers, slots, motors, axes, loops, ains, pins, diag, log, heatTicks, heatFrom, out,
    fresh, pending⟩ = ⟨axes⟩ := rfl
@[simp] theorem axisTable_self (s : State) :
    AxisTable.mk s.axes = axisTable s := rfl

@[simp] theorem ite_axisTable (c : Prop) [Decidable c] (a b : State) :
    axisTable (if c then a else b) = if c then axisTable a else axisTable b := apply_ite axisTable c a b
@[simp] theorem ite_axisTable1 {α : Type} (c : Prop) [Decidable c] (a b : State × α) :
    axisTable (if c then a else b).1 = if c then axisTable a.1 else axisTable b.1 := apply_ite (fun x : State × α => axisTable x.1) c a b
@[simp] theorem foldl_axisTable {α : Type} (l : List α) (f : State → α → State) (s : State)
    (h : ∀ u x, axisTable (f u x) = axisTable u) :
    axisTable (l.foldl f s) = axisTable s := foldl_view axisTable l f s fun u x _ => h u x
@[simp] theorem forEach_axisTable (l : List Nat) (f : State → Nat → State) (s : State)
    (h : ∀ u x, axisTable (f u x) = axisTable u) :
    axisTable (forEach l f s) = axisTable s := foldl_axisTable l f s h
@[simp] theorem put_axisTable (s : State) (i j v : Nat) : axisTable (put s i j v) = axisTable s := (rfl)
@[simp] theorem wrapBy_axisTable (w : Nat) (s : State) (i j n : Nat) : axisTable (wrapBy w s i j n) = axisTable s := (rfl)
@[simp] theorem satBy_axisTable (w : Nat) (s : State) (i j n : Nat) : axisTable (satBy w s i j n) = axisTable s := (rfl)
@[simp] theorem bump_axisTable (s : State) (i j : Nat) : axisTable (bump s i j) = axisTable s := (rfl)
@[simp] theorem sat_axisTable (s : State) (i j : Nat) : axisTable (sat s i j) = axisTable s := (rfl)
@[simp] theorem putLog_axisTable (s : State) (i j v : Nat) : axisTable (putLog s i j v) = axisTable s := (rfl)
@[simp] theorem satLog_axisTable (w : Nat) (s : State) (i j : Nat) : axisTable (satLog w s i j) = axisTable s := (rfl)
@[simp] theorem emit_axisTable (s : State) (o : Output) : axisTable (emit s o) = axisTable s := (rfl)
@[simp] theorem setStation_axisTable (s : State) (n : Nat) (f : Station → Station) : axisTable (setStation s n f) = axisTable s := (rfl)
@[simp] theorem setMotor_axisTable (s : State) (n : Nat) (f : Motor → Motor) : axisTable (setMotor s n f) = axisTable s := (rfl)
@[simp] theorem setLoop_axisTable (s : State) (n : Nat) (f : Loop → Loop) : axisTable (setLoop s n f) = axisTable s := (rfl)
@[simp] theorem modSheet_axisTable (s : State) (uid : Nat) (f : Sheet → Sheet) : axisTable (modSheet s uid f) = axisTable s := (rfl)

@[simp] theorem vector_axisTable (s : State) (fn vec : Nat) : axisTable (vector s fn vec) = axisTable s := by unfold vector; simp
@[simp] theorem mirrorWrite_axisTable (s : State) (e : Entry) : axisTable (mirrorWrite s e) = axisTable s := by
  unfold mirrorWrite; (repeat' split) <;> simp
@[simp] theorem ringWrite_axisTable (s : State) (e : Entry) : axisTable (ringWrite s e) = axisTable s := by unfold ringWrite; simp
@[simp] theorem notice_axisTable (s : State) (idx sub cls : Nat) : axisTable (notice s idx sub cls) = axisTable s := by unfold notice; simp
@[simp] theorem noticeAlone_axisTable (s : State) (idx sub cls : Nat) : axisTable (noticeAlone s idx sub cls) = axisTable s := by
  unfold noticeAlone; simp
@[simp] theorem classVectors_axisTable (s : State) (cls : Nat) : axisTable (classVectors s cls) = axisTable s := by unfold classVectors; simp
@[simp] theorem logOnly_axisTable (s : State) (cls kind src inst idx sub : Nat) (serial : Option Nat) (detail : Nat) :
  axisTable (logOnly s cls kind src inst idx sub serial detail) = axisTable s := by
  unfold logOnly; simp
@[simp] theorem log_axisTable (s : State) (cls kind src inst idx sub : Nat) (serial : Option Nat) (detail : Nat) :
  axisTable (log s cls kind src inst idx sub serial detail) = axisTable s := by
  unfold log; simp
@[simp] theorem serveDrop_axisTable (s : State) (m : Mech) (inst : Nat) : axisTable (serveDrop s m inst) = axisTable s := (rfl)
@[simp] theorem serveCancel_axisTable (s : State) (m : Mech) (inst src idx sub : Nat) : axisTable (serveCancel s m inst src idx sub) = axisTable
    s := by
  unfold serveCancel; split <;> simp
@[simp] theorem watch_axisTable (high : Bool) (s : State) (idx sub old v : Nat) : axisTable (watch high s idx sub old v) = axisTable s := by
  unfold watch; simp
@[simp] theorem setSlots_axisTable (s : State) (l : Tab Event) : axisTable (setSlots s l) = axisTable s := by unfold setSlots; simp
@[simp] theorem dropEvents_axisTable (s : State) (p : Event → Bool) : axisTable (dropEvents s p) = axisTable s := by unfold dropEvents; simp
@[simp] theorem overtaken_axisTable (s : State) (uid : Nat) : axisTable (overtaken s uid) = axisTable s := (rfl)
@[simp] theorem outputOff_axisTable (s : State) (n : Nat) : axisTable (outputOff s n) = axisTable s := by unfold outputOff; simp
@[simp] theorem loopOffNow_axisTable (s : State) (n : Nat) : axisTable (loopOffNow s n) = axisTable s := by unfold loopOffNow; simp
@[simp] theorem safestopLoop_axisTable (s : State) (n : Nat) : axisTable (safestopLoop s n) = axisTable s := by unfold safestopLoop; simp
@[simp] theorem updateFreeboard_axisTable (s : State) (n : Nat) : axisTable (updateFreeboard s n) = axisTable s := by unfold updateFreeboard; simp
@[simp] theorem setDecoder_axisTable (s : State) (n v : Nat) : axisTable (setDecoder s n v) = axisTable s := (rfl)
@[simp] theorem refill_axisTable (s : State) (n : Nat) : axisTable (refill s n) = axisTable s := by unfold refill; simp
@[simp] theorem dropPlane_axisTable (s : State) (n state : Nat) : axisTable (dropPlane s n state) = axisTable s := (rfl)
@[simp] theorem discardData_axisTable (s : State) (n uid : Nat) : axisTable (discardData s n uid) = axisTable s := (rfl)
@[simp] theorem forgetAt_axisTable (s : State) (uid n : Nat) : axisTable (forgetAt s uid n) = axisTable s := by unfold forgetAt; simp
@[simp] theorem forgetRaster_axisTable (s : State) (uid : Nat) : axisTable (forgetRaster s uid) = axisTable s := by unfold forgetRaster; simp
@[simp] theorem withdrawOne_axisTable (s : State) (uid : Nat) : axisTable (withdrawOne s uid) = axisTable s := by unfold withdrawOne; simp
/-- The loops alone. -/
structure LoopTable where
  loops : Tab Loop

def loopTable (s : State) : LoopTable :=
  ⟨s.loops⟩

@[simp] theorem loopTable_mk (time powered md kick hold reset_ seq rails clk net flash dict blobs staged stagedBlobs stagers armed accs sheets
    nextUid tenants coalescing mem stations trackers slots motors axes loops ains pins diag log heatTicks heatFrom out fresh pending) :
    loopTable ⟨time, powered, md, kick, hold, reset_, seq, rails, clk, net, flash, dict, blobs, staged, stagedBlobs, stagers, armed, accs,
    sheets, nextUid, tenants, coalescing, mem, stations, trackers, slots, motors, axes, loops, ains, pins, diag, log, heatTicks, heatFrom, out,
    fresh, pending⟩ = ⟨loops⟩ := rfl
@[simp] theorem loopTable_self (s : State) :
    LoopTable.mk s.loops = loopTable s := rfl

@[simp] theorem ite_loopTable (c : Prop) [Decidable c] (a b : State) :
    loopTable (if c then a else b) = if c then loopTable a else loopTable b := apply_ite loopTable c a b
@[simp] theorem ite_loopTable1 {α : Type} (c : Prop) [Decidable c] (a b : State × α) :
    loopTable (if c then a else b).1 = if c then loopTable a.1 else loopTable b.1 := apply_ite (fun x : State × α => loopTable x.1) c a b
@[simp] theorem foldl_loopTable {α : Type} (l : List α) (f : State → α → State) (s : State)
    (h : ∀ u x, loopTable (f u x) = loopTable u) :
    loopTable (l.foldl f s) = loopTable s := foldl_view loopTable l f s fun u x _ => h u x
@[simp] theorem forEach_loopTable (l : List Nat) (f : State → Nat → State) (s : State)
    (h : ∀ u x, loopTable (f u x) = loopTable u) :
    loopTable (forEach l f s) = loopTable s := foldl_loopTable l f s h
@[simp] theorem put_loopTable (s : State) (i j v : Nat) : loopTable (put s i j v) = loopTable s := (rfl)
@[simp] theorem putS_loopTable (s : State) (w i j : Nat) (v : Int) : loopTable (putS s w i j v) = loopTable s := (rfl)
@[simp] theorem wrapBy_loopTable (w : Nat) (s : State) (i j n : Nat) : loopTable (wrapBy w s i j n) = loopTable s := (rfl)
@[simp] theorem setAxis_loopTable (s : State) (n : Nat) (f : Axis → Axis) : loopTable (setAxis s n f) = loopTable s := (rfl)

@[simp] theorem setHomed_loopTable (s : State) (a : Nat) (b : Bool) : loopTable (setHomed s a b) = loopTable s := (rfl)
@[simp] theorem settlePosition_loopTable (s : State) (a : Nat) (pos : Int) (steps : Nat) : loopTable (settlePosition s a pos steps) = loopTable
    s := (rfl)
@[simp] theorem hardStop_loopTable (s : State) (a : Nat) : loopTable (hardStop s a) = loopTable s := by
  unfold hardStop; simp only; (repeat' split) <;> simp
/-- The states of the motors (4800+m:30), as the store has them. -/
def motorStates (d : Tab Nat) : Nat → Option Nat := fun m => if m < 12 then tabFind d (keyOf (motIdx m) 0x30) else none

theorem motorStates_tabSet (d : Tab Nat) {k : Nat} (v : Nat) (h : ∀ m, m < 12 → keyOf (motIdx m) 0x30 ≠ k) : motorStates (tabSet d k v) = motorStates d := by
  funext m
  unfold motorStates
  split
  next hm => exact tabFind_tabSet_other d v (h m hm)
  next => rfl

theorem motorState_of_motorStates {s t : State} (h : motorStates t.dict = motorStates s.dict) {m : Nat} (hm : m < 12) : motorState t m = motorState s m := by
  have hfind := congrFun h m
  simp only [motorStates, hm, if_true] at hfind
  rw [motorState, motorState, get_dict _ _ (isLogIdx_motIdx m), get_dict _ _ (isLogIdx_motIdx m), hfind]

/-- The states of the motors alone. -/
structure MotorView where
  motorStates : Nat → Option Nat

def motorView (s : State) : MotorView :=
  ⟨(motorStates s.dict)⟩

@[simp] theorem motorView_mk (time powered md kick hold reset_ seq rails clk net flash dict blobs staged stagedBlobs stagers armed accs sheets
    nextUid tenants coalescing mem stations trackers slots motors axes loops ains pins diag log heatTicks heatFrom out fresh pending) :
    motorView ⟨time, powered, md, kick, hold, reset_, seq, rails, clk, net, flash, dict, blobs, staged, stagedBlobs, stagers, armed, accs,
    sheets, nextUid, tenants, coalescing, mem, stations, trackers, slots, motors, axes, loops, ains, pins, diag, log, heatTicks, heatFrom, out,
    fresh, pending⟩ = ⟨(motorStates dict)⟩ := rfl
@[simp] theorem motorView_self (s : State) :
    MotorView.mk (motorStates s.dict) = motorView s := rfl

@[simp] theorem ite_motorView (c : Prop) [Decidable c] (a b : State) :
    motorView (if c then a else b) = if c then motorView a else motorView b := apply_ite motorView c a b
@[simp] theorem ite_motorView1 {α : Type} (c : Prop) [Decidable c] (a b : State × α) :
    motorView (if c then a else b).1 = if c then motorView a.1 else motorView b.1 := apply_ite (fun x : State × α => motorView x.1) c a b
@[simp] theorem foldl_motorView {α : Type} (l : List α) (f : State → α → State) (s : State)
    (h : ∀ u x, motorView (f u x) = motorView u) :
    motorView (l.foldl f s) = motorView s := foldl_view motorView l f s fun u x _ => h u x
@[simp] theorem forEach_motorView (l : List Nat) (f : State → Nat → State) (s : State)
    (h : ∀ u x, motorView (f u x) = motorView u) :
    motorView (forEach l f s) = motorView s := foldl_motorView l f s h
@[simp] theorem put_motorView (s : State) (i j v : Nat) (h : j % 256 ≠ 0x30) : motorView (put s i j v) = motorView s := by
  have hd : motorStates (put s i j v).dict = motorStates s.dict := motorStates_tabSet _ v fun m _ => by unfold keyOf; omega
  simp only [motorView, hd]
theorem put_motorView_low (s : State) {i j : Nat} (v : Nat) (h : i < 0x4700) (hj : j < 256) : motorView (put s i j v) = motorView s := by
  have hd : motorStates (put s i j v).dict = motorStates s.dict := motorStates_tabSet _ v fun m _ => by unfold keyOf motIdx; omega
  simp only [motorView, hd]
@[simp] theorem putS_motorView (s : State) (w i j : Nat) (v : Int) (h : j % 256 ≠ 0x30) : motorView (putS s w i j v) = motorView s := put_motorView s i j _ h
@[simp] theorem wrapBy_motorView (w : Nat) (s : State) (i j n : Nat) (h : j % 256 ≠ 0x30) : motorView (wrapBy w s i j n) = motorView s := put_motorView s i j _ h
@[simp] theorem satBy_motorView (w : Nat) (s : State) (i j n : Nat) (h : j % 256 ≠ 0x30) : motorView (satBy w s i j n) = motorView s := put_motorView s i j _ h
@[simp] theorem bump_motorView (s : State) (i j : Nat) (h : j % 256 ≠ 0x30) : motorView (bump s i j) = motorView s := put_motorView s i j _ h
@[simp] theorem sat_motorView (s : State) (i j : Nat) (h : j % 256 ≠ 0x30) : motorView (sat s i j) = motorView s := put_motorView s i j _ h
@[simp] theorem putLog_motorView (s : State) (i j v : Nat) : motorView (putLog s i j v) = motorView s := (rfl)
@[simp] theorem satLog_motorView (w : Nat) (s : State) (i j : Nat) : motorView (satLog w s i j) = motorView s := (rfl)
@[simp] theorem emit_motorView (s : State) (o : Output) : motorView (emit s o) = motorView s := (rfl)
@[simp] theorem setStation_motorView (s : State) (n : Nat) (f : Station → Station) : motorView (setStation s n f) = motorView s := (rfl)
@[simp] theorem setMotor_motorView (s : State) (n : Nat) (f : Motor → Motor) : motorView (setMotor s n f) = motorView s := (rfl)
@[simp] theorem setAxis_motorView (s : State) (n : Nat) (f : Axis → Axis) : motorView (setAxis s n f) = motorView s := (rfl)
@[simp] theorem setLoop_motorView (s : State) (n : Nat) (f : Loop → Loop) : motorView (setLoop s n f) = motorView s := (rfl)

@[simp] theorem vector_motorView (s : State) (fn vec : Nat) : motorView (vector s fn vec) = motorView s := by unfold vector; simp
@[simp] theorem mirrorWrite_motorView (s : State) (e : Entry) : motorView (mirrorWrite s e) = motorView s := by
  unfold mirrorWrite; (repeat' split) <;> simp
@[simp] theorem ringWrite_motorView (s : State) (e : Entry) : motorView (ringWrite s e) = motorView s := by unfold ringWrite; simp
@[simp] theorem notice_motorView (s : State) (idx sub cls : Nat) : motorView (notice s idx sub cls) = motorView s := by unfold notice; simp
@[simp] theorem noticeAlone_motorView (s : State) (idx sub cls : Nat) : motorView (noticeAlone s idx sub cls) = motorView s := by
  unfold noticeAlone; simp
@[simp] theorem classVectors_motorView (s : State) (cls : Nat) : motorView (classVectors s cls) = motorView s := by unfold classVectors; simp
@[simp] theorem logOnly_motorView (s : State) (cls kind src inst idx sub : Nat) (serial : Option Nat) (detail : Nat) :
  motorView (logOnly s cls kind src inst idx sub serial detail) = motorView s := by
  unfold logOnly; simp
@[simp] theorem log_motorView (s : State) (cls kind src inst idx sub : Nat) (serial : Option Nat) (detail : Nat) :
  motorView (log s cls kind src inst idx sub serial detail) = motorView s := by
  unfold log; simp
@[simp] theorem serveDrop_motorView (s : State) (m : Mech) (inst : Nat) : motorView (serveDrop s m inst) = motorView s := (rfl)
@[simp] theorem serveCancel_motorView (s : State) (m : Mech) (inst src idx sub : Nat) : motorView (serveCancel s m inst src idx sub) = motorView
    s := by
  unfold serveCancel; split <;> simp
@[simp] theorem watch_motorView (high : Bool) (s : State) (idx sub old v : Nat) (h : sub < 0x2C) : motorView (watch high s idx sub old v) = motorView s := by
  have h0 : sub % 256 ≠ 0x30 := by omega
  have h1 : (sub + 1) % 256 ≠ 0x30 := by omega
  have h2 : (sub + 2) % 256 ≠ 0x30 := by omega
  have h3 : (sub + 3) % 256 ≠ 0x30 := by omega
  simp [watch, h0, h1, h2, h3]
@[simp] theorem causeAdd_motorView (s : State) (c inst : Nat) : motorView (causeAdd s c inst) = motorView s := by unfold causeAdd; simp
@[simp] theorem setHomed_motorView (s : State) (a : Nat) (b : Bool) : motorView (setHomed s a b) = motorView s := by simp [setHomed]
@[simp] theorem settlePosition_motorView (s : State) (a : Nat) (pos : Int) (steps : Nat) : motorView (settlePosition s a pos steps) = motorView
    s := by
  simp [settlePosition]
@[simp] theorem hardStop_motorView (s : State) (a : Nat) : motorView (hardStop s a) = motorView s := by
  unfold hardStop; simp only; (repeat' split) <;> simp
@[simp] theorem outputOff_motorView (s : State) (n : Nat) : motorView (outputOff s n) = motorView s := by unfold outputOff; simp
@[simp] theorem loopOffNow_motorView (s : State) (n : Nat) : motorView (loopOffNow s n) = motorView s := by unfold loopOffNow; simp
@[simp] theorem safestopLoop_motorView (s : State) (n : Nat) : motorView (safestopLoop s n) = motorView s := by unfold safestopLoop; simp
@[simp] theorem updateFreeboard_motorView (s : State) (n : Nat) : motorView (updateFreeboard s n) = motorView s := by unfold updateFreeboard; simp
@[simp] theorem setDecoder_motorView (s : State) (n v : Nat) : motorView (setDecoder s n v) = motorView s := by simp [setDecoder]
@[simp] theorem dropPlane_motorView (s : State) (n state : Nat) : motorView (dropPlane s n state) = motorView s := by simp [dropPlane]
@[simp] theorem emptyFifo_motorView (s : State) (n : Nat) : motorView (emptyFifo s n) = motorView s := by unfold emptyFifo; simp
@[simp] theorem stopRaster_motorView (s : State) (n : Nat) : motorView (stopRaster s n) = motorView s := by unfold stopRaster; simp
@[simp] theorem dropCorrections_motorView (s : State) (n : Nat) : motorView (dropCorrections s n) = motorView s := (rfl)
@[simp] theorem dropStaged_motorView (s : State) (g : Nat) : motorView (dropStaged s g) = motorView s := (rfl)
@[simp] theorem rejectGroup_motorView (s : State) (g : Nat) : motorView (rejectGroup s g) = motorView s := by unfold rejectGroup; simp
@[simp] theorem relockAttempt_motorView (s : State) : motorView (relockAttempt s) = motorView s := by simp [relockAttempt]
@[simp] theorem rasterOff_motorView (s : State) : motorView (rasterOff s) = motorView s := by unfold rasterOff; simp
@[simp] theorem serviceOff_motorView (s : State) : motorView (serviceOff s) = motorView s := by unfold serviceOff; simp
@[simp] theorem dozeRailsOn_motorView (s : State) : motorView (dozeRailsOn s) = motorView s := (rfl)
@[simp] theorem recordCause_motorView (s : State) (cause : Nat) : motorView (recordCause s cause) = motorView s := (rfl)
@[simp] theorem safetyEvent_motorView (s : State) (kind : Nat) : motorView (safetyEvent s kind) = motorView s := by unfold safetyEvent; simp

/-! ## Folds that clear a number after the other -/

/-- A step that clears its own number and spoils no other clears every number of a list. -/
theorem foldl_clears {P : State → Nat → Prop} {f : State → Nat → State} (hself : ∀ u a, P (f u a) a) (hkeep : ∀ u a k, P u k → P (f u a) k)
    (l : List Nat) (s : State) {k : Nat} (hk : k ∈ l) : P (l.foldl f s) k := by
  induction l generalizing s with
  | nil => simp at hk
  | cons a r ih =>
    rcases List.mem_cons.1 hk with rfl | hr
    · exact foldl_keeps (P · k) r f (f s k) (fun u x _ hu => hkeep u x k hu) (hself s k)
    · exact ih (f s a) hr

/-! ## Axes -/

/-- No axis moves. -/
def AxesStand (s : State) : Prop := ∀ a, a < 16 → (axis s a).move = none

theorem axesStand_congr {s t : State} (h : t.axes = s.axes) (hs : AxesStand s) : AxesStand t := fun a ha => by
  have hax : axis t a = axis s a := by simp [axis, h]
  rw [hax, hs a ha]

theorem axis_setHomed (s : State) (a : Nat) (b : Bool) (k : Nat) : axis (setHomed s a b) k = axis s k := rfl

theorem setAxis_move (s : State) (a : Nat) (f : Axis → Axis) (hf : ∀ x, (f x).move = x.move) (k : Nat) :
    (axis (setAxis s a f) k).move = (axis s k).move := by
  by_cases hk : k = a
  · subst hk
    rw [axis_setAxis_same, hf]
  · rw [axis_setAxis_other _ _ hk]

theorem settlePosition_move (s : State) (a : Nat) (pos : Int) (steps k : Nat) : (axis (settlePosition s a pos steps) k).move = (axis s k).move := by
  have h := setAxis_move s a (fun x =>
    { x with limN := x.limN && (!decide (getS s 32 (axIdx a) 0x31 < pos) || s.pins.conflicts.contains (0x1003 + 16 * a)),
             limP := x.limP && (!decide (pos < getS s 32 (axIdx a) 0x31) || s.pins.conflicts.contains (0x1004 + 16 * a)) }) (fun _ => rfl) k
  exact h

theorem hardStop_move (s : State) (a k : Nat) : (axis (hardStop s a) k).move = if k = a then none else (axis s k).move := by
  unfold hardStop
  simp only
  cases hm : (axis s a).move with
  | none =>
    by_cases hk : k = a
    · subst hk
      simp [hm]
    · simp [axis_setAxis_other _ _ hk, hk]
  | some m =>
    by_cases hk : k = a
    · subst hk
      simp
    · simp only [axis_setAxis_other _ _ hk, if_neg hk]
      split
      · rw [axis_setHomed, settlePosition_move]
      · rw [settlePosition_move]

theorem hardStop_clears (s : State) (a : Nat) : (axis (hardStop s a) a).move = none := by simp [hardStop_move]

theorem hardStop_keeps {s : State} (a : Nat) {k : Nat} (h : (axis s k).move = none) : (axis (hardStop s a) k).move = none := by
  simp [hardStop_move, h]

theorem axesStand_hardStops (s : State) : AxesStand (forEach (List.range 16) hardStop s) := fun _ ha =>
  foldl_clears (P := fun u k => (axis u k).move = none) hardStop_clears (fun _ a _ h => hardStop_keeps a h) _ s (List.mem_range.2 ha)

theorem safestopAxisAll_move (s : State) (a k : Nat) : (axis (safestopAxisAll s a) k).move = if k = a then none else (axis s k).move := by
  have hcancel : axis (serveCancel s .axisDriver a 0x0C (axIdx a) 0x35) k = axis s k := by
    have h := (serveCancel_sameButLog s .axisDriver a 0x0C (axIdx a) 0x35).axes
    simp [axis, h]
  rw [safestopAxisAll, safestopAxis, setAxis_move, hardStop_move, setAxis_move, hcancel]
  all_goals exact fun _ => rfl

theorem axesStand_safestop (s : State) : AxesStand (forEach (List.range 16) safestopAxisAll s) := fun _ ha =>
  foldl_clears (P := fun u k => (axis u k).move = none) (fun u a => by simp [safestopAxisAll_move]) (fun u a k h => by simp [safestopAxisAll_move, h]) _ s
    (List.mem_range.2 ha)

/-! ## Motors -/

/-- The states that an entry to SAFESTOP leaves a motor in: off, braking, held. -/
def Stopping (v : Nat) : Prop := v = 0 ∨ v = 6 ∨ v = 7

theorem not_stopping_five : ¬Stopping 5 := by simp [Stopping]

theorem motorsIn_of_motorView {p : Nat → Prop} {s t : State} (h : motorView t = motorView s) (hs : MotorsIn p s) : MotorsIn p t := fun m hm => by
  rw [motorState_of_motorStates (congrArg MotorView.motorStates h) hm]
  exact hs m hm

theorem brakeMotor_state (s : State) (m k : Nat) :
    motorState (brakeMotor s m) k = if k = m then (if motorState s m = 0 ∨ motorState s m = 7 then motorState s m else 6) else motorState s k := by
  unfold brakeMotor
  by_cases hk : k = m
  · subst hk
    rw [if_pos rfl]
    split
    · rfl
    · exact get_put_same _ _ _ (isLogIdx_motIdx k)
  · rw [if_neg hk]
    split
    · rfl
    · exact get_put_other _ _ (by unfold keyOf motIdx; omega)

theorem safestopMotor_state (s : State) (m k : Nat) :
    motorState (safestopMotor s m) k = if k = m then (if motorState s m = 0 ∨ motorState s m = 7 then motorState s m else 6) else motorState s k := by
  have hcancel (j : Nat) : motorState (serveCancel s .motor m 0x0B (motIdx m) 0x36) j = motorState s j :=
    (serveCancel_sameButLog s .motor m 0x0B (motIdx m) 0x36).get _ (isLogIdx_motIdx j)
  rw [safestopMotor, brakeMotor_state, hcancel, hcancel]

theorem motorsStopping (s : State) : MotorsIn Stopping (forEach (List.range 12) safestopMotor s) := fun _ hm =>
  foldl_clears (P := fun u k => Stopping (motorState u k))
    (fun u m => by
      rw [safestopMotor_state, if_pos rfl]
      split
      next h => exact h.elim .inl fun h7 => .inr (.inr h7)
      next => exact .inr (.inl rfl))
    (fun u m k h => by
      rw [safestopMotor_state]
      split
      next hk =>
        subst hk
        split
        · exact h
        · exact .inr (.inl rfl)
      next => exact h) _ s (List.mem_range.2 hm)

/-! ## Loops -/

theorem outputOff_state (s : State) (n k : Nat) : (loop (outputOff s n) k).state = (loop s k).state := by
  have hset : (loop (setLoop s n fun l => { l with on := false, y := 0, saturated := false, satTime := 0, excSide := 0, excCount := 0, excInside := true }) k).state =
      (loop s k).state := by
    by_cases hk : k = n
    · subst hk
      rw [loop_setLoop_same]
    · rw [loop_setLoop_other _ _ hk]
  unfold outputOff
  simp only
  split
  · exact hset
  · exact hset

theorem loopOffNow_state (s : State) (n k : Nat) : (loop (loopOffNow s n) k).state = if k = n then 0 else (loop s k).state := by
  unfold loopOffNow
  by_cases hk : k = n
  · subst hk
    simp
  · rw [loop_setLoop_other _ _ hk, outputOff_state, if_neg hk]

theorem safestopLoop_state (s : State) (n k : Nat) :
    (loop (safestopLoop s n) k).state = if k = n then (if (loop s n).state = 4 then 4 else 0) else (loop s k).state := by
  have hcancel (j : Nat) : loop (serveCancel s .loop n 0x0D (loopIdx n) 0x36) j = loop s j := by
    have h := (serveCancel_sameButLog s .loop n 0x0D (loopIdx n) 0x36).loops
    simp [loop, h]
  unfold safestopLoop
  simp only [beq_iff_eq]
  by_cases hk : k = n
  · subst hk
    rw [if_pos rfl]
    split
    · rw [loop_setLoop_same]
    · rw [loopOffNow_state, if_pos rfl]
  · rw [if_neg hk]
    split
    · rw [loop_setLoop_other _ _ hk, loopOffNow_state, if_neg hk, hcancel]
    · rw [loopOffNow_state, if_neg hk, hcancel]

/-- Every loop is off or held. -/
def LoopsOff (s : State) : Prop := ∀ n, n < 48 → (loop s n).state = 0 ∨ (loop s n).state = 4

theorem loopsOff_congr {s t : State} (h : t.loops = s.loops) (hs : LoopsOff s) : LoopsOff t := fun n hn => by
  have hl : loop t n = loop s n := by simp [loop, h]
  rw [hl]
  exact hs n hn

theorem loopsOff_safestop (s : State) : LoopsOff (forEach (List.range 48) safestopLoop s) := fun _ hn =>
  foldl_clears (P := fun u k => (loop u k).state = 0 ∨ (loop u k).state = 4)
    (fun u n => by
      rw [safestopLoop_state, if_pos rfl]
      split
      · exact .inr rfl
      · exact .inl rfl)
    (fun u n k h => by
      rw [safestopLoop_state]
      split
      · split
        · exact .inr rfl
        · exact .inl rfl
      · exact h) _ s (List.mem_range.2 hn)

/-! ## Sheets -/

/-- Sheets that a fold takes out of a state, one number after the other, and that it puts none into. -/
theorem foldl_empties {q : Sheet → Bool} {f : State → Sheet → State}
    (h : ∀ u x, ∀ sh ∈ (f u x).sheets, q sh = true → sh ∈ u.sheets ∧ sh.uid ≠ x.uid) (l : List Sheet) (s : State) :
    ∀ sh ∈ (l.foldl f s).sheets, q sh = true → sh ∈ s.sheets ∧ ∀ x ∈ l, sh.uid ≠ x.uid := by
  induction l generalizing s with
  | nil => exact fun sh hsh _ => ⟨hsh, by simp⟩
  | cons a r ih =>
    intro sh hsh hq
    obtain ⟨hmem, hrest⟩ := ih (f s a) sh hsh hq
    obtain ⟨hs, ha⟩ := h s a sh hmem hq
    exact ⟨hs, List.forall_mem_cons.2 ⟨ha, hrest⟩⟩

/-- Going through every sheet of a kind leaves none of it. -/
theorem foldl_filter_empties {q : Sheet → Bool} {f : State → Sheet → State}
    (h : ∀ u x, ∀ sh ∈ (f u x).sheets, q sh = true → sh ∈ u.sheets ∧ sh.uid ≠ x.uid) (s : State) :
    ∀ sh ∈ ((s.sheets.filter q).foldl f s).sheets, q sh = false := by
  intro sh hsh
  by_contra hq
  have hq' : q sh = true := by simpa using hq
  obtain ⟨hmem, hother⟩ := foldl_empties h _ s sh hsh hq'
  exact hother sh (List.mem_filter.2 ⟨hmem, hq'⟩) rfl

theorem overtaken_sheets (s : State) (uid : Nat) : (overtaken s uid).sheets =
    s.sheets.map fun sh => if sh.uid = uid then { sh with state := .committed, sluice := sh.firstImage } else sh := rfl

/-- No sheet stays ADMITTED at an entry to SAFESTOP (R22, R23). -/
theorem withdrawEvery_none_admitted (s : State) : ∀ sh ∈ (withdrawEvery s).sheets, sh.admitted = false := by
  refine foldl_filter_empties (q := Sheet.admitted) (fun u x sh hsh hadm => ?_) s
  have hmap (f : Sheet → Sheet) (hf : ∀ y, (f y).admitted = false) (hin : sh ∈ u.sheets.map fun y => if y.uid = x.uid then f y else y) :
      sh ∈ u.sheets ∧ sh.uid ≠ x.uid := by
    obtain ⟨y, hy, rfl⟩ := List.mem_map.1 hin
    split at hadm
    next => exact absurd (hadm.symm.trans (hf y)) (by simp)
    next hne =>
      rw [if_neg hne]
      exact ⟨hy, hne⟩
  split at hsh
  · rw [withdrawOne_sheets] at hsh
    exact hmap withdrawn (fun _ => rfl) hsh
  · rw [overtaken_sheets] at hsh
    exact hmap _ (fun _ => rfl) hsh

theorem mem_insertReprint {l : List Sheet} {r sh : Sheet} (h : sh ∈ insertReprint l r) : sh = r ∨ sh ∈ l := by
  induction l with
  | nil =>
    unfold insertReprint at h
    split at h <;> simpa using h
  | cons a t ih =>
    unfold insertReprint at h
    split at h
    · rcases List.mem_cons.1 h with rfl | ht
      · exact .inr List.mem_cons_self
      · exact (ih ht).imp_right (List.mem_cons_of_mem a)
    · exact List.mem_cons.1 h

/-- A finished sheet is gone; a reprint, RESIDENT, may come in its place (R17, R35). -/
theorem finishSheet_sheets (s : State) (x : Sheet) :
    (finishSheet s x).sheets = (s.sheets.filter fun y => y.uid != x.uid) ∨
      ∃ r : Sheet, r.committed = false ∧ (finishSheet s x).sheets = insertReprint (s.sheets.filter fun y => y.uid != x.uid) r := by
  unfold finishSheet
  extract_lets o double s₁ s₂ s₃ r s₄
  have h₂ : s₂.sheets = s.sheets.filter fun y => y.uid != x.uid := by simp [s₂, s₁, removeSheet]
  have h₃ : s₃.sheets = s₂.sheets := by
    simp only [s₃]
    split
    · split
      · rw [doubleFaultAs_sheets]
      · split
        · rfl
        · rw [servePass_sheets]
    · rfl
  rw [ghostCheck_sheets]
  simp only [s₄]
  split
  · right
    exact ⟨reprintOf s₃ x, rfl, by rw [serveBegin_sheets, bump_sheets, h₃, h₂]⟩
  · left
    rw [h₃, h₂]

theorem finishSheet_committed {s : State} {x sh : Sheet} (h : sh ∈ (finishSheet s x).sheets) (hc : sh.committed = true) :
    sh ∈ s.sheets ∧ sh.uid ≠ x.uid := by
  have hin : sh ∈ s.sheets.filter fun y => y.uid != x.uid := by
    rcases finishSheet_sheets s x with heq | ⟨r, hr, heq⟩
    · rwa [heq] at h
    · rw [heq] at h
      exact (mem_insertReprint h).resolve_left fun e => by simp [e, hr] at hc
  obtain ⟨hs, hne⟩ := List.mem_filter.1 hin
  exact ⟨hs, by simpa using hne⟩

/-- No sheet stays COMMITTED at the end of an entry to SAFESTOP (R37). -/
theorem spoilAll_none_committed (s : State) : ∀ sh ∈ (spoilAll s).sheets, sh.committed = false :=
  foldl_filter_empties (q := Sheet.committed) (f := fun t sh => finishSheet t { sh with spoiled := true, safestop := true })
    (fun _ _ _ h hc => by
      have gone := finishSheet_committed h hc
      exact gone) s

/-! ## The way out of DOZE -/

theorem tabFind_overlay_other {α : Type} (g : Nat) (d st : Tab α) {k : Nat} (h : inGroup g k = false) : tabFind (overlay g d st) k = tabFind d k := by
  have hkeys : ∀ (l d : Tab α), (∀ p ∈ l, inGroup g p.1 = true) → tabFind (l.foldl (fun t p => tabSet t p.1 p.2) d) k = tabFind d k := by
    intro l
    induction l with
    | nil => intros; rfl
    | cons p r ih =>
      intro d hl
      have hne : k ≠ p.1 := fun e => by simp [← e, h] at hl
      rw [List.foldl_cons, ih _ fun q hq => hl q (List.mem_cons_of_mem p hq), tabFind_tabSet_other _ _ hne]
  exact hkeys _ d fun p hp => (List.mem_filter.1 hp).2

theorem merged_motorView (s : State) : motorView (merged s 13) = motorView s := by
  refine congrArg MotorView.mk (funext fun m => ?_)
  unfold motorStates
  split
  next hm =>
    refine tabFind_overlay_other 13 s.dict s.staged ?_
    have hidx : keyOf (motIdx m) 0x30 / 256 = 0x4800 + m := by unfold keyOf motIdx; omega
    have hgroup : groupOf (0x4800 + m) = 20 := by
      unfold groupOf
      rw [if_neg (by omega), if_neg (by omega), if_neg (by omega), if_neg (by omega), if_neg (by omega), if_neg (by omega), if_neg (by omega),
        if_neg (by omega), if_pos (by omega)]
    simp [inGroup, hidx, hgroup]
  next => rfl

theorem copyGroup_motorView (s : State) : motorView (copyGroup s 13) = motorView s := by
  rw [copyGroup, bump_motorView _ _ _ (by decide), dropStaged_motorView, merged_motorView]

theorem startRelock_motorsIn {p : Nat → Prop} (h5 : ¬p 5) {s : State} (h : MotorsIn p s) (occ : Occasion) : MotorsIn p (startRelock s occ) := by
  unfold startRelock
  split
  · exact h
  extract_lets prev armed ok t _ u
  have ht : motorView t = motorView s := by
    simp only [t]
    split
    · exact copyGroup_motorView s
    · split
      · exact rejectGroup_motorView s 13
      · rfl
  have hu : motorView (bump u 0x2200 6) = motorView s := by simp [u, ht]
  clear_value u
  have hgate : MotorsIn p (closeGate (bump u 0x2200 6)) := closeGate_motorsIn h5 (motorsIn_of_motorView hu h)
  generalize closeGate (bump u 0x2200 6) = w at hgate ⊢
  exact motorsIn_of_motorView (relockAttempt_motorView w) hgate

theorem dozeToSafestop_motorsIn {p : Nat → Prop} (h5 : ¬p 5) {s : State} (h : MotorsIn p s) : MotorsIn p (dozeToSafestop s) := by
  have hmem : MotorsIn p { dozeRailsOn s with mem := { (dozeRailsOn s).mem with selfRefresh := false, mr4Due := (dozeRailsOn s).mem.trained } } := h
  unfold dozeToSafestop leaveDoze
  simp only
  generalize ({ dozeRailsOn s with mem := { (dozeRailsOn s).mem with selfRefresh := false, mr4Due := (dozeRailsOn s).mem.trained } } : State) = t
    at hmem ⊢
  split
  · exact hmem
  · exact startRelock_motorsIn h5 hmem _

/-! ## The entry (R561 steps 1 to 4) -/

/-- What an entry to SAFESTOP stops. -/
def Stopped (s : State) : Prop :=
  (∀ sh ∈ s.sheets, sh.admitted = false) ∧ (∀ q ∈ s.slots, eventClass q.2.code = 4 ∨ eventClass q.2.code = 5 ∨ eventClass q.2.code = 0) ∧
    AxesStand s ∧ MotorsIn Stopping s ∧ LoopsOff s

/-- What the entry does once its row is recorded. -/
def stopWork (s : State) : State :=
  forEach (List.range 6) (fun u n => dropCorrections u n) (serviceOff (rasterOff (forEach (List.range 48) safestopLoop
    (forEach (List.range 12) safestopMotor (withdrawEvery (forEach (List.range 16) safestopAxisAll
      (dropEvents s fun e => eventClass e.code == 1 || eventClass e.code == 2 || eventClass e.code == 3)))))))

theorem safestopEnter_eq (s : State) (c : Nat) : ∃ t : State, safestopEnter s c =
    holdUnlit (if s.md.mode = .doze then dozeToSafestop (stopWork t) else stopWork t) := ⟨_, rfl⟩

theorem eventClass_le (code : Nat) : eventClass code ≤ 5 := by
  unfold eventClass
  split_ifs <;> omega

/-- Slots of NET and LOG events, and of codes that stand for no event. -/
def SlotsStopped (l : Tab Event) : Prop := ∀ q ∈ l, eventClass q.2.code = 4 ∨ eventClass q.2.code = 5 ∨ eventClass q.2.code = 0

theorem setSlots_slots (s : State) (l : Tab Event) : (setSlots s l).slots = l :=
  congrArg SlotTable.slots (watch_slotTable true { s with slots := l } 0x2520 2 s.slots.length l.length)

theorem dropEvents_slots (s : State) (p : Event → Bool) : (dropEvents s p).slots = s.slots.filter fun q => !p q.2 := setSlots_slots s _

theorem SlotsStopped.dropEvents {s : State} (h : SlotsStopped s.slots) (p : Event → Bool) : SlotsStopped (Machine.dropEvents s p).slots := fun q hq => by
  rw [dropEvents_slots] at hq
  exact h q (List.mem_filter.1 hq).1

theorem slotsStopped_dropEvents (s : State) :
    SlotsStopped (dropEvents s fun e => eventClass e.code == 1 || eventClass e.code == 2 || eventClass e.code == 3).slots := by
  intro q hq
  rw [dropEvents_slots] at hq
  have hclass := (List.mem_filter.1 hq).2
  have hle := eventClass_le q.2.code
  simp only [Bool.not_or, Bool.and_eq_true, Bool.not_eq_true', beq_eq_false_iff_ne] at hclass
  omega

theorem slots_of_slotTable {s t : State} (h : slotTable t = slotTable s) : t.slots = s.slots := congrArg SlotTable.slots h

theorem withdrawOne_slotsStopped {s : State} (h : SlotsStopped s.slots) (uid : Nat) : SlotsStopped (withdrawOne s uid).slots := by
  have hview : slotTable (modSheet (forgetRaster s uid) uid withdrawn) = slotTable s :=
    (modSheet_slotTable _ _ _).trans (forgetRaster_slotTable s uid)
  have hsame := slots_of_slotTable hview
  have hmod : SlotsStopped (modSheet (forgetRaster s uid) uid withdrawn).slots := by
    rw [hsame]
    exact h
  have hdrop := hmod.dropEvents fun e => e.uid == some uid
  rw [withdrawOne]
  generalize dropEvents (modSheet (forgetRaster s uid) uid withdrawn) (fun e => e.uid == some uid) = t at hdrop ⊢
  exact hdrop

theorem withdrawEvery_slots {s : State} (h : SlotsStopped s.slots) : SlotsStopped (withdrawEvery s).slots := by
  refine foldl_keeps (fun u => SlotsStopped u.slots) _ _ s (fun u sh _ hu => ?_) h
  split
  · exact withdrawOne_slotsStopped hu sh.uid
  · exact hu

theorem withdrawEvery_axes (s : State) : (withdrawEvery s).axes = s.axes := by
  refine congrArg AxisTable.axes (foldl_view axisTable _ _ s fun u sh _ => ?_)
  split
  · exact withdrawOne_axisTable u sh.uid
  · rfl

/-- The stops of a state, as far as the sheets, the slots, the parts and the motors' states go. -/
theorem Stopped.congr {s t : State} (h : Stopped s) (hsheets : t.sheets = s.sheets) (hparts : partsView t = partsView s) (hmotors : MotorsIn Stopping t) :
    Stopped t := by
  obtain ⟨hadm, hslots, haxes, _, hloops⟩ := h
  have hs : t.slots = s.slots := congrArg PartsView.slots hparts
  exact ⟨hsheets ▸ hadm, hs ▸ hslots, axesStand_congr (congrArg PartsView.axes hparts) haxes, hmotors,
    loopsOff_congr (congrArg PartsView.loops hparts) hloops⟩

/-- The axes stand, and no later step of the entry moves them. -/
theorem stopWork_stopped (s : State) : Stopped (stopWork s) := by
  have hslots := slotsStopped_dropEvents s
  unfold stopWork
  generalize dropEvents s (fun e => eventClass e.code == 1 || eventClass e.code == 2 || eventClass e.code == 3) = t at hslots ⊢
  -- the axes
  have haxes := axesStand_safestop t
  have hslots₁ : SlotsStopped (forEach (List.range 16) safestopAxisAll t).slots := by
    have hsame : slotTable (forEach (List.range 16) safestopAxisAll t) = slotTable t := by simp
    rw [slots_of_slotTable hsame]
    exact hslots
  generalize forEach (List.range 16) safestopAxisAll t = u at haxes hslots₁ ⊢
  -- the sheets
  have hsheets := withdrawEvery_none_admitted u
  have haxes₂ : AxesStand (withdrawEvery u) := axesStand_congr (withdrawEvery_axes u) haxes
  have hslots₂ := withdrawEvery_slots hslots₁
  generalize withdrawEvery u = v at hsheets haxes₂ hslots₂ ⊢
  -- the motors
  have hmotors := motorsStopping v
  have hparts₃ : partsView (forEach (List.range 12) safestopMotor v) = partsView v := by simp
  have hsheets₃ : (forEach (List.range 12) safestopMotor v).sheets = v.sheets := by simp
  generalize forEach (List.range 12) safestopMotor v = w at hmotors hparts₃ hsheets₃ ⊢
  -- the loops
  have hloops := loopsOff_safestop w
  have hmotors₄ : MotorsIn Stopping (forEach (List.range 48) safestopLoop w) := motorsIn_of_motorView (by simp) hmotors
  have hslots₄ : slotTable (forEach (List.range 48) safestopLoop w) = slotTable w := by simp
  have haxes₄ : axisTable (forEach (List.range 48) safestopLoop w) = axisTable w := by simp
  have hsheets₄ : (forEach (List.range 48) safestopLoop w).sheets = w.sheets := by simp
  generalize forEach (List.range 48) safestopLoop w = x at hloops hmotors₄ hslots₄ haxes₄ hsheets₄ ⊢
  have stopped : Stopped x := by
    have hs : x.slots = v.slots := (congrArg SlotTable.slots hslots₄).trans (congrArg PartsView.slots hparts₃)
    have ha : x.axes = v.axes := (congrArg AxisTable.axes haxes₄).trans (congrArg PartsView.axes hparts₃)
    refine ⟨?_, ?_, axesStand_congr ha haxes₂, hmotors₄, hloops⟩
    · rw [hsheets₄, hsheets₃]
      exact hsheets
    · rw [hs]
      exact hslots₂
  exact stopped.congr (by simp) (by simp) (motorsIn_of_motorView (by simp) hmotors₄)

theorem holdUnlit_stopped {s : State} (h : Stopped s) : Stopped (holdUnlit s) :=
  h.congr (by simp) (holdUnlit_partsView s) (holdUnlit_motorsIn not_stopping_five h.2.2.2.1)

theorem safestopEnter_stopped (s : State) (c : Nat) : Stopped (safestopEnter s c) := by
  obtain ⟨t, heq⟩ := safestopEnter_eq s c
  rw [heq]
  have stopped := stopWork_stopped t
  generalize stopWork t = u at stopped ⊢
  apply holdUnlit_stopped
  split
  · exact stopped.congr (by simp) (dozeToSafestop_partsView u) (dozeToSafestop_motorsIn not_stopping_five stopped.2.2.2.1)
  · exact stopped

end Sys2Proof.Machine

/-! # The obligation of SAFESTOP (R47, R48, R561, R562, R614) -/

namespace Sys2Proof.Machine

/-! ## What the steps of an entry leave of the pins and of the cause on record -/

/-- The last cause of SAFESTOP on record (2400:07), as the log block has it. -/
def lastCause (d : Tab Nat) : Option Nat := tabFind d (keyOf 0x2400 7)

/-- The last cause of SAFESTOP on record. -/
structure CauseView where
  lastCause : Option Nat

def causeView (s : State) : CauseView :=
  ⟨(lastCause s.log.dict)⟩

@[simp] theorem causeView_mk (time powered md kick hold reset_ seq rails clk net flash dict blobs staged stagedBlobs stagers armed accs sheets
    nextUid tenants coalescing mem stations trackers slots motors axes loops ains pins diag log heatTicks heatFrom out fresh pending) :
    causeView ⟨time, powered, md, kick, hold, reset_, seq, rails, clk, net, flash, dict, blobs, staged, stagedBlobs, stagers, armed, accs,
    sheets, nextUid, tenants, coalescing, mem, stations, trackers, slots, motors, axes, loops, ains, pins, diag, log, heatTicks, heatFrom, out,
    fresh, pending⟩ = ⟨(lastCause log.dict)⟩ := rfl
@[simp] theorem causeView_self (s : State) :
    CauseView.mk (lastCause s.log.dict) = causeView s := rfl

@[simp] theorem ite_causeView (c : Prop) [Decidable c] (a b : State) :
    causeView (if c then a else b) = if c then causeView a else causeView b := apply_ite causeView c a b
@[simp] theorem ite_causeView1 {α : Type} (c : Prop) [Decidable c] (a b : State × α) :
    causeView (if c then a else b).1 = if c then causeView a.1 else causeView b.1 := apply_ite (fun x : State × α => causeView x.1) c a b
@[simp] theorem foldl_causeView {α : Type} (l : List α) (f : State → α → State) (s : State)
    (h : ∀ u x, causeView (f u x) = causeView u) :
    causeView (l.foldl f s) = causeView s := foldl_view causeView l f s fun u x _ => h u x
@[simp] theorem forEach_causeView (l : List Nat) (f : State → Nat → State) (s : State)
    (h : ∀ u x, causeView (f u x) = causeView u) :
    causeView (forEach l f s) = causeView s := foldl_causeView l f s h
@[simp] theorem put_causeView (s : State) (i j v : Nat) : causeView (put s i j v) = causeView s := (rfl)
@[simp] theorem emit_causeView (s : State) (o : Output) : causeView (emit s o) = causeView s := (rfl)
@[simp] theorem setTracker_causeView (s : State) (n : Nat) (f : Tracker → Tracker) : causeView (setTracker s n f) = causeView s := (rfl)
@[simp] theorem setMotor_causeView (s : State) (n : Nat) (f : Motor → Motor) : causeView (setMotor s n f) = causeView s := (rfl)
@[simp] theorem putLog_causeView (s : State) (i j v : Nat) (h : i * 256 + j ≠ 0x240007) : causeView (putLog s i j v) = causeView s :=
  congrArg CauseView.mk (tabFind_tabSet_other s.log.dict v fun e => h e.symm)
@[simp] theorem satLog_causeView (w : Nat) (s : State) (i j : Nat) (h : i * 256 + j ≠ 0x240007) : causeView (satLog w s i j) = causeView s :=
  putLog_causeView s i j _ h
@[simp] theorem wrapLog_causeView (w : Nat) (s : State) (i j : Nat) (h : i * 256 + j ≠ 0x240007) : causeView (wrapLog w s i j) = causeView s :=
  putLog_causeView s i j _ h

@[simp] theorem vector_causeView (s : State) (fn vec : Nat) : causeView (vector s fn vec) = causeView s := by unfold vector; simp
theorem mirrorPlace_dict {l l' : Log} {e : Entry} (h : mirrorPlace l e = some l') : l'.dict = l.dict := by
  unfold mirrorPlace at h
  split at h
  · obtain rfl := Option.some.inj h
    rfl
  · split at h
    · obtain rfl := Option.some.inj h
      rfl
    · simp at h
@[simp] theorem mirrorWrite_causeView (s : State) (e : Entry) : causeView (mirrorWrite s e) = causeView s := by
  unfold mirrorWrite
  split
  · rfl
  · split
    next l hl =>
      have hdict : l.dict = s.log.dict := by
        split at hl
        · exact mirrorPlace_dict hl
        · simp at hl
      exact congrArg (fun d => CauseView.mk (lastCause d)) hdict
    · simp
@[simp] theorem ringWrite_causeView (s : State) (e : Entry) : causeView (ringWrite s e) = causeView s := by unfold ringWrite; simp
@[simp] theorem notice_causeView (s : State) (idx sub cls : Nat) : causeView (notice s idx sub cls) = causeView s := by unfold notice; simp
@[simp] theorem classVectors_causeView (s : State) (cls : Nat) : causeView (classVectors s cls) = causeView s := by unfold classVectors; simp
@[simp] theorem logOnly_causeView (s : State) (cls kind src inst idx sub : Nat) (serial : Option Nat) (detail : Nat) :
  causeView (logOnly s cls kind src inst idx sub serial detail) = causeView s := by
  unfold logOnly; simp
@[simp] theorem log_causeView (s : State) (cls kind src inst idx sub : Nat) (serial : Option Nat) (detail : Nat) :
  causeView (log s cls kind src inst idx sub serial detail) = causeView s := by
  unfold log; simp
@[simp] theorem logEvent_causeView (s : State) (cls src inst idx sub : Nat) : causeView (logEvent s cls src inst idx sub) = causeView s := by
  unfold logEvent; simp
@[simp] theorem setMotorState_causeView (s : State) (m v : Nat) : causeView (setMotorState s m v) = causeView s := (rfl)
@[simp] theorem phaseLost_causeView (s : State) (k : Nat) : causeView (phaseLost s k) = causeView s := by unfold phaseLost; simp
@[simp] theorem holdOff_causeView (s : State) (k : Nat) : causeView (holdOff s k) = causeView s := by unfold holdOff; simp
@[simp] theorem holdUnlit_causeView (s : State) : causeView (holdUnlit s) = causeView s := by unfold holdUnlit; simp
/-- What the pins show of the interlock and of SAFE_N (R562, R559). -/
def guardPins (p : Pins) : Bool × Bool := (p.ilockOpen, p.safeMismatch)

/-- The interlock and the feedback of SAFE_N. -/
structure GuardView where
  guardPins : Bool × Bool

def guardView (s : State) : GuardView :=
  ⟨(guardPins s.pins)⟩

@[simp] theorem guardView_mk (time powered md kick hold reset_ seq rails clk net flash dict blobs staged stagedBlobs stagers armed accs sheets
    nextUid tenants coalescing mem stations trackers slots motors axes loops ains pins diag log heatTicks heatFrom out fresh pending) :
    guardView ⟨time, powered, md, kick, hold, reset_, seq, rails, clk, net, flash, dict, blobs, staged, stagedBlobs, stagers, armed, accs,
    sheets, nextUid, tenants, coalescing, mem, stations, trackers, slots, motors, axes, loops, ains, pins, diag, log, heatTicks, heatFrom, out,
    fresh, pending⟩ = ⟨(guardPins pins)⟩ := rfl
@[simp] theorem guardView_self (s : State) :
    GuardView.mk (guardPins s.pins) = guardView s := rfl

@[simp] theorem ite_guardView (c : Prop) [Decidable c] (a b : State) :
    guardView (if c then a else b) = if c then guardView a else guardView b := apply_ite guardView c a b
@[simp] theorem ite_guardView1 {α : Type} (c : Prop) [Decidable c] (a b : State × α) :
    guardView (if c then a else b).1 = if c then guardView a.1 else guardView b.1 := apply_ite (fun x : State × α => guardView x.1) c a b
@[simp] theorem foldl_guardView {α : Type} (l : List α) (f : State → α → State) (s : State)
    (h : ∀ u x, guardView (f u x) = guardView u) :
    guardView (l.foldl f s) = guardView s := foldl_view guardView l f s fun u x _ => h u x
@[simp] theorem forEach_guardView (l : List Nat) (f : State → Nat → State) (s : State)
    (h : ∀ u x, guardView (f u x) = guardView u) :
    guardView (forEach l f s) = guardView s := foldl_guardView l f s h
@[simp] theorem put_guardView (s : State) (i j v : Nat) : guardView (put s i j v) = guardView s := (rfl)
@[simp] theorem putS_guardView (s : State) (w i j : Nat) (v : Int) : guardView (putS s w i j v) = guardView s := (rfl)
@[simp] theorem wrapBy_guardView (w : Nat) (s : State) (i j n : Nat) : guardView (wrapBy w s i j n) = guardView s := (rfl)
@[simp] theorem satBy_guardView (w : Nat) (s : State) (i j n : Nat) : guardView (satBy w s i j n) = guardView s := (rfl)
@[simp] theorem bump_guardView (s : State) (i j : Nat) : guardView (bump s i j) = guardView s := (rfl)
@[simp] theorem sat_guardView (s : State) (i j : Nat) : guardView (sat s i j) = guardView s := (rfl)
@[simp] theorem putBlob_guardView (s : State) (i j : Nat) (l : List Byte) : guardView (putBlob s i j l) = guardView s := (rfl)
@[simp] theorem putLog_guardView (s : State) (i j v : Nat) : guardView (putLog s i j v) = guardView s := (rfl)
@[simp] theorem wrapLog_guardView (w : Nat) (s : State) (i j : Nat) : guardView (wrapLog w s i j) = guardView s := (rfl)
@[simp] theorem satLog_guardView (w : Nat) (s : State) (i j : Nat) : guardView (satLog w s i j) = guardView s := (rfl)
@[simp] theorem emit_guardView (s : State) (o : Output) : guardView (emit s o) = guardView s := (rfl)
@[simp] theorem setStation_guardView (s : State) (n : Nat) (f : Station → Station) : guardView (setStation s n f) = guardView s := (rfl)
@[simp] theorem setTracker_guardView (s : State) (n : Nat) (f : Tracker → Tracker) : guardView (setTracker s n f) = guardView s := (rfl)
@[simp] theorem setMotor_guardView (s : State) (n : Nat) (f : Motor → Motor) : guardView (setMotor s n f) = guardView s := (rfl)
@[simp] theorem setAxis_guardView (s : State) (n : Nat) (f : Axis → Axis) : guardView (setAxis s n f) = guardView s := (rfl)
@[simp] theorem setLoop_guardView (s : State) (n : Nat) (f : Loop → Loop) : guardView (setLoop s n f) = guardView s := (rfl)
@[simp] theorem setTenant_guardView (s : State) (n : Nat) (f : Tenant → Tenant) : guardView (setTenant s n f) = guardView s := (rfl)
@[simp] theorem modSheet_guardView (s : State) (uid : Nat) (f : Sheet → Sheet) : guardView (modSheet s uid f) = guardView s := (rfl)

@[simp] theorem holdTime_guardView (s : State) : guardView (holdTime s) = guardView s := (rfl)
@[simp] theorem vector_guardView (s : State) (fn vec : Nat) : guardView (vector s fn vec) = guardView s := by unfold vector; simp
@[simp] theorem mirrorWrite_guardView (s : State) (e : Entry) : guardView (mirrorWrite s e) = guardView s := by
  unfold mirrorWrite; (repeat' split) <;> simp
@[simp] theorem ringWrite_guardView (s : State) (e : Entry) : guardView (ringWrite s e) = guardView s := by unfold ringWrite; simp
@[simp] theorem notice_guardView (s : State) (idx sub cls : Nat) : guardView (notice s idx sub cls) = guardView s := by unfold notice; simp
@[simp] theorem noticeAlone_guardView (s : State) (idx sub cls : Nat) : guardView (noticeAlone s idx sub cls) = guardView s := by
  unfold noticeAlone; simp
@[simp] theorem classVectors_guardView (s : State) (cls : Nat) : guardView (classVectors s cls) = guardView s := by unfold classVectors; simp
@[simp] theorem logOnly_guardView (s : State) (cls kind src inst idx sub : Nat) (serial : Option Nat) (detail : Nat) :
  guardView (logOnly s cls kind src inst idx sub serial detail) = guardView s := by
  unfold logOnly; simp
@[simp] theorem log_guardView (s : State) (cls kind src inst idx sub : Nat) (serial : Option Nat) (detail : Nat) :
  guardView (log s cls kind src inst idx sub serial detail) = guardView s := by
  unfold log; simp
@[simp] theorem logEvent_guardView (s : State) (cls src inst idx sub : Nat) : guardView (logEvent s cls src inst idx sub) = guardView s := by
  unfold logEvent; simp
@[simp] theorem serveDrop_guardView (s : State) (m : Mech) (inst : Nat) : guardView (serveDrop s m inst) = guardView s := (rfl)
@[simp] theorem serveBegin_guardView (s : State) (m : Mech) (inst code src idx sub : Nat) :
  guardView (serveBegin s m inst code src idx sub) = guardView s := by
  unfold serveBegin; simp
@[simp] theorem servePass_guardView (s : State) (m : Mech) (inst src idx sub : Nat) : guardView (servePass s m inst src idx sub) = guardView s
    := by
  unfold servePass; split <;> simp
@[simp] theorem doubleFaultAs_guardView (cls : Nat) (s : State) (m : Mech) (inst code src idx sub : Nat) :
  guardView (doubleFaultAs cls s m inst code src idx sub) = guardView s := by
  unfold doubleFaultAs; simp
@[simp] theorem serveCancel_guardView (s : State) (m : Mech) (inst src idx sub : Nat) : guardView (serveCancel s m inst src idx sub) = guardView
    s := by
  unfold serveCancel; split <;> simp
@[simp] theorem watch_guardView (high : Bool) (s : State) (idx sub old v : Nat) : guardView (watch high s idx sub old v) = guardView s := by
  unfold watch; simp
@[simp] theorem causeAdd_guardView (s : State) (c inst : Nat) : guardView (causeAdd s c inst) = guardView s := by unfold causeAdd; simp
@[simp] theorem setSlots_guardView (s : State) (l : Tab Event) : guardView (setSlots s l) = guardView s := by unfold setSlots; simp
@[simp] theorem dropEvents_guardView (s : State) (p : Event → Bool) : guardView (dropEvents s p) = guardView s := by unfold dropEvents; simp
@[simp] theorem writeEntry_guardView (s : State) (t : Nat) (l : List Byte) : guardView (writeEntry s t l) = guardView s := (rfl)
@[simp] theorem signalEntry_guardView (s : State) (t : Nat) : guardView (signalEntry s t) = guardView s := by unfold signalEntry; simp
@[simp] theorem writeSignal_guardView (s : State) (t : Nat) (h : Held) : guardView (writeSignal s t h) = guardView s := by unfold writeSignal; simp
@[simp] theorem deliver_guardView (s : State) (t : Nat) (h : Held) : guardView (deliver s t h) = guardView s := by unfold deliver; simp
@[simp] theorem countOutcome_guardView (s : State) (outcome : Nat) : guardView (countOutcome s outcome) = guardView s := by
  unfold countOutcome; simp
@[simp] theorem completion_guardView (s : State) (sh : Sheet) (outcome reason : Nat) (double : Bool) :
  guardView (completion s sh outcome reason double) = guardView s := by
  unfold completion; simp
@[simp] theorem toScrubbing_guardView (s : State) (t : Nat) : guardView (toScrubbing s t) = guardView s := by unfold toScrubbing; simp
@[simp] theorem ghostCheck_guardView (s : State) (t : Nat) : guardView (ghostCheck s t) = guardView s := by unfold ghostCheck; simp
@[simp] theorem removeSheet_guardView (s : State) (uid : Nat) : guardView (removeSheet s uid) = guardView s := by unfold removeSheet; simp
@[simp] theorem finishSheet_guardView (s : State) (sh : Sheet) : guardView (finishSheet s sh) = guardView s := by unfold finishSheet; simp
@[simp] theorem overtaken_guardView (s : State) (uid : Nat) : guardView (overtaken s uid) = guardView s := (rfl)
@[simp] theorem setMotorState_guardView (s : State) (m v : Nat) : guardView (setMotorState s m v) = guardView s := (rfl)
@[simp] theorem startRamp_guardView (s : State) (m : Nat) (v : Int) (d : Nat) : guardView (startRamp s m v d) = guardView s := (rfl)
@[simp] theorem spinUp_guardView (s : State) (m : Nat) : guardView (spinUp s m) = guardView s := by unfold spinUp; simp
@[simp] theorem unlock_guardView (s : State) (m : Nat) : guardView (unlock s m) = guardView s := by unfold unlock; simp
@[simp] theorem commandEntry_guardView (s : State) (m k : Nat) : guardView (commandEntry s m k) = guardView s := by unfold commandEntry; simp
@[simp] theorem brakeMotor_guardView (s : State) (m : Nat) : guardView (brakeMotor s m) = guardView s := by unfold brakeMotor; simp
@[simp] theorem setHomed_guardView (s : State) (a : Nat) (b : Bool) : guardView (setHomed s a b) = guardView s := (rfl)
@[simp] theorem settlePosition_guardView (s : State) (a : Nat) (pos : Int) (steps : Nat) : guardView (settlePosition s a pos steps) = guardView
    s := (rfl)
@[simp] theorem toStandstill_guardView (s : State) (a : Nat) : guardView (toStandstill s a) = guardView s := (rfl)
@[simp] theorem runMove_guardView (s : State) (a : Nat) (m : Move) (wait : Nat) : guardView (runMove s a m wait) = guardView s := (rfl)
@[simp] theorem noMove_guardView (s : State) (a : Nat) : guardView (noMove s a) = guardView s := (rfl)
@[simp] theorem startMove_guardView (s : State) (a : Nat) (m : Move) : guardView (startMove s a m) = guardView s := by unfold startMove; simp
@[simp] theorem startGroup_guardView (s : State) (l : List (Nat × Move)) : guardView (startGroup s l) = guardView s := by unfold startGroup; simp
@[simp] theorem groupMove_guardView (s : State) (g r : Nat) : guardView (groupMove s g r) = guardView s := by unfold groupMove; split <;> simp
@[simp] theorem moveOverrun_guardView (s : State) (a : Nat) : guardView (moveOverrun s a) = guardView s := by unfold moveOverrun; simp
@[simp] theorem fireMove_guardView (s : State) (a r : Nat) : guardView (fireMove s a r).1 = guardView s := by
  unfold fireMove; simp only; (repeat' split) <;> simp
@[simp] theorem hardStop_guardView (s : State) (a : Nat) : guardView (hardStop s a) = guardView s := by
  unfold hardStop; simp only; (repeat' split) <;> simp
@[simp] theorem slowStop_guardView (s : State) (a : Nat) (dec : Option Nat) : guardView (slowStop s a dec) = guardView s := by
  unfold slowStop; simp only; (repeat' split) <;> simp
@[simp] theorem rampedStop_guardView (s : State) (a : Nat) : guardView (rampedStop s a) = guardView s := by unfold rampedStop; simp
@[simp] theorem stopAxis_guardView (s : State) (a : Nat) (hard : Bool) : guardView (stopAxis s a hard) = guardView s := by unfold stopAxis; simp
@[simp] theorem safestopAxis_guardView (s : State) (a : Nat) : guardView (safestopAxis s a) = guardView s := by unfold safestopAxis; simp
@[simp] theorem outputOff_guardView (s : State) (n : Nat) : guardView (outputOff s n) = guardView s := by unfold outputOff; simp
@[simp] theorem loopOffNow_guardView (s : State) (n : Nat) : guardView (loopOffNow s n) = guardView s := by unfold loopOffNow; simp
@[simp] theorem softStart_guardView (s : State) (n : Nat) : guardView (softStart s n) = guardView s := by unfold softStart; simp
@[simp] theorem captureTrigger_guardView (s : State) (n : Nat) : guardView (captureTrigger s n) = guardView s := by unfold captureTrigger; simp
@[simp] theorem loopCommandOff_guardView (s : State) (n : Nat) : guardView (loopCommandOff s n) = guardView s := by unfold loopCommandOff; simp
@[simp] theorem loopCommandOn_guardView (s : State) (n : Nat) : guardView (loopCommandOn s n) = guardView s := by
  unfold loopCommandOn; split <;> simp
@[simp] theorem selectBank_guardView (s : State) (n b : Nat) : guardView (selectBank s n b) = guardView s := (rfl)
@[simp] theorem safestopLoop_guardView (s : State) (n : Nat) : guardView (safestopLoop s n) = guardView s := by unfold safestopLoop; simp
@[simp] theorem restLanes_guardView (s : State) (n : Nat) : guardView (restLanes s n) = guardView s := (rfl)
@[simp] theorem updateFreeboard_guardView (s : State) (n : Nat) : guardView (updateFreeboard s n) = guardView s := by unfold updateFreeboard; simp
@[simp] theorem setDecoder_guardView (s : State) (n v : Nat) : guardView (setDecoder s n v) = guardView s := (rfl)
@[simp] theorem refill_guardView (s : State) (n : Nat) : guardView (refill s n) = guardView s := by unfold refill; simp
@[simp] theorem dropPlane_guardView (s : State) (n state : Nat) : guardView (dropPlane s n state) = guardView s := (rfl)
@[simp] theorem discardData_guardView (s : State) (n uid : Nat) : guardView (discardData s n uid) = guardView s := (rfl)
@[simp] theorem emptyFifo_guardView (s : State) (n : Nat) : guardView (emptyFifo s n) = guardView s := by unfold emptyFifo; simp
@[simp] theorem stopRaster_guardView (s : State) (n : Nat) : guardView (stopRaster s n) = guardView s := by unfold stopRaster; simp
@[simp] theorem forgetAt_guardView (s : State) (uid n : Nat) : guardView (forgetAt s uid n) = guardView s := by unfold forgetAt; simp
@[simp] theorem forgetRaster_guardView (s : State) (uid : Nat) : guardView (forgetRaster s uid) = guardView s := by unfold forgetRaster; simp
@[simp] theorem withdrawOne_guardView (s : State) (uid : Nat) : guardView (withdrawOne s uid) = guardView s := by unfold withdrawOne; simp
@[simp] theorem phaseLost_guardView (s : State) (k : Nat) : guardView (phaseLost s k) = guardView s := by unfold phaseLost; simp
@[simp] theorem holdOff_guardView (s : State) (k : Nat) : guardView (holdOff s k) = guardView s := by unfold holdOff; simp
@[simp] theorem holdUnlit_guardView (s : State) : guardView (holdUnlit s) = guardView s := by unfold holdUnlit; simp
@[simp] theorem dropCorrections_guardView (s : State) (n : Nat) : guardView (dropCorrections s n) = guardView s := (rfl)
@[simp] theorem pinSetValue_guardView (s : State) (p v : Nat) : guardView (pinSetValue s p v) = guardView s := by unfold pinSetValue; simp
@[simp] theorem merged_guardView (s : State) (g : Nat) : guardView (merged s g) = guardView s := (rfl)
@[simp] theorem dropStaged_guardView (s : State) (g : Nat) : guardView (dropStaged s g) = guardView s := (rfl)
@[simp] theorem copyGroup_guardView (s : State) (g : Nat) : guardView (copyGroup s g) = guardView s := (rfl)
@[simp] theorem rejectGroup_guardView (s : State) (g : Nat) : guardView (rejectGroup s g) = guardView s := by unfold rejectGroup; simp
@[simp] theorem setDlls_guardView (s : State) (v : Nat) : guardView (setDlls s v) = guardView s := by unfold setDlls; simp
@[simp] theorem closeGate_guardView (s : State) : guardView (closeGate s) = guardView s := by unfold closeGate; simp
@[simp] theorem relockAttempt_guardView (s : State) : guardView (relockAttempt s) = guardView s := (rfl)
@[simp] theorem startRelock_guardView (s : State) (occ : Occasion) : guardView (startRelock s occ) = guardView s := by unfold startRelock; simp
@[simp] theorem recordMode_guardView (s : State) (new : Mode) (cause : Nat) : guardView (recordMode s new cause) = guardView s := by
  unfold recordMode; simp
@[simp] theorem rasterOff_guardView (s : State) : guardView (rasterOff s) = guardView s := by unfold rasterOff; simp
@[simp] theorem serviceOff_guardView (s : State) : guardView (serviceOff s) = guardView s := by unfold serviceOff; simp
@[simp] theorem dozeRailsOn_guardView (s : State) : guardView (dozeRailsOn s) = guardView s := (rfl)
@[simp] theorem leaveDoze_guardView (s : State) : guardView (leaveDoze s) = guardView s := by unfold leaveDoze; simp
@[simp] theorem recordCause_guardView (s : State) (cause : Nat) : guardView (recordCause s cause) = guardView s := (rfl)
@[simp] theorem safestopMotor_guardView (s : State) (m : Nat) : guardView (safestopMotor s m) = guardView s := by unfold safestopMotor; simp
@[simp] theorem safestopAxisAll_guardView (s : State) (a : Nat) : guardView (safestopAxisAll s a) = guardView s := by unfold safestopAxisAll; simp
@[simp] theorem withdrawEvery_guardView (s : State) : guardView (withdrawEvery s) = guardView s := by unfold withdrawEvery; simp
@[simp] theorem dozeToSafestop_guardView (s : State) : guardView (dozeToSafestop s) = guardView s := by unfold dozeToSafestop; simp
@[simp] theorem speedNow_guardView (s : State) (m k : Nat) (own : Bool) : guardView (speedNow s m k own) = guardView s := by unfold speedNow; simp
@[simp] theorem deferAxis_guardView (s : State) (a : Nat) (c : AxisDeferred) : guardView (deferAxis s a c) = guardView s := by
  unfold deferAxis; split <;> simp
@[simp] theorem moveNow_guardView (s : State) (a v : Nat) : guardView (moveNow s a v).1 = guardView s := by unfold moveNow; (repeat' split) <;> simp
@[simp] theorem moveCommand_guardView (s : State) (a v : Nat) : guardView (moveCommand s a v) = guardView s := by unfold moveCommand; split <;> simp
@[simp] theorem stopCommand_guardView (s : State) (a : Nat) (hard : Bool) : guardView (stopCommand s a hard) = guardView s := by
  unfold stopCommand; split <;> simp
@[simp] theorem flagEvent_guardView (s : State) (e : Event) : guardView (flagEvent s e) = guardView s := by unfold flagEvent; simp
@[simp] theorem markFired_guardView (s : State) (k : Nat) (e : Event) (late : Bool) : guardView (markFired s k e late) = guardView s := by
  unfold markFired; split <;> simp
@[simp] theorem mistime_guardView (s : State) (k old new : Nat) : guardView (mistime s k old new) = guardView s := by
  unfold mistime; refine (foldl_guardView _ _ _ fun u x => ?_).trans ?_ <;> (repeat' split) <;> simp
@[simp] theorem decideRoute_guardView (s : State) (uid : Nat) : guardView (decideRoute s uid) = guardView s := (rfl)
@[simp] theorem dropEvent_guardView (s : State) (k : Nat) : guardView (dropEvent s k) = guardView s := by unfold dropEvent; simp
@[simp] theorem missMedium_guardView (s : State) (uid : Nat) (allHv : Bool) : guardView (missMedium s uid allHv) = guardView s := by
  unfold missMedium; simp
@[simp] theorem dropped_guardView (e : Event) (r : State × Bool) : guardView (dropped e r) = guardView r.1 := by unfold dropped; split <;> simp
@[simp] theorem actMove_guardView (s : State) (e : Event) : guardView (actMove s e) = guardView s := by unfold actMove; simp
@[simp] theorem actStop_guardView (s : State) (e : Event) : guardView (actStop s e) = guardView s := by unfold actStop; simp
@[simp] theorem actSpeed_guardView (s : State) (e : Event) : guardView (actSpeed s e) = guardView s := by unfold actSpeed; simp
@[simp] theorem actPin_guardView (s : State) (e : Event) : guardView (actPin s e) = guardView s := by unfold actPin; simp
@[simp] theorem actArrival_guardView (s : State) (e : Event) (seen : Bool) : guardView (actArrival s e seen) = guardView s := by
  unfold actArrival; split <;> simp
@[simp] theorem actBank_guardView (s : State) (e : Event) : guardView (actBank s e) = guardView s := by unfold actBank; simp
@[simp] theorem actLoopOn_guardView (s : State) (e : Event) : guardView (actLoopOn s e) = guardView s := by unfold actLoopOn; simp
@[simp] theorem actLoopOff_guardView (s : State) (e : Event) : guardView (actLoopOff s e) = guardView s := by unfold actLoopOff; simp
@[simp] theorem actExit_guardView (s : State) (e : Event) : guardView (actExit s e) = guardView s := by unfold actExit; (repeat' split) <;> simp
@[simp] theorem actMark_guardView (s : State) (e : Event) : guardView (actMark s e) = guardView s := by unfold actMark; simp
@[simp] theorem actCapture_guardView (s : State) (e : Event) : guardView (actCapture s e) = guardView s := by unfold actCapture; simp
@[simp] theorem act_guardView (s : State) (e : Event) (seen : Bool) : guardView (act s e seen) = guardView s := by unfold act; split <;> simp
@[simp] theorem fire_guardView (s : State) (k : Nat) (e : Event) (late seen : Bool) : guardView (fire s k e late seen) = guardView s := by
  unfold fire; (repeat' split) <;> simp
@[simp] theorem safetyEvent_guardView (s : State) (kind : Nat) : guardView (safetyEvent s kind) = guardView s := by unfold safetyEvent; simp

theorem pins_of_guardView {t : State} {open_ mismatch : Bool} (h : guardView t = ⟨(open_, mismatch)⟩) :
    t.pins.ilockOpen = open_ ∧ t.pins.safeMismatch = mismatch :=
  have hpins : guardPins t.pins = (open_, mismatch) := congrArg GuardView.guardPins h
  ⟨congrArg Prod.fst hpins, congrArg Prod.snd hpins⟩

theorem get_lastCause {s t : State} (h : causeView t = causeView s) : get t 0x2400 7 = get s 0x2400 7 := by
  have hcause : lastCause t.log.dict = lastCause s.log.dict := congrArg CauseView.lastCause h
  have hget (u : State) : get u 0x2400 7 = match lastCause u.log.dict with | some v => v | none => defaultOf 0x2400 7 := rfl
  rw [hget, hget, hcause]

theorem axes_of_partsView {s t : State} (h : partsView t = partsView s) : t.axes = s.axes := congrArg PartsView.axes h

theorem loops_of_partsView {s t : State} (h : partsView t = partsView s) : t.loops = s.loops := congrArg PartsView.loops h

theorem slots_of_partsView {s t : State} (h : partsView t = partsView s) : t.slots = s.slots := congrArg PartsView.slots h

theorem loops_of_loopTable {s t : State} (h : loopTable t = loopTable s) : t.loops = s.loops := congrArg LoopTable.loops h

theorem persists_causeAdd (s : State) (c n : Nat) : persists (causeAdd s c n) c = true := by
  unfold persists causeAdd
  split
  next h => exact List.any_eq_true.2 ⟨(c, n), by simpa using h, by simp⟩
  next => simp

theorem persists_congr {s t : State} (h : logState t = logState s) (c : Nat) : persists t c = persists s c := by
  rw [persists, persists, causes_of_logState h]

/-! ## The motors, where trackers are held off -/

/-- A motor's state stays, or leaves PHASE-LOCKED (R434, R459). -/
def LeavesLock (s t : State) : Prop := ∀ m, m < 12 → motorState t m = motorState s m ∨ motorState s m = 5 ∧ motorState t m = 4

theorem LeavesLock.refl (s : State) : LeavesLock s s := fun _ _ => .inl rfl

theorem LeavesLock.trans {s t u : State} (h : LeavesLock s t) (k : LeavesLock t u) : LeavesLock s u := fun m hm => by
  rcases h m hm with h | ⟨h5, h4⟩ <;> rcases k m hm with k | ⟨k5, k4⟩
  · exact .inl (k.trans h)
  · exact .inr ⟨h ▸ k5, k4⟩
  · exact .inr ⟨h5, k.trans h4⟩
  · exact .inr ⟨h5, k4⟩

theorem leavesLock_of_motorView {s t : State} (h : motorView t = motorView s) : LeavesLock s t := fun _ hm =>
  .inl (motorState_of_motorStates (congrArg MotorView.motorStates h) hm)

theorem phaseLost_leavesLock (s : State) (k : Nat) : LeavesLock s (phaseLost s k) := by
  intro m hm
  unfold phaseLost
  split
  next h =>
    have hlog (u : State) : motorState (logEvent u clsWarn 0x0B k (motIdx k) 0x30) m = motorState u m :=
      (logEvent_sameButLog _ _ _ _ _ _).get _ (isLogIdx_motIdx m)
    rw [hlog]
    by_cases hmk : m = k
    · subst hmk
      exact .inr ⟨h.2, get_put_same _ _ _ (isLogIdx_motIdx m)⟩
    · exact .inl (get_put_other _ _ (by unfold keyOf motIdx; omega))
  next => exact .inl rfl

theorem holdOff_leavesLock (s : State) (k : Nat) : LeavesLock s (holdOff s k) := phaseLost_leavesLock s k

theorem holdUnlit_leavesLock (s : State) : LeavesLock s (holdUnlit s) :=
  foldl_keeps (LeavesLock s) _ _ s (fun u k _ hu => by
    split
    · exact hu
    · exact hu.trans (holdOff_leavesLock u k)) (.refl s)

/-! ## The triggers -/

theorem safestopEnter_guardView (s : State) (c : Nat) : guardView (safestopEnter s c) = guardView s := by
  have quiet : guardView (satLog 16 (if c = 1 then recordCause s c else causeAdd (recordCause s c) c entryInst) 0x2400 5) = guardView s := by
    split <;> simp
  simp only [safestopEnter, holdUnlit_guardView, ite_guardView, dozeToSafestop_guardView, ite_self]
  generalize satLog 16 (if c = 1 then recordCause s c else causeAdd (recordCause s c) c entryInst) 0x2400 5 = t at quiet ⊢
  simp [guardPins, ← quiet]
  rfl

/-- What an entry to SAFESTOP with a cause shows. -/
theorem safestopEnter_shows (s : State) (c : Nat) :
    (safestopEnter s c).md.mode = .safestop ∧ (safestopEnter s c).md.previous = s.md.mode ∧ get (safestopEnter s c) 0x2000 5 = c ∧
      (safestopEnter s c).md.entering = true ∧ (safestopEnter s c).md.pending = none ∧ (safestopEnter s c).pins.safeN = true ∧
      Stopped (safestopEnter s c) := by
  obtain ⟨hmd, hsafe, hcause⟩ := modeView_eq_iff.1 (safestopEnter_modeView s c)
  refine ⟨?_, ?_, hcause, ?_, ?_, hsafe, safestopEnter_stopped s c⟩ <;> rw [hmd]

/-- Where a trigger starts an entry (R44, R48). -/
theorem safestopBy_enters {s : State} (h : s.md.mode ∈ [Mode.standby, .warmup, .ready, .rally, .runout, .calibrate, .service, .doze]) (c n : Nat) :
    safestopBy s c n = safestopEnter (causeAdd s c n) c := by
  have hmd : (causeAdd s c n).md = s.md := md_of_modeView (causeAdd_modeView s c n)
  refine safestop_of_operating ?_ ?_ ?_ ?_ c <;> (rw [hmd]; intro e; simp [e] at h)

/-- What is recorded of an open interlock before its cause acts (R562). -/
def ilockRecorded (s : State) : State := safetyEvent (satLog 16 (interlockPath s) 0x2400 0x0A) 1

theorem execIlockOpen_eq {s : State} (hp : s.powered = true) (ho : s.pins.ilockOpen = false) :
    exec .ilockOpen s = .next (settle (holdUnlit (safestopBy (ilockRecorded s) 8 0))) := by
  simp [exec, execIlockOpen, hp, ho, done, ilockRecorded]

theorem execSafeNMismatch_eq {s : State} (hp : s.powered = true) (ho : s.pins.safeMismatch = false) :
    exec .safeNMismatch s = .next (settle (safestopBy (safetyEvent { s with pins := { s.pins with safeMismatch := true } } 5) 6 5)) := by
  simp [exec, execSafeNMismatch, hp, ho, done]

theorem interlockPath_modeView (s : State) : modeView (interlockPath s) = (s.md, true, get s 0x2000 5) := by
  rw [interlockPath, forEach_modeView _ _ _ fun u a => hardStop_modeView u a]
  rfl

theorem ilockRecorded_modeView (s : State) : modeView (ilockRecorded s) = (s.md, true, get s 0x2000 5) := by
  rw [ilockRecorded, safetyEvent_modeView, satLog_modeView, interlockPath_modeView]

theorem ilockRecorded_guardView (s : State) : guardView (ilockRecorded s) = ⟨true, s.pins.safeMismatch⟩ := by
  simp [ilockRecorded, interlockPath, guardPins]

/-- The interlock's trigger where no entry follows: its cause is recorded, its hardware acts (R48, R614). -/
theorem ilockOpen_masked {s : State} (h : s.md.mode = .kickoff ∨ s.md.mode = .terp ∨ s.md.mode = .safestop ∨ s.md.mode = .shutdown) :
    let t := holdUnlit (safestopBy (ilockRecorded s) 8 0)
    t.md = s.md ∧ t.pins.ilockOpen = true ∧ get t 0x2400 7 = 8 ∧ persists t 8 = true ∧ t.sheets = s.sheets ∧ t.pins.safeN = true ∧ AxesStand t ∧
      t.loops = s.loops ∧ t.slots = s.slots ∧ LeavesLock s t := by
  have hmode := modeView_eq_iff.1 (ilockRecorded_modeView s)
  have hguard := ilockRecorded_guardView s
  have hsheets : (ilockRecorded s).sheets = s.sheets := by simp [ilockRecorded, interlockPath]
  have hrec : partsView (ilockRecorded s) = partsView (interlockPath s) := by simp [ilockRecorded]
  have haxes : AxesStand (ilockRecorded s) := axesStand_congr (axes_of_partsView hrec) (axesStand_hardStops _)
  have hloops : (ilockRecorded s).loops = s.loops := by
    have hstops : loopTable (interlockPath s) = loopTable s := by simp [interlockPath]
    exact (loops_of_partsView hrec).trans (loops_of_loopTable hstops)
  have hslots : (ilockRecorded s).slots = s.slots := by
    have hstops : slotTable (interlockPath s) = slotTable s := by simp [interlockPath]
    exact (slots_of_partsView hrec).trans (slots_of_slotTable hstops)
  have hmotors : LeavesLock s (ilockRecorded s) := leavesLock_of_motorView (by simp [ilockRecorded, interlockPath])
  generalize ilockRecorded s = r at hmode hguard hsheets haxes hloops hslots hmotors
  obtain ⟨hmd, hsafe, -⟩ := hmode
  have hadd : (causeAdd r 8 0).md = s.md := (md_of_modeView (causeAdd_modeView r 8 0)).trans hmd
  have hmasked : safestopBy r 8 0 = recordCause (causeAdd r 8 0) 8 := safestop_of_masked (by rw [hadd]; exact h) 8
  simp only [hmasked]
  have hparts : partsView (holdUnlit (recordCause (causeAdd r 8 0) 8)) = partsView r := by simp
  refine ⟨?_, ?_, ?_, ?_, ?_, ?_, ?_, ?_, ?_, ?_⟩
  · have hview : modeView (holdUnlit (recordCause (causeAdd r 8 0) 8)) = modeView (causeAdd r 8 0) := by simp
    rw [md_of_modeView hview, hadd]
  · have hpins : guardView (holdUnlit (recordCause (causeAdd r 8 0) 8)) = ⟨true, s.pins.safeMismatch⟩ := by simpa using hguard
    exact (pins_of_guardView hpins).1
  · rw [get_lastCause (holdUnlit_causeView _), recordCause, get_putLog_same _ _ _ (by rfl)]
  · rw [persists_congr (holdUnlit_logState _), recordCause, persists_congr (putLog_logState _ _ _ _), persists_causeAdd]
  · simp [hsheets]
  · have hview : modeView (holdUnlit (recordCause (causeAdd r 8 0) 8)) = modeView r := by simp
    rw [(modeView_eq_iff.1 hview).2.1]
    exact hsafe
  · exact axesStand_congr (axes_of_partsView hparts) haxes
  · exact (loops_of_partsView hparts).trans hloops
  · exact (slots_of_partsView hparts).trans hslots
  · exact (hmotors.trans (leavesLock_of_motorView (by simp))).trans (holdUnlit_leavesLock _)

/-- The interlock's trigger out of an operating mode or DOZE. -/
theorem ilockOpen_enters {s : State} (h : s.md.mode ∈ [Mode.standby, .warmup, .ready, .rally, .runout, .calibrate, .service, .doze]) :
    let t := holdUnlit (safestopBy (ilockRecorded s) 8 0)
    t.md.mode = .safestop ∧ t.md.previous = s.md.mode ∧ get t 0x2000 5 = 8 ∧ t.md.entering = true ∧ t.md.pending = none ∧ t.pins.safeN = true ∧
      Stopped t ∧ t.pins.ilockOpen = true := by
  have hmode := modeView_eq_iff.1 (ilockRecorded_modeView s)
  have hguard := ilockRecorded_guardView s
  generalize ilockRecorded s = r at hmode hguard
  obtain ⟨hmd, -, -⟩ := hmode
  have hadd : (causeAdd r 8 0).md = s.md := (md_of_modeView (causeAdd_modeView r 8 0)).trans hmd
  have hpins : guardView (causeAdd r 8 0) = guardView r := causeAdd_guardView r 8 0
  have hshows := safestopEnter_shows (causeAdd r 8 0) 8
  have hkept := safestopEnter_guardView (causeAdd r 8 0) 8
  rw [safestopBy_enters (by rw [hmd]; exact h)]
  rw [hadd] at hshows
  generalize safestopEnter (causeAdd r 8 0) 8 = t at hshows hkept
  have hview := modeView_eq_iff.1 (holdUnlit_modeView t)
  have hunlit := holdUnlit_guardView t
  obtain ⟨hmode, hprev, hcause, hent, hpend, hsafe, hstopped⟩ := hshows
  have hstop := holdUnlit_stopped hstopped
  generalize holdUnlit t = u at hview hunlit hstop ⊢
  obtain ⟨hvmd, hvsafe, hvcause⟩ := hview
  refine ⟨?_, ?_, hvcause.trans hcause, ?_, ?_, hvsafe.trans hsafe, hstop, ?_⟩
  · rw [hvmd, hmode]
  · rw [hvmd, hprev]
  · rw [hvmd, hent]
  · rw [hvmd, hpend]
  · exact (pins_of_guardView (hunlit.trans (hkept.trans (hpins.trans hguard)))).1

/-- A SAFE_N that reads against its drive, out of an operating mode or DOZE (R559). -/
theorem safeNMismatch_enters {s : State} (h : s.md.mode ∈ [Mode.standby, .warmup, .ready, .rally, .runout, .calibrate, .service, .doze]) :
    let t := safestopBy (safetyEvent { s with pins := { s.pins with safeMismatch := true } } 5) 6 5
    t.md.mode = .safestop ∧ t.md.previous = s.md.mode ∧ get t 0x2000 5 = 6 ∧ t.md.entering = true ∧ t.md.pending = none ∧ t.pins.safeN = true ∧
      Stopped t ∧ t.pins.safeMismatch = true := by
  have hmode : modeView (safetyEvent { s with pins := { s.pins with safeMismatch := true } } 5) = modeView s := by
    rw [safetyEvent_modeView]
    rfl
  have hguard : guardView (safetyEvent { s with pins := { s.pins with safeMismatch := true } } 5) = ⟨s.pins.ilockOpen, true⟩ := by
    rw [safetyEvent_guardView]
    rfl
  generalize safetyEvent { s with pins := { s.pins with safeMismatch := true } } 5 = r at hmode hguard
  have hadd : (causeAdd r 6 5).md = s.md := (md_of_modeView (causeAdd_modeView r 6 5)).trans (md_of_modeView hmode)
  have hpins : guardView (causeAdd r 6 5) = guardView r := causeAdd_guardView r 6 5
  have hshows := safestopEnter_shows (causeAdd r 6 5) 6
  have hkept := safestopEnter_guardView (causeAdd r 6 5) 6
  rw [safestopBy_enters (by rw [md_of_modeView hmode]; exact h)]
  rw [hadd] at hshows
  generalize safestopEnter (causeAdd r 6 5) 6 = t at hshows hkept
  obtain ⟨hm, hprev, hcause, hent, hpend, hsafe, hstopped⟩ := hshows
  exact ⟨hm, hprev, hcause, hent, hpend, hsafe, hstopped, (pins_of_guardView (hkept.trans (hpins.trans hguard))).2⟩

/-! ## The end of the entry (R561 steps 5 and 6) -/

theorem safestopDone_shows {s : State} (hm : s.md.mode = .safestop) (hheld : s.md.ackHeld = false) (hp : s.md.pending ≠ some .shutdown) :
    (safestopDone s).md.mode = .safestop ∧ (safestopDone s).md.entering = false ∧ (∀ sh ∈ (safestopDone s).sheets, sh.committed = false) ∧
      (safestopDone s).pins.safeN = s.pins.safeN := by
  unfold safestopDone
  simp only [hp, hheld, if_false, Bool.false_eq_true]
  have hquiet : modeView (vector (sayMode s (livePorts s)) 0 7) = modeView s := by simp
  generalize vector (sayMode s (livePorts s)) 0 7 = u at hquiet ⊢
  obtain ⟨hmd, hsafe, -⟩ := modeView_eq_iff.1 hquiet
  have hnone := spoilAll_none_committed { u with md := { u.md with entering := false, ackHeld := false } }
  have hview := modeView_eq_iff.1 (spoilAll_modeView { u with md := { u.md with entering := false, ackHeld := false } })
  generalize spoilAll { u with md := { u.md with entering := false, ackHeld := false } } = v at hnone hview ⊢
  obtain ⟨hvmd, hvsafe, -⟩ := hview
  have hsheets : (causeEndAll v fun _ i => i == entryInst).sheets = v.sheets := causeEndAll_sheets v _
  obtain ⟨hwmd, hwsafe, -⟩ := modeView_eq_iff.1 (causeEndAll_modeView v fun _ i => i == entryInst)
  generalize (causeEndAll v fun _ i => i == entryInst) = w at hsheets hwmd hwsafe ⊢
  refine ⟨?_, ?_, ?_, ?_⟩
  · rw [hwmd, hvmd, ← hm, ← hmd]
  · rw [hwmd, hvmd]
  · rw [hsheets]
    exact hnone
  · rw [hwsafe, hvsafe]
    exact hsafe

/-- Settles O19. -/
theorem safestopWorks : Obligations.SafestopWorks := by
  refine ⟨fun s hp ho hm => ?_, fun s hp hm => ⟨fun ho => ?_, fun ho => ?_⟩, fun s hm hent hheld hpend => ?_⟩
  · refine ⟨_, execIlockOpen_eq hp ho, ?_⟩
    exact ilockOpen_masked (by simpa using hm)
  · refine ⟨_, execIlockOpen_eq hp ho, ?_⟩
    obtain ⟨hmode, hprev, hcause, hent, hpend, hsafe, ⟨hadm, hslots, haxes, hmotors, hloops⟩, hopen⟩ := ilockOpen_enters hm
    exact ⟨⟨hmode, hprev, hcause, hent, hpend, hsafe, hadm, hslots, haxes, hmotors, hloops⟩, hopen⟩
  · refine ⟨_, execSafeNMismatch_eq hp ho, ?_⟩
    obtain ⟨hmode, hprev, hcause, hent, hpend, hsafe, ⟨hadm, hslots, haxes, hmotors, hloops⟩, hmis⟩ := safeNMismatch_enters hm
    exact ⟨⟨hmode, hprev, hcause, hent, hpend, hsafe, hadm, hslots, haxes, hmotors, hloops⟩, hmis⟩
  · refine ⟨safestopDone s, by simp [exec, execSafestopEntryComplete, hm, hent, done], ?_⟩
    exact safestopDone_shows hm hheld hpend

end Sys2Proof.Machine

/-! # Accesses, and the log block that is kept (R59 to R65, R571 to R578) -/

namespace Sys2Proof.Machine

/-! ## Writes -/

/-- A command that is a write runs that write. -/
theorem exec_of_writeOf {c : Instr} {acc : Accessor} {i j : Nat} {d : List Byte} (h : writeOf c = some (acc, i, j, d)) (s : State) :
    exec c s = .next (settle (writeCommand acc i j d s)) := by
  cases c <;> simp only [writeOf, Option.some.injEq, Prod.mk.injEq, reduceCtorEq] at h <;> (obtain ⟨rfl, rfl, rfl, rfl⟩ := h; rfl)

theorem writeCommand_silent {s : State} (h : answering s = false) (acc : Accessor) (i j : Nat) (d : List Byte) : writeCommand acc i j d s = s := by
  simp [writeCommand, h]

theorem effectSystem_success (s : State) (acc : Accessor) {i j : Nat} (v : Nat) (d : List Byte) (h : i ≠ 0x2700 ∨ j ≠ 1) :
    (effectSystem s acc i j v d).2 = 0 := by
  unfold effectSystem
  split
  · split
    · split <;> rfl
    · rfl
    · rfl
    · rfl
  split
  · rfl
  split
  · rfl
  split
  next hi =>
    split
    · exact absurd rfl (h.resolve_left fun hne => hne hi)
    · rfl
    · rfl
    · split
      · rfl
      · split <;> rfl
  split
  · rfl
  split
  · rfl
  · split <;> rfl

/-- Every write but an apply answers success (R59). -/
theorem writeEffect_success (s : State) (acc : Accessor) (r : Row) {i j : Nat} (v : Nat) (d : List Byte) (h : i ≠ 0x2700 ∨ j ≠ 1) :
    (writeEffect s acc r i j v d).2 = 0 := by
  unfold writeEffect
  split_ifs <;> simp [effectSystem_success s acc v d h]

theorem viewOf_apply {i : Nat} (h : i ≠ 0x2700) : (viewOf i).1 ≠ 0x2700 := by
  unfold viewOf
  split_ifs <;> simp [h]

theorem writeCommand_answered {s : State} {acc : Accessor} {i j : Nat} {d : List Byte} (h : Accepted s acc i j d) (hne : i ≠ 0x2700 ∨ j ≠ 1) :
    Answered acc (writeCommand acc i j d s) := by
  obtain ⟨hans, hcode⟩ := h
  have hsuccess := writeEffect_success (breakLock s acc (viewOf i).1 j) acc (writeRow (viewOf i).1 j) (operandValue (viewOf i).2 d) d
    (hne.imp_left viewOf_apply)
  simp only [writeCommand, writeDict, hans, hcode, if_true, ne_eq, not_true_eq_false, if_false]
  rw [hsuccess]
  rfl

/-! ## Plain values -/

/-- An object of the mode block without a meaning of its own, or of a tenant. -/
def PlainValue (i j : Nat) : Prop := i = 0x2000 ∧ j ∉ [2, 0x0B, 0x0C] ∨ 0x5000 ≤ i ∧ i < 0x5040 ∧ j ∉ [2, 3]

theorem PlainValue.viewOf {i j : Nat} (h : PlainValue i j) : Machine.viewOf i = (i, false) := by
  unfold Machine.viewOf
  rcases h with ⟨rfl, -⟩ | ⟨hlo, hhi, -⟩
  · rfl
  · rw [if_neg (by omega), if_neg (by omega), decide_eq_false (by omega)]

theorem PlainValue.isLogIdx {i j : Nat} (h : PlainValue i j) : Machine.isLogIdx i = false := by
  rcases h with ⟨rfl, -⟩ | ⟨hlo, hhi, -⟩
  · rfl
  · simp [Machine.isLogIdx]
    omega

theorem effectSystem_modeBlock (s : State) (acc : Accessor) {j : Nat} (v : Nat) (d : List Byte) (h : j ∉ [2, 0x0B, 0x0C]) :
    effectSystem s acc 0x2000 j v d = (put s 0x2000 j v, 0) := by
  simp only [List.mem_cons, List.not_mem_nil, or_false, not_or] at h
  obtain ⟨h2, hb, hc⟩ := h
  unfold effectSystem
  rw [if_pos rfl]
  split
  · exact absurd rfl h2
  · exact absurd rfl hb
  · exact absurd rfl hc
  · rfl

theorem effectHost_tenant (s : State) {i j : Nat} (v : Nat) (d : List Byte) (hlo : 0x5000 ≤ i) (hhi : i < 0x5040) (h : j ∉ [2, 3]) :
    effectHost s i j v d = put s i j v := by
  simp only [List.mem_cons, List.not_mem_nil, or_false, not_or] at h
  obtain ⟨h2, h3⟩ := h
  unfold effectHost
  rw [if_pos ⟨hlo, hhi⟩]
  simp only

theorem writeEffect_plain (s : State) (acc : Accessor) {r : Row} {i j : Nat} (v : Nat) (d : List Byte) (h : PlainValue i j) (hcls : r.cls ≠ .rws)
    (hty : r.ty ≠ .blob) : writeEffect s acc r i j v d = (put s i j v, 0) := by
  unfold writeEffect
  rw [if_neg hcls]
  rcases h with ⟨rfl, hj⟩ | ⟨hlo, hhi, hj⟩
  · rw [if_neg (by decide), if_neg (by simp [thresholdOf]), if_pos (by decide), effectSystem_modeBlock s acc v d hj]
  · have hthreshold : thresholdOf i j = none := by
      unfold thresholdOf
      rw [if_neg (by omega), if_neg (by omega), if_neg (by omega), if_neg (by omega)]
    rw [if_neg (by omega), hthreshold, if_neg (by simp), if_neg (by omega), if_neg (by omega), if_neg (fun h => hty h.1), if_neg (by omega),
      if_neg (by omega), effectHost_tenant s v d hlo hhi hj]

theorem keepsObjects_write (s : State) (i j v : Nat) (p : Pins) (o : Output) : KeepsObjects [keyOf i j] s (emit (put { s with pins := p } i j v) o) :=
  fun _ hk => tabFind_tabSet_other _ _ fun e => hk (by simp [e])

theorem writeCommand_plain {s : State} {acc : Accessor} {i j : Nat} {d : List Byte} (hacc : Accepted s acc i j d) (h : PlainValue i j)
    (hcls : (writeRow i j).cls ≠ .rws) (hty : (writeRow i j).ty ≠ .blob) :
    writeCommand acc i j d s = emit (put (breakLock s acc i j) i j (ofLe d)) (.answer acc 0 []) := by
  rw [writeCommand_accepted hacc h.viewOf, writeEffect_plain _ acc _ d h hcls hty]

/-! ## Staging -/

theorem stagerOf_stageBy_self {s : State} (acc : Accessor) {g : Nat} (h : stagerOf s g = none) : stagerOf (stageBy s acc g) g = some acc := by
  simp [stageBy, stagerOf, show (s.stagers.find? fun p => p.1 == g) = none by simpa [stagerOf] using h]

theorem stageBy_stager (s : State) (acc : Accessor) (g : Nat) :
    ∃ a, stagerOf (stageBy s acc g) g = some a ∧ (stagerOf s g = none → a = acc) := by
  cases h : stagerOf s g with
  | none => exact ⟨acc, stagerOf_stageBy_self acc h, fun _ => rfl⟩
  | some a => exact ⟨a, by rw [stageBy, h, Option.isSome_some, if_pos rfl, h], by simp⟩

theorem stageBy_eq (s : State) (acc : Accessor) (g : Nat) : stageBy s acc g = { s with stagers := (stageBy s acc g).stagers } := by
  unfold stageBy
  split <;> rfl

theorem writeCommand_staged {s : State} {acc : Accessor} {i j : Nat} {d : List Byte} (hacc : Accepted s acc i j d) (hview : viewOf i = (i, false))
    (hcls : (writeRow i j).cls = .rws) (hty : (writeRow i j).ty ≠ .blob) :
    writeCommand acc i j d s = emit (stageNum (breakLock s acc i j) acc i j (ofLe d)) (.answer acc 0 []) := by
  rw [writeCommand_accepted hacc hview]
  simp [writeEffect, hcls, hty]

/-! ## Reads -/

theorem readCommand_refused {s : State} {acc : Accessor} {i j : Nat} (hans : answering s = true) (h : readCode s acc i j ≠ 0) :
    readCommand acc i j s = emit s (.answer acc (readCode s acc i j) []) := by
  simp [readCommand, readDict, hans, h]

theorem readCommand_passes {s : State} {acc : Accessor} {i j : Nat} (hans : answering s = true) (h : readCode s acc i j = 0) :
    readCommand acc i j s = emit (readEffect s acc (viewOf i).1 j) (.answer acc 0 (readData s acc (viewOf i).2 (viewOf i).1 j)) := by
  simp [readCommand, readDict, hans, h]

theorem store_out (s : State) (i j v : Nat) : (store s i j v).out = s.out := by
  unfold store
  split <;> rfl

/-- A read sends nothing of its own accord. -/
theorem readEffect_out (s : State) (acc : Accessor) (i j : Nat) : (readEffect s acc i j).out = s.out := by
  unfold readEffect
  split
  · rfl
  split
  · split <;> rfl
  split
  · rfl
  split
  · split
    · rfl
    · split
      · rfl
      · exact store_out s i j 0
  · rfl

theorem readCommand_out {s : State} (hans : answering s = true) (acc : Accessor) (i j : Nat) :
    ∃ l, (readCommand acc i j s).out = .answer acc (readCode s acc i j) l :: s.out := by
  by_cases h : readCode s acc i j = 0
  · refine ⟨readData s acc (viewOf i).2 (viewOf i).1 j, ?_⟩
    rw [readCommand_passes hans h, h]
    exact congrArg _ (readEffect_out s acc _ j)
  · exact ⟨[], by rw [readCommand_refused hans h]; rfl⟩

/-- What a read leaves in a read-to-clear object (R61). -/
def clearedTo (s : State) (i j : Nat) : Nat :=
  if 0x2100 ≤ i ∧ i < 0x2110 ∧ j = 0x10 then get s i 0x0F * 65537 else if i = 0x7010 then get s 0x7010 1 else 0

theorem readEffect_clears (s : State) (acc : Accessor) {i j : Nat} (hlatch : latchOf i j = none) (hring : i ≠ 0x2410) (hnotice : i ≠ 0x2420)
    (hlog : isLogIdx i = false) (hj : j ≠ 0) (hrc : (writeRow i j).rc = true) : readEffect s acc i j = put s i j (clearedTo s i j) := by
  unfold readEffect clearedTo
  simp only [hlatch]
  rw [if_neg (by simp [hring]), if_neg (by simp [hnotice]), if_pos ⟨hj, hrc⟩]
  split
  · rfl
  · split
    · rfl
    · simp [store, hlog]

/-- Settles O20. -/
theorem accessesAct : Obligations.AccessesAct := by
  refine ⟨fun c acc idx sub d s hc => ⟨fun hans hcode => ?_, fun hans => ?_, fun hacc hne => ?_⟩, fun acc idx sub d s hacc hplain hcls hty => ?_,
    fun acc idx sub d s hacc hview hcls hty => ?_, fun acc idx sub s hans => ?_, fun acc idx sub s hans hcode hview hlatch hring hnotice hlog hj hrc => ?_⟩
  · rw [exec_of_writeOf hc, writeCommand_refused hans rfl hcode]
  · rw [exec_of_writeOf hc, writeCommand_silent hans]
  · exact ⟨_, exec_of_writeOf hc s, writeCommand_answered hacc hne⟩
  · have hp : PlainValue idx sub := hplain
    refine ⟨writeCommand acc idx sub d s, rfl, ?_⟩
    rw [writeCommand_plain hacc hp hcls hty, breakLock_eq]
    exact ⟨get_put_same _ _ _ hp.isLogIdx, rfl, keepsObjects_write _ _ _ _ _ _, rfl⟩
  · refine ⟨writeCommand acc idx sub d s, rfl, ?_⟩
    rw [writeCommand_staged hacc hview hcls hty, stageNum, stageBy_eq, breakLock_eq]
    refine ⟨tabFind_tabSet_same _ _ _, fun k hk => tabFind_tabSet_other _ _ hk, rfl, ?_, rfl⟩
    exact stageBy_stager { s with pins := (breakLock s acc idx sub).pins } acc (groupOf idx)
  · exact ⟨readCommand acc idx sub s, rfl, readCommand_out hans acc idx sub, readCommand_refused hans⟩
  · refine ⟨readCommand acc idx sub s, rfl, ?_⟩
    rw [readCommand_passes hans hcode, hview, readEffect_clears s acc hlatch hring hnotice hlog hj hrc]
    exact ⟨get_put_same _ _ _ hlog, ⟨_, rfl⟩, keepsObjects_write s idx sub _ s.pins _, rfl⟩

/-! ## Reads of the log and of the notices (R571, R578) -/

theorem accOf_setAcc_same (s : State) (a : Accessor) (f : AccState → AccState) : accOf (setAcc s a f) a = f (accOf s a) := by
  simp [accOf, setAcc]

theorem accOf_setAcc_other (s : State) {a b : Accessor} (f : AccState → AccState) (h : b ≠ a) : accOf (setAcc s a f) b = accOf s b := by
  have hfind : (s.accs.filter fun p => p.1 != a).find? (fun p => p.1 == b) = s.accs.find? fun p => p.1 == b := by
    rw [List.find?_filter]
    congr 1
    funext p
    by_cases hp : p.1 = b
    · simp [hp, h]
    · simp [hp]
  have hne : (a == b) = false := by simp [Ne.symm h]
  simp only [accOf, setAcc, List.find?_cons, hne, hfind]

theorem viewOf_of_low {i : Nat} (h : i < 0x4000) : viewOf i = (i, false) := by
  unfold viewOf
  rw [if_neg (by omega), if_neg (by omega), decide_eq_false (by omega)]

theorem readEffect_ring (s : State) (acc : Accessor) :
    readEffect s acc 0x2410 1 = match (logEntries s acc).getLast? with
      | some e => setAcc s acc fun x => { x with cursor := (e.seq + 1) % 2 ^ 32 }
      | none => s := rfl

theorem readEffect_notices (s : State) (acc : Accessor) : readEffect s acc 0x2420 1 = { s with log := { s.log with notices := [] } } := rfl

theorem readRing_shows (s : State) (acc : Accessor) :
    ∃ l, readEffect s acc 0x2410 1 = { s with accs := l } ∧ (∀ a, a ≠ acc → accOf { s with accs := l } a = accOf s a) ∧
      ∀ e, (logEntries s acc).getLast? = some e → (accOf { s with accs := l } acc).cursor = (e.seq + 1) % 2 ^ 32 := by
  simp only [readEffect_ring]
  cases h : (logEntries s acc).getLast? with
  | none => exact ⟨s.accs, rfl, fun _ _ => rfl, by simp⟩
  | some e =>
    let f : AccState → AccState := fun x => { x with cursor := (e.seq + 1) % 2 ^ 32 }
    refine ⟨(setAcc s acc f).accs, rfl, fun a ha => accOf_setAcc_other s f ha, fun e' he => ?_⟩
    obtain rfl := Option.some.inj he
    exact congrArg AccState.cursor (accOf_setAcc_same s acc f)

/-! ## The mirror's erase (R573) -/

/-- Entries that wait and fit into the active sector go there in order, and no other sector is touched. -/
theorem drainPending_fits (n : Nat) {l : Log} (hn : l.pending.length ≤ n) (hfit : (mirrorSector l l.active).length + l.pending.length ≤ 128) :
    let m := drainPending n l
    m = { l with mirror := m.mirror, pending := [] } ∧ mirrorSector m l.active = l.pending.reverse ++ mirrorSector l l.active ∧
      ∀ k, k ≠ l.active → mirrorSector m k = mirrorSector l k := by
  induction n generalizing l with
  | zero =>
    obtain hnil : l.pending = [] := List.length_eq_zero_iff.1 (by omega)
    obtain ⟨ring, early, mirror, active, pending, eraseFrom, notices, serves, causes, ready⟩ := l
    subst hnil
    exact ⟨rfl, rfl, fun _ _ => rfl⟩
  | succ n ih =>
    cases hp : l.pending with
    | nil =>
      have hsame : drainPending (n + 1) l = l := by simp [drainPending, hp]
      refine ⟨?_, by rw [hsame]; rfl, fun k _ => by rw [hsame]⟩
      rw [hsame, ← hp]
    | cons e r =>
      rw [hp] at hn hfit
      simp only [List.length_cons] at hn hfit
      let m : Log := { l with mirror := tabMod [] l.mirror l.active (fun t => e :: t), pending := r }
      have hstep : drainPending (n + 1) l = drainPending n m := by
        have hplace : mirrorPlace l e = some { l with mirror := tabMod [] l.mirror l.active fun t => e :: t } := if_pos (by omega)
        simp [drainPending, hp, hplace, m]
      have hsector : mirrorSector m m.active = e :: mirrorSector l l.active := tabGet_tabMod_same _ _ _ _
      have hlen : m.pending.length ≤ n := by simp only [m]; omega
      obtain ⟨hform, hin, hout⟩ := ih (l := m) hlen (by rw [hsector]; simp only [m, List.length_cons]; omega)
      rw [hstep]
      refine ⟨hform, ?_, fun k hk => ?_⟩
      · rw [show l.active = m.active from rfl, hin, hsector]
        simp [m]
      · rw [hout k hk]
        exact tabGet_tabMod_other _ _ _ hk

theorem mirrorSector_del_same (l : Log) (k : Nat) : tabGet [] (tabDel l.mirror k) k = ([] : List Entry) := by
  have hnone : ∀ t : Tab (List Entry), tabFind (tabDel t k) k = none := by
    intro t
    induction t with
    | nil => rfl
    | cons a r ih =>
      by_cases ha : a.1 = k
      · simpa [tabDel, ha] using ih
      · simp only [tabDel, List.filter_cons, bne_iff_ne, ne_eq, ha, not_false_eq_true, if_true, tabFind, if_false]
        exact ih
  simp [tabGet, hnone]

theorem mirrorSector_del_other (l : Log) {k j : Nat} (h : j ≠ k) : tabGet [] (tabDel l.mirror k) j = mirrorSector l j := by
  have hfind : tabFind (tabDel l.mirror k) j = tabFind l.mirror j := tabFind_filter_key l.mirror (· != k) j (by simpa using h)
  simp [mirrorSector, tabGet, hfind]

/-- The log block as the erase of a sector leaves it. -/
def erasedLog (s : State) : Log :=
  drainPending 64 { s.log with active := oldestSector s.log, mirror := tabDel s.log.mirror (oldestSector s.log), eraseFrom := some s.time }

theorem erasedLog_shows {s : State} (h : s.log.pending.length ≤ 64) :
    (erasedLog s).dict = s.log.dict ∧ (erasedLog s).active = oldestSector s.log ∧ (erasedLog s).pending = [] ∧ (erasedLog s).eraseFrom = some s.time ∧
      mirrorSector (erasedLog s) (oldestSector s.log) = s.log.pending.reverse ∧
      ∀ k, k ≠ oldestSector s.log → mirrorSector (erasedLog s) k = mirrorSector s.log k := by
  have hempty := mirrorSector_del_same s.log (oldestSector s.log)
  obtain ⟨hform, hin, hout⟩ := drainPending_fits 64
    (l := { s.log with active := oldestSector s.log, mirror := tabDel s.log.mirror (oldestSector s.log), eraseFrom := some s.time }) h
    (by simp only [mirrorSector, hempty]; simp; omega)
  have hform' : erasedLog s = { s.log with active := oldestSector s.log, mirror := (erasedLog s).mirror, eraseFrom := some s.time, pending := [] } :=
    hform
  refine ⟨by rw [hform'], by rw [hform'], by rw [hform'], by rw [hform'], ?_, fun k hk => (hout k hk).trans (mirrorSector_del_other s.log hk)⟩
  refine hin.trans ?_
  simp only [mirrorSector, hempty, List.append_nil]

theorem exec_mirrorErase {s : State} (h : mayErase s = true) :
    exec .mirrorErase s = .next (settle (emit (putLog (wrapLog 32 { s with log := erasedLog s } 0x2418 4) 0x2418 5 (pressTime s))
      (.flashErase (mirrorBase + 4096 * oldestSector s.log)))) := by
  simp only [exec, execMirrorErase, h, if_true]
  rfl

/-- Settles O23. -/
theorem logKept : Obligations.LogKept := by
  refine ⟨fun acc s hans => ⟨fun hcode => ?_, fun hcode => ?_⟩, fun s => ⟨fun h => ?_, fun h hlen => ?_⟩⟩
  · refine ⟨readCommand acc 0x2410 1 s, rfl, ?_⟩
    rw [readCommand_passes hans hcode, viewOf_of_low (by decide)]
    obtain ⟨l, hform, hother, hcursor⟩ := readRing_shows s acc
    rw [hform]
    exact ⟨rfl, ⟨_, rfl⟩, rfl, hother, hcursor⟩
  · refine ⟨readCommand acc 0x2420 1 s, rfl, ?_⟩
    rw [readCommand_passes hans hcode, viewOf_of_low (by decide), readEffect_notices]
    exact ⟨rfl, ⟨_, rfl⟩, rfl⟩
  · exact ⟨s, by simp [exec, execMirrorErase, h, done], rfl⟩
  · refine ⟨_, exec_mirrorErase h, ?_⟩
    obtain ⟨hdict, hactive, hpending, hfrom, hin, hout⟩ := erasedLog_shows hlen
    have hcount : get { s with log := erasedLog s } 0x2418 4 = get s 0x2418 4 := by simp [get, isLogIdx, hdict]
    generalize erasedLog s = l at *
    refine ⟨?_, ?_, hactive, hpending, hin, hout, hfrom, List.mem_cons_self, rfl, rfl⟩
    · rw [get_emit, get_putLog_other _ _ (by decide), wrapLog, get_putLog_same _ _ _ rfl, hcount]
    · rw [get_emit, get_putLog_same _ _ _ rfl]

end Sys2Proof.Machine

/-! # Relocks and faults of the clocks (R175, R180 to R200) -/

namespace Sys2Proof.Machine

/-! ## What the steps of a relock leave of clocks and objects -/

/-- The second serves of the clocks' mechanisms on record (R555). -/
def clockServes (l : List Serve) : Nat → Nat → Option Serve := fun m n =>
  if 7 ≤ m ∧ m ≤ 10 then l.find? (fun r => r.mech == m && r.inst == n) else none

/-- The count of double faults (2400:03), as the log block has it. -/
def doubleCount (d : Tab Nat) : Option Nat := tabFind d (keyOf 0x2400 3)

/-- Press time, the clocks, and what the log block has of them. -/
structure ClockView where
  time : Nat
  clk : Clocks
  causes : List (Nat × Nat)
  clockServes : Nat → Nat → Option Serve
  doubleCount : Option Nat

def clockView (s : State) : ClockView :=
  ⟨s.time, s.clk, s.log.causes, (clockServes s.log.serves), (doubleCount s.log.dict)⟩

@[simp] theorem clockView_mk (time powered md kick hold reset_ seq rails clk net flash dict blobs staged stagedBlobs stagers armed accs sheets
    nextUid tenants coalescing mem stations trackers slots motors axes loops ains pins diag log heatTicks heatFrom out fresh pending) :
    clockView ⟨time, powered, md, kick, hold, reset_, seq, rails, clk, net, flash, dict, blobs, staged, stagedBlobs, stagers, armed, accs,
    sheets, nextUid, tenants, coalescing, mem, stations, trackers, slots, motors, axes, loops, ains, pins, diag, log, heatTicks, heatFrom, out,
    fresh, pending⟩ = ⟨time, clk, log.causes, (clockServes log.serves), (doubleCount log.dict)⟩ := rfl
@[simp] theorem clockView_self (s : State) :
    ClockView.mk s.time s.clk s.log.causes (clockServes s.log.serves) (doubleCount s.log.dict) = clockView s := rfl

@[simp] theorem ite_clockView (c : Prop) [Decidable c] (a b : State) :
    clockView (if c then a else b) = if c then clockView a else clockView b := apply_ite clockView c a b
@[simp] theorem ite_clockView1 {α : Type} (c : Prop) [Decidable c] (a b : State × α) :
    clockView (if c then a else b).1 = if c then clockView a.1 else clockView b.1 := apply_ite (fun x : State × α => clockView x.1) c a b
@[simp] theorem foldl_clockView {α : Type} (l : List α) (f : State → α → State) (s : State)
    (h : ∀ u x, clockView (f u x) = clockView u) :
    clockView (l.foldl f s) = clockView s := foldl_view clockView l f s fun u x _ => h u x
@[simp] theorem forEach_clockView (l : List Nat) (f : State → Nat → State) (s : State)
    (h : ∀ u x, clockView (f u x) = clockView u) :
    clockView (forEach l f s) = clockView s := foldl_clockView l f s h
@[simp] theorem put_clockView (s : State) (i j v : Nat) : clockView (put s i j v) = clockView s := (rfl)
@[simp] theorem putS_clockView (s : State) (w i j : Nat) (v : Int) : clockView (putS s w i j v) = clockView s := (rfl)
@[simp] theorem wrapBy_clockView (w : Nat) (s : State) (i j n : Nat) : clockView (wrapBy w s i j n) = clockView s := (rfl)
@[simp] theorem satBy_clockView (w : Nat) (s : State) (i j n : Nat) : clockView (satBy w s i j n) = clockView s := (rfl)
@[simp] theorem bump_clockView (s : State) (i j : Nat) : clockView (bump s i j) = clockView s := (rfl)
@[simp] theorem sat_clockView (s : State) (i j : Nat) : clockView (sat s i j) = clockView s := (rfl)
@[simp] theorem emit_clockView (s : State) (o : Output) : clockView (emit s o) = clockView s := (rfl)
@[simp] theorem emitAll_clockView (s : State) (l : List Output) : clockView (emitAll s l) = clockView s := (rfl)
@[simp] theorem setStation_clockView (s : State) (n : Nat) (f : Station → Station) : clockView (setStation s n f) = clockView s := (rfl)
@[simp] theorem setTracker_clockView (s : State) (n : Nat) (f : Tracker → Tracker) : clockView (setTracker s n f) = clockView s := (rfl)
@[simp] theorem setMotor_clockView (s : State) (n : Nat) (f : Motor → Motor) : clockView (setMotor s n f) = clockView s := (rfl)
@[simp] theorem setAxis_clockView (s : State) (n : Nat) (f : Axis → Axis) : clockView (setAxis s n f) = clockView s := (rfl)
@[simp] theorem setLoop_clockView (s : State) (n : Nat) (f : Loop → Loop) : clockView (setLoop s n f) = clockView s := (rfl)
@[simp] theorem modSheet_clockView (s : State) (uid : Nat) (f : Sheet → Sheet) : clockView (modSheet s uid f) = clockView s := (rfl)
@[simp] theorem code_motor : Mech.motor.code = 19 := rfl
@[simp] theorem code_axisDriver : Mech.axisDriver.code = 21 := rfl
@[simp] theorem code_loop : Mech.loop.code = 23 := rfl
@[simp] theorem code_sheet : Mech.sheet.code = 25 := rfl
theorem putLog_clockView_of (s : State) (i j v : Nat) (h : i * 256 + j ≠ 0x240003) : clockView (putLog s i j v) = clockView s := by
  have hd : doubleCount (putLog s i j v).log.dict = doubleCount s.log.dict := tabFind_tabSet_other s.log.dict v fun e => h e.symm
  simp only [clockView, hd]
  rfl
@[simp] theorem putLog_clockView (s : State) (i j v : Nat) (h : i * 256 + j ≠ 0x240003) : clockView (putLog s i j v) = clockView s :=
  putLog_clockView_of s i j v h
@[simp] theorem satLog_clockView (w : Nat) (s : State) (i j : Nat) (h : i * 256 + j ≠ 0x240003) : clockView (satLog w s i j) = clockView s :=
  putLog_clockView_of s i j _ h
@[simp] theorem wrapLog_clockView (w : Nat) (s : State) (i j : Nat) (h : i * 256 + j ≠ 0x240003) : clockView (wrapLog w s i j) = clockView s :=
  putLog_clockView_of s i j _ h

@[simp] theorem vector_clockView (s : State) (fn vec : Nat) : clockView (vector s fn vec) = clockView s := by unfold vector; simp
theorem mirrorPlace_causes {l l' : Log} {e : Entry} (h : mirrorPlace l e = some l') : l'.causes = l.causes := (mirrorPlace_logState h).1
@[simp] theorem mirrorWrite_clockView (s : State) (e : Entry) : clockView (mirrorWrite s e) = clockView s := by
  unfold mirrorWrite
  split
  · rfl
  · split
    next l hl =>
      have hkept : l.dict = s.log.dict ∧ l.serves = s.log.serves ∧ l.causes = s.log.causes := by
        split at hl
        · exact ⟨mirrorPlace_dict hl, mirrorPlace_serves hl, mirrorPlace_causes hl⟩
        · simp at hl
      obtain ⟨hdict, hserves, hcauses⟩ := hkept
      simp [hdict, hserves, hcauses]
    · simp
@[simp] theorem ringWrite_clockView (s : State) (e : Entry) : clockView (ringWrite s e) = clockView s := by unfold ringWrite; simp
@[simp] theorem notice_clockView (s : State) (idx sub cls : Nat) : clockView (notice s idx sub cls) = clockView s := by unfold notice; simp
@[simp] theorem noticeAlone_clockView (s : State) (idx sub cls : Nat) : clockView (noticeAlone s idx sub cls) = clockView s := by
  unfold noticeAlone; simp
@[simp] theorem classVectors_clockView (s : State) (cls : Nat) : clockView (classVectors s cls) = clockView s := by unfold classVectors; simp
@[simp] theorem logOnly_clockView (s : State) (cls kind src inst idx sub : Nat) (serial : Option Nat) (detail : Nat) :
  clockView (logOnly s cls kind src inst idx sub serial detail) = clockView s := by
  unfold logOnly; simp
@[simp] theorem log_clockView (s : State) (cls kind src inst idx sub : Nat) (serial : Option Nat) (detail : Nat) :
  clockView (log s cls kind src inst idx sub serial detail) = clockView s := by
  unfold log; simp
@[simp] theorem logEvent_clockView (s : State) (cls src inst idx sub : Nat) : clockView (logEvent s cls src inst idx sub) = clockView s := by
  unfold logEvent; simp
theorem find?_filter_mech (l : List Serve) {p q : Serve → Bool} (h : ∀ r, p r = true → q r = true) : (l.filter q).find? p = l.find? p := by
  rw [List.find?_filter]
  congr 1
  funext r
  cases hp : p r
  · simp
  · simp [h r hp]
@[simp] theorem serveDrop_clockView (s : State) (m : Mech) (inst : Nat) (h : m.code < 7 ∨ 10 < m.code) :
    clockView (serveDrop s m inst) = clockView s := by
  have hserves : clockServes (serveDrop s m inst).log.serves = clockServes s.log.serves := by
    funext k n
    unfold clockServes serveDrop
    split
    next hk =>
      refine find?_filter_mech _ fun r hr => ?_
      simp only [Bool.and_eq_true, beq_iff_eq] at hr
      have hne : m.code ≠ k := by omega
      simp [Serve.isOf, hr.1, Ne.symm hne]
    next => rfl
  simp only [clockView, hserves]
  rfl
@[simp] theorem serveCancel_clockView (s : State) (m : Mech) (inst src idx sub : Nat) (h : m.code < 7 ∨ 10 < m.code) :
    clockView (serveCancel s m inst src idx sub) = clockView s := by
  unfold serveCancel
  split
  · rfl
  · split
    · simp [serveDrop_clockView s m inst h]
    · rfl
@[simp] theorem watch_clockView (high : Bool) (s : State) (idx sub old v : Nat) : clockView (watch high s idx sub old v) = clockView s := by
  unfold watch; simp
@[simp] theorem setSlots_clockView (s : State) (l : Tab Event) : clockView (setSlots s l) = clockView s := by unfold setSlots; simp
@[simp] theorem dropEvents_clockView (s : State) (p : Event → Bool) : clockView (dropEvents s p) = clockView s := by unfold dropEvents; simp
@[simp] theorem overtaken_clockView (s : State) (uid : Nat) : clockView (overtaken s uid) = clockView s := (rfl)
@[simp] theorem setMotorState_clockView (s : State) (m v : Nat) : clockView (setMotorState s m v) = clockView s := (rfl)
@[simp] theorem brakeMotor_clockView (s : State) (m : Nat) : clockView (brakeMotor s m) = clockView s := by unfold brakeMotor; simp
@[simp] theorem setHomed_clockView (s : State) (a : Nat) (b : Bool) : clockView (setHomed s a b) = clockView s := (rfl)
@[simp] theorem settlePosition_clockView (s : State) (a : Nat) (pos : Int) (steps : Nat) : clockView (settlePosition s a pos steps) = clockView
    s := (rfl)
@[simp] theorem hardStop_clockView (s : State) (a : Nat) : clockView (hardStop s a) = clockView s := by
  unfold hardStop; simp only; (repeat' split) <;> simp
@[simp] theorem safestopAxis_clockView (s : State) (a : Nat) : clockView (safestopAxis s a) = clockView s := by unfold safestopAxis; simp
@[simp] theorem outputOff_clockView (s : State) (n : Nat) : clockView (outputOff s n) = clockView s := by unfold outputOff; simp
@[simp] theorem loopOffNow_clockView (s : State) (n : Nat) : clockView (loopOffNow s n) = clockView s := by unfold loopOffNow; simp
@[simp] theorem safestopLoop_clockView (s : State) (n : Nat) : clockView (safestopLoop s n) = clockView s := by unfold safestopLoop; simp
@[simp] theorem restLanes_clockView (s : State) (n : Nat) : clockView (restLanes s n) = clockView s := (rfl)
@[simp] theorem setLinkState_clockView (s : State) (n v : Nat) : clockView (setLinkState s n v) = clockView s := by unfold setLinkState; simp
@[simp] theorem queueBlocks_clockView (s : State) (n : Nat) (l : List LinkBlock) : clockView (queueBlocks s n l) = clockView s := by
  unfold queueBlocks; simp
@[simp] theorem sendControl_clockView (s : State) (n : Nat) (l : List (List Byte)) : clockView (sendControl s n l) = clockView s := by
  unfold sendControl; simp
@[simp] theorem sendLight_clockView (s : State) (n beam kind t d : Nat) : clockView (sendLight s n beam kind t d) = clockView s := by
  unfold sendLight; simp
@[simp] theorem sendLspi_clockView (s : State) (n : Nat) (l : List Nat) : clockView (sendLspi s n l) = clockView s := (rfl)
@[simp] theorem linkBegin_clockView (s : State) (n : Nat) (rep serve : Bool) : clockView (linkBegin s n rep serve) = clockView s := by
  unfold linkBegin; simp
@[simp] theorem updateFreeboard_clockView (s : State) (n : Nat) : clockView (updateFreeboard s n) = clockView s := by unfold updateFreeboard; simp
@[simp] theorem setDecoder_clockView (s : State) (n v : Nat) : clockView (setDecoder s n v) = clockView s := (rfl)
@[simp] theorem refill_clockView (s : State) (n : Nat) : clockView (refill s n) = clockView s := by unfold refill; simp
@[simp] theorem dropPlane_clockView (s : State) (n state : Nat) : clockView (dropPlane s n state) = clockView s := (rfl)
@[simp] theorem discardData_clockView (s : State) (n uid : Nat) : clockView (discardData s n uid) = clockView s := (rfl)
@[simp] theorem emptyFifo_clockView (s : State) (n : Nat) : clockView (emptyFifo s n) = clockView s := by unfold emptyFifo; simp
@[simp] theorem stopRaster_clockView (s : State) (n : Nat) : clockView (stopRaster s n) = clockView s := by unfold stopRaster; simp
@[simp] theorem forgetAt_clockView (s : State) (uid n : Nat) : clockView (forgetAt s uid n) = clockView s := by unfold forgetAt; simp
@[simp] theorem forgetRaster_clockView (s : State) (uid : Nat) : clockView (forgetRaster s uid) = clockView s := by unfold forgetRaster; simp
@[simp] theorem withdrawOne_clockView (s : State) (uid : Nat) : clockView (withdrawOne s uid) = clockView s := by unfold withdrawOne; simp
@[simp] theorem phaseLost_clockView (s : State) (k : Nat) : clockView (phaseLost s k) = clockView s := by unfold phaseLost; simp
@[simp] theorem holdOff_clockView (s : State) (k : Nat) : clockView (holdOff s k) = clockView s := by unfold holdOff; simp
@[simp] theorem holdUnlit_clockView (s : State) : clockView (holdUnlit s) = clockView s := by unfold holdUnlit; simp
@[simp] theorem dropCorrections_clockView (s : State) (n : Nat) : clockView (dropCorrections s n) = clockView s := (rfl)
@[simp] theorem dropStaged_clockView (s : State) (g : Nat) : clockView (dropStaged s g) = clockView s := (rfl)
@[simp] theorem rejectGroup_clockView (s : State) (g : Nat) : clockView (rejectGroup s g) = clockView s := by unfold rejectGroup; simp
@[simp] theorem setDlls_clockView (s : State) (v : Nat) : clockView (setDlls s v) = clockView s := by unfold setDlls; simp
@[simp] theorem recordMode_clockView (s : State) (new : Mode) (cause : Nat) : clockView (recordMode s new cause) = clockView s := by
  unfold recordMode; simp
@[simp] theorem rasterOff_clockView (s : State) : clockView (rasterOff s) = clockView s := by unfold rasterOff; simp
@[simp] theorem serviceOff_clockView (s : State) : clockView (serviceOff s) = clockView s := by unfold serviceOff; simp
@[simp] theorem recordCause_clockView (s : State) (cause : Nat) : clockView (recordCause s cause) = clockView s := by simp [recordCause]
@[simp] theorem safestopMotor_clockView (s : State) (m : Nat) : clockView (safestopMotor s m) = clockView s := by unfold safestopMotor; simp
@[simp] theorem safestopAxisAll_clockView (s : State) (a : Nat) : clockView (safestopAxisAll s a) = clockView s := by unfold safestopAxisAll; simp
@[simp] theorem withdrawEvery_clockView (s : State) : clockView (withdrawEvery s) = clockView s := by unfold withdrawEvery; simp
@[simp] theorem serviceLight_clockView (s : State) (n v : Nat) : clockView (serviceLight s n v) = clockView s := by unfold serviceLight; simp
@[simp] theorem takeHeldLight_clockView (s : State) (n : Nat) : clockView (takeHeldLight s n) = clockView s := by unfold takeHeldLight; simp
@[simp] theorem relockLink_clockView (s : State) (n : Nat) : clockView (relockLink s n) = clockView s := by unfold relockLink; split <;> simp
@[simp] theorem linkCnt_above (n : Nat) : 0x2400 ≤ linkCnt n := by unfold linkCnt; omega

/-- The straps and the low objects. -/
structure LowView where
  kick : Kick
  lowDict : Nat → Option Nat

def lowView (s : State) : LowView :=
  ⟨s.kick, (lowDict s.dict)⟩

@[simp] theorem lowView_mk (time powered md kick hold reset_ seq rails clk net flash dict blobs staged stagedBlobs stagers armed accs sheets
    nextUid tenants coalescing mem stations trackers slots motors axes loops ains pins diag log heatTicks heatFrom out fresh pending) :
    lowView ⟨time, powered, md, kick, hold, reset_, seq, rails, clk, net, flash, dict, blobs, staged, stagedBlobs, stagers, armed, accs, sheets,
    nextUid, tenants, coalescing, mem, stations, trackers, slots, motors, axes, loops, ains, pins, diag, log, heatTicks, heatFrom, out, fresh,
    pending⟩ = ⟨kick, (lowDict dict)⟩ := rfl
@[simp] theorem lowView_self (s : State) :
    LowView.mk s.kick (lowDict s.dict) = lowView s := rfl

@[simp] theorem ite_lowView (c : Prop) [Decidable c] (a b : State) :
    lowView (if c then a else b) = if c then lowView a else lowView b := apply_ite lowView c a b
@[simp] theorem ite_lowView1 {α : Type} (c : Prop) [Decidable c] (a b : State × α) :
    lowView (if c then a else b).1 = if c then lowView a.1 else lowView b.1 := apply_ite (fun x : State × α => lowView x.1) c a b
@[simp] theorem foldl_lowView {α : Type} (l : List α) (f : State → α → State) (s : State)
    (h : ∀ u x, lowView (f u x) = lowView u) :
    lowView (l.foldl f s) = lowView s := foldl_view lowView l f s fun u x _ => h u x
@[simp] theorem forEach_lowView (l : List Nat) (f : State → Nat → State) (s : State)
    (h : ∀ u x, lowView (f u x) = lowView u) :
    lowView (forEach l f s) = lowView s := foldl_lowView l f s h
@[simp] theorem put_lowView (s : State) (i j v : Nat) (h : 0x2400 ≤ i) : lowView (put s i j v) = lowView s := by
  have hd : lowDict (put s i j v).dict = lowDict s.dict := lowDict_tabSet _ v (.inr (by unfold keyOf; omega))
  simp only [lowView, hd]
  rfl
@[simp] theorem put_lowView_first (s : State) (i j v : Nat) (h : i ≤ 0x2000) (hj : j ≤ 6) : lowView (put s i j v) = lowView s := by
  have hd : lowDict (put s i j v).dict = lowDict s.dict := lowDict_tabSet _ v (.inl (by unfold keyOf; omega))
  simp only [lowView, hd]
  rfl
@[simp] theorem wrapBy_lowView (w : Nat) (s : State) (i j n : Nat) (h : 0x2400 ≤ i) : lowView (wrapBy w s i j n) = lowView s := put_lowView s i j _ h
@[simp] theorem wrapBy_lowView_first (w : Nat) (s : State) (i j n : Nat) (h : i ≤ 0x2000) (hj : j ≤ 6) : lowView (wrapBy w s i j n) = lowView s := put_lowView_first s i j _ h hj
@[simp] theorem satBy_lowView (w : Nat) (s : State) (i j n : Nat) (h : 0x2400 ≤ i) : lowView (satBy w s i j n) = lowView s := put_lowView s i j _ h
@[simp] theorem satBy_lowView_first (w : Nat) (s : State) (i j n : Nat) (h : i ≤ 0x2000) (hj : j ≤ 6) : lowView (satBy w s i j n) = lowView s := put_lowView_first s i j _ h hj
@[simp] theorem sat_lowView (s : State) (i j : Nat) (h : 0x2400 ≤ i) : lowView (sat s i j) = lowView s := put_lowView s i j _ h
@[simp] theorem sat_lowView_first (s : State) (i j : Nat) (h : i ≤ 0x2000) (hj : j ≤ 6) : lowView (sat s i j) = lowView s := put_lowView_first s i j _ h hj
@[simp] theorem putLog_lowView (s : State) (i j v : Nat) : lowView (putLog s i j v) = lowView s := (rfl)
@[simp] theorem wrapLog_lowView (w : Nat) (s : State) (i j : Nat) : lowView (wrapLog w s i j) = lowView s := (rfl)
@[simp] theorem satLog_lowView (w : Nat) (s : State) (i j : Nat) : lowView (satLog w s i j) = lowView s := (rfl)
@[simp] theorem emit_lowView (s : State) (o : Output) : lowView (emit s o) = lowView s := (rfl)
@[simp] theorem emitAll_lowView (s : State) (l : List Output) : lowView (emitAll s l) = lowView s := (rfl)
@[simp] theorem setStation_lowView (s : State) (n : Nat) (f : Station → Station) : lowView (setStation s n f) = lowView s := (rfl)
@[simp] theorem setTracker_lowView (s : State) (n : Nat) (f : Tracker → Tracker) : lowView (setTracker s n f) = lowView s := (rfl)
@[simp] theorem setMotor_lowView (s : State) (n : Nat) (f : Motor → Motor) : lowView (setMotor s n f) = lowView s := (rfl)

@[simp] theorem vector_lowView (s : State) (fn vec : Nat) : lowView (vector s fn vec) = lowView s := by unfold vector; simp
@[simp] theorem mirrorWrite_lowView (s : State) (e : Entry) : lowView (mirrorWrite s e) = lowView s := by
  unfold mirrorWrite; (repeat' split) <;> simp
@[simp] theorem ringWrite_lowView (s : State) (e : Entry) : lowView (ringWrite s e) = lowView s := by unfold ringWrite; simp
@[simp] theorem notice_lowView (s : State) (idx sub cls : Nat) : lowView (notice s idx sub cls) = lowView s := by unfold notice; simp
@[simp] theorem classVectors_lowView (s : State) (cls : Nat) : lowView (classVectors s cls) = lowView s := by unfold classVectors; simp
@[simp] theorem logOnly_lowView (s : State) (cls kind src inst idx sub : Nat) (serial : Option Nat) (detail : Nat) :
  lowView (logOnly s cls kind src inst idx sub serial detail) = lowView s := by
  unfold logOnly; simp
@[simp] theorem log_lowView (s : State) (cls kind src inst idx sub : Nat) (serial : Option Nat) (detail : Nat) :
  lowView (log s cls kind src inst idx sub serial detail) = lowView s := by
  unfold log; simp
@[simp] theorem logEvent_lowView (s : State) (cls src inst idx sub : Nat) : lowView (logEvent s cls src inst idx sub) = lowView s := by
  unfold logEvent; simp
@[simp] theorem serveDrop_lowView (s : State) (m : Mech) (inst : Nat) : lowView (serveDrop s m inst) = lowView s := (rfl)
@[simp] theorem serveBegin_lowView (s : State) (m : Mech) (inst code src idx sub : Nat) :
  lowView (serveBegin s m inst code src idx sub) = lowView s := by
  unfold serveBegin; simp
@[simp] theorem servePass_lowView (s : State) (m : Mech) (inst src idx sub : Nat) : lowView (servePass s m inst src idx sub) = lowView s := by
  unfold servePass; split <;> simp
@[simp] theorem doubleFaultAs_lowView (cls : Nat) (s : State) (m : Mech) (inst code src idx sub : Nat) :
  lowView (doubleFaultAs cls s m inst code src idx sub) = lowView s := by
  unfold doubleFaultAs; simp
@[simp] theorem doubleFault_lowView (s : State) (m : Mech) (inst code src idx sub : Nat) :
  lowView (doubleFault s m inst code src idx sub) = lowView s := by
  unfold doubleFault; simp
@[simp] theorem causeEnd_lowView (s : State) (c inst : Nat) : lowView (causeEnd s c inst) = lowView s := by unfold causeEnd; simp
@[simp] theorem spillWhere_lowView (s : State) (p : Sheet → Bool) (st : Option Nat) : lowView (spillWhere s p st) = lowView s := (rfl)
@[simp] theorem spillStation_lowView (s : State) (st : Nat) : lowView (spillStation s st) = lowView s := (rfl)
@[simp] theorem setMotorState_lowView (s : State) (m v : Nat) : lowView (setMotorState s m v) = lowView s := by simp [setMotorState]
@[simp] theorem restLanes_lowView (s : State) (n : Nat) : lowView (restLanes s n) = lowView s := by simp [restLanes]
@[simp] theorem setLinkState_lowView (s : State) (n v : Nat) : lowView (setLinkState s n v) = lowView s := by unfold setLinkState; simp
@[simp] theorem queueBlocks_lowView (s : State) (n : Nat) (l : List LinkBlock) : lowView (queueBlocks s n l) = lowView s := by
  unfold queueBlocks; simp
@[simp] theorem sendControl_lowView (s : State) (n : Nat) (l : List (List Byte)) : lowView (sendControl s n l) = lowView s := by
  unfold sendControl; simp
@[simp] theorem sendLight_lowView (s : State) (n beam kind t d : Nat) : lowView (sendLight s n beam kind t d) = lowView s := by
  unfold sendLight; simp
@[simp] theorem sendLspi_lowView (s : State) (n : Nat) (l : List Nat) : lowView (sendLspi s n l) = lowView s := (rfl)
@[simp] theorem linkBegin_lowView (s : State) (n : Nat) (rep serve : Bool) : lowView (linkBegin s n rep serve) = lowView s := by
  unfold linkBegin; simp
@[simp] theorem phaseLost_lowView (s : State) (k : Nat) : lowView (phaseLost s k) = lowView s := by unfold phaseLost; simp
@[simp] theorem holdOff_lowView (s : State) (k : Nat) : lowView (holdOff s k) = lowView s := by unfold holdOff; simp
@[simp] theorem holdUnlit_lowView (s : State) : lowView (holdUnlit s) = lowView s := by unfold holdUnlit; simp
@[simp] theorem serviceLight_lowView (s : State) (n v : Nat) : lowView (serviceLight s n v) = lowView s := by unfold serviceLight; simp
@[simp] theorem takeHeldLight_lowView (s : State) (n : Nat) : lowView (takeHeldLight s n) = lowView s := by unfold takeHeldLight; simp
@[simp] theorem relockLink_lowView (s : State) (n : Nat) : lowView (relockLink s n) = lowView s := by unfold relockLink; split <;> simp

theorem get_of_lowView {s t : State} (h : lowView t = lowView s) {i j : Nat} (hlow : 0x2001 ≤ i) (hhigh : i < 0x2400) (hj : j < 256) :
    get t i j = get s i j := get_of_lowDict (congrArg LowView.lowDict h) hlow hhigh hj

theorem stationCount_of_lowView {s t : State} (h : lowView t = lowView s) : stationCount t = stationCount s := by
  have hkick : t.kick = s.kick := congrArg LowView.kick h
  simp [stationCount, strap, hkick]

theorem clk_of_clockView {s t : State} (h : clockView t = clockView s) : t.clk = s.clk := congrArg ClockView.clk h

theorem time_of_clockView {s t : State} (h : clockView t = clockView s) : t.time = s.time := congrArg ClockView.time h

theorem causes_of_clockView {s t : State} (h : clockView t = clockView s) : t.log.causes = s.log.causes := congrArg ClockView.causes h

theorem serveOf_of_clockView {s t : State} (h : clockView t = clockView s) (m : Mech) (n : Nat) (hm : 7 ≤ m.code ∧ m.code ≤ 10) :
    serveOf t m n = serveOf s m n := by
  have hserves : clockServes t.log.serves m.code n = clockServes s.log.serves m.code n :=
    congrFun (congrFun (congrArg ClockView.clockServes h) m.code) n
  have hof (u : State) : clockServes u.log.serves m.code n = serveOf u m n := if_pos hm
  rwa [hof, hof] at hserves

theorem serving_of_clockView {s t : State} (h : clockView t = clockView s) (m : Mech) (n : Nat) (hm : 7 ≤ m.code ∧ m.code ≤ 10) :
    serving t m n = serving s m n := by
  rw [serving, serving, serveOf_of_clockView h m n hm]

theorem doubles_of_clockView {s t : State} (h : clockView t = clockView s) : get t 0x2400 3 = get s 0x2400 3 := by
  have hcount : doubleCount t.log.dict = doubleCount s.log.dict := congrArg ClockView.doubleCount h
  have hget (u : State) : get u 0x2400 3 = match doubleCount u.log.dict with | some v => v | none => defaultOf 0x2400 3 := rfl
  rw [hget, hget, hcount]

/-! ## The DLLs and the gate -/

theorem get_foldl_setDll (l : List Nat) (v : Nat) (s : State) {i j : Nat} (hi : isLogIdx i = false) (hj : j < 256) (hl : ∀ n ∈ l, n < 6) :
    get (l.foldl (fun t n => put t 0x2230 (n + 1) v) s) i j = if i = 0x2230 ∧ 1 ≤ j ∧ j - 1 ∈ l then v else get s i j := by
  induction l generalizing s with
  | nil => simp
  | cons a r ih =>
    rw [List.foldl_cons, ih _ fun n hn => hl n (List.mem_cons_of_mem a hn)]
    have ha := hl a List.mem_cons_self
    by_cases hr : i = 0x2230 ∧ 1 ≤ j ∧ j - 1 ∈ r
    · rw [if_pos hr, if_pos ⟨hr.1, hr.2.1, List.mem_cons_of_mem a hr.2.2⟩]
    · rw [if_neg hr]
      by_cases hkey : i = 0x2230 ∧ j = a + 1
      · obtain ⟨rfl, rfl⟩ := hkey
        rw [get_put_same _ _ _ rfl, if_pos ⟨rfl, by omega, by simp⟩]
      · rw [get_put_other _ _ (by unfold keyOf; omega), if_neg]
        rintro ⟨rfl, h1, hmem⟩
        rcases List.mem_cons.1 hmem with h | h
        · exact hkey ⟨rfl, by omega⟩
        · exact hr ⟨rfl, h1, h⟩

theorem get_setDlls (s : State) (v : Nat) {i j : Nat} (hi : isLogIdx i = false) (hj : j < 256) :
    get (setDlls s v) i j = if i = 0x2230 ∧ 1 ≤ j ∧ j ≤ stationCount s then v else get s i j := by
  rw [setDlls, forEach, get_foldl_setDll _ v s hi hj fun n => mem_stationsPresent]
  refine if_congr (and_congr_right fun _ => and_congr_right fun h1 => ?_) rfl rfl
  rw [stationsPresent, List.mem_range]
  omega

theorem setDlls_kick (s : State) (v : Nat) : (setDlls s v).kick = s.kick :=
  foldl_keeps (fun t => t.kick = s.kick) _ _ s (fun _ _ _ h => h) rfl

/-- The gate closes: what it leaves of the low objects, where only the DLLs go off (R183 step 2). -/
theorem closeGate_get (s : State) {i j : Nat} (hlow : 0x2001 ≤ i) (hhigh : i < 0x2400) (hj : j < 256) :
    get (closeGate s) i j = if i = 0x2230 ∧ 1 ≤ j ∧ j ≤ stationCount s then 0 else get s i j := by
  unfold closeGate
  extract_lets t
  have ht : lowView t = lowView s := by
    simp only [t, holdTime]
    split <;> simp
  have hrest : lowView { t with clk := { t.clk with gateOpen := false } } = lowView s := ht
  clear_value t
  generalize ({ t with clk := { t.clk with gateOpen := false } } : State) = u at hrest ⊢
  have hlog : isLogIdx i = false := by simp [isLogIdx]; omega
  rw [get_of_lowView (holdUnlit_lowView _) hlow hhigh hj, get_setDlls u 0 hlog hj, stationCount_of_lowView hrest, get_of_lowView hrest hlow hhigh hj]

theorem closeGate_stationCount (s : State) : stationCount (closeGate s) = stationCount s := by
  unfold closeGate
  extract_lets t
  have ht : lowView t = lowView s := by
    simp only [t, holdTime]
    split <;> simp
  have hkick : (setDlls { t with clk := { t.clk with gateOpen := false } } 0).kick = s.kick :=
    (setDlls_kick _ 0).trans (congrArg LowView.kick ht)
  generalize setDlls { t with clk := { t.clk with gateOpen := false } } 0 = u at hkick ⊢
  rw [stationCount_of_lowView (holdUnlit_lowView u)]
  simp [stationCount, strap, hkick]

theorem clockView_setClk {s t : State} (h : clockView t = clockView s) (f : Clocks → Clocks) :
    clockView { t with clk := f t.clk } = clockView { s with clk := f s.clk } := by
  simp only [clockView, ClockView.mk.injEq] at h ⊢
  obtain ⟨htime, hclk, hrest⟩ := h
  exact ⟨htime, congrArg f hclk, hrest⟩

/-- Of press time, clocks and log block, a gate that closes changes the gate and where press time went over. -/
theorem closeGate_clockView (s : State) : ∃ held, clockView (closeGate s) = clockView { s with clk := { s.clk with gateOpen := false, heldAt := held } } := by
  unfold closeGate
  extract_lets t
  have ht : clockView t = clockView (if s.clk.gateOpen then holdTime s else s) := by
    simp only [t]
    split <;> simp
  have hclosed := clockView_setClk ht fun c => { c with gateOpen := false }
  clear_value t
  rw [holdUnlit_clockView, setDlls_clockView, hclosed]
  split
  · exact ⟨s.time, rfl⟩
  · exact ⟨s.clk.heldAt, rfl⟩


/-! ## Objects through the log -/

theorem stationCount_congr {s t : State} (h : t.kick = s.kick) : stationCount t = stationCount s := by simp [stationCount, strap, h]

theorem closeGate_keeps (s : State) {j : Nat} (hj : j < 256) : get (closeGate s) 0x2200 j = get s 0x2200 j := by
  rw [closeGate_get s (by decide) (by decide) hj, if_neg (by omega)]

theorem closeGate_dll (s : State) {n : Nat} (h : n < stationCount s) : get (closeGate s) 0x2230 (n + 1) = 0 := by
  have h6 : n < 6 := mem_stationsPresent (List.mem_range.2 h)
  rw [closeGate_get s (by decide) (by decide) (by omega), if_pos ⟨rfl, by omega, by omega⟩]

theorem closeGate_clk (s : State) : ∃ held, (closeGate s).clk = { s.clk with gateOpen := false, heldAt := held } := by
  obtain ⟨held, h⟩ := closeGate_clockView s
  exact ⟨held, clk_of_clockView h⟩

theorem closeGate_time (s : State) : (closeGate s).time = s.time := by
  obtain ⟨_, h⟩ := closeGate_clockView s
  have htime := time_of_clockView h
  exact htime

theorem closeGate_causes (s : State) : (closeGate s).log.causes = s.log.causes := by
  obtain ⟨_, h⟩ := closeGate_clockView s
  have hcauses := causes_of_clockView h
  exact hcauses

/-! ## A relock starts (R182, R183) -/

/-- The set that a relock works with: the armed one where it passes its checks, but for the second serve of a timebase fault (R182, R191). -/
def relockSet (s : State) (occ : Occasion) : State :=
  if s.armed.contains 13 && occ != .serve then (if groupCheck s 13 == 0 then copyGroup s 13 else rejectGroup s 13) else s

theorem relockSet_clk (s : State) (occ : Occasion) : (relockSet s occ).clk = s.clk := by
  unfold relockSet
  split
  · split
    · rfl
    · exact clk_of_clockView (rejectGroup_clockView s 13)
  · rfl

theorem relockSet_time (s : State) (occ : Occasion) : (relockSet s occ).time = s.time := by
  unfold relockSet
  split
  · split
    · rfl
    · exact time_of_clockView (rejectGroup_clockView s 13)
  · rfl

theorem rejectGroup_sameButRecords (s : State) (g : Nat) : (rejectGroup s g).kick = s.kick :=
  (log_sameButLog _ _ _ _ _ _ _ _ _).kick

theorem relockSet_kick (s : State) (occ : Occasion) : (relockSet s occ).kick = s.kick := by
  unfold relockSet
  split
  · split
    · rfl
    · exact rejectGroup_sameButRecords s 13
  · rfl

theorem relockSet_unarmed {s : State} (occ : Occasion) (h : s.armed.contains 13 = false) : relockSet s occ = s := by simp only [relockSet, h]; rfl

theorem relockSet_serve (s : State) : relockSet s .serve = s := by simp [relockSet]

/-- A relock's record, as it starts. -/
def relockRecord (s : State) (occ : Occasion) : Relock :=
  { occasion := occ, taken := s.armed.contains 13 && occ != .serve && groupCheck s 13 == 0,
    previous := if occ == .kickoff then romBands s else bandSet s, start := s.time }

theorem relockAttempt_clk (s : State) : (relockAttempt s).clk = s.clk := rfl

theorem startRelock_eq {s : State} (h : s.clk.refLost = false) (occ : Occasion) :
    startRelock s occ = relockAttempt (closeGate
      (bump { relockSet s occ with clk := { (relockSet s occ).clk with relock := some (relockRecord s occ) } } 0x2200 6)) := by
  have hset : (if s.armed.contains 13 && occ != .serve && groupCheck s 13 == 0 then copyGroup s 13
      else if s.armed.contains 13 && occ != .serve then rejectGroup s 13 else s) = relockSet s occ := by
    unfold relockSet
    cases s.armed.contains 13 && occ != .serve <;> simp
  rw [startRelock, if_neg (by simp [h])]
  simp only [hset]
  rfl

/-- What a relock that starts shows of clocks and objects. -/
theorem startRelock_shows {s : State} (h : s.clk.refLost = false) (occ : Occasion) :
    (∃ held, (startRelock s occ).clk = { s.clk with relock := some (relockRecord s occ), gateOpen := false, heldAt := held }) ∧
      get (startRelock s occ) 0x2200 3 = 1 ∧ (∀ n, n < stationCount s → get (startRelock s occ) 0x2230 (n + 1) = 0) ∧
      (∀ j, j < 256 → j ≠ 3 → j ≠ 4 → j ≠ 6 → get (startRelock s occ) 0x2200 j = get (relockSet s occ) 0x2200 j) ∧
      get (startRelock s occ) 0x2200 6 = (get (relockSet s occ) 0x2200 6 + 1) % 2 ^ 32 := by
  rw [startRelock_eq h]
  have hclk := relockSet_clk s occ
  have hkick := relockSet_kick s occ
  generalize relockSet s occ = t at hclk hkick ⊢
  let u : State := { t with clk := { t.clk with relock := some (relockRecord s occ) } }
  have hget (j : Nat) : get u 0x2200 j = get t 0x2200 j := rfl
  obtain ⟨held, hgate⟩ := closeGate_clk (bump u 0x2200 6)
  have hcount : stationCount (bump u 0x2200 6) = stationCount s := stationCount_congr hkick
  refine ⟨⟨held, ?_⟩, ?_, fun n hn => ?_, fun j hj h3 h4 h6 => ?_, ?_⟩
  · have hu : (bump u 0x2200 6).clk = { t.clk with relock := some (relockRecord s occ) } := rfl
    rw [hu, hclk] at hgate
    rw [relockAttempt_clk]
    exact hgate
  · simp (disch := decide) only [relockAttempt, get_put_other, get_put_same]
  · have hn6 : n < 6 := mem_stationsPresent (List.mem_range.2 hn)
    rw [relockAttempt, get_put_other _ _ (by unfold keyOf; omega), get_put_other _ _ (by unfold keyOf; omega)]
    exact closeGate_dll _ (by rw [hcount]; exact hn)
  · rw [relockAttempt, get_put_other _ _ (by unfold keyOf; omega), get_put_other _ _ (by unfold keyOf; omega), closeGate_keeps _ hj, bump, wrapBy,
      get_put_other _ _ (by unfold keyOf; omega), hget]
  · rw [relockAttempt, get_put_other _ _ (by decide), get_put_other _ _ (by decide), closeGate_keeps _ (by decide), bump, wrapBy,
      get_put_same _ _ _ rfl, hget]

/-! ## An attempt fails (R185, R186) -/

/-- The gate closes and the attempt is counted. -/
def attemptCounted (s : State) : State := closeGate (sat s 0x2200 7)

theorem attemptCounted_modeView (s : State) : modeView (attemptCounted s) = modeView s := by simp [attemptCounted]

theorem attemptCounted_clk (s : State) : ∃ held, (attemptCounted s).clk = { s.clk with gateOpen := false, heldAt := held } := closeGate_clk (sat s 0x2200 7)

theorem attemptCounted_count (s : State) : get (attemptCounted s) 0x2200 7 = min (get s 0x2200 7 + 1) 65535 := by
  rw [attemptCounted, closeGate_keeps _ (by decide), sat, satBy, get_put_same _ _ _ rfl]
  rfl

theorem attemptCounted_keeps (s : State) {j : Nat} (hj : j < 256) (h7 : j ≠ 7) : get (attemptCounted s) 0x2200 j = get s 0x2200 j := by
  rw [attemptCounted, closeGate_keeps _ hj, sat, satBy, get_put_other _ _ (by unfold keyOf; omega)]

theorem attemptCounted_dll (s : State) {n : Nat} (h : n < stationCount s) : get (attemptCounted s) 0x2230 (n + 1) = 0 := closeGate_dll (sat s 0x2200 7) h

/-- What the state shows where the second attempt has begun. -/
structure RelocksAgain (s : State) (r : Relock) (t : State) : Prop where
  clk : t.clk = { s.clk with relock := some { r with attempt := 2 }, gateOpen := false, heldAt := t.clk.heldAt }
  locking : get t 0x2200 3 = 1
  md : t.md = s.md
  count : get t 0x2200 7 = min (get s 0x2200 7 + 1) 65535
  serves : serving t .relock 255 = true
  dlls : ∀ n, n < stationCount s → get t 0x2230 (n + 1) = 0
  trips : get t 0x2200 8 = get s 0x2200 8

theorem attemptFails_first {s : State} {r : Relock} (hr : s.clk.relock = some r) (h : r.attempt = 1) :
    attemptFails s = relockAgain (serveBegin (attemptCounted s) .relock 255 7 3 0x2200 7) r 2 := by
  simp [attemptFails, hr, h, attemptCounted]

theorem attemptFails_again {s : State} {r : Relock} (hr : s.clk.relock = some r) (h : r.attempt = 1) : RelocksAgain s r (attemptFails s) := by
  rw [attemptFails_first hr h]
  have hmd := md_of_modeView (attemptCounted_modeView s)
  obtain ⟨held, hclk⟩ := attemptCounted_clk s
  have hcount := attemptCounted_count s
  have htrips := attemptCounted_keeps s (j := 8) (by decide) (by decide)
  have hdlls : ∀ n, n < stationCount s → get (attemptCounted s) 0x2230 (n + 1) = 0 := fun n hn => attemptCounted_dll s hn
  generalize attemptCounted s = t at hmd hclk hcount htrips hdlls ⊢
  have hlog := serveBegin_sameButLog t .relock 255 7 3 0x2200 7
  have hserves := serving_serveBegin t .relock 255 7 3 0x2200 7
  generalize serveBegin t .relock 255 7 3 0x2200 7 = u at hlog hserves ⊢
  have hkeep {i j : Nat} (h3 : keyOf i j ≠ keyOf 0x2200 3) (h4 : keyOf i j ≠ keyOf 0x2200 4) (hi : isLogIdx i = false) :
      get (relockAgain u r 2) i j = get t i j := by
    rw [relockAgain, relockAttempt, get_put_other _ _ h4, get_put_other _ _ h3]
    exact hlog.get j hi
  refine ⟨?_, ?_, hlog.md.trans hmd, ?_, hserves, fun n hn => ?_, ?_⟩
  · simp only [relockAgain, relockAttempt, put, hlog.clk, hclk]
  · simp (disch := decide) only [relockAgain, relockAttempt, get_put_other, get_put_same]
  · rw [hkeep (by decide) (by decide) rfl, hcount]
  · have hn6 : n < 6 := mem_stationsPresent (List.mem_range.2 hn)
    rw [hkeep (by unfold keyOf; omega) (by unfold keyOf; omega) rfl, hdlls n hn]
  · rw [hkeep (by decide) (by decide) rfl, htrips]

theorem RelocksAgain.of_put {s t : State} {r : Relock} {j v : Nat} (h : RelocksAgain (put s 0x2200 j v) r t) (h7 : keyOf 0x2200 7 ≠ keyOf 0x2200 j)
    (h8 : keyOf 0x2200 8 ≠ keyOf 0x2200 j) : RelocksAgain s r t := by
  obtain ⟨hclk, hlock, hmd, hcount, hserves, hdlls, htrips⟩ := h
  rw [get_put_other _ _ h7] at hcount
  rw [get_put_other _ _ h8] at htrips
  exact ⟨hclk, hlock, hmd, hcount, hserves, hdlls, htrips⟩

/-! ### The third attempt, with the set from before -/

theorem attemptFails_second {s : State} {r : Relock} (hr : s.clk.relock = some r) (h : r.attempt = 2) (htaken : r.taken = true) :
    attemptFails s = relockAgain (restoreBands (rejectGroup (attemptCounted s) 13) r.previous) r 3 := by
  simp [attemptFails, hr, h, htaken, attemptCounted]

theorem tabFind_foldl_tabSet_other {α : Type} (l d : Tab α) {k : Nat} (h : ∀ p ∈ l, k ≠ p.1) :
    tabFind (l.foldl (fun t p => tabSet t p.1 p.2) d) k = tabFind d k := by
  induction l generalizing d with
  | nil => rfl
  | cons p r ih => rw [List.foldl_cons, ih _ fun q hq => h q (List.mem_cons_of_mem p hq), tabFind_tabSet_other _ _ (h p List.mem_cons_self)]

theorem get_restoreBands (s : State) {l : Tab Nat} (hl : ∀ p ∈ l, bandKey p.1 = true) {i j : Nat} (h : bandKey (keyOf i j) = false)
    (hi : isLogIdx i = false) : get (restoreBands s l) i j = get s i j := by
  rw [get_dict _ _ hi, get_dict _ _ hi]
  refine congrArg (Option.getD · _) ?_
  rw [restoreBands, tabFind_foldl_tabSet_other _ _ fun p hp e => by simp [e, hl p hp] at h]
  exact tabFind_filter_key s.dict (fun k => !bandKey k) _ (by simp [h])

theorem testBit_setBit (n i : Nat) : (setBit n i).testBit i = true := by simp [setBit]

theorem rejectGroup_bit (s : State) (g : Nat) : (get (rejectGroup s g) 0x2700 4).testBit g = true := by
  unfold rejectGroup
  extract_lets t u
  rw [(log_sameButLog u _ _ _ _ _ _ _ _).get 4 rfl]
  simp only [u, sat, satBy]
  rw [get_put_other _ _ (by decide), get_put_same _ _ _ rfl, testBit_setBit]

theorem attemptFails_third {s : State} {r : Relock} (hr : s.clk.relock = some r) (h : r.attempt = 2) (htaken : r.taken = true)
    (hprev : ∀ p ∈ r.previous, bandKey p.1 = true) :
    (attemptFails s).clk.relock = some { r with attempt := 3 } ∧ get (attemptFails s) 0x2200 3 = 1 ∧
      (get (attemptFails s) 0x2700 4).testBit 13 = true ∧ (attemptFails s).md = s.md := by
  rw [attemptFails_second hr h htaken]
  have hmd : (rejectGroup (attemptCounted s) 13).md = s.md := md_of_modeView (by rw [rejectGroup_modeView, attemptCounted_modeView])
  have hbit := rejectGroup_bit (attemptCounted s) 13
  generalize rejectGroup (attemptCounted s) 13 = t at hmd hbit ⊢
  refine ⟨rfl, ?_, ?_, hmd⟩
  · simp (disch := decide) only [relockAgain, relockAttempt, get_put_other, get_put_same]
  · have hkept : get (relockAgain (restoreBands t r.previous) r 3) 0x2700 4 = get (restoreBands t r.previous) 0x2700 4 := by
      rw [relockAgain, relockAttempt, get_put_other _ _ (by decide), get_put_other _ _ (by decide)]
      rfl
    rw [hkept, get_restoreBands t hprev (by decide) rfl, hbit]

/-! ### The relock fails (R186) -/

/-- An entry to SAFESTOP with its row recorded. -/
def safestopHead (s : State) (c : Nat) : State :=
  let t := satLog 16 (if c = 1 then recordCause s c else causeAdd (recordCause s c) c entryInst) 0x2400 5
  recordMode { t with md := { t.md with pending := none, entering := true, ackHeld := false }, pins := { t.pins with safeN := true } } .safestop c

theorem safestopEnter_head (s : State) (c : Nat) : safestopEnter s c =
    holdUnlit (if s.md.mode = .doze then dozeToSafestop (stopWork (safestopHead s c)) else stopWork (safestopHead s c)) := rfl

theorem stopWork_clockView (s : State) : clockView (stopWork s) = clockView s := by simp [stopWork]

theorem safestopHead_clockView (s : State) (c : Nat) :
    clockView (safestopHead s c) = clockView (if c = 1 then recordCause s c else causeAdd (recordCause s c) c entryInst) := by
  have hsat := satLog_clockView 16 (if c = 1 then recordCause s c else causeAdd (recordCause s c) c entryInst) 0x2400 5 (by decide)
  unfold safestopHead
  simp only [recordMode_clockView]
  exact hsat

theorem safestopEnter_clockView {s : State} (c : Nat) (h : s.md.mode = .doze → s.clk.offUntilKickoff = true) :
    clockView (safestopEnter s c) = clockView (if c = 1 then recordCause s c else causeAdd (recordCause s c) c entryInst) := by
  have hclk : (if c = 1 then recordCause s c else causeAdd (recordCause s c) c entryInst).clk = s.clk := by
    split
    · rfl
    · exact (causeAdd_sameButLog _ _ _).clk
  have hview := (stopWork_clockView (safestopHead s c)).trans (safestopHead_clockView s c)
  rw [safestopEnter_head, holdUnlit_clockView]
  generalize stopWork (safestopHead s c) = y at hview ⊢
  split
  next hdoze =>
    have hoff : y.clk.offUntilKickoff = true := by
      rw [clk_of_clockView hview, hclk]
      exact h hdoze
    rw [← hview]
    simp [dozeToSafestop, leaveDoze, dozeRailsOn, hoff]
  next => exact hview

theorem mem_causeAdd {s : State} {p : Nat × Nat} (h : p ∈ s.log.causes) (c n : Nat) : p ∈ (causeAdd s c n).log.causes := by
  unfold causeAdd
  split
  · exact h
  · exact List.mem_cons_of_mem _ h

theorem safestop_cases (s : State) (c : Nat) : safestop s c = recordCause s c ∨ safestop s c = safestopEnter s c := by
  unfold safestop
  split <;> simp

/-- A trigger touches clocks in DOZE only, where the timebase may come back; and it ends no cause. -/
theorem safestop_clk {s : State} (c : Nat) (h : s.md.mode = .doze → s.clk.offUntilKickoff = true) :
    (safestop s c).clk = s.clk ∧ ∀ p ∈ s.log.causes, p ∈ (safestop s c).log.causes := by
  rcases safestop_cases s c with heq | heq <;> rw [heq]
  · exact ⟨rfl, fun _ hp => hp⟩
  · have hview := safestopEnter_clockView c h
    rw [clk_of_clockView hview, causes_of_clockView hview]
    split
    · exact ⟨rfl, fun _ hp => hp⟩
    · exact ⟨(causeAdd_sameButLog _ _ _).clk, fun _ hp => mem_causeAdd (s := recordCause s c) hp _ _⟩

theorem persists_of_mem {s : State} {c n : Nat} (h : (c, n) ∈ s.log.causes) : persists s c = true := List.any_eq_true.2 ⟨_, h, by simp⟩

theorem mem_causeAdd_self (s : State) (c n : Nat) : (c, n) ∈ (causeAdd s c n).log.causes := by
  unfold causeAdd
  split
  next h => simpa using h
  next => exact List.mem_cons_self

theorem safestopBy_clk {s : State} (c n : Nat) (h : s.md.mode = .doze → s.clk.offUntilKickoff = true) :
    (safestopBy s c n).clk = s.clk ∧ persists (safestopBy s c n) c = true := by
  have hadd := causeAdd_sameButLog s c n
  obtain ⟨hclk, hcauses⟩ := safestop_clk (s := causeAdd s c n) c (by rwa [hadd.md, hadd.clk])
  exact ⟨hclk.trans hadd.clk, persists_of_mem (hcauses _ (mem_causeAdd_self s c n))⟩

theorem attemptFails_last {s : State} {r : Relock} (hr : s.clk.relock = some r) (h : r.attempt = 2 ∧ r.taken = false ∨ r.attempt = 3)
    (hocc : r.occasion ≠ .kickoff) : attemptFails s = relockFailed (attemptCounted s) := by
  have h1 : r.attempt ≠ 1 := by omega
  have h2 : ¬(r.attempt = 2 ∧ r.taken = true) := by
    rintro ⟨ha, ht⟩
    rcases h with ⟨-, hf⟩ | h3
    · simp [ht] at hf
    · omega
  simp [attemptFails, hr, h1, h2, hocc, attemptCounted]

theorem endRelock_clk (s : State) : (endRelock s).clk = { s.clk with relock := none } := by
  unfold endRelock
  split
  next h => rw [← h]
  next => rfl

theorem endRelock_md (s : State) : (endRelock s).md = s.md := by
  unfold endRelock
  split <;> rfl

/-- The timebase as a failed relock leaves it, before SAFESTOP. -/
def timebaseOff (s : State) : State :=
  let t := put (endRelock s) 0x2200 3 5
  serveDrop (doubleFault { t with clk := { t.clk with offUntilKickoff := true } } .relock 255 7 3 0x2200 7) .timebase 255

theorem timebaseOff_sameButLog (s : State) :
    SameButLog { put (endRelock s) 0x2200 3 5 with clk := { s.clk with relock := none, offUntilKickoff := true } } (timebaseOff s) := by
  have hclk : (put (endRelock s) 0x2200 3 5).clk = { s.clk with relock := none } := endRelock_clk s
  unfold timebaseOff
  simp only [hclk]
  exact .trans (doubleFault_sameButLog _ _ _ _ _ _ _) (serveDrop_sameButLog _ _ _)

theorem relockFailed_shows (s : State) :
    (relockFailed s).clk = { s.clk with relock := none, offUntilKickoff := true } ∧ persists (relockFailed s) 0x0C = true ∧
      (s.md.mode ∈ operating → (relockFailed s).md.mode = .safestop ∧ get (relockFailed s) 0x2000 5 = 0x0C) := by
  have hsame := timebaseOff_sameButLog s
  have hfail : relockFailed s = safestopBy (timebaseOff s) 0x0C timebaseCause := rfl
  rw [hfail]
  have hclk : (timebaseOff s).clk = { s.clk with relock := none, offUntilKickoff := true } := hsame.clk
  have hmd : (timebaseOff s).md = s.md := hsame.md.trans (endRelock_md s)
  generalize timebaseOff s = t at hclk hmd ⊢
  obtain ⟨hkept, hpersists⟩ := safestopBy_clk (s := t) 0x0C timebaseCause fun _ => by rw [hclk]
  refine ⟨hkept.trans hclk, hpersists, fun h => ?_⟩
  obtain ⟨hmode, hcause, -⟩ := safestopBy_operating (s := t) (by rwa [hmd]) 0x0C timebaseCause
  exact ⟨hmode, hcause⟩

theorem attemptFails_off {s : State} {r : Relock} (hr : s.clk.relock = some r) (h : r.attempt = 2 ∧ r.taken = false ∨ r.attempt = 3)
    (hocc : r.occasion ≠ .kickoff) :
    (attemptFails s).clk.relock = none ∧ (attemptFails s).clk.offUntilKickoff = true ∧ (attemptFails s).clk.gateOpen = false ∧
      persists (attemptFails s) 0x0C = true ∧
      (s.md.mode ∈ operating → (attemptFails s).md.mode = .safestop ∧ get (attemptFails s) 0x2000 5 = 0x0C) := by
  rw [attemptFails_last hr h hocc]
  have hmd := md_of_modeView (attemptCounted_modeView s)
  obtain ⟨held, hclk⟩ := attemptCounted_clk s
  generalize attemptCounted s = t at hmd hclk ⊢
  obtain ⟨hoff, hpersists, hmode⟩ := relockFailed_shows t
  rw [hmd] at hmode
  exact ⟨by rw [hoff], by rw [hoff], by rw [hoff, hclk], hpersists, hmode⟩


/-! ## The gate opens (R183 step 7) -/

theorem restLanes_eq (s : State) (n : Nat) : restLanes s n = { s with dict := (restLanes s n).dict, stations := (restLanes s n).stations } := rfl

/-- Every field but the objects and the stations. -/
def SansStations (s t : State) : Prop := t = { s with dict := t.dict, stations := t.stations }

theorem SansStations.step {s t u : State} (h : SansStations s t) (k : SansStations t u) : SansStations s u := by
  unfold SansStations at *
  rw [k, h]

/-- The gate as it opens, before the DLLs start. -/
def gateOpened (s : State) : State := forEach (stationsPresent s) restLanes { s with clk := { s.clk with gateOpen := true } }

theorem gateOpened_frame (s : State) : SansStations { s with clk := { s.clk with gateOpen := true } } (gateOpened s) :=
  foldl_keeps (SansStations { s with clk := { s.clk with gateOpen := true } }) _ _ _ (fun _ n _ h => h.step (restLanes_eq _ n)) rfl

theorem setDlls_frame (s : State) (v : Nat) : SansStations s (setDlls s v) := foldl_keeps (SansStations s) _ _ s (fun _ _ _ h => h.step rfl) rfl

theorem openGate_frame (s : State) : SansStations { s with clk := { s.clk with gateOpen := true } } (openGate s) := (gateOpened_frame s).step (setDlls_frame _ 1)

theorem gateOpened_lowView (s : State) : lowView (gateOpened s) = lowView s := by simp [gateOpened]

theorem openGate_get (s : State) {i j : Nat} (hlow : 0x2001 ≤ i) (hhigh : i < 0x2400) (hj : j < 256) :
    get (openGate s) i j = if i = 0x2230 ∧ 1 ≤ j ∧ j ≤ stationCount s then 1 else get s i j := by
  have hview := gateOpened_lowView s
  have hopen : openGate s = setDlls (gateOpened s) 1 := rfl
  rw [hopen]
  generalize gateOpened s = t at hview ⊢
  have hlog : isLogIdx i = false := by simp [isLogIdx]; omega
  rw [get_setDlls t 1 hlog hj, stationCount_of_lowView hview, get_of_lowView hview hlow hhigh hj]

/-- A frequency check whose count fits (R183 step 6): the frequency measured is kept and the gate opens. -/
theorem checkedGate_shows (s : State) (f : Nat) :
    let t := openGate (put s 0x2200 5 f)
    t.clk = { s.clk with gateOpen := true } ∧ (∀ n, n < stationCount s → get t 0x2230 (n + 1) = 1) ∧ get t 0x2200 5 = f ∧
      t = { s with clk := t.clk, dict := t.dict, stations := t.stations } := by
  have hframe := openGate_frame (put s 0x2200 5 f)
  have hget {i j : Nat} := openGate_get (put s 0x2200 5 f) (i := i) (j := j)
  have hcount : stationCount (put s 0x2200 5 f) = stationCount s := rfl
  generalize openGate (put s 0x2200 5 f) = t at hframe hget ⊢
  have hclk : t.clk = { s.clk with gateOpen := true } := by rw [hframe]; rfl
  refine ⟨hclk, fun n hn => ?_, ?_, ?_⟩
  · have hn6 : n < 6 := mem_stationsPresent (List.mem_range.2 hn)
    rw [hget (by decide) (by decide) (by omega), if_pos ⟨rfl, by omega, by rw [hcount]; omega⟩]
  · rw [hget (by decide) (by decide) (by decide), if_neg (by omega), get_put_same _ _ _ rfl]
  · rw [hclk]
    exact hframe

/-! ## The relock ends (R183 steps 8 and 9) -/

/-- The timebase runs: the record ends and second serves pass, before light and links come back. -/
def relockEnded (s : State) : State :=
  let t := put (endRelock s) 0x2200 3 4
  causeEnd (servePass (servePass t .relock 255 3 0x2200 7) .timebase 255 3 0x2200 7) 0x0C timebaseCause

theorem relockEnded_sameButLog (s : State) : SameButLog (put (endRelock s) 0x2200 3 4) (relockEnded s) :=
  .trans (servePass_sameButLog _ _ _ _ _ _) (.trans (servePass_sameButLog _ _ _ _ _ _) (causeEnd_sameButLog _ _ _))

/-- Light that was held goes out and the links train again. -/
def lightAndLinks (s : State) : State := forEach (stationsPresent s) relockLink (forEach (stationsPresent s) takeHeldLight s)

theorem relockDone_eq {s : State} (h : s.md.mode ∉ [Mode.doze, .shutdown]) : relockDone s = lightAndLinks (relockEnded s) := by
  have hmd : (lightAndLinks (relockEnded s)).md = s.md := by
    have hview : modeView (lightAndLinks (relockEnded s)) = modeView (relockEnded s) := by simp [lightAndLinks]
    exact (md_of_modeView hview).trans ((relockEnded_sameButLog s).md.trans (endRelock_md s))
  have hd : (s.md.mode == Mode.doze) = false := by simpa using fun e => h (by simp [e])
  have hsh : (s.md.mode == Mode.shutdown) = false := by simpa using fun e => h (by simp [e])
  have hunfold : relockDone s = (if (lightAndLinks (relockEnded s)).md.mode == .doze ||
      ((lightAndLinks (relockEnded s)).md.mode == .shutdown && (lightAndLinks (relockEnded s)).md.offStarted) then
      stopTimebase (lightAndLinks (relockEnded s)) else lightAndLinks (relockEnded s)) := rfl
  rw [hunfold, hmd, hd, hsh]
  rfl

theorem relockDone_shows {s : State} {r : Relock} (hr : s.clk.relock = some r) (h : s.md.mode ∉ [Mode.doze, .shutdown]) :
    (relockDone s).clk = { s.clk with relock := none } ∧ get (relockDone s) 0x2200 3 = 4 ∧
      get (relockDone s) 0x2200 9 = (s.time - r.start) % 2 ^ 32 ∧ (relockDone s).md = s.md ∧ (relockDone s).sheets = s.sheets ∧
      ∀ j, j < 256 → get (relockDone s) 0x2230 j = get s 0x2230 j := by
  have hmd := md_of_modeView (relockDone_modeView s)
  have hsame := relockEnded_sameButLog s
  rw [relockDone_eq h] at hmd ⊢
  have hend : endRelock s = put { s with clk := { s.clk with relock := none } } 0x2200 9 ((s.time - r.start) % 2 ^ 32) := by simp [endRelock, hr]
  rw [hend] at hsame
  generalize relockEnded s = t at hsame hmd ⊢
  have hlow : lowView (lightAndLinks t) = lowView t := by simp [lightAndLinks]
  have hclk : clockView (lightAndLinks t) = clockView t := by simp [lightAndLinks]
  have hsheets : (lightAndLinks t).sheets = t.sheets := by simp [lightAndLinks]
  generalize lightAndLinks t = u at hlow hclk hsheets hmd ⊢
  have hget {i j : Nat} (hi : 0x2001 ≤ i) (hi' : i < 0x2400) (hj : j < 256) : get u i j = get t i j := get_of_lowView hlow hi hi' hj
  refine ⟨(clk_of_clockView hclk).trans hsame.clk, ?_, ?_, hmd, hsheets.trans hsame.sheets, fun j hj => ?_⟩
  · rw [hget (by decide) (by decide) (by decide), hsame.get 3 rfl, get_put_same _ _ _ rfl]
  · rw [hget (by decide) (by decide) (by decide), hsame.get 9 rfl, get_put_other _ _ (by decide), get_put_same _ _ _ rfl]
  · rw [hget (by decide) (by decide) hj, hsame.get j rfl, get_put_other _ _ (by unfold keyOf; omega), get_put_other _ _ (by unfold keyOf; omega)]
    rfl

/-- A DLL has locked (R198, R200). -/
def dllLocked (s : State) (n : Nat) : State :=
  causeEnd (servePass (put s 0x2230 (n + 1) 2) .dll n 3 0x2230 (n + 7)) 7 (causeInst .dll n)

theorem dllLocked_sameButLog (s : State) (n : Nat) : SameButLog (put s 0x2230 (n + 1) 2) (dllLocked s n) :=
  .trans (servePass_sameButLog _ _ _ _ _ _) (causeEnd_sameButLog _ _ _)

/-- The last DLL ends the relock (R183 step 8). -/
def relockIfLocked (s : State) : State := if s.clk.relock.isSome && dllsLocked s then relockDone s else s

theorem exec_stationDllLocked {s : State} {n : Fin 6} (hp : present s n.val = true) (hg : s.clk.gateOpen = true) (h1 : get s 0x2230 (n.val + 1) = 1) :
    exec (.stationDllLocked n) s = .next (settle (relockIfLocked (dllLocked s n.val))) := by
  simp [exec, execStationDllLocked, hp, hg, h1, done, relockIfLocked, dllLocked]

theorem dllsLocked_of_all {s : State} (h : ∀ k, k < stationCount s → get s 0x2230 (k + 1) = 2) : dllsLocked s = true :=
  List.all_eq_true.2 fun k hk => by simpa using h k (List.mem_range.1 hk)

theorem relockIfLocked_shows {s : State} {n : Nat} (hn : n < 6) (h : s.md.mode ∉ [Mode.doze, .shutdown]) :
    let t := relockIfLocked (dllLocked s n)
    get t 0x2230 (n + 1) = 2 ∧ t.md = s.md ∧ t.sheets = s.sheets ∧
      (∀ r, s.clk.relock = some r → (∀ k, k < stationCount s → k ≠ n → get s 0x2230 (k + 1) = 2) →
        t.clk = { s.clk with relock := none } ∧ get t 0x2200 3 = 4 ∧ get t 0x2200 9 = (s.time - r.start) % 2 ^ 32) ∧
      (s.clk.relock = none → t.clk = s.clk ∧ get t 0x2200 3 = get s 0x2200 3) := by
  have hsame := dllLocked_sameButLog s n
  have hlocked : get (dllLocked s n) 0x2230 (n + 1) = 2 := by rw [hsame.get _ rfl, get_put_same _ _ _ rfl]
  have hmd : (dllLocked s n).md = s.md := hsame.md
  have hsheets : (dllLocked s n).sheets = s.sheets := hsame.sheets
  have hclk : (dllLocked s n).clk = s.clk := hsame.clk
  have htime : (dllLocked s n).time = s.time := hsame.time
  have hkick : (dllLocked s n).kick = s.kick := hsame.kick
  have hget (i j : Nat) (hi : isLogIdx i = false) (hk : keyOf i j ≠ keyOf 0x2230 (n + 1)) : get (dllLocked s n) i j = get s i j := by
    rw [hsame.get j hi, get_put_other _ _ hk]
  generalize dllLocked s n = t at hlocked hmd hsheets hclk htime hkick hget ⊢
  intro u
  cases hr : s.clk.relock with
  | none =>
    have hu : u = t := by simp [u, relockIfLocked, hclk, hr]
    rw [hu]
    exact ⟨hlocked, hmd, hsheets, by simp, fun _ => ⟨by rw [hclk], hget _ _ rfl (by unfold keyOf; omega)⟩⟩
  | some r =>
    have hr' : t.clk.relock = some r := by rw [hclk, hr]
    obtain ⟨dclk, dstate, dtime, dmd, dsheets, dget⟩ := relockDone_shows hr' (by rwa [hmd])
    by_cases hall : dllsLocked t = true
    · have hu : u = relockDone t := by simp [u, relockIfLocked, hr', hall]
      rw [hu]
      refine ⟨(dget _ (by omega)).trans hlocked, dmd.trans hmd, dsheets.trans hsheets, fun r' hr'' _ => ?_, by simp⟩
      obtain rfl := Option.some.inj hr''
      exact ⟨by rw [dclk, hclk], dstate, by rw [dtime, htime]⟩
    · have hu : u = t := by simp [u, relockIfLocked, hall]
      rw [hu]
      refine ⟨hlocked, hmd, hsheets, fun _ _ hothers => absurd (dllsLocked_of_all fun k hk => ?_) hall, by simp⟩
      rw [stationCount_congr hkick] at hk
      by_cases hkn : k = n
      · rw [hkn, hlocked]
      · rw [hget _ _ rfl (by unfold keyOf; omega), hothers k hk hkn]

/-! ## The request (R180, R181) -/

theorem writeEffect_relock (s : State) (acc : Accessor) (v : Nat) (d : List Byte) :
    writeEffect s acc (writeRow 0x2200 2) 0x2200 2 v d = (relockWrite s, 0) := by
  have hcls : (writeRow 0x2200 2).cls ≠ .rws := by decide
  have heffect : effectSystem s acc 0x2200 2 v d = (relockWrite s, 0) := by
    unfold effectSystem
    rw [if_neg (by decide), if_neg (by decide), if_pos ⟨rfl, rfl⟩]
  simp [writeEffect, hcls, thresholdOf, heffect]

theorem writeCommand_relock {s : State} {acc : Accessor} {d : List Byte} (h : Accepted s acc 0x2200 2 d) :
    ∃ p : Pins, writeCommand acc 0x2200 2 d s = emit (relockWrite { s with pins := p }) (.answer acc 0 []) := by
  refine ⟨(breakLock s acc 0x2200 2).pins, ?_⟩
  rw [writeCommand_accepted h rfl, writeEffect_relock, ← breakLock_eq]

/-- Admission is held in READY until the trackers have reacquired (R181). -/
def admissionHeld (s : State) : State := if s.md.mode = .ready then { s with clk := { s.clk with admissionHold := true } } else s

theorem relockWrite_runs {s : State} (h : s.clk.relock.isSome = true) : relockWrite s = s := by simp [relockWrite, h]

theorem relockWrite_starts {s : State} (h : s.clk.relock = none) : relockWrite s = startRelock (admissionHeld s) .request := by
  simp [relockWrite, h, admissionHeld]

theorem admissionHeld_clk (s : State) : (admissionHeld s).clk = { s.clk with admissionHold := s.clk.admissionHold || decide (s.md.mode = .ready) } := by
  unfold admissionHeld
  split
  next h => simp [h]
  next h => simp [h]

theorem admissionHeld_eq (s : State) : admissionHeld s = { s with clk := (admissionHeld s).clk } := by
  unfold admissionHeld
  split <;> rfl

theorem relockWrite_shows {s : State} (hnone : s.clk.relock = none) (hlost : s.clk.refLost = false) :
    let t := relockWrite s
    t.clk.gateOpen = false ∧ get t 0x2200 3 = 1 ∧ (∀ n, n < stationCount s → get t 0x2230 (n + 1) = 0) ∧ t.md = s.md ∧
      (∃ r, t.clk.relock = some r ∧ r.occasion = .request ∧ r.attempt = 1 ∧ r.start = s.time) ∧
      (s.armed.contains 13 = false → get t 0x2200 6 = (get s 0x2200 6 + 1) % 2 ^ 32) ∧ (s.md.mode = .ready → t.clk.admissionHold = true) := by
  rw [relockWrite_starts hnone]
  have hclk := admissionHeld_clk s
  have hframe := admissionHeld_eq s
  generalize admissionHeld s = u at hclk hframe ⊢
  have hmd : u.md = s.md := by rw [hframe]
  have htime : u.time = s.time := by rw [hframe]
  have harmed : u.armed = s.armed := by rw [hframe]
  have hcount : stationCount u = stationCount s := stationCount_congr (by rw [hframe])
  have hget : get u 0x2200 6 = get s 0x2200 6 := by rw [hframe]; rfl
  obtain ⟨⟨held, hstart⟩, hlock, hdlls, -, hbump⟩ := startRelock_shows (s := u) (by rw [hclk]; exact hlost) .request
  have hmode := md_of_modeView (startRelock_modeView u .request)
  generalize startRelock u .request = t at hstart hlock hdlls hbump hmode
  refine ⟨by rw [hstart], hlock, by rwa [hcount] at hdlls, hmode.trans hmd, ⟨relockRecord u .request, by rw [hstart], rfl, rfl, htime⟩, fun h => ?_,
    fun h => ?_⟩
  · rw [hbump, relockSet_unarmed _ (by rw [harmed]; exact h), hget]
  · rw [hstart, hclk]
    simp [h]

theorem relockWrite_lost {s : State} (hlost : s.clk.refLost = true) : (relockWrite s).clk.relock = s.clk.relock ∧ (relockWrite s).dict = s.dict := by
  cases hr : s.clk.relock with
  | some r =>
    rw [relockWrite_runs (by simp [hr])]
    exact ⟨hr, rfl⟩
  | none =>
    have hheld : (admissionHeld s).clk.refLost = true := by rw [admissionHeld_clk, hlost]
    rw [relockWrite_starts hr, startRelock, if_pos hheld, admissionHeld_eq, admissionHeld_clk]
    exact ⟨hr, rfl⟩

/-! ## The obligation -/

theorem relockAt_of {s : State} {v : Nat} (hlost : s.clk.refLost = false) (hr : s.clk.relock.isSome = true) (h : get s 0x2200 3 = v) :
    relockAt s v = true := by simp [relockAt, hlost, hr, h]

/-- What the obligation says of a relock whose first attempt has failed. -/
theorem RelocksAgain.shows {s : State} {r : Relock} {t : State} (h : RelocksAgain s r t) :
    t.clk = { s.clk with relock := some { r with attempt := 2 }, gateOpen := false, heldAt := t.clk.heldAt } ∧ get t 0x2200 3 = 1 ∧ t.md = s.md ∧
      get t 0x2200 7 = min (get s 0x2200 7 + 1) 65535 ∧ serving t .relock 255 = true ∧ (∀ n, n < stationCount s → get t 0x2230 (n + 1) = 0) :=
  ⟨h.clk, h.locking, h.md, h.count, h.serves, h.dlls⟩

/-- Settles O25. -/
theorem relocks : Obligations.Relocks := by
  refine ⟨fun s => ⟨fun acc d hacc => ⟨fun hnone hlost => ?_, fun hrun => ?_, fun hlost => ?_⟩, fun hlost => ?_, fun hlost hrun hat => ?_,
    fun hlost hrun hat => ?_, fun count hlost hrun hat hgate hfits => ?_, fun n hp hg h1 hmode => ?_⟩, fun s r hr hlost => ⟨fun h1 => ?_, ?_, ?_⟩⟩
  · obtain ⟨p, heq⟩ := writeCommand_relock hacc
    refine ⟨_, rfl, ?_⟩
    rw [heq]
    have shows := relockWrite_shows (s := { s with pins := p }) hnone hlost
    generalize relockWrite { s with pins := p } = t at shows
    obtain ⟨hgate, hlock, hdlls, hmd, hrec, hbump, hheld⟩ := shows
    exact ⟨rfl, hgate, hlock, hdlls, hmd, hrec, hbump, hheld⟩
  · obtain ⟨p, heq⟩ := writeCommand_relock hacc
    refine ⟨_, rfl, ?_⟩
    rw [heq, relockWrite_runs (s := { s with pins := p }) hrun]
    exact ⟨rfl, rfl⟩
  · obtain ⟨p, heq⟩ := writeCommand_relock hacc
    refine ⟨_, rfl, ?_⟩
    rw [heq]
    have shows := relockWrite_lost (s := { s with pins := p }) hlost
    generalize relockWrite { s with pins := p } = t at shows
    exact ⟨rfl, shows.1, shows.2⟩
  · exact ⟨s, by simp [exec, execRelockLockDetect, relockAt, hlost, done], rfl⟩
  · exact ⟨_, by simp [exec, execRelockLockDetect, relockAt_of hlost hrun hat, done], rfl⟩
  · exact ⟨_, by simp [exec, execRelockSettleEnd, relockAt_of hlost hrun hat, done], rfl⟩
  · refine ⟨_, by simp [exec, execFrequencyCheckEnd, relockAt_of hlost hrun hat, hgate, hfits, done]; rfl, ?_⟩
    exact checkedGate_shows s _
  · exact ⟨_, exec_stationDllLocked hp hg h1, relockIfLocked_shows n.isLt hmode⟩
  · have hrun : s.clk.relock.isSome = true := by simp [hr]
    have again := (attemptFails_again hr h1).shows
    refine ⟨fun hat => ?_, fun hat => ?_, fun count hat hgate hfits => ?_, ?_, fun hgate hmode => ?_⟩
    · exact ⟨_, by simp [exec, execRelockLockTimeout, relockAt_of hlost hrun hat, done], again⟩
    · exact ⟨_, by simp [exec, execRelockSettleEnd, relockAt_of hlost hrun hat, done], again⟩
    · refine ⟨_, by simp [exec, execFrequencyCheckEnd, relockAt_of hlost hrun hat, hgate, hfits, done]; rfl, ?_⟩
      exact ((attemptFails_again (s := put s 0x2200 5 _) hr h1).of_put (by decide) (by decide)).shows
    · refine ⟨attemptFails (sat s 0x2200 8), by simp [exec, execCeilingTrip, hlost, hrun, done], ?_⟩
      obtain ⟨hclk, hlock, hmd, hcount, hserves, hdlls, htrips⟩ := attemptFails_again (s := sat s 0x2200 8) hr h1
      rw [sat, satBy, get_put_other _ _ (by decide)] at hcount
      rw [sat, satBy, get_put_same _ _ _ rfl] at htrips
      exact ⟨⟨hclk, hlock, hmd, hcount, hserves, hdlls⟩, htrips⟩
    · exact ⟨_, by simp [exec, execTimebaseLockLoss, hgate, hrun, hmode, done], again⟩
  · intro h2 htaken hat hprev
    exact ⟨_, by simp [exec, execRelockLockTimeout, relockAt_of hlost (by simp [hr]) hat, done], attemptFails_third hr h2 htaken hprev⟩
  · intro hlast hocc hat
    exact ⟨_, by simp [exec, execRelockLockTimeout, relockAt_of hlost (by simp [hr]) hat, done], attemptFails_off hr hlast hocc⟩

end Sys2Proof.Machine

/-! # Faults of timebase, reference and DLLs (R175, R189 to R192, R200) -/

namespace Sys2Proof.Machine

/-! ## SAFESTOP out of an operating mode, as clocks see it -/

theorem causeAdd_serves (s : State) (c n : Nat) : (causeAdd s c n).log.serves = s.log.serves := by
  unfold causeAdd
  split <;> rfl

theorem causeAdd_doubles (s : State) (c n : Nat) : get (causeAdd s c n) 0x2400 3 = get s 0x2400 3 := by
  unfold causeAdd
  split <;> rfl

theorem mem_of_operating {m : Mode} (h : m ∈ operating) : m ∈ [Mode.standby, .warmup, .ready, .rally, .runout, .calibrate, .service, .doze] :=
  List.mem_append_left [Mode.doze] h

/-- What a trigger out of an operating mode shows of mode, clocks, second serves and low objects (R47, R561). -/
structure StopsWith (s : State) (c : Nat) (t : State) : Prop where
  mode : t.md.mode = .safestop
  previous : t.md.previous = s.md.mode
  cause : get t 0x2000 5 = c
  safeN : t.pins.safeN = true
  clk : t.clk = s.clk
  time : t.time = s.time
  low : lowView t = lowView s
  serves : ∀ (m : Mech) (n : Nat), 7 ≤ m.code ∧ m.code ≤ 10 → serving t m n = serving s m n
  doubles : get t 0x2400 3 = get s 0x2400 3

theorem safestopBy_stopsWith {s : State} (h : s.md.mode ∈ operating) {c : Nat} (n : Nat) (hc : c ≠ 1) : StopsWith s c (safestopBy s c n) := by
  have hadd := causeAdd_sameButLog s c n
  obtain ⟨-, -, -, hpress⟩ := safestopBy_operating h c n
  have hlow : lowView (safestopBy s c n) = lowView s :=
    congrArg₂ LowView.mk (congrArg PressView.kick hpress) (congrArg PressView.lowDict hpress)
  have hmode : (causeAdd s c n).md.mode = s.md.mode := by rw [hadd.md]
  have hdoze : (causeAdd s c n).md.mode ≠ .doze := by
    rw [hmode]
    exact (ne_of_operating h).2.2.2.2
  obtain ⟨hm, hprev, hcause, -, -, hsafe, -⟩ := safestopEnter_shows (causeAdd s c n) c
  have hview := safestopEnter_clockView (s := causeAdd s c n) c fun e => absurd e hdoze
  rw [if_neg hc] at hview
  rw [safestopBy_enters (mem_of_operating h)] at hlow ⊢
  have hhead := (causeAdd_sameButLog (recordCause (causeAdd s c n) c) c entryInst)
  refine ⟨hm, hprev.trans hmode, hcause, hsafe, ?_, ?_, hlow, fun m k hm => ?_, ?_⟩
  · rw [clk_of_clockView hview, hhead.clk]
    exact hadd.clk
  · rw [time_of_clockView hview, hhead.time]
    exact hadd.time
  · rw [serving_of_clockView hview m k hm]
    exact (serving_congr (causeAdd_serves _ _ _) m k).trans (serving_congr (causeAdd_serves s c n) m k)
  · rw [doubles_of_clockView hview, causeAdd_doubles]
    have hrec : get (recordCause (causeAdd s c n) c) 0x2400 3 = get (causeAdd s c n) 0x2400 3 := get_putLog_other _ _ (by decide)
    rw [hrec, causeAdd_doubles]

theorem StopsWith.get {s t : State} {c : Nat} (h : StopsWith s c t) {i j : Nat} (hlow : 0x2001 ≤ i) (hhigh : i < 0x2400) (hj : j < 256) :
    Machine.get t i j = Machine.get s i j := get_of_lowView h.low hlow hhigh hj

/-! ## A timebase fault (R191) -/

/-- The fault is counted, the relock that ran is over, and the gate closes. -/
def timebaseDown (s : State) (sub : Nat) : State := logEvent (closeGate (sat (endRelock s) 0x2200 sub)) clsFault 3 255 0x2200 sub

theorem endRelock_time (s : State) : (endRelock s).time = s.time := by
  unfold endRelock
  split <;> rfl

theorem endRelock_get (s : State) {j : Nat} (h : j ≠ 9) : get (endRelock s) 0x2200 j = get s 0x2200 j := by
  unfold endRelock
  split
  · rfl
  · rw [get_put_other _ _ (by unfold keyOf; omega)]
    rfl

theorem timebaseDown_shows (s : State) {sub : Nat} (hsub : sub = 7 ∨ sub = 8) :
    (∃ held, (timebaseDown s sub).clk = { s.clk with relock := none, gateOpen := false, heldAt := held }) ∧ (timebaseDown s sub).md = s.md ∧
      (timebaseDown s sub).time = s.time ∧ get (timebaseDown s sub) 0x2200 sub = min (get s 0x2200 sub + 1) 65535 := by
  have hlog := logEvent_sameButLog (closeGate (sat (endRelock s) 0x2200 sub)) clsFault 3 255 0x2200 sub
  have heq : timebaseDown s sub = logEvent (closeGate (sat (endRelock s) 0x2200 sub)) clsFault 3 255 0x2200 sub := rfl
  rw [heq]
  generalize logEvent (closeGate (sat (endRelock s) 0x2200 sub)) clsFault 3 255 0x2200 sub = t at hlog ⊢
  obtain ⟨held, hgate⟩ := closeGate_clk (sat (endRelock s) 0x2200 sub)
  have hend : (sat (endRelock s) 0x2200 sub).clk = { s.clk with relock := none } := endRelock_clk s
  have hmd : (closeGate (sat (endRelock s) 0x2200 sub)).md = s.md := by
    rw [md_of_modeView (closeGate_modeView _)]
    exact endRelock_md s
  refine ⟨⟨held, ?_⟩, hlog.md.trans hmd, ?_, ?_⟩
  · rw [hlog.clk, hgate, hend]
  · rw [hlog.time, closeGate_time]
    exact endRelock_time s
  · rw [hlog.get sub rfl, closeGate_keeps _ (by omega), sat, satBy, get_put_same _ _ _ rfl, endRelock_get s (by omega)]
    rfl

/-- Whether a timebase fault is the second one (R191). -/
def timebaseAgain (s : State) : Bool := serving s .timebase 255 || servedWithin s .timebase 255 (ticksS 600)

theorem timebaseFault_first {s : State} (sub : Nat) (h : timebaseAgain s = false) :
    timebaseFault s sub = startRelock (safestopBy (serveBegin (timebaseDown s sub) .timebase 255 0 3 0x2200 sub) 0x0C timebaseCause) .serve :=
  if_neg (by rw [timebaseAgain] at h; simp [h])

/-- The timebase stays off, before SAFESTOP. -/
def timebaseDouble (s : State) (sub : Nat) : State :=
  put (doubleFault { s with clk := { s.clk with offUntilKickoff := true } } .timebase 255 0 3 0x2200 sub) 0x2200 3 0

theorem timebaseFault_second {s : State} (sub : Nat) (h : timebaseAgain s = true) :
    timebaseFault s sub = safestopBy (timebaseDouble (timebaseDown s sub) sub) 0x0C timebaseCause := if_pos h

theorem startRelock_serve_serving {s : State} (h : s.clk.refLost = false) (m : Mech) (n : Nat) (hm : 7 ≤ m.code ∧ m.code ≤ 10) :
    serving (startRelock s .serve) m n = serving s m n := by
  rw [startRelock_eq h, relockSet_serve]
  have hattempt (u : State) : serving (relockAttempt u) m n = serving u m n := serving_congr rfl m n
  have hbump : serving (bump { s with clk := { s.clk with relock := some (relockRecord s .serve) } } 0x2200 6) m n = serving s m n := serving_congr rfl m n
  generalize bump { s with clk := { s.clk with relock := some (relockRecord s .serve) } } 0x2200 6 = u at hbump ⊢
  obtain ⟨held, hgate⟩ := closeGate_clockView u
  rw [hattempt, serving_of_clockView hgate m n hm]
  exact hbump

theorem timebaseFault_serves {s : State} {sub : Nat} (hsub : sub = 7 ∨ sub = 8) (h : s.md.mode ∈ operating) (hlost : s.clk.refLost = false)
    (hfirst : timebaseAgain s = false) :
    let t := timebaseFault s sub
    (t.md.mode = .safestop ∧ t.md.previous = s.md.mode ∧ get t 0x2000 5 = 0x0C ∧ t.pins.safeN = true ∧ t.clk.gateOpen = false ∧
        get t 0x2200 sub = min (get s 0x2200 sub + 1) 65535) ∧
      (∃ r, t.clk.relock = some r ∧ r.occasion = .serve ∧ r.attempt = 1 ∧ r.start = s.time) ∧ get t 0x2200 3 = 1 ∧ serving t .timebase 255 = true := by
  rw [timebaseFault_first sub hfirst]
  obtain ⟨⟨held, hclk⟩, hmd, htime, hcount⟩ := timebaseDown_shows s hsub
  generalize timebaseDown s sub = t at hclk hmd htime hcount ⊢
  have hlog := serveBegin_sameButLog t .timebase 255 0 3 0x2200 sub
  have hserves := serving_serveBegin t .timebase 255 0 3 0x2200 sub
  generalize serveBegin t .timebase 255 0 3 0x2200 sub = u at hlog hserves ⊢
  have humd : u.md = s.md := hlog.md.trans hmd
  obtain hstop := safestopBy_stopsWith (s := u) (by rwa [humd]) timebaseCause (c := 0x0C) (by decide)
  generalize safestopBy u 0x0C timebaseCause = v at hstop ⊢
  have hvclk : v.clk = { s.clk with relock := none, gateOpen := false, heldAt := held } := by rw [hstop.clk, hlog.clk, hclk]
  have hvlost : v.clk.refLost = false := by rw [hvclk]; exact hlost
  obtain ⟨⟨held', hstart⟩, hlock, -, hkeep, -⟩ := startRelock_shows hvlost .serve
  have hmode := modeView_eq_iff.1 (startRelock_modeView v .serve)
  have hserving := (startRelock_serve_serving hvlost .timebase 255 (by decide)).trans ((hstop.serves .timebase 255 (by decide)).trans hserves)
  have hsubkept := hkeep sub (by omega) (by omega) (by omega) (by omega)
  rw [relockSet_serve] at hsubkept
  generalize startRelock v .serve = w at hstart hlock hmode hserving hsubkept
  obtain ⟨hwmd, hwsafe, hwcause⟩ := hmode
  refine ⟨⟨?_, ?_, hwcause.trans hstop.cause, hwsafe.trans hstop.safeN, by rw [hstart], ?_⟩, ⟨relockRecord v .serve, by rw [hstart], rfl, rfl, ?_⟩, hlock,
    hserving⟩
  · rw [hwmd, hstop.mode]
  · rw [hwmd, hstop.previous, humd]
  · rw [hsubkept, hstop.get (by decide) (by decide) (by omega), hlog.get sub rfl, hcount]
  · show v.time = s.time
    rw [hstop.time, hlog.time, htime]

theorem timebaseDouble_shows (s : State) {sub : Nat} (hsub : sub = 7 ∨ sub = 8) :
    (timebaseDouble s sub).clk = { s.clk with offUntilKickoff := true } ∧ (timebaseDouble s sub).md = s.md ∧
      get (timebaseDouble s sub) 0x2200 sub = get s 0x2200 sub ∧ get (timebaseDouble s sub) 0x2200 3 = 0 := by
  have hlog := doubleFault_sameButLog { s with clk := { s.clk with offUntilKickoff := true } } .timebase 255 0 3 0x2200 sub
  unfold timebaseDouble
  generalize doubleFault { s with clk := { s.clk with offUntilKickoff := true } } .timebase 255 0 3 0x2200 sub = t at hlog ⊢
  refine ⟨hlog.clk, hlog.md, ?_, get_put_same _ _ _ rfl⟩
  rw [get_put_other _ _ (by unfold keyOf; omega), hlog.get sub rfl]
  rfl

theorem timebaseFault_ends {s : State} {sub : Nat} (hsub : sub = 7 ∨ sub = 8) (h : s.md.mode ∈ operating) (hagain : timebaseAgain s = true) :
    let t := timebaseFault s sub
    (t.md.mode = .safestop ∧ t.md.previous = s.md.mode ∧ get t 0x2000 5 = 0x0C ∧ t.pins.safeN = true ∧ t.clk.gateOpen = false ∧
        get t 0x2200 sub = min (get s 0x2200 sub + 1) 65535) ∧
      t.clk.offUntilKickoff = true ∧ t.clk.relock = none ∧ get t 0x2200 3 = 0 := by
  rw [timebaseFault_second sub hagain]
  obtain ⟨⟨held, hclk⟩, hmd, -, hcount⟩ := timebaseDown_shows s hsub
  generalize timebaseDown s sub = t at hclk hmd hcount ⊢
  obtain ⟨hdclk, hdmd, hdcount, hdstate⟩ := timebaseDouble_shows t hsub
  generalize timebaseDouble t sub = u at hdclk hdmd hdcount hdstate ⊢
  have humd : u.md = s.md := hdmd.trans hmd
  obtain hstop := safestopBy_stopsWith (s := u) (by rwa [humd]) timebaseCause (c := 0x0C) (by decide)
  generalize safestopBy u 0x0C timebaseCause = v at hstop ⊢
  have hvclk := hstop.clk
  rw [hdclk, hclk] at hvclk
  refine ⟨⟨hstop.mode, by rw [hstop.previous, humd], hstop.cause, hstop.safeN, by rw [hvclk], ?_⟩, by rw [hvclk], by rw [hvclk], ?_⟩
  · rw [hstop.get (by decide) (by decide) (by omega), hdcount, hcount]
  · rw [hstop.get (by decide) (by decide) (by decide), hdstate]

/-! ## The reference (R175) -/

/-- The reference is lost and the fault counted; its second serve is the warm reset. -/
def referenceDown (s : State) : State :=
  let t := closeGate { s with clk := { s.clk with refLost := true, onReference := false } }
  serveBegin (logEvent (sat t 0x2200 0x0B) clsFault 3 255 0x2200 0x0B) .reference 255 0 3 0x2200 0x0B

theorem exec_referenceLoss {s : State} (hw : refWatched s = true) (hlost : s.clk.refLost = false) :
    exec .referenceLoss s = .next (settle (safestopBy (referenceDown s) 0x0C (causeInst .reference 255))) := by
  simp [exec, execReferenceLoss, hw, hlost, done, referenceDown]

theorem referenceDown_shows (s : State) :
    (∃ held, (referenceDown s).clk = { s.clk with refLost := true, onReference := false, gateOpen := false, heldAt := held }) ∧
      (referenceDown s).md = s.md ∧ get (referenceDown s) 0x2200 0x0B = min (get s 0x2200 0x0B + 1) 65535 ∧
      serving (referenceDown s) .reference 255 = true := by
  let u : State := { s with clk := { s.clk with refLost := true, onReference := false } }
  obtain ⟨held, hgate⟩ := closeGate_clk u
  have hmd : (closeGate u).md = s.md := md_of_modeView (closeGate_modeView u)
  have hget : get (closeGate u) 0x2200 0x0B = get s 0x2200 0x0B := closeGate_keeps u (by decide)
  have hdown : referenceDown s = serveBegin (logEvent (sat (closeGate u) 0x2200 0x0B) clsFault 3 255 0x2200 0x0B) .reference 255 0 3 0x2200 0x0B := rfl
  rw [hdown]
  generalize closeGate u = t at hgate hmd hget ⊢
  have hlog := (logEvent_sameButLog (sat t 0x2200 0x0B) clsFault 3 255 0x2200 0x0B).trans
    (serveBegin_sameButLog _ .reference 255 0 3 0x2200 0x0B)
  have hserves := serving_serveBegin (logEvent (sat t 0x2200 0x0B) clsFault 3 255 0x2200 0x0B) .reference 255 0 3 0x2200 0x0B
  generalize serveBegin (logEvent (sat t 0x2200 0x0B) clsFault 3 255 0x2200 0x0B) .reference 255 0 3 0x2200 0x0B = v at hlog hserves ⊢
  refine ⟨⟨held, hlog.clk.trans hgate⟩, hlog.md.trans hmd, ?_, hserves⟩
  rw [hlog.get 0x0B rfl, sat, satBy, get_put_same _ _ _ rfl, hget]
  rfl

theorem cleared_flash (s : State) : (cleared s).flash = s.flash := congrArg PressView.flash (discarded_pressView s)

/-- What a warm reset that the loss of the reference brings leaves (R175, R615). -/
theorem warmReset_clears (s : State) (c : Nat) :
    let t := warmReset s c false
    t.pins.rstLow = true ∧ t.sheets = [] ∧ t.clk = {} ∧ t.time = s.time ∧ t.flash = s.flash := by
  have hsame := clearBlock_sameButLog s c
  have hrst : (clearBlock s c).pins.rstLow = true := congrArg Pins.rstLow hsame.pins
  have hsheets : (clearBlock s c).sheets = [] := hsame.sheets
  have hclk : (clearBlock s c).clk = {} := hsame.clk
  have htime : (clearBlock s c).time = s.time := hsame.time.trans (cleared_time s)
  have hflash : (clearBlock s c).flash = s.flash := hsame.flash.trans (cleared_flash s)
  unfold warmReset
  generalize clearBlock s c = t at *
  simp only [Bool.false_or]
  split
  · rw [kickoffStart_eq rfl]
    exact ⟨rfl, hsheets, hclk, htime, hflash⟩
  · exact ⟨hrst, hsheets, hclk, htime, hflash⟩

/-! ## The station DLLs (R200) -/

/-- The loss of lock, counted: the station's sheets are spilled and the DLL locks again. -/
def dllLost (s : State) (n : Nat) : State := put (sat (spillStation s n) 0x2230 (n + 7)) 0x2230 (n + 1) 1

theorem dllLost_state (s : State) (n : Nat) : get (dllLost s n) 0x2230 (n + 1) = 1 := get_put_same _ _ _ rfl

theorem dllLost_count (s : State) (n : Nat) : get (dllLost s n) 0x2230 (n + 7) = min (get s 0x2230 (n + 7) + 1) 65535 := by
  rw [dllLost, get_put_other _ _ (by unfold keyOf; omega), sat, satBy, get_put_same _ _ _ rfl]
  rfl

theorem exec_dllLockLoss {s : State} {n : Fin 6} (hp : present s n.val = true) (h : get s 0x2230 (n.val + 1) = 2) :
    exec (.dllLockLoss n) s = .next (settle (if servedWithin s .dll n.val (ticksS 1) then dllDouble (dllLost s n.val) n.val
      else serveBegin (dllLost s n.val) .dll n.val 0 3 0x2230 (n.val + 7))) := by
  simp [exec, execDllLockLoss, hp, h, done, dllLost]

theorem serving_serveDrop (s : State) (m : Mech) (n : Nat) : serving (serveDrop s m n) m n = false := by
  have hnone : serveOf (serveDrop s m n) m n = none := by
    rw [serveOf, List.find?_eq_none]
    intro r hr
    simpa [serveDrop] using (List.mem_filter.1 hr).2
  rw [serving, hnone]

/-- A double fault of a DLL is counted and its record ends (R553). -/
theorem doubleFault_dll (s : State) (n code src i j : Nat) :
    serving (doubleFault s .dll n code src i j) .dll n = false ∧
      get (doubleFault s .dll n code src i j) 0x2400 3 = min (get s 0x2400 3 + 1) 65535 := by
  have hview : clockView (doubleFault s .dll n code src i j) = clockView (satLog 16 (serveDrop s .dll n) 0x2400 3) := log_clockView _ _ _ _ _ _ _ _ _
  constructor
  · rw [serving_of_clockView hview _ _ (by decide)]
    exact serving_serveDrop s .dll n
  · rw [doubles_of_clockView hview, satLog, get_putLog_same _ _ _ rfl]
    rfl

theorem dllDouble_stops {s : State} (h : s.md.mode ∈ operating) (n : Nat) :
    StopsWith (doubleFault s .dll n 0 3 0x2230 (n + 7)) 7 (dllDouble s n) :=
  safestopBy_stopsWith (by rwa [(doubleFault_sameButLog s .dll n 0 3 0x2230 (n + 7)).md]) _ (by decide)

/-- Settles O26. -/
theorem clockFaults : Obligations.ClockFaults := by
  refine ⟨fun s => ⟨fun hop hlost => ⟨fun hnone h4 => ⟨fun hfirst => ?_, fun hagain => ?_⟩, fun hgate => ⟨fun hfirst => ?_, fun hagain => ?_⟩⟩,
    fun hop hw hlost => ?_, fun hlost hrun => ?_⟩, fun s n => ⟨fun hp h2 => ⟨fun hwithin => ?_, fun hwithin hop => ?_⟩, fun hserves h1 hop => ?_⟩⟩
  · exact ⟨_, by simp [exec, execCeilingTrip, hlost, hnone, h4, done], timebaseFault_serves (.inr rfl) hop hlost hfirst⟩
  · exact ⟨_, by simp [exec, execCeilingTrip, hlost, hnone, h4, done], timebaseFault_ends (.inr rfl) hop hagain⟩
  · exact ⟨_, by simp [exec, execTimebaseLockLoss, hgate, (ne_of_operating hop).1, done], timebaseFault_serves (.inl rfl) hop hlost hfirst⟩
  · exact ⟨_, by simp [exec, execTimebaseLockLoss, hgate, (ne_of_operating hop).1, done], timebaseFault_ends (.inl rfl) hop hagain⟩
  · refine ⟨_, exec_referenceLoss hw hlost, ?_⟩
    obtain ⟨⟨held, hclk⟩, hmd, hcount, hserves⟩ := referenceDown_shows s
    generalize referenceDown s = t at hclk hmd hcount hserves ⊢
    have hstop := safestopBy_stopsWith (s := t) (by rwa [hmd]) (causeInst .reference 255) (c := 0x0C) (by decide)
    generalize safestopBy t 0x0C (causeInst .reference 255) = u at hstop ⊢
    have huclk := hstop.clk.trans hclk
    refine ⟨⟨hstop.mode, by rw [hstop.previous, hmd], hstop.cause, hstop.safeN, by rw [huclk], ?_⟩, by rw [huclk], by rw [huclk], ?_⟩
    · rw [hstop.get (by decide) (by decide) (by decide), hcount]
    · rw [hstop.serves _ _ (by decide), hserves]
  · refine ⟨warmReset s 0x0C false, by simp [exec, execReferenceLossReset, hlost, hrun, done], ?_⟩
    obtain ⟨hmode, hprev, hcause, -, hsafe⟩ := warmReset_shows s 0x0C
    obtain ⟨hrst, hsheets, hclk, htime, hflash⟩ := warmReset_clears s 0x0C
    exact ⟨hmode, hprev, hcause, hsafe, hrst, hsheets, hclk, htime, by rw [hflash]⟩
  · refine ⟨_, (exec_dllLockLoss hp h2).trans (by rw [if_neg (by simp [hwithin])]), ?_⟩
    have hlog := serveBegin_sameButLog (dllLost s n.val) .dll n.val 0 3 0x2230 (n.val + 7)
    refine ⟨?_, ?_, serving_serveBegin _ _ _ _ _ _ _, hlog.md, hlog.clk⟩
    · rw [hlog.get _ rfl, dllLost_state]
    · rw [hlog.get _ rfl, dllLost_count]
  · refine ⟨_, (exec_dllLockLoss hp h2).trans (by rw [if_pos hwithin]), ?_⟩
    have hstop := dllDouble_stops (s := dllLost s n.val) hop n.val
    refine ⟨hstop.mode, hstop.cause, ?_⟩
    rw [hstop.get (by decide) (by decide) (by omega), (doubleFault_sameButLog _ _ _ _ _ _ _).get _ rfl, dllLost_state]
  · refine ⟨dllDouble s n.val, by simp [exec, execDllRelockTimeout, hserves, h1, done], ?_⟩
    have hstop := dllDouble_stops hop n.val
    obtain ⟨hdone, hcount⟩ := doubleFault_dll s n.val 0 3 0x2230 (n.val + 7)
    exact ⟨hstop.mode, hstop.cause, by rw [hstop.serves _ _ (by decide), hdone], by rw [hstop.doubles, hcount]⟩

end Sys2Proof.Machine

/-! # Frames that arrive and frames that go out (R201 to R254) -/

namespace Sys2Proof.Machine

/-! ## What the ports' traffic changes

A frame that arrives or goes out changes counters and watermarks of its port, its partner's last hearing and overruns, queues, pools and credits; and
a watermark may raise a notice. `FrameIn` says this once. -/

/-- The objects that traffic leaves: all but a port's counters of frames and its watermarks (1110+p:10, :11, :17, :20 on, R239, R243), and what a
partner's record keeps of frames (6000+n:09, :0D). -/
def CalmKey (k : Nat) : Prop :=
  (k < 0x111000 ∨ 0x111700 ≤ k ∨ k % 256 < 0x10 ∨ 0x12 ≤ k % 256 ∧ k % 256 < 0x17 ∨ k % 256 = 0x18) ∧ (k < 0x600000 ∨ k % 256 ≠ 9 ∧ k % 256 ≠ 0x0D)

/-- A port as traffic may leave it. -/
def TrafficPort (x y : Port) : Prop := y = { x with rx := y.rx, tx := y.tx, classical := y.classical, pollOrder := y.pollOrder, pool := y.pool }

theorem TrafficPort.trans {x y z : Port} (h : TrafficPort x y) (k : TrafficPort y z) : TrafficPort x z := by
  unfold TrafficPort at *
  rw [k, h]

theorem calmKey_of_object {i j : Nat} (h : i < 0x1110 ∨ 0x1117 ≤ i ∧ i < 0x6000) (hj : j < 256) : CalmKey (keyOf i j) := by
  unfold CalmKey keyOf
  omega

structure FrameIn (s t : State) : Prop where
  same : t = { s with dict := t.dict, net := t.net, log := t.log, out := t.out }
  net : t.net = { s.net with ports := t.net.ports, credit := t.net.credit, owing := t.net.owing, lineAt := t.net.lineAt, noticeQueue := t.net.noticeQueue }
  ports : ∀ k, TrafficPort (port s k) (port t k)
  calm : ∀ k, CalmKey k → tabFind t.dict k = tabFind s.dict k
  serves : t.log.serves = s.log.serves
  doubles : Machine.get t 0x2400 3 = Machine.get s 0x2400 3

theorem FrameIn.refl (s : State) : FrameIn s s := ⟨rfl, rfl, fun _ => rfl, fun _ _ => rfl, rfl, rfl⟩

theorem FrameIn.trans {s t u : State} (h : FrameIn s t) (k : FrameIn t u) : FrameIn s u := by
  refine ⟨?_, ?_, fun n => ?_, fun key hkey => (k.calm key hkey).trans (h.calm key hkey), k.serves.trans h.serves, k.doubles.trans h.doubles⟩
  · rw [k.same, h.same]
  · rw [k.net, h.net]
  · exact (h.ports n).trans (k.ports n)

theorem FrameIn.get {s t : State} (h : FrameIn s t) {i j : Nat} (hi : isLogIdx i = false) (hk : CalmKey (keyOf i j)) : Machine.get t i j = Machine.get s i j := by
  rw [get_dict _ _ hi, get_dict _ _ hi, h.calm _ hk]

theorem FrameIn.md {s t : State} (h : FrameIn s t) : t.md = s.md := by rw [h.same]
theorem FrameIn.time {s t : State} (h : FrameIn s t) : t.time = s.time := by rw [h.same]
theorem FrameIn.kick {s t : State} (h : FrameIn s t) : t.kick = s.kick := by rw [h.same]
theorem FrameIn.sheets {s t : State} (h : FrameIn s t) : t.sheets = s.sheets := by rw [h.same]
theorem FrameIn.staged {s t : State} (h : FrameIn s t) : t.staged = s.staged := by rw [h.same]
theorem FrameIn.clk {s t : State} (h : FrameIn s t) : t.clk = s.clk := by rw [h.same]
theorem FrameIn.blobs {s t : State} (h : FrameIn s t) : t.blobs = s.blobs := by rw [h.same]
theorem FrameIn.fresh {s t : State} (h : FrameIn s t) : t.fresh = s.fresh := by rw [h.same]
theorem FrameIn.reset {s t : State} (h : FrameIn s t) : t.reset_ = s.reset_ := by rw [h.same]
theorem FrameIn.sessions {s t : State} (h : FrameIn s t) : t.net.sessions = s.net.sessions := by rw [h.net]
theorem FrameIn.transfers {s t : State} (h : FrameIn s t) : t.net.transfers = s.net.transfers := by rw [h.net]
theorem FrameIn.cache {s t : State} (h : FrameIn s t) : t.net.cache = s.net.cache := by rw [h.net]
theorem FrameIn.maps {s t : State} (h : FrameIn s t) : t.net.maps = s.net.maps := by rw [h.net]

theorem frameIn_emit (s : State) (o : Output) : FrameIn s (emit s o) := ⟨rfl, rfl, fun _ => rfl, fun _ _ => rfl, rfl, rfl⟩

theorem frameIn_put (s : State) {i j : Nat} (v : Nat) (h : ∀ k, CalmKey k → k ≠ keyOf i j) : FrameIn s (put s i j v) :=
  ⟨rfl, rfl, fun _ => rfl, fun k hk => tabFind_tabSet_other _ _ (h k hk), rfl, rfl⟩

theorem frameIn_net (s : State) (credit : Tab Int) (owing : List Nat) (line : Option (Nat × Nat)) (q : List (Nat × Nat × Nat)) :
    FrameIn s { s with net := { s.net with credit := credit, owing := owing, lineAt := line, noticeQueue := q } } :=
  ⟨rfl, rfl, fun _ => rfl, fun _ _ => rfl, rfl, rfl⟩

/-- A port's change that traffic may bring. -/
def TrafficOf (f : Port → Port) : Prop := ∀ x, TrafficPort x (f x)

theorem frameIn_setPort (s : State) (n : Nat) {f : Port → Port} (h : TrafficOf f) : FrameIn s (setPort s n f) := by
  refine ⟨rfl, rfl, fun k => ?_, fun _ _ => rfl, rfl, rfl⟩
  by_cases hk : k = n
  · subst hk
    rw [port_setPort_same]
    exact h _
  · rw [port_setPort_other _ _ hk]
    exact rfl

/-- The counters and watermarks of a port that traffic moves. -/
theorem portKey_not_calm {p j : Nat} (hp : p < 7) (hj : j < 256) (h : j = 0x10 ∨ j = 0x11 ∨ j = 0x17 ∨ 0x20 ≤ j) : ∀ k, CalmKey k → k ≠ keyOf (portIdx p) j := by
  rintro k ⟨hport, -⟩ rfl
  unfold keyOf portIdx at hport
  omega

theorem partnerKey_not_calm {n j : Nat} (h : j = 9 ∨ j = 0x0D) : ∀ k, CalmKey k → k ≠ keyOf (partnerIdx n) j := by
  rintro k ⟨-, hpartner⟩ rfl
  unfold keyOf partnerIdx at hpartner
  omega

theorem frameIn_satLog (s : State) (i j w : Nat) (h : keyOf 0x2400 3 ≠ keyOf i j) : FrameIn s (satLog w s i j) :=
  ⟨rfl, rfl, fun _ => rfl, fun _ _ => rfl, rfl, get_putLog_other _ _ h⟩

theorem frameIn_vector (s : State) (f v : Nat) : FrameIn s (vector s f v) := by
  unfold vector
  split
  · exact frameIn_emit _ _
  · exact .refl s

theorem frameIn_notice (s : State) (i j c : Nat) : FrameIn s (notice s i j c) := by
  unfold notice
  extract_lets key known _ t _ u
  have ht : FrameIn s t := by
    simp only [t]
    split
    · exact ⟨rfl, rfl, fun _ => rfl, fun _ _ => rfl, rfl, rfl⟩
    · exact frameIn_satLog _ _ _ _ (by decide)
  have hu : FrameIn s u := ht.trans (frameIn_net t t.net.credit t.net.owing t.net.lineAt _)
  split
  · exact hu.trans (frameIn_vector _ _ _)
  · exact hu

theorem frameIn_noticeAlone (s : State) (i j c : Nat) : FrameIn s (noticeAlone s i j c) := (frameIn_notice s i j c).trans (frameIn_vector _ _ _)

/-- The watermarks of a port (R243). -/
theorem frameIn_watch (high : Bool) (s : State) {p b : Nat} (old v : Nat) (hp : p < 7) (hlow : 0x20 ≤ b) (hhigh : b < 0x80) :
    FrameIn s (watch high s (portIdx p) b old v) := by
  have hput (u : State) {j : Nat} (v : Nat) (hj : 0x20 ≤ j) (hj' : j < 256) : FrameIn u (put u (portIdx p) j v) :=
    frameIn_put u v (portKey_not_calm hp hj' (by omega))
  unfold watch
  extract_lets th ext t u
  have ht : FrameIn s t := (hput _ _ (by omega) (by omega)).trans (hput _ _ (by omega) (by omega))
  have hu : FrameIn s u := ht.trans ((hput _ _ (by omega) (by omega)).trans (hput _ _ (by omega) (by omega)))
  split
  · split
    · exact hu
    · exact hu.trans (frameIn_noticeAlone _ _ _ _)
  · exact ht

theorem vector_ports (s : State) (f v : Nat) : (vector s f v).net.ports = s.net.ports := by
  unfold vector
  split <;> rfl

theorem notice_ports (s : State) (i j c : Nat) : (notice s i j c).net.ports = s.net.ports := by
  unfold notice
  extract_lets key known _ t _ u
  have ht : t.net.ports = s.net.ports := by
    simp only [t]
    split <;> rfl
  split
  · rw [vector_ports]
    exact ht
  · exact ht

theorem watch_ports (high : Bool) (s : State) (i b old v : Nat) : (watch high s i b old v).net.ports = s.net.ports := by
  unfold watch
  extract_lets th ext t u
  split
  · split
    · rfl
    · rw [noticeAlone, vector_ports, notice_ports]
      rfl
  · rfl

theorem watch_port (high : Bool) (s : State) (i b old v k : Nat) : port (watch high s i b old v) k = port s k := by simp [port, watch_ports]

/-! ## Queues -/

theorem setRx_frameIn (s : State) {p : Nat} (l : List (FrameSrc × Pdu)) (hp : p < 7) : FrameIn s (setRx s p l) :=
  (frameIn_setPort s p (f := fun y => { y with rx := l }) fun _ => rfl).trans (frameIn_watch _ _ _ _ hp (by decide) (by decide))

theorem setTx_frameIn (s : State) {p : Nat} (l : List Outgoing) (hp : p < 7) : FrameIn s (setTx s p l) :=
  (frameIn_setPort s p (f := fun y => { y with tx := l }) fun _ => rfl).trans (frameIn_watch _ _ _ _ hp (by decide) (by decide))

theorem port_setRx_same (s : State) (p : Nat) (l : List (FrameSrc × Pdu)) : port (setRx s p l) p = { port s p with rx := l } := by
  rw [setRx, watch_port, port_setPort_same]

theorem port_setRx_other (s : State) {p k : Nat} (l : List (FrameSrc × Pdu)) (h : k ≠ p) : port (setRx s p l) k = port s k := by
  rw [setRx, watch_port, port_setPort_other _ _ h]

theorem debit_frameIn (s : State) (p n ns : Nat) : FrameIn s (debit s p n ns) := by
  unfold debit
  split
  · exact frameIn_net s _ s.net.owing s.net.lineAt s.net.noticeQueue
  · exact frameIn_setPort s p fun _ => rfl

theorem putFrame_frameIn (s : State) (p : Nat) (o : Outgoing) : FrameIn s (putFrame s p o) := by
  unfold putFrame
  split
  next h =>
    have hp : p < 7 := by
      simp only [portEnabled, Bool.and_eq_true, decide_eq_true_eq] at h
      exact h.1.1.1
    exact (frameIn_put s _ (portKey_not_calm hp (by decide) (by simp))).trans (frameIn_emit _ _)
  next => exact .refl s

theorem sendOut_frameIn (s : State) (p : Nat) (o : Outgoing) : FrameIn s (sendOut s p o) := by
  unfold sendOut
  split
  · exact (debit_frameIn s p _ _).trans (putFrame_frameIn _ _ _)
  · exact putFrame_frameIn _ _ _

theorem queueOut_frameIn (s : State) {p : Nat} (o : Outgoing) (hp : p < 7) : FrameIn s (queueOut s p o) := by
  unfold queueOut
  simp only
  split
  · exact sendOut_frameIn _ _ _
  · split
    · exact frameIn_put s _ (portKey_not_calm hp (by decide) (by simp))
    · exact setTx_frameIn _ _ hp

theorem sendAcyclic_frameIn (s : State) {p : Nat} (type dst : Nat) (payload : List Byte) (peer : Option (Nat × Nat)) (hp : p < 7) :
    FrameIn s (sendAcyclic s p type dst payload peer) := queueOut_frameIn s _ hp

theorem srcPort_lt (x : FrameSrc) : x.p < 7 := x.port.isLt

theorem srcNumber_lt (x : FrameSrc) : x.n < 2048 := x.src.isLt

theorem sendTo_frameIn (s : State) (x : FrameSrc) (type : Nat) (payload : List Byte) (h : x.p = 6 → x.auth = none) : FrameIn s (sendTo s x type payload) := by
  unfold sendTo
  split
  · exact sendAcyclic_frameIn s _ _ _ _ (srcPort_lt x)
  next h6 =>
    rw [if_pos (by rw [h (by simpa using h6)]; rfl)]
    exact sendAcyclic_frameIn s _ _ _ _ (by decide)

/-- Traffic that leaves the receive queues. -/
theorem queueOut_rx (s : State) (p : Nat) (o : Outgoing) (k : Nat) : (port (queueOut s p o) k).rx = (port s k).rx := by
  have hput (u : State) : port (putFrame u p o) k = port u k := by
    unfold putFrame
    split <;> rfl
  unfold queueOut
  simp only
  split
  · unfold sendOut
    rw [hput]
    split
    · unfold debit
      split
      · rfl
      · by_cases hk : k = p
        · subst hk
          rw [port_setPort_same]
        · rw [port_setPort_other _ _ hk]
    · rfl
  · split
    · rfl
    · rw [setTx, watch_port]
      by_cases hk : k = p
      · subst hk
        rw [port_setPort_same]
      · rw [port_setPort_other _ _ hk]

/-! ## A frame arrives (R112, R242) -/

theorem acknowledgeCan_frameIn (s : State) (p : Nat) : FrameIn s (acknowledgeCan s p) := by
  unfold acknowledgeCan
  split
  · exact frameIn_emit _ _
  · exact .refl s

theorem pollFirst_frameIn (s : State) (n : Nat) : FrameIn s (pollFirst s n) := by
  unfold pollFirst
  split
  · exact frameIn_setPort s _ fun _ => rfl
  · exact .refl s

theorem heard_frameIn (s : State) (x : FrameSrc) (b : Bool) : FrameIn s (heard s x b) := by
  unfold heard
  extract_lets t u _ v w
  have ht : FrameIn s t := frameIn_put s _ (portKey_not_calm (srcPort_lt x) (by decide) (by simp))
  have hu : FrameIn s u := by
    simp only [u]
    split
    · exact ht.trans (frameIn_setPort t _ fun _ => rfl)
    · exact ht
  have hv : FrameIn s v := by
    simp only [v]
    split
    · exact hu.trans (frameIn_net u u.net.credit u.net.owing _ u.net.noticeQueue)
    · exact hu
  have hw : FrameIn s w := hv.trans (frameIn_put v _ (partnerKey_not_calm (by simp)))
  split
  · exact hv
  · split
    · exact hw.trans (pollFirst_frameIn _ _)
    · exact hw

theorem debitReceived_frameIn (s : State) (x : FrameSrc) (u : Pdu) : FrameIn s (debitReceived s x u) := by
  unfold debitReceived
  extract_lets ns t _ v
  have ht : FrameIn s t := frameIn_put s _ (partnerKey_not_calm (by simp))
  have hv : FrameIn s v := ht.trans (frameIn_net t t.net.credit _ t.net.lineAt t.net.noticeQueue)
  split
  · exact .refl s
  · split
    · split
      · exact hv.trans (debit_frameIn _ _ _ _)
      · exact hv.trans (frameIn_net v _ v.net.owing v.net.lineAt v.net.noticeQueue)
    · exact debit_frameIn _ _ _ _

theorem arrived_frameIn (s : State) (x : FrameSrc) (u : Pdu) : FrameIn s (arrived s x u) := by
  have hheard := (acknowledgeCan_frameIn s x.p).trans (heard_frameIn (acknowledgeCan s x.p) x u.answersRollcall)
  unfold arrived
  simp only
  split
  · exact hheard
  · exact hheard.trans (debitReceived_frameIn _ _ _)

/-- What a frame leaves of the queues before it takes its own place. -/
def SameQueues (s t : State) : Prop := ∀ k, (port t k).rx = (port s k).rx ∧ (port t k).tx = (port s k).tx

theorem SameQueues.trans {s t u : State} (h : SameQueues s t) (k : SameQueues t u) : SameQueues s u := fun n =>
  ⟨(k n).1.trans (h n).1, (k n).2.trans (h n).2⟩

theorem sameQueues_setPort (s : State) (n : Nat) {f : Port → Port} (h : ∀ x, (f x).rx = x.rx ∧ (f x).tx = x.tx) : SameQueues s (setPort s n f) := fun k => by
  by_cases hk : k = n
  · subst hk
    rw [port_setPort_same]
    exact h _
  · rw [port_setPort_other _ _ hk]
    exact ⟨rfl, rfl⟩

theorem sameQueues_of_ports {s t : State} (h : t.net.ports = s.net.ports) : SameQueues s t := fun k => by simp [port, h]

theorem debit_sameQueues (s : State) (p n ns : Nat) : SameQueues s (debit s p n ns) := by
  unfold debit
  split
  · exact sameQueues_of_ports rfl
  · exact sameQueues_setPort s p fun _ => ⟨rfl, rfl⟩

theorem acknowledgeCan_ports (s : State) (p : Nat) : (acknowledgeCan s p).net.ports = s.net.ports := by
  unfold acknowledgeCan
  split <;> rfl

theorem heard_sameQueues (s : State) (x : FrameSrc) (b : Bool) : SameQueues s (heard s x b) := by
  unfold heard
  extract_lets t u _ v w
  have hu : SameQueues s u := by
    simp only [u]
    split
    · exact sameQueues_setPort t _ fun _ => ⟨rfl, rfl⟩
    · exact sameQueues_of_ports rfl
  have hv : SameQueues s v := by
    simp only [v]
    split
    · exact hu.trans (sameQueues_of_ports rfl)
    · exact hu
  have hw : SameQueues s w := hv.trans (sameQueues_of_ports rfl)
  split
  · exact hv
  · split
    · refine hw.trans ?_
      unfold pollFirst
      split
      · exact sameQueues_setPort w _ fun _ => ⟨rfl, rfl⟩
      · exact sameQueues_of_ports rfl
    · exact hw

theorem debitReceived_sameQueues (s : State) (x : FrameSrc) (u : Pdu) : SameQueues s (debitReceived s x u) := by
  unfold debitReceived
  extract_lets ns t _ v
  have hv : SameQueues s v := sameQueues_of_ports rfl
  split
  · exact sameQueues_of_ports rfl
  · split
    · split
      · exact hv.trans (debit_sameQueues _ _ _ _)
      · exact sameQueues_of_ports rfl
    · exact debit_sameQueues _ _ _ _

theorem arrived_sameQueues (s : State) (x : FrameSrc) (u : Pdu) : SameQueues s (arrived s x u) := by
  have hheard := (sameQueues_of_ports (acknowledgeCan_ports s x.p)).trans (heard_sameQueues (acknowledgeCan s x.p) x u.answersRollcall)
  unfold arrived
  simp only
  split
  · exact hheard
  · exact hheard.trans (debitReceived_sameQueues _ _ _)

theorem taken_frameIn (s : State) (x : FrameSrc) (u : Pdu) : FrameIn s (taken s x u) :=
  (arrived_frameIn s x u).trans ((setRx_frameIn _ _ (srcPort_lt x)).trans (setRx_frameIn _ _ (srcPort_lt x)))

theorem taken_rx (s : State) (x : FrameSrc) (u : Pdu) : (port (taken s x u) x.p).rx = [] := by rw [taken, port_setRx_same]

theorem taken_tx (s : State) (x : FrameSrc) (u : Pdu) (k : Nat) : (port (taken s x u) k).tx = (port s k).tx := by
  have harrived := (arrived_sameQueues s x u k).2
  rw [← harrived, taken]
  by_cases hk : k = x.p
  · subst hk
    rw [port_setRx_same, port_setRx_same]
  · rw [port_setRx_other _ _ hk, port_setRx_other _ _ hk]

/-! ## What traffic leaves of ports, modes and sessions -/

section
variable {s t : State} (h : FrameIn s t)
include h

theorem FrameIn.strap (k : Nat) : Machine.strap t k = Machine.strap s k := by simp [Machine.strap, h.kick]

theorem FrameIn.homePort : Machine.homePort t = Machine.homePort s := by simp [Machine.homePort, h.strap]

theorem FrameIn.nodeOnly : Machine.nodeOnly t = Machine.nodeOnly s := by simp [Machine.nodeOnly, h.strap]

theorem FrameIn.uplink : Machine.uplink t = Machine.uplink s := by
  rw [Machine.uplink, Machine.uplink, h.nodeOnly, h.homePort, h.get rfl (calmKey_of_object (by decide) (by decide))]

theorem FrameIn.managed (p : Nat) : Machine.managed t p = Machine.managed s p := by rw [Machine.managed, Machine.managed, h.nodeOnly, h.uplink]

theorem FrameIn.portObject {p j : Nat} (hp : p < 7) (hj : j < 0x10) : Machine.get t (portIdx p) j = Machine.get s (portIdx p) j :=
  h.get (by simp [isLogIdx, portIdx]; omega) ⟨by unfold keyOf portIdx; omega, by unfold keyOf portIdx; omega⟩

theorem FrameIn.step : Machine.get t 0x2020 1 = Machine.get s 0x2020 1 := h.get rfl (calmKey_of_object (by decide) (by decide))

theorem FrameIn.portEnabled (p : Nat) : Machine.portEnabled t p = Machine.portEnabled s p := by
  unfold Machine.portEnabled
  by_cases hp : p < 7
  · have hdead : (port t p).dead = (port s p).dead := by rw [h.ports p]
    rw [flag, flag, h.portObject hp (by decide), hdead, h.nodeOnly, h.homePort]
  · simp [hp]

theorem FrameIn.portAwake (p : Nat) : Machine.portAwake t p = Machine.portAwake s p := by
  unfold Machine.portAwake
  rw [h.md, h.step, h.reset, h.homePort]

theorem FrameIn.portLive (p : Nat) : Machine.portLive t p = Machine.portLive s p := by
  have hrec : (port t p).recovering = (port s p).recovering := by rw [h.ports p]
  rw [Machine.portLive, Machine.portLive, h.portEnabled, h.portAwake, hrec]

theorem FrameIn.servesNow : Machine.serves t = Machine.serves s := by
  unfold Machine.serves
  rw [h.md, h.step]

theorem FrameIn.cyclesRun : Machine.cyclesRun t = Machine.cyclesRun s := by
  unfold Machine.cyclesRun
  rw [h.md, h.step, h.reset]

theorem FrameIn.dikeOn (p : Nat) : Machine.dikeOn t p = Machine.dikeOn s p := by rw [Machine.dikeOn, Machine.dikeOn, h.cyclesRun, h.md, h.managed]

theorem FrameIn.sessionAt (ip udp : Nat) : Machine.sessionAt t ip udp = Machine.sessionAt s ip udp := by rw [Machine.sessionAt, Machine.sessionAt, h.sessions]

theorem FrameIn.partnerState (n : Nat) : Machine.partnerState t n = Machine.partnerState s n :=
  h.get (by simp [isLogIdx, partnerIdx]; omega) ⟨by unfold keyOf partnerIdx; omega, by unfold keyOf partnerIdx; omega⟩

theorem FrameIn.partnerObject (n : Nat) {j : Nat} (hj : j < 256) (h9 : j ≠ 9) (hd : j ≠ 0x0D) : Machine.get t (partnerIdx n) j = Machine.get s (partnerIdx n) j :=
  h.get (by simp [isLogIdx, partnerIdx]; omega) ⟨by unfold keyOf partnerIdx; omega, by unfold keyOf partnerIdx; omega⟩

theorem FrameIn.serving (m : Mech) (n : Nat) : Machine.serving t m n = Machine.serving s m n := serving_congr h.serves m n

end

end Sys2Proof.Machine

/-! # Received frames (R112, R210 to R214, R242, R254) -/

namespace Sys2Proof.Machine

/-! ## Receiving -/

/-- A command that is a received frame receives it. -/
theorem exec_of_pduOf {c : Instr} {x : FrameSrc} {u : Pdu} (h : pduOf c = some (x, u)) (s : State) : exec c s = .next (settle (receive s x u)) := by
  cases c <;> simp only [pduOf, Option.some.injEq, Prod.mk.injEq, reduceCtorEq] at h <;> (obtain ⟨rfl, rfl⟩ := h; rfl)

theorem receive_off {s : State} {x : FrameSrc} (h : portLive s x.p = false) (u : Pdu) : receive s x u = s := by simp [receive, h]

theorem receive_misfit {s : State} {x : FrameSrc} {u : Pdu} (h : portLive s x.p = true) (hfits : fits s x u = false) :
    receive s x u = discardFrame s x.p := by simp [receive, h, hfits]

theorem arrived_rx (s : State) (x : FrameSrc) (u : Pdu) : (port (arrived s x u) x.p).rx = (port s x.p).rx := (arrived_sameQueues s x u x.p).1

theorem receive_fits {s : State} {x : FrameSrc} {u : Pdu} (h : portLive s x.p = true) (hfits : fits s x u = true) :
    receive s x u =
      if 256 ≤ (port s x.p).rx.length then sat (arrived s x u) (portIdx x.p) 0x12
      else if (setRx (arrived s x u) x.p ((port s x.p).rx ++ [(x, u)])).md.mode = .doze then
        beginWake (setRx (arrived s x u) x.p ((port s x.p).rx ++ [(x, u)])) 5
      else drainRx (setRx (arrived s x u) x.p ((port s x.p).rx ++ [(x, u)])) x.p := by
  rw [← arrived_rx s x u]
  simp only [receive, h, hfits, Bool.not_true, Bool.false_eq_true, if_false]
  rfl

theorem receive_full {s : State} {x : FrameSrc} {u : Pdu} (h : portLive s x.p = true) (hfits : fits s x u = true)
    (hfull : 256 ≤ (port s x.p).rx.length) : receive s x u = sat (arrived s x u) (portIdx x.p) 0x12 := by rw [receive_fits h hfits, if_pos hfull]

/-- The frame in its queue. -/
def enqueued (s : State) (x : FrameSrc) (u : Pdu) : State := setRx (arrived s x u) x.p ((port s x.p).rx ++ [(x, u)])

theorem enqueued_frameIn (s : State) (x : FrameSrc) (u : Pdu) : FrameIn s (enqueued s x u) := (arrived_frameIn s x u).trans (setRx_frameIn _ _ (srcPort_lt x))

theorem enqueued_rx (s : State) (x : FrameSrc) (u : Pdu) : (port (enqueued s x u) x.p).rx = (port s x.p).rx ++ [(x, u)] := by
  rw [enqueued, port_setRx_same]

theorem receive_doze {s : State} {x : FrameSrc} {u : Pdu} (h : portLive s x.p = true) (hfits : fits s x u = true)
    (hroom : (port s x.p).rx.length < 256) (hdoze : s.md.mode = .doze) : receive s x u = beginWake (enqueued s x u) 5 := by
  have hmd : (enqueued s x u).md.mode = .doze := by
    rw [(enqueued_frameIn s x u).md]
    exact hdoze
  rw [receive_fits h hfits, if_neg (by omega)]
  exact if_pos hmd

theorem serves_not_doze {s : State} (h : serves s = true) : s.md.mode ≠ .doze := fun e => by simp [serves, e] at h

theorem waits_setRx (s : State) {x : FrameSrc} {u : Pdu} (l : List (FrameSrc × Pdu)) : waits (setRx s x.p l) x u = waits s x u := by
  have hframe := setRx_frameIn s l (srcPort_lt x)
  have howing : (setRx s x.p l).net.owing = s.net.owing := by
    have hnotice (w : State) (i j c : Nat) : (noticeAlone w i j c).net.owing = w.net.owing := by
      have hvec (v : State) (f k : Nat) : (vector v f k).net.owing = v.net.owing := by
        unfold vector
        split <;> rfl
      rw [noticeAlone, hvec]
      unfold notice
      extract_lets key known _ t _ u
      have ht : t.net.owing = w.net.owing := by
        simp only [t]
        split <;> rfl
      split
      · rw [hvec]
        exact ht
      · exact ht
    unfold setRx watch
    extract_lets th ext t v
    split
    · split
      · rfl
      · rw [hnotice]
        rfl
    · rfl
  rw [waits, waits, hframe.dikeOn, howing]

/-- A frame where nothing else waits is the only one that may be served. -/
theorem receive_first {s : State} {x : FrameSrc} {u : Pdu} (h : portLive s x.p = true) (hfits : fits s x u = true) (hserves : serves s = true)
    (hempty : (port s x.p).rx = []) :
    receive s x u =
      if waits (arrived s x u) x u then setRx (setRx (arrived s x u) x.p [(x, u)]) x.p [(x, u)] else serveOne (taken s x u) x 0 u := by
  have hframe := enqueued_frameIn s x u
  have hrx := enqueued_rx s x u
  rw [receive_fits h hfits, if_neg (by rw [hempty]; simp), if_neg]
  · have henq : setRx (arrived s x u) x.p ((port s x.p).rx ++ [(x, u)]) = enqueued s x u := rfl
    rw [henq, drainRx, if_neg (by rw [hframe.servesNow, hframe.portLive, hserves, h]; simp), hrx, hempty]
    have hsingle : enqueued s x u = setRx (arrived s x u) x.p [(x, u)] := by rw [enqueued, hempty]; rfl
    have hwaits : waits (setRx (arrived s x u) x.p [(x, u)]) x u = waits (arrived s x u) x u := waits_setRx _ _
    cases hw : waits (arrived s x u) x u
    · simp only [List.nil_append, List.filter_cons, List.filter_nil, hsingle, hwaits, hw, Bool.not_false, if_true, Bool.false_eq_true, if_false]
      rfl
    · simp only [List.nil_append, List.filter_cons, List.filter_nil, hsingle, hwaits, hw, Bool.not_true, if_true, Bool.false_eq_true, if_false]
      rfl
  · have hmode : (setRx (arrived s x u) x.p ((port s x.p).rx ++ [(x, u)])).md = s.md := hframe.md
    rw [hmode]
    exact serves_not_doze hserves

/-! ## A frame served as it comes -/

/-- Where no session is open at the sender's address nor asked for, the gate passes the frame and nothing ends (R249, R250). -/
theorem authGate_open {s : State} {x : FrameSrc} {u : Pdu} (hnone : sessionAt s x.ip x.udpPort = none)
    (hopen : x.p = 6 → x.auth = none ∧ get s 0x2700 0x20 = 0) : authGate s x u = (s, true) := by
  unfold authGate
  split
  · rfl
  next h6 =>
    obtain ⟨hauth, hflag⟩ := hopen (by simpa using h6)
    simp [hnone, hauth, flag, hflag]

theorem expireSession_none {s : State} {x : FrameSrc} (h : sessionAt s x.ip x.udpPort = none) : expireSession s x = s := by simp [expireSession, h]

theorem receive_servedAtOnce {s : State} {x : FrameSrc} {u : Pdu} (h : ServedAtOnce s x u) :
    receive s x u = expireSession (servePdu (taken s x u) x 0 u) x := by
  obtain ⟨hfits, hlive, hserves, hempty, hwaits, hnone, hopen⟩ := h
  have hframe := taken_frameIn s x u
  rw [receive_first hlive hfits hserves hempty, hwaits, if_neg (by simp), serveOne, authGate_open (by rw [hframe.sessionAt, hnone]) fun h6 =>
    ⟨(hopen h6).1, (hframe.get rfl (calmKey_of_object (by decide) (by decide))).trans (hopen h6).2⟩]
  rfl

theorem ServedAtOnce.auth {s : State} {x : FrameSrc} {u : Pdu} (h : ServedAtOnce s x u) : x.auth = none := by
  obtain ⟨hfits, -, -, -, -, -, hopen⟩ := h
  by_cases h6 : x.p = 6
  · exact (hopen h6).1
  · have hnone : x.auth.isNone = true := by
      simp only [fits, Bool.and_eq_true, Bool.or_eq_true, beq_iff_eq, h6, or_false] at hfits
      exact hfits.1.1
    simpa using hnone

/-- A service that leaves the sessions ends none. -/
theorem completes_served {c : Instr} {s : State} {x : FrameSrc} {u : Pdu} {t : State} {P : State → Prop} (hc : pduOf c = some (x, u))
    (h : ServedAtOnce s x u) (ht : servePdu (taken s x u) x 0 u = t) (hsessions : t.net.sessions = s.net.sessions) (hP : P t) : Completes c s P := by
  refine ⟨t, ?_, hP⟩
  have hnone : sessionAt t x.ip x.udpPort = none := by
    have hs := h.2.2.2.2.2.1
    rw [sessionAt] at hs ⊢
    rw [hsessions, hs]
  rw [exec_of_pduOf hc, receive_servedAtOnce h, ht, expireSession_none hnone]

/-! ## Segments (R213, R214) -/

theorem transferOf_tid {s : State} {x : FrameSrc} {tid : Nat} {b : Bool} {f : Transfer} (h : transferOf s x tid b = some f) : f.tid = tid := by
  have hf := List.find?_some h
  simp only [Bool.and_eq_true, beq_iff_eq] at hf
  exact hf.1.1.2

theorem serveSegment_inOrder {s : State} {x : FrameSrc} {tid seq : Nat} {f : Transfer} {d : List Byte} (hf : transferOf s x tid true = some f)
    (hseq : seq = f.next % 65536) (htotal : f.total ≠ 0xFFFFFFFF) (hlen : f.data.length + d.length ≤ f.total) (hblock : (f.next + 1) % 16 ≠ 0) :
    serveSegment s x tid false seq d = keepTransfer s { f with data := f.data ++ d, next := f.next + 1 } := by
  have hfits : ¬f.total < f.data.length + d.length := by omega
  simp [serveSegment, hf, hseq, takeSegment, htotal, hfits, hblock]

theorem serveSegment_outOfOrder {s : State} {x : FrameSrc} {tid seq : Nat} {last : Bool} {f : Transfer} {d : List Byte}
    (hf : transferOf s x tid true = some f) (hseq : seq ≠ f.next % 65536) :
    serveSegment s x tid last seq d = sendTo s x 7 (ackPayload tid ((f.next + 65535) % 65536)) := by
  simp [serveSegment, hf, hseq, ackOf, transferOf_tid hf]

theorem serveAck_ends {s : State} {x : FrameSrc} {tid seq : Nat} {f : Transfer} (hf : transferOf s x tid false = some f) (hown : f.own = false)
    (hrep : f.repeated = false) (hacked : f.acked < f.next) (hblock : f.next ≤ f.acked + 16) (hlow : f.next ≤ 65535) (hseq : seq = f.next - 1)
    (hcount : segmentCount s f ≤ f.next) : serveAck s x tid seq = dropTransfer s f.src tid false := by
  have hd : (seq + 1 + 65536 - f.acked % 65536) % 65536 = f.next - f.acked := by omega
  have hsum : f.acked + (f.next - f.acked) = f.next := by omega
  simp only [serveAck, hf, hd, hsum, lt_irrefl, if_false]
  rw [if_pos ⟨hcount, by simp [hown]⟩, if_neg (by simp [hrep])]

theorem serveAbort_ends {s : State} {x : FrameSrc} {tid : Nat} :
    ∀ f ∈ (serveAbort s x tid).net.transfers, sameRequester f.src x = true → f.tid ≠ tid := by
  intro f hf hsame htid
  obtain ⟨hf, htrue⟩ := List.mem_filter.1 hf
  obtain ⟨-, hfalse⟩ := List.mem_filter.1 hf
  cases hown : f.own <;> simp [hsame, htid, hown] at htrue hfalse

theorem keepTransfer_sessions (s : State) (f : Transfer) : (keepTransfer s f).net.sessions = s.net.sessions := rfl

theorem dropTransfer_sessions (s : State) (x : FrameSrc) (tid : Nat) (own : Bool) : (dropTransfer s x tid own).net.sessions = s.net.sessions := rfl

/-- Settles O27. -/
theorem framesTaken : Obligations.FramesTaken := by
  refine ⟨fun c x u s hc => ⟨fun hoff => ?_, fun hlive hmis => ?_, fun hlive hfits hfull => ?_, fun hlive hfits hroom hdoze hwake => ?_,
    fun hlive hfits hserves hempty => ⟨fun hnow => ?_, fun hwait => ?_⟩⟩, fun x tid seq d s => ⟨fun f u hu h hf => ⟨fun hseq htotal hlen hblock => ?_,
    fun hseq => ?_⟩, fun f u hu h hf hown hrep hacked hblock hlow hseq hcount => ?_, fun code h => ?_⟩⟩
  · rw [exec_of_pduOf hc, receive_off hoff]
  · rw [exec_of_pduOf hc, receive_misfit hlive hmis]
  · rw [exec_of_pduOf hc, receive_full hlive hfits hfull]
  · refine ⟨beginWake (enqueued s x u) 5, by rw [exec_of_pduOf hc, receive_doze hlive hfits hroom hdoze], ?_⟩
    have hframe := enqueued_frameIn s x u
    have hrx := enqueued_rx s x u
    generalize enqueued s x u = t at hframe hrx
    have hwakes : beginWake t 5 = dozeRailsOn { t with md := { t.md with waking := true, wakeCause := 5 } } := by
      rw [beginWake, if_pos (by rw [hframe.md]; simp [hdoze, hwake])]
    rw [hwakes]
    exact ⟨hrx, by rw [← hframe.md]; rfl, rfl, rfl, hframe.sheets, hframe.clk⟩
  · rw [exec_of_pduOf hc, receive_first hlive hfits hserves hempty, hnow, if_neg (by simp)]
  · refine ⟨setRx (setRx (arrived s x u) x.p [(x, u)]) x.p [(x, u)], by rw [exec_of_pduOf hc, receive_first hlive hfits hserves hempty, hwait, if_pos rfl], ?_⟩
    have hframe := (arrived_frameIn s x u).trans ((setRx_frameIn (arrived s x u) [(x, u)] (srcPort_lt x)).trans (setRx_frameIn _ [(x, u)] (srcPort_lt x)))
    exact ⟨by rw [port_setRx_same], hframe.md, hframe.sheets, hframe.staged, hframe.cache⟩
  · subst hu
    have hsessions := (taken_frameIn s x (.segment tid false seq d)).sessions
    exact completes_served rfl h (serveSegment_inOrder hf hseq htotal hlen hblock) ((keepTransfer_sessions _ _).trans hsessions) rfl
  · subst hu
    refine completes_served rfl h (serveSegment_outOfOrder hf hseq) ?_ rfl
    rw [(sendTo_frameIn (taken s x _) x 7 _ fun _ => h.auth).sessions, (taken_frameIn s x _).sessions]
  · subst hu
    have hsessions := (taken_frameIn s x (.segAck tid seq)).sessions
    exact completes_served rfl h (serveAck_ends hf hown hrep hacked hblock hlow hseq hcount) ((dropTransfer_sessions _ _ _ _).trans hsessions) rfl
  · have hsessions := (taken_frameIn s x (.abort tid code)).sessions
    have hserve : servePdu (taken s x (.abort tid code)) x 0 (.abort tid code) = serveAbort (taken s x (.abort tid code)) x tid := rfl
    exact completes_served rfl h hserve ((dropTransfer_sessions _ _ _ _).trans ((dropTransfer_sessions _ _ _ _).trans hsessions)) ⟨rfl, serveAbort_ends⟩

end Sys2Proof.Machine

/-! # Requests over the field network and their answers (R209, R212 to R217, R223, R243) -/

namespace Sys2Proof.Machine

/-! ## What an entry of the log leaves of the network -/

/-- The network alone. -/
structure NetView where
  net : Net

def netView (s : State) : NetView :=
  ⟨s.net⟩

@[simp] theorem netView_mk (time powered md kick hold reset_ seq rails clk net flash dict blobs staged stagedBlobs stagers armed accs sheets
    nextUid tenants coalescing mem stations trackers slots motors axes loops ains pins diag log heatTicks heatFrom out fresh pending) :
    netView ⟨time, powered, md, kick, hold, reset_, seq, rails, clk, net, flash, dict, blobs, staged, stagedBlobs, stagers, armed, accs, sheets,
    nextUid, tenants, coalescing, mem, stations, trackers, slots, motors, axes, loops, ains, pins, diag, log, heatTicks, heatFrom, out, fresh,
    pending⟩ = ⟨net⟩ := rfl
@[simp] theorem netView_self (s : State) :
    NetView.mk s.net = netView s := rfl

@[simp] theorem ite_netView (c : Prop) [Decidable c] (a b : State) :
    netView (if c then a else b) = if c then netView a else netView b := apply_ite netView c a b
@[simp] theorem ite_netView1 {α : Type} (c : Prop) [Decidable c] (a b : State × α) :
    netView (if c then a else b).1 = if c then netView a.1 else netView b.1 := apply_ite (fun x : State × α => netView x.1) c a b
@[simp] theorem foldl_netView {α : Type} (l : List α) (f : State → α → State) (s : State)
    (h : ∀ u x, netView (f u x) = netView u) :
    netView (l.foldl f s) = netView s := foldl_view netView l f s fun u x _ => h u x
@[simp] theorem forEach_netView (l : List Nat) (f : State → Nat → State) (s : State)
    (h : ∀ u x, netView (f u x) = netView u) :
    netView (forEach l f s) = netView s := foldl_netView l f s h
@[simp] theorem putLog_netView (s : State) (i j v : Nat) : netView (putLog s i j v) = netView s := (rfl)
@[simp] theorem satLog_netView (w : Nat) (s : State) (i j : Nat) : netView (satLog w s i j) = netView s := (rfl)
@[simp] theorem emit_netView (s : State) (o : Output) : netView (emit s o) = netView s := (rfl)

@[simp] theorem vector_netView (s : State) (fn vec : Nat) : netView (vector s fn vec) = netView s := by unfold vector; simp
@[simp] theorem mirrorWrite_netView (s : State) (e : Entry) : netView (mirrorWrite s e) = netView s := by
  unfold mirrorWrite; (repeat' split) <;> simp
@[simp] theorem ringWrite_netView (s : State) (e : Entry) : netView (ringWrite s e) = netView s := by unfold ringWrite; simp
@[simp] theorem classVectors_netView (s : State) (cls : Nat) : netView (classVectors s cls) = netView s := by unfold classVectors; simp
@[simp] theorem logOnly_netView (s : State) (cls kind src inst idx sub : Nat) (serial : Option Nat) (detail : Nat) :
  netView (logOnly s cls kind src inst idx sub serial detail) = netView s := by
  unfold logOnly; simp

theorem frameIn_logOnly (s : State) (cls kind src inst i j : Nat) (ser : Option Nat) (d : Nat) : FrameIn s (logOnly s cls kind src inst i j ser d) := by
  have hsame := logOnly_sameButLog s cls kind src inst i j ser d
  have hnet : (logOnly s cls kind src inst i j ser d).net = s.net := congrArg NetView.net (logOnly_netView s cls kind src inst i j ser d)
  refine ⟨?_, by rw [hnet], fun k => ?_, fun _ _ => by rw [hsame.dict], congrArg ServeList.serves (logOnly_serveList s cls kind src inst i j ser d),
    doubles_of_clockView (logOnly_clockView s cls kind src inst i j ser d)⟩
  · unfold SameButLog at hsame
    rw [hsame]
  · have hport : port (logOnly s cls kind src inst i j ser d) k = port s k := by simp [port, hnet]
    rw [hport]
    exact rfl

theorem frameIn_log (s : State) (cls kind src inst i j : Nat) (ser : Option Nat) (d : Nat) : FrameIn s (log s cls kind src inst i j ser d) := by
  unfold log
  simp only
  split
  · exact (frameIn_logOnly s cls kind src inst i j ser d).trans (frameIn_notice _ _ _ _)
  · exact frameIn_logOnly s cls kind src inst i j ser d

theorem foldl_log_frameIn (l : List Nat) (s : State) : FrameIn s (l.foldl (fun u g => log u clsNotice 1 0x10 255 0x2700 7 none g) s) :=
  foldl_keeps (FrameIn s) l _ s (fun _ _ _ h => h.trans (frameIn_log _ _ _ _ _ _ _ _ _)) (.refl s)

/-! ## A session that ends (R78, R250) -/

/-- Whether a transfer belongs to the peer of a session (log 138). -/
def ofSession (s : State) (id : Nat) (f : Transfer) : Bool :=
  f.src.auth.isSome && s.net.sessions.any fun x => x.id == id && x.ip == f.src.ip && x.udpPort == f.src.udpPort

/-- The stager's hold ends, as records go. -/
def unstaged (s : State) (a : Accessor) : State :=
  let gs := ((s.stagers.filter fun p => p.2 == a).map (·.1)).filter fun g => !s.armed.contains g
  { s with stagers := s.stagers.filter fun p => p.2 != a,
           staged := s.staged.filter (fun q => !gs.contains (groupOf (q.1 / 256))),
           stagedBlobs := s.stagedBlobs.filter fun q => !gs.contains (groupOf (q.1 / 256)) }

theorem releaseStager_frameIn (s : State) (a : Accessor) : FrameIn (unstaged s a) (releaseStager s a) := foldl_log_frameIn _ _

/-- The network as the end of a session leaves it. -/
def sessionGone (s : State) (id : Nat) : State :=
  { s with net := { s.net with sessions := s.net.sessions.filter fun x => x.id != id, transfers := s.net.transfers.filter fun f => !ofSession s id f } }

theorem endSession_eq (s : State) (id : Nat) : endSession s id = dropAcc (releaseStager (sessionGone s id) (.session id)) (.session id) := rfl

theorem endSession_net (s : State) (id : Nat) :
    (endSession s id).net.cache = s.net.cache ∧ (endSession s id).net.sessions = s.net.sessions.filter (fun x => x.id != id) ∧
      (endSession s id).net.transfers = s.net.transfers.filter fun f => !ofSession s id f := by
  have hframe := releaseStager_frameIn (sessionGone s id) (.session id)
  rw [endSession_eq]
  generalize releaseStager (sessionGone s id) (.session id) = t at hframe ⊢
  exact ⟨hframe.cache, hframe.sessions, hframe.transfers⟩

theorem expireSession_cases (s : State) (x : FrameSrc) : expireSession s x = s ∨ ∃ id, expireSession s x = endSession s id := by
  unfold expireSession
  split
  next y _ =>
    split
    · exact .inr ⟨y.id, rfl⟩
    · exact .inl rfl
  next => exact .inl rfl

theorem expireSession_cache (s : State) (x : FrameSrc) : (expireSession s x).net.cache = s.net.cache := by
  rcases expireSession_cases s x with h | ⟨id, h⟩ <;> rw [h]
  exact (endSession_net s id).1

/-! ## Answers (R216) -/

/-- The answer of a request as it is kept. -/
def cachedFor (s : State) (x : FrameSrc) (tid : Nat) (u : Pdu) (type : Nat) (payload : List Byte) : Cached :=
  { src := { x with auth := none }, tid := tid, request := u, type := type, payload := payload, at_ := s.time }

theorem answer_frame {s : State} {x : FrameSrc} (hauth : x.auth = none) (tid : Nat) (u : Pdu) (type : Nat) (payload : List Byte) :
    ∃ keep, FrameIn { s with net := { s.net with cache := cachedFor s x tid u type payload :: keep } } (answer s x tid u type payload) :=
  ⟨_, sendTo_frameIn _ x type payload fun _ => hauth⟩

theorem answer_replied {s : State} {x : FrameSrc} (hauth : x.auth = none) (tid : Nat) (u : Pdu) (type : Nat) (payload : List Byte) :
    Replied (answer s x tid u type payload) x tid u type payload := by
  obtain ⟨keep, hframe⟩ := answer_frame (s := s) hauth tid u type payload
  exact ⟨cachedFor s x tid u type payload, keep, hframe.cache, by simp [sameRequester, cachedFor], rfl, rfl, rfl, rfl⟩

theorem Replied.congr {s t : State} {x : FrameSrc} {tid : Nat} {u : Pdu} {type : Nat} {payload : List Byte} (h : Replied s x tid u type payload)
    (hcache : t.net.cache = s.net.cache) : Replied t x tid u type payload := by
  unfold Replied at *
  rw [hcache]
  exact h

theorem answer_frameIn_rest {s : State} {x : FrameSrc} (hauth : x.auth = none) (tid : Nat) (u : Pdu) (type : Nat) (payload : List Byte) :
    (answer s x tid u type payload).net.transfers = s.net.transfers ∧ (answer s x tid u type payload).net.sessions = s.net.sessions ∧
      (answer s x tid u type payload).md = s.md ∧ (answer s x tid u type payload).sheets = s.sheets := by
  obtain ⟨keep, hframe⟩ := answer_frame (s := s) hauth tid u type payload
  exact ⟨hframe.transfers, hframe.sessions, hframe.md, hframe.sheets⟩

/-! ## Blocks of segments -/

/-- A transfer whose next block has gone out (R213). -/
def sentUp (s : State) (f : Transfer) : Transfer := { f with next := max (min (segmentCount s f) (f.acked + 16)) f.acked, repeated := false }

theorem sendBlock_frame {s : State} {f : Transfer} (hauth : f.src.auth = none) (k : Nat) :
    ∃ t, FrameIn s t ∧ sendBlock s f k = keepTransfer t (sentUp s f) :=
  ⟨_, foldl_keeps (FrameIn s) _ _ s (fun u j _ h => by
    split
    · exact h.trans (sendTo_frameIn _ _ _ _ fun _ => hauth)
    · exact h) (.refl s), rfl⟩

theorem mem_keepTransfer {s : State} {f g : Transfer} (hf : f ∈ s.net.transfers) (hsrc : g.src = f.src) (htid : g.tid = f.tid) (hown : g.own = f.own) :
    g ∈ (keepTransfer s g).net.transfers := by
  refine List.mem_map.2 ⟨f, hf, ?_⟩
  simp [hsrc, htid, hown, sameRequester]

/-! ## Service of requests -/

theorem countServed_net (s : State) (a : Accessor) : (countServed s a).net = s.net := by
  unfold countServed
  split <;> rfl

theorem readEffect_net (s : State) (acc : Accessor) (i j : Nat) : (readEffect s acc i j).net = s.net := by
  have hstore : (store s i j 0).net = s.net := by
    unfold store
    split <;> rfl
  unfold readEffect
  split
  · rfl
  split
  · split <;> rfl
  split
  · rfl
  split
  · split
    · rfl
    · split
      · rfl
      · exact hstore
  · rfl

theorem readDict_net (acc : Accessor) (i j : Nat) (s : State) : (readDict acc i j s).1.net = s.net := by
  unfold readDict
  simp only
  split
  · rfl
  · exact readEffect_net s acc _ j

/-- What a read leaves of the network, before its answer. -/
def readServed (s : State) (x : FrameSrc) (i j : Nat) : State := countServed (readDict (accessorOf s x) i j s).1 (accessorOf s x)

theorem readServed_net (s : State) (x : FrameSrc) (i j : Nat) : (readServed s x i j).net = s.net := by
  rw [readServed, countServed_net, readDict_net]

/-- The transfer of a segmented read (R213). -/
def readTransfer (x : FrameSrc) (tid i j : Nat) (d : List Byte) : Transfer :=
  { src := x, tid := tid, write := false, idx := i, sub := j, total := d.length, data := d }

theorem serveRead_eq (s : State) (x : FrameSrc) (tid i j : Nat) (u : Pdu) :
    let r := readDict (accessorOf s x) i j s
    let t := readServed s x i j
    serveRead s x tid i j u =
      if r.2.1 ≠ 0 then answer t x tid u 2 (readAbort tid r.2.1)
      else if r.2.2.length ≤ expRead x.p (classicalTo s x.p x.n) then answer t x tid u 2 (readExpedited tid r.2.2)
      else
        let w := answer t x tid u 2 (readSegmented tid r.2.2.length)
        sendBlock { w with net := { w.net with transfers := readTransfer x tid i j r.2.2 :: w.net.transfers } } (readTransfer x tid i j r.2.2) 0 := rfl

/-- A read's answer, by its length (R213, R217). -/
theorem serveRead_shows {s : State} {x : FrameSrc} (hauth : x.auth = none) (tid i j : Nat) (u : Pdu) :
    let r := readDict (accessorOf s x) i j s
    let t := serveRead s x tid i j u
    t.net.sessions = s.net.sessions ∧ (r.2.1 ≠ 0 → Replied t x tid u 2 (readAbort tid r.2.1)) ∧
      (r.2.1 = 0 → r.2.2.length ≤ expRead x.p (classicalTo s x.p x.n) → Replied t x tid u 2 (readExpedited tid r.2.2)) ∧
      (r.2.1 = 0 → expRead x.p (classicalTo s x.p x.n) < r.2.2.length → Replied t x tid u 2 (readSegmented tid r.2.2.length) ∧
        ∃ f ∈ t.net.transfers, f.src = x ∧ f.tid = tid ∧ f.data = r.2.2 ∧ f.next ≤ 16) := by
  intro r t
  have ht : t = serveRead s x tid i j u := rfl
  have hr : r = readDict (accessorOf s x) i j s := rfl
  have hnet : (readServed s x i j).net.sessions = s.net.sessions := by rw [readServed_net]
  rw [serveRead_eq, ← hr] at ht
  clear_value t r
  clear hr
  simp only at ht
  generalize readServed s x i j = b at hnet ht
  by_cases hcode : r.2.1 = 0
  · by_cases hlen : r.2.2.length ≤ expRead x.p (classicalTo s x.p x.n)
    · rw [if_neg (by simp [hcode]), if_pos hlen] at ht
      have hsessions := (answer_frameIn_rest (s := b) hauth tid u 2 (readExpedited tid r.2.2)).2.1
      have hreply := answer_replied (s := b) hauth tid u 2 (readExpedited tid r.2.2)
      rw [← ht] at hsessions hreply
      exact ⟨hsessions.trans hnet, fun h => absurd hcode h, fun _ _ => hreply, fun _ h => absurd hlen (by omega)⟩
    · rw [if_neg (by simp [hcode]), if_neg hlen] at ht
      have hsessions := (answer_frameIn_rest (s := b) hauth tid u 2 (readSegmented tid r.2.2.length)).2.1
      have hreply := answer_replied (s := b) hauth tid u 2 (readSegmented tid r.2.2.length)
      generalize answer b x tid u 2 (readSegmented tid r.2.2.length) = w at ht hsessions hreply
      obtain ⟨v, hframe, hblock⟩ := sendBlock_frame
        (s := { w with net := { w.net with transfers := readTransfer x tid i j r.2.2 :: w.net.transfers } }) (f := readTransfer x tid i j r.2.2) hauth 0
      rw [hblock] at ht
      have hvcache : v.net.cache = w.net.cache := hframe.cache
      have hvsessions : v.net.sessions = w.net.sessions := hframe.sessions
      have hvtransfers : readTransfer x tid i j r.2.2 ∈ v.net.transfers := by
        rw [hframe.transfers]
        exact List.mem_cons_self
      have hmem := mem_keepTransfer hvtransfers (g := sentUp { w with net := { w.net with transfers := readTransfer x tid i j r.2.2 :: w.net.transfers } }
        (readTransfer x tid i j r.2.2)) rfl rfl rfl
      refine ⟨?_, fun h => absurd hcode h, fun _ h => absurd h hlen, fun _ _ => ⟨?_, _, ht ▸ hmem, rfl, rfl, rfl, ?_⟩⟩
      · rw [ht, keepTransfer_sessions, hvsessions, hsessions, hnet]
      · rw [ht]
        exact hreply.congr hvcache
      · simp [sentUp, readTransfer]
  · rw [if_pos hcode] at ht
    have hsessions := (answer_frameIn_rest (s := b) hauth tid u 2 (readAbort tid r.2.1)).2.1
    have hreply := answer_replied (s := b) hauth tid u 2 (readAbort tid r.2.1)
    rw [← ht] at hsessions hreply
    exact ⟨hsessions.trans hnet, fun _ => hreply, fun h => absurd h hcode, fun h => absurd h hcode⟩

theorem serveWrite_replied {s : State} {x : FrameSrc} (hauth : x.auth = none) (tid i j : Nat) (d : List Byte) (u : Pdu) :
    Replied (serveWrite s x tid i j d u) x tid u 4 (writeAnswer tid (writeDict (accessorOf s x) i j d s).2) := answer_replied hauth _ _ _ _

/-- A segmented write, opened or refused at its start (R214). -/
theorem serveWriteSeg_shows {s : State} {x : FrameSrc} (hauth : x.auth = none) (tid i j total : Nat) (u : Pdu) :
    let c := startCode s (accessorOf s x) i j total
    let t := serveWriteSeg s x tid i j total u
    t.net.sessions = s.net.sessions ∧ (c ≠ 0 → Replied t x tid u 4 (writeResponse tid 2 c)) ∧
      (c = 0 → Replied t x tid u 4 (writeResponse tid 1 0) ∧
        ∃ f ∈ t.net.transfers, f.src = x ∧ f.tid = tid ∧ f.write = true ∧ f.total = total ∧ f.data = [] ∧ f.next = 0) := by
  intro c t
  by_cases hc : c = 0
  · have ht : t = answer { s with net := { s.net with transfers := { src := x, tid := tid, write := true, idx := i, sub := j, total := total, data := [] } ::
        s.net.transfers } } x tid u 4 (writeResponse tid 1 0) := if_neg (by simpa using hc)
    obtain ⟨htransfers, hsessions, -, -⟩ := answer_frameIn_rest (s := { s with net := { s.net with transfers :=
      { src := x, tid := tid, write := true, idx := i, sub := j, total := total, data := [] } :: s.net.transfers } }) hauth tid u 4 (writeResponse tid 1 0)
    rw [← ht] at htransfers hsessions
    refine ⟨hsessions, fun h => absurd hc h, fun _ => ⟨ht ▸ answer_replied hauth _ _ _ _, ?_⟩⟩
    rw [htransfers]
    exact ⟨_, List.mem_cons_self, rfl, rfl, rfl, rfl, rfl, rfl⟩
  · have ht : t = answer (countServed s (accessorOf s x)) x tid u 4 (writeResponse tid 2 c) := if_pos hc
    have hsessions := (answer_frameIn_rest (s := countServed s (accessorOf s x)) hauth tid u 4 (writeResponse tid 2 c)).2.1
    rw [← ht, countServed_net] at hsessions
    exact ⟨hsessions, fun _ => ht ▸ answer_replied hauth _ _ _ _, fun h => absurd h hc⟩

/-! ## A request as it comes -/

/-- The service of a request that nothing bars. -/
def serviceOf (x : FrameSrc) (u : Pdu) (s : State) : State :=
  match u with
  | .read tid i j => serveRead s x tid i j u
  | .writeExp tid i j d => serveWrite s x tid i j d u
  | .writeSeg tid i j total => serveWriteSeg s x tid i j total u
  | _ => s

theorem servePdu_request {u : Pdu} {tid : Nat} (h : u.requestTid = some tid) (s : State) (x : FrameSrc) (ahead : Nat) :
    servePdu s x ahead u = request s x ahead tid u (serviceOf x u) := by
  cases u <;> simp only [Pdu.requestTid, Option.some.injEq, reduceCtorEq] at h <;> (subst h; rfl)

theorem cachedAnswer_taken (s : State) (x : FrameSrc) (tid : Nat) (u : Pdu) : cachedAnswer (taken s x u) x tid u = cachedAnswer s x tid u := by
  have hframe := taken_frameIn s x u
  generalize taken s x u = t at hframe ⊢
  have hupper : upperTicks t x.p = upperTicks s x.p := by rw [upperTicks, upperTicks, hframe.portObject (srcPort_lt x) (by decide)]
  rw [cachedAnswer, cachedAnswer, hframe.cache, hframe.time, hupper]

theorem request_repeat {s : State} {x : FrameSrc} {tid : Nat} {u : Pdu} {c : Cached} (h : cachedAnswer s x tid u = some c) (ahead : Nat)
    (serve : State → State) : request s x ahead tid u serve = sendTo s x c.type c.payload := by simp [request, h]

theorem request_barred {s : State} {x : FrameSrc} {tid : Nat} {u : Pdu} (h : cachedAnswer s x tid u = none)
    (hbar : barred s x (accessorOf s x) = true) (ahead : Nat) (serve : State → State) :
    request s x ahead tid u serve = answer s x tid u 5 (abortPayload tid 0x0105) := by simp [request, h, hbar]

theorem request_full {s : State} {x : FrameSrc} {tid : Nat} {u : Pdu} (h : cachedAnswer s x tid u = none)
    (hbar : barred s x (accessorOf s x) = false) (hfull : 4 ≤ openOf s x tid ∨ txFull s x.p = true) (serve : State → State) :
    request s x 0 tid u serve = answer s x tid u 5 (abortPayload tid 0x0704) := by simp [request, h, hbar, hfull]

theorem request_free {s : State} {x : FrameSrc} {tid : Nat} {u : Pdu} (h : cachedAnswer s x tid u = none)
    (hbar : barred s x (accessorOf s x) = false) (hopen : openOf s x tid < 4) (hroom : txFull s x.p = false) (serve : State → State) :
    request s x 0 tid u serve = serve (dropTransfer s x tid false) := by
  have hlow : ¬4 ≤ openOf s x tid := by omega
  simp [request, h, hbar, hlow, hroom]

/-- The last obstacle of a request is its partner's state, its transactions, or the transmit queue (R215, R223, R243). -/
def FreeRequest (s : State) (x : FrameSrc) (tid : Nat) (u : Pdu) : Prop :=
  (ServedAtOnce s x u ∧ cachedAnswer s x tid u = none) ∧ barred (taken s x u) x (accessorOf (taken s x u) x) = false ∧
    openOf (taken s x u) x tid < 4 ∧ txFull (taken s x u) x.p = false

/-- A request that nothing bars is served on the state without its own old transfer. -/
def requestBase (s : State) (x : FrameSrc) (tid : Nat) (u : Pdu) : State := dropTransfer (taken s x u) x tid false

theorem requestBase_sessions (s : State) (x : FrameSrc) (tid : Nat) (u : Pdu) : (requestBase s x tid u).net.sessions = s.net.sessions :=
  (dropTransfer_sessions _ _ _ _).trans (taken_frameIn s x u).sessions

theorem servePdu_free {s : State} {x : FrameSrc} {tid : Nat} {u : Pdu} (hu : u.requestTid = some tid) (h : FreeRequest s x tid u) :
    servePdu (taken s x u) x 0 u = serviceOf x u (requestBase s x tid u) := by
  obtain ⟨⟨-, hcache⟩, hbar, hopen, hroom⟩ := h
  rw [servePdu_request hu, request_free (by rw [cachedAnswer_taken, hcache]) hbar hopen hroom]
  rfl

/-! ## A repeat of a request (R216) -/

theorem sendTo_unauth {s : State} {x : FrameSrc} (hauth : x.auth = none) (type : Nat) (payload : List Byte) :
    ∃ peer, sendTo s x type payload = sendAcyclic s x.p type x.n payload peer := by
  unfold sendTo
  split
  · exact ⟨none, rfl⟩
  next h6 =>
    have h6' : x.p = 6 := by simpa using h6
    rw [if_pos (by rw [hauth]; rfl), h6']
    exact ⟨_, rfl⟩

/-- Where no dike holds and nothing waits, a frame goes out at once (R243). -/
theorem queueOut_now {s : State} {p : Nat} (hdike : dikeOn s p = false) (hempty : (port s p).tx = []) (o : Outgoing) : queueOut s p o = putFrame s p o := by
  simp [queueOut, covers, hdike, hempty, sendOut]

theorem putFrame_sent {s : State} {p : Nat} (h : portEnabled s p = true) (o : Outgoing) : Sent (putFrame s p o) p o.type o.dst o.payload := by
  rw [putFrame, if_pos h]
  exact ⟨_, _, rfl⟩

theorem putFrame_keepsObjects {ks : List Nat} {p : Nat} (s : State) (o : Outgoing) (h : keyOf (portIdx p) 0x11 ∈ ks) : KeepsObjects ks s (putFrame s p o) := by
  unfold putFrame
  split
  · exact keepsObjects_trans (keepsObjects_put s _ _ _ h) (keepsObjects_of_dict_eq rfl)
  · exact keepsObjects_of_dict_eq rfl

theorem watch_keepsObjects {ks : List Nat} (high : Bool) (s : State) {i b : Nat} (old v : Nat) (h : ∀ j, b ≤ j → j ≤ b + 3 → keyOf i j ∈ ks) :
    KeepsObjects ks s (watch high s i b old v) := by
  unfold watch
  extract_lets th ext t u
  have ht : KeepsObjects ks s t :=
    keepsObjects_trans (keepsObjects_put s _ _ _ (h _ (by omega) (by omega))) (keepsObjects_put _ _ _ _ (h _ (by omega) (by omega)))
  have hu : KeepsObjects ks s u := keepsObjects_trans ht
    (keepsObjects_trans (keepsObjects_put t _ _ _ (h _ (by omega) (by omega))) (keepsObjects_put _ _ _ _ (h _ (by omega) (by omega))))
  split
  · split
    · exact hu
    · exact keepsObjects_trans hu ((noticeAlone_sameButLog _ _ _ _).keepsObjects _)
  · exact ht

/-- The objects that a frame moves where no dike holds: its port's counters and the watermark of the receive queue, its partner's last hearing. -/
def frameKeys (x : FrameSrc) : List Nat :=
  [keyOf (portIdx x.p) 0x10, keyOf (portIdx x.p) 0x11, keyOf (portIdx x.p) 0x20, keyOf (portIdx x.p) 0x21, keyOf (portIdx x.p) 0x22,
    keyOf (portIdx x.p) 0x23, keyOf (partnerIdx x.n) 9]

theorem setRx_keepsObjects (s : State) (x : FrameSrc) (l : List (FrameSrc × Pdu)) : KeepsObjects (frameKeys x) s (setRx s x.p l) :=
  keepsObjects_trans (keepsObjects_of_dict_eq rfl) (watch_keepsObjects _ _ _ _ fun j hlow hhigh => by
    interval_cases j <;> simp [frameKeys])

theorem heard_keepsObjects (s : State) (x : FrameSrc) (b : Bool) : KeepsObjects (frameKeys x) s (heard s x b) := by
  unfold heard
  extract_lets t u _ v w
  have ht : KeepsObjects (frameKeys x) s t := keepsObjects_put s _ _ _ (by simp [frameKeys])
  have hu : KeepsObjects (frameKeys x) s u := by
    refine keepsObjects_trans ht (keepsObjects_of_dict_eq ?_)
    simp only [u]
    split <;> rfl
  have hv : KeepsObjects (frameKeys x) s v := by
    refine keepsObjects_trans hu (keepsObjects_of_dict_eq ?_)
    simp only [v]
    split <;> rfl
  have hw : KeepsObjects (frameKeys x) s w := keepsObjects_trans hv (keepsObjects_put v _ _ _ (by simp [frameKeys]))
  split
  · exact hv
  · split
    · refine keepsObjects_trans hw (keepsObjects_of_dict_eq ?_)
      unfold pollFirst
      split <;> rfl
    · exact hw

theorem arrived_keepsObjects {s : State} {x : FrameSrc} (hdike : dikeOn s x.p = false) (u : Pdu) : KeepsObjects (frameKeys x) s (arrived s x u) := by
  have hframe := (acknowledgeCan_frameIn s x.p).trans (heard_frameIn (acknowledgeCan s x.p) x u.answersRollcall)
  have hack : KeepsObjects (frameKeys x) s (acknowledgeCan s x.p) := keepsObjects_of_dict_eq (by unfold acknowledgeCan; split <;> rfl)
  have hheard := keepsObjects_trans hack (heard_keepsObjects (acknowledgeCan s x.p) x u.answersRollcall)
  unfold arrived
  simp only
  generalize heard (acknowledgeCan s x.p) x u.answersRollcall = t at hframe hheard ⊢
  split
  · exact hheard
  · rw [debitReceived, hframe.dikeOn, hdike]
    exact hheard

theorem taken_keepsObjects {s : State} {x : FrameSrc} (hdike : dikeOn s x.p = false) (u : Pdu) : KeepsObjects (frameKeys x) s (taken s x u) :=
  keepsObjects_trans (arrived_keepsObjects hdike u) (keepsObjects_trans (setRx_keepsObjects _ x _) (setRx_keepsObjects _ x _))

/-- A kept answer that goes out again. -/
theorem repeat_shows {s : State} {x : FrameSrc} {u : Pdu} (h : ServedAtOnce s x u) (hdike : dikeOn s x.p = false) (hempty : (port s x.p).tx = [])
    (type : Nat) (payload : List Byte) :
    let t := sendTo (taken s x u) x type payload
    FrameIn s t ∧ Sent t x.p type x.n payload ∧ KeepsObjects (frameKeys x) s t := by
  have hframe := taken_frameIn s x u
  have hkeys := taken_keepsObjects hdike u
  have htx := taken_tx s x u x.p
  have henabled : portEnabled s x.p = true := by
    have hlive := h.2.1
    simp only [portLive, Bool.and_eq_true] at hlive
    exact hlive.1.1
  generalize taken s x u = b at hframe hkeys htx ⊢
  obtain ⟨peer, hsend⟩ := sendTo_unauth (s := b) h.auth type payload
  have hall := hframe.trans (sendTo_frameIn b x type payload fun _ => h.auth)
  rw [hsend, sendAcyclic, queueOut_now (by rw [hframe.dikeOn, hdike]) (by rw [htx, hempty])] at hall ⊢
  exact ⟨hall, putFrame_sent (by rw [hframe.portEnabled, henabled]) _, keepsObjects_trans hkeys (putFrame_keepsObjects b _ (by simp [frameKeys]))⟩

/-- Settles O28. -/
theorem requestsAnswered : Obligations.RequestsAnswered := by
  intro x tid idx sub total d s
  refine ⟨fun h => ?_, fun h => ?_, fun h => ?_, fun u c hc hu => ⟨fun hfresh hbar => ?_, fun hfresh hbar hfull => ?_⟩,
    fun k u c hc hu h hdike hempty hk => ?_⟩
  · have hserved : ServedAtOnce s x (.read tid idx sub) := h.1.1
    obtain ⟨hsessions, hshows⟩ := serveRead_shows (s := requestBase s x tid (.read tid idx sub)) hserved.auth tid idx sub (.read tid idx sub)
    exact completes_served rfl hserved (servePdu_free rfl h) (hsessions.trans (requestBase_sessions s x tid _)) hshows
  · have hserved : ServedAtOnce s x (.writeExp tid idx sub d) := h.1.1
    refine ⟨expireSession (serveWrite (requestBase s x tid (.writeExp tid idx sub d)) x tid idx sub d (.writeExp tid idx sub d)) x, ?_, ?_⟩
    · rw [exec_of_pduOf rfl, receive_servedAtOnce hserved, servePdu_free rfl h]
      rfl
    · exact (serveWrite_replied hserved.auth tid idx sub d _).congr (expireSession_cache _ x)
  · have hserved : ServedAtOnce s x (.writeSeg tid idx sub total) := h.1.1
    obtain ⟨hsessions, hshows⟩ := serveWriteSeg_shows (s := requestBase s x tid (.writeSeg tid idx sub total)) hserved.auth tid idx sub total
      (.writeSeg tid idx sub total)
    exact completes_served rfl hserved (servePdu_free rfl h) (hsessions.trans (requestBase_sessions s x tid _)) hshows
  · obtain ⟨h, hcache⟩ := hfresh
    have hframe := taken_frameIn s x u
    have hserve : servePdu (taken s x u) x 0 u = answer (taken s x u) x tid u 5 (abortPayload tid 0x0105) := by
      rw [servePdu_request hu, request_barred (by rw [cachedAnswer_taken, hcache]) hbar]
    obtain ⟨-, hsessions, hmd, hsheets⟩ := answer_frameIn_rest (s := taken s x u) h.auth tid u 5 (abortPayload tid 0x0105)
    exact completes_served hc h hserve (hsessions.trans hframe.sessions)
      ⟨answer_replied h.auth _ _ _ _, hsheets.trans hframe.sheets, hmd.trans hframe.md⟩
  · obtain ⟨h, hcache⟩ := hfresh
    have hserve : servePdu (taken s x u) x 0 u = answer (taken s x u) x tid u 5 (abortPayload tid 0x0704) := by
      rw [servePdu_request hu, request_full (by rw [cachedAnswer_taken, hcache]) hbar hfull]
    have hsessions := (answer_frameIn_rest (s := taken s x u) h.auth tid u 5 (abortPayload tid 0x0704)).2.1
    exact completes_served hc h hserve (hsessions.trans (taken_frameIn s x u).sessions) (answer_replied h.auth _ _ _ _)
  · have hserve : servePdu (taken s x u) x 0 u = sendTo (taken s x u) x k.type k.payload := by
      rw [servePdu_request hu, request_repeat (by rw [cachedAnswer_taken, hk])]
    obtain ⟨hframe, hsent, hkeys⟩ := repeat_shows h hdike hempty k.type k.payload
    exact completes_served hc h hserve hframe.sessions ⟨hsent, hframe.cache, hframe.md, hframe.sheets, hframe.staged, hkeys⟩

end Sys2Proof.Machine

/-! # Supervisor events and the junction temperature (R559, R560, R593 to R598) -/

namespace Sys2Proof.Machine

/-- The SAFETY count and kind (2400:08, :09), as the log block has them. -/
def safetyRecord (d : Tab Nat) : Option Nat × Option Nat := (tabFind d (keyOf 0x2400 8), tabFind d (keyOf 0x2400 9))

/-- What the log block has of the supervisor's SAFETY events. -/
structure SafetyView where
  safetyRecord : Option Nat × Option Nat

def safetyView (s : State) : SafetyView :=
  ⟨(safetyRecord s.log.dict)⟩

@[simp] theorem safetyView_mk (time powered md kick hold reset_ seq rails clk net flash dict blobs staged stagedBlobs stagers armed accs sheets
    nextUid tenants coalescing mem stations trackers slots motors axes loops ains pins diag log heatTicks heatFrom out fresh pending) :
    safetyView ⟨time, powered, md, kick, hold, reset_, seq, rails, clk, net, flash, dict, blobs, staged, stagedBlobs, stagers, armed, accs,
    sheets, nextUid, tenants, coalescing, mem, stations, trackers, slots, motors, axes, loops, ains, pins, diag, log, heatTicks, heatFrom, out,
    fresh, pending⟩ = ⟨(safetyRecord log.dict)⟩ := rfl
@[simp] theorem safetyView_self (s : State) :
    SafetyView.mk (safetyRecord s.log.dict) = safetyView s := rfl

@[simp] theorem ite_safetyView (c : Prop) [Decidable c] (a b : State) :
    safetyView (if c then a else b) = if c then safetyView a else safetyView b := apply_ite safetyView c a b
@[simp] theorem ite_safetyView1 {α : Type} (c : Prop) [Decidable c] (a b : State × α) :
    safetyView (if c then a else b).1 = if c then safetyView a.1 else safetyView b.1 := apply_ite (fun x : State × α => safetyView x.1) c a b
@[simp] theorem foldl_safetyView {α : Type} (l : List α) (f : State → α → State) (s : State)
    (h : ∀ u x, safetyView (f u x) = safetyView u) :
    safetyView (l.foldl f s) = safetyView s := foldl_view safetyView l f s fun u x _ => h u x
@[simp] theorem forEach_safetyView (l : List Nat) (f : State → Nat → State) (s : State)
    (h : ∀ u x, safetyView (f u x) = safetyView u) :
    safetyView (forEach l f s) = safetyView s := foldl_safetyView l f s h
@[simp] theorem put_safetyView (s : State) (i j v : Nat) : safetyView (put s i j v) = safetyView s := (rfl)
@[simp] theorem putS_safetyView (s : State) (w i j : Nat) (v : Int) : safetyView (putS s w i j v) = safetyView s := (rfl)
@[simp] theorem wrapBy_safetyView (w : Nat) (s : State) (i j n : Nat) : safetyView (wrapBy w s i j n) = safetyView s := (rfl)
@[simp] theorem satBy_safetyView (w : Nat) (s : State) (i j n : Nat) : safetyView (satBy w s i j n) = safetyView s := (rfl)
@[simp] theorem bump_safetyView (s : State) (i j : Nat) : safetyView (bump s i j) = safetyView s := (rfl)
@[simp] theorem sat_safetyView (s : State) (i j : Nat) : safetyView (sat s i j) = safetyView s := (rfl)
@[simp] theorem emit_safetyView (s : State) (o : Output) : safetyView (emit s o) = safetyView s := (rfl)
@[simp] theorem setStation_safetyView (s : State) (n : Nat) (f : Station → Station) : safetyView (setStation s n f) = safetyView s := (rfl)
@[simp] theorem setTracker_safetyView (s : State) (n : Nat) (f : Tracker → Tracker) : safetyView (setTracker s n f) = safetyView s := (rfl)
@[simp] theorem setMotor_safetyView (s : State) (n : Nat) (f : Motor → Motor) : safetyView (setMotor s n f) = safetyView s := (rfl)
@[simp] theorem setAxis_safetyView (s : State) (n : Nat) (f : Axis → Axis) : safetyView (setAxis s n f) = safetyView s := (rfl)
@[simp] theorem setLoop_safetyView (s : State) (n : Nat) (f : Loop → Loop) : safetyView (setLoop s n f) = safetyView s := (rfl)
@[simp] theorem modSheet_safetyView (s : State) (uid : Nat) (f : Sheet → Sheet) : safetyView (modSheet s uid f) = safetyView s := (rfl)
theorem putLog_safetyView_of (s : State) (i j v : Nat) (h : i * 256 + j ≠ 0x240008 ∧ i * 256 + j ≠ 0x240009) : safetyView (putLog s i j v) = safetyView s := by
  have hd : safetyRecord (putLog s i j v).log.dict = safetyRecord s.log.dict :=
    congrArg₂ Prod.mk (tabFind_tabSet_other s.log.dict v fun e => h.1 e.symm) (tabFind_tabSet_other s.log.dict v fun e => h.2 e.symm)
  simp only [safetyView, hd]
@[simp] theorem putLog_safetyView (s : State) (i j v : Nat) (h : i * 256 + j ≠ 0x240008 ∧ i * 256 + j ≠ 0x240009) :
    safetyView (putLog s i j v) = safetyView s := putLog_safetyView_of s i j v h
@[simp] theorem satLog_safetyView (w : Nat) (s : State) (i j : Nat) (h : i * 256 + j ≠ 0x240008 ∧ i * 256 + j ≠ 0x240009) :
    safetyView (satLog w s i j) = safetyView s := putLog_safetyView_of s i j _ h
@[simp] theorem wrapLog_safetyView (w : Nat) (s : State) (i j : Nat) (h : i * 256 + j ≠ 0x240008 ∧ i * 256 + j ≠ 0x240009) :
    safetyView (wrapLog w s i j) = safetyView s := putLog_safetyView_of s i j _ h

@[simp] theorem holdTime_safetyView (s : State) : safetyView (holdTime s) = safetyView s := (rfl)
@[simp] theorem vector_safetyView (s : State) (fn vec : Nat) : safetyView (vector s fn vec) = safetyView s := by unfold vector; simp
@[simp] theorem mirrorWrite_safetyView (s : State) (e : Entry) : safetyView (mirrorWrite s e) = safetyView s := by
  unfold mirrorWrite
  split
  · rfl
  · split
    next l hl =>
      have hkept : l.dict = s.log.dict := by
        split at hl
        · exact mirrorPlace_dict hl
        · simp at hl
      simp [hkept]
    · simp
@[simp] theorem ringWrite_safetyView (s : State) (e : Entry) : safetyView (ringWrite s e) = safetyView s := by unfold ringWrite; simp
@[simp] theorem notice_safetyView (s : State) (idx sub cls : Nat) : safetyView (notice s idx sub cls) = safetyView s := by unfold notice; simp
@[simp] theorem noticeAlone_safetyView (s : State) (idx sub cls : Nat) : safetyView (noticeAlone s idx sub cls) = safetyView s := by
  unfold noticeAlone; simp
@[simp] theorem classVectors_safetyView (s : State) (cls : Nat) : safetyView (classVectors s cls) = safetyView s := by unfold classVectors; simp
@[simp] theorem logOnly_safetyView (s : State) (cls kind src inst idx sub : Nat) (serial : Option Nat) (detail : Nat) :
  safetyView (logOnly s cls kind src inst idx sub serial detail) = safetyView s := by
  unfold logOnly; simp
@[simp] theorem log_safetyView (s : State) (cls kind src inst idx sub : Nat) (serial : Option Nat) (detail : Nat) :
  safetyView (log s cls kind src inst idx sub serial detail) = safetyView s := by
  unfold log; simp
@[simp] theorem logEvent_safetyView (s : State) (cls src inst idx sub : Nat) : safetyView (logEvent s cls src inst idx sub) = safetyView s := by
  unfold logEvent; simp
@[simp] theorem serveDrop_safetyView (s : State) (m : Mech) (inst : Nat) : safetyView (serveDrop s m inst) = safetyView s := (rfl)
@[simp] theorem doubleFaultAs_safetyView (cls : Nat) (s : State) (m : Mech) (inst code src idx sub : Nat) :
  safetyView (doubleFaultAs cls s m inst code src idx sub) = safetyView s := by
  unfold doubleFaultAs; simp
@[simp] theorem doubleFault_safetyView (s : State) (m : Mech) (inst code src idx sub : Nat) :
  safetyView (doubleFault s m inst code src idx sub) = safetyView s := by
  unfold doubleFault; simp
@[simp] theorem serveCancel_safetyView (s : State) (m : Mech) (inst src idx sub : Nat) : safetyView (serveCancel s m inst src idx sub) =
    safetyView s := by
  unfold serveCancel; split <;> simp
@[simp] theorem watch_safetyView (high : Bool) (s : State) (idx sub old v : Nat) : safetyView (watch high s idx sub old v) = safetyView s := by
  unfold watch; simp
@[simp] theorem causeAdd_safetyView (s : State) (c inst : Nat) : safetyView (causeAdd s c inst) = safetyView s := by unfold causeAdd; simp
@[simp] theorem causeEnd_safetyView (s : State) (c inst : Nat) : safetyView (causeEnd s c inst) = safetyView s := by unfold causeEnd; simp
@[simp] theorem setSlots_safetyView (s : State) (l : Tab Event) : safetyView (setSlots s l) = safetyView s := by unfold setSlots; simp
@[simp] theorem dropEvents_safetyView (s : State) (p : Event → Bool) : safetyView (dropEvents s p) = safetyView s := by unfold dropEvents; simp
@[simp] theorem overtaken_safetyView (s : State) (uid : Nat) : safetyView (overtaken s uid) = safetyView s := (rfl)
@[simp] theorem setMotorState_safetyView (s : State) (m v : Nat) : safetyView (setMotorState s m v) = safetyView s := (rfl)
@[simp] theorem gatesOff_safetyView (s : State) (m : Nat) : safetyView (gatesOff s m) = safetyView s := (rfl)
@[simp] theorem brakeMotor_safetyView (s : State) (m : Nat) : safetyView (brakeMotor s m) = safetyView s := by unfold brakeMotor; simp
@[simp] theorem setHomed_safetyView (s : State) (a : Nat) (b : Bool) : safetyView (setHomed s a b) = safetyView s := (rfl)
@[simp] theorem settlePosition_safetyView (s : State) (a : Nat) (pos : Int) (steps : Nat) : safetyView (settlePosition s a pos steps) =
    safetyView s := (rfl)
@[simp] theorem hardStop_safetyView (s : State) (a : Nat) : safetyView (hardStop s a) = safetyView s := by
  unfold hardStop; simp only; (repeat' split) <;> simp
@[simp] theorem safestopAxis_safetyView (s : State) (a : Nat) : safetyView (safestopAxis s a) = safetyView s := by unfold safestopAxis; simp
@[simp] theorem outputOff_safetyView (s : State) (n : Nat) : safetyView (outputOff s n) = safetyView s := by unfold outputOff; simp
@[simp] theorem loopOffNow_safetyView (s : State) (n : Nat) : safetyView (loopOffNow s n) = safetyView s := by unfold loopOffNow; simp
@[simp] theorem safestopLoop_safetyView (s : State) (n : Nat) : safetyView (safestopLoop s n) = safetyView s := by unfold safestopLoop; simp
@[simp] theorem restLanes_safetyView (s : State) (n : Nat) : safetyView (restLanes s n) = safetyView s := (rfl)
@[simp] theorem updateFreeboard_safetyView (s : State) (n : Nat) : safetyView (updateFreeboard s n) = safetyView s := by
  unfold updateFreeboard; simp
@[simp] theorem setDecoder_safetyView (s : State) (n v : Nat) : safetyView (setDecoder s n v) = safetyView s := (rfl)
@[simp] theorem refill_safetyView (s : State) (n : Nat) : safetyView (refill s n) = safetyView s := by unfold refill; simp
@[simp] theorem dropPlane_safetyView (s : State) (n state : Nat) : safetyView (dropPlane s n state) = safetyView s := (rfl)
@[simp] theorem discardData_safetyView (s : State) (n uid : Nat) : safetyView (discardData s n uid) = safetyView s := (rfl)
@[simp] theorem emptyFifo_safetyView (s : State) (n : Nat) : safetyView (emptyFifo s n) = safetyView s := by unfold emptyFifo; simp
@[simp] theorem stopRaster_safetyView (s : State) (n : Nat) : safetyView (stopRaster s n) = safetyView s := by unfold stopRaster; simp
@[simp] theorem forgetAt_safetyView (s : State) (uid n : Nat) : safetyView (forgetAt s uid n) = safetyView s := by unfold forgetAt; simp
@[simp] theorem forgetRaster_safetyView (s : State) (uid : Nat) : safetyView (forgetRaster s uid) = safetyView s := by unfold forgetRaster; simp
@[simp] theorem withdrawOne_safetyView (s : State) (uid : Nat) : safetyView (withdrawOne s uid) = safetyView s := by unfold withdrawOne; simp
@[simp] theorem phaseLost_safetyView (s : State) (k : Nat) : safetyView (phaseLost s k) = safetyView s := by unfold phaseLost; simp
@[simp] theorem holdOff_safetyView (s : State) (k : Nat) : safetyView (holdOff s k) = safetyView s := by unfold holdOff; simp
@[simp] theorem holdUnlit_safetyView (s : State) : safetyView (holdUnlit s) = safetyView s := by unfold holdUnlit; simp
@[simp] theorem dropCorrections_safetyView (s : State) (n : Nat) : safetyView (dropCorrections s n) = safetyView s := (rfl)
@[simp] theorem merged_safetyView (s : State) (g : Nat) : safetyView (merged s g) = safetyView s := (rfl)
@[simp] theorem dropStaged_safetyView (s : State) (g : Nat) : safetyView (dropStaged s g) = safetyView s := (rfl)
@[simp] theorem copyGroup_safetyView (s : State) (g : Nat) : safetyView (copyGroup s g) = safetyView s := (rfl)
@[simp] theorem rejectGroup_safetyView (s : State) (g : Nat) : safetyView (rejectGroup s g) = safetyView s := by unfold rejectGroup; simp
@[simp] theorem setDlls_safetyView (s : State) (v : Nat) : safetyView (setDlls s v) = safetyView s := by unfold setDlls; simp
@[simp] theorem closeGate_safetyView (s : State) : safetyView (closeGate s) = safetyView s := by unfold closeGate; simp
@[simp] theorem relockAttempt_safetyView (s : State) : safetyView (relockAttempt s) = safetyView s := (rfl)
@[simp] theorem startRelock_safetyView (s : State) (occ : Occasion) : safetyView (startRelock s occ) = safetyView s := by unfold startRelock; simp
@[simp] theorem recordMode_safetyView (s : State) (new : Mode) (cause : Nat) : safetyView (recordMode s new cause) = safetyView s := by
  unfold recordMode; simp
@[simp] theorem rasterOff_safetyView (s : State) : safetyView (rasterOff s) = safetyView s := by unfold rasterOff; simp
@[simp] theorem serviceOff_safetyView (s : State) : safetyView (serviceOff s) = safetyView s := by unfold serviceOff; simp
@[simp] theorem dozeRailsOn_safetyView (s : State) : safetyView (dozeRailsOn s) = safetyView s := (rfl)
@[simp] theorem leaveDoze_safetyView (s : State) : safetyView (leaveDoze s) = safetyView s := by unfold leaveDoze; simp
@[simp] theorem recordCause_safetyView (s : State) (cause : Nat) : safetyView (recordCause s cause) = safetyView s := by simp [recordCause]
@[simp] theorem safestopMotor_safetyView (s : State) (m : Nat) : safetyView (safestopMotor s m) = safetyView s := by unfold safestopMotor; simp
@[simp] theorem safestopAxisAll_safetyView (s : State) (a : Nat) : safetyView (safestopAxisAll s a) = safetyView s := by
  unfold safestopAxisAll; simp
@[simp] theorem withdrawEvery_safetyView (s : State) : safetyView (withdrawEvery s) = safetyView s := by unfold withdrawEvery; simp
@[simp] theorem dozeToSafestop_safetyView (s : State) : safetyView (dozeToSafestop s) = safetyView s := by unfold dozeToSafestop; simp
@[simp] theorem safestopEnter_safetyView (s : State) (cause : Nat) : safetyView (safestopEnter s cause) = safetyView s := by
  unfold safestopEnter; simp
@[simp] theorem safestop_safetyView (s : State) (cause : Nat) : safetyView (safestop s cause) = safetyView s := by unfold safestop; split <;> simp
@[simp] theorem safestopBy_safetyView (s : State) (cause inst : Nat) : safetyView (safestopBy s cause inst) = safetyView s := by
  unfold safestopBy; simp
@[simp] theorem umpireOutputs_safetyView (s : State) : safetyView (umpireOutputs s) = safetyView s := by unfold umpireOutputs; simp
/-- The objects of the junction temperature (7010). -/
def heatDict (d : Tab Nat) : Nat → Option Nat := fun k => if 0x701000 ≤ k ∧ k < 0x701100 then tabFind d k else none

theorem heatDict_tabSet (d : Tab Nat) {k : Nat} (v : Nat) (h : k < 0x701000 ∨ 0x701100 ≤ k) : heatDict (tabSet d k v) = heatDict d := by
  funext k'
  unfold heatDict
  split
  next hk => exact tabFind_tabSet_other d v (by omega)
  next => rfl

theorem get_of_heatDict {s t : State} (h : heatDict t.dict = heatDict s.dict) {i j : Nat} (hk : 0x701000 ≤ keyOf i j ∧ keyOf i j < 0x701100) (hi : isLogIdx i = false) :
    get t i j = get s i j := by
  have hfind := congrFun h (keyOf i j)
  simp only [heatDict, hk, and_self, if_true] at hfind
  simp [get, hi, hfind]

/-- What the store has of the junction temperature. -/
structure HeatView where
  heatDict : Nat → Option Nat

def heatView (s : State) : HeatView :=
  ⟨(heatDict s.dict)⟩

@[simp] theorem heatView_mk (time powered md kick hold reset_ seq rails clk net flash dict blobs staged stagedBlobs stagers armed accs sheets
    nextUid tenants coalescing mem stations trackers slots motors axes loops ains pins diag log heatTicks heatFrom out fresh pending) :
    heatView ⟨time, powered, md, kick, hold, reset_, seq, rails, clk, net, flash, dict, blobs, staged, stagedBlobs, stagers, armed, accs,
    sheets, nextUid, tenants, coalescing, mem, stations, trackers, slots, motors, axes, loops, ains, pins, diag, log, heatTicks, heatFrom, out,
    fresh, pending⟩ = ⟨(heatDict dict)⟩ := rfl
@[simp] theorem heatView_self (s : State) :
    HeatView.mk (heatDict s.dict) = heatView s := rfl

@[simp] theorem ite_heatView (c : Prop) [Decidable c] (a b : State) :
    heatView (if c then a else b) = if c then heatView a else heatView b := apply_ite heatView c a b
@[simp] theorem ite_heatView1 {α : Type} (c : Prop) [Decidable c] (a b : State × α) :
    heatView (if c then a else b).1 = if c then heatView a.1 else heatView b.1 := apply_ite (fun x : State × α => heatView x.1) c a b
@[simp] theorem foldl_heatView {α : Type} (l : List α) (f : State → α → State) (s : State)
    (h : ∀ u x, heatView (f u x) = heatView u) :
    heatView (l.foldl f s) = heatView s := foldl_view heatView l f s fun u x _ => h u x
@[simp] theorem forEach_heatView (l : List Nat) (f : State → Nat → State) (s : State)
    (h : ∀ u x, heatView (f u x) = heatView u) :
    heatView (forEach l f s) = heatView s := foldl_heatView l f s h
@[simp] theorem put_heatView (s : State) (i j v : Nat) (h : i * 256 + j < 0x701000 ∨ 0x701100 ≤ i * 256 + j) : heatView (put s i j v) = heatView s := by
  have hd : heatDict (put s i j v).dict = heatDict s.dict := heatDict_tabSet _ v h
  simp only [heatView, hd]
@[simp] theorem wrapBy_heatView (w : Nat) (s : State) (i j n : Nat) (h : i * 256 + j < 0x701000 ∨ 0x701100 ≤ i * 256 + j) : heatView (wrapBy w s i j n) = heatView s := put_heatView s i j _ h
@[simp] theorem satBy_heatView (w : Nat) (s : State) (i j n : Nat) (h : i * 256 + j < 0x701000 ∨ 0x701100 ≤ i * 256 + j) : heatView (satBy w s i j n) = heatView s := put_heatView s i j _ h
@[simp] theorem bump_heatView (s : State) (i j : Nat) (h : i * 256 + j < 0x701000 ∨ 0x701100 ≤ i * 256 + j) : heatView (bump s i j) = heatView s := put_heatView s i j _ h
@[simp] theorem sat_heatView (s : State) (i j : Nat) (h : i * 256 + j < 0x701000 ∨ 0x701100 ≤ i * 256 + j) : heatView (sat s i j) = heatView s := put_heatView s i j _ h
@[simp] theorem putBlob_heatView (s : State) (i j : Nat) (l : List Byte) : heatView (putBlob s i j l) = heatView s := (rfl)
@[simp] theorem putLog_heatView (s : State) (i j v : Nat) : heatView (putLog s i j v) = heatView s := (rfl)
@[simp] theorem wrapLog_heatView (w : Nat) (s : State) (i j : Nat) : heatView (wrapLog w s i j) = heatView s := (rfl)
@[simp] theorem satLog_heatView (w : Nat) (s : State) (i j : Nat) : heatView (satLog w s i j) = heatView s := (rfl)
@[simp] theorem emit_heatView (s : State) (o : Output) : heatView (emit s o) = heatView s := (rfl)
@[simp] theorem setTenant_heatView (s : State) (n : Nat) (f : Tenant → Tenant) : heatView (setTenant s n f) = heatView s := (rfl)

@[simp] theorem vector_heatView (s : State) (fn vec : Nat) : heatView (vector s fn vec) = heatView s := by unfold vector; simp
@[simp] theorem mirrorWrite_heatView (s : State) (e : Entry) : heatView (mirrorWrite s e) = heatView s := by
  unfold mirrorWrite; (repeat' split) <;> simp
@[simp] theorem ringWrite_heatView (s : State) (e : Entry) : heatView (ringWrite s e) = heatView s := by unfold ringWrite; simp
@[simp] theorem notice_heatView (s : State) (idx sub cls : Nat) : heatView (notice s idx sub cls) = heatView s := by unfold notice; simp
@[simp] theorem noticeAlone_heatView (s : State) (idx sub cls : Nat) : heatView (noticeAlone s idx sub cls) = heatView s := by
  unfold noticeAlone; simp
@[simp] theorem classVectors_heatView (s : State) (cls : Nat) : heatView (classVectors s cls) = heatView s := by unfold classVectors; simp
@[simp] theorem logOnly_heatView (s : State) (cls kind src inst idx sub : Nat) (serial : Option Nat) (detail : Nat) :
  heatView (logOnly s cls kind src inst idx sub serial detail) = heatView s := by
  unfold logOnly; simp
@[simp] theorem log_heatView (s : State) (cls kind src inst idx sub : Nat) (serial : Option Nat) (detail : Nat) :
  heatView (log s cls kind src inst idx sub serial detail) = heatView s := by
  unfold log; simp
@[simp] theorem serveDrop_heatView (s : State) (m : Mech) (inst : Nat) : heatView (serveDrop s m inst) = heatView s := (rfl)
@[simp] theorem serveBegin_heatView (s : State) (m : Mech) (inst code src idx sub : Nat) :
  heatView (serveBegin s m inst code src idx sub) = heatView s := by
  unfold serveBegin; simp
@[simp] theorem servePass_heatView (s : State) (m : Mech) (inst src idx sub : Nat) : heatView (servePass s m inst src idx sub) = heatView s := by
  unfold servePass; split <;> simp
@[simp] theorem doubleFaultAs_heatView (cls : Nat) (s : State) (m : Mech) (inst code src idx sub : Nat) :
  heatView (doubleFaultAs cls s m inst code src idx sub) = heatView s := by
  unfold doubleFaultAs; simp
@[simp] theorem watch_heatView (high : Bool) (s : State) (i j old v : Nat) (h : i * 256 + (j + 3) < 0x701000 ∨ 0x701100 ≤ i * 256 + j) :
    heatView (watch high s i j old v) = heatView s := by
  have hput (u : State) (k v : Nat) (hlow : j ≤ k) (hhigh : k ≤ j + 3) : heatView (put u i k v) = heatView u := put_heatView u i k v (by omega)
  unfold watch
  simp only
  split
  · split <;> simp only [sat, satBy, noticeAlone_heatView, hput _ _ _ (Nat.le_refl j) (Nat.le_add_right j 3), hput _ (j + 1) _ (by omega) (by omega),
      hput _ (j + 2) _ (by omega) (by omega), hput _ (j + 3) _ (by omega) (by omega)]
  · simp only [hput _ _ _ (Nat.le_refl j) (Nat.le_add_right j 3), hput _ (j + 3) _ (by omega) (by omega)]
@[simp] theorem setSlots_heatView (s : State) (l : Tab Event) : heatView (setSlots s l) = heatView s := by unfold setSlots; simp
@[simp] theorem dropEvents_heatView (s : State) (p : Event → Bool) : heatView (dropEvents s p) = heatView s := by unfold dropEvents; simp
@[simp] theorem writeEntry_heatView (s : State) (t : Nat) (l : List Byte) : heatView (writeEntry s t l) = heatView s := (rfl)
@[simp] theorem signalEntry_heatView (s : State) (t : Nat) : heatView (signalEntry s t) = heatView s := by unfold signalEntry; simp
@[simp] theorem writeSignal_heatView (s : State) (t : Nat) (h : Held) : heatView (writeSignal s t h) = heatView s := by unfold writeSignal; simp
@[simp] theorem deliver_heatView (s : State) (t : Nat) (h : Held) : heatView (deliver s t h) = heatView s := by unfold deliver; simp
@[simp] theorem countOutcome_heatView (s : State) (outcome : Nat) : heatView (countOutcome s outcome) = heatView s := by
  unfold countOutcome
  split
  · exact put_heatView s _ _ _ (.inl (by omega))
  · rfl
@[simp] theorem completion_heatView (s : State) (sh : Sheet) (outcome reason : Nat) (double : Bool) :
  heatView (completion s sh outcome reason double) = heatView s := by
  unfold completion; simp
@[simp] theorem toScrubbing_heatView (s : State) (t : Nat) : heatView (toScrubbing s t) = heatView s := by unfold toScrubbing; simp
@[simp] theorem ghostCheck_heatView (s : State) (t : Nat) : heatView (ghostCheck s t) = heatView s := by unfold ghostCheck; simp
@[simp] theorem removeSheet_heatView (s : State) (uid : Nat) : heatView (removeSheet s uid) = heatView s := by unfold removeSheet; simp
@[simp] theorem finishSheet_heatView (s : State) (sh : Sheet) : heatView (finishSheet s sh) = heatView s := by unfold finishSheet; simp
@[simp] theorem spoilAll_heatView (s : State) : heatView (spoilAll s) = heatView s := by unfold spoilAll; simp

/-! ## The umpire's hardware path (R560) -/

theorem hardStop_motors (s : State) (a : Nat) : (hardStop s a).motors = s.motors := by
  unfold hardStop
  simp only
  split
  · rfl
  · split <;> rfl

/-- Every motor's gates are low. -/
def GatesLow (s : State) : Prop := ∀ m, m < 12 → (motor s m).gatesLow = true

theorem gatesLow_congr {s t : State} (h : t.motors = s.motors) (hs : GatesLow s) : GatesLow t := fun m hm => by
  rw [motor, h]
  exact hs m hm

theorem gatesOff_gatesLow (s : State) (m k : Nat) : (motor (gatesOff s m) k).gatesLow = if k = m then true else (motor s k).gatesLow := by
  unfold gatesOff
  split
  next h => rw [h, motor_setMotor_same]
  next h => rw [motor_setMotor_other _ _ h]

theorem gatesLow_gatesOffs (s : State) : GatesLow (forEach (List.range 12) gatesOff s) := fun _ hm =>
  foldl_clears (P := fun u k => (motor u k).gatesLow = true) (fun u m => by simp [gatesOff_gatesLow]) (fun u m k h => by simp [gatesOff_gatesLow, h])
    _ s (List.mem_range.2 hm)

theorem loopOffNow_gatesLow {s : State} (h : GatesLow s) (n : Nat) : GatesLow (loopOffNow s n) := by
  refine gatesLow_congr (s := outputOff s n) rfl ?_
  unfold outputOff
  simp only
  split
  · intro m hm
    by_cases hk : m = loopMotor n
    · rw [hk, motor_setMotor_same]
      exact h _ (hk ▸ hm)
    · rw [motor_setMotor_other _ _ hk]
      exact h m hm
  · exact gatesLow_congr rfl h

/-- The state between the gates and the loops of the umpire's path. -/
def umpireStops (s : State) : State :=
  forEach (List.range 16) hardStop (forEach (List.range 12) gatesOff { s with pins := { s.pins with safeN := true } })

theorem umpireOutputs_eq (s : State) :
    umpireOutputs s = forEach (List.range 48) (fun u n => if (loop u n).state = 0 then u else loopOffNow u n) (umpireStops s) := rfl

theorem umpireOutputs_gatesLow (s : State) : GatesLow (umpireOutputs s) := by
  rw [umpireOutputs_eq]
  refine foldl_keeps GatesLow _ _ _ (fun u n _ h => ?_) ?_
  · split
    · exact h
    · exact loopOffNow_gatesLow h n
  · exact foldl_keeps GatesLow _ _ _ (fun u a _ h => gatesLow_congr (hardStop_motors u a) h) (gatesLow_gatesOffs _)

theorem umpireOutputs_modeView (s : State) : modeView (umpireOutputs s) = (s.md, true, get s 0x2000 5) := by
  have hloop (u : State) (n : Nat) : modeView (if (loop u n).state = 0 then u else loopOffNow u n) = modeView u := by simp
  rw [umpireOutputs_eq, forEach_modeView _ _ _ hloop, umpireStops, forEach_modeView _ _ _ fun u a => hardStop_modeView u a,
    forEach_modeView _ _ _ fun u m => gatesOff_modeView u m]
  rfl

/-! ## A supervisor event -/

theorem get_of_safetyView {s t : State} (h : safetyView t = safetyView s) {j : Nat} (hj : j = 8 ∨ j = 9) : get t 0x2400 j = get s 0x2400 j := by
  have hrec : safetyRecord t.log.dict = safetyRecord s.log.dict := congrArg SafetyView.safetyRecord h
  obtain ⟨h8, h9⟩ := Prod.mk.inj hrec
  have hget (u : State) (k : Nat) : get u 0x2400 k = match tabFind u.log.dict (keyOf 0x2400 k) with | some v => v | none => defaultOf 0x2400 k := rfl
  rcases hj with rfl | rfl
  · rw [hget, hget, h8]
  · rw [hget, hget, h9]

/-- The event as the log block records it. -/
def supervisorRecorded (s : State) (kind : Nat) : State := putLog (satLog 16 s 0x2400 8) 0x2400 9 kind

theorem supervisorRecorded_get (s : State) (kind : Nat) :
    get (supervisorRecorded s kind) 0x2400 9 = kind ∧ get (supervisorRecorded s kind) 0x2400 8 = min (get s 0x2400 8 + 1) 65535 := by
  refine ⟨get_putLog_same _ _ _ rfl, ?_⟩
  rw [supervisorRecorded, get_putLog_other _ _ (by decide), satLog, get_putLog_same _ _ _ rfl]
  rfl

/-- Whether a supervisor event is the second one (R560). -/
def supervisorAgain (s : State) : Bool := serving s .supervisor 255 || servedWithin s .supervisor 255 (ticksS 600)

/-- SAFESTOP, and the safe outputs beside it. -/
def supervisorStop (s : State) (kind : Nat) : State :=
  umpireOutputs (safestopBy (umpireOutputs (supervisorRecorded s kind)) 6 (causeInst .supervisor 255))

/-- The umpire's reset is asked for. -/
def askReset (t : State) : State := { t with kick := { t.kick with umpireRestart := true, safetyLog := true } }

theorem supervisorEvent_eq (s : State) (kind : Nat) : supervisorEvent s kind =
    if supervisorAgain s then enterHold (doubleFault (umpireOutputs (supervisorRecorded s kind)) .supervisor 255 kind 0 0x2400 9) .doubleFault
    else askReset (superviseServe (supervisorStop s kind) kind) := by
  unfold supervisorEvent supervisorAgain askReset supervisorStop supervisorRecorded
  dsimp only

theorem serving_superviseServe (s : State) (kind : Nat) : serving (superviseServe s kind) .supervisor 255 = true := by
  simp [serving, serveOf, superviseServe, Serve.isOf]

theorem supervisorStop_shows (s : State) (kind : Nat) :
    let t := supervisorStop s kind
    get t 0x2400 9 = kind ∧ get t 0x2400 8 = min (get s 0x2400 8 + 1) 65535 ∧ t.pins.safeN = true ∧ GatesLow t ∧
      (s.md.mode ∈ operating → t.md.mode = .safestop ∧ get t 0x2000 5 = 6) := by
  obtain ⟨hkind, hcount⟩ := supervisorRecorded_get s kind
  have hsafety : safetyView (supervisorStop s kind) = safetyView (supervisorRecorded s kind) := by simp [supervisorStop]
  have hmode := modeView_eq_iff.1 (umpireOutputs_modeView (supervisorRecorded s kind))
  have hlow := umpireOutputs_gatesLow (safestopBy (umpireOutputs (supervisorRecorded s kind)) 6 (causeInst .supervisor 255))
  have hview := modeView_eq_iff.1 (umpireOutputs_modeView (safestopBy (umpireOutputs (supervisorRecorded s kind)) 6 (causeInst .supervisor 255)))
  have hop (h : s.md.mode ∈ operating) := safestopBy_operating (s := umpireOutputs (supervisorRecorded s kind)) (by rw [hmode.1]; exact h) 6
    (causeInst .supervisor 255)
  have heq : supervisorStop s kind = umpireOutputs (safestopBy (umpireOutputs (supervisorRecorded s kind)) 6 (causeInst .supervisor 255)) := rfl
  rw [← heq] at hlow hview
  generalize safestopBy (umpireOutputs (supervisorRecorded s kind)) 6 (causeInst .supervisor 255) = u at hview hop
  generalize supervisorStop s kind = t at *
  obtain ⟨hmd, hsafe, hcause⟩ := hview
  refine ⟨(get_of_safetyView hsafety (.inr rfl)).trans hkind, (get_of_safetyView hsafety (.inl rfl)).trans hcount, hsafe, hlow, fun h => ?_⟩
  obtain ⟨hm, hc, -, -⟩ := hop h
  exact ⟨by rw [hmd, hm], hcause.trans hc⟩

/-! ## A hold state (R136, R162, R595) -/

/-- The block as a hold state leaves it, before its rails go off. -/
def holdCleared (s : State) (h : Hold) : State :=
  { warmKept (spoilAll s) with hold := h, reset_ := {}, md := { mode := .shutdown, previous := s.md.mode, offStarted := true } }

theorem enterHold_cases (s : State) (h : Hold) :
    ∃ (p : Pins) (q : Sequencer), enterHold s h = { holdCleared s h with pins := p, seq := q } ∧ (h ≠ .doubleFault → p.safeN = true ∧ p.rstLow = true) := by
  have heq : enterHold s h = if anyRailOn (holdCleared s h) then
      beginOff (if h = .doubleFault then { holdCleared s h with pins := { (holdCleared s h).pins with safeN := s.pins.safeN, rstLow := s.pins.rstLow } }
        else holdCleared s h) .holdOff
    else { holdCleared s h with seq := { (holdCleared s h).seq with state := 5, why := .none } } := rfl
  rw [heq]
  split
  · split
    next hd => exact ⟨_, _, rfl, fun hne => absurd hd hne⟩
    next hd => exact ⟨_, _, rfl, fun _ => ⟨rfl, rfl⟩⟩
  · exact ⟨_, _, rfl, fun _ => ⟨rfl, rfl⟩⟩

/-- What a hold state keeps of the objects (R615). -/
theorem enterHold_get (s : State) (h : Hold) {i j : Nat} (hk : keptKey (keyOf i j) = true) (hi : isLogIdx i = false) :
    get (enterHold s h) i j = get (spoilAll s) i j := by
  obtain ⟨p, q, heq, -⟩ := enterHold_cases s h
  have hkept := get_warmKept (spoilAll s) hk hi
  rw [heq, ← hkept, holdCleared]
  generalize warmKept (spoilAll s) = w
  rfl

theorem enterHold_shows (s : State) (h : Hold) :
    (enterHold s h).hold = h ∧ (enterHold s h).md.mode = .shutdown ∧ (enterHold s h).sheets = [] ∧ (enterHold s h).rails = s.rails := by
  obtain ⟨p, q, heq, -⟩ := enterHold_cases s h
  have hrails : (spoilAll s).rails = s.rails := congrArg PressView.rails (spoilAll_pressView s)
  rw [heq]
  exact ⟨rfl, rfl, rfl, hrails⟩

/-! ## The umpire's reset -/

theorem warmReset_sequence {s : State} (c : Nat) (h : anyRailOn s = true) : (warmReset s c false).seq.state = 3 ∧ (warmReset s c false).seq.why = .warmReset := by
  have hany : anyRailOn (clearBlock s c) = true := by rw [anyRailOn_congr (clearBlock_rails s c), h]
  unfold warmReset
  simp only [Bool.false_or, hany, Bool.not_true, Bool.false_eq_true, if_false]
  exact ⟨rfl, rfl⟩

theorem warmReset_slots (s : State) (c : Nat) : (warmReset s c false).slots = [] := by
  have hslots : (clearBlock s c).slots = [] := (clearBlock_sameButLog s c).slots
  unfold warmReset
  generalize clearBlock s c = t at *
  simp only [Bool.false_or]
  split
  · rw [kickoffStart_eq rfl]
    exact hslots
  · exact hslots

theorem not_mem_causeEnd (s : State) (c n : Nat) : (c, n) ∉ (causeEnd s c n).log.causes := by
  unfold causeEnd
  split
  · simp only
    have hgone : (c, n) ∉ s.log.causes.filter fun p => p != (c, n) := by simp
    split
    · exact hgone
    · rw [causes_of_clockView (log_clockView _ _ _ _ _ _ _ _ _)]
      exact hgone
  next h => simpa using h

/-- Settles O59. -/
theorem supervisorEvents : Obligations.SupervisorEvents := by
  intro s
  refine ⟨fun p hp => ?_, fun h => ⟨s, by simp [exec, execUmpireReset, h, done], rfl⟩, fun h => ?_, ?_⟩
  · have hexec : exec p.1 s = if supervisorRuns s && !s.kick.umpireRestart then done (supervisorEvent s p.2) else done s := by
      simp only [List.mem_cons, List.not_mem_nil, or_false] at hp
      rcases hp with rfl | rfl <;> rfl
    refine ⟨fun hacts => ⟨s, by rw [hexec, if_neg (by simp [hacts])]; rfl, rfl⟩,
      fun hacts hfirst => ⟨_, by rw [hexec, if_pos hacts]; rfl, ?_⟩, fun hacts hsecond => ⟨_, by rw [hexec, if_pos hacts]; rfl, ?_⟩⟩
    · have hshows := supervisorStop_shows s p.2
      rw [supervisorEvent_eq, if_neg (by rw [supervisorAgain, hfirst]; simp)]
      generalize supervisorStop s p.2 = t at hshows ⊢
      obtain ⟨hkind, hcount, hsafe, hlow, hop⟩ := hshows
      exact ⟨hkind, hcount, hsafe, rfl, serving_superviseServe t p.2, hlow, hop⟩
    · rw [supervisorEvent_eq, if_pos (show supervisorAgain s = true from hsecond)]
      obtain ⟨hhold, hmode, hsheets, -⟩ := enterHold_shows
        (doubleFault (umpireOutputs (supervisorRecorded s p.2)) .supervisor 255 p.2 0 0x2400 9) .doubleFault
      exact ⟨hhold, hmode, hsheets⟩
  · refine ⟨warmReset s 6 false, by simp [exec, execUmpireReset, h, done], ?_⟩
    obtain ⟨hmode, hprev, hcause, -, hsafe⟩ := warmReset_shows s 6
    obtain ⟨hrst, hsheets, -, htime, -⟩ := warmReset_clears s 6
    exact ⟨hmode, hprev, hcause, hsafe, hrst, hsheets, warmReset_slots s 6, htime, warmReset_sequence 6⟩
  · have hsame := causeEnd_sameButLog { s with pins := { s.pins with safeMismatch := false } } 6 5
    exact ⟨_, rfl, hsame.pins, not_mem_causeEnd _ 6 5, hsame.dict, hsame.md⟩

/-! ## The junction temperature (R593, R594) -/

theorem get_forEach_put (t : State) (i b : Nat) (f : Nat → Nat) (hi : isLogIdx i = false) (n j : Nat) :
    get (forEach (List.range n) (fun u k => put u i (b + k) (f k)) t) i j = if b ≤ j ∧ j < b + n then f (j - b) else get t i j := by
  induction n with
  | zero => simp [forEach, show ¬(b ≤ j ∧ j < b) by omega]
  | succ n ih =>
    unfold forEach at ih ⊢
    rw [List.range_succ, List.foldl_append, List.foldl_cons, List.foldl_nil]
    by_cases hj : j = b + n
    · subst hj
      rw [get_put_same _ _ _ hi, if_pos (by omega), Nat.add_sub_cancel_left]
    · rw [get_put_other _ _ (by unfold keyOf; omega), ih]
      exact if_congr (by omega) rfl rfl

/-- What a reading stores (R593, R598, R308), before its responses. -/
structure Warmed (s : State) (l : List Int) (v : Int) (t : State) : Prop where
  tj : get t 0x7010 1 = sImg 16 v
  sensors : ∀ k, k < 8 → get t 0x7010 (2 + k) = sImg 16 (l.getD k 0)
  peak : get t 0x7010 0x0A = sImg 16 (max (getS s 16 0x7010 0x0A) v)
  ticks : tabGet 0 t.heatTicks (heatBand (Machine.tj s)) = tabGet 0 s.heatTicks (heatBand (Machine.tj s)) + (s.time - s.heatFrom)
  from_ : t.heatFrom = s.time
  md : t.md = s.md
  sheets : t.sheets = s.sheets
  kick : t.kick = s.kick
  reset_ : t.reset_ = s.reset_

/-- A state with the same objects of the temperature and the same fields that a reading concerns. -/
theorem Warmed.congr {s : State} {l : List Int} {v : Int} {t u : State} (h : Warmed s l v t) (hget : ∀ j, j < 0x14 → get u 0x7010 j = get t 0x7010 j)
    (hsame : u.heatTicks = t.heatTicks ∧ u.heatFrom = t.heatFrom ∧ u.md = t.md ∧ u.sheets = t.sheets ∧ u.kick = t.kick ∧ u.reset_ = t.reset_) :
    Warmed s l v u := by
  obtain ⟨hticks, hfrom, hmd, hsheets, hkick, hreset⟩ := hsame
  exact ⟨(hget 1 (by decide)).trans h.tj, fun k hk => (hget _ (by omega)).trans (h.sensors k hk), (hget _ (by decide)).trans h.peak, by rw [hticks, h.ticks],
    by rw [hfrom, h.from_], hmd.trans h.md, hsheets.trans h.sheets, hkick.trans h.kick, hreset.trans h.reset_⟩

theorem Warmed.log {s : State} {l : List Int} {v : Int} {t u : State} (h : Warmed s l v t) (hlog : SameButLog t u) : Warmed s l v u :=
  h.congr (fun j _ => hlog.get j rfl) ⟨hlog.heatTicks, hlog.heatFrom, hlog.md, hlog.sheets, hlog.kick, hlog.reset⟩

/-- The eight sensors stored. -/
def sensorsStored (s : State) (l : List Int) : State := forEach (List.range 8) (fun u k => put u 0x7010 (2 + k) (sImg 16 (l.getD k 0))) s

theorem sensorsStored_eq (s : State) (l : List Int) : sensorsStored s l = { s with dict := (sensorsStored s l).dict } :=
  foldl_keeps (fun t => t = { s with dict := t.dict }) _ _ s (fun u k _ h => by rw [h]; rfl) rfl

theorem storeTj_eq (t : State) (l : List Int) (v : Int) :
    storeTj t l v = put (putS (sensorsStored (putS t 16 0x7010 1 v) l) 16 0x7010 0x0A (max (getS t 16 0x7010 0x0A) v)) 0x7010 0x0B
      (if 1550 ≤ v then 3 else if 1500 ≤ v then 2 else if 1400 < v ∨ (t.mem.doubled ∧ 1380 ≤ v) then 1 else 0) := rfl

theorem storeTj_mem (t : State) (l : List Int) (v : Int) : (storeTj t l v).mem = t.mem := by
  have hw := sensorsStored_eq (putS t 16 0x7010 1 v) l
  rw [storeTj_eq]
  generalize sensorsStored (putS t 16 0x7010 1 v) l = w at hw ⊢
  show w.mem = t.mem
  rw [hw]
  rfl

theorem storeTj_warms (s : State) (l : List Int) (v : Int) : Warmed s l v (storeTj (countHeat s) l v) := by
  have hw := sensorsStored_eq (putS (countHeat s) 16 0x7010 1 v) l
  have hget (j : Nat) : get (sensorsStored (putS (countHeat s) 16 0x7010 1 v) l) 0x7010 j =
      if 2 ≤ j ∧ j < 2 + 8 then sImg 16 (l.getD (j - 2) 0) else get (putS (countHeat s) 16 0x7010 1 v) 0x7010 j :=
    get_forEach_put _ 0x7010 2 (fun k => sImg 16 (l.getD k 0)) rfl 8 j
  have hpeak : getS (countHeat s) 16 0x7010 0x0A = getS s 16 0x7010 0x0A := by
    have hk : get (countHeat s) 0x7010 0x0A = get s 0x7010 0x0A := get_put_other _ _ (by unfold keyOf; omega)
    rw [getS, getS, hk]
  rw [storeTj_eq]
  generalize sensorsStored (putS (countHeat s) 16 0x7010 1 v) l = w at hw hget ⊢
  refine ⟨?_, fun k hk => ?_, ?_, ?_, ?_, ?_, ?_, ?_, ?_⟩
  · rw [get_put_other _ _ (by decide), putS, get_put_other _ _ (by decide), hget, if_neg (by omega), putS, get_put_same _ _ _ rfl]
  · rw [get_put_other _ _ (by unfold keyOf; omega), putS, get_put_other _ _ (by unfold keyOf; omega), hget, if_pos (by omega), Nat.add_sub_cancel_left]
  · rw [get_put_other _ _ (by decide), putS, get_put_same _ _ _ rfl, hpeak]
  · show tabGet 0 w.heatTicks _ = _
    rw [hw]
    exact tabGet_tabSet_same _ _ _ _
  all_goals rw [hw]; rfl

/-- Every sensor far from the median is counted and warned of. -/
theorem sensorChecks_warm {s : State} {l : List Int} {v : Int} {t : State} (h : Warmed s l v t) :
    Warmed s l v (forEach (List.range 8) (sensorCheck l) t) ∧ (forEach (List.range 8) (sensorCheck l) t).mem = t.mem := by
  refine foldl_keeps (fun u => Warmed s l v u ∧ u.mem = t.mem) _ _ t (fun u k _ hu => ?_) ⟨h, rfl⟩
  unfold sensorCheck
  split
  · have hlog := logEvent_sameButLog (sat u 0x7010 0x14) clsWarn 0 k 0x7010 0x14
    exact ⟨(hu.1.congr (fun j hj => get_put_other _ _ (by unfold keyOf; omega)) ⟨rfl, rfl, rfl, rfl, rfl, rfl⟩).log hlog, hlog.mem.trans hu.2⟩
  · exact hu

/-- The reading stored, and the memory's share of it. -/
def heatTaken (s : State) (l : List Int) (v : Int) : State :=
  capacityFrom s (slowAdmission (forEach (List.range 8) (sensorCheck l) (storeTj (countHeat s) l v)) v)

theorem followHeat_eq (s : State) : followHeat s = { s with mem := { s.mem with raised := (followHeat s).mem.raised } } := by
  unfold followHeat
  split <;> rfl

theorem watchBudget_sameButLog (old s : State) : SameButLog s (watchBudget old s) := by
  unfold watchBudget
  split
  · exact log_sameButLog _ _ _ _ _ _ _ _ _
  · exact .refl s

theorem heatTaken_warms (s : State) (l : List Int) (v : Int) :
    Warmed s l v (heatTaken s l v) ∧ (heatTaken s l v).mem.doubled = (if 1400 < v then true else if v < 1380 then false else s.mem.doubled) := by
  obtain ⟨hwarm, hmem⟩ := sensorChecks_warm (storeTj_warms s l v)
  have hstored : (storeTj (countHeat s) l v).mem = s.mem := storeTj_mem _ _ _
  have heq : heatTaken s l v = watchBudget s (followHeat (slowAdmission (forEach (List.range 8) (sensorCheck l) (storeTj (countHeat s) l v)) v)) := rfl
  rw [heq]
  rw [hstored] at hmem
  generalize forEach (List.range 8) (sensorCheck l) (storeTj (countHeat s) l v) = t at hwarm hmem ⊢
  have hslow : Warmed s l v (slowAdmission t v) := hwarm.congr (fun _ _ => rfl) ⟨rfl, rfl, rfl, rfl, rfl, rfl⟩
  have hdoubled : (slowAdmission t v).mem.doubled = (if 1400 < v then true else if v < 1380 then false else s.mem.doubled) := by rw [← hmem]; rfl
  have hfollow := followHeat_eq (slowAdmission t v)
  have hlog := watchBudget_sameButLog s (followHeat (slowAdmission t v))
  generalize watchBudget s (followHeat (slowAdmission t v)) = w at hlog ⊢
  generalize followHeat (slowAdmission t v) = u at hfollow hlog
  have hu : Warmed s l v u := hslow.congr (fun _ _ => by rw [hfollow]; rfl) (by rw [hfollow]; exact ⟨rfl, rfl, rfl, rfl, rfl, rfl⟩)
  exact ⟨hu.log hlog, by rw [hlog.mem, hfollow]; exact hdoubled⟩

/-- The cause 0x09 as the temperature has it (R594). -/
def heatCause (t : State) (v : Int) : State := if 1500 ≤ v then causeAdd t 9 0 else causeEnd t 9 0

theorem heatCause_sameButLog (t : State) (v : Int) : SameButLog t (heatCause t v) := by
  unfold heatCause
  split
  · exact causeAdd_sameButLog _ _ _
  · exact causeEnd_sameButLog _ _ _

theorem tjRespond_calm {t : State} {old v : Int} (h : v < 1550 ∨ 1550 ≤ old) : tjRespond t old v = heatCause t v := if_neg (by omega)

theorem tjRespond_hot {t : State} {old v : Int} (hv : 1550 ≤ v) (hold : old < 1550) :
    tjRespond t old v =
      let u := safestop (safetyEvent (causeAdd t 9 0) 2) 9
      if u.md.mode = .kickoff then failKickoff u 0x0A 0 else u := by
  unfold tjRespond
  simp only [hv, hold, show 1500 ≤ v by omega, and_self, if_true]

theorem exec_tjSample {s : State} {l : List Int} (h : supervisorRuns s = true) :
    exec (.tjSample l) s = .next (settle (tjRespond (heatTaken s l (l.foldl max (l.getD 0 0))) (tj s) (l.foldl max (l.getD 0 0)))) := by
  simp only [exec, execTjSample, h, if_true, done, heatTaken]

theorem safetyEvent_sameButLog (s : State) (kind : Nat) : SameButLog s (safetyEvent s kind) :=
  .trans (satLog_sameButLog 16 s 0x2400 8) (.trans (putLog_sameButLog _ 0x2400 9 kind) (log_sameButLog _ _ _ _ _ _ _ _ _))

/-- The SAFETY event of 155 °C (R594). -/
theorem heatEvent_shows (t : State) :
    let u := safetyEvent (causeAdd t 9 0) 2
    SameButLog t u ∧ get u 0x2400 9 = 2 ∧ (9, 0) ∈ u.log.causes := by
  have hlog := (causeAdd_sameButLog t 9 0).trans (safetyEvent_sameButLog (causeAdd t 9 0) 2)
  refine ⟨hlog, ?_, ?_⟩
  · rw [safetyEvent, get_of_safetyView (log_safetyView _ _ _ _ _ _ _ _ _) (.inr rfl),
      get_putLog_same _ _ _ rfl]
  · rw [safetyEvent, causes_of_clockView (log_clockView _ _ _ _ _ _ _ _ _)]
    exact mem_causeAdd_self t 9 0

theorem tjRespond_operating {t : State} {old v : Int} (hv : 1550 ≤ v) (hold : old < 1550) (h : t.md.mode ∈ operating) :
    let u := tjRespond t old v
    u.md.mode = .safestop ∧ get u 0x2000 5 = 9 ∧ get u 0x2400 9 = 2 ∧ (9, 0) ∈ u.log.causes := by
  rw [tjRespond_hot hv hold]
  obtain ⟨hlog, hkind, hcause⟩ := heatEvent_shows t
  generalize safetyEvent (causeAdd t 9 0) 2 = u at hlog hkind hcause ⊢
  have hop : u.md.mode ∈ operating := by rwa [hlog.md]
  obtain ⟨hk, ht, hs, hd, hz⟩ := ne_of_operating hop
  have hkept := (safestop_clk (s := u) 9 fun e => absurd e hz).2 _ hcause
  have hsafety := get_of_safetyView (safestop_safetyView u 9) (.inr rfl)
  rw [safestop_of_operating hk ht hs hd] at hkept hsafety ⊢
  obtain ⟨hm, -, hc, -⟩ := safestopEnter_shows u 9
  generalize safestopEnter u 9 = w at hkept hsafety hm hc ⊢
  dsimp only
  rw [if_neg (by rw [hm]; decide)]
  exact ⟨hm, hc, hsafety.trans hkind, hkept⟩

theorem tjRespond_kickoff {t : State} {old v : Int} (hv : 1550 ≤ v) (hold : old < 1550) (h : t.md.mode = .kickoff) (hfail : t.kick.failed = none)
    (hrun : t.reset_.running = false) :
    let u := tjRespond t old v
    u.kick.failed = some 0x0A ∧ get u 0x2030 3 = 0x0A ∧ u.md = t.md := by
  rw [tjRespond_hot hv hold]
  obtain ⟨hlog, -, -⟩ := heatEvent_shows t
  generalize safetyEvent (causeAdd t 9 0) 2 = u at hlog ⊢
  have hmasked : safestop u 9 = recordCause u 9 := safestop_of_masked (.inl (by rw [hlog.md, h])) 9
  have hrec := hlog.trans (recordCause_sameButLog u 9)
  rw [hmasked]
  generalize recordCause u 9 = w at hrec ⊢
  obtain ⟨-, hreason, -, hfailed, -, -, hmd, -, -⟩ := failKickoff_shows (s := w) (by rw [hrec.md, h]) (by rw [hrec.kick, hfail]) (by rw [hrec.reset, hrun]) 0x0A 0
  simp only [hrec.md, h, if_true]
  exact ⟨hfailed, hreason, hmd.trans hrec.md⟩

/-! ## The thermal shutdown (R595) -/

theorem allRailsOff_shows (s : State) :
    (∀ r, r < 16 → (rail (allRailsOff s) r).en = false) ∧ (allRailsOff s).dict = s.dict := by
  have hstep (u : State) (r k : Nat) : (rail (if (rail u r).en then railOff u r 1 else u) k).en = if k = r then false else (rail u k).en := by
    by_cases hk : k = r
    · subst hk
      split
      next h => simp [railOff]
      next h => simpa using h
    · rw [if_neg hk]
      split
      · rw [railOff_other _ _ hk]
      · rfl
  refine ⟨fun r hr => foldl_clears (P := fun u k => (rail u k).en = false) (fun u a => by simp [hstep]) (fun u a k h => by simp [hstep, h]) _ s
    (List.mem_range.2 hr), ?_⟩
  exact foldl_keeps (fun u => u.dict = s.dict) _ _ s (fun u r _ h => by split <;> exact h) rfl

/-- The state that the thermal hold takes over: its rails off without off-delays. -/
def thermalMark (s t : State) : State :=
  { t with hold := .none, kick := { t.kick with thermalLog := true }, md := if s.hold = .none then t.md else { t.md with mode := s.md.previous } }

def thermalOff (s : State) : State := thermalMark s (allRailsOff (sat s 0x7010 0x0C))

theorem thermalMark_rails (s t : State) : (thermalMark s t).rails = t.rails := rfl
theorem thermalMark_dict (s t : State) : (thermalMark s t).dict = t.dict := rfl

theorem get_thermalOff {s : State} (hdict : (allRailsOff (sat s 0x7010 0x0C)).dict = (sat s 0x7010 0x0C).dict) :
    get (thermalOff s) 0x7010 0x0C = get (sat s 0x7010 0x0C) 0x7010 0x0C := by
  rw [get_dict _ _ rfl, get_dict _ _ rfl, ← hdict, thermalOff, thermalMark_dict]

theorem heatDict_spoilAll (s : State) : heatDict (spoilAll s).dict = heatDict s.dict := congrArg HeatView.heatDict (spoilAll_heatView s)

theorem thermalHold_shows (s : State) :
    let t := enterHold (thermalOff s) .thermal
    t.hold = .thermal ∧ t.md.mode = .shutdown ∧ t.pins.safeN = true ∧ t.pins.rstLow = true ∧ (∀ r, r < 16 → (rail t r).en = false) ∧ t.sheets = [] ∧
      get t 0x7010 0x0C = min (get s 0x7010 0x0C + 1) 65535 := by
  obtain ⟨hhold, hmode, hsheets, hrails⟩ := enterHold_shows (thermalOff s) .thermal
  obtain ⟨p, q, heq, hpins⟩ := enterHold_cases (thermalOff s) .thermal
  obtain ⟨hoff, hdict⟩ := allRailsOff_shows (sat s 0x7010 0x0C)
  obtain ⟨hsafe, hrst⟩ := hpins (by decide)
  refine ⟨hhold, hmode, by rw [heq]; exact hsafe, by rw [heq]; exact hrst, fun r hr => ?_, hsheets, ?_⟩
  · rw [rail, hrails, thermalOff, thermalMark_rails]
    exact hoff r hr
  · rw [enterHold_get _ _ rfl rfl, get_of_heatDict (heatDict_spoilAll _) (by decide) rfl, get_thermalOff hdict, sat, satBy, get_put_same _ _ _ rfl]
    rfl

theorem execThermalShutdown_eq (s : State) :
    execThermalShutdown s = if s.powered && s.hold != .thermal then done (enterHold (thermalOff s) .thermal) else done s := by
  unfold execThermalShutdown thermalOff thermalMark
  dsimp only

/-- Settles O60. -/
theorem heatActs : Obligations.HeatActs := by
  intro s
  refine ⟨fun l => ⟨fun hoff => ⟨s, by simp [exec, execTjSample, hoff, done], rfl⟩, fun hruns hcalm => ⟨_, exec_tjSample hruns, ?_⟩,
    fun hruns hv hold => ⟨fun hop => ⟨_, exec_tjSample hruns, ?_⟩, fun hkick hfail => ⟨_, exec_tjSample hruns, ?_⟩⟩⟩, fun h => ?_, fun hp hh => ?_⟩
  · obtain ⟨hwarm, hdoubled⟩ := heatTaken_warms s l (l.foldl max (l.getD 0 0))
    rw [tjRespond_calm hcalm]
    generalize heatTaken s l (l.foldl max (l.getD 0 0)) = t at hwarm hdoubled ⊢
    generalize l.foldl max (l.getD 0 0) = v at hwarm hdoubled ⊢
    have hlog := heatCause_sameButLog t v
    have h := hwarm.log hlog
    refine ⟨h.tj, h.sensors, h.peak, by rw [hlog.mem, hdoubled], h.ticks, h.from_, fun hv => ?_, fun hv => ?_, h.md, h.sheets⟩
    · rw [heatCause, if_pos hv]
      exact mem_causeAdd_self t 9 0
    · rw [heatCause, if_neg (by omega)]
      exact not_mem_causeEnd t 9 0
  · have hwarm := (heatTaken_warms s l (l.foldl max (l.getD 0 0))).1
    generalize heatTaken s l (l.foldl max (l.getD 0 0)) = t at hwarm ⊢
    exact tjRespond_operating hv hold (by rwa [hwarm.md])
  · have hwarm := (heatTaken_warms s l (l.foldl max (l.getD 0 0))).1
    generalize heatTaken s l (l.foldl max (l.getD 0 0)) = t at hwarm ⊢
    have hrun : s.reset_.running = false := by
      simp only [supervisorRuns, Bool.and_eq_true, Bool.not_eq_true'] at hruns
      exact hruns.1.2
    obtain ⟨hfailed, hreason, hmd⟩ := tjRespond_kickoff (t := t) hv hold (by rw [hwarm.md, hkick]) (by rw [hwarm.kick, hfail]) (by rw [hwarm.reset_, hrun])
    exact ⟨hfailed, hreason, hmd.trans hwarm.md⟩
  · refine ⟨s, ?_, rfl⟩
    show execThermalShutdown s = _
    rw [execThermalShutdown_eq, if_neg (by rcases h with h | h <;> simp [h])]
    rfl
  · refine ⟨enterHold (thermalOff s) .thermal, ?_, thermalHold_shows s⟩
    show execThermalShutdown s = _
    rw [execThermalShutdown_eq, if_pos (by simp [hp, hh])]
    rfl

end Sys2Proof.Machine

/-! # Pins (R535, R547 to R549) -/

namespace Sys2Proof.Machine

/-! ## Locks (R547) -/

theorem lockRow_cls (q : Fin 96) : (writeRow (pinIdx q.val) 7).cls ≠ .rws := by
  revert q
  decide +kernel

theorem writeEffect_pinLock (s : State) (acc : Accessor) (q : Fin 96) (v : Nat) (d : List Byte) :
    writeEffect s acc (writeRow (pinIdx q.val) 7) (pinIdx q.val) 7 v d = (lockWrite s acc q.val v, 0) := by
  have hq : 0x2600 ≤ pinIdx q.val ∧ pinIdx q.val < 0x2660 := by unfold pinIdx; omega
  have hthreshold : (thresholdOf (pinIdx q.val) 7).isSome = false := by simp [thresholdOf]
  have heffect : effectPins s acc (pinIdx q.val) 7 v = lockWrite s acc q.val v := by
    unfold effectPins
    rw [if_neg (by omega), if_pos hq, if_pos rfl, pinIdx, Nat.add_sub_cancel_left]
  unfold writeEffect
  rw [if_neg (lockRow_cls q), if_neg (by omega), hthreshold, if_neg (by simp), if_neg (by omega), if_pos (by omega), heffect]

theorem writeEffect_lockAll (s : State) (acc : Accessor) (v : Nat) (d : List Byte) :
    writeEffect s acc (writeRow 0x2660 1) 0x2660 1 v d = (lockWrite s acc 96 v, 0) := by
  have hcls : (writeRow 0x2660 1).cls ≠ .rws := by decide
  unfold writeEffect
  rw [if_neg hcls, if_neg (by decide), if_neg (by decide), if_neg (by decide), if_pos (by decide), effectPins, if_pos (by decide)]

/-- A write to a lock breaks no lock's sequence. -/
theorem breakLock_lock (s : State) (acc : Accessor) {i j : Nat} (h : 0x2600 ≤ i ∧ i < 0x2660 ∧ j = 7 ∨ i = 0x2660 ∧ j = 1) : breakLock s acc i j = s := if_pos h

theorem writeCommand_pinLock {s : State} {acc : Accessor} {q : Fin 96} {d : List Byte} (h : Accepted s acc (pinIdx q.val) 7 d) :
    writeCommand acc (pinIdx q.val) 7 d s = emit (lockWrite s acc q.val (ofLe d)) (.answer acc 0 []) := by
  rw [writeCommand_accepted h (viewOf_of_low (by unfold pinIdx; omega)), breakLock_lock _ _ (.inl (by unfold pinIdx; omega)), writeEffect_pinLock]

theorem writeCommand_lockAll {s : State} {acc : Accessor} {d : List Byte} (h : Accepted s acc 0x2660 1 d) :
    writeCommand acc 0x2660 1 d s = emit (lockWrite s acc 96 (ofLe d)) (.answer acc 0 []) := by
  rw [writeCommand_accepted h rfl, breakLock_lock _ _ (.inr ⟨rfl, rfl⟩), writeEffect_lockAll]

/-- The accessors' sequences without that of one. -/
def otherLocks (s : State) (acc : Accessor) : List (Accessor × Nat × Nat) := s.pins.lockSeq.filter fun q => q.1 != acc

/-- Whether an accessor has opened the sequence of a pin within 1 ms. -/
def lockOpen (s : State) (acc : Accessor) (p : Nat) : Bool := s.pins.lockSeq.any fun q => q.1 == acc && q.2.1 == p && decide (s.time - q.2.2 ≤ ticksMs 1)

/-- The pins locked once a sequence has ended. -/
def lockedWith (s : State) (p : Nat) : List Nat :=
  if p = 96 then List.range 96 else if s.pins.locked.contains p then s.pins.locked else p :: s.pins.locked

theorem lockWrite_eq (s : State) (acc : Accessor) (p v : Nat) :
    lockWrite s acc p v =
      if v = 0x4C then { s with pins := { s.pins with lockSeq := (acc, p, s.time) :: otherLocks s acc } }
      else if lockOpen s acc p then { s with pins := { s.pins with lockSeq := otherLocks s acc, locked := lockedWith s p } }
      else { s with pins := { s.pins with lockSeq := otherLocks s acc } } := rfl

theorem mem_lockedWith {s : State} {p k : Nat} :
    k ∈ lockedWith s p ↔ if p = 96 then k < 96 else k = p ∨ k ∈ s.pins.locked := by
  unfold lockedWith
  split
  · exact List.mem_range
  · split
    next h =>
      have hp : p ∈ s.pins.locked := by simpa using h
      exact ⟨.inr, fun hk => hk.elim (fun e => e ▸ hp) id⟩
    next => exact List.mem_cons

/-- What a write to a lock does (R547). -/
theorem lockWrite_completes {c : Instr} {s : State} {acc : Accessor} {p : Nat} {d : List Byte} (hp : p ≤ 96)
    (h : exec c s = .next (settle (emit (lockWrite s acc p (ofLe d)) (.answer acc 0 [])))) :
    (ofLe d = 0x4C → Completes c s fun u => Answered acc u ∧
        u = { s with pins := { s.pins with lockSeq := (acc, p, s.time) :: otherLocks s acc }, out := u.out }) ∧
      (ofLe d ≠ 0x4C → lockOpen s acc p = true → Completes c s fun u => Answered acc u ∧ (∀ k, k < 96 → k = p ∨ p = 96 → k ∈ u.pins.locked) ∧
        (∀ k, k ∈ s.pins.locked → k < 96 → k ∈ u.pins.locked) ∧ (p < 96 → ∀ k ∈ u.pins.locked, k = p ∨ k ∈ s.pins.locked) ∧
        u = { s with pins := { s.pins with lockSeq := otherLocks s acc, locked := u.pins.locked }, out := u.out }) ∧
      (ofLe d ≠ 0x4C → lockOpen s acc p = false → Completes c s fun u => Answered acc u ∧
        u = { s with pins := { s.pins with lockSeq := otherLocks s acc }, out := u.out }) := by
  rw [lockWrite_eq] at h
  refine ⟨fun hv => ?_, fun hv hopen => ?_, fun hv hopen => ?_⟩
  · rw [if_pos hv] at h
    exact ⟨_, h, answered_emit acc _, rfl⟩
  · rw [if_neg hv, if_pos hopen] at h
    refine ⟨_, h, answered_emit acc _, fun k hk hkp => ?_, fun k hkl hk => ?_, fun hlow k hk => ?_, rfl⟩
    · refine mem_lockedWith.2 ?_
      split
      · exact hk
      · exact .inl (by omega)
    · refine mem_lockedWith.2 ?_
      split
      · exact hk
      · exact .inr hkl
    · have hmem := mem_lockedWith.1 hk
      rwa [if_neg (by omega)] at hmem
  · rw [if_neg hv, if_neg (by simp [hopen])] at h
    exact ⟨_, h, answered_emit acc _, rfl⟩

/-! ## The obligation -/

theorem bankLevel_eq (was : Bool) (n : Nat) {top low : Nat} (mv held : Nat) (htop : 90 * n = 100 * top) (hlow : 85 * n = 100 * low) :
    bankLevel was n mv held = if top < mv then was || decide (10 ≤ held) else if mv < low then false else was := by
  unfold bankLevel
  exact if_congr (by omega) rfl (if_congr (by omega) rfl rfl)

/-- Settles O58. -/
theorem pinsChange : Obligations.PinsChange := by
  intro s
  refine ⟨fun acc d => ⟨fun q h => lockWrite_completes (by omega) ?_, fun h => lockWrite_completes (Nat.le_refl 96) ?_⟩, fun p v hv => ?_, fun p hp => ?_,
    fun mv held => ⟨?_, ?_⟩⟩
  · rw [← writeCommand_pinLock h]
    rfl
  · rw [← writeCommand_lockAll h]
    rfl
  · refine ⟨sat { s with pins := { s.pins with mismatched := tabSet s.pins.mismatched p.val (1 - v) } } (pinIdx p.val) 0x0B,
      by simp [exec, execDriveMismatch, hv, done], ?_, keepsObjects_put _ _ _ _ (by simp), rfl⟩
    rw [sat, satBy, get_put_same _ _ _ (by simp [isLogIdx, pinIdx]; omega)]
    rfl
  · exact ⟨s, by simp [exec, execDriveMismatch, hp, done], rfl⟩
  · refine ⟨_, rfl, ?_⟩
    rw [if_pos rfl, bankLevel_eq _ _ _ _ (top := 2970) (low := 2805) rfl rfl]
  · refine ⟨_, rfl, ?_⟩
    rw [if_neg (by decide), bankLevel_eq _ _ _ _ (top := 1620) (low := 1530) rfl rfl]

end Sys2Proof.Machine

/-! # Axes: the rules of their operations, and driver faults (R469 to R496) -/

namespace Sys2Proof.Machine

/-! ## What an operation of axes leaves -/

/-- Nothing but axes, objects, the log block and what is sent differs. -/
def SameButAxes (s t : State) : Prop := t = { s with dict := t.dict, axes := t.axes, log := t.log, net := t.net, out := t.out }

theorem SameButAxes.refl (s : State) : SameButAxes s s := rfl

theorem SameButAxes.trans {s t u : State} (h : SameButAxes s t) (k : SameButAxes t u) : SameButAxes s u := by
  unfold SameButAxes at *
  rw [k, h]

theorem SameButAxes.md {s t : State} (h : SameButAxes s t) : t.md = s.md := by rw [h]
theorem SameButAxes.time {s t : State} (h : SameButAxes s t) : t.time = s.time := by rw [h]
theorem SameButAxes.sheets {s t : State} (h : SameButAxes s t) : t.sheets = s.sheets := by rw [h]
theorem SameButAxes.pins {s t : State} (h : SameButAxes s t) : t.pins = s.pins := by rw [h]
theorem SameButAxes.motors {s t : State} (h : SameButAxes s t) : t.motors = s.motors := by rw [h]

theorem SameButLog.sameButAxes {s t : State} (h : SameButLog s t) : SameButAxes s t := by
  unfold SameButLog at h
  unfold SameButAxes
  rw [h]

/-- An operation of one axis: it leaves the other axes and every object that is not of its own. -/
structure AxisOp (a : Nat) (s t : State) : Prop where
  same : SameButAxes s t
  others : ∀ b, b ≠ a → axis t b = axis s b
  keys : ∀ k, k / 256 ≠ axIdx a → tabFind t.dict k = tabFind s.dict k

theorem AxisOp.refl (a : Nat) (s : State) : AxisOp a s s := ⟨rfl, fun _ _ => rfl, fun _ _ => rfl⟩

theorem AxisOp.trans {a : Nat} {s t u : State} (h : AxisOp a s t) (k : AxisOp a t u) : AxisOp a s u :=
  ⟨h.same.trans k.same, fun b hb => (k.others b hb).trans (h.others b hb), fun n hn => (k.keys n hn).trans (h.keys n hn)⟩

theorem AxisOp.md {a : Nat} {s t : State} (h : AxisOp a s t) : t.md = s.md := h.same.md
theorem AxisOp.time {a : Nat} {s t : State} (h : AxisOp a s t) : t.time = s.time := h.same.time
theorem AxisOp.sheets {a : Nat} {s t : State} (h : AxisOp a s t) : t.sheets = s.sheets := h.same.sheets
theorem AxisOp.pins {a : Nat} {s t : State} (h : AxisOp a s t) : t.pins = s.pins := h.same.pins

theorem AxisOp.get {a : Nat} {s t : State} (h : AxisOp a s t) {i j : Nat} (hi : isLogIdx i = false) (hk : keyOf i j / 256 ≠ axIdx a) :
    Machine.get t i j = Machine.get s i j := by rw [get_dict _ _ hi, get_dict _ _ hi, h.keys _ hk]

theorem axisOp_setAxis (s : State) (a : Nat) (f : Axis → Axis) : AxisOp a s (setAxis s a f) := ⟨rfl, fun _ hb => axis_setAxis_other _ _ hb, fun _ _ => rfl⟩

theorem axisOp_put (s : State) (a : Nat) {j : Nat} (v : Nat) (hj : j < 256) : AxisOp a s (put s (axIdx a) j v) :=
  ⟨rfl, fun _ _ => rfl, fun k hk => tabFind_tabSet_other _ _ (by rintro rfl; unfold keyOf at hk; omega)⟩

theorem SameButLog.axisOp {s t : State} (h : SameButLog s t) (a : Nat) : AxisOp a s t :=
  ⟨h.sameButAxes, fun b _ => by simp [axis, h.axes], fun _ _ => by rw [h.dict]⟩

theorem axisOp_setHomed (s : State) (a : Nat) (b : Bool) : AxisOp a s (setHomed s a b) := axisOp_put s a _ (by decide)

theorem axisOp_settlePosition (s : State) (a : Nat) (pos : Int) (steps : Nat) : AxisOp a s (settlePosition s a pos steps) :=
  (axisOp_setAxis s a _).trans ((axisOp_put _ a _ (by decide)).trans (axisOp_put _ a _ (by decide)))

/-! ## The objects of an axis -/

theorem isLogIdx_axIdx (a : Nat) : isLogIdx (axIdx a) = false := by simp [isLogIdx, axIdx]; omega

theorem get_put_axis (s : State) (a j k v : Nat) : get (put s (axIdx a) j v) (axIdx a) k = if k = j then v else get s (axIdx a) k := by
  split
  next h => rw [h, get_put_same _ _ _ (isLogIdx_axIdx a)]
  next h => rw [get_put_other _ _ (by unfold keyOf; omega)]

theorem get_sat_axis (s : State) (a j k : Nat) :
    get (sat s (axIdx a) j) (axIdx a) k = if k = j then min (get s (axIdx a) j + 1) 65535 else get s (axIdx a) k := get_put_axis s a j k _

theorem axis_put (s : State) (i j v k : Nat) : axis (put s i j v) k = axis s k := rfl

theorem axis_sat (s : State) (i j k : Nat) : axis (sat s i j) k = axis s k := rfl

theorem get_setHomed (s : State) (a k : Nat) (b : Bool) : get (setHomed s a b) (axIdx a) k = if k = 0x32 then ofBool b else get s (axIdx a) k :=
  get_put_axis s a 0x32 k _

theorem get_settlePosition (s : State) (a : Nat) (pos : Int) (steps k : Nat) :
    get (settlePosition s a pos steps) (axIdx a) k =
      if k = 0x31 then sImg 32 pos else if k = 0x3E then (get s (axIdx a) 0x3E + steps) % 2 ^ 64 else get s (axIdx a) k := by
  unfold settlePosition
  simp only [wrapBy, putS, get_put_axis, get_setAxis]
  split
  next h => simp [h]
  next h => split <;> rfl

theorem axis_settlePosition (s : State) (a : Nat) (pos : Int) (steps : Nat) :
    ∃ p q, axis (settlePosition s a pos steps) a = { axis s a with limN := p, limP := q } :=
  ⟨_, _, axis_setAxis_same s a fun x =>
    { x with limN := x.limN && (!decide (getS s 32 (axIdx a) 0x31 < pos) || s.pins.conflicts.contains (0x1003 + 16 * a)),
             limP := x.limP && (!decide (pos < getS s 32 (axIdx a) 0x31) || s.pins.conflicts.contains (0x1004 + 16 * a)) }⟩

theorem get_of_sameButLog {s t : State} (h : SameButLog s t) (a k : Nat) : get t (axIdx a) k = get s (axIdx a) k := h.get k (isLogIdx_axIdx a)

theorem axis_of_sameButLog {s t : State} (h : SameButLog s t) (a : Nat) : axis t a = axis s a := by simp [axis, h.axes]

/-! ## Stops (R484, R487) -/

theorem hardStop_none {s : State} {a : Nat} (h : (axis s a).move = none) : hardStop s a = setAxis s a fun y => { y with queue := none } := by
  simp [hardStop, h]

/-- What a hard stop leaves of a motion (R487, R488). -/
def hardRest (s : State) (a : Nat) (m : Move) : Option Move :=
  if (axis s a).homing.isSome then none
  else match (axis s a).stopped with
    | some r => some { r with dist := r.dist + along m.dist (m.dist.natAbs - m.steps s.time), lead := r.lead + (m.dist.natAbs - m.steps s.time) }
    | none => some { m with dist := m.dist - along m.dist (m.steps s.time), lead := m.lead - m.leadSteps s.time, cut := none }

/-- The position where a hard stop leaves an axis, HOMED lost above the start-stop rate. -/
def stoppedAt (s : State) (a : Nat) (m : Move) : State :=
  let t := settlePosition s a (m.from_ + along m.dist (m.steps s.time)) (m.steps s.time)
  if get s (axIdx a) 9 < m.vel s.time then setHomed t a false else t

theorem hardStop_some {s : State} {a : Nat} {m : Move} (h : (axis s a).move = some m) :
    hardStop s a = setAxis (stoppedAt s a m) a fun y =>
      { y with state := 4, move := none, queue := none, homing := none, stopped := hardRest s a m } := by
  simp [hardStop, h, stoppedAt, hardRest] <;> rfl

theorem axisOp_stoppedAt (s : State) (a : Nat) (m : Move) : AxisOp a s (stoppedAt s a m) := by
  unfold stoppedAt
  simp only
  split
  · exact (axisOp_settlePosition s a _ _).trans (axisOp_setHomed _ _ _)
  · exact axisOp_settlePosition _ _ _ _

theorem axis_stoppedAt (s : State) (a : Nat) (m : Move) : ∃ p q, axis (stoppedAt s a m) a = { axis s a with limN := p, limP := q } := by
  unfold stoppedAt
  simp only
  split
  · exact axis_settlePosition s a (m.from_ + along m.dist (m.steps s.time)) (m.steps s.time)
  · exact axis_settlePosition s a _ _

theorem get_stoppedAt (s : State) (a : Nat) (m : Move) (k : Nat) :
    get (stoppedAt s a m) (axIdx a) k =
      if k = 0x32 ∧ get s (axIdx a) 9 < m.vel s.time then 0
      else if k = 0x31 then sImg 32 (m.from_ + along m.dist (m.steps s.time))
      else if k = 0x3E then (get s (axIdx a) 0x3E + m.steps s.time) % 2 ^ 64 else get s (axIdx a) k := by
  unfold stoppedAt
  simp only
  split
  next h =>
    rw [get_setHomed, get_settlePosition]
    by_cases hk : k = 0x32
    · simp [hk, h, ofBool]
    · simp [hk]
  next h => simp [h, get_settlePosition]

theorem axisOp_hardStop (s : State) (a : Nat) : AxisOp a s (hardStop s a) := by
  cases h : (axis s a).move with
  | none =>
    rw [hardStop_none h]
    exact axisOp_setAxis _ _ _
  | some m =>
    rw [hardStop_some h]
    exact (axisOp_stoppedAt s a m).trans (axisOp_setAxis _ _ _)

theorem get_hardStop (s : State) (a : Nat) {k : Nat} (hk : k ≠ 0x31 ∧ k ≠ 0x32 ∧ k ≠ 0x3E) : get (hardStop s a) (axIdx a) k = get s (axIdx a) k := by
  obtain ⟨h31, h32, h3E⟩ := hk
  cases h : (axis s a).move with
  | none => rw [hardStop_none h, get_setAxis]
  | some m => rw [hardStop_some h, get_setAxis, get_stoppedAt]; simp [h31, h32, h3E]

theorem axis_hardStop_some {s : State} {a : Nat} {m : Move} (h : (axis s a).move = some m) :
    ∃ p q, axis (hardStop s a) a =
      { axis s a with limN := p, limP := q, state := 4, move := none, queue := none, homing := none, stopped := hardRest s a m } := by
  obtain ⟨p, q, hax⟩ := axis_stoppedAt s a m
  refine ⟨p, q, ?_⟩
  rw [hardStop_some h, axis_setAxis_same, hax]

theorem axis_hardStop_none {s : State} {a : Nat} (h : (axis s a).move = none) : axis (hardStop s a) a = { axis s a with queue := none } := by
  rw [hardStop_none h, axis_setAxis_same]

/-- A property of one axis that every hard stop keeps. -/
theorem hardStop_keepsAxis {P : Axis → Prop} (hnone : ∀ x : Axis, P x → x.move = none → P { x with queue := none })
    (hsome : ∀ (x : Axis) (p q : Bool) (r : Option Move), P x →
      P { x with limN := p, limP := q, state := 4, move := none, queue := none, homing := none, stopped := r })
    (s : State) (b a : Nat) (h : P (axis s a)) : P (axis (hardStop s b) a) := by
  by_cases hab : a = b
  · subst hab
    cases hm : (axis s a).move with
    | none =>
      rw [axis_hardStop_none hm]
      exact hnone _ h hm
    | some m =>
      obtain ⟨p, q, hax⟩ := axis_hardStop_some hm
      rw [hax]
      exact hsome _ _ _ _ h
  · rw [(axisOp_hardStop s b).others a hab]
    exact h

theorem hardStop_fltIn (s : State) (b a : Nat) : (axis (hardStop s b) a).fltIn = (axis s a).fltIn :=
  hardStop_keepsAxis (P := fun x => x.fltIn = (axis s a).fltIn) (fun _ h _ => h) (fun _ _ _ _ h => h) s b a rfl

/-- The objects of an axis that no stop of any axis touches. -/
theorem get_hardStop_any (s : State) (b a : Nat) {k : Nat} (hk : k ≠ 0x31 ∧ k ≠ 0x32 ∧ k ≠ 0x3E) (hlow : k < 256) :
    get (hardStop s b) (axIdx a) k = get s (axIdx a) k := by
  by_cases hab : a = b
  · rw [hab, get_hardStop s b hk]
  · exact (axisOp_hardStop s b).get (isLogIdx_axIdx a) (by unfold keyOf axIdx; omega)

theorem stopAxis_hard (s : State) (a : Nat) : stopAxis s a true = forEach (stopSet s a) hardStop s := by simp [stopAxis]

/-- What a hard stop of a set of axes keeps. -/
structure HardStops (s t : State) : Prop where
  same : SameButAxes s t
  fltIn : ∀ a, (axis t a).fltIn = (axis s a).fltIn
  objects : ∀ a k, k ≠ 0x31 ∧ k ≠ 0x32 ∧ k ≠ 0x3E → k < 256 → get t (axIdx a) k = get s (axIdx a) k

theorem hardStops (l : List Nat) (s : State) : HardStops s (forEach l hardStop s) :=
  foldl_keeps (HardStops s) l hardStop s (fun u b _ h => ⟨h.same.trans (axisOp_hardStop u b).same, fun a => (hardStop_fltIn u b a).trans (h.fltIn a),
    fun a _ hk hlow => (get_hardStop_any u b a hk hlow).trans (h.objects a _ hk hlow)⟩) ⟨rfl, fun _ => rfl, fun _ _ _ _ => rfl⟩

/-! ## Driver faults (R495, R563) -/

/-- The sheets that need an axis or a motor are spilled (R25). -/
theorem spillPath_spoils (s : State) (b : Nat) {sh : Sheet} (h : sh ∈ s.sheets) (hc : sh.committed = true) (hm : sh.mask.testBit b = true) :
    ∃ y ∈ (spillPath s b).sheets, y.uid = sh.uid ∧ y.spoiled = true :=
  ⟨sh.spill none, List.mem_map.2 ⟨sh, h, by simp [hc, hm]⟩, rfl, rfl⟩

theorem spillPath_eq (s : State) (b : Nat) : spillPath s b = { s with sheets := (spillPath s b).sheets } := rfl

/-- A driver fault as it is recorded, before its sheets spill. -/
def driverStopped (s : State) (a : Nat) : State :=
  let t := setAxis (stopAxis s a true) a fun x => { x with state := 6, en := false, homing := none, deferred := none, queue := none }
  logEvent (sat (put t (axIdx a) 0x35 1) (axIdx a) 0x36) clsFault 0x0C a (axIdx a) 0x35

theorem driverFaultRecord_eq (s : State) (a : Nat) : driverFaultRecord s a = setHomed (spillPath (driverStopped s a) a) a false := rfl

/-- What the record of a driver fault shows (R495). -/
structure DriverFaulted (s : State) (a : Nat) (t : State) : Prop where
  md : t.md = s.md
  time : t.time = s.time
  flt : (axis t a).fltIn = (axis s a).fltIn
  state : (axis t a).state = 6
  en : (axis t a).en = false
  code : get t (axIdx a) 0x35 = 1
  count : get t (axIdx a) 0x36 = min (get s (axIdx a) 0x36 + 1) 65535
  homed : get t (axIdx a) 0x32 = 0
  spills : ∀ sh ∈ s.sheets, sh.committed = true → sh.mask.testBit a = true → ∃ y ∈ t.sheets, y.uid = sh.uid ∧ y.spoiled = true

theorem driverFaultRecord_shows (s : State) (a : Nat) : DriverFaulted s a (driverFaultRecord s a) := by
  have hstops := hardStops (stopSet s a) s
  rw [driverFaultRecord_eq, driverStopped, stopAxis_hard]
  generalize forEach (stopSet s a) hardStop s = t at hstops ⊢
  have hlog := logEvent_sameButLog (sat (put (setAxis t a fun x => { x with state := 6, en := false, homing := none, deferred := none, queue := none })
    (axIdx a) 0x35 1) (axIdx a) 0x36) clsFault 0x0C a (axIdx a) 0x35
  generalize logEvent (sat (put (setAxis t a _) (axIdx a) 0x35 1) (axIdx a) 0x36) clsFault 0x0C a (axIdx a) 0x35 = u at hlog ⊢
  have hax : axis u a = { axis t a with state := 6, en := false, homing := none, deferred := none, queue := none } := by
    rw [axis_of_sameButLog hlog, axis_sat, axis_put, axis_setAxis_same]
  have hget (k : Nat) (hk : k ≠ 0x32) : get (setHomed (spillPath u a) a false) (axIdx a) k = get u (axIdx a) k := by
    rw [get_setHomed, if_neg hk]
    rfl
  have hsheets : u.sheets = s.sheets := hlog.sheets.trans hstops.same.sheets
  refine ⟨hlog.md.trans hstops.same.md, hlog.time.trans hstops.same.time, ?_, ?_, ?_, ?_, ?_, ?_, fun sh hsh hc hm => ?_⟩
  · show (axis u a).fltIn = _
    rw [hax, ← hstops.fltIn a]
  · show (axis u a).state = 6
    rw [hax]
  · show (axis u a).en = false
    rw [hax]
  · rw [hget _ (by decide), get_of_sameButLog hlog, get_sat_axis, if_neg (by decide), get_put_axis, if_pos rfl]
  · rw [hget _ (by decide), get_of_sameButLog hlog, get_sat_axis, if_pos rfl, get_put_axis, if_neg (by decide), get_setAxis,
      hstops.objects a _ (by decide) (by decide)]
  · rw [get_setHomed, if_pos rfl]
    rfl
  · exact spillPath_spoils u a (hsheets ▸ hsh) hc hm

theorem driverDouble_stops {s : State} (a : Nat) (h : s.md.mode ∈ operating) :
    (driverDouble s a).md.mode = .safestop ∧ get (driverDouble s a) 0x2000 5 = 7 := by
  have hlog := doubleFault_sameButLog (setAxis s a fun x => { x with reenable := false }) .axisDriver a 1 0x0C (axIdx a) 0x35
  obtain ⟨hmode, hcause, -⟩ := safestopBy_operating (s := doubleFault (setAxis s a fun x => { x with reenable := false }) .axisDriver a 1 0x0C (axIdx a) 0x35)
    (by rw [hlog.md]; exact h) 7 (causeInst .axisDriver a)
  exact ⟨hmode, hcause⟩

theorem driverFault_eq (s : State) (a : Nat) :
    driverFault s a = if servedWithin s .axisDriver a (ticksS 10) then driverDouble (driverFaultRecord s a) a
      else if s.md.mode = .safestop then driverFaultRecord s a
      else setAxis (serveBegin (driverFaultRecord s a) .axisDriver a 1 0x0C (axIdx a) 0x35) a fun x => { x with reenable := true } := rfl

/-- The first driver fault asks for a re-enable as its second serve. -/
theorem driverFault_first {s : State} {a : Nat} (hserved : servedWithin s .axisDriver a (ticksS 10) = false) (hmode : s.md.mode ≠ .safestop) :
    DriverFaulted s a (driverFault s a) ∧ (axis (driverFault s a) a).reenable = true ∧ serving (driverFault s a) .axisDriver a = true := by
  rw [driverFault_eq, hserved, if_neg (by simp), if_neg hmode]
  have h := driverFaultRecord_shows s a
  generalize driverFaultRecord s a = t at h ⊢
  have hlog := serveBegin_sameButLog t .axisDriver a 1 0x0C (axIdx a) 0x35
  have hserves := serving_serveBegin t .axisDriver a 1 0x0C (axIdx a) 0x35
  generalize serveBegin t .axisDriver a 1 0x0C (axIdx a) 0x35 = u at hlog hserves ⊢
  have hax := axis_of_sameButLog hlog a
  refine ⟨⟨hlog.md.trans h.md, hlog.time.trans h.time, ?_, ?_, ?_, ?_, ?_, ?_, ?_⟩, by simp, hserves⟩
  · simpa [hax] using h.flt
  · simpa [hax] using h.state
  · simpa [hax] using h.en
  · exact (get_of_sameButLog hlog a _).trans h.code
  · exact (get_of_sameButLog hlog a _).trans h.count
  · exact (get_of_sameButLog hlog a _).trans h.homed
  · rw [show (setAxis u a fun x => { x with reenable := true }).sheets = t.sheets from hlog.sheets]
    exact h.spills

theorem driverFault_again {s : State} {a : Nat} (hserved : servedWithin s .axisDriver a (ticksS 10) = true) (hmode : s.md.mode ∈ operating) :
    (driverFault s a).md.mode = .safestop ∧ get (driverFault s a) 0x2000 5 = 7 := by
  rw [driverFault_eq, if_pos hserved]
  exact driverDouble_stops a (by rw [(driverFaultRecord_shows s a).md]; exact hmode)

/-- A second serve that has passed runs no more (R555). -/
theorem serving_servePass (s : State) (m : Mech) (n src i j : Nat) : serving (servePass s m n src i j) m n = false := by
  unfold servePass
  cases hof : serveOf s m n with
  | none => simp [serving, hof]
  | some r =>
    simp only
    by_cases hrun : r.running = true
    · rw [if_pos hrun]
      have hlog (u : State) (h : serving u m n = false) : serving (log (wrapLog 32 u 0x2400 2) clsNotice 3 src n i j none r.code) m n = false := by
        rw [← h]
        exact serving_congr (congrArg ServeList.serves (log_serveList _ _ _ _ _ _ _ _ _)) m n
      have hr : Serve.isOf m n r = true := List.find?_some hof
      exact hlog _ (by simp [serving, serveOf, serveDrop, show Serve.isOf m n { r with running := false, done := some s.time } = true from hr])
    · rw [if_neg hrun]
      simpa [serving, hof] using hrun

/-- Settles O54. -/
theorem axisDrivers : Obligations.AxisDrivers := by
  intro a s
  have hexec : exec (.axisDriverFault a) s = .next (settle (fltActive s a.val)) := rfl
  refine ⟨fun h => ?_, fun hflt h0 h6 => ⟨fun hserved hmode => ?_, fun hserved hmode => ?_⟩, fun hre h6 hmode hflt => ?_, fun hre h6 hmode hflt => ?_,
    fun h => ?_, fun h => ?_, fun h => ?_⟩
  · refine ⟨setAxis s a.val fun x => { x with fltIn := true }, ?_, axis_setAxis_same s a.val _, fun b hb => axis_setAxis_other _ _ hb, rfl⟩
    rw [hexec, fltActive, if_pos (by rcases h with h | h | h <;> simp [axState, h])]
  · have hfault : fltActive s a.val = driverFault (setAxis s a.val fun x => { x with fltIn := true }) a.val := by
      rw [fltActive, if_neg (by simp [axState, hflt, h0, h6])]
    refine ⟨_, hexec, ?_⟩
    rw [hfault]
    obtain ⟨h, hre, hserves⟩ := driverFault_first (s := setAxis s a.val fun x => { x with fltIn := true }) (a := a.val) hserved hmode
    exact ⟨h.flt.trans (by simp), h.state, h.en, hre, hserves, h.code, h.count, h.homed, h.md, h.spills⟩
  · have hfault : fltActive s a.val = driverFault (setAxis s a.val fun x => { x with fltIn := true }) a.val := by
      rw [fltActive, if_neg (by simp [axState, hflt, h0, h6])]
    refine ⟨_, hexec, ?_⟩
    rw [hfault]
    exact driverFault_again hserved hmode
  · refine ⟨servePass (setAxis s a.val fun x => { x with reenable := false, state := 1, en := true }) .axisDriver a.val 0x0C (axIdx a.val) 0x35,
      by simp [exec, execAxisReenable, hre, axState, h6, hmode, hflt, done], ?_⟩
    have hlog := servePass_sameButLog (setAxis s a.val fun x => { x with reenable := false, state := 1, en := true }) .axisDriver a.val 0x0C (axIdx a.val) 0x35
    refine ⟨?_, fun b hb => ?_, serving_servePass _ _ _ _ _ _, hlog.dict, hlog.md⟩
    · rw [axis_of_sameButLog hlog, axis_setAxis_same]
    · rw [axis_of_sameButLog hlog, axis_setAxis_other _ _ hb]
  · have hne : s.md.mode ≠ .safestop := (ne_of_operating hmode).2.2.1
    exact ⟨driverDouble s a.val, by simp [exec, execAxisReenable, hre, axState, h6, hne, hflt, done], driverDouble_stops a.val hmode⟩
  · refine ⟨s, ?_, rfl⟩
    have hoff : ¬((axis s a.val).reenable && axState s a.val == 6 && s.md.mode != .safestop) = true := by
      rcases h with h | h | h <;> simp [axState, h]
    simp [exec, execAxisReenable, hoff, done]
  · exact ⟨s, by simp [exec, execAxisFltInactive, h, done], rfl⟩
  · refine ⟨fltInactive s a.val, by simp [exec, execAxisFltInactive, h, done], ?_⟩
    have hlog := causeEnd_sameButLog (setAxis s a.val fun x => { x with fltIn := false }) 7 (causeInst .axisDriver a.val)
    refine ⟨?_, fun b hb => ?_, not_mem_causeEnd _ _ _, hlog.dict, hlog.md⟩
    · rw [fltInactive, axis_of_sameButLog hlog, axis_setAxis_same]
    · rw [fltInactive, axis_of_sameButLog hlog, axis_setAxis_other _ _ hb]

end Sys2Proof.Machine

/-! # Homing on its way (R482, R483, R544) -/

namespace Sys2Proof.Machine

/-! ## Operations that change one axis's state alone -/

/-- Nothing but the state of one axis differs. -/
structure OnlyAxis (a : Nat) (s t : State) : Prop where
  same : t = { s with axes := t.axes }
  others : ∀ b, b ≠ a → axis t b = axis s b

theorem OnlyAxis.refl (a : Nat) (s : State) : OnlyAxis a s s := ⟨rfl, fun _ _ => rfl⟩

theorem OnlyAxis.trans {a : Nat} {s t u : State} (h : OnlyAxis a s t) (k : OnlyAxis a t u) : OnlyAxis a s u :=
  ⟨by rw [k.same, h.same], fun b hb => (k.others b hb).trans (h.others b hb)⟩

theorem onlyAxis_setAxis (s : State) (a : Nat) (f : Axis → Axis) : OnlyAxis a s (setAxis s a f) := ⟨rfl, fun _ hb => axis_setAxis_other _ _ hb⟩

theorem OnlyAxis.dict {a : Nat} {s t : State} (h : OnlyAxis a s t) : t.dict = s.dict := by rw [h.same]
theorem OnlyAxis.log {a : Nat} {s t : State} (h : OnlyAxis a s t) : t.log = s.log := by rw [h.same]
theorem OnlyAxis.md {a : Nat} {s t : State} (h : OnlyAxis a s t) : t.md = s.md := by rw [h.same]
theorem OnlyAxis.sheets {a : Nat} {s t : State} (h : OnlyAxis a s t) : t.sheets = s.sheets := by rw [h.same]
theorem OnlyAxis.time {a : Nat} {s t : State} (h : OnlyAxis a s t) : t.time = s.time := by rw [h.same]

theorem OnlyAxis.get {a : Nat} {s t : State} (h : OnlyAxis a s t) (i j : Nat) : Machine.get t i j = Machine.get s i j := by rw [h.same]; rfl

theorem OnlyAxis.op {a : Nat} {s t : State} (h : OnlyAxis a s t) : AxisOp a s t :=
  ⟨by unfold SameButAxes; rw [h.same], h.others, fun _ _ => by rw [h.dict]⟩

theorem OnlyAxis.serving {a : Nat} {s t : State} (h : OnlyAxis a s t) (m : Mech) (n : Nat) : Machine.serving t m n = Machine.serving s m n :=
  serving_congr (by rw [h.log]) m n

theorem onlyAxis_toStandstill (s : State) (a : Nat) : OnlyAxis a s (toStandstill s a) := onlyAxis_setAxis _ _ _

theorem onlyAxis_noMove (s : State) (a : Nat) : OnlyAxis a s (noMove s a) := (onlyAxis_toStandstill s a).trans (onlyAxis_setAxis _ _ _)

theorem onlyAxis_runMove (s : State) (a : Nat) (m : Move) (w : Nat) : OnlyAxis a s (runMove s a m w) := onlyAxis_setAxis _ _ _

theorem onlyAxis_startMove (s : State) (a : Nat) (m : Move) : OnlyAxis a s (startMove s a m) := by
  unfold startMove
  split
  · exact onlyAxis_noMove _ _
  · exact onlyAxis_runMove _ _ _ _

theorem axis_toStandstill (s : State) (a : Nat) : axis (toStandstill s a) a = { axis s a with state := 1, move := none, homing := none } :=
  axis_setAxis_same s a _

theorem axis_noMove (s : State) (a : Nat) : axis (noMove s a) a = { axis s a with state := 1, move := none, homing := none, stopped := none } := by
  rw [noMove, axis_setAxis_same, axis_toStandstill]

theorem axis_runMove (s : State) (a : Nat) (m : Move) (w : Nat) : ∃ b, axis (runMove s a m w) a =
    { axis s a with state := 2, move := some { m with at_ := s.time + w }, stopped := none, en := true, short := false, ired := false, back := b } :=
  ⟨_, axis_setAxis_same s a _⟩

/-- A move that starts, or ends before its first step (R475, R485). -/
theorem axis_startMove (s : State) (a : Nat) (m : Move) :
    axis (startMove s a m) a = { axis s a with state := 1, move := none, homing := none, stopped := none } ∨
      ∃ b, axis (startMove s a m) a = { axis s a with state := 2, move := some { m with at_ := s.time + startWait s a m.dist }, stopped := none,
                                                      en := true, short := false, ired := false, back := b } := by
  unfold startMove
  split
  · exact .inl (axis_noMove s a)
  · exact .inr (axis_runMove s a m _)

/-- The axis comes to rest, with the queue's move if one waits. -/
def restingAxis (s : State) (a : Nat) : State := setAxis (toStandstill s a) a fun x => { x with queue := none, ired := false }

theorem restAxis_none {s : State} {a : Nat} (h : (axis s a).queue = none) : restAxis s a = restingAxis s a := by simp [restAxis, h, restingAxis]

theorem restAxis_some {s : State} {a r : Nat} (h : (axis s a).queue = some r) :
    restAxis s a = startMove (restingAxis s a) a (recordMove (restingAxis s a) a r) := by simp [restAxis, h, restingAxis]

theorem axis_restingAxis (s : State) (a : Nat) :
    axis (restingAxis s a) a = { axis s a with state := 1, move := none, homing := none, queue := none, ired := false } := by
  rw [restingAxis, axis_setAxis_same, axis_toStandstill]

theorem onlyAxis_restAxis (s : State) (a : Nat) : OnlyAxis a s (restAxis s a) := by
  have hrest : OnlyAxis a s (restingAxis s a) := (onlyAxis_toStandstill s a).trans (onlyAxis_setAxis _ _ _)
  cases h : (axis s a).queue with
  | none => rwa [restAxis_none h]
  | some r =>
    rw [restAxis_some h]
    exact hrest.trans (onlyAxis_startMove _ _ _)

theorem restAxis_shows (s : State) (a : Nat) :
    (axis (restAxis s a) a).homing = none ∧ (axis (restAxis s a) a).ired = false ∧ (axis (restAxis s a) a).indexIn = (axis s a).indexIn ∧
      ((axis s a).queue = none → (axis (restAxis s a) a).state = 1 ∧ (axis (restAxis s a) a).move = none) := by
  have hax := axis_restingAxis s a
  cases h : (axis s a).queue with
  | none =>
    rw [restAxis_none h, hax]
    exact ⟨rfl, rfl, rfl, fun _ => ⟨rfl, rfl⟩⟩
  | some r =>
    rw [restAxis_some h]
    rcases axis_startMove (restingAxis s a) a (recordMove (restingAxis s a) a r) with heq | ⟨b, heq⟩ <;> rw [heq, hax] <;>
      exact ⟨rfl, rfl, rfl, by simp⟩

/-! ## Where an axis stands -/

theorem sImg_sInt_add (w : Nat) (p k : Int) : sImg w (sInt w (sImg w p) + k) = sImg w (p + k) := by
  have hpos : (0 : Int) < (2 ^ w : Nat) := by exact_mod_cast Nat.two_pow_pos w
  have himg : ((sImg w p : Nat) : Int) = p % (2 ^ w : Nat) := Int.toNat_of_nonneg (Int.emod_nonneg _ (by omega))
  have hlow : sImg w p % 2 ^ w = sImg w p := by
    refine Nat.mod_eq_of_lt ?_
    have hlt := Int.emod_lt_of_pos p hpos
    rw [← himg] at hlt
    exact_mod_cast hlt
  have hint : sInt w (sImg w p) % (2 ^ w : Nat) = p % (2 ^ w : Nat) := by
    unfold sInt
    rw [hlow]
    split
    · rw [himg, Int.emod_emod_of_dvd _ (dvd_refl _)]
    · rw [himg, Int.sub_emod_right, Int.emod_emod_of_dvd _ (dvd_refl _)]
  unfold sImg at *
  rw [Int.add_emod, hint, ← Int.add_emod]

theorem freeze_none {s : State} {a : Nat} (h : (axis s a).move = none) : freeze s a = s := by simp [freeze, h]

theorem freeze_some {s : State} {a : Nat} {m : Move} (h : (axis s a).move = some m) :
    freeze s a = setAxis (settlePosition s a (positionNow s a) (m.steps s.time)) a fun x => { x with move := none } := by
  simp [freeze, h, positionNow]

theorem axisOp_freeze (s : State) (a : Nat) : AxisOp a s (freeze s a) := by
  cases h : (axis s a).move with
  | none =>
    rw [freeze_none h]
    exact .refl a s
  | some m =>
    rw [freeze_some h]
    exact (axisOp_settlePosition _ _ _ _).trans (axisOp_setAxis _ _ _)

theorem axis_freeze (s : State) (a : Nat) : ∃ p q, axis (freeze s a) a = { axis s a with limN := p, limP := q, move := none } := by
  cases h : (axis s a).move with
  | none =>
    rw [freeze_none h]
    exact ⟨_, _, by rw [← h]⟩
  | some m =>
    obtain ⟨p, q, hax⟩ := axis_settlePosition s a (positionNow s a) (m.steps s.time)
    refine ⟨p, q, ?_⟩
    rw [freeze_some h, axis_setAxis_same, hax]

theorem get_freeze (s : State) (a : Nat) {k : Nat} (hk : k ≠ 0x31 ∧ k ≠ 0x3E) : get (freeze s a) (axIdx a) k = get s (axIdx a) k := by
  cases h : (axis s a).move with
  | none => rw [freeze_none h]
  | some m => rw [freeze_some h, get_setAxis, get_settlePosition, if_neg hk.1, if_neg hk.2]

/-- The position stored once an axis stands is the one that it has come to. -/
theorem freeze_position (s : State) (a : Nat) (k : Int) : sImg 32 (getS (freeze s a) 32 (axIdx a) 0x31 + k) = sImg 32 (positionNow s a + k) := by
  cases h : (axis s a).move with
  | none => simp [freeze_none h, positionNow, h]
  | some m => rw [getS, freeze_some h, get_setAxis, get_settlePosition, if_pos rfl, sImg_sInt_add]

/-! ## The way back (R482) -/

theorem searchSign_congr {s t : State} {a : Nat} (h : get t (axIdx a) 0x41 = get s (axIdx a) 0x41) : searchSign t a = searchSign s a := by
  simp [searchSign, flag, h]

/-- What the turn of a search shows. -/
structure Turned (s : State) (a : Nat) (u : State) : Prop where
  op : AxisOp a s u
  homing : (axis u a).homing = some .back
  state : (axis u a).state = (axis s a).state
  position : get u (axIdx a) 0x31 = sImg 32 (positionNow s a + searchSign s a * ((homingStop s a).1 : Int))
  move : (axis u a).move = some { homingMove u a (-(searchSign s a)) (get s (axIdx a) 0x43) with
    at_ := s.time + (homingStop s a).2 + turnWait s a (homingMove u a (-(searchSign s a)) (get s (axIdx a) 0x43)).dist }

/-- The axis where its stop ends, before the way back. -/
def turnPoint (s : State) (a : Nat) : State :=
  settlePosition (freeze s a) a (getS (freeze s a) 32 (axIdx a) 0x31 + searchSign s a * ((homingStop s a).1 : Int)) (homingStop s a).1

theorem homingBack_eq (s : State) (a : Nat) :
    homingBack s a =
      let m := homingMove (turnPoint s a) a (-(searchSign (turnPoint s a) a)) (get (turnPoint s a) (axIdx a) 0x43)
      setAxis (turnPoint s a) a fun x =>
        { x with homing := some .back, back := decide (m.dist < 0), move := some { m with at_ := s.time + (homingStop s a).2 + turnWait s a m.dist } } := rfl

theorem homingBack_turned (s : State) (a : Nat) : Turned s a (homingBack s a) := by
  have hop : AxisOp a s (turnPoint s a) := (axisOp_freeze s a).trans (axisOp_settlePosition _ _ _ _)
  obtain ⟨p, q, hfrozen⟩ := axis_freeze s a
  have hax : (axis (turnPoint s a) a).state = (axis s a).state := by
    obtain ⟨p', q', h⟩ := axis_settlePosition (freeze s a) a (getS (freeze s a) 32 (axIdx a) 0x31 + searchSign s a * ((homingStop s a).1 : Int))
      (homingStop s a).1
    rw [turnPoint, h, hfrozen]
  have hget (k : Nat) (hk : k ≠ 0x31 ∧ k ≠ 0x3E) : get (turnPoint s a) (axIdx a) k = get s (axIdx a) k := by
    rw [turnPoint, get_settlePosition, if_neg hk.1, if_neg hk.2, get_freeze s a hk]
  have hpos : get (turnPoint s a) (axIdx a) 0x31 = sImg 32 (positionNow s a + searchSign s a * ((homingStop s a).1 : Int)) := by
    rw [turnPoint, get_settlePosition, if_pos rfl, freeze_position]
  rw [homingBack_eq]
  generalize turnPoint s a = t at hop hax hget hpos ⊢
  simp only [hget 0x43 (by decide), searchSign_congr (hget 0x41 (by decide))]
  exact ⟨hop.trans (axisOp_setAxis _ _ _), by rw [axis_setAxis_same], by rw [axis_setAxis_same]; exact hax, hpos, by rw [axis_setAxis_same]; rfl⟩

/-! ## The latch (R482) -/

theorem homingDone_sameButLog (s : State) (a : Nat) : SameButLog (setHomed s a true) (homingDone s a) := servePass_sameButLog _ _ _ _ _ _

theorem axisOp_homingDone (s : State) (a : Nat) : AxisOp a s (homingDone s a) := (axisOp_setHomed s a true).trans ((homingDone_sameButLog s a).axisOp a)

theorem axis_homingDone (s : State) (a : Nat) : axis (homingDone s a) a = axis s a := by
  rw [axis_of_sameButLog (homingDone_sameButLog s a), axis_setHomed]

theorem get_homingDone (s : State) (a k : Nat) : get (homingDone s a) (axIdx a) k = if k = 0x32 then 1 else get s (axIdx a) k := by
  rw [get_of_sameButLog (homingDone_sameButLog s a), get_setHomed]
  rfl

theorem serving_homingDone (s : State) (a : Nat) : serving (homingDone s a) .axisLimit a = false := serving_servePass _ _ _ _ _ _

/-- A homing that has found its position. -/
structure Found (s : State) (a : Nat) (u : State) : Prop where
  op : AxisOp a s u
  homing : (axis u a).homing = none
  position : get u (axIdx a) 0x31 = sImg 32 (getS s 32 (axIdx a) 0x45)
  homed : get u (axIdx a) 0x32 = 1
  serves : serving u .axisLimit a = false
  ired : (axis u a).ired = false
  indexIn : (axis u a).indexIn = (axis s a).indexIn

/-- The position set and HOMED, on an axis that has stood where its motion came to. -/
def positioned (t : State) (a : Nat) (v : Int) : State := homingDone (putS t 32 (axIdx a) 0x31 v) a

theorem axis_positioned (t : State) (a : Nat) (v : Int) : axis (positioned t a v) a = axis t a := by rw [positioned, axis_homingDone]; rfl

theorem found_of_positioned {s t u : State} {a : Nat} (ht : AxisOp a s t) (hu : OnlyAxis a (positioned t a (getS s 32 (axIdx a) 0x45)) u)
    (hhoming : (axis u a).homing = none) (hired : (axis u a).ired = false) (hindex : (axis u a).indexIn = (axis s a).indexIn) : Found s a u := by
  have hput : AxisOp a t (putS t 32 (axIdx a) 0x31 (getS s 32 (axIdx a) 0x45)) := axisOp_put t a _ (by decide)
  refine ⟨ht.trans (hput.trans ((axisOp_homingDone _ a).trans hu.op)), hhoming, ?_, ?_, ?_, hired, hindex⟩
  · rw [hu.get, positioned, get_homingDone, if_neg (by decide), putS, get_put_axis, if_pos rfl]
  · rw [hu.get, positioned, get_homingDone, if_pos rfl]
  · rw [hu.serving]
    exact serving_homingDone _ a

/-- What the latch edge shows: the axis rests, or decelerates. -/
structure Latched (s : State) (a : Nat) (u : State) : Prop where
  found : Found s a u
  rests : (axis s a).move = none ∨ (homingStop s a).1 = 0 → (axis s a).queue = none → (axis u a).state = 1 ∧ (axis u a).move = none
  slows : ∀ w : Move, (axis s a).move = some w → (homingStop s a).1 ≠ 0 → (axis u a).state = 2 ∧
    (axis u a).move = some { w with dist := along w.dist (homingStop s a).1, d := (profileSet s a 0).2.2.1, from_ := getS s 32 (axIdx a) 0x45,
                                    lead := (homingStop s a).1, cut := some { at_ := s.time, n := 0, v := w.leadVel s.time } }

theorem homingLatched_eq (s : State) (a : Nat) :
    homingLatched s a =
      let t := positioned (freeze s a) a (getS s 32 (axIdx a) 0x45)
      match (axis s a).move with
      | none => restAxis t a
      | some m =>
        if (homingStop s a).1 = 0 then restAxis t a
        else setAxis t a fun x =>
          { x with state := 2, homing := none, ired := false,
                   move := some { m with dist := along m.dist (homingStop s a).1, d := (profileSet s a 0).2.2.1, from_ := getS s 32 (axIdx a) 0x45,
                                         lead := (homingStop s a).1, cut := some { at_ := s.time, n := 0, v := m.leadVel s.time } } } := rfl

theorem homingLatched_shows (s : State) (a : Nat) : Latched s a (homingLatched s a) := by
  have hop := axisOp_freeze s a
  obtain ⟨p, q, hfrozen⟩ := axis_freeze s a
  have hax := axis_positioned (freeze s a) a (getS s 32 (axIdx a) 0x45)
  rw [hfrozen] at hax
  have hrest := restAxis_shows (positioned (freeze s a) a (getS s 32 (axIdx a) 0x45)) a
  have honly := onlyAxis_restAxis (positioned (freeze s a) a (getS s 32 (axIdx a) 0x45)) a
  rw [hax] at hrest
  have hfound : Found s a (restAxis (positioned (freeze s a) a (getS s 32 (axIdx a) 0x45)) a) :=
    found_of_positioned hop honly hrest.1 hrest.2.1 hrest.2.2.1
  rw [homingLatched_eq]
  cases hm : (axis s a).move with
  | none => exact ⟨hfound, fun _ => hrest.2.2.2, fun w hw => nomatch hm.symm.trans hw⟩
  | some m =>
    by_cases hn : (homingStop s a).1 = 0
    · simp only [hn, if_true]
      exact ⟨hfound, fun _ => hrest.2.2.2, fun w hw h0 => absurd hn h0⟩
    · simp only [hn, if_false]
      refine ⟨found_of_positioned hop (onlyAxis_setAxis _ _ _) ?_ ?_ ?_, fun h => by simp [hm, hn] at h, fun w hw _ => ?_⟩
      · rw [axis_setAxis_same]
      · rw [axis_setAxis_same]
      · rw [axis_setAxis_same, hax]
      · obtain rfl : m = w := by simpa [hm] using hw
        rw [axis_setAxis_same]
        exact ⟨rfl, rfl⟩

/-! ## The end of a search (R482, R483) -/

theorem hardStopFound_shows (s : State) (a : Nat) :
    Found s a (hardStopFound s a) ∧ ((axis s a).queue = none → (axis (hardStopFound s a) a).state = 1 ∧ (axis (hardStopFound s a) a).move = none) := by
  have key (t : State) (ht : AxisOp a s t) (hax : ∃ p q, axis t a = { axis s a with limN := p, limP := q }) :
      Found s a (restAxis (positioned t a (getS s 32 (axIdx a) 0x45)) a) ∧ ((axis s a).queue = none →
        (axis (restAxis (positioned t a (getS s 32 (axIdx a) 0x45)) a) a).state = 1 ∧
        (axis (restAxis (positioned t a (getS s 32 (axIdx a) 0x45)) a) a).move = none) := by
    obtain ⟨p, q, hax⟩ := hax
    obtain ⟨hhoming, hired, hindex, hrests⟩ := restAxis_shows (positioned t a (getS s 32 (axIdx a) 0x45)) a
    rw [axis_positioned, hax] at hindex hrests
    exact ⟨found_of_positioned ht (onlyAxis_restAxis _ a) hhoming hired hindex, hrests⟩
  unfold hardStopFound
  cases (axis s a).move with
  | none => exact key s (.refl a s) ⟨_, _, rfl⟩
  | some m => exact key _ (axisOp_settlePosition s a _ _) (axis_settlePosition s a _ _)

/-- A homing that fails (R483): the axis rests with fault code 2. -/
structure HomingLost (s : State) (a : Nat) (u : State) : Prop where
  op : AxisOp a s u
  homing : (axis u a).homing = none
  state : (axis u a).state = 1
  move : (axis u a).move = none
  code : get u (axIdx a) 0x35 = 2
  count : get u (axIdx a) 0x36 = min (get s (axIdx a) 0x36 + 1) 65535

theorem HomingLost.log {s : State} {a : Nat} {u v : State} (h : HomingLost s a u) (hlog : SameButLog u v) : HomingLost s a v := by
  have hax := axis_of_sameButLog hlog a
  exact ⟨h.op.trans (hlog.axisOp a), by rw [hax, h.homing], by rw [hax, h.state], by rw [hax, h.move], (get_of_sameButLog hlog a _).trans h.code,
    (get_of_sameButLog hlog a _).trans h.count⟩

/-- The axis at rest, the failure counted. -/
def failCounted (s : State) (a : Nat) : State :=
  sat (put (setAxis (toStandstill (freeze s a) a) a fun x => { x with ired := false, queue := none }) (axIdx a) 0x35 2) (axIdx a) 0x36

theorem failCounted_lost (s : State) (a : Nat) : HomingLost s a (failCounted s a) := by
  have hop := axisOp_freeze s a
  have hget := get_freeze s a (k := 0x36) (by decide)
  unfold failCounted
  generalize freeze s a = t at hop hget ⊢
  have hax : axis (sat (put (setAxis (toStandstill t a) a fun x => { x with ired := false, queue := none }) (axIdx a) 0x35 2) (axIdx a) 0x36) a =
      { axis t a with state := 1, move := none, homing := none, ired := false, queue := none } := by
    rw [axis_sat, axis_put, axis_setAxis_same, axis_toStandstill]
  refine ⟨hop.trans ((onlyAxis_toStandstill t a).op.trans ((axisOp_setAxis _ _ _).trans ((axisOp_put _ a _ (by decide)).trans (axisOp_put _ a _ (by decide))))),
    by rw [hax], by rw [hax], by rw [hax], ?_, ?_⟩
  · rw [get_sat_axis, if_neg (by decide), get_put_axis, if_pos rfl]
  · rw [get_sat_axis, if_pos rfl, get_put_axis, if_neg (by decide), get_setAxis, (onlyAxis_toStandstill t a).get, hget]

theorem homingFail_eq (s : State) (a : Nat) :
    homingFail s a =
      let t := logEvent (failCounted s a) clsFault 0x0C a (axIdx a) 0x35
      if serving t .axisLimit a then doubleFault t .axisLimit a 3 0x0C (axIdx a) 0x35 else t := rfl

theorem serving_doubleFault (s : State) (m : Mech) (n code src i j : Nat) : serving (doubleFault s m n code src i j) m n = false := by
  have hserves : (doubleFault s m n code src i j).log.serves = (serveDrop s m n).log.serves := congrArg ServeList.serves (log_serveList _ _ _ _ _ _ _ _ _)
  rw [serving_congr hserves]
  exact serving_serveDrop s m n

theorem homingFail_lost (s : State) (a : Nat) : HomingLost s a (homingFail s a) ∧ serving (homingFail s a) .axisLimit a = false := by
  have hlost := (failCounted_lost s a).log (logEvent_sameButLog _ clsFault 0x0C a (axIdx a) 0x35)
  rw [homingFail_eq]
  generalize logEvent (failCounted s a) clsFault 0x0C a (axIdx a) 0x35 = t at hlost ⊢
  simp only
  split
  · exact ⟨hlost.log (doubleFault_sameButLog _ _ _ _ _ _ _), serving_doubleFault _ _ _ _ _ _ _⟩
  next h => exact ⟨hlost, by simpa using h⟩

/-! ## The obligation -/

theorem Turned.shows {s u : State} {a : Nat} (h : Turned s a u) :
    ((∀ b, b ≠ a → axis u b = axis s b) ∧ u.md = s.md ∧ u.sheets = s.sheets) ∧ (axis u a).homing = some .back ∧ (axis u a).state = (axis s a).state ∧
      get u (axIdx a) 0x31 = sImg 32 (positionNow s a + searchSign s a * ((homingStop s a).1 : Int)) ∧
      (axis u a).move = some { homingMove u a (-(searchSign s a)) (get s (axIdx a) 0x43) with
        at_ := s.time + (homingStop s a).2 + turnWait s a (homingMove u a (-(searchSign s a)) (get s (axIdx a) 0x43)).dist } :=
  ⟨⟨h.op.others, h.op.md, h.op.sheets⟩, h.homing, h.state, h.position, h.move⟩

theorem Found.shows {s u : State} {a : Nat} (h : Found s a u) :
    ((∀ b, b ≠ a → axis u b = axis s b) ∧ u.md = s.md ∧ u.sheets = s.sheets) ∧ (axis u a).homing = none ∧
      get u (axIdx a) 0x31 = sImg 32 (getS s 32 (axIdx a) 0x45) ∧ get u (axIdx a) 0x32 = 1 ∧ serving u .axisLimit a = false ∧ (axis u a).ired = false :=
  ⟨⟨h.op.others, h.op.md, h.op.sheets⟩, h.homing, h.position, h.homed, h.serves, h.ired⟩

/-- The turn of a search that a limit brings, whose input was set before (R482). -/
theorem Turned.of_limit {s u : State} {a : Nat} {f : Axis → Axis} (hf : ∀ x, (f x).move = x.move ∧ (f x).back = x.back ∧ (f x).state = x.state)
    (h : Turned (setAxis s a f) a u) : Turned s a u := by
  obtain ⟨hmove, hback, hstate⟩ := hf (axis s a)
  have hstop : homingStop (setAxis s a f) a = homingStop s a := by simp only [homingStop, axis_setAxis_same, hmove]; rfl
  have hpos : positionNow (setAxis s a f) a = positionNow s a := by simp only [positionNow, axis_setAxis_same, hmove]; rfl
  have hwait (d : Int) : turnWait (setAxis s a f) a d = turnWait s a d := by simp only [turnWait, axis_setAxis_same, hback]; rfl
  have hsign : searchSign (setAxis s a f) a = searchSign s a := rfl
  refine ⟨(axisOp_setAxis s a f).trans h.op, h.homing, by rw [h.state, axis_setAxis_same, hstate], ?_, ?_⟩
  · rw [h.position, hpos, hstop, hsign]
  · rw [h.move, hstop, hwait, hsign]
    rfl

theorem HomingLost.of_limit {s u : State} {a : Nat} {f : Axis → Axis} (h : HomingLost (setAxis s a f) a u) : HomingLost s a u :=
  ⟨(axisOp_setAxis s a f).trans h.op, h.homing, h.state, h.move, h.code, h.count⟩

/-- The reached limit as its input shows it. -/
def limitSeen (positive : Bool) (x : Axis) : Axis := if positive then { x with limP := true } else { x with limN := true }

theorem limitSeen_keeps (positive : Bool) (x : Axis) :
    (limitSeen positive x).move = x.move ∧ (limitSeen positive x).back = x.back ∧ (limitSeen positive x).state = x.state ∧
      (limitSeen positive x).homing = x.homing := by
  cases positive <;> exact ⟨rfl, rfl, rfl, rfl⟩

theorem limitActive_homing {s : State} {a : Nat} {positive : Bool} {w : Move} (h5 : (axis s a).state = 5) (hw : (axis s a).move = some w)
    (hdir : if positive then 0 < w.dist else w.dist < 0) :
    limitActive s a positive = homingLimit (setAxis s a (limitSeen positive)) a positive := by
  have hto : (if positive then decide (0 < w.dist) else decide (w.dist < 0)) = true := by cases positive <;> simpa using hdir
  have hseen : (setAxis s a fun x => if positive = true then { x with limP := true } else { x with limN := true }) = setAxis s a (limitSeen positive) := rfl
  simp only [limitActive, hw, hto, axState, h5, if_true, Bool.not_true, Bool.false_eq_true, if_false, hseen]

/-- Settles O52. -/
theorem axesHome : Obligations.AxesHome := by
  intro a s
  have hlatch : exec (.homingLatch a) s = execHomingLatch a s := rfl
  refine ⟨fun hh hk hc => ?_, fun h => ?_, fun hh hk hc => ?_, fun hh hk hc => ?_, fun hh h1 h3 hc => ?_, fun hh hc => ?_, fun hh => ?_, fun hh hc => ?_,
    fun h5 hk => ?_, fun h5 hk => ?_, fun h5 => ?_, fun positive w h5 hw hdir => ⟨fun hk hh hflag => ?_, fun hno => ?_⟩⟩
  · exact ⟨homingBack s a.val, by simp [exec, execHomeActive, hh, hk, hc, done], (homingBack_turned s a.val).shows⟩
  · refine ⟨s, ?_, rfl⟩
    have hno : ¬((axis s a.val).homing = some .search ∧ (get s (axIdx a.val) 0x40 = 2 ∨ get s (axIdx a.val) 0x40 = 3) ∧
        (!inConflict s (0x1002 + 16 * a.val)) = true) := by
      rintro ⟨h1, h2, h3⟩
      rcases h with h | ⟨ha, hb⟩ | h
      · exact h h1
      · omega
      · exact h (by simpa using h3)
    simp only [exec, execHomeActive, if_neg hno]
    rfl
  · refine ⟨homingOnward s a.val, ?_, ⟨fun b hb => axis_setAxis_other _ _ hb, rfl, rfl⟩, rfl, ?_, ?_, fun w hw => ?_⟩
    · simp [hlatch, execHomingLatch, latchInput, hh, hk, hc, done]
    · rw [homingOnward, axis_setAxis_same]
    · rw [homingOnward, axis_setAxis_same]
    · rw [homingOnward, axis_setAxis_same, hw]
      rfl
  · have h := homingLatched_shows s a.val
    refine ⟨homingLatched s a.val, ?_, h.found.shows, h.rests, h.slows⟩
    have hin : inConflict s (latchInput s a.val) = false := by
      rw [latchInput, if_neg (by simp [hh]), if_pos hk]
      exact hc
    simp [hlatch, execHomingLatch, hin, hh, hk, done]
  · have h := homingLatched_shows s a.val
    refine ⟨homingLatched s a.val, ?_, h.found.shows, h.rests, h.slows⟩
    have hin : inConflict s (latchInput s a.val) = false := by
      rw [latchInput, if_neg (by simp [hh]), if_neg h1]
      exact hc
    simp [hlatch, execHomingLatch, hin, hh, h3, done]
  · have h := homingLatched_shows (setAxis s a.val fun x => { x with indexIn := true }) a.val
    have hstop : homingStop (setAxis s a.val fun x => { x with indexIn := true }) a.val = homingStop s a.val := by
      simp only [homingStop, axis_setAxis_same]
      rfl
    refine ⟨homingLatched (setAxis s a.val fun x => { x with indexIn := true }) a.val, ?_, ⟨?_, ?_, ?_⟩, ?_⟩
    · have hin : inConflict s (latchInput s a.val) = false := by
        rw [latchInput, if_pos hh]
        exact hc
      simp [hlatch, execHomingLatch, hin, hh, done]
    · obtain ⟨⟨hothers, hmd, hsheets⟩, hrest⟩ := h.found.shows
      exact ⟨⟨fun b hb => (hothers b hb).trans (axis_setAxis_other _ _ hb), hmd, hsheets⟩, hrest⟩
    · have hr := h.rests
      rw [hstop, axis_setAxis_same] at hr
      exact hr
    · have hr := h.slows
      rw [hstop, axis_setAxis_same] at hr
      exact hr
    · rw [h.found.indexIn, axis_setAxis_same]
  · refine ⟨s, ?_, rfl⟩
    have heq : execHomingLatch a s = done s := by
      unfold execHomingLatch
      rcases hh with hh | hh <;> simp [hh]
    rw [hlatch, heq]
    rfl
  · refine ⟨s, ?_, rfl⟩
    have hin : inConflict s (latchInput s a.val) = true := by
      rw [latchInput, if_pos hh]
      simpa using hc
    simp [hlatch, execHomingLatch, hin, done]
  · obtain ⟨hfound, hrests⟩ := hardStopFound_shows s a.val
    exact ⟨hardStopFound s a.val, by simp [exec, execHomingSearchEnd, axState, h5, hk, done], hfound.shows, hrests⟩
  · obtain ⟨h, hserves⟩ := homingFail_lost s a.val
    exact ⟨homingFail s a.val, by simp [exec, execHomingSearchEnd, axState, h5, hk, done], ⟨h.op.others, h.op.md, h.op.sheets⟩, h.homing, h.state, h.move,
      h.code, h.count, hserves⟩
  · exact ⟨s, by simp [exec, execHomingSearchEnd, axState, h5, done], rfl⟩
  · refine ⟨_, rfl, ?_⟩
    rw [limitActive_homing h5 hw hdir, homingLimit, if_pos ⟨hk, by rw [axis_setAxis_same, (limitSeen_keeps _ _).2.2.2, hh], hflag⟩]
    exact (Turned.of_limit (fun x => ⟨(limitSeen_keeps _ x).1, (limitSeen_keeps _ x).2.1, (limitSeen_keeps _ x).2.2.1⟩) (homingBack_turned _ a.val)).shows
  · refine ⟨_, rfl, ?_⟩
    obtain ⟨hlost, hserves⟩ := homingFail_lost (setAxis s a.val (limitSeen positive)) a.val
    have h := hlost.of_limit
    rw [limitActive_homing h5 hw hdir, homingLimit, if_neg]
    · exact ⟨⟨h.op.others, h.op.md, h.op.sheets⟩, h.homing, h.state, h.move, h.code, h.count, hserves⟩
    · rw [axis_setAxis_same, (limitSeen_keeps _ _).2.2.2]
      rintro ⟨h1, h2, h3⟩
      rcases hno with h | h | h
      · exact h h1
      · exact h h2
      · exact h h3

end Sys2Proof.Machine

/-! # Commands to axes (R471, R472, R475, R478, R479, R482, R487 to R490, R492) -/

namespace Sys2Proof.Machine

/-! ## A command as it is written -/

/-- The objects of an axis that are commands. -/
def AxisCommandSub (j : Nat) : Prop := j ∈ [0x38, 0x39, 0x3A, 0x3B, 0x3C]

theorem axisCommand_row (a : Fin 16) {j : Nat} (hj : AxisCommandSub j) : (writeRow (axIdx a.val) j).cls ≠ .rws ∧ (writeRow (axIdx a.val) j).ty ≠ .blob := by
  have hall : ∀ a : Fin 16, ∀ j ∈ [0x38, 0x39, 0x3A, 0x3B, 0x3C], (writeRow (axIdx a.val) j).cls ≠ .rws ∧ (writeRow (axIdx a.val) j).ty ≠ .blob := by
    decide +kernel
  exact hall a j hj

theorem writeEffect_axisCommand (s : State) (acc : Accessor) (a : Fin 16) {j : Nat} (hj : AxisCommandSub j) (v : Nat) (d : List Byte) :
    writeEffect s acc (writeRow (axIdx a.val) j) (axIdx a.val) j v d = (effectMotion s (axIdx a.val) j v, 0) := by
  obtain ⟨hcls, hty⟩ := axisCommand_row a hj
  have hidx : 0x4900 ≤ axIdx a.val ∧ axIdx a.val < 0x4910 := by unfold axIdx; omega
  have hthreshold : (thresholdOf (axIdx a.val) j).isSome = false := by
    unfold thresholdOf
    rw [if_neg (by omega), if_neg (by omega), if_neg (by omega), if_neg (by omega)]
    rfl
  unfold writeEffect
  rw [if_neg hcls, if_neg (by omega), hthreshold, if_neg (by simp), if_neg (by omega), if_neg (by omega), if_neg (by simp [hty]), if_pos (by omega)]

theorem viewOf_axIdx (a : Fin 16) : viewOf (axIdx a.val) = (axIdx a.val, false) := by
  have hidx : 0x4900 ≤ axIdx a.val := by unfold axIdx; omega
  unfold viewOf
  rw [if_neg (by omega), if_neg (by omega), decide_eq_false (by omega)]

/-- An accepted command to an axis completes with its effect and its answer; the pins' lock sequences alone are touched beside it. -/
theorem axisCommand_completes {c : Instr} {s : State} {acc : Accessor} {a : Fin 16} {j : Nat} {d : List Byte} {P : State → Prop} (hj : AxisCommandSub j)
    (h : Accepted s acc (axIdx a.val) j d) (hexec : exec c s = .next (settle (writeCommand acc (axIdx a.val) j d s)))
    (hP : ∀ p, P (emit (effectMotion { s with pins := p } (axIdx a.val) j (ofLe d)) (.answer acc 0 []))) : Completes c s P := by
  refine ⟨_, hexec, ?_⟩
  rw [writeCommand_accepted h (viewOf_axIdx a), writeEffect_axisCommand _ _ _ hj, breakLock_eq]
  exact hP _

theorem axIdx_sub (a : Nat) : axIdx a - 0x4900 = a := by unfold axIdx; omega

theorem axIdx_range (a : Fin 16) : 0x4900 ≤ axIdx a.val ∧ axIdx a.val < 0x4910 := by
  unfold axIdx
  omega

theorem axIdx_noSpeed (a : Fin 16) {j : Nat} : ¬(0x4800 ≤ axIdx a.val ∧ axIdx a.val < 0x480C ∧ j = 0x18) := by
  unfold axIdx
  omega

theorem effectMotion_move (s : State) (a : Fin 16) (v : Nat) : effectMotion s (axIdx a.val) 0x38 v = moveCommand s a.val v := by
  unfold effectMotion
  rw [if_neg (axIdx_noSpeed a), if_pos (axIdx_range a)]
  exact congrArg (fun n => moveCommand s n v) (axIdx_sub a.val)

theorem effectMotion_stop (s : State) (a : Fin 16) (v : Nat) : effectMotion s (axIdx a.val) 0x39 v = stopCommand s a.val (v == 2) := by
  unfold effectMotion
  rw [if_neg (axIdx_noSpeed a), if_pos (axIdx_range a)]
  exact congrArg (fun n => stopCommand s n (v == 2)) (axIdx_sub a.val)

theorem effectMotion_resume (s : State) (a : Fin 16) (v : Nat) : effectMotion s (axIdx a.val) 0x3A v = resumeCommand s a.val := by
  unfold effectMotion
  rw [if_neg (axIdx_noSpeed a), if_pos (axIdx_range a)]
  exact congrArg (fun n => resumeCommand s n) (axIdx_sub a.val)

theorem effectMotion_home (s : State) (a : Fin 16) (v : Nat) : effectMotion s (axIdx a.val) 0x3B v = homeCommand s a.val := by
  unfold effectMotion
  rw [if_neg (axIdx_noSpeed a), if_pos (axIdx_range a)]
  exact congrArg (fun n => homeCommand s n) (axIdx_sub a.val)

theorem effectMotion_enable (s : State) (a : Fin 16) (v : Nat) : effectMotion s (axIdx a.val) 0x3C v = enableNow s a.val v := by
  unfold effectMotion
  rw [if_neg (axIdx_noSpeed a), if_pos (axIdx_range a)]
  exact congrArg (fun n => enableNow s n v) (axIdx_sub a.val)

/-! ## Commands that wait (R490) -/

theorem deferAxis_takes {s : State} {b : Nat} {w : AxisDeferred} (h : (∀ hard, (axis s b).deferred ≠ some (.stop hard)) ∨ w = .stop true) :
    deferAxis s b w = setAxis s b fun x => { x with deferred := some w } := by
  unfold deferAxis
  split
  · rfl
  next hard hd hne =>
    rcases h with h | h
    · exact absurd hd (h hard)
    · exact absurd h hne
  · rfl

theorem deferAxis_keeps {s : State} {b : Nat} {w : AxisDeferred} (h : ∃ hard, (axis s b).deferred = some (.stop hard)) (hw : w ≠ .stop true) :
    deferAxis s b w = s := by
  obtain ⟨hard, hd⟩ := h
  cases w with
  | stop h => cases h with
    | true => exact absurd rfl hw
    | false => simp [deferAxis, hd]
  | _ => simp [deferAxis, hd]

theorem axis_pins (s : State) (p : Pins) (b : Nat) : axis { s with pins := p } b = axis s b := rfl

theorem axis_emit (s : State) (o : Output) (b : Nat) : axis (emit s o) b = axis s b := rfl

theorem deferAxis_only (s : State) (b : Nat) (w : AxisDeferred) : OnlyAxis b s (deferAxis s b w) := by
  unfold deferAxis
  split
  · exact onlyAxis_setAxis _ _ _
  · exact .refl b s
  · exact onlyAxis_setAxis _ _ _

/-- What a command that waits shows: it is kept on the axis that holds it back, where no stop waits already. -/
theorem command_waits {c : Instr} {s : State} {acc : Accessor} {a : Fin 16} {j : Nat} {d : List Byte} {set : List Nat} {w : AxisDeferred}
    (hj : AxisCommandSub j) (h : Accepted s acc (axIdx a.val) j d) (hexec : exec c s = .next (settle (writeCommand acc (axIdx a.val) j d s)))
    (heffect : ∀ p b, heldOf s a.val set = some b → effectMotion { s with pins := p } (axIdx a.val) j (ofLe d) = deferAxis { s with pins := p } b w) :
    ∀ b, heldOf s a.val set = some b →
      ((∀ h, (axis s b).deferred ≠ some (.stop h)) ∨ w = .stop true → Completes c s fun u => (Answered acc u ∧ u.md = s.md ∧ u.sheets = s.sheets) ∧
        axis u b = { axis s b with deferred := some w } ∧ (∀ k, k ≠ b → axis u k = axis s k) ∧ u.dict = s.dict) ∧
      ((∃ h, (axis s b).deferred = some (.stop h)) → w ≠ .stop true → Completes c s fun u => (Answered acc u ∧ u.md = s.md ∧ u.sheets = s.sheets) ∧
        u.axes = s.axes ∧ u.dict = s.dict) := by
  intro b hb
  refine ⟨fun hfree => axisCommand_completes hj h hexec fun p => ?_, fun hstop hw => axisCommand_completes hj h hexec fun p => ?_⟩
  · rw [heffect p b hb, deferAxis_takes (s := { s with pins := p }) hfree]
    exact ⟨⟨answered_emit acc _, rfl, rfl⟩, by rw [axis_emit, axis_setAxis_same, axis_pins], fun k hk => by rw [axis_emit, axis_setAxis_other _ _ hk, axis_pins], rfl⟩
  · rw [heffect p b hb, deferAxis_keeps (s := { s with pins := p }) hstop hw]
    exact ⟨⟨answered_emit acc _, rfl, rfl⟩, rfl, rfl⟩

/-! ## Moves of one axis (R475, R478) -/

/-- An axis that has begun a move. -/
structure Begun (u : State) (b : Nat) (w : Move) : Prop where
  state : (axis u b).state = 2
  move : (axis u b).move = some w
  stopped : (axis u b).stopped = none
  en : (axis u b).en = true
  short : (axis u b).short = false
  ired : (axis u b).ired = false

theorem runMove_begun (s : State) (a : Nat) (m : Move) (w : Nat) : Begun (runMove s a m w) a { m with at_ := s.time + w } := by
  obtain ⟨b, hax⟩ := axis_runMove s a m w
  exact ⟨by rw [hax], by rw [hax], by rw [hax], by rw [hax], by rw [hax], by rw [hax]⟩

theorem Begun.congr {u v : State} {b : Nat} {w : Move} (h : Begun u b w) (hax : axis v b = axis u b) : Begun v b w :=
  ⟨by rw [hax, h.state], by rw [hax, h.move], by rw [hax, h.stopped], by rw [hax, h.en], by rw [hax, h.short], by rw [hax, h.ired]⟩

theorem startMove_runs {s : State} {a : Nat} {m : Move} (h0 : m.dist ≠ 0) (hl : towardLimit s a m.dist = false) :
    startMove s a m = runMove s a m (startWait s a m.dist) := by simp [startMove, h0, hl]

theorem startMove_ends {s : State} {a : Nat} {m : Move} (h : m.dist = 0 ∨ towardLimit s a m.dist = true) : startMove s a m = noMove s a := by
  rw [startMove, if_pos h]

theorem fireMove_starts {s : State} {a : Nat} (r : Nat) (h : (axis s a).state = 1 ∨ (axis s a).state = 4) :
    (fireMove s a r).1 = startMove s a (recordMove s a r) := by
  have hno : ¬((axis s a).state = 2 ∨ (axis s a).state = 3 ∨ (axis s a).state = 5) := by omega
  simp [fireMove, hno, h]

theorem fireMove_queues {s : State} {a : Nat} (r : Nat) (h : (axis s a).state = 2 ∨ (axis s a).state = 3 ∨ (axis s a).state = 5)
    (hq : (axis s a).queue = none) : (fireMove s a r).1 = setAxis s a fun y => { y with queue := some r } := by simp [fireMove, h, hq]

theorem fireMove_overruns {s : State} {a : Nat} (r : Nat) (h : (axis s a).state = 2 ∨ (axis s a).state = 3 ∨ (axis s a).state = 5)
    (hq : (axis s a).queue ≠ none) : (fireMove s a r).1 = moveOverrun s a := by
  obtain ⟨q, hq⟩ := Option.ne_none_iff_exists'.1 hq
  simp [fireMove, h, hq]

theorem moveCommand_now {s : State} {a v : Nat} (h : heldOf s a (moveSet s a v) = none) : moveCommand s a v = (moveNow s a v).1 := by simp [moveCommand, h]

theorem moveCommand_waits {s : State} {a v b : Nat} (h : heldOf s a (moveSet s a v) = some b) : moveCommand s a v = deferAxis s b (.move v) := by
  simp [moveCommand, h]

theorem moveNow_single {s : State} {a v : Nat} (h : v.testBit 4 = false) : (moveNow s a v).1 = (fireMove s a (v % 16)).1 := by simp [moveNow, h]

/-! ## Moves of a group (R479) -/

/-- An axis that has come to stand without a move. -/
def Standing (u : State) (b : Nat) : Prop := (axis u b).state = 1 ∧ (axis u b).move = none ∧ (axis u b).stopped = none

theorem noMove_standing (s : State) (a : Nat) : Standing (noMove s a) a := by
  have hax := axis_noMove s a
  exact ⟨by rw [hax], by rw [hax], by rw [hax]⟩

/-- Nothing but the states of axes in a list differs. -/
structure OnlyAxes (l : List Nat) (s t : State) : Prop where
  same : t = { s with axes := t.axes }
  others : ∀ b, b ∉ l → axis t b = axis s b

theorem OnlyAxes.refl (l : List Nat) (s : State) : OnlyAxes l s s := ⟨rfl, fun _ _ => rfl⟩

theorem OnlyAxes.step {l : List Nat} {s t u : State} {a : Nat} (h : OnlyAxes l s t) (ha : a ∈ l) (k : OnlyAxis a t u) : OnlyAxes l s u :=
  ⟨by rw [k.same, h.same], fun b hb => (k.others b fun e => hb (e ▸ ha)).trans (h.others b hb)⟩

theorem OnlyAxes.time {l : List Nat} {s t : State} (h : OnlyAxes l s t) : t.time = s.time := by rw [h.same]
theorem OnlyAxes.md {l : List Nat} {s t : State} (h : OnlyAxes l s t) : t.md = s.md := by rw [h.same]
theorem OnlyAxes.sheets {l : List Nat} {s t : State} (h : OnlyAxes l s t) : t.sheets = s.sheets := by rw [h.same]
theorem OnlyAxes.dict {l : List Nat} {s t : State} (h : OnlyAxes l s t) : t.dict = s.dict := by rw [h.same]

/-- All moves of a list started at once, with one wait. -/
def runAll (l : List (Nat × Move)) (wait : Nat) (s : State) : State := l.foldl (fun t q => runMove t q.1 q.2 wait) s

theorem runAll_only (l : List (Nat × Move)) (wait : Nat) (s : State) : OnlyAxes (l.map Prod.fst) s (runAll l wait s) :=
  foldl_keeps (OnlyAxes (l.map Prod.fst) s) l _ s (fun u q hq h => h.step (List.mem_map_of_mem hq) (onlyAxis_runMove u q.1 q.2 wait)) (.refl _ s)

/-- A move of the list is begun once its turn has come, and stays so. -/
theorem runAll_begun {l : List (Nat × Move)} {wait : Nat} {s : State} {b : Nat} {m : Move} (huniq : ∀ q ∈ l, q.1 = b → q.2 = m)
    (h : (b, m) ∈ l ∨ Begun s b { m with at_ := s.time + wait }) : Begun (runAll l wait s) b { m with at_ := s.time + wait } := by
  induction l generalizing s with
  | nil => exact h.resolve_left (by simp)
  | cons q r ih =>
    have hstep : Begun (runMove s q.1 q.2 wait) b { m with at_ := s.time + wait } ∨ (b, m) ∈ r := by
      by_cases hq : q.1 = b
      · refine .inl ?_
        have hbegun := runMove_begun s q.1 q.2 wait
        rw [huniq q List.mem_cons_self hq, hq] at hbegun
        rw [huniq q List.mem_cons_self hq, hq]
        exact hbegun
      · rcases h with h | h
        · rcases List.mem_cons.1 h with rfl | h
          · exact absurd rfl hq
          · exact .inr h
        · exact .inl (h.congr ((onlyAxis_runMove s q.1 q.2 wait).others b (Ne.symm hq)))
    exact ih (s := runMove s q.1 q.2 wait) (fun p hp => huniq p (List.mem_cons_of_mem q hp)) hstep.symm

/-- All moves of a list ended before their first step. -/
def standAll (l : List (Nat × Move)) (s : State) : State := l.foldl (fun t q => noMove t q.1) s

theorem standAll_only (l : List (Nat × Move)) (s : State) : OnlyAxes (l.map Prod.fst) s (standAll l s) :=
  foldl_keeps (OnlyAxes (l.map Prod.fst) s) l _ s (fun u q hq h => h.step (List.mem_map_of_mem hq) (onlyAxis_noMove u q.1)) (.refl _ s)

theorem standAll_standing {l : List (Nat × Move)} {s : State} {b : Nat} (h : b ∈ l.map Prod.fst ∨ Standing s b) : Standing (standAll l s) b := by
  induction l generalizing s with
  | nil => exact h.resolve_left (by simp)
  | cons q r ih =>
    refine ih (s := noMove s q.1) ?_
    by_cases hq : q.1 = b
    · exact .inr (hq ▸ noMove_standing s q.1)
    · rcases h with h | h
      · rcases List.mem_cons.1 h with rfl | h
        · exact absurd rfl hq
        · exact .inl h
      · refine .inr ?_
        rw [Standing, (onlyAxis_noMove s q.1).others b (Ne.symm hq)]
        exact h

theorem startGroup_runs {s : State} {l : List (Nat × Move)} (hdist : ∃ q ∈ l, q.2.dist ≠ 0) (hlimit : ∀ q ∈ l, towardLimit s q.1 q.2.dist = false) :
    startGroup s l = runAll l ((l.map fun q => startWait s q.1 q.2.dist).foldl max 0) s := by
  refine if_neg ?_
  simp only [Bool.or_eq_true, List.all_eq_true, List.any_eq_true, beq_iff_eq, not_or, not_forall, not_exists, not_and]
  obtain ⟨q, hq, h0⟩ := hdist
  exact ⟨⟨q, hq, h0⟩, fun p hp => by simp [hlimit p hp]⟩

theorem startGroup_stands {s : State} {l : List (Nat × Move)} (h : (∀ q ∈ l, q.2.dist = 0) ∨ ∃ q ∈ l, towardLimit s q.1 q.2.dist = true) :
    startGroup s l = standAll l s := by
  refine if_pos ?_
  simpa [List.all_eq_true, List.any_eq_true] using h

/-- The move that a group's record gives a member, scaled to the longest one's (R479). -/
def groupRecord (s : State) (g r k b : Nat) : Move :=
  let p := profileSet s k (recordSet s k r)
  { dist := recordDist s b r, v := p.1, a := p.2.1, d := p.2.2.1, j := p.2.2.2, from_ := positionNow s b, at_ := s.time,
    lead := (recordDist s k r).natAbs, set := recordSet s k r, group := some g }

theorem groupMove_eq {s : State} {g r k : Nat} (h : longest s (members s g) r = some k) :
    groupMove s g r = startGroup s ((members s g).map fun b => (b, groupRecord s g r k b)) := by
  simp [groupMove, h] <;> rfl

theorem moveNow_group {s : State} {a v g : Nat} (hv : v.testBit 4 = true) (hg : groupOfAxis s a = some g) (hok : groupRefusal s g (v % 16) = 0) :
    (moveNow s a v).1 = groupMove s g (v % 16) := by simp [moveNow, hv, hg, hok]

/-! ## Stops (R487, R489) -/

/-- A state that a visit of b brings, and that every visit keeps. -/
theorem foldl_reaches {A P : State → Prop} {f : State → Nat → State} {b : Nat} (hit : ∀ u, A u → P (f u b)) (miss : ∀ u x, x ≠ b → A u → A (f u x))
    (keep : ∀ u x, P u → P (f u x)) (l : List Nat) (s : State) (hb : b ∈ l) (hA : A s) : P (l.foldl f s) := by
  induction l generalizing s with
  | nil => simp at hb
  | cons x r ih =>
    by_cases hx : x = b
    · exact foldl_keeps P r f (f s x) (fun u y _ h => keep u y h) (hx ▸ hit s hA)
    · exact ih (f s x) ((List.mem_cons.1 hb).resolve_left (Ne.symm hx)) (miss s x hx hA)

theorem slowStop_clears {s : State} {a : Nat} (dec : Option Nat) (h : (axis s a).move = none ∨ (axis s a).state ≠ 2) :
    slowStop s a dec = setAxis s a fun y => { y with queue := none } := by
  cases hm : (axis s a).move with
  | none => simp [slowStop, hm]
  | some m => simp [slowStop, hm, h.resolve_left (by simp [hm])]

theorem slowStop_cuts {s : State} {a : Nat} (dec : Option Nat) (hm : (axis s a).move ≠ none) (h2 : (axis s a).state = 2) :
    ∃ w r, slowStop s a dec = setAxis s a fun y => { y with state := 3, queue := none, move := some w, stopped := some r } := by
  obtain ⟨m, hm⟩ := Option.ne_none_iff_exists'.1 hm
  simp only [slowStop, hm, h2, ne_eq, not_true, if_false]
  exact ⟨_, _, rfl⟩

/-- What a ramped stop leaves of an axis: the motion cut short, or the queue alone emptied. -/
theorem axis_slowStop (s : State) (a : Nat) (dec : Option Nat) :
    OnlyAxis a s (slowStop s a dec) ∧ (axis (slowStop s a dec) a).queue = none ∧
      ((axis (slowStop s a dec) a).state = 3 ∧ (axis (slowStop s a dec) a).stopped ≠ none ∨
        (axis (slowStop s a dec) a).state = (axis s a).state ∧ (axis (slowStop s a dec) a).stopped = (axis s a).stopped ∧
          ((axis s a).move = none ∨ (axis s a).state ≠ 2)) := by
  by_cases h : (axis s a).move = none ∨ (axis s a).state ≠ 2
  · rw [slowStop_clears dec h, axis_setAxis_same]
    exact ⟨onlyAxis_setAxis _ _ _, rfl, .inr ⟨rfl, rfl, h⟩⟩
  · obtain ⟨hm, h2⟩ := not_or.1 h
    obtain ⟨w, r, heq⟩ := slowStop_cuts dec hm (not_not.1 h2)
    rw [heq, axis_setAxis_same]
    exact ⟨onlyAxis_setAxis _ _ _, rfl, .inl ⟨rfl, by simp⟩⟩

theorem onlyAxis_slowStop (s : State) (a : Nat) (dec : Option Nat) : OnlyAxis a s (slowStop s a dec) := (axis_slowStop s a dec).1

theorem slowStop_queue (s : State) (a : Nat) (dec : Option Nat) : (axis (slowStop s a dec) a).queue = none := (axis_slowStop s a dec).2.1

/-- An axis on its way to a ramped stop. -/
def Ramping (u : State) (b : Nat) : Prop := (axis u b).state = 3 ∧ (axis u b).stopped ≠ none

theorem slowStop_ramps {s : State} {a : Nat} (dec : Option Nat) (hm : (axis s a).move ≠ none) (h2 : (axis s a).state = 2) :
    Ramping (slowStop s a dec) a := by
  obtain ⟨-, -, hramp | ⟨-, -, hno | hno⟩⟩ := axis_slowStop s a dec
  · exact hramp
  · exact absurd hno hm
  · exact absurd h2 hno

theorem hardStop_queue (s : State) (a : Nat) : (axis (hardStop s a) a).queue = none := by
  cases h : (axis s a).move with
  | none => rw [axis_hardStop_none h]
  | some m =>
    obtain ⟨p, q, hax⟩ := axis_hardStop_some h
    rw [hax]

/-- An axis that a hard stop has stopped. -/
def HardStopped (u : State) (b : Nat) : Prop := (axis u b).state = 4 ∧ (axis u b).move = none ∧ (axis u b).homing = none

theorem hardStop_stops {s : State} {a : Nat} (h : (axis s a).move ≠ none) : HardStopped (hardStop s a) a := by
  obtain ⟨m, hm⟩ := Option.ne_none_iff_exists'.1 h
  obtain ⟨p, q, hax⟩ := axis_hardStop_some hm
  exact ⟨by rw [hax], by rw [hax], by rw [hax]⟩

theorem hardStop_keepsStopped {u : State} {b : Nat} (x : Nat) (h : HardStopped u b) : HardStopped (hardStop u x) b := by
  by_cases hx : b = x
  · subst hx
    rw [HardStopped, axis_hardStop_none h.2.1]
    exact h
  · rw [HardStopped, (axisOp_hardStop u x).others b hx]
    exact h

theorem hardStops_stop {l : List Nat} {s : State} {b : Nat} (hb : b ∈ l) (hm : (axis s b).move ≠ none) : HardStopped (forEach l hardStop s) b :=
  foldl_reaches (A := fun u => (axis u b).move ≠ none) (P := fun u => HardStopped u b) (fun _ h => hardStop_stops h)
    (fun u x hx h => by rwa [(axisOp_hardStop u x).others b (Ne.symm hx)]) (fun _ x h => hardStop_keepsStopped x h) l s hb hm

theorem hardStops_others {l : List Nat} {s : State} {b : Nat} (hb : b ∉ l) : axis (forEach l hardStop s) b = axis s b :=
  foldl_keeps (fun u => axis u b = axis s b) l hardStop s (fun u x hx h => ((axisOp_hardStop u x).others b fun e => hb (e ▸ hx)).trans h) rfl

theorem stops_queue {f : State → Nat → State} (hself : ∀ u a, (axis (f u a) a).queue = none) (hothers : ∀ u a b, b ≠ a → axis (f u a) b = axis u b)
    {l : List Nat} (s : State) {b : Nat} (hb : b ∈ l) : (axis (forEach l f s) b).queue = none :=
  foldl_clears (P := fun u k => (axis u k).queue = none) hself (fun u a k h => by
    by_cases hk : k = a
    · rw [hk, hself]
    · rw [hothers u a k hk, h]) l s hb

/-- A ramped stop of every axis of a list. -/
def slowStops (l : List Nat) (dec : Option Nat) (s : State) : State := forEach l (fun t a => slowStop t a dec) s

theorem slowStops_only (l : List Nat) (dec : Option Nat) (s : State) : OnlyAxes l s (slowStops l dec s) :=
  foldl_keeps (OnlyAxes l s) l _ s (fun u a ha h => h.step ha (onlyAxis_slowStop u a dec)) (.refl l s)

theorem slowStop_keepsRamp {u : State} {b : Nat} (x : Nat) (dec : Option Nat) (h : Ramping u b) : Ramping (slowStop u x dec) b := by
  by_cases hx : b = x
  · subst hx
    obtain ⟨-, -, hramp | ⟨hstate, hstopped, -⟩⟩ := axis_slowStop u b dec
    · exact hramp
    · exact ⟨hstate.trans h.1, fun e => h.2 (hstopped.symm.trans e)⟩
  · rw [Ramping, (onlyAxis_slowStop u x dec).others b hx]
    exact h

theorem slowStops_ramp {l : List Nat} {s : State} {b : Nat} (dec : Option Nat) (hb : b ∈ l) (hm : (axis s b).move ≠ none) (h2 : (axis s b).state = 2) :
    Ramping (slowStops l dec s) b :=
  foldl_reaches (A := fun u => (axis u b).move ≠ none ∧ (axis u b).state = 2) (P := fun u => Ramping u b) (fun _ h => slowStop_ramps dec h.1 h.2)
    (fun u x hx h => by rwa [(onlyAxis_slowStop u x dec).others b (Ne.symm hx)]) (fun _ x h => slowStop_keepsRamp x dec h) l s hb ⟨hm, h2⟩

theorem stopAxis_ramped (s : State) (a : Nat) : stopAxis s a false = slowStops (stopSet s a) none s := by
  simp [stopAxis, slowStops, rampedStop]

theorem stopSet_single {s : State} {a : Nat} {w : Move} (hw : (axis s a).move = some w) (hg : w.group = none) : stopSet s a = [a] := by
  simp [stopSet, hw, hg]

/-! ## What each command shows -/

/-- An accepted command that keeps mode and sheets completes with what its effect shows. -/
theorem axisCommand_ends {c : Instr} {s : State} {acc : Accessor} {a : Fin 16} {j : Nat} {d : List Byte} {P : State → Prop} (hj : AxisCommandSub j)
    (h : Accepted s acc (axIdx a.val) j d) (hexec : exec c s = .next (settle (writeCommand acc (axIdx a.val) j d s)))
    (hP : ∀ p, (effectMotion { s with pins := p } (axIdx a.val) j (ofLe d)).md = s.md ∧
      (effectMotion { s with pins := p } (axIdx a.val) j (ofLe d)).sheets = s.sheets ∧
      P (emit (effectMotion { s with pins := p } (axIdx a.val) j (ofLe d)) (.answer acc 0 []))) :
    Completes c s fun u => (Answered acc u ∧ u.md = s.md ∧ u.sheets = s.sheets) ∧ P u :=
  axisCommand_completes hj h hexec fun p =>
    have ⟨hmd, hsheets, hshown⟩ := hP p
    ⟨⟨answered_emit acc _, hmd, hsheets⟩, hshown⟩

/-- The moves of a group's record, with the profile of its longest one. -/
def groupMoves (s : State) (g r k : Nat) : List (Nat × Move) := (members s g).map fun b => (b, groupRecord s g r k b)

theorem groupMoves_members (s : State) (g r k : Nat) : (groupMoves s g r k).map Prod.fst = members s g := by
  simp [groupMoves, Function.comp_def]

/-- The wait of the slowest driver of a group's record (R475). -/
def groupWait (s : State) (g r : Nat) : Nat := (((members s g).map fun e => (e, recordDist s e r)).map fun q => startWait s q.1 q.2).foldl max 0

theorem groupMoves_wait (s : State) (g r k : Nat) : ((groupMoves s g r k).map fun q => startWait s q.1 q.2.dist).foldl max 0 = groupWait s g r := by
  simp [groupMoves, groupWait, groupRecord, Function.comp_def]

theorem groupMove_runs {s : State} {g r k : Nat} (hk : longest s (members s g) r = some k) (hdist : ∃ b ∈ members s g, recordDist s b r ≠ 0)
    (hlimit : ∀ b ∈ members s g, towardLimit s b (recordDist s b r) = false) :
    OnlyAxes (members s g) s (groupMove s g r) ∧
      ∀ b ∈ members s g, Begun (groupMove s g r) b { groupRecord s g r k b with at_ := s.time + groupWait s g r } := by
  have heq : groupMove s g r = runAll (groupMoves s g r k) (groupWait s g r) s := by
    rw [groupMove_eq hk, ← groupMoves, startGroup_runs, groupMoves_wait]
    · obtain ⟨b, hb, h0⟩ := hdist
      exact ⟨_, List.mem_map_of_mem hb, h0⟩
    · intro q hq
      obtain ⟨b, hb, rfl⟩ := List.mem_map.1 hq
      exact hlimit b hb
  rw [heq]
  refine ⟨groupMoves_members s g r k ▸ runAll_only _ _ _, fun b hb => runAll_begun (fun q hq he => ?_) (.inl (List.mem_map_of_mem hb))⟩
  obtain ⟨e, -, rfl⟩ := List.mem_map.1 hq
  exact congrArg (groupRecord s g r k) he

theorem groupMove_stands {s : State} {g r k : Nat} (hk : longest s (members s g) r = some k)
    (h : (∀ b ∈ members s g, recordDist s b r = 0) ∨ ∃ b ∈ members s g, towardLimit s b (recordDist s b r) = true) :
    OnlyAxes (members s g) s (groupMove s g r) ∧ ∀ b ∈ members s g, Standing (groupMove s g r) b := by
  have heq : groupMove s g r = standAll (groupMoves s g r k) s := by
    rw [groupMove_eq hk, ← groupMoves, startGroup_stands]
    refine h.imp (fun h q hq => ?_) fun ⟨b, hb, hl⟩ => ⟨_, List.mem_map_of_mem hb, hl⟩
    obtain ⟨b, hb, rfl⟩ := List.mem_map.1 hq
    exact h b hb
  rw [heq]
  have hmembers := groupMoves_members s g r k
  exact ⟨hmembers ▸ standAll_only _ _, fun b hb => standAll_standing (.inl (hmembers ▸ hb))⟩

/-- What a stop that nothing holds back shows (R487). -/
structure StoppedBy (s : State) (a v : Nat) (u : State) : Prop where
  same : SameButAxes s u
  others : ∀ b, b ∉ stopSet s a → axis u b = axis s b
  queue : ∀ b ∈ stopSet s a, (axis u b).queue = none
  hard : v = 2 → ∀ b ∈ stopSet s a, (axis s b).move ≠ none → HardStopped u b
  ramped : v ≠ 2 → u.dict = s.dict ∧ ∀ b ∈ stopSet s a, (axis s b).move ≠ none → (axis s b).state = 2 → Ramping u b
  position : ∀ w : Move, (axis s a).move = some w → w.group = none → v = 2 →
    get u (axIdx a) 0x31 = sImg 32 (w.from_ + along w.dist (w.steps s.time)) ∧
      (get s (axIdx a) 9 < w.vel s.time → get u (axIdx a) 0x32 = 0) ∧ (w.vel s.time ≤ get s (axIdx a) 9 → get u (axIdx a) 0x32 = get s (axIdx a) 0x32)

theorem stopAxis_stopped (s : State) (a v : Nat) : StoppedBy s a v (stopAxis s a (v == 2)) := by
  by_cases hv : v = 2
  · subst hv
    rw [show ((2 : Nat) == 2) = true from rfl, stopAxis_hard]
    refine ⟨(hardStops _ s).same, fun b hb => hardStops_others hb, fun b hb => ?_, fun _ b hb hm => hardStops_stop hb hm, fun h => absurd rfl h,
      fun w hw hg _ => ?_⟩
    · exact stops_queue hardStop_queue (fun u a b hb => (axisOp_hardStop u a).others b hb) s hb
    · rw [stopSet_single hw hg]
      show get (hardStop s a) _ _ = _ ∧ (_ → get (hardStop s a) _ _ = 0) ∧ (_ → get (hardStop s a) _ _ = _)
      rw [hardStop_some hw, get_setAxis, get_setAxis, get_stoppedAt, get_stoppedAt]
      refine ⟨by simp, fun hfast => by simp [hfast], fun hslow => by simp [Nat.not_lt.2 hslow]⟩
  · rw [beq_eq_false_iff_ne.2 hv, stopAxis_ramped]
    have honly := slowStops_only (stopSet s a) none s
    refine ⟨by unfold SameButAxes; rw [honly.same], honly.others, fun b hb => ?_, fun h => absurd h hv,
      fun _ => ⟨honly.dict, fun b hb hm h2 => slowStops_ramp none hb hm h2⟩, fun _ _ _ h => absurd h hv⟩
    exact stops_queue (fun u a => slowStop_queue u a none) (fun u a => (onlyAxis_slowStop u a none).others) s hb

/-- The distances that remain of the motions of a resume set. -/
def resumeDists (s : State) (a : Nat) : List (Nat × Int) := (resumeSet s a).filterMap fun b => (axis s b).stopped.map fun w => (b, w.dist)

/-- The motions that a resume takes up again, from the present positions (R488). -/
def resumeMoves (s : State) (a : Nat) : List (Nat × Move) :=
  (resumeSet s a).filterMap fun b => (axis s b).stopped.map fun m => (b, { m with from_ := getS s 32 (axIdx b) 0x31 })

theorem resumeDists_eq (s : State) (a : Nat) : resumeDists s a = (resumeMoves s a).map fun q => (q.1, q.2.dist) := by
  simp [resumeDists, resumeMoves, List.map_filterMap, Function.comp_def]

theorem resumeAxis_begun {s : State} {a : Nat} (hdist : ∃ q ∈ resumeDists s a, q.2 ≠ 0) (hlimit : ∀ q ∈ resumeDists s a, towardLimit s q.1 q.2 = false) :
    (resumeAxis s a).dict = s.dict ∧ (resumeAxis s a).md = s.md ∧ (resumeAxis s a).sheets = s.sheets ∧
      (∀ b, b ∉ resumeSet s a → axis (resumeAxis s a) b = axis s b) ∧
      ∀ b ∈ resumeSet s a, ∀ w : Move, (axis s b).stopped = some w → Begun (resumeAxis s a) b
        { w with from_ := getS s 32 (axIdx b) 0x31, at_ := s.time + ((resumeDists s a).map fun q => startWait s q.1 q.2).foldl max 0 } := by
  rw [resumeDists_eq] at hdist hlimit ⊢
  have heq : resumeAxis s a = runAll (resumeMoves s a) (((resumeMoves s a).map fun q => startWait s q.1 q.2.dist).foldl max 0) s := by
    refine startGroup_runs ?_ fun q hq => hlimit _ (List.mem_map_of_mem hq)
    obtain ⟨q, hq, h0⟩ := hdist
    obtain ⟨e, he, rfl⟩ := List.mem_map.1 hq
    exact ⟨e, he, h0⟩
  rw [heq, List.map_map]
  have honly := runAll_only (resumeMoves s a) (((resumeMoves s a).map fun q => startWait s q.1 q.2.dist).foldl max 0) s
  refine ⟨honly.dict, honly.md, honly.sheets, fun b hb => honly.others b fun hmem => hb ?_, fun b hb w hw => runAll_begun (m := { w with from_ := getS s 32 (axIdx b) 0x31 }) (fun q hq he => ?_) (.inl ?_)⟩
  · obtain ⟨q, hq, rfl⟩ := List.mem_map.1 hmem
    obtain ⟨e, he, hsome⟩ := List.mem_filterMap.1 hq
    obtain ⟨w, -, rfl⟩ := Option.map_eq_some_iff.1 hsome
    exact he
  · obtain ⟨e, -, hsome⟩ := List.mem_filterMap.1 hq
    obtain ⟨x, hx, rfl⟩ := Option.map_eq_some_iff.1 hsome
    obtain rfl : e = b := he
    rw [Option.some.inj (hx.symm.trans hw)]
  · exact List.mem_filterMap.2 ⟨b, hb, by rw [hw]; rfl⟩

theorem startHoming_present {s : State} {a : Nat} (h : get s (axIdx a) 0x40 = 0) : startHoming s a = positioned s a (getS s 32 (axIdx a) 0x45) := by
  simp [startHoming, h, positioned]

theorem startHoming_searches {s : State} {a : Nat} (h : get s (axIdx a) 0x40 ≠ 0) :
    ∃ m, m = homingMove s a (searchSign s a) (get s (axIdx a) (if get s (axIdx a) 0x40 = 4 then 0x43 else 0x42)) ∧
      startHoming s a = setAxis s a fun x =>
        { x with state := 5, homing := some .search, stopped := none, queue := none, en := true, short := false, ired := get s (axIdx a) 0x40 == 4, back := decide (m.dist < 0), move := some { m with at_ := s.time + startWait s a m.dist } } := by
  refine ⟨_, rfl, ?_⟩
  unfold startHoming
  simp only [if_neg h]
  split <;> rfl

theorem axisOp_disableAxis (s : State) (a : Nat) : AxisOp a s (disableAxis s a) :=
  (axisOp_freeze s a).trans ((axisOp_put (freeze s a) a 0 (by decide)).trans (axisOp_setAxis _ a _))

theorem disableAxis_shows (s : State) (a : Nat) :
    get (disableAxis s a) (axIdx a) 0x3C = 0 ∧ (axis (disableAxis s a) a).state = 0 ∧ (axis (disableAxis s a) a).en = false ∧
      (axis (disableAxis s a) a).move = none ∧ (axis (disableAxis s a) a).deferred = none := by
  unfold disableAxis
  rw [get_setAxis, get_put_axis, if_pos rfl, axis_setAxis_same]
  exact ⟨rfl, rfl, rfl, rfl, rfl⟩

theorem axisOp_enableAxis (s : State) (a : Nat) : AxisOp a s (enableAxis s a) :=
  (axisOp_put s a 1 (by decide)).trans ((axisOp_setAxis _ a _).trans (axisOp_setAxis _ a _))

theorem get_enableAxis (s : State) (a k : Nat) : get (enableAxis s a) (axIdx a) k = if k = 0x3C then 1 else get s (axIdx a) k := get_put_axis s a 0x3C k 1

/-- An axis that is enabled stands, as its standstill option says (R475). -/
theorem axis_enableAxis (s : State) (a : Nat) :
    axis (enableAxis s a) a =
      { axis s a with state := 1, en := get s (axIdx a) 0x0A != 0, short := get s (axIdx a) 0x0A == 1, ired := get s (axIdx a) 0x0A == 2 } := by
  unfold enableAxis takeStandstill
  rw [axis_setAxis_same, axis_setAxis_same, get_setAxis, get_put_axis, if_neg (by decide)]
  rfl

theorem enableNow_off (s : State) (a : Nat) : enableNow s a 0 = disableAxis s a := rfl

theorem enableNow_enables {s : State} {a v : Nat} (hv : v ≠ 0) (h : (axis s a).state = 0) (hflt : (axis s a).fltIn = false) :
    enableNow s a v = enableAxis s a := by
  have hflt : (axis (enableAxis s a) a).fltIn = false := by rw [axis_enableAxis, ← hflt]
  simp [enableNow, hv, axState, h, hflt]

theorem enableNow_faults {s : State} {a v : Nat} (hv : v ≠ 0) (h : (axis s a).state = 0) (hflt : (axis s a).fltIn = true) :
    enableNow s a v = driverFault (enableAxis s a) a := by
  have hflt : (axis (enableAxis s a) a).fltIn = true := by rw [axis_enableAxis, ← hflt]
  simp [enableNow, hv, axState, h, hflt]

theorem enableNow_stays {s : State} {a v : Nat} (hv : v ≠ 0) (h : (axis s a).state ≠ 0) : enableNow s a v = put s (axIdx a) 0x3C 1 := by
  simp [enableNow, hv, axState, h]

theorem stopCommand_now {s : State} {a : Nat} {hard : Bool} (h : heldOf s a (stopSet s a) = none) : stopCommand s a hard = stopAxis s a hard := by
  simp [stopCommand, h]

theorem stopCommand_waits {s : State} {a b : Nat} {hard : Bool} (h : heldOf s a (stopSet s a) = some b) :
    stopCommand s a hard = deferAxis s b (.stop hard) := by simp [stopCommand, h]

theorem resumeCommand_now {s : State} {a : Nat} (h : heldOf s a (resumeSet s a) = none) : resumeCommand s a = resumeAxis s a := by
  simp [resumeCommand, h]

theorem resumeCommand_waits {s : State} {a b : Nat} (h : heldOf s a (resumeSet s a) = some b) : resumeCommand s a = deferAxis s b .resume := by
  simp [resumeCommand, h]

theorem homeCommand_now {s : State} {a : Nat} (h : pathHeld s a = false) : homeCommand s a = startHoming s a := by simp [homeCommand, h]

theorem homeCommand_waits {s : State} {a : Nat} (h : pathHeld s a = true) : homeCommand s a = deferAxis s a .home := by simp [homeCommand, h]

theorem positioned_shows (s : State) (a : Nat) (v : Int) :
    (positioned s a v).md = s.md ∧ (positioned s a v).sheets = s.sheets ∧ (positioned s a v).axes = s.axes ∧
      get (positioned s a v) (axIdx a) 0x31 = sImg 32 v ∧ get (positioned s a v) (axIdx a) 0x32 = 1 ∧
      serving (positioned s a v) .axisLimit a = false := by
  have hlog := homingDone_sameButLog (putS s 32 (axIdx a) 0x31 v) a
  refine ⟨hlog.md, hlog.sheets, hlog.axes, ?_, ?_, serving_homingDone _ a⟩
  · rw [positioned, get_homingDone, if_neg (by decide), putS, get_put_axis, if_pos rfl]
  · rw [positioned, get_homingDone, if_pos rfl]

theorem moveOverrun_sameButLog (s : State) (a : Nat) : SameButLog (sat s (axIdx a) 0x37) (moveOverrun s a) := logEvent_sameButLog _ _ _ _ _ _

theorem axisOp_moveOverrun (s : State) (a : Nat) : AxisOp a s (moveOverrun s a) :=
  (axisOp_put s a _ (by decide)).trans ((moveOverrun_sameButLog s a).axisOp a)

theorem moveOverrun_shows (s : State) (a : Nat) :
    (moveOverrun s a).axes = s.axes ∧ get (moveOverrun s a) (axIdx a) 0x37 = min (get s (axIdx a) 0x37 + 1) 65535 ∧
      KeepsObjects [keyOf (axIdx a) 0x37] s (moveOverrun s a) := by
  have hlog := moveOverrun_sameButLog s a
  refine ⟨hlog.axes, ?_, keepsObjects_trans (keepsObjects_put s (axIdx a) 0x37 _ (by simp)) (hlog.keepsObjects _)⟩
  rw [get_of_sameButLog hlog, get_sat_axis, if_pos rfl]

theorem heldOf_self {s : State} {a b : Nat} (h : heldOf s a [a] = some b) : b = a ∧ pathHeld s a = true := by
  unfold heldOf at h
  have hmem := List.mem_of_find?_eq_some h
  obtain rfl : b = a := by simpa using hmem
  exact ⟨rfl, List.find?_some h⟩

/-! ## The obligation -/

theorem moveSub : AxisCommandSub 0x38 := by simp [AxisCommandSub]
theorem stopSub : AxisCommandSub 0x39 := by simp [AxisCommandSub]
theorem resumeSub : AxisCommandSub 0x3A := by simp [AxisCommandSub]
theorem homeSub : AxisCommandSub 0x3B := by simp [AxisCommandSub]
theorem enableSub : AxisCommandSub 0x3C := by simp [AxisCommandSub]

/-- A move of one axis that nothing holds back shows what its motion, its queue or the overrun show (R475, R478). -/
theorem singleMove_ends {c : Instr} {s : State} {acc : Accessor} {a : Fin 16} {d : List Byte} {P : State → Prop} {f : State → State}
    (h : Accepted s acc (axIdx a.val) 0x38 d) (hexec : exec c s = .next (settle (writeCommand acc (axIdx a.val) 0x38 d s)))
    (hheld : heldOf s a.val (moveSet s a.val (ofLe d)) = none) (hbit : (ofLe d).testBit 4 = false)
    (hf : ∀ p, (fireMove { s with pins := p } a.val (ofLe d % 16)).1 = f { s with pins := p }) (hop : ∀ t, AxisOp a.val t (f t))
    (hP : ∀ p, P (emit (f { s with pins := p }) (.answer acc 0 []))) :
    Completes c s fun u => (Answered acc u ∧ u.md = s.md ∧ u.sheets = s.sheets) ∧ P u := by
  refine axisCommand_ends moveSub h hexec fun p => ?_
  rw [effectMotion_move, moveCommand_now (s := { s with pins := p }) hheld, moveNow_single hbit, hf]
  exact ⟨(hop _).md, (hop _).sheets, hP p⟩

theorem axisOp_sat (s : State) (a : Nat) {j : Nat} (hj : j < 256) : AxisOp a s (sat s (axIdx a) j) := axisOp_put s a _ hj

/-- Settles O51: each command waits at a committed path, and acts as the operation it names where none holds it back. -/
theorem axisCommands : Obligations.AxisCommands := by
  unfold Obligations.AxisCommands
  intro acc a d s
  dsimp only
  refine ⟨fun h c hc => ?_, fun h c hc => ?_, fun h => ⟨?_, ?_⟩, fun h => ⟨?_, ?_, ?_⟩, fun h => ⟨?_, ?_, ?_, ?_⟩⟩
  · have hexec : exec c s = .next (settle (writeCommand acc (axIdx a.val) 0x38 d s)) := by
      rcases List.mem_pair.1 hc with rfl | rfl <;> rfl
    refine ⟨command_waits moveSub h hexec fun p b hb => ?_, fun hheld hbit => ⟨?_, ?_, ?_, ?_⟩, fun g k hheld hbit hg hok hk => ⟨?_, ?_⟩⟩
    · rw [effectMotion_move]
      exact moveCommand_waits (s := { s with pins := p }) hb
    · intro hx hdist hlimit
      refine singleMove_ends h hexec hheld hbit (f := fun t => startMove t a.val (recordMove t a.val (ofLe d % 16)))
        (fun p => fireMove_starts (s := { s with pins := p }) _ hx) (fun t => (onlyAxis_startMove t a.val _).op) fun p => ?_
      have honly := onlyAxis_startMove { s with pins := p } a.val (recordMove { s with pins := p } a.val (ofLe d % 16))
      refine ⟨?_, honly.others, honly.dict⟩
      rw [startMove_runs (s := { s with pins := p }) (m := recordMove { s with pins := p } a.val (ofLe d % 16)) hdist hlimit]
      have hb := runMove_begun { s with pins := p } a.val (recordMove { s with pins := p } a.val (ofLe d % 16))
        (startWait { s with pins := p } a.val (recordMove { s with pins := p } a.val (ofLe d % 16)).dist)
      exact ⟨hb.state, hb.move, hb.stopped, hb.en, hb.short, hb.ired⟩
    · intro hx hend
      refine singleMove_ends h hexec hheld hbit (f := fun t => startMove t a.val (recordMove t a.val (ofLe d % 16)))
        (fun p => fireMove_starts (s := { s with pins := p }) _ hx) (fun t => (onlyAxis_startMove t a.val _).op) fun p => ?_
      rw [startMove_ends (s := { s with pins := p }) (m := recordMove { s with pins := p } a.val (ofLe d % 16)) hend]
      obtain ⟨hstate, hmove, hstopped⟩ := noMove_standing { s with pins := p } a.val
      have honly := onlyAxis_noMove { s with pins := p } a.val
      exact ⟨hstate, hmove, hstopped, honly.others, honly.dict⟩
    · intro hx hq
      refine singleMove_ends h hexec hheld hbit (f := fun t => setAxis t a.val fun y => { y with queue := some (ofLe d % 16) })
        (fun p => fireMove_queues (s := { s with pins := p }) _ hx hq) (fun t => axisOp_setAxis t a.val _) fun p => ?_
      exact ⟨by rw [axis_emit, axis_setAxis_same, axis_pins], fun k hk => by rw [axis_emit, axis_setAxis_other _ _ hk, axis_pins], rfl⟩
    · intro hx hq
      refine singleMove_ends h hexec hheld hbit (f := fun t => moveOverrun t a.val)
        (fun p => fireMove_overruns (s := { s with pins := p }) _ hx hq) (fun t => axisOp_moveOverrun t a.val) fun p => ?_
      exact moveOverrun_shows { s with pins := p } a.val
    · intro hdist hlimit
      refine axisCommand_ends moveSub h hexec fun p => ?_
      obtain ⟨honly, hbegun⟩ := groupMove_runs (s := { s with pins := p }) hk hdist hlimit
      rw [effectMotion_move, moveCommand_now (s := { s with pins := p }) hheld, moveNow_group (s := { s with pins := p }) hbit hg hok]
      refine ⟨honly.md, honly.sheets, honly.dict, honly.others, fun b hb => ?_⟩
      have hb := hbegun b hb
      exact ⟨hb.state, hb.move, hb.stopped, hb.en, hb.short, hb.ired⟩
    · intro hend
      refine axisCommand_ends moveSub h hexec fun p => ?_
      obtain ⟨honly, hstands⟩ := groupMove_stands (s := { s with pins := p }) hk hend
      rw [effectMotion_move, moveCommand_now (s := { s with pins := p }) hheld, moveNow_group (s := { s with pins := p }) hbit hg hok]
      exact ⟨honly.md, honly.sheets, honly.dict, honly.others, hstands⟩
  · have hexec : exec c s = .next (settle (writeCommand acc (axIdx a.val) 0x39 d s)) := by
      rcases List.mem_pair.1 hc with rfl | rfl <;> rfl
    refine ⟨command_waits stopSub h hexec fun p b hb => ?_, fun hheld => axisCommand_ends stopSub h hexec fun p => ?_⟩
    · rw [effectMotion_stop]
      exact stopCommand_waits (s := { s with pins := p }) hb
    · rw [effectMotion_stop]
      rw [stopCommand_now (s := { s with pins := p }) hheld]
      obtain ⟨hsame, hothers, hqueue, hhard, hramped, hposition⟩ := stopAxis_stopped { s with pins := p } a.val (ofLe d)
      exact ⟨hsame.md, hsame.sheets, hothers, hqueue, hhard, hramped, hposition⟩
  · refine command_waits resumeSub h rfl fun p b hb => ?_
    rw [effectMotion_resume]
    exact resumeCommand_waits (s := { s with pins := p }) hb
  · intro hheld hdist hlimit
    refine axisCommand_ends resumeSub h rfl fun p => ?_
    rw [effectMotion_resume]
    rw [resumeCommand_now (s := { s with pins := p }) hheld]
    obtain ⟨hdict, hmd, hsheets, hothers, hbegun⟩ := resumeAxis_begun (s := { s with pins := p }) hdist hlimit
    refine ⟨hmd, hsheets, hdict, hothers, fun b hb w hw => ?_⟩
    have hb := hbegun b hb w hw
    exact ⟨hb.state, hb.move, hb.stopped, hb.en, hb.short, hb.ired⟩
  · refine command_waits homeSub h rfl fun p b hb => ?_
    obtain ⟨rfl, hpath⟩ := heldOf_self hb
    rw [effectMotion_home]
    exact homeCommand_waits (s := { s with pins := p }) hpath
  · intro hpath hk
    refine axisCommand_ends homeSub h rfl fun p => ?_
    rw [effectMotion_home]
    rw [homeCommand_now (s := { s with pins := p }) hpath, startHoming_present (s := { s with pins := p }) hk]
    have hfound := positioned_shows { s with pins := p } a.val (getS { s with pins := p } 32 (axIdx a.val) 0x45)
    exact hfound
  · intro hpath hk
    refine axisCommand_ends homeSub h rfl fun p => ?_
    rw [effectMotion_home]
    rw [homeCommand_now (s := { s with pins := p }) hpath]
    obtain ⟨m, hm, heq⟩ := startHoming_searches (s := { s with pins := p }) hk
    rw [heq]
    dsimp only
    rw [axis_emit, axis_setAxis_same]
    refine ⟨rfl, rfl, rfl, fun k hk => ?_, rfl, rfl, rfl, rfl, rfl, ?_⟩
    · rw [axis_emit, axis_setAxis_other _ _ hk, axis_pins]
    · rw [hm]
      rfl
  · intro hv
    refine axisCommand_ends enableSub h rfl fun p => ?_
    rw [effectMotion_enable, hv, enableNow_off]
    have hop := axisOp_disableAxis { s with pins := p } a.val
    obtain ⟨hobj, hstate, hen, hmove, hdeferred⟩ := disableAxis_shows { s with pins := p } a.val
    exact ⟨hop.md, hop.sheets, hobj, hstate, hen, hmove, hdeferred, hop.others⟩
  · intro hv hstate hflt
    refine axisCommand_ends enableSub h rfl fun p => ?_
    rw [effectMotion_enable, enableNow_enables (s := { s with pins := p }) hv hstate hflt]
    have hop := axisOp_enableAxis { s with pins := p } a.val
    exact ⟨hop.md, hop.sheets, get_enableAxis { s with pins := p } a.val 0x3C, hop.others,
      by rw [axis_emit, axis_enableAxis]; rfl⟩
  · intro hv hstate
    refine axisCommand_ends enableSub h rfl fun p => ?_
    rw [effectMotion_enable, enableNow_stays (s := { s with pins := p }) hv hstate]
    exact ⟨rfl, rfl, get_put_axis { s with pins := p } a.val 0x3C 0x3C 1, rfl⟩
  · intro hv hstate hflt hserved hmode
    refine axisCommand_completes enableSub h rfl fun p => ?_
    rw [effectMotion_enable, enableNow_faults (s := { s with pins := p }) hv hstate hflt]
    have hop := axisOp_enableAxis { s with pins := p } a.val
    have hserved' : servedWithin (enableAxis { s with pins := p } a.val) .axisDriver a.val (ticksS 10) = false := hserved
    obtain ⟨hfaulted, hreenable, -⟩ := driverFault_first hserved' (by rw [hop.md]; exact hmode)
    exact ⟨answered_emit acc _, hfaulted.md.trans hop.md, hfaulted.state, hfaulted.code, hreenable⟩

end Sys2Proof.Machine

/-! # Ends of motion, limits, and what waited for them (R28, R478, R485 to R492) -/

namespace Sys2Proof.Machine

/-! ## The end of a motion (R478, R485) -/

/-- The axis at the end of its motion: the position stored, nothing queued. -/
def cameToEnd (s : State) (a : Nat) (m : Move) : State :=
  setAxis (settlePosition s a (m.from_ + m.dist) m.dist.natAbs) a fun y => { y with move := none, queue := none }

theorem endMove_some {s : State} {a : Nat} {m : Move} (h : (axis s a).move = some m) :
    endMove s a =
      match (axis s a).queue, (axis s a).stopped with
      | some r, _ => startMove (toStandstill (cameToEnd s a m) a) a (recordMove (toStandstill (cameToEnd s a m) a) a r)
      | none, some _ => setAxis (cameToEnd s a m) a fun y => { y with state := 4 }
      | none, none => toStandstill (cameToEnd s a m) a := by
  simp only [endMove, h, cameToEnd] <;> rfl

theorem axisOp_cameToEnd (s : State) (a : Nat) (m : Move) : AxisOp a s (cameToEnd s a m) := (axisOp_settlePosition s a _ _).trans (axisOp_setAxis _ a _)

theorem axis_cameToEnd (s : State) (a : Nat) (m : Move) :
    ∃ p q, axis (cameToEnd s a m) a = { axis s a with limN := p, limP := q, move := none, queue := none } := by
  obtain ⟨p, q, h⟩ := axis_settlePosition s a (m.from_ + m.dist) m.dist.natAbs
  exact ⟨p, q, by rw [cameToEnd, axis_setAxis_same, h]⟩

theorem get_cameToEnd (s : State) (a : Nat) (m : Move) (k : Nat) :
    get (cameToEnd s a m) (axIdx a) k =
      if k = 0x31 then sImg 32 (m.from_ + m.dist) else if k = 0x3E then (get s (axIdx a) 0x3E + m.dist.natAbs) % 2 ^ 64 else get s (axIdx a) k := by
  rw [cameToEnd, get_setAxis, get_settlePosition]

/-- What the end of a motion shows (R478, R485). -/
structure MotionEnded (s : State) (a : Nat) (w : Move) (u : State) : Prop where
  op : AxisOp a s u
  position : get u (axIdx a) 0x31 = sImg 32 (w.from_ + w.dist)
  steps : get u (axIdx a) 0x3E = (get s (axIdx a) 0x3E + w.dist.natAbs) % 2 ^ 64
  queue : (axis u a).queue = none
  stops : (axis s a).stopped ≠ none → (axis s a).queue = none → (axis u a).state = 4 ∧ (axis u a).move = none ∧ (axis u a).stopped = (axis s a).stopped
  stands : (axis s a).stopped = none → (axis s a).queue = none → (axis u a).state = 1 ∧ (axis u a).move = none
  starts : ∀ r, (axis s a).queue = some r → (axis u a).stopped = none ∧ ((axis u a).state = 1 ∧ (axis u a).move = none ∨
    (axis u a).state = 2 ∧ ∃ y, (axis u a).move = some y ∧ y.set = recordSet u a r ∧ y.from_ = getS u 32 (axIdx a) 0x31 ∧ s.time ≤ y.at_)

/-- A state of the axis alone, changed after the position was stored. -/
theorem motionEnded_position {s : State} {a : Nat} (w : Move) {u : State} (h : OnlyAxis a (cameToEnd s a w) u) :
    AxisOp a s u ∧ get u (axIdx a) 0x31 = sImg 32 (w.from_ + w.dist) ∧ get u (axIdx a) 0x3E = (get s (axIdx a) 0x3E + w.dist.natAbs) % 2 ^ 64 :=
  ⟨(axisOp_cameToEnd s a w).trans h.op, by rw [h.get, get_cameToEnd, if_pos rfl], by rw [h.get, get_cameToEnd, if_neg (by decide), if_pos rfl]⟩

theorem recordMove_standing {t : State} {a : Nat} (r : Nat) (h : (axis t a).move = none) :
    (recordMove t a r).set = recordSet t a r ∧ (recordMove t a r).from_ = getS t 32 (axIdx a) 0x31 :=
  ⟨rfl, by simp [recordMove, positionNow, h]⟩

theorem OnlyAxis.recordSet {a : Nat} {s t : State} (h : OnlyAxis a s t) (r : Nat) : Machine.recordSet t a r = Machine.recordSet s a r := by
  unfold Machine.recordSet
  rw [h.get]

theorem OnlyAxis.getS {a : Nat} {s t : State} (h : OnlyAxis a s t) (w i j : Nat) : Machine.getS t w i j = Machine.getS s w i j := by
  unfold Machine.getS
  rw [h.get]

theorem endMove_ended {s : State} {a : Nat} {w : Move} (hw : (axis s a).move = some w) : MotionEnded s a w (endMove s a) := by
  obtain ⟨p, q, hax⟩ := axis_cameToEnd s a w
  rw [endMove_some hw]
  cases hq : (axis s a).queue with
  | some r =>
    have hstand := onlyAxis_toStandstill (cameToEnd s a w) a
    have haxs := axis_toStandstill (cameToEnd s a w) a
    have htime : (toStandstill (cameToEnd s a w) a).time = s.time := hstand.time.trans (axisOp_cameToEnd s a w).time
    dsimp only
    generalize toStandstill (cameToEnd s a w) a = t at hstand haxs htime ⊢
    have hmove : (axis t a).move = none := by rw [haxs]
    have honly := onlyAxis_startMove t a (recordMove t a r)
    obtain ⟨hop, hpos, hsteps⟩ := motionEnded_position w (hstand.trans honly)
    have hstart := axis_startMove t a (recordMove t a r)
    generalize startMove t a (recordMove t a r) = u at honly hop hpos hsteps hstart ⊢
    obtain ⟨hset, hfrom⟩ := recordMove_standing r hmove
    refine ⟨hop, hpos, hsteps, ?_, fun _ h => by simp [hq] at h, fun _ h => by simp [hq] at h, fun k hk => ?_⟩
    · rcases hstart with h | ⟨b, h⟩ <;> rw [h, haxs, hax]
    · obtain rfl : r = k := Option.some.inj (hq.symm.trans hk)
      rcases hstart with h | ⟨b, h⟩
      · rw [h]
        exact ⟨rfl, .inl ⟨rfl, rfl⟩⟩
      · rw [h]
        refine ⟨rfl, .inr ⟨rfl, _, rfl, ?_, ?_, ?_⟩⟩
        · rw [honly.recordSet, ← hset]
        · rw [honly.getS, ← hfrom]
        · exact htime ▸ Nat.le_add_right _ _
  | none =>
    cases hstopped : (axis s a).stopped with
    | some r =>
      obtain ⟨hop, hpos, hsteps⟩ := motionEnded_position w (onlyAxis_setAxis (cameToEnd s a w) a fun y => { y with state := 4 })
      refine ⟨hop, hpos, hsteps, ?_, fun _ _ => ?_, fun h => by simp [hstopped] at h, fun k hk => by simp [hq] at hk⟩
      · rw [axis_setAxis_same, hax]
      · rw [axis_setAxis_same, hax]
        exact ⟨rfl, rfl, rfl⟩
    | none =>
      obtain ⟨hop, hpos, hsteps⟩ := motionEnded_position w (onlyAxis_toStandstill (cameToEnd s a w) a)
      refine ⟨hop, hpos, hsteps, ?_, fun h => absurd hstopped h, fun _ _ => ?_, fun k hk => by simp [hq] at hk⟩
      · rw [axis_toStandstill, hax]
      · rw [axis_toStandstill]
        exact ⟨rfl, rfl⟩

/-! ## Limits (R485, R486) -/

/-- An axis that has reached a limit, no longer under way to its align position. -/
def limitFrom (s : State) (a : Nat) (positive : Bool) : State :=
  setAxis (setAxis s a (limitSeen positive)) a fun x => { x with aligning := false }

theorem onlyAxis_limitFrom (s : State) (a : Nat) (positive : Bool) : OnlyAxis a s (limitFrom s a positive) :=
  (onlyAxis_setAxis s a _).trans (onlyAxis_setAxis _ a _)

theorem axis_limitFrom (s : State) (a : Nat) (positive : Bool) : axis (limitFrom s a positive) a = { limitSeen positive (axis s a) with aligning := false } := by
  rw [limitFrom, axis_setAxis_same, axis_setAxis_same]

theorem limitActive_away {s : State} {a : Nat} {positive : Bool}
    (h : (axis s a).move = none ∨ ∃ w, (axis s a).move = some w ∧ ¬(if positive then 0 < w.dist else w.dist < 0)) :
    limitActive s a positive = setAxis s a (limitSeen positive) := by
  rcases h with h | ⟨w, hw, hdir⟩
  · simp only [limitActive, h]
    rfl
  · have hto : (if positive then decide (0 < w.dist) else decide (w.dist < 0)) = false := by cases positive <;> simpa using hdir
    simp only [limitActive, hw, hto]
    rfl

theorem limitActive_toward {s : State} {a : Nat} {positive : Bool} {w : Move} (h5 : (axis s a).state ≠ 5) (hw : (axis s a).move = some w)
    (hdir : if positive then 0 < w.dist else w.dist < 0) : limitActive s a positive = limitFault (limitFrom s a positive) a := by
  have hto : (if positive then decide (0 < w.dist) else decide (w.dist < 0)) = true := by cases positive <;> simpa using hdir
  simp only [limitActive, hw, hto, axState, h5, Bool.not_true, Bool.false_eq_true, if_false]
  rfl

/-- What the stop at a limit leaves (R485). -/
structure LimitStopped (s : State) (a : Nat) (t : State) : Prop where
  same : SameButAxes s t
  objects : ∀ k, k ≠ 0x31 ∧ k ≠ 0x32 ∧ k ≠ 0x3E → k < 256 → get t (axIdx a) k = get s (axIdx a) k
  others : ∀ b, b ∉ stopSet s a → axis t b = axis s b
  hard : get s (axIdx a) 0x0C = 0 → ∀ b ∈ stopSet s a, (axis s b).move ≠ none → HardStopped t b
  ramped : get s (axIdx a) 0x0C ≠ 0 → ∀ b ∈ stopSet s a, (axis s b).move ≠ none → (axis s b).state = 2 → Ramping t b

theorem limitStop_stops (s : State) (a : Nat) : LimitStopped s a (limitStop s a) := by
  unfold limitStop
  split
  next h =>
    rw [stopAxis_hard]
    have hstops := hardStops (stopSet s a) s
    exact ⟨hstops.same, fun k hk hlow => hstops.objects a k hk hlow, fun b hb => hardStops_others hb, fun _ b hb hm => hardStops_stop hb hm,
      fun hno => absurd h hno⟩
  next h =>
    have honly := slowStops_only (stopSet s a) ((axis s a).move.map fun m => (profileSet s a 0).2.2.1 * m.lead / max 1 m.dist.natAbs) s
    refine ⟨by unfold SameButAxes; rw [← slowStops, honly.same], fun k _ _ => ?_, honly.others, fun hno => absurd hno h,
      fun _ b hb hm h2 => slowStops_ramp _ hb hm h2⟩
    rw [← slowStops, honly.same]
    rfl

/-- A limit's fault before its serve: the stop, the record, the spill and HOMED. -/
def limitRecord (s : State) (a : Nat) : State :=
  setHomed (spillPath (logEvent (sat (put (limitStop s a) (axIdx a) 0x35 3) (axIdx a) 0x36) clsFault 0x0C a (axIdx a) 0x35) a) a false

theorem limitFault_eq (s : State) (a : Nat) : limitFault s a = serveBegin (limitRecord s a) .axisLimit a 3 0x0C (axIdx a) 0x35 := rfl

/-- What a limit's fault shows (R485, R486). -/
structure LimitFaulted (s : State) (a : Nat) (u : State) : Prop where
  md : u.md = s.md
  axes : ∀ b, axis u b = axis (limitStop s a) b
  code : get u (axIdx a) 0x35 = 3
  count : get u (axIdx a) 0x36 = min (get s (axIdx a) 0x36 + 1) 65535
  homed : get u (axIdx a) 0x32 = 0
  serves : serving u .axisLimit a = true
  spills : ∀ sh ∈ s.sheets, sh.committed = true → sh.mask.testBit a = true → ∃ y ∈ u.sheets, y.uid = sh.uid ∧ y.spoiled = true

theorem limitFault_shows (s : State) (a : Nat) : LimitFaulted s a (limitFault s a) := by
  have hstops := limitStop_stops s a
  rw [limitFault_eq]
  have hserve := serveBegin_sameButLog (limitRecord s a) .axisLimit a 3 0x0C (axIdx a) 0x35
  have hserves := serving_serveBegin (limitRecord s a) .axisLimit a 3 0x0C (axIdx a) 0x35
  generalize serveBegin (limitRecord s a) .axisLimit a 3 0x0C (axIdx a) 0x35 = u at hserve hserves ⊢
  unfold limitRecord at hserve
  have hlog := logEvent_sameButLog (sat (put (limitStop s a) (axIdx a) 0x35 3) (axIdx a) 0x36) clsFault 0x0C a (axIdx a) 0x35
  generalize logEvent (sat (put (limitStop s a) (axIdx a) 0x35 3) (axIdx a) 0x36) clsFault 0x0C a (axIdx a) 0x35 = t at hlog hserve
  have hget (k : Nat) (hk : k ≠ 0x32) : get u (axIdx a) k = get (sat (put (limitStop s a) (axIdx a) 0x35 3) (axIdx a) 0x36) (axIdx a) k := by
    rw [get_of_sameButLog hserve, get_setHomed, if_neg hk, ← get_of_sameButLog hlog]
    rfl
  refine ⟨?_, fun b => ?_, ?_, ?_, ?_, hserves, fun sh hsh hc hm => ?_⟩
  · exact hserve.md.trans (hlog.md.trans hstops.same.md)
  · rw [axis_of_sameButLog hserve]
    exact axis_of_sameButLog hlog b
  · rw [hget _ (by decide), get_sat_axis, if_neg (by decide), get_put_axis, if_pos rfl]
  · rw [hget _ (by decide), get_sat_axis, if_pos rfl, get_put_axis, if_neg (by decide), hstops.objects _ (by decide) (by decide)]
  · rw [get_of_sameButLog hserve, get_setHomed, if_pos rfl]
    rfl
  · have hsheets : t.sheets = s.sheets := hlog.sheets.trans hstops.same.sheets
    obtain ⟨y, hy, hshown⟩ := spillPath_spoils t a (hsheets ▸ hsh) hc hm
    exact ⟨y, hserve.sheets ▸ hy, hshown⟩

/-! ## What waited for the path (R28, R490) -/

/-- An operation of axes that takes no command from the axes that hold one back. -/
structure AxesRun (s t : State) : Prop where
  same : SameButAxes s t
  deferred : ∀ k, (axis t k).deferred = (axis s k).deferred

theorem AxesRun.refl (s : State) : AxesRun s s := ⟨.refl s, fun _ => rfl⟩

theorem AxesRun.trans {s t u : State} (h : AxesRun s t) (k : AxesRun t u) : AxesRun s u :=
  ⟨h.same.trans k.same, fun b => (k.deferred b).trans (h.deferred b)⟩

theorem AxisOp.run {a : Nat} {s t : State} (h : AxisOp a s t) (hd : (axis t a).deferred = (axis s a).deferred) : AxesRun s t := by
  refine ⟨h.same, fun k => ?_⟩
  by_cases hk : k = a
  · rw [hk, hd]
  · rw [h.others k hk]

theorem axesRun_setAxis (s : State) (a : Nat) {f : Axis → Axis} (hf : ∀ x, (f x).deferred = x.deferred) : AxesRun s (setAxis s a f) :=
  (axisOp_setAxis s a f).run (by rw [axis_setAxis_same, hf])

theorem SameButLog.axesRun {s t : State} (h : SameButLog s t) : AxesRun s t := ⟨h.sameButAxes, fun k => by rw [axis_of_sameButLog h]⟩

theorem axesRun_foldl {α : Type} (l : List α) {f : State → α → State} (hf : ∀ u x, AxesRun u (f u x)) (s : State) : AxesRun s (l.foldl f s) :=
  foldl_keeps (AxesRun s) l f s (fun u x _ h => h.trans (hf u x)) (.refl s)

theorem axesRun_noMove (s : State) (a : Nat) : AxesRun s (noMove s a) := (onlyAxis_noMove s a).op.run (by rw [axis_noMove])

theorem axesRun_runMove (s : State) (a : Nat) (m : Move) (w : Nat) : AxesRun s (runMove s a m w) := axesRun_setAxis s a fun _ => rfl

theorem axesRun_startMove (s : State) (a : Nat) (m : Move) : AxesRun s (startMove s a m) := by
  unfold startMove
  split
  · exact axesRun_noMove s a
  · exact axesRun_runMove s a m _

theorem axesRun_moveOverrun (s : State) (a : Nat) : AxesRun s (moveOverrun s a) :=
  (axisOp_moveOverrun s a).run (by simp only [axis, (moveOverrun_shows s a).1])

theorem axesRun_fireMove (s : State) (a r : Nat) : AxesRun s (fireMove s a r).1 := by
  by_cases h : (axis s a).state = 2 ∨ (axis s a).state = 3 ∨ (axis s a).state = 5
  · by_cases hq : (axis s a).queue = none
    · rw [fireMove_queues r h hq]
      exact axesRun_setAxis s a fun _ => rfl
    · rw [fireMove_overruns r h hq]
      exact axesRun_moveOverrun s a
  · by_cases h' : (axis s a).state = 1 ∨ (axis s a).state = 4
    · rw [fireMove_starts r h']
      exact axesRun_startMove s a _
    · simp only [fireMove, h, h', if_false]
      exact .refl s

theorem axesRun_startGroup (s : State) (l : List (Nat × Move)) : AxesRun s (startGroup s l) := by
  unfold startGroup
  split
  · exact axesRun_foldl l (fun u q => axesRun_noMove u q.1) s
  · exact axesRun_foldl l (fun u q => axesRun_runMove u q.1 q.2 _) s

theorem axesRun_groupMove (s : State) (g r : Nat) : AxesRun s (groupMove s g r) := by
  unfold groupMove
  split
  · exact .refl s
  · exact axesRun_startGroup s _

theorem axesRun_moveNow (s : State) (a v : Nat) : AxesRun s (moveNow s a v).1 := by
  unfold moveNow
  split
  · split
    · split
      · exact axesRun_groupMove s _ _
      · exact axesRun_moveOverrun s a
    · exact axesRun_moveOverrun s a
  · exact axesRun_fireMove s a _

theorem axesRun_hardStop (s : State) (a : Nat) : AxesRun s (hardStop s a) := by
  refine (axisOp_hardStop s a).run ?_
  cases h : (axis s a).move with
  | none => rw [axis_hardStop_none h]
  | some m =>
    obtain ⟨p, q, hax⟩ := axis_hardStop_some h
    rw [hax]

theorem axesRun_slowStop (s : State) (a : Nat) (dec : Option Nat) : AxesRun s (slowStop s a dec) := by
  by_cases h : (axis s a).move = none ∨ (axis s a).state ≠ 2
  · rw [slowStop_clears dec h]
    exact axesRun_setAxis s a fun _ => rfl
  · obtain ⟨hm, h2⟩ := not_or.1 h
    obtain ⟨w, r, heq⟩ := slowStop_cuts dec hm (not_not.1 h2)
    rw [heq]
    exact axesRun_setAxis s a fun _ => rfl

theorem axesRun_stopAxis (s : State) (a : Nat) (hard : Bool) : AxesRun s (stopAxis s a hard) := by
  cases hard with
  | true =>
    rw [stopAxis_hard]
    exact axesRun_foldl _ axesRun_hardStop s
  | false =>
    rw [stopAxis_ramped]
    exact axesRun_foldl _ (fun u b => axesRun_slowStop u b none) s

theorem axesRun_startHoming (s : State) (a : Nat) : AxesRun s (startHoming s a) := by
  by_cases h : get s (axIdx a) 0x40 = 0
  · rw [startHoming_present h]
    exact ((axisOp_put s a _ (by decide)).run rfl).trans
      ((axisOp_homingDone _ a).run (by rw [axis_homingDone]))
  · obtain ⟨m, -, heq⟩ := startHoming_searches h
    rw [heq]
    exact axesRun_setAxis s a fun _ => rfl

/-- An axis whose path no committed sheet holds is not the one that a command waits at. -/
theorem heldOf_ne {s : State} {a b : Nat} {l : List Nat} (hfree : pathHeld s a = false) (h : heldOf s a l = some b) : b ≠ a := by
  rintro rfl
  rw [List.find?_some h] at hfree
  cases hfree

theorem heldOf_free {s : State} {a : Nat} (hfree : pathHeld s a = false) : heldOf s a [a] = none := by simp [heldOf, hfree]

theorem deferAxis_deferred {s : State} {a b : Nat} (w : AxisDeferred) (hb : b ≠ a) :
    SameButAxes s (deferAxis s b w) ∧ (axis (deferAxis s b w) a).deferred = (axis s a).deferred := by
  have honly := deferAxis_only s b w
  exact ⟨honly.op.same, by rw [honly.others a hb.symm]⟩

theorem pathHeld_leavePath (s : State) (b : Nat) : pathHeld (leavePath s b) b = false := by
  simp only [pathHeld, leavePath, List.any_map, List.any_eq_false, Function.comp_apply, Bool.not_eq_true]
  intro sh _
  split
  next h => simp [Sheet.holds, testBit_setBit]
  next h => simpa using h

/-- The axis whose deferred command is taken, before the command acts. -/
def released (s : State) (a : Nat) : State := setAxis (leavePath s a) a fun x => { x with deferred := none }

theorem pathHeld_released (s : State) (a : Nat) : pathHeld (released s a) a = false := pathHeld_leavePath s a

theorem axis_released (s : State) (a : Nat) : axis (released s a) a = { axis s a with deferred := none } := axis_setAxis_same (leavePath s a) a _

theorem releaseAxis_cases (s : State) (a : Nat) :
    releaseAxis (leavePath s a) a =
      match (axis s a).deferred with
      | none => leavePath s a
      | some (.move v) =>
        if axisModeCode s .move = 0 ∧ ((heldOf (released s a) a (moveSet (released s a) a v)).isSome ∨ moveRefusal (released s a) a v = 0)
        then moveCommand (released s a) a v else released s a
      | some (.stop hard) => stopCommand (released s a) a hard
      | some .resume =>
        if axisModeCode s .move = 0 ∧ ((heldOf (released s a) a (resumeSet (released s a) a)).isSome ∨ resumeRefusal (released s a) a = 0)
        then resumeCommand (released s a) a else released s a
      | some .home => if axisModeCode s .home = 0 ∧ homeRefusal (released s a) a = 0 then startHoming (released s a) a else released s a := rfl

/-- A command that acts after its path was left takes nothing of the axis's own again. -/
structure ReleaseKeeps (s : State) (a : Nat) (u : State) : Prop where
  md : u.md = s.md
  sheets : u.sheets = (leavePath s a).sheets
  deferred : (axis u a).deferred = none

theorem releaseKeeps_same {s u : State} {a : Nat} (hsame : SameButAxes (released s a) u) (hd : (axis u a).deferred = (axis (released s a) a).deferred) :
    ReleaseKeeps s a u := ⟨hsame.md, hsame.sheets, by rw [hd, axis_released]⟩

theorem AxesRun.releaseKeeps {s u : State} {a : Nat} (h : AxesRun (released s a) u) : ReleaseKeeps s a u := releaseKeeps_same h.same (h.deferred a)

theorem releaseKeeps_refl (s : State) (a : Nat) : ReleaseKeeps s a (released s a) := (AxesRun.refl _).releaseKeeps

/-- A command at a path that was left waits, if at all, on another axis. -/
theorem releaseKeeps_deferAxis {s : State} {a b : Nat} {l : List Nat} (w : AxisDeferred) (h : heldOf (released s a) a l = some b) :
    ReleaseKeeps s a (deferAxis (released s a) b w) := by
  obtain ⟨hsame, hd⟩ := deferAxis_deferred (s := released s a) w (heldOf_ne (pathHeld_released s a) h)
  exact releaseKeeps_same hsame hd

theorem releaseAxis_keeps (s : State) (a : Nat) : ReleaseKeeps s a (releaseAxis (leavePath s a) a) := by
  rw [releaseAxis_cases]
  cases hd : (axis s a).deferred with
  | none => exact ⟨rfl, rfl, hd⟩
  | some w =>
    cases w with
    | move v =>
      dsimp only
      split
      · cases hheld : heldOf (released s a) a (moveSet (released s a) a v) with
        | none =>
          rw [moveCommand_now hheld]
          exact (axesRun_moveNow _ a v).releaseKeeps
        | some b =>
          rw [moveCommand_waits hheld]
          exact releaseKeeps_deferAxis _ hheld
      · exact releaseKeeps_refl s a
    | stop hard =>
      dsimp only
      cases hheld : heldOf (released s a) a (stopSet (released s a) a) with
      | none =>
        rw [stopCommand_now hheld]
        exact (axesRun_stopAxis _ a hard).releaseKeeps
      | some b =>
        rw [stopCommand_waits hheld]
        exact releaseKeeps_deferAxis _ hheld
    | resume =>
      dsimp only
      split
      · cases hheld : heldOf (released s a) a (resumeSet (released s a) a) with
        | none =>
          rw [resumeCommand_now hheld]
          exact (axesRun_startGroup _ _).releaseKeeps
        | some b =>
          rw [resumeCommand_waits hheld]
          exact releaseKeeps_deferAxis _ hheld
      · exact releaseKeeps_refl s a
    | home =>
      dsimp only
      split
      · exact (axesRun_startHoming _ a).releaseKeeps
      · exact releaseKeeps_refl s a

theorem leavePath_left {s : State} {b : Nat} {y : Sheet} (h : y ∈ (leavePath s b).sheets) : y.holds b = false := by
  have hheld := pathHeld_leavePath s b
  rw [pathHeld, List.any_eq_false] at hheld
  simpa using hheld y h

theorem leavePath_keeps {s : State} {b : Nat} {y : Sheet} (h : y ∈ s.sheets) (hy : y.holds b = false) : y ∈ (leavePath s b).sheets :=
  List.mem_map.2 ⟨y, h, by rw [hy]; rfl⟩

theorem release_stop {s : State} {a : Nat} {hard : Bool} {w : Move} (hd : (axis s a).deferred = some (.stop hard)) (hw : (axis s a).move = some w)
    (hg : w.group = none) (h2 : (axis s a).state = 2) : (axis (releaseAxis (leavePath s a) a) a).state = if hard then 4 else 3 := by
  rw [releaseAxis_cases, hd]
  dsimp only
  have hmove : (axis (released s a) a).move = some w := by rw [axis_released, hw]
  have hset : stopSet (released s a) a = [a] := stopSet_single hmove hg
  have hsome : (axis (released s a) a).move ≠ none := by simp [hmove]
  rw [stopCommand_now (hset ▸ heldOf_free (pathHeld_released s a))]
  cases hard with
  | true =>
    rw [stopAxis_hard]
    exact (hardStops_stop (hset ▸ List.mem_singleton_self a) hsome).1
  | false =>
    rw [stopAxis_ramped]
    exact (slowStops_ramp none (hset ▸ List.mem_singleton_self a) hsome (by rw [axis_released, h2])).1

theorem moveSet_single (s : State) (a : Nat) {v : Nat} (h : v.testBit 4 = false) : moveSet s a v = [a] := by simp [moveSet, h]

theorem recordDist_released (s : State) (a r : Nat) : recordDist (released s a) a r = recordDist s a r := by
  simp only [recordDist, positionNow, axis_released]
  rfl

theorem recordMove_released (s : State) (a r : Nat) : recordMove (released s a) a r = recordMove s a r := by
  simp only [recordMove, recordDist_released, positionNow, axis_released]
  rfl

theorem startWait_released (s : State) (a : Nat) (d : Int) : startWait (released s a) a d = startWait s a d := by
  simp only [startWait, axis_released]
  rfl

theorem towardLimit_released (s : State) (a : Nat) (d : Int) : towardLimit (released s a) a d = towardLimit s a d := by
  simp only [towardLimit, axis_released]

theorem release_move {s : State} {a v : Nat} (hd : (axis s a).deferred = some (.move v)) (hmode : axisModeCode s .move = 0) (hbit : v.testBit 4 = false)
    (hx : (axis s a).state = 1 ∨ (axis s a).state = 4) (hdist : recordDist s a (v % 16) ≠ 0)
    (hlimit : towardLimit s a (recordDist s a (v % 16)) = false) :
    Begun (releaseAxis (leavePath s a) a) a { recordMove s a (v % 16) with at_ := s.time + startWait s a (recordDist s a (v % 16)) } := by
  have hfree : heldOf (released s a) a (moveSet (released s a) a v) = none := moveSet_single (released s a) a hbit ▸ heldOf_free (pathHeld_released s a)
  have hx' : (axis (released s a) a).state = 1 ∨ (axis (released s a) a).state = 4 := by rwa [axis_released]
  have hok : moveRefusal (released s a) a v = 0 := by
    have hno : ¬((axis (released s a) a).state = 0 ∨ (axis (released s a) a).state = 6) := by omega
    simp [moveRefusal, hbit, axState, hno]
  have hruns : startMove (released s a) a (recordMove s a (v % 16)) =
      runMove (released s a) a (recordMove s a (v % 16)) (startWait (released s a) a (recordDist s a (v % 16))) :=
    startMove_runs hdist (by rw [towardLimit_released]; exact hlimit)
  rw [releaseAxis_cases, hd]
  dsimp only
  rw [if_pos ⟨hmode, .inr hok⟩, moveCommand_now hfree, moveNow_single hbit, fireMove_starts _ hx', recordMove_released, hruns, startWait_released]
  exact runMove_begun _ _ _ _

theorem homingRefusal_released (s : State) (a : Nat) : homeRefusal (released s a) a = homeRefusal s a := by
  simp only [homeRefusal, axState, axis_released]
  rfl

theorem release_home {s : State} {a : Nat} (hd : (axis s a).deferred = some .home) (hmode : axisModeCode s .home = 0) (hok : homeRefusal s a = 0)
    (hk : get s (axIdx a) 0x40 ≠ 0) :
    (axis (releaseAxis (leavePath s a) a) a).state = 5 ∧ (axis (releaseAxis (leavePath s a) a) a).homing = some .search := by
  obtain ⟨m, -, heq⟩ := startHoming_searches (s := released s a) (a := a) hk
  rw [releaseAxis_cases, hd]
  dsimp only
  rw [if_pos ⟨hmode, homingRefusal_released s a ▸ hok⟩, heq, axis_setAxis_same]
  exact ⟨rfl, rfl⟩

/-! ## A motor's speed command that waited (R28, R459) -/

/-- A motor whose deferred entry was taken. -/
structure EntryTaken (s : State) (m k : Nat) (u : State) : Prop where
  md : u.md = s.md
  sheets : u.sheets = s.sheets
  axes : u.axes = s.axes
  deferred : (motor u m).deferred = none
  target : (motor u m).target = entrySpeed s m k
  entry : (motor u m).entry = k

theorem motor_setMotorState (s : State) (m v k : Nat) : motor (setMotorState s m v) k = motor s k := rfl

theorem EntryTaken.setMotorState {s t : State} {m k : Nat} (h : EntryTaken s m k t) (v : Nat) : EntryTaken s m k (setMotorState t m v) :=
  ⟨h.md, h.sheets, h.axes, h.deferred, h.target, h.entry⟩

theorem EntryTaken.setMotor {s t : State} {m k : Nat} {f : Motor → Motor}
    (hf : ∀ x, (f x).deferred = x.deferred ∧ (f x).target = x.target ∧ (f x).entry = x.entry) (h : EntryTaken s m k t) :
    EntryTaken s m k (setMotor t m f) := by
  obtain ⟨hd, ht, he⟩ := hf (motor t m)
  exact ⟨h.md, h.sheets, h.axes, by rw [motor_setMotor_same, hd, h.deferred], by rw [motor_setMotor_same, ht, h.target],
    by rw [motor_setMotor_same, he, h.entry]⟩

theorem EntryTaken.spinUp {s t : State} {m k : Nat} (h : EntryTaken s m k t) : EntryTaken s m k (spinUp t m) := by
  unfold Machine.spinUp
  split
  · exact (h.setMotorState 1).setMotor fun _ => ⟨rfl, rfl, rfl⟩
  · exact (h.setMotorState 3).setMotor fun _ => ⟨rfl, rfl, rfl⟩

/-- The motor's ramp to an entry's speed begun, and the lock lost where the target changes (R456, R459). -/
def entryRamped (s : State) (m k : Nat) : State :=
  let t := startRamp s m (entrySpeed s m k) (entryRamp s m k)
  setMotor (if entrySpeed s m k = (motor s m).target then t else unlock t m) m fun x => { x with entry := k, deferred := none }

theorem entryRamped_taken (s : State) (m k : Nat) : EntryTaken s m k (entryRamped s m k) := by
  unfold entryRamped startRamp unlock
  dsimp only
  split
  · exact ⟨rfl, rfl, rfl, by rw [motor_setMotor_same], by rw [motor_setMotor_same, motor_setMotor_same], by rw [motor_setMotor_same]⟩
  · split
    · refine ⟨rfl, rfl, rfl, by rw [motor_setMotor_same], ?_, by rw [motor_setMotor_same]⟩
      rw [motor_setMotor_same, motor_setMotor_same, motor_setMotorState, motor_setMotor_same]
    · exact ⟨rfl, rfl, rfl, by rw [motor_setMotor_same], by rw [motor_setMotor_same, motor_setMotor_same], by rw [motor_setMotor_same]⟩

theorem commandEntry_taken (s : State) (m k : Nat) : EntryTaken s m k (commandEntry s m k) := by
  have heq : commandEntry s m k = if waveform s m = 0 ∨ motorState s m = 7 then entryRamped s m k
      else if entrySpeed s m k = 0 then entryRamped s m k
      else if motorState s m = 0 ∨ motorState s m = 6 then spinUp (entryRamped s m k) m else entryRamped s m k := rfl
  have h := entryRamped_taken s m k
  rw [heq]
  split
  · exact h
  · split
    · exact h
    · split
      · exact h.spinUp
      · exact h

theorem releaseMotor_none {s : State} {m : Nat} (h : (motor s m).deferred = none) : releaseMotor s m = s := by simp [releaseMotor, h]

theorem releaseMotor_some {s : State} {m k : Nat} (h : (motor s m).deferred = some k) :
    releaseMotor s m = if motorModeCode s = 0 ∧ entryCheck s m k = 0 then commandEntry s m k else setMotor s m fun x => { x with deferred := none } := by
  simp [releaseMotor, h]

/-- What a motor's release shows. -/
structure MotorReleased (s : State) (m : Nat) (u : State) : Prop where
  md : u.md = s.md
  sheets : u.sheets = s.sheets
  axes : u.axes = s.axes
  deferred : (motor u m).deferred = none
  takes : ∀ k, (motor s m).deferred = some k → motorModeCode s = 0 → entryCheck s m k = 0 → (motor u m).target = entrySpeed s m k ∧ (motor u m).entry = k

theorem releaseMotor_released (s : State) (m : Nat) : MotorReleased s m (releaseMotor s m) := by
  cases h : (motor s m).deferred with
  | none =>
    rw [releaseMotor_none h]
    exact ⟨rfl, rfl, rfl, h, fun k hk => by simp [h] at hk⟩
  | some k =>
    rw [releaseMotor_some h]
    split
    next hok =>
      have htaken := commandEntry_taken s m k
      refine ⟨htaken.md, htaken.sheets, htaken.axes, htaken.deferred, fun j hj _ _ => ?_⟩
      obtain rfl : k = j := Option.some.inj (h.symm.trans hj)
      exact ⟨htaken.target, htaken.entry⟩
    next hno =>
      refine ⟨rfl, rfl, rfl, by rw [motor_setMotor_same], fun j hj hmode hcheck => absurd ⟨hmode, ?_⟩ hno⟩
      obtain rfl : k = j := Option.some.inj (h.symm.trans hj)
      exact hcheck

/-! ## The obligation -/

theorem takeStandstill_only (s : State) (a : Nat) : OnlyAxis a s (takeStandstill s a) := onlyAxis_setAxis _ _ _

theorem axis_takeStandstill (s : State) (a : Nat) :
    axis (takeStandstill s a) a =
      { axis s a with en := get s (axIdx a) 0x0A != 0, short := get s (axIdx a) 0x0A == 1, ired := get s (axIdx a) 0x0A == 2 } := axis_setAxis_same s a _

theorem motor_leavePath (s : State) (b m : Nat) : motor (leavePath s b) m = motor s m := rfl

/-- Settles O53. -/
theorem axisMotionEnds : Obligations.AxisMotionEnds := by
  unfold Obligations.AxisMotionEnds
  intro a s
  dsimp only
  refine ⟨fun w hx hw => ?_, fun h2 h3 => ?_, fun hx => ?_, fun h1 h4 => ?_, fun positive => ⟨fun hm => ?_, fun w g hw hg hdir h5 hkind => ?_, fun w hw hg hdir h5 => ?_⟩,
    fun t => ?_⟩
  · have h := endMove_ended hw
    refine ⟨setAxis (endMove s a.val) a.val fun x => { x with aligning := false }, by simp [exec, execMoveEnd, axState, hx, done], ?_⟩
    have hax := axis_setAxis_same (endMove s a.val) a.val fun x => { x with aligning := false }
    refine ⟨⟨fun b hb => (axis_setAxis_other _ _ hb).trans (h.op.others b hb), h.op.md⟩, h.op.sheets, h.position, h.steps, ?_, ?_, fun hs hq => ?_,
      fun hs hq => ?_, fun r hr => ?_⟩
    · rw [hax, ← h.queue]
    · rw [hax]
    · rw [hax]
      exact h.stops hs hq
    · rw [hax]
      exact h.stands hs hq
    · rw [hax]
      exact h.starts r hr
  · exact ⟨s, by simp [exec, execMoveEnd, axState, h2, h3, done], rfl⟩
  · have honly := takeStandstill_only s a.val
    exact ⟨takeStandstill s a.val, by simp [exec, execStandstillDelayEnd, axState, hx, done], ⟨honly.others, honly.md⟩, honly.same, axis_takeStandstill s a.val⟩
  · exact ⟨s, by simp [exec, execStandstillDelayEnd, axState, h1, h4, done], rfl⟩
  · refine ⟨_, rfl, ?_⟩
    rw [limitActive_away hm]
    exact ⟨axis_setAxis_same s a.val _, ⟨fun b hb => axis_setAxis_other _ _ hb, rfl⟩, rfl⟩
  · refine ⟨_, rfl, ?_⟩
    rw [limitActive_toward h5 hw hdir]
    have hfrom := onlyAxis_limitFrom s a.val positive
    have hax := axis_limitFrom s a.val positive
    have hfault := limitFault_shows (limitFrom s a.val positive) a.val
    have hstops := limitStop_stops (limitFrom s a.val positive) a.val
    have hset : stopSet (limitFrom s a.val positive) a.val = members s g := by
      rw [stopSet, hax]
      simp only [(limitSeen_keeps _ _).1, hw, hg]
      rfl
    have hmove (b : Nat) : (axis (limitFrom s a.val positive) b).move = (axis s b).move := by
      by_cases hb : b = a.val
      · rw [hb, hax]
        exact (limitSeen_keeps _ _).1
      · rw [hfrom.others b hb]
    refine ⟨hfault.md.trans hfrom.md, hfault.code, hfault.homed, fun b hb hm => ?_⟩
    obtain ⟨hstate, hnone, -⟩ := hstops.hard ((hfrom.get _ _).trans hkind) b (hset ▸ hb) (by rwa [hmove])
    rw [hfault.axes]
    exact ⟨hstate, hnone⟩
  · refine ⟨_, rfl, ?_⟩
    rw [limitActive_toward h5 hw hdir]
    have hfrom := onlyAxis_limitFrom s a.val positive
    have hax := axis_limitFrom s a.val positive
    have hfault := limitFault_shows (limitFrom s a.val positive) a.val
    have hstops := limitStop_stops (limitFrom s a.val positive) a.val
    have hmove : (axis (limitFrom s a.val positive) a.val).move = some w := by
      rw [hax]
      exact (limitSeen_keeps _ _).1.trans hw
    have hset : stopSet (limitFrom s a.val positive) a.val = [a.val] := stopSet_single hmove hg
    have hsome : (axis (limitFrom s a.val positive) a.val).move ≠ none := by simp [hmove]
    have hmem : a.val ∈ stopSet (limitFrom s a.val positive) a.val := hset ▸ List.mem_singleton_self _
    refine ⟨⟨fun b hb => ?_, hfault.md.trans hfrom.md⟩, hfault.code, ?_, hfault.homed, hfault.serves, fun hkind => ?_, fun hkind h2 => ?_,
      fun sh hsh => hfault.spills sh (hfrom.sheets ▸ hsh)⟩
    · rw [hfault.axes, hstops.others b (by rw [hset]; simpa using hb), hfrom.others b hb]
    · rw [hfault.count, hfrom.get]
    · obtain ⟨hstate, hnone, -⟩ := hstops.hard ((hfrom.get _ _).trans hkind) _ hmem hsome
      rw [hfault.axes]
      exact ⟨hstate, hnone⟩
    · rw [hfault.axes]
      refine hstops.ramped (by rwa [hfrom.get]) _ hmem hsome ?_
      rw [hax]
      exact (limitSeen_keeps _ _).2.2.1.trans h2
  · by_cases ht : t.val < 16
    · have hkeeps := releaseAxis_keeps s t.val
      refine ⟨releaseAxis (leavePath s t.val) t.val, by simp [exec, execDeferredCommandRelease, ht, done], hkeeps.md,
        fun y hy => leavePath_left (hkeeps.sheets ▸ hy), fun y hy hno => hkeeps.sheets ▸ leavePath_keeps hy hno, fun he => ?_, fun m k hm => by omega⟩
      rw [← he]
      refine ⟨hkeeps.deferred, fun hd => ?_, fun h w hd hw hg h2 => release_stop hd hw hg h2, fun v hd hmode hbit hx hdist hlimit => ?_,
        fun hd hmode hok hk => release_home hd hmode hok hk⟩
      · rw [releaseAxis_cases, hd]
        exact ⟨rfl, rfl⟩
      · have hbegun := release_move hd hmode hbit hx hdist hlimit
        exact ⟨hbegun.state, hbegun.move⟩
    · have h := releaseMotor_released (leavePath s t.val) (t.val - 16)
      refine ⟨releaseMotor (leavePath s t.val) (t.val - 16), by simp [exec, execDeferredCommandRelease, ht, done], h.md, fun y hy => leavePath_left (h.sheets ▸ hy),
        fun y hy hno => h.sheets ▸ leavePath_keeps hy hno, fun he => by omega, fun m k hm => ?_⟩
      obtain rfl : t.val - 16 = m := by omega
      exact ⟨h.deferred, h.axes, fun hd hmode hcheck => h.takes k hd hmode hcheck⟩


end Sys2Proof.Machine

/-! # Speed commands and the course of a motor (R456 to R460, R465, R467) -/

namespace Sys2Proof.Machine

/-! ## The operations of one motor -/

theorem get_put_motor (s : State) (n j k v : Nat) : get (put s (motIdx n) j v) (motIdx n) k = if k = j then v else get s (motIdx n) k := by
  split
  next hk => rw [hk, get_put_same _ _ _ (isLogIdx_motIdx n)]
  next hk => rw [get_put_other _ _ (by unfold keyOf; omega)]

/-- Nothing but one motor and its objects differs. -/
structure OnlyMotor (n : Nat) (s t : State) : Prop where
  same : t = { s with dict := t.dict, motors := t.motors }
  others : ∀ k, k ≠ n → motor t k = motor s k
  keys : ∀ k, k / 256 ≠ motIdx n → tabFind t.dict k = tabFind s.dict k

theorem OnlyMotor.refl (n : Nat) (s : State) : OnlyMotor n s s := ⟨rfl, fun _ _ => rfl, fun _ _ => rfl⟩

theorem OnlyMotor.trans {n : Nat} {s t u : State} (h : OnlyMotor n s t) (k : OnlyMotor n t u) : OnlyMotor n s u :=
  ⟨by rw [k.same, h.same], fun b hb => (k.others b hb).trans (h.others b hb), fun b hb => (k.keys b hb).trans (h.keys b hb)⟩

theorem OnlyMotor.md {n : Nat} {s t : State} (h : OnlyMotor n s t) : t.md = s.md := by rw [h.same]
theorem OnlyMotor.time {n : Nat} {s t : State} (h : OnlyMotor n s t) : t.time = s.time := by rw [h.same]
theorem OnlyMotor.log {n : Nat} {s t : State} (h : OnlyMotor n s t) : t.log = s.log := by rw [h.same]
theorem OnlyMotor.sheets {n : Nat} {s t : State} (h : OnlyMotor n s t) : t.sheets = s.sheets := by rw [h.same]

theorem onlyMotor_setMotor (s : State) (n : Nat) (f : Motor → Motor) : OnlyMotor n s (setMotor s n f) :=
  ⟨rfl, fun _ hk => motor_setMotor_other s f hk, fun _ _ => rfl⟩

theorem onlyMotor_put (s : State) (n : Nat) {j : Nat} (v : Nat) (hj : j < 256) : OnlyMotor n s (put s (motIdx n) j v) :=
  ⟨rfl, fun _ _ => rfl, fun k hk => tabFind_tabSet_other _ _ (by rintro rfl; unfold keyOf at hk; omega)⟩

theorem onlyMotor_setMotorState (s : State) (n v : Nat) : OnlyMotor n s (setMotorState s n v) := onlyMotor_put s n v (by decide)

theorem motor_put (s : State) (i j v k : Nat) : motor (put s i j v) k = motor s k := rfl

theorem motorState_setMotor (s : State) (n k : Nat) (f : Motor → Motor) : motorState (setMotor s n f) k = motorState s k := rfl

theorem motorState_setMotorState (s : State) (n v : Nat) : motorState (setMotorState s n v) n = v :=
  get_put_same _ _ _ (isLogIdx_motIdx n)

theorem keepsObjects_setMotorState (s : State) (n v : Nat) : KeepsObjects [keyOf (motIdx n) 0x30] s (setMotorState s n v) :=
  keepsObjects_put s (motIdx n) 0x30 v (by simp)

theorem keepsObjects_setMotor (ks : List Nat) (s : State) (n : Nat) (f : Motor → Motor) : KeepsObjects ks s (setMotor s n f) := keepsObjects_of_dict_eq rfl

theorem onlyMotor_spinUp (s : State) (n : Nat) : OnlyMotor n s (spinUp s n) := by
  unfold spinUp
  split
  · exact (onlyMotor_setMotorState s n 1).trans (onlyMotor_setMotor _ n _)
  · exact (onlyMotor_setMotorState s n 3).trans (onlyMotor_setMotor _ n _)

theorem keepsObjects_spinUp (s : State) (n : Nat) : KeepsObjects [keyOf (motIdx n) 0x30] s (spinUp s n) := by
  unfold spinUp
  split
  · exact keepsObjects_setMotorState s n 1
  · exact keepsObjects_setMotorState s n 3

theorem motorState_spinUp (s : State) (n : Nat) : motorState (spinUp s n) n = if n < 6 then 1 else 3 := by
  unfold spinUp
  split
  · rw [motorState_setMotor, motorState_setMotorState]
  · rw [motorState_setMotor, motorState_setMotorState]

/-- What spinning up leaves of a motor's command. -/
theorem motor_spinUp (s : State) (n : Nat) :
    (motor (spinUp s n) n).gatesLow = false ∧ (motor (spinUp s n) n).target = (motor s n).target ∧ (motor (spinUp s n) n).entry = (motor s n).entry ∧
      (motor (spinUp s n) n).deferred = (motor s n).deferred ∧ (motor (spinUp s n) n).rampFrom = (motor s n).rampFrom ∧
      (motor (spinUp s n) n).rampAt = (motor s n).rampAt ∧ (motor (spinUp s n) n).rampFor = (motor s n).rampFor ∧
      (motor (spinUp s n) n).restart = (motor s n).restart := by
  unfold spinUp
  split <;> rw [motor_setMotor_same, motor_setMotorState] <;> exact ⟨rfl, rfl, rfl, rfl, rfl, rfl, rfl, rfl⟩

/-! ## Speed commands (R456 to R459) -/

/-- The ramp that a speed entry begins on its motor. -/
structure RampBegun (s : State) (m k : Nat) (x : Motor) : Prop where
  target : x.target = entrySpeed s m k
  entry : x.entry = k
  deferred : x.deferred = none
  rampFrom : x.rampFrom = commandedNow s m
  rampAt : x.rampAt = s.time
  rampFor : x.rampFor = entryRamp s m k

theorem onlyMotor_unlock (s : State) (m : Nat) : OnlyMotor m s (unlock s m) ∧ KeepsObjects [keyOf (motIdx m) 0x30] s (unlock s m) := by
  unfold unlock
  split
  · exact ⟨(onlyMotor_setMotorState s m 3).trans (onlyMotor_setMotor _ m _), keepsObjects_setMotorState s m 3⟩
  · exact ⟨.refl m s, keepsObjects_of_dict_eq rfl⟩

theorem motorState_unlock (s : State) (m : Nat) :
    motorState (unlock s m) m = if motorState s m = 4 ∨ motorState s m = 5 then 3 else motorState s m := by
  unfold unlock
  split
  · rw [motorState_setMotor, motorState_setMotorState]
  · rfl

theorem motor_unlock (s : State) (m : Nat) :
    (motor (unlock s m) m).target = (motor s m).target ∧ (motor (unlock s m) m).rampFrom = (motor s m).rampFrom ∧
      (motor (unlock s m) m).rampAt = (motor s m).rampAt ∧ (motor (unlock s m) m).rampFor = (motor s m).rampFor := by
  unfold unlock
  split
  · rw [motor_setMotor_same, motor_setMotorState]
    exact ⟨rfl, rfl, rfl, rfl⟩
  · exact ⟨rfl, rfl, rfl, rfl⟩

theorem entryRamped_only (s : State) (m k : Nat) : OnlyMotor m s (entryRamped s m k) ∧ KeepsObjects [keyOf (motIdx m) 0x30] s (entryRamped s m k) := by
  have hramp : OnlyMotor m s (startRamp s m (entrySpeed s m k) (entryRamp s m k)) := onlyMotor_setMotor s m _
  obtain ⟨hunlock, hkeeps⟩ := onlyMotor_unlock (startRamp s m (entrySpeed s m k) (entryRamp s m k)) m
  unfold entryRamped
  dsimp only
  split
  · exact ⟨hramp.trans (onlyMotor_setMotor _ m _), keepsObjects_of_dict_eq rfl⟩
  · exact ⟨(hramp.trans hunlock).trans (onlyMotor_setMotor _ m _), keepsObjects_trans (keepsObjects_of_dict_eq rfl) hkeeps⟩

theorem motorState_entryRamped (s : State) (m k : Nat) :
    motorState (entryRamped s m k) m =
      if (motorState s m = 4 ∨ motorState s m = 5) ∧ changesSpeed s m k = true then 3 else motorState s m := by
  unfold entryRamped
  dsimp only
  rw [motorState_setMotor]
  by_cases hv : entrySpeed s m k = (motor s m).target
  · rw [if_pos hv, if_neg (by simp [changesSpeed, hv])]
    rfl
  · rw [if_neg hv, motorState_unlock]
    have hchanges : changesSpeed s m k = true := by simpa [changesSpeed] using hv
    simp only [hchanges, and_true]
    rfl

theorem motor_entryRamped (s : State) (m k : Nat) : RampBegun s m k (motor (entryRamped s m k) m) := by
  have hramp : motor (startRamp s m (entrySpeed s m k) (entryRamp s m k)) m =
      { motor s m with rampFrom := commandedNow s m, rampAt := s.time, rampFor := entryRamp s m k, target := entrySpeed s m k, trim := 0, inBand := none } :=
    motor_setMotor_same s m _
  obtain ⟨htarget, hfrom, hat, hfor⟩ := motor_unlock (startRamp s m (entrySpeed s m k) (entryRamp s m k)) m
  unfold entryRamped
  dsimp only
  rw [motor_setMotor_same]
  split
  · rw [hramp]
    exact ⟨rfl, rfl, rfl, rfl, rfl, rfl⟩
  · rw [hramp] at htarget hfrom hat hfor
    exact ⟨htarget, rfl, rfl, hfrom, hat, hfor⟩

theorem RampBegun.spinUp {s t : State} {m k : Nat} (h : RampBegun s m k (motor t m)) : RampBegun s m k (motor (spinUp t m) m) := by
  obtain ⟨-, htarget, hentry, hdeferred, hfrom, hat, hfor, -⟩ := motor_spinUp t m
  exact ⟨htarget.trans h.target, hentry.trans h.entry, hdeferred.trans h.deferred, hfrom.trans h.rampFrom, hat.trans h.rampAt, hfor.trans h.rampFor⟩

/-- Whether a speed entry makes a standing motor turn (R460, R465). -/
def Turns (s : State) (m k : Nat) : Prop :=
  waveform s m ≠ 0 ∧ motorState s m ≠ 7 ∧ entrySpeed s m k ≠ 0 ∧ (motorState s m = 0 ∨ motorState s m = 6)

theorem commandEntry_turns {s : State} {m k : Nat} (h : Turns s m k) : commandEntry s m k = spinUp (entryRamped s m k) m := by
  obtain ⟨hwave, h7, hv, hstate⟩ := h
  refine (if_neg (by simp [hwave, h7])).trans ((if_neg hv).trans (if_pos hstate))

theorem commandEntry_ramps {s : State} {m k : Nat} (h : ¬Turns s m k) : commandEntry s m k = entryRamped s m k := by
  have heq : commandEntry s m k = if waveform s m = 0 ∨ motorState s m = 7 then entryRamped s m k
      else if entrySpeed s m k = 0 then entryRamped s m k
      else if motorState s m = 0 ∨ motorState s m = 6 then spinUp (entryRamped s m k) m else entryRamped s m k := rfl
  rw [heq]
  split
  · rfl
  next h1 =>
    split
    · rfl
    next h2 =>
      split
      next h3 => exact absurd ⟨fun e => h1 (.inl e), fun e => h1 (.inr e), h2, h3⟩ h
      · rfl

theorem commandEntry_only (s : State) (m k : Nat) : OnlyMotor m s (commandEntry s m k) ∧ KeepsObjects [keyOf (motIdx m) 0x30] s (commandEntry s m k) := by
  obtain ⟨honly, hkeeps⟩ := entryRamped_only s m k
  by_cases h : Turns s m k
  · rw [commandEntry_turns h]
    exact ⟨honly.trans (onlyMotor_spinUp _ m), keepsObjects_trans hkeeps (keepsObjects_spinUp _ m)⟩
  · rw [commandEntry_ramps h]
    exact ⟨honly, hkeeps⟩

theorem commandEntry_begun (s : State) (m k : Nat) : RampBegun s m k (motor (commandEntry s m k) m) := by
  by_cases h : Turns s m k
  · rw [commandEntry_turns h]
    exact (motor_entryRamped s m k).spinUp
  · rw [commandEntry_ramps h]
    exact motor_entryRamped s m k

/-- An accepted speed command completes with its effect and its answer; the pins' lock sequences alone are touched beside it. -/
theorem speedCommand_completes {s : State} {acc : Accessor} {m : Fin 12} {d : List Byte} {P : State → Prop} (h : Accepted s acc (motIdx m.val) 0x18 d)
    (hP : ∀ p, P (emit (speedNow { s with pins := p } m.val (ofLe d) false) (.answer acc 0 []))) : Completes (.speedCommand acc m d) s P := by
  have hrow : ∀ m : Fin 12, (writeRow (motIdx m.val) 0x18).cls ≠ .rws ∧ (writeRow (motIdx m.val) 0x18).ty ≠ .blob := by decide +kernel
  obtain ⟨hcls, hty⟩ := hrow m
  have hidx : 0x4800 ≤ motIdx m.val ∧ motIdx m.val < 0x480C := by unfold motIdx; omega
  have hview : viewOf (motIdx m.val) = (motIdx m.val, false) := by
    unfold viewOf
    rw [if_neg (by omega), if_neg (by omega), decide_eq_false (by omega)]
  have hthreshold : (thresholdOf (motIdx m.val) 0x18).isSome = false := by
    unfold thresholdOf
    rw [if_neg (by omega), if_neg (by omega), if_neg (by omega), if_neg (by omega)]
    rfl
  have hmotion (t : State) (v : Nat) : effectMotion t (motIdx m.val) 0x18 v = speedNow t m.val v false := by
    have hsub : motIdx m.val - 0x4800 = m.val := by unfold motIdx; omega
    unfold effectMotion
    rw [if_pos ⟨hidx.1, hidx.2, rfl⟩, hsub]
  have heffect (t : State) (v : Nat) : writeEffect t acc (writeRow (motIdx m.val) 0x18) (motIdx m.val) 0x18 v d = (speedNow t m.val v false, 0) := by
    unfold writeEffect
    rw [if_neg hcls, if_neg (by omega), hthreshold, if_neg (by simp), if_neg (by omega), if_neg (by omega), if_neg (by simp [hty]), if_pos (by omega), hmotion]
  refine ⟨_, rfl, ?_⟩
  rw [writeCommand_accepted h hview, heffect, breakLock_eq]
  exact hP _

/-! ## The course of a motor (R460, R465, R467) -/

theorem onlyMotor_beginRun (s : State) (n : Nat) : OnlyMotor n s (beginRun s n) := (onlyMotor_setMotorState s n 3).trans (onlyMotor_setMotor _ n _)

theorem motorState_beginRun (s : State) (n : Nat) : motorState (beginRun s n) n = 3 := motorState_setMotorState s n 3

/-- What a run that begins from the measured speed leaves of its motor. -/
theorem motor_beginRun (s : State) (n : Nat) :
    motor (beginRun s n) n =
      { motor s n with gatesLow := false, lowSides := false, intQ := 0, rampFrom := getS s 32 (motIdx n) 0x31, rampAt := s.time,
                       rampFor := accelTicks s n ((motor s n).target - getS s 32 (motIdx n) 0x31), inBand := none } := by
  unfold beginRun
  rw [motor_setMotor_same]
  rfl

theorem onlyMotor_gatesOff (s : State) (n : Nat) : OnlyMotor n s (gatesOff s n) := onlyMotor_setMotor s n _

theorem onlyMotor_motorOff (s : State) (n : Nat) : OnlyMotor n s (motorOff s n) :=
  (onlyMotor_gatesOff s n).trans ((onlyMotor_setMotorState _ n 0).trans ((onlyMotor_put _ n _ (by decide)).trans (onlyMotor_setMotor _ n _)))

theorem keepsObjects_motorOff (s : State) (n : Nat) : KeepsObjects [keyOf (motIdx n) 0x30, keyOf (motIdx n) 0x31] s (motorOff s n) := by
  have hstate : KeepsObjects [keyOf (motIdx n) 0x30, keyOf (motIdx n) 0x31] (gatesOff s n) (setMotorState (gatesOff s n) n 0) :=
    keepsObjects_put _ _ _ _ (by simp)
  have hspeed : KeepsObjects [keyOf (motIdx n) 0x30, keyOf (motIdx n) 0x31] (setMotorState (gatesOff s n) n 0)
      (putS (setMotorState (gatesOff s n) n 0) 32 (motIdx n) 0x31 0) := keepsObjects_put _ _ _ _ (by simp)
  exact keepsObjects_trans (keepsObjects_of_dict_eq rfl) (keepsObjects_trans hstate (keepsObjects_trans hspeed (keepsObjects_of_dict_eq rfl)))

theorem motor_motorOff (s : State) (n : Nat) : (motor (motorOff s n) n).gatesLow = true ∧ (motor (motorOff s n) n).target = 0 ∧
    (motor (motorOff s n) n).restart = (motor s n).restart := by
  have hgates : motor (gatesOff s n) n = { motor s n with gatesLow := true, duties := [0, 0, 0], lows := [0, 0, 0], samples := [], lowSides := false, edges := [],
                                                          legs := (motor s n).legs.map (Leg.off (get s (motIdx n) 3)) } := motor_setMotor_same s n _
  unfold motorOff
  rw [motor_setMotor_same, putS, motor_put, motor_setMotorState, hgates]
  exact ⟨rfl, rfl, rfl⟩

theorem get_motorOff (s : State) (n k : Nat) :
    get (motorOff s n) (motIdx n) k = if k = 0x31 then 0 else if k = 0x30 then 0 else get s (motIdx n) k := by
  unfold motorOff
  rw [get_setMotor, putS, get_put_motor, setMotorState, get_put_motor]
  rfl

theorem getS_motorOff (s : State) (n : Nat) : getS (motorOff s n) 32 (motIdx n) 0x31 = 0 := by
  rw [getS, get_motorOff]
  rfl

theorem motorReached_sameButLog (s : State) (n : Nat) : SameButLog s (motorReached s n) := servePass_sameButLog _ _ _ _ _ _

theorem SameButLog.motor {s t : State} (h : SameButLog s t) (k : Nat) : Machine.motor t k = Machine.motor s k := by simp [Machine.motor, h.motors]

theorem SameButLog.motorState {s t : State} (h : SameButLog s t) (k : Nat) : Machine.motorState t k = Machine.motorState s k :=
  h.get 0x30 (isLogIdx_motIdx k)

/-- What the restart of a motor shows (R465). -/
structure Restarted (s : State) (n : Nat) (u : State) : Prop where
  others : ∀ k, k ≠ n → motor u k = motor s k
  md : u.md = s.md
  count : get u (motIdx n) 0x38 = min (get s (motIdx n) 0x38 + 1) 65535
  restart : (motor u n).restart = false
  ends : (motor s n).target = 0 ∨ waveform s n = 0 → motorState u n = 0 ∧ serving u .motor n = false
  runs : (motor s n).target ≠ 0 → waveform s n ≠ 0 →
    motorState u n = (if 6 ≤ n ∨ 15000 < (getS s 32 (motIdx n) 0x31).natAbs then 3 else 1) ∧ (motor u n).gatesLow = false

/-- A restart counted, before the motor is off or runs again. -/
def restartCounted (s : State) (n : Nat) : State := sat (setMotor s n fun x => { x with restart := false }) (motIdx n) 0x38

theorem onlyMotor_restartCounted (s : State) (n : Nat) : OnlyMotor n s (restartCounted s n) :=
  (onlyMotor_setMotor s n _).trans (onlyMotor_put _ n _ (by decide))

theorem motor_restartCounted (s : State) (n : Nat) : motor (restartCounted s n) n = { motor s n with restart := false } := by
  rw [restartCounted, sat, satBy, motor_put, motor_setMotor_same]

theorem get_restartCounted (s : State) (n k : Nat) :
    get (restartCounted s n) (motIdx n) k = if k = 0x38 then min (get s (motIdx n) 0x38 + 1) 65535 else get s (motIdx n) k := get_put_motor _ n 0x38 k _

theorem restartMotor_eq (s : State) (n : Nat) :
    restartMotor s n =
      if (motor (restartCounted s n) n).target = 0 ∨ waveform (restartCounted s n) n = 0 then motorReached (motorOff (restartCounted s n) n) n
      else if 6 ≤ n then spinUp (setMotor (restartCounted s n) n fun x =>
        { x with rampFrom := getS (restartCounted s n) 32 (motIdx n) 0x31, rampAt := (restartCounted s n).time }) n
      else if 15000 < (getS (restartCounted s n) 32 (motIdx n) 0x31).natAbs then beginRun (restartCounted s n) n
      else spinUp (restartCounted s n) n := rfl

theorem waveform_restartCounted (s : State) (n : Nat) : waveform (restartCounted s n) n = waveform s n := by
  unfold waveform
  rw [get_restartCounted, if_neg (by decide)]

theorem getS_restartCounted (s : State) (n : Nat) : getS (restartCounted s n) 32 (motIdx n) 0x31 = getS s 32 (motIdx n) 0x31 := by
  unfold getS
  rw [get_restartCounted, if_neg (by decide)]

/-- A motor that runs again after the restart was counted. -/
theorem restarted_runs {s u : State} {n st : Nat} (h : OnlyMotor n (restartCounted s n) u) (hkeeps : KeepsObjects [keyOf (motIdx n) 0x30] (restartCounted s n) u)
    (hstate : motorState u n = st) (hst : st = if 6 ≤ n ∨ 15000 < (getS s 32 (motIdx n) 0x31).natAbs then 3 else 1) (hgates : (motor u n).gatesLow = false)
    (hrestart : (motor u n).restart = (motor (restartCounted s n) n).restart) (htarget : (motor s n).target ≠ 0) (hwave : waveform s n ≠ 0) :
    Restarted s n u := by
  have hall := (onlyMotor_restartCounted s n).trans h
  refine ⟨hall.others, hall.md, ?_, by rw [hrestart, motor_restartCounted], fun hno => ?_, fun _ _ => ⟨hstate.trans hst, hgates⟩⟩
  · rw [hkeeps.get (by unfold keyOf; simp) (isLogIdx_motIdx n), get_restartCounted, if_pos rfl]
  · rcases hno with hno | hno
    · exact absurd hno htarget
    · exact absurd hno hwave

theorem keepsObjects_beginRun (s : State) (n : Nat) : KeepsObjects [keyOf (motIdx n) 0x30] s (beginRun s n) := keepsObjects_setMotorState s n 3

theorem restartMotor_restarted (s : State) (n : Nat) : Restarted s n (restartMotor s n) := by
  rw [restartMotor_eq, motor_restartCounted, waveform_restartCounted, getS_restartCounted]
  by_cases hend : (motor s n).target = 0 ∨ waveform s n = 0
  · rw [if_pos hend]
    have honly := (onlyMotor_restartCounted s n).trans (onlyMotor_motorOff (restartCounted s n) n)
    have hlog := motorReached_sameButLog (motorOff (restartCounted s n) n) n
    obtain ⟨-, -, hrestart⟩ := motor_motorOff (restartCounted s n) n
    refine ⟨fun k hk => (hlog.motor k).trans (honly.others k hk), hlog.md.trans honly.md, ?_, ?_, fun _ => ⟨?_, serving_servePass _ _ _ _ _ _⟩, fun h1 h2 => ?_⟩
    · rw [hlog.get _ (isLogIdx_motIdx n), get_motorOff, if_neg (by decide), if_neg (by decide), get_restartCounted, if_pos rfl]
    · rw [hlog.motor, hrestart, motor_restartCounted]
    · rw [hlog.motorState, motorState_motorOff, if_pos rfl]
    · rcases hend with hend | hend
      · exact absurd hend h1
      · exact absurd hend h2
  · rw [if_neg hend]
    obtain ⟨htarget, hwave⟩ := not_or.1 hend
    by_cases h6 : 6 ≤ n
    · rw [if_pos h6]
      have hspin := motor_spinUp (setMotor (restartCounted s n) n fun x => { x with rampFrom := getS s 32 (motIdx n) 0x31, rampAt := (restartCounted s n).time }) n
      refine restarted_runs ((onlyMotor_setMotor _ n _).trans (onlyMotor_spinUp _ n)) (keepsObjects_spinUp _ n) (motorState_spinUp _ n) ?_ hspin.1 ?_ htarget hwave
      · rw [if_neg (by omega), if_pos (.inl h6)]
      · obtain ⟨-, -, -, -, -, -, -, hrestart⟩ := hspin
        rw [hrestart, motor_setMotor_same]
    · rw [if_neg h6]
      by_cases hfast : 15000 < (getS s 32 (motIdx n) 0x31).natAbs
      · rw [if_pos hfast]
        have hbegin := motor_beginRun (restartCounted s n) n
        refine restarted_runs (onlyMotor_beginRun _ n) (keepsObjects_beginRun _ n) (motorState_beginRun _ n) ?_ (by rw [hbegin]) (by rw [hbegin]) htarget hwave
        rw [if_pos (.inr hfast)]
      · rw [if_neg hfast]
        have hspin := motor_spinUp (restartCounted s n) n
        refine restarted_runs (onlyMotor_spinUp _ n) (keepsObjects_spinUp _ n) (motorState_spinUp _ n) ?_ hspin.1 ?_ htarget hwave
        · rw [if_pos (by omega), if_neg (by omega)]
        · obtain ⟨-, -, -, -, -, -, -, hrestart⟩ := hspin
          exact hrestart

/-! ## The obligation -/

theorem speedNow_waits {s : State} {m k : Nat} (h : changesSpeed s m k = true) (hpath : pathHeld s (16 + m) = true) :
    speedNow s m k false = setMotor s m fun x => { x with deferred := some k } := by simp [speedNow, h, hpath]

theorem speedNow_now {s : State} {m k : Nat} (h : changesSpeed s m k = false ∨ pathHeld s (16 + m) = false) : speedNow s m k false = commandEntry s m k := by
  rcases h with h | h <;> simp [speedNow, h]

theorem motor_emit (s : State) (o : Output) (k : Nat) : motor (emit s o) k = motor s k := rfl

theorem motorState_emit (s : State) (o : Output) (k : Nat) : motorState (emit s o) k = motorState s k := rfl

theorem motorState_commandEntry (s : State) (m k : Nat) :
    (Turns s m k → motorState (commandEntry s m k) m = if m < 6 then 1 else 3) ∧
      (¬Turns s m k → motorState (commandEntry s m k) m =
        if (motorState s m = 4 ∨ motorState s m = 5) ∧ changesSpeed s m k = true then 3 else motorState s m) :=
  ⟨fun h => by rw [commandEntry_turns h, motorState_spinUp], fun h => by rw [commandEntry_ramps h, motorState_entryRamped]⟩

/-- What a speed command that nothing holds back shows. -/
theorem speedCommand_now {s : State} {acc : Accessor} {m : Fin 12} {d : List Byte} (h : Accepted s acc (motIdx m.val) 0x18 d)
    (hfree : changesSpeed s m.val (ofLe d) = false ∨ pathHeld s (16 + m.val) = false) {P : State → Prop}
    (hP : ∀ p u, u = commandEntry { s with pins := p } m.val (ofLe d) → OnlyMotor m.val { s with pins := p } u →
      KeepsObjects [keyOf (motIdx m.val) 0x30] { s with pins := p } u → RampBegun { s with pins := p } m.val (ofLe d) (motor u m.val) →
      P (emit u (.answer acc 0 []))) : Completes (.speedCommand acc m d) s P := by
  refine speedCommand_completes h fun p => ?_
  rw [speedNow_now (s := { s with pins := p }) hfree]
  obtain ⟨honly, hkeeps⟩ := commandEntry_only { s with pins := p } m.val (ofLe d)
  exact hP p _ rfl honly hkeeps (commandEntry_begun { s with pins := p } m.val (ofLe d))

/-- Settles O47. -/
theorem motorsRun : Obligations.MotorsRun := by
  unfold Obligations.MotorsRun
  intro m s
  dsimp only
  refine ⟨fun acc d h => ⟨fun hchange hpath => ?_, fun hfree => ?_⟩, fun p hp => ⟨fun hon h1 => ?_, fun hno => ?_, fun hon h2 hcross => ?_, fun hon h2 hcross hretry => ?_,
    fun hno => ?_⟩, fun hrestart h7 hmode => ?_, fun hno => ?_, fun h6 hlow => ?_, fun hno => ?_⟩
  · refine speedCommand_completes h fun p => ?_
    rw [speedNow_waits (s := { s with pins := p }) hchange hpath]
    have honly := onlyMotor_setMotor { s with pins := p } m.val fun x => { x with deferred := some (ofLe d) }
    exact ⟨by rw [motor_emit, motor_setMotor_same]; rfl, rfl, ⟨honly.others, honly.md⟩, answered_emit acc _⟩
  · refine speedCommand_now h hfree fun p u hu honly hkeeps hbegun => ?_
    obtain ⟨hturns, hstays⟩ := motorState_commandEntry { s with pins := p } m.val (ofLe d)
    rw [← hu] at hturns hstays
    refine ⟨hbegun.target, hbegun.entry, hbegun.deferred, hbegun.rampFrom, hbegun.rampAt, hbegun.rampFor, ⟨honly.others, honly.md⟩, answered_emit acc _, hkeeps,
      fun hwave hv hstate => ?_, fun hstate hchange => ?_, fun hwave h4 h5 => ?_, fun hstate => ?_⟩
    · have ht : Turns { s with pins := p } m.val (ofLe d) :=
        ⟨hwave, fun h7 => by rw [show motorState s m.val = 7 from h7] at hstate; omega, hv, hstate⟩
      refine ⟨hturns ht, ?_⟩
      rw [motor_emit, hu, commandEntry_turns ht]
      exact (motor_spinUp _ _).1
    · have hno : ¬Turns { s with pins := p } m.val (ofLe d) := by
        rintro ⟨-, -, -, ht⟩
        change motorState s m.val = 0 ∨ motorState s m.val = 6 at ht
        omega
      exact (hstays hno).trans (if_pos ⟨hstate, hchange⟩)
    · have hno : ¬Turns { s with pins := p } m.val (ofLe d) := fun ht => ht.1 hwave
      refine (hstays hno).trans (if_neg fun ht => ?_)
      rcases ht.1 with e | e
      · exact h4 e
      · exact h5 e
    · have hcase : motorState s m.val = 1 ∨ motorState s m.val = 2 ∨ motorState s m.val = 3 ∨ motorState s m.val = 7 := by simpa using hstate
      have hno : ¬Turns { s with pins := p } m.val (ofLe d) := by
        rintro ⟨-, h7, -, ht⟩
        change motorState s m.val = 0 ∨ motorState s m.val = 6 at ht
        omega
      refine (hstays hno).trans (if_neg fun ht => ?_)
      have ht : motorState s m.val = 4 ∨ motorState s m.val = 5 := ht.1
      omega
  · rw [← hp] at hon h1 ⊢
    have honly := (onlyMotor_setMotorState s p.val 2).trans (onlyMotor_setMotor (setMotorState s p.val 2) p.val fun x =>
      { x with openFrom := s.time, openSteps := 0, crossings := 0, crossed := true, lastStep := s.time, stepPeriod := 0, step := 0,
               nextStep := (openStepAt s p.val 1).map (· + s.time) })
    refine ⟨_, by simp only [exec, execAlignEnd, hon, h1]; rfl, ?_, ?_, ?_, ?_, ⟨honly.others, honly.md⟩, keepsObjects_setMotorState s p.val 2⟩
    · exact motorState_setMotorState s p.val 2
    · rw [motor_setMotor_same]
    · rw [motor_setMotor_same]
    · rw [motor_setMotor_same]
  · rw [← hp] at hno
    refine ⟨s, ?_, rfl⟩
    have hcond : (bridgeOn s p.val && motorState s p.val == 1) = false := by rcases hno with h | h <;> simp [h]
    simp only [exec, execAlignEnd, hcond]
    rfl
  · rw [← hp] at hon h2 hcross ⊢
    have hbegin := motor_beginRun s p.val
    have honly := onlyMotor_beginRun s p.val
    exact ⟨beginRun s p.val, by simp [exec, execRampEnd, hon, h2, hcross, done], motorState_beginRun s p.val, by rw [hbegin], by rw [hbegin], by rw [hbegin],
      by rw [hbegin], ⟨honly.others, honly.md⟩, keepsObjects_beginRun s p.val⟩
  · rw [← hp] at hon h2 hcross hretry ⊢
    have honly := (onlyMotor_spinUp s p.val).trans (onlyMotor_setMotor _ p.val fun x => { x with alignRetry := true })
    refine ⟨_, by simp only [exec, execRampEnd, hon, h2, hretry, Nat.not_le.2 hcross]; rfl, ?_, ?_, ⟨honly.others, honly.md⟩, keepsObjects_spinUp s p.val⟩
    · rw [motorState_setMotor, motorState_spinUp, if_pos p.isLt]
    · rw [motor_setMotor_same]
  · rw [← hp] at hno
    refine ⟨s, ?_, rfl⟩
    have hcond : (bridgeOn s p.val && motorState s p.val == 2) = false := by rcases hno with h | h <;> simp [h]
    simp only [exec, execRampEnd, hcond]
    rfl
  · have h := restartMotor_restarted s m.val
    exact ⟨restartMotor s m.val, by simp [exec, execMotorRestart, hrestart, h7, hmode, done], h.count, h.restart, ⟨h.others, h.md⟩, h.ends, h.runs⟩
  · refine ⟨s, ?_, rfl⟩
    have hcond : ((motor s m.val).restart && motorState s m.val == 7 && s.md.mode != .safestop) = false := by rcases hno with h | h | h <;> simp [h]
    simp only [exec, execMotorRestart, hcond]
    rfl
  · have honly := onlyMotor_motorOff s m.val
    obtain ⟨hgates, htarget, -⟩ := motor_motorOff s m.val
    exact ⟨motorOff s m.val, by simp [exec, execBrakeEnd, h6, hlow, done], by rw [motorState_motorOff, if_pos rfl], hgates, getS_motorOff s m.val, htarget,
      ⟨honly.others, honly.md⟩, keepsObjects_motorOff s m.val⟩
  · refine ⟨s, ?_, rfl⟩
    have hcond : (motorState s m.val == 6 && (motor s m.val).lowSides) = false := by rcases hno with h | h <;> simp [h]
    simp only [exec, execBrakeEnd, hcond]
    rfl

end Sys2Proof.Machine

/-! # Commutation (R444 to R446) -/

namespace Sys2Proof.Machine

/-! ## The next step of a commutation (R444, R460) -/

/-- The motor of a commutation at time t. -/
def commutated (s : State) (m t : Nat) (x : Motor) : Motor :=
  { x with step := (x.step + 1) % 6, stepPeriod := t - x.lastStep, lastStep := t, crossed := false,
           crossings := if motorState s m == 2 && !x.crossed then 0 else x.crossings, openSteps := x.openSteps + 1,
           nextStep := if motorState s m == 2 then (openStepAt s m (x.openSteps + 2)).map (· + x.openFrom) else none }

/-- Whether a tracker measures the motor's speed (R461). -/
def speedMeasured (s : State) (m : Nat) : Bool := tracking s m && (motorState s m == 4 || motorState s m == 5)

theorem commutate_eq (s : State) (m t : Nat) :
    commutate s m t = if speedMeasured s m then setMotor s m (commutated s m t)
      else putS (setMotor s m (commutated s m t)) 32 (motIdx m) 0x31 (sectorSpeed s m (t - (motor s m).lastStep)) := by
  have hperiod : (motor (setMotor s m (commutated s m t)) m).stepPeriod = t - (motor s m).lastStep := by rw [motor_setMotor_same]; rfl
  rw [← hperiod]
  rfl

theorem onlyMotor_commutate (s : State) (m t : Nat) : OnlyMotor m s (commutate s m t) := by
  have hmotor := onlyMotor_setMotor s m (commutated s m t)
  rw [commutate_eq]
  split
  · exact hmotor
  · exact hmotor.trans (onlyMotor_put _ m _ (by decide))

theorem motor_commutate (s : State) (m t : Nat) : motor (commutate s m t) m = commutated s m t (motor s m) := by
  rw [commutate_eq]
  split
  · exact motor_setMotor_same s m _
  · exact motor_setMotor_same s m _

theorem commutate_measured {s : State} {m : Nat} (t : Nat) (h : speedMeasured s m = true) : (commutate s m t).dict = s.dict := by
  rw [commutate_eq, if_pos h]
  rfl

theorem commutate_speed {s : State} {m : Nat} (t : Nat) (h : speedMeasured s m = false) :
    get (commutate s m t) (motIdx m) 0x31 = sImg 32 (sectorSpeed s m (t - (motor s m).lastStep) : Nat) ∧
      KeepsObjects [keyOf (motIdx m) 0x31] s (commutate s m t) := by
  rw [commutate_eq, if_neg (by simp [h]), putS, get_put_motor, if_pos rfl]
  exact ⟨rfl, keepsObjects_trans (keepsObjects_of_dict_eq rfl) (keepsObjects_put _ _ _ _ (by simp))⟩

/-! ## Hall edges (R446) -/

theorem hallSector_lt {c k : Nat} (h : hallSector c = some k) : k < 6 := by
  unfold hallSector at h
  split at h <;> simp at h <;> omega

/-- The motor that enters a sector at its boundary's angle. -/
def sectorEntered (s : State) (m code k t : Nat) (back : Bool) (x : Motor) : Motor :=
  { x with hall := code, hallTime := t, edgeAngle := ((if back then k + 1 else k) * 65536 / 6 + get s (motIdx m) 0x1A) % 65536, back := back,
           stepPeriod := t - (motor s m).hallTime, step := k, angle := ((if back then k + 1 else k) * 65536 / 6 + get s (motIdx m) 0x1A) % 65536 }

/-- The sector entered, with the speed measured at its edge. -/
def sectorTimed (s : State) (m code k t : Nat) (back : Bool) : State :=
  hallSpeed (setMotor s m (sectorEntered s m code k t back)) m back (t - (motor s m).hallTime)

theorem enterSector_eq (s : State) (m code k t : Nat) (back : Bool) :
    enterSector s m code k t back =
      if k = 0 ∧ !back ∨ k = 5 ∧ back then countTurn (sectorTimed s m code k t back) m else sectorTimed s m code k t back := rfl

theorem onlyMotor_hallSpeed (s : State) (m : Nat) (back : Bool) (p : Nat) :
    OnlyMotor m s (hallSpeed s m back p) ∧ KeepsObjects [keyOf (motIdx m) 0x31, keyOf (motIdx m) 0x3C] s (hallSpeed s m back p) := by
  unfold hallSpeed
  split
  · exact ⟨.refl m s, keepsObjects_of_dict_eq rfl⟩
  · exact ⟨onlyMotor_put s m _ (by decide), keepsObjects_put _ _ _ _ (by simp)⟩

theorem motor_hallSpeed (s : State) (m : Nat) (back : Bool) (p k : Nat) : motor (hallSpeed s m back p) k = motor s k := by
  unfold hallSpeed
  split <;> rfl

/-- A turn counted: nothing but the motor's turns and 4800+m:3C changes. -/
theorem countTurn_only (s : State) (m : Nat) :
    OnlyMotor m s (countTurn s m) ∧ KeepsObjects [keyOf (motIdx m) 0x31, keyOf (motIdx m) 0x3C] s (countTurn s m) ∧
      (∃ n, motor (countTurn s m) m = { motor s m with turns := n }) ∧ get (countTurn s m) (motIdx m) 0x31 = get s (motIdx m) 0x31 := by
  unfold countTurn
  split
  · refine ⟨(onlyMotor_setMotor s m _).trans (onlyMotor_put _ m _ (by decide)),
      keepsObjects_trans (keepsObjects_of_dict_eq rfl) (keepsObjects_put _ _ _ _ (by simp)), ⟨0, ?_⟩, ?_⟩
    · rw [bump, wrapBy, motor_put, motor_setMotor_same]
    · rw [bump, wrapBy, get_put_motor, if_neg (by decide), get_setMotor]
  · exact ⟨onlyMotor_setMotor s m _, keepsObjects_of_dict_eq rfl, ⟨_, motor_setMotor_same s m _⟩, rfl⟩

/-- What an edge into a neighbouring sector shows. -/
structure SectorEntered (s : State) (m code k t : Nat) (back : Bool) (u : State) : Prop where
  only : OnlyMotor m s u
  keeps : KeepsObjects [keyOf (motIdx m) 0x31, keyOf (motIdx m) 0x3C] s u
  motor : ∃ n, Machine.motor u m = { sectorEntered s m code k t back (Machine.motor s m) with turns := n }
  speed : get s (motIdx m) 0x0E = 255 → get u (motIdx m) 0x31 =
    sImg 32 (if back then -(sectorSpeed s m (t - (Machine.motor s m).hallTime) : Int) else sectorSpeed s m (t - (Machine.motor s m).hallTime))

theorem sectorTimed_entered (s : State) (m code k t : Nat) (back : Bool) : SectorEntered s m code k t back (sectorTimed s m code k t back) := by
  obtain ⟨honly, hkeeps⟩ := onlyMotor_hallSpeed (setMotor s m (sectorEntered s m code k t back)) m back (t - (motor s m).hallTime)
  refine ⟨(onlyMotor_setMotor s m _).trans honly, keepsObjects_trans (keepsObjects_of_dict_eq rfl) hkeeps, ⟨(motor s m).turns, ?_⟩, fun h => ?_⟩
  · rw [sectorTimed, motor_hallSpeed, motor_setMotor_same]
    rfl
  · rw [sectorTimed, hallSpeed, get_setMotor, if_neg (by simp [h]), putS, get_put_motor, if_pos rfl]
    rfl

theorem enterSector_entered (s : State) (m code k t : Nat) (back : Bool) : SectorEntered s m code k t back (enterSector s m code k t back) := by
  have h := sectorTimed_entered s m code k t back
  rw [enterSector_eq]
  split
  · obtain ⟨honly, hkeeps, ⟨n, hmotor⟩, hspeed⟩ := countTurn_only (sectorTimed s m code k t back) m
    obtain ⟨_, hm⟩ := h.motor
    exact ⟨h.only.trans honly, keepsObjects_trans h.keeps hkeeps, ⟨n, by rw [hmotor, hm]⟩, fun he => hspeed.trans (h.speed he)⟩
  · exact h

theorem hallEdge_neighbour {s : State} {n code t k j : Nat} {back : Bool} (hwave : waveform s n = 3 ∨ waveform s n = 4) (hk : hallSector code = some k)
    (hj : hallSector (motor s n).hall = some j) (hnext : k = if back then (j + 5) % 6 else (j + 1) % 6) :
    hallEdge s n code t = enterSector s n code k t back := by
  have hlt := hallSector_lt hj
  unfold hallEdge
  rw [if_pos hwave, hk, hj]
  dsimp only
  cases back with
  | false =>
    have hnext : k = (j + 1) % 6 := hnext
    rw [if_neg (by omega), if_pos hnext]
  | true =>
    have hnext : k = (j + 5) % 6 := hnext
    rw [if_neg (by omega), if_neg (by omega), if_pos hnext]

/-! ## The obligation -/

theorem hallEdge_other {s : State} {n : Nat} (code t : Nat) (h3 : waveform s n ≠ 3) (h4 : waveform s n ≠ 4) : hallEdge s n code t = s :=
  if_neg (by simp [h3, h4])

theorem hallEdge_first {s : State} {n code k : Nat} (t : Nat) (hwave : waveform s n = 3 ∨ waveform s n = 4) (hk : hallSector code = some k)
    (hj : hallSector (motor s n).hall = none) : hallEdge s n code t =
      setMotor s n fun x => { x with hall := code, hallTime := t, edgeAngle := k * 65536 / 6, stepPeriod := 0, step := k, angle := k * 65536 / 6 } := by
  unfold hallEdge
  rw [if_pos hwave, hk, hj]

theorem hallEdge_same {s : State} {n code k : Nat} (t : Nat) (hwave : waveform s n = 3 ∨ waveform s n = 4) (hk : hallSector code = some k)
    (hj : hallSector (motor s n).hall = some k) : hallEdge s n code t = s := by
  unfold hallEdge
  rw [if_pos hwave, hk, hj]
  exact if_pos rfl

/-- Settles O48. -/
theorem motorsCommutate : Obligations.MotorsCommutate := by
  unfold Obligations.MotorsCommutate
  intro m s
  dsimp only
  refine ⟨fun p t hp => ⟨fun hdriven hcross => ?_, fun hno => ?_⟩, fun t => ⟨fun hno => ?_, fun hready => ?_⟩, fun code t => ⟨fun h3 h4 => ?_, fun k hwave hk =>
    ⟨fun hj => ?_, fun hj => ?_, fun j back hj hnext => ?_⟩⟩⟩
  · rw [← hp] at hdriven hcross ⊢
    by_cases h2 : motorState s p.val = 2
    · have honly := onlyMotor_setMotor s p.val fun x => { x with crossed := true, crossings := x.crossings + 1 }
      exact ⟨_, by simp only [exec, execZeroCrossing, hdriven, hcross, h2]; rfl, ⟨honly.others, honly.md, honly.log⟩, rfl,
        by rw [motor_setMotor_same, if_pos h2]⟩
    · have honly := onlyMotor_setMotor s p.val fun x => { x with crossed := true, nextStep := some (t + x.stepPeriod / 2) }
      exact ⟨_, by simp only [exec, execZeroCrossing, hdriven, hcross, h2]; rfl, ⟨honly.others, honly.md, honly.log⟩, rfl,
        by rw [motor_setMotor_same, if_neg h2]⟩
  · rw [← hp] at hno
    refine ⟨s, ?_, rfl⟩
    have hcond : (emfDriven s p.val && !(motor s p.val).crossed) = false := by rcases hno with h | h <;> simp [h]
    simp only [exec, execZeroCrossing, hcond]
    rfl
  · refine ⟨s, ?_, rfl⟩
    simp only [exec, execCommutation, hno]
    rfl
  · have honly := onlyMotor_commutate s m.val t
    have hmotor := motor_commutate s m.val t
    refine ⟨commutate s m.val t, by simp only [exec, execCommutation, hready]; rfl, ⟨honly.others, honly.md, honly.log⟩, ?_, ?_, ?_, ?_, fun h2 => ?_,
      fun h2 => ?_, fun h => commutate_measured t h, fun h => commutate_speed t h⟩
    · rw [hmotor, commutated]
    · rw [hmotor, commutated]
    · rw [hmotor, commutated]
    · rw [hmotor, commutated]
    · rw [hmotor]
      exact if_neg (by simpa using h2)
    · rw [hmotor]
      exact if_pos (by simpa using h2)
  · refine ⟨s, ?_, rfl⟩
    simp only [exec, execHallEdge, hallEdge_other _ _ h3 h4]
    rfl
  · have honly := onlyMotor_setMotor s m.val fun x => { x with hall := hallMasked s m.val code.val, hallTime := t, edgeAngle := k * 65536 / 6,
                                                               stepPeriod := 0, step := k, angle := k * 65536 / 6 }
    exact ⟨_, by simp only [exec, execHallEdge, hallEdge_first t hwave hk hj]; rfl, ⟨honly.others, honly.md, honly.log⟩, rfl, motor_setMotor_same s m.val _⟩
  · refine ⟨s, ?_, rfl⟩
    simp only [exec, execHallEdge, hallEdge_same t hwave hk hj]
    rfl
  · obtain ⟨honly, hkeeps, ⟨n, hmotor⟩, hspeed⟩ := enterSector_entered s m.val (hallMasked s m.val code.val) k t back
    refine ⟨_, by simp only [exec, execHallEdge, hallEdge_neighbour hwave hk hj hnext]; rfl, ⟨honly.others, honly.md, honly.log⟩, ?_, ?_, ?_, ?_, ?_, ?_, ?_,
      hkeeps, hspeed⟩ <;> rw [hmotor, sectorEntered]

end Sys2Proof.Machine

/-! # Faults of motors (R446, R450, R460, R464 to R466) -/

namespace Sys2Proof.Machine

/-! ## The record of a fault (R464, R465) -/

/-- A motor's fault as it is recorded, before the log's entry and the spill. -/
def motorFaultShown (s : State) (n code : Nat) : State :=
  setMotor (sat (put (setMotorState (if code = 1 then gatesOff s n else s) n 7) (motIdx n) 0x36 code) (motIdx n) 0x37) n fun x =>
    { x with nextStep := none, brake := 0, grid := none, inWindow := 0, outWindow := 0 }

/-- The sheets that a motor's fault spills at once: those whose scans its polygon drives (R465). -/
def polygonSpill (s : State) (n : Nat) : State := if n < 6 then spillWhere s (fun sh => sh.fired.testBit n && !sh.imaged.testBit n) (some n) else s

theorem motorFaultRecord_eq (s : State) (n code : Nat) :
    motorFaultRecord s n code =
      spillPath (polygonSpill (log (motorFaultShown s n code) clsFault 1 0x0B n (motIdx n) 0x36 none code) n) (16 + n) := rfl

theorem onlyMotor_motorFaultShown (s : State) (n code : Nat) : OnlyMotor n s (motorFaultShown s n code) := by
  have hgates : OnlyMotor n s (if code = 1 then gatesOff s n else s) := by
    split
    · exact onlyMotor_gatesOff s n
    · exact .refl n s
  exact hgates.trans ((onlyMotor_setMotorState _ n 7).trans ((onlyMotor_put _ n code (by decide)).trans
    ((onlyMotor_put _ n _ (by decide)).trans (onlyMotor_setMotor _ n _))))

theorem get_motorFaultShown (s : State) (n code k : Nat) :
    get (motorFaultShown s n code) (motIdx n) k =
      if k = 0x37 then min (get s (motIdx n) 0x37 + 1) 65535 else if k = 0x36 then code else if k = 0x30 then 7 else get s (motIdx n) k := by
  have hgates (k : Nat) : get (if code = 1 then gatesOff s n else s) (motIdx n) k = get s (motIdx n) k := by split <;> rfl
  unfold motorFaultShown
  simp only [get_setMotor, sat, satBy, get_put_motor, setMotorState, hgates]
  rfl

theorem gatesLow_motorFaultShown (s : State) (n code : Nat) :
    (motor (motorFaultShown s n code) n).gatesLow = if code = 1 then true else (motor s n).gatesLow := by
  unfold motorFaultShown
  rw [motor_setMotor_same, sat, satBy, motor_put, motor_put, motor_setMotorState]
  split
  · exact congrArg Motor.gatesLow (motor_setMotor_same s n _)
  · rfl

theorem polygonSpill_keeps (s : State) (n : Nat) :
    polygonSpill s n = { s with sheets := (polygonSpill s n).sheets } ∧
      ∀ sh ∈ s.sheets, ∃ y ∈ (polygonSpill s n).sheets, y.uid = sh.uid ∧ y.committed = sh.committed ∧ y.mask = sh.mask := by
  unfold polygonSpill
  split
  · refine ⟨rfl, fun sh hsh => ⟨_, List.mem_map_of_mem hsh, ?_⟩⟩
    split <;> exact ⟨rfl, rfl, rfl⟩
  · exact ⟨rfl, fun sh hsh => ⟨sh, hsh, rfl, rfl, rfl⟩⟩

/-- What the record of a motor's fault shows. -/
structure FaultRecorded (s : State) (n code : Nat) (u : State) : Prop where
  md : u.md = s.md
  time : u.time = s.time
  others : ∀ k, k ≠ n → motor u k = motor s k
  gates : (motor u n).gatesLow = if code = 1 then true else (motor s n).gatesLow
  state : motorState u n = 7
  code : get u (motIdx n) 0x36 = code
  count : get u (motIdx n) 0x37 = min (get s (motIdx n) 0x37 + 1) 65535
  spills : ∀ sh ∈ s.sheets, sh.committed = true → sh.mask.testBit (16 + n) = true → ∃ y ∈ u.sheets, y.uid = sh.uid ∧ y.spoiled = true

theorem motorFaultRecord_recorded (s : State) (n code : Nat) : FaultRecorded s n code (motorFaultRecord s n code) := by
  have honly := onlyMotor_motorFaultShown s n code
  have hget := get_motorFaultShown s n code
  have hgates := gatesLow_motorFaultShown s n code
  rw [motorFaultRecord_eq]
  generalize motorFaultShown s n code = t at honly hget hgates ⊢
  have hlog := log_sameButLog t clsFault 1 0x0B n (motIdx n) 0x36 none code
  generalize log t clsFault 1 0x0B n (motIdx n) 0x36 none code = u at hlog ⊢
  obtain ⟨hsame, hsheets⟩ := polygonSpill_keeps u n
  have hmotor (k : Nat) : motor (spillPath (polygonSpill u n) (16 + n)) k = motor t k := by
    rw [spillPath_eq, hsame, ← hlog.motor k]
    rfl
  have hobject (k : Nat) : get (spillPath (polygonSpill u n) (16 + n)) (motIdx n) k = get t (motIdx n) k := by
    rw [spillPath_eq, hsame, ← hlog.get k (isLogIdx_motIdx n)]
    rfl
  have hrest : (spillPath (polygonSpill u n) (16 + n)).md = s.md ∧ (spillPath (polygonSpill u n) (16 + n)).time = s.time := by
    rw [spillPath_eq, hsame]
    exact ⟨hlog.md.trans honly.md, hlog.time.trans honly.time⟩
  refine ⟨hrest.1, hrest.2, fun k hk => (hmotor k).trans (honly.others k hk), by rw [hmotor, hgates], ?_, ?_, ?_, fun sh hsh hc hm => ?_⟩
  · rw [motorState, hobject, hget]
    rfl
  · rw [hobject, hget, if_neg (by decide), if_pos rfl]
  · rw [hobject, hget, if_pos rfl]
  · obtain ⟨y, hy, huid, hcommitted, hmask⟩ := hsheets sh (by rw [hlog.sheets, honly.sheets]; exact hsh)
    obtain ⟨z, hz, hzuid, hspoiled⟩ := spillPath_spoils (polygonSpill u n) (16 + n) hy (hcommitted.trans hc) (by rw [hmask]; exact hm)
    exact ⟨z, hz, hzuid.trans huid, hspoiled⟩

/-! ## First and repeated faults (R465, R466) -/

/-- What a motor's fault shows that does not repeat: the record, and the restart asked for as its second serve. -/
structure MotorFaulted (s : State) (n code : Nat) (u : State) : Prop where
  record : FaultRecorded s n code u
  second : s.md.mode ≠ .safestop → (motor u n).restart = true ∧ serving u .motor n = true

theorem motorFault_eq (s : State) (n code : Nat) :
    motorFault s n code = if motorRepeats s n code
      then safestop (doubleFault (setMotor (motorFaultRecord s n code) n fun x => { x with restart := false }) .motor n code 0x0B (motIdx n) 0x36) 7
      else if s.md.mode = .safestop then motorFaultRecord s n code
      else setMotor (serveBegin (motorFaultRecord s n code) .motor n code 0x0B (motIdx n) 0x36) n fun x => { x with restart := true } := rfl

theorem FaultRecorded.log {s t u : State} {n code : Nat} (h : FaultRecorded s n code t) (hlog : SameButLog t u) : FaultRecorded s n code u :=
  ⟨hlog.md.trans h.md, hlog.time.trans h.time, fun k hk => (hlog.motor k).trans (h.others k hk), by rw [hlog.motor, h.gates],
    (hlog.motorState n).trans h.state, (hlog.get _ (isLogIdx_motIdx n)).trans h.code, (hlog.get _ (isLogIdx_motIdx n)).trans h.count,
    fun sh hsh hc hm => hlog.sheets ▸ h.spills sh hsh hc hm⟩

theorem FaultRecorded.setMotor {s t : State} {n code : Nat} {f : Motor → Motor} (h : FaultRecorded s n code t) (hf : ∀ x, (f x).gatesLow = x.gatesLow) :
    FaultRecorded s n code (setMotor t n f) :=
  ⟨h.md, h.time, fun k hk => (motor_setMotor_other _ _ hk).trans (h.others k hk), by rw [motor_setMotor_same, hf, h.gates], h.state, h.code, h.count, h.spills⟩

theorem motorFault_first {s : State} {n code : Nat} (h : motorRepeats s n code = false) : MotorFaulted s n code (motorFault s n code) := by
  have hrec := motorFaultRecord_recorded s n code
  rw [motorFault_eq, if_neg (by simp [h])]
  by_cases hmode : s.md.mode = .safestop
  · rw [if_pos hmode]
    exact ⟨hrec, fun hno => absurd hmode hno⟩
  · rw [if_neg hmode]
    have hlog := hrec.log (serveBegin_sameButLog (motorFaultRecord s n code) .motor n code 0x0B (motIdx n) 0x36)
    refine ⟨hlog.setMotor (f := fun x => { x with restart := true }) fun _ => rfl, fun _ => ⟨by rw [motor_setMotor_same], ?_⟩⟩
    exact serving_serveBegin _ _ _ _ _ _ _

/-- A motor's fault that repeats stops the press with cause 0x07 (R466). -/
def Stopped7 (u : State) : Prop := u.md.mode = .safestop ∧ get u 0x2000 5 = 7

theorem safestop_operating {s : State} (h : s.md.mode ∈ operating) : Stopped7 (safestop s 7) := by
  obtain ⟨hk, ht, hs, hd, -⟩ := ne_of_operating h
  rw [safestop_of_operating hk ht hs hd]
  obtain ⟨hmd, -, hcause⟩ := modeView_eq_iff.1 (safestopEnter_modeView s 7)
  exact ⟨by rw [hmd], hcause⟩

theorem motorFault_again {s : State} {n code : Nat} (h : motorRepeats s n code = true) (hmode : s.md.mode ∈ operating) : Stopped7 (motorFault s n code) := by
  have hrec := motorFaultRecord_recorded s n code
  rw [motorFault_eq, if_pos h]
  have hlog := doubleFault_sameButLog (setMotor (motorFaultRecord s n code) n fun x => { x with restart := false }) .motor n code 0x0B (motIdx n) 0x36
  exact safestop_operating (by rw [hlog.md, setMotor_md, hrec.md]; exact hmode)

/-! ## The period that finds a fault (R448, R450) -/

/-- The control of a period on a motor: it leaves the command's ramp, the gates' stop and the held periods. -/
structure ControlKept (n : Nat) (s t : State) : Prop where
  only : OnlyMotor n s t
  keeps : KeepsObjects [keyOf (motIdx n) 0x33, keyOf (motIdx n) 0x34, keyOf (motIdx n) 0x35, keyOf (motIdx n) 0x39, keyOf (motIdx n) 0x3A] s t
  gatesLow : (motor t n).gatesLow = (motor s n).gatesLow
  holds : (motor t n).holds = (motor s n).holds
  rampFrom : (motor t n).rampFrom = (motor s n).rampFrom
  rampAt : (motor t n).rampAt = (motor s n).rampAt
  rampFor : (motor t n).rampFor = (motor s n).rampFor
  target : (motor t n).target = (motor s n).target

theorem ControlKept.refl (n : Nat) (s : State) : ControlKept n s s := ⟨.refl n s, keepsObjects_of_dict_eq rfl, rfl, rfl, rfl, rfl, rfl, rfl⟩

theorem ControlKept.trans {n : Nat} {s t u : State} (h : ControlKept n s t) (k : ControlKept n t u) : ControlKept n s u :=
  ⟨h.only.trans k.only, keepsObjects_trans h.keeps k.keeps, k.gatesLow.trans h.gatesLow, k.holds.trans h.holds, k.rampFrom.trans h.rampFrom,
    k.rampAt.trans h.rampAt, k.rampFor.trans h.rampFor, k.target.trans h.target⟩

theorem controlKept_put (s : State) (n : Nat) {j : Nat} (v : Nat) (hj : j ∈ [0x33, 0x34, 0x35, 0x39, 0x3A]) : ControlKept n s (put s (motIdx n) j v) := by
  have hlow : j < 256 := by simp at hj; omega
  refine ⟨onlyMotor_put s n v hlow, keepsObjects_put s (motIdx n) j v ?_, rfl, rfl, rfl, rfl, rfl, rfl⟩
  exact List.mem_map_of_mem (f := keyOf (motIdx n)) hj

theorem controlKept_setMotor (s : State) (n : Nat) {f : Motor → Motor}
    (hf : ∀ x, (f x).gatesLow = x.gatesLow ∧ (f x).holds = x.holds ∧ (f x).rampFrom = x.rampFrom ∧ (f x).rampAt = x.rampAt ∧ (f x).rampFor = x.rampFor ∧
      (f x).target = x.target) : ControlKept n s (setMotor s n f) := by
  obtain ⟨hgates, hholds, hfrom, hat, hfor, htarget⟩ := hf (motor s n)
  refine ⟨onlyMotor_setMotor s n f, keepsObjects_of_dict_eq rfl, ?_, ?_, ?_, ?_, ?_, ?_⟩ <;> rw [motor_setMotor_same] <;> assumption

theorem controlKept_placeSamples (s : State) (n : Nat) : ControlKept n s (placeSamples s n) := by
  unfold placeSamples
  dsimp only
  split
  · refine .trans ?_ (controlKept_put (j := 0x3A) _ n _ (by simp))
    exact controlKept_setMotor s n fun _ => ⟨rfl, rfl, rfl, rfl, rfl, rfl⟩
  · exact controlKept_setMotor s n fun _ => ⟨rfl, rfl, rfl, rfl, rfl, rfl⟩

/-- Whether the period that ends holds its samples (R448). -/
def periodHeld (s : State) (n : Nat) : Bool := (placement (pwmPeriodNs s n) (deadNs s n) (windowNs s n) (motor s n).duties).hold

theorem takeCurrents_held {s : State} {n : Nat} (s1 s2 : Int) (h : periodHeld s n = true) :
    ControlKept n (setMotor s n fun y => { y with holds := y.holds + 1 }) (takeCurrents s n s1 s2) := by
  have heq : takeCurrents s n s1 s2 = satBy 32 (setMotor s n fun y => { y with holds := y.holds + 1 }) (motIdx n) 0x39 1 := if_pos h
  rw [heq]
  exact controlKept_put (j := 0x39) _ n _ (by simp)

/-- The motor's angle at the start of a period (R446). -/
def angled (t : State) (n now : Nat) : State := setMotor t n fun x => { x with angle := hallAngle x now }

theorem controlKept_angled (t : State) (n a : Nat) : ControlKept n t (angled t n a) := controlKept_setMotor t n fun _ => ⟨rfl, rfl, rfl, rfl, rfl, rfl⟩

/-- The control of a period in waveform 3, after its currents were taken. -/
def fieldControl (t : State) (n a : Nat) : State :=
  placeSamples (setMotor (angled t n a) n (focPwm (angled t n a) n (motor (angled t n a) n).phases
    (getS (angled t n a) 16 (motIdx n) 0x33, getS (angled t n a) 16 (motIdx n) 0x34))) n

theorem controlKept_fieldControl (t : State) (n a : Nat) : ControlKept n t (fieldControl t n a) := by
  refine (controlKept_angled t n a).trans (.trans ?_ (controlKept_placeSamples _ n))
  exact controlKept_setMotor _ n fun _ => ⟨rfl, rfl, rfl, rfl, rfl, rfl⟩

theorem controlPeriod_held {s : State} {n : Nat} (s1 s2 : Int) (hwave : waveform s n = 3) (hlow : (motor s n).lowSides = false) (h : periodHeld s n = true) :
    ControlKept n (setMotor s n fun y => { y with holds := y.holds + 1 }) (controlPeriod s n s1 s2) := by
  unfold controlPeriod
  rw [if_neg (by simp [hlow])]
  dsimp only
  rw [if_pos hwave]
  exact (takeCurrents_held s1 s2 h).trans ((controlKept_fieldControl (takeCurrents s n s1 s2) n s.time).trans (controlKept_put (j := 0x35) _ n _ (by simp)))

theorem controlPeriod_steps {s : State} {n : Nat} (s1 s2 : Int) (h : waveform s n ≠ 3 ∨ (motor s n).lowSides = true) :
    ControlKept n s (controlPeriod s n s1 s2) := by
  unfold controlPeriod
  split
  · exact .refl n s
  next hlow =>
    have hwave : waveform s n ≠ 3 := h.resolve_right hlow
    dsimp only
    rw [if_neg hwave]
    refine .trans ?_ (controlKept_put (j := 0x35) _ n _ (by simp))
    exact controlKept_setMotor s n fun _ => ⟨rfl, rfl, rfl, rfl, rfl, rfl⟩

theorem encoderMeasured_none {s : State} {n : Nat} (h : n < 6 ∨ get s (motIdx n) 0x0E = 255) : encoderMeasured s n = s := by
  refine if_neg ?_
  rcases h with h | h
  · omega
  · simp [h]

/-- A fault found on a state whose control alone differs is one of the motor's own. -/
theorem FaultRecorded.of_kept {s t u : State} {n code : Nat} (hk : OnlyMotor n s t) (hgates : (motor t n).gatesLow = (motor s n).gatesLow)
    (hcount : get t (motIdx n) 0x37 = get s (motIdx n) 0x37) (h : FaultRecorded t n code u) : FaultRecorded s n code u :=
  ⟨h.md.trans hk.md, h.time.trans hk.time, fun k hkn => (h.others k hkn).trans (hk.others k hkn), by rw [h.gates, hgates], h.state, h.code,
    by rw [h.count, hcount], fun sh hsh => h.spills sh (hk.sheets ▸ hsh)⟩

theorem motorRepeats_congr {s t : State} (hlog : t.log = s.log) (htime : t.time = s.time) (n code : Nat) : motorRepeats t n code = motorRepeats s n code := by
  simp only [motorRepeats, serving, servedWithin, serveOf, hlog, htime]

/-- A fault as the state before its period's control shows it. -/
theorem MotorFaulted.of_kept {s t u : State} {n code : Nat} (hk : OnlyMotor n s t) (hgates : (motor t n).gatesLow = (motor s n).gatesLow)
    (hcount : get t (motIdx n) 0x37 = get s (motIdx n) 0x37) (h : MotorFaulted t n code u) : MotorFaulted s n code u :=
  ⟨h.record.of_kept hk hgates hcount, fun hmode => h.second (by rwa [hk.md])⟩

/-! ## The gates of the next period (R437) -/

theorem startGates_only (s : State) (n : Nat) : OnlyMotor n s (startGates s n) ∧ (startGates s n).dict = s.dict := by
  unfold startGates driveGates
  split
  · split
    · exact ⟨.refl n s, rfl⟩
    · exact ⟨onlyMotor_gatesOff s n, rfl⟩
  · split
    · exact ⟨.refl n s, rfl⟩
    · exact ⟨onlyMotor_setMotor s n _, rfl⟩

theorem startGates_low {s : State} {n : Nat} (h : motorState s n = 7) : (motor (startGates s n) n).gatesLow = true := by
  unfold startGates
  rw [if_pos h]
  split
  next hlow => exact hlow
  next => rw [gatesOff, motor_setMotor_same]

theorem startGates_restart (s : State) (n : Nat) : (motor (startGates s n) n).restart = (motor s n).restart := by
  unfold startGates driveGates gatesOff
  split
  · split
    · rfl
    · rw [motor_setMotor_same]
  · split
    · rfl
    · rw [motor_setMotor_same]

theorem Stopped7.startGates {s : State} {n : Nat} (h : Stopped7 s) : Stopped7 (startGates s n) := by
  obtain ⟨honly, hdict⟩ := startGates_only s n
  have hget : get (Machine.startGates s n) 0x2000 5 = get s 0x2000 5 := by rw [get_dict _ _ rfl, get_dict _ _ rfl, hdict]
  exact ⟨by rw [honly.md, h.1], hget.trans h.2⟩

/-! ## The obligation -/

/-- What the obligation says of a fault: its record, its serve and its spill, or SAFESTOP where it repeats. -/
def Faults (s : State) (n : Nat) (c : Instr) (code : Nat) (low : Bool) : Prop :=
  (motorRepeats s n code = false → Completes c s fun u => motorState u n = 7 ∧ (motor u n).gatesLow = low ∧ get u (motIdx n) 0x36 = code ∧
      get u (motIdx n) 0x37 = min (get s (motIdx n) 0x37 + 1) 65535 ∧ u.md = s.md ∧ (∀ k, k ≠ n → motor u k = motor s k) ∧
      (s.md.mode ≠ .safestop → (motor u n).restart = true ∧ serving u .motor n = true) ∧
      ∀ sh ∈ s.sheets, sh.committed = true → sh.mask.testBit (16 + n) = true → ∃ y ∈ u.sheets, y.uid = sh.uid ∧ y.spoiled = true) ∧
    (motorRepeats s n code = true → s.md.mode ∈ operating → Completes c s Stopped7)

theorem faults_of_motorFault {s : State} {n code : Nat} {c : Instr} {low : Bool} (hexec : exec c s = .next (settle (motorFault s n code)))
    (hon : (motor s n).gatesLow = false) (hlow : low = if code = 1 then true else false) : Faults s n c code low := by
  refine ⟨fun h => ⟨_, hexec, ?_⟩, fun h hmode => ⟨_, hexec, motorFault_again h hmode⟩⟩
  have hf := motorFault_first h
  exact ⟨hf.record.state, by rw [hf.record.gates, hon, hlow], hf.record.code, hf.record.count, hf.record.md, hf.record.others, hf.second, hf.record.spills⟩

/-- A fault that a period's end finds: with the next period every gate is low. -/
theorem faults_of_period {s t : State} {n code : Nat} {c : Instr} (hexec : exec c s = .next (settle (startGates (motorFault t n code) n)))
    (hk : OnlyMotor n s t) (hgates : (motor t n).gatesLow = (motor s n).gatesLow) (hcount : get t (motIdx n) 0x37 = get s (motIdx n) 0x37) :
    Faults s n c code true := by
  have hrepeats := motorRepeats_congr hk.log hk.time n code
  refine ⟨fun h => ⟨_, hexec, ?_⟩, fun h hmode => ⟨_, hexec, (motorFault_again (hrepeats.trans h) (by rwa [hk.md])).startGates⟩⟩
  have hf := (motorFault_first (hrepeats.trans h)).of_kept hk hgates hcount
  obtain ⟨honly, hdict⟩ := startGates_only (motorFault t n code) n
  have hget (j : Nat) : get (startGates (motorFault t n code) n) (motIdx n) j = get (motorFault t n code) (motIdx n) j := by
    rw [get_dict _ _ (isLogIdx_motIdx n), get_dict _ _ (isLogIdx_motIdx n), hdict]
  refine ⟨(hget _).trans hf.record.state, startGates_low hf.record.state, (hget _).trans hf.record.code, (hget _).trans hf.record.count,
    honly.md.trans hf.record.md, fun k hk => (honly.others k hk).trans (hf.record.others k hk), fun hmode => ?_, fun sh hsh hc hm => ?_⟩
  · obtain ⟨hrestart, hserves⟩ := hf.second hmode
    exact ⟨(startGates_restart _ n).trans hrestart, (serving_congr (congrArg Log.serves honly.log) .motor n).trans hserves⟩
  · rw [honly.sheets]
    exact hf.record.spills sh hsh hc hm

theorem periodEnd_held {t : State} {n : Nat} (h : 16 ≤ (motor t n).holds) :
    periodEnd t n = motorFault (setMotor t n fun y => { y with holds := 0 }) n 5 := if_pos h

theorem periodEnd_fast {t : State} {n : Nat} (h : (motor t n).holds < 16) (hv : 110 * get t (motIdx n) 0x0C < 100 * (getS t 32 (motIdx n) 0x31).natAbs) :
    periodEnd t n = motorFault t n 6 := (if_neg (Nat.not_le.2 h)).trans (if_pos hv)

theorem periodEnd_off {t : State} {n : Nat} (h : (motor t n).holds < 16) (hv : 100 * (getS t 32 (motIdx n) 0x31).natAbs ≤ 110 * get t (motIdx n) 0x0C)
    (hst : motorState t n = 4 ∨ motorState t n = 5) (hnear : withinPerMille 20 (commandedNow t n) (getS t 32 (motIdx n) 0x31) = false) :
    periodEnd t n = motorFault t n 8 :=
  (if_neg (Nat.not_le.2 h)).trans ((if_neg (Nat.not_lt.2 hv)).trans (if_pos ⟨hst, by simp [hnear]⟩))

theorem ControlKept.get {n : Nat} {s t : State} (h : ControlKept n s t) {j : Nat} (hj : j ∉ [0x33, 0x34, 0x35, 0x39, 0x3A]) :
    Machine.get t (motIdx n) j = Machine.get s (motIdx n) j := by
  refine h.keeps.get (fun hmem => hj ?_) (isLogIdx_motIdx n)
  simp only [List.mem_cons, List.not_mem_nil, or_false, keyOf] at hmem ⊢
  omega

theorem ControlKept.commandedNow {n : Nat} {s t : State} (h : ControlKept n s t) : Machine.commandedNow t n = Machine.commandedNow s n := by
  simp only [Machine.commandedNow, h.rampAt, h.rampFor, h.rampFrom, h.target, h.only.time]

theorem ControlKept.getS {n : Nat} {s t : State} (h : ControlKept n s t) (w : Nat) {j : Nat} (hj : j ∉ [0x33, 0x34, 0x35, 0x39, 0x3A]) :
    Machine.getS t w (motIdx n) j = Machine.getS s w (motIdx n) j := by
  rw [Machine.getS, h.get hj]
  rfl

theorem gates_of_bridgeOn {s : State} {n : Nat} (h : bridgeOn s n = true) : (motor s n).gatesLow = false := by
  simp only [bridgeOn, Bool.and_eq_true, Bool.not_eq_true'] at h
  exact h.1.1.2

theorem execPwmPeriod_on {m : Fin 12} {s : State} (s1 s2 : Int) (hon : bridgeOn s m.val = true) (h : m.val < 6 ∨ get s (motIdx m.val) 0x0E = 255) :
    exec (.pwmPeriod m s1 s2) s =
      .next (settle (startGates (periodEnd (controlPeriod s m.val (shuntCurrent s m.val s1) (shuntCurrent s m.val s2)) m.val) m.val)) := by
  show execPwmPeriod m s1 s2 s = _
  simp only [execPwmPeriod, hon, if_true, encoderMeasured_none h]
  rfl

theorem hallEdge_faults {s : State} {n code t : Nat} (hwave : waveform s n = 3 ∨ waveform s n = 4) (hon : bridgeOn s n = true)
    (h : (hallSector code).all (fun k => (hallSector (motor s n).hall).any fun j => k != j && k != (j + 1) % 6 && k != (j + 5) % 6) = true) :
    hallEdge s n code t = motorFault s n 3 := by
  have hfault : hallFault s n = motorFault s n 3 := if_pos hon
  unfold hallEdge
  rw [if_pos hwave]
  cases hk : hallSector code with
  | none => exact hfault
  | some k =>
    cases hj : hallSector (motor s n).hall with
    | none => simp [hk, hj] at h
    | some j =>
      rw [hk, hj] at h
      have h : (k ≠ j ∧ k ≠ (j + 1) % 6) ∧ k ≠ (j + 5) % 6 := by simpa using h
      exact (if_neg h.1.1).trans ((if_neg h.1.2).trans ((if_neg h.2).trans hfault))

/-- Settles O50. -/
theorem motorFaults : Obligations.MotorFaults := by
  unfold Obligations.MotorFaults
  intro m s hon
  dsimp only
  have hgates := gates_of_bridgeOn hon
  refine ⟨fun code => ⟨fun hover => ?_, fun hover => ?_⟩, fun hstall => ?_, fun hstall => ?_, fun p hp => ⟨fun hemf h3 hcross => ?_, fun hno => ?_, fun h2 hcross hretry => ?_⟩,
    fun code t hwave hjump => ?_, fun henc s1 s2 => ⟨fun hwave hlow hholds hhold => ?_, fun hwave hholds => ⟨fun hv => ?_, fun hv hst hnear => ?_⟩⟩⟩
  · exact faults_of_motorFault (by simp [exec, execOvercurrent, hon, hover, done]) hgates rfl
  · exact ⟨s, by simp [exec, execOvercurrent, hover, done], rfl⟩
  · exact faults_of_motorFault (by simp [exec, execStallTimeout, hon, hstall, done]) hgates rfl
  · exact ⟨s, by simp [exec, execStallTimeout, hstall, done], rfl⟩
  · rw [← hp] at hgates hemf h3 hcross ⊢
    exact faults_of_motorFault (by simp [exec, execBackEmfLoss, hemf, h3, hcross, done]) hgates rfl
  · rw [← hp] at hno
    refine ⟨s, ?_, rfl⟩
    have hcond : (emfDriven s p.val && motorState s p.val == 3 && !(motor s p.val).crossed) = false := by rcases hno with h | h | h <;> simp [h]
    simp only [exec, execBackEmfLoss, hcond]
    rfl
  · rw [← hp] at hon hgates h2 hcross hretry ⊢
    exact faults_of_motorFault (by simp [exec, execRampEnd, hon, h2, hretry, Nat.not_le.2 hcross, done]) hgates rfl
  · exact faults_of_motorFault (by simp only [exec, execHallEdge, hallEdge_faults hwave hon hjump]; rfl) hgates rfl
  · have hkept := controlPeriod_held (shuntCurrent s m.val s1) (shuntCurrent s m.val s2) hwave hlow hhold
    have hexec := execPwmPeriod_on s1 s2 hon henc
    generalize controlPeriod s m.val (shuntCurrent s m.val s1) (shuntCurrent s m.val s2) = t at hkept hexec
    have hsixteen : 16 ≤ (motor t m.val).holds := by
      rw [hkept.holds, motor_setMotor_same]
      exact Nat.succ_le_succ hholds
    rw [periodEnd_held hsixteen] at hexec
    refine faults_of_period hexec (((onlyMotor_setMotor s m.val _).trans hkept.only).trans (onlyMotor_setMotor t m.val _)) ?_ ?_
    · rw [motor_setMotor_same, hkept.gatesLow, motor_setMotor_same]
    · rw [get_setMotor, hkept.get (by decide), get_setMotor]
  · have hkept := controlPeriod_steps (shuntCurrent s m.val s1) (shuntCurrent s m.val s2) hwave
    have hexec := execPwmPeriod_on s1 s2 hon henc
    generalize controlPeriod s m.val (shuntCurrent s m.val s1) (shuntCurrent s m.val s2) = t at hkept hexec
    rw [periodEnd_fast (by rwa [hkept.holds]) (by rwa [hkept.get (by decide), hkept.getS 32 (by decide)])] at hexec
    exact faults_of_period hexec hkept.only hkept.gatesLow (hkept.get (by decide))
  · have hkept := controlPeriod_steps (shuntCurrent s m.val s1) (shuntCurrent s m.val s2) hwave
    have hexec := execPwmPeriod_on s1 s2 hon henc
    generalize controlPeriod s m.val (shuntCurrent s m.val s1) (shuntCurrent s m.val s2) = t at hkept hexec
    have hstate : motorState t m.val = motorState s m.val := hkept.get (by decide)
    rw [periodEnd_off (by rwa [hkept.holds]) (by rwa [hkept.get (by decide), hkept.getS 32 (by decide)]) (by rwa [hstate])
      (by rwa [hkept.getS 32 (by decide), hkept.commandedNow])] at hexec
    exact faults_of_period hexec hkept.only hkept.gatesLow (hkept.get (by decide))

end Sys2Proof.Machine

/-! # Commands to loops, the injection and the capture (R498, R514 to R533) -/

namespace Sys2Proof.Machine

/-! ## The operations of one loop -/

theorem isLogIdx_loopIdx {n : Nat} (h : n < 48) : isLogIdx (loopIdx n) = false := by simp [isLogIdx, loopIdx]; omega

/-- Nothing but one loop, and the motor that it drives, differs. -/
structure OnlyLoop (n : Nat) (s t : State) : Prop where
  same : t = { s with loops := t.loops, motors := t.motors }
  others : ∀ k, k ≠ n → loop t k = loop s k

theorem OnlyLoop.refl (n : Nat) (s : State) : OnlyLoop n s s := ⟨rfl, fun _ _ => rfl⟩

theorem OnlyLoop.trans {n : Nat} {s t u : State} (h : OnlyLoop n s t) (k : OnlyLoop n t u) : OnlyLoop n s u :=
  ⟨by rw [k.same, h.same], fun b hb => (k.others b hb).trans (h.others b hb)⟩

theorem OnlyLoop.md {n : Nat} {s t : State} (h : OnlyLoop n s t) : t.md = s.md := by rw [h.same]
theorem OnlyLoop.dict {n : Nat} {s t : State} (h : OnlyLoop n s t) : t.dict = s.dict := by rw [h.same]
theorem OnlyLoop.log {n : Nat} {s t : State} (h : OnlyLoop n s t) : t.log = s.log := by rw [h.same]
theorem OnlyLoop.time {n : Nat} {s t : State} (h : OnlyLoop n s t) : t.time = s.time := by rw [h.same]

theorem OnlyLoop.get {n : Nat} {s t : State} (h : OnlyLoop n s t) (i j : Nat) : Machine.get t i j = Machine.get s i j := by rw [h.same]; rfl

theorem onlyLoop_setLoop (s : State) (n : Nat) (f : Loop → Loop) : OnlyLoop n s (setLoop s n f) := ⟨rfl, fun _ hk => loop_setLoop_other s f hk⟩

theorem onlyLoop_setMotor (s : State) (n m : Nat) (f : Motor → Motor) : OnlyLoop n s (setMotor s m f) := ⟨rfl, fun _ _ => rfl⟩

/-- A loop whose output is off. -/
def outputless (l : Loop) : Loop := { l with on := false, y := 0, saturated := false, satTime := 0, excSide := 0, excCount := 0, excInside := true }

theorem outputOff_only (s : State) (n : Nat) : OnlyLoop n s (outputOff s n) := by
  unfold outputOff
  dsimp only
  split
  · exact (onlyLoop_setLoop s n _).trans (onlyLoop_setMotor _ n _ _)
  · exact onlyLoop_setLoop s n _

theorem loop_setMotor (s : State) (m k : Nat) (f : Motor → Motor) : loop (setMotor s m f) k = loop s k := rfl

theorem loop_outputOff (s : State) (n : Nat) : loop (outputOff s n) n = outputless (loop s n) := by
  unfold outputOff
  dsimp only
  split
  · rw [loop_setMotor, loop_setLoop_same]
    rfl
  · rw [loop_setLoop_same]
    rfl

theorem onlyLoop_loopOffNow (s : State) (n : Nat) : OnlyLoop n s (loopOffNow s n) := (outputOff_only s n).trans (onlyLoop_setLoop _ n _)

theorem loop_loopOffNow (s : State) (n : Nat) : loop (loopOffNow s n) n = { outputless (loop s n) with state := 0, recorded := none, broken := false } := by
  rw [loopOffNow, loop_setLoop_same, loop_outputOff]

theorem softStart_none {s : State} {n : Nat} (h : law s n = 0) : softStart s n = s := if_pos h

theorem softStart_some {s : State} {n : Nat} (h : law s n ≠ 0) :
    softStart s n = setLoop (outputOff s n) n fun l =>
      { l with state := 1, sp := measured s n, spFrac := 0, u := getS s 32 (loopIdx n) 0x11, broken := false, recorded := none } := if_neg h

theorem onlyLoop_softStart (s : State) (n : Nat) : OnlyLoop n s (softStart s n) := by
  by_cases h : law s n = 0
  · rw [softStart_none h]
    exact .refl n s
  · rw [softStart_some h]
    exact (outputOff_only s n).trans (onlyLoop_setLoop _ n _)

theorem loop_softStart {s : State} {n : Nat} (h : law s n ≠ 0) :
    loop (softStart s n) n =
      { outputless (loop s n) with
          state := 1, sp := measured s n, spFrac := 0, u := getS s 32 (loopIdx n) 0x11, broken := false, recorded := none } := by
  rw [softStart_some h, loop_setLoop_same, loop_outputOff]

/-! ## Accepted writes to loops -/

/-- An accepted write to a loop, the injection or the capture completes with its effect and its answer; the pins' lock sequences alone are touched
beside it. -/
theorem loopWrite_completes {c : Instr} {s : State} {acc : Accessor} {i j : Nat} {d : List Byte} {P : State → Prop} (hi : i = 0x7000 ∨ 0x3900 ≤ i ∧ i < 0x3930)
    (hrow : (writeRow i j).cls ≠ .rws ∧ (writeRow i j).ty ≠ .blob) (h : Accepted s acc i j d)
    (hexec : exec c s = .next (settle (writeCommand acc i j d s)))
    (hP : ∀ p, P (emit (effectLoop { s with pins := p } i j (ofLe d)) (.answer acc 0 []))) : Completes c s P := by
  have hview : viewOf i = (i, false) := by
    unfold viewOf
    rw [if_neg (by omega), if_neg (by omega), decide_eq_false (by omega)]
  have hthreshold : (thresholdOf i j).isSome = false := by
    unfold thresholdOf
    rw [if_neg (by omega), if_neg (by omega), if_neg (by omega), if_neg (by omega)]
    rfl
  have heffect (t : State) (v : Nat) : writeEffect t acc (writeRow i j) i j v d = (effectLoop t i j v, 0) := by
    unfold writeEffect
    rw [if_neg hrow.1, if_neg (by omega), hthreshold, if_neg (by simp), if_neg (by omega), if_neg (by omega), if_neg (by simp [hrow.2]),
      if_neg (by omega), if_pos (by omega)]
  refine ⟨_, hexec, ?_⟩
  rw [writeCommand_accepted h hview, heffect, breakLock_eq]
  exact hP _

theorem loopIdx_range (n : Fin 48) : loopIdx n.val = 0x7000 ∨ 0x3900 ≤ loopIdx n.val ∧ loopIdx n.val < 0x3930 := by unfold loopIdx; omega

theorem loopRow_bank (n : Fin 48) : (writeRow (loopIdx n.val) 0x20).cls ≠ .rws ∧ (writeRow (loopIdx n.val) 0x20).ty ≠ .blob := by
  revert n
  decide +kernel

theorem loopRow_command (n : Fin 48) : (writeRow (loopIdx n.val) 0x21).cls ≠ .rws ∧ (writeRow (loopIdx n.val) 0x21).ty ≠ .blob := by
  revert n
  decide +kernel

theorem captureRows : ∀ j ∈ [6, 0x13, 0x14], (writeRow 0x7000 j).cls ≠ .rws ∧ (writeRow 0x7000 j).ty ≠ .blob := by decide +kernel

theorem loopIdx_sub (n : Nat) : loopIdx n - 0x3900 = n := by unfold loopIdx; omega

theorem effectLoop_command (s : State) (n : Fin 48) (v : Nat) :
    effectLoop s (loopIdx n.val) 0x21 v = if isSpeedLoop n.val then s else if v = 1 then loopCommandOn s n.val else loopCommandOff s n.val := by
  have h1 : loopIdx n.val ≠ 0x7000 := by unfold loopIdx; omega
  have h2 : ¬(0x3C00 ≤ loopIdx n.val ∧ loopIdx n.val < 0x3C30) := by unfold loopIdx; omega
  unfold effectLoop
  simp only [h1, h2, if_false, loopIdx_sub]

theorem effectLoop_bank (s : State) (n : Fin 48) (v : Nat) : effectLoop s (loopIdx n.val) 0x20 v = put s (loopIdx n.val) 0x20 v := by
  have h1 : loopIdx n.val ≠ 0x7000 := by unfold loopIdx; omega
  have h2 : ¬(0x3C00 ≤ loopIdx n.val ∧ loopIdx n.val < 0x3C30) := by unfold loopIdx; omega
  unfold effectLoop
  rw [if_neg h1, if_neg h2]
  exact congrArg (fun k => selectBank s k v) (loopIdx_sub n.val)

theorem effectLoop_injection (s : State) (v : Nat) :
    effectLoop s 0x7000 6 v = if v = 1 then captureTrigger (injectionStart s) (get s 0x7000 1) else injectionStop s := rfl

theorem effectLoop_arm (s : State) (v : Nat) : effectLoop s 0x7000 0x13 v = captureArm s := rfl

theorem effectLoop_trigger (s : State) (v : Nat) : effectLoop s 0x7000 0x14 v = captureTrigger s (get s 0x7000 0x10) := rfl

/-! ## The obligation -/

theorem loopCommandOn_stays {s : State} {n : Nat} (h : (loop s n).state = 1 ∨ (loop s n).state = 2 ∨ law s n = 0 ∧ (loop s n).state ≠ 3) : loopCommandOn s n = s := by
  unfold loopCommandOn
  split
  next h3 => omega
  next => rfl
  next => rfl
  next h3 h1 h2 =>
    rcases h with h | h | ⟨hlaw, -⟩
    · exact absurd h h1
    · exact absurd h h2
    · exact softStart_none hlaw

theorem loopCommandOn_starts {s : State} {n : Nat} (h : (loop s n).state ∉ [1, 2, 3]) : loopCommandOn s n = softStart s n := by
  unfold loopCommandOn
  split
  next h3 => simp [h3] at h
  next h1 => simp [h1] at h
  next h2 => simp [h2] at h
  next => rfl

theorem loopCommandOn_pause {s : State} {n : Nat} (h : (loop s n).state = 3) : loopCommandOn s n = setLoop s n fun l => { l with recorded := some true } := by
  simp [loopCommandOn, h]

theorem loopCommandOff_pause {s : State} {n : Nat} (h : (loop s n).state = 3) : loopCommandOff s n = setLoop s n fun l => { l with recorded := some false } :=
  if_pos h

theorem loopCommandOff_now {s : State} {n : Nat} (h : (loop s n).state ≠ 3) : loopCommandOff s n = loopOffNow s n := if_neg h

/-- A command in the restart pause is kept for its end (R517). -/
theorem loopCommand_pause {s : State} {n v : Nat} (h : (loop s n).state = 3) :
    (if v = 1 then loopCommandOn s n else loopCommandOff s n) = setLoop s n fun l => { l with recorded := some (v == 1) } := by
  by_cases hv : v = 1
  · rw [if_pos hv, loopCommandOn_pause h, hv]
    rfl
  · rw [if_neg hv, loopCommandOff_pause h, beq_eq_false_iff_ne.2 hv]

theorem loopCarrier_open {s : State} (h : s.pins.ilockOpen = true) (n : Nat) : (loopCarrier s n).high = 0 := by
  simp [loopCarrier, h, clamp, roundDiv]

theorem hvdPin_open {s : State} (h : s.pins.ilockOpen = true) {p : Nat} {q : Carrier} (hq : hvdPin s p = some q) : q.high = 0 := by
  unfold hvdPin at hq
  split at hq
  · obtain rfl := Option.some.inj hq
    exact loopCarrier_open h _
  · obtain ⟨n, -, rfl⟩ := Option.map_eq_some_iff.1 hq
    exact loopCarrier_open h n

theorem loop_emit (s : State) (o : Output) (k : Nat) : loop (emit s o) k = loop s k := rfl

theorem captureTrigger_armed {s : State} {n : Nat} (h : s.diag.capState = 1) (hn : get s 0x7000 0x10 = n) :
    get (captureTrigger s n) 0x7000 0x17 = pressTime s ∧ (captureTrigger s n).md = s.md ∧
      (captureTrigger s n).diag = { s.diag with capState := 2, left := 4096 - get s 0x7000 0x12 } ∧ KeepsObjects [keyOf 0x7000 0x17] s (captureTrigger s n) := by
  rw [captureTrigger, if_pos ⟨h, hn⟩]
  exact ⟨get_put_same _ _ _ rfl, rfl, rfl, keepsObjects_trans (keepsObjects_of_dict_eq rfl) (keepsObjects_put _ _ _ _ (by simp))⟩

theorem captureTrigger_rest {s : State} {n : Nat} (h : s.diag.capState ≠ 1) : captureTrigger s n = s := if_neg fun hc => h hc.1

theorem captureTrigger_injection (s : State) (n : Nat) :
    (captureTrigger s n).diag.injecting = s.diag.injecting ∧ (captureTrigger s n).diag.injCount = s.diag.injCount ∧
      (captureTrigger s n).diag.injHigh = s.diag.injHigh ∧ (captureTrigger s n).diag.lfsr = s.diag.lfsr ∧ (captureTrigger s n).md = s.md := by
  unfold captureTrigger
  split <;> exact ⟨rfl, rfl, rfl, rfl, rfl⟩

/-- What a soft-start shows. -/
theorem softStart_shows {s : State} {n : Nat} (h : law s n ≠ 0) :
    (loop (softStart s n) n).state = 1 ∧ (loop (softStart s n) n).sp = measured s n ∧ (loop (softStart s n) n).u = getS s 32 (loopIdx n) 0x11 ∧
      (loop (softStart s n) n).y = 0 := by
  rw [loop_softStart h]
  exact ⟨rfl, rfl, rfl, rfl⟩

/-- Settles O56. -/
theorem loopCommands : Obligations.LoopCommands := by
  unfold Obligations.LoopCommands
  intro acc m d s
  dsimp only
  refine ⟨fun hopen h q hq => hvdPin_open hopen hq, fun h c hc => ?_, fun h => ?_, fun h3 hrec => ?_, fun h3 hrec hlaw => ?_, fun h3 => ?_, fun h c hc => ?_,
    fun h => ?_, fun h => ⟨fun hcap => ?_, fun hcap => ?_⟩⟩
  · have hexec : exec c s = .next (settle (writeCommand acc (loopIdx m.val) 0x21 d s)) := by
      rcases List.mem_pair.1 hc with rfl | rfl <;> rfl
    have hrow := loopRow_command m
    refine ⟨fun hspeed => ?_, fun hspeed h3 => ?_, fun hspeed hv hstate => ?_, fun hspeed hv hstate hlaw => ?_, fun hspeed hv h3 => ?_⟩ <;>
      refine loopWrite_completes (loopIdx_range m) hrow h hexec fun p => ?_ <;> rw [effectLoop_command, hspeed]
    · exact ⟨answered_emit acc _, rfl, rfl, rfl⟩
    · rw [if_neg (by simp), loopCommand_pause (s := { s with pins := p }) h3]
      have honly := onlyLoop_setLoop { s with pins := p } m.val fun l => { l with recorded := some (ofLe d == 1) }
      exact ⟨answered_emit acc _, ⟨honly.others, honly.md⟩, by rw [loop_emit, loop_setLoop_same]; rfl⟩
    · rw [if_neg (by simp), if_pos hv, loopCommandOn_stays (s := { s with pins := p }) hstate]
      exact ⟨answered_emit acc _, rfl, rfl⟩
    · rw [if_neg (by simp), if_pos hv, loopCommandOn_starts (s := { s with pins := p }) hstate]
      have honly := onlyLoop_softStart { s with pins := p } m.val
      exact ⟨answered_emit acc _, ⟨honly.others, honly.md⟩, softStart_shows (s := { s with pins := p }) hlaw⟩
    · rw [if_neg (by simp), if_neg hv, loopCommandOff_now (s := { s with pins := p }) h3]
      have honly := onlyLoop_loopOffNow { s with pins := p } m.val
      refine ⟨answered_emit acc _, ⟨honly.others, honly.md⟩, ?_⟩
      rw [loop_emit, loop_loopOffNow]
      exact ⟨rfl, rfl, rfl⟩
  · refine loopWrite_completes (loopIdx_range m) (loopRow_bank m) h rfl fun p => ?_
    rw [effectLoop_bank]
    exact ⟨answered_emit acc _, get_put_same _ _ _ (isLogIdx_loopIdx m.isLt), rfl, rfl, keepsObjects_put { s with pins := p } _ _ _ (by simp)⟩
  · have honly := onlyLoop_loopOffNow s m.val
    have hdrop := serveDrop_sameButLog (loopOffNow s m.val) .loop m.val
    refine ⟨serveDrop (loopOffNow s m.val) .loop m.val, by simp [exec, execLoopRestart, h3, loopRestartNow, hrec, done], ⟨fun k hk => honly.others k hk, honly.md⟩,
      ?_, serving_serveDrop _ _ _⟩
    show (loop (loopOffNow s m.val) m.val).state = 0
    rw [loop_loopOffNow]
  · have honly := onlyLoop_softStart s m.val
    exact ⟨softStart s m.val, by simp [exec, execLoopRestart, h3, loopRestartNow, hrec, done], ⟨honly.others, honly.md⟩, softStart_shows hlaw⟩
  · exact ⟨s, by simp [exec, execLoopRestart, h3, done], rfl⟩
  · have hexec : exec c s = .next (settle (writeCommand acc 0x7000 6 d s)) := by
      rcases List.mem_pair.1 hc with rfl | rfl <;> rfl
    have hrow := captureRows 6 (by simp)
    refine ⟨fun hv => ?_, fun hv => ?_⟩ <;> refine loopWrite_completes (.inl rfl) hrow h hexec fun p => ?_ <;> rw [effectLoop_injection]
    · rw [if_pos hv]
      exact ⟨answered_emit acc _, captureTrigger_injection (injectionStart { s with pins := p }) _⟩
    · rw [if_neg hv]
      exact ⟨answered_emit acc _, rfl, rfl, rfl⟩
  · refine loopWrite_completes (.inl rfl) (captureRows 0x13 (by simp)) h rfl fun p => ?_
    rw [effectLoop_arm]
    exact ⟨answered_emit acc _, rfl, rfl, rfl, rfl⟩
  · refine loopWrite_completes (.inl rfl) (captureRows 0x14 (by simp)) h rfl fun p => ?_
    rw [effectLoop_trigger]
    exact ⟨answered_emit acc _, captureTrigger_armed (s := { s with pins := p }) hcap rfl⟩
  · refine loopWrite_completes (.inl rfl) (captureRows 0x14 (by simp)) h rfl fun p => ?_
    rw [effectLoop_trigger, captureTrigger_rest (s := { s with pins := p }) hcap]
    exact ⟨answered_emit acc _, rfl, rfl, rfl⟩

end Sys2Proof.Machine

/-! # Conversions of inputs and the fuser's zero cross (R503 to R523, R586) -/

namespace Sys2Proof.Machine

/-! ## What follows a conversion leaves -/

theorem isLogIdx_ainIdx {n : Nat} (h : n < 48) : isLogIdx (ainIdx n) = false := by simp [isLogIdx, ainIdx]; omega

theorem serves_of_serveList {s t : State} (h : serveList t = serveList s) : t.log.serves = s.log.serves := congrArg ServeList.serves h

/-- What the loops, the log and the memory's budget make of an input leaves inputs, mode, serves and every object that is not a loop's. -/
structure InputRest (s t : State) : Prop where
  ains : t.ains = s.ains
  md : t.md = s.md
  serves : t.log.serves = s.log.serves
  keys : ∀ k, k / 256 < 0x3900 ∨ 0x3930 ≤ k / 256 → tabFind t.dict k = tabFind s.dict k

theorem InputRest.refl (s : State) : InputRest s s := ⟨rfl, rfl, rfl, fun _ _ => rfl⟩

theorem InputRest.trans {s t u : State} (h : InputRest s t) (k : InputRest t u) : InputRest s u :=
  ⟨k.ains.trans h.ains, k.md.trans h.md, k.serves.trans h.serves, fun i hi => (k.keys i hi).trans (h.keys i hi)⟩

theorem InputRest.ain {s t : State} (h : InputRest s t) (k : Nat) : Machine.ain t k = Machine.ain s k := by simp [Machine.ain, h.ains]

theorem InputRest.serving {s t : State} (h : InputRest s t) (m : Mech) (n : Nat) : Machine.serving t m n = Machine.serving s m n := serving_congr h.serves m n

theorem InputRest.get {s t : State} (h : InputRest s t) {i j : Nat} (hi : isLogIdx i = false) (hk : keyOf i j / 256 < 0x3900 ∨ 0x3930 ≤ keyOf i j / 256) :
    Machine.get t i j = Machine.get s i j := by rw [get_dict _ _ hi, get_dict _ _ hi, h.keys _ hk]

theorem SameButLog.inputRest {s t : State} (h : SameButLog s t) (hserves : serveList t = serveList s) : InputRest s t :=
  ⟨h.ains, h.md, serves_of_serveList hserves, fun _ _ => by rw [h.dict]⟩

theorem OnlyLoop.inputRest {n : Nat} {s t : State} (h : OnlyLoop n s t) : InputRest s t :=
  ⟨by rw [h.same], h.md, by rw [h.log], fun _ _ => by rw [h.dict]⟩

theorem inputRest_log (s : State) (cls kind src inst idx sub : Nat) (serial : Option Nat) (detail : Nat) :
    InputRest s (log s cls kind src inst idx sub serial detail) := (log_sameButLog _ _ _ _ _ _ _ _ _).inputRest (log_serveList _ _ _ _ _ _ _ _ _)

theorem inputRest_put (s : State) {n j : Nat} (v : Nat) (hn : n < 48) (hj : j < 256) : InputRest s (put s (loopIdx n) j v) :=
  ⟨rfl, rfl, rfl, fun k hk => tabFind_tabSet_other _ _ (by rintro rfl; unfold keyOf loopIdx at hk; omega)⟩

theorem inputRest_loopFault (s : State) {n : Nat} (code : Nat) (hn : n < 48) : InputRest s (loopFault s n code) :=
  (inputRest_put s code hn (by decide)).trans (inputRest_put _ _ hn (by decide))

theorem inputRest_loopBroken (s : State) {n : Nat} (hn : n < 48) : InputRest s (loopBroken s n) := by
  unfold loopBroken
  split
  · exact .refl s
  · exact (((outputOff_only s n).trans (onlyLoop_setLoop _ n _)).inputRest.trans (inputRest_loopFault _ 3 hn)).trans (inputRest_log _ _ _ _ _ _ _ _ _)

theorem inputRest_foldl {l : List Nat} {f : State → Nat → State} (s : State) (h : ∀ u, ∀ x ∈ l, InputRest u (f u x)) : InputRest s (forEach l f s) :=
  foldl_keeps (InputRest s) l f s (fun u x hx hu => hu.trans (h u x hx)) (.refl s)

theorem mem_loopsOf {s : State} {i n : Nat} : n ∈ loopsOf s i ↔ n < 48 ∧ readsAin s n i = true := by simp [loopsOf]

theorem inputRest_fuserBroken (s : State) (i : Nat) : InputRest s (fuserBroken s i) :=
  inputRest_foldl s fun u _ hx => inputRest_loopBroken u (mem_loopsOf.1 (List.mem_filter.1 hx).1).1

theorem inputRest_capacityFrom (old s : State) : InputRest s (capacityFrom old s) := by
  have hheat : InputRest s (followHeat s) := by
    rw [followHeat_eq]
    exact ⟨rfl, rfl, rfl, fun _ _ => rfl⟩
  refine hheat.trans ((watchBudget_sameButLog old (followHeat s)).inputRest ?_)
  simp [watchBudget]

theorem inputRest_brokenInput (s : State) (i : Nat) : InputRest s (brokenInput s i) := by
  unfold brokenInput
  split
  · exact inputRest_log _ _ _ _ _ _ _ _ _
  · exact .refl s

theorem inputRest_causeEnd (s : State) (c n : Nat) : InputRest s (causeEnd s c n) :=
  (causeEnd_sameButLog s c n).inputRest (causeEnd_serveList s c n)

/-! ## Good and broken conversions (R503, R509) -/

/-- The input after a good conversion. -/
def convertedAin (s : State) (n v1 : Nat) (x : Int) : Ain :=
  rangeNext s n (tenths (gain10 s n) v1)
    { ain s n with raw := v1, broken := false, settle := (ain s n).discard, discard := false, x := if (ain s n).discard then (ain s n).x else x }

/-- The value that a good conversion gives (R503, R510). -/
def convertedValue (s : State) (n v1 : Nat) : Int :=
  if get s (ainIdx n) 1 = 2 then thermValue s (get s (ainIdx n) 5) (tenths (gain10 s n) v1) else (roundDiv (tenths (gain10 s n) v1) 10 : Nat)

/-- An input's own operation: nothing but one input and its objects differs. -/
structure OnlyAin (n : Nat) (s t : State) : Prop where
  same : t = { s with ains := t.ains, dict := t.dict }
  others : ∀ k, k ≠ n → ain t k = ain s k
  keys : ∀ k, k / 256 ≠ ainIdx n → tabFind t.dict k = tabFind s.dict k

theorem OnlyAin.trans {n : Nat} {s t u : State} (h : OnlyAin n s t) (k : OnlyAin n t u) : OnlyAin n s u :=
  ⟨by rw [k.same, h.same], fun b hb => (k.others b hb).trans (h.others b hb), fun b hb => (k.keys b hb).trans (h.keys b hb)⟩

theorem OnlyAin.md {n : Nat} {s t : State} (h : OnlyAin n s t) : t.md = s.md := by rw [h.same]
theorem OnlyAin.log {n : Nat} {s t : State} (h : OnlyAin n s t) : t.log = s.log := by rw [h.same]

theorem onlyAin_setAin (s : State) (n : Nat) (f : Ain → Ain) : OnlyAin n s (setAin s n f) := ⟨rfl, fun _ hk => ain_setAin_other s f hk, fun _ _ => rfl⟩

theorem onlyAin_put (s : State) (n : Nat) {j : Nat} (v : Nat) (hj : j < 256) : OnlyAin n s (put s (ainIdx n) j v) :=
  ⟨rfl, fun _ _ => rfl, fun k hk => tabFind_tabSet_other _ _ (by rintro rfl; unfold keyOf at hk; omega)⟩

theorem ain_put (s : State) (i j v k : Nat) : ain (put s i j v) k = ain s k := rfl

/-- A good conversion taken, its change of range counted, before x is stored. -/
def rangeCounted (s : State) (n v1 : Nat) (x : Int) : State :=
  let t := setAin s n fun a => rangeNext s n (tenths (gain10 s n) v1)
    { a with raw := v1, broken := false, settle := a.discard, discard := false, x := if a.discard then a.x else x }
  if (ain t n).gain10 != (ain s n).gain10 then bump t (ainIdx n) 9 else t

theorem goodConversion_eq (s : State) (n v1 : Nat) :
    goodConversion s n v1 = if (ain s n).discard then rangeCounted s n v1 (convertedValue s n v1)
      else putS (rangeCounted s n v1 (convertedValue s n v1)) 32 (ainIdx n) 7 (convertedValue s n v1) := rfl

theorem rangeCounted_shows (s : State) (n v1 : Nat) (x : Int) : OnlyAin n s (rangeCounted s n v1 x) ∧ ain (rangeCounted s n v1 x) n = convertedAin s n v1 x := by
  unfold rangeCounted
  dsimp only
  split
  · refine ⟨(onlyAin_setAin s n _).trans (onlyAin_put _ n _ (by decide)), ?_⟩
    rw [bump, wrapBy, ain_put, ain_setAin_same]
    rfl
  · refine ⟨onlyAin_setAin s n _, ?_⟩
    rw [ain_setAin_same]
    rfl

theorem goodConversion_shows (s : State) {n : Nat} (v1 : Nat) (hn : n < 48) :
    OnlyAin n s (goodConversion s n v1) ∧ ain (goodConversion s n v1) n = convertedAin s n v1 (convertedValue s n v1) ∧
      ((ain s n).discard = false → get (goodConversion s n v1) (ainIdx n) 7 = sImg 32 (convertedValue s n v1)) := by
  obtain ⟨honly, hain⟩ := rangeCounted_shows s n v1 (convertedValue s n v1)
  rw [goodConversion_eq]
  split
  next h => exact ⟨honly, hain, fun hd => by simp [hd] at h⟩
  next => exact ⟨honly.trans (onlyAin_put _ n _ (by decide)), hain, fun _ => get_put_same _ _ _ (isLogIdx_ainIdx hn)⟩

theorem brokenConversion_shows (s : State) {n : Nat} (v1 : Nat) (hn : n < 48) :
    OnlyAin n s (brokenConversion s n v1) ∧ ain (brokenConversion s n v1) n = { ain s n with raw := v1, broken := true, settle := false, discard := false } ∧
      get (brokenConversion s n v1) (ainIdx n) 0x0A = min (get s (ainIdx n) 0x0A + 1) 65535 := by
  refine ⟨(onlyAin_setAin s n _).trans (onlyAin_put _ n _ (by decide)), by rw [brokenConversion, sat, satBy, ain_put, ain_setAin_same], ?_⟩
  rw [brokenConversion, sat, satBy, get_put_same _ _ _ (isLogIdx_ainIdx hn), get_setAin]
  rfl

theorem inputRest_softStart (s : State) (n : Nat) : InputRest s (softStart s n) := (onlyLoop_softStart s n).inputRest

/-- A good conversion passes the input's serve, and its loops restart (R512). -/
theorem takeGood_rest (s : State) (n v1 : Nat) :
    ∃ t, t = servePass (goodConversion s n v1) .thermistor n 0x0D (ainIdx n) 0x0A ∧ InputRest t (takeGood s n v1) := by
  refine ⟨_, rfl, ?_⟩
  exact (inputRest_causeEnd _ _ _).trans (inputRest_foldl _ fun u x _ => inputRest_softStart u x)

theorem loopsOf_congr {s t : State} (h : ∀ n < 48, ∀ j < 256, get t (loopIdx n) j = get s (loopIdx n) j) (i : Nat) : loopsOf t i = loopsOf s i := by
  refine List.filter_congr fun n hn => ?_
  have hlt : n < 48 := List.mem_range.1 hn
  simp only [readsAin, law, inKind, inInst, h n hlt 1 (by decide), h n hlt 2 (by decide)] <;> rfl

/-- Nothing but loops, and the motors that they drive, differs. -/
def LoopsOnly (s t : State) : Prop := t = { s with loops := t.loops, motors := t.motors }

theorem LoopsOnly.md {s t : State} (h : LoopsOnly s t) : t.md = s.md := by rw [h]
theorem LoopsOnly.log {s t : State} (h : LoopsOnly s t) : t.log = s.log := by rw [h]
theorem LoopsOnly.pins {s t : State} (h : LoopsOnly s t) : t.pins = s.pins := by rw [h]

theorem LoopsOnly.get {s t : State} (h : LoopsOnly s t) (i j : Nat) : Machine.get t i j = Machine.get s i j := by rw [h]; rfl

theorem LoopsOnly.trans {s t u : State} (h : LoopsOnly s t) (k : LoopsOnly t u) : LoopsOnly s u := by
  unfold LoopsOnly at *
  rw [k, h]

theorem OnlyLoop.loopsOnly {n : Nat} {s t : State} (h : OnlyLoop n s t) : LoopsOnly s t := h.same

theorem loopsOnly_foldl {l : List Nat} {f : State → Nat → State} (h : ∀ u x, OnlyLoop x u (f u x)) (s : State) : LoopsOnly s (forEach l f s) :=
  foldl_keeps (LoopsOnly s) l f s (fun u x _ hu => hu.trans (h u x).loopsOnly) rfl

/-! ## The bookkeeping of a conversion (R298, R500) -/

/-- A conversion counted, and its budget watched where the memory's temperature is this input's. -/
def conversionCounted (old s : State) (n : Nat) : State :=
  if get old 0x2300 7 = n then capacityFrom old (wrapBy 64 s (0x3C40 + n / 12) 2 1) else wrapBy 64 s (0x3C40 + n / 12) 2 1

/-- What a counted conversion shows. -/
structure ConversionCounted (s : State) (n : Nat) (u : State) : Prop where
  ains : u.ains = s.ains
  md : u.md = s.md
  serves : u.log.serves = s.log.serves
  count : get u (0x3C40 + n / 12) 2 = (get s (0x3C40 + n / 12) 2 + 1) % 2 ^ 64
  get : ∀ i j, isLogIdx i = false → (keyOf i j / 256 < 0x3900 ∨ 0x3930 ≤ keyOf i j / 256) → keyOf i j ≠ keyOf (0x3C40 + n / 12) 2 →
    Machine.get u i j = Machine.get s i j

theorem conversionCounted_shows (old s : State) {n : Nat} (hn : n < 48) : ConversionCounted s n (conversionCounted old s n) := by
  have hlog : isLogIdx (0x3C40 + n / 12) = false := by simp [isLogIdx]; omega
  have hrest : InputRest (wrapBy 64 s (0x3C40 + n / 12) 2 1) (conversionCounted old s n) := by
    unfold conversionCounted
    split
    · exact inputRest_capacityFrom _ _
    · exact .refl _
  refine ⟨hrest.ains, hrest.md, hrest.serves, ?_, fun i j hi hk hne => ?_⟩
  · rw [hrest.get hlog (by unfold keyOf; omega), wrapBy, get_put_same _ _ _ hlog]
  · rw [hrest.get hi hk, wrapBy, get_put_other _ _ hne]

theorem exec_conversion {s : State} {i : Fin 48} (v1 v2 : Nat) (hrun : engineRuns s = true) (hmode : get s (ainIdx i.val) 1 ≠ 0) :
    exec (.conversion i v1 v2) s =
      .next (settle (conversionCounted s (if get s (ainIdx i.val) 1 = 2 ∧ brokenPair (gain10 s i.val) (get s (ainIdx i.val) 4) (tenths (gain10 s i.val) v1)
        (tenths (gain10 s i.val) v2) = true then takeBroken s i.val v1 else takeGood s i.val v1) i.val)) := by
  have hcond : (engineRuns s && get s (ainIdx i.val) 1 != 0) = true := by simp [hrun, hmode]
  show execConversion i v1 v2 s = _
  unfold execConversion
  dsimp only
  rw [if_pos hcond]
  rfl

/-- What a good conversion shows. -/
theorem goodConversion_counted (s : State) {n : Nat} (v1 : Nat) (hn : n < 48) :
    let u := conversionCounted s (takeGood s n v1) n
    (get u (0x3C40 + n / 12) 2 = (get s (0x3C40 + n / 12) 2 + 1) % 2 ^ 64 ∧ ∀ k, k ≠ n → ain u k = ain s k) ∧ serving u .thermistor n = false ∧
      ain u n = convertedAin s n v1 (convertedValue s n v1) ∧
      ((ain s n).discard = false → get u (ainIdx n) 7 = sImg 32 (convertedValue s n v1)) ∧ u.md = s.md := by
  obtain ⟨honly, hain, hvalue⟩ := goodConversion_shows s v1 hn
  obtain ⟨t, ht, hrest⟩ := takeGood_rest s n v1
  have hpass : SameButLog (goodConversion s n v1) t := ht ▸ servePass_sameButLog _ _ _ _ _ _
  have hserves : serving t .thermistor n = false := ht ▸ serving_servePass _ _ _ _ _ _
  have hcount := conversionCounted_shows s (takeGood s n v1) hn
  have hains (k : Nat) : ain (conversionCounted s (takeGood s n v1) n) k = ain (goodConversion s n v1) k := by
    simp only [ain, hcount.ains, hrest.ains, hpass.ains]
  have hlog : isLogIdx (0x3C40 + n / 12) = false := by simp [isLogIdx]; omega
  refine ⟨⟨?_, fun k hk => (hains k).trans (honly.others k hk)⟩, ?_, (hains n).trans hain, fun hd => ?_, ?_⟩
  · rw [hcount.count, hrest.get hlog (by unfold keyOf; omega), hpass.get _ hlog, get_dict _ _ hlog, get_dict _ _ hlog,
      honly.keys _ (by unfold keyOf ainIdx; omega)]
  · rw [serving_congr hcount.serves, hrest.serving, hserves]
  · rw [hcount.get _ _ (isLogIdx_ainIdx hn) (by unfold keyOf ainIdx; omega) (by unfold keyOf ainIdx; omega),
      hrest.get (isLogIdx_ainIdx hn) (by unfold keyOf ainIdx; omega), hpass.get _ (isLogIdx_ainIdx hn), hvalue hd]
  · rw [hcount.md, hrest.md, hpass.md, honly.md]

/-- What the first broken conversion shows. -/
theorem takeBroken_first {s : State} {n : Nat} (v1 : Nat) (hn : n < 48) (hserving : serving s .thermistor n = false) (hbroken : (ain s n).broken = false) :
    let u := conversionCounted s (takeBroken s n v1) n
    (get u (0x3C40 + n / 12) 2 = (get s (0x3C40 + n / 12) 2 + 1) % 2 ^ 64 ∧ ∀ k, k ≠ n → ain u k = ain s k) ∧
      ain u n = { ain s n with raw := v1, broken := true, settle := false, discard := false } ∧
      get u (ainIdx n) 0x0A = min (get s (ainIdx n) 0x0A + 1) 65535 ∧ serving u .thermistor n = true ∧ u.md = s.md := by
  obtain ⟨honly, hain, hobject⟩ := brokenConversion_shows s v1 hn
  have hinput := inputRest_brokenInput (brokenConversion s n v1) n
  have hbegin := serveBegin_sameButLog (brokenInput (brokenConversion s n v1) n) .thermistor n 0 0x0D (ainIdx n) 0x0A
  have hserves := serving_serveBegin (brokenInput (brokenConversion s n v1) n) .thermistor n 0 0x0D (ainIdx n) 0x0A
  have htake : takeBroken s n v1 = fuserBroken (serveBegin (brokenInput (brokenConversion s n v1) n) .thermistor n 0 0x0D (ainIdx n) 0x0A) n := by
    simp [takeBroken, hserving, hbroken]
  rw [htake]
  generalize serveBegin (brokenInput (brokenConversion s n v1) n) .thermistor n 0 0x0D (ainIdx n) 0x0A = t at hbegin hserves ⊢
  have hrest := inputRest_fuserBroken t n
  generalize fuserBroken t n = w at hrest ⊢
  have hcount := conversionCounted_shows s w hn
  have hlog : isLogIdx (0x3C40 + n / 12) = false := by simp [isLogIdx]; omega
  have hains (k : Nat) : ain (conversionCounted s w n) k = ain (brokenConversion s n v1) k := by
    simp only [ain, hcount.ains, hrest.ains, hbegin.ains, hinput.ains]
  refine ⟨⟨?_, fun k hk => (hains k).trans (honly.others k hk)⟩, (hains n).trans hain, ?_, ?_, ?_⟩
  · rw [hcount.count, hrest.get hlog (by unfold keyOf; omega), hbegin.get _ hlog, hinput.get hlog (by unfold keyOf; omega), get_dict _ _ hlog,
      get_dict _ _ hlog, honly.keys _ (by unfold keyOf ainIdx; omega)]
  · rw [hcount.get _ _ (isLogIdx_ainIdx hn) (by unfold keyOf ainIdx; omega) (by unfold keyOf ainIdx; omega),
      hrest.get (isLogIdx_ainIdx hn) (by unfold keyOf ainIdx; omega), hbegin.get _ (isLogIdx_ainIdx hn),
      hinput.get (isLogIdx_ainIdx hn) (by unfold keyOf ainIdx; omega), hobject]
  · rw [serving_congr hcount.serves, hrest.serving, hserves]
  · rw [hcount.md, hrest.md, hbegin.md, hinput.md, honly.md]

/-- The second broken conversion in a row stops the press where a loop of L0 to L27 reads the input (R512). -/
theorem takeBroken_again {s : State} {n : Nat} (v1 : Nat) (hserving : serving s .thermistor n = true)
    (hloops : (loopsOf s n).any (fun k => decide (k < 28)) = true) (hmode : s.md.mode ∈ operating) (hn : n < 48) :
    Stopped7 (conversionCounted s (takeBroken s n v1) n) := by
  obtain ⟨honly, -, -⟩ := brokenConversion_shows s v1 hn
  have hinput := inputRest_brokenInput (brokenConversion s n v1) n
  have hdouble := doubleFault_sameButLog (brokenInput (brokenConversion s n v1) n) .thermistor n 0 0x0D (ainIdx n) 0x0A
  have hdict : ∀ i < 48, ∀ j < 256, get (doubleFault (brokenInput (brokenConversion s n v1) n) .thermistor n 0 0x0D (ainIdx n) 0x0A) (loopIdx i) j =
      get s (loopIdx i) j := by
    intro i hi j hj
    have hbroken : SameButLog (brokenConversion s n v1) (brokenInput (brokenConversion s n v1) n) := by
      unfold brokenInput
      split
      · exact log_sameButLog _ _ _ _ _ _ _ _ _
      · exact .refl _
    rw [hdouble.get _ (isLogIdx_loopIdx hi), hbroken.get _ (isLogIdx_loopIdx hi), get_dict _ _ (isLogIdx_loopIdx hi), get_dict _ _ (isLogIdx_loopIdx hi),
      honly.keys _ (by unfold keyOf loopIdx ainIdx; omega)]
  have htake : takeBroken s n v1 = brokenTwice (brokenInput (brokenConversion s n v1) n) n := by simp [takeBroken, hserving]
  have hmd : (doubleFault (brokenInput (brokenConversion s n v1) n) .thermistor n 0 0x0D (ainIdx n) 0x0A).md = s.md :=
    hdouble.md.trans (hinput.md.trans honly.md)
  rw [htake]
  unfold brokenTwice
  generalize doubleFault (brokenInput (brokenConversion s n v1) n) .thermistor n 0 0x0D (ainIdx n) 0x0A = t at hdict hmd ⊢
  dsimp only
  have hoff : LoopsOnly t (forEach ((loopsOf t n).filter fun k => decide (40 ≤ k) && loopUp t k) loopOffNow t) := loopsOnly_foldl onlyLoop_loopOffNow t
  generalize forEach ((loopsOf t n).filter fun k => decide (40 ≤ k) && loopUp t k) loopOffNow t = w at hoff ⊢
  have hany : (loopsOf w n).any (fun k => decide (k < 28)) = true := by
    rw [loopsOf_congr (s := s) fun i hi j hj => (hoff.get _ _).trans (hdict i hi j hj)]
    exact hloops
  rw [if_pos hany]
  obtain ⟨hstop, hcause, -⟩ := safestopBy_operating (s := w) (by rw [hoff.md, hmd]; exact hmode) 7 (causeInst .thermistor n)
  have hcount := conversionCounted_shows s (safestopBy w 7 (causeInst .thermistor n)) hn
  refine ⟨by rw [hcount.md, hstop], ?_⟩
  rw [hcount.get _ _ rfl (by decide) (by unfold keyOf; omega), hcause]

/-! ## The fuser's zero cross (R522, R523) -/

/-- The half-period measured at an accepted edge. -/
def edgeTimed (s : State) : State :=
  match s.pins.zcSeen with
  | some a => put s 0x3930 3 ((s.time - a) / 1500 % 2 ^ 32)
  | none => s

theorem edgeTimed_none {s : State} (h : s.pins.zcSeen = none) : edgeTimed s = s := by simp [edgeTimed, h]

theorem edgeTimed_some {s : State} {t : Nat} (h : s.pins.zcSeen = some t) : edgeTimed s = put s 0x3930 3 ((s.time - t) / 1500 % 2 ^ 32) := by
  simp [edgeTimed, h]

/-- Nothing but objects and what is sent differs, and of the objects none but 3930:03. -/
structure EdgeShown (s t : State) : Prop where
  same : t = { s with dict := t.dict, out := t.out }
  keeps : KeepsObjects [keyOf 0x3930 3] s t

theorem edgeTimed_shown (s : State) : EdgeShown s (edgeTimed s) := by
  cases h : s.pins.zcSeen with
  | none =>
    rw [edgeTimed_none h]
    exact ⟨rfl, keepsObjects_of_dict_eq rfl⟩
  | some a =>
    rw [edgeTimed_some h]
    exact ⟨rfl, keepsObjects_put s _ _ _ (by simp)⟩

theorem zonePulse_same (s : State) (z : Nat) : zonePulse s z = { s with out := (zonePulse s z).out } := by
  unfold zonePulse
  dsimp only
  split <;> rfl

/-- Whether a zone's output is on at an edge. -/
def zoneOn (s : State) (z : Nat) : Bool := loopUp s (26 + z) && !(loop s (26 + z)).broken && (loop s (26 + z)).y == 1 && !s.pins.ilockOpen

theorem zonePulse_fires {s : State} {z : Nat} (h : zoneOn s z = true) :
    Output.fuserPulse z (get s 0x3930 4) (get s 0x3930 5) ∈ (zonePulse s z).out := by
  have heq : zonePulse s z = emit s (.fuserPulse z (get s 0x3930 4) (get s 0x3930 5)) := if_pos h
  rw [heq]
  exact List.mem_cons_self

theorem zonePulse_keeps {s : State} {z : Nat} {o : Output} (h : o ∈ s.out) : o ∈ (zonePulse s z).out := by
  unfold zonePulse
  dsimp only
  split
  · exact List.mem_cons_of_mem _ h
  · exact h

/-- The zones' pulses at an edge. -/
def zonesFired (s : State) : State := zonePulse (zonePulse s 0) 1

theorem zonesFired_same (s : State) : zonesFired s = { s with out := (zonesFired s).out } := by
  unfold zonesFired
  rw [zonePulse_same (zonePulse s 0) 1, zonePulse_same s 0]

theorem zonesFired_fires {s : State} {z : Nat} (hz : z < 2) (h : zoneOn s z = true) :
    Output.fuserPulse z (get s 0x3930 4) (get s 0x3930 5) ∈ (zonesFired s).out := by
  have hcase : z = 0 ∨ z = 1 := by omega
  rcases hcase with rfl | rfl
  · exact zonePulse_keeps (zonePulse_fires h)
  · have hon : zoneOn (zonePulse s 0) 1 = true := by
      rw [zonePulse_same s 0]
      exact h
    have hget (j : Nat) : get (zonePulse s 0) 0x3930 j = get s 0x3930 j := by rw [zonePulse_same s 0]; rfl
    have hfires := zonePulse_fires hon
    rwa [hget, hget] at hfires

/-- The zones' loops that are up. -/
def zonesUp (s : State) : List Nat := [26, 27].filter (loopUp s)

theorem mem_zonesUp {s : State} {z : Nat} (hz : z < 2) (h : loopUp s (26 + z) = true) : 26 + z ∈ zonesUp s := by
  have hcase : z = 0 ∨ z = 1 := by omega
  rcases hcase with rfl | rfl <;> simp [zonesUp, h]

/-- The edges' return, its loops restarted and its serve passed, before its cause ends. -/
def edgesServed (s : State) : State :=
  servePass (forEach (zonesUp s) softStart { s with pins := { s.pins with zcLost := false } }) .zeroCross 255 0x0D 0x3930 7

theorem edgesBack_lost {s : State} (h : s.pins.zcLost = true) : edgesBack s = causeEnd (edgesServed s) 7 (causeInst .zeroCross 255) := by
  unfold edgesBack
  rw [if_neg (by simp [h])]
  rfl

theorem edgesBack_none {s : State} (h : s.pins.zcLost = false) : edgesBack s = s := by
  unfold edgesBack
  rw [if_pos (by simp [h])]

theorem law_congr {s t : State} (h : LoopsOnly s t) (n : Nat) : law t n = law s n := by
  unfold law
  rw [h.get]

/-- A loop in soft-start stays so under the soft-starts of others. -/
theorem softStarts_start {l : List Nat} {s : State} {b : Nat} (hb : b ∈ l) (hlaw : law s b ≠ 0) : (loop (forEach l softStart s) b).state = 1 := by
  refine (foldl_reaches (A := fun u => law u b ≠ 0) (P := fun u => law u b ≠ 0 ∧ (loop u b).state = 1) ?_ ?_ ?_ l s hb hlaw).2
  · intro u hu
    exact ⟨by rwa [law_congr (onlyLoop_softStart u b).loopsOnly], (softStart_shows hu).1⟩
  · intro u x _ hu
    rwa [law_congr (onlyLoop_softStart u x).loopsOnly]
  · intro u x ⟨hu, hstate⟩
    refine ⟨by rwa [law_congr (onlyLoop_softStart u x).loopsOnly], ?_⟩
    by_cases hx : b = x
    · subst hx
      exact (softStart_shows hu).1
    · rw [(onlyLoop_softStart u x).others b hx, hstate]

/-- What the edges' return shows. -/
theorem edgesBack_shows {s : State} (h : s.pins.zcLost = true) :
    (edgesBack s).pins = { s.pins with zcLost := false } ∧ (edgesBack s).md = s.md ∧ (edgesBack s).dict = s.dict ∧
      serving (edgesBack s) .zeroCross 255 = false ∧
      ∀ z, z < 2 → loopUp s (26 + z) = true → law s (26 + z) ≠ 0 → (loop (edgesBack s) (26 + z)).state = 1 := by
  rw [edgesBack_lost h, edgesServed]
  have hloops := loopsOnly_foldl (l := zonesUp s) onlyLoop_softStart { s with pins := { s.pins with zcLost := false } }
  have hstarts (z : Nat) (hz : z < 2) (hup : loopUp s (26 + z) = true) (hlaw : law s (26 + z) ≠ 0) :=
    softStarts_start (s := { s with pins := { s.pins with zcLost := false } }) (mem_zonesUp hz hup) hlaw
  generalize forEach (zonesUp s) softStart { s with pins := { s.pins with zcLost := false } } = t at hloops hstarts ⊢
  have hpass := servePass_sameButLog t .zeroCross 255 0x0D 0x3930 7
  have hserves := serving_servePass t .zeroCross 255 0x0D 0x3930 7
  generalize servePass t .zeroCross 255 0x0D 0x3930 7 = u at hpass hserves ⊢
  have hend := causeEnd_sameButLog u 7 (causeInst .zeroCross 255)
  refine ⟨?_, ?_, ?_, ?_, fun z hz hup hlaw => ?_⟩
  · rw [hend.pins, hpass.pins, hloops.pins]
  · rw [hend.md, hpass.md, hloops.md]
  · rw [hend.dict, hpass.dict, hloops]
  · rw [serving_congr (serves_of_serveList (causeEnd_serveList u 7 (causeInst .zeroCross 255))), hserves]
  · have hloop : loop (causeEnd u 7 (causeInst .zeroCross 255)) (26 + z) = loop t (26 + z) := by simp only [loop, hend.loops, hpass.loops]
    rw [hloop, hstarts z hz hup hlaw]

/-- The loss of the zero cross as it is recorded, before the outputs go off. -/
def zeroCrossNoted (s : State) : State := loopFault (loopFault (sat s 0x3930 7) 26 5) 27 5

/-- The loss recorded, both gates low. -/
def zeroCrossLost (s : State) : State :=
  let t := logEvent { zeroCrossNoted s with pins := { (zeroCrossNoted s).pins with zcLost := true, zcSeen := none } } clsFault 0x0D 255 0x3930 7
  forEach (zonesUp t) outputOff t

/-- What the loss shows. -/
structure CrossLost (s t : State) : Prop where
  md : t.md = s.md
  lost : t.pins.zcLost = true
  seen : t.pins.zcSeen = none
  count : get t 0x3930 7 = min (get s 0x3930 7 + 1) 65535
  first : get t (loopIdx 26) 0x36 = 5
  second : get t (loopIdx 27) 0x36 = 5
  off : ∀ z, z < 2 → loopUp s (26 + z) = true → (loop t (26 + z)).y = 0

theorem zeroCrossNoted_get (s : State) :
    get (zeroCrossNoted s) 0x3930 7 = min (get s 0x3930 7 + 1) 65535 ∧ get (zeroCrossNoted s) (loopIdx 26) 0x36 = 5 ∧ get (zeroCrossNoted s) (loopIdx 27) 0x36 = 5 := by
  unfold zeroCrossNoted loopFault sat satBy loopIdx
  refine ⟨?_, ?_, ?_⟩ <;> simp (disch := decide) only [get_put_other, get_put_same]
  rfl

theorem outputs_off {l : List Nat} {s : State} {b : Nat} (hb : b ∈ l) : (loop (forEach l outputOff s) b).y = 0 :=
  foldl_clears (P := fun u k => (loop u k).y = 0) (fun u a => by rw [loop_outputOff]; rfl) (fun u a k h => by
    by_cases hk : k = a
    · rw [hk, loop_outputOff]
      rfl
    · rw [(outputOff_only u a).others k hk, h]) l s hb

theorem sat_md (s : State) (i j : Nat) : (sat s i j).md = s.md := rfl
theorem sat_loops (s : State) (i j : Nat) : (sat s i j).loops = s.loops := rfl
theorem loopFault_md (s : State) (n code : Nat) : (loopFault s n code).md = s.md := rfl
theorem loopFault_loops (s : State) (n code : Nat) : (loopFault s n code).loops = s.loops := rfl

theorem zeroCrossLost_shows (s : State) : CrossLost s (zeroCrossLost s) := by
  obtain ⟨hcount, hfirst, hsecond⟩ := zeroCrossNoted_get s
  have hmd : (zeroCrossNoted s).md = s.md := by rw [zeroCrossNoted, loopFault_md, loopFault_md, sat_md]
  have hloops : (zeroCrossNoted s).loops = s.loops := by rw [zeroCrossNoted, loopFault_loops, loopFault_loops, sat_loops]
  unfold zeroCrossLost
  generalize zeroCrossNoted s = t at hcount hfirst hsecond hmd hloops ⊢
  have hlog := logEvent_sameButLog { t with pins := { t.pins with zcLost := true, zcSeen := none } } clsFault 0x0D 255 0x3930 7
  generalize logEvent { t with pins := { t.pins with zcLost := true, zcSeen := none } } clsFault 0x0D 255 0x3930 7 = u at hlog ⊢
  dsimp only
  have honly := loopsOnly_foldl (l := zonesUp u) outputOff_only u
  have hoff (z : Nat) (hz : z < 2) (hup : loopUp u (26 + z) = true) := outputs_off (s := u) (mem_zonesUp hz hup)
  generalize forEach (zonesUp u) outputOff u = w at honly hoff ⊢
  refine ⟨?_, ?_, ?_, ?_, ?_, ?_, fun z hz hup => hoff z hz ?_⟩
  · rw [honly.md, hlog.md, ← hmd]
  · rw [honly.pins, hlog.pins]
  · rw [honly.pins, hlog.pins]
  · rw [honly.get, hlog.get _ rfl, ← hcount]
    rfl
  · rw [honly.get, hlog.get _ rfl, ← hfirst]
    rfl
  · rw [honly.get, hlog.get _ rfl, ← hsecond]
    rfl
  · have hloop : loop u (26 + z) = loop s (26 + z) := by
      simp only [loop, hlog.loops]
      rw [hloops]
    simpa [loopUp, hloop] using hup

/-! ## The obligation -/

theorem exec_zcInEdge {s : State} (hrun : engineRuns s = true) (hacc : zcAccepted s = true) :
    exec .zcInEdge s = .next (settle (edgesBack
      { (if s.pins.zcLost then edgeTimed s else zonesFired (edgeTimed s)) with
        pins := { (if s.pins.zcLost then edgeTimed s else zonesFired (edgeTimed s)).pins with zcSeen := some s.time } })) := by
  show execZcInEdge s = _
  unfold execZcInEdge
  rw [if_pos (by simp [hrun, hacc])]
  rfl

theorem exec_zeroCrossTimeout {s : State} (hrun : engineRuns s = true) (hlost : s.pins.zcLost = false) :
    exec .zeroCrossTimeout s = if servedWithin s .zeroCross 255 (ticksS 10)
      then .next (settle (safestopBy (doubleFault (zeroCrossLost s) .zeroCross 255 5 0x0D 0x3930 7) 7 (causeInst .zeroCross 255)))
      else .next (settle (serveBegin (zeroCrossLost s) .zeroCross 255 5 0x0D 0x3930 7)) := by
  show execZeroCrossTimeout s = _
  unfold execZeroCrossTimeout
  rw [if_pos (by simp [hrun, hlost])]
  rfl

/-- What an accepted edge shows. -/
theorem edge_shows (s : State) :
    let t := if s.pins.zcLost then edgeTimed s else zonesFired (edgeTimed s)
    let u := edgesBack { t with pins := { t.pins with zcSeen := some s.time } }
    u.pins.zcSeen = some s.time ∧ u.pins.zcLost = false ∧ u.md = s.md ∧ (∀ t, s.pins.zcSeen = some t → get u 0x3930 3 = (s.time - t) / 1500 % 2 ^ 32) ∧
      (s.pins.zcLost = false → u.loops = s.loops ∧ ∀ z, z < 2 → loopUp s (26 + z) = true → (loop s (26 + z)).broken = false → (loop s (26 + z)).y = 1 →
        s.pins.ilockOpen = false → Output.fuserPulse z (get s 0x3930 4) (get s 0x3930 5) ∈ u.out) ∧
      (s.pins.zcLost = true → serving u .zeroCross 255 = false ∧ ∀ z, z < 2 → loopUp s (26 + z) = true → law s (26 + z) ≠ 0 → (loop u (26 + z)).state = 1) := by
  have htimed := edgeTimed_shown s
  have hget (t : Nat) (ht : s.pins.zcSeen = some t) : get (edgeTimed s) 0x3930 3 = (s.time - t) / 1500 % 2 ^ 32 := by
    rw [edgeTimed_some ht]
    exact get_put_same _ _ _ rfl
  have hpins : (edgeTimed s).pins = s.pins := by rw [htimed.same]
  have hmd : (edgeTimed s).md = s.md := by rw [htimed.same]
  have hloops : (edgeTimed s).loops = s.loops := by rw [htimed.same]
  have hkept (j : Nat) (hj : j = 4 ∨ j = 5) : get (edgeTimed s) 0x3930 j = get s 0x3930 j := htimed.keeps.get (by unfold keyOf; simp; omega) rfl
  have hlaw (n : Nat) (hn : n < 48) : law (edgeTimed s) n = law s n := by
    unfold law
    rw [htimed.keeps.get (by unfold keyOf loopIdx; simp; omega) (isLogIdx_loopIdx hn)]
  generalize edgeTimed s = t at htimed hget hpins hmd hloops hkept hlaw ⊢
  dsimp only
  cases hlost : s.pins.zcLost with
  | true =>
    obtain ⟨hp, hm, hd, hserves, hstarts⟩ := edgesBack_shows (s := { t with pins := { t.pins with zcSeen := some s.time } }) (by rw [hpins]; exact hlost)
    rw [if_pos rfl]
    generalize edgesBack { t with pins := { t.pins with zcSeen := some s.time } } = u at hp hm hd hserves hstarts ⊢
    refine ⟨by rw [hp], by rw [hp], hm.trans hmd, fun r hr => ?_, fun h => (Bool.noConfusion h), fun _ => ⟨hserves, fun z hz hup hl => hstarts z hz ?_ ?_⟩⟩
    · rw [get_dict _ _ rfl, hd, ← get_dict t _ rfl]
      exact hget r hr
    · simpa [loopUp, loop, hloops] using hup
    · exact (hlaw (26 + z) (by omega)).trans_ne hl
  | false =>
    rw [if_neg (by simp)]
    have hsame := zonesFired_same t
    have hfires (z : Nat) (hz : z < 2) (h : zoneOn t z = true) := zonesFired_fires hz h
    generalize zonesFired t = w at hsame hfires ⊢
    have hwpins : w.pins = s.pins := by rw [hsame, hpins]
    rw [edgesBack_none (by rw [hwpins]; exact hlost)]
    refine ⟨rfl, by rw [hwpins]; exact hlost, by rw [hsame]; exact hmd, fun r hr => ?_, fun _ => ⟨by rw [hsame]; exact hloops, fun z hz hup hb hy hi => ?_⟩, fun h => Bool.noConfusion h⟩
    · rw [hsame]
      exact hget r hr
    · have hon : zoneOn t z = true := by
        have hl : loop t (26 + z) = loop s (26 + z) := by simp only [loop, hloops]
        have hu : loopUp t (26 + z) = true := by simpa [loopUp, hl] using hup
        simp [zoneOn, hu, hl, hb, hy, hpins, hi]
      have h := hfires z hz hon
      rwa [hkept 4 (.inl rfl), hkept 5 (.inr rfl)] at h

/-- Settles O57. -/
theorem inputsConvert : Obligations.InputsConvert := by
  unfold Obligations.InputsConvert
  intro s
  dsimp only
  refine ⟨fun hrun => ⟨fun i a b => ?_, ?_, ?_⟩, fun hrun => ⟨fun i v1 v2 => ⟨fun hmode => ?_, fun hmode hbad => ?_, fun hbad hserving hbroken => ?_,
    fun hbad hserving hloops hop => ?_⟩, fun hacc => ?_, fun hacc => ?_, fun hlost => ?_, fun hlost hserved => ?_, fun hlost hserved hop => ?_⟩⟩
  · exact ⟨s, by simp [exec, execConversion, hrun, done], rfl⟩
  · exact ⟨s, by simp [exec, execZcInEdge, hrun, done], rfl⟩
  · exact ⟨s, by simp [exec, execZeroCrossTimeout, hrun, done], rfl⟩
  · exact ⟨s, by simp [exec, execConversion, hmode, done], rfl⟩
  · exact ⟨_, by rw [exec_conversion v1 v2 hrun hmode, if_neg hbad], goodConversion_counted s v1 i.isLt⟩
  · exact ⟨_, by rw [exec_conversion v1 v2 hrun (by rw [hbad.1]; decide), if_pos hbad], takeBroken_first v1 i.isLt hserving hbroken⟩
  · exact ⟨_, by rw [exec_conversion v1 v2 hrun (by rw [hbad.1]; decide), if_pos hbad], takeBroken_again v1 hserving hloops hop i.isLt⟩
  · exact ⟨s, by simp [exec, execZcInEdge, hacc, done], rfl⟩
  · exact ⟨_, exec_zcInEdge hrun hacc, edge_shows s⟩
  · exact ⟨s, by simp [exec, execZeroCrossTimeout, hlost, done], rfl⟩
  · have h := zeroCrossLost_shows s
    have hbegin := serveBegin_sameButLog (zeroCrossLost s) .zeroCross 255 5 0x0D 0x3930 7
    have hserves := serving_serveBegin (zeroCrossLost s) .zeroCross 255 5 0x0D 0x3930 7
    have hexec := exec_zeroCrossTimeout hrun hlost
    rw [hserved, if_neg (by simp)] at hexec
    refine ⟨_, hexec, by rw [hbegin.pins, h.lost], by rw [hbegin.pins, h.seen], (hbegin.get _ rfl).trans h.count, (hbegin.get _ rfl).trans h.first,
      (hbegin.get _ rfl).trans h.second, hserves, fun z hz hup => ?_, hbegin.md.trans h.md⟩
    have hloop : loop (serveBegin (zeroCrossLost s) .zeroCross 255 5 0x0D 0x3930 7) (26 + z) = loop (zeroCrossLost s) (26 + z) := by simp only [loop, hbegin.loops]
    rw [hloop]
    exact h.off z hz hup
  · have h := zeroCrossLost_shows s
    have hdouble := doubleFault_sameButLog (zeroCrossLost s) .zeroCross 255 5 0x0D 0x3930 7
    have hexec := exec_zeroCrossTimeout hrun hlost
    rw [hserved, if_pos rfl] at hexec
    obtain ⟨hstop, hcause, -⟩ := safestopBy_operating (s := doubleFault (zeroCrossLost s) .zeroCross 255 5 0x0D 0x3930 7)
      (by rw [hdouble.md, h.md]; exact hop) 7 (causeInst .zeroCross 255)
    exact ⟨_, hexec, hstop, hcause⟩

end Sys2Proof.Machine

/-! # One evaluation of a loop whose bank selects the evaluation's own counter (R513, R514) -/

namespace Sys2Proof.Machine

/-- Where no automatic row is due by its mode, the end of a command leaves the loops. -/
theorem settle_loops_of_other {s : State} (hready : s.md.mode ≠ .ready) (hrally : s.md.mode ≠ .rally) (hrunout : s.md.mode ≠ .runout) :
    (settle s).loops = s.loops := by
  have row : sheetRow (enterWaiting s) = none := sheetRow_other (by simpa) (by simpa) (by simpa)
  rw [settle_of_none row, enterWaiting_eq]

/-- A block in CALIBRATE whose loop L40 runs a STEP law without a ramp; 3900+n:20 holds 20h, so that its target is the object 3900+n:38, which counts
the loop's evaluations. -/
def counterBank : State :=
  { powered := true, md := { mode := .calibrate },
    dict := [(keyOf (loopIdx 40) 1, 2), (keyOf (loopIdx 40) 8, 0), (keyOf (loopIdx 40) 0x20, 0x20)], loops := [(40, { state := 2 })] }

/-- The set-point of L40 after a command. -/
def setPointAfter (c : Instr) (s : State) : Option Int :=
  match exec c s with
  | .next u => some (loop u 40).sp
  | _ => none

theorem setPointAfter_counterBank : setPointAfter (.loopEvaluation 40) counterBank = some 1 := by decide +kernel

theorem targetOf_counterBank : targetOf counterBank 40 = 0 := by decide +kernel

/-- Refutes O55: the evaluation is counted before the set-point moves, so that a bank that names the counter leads to 1 and not to the target 0 that stood
before. -/
theorem not_loopsEvaluate : ¬ Obligations.LoopsEvaluate := by
  unfold Obligations.LoopsEvaluate
  intro h
  have hruns : (engineRuns counterBank && loopPresent counterBank 40 && law counterBank 40 != 0) = true := by decide +kernel
  have hstate : (loop counterBank 40).state = 2 := by decide +kernel
  have hbroken : (decide (inKind counterBank 40 < 2) && (ain counterBank (inInst counterBank 40)).broken) = false := by decide +kernel
  have hsettle : (decide (inKind counterBank 40 < 2) && (ain counterBank (inInst counterBank 40)).settle) = false := by decide +kernel
  have htrips : decide (getS counterBank 32 (loopIdx 40) 0x12 < measured counterBank 40) = false := by decide +kernel
  have hlimits : get counterBank (loopIdx 40) 0x0B = 0 ∧ get counterBank (loopIdx 40) 0x0D = 0 ∧ get counterBank (loopIdx 40) 8 = 0 := by decide +kernel
  obtain ⟨hsat, hosc, hrate⟩ := hlimits
  obtain ⟨-, hon⟩ := h 40 counterBank
  obtain ⟨-, hstates⟩ := hon hruns fun hspeed => absurd hspeed (by decide)
  obtain ⟨-, -, -, -, hnormal⟩ := hstates (.inr hstate)
  obtain ⟨hplain, -⟩ := hnormal hbroken hsettle htrips rfl
  obtain ⟨t, hexec, -, hsp, -, -, -, -, -, -, -, hmd⟩ := hplain hsat hosc
  have hzero : (loop t 40).sp = 0 := hsp.trans ((if_pos hrate).trans targetOf_counterBank)
  have hmode : t.md.mode = .calibrate := by rw [hmd]; rfl
  have hend : loop (settle t) 40 = loop t 40 := by
    simp only [loop, settle_loops_of_other (s := t) (by simp [hmode]) (by simp [hmode]) (by simp [hmode])]
  have hafter := setPointAfter_counterBank
  simp [setPointAfter, hexec, hend, hzero] at hafter

end Sys2Proof.Machine

/-! # The mailbox (R260, R261) -/

namespace Sys2Proof.Machine

/-- What a read leaves of the state: dictionary, cursors and log block may change. -/
theorem readEffect_only (s : State) (acc : Accessor) (i j : Nat) :
    ∃ d a l, readEffect s acc i j = { s with dict := d, accs := a, log := l } := by
  have hstore : ∀ v, ∃ d a l, store s i j v = { s with dict := d, accs := a, log := l } := fun v => by
    unfold store
    split
    · exact ⟨s.dict, s.accs, _, rfl⟩
    · exact ⟨_, s.accs, s.log, rfl⟩
  unfold readEffect
  split
  · exact ⟨_, s.accs, s.log, rfl⟩
  · split_ifs
    · split
      · exact ⟨s.dict, _, s.log, rfl⟩
      · exact ⟨s.dict, s.accs, s.log, rfl⟩
    · exact ⟨s.dict, s.accs, _, rfl⟩
    · exact ⟨_, s.accs, s.log, rfl⟩
    · exact ⟨_, s.accs, s.log, rfl⟩
    · exact hstore 0
    · exact ⟨s.dict, s.accs, s.log, rfl⟩

/-- A read that is refused has no effect. -/
theorem readDict_refused {acc : Accessor} {i j : Nat} {s : State} (h : (readDict acc i j s).2.1 ≠ 0) : (readDict acc i j s).1 = s := by
  unfold readDict at h ⊢
  dsimp only at h ⊢
  split_ifs at h ⊢ with hcode
  · rfl
  · exact absurd rfl h

/-- What a read leaves of the state, refused or not. -/
theorem readDict_only (acc : Accessor) (i j : Nat) (s : State) :
    ∃ d a l, (readDict acc i j s).1 = { s with dict := d, accs := a, log := l } := by
  unfold readDict
  dsimp only
  split_ifs
  · exact ⟨s.dict, s.accs, s.log, rfl⟩
  · exact readEffect_only s acc _ j

theorem tenant_out (s : State) (o : List Output) (n : Nat) : tenant { s with out := o } n = tenant s n := rfl

/-- A vector only sends something out. -/
theorem vector_only (s : State) (fn vec : Nat) : ∃ l, vector s fn vec = { s with out := l ++ s.out } := by
  unfold vector
  split_ifs
  · exact ⟨[.vector fn vec], rfl⟩
  · exact ⟨[], rfl⟩

/-- The end of an access whose mailbox is still busy: status and code, and nothing else but what is sent out. -/
structure MailboxEnded (fn : Fin 65) (code : Nat) (s t : State) : Prop where
  status : (tenant t (mailboxKey fn)).mbStatus = if code = 0 then 2 else 3
  abort : (tenant t (mailboxKey fn)).mbAbort = code
  len : (tenant t (mailboxKey fn)).mbLen = (tenant s (mailboxKey fn)).mbLen
  window : (tenant t (mailboxKey fn)).mbWindow = (tenant s (mailboxKey fn)).mbWindow
  sent : ∀ o ∈ s.out, o ∈ t.out
  rest : t = { s with tenants := t.tenants, out := t.out }

theorem mailboxEnd_ended {s : State} {fn : Fin 65} (code : Nat) (h : (tenant s (mailboxKey fn)).mbStatus = 1) :
    MailboxEnded fn code s (mailboxEnd s fn code) := by
  unfold mailboxEnd
  rw [if_neg (not_not.mpr h)]
  obtain ⟨l, hl⟩ := vector_only (setTenant s (mailboxKey fn) fun x => { x with mbStatus := if code = 0 then 2 else 3, mbAbort := code }) fn.val
    (if fn.val = 0 then 0 else 1)
  rw [hl]
  have hten : ∀ o, tenant { setTenant s (mailboxKey fn) (fun x => { x with mbStatus := if code = 0 then 2 else 3, mbAbort := code }) with out := o }
      (mailboxKey fn) = { tenant s (mailboxKey fn) with mbStatus := if code = 0 then 2 else 3, mbAbort := code } :=
    fun o => (tenant_out _ o _).trans (tenant_setTenant_same s _ _)
  exact {
    status := by rw [hten]
    abort := by rw [hten]
    len := by rw [hten]
    window := by rw [hten]
    sent := fun o ho => List.mem_append_right _ ho
    rest := rfl }

@[simp] theorem mailboxStart_status (s : State) (fn : Fin 65) (op idx sub len addr : Nat) :
    (tenant (mailboxStart s fn op idx sub len addr) (mailboxKey fn)).mbStatus = 1 := by simp [mailboxStart]

theorem mailboxStart_only (s : State) (fn : Fin 65) (op idx sub len addr : Nat) :
    mailboxStart s fn op idx sub len addr = { s with tenants := (mailboxStart s fn op idx sub len addr).tenants } := rfl

/-- An access that is refused: status 3 with its code, nothing else. -/
theorem mailboxEnd_failed (s : State) (fn : Fin 65) (op idx sub len addr : Nat) {code : Nat} (hcode : code ≠ 0) :
    let u := mailboxEnd (mailboxStart s fn op idx sub len addr) fn code
    (tenant u (mailboxKey fn)).mbStatus = 3 ∧ (tenant u (mailboxKey fn)).mbAbort = code ∧ u = { s with tenants := u.tenants, out := u.out } := by
  have h := mailboxEnd_ended code (mailboxStart_status s fn op idx sub len addr)
  exact ⟨by rw [h.status, if_neg hcode], h.abort, h.rest⟩

/-- The value read is in the data window or on its way to the host. -/
structure MailboxDelivered (fn : Fin 65) (addr : Nat) (d : List Byte) (s t : State) : Prop where
  status : (tenant t (mailboxKey fn)).mbStatus = (tenant s (mailboxKey fn)).mbStatus
  len : (tenant t (mailboxKey fn)).mbLen = d.length
  window : addr = 0 → (tenant t (mailboxKey fn)).mbWindow.take d.length = d
  sent : addr ≠ 0 → ∀ o ∈ hostWrites (mailboxKey fn) addr d, o ∈ t.out
  rest : t = { s with tenants := t.tenants, out := t.out }

theorem mailboxDeliver_delivered (s : State) (fn : Fin 65) (addr : Nat) (d : List Byte) :
    MailboxDelivered fn addr d s (mailboxDeliver s fn addr d) := by
  unfold mailboxDeliver
  split_ifs with haddr
  · exact {
      status := by simp
      len := by simp
      window := fun _ => by simp
      sent := fun h => absurd haddr h
      rest := rfl }
  · have hten : ∀ o, tenant { setTenant s (mailboxKey fn) (fun x => { x with mbLen := d.length }) with out := o } (mailboxKey fn) =
        { tenant s (mailboxKey fn) with mbLen := d.length } := fun o => (tenant_out _ o _).trans (tenant_setTenant_same s _ _)
    exact {
      status := by rw [emitAll, hten]
      len := by rw [emitAll, hten]
      window := fun h => absurd h haddr
      sent := fun _ o ho => List.mem_append_left _ (List.mem_reverse.mpr ho)
      rest := rfl }

/-! ## The course of one access -/

section Access

variable {s : State} {fn : Fin 65} {op idx sub len addr : Nat} {data : List Byte}

theorem exec_mailboxRead_refused (hopen : mailboxOpen s fn = true) (hidle : (tenant s (mailboxKey fn)).mbStatus ≠ 1)
    (hcode : mailboxCode op len addr ≠ 0) : exec (.mailboxRead fn op idx sub ⟨len, addr⟩) s =
      .next (settle (mailboxEnd (mailboxStart s fn op idx sub len addr) fn (mailboxCode op len addr))) := by
  simp [exec, execMailboxRead, hopen, hidle, hcode, done]

theorem exec_mailboxWrite_refused (hopen : mailboxOpen s fn = true) (hidle : (tenant s (mailboxKey fn)).mbStatus ≠ 1)
    (hcode : mailboxCode 2 len addr ≠ 0) : exec (.mailboxWrite fn idx sub len addr data) s =
      .next (settle (mailboxEnd (mailboxStart s fn 2 idx sub len addr) fn (mailboxCode 2 len addr))) := by
  simp [exec, execMailboxWrite, hopen, hidle, hcode, done]

end Access

/-- A reserved operation comes first. -/
theorem mailboxCode_reserved {op : Nat} (len addr : Nat) (h1 : op ≠ 1) (h2 : op ≠ 2) : mailboxCode op len addr = 0x0303 :=
  if_pos ⟨h1, h2⟩

/-- A go while the status is busy is counted. -/
theorem mailbox_busy {s : State} {fn : Fin 65} (hopen : mailboxOpen s fn = true) (hbusy : (tenant s (mailboxKey fn)).mbStatus = 1)
    (op idx sub len addr : Nat) (data : List Byte) :
    ∀ c ∈ [Instr.mailboxRead fn op idx sub ⟨len, addr⟩, .mailboxWrite fn idx sub len addr data],
      exec c s = .next (settle (mailboxBusy s fn)) := by
  simp [exec, execMailboxRead, execMailboxWrite, hopen, hbusy, done]

/-- Settles O33: the course of an access, case by case; what ends it is `mailboxEnd` on the access's effect. -/
theorem mailboxAccess : Obligations.MailboxAccess := by
  unfold Obligations.MailboxAccess
  intro fn op idx sub len addr data s
  refine ⟨fun hopen => ?_, fun hopen hbusy c hc => ⟨_, mailbox_busy hopen hbusy op idx sub len addr data c hc, rfl⟩,
    fun hopen hidle => ⟨fun h1 h2 => ?_, fun hcode => ?_, fun hcode => ?_, fun hcode hread => ?_, fun hcode hread hlen => ?_,
      fun hcode hread hlen => ?_, fun hcode => ?_⟩⟩
  · simp [exec, execMailboxRead, execMailboxWrite, hopen, done]
  · have hcode := mailboxCode_reserved len addr h1 h2
    refine ⟨_, exec_mailboxRead_refused hopen hidle (by rw [hcode]; decide), ?_⟩
    rw [hcode]
    exact mailboxEnd_failed s fn op idx sub len addr (by decide)
  · exact ⟨_, exec_mailboxRead_refused hopen hidle hcode, mailboxEnd_failed s fn op idx sub len addr hcode⟩
  · exact ⟨_, exec_mailboxWrite_refused hopen hidle hcode, mailboxEnd_failed s fn 2 idx sub len addr hcode⟩
  · refine ⟨mailboxEnd (mailboxStart s fn op idx sub len addr) fn _, ?_, mailboxEnd_failed s fn op idx sub len addr hread⟩
    simp only [exec, execMailboxRead, hopen, hidle, hcode, hread, ne_eq, not_true_eq_false, not_false_eq_true, if_true, if_false,
      readDict_refused hread, done]
  · refine ⟨mailboxEnd (mailboxStart s fn op idx sub len addr) fn 0x0202, ?_, mailboxEnd_failed s fn op idx sub len addr (by decide)⟩
    simp only [exec, execMailboxRead, hopen, hidle, hcode, hread, hlen, ne_eq, not_true_eq_false, if_true, if_false, done]
  · obtain ⟨dict, accs, log, hr⟩ := readDict_only (functionAccessor fn) idx sub (mailboxStart s fn op idx sub len addr)
    have hd := mailboxDeliver_delivered (readDict (functionAccessor fn) idx sub (mailboxStart s fn op idx sub len addr)).1 fn addr
      (readDict (functionAccessor fn) idx sub (mailboxStart s fn op idx sub len addr)).2.2
    have hbusy : (tenant (readDict (functionAccessor fn) idx sub (mailboxStart s fn op idx sub len addr)).1 (mailboxKey fn)).mbStatus = 1 := by
      rw [hr]
      exact mailboxStart_status s fn op idx sub len addr
    have he := mailboxEnd_ended 0 (hd.status.trans hbusy)
    refine ⟨mailboxEnd (mailboxDeliver (readDict (functionAccessor fn) idx sub (mailboxStart s fn op idx sub len addr)).1 fn addr
      (readDict (functionAccessor fn) idx sub (mailboxStart s fn op idx sub len addr)).2.2) fn 0, ?_, ?_⟩
    · simp only [exec, execMailboxRead, hopen, hidle, hcode, hread, not_lt.mpr hlen, ne_eq, not_true_eq_false, if_true, if_false, done]
    · have hmd : (readDict (functionAccessor fn) idx sub (mailboxStart s fn op idx sub len addr)).1.md = s.md := by rw [hr]; rfl
      have hsheets : (readDict (functionAccessor fn) idx sub (mailboxStart s fn op idx sub len addr)).1.sheets = s.sheets := by rw [hr]; rfl
      exact ⟨he.status, he.abort, he.len.trans hd.len, fun h => by rw [he.window]; exact hd.window h, fun h o ho => he.sent o (hd.sent h o ho),
        by rw [he.rest, hd.rest], by rw [he.rest, hd.rest]; exact hmd, by rw [he.rest, hd.rest]; exact hsheets⟩
  · intro _ b w hstatus
    have he := mailboxEnd_ended w.2 hstatus
    refine ⟨mailboxEnd w.1 fn w.2, ?_, he.status, he.abort, by rw [he.rest], by rw [he.rest], by rw [he.rest]⟩
    simp only [exec, execMailboxWrite, hopen, hidle, hcode, ne_eq, not_true_eq_false, if_true, if_false, done]
    rfl

end Sys2Proof.Machine

/-! # Doorbells (R262, R270, R271, R287) -/

namespace Sys2Proof.Machine

section Bell

variable {s : State} {t : Fin 64}

theorem bellCommand_absent (kind i : Nat) (h : answering s = false ∨ vfUp s t.val = false) : bellCommand s t.val kind i = s := by
  unfold bellCommand
  rw [if_pos (by rcases h with h | h <;> simp [h])]

theorem bellCommand_doze (kind i : Nat) (hans : answering s = true) (hup : vfUp s t.val = true) (hdoze : s.md.mode = .doze) :
    bellCommand s t.val kind i = beginWake { s with md := { s.md with bells := s.md.bells ++ [(t.val, kind, i)] } } 5 := by
  simp [bellCommand, hans, hup, hdoze]

theorem bellCommand_rings (kind i : Nat) (hans : answering s = true) (hup : vfUp s t.val = true) (hdoze : s.md.mode ≠ .doze)
    (hen : (tenant s t.val).state = .enabled) : bellCommand s t.val kind i =
      if kind = 0 then tailBell s t.val i else if kind = 1 then headBell s t.val i else cancelBell s t.val i := by
  simp [bellCommand, hans, hup, hdoze, ringBell, hen]

end Bell

theorem isLogIdx_tenIdx (t : Fin 64) : isLogIdx (0x5000 + t.val) = false := by simp [isLogIdx]; omega

/-- An invalid doorbell is counted, and nothing else (R262). -/
theorem bellError_refuses (s : State) (t : Fin 64) :
    get (bellError s t.val) (0x5000 + t.val) 0x18 = min (get s (0x5000 + t.val) 0x18 + 1) 65535 ∧ (bellError s t.val).tenants = s.tenants ∧
      (bellError s t.val).sheets = s.sheets ∧ KeepsObjects [keyOf (0x5000 + t.val) 0x18] s (bellError s t.val) := by
  have hlog : SameButLog (sat s (0x5000 + t.val) 0x18) (bellError s t.val) := vector_sameButLog _ _ _
  refine ⟨?_, hlog.tenants, hlog.sheets, keepsObjects_trans (keepsObjects_put s _ _ _ (by simp)) (hlog.keepsObjects _)⟩
  rw [hlog.get _ (isLogIdx_tenIdx t)]
  exact get_put_same s _ _ (isLogIdx_tenIdx t)

/-! ## Completions that waited (R270) -/

theorem writeEntry_compHead (s : State) (t : Nat) (l : List Byte) : (tenant (writeEntry s t l) t).compHead = (tenant s t).compHead := by
  rw [writeEntry, tenant_setTenant_same]
  rfl

theorem signalEntry_compHead (s : State) (t : Nat) : (tenant (signalEntry s t) t).compHead = (tenant s t).compHead := by
  have hset (f : Tenant → Tenant) (hf : ∀ x, (f x).compHead = x.compHead) (c : List Nat) :
      (tenant { setTenant s t f with coalescing := c } t).compHead = (tenant s t).compHead :=
    (congrArg Tenant.compHead (tenant_setTenant_same s t f)).trans (hf _)
  have hvec : ∀ (u : State) (f v : Nat), tenant (vector u f v) t = tenant u t := fun u f v => by
    unfold tenant
    rw [(vector_sameButLog u f v).tenants]
  unfold signalEntry
  dsimp only
  split
  · rw [hvec]
    exact hset (fun x => { x with unsignalled := 0 }) (fun _ => rfl) _
  · exact hset (fun x => { x with unsignalled := (tenant s t).unsignalled + 1 }) (fun _ => rfl) _

theorem writeSignal_compHead (s : State) (t : Nat) (h : Held) : (tenant (writeSignal s t h) t).compHead = (tenant s t).compHead := by
  unfold writeSignal
  dsimp only
  split
  · rw [signalEntry_compHead, writeEntry_compHead]
  · rw [writeEntry_compHead]

/-- The host's pointer is the host's alone. -/
theorem flushHeld_compHead (t n : Nat) (s : State) : (tenant (flushHeld t n s) t).compHead = (tenant s t).compHead := by
  fun_induction flushHeld t n s with
  | case1 => rfl
  | case2 => rfl
  | case3 => rfl
  | case4 n s _ h r _ ih => rw [ih, writeSignal_compHead, tenant_setTenant_same]

/-! ## Cancelled sheets (R23, R271) -/

theorem cancelSheet_committed {s : State} {x : Sheet} (h : x.committed = true) : cancelSheet s x = s := by simp [cancelSheet, h]

/-- A cancelled sheet is gone, or COMMITTED where R23 no longer reaches it. -/
theorem cancelSheet_sheets (s : State) {x : Sheet} (h : x.committed = false) : (cancelSheet s x).sheets = (s.sheets.filter fun y => y.uid != x.uid) ∨
    (cancelSheet s x).sheets = s.sheets.map fun y => if y.uid = x.uid then { y with state := .committed, sluice := y.firstImage } else y := by
  unfold cancelSheet
  rw [if_neg (by simp [h])]
  split
  · exact .inr (overtaken_sheets s x.uid)
  · left
    split <;> simp [removeSheet]

theorem mem_cancelSheet {s : State} {x y : Sheet} (h : y ∈ (cancelSheet s x).sheets) (hy : y.committed = false) (hx : x.committed = false) :
    y ∈ s.sheets ∧ y.uid ≠ x.uid := by
  rcases cancelSheet_sheets s hx with heq | heq
  · rw [heq] at h
    simpa using List.mem_filter.1 h
  · rw [heq] at h
    obtain ⟨z, hz, rfl⟩ := List.mem_map.1 h
    split at hy
    next => exact absurd hy (by simp [Sheet.committed])
    next hne =>
      rw [if_neg hne]
      exact ⟨hz, hne⟩

theorem mem_cancelSheet_of_ne {s : State} {x y : Sheet} (h : y ∈ s.sheets) (hne : y.uid ≠ x.uid) : y ∈ (cancelSheet s x).sheets := by
  by_cases hx : x.committed = true
  · rwa [cancelSheet_committed hx]
  · rcases cancelSheet_sheets s (by simpa using hx) with heq | heq
    · rw [heq]
      exact List.mem_filter.2 ⟨h, by simpa using hne⟩
    · rw [heq]
      exact List.mem_map.2 ⟨y, h, if_neg hne⟩

/-- What stays, not COMMITTED, of a list of cancels had none of their numbers. -/
theorem foldl_cancelSheet_gone (l : List Sheet) (hl : ∀ x ∈ l, x.committed = false) (s : State) :
    ∀ y ∈ (l.foldl cancelSheet s).sheets, y.committed = false → y ∈ s.sheets ∧ ∀ x ∈ l, y.uid ≠ x.uid := by
  induction l generalizing s with
  | nil => exact fun y hy _ => ⟨hy, by simp⟩
  | cons a r ih =>
    intro y hy hc
    obtain ⟨hmem, hrest⟩ := ih (fun x hx => hl x (List.mem_cons_of_mem a hx)) (cancelSheet s a) y hy hc
    obtain ⟨hs, hne⟩ := mem_cancelSheet hmem hc (hl a List.mem_cons_self)
    exact ⟨hs, List.forall_mem_cons.2 ⟨hne, hrest⟩⟩

theorem foldl_cancelSheet_keeps (l : List Sheet) (s : State) {y : Sheet} (h : y ∈ s.sheets) (hne : ∀ x ∈ l, y.uid ≠ x.uid) :
    y ∈ (l.foldl cancelSheet s).sheets := by
  induction l generalizing s with
  | nil => exact h
  | cons a r ih => exact ih _ (mem_cancelSheet_of_ne h (hne a List.mem_cons_self)) fun x hx => hne x (List.mem_cons_of_mem a hx)

/-- The sheets that a cancel reaches: those of the tenant from its slot on, not COMMITTED (R271). -/
def cancelHit (s : State) (t from_ : Nat) : List Sheet :=
  s.sheets.filter fun sh => sh.tenant == t && !sh.committed && decide (from_ ≤ ringDist (sheetRing s t) (oldestSlot s t) sh.ringIndex)

theorem cancelHit_spec {s : State} {t from_ : Nat} {x : Sheet} (h : x ∈ cancelHit s t from_) : x ∈ s.sheets ∧ x.tenant = t ∧ x.committed = false ∧
    from_ ≤ ringDist (sheetRing s t) (oldestSlot s t) x.ringIndex := by
  obtain ⟨hxs, hxq⟩ := List.mem_filter.1 h
  simp only [Bool.and_eq_true, beq_iff_eq, Bool.not_eq_true', decide_eq_true_eq] at hxq
  obtain ⟨⟨hten, hc⟩, hfrom⟩ := hxq
  exact ⟨hxs, hten, hc, hfrom⟩

/-- The state with the slots noted that a cancel reaches before their descriptors come. -/
def cancelNoted (s : State) (t from_ : Nat) : State :=
  let x := tenant s t
  let n := sheetRing s t
  let first := (x.descHead + n - x.outstanding % n) % n
  let coming := ((List.range (x.outstanding + ringDist n x.descHead x.sheetTail)).map fun k => (first + k) % n).filter fun k =>
    decide (from_ ≤ ringDist n (oldestSlot s t) k)
  setTenant s t fun y => { y with cancelSlots := y.cancelSlots.filter (fun k => !coming.contains k) ++ coming }

theorem cancelBell_valid {s : State} {t i : Nat} (hi : i < sheetRing s t)
    (hlen : ringDist (sheetRing s t) (oldestSlot s t) i < ringDist (sheetRing s t) (oldestSlot s t) (tenant s t).sheetTail) :
    cancelBell s t i = moveBufHead ((cancelHit s t (ringDist (sheetRing s t) (oldestSlot s t) i)).foldl cancelSheet
      (cancelNoted s t (ringDist (sheetRing s t) (oldestSlot s t) i))) t := by
  unfold cancelBell
  exact if_neg (by omega)

theorem cancelBell_cancels {s : State} {t i : Nat} (hi : i < sheetRing s t)
    (hlen : ringDist (sheetRing s t) (oldestSlot s t) i < ringDist (sheetRing s t) (oldestSlot s t) (tenant s t).sheetTail) :
    (∀ sh ∈ (cancelBell s t i).sheets, sh.tenant = t → sh.state = .pending ∨ sh.state = .resident →
        ringDist (sheetRing s t) (oldestSlot s t) sh.ringIndex < ringDist (sheetRing s t) (oldestSlot s t) i) ∧
      (∀ sh ∈ s.sheets, (∀ y ∈ s.sheets, y.uid = sh.uid → y.tenant ≠ t) → sh ∈ (cancelBell s t i).sheets) ∧ (cancelBell s t i).md = s.md := by
  rw [cancelBell_valid hi hlen, moveBufHead_sheets]
  refine ⟨fun sh hsh hten hst => ?_, fun sh hsh hother => ?_, ?_⟩
  · have hc : sh.committed = false := by rcases hst with h | h <;> simp [Sheet.committed, h]
    obtain ⟨hmem, hne⟩ := foldl_cancelSheet_gone _ (fun x hx => (cancelHit_spec hx).2.2.1) _ sh hsh hc
    by_contra hfrom
    exact hne sh (List.mem_filter.2 ⟨hmem, by simp [hten, hc]; omega⟩) rfl
  · refine foldl_cancelSheet_keeps _ _ hsh fun x hx heq => ?_
    obtain ⟨hxs, hten, -, -⟩ := cancelHit_spec hx
    exact hother x hxs heq.symm hten
  · refine md_of_modeView ((moveBufHead_modeView _ t).trans ?_)
    exact (foldl_view modeView _ _ _ fun u x _ => cancelSheet_modeView u x).trans rfl

section Pointers

variable {s : State} {t i : Nat}

theorem tailBell_valid (hi : i < sheetRing s t) (hfree : ringDist (sheetRing s t) (tenant s t).sheetTail i ≤
    sheetRing s t - 1 - ringDist (sheetRing s t) (tenant s t).descHead (tenant s t).sheetTail) :
    tailBell s t i = setTenant s t fun y => { y with sheetTail := i } := if_pos ⟨hi, hfree⟩

theorem tailBell_invalid (h : sheetRing s t ≤ i ∨ sheetRing s t - 1 - ringDist (sheetRing s t) (tenant s t).descHead (tenant s t).sheetTail <
    ringDist (sheetRing s t) (tenant s t).sheetTail i) : tailBell s t i = bellError s t := if_neg (by omega)

theorem headBell_valid (hi : i < compRing s t) (hin : ringDist (compRing s t) (tenant s t).compHead i ≤
    ringDist (compRing s t) (tenant s t).compHead (tenant s t).compTail) :
    headBell s t i = flushHeld t (tenant s t).heldDone.length (setTenant s t fun y => { y with compHead := i }) := if_pos ⟨hi, hin⟩

theorem headBell_invalid (h : compRing s t ≤ i ∨ ringDist (compRing s t) (tenant s t).compHead (tenant s t).compTail <
    ringDist (compRing s t) (tenant s t).compHead i) : headBell s t i = bellError s t := if_neg (by omega)

theorem cancelBell_invalid (h : sheetRing s t ≤ i ∨ ringDist (sheetRing s t) (oldestSlot s t) (tenant s t).sheetTail ≤
    ringDist (sheetRing s t) (oldestSlot s t) i) : cancelBell s t i = bellError s t := if_pos h

end Pointers

/-- Settles O32: the three doorbells, by the branches of `bellCommand`; what each does when it rings are the lemmas above. -/
theorem doorbellsRing : Obligations.DoorbellsRing := by
  unfold Obligations.DoorbellsRing
  intro t i s
  have htail : exec (.sheetTailDoorbell t i) s = .next (settle (bellCommand s t.val 0 i)) := rfl
  have hhead : exec (.completionHeadDoorbell t i) s = .next (settle (bellCommand s t.val 1 i)) := rfl
  have hcancel : exec (.cancelDoorbell t i) s = .next (settle (bellCommand s t.val 2 i)) := rfl
  refine ⟨fun habs => ?_, fun hans hup => ⟨fun hdoze hwake => ?_, fun hdoze hen => ?_⟩⟩
  · simp [htail, hhead, hcancel, bellCommand_absent _ _ habs]
  · have hwoken (kind : Nat) := bellCommand_doze (t := t) kind i hans hup hdoze
    have hwakes (kind : Nat) := beginWake_eq (s := { s with md := { s.md with bells := s.md.bells ++ [(t.val, kind, i)] } }) hdoze hwake 5
    simp only [List.forall_mem_cons, List.not_mem_nil, false_imp_iff, implies_true, and_true]
    exact ⟨⟨_, htail, by rw [hwoken, hwakes]; exact ⟨rfl, rfl, rfl⟩⟩, ⟨_, hhead, by rw [hwoken, hwakes]; exact ⟨rfl, rfl, rfl⟩⟩,
      ⟨_, hcancel, by rw [hwoken, hwakes]; exact ⟨rfl, rfl, rfl⟩⟩⟩
  · have htail' : exec (.sheetTailDoorbell t i) s = .next (settle (tailBell s t.val i)) := by rw [htail, bellCommand_rings 0 i hans hup hdoze hen]; rfl
    have hhead' : exec (.completionHeadDoorbell t i) s = .next (settle (headBell s t.val i)) := by
      rw [hhead, bellCommand_rings 1 i hans hup hdoze hen]; rfl
    have hcancel' : exec (.cancelDoorbell t i) s = .next (settle (cancelBell s t.val i)) := by
      rw [hcancel, bellCommand_rings 2 i hans hup hdoze hen]; rfl
    have herr := bellError_refuses s t
    refine ⟨fun hi hfree => ⟨_, htail', ?_⟩, fun hbad => ⟨_, htail', by rw [tailBell_invalid hbad]; exact herr⟩, fun hi hin => ⟨_, hhead', ?_⟩,
      fun hbad => ⟨_, hhead', by rw [headBell_invalid hbad]; exact herr⟩, fun hi hlen => ⟨_, hcancel', cancelBell_cancels hi hlen⟩,
      fun hbad => ⟨_, hcancel', by rw [cancelBell_invalid hbad]; exact herr⟩⟩
    · rw [tailBell_valid hi hfree]
      exact ⟨tenant_setTenant_same s _ _, fun k hk => tenant_setTenant_other s _ hk, rfl⟩
    · rw [headBell_valid hi hin]
      refine ⟨by rw [flushHeld_compHead, tenant_setTenant_same], by simp, md_of_modeView (by simp), fun hnone => ?_⟩
      have hflush : flushHeld t.val (tenant s t.val).heldDone.length (setTenant s t.val fun y => { y with compHead := i }) =
        setTenant s t.val fun y => { y with compHead := i } := by rw [hnone]; rfl
      rw [hflush]
      exact ⟨tenant_setTenant_same s _ _, rfl⟩

end Sys2Proof.Machine

/-! # The measurement of a patch (R365 to R370) -/

namespace Sys2Proof.Machine

/-- Nothing but one station, the log block, the network's queues and what has been sent out differs. -/
structure AtStation (n : Nat) (s t : State) : Prop where
  rest : t = { s with stations := t.stations, log := t.log, net := t.net, out := t.out }
  others : ∀ k, k ≠ n → station t k = station s k

theorem AtStation.refl (n : Nat) (s : State) : AtStation n s s := ⟨rfl, fun _ _ => rfl⟩

theorem AtStation.trans {n : Nat} {s t u : State} (h : AtStation n s t) (k : AtStation n t u) : AtStation n s u :=
  ⟨by rw [k.rest, h.rest], fun b hb => (k.others b hb).trans (h.others b hb)⟩

theorem AtStation.md {n : Nat} {s t : State} (h : AtStation n s t) : t.md = s.md := by rw [h.rest]
theorem AtStation.time {n : Nat} {s t : State} (h : AtStation n s t) : t.time = s.time := by rw [h.rest]
theorem AtStation.dict {n : Nat} {s t : State} (h : AtStation n s t) : t.dict = s.dict := by rw [h.rest]
theorem AtStation.sheets {n : Nat} {s t : State} (h : AtStation n s t) : t.sheets = s.sheets := by rw [h.rest]
theorem AtStation.armed {n : Nat} {s t : State} (h : AtStation n s t) : t.armed = s.armed := by rw [h.rest]
theorem AtStation.stagers {n : Nat} {s t : State} (h : AtStation n s t) : t.stagers = s.stagers := by rw [h.rest]

theorem atStation_setStation (s : State) (n : Nat) (f : Station → Station) : AtStation n s (setStation s n f) :=
  ⟨rfl, fun _ hk => station_setStation_other s f hk⟩

theorem setStation_rest {s t : State} (n : Nat) (f : Station → Station)
    (h : t = { s with dict := t.dict, stations := t.stations, log := t.log, net := t.net, out := t.out }) : setStation t n f =
      { s with dict := t.dict, stations := (setStation t n f).stations, log := t.log, net := t.net, out := t.out } := by
  conv_lhs => rw [h]
  rfl

theorem station_of_sameButLog {s t : State} (h : SameButLog s t) (k : Nat) : station t k = station s k := by simp [station, h.stations]

theorem SameButLog.atStation {s t : State} (h : SameButLog s t) (n : Nat) : AtStation n s t :=
  ⟨by rw [h], fun k _ => station_of_sameButLog h k⟩

theorem foldl_atStation {α : Type} {n : Nat} {f : State → α → State} (h : ∀ u x, AtStation n u (f u x)) (l : List α) (s : State) :
    AtStation n s (l.foldl f s) := by
  induction l generalizing s with
  | nil => exact .refl n s
  | cons a r ih => exact (h s a).trans (ih _)

/-! ## What a measurement keeps -/

/-- The value that a chevron gives its entry, clipped (R369). -/
def entryOf (s : State) (n : Nat) (c : Reading) : Int :=
  clamp (-2047) 2047 (keptEntry s n (1 + 12 * c.beam + c.facet) - roundQ (scanPhases s n c.scan).1 ((scanPhases s n c.scan).2 * 2 ^ get s 0x3800 0x0A))

theorem keepScan_atStation (s : State) (n : Nat) (c : Reading) : AtStation n s (keepScan s n c) := by
  unfold keepScan
  dsimp only
  split
  · exact atStation_setStation s n _
  · exact (atStation_setStation s n _).trans ((log_sameButLog _ _ _ _ _ _ _ _ _).atStation n)

theorem keepScan_entry (s : State) (n : Nat) (c : Reading) :
    tabFind (station (keepScan s n c) n).corrections (1 + 12 * c.beam + c.facet) = some (entryOf s n c) := by
  have hset : tabFind (station (setStation s n fun x =>
      { x with corrections := tabSet x.corrections (1 + 12 * c.beam + c.facet) (entryOf s n c) }) n).corrections
      (1 + 12 * c.beam + c.facet) = some (entryOf s n c) := by rw [station_setStation_same, tabFind_tabSet_same]
  unfold keepScan
  dsimp only
  split
  · exact hset
  · rw [station_of_sameButLog (log_sameButLog _ _ _ _ _ _ _ _ _)]
    exact hset

/-- The readings of a patch: one for every chevron with exactly one edge in each of its windows (R366, R367). -/
def patchGood (s : State) (marks : List Chevron) : List Reading := (marks.filter fun c => sensorOn s c.sensor.val).filterMap (readingOf s)

/-- The chevrons of enabled sensors that give none. -/
def patchBad (s : State) (marks : List Chevron) : Nat := (marks.filter fun c => sensorOn s c.sensor.val).length - (patchGood s marks).length

/-- The mean process error of a patch. -/
def patchMean (s : State) (l : List Reading) : Int := meanI ((readSensors s l).map fun k => sensorProcess l k)

/-- The state with the discarded chevrons counted, and with the measurement shown. -/
def patchCounted (s : State) (n : Nat) (marks : List Chevron) : State := satBy 16 s (0x3808 + n) 5 (patchBad s marks)

def patchShown (s : State) (n : Nat) (marks : List Chevron) : State :=
  let t := patchCounted s n marks
  showMeasurement t n (patchGood s marks) (patchMean t (patchGood s marks)) (skewOf t n (patchGood s marks))

/-- The objects of a measurement (R366, R367, R369). -/
def patchKeys (n : Nat) : List Nat :=
  [keyOf (0x3808 + n) 1, keyOf (0x3808 + n) 2, keyOf (0x3808 + n) 3, keyOf (0x3808 + n) 4, keyOf (0x3808 + n) 5]

theorem getD_lt_four {l : List Nat} (hl : ∀ k ∈ l, k < 4) : l.getD 0 0 < 4 := by
  cases l with
  | nil => decide
  | cons a r => exact hl a List.mem_cons_self

/-- Two ways to pick one of four that agree below four pick the same. -/
theorem foldl_pick {f g : Nat → Nat → Nat} (h : ∀ b k, b < 4 → k < 4 → f b k = g b k ∧ g b k < 4) {l : List Nat} (hl : ∀ k ∈ l, k < 4) {b : Nat}
    (hb : b < 4) : l.foldl f b = l.foldl g b ∧ l.foldl g b < 4 := by
  induction l generalizing b with
  | nil => exact ⟨rfl, hb⟩
  | cons a r ih =>
    obtain ⟨heq, hlt⟩ := h b a hb (hl a List.mem_cons_self)
    rw [List.foldl_cons, List.foldl_cons, heq]
    exact ih (fun k hk => hl k (List.mem_cons_of_mem a hk)) hlt

section Patch

variable {s t : State} {n : Nat} (hn : n < 6) (h : KeepsObjects (patchKeys n) s t)
include hn h

/-- No object outside a measurement's own differs. -/
theorem get_of_patch {i : Nat} (j : Nat) (hi : i < 0x3808 ∧ j < 256 ∨ 0x3810 ≤ i) (hlog : isLogIdx i = false) : get t i j = get s i j :=
  h.get (by simp [patchKeys, keyOf]; omega) hlog

theorem sensorPos_of_patch {k : Nat} (hk : k < 4) : sensorPos t k = sensorPos s k := get_of_patch hn h _ (.inl ⟨by decide, by omega⟩) (by decide)

theorem readSensors_of_patch (l : List Reading) : readSensors t l = readSensors s l :=
  List.filter_congr fun k hk => by simp [sensorOn, sensorPos_of_patch hn h (List.mem_range.1 hk)]

theorem geo_of_patch (j : Nat) (hj : j < 256) : get t (geoIdx n) j = get s (geoIdx n) j :=
  get_of_patch hn h j (.inl ⟨by unfold geoIdx; omega, hj⟩) (by simp [isLogIdx, geoIdx]; omega)

theorem scanPhases_of_patch (e : Int) : scanPhases t n e = scanPhases s n e := by
  simp only [scanPhases, pixelPeriod, scanRes, geo_of_patch hn h 8 (by decide), geo_of_patch hn h 3 (by decide)]

theorem processLines_of_patch (m : Int) : processLines t n m = processLines s n m := by
  simp only [processLines, processRes, geo_of_patch hn h 4 (by decide), get_of_patch hn h (i := 0x3800) 0x0A (.inl ⟨by decide, by decide⟩) (by decide)]

theorem skewOf_of_patch (l : List Reading) : skewOf t n l = skewOf s n l := by
  have hks : ∀ k ∈ readSensors s l, k < 4 := fun k hk => List.mem_range.1 (List.mem_filter.1 hk).1
  have hfirst : (readSensors s l).getD 0 0 < 4 := getD_lt_four hks
  have hpos : ∀ k, k < 4 → sensorPos t k = sensorPos s k := fun k hk => sensorPos_of_patch hn h hk
  have hleft : leftmost t (readSensors s l) = leftmost s (readSensors s l) ∧ leftmost s (readSensors s l) < 4 :=
    foldl_pick (fun b k hb hk => by
      rw [hpos b hb, hpos k hk]
      exact ⟨rfl, by split <;> assumption⟩) hks hfirst
  have hright : rightmost t (readSensors s l) = rightmost s (readSensors s l) ∧ rightmost s (readSensors s l) < 4 :=
    foldl_pick (fun b k hb hk => by
      rw [hpos b hb, hpos k hk]
      exact ⟨rfl, by split <;> assumption⟩) hks hfirst
  simp only [skewOf, readSensors_of_patch hn h, hleft.1, hright.1, hpos _ hleft.2, hpos _ hright.2, pixelsPerLine, processRes, geo_of_patch hn h 6 (by decide),
    geo_of_patch hn h 4 (by decide)]

theorem patchMean_of_patch (l : List Reading) : patchMean t l = patchMean s l := by rw [patchMean, readSensors_of_patch hn h, patchMean]

theorem keptEntry_of_patch (hst : station t n = station s n) (sub : Nat) : keptEntry t n sub = keptEntry s n sub := by
  unfold keptEntry
  rw [hst, getS, get_of_patch hn h sub (.inr (by omega)) (by simp [isLogIdx]; omega), getS]

theorem entryOf_of_patch (hst : station t n = station s n) (c : Reading) : entryOf t n c = entryOf s n c := by
  rw [entryOf, keptEntry_of_patch hn h hst, scanPhases_of_patch hn h, get_of_patch hn h (i := 0x3800) 0x0A (.inl ⟨by decide, by decide⟩) (by decide), entryOf]

end Patch

theorem isLogIdx_patch {n : Nat} (hn : n < 6) : isLogIdx (0x3808 + n) = false := by simp [isLogIdx]; omega

theorem patchCounted_keeps (s : State) (n : Nat) (marks : List Chevron) : KeepsObjects (patchKeys n) s (patchCounted s n marks) :=
  keepsObjects_put s _ _ _ (by simp [patchKeys])

theorem patchShown_keeps (s : State) (n : Nat) (marks : List Chevron) : KeepsObjects (patchKeys n) s (patchShown s n marks) := by
  refine keepsObjects_trans (patchCounted_keeps s n marks) ?_
  refine keepsObjects_trans (keepsObjects_put _ _ _ _ ?_) (keepsObjects_trans (keepsObjects_put _ _ _ _ ?_)
    (keepsObjects_trans (keepsObjects_put _ _ _ _ ?_) (keepsObjects_put _ _ _ _ ?_))) <;> simp [patchKeys]

theorem patchCounted_bad {n : Nat} (hn : n < 6) (s : State) (marks : List Chevron) :
    get (patchCounted s n marks) (0x3808 + n) 5 = min (get s (0x3808 + n) 5 + patchBad s marks) 65535 := get_put_same s _ _ (isLogIdx_patch hn)

theorem patchCounted_count (s : State) (n : Nat) (marks : List Chevron) : get (patchCounted s n marks) (0x3808 + n) 4 = get s (0x3808 + n) 4 :=
  get_put_other s _ (by unfold keyOf; omega)

theorem showMeasurement_rest (s : State) (n : Nat) (l : List Reading) (mean skew : Int) :
    showMeasurement s n l mean skew = { s with dict := (showMeasurement s n l mean skew).dict } := rfl

theorem patchShown_rest (s : State) (n : Nat) (marks : List Chevron) : patchShown s n marks = { s with dict := (patchShown s n marks).dict } := by
  unfold patchShown
  dsimp only
  conv_lhs => rw [showMeasurement_rest]
  rfl

/-- The objects of a measurement as they are shown (R366, R367, R369). -/
structure PatchShown (s : State) (n : Nat) (marks : List Chevron) (t : State) : Prop where
  bad : get t (0x3808 + n) 5 = min (get s (0x3808 + n) 5 + patchBad s marks) 65535
  count : get t (0x3808 + n) 4 = (get s (0x3808 + n) 4 + 1) % 2 ^ 32
  mean : getS t 32 (0x3808 + n) 1 = sInt 32 (sImg 32 (patchMean s (patchGood s marks)))
  rest : t = { s with dict := t.dict }

theorem patchShown_shows {n : Nat} (hn : n < 6) (s : State) (marks : List Chevron) : PatchShown s n marks (patchShown s n marks) := by
  have hne : ∀ {a b : Nat}, a ≠ b → keyOf (0x3808 + n) a ≠ keyOf (0x3808 + n) b := fun hab h => hab (by unfold keyOf at h; omega)
  have hlog := isLogIdx_patch hn
  have hmean := patchMean_of_patch hn (patchCounted_keeps s n marks) (patchGood s marks)
  have hbad := patchCounted_bad hn s marks
  have hcount := patchCounted_count s n marks
  have hrest := patchShown_rest s n marks
  unfold patchShown at hrest ⊢
  dsimp only at hrest ⊢
  rw [hmean] at hrest ⊢
  generalize patchCounted s n marks = t at hbad hcount hrest ⊢
  refine ⟨?_, ?_, ?_, hrest⟩ <;> unfold showMeasurement putS bump wrapBy
  · rw [get_put_other _ _ (hne (by decide)), get_put_other _ _ (hne (by decide)), get_put_other _ _ (hne (by decide)), get_put_other _ _ (hne (by decide)),
      hbad]
  · rw [get_put_other _ _ (hne (by decide)), get_put_other _ _ (hne (by decide)), get_put_other _ _ (hne (by decide)), get_put_same _ _ _ hlog, hcount]
  · rw [getS, get_put_other _ _ (hne (by decide)), get_put_other _ _ (hne (by decide)), get_put_same _ _ _ hlog]
/-- The chevrons' corrections kept, one after the other. -/
def patchScans (s : State) (n : Nat) (marks : List Chevron) : State := (patchGood s marks).foldl (fun u c => keepScan u n c) (patchShown s n marks)

theorem patchScans_atStation (s : State) (n : Nat) (marks : List Chevron) : AtStation n (patchShown s n marks) (patchScans s n marks) :=
  foldl_atStation (fun u c => keepScan_atStation u n c) _ _

theorem keepPatch_none {s : State} {n : Nat} {marks : List Chevron} (h : patchGood s marks = []) : keepPatch s n marks = patchCounted s n marks := by
  unfold keepPatch
  exact if_pos (by rw [show List.filterMap _ _ = patchGood s marks from rfl, h]; rfl)

theorem keepPatch_some {s : State} {n : Nat} {marks : List Chevron} (h : patchGood s marks ≠ []) : keepPatch s n marks =
    setStation (patchScans s n marks) n fun x => { x with
      corrProcess := -(processLines (patchScans s n marks) n (patchMean (patchCounted s n marks) (patchGood s marks)))
      corrSkew := skewOf (patchCounted s n marks) n (patchGood s marks) } := by
  unfold keepPatch
  exact if_neg (by rw [show List.filterMap _ _ = patchGood s marks from rfl]; simpa using h)

/-- What a measurement leaves (R366 to R369). -/
structure PatchKept (s : State) (n : Nat) (marks : List Chevron) (u : State) : Prop where
  bad : get u (0x3808 + n) 5 = min (get s (0x3808 + n) 5 + patchBad s marks) 65535
  count : get u (0x3808 + n) 4 = if patchGood s marks = [] then get s (0x3808 + n) 4 else (get s (0x3808 + n) 4 + 1) % 2 ^ 32
  keeps : KeepsObjects (patchKeys n) s u
  others : ∀ k, k ≠ n → station u k = station s k
  rest : u = { s with dict := u.dict, stations := u.stations, log := u.log, net := u.net, out := u.out }
  quiet : patchGood s marks = [] → u.stations = s.stations
  shown : patchGood s marks ≠ [] → getS u 32 (0x3808 + n) 1 = sInt 32 (sImg 32 (patchMean s (patchGood s marks))) ∧
    (station u n).corrProcess = -(processLines s n (patchMean s (patchGood s marks))) ∧ (station u n).corrSkew = skewOf s n (patchGood s marks)
  entry : ∀ c, patchGood s marks = [c] → tabFind (station u n).corrections (1 + 12 * c.beam + c.facet) = some (entryOf s n c)

theorem keepPatch_kept {n : Nat} (hn : n < 6) (s : State) (marks : List Chevron) : PatchKept s n marks (keepPatch s n marks) := by
  have hlog := isLogIdx_patch hn
  by_cases h : patchGood s marks = []
  · have hfour := patchCounted_count s n marks
    rw [keepPatch_none h]
    exact {
      bad := patchCounted_bad hn s marks
      count := by rw [if_pos h, hfour]
      keeps := patchCounted_keeps s n marks
      others := fun _ _ => rfl
      rest := rfl
      quiet := fun _ => rfl
      shown := fun hne => absurd h hne
      entry := fun c hc => by rw [h] at hc; exact absurd hc (by simp) }
  · have hshow := patchShown_shows hn s marks
    have hat := patchScans_atStation s n marks
    have hkeep : KeepsObjects (patchKeys n) s (patchScans s n marks) :=
      keepsObjects_trans (patchShown_keeps s n marks) (keepsObjects_of_dict_eq hat.dict)
    have hget : ∀ j, get (patchScans s n marks) (0x3808 + n) j = get (patchShown s n marks) (0x3808 + n) j := fun j => get_congr hat.dict j hlog
    have hst : ∀ k, station (patchShown s n marks) k = station s k := fun k => by rw [hshow.rest]; rfl
    rw [keepPatch_some h]
    exact {
      bad := by rw [get_setStation, hget, hshow.bad]
      count := by rw [get_setStation, hget, hshow.count, if_neg h]
      keeps := hkeep
      others := fun k hk => by rw [station_setStation_other _ _ hk, hat.others k hk, hst]
      rest := setStation_rest _ _ (by rw [hat.rest, hshow.rest])
      quiet := fun h' => absurd h' h
      shown := fun _ => by
        refine ⟨by rw [getS, get_setStation, hget]; exact hshow.mean, ?_, ?_⟩
        · rw [station_setStation_same, processLines_of_patch hn hkeep, patchMean_of_patch hn (patchCounted_keeps s n marks)]
        · rw [station_setStation_same, skewOf_of_patch hn (patchCounted_keeps s n marks)]
      entry := fun c hc => by
        have hscan : patchScans s n marks = keepScan (patchShown s n marks) n c := by rw [patchScans, hc]; rfl
        rw [station_setStation_same, hscan, keepScan_entry, entryOf_of_patch hn (patchShown_keeps s n marks) (hst n)] }

/-! ## What RALLY arms (R370) -/

theorem stageRegistration_stages {s : State} {n : Nat} (harmed : 7 + n ∉ s.armed) (hstager : ∀ p ∈ s.stagers, p.1 ≠ 7 + n) :
    stageRegistration s n = setStation (dropCorrections
      { s with staged := (regWrites s n).foldl (fun m p => tabSet m p.1 p.2) s.staged, armed := (7 + n) :: s.armed } n) n
      fun x => { x with lastArm := some s.time } := by
  have hany : (s.stagers.any fun p => p.1 == 7 + n) = false := by simpa using hstager
  unfold stageRegistration
  rw [if_neg (by simpa using harmed), if_neg (by simp [hany])]

/-- A group of the registration is taken, or rejected, and its station's loop stays as it is. -/
theorem takeArmed_registration (s : State) {n : Nat} (hn : n < 6) : (takeArmed s (7 + n)).stations = s.stations ∧ (takeArmed s (7 + n)).md = s.md := by
  unfold takeArmed
  split
  · have htaken : takeGroup s (7 + n) = copyGroup s (7 + n) := by
      unfold takeGroup groupTaken
      rw [if_neg (by omega), if_neg (by omega), if_neg (by omega)]
    rw [htaken]
    exact ⟨rfl, rfl⟩
  · refine ⟨?_, md_of_modeView (rejectGroup_modeView s _)⟩
    exact (log_sameButLog _ _ _ _ _ _ _ _ _).stations.trans rfl

theorem armRegistration_arms {s : State} {n : Nat} (hn : n < 6) (harmed : 7 + n ∉ s.armed) (hstager : ∀ p ∈ s.stagers, p.1 ≠ 7 + n) :
    (station (armRegistration s n) n).lastArm = some s.time ∧ (station (armRegistration s n) n).corrections = [] ∧
      (anyOnPath s = true → 7 + n ∈ (armRegistration s n).armed) ∧ (armRegistration s n).md = s.md := by
  have hstage := stageRegistration_stages harmed hstager
  have hat : (station (stageRegistration s n) n).lastArm = some s.time ∧ (station (stageRegistration s n) n).corrections = [] := by
    rw [hstage, station_setStation_same, dropCorrections, station_setStation_same]
    exact ⟨rfl, rfl⟩
  have hin : 7 + n ∈ (stageRegistration s n).armed := by rw [hstage]; exact List.mem_cons_self
  have hpath : anyOnPath (stageRegistration s n) = anyOnPath s := by rw [hstage]; rfl
  have hmd : (stageRegistration s n).md = s.md := by rw [hstage]; rfl
  unfold armRegistration
  dsimp only
  split
  next hcond =>
    obtain ⟨hstations, htaken⟩ := takeArmed_registration (stageRegistration s n) hn
    have hst : station (takeArmed (stageRegistration s n) (7 + n)) n = station (stageRegistration s n) n := by simp [station, hstations]
    rw [hst]
    refine ⟨hat.1, hat.2, fun hon => ?_, htaken.trans hmd⟩
    rw [hpath, hon] at hcond
    simp at hcond
  next => exact ⟨hat.1, hat.2, fun _ => hin, hmd⟩

/-! ## The command -/

section Command

variable {s : State} {st : Fin 6} {marks : List Chevron}

/-- Whether a measurement is taken in the mode (R366, R370). -/
def patchRuns (s : State) (n : Nat) : Bool :=
  present s n && (s.md.mode == .calibrate || s.md.mode == .runout || s.md.mode == .rally && flag s 0x3800 8)

theorem exec_patch_idle (h : patchRuns s st.val = false) : exec (.patchMeasurement st marks) s = .next (settle s) := by
  simp only [exec, execPatchMeasurement]
  unfold patchRuns at h
  cases hp : present s st.val <;> cases hm : s.md.mode <;> simp_all [done]

theorem exec_patch_kept (h : patchRuns s st.val = true) (hno : s.md.mode ≠ .rally ∨ rallyArms (keepPatch s st.val marks) st.val = false) :
    exec (.patchMeasurement st marks) s = .next (settle (keepPatch s st.val marks)) := by
  simp only [exec, execPatchMeasurement]
  unfold patchRuns at h
  cases hp : present s st.val <;> cases hm : s.md.mode <;> simp_all [done]

theorem exec_patch_arms (h : patchRuns s st.val = true) (hm : s.md.mode = .rally) (harms : rallyArms (keepPatch s st.val marks) st.val = true) :
    exec (.patchMeasurement st marks) s = .next (settle (armRegistration (keepPatch s st.val marks) st.val)) := by
  unfold patchRuns at h
  simp only [exec, execPatchMeasurement, hm]
  simp_all [done]

end Command

/-- Settles O42: what a measurement keeps is `keepPatch_kept`, what RALLY arms `armRegistration_arms`. -/
theorem patchesMeasured : Obligations.PatchesMeasured := by
  unfold Obligations.PatchesMeasured
  intro st marks s
  have hn := st.isLt
  have h := keepPatch_kept hn s marks
  refine ⟨fun hidle => ⟨s, exec_patch_idle hidle, rfl⟩, fun hruns hno => ⟨_, exec_patch_kept hruns hno, h.bad, h.count, h.keeps, h.others, ?_, ?_, h.quiet,
    h.shown, h.entry⟩, fun hruns hm harms harmed hstager => ⟨_, exec_patch_arms hruns hm harms, ?_⟩⟩
  · rw [h.rest]
  · rw [h.rest]
  · have harmed' : (keepPatch s st.val marks).armed = s.armed := by rw [h.rest]
    have hstager' : (keepPatch s st.val marks).stagers = s.stagers := by rw [h.rest]
    have htime : (keepPatch s st.val marks).time = s.time := by rw [h.rest]
    have hpath : anyOnPath (keepPatch s st.val marks) = anyOnPath s := by rw [h.rest]; rfl
    have hmd : (keepPatch s st.val marks).md = s.md := by rw [h.rest]
    obtain ⟨hlast, hdrop, hgroup, hmode⟩ := armRegistration_arms hn (s := keepPatch s st.val marks) (by rwa [harmed']) (by rwa [hstager'])
    exact ⟨hlast.trans (congrArg some htime), hdrop, fun hon => hgroup (hpath.trans hon), hmode.trans hmd⟩

end Sys2Proof.Machine

/-! # The close of a tooth window (R348, R350 to R354, R429 to R431) -/

namespace Sys2Proof.Machine

theorem isLogIdx_trkIdx {k : Nat} (hk : k < 18) : isLogIdx (trkIdx k) = false := by simp [isLogIdx, trkIdx]; omega

theorem tracker_congr {s t : State} (h : t.trackers = s.trackers) (k : Nat) : tracker t k = tracker s k := by simp [tracker, h]

/-! ## What leaves the trackers -/

/-- Trackers, the objects of one of them, press time and second serves are as before. -/
structure TrackRest (k : Nat) (s t : State) : Prop where
  trackers : t.trackers = s.trackers
  time : t.time = s.time
  serves : t.log.serves = s.log.serves
  keys : ∀ j, j < 256 → get t (trkIdx k) j = get s (trkIdx k) j

theorem TrackRest.refl (k : Nat) (s : State) : TrackRest k s s := ⟨rfl, rfl, rfl, fun _ _ => rfl⟩

theorem TrackRest.trans {k : Nat} {s t u : State} (h : TrackRest k s t) (g : TrackRest k t u) : TrackRest k s u :=
  ⟨g.trackers.trans h.trackers, g.time.trans h.time, g.serves.trans h.serves, fun j hj => (g.keys j hj).trans (h.keys j hj)⟩

theorem TrackRest.ite {k : Nat} {s a b : State} {c : Prop} [Decidable c] (ha : TrackRest k s a) (hb : TrackRest k s b) :
    TrackRest k s (if c then a else b) := by split <;> assumption

theorem TrackRest.tracker {k : Nat} {s t : State} (h : TrackRest k s t) (j : Nat) : Machine.tracker t j = Machine.tracker s j := tracker_congr h.trackers j

theorem trackRest_of_dict {k : Nat} (hk : k < 18) {s t : State} (htr : t.trackers = s.trackers) (htime : t.time = s.time)
    (hserves : t.log.serves = s.log.serves) (hdict : t.dict = s.dict) : TrackRest k s t :=
  ⟨htr, htime, hserves, fun j _ => get_congr hdict j (isLogIdx_trkIdx hk)⟩

theorem SameButLog.trackRest {s t : State} (h : SameButLog s t) {k : Nat} (hk : k < 18) (hserves : serveList t = serveList s) : TrackRest k s t :=
  ⟨h.trackers, h.time, serves_of_serveList hserves, fun j _ => h.get j (isLogIdx_trkIdx hk)⟩

theorem trackRest_log {k : Nat} (hk : k < 18) (s : State) (cls kind src inst i j : Nat) (serial : Option Nat) (detail : Nat) :
    TrackRest k s (log s cls kind src inst i j serial detail) := (log_sameButLog _ _ _ _ _ _ _ _ _).trackRest hk (log_serveList _ _ _ _ _ _ _ _ _)

theorem trackRest_logEvent {k : Nat} (hk : k < 18) (s : State) (cls src inst i j : Nat) : TrackRest k s (logEvent s cls src inst i j) :=
  trackRest_log hk _ _ _ _ _ _ _ _ _

/-- Objects at other indices are no tracker's. -/
theorem trackRest_put {k i j : Nat} (s : State) (v : Nat) (hi : ∀ a, a < 256 → keyOf (trkIdx k) a ≠ keyOf i j) : TrackRest k s (put s i j v) :=
  ⟨rfl, rfl, rfl, fun a ha => get_put_other s v (hi a ha)⟩

theorem trackRest_putMotor {k m j : Nat} (hk : k < 18) (s : State) (v : Nat) : TrackRest k s (put s (motIdx m) j v) :=
  trackRest_put s v fun a ha => by unfold keyOf trkIdx motIdx; omega

theorem trackRest_putWatch {k j : Nat} (hk : k < 18) (s : State) (v : Nat) : TrackRest k s (put s 0x2520 j v) :=
  trackRest_put s v fun a ha => by unfold keyOf trkIdx; omega

theorem trackRest_watch {k : Nat} (hk : k < 18) (s : State) (sub old v : Nat) : TrackRest k s (watch true s 0x2520 sub old v) := by
  have hput : ∀ (u : State) (j v : Nat), TrackRest k u (put u 0x2520 j v) := fun u j v => trackRest_putWatch hk u v
  unfold watch
  dsimp only
  split
  · split
    · exact (hput _ _ _).trans ((hput _ _ _).trans ((hput _ _ _).trans (hput _ _ _)))
    · exact (hput _ _ _).trans ((hput _ _ _).trans ((hput _ _ _).trans ((hput _ _ _).trans
        ((noticeAlone_sameButLog _ _ _ _).trackRest hk (noticeAlone_serveList _ _ _ _)))))
  · exact (hput _ _ _).trans (hput _ _ _)

theorem trackRest_setSlots {k : Nat} (hk : k < 18) (s : State) (l : Tab Event) : TrackRest k s (setSlots s l) := by
  have hslots : TrackRest k s { s with slots := l } := trackRest_of_dict hk rfl rfl rfl rfl
  have hwatch := trackRest_watch hk { s with slots := l } 2 s.slots.length l.length
  unfold setSlots
  exact hslots.trans hwatch

theorem trackRest_freeFired {k : Nat} (hk : k < 18) (s : State) : TrackRest k s (freeFired s) := trackRest_setSlots hk s _

theorem trackRest_setStation {k : Nat} (hk : k < 18) (s : State) (n : Nat) (f : Station → Station) : TrackRest k s (setStation s n f) :=
  trackRest_of_dict hk rfl rfl rfl rfl

theorem trackRest_sendControl {k : Nat} (hk : k < 18) (s : State) (n : Nat) (l : List (List Byte)) : TrackRest k s (sendControl s n l) := by
  have hall : ∀ o, TrackRest k s (emitAll s o) := fun _ => trackRest_of_dict hk rfl rfl rfl rfl
  unfold sendControl queueBlocks
  exact .ite ((hall _).trans (trackRest_setStation hk _ _ _)) (hall _)

theorem trackRest_sendLight {k : Nat} (hk : k < 18) (s : State) (n beam kind t d : Nat) : TrackRest k s (sendLight s n beam kind t d) := by
  unfold sendLight
  generalize lightBlocks s n beam kind 64 t (phaseCycles s d) = l
  exact .ite (trackRest_setStation hk s n _) (trackRest_sendControl hk s n l)

theorem trackRest_apcWindow {k : Nat} (hk : k < 18) (s : State) (n t : Nat) : TrackRest k s (apcWindow s n t) := by
  unfold apcWindow
  dsimp only
  split
  · exact .refl k s
  · refine .trans ?_ (trackRest_sendLight hk _ _ _ _ _ _)
    exact trackRest_of_dict hk rfl rfl rfl rfl

theorem trackRest_bdWindow {k : Nat} (hk : k < 18) (s : State) (n : Nat) : TrackRest k s (bdWindow s n) := by
  unfold bdWindow
  split
  · exact .refl k s
  · exact trackRest_sendLight hk _ _ _ _ _ _

theorem trackRest_releaseHold {k : Nat} (hk : k < 18) (s : State) : TrackRest k s (releaseHold s) := by
  unfold releaseHold
  split
  · exact trackRest_of_dict hk rfl rfl rfl rfl
  · exact .refl k s

theorem trackRest_afterBdWindow {k : Nat} (hk : k < 18) (s : State) (n : Nat) : TrackRest k s (afterBdWindow s n) := by
  unfold afterBdWindow
  dsimp only
  refine .trans ?_ (trackRest_releaseHold hk _)
  split <;> split
  · exact (trackRest_apcWindow hk _ _ _).trans (trackRest_bdWindow hk _ _)
  · exact trackRest_apcWindow hk _ _ _
  · exact trackRest_bdWindow hk _ _
  · exact .refl k s

theorem trackRest_setMotor {k : Nat} (hk : k < 18) (s : State) (m : Nat) (f : Motor → Motor) : TrackRest k s (setMotor s m f) := trackRest_of_dict hk rfl rfl rfl rfl

theorem trackRest_phaseLock {k : Nat} (hk : k < 18) (s : State) (m t : Nat) : TrackRest k s (phaseLock s m t) := by
  have hspeed : ∀ (u : State) (f : Motor → Motor) (e : Int), TrackRest k u (setMotor (putS u 32 (motIdx m) 0x3B e) m f) := fun u f e =>
    (trackRest_putMotor hk u _).trans (trackRest_setMotor hk _ _ _)
  unfold phaseLock
  dsimp only
  split
  · exact .refl k s
  · split
    · exact trackRest_setMotor hk _ _ _
    · split
      · exact .refl k s
      · exact .ite ((hspeed _ _ _).trans (trackRest_putMotor hk _ _))
          (.ite ((hspeed _ _ _).trans ((trackRest_putMotor hk _ _).trans (trackRest_logEvent hk _ _ _ _ _ _))) (hspeed _ _ _))

theorem trackRest_polygonTooth {k : Nat} (hk : k < 18) (s : State) (m t per : Nat) (coast : Bool) : TrackRest k s (polygonTooth s m t per coast) := by
  have hturn : TrackRest k s (if get s (trkIdx m) 5 = 0 then wrapBy 32 s (motIdx m) 0x3C 1 else s) := by
    split
    · exact trackRest_putMotor hk s _
    · exact .refl k s
  unfold polygonTooth
  dsimp only
  generalize (if get s (trkIdx m) 5 = 0 then wrapBy 32 s (motIdx m) 0x3C 1 else s) = u at hturn ⊢
  refine hturn.trans ?_
  split
  · exact .refl k u
  · refine .trans ?_ (trackRest_phaseLock hk _ _ _)
    split
    · exact trackRest_putMotor hk u _
    · exact .refl k u

theorem trackRest_phaseLost {k : Nat} (hk : k < 18) (s : State) : TrackRest k s (phaseLost s k) := by
  unfold phaseLost
  split
  · exact (trackRest_putMotor hk _ _).trans ((trackRest_setMotor hk _ _ _).trans (trackRest_logEvent hk _ _ _ _ _ _))
  · exact .refl k s

theorem trackRest_lostSpills {k : Nat} (hk : k < 18) (s : State) : TrackRest k s (lostSpills s k) := by
  have hsheets : ∀ p st, TrackRest k s (spillWhere s p st) := fun _ _ => trackRest_of_dict hk rfl rfl rfl rfl
  have hspill : ∀ p st cls src, TrackRest k s (logEvent (spillWhere s p st) cls src k (trkIdx k) 0x0B) := fun p st cls src =>
    (hsheets p st).trans (trackRest_logEvent hk _ _ _ _ _ _)
  unfold lostSpills
  split
  · split
    · exact hspill _ _ _ _
    · exact .refl k s
  · exact hspill _ _ _ _

/-! ## The tooth that is fixed (R348) -/

/-- The time of the tooth of a window: its candidate's, or the prediction. -/
def toothAt (s : State) (k : Nat) : Nat := (tracker s k).cand.getD ((tracker s k).tLast + periodOf s k (tracker s k).next)

/-- The windows in a row without an edge, this one included. -/
def coastsNow (s : State) (k : Nat) : Nat := if (tracker s k).cand.isNone then (tracker s k).coasts + 1 else 0

/-- The number of the tooth. -/
def toothCount (s : State) (k : Nat) : Nat := (get s (trkIdx k) 7 + 1) % 2 ^ 32

/-- What a tracker is with its tooth fixed. -/
def fixedTracker (s : State) (k : Nat) : Tracker :=
  let x := tracker s k
  { x with tLast := toothAt s k, next := nextPos (toothCycle s k) x.next, cand := none, coasts := coastsNow s k,
           teeth := ({ count := toothCount s k, time := toothAt s k, coast := x.cand.isNone } :: x.teeth).take 256 }

/-- A tooth has been fixed, counted and remembered. -/
structure ToothFixed (s : State) (k : Nat) (u : State) : Prop where
  count : get u (trkIdx k) 7 = toothCount s k
  position : get u (trkIdx k) 5 = (tracker s k).next
  coast : get u (trkIdx k) 9 = if (tracker s k).cand.isNone then min (get s (trkIdx k) 9 + 1) 65535 else get s (trkIdx k) 9
  time : (tracker u k).tLast = toothAt s k
  cand : (tracker u k).cand = none
  tooth : (tracker u k).teeth.head? = some { count := toothCount s k, time := toothAt s k, coast := (tracker s k).cand.isNone }
  others : ∀ j, j ≠ k → tracker u j = tracker s j
  path : 6 ≤ k → (tracker s k).next < 12 → toothCycle s k ≤ 12 →
    get u (trkIdx k) 0x36 = (get s (trkIdx k) 0x36 + get s (trkIdx k) 0x33) % 2 ^ 64

theorem ToothFixed.rest {s t u : State} {k : Nat} (h : ToothFixed s k t) (r : TrackRest k t u) : ToothFixed s k u where
  count := by rw [r.keys 7 (by decide), h.count]
  position := by rw [r.keys 5 (by decide), h.position]
  coast := by rw [r.keys 9 (by decide), h.coast]
  time := by rw [r.tracker, h.time]
  cand := by rw [r.tracker, h.cand]
  tooth := by rw [r.tracker, h.tooth]
  others j hj := by rw [r.tracker, h.others j hj]
  path h6 hn hc := by rw [r.keys 0x36 (by decide), h.path h6 hn hc]

theorem ToothFixed.setTracker {s t : State} {k : Nat} (h : ToothFixed s k t) {f : Tracker → Tracker}
    (hf : ∀ y, (f y).tLast = y.tLast ∧ (y.cand = none → (f y).cand = none) ∧ (f y).teeth = y.teeth) : ToothFixed s k (setTracker t k f) where
  count := h.count
  position := h.position
  coast := h.coast
  time := by rw [tracker_setTracker_same, (hf _).1, h.time]
  cand := by rw [tracker_setTracker_same]; exact (hf _).2.1 h.cand
  tooth := by rw [tracker_setTracker_same, (hf _).2.2, h.tooth]
  others j hj := by rw [tracker_setTracker_other _ _ hj, h.others j hj]
  path := h.path

theorem keyOf_trk_ne {k a b : Nat} (h : a ≠ b) : keyOf (trkIdx k) a ≠ keyOf (trkIdx k) b := fun e => h (by unfold keyOf at e; omega)

/-- Objects of the tracker other than the tooth's own. -/
theorem ToothFixed.put {s t : State} {k j : Nat} (h : ToothFixed s k t) (v : Nat) (h5 : 5 ≠ j) (h7 : 7 ≠ j) (h9 : 9 ≠ j)
    (h36 : 6 ≤ k → (tracker s k).next < 12 → toothCycle s k ≤ 12 → 0x36 ≠ j) : ToothFixed s k (put t (trkIdx k) j v) where
  count := by rw [get_put_other _ _ (keyOf_trk_ne h7), h.count]
  position := by rw [get_put_other _ _ (keyOf_trk_ne h5), h.position]
  coast := by rw [get_put_other _ _ (keyOf_trk_ne h9), h.coast]
  time := h.time
  cand := h.cand
  tooth := h.tooth
  others := h.others
  path h6 hn hc := by rw [get_put_other _ _ (keyOf_trk_ne (h36 h6 hn hc)), h.path h6 hn hc]

/-- The period table's entry of the tooth: filtered by its edge, or as it was (R348). -/
def filteredPeriod (s : State) (k : Nat) : Nat :=
  let p := periodOf s k (tracker s k).next
  let sh : Int := ((2 ^ get s (trkIdx k) 4 : Nat) : Int)
  if (tracker s k).cand.isNone then p else ((p : Int) + ((toothAt s k : Int) - (tracker s k).tLast - p) / sh).toNat

/-- The objects of a tooth: its period, the count, the position and, without an edge, the coast. -/
def toothNoted (s : State) (k : Nat) : State :=
  let t := put (put (put s (trkIdx k) (0x10 + (tracker s k).next) (filteredPeriod s k)) (trkIdx k) 7 (toothCount s k)) (trkIdx k) 5 (tracker s k).next
  if (tracker s k).cand.isNone then trackerCount t k 9 else t

theorem toothNoted_trackers (s : State) (k : Nat) : (toothNoted s k).trackers = s.trackers := by
  unfold toothNoted
  dsimp only
  split <;> rfl

theorem toothNoted_get (s : State) {k : Nat} (hk : k < 18) {j : Nat} (hj : j ≠ 0x10 + (tracker s k).next) :
    get (toothNoted s k) (trkIdx k) j = if j = 5 then (tracker s k).next else if j = 7 then toothCount s k
      else if j = 9 ∧ (tracker s k).cand.isNone then min (get s (trkIdx k) 9 + 1) 65535 else get s (trkIdx k) j := by
  have hlog := isLogIdx_trkIdx hk
  have hput : get (put (put (put s (trkIdx k) (0x10 + (tracker s k).next) (filteredPeriod s k)) (trkIdx k) 7 (toothCount s k)) (trkIdx k) 5 (tracker s k).next)
      (trkIdx k) j = if j = 5 then (tracker s k).next else if j = 7 then toothCount s k else get s (trkIdx k) j := by
    by_cases h5 : j = 5
    · rw [h5, get_put_same _ _ _ hlog, if_pos rfl]
    · rw [get_put_other _ _ (keyOf_trk_ne h5), if_neg h5]
      by_cases h7 : j = 7
      · rw [h7, get_put_same _ _ _ hlog, if_pos rfl]
      · rw [get_put_other _ _ (keyOf_trk_ne h7), if_neg h7, get_put_other _ _ (keyOf_trk_ne hj)]
  have hnine : get (put (put (put s (trkIdx k) (0x10 + (tracker s k).next) (filteredPeriod s k)) (trkIdx k) 7 (toothCount s k)) (trkIdx k) 5 (tracker s k).next)
      (trkIdx k) 9 = get s (trkIdx k) 9 := by
    rw [get_put_other _ _ (keyOf_trk_ne (by decide)), get_put_other _ _ (keyOf_trk_ne (by decide)), get_put_other _ _ (keyOf_trk_ne (by omega))]
  unfold toothNoted trackerCount sat satBy
  dsimp only
  by_cases hc : (tracker s k).cand.isNone = true
  · rw [if_pos hc]
    by_cases h9 : j = 9
    · rw [h9, get_put_same _ _ _ hlog, hnine]
      simp [hc]
    · rw [get_put_other _ _ (keyOf_trk_ne h9), hput]
      simp [h9]
  · rw [if_neg hc, hput]
    simp [hc]

theorem fixTooth_eq (s : State) (k : Nat) : fixTooth s k =
    if k < 6 then setTracker (toothNoted s k) k fun _ => fixedTracker s k
    else wrapBy 64 (setTracker (toothNoted s k) k fun _ => fixedTracker s k) (trkIdx k) 0x36 (get s (trkIdx k) 0x33) := by
  have hset : (setTracker (toothNoted s k) k fun _ => fixedTracker s k) = setTracker (toothNoted s k) k fun y =>
      { y with tLast := toothAt s k, next := nextPos (toothCycle s k) (tracker s k).next, cand := none,
               coasts := if (tracker s k).cand.isNone then y.coasts + 1 else 0,
               teeth := ({ count := toothCount s k, time := toothAt s k, coast := (tracker s k).cand.isNone } :: y.teeth).take 256 } := by
    have htr : tabGet {} (toothNoted s k).trackers k = tracker s k := by rw [toothNoted_trackers]; rfl
    unfold setTracker tabMod
    rw [htr]
    rfl
  rw [hset]
  rfl

theorem fixTooth_tracker (s : State) (k : Nat) : tracker (fixTooth s k) k = fixedTracker s k := by
  rw [fixTooth_eq]
  split
  · rw [tracker_setTracker_same]
  · exact (tracker_congr rfl k).trans (tracker_setTracker_same (toothNoted s k) k fun _ => fixedTracker s k)

theorem fixTooth_coasts (s : State) (k : Nat) : (tracker (fixTooth s k) k).coasts = coastsNow s k := by rw [fixTooth_tracker]; rfl

theorem fixTooth_others (s : State) {k j : Nat} (hj : j ≠ k) : tracker (fixTooth s k) j = tracker s j := by
  have hset : tracker (setTracker (toothNoted s k) k fun _ => fixedTracker s k) j = tracker s j :=
    (tracker_setTracker_other _ _ hj).trans (tracker_congr (toothNoted_trackers s k) j)
  rw [fixTooth_eq]
  split
  · exact hset
  · exact hset

theorem fixTooth_get (s : State) (k : Nat) {j : Nat} (h36 : j ≠ 0x36) :
    get (fixTooth s k) (trkIdx k) j = get (toothNoted s k) (trkIdx k) j := by
  rw [fixTooth_eq]
  split
  · rw [get_setTracker]
  · rw [wrapBy, get_put_other _ _ (keyOf_trk_ne h36), get_setTracker]

theorem fixedTracker_tooth (s : State) (k : Nat) : (fixedTracker s k).teeth.head? =
    some { count := toothCount s k, time := toothAt s k, coast := (tracker s k).cand.isNone } := rfl

theorem fixTooth_fixed (s : State) {k : Nat} (hk : k < 18) : ToothFixed s k (fixTooth s k) where
  count := by rw [fixTooth_get s k (by decide), toothNoted_get s hk (by omega)]; rfl
  position := by rw [fixTooth_get s k (by decide), toothNoted_get s hk (by omega)]; rfl
  coast := by
    rw [fixTooth_get s k (by decide), toothNoted_get s hk (by omega)]
    simp
  time := by rw [fixTooth_tracker]; rfl
  cand := by rw [fixTooth_tracker]; rfl
  tooth := by rw [fixTooth_tracker, fixedTracker_tooth]
  others j hj := fixTooth_others s hj
  path h6 hn _ := by
    rw [fixTooth_eq, if_neg (by omega), wrapBy, get_put_same _ _ _ (isLogIdx_trkIdx hk), get_setTracker, toothNoted_get s hk (by omega)]
    simp

/-- The tooth fixed, with what it means to a polygon. -/
def windowFixed (s : State) (k : Nat) : State :=
  if k < 6 then polygonTooth (fixTooth s k) k (tracker (fixTooth s k) k).tLast ((tracker (fixTooth s k) k).tLast - (tracker s k).tLast) (tracker s k).cand.isNone
  else fixTooth s k

theorem windowFixed_rest (s : State) {k : Nat} (hk : k < 18) : TrackRest k (fixTooth s k) (windowFixed s k) :=
  .ite (trackRest_polygonTooth hk _ _ _ _ _) (.refl k _)

theorem windowFixed_fixed (s : State) {k : Nat} (hk : k < 18) : ToothFixed s k (windowFixed s k) := (fixTooth_fixed s hk).rest (windowFixed_rest s hk)

theorem windowFixed_tracker (s : State) {k : Nat} (hk : k < 18) : tracker (windowFixed s k) k = fixedTracker s k := by
  rw [(windowFixed_rest s hk).tracker, fixTooth_tracker]

theorem toothNoted_same (s : State) (k : Nat) : (toothNoted s k).time = s.time ∧ (toothNoted s k).log = s.log := by
  unfold toothNoted
  dsimp only
  split
  · exact ⟨rfl, rfl⟩
  · exact ⟨rfl, rfl⟩

theorem fixTooth_same (s : State) (k : Nat) : (fixTooth s k).time = s.time ∧ (fixTooth s k).log = s.log := by
  have h := toothNoted_same s k
  rw [fixTooth_eq]
  generalize toothNoted s k = t at h ⊢
  split
  · exact h
  · exact h

/-! ## The course of an acquisition, and LOST -/

/-- K windows in a row without an edge. -/
def windowLost (s : State) (k : Nat) : Bool := decide (get s (trkIdx k) 3 ≤ coastsNow s k)

section Close

variable {s : State} {k : Nat}

theorem closeWindow_following {f : Nat} (h : (tracker s k).acq = .following f) : closeWindow s k =
    if windowLost s k then (beginAcquire (windowFixed s k) k, false)
    else if f + 1 < 16 * toothCycle s k then (setTracker (windowFixed s k) k fun z => { z with acq := .following (f + 1) }, false)
    else (if k < 6 then polygonTracks (identify (windowFixed s k) k) k else identify (windowFixed s k) k, false) := by
  simp only [closeWindow, windowFixed, windowLost, h, fixTooth_coasts]
  rfl

theorem closeWindow_idle (h : (tracker s k).acq = .idle) : closeWindow s k =
    if windowLost s k then trackerLost (windowFixed s k) k else (windowFixed s k, false) := by
  simp only [closeWindow, windowFixed, windowLost, h, fixTooth_coasts]
  rfl

end Close

theorem toothCycle_windowFixed (s : State) {k : Nat} (hk : k < 18) (h6 : 6 ≤ k) (hn : (tracker s k).next < 12) :
    toothCycle (windowFixed s k) k = toothCycle s k := by
  have hget : get (windowFixed s k) (trkIdx k) 0x32 = get s (trkIdx k) 0x32 := by
    rw [(windowFixed_rest s hk).keys _ (by decide), fixTooth_get s k (by decide), toothNoted_get s hk (by omega)]
    simp
  simp only [toothCycle, if_neg (show ¬k < 6 by omega), hget]

theorem rotate_length (l : List Nat) (r : Nat) : (rotate l r).length = l.length := by simp [rotate]; omega

/-- Relabelling moves the period table and the next position, not the tooth. -/
theorem ToothFixed.relabel {s t : State} {k : Nat} (h : ToothFixed s k t)
    (hc : 6 ≤ k → (tracker s k).next < 12 → toothCycle t k = toothCycle s k) (r : Nat) : ToothFixed s k (relabel t k r) := by
  have htable : ToothFixed s k (writeTable t k 0x10 (rotate (tableOf t k 0x10) r)) :=
    foldl_keeps (ToothFixed s k) _ _ t (fun u i hi hu => hu.put _ (by omega) (by omega) (by omega) fun h6 hn h12 => by
      rw [List.mem_range, rotate_length, tableOf, List.length_map, List.length_range, hc h6 hn] at hi
      omega) h
  exact htable.setTracker fun y => ⟨rfl, id, rfl⟩

/-- What ends an acquisition leaves the tooth, and shows TRACKING with no second serve. -/
structure Identified (s : State) (k : Nat) (u : State) : Prop where
  fixed : ToothFixed s k u
  state : (tracker u k).state = 2
  acq : (tracker u k).acq = .idle
  served : serving u (if k < 6 then .bdTracker else .encoderTracker) k = false

theorem Identified.rest {s t u : State} {k : Nat} (h : Identified s k t) (r : TrackRest k t u) : Identified s k u :=
  ⟨h.fixed.rest r, by rw [r.tracker, h.state], by rw [r.tracker, h.acq], (serving_congr r.serves _ _).trans h.served⟩

theorem SameButLog.toothFixed {s t u : State} {k : Nat} (hk : k < 18) (h : SameButLog t u) (hf : ToothFixed s k t) : ToothFixed s k u where
  count := (h.get _ (isLogIdx_trkIdx hk)).trans hf.count
  position := (h.get _ (isLogIdx_trkIdx hk)).trans hf.position
  coast := (h.get _ (isLogIdx_trkIdx hk)).trans hf.coast
  time := by rw [tracker_congr h.trackers, hf.time]
  cand := by rw [tracker_congr h.trackers, hf.cand]
  tooth := by rw [tracker_congr h.trackers, hf.tooth]
  others j hj := by rw [tracker_congr h.trackers, hf.others j hj]
  path h6 hn hc := (h.get _ (isLogIdx_trkIdx hk)).trans (hf.path h6 hn hc)

theorem identify_identified {s t : State} {k : Nat} (hk : k < 18) (h : ToothFixed s k t)
    (hc : 6 ≤ k → (tracker s k).next < 12 → toothCycle t k = toothCycle s k) : Identified s k (identify t k) := by
  have hend : ∀ u : State, ToothFixed s k u → Identified s k (servePass (setTracker u k fun x => { x with state := 2, acq := .idle })
      (if k < 6 then .bdTracker else .encoderTracker) k (if k < 6 then 8 else 0x0A) (trkIdx k) 1) := fun u hu => by
    have hset : ToothFixed s k (setTracker u k fun x => { x with state := 2, acq := .idle }) := hu.setTracker fun y => ⟨rfl, id, rfl⟩
    have hlog := servePass_sameButLog (setTracker u k fun x => { x with state := 2, acq := .idle })
      (if k < 6 then .bdTracker else .encoderTracker) k (if k < 6 then 8 else 0x0A) (trkIdx k) 1
    exact ⟨hlog.toothFixed hk hset, by rw [tracker_congr hlog.trackers, tracker_setTracker_same], by rw [tracker_congr hlog.trackers, tracker_setTracker_same],
      serving_servePass _ _ _ _ _ _⟩
  have hput : ∀ r v, ToothFixed s k (put (Machine.relabel t k r) (trkIdx k) 0x0D v) := fun r v =>
    (h.relabel hc r).put v (by decide) (by decide) (by decide) fun _ _ _ => by decide
  unfold identify
  dsimp only
  refine hend _ ?_
  split
  · exact hput _ _
  · exact hput _ _

/-- What LOST leaves of a tracker (R350, R431): the loss is counted; what its double fault turns on is as before. -/
structure TrackerGone (s : State) (k : Nat) (u : State) : Prop where
  fixed : ToothFixed s k u
  state : (tracker u k).state = 3
  count : get u (trkIdx k) 0x0B = min (get s (trkIdx k) 0x0B + 1) 65535
  time : u.time = s.time
  serves : u.log.serves = s.log.serves

/-- The state in which the loss is on record, before its second serve. -/
def lossRecorded (t : State) (k : Nat) : State :=
  lostSpills (setTracker (trackerCount (phaseLost t k) k 0x0B) k fun x => { x with state := 3, acq := .idle, coasts := 0 }) k

theorem lossRecorded_gone (s : State) {k : Nat} (hk : k < 18) : TrackerGone s k (lossRecorded (windowFixed s k) k) := by
  have hfixed := windowFixed_fixed s hk
  have hcount : get (windowFixed s k) (trkIdx k) 0x0B = get s (trkIdx k) 0x0B := by
    rw [(windowFixed_rest s hk).keys _ (by decide), fixTooth_get s k (by decide), toothNoted_get s hk (by omega)]
    simp
  obtain ⟨htime, hlog⟩ := fixTooth_same s k
  have hsame := windowFixed_rest s hk
  have hphase := trackRest_phaseLost hk (windowFixed s k)
  have hcounted : ToothFixed s k (trackerCount (phaseLost (windowFixed s k) k) k 0x0B) :=
    (hfixed.rest hphase).put _ (by decide) (by decide) (by decide) fun _ _ _ => by decide
  have hset : ToothFixed s k (setTracker (trackerCount (phaseLost (windowFixed s k) k) k 0x0B) k fun x => { x with state := 3, acq := .idle, coasts := 0 }) :=
    hcounted.setTracker fun y => ⟨rfl, id, rfl⟩
  have hspill := trackRest_lostSpills hk (setTracker (trackerCount (phaseLost (windowFixed s k) k) k 0x0B) k fun x =>
    { x with state := 3, acq := .idle, coasts := 0 })
  exact {
    fixed := hset.rest hspill
    state := by rw [lossRecorded, hspill.tracker, tracker_setTracker_same]
    count := by
      rw [lossRecorded, hspill.keys _ (by decide), get_setTracker, trackerCount, sat, satBy, get_put_same _ _ _ (isLogIdx_trkIdx hk), hphase.keys _ (by decide),
        hcount]
      rfl
    time := hspill.time.trans (hphase.time.trans (hsame.time.trans htime))
    serves := hspill.serves.trans (hphase.serves.trans (hsame.serves.trans (congrArg Log.serves hlog))) }

theorem trackerLost_eq (t : State) (k : Nat) : trackerLost t k =
    let m : Mech := if k < 6 then .bdTracker else .encoderTracker
    let src := if k < 6 then 8 else 0x0A
    let u := lossRecorded t k
    if servedWithin u m k (ticksS 10) then (doubleFault u m k 0 src (trkIdx k) 0x0B, true)
    else
      let v := serveBegin u m k 0 src (trkIdx k) 0x0B
      (if mayAcquire v k then beginAcquire v k else v, false) := rfl

end Sys2Proof.Machine

/-! # Edges of the tooth trackers (R348, R352, R424, R427, R428) -/

namespace Sys2Proof.Machine

/-- What an edge that reaches tracker k leaves (R427). -/
def edgeTaken (s : State) (k t : Nat) : State := if decide (6 ≤ k) && blanked s k t then trackerCount s k 8 else edgeOf s k t

theorem exec_edge (st : Fin 6) (tt : Fin 12) (rising : Bool) (t : Nat) (s : State) :
    ∀ q ∈ [(Instr.bdEdge st ⟨rising, t⟩, st.val), (.encoderEdge tt ⟨rising, t⟩, 6 + tt.val)],
      q.2 < 18 ∧ exec q.1 s = .next (settle (if edgeSeen s q.1 then edgeTaken s q.2 t else s)) := by
  simp only [List.forall_mem_cons, List.not_mem_nil, false_imp_iff, implies_true, and_true]
  refine ⟨⟨by omega, ?_⟩, by omega, ?_⟩
  · have hbd : ¬6 ≤ st.val := by omega
    simp only [exec, execBdEdge, edgeSeen, edgeTaken, hbd]
    cases trackerLit s st.val && rising == bdRising s <;> rfl
  · simp only [exec, execEncoderEdge, edgeSeen, edgeTaken, Nat.le_add_right, decide_true, Bool.true_and]
    cases trackerLit s (6 + tt.val)
    · rfl
    · cases edgeSelected s (6 + tt.val) rising
      · rfl
      · cases inConflict s (0x2000 + (6 + tt.val))
        · cases blanked s (6 + tt.val) t <;> rfl
        · rfl

section Edge

variable {s : State} {k t : Nat}

/-! ## A tracker that is off (R352) -/

theorem edgeOf_off (h : (tracker s k).state = 0 ∨ (tracker s k).state = 3) (hno : mayAcquire s k = false) : edgeOf s k t = s := by
  simp [edgeOf, h, hno]

/-- The first edge begins an acquisition. -/
theorem edgeOf_begins (h : (tracker s k).state = 0 ∨ (tracker s k).state = 3) (hmay : mayAcquire s k = true) :
    edgeOf s k t = collectEdge (beginAcquire s k) k t [] := by
  have htr : tracker (beginAcquire s k) k = { tracker s k with state := 1, acq := .collecting [], cand := none, coasts := 0 } := by
    rw [beginAcquire, tracker_setTracker_same]
  have hclose : closeBefore k t 17 (beginAcquire s k) = beginAcquire s k := by
    unfold closeBefore
    rw [htr]
  simp only [edgeOf, h, hmay, and_self, if_true, hclose, htr, takeEdge]
  rfl

theorem collectEdge_short {l : List Nat} (h : (if spacedOk s k l t then t :: l else [t]).length < max 2 (2 * toothCycle s k)) :
    collectEdge s k t l = setTracker s k fun x => { x with acq := .collecting (if spacedOk s k l t then t :: l else [t]) } := if_pos h

theorem collectEdge_full {l : List Nat} (h : max 2 (2 * toothCycle s k) ≤ (if spacedOk s k l t then t :: l else [t]).length) :
    collectEdge s k t l = setTracker (fillPeriods s k (toothCycle s k) (if spacedOk s k l t then t :: l else [t])) k
      fun x => { x with acq := .following 0, tLast := t, next := 0, cand := none, coasts := 0 } := if_neg (by omega)

/-! ## A tracker that acquires or tracks -/

theorem edgeOf_on (h0 : (tracker s k).state ≠ 0) (h3 : (tracker s k).state ≠ 3) : edgeOf s k t =
    if (tracker (closeBefore k t 17 s) k).state = 0 ∨ (tracker (closeBefore k t 17 s) k).state = 3 then closeBefore k t 17 s
    else takeEdge (closeBefore k t 17 s) k t := by
  simp [edgeOf, h0, h3]

theorem edgeOf_collects (h0 : (tracker s k).state ≠ 0) (h3 : (tracker s k).state ≠ 3) {l : List Nat} (hacq : (tracker s k).acq = .collecting l) :
    edgeOf s k t = collectEdge s k t l := by
  have hclose : closeBefore k t 17 s = s := by
    unfold closeBefore
    rw [hacq]
  rw [edgeOf_on h0 h3, hclose, if_neg (by simp [h0, h3])]
  simp only [takeEdge, hacq]

/-- An edge up to the end of the window of the next tooth. -/
theorem edgeOf_window (h0 : (tracker s k).state ≠ 0) (h3 : (tracker s k).state ≠ 3) (hacq : ∀ l, (tracker s k).acq ≠ .collecting l)
    (ht : t ≤ predicted s k + windowOf s k) : edgeOf s k t =
      if (windowEdge s k t).2 then mistime (windowEdge s k t).1 k ((tracker s k).cand.getD 0) t else (windowEdge s k t).1 := by
  have hclose : closeBefore k t 17 s = s := by
    unfold closeBefore
    split
    · rfl
    · rw [if_neg (by simp [h0, h3]), if_neg (by omega)]
  rw [edgeOf_on h0 h3, hclose, if_neg (by simp [h0, h3])]
  unfold takeEdge
  split
  next l hl => exact absurd hl (hacq l)
  next => rfl

theorem windowEdge_early (h : t + windowOf s k < predicted s k) : windowEdge s k t = (trackerCount s k 8, false) := by simp [windowEdge, h]

theorem windowEdge_first (h : predicted s k ≤ t + windowOf s k) (hc : (tracker s k).cand = none) :
    windowEdge s k t = (setTracker s k fun x => { x with cand := some t }, false) := by simp [windowEdge, Nat.not_lt.2 h, hc]

theorem windowEdge_second {a : Nat} (h : predicted s k ≤ t + windowOf s k) (hc : (tracker s k).cand = some a) : windowEdge s k t =
    if gap t (predicted s k) < gap a (predicted s k) then (setTracker (trackerCount s k 0x0A) k fun x => { x with cand := some t }, true)
    else (trackerCount s k 0x0A, false) := by simp [windowEdge, Nat.not_lt.2 h, hc]

end Edge

theorem trackerCount_counts (s : State) {k : Nat} (hk : k < 18) (j : Nat) :
    get (trackerCount s k j) (trkIdx k) j = min (get s (trkIdx k) j + 1) 65535 ∧ SameButObjects [keyOf (trkIdx k) j] s (trackerCount s k j) :=
  ⟨get_put_same s _ _ (isLogIdx_trkIdx hk), rfl, keepsObjects_put s _ _ _ (by simp)⟩

/-- The newest spacings fill the period table (R352). -/
theorem fillPeriods_get (s : State) {k : Nat} (hk : k < 18) {c i : Nat} (hi : i < c) (run : List Nat) :
    get (fillPeriods s k c run) (trkIdx k) (0x10 + (c - 1 - i)) = run.getD i 0 - run.getD (i + 1) 0 := by
  have hupTo : ∀ m, m ≤ c → ∀ j, j < m → get (forEach (List.range m) (fun t i => put t (trkIdx k) (0x10 + (c - 1 - i)) (run.getD i 0 - run.getD (i + 1) 0)) s)
      (trkIdx k) (0x10 + (c - 1 - j)) = run.getD j 0 - run.getD (j + 1) 0 := by
    intro m
    induction m with
    | zero => exact fun _ j hj => absurd hj (Nat.not_lt_zero j)
    | succ m ih =>
      intro hm j hj
      rw [forEach, List.range_succ, List.foldl_append, List.foldl_cons, List.foldl_nil]
      rcases Nat.lt_succ_iff_lt_or_eq.1 hj with hlt | rfl
      · rw [get_put_other _ _ (keyOf_trk_ne (by omega))]
        exact ih (by omega) j hlt
      · exact get_put_same _ _ _ (isLogIdx_trkIdx hk)
  exact hupTo c (Nat.le_refl c) i hi

theorem fillPeriods_same (s : State) (k c : Nat) (run : List Nat) : (fillPeriods s k c run).trackers = s.trackers ∧ (fillPeriods s k c run).md = s.md :=
  foldl_keeps (fun u => u.trackers = s.trackers ∧ u.md = s.md) _ _ s (fun _ _ _ h => h) ⟨rfl, rfl⟩

/-! ## A double edge (R424) -/

theorem trackRest_flagEvent {k : Nat} (hk : k < 18) (s : State) (e : Event) : TrackRest k s (flagEvent s e) := by
  have hcount : ∀ (u : State) (j : Nat), TrackRest k u (sat u 0x2521 j) := fun u j =>
    trackRest_put u _ fun a ha => by unfold keyOf trkIdx; omega
  have hone : ∀ (c : Prop) [Decidable c] (u : State) (j : Nat), TrackRest k u (if c then sat u 0x2521 j else u) := fun c _ u j =>
    .ite (hcount u j) (.refl k u)
  have hblob : ∀ (u : State) (l : List Byte), TrackRest k u (putBlob u 0x2524 1 l) := fun _ _ => trackRest_of_dict hk rfl rfl rfl rfl
  unfold flagEvent
  dsimp only
  exact ((hone _ _ _).trans ((hone _ _ _).trans (hone _ _ _))).trans (.ite (.refl k _) ((hblob _ _).trans (trackRest_log hk _ _ _ _ _ _ _ _ _)))

theorem trackRest_mistime {k : Nat} (hk : k < 18) (s : State) (old new : Nat) : TrackRest k s (mistime s k old new) := by
  have hslots : ∀ (u : State) (l : Tab Event), TrackRest k u { u with slots := l } := fun _ _ => trackRest_of_dict hk rfl rfl rfl rfl
  have hsheet : ∀ (u : State) (v : Nat) (f : Sheet → Sheet), TrackRest k u (modSheet u v f) := fun _ _ _ => trackRest_of_dict hk rfl rfl rfl rfl
  refine foldl_keeps (TrackRest k s) _ _ s (fun u p _ hu => hu.trans ?_) (.refl k s)
  dsimp only
  split
  · exact .ite ((hslots _ _).trans ((trackRest_flagEvent hk _ _).trans (hsheet _ _ _))) ((hslots _ _).trans (trackRest_flagEvent hk _ _))
  · exact (hslots _ _).trans (trackRest_flagEvent hk _ _)

/-- Settles O40: an edge by the state of its tracker and the place in its window. -/
theorem edgesTaken : Obligations.EdgesTaken := by
  unfold Obligations.EdgesTaken
  intro st tt rising t s q hq c k x others counted
  obtain ⟨hk, hexec⟩ := exec_edge st tt rising t s q hq
  change k < 18 at hk
  change exec c s = .next (settle (if edgeSeen s c then edgeTaken s k t else s)) at hexec
  refine ⟨fun hunseen => ⟨s, by rw [hexec, hunseen, if_neg Bool.false_ne_true], rfl⟩, fun hseen h6 hblank => ⟨trackerCount s k 8, ?_, trackerCount_counts s hk 8⟩, fun hseen hopen => ?_⟩
  · rw [hexec, hseen, if_pos rfl, edgeTaken, if_pos (by simp [h6, hblank])]
  have hedge : exec c s = .next (settle (edgeOf s k t)) := by
    have hno : ¬(decide (6 ≤ k) && blanked s k t) = true := by rcases hopen with h | h <;> simp [h]
    rw [hexec, hseen, if_pos rfl, edgeTaken, if_neg hno]
  refine ⟨fun hoff hno => ⟨s, by rw [hedge, edgeOf_off hoff hno], rfl⟩, fun hoff hmay => ?_, fun l h0 h3 hacq => ⟨fun hlen => ?_, fun hlen => ?_⟩,
    fun h0 h3 hacq ht => ?_⟩
  · refine ⟨_, hedge, ?_⟩
    have hshort := collectEdge_short (s := beginAcquire s k) (k := k) (t := t) (l := []) (by simp [spacedOk])
    rw [edgeOf_begins hoff hmay, hshort]
    refine ⟨?_, fun j hj => ?_, rfl⟩
    · rw [tracker_setTracker_same, beginAcquire, tracker_setTracker_same]
      rfl
    · rw [tracker_setTracker_other _ _ hj, beginAcquire, tracker_setTracker_other _ _ hj]
  · refine ⟨_, hedge, ?_⟩
    rw [edgeOf_collects h0 h3 hacq, collectEdge_short hlen]
    exact ⟨tracker_setTracker_same s k _, fun j hj => tracker_setTracker_other s _ hj, rfl⟩
  · refine ⟨_, hedge, ?_⟩
    rw [edgeOf_collects h0 h3 hacq, collectEdge_full hlen]
    obtain ⟨htr, hmd⟩ := fillPeriods_same s k (toothCycle s k) (if spacedOk s k l t then t :: l else [t])
    refine ⟨?_, fun j hj => ?_, hmd, fun i hi => ?_⟩
    · rw [tracker_setTracker_same, tracker_congr htr]
    · rw [tracker_setTracker_other _ _ hj, tracker_congr htr]
    · rw [get_setTracker]
      exact fillPeriods_get s hk hi _
  · have hnot : ∀ l, (tracker s k).acq ≠ .collecting l := fun l hl => by
      change (match (tracker s k).acq with | .collecting _ => true | _ => false) = false at hacq
      rw [hl] at hacq
      exact Bool.noConfusion hacq
    have hwin := edgeOf_window h0 h3 hnot ht
    refine ⟨fun hearly => ⟨_, hedge, ?_⟩, fun hin => ⟨fun hnone => ⟨_, hedge, ?_⟩, fun a ha hfar => ⟨_, hedge, ?_⟩, fun a ha hnear => ⟨_, hedge, ?_⟩⟩⟩
    · rw [hwin, windowEdge_early hearly, if_neg Bool.false_ne_true]
      exact trackerCount_counts s hk 8
    · rw [hwin, windowEdge_first hin hnone, if_neg Bool.false_ne_true]
      exact ⟨tracker_setTracker_same s k _, fun j hj => tracker_setTracker_other s _ hj, rfl⟩
    · rw [hwin, windowEdge_second hin ha, if_neg (Nat.not_lt.2 hfar), if_neg Bool.false_ne_true]
      exact trackerCount_counts s hk 0x0A
    · rw [hwin, windowEdge_second hin ha, if_pos hnear, if_pos rfl]
      have hrest := trackRest_mistime hk (setTracker (trackerCount s k 0x0A) k fun x => { x with cand := some t }) ((tracker s k).cand.getD 0) t
      refine ⟨?_, ?_, fun j hj => ?_, md_of_modeView ((mistime_modeView _ _ _ _).trans (by simp [trackerCount]))⟩
      · exact (hrest.keys _ (by decide)).trans (trackerCount_counts s hk 0x0A).1
      · rw [hrest.tracker, tracker_setTracker_same]
        rfl
      · rw [hrest.tracker, tracker_setTracker_other _ _ hj]
        rfl

end Sys2Proof.Machine

/-! # Bring-up of a beam link (R390 to R393) -/

namespace Sys2Proof.Machine

/-! ## Second serves beside each other -/

/-- The end of one mechanism's second serve leaves another's. -/
theorem serving_servePass_other (s : State) {m q : Mech} (h : q.code ≠ m.code) (n k src i j : Nat) :
    serving (servePass s m n src i j) q k = serving s q k := by
  unfold servePass
  cases hof : serveOf s m n with
  | none => rfl
  | some r =>
    have hr : r.mech = m.code := by
      have := List.find?_some hof
      simp only [Serve.isOf, Bool.and_eq_true, beq_iff_eq] at this
      exact this.1
    have hrec : ∀ v : Serve, v.mech = m.code → Serve.isOf q k v = false := fun v hv => by simp [Serve.isOf, hv, Ne.symm h]
    dsimp only
    split
    · have hserves : (log (wrapLog 32 { serveDrop s m n with log := { (serveDrop s m n).log with
          serves := { r with running := false, done := some s.time } :: (serveDrop s m n).log.serves } } 0x2400 2) clsNotice 3 src n i j none r.code).log.serves =
          { r with running := false, done := some s.time } :: s.log.serves.filter fun v => !Serve.isOf m n v :=
        congrArg ServeList.serves (log_serveList _ _ _ _ _ _ _ _ _)
      have hfind : (s.log.serves.filter fun v => !Serve.isOf m n v).find? (Serve.isOf q k) = s.log.serves.find? (Serve.isOf q k) := by
        rw [List.find?_filter]
        congr
        funext v
        by_cases hv : Serve.isOf m n v = true
        · have hmech : v.mech = m.code := by
            simp only [Serve.isOf, Bool.and_eq_true, beq_iff_eq] at hv
            exact hv.1
          simp [hrec v hmech]
        · simp [hv]
      simp only [serving, serveOf]
      rw [hserves, List.find?_cons_of_neg (by rw [hrec { r with running := false, done := some s.time } hr]; exact Bool.false_ne_true), hfind]
    · rfl

/-! ## What a link's operations leave -/

theorem isLogIdx_linkIdx {n : Nat} (hn : n < 6) : isLogIdx (linkIdx n) = false := by simp [isLogIdx, linkIdx]; omega
theorem isLogIdx_linkCnt {n : Nat} (hn : n < 6) : isLogIdx (linkCnt n) = false := by simp [isLogIdx, linkCnt]; omega

/-- Nothing but one station, its sheets, objects, the log block and what has been sent out differs. -/
structure LinkOp (n : Nat) (s t : State) : Prop where
  rest : t = { s with dict := t.dict, stations := t.stations, sheets := t.sheets, log := t.log, net := t.net, out := t.out }
  others : ∀ k, k ≠ n → station t k = station s k

theorem LinkOp.refl (n : Nat) (s : State) : LinkOp n s s := ⟨rfl, fun _ _ => rfl⟩

theorem LinkOp.trans {n : Nat} {s t u : State} (h : LinkOp n s t) (k : LinkOp n t u) : LinkOp n s u :=
  ⟨by rw [k.rest, h.rest], fun b hb => (k.others b hb).trans (h.others b hb)⟩

theorem LinkOp.md {n : Nat} {s t : State} (h : LinkOp n s t) : t.md = s.md := by rw [h.rest]
theorem LinkOp.time {n : Nat} {s t : State} (h : LinkOp n s t) : t.time = s.time := by rw [h.rest]
theorem LinkOp.clk {n : Nat} {s t : State} (h : LinkOp n s t) : t.clk = s.clk := by rw [h.rest]

theorem linkOp_setStation (s : State) (n : Nat) (f : Station → Station) : LinkOp n s (setStation s n f) :=
  ⟨rfl, fun _ hk => station_setStation_other s f hk⟩
theorem linkOp_put (n : Nat) (s : State) (i j v : Nat) : LinkOp n s (put s i j v) := ⟨rfl, fun _ _ => rfl⟩
theorem linkOp_sat (n : Nat) (s : State) (i j : Nat) : LinkOp n s (sat s i j) := ⟨rfl, fun _ _ => rfl⟩
theorem linkOp_sendLspi (n : Nat) (s : State) (m : Nat) (l : List Nat) : LinkOp n s (sendLspi s m l) := ⟨rfl, fun _ _ => rfl⟩
theorem SameButLog.linkOp {s t : State} (h : SameButLog s t) (n : Nat) : LinkOp n s t := ⟨by rw [h], fun k _ => station_of_sameButLog h k⟩

/-- What a change of a link's state does to its station: the lanes' queues alone. -/
structure LinkSet (n v : Nat) (s t : State) : Prop where
  op : LinkOp n s t
  state : linkState t n = v
  keeps : KeepsObjects [keyOf (linkIdx n) 1, keyOf (linkCnt n) 5] s t
  station : ∃ f q l, station t n = { Machine.station s n with frameFrom := f, queue := q, lights := l }
  sheets : t.sheets = s.sheets
  log : t.log = s.log

theorem setLinkState_set (s : State) {n : Nat} (hn : n < 6) (v : Nat) : LinkSet n v s (setLinkState s n v) := by
  unfold setLinkState
  split
  · exact ⟨linkOp_put n s _ _ _, get_put_same s _ _ (isLogIdx_linkIdx hn), keepsObjects_put s _ _ _ (by simp), ⟨_, _, _, rfl⟩, rfl, rfl⟩
  · have hrest : LinkOp n s (restLanes s n) := (linkOp_put n s _ _ _).trans (linkOp_setStation _ n _)
    have hkeep : KeepsObjects [keyOf (linkIdx n) 1, keyOf (linkCnt n) 5] s (restLanes s n) := keepsObjects_put s _ _ _ (by simp)
    have hst : station (restLanes s n) n = { station s n with frameFrom := s.time, queue := [], lights := [] } := station_setStation_same _ n _
    have hsheets : (restLanes s n).sheets = s.sheets := rfl
    have hlog : (restLanes s n).log = s.log := rfl
    generalize restLanes s n = t at *
    exact ⟨hrest.trans (linkOp_put n t _ _ _), get_put_same t _ _ (isLogIdx_linkIdx hn), keepsObjects_trans hkeep (keepsObjects_put t _ _ _ (by simp)),
      ⟨_, _, _, hst⟩, hsheets, hlog⟩

theorem LinkSet.get {n v : Nat} {s t : State} (h : LinkSet n v s t) {i j : Nat} (h1 : keyOf i j ≠ keyOf (linkIdx n) 1) (h5 : keyOf i j ≠ keyOf (linkCnt n) 5)
    (hi : isLogIdx i = false) : Machine.get t i j = Machine.get s i j := h.keeps.get (by simp [h1, h5]) hi

/-! ## A bring-up that starts (R392 step 1) -/

/-- Step 2 waits for its registers; the start is counted. -/
structure LinkBegun (n : Nat) (rep serve : Bool) (s t : State) : Prop where
  op : LinkOp n s t
  state : linkState t n = 1
  count : get t (linkCnt n) 3 = min (get s (linkCnt n) 3 + 1) 65535
  keeps : KeepsObjects [keyOf (linkIdx n) 1, keyOf (linkCnt n) 3, keyOf (linkCnt n) 5] s t
  step : (station t n).linkStep = 2
  rep : (station t n).linkRepeat = rep
  serve : (station t n).linkServe = serve
  hardFault : (station t n).hardFault = (station s n).hardFault
  sheets : t.sheets = s.sheets
  log : t.log = s.log

theorem linkCnt_ne_linkIdx {n a b : Nat} (ha : a < 256) (hb : b < 256) : keyOf (linkCnt n) a ≠ keyOf (linkIdx n) b := by unfold keyOf linkCnt linkIdx; omega

theorem linkIdx_key_ne {n a b : Nat} (h : a ≠ b) : keyOf (linkIdx n) a ≠ keyOf (linkIdx n) b := fun e => h (by unfold keyOf at e; omega)
theorem linkCnt_key_ne {n a b : Nat} (h : a ≠ b) : keyOf (linkCnt n) a ≠ keyOf (linkCnt n) b := fun e => h (by unfold keyOf at e; omega)

theorem linkBegin_begun (s : State) {n : Nat} (hn : n < 6) (rep serve : Bool) : LinkBegun n rep serve s (linkBegin s n rep serve) := by
  have hset := setLinkState_set s hn 1
  unfold linkBegin
  dsimp only
  generalize setLinkState s n 1 = t at hset ⊢
  obtain ⟨f, q, l, hst⟩ := hset.station
  have hcount : get t (linkCnt n) 3 = get s (linkCnt n) 3 :=
    hset.get (linkCnt_ne_linkIdx (by decide) (by decide)) (linkCnt_key_ne (by decide)) (isLogIdx_linkCnt hn)
  have hnew : station (setStation (sat t (linkCnt n) 3) n fun x => { x with linkStep := 2, linkRepeat := rep, linkServe := serve }) n =
      { station t n with linkStep := 2, linkRepeat := rep, linkServe := serve } := station_setStation_same _ n _
  exact {
    op := (hset.op.trans (linkOp_sat n t _ _)).trans ((linkOp_setStation _ n _).trans (linkOp_sendLspi n _ _ _))
    state := (get_put_other t _ (Ne.symm (linkCnt_ne_linkIdx (by decide) (by decide)))).trans hset.state
    count := (get_put_same t _ _ (isLogIdx_linkCnt hn)).trans (by rw [hcount]; rfl)
    keeps := keepsObjects_trans (fun k hk => hset.keeps k (by simp at hk ⊢; omega)) (keepsObjects_put t _ _ _ (by simp))
    step := congrArg Station.linkStep hnew
    rep := congrArg Station.linkRepeat hnew
    serve := congrArg Station.linkServe hnew
    hardFault := (congrArg Station.hardFault hnew).trans (by rw [hst])
    sheets := hset.sheets
    log := hset.log }

theorem LinkBegun.get {n : Nat} {rep serve : Bool} {s t : State} (h : LinkBegun n rep serve s t) {i j : Nat} (h1 : keyOf i j ≠ keyOf (linkIdx n) 1)
    (h3 : keyOf i j ≠ keyOf (linkCnt n) 3) (h5 : keyOf i j ≠ keyOf (linkCnt n) 5) (hi : isLogIdx i = false) : Machine.get t i j = Machine.get s i j :=
  h.keeps.get (by simp [h1, h3, h5]) hi

theorem present_of_station {s : State} {n : Nat} (f : Station → Station) : present (setStation s n f) n = present s n := rfl

/-- On an occasion of R391 a link that may train begins. -/
theorem linkUp_begins {s : State} {n : Nat} (serve : Bool) (hp : present s n = true) (hgate : s.clk.gateOpen = true) (h1 : linkState s n ≠ 1)
    (h2 : linkState s n ≠ 2) : linkUp s n serve = linkBegin (setStation s n fun x => { x with hardFault := x.hardFault && serve }) n false serve := by
  simp [linkUp, hp, hgate, h1, h2]

/-- It waits for the gate, and a running bring-up goes on. -/
theorem linkUp_waits {s : State} {n : Nat} (h : s.clk.gateOpen = false ∨ linkState s n = 1 ∨ linkState s n = 2) :
    (linkUp s n false).dict = s.dict ∧ (∀ k, station (linkUp s n false) k = station s k) ∧ (linkUp s n false).md = s.md := by
  unfold linkUp
  split
  · exact ⟨rfl, fun _ => rfl, rfl⟩
  · split
    · refine ⟨rfl, fun k => ?_, rfl⟩
      by_cases hk : k = n
      · subst hk
        rw [station_setStation_same, Bool.or_false]
      · exact station_setStation_other s _ hk
    next hgate =>
      rw [if_pos (h.resolve_left (by simpa using hgate))]
      exact ⟨rfl, fun _ => rfl, rfl⟩

/-! ## A step that fails (R393) -/

/-- The first failure repeats the bring-up, as second serve. -/
theorem linkFail_repeats {s : State} {n : Nat} (h : (station s n).linkRepeat = false) : linkFail s n =
    (linkBegin (serveBegin (sat s (linkCnt n) 4) .linkBringUp n 0 9 (linkIdx n) 8) n true (station s n).linkServe, false) := by
  simp [linkFail, h]

/-- The failure of the repetition, on record. -/
def linkFailed (s : State) (n : Nat) : State :=
  let t := put (setLinkState (sat s (linkCnt n) 4) n 4) (linkIdx n) 8 (station s n).linkStep
  let t := log t clsFault 1 9 n (linkIdx n) 8 none (station s n).linkStep
  let t := doubleFault t .linkBringUp n 0 9 (linkIdx n) 8
  setStation t n fun y => { y with linkStep := 0, linkServe := false }

theorem linkFail_fails {s : State} {n : Nat} (h : (station s n).linkRepeat = true) : linkFail s n =
    if (station s n).linkServe then (doubleFault (linkFailed s n) .link n 0 9 (linkIdx n) 4, true) else (linkFailed s n, false) := by
  simp [linkFail, linkFailed, h]

/-- The link has FAILED. -/
structure LinkDown (n : Nat) (s t : State) : Prop where
  op : LinkOp n s t
  count : get t (linkCnt n) 4 = min (get s (linkCnt n) 4 + 1) 65535
  state : linkState t n = 4
  step : get t (linkIdx n) 8 = (station s n).linkStep
  served : serving t .linkBringUp n = false

theorem linkFailed_down (s : State) {n : Nat} (hn : n < 6) : LinkDown n s (linkFailed s n) := by
  have hset := setLinkState_set (sat s (linkCnt n) 4) hn 4
  have hcount : get (setLinkState (sat s (linkCnt n) 4) n 4) (linkCnt n) 4 = min (get s (linkCnt n) 4 + 1) 65535 := by
    rw [hset.get (linkCnt_ne_linkIdx (by decide) (by decide)) (linkCnt_key_ne (by decide)) (isLogIdx_linkCnt hn)]
    exact get_put_same s _ _ (isLogIdx_linkCnt hn)
  unfold linkFailed
  dsimp only
  generalize setLinkState (sat s (linkCnt n) 4) n 4 = t at hset hcount ⊢
  have hlog := (log_sameButLog (put t (linkIdx n) 8 (station s n).linkStep) clsFault 1 9 n (linkIdx n) 8 none (station s n).linkStep).trans
    (doubleFault_sameButLog _ .linkBringUp n 0 9 (linkIdx n) 8)
  have hserved := serving_doubleFault (log (put t (linkIdx n) 8 (station s n).linkStep) clsFault 1 9 n (linkIdx n) 8 none (station s n).linkStep)
    .linkBringUp n 0 9 (linkIdx n) 8
  generalize doubleFault (log (put t (linkIdx n) 8 (station s n).linkStep) clsFault 1 9 n (linkIdx n) 8 none (station s n).linkStep)
    .linkBringUp n 0 9 (linkIdx n) 8 = u at hlog hserved ⊢
  have hop : LinkOp n s u := ((linkOp_sat n s _ _).trans hset.op).trans ((linkOp_put n t _ _ _).trans (hlog.linkOp n))
  exact {
    op := hop.trans (linkOp_setStation u n _)
    count := (hlog.get _ (isLogIdx_linkCnt hn)).trans ((get_put_other t _ (linkCnt_ne_linkIdx (by decide) (by decide))).trans hcount)
    state := (hlog.get _ (isLogIdx_linkIdx hn)).trans ((get_put_other t _ (linkIdx_key_ne (by decide))).trans hset.state)
    step := (hlog.get _ (isLogIdx_linkIdx hn)).trans (get_put_same t _ _ (isLogIdx_linkIdx hn))
    served := hserved }

theorem safestopBy_stopped {s : State} (h : s.md.mode ∈ operating) (inst : Nat) : Stopped7 (safestopBy s 7 inst) := by
  obtain ⟨hmode, hcause, -⟩ := safestopBy_operating h 7 inst
  exact ⟨hmode, hcause⟩

/-! ## The link comes UP (R392 step 5) -/

/-- What UP leaves: its mechanisms' second serves have passed and its cause is gone. -/
structure LinkUpNow (n : Nat) (s t : State) : Prop where
  op : LinkOp n s t
  state : linkState t n = 3
  step : (station t n).linkStep = 0
  hardFault : (station t n).hardFault = false
  bringUp : serving t .linkBringUp n = false
  link : serving t .link n = false
  cause : (7, causeInst .link n) ∉ t.log.causes

theorem linkIsUp_up (s : State) {n : Nat} (hn : n < 6) : LinkUpNow n s (linkIsUp s n) := by
  have hset := setLinkState_set s hn 3
  unfold linkIsUp
  dsimp only
  generalize setLinkState s n 3 = a at hset ⊢
  have hst : station (setStation a n fun x => { x with linkStep := 0, hardFault := false, softTimes := [], linkServe := false, regsDue := false }) n =
      { station a n with linkStep := 0, hardFault := false, softTimes := [], linkServe := false, regsDue := false } := station_setStation_same a n _
  have hop := hset.op.trans (linkOp_setStation a n fun x => { x with linkStep := 0, hardFault := false, softTimes := [], linkServe := false, regsDue := false })
  have hstate : linkState (setStation a n fun x => { x with linkStep := 0, hardFault := false, softTimes := [], linkServe := false, regsDue := false }) n = 3 :=
    hset.state
  generalize setStation a n (fun x => { x with linkStep := 0, hardFault := false, softTimes := [], linkServe := false, regsDue := false }) = t at hst hop hstate ⊢
  have hlog : SameButLog t (causeEnd (servePass (servePass t .linkBringUp n 9 (linkIdx n) 8) .link n 9 (linkIdx n) 4) 7 (causeInst .link n)) :=
    .trans (servePass_sameButLog _ _ _ _ _ _) (.trans (servePass_sameButLog _ _ _ _ _ _) (causeEnd_sameButLog _ _ _))
  have hserves := serves_of_serveList (causeEnd_serveList (servePass (servePass t .linkBringUp n 9 (linkIdx n) 8) .link n 9 (linkIdx n) 4) 7 (causeInst .link n))
  have hstn := station_of_sameButLog hlog n
  exact {
    op := hop.trans (hlog.linkOp n)
    state := (hlog.get _ (isLogIdx_linkIdx hn)).trans hstate
    step := by rw [hstn, hst]
    hardFault := by rw [hstn, hst]
    bringUp := by rw [serving_congr hserves, serving_servePass_other _ (by decide), serving_servePass]
    link := by rw [serving_congr hserves, serving_servePass]
    cause := not_mem_causeEnd _ _ _ }

/-! ## A hard fault (R401) -/

/-- The fault on record: counted, its sheets spilled, Status kept. -/
def linkFaultRecord (s : State) (n status : Nat) : State :=
  let t := setStation s n fun x => { x with hardFault := true }
  let t := sat t (linkCnt n) 2
  let t := spillWhere t (fun sh => sh.fired.testBit n && !sh.imaged.testBit n) (some n)
  let t := put (sendLspi t n [lspiRead 1]) (linkIdx n) 4 status
  log t clsFault 1 9 n (linkIdx n) 4 none status

/-- The link goes off and trains again, as second serve. -/
def linkRetrains (s : State) (n : Nat) : State :=
  linkUp (sendLspi (setLinkState (serveBegin s .link n 0 9 (linkIdx n) 4) n 0) n [lspiWrite 2 2]) n true

theorem linkHardFault_eq (s : State) (n status : Nat) : linkHardFault s n status =
    if servedWithin s .link n (ticksS 1) then
      (doubleFault (setLinkState (linkFaultRecord s n status) n 4) .link n 0 9 (linkIdx n) 4, true)
    else (linkRetrains (linkFaultRecord s n status) n, false) := by
  simp only [linkHardFault, linkFaultRecord, linkRetrains]

/-- What a hard fault shows at once. -/
structure LinkFaulted (n status : Nat) (s t : State) : Prop where
  op : LinkOp n s t
  count : get t (linkCnt n) 2 = min (get s (linkCnt n) 2 + 1) 65535
  status : get t (linkIdx n) 4 = status
  hardFault : (station t n).hardFault = true
  spills : ∀ sh ∈ s.sheets, sh.committed = true → sh.fired.testBit n = true → sh.imaged.testBit n = false → ∃ y ∈ t.sheets, y.uid = sh.uid ∧ y.spoiled = true

theorem linkFaultRecord_faulted (s : State) {n : Nat} (hn : n < 6) (status : Nat) : LinkFaulted n status s (linkFaultRecord s n status) := by
  have hst : station (setStation s n fun x => { x with hardFault := true }) n = { station s n with hardFault := true } := station_setStation_same s n _
  have hop := linkOp_setStation s n fun x => { x with hardFault := true }
  have hcnt : get (setStation s n fun x => { x with hardFault := true }) (linkCnt n) 2 = get s (linkCnt n) 2 := rfl
  have hsheets : (setStation s n fun x => { x with hardFault := true }).sheets = s.sheets := rfl
  unfold linkFaultRecord
  dsimp only
  generalize setStation s n (fun x => { x with hardFault := true }) = a at hst hop hcnt hsheets ⊢
  have hspill : ∀ sh ∈ s.sheets, sh.committed = true → sh.fired.testBit n = true → sh.imaged.testBit n = false →
      ∃ y ∈ (spillWhere (sat a (linkCnt n) 2) (fun sh => sh.fired.testBit n && !sh.imaged.testBit n) (some n)).sheets, y.uid = sh.uid ∧ y.spoiled = true :=
    fun sh hsh hc hf hi => ⟨sh.spill (some n), List.mem_map.2 ⟨sh, by rw [sat, satBy, put_sheets, hsheets]; exact hsh, if_pos (by simp [hc, hf, hi])⟩, rfl, rfl⟩
  have hcount : get (spillWhere (sat a (linkCnt n) 2) (fun sh => sh.fired.testBit n && !sh.imaged.testBit n) (some n)) (linkCnt n) 2 =
      min (get s (linkCnt n) 2 + 1) 65535 := (get_put_same a _ _ (isLogIdx_linkCnt hn)).trans (by rw [hcnt]; rfl)
  have hopb : LinkOp n a (spillWhere (sat a (linkCnt n) 2) (fun sh => sh.fired.testBit n && !sh.imaged.testBit n) (some n)) := ⟨rfl, fun _ _ => rfl⟩
  have hstb : station (spillWhere (sat a (linkCnt n) 2) (fun sh => sh.fired.testBit n && !sh.imaged.testBit n) (some n)) n = station a n := rfl
  generalize spillWhere (sat a (linkCnt n) 2) (fun sh => sh.fired.testBit n && !sh.imaged.testBit n) (some n) = b at hspill hcount hopb hstb ⊢
  have hlog := log_sameButLog (put (sendLspi b n [lspiRead 1]) (linkIdx n) 4 status) clsFault 1 9 n (linkIdx n) 4 none status
  exact {
    op := (hop.trans hopb).trans (((linkOp_sendLspi n b _ _).trans (linkOp_put n _ _ _ _)).trans (hlog.linkOp n))
    count := (hlog.get _ (isLogIdx_linkCnt hn)).trans ((get_put_other (sendLspi b n [lspiRead 1]) _ (linkCnt_ne_linkIdx (by decide) (by decide))).trans hcount)
    status := (hlog.get _ (isLogIdx_linkIdx hn)).trans (get_put_same (sendLspi b n [lspiRead 1]) _ _ (isLogIdx_linkIdx hn))
    hardFault := by
      rw [station_of_sameButLog hlog]
      exact congrArg Station.hardFault (hstb.trans hst)
    spills := by
      rw [hlog.sheets]
      exact hspill }

theorem LinkFaulted.op_md {n status : Nat} {s t : State} (h : LinkFaulted n status s t) : t.md = s.md := h.op.md

theorem LinkFaulted.log {n status : Nat} {s t u : State} (hn : n < 6) (h : LinkFaulted n status s t) (k : SameButLog t u) : LinkFaulted n status s u :=
  ⟨h.op.trans (k.linkOp n), (k.get _ (isLogIdx_linkCnt hn)).trans h.count, (k.get _ (isLogIdx_linkIdx hn)).trans h.status,
    by rw [station_of_sameButLog k]; exact h.hardFault, by rw [k.sheets]; exact h.spills⟩

theorem LinkFaulted.set {n status v : Nat} {s t u : State} (hn : n < 6) (h : LinkFaulted n status s t) (k : LinkSet n v t u) : LinkFaulted n status s u := by
  obtain ⟨f, q, l, hst⟩ := k.station
  exact ⟨h.op.trans k.op, (k.get (linkCnt_ne_linkIdx (by decide) (by decide)) (linkCnt_key_ne (by decide)) (isLogIdx_linkCnt hn)).trans h.count,
    (k.get (linkIdx_key_ne (by decide)) (Ne.symm (linkCnt_ne_linkIdx (by decide) (by decide))) (isLogIdx_linkIdx hn)).trans h.status,
    by rw [hst]; exact h.hardFault, by rw [k.sheets]; exact h.spills⟩

theorem LinkFaulted.setStation {n status : Nat} {s t : State} (h : LinkFaulted n status s t) {f : Station → Station}
    (hf : (f (station t n)).hardFault = true) : LinkFaulted n status s (setStation t n f) :=
  ⟨h.op.trans (linkOp_setStation t n f), h.count, h.status, by rw [station_setStation_same]; exact hf, h.spills⟩

theorem LinkFaulted.sendLspi {n status : Nat} {s t : State} (h : LinkFaulted n status s t) (l : List Nat) : LinkFaulted n status s (sendLspi t n l) :=
  ⟨h.op.trans (linkOp_sendLspi n t n l), h.count, h.status, h.hardFault, h.spills⟩

/-- A link that is off goes on to train, or waits; its fault stays on record. -/
theorem LinkFaulted.linkUp {n status : Nat} {s t : State} (hn : n < 6) (h : LinkFaulted n status s t) :
    LinkFaulted n status s (linkUp t n true) ∧ (Machine.linkUp t n true).log = t.log := by
  unfold Machine.linkUp
  split
  · exact ⟨h, rfl⟩
  · split
    · exact ⟨h.setStation h.hardFault, rfl⟩
    · split
      · exact ⟨h, rfl⟩
      · have hkept := h.setStation (f := fun x => { x with hardFault := x.hardFault && true }) (by rw [h.hardFault]; rfl)
        have hbegun := linkBegin_begun (Machine.setStation t n fun x => { x with hardFault := x.hardFault && true }) hn false true
        refine ⟨⟨hkept.op.trans hbegun.op, ?_, ?_, hbegun.hardFault.trans hkept.hardFault, ?_⟩, hbegun.log⟩
        · exact (hbegun.get (linkCnt_ne_linkIdx (by decide) (by decide)) (linkCnt_key_ne (by decide)) (linkCnt_key_ne (by decide))
            (isLogIdx_linkCnt hn)).trans hkept.count
        · exact (hbegun.get (linkIdx_key_ne (by decide)) (Ne.symm (linkCnt_ne_linkIdx (by decide) (by decide)))
            (Ne.symm (linkCnt_ne_linkIdx (by decide) (by decide))) (isLogIdx_linkIdx hn)).trans hkept.status
        · rw [hbegun.sheets]
          exact hkept.spills

/-- The first hard fault begins the second serve of the link (R401). -/
theorem hardFault_first {s : State} {n : Nat} (hn : n < 6) (status : Nat) (h : servedWithin s .link n (ticksS 1) = false) :
    LinkFaulted n (status % 65536) s (hardFault s n status) ∧ serving (hardFault s n status) .link n = true := by
  have hrec := linkFaultRecord_faulted s hn (status % 65536)
  have heq : hardFault s n status = linkRetrains (linkFaultRecord s n (status % 65536)) n := by
    rw [hardFault, linkHardFault_eq, h, if_neg Bool.false_ne_true]
    rfl
  rw [heq]
  unfold linkRetrains
  generalize linkFaultRecord s n (status % 65536) = t at hrec ⊢
  have hbegin := hrec.log hn (serveBegin_sameButLog t .link n 0 9 (linkIdx n) 4)
  have hserving := serving_serveBegin t .link n 0 9 (linkIdx n) 4
  generalize serveBegin t .link n 0 9 (linkIdx n) 4 = u at hbegin hserving ⊢
  have hset := setLinkState_set u hn 0
  obtain ⟨hup, hlog⟩ := ((hbegin.set hn hset).sendLspi [lspiWrite 2 2]).linkUp hn
  exact ⟨hup, (serving_congr (by rw [hlog, Machine.sendLspi, emitAll_log, hset.log]) _ _).trans hserving⟩

/-- A hard fault within a second of the last serve stops the press (R401). -/
theorem hardFault_again {s : State} {n : Nat} (hn : n < 6) (status : Nat) (h : servedWithin s .link n (ticksS 1) = true) (hop : s.md.mode ∈ operating) :
    Stopped7 (hardFault s n status) := by
  have hrec := linkFaultRecord_faulted s hn (status % 65536)
  have heq : hardFault s n status = safestopBy (doubleFault (setLinkState (linkFaultRecord s n (status % 65536)) n 4) .link n 0 9 (linkIdx n) 4) 7
      (causeInst .link n) := by
    rw [hardFault, linkHardFault_eq, h, if_pos rfl]
    rfl
  rw [heq]
  refine safestopBy_stopped ?_ _
  rw [(doubleFault_sameButLog _ _ _ _ _ _ _).md, (setLinkState_set _ hn 4).op.md, hrec.op.md]
  exact hop

end Sys2Proof.Machine

/-! # The beam links' commands: bring-up, faults, service light (R172, R390 to R405, R562, R563) -/

namespace Sys2Proof.Machine

/-! ## Writes to a link -/

theorem linkRow_plain (n : Fin 6) : ∀ j ∈ [2, 9], (writeRow (linkIdx n.val) j).cls ≠ .rws ∧ (writeRow (linkIdx n.val) j).ty ≠ .blob := by
  revert n
  decide +kernel

/-- An accepted write to a link completes with its effect and its answer; the pins' lock sequences alone are touched beside it. -/
theorem linkWrite_completes {c : Instr} {s : State} {acc : Accessor} {n : Fin 6} {j : Nat} {d : List Byte} {P : State → Prop} (hj : j ∈ [2, 9])
    (h : Accepted s acc (linkIdx n.val) j d) (hexec : exec c s = .next (settle (writeCommand acc (linkIdx n.val) j d s)))
    (hP : ∀ p, p.ilockOpen = s.pins.ilockOpen → P (emit (effectHost { s with pins := p } (linkIdx n.val) j (ofLe d) d) (.answer acc 0 []))) : Completes c s P := by
  obtain ⟨hcls, hty⟩ := linkRow_plain n j hj
  have hidx : 0x3000 ≤ linkIdx n.val ∧ linkIdx n.val < 0x30C0 := by unfold linkIdx; omega
  have hmod : linkIdx n.val % 0x20 = 0x14 := by unfold linkIdx; omega
  have hview : viewOf (linkIdx n.val) = (linkIdx n.val, false) := by
    unfold viewOf
    rw [if_neg (by omega), if_neg (by omega), decide_eq_false (by omega)]
  have hthreshold : (thresholdOf (linkIdx n.val) j).isSome = false := by
    unfold thresholdOf
    rw [if_neg (by omega), if_neg (by omega), if_neg (by omega), if_neg (by omega)]
    rfl
  have heffect (t : State) (v : Nat) : writeEffect t acc (writeRow (linkIdx n.val) j) (linkIdx n.val) j v d = (effectHost t (linkIdx n.val) j v d, 0) := by
    unfold writeEffect
    rw [if_neg hcls, if_neg (by omega), hthreshold, if_neg (by simp), if_neg (by omega), if_neg (by omega), if_neg (by simp [hty]), if_neg (by omega),
      if_neg (by omega)]
  refine ⟨_, hexec, ?_⟩
  rw [writeCommand_accepted h hview, heffect, breakLock_eq]
  refine hP _ ?_
  unfold breakLock
  split <;> rfl

theorem effectHost_link (s : State) {n : Nat} (hn : n < 6) (v : Nat) (d : List Byte) :
    effectHost s (linkIdx n) 2 v d = linkUp s n false ∧ effectHost s (linkIdx n) 9 v d = serviceLight s n v := by
  have hno : ¬(0x5000 ≤ linkIdx n ∧ linkIdx n < 0x5040) := by unfold linkIdx; omega
  have hyes : 0x3000 ≤ linkIdx n ∧ linkIdx n < 0x30C0 ∧ linkIdx n % 0x20 = 0x14 := by unfold linkIdx; omega
  have hst : (linkIdx n - 0x3000) / 0x20 = n := by unfold linkIdx; omega
  unfold effectHost
  rw [if_neg hno, if_pos hyes, if_neg hno, if_pos hyes, hst]
  exact ⟨rfl, rfl⟩

/-! ## Retraining (R391) -/

section Retrain

variable {s : State} {acc : Accessor} {st : Fin 6} {d : List Byte}

/-- A retrain while the gate is open begins. -/
theorem linkRetrain_begins (h : Accepted s acc (linkIdx st.val) 2 d) (hp : present s st.val = true) (hgate : s.clk.gateOpen = true)
    (h1 : linkState s st.val ≠ 1) (h2 : linkState s st.val ≠ 2) : Completes (.linkRetrain acc st d) s fun u =>
      linkState u st.val = 1 ∧ (station u st.val).linkStep = 2 ∧ (station u st.val).linkRepeat = false ∧ (station u st.val).hardFault = false ∧
      get u (linkCnt st.val) 3 = min (get s (linkCnt st.val) 3 + 1) 65535 ∧ Answered acc u ∧ (∀ k, k ≠ st.val → station u k = station s k) ∧ u.md = s.md ∧
      KeepsObjects [keyOf (linkIdx st.val) 1, keyOf (linkCnt st.val) 3, keyOf (linkCnt st.val) 5] s u := by
  refine linkWrite_completes (by simp) h rfl fun p _ => ?_
  have hup := linkUp_begins (s := { s with pins := p }) false hp hgate h1 h2
  rw [(effectHost_link _ st.isLt _ _).1, hup]
  have hop := linkOp_setStation { s with pins := p } st.val fun x => { x with hardFault := x.hardFault && false }
  have hfault : (station (setStation { s with pins := p } st.val fun x => { x with hardFault := x.hardFault && false }) st.val).hardFault = false := by
    rw [station_setStation_same]
    exact Bool.and_false _
  have hdict : (setStation { s with pins := p } st.val fun x => { x with hardFault := x.hardFault && false }).dict = s.dict := rfl
  generalize setStation { s with pins := p } st.val (fun x => { x with hardFault := x.hardFault && false }) = t at hop hfault hdict ⊢
  have hbegun := linkBegin_begun t st.isLt false false
  exact ⟨hbegun.state, hbegun.step, hbegun.rep, hbegun.hardFault.trans hfault,
    hbegun.count.trans (by rw [get_congr hdict _ (isLogIdx_linkCnt st.isLt)]), answered_emit acc _,
    fun k hk => (hbegun.op.others k hk).trans (hop.others k hk), hbegun.op.md.trans hop.md,
    keepsObjects_trans (keepsObjects_of_dict_eq hdict) hbegun.keeps⟩

/-- One that may not begin waits, or is in force already. -/
theorem linkRetrain_waits (h : Accepted s acc (linkIdx st.val) 2 d) (hwait : s.clk.gateOpen = false ∨ linkState s st.val = 1 ∨ linkState s st.val = 2) :
    Completes (.linkRetrain acc st d) s fun u => Answered acc u ∧ u.dict = s.dict ∧ (∀ k, station u k = station s k) ∧ u.md = s.md := by
  refine linkWrite_completes (by simp) h rfl fun p _ => ?_
  rw [(effectHost_link _ st.isLt _ _).1]
  obtain ⟨hdict, hst, hmd⟩ := linkUp_waits (s := { s with pins := p }) (n := st.val) hwait
  exact ⟨answered_emit acc _, hdict, hst, hmd⟩

end Retrain

/-! ## Steps (R392, R393) -/

theorem bringingUp_not_up {s : State} {n : Nat} (h : bringingUp s n = true) : (linkState s n == 3) = false := by
  unfold bringingUp at h
  rcases Bool.or_eq_true_iff.1 h with h | h <;> rw [beq_iff_eq.1 h] <;> rfl

section Step

variable {s : State} {st : Fin 6}

theorem exec_stepTimeout (h : bringingUp s st.val = true) :
    exec (.bringUpStepTimeout st) s = .next (settle (onDoubleBy (causeInst .link st.val) (linkFail s st.val))) := by
  simp [exec, execBringUpStepTimeout, h, done]

theorem exec_stepComplete (h : bringingUp s st.val = true) (regs : List Nat) :
    exec (.bringUpStepComplete st regs) s = .next (settle (onDoubleBy (causeInst .link st.val) (linkStepDone s st.val regs))) := by
  simp [exec, execBringUpStepComplete, h, bringingUp_not_up h, done]

theorem exec_regsBack (hdue : (station s st.val).regsDue = true) (hup : linkState s st.val = 3) (regs : List Nat) :
    exec (.bringUpStepComplete st regs) s = .next (settle (regsBack s st.val regs)) := by
  simp [exec, execBringUpStepComplete, hdue, hup, done]

/-- A step has failed: what the three outcomes of `linkFail` are, from a state that differs from s in one object of the link alone. -/
structure StepFails (c : Instr) (s : State) (n : Nat) : Prop where
  repeats : (station s n).linkRepeat = false → Completes c s fun u =>
    get u (linkCnt n) 4 = min (get s (linkCnt n) 4 + 1) 65535 ∧ get u (linkCnt n) 3 = min (get s (linkCnt n) 3 + 1) 65535 ∧ linkState u n = 1 ∧
      (station u n).linkStep = 2 ∧ (station u n).linkRepeat = true ∧ serving u .linkBringUp n = true ∧ (∀ k, k ≠ n → station u k = station s k) ∧ u.md = s.md
  fails : (station s n).linkRepeat = true → (station s n).linkServe = false → Completes c s fun u =>
    get u (linkCnt n) 4 = min (get s (linkCnt n) 4 + 1) 65535 ∧ linkState u n = 4 ∧ get u (linkIdx n) 8 = (station s n).linkStep ∧
      serving u .linkBringUp n = false ∧ (∀ k, k ≠ n → station u k = station s k) ∧ u.md = s.md
  stops : (station s n).linkRepeat = true → (station s n).linkServe = true → s.md.mode ∈ operating → Completes c s Stopped7

theorem onDoubleBy_once (inst : Nat) (t : State) : onDoubleBy inst (t, false) = t := rfl
theorem onDoubleBy_twice (inst : Nat) (t : State) : onDoubleBy inst (t, true) = safestopBy t 7 inst := rfl

theorem stepFails {c : Instr} {s t : State} {n : Nat} (hn : n < 6) (hexec : exec c s = .next (settle (onDoubleBy (causeInst .link n) (linkFail t n))))
    (hop : LinkOp n s t) (hst : station t n = station s n) (hcnt : ∀ j, j < 256 → get t (linkCnt n) j = get s (linkCnt n) j) : StepFails c s n := by
  refine ⟨fun hrep => ⟨_, hexec, ?_⟩, fun hrep hserve => ⟨_, hexec, ?_⟩, fun hrep hserve hmode => ⟨_, hexec, ?_⟩⟩
  · rw [linkFail_repeats (by rw [hst]; exact hrep), onDoubleBy_once]
    have hlog := serveBegin_sameButLog (sat t (linkCnt n) 4) .linkBringUp n 0 9 (linkIdx n) 8
    have hserving := serving_serveBegin (sat t (linkCnt n) 4) .linkBringUp n 0 9 (linkIdx n) 8
    have h4 : get (sat t (linkCnt n) 4) (linkCnt n) 4 = min (get s (linkCnt n) 4 + 1) 65535 :=
      (get_put_same t _ _ (isLogIdx_linkCnt hn)).trans (by rw [hcnt 4 (by decide)]; rfl)
    have h3 : get (sat t (linkCnt n) 4) (linkCnt n) 3 = get s (linkCnt n) 3 :=
      (get_put_other t _ (linkCnt_key_ne (by decide))).trans (hcnt 3 (by decide))
    have hmid : LinkOp n s (serveBegin (sat t (linkCnt n) 4) .linkBringUp n 0 9 (linkIdx n) 8) := (hop.trans (linkOp_sat n t _ _)).trans (hlog.linkOp n)
    have h4' := (hlog.get 4 (isLogIdx_linkCnt hn)).trans h4
    have h3' := (hlog.get 3 (isLogIdx_linkCnt hn)).trans h3
    generalize serveBegin (sat t (linkCnt n) 4) .linkBringUp n 0 9 (linkIdx n) 8 = u at hserving hmid h4' h3' ⊢
    have hbegun := linkBegin_begun u hn true (station t n).linkServe
    refine ⟨?_, hbegun.count.trans (by rw [h3']), hbegun.state, hbegun.step, hbegun.rep, (serving_congr (by rw [hbegun.log]) _ _).trans hserving,
      (hmid.trans hbegun.op).others, (hmid.trans hbegun.op).md⟩
    exact (hbegun.get (linkCnt_ne_linkIdx (by decide) (by decide)) (linkCnt_key_ne (by decide)) (linkCnt_key_ne (by decide)) (isLogIdx_linkCnt hn)).trans h4'
  · have hdown := linkFailed_down t hn
    rw [linkFail_fails (by rw [hst]; exact hrep), hst, hserve, if_neg Bool.false_ne_true, onDoubleBy_once]
    exact ⟨hdown.count.trans (by rw [hcnt 4 (by decide)]), hdown.state, hdown.step.trans (by rw [hst]), hdown.served, (hop.trans hdown.op).others,
      (hop.trans hdown.op).md⟩
  · have hdown := linkFailed_down t hn
    rw [linkFail_fails (by rw [hst]; exact hrep), hst, hserve, if_pos rfl, onDoubleBy_twice]
    refine safestopBy_stopped ?_ _
    rw [(doubleFault_sameButLog _ _ _ _ _ _ _).md, hdown.op.md, hop.md]
    exact hmode

/-- What identifies a driver (R392 step 2): ID, Scratch and the geometry's registers. -/
def driverGood (s : State) (n : Nat) (regs : List Nat) : Prop :=
  regs.getD 0 0 ≠ 0 ∧ regs.getD 0 0 ≠ 0xFFFF ∧ regs.getD 1 0 = 0x5A3C ∧ (regs.drop 2).take 4 = geoRegs s n

theorem stepDone_identified {n : Nat} {regs : List Nat} (h : (station s n).linkStep = 2) (hgood : driverGood s n regs) : linkStepDone s n regs =
    (setStation (setLinkState (put s (linkIdx n) 3 (regs.getD 0 0)) n 2) n fun x => { x with linkStep := 3 }, false) := by
  unfold linkStepDone
  rw [h]
  exact if_pos hgood

theorem stepDone_stranger {n : Nat} {regs : List Nat} (h : (station s n).linkStep = 2) (hbad : ¬driverGood s n regs) :
    linkStepDone s n regs = linkFail (put s (linkIdx n) 3 (regs.getD 0 0 % 65536)) n := by
  unfold linkStepDone
  rw [h]
  exact if_neg hbad

theorem stepDone_configured {n : Nat} {regs : List Nat} (h : (station s n).linkStep = 3) : linkStepDone s n regs =
    if (regs.getD 0 0) % 4 = 3 then (sendLspi (setStation s n fun x => { x with linkStep := 4 }) n [lspiWrite 2 5], false) else (s, false) := by
  simp only [linkStepDone, h]

theorem stepDone_trained {n : Nat} {regs : List Nat} (h : (station s n).linkStep = 4) :
    linkStepDone s n regs = if (regs.getD 0 0).testBit 2 then (linkIsUp s n, false) else (s, false) := by
  simp only [linkStepDone, h]

theorem stepDone_none {n : Nat} {regs : List Nat} (h : (station s n).linkStep ∉ [2, 3, 4]) : linkStepDone s n regs = (s, false) := by
  unfold linkStepDone
  split <;> simp_all

end Step

/-- Settles O43: retraining, the registers of a new geometry, and the steps of a bring-up one after the other. -/
theorem linksComeUp : Obligations.LinksComeUp := by
  unfold Obligations.LinksComeUp
  intro st s n x cfg others failed
  have hn : n < 6 := st.isLt
  have hfailed : ∀ c, StepFails c s n → failed c := fun c h => ⟨h.repeats, h.fails, h.stops⟩
  refine ⟨fun acc d hacc => ⟨fun hp hgate h1 h2 => linkRetrain_begins hacc hp hgate h1 h2, fun hwait => linkRetrain_waits hacc hwait⟩,
    fun hidle => ⟨⟨s, ?_, rfl⟩, fun hno regs => ⟨s, ?_, rfl⟩⟩, fun hdue hup regs => ⟨fun hfit => ?_, fun hmiss hserved => ?_, fun hmiss hserved hop => ?_⟩,
    fun hrun => ⟨?_, fun regs => ?_⟩⟩
  · simp [exec, execBringUpStepTimeout, show bringingUp s st.val = false from hidle, done]
  · have hno' : ((station s st.val).regsDue && linkState s st.val == 3) = false := by
      rcases hno with h | h
      · rw [show (station s st.val).regsDue = false from h, Bool.false_and]
      · rw [beq_eq_false_iff_ne.2 h, Bool.and_false]
    simp [exec, execBringUpStepComplete, hno', show bringingUp s st.val = false from hidle, done]
  · refine ⟨_, exec_regsBack hdue hup regs, ?_⟩
    have hback : regsBack s st.val regs = setStation s n fun x => { x with regsDue := false } := if_pos hfit
    rw [hback]
    exact ⟨station_setStation_same s n _, fun k hk => station_setStation_other s _ hk, rfl⟩
  · refine ⟨_, exec_regsBack hdue hup regs, ?_⟩
    have hback : regsBack s st.val regs = hardFault (setStation s n fun x => { x with regsDue := false }) n (regs.getD 4 0) := if_neg hmiss
    have hop := linkOp_setStation s n fun x => { x with regsDue := false }
    have hcnt : get (setStation s n fun x => { x with regsDue := false }) (linkCnt n) 2 = get s (linkCnt n) 2 := rfl
    have hwithin : servedWithin (setStation s n fun x => { x with regsDue := false }) .link n (ticksS 1) = false := hserved
    rw [hback]
    generalize setStation s n (fun x => { x with regsDue := false }) = t at hop hcnt hwithin ⊢
    obtain ⟨hrec, hserving⟩ := hardFault_first hn (regs.getD 4 0) hwithin
    exact ⟨hrec.count.trans (by rw [hcnt]), hrec.hardFault, hrec.status, hserving, (hop.trans hrec.op).others, (hop.trans hrec.op).md⟩
  · refine ⟨_, exec_regsBack hdue hup regs, ?_⟩
    have hback : regsBack s st.val regs = hardFault (setStation s n fun x => { x with regsDue := false }) n (regs.getD 4 0) := if_neg hmiss
    rw [hback]
    exact hardFault_again hn _ hserved hop
  · exact hfailed _ (stepFails hn (exec_stepTimeout hrun) (.refl n s) rfl fun _ _ => rfl)
  · intro id good
    refine ⟨fun h2 hgood => ?_, fun h2 hbad => ?_, fun h3 hid => ?_, fun h4 hid => ?_, fun hrest => ?_⟩
    · refine ⟨_, exec_stepComplete hrun regs, ?_⟩
      rw [stepDone_identified h2 hgood, onDoubleBy_once]
      have hset := setLinkState_set (put s (linkIdx n) 3 (regs.getD 0 0)) hn 2
      have hid : get (setLinkState (put s (linkIdx n) 3 (regs.getD 0 0)) n 2) (linkIdx n) 3 = regs.getD 0 0 :=
        (hset.get (linkIdx_key_ne (by decide)) (Ne.symm (linkCnt_ne_linkIdx (by decide) (by decide))) (isLogIdx_linkIdx hn)).trans
          (get_put_same s _ _ (isLogIdx_linkIdx hn))
      have hop := (linkOp_put n s (linkIdx n) 3 (regs.getD 0 0)).trans hset.op
      have hstate := hset.state
      change _ ∧ _
      generalize setLinkState (put s (linkIdx n) 3 (regs.getD 0 0)) n 2 = t at hid hop hstate ⊢
      exact ⟨hstate, congrArg Station.linkStep (station_setStation_same t n _), hid, (hop.trans (linkOp_setStation t n _)).others,
        (hop.trans (linkOp_setStation t n _)).md⟩
    · have hexec := exec_stepComplete hrun regs
      rw [stepDone_stranger h2 hbad] at hexec
      exact hfailed _ (stepFails hn hexec (linkOp_put n s _ _ _) rfl fun j hj => get_put_other s _ (linkCnt_ne_linkIdx hj (by decide)))
    · refine ⟨_, exec_stepComplete hrun regs, ?_⟩
      rw [stepDone_configured h3, if_pos hid, onDoubleBy_once]
      exact ⟨(station_setStation_same s n fun y => { y with linkStep := 4 }), fun k hk => (station_setStation_other s (fun y => { y with linkStep := 4 }) hk), rfl⟩
    · refine ⟨_, exec_stepComplete hrun regs, ?_⟩
      rw [stepDone_trained h4, if_pos hid, onDoubleBy_once]
      have hup := linkIsUp_up s hn
      exact ⟨hup.state, hup.step, hup.hardFault, hup.bringUp, hup.link, hup.cause, hup.op.others, hup.op.md⟩
    · have hnone : linkStepDone s st.val regs = (s, false) := by
        rcases hrest with ⟨h3, hid⟩ | ⟨h4, hid⟩ | h
        · rw [stepDone_configured h3, if_neg hid]
        · rw [stepDone_trained h4, if_neg (by rw [show (regs.getD 0 0).testBit 2 = false from hid]; exact Bool.false_ne_true)]
        · exact stepDone_none h
      exact ⟨s, by rw [exec_stepComplete hrun, hnone, onDoubleBy_once], rfl⟩

end Sys2Proof.Machine

/-! # Faults of a beam link, service light and the interlock (R172, R395 to R405, R562, R563) -/

namespace Sys2Proof.Machine

/-! ## Soft errors (R400) -/

/-- Lines are flagged: a resource counter, the sheets' marks and one station's scans alone change. -/
structure SoftFlagged (n : Nat) (s t : State) : Prop where
  op : LinkOp n s t
  keeps : KeepsObjects [keyOf (resIdx n) 7] s t
  log : t.log = s.log
  sheets : ∀ sh ∈ s.sheets, ∃ y ∈ t.sheets, y.uid = sh.uid ∧ y.committed = sh.committed ∧ y.fired = sh.fired ∧ y.imaged = sh.imaged

theorem SoftFlagged.refl (n : Nat) (s : State) : SoftFlagged n s s := ⟨.refl n s, fun _ _ => rfl, rfl, fun sh h => ⟨sh, h, rfl, rfl, rfl, rfl⟩⟩

theorem SoftFlagged.trans {n : Nat} {s t u : State} (h : SoftFlagged n s t) (k : SoftFlagged n t u) : SoftFlagged n s u :=
  ⟨h.op.trans k.op, keepsObjects_trans h.keeps k.keeps, k.log.trans h.log, fun sh hsh => by
    obtain ⟨y, hy, huid, hc, hf, hi⟩ := h.sheets sh hsh
    obtain ⟨z, hz, huid', hc', hf', hi'⟩ := k.sheets y hy
    exact ⟨z, hz, huid'.trans huid, hc'.trans hc, hf'.trans hf, hi'.trans hi⟩⟩

theorem softFlagged_setStation (s : State) (n : Nat) (f : Station → Station) : SoftFlagged n s (setStation s n f) :=
  ⟨linkOp_setStation s n f, fun _ _ => rfl, rfl, fun sh h => ⟨sh, h, rfl, rfl, rfl, rfl⟩⟩

theorem mark_lineFlagged (sh : Sheet) : let y := sh.mark fun x => { x with lineFlagged := true }
    y.uid = sh.uid ∧ y.committed = sh.committed ∧ y.fired = sh.fired ∧ y.imaged = sh.imaged := by
  unfold Sheet.mark
  dsimp only
  split <;> exact ⟨rfl, rfl, rfl, rfl⟩

theorem softFlagged_flagLines (s : State) (n uid : Nat) : SoftFlagged n s (flagLines s n uid) :=
  ⟨⟨rfl, fun _ _ => rfl⟩, keepsObjects_put _ _ _ _ (by simp), rfl, fun sh hsh => by
    refine ⟨_, List.mem_map_of_mem hsh, ?_⟩
    split
    · exact mark_lineFlagged sh
    · exact ⟨rfl, rfl, rfl, rfl⟩⟩

theorem softFlags_flagged (s : State) (n : Nat) : SoftFlagged n s (softFlags s n) := by
  have hmark (t : State) (f : Station → Station) (uid : Nat) : SoftFlagged n t (flagLines (setStation t n f) n uid) :=
    (softFlagged_setStation t n f).trans (softFlagged_flagLines _ n uid)
  have hscan : SoftFlagged n s (match (station s n).scan with
    | some c => if c.flagged then s else flagLines (setStation s n fun x => { x with scan := some { c with flagged := true } }) n c.uid
    | none => s) := by
    split
    · split
      · exact .refl n s
      · exact hmark _ _ _
    · exact .refl n s
  unfold softFlags
  dsimp only
  split
  · split
    · exact hscan.trans (hmark _ _ _)
    · exact hscan
  · exact hscan

/-- The times of the soft errors of the last second, this one first (R400). -/
def softTimesOf (s : State) (n : Nat) : List Nat := s.time :: (station s n).softTimes.filter fun t => decide (s.time - t < ticksS 1)

/-- The counted soft error, before its consequence. -/
def softCounted (s : State) (n : Nat) : State :=
  setStation (softFlags (satBy 32 s (linkCnt n) 1 1) n) n fun x => { x with softTimes := (softTimesOf s n).take 65 }

theorem exec_softError {st : Fin 6} {s : State} (h : linkState s st.val = 3) : exec (.ldFltSoftError st) s =
    .next (settle (if 64 < (softTimesOf s st.val).length then
      hardFault { softCounted s st.val with fresh := (softCounted s st.val).fresh + 1 } st.val (Config.free (softCounted s st.val).fresh)
    else softCounted s st.val)) := by
  show execLdFltSoftError st s = _
  unfold execLdFltSoftError
  rw [if_pos h]
  rfl

/-- What the counting of a soft error does. -/
structure SoftCounted (n : Nat) (s t : State) : Prop where
  op : LinkOp n s t
  count : get t (linkCnt n) 1 = min (get s (linkCnt n) 1 + 1) (2 ^ 32 - 1)
  hard : get t (linkCnt n) 2 = get s (linkCnt n) 2
  state : linkState t n = linkState s n
  log : t.log = s.log
  times : (station t n).softTimes = (softTimesOf s n).take 65
  sheets : ∀ sh ∈ s.sheets, ∃ y ∈ t.sheets, y.uid = sh.uid ∧ y.committed = sh.committed ∧ y.fired = sh.fired ∧ y.imaged = sh.imaged

theorem isLogIdx_resIdx {n : Nat} (hn : n < 6) : isLogIdx (resIdx n) = false := by simp [isLogIdx, resIdx]; omega

theorem softCounted_counts (s : State) {n : Nat} (hn : n < 6) : SoftCounted n s (softCounted s n) := by
  have hbase : LinkOp n s (satBy 32 s (linkCnt n) 1 1) := ⟨rfl, fun _ _ => rfl⟩
  have hcount := get_put_same s 1 (min (get s (linkCnt n) 1 + 1) (2 ^ 32 - 1)) (isLogIdx_linkCnt hn)
  have hhard := get_put_other s (min (get s (linkCnt n) 1 + 1) (2 ^ 32 - 1)) (linkCnt_key_ne (n := n) (a := 2) (b := 1) (by decide))
  have hstate := get_put_other s (min (get s (linkCnt n) 1 + 1) (2 ^ 32 - 1)) (Ne.symm (linkCnt_ne_linkIdx (n := n) (a := 1) (b := 1) (by decide) (by decide)))
  have hsheets : (satBy 32 s (linkCnt n) 1 1).sheets = s.sheets := rfl
  have hlog : (satBy 32 s (linkCnt n) 1 1).log = s.log := rfl
  unfold softCounted
  change get (satBy 32 s (linkCnt n) 1 1) _ _ = _ at hcount hhard hstate
  generalize satBy 32 s (linkCnt n) 1 1 = a at hbase hcount hhard hstate hsheets hlog ⊢
  have hflag := softFlags_flagged a n
  generalize softFlags a n = b at hflag ⊢
  have hkeep (i j : Nat) (hi : isLogIdx i = false) (hne : keyOf i j ≠ keyOf (resIdx n) 7) : get b i j = get a i j := hflag.keeps.get (by simp [hne]) hi
  have hcnt (j : Nat) (hj : j < 256) : keyOf (linkCnt n) j ≠ keyOf (resIdx n) 7 := by unfold keyOf linkCnt resIdx; omega
  have hidx : keyOf (linkIdx n) 1 ≠ keyOf (resIdx n) 7 := by unfold keyOf linkIdx resIdx; omega
  exact {
    op := (hbase.trans hflag.op).trans (linkOp_setStation b n _)
    count := (hkeep _ 1 (isLogIdx_linkCnt hn) (hcnt 1 (by decide))).trans hcount
    hard := (hkeep _ 2 (isLogIdx_linkCnt hn) (hcnt 2 (by decide))).trans hhard
    state := (hkeep _ 1 (isLogIdx_linkIdx hn) hidx).trans hstate
    log := hflag.log.trans hlog
    times := congrArg Station.softTimes (station_setStation_same b n _)
    sheets := hsheets ▸ hflag.sheets }

/-! ## The dark station (R401) -/

/-- A station dark by a hard fault, its link's second serve under way. -/
def LinkDark (n : Nat) (s u : State) : Prop :=
  get u (linkCnt n) 2 = min (get s (linkCnt n) 2 + 1) 65535 ∧ (station u n).hardFault = true ∧ ldEn u n = false ∧ serving u .link n = true ∧ u.md = s.md ∧
    (∀ k, k ≠ n → station u k = station s k) ∧
    ∀ sh ∈ s.sheets, sh.committed = true → sh.fired.testBit n = true → sh.imaged.testBit n = false → ∃ y ∈ u.sheets, y.uid = sh.uid ∧ y.spoiled = true

theorem ldEn_of_hardFault {s : State} {n : Nat} (h : (station s n).hardFault = true) : ldEn s n = false := by simp [ldEn, h]

theorem LinkFaulted.dark {n status : Nat} {s t : State} (h : LinkFaulted n status s t) (hs : serving t .link n = true) : LinkDark n s t :=
  ⟨h.count, h.hardFault, ldEn_of_hardFault h.hardFault, hs, h.op.md, h.op.others, h.spills⟩

theorem servedWithin_congr {s t : State} (h : t.log.serves = s.log.serves) (htime : t.time = s.time) (m : Mech) (n w : Nat) :
    servedWithin t m n w = servedWithin s m n w := by simp only [servedWithin, serveOf, h, htime]

theorem softCounted_dark {s : State} {n : Nat} (hn : n < 6) (hw : servedWithin s .link n (ticksS 1) = false) (v f : Nat) :
    LinkDark n s (hardFault { softCounted s n with fresh := f } n v) := by
  have hc := softCounted_counts s hn
  generalize softCounted s n = t at hc ⊢
  have hw' : servedWithin { t with fresh := f } .link n (ticksS 1) = false := by
    rw [← hw]
    exact servedWithin_congr (t := { t with fresh := f }) (congrArg (·.serves) hc.log) hc.op.time .link n _
  obtain ⟨hrec, hserving⟩ := hardFault_first hn v hw'
  refine ⟨hrec.count.trans (congrArg (fun x => min (x + 1) 65535) hc.hard), hrec.hardFault, ldEn_of_hardFault hrec.hardFault, hserving,
    hrec.op.md.trans hc.op.md, fun k hk => (hrec.op.others k hk).trans (hc.op.others k hk), fun sh hsh h1 h2 h3 => ?_⟩
  obtain ⟨y, hy, huid, hcom, hfired, himaged⟩ := hc.sheets sh hsh
  obtain ⟨z, hz, hzu, hzs⟩ := hrec.spills y hy (hcom.trans h1) (by rw [hfired, h2]) (by rw [himaged, h3])
  exact ⟨z, hz, hzu.trans huid, hzs⟩

theorem softCounted_stops {s : State} {n : Nat} (hn : n < 6) (hw : servedWithin s .link n (ticksS 1) = true) (hop : s.md.mode ∈ operating) (v f : Nat) :
    Stopped7 (hardFault { softCounted s n with fresh := f } n v) := by
  have hc := softCounted_counts s hn
  generalize softCounted s n = t at hc ⊢
  refine hardFault_again hn v ?_ (by rw [show ({ t with fresh := f } : State).md = t.md from rfl, hc.op.md]; exact hop)
  rw [← hw]
  exact servedWithin_congr (t := { t with fresh := f }) (congrArg (·.serves) hc.log) hc.op.time .link n _

theorem exec_hardFault {c : Instr} {st : Fin 6} {v : Nat} {s : State} (hc : c ∈ [Instr.ldFltHardFault st v, .serdesLockLoss st v]) :
    exec c s = .next (settle (if linkState s st.val = 3 then hardFault s st.val v else s)) := by
  rcases List.mem_pair.1 hc with rfl | rfl
  · show execLdFltHardFault st v s = _
    unfold execLdFltHardFault
    split <;> rfl
  · show execSerdesLockLoss st v s = _
    unfold execSerdesLockLoss
    split <;> rfl

theorem linkFaults_of_up {st : Fin 6} {v : Nat} {s : State} {c : Instr} (hc : c ∈ [Instr.ldFltHardFault st v, .serdesLockLoss st v])
    (hup : linkState s st.val = 3) :
    (servedWithin s .link st.val (ticksS 1) = false → Completes c s fun u => LinkDark st.val s u ∧ get u (linkIdx st.val) 4 = v % 65536) ∧
      (servedWithin s .link st.val (ticksS 1) = true → s.md.mode ∈ operating → Completes c s Stopped7) := by
  have hexec := exec_hardFault (s := s) hc
  rw [if_pos hup] at hexec
  refine ⟨fun hw => ⟨_, hexec, ?_⟩, fun hw hop => ⟨_, hexec, hardFault_again st.isLt v hw hop⟩⟩
  obtain ⟨hrec, hserving⟩ := hardFault_first st.isLt v hw
  exact ⟨hrec.dark hserving, hrec.status⟩

theorem softError_of_up {st : Fin 6} {s : State} (hup : linkState s st.val = 3) :
    ((softTimesOf s st.val).length ≤ 64 → Completes (.ldFltSoftError st) s fun u =>
        get u (linkCnt st.val) 1 = min (get s (linkCnt st.val) 1 + 1) (2 ^ 32 - 1) ∧ (station u st.val).softTimes = softTimesOf s st.val ∧
        linkState u st.val = 3 ∧ u.md = s.md) ∧
      (64 < (softTimesOf s st.val).length → servedWithin s .link st.val (ticksS 1) = false → Completes (.ldFltSoftError st) s (LinkDark st.val s)) ∧
      (64 < (softTimesOf s st.val).length → servedWithin s .link st.val (ticksS 1) = true → s.md.mode ∈ operating →
        Completes (.ldFltSoftError st) s Stopped7) := by
  have hexec := exec_softError hup
  refine ⟨fun hfew => ⟨softCounted s st.val, ?_, ?_⟩, fun hmany hw => ⟨_, hexec, ?_⟩, fun hmany hw hop => ⟨_, hexec, ?_⟩⟩
  · rw [hexec, if_neg (by omega)]
  · have hc := softCounted_counts s st.isLt
    exact ⟨hc.count, hc.times.trans (List.take_of_length_le (by omega)), hc.state.trans hup, hc.op.md⟩
  · rw [if_pos hmany]
    exact softCounted_dark st.isLt hw _ _
  · rw [if_pos hmany]
    exact softCounted_stops st.isLt hw hop _ _

/-! ## Service light (R404, R405) -/

/-- The blocks of a window depend on the state by the running timebase alone. -/
theorem lightBlocks_congr {s t : State} (h : get t 0x2200 1 = get s 0x2200 1) (n beam kind : Nat) (f a c : Nat) :
    lightBlocks t n beam kind f a c = lightBlocks s n beam kind f a c := by
  have hblock (x y : Nat) : lightBlock t n beam kind x y = lightBlock s n beam kind x y := by
    simp only [lightBlock, linkCycle, linkTap, linkTaps, h]
  induction f generalizing a c with
  | zero => rfl
  | succ f ih => simp only [lightBlocks, hblock, h, ih]

theorem phaseCycles_congr {s t : State} (h : get t 0x2200 1 = get s 0x2200 1) (d : Nat) : phaseCycles t d = phaseCycles s d := by
  simp only [phaseCycles, h]

/-- Control blocks go out in full; the station's queue alone changes with them. -/
structure ControlSent (n : Nat) (l : List (List Byte)) (s t : State) : Prop where
  op : LinkOp n s t
  dict : t.dict = s.dict
  out : ∀ b ∈ l, Output.block n b ∈ t.out
  svcUntil : (station t n).svcUntil = (station s n).svcUntil

theorem sendControl_sent (s : State) (n : Nat) (l : List (List Byte)) : ControlSent n l s (sendControl s n l) := by
  have hout : ∀ b ∈ l, Output.block n b ∈ (emitAll s (l.map fun b => .block n b)).out := fun b hb =>
    List.mem_append_left _ (List.mem_reverse.2 (List.mem_map_of_mem hb))
  have hop : LinkOp n s (emitAll s (l.map fun b => .block n b)) := ⟨rfl, fun _ _ => rfl⟩
  have hdict : (emitAll s (l.map fun b => .block n b)).dict = s.dict := rfl
  have hst : station (emitAll s (l.map fun b => .block n b)) n = station s n := rfl
  unfold sendControl queueBlocks
  generalize emitAll s (l.map fun b => .block n b) = t at hout hop hdict hst ⊢
  split
  · exact ⟨hop.trans (linkOp_setStation t n _), hdict, hout, by rw [station_setStation_same, hst]⟩
  · exact ⟨hop, hdict, hout, by rw [hst]⟩

theorem sendLight_sent {s : State} {n : Nat} (h : (station s n).scan = none) (beam kind t d : Nat) :
    ControlSent n (lightBlocks s n beam kind 64 t (phaseCycles s d)) s (sendLight s n beam kind t d) := by
  rw [sendLight, h, Option.isSome_none, if_neg Bool.false_ne_true]
  exact sendControl_sent s n _

/-- No tracker's hold touches a station. -/
theorem holdUnlit_stations (s : State) : (holdUnlit s).stations = s.stations := by
  have hlost (t : State) (k : Nat) : (phaseLost t k).stations = t.stations := by
    unfold phaseLost
    split
    · exact (log_sameButLog _ _ _ _ _ _ _ _ _).stations
    · rfl
  refine foldl_keeps (fun t => t.stations = s.stations) _ _ s (fun t k _ ht => ?_) rfl
  show (if trackerLit t k then t else holdOff t k).stations = s.stations
  split
  · exact ht
  · exact (show (holdOff t k).stations = (phaseLost t k).stations from rfl).trans ((hlost t k).trans ht)

/-- Of the pins the light for a service command sees the interlock alone. -/
theorem serviceLit_pins {s : State} {p : Pins} (h : p.ilockOpen = s.pins.ilockOpen) (n : Nat) : serviceLit { s with pins := p } n = serviceLit s n := by
  simp only [serviceLit, h]
  rfl

section Service

variable {s : State} {acc : Accessor} {st : Fin 6} {d : List Byte} {c : Instr}

/-- A service write of any kind is its effect, then its answer. -/
theorem service_completes {P : State → Prop} (h : Accepted s acc (linkIdx st.val) 9 d)
    (hc : c ∈ [Instr.serviceApcWindow acc st d, .serviceBdWindowsStart acc st d, .serviceBdWindowsStop acc st d, .serviceWindow acc st d])
    (hP : ∀ p, p.ilockOpen = s.pins.ilockOpen → P (emit (serviceLight { s with pins := p } st.val (ofLe d)) (.answer acc 0 []))) : Completes c s P := by
  have hexec : exec c s = .next (settle (writeCommand acc (linkIdx st.val) 9 d s)) := by
    simp only [List.mem_cons, List.not_mem_nil, or_false] at hc
    rcases hc with rfl | rfl | rfl | rfl <;> rfl
  refine linkWrite_completes (by simp) h hexec fun p hp => ?_
  rw [(effectHost_link _ st.isLt _ _).2]
  exact hP p hp

/-- Kind 1 turns the BD windows on or off (R404). -/
theorem serviceBd_turns (hkind : field (ofLe d) 4 2 = 1) (t : State) : let u := serviceLight t st.val (ofLe d)
    station u st.val = { station t st.val with svcBd := ofLe d / 65536 != 0 } ∧ (∀ k, k ≠ st.val → station u k = station t k) ∧ u.md = t.md := by
  have heq : serviceLight t st.val (ofLe d) = holdUnlit (setStation t st.val fun x => { x with svcBd := ofLe d / 65536 != 0 }) := by
    rw [serviceLight, if_pos hkind]
  have hsame : station (setStation t st.val fun x => { x with svcBd := ofLe d / 65536 != 0 }) st.val =
      { station t st.val with svcBd := ofLe d / 65536 != 0 } := station_setStation_same t st.val _
  have hother : ∀ k, k ≠ st.val → station (setStation t st.val fun x => { x with svcBd := ofLe d / 65536 != 0 }) k = station t k :=
    fun k hk => station_setStation_other t _ hk
  have hmd : (setStation t st.val fun x => { x with svcBd := ofLe d / 65536 != 0 }).md = t.md := rfl
  rw [heq]
  generalize setStation t st.val (fun x => { x with svcBd := ofLe d / 65536 != 0 }) = a at hsame hother hmd ⊢
  have hst (k : Nat) : station (holdUnlit a) k = station a k := by rw [station, station, holdUnlit_stations]
  exact ⟨(hst _).trans hsame, fun k hk => (hst k).trans (hother k hk), (md_of_modeView (holdUnlit_modeView a)).trans hmd⟩

/-- Any other kind is held while the station's clocks stand (R172, R173). -/
theorem serviceLight_held (hkind : field (ofLe d) 4 2 ≠ 1) {t : State} (h : t.clk.gateOpen = false ∨ t.clk.relock ≠ none) :
    serviceLight t st.val (ofLe d) = setStation t st.val fun x => { x with svcHeld := x.svcHeld ++ [ofLe d] } := by
  have hstand : (!(t.clk.gateOpen && t.clk.relock.isNone)) = true := by
    rcases h with h | h
    · rw [h]
      rfl
    · rw [Option.isNone_eq_false_iff.2 (Option.isSome_iff_ne_none.2 h), Bool.and_false]
      rfl
  rw [serviceLight, if_neg hkind, if_pos hstand]

theorem serviceLight_runs (hkind : field (ofLe d) 4 2 ≠ 1) {t : State} (hgate : t.clk.gateOpen = true) (hrelock : t.clk.relock = none) :
    serviceLight t st.val (ofLe d) = if serviceLit t st.val then
      sendLight (setStation t st.val fun x => { x with svcUntil := max x.svcUntil (t.time + 750 + 1500 * (ofLe d / 65536)) }) st.val (ofLe d % 16)
        (field (ofLe d) 4 2) (16 * t.time + 12000) (24000 * (ofLe d / 65536)) else t := by
  rw [serviceLight, if_neg hkind, hgate, hrelock]
  rfl

/-- Where the lasers may light, its blocks go out. -/
theorem serviceLight_lit (hkind : field (ofLe d) 4 2 ≠ 1) {t : State} (hgate : t.clk.gateOpen = true) (hrelock : t.clk.relock = none)
    (hlit : serviceLit t st.val = true) (hscan : (station t st.val).scan = none) : let u := serviceLight t st.val (ofLe d)
    u.dict = t.dict ∧ u.md = t.md ∧ (station u st.val).svcUntil = max (station t st.val).svcUntil (t.time + 750 + 1500 * (ofLe d / 65536)) ∧
      (∀ k, k ≠ st.val → station u k = station t k) ∧
      ∀ l ∈ lightBlocks t st.val (ofLe d % 16) (field (ofLe d) 4 2) 64 (16 * t.time + 12000) (phaseCycles t (24000 * (ofLe d / 65536))),
        Output.block st.val l ∈ u.out := by
  have heq := serviceLight_runs (st := st) hkind hgate hrelock
  rw [if_pos hlit] at heq
  rw [heq]
  have hop := linkOp_setStation t st.val fun x => { x with svcUntil := max x.svcUntil (t.time + 750 + 1500 * (ofLe d / 65536)) }
  have hst := station_setStation_same t st.val fun x => { x with svcUntil := max x.svcUntil (t.time + 750 + 1500 * (ofLe d / 65536)) }
  have hdict : (setStation t st.val fun x => { x with svcUntil := max x.svcUntil (t.time + 750 + 1500 * (ofLe d / 65536)) }).dict = t.dict := rfl
  generalize setStation t st.val (fun x => { x with svcUntil := max x.svcUntil (t.time + 750 + 1500 * (ofLe d / 65536)) }) = a at hop hst hdict ⊢
  have hbase : get a 0x2200 1 = get t 0x2200 1 := get_congr hdict 1 (by decide)
  have hsent := sendLight_sent (s := a) (n := st.val) (by rw [hst]; exact hscan) (ofLe d % 16) (field (ofLe d) 4 2) (16 * t.time + 12000) (24000 * (ofLe d / 65536))
  refine ⟨hsent.dict.trans hdict, hsent.op.md.trans hop.md, hsent.svcUntil.trans (by rw [hst]), fun k hk => (hsent.op.others k hk).trans (hop.others k hk),
    fun l hl => hsent.out l ?_⟩
  rw [lightBlocks_congr hbase, phaseCycles_congr hbase]
  exact hl

end Service

/-- Settles O44: each outcome of a hard fault is its own lemma; a service write is its effect, then its answer. -/
theorem linksFail : Obligations.LinksFail := by
  unfold Obligations.LinksFail
  constructor
  · intro st s n times dark stopped
    refine ⟨fun hno => ⟨⟨s, ?_, rfl⟩, fun v => ⟨⟨s, ?_, rfl⟩, ⟨s, ?_, rfl⟩⟩⟩, fun hup => ?_⟩
    · show execLdFltSoftError st s = _
      rw [execLdFltSoftError, if_neg hno]
      rfl
    · rw [exec_hardFault (c := .ldFltHardFault st v) (st := st) (v := v) (by simp), if_neg hno]
    · rw [exec_hardFault (c := .serdesLockLoss st v) (st := st) (v := v) (by simp), if_neg hno]
    · obtain ⟨hfew, hdark, hstop⟩ := softError_of_up hup
      exact ⟨hfew, hdark, hstop, fun v c hc => linkFaults_of_up hc hup⟩
  · refine fun s => ⟨fun acc st d hacc c hc => ?_, ⟨_, rfl, rfl⟩, fun ho => ⟨s, ?_, rfl⟩,
      fun ho => ⟨causeEnd s 8 0, ?_, not_mem_causeEnd _ _ _, causeEnd_sameButLog _ _ _⟩⟩
    · refine ⟨fun hkind => ?_, fun hkind hgate hrelock => ⟨fun hlit hscan => ?_, fun hlit => ?_⟩, fun hkind hstand => ?_⟩
      · refine service_completes hacc hc fun p hp => ?_
        obtain ⟨hst, hother, hmd⟩ := serviceBd_turns (st := st) hkind { s with pins := p }
        exact ⟨hst, answered_emit acc _, hother, hmd⟩
      · refine service_completes hacc hc fun p hp => ?_
        obtain ⟨hdict, hmd, huntil, hother, hout⟩ := serviceLight_lit (st := st) hkind (t := { s with pins := p }) hgate hrelock
          ((serviceLit_pins hp st.val).trans hlit) hscan
        exact ⟨answered_emit acc _, hdict, hmd, huntil, hother, fun l hl => List.mem_cons_of_mem _ (hout l (by
          rw [lightBlocks_congr (s := s) (t := { s with pins := p }) rfl, phaseCycles_congr (s := s) (t := { s with pins := p }) rfl]
          exact hl))⟩
      · refine service_completes hacc hc fun p hp => ?_
        have heq := serviceLight_runs (st := st) hkind (t := { s with pins := p }) hgate hrelock
        rw [serviceLit_pins hp, hlit, if_neg Bool.false_ne_true] at heq
        rw [heq]
        exact ⟨answered_emit acc _, rfl, rfl, rfl⟩
      · refine service_completes hacc hc fun p hp => ?_
        rw [serviceLight_held hkind (t := { s with pins := p }) hstand]
        exact ⟨station_setStation_same { s with pins := p } st.val fun x => { x with svcHeld := x.svcHeld ++ [ofLe d] },
          fun k hk => station_setStation_other { s with pins := p } (fun x => { x with svcHeld := x.svcHeld ++ [ofLe d] }) hk, answered_emit acc _, rfl, rfl⟩
    · simp [exec, execIlockClosedHoldEnd, ho, done]
    · simp [exec, execIlockClosedHoldEnd, ho, done]

end Sys2Proof.Machine

/-! # The slots of the scheduler: what marks, drops and flags of events change (R406, R417 to R424) -/

namespace Sys2Proof.Machine

/-! ## Operations on the slots -/

/-- Slots, objects, the log block and what has been sent out alone differ, and of the objects the slot watermark's and those with these keys. -/
structure SlotOp (ks : List Nat) (s t : State) : Prop where
  rest : t = { s with slots := t.slots, dict := t.dict, blobs := t.blobs, log := t.log, net := t.net, out := t.out }
  keeps : ∀ i j, j < 256 → isLogIdx i = false → i ≠ 0x2520 → keyOf i j ∉ ks → get t i j = get s i j
  ready : t.log.ready = s.log.ready

theorem SlotOp.refl (ks : List Nat) (s : State) : SlotOp ks s s := ⟨rfl, fun _ _ _ _ _ _ => rfl, rfl⟩

theorem SlotOp.trans {ks : List Nat} {s t u : State} (h : SlotOp ks s t) (k : SlotOp ks t u) : SlotOp ks s u :=
  ⟨by rw [k.rest, h.rest], fun i j hj hl hi hk => (k.keeps i j hj hl hi hk).trans (h.keeps i j hj hl hi hk), k.ready.trans h.ready⟩

theorem SlotOp.mono {ks ls : List Nat} {s t : State} (h : SlotOp ks s t) (hsub : ∀ k ∈ ks, k ∈ ls) : SlotOp ls s t :=
  ⟨h.rest, fun i j hj hl hi hk => h.keeps i j hj hl hi fun hin => hk (hsub _ hin), h.ready⟩

theorem SlotOp.ite {ks : List Nat} {s a b : State} {c : Prop} [Decidable c] (ha : SlotOp ks s a) (hb : SlotOp ks s b) :
    SlotOp ks s (if c then a else b) := by split <;> assumption

theorem SlotOp.md {ks : List Nat} {s t : State} (h : SlotOp ks s t) : t.md = s.md := by rw [h.rest]
theorem SlotOp.sheets {ks : List Nat} {s t : State} (h : SlotOp ks s t) : t.sheets = s.sheets := by rw [h.rest]
theorem SlotOp.time {ks : List Nat} {s t : State} (h : SlotOp ks s t) : t.time = s.time := by rw [h.rest]
theorem SlotOp.mem {ks : List Nat} {s t : State} (h : SlotOp ks s t) : t.mem = s.mem := by rw [h.rest]
theorem SlotOp.station {ks : List Nat} {s t : State} (h : SlotOp ks s t) (n : Nat) : Machine.station t n = Machine.station s n := by
  unfold Machine.station
  rw [h.rest]

theorem slotOp_put {ks : List Nat} (s : State) {i j : Nat} (v : Nat) (h : i = 0x2520 ∧ j < 256 ∨ keyOf i j ∈ ks) : SlotOp ks s (put s i j v) := by
  refine ⟨rfl, fun a b hb hl ha hk => get_put_other s v ?_, rfl⟩
  rcases h with ⟨rfl, hj⟩ | h
  · exact fun e => ha ((keyOf_inj hb hj).1 e).1
  · intro e
    rw [e] at hk
    exact hk h

theorem slotOp_of_log {ks : List Nat} {s t : State} (h : SameButLog s t) (hready : t.log.ready = s.log.ready) : SlotOp ks s t :=
  ⟨by rw [h], fun _ j _ hl _ _ => h.get j hl, hready⟩

theorem slotOp_log {ks : List Nat} (s : State) (cls kind src inst i j : Nat) (ser : Option Nat) (d : Nat) :
    SlotOp ks s (log s cls kind src inst i j ser d) :=
  slotOp_of_log (log_sameButLog _ _ _ _ _ _ _ _ _) (congrArg LogState.log_ready (log_logState _ _ _ _ _ _ _ _ _))

theorem slotOp_watch (s : State) {sub : Nat} (hsub : sub < 200) (old v : Nat) : SlotOp [] s (watch true s 0x2520 sub old v) := by
  have hput (u : State) (j : Nat) (hj : j < 256) (v : Nat) : SlotOp [] u (put u 0x2520 j v) := slotOp_put u v (.inl ⟨rfl, hj⟩)
  unfold watch
  dsimp only
  split
  · refine (hput _ _ (by omega) _).trans ((hput _ (sub + 3) (by omega) _).trans ((hput _ (sub + 1) (by omega) _).trans
      ((hput _ (sub + 2) (by omega) _).trans (.ite (.refl _ _) ?_))))
    exact slotOp_of_log (noticeAlone_sameButLog _ _ _ _) (congrArg LogState.log_ready (noticeAlone_logState _ _ _ _))
  · exact (hput _ _ (by omega) _).trans (hput _ (sub + 3) (by omega) _)

theorem slotOp_setSlots (s : State) (l : Tab Event) : SlotOp [] s (setSlots s l) := by
  have hslots : SlotOp [] s { s with slots := l } := ⟨rfl, fun _ _ _ _ _ _ => rfl, rfl⟩
  unfold setSlots
  exact hslots.trans (slotOp_watch _ (by decide) _ _)

theorem slotOp_putBlob {ks : List Nat} (s : State) (i j : Nat) (l : List Byte) : SlotOp ks s (putBlob s i j l) := ⟨rfl, fun _ _ _ _ _ _ => rfl, rfl⟩

/-! ## Tables without an entry -/

theorem tabFind_tabDel {α : Type} (t : Tab α) (k : Nat) : tabFind (tabDel t k) k = none := by
  unfold tabDel
  induction t with
  | nil => rfl
  | cons p r ih =>
    by_cases hp : p.1 = k
    · rw [List.filter_cons_of_neg (by simp [hp])]
      exact ih
    · rw [List.filter_cons_of_pos (by simp [hp])]
      exact (if_neg hp).trans ih

theorem mem_tabSet {α : Type} {t : Tab α} {k : Nat} {v : α} {q : Nat × α} (h : q ∈ tabSet t k v) : q = (k, v) ∨ q ∈ t := by
  induction t with
  | nil => exact .inl (List.mem_singleton.1 h)
  | cons p r ih =>
    unfold tabSet at h
    split at h
    · exact List.mem_cons.1 h
    · split at h
      · exact (List.mem_cons.1 h).imp_right (List.mem_cons_of_mem p)
      · rcases List.mem_cons.1 h with rfl | h
        · exact .inr List.mem_cons_self
        · exact (ih h).imp_right (List.mem_cons_of_mem p)

/-! ## Flags and marks -/

theorem isLogIdx_2521 : isLogIdx 0x2521 = false := rfl

/-- The flag of an event that fired in time: nothing, or the count and the entry of its COAST tooth. -/
theorem flagEvent_fired (s : State) {f : Event} {c : Bool} (hf : f.status = 8 + 2 * ofBool c) :
    SlotOp [keyOf 0x2521 8] s (flagEvent s f) ∧ (flagEvent s f).slots = s.slots ∧
      get (flagEvent s f) 0x2521 8 = if c = true then min (get s 0x2521 8 + 1) 65535 else get s 0x2521 8 := by
  cases c with
  | false =>
    have heq : flagEvent s f = s := by simp [flagEvent, hf, ofBool, Nat.testBit]
    rw [heq]
    exact ⟨.refl _ s, rfl, rfl⟩
  | true =>
    have heq : flagEvent s f = log (putBlob (sat s 0x2521 8) 0x2524 1 (eventView (sat s 0x2521 8) f)) clsNotice 1 0x0A f.target 0x2524 1
        (f.uid.map fun _ => eventSerial (sat s 0x2521 8) f) (f.status % 8) := by
      simp [flagEvent, hf, ofBool, Nat.testBit]
    rw [heq]
    have hop := slotOp_log (ks := [keyOf 0x2521 8]) (putBlob (sat s 0x2521 8) 0x2524 1 (eventView (sat s 0x2521 8) f)) clsNotice 1 0x0A f.target 0x2524 1
      (f.uid.map fun _ => eventSerial (sat s 0x2521 8) f) (f.status % 8)
    have hlog := log_sameButLog (putBlob (sat s 0x2521 8) 0x2524 1 (eventView (sat s 0x2521 8) f)) clsNotice 1 0x0A f.target 0x2524 1
      (f.uid.map fun _ => eventSerial (sat s 0x2521 8) f) (f.status % 8)
    have hsat : SlotOp [keyOf 0x2521 8] s (sat s 0x2521 8) := slotOp_put s _ (.inr List.mem_cons_self)
    exact ⟨hsat.trans ((slotOp_putBlob _ _ _ _).trans hop), hlog.slots, (hlog.get _ isLogIdx_2521).trans (get_put_same s _ _ isLogIdx_2521)⟩

theorem get_bump_same (s : State) {i : Nat} (j : Nat) (hi : isLogIdx i = false) : get (bump s i j) i j = (get s i j + 1) % 2 ^ 32 :=
  get_put_same s _ _ hi

/-- An event as it fires on its due time: whether its tooth was a COAST tooth, and whether its slot keeps it. -/
def dueOf (s : State) (e : Event) : Due := (eventDue s e).getD { time := 0 }

/-- What an event's mark does: its class is counted, its slot shows it or is free again, the COAST flag is raised. -/
structure Marked (s : State) (k : Nat) (e : Event) (t : State) : Prop where
  op : SlotOp [keyOf 0x2521 (eventClass e.code), keyOf 0x2521 8] s t
  counted : get t 0x2521 (eventClass e.code) = (get s 0x2521 (eventClass e.code) + 1) % 2 ^ 32
  flagged : get t 0x2521 8 = if (dueOf s e).coast = true then min (get s 0x2521 8 + 1) 65535 else get s 0x2521 8
  shown : e.uid ≠ none ∨ (dueOf s e).candidate = true → ∃ f, tabFind t.slots k = some f ∧ f.status = if (dueOf s e).coast = true then 10 else 8
  freed : e.uid = none → (dueOf s e).candidate = false → tabFind t.slots k = none

theorem key2521_ne {a b : Nat} (h : a ≠ b) : keyOf 0x2521 a ≠ keyOf 0x2521 b := fun e => h (by unfold keyOf at e; omega)

theorem eventClass_lt (c : Nat) : eventClass c < 8 := by
  unfold eventClass
  repeat' split
  all_goals decide

/-- The event as its slot shows it once it has fired in time. -/
def firedEvent (s : State) (e : Event) : Event :=
  { e with status := 8 + 2 * ofBool (dueOf s e).coast, lateness := if (dueOf s e).coast then (s.time : Int) - ((eventDue s e).map (·.time)).getD 0 else 0 }

/-- The slot keeps a sheet's event, and one on a candidate. -/
def slotFired (s : State) (k : Nat) (e : Event) : State :=
  if e.uid.isSome || (dueOf s e).candidate then { s with slots := tabSet s.slots k (firedEvent s e) } else setSlots s (tabDel s.slots k)

theorem markFired_eq (s : State) (k : Nat) {e : Event} (hclass : eventClass e.code ≠ 0) (himage : e.code ≠ 1) :
    markFired s k e false = flagEvent (bump (slotFired s k e) 0x2521 (eventClass e.code)) (firedEvent s e) := by
  have hcoast : ((eventDue s e).map (·.coast)).getD false = (dueOf s e).coast := by unfold dueOf; cases eventDue s e <;> rfl
  have hcand : ((eventDue s e).map (·.candidate)).getD false = (dueOf s e).candidate := by unfold dueOf; cases eventDue s e <;> rfl
  unfold markFired slotFired firedEvent
  simp only [hcoast, hcand, himage, hclass, Bool.false_or, Bool.false_eq_true, false_and, if_false]
  cases e.uid <;> simp [ofBool]

theorem markFired_marked (s : State) (k : Nat) {e : Event} (hclass : eventClass e.code ≠ 0) (himage : e.code ≠ 1) :
    Marked s k e (markFired s k e false) := by
  have hlt := eventClass_lt e.code
  have hbase : SlotOp [] s (slotFired s k e) := .ite ⟨rfl, fun _ _ _ _ _ _ => rfl, rfl⟩ (slotOp_setSlots s _)
  have hkept (j : Nat) (hj : j < 256) : get (slotFired s k e) 0x2521 j = get s 0x2521 j := hbase.keeps _ _ hj rfl (by decide) (by simp)
  have hbump : SlotOp [keyOf 0x2521 (eventClass e.code), keyOf 0x2521 8] (slotFired s k e) (bump (slotFired s k e) 0x2521 (eventClass e.code)) :=
    slotOp_put _ _ (.inr List.mem_cons_self)
  obtain ⟨hop, hslots, hflag⟩ := flagEvent_fired (bump (slotFired s k e) 0x2521 (eventClass e.code)) (f := firedEvent s e) rfl
  have hslots : (markFired s k e false).slots = (slotFired s k e).slots := by rw [markFired_eq s k hclass himage, hslots]; rfl
  refine ⟨?_, ?_, ?_, fun h => ⟨firedEvent s e, ?_, ?_⟩, fun hu hc => ?_⟩
  · rw [markFired_eq s k hclass himage]
    exact (hbase.mono (by simp)).trans (hbump.trans (hop.mono (by simp)))
  · rw [markFired_eq s k hclass himage, hop.keeps _ _ (by omega) rfl (by decide) (by simpa using key2521_ne (by omega)), get_bump_same _ _ rfl, hkept _ (by omega)]
  · rw [markFired_eq s k hclass himage, hflag, show get (bump (slotFired s k e) 0x2521 (eventClass e.code)) 0x2521 8 = get s 0x2521 8 from
      (get_put_other _ _ (key2521_ne (by omega))).trans (hkept 8 (by decide))]
  · have hkeep : (e.uid.isSome || (dueOf s e).candidate) = true := by
      rcases h with h | h
      · rw [Option.isSome_iff_ne_none.2 h, Bool.true_or]
      · rw [h, Bool.or_true]
    rw [hslots, slotFired, if_pos hkeep]
    exact tabFind_tabSet_same _ _ _
  · show 8 + 2 * ofBool (dueOf s e).coast = _
    cases (dueOf s e).coast <;> rfl
  · rw [hslots, slotFired, hu, hc, if_neg (by decide), setSlots_slots]
    exact tabFind_tabDel _ _

end Sys2Proof.Machine

/-! # The other events of the slots (R408 to R414, R417, R422, R424) -/

namespace Sys2Proof.Machine

/-! ## A slot fires -/

/-- The state in which the route of a slot's event is checked: its sheet's routing is decided first (R414). -/
def routed (s : State) (e : Event) : State :=
  match e.uid with
  | some v => if e.route = 0 then s else decideRoute s v
  | none => s

theorem fire_eq (s : State) (k : Nat) (e : Event) (seen : Bool) : fire s k e false seen =
    if routeFits (routed s e) e then act (markFired (routed s e) k e false) e seen else dropEvent (routed s e) k := by
  have hr : (if e.route = 0 then s else match e.uid with
      | some u => decideRoute s u
      | none => s) = routed s e := by
    unfold routed
    split
    · cases e.uid <;> rfl
    · cases e.uid <;> rfl
  rw [← hr]
  rfl

theorem routed_same (s : State) (e : Event) : routed s e = { s with sheets := (routed s e).sheets } := by
  unfold routed
  split
  · split <;> rfl
  · rfl

/-- What a decided route leaves of a sheet. -/
def routeDecided (s : State) (uid : Nat) (sh : Sheet) : Sheet :=
  if sh.uid = uid then { sh with purged := some (match sh.purged with
    | some b => b
    | none => sh.routePurge s) } else sh

theorem routeDecided_uid (s : State) (v : Nat) (sh : Sheet) : (routeDecided s v sh).uid = sh.uid := by
  unfold routeDecided
  split <;> rfl

theorem routeDecided_kept (s : State) (v : Nat) (sh : Sheet) : (routeDecided s v sh).committed = sh.committed ∧
    (routeDecided s v sh).outcome = sh.outcome := by
  unfold routeDecided
  split <;> exact ⟨rfl, rfl⟩

theorem routeDecided_other {s : State} {v : Nat} {sh : Sheet} (h : sh.uid ≠ v) : routeDecided s v sh = sh := if_neg h

theorem decideRoute_sheets (s : State) (v : Nat) : (decideRoute s v).sheets = s.sheets.map (routeDecided s v) := rfl

theorem sheetOf_decideRoute {s : State} {v : Nat} {sh : Sheet} (h : sheetOf s v = some sh) :
    sheetOf (decideRoute s v) v = some (routeDecided s v sh) := by
  unfold sheetOf at h ⊢
  rw [decideRoute_sheets, List.find?_map, show ((fun sh : Sheet => sh.uid == v) ∘ routeDecided s v) = fun sh : Sheet => sh.uid == v from
    funext fun x => by rw [Function.comp_apply, routeDecided_uid], h]
  rfl

/-- The commands of the slots, with the code of the action each fires. -/
def slotCommands (slot : Fin 1024) (levels : List (Nat × Bool)) : List (Instr × Nat) :=
  [(.axisMove slot, 0x10), (.axisRampedStop slot, 0x11), (.motorSpeed slot, 0x12), (.pinSet slot, 0x13), (.arrivalCheck slot levels, 0x14),
    (.loopSetPointBank slot, 0x20), (.loopOn slot, 0x21), (.loopOff slot, 0x22), (.sheetExit slot, 0x40), (.logMark slot, 0x41), (.captureTrigger slot, 0x42)]

theorem exec_slot {slot : Fin 1024} {levels : List (Nat × Bool)} {s : State} {q : Instr × Nat} (hq : q ∈ slotCommands slot levels) :
    exec q.1 s = .next (settle (fireSlot s slot.val q.2 (decide (q.2 = 0x14) && arrivalSeen s slot.val levels))) := by
  simp only [slotCommands, List.mem_cons, List.not_mem_nil, or_false] at hq
  rcases hq with rfl | rfl | rfl | rfl | rfl | rfl | rfl | rfl | rfl | rfl | rfl <;> rfl

theorem slotCommands_class {slot : Fin 1024} {levels : List (Nat × Bool)} {q : Instr × Nat} (hq : q ∈ slotCommands slot levels) :
    eventClass q.2 ≠ 0 ∧ q.2 ≠ 1 := by
  have hall : ∀ c ∈ [0x10, 0x11, 0x12, 0x13, 0x14, 0x20, 0x21, 0x22, 0x40, 0x41, 0x42], eventClass c ≠ 0 ∧ c ≠ 1 := by decide
  exact hall q.2 (List.mem_map_of_mem (f := Prod.snd) hq)

theorem code_of_readyEvent {s : State} {k code : Nat} {e : Event} (h : readyEvent s k code = some e) : e.code = code := by
  unfold readyEvent at h
  split at h
  · split at h
    next hc => rw [← Option.some.inj h]; exact hc.1
    · exact absurd h (by simp)
  · exact absurd h (by simp)

/-! ## Arrivals (R409) -/

theorem missMedium_misses (s : State) (v : Nat) : (∀ y ∈ (missMedium s v true).sheets, y.uid = v → y.spoiled = true ∧ y.noMedium = true) ∧
    ∀ q ∈ (missMedium s v true).slots, q.2.uid = some v → q.2.fired = true ∨ eventClass q.2.code ≠ 2 ∧ eventClass q.2.code ≠ 3 := by
  unfold missMedium
  dsimp only
  constructor
  · intro y hy huid
    rw [dropEvents_sheets] at hy
    obtain ⟨x, hx, rfl⟩ := List.mem_map.1 hy
    by_cases hx : x.uid = v
    · rw [if_pos hx]
      exact ⟨rfl, rfl⟩
    · rw [if_neg hx] at huid
      exact absurd huid hx
  · intro q hq huid
    rw [dropEvents_slots] at hq
    have hkept := (List.mem_filter.1 hq).2
    simp only [huid, beq_self_eq_true, Bool.true_and, Bool.true_or, Bool.and_true, Bool.not_and, Bool.not_not, Bool.not_or, Bool.or_eq_true_iff,
      Bool.and_eq_true_iff, Bool.not_eq_true', beq_eq_false_iff_ne] at hkept
    exact hkept

theorem outcome_le (sh : Sheet) : sh.outcome ≤ 2 := by
  unfold Sheet.outcome
  repeat' split
  all_goals decide

/-! ## Exits (R17, R26, R410) -/

/-- The counters of the outcomes are as before. -/
def OutcomesKept (s t : State) : Prop := ∀ j, j < 256 → get t 0x5040 j = get s 0x5040 j

theorem deliver_dict (s : State) (t : Nat) (h : Held) : (deliver s t h).dict = s.dict := by
  have hvec (u : State) (fn v : Nat) : (vector u fn v).dict = u.dict := by
    unfold vector
    split <;> rfl
  have hsig (u : State) : (signalEntry u t).dict = u.dict := by
    unfold signalEntry
    dsimp only
    split
    · exact hvec _ _ _
    · rfl
  have hwrite : (writeSignal s t h).dict = s.dict := by
    unfold writeSignal
    dsimp only
    split
    · exact (hsig _).trans rfl
    · rfl
  unfold deliver
  split
  · dsimp only
    split <;> rfl
  · split
    · rfl
    · exact hwrite

theorem outcomesKept_of_dict {s t : State} (h : t.dict = s.dict) : OutcomesKept s t := fun j _ => get_congr h j rfl

theorem OutcomesKept.trans {s t u : State} (h : OutcomesKept s t) (k : OutcomesKept t u) : OutcomesKept s u := fun j hj => (k j hj).trans (h j hj)

theorem SlotOp.outcomesKept {s t : State} (h : SlotOp [] s t) : OutcomesKept s t := fun j hj => h.keeps _ j hj rfl (by decide) (by simp)

theorem SameButLog.outcomesKept {s t : State} (h : SameButLog s t) : OutcomesKept s t := fun j _ => h.get j rfl

/-- A completion counts its outcome (R268). -/
theorem completion_counts (s : State) (sh : Sheet) {o : Nat} (ho : o ≤ 3) (reason : Nat) (double : Bool) :
    get (completion s sh o reason double) 0x5040 (4 + o) = (get s 0x5040 (4 + o) + 1) % 2 ^ 32 := by
  unfold completion countOutcome
  dsimp only
  rw [if_pos ho, get_bump_same _ _ rfl, get_congr (deliver_dict s sh.tenant _) _ rfl]

/-- A sheet that is not spoiled leaves the press with its completion (R26). -/
theorem finishSheet_exits (s : State) {x : Sheet} (h : x.spoiled = false) :
    (finishSheet s x).sheets = (s.sheets.filter fun y => y.uid != x.uid) ∧ (finishSheet s x).md = s.md ∧
      get (finishSheet s x) 0x5040 (4 + x.outcome) = (get s 0x5040 (4 + x.outcome) + 1) % 2 ^ 32 := by
  have ho : x.outcome ≤ 3 ∧ x.outcome ≠ 2 := by
    unfold Sheet.outcome
    rw [h]
    split
    · contradiction
    · split <;> decide
  have hghost (u : State) : OutcomesKept u (ghostCheck u x.tenant) := by
    refine outcomesKept_of_dict ?_
    unfold ghostCheck
    split
    · unfold toScrubbing
      dsimp only
      split
      · unfold vector
        split <;> rfl
      · rfl
    · rfl
  refine ⟨?_, md_of_modeView (finishSheet_modeView s x), ?_⟩
  · unfold finishSheet
    extract_lets o double s₁ s₂ s₃ r s₄
    have h₂ : s₂.sheets = s.sheets.filter fun y => y.uid != x.uid := by simp [s₂, s₁, removeSheet]
    have h₃ : s₃.sheets = s₂.sheets := by
      simp only [s₃]
      split
      · split
        · exact (doubleFaultAs_sameButLog _ _ _ _ _ _ _ _).sheets
        · split
          · rfl
          · exact (servePass_sameButLog _ _ _ _ _ _).sheets
      · rfl
    have h₄ : s₄ = s₃ := if_neg fun hc => ho.2 hc.1
    rw [ghostCheck_sheets, h₄, h₃, h₂]
  · unfold finishSheet
    extract_lets o double s₁ s₂ s₃ r s₄
    have h₁ : get s₁ 0x5040 (4 + o) = (get s 0x5040 (4 + o) + 1) % 2 ^ 32 := completion_counts s x ho.1 0 double
    have h₂ : OutcomesKept s₁ s₂ := (outcomesKept_of_dict (t := { s₁ with sheets := s₁.sheets.filter fun sh => sh.uid != x.uid }) rfl).trans
      (slotOp_setSlots _ _).outcomesKept
    have h₃ : OutcomesKept s₂ s₃ := by
      simp only [s₃]
      split
      · split
        · exact (doubleFaultAs_sameButLog _ _ _ _ _ _ _ _).outcomesKept
        · split
          · exact (serveDrop_sameButLog _ _ _).outcomesKept
          · exact (servePass_sameButLog _ _ _ _ _ _).outcomesKept
      · exact fun _ _ => rfl
    have h₄ : s₄ = s₃ := if_neg fun hc => ho.2 hc.1
    rw [h₄]
    have hlt : 4 + o < 256 := by omega
    exact ((hghost s₃) _ hlt).trans ((h₃ _ hlt).trans ((h₂ _ hlt).trans h₁))

/-- A mark that is logged heads the ring (R408, R566). -/
theorem actMark_logs {b : State} (e : Event) : SameButLog b (actMark b e) ∧
    (b.log.ready = true → ∃ y, (actMark b e).log.ring.head? = some y ∧ y.tells 0 6 0x0A 0x2521 5 (e.param % 2 ^ 32)) := by
  have heq : actMark b e = logOnly b clsNotice 6 0x0A 255 0x2521 5 (e.uid.map fun _ => eventSerial b e) e.param := rfl
  refine ⟨log_sameButLog _ _ _ _ _ _ _ _ _, fun hready => ?_⟩
  rw [heq]
  exact logOnly_head _ _ _ _ _ _ _ _ hready

/-- The sheet whose trailing edge has left its path is DONE, and no other (R410). -/
theorem actExit_exits {s b : State} {e : Event} {v : Nat} {sh : Sheet} (hb : b.sheets = (routed s e).sheets) (hmd : b.md = s.md)
    (hcount : OutcomesKept s b) (huid : e.uid = some v) (hsh : sheetOf s v = some sh) (hc : sh.committed = true) (hns : sh.spoiled = false) :
    (∀ y ∈ (actExit b e).sheets, y.uid ≠ v) ∧ (∀ y ∈ s.sheets, y.uid ≠ v → y ∈ (actExit b e).sheets) ∧ (actExit b e).md = s.md ∧
      get (actExit b e) 0x5040 (4 + sh.outcome) = (get s 0x5040 (4 + sh.outcome) + 1) % 2 ^ 32 := by
  have hrouted : ∃ x, sheetOf b v = some x ∧ x.committed = true ∧ x.spoiled = false ∧ x.outcome = sh.outcome ∧ x.uid = v ∧
      ∀ y ∈ s.sheets, y.uid ≠ v → y ∈ b.sheets := by
    have hv : sh.uid = v := by simpa using List.find?_some hsh
    have hsheet : sheetOf b v = sheetOf (routed s e) v := by rw [sheetOf, sheetOf, hb]
    rw [hsheet, hb]
    simp only [routed, huid]
    split
    · exact ⟨sh, hsh, hc, hns, rfl, hv, fun y hy _ => hy⟩
    · refine ⟨_, sheetOf_decideRoute hsh, (routeDecided_kept s v sh).1.trans hc, ?_, (routeDecided_kept s v sh).2, (routeDecided_uid s v sh).trans hv,
        fun y hy hne => List.mem_map.2 ⟨y, hy, routeDecided_other hne⟩⟩
      unfold routeDecided
      split <;> exact hns
  obtain ⟨x, hx, hxc, hxs, hxo, hxu, hothers⟩ := hrouted
  have heq : actExit b e = finishSheet (decideRoute b v) (routeDecided b v x) := by
    simp only [actExit, huid, sheetOf_decideRoute hx, (routeDecided_kept b v x).1, hxc, if_true]
  obtain ⟨hsheets, hmd', hcounted⟩ := finishSheet_exits (decideRoute b v) (x := routeDecided b v x) (by unfold routeDecided; split <;> exact hxs)
  have houtcome : (routeDecided b v x).outcome = sh.outcome := (routeDecided_kept b v x).2.trans hxo
  have huid' : (routeDecided b v x).uid = v := (routeDecided_uid b v x).trans hxu
  rw [heq, hsheets, huid']
  refine ⟨fun y hy => by simpa using (List.mem_filter.1 hy).2, fun y hy hne => List.mem_filter.2 ⟨?_, by simpa using hne⟩, hmd'.trans hmd, ?_⟩
  · exact List.mem_map.2 ⟨y, hothers y hy hne, routeDecided_other hne⟩
  · rw [← houtcome, hcounted, show get (decideRoute b v) 0x5040 (4 + (routeDecided b v x).outcome) = get s 0x5040 (4 + (routeDecided b v x).outcome) from
      hcount _ (by have := outcome_le (routeDecided b v x); omega)]

/-- Settles O46: a slot whose turn has come fires by its route, and its action acts on the state it has marked. -/
theorem slotsFire : Obligations.SlotsFire := by
  unfold Obligations.SlotsFire
  intro slot levels s q hq c k code seen
  have hexec : exec c s = .next (settle (fireSlot s k code seen)) := exec_slot (levels := levels) hq
  obtain ⟨hclass, himage⟩ := slotCommands_class (levels := levels) hq
  change eventClass code ≠ 0 at hclass
  change code ≠ 1 at himage
  refine ⟨fun hnone => ⟨s, by rw [hexec, fireSlot, hnone], rfl⟩, fun e he => ?_⟩
  intro r b due
  have hr : r = routed s e := by
    simp only [r, routed] <;> cases e.uid <;> rfl
  have hcode : e.code = code := code_of_readyEvent he
  have hfire : exec c s = .next (settle (if routeFits r e then act b e seen else dropEvent r k)) := by
    rw [hexec, fireSlot, he]
    show Host.Outcome.next (settle (fire s k e false seen)) = _
    rw [fire_eq, ← hr]
  have hsame := routed_same s e
  rw [← hr] at hsame
  have hrget (i j : Nat) : get r i j = get s i j := by rw [hsame]; rfl
  have hmark : Marked r k e b := markFired_marked r k (by rw [hcode]; exact hclass) (by rw [hcode]; exact himage)
  have hdue : due = dueOf r e := rfl
  have hbsheets : b.sheets = r.sheets := hmark.op.sheets
  have hbmd : b.md = s.md := hmark.op.md.trans (by rw [hsame])
  clear_value b due
  have hready : b.log.ready = s.log.ready := hmark.op.ready.trans (by rw [hsame])
  rw [← hcode] at hclass himage ⊢
  refine ⟨fun hno => ⟨_, by rw [hfire, hno, if_neg Bool.false_ne_true], ?_⟩, fun hfits => ?_⟩
  · have hop := slotOp_setSlots r (tabDel r.slots k)
    refine ⟨?_, hop.sheets, hop.md.trans (by rw [hsame]), ?_⟩
    · show tabFind (setSlots r (tabDel r.slots k)).slots k = none
      rw [setSlots_slots]
      exact tabFind_tabDel _ _
    · exact (hop.keeps _ _ (by have := eventClass_lt e.code; omega) rfl (by decide) (by simp)).trans (hrget _ _)
  · rw [hfits, if_pos rfl] at hfire
    refine ⟨⟨hmark.counted.trans (by rw [hrget]), hbsheets, hbmd, ?_, ?_, ?_⟩, ⟨_, hfire, rfl⟩, fun h14 hseen => ⟨_, hfire, ?_⟩,
      fun v h14 hseen huid => ⟨_, hfire, ?_⟩, fun v sh h40 huid hsh hc hns => ⟨_, hfire, ?_⟩, fun h41 => ⟨_, hfire, ?_⟩, fun hhv hno => ⟨_, hfire, ?_⟩⟩
    · rw [hdue, hmark.flagged, hrget]
    · rw [hdue]
      exact hmark.shown
    · rw [hdue]
      exact hmark.freed
    · have hact : act b e seen = actArrival b e seen := by simp [act, h14]
      rw [hact]
      unfold actArrival
      rcases hseen with h | h
      · cases e.uid <;> simp [h]
      · rw [h]
    · have hact : act b e seen = missMedium b v true := by simp [act, h14, actArrival, huid, hseen]
      obtain ⟨hsheets, hslots⟩ := missMedium_misses b v
      rw [hact]
      exact ⟨hsheets, hslots, (md_of_modeView (missMedium_modeView b v true)).trans hbmd⟩
    · have hact : act b e seen = actExit b e := by simp [act, h40]
      have hcount : OutcomesKept s b := fun j hj => (hmark.op.keeps _ _ hj rfl (by decide) (by
        simp only [List.mem_cons, List.not_mem_nil, or_false, not_or]
        have := eventClass_lt e.code
        constructor <;> (unfold keyOf; omega))).trans (hrget _ _)
      rw [hact]
      exact actExit_exits (hbsheets.trans (by rw [hr])) hbmd hcount huid hsh hc hns
    · have hact : act b e seen = actMark b e := by simp [act, h41]
      rw [hact]
      exact ⟨(actMark_logs e).1, fun h => (actMark_logs e).2 (hready.trans h)⟩
    · have hnone : hvActs b = false := by
        rw [← hno]
        simp only [hvActs, hbmd]
      simp only [List.mem_cons, List.not_mem_nil, or_false] at hhv
      rcases hhv with h | h | h <;> simp [act, h, actBank, actLoopOn, actLoopOff, hnone]

end Sys2Proof.Machine

/-! # The raster of a station: FIFO, decoder and freeboard (R330 to R341) -/

namespace Sys2Proof.Machine

/-! ## A watermark (R86) -/

/-- A watched value changes its watermark's objects and the log block alone. -/
structure Watched (ks : List Nat) (s t : State) : Prop where
  rest : t = { s with dict := t.dict, log := t.log, net := t.net, out := t.out }
  keeps : KeepsObjects ks s t
  serves : t.log.serves = s.log.serves

theorem Watched.trans {ks : List Nat} {s t u : State} (h : Watched ks s t) (k : Watched ks t u) : Watched ks s u :=
  ⟨by rw [k.rest, h.rest], keepsObjects_trans h.keeps k.keeps, k.serves.trans h.serves⟩

theorem Watched.mono {ks ls : List Nat} {s t : State} (h : Watched ks s t) (hsub : ∀ k ∈ ks, k ∈ ls) : Watched ls s t :=
  ⟨h.rest, fun k hk => h.keeps k fun hin => hk (hsub k hin), h.serves⟩

theorem Watched.refl (ks : List Nat) (s : State) : Watched ks s s := ⟨rfl, fun _ _ => rfl, rfl⟩

theorem Watched.ite {ks : List Nat} {s a b : State} {c : Prop} [Decidable c] (ha : Watched ks s a) (hb : Watched ks s b) :
    Watched ks s (if c then a else b) := by split <;> assumption

theorem watched_put {ks : List Nat} (s : State) {i j : Nat} (v : Nat) (h : keyOf i j ∈ ks) : Watched ks s (put s i j v) :=
  ⟨rfl, keepsObjects_put s _ _ _ h, rfl⟩

theorem watched_of_log {ks : List Nat} {s t : State} (h : SameButLog s t) (hs : serveList t = serveList s) : Watched ks s t :=
  ⟨by rw [h], keepsObjects_of_dict_eq (by rw [h]), serves_of_serveList hs⟩

/-- The objects of the watermark at a subindex. -/
def watermark (i j : Nat) : List Nat := [keyOf i j, keyOf i (j + 3), keyOf i (j + 1), keyOf i (j + 2)]

theorem watched_watch (high : Bool) (s : State) (i j old v : Nat) : Watched (watermark i j) s (watch high s i j old v) := by
  have hput (u : State) (k : Nat) (hk : keyOf i k ∈ watermark i j) (v : Nat) : Watched (watermark i j) u (put u i k v) := watched_put u v hk
  unfold watch
  dsimp only
  split
  · exact (hput _ j (by simp [watermark]) _).trans ((hput _ (j + 3) (by simp [watermark]) _).trans ((hput _ (j + 1) (by simp [watermark]) _).trans
      ((hput _ (j + 2) (by simp [watermark]) _).trans (.ite (.refl _ _) (watched_of_log (noticeAlone_sameButLog _ _ _ _) (noticeAlone_serveList _ _ _ _))))))
  · exact (hput _ j (by simp [watermark]) _).trans (hput _ (j + 3) (by simp [watermark]) _)

/-! ## The FIFO takes what it can (R330, R336) -/

/-- A station whose FIFO has been filled from the lines that wait: no line is lost and the order stays. -/
structure Filled (x y : Station) : Prop where
  rest : y = { x with backlog := y.backlog, fifo := y.fifo, wr := y.wr, wrNot := y.wrNot }
  lines : y.fifo ++ y.backlog = x.fifo ++ x.backlog

theorem fillFifo_filled (cap f : Nat) (x : Station) : Filled x (fillFifo cap f x) := by
  induction f generalizing x with
  | zero => exact ⟨rfl, rfl⟩
  | succ f ih =>
    unfold fillFifo
    cases hb : x.backlog with
    | nil => exact ⟨rfl, rfl⟩
    | cons r t =>
      dsimp only
      split
      · obtain ⟨hrest, hlines⟩ := ih { x with backlog := t, fifo := x.fifo ++ [r], wr := pointerAfter cap x.wr (ceilDiv r.bytes.length 8),
                                                wrNot := inverted (pointerAfter cap x.wr (ceilDiv r.bytes.length 8)) }
        exact ⟨by rw [hrest], by rw [hlines, hb]; simp⟩
      · exact ⟨rfl, rfl⟩

/-- The objects that the freeboard and the decoder's state are shown in. -/
def rasterKeys (n : Nat) : List Nat := keyOf (freeIdx n) 6 :: keyOf (decIdx n) 1 :: watermark (freeIdx n) 1

/-- One station's raster alone changes: its own part of the state, the objects with these keys, the sheets, the log block. -/
structure RasterOp (ks : List Nat) (n : Nat) (s t : State) : Prop where
  op : LinkOp n s t
  keeps : KeepsObjects ks s t
  serves : t.log.serves = s.log.serves

theorem RasterOp.refl (ks : List Nat) (n : Nat) (s : State) : RasterOp ks n s s := ⟨.refl n s, fun _ _ => rfl, rfl⟩

theorem RasterOp.trans {ks : List Nat} {n : Nat} {s t u : State} (h : RasterOp ks n s t) (k : RasterOp ks n t u) : RasterOp ks n s u :=
  ⟨h.op.trans k.op, keepsObjects_trans h.keeps k.keeps, k.serves.trans h.serves⟩

theorem RasterOp.mono {ks ls : List Nat} {n : Nat} {s t : State} (h : RasterOp ks n s t) (hsub : ∀ k ∈ ks, k ∈ ls) : RasterOp ls n s t :=
  ⟨h.op, fun k hk => h.keeps k fun hin => hk (hsub k hin), h.serves⟩

theorem RasterOp.md {ks : List Nat} {n : Nat} {s t : State} (h : RasterOp ks n s t) : t.md = s.md := h.op.md

theorem Watched.rasterOp {ks : List Nat} {s t : State} (h : Watched ks s t) (n : Nat) : RasterOp ks n s t :=
  ⟨⟨by rw [h.rest], fun k _ => by simp only [station]; rw [h.rest]⟩, h.keeps, h.serves⟩

theorem Watched.station {ks : List Nat} {s t : State} (h : Watched ks s t) (n : Nat) : Machine.station t n = Machine.station s n := by
  unfold Machine.station
  rw [h.rest]

theorem rasterOp_setStation {ks : List Nat} (s : State) (n : Nat) (f : Station → Station) : RasterOp ks n s (setStation s n f) :=
  ⟨linkOp_setStation s n f, fun _ _ => rfl, rfl⟩

theorem rasterOp_modSheet {ks : List Nat} (s : State) (n uid : Nat) (f : Sheet → Sheet) : RasterOp ks n s (modSheet s uid f) :=
  ⟨⟨rfl, fun _ _ => rfl⟩, fun _ _ => rfl, rfl⟩

theorem rasterOp_put {ks : List Nat} (s : State) (n : Nat) {i j : Nat} (v : Nat) (h : keyOf i j ∈ ks) : RasterOp ks n s (put s i j v) :=
  (watched_put s v h).rasterOp n

/-- The freeboard's objects alone follow the FIFO (R336, R337). -/
theorem updateFreeboard_watched (s : State) (n : Nat) : Watched (rasterKeys n) s (updateFreeboard s n) := by
  unfold updateFreeboard
  dsimp only
  exact (watched_put s _ (by simp [rasterKeys])).trans ((watched_watch _ _ _ _ _ _).mono (by simp [rasterKeys]; tauto))

/-- A refill moves lines from those that wait into the FIFO, and nothing else of a station or a sheet. -/
structure Refilled (n : Nat) (s t : State) : Prop where
  op : RasterOp (rasterKeys n) n s t
  station : Filled (station s n) (station t n)
  sheets : t.sheets = s.sheets

theorem refill_refilled (s : State) (n : Nat) : Refilled n s (refill s n) := by
  have hfill : Filled (station s n) (station (setStation s n fun x => fillFifo (fifoWords s n) x.backlog.length x) n) := by
    rw [station_setStation_same]
    exact fillFifo_filled _ _ _
  have hop : RasterOp (rasterKeys n) n s (setStation s n fun x => fillFifo (fifoWords s n) x.backlog.length x) := rasterOp_setStation s n _
  have hsheets : (setStation s n fun x => fillFifo (fifoWords s n) x.backlog.length x).sheets = s.sheets := rfl
  unfold refill
  dsimp only
  generalize (setStation s n fun x => fillFifo (fifoWords s n) x.backlog.length x) = t at hfill hop hsheets ⊢
  have hboard := updateFreeboard_watched t n
  generalize updateFreeboard t n = u at hboard ⊢
  have hset (v : Nat) : Watched (rasterKeys n) u (setDecoder u n v) := watched_put u v (by simp [rasterKeys])
  have hall : Watched (rasterKeys n) t (if (station u n).backlog.isEmpty = true then if get u (decIdx n) 1 = 2 then setDecoder u n 1 else u else setDecoder u n 2) :=
    hboard.trans (.ite (.ite (hset 1) (.refl _ _)) (hset 2))
  exact ⟨hop.trans (hall.rasterOp n), by rw [hall.station n]; exact hfill, by rw [← hsheets, hall.rest]⟩

/-! ## A station's data and plane leave it (R330, R341) -/

/-- Of a sheet's data nothing stays; every other line does. -/
theorem discardData_op (s : State) (n uid : Nat) : RasterOp [] n s (discardData s n uid) ∧ (discardData s n uid).sheets = s.sheets ∧
    station (discardData s n uid) n = { (station s n).keepLines (fifoWords s n) (fun r => r.uid != uid) with
      backlog := (station s n).backlog.filter (fun r => r.uid != uid), tail := (station s n).tail.filter fun r => r.uid != uid } :=
  ⟨rasterOp_setStation s n _, rfl, station_setStation_same s n _⟩

theorem dropPlane_op (s : State) (n state : Nat) : RasterOp [keyOf (decIdx n) 1] n s (dropPlane s n state) ∧ (dropPlane s n state).sheets = s.sheets ∧
    station (dropPlane s n state) n = { station s n with decUid := none, decPos := 0, decBand := 0, decLine := 0 } := by
  refine ⟨?_, rfl, station_setStation_same s n fun x => { x with decUid := none, decPos := 0, decBand := 0, decLine := 0 }⟩
  unfold dropPlane
  exact (rasterOp_setStation s n _).trans (rasterOp_put _ n _ List.mem_cons_self)

/-- A plane that is done with: its sheet's decoder bit is set, and the decoder is free when it worked on it. -/
structure PlaneDone (n uid : Nat) (s t : State) : Prop where
  op : RasterOp [keyOf (decIdx n) 1] n s t
  sheets : t.sheets = s.sheets.map fun sh => if sh.uid = uid then { sh with decoded := setBit sh.decoded n } else sh
  station : station t n = if (station s n).decUid = some uid then { station s n with decUid := none, decPos := 0, decBand := 0, decLine := 0 } else station s n

theorem planeDone_done (s : State) (n uid state : Nat) : PlaneDone n uid s (planeDone s n uid state) := by
  have hop : RasterOp [keyOf (decIdx n) 1] n s (modSheet s uid fun sh => { sh with decoded := setBit sh.decoded n }) := rasterOp_modSheet s n uid _
  have hsheets : (modSheet s uid fun sh => { sh with decoded := setBit sh.decoded n }).sheets =
      s.sheets.map fun sh => if sh.uid = uid then { sh with decoded := setBit sh.decoded n } else sh := rfl
  have hst : station (modSheet s uid fun sh => { sh with decoded := setBit sh.decoded n }) n = station s n := rfl
  unfold planeDone
  dsimp only
  generalize (modSheet s uid fun sh => { sh with decoded := setBit sh.decoded n }) = t at hop hsheets hst ⊢
  obtain ⟨hdrop, hsame, hdst⟩ := dropPlane_op t n state
  split
  next h => exact ⟨hop.trans hdrop, hsame.trans hsheets, by rw [← hst, if_pos h]; exact hdst⟩
  next h => exact ⟨hop, hsheets, by rw [← hst, if_neg h]⟩

/-! ## A station spills a sheet (R341) -/

/-- The sheet as the station's spill leaves it. -/
def spilledAt (n : Nat) (sh : Sheet) : Sheet :=
  { sh with spilled := setBit sh.spilled n, spillDue := clrBit sh.spillDue n, spoiled := true, decoded := setBit sh.decoded n,
            firstSpill := match sh.firstSpill with
              | some f => some f
              | none => some n }

/-- Of a station the FIFO and the decoder alone differ. -/
def RasterOnly (x y : Station) : Prop := y = { x with
  backlog := y.backlog, fifo := y.fifo, wr := y.wr, wrNot := y.wrNot, rd := y.rd, rdNot := y.rdNot, tail := y.tail, decUid := y.decUid, decPos := y.decPos,
  decBand := y.decBand, decLine := y.decLine }

theorem RasterOnly.trans {x y z : Station} (h : RasterOnly x y) (k : RasterOnly y z) : RasterOnly x z := by
  unfold RasterOnly at *
  rw [k, h]

theorem Filled.rasterOnly {x y : Station} (h : Filled x y) : RasterOnly x y := by
  unfold RasterOnly
  rw [h.rest]

theorem Refilled.rasterOnly {n : Nat} {s t : State} (h : Refilled n s t) : RasterOnly (Machine.station s n) (Machine.station t n) := h.station.rasterOnly

theorem PlaneDone.rasterOnly {n uid : Nat} {s t : State} (h : PlaneDone n uid s t) : RasterOnly (Machine.station s n) (Machine.station t n) := by
  rw [h.station]
  split <;> rfl

theorem discardData_rasterOnly (s : State) (n uid : Nat) : RasterOnly (station s n) (station (discardData s n uid) n) := by
  rw [(discardData_op s n uid).2.2]
  rfl

/-- A spill at a station: its sheets take it, and of the station's scan and image nothing changes. -/
structure SpilledNow (n uid : Nat) (s t : State) : Prop where
  op : RasterOp (keyOf (resIdx n) 8 :: rasterKeys n) n s t
  sheets : t.sheets = s.sheets.map fun sh => if sh.uid = uid then spilledAt n sh else sh
  station : RasterOnly (station s n) (station t n)

theorem spillNow_spilled (s : State) (n uid : Nat) : SpilledNow n uid s (spillNow s n uid) := by
  unfold spillNow
  dsimp only
  generalize hg : (fun sh : Sheet => { sh with spilled := setBit sh.spilled n, spillDue := clrBit sh.spillDue n, spoiled := true, firstSpill := match sh.firstSpill with
      | some f => some f
      | none => some n }) = g
  have hbase : RasterOp (keyOf (resIdx n) 8 :: rasterKeys n) n s (sat (modSheet s uid g) (resIdx n) 8) :=
    (rasterOp_modSheet s n uid g).trans (rasterOp_put _ n _ List.mem_cons_self)
  have hsheets : (sat (modSheet s uid g) (resIdx n) 8).sheets = s.sheets.map fun sh => if sh.uid = uid then g sh else sh := rfl
  have hst : station (sat (modSheet s uid g) (resIdx n) 8) n = station s n := rfl
  generalize sat (modSheet s uid g) (resIdx n) 8 = a at hbase hsheets hst ⊢
  have hdiscard := discardData_op a n uid
  have hdiscardSt := discardData_rasterOnly a n uid
  generalize discardData a n uid = b at hdiscard hdiscardSt ⊢
  have hplane := planeDone_done b n uid 4
  generalize planeDone b n uid 4 = c at hplane ⊢
  have hrefill := refill_refilled c n
  exact {
    op := hbase.trans ((hdiscard.1.mono (by simp)).trans ((hplane.op.mono (by simp [rasterKeys])).trans (hrefill.op.mono (by simp +contextual))))
    sheets := by
      rw [hrefill.sheets, hplane.sheets, hdiscard.2.1, hsheets, List.map_map]
      refine List.map_congr_left fun sh _ => ?_
      rw [← hg]
      by_cases h : sh.uid = uid <;> simp [h, spilledAt]
    station := by
      rw [← hst]
      exact hdiscardSt.trans (hplane.rasterOnly.trans hrefill.rasterOnly) }

end Sys2Proof.Machine

/-! # IMAGE events, posts and cancels (R22, R25, R33, R358, R406, R407, R418 to R434) -/

namespace Sys2Proof.Machine

/-! ## Sheets by number -/

theorem uid_of_sheetOf {s : State} {v : Nat} {sh : Sheet} (h : sheetOf s v = some sh) : sh.uid = v := by simpa using List.find?_some h

theorem mem_of_sheetOf {s : State} {v : Nat} {sh : Sheet} (h : sheetOf s v = some sh) : sh ∈ s.sheets := List.mem_of_find?_eq_some h

/-- A change of a sheet that keeps its number is found under it. -/
theorem sheetOf_modSheet {s : State} {v : Nat} {sh : Sheet} (h : sheetOf s v = some sh) {g : Sheet → Sheet} (hg : ∀ x, (g x).uid = x.uid) :
    sheetOf (modSheet s v g) v = some (g sh) := by
  have hmap : ((fun x : Sheet => x.uid == v) ∘ fun x => if x.uid = v then g x else x) = fun x : Sheet => x.uid == v := by
    funext x
    by_cases hx : x.uid = v <;> simp [hx, hg]
  unfold sheetOf at h ⊢
  rw [modSheet, List.find?_map, hmap, h, Option.map_some, if_pos (by simpa using List.find?_some h)]

theorem sheetOf_congr {s t : State} (h : t.sheets = s.sheets) (v : Nat) : sheetOf t v = sheetOf s v := by rw [sheetOf, sheetOf, h]

/-! ## The IMAGE event of a slot -/

theorem imageEvent_some {s : State} {k : Nat} {e : Event} {sh : Sheet} (h : imageEvent s k = some (e, sh)) :
    tabFind s.slots k = some e ∧ e.code = 1 ∧ e.fired = false ∧ e.uid = some sh.uid ∧ sheetOf s sh.uid = some sh := by
  unfold imageEvent at h
  split at h
  next f hf =>
    split at h
    next hc =>
      split at h
      next u hu =>
        obtain ⟨x, hx, he⟩ := Option.map_eq_some_iff.1 h
        obtain ⟨rfl, rfl⟩ := Prod.mk.inj he
        have huid := uid_of_sheetOf hx
        exact ⟨hf, hc.1, by simpa using hc.2, by rw [hu, huid], by rw [huid]; exact hx⟩
      · exact absurd h (by simp)
    · exact absurd h (by simp)
  · exact absurd h (by simp)

theorem exec_image (slot : Fin 640) (late : Bool) (s : State) : exec (.image slot late) s = execImage slot late s := rfl

theorem execImage_none {slot : Fin 640} {s : State} (h : imageEvent s slot.val = none) (late : Bool) :
    execImage slot late s = .next (settle s) := by
  simp only [execImage, h, done]

section Image

variable {slot : Fin 640} {s : State} {e : Event} {sh : Sheet}

theorem execImage_late (h : imageEvent s slot.val = some (e, sh)) :
    execImage slot true s = .next (settle (if e.time ≤ s.time + 16 then lateImage s slot.val e sh else s)) := by
  simp only [execImage, h, if_true]
  split <;> rfl

theorem execImage_undue (h : imageEvent s slot.val = some (e, sh)) (hd : eventDue s e = none) : execImage slot false s = .next (settle s) := by
  simp [execImage, h, hd, done]

theorem execImage_due {d : Due} (h : imageEvent s slot.val = some (e, sh)) (hd : eventDue s e = some d) :
    execImage slot false s = .next (settle (if modeFires s e = true ∧ d.time ≤ firingTime s ∧ tracking s e.target = true ∧ outranked s slot.val e = false
      then fireImage s slot.val e sh.uid d else s)) := by
  simp only [execImage, h, hd, Bool.not_eq_true', Bool.false_eq_true, if_false]
  by_cases hc : modeFires s e = true ∧ d.time ≤ firingTime s ∧ tracking s e.target = true ∧ outranked s slot.val e = false
  · rw [if_pos hc, if_pos hc]
    rfl
  · rw [if_neg hc, if_neg hc]
    rfl

end Image

/-! ## An IMAGE event fires (R25, R358, R424) -/

/-- Unfired events of a sheet that wait for their teeth. -/
def unplaced (s : State) (uid : Nat) : Tab Event :=
  s.slots.filter fun p => p.2.uid == some uid && p.2.ref != 255 && p.2.code != 1 && !p.2.fired

/-- A sheet without such events becomes COMMITTED and nothing else of it. -/
theorem commitSheet_commits {s : State} {uid : Nat} {sh : Sheet} (h : sheetOf s uid = some sh) (hno : unplaced s uid = []) :
    commitSheet s uid = modSheet { s with mem := { s.mem with lastI0 := some sh.i0, lastPeriod := sheetPeriod s sh.lines } } uid
      fun x => { x with state := .committed, sluice := s.time } := by
  unfold commitSheet
  rw [h]
  dsimp only
  have hno' : unplaced (modSheet { s with mem := { s.mem with lastI0 := some sh.i0, lastPeriod := sheetPeriod s sh.lines } } uid
      fun x => { x with state := .committed, sluice := s.time }) uid = [] := hno
  unfold resolveEvents
  unfold unplaced at hno'
  rw [hno', List.foldl_nil]

/-- The station begins the image; its sheet takes note. -/
theorem beginImage_begins (s : State) (n uid tooth : Nat) : (station (beginImage s n uid tooth) n).imaging = some uid ∧
    (station (beginImage s n uid tooth) n).nextScan = 0 ∧ (station (beginImage s n uid tooth) n).scan = none ∧
    (∀ k, k ≠ n → station (beginImage s n uid tooth) k = station s k) ∧ (beginImage s n uid tooth).md = s.md ∧ (beginImage s n uid tooth).slots = s.slots ∧
    (beginImage s n uid tooth).mem = s.mem ∧ (beginImage s n uid tooth).dict = s.dict ∧
    (beginImage s n uid tooth).sheets = (modSheet s uid fun sh => { sh with fired := setBit sh.fired n }).sheets := by
  unfold beginImage
  dsimp only
  generalize (match sheetOf s uid with
    | some sh => sh.cut.testBit n
    | none => false) = c
  refine ⟨?_, ?_, ?_, fun k hk => station_setStation_other _ _ hk, rfl, rfl, rfl, rfl, rfl⟩ <;> rw [station_setStation_same]

/-- A firing image, before its sheet is committed: marked in its slot, counted, and flagged on a COAST tooth. -/
structure ImageMarked (s : State) (k : Nat) (e : Event) (uid : Nat) (d : Due) (f : Event) (t : State) : Prop where
  slots : t.slots = tabSet s.slots k f
  status : f.status = if d.coast = true then 10 else 8
  target : f.target = e.target
  owner : f.uid = e.uid
  code : f.code = e.code
  md : t.md = s.md
  time : t.time = s.time
  mem : t.mem = s.mem
  station : ∀ n, Machine.station t n = Machine.station s n
  counted : get t 0x2521 1 = (get s 0x2521 1 + 1) % 2 ^ 32
  sheet : ∀ sh, sheetOf s uid = some sh → ∃ y, sheetOf t uid = some y ∧ y.committed = sh.committed ∧ y.state = sh.state ∧ y.fired = sh.fired ∧
    y.sluice = sh.sluice ∧ y.i0 = sh.i0 ∧ (d.coast = true → y.mistimed = true)

theorem mark_mistimed (sh : Sheet) : let y := sh.mark fun x => { x with mistimed := true }
    y.uid = sh.uid ∧ y.state = sh.state ∧ y.fired = sh.fired ∧ y.sluice = sh.sluice ∧ y.i0 = sh.i0 ∧ y.mistimed = true := by
  unfold Sheet.mark
  dsimp only
  split <;> exact ⟨rfl, rfl, rfl, rfl, rfl, rfl⟩

/-- The event of an image as its slot shows it. -/
def imageShown (s : State) (e : Event) (d : Due) : Event :=
  { e with status := 8 + 2 * ofBool d.coast, ref := e.target, tooth := (if d.candidate then get s (trkIdx e.target) 7 + 1 else get s (trkIdx e.target) 7) % 2 ^ 32,
           lateness := if d.coast then (s.time : Int) - d.time else 0 }

/-- The slot and the sheet's mark. -/
def imageSlot (s : State) (k : Nat) (e : Event) (uid : Nat) (d : Due) : State :=
  if d.coast then modSheet { s with slots := tabSet s.slots k (imageShown s e d) } uid fun sh => sh.mark fun x => { x with mistimed := true }
  else { s with slots := tabSet s.slots k (imageShown s e d) }

/-- The state in which the image is counted and flagged. -/
def imageCounted (s : State) (k : Nat) (e : Event) (uid : Nat) (d : Due) : State :=
  flagEvent (bump (imageSlot s k e uid d) 0x2521 1) (imageShown s e d)

theorem imageCounted_marked (s : State) (k : Nat) (e : Event) (uid : Nat) (d : Due) :
    ImageMarked s k e uid d (imageShown s e d) (imageCounted s k e uid d) := by
  have hslot : (imageSlot s k e uid d).slots = tabSet s.slots k (imageShown s e d) ∧ (imageSlot s k e uid d).md = s.md ∧
      (imageSlot s k e uid d).time = s.time ∧ (imageSlot s k e uid d).mem = s.mem ∧ (∀ n, station (imageSlot s k e uid d) n = station s n) ∧
      (imageSlot s k e uid d).dict = s.dict := by
    unfold imageSlot
    split <;> exact ⟨rfl, rfl, rfl, rfl, fun _ => rfl, rfl⟩
  have hsheet : ∀ sh, sheetOf s uid = some sh → ∃ y, sheetOf (imageSlot s k e uid d) uid = some y ∧ y.committed = sh.committed ∧ y.state = sh.state ∧
      y.fired = sh.fired ∧ y.sluice = sh.sluice ∧ y.i0 = sh.i0 ∧ (d.coast = true → y.mistimed = true) := fun sh hsh => by
    unfold imageSlot
    split
    · have hfound := sheetOf_modSheet (s := { s with slots := tabSet s.slots k (imageShown s e d) }) hsh (g := fun sh => sh.mark fun x => { x with mistimed := true })
        fun x => (mark_mistimed x).1
      obtain ⟨-, hstate, hfired, hsluice, hi0, hmis⟩ := mark_mistimed sh
      exact ⟨_, hfound, by rw [Sheet.committed, hstate]; rfl, hstate, hfired, hsluice, hi0, fun _ => hmis⟩
    next hc => exact ⟨sh, hsh, rfl, rfl, rfl, rfl, rfl, fun h => absurd h hc⟩
  obtain ⟨hslots, hmd, htime, hmem, hst, hdict⟩ := hslot
  unfold imageCounted
  generalize imageSlot s k e uid d = t at hslots hmd htime hmem hst hdict hsheet ⊢
  obtain ⟨hop, hsame, -⟩ := flagEvent_fired (bump t 0x2521 1) (f := imageShown s e d) rfl
  generalize flagEvent (bump t 0x2521 1) (imageShown s e d) = u at hop hsame ⊢
  exact {
    slots := hsame.trans hslots
    status := by
      show 8 + 2 * ofBool d.coast = _
      cases d.coast <;> rfl
    target := rfl
    owner := rfl
    code := rfl
    md := hop.md.trans hmd
    time := hop.time.trans htime
    mem := hop.mem.trans hmem
    station := fun n => (hop.station n).trans (hst n)
    counted := by
      rw [hop.keeps _ _ (by decide) rfl (by decide) (by decide), get_bump_same _ _ rfl, get_congr hdict _ rfl]
    sheet := fun sh hsh => by
      rw [sheetOf_congr hop.sheets]
      exact hsheet sh hsh }

/-- The state in which the image begins: the first event of a sheet has committed it (R25). -/
def imageReady (s : State) (k : Nat) (e : Event) (uid : Nat) (d : Due) : State :=
  match sheetOf (imageCounted s k e uid d) uid with
  | some sh => if sh.committed && sh.fired != 0 then imageCounted s k e uid d else commitSheet (imageCounted s k e uid d) uid
  | none => imageCounted s k e uid d

theorem fireImage_eq (s : State) (k : Nat) (e : Event) (uid : Nat) (d : Due) :
    fireImage s k e uid d = beginImage (imageReady s k e uid d) e.target uid (imageShown s e d).tooth := rfl

/-- What the image's beginning finds: the sheet COMMITTED, at its sluice or as it was. -/
structure ImageReady (s : State) (k : Nat) (e : Event) (sh : Sheet) (d : Due) (t : State) : Prop where
  slots : t.slots = tabSet s.slots k (imageShown s e d)
  md : t.md = s.md
  station : ∀ n, Machine.station t n = Machine.station s n
  counted : get t 0x2521 1 = (get s 0x2521 1 + 1) % 2 ^ 32
  sheet : ∃ y, sheetOf t sh.uid = some y ∧ (d.coast = true → y.mistimed = true) ∧
    (sh.committed = true → sh.fired ≠ 0 → y.state = .committed ∧ y.sluice = sh.sluice) ∧
    (sh.committed = false ∨ sh.fired = 0 → y.state = .committed ∧ y.sluice = s.time ∧ t.mem.lastI0 = some sh.i0)

theorem unplaced_imageCounted {s : State} {k uid : Nat} {e : Event} {d : Due} (hcode : e.code = 1) (h : unplaced s uid = []) :
    unplaced (imageCounted s k e uid d) uid = [] := by
  refine List.filter_eq_nil_iff.2 fun q hq hkept => ?_
  rw [(imageCounted_marked s k e uid d).slots] at hq
  rcases mem_tabSet hq with rfl | hq
  · simp [imageShown, hcode] at hkept
  · exact List.filter_eq_nil_iff.1 h q hq hkept

theorem imageReady_ready {s : State} {k : Nat} {e : Event} {sh : Sheet} {d : Due} (hcode : e.code = 1) (hsh : sheetOf s sh.uid = some sh)
    (hno : unplaced s sh.uid = []) : ImageReady s k e sh d (imageReady s k e sh.uid d) := by
  have hm := imageCounted_marked s k e sh.uid d
  obtain ⟨y, hy, hyc, hys, hyf, hyl, hyi, hmis⟩ := hm.sheet sh hsh
  have hcommit := commitSheet_commits hy (unplaced_imageCounted hcode hno)
  have heq : imageReady s k e sh.uid d = if (y.committed && y.fired != 0) = true then imageCounted s k e sh.uid d else commitSheet (imageCounted s k e sh.uid d) sh.uid := by
    simp only [imageReady, hy]
  rw [heq]
  generalize imageCounted s k e sh.uid d = t at hm hy hcommit ⊢
  by_cases hdone : (y.committed && y.fired != 0) = true
  · rw [if_pos hdone]
    have hboth : sh.committed = true ∧ sh.fired ≠ 0 := by simpa [hyc, hyf] using hdone
    exact ⟨hm.slots, hm.md, hm.station, hm.counted, y, hy, hmis, fun hc _ => ⟨by rw [hys]; simpa [Sheet.committed] using hc, hyl⟩, fun h => by
      rcases h with h | h
      · exact absurd hboth.1 (by simp [h])
      · exact absurd h hboth.2⟩
  · rw [if_neg hdone, hcommit]
    have hfound := sheetOf_modSheet (s := { t with mem := { t.mem with lastI0 := some y.i0, lastPeriod := sheetPeriod t y.lines } }) hy
      (g := fun x => { x with state := .committed, sluice := t.time }) fun _ => rfl
    refine ⟨hm.slots, hm.md, hm.station, hm.counted, _, hfound, hmis, fun hc hf => absurd ?_ hdone, fun _ => ⟨rfl, hm.time, congrArg some hyi⟩⟩
    simp [hyc, hyf, hc, hf]

/-- An image that fires (R25, R358). -/
theorem fireImage_fires {s : State} {k : Nat} {e : Event} {sh : Sheet} (d : Due) (h : imageEvent s k = some (e, sh)) (hno : unplaced s sh.uid = []) :
    let u := fireImage s k e sh.uid d
    ((station u e.target).imaging = some sh.uid ∧ (station u e.target).nextScan = 0 ∧ (∀ j, j ≠ e.target → station u j = station s j) ∧ u.md = s.md) ∧
      (station u e.target).scan = none ∧
      (∃ f, tabFind u.slots k = some f ∧ f.status = (if d.coast = true then 10 else 8) ∧ f.target = e.target ∧ f.uid = e.uid) ∧
      get u 0x2521 1 = (get s 0x2521 1 + 1) % 2 ^ 32 ∧
      ∃ y ∈ u.sheets, y.uid = sh.uid ∧ y.fired.testBit e.target = true ∧ (d.coast = true → y.mistimed = true) ∧
        (sh.committed = true → sh.fired ≠ 0 → y.state = .committed ∧ y.sluice = sh.sluice) ∧
        (sh.committed = false ∨ sh.fired = 0 → y.state = .committed ∧ y.sluice = s.time ∧ u.mem.lastI0 = some sh.i0) := by
  obtain ⟨-, hcode, -, -, hsh⟩ := imageEvent_some h
  have hm := imageCounted_marked s k e sh.uid d
  have hr := imageReady_ready (k := k) (d := d) hcode hsh hno
  intro u
  have hu : u = _ := fireImage_eq s k e sh.uid d
  rw [hu]
  clear_value u
  generalize imageReady s k e sh.uid d = t at hr ⊢
  obtain ⟨himaging, hnext, hscan, hothers, hmd, hslots, hmem, hdict, hsheets⟩ := beginImage_begins t e.target sh.uid (imageShown s e d).tooth
  obtain ⟨y, hy, hmis, hold, hnew⟩ := hr.sheet
  have hfound := sheetOf_modSheet hy (g := fun x => { x with fired := setBit x.fired e.target }) fun _ => rfl
  generalize beginImage t e.target sh.uid (imageShown s e d).tooth = v at *
  rw [← sheetOf_congr hsheets] at hfound
  refine ⟨⟨himaging, hnext, fun j hj => (hothers j hj).trans (hr.station j), hmd.trans hr.md⟩, hscan,
    ⟨imageShown s e d, by rw [hslots, hr.slots, tabFind_tabSet_same], hm.status, rfl, rfl⟩, ?_, _, mem_of_sheetOf hfound, uid_of_sheetOf hfound,
    testBit_setBit _ _, hmis, hold, fun h => ?_⟩
  · rw [get_congr hdict _ rfl, hr.counted]
  · rw [hmem]
    exact hnew h

/-! ## An IMAGE event that is late (R22, R33, R420) -/

/-- The counts of the scheduler's events are as before. -/
def EventCountsKept (s t : State) : Prop := ∀ j, j < 256 → get t 0x2521 j = get s 0x2521 j

theorem EventCountsKept.trans {s t u : State} (h : EventCountsKept s t) (k : EventCountsKept t u) : EventCountsKept s u :=
  fun j hj => (k j hj).trans (h j hj)

theorem rasterKeys_ge {n k : Nat} (h : k ∈ rasterKeys n) : 0x3000 * 256 ≤ k := by
  simp only [rasterKeys, watermark, List.mem_cons, List.not_mem_nil, or_false, keyOf, freeIdx, decIdx] at h
  omega

theorem RasterOp.eventCountsKept {ks : List Nat} {n : Nat} {s t : State} (h : RasterOp ks n s t) (hks : ∀ k ∈ ks, 0x3000 * 256 ≤ k) : EventCountsKept s t :=
  fun j hj => h.keeps.get (fun hin => by have := hks _ hin; unfold keyOf at this; omega) rfl

theorem forgetAt_forgets (s : State) (uid n : Nat) : EventCountsKept s (forgetAt s uid n) := by
  have hdiscard := (discardData_op s n uid).1.eventCountsKept (by simp)
  unfold forgetAt
  dsimp only
  split
  · generalize discardData s n uid = t at hdiscard ⊢
    have hdrop : EventCountsKept t (if ((station s n).decUid == some uid) = true then dropPlane t n 0 else t) := by
      split
      · exact (dropPlane_op t n 0).1.eventCountsKept (by simp [keyOf, decIdx]; omega)
      · exact fun _ _ => rfl
    exact hdiscard.trans (hdrop.trans ((refill_refilled _ n).op.eventCountsKept fun k hk => rasterKeys_ge hk))
  · exact fun _ _ => rfl

theorem withdrawOne_keeps (s : State) (uid : Nat) : EventCountsKept s (withdrawOne s uid) := by
  have hforget : EventCountsKept s (forgetRaster s uid) :=
    foldl_keeps (EventCountsKept s) _ _ s (fun u n _ hu => hu.trans (forgetAt_forgets u uid n)) fun _ _ => rfl
  unfold withdrawOne
  generalize forgetRaster s uid = t at hforget ⊢
  have hsheet : EventCountsKept t (modSheet t uid withdrawn) := fun _ _ => rfl
  generalize modSheet t uid withdrawn = u at hsheet ⊢
  have hdrop : EventCountsKept u (dropEvents u fun e => e.uid == some uid) := fun j hj => (slotOp_setSlots u _).keeps _ j hj rfl (by decide) (by simp)
  exact hforget.trans (hsheet.trans (hdrop.trans fun j hj => get_put_other _ _ (by unfold keyOf; omega)))

/-- A sheet that is withdrawn is RESIDENT again, also when later ones of its tenant follow it (R22). -/
theorem withdrawForced_withdraws {s : State} {sh : Sheet} (h : sh ∈ s.sheets) : EventCountsKept s (withdrawForced s sh.uid) ∧
    ∃ y ∈ (withdrawForced s sh.uid).sheets, y.uid = sh.uid ∧ y.state = .resident := by
  have hstep (t : State) (v : Nat) (ht : ∃ y ∈ t.sheets, y.uid = sh.uid ∧ y.state = .resident) :
      ∃ y ∈ (withdrawOne t v).sheets, y.uid = sh.uid ∧ y.state = .resident := by
    obtain ⟨y, hy, huid, hstate⟩ := ht
    rw [withdrawOne_sheets]
    refine ⟨_, List.mem_map_of_mem hy, ?_⟩
    split
    · exact ⟨huid, rfl⟩
    · exact ⟨huid, hstate⟩
  unfold withdrawForced
  dsimp only
  refine foldl_keeps (fun t => EventCountsKept s t ∧ ∃ y ∈ t.sheets, y.uid = sh.uid ∧ y.state = .resident) _ _ _ (fun t v _ ht => ?_)
    ⟨withdrawOne_keeps s sh.uid, ?_⟩
  · split
    · split
      · exact ⟨ht.1.trans (withdrawOne_keeps t v), hstep t v ht.2⟩
      · exact ht
    · exact ht
  · rw [withdrawOne_sheets]
    exact ⟨_, List.mem_map_of_mem h, by rw [if_pos rfl]; exact ⟨rfl, rfl⟩⟩

theorem lateImage_first {s : State} {k : Nat} {e : Event} {sh : Sheet} (hsh : sheetOf s sh.uid = some sh) (hc : sh.committed = false) :
    let u := lateImage s k e sh
    get u 0x2521 0x0A = min (get s 0x2521 0x0A + 1) 65535 ∧ u.md = s.md ∧ ∃ y ∈ u.sheets, y.uid = sh.uid ∧ y.state = .resident := by
  have heq : lateImage s k e sh = sat (withdrawForced s sh.uid) 0x2521 0x0A := by simp [lateImage, hc]
  obtain ⟨hkept, hy⟩ := withdrawForced_withdraws (mem_of_sheetOf hsh)
  have hmd := md_of_modeView (withdrawForced_modeView s sh.uid)
  dsimp only
  rw [heq]
  generalize withdrawForced s sh.uid = t at hkept hy hmd ⊢
  exact ⟨(get_put_same t _ _ rfl).trans (by rw [hkept 0x0A (by decide)]; rfl), hmd, hy⟩

theorem SpilledNow.sheet {n uid : Nat} {s t : State} {y : Sheet} (h : SpilledNow n uid s t) (hy : sheetOf s uid = some y) :
    spilledAt n y ∈ t.sheets ∧ (spilledAt n y).spoiled = true ∧ (spilledAt n y).spilled.testBit n = true := by
  rw [h.sheets]
  exact ⟨List.mem_map.2 ⟨y, mem_of_sheetOf hy, if_pos (uid_of_sheetOf hy)⟩, rfl, testBit_setBit _ _⟩

theorem lateImage_later {s : State} {k : Nat} {e : Event} {sh : Sheet} (hsh : sheetOf s sh.uid = some sh) (hc : sh.committed = true) :
    let u := lateImage s k e sh
    ((station u e.target).imaging = some sh.uid ∧ (station u e.target).nextScan = 0 ∧ (∀ j, j ≠ e.target → station u j = station s j) ∧ u.md = s.md) ∧
      (∃ f, tabFind u.slots k = some f ∧ f.status = 9) ∧
      ∃ y ∈ u.sheets, y.uid = sh.uid ∧ y.spoiled = true ∧ y.spilled.testBit e.target = true := by
  have heq : lateImage s k e sh = spillHere (beginImage { s with slots := tabSet s.slots k { e with status := 9 } } e.target sh.uid (get s (trkIdx e.target) 7))
      e.target sh.uid := by
    unfold lateImage
    rw [if_pos hc]
  dsimp only
  rw [heq]
  obtain ⟨himaging, hnext, -, hothers, hmd, hslots, -, -, hsheets⟩ :=
    beginImage_begins { s with slots := tabSet s.slots k { e with status := 9 } } e.target sh.uid (get s (trkIdx e.target) 7)
  have hfound := sheetOf_modSheet (s := { s with slots := tabSet s.slots k { e with status := 9 } }) hsh
    (g := fun x => { x with fired := setBit x.fired e.target }) fun _ => rfl
  rw [← sheetOf_congr hsheets] at hfound
  generalize beginImage { s with slots := tabSet s.slots k { e with status := 9 } } e.target sh.uid (get s (trkIdx e.target) 7) = t at *
  have hnow := spillNow_spilled (spillSheet t sh.uid (some e.target)) e.target sh.uid
  unfold spillHere
  generalize spillNow (spillSheet t sh.uid (some e.target)) e.target sh.uid = u at hnow ⊢
  have hst : station (spillSheet t sh.uid (some e.target)) e.target = station t e.target := rfl
  have hfields := hnow.station
  rw [hst] at hfields
  refine ⟨⟨by rw [hfields]; exact himaging, by rw [hfields]; exact hnext, fun j hj => (hnow.op.op.others j hj).trans (hothers j hj), hnow.op.md.trans hmd⟩,
    ⟨{ e with status := 9 }, ?_, rfl⟩, ?_⟩
  · rw [show u.slots = t.slots by rw [hnow.op.op.rest]; rfl, hslots]
    exact tabFind_tabSet_same _ _ _
  · have hspill := sheetOf_modSheet hfound (g := fun x => if x.committed then x.spill (some e.target) else x) fun x => by split <;> rfl
    obtain ⟨hy, hspoiled, hbit⟩ := hnow.sheet hspill
    have huid := uid_of_sheetOf hspill
    exact ⟨_, hy, huid, hspoiled, hbit⟩

/-! ## Posts (R406, R407, R420, R433) -/

/-- The range step of a write that has passed every check. -/
theorem rangeStep_of_writeCode {s : State} {acc : Accessor} {i j : Nat} {d : List Byte} (h : writeCode s acc i j d = 0) (hview : viewOf i = (i, false)) :
    rangeStep s (writeRow i j) i j (ofLe d) d = 0 := by
  simp only [writeCode, hview, operandValue] at h
  split_ifs at h <;> simp_all

/-- An accepted post is of class MECH, HV or LOG. -/
theorem class_of_accepted {s : State} {acc : Accessor} {d : List Byte} (h : Accepted s acc 0x2523 1 d) :
    eventClass (eventOf d).code = 2 ∨ eventClass (eventOf d).code = 3 ∨ eventClass (eventOf d).code = 5 := by
  have hstr : ((writeRow 0x2523 1).ty == .str) = false := by decide
  have hblob : ((writeRow 0x2523 1).ty == .blob) = true := by decide
  have hrange := rangeStep_of_writeCode h.2 rfl
  have hcode : postCode s d = 0 := by
    rw [rangeStep, hstr, hblob] at hrange
    exact hrange
  unfold postCode at hcode
  dsimp only at hcode
  by_contra hno
  rw [if_pos (.inl (by tauto))] at hcode
  exact absurd hcode (by decide)

theorem eventWrite_completes {c : Instr} {s : State} {acc : Accessor} {j : Nat} {d : List Byte} {P : State → Prop} (hj : j = 1 ∨ j = 2)
    (h : Accepted s acc 0x2523 j d) (hexec : exec c s = .next (settle (writeCommand acc 0x2523 j d s)))
    (hP : ∀ p, P (emit (if j = 1 then postEvent { s with pins := p } d else cancelTag { s with pins := p } (ofLe d)) (.answer acc 0 []))) : Completes c s P := by
  have hcls : (writeRow 0x2523 j).cls ≠ .rws := by rcases hj with rfl | rfl <;> decide
  have hthreshold : (thresholdOf 0x2523 j).isSome = false := by rcases hj with rfl | rfl <;> rfl
  have heffect (t : State) (v : Nat) : writeEffect t acc (writeRow 0x2523 j) 0x2523 j v d = (if j = 1 then postEvent t d else cancelTag t v, 0) := by
    unfold writeEffect
    rw [if_neg hcls, if_neg (by decide), hthreshold, if_neg (by simp), if_neg (by decide), if_neg (by decide), if_neg (by simp), if_neg (by decide),
      if_neg (by decide), effectHost, if_neg (by decide), if_neg (by decide), if_pos rfl]
  refine ⟨_, hexec, ?_⟩
  rw [writeCommand_accepted h rfl, heffect, breakLock_eq]
  exact hP _

/-- An event with a time is due at that time. -/
theorem eventDue_timed (s : State) {e : Event} (href : e.ref = 255) (hcode : e.code ≠ 1) : eventDue s e = some { time := e.time } := by
  have hplaced : placed s e = true := by simp [placed, href]
  unfold eventDue
  rw [hplaced, if_neg (by decide), if_neg hcode, if_pos href]

theorem modeFires_congr {s t : State} (h : t.md = s.md) (hk : get t 0x2020 1 = get s 0x2020 1) (e : Event) : modeFires t e = modeFires s e := by
  simp only [modeFires, h, hk]

/-- The state in which a post has taken its slot. -/
def posted (s : State) (k : Nat) (e : Event) : State := setSlots (put s 0x2523 3 k) (tabSet s.slots k e)

/-- What a taken slot changes. -/
theorem posted_op (s : State) (k : Nat) (e : Event) : SlotOp [keyOf 0x2523 3] s (posted s k e) ∧ (posted s k e).slots = tabSet s.slots k e ∧
    get (posted s k e) 0x2523 3 = k := by
  have hset := slotOp_setSlots (put s 0x2523 3 k) (tabSet s.slots k e)
  have hput : SlotOp [keyOf 0x2523 3] s (put s 0x2523 3 k) := slotOp_put s k (.inr List.mem_cons_self)
  exact ⟨hput.trans (hset.mono (by simp)), setSlots_slots _ _, (hset.keeps _ _ (by decide) rfl (by decide) (by simp)).trans (get_put_same s _ _ rfl)⟩

theorem enterEvent_waits {s : State} {k : Nat} {e : Event} (href : e.ref = 255) (hcode : e.code ≠ 1) (h : s.time + 16 < e.time) :
    enterEvent (put s 0x2523 3 k) k e = posted s k e := by
  have htime : (posted s k e).time = s.time := (posted_op s k e).1.time
  unfold enterEvent
  dsimp only
  rw [show setSlots (put s 0x2523 3 k) (tabSet (put s 0x2523 3 k).slots k e) = posted s k e from rfl, eventDue_timed _ href hcode]
  dsimp only
  rw [htime, if_pos (.inr (.inl (by omega)))]

/-- A mark whose time is past is logged at once (R420). -/
theorem enterEvent_marks {s : State} {k : Nat} {e : Event} (href : e.ref = 255) (hcode : e.code = 0x41) (huid : e.uid = none) (h : e.time ≤ s.time + 16)
    (hfires : modeFires s e = true) : enterEvent (put s 0x2523 3 k) k e = actMark (markFired (posted s k e) k e false) e := by
  obtain ⟨hop, hslots, -⟩ := posted_op s k e
  have hfires' : modeFires (posted s k e) e = true := (modeFires_congr hop.md (hop.keeps _ _ (by decide) rfl (by decide) (by decide)) e).trans hfires
  have hrouted : routed (posted s k e) e = posted s k e := by simp [routed, huid]
  have hfits : routeFits (posted s k e) e = true := by simp [routeFits, huid]
  have hact (b : State) : act b e false = actMark b e := by simp [act, hcode]
  have hclass : (eventClass e.code != 5) = false := by rw [hcode]; rfl
  unfold enterEvent
  dsimp only
  rw [show setSlots (put s 0x2523 3 k) (tabSet (put s 0x2523 3 k).slots k e) = posted s k e from rfl, eventDue_timed _ href (by rw [hcode]; decide)]
  dsimp only
  rw [hop.time, hfires', if_neg (by simp; omega), if_neg (fun hc => hc.1 href), hclass, fire_eq, hrouted, hfits, if_pos rfl, hact]

theorem eventDue_congr {s t : State} {e : Event} (hplaced : placed t e = placed s e) (himage : imageDue t e = imageDue s e)
    (htooth : toothTime t e.ref e.tooth = toothTime s e.ref e.tooth) (hcount : get t (trkIdx e.ref) 7 = get s (trkIdx e.ref) 7)
    (htracker : tracker t e.ref = tracker s e.ref) (hserving : serving t .encoderTracker e.ref = serving s .encoderTracker e.ref)
    (hperiod : periodOf t e.ref (tracker s e.ref).next = periodOf s e.ref (tracker s e.ref).next) : eventDue t e = eventDue s e := by
  simp only [eventDue, hplaced, himage, htooth, hcount, htracker, hserving, hperiod]

theorem cancellable_pins (s : State) (p : Pins) (e : Event) : cancellable { s with pins := p } e = cancellable s e := by
  have h : eventDue { s with pins := p } e = eventDue s e := eventDue_congr rfl rfl rfl rfl rfl rfl rfl
  simp only [cancellable, h]

theorem freeSlot_pins (s : State) (p : Pins) (lo hi : Nat) : freeSlot { s with pins := p } lo hi = freeSlot s lo hi := rfl

section Posts

variable {s : State} {acc : Accessor} {d : List Byte} {k : Nat}

theorem postEvent_waits (hacc : Accepted s acc 0x2523 1 d) (hfree : freeSlot s 640 1024 = some k) (href : (eventOf d).ref = 255)
    (htime : s.time + 16 < (eventOf d).time) : Completes (.postEvent acc d) s fun u =>
      u.slots = tabSet s.slots k (eventOf d) ∧ get u 0x2523 3 = k ∧ Answered acc u ∧ u.md = s.md ∧ u.sheets = s.sheets := by
  have hcode : (eventOf d).code ≠ 1 := fun h1 => by
    have hclass := class_of_accepted hacc
    rw [h1] at hclass
    revert hclass
    decide
  refine eventWrite_completes (.inl rfl) hacc rfl fun p => ?_
  have heq : postEvent { s with pins := p } d = posted { s with pins := p } k (eventOf d) := by
    rw [postEvent, freeSlot_pins, hfree]
    exact enterEvent_waits href hcode htime
  obtain ⟨hop, hslots, hlast⟩ := posted_op { s with pins := p } k (eventOf d)
  rw [if_pos rfl, heq]
  exact ⟨hslots, hlast, answered_emit acc _, hop.md, hop.sheets⟩

theorem postEvent_marks (hacc : Accepted s acc 0x2523 1 d) (hfree : freeSlot s 640 1024 = some k) (href : (eventOf d).ref = 255)
    (htime : (eventOf d).time ≤ s.time + 16) (hcode : (eventOf d).code = 0x41) (hfires : modeFires s (eventOf d) = true) :
    Completes (.postEvent acc d) s fun u => tabFind u.slots k = none ∧ get u 0x2523 3 = k ∧ Answered acc u ∧ u.md = s.md ∧ u.sheets = s.sheets ∧
      (s.log.ready = true → ∃ y, u.log.ring.head? = some y ∧ y.tells 0 6 0x0A 0x2521 5 ((eventOf d).param % 2 ^ 32)) := by
  refine eventWrite_completes (.inl rfl) hacc rfl fun p => ?_
  have heq : postEvent { s with pins := p } d = actMark (markFired (posted { s with pins := p } k (eventOf d)) k (eventOf d) false) (eventOf d) := by
    rw [postEvent, freeSlot_pins, hfree]
    exact enterEvent_marks href hcode rfl htime hfires
  obtain ⟨hop, hslots, hlast⟩ := posted_op { s with pins := p } k (eventOf d)
  rw [if_pos rfl, heq]
  generalize posted { s with pins := p } k (eventOf d) = t at hop hslots hlast ⊢
  have hmark := markFired_marked t k (e := eventOf d) (by rw [hcode]; decide) (by rw [hcode]; decide)
  have hdue : (dueOf t (eventOf d)).candidate = false := by
    rw [dueOf, eventDue_timed t href (by rw [hcode]; decide)]
    rfl
  generalize markFired t k (eventOf d) false = b at hmark ⊢
  obtain ⟨hlog, htells⟩ := actMark_logs (b := b) (eventOf d)
  generalize actMark b (eventOf d) = u at hlog htells ⊢
  refine ⟨?_, ?_, answered_emit acc _, ?_, ?_, fun hready => htells ?_⟩
  · rw [emit_slots, hlog.slots]
    exact hmark.freed rfl hdue
  · have hkeep : get b 0x2523 3 = get t 0x2523 3 := hmark.op.keeps _ _ (by decide) rfl (by decide) (by
      have := eventClass_lt (eventOf d).code
      simp only [List.mem_cons, List.not_mem_nil, or_false, not_or]
      constructor <;> (unfold keyOf; omega))
    exact (hlog.get _ rfl).trans (hkeep.trans hlast)
  · exact hlog.md.trans (hmark.op.md.trans hop.md)
  · exact hlog.sheets.trans (hmark.op.sheets.trans hop.sheets)
  · rw [hmark.op.ready, hop.ready]
    exact hready

theorem cancelByTag_cancels (hacc : Accepted s acc 0x2523 2 d) : Completes (.cancelByTag acc d) s fun u =>
    u.slots = s.slots.filter (fun q => !(q.2.uid.isNone && q.2.tag == ofLe d && cancellable s q.2)) ∧ Answered acc u ∧ u.md = s.md ∧ u.sheets = s.sheets := by
  refine eventWrite_completes (.inr rfl) hacc rfl fun p => ?_
  have heq : cancelTag { s with pins := p } (ofLe d) = dropEvents { s with pins := p } fun e => e.uid.isNone && e.tag == ofLe d && cancellable s e := by
    simp only [cancelTag, cancellable_pins]
  have hop : SlotOp [] { s with pins := p } (dropEvents { s with pins := p } fun e => e.uid.isNone && e.tag == ofLe d && cancellable s e) := slotOp_setSlots _ _
  rw [if_neg (by decide), heq]
  exact ⟨dropEvents_slots _ _, answered_emit acc _, hop.md, hop.sheets⟩

end Posts

/-- Settles O45: what an IMAGE event finds due fires, late ones withdraw or spill; a post takes its slot, a cancel frees those it reaches. -/
theorem eventsAct : Obligations.EventsAct := by
  unfold Obligations.EventsAct
  constructor
  · intro slot s
    refine ⟨fun hnone late => ⟨s, (exec_image slot late s).trans (execImage_none hnone late), rfl⟩, fun e sh h => ?_⟩
    intro n image
    obtain ⟨-, -, -, -, hsh⟩ := imageEvent_some h
    refine ⟨fun hd => ⟨s, (exec_image slot false s).trans (execImage_undue h hd), rfl⟩, fun d hd hno => ⟨s, ?_, rfl⟩, fun d hd ht hm hk ho hempty => ⟨_, ?_, fireImage_fires d h hempty⟩,
      fun hlater => ⟨s, ?_, rfl⟩, fun hlate hc => ⟨_, ?_, lateImage_first (k := slot.val) (e := e) hsh hc⟩,
      fun hlate hc => ⟨_, ?_, lateImage_later (k := slot.val) (e := e) hsh hc⟩⟩
    · rw [exec_image, execImage_due h hd, if_neg]
      rintro ⟨hm, ht, hk, ho⟩
      rcases hno with h | h | h | h
      · omega
      · simp [hm] at h
      · simp [n, hk] at h
      · simp [ho] at h
    · rw [exec_image, execImage_due h hd, if_pos ⟨hm, ht, hk, ho⟩]
    · rw [exec_image, execImage_late h, if_neg (by omega)]
    · rw [exec_image, execImage_late h, if_pos hlate]
    · rw [exec_image, execImage_late h, if_pos hlate]
  · intro acc d s
    exact ⟨fun k hacc hfree href => ⟨postEvent_waits hacc hfree href, postEvent_marks hacc hfree href⟩, cancelByTag_cancels⟩

end Sys2Proof.Machine

/-! # The reset of a tenant (R274, R280 to R286) -/

namespace Sys2Proof.Machine

/-! ## What completions leave of the tenants -/

/-- No tenant changes its state, and of the tenants' objects those with these keys alone change. -/
structure TenantOp (ks : List Nat) (s t : State) : Prop where
  states : ∀ j, (tenant t j).state = (tenant s j).state
  keeps : ∀ i j, 0x5000 ≤ i → j < 256 → keyOf i j ∉ ks → get t i j = get s i j

theorem TenantOp.refl (ks : List Nat) (s : State) : TenantOp ks s s := ⟨fun _ => rfl, fun _ _ _ _ _ => rfl⟩

theorem TenantOp.trans {ks : List Nat} {s t u : State} (h : TenantOp ks s t) (k : TenantOp ks t u) : TenantOp ks s u :=
  ⟨fun j => (k.states j).trans (h.states j), fun i j hi hj hk => (k.keeps i j hi hj hk).trans (h.keeps i j hi hj hk)⟩

theorem TenantOp.mono {ks ls : List Nat} {s t : State} (h : TenantOp ks s t) (hsub : ∀ k ∈ ks, k ∈ ls) : TenantOp ls s t :=
  ⟨h.states, fun i j hi hj hk => h.keeps i j hi hj fun hin => hk (hsub _ hin)⟩

theorem isLogIdx_of_ge {i : Nat} (h : 0x3000 ≤ i) : isLogIdx i = false := by simp [isLogIdx]; omega

theorem tenantOp_of_eq {ks : List Nat} {s t : State} (ht : t.tenants = s.tenants) (hd : t.dict = s.dict) : TenantOp ks s t :=
  ⟨fun j => by rw [tenant, tenant, ht], fun i j hi _ _ => get_congr hd j (isLogIdx_of_ge (by omega))⟩

theorem tenantOp_put {ks : List Nat} (s : State) {i j : Nat} (v : Nat) (h : keyOf i j ∈ ks) : TenantOp ks s (put s i j v) :=
  ⟨fun _ => rfl, fun a b _ _ hk => get_put_other s v fun e => by
    rw [e] at hk
    exact hk h⟩

theorem tenantOp_setTenant {ks : List Nat} (s : State) (n : Nat) {f : Tenant → Tenant} (hf : ∀ x, (f x).state = x.state) : TenantOp ks s (setTenant s n f) := by
  refine ⟨fun j => ?_, fun _ _ _ _ _ => rfl⟩
  by_cases h : j = n
  · subst h
    rw [tenant_setTenant_same, hf]
  · rw [tenant_setTenant_other s f h]

theorem SameButLog.tenantOp {ks : List Nat} {s t : State} (h : SameButLog s t) : TenantOp ks s t :=
  tenantOp_of_eq h.tenants (by rw [h])

theorem tenantOp_vector {ks : List Nat} (s : State) (f v : Nat) : TenantOp ks s (vector s f v) := (vector_sameButLog s f v).tenantOp

theorem tenantOp_deliver {ks : List Nat} (s : State) (t : Nat) (h : Held) : TenantOp ks s (deliver s t h) := by
  have hsignal (u : State) : TenantOp ks u (signalEntry u t) := by
    have hset (f : Tenant → Tenant) (hf : ∀ x, (f x).state = x.state) (c : List Nat) : TenantOp ks u { setTenant u t f with coalescing := c } :=
      (tenantOp_setTenant u t hf).trans (tenantOp_of_eq rfl rfl)
    unfold signalEntry
    dsimp only
    split
    · exact (hset (fun x => { x with unsignalled := 0 }) (fun _ => rfl) _).trans (tenantOp_vector _ _ _)
    · exact hset (fun x => { x with unsignalled := (tenant u t).unsignalled + 1 }) (fun _ => rfl) _
  have hwrite (l : List Byte) : TenantOp ks s (writeEntry s t l) := by
    unfold writeEntry
    have hemit (o : Output) : TenantOp ks s (emit s o) := tenantOp_of_eq rfl rfl
    exact (hemit _).trans (tenantOp_setTenant _ t fun _ => rfl)
  unfold deliver
  split
  · dsimp only
    split
    · exact tenantOp_of_eq rfl rfl
    · exact .refl ks s
  · split
    · exact tenantOp_setTenant s t fun _ => rfl
    · unfold writeSignal
      dsimp only
      split
      · exact (hwrite _).trans (hsignal _)
      · exact hwrite _

/-- The counters of outcomes and withdrawals. -/
def outcomeKeys : List Nat := [keyOf 0x5040 4, keyOf 0x5040 5, keyOf 0x5040 6, keyOf 0x5040 7]

theorem tenantOp_completion (s : State) (sh : Sheet) (o reason : Nat) (double : Bool) : TenantOp outcomeKeys s (completion s sh o reason double) := by
  unfold completion countOutcome
  dsimp only
  split
  next ho =>
    refine (tenantOp_deliver s sh.tenant _).trans (tenantOp_put _ _ ?_)
    have ho' : o = 0 ∨ o = 1 ∨ o = 2 ∨ o = 3 := by omega
    rcases ho' with rfl | rfl | rfl | rfl <;> simp [outcomeKeys]
  · exact tenantOp_deliver s sh.tenant _

theorem RasterOp.tenantOp {ls ks : List Nat} {n : Nat} {s t : State} (h : RasterOp ls n s t) (hls : ∀ k ∈ ls, k < 0x5000 * 256) : TenantOp ks s t :=
  ⟨fun j => by simp only [tenant]; rw [h.op.rest], fun i j hi _ _ => h.keeps.get (fun hin => by
    have := hls _ hin
    unfold keyOf at this
    omega) (isLogIdx_of_ge (by omega))⟩

theorem rasterKeys_lt {n k : Nat} (hn : n < 6) (h : k ∈ rasterKeys n) : k < 0x5000 * 256 := by
  simp only [rasterKeys, watermark, List.mem_cons, List.not_mem_nil, or_false, keyOf, freeIdx, decIdx] at h
  omega

theorem tenantOp_forgetRaster {ks : List Nat} (s : State) (uid : Nat) : TenantOp ks s (forgetRaster s uid) := by
  refine foldl_keeps (TenantOp ks s) _ _ s (fun u n hn hu => hu.trans ?_) (.refl ks s)
  have hlt : n < 6 := List.mem_range.1 hn
  have hdiscard : TenantOp ks u (discardData u n uid) := (discardData_op u n uid).1.tenantOp (by simp)
  show TenantOp ks u (forgetAt u uid n)
  unfold forgetAt
  dsimp only
  split
  · generalize discardData u n uid = t at hdiscard ⊢
    have hdrop : TenantOp ks t (if ((station u n).decUid == some uid) = true then dropPlane t n 0 else t) := by
      split
      · exact (dropPlane_op t n 0).1.tenantOp (by simp [keyOf, decIdx]; omega)
      · exact .refl ks t
    exact hdiscard.trans (hdrop.trans ((refill_refilled _ n).op.tenantOp fun k hk => rasterKeys_lt hlt hk))
  · exact .refl ks u

theorem SlotOp.tenantOp {ls ks : List Nat} {s t : State} (h : SlotOp ls s t) (hls : ∀ k ∈ ls, k ∈ ks) : TenantOp ks s t :=
  ⟨fun j => by simp only [tenant]; rw [h.rest], fun i j hi hj hk => h.keeps i j hj (isLogIdx_of_ge (by omega)) (by omega) fun hin => hk (hls _ hin)⟩

theorem tenantOp_removeSheet {ks : List Nat} (s : State) (uid : Nat) : TenantOp ks s (removeSheet s uid) := by
  have hsheets : TenantOp ks s { s with sheets := s.sheets.filter fun sh => sh.uid != uid } := tenantOp_of_eq rfl rfl
  exact hsheets.trans ((slotOp_setSlots _ _).tenantOp (by simp))

theorem tenantOp_cancelSheet (s : State) (x : Sheet) : TenantOp outcomeKeys s (cancelSheet s x) := by
  have hgone : TenantOp outcomeKeys s (removeSheet (completion (forgetRaster s x.uid) x 3 0 false) x.uid) :=
    (tenantOp_forgetRaster s x.uid).trans ((tenantOp_completion _ x 3 0 false).trans (tenantOp_removeSheet _ x.uid))
  unfold cancelSheet
  split
  · exact .refl _ s
  · split
    · exact tenantOp_of_eq rfl rfl
    · dsimp only
      split
      · exact hgone.trans (serveDrop_sameButLog _ _ _).tenantOp
      · exact hgone

theorem tenantOp_foldl {α : Type} {ks : List Nat} {f : State → α → State} (hf : ∀ u x, TenantOp ks u (f u x)) (l : List α) (s : State) :
    TenantOp ks s (l.foldl f s) := foldl_keeps (TenantOp ks s) l f s (fun u x _ hu => hu.trans (hf u x)) (.refl ks s)

/-! ## The reset -/

/-- The ring registers that a reset clears (R281). -/
def ringKeys (t : Nat) : List Nat := [keyOf (tenIdx t) 4, keyOf (tenIdx t) 6, keyOf (tenIdx t) 5, keyOf (tenIdx t) 7]

theorem tenantOp_resetComplete (s : State) (t : Nat) : TenantOp (ringKeys t) s (resetComplete s t) := by
  have hput (u : State) (j v : Nat) (h : keyOf (tenIdx t) j ∈ ringKeys t) : TenantOp (ringKeys t) u (put u (tenIdx t) j v) := tenantOp_put u v h
  have hclear (u : State) : TenantOp (ringKeys t) u (clearRings u t) := by
    unfold clearRings
    dsimp only
    exact ((hput _ _ _ (by simp [ringKeys])).trans ((hput _ _ _ (by simp [ringKeys])).trans ((hput _ _ _ (by simp [ringKeys])).trans
      (hput _ _ _ (by simp [ringKeys]))))).trans (tenantOp_setTenant _ t fun _ => rfl)
  have hcoal (c : List Nat) : TenantOp (ringKeys t) s { s with coalescing := c } := tenantOp_of_eq rfl rfl
  have hemit (u : State) (o : Output) : TenantOp (ringKeys t) u (emit u o) := tenantOp_of_eq rfl rfl
  unfold resetComplete
  exact (hcoal _).trans ((hclear _).trans ((hemit _ _).trans (tenantOp_vector _ _ _)))

/-- No tenant has become ENABLED, and of the tenants' objects those with these keys alone change. -/
structure NoneEnabled (ks : List Nat) (s t : State) : Prop where
  states : ∀ j, (tenant t j).state = .enabled → (tenant s j).state = .enabled
  keeps : ∀ i j, 0x5000 ≤ i → j < 256 → keyOf i j ∉ ks → get t i j = get s i j

theorem TenantOp.noneEnabled {ks : List Nat} {s t : State} (h : TenantOp ks s t) : NoneEnabled ks s t := ⟨fun j hj => (h.states j).symm.trans hj, h.keeps⟩

theorem NoneEnabled.trans {ks : List Nat} {s t u : State} (h : NoneEnabled ks s t) (k : NoneEnabled ks t u) : NoneEnabled ks s u :=
  ⟨fun j hj => h.states j (k.states j hj), fun i j hi hj hk => (k.keeps i j hi hj hk).trans (h.keeps i j hi hj hk)⟩

theorem NoneEnabled.mono {ks ls : List Nat} {s t : State} (h : NoneEnabled ks s t) (hsub : ∀ k ∈ ks, k ∈ ls) : NoneEnabled ls s t :=
  ⟨h.states, fun i j hi hj hk => h.keeps i j hi hj fun hin => hk (hsub _ hin)⟩

/-- A tenant set to a state other than ENABLED. -/
theorem noneEnabled_setTenant {ks : List Nat} (s : State) (n : Nat) {f : Tenant → Tenant} (hf : ∀ x, (f x).state ≠ .enabled) :
    NoneEnabled ks s (setTenant s n f) ∧ (tenant (setTenant s n f) n).state ≠ .enabled := by
  refine ⟨⟨fun j hj => ?_, fun _ _ _ _ _ => rfl⟩, by rw [tenant_setTenant_same]; exact hf _⟩
  by_cases h : j = n
  · subst h
    rw [tenant_setTenant_same] at hj
    exact absurd hj (hf _)
  · rwa [tenant_setTenant_other s f h] at hj

theorem noneEnabled_ghostCheck {ks : List Nat} (s : State) (t : Nat) : NoneEnabled ks s (ghostCheck s t) := by
  have hset (u : State) (f : Tenant → Tenant) (hf : ∀ x, (f x).state ≠ .enabled) : NoneEnabled ks u (setTenant u t f) := (noneEnabled_setTenant u t hf).1
  have hmem (l : List Nat) : NoneEnabled ks s { s with mem := { s.mem with scrub := s.mem.scrub ++ l } } :=
    ⟨fun _ h => h, fun _ _ _ _ _ => rfl⟩
  unfold ghostCheck
  split
  · unfold toScrubbing
    dsimp only
    split
    · exact (hmem _).trans ((hset _ (fun x => { x with state := .disabled }) fun _ => by simp).trans (tenantOp_vector _ _ _).noneEnabled)
    · exact (hmem _).trans (hset _ (fun x => { x with state := .scrubbing }) fun _ => by simp)
  · exact (TenantOp.refl ks s).noneEnabled

/-- The objects that a reset of a tenant writes. -/
def resetKeys (t : Nat) : List Nat := keyOf (tenIdx t) 0x1A :: keyOf (tenIdx t) 0x1B :: (ringKeys t ++ outcomeKeys)

/-- What a reset of a tenant does (R280 to R285). -/
structure TenantWasReset (t cause : Nat) (s u : State) : Prop where
  cause : get u (tenIdx t) 0x1B = cause
  count : get u (tenIdx t) 0x1A = min (get s (tenIdx t) 0x1A + 1) 65535
  md : u.md = s.md
  none : NoneEnabled (resetKeys t) s u
  left : (tenant u t).state ≠ .enabled
  ghosts : (tenant s t).state = .enabled → ∀ sh ∈ u.sheets, sh.tenant = t → sh.ghost = true

/-- The reset on record, before the tenant takes it. -/
def resetNoted (s : State) (t cause : Nat) : State :=
  let u := put (sat s (tenIdx t) 0x1A) (tenIdx t) 0x1B cause
  if cause = 4 ∨ cause = 5 then vector u (t + 1) 2 else u

/-- The tenant with its sheets at the reset: cancelled, or ghosts. -/
def resetGhosts (s : State) (t : Nat) : State :=
  let disp := get s (tenIdx t) 0x0C
  let u := setTenant s t fun x => { x with state := .ghost, disposition := disp, heldDone := [], candidate := false }
  let u := (u.sheets.filter fun sh => sh.tenant == t && !sh.committed).foldl cancelSheet u
  { u with sheets := u.sheets.map fun sh =>
      if sh.tenant = t then (if disp = 1 then { sh.spill none with ghost := true, blanked := true } else { sh with ghost := true }) else sh }

theorem tenantReset_eq (s : State) (t cause : Nat) : tenantReset s t cause =
    if (tenant (resetNoted s t cause) t).state != .enabled then resetComplete (resetNoted s t cause) t
    else ghostCheck (resetComplete (resetGhosts (resetNoted s t cause) t) t) t := rfl

theorem key_tenIdx_ne {t a b : Nat} (ha : a < 256) (hb : b < 256) (h : a ≠ b) : keyOf (tenIdx t) a ≠ keyOf (tenIdx t) b := fun e =>
  h ((keyOf_inj ha hb).1 e).2

theorem noted_not_mem {t j : Nat} (hj : j = 0x1A ∨ j = 0x1B) : keyOf (tenIdx t) j ∉ ringKeys t ++ outcomeKeys := by
  simp only [ringKeys, outcomeKeys, List.mem_append, List.mem_cons, List.not_mem_nil, or_false, keyOf, tenIdx]
  omega

theorem resetNoted_notes (s : State) (t cause : Nat) : TenantOp (resetKeys t) s (resetNoted s t cause) ∧ get (resetNoted s t cause) (tenIdx t) 0x1B = cause ∧
    get (resetNoted s t cause) (tenIdx t) 0x1A = min (get s (tenIdx t) 0x1A + 1) 65535 ∧ (resetNoted s t cause).md = s.md := by
  have hidx : isLogIdx (tenIdx t) = false := isLogIdx_of_ge (by unfold tenIdx; omega)
  have hbase : TenantOp (resetKeys t) s (put (sat s (tenIdx t) 0x1A) (tenIdx t) 0x1B cause) :=
    (tenantOp_put s _ (by simp [resetKeys])).trans (tenantOp_put _ _ (by simp [resetKeys]))
  have hcause : get (put (sat s (tenIdx t) 0x1A) (tenIdx t) 0x1B cause) (tenIdx t) 0x1B = cause := get_put_same _ _ _ hidx
  have hcount : get (put (sat s (tenIdx t) 0x1A) (tenIdx t) 0x1B cause) (tenIdx t) 0x1A = min (get s (tenIdx t) 0x1A + 1) 65535 :=
    (get_put_other _ _ (key_tenIdx_ne (by decide) (by decide) (by decide))).trans (get_put_same s _ _ hidx)
  have hmd : (put (sat s (tenIdx t) 0x1A) (tenIdx t) 0x1B cause).md = s.md := rfl
  unfold resetNoted
  dsimp only
  generalize put (sat s (tenIdx t) 0x1A) (tenIdx t) 0x1B cause = u at hbase hcause hcount hmd ⊢
  split
  · have hvec := vector_sameButLog u (t + 1) 2
    exact ⟨hbase.trans hvec.tenantOp, (hvec.get _ hidx).trans hcause, (hvec.get _ hidx).trans hcount, hvec.md.trans hmd⟩
  · exact ⟨hbase, hcause, hcount, hmd⟩

theorem resetGhosts_ghosts (s : State) (t : Nat) : NoneEnabled outcomeKeys s (resetGhosts s t) ∧ (tenant (resetGhosts s t) t).state ≠ .enabled ∧
    ∀ sh ∈ (resetGhosts s t).sheets, sh.tenant = t → sh.ghost = true := by
  obtain ⟨hset, hleft⟩ := noneEnabled_setTenant (ks := outcomeKeys) s t
    (f := fun x => { x with state := .ghost, disposition := get s (tenIdx t) 0x0C, heldDone := [], candidate := false }) fun _ => by simp
  unfold resetGhosts
  dsimp only
  generalize setTenant s t (fun x => { x with state := .ghost, disposition := get s (tenIdx t) 0x0C, heldDone := [], candidate := false }) = u at hset hleft ⊢
  have hcancel := tenantOp_foldl tenantOp_cancelSheet (u.sheets.filter fun sh => sh.tenant == t && !sh.committed) u
  generalize (u.sheets.filter fun sh => sh.tenant == t && !sh.committed).foldl cancelSheet u = v at hcancel ⊢
  have hmark (l : List Sheet) : TenantOp outcomeKeys v { v with sheets := l } := ⟨fun _ => rfl, fun _ _ _ _ _ => rfl⟩
  refine ⟨hset.trans (hcancel.trans (hmark _)).noneEnabled, ?_, fun sh hsh hten => ?_⟩
  · show (tenant v t).state ≠ .enabled
    rw [hcancel.states]
    exact hleft
  · obtain ⟨x, -, rfl⟩ := List.mem_map.1 hsh
    by_cases hx : x.tenant = t
    · rw [if_pos hx]
      split <;> rfl
    · rw [if_neg hx] at hten
      exact absurd hten hx

theorem tenantReset_resets (s : State) (t cause : Nat) : TenantWasReset t cause s (tenantReset s t cause) := by
  have hidx : isLogIdx (tenIdx t) = false := isLogIdx_of_ge (by unfold tenIdx; omega)
  obtain ⟨hnoted, hcause, hcount, hmd⟩ := resetNoted_notes s t cause
  have hmdAll := md_of_modeView (tenantReset_modeView s t cause)
  have hkept {u : State} (h : NoneEnabled (ringKeys t ++ outcomeKeys) (resetNoted s t cause) u) : NoneEnabled (resetKeys t) s u ∧
      get u (tenIdx t) 0x1B = cause ∧ get u (tenIdx t) 0x1A = min (get s (tenIdx t) 0x1A + 1) 65535 := by
    refine ⟨hnoted.noneEnabled.trans (h.mono fun k hk => List.mem_cons_of_mem _ (List.mem_cons_of_mem _ hk)), ?_, ?_⟩
    · exact (h.keeps _ _ (by unfold tenIdx; omega) (by decide) (noted_not_mem (.inr rfl))).trans hcause
    · exact (h.keeps _ _ (by unfold tenIdx; omega) (by decide) (noted_not_mem (.inl rfl))).trans hcount
  have hstate := hnoted.states t
  rw [tenantReset_eq] at hmdAll ⊢
  generalize resetNoted s t cause = a at *
  have hcomplete (u : State) := tenantOp_resetComplete u t
  by_cases hen : (tenant a t).state = .enabled
  · rw [if_neg (by simp [hen])] at hmdAll ⊢
    obtain ⟨hghosts, hleft, hghost⟩ := resetGhosts_ghosts a t
    have hsheets : (ghostCheck (resetComplete (resetGhosts a t) t) t).sheets = (resetGhosts a t).sheets := by rw [ghostCheck_sheets, resetComplete_sheets]
    generalize resetGhosts a t = b at hghosts hleft hghost hsheets hmdAll ⊢
    have hdone := hcomplete b
    have hcheck := noneEnabled_ghostCheck (ks := ringKeys t ++ outcomeKeys) (resetComplete b t) t
    have hall : NoneEnabled (ringKeys t ++ outcomeKeys) a (ghostCheck (resetComplete b t) t) :=
      (hghosts.mono fun k hk => List.mem_append_right _ hk).trans ((hdone.mono fun k hk => List.mem_append_left _ hk).noneEnabled.trans hcheck)
    obtain ⟨hnone, hc, hn⟩ := hkept hall
    refine ⟨hc, hn, hmdAll, hnone, fun h => hleft ?_, fun _ sh hsh hten => hghost sh (hsheets ▸ hsh) hten⟩
    rw [← hdone.states]
    exact hcheck.states t h
  · rw [if_pos (by simpa using hen)] at hmdAll ⊢
    have hdone := hcomplete a
    obtain ⟨hnone, hc, hn⟩ := hkept (hdone.mono fun k hk => List.mem_append_left _ hk).noneEnabled
    exact ⟨hc, hn, hmdAll, hnone, fun h => hen ((hdone.states t).symm.trans h), fun h => absurd (hstate.trans h) hen⟩

end Sys2Proof.Machine

/-! # The decoders (R294, R317, R319 to R321, R329 to R332) -/

namespace Sys2Proof.Machine

/-! ## Beats and words that are read with errors (R292 to R294, R317, R319) -/

theorem sameButObjects_trans {ks : List Nat} {s t u : State} (h : SameButObjects ks s t) (k : SameButObjects ks t u) : SameButObjects ks s u :=
  ⟨by rw [k.1, h.1], fun key hkey => (k.2 key hkey).trans (h.2 key hkey)⟩

theorem SameButLog.sameButObjects {ks : List Nat} {s t : State} (h : SameButLog s t) : SameButObjects ks s t :=
  ⟨by rw [h], fun _ _ => by rw [h]⟩

theorem sameButObjects_put {ks : List Nat} (s : State) {i j : Nat} (v : Nat) (h : keyOf i j ∈ ks) : SameButObjects ks s (put s i j v) :=
  ⟨rfl, keepsObjects_put s _ _ _ h⟩

theorem sameButObjects_refl (ks : List Nat) (s : State) : SameButObjects ks s s := ⟨rfl, fun _ _ => rfl⟩

theorem sameButObjects_emit {ks : List Nat} (s : State) (o : Output) : SameButObjects ks s (emit s o) := ⟨rfl, fun _ _ => rfl⟩

theorem sameButObjects_mono {ks ls : List Nat} {s t : State} (h : SameButObjects ks s t) (hsub : ∀ k ∈ ks, k ∈ ls) : SameButObjects ls s t :=
  ⟨h.1, fun k hk => h.2 k fun hin => hk (hsub k hin)⟩

/-- The counters of corrected beats and of beats read again. -/
def beatKeys : List Nat := [keyOf 0x2310 1, keyOf 0x2310 2]

theorem beatUsed_same (s : State) (r : DramReader) (addr : Nat) (e : Ecc) : SameButObjects beatKeys s (beatUsed s r addr e) := by
  have hcount : SameButObjects beatKeys s (satBy 32 s 0x2310 1 1) := sameButObjects_put s _ (by simp [beatKeys])
  unfold beatUsed
  split
  · unfold beatCorrected
    cases r with
    | patrol => exact sameButObjects_trans hcount (sameButObjects_emit _ _)
    | decoder st => exact hcount
    | ingest tn => exact hcount
    | firmware => exact hcount
  · exact sameButObjects_refl _ s

/-- A beat that can be used leaves counts alone; one that cannot ends in the reader's second failure. -/
theorem dramRead_used {s : State} {r : DramReader} {b : BeatRead} (h : (dramRead s r b).2 = true) : SameButObjects beatKeys s (dramRead s r b).1 := by
  unfold dramRead at h ⊢
  dsimp only at h ⊢
  split
  · exact beatUsed_same s r _ _
  next hbad =>
    rw [if_neg hbad] at h
    split
    · have hserve : SameButObjects beatKeys s (serveBegin s .dramRead (readerInst r) (readerCode r) 6 0x2310 2) := (serveBegin_sameButLog _ _ _ _ _ _ _).sameButObjects
      have hcount (u : State) : SameButObjects beatKeys u (sat u 0x2310 2) := sameButObjects_put u _ (by simp [beatKeys])
      have hpass (u : State) : SameButObjects beatKeys u (servePass u .dramRead (readerInst r) 6 0x2310 2) := (servePass_sameButLog _ _ _ _ _ _).sameButObjects
      exact sameButObjects_trans hserve (sameButObjects_trans (hcount _) (sameButObjects_trans (hpass _) (beatUsed_same _ r _ _)))
    next hagain =>
      rw [if_neg hagain] at h
      exact absurd h Bool.false_ne_true

theorem dramRead_failed {s : State} {r : DramReader} {b : BeatRead} (h : (dramRead s r b).2 = false) :
    ∃ t, SameButObjects beatKeys s t ∧ (dramRead s r b).1 = dramDouble t r b.addr := by
  unfold dramRead at h ⊢
  dsimp only at h ⊢
  split
  next hgood =>
    rw [if_pos hgood] at h
    exact absurd h.symm Bool.false_ne_true
  next hbad =>
    rw [if_neg hbad] at h
    split
    next hagain =>
      rw [if_pos hagain] at h
      exact absurd h.symm Bool.false_ne_true
    · exact ⟨_, (serveBegin_sameButLog _ _ _ _ _ _ _).sameButObjects, rfl⟩

theorem dramReads_used {r : DramReader} {l : List BeatRead} {s : State} (h : (dramReads r l s).2 = true) : SameButObjects beatKeys s (dramReads r l s).1 := by
  induction l generalizing s with
  | nil => exact sameButObjects_refl _ s
  | cons b l ih =>
    unfold dramReads at h ⊢
    dsimp only at h ⊢
    by_cases hb : (dramRead s r b).2 = true
    · rw [if_pos hb] at h ⊢
      exact sameButObjects_trans (dramRead_used hb) (ih h)
    · rw [if_neg hb] at h
      exact absurd h hb

/-- The first beat that cannot be used ends the reads in the second failure of its reader. -/
theorem dramReads_failed {r : DramReader} {l : List BeatRead} {s : State} (h : (dramReads r l s).2 = false) :
    ∃ t, ∃ e ∈ l, SameButObjects beatKeys s t ∧ (dramReads r l s).1 = dramDouble t r e.addr := by
  induction l generalizing s with
  | nil => exact absurd h.symm Bool.false_ne_true
  | cons b l ih =>
    unfold dramReads at h ⊢
    dsimp only at h ⊢
    by_cases hb : (dramRead s r b).2 = true
    · rw [if_pos hb] at h ⊢
      obtain ⟨t, e, he, hsame, heq⟩ := ih h
      exact ⟨t, e, List.mem_cons_of_mem b he, sameButObjects_trans (dramRead_used hb) hsame, heq⟩
    · rw [if_neg hb] at h ⊢
      obtain ⟨t, hsame, heq⟩ := dramRead_failed h
      exact ⟨t, b, List.mem_cons_self, hsame, heq⟩

/-- The counters that the words of an input buffer touch. -/
def wordKeys (n : Nat) : List Nat := keyOf (resIdx n) 1 :: keyOf (resIdx n) 9 :: beatKeys

theorem inputWord_same (s : State) (st : Fin 6) (w : InputWord) : SameButObjects (wordKeys st.val) s (inputWord s st w).1 := by
  have hserve (u : State) : SameButObjects (wordKeys st.val) u (serveBegin u .inputBuffer st.val 0 7 (resIdx st.val) 9) :=
    (serveBegin_sameButLog _ _ _ _ _ _ _).sameButObjects
  have hfirst : SameButObjects (wordKeys st.val) s (serveBegin (sat s (resIdx st.val) 9) .inputBuffer st.val 0 7 (resIdx st.val) 9) :=
    sameButObjects_trans (sameButObjects_put s _ (by simp [wordKeys])) (hserve _)
  have hpass (u : State) : SameButObjects (wordKeys st.val) u (servePass u .inputBuffer st.val 7 (resIdx st.val) 9) := (servePass_sameButLog _ _ _ _ _ _).sameButObjects
  have hused (u : State) (e : Ecc) : SameButObjects (wordKeys st.val) u (beatUsed u (.decoder st) w.refetch.addr e) :=
    sameButObjects_mono (beatUsed_same u _ _ _) fun k hk => by simp [wordKeys, hk]
  unfold inputWord
  dsimp only
  split
  · exact sameButObjects_refl _ s
  · exact sameButObjects_put s _ (by simp [wordKeys])
  · split
    · exact sameButObjects_trans hfirst (serveDrop_sameButLog _ _ _).sameButObjects
    · exact sameButObjects_trans hfirst (sameButObjects_trans (hpass _) (hused _ _))

theorem inputWords_same (st : Fin 6) (l : List InputWord) (s : State) : SameButObjects (wordKeys st.val) s (inputWords st l s).1 := by
  induction l generalizing s with
  | nil => exact sameButObjects_refl _ s
  | cons w l ih =>
    have hword := inputWord_same s st w
    unfold inputWords
    dsimp only
    split
    · exact sameButObjects_trans hword (ih _)
    · exact hword

/-! ## The lines of a band (R330, R333) -/

/-- The lines of a band as they join those of their station. -/
def bandRows (x : Station) (uid : Nat) (b : Band) : List RasterLine :=
  b.lines.mapIdx fun i l => ({ uid := uid, line := x.decLine + i, bytes := l } : RasterLine)

/-- The lines of a band are in: behind those that wait, and counted. -/
structure BandIn (n uid : Nat) (b : Band) (s t : State) : Prop where
  op : RasterOp [keyOf (decIdx n) 4] n s t
  counted : get t (decIdx n) 4 = (get s (decIdx n) 4 + b.lines.length) % 2 ^ 64
  station : ∃ l, station t n = { station s n with
    backlog := (Machine.station s n).backlog ++ bandRows (Machine.station s n) uid b, decLine := (Machine.station s n).decLine + b.lines.length, tail := l }
  sheets : t.sheets = s.sheets

theorem isLogIdx_decIdx (n : Nat) : isLogIdx (decIdx n) = false := isLogIdx_of_ge (by unfold decIdx; omega)
theorem isLogIdx_resIdx' (n : Nat) : isLogIdx (resIdx n) = false := isLogIdx_of_ge (by unfold resIdx; omega)

theorem bandLinesIn_in (s : State) (n uid : Nat) (b : Band) : BandIn n uid b s (bandLinesIn s n uid b) := by
  have hwrap : RasterOp [keyOf (decIdx n) 4] n s (wrapBy 64 s (decIdx n) 4 b.lines.length) := rasterOp_put s n _ List.mem_cons_self
  have hcount : get (wrapBy 64 s (decIdx n) 4 b.lines.length) (decIdx n) 4 = (get s (decIdx n) 4 + b.lines.length) % 2 ^ 64 :=
    get_put_same s _ _ (isLogIdx_decIdx n)
  have hst : station (wrapBy 64 s (decIdx n) 4 b.lines.length) n = station s n := rfl
  have hsheets : (wrapBy 64 s (decIdx n) 4 b.lines.length).sheets = s.sheets := rfl
  unfold bandLinesIn
  dsimp only
  generalize wrapBy 64 s (decIdx n) 4 b.lines.length = t at hwrap hcount hst hsheets ⊢
  refine ⟨hwrap.trans (rasterOp_setStation t n _), hcount, ⟨if b.rest.isEmpty then (station s n).tail
    else some { uid := uid, line := (station s n).decLine + b.lines.length, bytes := b.rest }, ?_⟩, hsheets⟩
  rw [station_setStation_same, hst]
  rfl

/-! ## A plane that stops (R294, R332) -/

/-- The station's decoder is free, and the sheet's plane done with; a sheet that is not COMMITTED holds the fault. -/
structure PlaneStopped (n uid : Nat) (sh : Sheet) (s t : State) : Prop where
  op : RasterOp [keyOf (decIdx n) 1] n s t
  station : station t n = { station s n with decUid := none, decPos := 0, decBand := 0, decLine := 0 }
  sheet : ∃ y ∈ t.sheets, y.uid = uid ∧ y.decoded.testBit n = true ∧ (sh.committed = false → y.held.testBit n = true)

theorem planeLost_stopped {s : State} {n uid : Nat} {sh : Sheet} (hdec : (station s n).decUid = some uid) (hsh : sheetOf s uid = some sh) :
    PlaneStopped n uid sh s (planeLost s n uid) := by
  have hmark := sheetOf_modSheet hsh (g := fun sh => if sh.committed then sh else { sh with held := setBit sh.held n }) fun x => by split <;> rfl
  have hop : RasterOp [keyOf (decIdx n) 1] n s (modSheet s uid fun sh => if sh.committed then sh else { sh with held := setBit sh.held n }) := rasterOp_modSheet s n uid _
  have hst : station (modSheet s uid fun sh => if sh.committed then sh else { sh with held := setBit sh.held n }) n = station s n := rfl
  unfold planeLost
  generalize (modSheet s uid fun sh => if sh.committed then sh else { sh with held := setBit sh.held n }) = t at hmark hop hst ⊢
  have hdone := planeDone_done t n uid 5
  refine ⟨hop.trans hdone.op, by rw [hdone.station, hst, if_pos hdec], ?_⟩
  rw [hdone.sheets]
  refine ⟨_, List.mem_map_of_mem (mem_of_sheetOf hmark), ?_⟩
  have huid := uid_of_sheetOf hmark
  rw [if_pos huid]
  refine ⟨huid, testBit_setBit _ _, fun hc => ?_⟩
  rw [if_neg (by simp [hc])]
  exact testBit_setBit _ _

theorem PlaneStopped.refilled {n uid : Nat} {sh : Sheet} {s t u : State} (h : PlaneStopped n uid sh s t) (k : Refilled n t u) :
    (Machine.station u n).decUid = none ∧ ∃ y ∈ u.sheets, y.uid = uid ∧ y.decoded.testBit n = true ∧ (sh.committed = false → y.held.testBit n = true) := by
  refine ⟨?_, by rw [k.sheets]; exact h.sheet⟩
  rw [k.station.rest, h.station]

/-- A failing band: its code and count, and its plane stops. -/
theorem decodeError_stops {s : State} {n uid : Nat} {sh : Sheet} (hdec : (station s n).decUid = some uid) (hsh : sheetOf s uid = some sh) (code : Nat) :
    ∃ t, PlaneStopped n uid sh t (decodeError s n uid code) ∧ RasterOp [keyOf (decIdx n) 2, keyOf (decIdx n) 3] n s t ∧ station t n = station s n ∧
      get t (decIdx n) 2 = code ∧ get t (decIdx n) 3 = min (get s (decIdx n) 3 + 1) 65535 := by
  have hkey : keyOf (decIdx n) 3 ≠ keyOf (decIdx n) 2 := fun e => absurd ((keyOf_inj (by decide) (by decide)).1 e).2 (by decide)
  have hbase : RasterOp [keyOf (decIdx n) 2, keyOf (decIdx n) 3] n s (sat (put s (decIdx n) 2 code) (decIdx n) 3) :=
    (rasterOp_put s n _ (by simp)).trans (rasterOp_put _ n _ (by simp))
  have hcode : get (sat (put s (decIdx n) 2 code) (decIdx n) 3) (decIdx n) 2 = code :=
    (get_put_other _ _ (Ne.symm hkey)).trans (get_put_same s _ _ (isLogIdx_decIdx n))
  have hcount : get (sat (put s (decIdx n) 2 code) (decIdx n) 3) (decIdx n) 3 = min (get s (decIdx n) 3 + 1) 65535 :=
    (get_put_same _ _ _ (isLogIdx_decIdx n)).trans (by rw [get_put_other s _ hkey]; rfl)
  have hst : station (sat (put s (decIdx n) 2 code) (decIdx n) 3) n = station s n := rfl
  have hsheets : (sat (put s (decIdx n) 2 code) (decIdx n) 3).sheets = s.sheets := rfl
  unfold decodeError
  dsimp only
  generalize sat (put s (decIdx n) 2 code) (decIdx n) 3 = t at hbase hcode hcount hst hsheets ⊢
  have hlog := log_sameButLog t clsWarn 1 7 n (decIdx n) 2 ((sheetOf s uid).map (·.serial)) code
  have hserves := log_serveList t clsWarn 1 7 n (decIdx n) 2 ((sheetOf s uid).map (·.serial)) code
  generalize log t clsWarn 1 7 n (decIdx n) 2 ((sheetOf s uid).map (·.serial)) code = u at hlog hserves ⊢
  have hstu : station u n = station s n := (station_of_sameButLog hlog n).trans hst
  have hstop := planeLost_stopped (s := u) (by rw [hstu]; exact hdec) ((sheetOf_congr (hlog.sheets.trans hsheets) uid).trans hsh)
  exact ⟨u, hstop, hbase.trans ((watched_of_log hlog hserves).rasterOp n), hstu, (hlog.get _ (isLogIdx_decIdx n)).trans hcode,
    (hlog.get _ (isLogIdx_decIdx n)).trans hcount⟩

/-! ## A band is decoded (R329 to R332) -/

/-- The objects that a band's decoding writes. -/
def bandKeys (n : Nat) : List Nat := keyOf (decIdx n) 2 :: keyOf (decIdx n) 3 :: keyOf (decIdx n) 4 :: keyOf (decIdx n) 6 :: rasterKeys n

/-- A band that has entered its station, whatever follows of its plane. -/
structure BandEnds (n uid : Nat) (b : Band) (s u : State) : Prop where
  op : LinkOp n s u
  lines : (station u n).fifo ++ (station u n).backlog = (station s n).fifo ++ ((station s n).backlog ++ bandRows (station s n) uid b)
  counted : get u (decIdx n) 4 = (get s (decIdx n) 4 + b.lines.length) % 2 ^ 64

theorem bandKeys_of_raster {n k : Nat} (h : k ∈ rasterKeys n) : k ∈ bandKeys n := by simp [bandKeys, h]

theorem decIdx4_not_raster (n : Nat) : keyOf (decIdx n) 4 ∉ rasterKeys n := by
  simp only [rasterKeys, watermark, List.mem_cons, List.not_mem_nil, or_false, keyOf, freeIdx, decIdx]
  omega

/-- What follows a band's lines without touching them, and then the refill. -/
theorem BandIn.ends {n uid : Nat} {b : Band} {s t v : State} (h : BandIn n uid b s t) (hop : LinkOp n t v)
    (h4 : get v (decIdx n) 4 = get t (decIdx n) 4) (hfifo : (Machine.station v n).fifo = (Machine.station t n).fifo)
    (hbacklog : (Machine.station v n).backlog = (Machine.station t n).backlog) : BandEnds n uid b s (refill v n) := by
  have hrefill := refill_refilled v n
  obtain ⟨l, hst⟩ := h.station
  refine ⟨(h.op.op.trans hop).trans hrefill.op.op, ?_, ?_⟩
  · rw [hrefill.station.lines, hfifo, hbacklog, hst]
  · rw [hrefill.op.keeps.get (decIdx4_not_raster n) (isLogIdx_decIdx n), h4, h.counted]

/-- The band on which a decoder's plane goes on, ends, or stops. -/
structure BandDecoded (n uid : Nat) (sh : Sheet) (b : Band) (s u : State) : Prop where
  ends : BandEnds n uid b s u
  keeps : KeepsObjects (bandKeys n) s u
  failed : b.code ≠ 0 → get u (decIdx n) 2 = b.code ∧ get u (decIdx n) 3 = min (get s (decIdx n) 3 + 1) 65535 ∧ (station u n).decUid = none ∧
    ∃ y ∈ u.sheets, y.uid = uid ∧ y.decoded.testBit n = true ∧ (sh.committed = false → y.held.testBit n = true)
  goes : b.code = 0 → (station s n).decLine + b.lines.length < sh.lines → (station u n).decUid = some uid ∧
    (station u n).decPos = (station s n).decPos + b.used ∧ (station u n).decBand = (station s n).decBand + 1 ∧
    (station u n).decLine = (station s n).decLine + b.lines.length ∧ get u (decIdx n) 6 = (station s n).decBand + 1
  done : b.code = 0 → sh.lines ≤ (station s n).decLine + b.lines.length → (station u n).decUid = none ∧ ∃ y ∈ u.sheets, y.uid = uid ∧ y.decoded.testBit n = true

theorem decIdx_not_raster {n j : Nat} (hj : j < 256) (h1 : j ≠ 1) : keyOf (decIdx n) j ∉ rasterKeys n := by
  simp only [rasterKeys, watermark, List.mem_cons, List.not_mem_nil, or_false, keyOf, freeIdx, decIdx]
  omega

theorem decIdx_key_ne {n a b : Nat} (ha : a < 256) (hb : b < 256) (h : a ≠ b) : keyOf (decIdx n) a ≠ keyOf (decIdx n) b := fun e =>
  h ((keyOf_inj ha hb).1 e).2

theorem Refilled.get {n i j : Nat} {s t : State} (h : Refilled n s t) (hk : keyOf i j ∉ rasterKeys n) (hi : isLogIdx i = false) :
    Machine.get t i j = Machine.get s i j := h.op.keeps.get hk hi

theorem decodeNext_decodes {s : State} {n uid : Nat} {sh : Sheet} (hdec : (station s n).decUid = some uid) (hsh : sheetOf s uid = some sh) :
    BandDecoded n uid sh (nextBand s n sh none) s (decodeNext s n sh) := by
  have huid := uid_of_sheetOf hsh
  have hin := bandLinesIn_in s n uid (nextBand s n sh none)
  unfold decodeNext
  dsimp only
  rw [huid]
  generalize nextBand s n sh none = b at hin ⊢
  generalize bandLinesIn s n uid b = t at hin ⊢
  obtain ⟨tail, hst⟩ := hin.station
  have hdect : (station t n).decUid = some uid := by rw [hst]; exact hdec
  have hsht : sheetOf t uid = some sh := (sheetOf_congr hin.sheets uid).trans hsh
  by_cases hc : b.code = 0
  · rw [if_neg (by simp [hc])]
    have hset : RasterOp [keyOf (decIdx n) 6] n t (put (setStation t n fun y =>
        { y with decPos := (station s n).decPos + b.used, decBand := (station s n).decBand + 1 }) (decIdx n) 6 ((station s n).decBand + 1)) :=
      (rasterOp_setStation t n _).trans (rasterOp_put _ n _ (by simp))
    have hsix : get (put (setStation t n fun y =>
        { y with decPos := (station s n).decPos + b.used, decBand := (station s n).decBand + 1 }) (decIdx n) 6 ((station s n).decBand + 1)) (decIdx n) 6 =
        (station s n).decBand + 1 := get_put_same _ _ _ (isLogIdx_decIdx n)
    have hstw : station (put (setStation t n fun y =>
        { y with decPos := (station s n).decPos + b.used, decBand := (station s n).decBand + 1 }) (decIdx n) 6 ((station s n).decBand + 1)) n =
        { station t n with decPos := (station s n).decPos + b.used, decBand := (station s n).decBand + 1 } :=
      station_setStation_same t n fun y => { y with decPos := (station s n).decPos + b.used, decBand := (station s n).decBand + 1 }
    have hsheets : (put (setStation t n fun y =>
        { y with decPos := (station s n).decPos + b.used, decBand := (station s n).decBand + 1 }) (decIdx n) 6 ((station s n).decBand + 1)).sheets = t.sheets := rfl
    generalize put (setStation t n fun y =>
        { y with decPos := (station s n).decPos + b.used, decBand := (station s n).decBand + 1 }) (decIdx n) 6 ((station s n).decBand + 1) = w at hset hsix hstw hsheets ⊢
    have hline : (station w n).decLine = (station s n).decLine + b.lines.length := by rw [hstw, hst]
    rw [hline]
    by_cases hmore : (station s n).decLine + b.lines.length < sh.lines
    · rw [if_pos hmore]
      have hrefill := refill_refilled w n
      have hends := hin.ends hset.op (hset.keeps.get (by simpa using decIdx_key_ne (by decide) (by decide) (by decide)) (isLogIdx_decIdx n))
        (by rw [hstw]) (by rw [hstw])
      have hkeeps : KeepsObjects (bandKeys n) s (refill w n) := keepsObjects_trans (hin.op.mono (by simp [bandKeys])).keeps
        (keepsObjects_trans (hset.mono (by simp [bandKeys])).keeps (hrefill.op.mono fun k hk => bandKeys_of_raster hk).keeps)
      refine ⟨hends, hkeeps, fun h => absurd hc h, fun _ _ => ⟨?_, ?_, ?_, ?_, ?_⟩, fun _ h => by omega⟩
      · rw [hrefill.station.rest, hstw]
        exact hdect
      · rw [hrefill.station.rest, hstw]
      · rw [hrefill.station.rest, hstw]
      · rw [hrefill.station.rest]
        exact hline
      · rw [hrefill.get (decIdx_not_raster (by decide) (by decide)) (isLogIdx_decIdx n), hsix]
    · rw [if_neg hmore]
      have hplane := planeDone_done w n uid 0
      have hdrop := hplane.station
      rw [if_pos (show (station w n).decUid = some uid by rw [hstw]; exact hdect)] at hdrop
      have hsheet := hplane.sheets
      rw [hsheets, hin.sheets] at hsheet
      have hop : RasterOp [keyOf (decIdx n) 1, keyOf (decIdx n) 6] n t (planeDone w n uid 0) := (hset.mono (by simp)).trans (hplane.op.mono (by simp))
      generalize planeDone w n uid 0 = v at hdrop hsheet hop ⊢
      have hrefill := refill_refilled v n
      have hends := hin.ends hop.op (hop.keeps.get (by
        simp only [List.mem_cons, List.not_mem_nil, or_false, not_or]
        exact ⟨decIdx_key_ne (by decide) (by decide) (by decide), decIdx_key_ne (by decide) (by decide) (by decide)⟩) (isLogIdx_decIdx n))
        (by rw [hdrop, hstw]) (by rw [hdrop, hstw])
      have hkeeps : KeepsObjects (bandKeys n) s (refill v n) := keepsObjects_trans (hin.op.mono (by simp [bandKeys])).keeps
        (keepsObjects_trans (hop.mono (by simp [bandKeys, rasterKeys])).keeps (hrefill.op.mono fun k hk => bandKeys_of_raster hk).keeps)
      refine ⟨hends, hkeeps, fun h => absurd hc h, fun _ h => absurd h hmore, fun _ _ => ⟨?_, ?_⟩⟩
      · rw [hrefill.station.rest, hdrop]
      · rw [hrefill.sheets, hsheet]
        exact ⟨_, List.mem_map.2 ⟨sh, mem_of_sheetOf hsh, if_pos huid⟩, huid, testBit_setBit _ _⟩
  · rw [if_pos hc]
    obtain ⟨v, hstop, hop, hstv, hcode, hcount⟩ := decodeError_stops hdect hsht b.code
    generalize decodeError t n uid b.code = w at hstop ⊢
    have hrefill := refill_refilled w n
    have hafter : RasterOp [keyOf (decIdx n) 1, keyOf (decIdx n) 2, keyOf (decIdx n) 3] n t w := (hop.mono (by simp)).trans (hstop.op.mono (by simp))
    have hends := hin.ends hafter.op (hafter.keeps.get (by
      simp only [List.mem_cons, List.not_mem_nil, or_false, not_or]
      exact ⟨decIdx_key_ne (by decide) (by decide) (by decide), decIdx_key_ne (by decide) (by decide) (by decide), decIdx_key_ne (by decide) (by decide) (by decide)⟩)
      (isLogIdx_decIdx n)) (by rw [hstop.station, hstv]) (by rw [hstop.station, hstv])
    have hkeeps : KeepsObjects (bandKeys n) s (refill w n) := keepsObjects_trans (hin.op.mono (by simp [bandKeys])).keeps
      (keepsObjects_trans (hafter.mono (by simp [bandKeys, rasterKeys])).keeps (hrefill.op.mono fun k hk => bandKeys_of_raster hk).keeps)
    obtain ⟨hfree, hsheet⟩ := hstop.refilled hrefill
    refine ⟨hends, hkeeps, fun _ => ⟨?_, ?_, hfree, hsheet⟩, fun h => absurd h hc, fun h => absurd h hc⟩
    · rw [hrefill.get (decIdx_not_raster (by decide) (by decide)) (isLogIdx_decIdx n),
        hstop.op.keeps.get (by simpa using decIdx_key_ne (by decide) (by decide) (by decide)) (isLogIdx_decIdx n), hcode]
    · rw [hrefill.get (decIdx_not_raster (by decide) (by decide)) (isLogIdx_decIdx n),
        hstop.op.keeps.get (by simpa using decIdx_key_ne (by decide) (by decide) (by decide)) (isLogIdx_decIdx n), hcount,
        hin.op.keeps.get (by simpa using decIdx_key_ne (by decide) (by decide) (by decide)) (isLogIdx_decIdx n)]

/-! ## Reads that are lost for good (R294, R319) -/

/-- The second failure of a decoder's read: counted with its address, and its plane stops. -/
theorem dramDouble_decoder {s : State} {st : Fin 6} {uid : Nat} {sh : Sheet} (hdec : (station s st.val).decUid = some uid) (hsh : sheetOf s uid = some sh)
    (addr : Nat) : ∃ t, PlaneStopped st.val uid sh t (dramDouble s (.decoder st) addr) ∧ SameButObjects [keyOf 0x2310 4, keyOf 0x2310 3] s t ∧
      get t 0x2310 4 = addr ∧ get t 0x2310 3 = min (get s 0x2310 3 + 1) 65535 := by
  have hbase : SameButObjects [keyOf 0x2310 4, keyOf 0x2310 3] s (sat (put s 0x2310 4 addr) 0x2310 3) :=
    sameButObjects_trans (sameButObjects_put s _ (by simp)) (sameButObjects_put _ _ (by simp))
  have haddr : get (sat (put s 0x2310 4 addr) 0x2310 3) 0x2310 4 = addr := (get_put_other _ _ (by decide)).trans (get_put_same s _ _ rfl)
  have hcount : get (sat (put s 0x2310 4 addr) 0x2310 3) 0x2310 3 = min (get s 0x2310 3 + 1) 65535 :=
    (get_put_same _ _ _ rfl).trans (by rw [get_put_other s _ (by decide)]; rfl)
  unfold dramDouble
  dsimp only
  generalize sat (put s 0x2310 4 addr) 0x2310 3 = a at hbase haddr hcount ⊢
  have hlog := doubleFaultAs_sameButLog clsFault a .dramRead (readerInst (.decoder st)) (readerCode (.decoder st)) 6 0x2310 4
  generalize doubleFaultAs clsFault a .dramRead (readerInst (.decoder st)) (readerCode (.decoder st)) 6 0x2310 4 = u at hlog ⊢
  have hu : SameButObjects [keyOf 0x2310 4, keyOf 0x2310 3] s u := sameButObjects_trans hbase hlog.sameButObjects
  have hdecu : (station u st.val).decUid = some uid := by
    rw [show station u st.val = station s st.val by unfold station; rw [hu.1], hdec]
  rw [hdecu]
  exact ⟨u, planeLost_stopped hdecu ((sheetOf_congr (by rw [hu.1]) uid).trans hsh), hu, (hlog.get 4 rfl).trans haddr, (hlog.get 3 rfl).trans hcount⟩

theorem station_of_same {ks : List Nat} {s t : State} (h : SameButObjects ks s t) (n : Nat) : station t n = station s n := by
  unfold station
  rw [h.1]

theorem linkOp_of_same {ks : List Nat} {s t : State} (h : SameButObjects ks s t) (n : Nat) : LinkOp n s t :=
  ⟨by rw [h.1], fun k _ => station_of_same h k⟩

theorem PlaneStopped.get_other {n uid i j : Nat} {sh : Sheet} {s t : State} (h : PlaneStopped n uid sh s t) (hi : i < 0x3000) (hl : isLogIdx i = false) (hj : j < 256) :
    Machine.get t i j = Machine.get s i j := h.op.keeps.get (by
  simp only [List.mem_singleton]
  unfold keyOf decIdx
  omega) hl

/-- What a decoder's read that is lost for good shows. -/
structure ReadLost (st : Fin 6) (uid : Nat) (sh : Sheet) (addr : Nat) (s u : State) : Prop where
  count : get u 0x2310 3 = min (get s 0x2310 3 + 1) 65535
  addr : get u 0x2310 4 = addr
  free : (station u st.val).decUid = none
  sheet : ∃ y ∈ u.sheets, y.uid = uid ∧ y.decoded.testBit st.val = true ∧ (sh.committed = false → y.held.testBit st.val = true)

/-- The band before a word that the input buffer has lost is delivered; its plane stops. -/
theorem decodeCut_ends {s : State} {st : Fin 6} {uid : Nat} {sh : Sheet} (hdec : (station s st.val).decUid = some uid) (hsh : sheetOf s uid = some sh)
    (w : InputWord) : BandEnds st.val uid (nextBand s st.val sh (some w.at_)) s (decodeCut s st sh w) ∧
      ReadLost st uid sh w.refetch.addr s (decodeCut s st sh w) := by
  have huid := uid_of_sheetOf hsh
  have hin := bandLinesIn_in s st.val uid (nextBand s st.val sh (some w.at_))
  unfold decodeCut
  dsimp only
  rw [huid]
  generalize nextBand s st.val sh (some w.at_) = b at hin ⊢
  generalize bandLinesIn s st.val uid b = t at hin ⊢
  obtain ⟨tail, hst⟩ := hin.station
  obtain ⟨a, hstop, hsame, haddr, hcount⟩ := dramDouble_decoder (s := t) (by rw [hst]; exact hdec) ((sheetOf_congr hin.sheets uid).trans hsh) w.refetch.addr
  have hsta := station_of_same hsame st.val
  generalize dramDouble t (.decoder st) w.refetch.addr = v at hstop ⊢
  have hrefill := refill_refilled v st.val
  have hkept (j : Nat) (hj : j < 256) : get (refill v st.val) 0x2310 j = get a 0x2310 j :=
    (hrefill.get (fun hin => by have := rasterKeys_ge hin; unfold keyOf at this; omega) rfl).trans (hstop.get_other (by decide) rfl hj)
  obtain ⟨hfree, hsheet⟩ := hstop.refilled hrefill
  refine ⟨hin.ends ((linkOp_of_same hsame st.val).trans hstop.op.op) ?_ (by rw [hstop.station, hsta]) (by rw [hstop.station, hsta]), ?_, ?_, hfree, hsheet⟩
  · rw [hstop.op.keeps.get (by simpa using decIdx_key_ne (by decide) (by decide) (by decide)) (isLogIdx_decIdx _)]
    exact KeepsObjects.get hsame.2 (by simp only [List.mem_cons, List.not_mem_nil, or_false]; unfold keyOf decIdx; omega) (isLogIdx_decIdx _)
  · rw [hkept 3 (by decide), hcount, hin.op.keeps.get (by simp only [List.mem_singleton]; unfold keyOf decIdx; omega) rfl]
  · rw [hkept 4 (by decide), haddr]

/-- A beat that is lost for good: the plane stops as it stands. -/
theorem dramDouble_lost {s : State} {st : Fin 6} {uid : Nat} {sh : Sheet} (hdec : (station s st.val).decUid = some uid) (hsh : sheetOf s uid = some sh)
    (addr : Nat) : ReadLost st uid sh addr s (dramDouble s (.decoder st) addr) ∧ LinkOp st.val s (dramDouble s (.decoder st) addr) ∧
      (station (dramDouble s (.decoder st) addr) st.val).fifo = (station s st.val).fifo := by
  obtain ⟨a, hstop, hsame, haddr, hcount⟩ := dramDouble_decoder hdec hsh addr
  refine ⟨⟨?_, ?_, by rw [hstop.station], hstop.sheet⟩, (linkOp_of_same hsame st.val).trans hstop.op.op, by rw [hstop.station, station_of_same hsame]⟩
  · rw [hstop.get_other (by decide) rfl (by decide), hcount]
  · rw [hstop.get_other (by decide) rfl (by decide), haddr]

end Sys2Proof.Machine

/-! # Pointer mismatches of a FIFO, and the decoders' commands (R274, R320, R321, R330) -/

namespace Sys2Proof.Machine

/-! ## A pointer mismatch (R320) -/

theorem testBit_clrBit (n i : Nat) : (clrBit n i).testBit i = false := by
  unfold clrBit
  split
  next h =>
    rw [Nat.testBit_eq_decide_div_mod_eq] at h ⊢
    have hdiv : (n - 2 ^ i) / 2 ^ i = n / 2 ^ i - 1 := by
      have := Nat.sub_mul_div n (2 ^ i) 1
      rwa [Nat.mul_one] at this
    rw [hdiv]
    simp only [decide_eq_true_eq, decide_eq_false_iff_not] at h ⊢
    omega
  next h => simpa using h

/-- The sheets that a mismatch spills: COMMITTED, with data on the station or imaging there. -/
def struckBy (s : State) (n : Nat) (sh : Sheet) : Bool :=
  sh.committed && ((dataUids s n).contains sh.uid || (station s n).imaging == some sh.uid)

/-- What a mismatch makes of a sheet that it has spilled or not. -/
def pointerSheet (s : State) (n : Nat) (sh : Sheet) : Sheet :=
  if struckBy s n sh then { sh with decoded := setBit sh.decoded n } else if sh.admitted then { sh with decoded := clrBit sh.decoded n } else sh

/-- The state in which the mismatch is counted and logged. -/
def pointerNoted (s : State) (n : Nat) : State := logEvent (sat s (resIdx n) 4) clsFault 7 n (resIdx n) 4

/-- The state with the FIFO empty and the sheets marked. -/
def pointerCleared (s : State) (n : Nat) : State :=
  let t := emptyFifo (spillWhere s (struckBy s n) (some n)) n
  { t with sheets := t.sheets.map (pointerSheet s n) }

theorem pointerFault_eq (s : State) (n : Nat) : pointerFault s n =
    match (station (pointerCleared (pointerNoted s n) n) n).decUid with
    | some uid => if (sheetOf (pointerCleared (pointerNoted s n) n) uid).any (fun sh => sh.admitted || sh.decoded.testBit n) then
        dropPlane (pointerCleared (pointerNoted s n) n) n 0 else pointerCleared (pointerNoted s n) n
    | none => pointerCleared (pointerNoted s n) n := rfl

/-- A station with an empty FIFO and fresh pointers. -/
def freshFifo (x : Station) : Station :=
  { x with fifo := [], backlog := [], tail := none, wr := 0, rd := 0, wrNot := inverted 0, rdNot := inverted 0 }

theorem freshFifo_agrees (x : Station) : (freshFifo x).pointersAgree = true := by simp [freshFifo, Station.pointersAgree]

/-- The spill that a mismatch gives a sheet. -/
def pointerSpill (s : State) (n : Nat) (sh : Sheet) : Sheet := if sh.committed && struckBy s n sh then sh.spill (some n) else sh

theorem pointerCleared_clears (s : State) (n : Nat) : RasterOp (rasterKeys n) n s (pointerCleared s n) ∧
    station (pointerCleared s n) n = freshFifo (station s n) ∧
    (pointerCleared s n).sheets = s.sheets.map fun sh => pointerSheet s n (pointerSpill s n sh) := by
  have hop : RasterOp (rasterKeys n) n s (spillWhere s (struckBy s n) (some n)) := ⟨⟨rfl, fun _ _ => rfl⟩, fun _ _ => rfl, rfl⟩
  have hst : station (spillWhere s (struckBy s n) (some n)) n = station s n := rfl
  have hsheets : (spillWhere s (struckBy s n) (some n)).sheets = s.sheets.map (pointerSpill s n) := rfl
  unfold pointerCleared emptyFifo
  dsimp only
  generalize spillWhere s (struckBy s n) (some n) = t at hop hst hsheets ⊢
  have hset : RasterOp (rasterKeys n) n t (setStation t n freshFifo) := rasterOp_setStation t n _
  have hfresh : station (setStation t n freshFifo) n = freshFifo (station t n) := station_setStation_same t n _
  have hsame : (setStation t n freshFifo).sheets = t.sheets := rfl
  change RasterOp _ _ _ { updateFreeboard (setStation t n freshFifo) n with sheets := (updateFreeboard (setStation t n freshFifo) n).sheets.map (pointerSheet s n) } ∧
    station (updateFreeboard (setStation t n freshFifo) n) n = _ ∧ (updateFreeboard (setStation t n freshFifo) n).sheets.map (pointerSheet s n) = _
  generalize setStation t n freshFifo = u at hset hfresh hsame ⊢
  have hboard := updateFreeboard_watched u n
  generalize updateFreeboard u n = v at hboard ⊢
  have hmark : RasterOp (rasterKeys n) n v { v with sheets := v.sheets.map (pointerSheet s n) } := ⟨⟨rfl, fun _ _ => rfl⟩, fun _ _ => rfl, rfl⟩
  refine ⟨hop.trans (hset.trans ((hboard.rasterOp n).trans hmark)), by rw [hboard.station n, hfresh, hst], ?_⟩
  rw [show v.sheets = u.sheets by rw [hboard.rest], hsame, hsheets, List.map_map]
  rfl

theorem struckBy_spill (s : State) (n : Nat) (sh : Sheet) : struckBy s n (pointerSpill s n sh) = struckBy s n sh := by
  unfold pointerSpill
  split <;> rfl

theorem pointerSpill_kept (s : State) (n : Nat) (sh : Sheet) : (pointerSpill s n sh).uid = sh.uid ∧ (pointerSpill s n sh).admitted = sh.admitted := by
  unfold pointerSpill
  split <;> exact ⟨rfl, rfl⟩

theorem pointerSheet_kept (s : State) (n : Nat) (sh : Sheet) : (pointerSheet s n sh).uid = sh.uid ∧ (pointerSheet s n sh).admitted = sh.admitted := by
  unfold pointerSheet
  split
  · exact ⟨rfl, rfl⟩
  · split <;> exact ⟨rfl, rfl⟩

theorem admitted_not_struck {s : State} {n : Nat} {sh : Sheet} (h : sh.admitted = true) : struckBy s n sh = false := by
  have hc : sh.committed = false := by
    unfold Sheet.admitted Sheet.committed at *
    rw [beq_iff_eq.1 h]
    rfl
  rw [struckBy, hc, Bool.false_and]

/-- What a mismatch leaves (R320). -/
structure PointerReset (n : Nat) (s u : State) : Prop where
  op : LinkOp n s u
  count : get u (resIdx n) 4 = min (get s (resIdx n) 4 + 1) 65535
  fifo : (station u n).fifo = []
  backlog : (station u n).backlog = []
  agree : (station u n).pointersAgree = true
  serves : u.log.serves = s.log.serves
  free : ∀ sh, (station s n).decUid = some sh.uid → sheetOf s sh.uid = some sh → sh.admitted = true → (station u n).decUid = none
  again : ∀ y ∈ u.sheets, y.admitted = true → y.decoded.testBit n = false
  spills : ∀ sh ∈ s.sheets, sh.committed = true → sh.uid ∈ dataUids s n → ∃ y ∈ u.sheets, y.uid = sh.uid ∧ y.spoiled = true ∧ y.decoded.testBit n = true

theorem pointerFault_resets (s : State) (n : Nat) : PointerReset n s (pointerFault s n) := by
  have hnoted : RasterOp [keyOf (resIdx n) 4] n s (pointerNoted s n) := by
    have hlog := log_sameButLog (sat s (resIdx n) 4) clsFault 1 7 n (resIdx n) 4 none (get (sat s (resIdx n) 4) (resIdx n) 4)
    have hserves := log_serveList (sat s (resIdx n) 4) clsFault 1 7 n (resIdx n) 4 none (get (sat s (resIdx n) 4) (resIdx n) 4)
    exact (rasterOp_put s n _ List.mem_cons_self).trans ((watched_of_log hlog hserves).rasterOp n)
  have hcount : get (pointerNoted s n) (resIdx n) 4 = min (get s (resIdx n) 4 + 1) 65535 :=
    ((log_sameButLog _ _ _ _ _ _ _ _ _).get _ (isLogIdx_resIdx' n)).trans (get_put_same s _ _ (isLogIdx_resIdx' n))
  have hst : station (pointerNoted s n) n = station s n := station_of_sameButLog (log_sameButLog (sat s (resIdx n) 4) _ _ _ _ _ _ _ _) n
  have hsheets : (pointerNoted s n).sheets = s.sheets := (log_sameButLog (sat s (resIdx n) 4) _ _ _ _ _ _ _ _).sheets
  rw [pointerFault_eq]
  generalize pointerNoted s n = a at hnoted hcount hst hsheets ⊢
  have hids : dataUids a n = dataUids s n := by rw [dataUids, dataUids, hst]
  obtain ⟨hclear, hclearSt, hclearSheets⟩ := pointerCleared_clears a n
  generalize pointerCleared a n = c at hclear hclearSt hclearSheets ⊢
  have hdec : (station c n).decUid = (station s n).decUid := by rw [hclearSt, ← hst]; rfl
  have hagain : ∀ y ∈ c.sheets, y.admitted = true → y.decoded.testBit n = false := fun y hy hadm => by
    rw [hclearSheets] at hy
    obtain ⟨x, -, rfl⟩ := List.mem_map.1 hy
    rw [(pointerSheet_kept _ _ _).2] at hadm
    have hno := admitted_not_struck (s := a) (n := n) hadm
    rw [pointerSheet, hno, if_neg Bool.false_ne_true, if_pos hadm]
    exact testBit_clrBit _ _
  have hspills : ∀ sh ∈ s.sheets, sh.committed = true → sh.uid ∈ dataUids s n → ∃ y ∈ c.sheets, y.uid = sh.uid ∧ y.spoiled = true ∧ y.decoded.testBit n = true :=
    fun sh hsh hc hin => by
      have hstruck : struckBy a n sh = true := by
        rw [struckBy, hc, hids, List.contains_iff_mem.2 hin]
        rfl
      refine ⟨pointerSheet a n (pointerSpill a n sh), by rw [hclearSheets]; exact List.mem_map_of_mem (f := fun x => pointerSheet a n (pointerSpill a n x)) (hsheets ▸ hsh),
        by rw [(pointerSheet_kept _ _ _).1, (pointerSpill_kept _ _ _).1], ?_⟩
      rw [pointerSheet, struckBy_spill, hstruck, if_pos rfl, pointerSpill, hc, hstruck, if_pos (by rfl)]
      exact ⟨rfl, testBit_setBit _ _⟩
  have hkept {d : State} (h : RasterOp [keyOf (decIdx n) 1] n c d) : get d (resIdx n) 4 = min (get s (resIdx n) 4 + 1) 65535 := by
    rw [h.keeps.get (by simp only [List.mem_singleton]; unfold keyOf decIdx resIdx; omega) (isLogIdx_resIdx' n), hclear.keeps.get ?_ (isLogIdx_resIdx' n), hcount]
    simp only [rasterKeys, watermark, List.mem_cons, List.not_mem_nil, or_false, keyOf, freeIdx, decIdx, resIdx]
    omega
  have hstay (hfree : ∀ sh, (station s n).decUid = some sh.uid → sheetOf s sh.uid = some sh → sh.admitted = true → (station c n).decUid = none) :
      PointerReset n s c := {
    op := hnoted.op.trans hclear.op
    count := hkept (.refl _ n c)
    fifo := by rw [hclearSt]; rfl
    backlog := by rw [hclearSt]; rfl
    agree := by rw [hclearSt]; exact freshFifo_agrees _
    serves := hclear.serves.trans hnoted.serves
    free := hfree
    again := hagain
    spills := hspills }
  cases hd : (station c n).decUid with
  | none => exact hstay fun _ _ _ _ => hd
  | some uid =>
    dsimp only
    split
    · obtain ⟨hdrop, hsame, hdst⟩ := dropPlane_op c n 0
      exact {
        op := (hnoted.op.trans hclear.op).trans hdrop.op
        count := hkept hdrop
        fifo := by rw [hdst, hclearSt]; rfl
        backlog := by rw [hdst, hclearSt]; rfl
        agree := by
          rw [hdst, hclearSt]
          exact freshFifo_agrees (station a n)
        serves := hdrop.serves.trans (hclear.serves.trans hnoted.serves)
        free := fun _ _ _ _ => by rw [hdst]
        again := by rw [hsame]; exact hagain
        spills := by rw [hsame]; exact hspills }
    next hno =>
      refine hstay fun sh hdu hsh hadm => absurd ?_ hno
      rw [hdec, hdu] at hd
      obtain rfl := Option.some.inj hd
      have hfound : sheetOf c sh.uid = some (pointerSheet a n (pointerSpill a n sh)) := by
        have hmap : ((fun x : Sheet => x.uid == sh.uid) ∘ fun x => pointerSheet a n (pointerSpill a n x)) = fun x : Sheet => x.uid == sh.uid :=
          funext fun x => by rw [Function.comp_apply, (pointerSheet_kept _ _ _).1, (pointerSpill_kept _ _ _).1]
        unfold sheetOf at hsh ⊢
        rw [hclearSheets, List.find?_map, hmap, hsheets, hsh]
        rfl
      rw [hfound, Option.any_some, (pointerSheet_kept _ _ _).2, (pointerSpill_kept _ _ _).2, hadm, Bool.true_or]

/-! ## The commands -/

theorem exec_planeStart (st : Fin 6) (s : State) : exec (.decoderPlaneStart st) s = execDecoderPlaneStart st s := rfl
theorem exec_bandDecode (st : Fin 6) (unit : Nat) (reads : List BeatRead) (words : List InputWord) (s : State) :
    exec (.bandDecode st unit reads words) s = execBandDecode st unit reads words s := rfl
theorem exec_pointerMismatch (copy : PointerCopy) (s : State) : exec (.pointerMismatch copy) s = execPointerMismatch copy s := rfl

/-- The second serve of a mismatch passes at once, or was the second one within a second (R321). -/
theorem pointerServe_cases {s u : State} {n : Nat} (h : PointerReset n s u) :
    (servedWithin s .pointers n (ticksS 1) = false → SameButLog u (pointerServe u n)) ∧
      (servedWithin s .pointers n (ticksS 1) = true → s.md.mode ∈ operating → Stopped7 (pointerServe u n)) := by
  have hwithin : servedWithin u .pointers n (ticksS 1) = servedWithin s .pointers n (ticksS 1) := servedWithin_congr h.serves h.op.time _ _ _
  unfold pointerServe
  rw [hwithin]
  refine ⟨fun hw => ?_, fun hw hop => ?_⟩
  · rw [hw, if_neg Bool.false_ne_true]
    exact (serveBegin_sameButLog _ _ _ _ _ _ _).trans (servePass_sameButLog _ _ _ _ _ _)
  · rw [hw, if_pos rfl]
    refine safestop_operating ?_
    rw [(doubleFault_sameButLog _ _ _ _ _ _ _).md, h.op.md]
    exact hop

/-- A copy that reads wrong touches nothing but its pointer. -/
theorem pointerReads_kept (x : Station) (write inv : Bool) (v : Nat) : (pointerReads x write inv v).decUid = x.decUid ∧
    (pointerReads x write inv v).fifo = x.fifo ∧ (pointerReads x write inv v).backlog = x.backlog ∧ (pointerReads x write inv v).tail = x.tail ∧
    (pointerReads x write inv v).imaging = x.imaging := by
  cases write <;> cases inv <;> exact ⟨rfl, rfl, rfl, rfl, rfl⟩

section Commands

variable {st : Fin 6} {s : State}

theorem pointerMismatch_acts (write inv : Bool) (v : Nat) :
    (present s st.val = false ∨ (pointerReads (station s st.val) write inv v).pointersAgree = true →
        Completes (.pointerMismatch ⟨st, write, inv, v⟩) s fun u => u = s) ∧
      (present s st.val = true → (pointerReads (station s st.val) write inv v).pointersAgree = false →
        ∃ t, t = setStation s st.val (fun x => pointerReads x write inv v) ∧
          exec (.pointerMismatch ⟨st, write, inv, v⟩) s = .next (settle (pointerServe (pointerFault t st.val) st.val)) ∧
          PointerReset st.val t (pointerFault t st.val)) := by
  have hst : station (setStation s st.val fun x => pointerReads x write inv v) st.val = pointerReads (station s st.val) write inv v := station_setStation_same s _ _
  refine ⟨fun h => ⟨s, ?_, rfl⟩, fun hp hno => ⟨_, rfl, ?_, pointerFault_resets _ _⟩⟩
  · rw [exec_pointerMismatch, execPointerMismatch]
    dsimp only
    rw [hst, if_pos]
    · rfl
    · rcases h with h | h <;> simp [h]
  · rw [exec_pointerMismatch, execPointerMismatch]
    dsimp only
    rw [hst, if_neg (by simp [hp, hno])]
    rfl

theorem planeStart_takes {sh : Sheet} (hm : rasterMode s = true) (hd : (station s st.val).decUid = none) (hnext : nextPlane s st.val = some sh)
    (hw : tabGet 0 sh.winAt st.val ≤ s.time) : exec (.decoderPlaneStart st) s = .next (settle (startPlane s st.val sh)) := by
  rw [exec_planeStart, execDecoderPlaneStart, hm, hd, if_pos (by rfl), hnext]
  dsimp only
  rw [if_pos hw]
  rfl

theorem planeStart_waits (h : rasterMode s = false ∨ (station s st.val).decUid ≠ none ∨ nextPlane s st.val = none ∨
    ∃ sh, nextPlane s st.val = some sh ∧ s.time < tabGet 0 sh.winAt st.val) : exec (.decoderPlaneStart st) s = .next (settle s) := by
  rw [exec_planeStart, execDecoderPlaneStart]
  split
  next hc =>
    obtain ⟨hm, hd⟩ := Bool.and_eq_true_iff.1 hc
    rcases h with h | h | h | ⟨sh, h, hw⟩
    · exact absurd hm (by simp [h])
    · exact absurd (Option.isNone_iff_eq_none.1 hd) h
    · rw [h]
      rfl
    · rw [h]
      dsimp only
      rw [if_neg (by omega)]
      rfl
  · rfl

theorem startPlane_starts (sh : Sheet) : let u := startPlane s st.val sh
    station u st.val = { station s st.val with decUid := some sh.uid, decPos := 0, decBand := 0, decLine := 0 } ∧ get u (decIdx st.val) 1 = 1 ∧
      get u (decIdx st.val) 5 = sh.serial ∧ get u (decIdx st.val) 6 = 0 ∧ (∀ k, k ≠ st.val → station u k = station s k) ∧
      KeepsObjects [keyOf (decIdx st.val) 1, keyOf (decIdx st.val) 5, keyOf (decIdx st.val) 6] s u ∧ u = { s with stations := u.stations, dict := u.dict } := by
  have hst := station_setStation_same s st.val fun x => { x with decUid := some sh.uid, decPos := 0, decBand := 0, decLine := 0 }
  have hother : ∀ k, k ≠ st.val → station (setStation s st.val fun x => { x with decUid := some sh.uid, decPos := 0, decBand := 0, decLine := 0 }) k = station s k :=
    fun k hk => station_setStation_other s _ hk
  have hdict : (setStation s st.val fun x => { x with decUid := some sh.uid, decPos := 0, decBand := 0, decLine := 0 }).dict = s.dict := rfl
  have hwhole : startPlane s st.val sh = { s with stations := (startPlane s st.val sh).stations, dict := (startPlane s st.val sh).dict } := rfl
  have heq : startPlane s st.val sh = put (put (setDecoder (setStation s st.val fun x =>
      { x with decUid := some sh.uid, decPos := 0, decBand := 0, decLine := 0 }) st.val 1) (decIdx st.val) 5 sh.serial) (decIdx st.val) 6 0 := rfl
  intro u
  refine and_assoc.1 (and_assoc.1 (and_assoc.1 (and_assoc.1 (and_assoc.1 ⟨?_, hwhole⟩))))
  change ((((station (startPlane s st.val sh) st.val = _ ∧ get (startPlane s st.val sh) _ _ = _) ∧ get (startPlane s st.val sh) _ _ = _) ∧
    get (startPlane s st.val sh) _ _ = _) ∧ ∀ k, k ≠ st.val → station (startPlane s st.val sh) k = _) ∧ KeepsObjects _ s (startPlane s st.val sh)
  rw [heq]
  generalize (setStation s st.val fun x => { x with decUid := some sh.uid, decPos := 0, decBand := 0, decLine := 0 }) = t at hst hother hdict ⊢
  have hput (u : State) (j v : Nat) (h : keyOf (decIdx st.val) j ∈ [keyOf (decIdx st.val) 1, keyOf (decIdx st.val) 5, keyOf (decIdx st.val) 6]) :
      KeepsObjects [keyOf (decIdx st.val) 1, keyOf (decIdx st.val) 5, keyOf (decIdx st.val) 6] u (put u (decIdx st.val) j v) := keepsObjects_put u _ _ _ h
  refine ⟨⟨⟨⟨⟨hst, ?_⟩, ?_⟩, get_put_same _ _ _ (isLogIdx_decIdx _)⟩, hother⟩, ?_⟩
  · rw [get_put_other _ _ (decIdx_key_ne (by decide) (by decide) (by decide)), get_put_other _ _ (decIdx_key_ne (by decide) (by decide) (by decide))]
    exact get_put_same _ _ _ (isLogIdx_decIdx _)
  · rw [get_put_other _ _ (decIdx_key_ne (by decide) (by decide) (by decide))]
    exact get_put_same _ _ _ (isLogIdx_decIdx _)
  · exact keepsObjects_trans (keepsObjects_of_dict_eq hdict) (keepsObjects_trans (hput t 1 1 (by simp))
      (keepsObjects_trans (hput _ 5 _ (by simp)) (hput _ 6 _ (by simp))))

theorem bandDecode_idle (h : rasterMode s = false ∨ (station s st.val).backlog ≠ [] ∨ (station s st.val).decUid = none) (unit : Nat) (reads : List BeatRead)
    (words : List InputWord) : exec (.bandDecode st unit reads words) s = .next (settle s) := by
  rw [exec_bandDecode, execBandDecode]
  split
  · rfl
  next hc =>
    obtain ⟨hm, hb⟩ : rasterMode s = true ∧ (station s st.val).backlog = [] := by simpa using hc
    rcases h with h | h | h
    · exact absurd hm (by simp [h])
    · exact absurd hb h
    · rw [h]
      rfl

theorem bandDecode_works {uid : Nat} {sh : Sheet} (hm : rasterMode s = true) (hb : (station s st.val).backlog = []) (hd : (station s st.val).decUid = some uid)
    (hsh : sheetOf s uid = some sh) (unit : Nat) (reads : List BeatRead) (words : List InputWord) : exec (.bandDecode st unit reads words) s =
      .next (settle (if unit ∈ (tenant s sh.tenant).units then readBand s st sh reads words else fenceViolation s sh.tenant)) := by
  rw [exec_bandDecode, execBandDecode]
  rw [hm, hb, if_neg (by decide), hd]
  dsimp only
  rw [hsh]
  dsimp only
  by_cases hu : unit ∈ (tenant s sh.tenant).units
  · rw [if_pos hu, if_neg (by simp [hu])]
    rfl
  · rw [if_neg hu, if_pos (by simp [hu])]
    rfl

/-- A read outside the tenant's units resets it (R274). -/
theorem fenceViolation_resets (s : State) (t : Nat) : (tenant (fenceViolation s t) t).state ≠ .enabled ∧ get (fenceViolation s t) (tenIdx t) 0x1B = 5 ∧
    (fenceViolation s t).md = s.md :=
  have hreset := tenantReset_resets (logEvent (sat s (tenIdx t) 0x19) clsFault 5 t (tenIdx t) 0x19) t 5
  ⟨hreset.left, hreset.cause, md_of_modeView (fenceViolation_modeView s t)⟩

theorem bandRead_reads {reads : List BeatRead} (h : (dramReads (.decoder st) reads s).2 = true) (words : List InputWord) :
    SameButObjects (wordKeys st.val) s (inputWords st words (dramReads (.decoder st) reads s).1).1 :=
  sameButObjects_trans (sameButObjects_mono (dramReads_used h) fun k hk => by simp [wordKeys, hk]) (inputWords_same st words _)

theorem nextBand_congr {s t : State} {n : Nat} (h : station t n = station s n) (sh : Sheet) (cut : Option Nat) : nextBand t n sh cut = nextBand s n sh cut := by
  simp only [nextBand, h]

theorem wordKeys_decIdx {n j : Nat} (hj : j < 256) : keyOf (decIdx n) j ∉ wordKeys n := by
  simp only [wordKeys, beatKeys, List.mem_cons, List.not_mem_nil, or_false, keyOf, decIdx, resIdx]
  omega

theorem wordKeys_lost {n : Nat} : keyOf 0x2310 3 ∉ wordKeys n := by
  simp only [wordKeys, beatKeys, List.mem_cons, List.not_mem_nil, or_false, keyOf, resIdx]
  omega

theorem bandKeys_res {n i : Nat} (hi : i < 256) : keyOf (resIdx n) i ∉ bandKeys n := by
  simp only [bandKeys, rasterKeys, watermark, List.mem_cons, List.not_mem_nil, or_false, keyOf, freeIdx, decIdx, resIdx]
  omega

/-- A band that ends on a state that the errors of its reading have counted. -/
theorem BandEnds.of_read {n uid : Nat} {b : Band} {s t u : State} (h : BandEnds n uid b t u) (hread : SameButObjects (wordKeys n) s t)
    (hempty : (station s n).backlog = []) : (station u n).fifo ++ (station u n).backlog = (station s n).fifo ++ bandRows (station s n) uid b ∧
      get u (decIdx n) 4 = (get s (decIdx n) 4 + b.lines.length) % 2 ^ 64 ∧ (∀ k, k ≠ n → station u k = station s k) ∧ u.md = s.md := by
  have hst := station_of_same hread n
  refine ⟨by rw [h.lines, hst, hempty, List.nil_append], ?_, fun k hk => (h.op.others k hk).trans (station_of_same hread k), h.op.md.trans (by rw [hread.1])⟩
  rw [h.counted, KeepsObjects.get hread.2 (wordKeys_decIdx (by decide)) (isLogIdx_decIdx n)]

end Commands

/-- Settles O38: a band's lines enter their station and its plane goes on, ends or stops; a mismatch empties the FIFO. -/
theorem decodersWork : Obligations.DecodersWork := by
  unfold Obligations.DecodersWork
  intro st s n x others
  refine ⟨fun sh hm hd hnext hw => ⟨_, planeStart_takes hm hd hnext hw, ?_⟩, fun h => ⟨s, planeStart_waits h, rfl⟩, fun unit reads words => ⟨fun h => ⟨s, bandDecode_idle h _ _ _, rfl⟩, ?_⟩,
    fun write inv v => ?_⟩
  · obtain ⟨h1, h2, h3, h4, h5, h6, h7⟩ := startPlane_starts (st := st) (s := s) sh
    exact ⟨h1, h2, h3, h4, h5, h6, h7⟩
  · intro uid sh hm hb hd hsh ends stops doubled q r
    have hexec := bandDecode_works hm hb hd hsh unit reads words
    refine ⟨fun hu _ => ⟨_, by rw [hexec, if_neg hu], fenceViolation_resets s sh.tenant⟩, fun hu hq hr => ⟨_, by rw [hexec, if_pos hu], ?_⟩,
      fun w hu hq hr => ⟨_, by rw [hexec, if_pos hu], ?_⟩, fun hu hq => ⟨_, by rw [hexec, if_pos hu], ?_⟩⟩
    · have hread := bandRead_reads hq words
      have hst := station_of_same hread st.val
      have heq : readBand s st sh reads words = decodeNext r.1 st.val sh := by
        rw [readBand, if_pos hq]
        change (match r.2 with
          | none => decodeNext r.1 st.val sh
          | some w => decodeCut r.1 st sh w) = _
        rw [hr]
      change SameButObjects (wordKeys st.val) s r.1 at hread
      change station r.1 st.val = station s st.val at hst
      have hdec := decodeNext_decodes (s := r.1) (n := st.val) (by rw [hst]; exact hd) ((sheetOf_congr (by rw [hread.1]) uid).trans hsh)
      rw [nextBand_congr hst] at hdec
      rw [heq]
      generalize decodeNext r.1 st.val sh = u at hdec ⊢
      beta_reduce
      intro band line
      refine ⟨hdec.ends.of_read hread hb, fun i hi => hdec.keeps.get (bandKeys_res ?_) (isLogIdx_resIdx' _), fun hc => ?_, fun hc hl => ?_, fun hc hl => ?_⟩
      · simp only [List.mem_cons, List.not_mem_nil, or_false] at hi
        omega
      · obtain ⟨hcode, hcount, hfree, hsheet⟩ := hdec.failed hc
        exact ⟨hcode, hcount.trans (by rw [KeepsObjects.get hread.2 (wordKeys_decIdx (by decide)) (isLogIdx_decIdx _)]), hfree, hsheet⟩
      · obtain ⟨h1, h2, h3, h4, h5⟩ := hdec.goes hc (by rw [hst]; exact hl)
        rw [hst] at h2 h3 h4 h5
        exact ⟨h1, h2, h3, h4, h5⟩
      · exact hdec.done hc (by rw [hst]; exact hl)
    · have hread := bandRead_reads hq words
      have hst := station_of_same hread st.val
      have heq : readBand s st sh reads words = decodeCut r.1 st sh w := by
        rw [readBand, if_pos hq]
        change (match r.2 with
          | none => decodeNext r.1 st.val sh
          | some w => decodeCut r.1 st sh w) = _
        rw [hr]
      change SameButObjects (wordKeys st.val) s r.1 at hread
      change station r.1 st.val = station s st.val at hst
      obtain ⟨hends, hlost⟩ := decodeCut_ends (s := r.1) (by rw [hst]; exact hd) ((sheetOf_congr (by rw [hread.1]) uid).trans hsh) w
      rw [nextBand_congr hst] at hends
      rw [heq]
      exact ⟨hends.of_read hread hb, hlost.count.trans (by rw [KeepsObjects.get hread.2 wordKeys_lost rfl]), hlost.addr, hlost.free, hlost.sheet⟩
    · obtain ⟨t, e, he, hsame, heq⟩ := dramReads_failed hq
      have hst := station_of_same hsame st.val
      have hband : readBand s st sh reads words = dramDouble t (.decoder st) e.addr := by
        rw [readBand, if_neg (by rw [hq]; exact Bool.false_ne_true), heq]
      obtain ⟨hlost, hop, hfifo⟩ := dramDouble_lost (s := t) (by rw [hst]; exact hd) ((sheetOf_congr (by rw [hsame.1]) uid).trans hsh) e.addr
      rw [hband]
      refine ⟨e, he, ⟨hlost.count.trans ?_, hlost.addr, hlost.free, hlost.sheet⟩, by rw [hfifo, hst], fun k hk => (hop.others k hk).trans (station_of_same hsame k),
        hop.md.trans (by rw [hsame.1])⟩
      rw [KeepsObjects.get hsame.2 (by decide) rfl]
  · intro agrees
    obtain ⟨hidle, hacts⟩ := pointerMismatch_acts (st := st) (s := s) write inv v
    refine ⟨hidle, fun hp hno hw => ?_, fun hp hno hw hop => ?_⟩
    · obtain ⟨t, ht, hexec, hreset⟩ := hacts hp hno
      have hdec : (station t st.val).decUid = x.decUid := by
        rw [ht, station_setStation_same s st.val fun x => pointerReads x write inv v]
        exact (pointerReads_kept _ _ _ _).1
      have hids : dataUids t st.val = dataUids s st.val := by
        obtain ⟨-, hfifo, hback, htail, -⟩ := pointerReads_kept (station s st.val) write inv v
        rw [dataUids, dataUids, ht, station_setStation_same s st.val fun x => pointerReads x write inv v, hfifo, hback, htail]
      have hother : ∀ k, k ≠ st.val → station t k = station s k := fun k hk => by rw [ht]; exact station_setStation_other s _ hk
      have htime : servedWithin t .pointers st.val (ticksS 1) = false := by rw [ht]; exact hw
      have hlog := (pointerServe_cases hreset).1 htime
      have hobj : get t (resIdx st.val) 4 = get s (resIdx st.val) 4 := by rw [ht]; rfl
      have hsheets : t.sheets = s.sheets := by rw [ht]; rfl
      have hmd : t.md = s.md := by rw [ht]; rfl
      refine ⟨_, hexec, ?_⟩
      generalize pointerFault t st.val = a at hreset hlog ⊢
      generalize pointerServe a st.val = u at hlog ⊢
      have hst := station_of_sameButLog hlog st.val
      refine ⟨(hlog.get _ (isLogIdx_resIdx' _)).trans (hreset.count.trans (by rw [hobj])), by rw [hst]; exact hreset.fifo, by rw [hst]; exact hreset.backlog,
        by rw [hst]; exact hreset.agree, fun k hk => ?_, by rw [hlog.md, hreset.op.md, hmd], fun sh hd hsh hadm => ?_, by rw [hlog.sheets]; exact hreset.again, ?_⟩
      · rw [station_of_sameButLog hlog k, hreset.op.others k hk, hother k hk]
      · rw [hst]
        exact hreset.free sh (hdec.trans hd) ((sheetOf_congr hsheets _).trans hsh) hadm
      · rw [hlog.sheets]
        exact fun sh hsh hc hin => hreset.spills sh (hsheets ▸ hsh) hc (hids ▸ hin)
    · obtain ⟨t, ht, hexec, hreset⟩ := hacts hp hno
      have hstop := (pointerServe_cases hreset).2 (by rw [ht]; exact hw) (by rw [ht]; exact hop)
      exact ⟨_, hexec, hstop⟩

end Sys2Proof.Machine

/-! # Windows of the tooth trackers that close (R348, R350, R352 to R354, R429 to R431) -/

namespace Sys2Proof.Machine

/-- What the close of a window ends with: the fired events leave, and a BD tracker asks for its next light windows. -/
def closeTail (s : State) (k : Nat) : State := if k < 6 then afterBdWindow (freeFired s) k else freeFired s

theorem closeTail_rest {k : Nat} (hk : k < 18) (s : State) : TrackRest k s (closeTail s k) := by
  have hfired := trackRest_freeFired hk s
  unfold closeTail
  exact .ite (hfired.trans (trackRest_afterBdWindow hk _ k)) hfired

theorem closeTail_modeView (s : State) (k : Nat) : modeView (closeTail s k) = modeView s := by
  unfold closeTail
  split <;> simp

theorem Stopped7.closeTail {s : State} (h : Stopped7 s) (k : Nat) : Stopped7 (closeTail s k) := by
  obtain ⟨hmd, -, hcause⟩ := modeView_eq_iff.1 (closeTail_modeView s k)
  exact ⟨by rw [hmd, h.1], hcause.trans h.2⟩

theorem trackRest_polygonTracks {k : Nat} (hk : k < 18) (s : State) (m : Nat) : TrackRest k s (polygonTracks s m) := by
  unfold polygonTracks
  exact .ite (trackRest_putMotor hk s _) (.refl k s)

/-! ## The commands -/

theorem exec_windowClose (st : Fin 6) (tt : Fin 12) (s : State) :
    ∀ q ∈ [(Instr.bdWindowClose st, st.val), (.encoderWindowClose tt, 6 + tt.val)],
      q.2 < 18 ∧ exec q.1 s = .next (settle (if (trackerLit s q.2 && hasWindow s q.2) = false then s
        else if (decide (6 ≤ q.2) && sourceStill s q.2 && (tracker s q.2).cand.isNone) = true then holdOff s q.2 else closeTracker s q.2)) := by
  simp only [List.forall_mem_cons, List.not_mem_nil, false_imp_iff, implies_true, and_true]
  refine ⟨⟨by omega, ?_⟩, by omega, ?_⟩
  · have hbd : ¬6 ≤ st.val := by omega
    simp only [exec, execBdWindowClose, hbd, decide_false, Bool.false_and]
    cases trackerLit s st.val && hasWindow s st.val <;> rfl
  · simp only [exec, execEncoderWindowClose, Nat.le_add_right, decide_true, Bool.true_and]
    cases trackerLit s (6 + tt.val) && hasWindow s (6 + tt.val)
    · rfl
    · cases sourceStill s (6 + tt.val) && (tracker s (6 + tt.val)).cand.isNone <;> rfl

/-- An encoder has no polygon that could leave its phase. -/
theorem holdOff_encoder {s : State} {k : Nat} (h : 6 ≤ k) : holdOff s k = setTracker s k fun x =>
    { x with state := if x.state = 3 then 3 else 0, acq := .idle, cand := none, coasts := 0 } := by
  rw [holdOff, phaseLost, if_neg (by omega)]

section Close

variable {s : State} {k : Nat}

theorem closeTracker_eq {t : State} {twice : Bool} (h : closeWindow s k = (t, twice)) : closeTracker s k = closeTail (onDouble (t, twice)) k := by
  rw [closeTracker, closeTail, h]

/-- A window that closes on a state whose tooth is fixed leaves that tooth and the mode. -/
theorem closeTracker_fixed (hk : k < 18) {t : State} (h : closeWindow s k = (t, false)) (hfix : ToothFixed s k t) :
    TrackRest k t (closeTracker s k) ∧ ToothFixed s k (closeTracker s k) ∧ (closeTracker s k).md = s.md := by
  have hrest := closeTail_rest hk t
  have hmd : t.md = s.md := by
    have hview := closeWindow_modeView s k
    rw [h] at hview
    exact md_of_modeView hview
  rw [closeTracker_eq h]
  exact ⟨hrest, hfix.rest hrest, (md_of_modeView (closeTail_modeView t k)).trans hmd⟩

theorem ToothFixed.beginAcquire {t : State} (h : ToothFixed s k t) : ToothFixed s k (beginAcquire t k) := h.setTracker fun _ => ⟨rfl, fun _ => rfl, rfl⟩

theorem beginAcquire_acquires (t : State) (k : Nat) : (tracker (beginAcquire t k) k).state = 1 ∧ (tracker (beginAcquire t k) k).acq = .collecting [] := by
  rw [beginAcquire, tracker_setTracker_same]
  exact ⟨rfl, rfl⟩

/-- The first loss: a second serve begins, and an acquisition where it may. -/
theorem trackerLost_first (hk : k < 18) (hw : servedWithin s (if k < 6 then .bdTracker else .encoderTracker) k (ticksS 10) = false) :
    ∃ t, trackerLost (windowFixed s k) k = (t, false) ∧ ToothFixed s k t ∧ serving t (if k < 6 then .bdTracker else .encoderTracker) k = true ∧
      ((tracker t k).state = 3 ∨ (tracker t k).state = 1 ∧ (tracker t k).acq = .collecting []) ∧
      get t (trkIdx k) 0x0B = min (get s (trkIdx k) 0x0B + 1) 65535 := by
  have hgone := lossRecorded_gone s hk
  rw [trackerLost_eq]
  dsimp only
  rw [servedWithin_congr hgone.serves hgone.time, hw, if_neg Bool.false_ne_true]
  have hlog := serveBegin_sameButLog (lossRecorded (windowFixed s k) k) (if k < 6 then .bdTracker else .encoderTracker) k 0 (if k < 6 then 8 else 0x0A) (trkIdx k) 0x0B
  have hserving := serving_serveBegin (lossRecorded (windowFixed s k) k) (if k < 6 then .bdTracker else .encoderTracker) k 0 (if k < 6 then 8 else 0x0A) (trkIdx k) 0x0B
  generalize serveBegin (lossRecorded (windowFixed s k) k) _ k 0 _ (trkIdx k) 0x0B = v at hlog hserving ⊢
  have hfix : ToothFixed s k v := hlog.toothFixed hk hgone.fixed
  have hcount : get v (trkIdx k) 0x0B = min (get s (trkIdx k) 0x0B + 1) 65535 := (hlog.get _ (isLogIdx_trkIdx hk)).trans hgone.count
  refine ⟨_, rfl, ?_⟩
  split
  · exact ⟨hfix.beginAcquire, hserving, .inr (beginAcquire_acquires v k), hcount⟩
  · exact ⟨hfix, hserving, .inl (by rw [tracker_congr hlog.trackers, hgone.state]), hcount⟩

/-- A loss soon after a reacquisition is a double fault. -/
theorem trackerLost_again (hk : k < 18) (hw : servedWithin s (if k < 6 then .bdTracker else .encoderTracker) k (ticksS 10) = true) :
    ∃ t, trackerLost (windowFixed s k) k = (t, true) ∧ t.md = s.md := by
  have hgone := lossRecorded_gone s hk
  have hview := trackerLost_modeView (windowFixed s k) k
  have hfixed : modeView (windowFixed s k) = modeView s := by
    unfold windowFixed
    split <;> simp
  have heq : (trackerLost (windowFixed s k) k).2 = true := by
    rw [trackerLost_eq]
    dsimp only
    rw [servedWithin_congr hgone.serves hgone.time, hw, if_pos rfl]
  exact ⟨_, Prod.ext rfl heq, md_of_modeView (hview.trans hfixed)⟩

end Close

/-- Settles O41: the tooth of a window is fixed; an acquisition goes on or ends, and K coasts begin it again or lose the tracker. -/
theorem windowsClose : Obligations.WindowsClose := by
  unfold Obligations.WindowsClose
  intro st tt s q hq c k x coast coasts lost time n m open_ held fixed
  obtain ⟨hk, hexec⟩ := exec_windowClose st tt s q hq
  change k < 18 at hk
  change exec c s = .next (settle (if open_ = false then s else if held = true then holdOff s k else closeTracker s k)) at hexec
  refine ⟨fun h => ⟨s, by rw [hexec, if_pos h], rfl⟩, fun h hh => ⟨holdOff s k, by rw [hexec, if_neg (by simp [h]), if_pos hh], ?_⟩, fun h hh => ?_⟩
  · have h6 : 6 ≤ k := by
      have := (Bool.and_eq_true_iff.1 (Bool.and_eq_true_iff.1 hh).1).1
      exact of_decide_eq_true this
    rw [holdOff_encoder h6]
    exact ⟨tracker_setTracker_same s k _, rfl⟩
  replace hexec : exec c s = .next (settle (closeTracker s k)) := by rw [hexec, if_neg (by simp [h]), if_neg (by simp [hh])]
  have hdone {t : State} (hw : closeWindow s k = (t, false)) (hfix : ToothFixed s k t) : TrackRest k t (closeTracker s k) ∧ fixed (closeTracker s k) := by
    obtain ⟨hrest, hu, hmd⟩ := closeTracker_fixed hk hw hfix
    exact ⟨hrest, hu.count, hu.position, hu.coast, hu.time, hu.cand, hu.tooth, hu.others, hu.path, hmd⟩
  have hfix := windowFixed_fixed s hk
  refine ⟨fun f hacq => ?_, fun hacq => ?_⟩
  · have hclose := closeWindow_following hacq
    refine ⟨fun hl => ?_, fun hl hf => ?_, fun hl hf => ?_⟩
    · rw [if_pos (c := windowLost s k = true) hl] at hclose
      obtain ⟨hrest, hu⟩ := hdone hclose hfix.beginAcquire
      obtain ⟨hstate, hcollect⟩ := beginAcquire_acquires (windowFixed s k) k
      exact ⟨_, hexec, hu, by rw [hrest.tracker, hstate], by rw [hrest.tracker, hcollect]⟩
    · rw [if_neg (by rw [show windowLost s k = false from hl]; exact Bool.false_ne_true), if_pos hf] at hclose
      have hset := tracker_setTracker_same (windowFixed s k) k fun z => { z with acq := .following (f + 1) }
      rw [windowFixed_tracker s hk] at hset
      obtain ⟨hrest, hu⟩ := hdone hclose (hfix.setTracker fun _ => ⟨rfl, id, rfl⟩)
      have htr := (hrest.tracker k).trans hset
      exact ⟨_, hexec, hu, by rw [htr]; rfl, by rw [htr], by rw [htr]; rfl⟩
    · rw [if_neg (by rw [show windowLost s k = false from hl]; exact Bool.false_ne_true), if_neg (by omega)] at hclose
      have hid := identify_identified hk hfix fun h6 hn => toothCycle_windowFixed s hk h6 hn
      have hend : Identified s k (if k < 6 then polygonTracks (identify (windowFixed s k) k) k else identify (windowFixed s k) k) :=
        hid.rest (.ite (trackRest_polygonTracks hk _ _) (.refl k _))
      obtain ⟨hrest, hu⟩ := hdone hclose hend.fixed
      have hlast := hend.rest hrest
      exact ⟨_, hexec, hu, hlast.state, hlast.acq, hlast.served⟩
  · have hclose := closeWindow_idle hacq
    refine ⟨fun hl => ?_, fun hl hw => ?_, fun hl hw hop => ?_⟩
    · rw [if_neg (by rw [show windowLost s k = false from hl]; exact Bool.false_ne_true)] at hclose
      obtain ⟨hrest, hu⟩ := hdone hclose hfix
      have htr := (hrest.tracker k).trans (windowFixed_tracker s hk)
      exact ⟨_, hexec, hu, by rw [htr]; rfl, by rw [htr]; rfl⟩
    · rw [if_pos (c := windowLost s k = true) hl] at hclose
      obtain ⟨t, ht, hfixed, hserve, hstate, hcount⟩ := trackerLost_first hk hw
      obtain ⟨hrest, hu⟩ := hdone (hclose.trans ht) hfixed
      refine ⟨_, hexec, hu, (serving_congr hrest.serves _ _).trans hserve, ?_, (hrest.keys _ (by decide)).trans hcount⟩
      rw [hrest.tracker]
      exact hstate
    · rw [if_pos (c := windowLost s k = true) hl] at hclose
      obtain ⟨t, ht, hmd⟩ := trackerLost_again hk hw
      refine ⟨_, hexec, ?_⟩
      rw [closeTracker_eq (hclose.trans ht)]
      exact (safestop_operating (by rw [hmd]; exact hop)).closeTail k

end Sys2Proof.Machine

/-! # Scans of a station (R318, R335, R338 to R341, R351, R358, R378, R380) -/

namespace Sys2Proof.Machine

/-! ## What has been sent stays sent -/

/-- Everything that had been sent has been sent. -/
def KeepsSent (s t : State) : Prop := ∀ o ∈ s.out, o ∈ t.out

theorem KeepsSent.refl (s : State) : KeepsSent s s := fun _ h => h

theorem KeepsSent.trans {s t u : State} (h : KeepsSent s t) (k : KeepsSent t u) : KeepsSent s u := fun o ho => k o (h o ho)

theorem KeepsSent.ite {s a b : State} {c : Prop} [Decidable c] (ha : KeepsSent s a) (hb : KeepsSent s b) : KeepsSent s (if c then a else b) := by
  split <;> assumption

theorem keepsSent_of_eq {s t : State} (h : t.out = s.out) : KeepsSent s t := fun o ho => by rw [h]; exact ho

theorem keepsSent_vector (s : State) (fn vec : Nat) : KeepsSent s (vector s fn vec) := by
  obtain ⟨l, hl⟩ := vector_only s fn vec
  rw [hl]
  exact fun o ho => List.mem_append_right l ho

theorem keepsSent_noticeAlone (s : State) (i j cls : Nat) : KeepsSent s (noticeAlone s i j cls) := by
  have hvector {u : State} (hu : KeepsSent s u) (fn vec : Nat) : KeepsSent s (vector u fn vec) := hu.trans (keepsSent_vector u fn vec)
  have hnotice : KeepsSent s (notice s i j cls) := by
    unfold notice
    dsimp only
    split <;> split
    · refine hvector ?_ _ _
      exact keepsSent_of_eq rfl
    · refine hvector ?_ _ _
      exact keepsSent_of_eq rfl
    · exact keepsSent_of_eq rfl
    · exact keepsSent_of_eq rfl
  exact hvector hnotice _ _

theorem KeepsSent.put {s t : State} (h : KeepsSent s t) (i j v : Nat) : KeepsSent s (put t i j v) := h

theorem keepsSent_watch (high : Bool) (s : State) (i j old v : Nat) : KeepsSent s (watch high s i j old v) := by
  have hput (a e : Nat) : KeepsSent s (put (put s i j a) i (j + 3) e) := ((KeepsSent.refl s).put _ _ _).put _ _ _
  unfold watch
  dsimp only
  split
  · have hlatched := hput (ofBool (beyond high (get s i (j + 4)) v)) (if high then max (get s i (j + 3)) v else min (get s i (j + 3)) v)
    generalize put (put s i j _) i (j + 3) _ = t at hlatched ⊢
    have hcounted : KeepsSent s (sat (put t i (j + 1) 1) i (j + 2)) := hlatched.put i (j + 1) 1
    exact .ite hcounted (hcounted.trans (keepsSent_noticeAlone _ _ _ _))
  · exact hput _ _

theorem keepsSent_updateFreeboard (s : State) (n : Nat) : KeepsSent s (updateFreeboard s n) :=
  ((KeepsSent.refl s).put (freeIdx n) 6 (min 2048 (freeboard s n))).trans (keepsSent_watch _ _ _ _ _ _)

theorem keepsSent_refill (s : State) (n : Nat) : KeepsSent s (refill s n) := by
  have hfill : KeepsSent s (setStation s n fun x => fillFifo (fifoWords s n) x.backlog.length x) := keepsSent_of_eq rfl
  unfold refill
  dsimp only
  have hboard := hfill.trans (keepsSent_updateFreeboard _ n)
  generalize updateFreeboard _ n = u at hboard ⊢
  have hset (v : Nat) : KeepsSent s (setDecoder u n v) := hboard.trans (keepsSent_of_eq rfl)
  exact .ite (.ite (hset 1) hboard) (hset 2)

theorem keepsSent_spillNow (s : State) (n uid : Nat) : KeepsSent s (spillNow s n uid) := by
  have hplane (t : State) : KeepsSent t (planeDone t n uid 4) := by
    unfold planeDone
    dsimp only
    split <;> exact keepsSent_of_eq rfl
  have hdiscard (t : State) : KeepsSent t (discardData t n uid) := keepsSent_of_eq rfl
  have hcount (f : Sheet → Sheet) : KeepsSent s (sat (modSheet s uid f) (resIdx n) 8) := keepsSent_of_eq rfl
  unfold spillNow
  dsimp only
  exact (((hcount _).trans (hdiscard _)).trans (hplane _)).trans (keepsSent_refill _ n)

theorem keepsSent_sendControl (s : State) (n : Nat) (l : List (List Byte)) : KeepsSent s (sendControl s n l) := by
  have hall : KeepsSent s (emitAll s (l.map fun b => .block n b)) := fun o ho => List.mem_append_right _ ho
  unfold sendControl queueBlocks
  exact .ite (hall.trans (keepsSent_of_eq rfl)) hall

/-! ## Words of the FIFO that a scan reads (R317, R318) -/

/-- The counters of words that are corrected, read again or lost, and of missing lines. -/
def scanKeys (n : Nat) : List Nat := [keyOf (resIdx n) 1, keyOf (resIdx n) 2, keyOf (resIdx n) 3]

theorem fifoWord_same (s : State) (n : Nat) (w : FifoWord) : SameButObjects (scanKeys n) s (fifoWord s n w).1 := by
  have hone (u : State) : SameButObjects (scanKeys n) u (satBy 32 u (resIdx n) 1 1) := sameButObjects_put u _ (by simp [scanKeys])
  unfold fifoWord
  split
  · exact sameButObjects_refl _ s
  · exact hone s
  · split
    · have hlost (u : State) : SameButObjects (scanKeys n) u (sat u (resIdx n) 3) := sameButObjects_put u _ (by simp [scanKeys])
      have hdouble (u : State) : SameButObjects (scanKeys n) u (doubleFaultAs clsWarn u .fifoWord n 0 7 (resIdx n) 3) :=
        (doubleFaultAs_sameButLog _ _ _ _ _ _ _ _).sameButObjects
      exact sameButObjects_trans (sameButObjects_trans (serveBegin_sameButLog s .fifoWord n 0 7 (resIdx n) 3).sameButObjects (hlost _)) (hdouble _)
    · have hserve : SameButObjects (scanKeys n) s (servePass (serveBegin (sat s (resIdx n) 2) .fifoWord n 0 7 (resIdx n) 2) .fifoWord n 7 (resIdx n) 2) :=
        sameButObjects_trans (sameButObjects_put s _ (by simp [scanKeys]))
          ((serveBegin_sameButLog _ _ _ _ _ _ _).trans (servePass_sameButLog _ _ _ _ _ _)).sameButObjects
      dsimp only
      split
      · exact sameButObjects_trans hserve (hone _)
      · exact hserve

theorem readWords_same (n : Nat) (l : List FifoWord) (s : State) : SameButObjects (scanKeys n) s (readWords n l s).1 := by
  induction l generalizing s with
  | nil => exact sameButObjects_refl _ s
  | cons w l ih => exact sameButObjects_trans (fifoWord_same s n w) (ih _)

/-! ## A scan begins (R351, R357, R378) -/

/-- The counters that the way to a scan may have advanced. -/
def scanCounters (n : Nat) : List Nat := keyOf (resIdx n) 5 :: scanKeys n

theorem scanCounters_key {n k : Nat} (h : ∀ j, j < 6 → k ≠ keyOf (resIdx n) j) : k ∉ scanCounters n := by
  simp only [scanCounters, scanKeys, List.mem_cons, List.not_mem_nil, or_false, not_or]
  exact ⟨h 5 (by decide), h 1 (by decide), h 2 (by decide), h 3 (by decide)⟩

section Begin

variable {s t : State} {n : Nat}

/-- What a scan's blocks are made from is as before its words were read. -/
theorem lineStart_congr (h : SameButObjects (scanCounters n) s t) (hn : n < 6) (b : Nat) :
    lineStart t n b (get t (trkIdx n) 5) (lineStartAt t n b (get t (trkIdx n) 5) (tracker t n).tLast) (station t n).scanSeq =
      lineStart s n b (get s (trkIdx n) 5) (lineStartAt s n b (get s (trkIdx n) 5) (tracker s n).tLast) (station s n).scanSeq := by
  have hget {i j : Nat} (hlog : isLogIdx i = false) (hk : ∀ a, a < 6 → keyOf i j ≠ keyOf (resIdx n) a) : get t i j = get s i j :=
    KeepsObjects.get h.2 (scanCounters_key hk) hlog
  have hgeo : isLogIdx (geoIdx n) = false := by simp [isLogIdx, geoIdx]; omega
  have hreg : isLogIdx (0x3810 + n) = false := by simp [isLogIdx]; omega
  have hnine : get t (geoIdx n) 9 = get s (geoIdx n) 9 := hget hgeo fun a ha => by unfold keyOf geoIdx resIdx; omega
  have hfacets : facets t n = facets s n := hget hgeo fun a ha => by unfold keyOf geoIdx resIdx; omega
  have hpos : get t (trkIdx n) 5 = get s (trkIdx n) 5 := hget (isLogIdx_trkIdx (by omega)) fun a ha => by unfold keyOf trkIdx resIdx; omega
  have hprov : provisional t n = provisional s n := by
    unfold provisional flag
    rw [hget (isLogIdx_trkIdx (by omega)) fun a ha => by unfold keyOf trkIdx resIdx; omega]
  have hentry (f : Nat) : regEntry t n b f = regEntry s n b f := by
    unfold regEntry getS
    rw [hget hreg fun a ha => by unfold keyOf resIdx; omega]
  have htick : get t 0x2200 1 = get s 0x2200 1 := hget rfl fun a ha => by unfold keyOf resIdx; omega
  simp only [lineStart, lineStartAt, linkCycle, linkTap, linkTaps, regInForce, hnine, hfacets, hpos, hprov, hentry, htick,
    tracker_congr (show t.trackers = s.trackers by rw [h.1]), station_of_same h]

theorem scanBeams_congr (h : SameButObjects (scanCounters n) s t) (hn : n < 6) : beams t n = beams s n := by
  have hgeo : isLogIdx (geoIdx n) = false := by simp [isLogIdx, geoIdx]; omega
  exact KeepsObjects.get h.2 (scanCounters_key fun a ha => by unfold keyOf geoIdx resIdx; omega) hgeo

/-- A scan has begun, with its blocks and its count. -/
structure ScanBegun (n uid : Nat) (blank flag : Bool) (lost : List (Nat × Nat)) (s u : State) : Prop where
  op : LinkOp n s u
  scan : ∃ c, (station u n).scan = some c ∧ c.uid = uid ∧ c.index = (station s n).nextScan ∧ c.facet = get s (trkIdx n) 5 ∧ c.blank = blank ∧
    c.zeroWord = lost ∧ c.flagged = flag
  count : get u (linkCnt n) 6 = (get s (linkCnt n) 6 + 1) % 2 ^ 32
  blocks : ∀ b, b < beams s n → Output.block n (lineStart s n b (get s (trkIdx n) 5)
    (lineStartAt s n b (get s (trkIdx n) 5) (tracker s n).tLast) (station s n).scanSeq) ∈ u.out

/-- The state with the scan on the station. -/
def scanPlaced (s : State) (n uid : Nat) (g : ScanForm) : State :=
  setStation (bump (sendControl s n ((List.range (beams s n)).map fun b => lineStart s n b (get s (trkIdx n) 5)
    (lineStartAt s n b (get s (trkIdx n) 5) (tracker s n).tLast) (station s n).scanSeq)) (linkCnt n) 6) n fun y =>
      { y with scan := some { uid := uid, index := y.nextScan, facet := get s (trkIdx n) 5, coast := lastCoast s n, blank := g.blank, zeroWord := g.lost,
                              flagged := g.flag || lastCoast s n && g.coasts } }

theorem beginScan_eq (s : State) (n uid : Nat) (g : ScanForm) : beginScan s n uid g =
    updateFreeboard (if g.flag || lastCoast s n && g.coasts then
      flagLines (if lastCoast s n && g.coasts then satBy 32 (scanPlaced s n uid g) (trkIdx n) 0x0C (beams s n) else scanPlaced s n uid g) n uid
      else if lastCoast s n && g.coasts then satBy 32 (scanPlaced s n uid g) (trkIdx n) 0x0C (beams s n) else scanPlaced s n uid g) n := rfl

/-- The objects that follow a scan's start: its COAST lines, its flagged lines, the freeboard. -/
def followKeys (n : Nat) : List Nat := keyOf (trkIdx n) 0x0C :: keyOf (resIdx n) 7 :: rasterKeys n

/-- What follows the start of a scan counts and marks: the station and what has been sent stay. -/
structure ScanFollowed (n : Nat) (s t : State) : Prop where
  op : LinkOp n s t
  station : station t n = station s n
  keeps : KeepsObjects (followKeys n) s t
  sent : KeepsSent s t
  sheets : ∀ sh ∈ s.sheets, ∃ y ∈ t.sheets, y.uid = sh.uid

theorem ScanFollowed.refl (n : Nat) (s : State) : ScanFollowed n s s := ⟨.refl n s, rfl, fun _ _ => rfl, .refl s, fun sh h => ⟨sh, h, rfl⟩⟩

theorem ScanFollowed.trans (h : ScanFollowed n s t) {u : State} (k : ScanFollowed n t u) : ScanFollowed n s u :=
  ⟨h.op.trans k.op, k.station.trans h.station, keepsObjects_trans h.keeps k.keeps, h.sent.trans k.sent, fun sh hsh => by
    obtain ⟨y, hy, huid⟩ := h.sheets sh hsh
    obtain ⟨z, hz, huid'⟩ := k.sheets y hy
    exact ⟨z, hz, huid'.trans huid⟩⟩

theorem ScanFollowed.ite {a b : State} {c : Prop} [Decidable c] (ha : ScanFollowed n s a) (hb : ScanFollowed n s b) :
    ScanFollowed n s (if c then a else b) := by split <;> assumption

theorem scanFollowed_put (s : State) (n : Nat) {i j : Nat} (v : Nat) (h : keyOf i j ∈ followKeys n) : ScanFollowed n s (put s i j v) :=
  ⟨linkOp_put n s i j v, rfl, keepsObjects_put s _ _ _ h, .refl s, fun sh h => ⟨sh, h, rfl⟩⟩

theorem scanFollowed_flagLines (s : State) (n uid : Nat) : ScanFollowed n s (flagLines s n uid) := by
  have h := softFlagged_flagLines s n uid
  exact ⟨h.op, rfl, fun k hk => h.keeps k fun hin => hk (by simp [followKeys, List.mem_singleton.1 hin]), .refl s, fun sh hsh => by
    obtain ⟨y, hy, huid, -⟩ := h.sheets sh hsh
    exact ⟨y, hy, huid⟩⟩

theorem scanFollowed_updateFreeboard (s : State) (n : Nat) : ScanFollowed n s (updateFreeboard s n) := by
  have h := updateFreeboard_watched s n
  have hkeeps : KeepsObjects (followKeys n) s (updateFreeboard s n) := fun k hk => h.keeps k fun hin => hk (by simp [followKeys, hin])
  exact ⟨(h.rasterOp n).op, h.station n, hkeeps, keepsSent_updateFreeboard s n, fun sh hsh => ⟨sh, by rw [h.rest]; exact hsh, rfl⟩⟩

theorem beginScan_follows (s : State) (n uid : Nat) (g : ScanForm) : ScanFollowed n (scanPlaced s n uid g) (beginScan s n uid g) := by
  rw [beginScan_eq]
  generalize scanPlaced s n uid g = t
  have hcoast : ScanFollowed n t (if lastCoast s n && g.coasts then satBy 32 t (trkIdx n) 0x0C (beams s n) else t) :=
    .ite (scanFollowed_put t n _ (by simp [followKeys])) (.refl n t)
  exact (ScanFollowed.ite (hcoast.trans (scanFollowed_flagLines _ n uid)) hcoast).trans (scanFollowed_updateFreeboard _ n)

theorem sendControl_scan (s : State) (n : Nat) (l : List (List Byte)) : ∃ q, station (sendControl s n l) n = { station s n with queue := q } := by
  unfold sendControl queueBlocks
  split
  · exact ⟨_, station_setStation_same (emitAll s (l.map fun b => .block n b)) n fun x => { x with queue := x.queue ++ l.map fun b => { control := true, bytes := b } }⟩
  · exact ⟨_, rfl⟩

theorem scanPlaced_placed (s : State) (hn : n < 6) (uid : Nat) (g : ScanForm) : let flag := g.flag || lastCoast s n && g.coasts
    ScanBegun n uid g.blank flag g.lost s (scanPlaced s n uid g) ∧ (∀ j, j < 7 → get (scanPlaced s n uid g) (resIdx n) j = get s (resIdx n) j) ∧
      (scanPlaced s n uid g).sheets = s.sheets := by
  have hsent := sendControl_sent s n ((List.range (beams s n)).map fun b => lineStart s n b (get s (trkIdx n) 5)
    (lineStartAt s n b (get s (trkIdx n) 5) (tracker s n).tLast) (station s n).scanSeq)
  obtain ⟨q, hq⟩ := sendControl_scan s n ((List.range (beams s n)).map fun b => lineStart s n b (get s (trkIdx n) 5)
    (lineStartAt s n b (get s (trkIdx n) 5) (tracker s n).tLast) (station s n).scanSeq)
  have hsheets := sendControl_sheets s n ((List.range (beams s n)).map fun b => lineStart s n b (get s (trkIdx n) 5)
    (lineStartAt s n b (get s (trkIdx n) 5) (tracker s n).tLast) (station s n).scanSeq)
  intro flag
  unfold scanPlaced
  generalize sendControl s n ((List.range (beams s n)).map fun b => lineStart s n b (get s (trkIdx n) 5)
    (lineStartAt s n b (get s (trkIdx n) 5) (tracker s n).tLast) (station s n).scanSeq) = t at hsent hq hsheets ⊢
  have hget (i j : Nat) (hi : isLogIdx i = false) : get t i j = get s i j := get_congr hsent.dict j hi
  have hbump : LinkOp n t (bump t (linkCnt n) 6) := ⟨rfl, fun _ _ => rfl⟩
  have hst : station (bump t (linkCnt n) 6) n = { station s n with queue := q } := hq
  refine ⟨⟨hsent.op.trans (hbump.trans (linkOp_setStation _ n _)), ?_, ?_, fun b hb => hsent.out _ (List.mem_map_of_mem (List.mem_range.2 hb))⟩, fun j hj => ?_, hsheets⟩
  · rw [station_setStation_same, hst]
    exact ⟨_, rfl, rfl, rfl, rfl, rfl, rfl, rfl⟩
  · change get (bump t (linkCnt n) 6) (linkCnt n) 6 = _
    rw [bump, wrapBy, get_put_same _ _ _ (isLogIdx_linkCnt hn), hget _ _ (isLogIdx_linkCnt hn)]
  · change get (bump t (linkCnt n) 6) (resIdx n) j = _
    rw [bump, wrapBy, get_put_other, hget _ _ (isLogIdx_resIdx hn)]
    unfold keyOf resIdx linkCnt
    omega

theorem beginScan_begins (h : SameButObjects (scanCounters n) s t) (hn : n < 6) (uid : Nat) (g : ScanForm) :
    ScanBegun n uid g.blank (g.flag || lastCoast s n && g.coasts) g.lost s (beginScan t n uid g) ∧
      (∀ j, j < 7 → get (beginScan t n uid g) (resIdx n) j = get t (resIdx n) j) ∧ ∀ sh ∈ s.sheets, ∃ y ∈ (beginScan t n uid g).sheets, y.uid = sh.uid := by
  obtain ⟨hbegun, hres, hsheets⟩ := scanPlaced_placed t hn uid g
  have hfollow := beginScan_follows t n uid g
  generalize scanPlaced t n uid g = p at hbegun hres hsheets hfollow
  generalize beginScan t n uid g = u at hfollow ⊢
  have hcoast : lastCoast t n = lastCoast s n := by
    unfold lastCoast
    rw [tracker_congr (show t.trackers = s.trackers by rw [h.1])]
  have hother {j : Nat} (hj : j < 7) : get u (resIdx n) j = get p (resIdx n) j := by
    refine hfollow.keeps.get ?_ (isLogIdx_resIdx hn)
    simp only [followKeys, rasterKeys, watermark, List.mem_cons, List.not_mem_nil, or_false, keyOf, freeIdx, decIdx, resIdx, trkIdx]
    omega
  refine ⟨{
    op := ?_
    scan := ?_
    count := ?_
    blocks := fun b hb => ?_ }, fun j hj => (hother hj).trans (hres j hj), fun sh hsh => hfollow.sheets sh (by rw [hsheets, h.1]; exact hsh)⟩
  · exact (linkOp_of_same h n).trans (hbegun.op.trans hfollow.op)
  · obtain ⟨c, hc, huid, hidx, hfacet, hblank, hlost, hflag⟩ := hbegun.scan
    refine ⟨c, by rw [hfollow.station, hc], huid, by rw [hidx, station_of_same h], ?_, hblank, hlost, by rw [hflag, hcoast]⟩
    rw [hfacet]
    exact KeepsObjects.get h.2 (scanCounters_key fun a ha => by unfold keyOf trkIdx resIdx; omega) (isLogIdx_trkIdx (by omega))
  · have hcnt : get u (linkCnt n) 6 = get p (linkCnt n) 6 := by
      refine hfollow.keeps.get ?_ (isLogIdx_linkCnt hn)
      simp only [followKeys, rasterKeys, watermark, List.mem_cons, List.not_mem_nil, or_false, keyOf, freeIdx, decIdx, resIdx, trkIdx, linkCnt]
      omega
    rw [hcnt, hbegun.count, KeepsObjects.get h.2 (scanCounters_key fun a ha => by unfold keyOf linkCnt resIdx; omega) (isLogIdx_linkCnt hn)]
  · have hout := hbegun.blocks b (by rw [scanBeams_congr h hn]; exact hb)
    rw [lineStart_congr h hn] at hout
    exact hfollow.sent _ hout

/-- A scan whose lines are missing: it goes out blank, and its station spills the sheet (R339). -/
theorem blankedScan_spills (hn : n < 6) {uid : Nat} {sh : Sheet} (hsh : sheetOf s uid = some sh) :
    let u := spillHere (beginScan (sat s (resIdx n) 5) n uid { blank := true, flag := true }) n uid
    ScanBegun n uid true true [] s u ∧ get u (resIdx n) 5 = min (get s (resIdx n) 5 + 1) 65535 ∧
      ∃ y ∈ u.sheets, y.uid = uid ∧ y.spoiled = true ∧ y.spilled.testBit n = true := by
  have hcount : SameButObjects (scanCounters n) s (sat s (resIdx n) 5) := sameButObjects_put s _ (by simp [scanCounters])
  obtain ⟨hbegun, hres, hsheets⟩ := beginScan_begins hcount hn uid { blank := true, flag := true }
  have hfive : get (sat s (resIdx n) 5) (resIdx n) 5 = min (get s (resIdx n) 5 + 1) 65535 := get_put_same s _ _ (isLogIdx_resIdx hn)
  obtain ⟨y, hy, huid⟩ := hsheets sh (mem_of_sheetOf hsh)
  have hshuid := uid_of_sheetOf hsh
  intro u
  change ScanBegun n uid true true [] s (spillNow (spillSheet _ uid (some n)) n uid) ∧ get (spillNow (spillSheet _ uid (some n)) n uid) _ _ = _ ∧
    ∃ y ∈ (spillNow (spillSheet _ uid (some n)) n uid).sheets, _
  generalize beginScan (sat s (resIdx n) 5) n uid { blank := true, flag := true } = a at hbegun hres hy ⊢
  have hspill : LinkOp n a (spillSheet a uid (some n)) := ⟨rfl, fun _ _ => rfl⟩
  have hspillSheets : (spillSheet a uid (some n)).sheets = a.sheets.map fun sh => if sh.uid = uid then (if sh.committed then sh.spill (some n) else sh) else sh := rfl
  have hget (i j : Nat) : get (spillSheet a uid (some n)) i j = get a i j := rfl
  have hst : station (spillSheet a uid (some n)) n = station a n := rfl
  have hout : KeepsSent a (spillSheet a uid (some n)) := keepsSent_of_eq rfl
  generalize spillSheet a uid (some n) = b at hspill hspillSheets hget hst hout ⊢
  have hnow := spillNow_spilled b n uid
  have hsent := hout.trans (keepsSent_spillNow b n uid)
  generalize spillNow b n uid = c at hnow hsent ⊢
  have hkeep {i j : Nat} (hlog : isLogIdx i = false) (hne : ∀ k ∈ keyOf (resIdx n) 8 :: rasterKeys n, keyOf i j ≠ k) : get c i j = get a i j :=
    (hnow.op.keeps.get (fun hin => hne _ hin rfl) hlog).trans (hget i j)
  refine ⟨⟨hbegun.op.trans (hspill.trans hnow.op.op), ?_, ?_, fun b hb => hsent _ (hbegun.blocks b hb)⟩, ?_, ?_⟩
  · obtain ⟨d, hd, hrest⟩ := hbegun.scan
    exact ⟨d, by rw [hnow.station, hst, hd], hrest⟩
  · rw [hkeep (isLogIdx_linkCnt hn), hbegun.count]
    simp only [rasterKeys, watermark, List.forall_mem_cons, List.not_mem_nil, false_imp_iff, implies_true, and_true, keyOf, freeIdx, decIdx, resIdx, linkCnt]
    omega
  · rw [hkeep (isLogIdx_resIdx hn), hres 5 (by decide), hfive]
    simp only [rasterKeys, watermark, List.forall_mem_cons, List.not_mem_nil, false_imp_iff, implies_true, and_true, keyOf, freeIdx, decIdx, resIdx]
    omega
  · rw [hnow.sheets, hspillSheets, List.map_map]
    refine ⟨_, List.mem_map_of_mem hy, ?_⟩
    have hy' : y.uid = uid := huid.trans hshuid
    have hkept : (if y.committed then y.spill (some n) else y).uid = uid := by split <;> exact hy'
    simp only [Function.comp_apply, if_pos hy', if_pos hkept]
    exact ⟨hkept, rfl, testBit_setBit _ _⟩

end Begin

/-! ## SCAN_START -/

section Start

variable {st : Fin 6} {s : State} {uid : Nat} {sh : Sheet}

theorem exec_scanStart (st : Fin 6) (d held : Nat) (words : List FifoWord) (s : State) :
    exec (.scanStart st d held words) s = execScanStart st d held words s := rfl

theorem atScanBoundary_quiet {n : Nat} (hsh : sheetOf s uid = some sh) (hh : sh.held.testBit n = false) (hdue : sh.spillDue.testBit n = false) :
    atScanBoundary s n uid = s := by
  unfold atScanBoundary
  rw [hsh]
  dsimp only
  rw [hh, hdue, if_neg Bool.false_ne_true, if_neg Bool.false_ne_true]

theorem scanStart_idle (h : (station s st.val).regsDue = true ∨ (station s st.val).imaging = none ∨ (station s st.val).scan ≠ none) (d held : Nat)
    (words : List FifoWord) : exec (.scanStart st d held words) s = .next (settle s) := by
  rw [exec_scanStart, execScanStart]
  dsimp only
  split
  · rfl
  next hr =>
    split
    next hi hs =>
      rcases h with h | h | h
      · exact absurd h hr
      · exact absurd (h.symm.trans hi) (by simp)
      · exact absurd hs h
    · rfl

theorem scanStart_starts (hr : (station s st.val).regsDue = false) (hi : (station s st.val).imaging = some uid) (hs : (station s st.val).scan = none)
    (hsh : sheetOf s uid = some sh) (hh : sh.held.testBit st.val = false) (hdue : sh.spillDue.testBit st.val = false) (d held : Nat) (words : List FifoWord) :
    exec (.scanStart st d held words) s = .next (settle (if follows 32 (get s (trkIdx st.val) 7) (station s st.val).fromTooth then s
      else if !sh.hasPlane st.val || sh.spilled.testBit st.val then beginScan s st.val uid { blank := true, coasts := sh.hasPlane st.val }
      else startScan s st.val sh d held words)) := by
  rw [exec_scanStart, execScanStart]
  dsimp only
  rw [hr, hi, hs, if_neg Bool.false_ne_true]
  dsimp only
  rw [atScanBoundary_quiet hsh hh hdue, hsh]
  dsimp only
  split
  · rfl
  · split <;> rfl

end Start

end Sys2Proof.Machine

/-! # Scans that underrun and end (R335, R340, R378, R380) -/

namespace Sys2Proof.Machine

/-! ## SCAN_UNDERRUN -/

section Underrun

variable {st : Fin 6} {s : State}

theorem exec_scanUnderrun (st : Fin 6) (pixel : Nat) (s : State) : exec (.scanUnderrun st pixel) s = execScanUnderrun st pixel s := rfl

theorem scanUnderrun_idle (h : (station s st.val).scan = none ∨ ∃ c, (station s st.val).scan = some c ∧ c.blank = true) (pixel : Nat) :
    exec (.scanUnderrun st pixel) s = .next (settle s) := by
  rw [exec_scanUnderrun, execScanUnderrun]
  rcases h with h | ⟨c, h, hb⟩
  · rw [h]
    rfl
  · rw [h]
    dsimp only
    rw [if_pos hb]
    rfl

/-- The state in which the rest of the scan is zero. -/
def underrunState (s : State) (n : Nat) (c : Scan) (pixel : Nat) : State :=
  let t := setStation s n fun x => { x with scan := some { c with zeroFrom := some pixel, flagged := true } }
  spillSheet (sat (if c.flagged then t else flagLines t n c.uid) (resIdx n) 6) c.uid (some n)

theorem scanUnderrun_zeroes {c : Scan} (h : (station s st.val).scan = some c) (hb : c.blank = false) (pixel : Nat) :
    exec (.scanUnderrun st pixel) s = .next (settle (underrunState s st.val c pixel)) := by
  rw [exec_scanUnderrun, execScanUnderrun]
  dsimp only
  rw [h]
  dsimp only
  rw [if_neg (by simp [hb])]
  rfl

theorem mark_flags (sh : Sheet) : (sh.mark fun x => { x with lineFlagged := true }).lineFlagged = true := by
  unfold Sheet.mark
  dsimp only
  split <;> rfl

/-- The sheet of a scan that underran: flagged unless its lines were flagged already, and spilled. -/
def underrunSheet (n : Nat) (c : Scan) (sh : Sheet) : Sheet :=
  let x := if c.flagged then sh else sh.mark fun x => { x with lineFlagged := true }
  if x.committed then x.spill (some n) else x

theorem underrunSheet_flagged (n : Nat) (c : Scan) (sh : Sheet) : (underrunSheet n c sh).uid = sh.uid ∧
    (c.flagged = false → (underrunSheet n c sh).lineFlagged = true) ∧ ((underrunSheet n c sh).committed = true → (underrunSheet n c sh).spoiled = true) := by
  have hx : (if c.flagged then sh else sh.mark fun x => { x with lineFlagged := true }).uid = sh.uid ∧
      (c.flagged = false → (if c.flagged then sh else sh.mark fun x => { x with lineFlagged := true }).lineFlagged = true) := by
    split
    next h => exact ⟨rfl, fun hno => absurd h (by simp [hno])⟩
    · exact ⟨(mark_lineFlagged sh).1, fun _ => mark_flags sh⟩
  unfold underrunSheet
  dsimp only
  generalize (if c.flagged then sh else sh.mark fun x => { x with lineFlagged := true }) = x at hx ⊢
  split
  · exact ⟨hx.1, hx.2, fun _ => rfl⟩
  next h => exact ⟨hx.1, hx.2, fun hc => absurd hc h⟩

theorem underrunState_zeroed (s : State) {n : Nat} (hn : n < 6) (c : Scan) (pixel : Nat) : let u := underrunState s n c pixel
    station u n = { station s n with scan := some { c with zeroFrom := some pixel, flagged := true } } ∧
      get u (resIdx n) 6 = min (get s (resIdx n) 6 + 1) 65535 ∧
      get u (resIdx n) 7 = (if c.flagged = true then get s (resIdx n) 7 else min (get s (resIdx n) 7 + beams s n) (2 ^ 32 - 1)) ∧ u.md = s.md ∧
      u.sheets = s.sheets.map fun sh => if sh.uid = c.uid then underrunSheet n c sh else sh := by
  have hlog := isLogIdx_resIdx hn
  have hne : keyOf (resIdx n) 7 ≠ keyOf (resIdx n) 6 := by unfold keyOf; omega
  have hst := station_setStation_same s n fun x => { x with scan := some { c with zeroFrom := some pixel, flagged := true } }
  have hbeams : beams (setStation s n fun x => { x with scan := some { c with zeroFrom := some pixel, flagged := true } }) n = beams s n := rfl
  have hget (i j : Nat) : get (setStation s n fun x => { x with scan := some { c with zeroFrom := some pixel, flagged := true } }) i j = get s i j := rfl
  have hmd : (setStation s n fun x => { x with scan := some { c with zeroFrom := some pixel, flagged := true } }).md = s.md := rfl
  have hsheets : (setStation s n fun x => { x with scan := some { c with zeroFrom := some pixel, flagged := true } }).sheets = s.sheets := rfl
  intro u
  change station (underrunState s n c pixel) n = _ ∧ get (underrunState s n c pixel) _ _ = _ ∧ get (underrunState s n c pixel) _ _ = _ ∧
    (underrunState s n c pixel).md = _ ∧ (underrunState s n c pixel).sheets = _
  unfold underrunState underrunSheet
  dsimp only
  generalize (setStation s n fun x => { x with scan := some { c with zeroFrom := some pixel, flagged := true } }) = t at hst hbeams hget hmd hsheets ⊢
  have hspill (v : State) (i j : Nat) : get (spillSheet v c.uid (some n)) i j = get v i j := rfl
  cases c.flagged with
  | true =>
    simp only [if_true, hspill]
    refine ⟨hst, (get_put_same t _ _ hlog).trans (by rw [hget]; rfl), (get_put_other t _ hne).trans (hget _ _), hmd, ?_⟩
    change t.sheets.map _ = _
    rw [hsheets]
  | false =>
    simp only [Bool.false_eq_true, if_false, hspill]
    have hsix : get (flagLines t n c.uid) (resIdx n) 6 = get s (resIdx n) 6 := (get_put_other _ _ hne.symm).trans (hget _ _)
    have hseven : get (flagLines t n c.uid) (resIdx n) 7 = min (get s (resIdx n) 7 + beams s n) (2 ^ 32 - 1) :=
      (get_put_same _ _ _ hlog).trans (by rw [← hget, ← hbeams]; rfl)
    refine ⟨hst, (get_put_same _ _ _ hlog).trans (by rw [hsix]; rfl), (get_put_other _ _ hne).trans hseven, hmd, ?_⟩
    change (t.sheets.map _).map _ = _
    rw [hsheets, List.map_map]
    refine List.map_congr_left fun sh _ => ?_
    by_cases h : sh.uid = c.uid
    · have huid := (mark_lineFlagged sh).1
      simp only [Function.comp_apply, h, if_true]
      rw [if_pos (huid.trans h)]
    · simp [h]

end Underrun

/-! ## SCAN_END -/

/-- What a scan boundary does to its station and sheets (R33, R332): nothing, or the spill that was asked for. -/
structure BoundaryPassed (n : Nat) (s t : State) : Prop where
  op : LinkOp n s t
  station : RasterOnly (station s n) (station t n)
  sent : KeepsSent s t

theorem spillNow_passes (s : State) (n uid : Nat) : BoundaryPassed n s (spillNow s n uid) := by
  have h := spillNow_spilled s n uid
  exact ⟨h.op.op, h.station, keepsSent_spillNow s n uid⟩

theorem BoundaryPassed.trans {n : Nat} {s t u : State} (h : BoundaryPassed n s t) (k : BoundaryPassed n t u) : BoundaryPassed n s u :=
  ⟨h.op.trans k.op, h.station.trans k.station, h.sent.trans k.sent⟩

theorem boundaryPassed_modSheet (s : State) (n uid : Nat) (f : Sheet → Sheet) : BoundaryPassed n s (modSheet s uid f) :=
  ⟨⟨rfl, fun _ _ => rfl⟩, rfl, .refl s⟩

theorem atScanBoundary_passes (s : State) (n uid : Nat) : BoundaryPassed n s (atScanBoundary s n uid) := by
  have hrefl : BoundaryPassed n s s := ⟨.refl n s, rfl, .refl s⟩
  unfold atScanBoundary
  split
  · exact hrefl
  next sh _ =>
    split
    · have hspill (t : State) : BoundaryPassed n t (spillSheet t uid (some n)) := boundaryPassed_modSheet t n uid _
      exact (boundaryPassed_modSheet s n uid fun x => { x with held := clrBit x.held n }).trans ((hspill _).trans (spillNow_passes _ n uid))
    · split
      · exact spillNow_passes s n uid
      · exact hrefl

/-- A refill is part of every boundary. -/
theorem refill_passes (s : State) (n : Nat) : BoundaryPassed n s (refill s n) :=
  have h := refill_refilled s n
  ⟨h.op.op, h.rasterOnly, keepsSent_refill s n⟩

/-- The words and blocks of a scan have gone out; of its station only what waits for the lanes differs. -/
structure ScanSent (n : Nat) (c : Scan) (words : List Nat) (s t : State) : Prop where
  op : LinkOp n s t
  station : ∃ q, station t n = { station s n with queue := q, lights := [] }
  pixels : Output.pixels n (Machine.station s n).scanSeq words ∈ t.out
  blocks : ∀ b, b < beams s n → Output.block n (lineEnd b c.facet (Machine.station s n).scanSeq (pixelsPerLine s n) (beamDark s n c b)) ∈ t.out

theorem sendPixels_sent (s : State) (n seq : Nat) (words : List Nat) : LinkOp n s (sendPixels s n seq words) ∧
    (∃ q, station (sendPixels s n seq words) n = { station s n with queue := q }) ∧ Output.pixels n seq words ∈ (sendPixels s n seq words).out := by
  have hemit : LinkOp n s (emit s (.pixels n seq words)) := ⟨rfl, fun _ _ => rfl⟩
  unfold sendPixels queueBlocks
  dsimp only
  split
  · exact ⟨hemit.trans (linkOp_setStation _ n _), ⟨_, station_setStation_same (emit s (.pixels n seq words)) n _⟩, List.mem_cons_self⟩
  · exact ⟨hemit, ⟨_, rfl⟩, List.mem_cons_self⟩

theorem sendScan_sent (s : State) (n : Nat) {c : Scan} {sh : Sheet} (h : sheetOf s c.uid = some sh) :
    ScanSent n c (pixelStream s n sh c) s (sendScan s n c) := by
  unfold sendScan releaseLights
  dsimp only
  rw [h]
  dsimp only
  obtain ⟨hpix, ⟨q, hq⟩, hout⟩ := sendPixels_sent s n (station s n).scanSeq (pixelStream s n sh c)
  generalize sendPixels s n (station s n).scanSeq (pixelStream s n sh c) = a at hpix hq hout ⊢
  generalize hl : ((List.range (beams s n)).map fun b => lineEnd b c.facet (station s n).scanSeq (pixelsPerLine s n) (beamDark s n c b)) = l
  have hend := sendControl_sent a n l
  obtain ⟨q', hq'⟩ := sendControl_scan a n l
  have hkeep := keepsSent_sendControl a n l
  generalize sendControl a n l = b at hend hq' hkeep ⊢
  have hset : LinkOp n b (setStation b n fun x => { x with lights := [] }) := linkOp_setStation b n _
  have hsetSt : station (setStation b n fun x => { x with lights := [] }) n = { station b n with lights := [] } := station_setStation_same b n _
  have hsetOut : KeepsSent b (setStation b n fun x => { x with lights := [] }) := keepsSent_of_eq rfl
  generalize (setStation b n fun x => { x with lights := [] }) = d at hset hsetSt hsetOut ⊢
  have hlight := sendControl_sent d n (station b n).lights
  obtain ⟨q'', hq''⟩ := sendControl_scan d n (station b n).lights
  have hlast := hsetOut.trans (keepsSent_sendControl d n (station b n).lights)
  refine ⟨hpix.trans (hend.op.trans (hset.trans hlight.op)), ⟨q'', by rw [hq'', hsetSt, hq', hq]⟩, hlast _ (hkeep _ hout), fun k hk => hlast _ (hend.out _ ?_)⟩
  rw [← hl]
  exact List.mem_map_of_mem (List.mem_range.2 hk)

section End

variable {st : Fin 6} {s : State}

theorem exec_scanEnd (st : Fin 6) (s : State) : exec (.scanEnd st) s = execScanEnd st s := rfl

theorem scanEnd_idle (h : (station s st.val).scan = none) : exec (.scanEnd st) s = .next (settle s) := by
  rw [exec_scanEnd, execScanEnd]
  dsimp only
  rw [h]
  rfl

/-- The station without the scan, its lines out of the FIFO. -/
def endedStation (s : State) (n : Nat) (c : Scan) (last : Bool) (x : Station) : Station :=
  { x.keepLines (fifoWords s n) (fun r => r.uid != c.uid || (!last && decide (beams s n * (c.index + 1) ≤ r.line))) with
    scan := none, lastScan := if c.flagged then none else some (c.uid, s.time), nextScan := c.index + 1, scanSeq := (x.scanSeq + 1) % 65536 }

/-- The last scan of a sheet has imaged it on the station. -/
def sheetImaged (s : State) (n uid : Nat) : State :=
  setStation (modSheet s uid fun sh => { sh with imaged := setBit sh.imaged n }) n fun x => { x with imaging := none, cutNow := false }

/-- The state that the end of a scan leaves. -/
def scanEnded (s : State) (n : Nat) (c : Scan) (last : Bool) : State :=
  let t := atScanBoundary (setStation (sendScan s n c) n (endedStation s n c last)) n c.uid
  refill (if last then sheetImaged t n c.uid else t) n

theorem scanEnd_ends {c : Scan} {sh : Sheet} (h : (station s st.val).scan = some c) (hsh : sheetOf s c.uid = some sh) :
    exec (.scanEnd st) s = .next (settle (scanEnded s st.val c (decide (scansOf sh.lines (beams s st.val) ≤ c.index + 1)))) := by
  rw [exec_scanEnd, execScanEnd]
  dsimp only
  rw [h]
  dsimp only
  rw [hsh]
  rfl

end End

/-- The scan is over: what was sent, and the station without it. -/
structure ScanOver (n : Nat) (c : Scan) (words : List Nat) (s t : State) : Prop where
  md : t.md = s.md
  scan : (station t n).scan = none
  next : (station t n).nextScan = c.index + 1
  seq : (station t n).scanSeq = ((station s n).scanSeq + 1) % 65536
  lastScan : (station t n).lastScan = if c.flagged = true then none else some (c.uid, s.time)
  pixels : Output.pixels n (station s n).scanSeq words ∈ t.out
  blocks : ∀ b, b < beams s n → Output.block n (lineEnd b c.facet (station s n).scanSeq (pixelsPerLine s n) (beamDark s n c b)) ∈ t.out

theorem ScanOver.passes {n : Nat} {c : Scan} {words : List Nat} {s t u : State} (h : ScanOver n c words s t) (k : BoundaryPassed n t u) : ScanOver n c words s u where
  md := k.op.md.trans h.md
  scan := by rw [k.station]; exact h.scan
  next := by rw [k.station]; exact h.next
  seq := by rw [k.station]; exact h.seq
  lastScan := by rw [k.station]; exact h.lastScan
  pixels := k.sent _ h.pixels
  blocks b hb := k.sent _ (h.blocks b hb)

theorem scanEnded_over (s : State) (n : Nat) {c : Scan} {sh : Sheet} (h : sheetOf s c.uid = some sh) (last : Bool) : let u := scanEnded s n c last
    ScanOver n c (pixelStream s n sh c) s u ∧
      (last = true → (station u n).imaging = none ∧ ∀ y ∈ u.sheets, y.uid = c.uid → y.imaged.testBit n = true) ∧
      (last = false → (station u n).imaging = (station s n).imaging) := by
  have hsent := sendScan_sent s n h
  intro u
  change ScanOver n c _ s (scanEnded s n c last) ∧ (_ → (station (scanEnded s n c last) n).imaging = none ∧ ∀ y ∈ (scanEnded s n c last).sheets, _) ∧
    (_ → (station (scanEnded s n c last) n).imaging = _)
  unfold scanEnded
  dsimp only
  generalize sendScan s n c = a at hsent ⊢
  have hset : LinkOp n a (setStation a n (endedStation s n c last)) := linkOp_setStation a n _
  have hsetSt : station (setStation a n (endedStation s n c last)) n = endedStation s n c last (station a n) := station_setStation_same a n _
  have hsetOut : KeepsSent a (setStation a n (endedStation s n c last)) := keepsSent_of_eq rfl
  generalize setStation a n (endedStation s n c last) = b at hset hsetSt hsetOut ⊢
  obtain ⟨q, hq⟩ := hsent.station
  rw [hq] at hsetSt
  have hover : ScanOver n c (pixelStream s n sh c) s b := {
    md := hset.md.trans hsent.op.md
    scan := by rw [hsetSt]; rfl
    next := by rw [hsetSt]; rfl
    seq := by rw [hsetSt]; rfl
    lastScan := by rw [hsetSt]; rfl
    pixels := hsetOut _ hsent.pixels
    blocks := fun k hk => hsetOut _ (hsent.blocks k hk) }
  have himaging : (station b n).imaging = (station s n).imaging := by rw [hsetSt]; rfl
  have hpass := atScanBoundary_passes b n c.uid
  generalize atScanBoundary b n c.uid = d at hpass ⊢
  have hstill : (station d n).imaging = (station s n).imaging := by rw [hpass.station]; exact himaging
  have hhere := hover.passes hpass
  cases last with
  | false =>
    rw [if_neg Bool.false_ne_true]
    have hrefill := refill_passes d n
    exact ⟨hhere.passes hrefill, fun hno => absurd hno Bool.false_ne_true, fun _ => by rw [hrefill.station]; exact hstill⟩
  | true =>
    rw [if_pos rfl]
    have hst : station (sheetImaged d n c.uid) n = { station d n with imaging := none, cutNow := false } :=
      station_setStation_same (modSheet d c.uid fun sh => { sh with imaged := setBit sh.imaged n }) n _
    have hsheets : (sheetImaged d n c.uid).sheets = d.sheets.map fun sh => if sh.uid = c.uid then { sh with imaged := setBit sh.imaged n } else sh := rfl
    have hmd : (sheetImaged d n c.uid).md = d.md := rfl
    have hout : KeepsSent d (sheetImaged d n c.uid) := keepsSent_of_eq rfl
    generalize sheetImaged d n c.uid = e at hst hsheets hmd hout ⊢
    have hover' : ScanOver n c (pixelStream s n sh c) s e := {
      md := hmd.trans hhere.md
      scan := by rw [hst]; exact hhere.scan
      next := by rw [hst]; exact hhere.next
      seq := by rw [hst]; exact hhere.seq
      lastScan := by rw [hst]; exact hhere.lastScan
      pixels := hout _ hhere.pixels
      blocks := fun k hk => hout _ (hhere.blocks k hk) }
    have hrefill := refill_refilled e n
    have hpassed := refill_passes e n
    refine ⟨hover'.passes hpassed, fun _ => ⟨by rw [hpassed.station]; exact congrArg Station.imaging hst, ?_⟩, fun hno => absurd hno.symm Bool.false_ne_true⟩
    rw [hrefill.sheets, hsheets]
    intro y hy huid
    obtain ⟨x, -, rfl⟩ := List.mem_map.1 hy
    split at huid
    next hx =>
      rw [if_pos hx]
      exact testBit_setBit _ _
    next hx => exact absurd huid hx

/-! ## The obligation -/

/-- Settles O39: a scan starts by its sheet and its lines, is zeroed by an underrun, and ends with its words sent. -/
theorem scansRun : Obligations.ScansRun := by
  unfold Obligations.ScansRun
  intro st s n x
  have hn : n < 6 := st.isLt
  refine ⟨fun d held words => ⟨fun h => ⟨s, scanStart_idle h d held words, rfl⟩, fun uid sh hr hi hs hsh hh hdue => ?_⟩, fun pixel c hc hb => ?_,
    fun pixel h => ⟨s, scanUnderrun_idle h pixel, rfl⟩, fun h => ⟨s, scanEnd_idle h, rfl⟩, fun c sh hc hsh => ?_⟩
  · intro started upTo early
    have hexec := scanStart_starts hr hi hs hsh hh hdue d held words
    have huid := uid_of_sheetOf hsh
    have hstarted {blank flag : Bool} {lost : List (Nat × Nat)} {u : State} (h : ScanBegun n uid blank flag lost s u) : started blank flag lost u :=
      ⟨h.scan, h.count, h.op.md, h.op.others, h.blocks⟩
    refine ⟨fun he => ⟨s, by rw [hexec, if_pos he], rfl⟩, fun he => ?_⟩
    rw [if_neg (by rw [show follows 32 (get s (trkIdx st.val) 7) (station s st.val).fromTooth = false from he]; exact Bool.false_ne_true)] at hexec
    refine ⟨fun hp => ⟨_, hexec, ?_⟩, fun hp hsp => ⟨_, hexec, ?_⟩, fun hp hsp => ?_⟩
    · rw [hp, if_pos (by rfl)]
      have hbegun := (beginScan_begins (sameButObjects_refl (scanCounters n) s) hn uid { blank := true, coasts := false }).1
      rw [Bool.and_false] at hbegun
      exact hstarted hbegun
    · rw [hp, hsp, if_pos (by rfl)]
      have hbegun := (beginScan_begins (sameButObjects_refl (scanCounters n) s) hn uid { blank := true, coasts := true }).1
      rw [Bool.and_true, Bool.false_or] at hbegun
      exact hstarted hbegun
    · rw [hp, hsp, if_neg (by decide)] at hexec
      intro lost
      refine ⟨fun h => ⟨_, hexec, ?_⟩, fun h1 h2 => ⟨_, hexec, ?_⟩⟩
      · have hstart : startScan s st.val sh d held words = beginScan (readWords n words s).1 n uid { blank := false, lost := lost, flag := !lost.isEmpty } := by
          rw [startScan, if_pos (by rw [Bool.or_eq_true]; exact h), huid]
        have hread := sameButObjects_mono (readWords_same n words s) (ls := scanCounters n) fun k hk => List.mem_cons_of_mem _ hk
        obtain ⟨hbegun, hres, -⟩ := beginScan_begins hread hn uid { blank := false, lost := lost, flag := !lost.isEmpty }
        rw [hstart]
        have hflag : (!lost.isEmpty || lastCoast s n && true) = (decide (lost ≠ []) || lastCoast s n) := by cases lost <;> simp
        rw [hflag] at hbegun
        refine ⟨hstarted hbegun, (hres 5 (by decide)).trans (KeepsObjects.get (readWords_same n words s).2 ?_ (isLogIdx_resIdx hn))⟩
        simp only [scanKeys, List.mem_cons, List.not_mem_nil, or_false, keyOf]
        omega
      · have hstart : startScan s st.val sh d held words = spillHere (beginScan (sat s (resIdx n) 5) n uid { blank := true, flag := true }) n uid := by
          rw [startScan, if_neg (by rw [Bool.or_eq_true, not_or]; exact ⟨by rw [show scanReady s st.val sh (scanNeeds s st.val (station s st.val).nextScan) = false from h1]; exact Bool.false_ne_true,
            by rw [show cutThrough s st.val sh (scanNeeds s st.val (station s st.val).nextScan) d held = false from h2]; exact Bool.false_ne_true⟩), huid]
        rw [hstart]
        obtain ⟨hbegun, hfive, hsheet⟩ := blankedScan_spills hn hsh
        exact ⟨hstarted hbegun, hfive, hsheet⟩
  · obtain ⟨hst, hsix, hseven, hmd, hsheets⟩ := underrunState_zeroed s hn c pixel
    refine ⟨_, scanUnderrun_zeroes hc hb pixel, hst, hsix, hseven, hmd, ?_⟩
    rw [hsheets]
    intro y hy huid
    obtain ⟨z, -, rfl⟩ := List.mem_map.1 hy
    split at huid
    next hz =>
      rw [if_pos hz]
      exact (underrunSheet_flagged n c z).2
    next hz => exact absurd huid hz
  · obtain ⟨hover, hlast, hmore⟩ := scanEnded_over s n hsh (decide (scansOf sh.lines (beams s n) ≤ c.index + 1))
    exact ⟨_, scanEnd_ends hc hsh, hover.scan, hover.next, hover.seq, hover.lastScan, hover.pixels, hover.md, hover.blocks, hlast, hmore⟩

end Sys2Proof.Machine

/-! # Tenants enabled, reset and scrubbed (R106, R255, R256, R268, R275, R279 to R286) -/

namespace Sys2Proof.Machine

/-! ## Writes that act on a tenant (R280, R286) -/

theorem tenantRow_plain (t : Fin 64) : ∀ j ∈ [2, 3], (writeRow (tenIdx t.val) j).cls ≠ .rws ∧ (writeRow (tenIdx t.val) j).ty ≠ .blob := by
  revert t
  decide +kernel

/-- An accepted write to a tenant's state or reset completes with its effect and its answer; the pins' lock sequences alone are touched beside it. -/
theorem tenantWrite_completes {c : Instr} {s : State} {acc : Accessor} {t : Fin 64} {j : Nat} {d : List Byte} {P : State → Prop} (hj : j ∈ [2, 3])
    (h : Accepted s acc (tenIdx t.val) j d) (hexec : exec c s = .next (settle (writeCommand acc (tenIdx t.val) j d s)))
    (hP : ∀ p, P (emit (effectHost { s with pins := p } (tenIdx t.val) j (ofLe d) d) (.answer acc 0 []))) : Completes c s P := by
  obtain ⟨hcls, hty⟩ := tenantRow_plain t j hj
  have hidx : 0x5000 ≤ tenIdx t.val ∧ tenIdx t.val < 0x5040 := by unfold tenIdx; omega
  have hview : viewOf (tenIdx t.val) = (tenIdx t.val, false) := by
    unfold viewOf
    rw [if_neg (by omega), if_neg (by omega), decide_eq_false (by omega)]
  have hthreshold : (thresholdOf (tenIdx t.val) j).isSome = false := by
    unfold thresholdOf
    rw [if_neg (by omega), if_neg (by omega), if_neg (by omega), if_neg (by omega)]
    rfl
  have heffect (u : State) (v : Nat) : writeEffect u acc (writeRow (tenIdx t.val) j) (tenIdx t.val) j v d = (effectHost u (tenIdx t.val) j v d, 0) := by
    unfold writeEffect
    rw [if_neg hcls, if_neg (by omega), hthreshold, if_neg (by simp), if_neg (by omega), if_neg (by omega), if_neg (by simp [hty]), if_neg (by omega),
      if_neg (by omega)]
  refine ⟨_, hexec, ?_⟩
  rw [writeCommand_accepted h hview, heffect, breakLock_eq]
  exact hP _

theorem effectHost_state (s : State) (t : Fin 64) (v : Nat) (d : List Byte) : effectHost s (tenIdx t.val) 2 v d =
    if v = 1 then enableTenant (put s (tenIdx t.val) 2 1) t.val
    else if (tenant s t.val).state == .enabled then tenantReset (put s (tenIdx t.val) 2 0) t.val 2 else put s (tenIdx t.val) 2 0 := by
  have hidx : 0x5000 ≤ tenIdx t.val ∧ tenIdx t.val < 0x5040 := by unfold tenIdx; omega
  have hten : tenIdx t.val - 0x5000 = t.val := by unfold tenIdx; omega
  unfold effectHost
  rw [if_pos hidx, hten]
  rfl

theorem effectHost_reset (s : State) (t : Fin 64) (v : Nat) (d : List Byte) : effectHost s (tenIdx t.val) 3 v d = tenantReset s t.val 2 := by
  have hidx : 0x5000 ≤ tenIdx t.val ∧ tenIdx t.val < 0x5040 := by unfold tenIdx; omega
  have hten : tenIdx t.val - 0x5000 = t.val := by unfold tenIdx; omega
  unfold effectHost
  rw [if_pos hidx, hten]
  rfl

/-- A tenant's enable (R286). -/
theorem enableTenant_enables (s : State) (t : Nat) : let u := enableTenant s t
    (tenant u t).state = .enabled ∧ (tenant u t).units = s.mem.unitsFree.take (get s (tenIdx t) 8) ∧ u.mem.unitsFree = s.mem.unitsFree.drop (get s (tenIdx t) 8) ∧
      (tenant u t).sheetTail = 0 ∧ (tenant u t).compTail = 0 ∧ (tenant u t).phase = true ∧ u.dict = s.dict ∧
      (∀ j, j ≠ t → tenant u j = tenant s j) ∧ u.sheets = s.sheets := by
  have hsame : tenant (enableTenant s t) t = { tenant s t with
      state := .enabled, units := s.mem.unitsFree.take (get s (tenIdx t) 8), sheetTail := 0, descHead := 0, bufHead := 0, compHead := 0, compTail := 0,
      phase := true, outstanding := 0, cancelSlots := [], bufWait := [], heldDone := [], unsignalled := 0, v := 0, candidate := false } := by
    unfold enableTenant
    dsimp only
    rw [tenant_setTenant_same]
    rfl
  have hother : ∀ j, j ≠ t → tenant (enableTenant s t) j = tenant s j := fun j hj => by
    unfold enableTenant
    dsimp only
    rw [tenant_setTenant_other _ _ hj]
    rfl
  intro u
  refine ⟨?_, ?_, rfl, ?_, ?_, ?_, rfl, hother, rfl⟩ <;> exact (congrArg _ hsame).trans rfl

/-! ## The end of a function (R78, R79) -/

theorem functionEnds_tenantOp {ks : List Nat} (s : State) (fn : Nat) : TenantOp ks s (functionEnds s fn) := by
  have hdrop (u : State) (a : Accessor) : TenantOp ks u (dropAcc u a) := tenantOp_of_eq rfl rfl
  have hunstaged (a : Accessor) : TenantOp ks s (unstaged s a) := tenantOp_of_eq rfl rfl
  have hlogs (a : Accessor) : SameButLog (unstaged s a) (releaseStager s a) := .foldl _ _ (fun _ _ => log_sameButLog _ _ _ _ _ _ _ _ _) _
  have hrelease (a : Accessor) : TenantOp ks s (releaseStager s a) := (hunstaged a).trans (hlogs a).tenantOp
  unfold functionEnds
  split
  · exact (hrelease _).trans (hdrop _ _)
  · exact (hrelease _).trans (hdrop _ _)

theorem functionEnds_md (s : State) (fn : Nat) : (functionEnds s fn).md = s.md := md_of_modeView (functionEnds_modeView s fn)

/-! ## Several tenants reset (R280) -/

/-- Resets one after another leave none of their tenants ENABLED, and make none so. -/
theorem resets_disable (f : State → Nat → State) (hf : ∀ u t, (∀ j, (tenant (f u t) j).state = .enabled → (tenant u j).state = .enabled) ∧
    (tenant (f u t) t).state ≠ .enabled) (l : List Nat) (s : State) :
    (∀ j, (tenant (l.foldl f s) j).state = .enabled → (tenant s j).state = .enabled) ∧ ∀ t ∈ l, (tenant (l.foldl f s) t).state ≠ .enabled := by
  induction l generalizing s with
  | nil => exact ⟨fun _ h => h, fun _ h => absurd h List.not_mem_nil⟩
  | cons a l ih =>
    obtain ⟨hstates, hgone⟩ := ih (f s a)
    refine ⟨fun j h => (hf s a).1 j (hstates j h), fun t ht => ?_⟩
    rcases List.mem_cons.1 ht with rfl | ht
    · exact fun h => (hf s t).2 (hstates t h)
    · exact hgone t ht

theorem tenantReset_disables (cause : Nat) (u : State) (t : Nat) : (∀ j, (tenant (tenantReset u t cause) j).state = .enabled → (tenant u j).state = .enabled) ∧
    (tenant (tenantReset u t cause) t).state ≠ .enabled :=
  have h := tenantReset_resets u t cause
  ⟨h.none.states, h.left⟩

/-- PF0's reset reaches every tenant (R280). -/
theorem resetPf0_resets (s : State) : get (resetPf0 s) 0x5060 6 = 0 ∧ (∀ n, n < 64 → (tenant (resetPf0 s) n).state ≠ .enabled) ∧ (resetPf0 s).md = s.md := by
  refine ⟨get_put_same _ _ _ rfl, fun n hn => ?_, md_of_modeView (resetPf0_modeView s)⟩
  have hall := (resets_disable (fun u t => tenantReset u t 3) (tenantReset_disables 3) (List.range 64) s).2 n (List.mem_range.2 hn)
  change (tenant (resetAllTenants s) n).state ≠ .enabled at hall
  have hends : TenantOp [] (resetAllTenants s) (forEach (List.range 65) functionEnds (resetAllTenants s)) := tenantOp_foldl functionEnds_tenantOp _ _
  unfold resetPf0
  dsimp only
  generalize forEach (List.range 65) functionEnds (resetAllTenants s) = u at hends ⊢
  change (tenant (setTenant u 64 fun _ => {}) n).state ≠ .enabled
  rw [tenant_setTenant_other u _ (by omega), hends.states]
  exact hall

/-! ## Bus Master Enable (R270, R279) -/

/-- One tenant's completions alone have moved. -/
structure OneTenant (t : Nat) (s u : State) : Prop where
  busMaster : (tenant u t).busMaster = (tenant s t).busMaster
  outstanding : (tenant u t).outstanding = (tenant s t).outstanding
  others : ∀ j, j ≠ t → tenant u j = tenant s j
  sheets : u.sheets = s.sheets
  md : u.md = s.md

theorem OneTenant.refl (t : Nat) (s : State) : OneTenant t s s := ⟨rfl, rfl, fun _ _ => rfl, rfl, rfl⟩

theorem OneTenant.trans {t : Nat} {s u w : State} (h : OneTenant t s u) (k : OneTenant t u w) : OneTenant t s w :=
  ⟨k.busMaster.trans h.busMaster, k.outstanding.trans h.outstanding, fun j hj => (k.others j hj).trans (h.others j hj), k.sheets.trans h.sheets, k.md.trans h.md⟩

theorem oneTenant_setTenant (s : State) (t : Nat) {f : Tenant → Tenant} (hf : ∀ x, (f x).busMaster = x.busMaster ∧ (f x).outstanding = x.outstanding) :
    OneTenant t s (setTenant s t f) :=
  ⟨by rw [tenant_setTenant_same, (hf _).1], by rw [tenant_setTenant_same, (hf _).2], fun _ hj => tenant_setTenant_other s f hj, rfl, rfl⟩

theorem oneTenant_of_eq {t : Nat} {s u : State} (ht : u.tenants = s.tenants) (hs : u.sheets = s.sheets) (hm : u.md = s.md) : OneTenant t s u :=
  ⟨by rw [tenant, tenant, ht], by rw [tenant, tenant, ht], fun j _ => by rw [tenant, tenant, ht], hs, hm⟩

theorem oneTenant_vector (t : Nat) (s : State) (fn vec : Nat) : OneTenant t s (vector s fn vec) :=
  have h := vector_sameButLog s fn vec
  oneTenant_of_eq h.tenants h.sheets h.md

theorem oneTenant_writeSignal (s : State) (t : Nat) (h : Held) : OneTenant t s (writeSignal s t h) := by
  have hentry (l : List Byte) : OneTenant t s (writeEntry s t l) := by
    unfold writeEntry
    have hemit (o : Output) : OneTenant t s (emit s o) := oneTenant_of_eq rfl rfl rfl
    exact (hemit _).trans (oneTenant_setTenant _ t fun _ => ⟨rfl, rfl⟩)
  have hsignal (u : State) : OneTenant t u (signalEntry u t) := by
    have hset (f : Tenant → Tenant) (hf : ∀ x, (f x).busMaster = x.busMaster ∧ (f x).outstanding = x.outstanding) (c : List Nat) : OneTenant t u { setTenant u t f with coalescing := c } :=
      (oneTenant_setTenant u t hf).trans (oneTenant_of_eq rfl rfl rfl)
    unfold signalEntry
    dsimp only
    split
    · exact (hset (fun x => { x with unsignalled := 0 }) (fun _ => ⟨rfl, rfl⟩) _).trans (oneTenant_vector _ _ _ _)
    · exact hset (fun x => { x with unsignalled := (tenant u t).unsignalled + 1 }) (fun _ => ⟨rfl, rfl⟩) _
  unfold writeSignal
  dsimp only
  split
  · exact (hentry _).trans (hsignal _)
  · exact hentry _

theorem flushHeld_one (t n : Nat) (s : State) : OneTenant t s (flushHeld t n s) := by
  fun_induction flushHeld t n s with
  | case1 => exact .refl t _
  | case2 => exact .refl t _
  | case3 => exact .refl t _
  | case4 n s _ h r _ ih => exact ((oneTenant_setTenant s t (f := fun x => { x with heldDone := r }) fun _ => ⟨rfl, rfl⟩).trans (oneTenant_writeSignal _ t h)).trans ih

/-- With Bus Master Enable clear, or nothing held, nothing is written. -/
theorem flushHeld_still {t n : Nat} {s : State} (h : (tenant s t).busMaster = false ∨ n = 0) : flushHeld t n s = s := by
  cases n with
  | zero => rfl
  | succ n =>
    rcases h with h | h
    · rw [flushHeld, if_pos (by simp [mustHold, h])]
    · exact absurd h (by omega)

/-! ## The commands -/

section Commands

variable {t : Fin 64} {s : State}

theorem exec_tenantEnable (acc : Accessor) (t : Fin 64) (d : List Byte) (s : State) :
    exec (.tenantEnable acc t d) s = .next (settle (writeCommand acc (tenIdx t.val) 2 d s)) := rfl
theorem exec_tenantDisable (acc : Accessor) (t : Fin 64) (d : List Byte) (s : State) :
    exec (.tenantDisable acc t d) s = .next (settle (writeCommand acc (tenIdx t.val) 2 d s)) := rfl
theorem exec_tenantResetWrite (acc : Accessor) (t : Fin 64) (d : List Byte) (s : State) :
    exec (.tenantResetWrite acc t d) s = .next (settle (writeCommand acc (tenIdx t.val) 3 d s)) := rfl
theorem exec_functionLevelReset (fn : Fin 65) (s : State) : exec (.functionLevelReset fn) s = .next (settle (if answering s && functionUp s fn.val then
    (if fn.val = 0 then resetPf0 s else functionEnds (tenantReset s (fn.val - 1) 1) fn.val) else configRequest s fn.val)) := by
  change execFunctionLevelReset fn s = _
  unfold execFunctionLevelReset
  split <;> rfl
theorem exec_pePerst (s : State) : exec .pePerst s = .next (settle
    { (if answering s && endpointUp s then resetPf0 s else s) with
      pins := { (if answering s && endpointUp s then resetPf0 s else s).pins with perstLow := true, linkSpeed := 0, linkWidth := 0 } }) := rfl
theorem exec_numvfsWrite (n : Nat) (s : State) : exec (.numvfsWrite n) s = .next (settle (if answering s && endpointUp s && decide (n ≤ totalVfs s) then
    put (forEach ((List.range (get s 0x5060 6 - n)).map (· + n)) (fun u t => functionEnds (tenantReset u t 1) (t + 1)) s) 0x5060 6 n else configRequest s 0)) := by
  change execNumvfsWrite n s = _
  unfold execNumvfsWrite
  split <;> rfl
theorem exec_scrubComplete (t : Fin 64) (s : State) : exec (.scrubComplete t) s = .next (settle
    (if answering s && dramRuns s && (tenant s t.val).state == .scrubbing then scrubDone s t.val else s)) := by
  change execScrubComplete t s = _
  unfold execScrubComplete
  split <;> rfl
theorem exec_busMasterEnable (t : Fin 64) (on : Bool) (s : State) : exec (.busMasterEnable t on) s = .next (settle (if answering s && vfUp s t.val then
    flushHeld t.val (tenant s t.val).heldDone.length (setTenant s t.val fun x => { x with busMaster := on }) else configRequest s (t.val + 1))) := by
  change execBusMasterEnable t on s = _
  unfold execBusMasterEnable
  split
  · dsimp only
    rw [tenant_setTenant_same]
    rfl
  · rfl
theorem exec_coalescingTimeout (t : Fin 64) (s : State) : exec (.coalescingTimeout t) s = .next (settle (if answering s && s.coalescing.contains t.val then
    vector (setTenant { s with coalescing := s.coalescing.erase t.val } t.val fun x => { x with unsignalled := 0 }) (t.val + 1) 0 else s)) := by
  change execCoalescingTimeout t s = _
  unfold execCoalescingTimeout
  split <;> rfl
theorem exec_pePerstRelease (speed width : Nat) (s : State) : exec (.pePerstRelease speed width) s = .next (settle
    (if s.pins.perstLow then { s with pins := { s.pins with perstLow := false, linkSpeed := speed, linkWidth := width } } else s)) := by
  change execPePerstRelease speed width s = _
  unfold execPePerstRelease
  split <;> rfl

/-- What every reset of a tenant shows (R280, R283, R285). -/
def ResetShown (s : State) (t cause : Nat) (u : State) : Prop :=
  get u (tenIdx t) 0x1B = cause ∧ get u (tenIdx t) 0x1A = min (get s (tenIdx t) 0x1A + 1) 65535 ∧ u.md = s.md ∧
    ((tenant s t).state = .enabled → (tenant u t).state ≠ .enabled ∧ ∀ sh ∈ u.sheets, sh.tenant = t → sh.ghost = true)

theorem TenantWasReset.shown {t cause : Nat} {s u w : State} (h : TenantWasReset t cause s u) (hop : TenantOp [] u w) (hmd : w.md = u.md)
    (hsheets : w.sheets = u.sheets) : ResetShown s t cause w := by
  have hge : 0x5000 ≤ tenIdx t := by unfold tenIdx; omega
  refine ⟨(hop.keeps _ _ hge (by decide) (by simp)).trans h.cause, (hop.keeps _ _ hge (by decide) (by simp)).trans h.count, hmd.trans h.md, fun hen => ⟨?_, ?_⟩⟩
  · rw [hop.states]
    exact h.left
  · rw [hsheets]
    exact h.ghosts hen

theorem tenantOp_emit {ks : List Nat} (s : State) (o : Output) : TenantOp ks s (emit s o) := tenantOp_of_eq rfl rfl

theorem tenantIdx_plain (t : Nat) : isLogIdx (tenIdx t) = false := isLogIdx_of_ge (by unfold tenIdx; omega)

/-- TENANT_DISABLE resets a tenant that is ENABLED, and shows any other as it is. -/
theorem disableWrite_resets {acc : Accessor} (p : Pins) (d : List Byte) : let u := emit (effectHost { s with pins := p } (tenIdx t.val) 2 0 d) (.answer acc 0 [])
    get u (tenIdx t.val) 2 = 0 ∧ Answered acc u ∧ ((tenant s t.val).state = .enabled → ResetShown s t.val 2 u) ∧
      ((tenant s t.val).state ≠ .enabled → u.tenants = s.tenants ∧ u.sheets = s.sheets) := by
  have heffect := effectHost_state { s with pins := p } t 0 d
  rw [if_neg (by decide)] at heffect
  have hzero : get (put { s with pins := p } (tenIdx t.val) 2 0) (tenIdx t.val) 2 = 0 := get_put_same _ _ _ (tenantIdx_plain _)
  have hcount : get (put { s with pins := p } (tenIdx t.val) 2 0) (tenIdx t.val) 0x1A = get s (tenIdx t.val) 0x1A :=
    get_put_other { s with pins := p } 0 (key_tenIdx_ne (by decide) (by decide) (by decide))
  intro u
  change get (emit _ _) _ _ = _ ∧ Answered acc (emit _ _) ∧ (_ → ResetShown s t.val 2 (emit _ _)) ∧ (_ → (emit _ _).tenants = _ ∧ (emit _ _).sheets = _)
  rw [heffect]
  rw [show tenant { s with pins := p } t.val = tenant s t.val from rfl]
  cases hen : ((tenant s t.val).state == .enabled) with
  | true =>
    rw [if_pos rfl]
    have hreset := tenantReset_resets (put { s with pins := p } (tenIdx t.val) 2 0) t.val 2
    have hstate : (tenant s t.val).state = .enabled := by simpa using hen
    generalize tenantReset (put { s with pins := p } (tenIdx t.val) 2 0) t.val 2 = w at hreset ⊢
    have hshown := hreset.shown (tenantOp_emit w (.answer acc 0 [])) rfl rfl
    obtain ⟨h1, h2, h3, h4⟩ := hshown
    have hkey : keyOf (tenIdx t.val) 2 ∉ resetKeys t.val := by
      simp only [resetKeys, ringKeys, outcomeKeys, List.mem_append, List.mem_cons, List.not_mem_nil, or_false, keyOf, tenIdx]
      omega
    refine ⟨?_, answered_emit acc w, fun _ => ⟨h1, h2.trans (by rw [hcount]), h3, h4⟩, fun hno => absurd hstate hno⟩
    exact (hreset.none.keeps _ _ (by unfold tenIdx; omega) (by decide) hkey).trans hzero
  | false =>
    rw [if_neg Bool.false_ne_true]
    have hstate : (tenant s t.val).state ≠ .enabled := fun h => absurd hen (by simpa using h)
    exact ⟨hzero, answered_emit acc _, fun h => absurd h hstate, fun _ => ⟨rfl, rfl⟩⟩

/-- NumVFs (R256): the tenants of the VFs that go leave ENABLED. -/
theorem numvfs_resets (n : Nat) :
    let u := put (forEach ((List.range (get s 0x5060 6 - n)).map (· + n)) (fun u t => functionEnds (tenantReset u t 1) (t + 1)) s) 0x5060 6 n
    get u 0x5060 6 = n ∧ (∀ j, n ≤ j → j < get s 0x5060 6 → (tenant u j).state ≠ .enabled) ∧ u.md = s.md ∧ (get s 0x5060 6 ≤ n → u = put s 0x5060 6 n) := by
  have hdisable (u : State) (t : Nat) : (∀ j, (tenant (functionEnds (tenantReset u t 1) (t + 1)) j).state = .enabled → (tenant u j).state = .enabled) ∧
      (tenant (functionEnds (tenantReset u t 1) (t + 1)) t).state ≠ .enabled := by
    obtain ⟨hstates, hleft⟩ := tenantReset_disables 1 u t
    have hends := functionEnds_tenantOp (ks := []) (tenantReset u t 1) (t + 1)
    exact ⟨fun j h => hstates j ((hends.states j).symm.trans h), fun h => hleft ((hends.states t).symm.trans h)⟩
  have hmd : (forEach ((List.range (get s 0x5060 6 - n)).map (· + n)) (fun u t => functionEnds (tenantReset u t 1) (t + 1)) s).md = s.md :=
    foldl_keeps (fun u => u.md = s.md) _ _ s (fun u t _ hu => by rw [functionEnds_md, md_of_modeView (tenantReset_modeView u t 1), hu]) rfl
  have hall := (resets_disable _ hdisable ((List.range (get s 0x5060 6 - n)).map (· + n)) s).2
  refine ⟨get_put_same _ _ _ rfl, fun j hj hlt => hall j (List.mem_map.2 ⟨j - n, List.mem_range.2 (by omega), by omega⟩), hmd, fun h => ?_⟩
  rw [Nat.sub_eq_zero_of_le h]
  rfl

/-- SCRUB_COMPLETE returns the units (R275, R284). -/
theorem scrubDone_returns (s : State) (t : Nat) : (tenant (scrubDone s t) t).state = .disabled ∧ (tenant (scrubDone s t) t).units = [] ∧
    (scrubDone s t).mem.unitsFree = s.mem.unitsFree ++ (tenant s t).units ∧ (scrubDone s t).sheets = s.sheets ∧
    ∀ k ∈ (scrubDone s t).mem.scrub, k ∉ (tenant s t).units := by
  obtain ⟨l, hl⟩ := vector_only (setTenant { s with mem := { s.mem with scrub := s.mem.scrub.filter (fun k => !(tenant s t).units.contains k), unitsFree := s.mem.unitsFree ++ (tenant s t).units } } t
    fun x => { x with units := [], state := .disabled }) 0 5
  have hten := tenant_setTenant_same { s with mem := { s.mem with scrub := s.mem.scrub.filter (fun k => !(tenant s t).units.contains k), unitsFree := s.mem.unitsFree ++ (tenant s t).units } } t
    fun x => { x with units := [], state := .disabled }
  have hsame : tenant (scrubDone s t) t = { tenant s t with units := [], state := .disabled } := by
    unfold scrubDone
    dsimp only
    rw [hl]
    exact hten
  refine ⟨by rw [hsame], by rw [hsame], ?_, ?_, ?_⟩
  · unfold scrubDone
    dsimp only
    rw [hl]
    rfl
  · unfold scrubDone
    dsimp only
    rw [hl]
    rfl
  · unfold scrubDone
    dsimp only
    rw [hl]
    intro k hk
    simpa using (List.mem_filter.1 hk).2

/-- COALESCING_TIMEOUT signals what has not been (R268). -/
theorem coalescing_signals (s : State) (t : Nat) :
    let u := vector (setTenant { s with coalescing := s.coalescing.erase t } t fun x => { x with unsignalled := 0 }) (t + 1) 0
    tenant u t = { tenant s t with unsignalled := 0 } ∧ u.coalescing = s.coalescing.erase t ∧
      u = { s with tenants := u.tenants, coalescing := u.coalescing, out := u.out } ∧ (vfUp s t = true → u.out = .vector (t + 1) 0 :: s.out) := by
  have hten := tenant_setTenant_same { s with coalescing := s.coalescing.erase t } t fun x => { x with unsignalled := 0 }
  have hup : functionUp (setTenant { s with coalescing := s.coalescing.erase t } t fun x => { x with unsignalled := 0 }) (t + 1) = vfUp s t := rfl
  dsimp only
  unfold vector
  rw [hup]
  have hvec : decide (0 < vectorsOf (t + 1)) = true := rfl
  rw [hvec, Bool.and_true]
  cases vfUp s t with
  | true => exact ⟨hten, rfl, rfl, fun _ => rfl⟩
  | false => exact ⟨hten, rfl, rfl, fun h => absurd h Bool.false_ne_true⟩

/-- Between the training of the link and kick-off step 12 the dictionary answers nobody. -/
theorem answering_early (hmode : s.md.mode = .kickoff) (hstep : get s 0x2020 1 < 12) : answering s = false := by
  simp [answering, hmode, Nat.not_le.2 hstep]

theorem configRequest_retries (hmode : s.md.mode = .kickoff) (hlink : coreLink s = true) (hstep : get s 0x2020 1 < 12) (fn : Nat) :
    configRequest s fn = emit s (.configRetry fn) := if_pos ⟨hmode, hlink, hstep⟩

end Commands

/-- Settles O35: the enable, the resets of one tenant and of all, the end of a scrub, and what the endpoint's commands change. -/
theorem tenantsChange : Obligations.TenantsChange := by
  unfold Obligations.TenantsChange
  intro t s x i reset allReset
  refine ⟨fun acc d h hv => ?_, fun acc d h hv => ?_, fun acc d h => ?_, fun hans => ⟨fun fn hfn hup => ?_, fun fn hfn hup => ?_, fun hup => ?_,
    fun n hup hle => ⟨_, ?_, numvfs_resets n⟩, fun hram hst => ⟨_, ?_, scrubDone_returns s t.val⟩, fun on hup => ?_, fun hin => ⟨_, ?_, coalescing_signals s t.val⟩⟩,
    fun h => ⟨_, exec_pePerst s, ?_⟩, fun hmode hlink hstep => ?_, fun speed width hlow => ⟨_, exec_pePerstRelease speed width s, ?_⟩⟩
  · refine tenantWrite_completes (by simp) h (exec_tenantEnable acc t d s) fun p => ?_
    rw [hv, effectHost_state, if_pos rfl]
    obtain ⟨h1, h2, h3, h4, h5, h6, hdict, hothers, hsheets⟩ := enableTenant_enables (put { s with pins := p } (tenIdx t.val) 2 1) t.val
    have hunits : get (put { s with pins := p } (tenIdx t.val) 2 1) (tenIdx t.val) 8 = get s (tenIdx t.val) 8 :=
      get_put_other { s with pins := p } 1 (key_tenIdx_ne (by decide) (by decide) (by decide))
    have hone : get (put { s with pins := p } (tenIdx t.val) 2 1) (tenIdx t.val) 2 = 1 := get_put_same _ _ _ (tenantIdx_plain _)
    rw [hunits] at h2 h3
    exact ⟨h1, h2, h3, h4, h5, h6, (get_congr hdict 2 (tenantIdx_plain _)).trans hone, answered_emit acc _, hothers, hsheets⟩
  · refine tenantWrite_completes (by simp) h (exec_tenantDisable acc t d s) fun p => ?_
    rw [hv]
    exact disableWrite_resets p d
  · refine tenantWrite_completes (by simp) h (exec_tenantResetWrite acc t d s) fun p => ?_
    rw [effectHost_reset]
    exact ⟨(tenantReset_resets { s with pins := p } t.val 2).shown (tenantOp_emit _ _) rfl rfl, answered_emit acc _⟩
  · refine ⟨_, exec_functionLevelReset fn s, ?_⟩
    have hfun : functionUp s fn.val = true := by
      rw [functionUp, if_neg (by omega), show fn.val - 1 = t.val by omega]
      exact hup
    rw [hans, hfun, if_pos (by rfl), if_neg (by omega), show fn.val - 1 = t.val by omega]
    exact (tenantReset_resets s t.val 1).shown (functionEnds_tenantOp _ _) (functionEnds_md _ _) (functionEnds_sheets _ _)
  · refine ⟨_, exec_functionLevelReset fn s, ?_⟩
    have hfun : functionUp s fn.val = true := by rw [functionUp, if_pos hfn, hup]
    rw [hans, hfun, if_pos (by rfl), if_pos hfn]
    exact resetPf0_resets s
  · refine ⟨_, exec_pePerst s, ?_⟩
    rw [hans, hup, if_pos (by rfl)]
    have hall := resetPf0_resets s
    generalize resetPf0 s = u at hall ⊢
    exact ⟨hall, rfl, rfl⟩
  · rw [exec_numvfsWrite, hans, hup, decide_eq_true hle, if_pos (by rfl)]
  · rw [exec_scrubComplete, hans, hram, show (tenant s t.val).state = .scrubbing from hst, if_pos (by rfl)]
  · refine ⟨_, exec_busMasterEnable t on s, ?_⟩
    rw [hans, hup, if_pos (by rfl)]
    have hflush := flushHeld_one t.val (tenant s t.val).heldDone.length (setTenant s t.val fun x => { x with busMaster := on })
    have hsame := tenant_setTenant_same s t.val fun x => { x with busMaster := on }
    refine ⟨hflush.busMaster.trans (by rw [hsame]), fun j hj => (hflush.others j hj).trans (tenant_setTenant_other s _ hj), hflush.sheets, hflush.md, fun h => ?_⟩
    refine flushHeld_still (h.imp (fun hoff => by rw [hsame]; exact hoff) fun hnil => ?_)
    exact List.length_eq_zero_iff.2 hnil
  · rw [exec_coalescingTimeout, hans, if_pos (by simpa using hin)]
  · rw [if_neg (by rcases h with h | h <;> simp [h])]
  · have hno := answering_early hmode hstep
    refine ⟨fun fn => ⟨_, exec_functionLevelReset fn s, ?_⟩, fun n => ⟨_, exec_numvfsWrite n s, ?_⟩, fun on => ⟨_, exec_busMasterEnable t on s, ?_⟩⟩ <;>
      rw [hno, if_neg (by simp)] <;> exact configRequest_retries hmode hlink hstep _
  · rw [if_pos hlow]

end Sys2Proof.Machine

/-! # What ingest's operations leave (R17, R263, R266, R270, R278) -/

namespace Sys2Proof.Machine

/-! ## Entries keep what has been sent -/

theorem keepsSent_mirrorWrite (s : State) (e : Entry) : KeepsSent s (mirrorWrite s e) := by
  unfold mirrorWrite
  split
  · exact .refl s
  · split
    · exact fun o ho => List.mem_cons_of_mem _ ho
    · dsimp only
      split <;> exact keepsSent_of_eq rfl

theorem keepsSent_ringWrite (s : State) (e : Entry) : KeepsSent s (ringWrite s e) := by
  unfold ringWrite
  dsimp only
  have hring : KeepsSent s (if s.log.ring.length < 4096 then s else satLog 32 s 0x2410 5) := .ite (.refl s) (keepsSent_of_eq rfl)
  generalize (if s.log.ring.length < 4096 then s else satLog 32 s 0x2410 5) = t at hring ⊢
  have hput (l : Log) (v : Nat) : KeepsSent s (putLog { t with log := l } 0x2410 3 v) := hring.trans (keepsSent_of_eq rfl)
  exact .ite ((hput _ _).trans (keepsSent_mirrorWrite _ _)) (hput _ _)

theorem keepsSent_notice (s : State) (i j cls : Nat) : KeepsSent s (notice s i j cls) := by
  have hvector {u : State} (hu : KeepsSent s u) (fn vec : Nat) : KeepsSent s (vector u fn vec) := hu.trans (keepsSent_vector u fn vec)
  unfold notice
  dsimp only
  split <;> split
  · refine hvector ?_ _ _
    exact keepsSent_of_eq rfl
  · refine hvector ?_ _ _
    exact keepsSent_of_eq rfl
  · exact keepsSent_of_eq rfl
  · exact keepsSent_of_eq rfl

theorem keepsSent_log (s : State) (cls kind src inst i j : Nat) (serial : Option Nat) (detail : Nat) : KeepsSent s (log s cls kind src inst i j serial detail) := by
  have hclass (u : State) : KeepsSent u (classVectors u cls) := by
    unfold classVectors
    exact .ite ((keepsSent_vector _ _ _).trans (keepsSent_vector _ _ _)) (.ite (keepsSent_vector _ _ _) (.refl u))
  have honly : KeepsSent s (logOnly s cls kind src inst i j serial detail) := by
    unfold logOnly
    dsimp only
    refine KeepsSent.trans ?_ (hclass _)
    exact .ite (keepsSent_ringWrite _ _) (.ite (keepsSent_of_eq rfl) (keepsSent_of_eq rfl))
  unfold log
  exact .ite (honly.trans (keepsSent_notice _ _ _ _)) honly

theorem keepsSent_servePass (s : State) (m : Mech) (n src i j : Nat) : KeepsSent s (servePass s m n src i j) := by
  have hdrop : KeepsSent s (serveDrop s m n) := keepsSent_of_eq rfl
  unfold servePass
  split
  · exact .refl s
  · dsimp only
    split
    · have hpassed (l : Log) : KeepsSent s (wrapLog 32 { serveDrop s m n with log := l } 0x2400 2) := hdrop.trans (keepsSent_of_eq rfl)
      exact (hpassed _).trans (keepsSent_log _ _ _ _ _ _ _ _ _)
    · exact .refl s

/-! ## Tenants' objects through a mode's entry (R44) -/

/-- No object of a tenant changes. -/
def KeepsTenants (s t : State) : Prop := ∀ i j, 0x5000 ≤ i → i < 0x5040 → j < 256 → get t i j = get s i j

theorem KeepsTenants.refl (s : State) : KeepsTenants s s := fun _ _ _ _ _ => rfl

theorem KeepsTenants.trans {s t u : State} (h : KeepsTenants s t) (k : KeepsTenants t u) : KeepsTenants s u :=
  fun i j hlo hhi hj => (k i j hlo hhi hj).trans (h i j hlo hhi hj)

theorem SameButLog.keepsTenants {s t : State} (h : SameButLog s t) : KeepsTenants s t := fun _ j hlo _ _ => h.get j (isLogIdx_of_ge (by omega))

theorem keepsTenants_of_dict {s t : State} (h : t.dict = s.dict) : KeepsTenants s t := fun _ j hlo _ _ => get_congr h j (isLogIdx_of_ge (by omega))

theorem keepsTenants_put (s : State) {i j : Nat} (v : Nat) (h : keyOf i j < 0x500000) : KeepsTenants s (put s i j v) :=
  fun a b hlo _ _ => get_put_other s v (by unfold keyOf at *; omega)

theorem FrameIn.keepsTenants {s t : State} (h : FrameIn s t) : KeepsTenants s t :=
  fun i j hlo hhi hj => h.get (isLogIdx_of_ge (by omega)) (calmKey_of_object (.inr ⟨by omega, by omega⟩) hj)

theorem KeepsTenants.foldl {α : Type} {f : State → α → State} (l : List α) (h : ∀ u, ∀ x ∈ l, KeepsTenants u (f u x)) (s : State) : KeepsTenants s (l.foldl f s) :=
  foldl_keeps (KeepsTenants s) l f s (fun u x hx hu => hu.trans (h u x hx)) (.refl s)

theorem intoWarmup_keepsTenants (s : State) : KeepsTenants s (intoWarmup s) := by
  have hmotor (u : State) {m : Nat} (hm : m < 12) (k : Nat) : KeepsTenants u (commandEntry u m k) := by
    obtain ⟨-, hkeeps⟩ := commandEntry_only u m k
    intro i j hlo hhi hj
    refine KeepsObjects.get hkeeps ?_ (isLogIdx_of_ge (by omega))
    simp only [List.mem_singleton, keyOf, motIdx]
    omega
  have hloop (u : State) {n : Nat} (hn : n < 48) : KeepsTenants u (loopModeOn u 0 n) := by
    have hbank : KeepsTenants u (selectBank u n 0) := keepsTenants_put u _ (by unfold keyOf loopIdx; omega)
    unfold loopModeOn
    dsimp only
    split
    · exact .refl u
    · split
      · exact hbank.trans (keepsTenants_of_dict (onlyLoop_softStart _ n).dict)
      · exact hbank
  unfold intoWarmup
  refine ((KeepsTenants.foldl _ (fun u m hm => hmotor u ?_ _) s).trans (KeepsTenants.foldl _ (fun u m hm => hmotor u ?_ _) _)).trans
    (KeepsTenants.foldl _ (fun u n hn => hloop u ?_) _)
  · have := List.mem_range.1 (List.mem_filter.1 hm).1
    omega
  · obtain ⟨k, hk, rfl⟩ := List.mem_map.1 hm
    have := List.mem_range.1 hk
    omega
  · have hbound : ∀ n ∈ hvLoops ++ [26, 27], n < 48 := by decide
    exact hbound n hn

theorem sayMode_keepsTenants (s : State) (ports : List Nat) : KeepsTenants s (sayMode s ports) := by
  unfold sayMode modeFrames
  split
  · exact .refl s
  · exact KeepsTenants.foldl _ (fun u p _ => (putFrame_frameIn u p _).keepsTenants) s

theorem holdUnlit_keepsTenants (s : State) : KeepsTenants s (holdUnlit s) := by
  have hlost (u : State) (k : Nat) (hk : k < 18) : KeepsTenants u (phaseLost u k) := by
    unfold phaseLost
    split
    · have hstate : KeepsTenants u (setMotorState u k 4) := keepsTenants_put u _ (by unfold keyOf motIdx; omega)
      have hmotor (v : State) (f : Motor → Motor) : KeepsTenants v (setMotor v k f) := keepsTenants_of_dict rfl
      have hentry (v : State) : KeepsTenants v (logEvent v clsWarn 0x0B k (motIdx k) 0x30) := (log_sameButLog v clsWarn 1 0x0B k (motIdx k) 0x30 none _).keepsTenants
      exact hstate.trans ((hmotor _ _).trans (hentry _))
    · exact .refl u
  have hset (u : State) (k : Nat) (f : Tracker → Tracker) : KeepsTenants u (setTracker u k f) := keepsTenants_of_dict rfl
  have hoff (u : State) (k : Nat) (hk : k < 18) : KeepsTenants u (holdOff u k) := by
    unfold holdOff
    exact (hlost u k hk).trans (hset _ _ _)
  refine KeepsTenants.foldl _ (fun u k hk => ?_) s
  split
  · exact .refl u
  · exact hoff u k (List.mem_range.1 hk)

theorem settlePending_keepsTenants (s : State) : KeepsTenants s (settlePending s) := by
  unfold settlePending
  split
  · exact .refl s
  · split
    · exact keepsTenants_of_dict rfl
    · split
      · exact .refl s
      · split
        · exact .refl s
        · have hmd : KeepsTenants s { s with md := { s.md with pending := none } } := keepsTenants_of_dict rfl
          exact hmd.trans (log_sameButLog _ _ _ _ _ _ _ _ _).keepsTenants

/-- The entry to WARMUP leaves sheets and tenants. -/
theorem enterWarmup_keeps (s : State) (c : Nat) : KeepsTenants s (enterMode s .warmup c) ∧ (enterMode s .warmup c).sheets = s.sheets := by
  have hmode : (recordMode s .warmup c).md.mode = .warmup := by rw [(modeView_eq_iff.1 (recordMode_modeView s .warmup c)).1]
  have hactions (old : Mode) : modeActions (recordMode s .warmup c) old = intoWarmup (recordMode s .warmup c) := by simp [modeActions, hmode]
  have hrecorded : KeepsTenants s (modeRecorded s .warmup c) := by
    have hmd : KeepsTenants s { s with md := { s.md with mode := .warmup, previous := s.md.mode, dozing := false, waking := false },
                                       diag := if s.md.mode = .service then { s.diag with injecting := false } else s.diag } := keepsTenants_of_dict rfl
    exact (hmd.trans (keepsTenants_put _ _ (by decide))).trans (keepsTenants_put _ _ (by decide))
  have hrecord := hrecorded.trans (recordMode_sameButLog s .warmup c).keepsTenants
  unfold enterMode
  dsimp only
  rw [hactions]
  refine ⟨?_, by simp⟩
  exact hrecord.trans ((intoWarmup_keepsTenants _).trans ((sayMode_keepsTenants _ _).trans ((holdUnlit_keepsTenants _).trans (settlePending_keepsTenants _))))

/-! ## Completions and the buffer head (R268 to R270) -/

theorem oneTenant_deliver (s : State) (t : Nat) (h : Held) : OneTenant t s (deliver s t h) := by
  unfold deliver
  split
  · dsimp only
    split
    · exact oneTenant_of_eq rfl rfl rfl
    · exact .refl t s
  · split
    · exact oneTenant_setTenant s t fun _ => ⟨rfl, rfl⟩
    · exact oneTenant_writeSignal s t h

theorem oneTenant_completion (s : State) (sh : Sheet) (o reason : Nat) (double : Bool) : OneTenant sh.tenant s (completion s sh o reason double) := by
  unfold completion countOutcome
  dsimp only
  split
  · exact (oneTenant_deliver s _ _).trans (oneTenant_of_eq rfl rfl rfl)
  · exact oneTenant_deliver s _ _

/-- An entry that the ring can take is written at the completion tail. -/
theorem deliver_writes {s : State} {t : Nat} (h : Held) (hen : (tenant s t).state = .enabled) (hheld : (tenant s t).heldDone = []) (hfree : mustHold s t = false) :
    Output.hostWrite t (get s (0x5000 + t) 6 + 32 * (tenant s t).compTail) (withPhase h.bytes (tenant s t).phase) ∈ (deliver s t h).out := by
  have hentry : Output.hostWrite t (get s (0x5000 + t) 6 + 32 * (tenant s t).compTail) (withPhase h.bytes (tenant s t).phase) ∈ (writeEntry s t h.bytes).out :=
    List.mem_cons_self
  have hsignal (u : State) : KeepsSent u (signalEntry u t) := by
    unfold signalEntry
    dsimp only
    split
    · exact (keepsSent_of_eq (t := { setTenant u t (fun x => { x with unsignalled := 0 }) with coalescing := u.coalescing.erase t }) rfl).trans (keepsSent_vector _ _ _)
    · exact keepsSent_of_eq rfl
  unfold deliver
  rw [hen, hheld, hfree, if_neg (by decide), if_neg (by decide)]
  unfold writeSignal
  dsimp only
  split
  · exact hsignal _ _ hentry
  · exact hentry

/-- A completion that can be written shows its outcome and its reason. -/
theorem completion_writes {s : State} {sh : Sheet} (o reason : Nat) (hen : (tenant s sh.tenant).state = .enabled) (hheld : (tenant s sh.tenant).heldDone = [])
    (hfree : mustHold s sh.tenant = false) : ∃ l, Output.hostWrite sh.tenant (get s (0x5000 + sh.tenant) 6 + 32 * (tenant s sh.tenant).compTail) l ∈
      (completion s sh o reason false).out ∧ l.getD 8 0 = BitVec.ofNat 8 o ∧ l.getD 9 0 = BitVec.ofNat 8 reason := by
  have hbytes (flags : Nat) (phase : Bool) : (withPhase (completionBytes s sh o reason flags) phase).getD 8 0 = BitVec.ofNat 8 o ∧
      (withPhase (completionBytes s sh o reason flags) phase).getD 9 0 = BitVec.ofNat 8 reason := by cases phase <;> exact ⟨rfl, rfl⟩
  unfold completion countOutcome
  dsimp only
  refine ⟨withPhase (completionBytes s sh o reason (completionFlags s sh o false ((tenant s sh.tenant).state != .enabled))) (tenant s sh.tenant).phase, ?_, hbytes _ _⟩
  split
  · exact deliver_writes _ hen hheld hfree
  · exact deliver_writes _ hen hheld hfree

/-- The buffer head moves: what the tenant waits for, and vectors. -/
structure BufMoved (t : Nat) (s u : State) : Prop where
  one : OneTenant t s u
  rest : u = { s with tenants := u.tenants, out := u.out }
  sent : KeepsSent s u

theorem moveBufHead_moves (s : State) (t : Nat) : BufMoved t s (moveBufHead s t) := by
  have hset (f : Tenant → Tenant) (hf : ∀ x, (f x).busMaster = x.busMaster ∧ (f x).outstanding = x.outstanding) : BufMoved t s (setTenant s t f) :=
    ⟨oneTenant_setTenant s t hf, rfl, .refl s⟩
  have hvector (u : State) (h : BufMoved t s u) : BufMoved t s (vector u (t + 1) 0) := by
    obtain ⟨l, hl⟩ := vector_only u (t + 1) 0
    refine ⟨h.one.trans (oneTenant_vector t u _ _), ?_, h.sent.trans (keepsSent_vector _ _ _)⟩
    rw [hl, h.rest]
  unfold moveBufHead
  exact foldl_keeps (BufMoved t s) _ _ _ (fun u _ _ hu => hvector u hu) (hset _ fun _ => ⟨rfl, rfl⟩)

theorem BufMoved.get {t : Nat} {s u : State} (h : BufMoved t s u) (i j : Nat) : Machine.get u i j = Machine.get s i j := by rw [h.rest]; rfl

end Sys2Proof.Machine

/-! # Ingest's commands (R17, R255, R259, R263, R266, R273, R274, R278, R294) -/

namespace Sys2Proof.Machine

section Ingest

variable {t : Fin 64} {s : State}

theorem exec_descriptorFetch (t : Fin 64) (s : State) : exec (.descriptorFetch t) s =
    .next (settle (if answering s && mayFetch s t.val && burstLength s t.val != 0 then fetchBurst s t.val else s)) := by
  change execDescriptorFetch t s = _
  unfold execDescriptorFetch
  split <;> rfl
theorem exec_descriptorReceived (t : Fin 64) (bytes : List Byte) (s : State) : exec (.descriptorReceived t bytes) s =
    .next (settle (if answering s && (tenant s t.val).state == .enabled && (tenant s t.val).outstanding != 0 then takeDescriptor s t.val bytes else s)) := by
  change execDescriptorReceived t bytes s = _
  unfold execDescriptorReceived
  split <;> rfl
theorem exec_planeFetchStart (t : Fin 64) (s : State) : exec (.planeFetchStart t) s =
    .next (settle (if answering s && mayFetch s t.val then startFetch s t.val else s)) := by
  change execPlaneFetchStart t s = _
  unfold execPlaneFetchStart
  split <;> rfl

/-! ## Descriptors (R263, R266) -/

theorem fetchBurst_fetches (s : State) (t : Nat) : tenant (fetchBurst s t) t =
      { tenant s t with descHead := ((tenant s t).descHead + burstLength s t) % sheetRing s t, outstanding := (tenant s t).outstanding + burstLength s t } ∧
    (∀ j, j ≠ t → tenant (fetchBurst s t) j = tenant s j) ∧ (fetchBurst s t).out.length = s.out.length + burstLength s t ∧
    fetchBurst s t = { s with tenants := (fetchBurst s t).tenants, out := (fetchBurst s t).out } := by
  unfold fetchBurst
  dsimp only
  refine ⟨by rw [tenant_setTenant_same]; rfl, fun j hj => by rw [tenant_setTenant_other _ _ hj]; rfl, ?_, rfl⟩
  change (List.reverse _ ++ s.out).length = _
  simp only [List.length_append, List.length_reverse, List.length_map, List.length_range]
  omega

/-- The slot of the descriptor that arrives next. -/
def arrivingSlot (s : State) (t : Nat) : Nat :=
  ((tenant s t).descHead + sheetRing s t - (tenant s t).outstanding % sheetRing s t) % sheetRing s t

/-- The tenant when a descriptor has arrived. -/
def slotArrived (s : State) (t : Nat) (d : List Byte) (y : Tenant) : Tenant :=
  { y with outstanding := y.outstanding - 1, cancelSlots := y.cancelSlots.filter (· != arrivingSlot s t),
           bufWait := if (sheetFrom s.nextUid t (arrivingSlot s t) d).flags.testBit 1 then y.bufWait ++ [arrivingSlot s t] else y.bufWait }

/-- The state in which a descriptor has arrived, before its checks. -/
def descriptorTaken (s : State) (t : Nat) (d : List Byte) : State :=
  let u := setTenant s t (slotArrived s t d)
  bump { u with nextUid := u.nextUid + 1 } (tenIdx t) 0x15

theorem takeDescriptor_eq {t : Nat} (h : arrivingSlot s t ∉ (tenant s t).cancelSlots) (d : List Byte) : takeDescriptor s t d =
    let u := descriptorTaken s t d
    let sh := sheetFrom s.nextUid t (arrivingSlot s t) d
    moveBufHead (if rejection u sh d ≠ 0 then completion u sh 4 (rejection u sh d) false else { u with sheets := u.sheets ++ [sh] }) t := by
  have hno : (tenant s t).cancelSlots.contains (arrivingSlot s t) = false := by simpa using h
  unfold takeDescriptor
  dsimp only
  rw [show ((tenant s t).descHead + sheetRing s t - (tenant s t).outstanding % sheetRing s t) % sheetRing s t = arrivingSlot s t from rfl, hno,
    if_neg Bool.false_ne_true]
  rfl

/-- What the arrival of a descriptor changes. -/
structure DescriptorArrived (t : Nat) (s u : State) : Prop where
  tenants : ∃ f : Tenant → Tenant, tenant u t = f (tenant s t) ∧ ∀ x, (f x).outstanding = x.outstanding - 1 ∧ (f x).state = x.state ∧ (f x).heldDone = x.heldDone ∧
    (f x).compTail = x.compTail ∧ (f x).compHead = x.compHead ∧ (f x).busMaster = x.busMaster
  others : ∀ j, j ≠ t → tenant u j = tenant s j
  count : get u (tenIdx t) 0x15 = (get s (tenIdx t) 0x15 + 1) % 2 ^ 32
  keeps : KeepsObjects [keyOf (tenIdx t) 0x15] s u
  sheets : u.sheets = s.sheets
  md : u.md = s.md
  kick : u.kick = s.kick

theorem descriptorTaken_arrives (s : State) (t : Nat) (d : List Byte) : DescriptorArrived t s (descriptorTaken s t d) where
  tenants := ⟨slotArrived s t d, tenant_setTenant_same s t _, fun _ => ⟨rfl, rfl, rfl, rfl, rfl, rfl⟩⟩
  others _ hj := tenant_setTenant_other s (slotArrived s t d) hj
  count := get_put_same _ _ _ (isLogIdx_of_ge (by unfold tenIdx; omega))
  keeps := keepsObjects_put _ _ _ _ (by simp)
  sheets := rfl
  md := rfl
  kick := rfl

theorem DescriptorArrived.get {t i j : Nat} {u : State} (h : DescriptorArrived t s u) (hi : isLogIdx i = false) (hk : keyOf i j ≠ keyOf (tenIdx t) 0x15) :
    Machine.get u i j = Machine.get s i j := KeepsObjects.get h.keeps (by simpa using hk) hi

/-- The checks of a descriptor turn on nothing that its arrival changes. -/
theorem DescriptorArrived.rejection {t : Nat} {u : State} (h : DescriptorArrived t s u) (ht : t < 64) (sh : Sheet) (d : List Byte) :
    Machine.rejection u sh d = Machine.rejection s sh d := by
  have hprofile (j : Nat) : Machine.get u 0x5050 (1 + j) = Machine.get s 0x5050 (1 + j) := h.get rfl (by unfold keyOf tenIdx; omega)
  have hcount : stationCount u = stationCount s := by
    unfold stationCount strap
    rw [h.kick]
  have hpresent : present u = present s := funext fun n => by rw [present, present, hcount]
  have hunits : polderBytes u sh.tenant = polderBytes s sh.tenant := by
    unfold polderBytes
    rw [h.get (isLogIdx_of_ge (by unfold tenIdx; omega)) (by unfold keyOf tenIdx; omega)]
  have hgeo (n j : Nat) (hj : j = 6 ∨ j = 7) : Machine.get u (geoIdx n) j = Machine.get s (geoIdx n) j :=
    h.get (isLogIdx_of_ge (by unfold geoIdx; omega)) (by unfold keyOf tenIdx geoIdx; omega)
  have hdepth : rasterDepth u = rasterDepth s := funext fun n => hgeo n 7 (.inr rfl)
  have hpixels : pixelsPerLine u = pixelsPerLine s := funext fun n => hgeo n 6 (.inl rfl)
  unfold Machine.rejection
  rw [hprofile, hpresent, hunits, hdepth, hpixels]

theorem DescriptorArrived.mustHold {t : Nat} {u : State} (h : DescriptorArrived t s u) : Machine.mustHold u t = Machine.mustHold s t := by
  obtain ⟨f, hf, hkeep⟩ := h.tenants
  obtain ⟨-, -, -, htail, hhead, hbus⟩ := hkeep (tenant s t)
  have hsize : Machine.get u (0x5000 + t) 7 = Machine.get s (0x5000 + t) 7 := h.get (isLogIdx_of_ge (by omega)) (by unfold keyOf tenIdx; omega)
  simp only [Machine.mustHold, ringFull, hf, htail, hhead, hbus, hsize]

/-- A descriptor's verdict (R266): PENDING, or completed REJECTED. -/
theorem takeDescriptor_decides {t : Nat} (ht : t < 64) (hen : (tenant s t).state = .enabled) (h : arrivingSlot s t ∉ (tenant s t).cancelSlots) (d : List Byte) :
    let sh := sheetFrom s.nextUid t (arrivingSlot s t) d
    let u := takeDescriptor s t d
    (tenant u t).outstanding = (tenant s t).outstanding - 1 ∧ get u (0x5000 + t) 0x15 = (get s (0x5000 + t) 0x15 + 1) % 2 ^ 32 ∧ u.md = s.md ∧
      (∀ j, j ≠ t → tenant u j = tenant s j) ∧ (rejection s sh d = 0 → u.sheets = s.sheets ++ [sh]) ∧
      (rejection s sh d ≠ 0 → u.sheets = s.sheets ∧ ((tenant s t).heldDone = [] → mustHold s t = false →
        ∃ l, Output.hostWrite t (get s (0x5000 + t) 6 + 32 * (tenant s t).compTail) l ∈ u.out ∧ l.getD 8 0 = 4 ∧
          l.getD 9 0 = BitVec.ofNat 8 (rejection s sh d))) := by
  have harrive := descriptorTaken_arrives s t d
  intro sh u
  have heq : u = moveBufHead (if rejection (descriptorTaken s t d) sh d ≠ 0 then completion (descriptorTaken s t d) sh 4 (rejection (descriptorTaken s t d) sh d) false
      else { descriptorTaken s t d with sheets := (descriptorTaken s t d).sheets ++ [sh] }) t := takeDescriptor_eq h d
  rw [heq]
  have hten : sh.tenant = t := rfl
  clear_value u sh
  generalize descriptorTaken s t d = a at harrive ⊢
  rw [harrive.rejection ht]
  obtain ⟨f, hf, hkeep⟩ := harrive.tenants
  obtain ⟨hout, hstate, hheld, htail, -, -⟩ := hkeep (tenant s t)
  have hcount : get a (0x5000 + t) 0x15 = (get s (0x5000 + t) 0x15 + 1) % 2 ^ 32 := harrive.count
  by_cases hr : rejection s sh d = 0
  · rw [if_neg (by simp [hr])]
    have hmove := moveBufHead_moves { a with sheets := a.sheets ++ [sh] } t
    have hsheets := moveBufHead_sheets { a with sheets := a.sheets ++ [sh] } t
    generalize moveBufHead { a with sheets := a.sheets ++ [sh] } t = w at hmove hsheets ⊢
    refine ⟨hmove.one.outstanding.trans ?_, (hmove.get _ _).trans hcount, hmove.one.md.trans harrive.md, fun j hj => (hmove.one.others j hj).trans (harrive.others j hj),
      fun _ => hsheets.trans (by rw [harrive.sheets]), fun hno => absurd hr hno⟩
    change (tenant a t).outstanding = _
    rw [hf, hout]
  · rw [if_pos hr]
    have hone := oneTenant_completion a sh 4 (rejection s sh d) false
    have hop := tenantOp_completion a sh 4 (rejection s sh d) false
    have hwrite := completion_writes (s := a) (sh := sh) 4 (rejection s sh d)
    rw [hten] at hone hwrite
    generalize completion a sh 4 (rejection s sh d) false = v at hone hop hwrite ⊢
    have hmove := moveBufHead_moves v t
    have hsheets := moveBufHead_sheets v t
    generalize moveBufHead v t = w at hmove hsheets ⊢
    have hkey : keyOf (0x5000 + t) 0x15 ∉ outcomeKeys := by
      simp only [outcomeKeys, List.mem_cons, List.not_mem_nil, or_false, keyOf]
      omega
    refine ⟨hmove.one.outstanding.trans (hone.outstanding.trans (by rw [hf, hout])), (hmove.get _ _).trans ((hop.keeps _ _ (by omega) (by decide) hkey).trans hcount),
      hmove.one.md.trans (hone.md.trans harrive.md), fun j hj => (hmove.one.others j hj).trans ((hone.others j hj).trans (harrive.others j hj)), fun hno => absurd hno hr,
      fun _ => ⟨hsheets.trans (hone.sheets.trans harrive.sheets), fun hnil hfree => ?_⟩⟩
    obtain ⟨l, hl, h8, h9⟩ := hwrite (by rw [hf, hstate, hen]) (by rw [hf, hheld, hnil]) (by rw [harrive.mustHold, hfree])
    have haddr : get a (0x5000 + t) 6 = get s (0x5000 + t) 6 := harrive.get (isLogIdx_of_ge (by omega)) (by unfold keyOf tenIdx; omega)
    rw [haddr, hf, htail] at hl
    exact ⟨l, hmove.sent _ hl, h8, h9⟩

/-! ## Planes (R17, R273, R274) -/

theorem planeFetch_starts {sh : Sheet} (hans : answering s = true) (hmay : mayFetch s t.val = true) (hnext : nextFetch s t.val = some sh)
    (hspace : spaceShort s t.val = false) : Completes (.planeFetchStart t) s fun u =>
      u.sheets = s.sheets.map (fun y => if y.uid = sh.uid then { y with fetching := true } else y) ∧ u = { s with sheets := u.sheets, out := u.out } ∧
      (∀ st, st < 6 → sh.hasPlane st = true → ∀ o ∈ hostReads t.val (sh.planes.getD st {}).addr (sh.planes.getD st {}).len, o ∈ u.out) := by
  refine ⟨startFetch s t.val, by rw [exec_planeFetchStart, hans, hmay, if_pos (by rfl)], ?_⟩
  unfold startFetch
  rw [hnext]
  dsimp only
  rw [hspace, if_neg Bool.false_ne_true]
  refine ⟨rfl, rfl, fun st hst hplane o ho => List.mem_append_left _ (List.mem_reverse.2 (List.mem_flatMap.2 ⟨st, ?_, ho⟩))⟩
  exact List.mem_filter.2 ⟨List.mem_range.2 hst, hplane⟩

theorem planeFetch_waits {sh : Sheet} (hnext : nextFetch s t.val = some sh) (hspace : spaceShort s t.val = true) :
    Completes (.planeFetchStart t) s fun u => u = s := by
  refine ⟨_, exec_planeFetchStart t s, ?_⟩
  split
  · unfold startFetch
    rw [hnext]
    dsimp only
    rw [if_pos hspace]
  · rfl

theorem planeRead_takes {ring unit : Nat} {st : Fin 6} {sh : Sheet} (hans : answering s = true) (hen : (tenant s t.val).state = .enabled)
    (hsh : planeSheet s t.val ring st.val = some sh) (data : List Byte) (reads : List BeatRead) : exec (.planeReadCompletion t ring st unit ⟨data, reads⟩) s =
      .next (settle (if unit ∈ (tenant s t.val).units then (if (dramReads (.ingest t) reads s).2 then takePlane (dramReads (.ingest t) reads s).1 sh st.val data
        else (dramReads (.ingest t) reads s).1) else fenceViolation s t.val)) := by
  change execPlaneReadCompletion t ring st unit ⟨data, reads⟩ s = _
  unfold execPlaneReadCompletion
  rw [hans, hen, if_pos (by rfl), hsh]
  dsimp only
  by_cases hu : unit ∈ (tenant s t.val).units
  · rw [if_neg (by simp [hu]), if_pos hu]
    split <;> rfl
  · rw [if_pos (by simp [hu]), if_neg hu]
    rfl

/-- Whether a plane is a sheet's last. -/
def lastPlane (sh : Sheet) (n : Nat) : Bool := (List.range 6).all fun j => !sh.hasPlane j || j == n || tabHas sh.data j

theorem lastPlane_allHere (sh : Sheet) (n : Nat) (data : List Byte) : ({ sh with data := tabSet sh.data n data } : Sheet).allHere = lastPlane sh n := by
  have hhas (j : Nat) : tabHas (tabSet sh.data n data) j = (j == n || tabHas sh.data j) := by
    unfold tabHas
    rw [tabFind_tabSet]
    by_cases h : j = n <;> simp [h]
  unfold Sheet.allHere Sheet.stations lastPlane
  rw [List.all_filter]
  refine congrArg (List.all _) (funext fun j => ?_)
  rw [hhas, ← Bool.or_assoc]
  rfl

/-- The state with a plane in the polder. -/
def planeLaid (s : State) (sh : Sheet) (n : Nat) (data : List Byte) : State :=
  wrapBy 64 (modSheet s sh.uid fun x => { x with data := tabSet x.data n data }) (tenIdx sh.tenant) 0x16 data.length

theorem takePlane_eq (s : State) (sh : Sheet) (n : Nat) (data : List Byte) : takePlane s sh n data =
    if lastPlane sh n then becomeResident (planeLaid s sh n data) sh.uid else planeLaid s sh n data := by
  rw [takePlane, lastPlane_allHere]
  rfl

/-- A sheet whose planes have all come is RESIDENT; in STANDBY the press warms up (R44). -/
theorem becomeResident_makes {s : State} {sh : Sheet} (hmem : sh ∈ s.sheets) : let u := becomeResident s sh.uid
    (∃ y ∈ u.sheets, y = { sh with state := .resident }) ∧ KeepsTenants s u ∧
      (s.md.mode ≠ .standby ∨ get s 0x2000 7 = 0 → u.md = s.md) ∧ (s.md.mode = .standby → get s 0x2000 7 ≠ 0 → u.md.mode = .warmup ∧ get u 0x2000 5 = 3) := by
  have hfound : ∃ x, sheetOf s sh.uid = some x := by
    cases h : sheetOf s sh.uid with
    | some x => exact ⟨x, rfl⟩
    | none => exact absurd (beq_self_eq_true sh.uid) (List.find?_eq_none.1 h sh hmem)
  obtain ⟨x, hx⟩ := hfound
  have hsheets : (modSheet s sh.uid fun x => { x with state := .resident }).sheets = s.sheets.map fun y => if y.uid = sh.uid then { y with state := .resident } else y := rfl
  have hdict : (modSheet s sh.uid fun x => { x with state := .resident }).dict = s.dict := rfl
  have hmd : (modSheet s sh.uid fun x => { x with state := .resident }).md = s.md := rfl
  have hflag : flag (modSheet s sh.uid fun x => { x with state := .resident }) 0x2000 7 = flag s 0x2000 7 := rfl
  intro u
  change (∃ y ∈ (becomeResident s sh.uid).sheets, _) ∧ KeepsTenants s (becomeResident s sh.uid) ∧ (_ → (becomeResident s sh.uid).md = _) ∧
    (_ → _ → (becomeResident s sh.uid).md.mode = _ ∧ get (becomeResident s sh.uid) _ _ = _)
  unfold becomeResident
  rw [hx]
  dsimp only
  generalize modSheet s sh.uid (fun x => { x with state := .resident }) = a at hsheets hdict hmd hflag ⊢
  have hmove := moveBufHead_moves a x.tenant
  have hbSheets : (moveBufHead a x.tenant).sheets = a.sheets := moveBufHead_sheets a x.tenant
  generalize moveBufHead a x.tenant = b at hmove hbSheets ⊢
  have hbmd : b.md = s.md := hmove.one.md.trans hmd
  have hbflag : flag b 0x2000 7 = flag s 0x2000 7 := by
    rw [← hflag, flag, flag, hmove.get]
  have hkeep : KeepsTenants s b := (keepsTenants_of_dict hdict).trans (keepsTenants_of_dict (by rw [hmove.rest]))
  have hy : ({ sh with state := .resident } : Sheet) ∈ b.sheets := by
    rw [hbSheets, hsheets]
    exact List.mem_map.2 ⟨sh, hmem, if_pos rfl⟩
  rw [hbmd, hbflag]
  by_cases hwarm : s.md.mode = .standby ∧ get s 0x2000 7 ≠ 0
  · obtain ⟨hmode, hset⟩ := hwarm
    rw [hmode, if_pos (by simp [flag, hset])]
    obtain ⟨hkept, hsame⟩ := enterWarmup_keeps b 3
    obtain ⟨hentered, -, hcause⟩ := enterMode_row b .warmup 3
    have hin : ({ sh with state := .resident } : Sheet) ∈ (enterMode b .warmup 3).sheets := by rw [hsame]; exact hy
    exact ⟨⟨_, hin, rfl⟩, hkeep.trans hkept, fun h => absurd h (by simp [hset]), fun _ _ => ⟨hentered, hcause⟩⟩
  · rw [if_neg (by simpa [flag] using hwarm)]
    exact ⟨⟨_, hy, rfl⟩, hkeep, fun _ => hbmd, fun h1 h2 => absurd ⟨h1, h2⟩ hwarm⟩

theorem mem_of_planeSheet {t ring n : Nat} {sh : Sheet} (h : planeSheet s t ring n = some sh) : sh ∈ s.sheets ∧ sh.tenant = t ∧ sh.state = .pending := by
  have hmem := List.mem_of_find?_eq_some h
  have hprop := List.find?_some h
  simp only [Bool.and_eq_true, beq_iff_eq, Sheet.isPending] at hprop
  obtain ⟨⟨⟨⟨⟨hten, -⟩, hpend⟩, -⟩, -⟩, -⟩ := hprop
  exact ⟨hmem, hten, hpend⟩

/-- A plane that has been read (R17). -/
theorem takePlane_takes {s : State} {sh : Sheet} (hmem : sh ∈ s.sheets) (hpend : sh.state = .pending) (ht : sh.tenant < 64) (n : Nat) (data : List Byte) :
    let u := takePlane s sh n data
    let last := lastPlane sh n
    (∃ y ∈ u.sheets, y.uid = sh.uid ∧ tabFind y.data n = some data ∧ y.state = (if last = true then .resident else .pending)) ∧
      get u (0x5000 + sh.tenant) 0x16 = (get s (0x5000 + sh.tenant) 0x16 + data.length) % 2 ^ 64 ∧
      (last = false ∨ s.md.mode ≠ .standby ∨ get s 0x2000 7 = 0 → u.md = s.md) ∧
      (last = true → s.md.mode = .standby → get s 0x2000 7 ≠ 0 → u.md.mode = .warmup ∧ get u 0x2000 5 = 3) := by
  have hlaid : ({ sh with data := tabSet sh.data n data } : Sheet) ∈ (planeLaid s sh n data).sheets := List.mem_map.2 ⟨sh, hmem, if_pos rfl⟩
  have hcount : get (planeLaid s sh n data) (0x5000 + sh.tenant) 0x16 = (get s (0x5000 + sh.tenant) 0x16 + data.length) % 2 ^ 64 :=
    get_put_same _ _ _ (isLogIdx_of_ge (by unfold tenIdx; omega))
  have hseven : get (planeLaid s sh n data) 0x2000 7 = get s 0x2000 7 := get_put_other _ _ (by unfold keyOf tenIdx; omega)
  have hmd : (planeLaid s sh n data).md = s.md := rfl
  have hfind : tabFind ({ sh with data := tabSet sh.data n data } : Sheet).data n = some data := tabFind_tabSet_same _ _ _
  intro u last
  change (∃ y ∈ (takePlane s sh n data).sheets, _) ∧ get (takePlane s sh n data) _ _ = _ ∧ (lastPlane sh n = false ∨ _ → (takePlane s sh n data).md = _) ∧
    (lastPlane sh n = true → _ → _ → (takePlane s sh n data).md.mode = _ ∧ get (takePlane s sh n data) _ _ = _)
  rw [takePlane_eq, show last = lastPlane sh n from rfl]
  generalize planeLaid s sh n data = a at hlaid hcount hseven hmd ⊢
  cases lastPlane sh n with
  | false =>
    rw [if_neg Bool.false_ne_true]
    exact ⟨⟨_, hlaid, rfl, hfind, hpend⟩, hcount, fun _ => hmd, fun h => absurd h Bool.false_ne_true⟩
  | true =>
    rw [if_pos rfl]
    obtain ⟨⟨y, hy, hyeq⟩, hkeep, hstay, hwarm⟩ := becomeResident_makes hlaid
    rw [hmd, hseven] at hstay hwarm
    refine ⟨⟨y, hy, by rw [hyeq], by rw [hyeq]; exact hfind, by rw [hyeq]; rfl⟩, (hkeep _ _ (by omega) (by omega) (by decide)).trans hcount, fun h => hstay ?_, fun _ => hwarm⟩
    exact h.resolve_left (by simp)

/-- An access outside the tenant's units (R274). -/
theorem fenceViolation_counts (s : State) (t : Nat) : get (fenceViolation s t) (tenIdx t) 0x19 = min (get s (tenIdx t) 0x19 + 1) 65535 := by
  have hreset := tenantReset_resets (logEvent (sat s (tenIdx t) 0x19) clsFault 5 t (tenIdx t) 0x19) t 5
  have hlog := log_sameButLog (sat s (tenIdx t) 0x19) clsFault 1 5 t (tenIdx t) 0x19 none (get (sat s (tenIdx t) 0x19) (tenIdx t) 0x19)
  have hkey : keyOf (tenIdx t) 0x19 ∉ resetKeys t := by
    simp only [resetKeys, ringKeys, outcomeKeys, List.mem_append, List.mem_cons, List.not_mem_nil, or_false, keyOf, tenIdx]
    omega
  exact (hreset.none.keeps _ _ (by unfold tenIdx; omega) (by decide) hkey).trans ((hlog.get _ (tenantIdx_plain t)).trans (get_put_same s _ _ (tenantIdx_plain t)))

/-! ## Read errors (R259, R278) -/

/-- A read error on record, its read sent again. -/
def errorServed (s : State) (n : Nat) (e : IngestError) (addr len : Nat) : State :=
  emitAll (serveBegin (vector (vector (sat (aerError s (n + 1) e) (tenIdx n) 0x17) (n + 1) 2) 0 6) .ingest n 0 5 (tenIdx n) 0x17) (hostReads n addr len)

theorem readError_serves (hans : answering s = true) {e : IngestError} {addr len : Nat} (hbusy : ingestBusy s t.val addr len = true) (fails : Bool) :
    exec (.ingestReadError t ⟨e, addr, len⟩ fails) s = .next (settle (if fails then
      tenantReset (doubleFault (errorServed s t.val e addr len) .ingest t.val 0 5 (tenIdx t.val) 0x17) t.val 4
      else servePass (errorServed s t.val e addr len) .ingest t.val 5 (tenIdx t.val) 0x17)) := by
  change execIngestReadError t ⟨e, addr, len⟩ fails s = _
  unfold execIngestReadError
  rw [hans, hbusy, if_pos (by rfl)]
  cases fails <;> rfl

/-- What a read error shows before its repeat. -/
structure ErrorShown (n : Nat) (e : IngestError) (addr len : Nat) (s u : State) : Prop where
  count : get u (tenIdx n) 0x17 = min (get s (tenIdx n) 0x17 + 1) 65535
  quiet : aerBit e = none → tenant u n = tenant s n
  aer : ∀ b, aerBit e = some b → tenant u n = { tenant s n with aer := setBit (tenant s n).aer b }
  others : ∀ j, j ≠ n → tenant u j = tenant s j
  sent : ∀ o ∈ hostReads n addr len, o ∈ u.out
  sheets : u.sheets = s.sheets
  md : u.md = s.md

theorem aerError_shows (s : State) (n : Nat) (e : IngestError) : let u := aerError s (n + 1) e
    (aerBit e = none → tenant u n = tenant s n) ∧ (∀ b, aerBit e = some b → tenant u n = { tenant s n with aer := setBit (tenant s n).aer b }) ∧
      (∀ j, j ≠ n → tenant u j = tenant s j) ∧ u.dict = s.dict ∧ u.sheets = s.sheets ∧ u.md = s.md := by
  have hkey : functionKey (n + 1) = n := by simp [functionKey]
  unfold aerError
  cases h : aerBit e with
  | none => exact ⟨fun _ => rfl, fun b hb => absurd hb (by simp), fun _ _ => rfl, rfl, rfl, rfl⟩
  | some b =>
    dsimp only
    rw [hkey]
    refine ⟨fun hno => absurd hno (by simp), fun c hc => ?_, fun j hj => tenant_setTenant_other s (fun x => { x with aer := setBit x.aer b }) hj, rfl, rfl, rfl⟩
    rw [← Option.some.inj hc]
    exact tenant_setTenant_same s n fun x => { x with aer := setBit x.aer b }

theorem errorServed_shows (s : State) (n : Nat) (e : IngestError) (addr len : Nat) : ErrorShown n e addr len s (errorServed s n e addr len) := by
  obtain ⟨hquiet, haer, hothers, hdict, hsheets, hmd⟩ := aerError_shows s n e
  unfold errorServed
  generalize aerError s (n + 1) e = a at hquiet haer hothers hdict hsheets hmd ⊢
  have hcount : get (sat a (tenIdx n) 0x17) (tenIdx n) 0x17 = min (get s (tenIdx n) 0x17 + 1) 65535 :=
    (get_put_same a _ _ (tenantIdx_plain n)).trans (by rw [get_congr hdict _ (tenantIdx_plain n)]; rfl)
  have hten (j : Nat) : tenant (sat a (tenIdx n) 0x17) j = tenant a j := rfl
  have hasheets : (sat a (tenIdx n) 0x17).sheets = s.sheets := hsheets
  have hamd : (sat a (tenIdx n) 0x17).md = s.md := hmd
  generalize sat a (tenIdx n) 0x17 = b at hcount hten hasheets hamd ⊢
  have hlog : SameButLog b (serveBegin (vector (vector b (n + 1) 2) 0 6) .ingest n 0 5 (tenIdx n) 0x17) :=
    ((vector_sameButLog _ _ _).trans (vector_sameButLog _ _ _)).trans (serveBegin_sameButLog _ _ _ _ _ _ _)
  generalize serveBegin (vector (vector b (n + 1) 2) 0 6) .ingest n 0 5 (tenIdx n) 0x17 = c at hlog ⊢
  have hsame (j : Nat) : tenant (emitAll c (hostReads n addr len)) j = tenant a j := by
    rw [← hten, tenant, tenant, ← hlog.tenants]
    rfl
  exact {
    count := (hlog.get _ (tenantIdx_plain n)).trans hcount
    quiet := fun h => (hsame n).trans (hquiet h)
    aer := fun v h => (hsame n).trans (haer v h)
    others := fun j hj => (hsame j).trans (hothers j hj)
    sent := fun o ho => List.mem_append_left _ (List.mem_reverse.2 ho)
    sheets := hlog.sheets.trans hasheets
    md := hlog.md.trans hamd }

theorem ErrorShown.log {n : Nat} {e : IngestError} {addr len : Nat} {u w : State} (h : ErrorShown n e addr len s u) (hlog : SameButLog u w) (hsent : KeepsSent u w) :
    ErrorShown n e addr len s w :=
  have hten (j : Nat) : tenant w j = tenant u j := by rw [tenant, tenant, hlog.tenants]
  { count := (hlog.get _ (tenantIdx_plain n)).trans h.count
    quiet := fun hq => (hten n).trans (h.quiet hq)
    aer := fun v hv => (hten n).trans (h.aer v hv)
    others := fun j hj => (hten j).trans (h.others j hj)
    sent := fun o ho => hsent o (h.sent o ho)
    sheets := hlog.sheets.trans h.sheets
    md := hlog.md.trans h.md }

end Ingest

/-- Settles O34: descriptors and planes as they arrive, and what their errors reset. -/
theorem ingestWorks : Obligations.IngestWorks := by
  unfold Obligations.IngestWorks
  intro t s hans x n k others
  refine ⟨fun hmay hk => ⟨_, by rw [exec_descriptorFetch, hans, hmay, if_pos (by simpa using hk)], fetchBurst_fetches s t.val⟩, fun bytes => ?_,
    fun sh hmay hnext => ⟨planeFetch_starts hans hmay hnext, planeFetch_waits hnext⟩, fun ring unit st data reads sh hen hsh => ?_, fun e addr len hbusy => ⟨?_, ?_⟩⟩
  · intro ring sh hen hout hin
    refine ⟨_, by rw [exec_descriptorReceived, hans, hen, if_pos (by simpa using hout)], takeDescriptor_decides t.isLt hen hin bytes⟩
  · have hexec := planeRead_takes (unit := unit) hans hen hsh data reads
    obtain ⟨hmem, hten, hpend⟩ := mem_of_planeSheet hsh
    refine ⟨fun hu hq => ?_, fun hu hq => ?_, fun hu => ?_⟩
    · rw [if_pos hu, if_pos hq] at hexec
      have hread := dramReads_used hq
      obtain ⟨hsheet, hcount, hstay, hwarm⟩ := takePlane_takes (s := (dramReads (.ingest t) reads s).1) (by rw [hread.1]; exact hmem) hpend (by omega) st.val data
      have hlow {i j : Nat} (hi : isLogIdx i = false) (hk : keyOf i j ∉ beatKeys) : get (dramReads (.ingest t) reads s).1 i j = get s i j := KeepsObjects.get hread.2 hk hi
      rw [hten, hlow (isLogIdx_of_ge (by omega)) (by simp only [beatKeys, List.mem_cons, List.not_mem_nil, or_false, keyOf]; omega)] at hcount
      rw [hlow rfl (by decide), show (dramReads (.ingest t) reads s).1.md = s.md by rw [hread.1]] at hstay hwarm
      exact ⟨_, hexec, hsheet, hcount, hstay, hwarm⟩
    · rw [if_pos hu, if_neg (by rw [hq]; exact Bool.false_ne_true)] at hexec
      obtain ⟨a, b, -, -, heq⟩ := dramReads_failed hq
      have hreset := tenantReset_resets (doubleFaultAs clsFault (sat (put a 0x2310 4 b.addr) 0x2310 3) .dramRead (readerInst (.ingest t)) (readerCode (.ingest t)) 6 0x2310 4)
        t.val 4
      rw [heq] at hexec
      exact ⟨_, hexec, hreset.left, hreset.cause⟩
    · rw [if_neg hu] at hexec
      obtain ⟨hleft, hcause, hmd⟩ := fenceViolation_resets s t.val
      exact ⟨_, hexec, hleft, hcause, fenceViolation_counts s t.val, hmd⟩
  · have hexec := readError_serves hans (e := e) hbusy false
    rw [if_neg Bool.false_ne_true] at hexec
    have hshown := (errorServed_shows s t.val e addr len).log (servePass_sameButLog _ .ingest t.val 5 (tenIdx t.val) 0x17) (keepsSent_servePass _ _ _ _ _ _)
    exact ⟨_, hexec, hshown.count, serving_servePass _ _ _ _ _ _, hshown.others, hshown.quiet, hshown.aer, hshown.sent, hshown.sheets, hshown.md⟩
  · have hexec := readError_serves hans (e := e) hbusy true
    rw [if_pos rfl] at hexec
    have hshown := errorServed_shows s t.val e addr len
    have hlog := doubleFault_sameButLog (errorServed s t.val e addr len) .ingest t.val 0 5 (tenIdx t.val) 0x17
    generalize doubleFault (errorServed s t.val e addr len) .ingest t.val 0 5 (tenIdx t.val) 0x17 = a at hexec hlog
    have hreset := tenantReset_resets a t.val 4
    have hkey : keyOf (tenIdx t.val) 0x17 ∉ resetKeys t.val := by
      simp only [resetKeys, ringKeys, outcomeKeys, List.mem_append, List.mem_cons, List.not_mem_nil, or_false, keyOf, tenIdx]
      omega
    refine ⟨_, hexec, (hreset.none.keeps _ _ (by unfold tenIdx; omega) (by decide) hkey).trans ((hlog.get _ (tenantIdx_plain _)).trans hshown.count), hreset.left, hreset.cause, ?_⟩
    rw [hreset.md, hlog.md, hshown.md]

end Sys2Proof.Machine

/-! # Memory: the low objects and second serves beside a tenant's reset, and the DRAM's errors (R290, R292 to R295) -/

namespace Sys2Proof.Machine

/-! ## A tenant's reset leaves the press's own objects and adds no second serve -/

/-- The objects below the log block stay, and no second serve has begun. -/
structure PressQuiet (s t : State) : Prop where
  low : ∀ i j, i < 0x2400 → j < 256 → get t i j = get s i j
  serves : ∀ r ∈ t.log.serves, r ∈ s.log.serves

theorem isLogIdx_low {i : Nat} (h : i < 0x2400) : isLogIdx i = false := by simp [isLogIdx]; omega

theorem PressQuiet.refl (s : State) : PressQuiet s s := ⟨fun _ _ _ _ => rfl, fun _ h => h⟩

theorem PressQuiet.trans {s t u : State} (h : PressQuiet s t) (k : PressQuiet t u) : PressQuiet s u :=
  ⟨fun i j hi hj => (k.low i j hi hj).trans (h.low i j hi hj), fun r hr => h.serves r (k.serves r hr)⟩

theorem PressQuiet.ite {s a b : State} {c : Prop} [Decidable c] (ha : PressQuiet s a) (hb : PressQuiet s b) : PressQuiet s (if c then a else b) := by
  split <;> assumption

theorem pressQuiet_of_eq {s t : State} (hd : t.dict = s.dict) (hl : t.log = s.log) : PressQuiet s t :=
  ⟨fun _ j hi _ => get_congr hd j (isLogIdx_low hi), fun r hr => by rw [hl] at hr; exact hr⟩

theorem pressQuiet_put (s : State) {i j : Nat} (v : Nat) (h : 0x240000 ≤ keyOf i j) : PressQuiet s (put s i j v) :=
  ⟨fun a b ha hb => get_put_other s v (by unfold keyOf at *; omega), fun _ hr => hr⟩

theorem pressQuiet_vector (s : State) (f v : Nat) : PressQuiet s (vector s f v) := by
  obtain ⟨l, hl⟩ := vector_only s f v
  rw [hl]
  exact pressQuiet_of_eq rfl rfl

theorem pressQuiet_serveDrop (s : State) (m : Mech) (n : Nat) : PressQuiet s (serveDrop s m n) :=
  ⟨fun _ j hi _ => get_congr rfl j (isLogIdx_low hi), fun _ hr => List.mem_of_mem_filter hr⟩

theorem RasterOp.pressQuiet {ks : List Nat} {n : Nat} {s t : State} (h : RasterOp ks n s t) (hks : ∀ k ∈ ks, 0x240000 ≤ k) : PressQuiet s t :=
  ⟨fun i j hi hj => h.keeps.get (fun hin => by
    have := hks _ hin
    unfold keyOf at this
    omega) (isLogIdx_low hi), fun r hr => by rw [h.serves] at hr; exact hr⟩

theorem rasterKeys_high {n k : Nat} (h : k ∈ rasterKeys n) : 0x240000 ≤ k := by
  simp only [rasterKeys, watermark, List.mem_cons, List.not_mem_nil, or_false, keyOf, freeIdx, decIdx] at h
  omega

theorem PressQuiet.foldl {α : Type} {f : State → α → State} (hf : ∀ u x, PressQuiet u (f u x)) (l : List α) (s : State) : PressQuiet s (l.foldl f s) :=
  foldl_keeps (PressQuiet s) l f s (fun u x _ hu => hu.trans (hf u x)) (.refl s)

theorem pressQuiet_forgetRaster (s : State) (uid : Nat) : PressQuiet s (forgetRaster s uid) := by
  refine PressQuiet.foldl (fun u n => ?_) _ s
  have hdiscard : PressQuiet u (discardData u n uid) := (discardData_op u n uid).1.pressQuiet (by simp)
  unfold forgetAt
  dsimp only
  split
  · generalize discardData u n uid = t at hdiscard ⊢
    have hdrop : PressQuiet t (if ((station u n).decUid == some uid) = true then dropPlane t n 0 else t) := by
      split
      · exact (dropPlane_op t n 0).1.pressQuiet (by simp [keyOf, decIdx]; omega)
      · exact .refl t
    exact hdiscard.trans (hdrop.trans ((refill_refilled _ n).op.pressQuiet fun _ => rasterKeys_high))
  · exact .refl u

theorem pressQuiet_setTenant (s : State) (t : Nat) (f : Tenant → Tenant) : PressQuiet s (setTenant s t f) := pressQuiet_of_eq rfl rfl

theorem pressQuiet_deliver (s : State) (t : Nat) (h : Held) : PressQuiet s (deliver s t h) := by
  have hcoal (u : State) (c : List Nat) : PressQuiet u { u with coalescing := c } := pressQuiet_of_eq rfl rfl
  have hsignal (u : State) : PressQuiet u (signalEntry u t) := by
    unfold signalEntry
    dsimp only
    exact .ite (((pressQuiet_setTenant _ _ _).trans (hcoal _ _)).trans (pressQuiet_vector _ _ _)) ((pressQuiet_setTenant _ _ _).trans (hcoal _ _))
  have hwrite (l : List Byte) : PressQuiet s (writeEntry s t l) := by
    have hemit (o : Output) : PressQuiet s (emit s o) := pressQuiet_of_eq rfl rfl
    unfold writeEntry
    exact (hemit _).trans (pressQuiet_setTenant _ _ _)
  unfold deliver
  split
  · dsimp only
    split
    · exact pressQuiet_of_eq rfl rfl
    · exact .refl s
  · split
    · exact pressQuiet_setTenant _ _ _
    · unfold writeSignal
      exact .ite ((hwrite _).trans (hsignal _)) (hwrite _)

theorem pressQuiet_completion (s : State) (sh : Sheet) (o reason : Nat) (double : Bool) : PressQuiet s (completion s sh o reason double) := by
  unfold completion countOutcome
  dsimp only
  exact .ite ((pressQuiet_deliver _ _ _).trans (pressQuiet_put _ _ (by unfold keyOf; omega))) (pressQuiet_deliver _ _ _)

theorem pressQuiet_setSlots (s : State) (l : Tab Event) : PressQuiet s (setSlots s l) := by
  have hslots : PressQuiet s { s with slots := l } := pressQuiet_of_eq rfl rfl
  have hwatch := watched_watch true { s with slots := l } 0x2520 2 s.slots.length l.length
  have hquiet : PressQuiet { s with slots := l } (watch true { s with slots := l } 0x2520 2 s.slots.length l.length) :=
    (hwatch.rasterOp 0).pressQuiet (by simp [watermark, keyOf])
  exact hslots.trans hquiet

theorem pressQuiet_cancelSheet (s : State) (x : Sheet) : PressQuiet s (cancelSheet s x) := by
  have hremove (u : State) : PressQuiet u (removeSheet u x.uid) := by
    have hsheets (l : List Sheet) : PressQuiet u { u with sheets := l } := pressQuiet_of_eq rfl rfl
    unfold removeSheet dropEvents
    exact (hsheets _).trans (pressQuiet_setSlots _ _)
  have hgone := ((pressQuiet_forgetRaster s x.uid).trans (pressQuiet_completion _ x 3 0 false)).trans (hremove _)
  unfold cancelSheet
  dsimp only
  exact .ite (.refl s) (.ite (pressQuiet_of_eq rfl rfl) (.ite (hgone.trans (pressQuiet_serveDrop _ _ _)) hgone))

theorem pressQuiet_tenantReset (s : State) (t cause : Nat) : PressQuiet s (tenantReset s t cause) := by
  have hput (u : State) (j v : Nat) : PressQuiet u (put u (tenIdx t) j v) := pressQuiet_put u v (by unfold keyOf tenIdx; omega)
  have hnoted : PressQuiet s (resetNoted s t cause) := by
    have hbase : PressQuiet s (put (sat s (tenIdx t) 0x1A) (tenIdx t) 0x1B cause) := (hput s _ _).trans (hput _ _ _)
    unfold resetNoted
    exact .ite (hbase.trans (pressQuiet_vector _ _ _)) hbase
  have hghosts (u : State) : PressQuiet u (resetGhosts u t) := by
    have hsheets (v : State) (l : List Sheet) : PressQuiet v { v with sheets := l } := pressQuiet_of_eq rfl rfl
    unfold resetGhosts
    exact (pressQuiet_setTenant _ _ _).trans ((PressQuiet.foldl pressQuiet_cancelSheet _ _).trans (hsheets _ _))
  have hcomplete (u : State) : PressQuiet u (resetComplete u t) := by
    have hcoal (c : List Nat) : PressQuiet u { u with coalescing := c } := pressQuiet_of_eq rfl rfl
    have hemit (v : State) (o : Output) : PressQuiet v (emit v o) := pressQuiet_of_eq rfl rfl
    have hclear (v : State) : PressQuiet v (clearRings v t) :=
      ((((hput v 4 0).trans (hput _ 6 0)).trans (hput _ 5 256)).trans (hput _ 7 256)).trans (pressQuiet_setTenant _ _ _)
    unfold resetComplete
    exact (hcoal _).trans ((hclear _).trans ((hemit _ _).trans (pressQuiet_vector _ _ _)))
  have hcheck (u : State) : PressQuiet u (ghostCheck u t) := by
    have hmem (l : List Nat) : PressQuiet u { u with mem := { u.mem with scrub := l } } := pressQuiet_of_eq rfl rfl
    unfold ghostCheck toScrubbing
    dsimp only
    exact .ite (.ite (((hmem _).trans (pressQuiet_setTenant _ _ _)).trans (pressQuiet_vector _ _ _)) ((hmem _).trans (pressQuiet_setTenant _ _ _))) (.refl u)
  rw [tenantReset_eq]
  exact .ite (hnoted.trans (hcomplete _)) (hnoted.trans ((hghosts _).trans ((hcomplete _).trans (hcheck _))))

/-! ## A reader's beat (R292 to R294) -/

/-- No second serve of this mechanism is on record. -/
def Unserved (m : Mech) (n : Nat) (s : State) : Prop := ∀ r ∈ s.log.serves, Serve.isOf m n r = false

theorem Unserved.serving {m : Mech} {n : Nat} {s : State} (h : Unserved m n s) : Machine.serving s m n = false := by
  have hnone : serveOf s m n = none := List.find?_eq_none.2 fun r hr => by rw [h r hr]; exact Bool.false_ne_true
  unfold Machine.serving
  rw [hnone]

theorem PressQuiet.unserved {m : Mech} {n : Nat} {s t : State} (h : PressQuiet s t) (hs : Unserved m n s) : Unserved m n t := fun r hr => hs r (h.serves r hr)

theorem unserved_doubleFaultAs (cls : Nat) (s : State) (m : Mech) (n code src i j : Nat) : Unserved m n (doubleFaultAs cls s m n code src i j) := by
  have hserves : (doubleFaultAs cls s m n code src i j).log.serves = (serveDrop s m n).log.serves := congrArg ServeList.serves (log_serveList _ _ _ _ _ _ _ _ _)
  intro r hr
  rw [hserves] at hr
  simpa using (List.mem_filter.1 hr).2

/-- The error on record, before the reader's row. -/
def readDoubled (s : State) (r : DramReader) (addr : Nat) : State :=
  doubleFaultAs clsFault (sat (put s 0x2310 4 addr) 0x2310 3) .dramRead (readerInst r) (readerCode r) 6 0x2310 4

/-- What a reader's second failure shows (R294). -/
structure ReadDoubled (r : DramReader) (addr : Nat) (s u : State) : Prop where
  addr : get u 0x2310 4 = addr
  count : get u 0x2310 3 = min (get s 0x2310 3 + 1) 65535
  unserved : Unserved .dramRead (readerInst r) u
  md : u.md = s.md

theorem readDoubled_doubles (s : State) (r : DramReader) (addr : Nat) : ReadDoubled r addr s (readDoubled s r addr) := by
  have haddr : get (sat (put s 0x2310 4 addr) 0x2310 3) 0x2310 4 = addr := (get_put_other _ _ (by decide)).trans (get_put_same s _ _ rfl)
  have hcount : get (sat (put s 0x2310 4 addr) 0x2310 3) 0x2310 3 = min (get s 0x2310 3 + 1) 65535 :=
    (get_put_same _ _ _ rfl).trans (by rw [get_put_other s _ (by decide)]; rfl)
  have hlog := doubleFaultAs_sameButLog clsFault (sat (put s 0x2310 4 addr) 0x2310 3) .dramRead (readerInst r) (readerCode r) 6 0x2310 4
  exact ⟨(hlog.get 4 rfl).trans haddr, (hlog.get 3 rfl).trans hcount, unserved_doubleFaultAs _ _ _ _ _ _ _ _, hlog.md⟩

theorem ReadDoubled.quiet {r : DramReader} {addr : Nat} {s u w : State} (h : ReadDoubled r addr s u) (hquiet : PressQuiet u w) (hmd : w.md = u.md) :
    ReadDoubled r addr s w :=
  ⟨(hquiet.low _ _ (by decide) (by decide)).trans h.addr, (hquiet.low _ _ (by decide) (by decide)).trans h.count, hquiet.unserved h.unserved, hmd.trans h.md⟩

theorem planeLost_quiet (s : State) (n uid : Nat) : PressQuiet s (planeLost s n uid) := by
  have hmark (f : Sheet → Sheet) : PressQuiet s (modSheet s uid f) := pressQuiet_of_eq rfl rfl
  unfold planeLost
  exact (hmark _).trans ((planeDone_done _ n uid 5).op.pressQuiet (by simp [keyOf, decIdx]; omega))

theorem planeLost_md (s : State) (n uid : Nat) : (planeLost s n uid).md = s.md := by
  unfold planeLost
  exact (planeDone_done _ n uid 5).op.md

theorem dramDouble_ingest (s : State) (tn : Fin 64) (addr : Nat) :
    dramDouble s (.ingest tn) addr = tenantReset (readDoubled s (.ingest tn) addr) tn.val 4 := rfl

/-- The reader's row (R294), but for firmware's. -/
theorem dramDouble_doubles {s : State} {r : DramReader} (hr : r ≠ .firmware) (addr : Nat) : ReadDoubled r addr s (dramDouble s r addr) ∧
    ∀ t : Fin 64, r = .ingest t → get (dramDouble s r addr) (0x5000 + t.val) 0x1B = 4 := by
  have hdouble := readDoubled_doubles s r addr
  cases r with
  | decoder st =>
    refine ⟨?_, fun t h => nomatch h⟩
    change ReadDoubled _ addr s (match (station (readDoubled s (.decoder st) addr) st.val).decUid with
      | some uid => planeLost (readDoubled s (.decoder st) addr) st.val uid
      | none => readDoubled s (.decoder st) addr)
    split
    · exact hdouble.quiet (planeLost_quiet _ _ _) (planeLost_md _ _ _)
    · exact hdouble
  | ingest tn =>
    have hreset := tenantReset_resets (readDoubled s (.ingest tn) addr) tn.val 4
    have hquiet := pressQuiet_tenantReset (readDoubled s (.ingest tn) addr) tn.val 4
    rw [dramDouble_ingest]
    generalize readDoubled s (.ingest tn) addr = t at hdouble hreset hquiet ⊢
    generalize tenantReset t tn.val 4 = u at hreset hquiet ⊢
    exact ⟨hdouble.quiet hquiet hreset.md, fun t h => by cases h; exact hreset.cause⟩
  | patrol => exact ⟨hdouble, fun t h => nomatch h⟩
  | firmware => exact absurd rfl hr

theorem dramDouble_firmware {s : State} (h : s.md.mode ∈ operating) (addr : Nat) : Stopped7 (dramDouble s .firmware addr) := by
  have hlog := doubleFault_sameButLog (sat (put s 0x2310 4 addr) 0x2310 3) .dramRead (readerInst .firmware) 3 6 0x2310 4
  exact safestopBy_stopped (by rw [hlog.md]; exact h) _

/-- What a beat that is used shows: its correction (R293). -/
def BeatRight (s : State) (r : DramReader) (addr : Nat) (c : Ecc) (u : State) : Prop :=
  get u 0x2310 1 = (if c = .corrected then min (get s 0x2310 1 + 1) (2 ^ 32 - 1) else get s 0x2310 1) ∧
    (c = .corrected → r = .patrol → u.out.head? = some (.dramWrite addr))

theorem beatUsed_right (s : State) (r : DramReader) (addr : Nat) (c : Ecc) : BeatRight s r addr c (beatUsed s r addr c) ∧
    SameButObjects [keyOf 0x2310 1] s (beatUsed s r addr c) ∧ (beatUsed s r addr c).log = s.log := by
  have hcount : get (satBy 32 s 0x2310 1 1) 0x2310 1 = min (get s 0x2310 1 + 1) (2 ^ 32 - 1) := get_put_same s _ _ rfl
  have hput : SameButObjects [keyOf 0x2310 1] s (satBy 32 s 0x2310 1 1) := sameButObjects_put s _ (by simp)
  unfold beatUsed
  by_cases h : c = .corrected
  · rw [if_pos h, BeatRight, if_pos h]
    unfold beatCorrected
    cases r with
    | patrol => exact ⟨⟨hcount, fun _ _ => rfl⟩, sameButObjects_trans hput (sameButObjects_emit _ _), rfl⟩
    | decoder _ => exact ⟨⟨hcount, fun _ hno => nomatch hno⟩, hput, rfl⟩
    | ingest _ => exact ⟨⟨hcount, fun _ hno => nomatch hno⟩, hput, rfl⟩
    | firmware => exact ⟨⟨hcount, fun _ hno => nomatch hno⟩, hput, rfl⟩
  · rw [if_neg h, BeatRight, if_neg h]
    exact ⟨⟨rfl, fun hc => absurd hc h⟩, sameButObjects_refl _ s, rfl⟩

theorem dramRead_good {s : State} (r : DramReader) {b : BeatRead} (h : beatEcc b.first ≠ .bad) : (dramRead s r b).1 = beatUsed s r b.addr (beatEcc b.first) := by
  unfold dramRead
  dsimp only
  rw [if_pos h]

theorem dramRead_twice {s : State} (r : DramReader) {b : BeatRead} (h : beatEcc b.first = .bad) (ha : beatEcc b.again = .bad) :
    (dramRead s r b).1 = dramDouble (serveBegin s .dramRead (readerInst r) (readerCode r) 6 0x2310 2) r b.addr := by
  unfold dramRead
  dsimp only
  rw [if_neg (by simp [h]), if_neg (by simp [ha])]

/-- A beat that its second reading mends. -/
theorem dramRead_mended {s : State} (r : DramReader) {b : BeatRead} (h : beatEcc b.first = .bad) (ha : beatEcc b.again ≠ .bad) :
    BeatRight s r b.addr (beatEcc b.again) (dramRead s r b).1 ∧ get (dramRead s r b).1 0x2310 2 = min (get s 0x2310 2 + 1) 65535 ∧
      serving (dramRead s r b).1 .dramRead (readerInst r) = false ∧ SameButObjects [keyOf 0x2310 1, keyOf 0x2310 2] s (dramRead s r b).1 := by
  have hbegin := serveBegin_sameButLog s .dramRead (readerInst r) (readerCode r) 6 0x2310 2
  unfold dramRead
  dsimp only
  rw [if_neg (by simp [h]), if_pos ha]
  dsimp only
  generalize serveBegin s .dramRead (readerInst r) (readerCode r) 6 0x2310 2 = a at hbegin ⊢
  have hcount : get (sat a 0x2310 2) 0x2310 2 = min (get s 0x2310 2 + 1) 65535 := (get_put_same a _ _ rfl).trans (by rw [hbegin.get 2 rfl]; rfl)
  have hone : get (sat a 0x2310 2) 0x2310 1 = get s 0x2310 1 := (get_put_other a _ (by decide)).trans (hbegin.get 1 rfl)
  have hput : SameButObjects [keyOf 0x2310 1, keyOf 0x2310 2] s (sat a 0x2310 2) := sameButObjects_trans hbegin.sameButObjects (sameButObjects_put _ _ (by simp))
  generalize sat a 0x2310 2 = d at hcount hone hput ⊢
  have hpass := servePass_sameButLog d .dramRead (readerInst r) 6 0x2310 2
  have hserving := serving_servePass d .dramRead (readerInst r) 6 0x2310 2
  generalize servePass d .dramRead (readerInst r) 6 0x2310 2 = f at hpass hserving ⊢
  obtain ⟨⟨hright, hwrite⟩, hsame, hlog⟩ := beatUsed_right f r b.addr (beatEcc b.again)
  refine ⟨⟨by rw [hright, hpass.get 1 rfl, hone], hwrite⟩, ?_, ?_, sameButObjects_trans hput (sameButObjects_trans hpass.sameButObjects (sameButObjects_mono hsame (by simp)))⟩
  · rw [KeepsObjects.get hsame.2 (by decide) rfl, hpass.get 2 rfl, hcount]
  · rw [serving_congr (congrArg Log.serves hlog), hserving]

end Sys2Proof.Machine

/-! # The commands of the DRAM and the dike periods (R290, R292 to R295, R297, R300 to R302) -/

namespace Sys2Proof.Machine

/-! ## Mode register 4 (R297, R299) -/

/-- An event of a class that raises a notice stands at the head of the ring. -/
theorem logEvent_head {s : State} (hready : s.log.ready = true) {cls : Nat} (hcls : 1 ≤ cls) (src inst i j : Nat) :
    ∃ e, (logEvent s cls src inst i j).log.ring.head? = some e ∧ e.tells cls 1 src i j (get s i j % 2 ^ 32) := by
  obtain ⟨e, hhead, htells⟩ := logOnly_head cls 1 src inst i j none (get s i j) hready
  refine ⟨e, ?_, htells⟩
  unfold logEvent log
  dsimp only
  rw [if_pos hcls, (notice_ring_noticeQueue _ i j cls).1, hhead]

/-- The registers of mode register 4 after a read, before anything follows from them. -/
def mr4Stored (s : State) (v m : Nat) : State :=
  put (put { s with mem := { s.mem with mr4Due := false, raised := s.mem.raised && refresh s == m } } 0x2300 4 v) 0x2300 3 m

/-- What every read of mode register 4 leaves but for SAFESTOP. -/
structure Mr4Taken (v m : Nat) (s u : State) : Prop where
  value : get u 0x2300 4 = v
  multiplier : get u 0x2300 3 = m
  due : u.mem.mr4Due = false
  md : u.md = s.md
  sheets : u.sheets = s.sheets
  keeps : KeepsObjects [keyOf 0x2300 4, keyOf 0x2300 3] s u

theorem mr4Stored_taken (s : State) (v m : Nat) : Mr4Taken v m s (mr4Stored s v m) where
  value := (get_put_other _ _ (by decide)).trans (get_put_same _ _ _ rfl)
  multiplier := get_put_same _ _ _ rfl
  due := rfl
  md := rfl
  sheets := rfl
  keeps := keepsObjects_put_put rfl _ _ _ _ _

theorem Mr4Taken.log {v m : Nat} {s t u : State} (h : Mr4Taken v m s t) (hlog : SameButLog t u) : Mr4Taken v m s u where
  value := (hlog.get 4 rfl).trans h.value
  multiplier := (hlog.get 3 rfl).trans h.multiplier
  due := (congrArg Mem.mr4Due hlog.mem).trans h.due
  md := hlog.md.trans h.md
  sheets := hlog.sheets.trans h.sheets
  keeps := keepsObjects_trans h.keeps (hlog.keepsObjects _)

theorem watchBudget_ready (old s : State) : (watchBudget old s).log.ready = s.log.ready := by
  unfold watchBudget
  split
  · exact ready_of_logState (log_logState ..)
  · rfl

theorem causeEnd_ready (s : State) (c n : Nat) : (causeEnd s c n).log.ready = s.log.ready := by
  unfold causeEnd
  split
  · dsimp only
    split
    · rfl
    · exact (ready_of_logState (log_logState ..)).trans rfl
  · rfl

/-- The capacity that follows touches nothing of this. -/
theorem capacityFrom_taken {v m : Nat} {s t : State} (old : State) (h : Mr4Taken v m s t) :
    Mr4Taken v m s (capacityFrom old t) ∧ (capacityFrom old t).log.ready = t.log.ready := by
  have hheat : Mr4Taken v m s (followHeat t) ∧ (followHeat t).log.ready = t.log.ready := by
    have hdue : (followHeat t).mem.mr4Due = t.mem.mr4Due := by unfold followHeat; split <;> rfl
    rw [followHeat_eq]
    exact ⟨⟨h.value, h.multiplier, h.due, h.md, h.sheets, h.keeps⟩, rfl⟩
  exact ⟨hheat.1.log (watchBudget_sameButLog old (followHeat t)), (watchBudget_ready old (followHeat t)).trans hheat.2⟩

theorem exec_mr4Read {s : State} (h : dramRuns s = true) (a b : Fin 8) : exec (.mr4Read a b) s =
    .next (settle (mr4Act (capacityFrom s (mr4Stored s (a.val + 8 * b.val) (mr4Refresh (mr4Code (a.val + 8 * b.val))))) (mr4Code (get s 0x2300 4))
      (mr4Code (a.val + 8 * b.val)))) := by
  simp [exec, execMr4Read, h, done, mr4Stored]

theorem mr4Code_pair (a b : Fin 8) : mr4Code (a.val + 8 * b.val) = max a.val b.val := by
  unfold mr4Code
  congr 1 <;> omega

/-- Any code but a new 111 leaves the mode, and a new 110 is a WARN. -/
theorem mr4Act_warns {v m : Nat} {s t : State} {old code : Nat} (h : Mr4Taken v m s t) (hcode : code ≠ 7 ∨ old = 7) :
    Mr4Taken v m s (mr4Act t old code) ∧ (code = 6 → old ≠ 6 → t.log.ready = true →
      ∃ e, (mr4Act t old code).log.ring.head? = some e ∧ e.tells 1 1 6 0x2300 4 (v % 2 ^ 32)) := by
  have hended : ∃ w, (if code = 7 then t else causeEnd t 9 mr4Cause) = w ∧ Mr4Taken v m s w ∧ w.log.ready = t.log.ready := by
    refine ⟨_, rfl, ?_⟩
    split
    · exact ⟨h, rfl⟩
    · exact ⟨h.log (causeEnd_sameButLog t 9 mr4Cause), causeEnd_ready t 9 mr4Cause⟩
  unfold mr4Act
  rw [if_neg (by omega)]
  dsimp only
  obtain ⟨w, hw, htaken, hready⟩ := hended
  rw [hw]
  split
  · refine ⟨htaken.log (logEvent_sameButLog w clsWarn 6 255 0x2300 4), fun _ _ hr => ?_⟩
    have hhead := logEvent_head (hready.trans hr) (show 1 ≤ clsWarn by decide) 6 255 0x2300 4
    rw [htaken.value] at hhead
    exact hhead
  next hno => exact ⟨htaken, fun h6 hold _ => absurd ⟨h6, hold⟩ hno⟩

theorem mr4Act_stops {t : State} {old code : Nat} (hcode : code = 7) (hold : old ≠ 7) (h : t.md.mode ∈ operating) :
    (mr4Act t old code).md.mode = .safestop ∧ get (mr4Act t old code) 0x2000 5 = 9 := by
  have hlog := logEvent_sameButLog t clsFault 6 255 0x2300 4
  have hstop := safestopBy_operating (show (logEvent t clsFault 6 255 0x2300 4).md.mode ∈ operating by rw [hlog.md]; exact h) 9 mr4Cause
  unfold mr4Act
  rw [if_pos ⟨hcode, hold⟩]
  exact ⟨hstop.1, hstop.2.1⟩

/-! ## Patrol scrub (R295) -/

/-- The objects that a beat's errors touch. -/
def errorKeys : List Nat := [1, 2, 3, 4].map (keyOf 0x2310)

/-- Patrol's own beats change the errors' objects alone. -/
theorem dramRead_patrol (s : State) (b : BeatRead) : SameButObjects errorKeys s (dramRead s .patrol b).1 := by
  have hbeat {t : State} (h : SameButObjects beatKeys s t) : SameButObjects errorKeys s t :=
    sameButObjects_mono h fun k hk => by
      simp only [beatKeys, List.mem_cons, List.not_mem_nil, or_false] at hk
      rcases hk with rfl | rfl <;> decide
  cases hused : (dramRead s .patrol b).2 with
  | true => exact hbeat (dramRead_used hused)
  | false =>
    obtain ⟨t, hsame, heq⟩ := dramRead_failed hused
    rw [heq]
    have haddr : SameButObjects errorKeys t (put t 0x2310 4 b.addr) := sameButObjects_put t _ (by decide)
    have hcount (u : State) : SameButObjects errorKeys u (sat u 0x2310 3) := sameButObjects_put u _ (by decide)
    have hlog (u : State) : SameButObjects errorKeys u (doubleFaultAs clsFault u .dramRead (readerInst .patrol) (readerCode .patrol) 6 0x2310 4) :=
      (doubleFaultAs_sameButLog ..).sameButObjects
    exact sameButObjects_trans (hbeat hsame) (sameButObjects_trans haddr (sameButObjects_trans (hcount _) (hlog _)))

/-- The reads of a period. -/
def patrolReads (s : State) (pool : Nat) (reads : List BeatRead) : State :=
  (reads.filter fun r => decide (64 * s.mem.patrolAt ≤ r.addr ∧
    r.addr < 64 * (s.mem.patrolAt + min (patrolDue s - s.mem.patrolAt) (patrolShare s pool)))).foldl (fun u r => (dramRead u .patrol r).1) s

theorem patrolReads_same (s : State) (pool : Nat) (reads : List BeatRead) : SameButObjects errorKeys s (patrolReads s pool reads) :=
  foldl_keeps (SameButObjects errorKeys s) _ _ s (fun u b _ hu => sameButObjects_trans hu (dramRead_patrol u b)) (sameButObjects_refl _ s)

/-- How far patrol comes in a period. -/
def patrolUpTo (s : State) (pool : Nat) : Nat := s.mem.patrolAt + min (patrolDue s - s.mem.patrolAt) (patrolShare s pool)

/-- Patrol's run beside the objects it counts in: its own place alone. -/
structure PatrolRan (pool : Nat) (s u : State) : Prop where
  goes : patrolUpTo s pool < dramBeats s → u.mem.patrolAt = patrolUpTo s pool ∧ get u 0x2310 6 = get s 0x2310 6
  wraps : dramBeats s ≤ patrolUpTo s pool → u.mem.patrolAt = 0 ∧ u.mem.patrolFrom = s.time ∧ get u 0x2310 6 = (get s 0x2310 6 + 1) % 2 ^ 32
  given : u.mem.given = s.mem.given
  only : u = { s with dict := u.dict, mem := u.mem, log := u.log, net := u.net, out := u.out }
  keeps : KeepsObjects ([1, 2, 3, 4, 6].map (keyOf 0x2310)) s u

theorem patrolRun_ran (s : State) (pool : Nat) (reads : List BeatRead) : PatrolRan pool s (patrolRun s pool reads) := by
  have hsame := patrolReads_same s pool reads
  have hrun : patrolRun s pool reads = if patrolUpTo s pool < dramBeats s then
      { patrolReads s pool reads with mem := { (patrolReads s pool reads).mem with patrolAt := patrolUpTo s pool } }
    else wrapBy 32 { patrolReads s pool reads with
      mem := { (patrolReads s pool reads).mem with patrolAt := 0, patrolFrom := (patrolReads s pool reads).time, patrolLate := false } } 0x2310 6 1 := rfl
  rw [hrun]
  generalize patrolReads s pool reads = t at hsame ⊢
  obtain ⟨hrest, hkeep⟩ := hsame
  have hpasses : get t 0x2310 6 = get s 0x2310 6 := KeepsObjects.get hkeep (by decide) rfl
  have hgiven : t.mem.given = s.mem.given := by rw [hrest]
  have htime : t.time = s.time := by rw [hrest]
  have hkeys : KeepsObjects ([1, 2, 3, 4, 6].map (keyOf 0x2310)) s t := fun k hk => hkeep k fun hin => hk (by
    simp only [errorKeys, List.map_cons, List.map_nil, List.mem_cons, List.not_mem_nil, or_false] at hin ⊢
    omega)
  split
  next hlt =>
    exact {
      goes := fun _ => ⟨rfl, hpasses⟩
      wraps := fun h => absurd hlt (by omega)
      given := hgiven
      only := by rw [hrest]
      keeps := hkeys }
  next hge =>
    exact {
      goes := fun h => absurd h hge
      wraps := fun _ => ⟨rfl, htime, (get_put_same _ _ _ rfl).trans (by rw [← hpasses]; rfl)⟩
      given := hgiven
      only := by rw [hrest]; rfl
      keeps := keepsObjects_trans hkeys (keepsObjects_put _ _ _ _ (by simp)) }

/-! ## Dike periods (R300 to R302) -/

/-- One step of the pool's distribution. -/
def poolStep (s : State) (demand : List Nat) (a : Nat × List Nat) (c : Nat) : Nat × List Nat :=
  (a.1 - beyondCredit s demand c, if a.1 < beyondCredit s demand c then a.2 ++ [c] else a.2)

/-- The clients that come short are some of those asked, each once and in their order. -/
theorem poolStep_short (s : State) (demand : List Nat) (order : List Nat) (a : Nat × List Nat) :
    ∃ l, (order.foldl (poolStep s demand) a).2 = a.2 ++ l ∧ l.Sublist order := by
  induction order generalizing a with
  | nil => exact ⟨[], (List.append_nil _).symm, .refl _⟩
  | cons c order ih =>
    obtain ⟨l, hl, hsub⟩ := ih (poolStep s demand a c)
    rw [List.foldl_cons, hl]
    unfold poolStep
    dsimp only
    split
    · exact ⟨c :: l, by rw [List.append_assoc]; rfl, hsub.cons_cons c⟩
    · exact ⟨l, rfl, hsub.cons c⟩

theorem shortClients_sublist (s : State) (demand : List Nat) : (shortClients s demand).Sublist (List.range 11) := by
  obtain ⟨l, hl, hsub⟩ := poolStep_short s demand poolOrder (tabGet 0 s.mem.credit 11, [])
  have heq : shortClients s demand = l := hl
  rw [heq]
  exact hsub

/-- The shortfalls of a period. -/
def shortCounted (l : List Nat) (s : State) : State := forEach l (fun u c => satBy 32 u 0x2320 (0x11 + c) 1) s

def shortKeys : List Nat := (List.range 11).map fun c => keyOf 0x2320 (0x11 + c)

theorem shortCounted_same {l : List Nat} (hl : ∀ c ∈ l, c < 11) (s : State) :
    SameButObjects shortKeys s (shortCounted l s) ∧ shortCounted l s = { s with dict := (shortCounted l s).dict } :=
  foldl_keeps (fun t => SameButObjects shortKeys s t ∧ t = { s with dict := t.dict }) l _ s (fun u c hc hu =>
    ⟨sameButObjects_trans hu.1 (sameButObjects_put u _ (List.mem_map.2 ⟨c, List.mem_range.2 (hl c hc), rfl⟩)), by rw [hu.2]; rfl⟩)
    ⟨sameButObjects_refl _ s, rfl⟩

theorem shortKey_inj {c d : Nat} (h : keyOf 0x2320 (0x11 + c) = keyOf 0x2320 (0x11 + d)) : c = d := by
  unfold keyOf at h
  omega

/-- Each client that came short is counted once. -/
theorem get_shortCounted {l : List Nat} (hl : ∀ c ∈ l, c < 11) (hnd : l.Nodup) (s : State) (c : Nat) :
    get (shortCounted l s) 0x2320 (0x11 + c) = if c ∈ l then min (get s 0x2320 (0x11 + c) + 1) (2 ^ 32 - 1) else get s 0x2320 (0x11 + c) := by
  induction l generalizing s with
  | nil => rfl
  | cons d l ih =>
    obtain ⟨hd, hrest⟩ := List.nodup_cons.1 hnd
    have hstep : shortCounted (d :: l) s = shortCounted l (satBy 32 s 0x2320 (0x11 + d) 1) := rfl
    rw [hstep, ih (fun x hx => hl x (List.mem_cons_of_mem d hx)) hrest]
    by_cases hcd : c = d
    · subst hcd
      rw [if_neg hd, if_pos List.mem_cons_self]
      exact get_put_same s _ _ rfl
    · have hget : get (satBy 32 s 0x2320 (0x11 + d) 1) 0x2320 (0x11 + c) = get s 0x2320 (0x11 + c) :=
        get_put_other s _ fun h => hcd (shortKey_inj h)
      rw [hget]
      simp only [List.mem_cons, hcd, false_or]

/-- A period's end before patrol runs: the shortfalls counted and ingest's beats on record. -/
def beatsGiven (s : State) (demand asks : List Nat) : State :=
  { shortCounted (shortClients s demand) s with
    mem := { (shortCounted (shortClients s demand) s).mem with given := ingestGiven s demand asks } }

theorem endPeriod_eq (s : State) (demand asks : List Nat) (reads : List BeatRead) :
    endPeriod s demand asks reads = patrolRun (beatsGiven s demand asks) (sharePool s demand poolOrder).1 reads := rfl

theorem patrolUpTo_given {s t : State} (g : Tab Nat) (pool : Nat) (h : t = { s with dict := t.dict }) (hperiod : get t 0x2310 5 = get s 0x2310 5) :
    patrolUpTo { t with mem := { t.mem with given := g } } pool = patrolUpTo s pool := by
  have hget : get { t with mem := { t.mem with given := g } } 0x2310 5 = get s 0x2310 5 := hperiod
  unfold patrolUpTo patrolDue patrolPeriod
  rw [hget, h]
  rfl

/-- What stands when a period has ended. -/
structure PeriodEnded (demand asks : List Nat) (s u : State) : Prop where
  short : ∀ c, c < 11 → get u 0x2320 (0x11 + c) =
    if c ∈ shortClients s demand then min (get s 0x2320 (0x11 + c) + 1) (2 ^ 32 - 1) else get s 0x2320 (0x11 + c)
  given : u.mem.given = ingestGiven s demand asks
  goes : patrolUpTo s (sharePool s demand poolOrder).1 < dramBeats s →
    u.mem.patrolAt = patrolUpTo s (sharePool s demand poolOrder).1 ∧ get u 0x2310 6 = get s 0x2310 6
  wraps : dramBeats s ≤ patrolUpTo s (sharePool s demand poolOrder).1 →
    u.mem.patrolAt = 0 ∧ u.mem.patrolFrom = s.time ∧ get u 0x2310 6 = (get s 0x2310 6 + 1) % 2 ^ 32
  only : u = { s with dict := u.dict, mem := u.mem, log := u.log, net := u.net, out := u.out }
  keeps : KeepsObjects (shortKeys ++ [1, 2, 3, 4, 6].map (keyOf 0x2310)) s u

theorem endPeriod_ended (s : State) (demand asks : List Nat) (reads : List BeatRead) : PeriodEnded demand asks s (endPeriod s demand asks reads) := by
  have hsub := shortClients_sublist s demand
  have hlt : ∀ c ∈ shortClients s demand, c < 11 := fun c hc => List.mem_range.1 (hsub.subset hc)
  obtain ⟨⟨-, hkeep⟩, honly⟩ := shortCounted_same hlt s
  have hcount := get_shortCounted hlt (hsub.nodup List.nodup_range) s
  have hran := patrolRun_ran (beatsGiven s demand asks) (sharePool s demand poolOrder).1 reads
  rw [endPeriod_eq]
  generalize patrolRun (beatsGiven s demand asks) (sharePool s demand poolOrder).1 reads = u at hran ⊢
  unfold beatsGiven at hran
  generalize shortCounted (shortClients s demand) s = t at hkeep honly hcount hran
  have herror (j : Nat) (hj : j < 256) : get t 0x2310 j = get s 0x2310 j := KeepsObjects.get hkeep (fun h => by
    obtain ⟨c, hc, hkey⟩ := List.mem_map.1 h
    unfold keyOf at hkey
    omega) rfl
  have hupto := patrolUpTo_given (ingestGiven s demand asks) (sharePool s demand poolOrder).1 honly (herror 5 (by decide))
  have hbeats : dramBeats { t with mem := { t.mem with given := ingestGiven s demand asks } } = dramBeats s := by rw [honly]; rfl
  have htime : t.time = s.time := by rw [honly]
  have hgoes := hran.goes
  have hwraps := hran.wraps
  rw [hupto, hbeats] at hgoes hwraps
  exact {
    short := fun c hc => (KeepsObjects.get hran.keeps (fun h => by
      obtain ⟨j, hj, hkey⟩ := List.mem_map.1 h
      simp only [List.mem_cons, List.not_mem_nil, or_false] at hj
      unfold keyOf at hkey
      omega) rfl).trans (hcount c)
    given := hran.given
    goes := fun h => ⟨(hgoes h).1, (hgoes h).2.trans (herror 6 (by decide))⟩
    wraps := fun h => ⟨(hwraps h).1, (hwraps h).2.1.trans htime, (hwraps h).2.2.trans (by rw [← herror 6 (by decide)]; rfl)⟩
    only := by rw [hran.only, honly]
    keeps := fun k hk => (hran.keeps k fun h => hk (List.mem_append_right _ h)).trans (hkeep k fun h => hk (List.mem_append_left _ h)) }

/-! ## The new period's credit (R301) -/

theorem tabGet_map_range (f : Nat → Nat) (n : Nat) (tail : Tab Nat) {c : Nat} (hc : c < n) (m : Nat) :
    tabGet 0 ((List.range' m n).map (fun c => (c, f c)) ++ tail) (m + c) = f (m + c) := by
  induction n generalizing c m with
  | zero => omega
  | succ n ih =>
    unfold tabGet at ih ⊢
    rw [List.range'_succ, List.map_cons, List.cons_append, tabFind]
    rcases Nat.eq_zero_or_pos c with rfl | hpos
    · rw [if_pos (Nat.add_zero m).symm]
      rfl
    · rw [if_neg (by omega)]
      have h := ih (c := c - 1) (by omega) (m + 1)
      rwa [show m + 1 + (c - 1) = m + c by omega] at h

theorem credit_client (s : State) {c : Nat} (hc : c < 11) : tabGet 0 (newCredit s) c = reservation s c := by
  have h := tabGet_map_range (reservation s) 11 [(11, capacity s (refresh s) - ((poolOrder.map fun c => (c, reservation s c)).map (·.2)).foldl Nat.add 0)] hc 0
  rwa [Nat.zero_add] at h

theorem credit_pool (s : State) :
    tabGet 0 (newCredit s) 11 = capacity s (refresh s) - ((List.range 11).map (reservation s)).foldl Nat.add 0 := rfl

/-- A state with the credits of a new period. -/
def credited (s : State) : State := { s with mem := { s.mem with credit := newCredit s } }

theorem reservation_credited (s : State) : reservation (credited s) = reservation s := rfl

theorem capacity_credited (s : State) : capacity (credited s) (refresh (credited s)) = capacity s (refresh s) := rfl

/-- Every client has its reservation and the pool the rest. -/
structure Shared (u : State) : Prop where
  client : ∀ c, c < 11 → tabGet 0 u.mem.credit c = reservation u c
  pool : tabGet 0 u.mem.credit 11 = capacity u (refresh u) - ((List.range 11).map (reservation u)).foldl Nat.add 0

theorem credited_shared (s : State) : Shared (credited s) where
  client c hc := by
    rw [reservation_credited]
    exact credit_client s hc
  pool := by
    rw [reservation_credited, capacity_credited]
    exact credit_pool s

theorem exec_dikePeriod {s : State} (h : dramRuns s = true) (demand asks : List Nat) (reads : List BeatRead) {t : State}
    (ht : (if s.mem.credit.isEmpty then s else endPeriod s demand asks reads) = t) :
    exec (.dikePeriod ⟨demand, asks, reads⟩) s = .next (settle (credited t)) := by
  subst ht
  simp [exec, execDikePeriod, h, done, credited]

/-! ## The obligation -/

theorem exec_dramStill {s : State} (h : dramRuns s = false) : (∀ a b, exec (.mr4Read a b) s = .next (settle s)) ∧
    (∀ r a e, exec (.dramUncorrectableRead r a e) s = .next (settle s)) ∧ exec .patrolOverdue s = .next (settle s) ∧
    ∀ w, exec (.dikePeriod w) s = .next (settle s) := by
  refine ⟨fun _ _ => ?_, fun _ _ _ => ?_, ?_, fun _ => ?_⟩
  · simp [exec, execMr4Read, h, done]
  · simp [exec, execDramUncorrectableRead, h, done]
  · simp [exec, execPatrolOverdue, h, done]
  · simp [exec, execDikePeriod, h, done]

theorem exec_dramRead {s : State} (h : dramRuns s = true) (r : DramReader) (a : Nat) (e : BeatErrors × BeatErrors) :
    exec (.dramUncorrectableRead r a e) s = .next (settle (dramRead s r { addr := a, first := e.1, again := e.2 }).1) := by
  simp [exec, execDramUncorrectableRead, h, done]

theorem exec_patrolKept {s : State} (h : s.mem.patrolLate = true ∨ s.time - s.mem.patrolFrom < 2 * patrolPeriod s) :
    exec .patrolOverdue s = .next (settle s) := by
  have hno : (dramRuns s && !s.mem.patrolLate && decide (2 * patrolPeriod s ≤ s.time - s.mem.patrolFrom)) = false := by
    rcases h with h | h
    · rw [h, Bool.not_true, Bool.and_false, Bool.false_and]
    · rw [decide_eq_false (by omega), Bool.and_false]
  simp [exec, execPatrolOverdue, hno, done]

/-- The pass is late, and said to be. -/
def patrolWarned (s : State) : State := logEvent { s with mem := { s.mem with patrolLate := true } } clsWarn 6 255 0x2310 7

theorem patrolWarned_warns (s : State) : SameButLog { s with mem := { s.mem with patrolLate := true } } (patrolWarned s) ∧ (s.log.ready = true →
    ∃ e, (patrolWarned s).log.ring.head? = some e ∧ e.tells 1 1 6 0x2310 7 (get s 0x2310 7 % 2 ^ 32)) := by
  refine ⟨logEvent_sameButLog _ _ _ _ _ _, fun hready => ?_⟩
  have hget : get { s with mem := { s.mem with patrolLate := true } } 0x2310 7 = get s 0x2310 7 := get_congr rfl 7 rfl
  obtain ⟨e, hhead, htells⟩ := logEvent_head (s := { s with mem := { s.mem with patrolLate := true } }) hready (cls := clsWarn) (by decide) 6 255 0x2310 7
  rw [hget] at htells
  exact ⟨e, hhead, htells⟩

theorem exec_patrolLate {s : State} (hruns : dramRuns s = true) (hlate : s.mem.patrolLate = false)
    (h : 2 * patrolPeriod s ≤ s.time - s.mem.patrolFrom) :
    exec .patrolOverdue s = .next (settle (patrolWarned s)) := by
  simp [exec, execPatrolOverdue, hruns, hlate, h, done, patrolWarned]

/-- Settles O36: the registers of mode register 4 and the heat that follows are stored before the code acts, which a WARN's entry leaves alone; a beat's
reading and its reader's row are the lemmas of the DRAM's errors; a period counts each client that came short once, patrol's beats change the errors'
objects alone, and the credits are a function of what a new credit leaves. -/
theorem memoryServed : Obligations.MemoryServed := by
  unfold Obligations.MemoryServed
  intro s
  refine ⟨fun hstill => ?_, fun hruns => ⟨fun a b => ?_, fun r e => ⟨fun hfirst => ?_, fun hfirst => ?_, fun hfirst hagain => ?_,
    fun hfirst hagain hr => ?_, fun hfirst hagain hr hop => ?_⟩, fun hkept => ⟨s, exec_patrolKept hkept, rfl⟩, fun hlate hover => ?_, fun demand asks reads => ?_⟩⟩
  · obtain ⟨hmr4, hread, hpatrol, hdike⟩ := exec_dramStill hstill
    exact ⟨fun a b => ⟨s, hmr4 a b, rfl⟩, fun r a e => ⟨s, hread r a e, rfl⟩, ⟨s, hpatrol, rfl⟩, fun demand asks reads => ⟨s, hdike _, rfl⟩⟩
  · have hexec := exec_mr4Read hruns a b
    rw [mr4Code_pair] at hexec
    obtain ⟨htaken, hready⟩ := capacityFrom_taken s (mr4Stored_taken s (a.val + 8 * b.val) (mr4Refresh (max a.val b.val)))
    refine ⟨fun hcode => ⟨_, hexec, ?_⟩, fun hcode hold hop => ⟨_, hexec, mr4Act_stops hcode hold (by rw [htaken.md]; exact hop)⟩⟩
    obtain ⟨hdone, hwarn⟩ := mr4Act_warns htaken hcode
    rw [Nat.mod_eq_of_lt (show a.val + 8 * b.val < 2 ^ 32 by omega)] at hwarn
    exact ⟨hdone.value, hdone.multiplier, hdone.due, hdone.md, hdone.sheets, hdone.keeps, fun h6 hold hr => hwarn h6 hold (hready.trans hr)⟩
  · refine ⟨_, exec_dramRead hruns r e.addr _, ?_⟩
    rw [dramRead_good r (by rw [hfirst]; decide), hfirst]
    rfl
  · refine ⟨_, exec_dramRead hruns r e.addr _, ?_⟩
    rw [dramRead_good r (by rw [hfirst]; decide), hfirst]
    obtain ⟨hright, hsame, -⟩ := beatUsed_right s r e.addr .corrected
    exact ⟨hright, hsame⟩
  · exact ⟨_, exec_dramRead hruns r e.addr _, dramRead_mended r hfirst hagain⟩
  · refine ⟨_, exec_dramRead hruns r e.addr _, ?_⟩
    rw [dramRead_twice r hfirst hagain]
    have hbegin := serveBegin_sameButLog s .dramRead (readerInst r) (readerCode r) 6 0x2310 2
    obtain ⟨hdouble, hcause⟩ := dramDouble_doubles hr (s := serveBegin s .dramRead (readerInst r) (readerCode r) 6 0x2310 2) e.addr
    exact ⟨hdouble.addr, hdouble.count.trans (by rw [hbegin.get 3 rfl]), hdouble.unserved.serving, hdouble.md.trans hbegin.md, hcause⟩
  · refine ⟨_, exec_dramRead hruns r e.addr _, ?_⟩
    rw [dramRead_twice r hfirst hagain]
    have hbegin := serveBegin_sameButLog s .dramRead (readerInst r) (readerCode r) 6 0x2310 2
    subst hr
    exact dramDouble_firmware (by rw [hbegin.md]; exact hop) e.addr
  · exact ⟨_, exec_patrolLate hruns hlate hover, patrolWarned_warns s⟩
  · cases hcredit : s.mem.credit with
    | nil =>
      refine ⟨_, exec_dikePeriod hruns demand asks reads (if_pos (by rw [hcredit]; rfl)), ?_⟩
      have hshared := credited_shared s
      beta_reduce
      intro pool upTo
      exact ⟨hshared.client, hshared.pool, fun c _ => (if_neg fun h => h.1 rfl).symm, fun h => absurd rfl h, fun _ _ => rfl, rfl⟩
    | cons x l =>
      refine ⟨_, exec_dikePeriod hruns demand asks reads (if_neg (by rw [hcredit]; exact Bool.false_ne_true)), ?_⟩
      have hended := endPeriod_ended s demand asks reads
      have hshared := credited_shared (endPeriod s demand asks reads)
      generalize endPeriod s demand asks reads = t at hended hshared ⊢
      beta_reduce
      intro pool upTo
      exact ⟨hshared.client, hshared.pool, fun c hc => (hended.short c hc).trans (by simp only [ne_eq, reduceCtorEq, not_false_eq_true, true_and]),
        fun _ => ⟨hended.given, hended.goes, hended.wraps⟩, hended.keeps, by rw [credited, hended.only]⟩

end Sys2Proof.Machine

/-! # The admission pass (R18, R277, R303 to R310) -/

namespace Sys2Proof.Machine

/-- Nothing but the tenants differs. -/
def OnlyTenants (s t : State) : Prop := t = { s with tenants := t.tenants }

theorem onlyTenants_setTenant {s t : State} (n : Nat) (f : Tenant → Tenant) (h : OnlyTenants s t) : OnlyTenants s (setTenant t n f) := by
  unfold OnlyTenants at h ⊢
  rw [h]
  rfl

theorem refreshCandidates_only (s : State) : OnlyTenants s (refreshCandidates s) := by
  refine foldl_keeps (OnlyTenants s) _ _ s (fun u n _ hu => ?_) rfl
  split
  · split
    · exact hu
    · exact onlyTenants_setTenant n _ hu
  · split
    · exact onlyTenants_setTenant n _ hu
    · exact hu

theorem advanceV_only (s : State) (t lines : Nat) : OnlyTenants s (advanceV s t lines) := by
  have hown (f : Tenant → Tenant) : OnlyTenants s (setTenant s t f) := onlyTenants_setTenant t f rfl
  unfold advanceV
  dsimp only
  split
  · exact foldl_keeps (OnlyTenants s) _ _ _ (fun u n _ hu => onlyTenants_setTenant n _ hu) (hown _)
  · exact hown _

/-! ## A pass that fails (R310) -/

/-- What a failed pass shows. -/
structure PassFailed (reason : Nat) (s u : State) : Prop where
  passes : get u 0x2300 0x13 = (get s 0x2300 0x13 + 1) % 2 ^ 32
  failures : get u 0x2300 0x14 = (get s 0x2300 0x14 + 1) % 2 ^ 32
  reason : get u 0x2300 0x16 = reason
  sheets : u.sheets = s.sheets
  slots : u.slots = s.slots
  md : u.md = s.md
  keeps : KeepsObjects [keyOf 0x2300 0x13, keyOf 0x2300 0x14, keyOf 0x2300 0x16] s u

theorem admissionFail_fails (s : State) (reason : Nat) : PassFailed reason s (admissionFail (bump s 0x2300 0x13) reason) where
  passes := (get_put_other _ _ (by decide)).trans ((get_put_other _ _ (by decide)).trans (get_put_same s _ _ rfl))
  failures := (get_put_other _ _ (by decide)).trans ((get_put_same _ _ _ rfl).trans (by rw [show get (bump s 0x2300 0x13) 0x2300 0x14 =
    get s 0x2300 0x14 from get_put_other s _ (by decide)]))
  reason := get_put_same _ _ _ rfl
  sheets := rfl
  slots := rfl
  md := rfl
  keeps := by
    have hput (u : State) (j v : Nat) (hj : keyOf 0x2300 j ∈ [keyOf 0x2300 0x13, keyOf 0x2300 0x14, keyOf 0x2300 0x16]) :
        KeepsObjects [keyOf 0x2300 0x13, keyOf 0x2300 0x14, keyOf 0x2300 0x16] u (put u 0x2300 j v) := keepsObjects_put u _ _ _ hj
    exact keepsObjects_trans (hput s _ _ (by decide)) (keepsObjects_trans (hput _ _ _ (by decide)) (hput _ _ _ (by decide)))

theorem PassFailed.of_tenants {reason : Nat} {s t u : State} (h : OnlyTenants s t) (hu : PassFailed reason t u) : PassFailed reason s u := by
  have hget (j : Nat) : get t 0x2300 j = get s 0x2300 j := get_congr (by rw [h]) j rfl
  exact ⟨hu.passes.trans (by rw [hget]), hu.failures.trans (by rw [hget]), hu.reason, hu.sheets.trans (by rw [h]), hu.slots.trans (by rw [h]),
    hu.md.trans (by rw [h]), fun k hk => (hu.keeps k hk).trans (by rw [h])⟩

/-! ## A pass that admits (R18, R303 to R308) -/

/-- The objects of the slots' watermark alone. -/
def KeepsButSlots (s t : State) : Prop := KeepsObjects (watermark 0x2520 2) s t

theorem keepsButSlots_addEvent (s : State) (lo hi : Nat) (e : Event) : KeepsButSlots s (addEvent s lo hi e) := by
  unfold addEvent
  split
  · exact (watched_watch true _ 0x2520 2 _ _).keeps
  · exact fun _ _ => rfl

theorem keepsButSlots_addEvents (l : List Event) (s : State) : KeepsButSlots s (l.foldl (fun u e => addEvent u 0 640 e) s) :=
  foldl_keeps (KeepsButSlots s) l _ s (fun u e _ hu => keepsObjects_trans hu (keepsButSlots_addEvent u 0 640 e)) (fun _ _ => rfl)

theorem gapPatch_dict (s : State) (a : Sheet) : (gapPatch s a).dict = s.dict := by
  unfold gapPatch
  dsimp only
  split
  · rfl
  · split
    · exact foldl_keeps (fun u => u.dict = s.dict) _ _ _ (fun u n _ hu => hu) rfl
    · rfl

/-- The events of an admitted sheet, in their slots. -/
def sheetEvents (s : State) (a : Sheet) : State :=
  (imageEvents a ++ a.timetable.map (entryEvent a)).foldl (fun u e => addEvent u 0 640 e) s

/-- The serial number of an admission, taken from the counter where the sheet brings none (R18). -/
def serialTaken (s : State) (sh : Sheet) : State := if sh.serial = 0 then put s 0x5040 3 (nextSerial (get s 0x5040 3)) else s

theorem admitSheet_eq (s : State) (sh : Sheet) (p : Plan) : admitSheet s sh p =
    watchBudget s (gapPatch (advanceV (sheetEvents (modSheet (serialTaken s sh) sh.uid fun _ => admittedSheet s sh p) (admittedSheet s sh p))
      sh.tenant sh.lines) (admittedSheet s sh p)) := rfl

theorem sheetEvents_sheets (s : State) (a : Sheet) : (sheetEvents s a).sheets = s.sheets := by
  unfold sheetEvents
  exact foldl_keeps (fun u => u.sheets = s.sheets) _ _ s (fun u e _ hu => (addEvent_sheets u 0 640 e).trans hu) rfl

theorem serialTaken_sheets (s : State) (sh : Sheet) : (serialTaken s sh).sheets = s.sheets := by
  unfold serialTaken
  split <;> rfl

/-- An admission replaces the sheet by the admitted one, and takes its serial. -/
structure SheetAdmitted (s : State) (sh : Sheet) (p : Plan) (u : State) : Prop where
  sheets : u.sheets = s.sheets.map fun y => if y.uid = sh.uid then admittedSheet s sh p else y
  serial : get u 0x5040 3 = if sh.serial = 0 then nextSerial (get s 0x5040 3) else get s 0x5040 3
  passes : get u 0x2300 0x13 = get s 0x2300 0x13
  md : u.md = s.md

theorem admitSheet_admits (s : State) (sh : Sheet) (p : Plan) : SheetAdmitted s sh p (admitSheet s sh p) := by
  have hmd := md_of_modeView (admitSheet_modeView s sh p)
  have htaken : get (serialTaken s sh) 0x5040 3 = (if sh.serial = 0 then nextSerial (get s 0x5040 3) else get s 0x5040 3) ∧
      get (serialTaken s sh) 0x2300 0x13 = get s 0x2300 0x13 := by
    unfold serialTaken
    split
    · exact ⟨get_put_same s _ _ rfl, get_put_other s _ (by decide)⟩
    · exact ⟨rfl, rfl⟩
  have hsheets := serialTaken_sheets s sh
  rw [admitSheet_eq] at hmd ⊢
  generalize serialTaken s sh = t at *
  have hevents := keepsButSlots_addEvents (imageEvents (admittedSheet s sh p) ++ (admittedSheet s sh p).timetable.map (entryEvent (admittedSheet s sh p)))
    (modSheet t sh.uid fun _ => admittedSheet s sh p)
  have hevsheets := sheetEvents_sheets (modSheet t sh.uid fun _ => admittedSheet s sh p) (admittedSheet s sh p)
  change KeepsButSlots _ (sheetEvents _ _) at hevents
  generalize sheetEvents (modSheet t sh.uid fun _ => admittedSheet s sh p) (admittedSheet s sh p) = v at *
  have hv := advanceV_only v sh.tenant sh.lines
  generalize advanceV v sh.tenant sh.lines = w at *
  have hlog := watchBudget_sameButLog s (gapPatch w (admittedSheet s sh p))
  have hdict : (watchBudget s (gapPatch w (admittedSheet s sh p))).dict = v.dict := by
    rw [hlog.dict, gapPatch_dict, hv]
  have hget {i j : Nat} (hk : keyOf i j ∉ watermark 0x2520 2) (hi : isLogIdx i = false) :
      get (watchBudget s (gapPatch w (admittedSheet s sh p))) i j = get t i j :=
    (get_congr hdict j hi).trans (KeepsObjects.get hevents hk hi)
  refine ⟨?_, (hget (by decide) rfl).trans htaken.1, (hget (by decide) rfl).trans htaken.2, hmd⟩
  rw [hlog.sheets, gapPatch_sheets, hv]
  exact hevsheets.trans (by rw [modSheet, hsheets])

/-! ## The obligation -/

theorem exec_admissionClosed {s : State} (h : admissionOpen s = false ∨ admissionDue s = false) : exec .admissionPass s = .next (settle s) := by
  have hno : (admissionOpen s && admissionDue s) = false := by
    rcases h with h | h
    · rw [h, Bool.false_and]
    · rw [h, Bool.and_false]
  simp [exec, execAdmissionPass, hno, done]

theorem exec_admissionIdle {s : State} (hopen : admissionOpen s = true) (hdue : admissionDue s = true) (h : chosen (refreshCandidates s) = none) :
    exec .admissionPass s = .next (settle (refreshCandidates s)) := by
  simp [exec, execAdmissionPass, hopen, hdue, h, done]

theorem exec_admissionTest {s : State} (hopen : admissionOpen s = true) (hdue : admissionDue s = true) {n : Nat} {sh : Sheet}
    (h : chosen (refreshCandidates s) = some n) (hnext : nextSheet (refreshCandidates s) n = some sh) :
    exec .admissionPass s = .next (settle (if profileReady (refreshCandidates s) sh then admissionTest (refreshCandidates s) sh else refreshCandidates s)) := by
  simp only [exec, execAdmissionPass, hopen, hdue, h, hnext, done, Bool.and_self, if_true]
  split <;> rfl

/-- The pass of b over a sheet, before it is widened. -/
def passPlan (b : State) (sh : Sheet) : Plan := planOf (bump b 0x2300 0x13) sh (firstI0 (bump b 0x2300 0x13))

/-- The beats that the pass leaves. -/
def passLeft (b : State) (sh : Sheet) : Nat := budget (bump b 0x2300 0x13) - peakBeats (bump b 0x2300 0x13) (passPlan b sh)

/-- Whether the pass widens the sheet's period. -/
def passWide (b : State) (sh : Sheet) : Bool := (previousSheet (bump b 0x2300 0x13)).isSome &&
  (decide (passLeft b sh < guarantees (bump b 0x2300 0x13)) || (bump b 0x2300 0x13).mem.doubled)

/-- A pass that counts itself, and its widening. -/
def passCounted (b : State) (wide : Bool) : State := if wide then bump (bump b 0x2300 0x13) 0x2300 0x15 else bump b 0x2300 0x13

/-- A plan rests on the stations' geometry and the admission lead. -/
theorem planOf_congr {s t : State} (hkick : t.kick = s.kick) (hget : ∀ i j, 0x3000 ≤ i → get t i j = get s i j)
    (hlead : get t 0x2300 0x11 = get s 0x2300 0x11) : planOf t = planOf s := by
  have hgeo (n j : Nat) : get t (geoIdx n) j = get s (geoIdx n) j := hget _ j (by unfold geoIdx; omega)
  have hspeed : processSpeed t = processSpeed s := funext fun n => hgeo n 5
  have hres : processRes t = processRes s := funext fun n => hgeo n 4
  have hbeams : beams t = beams s := funext fun n => hgeo n 1
  have hc : processC t = processC s := funext fun n => by unfold processC getS; rw [hget _ 1 (by omega)]
  have hstations : stationsPresent t = stationsPresent s := by unfold stationsPresent stationCount strap; rw [hkick]
  have hlines : linesTicks t = linesTicks s := by unfold linesTicks; rw [hspeed, hres]
  have hcharge : chargeOf t = chargeOf s := by unfold chargeOf; rw [hspeed, hres]
  have hperiod : facetPeriod t = facetPeriod s := by unfold facetPeriod; rw [hbeams, hspeed, hres]
  have hscans : wholeScans t = wholeScans s := by unfold wholeScans; rw [hc, hbeams]
  have hoffset : stationOffset t = stationOffset s := funext fun n => by unfold stationOffset; rw [hgeo n 0x0A, hspeed, hscans, hperiod]
  have hahead : admissionLead t = admissionLead s := by unfold admissionLead; rw [hlead, hlines]
  unfold planOf
  rw [hstations, hlines, hcharge, hoffset, hahead]

/-- The plan that is admitted. -/
def passTaken (b : State) (sh : Sheet) : Plan := planOf (passCounted b (passWide b sh)) sh
  (widenedI0 (bump b 0x2300 0x13) (passPlan b sh) (passLeft b sh) (guarantees (bump b 0x2300 0x13)))

theorem admissionTest_eq (b : State) (sh : Sheet) : admissionTest b sh =
    if budget (bump b 0x2300 0x13) < peakBeats (bump b 0x2300 0x13) (passPlan b sh) then admissionFail (bump b 0x2300 0x13) 1
    else if 100 * passLeft b sh < get (bump b 0x2300 0x13) 0x2300 0x10 * guarantees (bump b 0x2300 0x13) then admissionFail (bump b 0x2300 0x13) 2
    else admitSheet (passCounted b (passWide b sh)) sh (passTaken b sh) := by
  have hplan : planOf (passCounted b (passWide b sh)) = planOf (bump b 0x2300 0x13) := by
    unfold passCounted
    split
    · exact planOf_congr rfl (fun i j hi => get_put_other _ _ (by unfold keyOf; omega)) (get_put_other _ _ (by decide))
    · rfl
  unfold passTaken
  rw [hplan]
  rfl

theorem passCounted_counts {s b : State} (h : OnlyTenants s b) (wide : Bool) : (passCounted b wide).sheets = s.sheets ∧
    get (passCounted b wide) 0x5040 3 = get s 0x5040 3 ∧ get (passCounted b wide) 0x2300 0x13 = (get s 0x2300 0x13 + 1) % 2 ^ 32 ∧
    (passCounted b wide).md = s.md := by
  have hget {i : Nat} (j : Nat) (hi : isLogIdx i = false) : get b i j = get s i j := get_congr (by rw [h]) j hi
  have hserial : get (bump b 0x2300 0x13) 0x5040 3 = get s 0x5040 3 := (get_put_other b _ (by decide)).trans (hget 3 rfl)
  have hpasses : get (bump b 0x2300 0x13) 0x2300 0x13 = (get s 0x2300 0x13 + 1) % 2 ^ 32 := (get_put_same b _ _ rfl).trans (by rw [hget 0x13 rfl])
  have hsheets : b.sheets = s.sheets := by rw [h]
  have hmd : b.md = s.md := by rw [h]
  unfold passCounted
  cases wide with
  | true => exact ⟨hsheets, (get_put_other _ _ (by decide)).trans hserial, (get_put_other _ _ (by decide)).trans hpasses, hmd⟩
  | false => exact ⟨hsheets, hserial, hpasses, hmd⟩

theorem admissionTest_over {b : State} {sh : Sheet} (h : budget (bump b 0x2300 0x13) < peakBeats (bump b 0x2300 0x13) (passPlan b sh)) :
    admissionTest b sh = admissionFail (bump b 0x2300 0x13) 1 := by
  rw [admissionTest_eq, if_pos h]

theorem admissionTest_short {b : State} {sh : Sheet} (hpeak : peakBeats (bump b 0x2300 0x13) (passPlan b sh) ≤ budget (bump b 0x2300 0x13))
    (h : 100 * passLeft b sh < get (bump b 0x2300 0x13) 0x2300 0x10 * guarantees (bump b 0x2300 0x13)) :
    admissionTest b sh = admissionFail (bump b 0x2300 0x13) 2 := by
  rw [admissionTest_eq, if_neg (Nat.not_lt.2 hpeak), if_pos h]

theorem admissionTest_fits {b : State} {sh : Sheet} (hpeak : peakBeats (bump b 0x2300 0x13) (passPlan b sh) ≤ budget (bump b 0x2300 0x13))
    (h : get (bump b 0x2300 0x13) 0x2300 0x10 * guarantees (bump b 0x2300 0x13) ≤ 100 * passLeft b sh) :
    admissionTest b sh = admitSheet (passCounted b (passWide b sh)) sh (passTaken b sh) := by
  rw [admissionTest_eq, if_neg (Nat.not_lt.2 hpeak), if_neg (Nat.not_lt.2 h)]

/-- What an admission with a plan shows (R18, R308). -/
structure PassAdmits (s : State) (sh : Sheet) (p : Plan) (u : State) : Prop where
  sheet : ∃ a ∈ u.sheets, a.uid = sh.uid ∧ a.state = .admitted ∧ a.serial = (if sh.serial = 0 then get s 0x5040 3 else sh.serial) ∧ a.i0 = p.i0 ∧
    a.imageAt = p.imageAt ∧ a.endAt = p.endAt ∧ a.winAt = p.winAt ∧ a.charge = p.charge
  serial : get u 0x5040 3 = if sh.serial = 0 then nextSerial (get s 0x5040 3) else get s 0x5040 3
  passes : get u 0x2300 0x13 = (get s 0x2300 0x13 + 1) % 2 ^ 32
  others : ∀ y ∈ s.sheets, y.uid ≠ sh.uid → y ∈ u.sheets
  md : u.md = s.md

theorem admitSheet_passes {s b : State} (hcand : OnlyTenants s b) {sh : Sheet} (hmem : sh ∈ b.sheets) (wide : Bool) (p : Plan) :
    PassAdmits s sh p (admitSheet (passCounted b wide) sh p) := by
  obtain ⟨hsheets, hserial, hpasses, hmd⟩ := passCounted_counts hcand wide
  rw [show b.sheets = s.sheets by rw [hcand]] at hmem
  generalize passCounted b wide = x at hsheets hserial hpasses hmd ⊢
  have hadmits := admitSheet_admits x sh p
  generalize admitSheet x sh p = u at hadmits ⊢
  refine ⟨⟨admittedSheet x sh p, ?_, rfl, rfl, ?_, rfl, rfl, rfl, rfl, rfl⟩, by rw [hadmits.serial, hserial],
    hadmits.passes.trans hpasses, fun y hy hother => ?_, hadmits.md.trans hmd⟩
  · rw [hadmits.sheets, hsheets]
    exact List.mem_map.2 ⟨sh, hmem, if_pos rfl⟩
  · rw [← hserial]
    rfl
  · rw [hadmits.sheets, hsheets]
    exact List.mem_map.2 ⟨y, hy, if_neg hother⟩

/-- Settles O37: candidates that refresh touch the tenants alone; a failed pass only counts, and an admission's own steps — the serial, the sheet, its
events, the tenant's v, the gap patch — each touch something else. -/
theorem admissionWorks : Obligations.AdmissionWorks := by
  unfold Obligations.AdmissionWorks
  intro s b
  have hcand : OnlyTenants s b := refreshCandidates_only s
  refine ⟨fun h => ⟨s, exec_admissionClosed h, rfl⟩, fun hopen hdue => ⟨fun hnone => ⟨b, exec_admissionIdle hopen hdue hnone, rfl⟩,
    fun n sh hchosen hnext => ?_⟩⟩
  have hexec := exec_admissionTest hopen hdue hchosen hnext
  have htested {t : State} (hready : profileReady b sh = true) (h : admissionTest b sh = t) : exec .admissionPass s = .next (settle t) := by
    rw [hexec, if_pos hready, h]
  intro t p left i wide q failed
  have hfails {reason : Nat} (hready : profileReady b sh = true) (h : admissionTest b sh = admissionFail (bump b 0x2300 0x13) reason) :
      Completes .admissionPass s (failed reason) := by
    obtain ⟨hpasses, hfailures, hreason, hsheets, hslots, hmd, hkeeps⟩ := (admissionFail_fails b reason).of_tenants hcand
    exact ⟨_, htested hready h, hpasses, hfailures, hreason, hsheets, hslots, hmd, hkeeps⟩
  refine ⟨fun hready => ⟨b, ?_, rfl⟩, fun hready hpeak => hfails hready (admissionTest_over hpeak),
    fun hready hpeak hleft => hfails hready (admissionTest_short hpeak hleft), fun hready hpeak hleft => ?_⟩
  · rw [hexec, show profileReady (refreshCandidates s) sh = false from hready]
    rfl
  · have hadmits := admitSheet_passes hcand (List.mem_of_find?_eq_some hnext) (passWide b sh) (passTaken b sh)
    exact ⟨_, htested hready (admissionTest_fits hpeak hleft), hadmits.sheet, hadmits.serial, hadmits.passes, hadmits.others, hadmits.md⟩

end Sys2Proof.Machine

/-! # Polls and the acyclic phase: what the block's own traffic leaves (R230, R232, R241 to R245) -/

namespace Sys2Proof.Machine

/-! `FrameIn` says what traffic leaves; polls and cycles also write the rounds of a port and objects of the network's own. `NetIn ks` leaves to those the
objects of `ks`, and says that nothing is received meanwhile. -/

structure NetIn (ks : List Nat) (s t : State) : Prop where
  md : t.md = s.md
  sheets : t.sheets = s.sheets
  misses : t.net.misses = s.net.misses
  sessions : t.net.sessions = s.net.sessions
  calm : ∀ k, CalmKey k → k ∉ ks → tabFind t.dict k = tabFind s.dict k
  rx : ∀ k, (port t k).rx = (port s k).rx

theorem NetIn.refl (ks : List Nat) (s : State) : NetIn ks s s := ⟨rfl, rfl, rfl, rfl, fun _ _ _ => rfl, fun _ => rfl⟩

theorem NetIn.trans {ks : List Nat} {s t u : State} (h : NetIn ks s t) (k : NetIn ks t u) : NetIn ks s u :=
  ⟨k.md.trans h.md, k.sheets.trans h.sheets, k.misses.trans h.misses, k.sessions.trans h.sessions,
    fun key hcalm hkey => (k.calm key hcalm hkey).trans (h.calm key hcalm hkey), fun p => (k.rx p).trans (h.rx p)⟩

theorem NetIn.ite {ks : List Nat} {s a b : State} {c : Prop} [Decidable c] (ha : NetIn ks s a) (hb : NetIn ks s b) : NetIn ks s (if c then a else b) := by
  split <;> assumption

theorem NetIn.get {ks : List Nat} {s t : State} (h : NetIn ks s t) {i j : Nat} (hi : isLogIdx i = false) (hcalm : CalmKey (keyOf i j))
    (hk : keyOf i j ∉ ks) : Machine.get t i j = Machine.get s i j := by
  rw [get_dict _ _ hi, get_dict _ _ hi, h.calm _ hcalm hk]

theorem NetIn.foldl {α : Type} {ks : List Nat} {f : State → α → State} {l : List α} (hf : ∀ u, ∀ x ∈ l, NetIn ks u (f u x)) (s : State) :
    NetIn ks s (l.foldl f s) :=
  foldl_keeps (NetIn ks s) l f s (fun u x hx hu => hu.trans (hf u x hx)) (.refl ks s)

theorem FrameIn.misses {s t : State} (h : FrameIn s t) : t.net.misses = s.net.misses := by rw [h.net]

theorem FrameIn.netIn {s t : State} (h : FrameIn s t) (hrx : ∀ k, (port t k).rx = (port s k).rx) (ks : List Nat) : NetIn ks s t :=
  ⟨h.md, h.sheets, h.misses, h.sessions, fun k hk _ => h.calm k hk, hrx⟩

theorem SameButLog.netIn {ks : List Nat} {s t : State} (h : SameButLog s t) (hnet : t.net = s.net) : NetIn ks s t :=
  ⟨h.md, h.sheets, by rw [hnet], by rw [hnet], fun _ _ _ => by rw [h.dict], fun _ => by simp only [port, hnet]⟩

theorem netIn_put {ks : List Nat} (s : State) {i j : Nat} (v : Nat) (h : keyOf i j ∈ ks) : NetIn ks s (put s i j v) :=
  ⟨rfl, rfl, rfl, rfl, fun _ _ hk => tabFind_tabSet_other _ _ fun e => hk (e ▸ h), fun _ => rfl⟩

/-- A port's change that leaves its receive queue. -/
theorem netIn_setPort {ks : List Nat} (s : State) (p : Nat) {f : Port → Port} (h : ∀ x, (f x).rx = x.rx) : NetIn ks s (setPort s p f) := by
  refine ⟨rfl, rfl, rfl, rfl, fun _ _ _ => rfl, fun k => ?_⟩
  by_cases hk : k = p
  · subst hk
    rw [port_setPort_same, h]
  · rw [port_setPort_other _ _ hk]

/-! ## Frames -/

theorem putFrame_port (s : State) (p : Nat) (o : Outgoing) (k : Nat) : port (putFrame s p o) k = port s k := by
  unfold putFrame
  split <;> rfl

theorem netIn_sendFrame (ks : List Nat) (s : State) (p type dst : Nat) (payload : List Byte) : NetIn ks s (sendFrame s p type dst payload) :=
  (putFrame_frameIn s p _).netIn (fun k => by rw [putFrame_port]) ks

theorem netIn_sendOut (ks : List Nat) (s : State) (p : Nat) (o : Outgoing) : NetIn ks s (sendOut s p o) := by
  refine (sendOut_frameIn s p o).netIn (fun k => ?_) ks
  unfold sendOut
  rw [putFrame_port]
  split
  · exact (debit_sameQueues s p _ _ k).1
  · rfl

theorem netIn_queueOut (ks : List Nat) (s : State) {p : Nat} (o : Outgoing) (hp : p < 7) : NetIn ks s (queueOut s p o) :=
  (queueOut_frameIn s o hp).netIn (queueOut_rx s p o) ks

theorem netIn_setTx (ks : List Nat) (s : State) {p : Nat} (l : List Outgoing) (hp : p < 7) : NetIn ks s (setTx s p l) := by
  refine (setTx_frameIn s l hp).netIn (fun k => ?_) ks
  rw [setTx, watch_port]
  by_cases hk : k = p
  · subst hk
    rw [port_setPort_same]
  · rw [port_setPort_other _ _ hk]

/-- A port that lives is one of the seven. -/
theorem portLive_lt {s : State} {p : Nat} (h : portLive s p = true) : p < 7 := by
  simp only [portLive, portEnabled, Bool.and_eq_true, decide_eq_true_eq] at h
  exact h.1.1.1.1.1

/-! ## Polls (R230, R232, R245) -/

theorem netIn_poll (ks : List Nat) (s : State) {p : Nat} (n : Nat) (hp : p < 7) : NetIn ks s (poll s p n) := by
  have hset : NetIn ks s (setPort s p fun x =>
    { x with polled := some n, lastPolled := n, window := windowEnd s p 4, pollOrder := x.pollOrder.filter fun m => m != n }) := netIn_setPort s p fun _ => rfl
  unfold poll
  exact hset.trans (netIn_queueOut ks _ _ hp)

theorem netIn_pollIdle (ks : List Nat) (s : State) {p : Nat} (hp : p < 7) : NetIn ks s (pollIdle s p) := by
  unfold pollIdle
  split
  · exact .refl ks s
  · split
    · exact .refl ks s
    next n l _ =>
      have hset : NetIn ks s (setPort s p fun x => { x with toPoll := l }) := netIn_setPort s p fun _ => rfl
      exact .ite (hset.trans (netIn_poll ks _ n hp)) (.refl ks s)

theorem netIn_nextPoll (ks : List Nat) (s : State) {p : Nat} (hp : p < 7) : NetIn ks s (nextPoll s p) := by
  have hset : NetIn ks s (setPort s p fun x => { x with round := 3, polled := none }) := netIn_setPort s p fun _ => rfl
  unfold nextPoll
  split
  · exact netIn_poll ks s _ hp
  · exact hset.trans (netIn_pollIdle ks _ hp)

theorem netIn_rollcallState {ks : List Nat} (s : State) (h : keyOf 0x1100 7 ∈ ks) : NetIn ks s (rollcallState s) := by
  unfold rollcallState
  exact .ite (.refl ks s) (netIn_put s _ h)

theorem netIn_pollOver {ks : List Nat} (s : State) {p : Nat} (hp : p < 7) (h : keyOf 0x1100 7 ∈ ks) : NetIn ks s (pollOver s p) := by
  have hset : NetIn ks s (setPort s p fun y => { y with polled := none }) := netIn_setPort s p fun _ => rfl
  unfold pollOver
  dsimp only
  exact .ite (hset.trans ((netIn_nextPoll ks _ hp).trans (netIn_rollcallState _ h))) (hset.trans (netIn_pollIdle ks _ hp))

theorem netIn_pollAbsent (ks : List Nat) (s : State) {p : Nat} (hp : p < 7) : NetIn ks s (pollAbsent s p) := by
  unfold pollAbsent
  split
  · exact .refl ks s
  · split
    · exact .ite (netIn_poll ks s _ hp) (.refl ks s)
    · exact .refl ks s

/-! ## The acyclic phase (R241, R242, R244) -/

theorem netIn_creditCycle (ks : List Nat) (s : State) (p : Nat) : NetIn ks s (creditCycle s p) := by
  have hnet (c : Tab Int) (o : List Nat) : NetIn ks s { s with net := { s.net with credit := c, owing := o } } :=
    ⟨rfl, rfl, rfl, rfl, fun _ _ _ => rfl, fun _ => rfl⟩
  unfold creditCycle
  exact (hnet _ _).trans (netIn_setPort _ p fun _ => rfl)

theorem netIn_drainTx (ks : List Nat) (s : State) {p : Nat} (hp : p < 7) : NetIn ks s (drainTx s p) := by
  have hfold (l : List Outgoing) (a : State × List Outgoing) : NetIn ks a.1 (l.foldl (fun (a : State × List Outgoing) o =>
      if covers a.1 p o.dst (frameNs a.1 p o) && !(a.2.any fun f => f.dst == o.dst) then (sendOut a.1 p o, a.2) else (a.1, a.2 ++ [o])) a).1 := by
    induction l generalizing a with
    | nil => exact .refl ks _
    | cons o l ih =>
      rw [List.foldl_cons]
      split
      · exact (netIn_sendOut ks a.1 p o).trans (ih (sendOut a.1 p o, a.2))
      · exact ih (a.1, a.2 ++ [o])
  unfold drainTx
  exact (hfold _ (s, [])).trans (netIn_setTx ks _ _ hp)

theorem netIn_sendNotice (ks : List Nat) (s : State) (q : Nat × Nat × Nat) : NetIn ks s (sendNotice s q) := by
  have hsent (u : State) (p dst : Nat) (pay : List Byte) : NetIn ks u (if portLive u p = true then sendAcyclic u p 0x0D dst pay none else u) := by
    split
    next hlive => exact netIn_queueOut ks u _ (portLive_lt hlive)
    · exact .refl ks u
  have hseq (u : State) : NetIn ks u { u with net := { u.net with noticeSeq := (u.net.noticeSeq + 1) % 256 } } :=
    ⟨rfl, rfl, rfl, rfl, fun _ _ _ => rfl, fun _ => rfl⟩
  unfold sendNotice
  exact (hsent s _ _ _).trans ((hsent _ _ _ _).trans (hseq _))

theorem netIn_sendNotices {ks : List Nat} (s : State) (h : keyOf 0x1100 0x0C ∈ ks) : NetIn ks s (sendNotices s) := by
  have hqueue : NetIn ks s { s with net := { s.net with noticeQueue := [] } } := ⟨rfl, rfl, rfl, rfl, fun _ _ _ => rfl, fun _ => rfl⟩
  unfold sendNotices
  exact hqueue.trans ((netIn_put _ _ h).trans (.foldl (fun u q _ => netIn_sendNotice ks u q) _))

/-- A queue that is empty has nothing to serve. -/
theorem netIn_drainRx (ks : List Nat) {s : State} {p : Nat} (hp : p < 7) (hempty : (port s p).rx = []) : NetIn ks s (drainRx s p) := by
  unfold drainRx
  split
  · exact .refl ks s
  · rw [hempty]
    refine (setRx_frameIn s [] hp).netIn (fun k => ?_) ks
    by_cases hk : k = p
    · subst hk
      rw [port_setRx_same, hempty]
    · rw [port_setRx_other _ _ hk]

theorem netIn_drainAll (ks : List Nat) {s : State} (hempty : ∀ p, p < 7 → (port s p).rx = []) : NetIn ks s (drainAll s) :=
  foldl_keeps (NetIn ks s) _ _ s (fun _ _ hp hu => hu.trans (netIn_drainRx ks (List.mem_range.1 hp) ((hu.rx _).trans (hempty _ (List.mem_range.1 hp)))))
    (.refl ks s)

/-- The object of lost notices that the acyclic phase may write. -/
def acyclicKeys : List Nat := [keyOf 0x1100 0x0C]

theorem netIn_acyclicPhase {s : State} (hempty : ∀ p, p < 7 → (port s p).rx = []) : NetIn acyclicKeys s (acyclicPhase s) := by
  unfold acyclicPhase
  extract_lets ps t
  have hlt : ∀ p ∈ ps, p < 7 := fun p hp => List.mem_range.1 (List.mem_of_mem_filter hp)
  have hcredit : NetIn acyclicKeys s (forEach ps creditCycle s) := .foldl (fun u p _ => netIn_creditCycle _ u p) s
  have hdrain : NetIn acyclicKeys s t := hcredit.trans (.foldl (fun u p hp => netIn_drainTx _ u (hlt p hp)) _)
  have hnotices : NetIn acyclicKeys s (sendNotices t) := hdrain.trans (netIn_sendNotices t (by decide))
  have hidle : NetIn acyclicKeys s (forEach ps pollIdle (sendNotices t)) := hnotices.trans (.foldl (fun u p hp => netIn_pollIdle _ u (hlt p hp)) _)
  have habsent : NetIn acyclicKeys s (forEach ps pollAbsent (forEach ps pollIdle (sendNotices t))) :=
    hidle.trans (.foldl (fun u p hp => netIn_pollAbsent _ u (hlt p hp)) _)
  exact habsent.trans (netIn_drainAll _ fun p hp => (habsent.rx p).trans (hempty p hp))

/-! ## The cyclic phase (R234, R237) -/

theorem netIn_sendMap (ks : List Nat) (s : State) (m : Nat) : NetIn ks s (sendMap s m) := by
  unfold sendMap
  refine .foldl (fun u p hp => ?_) s
  have hlive : portLive s p = true := by
    have := (List.mem_filter.1 hp).2
    rw [Bool.and_eq_true] at this
    exact this.1
  split
  · exact (frameIn_put u _ (portKey_not_calm (portLive_lt hlive) (by decide) (by simp))).netIn (fun _ => rfl) ks
  · exact netIn_sendFrame ks u p _ _ _

theorem netIn_cyclicPhase (ks : List Nat) (s : State) : NetIn ks s (cyclicPhase s) := by
  have hdue (u : State) (l : List Nat) : NetIn ks u { u with net := { u.net with inSeen := [], inDue := l } } :=
    ⟨rfl, rfl, rfl, rfl, fun _ _ _ => rfl, fun _ => rfl⟩
  unfold cyclicPhase
  extract_lets t due u
  have hsync : NetIn ks s t := .foldl (fun v p _ => netIn_sendFrame ks v p _ _ _) s
  exact (hsync.trans (.foldl (fun v m _ => netIn_sendMap ks v m) t)).trans (hdue _ _)

end Sys2Proof.Machine

/-! # Partners of the roll-call and the network cycle (R90, R107, R224, R229, R230, R234 to R238, R252) -/

namespace Sys2Proof.Machine

/-! ## What is said in the log leaves the network but for the notices that wait -/

structure Said (s t : State) : Prop where
  log : SameButLog s t
  net : t.net = { s.net with noticeQueue := t.net.noticeQueue }

theorem Said.refl (s : State) : Said s s := ⟨.refl s, rfl⟩

theorem Said.trans {s t u : State} (h : Said s t) (k : Said t u) : Said s u := ⟨h.log.trans k.log, by rw [k.net, h.net]⟩

theorem Said.port {s t : State} (h : Said s t) (p : Nat) : Machine.port t p = Machine.port s p := by
  unfold Machine.port
  rw [h.net]

theorem Said.netIn {s t : State} (h : Said s t) (ks : List Nat) : NetIn ks s t :=
  ⟨h.log.md, h.log.sheets, by rw [h.net], by rw [h.net], fun _ _ _ => by rw [h.log.dict], fun p => by rw [h.port]⟩

/-- A change of the log block alone. -/
theorem said_of_log (s : State) (l : Log) : Said s { s with log := l } := ⟨sameButLog_mk s l s.net s.out, rfl⟩

theorem said_emit (s : State) (o : Output) : Said s (emit s o) := ⟨sameButLog_mk s s.log s.net (o :: s.out), rfl⟩

theorem said_vector (s : State) (f v : Nat) : Said s (vector s f v) := by
  unfold vector
  split
  · exact said_emit _ _
  · exact .refl s

theorem said_notice (s : State) (i j c : Nat) : Said s (notice s i j c) := by
  have hqueue (u : State) (q : List (Nat × Nat × Nat)) : Said u { u with net := { u.net with noticeQueue := q } } :=
    ⟨sameButLog_mk u u.log _ u.out, rfl⟩
  have hkept : Said s (if (s.log.notices.any fun r => r.1 == keyOf i j) || decide (s.log.notices.length < 128) then
      { s with log := { s.log with notices := (noticePush s.log.notices (keyOf i j) c).1 } } else satLog 16 s 0x2420 2) := by
    split <;> exact said_of_log s _
  unfold notice
  dsimp only
  split
  · exact (hkept.trans (hqueue _ _)).trans (said_vector _ _ _)
  · exact hkept.trans (hqueue _ _)

theorem said_noticeAlone (s : State) (i j c : Nat) : Said s (noticeAlone s i j c) := (said_notice s i j c).trans (said_vector _ _ _)

theorem said_log (s : State) (cls kind src inst i j : Nat) (ser : Option Nat) (d : Nat) : Said s (log s cls kind src inst i j ser d) := by
  have honly : Said s (logOnly s cls kind src inst i j ser d) := by
    have hnet : (logOnly s cls kind src inst i j ser d).net = s.net := congrArg NetView.net (logOnly_netView s cls kind src inst i j ser d)
    exact ⟨logOnly_sameButLog s cls kind src inst i j ser d, by rw [hnet]⟩
  unfold log
  dsimp only
  split
  · exact honly.trans (said_notice _ _ _ _)
  · exact honly

theorem said_logEvent (s : State) (cls src inst i j : Nat) : Said s (logEvent s cls src inst i j) := said_log _ _ _ _ _ _ _ _ _

theorem said_causeEnd (s : State) (c n : Nat) : Said s (causeEnd s c n) := by
  have hlist := said_of_log s { s.log with causes := s.log.causes.filter fun p => p != (c, n) }
  unfold causeEnd
  split
  · dsimp only
    split
    · exact hlist
    · exact hlist.trans (said_log _ _ _ _ _ _ _ _ _)
  · exact .refl s

theorem said_serveBegin (s : State) (m : Mech) (n code src i j : Nat) : Said s (serveBegin s m n code src i j) := by
  unfold serveBegin
  exact (said_of_log s _).trans (said_log _ _ _ _ _ _ _ _ _)

theorem said_servePass (s : State) (m : Mech) (n src i j : Nat) : Said s (servePass s m n src i j) := by
  unfold servePass
  split
  · exact .refl s
  · split
    · exact (said_of_log s _).trans (said_log _ _ _ _ _ _ _ _ _)
    · exact .refl s

theorem said_doubleFault (s : State) (m : Mech) (n code src i j : Nat) : Said s (doubleFault s m n code src i j) := by
  unfold doubleFault doubleFaultAs
  exact (said_of_log s _).trans (said_log _ _ _ _ _ _ _ _ _)

/-! ## A partner goes to a state (R223 to R225) -/

/-- The partner's state alone. -/
def stateKey (n : Nat) : List Nat := [keyOf (partnerIdx n) 1]

theorem isLogIdx_partnerIdx (n : Nat) : isLogIdx (partnerIdx n) = false := by
  simp [isLogIdx, partnerIdx]
  omega

theorem netIn_partnerHoldEnds (ks : List Nat) (s : State) (n : Nat) : NetIn ks s (partnerHoldEnds s n) := by
  have hrelease (a : Accessor) : NetIn ks s (releaseStager s a) := by
    have hbase : NetIn ks s (unstaged s a) := ⟨rfl, rfl, rfl, rfl, fun _ _ _ => rfl, fun _ => rfl⟩
    exact hbase.trans (.foldl (fun u g _ => (said_log u _ _ _ _ _ _ _ _).netIn ks) _)
  unfold partnerHoldEnds
  split
  · exact hrelease _
  · exact .refl ks s

theorem partnerState_setPartner (s : State) (n v : Nat) : partnerState (setPartner s n v) n = v := get_put_same s _ _ (isLogIdx_partnerIdx n)

/-- The partner is in a state, and nothing else of the network has moved. -/
structure PartnerSet (n v : Nat) (s t : State) : Prop where
  state : partnerState t n = v
  net : NetIn (stateKey n) s t

theorem partnerSet_setPartner (s : State) (n v : Nat) : PartnerSet n v s (setPartner s n v) :=
  ⟨partnerState_setPartner s n v, netIn_put s _ List.mem_cons_self⟩

theorem PartnerSet.said {n v : Nat} {s t u : State} (h : PartnerSet n v s t) (hsaid : Said t u) : PartnerSet n v s u :=
  ⟨(hsaid.log.get 1 (isLogIdx_partnerIdx n)).trans h.state, h.net.trans (hsaid.netIn _)⟩

/-- But for a PRESENT partner that is lost, a partner's going is its state alone. -/
theorem partnerGoes_set {s : State} {n v : Nat} (h : partnerState s n ≠ 2 ∨ v ≠ 3 ∧ v ≠ 4) : PartnerSet n v s (partnerGoes s n v) := by
  have hbase : NetIn (stateKey n) s (if v = 3 ∨ v = 4 ∨ v = 7 then partnerHoldEnds s n else s) := .ite (netIn_partnerHoldEnds _ s n) (.refl _ s)
  have hstate : partnerState (if v = 3 ∨ v = 4 ∨ v = 7 then partnerHoldEnds s n else s) n = partnerState s n := by
    split
    · unfold partnerHoldEnds
      split
      · exact (releaseStager_frameIn s _).partnerState n
      · rfl
    · rfl
  unfold partnerGoes
  generalize (if v = 3 ∨ v = 4 ∨ v = 7 then partnerHoldEnds s n else s) = b at hbase hstate ⊢
  have hset := partnerSet_setPartner b n v
  have hdone : PartnerSet n v b (onPartner n (partnerTo b n v)) := by
    unfold partnerTo
    dsimp only
    split
    · exact hset.said (said_causeEnd _ _ _)
    · rw [hstate, if_neg (by omega)]
      exact hset
  exact ⟨hdone.state, hbase.trans hdone.net⟩

/-- A loss that asks for no SAFESTOP (R225). -/
theorem partnerGoes_lost {s : State} {n : Nat} (hquiet : get s (partnerIdx n) 7 < 2) (v : Nat) : PartnerSet n v s (partnerGoes s n v) := by
  have hbase : NetIn (stateKey n) s (if v = 3 ∨ v = 4 ∨ v = 7 then partnerHoldEnds s n else s) := .ite (netIn_partnerHoldEnds _ s n) (.refl _ s)
  have hresponse : get (if v = 3 ∨ v = 4 ∨ v = 7 then partnerHoldEnds s n else s) (partnerIdx n) 7 = get s (partnerIdx n) 7 := by
    split
    · unfold partnerHoldEnds
      split
      · exact (releaseStager_frameIn s _).partnerObject n (by decide) (by decide) (by decide)
      · rfl
    · rfl
  unfold partnerGoes
  generalize (if v = 3 ∨ v = 4 ∨ v = 7 then partnerHoldEnds s n else s) = b at hbase hresponse ⊢
  have hset := partnerSet_setPartner b n v
  have hquiet' : get (setPartner b n v) (partnerIdx n) 7 < 2 := by
    rw [setPartner, get_put_other b _ (by unfold keyOf; omega), hresponse]
    exact hquiet
  have hdone : PartnerSet n v b (onPartner n (partnerTo b n v)) := by
    unfold partnerTo
    dsimp only
    generalize setPartner b n v = t at hset hquiet' ⊢
    split
    · exact hset.said (said_causeEnd _ _ _)
    · split
      · unfold lossResponse
        split
        · exact hset.said (said_noticeAlone _ _ _ _)
        · exact hset.said (said_logEvent t clsFault 4 n (partnerIdx n) 1)
        next h0 h1 =>
          have hne0 : get t (partnerIdx n) 7 ≠ 0 := h0
          have hne1 : get t (partnerIdx n) 7 ≠ 1 := h1
          omega
      · exact hset
  exact ⟨hdone.state, hbase.trans hdone.net⟩

/-! ## ROLLCALL ANSWER (R224, R229) -/

/-- The keys that a partner's answer writes. -/
def answerKeys (n : Nat) : List Nat := [keyOf (partnerIdx n) 1, keyOf (partnerIdx n) 4, keyOf (partnerIdx n) 0x0E, keyOf 0x1100 7]

theorem NetIn.mono {ks ls : List Nat} {s t : State} (h : NetIn ks s t) (hsub : ∀ k ∈ ks, k ∈ ls) : NetIn ls s t :=
  ⟨h.md, h.sheets, h.misses, h.sessions, fun k hk hls => h.calm k hk fun hks => hls (hsub k hks), h.rx⟩

theorem calmKey_partner {n j : Nat} (hj : j < 256) (h9 : j ≠ 9) (hd : j ≠ 0x0D) : CalmKey (keyOf (partnerIdx n) j) := by
  unfold CalmKey keyOf partnerIdx
  omega

/-- The state that an answer brings a partner to. -/
def answeredState (s : State) (p n id : Nat) : Nat :=
  if answeredNow s p n = true then 7 else if get s (partnerIdx n) 2 ≠ p then 6 else if get s (partnerIdx n) 3 = 0 ∨ get s (partnerIdx n) 3 = id then 2 else 5

/-- What an answer shows. -/
structure AnswerKept (n id plca v : Nat) (s t : State) : Prop where
  identity : get t (partnerIdx n) 4 = id
  plca : get t (partnerIdx n) 0x0E = plca
  state : partnerState t n = v
  net : NetIn (answerKeys n) s t

theorem AnswerKept.later {n id plca v : Nat} {s t u : State} (h : AnswerKept n id plca v s t) (hu : NetIn [keyOf 0x1100 7] t u) :
    AnswerKept n id plca v s u := by
  have hget {j : Nat} (hj : j < 256) (h9 : j ≠ 9) (hd : j ≠ 0x0D) : get u (partnerIdx n) j = get t (partnerIdx n) j :=
    hu.get (isLogIdx_partnerIdx n) (calmKey_partner hj h9 hd) (by
      rw [List.mem_singleton]
      unfold keyOf partnerIdx
      omega)
  exact ⟨(hget (by decide) (by decide) (by decide)).trans h.identity, (hget (by decide) (by decide) (by decide)).trans h.plca,
    (hget (by decide) (by decide) (by decide)).trans h.state, h.net.trans (hu.mono (by simp [answerKeys]))⟩

theorem classify_keeps {s : State} {p n : Nat} (h : partnerState s n ≠ 7) (id plca : Nat) :
    AnswerKept n id plca (answeredState s p n id) s (classify s p n id plca) := by
  have hlog := isLogIdx_partnerIdx n
  have hput (u : State) {j : Nat} (v : Nat) (hj : keyOf (partnerIdx n) j ∈ answerKeys n) : NetIn (answerKeys n) u (put u (partnerIdx n) j v) := netIn_put u v hj
  have hbase : NetIn (answerKeys n) s (put (put s (partnerIdx n) 4 id) (partnerIdx n) 0x0E plca) :=
    (hput s _ (by simp [answerKeys])).trans (hput _ _ (by simp [answerKeys]))
  have hid : get (put (put s (partnerIdx n) 4 id) (partnerIdx n) 0x0E plca) (partnerIdx n) 4 = id :=
    (get_put_other _ _ (by unfold keyOf; omega)).trans (get_put_same s _ _ hlog)
  have hplca : get (put (put s (partnerIdx n) 4 id) (partnerIdx n) 0x0E plca) (partnerIdx n) 0x0E = plca := get_put_same _ _ _ hlog
  unfold classify
  dsimp only
  rw [if_neg h]
  generalize put (put s (partnerIdx n) 4 id) (partnerIdx n) 0x0E plca = t at hbase hid hplca ⊢
  have hgoes {v : Nat} (hv : v ≠ 3 ∧ v ≠ 4) : AnswerKept n id plca v s (partnerGoes t n v) := by
    obtain ⟨hstate, hnet⟩ := partnerGoes_set (s := t) (n := n) (.inr hv)
    have hget {j : Nat} (hj : j < 256) (h9 : j ≠ 9) (hd : j ≠ 0x0D) (h1 : j ≠ 1) : get (partnerGoes t n v) (partnerIdx n) j = get t (partnerIdx n) j :=
      hnet.get hlog (calmKey_partner hj h9 hd) (by
        rw [stateKey, List.mem_singleton]
        unfold keyOf
        omega)
    exact ⟨(hget (by decide) (by decide) (by decide) (by decide)).trans hid, (hget (by decide) (by decide) (by decide) (by decide)).trans hplca, hstate,
      hbase.trans (hnet.mono (by simp [answerKeys, stateKey]))⟩
  unfold answeredState
  split
  · exact hgoes (by decide)
  · split
    · exact hgoes (by decide)
    · have hok : identityOk s n id = true ↔ get s (partnerIdx n) 3 = 0 ∨ get s (partnerIdx n) 3 = id := by simp [identityOk]
      simp only [hok]
      split
      · exact hgoes (by decide)
      · exact hgoes (by decide)

theorem netIn_rememberAnswer (ks : List Nat) (s : State) (p n : Nat) : NetIn ks s (rememberAnswer s p n) := by
  unfold rememberAnswer
  split
  · exact netIn_setPort s p fun _ => rfl
  · exact .refl ks s

/-- An answer on a managed port. -/
theorem serveAnswer_keeps {s : State} {x : FrameSrc} (hmanaged : managed s x.p = true) (hterp : inTerp s = false) (h0 : x.n ≠ 0) (h2047 : x.n ≠ 2047)
    (h7 : partnerState s x.n ≠ 7) (id plca : Nat) : AnswerKept x.n id plca (answeredState s x.p x.n id) s (serveAnswer s x id plca) := by
  have hkept := (classify_keeps (p := x.p) h7 id plca).later (netIn_rememberAnswer _ _ x.p x.n)
  unfold serveAnswer
  rw [if_neg (by simp [hmanaged, hterp, h0, h2047])]
  dsimp only
  split
  · exact hkept
  · exact hkept.later (((said_servePass _ _ _ _ _ _).netIn _).trans (netIn_pollOver _ (srcPort_lt x) (by simp)))

end Sys2Proof.Machine

/-! # The roll-call's course and the network cycle as obliged (R90, R107, R224 to R238, R252) -/

namespace Sys2Proof.Machine

/-! ## Frames of the roll-call that are served at once -/

theorem TrafficPort.answered {x y : Port} (h : TrafficPort x y) : y.answered = x.answered := by rw [h]
theorem TrafficPort.round {x y : Port} (h : TrafficPort x y) : y.round = x.round := by rw [h]
theorem TrafficPort.polled {x y : Port} (h : TrafficPort x y) : y.polled = x.polled := by rw [h]

theorem FrameIn.answeredNow {s t : State} (h : FrameIn s t) (p n : Nat) : Machine.answeredNow t p n = Machine.answeredNow s p n := by
  rw [Machine.answeredNow, Machine.answeredNow, (h.ports p).answered, h.time]

theorem FrameIn.answeredState {s t : State} (h : FrameIn s t) (p n id : Nat) : Machine.answeredState t p n id = Machine.answeredState s p n id := by
  unfold Machine.answeredState
  rw [h.answeredNow, h.partnerObject n (by decide) (by decide) (by decide), h.partnerObject n (by decide) (by decide) (by decide)]

theorem FrameIn.inTerp {s t : State} (h : FrameIn s t) : Machine.inTerp t = Machine.inTerp s := by rw [Machine.inTerp, Machine.inTerp, h.md]

theorem rollcallAnswer_completes {s : State} {x : FrameSrc} {id rev plca : Nat} (h : ServedAtOnce s x (.rollcallAnswer id rev plca))
    (hmanaged : managed s x.p = true) (hterp : inTerp s = false) (h0 : x.n ≠ 0) (h2047 : x.n ≠ 2047) (h7 : partnerState s x.n ≠ 7) :
    Completes (.rollcallAnswer x id rev plca) s fun t =>
      get t (partnerIdx x.n) 4 = id ∧ get t (partnerIdx x.n) 0x0E = plca ∧ partnerState t x.n = answeredState s x.p x.n id := by
  have hframe := taken_frameIn s x (.rollcallAnswer id rev plca)
  have hkept := serveAnswer_keeps (s := taken s x (.rollcallAnswer id rev plca)) (x := x) (by rw [hframe.managed, hmanaged]) (by rw [hframe.inTerp, hterp])
    h0 h2047 (by rw [hframe.partnerState]; exact h7) id plca
  have hserve : servePdu (taken s x (.rollcallAnswer id rev plca)) x 0 (.rollcallAnswer id rev plca) =
    serveAnswer (taken s x (.rollcallAnswer id rev plca)) x id plca := rfl
  rw [hframe.answeredState] at hkept
  generalize serveAnswer (taken s x (.rollcallAnswer id rev plca)) x id plca = t at hkept hserve
  exact completes_served rfl h hserve (hkept.net.sessions.trans hframe.sessions) ⟨hkept.identity, hkept.plca, hkept.state⟩

/-- The answer in the own slot goes out, and in the node-only role it ends kick-off. -/
theorem serveRollcall_answers {s : State} {x : FrameSrc} {u : Pdu} {b k : Nat} (h : ServedAtOnce s x u) (hup : x.p = uplink s) (h0 : x.n = 0)
    (hb : b ≤ get s 0x1100 3) (hk : get s 0x1100 3 < b + k) (hempty : (port s x.p).tx = []) :
    ∃ t, FrameIn s t ∧ Sent t x.p 0x0C 0 (ownAnswer s x.p) ∧
      serveRollcall (taken s x u) x b k = if nodeOnly s = true ∧ s.md.mode = .kickoff ∧ get s 0x2020 1 = 14 then rollcallDone t else t := by
  have hframe := taken_frameIn s x u
  have hdike : dikeOn s x.p = false := by simp [dikeOn, managed, hup]
  have hown : ownAnswer (taken s x u) x.p = ownAnswer s x.p := by
    unfold ownAnswer
    rw [hframe.portObject (srcPort_lt x) (by decide)]
  obtain ⟨hall, hsent, -⟩ := repeat_shows h hdike hempty 0x0C (ownAnswer s x.p)
  refine ⟨_, hall, h0 ▸ hsent, ?_⟩
  unfold serveRollcall
  dsimp only
  rw [hframe.uplink, hframe.get rfl (calmKey_of_object (by decide) (by decide)), if_pos ⟨hup, h0, hb, hk⟩, hown, hall.nodeOnly, hall.md, kickStep, hall.step]

theorem expireSession_md (s : State) (x : FrameSrc) : (expireSession s x).md = s.md := md_of_modeView (expireSession_modeView s x)

theorem cycleMaps_taken (s : State) (x : FrameSrc) (u : Pdu) : (cycleMaps (taken s x u)).dict = (cycleMaps s).dict := (taken_frameIn s x u).maps

theorem mapsInUse_lt {s : State} {m : Nat} (h : (mapsInUse s).contains m = true) : m < 0x80 := by
  rw [List.contains_iff_mem] at h
  obtain ⟨q, -, hq⟩ := List.mem_filterMap.1 h
  split at hq
  next hin =>
    obtain ⟨hlow, hhigh, -⟩ := hin
    have hm : q.1 / 256 - 0x1200 = m := Option.some.inj hq
    omega
  · exact absurd hq (by simp)

/-- A PRESENT partner's CYCLIC IN is counted as seen and its values written (R238). -/
theorem serveCyclic_writes {s : State} {x : FrameSrc} {u : Pdu} {m : Nat} {d : List Byte} (hmanaged : managed s x.p = true)
    (huse : (mapsInUse (cycleMaps s)).contains m = true) (hin : mapIn (cycleMaps s) m = true) (hpartner : mapPartner (cycleMaps s) m = x.n)
    (hpresent : partnerState s x.n = 2) :
    let b := taken s x u
    let b := { b with net := { b.net with inSeen := m :: b.net.inSeen, misses := tabSet b.net.misses x.n 0 } }
    serveCyclic (taken s x u) x m d = writeEntries b (accessorOf b x) (mapEntries (cycleMaps s) m) d := by
  have hframe := taken_frameIn s x u
  have hdict := cycleMaps_taken s x u
  generalize taken s x u = b at hframe hdict ⊢
  have hlt := mapsInUse_lt huse
  have hget (j : Nat) : get (cycleMaps b) (0x1200 + m) j = get (cycleMaps s) (0x1200 + m) j := get_congr hdict j (by simp [isLogIdx]; omega)
  have huse' : mapsInUse (cycleMaps b) = mapsInUse (cycleMaps s) := by rw [mapsInUse, mapsInUse, hdict]
  have hin' : mapIn (cycleMaps b) m = true := by rw [mapIn, hget]; exact hin
  have hpartner' : mapPartner (cycleMaps b) m = x.n := by rw [mapPartner, hget]; exact hpartner
  have hentries : mapEntries (cycleMaps b) m = mapEntries (cycleMaps s) m := by simp only [mapEntries, hget]
  unfold serveCyclic
  dsimp only
  rw [huse', huse, hframe.managed, hmanaged, hin', hpartner', hframe.partnerState, hpresent, hentries]
  simp

/-! ## Rounds of the roll-call (R227, R229, R230) -/

theorem port_sendFrame (s : State) (p type dst : Nat) (payload : List Byte) (k : Nat) : port (sendFrame s p type dst payload) k = port s k := putFrame_port s p _ k

theorem port_rollcallState (s : State) (k : Nat) : port (rollcallState s) k = port s k := by
  unfold rollcallState
  split <;> rfl

theorem rollcallState_md (s : State) : (rollcallState s).md = s.md := by
  unfold rollcallState
  split <;> rfl

/-- A block that follows begins; round 1 goes on. -/
theorem blockEnd_next {s : State} {p : Fin 7} {k : Nat} (h4 : p.val ≠ 4) (h5 : p.val ≠ 5) (hk : nextBlock s p.val ((port s p.val).block + 1) = some k) :
    let t := afterBlock (startBlock s p.val ((port s p.val).block + 1)) p.val
    (port t p.val).round = 1 ∧ (port t p.val).block = k ∧ t.md = s.md := by
  have hstart : ∃ y, port (startBlock s p.val ((port s p.val).block + 1)) p.val = y ∧ y.round = 1 ∧ y.block = k ∧
      (startBlock s p.val ((port s p.val).block + 1)).md = s.md := by
    unfold startBlock
    rw [if_neg (by omega), hk]
    dsimp only
    exact ⟨_, rfl, by rw [port_sendFrame, port_setPort_same], by rw [port_sendFrame, port_setPort_same], (putFrame_frameIn _ _ _).md⟩
  obtain ⟨y, hport, hround, hblock, hmd⟩ := hstart
  generalize startBlock s p.val ((port s p.val).block + 1) = u at hport hmd
  have hafter : afterBlock u p.val = rollcallState u := by
    unfold afterBlock
    rw [hport, hround, if_neg (by simp)]
  intro t
  change (port (afterBlock u p.val) p.val).round = 1 ∧ (port (afterBlock u p.val) p.val).block = k ∧ (afterBlock u p.val).md = s.md
  rw [hafter, port_rollcallState, rollcallState_md, hport]
  exact ⟨hround, hblock, hmd⟩

theorem poll_port (s : State) {p : Nat} (n : Nat) (hp : p < 7) :
    (port (poll s p n) p).round = (port s p).round ∧ (port (poll s p n) p).polled = some n ∧ (poll s p n).md = s.md := by
  unfold poll
  extract_lets t
  have hport : port t p = { port s p with polled := some n, lastPolled := n, window := windowEnd s p 4,
                                          pollOrder := (port s p).pollOrder.filter fun m => m != n } := port_setPort_same _ _ _
  have hframe := queueOut_frameIn t (pollFrame s p n) hp
  have hports := hframe.ports p
  exact ⟨by rw [hports.round, hport], by rw [hports.polled, hport], hframe.md⟩

theorem pollIdle_round (s : State) {p : Nat} (hp : p < 7) : (port (pollIdle s p) p).round = (port s p).round := by
  unfold pollIdle
  split
  · rfl
  · split
    · rfl
    · split
      · rw [(poll_port _ _ hp).1, port_setPort_same]
      · rfl

/-- Round 1 has ended: round 2 polls the lowest partner that is still EXPECTED, or has ended too (R230). -/
theorem blockEnd_over {s : State} {p : Fin 7} (h : p.val = 4 ∨ p.val = 5 ∨ nextBlock s p.val ((port s p.val).block + 1) = none) :
    let t := afterBlock (startBlock s p.val ((port s p.val).block + 1)) p.val
    t.md = s.md ∧ ((∀ n ∈ assigned s p.val, partnerState s n ≠ 1) → (port t p.val).round = 3) ∧
      ((∃ n ∈ assigned s p.val, partnerState s n = 1) → (port t p.val).round = 2 ∧ ∃ n ∈ assigned s p.val, (port t p.val).polled = some n) := by
  have hstart : startBlock s p.val ((port s p.val).block + 1) = setPort s p.val fun x => { x with round := 2, polled := none } := by
    unfold startBlock
    split
    · rfl
    next hno =>
      rcases h with h | h | h
      · exact absurd (.inl h) hno
      · exact absurd (.inr h) hno
      · rw [h]
  have hport : port (setPort s p.val fun x => { x with round := 2, polled := none }) p.val = { port s p.val with round := 2, polled := none } :=
    port_setPort_same _ _ _
  have hafter : afterBlock (setPort s p.val fun x => { x with round := 2, polled := none }) p.val =
      rollcallState (nextPoll (setPort s p.val fun x => { x with round := 2, polled := none }) p.val) := by
    unfold afterBlock
    rw [hport]
    rfl
  have hmd := (netIn_nextPoll [] (setPort s p.val fun x => { x with round := 2, polled := none }) p.isLt).md
  have hassigned : assigned (setPort s p.val fun x => { x with round := 2, polled := none }) p.val = assigned s p.val := rfl
  have hstate (n : Nat) : partnerState (setPort s p.val fun x => { x with round := 2, polled := none }) n = partnerState s n := rfl
  intro t
  have ht : t = rollcallState (nextPoll (setPort s p.val fun x => { x with round := 2, polled := none }) p.val) := by rw [← hafter, ← hstart]
  have htport : port t p.val = port (nextPoll (setPort s p.val fun x => { x with round := 2, polled := none }) p.val) p.val := by rw [ht, port_rollcallState]
  rw [htport]
  refine ⟨by rw [ht, rollcallState_md, hmd]; rfl, fun hnone => ?_, fun hsome => ?_⟩
  · have hfind : (assigned s p.val).find? (fun n => partnerState s n == 1) = none := List.find?_eq_none.2 fun n hn => by simpa using hnone n hn
    unfold nextPoll
    rw [hassigned]
    simp only [hstate, hfind]
    rw [pollIdle_round _ p.isLt, port_setPort_same]
  · obtain ⟨n, hn, h1⟩ := hsome
    cases hfind : (assigned s p.val).find? (fun n => partnerState s n == 1) with
    | none => exact absurd (beq_iff_eq.2 h1) (List.find?_eq_none.1 hfind n hn)
    | some k =>
      unfold nextPoll
      rw [hassigned]
      simp only [hstate, hfind]
      obtain ⟨hround, hpolled, -⟩ := poll_port (setPort s p.val fun x => { x with round := 2, polled := none }) k p.isLt
      exact ⟨hround.trans (by rw [hport]), k, List.mem_of_find?_eq_some hfind, hpolled⟩

/-- A poll that is not answered makes an EXPECTED partner ABSENT (R230). -/
theorem pollMissed_absent {s : State} {n : Nat} (h : partnerState s n = 1) : PartnerSet n 3 s (pollMissed s n) := by
  have hsaid : Said s (if serving s .partnerIdle n then doubleFault s .partnerIdle n 0 4 (partnerIdx n) 1 else s) := by
    split
    · exact said_doubleFault _ _ _ _ _ _ _
    · exact .refl s
  unfold pollMissed
  generalize (if serving s .partnerIdle n then doubleFault s .partnerIdle n 0 4 (partnerIdx n) 1 else s) = t at hsaid ⊢
  have hstate : partnerState t n = 1 := (hsaid.log.get 1 (isLogIdx_partnerIdx n)).trans h
  have hgoes : PartnerSet n 3 t (partnerGoes t n 3) := partnerGoes_set (.inl (by rw [hstate]; decide))
  have habsent : PartnerSet n 3 t (absentNow t n) := by
    unfold absentNow
    rw [if_pos hstate]
    exact hgoes.said (said_noticeAlone _ _ _ _)
  dsimp only
  rw [if_pos (.inl hstate)]
  exact ⟨habsent.state, (hsaid.netIn _).trans habsent.net⟩

theorem pollTimeout_absent {s : State} {p : Fin 7} {n : Nat} (h : partnerState s n = 1) :
    partnerState (pollOver (pollMissed s n) p.val) n = 3 ∧ (pollOver (pollMissed s n) p.val).md = s.md ∧
      (pollOver (pollMissed s n) p.val).sheets = s.sheets := by
  obtain ⟨hstate, hnet⟩ := pollMissed_absent h
  have hover : NetIn [keyOf 0x1100 7] (pollMissed s n) (pollOver (pollMissed s n) p.val) := netIn_pollOver _ p.isLt (by simp)
  refine ⟨(hover.get (isLogIdx_partnerIdx n) (calmKey_partner (by decide) (by decide) (by decide)) ?_).trans hstate, hover.md.trans hnet.md,
    hover.sheets.trans hnet.sheets⟩
  rw [List.mem_singleton]
  unfold keyOf partnerIdx
  omega

/-! ## The network cycle (R234, R237, R238) -/

/-- The cycle's count, and the maps that it takes. -/
def cycleBegun (s : State) : State :=
  bump { s with net := { s.net with inDue := [], inSeen := [], maps := s.dict.filter fun q => isMapKey q.1 } } 0x1100 6

/-- The counts of a cycle. -/
structure CycleCounted (s t : State) : Prop where
  count : get t 0x1100 6 = (get s 0x1100 6 + 1) % 2 ^ 32
  net : NetIn [keyOf 0x1100 6] s t

theorem cycleBegun_counts (s : State) : CycleCounted s (cycleBegun s) :=
  ⟨get_put_same _ _ _ rfl, ⟨rfl, rfl, rfl, rfl, fun _ _ hk => tabFind_tabSet_other _ _ fun e => hk (by rw [e]; exact List.mem_cons_self), fun _ => rfl⟩⟩

theorem exec_networkCycle {s : State} (h : cyclesRun s = true) (skipped : Bool) : exec (.networkCycleStart skipped) s =
    .next (settle (acyclicPhase (if skipped then sat (cycleBegun (s.net.inDue.foldl countMiss s)) 0x2521 9
      else cyclicPhase (bump (cycleBegun (s.net.inDue.foldl countMiss s)) 0x2521 4)))) := by
  simp [exec, execNetworkCycleStart, h, done, cycleBegun]

/-- The keys of a cycle's counts. -/
def cycleKeys : List Nat := [keyOf 0x1100 6, keyOf 0x1100 0x0C, keyOf 0x2521 9, keyOf 0x2521 4]

theorem networkCycle_counts {s : State} (hempty : ∀ p, p < 7 → (port s p).rx = []) :
    (∃ u, acyclicPhase (sat (cycleBegun s) 0x2521 9) = u ∧ get u 0x1100 6 = (get s 0x1100 6 + 1) % 2 ^ 32 ∧
      get u 0x2521 9 = min (get s 0x2521 9 + 1) 65535 ∧ get u 0x2521 4 = get s 0x2521 4 ∧ NetIn cycleKeys s u) ∧
    (∃ u, acyclicPhase (cyclicPhase (bump (cycleBegun s) 0x2521 4)) = u ∧ get u 0x1100 6 = (get s 0x1100 6 + 1) % 2 ^ 32 ∧
      get u 0x2521 4 = (get s 0x2521 4 + 1) % 2 ^ 32 ∧ get u 0x2521 9 = get s 0x2521 9 ∧ NetIn cycleKeys s u) := by
  obtain ⟨hcount, hnet⟩ := cycleBegun_counts s
  generalize cycleBegun s = b at hcount hnet ⊢
  have hget {i j : Nat} (hi : isLogIdx i = false) (hc : CalmKey (keyOf i j)) (hk : keyOf i j ∉ [keyOf 0x1100 6]) : get b i j = get s i j := hnet.get hi hc hk
  have hcalm {i j : Nat} (h : i < 0x1110 ∨ 0x1117 ≤ i ∧ i < 0x6000) (hj : j < 256) : CalmKey (keyOf i j) := calmKey_of_object h hj
  have hall : NetIn cycleKeys s b := hnet.mono (by simp [cycleKeys])
  have hphase {v : State} (hv : NetIn cycleKeys s v) : NetIn acyclicKeys v (acyclicPhase v) :=
    netIn_acyclicPhase fun p hp => (hv.rx p).trans (hempty p hp)
  have hmono {v w : State} (h : NetIn acyclicKeys v w) : NetIn cycleKeys v w := h.mono (by simp [acyclicKeys, cycleKeys])
  constructor
  · have hput : NetIn cycleKeys b (sat b 0x2521 9) := netIn_put b _ (by decide)
    have hskipped : get (sat b 0x2521 9) 0x2521 9 = min (get s 0x2521 9 + 1) 65535 :=
      (get_put_same b _ _ rfl).trans (by rw [hget rfl (hcalm (by decide) (by decide)) (by decide)]; rfl)
    have hstarts : get (sat b 0x2521 9) 0x2521 4 = get s 0x2521 4 :=
      (get_put_other b _ (by decide)).trans (hget rfl (hcalm (by decide) (by decide)) (by decide))
    have hcycles : get (sat b 0x2521 9) 0x1100 6 = (get s 0x1100 6 + 1) % 2 ^ 32 := (get_put_other b _ (by decide)).trans hcount
    generalize sat b 0x2521 9 = v at *
    have hv := hall.trans hput
    have hlast := hphase hv
    exact ⟨_, rfl, (hlast.get rfl (hcalm (by decide) (by decide)) (by decide)).trans hcycles,
      (hlast.get rfl (hcalm (by decide) (by decide)) (by decide)).trans hskipped,
      (hlast.get rfl (hcalm (by decide) (by decide)) (by decide)).trans hstarts, hv.trans (hmono hlast)⟩
  · have hput : NetIn cycleKeys b (bump b 0x2521 4) := netIn_put b _ (by decide)
    have hstarts : get (bump b 0x2521 4) 0x2521 4 = (get s 0x2521 4 + 1) % 2 ^ 32 :=
      (get_put_same b _ _ rfl).trans (by rw [hget rfl (hcalm (by decide) (by decide)) (by decide)])
    have hskipped : get (bump b 0x2521 4) 0x2521 9 = get s 0x2521 9 :=
      (get_put_other b _ (by decide)).trans (hget rfl (hcalm (by decide) (by decide)) (by decide))
    have hcycles : get (bump b 0x2521 4) 0x1100 6 = (get s 0x1100 6 + 1) % 2 ^ 32 := (get_put_other b _ (by decide)).trans hcount
    generalize bump b 0x2521 4 = v at *
    have hcyclic : NetIn acyclicKeys v (cyclicPhase v) := netIn_cyclicPhase _ v
    have hv := (hall.trans hput).trans (hmono hcyclic)
    have hlast := hcyclic.trans (hphase hv)
    exact ⟨_, rfl, (hlast.get rfl (hcalm (by decide) (by decide)) (by decide)).trans hcycles,
      (hlast.get rfl (hcalm (by decide) (by decide)) (by decide)).trans hstarts,
      (hlast.get rfl (hcalm (by decide) (by decide)) (by decide)).trans hskipped, (hall.trans hput).trans (hmono hlast)⟩

/-- What a missed IN map shows (R238). -/
structure MissCounted (n : Nat) (s t : State) : Prop where
  count : get t (partnerIdx n) 0x0C = min (get s (partnerIdx n) 0x0C + 1) 65535
  misses : tabGet 0 t.net.misses n = tabGet 0 s.net.misses n + 1
  state : partnerState t n = if 1 ≤ tabGet 0 s.net.misses n then 4 else 2
  rx : ∀ k, (port t k).rx = (port s k).rx

/-- A miss on the partner's record. -/
def missNoted (s : State) (n : Nat) : State :=
  sat { s with net := { s.net with misses := tabSet s.net.misses n (tabGet 0 s.net.misses n + 1) } } (partnerIdx n) 0x0C

theorem get_missNoted_other (s : State) (n : Nat) {j : Nat} (h : j ≠ 0x0C) : get (missNoted s n) (partnerIdx n) j = get s (partnerIdx n) j :=
  (get_put_other _ _ (by unfold keyOf; omega)).trans rfl

theorem countMiss_eq {s : State} {m : Nat} (hseen : m ∉ s.net.inSeen) (hpresent : partnerState s (mapPartner (cycleMaps s) m) = 2) :
    countMiss s m = if 2 ≤ tabGet 0 s.net.misses (mapPartner (cycleMaps s) m) + 1 then
        partnerGoes (missNoted s (mapPartner (cycleMaps s) m)) (mapPartner (cycleMaps s) m) 4
      else missNoted s (mapPartner (cycleMaps s) m) := by
  unfold countMiss
  dsimp only
  rw [if_neg (by simp [hseen, hpresent])]
  rfl

theorem countMiss_counts {s : State} {m : Nat} (hseen : m ∉ s.net.inSeen) (hpresent : partnerState s (mapPartner (cycleMaps s) m) = 2)
    (hquiet : get s (partnerIdx (mapPartner (cycleMaps s) m)) 7 < 2) : MissCounted (mapPartner (cycleMaps s) m) s (countMiss s m) := by
  rw [countMiss_eq hseen hpresent]
  generalize mapPartner (cycleMaps s) m = n at *
  have hlog := isLogIdx_partnerIdx n
  have hcount : get (missNoted s n) (partnerIdx n) 0x0C = min (get s (partnerIdx n) 0x0C + 1) 65535 := get_put_same _ _ _ hlog
  have hstate : partnerState (missNoted s n) n = 2 := (get_missNoted_other s n (by decide)).trans hpresent
  have hresponse : get (missNoted s n) (partnerIdx n) 7 < 2 := by rw [get_missNoted_other s n (by decide)]; exact hquiet
  have hmisses : (missNoted s n).net.misses = tabSet s.net.misses n (tabGet 0 s.net.misses n + 1) := rfl
  have hports (k : Nat) : port (missNoted s n) k = port s k := rfl
  generalize missNoted s n = b at *
  split
  next htwo =>
    obtain ⟨hgone, hnet⟩ := partnerGoes_lost hresponse 4
    refine ⟨(hnet.get hlog (calmKey_partner (by decide) (by decide) (by decide)) ?_).trans hcount, by rw [hnet.misses, hmisses, tabGet_tabSet_same],
      by rw [hgone, if_pos (by omega)], fun k => by rw [hnet.rx, hports]⟩
    rw [stateKey, List.mem_singleton]
    unfold keyOf
    omega
  next hfirst => exact ⟨hcount, by rw [hmisses, tabGet_tabSet_same], by rw [hstate, if_neg (by omega)], fun k => by rw [hports]⟩

theorem MissCounted.later {n : Nat} {s t u : State} (h : MissCounted n s t) (hu : NetIn cycleKeys t u) : MissCounted n s u := by
  have hget {j : Nat} (hj : j < 256) (h9 : j ≠ 9) (hd : j ≠ 0x0D) : get u (partnerIdx n) j = get t (partnerIdx n) j :=
    hu.get (isLogIdx_partnerIdx n) (calmKey_partner hj h9 hd) (by
      simp only [cycleKeys, List.mem_cons, List.not_mem_nil, or_false]
      unfold keyOf partnerIdx
      omega)
  exact ⟨(hget (by decide) (by decide) (by decide)).trans h.count, by rw [hu.misses, h.misses],
    (hget (by decide) (by decide) (by decide)).trans h.state, fun k => (hu.rx k).trans (h.rx k)⟩

/-! ## The Patron's heartbeat (R90) -/

/-- The heartbeat as it goes out. -/
def heartbeatSent (s : State) : State :=
  wrapBy 8 (emit (bump s 0x1110 0x11) (.heartbeat (get s 0x4100 2) (leBytes 1 (get s 0x4100 3) ++ leBytes 1 (modeCode s.md.mode)))) 0x4100 3 1

theorem exec_heartbeat {s : State} (hpatron : patron s = true) (hon : get s 0x4100 1 ≠ 0) (hlive : portLive s 0 = true) (hterp : inTerp s = false)
    (hkick : s.md.mode = .kickoff → 14 ≤ get s 0x2020 1) : exec .patronHeartbeat s = .next (settle (heartbeatSent s)) := by
  have hdue : (patron s && flag s 0x4100 1 && portLive s 0 && !inTerp s && (s.md.mode != .kickoff || decide (14 ≤ get s 0x2020 1))) = true := by
    by_cases hm : s.md.mode = .kickoff
    · simp [hpatron, flag, hon, hlive, hterp, hkick hm]
    · simp [hpatron, flag, hon, hlive, hterp, hm]
  simp only [exec, execPatronHeartbeat, hdue, if_true, done]
  rfl

theorem heartbeatSent_shows (s : State) : (heartbeatSent s).out = .heartbeat (get s 0x4100 2) (leBytes 1 (get s 0x4100 3) ++ leBytes 1 (modeCode s.md.mode)) :: s.out ∧
    get (heartbeatSent s) 0x4100 3 = (get s 0x4100 3 + 1) % 256 ∧ get (heartbeatSent s) 0x1110 0x11 = (get s 0x1110 0x11 + 1) % 2 ^ 32 ∧
    KeepsObjects [keyOf 0x4100 3, keyOf 0x1110 0x11] s (heartbeatSent s) ∧
    heartbeatSent s = { s with dict := (heartbeatSent s).dict, out := (heartbeatSent s).out } := by
  have hcount : get (bump s 0x1110 0x11) 0x1110 0x11 = (get s 0x1110 0x11 + 1) % 2 ^ 32 := get_put_same s _ _ rfl
  have hkept : KeepsObjects [keyOf 0x4100 3, keyOf 0x1110 0x11] s (bump s 0x1110 0x11) := keepsObjects_put s _ _ _ (by simp)
  have hnumber : get (bump s 0x1110 0x11) 0x4100 3 = get s 0x4100 3 := get_put_other s _ (by decide)
  refine ⟨rfl, (get_put_same _ _ _ rfl).trans ?_, (get_put_other _ _ (by decide)).trans hcount, keepsObjects_trans hkept (keepsObjects_put _ _ _ _ (by simp)), rfl⟩
  rw [← hnumber]
  rfl

/-! ## The obligation -/

theorem exec_blockEnd {s : State} {p : Fin 7} (h : (port s p.val).round = 1) :
    exec (.rollcallBlockEnd p) s = .next (settle (afterBlock (startBlock s p.val ((port s p.val).block + 1)) p.val)) := by
  simp [exec, execRollcallBlockEnd, h, done]

/-- Settles O29: frames that are served at once are their service on the state that has taken them; polls and the phases of a cycle move nothing of a
partner's record (`NetIn`), so that what a partner's going or a miss wrote is still there at the end. -/
theorem networkCycles : Obligations.NetworkCycles := by
  unfold Obligations.NetworkCycles
  refine ⟨fun x s => ⟨fun id rev plca h hmanaged hterp h0 h2047 h7 => rollcallAnswer_completes h hmanaged hterp h0 h2047 h7,
    fun round b k len h hup h0 hb hk hempty => ?_, fun m cycle d h hmanaged huse hin hpartner hpresent => ?_, fun p hround => ?_,
    fun p hround => ⟨fun k h4 h5 hk => ⟨_, exec_blockEnd hround, blockEnd_next h4 h5 hk⟩, fun hover => ⟨_, exec_blockEnd hround, blockEnd_over hover⟩⟩,
    fun p hpolled => ?_, fun p n hpolled h1 => ?_⟩,
    fun s => ⟨fun hruns hdue hempty => ?_, fun m hruns hdue hseen hempty => ?_, fun hpatron hon hlive hterp hkick =>
      ⟨_, exec_heartbeat hpatron hon hlive hterp hkick, heartbeatSent_shows s⟩⟩⟩
  · obtain ⟨t, hframe, hsent, hserve⟩ := serveRollcall_answers h hup h0 hb hk hempty
    refine ⟨fun hno => ?_, fun hnode hmode hstep => ?_⟩
    · rw [if_neg fun hall => hno.elim (fun hn => by simp [hn] at hall) fun hm => hm hall.2.1] at hserve
      exact completes_served rfl h hserve hframe.sessions ⟨hsent, hframe.md⟩
    · rw [if_pos ⟨hnode, hmode, hstep⟩] at hserve
      have hserved : receive s x (.rollcall round b k len) = expireSession (rollcallDone t) x := by
        rw [receive_servedAtOnce h, ← hserve]
        rfl
      refine ⟨expireSession (rollcallDone t) x, by rw [exec_of_pduOf rfl, hserved], ?_⟩
      beta_reduce
      rw [expireSession_md]
      exact (rollcallDone_shows (by rw [hframe.md, hmode])).1
  · refine ⟨_, ?_, rfl⟩
    rw [exec_of_pduOf rfl, receive_servedAtOnce h]
    exact congrArg (fun u => Host.Outcome.next (settle (expireSession u x))) (serveCyclic_writes hmanaged huse hin hpartner hpresent)
  · simp [exec, execRollcallBlockEnd, hround, done]
  · simp [exec, execRollcallPollTimeout, hpolled, done]
  · exact ⟨pollOver (pollMissed s n) p.val, by simp [exec, execRollcallPollTimeout, hpolled, done], pollTimeout_absent h1⟩
  · have hexec (b : Bool) := exec_networkCycle hruns b
    rw [hdue] at hexec
    obtain ⟨⟨u, hu, hcount, hskipped, hstarts, hnet⟩, ⟨v, hv, hcount', hstarts', hskipped', hnet'⟩⟩ := networkCycle_counts hempty
    exact ⟨⟨u, (hexec true).trans (by rw [← hu]; rfl), hcount, hskipped, hstarts, hnet.md⟩,
      ⟨v, (hexec false).trans (by rw [← hv]; rfl), hcount', hstarts', hskipped', hnet'.md⟩⟩
  · intro n hpresent hquiet
    have hexec := exec_networkCycle hruns true
    rw [hdue] at hexec
    have hmiss := countMiss_counts hseen hpresent hquiet
    change MissCounted n s (countMiss s m) at hmiss
    obtain ⟨⟨u, hu, -, -, -, hnet⟩, -⟩ := networkCycle_counts (s := countMiss s m) fun p hp => (hmiss.rx p).trans (hempty p hp)
    have hlast := hmiss.later hnet
    exact ⟨u, hexec.trans (by rw [← hu]; rfl), hlast.count, hlast.misses, hlast.state⟩

end Sys2Proof.Machine

/-! # Requests of the block's own, and partners gone silent (R211, R219 to R221, R241, R245) -/

namespace Sys2Proof.Machine

/-! ## What a PDU to a peer leaves, its session's end included (R249, R250) -/

structure SendLeft (s t : State) : Prop where
  md : t.md = s.md
  sheets : t.sheets = s.sheets
  serves : t.log.serves = s.log.serves
  doubles : get t 0x2400 3 = get s 0x2400 3
  calm : ∀ k, CalmKey k → tabFind t.dict k = tabFind s.dict k
  transfers : ∀ f ∈ t.net.transfers, f ∈ s.net.transfers
  sent : KeepsSent s t

theorem SendLeft.refl (s : State) : SendLeft s s := ⟨rfl, rfl, rfl, rfl, fun _ _ => rfl, fun _ h => h, .refl s⟩

theorem SendLeft.trans {s t u : State} (h : SendLeft s t) (k : SendLeft t u) : SendLeft s u :=
  ⟨k.md.trans h.md, k.sheets.trans h.sheets, k.serves.trans h.serves, k.doubles.trans h.doubles, fun key hkey => (k.calm key hkey).trans (h.calm key hkey),
    fun f hf => h.transfers f (k.transfers f hf), h.sent.trans k.sent⟩

theorem SendLeft.get {s t : State} (h : SendLeft s t) {i j : Nat} (hi : isLogIdx i = false) (hk : CalmKey (keyOf i j)) : Machine.get t i j = Machine.get s i j := by
  rw [get_dict _ _ hi, get_dict _ _ hi, h.calm _ hk]

theorem SendLeft.serving {s t : State} (h : SendLeft s t) (m : Mech) (n : Nat) : Machine.serving t m n = Machine.serving s m n := serving_congr h.serves m n

theorem FrameIn.sendLeft {s t : State} (h : FrameIn s t) (hsent : KeepsSent s t) : SendLeft s t :=
  ⟨h.md, h.sheets, h.serves, h.doubles, h.calm, fun f hf => by rw [h.transfers] at hf; exact hf, hsent⟩

theorem keepsSent_putFrame (s : State) (p : Nat) (o : Outgoing) : KeepsSent s (putFrame s p o) := by
  unfold putFrame
  split
  · exact fun _ ho => List.mem_cons_of_mem _ ho
  · exact .refl s

theorem keepsSent_setTx (s : State) (p : Nat) (l : List Outgoing) : KeepsSent s (setTx s p l) := by
  have hset : KeepsSent s (setPort s p fun x => { x with tx := l }) := keepsSent_of_eq rfl
  exact hset.trans (keepsSent_watch _ _ _ _ _ _)

theorem keepsSent_sendOut (s : State) (p : Nat) (o : Outgoing) : KeepsSent s (sendOut s p o) := by
  have hdebit : KeepsSent s (debit s p o.dst (frameNs s p o)) := by
    unfold debit
    exact .ite (keepsSent_of_eq rfl) (keepsSent_of_eq rfl)
  unfold sendOut
  split
  · exact hdebit.trans (keepsSent_putFrame _ _ _)
  · exact keepsSent_putFrame _ _ _

theorem keepsSent_queueOut (s : State) (p : Nat) (o : Outgoing) : KeepsSent s (queueOut s p o) := by
  unfold queueOut
  exact .ite (keepsSent_sendOut _ _ _) (.ite (keepsSent_of_eq rfl) (keepsSent_setTx _ _ _))

theorem sendLeft_queueOut (s : State) {p : Nat} (o : Outgoing) (hp : p < 7) : SendLeft s (queueOut s p o) :=
  (queueOut_frameIn s o hp).sendLeft (keepsSent_queueOut s p o)

theorem sendLeft_log (s : State) (cls kind src inst i j : Nat) (ser : Option Nat) (d : Nat) : SendLeft s (log s cls kind src inst i j ser d) :=
  (frameIn_log s cls kind src inst i j ser d).sendLeft (keepsSent_log s cls kind src inst i j ser d)

theorem sendLeft_endSession (s : State) (id : Nat) : SendLeft s (endSession s id) := by
  have hgone : SendLeft s (sessionGone s id) := ⟨rfl, rfl, rfl, rfl, fun _ _ => rfl, fun _ hf => List.mem_of_mem_filter hf, keepsSent_of_eq rfl⟩
  have hunstaged (u : State) (a : Accessor) : SendLeft u (unstaged u a) := ⟨rfl, rfl, rfl, rfl, fun _ _ => rfl, fun _ h => h, keepsSent_of_eq rfl⟩
  have hdrop (u : State) (a : Accessor) : SendLeft u (dropAcc u a) := ⟨rfl, rfl, rfl, rfl, fun _ _ => rfl, fun _ h => h, keepsSent_of_eq rfl⟩
  have hrelease (u : State) (a : Accessor) : SendLeft u (releaseStager u a) :=
    (hunstaged u a).trans (foldl_keeps (SendLeft _) _ _ _ (fun v g _ hv => hv.trans (sendLeft_log v _ _ _ _ _ _ _ _)) (.refl _))
  rw [endSession_eq]
  exact hgone.trans ((hrelease _ _).trans (hdrop _ _))

theorem sendLeft_sendTo (s : State) (x : FrameSrc) (type : Nat) (payload : List Byte) : SendLeft s (sendTo s x type payload) := by
  unfold sendTo
  split
  · exact sendLeft_queueOut s _ (srcPort_lt x)
  · split
    · exact sendLeft_queueOut s _ (by decide)
    · split
      · exact .refl s
      next y _ =>
        have hset (f : Session → Session) : SendLeft s (setSession s y.id f) := ⟨rfl, rfl, rfl, rfl, fun _ _ => rfl, fun _ h => h, keepsSent_of_eq rfl⟩
        unfold sendSigned
        dsimp only
        split
        · exact ((hset _).trans (sendLeft_queueOut _ _ (by decide))).trans (sendLeft_endSession _ _)
        · exact (hset _).trans (sendLeft_queueOut _ _ (by decide))

/-! ## Answers to requests of the block's own (R211, R213, R221) -/

theorem ownOf_sound {s : State} {x : FrameSrc} {tid : Nat} {w : Bool} {f : Transfer} (h : ownOf s x tid w = some f) :
    f ∈ s.net.transfers ∧ f.own = true ∧ f.tid = tid := by
  refine ⟨List.mem_of_find?_eq_some h, ?_⟩
  have hp := List.find?_some h
  simp only [Bool.and_eq_true, beq_iff_eq] at hp
  exact ⟨hp.1.1.1.1, hp.1.2⟩

theorem ownOf_taken (s : State) (x : FrameSrc) (u : Pdu) (tid : Nat) (w : Bool) : ownOf (taken s x u) x tid w = ownOf s x tid w := by
  rw [ownOf, ownOf, (taken_frameIn s x u).transfers]

/-- The named transaction of a peer is gone. -/
theorem ne_of_dropTransfer {s : State} {f g : Transfer} (hg : g ∈ (dropTransfer s f.src f.tid f.own).net.transfers) : g ≠ f := by
  rintro rfl
  have := (List.mem_filter.1 hg).2
  simp [sameRequester] at this

/-- An answer that ends its request: the lower retry has passed, and the request is gone. -/
theorem servePass_drops {s : State} {x : FrameSrc} {tid : Nat} {w : Bool} {f : Transfer} (h : ownOf s x tid w = some f) :
    let t := dropTransfer (servePass s .tdpRequest x.n 4 (partnerIdx x.n) 0x0B) f.src tid true
    serving t .tdpRequest x.n = false ∧ (∀ g ∈ t.net.transfers, g ≠ f) ∧ t.net.sessions = s.net.sessions := by
  obtain ⟨-, hown, htid⟩ := ownOf_sound h
  have hsaid := said_servePass s .tdpRequest x.n 4 (partnerIdx x.n) 0x0B
  have hserving := serving_servePass s .tdpRequest x.n 4 (partnerIdx x.n) 0x0B
  generalize servePass s .tdpRequest x.n 4 (partnerIdx x.n) 0x0B = b at hsaid hserving ⊢
  refine ⟨hserving, fun g hg => ?_, (dropTransfer_sessions _ _ _ _).trans (by rw [hsaid.net])⟩
  exact ne_of_dropTransfer (s := b) (by rw [htid, hown]; exact hg)

theorem serveReadResponse_late {s : State} {x : FrameSrc} {tid : Nat} (h : ownOf s x tid false = none) (status : Nat) (d : List Byte) :
    serveReadResponse s x tid status d = sat s (portIdx x.p) 0x13 := by
  unfold serveReadResponse
  rw [h]
  rfl

theorem serveWriteResponse_late {s : State} {x : FrameSrc} {tid : Nat} (h : ownOf s x tid true = none) (status : Nat) :
    serveWriteResponse s x tid status = sat s (portIdx x.p) 0x13 := by
  unfold serveWriteResponse
  rw [h]
  rfl

theorem serveReadResponse_ends {s : State} {x : FrameSrc} {tid : Nat} {f : Transfer} (h : ownOf s x tid false = some f) (d : List Byte) :
    serveReadResponse s x tid 0 d = dropTransfer (servePass s .tdpRequest x.n 4 (partnerIdx x.n) 0x0B) f.src tid true := by
  unfold serveReadResponse
  rw [h]
  rfl

theorem serveWriteResponse_ends {s : State} {x : FrameSrc} {tid : Nat} {f : Transfer} (h : ownOf s x tid true = some f) :
    serveWriteResponse s x tid 0 = dropTransfer (servePass s .tdpRequest x.n 4 (partnerIdx x.n) 0x0B) f.src tid true := by
  unfold serveWriteResponse
  rw [h]
  rfl

/-! ## The lower retry (R219) -/

theorem waitingFor_sound {s : State} {n tid : Nat} {f : Transfer} (h : waitingFor s n tid = some f) : f ∈ s.net.transfers ∧ f.tid = tid := by
  refine ⟨List.mem_of_find?_eq_some h, ?_⟩
  have hp := List.find?_some h
  simp only [Bool.and_eq_true, beq_iff_eq] at hp
  exact hp.1.2

/-- The repeat as second serve. -/
def retryBegun (s : State) (n : Nat) (f : Transfer) : State :=
  keepTransfer (serveBegin s .tdpRequest n 0 4 (partnerIdx n) 0x0B) { f with repeated := true }

theorem retryBegun_begins {s : State} (n : Nat) {f : Transfer} (hf : f ∈ s.net.transfers) :
    serving (retryBegun s n f) .tdpRequest n = true ∧ { f with repeated := true } ∈ (retryBegun s n f).net.transfers ∧
      (retryBegun s n f).md = s.md ∧ (retryBegun s n f).sheets = s.sheets := by
  have hsaid := said_serveBegin s .tdpRequest n 0 4 (partnerIdx n) 0x0B
  have hserving := serving_serveBegin s .tdpRequest n 0 4 (partnerIdx n) 0x0B
  unfold retryBegun
  generalize serveBegin s .tdpRequest n 0 4 (partnerIdx n) 0x0B = b at hsaid hserving ⊢
  have hmem : f ∈ b.net.transfers := by
    rw [hsaid.net]
    exact hf
  exact ⟨hserving, mem_keepTransfer hmem rfl rfl rfl, hsaid.log.md, hsaid.log.sheets⟩

theorem repeatFrame_left (s : State) (f : Transfer) : SendLeft s (repeatFrame s f) := by
  unfold repeatFrame
  split
  · exact sendLeft_sendTo s _ _ _
  · refine foldl_keeps (SendLeft s) _ _ s (fun u j _ hu => ?_) (.refl s)
    split
    · exact hu.trans (sendLeft_sendTo u _ _ _)
    · exact hu

/-- Outside a session the repeat leaves the transactions. -/
theorem repeatFrame_transfers {s : State} {f : Transfer} (h : f.src.p ≠ 6 ∨ f.src.auth = none) : (repeatFrame s f).net.transfers = s.net.transfers := by
  have hsend (u : State) (type : Nat) (payload : List Byte) : (sendTo u f.src type payload).net.transfers = u.net.transfers :=
    (sendTo_frameIn u f.src type payload fun h6 => h.resolve_left fun hne => hne h6).transfers
  unfold repeatFrame
  split
  · exact hsend s _ _
  · refine foldl_keeps (fun u => u.net.transfers = s.net.transfers) _ _ s (fun u j _ hu => ?_) rfl
    split
    · exact (hsend u _ _).trans hu
    · exact hu

theorem exec_lowerRetry {s : State} {n : Fin 2048} {tid : Nat} {f : Transfer} (h : waitingFor s n.val tid = some f) (hrep : f.repeated = false) :
    exec (.lowerRetryExpiry n tid) s =
      .next (settle (if 4 ≤ f.src.p then repeatFrame (retryBegun s n.val f) f else retryBegun s n.val f)) := by
  simp [exec, execLowerRetryExpiry, h, hrep, done, retryBegun]

/-! ## The upper timeout (R220) -/

/-- The transaction is gone and counted. -/
def upperCounted (s : State) (n tid : Nat) (f : Transfer) : State :=
  sat (sat (dropTransfer s f.src tid f.own) (portIdx f.src.p) 0x14) (partnerIdx n) 0x0B

/-- Its caller and its partner are told. -/
def upperTold (s : State) (n tid : Nat) (f : Transfer) : State :=
  let t := if f.own then emit s (.callerAbort n tid 0x0801) else s
  if f.segmented then sendTo t f.src 5 (abortPayload tid 0x0801) else t

theorem exec_upperTimeout {s : State} {n : Fin 2048} {tid : Nat} {f : Transfer} (h : waitingFor s n.val tid = some f) :
    exec (.upperTimeout n tid) s = .next (settle (
      if serving (upperTold (upperCounted s n.val tid f) n.val tid f) .tdpRequest n.val
      then doubleFault (upperTold (upperCounted s n.val tid f) n.val tid f) .tdpRequest n.val 0 4 (partnerIdx n.val) 0x0B
      else upperTold (upperCounted s n.val tid f) n.val tid f)) := by
  simp only [exec, execUpperTimeout, h, done]
  rfl

theorem portKey_ne_partnerKey {p n i j : Nat} (hp : p < 7) (hi : i < 256) (hj : j < 256) : keyOf (portIdx p) i ≠ keyOf (partnerIdx n) j := by
  unfold keyOf portIdx partnerIdx
  omega

theorem isLogIdx_portIdx {p : Nat} (hp : p < 7) : isLogIdx (portIdx p) = false := by
  simp [isLogIdx, portIdx]
  omega

theorem upperCounted_counts (s : State) (n tid : Nat) (f : Transfer) :
    get (upperCounted s n tid f) (portIdx f.src.p) 0x14 = min (get s (portIdx f.src.p) 0x14 + 1) 65535 ∧
      get (upperCounted s n tid f) (partnerIdx n) 0x0B = min (get s (partnerIdx n) 0x0B + 1) 65535 := by
  have hp := srcPort_lt f.src
  have hcount : get (sat (dropTransfer s f.src tid f.own) (portIdx f.src.p) 0x14) (portIdx f.src.p) 0x14 = min (get s (portIdx f.src.p) 0x14 + 1) 65535 :=
    get_put_same _ _ _ (isLogIdx_portIdx hp)
  have hpartner : get (sat (dropTransfer s f.src tid f.own) (portIdx f.src.p) 0x14) (partnerIdx n) 0x0B = get s (partnerIdx n) 0x0B :=
    get_put_other _ _ (portKey_ne_partnerKey hp (by decide) (by decide)).symm
  exact ⟨(get_put_other _ _ (portKey_ne_partnerKey hp (by decide) (by decide))).trans hcount,
    (get_put_same _ _ _ (isLogIdx_partnerIdx n)).trans (by rw [hpartner]; rfl)⟩

theorem upperTold_tells (s : State) (n tid : Nat) (f : Transfer) :
    SendLeft s (upperTold s n tid f) ∧ (f.own = true → Output.callerAbort n tid 0x0801 ∈ (upperTold s n tid f).out) := by
  have hcaller : SendLeft s (if f.own then emit s (.callerAbort n tid 0x0801) else s) ∧
      (f.own = true → Output.callerAbort n tid 0x0801 ∈ (if f.own then emit s (.callerAbort n tid 0x0801) else s).out) := by
    split
    · exact ⟨⟨rfl, rfl, rfl, rfl, fun _ _ => rfl, fun _ h => h, fun _ ho => List.mem_cons_of_mem _ ho⟩, fun _ => List.mem_cons_self⟩
    next hno => exact ⟨.refl s, fun h => absurd h hno⟩
  unfold upperTold
  dsimp only
  generalize (if f.own then emit s (.callerAbort n tid 0x0801) else s) = t at hcaller ⊢
  split
  · have hsend := sendLeft_sendTo t f.src 5 (abortPayload tid 0x0801)
    exact ⟨hcaller.1.trans hsend, fun h => hsend.sent _ (hcaller.2 h)⟩
  · exact hcaller

theorem doubleFault_counts (s : State) (m : Mech) (n code src i j : Nat) : get (doubleFault s m n code src i j) 0x2400 3 = min (get s 0x2400 3 + 1) 65535 := by
  have hview : clockView (doubleFault s m n code src i j) = clockView (satLog 16 (serveDrop s m n) 0x2400 3) := log_clockView _ _ _ _ _ _ _ _ _
  rw [doubles_of_clockView hview, satLog, get_putLog_same _ _ _ rfl]
  rfl

theorem keepsSent_doubleFault (s : State) (m : Mech) (n code src i j : Nat) : KeepsSent s (doubleFault s m n code src i j) := by
  have hbase : KeepsSent s (satLog 16 (serveDrop s m n) 0x2400 3) := keepsSent_of_eq rfl
  unfold doubleFault doubleFaultAs
  exact hbase.trans (keepsSent_log _ _ _ _ _ _ _ _ _)

/-! ## Idle partners (R245) -/

theorem exec_partnerIdle {s : State} {n : Fin 2048} (h2 : partnerState s n.val = 2) (h8 : get s (partnerIdx n.val) 8 ≠ 0)
    (hlive : portLive s (get s (partnerIdx n.val) 2) = true) (hmanaged : managed s (get s (partnerIdx n.val) 2) = true)
    (hserving : serving s .partnerIdle n.val = false) :
    exec (.partnerIdleTimeout n) s = .next (settle (pollIdle (setPort (serveBegin s .partnerIdle n.val 0 4 (partnerIdx n.val) 1)
      (get s (partnerIdx n.val) 2) fun x => { x with toPoll := x.toPoll ++ [n.val] }) (get s (partnerIdx n.val) 2))) := by
  simp [exec, execPartnerIdleTimeout, h2, h8, hlive, hmanaged, hserving, done]

/-- What the airtime of a port's frames rests on. -/
structure SameAir (p : Nat) (s t : State) : Prop where
  md : t.md = s.md
  kick : t.kick = s.kick
  reset : t.reset_ = s.reset_
  dict : t.dict = s.dict
  credit : t.net.credit = s.net.credit
  pool : (port t p).pool = (port s p).pool
  classical : (port t p).classical = (port s p).classical
  tx : (port t p).tx = (port s p).tx
  dead : (port t p).dead = (port s p).dead

theorem SameAir.trans {p : Nat} {s t u : State} (h : SameAir p s t) (k : SameAir p t u) : SameAir p s u :=
  ⟨k.md.trans h.md, k.kick.trans h.kick, k.reset.trans h.reset, k.dict.trans h.dict, k.credit.trans h.credit, k.pool.trans h.pool,
    k.classical.trans h.classical, k.tx.trans h.tx, k.dead.trans h.dead⟩

theorem Said.sameAir {s t : State} (h : Said s t) (p : Nat) : SameAir p s t :=
  ⟨h.log.md, h.log.kick, h.log.reset, h.log.dict, by rw [h.net], by rw [h.port], by rw [h.port], by rw [h.port], by rw [h.port]⟩

theorem sameAir_setPort (s : State) (p : Nat) {f : Port → Port}
    (hf : ∀ x, (f x).pool = x.pool ∧ (f x).classical = x.classical ∧ (f x).tx = x.tx ∧ (f x).dead = x.dead) : SameAir p s (setPort s p f) := by
  obtain ⟨hpool, hclassical, htx, hdead⟩ := hf (port s p)
  exact ⟨rfl, rfl, rfl, rfl, rfl, by rw [port_setPort_same, hpool], by rw [port_setPort_same, hclassical], by rw [port_setPort_same, htx],
    by rw [port_setPort_same, hdead]⟩

section
variable {p : Nat} {s t : State} (h : SameAir p s t)
include h

theorem SameAir.strap (k : Nat) : Machine.strap t k = Machine.strap s k := by simp [Machine.strap, h.kick]

theorem SameAir.get {i : Nat} (j : Nat) (hi : isLogIdx i = false) : Machine.get t i j = Machine.get s i j := get_congr h.dict j hi

theorem SameAir.nodeOnly : Machine.nodeOnly t = Machine.nodeOnly s := by simp [Machine.nodeOnly, h.strap]

theorem SameAir.homePort : Machine.homePort t = Machine.homePort s := by simp [Machine.homePort, h.strap]

theorem SameAir.managed : Machine.managed t p = Machine.managed s p := by
  have huplink : uplink t = uplink s := by rw [uplink, uplink, h.nodeOnly, h.homePort, h.get 5 rfl]
  rw [Machine.managed, Machine.managed, h.nodeOnly, huplink]

theorem SameAir.dikeOn : Machine.dikeOn t p = Machine.dikeOn s p := by
  have hcycles : cyclesRun t = cyclesRun s := by rw [cyclesRun, cyclesRun, h.md, h.reset, h.get 1 rfl]
  rw [Machine.dikeOn, Machine.dikeOn, hcycles, h.md, h.managed]

theorem SameAir.portEnabled (hp : p < 7) : Machine.portEnabled t p = Machine.portEnabled s p := by
  rw [Machine.portEnabled, Machine.portEnabled, flag, flag, h.get 1 (isLogIdx_portIdx hp), h.dead, h.nodeOnly, h.homePort]

theorem SameAir.airtime (hp : p < 7) (c : Bool) (l : Nat) : Machine.airtime t p c l = Machine.airtime s p c l := by
  rw [Machine.airtime, Machine.airtime, h.get 2 (isLogIdx_portIdx hp), h.get 3 (isLogIdx_portIdx hp)]

theorem SameAir.pollFrame (hp : p < 7) (n : Nat) : Machine.pollFrame t p n = Machine.pollFrame s p n := by
  rw [Machine.pollFrame, Machine.pollFrame, slotUs, slotUs, h.airtime hp]

theorem SameAir.frameNs (hp : p < 7) (o : Outgoing) : Machine.frameNs t p o = Machine.frameNs s p o := by
  have hport : classicalPort t p = classicalPort s p := by rw [classicalPort, classicalPort, h.get 3 (isLogIdx_portIdx hp)]
  have hto (n : Nat) : classicalTo t p n = classicalTo s p n := by rw [classicalTo, classicalTo, hport, h.classical]
  have hframe (type n : Nat) : classicalFrame t p type n = classicalFrame s p type n := by rw [classicalFrame, classicalFrame, hport, hto]
  rw [Machine.frameNs, Machine.frameNs, hframe, h.airtime hp]

theorem SameAir.covers (n ns : Nat) : Machine.covers t p n ns = Machine.covers s p n ns := by
  have hover : overruns t p n ns = overruns s p n ns := by rw [overruns, overruns, creditOf, creditOf, h.credit, h.pool]
  rw [Machine.covers, Machine.covers, h.dikeOn, hover]

end

/-- A poll that is covered and meets an empty queue goes out at once. -/
theorem poll_sent {s : State} {p : Nat} (n : Nat) (henabled : portEnabled s p = true) (hp : p < 7) (hempty : (port s p).tx = [])
    (hcovers : covers s p n (frameNs s p (pollFrame s p n)) = true) : Sent (poll s p n) p 0x0B n (rollcallPayload 2 n 1 (slotUs s p)) := by
  unfold poll
  extract_lets t
  have hair : SameAir p s t := sameAir_setPort s p fun _ => ⟨rfl, rfl, rfl, rfl⟩
  have hout : queueOut t p (pollFrame s p n) = sendOut t p (pollFrame s p n) := by
    unfold queueOut
    dsimp only
    rw [hair.frameNs hp, hair.tx, hempty]
    exact if_pos (by rw [show (pollFrame s p n).dst = n from rfl, hair.covers, hcovers]; rfl)
  have hdebited (u : State) (m ns : Nat) : portEnabled (debit u p m ns) p = portEnabled u p := (debit_frameIn u p m ns).portEnabled p
  rw [hout]
  unfold sendOut
  refine putFrame_sent ?_ (pollFrame s p n)
  split
  · rw [hdebited, hair.portEnabled hp, henabled]
  · rw [hair.portEnabled hp, henabled]

theorem poll_serves (s : State) {p : Nat} (n : Nat) (hp : p < 7) : (poll s p n).log.serves = s.log.serves := by
  unfold poll
  exact (queueOut_frameIn _ _ hp).serves

theorem pollIdle_serves (s : State) {p : Nat} (hp : p < 7) : (pollIdle s p).log.serves = s.log.serves := by
  unfold pollIdle
  split
  · rfl
  · split
    · rfl
    · split
      · exact poll_serves _ _ hp
      · rfl

/-- The idle partner that waits for its poll. -/
def pollAsked (s : State) (p n : Nat) : State :=
  setPort (serveBegin s .partnerIdle n 0 4 (partnerIdx n) 1) p fun x => { x with toPoll := x.toPoll ++ [n] }

theorem pollAsked_asks (s : State) (p n : Nat) : SameAir p s (pollAsked s p n) ∧ port (pollAsked s p n) p = { port s p with toPoll := (port s p).toPoll ++ [n] } ∧
    serving (pollAsked s p n) .partnerIdle n = true := by
  have hsaid := said_serveBegin s .partnerIdle n 0 4 (partnerIdx n) 1
  have hserving := serving_serveBegin s .partnerIdle n 0 4 (partnerIdx n) 1
  unfold pollAsked
  generalize serveBegin s .partnerIdle n 0 4 (partnerIdx n) 1 = b at hsaid hserving ⊢
  exact ⟨(hsaid.sameAir p).trans (sameAir_setPort b p fun _ => ⟨rfl, rfl, rfl, rfl⟩), by rw [port_setPort_same, hsaid.port], hserving⟩

/-- An idle partner's poll begins as second serve; it waits for one that is open, and else goes out (R245). -/
theorem pollIdle_asked {s : State} {p : Nat} (hp : p < 7) (henabled : portEnabled s p = true) (n : Nat) :
    let t := pollIdle (pollAsked s p n) p
    serving t .partnerIdle n = true ∧ t.md = s.md ∧
      ((port s p).polled ≠ none → (port t p).polled = (port s p).polled ∧ (port t p).toPoll = (port s p).toPoll ++ [n]) ∧
      ((port s p).polled = none → (port s p).toPoll = [] → (port s p).tx = [] → covers s p n (frameNs s p (pollFrame s p n)) = true →
        (port t p).polled = some n ∧ Sent t p 0x0B n (rollcallPayload 2 n 1 (slotUs s p))) := by
  obtain ⟨hair, hport, hserving⟩ := pollAsked_asks s p n
  generalize pollAsked s p n = b at hair hport hserving ⊢
  refine ⟨(serving_congr (pollIdle_serves b hp) _ _).trans hserving, (netIn_pollIdle [] b hp).md.trans hair.md, fun hopen => ?_,
    fun hnone hfirst hempty hcovers => ?_⟩
  · have hsome : (port b p).polled.isSome = true := by rw [hport]; exact Option.isSome_iff_ne_none.2 hopen
    unfold pollIdle
    rw [if_pos hsome, hport]
    exact ⟨rfl, rfl⟩
  · have hclosed : ¬ (port b p).polled.isSome = true := by rw [hport]; simp [hnone]
    have hlist : (port b p).toPoll = [n] := by rw [hport, hfirst]; rfl
    have hset : SameAir p s (setPort b p fun x => { x with toPoll := [] }) := hair.trans (sameAir_setPort b p fun _ => ⟨rfl, rfl, rfl, rfl⟩)
    have hpoll : pollIdle b p = poll (setPort b p fun x => { x with toPoll := [] }) p n := by
      unfold pollIdle
      rw [if_neg hclosed, hlist]
      dsimp only
      rw [if_pos (by rw [hair.pollFrame hp, hair.frameNs hp, hair.covers, hcovers])]
    have hsent := poll_sent (s := setPort b p fun x => { x with toPoll := [] }) n (by rw [hset.portEnabled hp, henabled]) hp (by rw [hset.tx, hempty])
      (by rw [hset.pollFrame hp, hset.frameNs hp, hset.covers, hcovers])
    have hslot : slotUs (setPort b p fun x => { x with toPoll := [] }) p = slotUs s p := by rw [slotUs, slotUs, hset.airtime hp]
    rw [hpoll]
    rw [hslot] at hsent
    exact ⟨(poll_port _ n hp).2.1, hsent⟩

/-! ## The obligation -/

/-- Settles O30: a response that no request awaits is counted, one that is awaited passes the retry and drops the transaction; what goes out to a peer,
by a session's end too, adds no transaction (`SendLeft`); and an idle partner's poll rests on what `SameAir` keeps. -/
theorem ownRequests : Obligations.OwnRequests := by
  unfold Obligations.OwnRequests
  refine fun x tid s => ⟨fun status d h hnone => ?_, fun status code h hnone => ?_, fun f d h hf => ?_, fun f code h hf => ?_, fun n f hf hrep => ?_,
    fun n f hf => ?_, fun n h2 h8 hlive hmanaged hserving => ⟨_, exec_partnerIdle h2 h8 hlive hmanaged hserving, ?_⟩⟩
  · have hserve : servePdu (taken s x (.readResponse tid status d)) x 0 (.readResponse tid status d) =
      sat (taken s x (.readResponse tid status d)) (portIdx x.p) 0x13 := serveReadResponse_late ((ownOf_taken _ _ _ _ _).trans hnone) status d
    exact completes_served rfl h hserve (taken_frameIn s x (.readResponse tid status d)).sessions rfl
  · have hserve : servePdu (taken s x (.writeResponse tid status code)) x 0 (.writeResponse tid status code) =
      sat (taken s x (.writeResponse tid status code)) (portIdx x.p) 0x13 := serveWriteResponse_late ((ownOf_taken _ _ _ _ _).trans hnone) status
    exact completes_served rfl h hserve (taken_frameIn s x (.writeResponse tid status code)).sessions rfl
  · have hown := (ownOf_taken s x (.readResponse tid 0 d) tid false).trans hf
    obtain ⟨hserving, hgone, hsessions⟩ := servePass_drops hown
    have hserve : servePdu (taken s x (.readResponse tid 0 d)) x 0 (.readResponse tid 0 d) = _ := serveReadResponse_ends hown d
    exact completes_served rfl h hserve (hsessions.trans (taken_frameIn s x (.readResponse tid 0 d)).sessions) ⟨hserving, hgone⟩
  · have hown := (ownOf_taken s x (.writeResponse tid 0 code) tid true).trans hf
    obtain ⟨hserving, hgone, hsessions⟩ := servePass_drops hown
    have hserve : servePdu (taken s x (.writeResponse tid 0 code)) x 0 (.writeResponse tid 0 code) = _ := serveWriteResponse_ends hown
    exact completes_served rfl h hserve (hsessions.trans (taken_frameIn s x (.writeResponse tid 0 code)).sessions) ⟨hserving, hgone⟩
  · obtain ⟨hmem, -⟩ := waitingFor_sound hf
    obtain ⟨hserving, hkept, hmd, hsheets⟩ := retryBegun_begins n.val hmem
    refine ⟨_, exec_lowerRetry hf hrep, ?_⟩
    generalize retryBegun s n.val f = b at hserving hkept hmd hsheets ⊢
    split
    · have hleft := repeatFrame_left b f
      exact ⟨(hleft.serving _ _).trans hserving, fun h => by rw [repeatFrame_transfers h]; exact hkept, hleft.md.trans hmd, hleft.sheets.trans hsheets⟩
    · exact ⟨hserving, fun _ => hkept, hmd, hsheets⟩
  · obtain ⟨hmem, htid⟩ := waitingFor_sound hf
    have hp := srcPort_lt f.src
    obtain ⟨hport, hpartner⟩ := upperCounted_counts s n.val tid f
    obtain ⟨htold, hcaller⟩ := upperTold_tells (upperCounted s n.val tid f) n.val tid f
    have hgone : f ∉ (upperCounted s n.val tid f).net.transfers := fun hin => ne_of_dropTransfer (s := s) (f := f) (by rw [htid]; exact hin) rfl
    have hmd : (upperCounted s n.val tid f).md = s.md := rfl
    have hserves : serving (upperCounted s n.val tid f) .tdpRequest n.val = serving s .tdpRequest n.val := rfl
    have hdoubles : get (upperCounted s n.val tid f) 0x2400 3 = get s 0x2400 3 := rfl
    refine ⟨_, exec_upperTimeout hf, ?_⟩
    generalize upperCounted s n.val tid f = b at *
    generalize upperTold b n.val tid f = t at *
    have htransfers : f ∉ t.net.transfers := fun hin => hgone (htold.transfers f hin)
    have hport' : get t (portIdx f.src.p) 0x14 = min (get s (portIdx f.src.p) 0x14 + 1) 65535 :=
      (htold.get (isLogIdx_portIdx hp) (by unfold CalmKey keyOf portIdx; omega)).trans hport
    have hpartner' : get t (partnerIdx n.val) 0x0B = min (get s (partnerIdx n.val) 0x0B + 1) 65535 :=
      (htold.get (isLogIdx_partnerIdx _) (calmKey_partner (by decide) (by decide) (by decide))).trans hpartner
    by_cases hserving : serving t .tdpRequest n.val = true
    · rw [if_pos hserving]
      have hsaid := said_doubleFault t .tdpRequest n.val 0 4 (partnerIdx n.val) 0x0B
      exact ⟨by rw [hsaid.net]; exact htransfers, serving_doubleFault _ _ _ _ _ _ _, (hsaid.log.get _ (isLogIdx_portIdx hp)).trans hport',
        (hsaid.log.get _ (isLogIdx_partnerIdx _)).trans hpartner', hsaid.log.md.trans (htold.md.trans hmd),
        fun hown => keepsSent_doubleFault _ _ _ _ _ _ _ _ (hcaller hown), fun _ => by rw [doubleFault_counts, htold.doubles, hdoubles]⟩
    · rw [if_neg hserving]
      exact ⟨htransfers, by simpa using hserving, hport', hpartner', htold.md.trans hmd, hcaller,
        fun h => absurd ((htold.serving _ _).trans (hserves.trans h)) hserving⟩
  · have henabled : portEnabled s (get s (partnerIdx n.val) 2) = true := by
      simp only [portLive, Bool.and_eq_true] at hlive
      exact hlive.1.1
    exact pollIdle_asked (portLive_lt hlive) henabled n.val

end Sys2Proof.Machine

/-! # The ports under SAFESTOP, and a port that goes off (R205, R225) -/

namespace Sys2Proof.Machine

/-! ## What SAFESTOP leaves of the ports -/

/-- The ports' state alone. -/
structure PortsView where
  ports : Tab Port

def portsView (s : State) : PortsView :=
  ⟨s.net.ports⟩

@[simp] theorem portsView_mk (time powered md kick hold reset_ seq rails clk net flash dict blobs staged stagedBlobs stagers armed accs sheets
    nextUid tenants coalescing mem stations trackers slots motors axes loops ains pins diag log heatTicks heatFrom out fresh pending) :
    portsView ⟨time, powered, md, kick, hold, reset_, seq, rails, clk, net, flash, dict, blobs, staged, stagedBlobs, stagers, armed, accs,
    sheets, nextUid, tenants, coalescing, mem, stations, trackers, slots, motors, axes, loops, ains, pins, diag, log, heatTicks, heatFrom, out,
    fresh, pending⟩ = ⟨net.ports⟩ := rfl
@[simp] theorem portsView_self (s : State) :
    PortsView.mk s.net.ports = portsView s := rfl

theorem Said.portsView {s t : State} (h : Said s t) : Machine.portsView t = Machine.portsView s := by
  unfold Machine.portsView
  rw [h.net]

@[simp] theorem vector_portsView (s : State) (fn vec : Nat) : portsView (vector s fn vec) = portsView s := (said_vector s fn vec).portsView
@[simp] theorem noticeAlone_portsView (s : State) (idx sub cls : Nat) : portsView (noticeAlone s idx sub cls) = portsView s :=
  (said_noticeAlone s idx sub cls).portsView
@[simp] theorem log_portsView (s : State) (cls kind src inst idx sub : Nat) (serial : Option Nat) (detail : Nat) :
    portsView (log s cls kind src inst idx sub serial detail) = portsView s := (said_log s cls kind src inst idx sub serial detail).portsView
@[simp] theorem logEvent_portsView (s : State) (cls src inst idx sub : Nat) : portsView (logEvent s cls src inst idx sub) = portsView s :=
  (said_logEvent s cls src inst idx sub).portsView
@[simp] theorem causeEnd_portsView (s : State) (c n : Nat) : portsView (causeEnd s c n) = portsView s := (said_causeEnd s c n).portsView

@[simp] theorem ite_portsView (c : Prop) [Decidable c] (a b : State) :
    portsView (if c then a else b) = if c then portsView a else portsView b := apply_ite portsView c a b
@[simp] theorem ite_portsView1 {α : Type} (c : Prop) [Decidable c] (a b : State × α) :
    portsView (if c then a else b).1 = if c then portsView a.1 else portsView b.1 := apply_ite (fun x : State × α => portsView x.1) c a b
@[simp] theorem foldl_portsView {α : Type} (l : List α) (f : State → α → State) (s : State)
    (h : ∀ u x, portsView (f u x) = portsView u) :
    portsView (l.foldl f s) = portsView s := foldl_view portsView l f s fun u x _ => h u x
@[simp] theorem forEach_portsView (l : List Nat) (f : State → Nat → State) (s : State)
    (h : ∀ u x, portsView (f u x) = portsView u) :
    portsView (forEach l f s) = portsView s := foldl_portsView l f s h
@[simp] theorem put_portsView (s : State) (i j v : Nat) : portsView (put s i j v) = portsView s := (rfl)
@[simp] theorem putS_portsView (s : State) (w i j : Nat) (v : Int) : portsView (putS s w i j v) = portsView s := (rfl)
@[simp] theorem wrapBy_portsView (w : Nat) (s : State) (i j n : Nat) : portsView (wrapBy w s i j n) = portsView s := (rfl)
@[simp] theorem satBy_portsView (w : Nat) (s : State) (i j n : Nat) : portsView (satBy w s i j n) = portsView s := (rfl)
@[simp] theorem bump_portsView (s : State) (i j : Nat) : portsView (bump s i j) = portsView s := (rfl)
@[simp] theorem sat_portsView (s : State) (i j : Nat) : portsView (sat s i j) = portsView s := (rfl)
@[simp] theorem putLog_portsView (s : State) (i j v : Nat) : portsView (putLog s i j v) = portsView s := (rfl)
@[simp] theorem satLog_portsView (w : Nat) (s : State) (i j : Nat) : portsView (satLog w s i j) = portsView s := (rfl)
@[simp] theorem emit_portsView (s : State) (o : Output) : portsView (emit s o) = portsView s := (rfl)
@[simp] theorem setStation_portsView (s : State) (n : Nat) (f : Station → Station) : portsView (setStation s n f) = portsView s := (rfl)
@[simp] theorem setTracker_portsView (s : State) (n : Nat) (f : Tracker → Tracker) : portsView (setTracker s n f) = portsView s := (rfl)
@[simp] theorem setMotor_portsView (s : State) (n : Nat) (f : Motor → Motor) : portsView (setMotor s n f) = portsView s := (rfl)
@[simp] theorem setAxis_portsView (s : State) (n : Nat) (f : Axis → Axis) : portsView (setAxis s n f) = portsView s := (rfl)
@[simp] theorem setLoop_portsView (s : State) (n : Nat) (f : Loop → Loop) : portsView (setLoop s n f) = portsView s := (rfl)
@[simp] theorem modSheet_portsView (s : State) (uid : Nat) (f : Sheet → Sheet) : portsView (modSheet s uid f) = portsView s := (rfl)

@[simp] theorem holdTime_portsView (s : State) : portsView (holdTime s) = portsView s := (rfl)
@[simp] theorem serveDrop_portsView (s : State) (m : Mech) (inst : Nat) : portsView (serveDrop s m inst) = portsView s := (rfl)
@[simp] theorem serveCancel_portsView (s : State) (m : Mech) (inst src idx sub : Nat) : portsView (serveCancel s m inst src idx sub) = portsView
    s := by
  unfold serveCancel; split <;> simp
@[simp] theorem watch_portsView (high : Bool) (s : State) (idx sub old v : Nat) : portsView (watch high s idx sub old v) = portsView s := by
  unfold watch; simp
@[simp] theorem causeAdd_portsView (s : State) (c inst : Nat) : portsView (causeAdd s c inst) = portsView s := by unfold causeAdd; simp
@[simp] theorem setSlots_portsView (s : State) (l : Tab Event) : portsView (setSlots s l) = portsView s := by unfold setSlots; simp
@[simp] theorem dropEvents_portsView (s : State) (p : Event → Bool) : portsView (dropEvents s p) = portsView s := by unfold dropEvents; simp
@[simp] theorem overtaken_portsView (s : State) (uid : Nat) : portsView (overtaken s uid) = portsView s := (rfl)
@[simp] theorem setMotorState_portsView (s : State) (m v : Nat) : portsView (setMotorState s m v) = portsView s := (rfl)
@[simp] theorem brakeMotor_portsView (s : State) (m : Nat) : portsView (brakeMotor s m) = portsView s := by unfold brakeMotor; simp
@[simp] theorem setHomed_portsView (s : State) (a : Nat) (b : Bool) : portsView (setHomed s a b) = portsView s := (rfl)
@[simp] theorem settlePosition_portsView (s : State) (a : Nat) (pos : Int) (steps : Nat) : portsView (settlePosition s a pos steps) = portsView
    s := (rfl)
@[simp] theorem hardStop_portsView (s : State) (a : Nat) : portsView (hardStop s a) = portsView s := by
  unfold hardStop; simp only; (repeat' split) <;> simp
@[simp] theorem safestopAxis_portsView (s : State) (a : Nat) : portsView (safestopAxis s a) = portsView s := by unfold safestopAxis; simp
@[simp] theorem outputOff_portsView (s : State) (n : Nat) : portsView (outputOff s n) = portsView s := by unfold outputOff; simp
@[simp] theorem loopOffNow_portsView (s : State) (n : Nat) : portsView (loopOffNow s n) = portsView s := by unfold loopOffNow; simp
@[simp] theorem safestopLoop_portsView (s : State) (n : Nat) : portsView (safestopLoop s n) = portsView s := by unfold safestopLoop; simp
@[simp] theorem restLanes_portsView (s : State) (n : Nat) : portsView (restLanes s n) = portsView s := (rfl)
@[simp] theorem updateFreeboard_portsView (s : State) (n : Nat) : portsView (updateFreeboard s n) = portsView s := by unfold updateFreeboard; simp
@[simp] theorem setDecoder_portsView (s : State) (n v : Nat) : portsView (setDecoder s n v) = portsView s := (rfl)
@[simp] theorem refill_portsView (s : State) (n : Nat) : portsView (refill s n) = portsView s := by unfold refill; simp
@[simp] theorem dropPlane_portsView (s : State) (n state : Nat) : portsView (dropPlane s n state) = portsView s := (rfl)
@[simp] theorem discardData_portsView (s : State) (n uid : Nat) : portsView (discardData s n uid) = portsView s := (rfl)
@[simp] theorem emptyFifo_portsView (s : State) (n : Nat) : portsView (emptyFifo s n) = portsView s := by unfold emptyFifo; simp
@[simp] theorem stopRaster_portsView (s : State) (n : Nat) : portsView (stopRaster s n) = portsView s := by unfold stopRaster; simp
@[simp] theorem forgetAt_portsView (s : State) (uid n : Nat) : portsView (forgetAt s uid n) = portsView s := by unfold forgetAt; simp
@[simp] theorem forgetRaster_portsView (s : State) (uid : Nat) : portsView (forgetRaster s uid) = portsView s := by unfold forgetRaster; simp
@[simp] theorem withdrawOne_portsView (s : State) (uid : Nat) : portsView (withdrawOne s uid) = portsView s := by unfold withdrawOne; simp
@[simp] theorem phaseLost_portsView (s : State) (k : Nat) : portsView (phaseLost s k) = portsView s := by unfold phaseLost; simp
@[simp] theorem holdOff_portsView (s : State) (k : Nat) : portsView (holdOff s k) = portsView s := by unfold holdOff; simp
@[simp] theorem holdUnlit_portsView (s : State) : portsView (holdUnlit s) = portsView s := by unfold holdUnlit; simp
@[simp] theorem dropCorrections_portsView (s : State) (n : Nat) : portsView (dropCorrections s n) = portsView s := (rfl)
@[simp] theorem merged_portsView (s : State) (g : Nat) : portsView (merged s g) = portsView s := (rfl)
@[simp] theorem dropStaged_portsView (s : State) (g : Nat) : portsView (dropStaged s g) = portsView s := (rfl)
@[simp] theorem copyGroup_portsView (s : State) (g : Nat) : portsView (copyGroup s g) = portsView s := (rfl)
@[simp] theorem rejectGroup_portsView (s : State) (g : Nat) : portsView (rejectGroup s g) = portsView s := by unfold rejectGroup; simp
@[simp] theorem setDlls_portsView (s : State) (v : Nat) : portsView (setDlls s v) = portsView s := by unfold setDlls; simp
@[simp] theorem closeGate_portsView (s : State) : portsView (closeGate s) = portsView s := by unfold closeGate; simp
@[simp] theorem relockAttempt_portsView (s : State) : portsView (relockAttempt s) = portsView s := (rfl)
@[simp] theorem startRelock_portsView (s : State) (occ : Occasion) : portsView (startRelock s occ) = portsView s := by unfold startRelock; simp
@[simp] theorem recordMode_portsView (s : State) (new : Mode) (cause : Nat) : portsView (recordMode s new cause) = portsView s := by
  unfold recordMode; simp
@[simp] theorem rasterOff_portsView (s : State) : portsView (rasterOff s) = portsView s := by unfold rasterOff; simp
@[simp] theorem serviceOff_portsView (s : State) : portsView (serviceOff s) = portsView s := by unfold serviceOff; simp
@[simp] theorem dozeRailsOn_portsView (s : State) : portsView (dozeRailsOn s) = portsView s := (rfl)
@[simp] theorem leaveDoze_portsView (s : State) : portsView (leaveDoze s) = portsView s := by unfold leaveDoze; simp
@[simp] theorem recordCause_portsView (s : State) (cause : Nat) : portsView (recordCause s cause) = portsView s := (rfl)
@[simp] theorem safestopMotor_portsView (s : State) (m : Nat) : portsView (safestopMotor s m) = portsView s := by unfold safestopMotor; simp
@[simp] theorem safestopAxisAll_portsView (s : State) (a : Nat) : portsView (safestopAxisAll s a) = portsView s := by unfold safestopAxisAll; simp
@[simp] theorem withdrawEvery_portsView (s : State) : portsView (withdrawEvery s) = portsView s := by unfold withdrawEvery; simp
@[simp] theorem dozeToSafestop_portsView (s : State) : portsView (dozeToSafestop s) = portsView s := by unfold dozeToSafestop; simp
@[simp] theorem safestopEnter_portsView (s : State) (cause : Nat) : portsView (safestopEnter s cause) = portsView s := by unfold safestopEnter; simp
@[simp] theorem safestop_portsView (s : State) (cause : Nat) : portsView (safestop s cause) = portsView s := by unfold safestop; split <;> simp
@[simp] theorem safestopBy_portsView (s : State) (cause inst : Nat) : portsView (safestopBy s cause inst) = portsView s := by
  unfold safestopBy; simp

theorem port_of_portsView {s t : State} (h : portsView t = portsView s) (p : Nat) : port t p = port s p := by
  have hports : t.net.ports = s.net.ports := congrArg PortsView.ports h
  rw [port, port, hports]

/-! ## A partner that goes leaves the ports (R223 to R225) -/

theorem partnerHoldEnds_portsView (s : State) (n : Nat) : portsView (partnerHoldEnds s n) = portsView s := by
  unfold partnerHoldEnds
  split
  · simp [releaseStager]
  · rfl

theorem partnerTo_portsView (s : State) (n v : Nat) : portsView (partnerTo s n v).1 = portsView s := by
  unfold partnerTo setPartner
  dsimp only
  split
  · simp
  · split
    · unfold lossResponse
      split <;> simp
    · simp

theorem partnerGoes_portsView (s : State) (n v : Nat) : portsView (partnerGoes s n v) = portsView s := by
  unfold partnerGoes onPartner
  split <;> simp [partnerTo_portsView, partnerHoldEnds_portsView]

/-! ## A port that stays off (R205) -/

/-- A port that is off sends and serves nothing, and nothing waits in it. -/
structure PortOff (p : Nat) (t : State) : Prop where
  dead : (port t p).dead = true
  rx : (port t p).rx = []
  tx : (port t p).tx = []

theorem PortOff.portEnabled {p : Nat} {t : State} (h : PortOff p t) : Machine.portEnabled t p = false := by simp [Machine.portEnabled, h.dead]

theorem port_setTx_same (s : State) (p : Nat) (l : List Outgoing) : port (setTx s p l) p = { port s p with tx := l } := by
  rw [setTx, watch_port, port_setPort_same]

theorem portDies_off (s : State) (p : Nat) : PortOff p (portDies s p) := by
  unfold portDies
  extract_lets t u
  have hport : port u p = { port (setRx (setTx t p []) p []) p with dead := true, recovering := false, polled := none, toPoll := [] } := port_setPort_same _ _ _
  rw [port_setRx_same, port_setTx_same] at hport
  have hkept : portsView (((assigned u p).filter fun n => partnerState u n == 2).foldl (fun v n => partnerGoes v n 3) u) = portsView u :=
    foldl_portsView _ _ u fun v n => partnerGoes_portsView v n 3
  have hall := port_of_portsView hkept p
  exact ⟨by rw [hall, hport], by rw [hall, hport], by rw [hall, hport]⟩

end Sys2Proof.Machine

/-! # Ports, foreign frames, sessions and the network's own objects (R201 to R205, R210, R223, R229 to R232, R248 to R250) -/

namespace Sys2Proof.Machine

/-! ## Errors of a port (R205, R229) -/

/-- A bus-off as it is counted. -/
def busOffNoted (s : State) (p : Nat) : State :=
  setPort (sat s (portIdx p) 0x16) p fun x => { x with lastBusOff := some s.time, recovering := true }

theorem exec_busOff_first {s : State} {p : Fin 4} (hlive : portLive s p.val = true) (h : ∀ b, (port s p.val).lastBusOff = some b → ticksS 10 < s.time - b) :
    exec (.busOff p) s = .next (settle (serveBegin (busOffNoted s p.val) .canPort p.val 0 4 (portIdx p.val) 0x16)) := by
  cases hlast : (port s p.val).lastBusOff with
  | none => simp [exec, execBusOff, hlive, hlast, done, busOffNoted]
  | some b => simp [exec, execBusOff, hlive, hlast, Nat.not_le.2 (h b hlast), done, busOffNoted]

theorem exec_busOff_again {s : State} {p : Fin 4} {b : Nat} (hlive : portLive s p.val = true) (hlast : (port s p.val).lastBusOff = some b)
    (h : s.time - b ≤ ticksS 10) :
    exec (.busOff p) s = .next (settle (portDies (doubleFault (busOffNoted s p.val) .canPort p.val 0 4 (portIdx p.val) 0x16) p.val)) := by
  simp [exec, execBusOff, hlive, hlast, h, done, busOffNoted]

/-- The first bus-off begins recovery. -/
theorem busOffNoted_recovers (s : State) {p : Nat} (hp : p < 7) :
    let t := serveBegin (busOffNoted s p) .canPort p 0 4 (portIdx p) 0x16
    (port t p).recovering = true ∧ (port t p).lastBusOff = some s.time ∧ serving t .canPort p = true ∧
      get t (portIdx p) 0x16 = min (get s (portIdx p) 0x16 + 1) 65535 ∧ t.md = s.md := by
  have hport : port (busOffNoted s p) p = { port s p with lastBusOff := some s.time, recovering := true } := port_setPort_same _ _ _
  have hcount : get (busOffNoted s p) (portIdx p) 0x16 = min (get s (portIdx p) 0x16 + 1) 65535 := get_put_same s _ _ (isLogIdx_portIdx hp)
  have hmd : (busOffNoted s p).md = s.md := rfl
  have hserving := serving_serveBegin (busOffNoted s p) .canPort p 0 4 (portIdx p) 0x16
  have hsaid := said_serveBegin (busOffNoted s p) .canPort p 0 4 (portIdx p) 0x16
  generalize busOffNoted s p = b at *
  generalize serveBegin b .canPort p 0 4 (portIdx p) 0x16 = t at *
  exact ⟨by rw [hsaid.port, hport], by rw [hsaid.port, hport], hserving, (hsaid.log.get _ (isLogIdx_portIdx hp)).trans hcount, hsaid.log.md.trans hmd⟩

/-- An error frame in a slot of the roll-call is a CONFLICT. -/
theorem errorFrame_conflict (s : State) {p : Nat} (n : Nat) (hp : p < 7) :
    let t := partnerGoes (sat s (portIdx p) 0x15) n 7
    partnerState t n = 7 ∧ get t (portIdx p) 0x15 = min (get s (portIdx p) 0x15 + 1) 65535 ∧ t.md = s.md := by
  have hcount : get (sat s (portIdx p) 0x15) (portIdx p) 0x15 = min (get s (portIdx p) 0x15 + 1) 65535 := get_put_same s _ _ (isLogIdx_portIdx hp)
  obtain ⟨hstate, hnet⟩ := partnerGoes_set (s := sat s (portIdx p) 0x15) (n := n) (v := 7) (.inr (by decide))
  refine ⟨hstate, (hnet.get (isLogIdx_portIdx hp) (by unfold CalmKey keyOf portIdx; omega) ?_).trans hcount, hnet.md⟩
  rw [stateKey, List.mem_singleton]
  exact portKey_ne_partnerKey hp (by decide) (by decide)

/-- A frame that is no TDP frame is counted twice and acknowledged at most. -/
theorem discardFrame_counts (s : State) {p : Nat} (hp : p < 7) :
    get (discardFrame s p) (portIdx p) 0x18 = min (get s (portIdx p) 0x18 + 1) 65535 ∧
      get (discardFrame s p) (portIdx p) 0x10 = (get s (portIdx p) 0x10 + 1) % 2 ^ 32 ∧
      KeepsObjects [keyOf (portIdx p) 0x10, keyOf (portIdx p) 0x18] s (discardFrame s p) ∧
      discardFrame s p = { s with dict := (discardFrame s p).dict, out := (discardFrame s p).out } := by
  have hlog := isLogIdx_portIdx hp
  have hack : (acknowledgeCan s p).dict = s.dict ∧ acknowledgeCan s p = { s with out := (acknowledgeCan s p).out } := by
    unfold acknowledgeCan
    split <;> exact ⟨rfl, rfl⟩
  unfold discardFrame
  generalize acknowledgeCan s p = b at hack ⊢
  obtain ⟨hdict, honly⟩ := hack
  have hget (j : Nat) : get b (portIdx p) j = get s (portIdx p) j := get_congr hdict j hlog
  have hreceived : get (bump b (portIdx p) 0x10) (portIdx p) 0x10 = (get s (portIdx p) 0x10 + 1) % 2 ^ 32 :=
    (get_put_same b _ _ hlog).trans (by rw [hget])
  have hdiscards : get (bump b (portIdx p) 0x10) (portIdx p) 0x18 = get s (portIdx p) 0x18 :=
    (get_put_other b _ (by unfold keyOf; omega)).trans (hget _)
  have hkept : KeepsObjects [keyOf (portIdx p) 0x10, keyOf (portIdx p) 0x18] s (bump b (portIdx p) 0x10) :=
    keepsObjects_trans (keepsObjects_of_dict_eq hdict) (keepsObjects_put b _ _ _ (by simp))
  refine ⟨(get_put_same _ _ _ hlog).trans (by rw [hdiscards]; rfl), (get_put_other _ _ (by unfold keyOf; omega)).trans hreceived,
    keepsObjects_trans hkept (keepsObjects_put _ _ _ _ (by simp)), ?_⟩
  rw [honly]
  rfl

/-- Recovery has ended. -/
theorem busOffEnded (s : State) (p : Nat) :
    let t := servePass (setPort s p fun x => { x with recovering := false }) .canPort p 4 (portIdx p) 0x16
    (port t p).recovering = false ∧ serving t .canPort p = false ∧ t.md = s.md := by
  have hsaid := said_servePass (setPort s p fun x => { x with recovering := false }) .canPort p 4 (portIdx p) 0x16
  exact ⟨by rw [hsaid.port, port_setPort_same], serving_servePass _ _ _ _ _ _, hsaid.log.md⟩

/-! ## Sessions that end (R78, R250) -/

theorem releaseStager_log (s : State) (a : Accessor) : SameButLog (unstaged s a) (releaseStager s a) :=
  .foldl _ _ (fun u _ => log_sameButLog u _ _ _ _ _ _ _ _) (unstaged s a)

/-- What the end of a session leaves and takes. -/
structure SessionEnded (id : Nat) (s t : State) : Prop where
  sessions : t.net.sessions = s.net.sessions.filter fun x => x.id != id
  stagers : t.stagers = s.stagers.filter fun p => p.2 != .session id
  accs : t.accs = s.accs.filter fun p => p.1 != .session id
  dict : t.dict = s.dict
  blobs : t.blobs = s.blobs
  md : t.md = s.md

theorem endSession_ended (s : State) (id : Nat) : SessionEnded id s (endSession s id) := by
  have hlog := releaseStager_log (sessionGone s id) (.session id)
  have hsessions := (endSession_net s id).2.1
  rw [endSession_eq] at hsessions ⊢
  generalize releaseStager (sessionGone s id) (.session id) = t at *
  refine ⟨hsessions, ?_, ?_, ?_, ?_, ?_⟩
  · exact hlog.stagers
  · exact congrArg (List.filter fun p => p.1 != .session id) hlog.accs
  · exact hlog.dict
  · exact hlog.blobs
  · exact hlog.md

theorem SessionEnded.gone {id : Nat} {s t : State} (h : SessionEnded id s t) : (∀ z ∈ t.net.sessions, z.id ≠ id) ∧ (∀ p ∈ t.stagers, p.2 ≠ .session id) ∧
    ∀ p ∈ t.accs, p.1 ≠ .session id := by
  obtain ⟨hsessions, hstagers, haccs, -, -, -⟩ := h
  refine ⟨fun z hz => ?_, fun p hp => ?_, fun p hp => ?_⟩
  · rw [hsessions] at hz
    simpa using (List.mem_filter.1 hz).2
  · rw [hstagers] at hp
    simpa using (List.mem_filter.1 hp).2
  · rw [haccs] at hp
    simpa using (List.mem_filter.1 hp).2

/-- The end of another session brings none of these back. -/
theorem expireSession_fewer (s : State) (x : FrameSrc) :
    (∀ z ∈ (expireSession s x).net.sessions, z ∈ s.net.sessions) ∧ ∀ p ∈ (expireSession s x).stagers, p ∈ s.stagers := by
  rcases expireSession_cases s x with h | ⟨id, h⟩
  · rw [h]
    exact ⟨fun _ hz => hz, fun _ hp => hp⟩
  · rw [h]
    have hended := endSession_ended s id
    exact ⟨fun z hz => by rw [hended.sessions] at hz; exact List.mem_of_mem_filter hz,
      fun p hp => by rw [hended.stagers] at hp; exact List.mem_of_mem_filter hp⟩

/-- The sessions of a key slot end; the objects stay. -/
structure SlotEnded (slot : Nat) (s t : State) : Prop where
  sessions : ∀ z ∈ t.net.sessions, z.slot ≠ slot
  dict : t.dict = s.dict
  blobs : t.blobs = s.blobs

theorem foldl_endSession (l : List Session) (s : State) :
    let t := l.foldl (fun u x => endSession u x.id) s
    (∀ z ∈ t.net.sessions, z ∈ s.net.sessions ∧ ∀ x ∈ l, z.id ≠ x.id) ∧ t.dict = s.dict ∧ t.blobs = s.blobs := by
  induction l generalizing s with
  | nil => exact ⟨fun z hz => ⟨hz, fun x hx => absurd hx List.not_mem_nil⟩, rfl, rfl⟩
  | cons y l ih =>
    have hended := endSession_ended s y.id
    obtain ⟨hrest, hdict, hblobs⟩ := ih (endSession s y.id)
    refine ⟨fun z hz => ?_, hdict.trans hended.dict, hblobs.trans hended.blobs⟩
    obtain ⟨hin, hother⟩ := hrest z hz
    have hgone := hended.gone.1 z hin
    rw [hended.sessions] at hin
    refine ⟨List.mem_of_mem_filter hin, fun x hx => ?_⟩
    rcases List.mem_cons.1 hx with rfl | hx
    · exact hgone
    · exact hother x hx

theorem endSlotSessions_ended (s : State) (slot : Nat) : SlotEnded slot s (endSlotSessions s slot) := by
  obtain ⟨hsessions, hdict, hblobs⟩ := foldl_endSession (s.net.sessions.filter fun x => x.slot == slot) s
  refine ⟨fun z hz hslot => ?_, hdict, hblobs⟩
  obtain ⟨hin, hother⟩ := hsessions z hz
  exact hother z (List.mem_filter.2 ⟨hin, beq_iff_eq.2 hslot⟩) rfl

/-! ## SESSION_HELLO and SESSION_CLOSE (R248 to R250) -/

/-- A hello passes the gate without a session (R251). -/
theorem authGate_hello {s : State} {x : FrameSrc} (slot : Nat) (nonce : List Byte) (hnone : sessionAt s x.ip x.udpPort = none) (hauth : x.auth = none) :
    authGate s x (.sessionHello slot nonce) = (s, true) := by
  unfold authGate
  split
  · rfl
  · rw [hnone, hauth]
    simp [Pdu.isHello]

theorem exec_hello {s : State} {x : FrameSrc} {slot : Nat} {nonce : List Byte} (hfits : fits s x (.sessionHello slot nonce) = true)
    (hlive : portLive s x.p = true) (hserves : serves s = true) (hempty : (port s x.p).rx = [])
    (hwaits : waits (arrived s x (.sessionHello slot nonce)) x (.sessionHello slot nonce) = false)
    (hnone : sessionAt s x.ip x.udpPort = none) (hauth : x.auth = none) :
    exec (.sessionHello x slot nonce) s =
      .next (settle (expireSession (serveHello (taken s x (.sessionHello slot nonce)) x slot nonce) x)) := by
  have hgate : authGate (taken s x (.sessionHello slot nonce)) x (.sessionHello slot nonce) = (taken s x (.sessionHello slot nonce), true) :=
    authGate_hello slot nonce (by rw [(taken_frameIn s x _).sessionAt, hnone]) hauth
  rw [exec_of_pduOf rfl, receive_first hlive hfits hserves hempty, hwaits, if_neg Bool.false_ne_true, serveOne, hgate]
  rfl

/-- The session that a hello opens. -/
def helloSession (s : State) (x : FrameSrc) (slot : Nat) (nonce : List Byte) : Session :=
  { id := s.net.nextSession, slot := slot, ip := x.ip, udpPort := x.udpPort,
    key := hmac (getBlob s 0x2700 (0x21 + slot)) (ascii "TDP1" ++ nonce ++ leBytes 8 (Config.nonce s.fresh)) }

/-- A hello under a key opens its session. -/
theorem serveHello_opens {s : State} {x : FrameSrc} {slot : Nat} (nonce : List Byte) (hslot : slot < 4) (hkind : get s 0x2700 (0x25 + slot) ≠ 0)
    (hkey : getBlob s 0x2700 (0x21 + slot) ≠ []) (hfree : s.net.sessions.length < 8) (hnone : sessionAt s x.ip x.udpPort = none) :
    (serveHello s x slot nonce).net.sessions = helloSession s x slot nonce :: s.net.sessions ∧
      (serveHello s x slot nonce).net.nextSession = s.net.nextSession + 1 ∧ (serveHello s x slot nonce).md = s.md := by
  have hothers := List.length_filter_le (fun y : Session => !(y.ip == x.ip && y.udpPort == x.udpPort)) s.net.sessions
  have hopen : ¬ (4 ≤ slot ∨ get s 0x2700 (0x25 + slot) = 0 ∨ (getBlob s 0x2700 (0x21 + slot)).isEmpty = true ∨
      8 ≤ (s.net.sessions.filter fun y => !(y.ip == x.ip && y.udpPort == x.udpPort)).length) := by
    rw [List.isEmpty_iff]
    rintro (h | h | h | h)
    · omega
    · exact hkind h
    · exact hkey h
    · omega
  unfold serveHello
  dsimp only
  rw [if_neg hopen, hnone]
  dsimp only
  have hframe (u : State) (payload : List Byte) (peer : Option (Nat × Nat)) := sendAcyclic_frameIn u (p := 6) 0x0E x.n payload peer (by decide)
  exact ⟨(hframe _ _ _).sessions, by rw [(hframe _ _ _).net], (hframe _ _ _).md⟩

/-- A hello that finds no place is dropped and counted. -/
theorem serveHello_drops {s : State} {x : FrameSrc} {slot : Nat} (nonce : List Byte) (hnone : sessionAt s x.ip x.udpPort = none)
    (h : 4 ≤ slot ∨ get s 0x2700 (0x25 + slot) = 0 ∨ getBlob s 0x2700 (0x21 + slot) = [] ∨ 8 ≤ s.net.sessions.length) :
    serveHello s x slot nonce = authDrop s := by
  have hothers : (s.net.sessions.filter fun y => !(y.ip == x.ip && y.udpPort == x.udpPort)) = s.net.sessions :=
    List.filter_eq_self.2 fun y hy => by
      rw [Bool.not_eq_true']
      exact Bool.eq_false_iff.2 (List.find?_eq_none.1 hnone y hy)
  have hfull : 4 ≤ slot ∨ get s 0x2700 (0x25 + slot) = 0 ∨ (getBlob s 0x2700 (0x21 + slot)).isEmpty = true ∨
      8 ≤ (s.net.sessions.filter fun y => !(y.ip == x.ip && y.udpPort == x.udpPort)).length := by
    rw [hothers, List.isEmpty_iff]
    exact h
  exact if_pos hfull

/-- A hello that opens a session, or is dropped, ends none. -/
theorem expireSession_opened {s : State} {x : FrameSrc} {y : Session} {l : List Session} (h : s.net.sessions = y :: l) (hip : y.ip = x.ip)
    (hudp : y.udpPort = x.udpPort) (hseq : y.inSeq = 0) : expireSession s x = s := by
  have hat : sessionAt s x.ip x.udpPort = some y := by
    rw [sessionAt, h]
    exact List.find?_cons_of_pos (by simp [hip, hudp])
  unfold expireSession
  rw [hat]
  dsimp only
  rw [hseq, if_neg (by decide)]

/-- A trailer is checked over what no frame moves (R249). -/
theorem FrameIn.authentic {s t : State} (h : FrameIn s t) (x : FrameSrc) (u : Pdu) (y : Session) (q : Nat) (tag : List Byte) :
    Machine.authentic t x u y q tag = Machine.authentic s x u y q tag := by
  have hown : ownNumber t x.p = ownNumber s x.p := by
    rw [ownNumber, ownNumber, h.uplink, h.get rfl (calmKey_of_object (by decide) (by decide))]
  have hdst : pduDst t x.p u = pduDst s x.p u := by
    unfold pduDst
    rw [hown]
  rw [Machine.authentic, Machine.authentic, hdst]

/-- The session whose PDU has been taken. -/
def sequenced (s : State) (y : Session) (q : Nat) : State := setSession s y.id fun z => { z with inSeq := q }

theorem sessionAt_sequenced {s : State} {x : FrameSrc} {y : Session} (h : sessionAt s x.ip x.udpPort = some y) (q : Nat) :
    sessionAt (sequenced s y q) x.ip x.udpPort = some { y with inSeq := q } := by
  have hlist : (sequenced s y q).net.sessions = s.net.sessions.map fun z => if z.id = y.id then { z with inSeq := q } else z := rfl
  have hsame : ((fun z : Session => z.ip == x.ip && z.udpPort == x.udpPort) ∘ fun z => if z.id = y.id then { z with inSeq := q } else z) =
      fun z => z.ip == x.ip && z.udpPort == x.udpPort := by
    funext z
    rw [Function.comp_apply]
    split <;> rfl
  rw [sessionAt] at h ⊢
  rw [hlist, List.find?_map, hsame, h, Option.map_some, if_pos rfl]

theorem exec_close {s : State} {x : FrameSrc} {slot q : Nat} {tag : List Byte} {y : Session} (h6 : x.p = 6) (hlive : portLive s 6 = true)
    (hserves : serves s = true) (hempty : (port s 6).rx = []) (hfits : fits s x (.sessionClose slot) = true)
    (hat : sessionAt s x.ip x.udpPort = some y) (hauth : x.auth = some (q, tag)) (hright : authentic s x (.sessionClose slot) y q tag = true) :
    exec (.sessionClose x slot) s = .next (settle (expireSession (endSession (sequenced (taken s x (.sessionClose slot)) y q) y.id) x)) := by
  have hframe := taken_frameIn s x (.sessionClose slot)
  have hat' : sessionAt (taken s x (.sessionClose slot)) x.ip x.udpPort = some y := by rw [hframe.sessionAt, hat]
  have hgate : authGate (taken s x (.sessionClose slot)) x (.sessionClose slot) = (sequenced (taken s x (.sessionClose slot)) y q, true) := by
    unfold authGate
    rw [if_neg (by simp [h6]), hat', hauth]
    dsimp only
    rw [hframe.authentic, hright, if_pos rfl]
    rfl
  have hclose : servePdu (sequenced (taken s x (.sessionClose slot)) y q) x 0 (.sessionClose slot) =
      endSession (sequenced (taken s x (.sessionClose slot)) y q) y.id := by
    rw [servePdu]
    unfold serveClose
    rw [sessionAt_sequenced hat']
  have hwaits : waits (arrived s x (.sessionClose slot)) x (.sessionClose slot) = false := by
    rw [waits]
    rfl
  rw [exec_of_pduOf rfl, receive_first (by rw [h6]; exact hlive) hfits hserves (by rw [h6]; exact hempty), hwaits, if_neg Bool.false_ne_true, serveOne, hgate]
  dsimp only
  rw [if_pos rfl, hclose]

theorem sessionClosed (s : State) (x : FrameSrc) (u : Pdu) (y : Session) (q : Nat) :
    let t := expireSession (endSession (sequenced (taken s x u) y q) y.id) x
    (∀ z ∈ t.net.sessions, z.id ≠ y.id) ∧ (∀ p ∈ t.stagers, p.2 ≠ .session y.id) ∧ t.md = s.md := by
  have hended := endSession_ended (sequenced (taken s x u) y q) y.id
  obtain ⟨hsessions, hstagers, -⟩ := hended.gone
  have hmd : (endSession (sequenced (taken s x u) y q) y.id).md = s.md := by
    have htaken : (sequenced (taken s x u) y q).md = (taken s x u).md := rfl
    rw [hended.md, htaken, (taken_frameIn s x u).md]
  generalize endSession (sequenced (taken s x u) y q) y.id = t at hsessions hstagers hmd ⊢
  obtain ⟨hfewer, hfewer'⟩ := expireSession_fewer t x
  exact ⟨fun z hz => hsessions z (hfewer z hz), fun p hp => hstagers p (hfewer' p hp), (expireSession_md t x).trans hmd⟩

/-! ## Writes to keys, ports and partners (R205, R223, R231, R232, R250) -/

theorem keyRow_plain : ∀ j : Fin 9, j.val ≠ 0 → (writeRow 0x2700 (0x20 + j.val)).cls ≠ .rws := by decide +kernel

theorem effectSystem_key (s : State) (acc : Accessor) {sub : Nat} (h : 0x21 ≤ sub ∧ sub ≤ 0x24) (v : Nat) (d : List Byte) :
    effectSystem s acc 0x2700 sub v d = (endSlotSessions (putBlob s 0x2700 sub d) (sub - 0x21), 0) := by
  obtain ⟨k, rfl⟩ : ∃ k, sub = 0x21 + k := ⟨sub - 0x21, by omega⟩
  unfold effectSystem
  rw [if_neg (by decide), if_neg (by decide), if_neg (by omega), if_pos rfl]
  have hk : k < 4 := by omega
  interval_cases k <;> rfl

theorem effectSystem_slot (s : State) (acc : Accessor) {sub : Nat} (h : 0x25 ≤ sub ∧ sub ≤ 0x28) (v : Nat) (d : List Byte) :
    effectSystem s acc 0x2700 sub v d = (endSlotSessions (put s 0x2700 sub v) (sub - 0x25), 0) := by
  obtain ⟨k, rfl⟩ : ∃ k, sub = 0x25 + k := ⟨sub - 0x25, by omega⟩
  unfold effectSystem
  rw [if_neg (by decide), if_neg (by decide), if_neg (by omega), if_pos rfl]
  have hk : k < 4 := by omega
  interval_cases k <;> rfl

/-- An accepted write to a key slot. -/
theorem writeCommand_keySlot {s : State} {acc : Accessor} {sub : Nat} {d : List Byte} (h : Accepted s acc 0x2700 sub d) (hlow : 0x21 ≤ sub) (hhigh : sub ≤ 0x28) :
    ∃ p, writeCommand acc 0x2700 sub d s = emit (effectSystem { s with pins := p } acc 0x2700 sub (ofLe d) d).1
      (.answer acc (effectSystem { s with pins := p } acc 0x2700 sub (ofLe d) d).2 []) := by
  have hcls : (writeRow 0x2700 sub).cls ≠ .rws := by
    have := keyRow_plain ⟨sub - 0x20, by omega⟩ (by simp only; omega)
    rwa [show 0x20 + (sub - 0x20) = sub by omega] at this
  have hthreshold : (thresholdOf 0x2700 sub).isSome = false := by
    unfold thresholdOf
    rw [if_neg (by omega), if_neg (by omega), if_neg (by omega), if_neg (by omega)]
    rfl
  have heffect (u : State) : writeEffect u acc (writeRow 0x2700 sub) 0x2700 sub (ofLe d) d = effectSystem u acc 0x2700 sub (ofLe d) d := by
    unfold writeEffect
    rw [if_neg hcls, if_neg (by omega), hthreshold, if_neg Bool.false_ne_true, if_pos (by omega)]
  rw [writeCommand_accepted h rfl, heffect, breakLock_eq]
  exact ⟨_, rfl⟩

/-- A row holds no index past its last. -/
theorem Row.has_lt {r : Row} {i : Nat} (h : r.has i = true) (hstride : 0 < r.stride) : r.base ≤ i ∧ i < r.base + r.stride * r.count := by
  obtain ⟨hbase, -, hcount⟩ := of_decide_eq_true h
  have := (Nat.div_lt_iff_lt_mul hstride).1 hcount
  rw [Nat.mul_comm] at this
  omega

/-- The staged rows of the network lie elsewhere than the ports and the partners. -/
theorem rowsNetwork_staged : ∀ r ∈ rowsNetwork, r.cls = .rws →
    0 < r.stride ∧ (r.base + r.stride * r.count ≤ 0x1110 ∨ 0x1140 ≤ r.base ∧ r.base + r.stride * r.count ≤ 0x6000) := by decide +kernel

/-- The objects of ports and partners are not staged. -/
theorem netRow_plain {i : Nat} (hi : 0x1110 ≤ i ∧ i < 0x1117 ∨ 0x6000 ≤ i ∧ i < 0x6800) (j : Nat) : (writeRow i j).cls ≠ .rws := by
  have hat : rowsAt i = rowsNetwork := by
    unfold rowsAt
    rcases hi with hi | hi
    · rw [if_neg (by omega), if_pos (by omega)]
    · repeat rw [if_neg (by omega)]
      rw [if_pos (by omega)]
  unfold writeRow
  split
  · decide
  · cases hrow : rowOf i j with
    | none => exact (by decide : countRow.cls ≠ .rws)
    | some r =>
      rw [rowOf, hat] at hrow
      have hhas := List.find?_some hrow
      rw [Bool.and_eq_true] at hhas
      intro hrws
      obtain ⟨hstride, hplace⟩ := rowsNetwork_staged r (List.mem_of_find?_eq_some hrow) hrws
      have hrange := Row.has_lt hhas.1 hstride
      generalize r.stride * r.count = len at *
      omega

/-- An accepted write to the network's own objects. -/
theorem writeCommand_net {s : State} {acc : Accessor} {i sub : Nat} {d : List Byte} (h : Accepted s acc i sub d) (hi : 0x1110 ≤ i ∧ i < 0x1117 ∨ 0x6000 ≤ i ∧ i < 0x6800) :
    ∃ p, writeCommand acc i sub d s = emit (effectNet { s with pins := p } i sub (ofLe d) d) (.answer acc 0 []) := by
  have hview : viewOf i = (i, false) := by
    unfold viewOf
    rw [if_neg (by omega), if_neg (by omega), decide_eq_false (by omega)]
  have heffect (u : State) : writeEffect u acc (writeRow i sub) i sub (ofLe d) d = (effectNet u i sub (ofLe d) d, 0) := by
    unfold writeEffect
    rw [if_neg (netRow_plain hi sub), if_pos (by omega)]
  rw [writeCommand_accepted h hview, heffect, breakLock_eq]
  exact ⟨_, rfl⟩

end Sys2Proof.Machine

/-! # A port's and a partner's objects as they are written, and what O31 asks of them -/

namespace Sys2Proof.Machine

/-! ## The objects of a port (R205, R243) -/

/-- A port's queue that empties crosses no THRESHOLD: its watermark's STATE and EXTREME follow, and nothing else. -/
theorem watch_empties (s : State) (i j old : Nat) :
    watch true s i j old 0 = put (put s i j (ofBool (beyond true (get s i (j + 4)) 0))) i (j + 3) (max (get s i (j + 3)) 0) := by
  have hnot : beyond true (get s i (j + 4)) 0 = false := by simp [beyond]
  unfold watch
  dsimp only
  rw [hnot, Bool.and_false, if_neg Bool.false_ne_true, if_pos rfl]

/-- What the restart of a port moves of the objects. -/
def portMarks (p : Nat) : List Nat := [0x20, 0x23, 0x28, 0x2B].map (keyOf (portIdx p))

theorem keepsObjects_watch_empties {s : State} {p j : Nat} (old : Nat) (h : j = 0x20 ∨ j = 0x28) : KeepsObjects (portMarks p) s (watch true s (portIdx p) j old 0) := by
  rw [watch_empties]
  rcases h with rfl | rfl <;>
    exact keepsObjects_trans (keepsObjects_put _ _ _ _ (by simp [portMarks])) (keepsObjects_put _ _ _ _ (by simp [portMarks]))

/-- A port that restarts. -/
structure PortRestarted (p : Nat) (enable : Bool) (s t : State) : Prop where
  rx : (port t p).rx = []
  tx : (port t p).tx = []
  dead : enable = true → (port t p).dead = false
  keeps : KeepsObjects (portMarks p) s t
  md : t.md = s.md
  sheets : t.sheets = s.sheets

theorem restartPort_restarted (s : State) (p : Nat) (enable : Bool) : PortRestarted p enable s (restartPort s p enable) := by
  have hport : port (restartPort s p enable) p =
      { port (setRx (setTx s p []) p []) p with
        dead := (port (setRx (setTx s p []) p []) p).dead && !enable, recovering := false, classical := [], pool := 0 } := port_setPort_same _ _ _
  have hkeeps : KeepsObjects (portMarks p) s (setRx (setTx s p []) p []) :=
    keepsObjects_trans (keepsObjects_watch_empties (s := setPort s p fun x => { x with tx := [] }) _ (.inr rfl))
      (keepsObjects_watch_empties (s := setPort (setTx s p []) p fun x => { x with rx := [] }) _ (.inl rfl))
  rw [port_setRx_same, port_setTx_same] at hport
  have hview : modeView (restartPort s p enable) = modeView s := by simp [restartPort]
  exact ⟨by rw [hport], by rw [hport], fun henable => by rw [hport, henable]; exact Bool.and_false _, hkeeps, congrArg Prod.fst hview, by simp [restartPort]⟩

theorem portMark_of {p j : Nat} (h : keyOf (portIdx p) j ∈ portMarks p) : j ∈ [0x20, 0x23, 0x28, 0x2B] := by
  obtain ⟨k, hk, hkey⟩ := List.mem_map.1 h
  have : k = j := by unfold keyOf at hkey; omega
  exact this ▸ hk

/-- An object of a port as it has been written. -/
structure PortWritten (p sub v : Nat) (s t : State) : Prop where
  get : get t (portIdx p) sub = v
  md : t.md = s.md
  sheets : t.sheets = s.sheets
  enabled : sub = 1 → (port t p).dead = false
  fresh : sub ≤ 7 → (port t p).rx = [] ∧ (port t p).tx = [] ∧ KeepsObjects (keyOf (portIdx p) sub :: portMarks p) s t

theorem effectNet_port (s : State) {p : Nat} (sub v : Nat) (d : List Byte) (hp : p < 7) : PortWritten p sub v s (effectNet s (portIdx p) sub v d) := by
  have hlog := isLogIdx_portIdx hp
  unfold effectNet
  rw [if_neg (by unfold portIdx; omega), if_pos (by unfold portIdx; omega)]
  have hthreshold : thresholdOf (portIdx p) sub = if sub = 0x24 then some (0x20, true) else if sub = 0x2C then some (0x28, true) else none := by
    unfold thresholdOf
    have h1 : ¬ (portIdx p = 0x2520 ∧ sub = 6) := by unfold portIdx; omega
    have h2 : ¬ (0x3000 ≤ portIdx p ∧ portIdx p < 0x30C0 ∧ portIdx p % 0x20 = 0x11 ∧ sub = 5) := by unfold portIdx; omega
    have h3 : 0x1110 ≤ portIdx p ∧ portIdx p < 0x1117 := by unfold portIdx; omega
    simp only [h1, h2, h3, if_false, true_and]
  have hwritten (b : Nat) (w : Nat) (hb : b ≠ sub) (hbig : 7 < sub) :
      PortWritten p sub v s (put (put s (portIdx p) sub v) (portIdx p) b w) :=
    ⟨(get_put_other _ _ (by unfold keyOf; omega)).trans (get_put_same s _ _ hlog), rfl, rfl, fun h => absurd h (by omega), fun h => absurd h (by omega)⟩
  unfold thresholdWrite
  rw [hthreshold]
  by_cases h24 : sub = 0x24
  · subst h24
    exact hwritten 0x20 _ (by decide) (by decide)
  by_cases h2C : sub = 0x2C
  · subst h2C
    exact hwritten 0x28 _ (by decide) (by decide)
  rw [if_neg h24, if_neg h2C]
  dsimp only
  split
  next hlow =>
    have hidx : portIdx p - 0x1110 = p := by unfold portIdx; omega
    rw [hidx]
    obtain ⟨hrx, htx, hdead, hkeeps, hmd, hsheets⟩ := restartPort_restarted (put s (portIdx p) sub v) p (sub == 1)
    have hnot : keyOf (portIdx p) sub ∉ portMarks p := fun h => by
      have := portMark_of h
      simp only [List.mem_cons, List.not_mem_nil, or_false] at this
      omega
    refine ⟨?_, hmd, hsheets, fun h => hdead (beq_iff_eq.2 h), fun _ => ⟨hrx, htx, ?_⟩⟩
    · exact (KeepsObjects.get hkeeps hnot hlog).trans (get_put_same s _ _ hlog)
    · exact fun k hk => (hkeeps k fun h => hk (List.mem_cons_of_mem _ h)).trans (tabFind_tabSet_other _ v fun e => hk (e ▸ List.mem_cons_self))
  next hhigh => exact ⟨get_put_same s _ _ hlog, rfl, rfl, fun h => absurd h (by omega), fun h => absurd h hhigh⟩

/-! ## The port of a partner (R223, R231, R232) -/

/-- A partner whose port has been written. -/
structure PartnerPorted (n v : Nat) (s t : State) : Prop where
  get : get t (partnerIdx n) 2 = v
  state : partnerState t n = if v < 7 then 1 else 0
  md : t.md = s.md
  first : v < 7 → (port t v).pollOrder.head? = some n

theorem partnerPort_ported (s : State) (n v : Nat) : PartnerPorted n v s (partnerPort s n v) := by
  have hlog := isLogIdx_partnerIdx n
  have hmd : (put (partnerHoldEnds s n) (partnerIdx n) 2 v).md = s.md := (netIn_partnerHoldEnds [] s n).md
  have hput : get (put (partnerHoldEnds s n) (partnerIdx n) 2 v) (partnerIdx n) 2 = v := get_put_same _ _ _ hlog
  unfold partnerPort
  dsimp only
  generalize put (partnerHoldEnds s n) (partnerIdx n) 2 v = t at *
  have hto : partnerTo t n (if v < 7 then 1 else 0) = (setPartner t n (if v < 7 then 1 else 0), false) := by
    unfold partnerTo
    dsimp only
    rw [if_neg (by split <;> omega), if_neg (by split <;> omega)]
  have hport : get (setPartner t n (if v < 7 then 1 else 0)) (partnerIdx n) 2 = v := (get_put_other _ _ (by unfold keyOf; omega)).trans hput
  have hstate : partnerState (setPartner t n (if v < 7 then 1 else 0)) n = if v < 7 then 1 else 0 := partnerState_setPartner t n _
  have hmd' : (setPartner t n (if v < 7 then 1 else 0)).md = s.md := hmd
  rw [hto, if_neg Bool.false_ne_true]
  generalize setPartner t n (if v < 7 then 1 else 0) = u at *
  split
  next hv =>
    unfold pollFirst
    rw [hport, if_pos hv]
    refine ⟨hport, hstate, hmd', fun _ => ?_⟩
    rw [port_setPort_same]
    rfl
  next hv => exact ⟨hport, hstate, hmd', fun h => absurd h hv⟩

end Sys2Proof.Machine

/-! # The clauses of O31 -/

namespace Sys2Proof.Machine

/-! ## Frames of a session (R248 to R250) -/

/-- What a hello finds when its frame has been taken. -/
theorem taken_hello {s : State} {x : FrameSrc} {slot : Nat} (u : Pdu) (h : slot < 4) :
    get (taken s x u) 0x2700 (0x25 + slot) = get s 0x2700 (0x25 + slot) ∧ getBlob (taken s x u) 0x2700 (0x21 + slot) = getBlob s 0x2700 (0x21 + slot) := by
  have hframe := taken_frameIn s x u
  exact ⟨hframe.get rfl (calmKey_of_object (by decide) (by omega)), by rw [getBlob, getBlob, hframe.blobs]⟩

theorem helloOpens {s : State} {x : FrameSrc} {slot : Nat} {nonce : List Byte} (u : Pdu) (hslot : slot < 4) (hkind : get s 0x2700 (0x25 + slot) ≠ 0)
    (hkey : getBlob s 0x2700 (0x21 + slot) ≠ []) (hfree : s.net.sessions.length < 8) (hnone : sessionAt s x.ip x.udpPort = none) :
    let t := expireSession (serveHello (taken s x u) x slot nonce) x
    ∃ y, t.net.sessions = y :: s.net.sessions ∧ y.id = s.net.nextSession ∧ y.slot = slot ∧ y.ip = x.ip ∧ y.udpPort = x.udpPort ∧ y.inSeq = 0 ∧
      t.md = s.md ∧ t.net.nextSession = s.net.nextSession + 1 := by
  have hframe := taken_frameIn s x u
  obtain ⟨hkind', hkey'⟩ := taken_hello (s := s) (x := x) u hslot
  have hnext : (taken s x u).net.nextSession = s.net.nextSession := by rw [hframe.net]
  obtain ⟨hsessions, hid, hmd⟩ := serveHello_opens (s := taken s x u) nonce hslot (by rwa [hkind']) (by rwa [hkey']) (by rwa [hframe.sessions])
    (by rwa [hframe.sessionAt])
  rw [expireSession_opened hsessions rfl rfl rfl]
  rw [hframe.sessions] at hsessions
  exact ⟨_, hsessions, hnext, rfl, rfl, rfl, rfl, hmd.trans hframe.md, hid.trans (by rw [hnext])⟩

theorem helloDropped {s : State} {x : FrameSrc} {slot : Nat} {nonce : List Byte} (u : Pdu) (hnone : sessionAt s x.ip x.udpPort = none)
    (h : 4 ≤ slot ∨ get s 0x2700 (0x25 + slot) = 0 ∨ getBlob s 0x2700 (0x21 + slot) = [] ∨ 8 ≤ s.net.sessions.length) :
    let t := expireSession (serveHello (taken s x u) x slot nonce) x
    t.net.sessions = s.net.sessions ∧ get t 0x2700 0x2A = min (get s 0x2700 0x2A + 1) 65535 := by
  have hframe := taken_frameIn s x u
  have hnone' : sessionAt (taken s x u) x.ip x.udpPort = none := by rwa [hframe.sessionAt]
  have hcause : 4 ≤ slot ∨ get (taken s x u) 0x2700 (0x25 + slot) = 0 ∨ getBlob (taken s x u) 0x2700 (0x21 + slot) = [] ∨
      8 ≤ (taken s x u).net.sessions.length := by
    rcases Nat.lt_or_ge slot 4 with hslot | hslot
    · obtain ⟨hkind, hkey⟩ := taken_hello (s := s) (x := x) u hslot
      rw [hkind, hkey, hframe.sessions]
      exact h
    · exact .inl hslot
  have hcount : get (authDrop (taken s x u)) 0x2700 0x2A = min (get (taken s x u) 0x2700 0x2A + 1) 65535 := get_put_same _ _ _ rfl
  rw [hframe.get rfl (calmKey_of_object (by decide) (by decide))] at hcount
  have hsessions : (authDrop (taken s x u)).net.sessions = s.net.sessions := hframe.sessions
  have hnone'' : sessionAt (authDrop (taken s x u)) x.ip x.udpPort = none := hnone'
  rw [serveHello_drops nonce hnone' hcause, expireSession_none hnone'']
  exact ⟨hsessions, hcount⟩

/-! ## Writes that complete -/

theorem keyWritten {s : State} {acc : Accessor} {sub : Nat} {d : List Byte} (h : Accepted s acc 0x2700 sub d) :
    Completes (.keySlotWrite acc sub d) s fun t =>
      (0x21 ≤ sub → sub ≤ 0x24 → getBlob t 0x2700 sub = d ∧ ∀ z ∈ t.net.sessions, z.slot ≠ sub - 0x21) ∧
      (0x25 ≤ sub → sub ≤ 0x28 → get t 0x2700 sub = ofLe d ∧ ∀ z ∈ t.net.sessions, z.slot ≠ sub - 0x25) := by
  refine ⟨writeCommand acc 0x2700 sub d s, rfl, fun hlow hhigh => ?_, fun hlow hhigh => ?_⟩
  · obtain ⟨p, hp⟩ := writeCommand_keySlot h hlow (by omega)
    rw [hp, effectSystem_key _ _ ⟨hlow, hhigh⟩]
    have hended := endSlotSessions_ended (putBlob { s with pins := p } 0x2700 sub d) (sub - 0x21)
    refine ⟨?_, hended.sessions⟩
    have hblobs : getBlob (endSlotSessions (putBlob { s with pins := p } 0x2700 sub d) (sub - 0x21)) 0x2700 sub = d := by
      rw [getBlob, hended.blobs]
      exact tabGet_tabSet_same _ _ _ _
    exact hblobs
  · obtain ⟨p, hp⟩ := writeCommand_keySlot h (by omega) hhigh
    rw [hp, effectSystem_slot _ _ ⟨hlow, hhigh⟩]
    have hended := endSlotSessions_ended (put { s with pins := p } 0x2700 sub (ofLe d)) (sub - 0x25)
    exact ⟨(get_congr hended.dict sub rfl).trans (get_put_same _ _ _ rfl), hended.sessions⟩

theorem portConfigured {s : State} {acc : Accessor} {p : Fin 7} {sub : Nat} {d : List Byte} (h : Accepted s acc (portIdx p.val) sub d) :
    Completes (.portConfigWrite acc p sub d) s fun t => PortWritten p.val sub (ofLe d) s t ∧ Answered acc t := by
  obtain ⟨pins, hp⟩ := writeCommand_net h (.inl (by unfold portIdx; omega))
  obtain ⟨hget, hmd, hsheets, hdead, hfresh⟩ := effectNet_port { s with pins := pins } sub (ofLe d) d p.isLt
  refine ⟨_, congrArg (fun u => Host.Outcome.next (settle u)) hp, ⟨hget, hmd, hsheets, hdead, hfresh⟩, answered_emit _ _⟩

theorem partnerConfigured {s : State} {acc : Accessor} {n : Fin 2048} {d : List Byte} (h : Accepted s acc (partnerIdx n.val) 2 d) :
    Completes (.partnerPortWrite acc n d) s fun t => PartnerPorted n.val (ofLe d) s t ∧ Answered acc t := by
  obtain ⟨pins, hp⟩ := writeCommand_net h (.inr (by unfold partnerIdx; omega))
  have heffect : effectNet { s with pins := pins } (partnerIdx n.val) 2 (ofLe d) d = partnerPort { s with pins := pins } n.val (ofLe d) := by
    unfold effectNet
    rw [if_pos (by unfold partnerIdx; omega), if_pos rfl, show partnerIdx n.val - 0x6000 = n.val by unfold partnerIdx; omega]
  rw [heffect] at hp
  obtain ⟨hget, hstate, hmd, hfirst⟩ := partnerPort_ported { s with pins := pins } n.val (ofLe d)
  exact ⟨_, congrArg (fun u => Host.Outcome.next (settle u)) hp, ⟨hget, hstate, hmd, hfirst⟩, answered_emit _ _⟩

/-! ## O31 -/

/-- A port's errors and the frames that are no TDP frames. -/
theorem canPortErrors {s : State} {p : Fin 4} (hlive : portLive s p.val = true) :
    (∀ n : Fin 2048, (managed s p.val && inWindow s p.val n.val) = false → Completes (.canErrorFrame p n) s fun t => t = sat s (portIdx p.val) 0x15) ∧
    (∀ n : Fin 2048, managed s p.val = true → inWindow s p.val n.val = true → Completes (.canErrorFrame p n) s fun t =>
      partnerState t n.val = 7 ∧ get t (portIdx p.val) 0x15 = min (get s (portIdx p.val) 0x15 + 1) 65535 ∧ t.md = s.md) ∧
    Completes (.nonTdpFrame p) s fun t =>
      get t (portIdx p.val) 0x18 = min (get s (portIdx p.val) 0x18 + 1) 65535 ∧ get t (portIdx p.val) 0x10 = (get s (portIdx p.val) 0x10 + 1) % 2 ^ 32 ∧
      KeepsObjects [keyOf (portIdx p.val) 0x10, keyOf (portIdx p.val) 0x18] s t ∧ t = { s with dict := t.dict, out := t.out } := by
  have hp : p.val < 7 := by omega
  refine ⟨fun n hout => ⟨_, ?_, rfl⟩, fun n hmanaged hin => ⟨partnerGoes (sat s (portIdx p.val) 0x15) n.val 7, ?_, errorFrame_conflict s n.val hp⟩,
    ⟨discardFrame s p.val, ?_, discardFrame_counts s hp⟩⟩
  · simp only [exec, execCanErrorFrame, hlive, hout]
    rfl
  · simp only [exec, execCanErrorFrame, hlive, hmanaged, hin]
    rfl
  · simp only [exec, execNonTdpFrame, hlive]
    rfl

/-- What is not TDP on any port, and ETH's own protocols. -/
theorem foreignFrames {s : State} {p : Fin 7} (hlive : portLive s p.val = true) :
    (Completes (.invalidTdpFrame p false) s fun t => t = sat (bump (acknowledgeCan s p.val) (portIdx p.val) 0x10) (portIdx p.val) 0x18) ∧
    Completes (.invalidTdpFrame p true) s fun t => t = sat (bump s (portIdx p.val) 0x10) 0x2700 0x2A := by
  refine ⟨⟨_, ?_, rfl⟩, ⟨_, ?_, rfl⟩⟩ <;>
  · simp only [exec, execInvalidTdpFrame, hlive]
    rfl

theorem busOff_completes {s : State} {p : Fin 4} (hlive : portLive s p.val = true) :
    ((∀ b, (port s p.val).lastBusOff = some b → ticksS 10 < s.time - b) → Completes (.busOff p) s fun t =>
      (port t p.val).recovering = true ∧ (port t p.val).lastBusOff = some s.time ∧ serving t .canPort p.val = true ∧
      get t (portIdx p.val) 0x16 = min (get s (portIdx p.val) 0x16 + 1) 65535 ∧ t.md = s.md) ∧
    (∀ b, (port s p.val).lastBusOff = some b → s.time - b ≤ ticksS 10 → Completes (.busOff p) s fun t =>
      (port t p.val).dead = true ∧ (port t p.val).rx = [] ∧ (port t p.val).tx = [] ∧ portEnabled t p.val = false) := by
  refine ⟨fun hfirst => ⟨_, exec_busOff_first hlive hfirst, busOffNoted_recovers s (by omega)⟩, fun b hlast hagain => ⟨_, exec_busOff_again hlive hlast hagain, ?_⟩⟩
  have hoff := portDies_off (doubleFault (busOffNoted s p.val) .canPort p.val 0 4 (portIdx p.val) 0x16) p.val
  exact ⟨hoff.dead, hoff.rx, hoff.tx, hoff.portEnabled⟩

theorem canStb_low_iff (s : State) (p : Nat) : canStb s p = false ↔ portEnabled s p = true ∧ portAwake s p = true := by
  rw [canStb, Bool.not_eq_false', Bool.and_eq_true]

/-- Settles O31. The ports' own rules and those of the sessions are the lemmas above, clause by clause. -/
theorem portsAndSessions : Obligations.PortsAndSessions := by
  unfold Obligations.PortsAndSessions
  refine ⟨fun s => ⟨fun p hlive => ?_, fun p hrecovering => ?_, fun p hlive => foreignFrames hlive, fun ip mac hlive => ?_, canStb_low_iff s, fun ip d hlive => ?_⟩,
    fun s => ⟨fun x slot nonce h6 hfits hlive hserves hempty hwaits hnone hauth => ?_, fun x slot q tag y h6 hlive hserves hempty hfits hat hauth hright => ?_,
      fun id hopen => ?_, fun acc sub d h => keyWritten h, fun acc p sub d h => ?_, fun acc n d h => ?_⟩⟩
  · obtain ⟨hfirst, hagain⟩ := busOff_completes hlive
    exact ⟨hfirst, hagain, canPortErrors hlive⟩
  · refine ⟨_, ?_, busOffEnded s p.val⟩
    simp only [exec, execBusOffRecoveryComplete, hrecovering]
    rfl
  · refine ⟨_, ?_, rfl⟩
    simp only [exec, execArpRequest, hlive, beq_self_eq_true]
    rfl
  · refine ⟨_, ?_, rfl⟩
    simp only [exec, execIcmpEchoRequest, hlive]
    rfl
  · have hexec := exec_hello hfits (by rwa [h6]) hserves (by rwa [h6]) hwaits hnone hauth
    exact ⟨fun hslot hkind hkey hfree => ⟨_, hexec, helloOpens _ hslot hkind hkey hfree hnone⟩, fun hcause => ⟨_, hexec, helloDropped _ hnone hcause⟩⟩
  · exact ⟨_, exec_close h6 hlive hserves hempty hfits hat hauth hright, sessionClosed s x _ y q⟩
  · refine ⟨endSession s id, ?_, ?_⟩
    · simp only [exec, execSessionTimeout, hopen]
      rfl
    · have hended := endSession_ended s id
      obtain ⟨hsessions, hstagers, haccs⟩ := hended.gone
      exact ⟨hsessions, hstagers, haccs, hended.dict, hended.md⟩
  · obtain ⟨t, hexec, hwritten, hanswered⟩ := portConfigured h
    exact ⟨t, hexec, hwritten.get, hanswered, hwritten.md, hwritten.sheets, hwritten.enabled, hwritten.fresh⟩
  · obtain ⟨t, hexec, hwritten, hanswered⟩ := partnerConfigured h
    exact ⟨t, hexec, hwritten.get, hwritten.state, hanswered, hwritten.md, hwritten.first⟩

end Sys2Proof.Machine
